-- ==== Sys2Proof/Word.lean ====
section
/-! DEFINITION. The word types of the model and their plainest arithmetic.

The instants of the model come in two scales.  `Ps` counts picoseconds of physical time since the model's
origin (TCLK is 4,000 ps, FCLK 1,250 ps, NCLK 2,560 ps, ECLK 1,000 ps, the common grid 20,000 ps; R33, R48).
`Stamp` is a value of the time base (R109) in units of 2⁻¹⁶ ns, taken modulo 2⁴⁸ seconds. -/

namespace Sys2Proof

abbrev Byte := BitVec 8
abbrev Word32 := BitVec 32
/-- Picoseconds of physical time. -/
abbrev Ps := Nat
/-- A value of the time base in units of 2⁻¹⁶ ns (R109). -/
abbrev Stamp := Nat

/-- A 32-bit counter that saturates at 0xFFFF_FFFF. -/
abbrev Cnt := Nat

/-- A sparse table keyed by number: keys strictly rising. -/
abbrev Tab (α : Type) := List (Nat × α)

/-- IEEE 754 single precision, as its 32 bits. -/
abbrev F32 := BitVec 32
/-- IEEE 754 double precision, as its 64 bits. -/
abbrev F64 := BitVec 64

/-- Units of 2⁻¹⁶ ns in one nanosecond. -/
def unitsPerNs : Nat := 65536
/-- Units of 2⁻¹⁶ ns in one second. -/
def unitsPerSec : Nat := 65536000000000
/-- The modulus of a `Stamp`: 2⁴⁸ seconds. -/
def stampMod : Nat := 281474976710656 * 65536000000000

end Sys2Proof
end

