-- ==== Sys2Proof/Syntax.lean ====
section
/-! DEFINITION. The commands and events of the block: `Instr`, one constructor per row of the table of operations,
and the operand types they carry.

Every constructor's first operand `dt` is the physical time, in picoseconds, between the row before it and this row
(log entry 1).  The rows of the command groups carry the command packet that the supervisor executes (`Packet`).
The event rows carry what the outside world supplies: pins, bytes on a wire, answers of another chip. -/

namespace Sys2Proof

/-- A command packet past its arrival checks: the interface (0 RING, 1 MGMT, 2 SVC; R466), TAG, EPOCH and the
parameter bytes (R464). -/
structure Packet where
  ifc    : Nat
  tag    : Nat
  epoch  : Nat
  params : List Byte
  deriving DecidableEq, Repr

/-- Levels of the five strap balls (R71). -/
structure StrapPins where
  pairRole : Bool
  fedId1   : Bool
  fedId0   : Bool
  bootSrc  : Bool
  svcEn    : Bool
  deriving DecidableEq, Repr

/-- The 14 clock domains, in the order of the table of R48. -/
inductive ClockDomain where
  | refclk | tclk | eclk | fclk | mclk | nclk | pclk | sclk | modclk | aclk | gclk | vclk | qclk | kclk
  deriving DecidableEq, Repr

/-- An access of the item that an engine runs: it reads the 64-byte line of DRAM of a number, which takes the place of the line
in position `evict` of a full L1; it writes the n-th 32-bit word of its results; it writes a byte of local data memory (R356,
R372). -/
inductive EngineAcc where
  | load (line evict : Nat)
  | store (n : Nat)
  | keep (addr : Nat) (b : Byte)
  deriving DecidableEq, Repr

/-- What the reserve domain holds, by item, for its scrub (R526 class 12, R583). -/
inductive ReserveItem where
  | timeBase | energyWord (line : Nat) (set : Nat) (acc : Nat) | energyOther | epochs | nextJseq | lastFault | safeEntries
  | autoLeaves | clearCount | resetHistory | utc | reserveIncrement
  deriving DecidableEq, Repr

/-- A DMA read's answer: bytes of host memory, the window read by the engine itself, or a failure (R428). -/
inductive ReadData where
  | host (bytes : List Byte) | window | hostError | dramError
  deriving DecidableEq, Repr

/-- The end of a DMA read: the `nth` of its channel's reads in flight, oldest first, and what it brought (R416, R417). -/
structure ReadDone where
  nth  : Nat := 0
  data : ReadData
  deriving DecidableEq, Repr

/-- What a PCIe link that trains up, or a write of its Device Control, brings: Bus Master Enable, Max_Payload_Size and
Max_Read_Request_Size in bytes (R417, R452, R454). -/
structure PcieSettings where
  busMaster : Bool
  payload   : Nat := 128
  readSize  : Nat := 512
  deriving DecidableEq, Repr

/-- The SecTAG of a received frame: none, or the member of its secure channel, its association number and its packet
number, with whether the integrity check holds: the cryptography itself is an input (R164). -/
inductive MacsecVerdict where
  | untagged
  | tagged (member : Nat) (an : Nat) (pn : Nat) (icvOk : Bool)
  deriving DecidableEq, Repr

/-- What the line carries between two gaps (R404): a whole frame; of a preempted frame the first mPacket or a later one,
with whether it is the last; or an mPacket of the verify procedure, which holds no frame. -/
inductive MPacket where
  | whole | first | later (last : Bool) | verify
  deriving DecidableEq, Repr

/-- A frame as the line side hands it on: the octets from the destination address, after MACsec removal and without the
FCS; the length on the wire with FCS; whether the FCS checks; the RS-FEC codewords corrected and found uncorrectable,
and whether the frame overlaps an uncorrectable one; its SecTAG (R163). Of an mPacket that is no whole frame, `octets` are
those that it carries, and the other fields of the last one are those of the frame it completes (R404). -/
structure LineFrame where
  mpacket     : MPacket := .whole
  octets      : List Byte
  wireLength  : Nat
  fcsOk       : Bool
  fecCorr     : Nat
  fecUncorr   : Nat
  fecOverlap  : Bool
  macsec      : MacsecVerdict
  deriving DecidableEq, Repr

/-- What the device takes from a received MKPDU (R565): the peer's member number, its key server priority,
whether it lists the device as a live peer, whether its ICV checks. -/
structure Mkpdu where
  peer     : Nat
  priority : Nat
  icvOk    : Bool
  deriving DecidableEq, Repr

/-- A PTP Sync: its domain and sender, how long before the row its message timestamp point passed the pins, the origin
time of a one-step master, the correction field in 2⁻¹⁶ ns, the two-step flag, the sequence number and
logMessageInterval (R122, R127, R130, R132). -/
structure PtpSync where
  domain   : Nat
  master   : Nat
  ago      : Ps
  origin   : Stamp
  corr     : Int
  twoStep  : Bool
  seq      : Nat
  logIntv  : Int
  deriving DecidableEq, Repr

/-- The Follow_Up of a two-step Sync. -/
structure PtpFollowUp where
  domain : Nat
  master : Nat
  origin : Stamp
  corr   : Int
  seq    : Nat
  deriving DecidableEq, Repr

/-- An Announce: its domain, the clock identity and the data set of the best master clock algorithm packed in its order
of comparison (lower is better), the announce interval in milliseconds, currentUtcOffset, leap61, leap59, and
grandmasterTimeInaccuracy and networkTimeInaccuracy of the IEEE_C37_238 TLV when it is there (R118, R127 to R129). -/
structure PtpAnnounce where
  domain     : Nat
  master     : Nat
  rank       : Nat
  intervalMs : Nat
  utcOffset  : Int
  leap61     : Bool
  leap59     : Bool
  tlv        : Option (Nat × Nat)
  deriving DecidableEq, Repr

/-- A step of the peer-delay mechanism (R127, R128, R132): a request to answer, with its domain, its sequence number, its
sender's port identity and how long ago it passed the pins; the start of an exchange of the device's own; or its end, with
the sequence number of the request that is answered, the two stamps of the peer and how long ago the answer passed the
pins. -/
inductive PtpPeerDelay where
  | request (domain : Nat) (seq : Nat) (port : List Byte) (ago : Ps)
  | start
  | complete (domain : Nat) (seq : Nat) (t2 : Stamp) (t3 : Stamp) (gotAgo : Ps)
  deriving DecidableEq, Repr

/-- A decoded IRIG-B frame (R125): how long ago the leading edge of its frame reference marker passed the pin, the day of
year, hour, minute and second it encodes (second 60 of a minute is the inserted one, R120), the two digits of the year of a
B006 frame; or an error of parity, marker or BCD range. -/
inductive Irig where
  | bad
  | good (ago : Ps) (day : Nat) (hour : Nat) (minute : Nat) (second : Nat) (year : Option Nat)
  deriving DecidableEq, Repr

/-- The end of a REF10_IN interval (R122): how long ago each rising edge of the interval passed the pin, oldest first; or a
loss that the pin shows before the interval ends. -/
inductive Ref10 where
  | phase (ages : List Ps) | frequencyOut | noEdge
  deriving DecidableEq, Repr

/-- How a peer frame without a CRC field of its own among its operands arrives: its LSEQ, and whether LENGTH and CRC-32C of
its header and payload agree with it (R490, R493). -/
structure PeerSeq where
  lseq : Nat
  ok   : Bool := true
  deriving DecidableEq, Repr

/-- The link on which a peer frame arrives, and whether its LENGTH and its CRC-32C agree with it (R490, R493). -/
structure PeerIn where
  link : Nat
  ok   : Bool := true
  deriving DecidableEq, Repr

/-- A HELLO frame (R491), and whether its LENGTH and its CRC-32C agree with it (R490, R493). -/
structure HelloMsg where
  ok        : Bool := true
  lseq      : Nat
  position  : Nat
  pairRole  : Bool
  serial    : Nat
  fwVer     : Nat
  catVer    : Nat
  mode      : Nat
  pairState : Nat
  deriving DecidableEq, Repr

/-- A HEARTBEAT frame (R509). -/
structure HeartbeatMsg where
  hbSeq       : Nat
  mode        : Nat
  pairState   : Nat
  yield       : Bool
  mirrored    : Bool
  servoLocked : Bool
  digest      : Nat
  tqCode      : Nat
  marks       : List (Nat × Nat)
  deriving DecidableEq, Repr

/-- The mirror items of R504, as carried over the mirror link; the end of a full mirror. -/
inductive MirrorItem where
  | context (index : Nat) (bytes : List Byte)
  | energy (bytes : List Byte)
  | revision (zone : Nat) (seq : Nat) (rev : Nat)
  | anchor (zone : Nat) (tick : Stamp) (seq : Nat)
  | alarm (ald : Nat) (state : Nat) (count : Nat) (seq : Nat)
  | journal (entry : List Byte)
  | fullDone
  deriving DecidableEq, Repr

/-- A supervisor-terminated TCP connection: of a stream (R194) or of an egress session (R398). -/
inductive TcpConn where
  | stream (index : Nat) | session (number : Nat)
  deriving DecidableEq, Repr

/-- A TCP segment: its data (in order), the acknowledged octet count, the window, and FIN or RST of the peer (R399). -/
structure TcpSegment where
  payload : List Byte
  acked   : Nat
  window  : Nat
  close   : Bool
  reset   : Bool
  deriving DecidableEq, Repr

/-- The operations and events of the block, one constructor per row of the table. -/
inductive Instr where
  /-- GET_IDENTITY (R482): Returns identity, straps, mode, lifecycle, status, interface epochs and DRAM capacity. -/
  | getIdentity (dt : Ps) (q : Packet)
  /-- SYS_SET_MODE (R571): Changes the device mode, or with target 0xFF only reports mode, reset history and stored settings size. -/
  | sysSetMode (dt : Ps) (q : Packet)
  /-- SYS_RESET (R585): Replies, then causes a WARM reset once the reply has left. -/
  | sysReset (dt : Ps) (q : Packet)
  /-- SYS_COMMIT (R581): Writes the running settings with RUN_AT_BOOT to the other settings copy, marks it newest and commits the journal. -/
  | sysCommit (dt : Ps) (q : Packet)
  /-- SYS_JOURNAL_READ (R482): Returns journal entries from a given JSEQ in JSEQ order. -/
  | sysJournalRead (dt : Ps) (q : Packet)
  /-- SYS_JOURNAL_ROUTE (R487): Routes each new journal entry to a chosen record queue, or to none. -/
  | sysJournalRoute (dt : Ps) (q : Packet)
  /-- SYS_IF_RESET (R482): Performs an interface reset of another command interface. -/
  | sysIfReset (dt : Ps) (q : Packet)
  /-- SYS_SET_MGMT (R482): Sets the management port addresses, VLAN and PHY address, which take effect after the reply has left. -/
  | sysSetMgmt (dt : Ps) (q : Packet)
  /-- SYS_GET_COUNTERS (R488): Returns the interface and journal counters, optionally clearing them. -/
  | sysGetCounters (dt : Ps) (q : Packet)
  /-- SYS_ECHO (R482): Returns the parameter bytes unchanged. -/
  | sysEcho (dt : Ps) (q : Packet)
  /-- MGMT_SETTINGS_APPLY (R482): Applies accepted management port settings once the reply has left. -/
  | mgmtSettingsApply (dt : Ps)
  /-- TIME_GET_STATUS (R159): Returns time status, time, error estimate, offset, frequency adjustment and unlocked seconds. -/
  | timeGetStatus (dt : Ps) (q : Packet)
  /-- TIME_SET_SOURCES (R123): Sets the source priority list, source inaccuracies and growth rates, and the IRIG format and offset. -/
  | timeSetSources (dt : Ps) (q : Packet)
  /-- TIME_SET_SERVO (R133): Sets the servo gains, thresholds, holdover and reserve growth rates and SYNC_LIMIT. -/
  | timeSetServo (dt : Ps) (q : Packet)
  /-- TIME_SET_PORT (R131): Sets the PTP enable, latency and asymmetry corrections and late policy of a WAN port. -/
  | timeSetPort (dt : Ps) (q : Packet)
  /-- TIME_SET_PTP (R127): Sets the PTP profile, domain and VLAN. -/
  | timeSetPtp (dt : Ps) (q : Packet)
  /-- TIME_SET (R160): Steps the time base to a given value, sets E and TIME_VALID, and acts on closes and launches. -/
  | timeSet (dt : Ps) (q : Packet)
  /-- TIME_SET_UTC (R610): Sets the UTC offset and leap flags, or is only journaled while PTP is selected. -/
  | timeSetUtc (dt : Ps) (q : Packet)
  /-- EVT_CONFIG (R148): Sets event edge selection, event record destination and PPS_IN cable delay. -/
  | evtConfig (dt : Ps) (q : Packet)
  /-- EVT_READ (R150): Returns and removes up to 32 event records from the event FIFO, oldest first. -/
  | evtRead (dt : Ps) (q : Packet)
  /-- PPS_OUT_CONFIG (R153): Sets the PPS_OUT offset, width and gate code. -/
  | ppsOutConfig (dt : Ps) (q : Packet)
  /-- TIME_GET_COUNTERS (R161): Returns the time-group counters. -/
  | timeGetCounters (dt : Ps) (q : Packet)
  /-- STREAM_ADD (R177): Binds a free context to a key and moves it to AWAIT_CFG at the next grid edge. -/
  | streamAdd (dt : Ps) (q : Packet)
  /-- STREAM_REMOVE (R193): Returns a context to FREE, increments GEN and removes it from its zone. -/
  | streamRemove (dt : Ps) (q : Packet)
  /-- STREAM_REBIND (R191): Rebinds a context at the rebind instant, increments GEN and opens a quarantine for an unchanged address. -/
  | streamRebind (dt : Ps) (q : Packet)
  /-- STREAM_LOAD_CONFIG (R184): Checks a given CFG-2 or CFG-3 frame and accepts or refuses it for a context. -/
  | streamLoadConfig (dt : Ps) (q : Packet)
  /-- STREAM_GET (R181): Returns the 256-byte stream context. -/
  | streamGet (dt : Ps) (q : Packet)
  /-- STREAM_GET_COUNTERS (R203): Returns the eight per-stream counters, optionally clearing them. -/
  | streamGetCounters (dt : Ps) (q : Packet)
  /-- STREAM_SEND_COMMAND (R187): Sends a C37.118 command frame to a stream's source. -/
  | streamSendCommand (dt : Ps) (q : Packet)
  /-- INGRESS_SET_PORT (R162): Sets a WAN port's mode, RS-FEC, MACsec, replay window and addresses. -/
  | ingressSetPort (dt : Ps) (q : Packet)
  /-- INGRESS_SET_RINGS (R198): Enables or disables host receive rings, sets buffer sizes and the class map. -/
  | ingressSetRings (dt : Ps) (q : Packet)
  /-- INGRESS_GET_COUNTERS (R205): Returns the port and device ingress counters. -/
  | ingressGetCounters (dt : Ps) (q : Packet)
  /-- INGRESS_SET_STREAM_PORTS (R167): Sets the set of stream UDP destination ports. -/
  | ingressSetStreamPorts (dt : Ps) (q : Packet)
  /-- INGRESS_JOIN_GROUP (R170): Joins or leaves a multicast group on a WAN port. -/
  | ingressJoinGroup (dt : Ps) (q : Packet)
  /-- ZONE_CONFIG (R206): Sets a zone's rate, wait, slot class, trigger, hold and revision settings, subject to resource limits. -/
  | zoneConfig (dt : Ps) (q : Packet)
  /-- ZONE_DELETE (R246): Deletes a stopped zone whose staged areas are no longer held, freeing its members and memory. -/
  | zoneDelete (dt : Ps) (q : Packet)
  /-- ZONE_START (R211): Moves a zone to RUNNING and fixes its first tick. -/
  | zoneStart (dt : Ps) (q : Packet)
  /-- ZONE_STOP (R211): Stops a zone's closes at the next grid edge and discards stored ticks and pending revisions. -/
  | zoneStop (dt : Ps) (q : Packet)
  /-- ZONE_ADD_STREAM (R212): Adds a context or local stream to a zone from its effective tick. -/
  | zoneAddStream (dt : Ps) (q : Packet)
  /-- ZONE_REMOVE_STREAM (R212): Removes a stream from its zone from its effective tick. -/
  | zoneRemoveStream (dt : Ps) (q : Packet)
  /-- ZONE_GET (R245): Returns a zone's state, settings, sizes and last SEQ. -/
  | zoneGet (dt : Ps) (q : Packet)
  /-- ZONE_GET_COUNTERS (R247): Returns a zone's counters, optionally clearing them. -/
  | zoneGetCounters (dt : Ps) (q : Packet)
  /-- CONST_READ (R246): Returns the header and requested slots of a held constellation revision. -/
  | constRead (dt : Ps) (q : Packet)
  /-- ALIGN_GET_STATUS (R245): Returns aligner memory use, revision queue entries and device counters. -/
  | alignGetStatus (dt : Ps) (q : Packet)
  /-- FE_SET_PRESET (R252): Selects the filter preset, FIR phase option and FNOM, restarting every enabled chain. -/
  | feSetPreset (dt : Ps) (q : Packet)
  /-- FE_SET_SAMPLING (R251): Sets each modulator input's enable and sampling instant. -/
  | feSetSampling (dt : Ps) (q : Packet)
  /-- FE_SET_CAL (R257): Sets an input's calibration OFFSET, GAIN and DELAY from its next output sample. -/
  | feSetCal (dt : Ps) (q : Packet)
  /-- FE_SET_RANGE (R269): Sets a current channel to AUTO, forced HI or forced LO range. -/
  | feSetRange (dt : Ps) (q : Packet)
  /-- FE_SET_DETECTORS (R273): Sets a logical channel's peak, RMS and envelope detector parameters. -/
  | feSetDetectors (dt : Ps) (q : Packet)
  /-- FE_SET_LOCAL_STREAM (R277): Configures or enables a local phasor stream, subject to the ingress budget. -/
  | feSetLocalStream (dt : Ps) (q : Packet)
  /-- FE_GET_STATUS (R283): Returns the preset, input states, ranges, ZC_LOST and local stream enables. -/
  | feGetStatus (dt : Ps) (q : Packet)
  /-- FE_GET_DETECTORS (R283): Returns a channel's detector results, frequency and last crossing. -/
  | feGetDetectors (dt : Ps) (q : Packet)
  /-- FE_GET_COUNTERS (R284): Returns the front-end counters. -/
  | feGetCounters (dt : Ps) (q : Packet)
  /-- FE_GET_LOCAL_CONFIG (R283): Returns a CFG-2 frame describing a local stream. -/
  | feGetLocalConfig (dt : Ps) (q : Packet)
  /-- ENERGY_SET_LINE (R285): Assigns channels to a line's phases and sets P_START, restarting affected windows. -/
  | energySetLine (dt : Ps) (q : Packet)
  /-- ENERGY_SET_INTERVAL (R303): Sets the snapshot interval. -/
  | energySetInterval (dt : Ps) (q : Packet)
  /-- ENERGY_SET_RESERVE (R306): Sets a line's UF_LIMIT and UF_QUAL. -/
  | energySetReserve (dt : Ps) (q : Packet)
  /-- ENERGY_READ (R315): Returns a line's readings and counts, all taken at one tap boundary. -/
  | energyRead (dt : Ps) (q : Packet)
  /-- ENERGY_READ_RESERVE (R314): Returns AH readings, UNMETERED_FLOW and RESERVE_TIME, optionally clearing UNMETERED_FLOW. -/
  | energyReadReserve (dt : Ps) (q : Packet)
  /-- ENERGY_READ_SNAPSHOT (R314): Returns an interval snapshot of a given age. -/
  | energyReadSnapshot (dt : Ps) (q : Packet)
  /-- ENERGY_GET_STATUS (R314): Returns line states, directions, flags and energy counts. -/
  | energyGetStatus (dt : Ps) (q : Packet)
  /-- ENERGY_READ_EVENTS (R308): Returns and removes up to 16 energy events. -/
  | energyReadEvents (dt : Ps) (q : Packet)
  /-- ENERGY_CLEAR (R316): Clears a line's accumulators, counts and flags, and increments CLEAR_COUNT. -/
  | energyClear (dt : Ps) (q : Packet)
  /-- COH_SET_VERTICES (R318): Writes vertex table entries. -/
  | cohSetVertices (dt : Ps) (q : Packet)
  /-- COH_SET_EDGES (R319): Writes edge table entries after range checks. -/
  | cohSetEdges (dt : Ps) (q : Packet)
  /-- COH_SET_ZONE (R320): Sets a zone's coherency settings and vertex and edge ranges. -/
  | cohSetZone (dt : Ps) (q : Packet)
  /-- COH_GET_RESULT (R326): Returns the latest or last-raise coherency result and labels of a zone. -/
  | cohGetResult (dt : Ps) (q : Packet)
  /-- OSC_SET_BANDS (R329): Sets a zone's band edges, detector parameters and FILL_LIMIT, resetting its signals. -/
  | oscSetBands (dt : Ps) (q : Packet)
  /-- OSC_SET_SIGNALS (R327): Writes band-monitor signal entries, resetting them. -/
  | oscSetSignals (dt : Ps) (q : Packet)
  /-- OSC_SET_THRESHOLDS (R332): Sets the THR_ON thresholds of a threshold group. -/
  | oscSetThresholds (dt : Ps) (q : Packet)
  /-- OSC_GET_SIGNAL (R333): Returns a signal's 18 band results with validity. -/
  | oscGetSignal (dt : Ps) (q : Packet)
  /-- ALARM_SET (R340): Writes an alarm definition, which enters ARMING with its count and STATE_NO at 0. -/
  | alarmSet (dt : Ps) (q : Packet)
  /-- ALARM_SET_DEST (R345): Sets an alarm destination's addressing, DSCP and REPEAT_MAX. -/
  | alarmSetDest (dt : Ps) (q : Packet)
  /-- ALARM_GET_STATUS (R353): Returns every definition's state and the released pins. -/
  | alarmGetStatus (dt : Ps) (q : Packet)
  /-- ALARM_ACK (R339): Moves a LATCHED definition, or all, to IDLE. -/
  | alarmAck (dt : Ps) (q : Packet)
  /-- ALARM_TEST (R344): Starts or ends a test that shows a definition as raised for a set time. -/
  | alarmTest (dt : Ps) (q : Packet)
  /-- DETECT_GET_COUNTERS (R355): Returns the detection and alarm counters. -/
  | detectGetCounters (dt : Ps) (q : Packet)
  /-- KERNEL_GET_CATALOGUE (R384): Returns the catalogue version and per-kernel properties. -/
  | kernelGetCatalogue (dt : Ps) (q : Packet)
  /-- KERNEL_SET_PARAMS (R375): Writes a chunk of a parameter table, which takes effect on a checked LAST chunk. -/
  | kernelSetParams (dt : Ps) (q : Packet)
  /-- KERNEL_SET_FLOW (R360): Sets a flow's settings subject to queue, state, load and chain admission. -/
  | kernelSetFlow (dt : Ps) (q : Packet)
  /-- KERNEL_GET_FLOW (R379): Returns a flow's settings and part costs. -/
  | kernelGetFlow (dt : Ps) (q : Packet)
  /-- KERNEL_READ_RESULT (R378): Returns a readable result slot header and body bytes. -/
  | kernelReadResult (dt : Ps) (q : Packet)
  /-- KERNEL_GET_STATUS (R383): Returns aggregate engine and budget-use figures. -/
  | kernelGetStatus (dt : Ps) (q : Packet)
  /-- KERNEL_GET_COUNTERS (R385): Returns the scheduler counters. -/
  | kernelGetCounters (dt : Ps) (q : Packet)
  /-- EGRESS_SET_SESSION (R386): Sets and enables a disabled session subject to the frame bound, or disables a session. -/
  | egressSetSession (dt : Ps) (q : Packet)
  /-- EGRESS_SET_PORT (R406): Sets a port's MTU, preemption enable and pause handling. -/
  | egressSetPort (dt : Ps) (q : Packet)
  /-- EGRESS_GET_SESSION (R414): Returns a session's settings, state, sent mark and TCP peer. -/
  | egressGetSession (dt : Ps) (q : Packet)
  /-- EGRESS_GET_CONFIG (R397): Returns a piece of the session's configuration frames in force. -/
  | egressGetConfig (dt : Ps) (q : Packet)
  /-- EGRESS_GET_COUNTERS (R415): Returns the egress counters. -/
  | egressGetCounters (dt : Ps) (q : Packet)
  /-- EGRESS_SEND_CFG (R396): Sends a session's configuration frame sequence. -/
  | egressSendCfg (dt : Ps) (q : Packet)
  /-- PAIR_SET (R501): Enables or disables pairing in COMMISSION. -/
  | pairSet (dt : Ps) (q : Packet)
  /-- PAIR_GET_STATUS (R520): Returns pair state, partner data and the partner's journal tail. -/
  | pairGetStatus (dt : Ps) (q : Packet)
  /-- PAIR_SET_REVERT (R515): Sets reversion and its hold time. -/
  | pairSetRevert (dt : Ps) (q : Packet)
  /-- PAIR_SWITCHOVER (R519): Starts a handover at once without hold time. -/
  | pairSwitchover (dt : Ps) (q : Packet)
  /-- FED_SET (R495): Enables or disables the federation links in COMMISSION. -/
  | fedSet (dt : Ps) (q : Packet)
  /-- FED_GET_STATUS (R520): Returns peer link states, FED_PRESENT and forwarding entries in use. -/
  | fedGetStatus (dt : Ps) (q : Packet)
  /-- PAIR_GET_COUNTERS (R521): Returns the peer link and pair counters. -/
  | pairGetCounters (dt : Ps) (q : Packet)
  /-- INTEG_GET_STATUS (R548): Returns engines in service, ALM_FAULT, flags, LAST_FAULT and scrub progress. -/
  | integGetStatus (dt : Ps) (q : Packet)
  /-- INTEG_READ_LOG (R548): Returns and removes integrity log entries. -/
  | integReadLog (dt : Ps) (q : Packet)
  /-- INTEG_SET_POLICY (R546): Sets TABLE_POLICY, the temperature warning limit and AUTO_LEAVE. -/
  | integSetPolicy (dt : Ps) (q : Packet)
  /-- INTEG_INJECT (R548): Injects a fault that then acts as a real one. -/
  | integInject (dt : Ps) (q : Packet)
  /-- INTEG_LEAVE_SAFE (R547): Leaves SAFE by a WARM reset after the reply, if no blocking condition holds. -/
  | integLeaveSafe (dt : Ps) (q : Packet)
  /-- DIAG_GET_MONITORS (R540): Returns rail voltages, clock frequency errors, temperatures and ALM levels. -/
  | diagGetMonitors (dt : Ps) (q : Packet)
  /-- INTEG_GET_COUNTERS (R549): Returns the integrity counters. -/
  | integGetCounters (dt : Ps) (q : Packet)
  /-- SEC_GET_LIFECYCLE (R561): Returns lifecycle data and a fresh nonce that replaces the previous one. -/
  | secGetLifecycle (dt : Ps) (q : Packet)
  /-- SEC_SET_LIFECYCLE (R556): Blows the target fuse group after signature checks, replies and performs a WARM reset. -/
  | secSetLifecycle (dt : Ps) (q : Packet)
  /-- SEC_SET_OWNER_ROOT (R559): Programs the next owner root slot after signature checks. -/
  | secSetOwnerRoot (dt : Ps) (q : Packet)
  /-- SEC_SET_MKA (R566): Writes, clears or selects a CAK slot of a port. -/
  | secSetMka (dt : Ps) (q : Packet)
  /-- SEC_GET_MKA_STATUS (R569): Returns a port's CAK slots and MKA state. -/
  | secGetMkaStatus (dt : Ps) (q : Packet)
  /-- UPD_BEGIN (R597): Opens the update session after checking the image header. -/
  | updBegin (dt : Ps) (q : Packet)
  /-- UPD_WRITE (R598): Writes payload bytes in order to the target slot. -/
  | updWrite (dt : Ps) (q : Packet)
  /-- UPD_END (R599): Verifies a written code image and, with FINAL, starts the background copy. -/
  | updEnd (dt : Ps) (q : Packet)
  /-- UPD_GET_STATUS (R607): Returns bank states, counters, session, copy and trial status and update events. -/
  | updGetStatus (dt : Ps) (q : Packet)
  /-- UPD_CONFIRM (R604): Confirms a trial, raising anti-rollback counters and marking banks. -/
  | updConfirm (dt : Ps) (q : Packet)
  /-- UPD_ABORT (R607): Ends the update session and empties the inactive bank or slot. -/
  | updAbort (dt : Ps) (q : Packet)
  /-- COMMAND_PACKET_ARRIVAL (R470): A complete command packet arrives and takes the arrival checks, becoming outstanding or answered. -/
  | commandPacketArrival (dt : Ps) (ifc : Nat) (bytes : List Byte)
  /-- COMMAND_EXECUTE (R471): The supervisor starts the next command in arrival order and takes the execution checks. -/
  | commandExecute (dt : Ps)
  /-- CMD_DOORBELL (R474): A write to CMD_TAIL submits descriptors or is refused with DOORBELL_ERR. -/
  | cmdDoorbell (dt : Ps) (value : Word32)
  /-- CMD_ENABLE (R474): Setting CMD_CTRL.ENABLE zeroes the ring counters or sets CFG_ERR. -/
  | cmdEnable (dt : Ps) (value : Word32)
  /-- CMD_DISABLE (R467): Clearing CMD_CTRL.ENABLE is an interface reset of RING. -/
  | cmdDisable (dt : Ps) (value : Word32)
  /-- CMD_IF_RESET (R473): Writing CMD_CTRL.IF_RESET resets the RING interface and clears ENABLE. -/
  | cmdIfReset (dt : Ps) (value : Word32)
  /-- CMD_DESCRIPTOR_FETCH (R475): A fetched submission descriptor and its packet arrive, or fail with FETCH_ERR. -/
  | cmdDescriptorFetch (dt : Ps) (desc : List Byte) (packet : Option (List Byte))
  /-- CMD_COMPLETION_WRITE (R476): Writes a reply and its completion entry in submission order when room exists, then sets CMD_CPL. -/
  | cmdCompletionWrite (dt : Ps)
  /-- MGMT_COMMAND_DATAGRAM (R478): A UDP datagram to port 4817 on the management port is accepted only if MACsec-verified.
  `fragments`: how long after its first fragment each of its fragments came. -/
  | mgmtCommandDatagram (dt : Ps) (verified : Bool) (fragments : List Ps) (srcIp : Nat) (srcPort : Nat) (bytes : List Byte)
  /-- BASTIK_DATA (R590): A host DATA frame carrying a command fragment is ACKed or NAKed and stored. -/
  | bastikData (dt : Ps) (frame : List Byte)
  /-- BASTIK_POLL (R590): A host POLL is answered with the next reply fragment or EMPTY. -/
  | bastikPoll (dt : Ps) (frame : List Byte)
  /-- BASTIK_RESYNC (R591): A RESYNC causes loss of framing and is ACKed. -/
  | bastikResync (dt : Ps) (frame : List Byte)
  /-- BASTIK_IMAGE (R606): An IMAGE frame carries a fragment of a recovery boot image. -/
  | bastikImage (dt : Ps) (frame : List Byte)
  /-- BASTIK_FRAMING_LOSS (R591): Loss of framing on the service link resets the SVC interface and FSEQ counts. -/
  | bastikFramingLoss (dt : Ps)
  /-- REGISTER_WRITE (R18): A BAR0 write to a register field without behaviour of its own sets, clears or is ignored per its access code. -/
  | registerWrite (dt : Ps) (addr : Nat) (len : Nat) (value : Word32)
  /-- READ_CLEAR_REGISTER (R20): A read of an RC register returns and clears its value. -/
  | readClearRegister (dt : Ps) (addr : Nat) (len : Nat)
  /-- TS_NS_READ (R121): A read of TS_NS latches the whole time base into the snapshot block. -/
  | tsNsRead (dt : Ps)
  /-- INT_SET (R459): A write to INT_SET sets interrupt causes. -/
  | intSet (dt : Ps) (idx : Nat) (value : Word32)
  /-- INT_CAUSE_CLEAR (R460): A W1C write clears interrupt causes unless set again on the same edge. -/
  | intCauseClear (dt : Ps) (idx : Nat) (value : Word32) (again : Word32)
  /-- INT_MASK_WRITE (R460): A write to INT_MASK can unmask a set cause and give a vector event. -/
  | intMaskWrite (dt : Ps) (idx : Nat) (value : Word32)
  /-- MSIX_MODERATION_EXPIRY (R460): GAP_US after a vector's last message, a held event sends its message. -/
  | msixModerationExpiry (dt : Ps) (vec : Nat)
  /-- DMA_START (R427): DMA_CTRL.START latches the list settings and starts the list, or sets START_REFUSED. -/
  | dmaStart (dt : Ps) (ch : Nat) (value : Word32)
  /-- DMA_ABORT (R429): DMA_CTRL.ABORT stops new reads and ends the list with ABORTED. -/
  | dmaAbort (dt : Ps) (ch : Nat)
  /-- DMA_CLEAR (R427): DMA_CTRL.CLEAR returns a channel from DONE or ERROR to IDLE. -/
  | dmaClear (dt : Ps) (ch : Nat)
  /-- DMA_DESCRIPTOR_FETCH (R424): A fetched DMA descriptor is checked before its segment begins. -/
  | dmaDescriptorFetch (dt : Ps) (ch : Nat) (desc : Option (List Byte))
  /-- DMA_READ_COMPLETE (R416): A transaction's read data arrive in its chunk, or the read fails. -/
  | dmaReadComplete (dt : Ps) (ch : Nat) (data : ReadDone)
  /-- DMA_LIST_COMPLETE (R425): After the last write and appended CRC, the completion record is written and the cause raised. -/
  | dmaListComplete (dt : Ps) (ch : Nat)
  /-- RQ_ENABLE (R450): Setting RQ_CTRL.ENABLE zeroes head, tail and LINE_SEQ or sets CFG_ERR. -/
  | rqEnable (dt : Ps) (q : Nat) (value : Word32)
  /-- RQ_DISABLE (R450): Clearing RQ_CTRL.ENABLE flushes the queue and answers later words OFF. -/
  | rqDisable (dt : Ps) (q : Nat) (value : Word32)
  /-- RQ_FLUSH (R448): RQ_CTRL.FLUSH discards stored and packing data and arms AFTER_FLUSH. -/
  | rqFlush (dt : Ps) (q : Nat)
  /-- RQ_WORD_WRITE (R441): A producer writes a word to a record queue and receives OK, FULL, FLUSHED or OFF. -/
  | rqWordWrite (dt : Ps) (q : Nat) (word : Word32) (first : Option Nat) (last : Option Nat)
  /-- RQ_IDLE_TIMEOUT (R445): After IDLE_US without a word, a partial line is pushed with IDLE_PUSH. -/
  | rqIdleTimeout (dt : Ps) (q : Nat)
  /-- RQ_LINE_DELIVER (R446): A stored line and its tag are written to the host ring when the ring has room. -/
  | rqLineDeliver (dt : Ps) (q : Nat)
  /-- ENDPOINT_RESET (R453): D3hot return, FLR or PCIE_PERST_N assertion resets BAR0 fields, DMA, queues, rings and RING. -/
  | endpointReset (dt : Ps)
  /-- PCIE_LINK_DOWN (R454): The PCIe link goes down, or Bus Master Enable clears, ending DMA, queues and rings;
  `busMaster` says that it is Bus Master Enable that clears, the link staying up. -/
  | pcieLinkDown (dt : Ps) (busMaster : Bool)
  /-- MAIN_RAILS_GOOD (R84): Every main rail is good and the PLLs lock, releasing power-on reset. -/
  | mainRailsGood (dt : Ps)
  /-- RESET_N_ASSERT (R576): RESET_N held low for 10 µs causes a PIN reset. -/
  | resetNAssert (dt : Ps)
  /-- RESET_N_RELEASE (R84): RESET_N rises and the device leaves reset if internal release has occurred. -/
  | resetNRelease (dt : Ps)
  /-- LEAVE_RESET (R578): The device leaves reset, samples straps on cold reset, reads fuses and OTP, and starts BOOT and its wipe. -/
  | leaveReset (dt : Ps) (pins : StrapPins) (gib0 : Nat) (gib1 : Nat)
  /-- BOOT_END (R579): When the wipe completes, CMD_READY is set and the device enters its post-BOOT mode. -/
  | bootEnd (dt : Ps) (selfTestOk : Bool)
  /-- WARM_RESET (R576): A WARM reset starts once its commanding reply has left or on a lifecycle move or SAFE exit. -/
  | warmReset (dt : Ps)
  /-- WDOG_EXPIRY (R537): The watchdog expires 100 ms after its last service and causes a WDOG reset. -/
  | wdogExpiry (dt : Ps)
  /-- MAIN_SUPPLY_LOSS (R86): A main rail below its threshold for 1 µs starts the RESERVE hand-off or loss of power. -/
  | mainSupplyLoss (dt : Ps) (vresOk : Bool)
  /-- RESERVE_HANDOFF_DONE (R87): The 16 µs hand-off completes and the device is in RESERVE. -/
  | reserveHandoffDone (dt : Ps) (short : Bool)
  /-- RESERVE_UNAVAILABLE (R541): VRES below threshold for 1 ms with main rails present sets RESERVE_UNAVAILABLE. -/
  | reserveUnavailable (dt : Ps)
  /-- DORMANT_WAKE (R574): The wake time or a masked event edge wakes the device from DORMANT into its wake mode. -/
  | dormantWake (dt : Ps) (input : Option Nat)
  /-- LOCKOUT (R545): A lockout fault is detected: YIELD heartbeat, LAST_FAULT written and FAULT reset. -/
  | lockout (dt : Ps) (cls : Nat) (unit : Nat) (detail : Word32)
  /-- CLOCK_FAULT (R540): A frequency monitor declares a domain faulty with its domain-specific outcome. -/
  | clockFault (dt : Ps) (domain : ClockDomain)
  /-- TEMP_SAMPLE (R542): The junction sensors are sampled and TEMP_WARN updated. -/
  | tempSample (dt : Ps) (sensors : List Int)
  /-- THERMAL_SHUTDOWN (R542): TJ at or above 125 °C for 100 µs stops every clock except KCLK. -/
  | thermalShutdown (dt : Ps)
  /-- THERMAL_SHUTDOWN_END (R542): TJ falls below 100 °C and the device performs a POR. -/
  | thermalShutdownEnd (dt : Ps)
  /-- ENGINE_LOCKSTEP_MISMATCH (R533): An engine's shadow disagrees and the item is aborted for retry. -/
  | engineLockstepMismatch (dt : Ps) (ae : Nat)
  /-- ENGINE_SELFTEST_DONE (R534): An aborted engine finishes its 200 µs self-test and returns to WAITING or goes OFFLINE. -/
  | engineSelftestDone (dt : Ps) (ae : Nat) (pass : Bool)
  /-- ALM_READBACK (R543): 1 µs after driving an ALM pin low the device reads it back and flags a failure. -/
  | almReadback (dt : Ps) (pin : Nat) (high : Bool)
  /-- SRAM_SCRUB_READ (R528): A scrubber reads an SRAM word and corrects or flags it. -/
  | sramScrubRead (dt : Ps) (cls : Nat) (item : Nat) (addr : Nat) (stored : BitVec 39) (functionalWrite : Bool)
  /-- RESERVE_SCRUB (R528): The reserve domain is scrubbed once per second. -/
  | reserveScrub (dt : Ps) (item : ReserveItem) (stored : BitVec 39)
  /-- PATROL_READ (R529): DRAM patrol reads one access per channel every 40 rounds. -/
  | patrolRead (dt : Ps) (ch : Nat) (addr : Nat) (data : Word32) (check : BitVec 8)
  /-- DRAM_WRITEBACK (R531): A queued corrected DRAM write-back is issued in a patrol slot unless cancelled. -/
  | dramWriteback (dt : Ps) (ch : Nat)
  /-- AUTO_LEAVE_SAFE (R547): The AUTO_LEAVE delay in SAFE expires and the device leaves by a WARM reset. -/
  | autoLeaveSafe (dt : Ps)
  /-- CLOSE (R33): A zone's close fires on a grid edge and queues the tick's assembly. -/
  | close (dt : Ps) (zone : Nat)
  /-- STAGING_START (R222): Staging of a tick into constellation SRAM starts at its staging lead. -/
  | stagingStart (dt : Ps) (zone : Nat)
  /-- STAGING_DONE (R225): A tick's staging copy completes. -/
  | stagingDone (dt : Ps) (zone : Nat)
  /-- ASSEMBLY_DONE (R228): Revision-0 assembly completes, seals the constellation and queues detection and flow items. -/
  | assemblyDone (dt : Ps)
  /-- COHERENCY_DONE (R324): The coherency unit completes a zone's island result and ISLAND decisions follow. -/
  | coherencyDone (dt : Ps)
  /-- BAND_MONITOR_DONE (R330): The band-energy monitor completes a zone's update and OSCILLATION decisions follow. -/
  | bandMonitorDone (dt : Ps)
  /-- ALM_PIN_UPDATE (R343): 9 TCLK after a decision edge the ALM pins show the new raised states. -/
  | almPinUpdate (dt : Ps)
  /-- ALARM_REPEAT (R350): A definition's repeat timer expires and a repeat frame is queued to each destination. -/
  | alarmRepeat (dt : Ps) (ald : Nat)
  /-- ALARM_TEST_END (R344): An alarm test's duration expires and the shown state returns to the own state. -/
  | alarmTestEnd (dt : Ps) (ald : Nat)
  /-- BUDGET_DEADLINE (R40): At a tick's budget deadline undispatched items are removed and overruns marked. -/
  | budgetDeadline (dt : Ps) (zone : Nat)
  /-- ALIGNER_INSERTION (R218): A frame record completes insertion and is placed, dropped or taken as late. -/
  | alignerInsertion (dt : Ps)
  /-- REVISION_DUE (R233): A revision entry becomes due and is queued for service. -/
  | revisionDue (dt : Ps) (zone : Nat) (tick : Nat)
  /-- RESTAGING_DONE (R236): Re-staging of a tick into the revision area completes. -/
  | restagingDone (dt : Ps)
  /-- REVISION_ASSEMBLY_START (R236): A revision assembly starts once re-staging, the assembler and egress release allow it. -/
  | revisionAssemblyStart (dt : Ps)
  /-- REVISION_ASSEMBLY_DONE (R237): A revision assembly completes with every late frame accepted up to its start. -/
  | revisionAssemblyDone (dt : Ps)
  /-- REVISION_ABANDON (R237): A queued revision not started 3.2 s after its tick instant is abandoned. -/
  | revisionAbandon (dt : Ps) (zone : Nat) (tick : Nat)
  /-- STORE_AREA_EXPIRY (R220): A tick's store area is released 3.2 s after its instant. -/
  | storeAreaExpiry (dt : Ps) (zone : Nat) (tick : Nat)
  /-- WAN_FRAME_RX (R163): A frame received on a WAN port is checked, filtered, verified and classified. -/
  | wanFrameRx (dt : Ps) (port : Nat) (frame : LineFrame)
  /-- MGMT_FRAME_RX (R168): A frame received on the management port is classified to the supervisor or MGMT_OTHER. -/
  | mgmtFrameRx (dt : Ps) (frame : LineFrame)
  /-- PARSER_INPUT (R173): A stream datagram reaches the parser and takes the C37.118 checks. -/
  | parserInput (dt : Ps) (lane : Nat)
  /-- STREAM_FRAME_BIND (R609): At count 20 of binding, a data frame takes quarantine, state, size, tag and budget tests. -/
  | streamFrameBind (dt : Ps) (lane : Nat)
  /-- FRAGMENT_TIMEOUT (R172): A datagram not complete 50 ms after its first fragment is dropped. -/
  | fragmentTimeout (dt : Ps)
  /-- RX_DESCRIPTOR_WRITEBACK (R200): A receive buffer's data and descriptor are written back to a host ring. -/
  | rxDescriptorWriteback (dt : Ps) (ring : Nat) (desc : List Byte)
  /-- CONFIG_CHECK_DONE (R183): The supervisor completes the check of a received configuration frame and accepts or refuses it. -/
  | configCheckDone (dt : Ps) (index : Nat)
  /-- STREAM_SILENT (R182): No data frame accepted for 3 periods moves a context to SILENT. -/
  | streamSilent (dt : Ps) (index : Nat)
  /-- QUARANTINE_END (R191): A context's quarantine ends 3 s after the rebind instant. -/
  | quarantineEnd (dt : Ps) (index : Nat)
  /-- CFG_REQUEST_REPEAT (R187): Every 1 s in AWAIT_CFG a SRC_CTRL context repeats its configuration request. -/
  | cfgRequestRepeat (dt : Ps) (index : Nat)
  /-- TCP_RECONNECT (R194): The supervisor retries a lost stream TCP connection every 5 s. -/
  | tcpReconnect (dt : Ps) (index : Nat) (connected : Bool)
  /-- TCP_FRAME_DELIVER (R194): A complete TCP-carried frame is passed to parse-and-bind lane 4. -/
  | tcpFrameDeliver (dt : Ps) (index : Nat)
  /-- TCP_FRAME_TIMEOUT (R196): A TCP-carried frame incomplete after 50 ms is discarded and the parser resynchronises. -/
  | tcpFrameTimeout (dt : Ps) (index : Nat)
  /-- SUPERVISOR_FRAME (R170): The supervisor handles ARP, neighbour discovery, ICMP echo and group queries. -/
  | supervisorFrame (dt : Ps)
  /-- MKPDU_RX (R565): The supervisor handles a received MKA EAPOL frame. -/
  | mkpduRx (dt : Ps) (port : Nat) (pdu : Mkpdu)
  /-- MKA_HELLO (R565): The MKA Hello Time expires and an MKPDU is sent. -/
  | mkaHello (dt : Ps) (port : Nat)
  /-- MKA_LIFE_TIME_EXPIRY (R565): An MKA peer not heard for the Life Time is removed. -/
  | mkaLifeTimeExpiry (dt : Ps) (port : Nat) (peer : Nat)
  /-- SAK_INSTALL (R410): A new secure association is installed and protected sending resumes. -/
  | sakInstall (dt : Ps) (port : Nat) (keyNumber : Nat) (an : Nat)
  /-- PTP_SYNC (R132): A Sync message is stamped and, unless discarded, yields an offset. -/
  | ptpSync (dt : Ps) (port : Nat) (msg : PtpSync)
  /-- PTP_FOLLOW_UP (R122): A Follow_Up completes a two-step Sync measurement. -/
  | ptpFollowUp (dt : Ps) (port : Nat) (msg : PtpFollowUp)
  /-- PTP_ANNOUNCE (R118): An Announce updates the best master choice and, from the selected master, the UTC offset and leap flags. -/
  | ptpAnnounce (dt : Ps) (port : Nat) (msg : PtpAnnounce)
  /-- PTP_PEER_DELAY (R128): A peer-delay request is answered or a peer-delay exchange completes. -/
  | ptpPeerDelay (dt : Ps) (port : Nat) (msg : PtpPeerDelay)
  /-- PPS_IN_EDGE (R124): A PPS_IN edge is captured and accepted or rejected as a phase measurement. -/
  | ppsInEdge (dt : Ps)
  /-- IRIG_FRAME (R125): An IRIG-B frame is decoded or discarded. -/
  | irigFrame (dt : Ps) (frame : Irig)
  /-- REF10_GATE (R122): The 1 ms REF10_IN averaging interval ends and yields an offset or a loss. -/
  | ref10Gate (dt : Ps) (result : Ref10)
  /-- SOURCE_LOST (R122): A time source's loss condition expires and the next source is selected. -/
  | sourceLost (dt : Ps) (source : Nat)
  /-- LEAP_SECOND (R119): At the end of a UTC day with LEAP_PENDING, the UTC offset changes by one. -/
  | leapSecond (dt : Ps)
  /-- LEAP_OCCURRED_EXPIRY (R119): LEAP_OCCURRED clears 86,400 s after a leap second. -/
  | leapOccurredExpiry (dt : Ps)
  /-- RESERVE_INCREMENT_UPDATE (R146): Each 16 s window while LOCKED updates the KCLK reserve increment. -/
  | reserveIncrementUpdate (dt : Ps) (kclkEdges : Nat)
  /-- EVENT_CAPTURE (R148): An enabled edge on EVT_n forms a stamped event record. -/
  | eventCapture (dt : Ps) (input : Nat) (falling : Bool)
  /-- PPS_OUT_PULSE (R153): PPS_OUT rises at the whole second plus offset unless gated. -/
  | ppsOutPulse (dt : Ps)
  /-- PPS_OUT_END (R153): PPS_OUT falls after its set width. -/
  | ppsOutEnd (dt : Ps)
  /-- LAUNCH_DECISION (R156): At a queued frame's decision point the port judges whether it is late. -/
  | launchDecision (dt : Ps) (port : Nat) (express : Bool)
  /-- CHAIN_RESTART (R262): A restart clears the chains in scope on one MODCLK edge and starts settling. -/
  | chainRestart (dt : Ps)
  /-- CHAIN_VALID (R261): A chain's settle count is reached and it becomes VALID. -/
  | chainValid (dt : Ps) (input : Nat)
  /-- MODULATOR_LOSS (R265): 1,024 MODCLK with no bit change declares an input LOST. -/
  | modulatorLoss (dt : Ps) (input : Nat)
  /-- MODULATOR_RESUMING (R266): The first bit change of a LOST input moves it to RESUMING. -/
  | modulatorResuming (dt : Ps) (input : Nat)
  /-- RESUME_WINDOW_END (R266): A 1,024-MODCLK resumption window ends, returning to LOST or confirming resumption. -/
  | resumeWindowEnd (dt : Ps) (input : Nat) (changed : Bool)
  /-- FE_OUTPUT_SAMPLE (R268): A calibrated output sample is emitted with range selection, zero crossing and detector updates. -/
  | feOutputSample (dt : Ps) (channel : Nat) (bitsHi : List Bool) (bitsLo : List Bool)
  /-- ZC_LOSS (R272): No accepted crossing for 3 nominal periods sets ZC_LOST. -/
  | zcLoss (dt : Ps) (channel : Nat)
  /-- LOCAL_PHASOR_RECORD (R279): The estimator forms a local stream record for a reporting instant and inserts it. -/
  | localPhasorRecord (dt : Ps) (stream : Nat)
  /-- TAP_SAMPLE (R292): A metering tap sample is processed into power, direction and accumulators, or AH in RESERVE. -/
  | tapSample (dt : Ps)
  /-- UNMETERED_FLOW_QUALIFIED (R306): I_rms at or above or below UF_LIMIT for UF_QUAL forms an unmetered-flow begin or end event. -/
  | unmeteredFlowQualified (dt : Ps) (line : Nat) (phase : Nat)
  /-- ENERGY_SNAPSHOT (R303): At an interval boundary the unit latches a snapshot. -/
  | energySnapshot (dt : Ps)
  /-- ENERGY_MIRROR_SEND (R312): Every 10 ms the ACTIVE device sends an energy mirror. -/
  | energyMirrorSend (dt : Ps)
  /-- ENERGY_MIRROR_APPLY (R312): The STANDBY applies a fully arrived energy mirror at its next tap boundary. -/
  | energyMirrorApply (dt : Ps)
  /-- ITEM_DISPATCH (R365): The scheduler dispatches the best eligible item to the lowest waiting engine. -/
  | itemDispatch (dt : Ps)
  /-- ITEM_ARRIVAL (R364): A dispatched item is in its engine 18 ECLK later. -/
  | itemArrival (dt : Ps) (ae : Nat)
  /-- ENGINE_RELEASE (R368): An engine issues an item's release with its outputs and asks for work.
  `accs`: what the item has done with the engine's memories since its arrival, in order. -/
  | engineRelease (dt : Ps) (ae : Nat) (accs : List EngineAcc)
  /-- RELEASE_FENCE_DONE (R368): An item's release fence completes after its write buffer drains. -/
  | releaseFenceDone (dt : Ps) (entry : Nat)
  /-- ITEM_POSTED (R369): An item is posted in flow order, writing results and deciding KERNEL alarms. -/
  | itemPosted (dt : Ps) (flow : Nat)
  /-- COMBINED_FRAME_FORM (R392): A revision becomes ready for forming once flows post, at the deadline, or at revision assembly. -/
  | combinedFrameForm (dt : Ps) (zone : Nat) (tick : Nat) (rev : Nat)
  /-- FORMATTER_DONE (R393): The formatter completes a session's frame and queues or drops it. -/
  | formatterDone (dt : Ps)
  /-- CFG_PERIOD_EXPIRY (R396): A SENDING UDP session's CFG_PERIOD expires and its configuration is sent. -/
  | cfgPeriodExpiry (dt : Ps) (session : Nat)
  /-- MAC_TX_START (R403): An express or preemptable MAC that can begin a frame takes the head of its queues. -/
  | macTxStart (dt : Ps) (port : Nat) (express : Bool)
  /-- MAC_TX_DONE (R157): A frame's last octet leaves the pins and its completion and sent mark are recorded. -/
  | macTxDone (dt : Ps) (port : Nat) (express : Bool)
  /-- TCP_SEND (R400): A TCP send is cut into segments and queued back to back. -/
  | tcpSend (dt : Ps) (session : Nat) (length : Nat)
  /-- TCP_CONNECT (R398): A TCP connection to a session's LISTEN_PORT is accepted or reset. -/
  | tcpConnect (dt : Ps) (session : Nat) (srcIp : Nat) (srcPort : Nat) (mss : Nat)
  /-- SESSION_COMMAND_FRAME (R398): A C37.118 command frame on a session's TCP connection is acted on. -/
  | sessionCommandFrame (dt : Ps) (session : Nat) (cmd : Nat)
  /-- TCP_WINDOW_TIMEOUT (R399): 10 s without window room resets a session's TCP connection. -/
  | tcpWindowTimeout (dt : Ps) (session : Nat)
  /-- TCP_RETRANSMIT (R399): The supervisor's retransmission timer expires and data are resent. -/
  | tcpRetransmit (dt : Ps) (session : Nat)
  /-- PAUSE_RX (R408): A received PAUSE or PFC frame is counted and, if obeyed, pauses the preemptable MAC. -/
  | pauseRx (dt : Ps) (port : Nat) (pfc : Option Nat) (quanta : List Nat)
  /-- PAUSE_END (R408): A pause time runs out and the preemptable MAC resumes. -/
  | pauseEnd (dt : Ps) (port : Nat)
  /-- WAN_LINK_CHANGE (R404): A WAN port's link comes up or goes down, starting or ending preemption verification. -/
  | wanLinkChange (dt : Ps) (port : Nat) (up : Bool)
  /-- VERIFY_TIMEOUT (R404): A preemption verify attempt times out after 10 ms. -/
  | verifyTimeout (dt : Ps) (port : Nat)
  /-- MGMT_LINK_CHANGE (R477): The management PHY link state read over MDIO changes. -/
  | mgmtLinkChange (dt : Ps) (up : Bool)
  /-- PEER_LINK_TRAINING (R494): An enabled peer link detects a signal and starts training. -/
  | peerLinkTraining (dt : Ps) (link : Nat)
  /-- PEER_LINK_DOWN (R494): Block lock lost for 1 µs or 3 missed heartbeats take a peer link DOWN. -/
  | peerLinkDown (dt : Ps) (link : Nat)
  /-- HELLO (R496): A received HELLO joins or refuses a peer link. -/
  | hello (dt : Ps) (link : Nat) (msg : HelloMsg)
  /-- HELLO_REPEAT (R494): A REFUSED link sends a HELLO every 1 ms. -/
  | helloRepeat (dt : Ps) (link : Nat)
  /-- HEARTBEAT (R509): A received heartbeat updates partner status, sent marks and pair state. -/
  | heartbeat (dt : Ps) (link : Nat) (crcOk : Bool) (msg : HeartbeatMsg)
  /-- HEARTBEAT_SEND (R509): Every 25,000 TCLK a heartbeat is sent on each JOINED link. -/
  | heartbeatSend (dt : Ps) (link : Nat)
  /-- RECORD (R498): A RECORD frame carries a remote member's frame record to the home device's insertion. -/
  | record (dt : Ps) (link : Nat) (crcOk : Bool) (zone : Nat) (record : List Byte)
  /-- GEN (R499): A GEN frame updates the home device's copy of a remote member's GEN. -/
  | gen (dt : Ps) (link : PeerIn) (index : Nat) (gen : Nat)
  /-- GEN_REPEAT (R499): The binding device resends a GEN frame 1 µs after the previous copy. -/
  | genRepeat (dt : Ps) (index : Nat)
  /-- TAKEOVER (R514): A received TAKEOVER declares loss on a STANDBY or moves an ACTIVE device to STANDBY. -/
  | takeover (dt : Ps) (link : PeerIn) (position : Nat)
  /-- ACK (R493): A received ACK advances class B acknowledgement on a peer link. -/
  | ack (dt : Ps) (link : PeerIn) (lseq : Nat)
  /-- ACK_SEND (R493): A receiver sends an ACK at least every 10 µs while frames are unacknowledged. -/
  | ackSend (dt : Ps) (link : Nat)
  /-- PEER_RESEND (R493): 50 µs without progress resends class B frames from the first unacknowledged. -/
  | peerResend (dt : Ps) (link : Nat)
  /-- MIRROR (R504): A MIRROR frame's item is applied whole by the STANDBY. -/
  | mirror (dt : Ps) (lseq : PeerSeq) (item : MirrorItem)
  /-- CONTROL (R498): A CONTROL frame adds or removes forwarding of a context. -/
  | control (dt : Ps) (link : Nat) (lseq : PeerSeq) (index : Nat) (zone : Nat) (add : Bool) (effective : Stamp)
  /-- HANDOVER_REQUEST (R516): The ACTIVE device answers a handover REQUEST with a GRANT or REFUSE. -/
  | handoverRequest (dt : Ps) (lseq : PeerSeq)
  /-- HANDOVER_GRANT (R503): A received GRANT moves the STANDBY to TAKING_BACK. -/
  | handoverGrant (dt : Ps) (lseq : PeerSeq) (edge : Stamp)
  /-- HANDOVER_REFUSE (R516): A received REFUSE restarts the primary's hold timer. -/
  | handoverRefuse (dt : Ps) (lseq : PeerSeq) (reason : Nat)
  /-- LISTEN_WINDOW_END (R503): The pair listen window ends with no ACTIVE partner and the device becomes ACTIVE_ALONE. -/
  | listenWindowEnd (dt : Ps)
  /-- PARTNER_LOSS (R511): 300 µs without a partner heartbeat declares loss or ends ACTIVE_PAIRED. -/
  | partnerLoss (dt : Ps)
  /-- TAKEOVER_COMPLETE (R513): At the takeover edge the device enters ACTIVE with adopted alarms and sends owed frames. -/
  | takeoverComplete (dt : Ps)
  /-- HOLD_TIMER_EXPIRY (R515): A primary's hold timer reaches the hold time and it sends a handover REQUEST. -/
  | holdTimerExpiry (dt : Ps)
  /-- HANDOVER_EDGE (R517): At H the returning device becomes ACTIVE and ownership passes. -/
  | handoverEdge (dt : Ps)
  /-- HANDOVER_BREAK (R517): At the break the yielding device's queues hold no owned frame and it enters STANDBY. -/
  | handoverBreak (dt : Ps)
  /-- UPDATE_COPY_DONE (R600): The background bank copy completes and the bank becomes PENDING. -/
  | updateCopyDone (dt : Ps)
  /-- TRIAL_WINDOW_END (R604): The trial window ends with automatic confirmation or a WARM reset. -/
  | trialWindowEnd (dt : Ps)
  /-- PCIE_LINK_UP (R454): The PCIe link trains up, or Bus Master Enable is set again, so the endpoint may issue requests and rings may be enabled;
  `set` holds Bus Master Enable and the sizes of requests from then on. -/
  | pcieLinkUp (dt : Ps) (set : PcieSettings)
  /-- COMMAND_COMPLETE (R471): A long-running command such as SYS_COMMIT, UPD_WRITE or SEC_SET_LIFECYCLE finishes its flash or fuse work, produces its reply and makes its journal entry. -/
  | commandComplete (dt : Ps) (flashOk : Bool)
  /-- STAGED_AREA_RELEASE (R223): A stopped zone's staged area is released at the edge where the close of tick k + 2 would have fired, after which ZONE_DELETE is no longer BUSY. -/
  | stagedAreaRelease (dt : Ps) (zone : Nat)
  /-- HEARTBEAT_MISSED (R509): An expected heartbeat on a joined link does not arrive, clearing PARTNER_OK, counting HB_MISSED and restarting the primary's hold timer. -/
  | heartbeatMissed (dt : Ps) (link : Nat)
  /-- WATCHDOG_SERVICE (R537): The supervisor firmware services the hardware watchdog, restarting its 100 ms expiry. -/
  | watchdogService (dt : Ps)
  /-- VRES_LOSS (R87): VRES falls below its threshold while the main rails are absent, so the device goes unpowered and the reserve domain loses its contents. -/
  | vresLoss (dt : Ps)
  /-- TCP_SEGMENT_RX (R399): A segment of a supervisor-terminated TCP connection arrives and updates the connection's acknowledgement, window or state, including a close or reset by the peer. -/
  | tcpSegmentRx (dt : Ps) (conn : TcpConn) (seg : TcpSegment)
  /-- MSIX_VECTOR_UNMASK (R460): The host clears a vector's mask bit in the MSI-X table and a pending message is sent. -/
  | msixVectorUnmask (dt : Ps) (vec : Nat)
  /-- VERIFY_RESPONSE (R404): The IEEE 802.3br verify response arrives from the link partner and preemption becomes active. -/
  | verifyResponse (dt : Ps) (port : Nat)
  deriving DecidableEq, Repr

end Sys2Proof
end

