-- ==== Sys2Proof/Decode.lean ====
section
/-! DEFINITION. Words of the table of operations.  No row of the table gives bits: a command is a packet (R464) or an
event, and neither is spelled by a word. -/

namespace Sys2Proof

/-- The command that a word spells: none, since no row gives bits. -/
def decodeTableWord (_nbits _w : Nat) : Option Instr := none

end Sys2Proof
end

