-- ==== Sys2Proof/Config.lean ====
section
/-! DEFINITION. What the manual leaves to the implementation: free values and free functions (opaque, without a
body), and the figures of one fixed part.  No proof can see the value of an opaque constant, so a statement about
it holds for every value (log entries 3 to 6). -/

namespace Sys2Proof
namespace Config

/-- Rounding direction where the manual gives an exact figure and the width that holds it, and no rounding rule.
First argument: which computation; then numerator and denominator of the exact value. Log entry 3. -/
opaque roundUp : Nat → Int → Nat → Bool

/-- A fresh free number for the n-th draw: random values of the DRBG (nonces, first epochs; R467, R561). Log entry 4. -/
opaque freeNat : Nat → Nat

/-- The angle of a rectangular phasor that is 0 or infinite: no rule gives one (R174). Log entry 5. -/
opaque phasorAng : F32 → F32 → F32
/-- The fold of an infinite fp32 angle: no rule gives one (R174, R322). Log entry 5. -/
opaque wrapAngle : F32 → F32
/-- Octets of a received frame that have begun to fill receive buffers when its FCS or MACsec check fails, by the
frame's length: no rule says when the filling starts (R201). Log entry 17. -/
opaque filledEarly : Nat → Nat
/-- The coefficients of the compensation FIR (R256): preset, minimum phase, tap; and their fractional bits. The manual
gives what the filter corrects and no coefficient. Log entry 5. -/
opaque firTap : Nat → Bool → Nat → Int
opaque firShift : Nat → Bool → Nat
/-- The weight of a sample in a low-pass weighted window (R276), by the half window and the distance from its middle in
2⁻¹⁶ ns, as a fraction of 2³²: no rule gives it. Log entry 4. -/
opaque lowPass : Nat → Nat → Nat
/-- What an estimate is computed from (R276): M class, FNOM of 50 Hz, the reporting rate, the preset, minimum phase, and the
window: of each sample its time after the reporting instant in 2⁻¹⁶ ns and its weighted value. -/
structure Window where
  classM  : Bool
  fnom50  : Bool
  rate    : Nat
  preset  : Nat
  firMin  : Bool
  samples : List (Int × Rat)
  deriving DecidableEq, Repr

/-- Magnitude and angle of a phasor from its window and that of the frequency reference, whose frequency corrects it; FREQ
and DFREQ from the reference's window. No rule gives the arithmetic (R275, R276). Log entry 4. -/
opaque phasor : Window → Window → F32 × F32
opaque frequency : Window → F32 × F32
/-- The energy that a sample whose power is not a number adds, in 2⁻³² µWh: no rule states it. Log entry 5. -/
opaque nanEnergy : F64 → Nat
/-- Coefficients 0 to 31 of the 65-tap Hilbert FIR (R288): no rule gives them. Log entry 5. -/
opaque hilbertTap : Nat → F64
/-- ECDSA P-384 verification (R560, R592): public key, signed bytes, signature. Log entry 6. -/
opaque ecdsaOk : List Byte → List Byte → List Byte → Bool
/-- HMAC-SHA-384 of data under a key (R562). Log entry 6. -/
opaque hmacSha384 : List Byte → List Byte → List Byte

/-- SHA-384 (R558, R592). Log entry 6. -/
opaque sha384 : List Byte → List Byte
/-- SEC1 point decompression (R592). Log entry 6. -/
opaque decompress : List Byte → List Byte
/-- AES-256 key wrap of a CAK under the KWK of a key domain (R562, R567). Log entry 6. -/
opaque keyWrap : Nat → List Byte → List Byte
/-- What a kernel reads (R373): the part's first entry and entry count, the zone's RATE, the bytes of the table, the value
of each entry of the table (magnitude and angle of a phasor, another value and 0), none for one that is left out (R377), the
state area of the part, empty on STATE_RESET (R374), and the outputs of AFTER_FLOW's slot. -/
structure KernelInput where
  kernel : Nat
  first  : Nat
  count  : Nat
  rate   : Nat
  table  : List Byte
  values : List (Option (F32 × F32))
  state  : List Byte
  after  : List (Option F32)
  deriving DecidableEq, Repr

/-- What the catalogue does not give by a formula, as functions of what a kernel reads: a value of the part's n-th entry by
its column, an output, each none where it cannot be computed, and the state copy (R373, R374, R377, R381). Log entry 14. -/
opaque kernelBody : KernelInput → Nat → Nat → Option F32
opaque kernelOut : KernelInput → Nat → Option F32
opaque kernelState : KernelInput → List Byte

/-- A byte of an engine's local data memory at the start of an item, undefined, by the number of its draw and its address
(R356, R373). Log entry 4. -/
opaque ldmByte : Nat → Nat → Byte

/-- A byte of DRAM that no rule gives, by its address (R372). Log entry 4. -/
opaque dramByte : Nat → Byte

/-- Places that no rule fixes (R362): the offset of a staged area in constellation SRAM, by zone and tick, and the offsets of a
parameter table and of the two copies of a flow's state area in their regions. Log entry 14. -/
opaque constOffset : Nat → Nat → Nat
opaque tableOffset : Nat → Nat
opaque stateOffset : Nat → Bool → Nat

/-- The state-area formula code of a kernel that KERNEL_GET_CATALOGUE returns: no rule assigns the codes. Log entry 12. -/
opaque stateFormula : Nat → Byte

/-- GCM-AES-256 of a port's transmit channel (R409): key number, packet number, the octets that are authenticated only, the
octets that are encrypted; the ciphertext with its ICV. Log entry 6. -/
opaque macsecSeal : Nat → Nat → List Byte → List Byte → List Byte
/-- DSCP of the datagrams of supervisor traffic: no rule gives it. Log entry 12. -/
opaque superDscp : BitVec 6

/-- Time to live, or hop limit, of the IP packets that the device originates: no rule gives it. Log entry 12. -/
opaque ttl : Byte

/-- What a device knows of a stream that another device of the federation binds: no frame between the devices carries
its configuration or its context. Position, context index, and how many peer frames have brought news since the reset, so
that it may change with each: the counts and the DATA_RATE of its accepted configuration, none without one; TIME_BASE; IDCODE;
current phasors; FNOM; the context there is FREE or belongs to a zone. Log entry 12. -/
opaque remoteCounts : Nat → Nat → Nat → Option (Nat × Nat × Nat)
opaque remoteRate : Nat → Nat → Nat → Option Nat
opaque remoteTimeBase : Nat → Nat → Nat → Nat
opaque remoteIdcode : Nat → Nat → Nat → Nat
opaque remoteTypes : Nat → Nat → Nat → BitVec 32
opaque remoteFnom50 : Nat → Nat → Nat → Bool
opaque remoteTaken : Nat → Nat → Nat → Bool
/-- The fields of a CFG-3 block that no rule gives a value: G_PMU_ID, and PMU_LAT to GRP_DLY. Log entry 12. -/
opaque cfg3Id : List Byte
opaque cfg3Place : List Byte

/-- Octets of the header of a settings copy (R595): no rule gives its size; the model takes it to fill no more than 256 octets.
Log entry 22. -/
opaque copyHeader : Fin 257

/-- The scrub pass time of the slowest SRAM array in µs, of which R528 gives only the bound of 64 ms. Log entry 12. -/
opaque scrubPassUs : Nat

end Config
end Sys2Proof
end

