-- ==== Sys2Proof/Machine/Bytes.lean ====
section
/-! DEFINITION. Byte order, sparse tables, the byte memory of the host window, the CRCs and the SECDED code:
the plainest shared operations. -/

namespace Sys2Proof.Machine

/-- `v` in `n` bytes, most significant first (R19). -/
def be : Nat → Nat → List Byte
  | 0, _ => []
  | n + 1, v => BitVec.ofNat 8 (v / 256 ^ n) :: be n v

/-- `v` in `n` bytes, least significant first (R18, R423). -/
def le : Nat → Nat → List Byte
  | 0, _ => []
  | n + 1, v => BitVec.ofNat 8 v :: le n (v / 256)

/-- The number that bytes spell, most significant first. -/
def ofBe (bs : List Byte) : Nat := bs.foldl (fun a b => a * 256 + b.toNat) 0

/-- The number that bytes spell, least significant first. -/
def ofLe (bs : List Byte) : Nat := ofBe bs.reverse

/-- A signed number in `n` bytes, two's complement, most significant first. -/
def beInt (n : Nat) (v : Int) : List Byte := be n (v % (256 ^ n : Nat)).toNat

/-- The signed number that a `bits`-wide two's-complement value stands for. -/
def signed (bits v : Nat) : Int := if v < 2 ^ (bits - 1) then v else (v : Int) - (2 ^ bits : Nat)

/-- `n` bytes at offset `o`. -/
def slice (bs : List Byte) (o n : Nat) : List Byte := (bs.drop o).take n

/-- The big-endian field of `n` bytes at offset `o`. -/
def fld (bs : List Byte) (o n : Nat) : Nat := ofBe (slice bs o n)

/-- The signed big-endian field of `n` bytes at offset `o`. -/
def sfld (bs : List Byte) (o n : Nat) : Int := signed (8 * n) (fld bs o n)

/-- The little-endian field of `n` bytes at offset `o`. -/
def lfld (bs : List Byte) (o n : Nat) : Nat := ofLe (slice bs o n)

/-- The bytes of an ASCII text. -/
def ascii (t : String) : List Byte := t.toList.map fun c => BitVec.ofNat 8 c.toNat

/-- A list cut or filled with zero bytes to `n`. -/
def padTo (n : Nat) (bs : List Byte) : List Byte := (bs ++ List.replicate (n - bs.length) 0).take n

/-- Whether every byte is 0. -/
def allZero (bs : List Byte) : Bool := bs.all (· == 0)

/-- One count more, saturating at 0xFFFF_FFFF. -/
def inc (c : Cnt) : Cnt := if c < 0xFFFFFFFF then c + 1 else 0xFFFFFFFF

/-- `n` counts more, saturating at 0xFFFF_FFFF. -/
def incBy (c : Cnt) (n : Nat) : Cnt := min (c + n) 0xFFFFFFFF

/-- Ceiling of a division. -/
def cdiv (a b : Nat) : Nat := (a + b - 1) / b

/-! ### Sparse tables -/

/-- The entry of key `k`. -/
def tabGet? {α : Type} (k : Nat) : Tab α → Option α
  | [] => none
  | (j, v) :: t => if j = k then some v else tabGet? k t

/-- The entry of key `k`, or the default of an entry that is not listed. -/
def tabGet {α : Type} (d : α) (k : Nat) (t : Tab α) : α := (tabGet? k t).getD d

/-- The table with entry `v` at key `k`, keys kept in rising order. -/
def tabSet {α : Type} (k : Nat) (v : α) : Tab α → Tab α
  | [] => [(k, v)]
  | (j, w) :: t => if k < j then (k, v) :: (j, w) :: t else if j = k then (k, v) :: t else (j, w) :: tabSet k v t

/-- The table without key `k`. -/
def tabErase {α : Type} (k : Nat) : Tab α → Tab α
  | [] => []
  | (j, w) :: t => if j = k then t else (j, w) :: tabErase k t

/-- The table with the entry of key `k` changed by `f`, starting from the default `d`. -/
def tabMod {α : Type} (d : α) (k : Nat) (f : α → α) (t : Tab α) : Tab α := tabSet k (f (tabGet d k t)) t

/-- Every entry changed by `f`. -/
def tabMap {α β : Type} (f : Nat → α → β) (t : Tab α) : Tab β := t.map fun (k, v) => (k, f k v)

/-- Keys strictly rising. -/
def tabWf {α : Type} : Tab α → Bool
  | [] => true
  | [_] => true
  | (j, _) :: (k, v) :: t => decide (j < k) && tabWf ((k, v) :: t)

/-- Element `i` of a vector, or the default when `i` lies outside. -/
def vget {α : Type} {n : Nat} (d : α) (v : Vector α n) (i : Nat) : α := if h : i < n then v[i] else d

/-- A vector with element `i` replaced; unchanged when `i` lies outside. -/
def vset {α : Type} {n : Nat} (v : Vector α n) (i : Nat) (x : α) : Vector α n := if h : i < n then v.set i x else v

/-! ### The host window (R422) -/

/-- The byte at a window offset; a byte not listed holds 0 (R578). -/
def memByte : List Host.Cell → Nat → Byte
  | [], _ => 0
  | (j, b) :: t, a => if j = a then b else memByte t a

/-- The window with byte `b` at offset `a`; a zero is not listed. -/
def memSet : List Host.Cell → Nat → Byte → List Host.Cell
  | [], a, b => if b = 0 then [] else [(a, b)]
  | (j, c) :: t, a, b =>
    if a < j then (if b = 0 then (j, c) :: t else (a, b) :: (j, c) :: t)
    else if j = a then (if b = 0 then t else (a, b) :: t)
    else (j, c) :: memSet t a b

/-- The canonical form: offsets strictly rising, no listed zero. -/
def memWf : List Host.Cell → Bool
  | [] => true
  | [(_, b)] => b != 0
  | (j, b) :: (k, c) :: t => b != 0 && decide (j < k) && memWf ((k, c) :: t)

/-- `n` bytes from offset `a`. -/
def memRead (m : List Host.Cell) (a n : Nat) : List Byte := (List.range n).map fun i => memByte m (a + i)

/-- The window with bytes written from offset `a` on, in ascending order. -/
def memWrite : List Host.Cell → Nat → List Byte → List Host.Cell
  | m, _, [] => m
  | m, a, b :: bs => memWrite (memSet m a b) (a + 1) bs

/-! ### CRCs -/

/-- One bit of CRC-32C in reflected form (R433). -/
def crc32cBit (c : Word32) : Word32 := if c.getLsbD 0 then (c >>> 1) ^^^ 0x82F63B78#32 else c >>> 1

/-- One byte of CRC-32C (R433). -/
def crc32cByte (c : Word32) (b : Byte) : Word32 :=
  crc32cBit (crc32cBit (crc32cBit (crc32cBit (crc32cBit (crc32cBit (crc32cBit (crc32cBit (c ^^^ b.setWidth 32))))))))

/-- The CRC register after more bytes. -/
def crc32cRun (c : Word32) (bs : List Byte) : Word32 := bs.foldl crc32cByte c

/-- CRC-32C: initial value 0xFFFF_FFFF and final XOR 0xFFFF_FFFF (R433). -/
def crc32c (bs : List Byte) : Word32 := crc32cRun 0xFFFFFFFF#32 bs ^^^ 0xFFFFFFFF#32

/-- One bit of the CRC-CCITT of C37.118 (R173). -/
def crcCcittBit (c : BitVec 16) : BitVec 16 := if c.getLsbD 15 then (c <<< 1) ^^^ 0x1021#16 else c <<< 1

/-- One byte of it. -/
def crcCcittByte (c : BitVec 16) (b : Byte) : BitVec 16 :=
  crcCcittBit (crcCcittBit (crcCcittBit (crcCcittBit (crcCcittBit (crcCcittBit (crcCcittBit (crcCcittBit
    (c ^^^ (b.setWidth 16 <<< 8)))))))))

/-- CHK of a C37.118 frame: CRC-CCITT with initial value 0xFFFF and no final mask. -/
def crcCcitt (bs : List Byte) : BitVec 16 := bs.foldl crcCcittByte 0xFFFF#16

/-- The sum of 16-bit words in one's complement, as IP and UDP use it. -/
def onesSum : List Byte → Nat
  | [] => 0
  | [a] => a.toNat * 256
  | a :: b :: t => a.toNat * 256 + b.toNat + onesSum t

/-- A sum folded to 16 bits with end-around carry. -/
def fold16 (n : Nat) : Nat := if n = 0 then 0 else (n - 1) % 65535 + 1

/-- The Internet checksum of bytes. -/
def ipChecksum (bs : List Byte) : Nat := 65535 - fold16 (onesSum bs)

/-! ### Datagrams -/

/-- The pseudo-header that UDP and TCP checksums cover. -/
def pseudoHeader (v6 : Bool) (src dst proto len : Nat) : List Byte :=
  if v6 then be 16 src ++ be 16 dst ++ be 4 len ++ be 4 proto else be 4 src ++ be 4 dst ++ be 1 0 ++ be 1 proto ++ be 2 len

/-- A UDP datagram with its checksum. -/
def udpDatagram (v6 : Bool) (src dst sport dport : Nat) (payload : List Byte) : List Byte :=
  let len := 8 + payload.length
  let body (chk : Nat) : List Byte := be 2 sport ++ be 2 dport ++ be 2 len ++ be 2 chk ++ payload
  let c := ipChecksum (pseudoHeader v6 src dst 17 len ++ body 0)
  body (if c = 0 then 0xFFFF else c)

/-- Bytes cut into pieces of at most `n`; `fuel` bounds the number of pieces. -/
def chunks (n : Nat) : Nat → List Byte → List (List Byte)
  | 0, bs => [bs]
  | fuel + 1, bs => if bs.length ≤ n then [bs] else bs.take n :: chunks n fuel (bs.drop n)

/-- The octets of an IP packet's payload as the fragments that carry them, of at most 1,500 octets with their headers: the
whole, or pieces of the largest multiple of 8 that fits (R478). -/
def datagramPieces (v6 : Bool) (b : List Byte) : List (List Byte) :=
  if b.length ≤ 1500 - (if v6 then 40 else 20) then [b] else chunks (if v6 then 1448 else 1480) b.length b

/-! ### The check code (R522 to R524) -/

/-- The columns of data bits D0 to D31 (R522). -/
def secdedColumns : List (BitVec 7) :=
  [0x0B, 0x13, 0x23, 0x43, 0x0D, 0x15, 0x25, 0x45,
   0x19, 0x29, 0x31, 0x51, 0x61, 0x0E, 0x16, 0x26] ++
  [0x46, 0x1A, 0x2A, 0x4A, 0x32, 0x52, 0x62, 0x1C,
   0x2C, 0x4C, 0x34, 0x54, 0x64, 0x58, 0x68, 0x70]

/-- The XOR of the columns of the data bits that are set, from bit `i` on. -/
def secdedXor (d : Word32) : Nat → List (BitVec 7) → BitVec 7
  | _, [] => 0
  | i, c :: cs => (if d.getLsbD i then c else 0) ^^^ secdedXor d (i + 1) cs

/-- The seven check bits C0 to C6 of a data word; `a` is the address bit of a DRAM beat, of column 0x07 (R523). -/
def secdedCheck (d : Word32) (a : Bool) : BitVec 7 := secdedXor d 0 secdedColumns ^^^ (if a then 0x07#7 else 0#7)

/-- What a read finds (R524). -/
inductive Ecc where
  | clean
  | corrected (data : Word32)
  | addressError
  | uncorrectable
  deriving DecidableEq, Repr

/-- The number of the data bit whose column is `y`. -/
def secdedBit (y : BitVec 7) : Nat → List (BitVec 7) → Option Nat
  | _, [] => none
  | i, c :: cs => if c = y then some i else secdedBit y (i + 1) cs

/-- The outcome of a read: stored data and check bits, stored and recomputed address bit (R524). -/
def eccRead (d : Word32) (chk : BitVec 7) (storedA wantA : Bool) : Ecc :=
  let y := secdedCheck d wantA ^^^ chk
  if y = 0 then (if storedA = wantA then .clean else .corrected d)
  else if storedA = wantA then
    match secdedBit y 0 secdedColumns with
    | some i => .corrected (d ^^^ (1#32 <<< i))
    | none => if y = 1 ∨ y = 2 ∨ y = 4 ∨ y = 8 ∨ y = 16 ∨ y = 32 ∨ y = 64 then .corrected d else .uncorrectable
  else if y = 0x07#7 then .addressError
  else .uncorrectable

/-- The address bit A: even parity of the channel-local address bits [32:2] of the beat (R523). -/
def addrParity (addr : Nat) : Bool :=
  (List.range 31).foldl (fun p i => p != (addr.testBit (i + 2))) false

end Sys2Proof.Machine
end

