-- ==== Sys2Proof/Machine/StateIngress.lean ====
section
/-! DEFINITION. State of stream ingress: ports, contexts, lanes, reassembly, receive rings (04_stream_ingress.md,
R461 to R463).  Every field's default value is its value in `State.reset`. -/

namespace Sys2Proof.Machine

/-- MACsec settings of a port (R162, R164). -/
inductive MacsecMode where
  | off | strict | check
  deriving DecidableEq, Repr

/-- A preempted frame whose last mPacket has not come: what its mPackets carried, and the arrival of the first (R404). -/
structure PartialFrame where
  octets     : List Byte
  wireLength : Nat
  fecCorr    : Nat
  fecUncorr  : Nat
  fecOverlap : Bool
  arrival    : Stamp
  deriving DecidableEq, Repr

/-- Settings and counters of a WAN port, or of the management port (R162, R164, R170, R204). -/
structure PortSt where
  /-- 10GBASE-R in place of 25GBASE-R (R162). -/
  mode10g : Bool := false
  /-- RS-FEC (R162). -/
  rsFec : Bool := false
  /-- MACsec off, Strict or Check (R164). -/
  macsec : MacsecMode := .off
  /-- replay window (R164). -/
  replay : Nat := 0
  /-- MAC address (R202). -/
  mac : Nat := 0
  /-- IPv4 address (R202). -/
  ipv4 : Nat := 0
  /-- IPv6 address (R202). -/
  ipv6 : Nat := 0
  /-- joined groups, as IPv6 flag and address, at most 64 (R170). -/
  groups : List (Bool × Nat) := []
  /-- link up (R404). -/
  linkUp : Bool := false
  /-- the preempted frame that is being put together (R404). -/
  partial_ : Option PartialFrame := none
  /-- RX_FRAMES (R204). -/
  cFrames : Cnt := 0
  /-- RX_FCS_ERR (R204). -/
  cFcsErr : Cnt := 0
  /-- RX_RUNT (R204). -/
  cRunt : Cnt := 0
  /-- RX_OVERSIZE (R204). -/
  cOversize : Cnt := 0
  /-- RX_FEC_CORR (R204). -/
  cFecCorr : Cnt := 0
  /-- RX_FEC_UNCORR (R204). -/
  cFecUncorr : Cnt := 0
  /-- RX_FILTERED (R204). -/
  cFiltered : Cnt := 0
  /-- RX_MACSEC_DROP (R204). -/
  cMacsecDrop : Cnt := 0
  /-- RX_MACSEC_UNTAGGED (R204). -/
  cMacsecUntagged : Cnt := 0
  /-- RX_STREAM (R204). -/
  cStream : Cnt := 0
  /-- RX_SUPERVISOR (R204). -/
  cSupervisor : Cnt := 0
  deriving DecidableEq, Repr

/-- The states of a stream context (R182); codes in the order listed. -/
inductive CtxState where
  | free | awaitCfg | receiving | silent | rejected
  deriving DecidableEq, Repr

/-- What the device holds of an accepted configuration (R181, R184 to R186). -/
structure StreamCfg where
  numPhasors : Nat := 0
  numAnalog  : Nat := 0
  numDigital : Nat := 0
  /-- FNOM bit 0: set for 50 Hz. -/
  fnom50 : Bool := false
  format   : Nat := 0
  dataRate : Nat := 0
  timeBase : Nat := 0
  cfgCnt   : Nat := 0
  expectedSize : Nat := 0
  /-- PHASOR_TYPE: bit n set when phasor n is a current. -/
  phasorType : Word32 := 0
  /-- upper 24 bits of the fp32 scales of the phasors. -/
  phasorScale : List Nat := []
  /-- upper 24 bits of the fp32 scales of the analogs. -/
  analogScale : List Nat := []
  /-- the frame's content apart from SOC, FRACSEC and CHK (R183). -/
  content : List Byte := []
  deriving DecidableEq, Repr

/-- The binding key of a stream (R177). -/
structure StreamKey where
  tcp    : Bool := false
  ipv6   : Bool := false
  idcode : Nat := 0
  srcIp  : Nat := 0
  srcPort : Nat := 0
  deriving DecidableEq, Repr

/-- A stream context (R181), and what the supervisor keeps beside it. -/
structure Ctx where
  /-- STATE (R182). -/
  state : CtxState := .free
  /-- IDCODE, transport, source IP and SRC_PORT (R177, R181). -/
  key : StreamKey := {}
  /-- DST_PORT (R181). -/
  dstPort : Nat := 0
  /-- SRC_CTRL (R181). -/
  srcCtrl : Bool := false
  /-- WANT_CFG3 (R181). -/
  wantCfg3 : Bool := false
  /-- TCP command connection option (R195). -/
  tcpCommand : Bool := false
  /-- egress WAN port of command frames (R202). -/
  egressPort : Nat := 0
  /-- QUARANTINE (R191). -/
  quarantine : Bool := false
  /-- GEN (R190). -/
  gen : BitVec 4 := 0
  /-- ZONE, none for 0xFF (R181). -/
  zone : Option Nat := none
  /-- the configuration in force (R184). -/
  cfg : Option StreamCfg := none
  /-- REJECT_REASON (R184). -/
  rejectReason : Nat := 0
  /-- LAST_TAG (R181). -/
  lastTag : Stamp := 0
  /-- REBIND_AT (R191). -/
  rebindAt : Stamp := 0
  /-- LAST_STAT (R181). -/
  lastStat : Nat := 0
  /-- LAST_ARRIVAL (R181). -/
  lastArrival : Stamp := 0
  /-- TIME_BASE of the last accepted configuration, kept through a rebind for the quarantine test (R191). -/
  lastTimeBase : Option Nat := none
  /-- physical time of the last accepted data frame or of the acceptance of the configuration (R182). -/
  lastDataAt : Ps := 0
  /-- physical time of the last configuration request (R187). -/
  lastRequestAt : Option Ps := none
  /-- physical time of the last request for STAT bit 10 (R187). -/
  statRequestAt : Option Ps := none
  /-- TCP: the connection is up (R194). -/
  tcpUp : Bool := false
  /-- TCP: physical time of the last attempt to open the connection; none before the first (R194). -/
  tcpTryAt : Option Ps := none
  /-- TCP: the parser scans for a SYNC candidate (R196). -/
  tcpScan : Bool := false
  /-- TCP: octets received and not yet framed (R196). -/
  tcpBuf : List Byte := []
  /-- TCP: how those octets arrived: physical time and number, oldest first (R196). -/
  tcpArr : List (Ps × Nat) := []
  /-- the federation: home position and home zone of a forwarded context (R498). -/
  forward : Option (Nat × Nat) := none
  /-- FRAMES_ACCEPTED (R203). -/
  cAccepted : Cnt := 0
  /-- NO_CFG_DROPS (R203). -/
  cNoCfg : Cnt := 0
  /-- SIZE_DROPS (R203). -/
  cSize : Cnt := 0
  /-- QUARANTINE_DROPS (R203). -/
  cQuarantine : Cnt := 0
  /-- STALE_GEN_DROPS (R203). -/
  cStaleGen : Cnt := 0
  /-- BUDGET_DROPS (R203). -/
  cBudget : Cnt := 0
  /-- CFG_ACCEPTED (R203). -/
  cCfgAccepted : Cnt := 0
  /-- RESUMES (R203). -/
  cResumes : Cnt := 0
  deriving DecidableEq, Repr

/-- What binding a data frame writes into its context at count 36 (R60, R609): a drop counter, or the tag, STAT, arrival
and binding time of an accepted frame. -/
inductive CtxUpdate where
  | quarantine | noCfg | size | budget
  | accepted (tag : Stamp) (stat : Nat) (arrival : Stamp) (bound : Ps)
  deriving DecidableEq, Repr

/-- A stream datagram on its way to the parser of a lane (R25, R173). -/
structure StreamDgram where
  ipv6    : Bool
  tcp     : Bool
  srcIp   : Nat
  srcPort : Nat
  dstPort : Nat
  arrival : Stamp
  macsec  : Bool
  /-- WAN port it arrived on. -/
  port    : Nat
  payload : List Byte
  /-- the octets of the Ethernet frames that carried it, each with the physical time at which its last octet was at the pins,
  for the receive rings (R200). -/
  frames  : List (Ps × List Byte)
  /-- physical time at which its last octet was at the pins (R200). -/
  rxAt    : Ps
  /-- physical time at which it is at the parser's input (R60, R166). -/
  due     : Ps
  deriving DecidableEq, Repr

/-- A parsed data frame on its way to binding (R173, R179, R609). -/
structure ParsedFrame where
  dgram : StreamDgram
  /-- the FCLK edge of count 20 of an undisturbed lane. -/
  base  : Ps
  /-- the FCLK edge of its count 20 (R179, R180). -/
  due   : Ps
  deriving DecidableEq, Repr

/-- A frame record on its way to insertion (R190, R216, R244). -/
structure FrameRecord where
  /-- federation position of the binding device. -/
  position : Nat
  isLocal  : Bool
  index    : Nat
  gen      : Nat
  fracsecHi : Nat
  stat     : Nat
  viaPeer  : Bool
  tag      : Stamp
  arrivalDelay : Int
  absent   : BitVec 64
  /-- channel values in slot order, little-endian (R244). -/
  values   : List Byte
  /-- DATA_RATE and TIME_BASE of the configuration under which it was bound (R216). -/
  rate     : Nat
  timeBase : Nat
  /-- phasor, analog and digital counts of that configuration (R244). -/
  counts   : Nat × Nat × Nat
  deriving DecidableEq, Repr

/-- A configuration frame under the supervisor's check (R183). -/
structure CfgCheck where
  index  : Nat
  frame  : List Byte
  since  : Ps
  voided : Bool
  deriving DecidableEq, Repr

/-- A frame on its way to a host receive ring (R199 to R201). -/
structure RingFrame where
  cls     : Nat
  port    : Nat
  macsec  : Bool
  arrival : Stamp
  /-- physical time at which its last octet was at the pins (R200). -/
  rxAt    : Ps
  octets  : List Byte
  /-- its FCS or MACsec check failed after these octets had begun to fill buffers (R201). -/
  cut     : Bool
  /-- buffers already filled for it, oldest first: descriptor and bytes. -/
  used    : List (Nat × Nat)
  deriving DecidableEq, Repr

/-- A fragmented datagram in reassembly (R172). -/
structure Reassembly where
  ipv6    : Bool
  srcIp   : Nat
  dstIp   : Nat
  ident   : Nat
  /-- arrival of its first fragment in the time base. -/
  first   : Stamp
  /-- pieces: byte offset, data, and the frame that carried them. -/
  pieces  : List (Nat × List Byte × RingFrame)
  /-- total length, once the last fragment is in. -/
  total   : Option Nat
  /-- the first fragment shows that it is not of a stream port. -/
  other   : Bool
  deriving DecidableEq, Repr

/-- A host receive ring (R198, R461). -/
structure RxRing where
  /-- enable and ENABLED (R461). -/
  enabled : Bool := false
  /-- BUF_UNITS (R461). -/
  units : Nat := 0
  /-- RX_BASE_LO and RX_BASE_HI as one address (R461). -/
  base : BitVec 64 := 0
  /-- RX_SIZE (R461). -/
  size : Nat := 0
  /-- RX_TAIL (R461). -/
  tail : Nat := 0
  /-- RX_HEAD (R461). -/
  head : Nat := 0
  /-- OWN_ERR (R461). -/
  ownErr : Bool := false
  /-- RX_DELIVERED (R461). -/
  delivered : Cnt := 0
  /-- RX_NOBUF (R205). -/
  cNoBuf : Cnt := 0
  /-- frames waiting for the ring, in order of arrival (R200). -/
  queue : List RingFrame := []
  deriving DecidableEq, Repr

/-- State of chapter 04. -/
structure IngressSt where
  /-- WAN ports 0 to 3 and, as number 4, the management port (R162, R204). -/
  ports : Vector PortSt 5 := Vector.replicate 5 {}
  /-- stream UDP destination ports (R167). -/
  streamPorts : List Nat := [4713]
  /-- ring of classes 2 to 5, none for no ring (R167). -/
  classMap : List (Option Nat) := [none, some 3, some 1, some 2]
  /-- RING_0 to RING_7 (R198). -/
  rings : Vector RxRing 8 := Vector.replicate 8 {}
  /-- the 16,384 stream contexts; a context not listed is FREE with GEN 0 (R177, R181). -/
  ctxs : Tab Ctx := []
  /-- stream datagrams waiting for the parsers, by lane (R179). -/
  toParser : List (Nat × StreamDgram) := []
  /-- parsed data frames waiting for binding, by lane (R179). -/
  toBind : List (Nat × ParsedFrame) := []
  /-- records waiting for insertion, in the order of the edges at which they complete it (R60). -/
  toInsert : List (Ps × FrameRecord) := []
  /-- configuration frames under check (R183). -/
  checks : List CfgCheck := []
  /-- datagrams in reassembly, at most 1,024 (R172). -/
  reasm : List Reassembly := []
  /-- frames and messages waiting for the supervisor, with their port (R167, R170). -/
  toSupervisor : List (Nat × List Byte) := []
  /-- frames that the supervisor's TCP termination can take before it closes its receive window, in 10⁻¹² frames, at most
  one second's (R194; log entry 17). -/
  tcpBucket : Nat := 100000000000000000
  /-- level of the frame bucket, in 10⁻¹² frames; full at reset (R189; log entry 8). -/
  frameBucket : Nat := 4096000000000000
  /-- level of the phasor bucket, in 10⁻¹² values; full at reset (R189; log entry 8). -/
  phasorBucket : Nat := 81920000000000000
  /-- UDP_CHK_ERR (R205). -/
  cUdpChk : Cnt := 0
  /-- SYNC_ERR (R205). -/
  cSync : Cnt := 0
  /-- SIZE_ERR (R205). -/
  cSizeErr : Cnt := 0
  /-- CHK_ERR (R205). -/
  cChk : Cnt := 0
  /-- TAG_ERR (R205). -/
  cTag : Cnt := 0
  /-- UNKNOWN_KEY (R205). -/
  cUnknown : Cnt := 0
  /-- OVER_BUDGET (R205). -/
  cOver : Cnt := 0
  /-- FRAG_TIMEOUT (R205). -/
  cFragTimeout : Cnt := 0
  /-- FRAG_DROP (R205). -/
  cFragDrop : Cnt := 0
  /-- TCP_FRAME_TIMEOUT (R205). -/
  cTcpTimeout : Cnt := 0
  /-- CLASS_DROP of classes 2 to 5 (R205). -/
  cClassDrop : Vector Cnt 4 := Vector.replicate 4 0
  deriving DecidableEq, Repr

end Sys2Proof.Machine
end

