-- ==== Sys2Proof/Machine/StateMeasure.lean ====
section
/-! DEFINITION. State of the waveform front end, the local streams and the energy unit (06_waveform_front_end.md,
07_energy_metering.md).  Every field's default value is its value in `State.reset`. -/

namespace Sys2Proof.Machine

/-- States of a chain (R260), codes in the order listed. -/
inductive ChainState where
  | off | stopped | settling | valid | lost | resuming
  deriving DecidableEq, Repr

/-- One of the 24 modulator inputs with its filter chain (R249 to R266). -/
structure InputSt where
  /-- enable (R251). -/
  enabled : Bool := true
  /-- sampling instant, in ACLK periods (R95, R251). -/
  instant : Nat := 2
  /-- OFFSET (R257). -/
  offset : F32 := 0
  /-- GAIN, 1.0 (R257). -/
  gain : F32 := 0x3F800000#32
  /-- DELAY in 2⁻¹⁶ output sample (R257). -/
  delay : Int := 0
  /-- chain state (R260). -/
  chain : ChainState := .stopped
  /-- a restart waits for its MODCLK edge (R262). -/
  restartDue : Bool := false
  /-- a restart by a preset change waits for its MODCLK edge (R262, R263). -/
  presetDue : Bool := false
  /-- physical time of the last restart edge (R261). -/
  restartAt : Ps := 0
  /-- CIC integrators, modulo 2⁵⁶ (R254). -/
  integ : List (BitVec 56) := []
  /-- CIC comb registers, modulo 2⁵⁶ (R254). -/
  combs : List (BitVec 56) := []
  /-- normalised outputs, newest first, 30 fractional bits: the FIR's registers (R255, R256). -/
  firHist : List Int := []
  /-- FIR outputs, newest first, of the four taps of the interpolator, before calibration (R256, R257). -/
  taps : List Int := []
  /-- the last normalised value x (R255). -/
  x : Int := 0
  /-- the last calibrated value (R257). -/
  v : F32 := 0
  /-- the last sample was VALID (R264). -/
  vValid : Bool := false
  /-- windows of the resumption run that ended with a change (R266). -/
  resumeRun : Nat := 0
  /-- LOSS_EVENTS (R284). -/
  cLoss : Cnt := 0
  /-- RESUMES (R284). -/
  cResumes : Cnt := 0
  /-- RESTARTS (R284). -/
  cRestarts : Cnt := 0
  /-- OVERLOAD_SAMPLES (R284). -/
  cOverload : Cnt := 0
  deriving DecidableEq, Repr

/-- Range mode of a current channel (R269). -/
inductive RangeMode where
  | auto | forceHi | forceLo
  deriving DecidableEq, Repr

/-- A current channel's range selection (R267 to R270). -/
structure RangeSt where
  /-- FE_SET_RANGE mode (R269). -/
  mode : RangeMode := .auto
  /-- LO range selected (R268). -/
  lo : Bool := false
  /-- output samples in a row with |x_HI| below 1/20 (R268). -/
  lowRun : Nat := 0
  /-- RANGE_DOWN (R284). -/
  cDown : Cnt := 0
  /-- RANGE_UP (R284). -/
  cUp : Cnt := 0
  /-- RANGE_FORCED (R284). -/
  cForced : Cnt := 0
  deriving DecidableEq, Repr

/-- One of the 16 logical channels: zero crossings, detectors, metering tap (R271 to R274). -/
structure ChanSt where
  /-- zero-crossing detector armed (R271). -/
  armed : Bool := false
  /-- the sample before: value and stamp (R271). -/
  prev : Option (F32 × Stamp) := none
  /-- the last two accepted crossings, newest first (R271). -/
  crossings : List Stamp := []
  /-- physical time from which the loss timeout of R272 runs. -/
  lastCrossPs : Ps := 0
  /-- ZC_LOST (R272). -/
  zcLost : Bool := false
  /-- accepted crossings since the loss (R272). -/
  sinceLoss : Nat := 0
  /-- W_pk in cycles (R273). -/
  wPk : Nat := 1
  /-- W_rms in cycles as set; none for the default, 10 at 50 Hz and 12 at 60 Hz (R273). -/
  wRms : Option Nat := none
  /-- attack time in µs (R273). -/
  attack : Nat := 1000
  /-- release time in µs (R273). -/
  release : Nat := 100000
  /-- start of the peak window; none before the first (R273). -/
  pkFrom : Option Stamp := none
  /-- start of the RMS window (R273). -/
  rmsFrom : Option Stamp := none
  /-- peak window: cycles so far, every sample VALID, |v| so far (R273). -/
  pkCycles : Nat := 0
  /-- every sample of the peak window VALID (R273). -/
  pkOk : Bool := true
  /-- largest |v| of the peak window so far (R273). -/
  pkMax : F32 := 0
  /-- cycles of the RMS window so far (R273). -/
  rmsCycles : Nat := 0
  /-- every sample of the RMS window VALID (R273). -/
  rmsOk : Bool := true
  /-- samples of the RMS window, newest first (R273). -/
  rmsSamples : List F32 := []
  /-- peak result, none when absent (R273). -/
  peak : Option F32 := none
  /-- RMS result, none when absent (R273). -/
  rms : Option F32 := none
  /-- envelope value (R273). -/
  env : F32 := 0
  /-- the channel's last sample was VALID (R264, R268). -/
  ok : Bool := false
  /-- runs of VALID samples, newest first: stamps of the first and the last of each (R276, R279). -/
  good : List (Stamp × Stamp) := []
  /-- the calibrated samples of the last quarter second, newest first, with their stamps (R259, R276). -/
  hist : List (Stamp × F32) := []
  /-- samples of the metering tap group so far, newest first, with their validity (R274). -/
  tapGroup : List (F32 × Bool) := []
  /-- the metering tap's last sample: value, validity, stamp (R274). -/
  tap : Option (F32 × Bool × Stamp) := none
  /-- ZC_LOSS_EVENTS (R284). -/
  cZcLoss : Cnt := 0
  deriving DecidableEq, Repr

/-- The settings of a local stream (R277). -/
structure LocalCfg where
  /-- enable (R277). -/
  enabled : Bool := false
  /-- M class in place of P (R277). -/
  classM : Bool := false
  /-- reporting rate (R277). -/
  rate : Nat := 0
  /-- logical channels carried as phasors (R277). -/
  mask : BitVec 16 := 0
  /-- frequency reference channel (R277). -/
  refChan : Nat := 0
  /-- analog sources, bits [7:4] kind, [3:0] channel (R277, R283). -/
  analogs : List Nat := []
  /-- digital word carried (R277). -/
  digital : Bool := false
  /-- IDCODE (R277). -/
  idcode : Nat := 0
  deriving DecidableEq, Repr

/-- A local stream (R277 to R279). -/
structure LocalStream extends LocalCfg where
  /-- the changes of the last second, oldest first: the settings before each, and its stamp; instants before a change keep the
  settings then in force (R278). -/
  before : List (LocalCfg × Stamp) := []
  /-- physical time of the last change that sets STAT[10] for 60 s (R279). -/
  changedAt : Option Ps := none
  /-- the last reporting instant recorded (R279). -/
  lastRec : Option Stamp := none
  deriving DecidableEq, Repr

/-- State of chapter 06. -/
structure FrontSt where
  /-- preset: 0 FAST, 1 BALANCED, 2 QUIET, 3 METER (R252). -/
  preset : Nat := 1
  /-- minimum-phase FIR option (R252). -/
  firMin : Bool := false
  /-- FNOM is 50 Hz (R252). -/
  fnom50 : Bool := true
  /-- the 24 inputs (R249). -/
  inputs : Vector InputSt 24 := Vector.replicate 24 {}
  /-- ICH_0 to ICH_7 range selection (R268). -/
  ranges : Vector RangeSt 8 := Vector.replicate 8 {}
  /-- logical channels 0 to 15 (R249). -/
  chans : Vector ChanSt 16 := Vector.replicate 16 {}
  /-- local streams 0 to 3 (R277). -/
  locals_ : Vector LocalStream 4 := Vector.replicate 4 {}
  /-- PRESET_CHANGES (R284). -/
  cPreset : Cnt := 0
  /-- LOCAL_ABSENT (R284). -/
  cLocalAbsent : Cnt := 0
  deriving DecidableEq, Repr

/-- A 64-bit accumulator with its residue in 2⁻³² units (R296). -/
structure Accum where
  count   : Nat := 0
  residue : Nat := 0
  /-- CORRUPT (R302). -/
  corrupt : Bool := false
  deriving DecidableEq, Repr

/-- The seven accumulators of one set, ACT_IMP, ACT_EXP, REA_Q1 to REA_Q4, APP, and its direction (R293, R296). -/
structure EnergySet where
  /-- ACT_IMP (R296). -/
  actImp : Accum := {}
  /-- ACT_EXP (R296). -/
  actExp : Accum := {}
  /-- REA_Q1 (R296). -/
  q1 : Accum := {}
  /-- REA_Q2 (R296). -/
  q2 : Accum := {}
  /-- REA_Q3 (R296). -/
  q3 : Accum := {}
  /-- REA_Q4 (R296). -/
  q4 : Accum := {}
  /-- APP (R296). -/
  app : Accum := {}
  /-- direction EXPORT (R293). -/
  export_ : Bool := false
  deriving DecidableEq, Repr

/-- A metered phase: its channels, its windows, its reserve accumulation (R285 to R291, R305, R306). -/
structure PhaseSt where
  /-- voltage and current channel, none for unused (R285). -/
  chans : Option (Nat × Nat) := none
  /-- voltage tap samples, newest first, for the Hilbert FIR (R288). -/
  vHist : List F64 := []
  /-- current tap samples, newest first (R288). -/
  iHist : List F64 := []
  /-- p over the last 800 samples, newest first (R288). -/
  pHist : List F64 := []
  /-- q over the last 800 samples, newest first (R288). -/
  qHist : List F64 := []
  /-- VALID tap samples in a row of both channels, up to 864 (R291). -/
  validRun : Nat := 0
  /-- stamps of the last 33 tap samples, newest first, for the delay of R290. -/
  stamps : List Stamp := []
  /-- AH accumulator (R305). -/
  ah : Accum := {}
  /-- UNMETERED_FLOW (R306). -/
  unmetered : Bool := false
  /-- I_rms at or above UF_LIMIT, since the sample of this stamp and physical time (R306). -/
  ufHigh : Option (Stamp × Ps) := none
  /-- I_rms below UF_LIMIT, since this stamp and physical time (R306). -/
  ufLow : Option (Stamp × Ps) := none
  /-- the last qualified state of the flow (R306). -/
  ufOn : Bool := false
  deriving DecidableEq, Repr

/-- A metered line (R285, R300, R306, R315). -/
structure LineSt where
  /-- phases A, B, C (R285). -/
  phases : Vector PhaseSt 3
  /-- the channels of the three phases that an accepted assignment gives from the next tap sample on; none waits (R287). -/
  assigned : Option (List (Option (Nat × Nat))) := none
  /-- P_START in W (R292). -/
  pStart : Nat := 0
  /-- sets of phases A, B, C and, as number 3, TOTAL (R296). -/
  sets : Vector EnergySet 4 := Vector.replicate 4 {}
  /-- MEASURED (R300). -/
  measured : BitVec 64 := 0
  /-- UNMEASURED (R300). -/
  unmeasured : BitVec 64 := 0
  /-- RESERVE_TIME (R300). -/
  reserveTime : BitVec 64 := 0
  /-- the line was measured at the last sample (R308). -/
  wasMeasured : Bool := false
  /-- FRESH (R302). -/
  fresh : Bool := true
  /-- UF_LIMIT in A, 5.0 (R306). -/
  ufLimit : F32 := 0x40A00000#32
  /-- UF_QUAL in ms (R306). -/
  ufQual : Nat := 1000
  /-- CLAMPED (R289). -/
  cClamped : Cnt := 0
  deriving DecidableEq, Repr

/-- An energy event (R308, R309). -/
structure EnergyEvt where
  stamp : Stamp
  type  : Nat
  line  : Nat
  phase : Nat
  acc   : Nat
  seq   : Nat
  deriving DecidableEq, Repr

/-- An interval snapshot (R303). -/
structure Snapshot where
  instant : Stamp
  seq     : Nat
  /-- the 56 readings of both lines, as their bytes. -/
  readings : List Byte
  /-- MEASURED and UNMEASURED of LINE_0, then of LINE_1. -/
  times : List Nat
  deriving DecidableEq, Repr

/-- State of chapter 07. -/
structure EnergySt where
  /-- LINE_0, with its default assignment (R285). -/
  line0 : LineSt := { phases := #v[{ chans := some (0, 0) }, { chans := some (1, 1) }, { chans := some (2, 2) }] }
  /-- LINE_1, with its default assignment (R285). -/
  line1 : LineSt := { phases := #v[{ chans := some (4, 4) }, { chans := some (5, 5) }, { chans := some (6, 6) }] }
  /-- snapshot interval in minutes (R303). -/
  interval : Nat := 15
  /-- the snapshot ring of 16, newest first (R303). -/
  snaps : List Snapshot := []
  /-- next snapshot sequence number (R303). -/
  snapSeq : Nat := 0
  /-- last interval boundary latched, as UTC minute (R303). -/
  lastBoundary : Option Nat := none
  /-- LAST_TAP (R301). -/
  lastTap : Stamp := 0
  /-- the unit handled the tap interval before this one (R301). -/
  unitRunning : Bool := false
  /-- the event FIFO of 64, oldest first (R308). -/
  events : List EnergyEvt := []
  /-- sequence number of the next event (R309). -/
  evtSeq : Nat := 0
  /-- EVT_LOST (R308). -/
  evtLost : Cnt := 0
  /-- CLEAR_COUNT (R316). -/
  clearCount : BitVec 32 := 0
  /-- the octets of a fully arrived mirror that waits for the tap boundary (R312). -/
  mirrorIn : Option (List Byte) := none
  /-- t_m of the last applied mirror; samples after it form the delta set (R313). -/
  mirrorAt : Option Stamp := none
  /-- the delta set: samples since the last applied mirror, as line states that hold only the delta (R313). -/
  delta0 : Vector EnergySet 4 := Vector.replicate 4 {}
  /-- the delta set of LINE_1 (R313). -/
  delta1 : Vector EnergySet 4 := Vector.replicate 4 {}
  /-- delta of MEASURED and UNMEASURED for LINE_0 and LINE_1 (R313). -/
  deltaTimes : List Nat := [0, 0, 0, 0]
  /-- physical time of the last mirror sent (R312). -/
  mirrorSentAt : Ps := 0
  deriving DecidableEq, Repr

end Sys2Proof.Machine
end

