-- ==== Sys2Proof/Machine/StateAlign.lean ====
section
/-! DEFINITION. State of the aligner: zones, members, tick areas, constellations, the assembler and the revision
path (05_alignment.md, R26 to R47).  Every field's default value is its value in `State.reset`. -/

namespace Sys2Proof.Machine

/-- A zone's state (R208). -/
inductive ZoneState where
  | free | stopped | running
  deriving DecidableEq, Repr

/-- The stream a member, a vertex or a signal names: federation position, local stream or context, number (R212). -/
structure StreamRef where
  position : Nat := 0
  isLocal  : Bool := false
  index    : Nat := 0
  deriving DecidableEq, Repr

/-- A member of a zone. `joinAt` and `leaveAt` are effective ticks; `none` inside `leaveAt` and `joinAt = none` stand
for the zone's first tick when it next begins ticking (R213). -/
structure Member where
  ref     : StreamRef
  joinAt  : Option Nat
  leaveAt : Option (Option Nat)
  /-- staging of its effective tick has started (R213). -/
  effective : Bool := false
  /-- the binding device's GEN as this device knows it, for a remote member; none before its first GEN frame or
  record (R499). -/
  remoteGen : Option Nat
  deriving DecidableEq, Repr

/-- Slot states (R228), codes in the order listed. -/
inductive SlotState where
  | absent | present | late | notDue | held | excluded
  deriving DecidableEq, Repr

/-- A slot of a tick's area (R207, R244). -/
structure Slot where
  ref      : StreamRef
  state    : SlotState
  due      : Bool
  record   : Option FrameRecord
  /-- phasor, analog and digital counts of the configuration in force at staging; none without one (R244, R391). -/
  counts   : Option (Nat × Nat × Nat)
  triggerLast : Bool
  deriving DecidableEq, Repr

/-- A sealed constellation (R242, R243). -/
structure Sealed where
  zone      : Nat
  rev       : Nat
  seq       : Nat
  tick      : Nat
  instant   : Stamp
  start     : Stamp
  slotClass : Nat
  rate      : Nat
  waitUs    : Nat
  tqCode    : Nat
  servo     : Nat
  stepped   : Bool
  triggered : Bool
  lastRev   : Bool
  timeInvalid : Bool
  memberChange : Bool
  incomplete  : Bool
  slots     : List Slot
  deriving DecidableEq, Repr

/-- What the device holds of one tick of a zone: its store area, its staged area, its constellations (R220 to R223). -/
structure Area where
  tick     : Nat
  instant  : Stamp
  /-- the close instant of the tick, of the next tick and of the one after it (R32, R38, R223). -/
  closeAt    : Stamp
  deadlineAt : Stamp
  releaseAt  : Stamp
  /-- the store area is held (R220). -/
  stored   : Bool := true
  /-- frame records in the store before staging starts (R222). -/
  records  : List FrameRecord := []
  /-- staging has started: the layout is fixed (R213, R222). -/
  staged   : Bool := false
  /-- the staging copy is complete (R225). -/
  copied   : Bool := false
  /-- slots of the staged area and, after assembly, of the store (R226). -/
  slots    : List Slot := []
  /-- this tick is the effective tick of a membership change (R243). -/
  memberChange : Bool := false
  /-- the close has fired (R33). -/
  closed   : Bool := false
  /-- the complete-set trigger has started the assembly (R35). -/
  triggered : Bool := false
  /-- the edge at which the close fired or the trigger started the assembly, whichever came first (R34, R218). -/
  firedAt : Option Ps := none
  /-- assembly of revision 0 has completed, at this physical time: the budget start (R37). -/
  assembledAt : Option Ps := none
  /-- physical time of the last posting of the tick (R383). -/
  lastPost : Option Ps := none
  /-- the budget deadline has acted (R40). -/
  deadlineDone : Bool := false
  /-- ANALYSIS_INCOMPLETE (R40). -/
  incomplete : Bool := false
  /-- the staged area is still held (R223). -/
  stagedHeld : Bool := false
  /-- the constellations assembled, newest first (R237). -/
  sealed_  : List Sealed := []
  /-- a revision of this tick is armed, queued or in service (R233). -/
  armed    : Bool := false
  /-- highest revision number assembled here (R237). -/
  topRev   : Nat := 0
  /-- members whose slot in the store cannot be read (R527). -/
  storeBad : List StreamRef := []
  /-- members whose slot state in the index cannot be read (R526 class INDEX). -/
  indexBad : List StreamRef := []
  /-- a word of the tick's newest constellation cannot be read (R526 class CONST). -/
  constBad : Bool := false
  deriving DecidableEq, Repr

/-- A zone (R206, R208, R247). -/
structure Zone where
  /-- state (R208). -/
  state : ZoneState := .free
  /-- RATE (R206). -/
  rate : Nat := 0
  /-- WAIT in µs (R206). -/
  waitUs : Nat := 0
  /-- SLOT_CLASS, 0 S, 1 M, 2 L (R206). -/
  slotClass : Nat := 1
  /-- TRIGGER (R206). -/
  trigger : Bool := false
  /-- HOLD (R206). -/
  hold : Bool := false
  /-- REV_LIMIT (R206). -/
  revLimit : Nat := 3
  /-- REV_HOLD in ms (R206). -/
  revHold : Nat := 10
  /-- members, in slot order (R214). -/
  members : List Member := []
  /-- the zone is ticking (R210, R211). -/
  ticking : Bool := false
  /-- first tick since it last began ticking (R211). -/
  firstTick : Nat := 0
  /-- next tick to be staged (R222). -/
  nextStage : Nat := 0
  /-- next tick whose close fires (R33). -/
  nextClose : Nat := 0
  /-- the ticks held, in order of tick (R220, R223). -/
  areas : List Area := []
  /-- the next SEQ (R239). -/
  nextSeq : BitVec 32 := 0
  /-- SEQ of the last tick assembled; 0xFFFF_FFFF for none (R239). -/
  lastSeq : BitVec 32 := 0xFFFFFFFF#32
  /-- SEQ anchor: tick and SEQ, on a STANDBY (R506). -/
  anchor : Option (Stamp × Nat) := none
  /-- tick instant and SEQ of the last assembly started since the zone last began ticking (R504). -/
  run : Option (Stamp × Nat) := none
  /-- instants of the effective ticks of the membership changes of the last 64 s, newest first (R213, R390). -/
  changes : List Stamp := []
  /-- ticks skipped since the zone last began ticking, as ranges from, to (R137, R218). -/
  skips : List (Nat × Nat) := []
  /-- budget uses of the last 1,024 ticks, newest first, in 1/65,536 (R383). -/
  uses : List Nat := []
  /-- CONSTELLATIONS (R247). -/
  cConst : Cnt := 0
  /-- TRIGGERED (R247). -/
  cTrig : Cnt := 0
  /-- REVISIONS (R247). -/
  cRev : Cnt := 0
  /-- ABSENT_SLOTS (R247). -/
  cAbsent : Cnt := 0
  /-- LATE_ACCEPTED (R247). -/
  cLate : Cnt := 0
  /-- LATE_DROPS (R247). -/
  cLateDrops : Cnt := 0
  /-- REV_LIMIT_DROPS (R247). -/
  cRevLimit : Cnt := 0
  /-- DUPLICATE_DROPS (R247). -/
  cDup : Cnt := 0
  /-- HORIZON_DROPS (R247). -/
  cHorizon : Cnt := 0
  /-- FUTURE_DROPS (R247). -/
  cFuture : Cnt := 0
  /-- OFF_GRID_DROPS (R247). -/
  cOffGrid : Cnt := 0
  /-- SURPLUS (R247). -/
  cSurplus : Cnt := 0
  /-- OVERSIZE_DROPS (R247). -/
  cOversize : Cnt := 0
  /-- MEMBERSHIP_DROPS (R247). -/
  cMember : Cnt := 0
  /-- OVERRUNS (R40, R247). -/
  cOverruns : Cnt := 0
  /-- TICKS_SKIPPED (R247). -/
  cSkipped : Cnt := 0
  deriving DecidableEq, Repr

/-- A close or trigger that waits for the assembler (R44, R137). -/
structure AsmReq where
  /-- physical time of the close or trigger. -/
  edge  : Ps
  /-- the tick instant, for closes that a step of the time base fires; 0 for the others. -/
  order : Stamp
  zone  : Nat
  tick  : Nat
  deriving DecidableEq, Repr

/-- An assembly in progress: what it has sealed on its start edge, and its end (R44, R45, R228). -/
structure AsmRun where
  c      : Sealed
  done   : Ps
  /-- the device left ACTIVE and STANDBY after it started (R210). -/
  orphan : Bool
  deriving DecidableEq, Repr

/-- An entry of the revision queue (R233, R234). -/
structure RevEntry where
  zone   : Nat
  tick   : Nat
  /-- insertion plus REV_HOLD (R233). -/
  holdEnd : Ps
  /-- queued for service, at this edge (R233). -/
  queued : Option Ps
  deriving DecidableEq, Repr

/-- Use of the revision area (R235); `go`: the assembly starts on this edge, if no close or trigger takes it (R45, R236). -/
inductive RevArea where
  | idle
  | restaging (zone : Nat) (tick : Nat)
  | ready (zone : Nat) (tick : Nat) (go : Bool)
  | assembling (c : Sealed) (done : Ps)
  | held (zone : Nat) (tick : Nat) (rev : Nat)
  deriving DecidableEq, Repr

/-- State of chapter 05. -/
structure AlignSt where
  /-- ZONE_0 to ZONE_63; a zone not listed is FREE (R206). -/
  zones : Tab Zone := []
  /-- closes and triggers waiting for the assembler, in service order (R44). -/
  asmQueue : List AsmReq := []
  /-- the revision-0 assembly in progress (R44). -/
  asm : Option AsmRun := none
  /-- constellations waiting for the coherency unit (R46). -/
  cohQueue : List Sealed := []
  /-- the constellation in the coherency unit, and its completion (R46). -/
  coh : Option (Sealed × Ps) := none
  /-- constellations waiting for the band-energy monitor (R46). -/
  bandQueue : List Sealed := []
  /-- the constellation in the band-energy monitor, and its completion (R46). -/
  band : Option (Sealed × Ps) := none
  /-- stagings whose copies are in progress: zone and tick, in service order (R225). -/
  stagings : List (Nat × Nat) := []
  /-- the revision queue, at most 1,024 entries (R234). -/
  revQueue : List RevEntry := []
  /-- the revision area (R235). -/
  revArea : RevArea := .idle
  /-- UNZONED (R248). -/
  cUnzoned : Cnt := 0
  /-- STOPPED_DROPS (R248). -/
  cStopped : Cnt := 0
  /-- REV_QUEUE_DROPS (R248). -/
  cRevQueue : Cnt := 0
  /-- REV_ABANDONED (R248). -/
  cRevAbandoned : Cnt := 0
  deriving DecidableEq, Repr

end Sys2Proof.Machine
end

