-- ==== Sys2Proof/Machine/StateDetect.lean ====
section
/-! DEFINITION. State of the coherency unit, the band-energy monitor, the alarm logic and the analysis engines
(08_grid_event_detection.md, 09_analysis_engines.md).  Every field's default value is its value in `State.reset`. -/

namespace Sys2Proof.Machine

/-- A vertex entry (R318). -/
structure Vertex where
  ref    : StreamRef
  phasor : Nat
  deriving DecidableEq, Repr

/-- An edge entry (R319). -/
structure Edge where
  a : Nat
  b : Nat
  angleOffset : F32
  angleLimit  : F32
  freqLimit   : F32
  freqTest    : Bool
  deriving DecidableEq, Repr

/-- A coherency result (R324, R326). -/
structure CohResult where
  seq        : Nat
  instant    : Stamp
  lit        : Nat
  components : Nat
  islands    : Nat
  islanded   : Nat
  mainLabel  : Nat
  labels     : List Nat
  deriving DecidableEq, Repr

/-- A zone's coherency settings and results (R320, R326). -/
structure CohZone where
  /-- COH_ENABLE (R320). -/
  enable : Bool := false
  /-- FIRST_VERTEX (R320). -/
  firstVertex : Nat := 0
  /-- VERTEX_COUNT (R320). -/
  vertexCount : Nat := 0
  /-- FIRST_EDGE (R320). -/
  firstEdge : Nat := 0
  /-- EDGE_COUNT (R320). -/
  edgeCount : Nat := 0
  /-- REFERENCE (R320). -/
  reference : Option Nat := none
  /-- MIN_ISLAND (R320). -/
  minIsland : Nat := 2
  /-- UNKNOWN_POLICY OPEN (R320). -/
  unknownOpen : Bool := false
  /-- FLAGGED_DARK (R320). -/
  flaggedDark : Bool := true
  /-- result of the latest tick (R326). -/
  latest : Option CohResult := none
  /-- result at the last ISLAND raise (R326). -/
  atRaise : Option CohResult := none
  /-- COH_EVALS (R355). -/
  cEvals : Cnt := 0
  /-- ISLAND_TICKS (R355). -/
  cIsland : Cnt := 0
  /-- OSC_EVALS (R355). -/
  cOsc : Cnt := 0
  deriving DecidableEq, Repr

/-- A snapshot of the tables and settings that a running evaluation uses (R326). -/
structure CohInput where
  zone     : CohZone
  vertices : List (Nat × Option Vertex)
  /-- the phasor count of the accepted configuration of each vertex's stream; 0 without one (R321). -/
  phasors  : List (Nat × Nat)
  edges    : List Edge
  deriving DecidableEq, Repr

/-- A band of a zone (R329). -/
structure Band where
  enable : Bool
  fLo    : F32
  fHi    : F32
  deriving DecidableEq, Repr

/-- A zone's band settings (R329, R330). `wPk` and `wRms` are none for the default of R330, which follows RATE. -/
structure OscZone where
  /-- B0 to B5, none for the defaults of R329. -/
  bands : Option (List Band) := none
  /-- W_pk in ticks (R330). -/
  wPk : Option Nat := none
  /-- W_rms in ticks (R330). -/
  wRms : Option Nat := none
  /-- attack in ms (R330). -/
  attack : Nat := 500
  /-- release in ms (R330). -/
  release : Nat := 10000
  /-- FILL_LIMIT in ticks (R328). -/
  fillLimit : Nat := 3
  deriving DecidableEq, Repr

/-- State and results of one band of one signal (R329 to R331). -/
structure BandSt where
  /-- the two registers of each section (R329). -/
  filter : List F64 := []
  /-- outputs y, newest first, up to the longer window. -/
  ys     : List F64 := []
  /-- ENVELOPE. -/
  env    : F64 := 0
  deriving DecidableEq, Repr

/-- A signal entry of the band-energy monitor with its state (R327, R328, R331). -/
structure Signal where
  zone  : Nat
  type  : Nat
  ref   : StreamRef
  item  : Nat
  ref2  : StreamRef
  item2 : Nat
  group : Nat
  /-- last available input (R328). -/
  u     : Option F64 := none
  /-- last angle difference d (R328). -/
  d     : Option F32 := none
  /-- consecutive unavailable ticks (R328). -/
  fill  : Nat := 0
  /-- ticks since the reset (R331). -/
  age   : Nat := 0
  bands : List BandSt := []
  /-- SEQ of the latest tick. -/
  seq   : Nat := 0
  deriving DecidableEq, Repr

/-- States of an alarm definition (R338); codes of R353 in the order listed. -/
inductive AlmState where
  | disabled | arming | idle | pickup | raised | dropout | latched
  deriving DecidableEq, Repr

/-- The raw result of a tick (R335). -/
inductive Raw where
  | yes | no | undecided
  deriving DecidableEq, Repr

/-- Source of an alarm definition with its parameters (R335, R354). -/
inductive AlmSource where
  | island
  | oscillation (band : Nat) (group : Nat) (detector : Nat) (minSignals : Nat) (hyst : F32)
  | kernel (flow : Nat) (output : Nat) (mode : Nat) (threshold : F32)
  | dataLoss (minPresent : Nat)
  deriving DecidableEq, Repr

/-- The content of an alarm frame as of its transition event (R346 to R350). -/
structure AlmEvent where
  type     : Nat
  test     : Bool
  raised   : Bool
  stateNo  : BitVec 32
  decided  : Stamp
  tick     : Stamp
  seq      : Nat
  tqCode   : Nat
  detail   : List Byte
  deriving DecidableEq, Repr

/-- An alarm definition (R334, R338). -/
structure AlmDef where
  /-- SOURCE and its parameters (R334). -/
  source : AlmSource
  /-- ZONE (R334). -/
  zone : Nat
  /-- PICKUP (R334). -/
  pickup : Nat
  /-- DROPOUT (R334). -/
  dropout : Nat
  /-- LATCH (R334). -/
  latch : Bool
  /-- PIN_MASK (R334). -/
  pinMask : BitVec 16
  /-- DEST_MASK (R334). -/
  destMask : BitVec 8
  /-- SEVERITY (R334). -/
  severity : Nat
  /-- state (R338). -/
  state : AlmState := .arming
  /-- count (R338). -/
  count : Nat := 0
  /-- STATE_NO (R612). -/
  stateNo : BitVec 32 := 0
  /-- physical time at which a running test ends (R344). -/
  testEnd : Option Ps := none
  /-- tick instant, SEQ and DETAIL of the latest decided tick since ARMING (R346). -/
  lastTick : Option (Stamp × Nat × List Byte) := none
  /-- the newest transition event, and its physical time (R350). -/
  event : Option (AlmEvent × Ps) := none
  /-- destination, REPEAT_NO and physical time of its next repeat (R350). -/
  nextRepeat : List (Nat × Nat × Ps) := []
  /-- results of ticks that wait for the decision of a tick of the zone with a lower SEQ: tick, SEQ, result, DETAIL (R338). -/
  held : List (Stamp × Nat × Raw × List Byte) := []
  /-- on a STANDBY: mirrored state, count and SEQ (R507). -/
  mirrored : Option (AlmState × Nat × Nat) := none
  /-- on a STANDBY: SEQ and raw results of the last 16 decided ticks, newest first (R508). -/
  rawHist : List (Nat × Raw) := []
  /-- RAISES (R355). -/
  cRaises : Cnt := 0
  /-- CLEARS (R355). -/
  cClears : Cnt := 0
  /-- UNDECIDED_TICKS (R355). -/
  cUndecided : Cnt := 0
  deriving DecidableEq, Repr

/-- An alarm destination (R345). -/
structure AlmDest where
  /-- enable (R345). -/
  enable : Bool := false
  /-- WAN port (R345). -/
  port : Nat := 0
  /-- IPv6 in place of IPv4 (R345). -/
  ipv6 : Bool := false
  /-- destination MAC (R345). -/
  mac : Nat := 0
  /-- destination IP (R345). -/
  ip : Nat := 0
  /-- UDP source port (R345). -/
  srcPort : Nat := 0
  /-- UDP destination port (R345). -/
  dstPort : Nat := 0
  /-- VLAN ID, 0 untagged (R345). -/
  vlan : Nat := 0
  /-- priority (R345). -/
  priority : Nat := 0
  /-- DSCP (R345). -/
  dscp : Nat := 46
  /-- REPEAT_MAX in ms (R345). -/
  repeatMax : Nat := 1000
  deriving DecidableEq, Repr

/-- State of chapter 08. -/
structure DetectSt where
  /-- the vertex table; an entry not listed is unused (R317). -/
  vertices : Tab Vertex := []
  /-- the edge table; an entry not listed is unused (R317). -/
  edges : Tab Edge := []
  /-- coherency settings and results by zone (R320). -/
  coh : Tab CohZone := []
  /-- the tables as the evaluations waiting or running use them, by zone and tick (R326). -/
  cohInputs : List (Nat × Nat × CohInput) := []
  /-- band settings by zone (R329). -/
  osc : Tab OscZone := []
  /-- the 4,096 signal entries; an entry not listed is unused (R327). -/
  signals : Tab Signal := []
  /-- THR_ON by group: six bands of PEAK, RMS, ENVELOPE; a group not listed holds +∞ (R332). -/
  thresholds : Tab (List F32) := []
  /-- ALD_0 to ALD_255; a definition not listed is DISABLED (R334). -/
  alarms : Tab AlmDef := []
  /-- destinations 0 to 7 (R345). -/
  dests : Vector AlmDest 8 := Vector.replicate 8 {}
  /-- pin levels on their way to the ALM drivers: due time and released pins (R343). -/
  pinQueue : List (Ps × BitVec 16) := []
  /-- ALM_0 to ALM_15 as driven: bit n set when released (R75, R342). -/
  pins : BitVec 16 := 0xFFFF#16
  /-- ALARM_FRAMES per WAN port (R355). -/
  cFrames : Vector Cnt 4 := Vector.replicate 4 0
  /-- ALARM_REPEATS per WAN port (R355). -/
  cRepeats : Vector Cnt 4 := Vector.replicate 4 0
  /-- ALARM_TX_DROP per WAN port (R355). -/
  cTxDrop : Vector Cnt 4 := Vector.replicate 4 0
  /-- REPEAT_DROP per WAN port (R355). -/
  cRepeatDrop : Vector Cnt 4 := Vector.replicate 4 0
  /-- RAISES, CLEARS and UNDECIDED_TICKS of definitions that are DISABLED now (R355). -/
  cAlarmOld : Tab (Cnt × Cnt × Cnt) := []
  /-- OSC_SIGNAL_RESETS (R355). -/
  cSignalResets : Cnt := 0
  deriving DecidableEq, Repr

/-- An entry of a parameter table (R375). -/
structure ParamEntry where
  ref    : StreamRef
  item   : Nat
  role   : Nat
  link   : Nat
  weight : F32
  deriving DecidableEq, Repr

/-- A parameter table in force (R375, R376). -/
structure ParamTable where
  kernel  : Nat
  scalars : List F32
  entries : List ParamEntry
  /-- rows and non-zeros of the matrix block. -/
  rows    : Nat
  nnz     : Nat
  bytes   : List Byte
  /-- an uncorrectable error: the table is marked failed (R527). -/
  failed  : Bool
  deriving DecidableEq, Repr

/-- A result slot of a flow's ring of four (R378). -/
structure ResultSlot where
  seq    : Nat
  tick   : Stamp
  kernel : Nat
  parts  : Nat
  posted : BitVec 4
  outs   : List F32
  body   : List Byte
  deriving DecidableEq, Repr

/-- A flow (R360, R374, R378). -/
structure Flow where
  /-- ENABLE (R360). -/
  enable : Bool := false
  /-- ZONE (R360). -/
  zone : Nat := 0
  /-- KERNEL (R360). -/
  kernel : Nat := 0
  /-- TABLE (R360). -/
  table : Nat := 0
  /-- PARTS (R360). -/
  parts : Nat := 1
  /-- AFTER_FLOW (R360). -/
  after : Option Nat := none
  /-- the next item of part 0 carries STATE_RESET (R374). -/
  stateReset : Bool := true
  /-- the state area, by part, as the last posted items left it (R374). -/
  state : Tab (List Byte) := []
  /-- the copy of the state area that the posting of each part has selected (R374). -/
  copy : Tab Bool := []
  /-- result ring, by SEQ mod 4; a slot not listed is empty (R378). -/
  ring : Tab ResultSlot := []
  deriving DecidableEq, Repr

/-- What an engine passes with an item's release (R368): the four posted outputs and their posted mask, the body rows
of the part (R378), and the state copy it wrote (R374). -/
structure KernelOut where
  posted : BitVec 4
  out    : List F32
  body   : List Byte
  state  : List Byte
  deriving DecidableEq, Repr

/-- A work item (R362) and where it stands. -/
structure Item where
  kernel : Nat
  zone   : Nat
  flow   : Nat
  parts  : Nat
  part   : Nat
  seq    : Nat
  tick   : Nat
  instant : Stamp
  first  : Nat
  stateReset : Bool
  retry  : Bool
  /-- the close instant of the next tick: the order of dispatch (R365). -/
  deadline : Stamp
  /-- AFTER_FLOW as the flow had it (R365). -/
  after  : Option Nat
  /-- the flow's state counts as empty on this tick: part 0 carries STATE_RESET (R374). -/
  fresh   : Bool
  /-- the table's number, its content, and the part's entries (R361, R376). -/
  table   : Nat
  content : ParamTable
  entries : List ParamEntry
  deriving DecidableEq, Repr

/-- Progress of a dispatched item in the reorder buffer (R367 to R369). -/
inductive RobState where
  | running | released | fenced | aborted
  deriving DecidableEq, Repr

/-- A reorder-buffer entry (R367). -/
structure RobEntry where
  item    : Item
  state   : RobState
  outs    : Option KernelOut
  /-- physical time of the release (R368). -/
  releasedAt : Ps
  /-- its results are to be discarded (R40, R371). -/
  discard : Bool
  /-- the engine that aborted it (R365). -/
  notOn   : Option Nat
  deriving DecidableEq, Repr

/-- States of an engine (R359). -/
inductive EngineState where
  | waiting | running | selftest | offline
  deriving DecidableEq, Repr

/-- A stored code image (R592): what its header says, and the root that its signer matches when its hash and
signature check; none when they do not (R599, log entry 6). -/
structure Image where
  version   : Nat
  arb       : Nat
  setFmt    : Nat
  setFmtMin : Nat
  root      : Option (List Byte)
  deriving DecidableEq, Repr

/-- A write to DRAM: the reorder-buffer entry of the item that makes it, the address of the word, the word (R372). -/
structure WordWrite where
  entry : Nat
  addr  : Nat
  word  : Word32
  deriving DecidableEq, Repr

/-- An engine (R356, R359, R534). -/
structure Engine where
  /-- state (R359). -/
  state : EngineState := .waiting
  /-- reorder-buffer entry of the item it holds, and whether the item has arrived (R364). -/
  entry : Option (Nat × Bool) := none
  /-- physical time from which it is busy (R383). -/
  busySince : Ps := 0
  /-- physical times of its aborts (R534). -/
  aborts : List Ps := []
  /-- end of its self-test (R534). -/
  selftestEnd : Ps := 0
  /-- the instruction memory: the kernel catalogue that BOOT loaded; none before (R356, R357). -/
  imem : Option Image := none
  /-- the descriptor of the item it holds (R362). -/
  descriptor : List Byte := []
  /-- what the item reads, from its arrival on (R373). -/
  input : Option Config.KernelInput := none
  /-- the number of the draw that local data memory holds at the start of the item, where it is undefined (R356, R373). -/
  ldmDraw : Nat := 0
  /-- the bytes of local data memory that the item has written, of its 256 KiB (R356, R373). -/
  ldm : Tab Byte := []
  /-- the L1: number and content of its lines of 64 bytes, newest first, at most 512; none after a dispatch (R356, R372). -/
  l1 : List (Nat × List Byte) := []
  /-- the write buffer, oldest first: at most 8 entries of 64 bytes, the number of each and the words it holds (R356, R372). -/
  wbuf : List (Nat × List WordWrite) := []
  deriving DecidableEq, Repr

/-- A posting of a flow for a tick: outputs gathered part by part (R369). -/
structure Posting where
  zone   : Nat
  flow   : Nat
  seq    : Nat
  tick   : Nat
  /-- the last part has been posted. -/
  done   : Bool
  parts  : List KernelOut
  posted : BitVec 4
  outs   : List F32
  deriving DecidableEq, Repr

/-- State of chapter 09. -/
structure KernelSt where
  /-- FLOW_0 to FLOW_255; a flow not listed is disabled (R360). -/
  flows : Tab Flow := []
  /-- the 256 parameter tables in force (R375). -/
  tables : Tab ParamTable := []
  /-- chunks of a table being written (R375). -/
  chunks : Tab (List Byte) := []
  /-- the items of the assembly in progress, formed at its start: SEQ is filled in at its end (R361, R376, R384). -/
  plan : List Item := []
  /-- the scheduler's queue (R363). -/
  queue : List Item := []
  /-- the reorder buffer, at most 1,024 entries, by entry number (R367). -/
  rob : Tab RobEntry := []
  /-- next reorder-buffer entry number. -/
  robNext : Nat := 0
  /-- AE_0 to AE_11 (R356). -/
  engines : Vector Engine 12 := Vector.replicate 12 {}
  /-- postings by flow and tick (R369). -/
  posts : List Posting := []
  /-- words that have reached DRAM before their item is posted, newest first (R372). -/
  drained : List WordWrite := []
  /-- the times in which engines were RUNNING, newest first, as far back as the last whole second (R383). -/
  busyLog : List (Ps × Ps) := []
  /-- peak queue depth since the last read (R383). -/
  peakQueue : Nat := 0
  /-- peak reorder-buffer use since the last read (R383). -/
  peakRob : Nat := 0
  /-- ITEMS_QUEUED (R385). -/
  cQueued : Cnt := 0
  /-- ITEMS_DISPATCHED (R385). -/
  cDispatched : Cnt := 0
  /-- ITEMS_POSTED (R385). -/
  cPosted : Cnt := 0
  /-- ITEMS_REMOVED (R385). -/
  cRemoved : Cnt := 0
  /-- ITEMS_DISCARDED (R385). -/
  cDiscarded : Cnt := 0
  /-- RETRIES (R385). -/
  cRetries : Cnt := 0
  /-- RETRIES_POSTED (R385). -/
  cRetriesPosted : Cnt := 0
  /-- ROB_STALLS (R385). -/
  cStalls : Cnt := 0
  /-- OUTPUTS_NOT_POSTED (R385). -/
  cNotPosted : Cnt := 0
  deriving DecidableEq, Repr

end Sys2Proof.Machine
end

