-- ==== Sys2Proof/Machine/StateEgress.lean ====
section
/-! DEFINITION. State of the egress sessions, the transmit MACs, the DMA engine and the record queues
(10_egress.md, 11_dma_record_queues.md).  Every field's default value is its value in `State.reset`. -/

namespace Sys2Proof.Machine

/-- Delivery of a session (R386). -/
inductive Transport where
  | udpUnicast | udpMulticast | tcp
  deriving DecidableEq, Repr

/-- The settings of a session, in the order of R386; a row without a default starts at 0 (log entry 8). -/
structure SessCfg where
  /-- ENABLE (R386). -/
  enable : Bool := false
  /-- ZONE (R386). -/
  zone : Nat := 0
  /-- FIRST_SLOT (R386). -/
  firstSlot : Nat := 0
  /-- SLOT_COUNT (R386). -/
  slotCount : Nat := 0
  /-- PORT (R386). -/
  port : Nat := 0
  /-- TRANSPORT (R386). -/
  transport : Transport := .udpUnicast
  /-- IP version 6 (R386). -/
  ipv6 : Bool := false
  /-- destination address (R386). -/
  dstIp : Nat := 0
  /-- NEXT_HOP_MAC (R386). -/
  nextHop : Nat := 0
  /-- UDP source port (R386). -/
  srcPort : Nat := 4713
  /-- UDP destination port (R386). -/
  dstPort : Nat := 4713
  /-- LISTEN_PORT (R386). -/
  listenPort : Nat := 4712
  /-- PERMIT address (R386). -/
  permitIp : Nat := 0
  /-- PERMIT prefix length; none for a session never set: PERMIT none (R386). -/
  permitLen : Option Nat := none
  /-- VLAN ID (R386). -/
  vlan : Nat := 0
  /-- VLAN priority (R386). -/
  priority : Nat := 0
  /-- DSCP (R386). -/
  dscp : Nat := 34
  /-- IDCODE (R386). -/
  idcode : Nat := 0
  /-- ZONE_IDCODE (R386). -/
  zoneIdcode : Nat := 0
  /-- FLOWS (R386). -/
  flows : List Nat := []
  /-- CFG_TYPE, 2 or 3 (R386). -/
  cfgType : Nat := 2
  /-- CFG_PERIOD in s (R386). -/
  cfgPeriod : Nat := 60
  /-- CLASS EXPRESS (R386). -/
  express : Bool := false
  /-- LAUNCH TIMED (R386). -/
  timed : Bool := false
  /-- LAUNCH_OFFSET in µs (R386). -/
  launchOffset : Nat := 1000
  /-- REV_SEND ALL (R386). -/
  revAll : Bool := true
  deriving DecidableEq, Repr

/-- The states of a session (R387), codes in the order listed. -/
inductive SessState where
  | disabled | idle | sending | suspended
  deriving DecidableEq, Repr

/-- The TCP connection of a session (R398 to R400). -/
structure SessTcp where
  peerIp   : Nat
  peerPort : Nat
  mss      : Nat
  /-- transmission has been turned on (R398). -/
  on       : Bool
  /-- sequence number of the next octet to send. -/
  seq      : BitVec 32
  /-- octets sent and not acknowledged, oldest first. -/
  unacked  : List Byte
  /-- the peer's window. -/
  window   : Nat
  /-- physical time since which the window has given no room (R399). -/
  noRoom   : Option Ps
  /-- octets cut into segments so far. -/
  cutTo    : Nat
  deriving DecidableEq, Repr

/-- A station of a configuration frame: name, IDCODE, channel names, current phasors, 50 Hz (R395). -/
structure PmuBlock where
  stn    : List Byte
  idcode : Nat
  phNames : List (List Byte)
  anNames : List (List Byte)
  dgNames : List (List Byte)
  phTypes : List Bool
  fnom50 : Bool
  deriving DecidableEq, Repr

/-- What the configuration frame of a session describes: its stations and DATA_RATE (R395). -/
structure SessContent where
  blocks : List PmuBlock
  rate   : Nat
  deriving DecidableEq, Repr

/-- What a queued transmit frame is (R402). -/
inductive TxKind where
  /-- an alarm transition frame or repeat of a definition (R349, R350). -/
  | alarm (ald : Nat) (repeat_ : Bool)
  /-- a frame, or one fragment of it, of a session: SEQ, revision; the last or only fragment carries `final`. -/
  | session (number : Nat) (seq : BitVec 32) (rev : Nat) (final : Bool)
  /-- a configuration or header frame of a session. -/
  | config (number : Nat) (final : Bool)
  /-- a TCP segment of a session: the first and the last of its send, and the octets of the connection up to its end (R400). -/
  | segment (number : Nat) (first final : Bool) (upTo : Nat)
  /-- the device's peer-delay request of a sequence number, a PTP event message (R127, R402). -/
  | ptpRequest (seq : Nat)
  /-- the answer to a peer-delay request whose arrival was stamped so, a PTP event message (R128, R402). -/
  | ptpAnswer (got : Stamp)
  /-- an EAPOL frame of MKA, sent unprotected (R409). -/
  | eapol
  /-- other supervisor traffic (R170, R187, R398, R402). -/
  | supervisor (what : String)
  deriving DecidableEq, Repr

/-- What a transmit completion carries (R157, R158, R402, R410). -/
inductive TxResult where
  | sent | late | droppedLate | droppedFar | droppedFull | droppedNoSa
  deriving DecidableEq, Repr

/-- An egress session (R386, R387, R415). -/
structure Session where
  /-- settings (R386). -/
  cfg : SessCfg := {}
  /-- state (R387). -/
  state : SessState := .disabled
  /-- enabled, and waiting for the first revision-0 assembly of its zone that starts after (R386). -/
  fresh : Bool := false
  /-- physical time of the last accepted change (R390). -/
  changedAt : Option Ps := none
  /-- CFGCNT (R395). -/
  cfgCnt : BitVec 16 := 0
  /-- layout of the last tick whose revision 0 it took: member and counts by slot of the zone (R396). -/
  layout : Option (List (StreamRef × (Nat × Nat × Nat))) := none
  /-- sent mark: SEQ and revision of the last frame sent (R411). -/
  mark : Option (BitVec 32 × Nat) := none
  /-- the content of its configuration frame at that tick, by whose change CFGCNT counts (R395). -/
  content : Option SessContent := none
  /-- physical time of the last sending of the configuration (R396). -/
  cfgSentAt : Ps := 0
  /-- the TCP connection (R398). -/
  tcp : Option SessTcp := none
  /-- the send buffer in DRAM, octets not yet cut into segments, at most 256 KiB with the unacknowledged (R399). -/
  sendBuf : List Byte := []
  /-- the frames in the send buffer and on their way, by the octet of the connection at which each ends (R399, R411). -/
  bufEnds : List (Nat × TxKind) := []
  /-- FRAMES_SENT (R415). -/
  cSent : Cnt := 0
  /-- REVISIONS_SENT (R415). -/
  cRevSent : Cnt := 0
  /-- CFG_SENT (R415). -/
  cCfg : Cnt := 0
  /-- BUF_DROPS (R415). -/
  cBufDrops : Cnt := 0
  /-- SESS_LATE_SENT (R415). -/
  cLateSent : Cnt := 0
  /-- SESS_LATE_DROPPED (R415). -/
  cLateDropped : Cnt := 0
  /-- TCP_CONNECTS (R415). -/
  cConnects : Cnt := 0
  /-- TCP_RESETS (R415). -/
  cResets : Cnt := 0
  /-- CMD_IGNORED (R415). -/
  cIgnored : Cnt := 0
  deriving DecidableEq, Repr

/-- A frame queued on a port: its octets from the destination address, before SecTAG, ICV and FCS (R402). -/
structure TxFrame where
  kind     : TxKind
  octets   : List Byte
  priority : Nat
  /-- launch time of a TIMED frame (R401). -/
  launch   : Option Stamp
  /-- judged late at its decision point and sent flagged (R157). -/
  late     : Bool
  /-- its decision point has been served (R156). -/
  judged   : Bool := false
  /-- physical time of the decision edge of an alarm frame (R349). -/
  edge     : Ps := 0
  /-- physical time at which its first octet can be at the pins at the earliest: of an alarm frame, 410 NCLK after its
  decision edge (R60, R349). -/
  readyAt  : Ps := 0
  deriving DecidableEq, Repr

/-- The secure association under which a frame is protected: its number, the key number, and the frame's packet number
(R409, R410). -/
structure Protection where
  an  : Nat
  key : Nat
  pn  : Nat
  deriving DecidableEq, Repr

/-- A frame that a MAC is sending (R403, R405). -/
structure TxRun where
  frame    : TxFrame
  /-- physical time at which its last octet leaves the pins, as far as it is not cut. -/
  done     : Ps
  /-- physical time at which the frame data of the fragment in flight begins (R405). -/
  from_    : Ps
  /-- octets on the wire still to send when it was cut, and the time of the cut; none while it is being sent (R405). -/
  cut      : Option Nat
  /-- it was cut at least once. -/
  wasCut   : Bool
  /-- how it is protected, by the association current when its first octet left the transmit buffer; none if it is not (R409,
  R410). -/
  protect  : Option Protection := none
  deriving DecidableEq, Repr

/-- The transmit side of a WAN port (R402 to R410, R415). -/
structure TxPort where
  /-- port MTU (R406). -/
  mtu : Nat := 1500
  /-- preemption enabled (R404). -/
  preempt : Bool := false
  /-- preemption active (R404). -/
  active : Bool := false
  /-- verify attempts so far; none when no verification runs (R404). -/
  verify : Option Nat := none
  /-- physical time of the last verify attempt (R404). -/
  verifyAt : Ps := 0
  /-- PAUSE set to OBEY (R407). -/
  pauseObey : Bool := false
  /-- PFC set to OBEY (R407). -/
  pfcObey : Bool := false
  /-- physical time from which the pause counts (R408). -/
  pauseFrom : Ps := 0
  /-- physical time at which the pause ends, by priority (R408). -/
  pauseTo : Vector Ps 8 := Vector.replicate 8 0
  /-- quanta of a pause that starts at the end of the frame in flight, by priority (R408). -/
  pauseNext : Vector (Option Nat) 8 := Vector.replicate 8 none
  /-- EXP_ALARM, 32 deep (R402). -/
  expAlarm : List TxFrame := []
  /-- EXP_LAUNCH, 64 deep, in launch order (R402). -/
  expLaunch : List TxFrame := []
  /-- EXP_NOW, 64 deep (R402). -/
  expNow : List TxFrame := []
  /-- PRE_LAUNCH, 256 deep, in launch order (R402). -/
  preLaunch : List TxFrame := []
  /-- PRE_NOW, 1,024 deep (R402). -/
  preNow : List TxFrame := []
  /-- the frame in the express MAC (R403). -/
  expRun : Option TxRun := none
  /-- the frame in the preemptable MAC (R403, R405). -/
  preRun : Option TxRun := none
  /-- physical time at which the inter-packet gap behind the last frame ends (R405). -/
  freeAt : Ps := 0
  /-- the preemptable MAC is between two segments of one send (R400). -/
  tsoOpen : Bool := false
  /-- IPv4 identification counter (R406). -/
  ident4 : BitVec 16 := 0
  /-- IPv6 Fragment identification counter (R406). -/
  ident6 : BitVec 32 := 0
  /-- transmit packet number (R410). -/
  pn : Nat := 0
  /-- a secure association is installed (R410). -/
  sa : Bool := false
  /-- a new association has been asked of MKA (R410). -/
  saAsked : Bool := false
  /-- TX_FRAMES (R415). -/
  cFrames : Cnt := 0
  /-- TX_EXPRESS (R415). -/
  cExpress : Cnt := 0
  /-- TX_PREEMPTED (R415). -/
  cPreempted : Cnt := 0
  /-- EXPRESS_HELD (R415). -/
  cHeld : Cnt := 0
  /-- VERIFY_FAILS (R415). -/
  cVerifyFails : Cnt := 0
  /-- TSO_SENDS (R415). -/
  cTsoSends : Cnt := 0
  /-- TSO_SEGMENTS (R415). -/
  cTsoSegs : Cnt := 0
  /-- PAUSE_RX (R415). -/
  cPauseRx : Cnt := 0
  /-- PFC_RX (R415). -/
  cPfcRx : Cnt := 0
  /-- paused time in ps; PAUSED_NS is its whole nanoseconds (R415). -/
  pausedPs : Ps := 0
  /-- PN_EXHAUSTED (R415). -/
  cPnExhausted : Cnt := 0
  /-- DROPPED_FULL (R415). -/
  cDroppedFull : Cnt := 0
  deriving DecidableEq, Repr

/-- A forming request, with its edge (R393). -/
structure FormReq where
  edge    : Ps
  session : Nat
  zone    : Nat
  tick    : Nat
  rev     : Nat
  deriving DecidableEq, Repr

/-- A revision that waits for egress: the sessions that have still to form their frames (R393). -/
structure EgressWait where
  zone     : Nat
  tick     : Nat
  rev      : Nat
  sessions : List Nat
  deriving DecidableEq, Repr

/-- State of chapter 10. -/
structure EgressSt where
  /-- SESSION_0 to SESSION_255; a session not listed is DISABLED (R386). -/
  sessions : Tab Session := []
  /-- the transmit sides of WAN ports 0 to 3 (R402). -/
  ports : Vector TxPort 4 := Vector.replicate 4 {}
  /-- forming requests, in service order (R393). -/
  requests : List FormReq := []
  /-- the request in the formatter, and its completion (R393). -/
  forming : Option (FormReq × Ps) := none
  /-- revisions that wait for their sessions (R393). -/
  waits : List EgressWait := []
  deriving DecidableEq, Repr

/-- States of a DMA channel (R427), codes in the order listed. -/
inductive ChState where
  | idle | running | done | error
  deriving DecidableEq, Repr

/-- A descriptor (R423). -/
structure Desc where
  src    : Nat
  dst    : Nat
  len    : Nat
  srcWin : Bool
  dstWin : Bool
  deriving DecidableEq, Repr

/-- A list in progress: what START latched, and how far it has come (R427, R430, R433). -/
structure DmaRun where
  list    : Nat
  count   : Nat
  cmpl    : Nat
  noSnoop : Bool
  crcMode : Nat
  intEn   : Bool
  /-- index of the next descriptor to fetch. -/
  next    : Nat
  /-- the segment being copied. -/
  desc    : Option Desc
  /-- bytes of it whose reads have been issued (R417). -/
  issued  : Nat
  /-- bytes of it copied so far. -/
  copied  : Nat
  /-- bytes it has written, in ascending destination address. -/
  written : List Byte
  /-- CRC register over the segments completed. -/
  crc     : Word32
  /-- the last segment completed: end of its destination and its space, for APPEND (R434). -/
  last    : Option (Nat × Bool)
  /-- the list ends with this code once its transactions have ended (R429). -/
  ending  : Option Nat
  deriving DecidableEq, Repr

/-- A chunk of the DMA buffer: the transaction of a channel that holds it, with its place in the segment and, once its read
has ended, the data (R416, R417). -/
structure Chunk where
  ch   : Nat
  at_  : Nat
  len  : Nat
  data : Option (List Byte)
  deriving DecidableEq, Repr

/-- A DMA channel (R426). -/
structure DmaCh where
  /-- DMA_LIST_LO and DMA_LIST_HI (R426). -/
  list : BitVec 64 := 0
  /-- DMA_COUNT (R426). -/
  count : BitVec 13 := 0
  /-- DMA_CMPL_LO and DMA_CMPL_HI (R426). -/
  cmpl : BitVec 64 := 0
  /-- DMA_CTRL.NO_SNOOP (R426). -/
  noSnoop : Bool := false
  /-- DMA_CTRL.CRC_MODE (R426). -/
  crcMode : BitVec 2 := 0
  /-- DMA_CTRL.INT_EN (R426). -/
  intEn : Bool := false
  /-- DMA_STATUS.STATE (R426). -/
  state : ChState := .idle
  /-- DMA_STATUS.START_REFUSED (R426). -/
  startRefused : Bool := false
  /-- DMA_STATUS.ERROR (R426). -/
  error : BitVec 8 := 0
  /-- DMA_STATUS.SEGMENT (R426). -/
  segment : BitVec 13 := 0
  /-- DMA_CRC (R426). -/
  crc : Word32 := 0
  /-- DMA_BYTES_LO and DMA_BYTES_HI (R426). -/
  bytes : BitVec 64 := 0
  /-- DMA_LISTS_OK (R426). -/
  listsOk : Cnt := 0
  /-- DMA_LISTS_ERR (R426). -/
  listsErr : Cnt := 0
  /-- the running list (R427). -/
  run : Option DmaRun := none
  deriving DecidableEq, Repr

/-- A line in the storage of a record queue, with its tag but for PHASE (R444). -/
structure RqLine where
  bytes      : List Byte
  valid      : Nat
  end_       : Bool
  afterFlush : Bool
  idlePush   : Bool
  start      : Bool
  firstWord  : Nat
  seq        : BitVec 16
  deriving DecidableEq, Repr

/-- The packing register (R443). -/
structure RqPack where
  words     : List Word32
  /-- valid bytes so far. -/
  valid     : Nat
  end_      : Bool
  start     : Bool
  firstWord : Nat
  /-- physical time of the last word (R445). -/
  lastAt    : Ps
  deriving DecidableEq, Repr

/-- Producers of a record queue (R440). -/
inductive Producer where
  | eventCapture | journal
  deriving DecidableEq, Repr

/-- A record queue (R439 to R451). -/
structure Rq where
  /-- RQ_BASE_LO and RQ_BASE_HI (R451). -/
  base : BitVec 64 := 0
  /-- RQ_TAG_LO and RQ_TAG_HI (R451). -/
  tag : BitVec 64 := 0
  /-- RQ_CTRL.ENABLE (R451). -/
  enable : Bool := false
  /-- RQ_CTRL.MODE, set for ALIGNED (R451). -/
  aligned : Bool := false
  /-- RQ_CTRL.LOG2_LINES (R451). -/
  log2 : BitVec 5 := 6
  /-- RQ_CTRL.INT_EN (R451). -/
  intEn : Bool := false
  /-- RQ_CTRL.IDLE_US (R451). -/
  idleUs : BitVec 16 := 100
  /-- RQ_HEAD (R451). -/
  head : BitVec 32 := 0
  /-- RQ_TAIL (R451). -/
  tail : BitVec 32 := 0
  /-- RQ_STATUS.FLUSH_PENDING (R451). -/
  flushPending : Bool := false
  /-- physical time of the last flush (R448). -/
  flushedAt : Ps := 0
  /-- AFTER_FLUSH is armed (R448). -/
  armed : Bool := false
  /-- the bound producer; RQ_STATUS.BOUND (R440, R451). -/
  bound : Option Producer := none
  /-- RQ_STATUS.CFG_ERR (R451). -/
  cfgErr : Bool := false
  /-- RQ_ITEMS_FULL (R451). -/
  cFull : Cnt := 0
  /-- RQ_FLUSHES (R451). -/
  cFlushes : Cnt := 0
  /-- RQ_IDLE_PUSHES (R451). -/
  cIdle : Cnt := 0
  /-- RQ_OFF_WORDS (R451). -/
  cOff : Cnt := 0
  /-- RQ_LINES (R451). -/
  cLines : Cnt := 0
  /-- storage of 128 lines, oldest first (R439). -/
  lines : List RqLine := []
  /-- the packing register (R439). -/
  pack : Option RqPack := none
  /-- lines reserved for the admitted item in progress; none when no item is in progress (R442). -/
  reserved : Option Nat := none
  /-- LINE_SEQ of the next line pushed (R444). -/
  lineSeq : BitVec 16 := 0
  deriving DecidableEq, Repr

/-- State of chapter 11. -/
structure DmaSt where
  /-- CH_0 to CH_13 (R418). -/
  chans : Vector DmaCh 14 := Vector.replicate 14 {}
  /-- the chunks of the 64 KiB buffer that transactions hold, oldest first, at most 128 (R416, R417). -/
  buffer : List Chunk := []
  /-- the channel that the round robin serves next (R419). -/
  turn : Nat := 0
  /-- RQ_0 to RQ_31 (R439). -/
  queues : Vector Rq 32 := Vector.replicate 32 {}
  /-- the host window; a byte not listed holds 0, as BOOT's wipe leaves it (R422, R578). -/
  window : List Host.Cell := []
  /-- byte addresses, in the window, of 32-bit beats that cannot be read and have not been written since (R527). -/
  winBad : List Nat := []
  deriving DecidableEq, Repr

end Sys2Proof.Machine
end

