-- ==== Sys2Proof/Machine/StateHost.lean ====
section
/-! DEFINITION. State of the PCIe endpoint, the interrupts, the command interfaces, the change journal and the
settings records (12_host_command_interface.md, R580 to R582).  Every field's default value is its value in
`State.reset`. -/

namespace Sys2Proof.Machine

/-- Where a command came from, and so where its reply goes (R466). A `direct` command is one given to the model as a
row of its own: its reply leaves at once (log entry 2). -/
inductive Origin where
  | direct
  | ring (submit : Nat)
  | mgmt (ip : Nat) (port : Nat)
  | svc
  deriving DecidableEq, Repr

/-- A packet that has passed steps 1 to 6 of R470 and waits for execution. -/
structure QCmd where
  ifc    : Nat
  origin : Origin
  opcode : Nat
  tag    : Nat
  epoch  : Nat
  /-- LENGTH of the header. -/
  length : Nat
  params : List Byte
  /-- the FCLK edge on which it completed arrival (R471). -/
  edge   : Nat := 0
  deriving DecidableEq, Repr

/-- A reply on its way (R465). -/
structure Reply where
  ifc    : Nat
  opcode : Nat
  tag    : Nat
  epoch  : Nat
  status : Nat
  offset : Nat
  data   : List Byte
  /-- its packet took a tag, which the reply frees as it leaves (R469, R470). -/
  taken  : Bool
  deriving DecidableEq, Repr

/-- What a command that takes longer than 10 ms, or waits for the journal commit, is doing (R471, R485). -/
inductive LongOp where
  /-- SYS_COMMIT, with RUN_AT_BOOT (R581). -/
  | commit (runAtBoot : Bool)
  /-- SEC_SET_LIFECYCLE, with the target (R556). -/
  | lifecycle (target : Nat)
  /-- SEC_SET_OWNER_ROOT, with the slot and the digest (R559). -/
  | ownerRoot (slot : Nat) (digest : List Byte)
  /-- UPD_WRITE, with offset and data (R598). -/
  | updWrite (offset : Nat) (data : List Byte)
  /-- UPD_END, with FINAL, AUTO_CONFIRM and the window (R599). -/
  | updEnd (final : Bool) (auto : Bool) (window : Nat)
  /-- UPD_BEGIN, with the header (R597). -/
  | updBegin (header : List Byte)
  /-- UPD_CONFIRM (R604). -/
  | updConfirm
  /-- UPD_ABORT (R607). -/
  | updAbort
  /-- ZONE_ADD_STREAM of a stream of another device: link and LSEQ of its CONTROL frame, zone, position, index, and the
  reply data (R497). -/
  | remoteAdd (link : Nat) (lseq : Nat) (zone : Nat) (position : Nat) (index : Nat) (data : List Byte)
  /-- PAIR_SWITCHOVER on the STANDBY, which waits for the GRANT (R519). -/
  | switchover
  /-- a command whose effect is done and whose completion waits for the journal commit of R485. -/
  | journalCommit (status : Nat) (offset : Nat) (data : List Byte)
  deriving DecidableEq, Repr

/-- A command that is executing (R471). -/
structure Exec where
  cmd : QCmd
  op  : LongOp
  /-- an interface reset has discarded its reply (R468). -/
  mute : Bool
  deriving DecidableEq, Repr

/-- A journal entry (R483). -/
structure JEntry where
  jseq   : BitVec 32
  time   : Stamp
  ifc    : Nat
  status : Nat
  opcode : Nat
  tag    : Nat
  epoch  : Nat
  crc    : Word32
  committed   : Bool
  timeInvalid : Bool
  deriving DecidableEq, Repr

/-- A settings record (R581): the setting it is the newest command of, opcode and parameters. -/
structure Setting where
  key    : Nat × List Nat
  opcode : Nat
  params : List Byte
  deriving DecidableEq, Repr

/-- One of the three command interfaces RING, MGMT and SVC (R466, R488). -/
structure Iface where
  /-- the epoch, in the reserve domain (R467). -/
  epoch : BitVec 16 := 0
  /-- outstanding tags (R469). -/
  tags : List Nat := []
  /-- RX_PACKETS (R488). -/
  cPackets : Cnt := 0
  /-- SHORT_DROPS (R488). -/
  cShort : Cnt := 0
  /-- REPLY_FLAG_DROPS (R488). -/
  cFlag : Cnt := 0
  /-- EPOCH_REFUSALS (R488). -/
  cEpoch : Cnt := 0
  /-- TAG_REFUSALS (R488). -/
  cTag : Cnt := 0
  /-- QUEUE_REFUSALS (R488). -/
  cQueue : Cnt := 0
  /-- REPLIES_SENT (R488). -/
  cSent : Cnt := 0
  /-- REPLIES_DISCARDED (R488). -/
  cDiscarded : Cnt := 0
  /-- IF_RESETS (R488). -/
  cResets : Cnt := 0
  deriving DecidableEq, Repr

/-- A fetched submission descriptor whose completion entry is not yet written (R475, R476). -/
structure RingSlot where
  cap   : Nat
  addr  : Nat
  reply : Option Reply
  deriving DecidableEq, Repr

/-- The management port's settings (R477, R482). -/
structure MgmtCfg where
  /-- MAC address (R482). -/
  mac : Nat := 0
  /-- IPv4 address (R482). -/
  ipv4 : Nat := 0
  /-- IPv4 prefix length (R482). -/
  prefix4 : Nat := 0
  /-- IPv6 address (R482). -/
  ipv6 : Nat := 0
  /-- IPv6 prefix length (R482). -/
  prefix6 : Nat := 0
  /-- VLAN ID, 0 untagged (R482). -/
  vlan : Nat := 0
  /-- PHY MDIO address (R477, R482). -/
  phy : Nat := 0
  deriving DecidableEq, Repr

/-- One MSI-X vector (R459, R460). -/
structure MsixVec where
  /-- message address of the MSI-X table entry (R459). -/
  addr : BitVec 64 := 0
  /-- message data (R459). -/
  data : Word32 := 0
  /-- mask bit of the vector control (R459). -/
  masked : Bool := true
  /-- PBA pending bit (R459). -/
  pending : Bool := false
  /-- physical time of the last message (R460). -/
  lastMsg : Option Ps := none
  /-- an event waits for the end of the moderation gap (R460). -/
  held : Bool := false
  deriving DecidableEq, Repr

/-- The Bastik link (R586 to R591). -/
structure Bastik where
  /-- FSEQ of the last accepted host frame; none at the start (R590). -/
  lastRx : Option (BitVec 8) := none
  /-- the packet in progress (R590). -/
  rxBuf : Option (List Byte) := none
  /-- FSEQ of the next device fragment (R590). -/
  txSeq : BitVec 8 := 0
  /-- the last fragment sent: its FSEQ and octets (R590). -/
  txLast : Option (BitVec 8 × List Byte) := none
  /-- the rest of the reply being fetched, with its tag, and whether its first fragment was sent (R590). -/
  txRest : Option (Nat × List Byte × Bool) := none
  /-- replies waiting to be fetched, oldest first (R590). -/
  replies : List Reply := []
  deriving DecidableEq, Repr

/-- What the endpoint presents of itself in its configuration space (R452). -/
structure PciIdentity where
  /-- Vendor ID (R452). -/
  vendor : Nat := 0x1FA7
  /-- Device ID (R452). -/
  device : Nat := 0x7216
  /-- Revision ID (R452). -/
  revision : Nat := 0xB0
  /-- Subsystem Vendor ID (R452). -/
  subVendor : Nat := 0x1FA7
  /-- Subsystem ID (R452). -/
  subsystem : Nat := 0x0001
  /-- class code (R452). -/
  classCode : Nat := 0x118000
  /-- bytes of BAR0, 64-bit and not prefetchable (R452). -/
  bar0 : Nat := 0x400000
  /-- vectors of MSI-X (R452). -/
  vectors : Nat := 32
  /-- Interrupt Pin: no INTx (R452). -/
  interruptPin : Nat := 0
  /-- Max_Payload_Size supported, in bytes (R452). -/
  payloadSupported : Nat := 512
  /-- the highest generation and the width of the link (R452). -/
  link : Nat × Nat := (4, 4)
  /-- Advanced Error Reporting and Function Level Reset (R452). -/
  aer : Bool := true
  flr : Bool := true
  /-- No_Soft_Reset (R452). -/
  noSoftReset : Bool := false
  deriving DecidableEq, Repr

/-- State of chapter 12 and of the settings. -/
structure HostSt where
  /-- RING (code 0) (R466). -/
  ring : Iface := {}
  /-- MGMT (code 1) (R466). -/
  mgmt : Iface := {}
  /-- SVC (code 2) (R466). -/
  svc : Iface := {}
  /-- packets waiting for execution, in order of arrival (R471). -/
  waiting : List QCmd := []
  /-- the command that is executing (R471). -/
  executing : Option Exec := none
  /-- PCIe link up (R454). -/
  pcieUp : Bool := false
  /-- Bus Master Enable (R454). -/
  busMaster : Bool := false
  /-- Max_Payload_Size set in the endpoint, in bytes (R417). -/
  payload : Nat := 128
  /-- Max_Read_Request_Size set in the endpoint, in bytes (R417). -/
  readSize : Nat := 512
  /-- the identity of the endpoint (R452). -/
  pci : PciIdentity := {}
  /-- CMD_BASE_LO and CMD_BASE_HI (R473). -/
  cmdBase : BitVec 64 := 0
  /-- CPL_BASE_LO and CPL_BASE_HI (R473). -/
  cplBase : BitVec 64 := 0
  /-- CMD_CTRL.ENABLE and CMD_STATUS.ENABLED (R473). -/
  ringEnable : Bool := false
  /-- CMD_CTRL.LOG2_ENTRIES (R473). -/
  log2 : BitVec 4 := 4
  /-- CMD_TAIL (R473). -/
  cmdTail : BitVec 32 := 0
  /-- CMD_HEAD (R473). -/
  cmdHead : BitVec 32 := 0
  /-- CPL_HEAD (R473). -/
  cplHead : BitVec 32 := 0
  /-- CPL_TAIL (R473). -/
  cplTail : BitVec 32 := 0
  /-- CMD_STATUS.CFG_ERR (R473). -/
  cfgErr : Bool := false
  /-- CMD_STATUS.DOORBELL_ERR (R473). -/
  doorbellErr : Bool := false
  /-- descriptors fetched and not completed, in submission order, with their numbers (R476). -/
  slots : List (Nat × RingSlot) := []
  /-- SCRATCH (R457). -/
  scratch : Word32 := 0
  /-- INT_CAUSE_0 and, in the upper half, INT_CAUSE_1 (R459). -/
  cause : BitVec 64 := 0
  /-- INT_MASK_0 and, in the upper half, INT_MASK_1 (R459). -/
  mask : BitVec 64 := 0x0FFFFFFFFFFFFFFF#64
  /-- INT_MAP_0 to INT_MAP_15: the vector of each cause number (R459). -/
  map : Vector (BitVec 5) 64 := Vector.ofFn fun n => BitVec.ofNat 5 n.val
  /-- INT_MODERATION.GAP_US (R459). -/
  gapUs : BitVec 16 := 0
  /-- the MSI-X table and PBA (R459). -/
  msix : Vector MsixVec 32 := Vector.replicate 32 {}
  /-- CMD_READY (R457). -/
  cmdReady : Bool := false
  /-- the management port's settings in force (R482). -/
  mgmtCfg : MgmtCfg := {}
  /-- accepted management settings that wait for the reply to leave (R482). -/
  mgmtNext : Option MgmtCfg := none
  /-- management link up at 1000 Mb/s (R457, R477). -/
  mgmtLink : Bool := false
  /-- the Bastik link (R586). -/
  bastik : Bastik := {}
  /-- the change journal, newest first, at most 4,096 (R483). -/
  journal : List JEntry := []
  /-- next JSEQ, in the reserve domain (R486). -/
  nextJseq : BitVec 32 := 0
  /-- record queue of SYS_JOURNAL_ROUTE (R487). -/
  route : Option Nat := none
  /-- running settings, in command order (R580, R581). -/
  settings : List Setting := []
  /-- SETTINGS_DIRTY: 0 after a reset (R457, R583); BOOT sets it when it loads settings or defaults (R582). -/
  dirty : Bool := false
  /-- a WARM reset waits for the reply of SYS_RESET, INTEG_LEAVE_SAFE or SEC_SET_LIFECYCLE to leave (R585). -/
  warmDue : Bool := false
  /-- JOURNAL_OVERWRITES (R488). -/
  cOverwrites : Cnt := 0
  /-- JOURNAL_ROUTE_DROPS (R488). -/
  cRouteDrops : Cnt := 0
  /-- MGMT_UNPROTECTED (R488). -/
  cUnprotected : Cnt := 0
  deriving DecidableEq, Repr

end Sys2Proof.Machine
end

