-- ==== Sys2Proof/Machine/StatePair.lean ====
section
/-! DEFINITION. State of the peer links, the federation and the redundant pair (13_redundancy_federation.md).
Every field's default value is its value in `State.reset`. -/

namespace Sys2Proof.Machine

/-- States of a peer link (R494), codes in the order listed. -/
inductive LinkState where
  | down | training | joined | refused
  deriving DecidableEq, Repr

/-- A peer link (R489 to R494). -/
structure PeerLink where
  /-- state (R494). -/
  state : LinkState := .down
  /-- refusal reason, 0 for none (R496). -/
  reason : Nat := 0
  /-- far position of the last HELLO (R520). -/
  farPos : Nat := 0
  /-- far serial number of the last HELLO (R520). -/
  farSerial : Nat := 0
  /-- far FW_VER of the last HELLO (R491). -/
  farFw : Nat := 0
  /-- far CAT_VER of the last HELLO (R491). -/
  farCat : Nat := 0
  /-- class B LSEQ of the next frame sent, modulo 2³² (R490, R493). -/
  txSeq : Nat := 0
  /-- class B LSEQ expected next, modulo 2³² (R490, R493). -/
  rxSeq : Nat := 0
  /-- class B frames sent and not acknowledged, oldest first: LSEQ, TYPE, payload (R493). -/
  unacked : List (Nat × Nat × List Byte) := []
  /-- physical time of the last progress of the acknowledgement (R493). -/
  progressAt : Ps := 0
  /-- class B frames received and not yet acknowledged (R493). -/
  ackDue : Bool := false
  /-- consecutive heartbeats missed (R494). -/
  missed : Nat := 0
  /-- physical time from which missed heartbeats are counted: the last accepted one, or the join before the first (R494, R509). -/
  lastHb : Option Ps := none
  /-- physical time of the last heartbeat sent (R509). -/
  hbSentAt : Ps := 0
  /-- physical time of the last HELLO sent (R494). -/
  helloAt : Ps := 0
  /-- HB_SEQ of the next heartbeat sent (R509). -/
  hbSeq : BitVec 32 := 0
  /-- PEER_CRC_ERR (R521). -/
  cCrc : Cnt := 0
  /-- PEER_RESENDS (R521). -/
  cResends : Cnt := 0
  /-- LINK_DOWNS (R521). -/
  cDowns : Cnt := 0
  /-- RECORDS_TX (R521). -/
  cRecTx : Cnt := 0
  /-- RECORDS_RX (R521). -/
  cRecRx : Cnt := 0
  /-- HB_MISSED (R521). -/
  cMissed : Cnt := 0
  deriving DecidableEq, Repr

/-- The pair states (R503), codes in the order listed. -/
inductive PairState where
  | unpaired | listen | activeAlone | activePaired | standby | takingBack | handingOver
  deriving DecidableEq, Repr

/-- A GEN frame that is still to be repeated: context, home position, GEN, copies sent, physical time of the next copy (R499). -/
structure GenRepeat where
  index  : Nat
  home   : Nat
  gen    : Nat
  sent   : Nat
  nextAt : Ps
  deriving DecidableEq, Repr

/-- State of chapter 13. -/
structure PairSt where
  /-- PEER_0 to PEER_3 (R489). -/
  links : Vector PeerLink 4 := Vector.replicate 4 {}
  /-- federation enabled (R495). -/
  fedEnable : Bool := false
  /-- pairing enabled (R501). -/
  pairEnable : Bool := false
  /-- pair state (R503). -/
  state : PairState := .unpaired
  /-- physical time at which LISTEN began (R503). -/
  listenFrom : Ps := 0
  /-- MIRRORED (R504). -/
  mirrored : Bool := false
  /-- the end of the full mirror has come while its energy item waits for the next tap boundary (R504). -/
  fullDue : Bool := false
  /-- both devices have been seen ACTIVE since the partner was last seen otherwise (R512). -/
  dual : Bool := false
  /-- mirror items that have come between H and B, oldest first; the yielding device applies them from B (R517). -/
  heldItems : List MirrorItem := []
  /-- the partner's MIRRORED flag (R509). -/
  partnerMirrored : Bool := false
  /-- mode of the partner's last heartbeat or HELLO (R509). -/
  partnerMode : Nat := 0
  /-- pair state of the partner's last heartbeat or HELLO (R509). -/
  partnerState : Nat := 0
  /-- settings digest of the partner's last heartbeat (R502). -/
  partnerDigest : Word32 := 0
  /-- sent marks of the partner's last heartbeat: session, SEQ and revision (R509). -/
  marks : List (Nat × (BitVec 32 × Nat)) := []
  /-- VERSION_DIFFER (R501). -/
  versionDiffer : Bool := false
  /-- PAIR_CONFLICT (R501). -/
  conflict : Bool := false
  /-- under PAIR_CONFLICT: this device acts as primary until the next cold reset (R501). -/
  conflictPrimary : Option Bool := none
  /-- reversion enabled (R515). -/
  revert : Bool := true
  /-- hold time in s (R515). -/
  holdTime : Nat := 30
  /-- physical time since which the conditions of the hold timer have held (R515). -/
  holdFrom : Option Ps := none
  /-- a heartbeat on PEER_3 has been missed (R509, R515). -/
  hbMissed : Bool := false
  /-- the handover edge H: stamp and physical time (R516). -/
  handover : Option (Stamp × Ps) := none
  /-- REQUEST sent, answer not yet received (R515). -/
  requested : Bool := false
  /-- the declaration edge D of a takeover in progress (R513). -/
  declared : Option Ps := none
  /-- the arrival of the last accepted heartbeat on PEER_3; none before the first (R511, R513, R520). -/
  eclipseFrom : Option Ps := none
  /-- last eclipse in TCLK (R520). -/
  lastEclipse : Nat := 0
  /-- newest journal entries of the partner, newest first, at most 256 (R504). -/
  partnerJournal : List (List Byte) := []
  /-- GEN frames still to be repeated (R499). -/
  genRepeats : List GenRepeat := []
  /-- peer frames that have brought news of streams bound elsewhere: RECORD, GEN and acknowledgements (log entry 12). -/
  remoteEpoch : Nat := 0
  /-- revision numbers of ticks mirrored: zone, SEQ, revision (R506). -/
  revMirror : List (Nat × Nat × Nat) := []
  /-- TAKEOVERS (R521). -/
  cTakeovers : Cnt := 0
  /-- TAKEBACKS (R521). -/
  cTakebacks : Cnt := 0
  /-- SWITCHOVERS (R521). -/
  cSwitchovers : Cnt := 0
  /-- HANDOVER_REFUSED (R521). -/
  cRefused : Cnt := 0
  /-- DUAL_ACTIVE (R521). -/
  cDual : Cnt := 0
  /-- FULL_MIRRORS (R521). -/
  cFull : Cnt := 0
  /-- MIRROR_ITEMS_APPLIED (R521). -/
  cItems : Cnt := 0
  /-- REMOTE_STALE_DROPS (R521). -/
  cStale : Cnt := 0
  deriving DecidableEq, Repr

end Sys2Proof.Machine
end

