-- ==== Sys2Proof/Machine/StateSystem.lean ====
section
/-! DEFINITION. State of fault handling, keys and lifecycle, field update, modes and resets (14_integrity.md to
17_field_update.md).  Every field's default value is its value in `State.reset`. -/

namespace Sys2Proof.Machine

/-- The modes of R62; codes of R458 in the order listed. -/
inductive Mode where
  | boot | commission | active | standby | service | dormant | reserve | safe
  deriving DecidableEq, Repr

/-- The reset kinds of R576; codes in the order listed. -/
inductive ResetKind where
  | por | pin | warm | wdog | fault
  deriving DecidableEq, Repr

/-- Lifecycle states (R550); codes in the order listed. -/
inductive Lifecycle where
  | blank | manufacture | provisioned | field | return | scrapped
  deriving DecidableEq, Repr

/-- Where the device stands between no supplies and running (R75, R84 to R89, R542, R577). -/
inductive Phase where
  /-- no main supplies, the reserve domain lost. -/
  | unpowered
  /-- main rails present, held in reset of this kind. -/
  | held (kind : ResetKind)
  /-- out of reset: `SysSt.mode` says more. -/
  | running
  /-- the hand-off to RESERVE is in progress (R87). -/
  | handoff
  /-- RESERVE. -/
  | reserve
  /-- every clock but KCLK stopped by the thermal shutdown (R542). -/
  | thermal
  deriving DecidableEq, Repr

/-- An entry of the integrity log (R548). -/
structure LogEntry where
  time     : Stamp
  cls      : Nat
  unit     : Nat
  outcome  : Nat
  syndrome : Nat
  address  : Nat
  /-- reorder-buffer entry of the item whose retry decides whether the fault is masked (R533). -/
  retry    : Option Nat := none
  deriving DecidableEq, Repr

/-- LAST_FAULT (R545). -/
structure LastFault where
  time   : Stamp
  cls    : Nat
  unit   : Nat
  detail : Word32
  deriving DecidableEq, Repr

/-- An injected memory error: class, index, word address, flipped bits of the stored word; in DRAM, bit 39 is the
address bit A (R523, R548). -/
structure Injected where
  cls   : Nat
  index : Nat
  addr  : Nat
  flips : BitVec 40
  deriving DecidableEq, Repr

/-- State of chapter 14. -/
structure IntegSt where
  /-- TABLE_POLICY CONTINUE (R546). -/
  tableContinue : Bool := false
  /-- warning limit in °C (R542, R546). -/
  warnLimit : Nat := 95
  /-- AUTO_LEAVE in s, 0 off (R546). -/
  autoLeave : Nat := 0
  /-- ALM_FAULT (R543). -/
  almFault : BitVec 16 := 0
  /-- LAST_FAULT, in the reserve domain (R545). -/
  lastFault : LastFault := { time := 0, cls := 0, unit := 0, detail := 0 }
  /-- SAFE_ENTRIES, in the reserve domain (R545). -/
  safeEntries : BitVec 32 := 0
  /-- AUTO_LEAVES: instants of the automatic exits, newest first, in the reserve domain (R547). -/
  autoLeaves : List Stamp := []
  /-- the integrity log, oldest first, at most 256 (R548). -/
  log : List LogEntry := []
  /-- injected memory errors not yet overwritten (R548). -/
  injected : List Injected := []
  /-- write-backs queued, by DRAM channel, oldest first, at most 16 each: word addresses (R531). -/
  writeBacks : Vector (List Nat) 2 := Vector.replicate 2 []
  /-- patrol position of each DRAM channel, in 64-byte accesses (R529). -/
  patrol : Vector Nat 2 := Vector.replicate 2 0
  /-- domains that their monitors report faulty: PCLK, GCLK, KCLK, until a reset or the link's return (R540, R547). -/
  clockFaults : List ClockDomain := []
  /-- physical time until which a monitor of a lockout domain or of a rail still reports its fault (R547). -/
  monitorUntil : Ps := 0
  /-- three automatic exits within 24 h came before this stay in SAFE: it ends by the command (R547). -/
  safeStay : Bool := false
  /-- ALM pins that read high when read back after they were last driven low (R543, R548). -/
  almHigh : BitVec 16 := 0
  /-- the eight junction sensors, in 1/16 °C (R542). -/
  sensors : List Int := [0, 0, 0, 0, 0, 0, 0, 0]
  /-- TJ (R457). -/
  tj : Int := 0
  /-- TJ_MAX (R457). -/
  tjMax : Int := 0
  /-- TEMP_WARN (R457, R542). -/
  tempWarn : Bool := false
  /-- physical time since which TJ has been 110 °C or more (R542). -/
  hotSince : Option Ps := none
  /-- physical time since which TJ has been 125 °C or more (R542). -/
  scorchSince : Option Ps := none
  /-- RESERVE_UNAVAILABLE (R541). -/
  reserveUnavailable : Bool := false
  /-- physical time at which SAFE was entered (R547). -/
  safeSince : Ps := 0
  /-- the supervisors failed their self-test: SAFE with no command interface (R545). -/
  noInterface : Bool := false
  /-- CE of memory classes 0 to 14 (R549). -/
  cCe : Vector Cnt 15 := Vector.replicate 15 0
  /-- UE of memory classes 0 to 14 (R549). -/
  cUe : Vector Cnt 15 := Vector.replicate 15 0
  /-- ADDRESS_ERR (R549). -/
  cAddr : Cnt := 0
  /-- ENGINE_ABORTS (R549). -/
  cAborts : Cnt := 0
  /-- ENGINE_SELFTEST_FAILS (R549). -/
  cSelftest : Cnt := 0
  /-- BUS_RETRIES (R549). -/
  cBus : Cnt := 0
  /-- WB_CANCELLED (R549). -/
  cWbCancelled : Cnt := 0
  /-- WB_QUEUE_FULL (R549). -/
  cWbFull : Cnt := 0
  /-- ALM_READBACK_ERR (R549). -/
  cAlm : Cnt := 0
  deriving DecidableEq, Repr

/-- A CAK slot (R566, R567): CKN and CAK, and the key domain under which the CAK is wrapped (log entry 6). -/
structure CakSlot where
  ckn    : List Byte
  cak    : List Byte
  domain : Nat
  /-- the wrapped CAK failed to unwrap (R567). -/
  failed : Bool
  deriving DecidableEq, Repr

/-- MKA on one port (R565, R566, R569). -/
structure MkaPort where
  /-- slots 0 and 1, none for EMPTY (R566). -/
  slots : Vector (Option CakSlot) 2 := Vector.replicate 2 none
  /-- slot in use (R566). -/
  inUse : Nat := 0
  /-- key server priority (R565). -/
  priority : Nat := 128
  /-- live peers: member, priority, physical time last heard (R565). -/
  peers : List (Nat × Nat × Ps) := []
  /-- physical time of the last MKPDU sent (R565). -/
  helloAt : Ps := 0
  /-- key number of the current SAK (R569). -/
  keyNumber : Nat := 0
  /-- association number (R569). -/
  an : Nat := 0
  /-- a SAK is installed (R566). -/
  installed : Bool := false
  /-- the receive secure channels, at most 4: the peer's member number, and its associations, newest first and at most 2:
  association number and next packet number (R164). -/
  rx : List (Nat × List (Nat × Nat)) := []
  /-- a new association is asked for, the packet number having come to 0xC000_0000 (R410, R565). -/
  asked : Bool := false
  /-- SAK installs since reset (R569). -/
  installs : Cnt := 0
  deriving DecidableEq, Repr

/-- A word of the OTP: 32 data bits and, on top, the seven check bits of R522 (R558). -/
abbrev OtpWord := BitVec 39

/-- The OTP: 512 words, in the order of R558. -/
structure Otp where
  /-- words 0 and 1: serial number. -/
  serialWords : List OtpWord := List.replicate 2 0
  /-- words 2 to 13: vendor root. -/
  vendor : List OtpWord := List.replicate 12 0
  /-- words 14 to 61: owner root slots 0 to 3. -/
  slots : Vector (List OtpWord) 4 := Vector.replicate 4 (List.replicate 12 0)
  /-- words 62 to 69: device-unique secret. -/
  secret : List OtpWord := List.replicate 8 0
  /-- words 70 to 197: firmware counter (R596). -/
  arbFw : List OtpWord := List.replicate 128 0
  /-- words 198 to 325: catalogue counter (R596). -/
  arbCat : List OtpWord := List.replicate 128 0
  /-- words 326 to 383: factory trims. -/
  trims : List OtpWord := List.replicate 58 0
  /-- words 384 to 511: reserved. -/
  reserved : List OtpWord := List.replicate 128 0
  deriving DecidableEq, Repr

/-- State of chapter 15. -/
structure SecSt where
  /-- the OTP (R558). -/
  otp : Otp := {}
  /-- the owner root in force at the last reset, which verifies images (R559). -/
  imageRoot : Option (List Byte) := none
  /-- key registers of the cipher block: KWK, which wraps stored CAKs; empty until BOOT derives it (R562, R563). -/
  kwk : List Byte := []
  /-- key registers of the cipher block: the personalisation string of the DRBG (R562, R563). -/
  drbg : List Byte := []
  /-- fuses blown in G_M, G_P, G_F, G_R and G_S (R553). -/
  fuses : Vector Nat 5 := #v[8, 0, 0, 0, 0]
  /-- the nonce that serves the next authorised command (R561). -/
  nonce : Option (List Byte) := none
  /-- MKA on WAN ports 0 to 3 and, as number 4, the management port (R565). -/
  mka : Vector MkaPort 5 := Vector.replicate 5 {}
  /-- change of the management port's slots that waits for its reply to leave: the parameters of SEC_SET_MKA (R566). -/
  mkaNext : Option (List Byte) := none
  deriving DecidableEq, Repr

/-- Bank states (R601), codes in the order listed. -/
inductive BankState where
  | empty | writing | copying | pending | trial | good | failed | stale
  deriving DecidableEq, Repr

/-- A settings copy (R595). -/
structure SettingsCopy where
  seq        : Nat
  setFmt     : Nat
  runAtBoot  : Bool
  settings   : List Setting
  deriving DecidableEq, Repr

/-- A bank (R594, R601). -/
structure Bank where
  /-- state (R601). -/
  state : BankState := .empty
  /-- the firmware slot (R594). -/
  fw : Option Image := none
  /-- the catalogue slot (R594). -/
  cat : Option Image := none
  /-- code classes that update sessions have written since the bank became WRITING (R600). -/
  wrote : List Nat := []
  /-- settings copies 0 and 1, none when not valid (R595). -/
  copies : Vector (Option SettingsCopy) 2 := Vector.replicate 2 none
  deriving DecidableEq, Repr

/-- An update session (R597, R598). -/
structure UpdSession where
  ifc      : Nat
  header   : List Byte
  cls      : Nat
  received : List Byte
  /-- offset and octets of the previous write. -/
  lastWrite : Option (Nat × List Byte)
  deriving DecidableEq, Repr

/-- Reception of an image in recovery boot (R606). -/
structure Recovery where
  /-- octets of the image in progress. -/
  buf : List Byte
  /-- the firmware image received and checked. -/
  fw  : Option Image
  deriving DecidableEq, Repr

/-- State of chapter 17. -/
structure UpdSt where
  /-- bank A (R594). -/
  bankA : Bank := {
    state := .good
    fw := some { version := 0, arb := 0, setFmt := 0, setFmtMin := 0, root := some (List.replicate 48 0) }
    cat := some { version := 0, arb := 0, setFmt := 0, setFmtMin := 0, root := some (List.replicate 48 0) } }
  /-- bank B (R594). -/
  bankB : Bank := {}
  /-- the running bank is B (R597). -/
  runB : Bool := false
  /-- the images that run from DRAM after a recovery boot (R606). -/
  dramImages : Option (Image × Image) := none
  /-- the update session (R597). -/
  session : Option UpdSession := none
  /-- the background copy runs (R600). -/
  copy : Bool := false
  /-- window in s and AUTO_CONFIRM of the bank to be tried (R604). -/
  window : Nat × Bool := (120, false)
  /-- end of the trial window; none outside a trial (R604). -/
  trialEnd : Option Ps := none
  /-- configuration, topology and calibration bundle slots: header and payload (R594). -/
  bundles : Vector (Option (List Byte × List Byte)) 3 := Vector.replicate 3 none
  /-- the last 8 update events, newest first: time base, type, bank byte (R605). -/
  events : List (Stamp × Nat × Nat) := []
  /-- the flash copy of the journal, newest first, at most 4,096 (R485). -/
  flashJournal : List JEntry := []
  /-- a recovery boot waits for its images (R606). -/
  recovery : Option Recovery := none
  deriving DecidableEq, Repr

/-- The output groups of R75; of the peer transmitters PEER_0 to PEER_2, the federation links, and PEER_3, the mirror link. -/
inductive PinGroup where
  | alm | faultN | modClk01 | modClk23 | ppsOut | sfpTxdis | wanTx | peerFed | peerMirror | pcieTx | mgt | qspi | svcDo | tdo | ddr4 | drstN
  deriving DecidableEq, Repr

/-- What the device does with the outputs of a group (R75). -/
inductive PinDrive where
  /-- high impedance. -/
  | z
  | low
  | high
  /-- a clock at the frequency of the mode. -/
  | running
  /-- a clock at 4.096 MHz. -/
  | slow
  /-- driven, as the owning chapter or the interface says. -/
  | driven
  /-- electrical idle. -/
  | idle
  /-- the DRAM's outputs hold it in self-refresh. -/
  | selfRefresh
  deriving DecidableEq, Repr

/-- State of chapter 16 and of the pins and supplies of chapter 02. -/
structure SysSt where
  /-- supplies and reset (R84, R577). -/
  phase : Phase := .running
  /-- MODE (R457, R458). -/
  mode : Mode := .boot
  /-- PREV_MODE (R457). -/
  prevMode : Mode := .boot
  /-- MODE_CHANGES (R457). -/
  modeChanges : Nat := 0
  /-- LAST_RESET (R457). -/
  lastReset : ResetKind := .por
  /-- LIFECYCLE as read at BOOT (R457, R553). -/
  lifecycle : Lifecycle := .manufacture
  /-- straps as sampled (R71). -/
  straps : StrapPins := { pairRole := false, fedId1 := false, fedId0 := false, bootSrc := false, svcEn := false }
  /-- BOOTED_SVC (R457). -/
  bootedSvc : Bool := false
  /-- RESERVE_LOST (R457). -/
  reserveLost : Bool := true
  /-- SETTINGS_DEFAULTED (R457). -/
  defaulted : Bool := false
  /-- committed settings were loaded at BOOT (R579). -/
  loaded : Bool := false
  /-- RUN_AT_BOOT of the settings loaded (R581). -/
  runAtBoot : Bool := false
  /-- installed DRAM capacity C in GiB (R59). -/
  capacity : Nat := 4
  /-- BOOT cannot end: no bank passes its checks, or the lifecycle boots no image (R552, R602). -/
  stuck : Bool := false
  /-- the marker word of the reserve domain is absent: its contents are lost (R578). -/
  markerLost : Bool := false
  /-- physical time since the device left reset; UPTIME (R457). -/
  upPs : Ps := 0
  /-- reset history: one count per reset kind, RESERVE_ENTRIES, SHORT_HANDOFFS; in the reserve domain (R585). -/
  history : List Cnt := [1, 0, 0, 0, 0, 0, 0]
  /-- instants of the WDOG resets of the last 600 s, newest first, in the reserve domain (R579, R585). -/
  wdogTimes : List Stamp := []
  /-- instant of the last reset, in the reserve domain (R585). -/
  lastResetAt : Stamp := 0
  /-- wake time in TAI seconds, 0 none (R574). -/
  wakeTime : Nat := 0
  /-- wake mask (R574). -/
  wakeMask : BitVec 16 := 0
  /-- wake mode ACTIVE (R574). -/
  wakeActive : Bool := false
  /-- physical time of the last service of the watchdog (R537). -/
  wdogAt : Ps := 0
  /-- RESET_N is low (R84). -/
  resetN : Bool := false
  /-- FAULT_N is driven low; high impedance otherwise (R75, R77). -/
  faultLow : Bool := false
  deriving DecidableEq, Repr

/-- The attributes of a request to host memory (R435). -/
structure HostAttrs where
  noSnoop : Bool := false
  relaxed : Bool := false
  deriving DecidableEq, Repr

/-- What leaves the device: the model's own trace (log entry 7). -/
inductive Output where
  /-- a reply on an interface (R465). -/
  | reply (ifc : Nat) (bytes : List Byte)
  /-- a write to host memory, with its attributes (R435). -/
  | hostWrite (addr : Nat) (bytes : List Byte) (attrs : HostAttrs := {})
  /-- a read of `len` bytes of host memory, with its attributes (R435). -/
  | hostRead (addr len : Nat) (attrs : HostAttrs := {})
  /-- the response to a word that a producer wrote to a record queue: 0 OK, 1 FULL, 2 FLUSHED, 3 OFF (R441). -/
  | rqAnswer (queue : Nat) (response : Nat)
  /-- the bytes that a BAR0 read returns (R455). -/
  | register (addr : Nat) (bytes : List Byte)
  /-- a completion with Unsupported Request, of a request longer than one DWORD (R455). -/
  | unsupported (addr : Nat)
  /-- an MSI-X message (R460). -/
  | msix (vec : Nat)
  /-- a frame whose last octet has left a WAN port, with the octets as they left (R157, R409). -/
  | wan (port : Nat) (frame : TxFrame)
  /-- an mPacket of the verify procedure leaves a WAN port: verify, or respond (R404). -/
  | verify (port : Nat) (respond : Bool)
  /-- the completion of a queued transmit frame of a WAN port (R157, R158, R402, R410). -/
  | completion (port : Nat) (kind : TxKind) (result : TxResult)
  /-- the MACsec-protected UDP datagram of a MGMT reply, whole or as the pieces that its IP fragments carry (R478). -/
  | mgmt (ip : Nat) (port : Nat) (pieces : List (List Byte))
  /-- a frame of the supervisor on the management port, port 4 (R170, R565). -/
  | supervisor (port : Nat) (what : String) (bytes : List Byte)
  /-- on a peer link: a class A frame whole, or a block of a class B frame (R490, R492). -/
  | peer (link : Nat) (octets : List Byte)
  /-- a Bastik device frame behind its start octet (R587, R588). -/
  | svc (bytes : List Byte)
  /-- PPS_OUT rises or falls, with the stamp of the edge (R153). -/
  | pps (high : Bool) (at_ : Stamp)
  /-- FAULT_N is driven low, or released (R77). -/
  | faultN (low : Bool)
  deriving DecidableEq, Repr

end Sys2Proof.Machine
end

