-- ==== Sys2Proof/Machine/StateTime.lean ====
section
/-! DEFINITION. State of the time base, its servo and sources, the event inputs and PPS_OUT (03_time_base.md).
Every field's default value is its value in `State.reset`. -/

namespace Sys2Proof.Machine

/-- The states of the servo (R134); codes of TS_STATUS.SERVO_STATE (R121). -/
inductive ServoState where
  | freerun | acquire | locked | twilight
  deriving DecidableEq, Repr

/-- The time sources (R122); `none` of `Option Source` is "no source selected". -/
inductive Source where
  | ptp | ppsIn | irigIn | ref10In
  deriving DecidableEq, Repr

/-- What the device keeps of one time source (R122, R123). -/
structure SourceSt where
  /-- inaccuracy in ns (R123). -/
  inaccNs : Nat := 0
  /-- growth rate in 1/256 ns/s; 1 ns/s until set (R123). -/
  growth : Nat := 256
  /-- the source gives offsets: not lost (R122). -/
  present : Bool := false
  /-- physical time at which it will have stayed valid for 10 update intervals; meaningful while present (R123). -/
  seasonedAt : Ps := 0
  /-- physical time of the last accepted event (R122). -/
  lastEvent : Ps := 0
  deriving DecidableEq, Repr

/-- PTP roles of a WAN port (R128). -/
inductive PtpRole where
  | disabled | listening | passive | slave
  deriving DecidableEq, Repr

/-- A point of the time base's course: a physical time, the time base there, and the frequency adjustment from there on
(R111, R148). -/
structure TbPoint where
  at_ : Ps
  tb  : Nat
  y   : Rat
  deriving DecidableEq, Repr

/-- Time settings and PTP state of one WAN port (R128 to R132, R157). -/
structure TimePort where
  /-- PTP enable (R128, R159). -/
  ptpEnable : Bool := false
  /-- ingress latency in 2⁻¹⁶ ns (R131). -/
  ingressLat : Int := 0
  /-- egress latency in 2⁻¹⁶ ns (R131). -/
  egressLat : Int := 0
  /-- delay asymmetry in 2⁻¹⁶ ns (R131). -/
  asymmetry : Int := 0
  /-- late policy DROP in place of SEND_FLAGGED (R157). -/
  dropLate : Bool := false
  /-- port role of the best master clock algorithm (R128). -/
  role : PtpRole := .disabled
  /-- the best Announce heard: master, rank, interval in ms (R128). -/
  announce : Option PtpAnnounce := none
  /-- physical time of the last Announce of the master (R122). -/
  lastAnnounce : Ps := 0
  /-- physical time of the last Sync (R122). -/
  lastSync : Ps := 0
  /-- logMessageInterval of the last Sync (R122). -/
  logIntv : Int := 0
  /-- the two-step Sync that waits for its Follow_Up, with the stamp of its arrival (R122). -/
  waiting : Option (PtpSync × Stamp) := none
  /-- stamp of the accepted Sync before this one, since selection (R122). -/
  prevSync : Option Stamp := none
  /-- corrected path delays of the last 16 peer-delay exchanges, newest first, in 2⁻¹⁶ ns (R132). -/
  delays : List Int := []
  /-- sequence number of the device's next peer-delay request; the first is 0 (R127; log entry 8). -/
  pdelaySeq : Nat := 0
  /-- the device's last peer-delay request to leave: its sequence number and the stamp of its departure (R130, R132). -/
  pdelaySent : Option (Nat × Stamp) := none
  deriving DecidableEq, Repr

/-- An event record (R149). -/
structure EvtRec where
  stamp   : Stamp
  falling : Bool
  tqBad   : Bool
  input   : Nat
  status  : Nat
  seq     : Nat
  deriving DecidableEq, Repr

/-- State of chapter 03. -/
structure TimeSt where
  /-- the time base, in 2⁻³² ns since 1970 TAI, the lower 16 bits internal (R109, R111). -/
  tb : Nat := 0
  /-- the course of the time base over the last 2 s, newest point first: where it was given a value or another frequency
  adjustment; it holds what R122, R125, R130 and R148 stamp behind the event (R111). -/
  past : List TbPoint := []
  /-- TIME_VALID (R113). -/
  valid : Bool := false
  /-- LOCKED_SINCE_VALID (R144). -/
  lockedSinceValid : Bool := false
  /-- frequency adjustment y, in ppb (R111, R133). -/
  y : Rat := 0
  /-- y at the last reset of the integrator, which FREERUN holds (R135). -/
  yFree : Rat := 0
  /-- integrator I of the servo, in ppb (R133). -/
  integ : Rat := 0
  /-- SERVO_STATE (R134). -/
  servo : ServoState := .freerun
  /-- selected source (R123). -/
  source : Option Source := none
  /-- priority list of TIME_SET_SOURCES, four codes, 0 unused (R123). -/
  priority : List Nat := [0, 0, 0, 0]
  /-- PTP (R122). -/
  ptp : SourceSt := {}
  /-- PPS_IN (R122). -/
  pps : SourceSt := {}
  /-- IRIG_IN (R122). -/
  irig : SourceSt := {}
  /-- REF10_IN (R122). -/
  ref10 : SourceSt := {}
  /-- IRIG format code, 2 for B002 or 6 for B006 (R159). -/
  irigFormat : Nat := 2
  /-- IRIG local offset in minutes (R125). -/
  irigOffsetMin : Int := 0
  /-- Kp in 2⁻¹⁶, default 0.7: 45,875, the nearest multiple (R133; log entry 16). -/
  kp : Nat := 45875
  /-- Ki in 2⁻¹⁶, default 0.3: 19,661, the nearest multiple (R133; log entry 16). -/
  ki : Nat := 19661
  /-- STEP_THRESHOLD in ns, 0 for step disabled (R136). -/
  stepThreshold : Nat := 100000
  /-- LOCK_THRESHOLD in ns (R134). -/
  lockThreshold : Nat := 100
  /-- UNLOCK_THRESHOLD in ns (R134). -/
  unlockThreshold : Nat := 1000
  /-- D_hold in 1/256 ns/s (R140). -/
  dHold : Nat := 5120
  /-- D_reserve in 1/256 ns/s (R147). -/
  dReserve : Nat := 1280000
  /-- SYNC_LIMIT in ns (R142). -/
  syncLimit : Nat := 1000
  /-- estimated maximum time error E in ns (R140). -/
  err : Rat := 0
  /-- source inaccuracy in force under the IEEE_C37_238 TLV, in ns (R129). -/
  tlvInacc : Option Nat := none
  /-- |θ| of the last updates in ns, newest first, at most 8 (R140). -/
  thetas : List Rat := []
  /-- consecutive updates below LOCK_THRESHOLD (R134). -/
  lockRun : Nat := 0
  /-- consecutive updates above UNLOCK_THRESHOLD (R134). -/
  unlockRun : Nat := 0
  /-- last measured offset in 2⁻¹⁶ ns; TS_OFFSET (R121). -/
  offset : Int := 0
  /-- physical time since SERVO_STATE last left LOCKED, or since the reset while it has never been LOCKED (log entry 16);
  TS_UNLOCKED (R121). -/
  unlockedPs : Ps := 0
  /-- UTC offset in s (R117). -/
  utcOffset : Int := 0
  /-- LEAP_PENDING (R117). -/
  leapPending : Bool := false
  /-- LEAP_DIR, set for deletion (R117). -/
  leapDir : Bool := false
  /-- LEAP_OCCURRED (R117). -/
  leapOccurred : Bool := false
  /-- TAI second at which the pending leap takes effect: the first after the end of the UTC day (R119). -/
  leapDue : Nat := 0
  /-- TAI second of the leap second that LEAP_OCCURRED reports (R119). -/
  leapAt : Nat := 0
  /-- direction of that leap second, set for deletion (R120). -/
  leapAtDir : Bool := false
  /-- TS_SEC_LO as latched (R121). -/
  snapSecLo : Word32 := 0
  /-- TS_SEC_HI as latched: FRAC and SEC_HI (R121). -/
  snapSecHi : Word32 := 0
  /-- reserve increment in 2⁻³² ns (R146). -/
  reserveInc : Nat := 131072000000000
  /-- time base at the start of the 16 s KCLK window, while LOCKED (R146). -/
  kclkStart : Option Nat := none
  /-- KCLK_FAIL (R540). -/
  kclkFail : Bool := false
  /-- settings and PTP state of WAN ports 0 to 3 (R128). -/
  ports : Vector TimePort 4 := Vector.replicate 4 {}
  /-- PTP profile, set for IEEE C37.238-2017 (R127). -/
  ptpProfile : Bool := false
  /-- PTP domain (R127). -/
  ptpDomain : Nat := 0
  /-- PTP VLAN ID, 0 untagged (R159). -/
  ptpVlan : Nat := 0
  /-- PTP VLAN priority (R159). -/
  ptpPriority : Nat := 0
  /-- edge selection of EVT_0 to EVT_15, 2 bits each, EVT_15 in the top bits; no edges until EVT_CONFIG sets it (R148,
  R159; log entry 8). -/
  evtEdges : Word32 := 0
  /-- destination of event records, 0xFF the FIFO (R150). -/
  evtDest : Nat := 255
  /-- PPS_IN cable delay in ns (R152). -/
  ppsDelay : Int := 0
  /-- the event FIFO of 512 records, oldest first (R150). -/
  evtFifo : List EvtRec := []
  /-- edges seen at the pins whose TCLK edge has not passed: that edge, the input, falling; in order of edge and of
  input (R148, R150). -/
  evtHeld : List (Ps × Nat × Bool) := []
  /-- sequence number of the next event record; the first is 0 (R149; log entry 8). -/
  evtSeq : Nat := 0
  /-- PPS_OUT offset in ns (R153). -/
  ppsOutOffset : Int := 0
  /-- PPS_OUT width in µs (R153). -/
  ppsOutWidth : Nat := 10000
  /-- PPS_OUT gate code (R154). -/
  ppsOutGate : Nat := 15
  /-- physical time at which the PPS_OUT pulse in progress ends; none while low; the width runs in physical time (R153; log entry 16). -/
  ppsOutEnd : Option Ps := none
  /-- second for which PPS_OUT last decided (R153). -/
  ppsOutSec : Option Nat := none
  /-- physical time of the KCLK edge at which the time base last passed, or passes, between TCLK and KCLK (R147). -/
  clockPass : Ps := 0
  /-- stamp at which the last step of the time base took effect (R139). -/
  steppedAt : Option Stamp := none
  /-- TIME_STEPS (R161). -/
  cSteps : Cnt := 0
  /-- SOURCE_LOSSES (R161). -/
  cLosses : Cnt := 0
  /-- SOURCE_SWITCHES (R161). -/
  cSwitches : Cnt := 0
  /-- TWILIGHT_ENTRIES (R161). -/
  cTwilight : Cnt := 0
  /-- PPS_REJECTED (R161). -/
  cPpsRejected : Cnt := 0
  /-- IRIG_ERRORS (R161). -/
  cIrigErrors : Cnt := 0
  /-- PTP_SYNC_DISCARDED (R161). -/
  cSyncDiscarded : Cnt := 0
  /-- EVT_OVERFLOW (R161). -/
  cEvtOverflow : Cnt := 0
  /-- LATE_SENT per WAN port (R161). -/
  cLateSent : Vector Cnt 4 := Vector.replicate 4 0
  /-- LATE_DROPPED per WAN port (R161). -/
  cLateDropped : Vector Cnt 4 := Vector.replicate 4 0
  /-- DROPPED_FAR per WAN port (R161). -/
  cDroppedFar : Vector Cnt 4 := Vector.replicate 4 0
  deriving DecidableEq, Repr

end Sys2Proof.Machine
end

