-- ==== Sys2Proof/Machine/State.lean ====
section
/-! DEFINITION. The state of the block, the reasons a step can stop, and the state after reset.

`State` gathers the parts of the other State files, one per chapter of the manual, with what belongs to the model
itself: the queue of commands, the physical time, the trace of what leaves the device and the count of free draws. -/

namespace Sys2Proof.Machine

/-- The faults of the model: none, so the type has no constructor.  The manual answers every packet and every register
access and says of every event what it does, so no row of the table ends a run. -/
inductive Fault where
  deriving DecidableEq, Repr

/-- The refusals of the model. -/
inductive Refusal where
  /-- raised by an arm of `exec` whose row has no meaning yet (safe: the step stops). -/
  | notModelled (mnemonic : String)
  deriving DecidableEq, Repr

/-- What takes effect at a later instant that is fixed already and has no row of its own. -/
inductive Later where
  /-- the parameters of a command whose values apply at the next grid edge (R159, R177, R191, R193, R211). -/
  | command (opcode : Nat) (params : List Byte)
  /-- the step of the time base by −θ that the servo makes at the next grid edge, θ in 2⁻¹⁶ ns (R136). -/
  | servoStep (theta : Int)
  /-- a source has stayed valid for 10 update intervals (R123). -/
  | reselect
  /-- count 36 of a data frame's binding: context, GEN at count 20, what is written (R60). -/
  | context (index : Nat) (gen : Nat) (what : CtxUpdate)
  /-- the TCLK edge on which an event input was sampled (R148). -/
  | capture
  /-- the end of parse and bind of a frame of a forwarded context: its record leaves for the home device and home zone (R60,
  R492, R498). -/
  | forward (home : Nat) (zone : Nat) (record : FrameRecord)
  /-- an alarm frame of a WAN port is ready at the pins (R349, R405). -/
  | alarmReady (port : Nat)
  deriving DecidableEq, Repr

/-- The state of the block. -/
structure State where
  /-- commands that wait, first in first out: the model's queue. -/
  pending : List Instr := []
  /-- physical time since the model's origin (log entry 1). -/
  now : Ps := 0
  /-- what takes effect at later instants, in order of time (R123, R136, R148, R159, R177, R191, R193, R211). -/
  later : List (Ps × Later) := []
  /-- number of free values drawn so far (log entry 4). -/
  drawn : Nat := 0
  /-- what has left the device, newest first (log entry 7). -/
  outputs : List Output := []
  /-- chapter 03. -/
  time : TimeSt := {}
  /-- chapter 04. -/
  ingress : IngressSt := {}
  /-- chapter 05. -/
  align : AlignSt := {}
  /-- chapter 06. -/
  front : FrontSt := {}
  /-- chapter 07. -/
  energy : EnergySt := {}
  /-- chapter 08. -/
  detect : DetectSt := {}
  /-- chapter 09. -/
  kernel : KernelSt := {}
  /-- chapter 10. -/
  egress : EgressSt := {}
  /-- chapter 11. -/
  dma : DmaSt := {}
  /-- chapter 12. -/
  host : HostSt := {}
  /-- chapter 13. -/
  pair : PairSt := {}
  /-- chapter 14. -/
  integ : IntegSt := {}
  /-- chapter 15. -/
  sec : SecSt := {}
  /-- chapter 17. -/
  upd : UpdSt := {}
  /-- chapters 02 and 16. -/
  sys : SysSt := {}
  deriving DecidableEq, Repr

/-- The block right after it leaves a power-on reset with no reserve supply before it: BOOT has begun, the memories
are wiped, the reserve domain is lost (R84, R113, R578).  Every field holds its default, which its declaration names
with the rule it rests on; the values that no rule gives are in log entries 8 and 9. -/
def State.reset : State := {}

end Sys2Proof.Machine
end

