-- ==== Sys2Proof/Machine/Ops.lean ====
section
/-! DEFINITION. The shared operations on the state: the passage of time, stamps and grid edges, free draws, outputs,
interrupts, peer frames and the words of the record queues. -/

namespace Sys2Proof.Machine

/-! ### Numbers -/

/-- A whole number for an exact figure: itself, or its floor plus a free bit (log entry 3). -/
def roundQ (what : Nat) (q : Rat) : Int :=
  if q.den = 1 then q.num else q.floor + (if Config.roundUp what q.num q.den then 1 else 0)

/-- `q` held between two bounds. -/
def clampQ (lo hi q : Rat) : Rat := if q < lo then lo else if hi < q then hi else q

/-! ### Time -/

/-- The increment of a TCLK edge in 2⁻³² ns: 4 ns × (1 + y) (R111). -/
def tclkInc (y : Rat) : Nat := (17179869184 + roundQ 1 (17179869184 * y / 1000000000)).toNat

/-- Edges of a clock of `period` ps in the interval (t0, t1]. -/
def edgesIn (period t0 t1 : Ps) : Nat := t1 / period - t0 / period

/-- KCLK edges (32.768 kHz) in the interval (t0, t1] (R48). -/
def kclkEdgesIn (t0 t1 : Ps) : Nat := t1 * 32768 / 1000000000000 - t0 * 32768 / 1000000000000

/-- The first KCLK edge at or after `t` (R48, R147). -/
def kclkEdgeFrom (t : Ps) : Ps := cdiv (cdiv (t * 32768) 1000000000000 * 1000000000000) 32768

/-- The modulus of the time base in 2⁻³² ns: 2⁴⁸ s (R109). -/
def tbMod : Nat := stampMod * 65536

/-- Growth of E over `dt` at `d` in 1/256 ns/s (R140, R147). -/
def errGrowth (d : Nat) (dt : Ps) : Rat := (d : Rat) * dt / 256000000000000

/-- Whether the time base runs from TCLK: main rails present and clocks running (R111, R542). -/
def Phase.tclk : Phase → Bool
  | .held _ | .running | .handoff => true
  | .unpowered | .reserve | .thermal => false

/-- What the time base gains in (t0, t1]: it counts TCLK edges, in RESERVE KCLK edges, and before the KCLK edge of the
passage from the other clock the edges of that one (R111, R147). -/
def TimeSt.gain (t : TimeSt) (ph : Phase) (t0 t1 : Ps) : Nat :=
  let m := max t0 (min t1 t.clockPass)
  if ph.tclk then kclkEdgesIn t0 m * t.reserveInc + edgesIn 4000 m t1 * tclkInc t.y
  else if ph = .reserve then edgesIn 4000 t0 m * tclkInc t.y + kclkEdgesIn m t1 * t.reserveInc
  else 0

/-- The time base at `at_`, from a point of its course before it (R111). -/
def TimeSt.fromPoint (t : TimeSt) (ph : Phase) (p : TbPoint) (at_ : Ps) : Nat :=
  (p.tb + { t with y := p.y }.gain ph p.at_ at_) % tbMod

/-- Points older than 2 s behind another that is so too are given up. -/
def pruneCourse (now : Ps) : List TbPoint → List TbPoint
  | [] => []
  | p :: t => if p.at_ + 2000000000000 ≤ now then [p] else p :: pruneCourse now t

/-- The course of the time base with the present instant, where the time base or y is not what the last point leads to. -/
def TimeSt.course (t : TimeSt) (ph : Phase) (now : Ps) : List TbPoint :=
  if !ph.tclk then []
  else match t.past with
    | [] => [{ at_ := now, tb := t.tb, y := t.y }]
    | p :: _ => if p.y = t.y ∧ t.fromPoint ph p now = t.tb then t.past else pruneCourse now ({ at_ := now, tb := t.tb, y := t.y } :: t.past)

/-- The time base and what the servo keeps, after `dt` (R111, R121, R126, R140, R147). -/
def TimeSt.advance (t : TimeSt) (ph : Phase) (t0 dt : Ps) : TimeSt :=
  if ph = .unpowered then { t with past := [] }
  else
    let add := t.gain ph t0 (t0 + dt)
    let grow := if ph = .reserve then errGrowth t.dReserve dt
                else if t.servo = .twilight ∨ (t.servo = .freerun ∧ t.valid = true) then errGrowth t.dHold dt
                else if t.source = some .ref10In then errGrowth t.ref10.growth dt else 0
    { t with
      tb := (t.tb + add) % tbMod
      past := t.course ph t0
      err := t.err + grow
      unlockedPs := if t.servo = .locked then 0 else t.unlockedPs + dt }

/-- The share of the interval (t0, t1] in which the preemptable MAC was paused (R408, R415). -/
def TxPort.pausedIn (p : TxPort) (t0 t1 : Ps) : Ps :=
  let stop := p.pauseTo.toList.foldl max 0
  min stop t1 - max p.pauseFrom t0

/-- The number of bits that are 1. -/
def popcount (n : Nat) (v : BitVec n) : Nat := (List.range n).foldl (fun a i => if v.getLsbD i then a + 1 else a) 0

/-- The declared load of the local streams: frames/s and phasor values/s (R189, R277). -/
def State.localLoad (s : State) : Nat × Nat :=
  s.front.locals_.toList.foldl (fun a l => if l.enabled then (a.1 + l.rate, a.2 + l.rate * popcount 16 l.mask) else a) (0, 0)

/-- The physical time moves on by `dt`: the clocks, the time base, the ingress budget and the paused time of the
ports follow. -/
def State.pass (s : State) (dt : Ps) : State :=
  { s with
    now := s.now + dt
    time := s.time.advance s.sys.phase s.now dt
    ingress := { s.ingress with
      frameBucket := min (s.ingress.frameBucket + dt * (2000000 - s.localLoad.1)) 4096000000000000
      phasorBucket := min (s.ingress.phasorBucket + dt * (40000000 - s.localLoad.2)) 81920000000000000
      tcpBucket := min (s.ingress.tcpBucket + dt * 100000) 100000000000000000 }
    egress := { s.egress with
      ports := s.egress.ports.map fun p => { p with pausedPs := p.pausedPs + p.pausedIn s.now (s.now + dt) } }
    sys := { s.sys with upPs := if s.sys.phase = .running then s.sys.upPs + dt else s.sys.upPs } }

/-- The time base as a stamp (R109, R111). -/
def State.stamp (s : State) : Stamp := s.time.tb / 65536

/-- The stamp at the last 20 ns grid edge (R33). -/
def State.gridStamp (s : State) : Stamp :=
  (s.time.tb + tbMod - (s.now % 20000) / 4000 * tclkInc s.time.y % tbMod) % tbMod / 65536

/-- The next 20 ns grid edge, strictly after now (R33; log entry 16). -/
def State.nextGrid (s : State) : Ps := (s.now / 20000 + 1) * 20000

/-- The time base `n` TCLK edges from now at the present increment, in 2⁻³² ns. -/
def State.tbMoved (s : State) (n : Int) : Nat := (((s.time.tb : Int) + n * (tclkInc s.time.y : Nat)) % (tbMod : Nat)).toNat

/-- The point of the time base's course that leads to `at_`: the present one, or the newest that is not later (R111). -/
def State.pointAt (s : State) (at_ : Ps) : TbPoint :=
  let here : TbPoint := { at_ := s.now, tb := s.time.tb, y := s.time.y }
  ((here :: s.time.past).find? fun p => decide (p.at_ ≤ at_)).getD here

/-- The time base at the instant `at_` of the last 2 s, in 2⁻³² ns (R111). -/
def State.tbAt (s : State) (at_ : Ps) : Nat := s.time.fromPoint s.sys.phase (s.pointAt at_) at_

/-- The stamp at the first TCLK edge at or after the instant `ago` before now (R148). -/
def State.captureAgo (s : State) (ago : Ps) : Stamp :=
  let edge := cdiv (s.now - ago) 4000 * 4000
  (if s.now < edge then s.tbMoved 1 else s.tbAt edge) / 65536

/-- The PCS stamp of the instant `ago` before now: the time base there, at 1 ns resolution (R130; log entry 16). -/
def State.pcsStamp (s : State) (ago : Ps) : Stamp :=
  let at_ := s.now - ago
  (s.tbAt at_ + at_ % 4000 * tclkInc (s.pointAt at_).y / 4000) % tbMod / 4294967296 * 65536

/-- `a` is to take effect at `at_`, after what is to take effect there already. -/
def insertLater (at_ : Ps) (a : Later) : List (Ps × Later) → List (Ps × Later)
  | [] => [(at_, a)]
  | x :: t => if at_ < x.1 then (at_, a) :: x :: t else x :: insertLater at_ a t

/-- `a` takes effect at `at_`. -/
def State.at (s : State) (at_ : Ps) (a : Later) : State := { s with later := insertLater at_ a s.later }

/-- The signed difference A − B of R114, in 2⁻¹⁶ ns. -/
def stampDiff (a b : Stamp) : Int :=
  let d := (a + stampMod - b % stampMod) % stampMod
  if 2 * d < stampMod then d else (d : Int) - stampMod

/-- `a` is at or past `b` (R114). -/
def stampGe (a b : Stamp) : Bool := decide (0 ≤ stampDiff a b)

/-- A stamp moved by a signed amount. -/
def stampAdd (a : Stamp) (d : Int) : Stamp := ((a : Int) + d) % (stampMod : Nat) |>.toNat

/-- Seconds of a stamp. -/
def stampSec (a : Stamp) : Nat := a / unitsPerSec

/-- Nanoseconds and fraction of a stamp, in 2⁻¹⁶ ns. -/
def stampSub (a : Stamp) : Nat := a % unitsPerSec

/-- The 12 bytes of a stamp: TAI seconds (6), nanoseconds (4), fraction (2) (R483). -/
def stampBytes (a : Stamp) : List Byte := be 6 (stampSec a) ++ be 4 (stampSub a / 65536) ++ be 2 (stampSub a % 65536)

/-- The stamp that 12 bytes spell. -/
def stampOfBytes (b : List Byte) : Stamp := fld b 0 6 * unitsPerSec + fld b 6 4 * 65536 + fld b 10 2

/-- Picoseconds of a span in 2⁻¹⁶ ns, for delays told by the time base. -/
def unitsToPs (u : Nat) : Ps := u * 1000 / 65536

/-- +1 for an insertion, −1 for a deletion (R119). -/
def leapSign (deletion : Bool) : Int := if deletion then -1 else 1

/-- The UTC offset in effect in a TAI second, with the leap second that is pending or has occurred (R115, R119). -/
def TimeSt.offsetAt (t : TimeSt) (sec : Nat) : Int :=
  if t.leapOccurred ∧ sec < t.leapAt then t.utcOffset - leapSign t.leapAtDir
  else if t.leapPending ∧ t.leapDue ≤ sec then t.utcOffset + leapSign t.leapDir
  else t.utcOffset

/-- UTC seconds of a stamp (R110, R116). -/
def State.utcSec (s : State) (a : Stamp) : Int := (stampSec a : Int) - s.time.offsetAt (stampSec a)

/-! ### Free values and outputs -/

/-- A fresh free number, and the state that has drawn it (log entry 4). -/
def State.draw (s : State) : Nat × State := (Config.freeNat s.drawn, { s with drawn := s.drawn + 1 })

/-- Something leaves the device (log entry 7). -/
def State.emit (s : State) (o : Output) : State := { s with outputs := o :: s.outputs }

/-- Several things leave, in order. -/
def State.emits (s : State) (os : List Output) : State := { s with outputs := os.reverse ++ s.outputs }

/-! ### Requests to host memory (R417, R435) -/

/-- The bytes of `n` at `addr` that one request takes: at most `most`, and none across a 4 KiB boundary (R417). -/
def requestLen (most addr n : Nat) : Nat := min n (min (max most 1) (4096 - addr % 4096))

/-- The requests that cover `n` bytes at `addr`: address and length of each, at most as many as the first operand says. -/
def requests (most : Nat) : Nat → Nat → Nat → List (Nat × Nat)
  | 0, _, _ => []
  | more + 1, addr, n =>
    if n = 0 then []
    else (addr, requestLen most addr n) :: requests most more (addr + requestLen most addr n) (n - requestLen most addr n)

/-- Bytes are written to host memory, in requests of at most Max_Payload_Size (R417). -/
def State.hostPut (s : State) (addr : Nat) (bs : List Byte) (attrs : HostAttrs := {}) : State :=
  s.emits ((requests s.host.payload bs.length addr bs.length).map fun r => .hostWrite r.1 (slice bs (r.1 - addr) r.2) attrs)

/-- Bytes are read from host memory, in requests of at most 512 bytes and Max_Read_Request_Size (R417). -/
def State.hostGet (s : State) (addr n : Nat) (attrs : HostAttrs := {}) : State :=
  s.emits ((requests (min 512 s.host.readSize) n addr n).map fun r => .hostRead r.1 r.2 attrs)

/-! ### Interrupts (R459, R460) -/

/-- Vector `v` has an event: one message now, or its pending bit, or a message after the moderation gap (R460). -/
def vecEvent (v : Nat) (s : State) : State :=
  let m := vget {} s.host.msix v
  let put (m' : MsixVec) (s : State) : State := { s with host := { s.host with msix := vset s.host.msix v m' } }
  if m.masked || !(s.host.pcieUp && s.host.busMaster) then put { m with pending := true } s
  else
    let gap := s.host.gapUs.toNat * 1000000
    match m.lastMsg with
    | some t => if s.now < t + gap then put { m with held := true } s
                else (put { m with lastMsg := some s.now } s).emit (.msix v)
    | none => (put { m with lastMsg := some s.now } s).emit (.msix v)

/-- Cause `n` is set; going from 0 to 1 unmasked is an event of its vector; causes 60 to 63 have no vector (R459, R460). -/
def raiseCause (n : Nat) (s : State) : State :=
  let was := s.host.cause.getLsbD n
  let s' := { s with host := { s.host with cause := s.host.cause ||| (1#64 <<< n) } }
  if !was && !(s.host.mask.getLsbD n) && decide (n < 60) then vecEvent (vget 0 s.host.map n).toNat s' else s'

/-- Cause numbers of INT_CAUSE_1 (R459). -/
def causeDma (c : Nat) : Nat := 32 + c
def causeRxr (r : Nat) : Nat := 46 + r
def causeCmd : Nat := 54
def causeMode : Nat := 55
def causePartner : Nat := 56
def causeTime : Nat := 57
def causeTemp : Nat := 58
def causeJournal : Nat := 59

/-! ### Mode (R62, R570) -/

/-- The code of a mode (R458). -/
def Mode.code : Mode → Nat
  | .boot => 0 | .commission => 1 | .active => 2 | .standby => 3 | .service => 4 | .dormant => 5 | .reserve => 6 | .safe => 7

/-- The code of a reset kind (R458). -/
def ResetKind.code : ResetKind → Nat
  | .por => 0 | .pin => 1 | .warm => 2 | .wdog => 3 | .fault => 4

/-- The code of a lifecycle state (R458). -/
def Lifecycle.code : Lifecycle → Nat
  | .blank => 0 | .manufacture => 1 | .provisioned => 2 | .field => 3 | .return => 4 | .scrapped => 5

/-- The lifecycle state of a code. -/
def Lifecycle.ofCode : Nat → Lifecycle
  | 1 => .manufacture | 2 => .provisioned | 3 => .field | 4 => .return | 5 => .scrapped | _ => .blank

/-- MODE becomes `m`: PREV_MODE, MODE_CHANGES and the cause follow (R457, R459). -/
def setMode (m : Mode) (s : State) : State :=
  if s.sys.mode = m then s
  else raiseCause causeMode
    { s with sys := { s.sys with mode := m, prevMode := s.sys.mode, modeChanges := min (s.sys.modeChanges + 1) 65535 } }

/-- The device runs and is ACTIVE. -/
def State.active (s : State) : Bool := s.sys.phase = .running && s.sys.mode = .active

/-- The device runs and is ACTIVE or STANDBY: alignment, detection and engines run (R62). -/
def State.aligning (s : State) : Bool := s.sys.phase = .running && (s.sys.mode = .active || s.sys.mode = .standby)

/-- The modes in which the PCIe endpoint, the ports and the DMA engine run (R421). -/
def State.online (s : State) : Bool :=
  s.sys.phase = .running &&
  (s.sys.mode = .commission || s.sys.mode = .active || s.sys.mode = .standby || s.sys.mode = .service || s.sys.mode = .safe)

/-- The modes in which the peer links run: those, and a LISTEN that BOOT or DORMANT leads to, in which only the mirror link
is enabled (R503, R571; log entry 19). -/
def State.peersUp (s : State) : Bool := s.online || (s.sys.phase = .running && s.pair.state = .listen)

/-- What the device does with an output group, by supplies and mode; a peer link that is not enabled is idle (R71, R75, R494,
R542, R577). The table has no condition for the 16 µs of a hand-off to RESERVE: the model
leaves the groups as BOOT has them (DESIGN CHOICE, log entry 22). -/
def State.outPin (s : State) (g : PinGroup) : PinDrive :=
  match s.sys.phase with
  | .unpowered | .held _ | .thermal => .z
  | .reserve => match g with | .modClk01 => .low | .modClk23 => .slow | _ => .z
  | .running | .handoff =>
    let boot : Bool := s.sys.mode = .boot
    let dormant : Bool := s.sys.mode = .dormant
    match g with
    | .alm => if s.aligning then .driven else .z
    | .faultN => if s.sys.faultLow then .low else .z
    | .modClk01 | .modClk23 => if boot then .low else .running
    | .ppsOut | .sfpTxdis => if boot || dormant then .z else .driven
    | .wanTx | .pcieTx => if boot || dormant then .idle else .driven
    | .peerFed => if s.online && s.pair.fedEnable then .driven else .idle
    | .peerMirror => if s.peersUp && s.pair.pairEnable then .driven else .idle
    | .mgt | .tdo => if dormant then .z else .driven
    | .svcDo => if dormant || !s.sys.straps.svcEn then .z else .driven
    | .qspi => .driven
    | .ddr4 => if dormant then .selfRefresh else .driven
    | .drstN => if dormant then .high else .driven

/-- FAULT_N follows the mode: driven low in SAFE, and only there (R77). -/
def driveFaultN (s : State) : State :=
  let low : Bool := s.sys.phase = .running && s.sys.mode = .safe
  if low = s.sys.faultLow then s else { s with sys := { s.sys with faultLow := low } }.emit (.faultN low)

/-- The federation position sampled from the straps (R71, R495). -/
def State.position (s : State) : Nat := s.sys.straps.fedId1.toNat * 2 + s.sys.straps.fedId0.toNat

/-! ### Peer frames (R490 to R493) -/

/-- The link, and a change of it. -/
def State.link (s : State) (k : Nat) : PeerLink := vget {} s.pair.links k
def State.setLink (s : State) (k : Nat) (l : PeerLink) : State :=
  { s with pair := { s.pair with links := vset s.pair.links k l } }

/-- A peer frame: the header of 8 octets, the payload, the CRC-32C over both (R490). -/
def peerFrame (type lseq : Nat) (payload : List Byte) : List Byte :=
  let b := be 1 type ++ be 1 0 ++ be 2 payload.length ++ be 4 lseq ++ payload
  b ++ be 4 (crc32c b).toNat

/-- A class A frame is sent on a JOINED link, whole (R492). -/
def sendA (k type : Nat) (payload : List Byte) (s : State) : State :=
  if (s.link k).state = .joined then s.emit (.peer k (peerFrame type 0 payload)) else s

/-- A class B frame leaves in blocks of 64 octets; no row comes between two of them (R492; log entry 19). -/
def sendBlocks (k : Nat) (frame : List Byte) (s : State) : State := s.emits ((chunks 64 frame.length frame).map fun b => .peer k b)

/-- A link carries a class B frame of a TYPE: HELLO once it trains, the others once it is JOINED (R494). -/
def carriesB (l : PeerLink) (type : Nat) : Bool := l.state = .joined || (type == 0x01 && l.state = .training)

/-- A class B frame is sent with the link's next LSEQ and kept until it is acknowledged (R490, R493, R494). -/
def sendB (k type : Nat) (payload : List Byte) (s : State) : State :=
  let l := s.link k
  if carriesB l type then
    sendBlocks k (peerFrame type l.txSeq payload) (s.setLink k { l with
      txSeq := (l.txSeq + 1) % 4294967296, unacked := l.unacked ++ [(l.txSeq, type, payload)]
      progressAt := if l.unacked.isEmpty then s.now else l.progressAt })
  else s

/-- The federation link that leads to position `p`, none for the device's own (R98). -/
def State.linkTo (s : State) (p : Nat) : Option Nat :=
  if p = s.position then none else some ((p + 3 - s.position) % 4)

/-- The payloads that carry a mirror item: its code, with bit 7 while more of the item follows, and its content, 4,096 octets
at most (R490; log entry 10). -/
def mirrorPayloads (code : Nat) : List (List Byte) → List (List Byte)
  | [] => []
  | [p] => [be 1 code ++ p]
  | p :: q :: t => (be 1 (code + 128) ++ p) :: mirrorPayloads code (q :: t)

/-- A mirror item is sent to the partner while this device is ACTIVE and PEER_3 is JOINED (R504).
The octets of an item are the model's: its code and its content (log entry 10). -/
def mirrorItem (code : Nat) (content : List Byte) (s : State) : State :=
  if s.active && s.pair.pairEnable && (s.link 3).state = .joined then
    (mirrorPayloads code (chunks 4095 content.length content)).foldl (fun s p => sendB 3 0x07 p s) s
  else s

/-! ### Record queues (R441 to R445, R448) -/

/-- Responses to a word (R441). -/
inductive RqResp where
  | ok | full | flushed | off
  deriving DecidableEq, Repr

/-- The number by which the model's trace names a response. -/
def RqResp.code : RqResp → Nat
  | .ok => 0 | .full => 1 | .flushed => 2 | .off => 3

/-- The line in the packing register is pushed into storage (R443, R444). -/
def rqPush (idle : Bool) (q : Rq) : Rq :=
  match q.pack with
  | none => q
  | some p =>
    { q with
      lines := q.lines ++ [{ bytes := padTo 32 ((p.words.flatMap fun w => be 4 w.toNat).take p.valid), valid := p.valid,
                             end_ := p.end_, afterFlush := q.armed, idlePush := idle, start := p.start,
                             firstWord := p.firstWord, seq := q.lineSeq }]
      pack := none
      armed := false
      lineSeq := q.lineSeq + 1
      cIdle := if idle then inc q.cIdle else q.cIdle }

/-- A word joins the packing register; the line is pushed when it is full or closed (R443). -/
def rqStore (w : Word32) (first last : Option Nat) (now : Ps) (q : Rq) : Rq :=
  let q := if q.aligned && first.isSome then rqPush false q else q
  let p := q.pack.getD { words := [], valid := 0, end_ := false, start := false, firstWord := 0, lastAt := now }
  let n := p.words.length
  let keep := match last with
    | some v => if v < 4 then BitVec.ofNat 32 (w.toNat / 256 ^ (4 - v) * 256 ^ (4 - v)) else w
    | none => w
  let p := { p with
    words := p.words ++ [keep]
    valid := match last with
      | some v => if q.aligned then 4 * n + min v 4 else 4 * n + 4
      | none => 4 * n + 4
    end_ := p.end_ || last.isSome
    start := p.start || first.isSome
    firstWord := if first.isSome && !p.start then n else p.firstWord
    lastAt := now }
  let q := { q with pack := some p }
  if n + 1 = 8 || (q.aligned && last.isSome) then rqPush false q else q

/-- A producer writes one word with its marks; the response and the queue after it (R441, R442, R448). -/
def rqWord (w : Word32) (first last : Option Nat) (now : Ps) (q : Rq) : RqResp × Rq :=
  if !q.enable then (.off, { q with cOff := inc q.cOff })
  else if q.flushPending && q.flushedAt / 1250 = now / 1250 then (.flushed, { q with flushPending := false })
  else
    let free := 128 - q.lines.length
    let fits := match first with
      | some l => decide (cdiv l 8 + 1 ≤ free)
      | none => q.reserved.isSome || decide (0 < free)
    if !fits then (.full, if first.isSome then { q with cFull := inc q.cFull } else q)
    else
      let q' := rqStore w first last now q
      let q' := { q' with
        reserved := if last.isSome then none else match first with
          | some l => some (cdiv l 8 + 1)
          | none => q.reserved
        flushPending := false }
      (if q.flushPending then .flushed else .ok, q')

/-- Steps 1 to 4 of a flush (R448). -/
def rqFlushQueue (now : Ps) (q : Rq) : Rq :=
  { q with lines := [], pack := none, reserved := none, flushPending := true, armed := true, flushedAt := now,
           lineSeq := q.lineSeq, cFlushes := inc q.cFlushes }

/-- The queue, and a change of it. -/
def State.rq (s : State) (n : Nat) : Rq := vget {} s.dma.queues n
def State.setRq (s : State) (n : Nat) (q : Rq) : State :=
  { s with dma := { s.dma with queues := vset s.dma.queues n q } }

/-- A functional write of the words that `p` names: no error is left in them (R525, R548). -/
def writeWords (cls : Nat) (p : Nat → Nat → Bool) (s : State) : State :=
  { s with integ := { s.integ with injected := s.integ.injected.filter fun x => !(x.cls = cls && p x.index x.addr) } }

/-- A queue changed by what may write lines into its storage, or a word into its packing register, place 128 (R439, R525; log
entry 20). -/
def State.putRq (s : State) (n : Nat) (q : Rq) : State :=
  let old := s.rq n
  writeWords 9 (fun i a => i == n && (decide (old.lines.length ≤ a) && decide (a < q.lines.length)
    || a == 128 && old.pack.isNone && q.pack.isSome)) (s.setRq n q)

/-- Record queues run: the modes of R421 with the PCIe link up. -/
def State.rqRuns (s : State) : Bool := s.online && s.host.pcieUp

/-- A word reaches queue `n`: its cause is raised when RQ_ITEMS_FULL counts and INT_EN is set; where queues do not run it
is answered as by a queue that is disabled (R421, R451). -/
def rqWriteWord (n : Nat) (w : Word32) (first last : Option Nat) (s : State) : RqResp × State :=
  let q := s.rq n
  let r1 := rqWord w first last s.now { q with enable := q.enable && s.rqRuns }
  let r := r1.1
  let q' := r1.2
  let s' := s.putRq n { q' with enable := q.enable }
  (r, if r = .full && first.isSome && q.intEn then raiseCause n s' else s')

/-- A producer may be bound to queue `n` (R440). -/
def queueFree (who : Producer) (n : Nat) (s : State) : Bool := match (s.rq n).bound with | none => true | some p => p = who

/-- What queue `i` is bound to once `who` is bound to queue `n`, or to none (R440). -/
def rebound (who : Producer) (n : Option Nat) (q : Rq) (i : Nat) : Rq :=
  if n = some i then { q with bound := some who } else if q.bound = some who then { q with bound := none } else q

/-- A producer is bound to a queue, or to none, and to no other (R440). -/
def bindQueue (who : Producer) (n : Option Nat) (s : State) : State :=
  { s with dma := { s.dma with queues := s.dma.queues.zipIdx.map fun (x : Rq × Nat) => rebound who n x.1 x.2 } }

/-- The words of an item: FIRST with its length on the first, LAST with 4 valid bytes on the last. -/
def rqItemWords (n : Nat) (l : Nat) : Nat → List Word32 → State → Bool × State
  | _, [], s => (true, s)
  | i, w :: ws, s =>
    let r := rqWriteWord n w (if i = 0 then some l else none) (if ws.isEmpty then some 4 else none) s
    if r.1 = .full ∧ i = 0 then (false, r.2)
    else if r.1 = .full ∨ r.1 = .off then (false, (rqItemWords n l (i + 1) ws r.2).2)
    else rqItemWords n l (i + 1) ws r.2

/-- The big-endian words of bytes. -/
def wordsOf : List Byte → List Word32
  | a :: b :: c :: d :: t => BitVec.ofNat 32 (ofBe [a, b, c, d]) :: wordsOf t
  | _ => []

/-- A record is written to queue `n` as one item; whether all of it was stored (R150, R487). -/
def rqItem (n : Nat) (record : List Byte) (s : State) : Bool × State :=
  let ws := wordsOf record
  rqItemWords n ws.length 0 ws s

/-! ### The OTP (R522, R558, R596) -/

/-- A word programmed with data and its check bits (R522). -/
def otpWord (d : Word32) : OtpWord := secdedCheck d false ++ d

/-- What a read of a word finds (R524). -/
def otpRead (w : OtpWord) : Ecc := eccRead (w.extractLsb' 0 32) (w.extractLsb' 32 7) false false

/-- The data that a read delivers (R525). -/
def otpData (w : OtpWord) : Word32 :=
  match otpRead w with
  | .corrected d => d
  | _ => w.extractLsb' 0 32

/-- The octets of words, the most significant first (R558; log entry 6). -/
def otpBytes (ws : List OtpWord) : List Byte := ws.flatMap fun w => be 4 (otpData w).toNat

/-- The words that octets fill. -/
def otpWords (bs : List Byte) : List OtpWord := (wordsOf bs).map otpWord

/-- A counter word counts as programmed: at least 17 of its data bits read 1, its check bits ignored (R596). -/
def otpProgrammed (w : OtpWord) : Bool := decide (17 ≤ popcount 32 (w.extractLsb' 0 32))

/-- A word of all ones with check bits 0x09 (R557, R596). -/
def otpOnes : OtpWord := 0x09FFFFFFFF#39

/-- The value of a counter (R596). -/
def otpCount (ws : List OtpWord) : Nat := (ws.filter otpProgrammed).length

/-- `n` more words of a counter are programmed, the first that are not (R596, R604). -/
def otpRaise : Nat → List OtpWord → List OtpWord
  | 0, ws => ws
  | _, [] => []
  | n + 1, w :: ws => if otpProgrammed w then w :: otpRaise (n + 1) ws else otpOnes :: otpRaise n ws

/-- FW_ARB and CAT_ARB (R596). -/
def Otp.fwArb (x : Otp) : Nat := otpCount x.arbFw
def Otp.catArb (x : Otp) : Nat := otpCount x.arbCat

/-- All words in order of number (R558). -/
def Otp.words (x : Otp) : List OtpWord :=
  x.serialWords ++ x.vendor ++ x.slots.toList.flatten ++ x.secret ++ x.arbFw ++ x.arbCat ++ x.trims ++ x.reserved

/-- The serial number, its low word first, as ID_SERIAL shows it (R453, R558; log entry 6). -/
def SecSt.serial (x : SecSt) : BitVec 64 :=
  otpData (x.otp.serialWords.getD 1 0) ++ otpData (x.otp.serialWords.getD 0 0)

/-- The vendor root (R558). -/
def SecSt.vendorRoot (x : SecSt) : List Byte := otpBytes x.otp.vendor

/-- The owner root slots: none while not programmed, which the model sees by all words reading 0 (R558, R559; log entry 6). -/
def SecSt.owner (x : SecSt) : Vector (Option (List Byte)) 4 :=
  x.otp.slots.map fun ws => if ws.all fun w => otpData w == 0 then none else some (otpBytes ws)

end Sys2Proof.Machine
end

