-- ==== Sys2Proof/Machine/Flags.lean ====
section
/-! DEFINITION. Every status word and status bit the manual computes: GLOBAL_STATUS, MODE, TS_STATUS, the time quality
of R141, the STAT fields of R142, the leap flags of R120. -/

namespace Sys2Proof.Machine

/-- Bit `n` set when `b`. -/
def bit (b : Bool) (n : Nat) : Nat := if b then 2 ^ n else 0

/-- Bits of a list, the first in bit 0. -/
def bitsOf (xs : List Bool) : Nat := (xs.zipIdx.map fun (x, i) => bit x i).foldl (· + ·) 0

/-- The servo state's code in TS_STATUS (R121). -/
def ServoState.code : ServoState → Nat
  | .freerun => 0 | .acquire => 1 | .locked => 2 | .twilight => 3

/-- The code of the selected source in TS_STATUS (R121). -/
def sourceCode : Option Source → Nat
  | none => 0 | some .ptp => 1 | some .ppsIn => 2 | some .irigIn => 3 | some .ref10In => 4

/-- The code of a link state (R494). -/
def LinkState.code : LinkState → Nat
  | .down => 0 | .training => 1 | .joined => 2 | .refused => 3

/-- The code of a pair state (R503). -/
def PairState.code : PairState → Nat
  | .unpaired => 0 | .listen => 1 | .activeAlone => 2 | .activePaired => 3 | .standby => 4 | .takingBack => 5 | .handingOver => 6

/-- The C37.118 time quality code (R141). -/
def TimeSt.tqCode (t : TimeSt) : Nat :=
  let e := t.err
  if !t.valid || 10000000000 ≤ e then 0xF
  else if t.servo = .locked ∧ e < 1000 then 0x0
  else if e < 100 then 0x3
  else if e < 1000 then 0x4
  else if e < 10000 then 0x5
  else if e < 100000 then 0x6
  else if e < 1000000 then 0x7
  else if e < 10000000 then 0x8
  else if e < 100000000 then 0x9
  else if e < 1000000000 then 0xA
  else 0xB

/-- STAT[8:6] (R141). -/
def TimeSt.statQuality (t : TimeSt) : Nat :=
  let e := t.err
  if !t.valid then 7
  else if e < 100 then 1
  else if e < 1000 then 2
  else if e < 10000 then 3
  else if e < 100000 then 4
  else if e < 1000000 then 5
  else if e < 10000000 then 6
  else 7

/-- UNLOCKED_S: whole seconds since SERVO_STATE last left LOCKED (R121); while it has never been LOCKED, since the reset, of
which the rule says nothing (DESIGN CHOICE, log entry 16). -/
def TimeSt.unlockedSec (t : TimeSt) : Nat := if t.servo = .locked then 0 else min (t.unlockedPs / 1000000000000) 0xFFFFFFFF

/-- STAT[5:4] (R142). -/
def TimeSt.statUnlocked (t : TimeSt) : Nat :=
  let u := t.unlockedSec
  if u < 10 then 0 else if u < 100 then 1 else if u < 1000 then 2 else 3

/-- STAT bit 13: E above SYNC_LIMIT, or time invalid (R142). -/
def TimeSt.syncError (t : TimeSt) : Bool := !t.valid || decide ((t.syncLimit : Rat) < t.err)

/-- STAT bits 13 and [8:4] as the device writes them into frames it originates (R142, R143). -/
def TimeSt.statBits (t : TimeSt) : Nat := bit t.syncError 13 + t.statQuality * 64 + t.statUnlocked * 16

/-- The leap flags of a frame whose time is `at_`: FRACSEC[30:28], direction, occurred, pending (R119, R120). In the
inserted second the occurred bit is 0. -/
def TimeSt.leapBits (t : TimeSt) (at_ : Stamp) : Nat :=
  let occurred := (t.leapOccurred && decide (t.leapAt ≤ stampSec at_)) || (t.leapPending && decide (t.leapDue ≤ stampSec at_))
  bit t.leapDir 6 + bit occurred 5 + bit t.leapPending 4

/-- FRACSEC[31:24] of a frame that the device originates (R143, R389). -/
def TimeSt.fracsecHi (t : TimeSt) (at_ : Stamp) : Nat := t.leapBits at_ + t.tqCode

/-- A whole number of nanoseconds for TS_ERR_EST, saturating (R121). -/
def TimeSt.errNs (t : TimeSt) : Nat := min (roundQ 2 t.err).toNat 0xFFFFFFFF

/-- TS_STATUS (R121). -/
def State.tsStatus (s : State) : Word32 :=
  let t := s.time
  BitVec.ofNat 32 (t.servo.code + sourceCode t.source * 16 + t.tqCode * 256 + bit t.leapPending 12 + bit t.leapDir 13
    + bit t.leapOccurred 14 + bit t.valid 15 + (t.utcOffset % 65536).toNat * 65536)

/-- FED_PRESENT: the device's own position while federation is enabled, and the positions of JOINED links (R496). -/
def State.fedPresent (s : State) : Nat :=
  if !s.pair.fedEnable then 0
  else
    let i := s.position
    let far (k : Nat) : Nat := bit ((s.link k).state = .joined) ((i + k + 1) % 4)
    bit true i + far 0 + far 1 + far 2

/-- PARTNER_OK: PEER_3 is JOINED and no heartbeat on it has been missed (R509). -/
def State.partnerOk (s : State) : Bool := (s.link 3).state = .joined && !s.pair.hbMissed

/-- GLOBAL_STATUS (R457). -/
def State.globalStatus (s : State) : Word32 :=
  BitVec.ofNat 32 (bit s.host.cmdReady 0 + bit s.host.dirty 1 + bit s.sys.defaulted 2 + bit s.time.valid 3
    + bit s.sys.reserveLost 4 + bit s.partnerOk 5 + s.fedPresent * 64 + bit s.integ.tempWarn 10 + bit s.host.mgmtLink 11)

/-- BOOT_SRC without SVC_EN (R73). -/
def strapConflict (p : StrapPins) : Bool := p.bootSrc && !p.svcEn

/-- STRAPS (R457). -/
def State.strapsWord (s : State) : Nat :=
  let p := s.sys.straps
  bit p.pairRole 0 + bit p.fedId0 1 + bit p.fedId1 2 + bit p.bootSrc 3 + bit p.svcEn 4 + bit (strapConflict p) 5 + bit s.sys.bootedSvc 6

/-- The MODE register (R457). -/
def State.modeWord (s : State) : Word32 :=
  BitVec.ofNat 32 (s.sys.mode.code + s.sys.prevMode.code * 16 + s.sys.lastReset.code * 256 + s.sys.lifecycle.code * 4096
    + s.sys.modeChanges * 65536)

/-- The images that run: those of recovery boot, or of the running bank (R602, R606). -/
def UpdSt.runBank (u : UpdSt) : Bank := if u.runB then u.bankB else u.bankA
def UpdSt.running (u : UpdSt) : Option Image × Option Image :=
  match u.dramImages with
  | some (f, c) => (some f, some c)
  | none => (u.runBank.fw, u.runBank.cat)

/-- FW_VER and CAT_VER (R457). -/
def State.fwVer (s : State) : Nat := (s.upd.running.1.map (·.version)).getD 0
def State.catVer (s : State) : Nat := (s.upd.running.2.map (·.version)).getD 0

/-- Flags of DIAG and INTEG_GET_STATUS: KCLK_FAIL, RESERVE_UNAVAILABLE, TEMP_WARN (R548). -/
def State.integFlags (s : State) : Nat := bit s.time.kclkFail 0 + bit s.integ.reserveUnavailable 1 + bit s.integ.tempWarn 2

/-- UPTIME (R457). -/
def State.uptime (s : State) : Nat := min (s.sys.upPs / 1000000000000) 0xFFFFFFFF

/-- PARTNER_OK or FED_PRESENT may have changed between `s` and `t`: cause PARTNER (R459). -/
def notePartner (s t : State) : State :=
  if s.partnerOk = t.partnerOk ∧ s.fedPresent = t.fedPresent then t else raiseCause causePartner t

/-- SERVO_STATE may have changed between `s` and `t`: cause TIME; a servo that is not LOCKED breaks the hold timer of the
pair (R459, R515). -/
def noteServo (s t : State) : State :=
  if s.time.servo = t.time.servo then t
  else raiseCause causeTime { t with pair := { t.pair with holdFrom := if t.time.servo = .locked then t.pair.holdFrom else none } }

end Sys2Proof.Machine
end

