-- ==== Sys2Proof/Machine/Command.lean ====
section
/-! DEFINITION. The command packets: checks, statuses, replies, the change journal and the settings records
(R464 to R472, R480, R483 to R487, R568, R580, R581).  Every host command of the table is a `Cmd` run by `runCommand`. -/

namespace Sys2Proof.Machine

/-- What the body of a command answers: OK with reply data; BAD_PARAM at an offset; another status; a status with an
effect all the same, as a nonce that is spent (R561); or a command that goes on executing (R471, R480). -/
inductive CmdOut where
  | ok (data : List Byte) (s : State)
  | bad (offset : Nat)
  | err (status : Nat)
  | fail (status : Nat) (offset : Nat) (s : State)
  | long (op : LongOp) (s : State)

/-- Status codes (R480). -/
def stOk : Nat := 0x00
def stBusy : Nat := 0x01
def stBadOpcode : Nat := 0x02
def stBadParam : Nat := 0x03
def stWrongMode : Nat := 0x04
def stNoResource : Nat := 0x05
def stTagBusy : Nat := 0x06
def stDenied : Nat := 0x07
def stIntegrity : Nat := 0x08
def stBadEpoch : Nat := 0x09
def stBadLength : Nat := 0x0A
def stFetchErr : Nat := 0x0B
def stFlashErr : Nat := 0x0C
def stImageClass : Nat := 0x10
def stImageTarget : Nat := 0x11
def stImageRollback : Nat := 0x12
def stImageFit : Nat := 0x13
def stImageSignature : Nat := 0x14

/-- A host command: opcode, the modes that accept it (step 10), its length (step 11), its parameter ranges in packet
order with their offsets (step 12), whether a run of it is journaled (R484), which setting it sets (R580), and its body. -/
structure Cmd where
  opcode    : Nat
  modes     : Mode → Bool
  lenOk     : List Byte → Bool
  checks    : State → List Byte → List (Bool × Nat)
  journaled : List Byte → List Byte → Bool
  key       : List Byte → Option (Nat × List Nat)
  run       : State → Nat → List Byte → CmdOut

/-! ### Common pieces of commands -/

/-- Accepted in every mode in which an interface runs. -/
def anyMode : Mode → Bool := fun _ => true

/-- A fixed parameter length. -/
def lenIs (n : Nat) (p : List Byte) : Bool := p.length == n

/-- No parameter check. -/
def noChecks : State → List Byte → List (Bool × Nat) := fun _ _ => []

/-- Always journaled; never journaled; journaled when the clear parameter is 1 (R484). -/
def jAlways : List Byte → List Byte → Bool := fun _ _ => true
def jNever : List Byte → List Byte → Bool := fun _ _ => false
def jClear : List Byte → List Byte → Bool := fun p _ => p.head? == some 1

/-- Not a setting; the only setting of its opcode; a setting by its first byte, or by its first two bytes. -/
def noKey : List Byte → Option (Nat × List Nat) := fun _ => none
def keyOne (op : Nat) : List Byte → Option (Nat × List Nat) := fun _ => some (op, [])
def keyByte (op : Nat) : List Byte → Option (Nat × List Nat) := fun p => some (op, [fld p 0 1])
def keyWord (op : Nat) : List Byte → Option (Nat × List Nat) := fun p => some (op, [fld p 0 2])

/-- A field lies between two bounds. -/
def inRange (v lo hi : Nat) : Bool := decide (lo ≤ v) && decide (v ≤ hi)
def inRangeI (v lo hi : Int) : Bool := decide (lo ≤ v) && decide (v ≤ hi)

/-- The offset of the first check that fails. -/
def firstBad : List (Bool × Nat) → Option Nat
  | [] => none
  | (true, _) :: t => firstBad t
  | (false, o) :: _ => some o

/-- An IP address in a 16-byte field with its version, 4 or 6 (R608). -/
def ipOf (v6 : Bool) (field : List Byte) : Nat := if v6 then ofBe field else ofBe (field.drop 12)

/-- The 12 bytes before an IPv4 address are 0 (R608). -/
def ipFieldOk (v6 : Bool) (field : List Byte) : Bool := v6 || allZero (field.take 12)

/-- An address in a 16-byte reply field (R608). -/
def ipBytes (v6 : Bool) (a : Nat) : List Byte := if v6 then be 16 a else List.replicate 12 0 ++ be 4 a

/-! ### Interfaces -/

/-- An interface by its code (R466). -/
def State.iface (s : State) (i : Nat) : Iface := if i = 0 then s.host.ring else if i = 1 then s.host.mgmt else s.host.svc

/-- An interface changed. -/
def State.setIface (s : State) (i : Nat) (f : Iface) : State :=
  if i = 0 then { s with host := { s.host with ring := f } }
  else if i = 1 then { s with host := { s.host with mgmt := f } }
  else { s with host := { s.host with svc := f } }

/-- An interface changed by `g`. -/
def State.modIface (s : State) (i : Nat) (g : Iface → Iface) : State := s.setIface i (g (s.iface i))

/-- The modes in which command interfaces run, with CMD_READY (R472, R545, R575). -/
def State.commandsRun (s : State) : Bool := s.online && s.host.cmdReady && !s.integ.noInterface

/-- Interface `i` runs: SVC only with SVC_EN sampled at 1 (R71, R479). -/
def State.ifaceRuns (s : State) (i : Nat) : Bool := s.commandsRun && (i != 2 || s.sys.straps.svcEn)

/-- Limits of outstanding commands (R472). -/
def State.tagLimit (s : State) (i : Nat) : Nat := if i = 0 then 2 ^ s.host.log2.toNat else if i = 1 then 16 else 4

/-! ### Replies (R465) -/

/-- A reply as bytes. -/
def replyBytes (r : Reply) : List Byte :=
  be 2 r.opcode ++ be 2 r.tag ++ be 2 r.epoch ++ be 2 0x8000 ++ be 4 r.data.length ++ be 1 r.status ++ be 1 0
    ++ be 2 r.offset ++ r.data

/-- The reply to `c`: data only for OK and BAD_EPOCH, PARAM_OFFSET only for BAD_PARAM (R465). -/
def mkReply (c : QCmd) (status offset : Nat) (data : List Byte) : Reply :=
  { ifc := c.ifc, opcode := c.opcode, tag := c.tag, epoch := c.epoch, status,
    offset := if status = stBadParam then offset else 0xFFFF,
    data := if status = stOk ∨ status = stBadEpoch then data else []
    taken := true }

/-- A reply goes to its interface: written to the submission's slot, sent as a datagram, kept for the Bastik link's
POLL, or, for a row of its own, given out at once (R469, R476, R478, R590). -/
def sendReply (o : Origin) (r : Reply) (s : State) : State :=
  let leave := fun (f : Iface) => { f with cSent := inc f.cSent, tags := if r.taken then f.tags.erase r.tag else f.tags }
  match o with
  | .direct => (s.modIface r.ifc leave).emit (.reply r.ifc (replyBytes r))
  | .ring n =>
    { s with host := { s.host with slots := s.host.slots.map fun x => if x.1 = n then (n, { x.2 with reply := some r }) else x } }
  | .mgmt ip port =>
    let v6 : Bool := decide (4294967296 ≤ ip)
    let own := if v6 then s.host.mgmtCfg.ipv6 else s.host.mgmtCfg.ipv4
    (s.modIface 1 leave).emit (.mgmt ip port (datagramPieces v6 (udpDatagram v6 own ip 4817 port (replyBytes r))))
  | .svc => { s with host := { s.host with bastik := { s.host.bastik with replies := s.host.bastik.replies ++ [r] } } }

/-! ### Arrival (R469 to R471) -/

/-- A reply to a packet refused on arrival: it takes no tag (R470). -/
def refuse (o : Origin) (c : QCmd) (status offset : Nat) (data : List Byte) (s : State) : State :=
  sendReply o { mkReply c status offset data with taken := false } s

/-- What steps 4 to 6 of R470 refuse a packet with: another epoch, a tag that is outstanding, the limit of R472. -/
def arrivalStatus (c : QCmd) (s : State) : Option Nat :=
  let f := s.iface c.ifc
  if c.epoch ≠ f.epoch.toNat then some stBadEpoch
  else if f.tags.contains c.tag then some stTagBusy
  else if s.tagLimit c.ifc ≤ f.tags.length then some stBusy else none

/-- A packet refused at steps 4 to 6 counts, and is answered (R470, R488). -/
def turnAway (c : QCmd) (status : Nat) (s : State) : State :=
  let f := s.iface c.ifc
  let g : Iface := if status = stBadEpoch then { f with cEpoch := inc f.cEpoch }
    else if status = stTagBusy then { f with cTag := inc f.cTag } else { f with cQueue := inc f.cQueue }
  refuse c.origin c status 0 (be 2 f.epoch.toNat) (s.setIface c.ifc g)

/-- RX_PACKETS counts a packet (R488). -/
def countPacket (i : Nat) (s : State) : State := s.modIface i fun f => { f with cPackets := inc f.cPackets }

/-- A packet's tag becomes outstanding (R469). -/
def takeTag (c : QCmd) (s : State) : State := s.modIface c.ifc fun f => { f with tags := c.tag :: f.tags }

/-- A packet in its place among those that wait: the order of arrival, and on one FCLK edge RING, MGMT, SVC (R471). -/
def queuePacket (c : QCmd) : List QCmd → List QCmd
  | [] => [c]
  | d :: t => if d.edge = c.edge ∧ c.ifc < d.ifc then c :: d :: t else d :: queuePacket c t

/-- A packet waits for execution (R471). -/
def awaitTurn (c : QCmd) (s : State) : State := { s with host := { s.host with waiting := queuePacket c s.host.waiting } }

/-- A reply that an interface reset has discarded (R468). -/
def discardReply (i : Nat) (s : State) : State := s.modIface i fun f => { f with cDiscarded := inc f.cDiscarded }

/-! ### The change journal (R483 to R487) -/

/-- PARAM_CRC: of the parameters, with the CAK of SEC_SET_MKA as zeros (R483, R564). -/
def paramCrc (c : QCmd) : Word32 :=
  if c.params.isEmpty then 0
  else if c.opcode = 0x0B04 then crc32c (c.params.take 36 ++ List.replicate 32 0 ++ c.params.drop 68)
  else crc32c c.params

/-- An entry as its 32 bytes (R483). -/
def jentryBytes (e : JEntry) : List Byte :=
  be 4 e.jseq.toNat ++ stampBytes e.time ++ be 1 e.ifc ++ be 1 e.status ++ be 2 e.opcode ++ be 2 e.tag ++ be 2 e.epoch
    ++ be 4 e.crc.toNat ++ be 1 (bit e.committed 0 + bit e.timeInvalid 1) ++ be 3 0

/-- Entries that are not COMMITTED. -/
def uncommitted (j : List JEntry) : Nat := (j.filter fun e => !e.committed).length

/-- The next entry would replace one that is not COMMITTED (R485). -/
def journalMustCommit (s : State) : Bool :=
  decide (4096 ≤ s.host.journal.length) && (match s.host.journal.getLast? with | some e => !e.committed | none => false)

/-- The journal is committed: every entry is held in flash, which keeps the 4,096 newest (R485). -/
def commitJournal (s : State) : State :=
  let j := s.host.journal.map fun e => { e with committed := true }
  let new := j.take (uncommitted s.host.journal)
  { s with host := { s.host with journal := j }
           upd := { s.upd with flashJournal := (new ++ s.upd.flashJournal).take 4096 } }

/-- The journal route writes the entry to its record queue (R487). -/
def routeEntry (e : JEntry) (s : State) : State :=
  match s.host.route with
  | none => s
  | some n =>
    let r1 := rqItem n (jentryBytes e) s
    let ok := r1.1
    let s' := r1.2
    if ok then s' else { s' with host := { s'.host with cRouteDrops := inc s'.host.cRouteDrops } }

/-- An entry is made for command `c` with its status: the oldest entry of a full journal goes, JSEQ advances, cause
JOURNAL and the route and the partner's tail follow (R484, R485, R487, R504). -/
def addJournal (c : QCmd) (status : Nat) (s : State) : State :=
  let e : JEntry := { jseq := s.host.nextJseq, time := s.stamp, ifc := c.ifc, status, opcode := c.opcode, tag := c.tag,
                      epoch := c.epoch, crc := paramCrc c, committed := false, timeInvalid := !s.time.valid }
  let lost := journalMustCommit s
  let s1 := { s with host := { s.host with
    journal := (e :: s.host.journal).take 4096
    nextJseq := s.host.nextJseq + 1
    cOverwrites := if lost then inc s.host.cOverwrites else s.host.cOverwrites } }
  let s2 := if uncommitted s1.host.journal = 3584 then raiseCause causeJournal s1 else s1
  mirrorItem 6 (jentryBytes e) (routeEntry e s2)

/-! ### Completion -/

/-- A command ends with a status: its journal entry, then its reply (R484). -/
def closeCommand (c : QCmd) (journal mute : Bool) (status offset : Nat) (data : List Byte) (s : State) : State :=
  let s1 := if journal then addJournal c status s else s
  let s2 := { s1 with host := { s1.host with executing := none } }
  if mute then discardReply c.ifc s2 else sendReply c.origin (mkReply c status offset data) s2

/-- A command completes. When its journal entry would replace one that is not COMMITTED, the completion waits for the
journal commit (R484, R485). -/
def finishCommand (c : QCmd) (journal mute : Bool) (status offset : Nat) (data : List Byte) (s : State) : State :=
  if journal && journalMustCommit s then
    { s with host := { s.host with executing := some { cmd := c, op := .journalCommit status offset data, mute } } }
  else closeCommand c journal mute status offset data s

/-- A command refused by the lifecycle state at step 9 of R470 (R568). -/
def lifecycleDenies (l : Lifecycle) (opcode : Nat) (p : List Byte) : Bool :=
  match l with
  | .field => opcode == 0x0A04
  | .return =>
    opcode == 0x0B03 || (opcode == 0x0B04 && fld p 2 1 != 0) || opcode == 0x0901 || opcode == 0x0905
      || (opcode == 0x0102 && (fld p 0 1 == 2 || fld p 0 1 == 3 || (fld p 0 1 == 5 && fld p 9 1 == 2)))
  | _ => false

/-- Commands that write a run of table entries: their key is the first entry and the count. -/
def tableSetting (opcode : Nat) : Bool := opcode == 0x0701 || opcode == 0x0702 || opcode == 0x0706

/-- The new record takes the place of an old one: the same setting, or a run of entries inside the new run. -/
def settingCovers (new old : Nat × List Nat) : Bool :=
  new == old || (tableSetting new.1 && new.1 == old.1 &&
    (match new.2, old.2 with
     | [a, n], [b, m] => decide (a ≤ b) && decide (b + m ≤ a + n)
     | _, _ => false))

/-- A settings record in place of the older records of the same setting, newest last (R581). -/
def recordSetting (x : Setting) (xs : List Setting) : List Setting :=
  (xs.filter fun y => !settingCovers x.key y.key) ++ [x]

/-- The groups that the settings digest covers (R502). -/
def digestGroup (opcode : Nat) : Bool := opcode / 256 == 2 || inRange (opcode / 256) 4 8

/-- The setting a command sets is recorded, and SETTINGS_DIRTY follows a change; a change of the settings digest breaks the
hold timer of the pair (R515, R581, R582). -/
def noteSetting (k : Option (Nat × List Nat)) (opcode : Nat) (p : List Byte) (before s : State) : State :=
  let new := match k with
    | some k => recordSetting { key := k, opcode, params := p } s.host.settings
    | none => s.host.settings
  let changed := new != before.host.settings
  { s with host := { s.host with settings := new, dirty := s.host.dirty || changed }
           pair := { s.pair with holdFrom := if changed && digestGroup opcode then none else s.pair.holdFrom } }

/-- Records of settings that a remove or delete command takes away. -/
def dropSettings (f : Nat × List Nat → Bool) (s : State) : State :=
  { s with host := { s.host with settings := s.host.settings.filter fun x => !f x.key } }

/-- What a command answers from step 9 of R470 on, and the state with its effect. -/
def cmdOutcome (d : Cmd) (ifc : Nat) (p : List Byte) (s : State) : CmdOut :=
  if lifecycleDenies s.sys.lifecycle d.opcode p then .err stDenied
  else if !d.modes s.sys.mode then .err stWrongMode
  else if !d.lenOk p then .err stBadLength
  else match firstBad (d.checks s p) with
    | some o => .bad o
    | none => d.run s ifc p

/-- A command executes (R470 steps 9 to 13, R480); one that resets the device gives no reply (R583), and the reply of one whose
effect resets its own interface, as a move to DORMANT does, is discarded (R468). -/
def executeCommand (d : Cmd) (c : QCmd) (s : State) : State :=
  match cmdOutcome d c.ifc c.params s with
  | .ok data s' => if s'.sys.phase != .running then s' else finishCommand c (d.journaled c.params data) ((s'.iface c.ifc).epoch != (s.iface c.ifc).epoch) stOk 0 data (noteSetting (d.key c.params) d.opcode c.params s s')
  | .bad o => finishCommand c (d.journaled c.params []) false stBadParam o [] s
  | .err st => finishCommand c (d.journaled c.params []) false st 0 [] s
  | .fail st o s' => finishCommand c (d.journaled c.params []) false st o [] s'
  | .long op s' => { s' with host := { s'.host with executing := some { cmd := c, op, mute := false } } }

/-- The packet of a command row as a packet that waits. -/
def packetCmd (d : Cmd) (q : Packet) : QCmd :=
  { ifc := q.ifc, origin := .direct, opcode := d.opcode, tag := q.tag, epoch := q.epoch, length := q.params.length,
    params := q.params }

/-- A packet that passes steps 4 to 6 of R470 is counted and its tag outstanding (R469, R488). -/
def admitted (d : Cmd) (q : Packet) (s : State) : State := takeTag (packetCmd d q) (countPacket q.ifc s)

/-- The meaning of a command row: a packet with a sound header completes arrival, and comes to execution at once unless
another executes or waits. It is dropped where no interface runs (R470 to R472). -/
def runCommand (d : Cmd) (q : Packet) (s : State) : State :=
  if !s.ifaceRuns q.ifc then s
  else
    let c := packetCmd d q
    match arrivalStatus c s with
    | some st => turnAway c st (countPacket q.ifc s)
    | none =>
      if s.host.executing.isSome || !s.host.waiting.isEmpty then awaitTurn { c with edge := s.now / 1250 } (admitted d q s)
      else executeCommand d c (admitted d q s)

/-- A reply to an opcode has not left its interface (R482, R566). -/
def replyPending (opcode : Nat) (s : State) : Bool :=
  (match s.host.executing with | some e => e.cmd.opcode = opcode | none => false)
    || (s.host.slots.any fun x => match x.2.reply with | some r => r.opcode = opcode | none => false)
    || s.host.bastik.replies.any fun r => r.opcode = opcode

end Sys2Proof.Machine
end

