-- ==== Sys2Proof/Machine/Ecc.lean ====
section
/-! DEFINITION. The reads and writes of words under the check code: the integrity log, what a read finds of the injected
errors, the write-back queues of DRAM (R522 to R525, R530, R531, R548). -/

namespace Sys2Proof.Machine

/-! ### The integrity log (R548) -/

/-- An entry joins the log of 256, the oldest making room (R548). -/
def addLog (cls unit outcome syndrome address : Nat) (s : State) : State :=
  let e : LogEntry := { time := s.stamp, cls, unit, outcome, syndrome, address }
  { s with integ := { s.integ with log := (s.integ.log ++ [e]).drop ((s.integ.log.length + 1) - 256) } }

/-- An error of a memory class counts and is logged (R526, R548, R549). -/
def countError (cls addr syndrome : Nat) (k : Ecc) (s : State) : State :=
  let g := s.integ
  match k with
  | .clean => s
  | .corrected _ => addLog 1 cls 0 syndrome addr { s with integ := { g with cCe := vset g.cCe cls (inc (vget 0 g.cCe cls)) } }
  | .uncorrectable => addLog 2 cls (if cls = 6 then 0 else 1) syndrome addr { s with integ := { g with cUe := vset g.cUe cls (inc (vget 0 g.cUe cls)) } }
  | .addressError => addLog 3 cls 1 syndrome addr { s with integ := { g with cAddr := inc g.cAddr } }

/-! ### The words of SRAM (R524, R525) -/

/-- The syndrome of a stored word of 32 data bits and 7 check bits (R524). -/
def wordSyndrome (w : BitVec 39) : Nat := (secdedCheck (w.extractLsb' 0 32) false ^^^ w.extractLsb' 32 7).toNat

/-- The bits that injected errors flip in a word (R548). -/
def injectedFlips (cls item addr : Nat) (s : State) : BitVec 40 :=
  s.integ.injected.foldl (fun v x => if x.cls = cls ∧ x.index = item ∧ x.addr = addr then v ^^^ x.flips else v) 0

/-- A word is written: no injected error is left in it (R548). -/
def wordWritten (cls item addr : Nat) (s : State) : State :=
  { s with integ := { s.integ with injected := s.integ.injected.filter fun x => !(x.cls = cls && x.index = item && x.addr = addr) } }

/-- What a read of a word finds of the injected errors in it: the code is linear, so the stored word counts for nothing (R522
to R524). -/
def flipsRead (v : BitVec 40) : Ecc := eccRead (v.extractLsb' 0 32) (v.extractLsb' 32 7) (v.getLsbD 39) false

/-- The syndrome of those errors. -/
def flipsSyndrome (v : BitVec 40) : Nat := (secdedCheck (v.extractLsb' 0 32) false ^^^ v.extractLsb' 32 7).toNat

/-- A read finds its word uncorrectable. -/
def Ecc.isBad : Ecc → Bool
  | .uncorrectable | .addressError => true
  | .clean | .corrected _ => false

/-- The words of a class that hold injected errors, each once, of those that `p` names by item and address. -/
def injectedWords (cls : Nat) (p : Nat → Nat → Bool) (s : State) : List (Nat × Nat) :=
  ((s.integ.injected.filter fun x => x.cls = cls && p x.index x.addr).map fun x => (x.index, x.addr)).eraseDups

/-- The address by which the log names a word: of an engine's memory, with the engine (log entry 20). -/
def logAddress (cls item addr : Nat) : Nat := if inRange cls 4 6 then item % 12 * 4294967296 + addr else addr

/-- A functional read of a word of SRAM: an error counts and is logged; the word stays as it is until the scrubber or a
functional write comes (R524, R525, R530). -/
def readWord (cls item addr : Nat) (s : State) : State :=
  let v := injectedFlips cls item addr s
  countError cls (logAddress cls item addr) (flipsSyndrome v) (flipsRead v) s

/-- A word of a class cannot be read. -/
def wordBad (cls item : Nat) (s : State) (addr : Nat) : Bool := (flipsRead (injectedFlips cls item addr s)).isBad

/-- The words among those that `p` names which cannot be read. -/
def badWords (cls : Nat) (p : Nat → Nat → Bool) (s : State) : List (Nat × Nat) :=
  (injectedWords cls p s).filter fun h => wordBad cls h.1 s h.2

/-- A functional read of the words that `p` names. -/
def readWords (cls : Nat) (p : Nat → Nat → Bool) (s : State) : State :=
  (injectedWords cls p s).foldl (fun s h => readWord cls h.1 h.2 s) s

/-- The words of a context from the word `lo` on: 0 to 5 the key, 64 the entry of the forwarding table (log entry 20). -/
def contextWords (i lo item addr : Nat) : Bool := item == i && decide (lo ≤ addr)

/-- The words of `n` entries of a kind of class TABLES (log entry 20). -/
def tableWords (kind first n item _addr : Nat) : Bool :=
  decide (kind * 65536 + first ≤ item) && decide (item < kind * 65536 + first + n)

/-- Entries of a table are written (R525, R526). -/
def tableWritten (kind first n : Nat) (s : State) : State := writeWords 3 (tableWords kind first n) s

/-- The reply data of a command that reads the words that `p` names; INTEGRITY where one of them cannot be read (R526). -/
def replyRead (cls : Nat) (p : Nat → Nat → Bool) (data : List Byte) (s : State) : CmdOut :=
  if (badWords cls p s).isEmpty then .ok data (readWords cls p s) else .fail stIntegrity 0 (readWords cls p s)

/-! ### DRAM (R523, R527, R531) -/

/-- The start of a DRAM region that lies `mib` MiB above the alignment store (R59). -/
def State.region (s : State) (mib : Nat) : Nat := s.sys.capacity * 536870912 + mib * 1048576

/-- The DRAM byte address of 64-byte access `n` of a channel (R56). -/
def accessAddr (ch n : Nat) : Nat := n * 128 + ch * 64

/-- The DRAM byte address of a channel-local one. -/
def dramAddr (ch addr : Nat) : Nat := accessAddr ch (addr / 64) + addr % 64

/-- `n` bytes at `addr` meet `m` bytes at `a`. -/
def spansMeet (addr n a m : Nat) : Bool := decide (a < addr + n) && decide (addr < a + m)

/-- The beats with injected errors that `n` bytes at a DRAM address meet, each once: channel and channel-local address. -/
def dramHits (addr n : Nat) (s : State) : List (Nat × Nat) :=
  (((s.integ.injected.filter fun x => x.cls = 13 && spansMeet addr n (dramAddr x.index (x.addr / 4 * 4)) 4).map
    fun x => (x.index, x.addr))).eraseDups

/-- The bytes cannot all be read: a beat of theirs is uncorrectable or comes from a wrong address (R524). -/
def dramUnreadable (addr n : Nat) (s : State) : Bool := (dramHits addr n s).any fun h => wordBad 13 h.1 s h.2

/-- A corrected access waits for its write-back; a correction that finds the queue of 16 full does not (R531). -/
def queueWriteBack (ch access : Nat) (s : State) : State :=
  let q := vget [] s.integ.writeBacks ch
  if q.contains access then s
  else if q.length < 16 then { s with integ := { s.integ with writeBacks := vset s.integ.writeBacks ch (q ++ [access]) } }
  else { s with integ := { s.integ with cWbFull := inc s.integ.cWbFull } }

/-- A beat is read: an error counts and is logged, and one that is corrected queues a write-back (R524, R531). -/
def readBeat (ch addr : Nat) (s : State) : State :=
  let v := injectedFlips 13 ch addr s
  let s1 := countError 13 addr (flipsSyndrome v) (flipsRead v) s
  match flipsRead v with
  | .corrected _ => queueWriteBack ch (addr / 64) s1
  | _ => s1

/-- `n` bytes at a DRAM address are read, by whatever reader (R524, R531). -/
def dramRead (addr n : Nat) (s : State) : State := (dramHits addr n s).foldl (fun s h => readBeat h.1 h.2 s) s

/-- A write to DRAM is accepted: write-backs queued for the same 64 bytes are cancelled, and the beats written hold no
injected error (R531, R548). -/
def dramWritten (addr n : Nat) (s : State) : State :=
  { s with integ := { s.integ with
    injected := s.integ.injected.filter fun x => !(x.cls = 13 && spansMeet addr n (dramAddr x.index (x.addr / 4 * 4)) 4)
    writeBacks := s.integ.writeBacks.zipIdx.map fun (q, ch) => q.filter fun w => !spansMeet addr n (accessAddr ch w) 64 } }

end Sys2Proof.Machine
end

