-- ==== Sys2Proof/Machine/Dma.lean ====
section
/-! DEFINITION. The DMA engine and the record queues (11_dma_record_queues.md). -/

namespace Sys2Proof.Machine

/-- DMA and record queues run: the modes of R421, with the PCIe link up and Bus Master Enable set (R421, R454). -/
def State.dmaRuns (s : State) : Bool := s.rqRuns && s.host.busMaster

/-- A channel, and a change of it. -/
def State.ch (s : State) (c : Nat) : DmaCh := vget {} s.dma.chans c
def State.setCh (s : State) (c : Nat) (x : DmaCh) : State := { s with dma := { s.dma with chans := vset s.dma.chans c x } }

/-- A list is accepted: IDLE, COUNT 1 to 4,096, CRC_MODE 0 to 2 (R427). -/
def startOk (x : DmaCh) : Bool := x.state = .idle && inRange x.count.toNat 1 4096 && decide (x.crcMode.toNat ≤ 2)

/-- START: the registers are latched and the list runs; a START that is not accepted sets START_REFUSED (R427). -/
def chStart (x : DmaCh) : DmaCh :=
  if startOk x then
    { x with
      state := .running
      segment := 0
      bytes := 0
      run := some { list := x.list.toNat, count := x.count.toNat, cmpl := x.cmpl.toNat, noSnoop := x.noSnoop, crcMode := x.crcMode.toNat,
                    intEn := x.intEn, next := 0, desc := none, issued := 0, copied := 0, written := [], crc := 0xFFFFFFFF#32,
                    last := none, ending := none } }
  else { x with startRefused := true }

/-- ABORT: the engine issues no further read for the running list (R429). -/
def chAbort (x : DmaCh) : DmaCh :=
  match x.run with
  | some r => { x with run := some { r with ending := some (r.ending.getD 1) } }
  | none => x

/-- CLEAR: DONE or ERROR to IDLE (R427). -/
def chClear (x : DmaCh) : DmaCh := if x.state = .done ∨ x.state = .error then { x with state := .idle } else x

/-- A write of DMA_CTRL: NO_SNOOP, CRC_MODE and INT_EN take the values written, then START, ABORT and CLEAR act on the
state the channel had before the write (R426, R427). -/
def chCtrl (v : Word32) (x : DmaCh) : DmaCh :=
  let y := { x with noSnoop := v.getLsbD 3, crcMode := v.extractLsb' 4 2, intEn := v.getLsbD 6 }
  let y := if v.getLsbD 0 then chStart y else y
  let y := if v.getLsbD 1 ∧ x.state = .running then chAbort y else y
  if v.getLsbD 2 then (if x.state = .done ∨ x.state = .error then { y with state := .idle } else y) else y

/-- Bytes of the host window (R422). -/
def windowSize : Nat := 0x10000000

/-- A descriptor of 32 bytes (R423). -/
def parseDesc (b : List Byte) : Desc :=
  { src := lfld b 0 8, dst := lfld b 8 8, len := lfld b 16 4, srcWin := fld b 20 1 % 4 = 1, dstWin := fld b 20 1 / 4 % 4 = 1 }

/-- A descriptor is invalid (R424); `extra` is 4 for the last descriptor of a list with APPEND. -/
def descInvalid (b : List Byte) (extra : Nat) : Bool :=
  let d := parseDesc b
  let c := fld b 20 1
  decide (2 ≤ c % 4) || decide (2 ≤ c / 4 % 4) || decide (16 ≤ c) || decide (d.len = 0) || decide (16777216 < d.len)
    || (d.srcWin && decide (windowSize < d.src + d.len)) || (d.dstWin && decide (windowSize < d.dst + d.len + extra))
    || !allZero (b.drop 21) || b.length != 32

/-- The engine takes a descriptor, or fails to read it (R424, R428). -/
def chFetch (desc : Option (List Byte)) (x : DmaCh) : DmaCh :=
  match x.run with
  | none => x
  | some r =>
    if r.ending.isSome || r.desc.isSome || decide (r.count ≤ r.next) then x
    else match desc with
      | none => { x with run := some { r with ending := some 3 } }
      | some b =>
        if descInvalid b (if r.crcMode = 2 ∧ r.next + 1 = r.count then 4 else 0) then
          { x with run := some { r with ending := some 2 } }
        else
          { x with segment := BitVec.ofNat 13 r.next
                   run := some { r with desc := some (parseDesc b), next := r.next + 1, issued := 0, copied := 0, written := [] } }

/-- The segment is copied in descending address order (R430). -/
def descending (d : Desc) : Bool :=
  d.srcWin = d.dstWin && decide (d.src < d.dst) && decide (d.dst < d.src + d.len)

/-- Where a transaction of `n` bytes lies in its segment, `before` bytes of it having been asked for (R419, R430). -/
def pieceAt (d : Desc) (before n : Nat) : Nat := if descending d then d.len - before - n else before

/-- The length of the next transaction: at most 512 bytes, of a host source at most Max_Read_Request_Size, and none across a
4 KiB boundary of host memory (R417). -/
def pieceLen (most : Nat) (d : Desc) (issued : Nat) : Nat :=
  let left := d.len - issued
  let n := min 512 left
  if d.srcWin then n
  else if descending d then min (min n most) ((d.src + left - 1) % 4096 + 1)
  else min (min n most) (4096 - (d.src + issued) % 4096)

/-- Byte address of the host window in the DRAM space (R59). -/
def State.windowBase (s : State) : Nat := s.sys.capacity * 1073741824 - windowSize

/-- Bytes of the window cannot all be read (R428, R527). -/
def windowUnreadable (at_ n : Nat) (s : State) : Bool :=
  (s.dma.winBad.any fun a => spansMeet at_ n a 4) || dramUnreadable (s.windowBase + at_) n s

/-- The words of the window that a write of `n` bytes covers in part, which the write engine reads and merges (R420). -/
def mergeWords (at_ n : Nat) : List Nat :=
  (if at_ % 4 = 0 then [] else [at_ / 4 * 4]) ++ (if (at_ + n) % 4 = 0 then [] else [(at_ + n) / 4 * 4])

/-- A merge read of a write finds an uncorrectable word (R420, R428). -/
def mergeBad (win : Bool) (at_ n : Nat) (s : State) : Bool := win && (mergeWords at_ n).any fun w => windowUnreadable w 4 s

/-- The merge reads of a write to a destination (R420, R524). -/
def mergeRead (win : Bool) (at_ n : Nat) (s : State) : State :=
  if win then (mergeWords at_ n).foldl (fun s w => dramRead (s.windowBase + w) 4 s) s else s

/-- The attributes of a list's data accesses to HOST space (R435). -/
def DmaRun.attrs (r : DmaRun) : HostAttrs := { noSnoop := r.noSnoop }

/-- Bytes of a list reach a destination: the window, or host memory (R416, R417, R435). -/
def writeSpace (attrs : HostAttrs) (win : Bool) (addr : Nat) (bs : List Byte) (s : State) : State :=
  if win then
    let n := bs.length
    dramWritten (s.windowBase + addr) n { s with dma := { s.dma with
      window := memWrite s.dma.window addr bs, winBad := s.dma.winBad.filter fun a => !spansMeet addr n a 4 } }
  else s.hostPut addr bs attrs

/-! ### The transactions (R416, R417, R419)

CH_14 and CH_15 hold no chunk from one row to the next: the row of a ring or of a line issues and ends its transactions at
once, so that they come before those of CH_0 to CH_13. -/

/-- The transactions of a channel in flight, oldest first. -/
def chunksOf (c : Nat) (s : State) : List Chunk := s.dma.buffer.filter fun k => k.ch = c

/-- A transaction gives up its chunk. -/
def dropChunk (k : Chunk) (s : State) : State :=
  { s with dma := { s.dma with buffer := s.dma.buffer.filter fun x => !(x.ch = k.ch && x.at_ = k.at_) } }

/-- The read engine can issue a transaction of a channel: there is work, and the limits of R417 leave a chunk. -/
def canIssue (s : State) (c : Nat) : Bool :=
  match (s.ch c).run with
  | some r =>
    match r.desc with
    | some d => r.ending.isNone && decide (r.issued < d.len) && decide ((chunksOf c s).length < 32) && decide (s.dma.buffer.length < 128)
    | none => false
  | none => false

/-- The channel whose turn it is among those with work, in round robin (R419). -/
def nextChannel (s : State) : Option Nat := ((List.range 14).map fun i => (s.dma.turn + i) % 14).find? (canIssue s)

/-- The read engine issues the next transaction of a channel (R416, R417, R435). -/
def issueRead (c : Nat) (s : State) : State :=
  let x := s.ch c
  match x.run with
  | none => s
  | some r =>
    match r.desc with
    | none => s
    | some d =>
      let n := pieceLen s.host.readSize d r.issued
      let at_ := pieceAt d r.issued n
      let s1 := if d.srcWin then s else s.emit (.hostRead (d.src + at_) n r.attrs)
      let s2 := s1.setCh c { x with run := some { r with issued := r.issued + n } }
      { s2 with dma := { s2.dma with buffer := s2.dma.buffer ++ [{ ch := c, at_, len := n, data := none }], turn := (c + 1) % 14 } }

/-- The read engine issues what it can, one transaction per turn, at most as many as the first operand says (R419). -/
def issueReads : Nat → State → State
  | 0, s => s
  | more + 1, s =>
    match nextChannel s with
    | none => s
    | some c => issueReads more (issueRead c s)

/-- The list of a channel is to end with a code once its transactions have ended (R427, R428). -/
def failList (c code : Nat) (s : State) : State :=
  s.setCh c { s.ch c with run := (s.ch c).run.map fun (r : DmaRun) => { r with ending := some (r.ending.getD code) } }

/-- A transaction of a list is written: the count of bytes follows, and with the last byte of the segment the CRC takes the
segment's bytes in ascending destination address (R416, R430, R433). -/
def chTransfer (c at_ : Nat) (d : Desc) (r : DmaRun) (bs : List Byte) (s : State) : State :=
  let x := s.ch c
  let n := bs.length
  let s1 := writeSpace r.attrs d.dstWin (d.dst + at_) bs s
  let written := if descending d then bs ++ r.written else r.written ++ bs
  let r1 : DmaRun :=
    if r.copied + n = d.len then
      { r with desc := none, issued := 0, copied := 0, written := [], crc := crc32cRun r.crc written, last := some (d.dst + d.len, d.dstWin) }
    else { r with copied := r.copied + n, written }
  s1.setCh c { x with bytes := x.bytes + BitVec.ofNat 64 n, run := some r1 }

/-- The write engine writes the data of a chunk, with its merge reads, and gives the chunk up (R416, R420, R428). -/
def writeChunk (k : Chunk) (bs : List Byte) (s : State) : State :=
  let s := dropChunk k s
  match (s.ch k.ch).run with
  | none => s
  | some r =>
    match r.desc with
    | none => s
    | some d =>
      let s1 := mergeRead d.dstWin (d.dst + k.at_) bs.length s
      if mergeBad d.dstWin (d.dst + k.at_) bs.length s then failList k.ch 4 s1 else chTransfer k.ch k.at_ d r bs s1

/-- The write engine writes the oldest chunks of a channel that hold their data, in the order of their reads (R419). -/
def writeReady (c : Nat) : Nat → State → State
  | 0, s => s
  | more + 1, s =>
    match chunksOf c s with
    | { ch, at_, len, data := some bs } :: _ => writeReady c more (writeChunk { ch, at_, len, data := some bs } bs s)
    | _ => s

/-- The data of a read lie in their chunk, whose 128 words of the buffer are written. -/
def fillChunk (k : Chunk) (bs : List Byte) (s : State) : State :=
  writeWords 8 (fun i a => i == k.ch && (chunksOf k.ch s)[a / 128]? == some k) { s with dma := { s.dma with buffer := s.dma.buffer.map fun x => if x.ch = k.ch ∧ x.at_ = k.at_ then { x with data := some bs } else x } }

/-- Both engines go on as far as they can. -/
def dmaServe (c : Nat) (s : State) : State := issueReads 128 (writeReady c 32 s)

/-- The engine reads and takes the next descriptor of channel `c`, with clear attributes (R424, R435). -/
def dmaFetch (c : Nat) (desc : Option (List Byte)) (s : State) : State :=
  let x := s.ch c
  match x.run with
  | none => s
  | some r =>
    if r.ending.isSome || r.desc.isSome || decide (r.count ≤ r.next) then s
    else issueReads 128 ((s.emit (.hostRead (r.list + 32 * r.next) 32)).setCh c (chFetch desc x))

/-- What ends the read of a chunk whose source is `d`: its data, or the code of its failure; none where the answer is not
one to this read (R416, R428). -/
def readAnswer (d : Desc) (k : Chunk) (data : ReadData) (s : State) : Option (Except Nat (List Byte)) :=
  match data with
  | .hostError => if d.srcWin then none else some (.error 3)
  | .dramError => if d.srcWin then some (.error 4) else none
  | .host bs => if d.srcWin || bs.length != k.len then none else some (.ok bs)
  | .window =>
    if !d.srcWin then none
    else if windowUnreadable (d.src + k.at_) k.len s then some (.error 4)
    else some (.ok (memRead s.dma.window (d.src + k.at_) k.len))

/-- A read of channel `c` completes or fails; an answer that is none to a read in flight does nothing (R416, R428). -/
def dmaRead (c : Nat) (x : ReadDone) (s : State) : State :=
  match ((chunksOf c s).filter fun k => k.data.isNone)[x.nth]? with
  | none => s
  | some k =>
    match (s.ch c).run.bind fun r => r.desc with
    | none => s
    | some d =>
      let s1 := if d.srcWin then dramRead (s.windowBase + d.src + k.at_) k.len s else s
      match readAnswer d k x.data s with
      | none => s
      | some (.error code) => dmaServe c (failList c code (dropChunk k s1))
      | some (.ok bs) => dmaServe c (fillChunk k bs s1)

/-- The completion record (R425). -/
def completionRecord (code segment : Nat) (crc : Word32) (bytes : Nat) : List Byte :=
  le 1 code ++ le 1 0 ++ le 2 segment ++ le 4 crc.toNat ++ le 8 bytes

/-- The list of channel `c` ends with its completion record (R425, R427, R434). -/
def dmaEnd (c : Nat) (s : State) : State :=
  let x := s.ch c
  match x.run with
  | none => s
  | some r =>
    if !(chunksOf c s).isEmpty || (r.ending.isNone && (r.desc.isSome || decide (r.next < r.count))) then s
    else
      let append := fun (e : Nat × Bool) => r.ending.isNone && r.crcMode = 2 && mergeBad e.2 e.1 4 s
      let code := if r.last.any append then 4 else r.ending.getD 0
      let crc := if code = 0 ∧ r.crcMode ≠ 0 then r.crc ^^^ 0xFFFFFFFF#32 else 0#32
      let s1 := match r.last with
        | some (e, win) => if code = 0 ∧ r.crcMode = 2 then writeSpace r.attrs win e (le 4 crc.toNat) (mergeRead win e 4 s) else s
        | none => s
      let s2 := s1.emit (.hostWrite r.cmpl (completionRecord code x.segment.toNat crc x.bytes.toNat))
      let s3 := s2.setCh c { x with
        state := if code = 0 then .done else .error
        error := BitVec.ofNat 8 code
        crc
        listsOk := if code = 0 then inc x.listsOk else x.listsOk
        listsErr := if code = 0 then x.listsErr else inc x.listsErr
        run := none }
      if r.intEn then raiseCause (causeDma c) s3 else s3

/-- A running list ends without a record, by LINK_DOWN (5) or MODE (6) (R428). -/
def chKill (code : Nat) (x : DmaCh) : DmaCh :=
  if x.run.isSome then
    { x with state := .error, error := BitVec.ofNat 8 code, crc := 0, listsErr := inc x.listsErr, run := none }
  else x

/-- A queue that is enabled is disabled: a flush, and every later word is answered OFF (R450). -/
def rqDisableQueue (now : Ps) (q : Rq) : Rq := if q.enable then { rqFlushQueue now q with enable := false } else q

/-- LINK_DOWN and MODE end every list and disable every queue (R421, R428, R450). -/
def dmaStop (code : Nat) (s : State) : State :=
  { s with dma := { s.dma with chans := s.dma.chans.map (chKill code), buffer := [], queues := s.dma.queues.map (rqDisableQueue s.now) } }

/-! ### Record queues -/

/-- A write of RQ_CTRL (R450, R451). -/
def rqCtrl (v : Word32) (now : Ps) (q : Rq) : Rq :=
  let q1 := { q with intEn := v.getLsbD 8 }
  if q.enable then
    if !v.getLsbD 0 then rqDisableQueue now q1
    else if v.getLsbD 7 then rqFlushQueue now q1 else q1
  else
    let q2 := { q1 with aligned := v.getLsbD 1, log2 := v.extractLsb' 2 5, idleUs := v.extractLsb' 16 16 }
    let q3 := if v.getLsbD 7 then rqFlushQueue now q2 else q2
    if !v.getLsbD 0 then q3
    else if inRange q3.log2.toNat 6 16 then { q3 with enable := true, head := 0, tail := 0, lineSeq := 0 }
    else { q3 with cfgErr := true }

/-- The idle timeout of a queue has come (R445). -/
def rqIdleDue (now : Ps) (q : Rq) : Bool :=
  match q.pack with
  | some p => q.enable && q.idleUs != 0 && decide (p.lastAt + q.idleUs.toNat * 1000000 ≤ now)
  | none => false

/-- The tag of a line that goes to slot number `n` of the ring (R444, R446). -/
def rqTag (l : RqLine) (n k : Nat) : Nat :=
  l.valid % 64 + bit l.end_ 6 + bit (n / 2 ^ k % 2 = 0) 7 + bit l.afterFlush 8 + bit l.idlePush 9 + bit l.start 10
    + (if l.start then l.firstWord % 8 * 2048 else 0) + l.seq.toNat * 65536

/-- The oldest stored line goes to the host ring: data, then tag (R446, R447). -/
def rqDeliver (n : Nat) (s : State) : State :=
  let q := s.rq n
  match q.lines with
  | [] => s
  | l :: rest =>
    let k := q.log2.toNat
    if !(q.enable && s.dmaRuns) || decide (2 ^ k ≤ (q.tail - q.head).toNat) then s
    else
      let slot := q.tail.toNat % 2 ^ k
      let s1 := s.emits [.hostWrite (q.base.toNat + 32 * slot) l.bytes, .hostWrite (q.tag.toNat + 4 * slot) (le 4 (rqTag l q.tail.toNat k))]
      let s2 := s1.setRq n { q with lines := rest, tail := q.tail + 1, cLines := inc q.cLines }
      if q.intEn && (l.end_ || l.idlePush) then raiseCause n s2 else s2

/-! ### The rows -/

/-- BAR0 takes writes: the endpoint is powered and its link is up (R75, R455). -/
def State.bar0Runs (s : State) : Bool :=
  s.sys.phase = .running && !(s.sys.mode = .dormant || s.sys.mode = .reserve) && s.host.pcieUp

end Sys2Proof.Machine
end

