-- ==== Sys2Proof/Machine/Iface.lean ====
section
/-! DEFINITION. The command interfaces: packet arrival, interface resets, the PCIe command ring, the management
datagram, the Bastik link, the PCIe endpoint and the interrupt rows (R453 to R479, R586 to R591). -/

namespace Sys2Proof.Machine

/-! ### Interface resets (R467, R468) -/

/-- The bank that does not run (R597). -/
def State.otherBank (s : State) : Bank := if s.upd.runB then s.upd.bankA else s.upd.bankB
def State.setOtherBank (s : State) (b : Bank) : State :=
  if s.upd.runB then { s with upd := { s.upd with bankA := b } } else { s with upd := { s.upd with bankB := b } }

/-- UPD_ABORT's effect: the session ends, a copy stops, the inactive bank becomes EMPTY or the bundle slot is erased (R607). -/
def updAbortEffect (s : State) : State :=
  let bundle := match s.upd.session with
    | some x => if 16 ≤ x.cls then some (x.cls - 16) else none
    | none => none
  let s1 := match bundle with
    | some i => { s with upd := { s.upd with bundles := vset s.upd.bundles i none } }
    | none =>
      let b : Bank := s.otherBank
      if b.state = BankState.writing ∨ b.state = BankState.copying then s.setOtherBank { b with state := .empty } else s
  { s1 with upd := { s1.upd with session := none, copy := false } }

/-- The Bastik link as it starts (R591). -/
def bastikClear (b : Bastik) : Bastik := { b with lastRx := none, rxBuf := none, txSeq := 0, txLast := none, txRest := none, replies := [] }

/-- Replies of an interface that have not left it. -/
def repliesHeld (i : Nat) (s : State) : Nat :=
  if i = 0 then (s.host.slots.filter fun x => x.2.reply.isSome).length
  else if i = 2 then s.host.bastik.replies.length else 0

/-- An interface reset: the epoch advances, every tag is free, the commands not yet executing are discarded, the reply
of one that executes will be (R467, R468). -/
def ifReset (i : Nat) (s : State) : State :=
  let held := repliesHeld i s
  let s1 := s.modIface i fun f =>
    { f with epoch := f.epoch + 1, tags := [], cResets := inc f.cResets, cDiscarded := incBy f.cDiscarded held }
  let s2 := { s1 with host := { s1.host with
    waiting := s1.host.waiting.filter fun c => c.ifc != i
    executing := s1.host.executing.map fun (e : Exec) => if e.cmd.ifc = i then { e with mute := true } else e
    slots := if i = 0 then [] else s1.host.slots
    bastik := if i = 2 then bastikClear s1.host.bastik else s1.host.bastik } }
  match s2.upd.session with
  | some x => if x.ifc = i then updAbortEffect s2 else s2
  | none => s2

/-! ### Arrival (R470 steps 1 to 6) -/

/-- A submission that gets no reply leaves its slot (R470 steps 1 and 2). -/
def dropSlot (o : Origin) (s : State) : State :=
  match o with
  | .ring n => { s with host := { s.host with slots := s.host.slots.filter fun x => x.1 != n } }
  | _ => s

/-- A packet completes arrival on interface `i` (R470 steps 1 to 6, R471, R472). -/
def arrive (i : Nat) (o : Origin) (b : List Byte) (s : State) : State :=
  if !s.ifaceRuns i then s
  else
    let s := countPacket i s
    if b.length < 16 then dropSlot o (s.modIface i fun f => { f with cShort := inc f.cShort })
    else
      let c : QCmd := { ifc := i, origin := o, opcode := fld b 0 2, tag := fld b 2 2, epoch := fld b 4 2,
                        length := fld b 8 4, params := b.drop 16, edge := s.now / 1250 }
      if 0x8000 ≤ fld b 6 2 then dropSlot o (s.modIface i fun f => { f with cFlag := inc f.cFlag })
      else if fld b 6 2 ≠ 0 ∨ fld b 12 4 ≠ 0 then refuse o c stBadParam 0xFFFE [] s
      else match arrivalStatus c s with
        | some st => turnAway c st s
        | none => awaitTurn c (takeTag c s)

/-! ### The command ring (R473 to R476) -/

/-- A write of CMD_TAIL (R474). -/
def ringTail (v : Word32) (s : State) : State :=
  if 2 ^ s.host.log2.toNat < (v - s.host.cplHead).toNat then { s with host := { s.host with doorbellErr := true } }
  else { s with host := { s.host with cmdTail := v } }

/-- A write of CMD_CTRL: LOG2_ENTRIES is written unless ENABLE is 1; IF_RESET resets the interface and clears ENABLE (R20,
R467, R473, R474). -/
def ringCtrl (v : Word32) (s : State) : State :=
  let off (s : State) : State := { s with host := { s.host with ringEnable := false } }
  if s.host.ringEnable then (if v.getLsbD 0 && !v.getLsbD 1 then s else off (ifReset 0 s))
  else
    let k := v.extractLsb' 8 4
    let s := { s with host := { s.host with log2 := k } }
    if v.getLsbD 1 then ifReset 0 s
    else if !v.getLsbD 0 then s
    else if inRange k.toNat 4 10 then
      { s with host := { s.host with ringEnable := true, cmdTail := 0, cmdHead := 0, cplHead := 0, cplTail := 0, slots := [] } }
    else { s with host := { s.host with cfgErr := true } }

/-- A submission descriptor that breaks the table of R475. -/
def submitInvalid (d : List Byte) : Bool :=
  d.length != 32 || lfld d 0 8 % 4 != 0 || !inRange (lfld d 8 4) 16 20480 || !inRange (lfld d 12 4) 16 20480
    || lfld d 16 8 % 4 != 0 || !allZero (d.drop 24)

/-- The next submission descriptor is fetched, with its packet: descriptor n while n is below CMD_TAIL, modulo 2³² by at most
the entries of the ring. One that breaks R475 is answered all the same, in the buffer that it names (R474 to R476). -/
def ringFetch (desc : List Byte) (packet : Option (List Byte)) (s : State) : State :=
  if !(s.host.ringEnable && s.ifaceRuns 0 && s.dmaRuns) || !inRange (s.host.cmdTail - s.host.cmdHead).toNat 1 (2 ^ s.host.log2.toNat) then s
  else
    let n := s.host.cmdHead.toNat
    let bad := submitInvalid desc
    let slot : RingSlot := { cap := lfld desc 12 4, addr := lfld desc 16 8, reply := none }
    let s := s.emit (.hostRead (s.host.cmdBase.toNat + 32 * (n % 2 ^ s.host.log2.toNat)) 32)
    let s := if bad then s else s.hostGet (lfld desc 0 8) (lfld desc 8 4)
    let s := { s with host := { s.host with cmdHead := s.host.cmdHead + 1, slots := s.host.slots ++ [(n, slot)] } }
    let c : QCmd := { ifc := 0, origin := .ring n, opcode := 0, tag := 0, epoch := s.host.ring.epoch.toNat, length := 0, params := [] }
    match packet with
    | some b => if bad then refuse (.ring n) c stFetchErr 0 [] s else arrive 0 (.ring n) (b.take (lfld desc 8 4)) s
    | none => refuse (.ring n) c stFetchErr 0 [] s

/-- A completion entry (R476). -/
def completionEntry (n k : Nat) (r : Reply) (cap : Nat) : List Byte :=
  let len := (replyBytes r).length
  le 4 n ++ le 2 r.tag ++ le 2 r.epoch ++ le 1 r.status ++ le 1 (bit (n / 2 ^ k % 2 = 0) 0 + bit (cap < len) 1) ++ le 2 0
    ++ le 4 (min len cap)

/-- The oldest submission's reply and completion entry are written, in submission order (R476). -/
def ringComplete (s : State) : State :=
  match s.host.slots with
  | (n, { cap, addr, reply := some r }) :: rest =>
    let k := s.host.log2.toNat
    if !s.dmaRuns || decide (2 ^ k ≤ (BitVec.ofNat 32 n - s.host.cplHead).toNat) then s
    else
      let body := (replyBytes r).take cap
      let s1 := (s.hostPut addr body).emit (.hostWrite (s.host.cplBase.toNat + 16 * (n % 2 ^ k)) (completionEntry n k r cap))
      let s2 := s1.modIface 0 fun f => { f with cSent := inc f.cSent, tags := if r.taken then f.tags.erase r.tag else f.tags }
      raiseCause causeCmd { s2 with host := { s2.host with slots := rest, cplTail := s2.host.cplTail + 1 } }
  | _ => s

/-! ### The management port (R477, R478) -/

/-- A datagram to UDP port 4817: accepted only in a frame that MACsec verified under Strict, which is the setting of the
management port, with an association installed (R478). -/
def mgmtDatagram (verified : Bool) (fragments : List Ps) (srcIp srcPort : Nat) (b : List Byte) (s : State) : State :=
  if !s.commandsRun then s
  else if !(verified && (vget {} s.sec.mka 4).installed) then
    { s with host := { s.host with cUnprotected := inc s.host.cUnprotected } }
  else if 16 < fragments.length ∨ fragments.any (fun a => decide (50000000000 < a)) = true then s
  else arrive 1 (.mgmt srcIp srcPort) b s

/-! ### The Bastik link (R586 to R591) -/

/-- The link runs: SVC_EN sampled at 1, and a mode in which SVC_DO is driven (R75, R586). -/
def State.svcRuns (s : State) : Bool := s.sys.phase = .running && s.sys.straps.svcEn && !(s.sys.mode = .dormant || s.sys.mode = .reserve)

/-- A device frame without its start octet (R588). -/
def svcFrame (type : Nat) (fseq : Nat) (flags reason : Nat) (payload : List Byte) : List Byte :=
  let body := be 1 type ++ be 1 fseq ++ be 1 flags ++ be 1 reason ++ be 2 payload.length ++ payload
  body ++ be 4 (crc32c body).toNat

/-- A device frame goes out behind its start octet (R587). -/
def svcSend (frame : List Byte) (s : State) : State := s.emit (.svc (0xA5 :: frame))

/-- ACK and NAK (R589). -/
def svcAck (fseq : Nat) (s : State) : State := svcSend (svcFrame 0x81 fseq 0 0 []) s
def svcNak (fseq reason : Nat) (s : State) : State := svcSend (svcFrame 0x82 fseq 0 reason []) s

/-- The CRC and LENGTH of a host frame check (R588, R590). -/
def svcFrameOk (f : List Byte) : Bool :=
  decide (10 ≤ f.length) && decide (f.length = 10 + fld f 4 2) && fld f 4 2 ≤ 4096
    && (crc32c (f.take (f.length - 4))).toNat == fld f (f.length - 4) 4

/-- Loss of framing: an interface reset of SVC; both FSEQ counts restart at 0 (R591). -/
def framingLoss (s : State) : State :=
  let s' := ifReset 2 s
  { s' with upd := { s'.upd with recovery := s'.upd.recovery.map fun r => { r with buf := [] } } }

/-- What a host frame with an FSEQ is: the last one again, the next one, or out of sequence (R590). -/
inductive SvcSeq where
  | again | next | wrong
  deriving DecidableEq, Repr

def svcSeq (b : Bastik) (fseq : Nat) : SvcSeq :=
  match b.lastRx with
  | none => if fseq = 0 then .next else .wrong
  | some l => if l.toNat = fseq then .again else if (l + 1).toNat = fseq then .next else .wrong

/-- A DATA frame of the host (R590). -/
def bastikDataFrame (f : List Byte) (s : State) : State :=
  if !s.svcRuns then s
  else if 4106 < f.length then framingLoss s
  else
    let q := fld f 1 1
    if !svcFrameOk f then svcNak q 1 s
    else match svcSeq s.host.bastik q with
      | .again => svcAck q s
      | .wrong => svcNak q 2 s
      | .next =>
        let b := s.host.bastik
        let flags := fld f 2 1
        let buf := (if flags % 2 = 1 then [] else b.rxBuf.getD []) ++ slice f 6 (fld f 4 2)
        let last := flags / 2 % 2 = 1
        let s1 := svcAck q { s with host := { s.host with bastik :=
          { b with lastRx := some (BitVec.ofNat 8 q), rxBuf := if last then none else some buf } } }
        if last then arrive 2 .svc buf s1 else s1

/-- The reply to fetch from: the one in progress, or the oldest one waiting: its tag, octets, first fragment or not,
and the replies behind it. -/
def svcCurrent (b : Bastik) : Option (Reply × List Byte × Bool × List Reply) :=
  match b.replies with
  | r :: rest =>
    match b.txRest with
    | some (_, o, _) => some (r, o, false, rest)
    | none => some (r, replyBytes r, true, rest)
  | [] => none

/-- A POLL of the host asks for the device fragment of FSEQ `next` (R589, R590). -/
def bastikPollFrame (f : List Byte) (s : State) : State :=
  if !s.svcRuns then s
  else if 4106 < f.length then framingLoss s
  else
    let q := fld f 1 1
    let b := s.host.bastik
    if !svcFrameOk f then svcNak q 1 s
    else
      let next := fld f 6 1
      let empty := svcSend (svcFrame 0x84 q 0 0 []) s
      match b.txLast with
      | some (l, o) => if l.toNat = next then svcSend o s else pollNext next b q s
      | none => if next = b.txSeq.toNat then pollNext next b q s else empty
where
  /-- the next fragment goes out, or EMPTY -/
  pollNext (next : Nat) (b : Bastik) (q : Nat) (s : State) : State :=
    let empty := svcSend (svcFrame 0x84 q 0 0 []) s
    if next ≠ b.txSeq.toNat then empty
    else match svcCurrent b with
      | none => empty
      | some (r, o, first, rest) =>
        let piece := o.take 4096
        let left := o.drop 4096
        let fr := svcFrame 0x83 next (bit first 0 + bit left.isEmpty 1) 0 piece
        let b' := { b with txSeq := b.txSeq + 1, txLast := some (b.txSeq, fr),
                           txRest := if left.isEmpty then none else some (r.tag, left, true),
                           replies := if left.isEmpty then rest else r :: rest }
        let s1 := svcSend fr { s with host := { s.host with bastik := b' } }
        if left.isEmpty then
          s1.modIface 2 fun x => { x with cSent := inc x.cSent, tags := if r.taken then x.tags.erase r.tag else x.tags }
        else s1

/-! ### Interrupts (R459, R460) -/

/-- Every cause bit of `new` that was 0 is raised, lowest first (R460). -/
def raiseAll (new : BitVec 64) (s : State) : State :=
  (List.range 60).foldl (fun s n => if new.getLsbD n then raiseCause n s else s) s

/-- The bits of word `idx` of a 60-cause register. -/
def causeBits (idx : Nat) (v : Word32) : BitVec 64 :=
  if idx = 0 then v.setWidth 64 else if idx = 1 then (v &&& 0x0FFFFFFF#32).setWidth 64 <<< 32 else 0

/-- A write of INT_SET (R459). -/
def intSetWrite (idx : Nat) (v : Word32) (s : State) : State := raiseAll (causeBits idx v) s

/-- A write of INT_CAUSE: 1 clears; `again` are the causes that the device sets on the same edge, which stay set and
give a new event (R460). -/
def intCauseWrite (idx : Nat) (v again : Word32) (s : State) : State :=
  raiseAll (causeBits idx again) { s with host := { s.host with cause := s.host.cause &&& ~~~(causeBits idx v) } }

/-- A write of INT_MASK: a set cause that becomes unmasked is an event of its vector (R460). -/
def intMaskWrite (idx : Nat) (v : Word32) (s : State) : State :=
  let field : BitVec 64 := if idx = 0 then 0xFFFFFFFF#64 else if idx = 1 then 0x0FFFFFFF00000000#64 else 0
  let mask := (s.host.mask &&& ~~~field) ||| causeBits idx v
  let freed := s.host.mask &&& ~~~mask &&& s.host.cause
  (List.range 60).foldl (fun s n => if freed.getLsbD n then vecEvent (vget 0 s.host.map n).toNat s else s)
    { s with host := { s.host with mask } }

/-- A vector, and a change of it. -/
def State.vec (s : State) (v : Nat) : MsixVec := vget {} s.host.msix v
def State.setVec (s : State) (v : Nat) (m : MsixVec) : State := { s with host := { s.host with msix := vset s.host.msix v m } }

/-- The moderation gap of a vector has passed: the message held is sent (R460). -/
def moderationEnd (v : Nat) (s : State) : State :=
  let m := s.vec v
  let due := match m.lastMsg with | some t => decide (t + s.host.gapUs.toNat * 1000000 ≤ s.now) | none => true
  if !m.held || !due then s
  else if m.masked || !(s.host.pcieUp && s.host.busMaster) then s.setVec v { m with held := false, pending := true }
  else (s.setVec v { m with held := false, lastMsg := some s.now }).emit (.msix v)

/-- A vector is unmasked: a pending message is sent (R460). -/
def vecUnmask (v : Nat) (s : State) : State :=
  let m := s.vec v
  let s' := s.setVec v { m with masked := false, pending := false }
  if m.pending then vecEvent v s' else s'

/-! ### The endpoint (R453, R454, R463) -/

/-- CLASS_DROP counts one frame of a class, 2 to 5 (R205). -/
def classDrop (cls : Nat) (s : State) : State :=
  { s with ingress := { s.ingress with
    cClassDrop := vset s.ingress.cClassDrop (cls - 2) (inc (vget 0 s.ingress.cClassDrop (cls - 2))) } }

/-- A receive ring is disabled: frames that wait for it are dropped and counted in CLASS_DROP, one whose FCS or MACsec check
failed as well, of which R205 does not speak (R201, R463; DESIGN CHOICE, log entry 17). -/
def ringOff (r : Nat) (s : State) : State :=
  let x := vget {} s.ingress.rings r
  let s1 := x.queue.foldl (fun s f => classDrop f.cls s) s
  { s1 with ingress := { s1.ingress with rings := vset s1.ingress.rings r { x with enabled := false, queue := [] } } }

/-- Every receive ring goes off, with HEAD and TAIL at 0 (R463). -/
def ringsDown (s : State) : State :=
  (List.range 8).foldl (fun s r =>
    let s1 := ringOff r s
    { s1 with ingress := { s1.ingress with rings := vset s1.ingress.rings r { vget {} s1.ingress.rings r with head := 0, tail := 0 } } }) s

/-- What a link that goes down does: DMA lists, record queues, receive rings and an interface reset of RING (R454, R467). -/
def pcieDown (s : State) : State := ifReset 0 (ringsDown (dmaStop 5 s))

/-- The BAR0 fields return to their reset values, but for those whose Reset column says "live", "sampled", "fused" or
"from image" (R453). Fields of GLOBAL_STATUS with Reset 0 show a condition of the device, which an endpoint reset leaves as it is:
they show it again at once (DEDUCED, log entry 22). -/
def bar0Reset (s : State) : State :=
  { s with
    time := { s.time with offset := 0 }
    ingress := { s.ingress with rings := s.ingress.rings.map fun x => { x with base := 0, size := 0, ownErr := false, units := 0, delivered := 0 } }
    dma := { s.dma with
      chans := Vector.replicate 14 {}
      queues := s.dma.queues.map fun q => { ({} : Rq) with bound := q.bound, flushPending := q.flushPending, flushedAt := q.flushedAt, armed := q.armed } }
    host := { s.host with
      cmdBase := 0, cplBase := 0, ringEnable := false, log2 := 4, cmdTail := 0, cmdHead := 0, cplHead := 0, cplTail := 0,
      cfgErr := false, doorbellErr := false, scratch := 0, cause := 0, mask := 0x0FFFFFFFFFFFFFFF#64,
      map := Vector.ofFn fun n => BitVec.ofNat 5 n.val, gapUs := 0, msix := Vector.replicate 32 {} }
    sys := { s.sys with modeChanges := 0, upPs := 0 } }

end Sys2Proof.Machine
end

