-- ==== Sys2Proof/Machine/Regs.lean ====
section
/-! DEFINITION. The direct registers of BAR0: what a read returns and clears, what a write does
(R18 to R21, R121, R426, R451, R455 to R461, R473). -/

namespace Sys2Proof.Machine

/-- A 32-bit register from a number. -/
def w32 (n : Nat) : Word32 := BitVec.ofNat 32 n

/-- The low and high words of a 64-bit address register. -/
def loWord (a : BitVec 64) : Word32 := a.extractLsb' 0 32
def hiWord (a : BitVec 64) : Word32 := a.extractLsb' 32 32

/-- Word `hi` of a 64-bit address register written; the low `zeros` bits read 0. -/
def setWord (a : BitVec 64) (hi : Bool) (v : Word32) (zeros : Nat) : BitVec 64 :=
  if hi then v ++ loWord a else hiWord a ++ ((v >>> zeros) <<< zeros)

/-- The code of a channel state (R426). -/
def ChState.code : ChState → Nat
  | .idle => 0 | .running => 1 | .done => 2 | .error => 3

/-- A register of a DMA channel block (R426). -/
def readCh (x : DmaCh) (o : Nat) : Word32 :=
  match o with
  | 0x00 => loWord x.list
  | 0x04 => hiWord x.list
  | 0x08 => x.count.setWidth 32
  | 0x0C => loWord x.cmpl
  | 0x10 => hiWord x.cmpl
  | 0x14 => w32 (bit x.noSnoop 3 + x.crcMode.toNat * 16 + bit x.intEn 6)
  | 0x18 => w32 (x.state.code + bit x.startRefused 2 + x.error.toNat * 256 + x.segment.toNat * 65536)
  | 0x1C => x.crc
  | 0x20 => loWord x.bytes
  | 0x24 => hiWord x.bytes
  | 0x28 => w32 x.listsOk
  | 0x2C => w32 x.listsErr
  | _ => 0

/-- The clearing side of a read of a channel register. -/
def clearCh (x : DmaCh) (o : Nat) : DmaCh :=
  if o = 0x28 then { x with listsOk := 0 } else if o = 0x2C then { x with listsErr := 0 } else x

/-- A write of a channel register (R426). -/
def writeCh (o : Nat) (v : Word32) (x : DmaCh) : DmaCh :=
  match o with
  | 0x00 => { x with list := setWord x.list false v 5 }
  | 0x04 => { x with list := setWord x.list true v 0 }
  | 0x08 => { x with count := v.setWidth 13 }
  | 0x0C => { x with cmpl := setWord x.cmpl false v 4 }
  | 0x10 => { x with cmpl := setWord x.cmpl true v 0 }
  | 0x14 => chCtrl v x
  | 0x18 => if v.getLsbD 2 then { x with startRefused := false } else x
  | _ => x

/-- A register of a record-queue block (R451). -/
def readRq (q : Rq) (o : Nat) : Word32 :=
  match o with
  | 0x00 => loWord q.base
  | 0x04 => hiWord q.base
  | 0x08 => loWord q.tag
  | 0x0C => hiWord q.tag
  | 0x10 => w32 (bit q.enable 0 + bit q.aligned 1 + q.log2.toNat * 4 + bit q.intEn 8 + q.idleUs.toNat * 65536)
  | 0x14 => q.head
  | 0x18 => q.tail
  | 0x1C => w32 (q.lines.length + bit q.pack.isSome 8 + bit q.flushPending 9 + bit q.bound.isSome 10 + bit q.cfgErr 11)
  | 0x20 => w32 q.cFull
  | 0x24 => w32 q.cFlushes
  | 0x28 => w32 q.cIdle
  | 0x2C => w32 q.cOff
  | 0x30 => w32 q.cLines
  | _ => 0

/-- The clearing side of a read of a queue register. -/
def clearRq (q : Rq) (o : Nat) : Rq :=
  match o with
  | 0x20 => { q with cFull := 0 }
  | 0x24 => { q with cFlushes := 0 }
  | 0x28 => { q with cIdle := 0 }
  | 0x2C => { q with cOff := 0 }
  | 0x30 => { q with cLines := 0 }
  | _ => q

/-- A write of a queue register (R451). -/
def writeRq (o : Nat) (v : Word32) (now : Ps) (q : Rq) : Rq :=
  match o with
  | 0x00 => { q with base := setWord q.base false v 12 }
  | 0x04 => { q with base := setWord q.base true v 0 }
  | 0x08 => { q with tag := setWord q.tag false v 12 }
  | 0x0C => { q with tag := setWord q.tag true v 0 }
  | 0x10 => rqCtrl v now q
  | 0x14 => { q with head := v }
  | 0x1C => if v.getLsbD 11 then { q with cfgErr := false } else q
  | _ => q

/-- A register of a receive-ring block (R461). -/
def readRing (x : RxRing) (o : Nat) : Word32 :=
  match o with
  | 0x00 => loWord x.base
  | 0x04 => hiWord x.base
  | 0x08 => w32 x.size
  | 0x0C => w32 x.tail
  | 0x10 => w32 x.head
  | 0x14 => w32 (bit x.enabled 0 + bit x.ownErr 1 + x.units * 256)
  | 0x18 => w32 x.delivered
  | _ => 0

/-- A write of a receive-ring register (R461, R462). -/
def writeRing (o : Nat) (v : Word32) (x : RxRing) : RxRing :=
  match o with
  | 0x00 => if x.enabled then x else { x with base := setWord x.base false v 12 }
  | 0x04 => if x.enabled then x else { x with base := setWord x.base true v 0 }
  | 0x08 => if x.enabled then x else { x with size := v.toNat % 8192 }
  | 0x0C => { x with tail := v.toNat % 4096 }
  | 0x14 => if v.getLsbD 1 then { x with ownErr := false } else x
  | _ => x

/-- INT_MAP_m (R459). -/
def readMap (m : Vector (BitVec 5) 64) (i : Nat) : Word32 :=
  w32 ((vget 0 m (4 * i)).toNat + (vget 0 m (4 * i + 1)).toNat * 256 + (vget 0 m (4 * i + 2)).toNat * 65536
    + (vget 0 m (4 * i + 3)).toNat * 16777216)

/-- A write of INT_MAP_m. -/
def writeMap (m : Vector (BitVec 5) 64) (i : Nat) (v : Word32) : Vector (BitVec 5) 64 :=
  vset (vset (vset (vset m (4 * i) (v.extractLsb' 0 5)) (4 * i + 1) (v.extractLsb' 8 5)) (4 * i + 2) (v.extractLsb' 16 5))
    (4 * i + 3) (v.extractLsb' 24 5)

/-- A word of the MSI-X table (R459). -/
def readMsix (m : MsixVec) (o : Nat) : Word32 :=
  match o with
  | 0x0 => loWord m.addr
  | 0x4 => hiWord m.addr
  | 0x8 => m.data
  | _ => w32 (bit m.masked 0)

/-- The word at an aligned offset of BAR0; 0 where no table lists one (R455, R456). An offset of the time base beyond the
signed 32 bits of TS_OFFSET wraps modulo 2³², because R121 names neither saturation nor wrap (DESIGN CHOICE, log entry 16). -/
def readReg (a : Nat) (s : State) : Word32 :=
  match a with
  | 0x0000 => w32 (s.host.pci.vendor + s.host.pci.device * 65536)
  | 0x0004 => w32 s.host.pci.revision
  | 0x0008 => w32 s.fwVer
  | 0x000C => w32 s.catVer
  | 0x0010 => loWord s.sec.serial
  | 0x0014 => hiWord s.sec.serial
  | 0x0018 => w32 s.strapsWord
  | 0x001C => s.modeWord
  | 0x0020 => s.globalStatus
  | 0x0024 => w32 ((s.integ.tj % 65536).toNat + (s.integ.tjMax % 65536).toNat * 65536)
  | 0x0028 => w32 s.uptime
  | 0x002C => s.host.scratch
  | 0x1000 => loWord s.host.cause
  | 0x1004 => hiWord s.host.cause
  | 0x1008 => loWord s.host.mask
  | 0x100C => hiWord s.host.mask
  | 0x1040 => s.host.gapUs.setWidth 32
  | 0x1C00 => w32 ((List.range 32).foldl (fun n v => n + bit (s.vec v).pending v) 0)
  | 0x2000 => loWord s.host.cmdBase
  | 0x2004 => hiWord s.host.cmdBase
  | 0x2008 => loWord s.host.cplBase
  | 0x200C => hiWord s.host.cplBase
  | 0x2010 => w32 (bit s.host.ringEnable 0 + s.host.log2.toNat * 256)
  | 0x2014 => s.host.cmdTail
  | 0x2018 => s.host.cmdHead
  | 0x201C => s.host.cplHead
  | 0x2020 => s.host.cplTail
  | 0x2024 => w32 (bit s.host.ringEnable 0 + bit s.host.cfgErr 1 + bit s.host.doorbellErr 2 + s.host.ring.epoch.toNat * 65536)
  | 0x40000 => w32 (stampSub s.stamp / 65536)
  | 0x40004 => s.time.snapSecLo
  | 0x40008 => s.time.snapSecHi
  | 0x4000C => s.tsStatus
  | 0x40010 => w32 s.time.errNs
  | 0x40014 => BitVec.ofInt 32 (roundQ 4 ((s.time.offset : Rat) / 4096))
  | 0x40018 => BitVec.ofInt 32 (roundQ 3 (s.time.y * 256))
  | 0x4001C => w32 s.time.unlockedSec
  | _ =>
    if inRange a 0x1020 0x105F then readMap s.host.map ((a - 0x1020) / 4)
    else if inRange a 0x1800 0x19FF then readMsix (s.vec ((a - 0x1800) / 16)) ((a - 0x1800) % 16)
    else if inRange a 0x10000 0x101FF then readRing (vget {} s.ingress.rings ((a - 0x10000) / 64)) ((a - 0x10000) % 64)
    else if inRange a 0x20000 0x2037F then readCh (s.ch ((a - 0x20000) / 64)) ((a - 0x20000) % 64)
    else if inRange a 0x30000 0x307FF then readRq (s.rq ((a - 0x30000) / 64)) ((a - 0x30000) % 64)
    else 0

/-- A read of RXR_DELIVERED clears it (R199). -/
def readRingAt (o : Nat) (s : State) : State :=
  { s with ingress := { s.ingress with rings := vset s.ingress.rings (o / 64) { vget {} s.ingress.rings (o / 64) with delivered := 0 } } }

/-- A read of a DMA channel's register, with its clearing counters (R426). -/
def readChAt (o : Nat) (s : State) : State := s.setCh (o / 64) (clearCh (s.ch (o / 64)) (o % 64))

/-- A read of a record queue's register, with its clearing counters (R450). -/
def readRqAt (o : Nat) (s : State) : State := s.setRq (o / 64) (clearRq (s.rq (o / 64)) (o % 64))

/-- The state after a read of the word at `a`: RC fields clear, and TS_NS latches the time snapshot (R20, R121). -/
def readEffect (a : Nat) (s : State) : State :=
  if a = 0x40000 then
    { s with time := { s.time with
      snapSecLo := w32 (stampSec s.stamp)
      snapSecHi := w32 (stampSec s.stamp / 4294967296 % 65536 + s.stamp % 65536 * 65536) } }
  else if inRange a 0x10000 0x101FF && (a - 0x10000) % 64 == 0x18 then readRingAt (a - 0x10000) s
  else if inRange a 0x20000 0x2037F then readChAt (a - 0x20000) s
  else if inRange a 0x30000 0x307FF then readRqAt (a - 0x30000) s
  else s

/-- A write of DWORD `k` of MSI-X table entry `n` (R459, R460). -/
def writeVec (n k : Nat) (v : Word32) (s : State) : State :=
  let m := s.vec n
  if k = 0x0 then s.setVec n { m with addr := setWord m.addr false v 0 }
  else if k = 0x4 then s.setVec n { m with addr := setWord m.addr true v 0 }
  else if k = 0x8 then s.setVec n { m with data := v }
  else if v.getLsbD 0 then s.setVec n { m with masked := true } else vecUnmask n s

/-- A write at an offset into INT_MAP_0 to INT_MAP_15 (R459). -/
def writeMapAt (o : Nat) (v : Word32) (s : State) : State := { s with host := { s.host with map := writeMap s.host.map (o / 4) v } }

/-- A write at an offset into the receive rings' registers (R199). -/
def writeRingAt (o : Nat) (v : Word32) (s : State) : State :=
  { s with ingress := { s.ingress with rings := vset s.ingress.rings (o / 64) (writeRing (o % 64) v (vget {} s.ingress.rings (o / 64))) } }

/-- A write at an offset into the DMA channels' registers (R426). -/
def writeChAt (o : Nat) (v : Word32) (s : State) : State := s.setCh (o / 64) (writeCh (o % 64) v (s.ch (o / 64)))

/-- A write at an offset into the record queues' registers (R450). -/
def writeRqAt (o : Nat) (v : Word32) (s : State) : State := s.putRq (o / 64) (writeRq (o % 64) v s.now (s.rq (o / 64)))

/-- A write into one of the arrays of BAR0: INT_MAP, the MSI-X table, the rings, the DMA channels, the record queues (R455). -/
def writeArray (a : Nat) (v : Word32) (s : State) : State :=
  if inRange a 0x1020 0x105F then writeMapAt (a - 0x1020) v s
  else if inRange a 0x1800 0x19FF then writeVec ((a - 0x1800) / 16) ((a - 0x1800) % 16) v s
  else if inRange a 0x10000 0x101FF then writeRingAt (a - 0x10000) v s
  else if inRange a 0x20000 0x2037F then writeChAt (a - 0x20000) v s
  else if inRange a 0x30000 0x307FF then writeRqAt (a - 0x30000) v s
  else s

/-- A write of an aligned DWORD; a read-only or unlisted offset ignores it (R20, R455).  Offset 0x1040 lies both in
INT_MAP_8 and in INT_MODERATION: it acts as INT_MODERATION (log entry 11). -/
def writeReg (a : Nat) (v : Word32) (s : State) : State :=
  match a with
  | 0x002C => { s with host := { s.host with scratch := v } }
  | 0x1000 => intCauseWrite 0 v 0 s
  | 0x1004 => intCauseWrite 1 v 0 s
  | 0x1008 => intMaskWrite 0 v s
  | 0x100C => intMaskWrite 1 v s
  | 0x1010 => intSetWrite 0 v s
  | 0x1014 => intSetWrite 1 v s
  | 0x1040 => { s with host := { s.host with gapUs := v.setWidth 16 } }
  | 0x2000 => if s.host.ringEnable then s else { s with host := { s.host with cmdBase := setWord s.host.cmdBase false v 12 } }
  | 0x2004 => if s.host.ringEnable then s else { s with host := { s.host with cmdBase := setWord s.host.cmdBase true v 0 } }
  | 0x2008 => if s.host.ringEnable then s else { s with host := { s.host with cplBase := setWord s.host.cplBase false v 12 } }
  | 0x200C => if s.host.ringEnable then s else { s with host := { s.host with cplBase := setWord s.host.cplBase true v 0 } }
  | 0x2010 => ringCtrl v s
  | 0x2014 => ringTail v s
  | 0x201C => { s with host := { s.host with cplHead := v } }
  | 0x2024 => { s with host := { s.host with cfgErr := s.host.cfgErr && !v.getLsbD 1, doorbellErr := s.host.doorbellErr && !v.getLsbD 2 } }
  | _ =>
    writeArray a v s

/-- A BAR0 request passes the end of its DWORD (R455). -/
def longRequest (a len : Nat) : Bool := decide (4 < a % 4 + len)

/-- A BAR0 write of `len` bytes: an aligned DWORD acts, a shorter write is ignored, a longer one has no effect and is
completed with Unsupported Request (R455). -/
def bar0Write (a len : Nat) (v : Word32) (s : State) : State :=
  if s.bar0Runs && longRequest a len && decide (a < 0x400000) then s.emit (.unsupported a)
  else if s.bar0Runs && len == 4 && a % 4 == 0 && decide (a < 0x400000) then writeReg a v s else s

/-- A BAR0 read of 1 to 4 bytes within one DWORD: the bytes leave, and the DWORD has the side effects of a full read;
a longer request is completed with Unsupported Request and has no effect (R455). -/
def bar0Read (a len : Nat) (s : State) : State :=
  if s.bar0Runs && longRequest a len && decide (a < 0x400000) then s.emit (.unsupported a)
  else if s.bar0Runs && inRange len 1 4 && decide (a % 4 + len ≤ 4) && decide (a < 0x400000) then
    let d := a / 4 * 4
    (readEffect d s).emit (.register a (slice (le 4 (readReg d s).toNat) (a % 4) len))
  else s

end Sys2Proof.Machine
end

