-- ==== Sys2Proof/Machine/Operands.lean ====
section
/-! DEFINITION. The wire formats: Ethernet, IP, UDP and TCP headers, C37.118 frames, slots and constellation headers as
bytes, alarm frames (R242 to R244, R346, R389 to R397, R400, R406). -/

namespace Sys2Proof.Machine

/-! ### Ethernet, IP, UDP -/

/-- An Ethernet II header with an optional IEEE 802.1Q tag. -/
def ethHeader (dst src vlan prio etype : Nat) : List Byte :=
  be 6 dst ++ be 6 src ++ (if vlan = 0 then [] else be 2 0x8100 ++ be 2 (prio * 8192 + vlan)) ++ be 2 etype

/-- The Ethernet address of an IP multicast group. -/
def groupMac (v6 : Bool) (ip : Nat) : Nat :=
  if v6 then 0x333300000000 + ip % 4294967296 else 0x01005E000000 + ip % 8388608

/-- An IPv4 header without options; `frag` holds the flags and the fragment offset. -/
def ipv4Header (dscp total ident frag proto src dst : Nat) : List Byte :=
  let h (chk : Nat) : List Byte :=
    be 1 0x45 ++ be 1 (dscp * 4) ++ be 2 total ++ be 2 ident ++ be 2 frag ++ [Config.ttl] ++ be 1 proto ++ be 2 chk ++ be 4 src ++ be 4 dst
  h (ipChecksum (h 0))

/-- An IPv6 header; the flow label is 0 (log entry 12). -/
def ipv6Header (dscp len next src dst : Nat) : List Byte :=
  be 4 (0x60000000 + dscp * 4194304) ++ be 2 len ++ be 1 next ++ [Config.ttl] ++ be 16 src ++ be 16 dst

/-- The addresses, tag and DSCP with which a datagram is sent. -/
structure Route where
  v6   : Bool
  mac  : Nat
  src  : Nat
  dst  : Nat
  srcMac : Nat
  vlan : Nat
  prio : Nat
  dscp : Nat
  deriving DecidableEq, Repr

/-- A datagram as its frames, one or, above the MTU, its IP fragments of the largest multiple of 8 octets that fits; and
the identification counters after it (R406). -/
def ipFrames (r : Route) (mtu proto : Nat) (body : List Byte) (id4 : BitVec 16) (id6 : BitVec 32) :
    List (List Byte) × BitVec 16 × BitVec 32 :=
  let eth := ethHeader r.mac r.srcMac r.vlan r.prio (if r.v6 then 0x86DD else 0x0800)
  if r.v6 then
    if 40 + body.length ≤ mtu then ([eth ++ ipv6Header r.dscp body.length proto r.src r.dst ++ body], id4, id6)
    else
      let n := (mtu - 48) / 8 * 8
      let ps := chunks n body.length body
      let frames := ps.zipIdx.map fun (p, i) =>
        eth ++ ipv6Header r.dscp (8 + p.length) 44 r.src r.dst ++ be 1 proto ++ be 1 0
          ++ be 2 (n * i + (if i + 1 < ps.length then 1 else 0)) ++ be 4 id6.toNat ++ p
      (frames, id4, id6 + 1)
  else
    if 20 + body.length ≤ mtu then
      ([eth ++ ipv4Header r.dscp (20 + body.length) id4.toNat 0 proto r.src r.dst ++ body], id4 + 1, id6)
    else
      let n := (mtu - 20) / 8 * 8
      let ps := chunks n body.length body
      let frames := ps.zipIdx.map fun (p, i) =>
        eth ++ ipv4Header r.dscp (20 + p.length) id4.toNat (n / 8 * i + (if i + 1 < ps.length then 0x2000 else 0)) proto r.src r.dst ++ p
      (frames, id4 + 1, id6)

/-! ### TCP segmentation (R400) -/

/-- The MSS of a send: the lower of the peer's and the port MTU less the headers (R400). -/
def sendMss (v6 : Bool) (peer mtu : Nat) : Nat := min peer (mtu - (if v6 then 60 else 40))

/-- Segment `i` of a send: its sequence number (R400). -/
def segSeq (s : BitVec 32) (i mss : Nat) : BitVec 32 := s + BitVec.ofNat 32 (i * mss)

/-- What a send's header template holds of TCP beside ports and sequence number (R400). -/
structure TcpTemplate where
  ack    : Nat
  window : Nat
  flags  : Byte

/-- The TCP flags of a segment: PSH and FIN only in the last one, every other flag as the template has it (R400). -/
def TcpTemplate.segFlags (t : TcpTemplate) (last : Bool) : Byte := if last then t.flags else t.flags &&& 0xF6

/-- A TCP segment under a template (R400). -/
def tcpSegment (r : Route) (sport dport : Nat) (seq : BitVec 32) (t : TcpTemplate) (last : Bool) (payload : List Byte) : List Byte :=
  let len := 20 + payload.length
  let body (chk : Nat) : List Byte :=
    be 2 sport ++ be 2 dport ++ be 4 seq.toNat ++ be 4 t.ack ++ [0x50, t.segFlags last] ++ be 2 t.window ++ be 2 chk
      ++ be 2 0 ++ payload
  body (ipChecksum (pseudoHeader r.v6 r.src r.dst 6 len ++ body 0))

/-! ### C37.118 frames -/

/-- A C37.118 frame: SYNC, FRAMESIZE, IDCODE, SOC, FRACSEC, body and CHK. -/
def c37Frame (sync idcode soc fracsec : Nat) (body : List Byte) : List Byte :=
  let f := be 2 sync ++ be 2 (16 + body.length) ++ be 2 idcode ++ be 4 soc ++ be 4 fracsec ++ body
  f ++ be 2 (crcCcitt f).toNat

/-- SYNC words of the frame types in version 2 (R389, R395). -/
def syncData : Nat := 0xAA02
def syncHeader : Nat := 0xAA12
def syncCfg2 : Nat := 0xAA32
def syncCfg3 : Nat := 0xAA52
def syncCommand : Nat := 0xAA42

/-- SOC of a stamp: UTC seconds modulo 2³² (R116). -/
def State.soc (s : State) (a : Stamp) : Nat := (s.utcSec a % 4294967296).toNat

/-- FRACSEC[23:0] of a stamp at a TIME_BASE: whole units. -/
def fracOf (a : Stamp) (timeBase : Nat) : Nat := stampSub a * timeBase / unitsPerSec

/-- The TIME_BASE of the frames that the device originates (R389). -/
def ownTimeBase : Nat := 16777215

/-- The fp32 value of an absent channel (R244). -/
def absentF32 : Nat := 0x7FC00000

/-- The words of fp32 values stored little-endian, as big-endian octets. -/
def swap4 : List Byte → List Byte
  | a :: b :: c :: d :: t => d :: c :: b :: a :: swap4 t
  | t => t

/-- The same for 16-bit words. -/
def swap2 : List Byte → List Byte
  | a :: b :: t => b :: a :: swap2 t
  | t => t

/-- Bytes of the channel values of a slot with counts (phasors, analogs, digitals) (R244). -/
def valueBytes (c : Nat × Nat × Nat) : Nat := 8 * c.1 + 8 + 4 * c.2.1 + 2 * c.2.2

/-- The values of a slot with every channel absent, little-endian (R244). -/
def absentValues (c : Nat × Nat × Nat) : List Byte :=
  (List.range (2 * c.1 + 2 + c.2.1)).flatMap (fun _ => le 4 absentF32) ++ List.replicate (2 * c.2.2) 0

/-- ABSENT_MASK with every channel of the counts absent (R244). -/
def absentMask (c : Nat × Nat × Nat) : Nat :=
  (2 ^ c.1 - 1) + (2 ^ c.2.1 - 1) * 2 ^ 32 + (2 ^ c.2.2 - 1) * 2 ^ 48 + 3 * 2 ^ 52

/-- The code of a slot state (R228). -/
def SlotState.code : SlotState → Nat
  | .absent => 0 | .present => 1 | .late => 2 | .notDue => 3 | .held => 4 | .excluded => 5

/-- A slot that carries a frame's content (R391). -/
def SlotState.carries : SlotState → Bool
  | .present | .late | .held => true
  | .absent | .notDue | .excluded => false

/-- FLAGGED of a STAT word (R244). -/
def statFlagged (st : Nat) : Bool := st / 16384 % 4 != 0 || st / 8192 % 2 == 1

/-- The 32-byte header of a slot, with its SLOT_STATE (R244). -/
def recordHeader (f : FrameRecord) (state : Nat) (triggerLast : Bool) : List Byte :=
  be 2 (f.position * 16384 + f.index % 16384) ++ be 1 (f.gen * 16 + state) ++ be 1 f.fracsecHi ++ be 2 f.stat
    ++ be 2 (bit (statFlagged f.stat) 0 + bit f.viaPeer 1 + bit f.isLocal 2 + bit triggerLast 3 + bit (f.stat.testBit 10) 4)
    ++ stampBytes f.tag ++ beInt 4 f.arrivalDelay ++ be 8 f.absent.toNat

/-- The order of SEQ values: by their signed 32-bit difference (R239). -/
def seqBefore (a b : Nat) : Bool := (BitVec.ofNat 32 a - BitVec.ofNat 32 b).msb

/-- Channel values by their counts with every field's octets turned, between the store's little-endian and a big-endian
message (R244, R490). -/
def turnValues (c : Nat × Nat × Nat) (v : List Byte) : List Byte :=
  let n := 8 * c.1 + 8 + 4 * c.2.1
  swap4 (v.take n) ++ swap2 (slice v n (2 * c.2.2)) ++ v.drop (n + 2 * c.2.2)

/-- The record that a slot shows: that of a slot in a state that carries one (R244, R391). -/
def Slot.shown (x : Slot) : Option FrameRecord := if x.state.carries then x.record else none

/-- The counts by which the channel values of a slot lie: those of the record it shows, else those of the member's
configuration when the tick was staged; none without one (R244). -/
def Slot.layout (x : Slot) : Option (Nat × Nat × Nat) := match x.shown with | some f => some f.counts | none => x.counts

/-- The bytes of a slot of the class: header, values, zeros (R242, R244). -/
def slotBytes (cls : Nat) (x : Slot) : List Byte :=
  let size := if cls = 0 then 128 else if cls = 1 then 256 else 384
  padTo size (match x.shown with
    | some f => recordHeader f x.state.code x.triggerLast ++ f.values
    | none => blank x)
where
  /-- ABSENT, NOT_DUE and EXCLUDED slots; a member without an accepted configuration has no channel positions -/
  blank (x : Slot) : List Byte :=
    be 2 (x.ref.position * 16384 + x.ref.index % 16384) ++ be 1 x.state.code ++ be 1 0 ++ be 2 0 ++ be 2 (bit x.ref.isLocal 2)
      ++ List.replicate 12 0 ++ be 4 0
      ++ (match x.counts with | some c => be 8 (absentMask c) ++ absentValues c | none => be 8 0)

/-- The bytes of a slot as CONST_READ returns them: every multi-byte field big-endian (R241, R244). -/
def slotBytesBe (cls : Nat) (x : Slot) : List Byte :=
  let b := slotBytes cls x
  match x.layout with
  | none => b
  | some (p, a, d) =>
    let n := 8 * p + 8 + 4 * a
    b.take 32 ++ swap4 (slice b 32 n) ++ swap2 (slice b (32 + n) (2 * d)) ++ b.drop (32 + n + 2 * d)

/-- The number of slots of a state. -/
def countState (st : SlotState) (xs : List Slot) : Nat := (xs.filter fun x => x.state = st).length

/-- STATUS of a constellation (R243). -/
def sealedStatus (c : Sealed) : Nat :=
  bit c.incomplete 0 + bit c.stepped 1 + bit c.triggered 2 + bit (countState .absent c.slots = 0) 3 + bit c.lastRev 4
    + bit (countState .excluded c.slots ≠ 0) 5 + bit c.timeInvalid 6 + bit c.memberChange 7

/-- The 64-byte constellation header (R242). -/
def sealedHeader (home : Nat) (c : Sealed) : List Byte :=
  let flagged := (c.slots.filter fun x => x.state.carries && (match x.record with | some f => statFlagged f.stat | none => false)).length
  be 1 (c.zone + home * 64) ++ be 1 (c.rev + c.slotClass * 16) ++ be 2 c.slots.length ++ be 4 c.seq ++ stampBytes c.instant
    ++ stampBytes c.start ++ be 4 (sealedStatus c) ++ be 2 (countState .present c.slots) ++ be 2 (countState .late c.slots)
    ++ be 2 (countState .absent c.slots) ++ be 2 (countState .notDue c.slots) ++ be 2 (countState .held c.slots)
    ++ be 2 (countState .excluded c.slots) ++ be 2 flagged ++ be 2 c.rate ++ be 1 (c.tqCode + c.servo * 16) ++ be 3 0
    ++ be 4 c.waitUs ++ be 4 0

/-! ### Combined frames (R389 to R391) -/

/-- `n` values of `w` bytes from byte `o` of a record's channel values: those of the first `m` it has, then absent ones. -/
def takeValues (w n m o : Nat) (absent : List Byte) (values : List Byte) : List Byte :=
  slice values o (w * min n m) ++ (List.range (n - m)).flatMap fun _ => absent

/-- The channel values of a record laid out by other counts: a channel that it does not have is absent (R391). -/
def valuesBy (c : Nat × Nat × Nat) (f : FrameRecord) : List Byte :=
  let (p, a, d) := c
  let (fp, fa, fd) := f.counts
  takeValues 8 p fp 0 (le 4 absentF32 ++ le 4 absentF32) f.values ++ slice f.values (8 * fp) 8
    ++ takeValues 4 a fa (8 * fp + 8) (le 4 absentF32) f.values ++ takeValues 2 d fd (8 * fp + 8 + 4 * fa) [0, 0] f.values

/-- The octets of a member block of a slot, by the counts of the member's configuration when the tick was staged (R391). -/
def memberBlock (x : Slot) : List Byte :=
  let c := x.counts.getD (0, 0, 0)
  let n := 8 * c.1 + 8 + 4 * c.2.1
  match x.shown with
  | some f =>
    let v := valuesBy c f
    be 2 (if x.state = .present then f.stat else f.stat ||| 0x200) ++ swap4 (v.take n) ++ swap2 (slice v n (2 * c.2.2))
  | none => be 2 0x8000 ++ swap4 (absentValues c)

/-- The zone block: STAT, FREQ, DFREQ, four outputs per flow, two digital words (R390). -/
def zoneBlock (stat : Nat) (outputs : List (Option F32)) (rev status seq : Nat) : List Byte :=
  be 2 stat ++ be 4 absentF32 ++ be 4 absentF32
    ++ outputs.flatMap (fun o => match o with | some v => be 4 v.toNat | none => be 4 absentF32)
    ++ be 2 (rev + status % 256 * 16) ++ be 2 seq

/-- Octets of the largest member block of a slot class (R388). -/
def memberBound (cls : Nat) : Nat := if cls = 0 then 94 else if cls = 1 then 210 else 338

/-- The zone block's size (R390). -/
def zoneBlockSize (flows : Nat) : Nat := 14 + 16 * flows

/-- The frame bound of a session (R388). -/
def frameBound (slotCount cls flows : Nat) : Nat := 14 + slotCount * memberBound cls + zoneBlockSize flows + 2

/-- The configuration bound of a session (R397). -/
def configBound (slotCount cls flows : Nat) : Nat :=
  24 + slotCount * (if cls = 0 then 790 else if cls = 1 then 1630 else 2030) + 550 + 80 * flows

end Sys2Proof.Machine
end

