-- ==== Sys2Proof/Machine/Egress.lean ====
section
/-! DEFINITION. The egress sessions: forming, configuration frames, queueing on the ports, TCP delivery
(R386 to R402, R411 to R415). -/

namespace Sys2Proof.Machine

/-- A session, and changes of it. -/
def State.sess (s : State) (n : Nat) : Session := tabGet {} n s.egress.sessions
def State.setSess (s : State) (n : Nat) (x : Session) : State :=
  { s with egress := { s.egress with sessions := tabSet n x s.egress.sessions } }
def State.modSess (s : State) (n : Nat) (f : Session → Session) : State := s.setSess n (f (s.sess n))

/-- The transmit side of a port, and changes of it. -/
def State.tx (s : State) (p : Nat) : TxPort := vget {} s.egress.ports p
def State.setTx (s : State) (p : Nat) (x : TxPort) : State :=
  { s with egress := { s.egress with ports := vset s.egress.ports p x } }
def State.modTx (s : State) (p : Nat) (f : TxPort → TxPort) : State := s.setTx p (f (s.tx p))

/-- The receive-side settings of a port (R162, R202). -/
def State.port (s : State) (p : Nat) : PortSt := vget {} s.ingress.ports p

/-- A zone, a context, a flow and a local stream. -/
def State.zone (s : State) (z : Nat) : Zone := tabGet {} z s.align.zones
def State.setZone (s : State) (z : Nat) (x : Zone) : State :=
  { s with align := { s.align with zones := tabSet z x s.align.zones } }
def State.modZone (s : State) (z : Nat) (f : Zone → Zone) : State := s.setZone z (f (s.zone z))
def State.ctx (s : State) (i : Nat) : Ctx := tabGet {} i s.ingress.ctxs
def State.setCtx (s : State) (i : Nat) (x : Ctx) : State :=
  { s with ingress := { s.ingress with ctxs := tabSet i x s.ingress.ctxs } }
def State.modCtx (s : State) (i : Nat) (f : Ctx → Ctx) : State := s.setCtx i (f (s.ctx i))
def State.flow (s : State) (n : Nat) : Flow := tabGet {} n s.kernel.flows
def State.localStream (s : State) (n : Nat) : LocalStream := vget {} s.front.locals_ n

/-- Phasor, analog and digital counts of a member's accepted configuration; none without one (R277, R391). -/
def State.memberCounts (s : State) (r : StreamRef) : Option (Nat × Nat × Nat) :=
  if r.isLocal then
    let l := s.localStream r.index
    if l.enabled then some (popcount 16 l.mask, l.analogs.length, if l.digital then 1 else 0) else none
  else if r.position = s.position then (s.ctx r.index).cfg.map fun c => (c.numPhasors, c.numAnalog, c.numDigital)
  else Config.remoteCounts r.position r.index s.pair.remoteEpoch

/-! ### The transmit queues (R394, R401, R402) -/

/-- Octets that a frame takes of its port's on-chip transmit buffer: TCP segments lie in DRAM (R393). -/
def bufferShare (f : TxFrame) : Nat := match f.kind with | .segment _ _ _ _ => 0 | _ => f.octets.length

/-- Octets held in a port's transmit buffer. -/
def bufferUsed (p : TxPort) : Nat :=
  let sum (q : List TxFrame) : Nat := q.foldl (fun n f => n + bufferShare f) 0
  sum p.expAlarm + sum p.expLaunch + sum p.expNow + sum p.preLaunch + sum p.preNow
    + (match p.expRun with | some r => bufferShare r.frame | none => 0)
    + (match p.preRun with | some r => bufferShare r.frame | none => 0)

/-- The session of a frame, for the order of a launch queue. -/
def frameSession (f : TxFrame) : Nat :=
  match f.kind with
  | .session n _ _ _ | .config n _ | .segment n _ _ _ => n
  | _ => 0

/-- A frame put into a launch queue in the order of launch time, then session (R402). -/
def launchInsert (f : TxFrame) : List TxFrame → List TxFrame
  | [] => [f]
  | g :: t =>
    let d := stampDiff (f.launch.getD 0) (g.launch.getD 0)
    if d < 0 ∨ (d = 0 ∧ frameSession f < frameSession g) then f :: g :: t else g :: launchInsert f t

/-- An alarm frame into EXP_ALARM: by decision edge, then ALD (R349, R402). -/
def alarmInsert (f : TxFrame) : List TxFrame → List TxFrame
  | [] => [f]
  | g :: t =>
    let n (f : TxFrame) : Nat := match f.kind with | .alarm n _ => n | _ => 0
    if f.edge < g.edge ∨ (f.edge = g.edge ∧ n f < n g) then f :: g :: t else g :: alarmInsert f t

/-- Drops of a session's frame for want of room (R394, R402). -/
def countBufDrop (k : TxKind) (s : State) : State :=
  match k with
  | .session n _ _ _ | .config n _ | .segment n _ _ _ => s.modSess n fun x => { x with cBufDrops := inc x.cBufDrops }
  | _ => s

/-- The decision point of a frame of a launch queue lies this far before its launch, in 2⁻¹⁶ ns (R156). -/
def decisionLead (express : Bool) : Int := (if express then 640 else 512) * 65536

/-- The late policy of a port on a queued frame: sent flagged, or dropped and counted, with its completion (R157). -/
def lateFrame (p : Nat) (f : TxFrame) (s : State) : Option TxFrame × State :=
  if (vget {} s.time.ports p).dropLate then
    let s1 : State := { s with time := { s.time with cLateDropped := vset s.time.cLateDropped p (inc (vget 0 s.time.cLateDropped p)) } }
    let s2 := s1.emit (.completion p f.kind .droppedLate)
    (none, match f.kind with
      | .session n _ _ _ => s2.modSess n fun y => { y with cLateDropped := inc y.cLateDropped }
      | _ => s2)
  else (some { f with judged := true, late := true }, s)

/-- Frames of a launch queue under the late policy, where `late` says so (R156, R158). -/
def lateFrames (p : Nat) (late : TxFrame → Bool) : List TxFrame → State → List TxFrame × State
  | [], s => ([], s)
  | f :: t, s =>
    let r := if !f.judged && late f then lateFrame p f s else (some f, s)
    let q := lateFrames p late t r.2
    (r.1.toList ++ q.1, q.2)

/-- The frames that wait on a port, in the order of its queues. -/
def TxPort.queued (x : TxPort) : List TxFrame := x.expAlarm ++ x.expLaunch ++ x.expNow ++ x.preLaunch ++ x.preNow

/-- The frames of one datagram are queued together, or dropped together when their queue lacks room (R394, R402). A TIMED
frame that comes after its decision point is late: its data was not complete there (R156). -/
def enqueue (p : Nat) (express : Bool) (fs : List TxFrame) (s : State) : State :=
  match fs with
  | [] => s
  | f :: _ =>
    let x := s.tx p
    let (depth, held) := match f.kind, f.launch, express with
      | .alarm _ false, _, _ => (32, x.expAlarm.length)
      | _, some _, true => (64, x.expLaunch.length)
      | _, none, true => (64, x.expNow.length)
      | _, some _, false => (256, x.preLaunch.length)
      | _, none, false => (1024, x.preNow.length)
    let size := fs.foldl (fun n g => n + bufferShare g) 0
    let full (s : State) : State := s.emits (fs.map fun g => .completion p g.kind .droppedFull)
    if depth < held + fs.length then countBufDrop f.kind (full (s.setTx p { x with cDroppedFull := inc x.cDroppedFull }))
    else if 524288 < bufferUsed x + size then countBufDrop f.kind s
    else
      let s := writeWords 10 (fun i a => i == p && decide (x.queued.length ≤ a) && decide (a < x.queued.length + fs.length)) s
      let open_ (g : TxFrame) : Bool := match g.launch with
        | some l => decide (stampDiff l s.stamp < decisionLead express)
        | none => false
      match f.kind, f.launch, express with
      | .alarm _ false, _, _ =>
        fs.foldl (fun s g => s.at g.readyAt (.alarmReady p)) (s.setTx p { x with expAlarm := fs.foldl (fun q g => alarmInsert g q) x.expAlarm })
      | _, some _, true =>
        let r := lateFrames p open_ fs s
        r.2.modTx p fun x => { x with expLaunch := r.1.foldl (fun q g => launchInsert g q) x.expLaunch }
      | _, none, true => s.setTx p { x with expNow := x.expNow ++ fs }
      | _, some _, false =>
        let r := lateFrames p open_ fs s
        r.2.modTx p fun x => { x with preLaunch := r.1.foldl (fun q g => launchInsert g q) x.preLaunch }
      | _, none, false => s.setTx p { x with preNow := x.preNow ++ fs }

/-- A step of the time base from `old` forward: every queued frame whose decision point it passes is late (R158). -/
def launchPassed (old : Stamp) (s : State) : State :=
  let passed (express : Bool) (f : TxFrame) : Bool := match f.launch with
    | some l =>
      let d := stampAdd l (-(decisionLead express))
      decide (0 < stampDiff d old) && stampGe s.stamp d
    | none => false
  (List.range 4).foldl (fun s p =>
    let r := lateFrames p (passed true) (s.tx p).expLaunch s
    let q := lateFrames p (passed false) (s.tx p).preLaunch r.2
    q.2.modTx p fun x => { x with expLaunch := r.1, preLaunch := q.1 }) s

/-- A step of the time base backward: every queued frame whose decision point lies ahead again is to be judged there (R156,
R158). -/
def launchMoved (s : State) : State :=
  let again (express : Bool) (f : TxFrame) : TxFrame := match f.launch with
    | some l => if !f.late && decide (decisionLead express < stampDiff l s.stamp) then { f with judged := false } else f
    | none => f
  { s with egress := { s.egress with
    ports := s.egress.ports.map fun x => { x with expLaunch := x.expLaunch.map (again true), preLaunch := x.preLaunch.map (again false) } } }

/-- A launch time more than 4 s after the time base (R158). -/
def launchFar (s : State) (l : Stamp) : Bool := decide (4 * (unitsPerSec : Int) < stampDiff l s.stamp)

/-- Frames of the supervisor on a port: those of a WAN port go to its PRE_NOW queue; what the management port sends leaves as
it is (R402; log entry 7). -/
def superFrames (p : Nat) (what : String) (fs : List (List Byte)) (s : State) : State :=
  if p = 4 then s.emits (fs.map fun f => .supervisor 4 what f)
  else enqueue p false (fs.map fun octets => { kind := .supervisor what, octets, priority := 0, launch := none, late := false }) s

/-- A datagram of the supervisor on a port, with the identification counters of a WAN port; of the management port no rule gives
one, so that its identification is free (R402, R406; log entry 12). -/
def superDatagram (p : Nat) (what : String) (r : Route) (proto : Nat) (body : List Byte) (s : State) : State :=
  if p = 4 then
    let d := s.draw
    superFrames 4 what (ipFrames r 1500 proto body (BitVec.ofNat 16 d.1) (BitVec.ofNat 32 (d.1 / 65536))).1 d.2
  else
    let x := s.tx p
    let fs := ipFrames r x.mtu proto body x.ident4 x.ident6
    superFrames p what fs.1 (s.modTx p fun y => { y with ident4 := fs.2.1, ident6 := fs.2.2 })

/-- A PTP event message of a port: it goes to EXP_NOW (R402). -/
def ptpFrame (p : Nat) (kind : TxKind) (octets : List Byte) (s : State) : State :=
  enqueue p true [{ kind, octets, priority := s.time.ptpPriority, launch := none, late := false }] s

/-- The supervisor's header template of a send: ACK, and what the rules leave to the supervisor's TCP: the acknowledgement
number, the window and the other flags (R399, R400; log entry 12). -/
def tcpTemplate (s : State) : TcpTemplate × State :=
  let r := s.draw
  ({ ack := r.1 % 4294967296, window := r.1 / 4294967296 % 65536
     flags := BitVec.ofNat 8 (r.1 / 281474976710656) ||| 0x10 }, r.2)

/-- A TCP segment without data that the supervisor sends from a port of the device, with the flags given (R187, R398, R399); what
the rules leave to its TCP is free (log entry 12). -/
def superSegment (p : Nat) (what : String) (r : Route) (sport dport : Nat) (seq : BitVec 32) (flags : Byte) (data : List Byte) (s : State) : State :=
  let (t, s1) := tcpTemplate s
  superDatagram p what r 6 (tcpSegment r sport dport seq { t with flags } true data) s1

/-! ### Sessions: where and how they send -/

/-- The route of a session's datagrams. -/
def sessRoute (s : State) (c : SessCfg) (dstIp mac : Nat) : Route :=
  let p := s.port c.port
  { v6 := c.ipv6, mac, src := if c.ipv6 then p.ipv6 else p.ipv4, dst := dstIp, srcMac := p.mac, vlan := c.vlan,
    prio := c.priority, dscp := c.dscp }

/-- A frame of a UDP session as the frames that carry it, and the port's counters after it (R401, R406). -/
def sessDatagram (s : State) (c : SessCfg) (payload : List Byte) : List (List Byte) × BitVec 16 × BitVec 32 :=
  let mac := if c.transport = .udpMulticast then groupMac c.ipv6 c.dstIp else c.nextHop
  let r := sessRoute s c c.dstIp mac
  let x := s.tx c.port
  ipFrames r x.mtu 17 (udpDatagram r.v6 r.src r.dst c.srcPort c.dstPort payload) x.ident4 x.ident6

/-- The send buffer of a session's connection in DRAM: 256 KiB each, in ascending number (R59, R399; log entry 20). -/
def sendBufAddr (s : State) (n : Nat) : Nat := s.region 768 + n * 262144

/-- A C37.118 frame of a session goes out: into the send buffer for TCP, whole or not at all, or onto the port's queue
(R393, R394, R399, R401). -/
def sessSend (n : Nat) (mk : Bool → TxKind) (at_ : Option Stamp) (payload : List Byte) (s : State) : State :=
  let x := s.sess n
  let c := x.cfg
  if c.transport = .tcp then
    match x.tcp with
    | none => s
    | some t =>
      if 262144 < x.sendBuf.length + t.unacked.length + payload.length then s.setSess n { x with cBufDrops := inc x.cBufDrops }
      else dramWritten (sendBufAddr s n + t.unacked.length + x.sendBuf.length) payload.length (s.setSess n { x with
        sendBuf := x.sendBuf ++ payload, bufEnds := x.bufEnds ++ [(t.cutTo + x.sendBuf.length + payload.length, mk true)] })
  else
    match at_ with
    | some l =>
      if launchFar s l then
        { s with time := { s.time with cDroppedFar := vset s.time.cDroppedFar c.port (inc (vget 0 s.time.cDroppedFar c.port)) } }.emit
          (.completion c.port (mk true) .droppedFar)
      else put at_ s c
    | none => put none s c
where
  /-- the frames of the datagram onto their queue -/
  put (launch : Option Stamp) (s : State) (c : SessCfg) : State :=
    let r1 := sessDatagram s c payload
    let fs := r1.1
    let i4 := r1.2.1
    let i6 := r1.2.2
    let s1 := s.modTx c.port fun y => { y with ident4 := i4, ident6 := i6 }
    enqueue c.port c.express (fs.zipIdx.map fun (o, i) =>
      { kind := mk (i + 1 = fs.length), octets := o, priority := if c.vlan = 0 then 0 else c.priority, launch, late := false }) s1

/-! ### The configuration frame (R395 to R397) -/

/-- Decimal digits of a number, at least `w` of them. -/
def digits (w n : Nat) : List Byte := ascii (let t := toString n; String.ofList (List.replicate (w - t.length) '0') ++ t)

/-- A name in 16 bytes, filled with spaces (log entry 12). -/
def name16 (t : List Byte) : List Byte := (t ++ List.replicate (16 - t.length) 0x20).take 16

/-- A CFG-3 name: its length and its characters. -/
def nameLen (t : List Byte) : List Byte := be 1 t.length ++ t

/-- A layout: members in slot order with their counts (R389, R396). -/
abbrev Layout := List (StreamRef × (Nat × Nat × Nat))

/-- The layout that a zone has now. -/
def State.zoneLayout (s : State) (z : Nat) : Layout :=
  ((s.zone z).members.filter fun m => m.effective || !(s.zone z).ticking).map fun m => (m.ref, (s.memberCounts m.ref).getD (0, 0, 0))

/-- The part of a layout that a session carries (R389). -/
def carried (c : SessCfg) (l : Layout) : Layout := (l.drop c.firstSlot).take c.slotCount

/-- The logical channels of a mask, in order (R277). -/
def maskChans (m : BitVec 16) : List Nat := (List.range 16).filter fun i => m.getLsbD i

/-- FNOM of a member, and whether each of its phasors is a current (R277, R395). What another device binds is as the
model learns it (log entry 12). -/
def memberFnom50 (s : State) (r : StreamRef) : Bool :=
  if r.isLocal then s.front.fnom50
  else if r.position = s.position then (match (s.ctx r.index).cfg with | some c => c.fnom50 | none => true)
  else Config.remoteFnom50 r.position r.index s.pair.remoteEpoch
def memberTypes (s : State) (r : StreamRef) (n : Nat) : List Bool :=
  if r.isLocal then (maskChans (s.localStream r.index).mask).map fun c => decide (8 ≤ c)
  else (List.range n).map fun i =>
    if r.position = s.position then (match (s.ctx r.index).cfg with | some c => c.phasorType.getLsbD i | none => false)
    else (Config.remoteTypes r.position r.index s.pair.remoteEpoch).getLsbD i

/-- The block of a member (R395). -/
def memberPmu (s : State) (m : StreamRef × (Nat × Nat × Nat)) : PmuBlock :=
  let r := m.1
  let d := m.2.2.2
  { stn := ascii "P" ++ digits 1 r.position ++ ascii "-" ++ (if r.isLocal then ascii "L" else []) ++ digits 1 r.index
    idcode := if r.isLocal then 0 else if r.position = s.position then (s.ctx r.index).key.idcode
              else Config.remoteIdcode r.position r.index s.pair.remoteEpoch
    phNames := (List.range m.2.1).map fun i => ascii "PH" ++ digits 2 i
    anNames := (List.range m.2.2.1).map fun i => ascii "AN" ++ digits 2 i
    dgNames := (List.range (16 * d)).map fun i => ascii "D" ++ digits 1 (i / 16) ++ ascii "B" ++ digits 2 (i % 16)
    phTypes := memberTypes s r m.2.1
    fnom50 := memberFnom50 s r }

/-- The zone block's PMU block: FNOM as the zone's first member, 50 Hz when it has none (R395). -/
def zonePmu (s : State) (c : SessCfg) (zone : Layout) : PmuBlock :=
  { stn := ascii "ZONE " ++ digits 1 c.zone
    idcode := c.zoneIdcode
    phNames := []
    anNames := c.flows.flatMap fun f => (List.range 4).map fun o => ascii "F" ++ digits 3 f ++ ascii ".O" ++ digits 1 o
    dgNames := (List.range 32).map fun i => if i = 0 then ascii "WSTATUS" else if i = 16 then ascii "WSEQ" else []
    phTypes := []
    fnom50 := match zone with | m :: _ => memberFnom50 s m.1 | [] => true }

/-- The stations of a session's configuration frame: the members it carries and the zone block (R395). -/
def sessBlocks (s : State) (c : SessCfg) (members zone : Layout) : List PmuBlock := members.map (memberPmu s) ++ [zonePmu s c zone]

/-- The content of a session's configuration frame under a layout of its zone (R395). -/
def contentOf (s : State) (c : SessCfg) (layout : Layout) : SessContent :=
  { blocks := sessBlocks s c (carried c layout) layout, rate := (s.zone c.zone).rate }

/-- The content in force: that of the last tick whose revision 0 the session took, before one the present content (R395, R397). -/
def sessContent (s : State) (x : Session) : SessContent := x.content.getD (contentOf s x.cfg (s.zoneLayout x.cfg.zone))

/-- The layout of a constellation (R389). -/
def sealedLayout (c : Sealed) : Layout := c.slots.map fun y => (y.ref, y.counts.getD (0, 0, 0))

/-- A session takes revision 0 of a tick: layout and content are from now on those of the tick, and CFGCNT counts where the
content changes, and at every effective tick of a membership change (R395). -/
def takeLayout (s : State) (c : Sealed) (x : Session) : Session :=
  let new := contentOf s x.cfg (sealedLayout c)
  { x with layout := some (sealedLayout c), content := some new
           cfgCnt := if c.memberChange || (match x.content with | some old => old != new | none => false) then x.cfgCnt + 1 else x.cfgCnt }

/-- A CFG-2 PMU block as octets. -/
def pmuCfg2 (cnt : BitVec 16) (b : PmuBlock) : List Byte :=
  name16 b.stn ++ be 2 b.idcode ++ be 2 0x000F ++ be 2 b.phNames.length ++ be 2 b.anNames.length ++ be 2 (b.dgNames.length / 16)
    ++ (b.phNames ++ b.anNames ++ b.dgNames).flatMap name16
    ++ b.phTypes.flatMap (fun t => be 1 (bit t 0) ++ be 3 0) ++ List.replicate (4 * b.anNames.length) 0
    ++ List.replicate (4 * (b.dgNames.length / 16)) 0 ++ be 2 (bit b.fnom50 0) ++ be 2 cnt.toNat

/-- A CFG-3 PMU block as octets. -/
def pmuCfg3 (cnt : BitVec 16) (b : PmuBlock) : List Byte :=
  nameLen b.stn ++ be 2 b.idcode ++ padTo 16 Config.cfg3Id ++ be 2 0x000F ++ be 2 b.phNames.length ++ be 2 b.anNames.length
    ++ be 2 (b.dgNames.length / 16) ++ (b.phNames ++ b.anNames ++ b.dgNames).flatMap nameLen
    ++ b.phTypes.flatMap (fun t => be 2 0 ++ be 1 (bit t 3) ++ be 1 0 ++ List.replicate 8 0)
    ++ List.replicate (8 * b.anNames.length) 0 ++ List.replicate (4 * (b.dgNames.length / 16)) 0
    ++ padTo 21 Config.cfg3Place ++ be 2 (bit b.fnom50 0) ++ be 2 cnt.toNat

/-- PMU blocks split, in order, into frames of at most 16,384 octets: 24 octets of each are its own fields (R397). -/
def splitBlocks : List (List Byte) → List Byte → List (List Byte)
  | [], cur => [cur]
  | b :: t, cur => if cur.isEmpty || decide (26 + cur.length + b.length ≤ 16384) then splitBlocks t (cur ++ b) else cur :: splitBlocks t b

/-- The configuration frames of a session in the order in which it sends them: one CFG-2 frame, or the CFG-3 sequence
(R395, R397). -/
def sessConfigFrames (s : State) (x : Session) (cfg3 : Bool) : List (List Byte) :=
  let c := x.cfg
  let content := sessContent s x
  let blocks := content.blocks
  let soc := s.soc s.stamp
  let frac := s.time.fracsecHi s.stamp * 16777216 + fracOf s.stamp ownTimeBase
  let rate := be 2 content.rate
  if cfg3 then
    let groups := splitBlocks (blocks.map (pmuCfg3 x.cfgCnt)) []
    groups.zipIdx.map fun (g, i) =>
      let idx := if groups.length = 1 then 0 else if i + 1 = groups.length then 0xFFFF else i + 1
      c37Frame syncCfg3 c.idcode soc frac (be 2 idx ++ be 4 ownTimeBase ++ be 2 blocks.length ++ g ++ rate)
  else
    [c37Frame syncCfg2 c.idcode soc frac (be 4 ownTimeBase ++ be 2 blocks.length ++ blocks.flatMap (pmuCfg2 x.cfgCnt) ++ rate)]

/-- The session's configuration goes out as CFG-2 or CFG-3, every frame of the sequence back to back (R396, R397). -/
def sendConfig (n : Nat) (cfg3 : Bool) (s : State) : State :=
  let fs := sessConfigFrames s (s.sess n) cfg3
  let s1 := fs.zipIdx.foldl (fun s (f, i) => sessSend n (fun last => .config n (last && i + 1 = fs.length)) none f s) s
  s1.modSess n fun x => { x with cfgSentAt := s.now }

/-- The session's configuration as its CFG_TYPE has it (R396). -/
def sendOwnConfig (n : Nat) (s : State) : State := sendConfig n ((s.sess n).cfg.cfgType == 3) s

/-! ### Session states (R386, R387) -/

/-- A session can send what is assembled for it: enabled on an ACTIVE device, over TCP with transmission turned on (R387). -/
def canSend (s : State) (x : Session) : Bool :=
  x.cfg.enable && !x.fresh && s.active && (x.cfg.transport != .tcp || (match x.tcp with | some t => t.on | none => false))

/-- The condition for SENDING (R387). -/
def sendingOk (s : State) (x : Session) : Bool := canSend s x && (s.zone x.cfg.zone).ticking

/-- Some session with REV_SEND ALL has still to form a frame of a wait. -/
def waitPending (s : State) (w : EgressWait) : Bool := w.sessions.any fun n => (s.sess n).cfg.revAll

/-- A revision is released when every session with REV_SEND ALL has formed it: the revision area is free (R235, R393). -/
def releaseWaits (s : State) : State :=
  let freed := match s.align.revArea with
    | .held z t r => if s.egress.waits.any fun w => w.zone = z && w.tick = t && w.rev = r && waitPending s w then s.align.revArea else .idle
    | a => a
  { s with egress := { s.egress with waits := s.egress.waits.filter fun w => !w.sessions.isEmpty }
           align := { s.align with revArea := freed } }

/-- The session leaves what it was to form: it counts as having formed it, which may release a revision (R393). -/
def leaveWaits (n : Nat) (s : State) : State :=
  releaseWaits { s with egress := { s.egress with
    waits := s.egress.waits.map fun w => { w with sessions := w.sessions.filter (· != n) }
    requests := s.egress.requests.filter fun r => r.session != n } }

/-- A session moves between IDLE and SENDING as its condition stands (R387). Where only the ticks of its zone have ended,
what the zone has assembled is still emitted (R211, R246). -/
def refreshSession (n : Nat) (s : State) : State :=
  let x := s.sess n
  match x.state with
  | .idle => if sendingOk s x then s.setSess n { x with state := .sending } else if canSend s x then s else leaveWaits n s
  | .sending =>
    if sendingOk s x then s
    else
      let s1 := s.setSess n { x with state := .idle }
      if canSend s x then s1 else leaveWaits n s1
  | _ => s

/-- Every session is looked at again. -/
def refreshSessions (s : State) : State := (s.egress.sessions.map (·.1)).foldl (fun s n => refreshSession n s) s

/-- A TCP connection ends, by reset or close; what it was sending is gone (R398, R399). -/
def dropTcp (n : Nat) (reset : Bool) (s : State) : State :=
  let x := s.sess n
  match x.tcp with
  | none => s
  | some _ =>
    refreshSession n (s.setSess n { x with tcp := none, sendBuf := [], bufEnds := [], cResets := if reset then inc x.cResets else x.cResets })

/-- A departure from ACTIVE closes every TCP connection (R399). -/
def closeAllTcp (s : State) : State := (s.egress.sessions.map (·.1)).foldl (fun s n => dropTcp n false s) s

/-- The WAN transmitters stop: the queues and the frames in flight are gone (R62, R75). -/
def stopWan (s : State) : State :=
  { s with egress := { s.egress with
    ports := s.egress.ports.map fun p => { p with expAlarm := [], expLaunch := [], expNow := [], preLaunch := [], preNow := [], expRun := none, preRun := none, tsoOpen := false }
    requests := [], forming := none, waits := [] } }

/-! ### Forming (R392, R393, R411 to R413) -/

/-- This device sends the frames of constellation `c`: always, but around a take-back, where the returning device sends
what is assembled from H on and the yielding device the rest (R413, R517). -/
def ownsSealed (s : State) (c : Sealed) : Bool :=
  match s.pair.handover with
  | none => true
  | some (h, _) => if s.pair.state = .handingOver then !stampGe c.start h else stampGe c.start h || s.pair.state != .activePaired

/-- The constellation of a tick at a revision. -/
def State.sealedOf (s : State) (z tick rev : Nat) : Option Sealed :=
  ((s.zone z).areas.find? fun a => a.tick = tick).bind fun a => a.sealed_.find? fun c => c.rev = rev

/-- The four outputs a flow posted for a tick (R369, R390). -/
def State.postedOutputs (s : State) (z f tick : Nat) : List (Option F32) :=
  match s.kernel.posts.find? fun p => p.zone = z ∧ p.flow = f ∧ p.tick = tick with
  | some p => (List.range 4).map fun i => if p.done && (s.flow f).enable && p.posted.getLsbD i then some (p.outs.getD i 0) else none
  | none => [none, none, none, none]

/-- A flow has posted for the tick. -/
def State.flowPosted (s : State) (z f tick : Nat) : Bool :=
  !(s.flow f).enable || s.kernel.posts.any fun p => p.zone = z && p.flow = f && p.tick = tick && p.done

/-- A session can form its frame of a revision now: revision 0 when its flows have posted or at the budget deadline, a
later one when the session has formed the one that it follows (R392). -/
def formReady (s : State) (w : EgressWait) (n : Nat) : Bool :=
  let x := s.sess n
  let deadline := match (s.zone w.zone).areas.find? fun a => a.tick = w.tick with | some a => a.deadlineDone | none => true
  let before := s.egress.waits.any fun v => v.zone = w.zone && v.tick = w.tick && decide (v.rev < w.rev) && v.sessions.contains n
  (x.state = .sending || x.state = .idle) && canSend s x
    && (if 0 < w.rev then !before else deadline || x.cfg.flows.all fun f => s.flowPosted w.zone f w.tick)

/-- STAT of the zone block (R390). -/
def zoneStat (s : State) (x : Session) (c : Sealed) : Nat :=
  let recent := (s.zone c.zone).changes.any fun t => stampGe c.instant t && decide (stampDiff c.instant t < 60 * (unitsPerSec : Int))
  let own := match x.changedAt with | some t => decide (s.now < t + 60000000000000) | none => false
  s.time.statBits + bit (recent || own) 10 + bit (c.rev ≠ 0) 9

/-- A combined frame (R389). -/
def combinedFrame (s : State) (x : Session) (c : Sealed) : List Byte :=
  let slots := (c.slots.drop x.cfg.firstSlot).take x.cfg.slotCount
  c37Frame syncData x.cfg.idcode (s.soc c.instant) (s.time.fracsecHi c.instant * 16777216 + fracOf c.instant ownTimeBase)
    (slots.flatMap memberBlock
      ++ zoneBlock (zoneStat s x c) (x.cfg.flows.flatMap fun f => s.postedOutputs c.zone f c.tick) c.rev (sealedStatus c) (c.seq % 65536))

/-- FCLK that the formatter takes for a frame (R393). -/
def formatCycles (octets : Nat) : Nat := 48 + cdiv octets 32

/-- A request into the order of service: by edge, then session (R393). -/
def insertForm (r : FormReq) : List FormReq → List FormReq
  | [] => [r]
  | q :: t => if r.edge < q.edge ∨ (r.edge = q.edge ∧ r.session < q.session) then r :: q :: t else q :: insertForm r t

/-- The formatter, if free, takes the next request: when the instant has brought all of its own (R393). -/
def formatterTake (s : State) : State :=
  match s.egress.forming, s.egress.requests with
  | none, r :: rest =>
    let len := match s.sealedOf r.zone r.tick r.rev with | some c => (combinedFrame s (s.sess r.session) c).length | none => 0
    { s with egress := { s.egress with requests := rest, forming := some (r, s.now + formatCycles len * 1250) } }
  | _, _ => s

/-- The entry that is served first: by queue edge, then zone, then tick (R234). -/
def revBefore (a b : RevEntry) : Bool :=
  let e := a.queued.getD 0
  let f := b.queued.getD 0
  if e ≠ f then decide (e < f) else if a.zone ≠ b.zone then decide (a.zone < b.zone) else decide (a.tick < b.tick)

/-- The revision area, if free, takes the next queued entry: its re-staging starts, when the instant has brought all of its
own (R234, R235). -/
def revTake (s : State) : State :=
  match s.align.revArea with
  | .idle =>
    let best := (s.align.revQueue.filter fun e => e.queued.isSome).foldl (fun (b : Option RevEntry) e => match b with
      | some y => if revBefore e y then some e else some y
      | none => some e) none
    match best with
    | some e => { s with align := { s.align with revArea := .restaging e.zone e.tick } }
    | none => s
  | _ => s

/-- An assembly completes: the sessions that are SENDING have to form a frame from it; those of a zone that has stopped since
its close too; the configuration of the others takes the tick's layout at once (R211, R392, R393, R395). -/
def egressAssembled (c : Sealed) (s : State) : State :=
  let takes (x : Session) : Bool :=
    (x.state = .sending || x.state = .idle) && canSend s x && x.cfg.zone = c.zone && (c.rev = 0 || x.cfg.revAll) && ownsSealed s c
  let ns := (s.egress.sessions.filter fun (_, x) => takes x).map (·.1)
  let s := if c.rev ≠ 0 then s else { s with egress := { s.egress with sessions := tabMap (fun _ (x : Session) =>
    if x.cfg.enable && x.cfg.zone = c.zone && !takes x then takeLayout s c x else x) s.egress.sessions } }
  if ns.isEmpty then releaseWaits s
  else releaseWaits { s with egress := { s.egress with waits := s.egress.waits ++ [{ zone := c.zone, tick := c.tick, rev := c.rev, sessions := ns }] } }

/-- Revision 0 of a zone starts assembly: sessions enabled before it take effect (R386). -/
def egressAssemblyStart (z : Nat) (s : State) : State :=
  refreshSessions { s with egress := { s.egress with
    sessions := tabMap (fun _ x => if x.fresh && x.cfg.zone = z then { x with fresh := false } else x) s.egress.sessions } }

/-- Sessions that can form now put in their requests, in ascending number (R392, R393). -/
def formRequests (z tick rev : Nat) (s : State) : State :=
  match s.egress.waits.find? fun w => w.zone = z ∧ w.tick = tick ∧ w.rev = rev with
  | none => s
  | some w =>
    let busy (n : Nat) : Bool :=
      (s.egress.requests.any fun r => r.session = n && r.zone = z && r.tick = tick && r.rev = rev)
        || (match s.egress.forming with | some (r, _) => r.session = n && r.zone = z && r.tick = tick && r.rev = rev | none => false)
    let ns := w.sessions.filter fun n => formReady s w n && !busy n
    { s with egress := { s.egress with
      requests := ns.foldl (fun q n => insertForm { edge := s.now, session := n, zone := z, tick, rev } q) s.egress.requests } }

/-- The formatter has ended a request: no session waits on it for its revision any more (R393). -/
def formEnd (r : FormReq) (s : State) : State :=
  releaseWaits { s with egress := { s.egress with
    forming := none
    waits := s.egress.waits.map fun w =>
      if w.zone = r.zone ∧ w.tick = r.tick ∧ w.rev = r.rev then { w with sessions := w.sessions.filter (· != r.session) } else w } }

/-- The formatter completes a frame: the configuration before it where the layout changed, then the frame (R393, R396). -/
def formatDone (r : FormReq) (s : State) : State :=
  let n := r.session
  let x := s.sess n
  let s1 : State := match s.sealedOf r.zone r.tick r.rev with
    | none => s
    | some c =>
      if !canSend s x then s
      else
        let changed := r.rev = 0 && x.layout != some (sealedLayout c)
        let s1 := if r.rev = 0 then s.setSess n (takeLayout s c x) else s
        let s2 := if changed && x.cfg.transport != .tcp then sendOwnConfig n s1 else s1
        let launch := if x.cfg.timed && r.rev = 0 && x.cfg.transport != .tcp
          then some (stampAdd c.instant (x.cfg.launchOffset * 65536000)) else none
        sessSend n (fun last => .session n (BitVec.ofNat 32 c.seq) c.rev last) launch (combinedFrame s2 (s2.sess n) c) s2
  formEnd r s1

/-! ### TCP delivery (R398 to R400) -/

/-- A source lies inside PERMIT. -/
def permitted (c : SessCfg) (ip : Nat) : Bool :=
  match c.permitLen with
  | none => false
  | some l => let w := (if c.ipv6 then 128 else 32) - l; decide (ip / 2 ^ w = c.permitIp / 2 ^ w)

/-- A connection to LISTEN_PORT: accepted, one at a time and from inside PERMIT, or answered by a reset (R398). -/
def tcpConnect (n srcIp srcPort mss : Nat) (s : State) : State :=
  let x := s.sess n
  if !(s.active && x.cfg.enable && x.cfg.transport = .tcp) then s
  else
    let route := sessRoute s x.cfg srcIp x.cfg.nextHop
    let r1 := s.draw
    let i := BitVec.ofNat 32 r1.1
    if x.tcp.isSome || !permitted x.cfg srcIp then superSegment x.cfg.port "TCP RST" route x.cfg.listenPort srcPort i 0x14 [] r1.2
    else
      superSegment x.cfg.port "TCP SYN ACK" route x.cfg.listenPort srcPort i 0x12 [] (r1.2.setSess n { x with
        tcp := some { peerIp := srcIp, peerPort := srcPort, mss, on := false, seq := i + 1, unacked := [], window := 0, noRoom := some s.now, cutTo := 0 }
        sendBuf := [], bufEnds := [], cConnects := inc x.cConnects })

/-- The supervisor resets the connection of a session (R399, R527). -/
def resetTcp (n : Nat) (s : State) : State :=
  let x := s.sess n
  match x.tcp with
  | none => s
  | some t =>
    dropTcp n true (superSegment x.cfg.port "TCP RST" (sessRoute s x.cfg t.peerIp x.cfg.nextHop) x.cfg.listenPort t.peerPort t.seq 0x14 [] s)

/-- The header frame of a session (R398). -/
def headerFrame (s : State) (n : Nat) (x : Session) : List Byte :=
  c37Frame syncHeader x.cfg.idcode (s.soc s.stamp) (s.time.fracsecHi s.stamp * 16777216 + fracOf s.stamp ownTimeBase)
    (ascii "HNM-7216 SESSION " ++ digits 1 n ++ ascii " " ++ digits 1 x.cfg.idcode)

/-- A C37.118 command frame on a session's connection (R398). -/
def sessionCommand (n cmd : Nat) (s : State) : State :=
  let x := s.sess n
  match x.tcp with
  | none => s
  | some t =>
    let tooBig := 65535 < configBound x.cfg.slotCount (s.zone x.cfg.zone).slotClass x.cfg.flows.length
    match cmd with
    | 1 => refreshSession n (s.setSess n { x with tcp := some { t with on := false } })
    | 2 => refreshSession n (s.setSess n { x with tcp := some { t with on := true } })
    | 3 => sessSend n (fun _ => .config n false) none (headerFrame s n x) s
    | 4 => sendConfig n tooBig s
    | 5 => sendConfig n tooBig s
    | 6 => sendConfig n true s
    | _ => s.setSess n { x with cIgnored := inc x.cIgnored }


/-- Octets of a connection, ending at its octet `upTo`, as TCP segments on the port's PRE_NOW queue, back to back (R400, R402). -/
def queueSegments (n : Nat) (data : List Byte) (seq : BitVec 32) (upTo : Nat) (s : State) : State :=
  let x := s.sess n
  match x.tcp with
  | none => s
  | some t =>
    let p := s.tx x.cfg.port
    let mss := sendMss x.cfg.ipv6 t.mss p.mtu
    let r := sessRoute s x.cfg t.peerIp x.cfg.nextHop
    let ps := chunks (max mss 1) data.length data
    let eth := ethHeader r.mac r.srcMac r.vlan r.prio (if r.v6 then 0x86DD else 0x0800)
    let (tp, s0) := tcpTemplate s
    let fs := ps.zipIdx.map fun (d, i) =>
      let last : Bool := i + 1 = ps.length
      let seg := tcpSegment r x.cfg.listenPort t.peerPort (segSeq seq i mss) tp last d
      let ip := if r.v6 then ipv6Header r.dscp seg.length 6 r.src r.dst
                else ipv4Header r.dscp (20 + seg.length) ((p.ident4.toNat + i) % 65536) 0 6 r.src r.dst
      { kind := .segment n (i = 0) last (if last then upTo else upTo + (i + 1) * mss - data.length), octets := eth ++ ip ++ seg
        priority := if x.cfg.vlan = 0 then 0 else x.cfg.priority, launch := none, late := false : TxFrame }
    let s1 := s0.setTx x.cfg.port { p with
      ident4 := if r.v6 then p.ident4 else p.ident4 + BitVec.ofNat 16 fs.length
      cTsoSends := inc p.cTsoSends, cTsoSegs := incBy p.cTsoSegs fs.length }
    enqueue x.cfg.port false fs s1

/-- The 10 s without room run from the moment at which the window gives none (R399). -/
def SessTcp.noteRoom (t : SessTcp) (now : Ps) : SessTcp :=
  { t with noRoom := if t.unacked.length < t.window then none else some (t.noRoom.getD now) }

/-- A TCP send of `len` octets of the send buffer (R400). -/
def tcpSend (n len : Nat) (s : State) : State :=
  let x := s.sess n
  match x.tcp with
  | none => s
  | some t =>
    if !inRange len 1 262144 || decide (x.sendBuf.length < len) || decide (t.window < t.unacked.length + len) then s
    else
      let data := x.sendBuf.take len
      let t' : SessTcp := { t with seq := t.seq + BitVec.ofNat 32 len, unacked := t.unacked ++ data, cutTo := t.cutTo + len }
      queueSegments n data t.seq (t.cutTo + len) (s.setSess n { x with sendBuf := x.sendBuf.drop len, tcp := some (t'.noteRoom s.now) })

/-- A segment of the peer of a session: acknowledgement, window, end of the connection (R399). -/
def sessionSegment (n : Nat) (g : TcpSegment) (s : State) : State :=
  let x := s.sess n
  match x.tcp with
  | none => s
  | some t =>
    if g.close || g.reset then dropTcp n false s
    else
      s.setSess n { x with tcp := some (({ t with unacked := t.unacked.drop g.acked, window := g.window } : SessTcp).noteRoom s.now) }

end Sys2Proof.Machine
end

