-- ==== Sys2Proof/Machine/Mac.lean ====
section
/-! DEFINITION. The transmit MACs: launch decisions, start and end of frames, preemption, pause, link changes, MACsec
packet numbers (R155 to R158, R402 to R410). -/

namespace Sys2Proof.Machine

/-- Picoseconds of one octet at the port's line rate (R97, R162). -/
def octetPs (p : PortSt) : Ps := if p.mode10g then 800 else 320

/-- Octets of a frame between preamble and gap: the frame padded to its least size, SecTAG and ICV, FCS (R406). -/
def wireLen (p : PortSt) (f : TxFrame) : Nat :=
  max f.octets.length 60 + (if p.macsec != .off && f.kind != .eapol then 32 else 0) + 4

/-- The time from the first preamble octet to the last octet of a frame. -/
def framePs (p : PortSt) (f : TxFrame) : Ps := (8 + wireLen p f) * octetPs p

/-- A frame of this kind is protected under MACsec (R409). -/
def protectedFrame (p : PortSt) (f : TxFrame) : Bool := p.macsec != .off && f.kind != .eapol

/-- The preemptable MAC may begin a frame of this priority (R408). -/
def notPaused (s : State) (x : TxPort) (prio : Nat) : Bool := decide (vget 0 x.pauseTo prio ≤ s.now)

/-- The stamp at which a MAC begins the preamble of a TIMED frame: its message timestamp point, behind 8 octets, then leaves
the pin at the launch time less the port's egress latency (R131, R155). -/
def startStamp (s : State) (p : Nat) (l : Stamp) : Stamp :=
  stampAdd l (-((vget {} s.time.ports p).egressLat + (8 * octetPs (s.port p) * 65536 / 1000 : Nat)))

/-- A frame's launch time has come; a frame judged late is sent as soon as the port can begin it (R155, R157, R403). -/
def launchCome (s : State) (p : Nat) (f : TxFrame) : Bool :=
  match f.launch with | some l => f.late || stampGe s.stamp (startStamp s p l) | none => true

/-- A revision waits while a frame of the revision that it follows is still to be sent on its port (R392). -/
def revisionHeld (x : TxPort) (f : TxFrame) : Bool :=
  match f.kind with
  | .session n q r _ =>
    let before (g : TxFrame) : Bool := match g.kind with | .session m u v _ => m = n && u = q && decide (v < r) | _ => false
    x.preLaunch.any before || x.expLaunch.any before || (x.expRun.any fun y => before y.frame) || x.preRun.any fun y => before y.frame
  | _ => false

/-- The frame that the express MAC takes, and the port without it: an alarm frame when it is ready at the pins (R349, R392,
R403). -/
def expressHead (s : State) (p : Nat) (x : TxPort) : Option (TxFrame × TxPort) :=
  let now_ := match x.expNow with
    | f :: t => if revisionHeld x f then none else some (f, { x with expNow := t })
    | [] => none
  let launch := match x.expLaunch with
    | f :: t => if launchCome s p f then some (f, { x with expLaunch := t }) else now_
    | [] => now_
  match x.expAlarm with
  | f :: t => if f.readyAt ≤ s.now then some (f, { x with expAlarm := t }) else launch
  | [] => launch

/-- The queued segments of a send, from its first on (R400). -/
def sendOf : List TxFrame → List TxFrame
  | [] => []
  | f :: t => match f.kind with | .segment _ _ false _ => f :: sendOf t | _ => [f]

/-- The frame that the preemptable MAC takes: a PRE_NOW frame, and the send that it begins, only when it ends, with its gap,
before the launch time of the head of PRE_LAUNCH; within a send, its next segment (R400, R403). -/
def preemptHead (s : State) (n : Nat) (x : TxPort) : Option (TxFrame × TxPort) :=
  let p := s.port n
  let fits (fs : List TxFrame) : Bool :=
    match x.preLaunch with
    | g :: _ => match g.launch with
      | some l => decide (((fs.foldl (fun a f => a + framePs p f + 12 * octetPs p) 0 : Nat) : Int) * 65536 ≤ stampDiff (startStamp s n l) s.stamp * 1000)
      | none => true
    | [] => true
  let next (free : Bool) : Option (TxFrame × TxPort) := match x.preNow with
    | f :: t =>
      if (free || fits (sendOf (f :: t))) && notPaused s x f.priority && !revisionHeld x f then
        some (f, { x with preNow := t, tsoOpen := match f.kind with | .segment _ _ last _ => !last | _ => false })
      else none
    | [] => none
  if x.tsoOpen && !x.preNow.isEmpty then next true
  else match x.preLaunch with
  | f :: t => if launchCome s n f then (if notPaused s x f.priority then some (f, { x with preLaunch := t }) else none) else next false
  | [] => next false

/-- A frame loses its place for want of a secure association: DROPPED_NO_SA (R410). -/
def noSa (s : State) (p : Nat) (f : TxFrame) : Bool :=
  protectedFrame (s.port p) f && (!(s.tx p).sa || decide (0xFFFFFFFF ≤ (s.tx p).pn))

/-- The completion of a frame that is dropped for want of an association (R410). -/
def dropNoSa (p : Nat) (f : TxFrame) (s : State) : State := s.emit (.completion p f.kind .droppedNoSa)

/-- The packet number of a protected frame that begins: at 0xC000_0000 MKA is asked for a new association; at
0xFFFF_FFFF every protected frame queued on the port is dropped and PN_EXHAUSTED counts (R410). -/
def takePn (p : Nat) (f : TxFrame) (s : State) : State :=
  if !protectedFrame (s.port p) f then s
  else
    let x := s.tx p
    let n := x.pn + 1
    let y := { x with pn := n, saAsked := x.saAsked || decide (0xC0000000 ≤ n) }
    let s : State := if n = 0xC0000000 then
      { s with sec := { s.sec with mka := vset s.sec.mka p { vget {} s.sec.mka p with asked := true } } } else s
    if n = 0xFFFFFFFF then
      let bad := protectedFrame (s.port p)
      let keep (q : List TxFrame) : List TxFrame := q.filter fun g => !bad g
      ((y.expAlarm ++ y.expLaunch ++ y.expNow ++ y.preLaunch ++ y.preNow).filter bad).foldl (fun s g => dropNoSa p g s) (s.setTx p { y with
        expAlarm := keep y.expAlarm, expLaunch := keep y.expLaunch, expNow := keep y.expNow, preLaunch := keep y.preLaunch, preNow := keep y.preNow
        cPnExhausted := inc y.cPnExhausted })
    else s.setTx p y

/-- WAN ports send: ACTIVE for stream output, and every mode in which the port is on for supervisor traffic (R62, R575). -/
def State.wanRuns (s : State) (p : Nat) : Bool := s.online && (s.port p).linkUp

/-- Octets of a frame in flight that are still to send. -/
def octetsLeft (s : State) (p : PortSt) (r : TxRun) : Nat := (r.done - s.now) / octetPs p

/-- How a frame that begins at this instant, and has taken its packet number, is protected (R409, R410). -/
def protectionOf (s : State) (p : Nat) (f : TxFrame) : Option Protection :=
  let m : MkaPort := vget {} s.sec.mka p
  if protectedFrame (s.port p) f then some { an := m.an, key := m.keyNumber, pn := (s.tx p).pn } else none

/-- A frame begun at this instant. -/
def runOf (s : State) (p : Nat) (f : TxFrame) : TxRun :=
  { frame := f, done := s.now + framePs (s.port p) f, from_ := s.now + 8 * octetPs (s.port p), cut := none, wasCut := false }

/-- A MAC can begin a frame: the gap behind the frame before it has passed (R403, R405). -/
def gapPassed (s : State) (x : TxPort) : Bool := decide (x.freeAt ≤ s.now)

/-- The longest hold before a preemptable frame can be cut, in octets (R156, R349). -/
def holdOctets : Nat := 143

/-- Octets that a frame in flight still has to send once an express frame `f` that begins now cuts it: from the longest hold
before an alarm frame or a TIMED frame, else from now, at the first boundary behind 64 octets of the fragment. With less than
128 octets left there it is not cut (R156, R349, R405). -/
def cutLeft (s : State) (p : Nat) (f : TxFrame) (r : TxRun) : Option Nat :=
  let left := octetsLeft s (s.port p) r
  let sent := (s.now - r.from_) / octetPs (s.port p)
  let hold := match f.kind, f.launch with | .alarm _ false, _ | _, some _ => sent - holdOctets | _, none => sent
  if s.now ≤ r.done ∧ 64 ≤ sent ∧ 128 ≤ sent + left - hold then some (sent + left - max hold 64) else none

/-- An alarm frame, or a TIMED express frame that has been judged, begins within the longest hold: the port holds it free
(R156, R349). -/
def expressDue (s : State) (p : Nat) (x : TxPort) : Bool :=
  let hold := holdOctets * octetPs (s.port p)
  x.active && ((match x.expAlarm with | f :: _ => decide (s.now < f.readyAt) && decide (f.readyAt < s.now + hold) | [] => false)
    || (match x.expLaunch with
        | f :: _ => f.judged && !f.late
            && decide (unitsToPs (stampDiff (startStamp s p (f.launch.getD 0)) s.stamp).toNat < hold)
        | [] => false))

/-- The express MAC takes its next frame; with preemption active it cuts a preemptable frame in flight where that can be cut
(R403, R405). -/
def expressStart (p : Nat) (s : State) : State :=
  let x := s.tx p
  if x.expRun.isSome || !s.wanRuns p || !gapPassed s x then s
  else match expressHead s p x with
    | none => s
    | some (f, y) =>
      if noSa s p f then dropNoSa p f (s.setTx p y)
      else
        let go (y : TxPort) : State :=
          let t := takePn p f (s.setTx p y)
          t.modTx p fun y => { y with expRun := some { runOf s p f with protect := protectionOf t p f } }
        match y.preRun with
        | none => go y
        | some r =>
          if r.cut.isSome then go y
          else match (if x.active then cutLeft s p f r else none) with
            | some left => go { y with preRun := some { r with cut := some left, wasCut := true }
                                       cPreempted := if r.wasCut then y.cPreempted else inc y.cPreempted }
            | none => s

/-- The time that a cut frame still takes from its resumption: a new preamble and its mCRC (R405). -/
def resumePs (p : PortSt) (left : Nat) : Ps := (8 + left + 4) * octetPs p

/-- The preemptable MAC resumes a cut frame, or takes its next one (R403, R405, R408). -/
def preemptStart (p : Nat) (s : State) : State :=
  let x := s.tx p
  if x.expRun.isSome || !s.wanRuns p || expressDue s p x || !gapPassed s x then s
  else match x.preRun with
    | some r =>
      match r.cut with
      | some left => s.setTx p { x with preRun := some { r with
          done := s.now + resumePs (s.port p) left, from_ := s.now + 8 * octetPs (s.port p), cut := none } }
      | none => s
    | none =>
      match preemptHead s p x with
      | none => s
      | some (f, y) =>
        if noSa s p f then dropNoSa p f (s.setTx p y)
        else
          let t := takePn p f (s.setTx p y)
          t.modTx p fun y => { y with preRun := some { runOf s p f with protect := protectionOf t p f } }

/-- A frame of a session has left the pins: its counters and its sent mark; a configuration frame counts CFG_SENT (R157,
R411, R415). -/
def countFrame (k : TxKind) (late : Bool) (s : State) : State :=
  match k with
  | .session n seq rev true =>
    s.modSess n fun x => { x with
      cSent := inc x.cSent, cRevSent := if rev = 0 then x.cRevSent else inc x.cRevSent, mark := some (seq, rev)
      cLateSent := if late then inc x.cLateSent else x.cLateSent }
  | .config n true => s.modSess n fun x => { x with cCfg := inc x.cCfg }
  | _ => s

/-- The completion of a frame that has left the pins: the counters of its port and of what it belongs to. A TCP segment
completes the frames of its connection that end with it (R157, R402, R411, R415). -/
def countSent (p : Nat) (f : TxFrame) (s : State) : State :=
  let s1 := if f.late then { s with time := { s.time with cLateSent := vset s.time.cLateSent p (inc (vget 0 s.time.cLateSent p)) } } else s
  match f.kind with
  | .segment n _ _ upTo =>
    let ends := (s1.sess n).bufEnds
    (ends.takeWhile fun e => decide (e.1 ≤ upTo)).foldl (fun s e => countFrame e.2 false s)
      (s1.modSess n fun x => { x with bufEnds := ends.dropWhile fun e => decide (e.1 ≤ upTo) })
  | .alarm _ rep =>
    { s1 with detect :=
      if rep then { s1.detect with cRepeats := vset s1.detect.cRepeats p (inc (vget 0 s1.detect.cRepeats p)) }
      else { s1.detect with cFrames := vset s1.detect.cFrames p (inc (vget 0 s1.detect.cFrames p)) } }
  | k => countFrame k f.late s1

/-! ### What leaves the pins (R127, R130, R131, R409) -/

/-- The stamp of a frame's departure: that of its message timestamp point, later by the port's egress latency (R130, R131). -/
def departStamp (s : State) (p : Nat) (r : TxRun) : Stamp := stampAdd (s.pcsStamp (s.now - r.from_)) (vget {} s.time.ports p).egressLat

/-- The octets of a frame with what is known at its departure: the correction of an answer to a peer-delay request, the time
from the request's arrival to the answer's departure by the corrected stamps (R127, R128, R131; log entry 16). -/
def departed (s : State) (p : Nat) (r : TxRun) : List Byte :=
  let o := r.frame.octets
  match r.frame.kind with
  | .ptpAnswer got =>
    let held := stampDiff (departStamp s p r) (stampAdd got (-(vget {} s.time.ports p).ingressLat))
    let at_ := (if slice o 12 2 = [0x81, 0x00] then 18 else 14) + 8
    o.take at_ ++ be 8 (held % 18446744073709551616).toNat ++ o.drop (at_ + 8)
  | _ => o

/-- The octets of a frame as they leave: protected behind its addresses, under a SecTAG with the SCI of the port's transmit
channel and with confidentiality offset 0 (R409). SecTAG and SCI are laid out as IEEE 802.1AE-2018 has them (PRESUMED, log
entry 12). -/
def wireOctets (s : State) (p : Nat) (r : TxRun) : List Byte :=
  let o := departed s p r
  match r.protect with
  | none => o
  | some k =>
    let head := o.take 12 ++ [0x88, 0xE5] ++ be 1 (0x2C + k.an) ++ [0] ++ be 4 k.pn ++ be 6 (s.port p).mac ++ be 2 1
    let body := padTo (max o.length 60) o |>.drop 12
    head ++ padTo (body.length + 16) (Config.macsecSeal k.key k.pn head body)

/-- The stamp that a peer-delay request of the device leaves with is kept for its answer (R130, R132). -/
def noteDeparture (p : Nat) (r : TxRun) (s : State) : State :=
  match r.frame.kind with
  | .ptpRequest seq =>
    { s with time := { s.time with ports := vset s.time.ports p { vget {} s.time.ports p with pdelaySent := some (seq, s.pcsStamp (s.now - r.from_)) } } }
  | _ => s

/-- The pauses that wait for the end of the frame in flight begin (R408). -/
def pauseStarts (ps : PortSt) (now : Ps) (x : TxPort) : TxPort :=
  if x.pauseNext.toList.all (·.isNone) then x
  else
    { x with
      pauseTo := Vector.ofFn fun (i : Fin 8) => match x.pauseNext[i] with | some q => now + q * (64 * octetPs ps) | none => x.pauseTo[i]
      pauseFrom := if now < x.pauseTo.toList.foldl max 0 then min x.pauseFrom now else now
      pauseNext := Vector.replicate 8 none }

/-- The last octet of the frame in flight leaves the pins (R157). -/
def macDone (p : Nat) (express : Bool) (s : State) : State :=
  let x := s.tx p
  match (if express then x.expRun else x.preRun) with
  | none => s
  | some r =>
    if r.cut.isSome || decide (s.now < r.done) then s
    else
      let y := { x with cFrames := inc x.cFrames, cExpress := if express then inc x.cExpress else x.cExpress
                        freeAt := s.now + 12 * octetPs (s.port p) }
      let s1 := noteDeparture p r (s.setTx p (if express then { y with expRun := none } else pauseStarts (s.port p) s.now { y with preRun := none }))
      countSent p r.frame (s1.emits
        [.wan p { r.frame with octets := wireOctets s p r }, .completion p r.frame.kind (if r.frame.late then .late else .sent)])

/-- Physical time at which a MAC that is free at `free` ends a frame that may begin at `ready`, with its gap. -/
def endOf (p : PortSt) (f : TxFrame) (ready free : Ps) : Ps := max ready free + framePs p f + 12 * octetPs p

/-- Physical time at which a TIMED frame would begin: now, if its time is past (R155). -/
def startPs (s : State) (p : Nat) (f : TxFrame) : Ps :=
  s.now + unitsToPs (stampDiff (startStamp s p (f.launch.getD 0)) s.stamp).toNat

/-- Physical time at which a run in flight ends, with its gap; a cut frame goes on at `from_` (R405). -/
def runEnd (s : State) (p : Nat) (from_ : Ps) (r : Option TxRun) : Ps :=
  match r with
  | none => from_
  | some r => (match r.cut with | some left => from_ + resumePs (s.port p) left | none => r.done) + 12 * octetPs (s.port p)

/-- Physical time at which a MAC can begin a TIMED frame that starts at `at_`: after the frame in flight, for the express MAC
the alarm frames that are ready by then, for the preemptable MAC what is left of a TCP send that it has begun, and the frames
of its launch queue that have been judged before it (R156, R400, R403, R405). -/
def macFree (s : State) (p : Nat) (express : Bool) (at_ : Ps) : Ps :=
  let x := s.tx p
  let ps := s.port p
  let free := max s.now x.freeAt
  let judged (q : List TxFrame) (free : Ps) : Ps := (q.takeWhile (·.judged)).foldl (fun t f => endOf ps f (startPs s p f) t) free
  if express then
    let run := max (runEnd s p free x.expRun) (if x.active then s.now else runEnd s p free x.preRun)
    judged x.expLaunch ((x.expAlarm.takeWhile fun f => decide (f.readyAt ≤ at_)).foldl (fun t f => endOf ps f f.readyAt t) run)
  else
    let run := runEnd s p (runEnd s p free x.expRun) x.preRun
    judged x.preLaunch (if x.tsoOpen then (sendOf x.preNow).foldl (fun t f => endOf ps f t t) run else run)

/-- Physical time until which a pause holds the priority, one that starts behind the frame in flight among them (R408). -/
def pausedTo (s : State) (p : Nat) (x : TxPort) (prio : Nat) : Ps :=
  match vget none x.pauseNext prio with
  | some q => (match x.preRun with | some r => if r.cut.isSome then s.now else r.done | none => s.now) + q * (64 * octetPs (s.port p))
  | none => vget 0 x.pauseTo prio

/-- A frame of a launch queue cannot begin at its launch time (R156): its time has passed, what is before it on its MAC does
not end by then, or a pause holds it. -/
def launchLate (s : State) (p : Nat) (express : Bool) (f : TxFrame) : Bool :=
  let x := s.tx p
  let at_ := startPs s p f
  decide (stampDiff (startStamp s p (f.launch.getD 0)) s.stamp < 0) || decide (at_ < macFree s p express at_)
    || (!express && decide (at_ < pausedTo s p x f.priority))

/-- LAUNCH_DECISION: at its decision point the first frame of the port's launch queue that is not judged yet is judged; a late
one falls under the late policy (R156, R157). -/
def launchDecide (p : Nat) (express : Bool) (s : State) : State :=
  let x := s.tx p
  let q := if express then x.expLaunch else x.preLaunch
  let put (q : List TxFrame) (s : State) : State := s.modTx p fun x => if express then { x with expLaunch := q } else { x with preLaunch := q }
  let done := q.takeWhile (·.judged)
  match q.dropWhile (·.judged) with
  | [] => s
  | f :: t =>
    if decisionLead express < stampDiff (f.launch.getD 0) s.stamp then s
    else if launchLate s p express f then (let r := lateFrame p f s; put (done ++ r.1.toList ++ t) r.2)
    else put (done ++ { f with judged := true } :: t) s

/-! ### Pause (R408) -/

/-- A PAUSE frame, or a PFC frame with the priorities it names, is counted and, if obeyed, stops the preemptable MAC from
the end of the frame in flight (R407, R408). -/
def pauseRx (p : Nat) (pfc : Option Nat) (quanta : List Nat) (s : State) : State :=
  let x := s.tx p
  let y := match pfc with
    | none => { x with cPauseRx := inc x.cPauseRx }
    | some _ => { x with cPfcRx := inc x.cPfcRx }
  let obey := match pfc with | none => x.pauseObey | some _ => x.pfcObey
  if !obey then s.setTx p y
  else
    let next (i : Nat) (old : Option Nat) : Option Nat :=
      match pfc with
      | none => some (quanta.headD 0)
      | some mask => if mask.testBit i then some (quanta.getD i 0) else old
    let z := { y with pauseNext := Vector.ofFn fun (i : Fin 8) => next i.val x.pauseNext[i] }
    s.setTx p (if x.preRun.isSome then z else pauseStarts (s.port p) s.now z)

/-! ### Links and verification (R404) -/

/-- An alarm frame that is ready at the pins and meets a preemptable frame in flight which cannot be cut waits for its end:
EXPRESS_HELD counts it (R405). -/
def alarmReady (p : Nat) (s : State) : State :=
  s.modTx p fun x => if !x.active && x.preRun.isSome then { x with cHeld := inc x.cHeld } else x

/-- An attempt of the verification: a verify mPacket leaves, and its 10 ms begin (R404). -/
def verifyStart (p attempt : Nat) (s : State) : State :=
  (s.modTx p fun x => { x with verify := some attempt, verifyAt := s.now }).emit (.verify p false)

/-- WAN_LINK_CHANGE: with preemption enabled, verification starts at link-up; preemption is inactive while the link is
down (R404). -/
def wanLink (p : Nat) (up : Bool) (s : State) : State :=
  let s1 := { s with ingress := { s.ingress with ports := vset s.ingress.ports p { s.port p with linkUp := up, partial_ := none } } }
  if up then
    let s2 := s1.modTx p fun x => { x with active := false, verify := none }
    if (s.tx p).preempt then verifyStart p 1 s2 else s2
  else s1.modTx p fun x => pauseStarts (s.port p) s.now { x with active := false, verify := none, expRun := none, preRun := none, tsoOpen := false }

end Sys2Proof.Machine
end

