-- ==== Sys2Proof/Machine/EgressCmd.lean ====
section
/-! DEFINITION. The egress commands (R386, R388, R396, R397, R404, R406, R407, R414, R415). -/

namespace Sys2Proof.Machine

/-! ### EGRESS_SET_SESSION -/

/-- The settings that the parameters of EGRESS_SET_SESSION spell (R414). -/
def sessCfgOf (p : List Byte) : SessCfg :=
  let v6 := fld p 9 1 = 6
  { enable := fld p 1 1 = 1, zone := fld p 2 1, firstSlot := fld p 3 2, slotCount := fld p 5 2, port := fld p 7 1
    transport := if fld p 8 1 = 0 then .udpUnicast else if fld p 8 1 = 1 then .udpMulticast else .tcp
    ipv6 := v6, dstIp := ipOf v6 (slice p 10 16), nextHop := fld p 26 6, srcPort := fld p 32 2, dstPort := fld p 34 2
    listenPort := fld p 36 2, permitIp := ipOf v6 (slice p 38 16), permitLen := some (fld p 54 1), vlan := fld p 55 2
    priority := fld p 57 1, dscp := fld p 58 1, idcode := fld p 59 2, zoneIdcode := fld p 61 2
    flows := (List.range (fld p 63 1)).map fun i => fld p (64 + i) 1
    cfgType := fld p 68 1, cfgPeriod := fld p 69 1, express := fld p 70 1 = 1, timed := fld p 71 1 = 1
    launchOffset := fld p 72 4, revAll := fld p 76 1 = 1 }

/-- The settings as EGRESS_GET_SESSION returns them (R414). -/
def sessCfgBytes (c : SessCfg) : List Byte :=
  be 1 (bit c.enable 0) ++ be 1 c.zone ++ be 2 c.firstSlot ++ be 2 c.slotCount ++ be 1 c.port
    ++ be 1 (match c.transport with | .udpUnicast => 0 | .udpMulticast => 1 | .tcp => 2)
    ++ be 1 (if c.ipv6 then 6 else 4) ++ ipBytes c.ipv6 c.dstIp ++ be 6 c.nextHop ++ be 2 c.srcPort ++ be 2 c.dstPort
    ++ be 2 c.listenPort ++ ipBytes c.ipv6 c.permitIp ++ be 1 (c.permitLen.getD 0) ++ be 2 c.vlan ++ be 1 c.priority
    ++ be 1 c.dscp ++ be 2 c.idcode ++ be 2 c.zoneIdcode ++ be 1 c.flows.length ++ padTo 4 (c.flows.flatMap fun f => be 1 f)
    ++ be 1 c.cfgType ++ be 1 c.cfgPeriod ++ be 1 (bit c.express 0) ++ be 1 (bit c.timed 0) ++ be 4 c.launchOffset
    ++ be 1 (bit c.revAll 0)

/-- The parameter checks; a write with ENABLE off is checked in its first two fields only (R386, R401, R414, R608). -/
def sessChecks (s : State) (p : List Byte) : List (Bool × Nat) :=
  let c := sessCfgOf p
  let tcp : Bool := c.transport = .tcp
  let ipOk (o : Nat) : Bool := ipFieldOk c.ipv6 (slice p o 16)
  if fld p 1 1 = 0 then []
  else
    [(fld p 1 1 == 1, 1), (inRange c.zone 0 63, 2), (inRange c.firstSlot 0 16383, 3), (inRange c.slotCount 1 16384, 5),
     (inRange c.port 0 3, 7), (inRange (fld p 8 1) 0 2, 8), (fld p 9 1 == 4 || fld p 9 1 == 6, 9), (tcp || ipOk 10, 10),
     (tcp || inRange c.srcPort 1 65535, 32), (tcp || inRange c.dstPort 1 65535, 34), (!tcp || inRange c.listenPort 1 65535, 36),
     (!tcp || ipOk 38, 38), (!tcp || inRange (fld p 54 1) 0 (if c.ipv6 then 128 else 32), 54), (inRange c.vlan 0 4094, 55),
     (inRange c.priority 0 7, 57), (inRange c.dscp 0 63, 58), (inRange c.idcode 1 65534, 59), (inRange c.zoneIdcode 1 65534, 61),
     (inRange (fld p 63 1) 0 4, 63)]
    ++ (c.flows.zipIdx.map fun (f, i) => (match tabGet? f s.kernel.flows with | some x => x.zone == c.zone | none => false, 64 + i))
    ++ [(inRange c.cfgType 2 3, 68), (inRange c.cfgPeriod 0 60, 69), (inRange (fld p 70 1) 0 1, 70), (inRange (fld p 71 1) 0 1, 71),
        (!(tcp && c.timed), 71), (inRange c.launchOffset 1000 3000000, 72), (inRange (fld p 76 1) 0 1, 76)]

/-- The overhead that the MTU test of R388 adds to a frame bound. -/
def sessOverhead (s : State) (c : SessCfg) : Nat :=
  (if c.transport = .tcp then 20 else 8) + (if c.ipv6 then 40 else 20) + (if c.vlan = 0 then 0 else 4)
    + (if (s.port c.port).macsec = .off then 0 else 32)

/-- The frame bound of a session in a zone's slot class (R388). -/
def sessBound (s : State) (c : SessCfg) : Nat := frameBound c.slotCount (s.zone c.zone).slotClass c.flows.length

/-- An EXPRESS session or a TIMED UDP session fits an MTU (R388, R406). -/
def sessFitsMtu (s : State) (c : SessCfg) (mtu : Nat) : Bool :=
  !(c.express || (c.timed && c.transport != .tcp)) || decide (sessBound s c + sessOverhead s c ≤ mtu)

/-- The three tests of R388: frame bound, MTU, CFG-2 configuration bound. -/
def sessFits (s : State) (c : SessCfg) : Bool :=
  let limit := if c.transport = .tcp then 65535 else 65507
  decide (sessBound s c ≤ limit) && sessFitsMtu s c (s.tx c.port).mtu
    && (c.cfgType = 3 || decide (configBound c.slotCount (s.zone c.zone).slotClass c.flows.length ≤ limit))

/-- EGRESS_SET_SESSION's effect (R386, R387, R395, R414). -/
def setSession (s : State) (p : List Byte) : CmdOut :=
  let n := fld p 0 1
  let x := s.sess n
  if fld p 1 1 = 0 then
    let s1 := leaveWaits n (dropTcp n false s)
    let y := s1.sess n
    .ok (be 4 (sessBound s x.cfg)) (s1.setSess n { y with
      cfg := { y.cfg with enable := false }, state := .disabled, fresh := false, changedAt := some s.now, cfgCnt := y.cfgCnt + 1 })
  else if x.cfg.enable then .err stBusy
  else
    let c := sessCfgOf p
    if !sessFits s c then .err stNoResource
    else .ok (be 4 (sessBound s c)) (s.setSess n { x with
      cfg := c, state := .idle, fresh := true, changedAt := some s.now, cfgCnt := x.cfgCnt + 1, layout := none, content := none })

def cmdEgressSetSession : Cmd :=
  { opcode := 0x0801, modes := anyMode, lenOk := lenIs 77, checks := sessChecks, journaled := jAlways, key := keyByte 0x0801
    run := fun s _ p => setSession s p }

/-- A zone's slot class has changed: sessions that it breaks are SUSPENDED (R387, R388). -/
def suspendSessions (z : Nat) (s : State) : State :=
  (s.egress.sessions.map (·.1)).foldl (fun s n =>
    let x := s.sess n
    if x.cfg.zone = z && (x.state = .idle || x.state = .sending) && !sessFits s x.cfg then
      leaveWaits n (s.setSess n { x with state := .suspended })
    else s) s

/-- At a ZONE_START the sessions whose bound is met again leave SUSPENDED (R387). -/
def resumeSessions (z : Nat) (s : State) : State :=
  { s with egress := { s.egress with sessions := tabMap (fun _ (x : Session) =>
      if x.state = .suspended && x.cfg.zone = z && sessFits s x.cfg then { x with state := .idle } else x) s.egress.sessions } }

/-! ### EGRESS_SET_PORT -/

/-- Some enabled EXPRESS or TIMED UDP session of the port needs a larger MTU (R406). -/
def mtuNeeded (s : State) (port mtu : Nat) : Bool :=
  s.egress.sessions.any fun x => x.2.cfg.enable && x.2.cfg.port = port && !sessFitsMtu s x.2.cfg mtu

/-- EGRESS_SET_PORT's effect (R404, R406, R407). Preemption enabled with the link up is verified at once. -/
def setTxPort (s : State) (p : List Byte) : CmdOut :=
  let n := fld p 0 1
  let x := s.tx n
  let on := fld p 3 1 = 1
  if fld p 1 2 < x.mtu ∧ mtuNeeded s n (fld p 1 2) then .err stBusy
  else
    let y : TxPort := { x with mtu := fld p 1 2, preempt := on, pauseObey := fld p 4 1 = 1, pfcObey := fld p 5 1 = 1 }
    let z : TxPort := if on then y else { y with active := false, verify := none }
    let s1 := s.setTx n z
    .ok (be 1 (bit z.active 0)) (if on && !x.preempt && (s.port n).linkUp then verifyStart n 1 s1 else s1)

def cmdEgressSetPort : Cmd :=
  { opcode := 0x0802, modes := anyMode, lenOk := lenIs 6
    checks := fun _ p => [(inRange (fld p 0 1) 0 3, 0), (inRange (fld p 1 2) 1280 9000, 1), (inRange (fld p 3 1) 0 1, 3),
                          (inRange (fld p 4 1) 0 1, 4), (inRange (fld p 5 1) 0 1, 5)]
    journaled := jAlways, key := keyByte 0x0802, run := fun s _ p => setTxPort s p }

/-! ### Reads -/

/-- The code of a session state (R387). -/
def SessState.code : SessState → Nat
  | .disabled => 0 | .idle => 1 | .sending => 2 | .suspended => 3

def cmdEgressGetSession : Cmd :=
  { opcode := 0x0803, modes := anyMode, lenOk := lenIs 1, checks := noChecks, journaled := jNever, key := noKey
    run := fun s _ p =>
      let x := s.sess (fld p 0 1)
      let r1 := x.mark.getD (0, 0)
      let q := r1.1
      let r := r1.2
      let peer := match x.tcp with | some t => ipBytes x.cfg.ipv6 t.peerIp ++ be 2 t.peerPort | none => List.replicate 18 0
      .ok (sessCfgBytes x.cfg ++ be 1 x.state.code ++ be 4 q.toNat ++ be 1 r ++ peer) s }

def cmdEgressGetConfig : Cmd :=
  { opcode := 0x0804, modes := anyMode, lenOk := lenIs 7, checks := fun _ p => [(inRange (fld p 5 2) 1 16384, 5)]
    journaled := jNever, key := noKey
    run := fun s _ p =>
      let all := (sessConfigFrames s (s.sess (fld p 0 1)) ((s.sess (fld p 0 1)).cfg.cfgType == 3)).flatten
      .ok (be 4 all.length ++ slice all (fld p 1 4) (fld p 5 2)) s }

/-- The counters of a session, and of a port, in the order of R415. -/
def sessCounters (x : Session) : List Cnt :=
  [x.cSent, x.cRevSent, x.cCfg, x.cBufDrops, x.cLateSent, x.cLateDropped, x.cConnects, x.cResets, x.cIgnored]
def txCounters (x : TxPort) : List Cnt :=
  [x.cFrames, x.cExpress, x.cPreempted, x.cHeld, x.cVerifyFails, x.cTsoSends, x.cTsoSegs, x.cPauseRx, x.cPfcRx,
   min (x.pausedPs / 1000) 0xFFFFFFFF, x.cPnExhausted, x.cDroppedFull]

/-- Counters as reply data. -/
def cntBytes (cs : List Cnt) : List Byte := cs.flatMap fun c => be 4 c

/-- The egress counters at 0 (R415). -/
def clearEgress (s : State) : State :=
  { s with egress := { s.egress with
    sessions := tabMap (fun _ x => { x with cSent := 0, cRevSent := 0, cCfg := 0, cBufDrops := 0, cLateSent := 0, cLateDropped := 0,
                                            cConnects := 0, cResets := 0, cIgnored := 0 }) s.egress.sessions
    ports := s.egress.ports.map fun x =>
      { x with cFrames := 0, cExpress := 0, cPreempted := 0, cHeld := 0, cVerifyFails := 0, cTsoSends := 0, cTsoSegs := 0,
               cPauseRx := 0, cPfcRx := 0, pausedPs := 0, cPnExhausted := 0, cDroppedFull := 0 } } }

/-- A counters command with a clear parameter: data read, then cleared. -/
def countersCmd (opcode : Nat) (data : State → List Byte) (clear : State → State) : Cmd :=
  { opcode, modes := anyMode, lenOk := lenIs 1, checks := fun _ p => [(inRange (fld p 0 1) 0 1, 0)], journaled := jClear, key := noKey
    run := fun s _ p => .ok (data s) (if fld p 0 1 = 1 then clear s else s) }

def cmdEgressGetCounters : Cmd :=
  countersCmd 0x0805
    (fun s => cntBytes (((List.range 256).flatMap fun n => sessCounters (s.sess n)) ++ s.egress.ports.toList.flatMap txCounters))
    clearEgress

def cmdEgressSendCfg : Cmd :=
  { opcode := 0x0806, modes := anyMode, lenOk := lenIs 1, checks := noChecks, journaled := jAlways, key := noKey
    run := fun s _ p =>
      let n := fld p 0 1
      let x := s.sess n
      .ok [] (if x.state = .sending && x.cfg.transport != .tcp then sendOwnConfig n s else s) }

end Sys2Proof.Machine
end

