-- ==== Sys2Proof/Machine/Float.lean ====
section
/-! DEFINITION. IEEE 754 single and double precision: comparison, exact conversion, and arithmetic rounded to nearest,
ties to even (log entry 5). -/

namespace Sys2Proof.Machine

/-- The exponent of a positive rational: the greatest e with 2ᵉ ≤ q. -/
def ratLog2 (q : Rat) : Int :=
  let e : Int := (Nat.log2 q.num.natAbs : Int) - (Nat.log2 q.den : Int)
  let p : Rat := if 0 ≤ e then ((2 ^ e.toNat : Nat) : Rat) else 1 / ((2 ^ (-e).toNat : Nat) : Rat)
  if p ≤ q then e else e - 1

/-- q × 2ⁿ. -/
def ratScale (q : Rat) (n : Int) : Rat :=
  if 0 ≤ n then q * ((2 ^ n.toNat : Nat) : Rat) else q / ((2 ^ (-n).toNat : Nat) : Rat)

/-- The nearest whole number to a non-negative rational, ties to even. -/
def rne (q : Rat) : Nat :=
  let f := q.floor.toNat
  let r := q - f
  if r < 1 / 2 then f else if 1 / 2 < r then f + 1 else f + f % 2

/-- The bits of a rational in a binary format of `p` significant bits, least exponent `emin` and infinity `inf`, without
the sign. -/
def ratBits (p : Nat) (emin : Int) (inf : Nat) (q : Rat) : Nat :=
  if q = 0 then 0
  else
    let e := max (ratLog2 q) emin
    min inf ((e - emin).toNat * 2 ^ (p - 1) + rne (ratScale q ((p : Int) - 1 - e)))

/-- The magnitude that a finite pattern stands for. -/
def bitsRat (p : Nat) (emin : Int) (m : Nat) : Rat :=
  let k := 2 ^ (p - 1)
  if m < k then ratScale (m : Rat) (emin - p + 1) else ratScale ((m % k + k : Nat) : Rat) ((m / k : Nat) - 1 + emin - p + 1)

/-- The square root of a positive rational, exact or with half a unit more in a place far below the last bit of fp64, so
that it rounds as the root does. -/
def rootQ (q : Rat) : Rat :=
  let k := (64 - ratLog2 q / 2).toNat
  let n := ratScale q (2 * (k : Int))
  let m := Nat.sqrt n.floor.toNat
  ratScale ((m : Rat) + (if ((m * m : Nat) : Rat) = n then 0 else 1 / 2)) (-(k : Int))

/-! ### Angles (R174, R322) -/

/-- π to 100 decimal places. -/
def piQ : Rat :=
  ((31415926535897932384626433832795028841971693993751058209749445923078164062862089986280348253421170679 : Nat) : Rat)
    / ((10 ^ 100 : Nat) : Rat)

/-- An angle folded into (−π, π]. -/
def wrapQ (x : Rat) : Rat := x - 2 * piQ * ((x / (2 * piQ) - 1 / 2).ceil : Rat)

/-- The terms of Euler's series of the arc tangent from the n-th on, in 2⁻¹²⁸: `term` and the ratio `t` of a step. -/
def atanTerms : Nat → Nat → Nat → Nat → Nat
  | 0, _, _, _ => 0
  | k + 1, n, t, term => term + atanTerms k (n + 1) t (term * t / 2 ^ 128 * (2 * n + 2) / (2 * n + 3))

/-- The arc tangent of 0 ≤ z ≤ 1, to far more bits than fp32 holds. -/
def atanQ (z : Rat) : Rat :=
  if z < 1 / 1048576 then z - z * z * z / 3 + z * z * z * z * z / 5
  else
    let term := (ratScale (z / (1 + z * z)) 128).floor.toNat
    let t := (ratScale (z * z / (1 + z * z)) 128).floor.toNat
    ratScale (atanTerms 140 0 t term : Nat) (-128)

/-- The angle of the point (x, y), not the origin, in (−π, π]. -/
def angleQ (x y : Rat) : Rat :=
  let ax := if x < 0 then -x else x
  let ay := if y < 0 then -y else y
  let a := if ay ≤ ax then atanQ (ay / ax) else piQ / 2 - atanQ (ax / ay)
  let b := if x < 0 then piQ - a else a
  if y < 0 then -b else b

/-! ### Elementary functions, to far more bits than fp64 holds -/

/-- The alternating series `term − next term + …` from the n-th term on, in 2⁻¹²⁸: each term is the one before times `t`
over `d n`. -/
def altTerms (d : Nat → Nat) : Nat → Nat → Nat → Nat → Nat
  | 0, _, _, _ => 0
  | k + 1, n, t, term => term - altTerms d k (n + 1) t (term * t / 2 ^ 128 / d n)

/-- A rational from 0 on in 2⁻¹²⁸. -/
def fixQ (q : Rat) : Nat := (ratScale q 128).floor.toNat

/-- sin x, cos x and tan x for 0 ≤ x ≤ π/2. -/
def sinQ (x : Rat) : Rat := ratScale (altTerms (fun n => (2 * n + 2) * (2 * n + 3)) 24 0 (fixQ (x * x)) (fixQ x) : Nat) (-128)
def cosQ (x : Rat) : Rat := ratScale (altTerms (fun n => (2 * n + 1) * (2 * n + 2)) 24 0 (fixQ (x * x)) (2 ^ 128) : Nat) (-128)
def tanQ (x : Rat) : Rat := sinQ x / cosQ x

/-- exp(−x) for 0 ≤ x: below 2⁻⁹² from 64 on, where 1 stands for 1 − exp(−x) in fp64 as well. -/
def expNegQ (x : Rat) : Rat :=
  if 64 ≤ x then 0 else (ratScale (altTerms (fun n => n + 1) 40 0 (fixQ (x / 64)) (2 ^ 128) : Nat) (-128)) ^ 64

/-- α of an envelope detector, for a time of `t` over the rate `f` per unit of `t` (R273, R330). -/
def alphaQ (f t : Rat) : Rat := 1 - expNegQ (1 / (f * t))

/-! ### fp32 -/

/-- The bits without the sign. -/
def f32Mag (x : F32) : Nat := x.toNat % 2 ^ 31
/-- The sign bit. -/
def f32Neg (x : F32) : Bool := x.getLsbD 31
def f32IsNan (x : F32) : Bool := decide (0x7F800000 < f32Mag x)
def f32IsInf (x : F32) : Bool := f32Mag x == 0x7F800000
def f32Finite (x : F32) : Bool := decide (f32Mag x < 0x7F800000)
/-- The value of a finite pattern. -/
def f32Rat (x : F32) : Rat := if f32Neg x then -(bitsRat 24 (-126) (f32Mag x)) else bitsRat 24 (-126) (f32Mag x)
/-- The nearest fp32 value. -/
def ratF32 (q : Rat) : F32 :=
  if q < 0 then BitVec.ofNat 32 (2 ^ 31 + ratBits 24 (-126) 0x7F800000 (-q)) else BitVec.ofNat 32 (ratBits 24 (-126) 0x7F800000 q)
/-- The place of a value in the order of numbers; both zeros have 0. -/
def f32Key (x : F32) : Int := if f32Neg x then -(f32Mag x : Int) else f32Mag x
def f32Le (a b : F32) : Bool := !f32IsNan a && !f32IsNan b && decide (f32Key a ≤ f32Key b)
def f32Lt (a b : F32) : Bool := !f32IsNan a && !f32IsNan b && decide (f32Key a < f32Key b)
/-- |x|. -/
def f32Abs (x : F32) : F32 := x &&& 0x7FFFFFFF#32
def f32NegOf (x : F32) : F32 := x ^^^ 0x80000000#32
/-- NaN, as an absent channel holds it. -/
def f32Nan : F32 := 0x7FC00000#32
/-- The greater of two values. -/
def f32Max (a b : F32) : F32 := if f32Lt a b then b else a

/-- Sum, with infinities and NaN as IEEE 754 has them. -/
def f32Add (a b : F32) : F32 :=
  if f32IsNan a || f32IsNan b then f32Nan
  else if f32IsInf a then (if f32IsInf b && f32Neg a != f32Neg b then f32Nan else a)
  else if f32IsInf b then b
  else if f32Mag a = 0 ∧ f32Mag b = 0 then a &&& b
  else ratF32 (f32Rat a + f32Rat b)
def f32Sub (a b : F32) : F32 := f32Add a (f32NegOf b)
/-- Product. -/
def f32Mul (a b : F32) : F32 :=
  let sign := (a ^^^ b) &&& 0x80000000#32
  if f32IsNan a || f32IsNan b then f32Nan
  else if f32IsInf a || f32IsInf b then (if f32Mag a = 0 ∨ f32Mag b = 0 then f32Nan else sign ||| 0x7F800000#32)
  else sign ||| f32Abs (ratF32 (f32Rat a * f32Rat b))

/-- Quotient. -/
def f32Div (a b : F32) : F32 :=
  let sign := (a ^^^ b) &&& 0x80000000#32
  if f32IsNan a || f32IsNan b then f32Nan
  else if f32IsInf a then (if f32IsInf b then f32Nan else sign ||| 0x7F800000#32)
  else if f32IsInf b then sign
  else if f32Mag b = 0 then (if f32Mag a = 0 then f32Nan else sign ||| 0x7F800000#32)
  else sign ||| f32Abs (ratF32 (f32Rat a / f32Rat b))

/-- An angle as fp32, to nearest and inside (−π, π]: the fp32 value next to π lies above it (R174). -/
def angleF32 (q : Rat) : F32 :=
  let r := ratF32 q
  if f32Mag r ≤ 0x40490FDA then r else (r &&& 0x80000000#32) ||| 0x40490FDA#32

/-- A free angle, held in (−π, π]. -/
def freeAngle (x : F32) : F32 := if f32Mag x ≤ 0x40490FDA then x else 0

/-- An angle folded into (−π, π]: unchanged when it lies there; of an infinite angle no rule gives the fold (R174, R322;
log entry 5). -/
def f32Wrap (x : F32) : F32 :=
  if f32Mag x ≤ 0x40490FDA then x else if f32Finite x then angleF32 (wrapQ (f32Rat x)) else freeAngle (Config.wrapAngle x)

/-- The magnitude of a rectangular phasor (R174). -/
def phasorMag (x y : F32) : F32 :=
  if f32IsInf x || f32IsInf y then 0x7F800000#32
  else
    let q := f32Rat x * f32Rat x + f32Rat y * f32Rat y
    if q = 0 then 0 else ratF32 (rootQ q)

/-- The angle of a rectangular phasor; of a phasor 0 or with an infinite component no rule gives it (R174; log entry 5). -/
def phasorAng (x y : F32) : F32 :=
  if f32IsInf x || f32IsInf y || (f32Mag x == 0 && f32Mag y == 0) then freeAngle (Config.phasorAng x y)
  else angleF32 (angleQ (f32Rat x) (f32Rat y))

/-- The mean of fp32 values, rounded once; with a value that is not finite, the sum and quotient of IEEE 754 (R274). -/
def meanF32 (xs : List F32) : F32 :=
  if xs.all f32Finite then ratF32 ((xs.map f32Rat).foldl (· + ·) (0 : Rat) / (xs.length : Nat)) else f32Div (xs.foldl f32Add 0) (ratF32 (xs.length : Nat))

/-- The root of the mean of squares of fp32 values, rounded once (R273). -/
def rmsF32 (xs : List F32) : F32 :=
  if xs.all f32Finite then
    let q := (xs.map fun x => f32Rat x * f32Rat x).foldl (· + ·) (0 : Rat) / (xs.length : Nat)
    if q = 0 then 0 else ratF32 (rootQ q)
  else if xs.any f32IsNan then f32Nan else 0x7F800000#32

/-- One step of an envelope detector: rate per second, attack and release in µs, |v|, e (R273). -/
def envelopeF32 (rate attack release : Nat) (a e : F32) : F32 :=
  let t : Rat := ((if f32Lt e a then attack else release : Nat) : Rat) / 1000000
  if f32Finite a && f32Finite e then ratF32 (f32Rat e + alphaQ (rate : Nat) t * (f32Rat a - f32Rat e))
  else f32Add e (f32Mul (ratF32 (alphaQ (rate : Nat) t)) (f32Sub a e))

/-! ### fp64 -/

def f64Mag (x : F64) : Nat := x.toNat % 2 ^ 63
def f64Neg (x : F64) : Bool := x.getLsbD 63
def f64Inf : Nat := 0x7FF0000000000000
def f64IsNan (x : F64) : Bool := decide (f64Inf < f64Mag x)
def f64IsInf (x : F64) : Bool := f64Mag x == f64Inf
def f64Finite (x : F64) : Bool := decide (f64Mag x < f64Inf)
def f64Rat (x : F64) : Rat := if f64Neg x then -(bitsRat 53 (-1022) (f64Mag x)) else bitsRat 53 (-1022) (f64Mag x)
def ratF64 (q : Rat) : F64 :=
  if q < 0 then BitVec.ofNat 64 (2 ^ 63 + ratBits 53 (-1022) f64Inf (-q)) else BitVec.ofNat 64 (ratBits 53 (-1022) f64Inf q)
def f64Key (x : F64) : Int := if f64Neg x then -(f64Mag x : Int) else f64Mag x
def f64Le (a b : F64) : Bool := !f64IsNan a && !f64IsNan b && decide (f64Key a ≤ f64Key b)
def f64Lt (a b : F64) : Bool := !f64IsNan a && !f64IsNan b && decide (f64Key a < f64Key b)
def f64Abs (x : F64) : F64 := x &&& 0x7FFFFFFFFFFFFFFF#64
def f64NegOf (x : F64) : F64 := x ^^^ 0x8000000000000000#64
def f64Nan : F64 := 0x7FF8000000000000#64
def f64Max (a b : F64) : F64 := if f64Lt a b then b else a

def f64Add (a b : F64) : F64 :=
  if f64IsNan a || f64IsNan b then f64Nan
  else if f64IsInf a then (if f64IsInf b && f64Neg a != f64Neg b then f64Nan else a)
  else if f64IsInf b then b
  else if f64Mag a = 0 ∧ f64Mag b = 0 then a &&& b
  else ratF64 (f64Rat a + f64Rat b)
def f64Sub (a b : F64) : F64 := f64Add a (f64NegOf b)
def f64Mul (a b : F64) : F64 :=
  let sign := (a ^^^ b) &&& 0x8000000000000000#64
  if f64IsNan a || f64IsNan b then f64Nan
  else if f64IsInf a || f64IsInf b then (if f64Mag a = 0 ∨ f64Mag b = 0 then f64Nan else sign ||| BitVec.ofNat 64 f64Inf)
  else sign ||| f64Abs (ratF64 (f64Rat a * f64Rat b))

/-- Square root, to nearest. -/
def f64Sqrt (x : F64) : F64 :=
  if f64IsNan x || (f64Neg x && f64Mag x != 0) then f64Nan
  else if f64IsInf x || f64Mag x = 0 then x
  else ratF64 (rootQ (f64Rat x))

/-- Quotient by a whole number. -/
def f64Over (x : F64) (n : Nat) : F64 := if f64Finite x then ratF64 (f64Rat x / (n : Nat)) else x

/-- The mean of fp64 values, rounded once; with a value that is not finite, the sum of IEEE 754 (R288). -/
def meanF64 (xs : List F64) : F64 :=
  if xs.all f64Finite then ratF64 ((xs.map f64Rat).foldl (· + ·) (0 : Rat) / (xs.length : Nat)) else xs.foldl f64Add 0

/-- The root of the mean of squares of fp64 values, rounded once (R305, R330). -/
def rmsF64 (xs : List F64) : F64 :=
  if xs.all f64Finite then
    let q := (xs.map fun x => f64Rat x * f64Rat x).foldl (· + ·) (0 : Rat) / (xs.length : Nat)
    if q = 0 then 0 else ratF64 (rootQ q)
  else if xs.any f64IsNan then f64Nan else BitVec.ofNat 64 f64Inf

/-- One step of an envelope detector: rate per second, attack and release in ms, |y|, e (R330). -/
def envelopeF64 (rate attack release : Nat) (a e : F64) : F64 :=
  let t : Rat := ((if f64Lt e a then attack else release : Nat) : Rat) / 1000
  if f64Finite a && f64Finite e then ratF64 (f64Rat e + alphaQ (rate : Nat) t * (f64Rat a - f64Rat e))
  else f64Add e (f64Mul (ratF64 (alphaQ (rate : Nat) t)) (f64Sub a e))

/-- fp32 to fp64, exact. -/
def f32To64 (x : F32) : F64 :=
  let sign : F64 := if f32Neg x then 0x8000000000000000#64 else 0
  if f32IsNan x then f64Nan
  else if f32IsInf x then sign ||| BitVec.ofNat 64 f64Inf
  else sign ||| f64Abs (ratF64 (f32Rat x))

/-- fp64 to fp32, to nearest. -/
def f64To32 (x : F64) : F32 :=
  let sign : F32 := if f64Neg x then 0x80000000#32 else 0
  if f64IsNan x then f32Nan
  else if f64IsInf x then sign ||| 0x7F800000#32
  else sign ||| f32Abs (ratF32 (f64Rat x))

/-- A signed whole number as fp32. -/
def intF32 (i : Int) : F32 := ratF32 (i : Rat)

end Sys2Proof.Machine
end

