-- ==== Sys2Proof/Machine/Detect.lean ====
section
/-! DEFINITION. The coherency unit, the band-energy monitor and the alarm logic (R317 to R351, R612). -/

namespace Sys2Proof.Machine

/-! ### The contents of a slot -/

/-- The slot of a stream in a constellation (R318). -/
def slotOf (c : Sealed) (r : StreamRef) : Option Slot :=
  c.slots.find? fun x => x.ref.isLocal == r.isLocal && x.ref.index == r.index && (r.isLocal || x.ref.position == r.position)

/-- The record of a slot whose values count for detection: PRESENT or HELD (R321, R328). -/
def liveRecord (x : Slot) : Option FrameRecord := if x.state = .present ∨ x.state = .held then x.record else none

/-- The fp32 value at a byte offset of a record's channel values (R244). -/
def recF32 (f : FrameRecord) (o : Nat) : F32 := BitVec.ofNat 32 (lfld f.values o 4)

/-- Channels of a slot that are there: phasor, analog, FREQ, DFREQ. -/
def hasPhasor (f : FrameRecord) (i : Nat) : Bool := decide (i < f.counts.1) && !f.absent.getLsbD i
def hasAnalog (f : FrameRecord) (i : Nat) : Bool := decide (i < f.counts.2.1) && !f.absent.getLsbD (32 + i)

/-- Phasor magnitude and angle, FREQ, DFREQ and analog values of a slot. -/
def phMag (f : FrameRecord) (i : Nat) : F32 := recF32 f (8 * i)
def phAng (f : FrameRecord) (i : Nat) : F32 := recF32 f (8 * i + 4)
def slotFreq (f : FrameRecord) : F32 := recF32 f (8 * f.counts.1)
def slotDfreq (f : FrameRecord) : F32 := recF32 f (8 * f.counts.1 + 4)
def slotAnalog (f : FrameRecord) (i : Nat) : F32 := recF32 f (8 * f.counts.1 + 8 + 4 * i)

/-! ### Alarm definitions -/

/-- The codes of R353. -/
def AlmState.code : AlmState → Nat
  | .disabled => 0 | .arming => 1 | .idle => 2 | .pickup => 3 | .raised => 4 | .dropout => 5 | .latched => 6
def AlmState.ofCode : Nat → AlmState
  | 1 => .arming | 2 => .idle | 3 => .pickup | 4 => .raised | 5 => .dropout | 6 => .latched | _ => .disabled

/-- The states in which a definition is raised (R338). -/
def AlmState.isRaised : AlmState → Bool
  | .arming | .raised | .dropout | .latched => true
  | .disabled | .idle | .pickup => false

/-- The code of a source (R346). -/
def AlmSource.code : AlmSource → Nat
  | .island => 1 | .oscillation .. => 2 | .kernel .. => 3 | .dataLoss _ => 4

/-- The state shown: raised while a test runs, else the own state (R344). -/
def AlmDef.shown (d : AlmDef) : Bool := d.state.isRaised || d.testEnd.isSome

/-- A definition, and changes of it. -/
def State.ald (s : State) (n : Nat) : Option AlmDef := tabGet? n s.detect.alarms
def State.setAld (s : State) (n : Nat) (d : AlmDef) : State :=
  { s with detect := { s.detect with alarms := tabSet n d s.detect.alarms } }

/-! ### The pins (R342, R343, R507) -/

/-- A definition holds its pins raised: its own shown state or, on a STANDBY, the mirrored one (R342, R507). -/
def pinRaised (s : State) (d : AlmDef) : Bool :=
  d.state != .disabled && (d.shown || s.sys.mode = .standby && (match d.mirrored with | some (st, _, _) => st.isRaised | none => false))

/-- The pins as the definitions want them: bit n set when ALM_n is released (R342). -/
def pinWant (s : State) : BitVec 16 :=
  if s.aligning then s.detect.alarms.foldl (fun v x => if pinRaised s x.2 then v ||| x.2.pinMask else v) 0 else 0xFFFF#16

/-- The change of a decision goes to the drivers: the next TCLK edge, then 9 TCLK (R343). -/
def updatePins (s : State) : State :=
  let v := pinWant s
  let last := match s.detect.pinQueue.getLast? with | some x => x.2 | none => s.detect.pins
  if v = last then s
  else { s with detect := { s.detect with pinQueue := s.detect.pinQueue ++ [(cdiv s.now 4000 * 4000 + 36000, v)] } }

/-- Pins at once, as an entry into a mode or a loss of supply sets them (R75). -/
def forcePins (v : BitVec 16) (s : State) : State := { s with detect := { s.detect with pins := v, pinQueue := [] } }

/-- ALM_PIN_UPDATE: the pin changes whose count has passed take effect in order (R343). -/
def pinUpdate (s : State) : State :=
  let due := s.detect.pinQueue.filter fun x => decide (x.1 ≤ s.now)
  match due.getLast? with
  | some x => { s with detect := { s.detect with pins := x.2, pinQueue := s.detect.pinQueue.drop due.length } }
  | none => s

/-! ### Alarm frames (R345 to R351) -/

/-- The 64-byte payload (R346). -/
def alarmPayload (s : State) (n : Nat) (d : AlmDef) (e : AlmEvent) (type : Nat) (test : Bool) (repeatNo : Nat) : List Byte :=
  be 1 1 ++ be 1 type ++ be 1 (s.position * 64 + bit test 5 + bit (d.state = .latched) 4 + d.severity * 4) ++ be 1 d.source.code
    ++ be 2 n ++ be 1 (bit e.raised 0) ++ be 1 d.zone ++ be 4 e.stateNo.toNat ++ be 4 repeatNo ++ stampBytes e.decided
    ++ stampBytes e.tick ++ be 4 e.seq ++ be 1 e.tqCode ++ be 3 0 ++ padTo 16 e.detail

/-- An alarm frame to one destination: an express transition frame, at the pins 410 NCLK after the NCLK edge at or after the
decision edge, or a repeat (R50, R60, R345, R349, R350, R351). -/
def sendAlarm (ald dest : Nat) (rep : Bool) (payload : List Byte) (s : State) : State :=
  let t := vget {} s.detect.dests dest
  if !t.enable then s
  else
    let p := s.port t.port
    let x := s.tx t.port
    let r : Route := { v6 := t.ipv6, mac := t.mac, src := if t.ipv6 then p.ipv6 else p.ipv4, dst := t.ip, srcMac := p.mac,
                       vlan := t.vlan, prio := t.priority, dscp := t.dscp }
    let r1 := ipFrames r 9000 17 (udpDatagram r.v6 r.src r.dst t.srcPort t.dstPort payload) x.ident4 x.ident6
    let fs := r1.1
    let i4 := r1.2.1
    let i6 := r1.2.2
    let s1 := s.modTx t.port fun y => { y with ident4 := i4, ident6 := i6 }
    let ready := if rep then 0 else (cdiv s.now 2560 + 410) * 2560
    let s2 := enqueue t.port (!rep) (fs.map fun o =>
      { kind := .alarm ald rep, octets := o, priority := if t.vlan = 0 then 0 else t.priority, launch := none, late := false
        edge := if rep then 0 else s.now, readyAt := ready }) s1
    let y := s2.tx t.port
    if y.expAlarm.length + y.preNow.length ≠ x.expAlarm.length + x.preNow.length then s2
    else if rep then { s2 with detect := { s2.detect with cRepeatDrop := vset s2.detect.cRepeatDrop t.port (inc (vget 0 s2.detect.cRepeatDrop t.port)) } }
    else { s2 with detect := { s2.detect with cTxDrop := vset s2.detect.cTxDrop t.port (inc (vget 0 s2.detect.cTxDrop t.port)) } }

/-- The physical time is at or past the handover edge H of the yielding device (R517). -/
def State.pastEdge (s : State) (at_ : Ps) : Bool :=
  s.pair.state = .handingOver && (match s.pair.handover with | some (_, h) => decide (h ≤ at_) | none => false)

/-- This device sends the alarm frames of a decision of the instant `at_`: ACTIVE, and in a handover the yielding device those of
decisions before H, the returning one those from H on. Once the partner is seen to have left ACTIVE, the returning device sends
all (R348, R517; DEDUCED, log entry 19). -/
def alarmsOwned (s : State) (at_ : Ps) : Bool :=
  s.active && !s.pastEdge at_ && (match s.pair.handover with
    | some (_, h) => s.pair.state != .activePaired || decide (h ≤ at_) || s.pair.partnerMode != Mode.active.code
    | none => true)

/-- The destinations of a definition, in ascending order. -/
def destsOf (d : AlmDef) : List Nat := (List.range 8).filter fun i => d.destMask.getLsbD i

/-- A transition event: STATE_NO counts it, its frames go out, its repeats begin (R348, R350, R612). -/
def almEvent (n type : Nat) (test : Bool) (tick : Stamp) (seq : Nat) (detail : List Byte) (s : State) : State :=
  match s.ald n with
  | none => s
  | some d =>
    let no := d.stateNo + 1
    let e : AlmEvent := { type, test, raised := d.shown, stateNo := no, decided := s.stamp, tick, seq, tqCode := s.time.tqCode, detail }
    let d' : AlmDef := { d with stateNo := no, event := some (e, s.now)
                                nextRepeat := (destsOf d).map fun i => (i, 1, s.now + 1000000000) }
    let s1 := s.setAld n d'
    if alarmsOwned s1 s.now then (destsOf d').foldl (fun s i => sendAlarm n i false (alarmPayload s n d' e type test 0) s) s1 else s1

/-- The interval that follows repeat `no`: doubling from 1 ms up to REPEAT_MAX (R350). -/
def repeatGap (s : State) (dest no : Nat) : Ps := min (2 ^ no) (vget {} s.detect.dests dest).repeatMax * 1000000000

/-- The repeats of a definition that are due (R350). -/
def almRepeat (n : Nat) (s : State) : State :=
  match s.ald n with
  | none => s
  | some d =>
    match d.event with
    | none => s
    | some (e, at_) =>
      let due := d.nextRepeat.filter fun x => decide (x.2.2 ≤ s.now)
      let s1 := s.setAld n { d with nextRepeat := d.nextRepeat.map fun x =>
        if x.2.2 ≤ s.now then (x.1, x.2.1 + 1, x.2.2 + repeatGap s x.1 x.2.1) else x }
      if alarmsOwned s1 at_ then
        due.foldl (fun s x => sendAlarm n x.1 true (alarmPayload s n d e 4 d.testEnd.isSome x.2.1) s) s1
      else s1

/-! ### Qualification (R338 to R341) -/

/-- The next state and count: the rows of R338. -/
def almNext (d : AlmDef) (raw : Raw) : AlmState × Nat :=
  let cleared : AlmState := if d.latch then .latched else .idle
  let first : AlmState × Nat := (if d.pickup = 1 then .raised else .pickup, 1)
  match d.state, raw with
  | .disabled, _ => (.disabled, 0)
  | .arming, .yes => first
  | .arming, .no => (.idle, 0)
  | .arming, .undecided => (.arming, 0)
  | .idle, .yes => first
  | .idle, _ => (.idle, 0)
  | .pickup, .yes => (if d.count + 1 = d.pickup then .raised else .pickup, d.count + 1)
  | .pickup, _ => (.idle, 0)
  | .raised, .no => (if d.dropout = 1 then cleared else .dropout, 1)
  | .raised, _ => (.raised, 0)
  | .dropout, .yes => (.raised, 0)
  | .dropout, .no => (if d.count + 1 = d.dropout then cleared else .dropout, d.count + 1)
  | .dropout, .undecided => (.dropout, d.count)
  | .latched, .yes => (.raised, 0)
  | .latched, _ => (.latched, 0)

/-- The transition event of a move of the own state, if it is one (R348). -/
def almMove (d : AlmDef) (new : AlmState) : Option Nat :=
  if d.state = .arming then (if new = .arming then none else some 3)
  else if d.testEnd.isSome then none
  else if (d.state = .idle ∨ d.state = .pickup) ∧ new = .raised then some 1
  else if d.state.isRaised ∧ new = .idle then some 2
  else none

/-- RAISES and CLEARS (R355). -/
def almCount (d : AlmDef) (new : AlmState) : AlmDef :=
  if (d.state = .idle ∨ d.state = .pickup) ∧ new = .raised then { d with cRaises := inc d.cRaises }
  else if (d.state = .raised ∨ d.state = .dropout ∨ d.state = .latched) ∧ new = .idle then { d with cClears := inc d.cClears }
  else d

/-- The mirrored state of a definition after a decision of this device: past H the yielding device keeps the state of before as
the one that its partner had of it (R511, R513, R517). -/
def keepShown (s : State) (d : AlmDef) : Option (AlmState × Nat × Nat) :=
  if s.pastEdge s.now && d.mirrored.isNone then some (d.state, d.count, (d.lastTick.map (·.2.1)).getD 0) else d.mirrored

/-- A raw result decides one tick of a definition (R335, R338, R341). -/
def almDecide (n : Nat) (raw : Raw) (tick : Stamp) (seq : Nat) (detail : List Byte) (s : State) : State :=
  match s.ald n with
  | none => s
  | some d =>
    if d.state = .disabled ∨ !(s.aligning && (s.zone d.zone).ticking) then s
    else
      let r1 := almNext d raw
      let st := r1.1
      let k := r1.2
      let d1 := almCount d st
      let d2 : AlmDef := { d1 with
        state := st, count := k, lastTick := some (tick, seq, detail), mirrored := keepShown s d
        cUndecided := if raw = .undecided then inc d1.cUndecided else d1.cUndecided
        rawHist := if s.sys.mode = .standby then ((seq, raw) :: d1.rawHist).take 16 else d1.rawHist }
      let s1 := s.setAld n d2
      let s2 := match almMove d st with
        | some type => almEvent n type false tick seq detail s1
        | none => s1
      let s3 := if d.state = st ∧ d.count = k then s2 else mirrorItem 5 (be 2 n ++ be 1 st.code ++ be 2 k ++ be 4 seq) s2
      updatePins s3

/-- A tick of the zone with a SEQ before `seq` is not decided yet for a definition: it waits for the definition's unit or,
for a KERNEL definition, for a posting or its budget deadline (R335, R338). -/
def earlierOpen (s : State) (d : AlmDef) (seq : Nat) : Bool :=
  let before (c : Sealed) : Bool := c.zone == d.zone && seqBefore c.seq seq
  match d.source with
  | .island => s.align.cohQueue.any before || (match s.align.coh with | some (c, _) => before c | none => false)
  | .oscillation .. => s.align.bandQueue.any before || (match s.align.band with | some (c, _) => before c | none => false)
  | .kernel f o _ _ => (s.zone d.zone).areas.any fun a =>
    a.assembledAt.isSome && !a.deadlineDone && (a.sealed_.any fun c => seqBefore c.seq seq)
      && !(s.kernel.posts.any fun p => p.zone = d.zone && p.flow = f && p.tick = a.tick && p.done && p.posted.getLsbD o)
  | .dataLoss _ => false

/-- Place of a result among those that wait: in order of SEQ (R338). -/
def heldPlace (x : Stamp × Nat × Raw × List Byte) : List (Stamp × Nat × Raw × List Byte) → List (Stamp × Nat × Raw × List Byte)
  | [] => [x]
  | y :: t => if seqBefore x.2.1 y.2.1 then x :: y :: t else y :: heldPlace x t

/-- A result of a definition: decided, or held until every tick of the zone with a lower SEQ is decided (R335, R338). -/
def almTake (n : Nat) (raw : Raw) (tick : Stamp) (seq : Nat) (detail : List Byte) (s : State) : State :=
  match s.ald n with
  | none => s
  | some d =>
    if earlierOpen s d seq || d.held.any (fun x => seqBefore x.2.1 seq) then
      s.setAld n { d with held := heldPlace (tick, seq, raw, detail) d.held }
    else almDecide n raw tick seq detail s

/-- The results of a definition that wait for nothing any more are decided, in order of SEQ; at most `k` (R338). -/
def almFollow : Nat → Nat → State → State
  | 0, _, s => s
  | k + 1, n, s => match s.ald n with
    | none => s
    | some d => match d.held with
      | [] => s
      | (t, q, r, x) :: rest =>
        if earlierOpen s d q then s else almFollow k n (almDecide n r t q x (s.setAld n { d with held := rest }))

/-- The definitions of a zone go on with the results that they hold. -/
def almRelease (zone : Nat) (s : State) : State :=
  s.detect.alarms.foldl (fun s x => if x.2.zone = zone then almFollow x.2.held.length x.1 s else s) s

/-- Every definition of a zone for which `f` gives a raw result takes it, in ascending number. -/
def almDecideAll (zone : Nat) (tick : Stamp) (seq : Nat) (f : AlmDef → Option (Raw × List Byte)) (s : State) : State :=
  almRelease zone (s.detect.alarms.foldl (fun s x =>
    if x.2.zone = zone then
      match f x.2 with
      | some (raw, detail) => almTake x.1 raw tick seq detail s
      | none => s
    else s) s)

/-- Definitions enter ARMING (R340): those that `f` picks; one that a table fault has disabled stays so until it is written
(R526). -/
def almArm (f : AlmDef → Bool) (s : State) : State :=
  updatePins { s with detect := { s.detect with alarms := tabMap (fun _ (d : AlmDef) =>
    if f d && d.state != .disabled then { d with state := .arming, count := 0, lastTick := none, held := [] } else d) s.detect.alarms } }

/-- The device leaves ACTIVE and STANDBY: every definition's state is lost (R340). -/
def almLose (s : State) : State :=
  let lose (d : AlmDef) : AlmDef :=
    { d with state := if d.state = .disabled then .disabled else .arming, count := 0, lastTick := none, held := [], event := none, nextRepeat := [], mirrored := none, rawHist := [] }
  { s with detect := { s.detect with alarms := tabMap (fun _ d => lose d) s.detect.alarms } }

/-! ### Tests and acknowledgement (R339, R344) -/

/-- A test of a definition ends: the state shown is its own state again (R344, R348). -/
def testStop (n : Nat) (s : State) : State :=
  match s.ald n with
  | none => s
  | some d =>
    if d.testEnd.isNone then s
    else
      let s1 := s.setAld n { d with testEnd := none }
      let r1 := d.lastTick.getD (0, 0, [])
      let t := r1.1
      let q := r1.2.1
      let x := r1.2.2
      updatePins (if d.state.isRaised then s1 else almEvent n 2 true t q x s1)

/-- A test starts, or runs on for a new time (R344, R348). -/
def testStart (n ms : Nat) (s : State) : State :=
  match s.ald n with
  | none => s
  | some d =>
    let s1 := s.setAld n { d with testEnd := some (s.now + ms * 1000000000) }
    let r1 := d.lastTick.getD (0, 0, [])
    let t := r1.1
    let q := r1.2.1
    let x := r1.2.2
    updatePins (if d.shown then s1 else almEvent n 1 true t q x s1)

/-- LATCHED moves to IDLE at once (R339). -/
def almAck (n : Nat) (s : State) : Nat × State :=
  match s.ald n with
  | none => (0, s)
  | some d =>
    if d.state ≠ .latched then (0, s)
    else
      let s1 := s.setAld n { almCount d .idle with state := .idle, count := 0 }
      let r1 := d.lastTick.getD (0, 0, [])
      let t := r1.1
      let q := r1.2.1
      let x := r1.2.2
      let s2 := match almMove d .idle with
        | some type => almEvent n type false t q x s1
        | none => s1
      (1, updatePins s2)

/-! ### The coherency unit (R317 to R326) -/

/-- The settings of a zone. -/
def State.coh (s : State) (z : Nat) : CohZone := tabGet {} z s.detect.coh
def State.setCoh (s : State) (z : Nat) (x : CohZone) : State := { s with detect := { s.detect with coh := tabSet z x s.detect.coh } }

/-- The tables and settings as an evaluation of the zone takes them when its assembly starts (R326). -/
def cohInput (s : State) (z : Nat) : CohInput :=
  let x := s.coh z
  let vs := (List.range x.vertexCount).map fun i => (x.firstVertex + i, tabGet? (x.firstVertex + i) s.detect.vertices)
  { zone := x
    vertices := vs
    phasors := vs.map fun v => (v.1, ((v.2.bind fun y => s.memberCounts y.ref).map (·.1)).getD 0)
    edges := (s.detect.edges.filter fun e => decide (x.firstEdge ≤ e.1) && decide (e.1 < x.firstEdge + x.edgeCount)).map (·.2) }

/-- The record and slot behind a vertex, when it is lit; the phasor count is that of the stream's accepted configuration when
the assembly started (R321, R326). -/
def litVertex (i : CohInput) (c : Sealed) (v : Nat) : Option (Vertex × Slot × FrameRecord) :=
  match (i.vertices.find? fun x => x.1 = v).bind (·.2) with
  | none => none
  | some x =>
    match slotOf c x.ref with
    | none => none
    | some sl =>
      match liveRecord sl with
      | none => none
      | some f => if decide (x.phasor < tabGet 0 v i.phasors) && hasPhasor f x.phasor && !(i.zone.flaggedDark && statFlagged f.stat) then some (x, sl, f) else none

/-- The results of an edge (R322). -/
inductive EdgeResult where
  | unknown | coherent | open_
  deriving DecidableEq, Repr

/-- FREQ of a slot is present. -/
def hasFreq (f : FrameRecord) : Bool := !f.absent.getLsbD 52

/-- An edge on a tick (R322). -/
def edgeResult (i : CohInput) (c : Sealed) (e : Edge) : EdgeResult :=
  match litVertex i c e.a, litVertex i c e.b with
  | some (x, _, fx), some (y, _, fy) =>
    if e.freqTest && !(hasFreq fx && hasFreq fy) then .unknown
    else
      let d := f32Wrap (f32Sub (f32Sub (phAng fx x.phasor) (phAng fy y.phasor)) e.angleOffset)
      if f32Le (f32Abs d) e.angleLimit && (!e.freqTest || f32Le (f32Abs (f32Sub (slotFreq fx) (slotFreq fy))) e.freqLimit)
      then .coherent else .open_
  | _, _ => .unknown

/-- An edge joins its vertices (R322). -/
def edgeJoins (i : CohInput) (c : Sealed) (e : Edge) : Bool :=
  match edgeResult i c e with
  | .coherent => true
  | .unknown => !i.zone.unknownOpen
  | .open_ => false

/-- The label of a vertex in a labelling. -/
def labelOf (ls : List (Nat × Nat)) (v : Nat) : Nat := ((ls.find? fun x => x.1 = v).map (·.2)).getD v

/-- Two sets become one, with the lower label (R323). -/
def unionLabels (a b : Nat) (ls : List (Nat × Nat)) : List (Nat × Nat) :=
  let la := labelOf ls a
  let lb := labelOf ls b
  ls.map fun x => if x.2 = la ∨ x.2 = lb then (x.1, min la lb) else x

/-- Vertices with the lowest vertex number of their component (R323). -/
def components (i : CohInput) (c : Sealed) : List (Nat × Nat) :=
  (i.edges.filter (edgeJoins i c)).foldl (fun ls e => unionLabels e.a e.b ls) (i.vertices.map fun x => (x.1, x.1))

/-- The island result (R324). -/
def cohEval (i : CohInput) (c : Sealed) : CohResult :=
  let ls := components i c
  let lit := fun v => (litVertex i c v).isSome
  let sizes := (ls.filter fun x => x.1 = x.2).map fun x => (x.2, (ls.filter fun y => y.2 = x.2 && lit y.1).length)
  let comps := sizes.filter fun x => decide (0 < x.2)
  let main := match i.zone.reference with
    | some r => if lit r then some (labelOf ls r) else biggest comps
    | none => biggest comps
  let isl := comps.filter fun x => some x.1 ≠ main && decide (i.zone.minIsland ≤ x.2)
  { seq := c.seq, instant := c.instant, lit := (ls.filter fun x => lit x.1).length, components := comps.length,
    islands := isl.length, islanded := isl.foldl (fun n x => n + x.2) 0, mainLabel := main.getD 0xFFFF
    labels := ls.map fun x => if lit x.1 then x.2 else 0xFFFF }
where
  /-- the label of the greatest size, the lower of equal ones -/
  biggest (cs : List (Nat × Nat)) : Option Nat :=
    (cs.foldl (fun b x => match b with | some y => if y.2 < x.2 then some x else some y | none => some x) none).map (·.1)

/-- FCLK of the coherency unit for a zone (R60, R325). -/
def cohCycles (x : CohZone) : Nat := if x.enable then 32 + 3 * cdiv x.edgeCount 16 else 0

/-- The tables that the evaluation of a constellation uses. -/
def State.cohInputOf (s : State) (c : Sealed) : CohInput :=
  ((s.detect.cohInputs.find? fun x => x.1 = c.zone ∧ x.2.1 = c.tick).map (·.2.2)).getD (cohInput s c.zone)

/-- The assembly of a revision 0 starts: its tables are held for its evaluation (R326). -/
def cohHold (z tick : Nat) (s : State) : State :=
  { s with detect := { s.detect with
    cohInputs := (s.detect.cohInputs.filter fun x => !(x.1 = z && x.2.1 = tick)) ++ [(z, tick, cohInput s z)] } }

/-- The tables held for an evaluation are given up. -/
def cohFree (c : Sealed) (s : State) : State :=
  { s with detect := { s.detect with cohInputs := s.detect.cohInputs.filter fun x => !(x.1 = c.zone && x.2.1 = c.tick) } }

/-- The coherency unit, if free, takes the next constellation (R46). -/
def cohTake (s : State) : State :=
  match s.align.coh, s.align.cohQueue with
  | none, c :: rest =>
    { s with align := { s.align with cohQueue := rest, coh := some (c, s.now + cohCycles (s.cohInputOf c).zone * 1250) } }
  | _, _ => s

/-- DETAIL of an ISLAND definition (R347). -/
def islandDetail (r : CohResult) : List Byte :=
  be 2 r.islands ++ be 2 r.islanded ++ be 2 r.lit ++ be 2 r.components ++ be 2 r.mainLabel

/-- ISLAND definitions of a zone that are RAISED. -/
def islandsRaised (s : State) (z : Nat) : List Nat :=
  (s.detect.alarms.filter fun x => x.2.zone = z && (match x.2.source with | .island => true | _ => false) && x.2.state = .raised).map (·.1)

/-- The coherency unit completes a constellation (R324, R326, R335). -/
def cohDone (c : Sealed) (s : State) : State :=
  let r := cohEval (s.cohInputOf c) c
  let x := s.coh c.zone
  let s1 := s.setCoh c.zone { x with latest := some r, cEvals := inc x.cEvals, cIsland := if 1 ≤ r.islands then inc x.cIsland else x.cIsland }
  let before := (s1.detect.alarms.filter fun a => a.2.state = .idle ∨ a.2.state = .pickup).map (·.1)
  let s2 := almDecideAll c.zone c.instant c.seq (fun d => match d.source with
    | .island => some (if 1 ≤ r.islands then .yes else .no, islandDetail r)
    | _ => none) s1
  let s3 : State := if (islandsRaised s2 c.zone).any before.contains
    then s2.setCoh c.zone { s2.coh c.zone with atRaise := some r } else s2
  cohTake (cohFree c (almRelease c.zone { s3 with align := { s3.align with coh := none } }))

/-! ### The band-energy monitor (R327 to R333) -/

/-- The default bands (R329): 0.01, 0.1, 0.8, 2.0, 4.0, 8.0 and 14.0 Hz. -/
def defaultBands : List Band :=
  [(0.01, 0.1), (0.1, 0.8), (0.8, 2), (2, 4), (4, 8), (8, 14)].map fun (x : Rat × Rat) => { enable := true, fLo := ratF32 x.1, fHi := ratF32 x.2 }

/-- The band settings of a zone, and its windows (R329, R330). -/
def State.osc (s : State) (z : Nat) : OscZone := tabGet {} z s.detect.osc
def OscZone.bandList (o : OscZone) : List Band := o.bands.getD defaultBands
def OscZone.peakTicks (o : OscZone) (rate : Nat) : Nat := o.wPk.getD rate
def OscZone.rmsTicks (o : OscZone) (rate : Nat) : Nat := o.wRms.getD (min (5 * rate) 4096)

/-- A band produces results (R329); the lower bound is the fp32 value nearest 0.01. -/
def bandActive (rate : Nat) (b : Band) : Bool :=
  b.enable && f32Finite b.fHi && f32Le (ratF32 (1 / 100)) b.fLo && decide (5 * f32Rat b.fHi < 2 * (rate : Rat))

/-- A signal after a reset (R331). -/
def Signal.zero (g : Signal) : Signal := { g with u := none, d := none, fill := 0, age := 0, bands := List.replicate 6 {} }

/-- Signals that `f` picks are reset (R331). -/
def oscReset (f : Signal → Bool) (s : State) : State :=
  { s with detect := { s.detect with signals := tabMap (fun _ g => if f g then g.zero else g) s.detect.signals } }

/-- The live record of a stream in a constellation, with its slot. -/
def liveOf (c : Sealed) (r : StreamRef) : Option (Slot × FrameRecord) :=
  (slotOf c r).bind fun x => (liveRecord x).map fun f => (x, f)

/-- The angle difference that an ANGLE_DIFF signal reads (R328). -/
def angleDiff (g : Signal) (c : Sealed) : Option F32 :=
  match liveOf c g.ref, liveOf c g.ref2 with
  | some (_, f), some (_, h) => if hasPhasor f g.item && hasPhasor h g.item2 then some (f32Sub (phAng f g.item) (phAng h g.item2)) else none
  | _, _ => none

/-- The value that any other signal reads (R328). -/
def signalValue (g : Signal) (c : Sealed) : Option F32 :=
  match liveOf c g.ref with
  | none => none
  | some (_, f) =>
    match g.type with
    | 0 => if hasPhasor f g.item then some (phMag f g.item) else none
    | 2 => if hasFreq f then some (slotFreq f) else none
    | 3 => if !f.absent.getLsbD 53 then some (slotDfreq f) else none
    | 4 => if hasAnalog f g.item then some (slotAnalog f g.item) else none
    | _ => none

/-- The input of a signal on a tick, and the signal with what it keeps (R328). -/
def signalInput (g : Signal) (c : Sealed) : Option F64 × Signal :=
  if g.type = 1 then
    match angleDiff g c with
    | none => (none, g)
    | some d =>
      let u := match g.u, g.d with
        | some u, some d0 => f64Add u (f32To64 (f32Wrap (f32Sub d d0)))
        | _, _ => f32To64 d
      (some u, { g with d := some d })
  else match signalValue g c with
    | some v => (some (f32To64 v), g)
    | none => (none, g)

/-- The coefficients of the two second-order sections of a band at the zone's rate F: b₀ of a numerator b₀ (1 − z⁻²), and a₁,
a₂. The Butterworth low-pass of second order goes to a band-pass of fourth, whose poles pair into two sections; with
S = (1 − z⁻¹) / (1 + z⁻¹) and the edges at tan(π f / F), a section is B S / (S² + k √W S + m W) (R329; log entry 5). -/
def bandSections (rate : Nat) (band : Band) : List (F64 × F64 × F64) :=
  let lo := tanQ (piQ * f32Rat band.fLo / (rate : Nat))
  let hi := tanQ (piQ * f32Rat band.fHi / (rate : Nat))
  let B := hi - lo
  let W := lo * hi
  let b2 := B * B / W
  let t2 := (4 + b2 + rootQ (16 + b2 * b2)) / 2
  let t := rootQ t2
  let k := rootQ (2 * b2 / t2)
  let r := (t + (if 4 < t2 then rootQ (t2 - 4) else 0)) / 2
  let root := rootQ W
  [r, 1 / r].map fun r =>
    let a := k * r * root
    let m := r * r * W
    let d := 1 + a + m
    (ratF64 (B / d), ratF64 (2 * (m - 1) / d), ratF64 ((1 - a + m) / d))

/-- One step of a section b₀ (1 − z⁻²) / (1 + a₁ z⁻¹ + a₂ z⁻²) in fp64, with its two registers: the output, and they (R329;
log entry 5). -/
def sectionStep (c : F64 × F64 × F64) (w : F64 × F64) (x : F64) : F64 × F64 × F64 :=
  let p := f64Mul c.1 x
  let y := f64Add p w.1
  (y, f64Sub w.2 (f64Mul c.2.1 y), f64Sub (f64NegOf p) (f64Mul c.2.2 y))

/-- One step of the filter, section after section: the output, and the registers (R329). -/
def filterStep : List (F64 × F64 × F64) → List F64 → F64 → F64 × List F64
  | [], _, x => (x, [])
  | c :: cs, ws, x =>
    let r := sectionStep c (ws.getD 0 0, ws.getD 1 0) x
    let rest := filterStep cs (ws.drop 2) r.1
    (rest.1, r.2.1 :: r.2.2 :: rest.2)

/-- One tick of one band: filter, windows, envelope (R329, R330). -/
def bandTick (o : OscZone) (rate : Nat) (b : Band) (st : BandSt) (u : F64) : BandSt :=
  if !bandActive rate b then st
  else
    let r1 := filterStep (bandSections rate b) st.filter u
    let y := r1.1
    { filter := r1.2
      ys := (y :: st.ys).take (max (o.peakTicks rate) (o.rmsTicks rate))
      env := envelopeF64 rate o.attack o.release (f64Abs y) st.env }

/-- One tick of a signal; whether it was reset under the fill limit, as every unavailable tick past the limit resets it
(R328, R331, R333; log entry 23). -/
def signalTick (o : OscZone) (rate : Nat) (c : Sealed) (g : Signal) : Signal × Bool :=
  let run (g : Signal) : Signal :=
    match g.u with
    | some u => { g with bands := (o.bandList.zip g.bands).map fun (b, st) => bandTick o rate b st u, age := g.age + 1, seq := c.seq }
    | none => { g with age := g.age + 1, seq := c.seq }
  match signalInput g c with
  | (some u, g) => (run { g with u := some u, fill := 0 }, false)
  | (none, g) =>
    if o.fillLimit < g.fill + 1 then ({ g.zero with fill := g.fill, seq := c.seq }, true)
    else (run { g with fill := g.fill + 1 }, false)

/-- Ticks after a reset from which a band's results are valid (R331). -/
def bandSettle (rate : Nat) (b : Band) : Nat := ((2 * (rate : Rat)) / f32Rat b.fLo).ceil.toNat

/-- A result of a band and whether it is valid: detector 0 PEAK, 1 RMS, 2 ENVELOPE (R330, R331). -/
def bandResult (o : OscZone) (rate : Nat) (g : Signal) (b det : Nat) : F64 × Bool :=
  match o.bandList[b]?, g.bands[b]? with
  | some bd, some st =>
    let wait := if det = 0 then o.peakTicks rate else if det = 1 then o.rmsTicks rate else 0
    let v : F64 :=
      if det = 0 then (st.ys.take (o.peakTicks rate)).foldl (fun m y => f64Max m (f64Abs y)) 0
      else if det = 1 then rmsF64 (st.ys.take (o.rmsTicks rate)) else st.env
    (v, bandActive rate bd && decide (bandSettle rate bd + wait ≤ g.age))
  | _, _ => (0, false)

/-- THR_ON of a group, band and detector; +∞ where never set (R332). -/
def State.threshold (s : State) (group b det : Nat) : F32 :=
  ((tabGet? group s.detect.thresholds).bind fun l => l[3 * b + det]?).getD 0x7F800000#32

/-- The threshold that an OSCILLATION definition compares against (R337). -/
def oscLevel (s : State) (d : AlmDef) (group b det : Nat) (hyst : F32) : F64 :=
  let t := f32To64 (s.threshold group b det)
  if d.state = .raised ∨ d.state = .dropout ∨ d.state = .latched then f64Mul (f32To64 hyst) t else t

/-- A result reaches a level that is not +∞ (R332). -/
def reaches (v level : F64) : Bool := level != BitVec.ofNat 64 f64Inf && f64Le level v

/-- The raw result and DETAIL of an OSCILLATION definition (R335, R347). -/
def oscRaw (s : State) (d : AlmDef) (b group det minSig : Nat) (hyst : F32) : Raw × List Byte :=
  let o := s.osc d.zone
  let rate := (s.zone d.zone).rate
  let active := match o.bandList[b]? with | some bd => bandActive rate bd | none => false
  let rs := (s.detect.signals.filter fun x => x.2.zone = d.zone && x.2.group = group).map fun x => (x.1, bandResult o rate x.2 b det)
  let valid := rs.filter fun x => x.2.2
  let level := oscLevel s d group b det hyst
  let above := (valid.filter fun x => reaches x.2.1 level).length
  let top := valid.foldl (fun (m : Option (Nat × F64)) x => match m with
    | some y => if f64Lt y.2 x.2.1 then some (x.1, x.2.1) else some y
    | none => some (x.1, x.2.1)) none
  let raw : Raw := if minSig ≤ above then .yes else if !active || decide (valid.length < minSig) then .undecided else .no
  let r1 := top.getD (0, 0)
  let n := r1.1
  let v := r1.2
  (raw, be 1 b ++ be 1 det ++ be 2 above ++ be 4 (f64To32 v).toNat ++ be 2 n)

/-- OSCILLATION definitions of a zone are decided. -/
def oscDecide (z : Nat) (tick : Stamp) (seq : Nat) (s : State) : State :=
  almDecideAll z tick seq (fun d => match d.source with
    | .oscillation b g det m h => some (oscRaw s d b g det m h)
    | _ => none) s

/-- Some signal entry names the zone (R333). -/
def State.oscZone (s : State) (z : Nat) : Bool := s.detect.signals.any fun x => x.2.zone = z

/-- The band-energy monitor, if free, takes the next constellation: 128 FCLK (R46, R333). -/
def bandTake (s : State) : State :=
  match s.align.band, s.align.bandQueue with
  | none, c :: rest => { s with align := { s.align with bandQueue := rest, band := some (c, s.now + 160000) } }
  | _, _ => s

/-- The band-energy monitor completes a zone's update (R330, R335). -/
def bandDone (c : Sealed) (s : State) : State :=
  let o := s.osc c.zone
  let upd : List (Nat × Signal × Bool) :=
    s.detect.signals.map fun x => (x.1, if x.2.zone = c.zone then signalTick o c.rate c x.2 else (x.2, false))
  let s1 := { s with detect := { s.detect with
    signals := upd.map fun (x : Nat × Signal × Bool) => (x.1, x.2.1)
    cSignalResets := incBy s.detect.cSignalResets (upd.filter fun (x : Nat × Signal × Bool) => x.2.2).length } }
  let z := s1.coh c.zone
  let s2 := oscDecide c.zone c.instant c.seq (s1.setCoh c.zone { z with cOsc := inc z.cOsc })
  bandTake (almRelease c.zone { s2 with align := { s2.align with band := none } })

/-! ### Decisions on the edge at which assembly completes (R335) -/

/-- PRESENT_CNT + HELD_CNT of a constellation. -/
def presentHeld (c : Sealed) : Nat := countState .present c.slots + countState .held c.slots

/-- A revision 0 goes to the detection units; DATA_LOSS definitions, and those whose unit does not take the zone, are
decided now (R46, R231, R325, R333, R335). -/
def detectAssembled (c : Sealed) (s : State) : State :=
  let coh := (s.cohInputOf c).zone.enable
  let osc := s.oscZone c.zone
  let s1 := almDecideAll c.zone c.instant c.seq (fun d => match d.source with
    | .dataLoss m => some (if presentHeld c < m then .yes else .no, be 2 (presentHeld c) ++ be 2 c.slots.length)
    | .island => if coh then none else some (.undecided, [])
    | .oscillation b g det m h => if osc then none else some (oscRaw s d b g det m h)
    | .kernel .. => none) s
  let s2 := if coh then cohTake { s1 with align := { s1.align with cohQueue := s1.align.cohQueue ++ [c] } } else cohFree c s1
  if osc then bandTake { s2 with align := { s2.align with bandQueue := s2.align.bandQueue ++ [c] } } else s2

end Sys2Proof.Machine
end

