-- ==== Sys2Proof/Machine/Results.lean ====
section
/-! DEFINITION. The results of the kernels: what an item reads, and its outputs, body and state copy (R373, R374, R377,
R381, R382). -/

namespace Sys2Proof.Machine

/-! ### What an item reads (R373, R377) -/

/-- The value that an entry names, when it is there: magnitude and angle of a phasor, another value and 0 (R375, R377). -/
def entryPair (c : Sealed) (e : ParamEntry) : Option (F32 × F32) :=
  match liveOf c e.ref with
  | none => none
  | some (_, f) =>
    if e.item < 0x20 then (if hasPhasor f e.item then some (phMag f e.item, phAng f e.item) else none)
    else if e.item < 0x30 then (if hasAnalog f (e.item - 0x20) then some (slotAnalog f (e.item - 0x20), 0) else none)
    else if e.item = 0x40 then (if hasFreq f then some (slotFreq f, 0) else none)
    else if e.item = 0x41 then (if !f.absent.getLsbD 53 then some (slotDfreq f, 0) else none)
    else none

/-- The outputs of AFTER_FLOW's slot for the item's tick, none for one that is not posted (R365, R373). -/
def afterOutputs (s : State) (i : Item) : List (Option F32) :=
  match i.after.bind fun f => (tabGet? (i.seq % 4) (tabGet {} f s.kernel.flows).ring) with
  | some r => if r.seq = i.seq then (List.range 4).map fun o => if r.posted.getLsbD o then r.outs[o]? else none else []
  | none => []

/-- What an item reads as it arrives in its engine (R373, R374, R376). -/
def kernelInput (s : State) (i : Item) : Config.KernelInput :=
  { kernel := i.kernel, first := i.first, count := i.entries.length, rate := (s.zone i.zone).rate, table := i.content.bytes
    values := i.content.entries.map fun e => (s.sealedOf i.zone i.tick 0).bind fun c => entryPair c e
    state := if i.fresh then [] else tabGet [] i.part (tabGet {} i.flow s.kernel.flows).state
    after := afterOutputs s i }

/-! ### Outputs and bodies (R377, R378) -/

/-- 1.0 or 0.0 (R377). -/
def f32Flag (b : Bool) : F32 := if b then 0x3F800000#32 else 0

/-- A body row of four values. -/
def bodyRow (vs : List F32) : List Byte := padTo 16 (vs.flatMap fun v => be 4 v.toNat)

/-- The outputs that a kernel of the catalogue posts (R381). -/
def kernelPosts (kernel : Nat) : BitVec 4 := if kernel = 20 then 0x7#4 else if kernel = 23 then 0x3#4 else 0xF#4

/-- The extreme of the values that are there, the first of equal ones, with its place. -/
def extreme (least : Bool) (vs : List (Option F32)) : Option (F32 × Nat) :=
  vs.zipIdx.foldl (fun (b : Option (F32 × Nat)) x => match b, x.1 with
    | some y, some v => if (if least then f32Lt v y.1 else f32Lt y.1 v) then some (v, x.2) else some y
    | none, some v => some (v, x.2)
    | b, none => b) none

/-- Outputs of the shape: extreme value, its entry, the count of values that are over, a flag for any; without a value the
first two are not posted (R377, R381). -/
def extremeOut (least : Bool) (first : Nat) (vs : List (Option F32)) (beyond : F32 → Nat → Bool) : BitVec 4 × List F32 :=
  let top := extreme least vs
  let n := (vs.zipIdx.filter fun x => match x.1 with | some v => beyond v x.2 | none => false).length
  (if top.isSome then 0xF#4 else 0xC#4,
   [(top.getD (0, 0)).1, intF32 (first + (top.getD (0, 0)).2 : Nat), intF32 (n : Nat), f32Flag (decide (0 < n))])

/-- A body of one value per entry, NaN for one that is not there (R377). -/
def oneColumn (vs : List (Option F32)) : List Byte := vs.flatMap fun v => bodyRow [v.getD f32Nan]

/-- The values of the part's entries. -/
def partValues (x : Config.KernelInput) : List (Option (F32 × F32)) := (x.values.drop x.first).take x.count

/-! ### The kernels (R381, R382) -/

/-- A scalar of the table. -/
def Item.scalar (i : Item) (n : Nat) : F32 := i.content.scalars.getD n 0

/-- VOLT_DEV: each magnitude over its nominal value (R381, R382). -/
def voltDev (i : Item) (x : Config.KernelInput) : KernelOut :=
  let pus := (i.entries.zip (partValues x)).map fun (e, v) => v.map fun v => f32Div v.1 e.weight
  let r := extremeOut true i.first pus fun v _ => f32Lt v (i.scalar 0) || f32Lt (i.scalar 1) v
  { posted := r.1, out := r.2, body := oneColumn pus, state := [] }

/-- STATS. With several parts the rows of the groups lie in the bodies of the first parts, and what they show of the entries
of the other parts is open (R381; log entry 14). -/
def groupStats (i : Item) (x : Config.KernelInput) : KernelOut :=
  let vs : List (Nat × Option F32) := (i.entries.zip (partValues x)).map fun (e, v) => (e.role, v.map (·.1))
  let used := (vs.filter fun v => v.2.isSome).length
  let row (g : Nat) : List Byte :=
    let xs := vs.filterMap fun v => if v.1 = g then v.2 else none
    match xs with
    | [] => bodyRow [f32Nan, f32Nan, f32Nan, 0]
    | y :: t => bodyRow [t.foldl (fun m z => if f32Lt z m then z else m) y, t.foldl f32Max y, meanF32 xs, intF32 (xs.length : Nat)]
  let groups := min 64 (f32Rat (i.scalar 0)).floor.toNat
  let rows := if i.parts = 1 then (List.range groups).flatMap row
    else (List.range (min vs.length (groups - i.first))).flatMap fun n => bodyRow ((List.range 4).map fun c => (Config.kernelBody x n c).getD f32Nan)
  { posted := 3, out := [intF32 (used : Nat), intF32 ((vs.length - used : Nat) : Nat), 0, 0], body := padTo (16 * vs.length) rows, state := [] }

/-- An entry names a phasor. -/
def ParamEntry.isPhasor (e : ParamEntry) : Bool := decide (e.item < 0x20)

/-- Δθ of the pair that an entry makes with its LINK (R381). -/
def pairAngle (i : Item) (x : Config.KernelInput) (e : ParamEntry) (v : Option (F32 × F32)) : Option F32 :=
  match v, i.content.entries[e.link]?, (x.values[e.link]?).join with
  | some a, some f, some b => if e.isPhasor && f.isPhasor then some (f32Wrap (f32Sub a.2 b.2)) else none
  | _, _, _ => none

/-- The limit of ANGLE_DIFF for the pair of an entry: the scalar that its second entry names by ROLE 1 and LINK, else the
default limit. No rule says how ROLE 1 ties a limit to a pair (R382; DESIGN CHOICE, log entry 14). -/
def pairLimit (i : Item) (e : ParamEntry) : F32 :=
  match i.content.entries[e.link]? with
  | some f => if f.role = 1 then i.scalar f.link else i.scalar 0
  | none => i.scalar 0

/-- ANGLE_DIFF: an entry of ROLE 1 gives a limit and makes no pair of its own (R381, R382; log entry 14). -/
def angleDiffs (i : Item) (x : Config.KernelInput) : KernelOut :=
  let es := i.entries.zip (partValues x)
  let ds := es.map fun (e, v) => if e.role = 1 then none else pairAngle i x e v
  let off := (es.zip ds).map fun (e, d) => d.map fun d => f32Abs (f32Sub d e.1.weight)
  let r := extremeOut false i.first off fun v n => f32Lt ((i.entries[n]?).elim (i.scalar 0) (pairLimit i)) v
  { posted := r.1, out := r.2, body := oneColumn ds, state := [] }

/-- The angle that the state copy keeps of entry `n` of the part: 8 bytes, the angle and whether it was there (R382). -/
def keptAngle (state : List Byte) (n : Nat) : Option F32 :=
  if fld state (8 * n + 4) 4 = 1 then some (BitVec.ofNat 32 (fld state (8 * n) 4)) else none

/-- PHASE_JUMP: the step of each angle since the item before (R374, R381, R382; log entry 14). -/
def phaseJumps (i : Item) (x : Config.KernelInput) : KernelOut :=
  let angles := (i.entries.zip (partValues x)).map fun (e, v) => if e.isPhasor then v.map (·.2) else none
  let steps := angles.zipIdx.map fun (a, n) => match a, keptAngle x.state n with
    | some a, some b => some (f32Wrap (f32Sub a b))
    | _, _ => none
  let r := extremeOut false i.first (steps.map fun d => d.map f32Abs) fun v _ => f32Lt (i.scalar 0) v
  { posted := r.1, out := r.2, body := oneColumn steps
    state := angles.flatMap fun a => be 4 (a.getD 0).toNat ++ be 4 (if a.isSome then 1 else 0) }

/-! ### Kernels whose values the catalogue does not give by a formula (R377, R381; log entry 14)

A value of an entry and an output that no formula gives are open functions of what the item reads; an entry that is left out
has no value, and without any entry no open output is posted. What the catalogue derives from them is computed: extremes and
their entries, counts against a limit, flags. -/

/-- The open values of the part's entries in a column; none for an entry that is left out. -/
def openColumn (x : Config.KernelInput) (c : Nat) : List (Option F32) :=
  (partValues x).zipIdx.map fun (v, n) => if v.isSome then Config.kernelBody x n c else none

/-- An open output. -/
def openOut (x : Config.KernelInput) (o : Nat) : Option F32 := if (partValues x).any (·.isSome) then Config.kernelOut x o else none

/-- The body of open columns, one row per entry. -/
def openBody (x : Config.KernelInput) (columns : Nat) : List Byte :=
  (List.range (partValues x).length).flatMap fun n => bodyRow ((List.range columns).map fun c => ((openColumn x c).getD n none).getD f32Nan)

/-- A flag that an output decides; not posted without it. -/
def flagOf (v : Option F32) (p : F32 → Bool) : Option F32 := v.map fun v => f32Flag (p v)

/-- A result of these kernels: each output with its value, or none where it is not posted. -/
def openResult (x : Config.KernelInput) (outs : List (Option F32)) (body : List Byte) : KernelOut :=
  { posted := BitVec.ofNat 4 (bitsOf ((outs.take 4).map (·.isSome))), out := (List.range 4).map fun o => ((outs[o]?).join).getD 0
    body, state := Config.kernelState x }

/-- A result in the shape of `extremeOut`. -/
def extremeResult (x : Config.KernelInput) (r : BitVec 4 × List F32) (body : List Byte) : KernelOut :=
  { posted := r.1, out := r.2, body, state := Config.kernelState x }

/-- MODE_RLS, RINGDOWN_MP and MODE_YW: frequency, damping, amplitude, and the flag that the damping is below scalar `n`. -/
def modeMeter (n : Nat) (i : Item) (x : Config.KernelInput) : KernelOut :=
  openResult x [openOut x 0, openOut x 1, openOut x 2, flagOf (openOut x 1) fun v => f32Lt v (i.scalar n)] (openBody x 2)

/-- FO_DEF: the largest flow of the body and its entry. -/
def sourceLocator (i : Item) (x : Config.KernelInput) : KernelOut :=
  let top := extreme false (openColumn x 0)
  openResult x [top.map fun t => intF32 (i.first + t.2 : Nat), top.map (·.1), openOut x 2, flagOf (openOut x 3) fun v => f32Mag v != 0] (openBody x 1)

/-- LSE: residuals, and the states in the first rows of the body. -/
def stateEstimator (i : Item) (x : Config.KernelInput) : KernelOut :=
  let rs := openColumn x 0
  let states := (f32Rat (i.scalar 1)).floor.toNat
  extremeResult x (extremeOut false i.first rs fun v _ => f32Lt (i.scalar 0) v)
    (rs.zipIdx.flatMap fun (r, n) => bodyRow (r.getD f32Nan :: if n < states then [1, 2].map fun c => (Config.kernelBody x n c).getD f32Nan else []))

/-- AREA_ROCOF: the rates of the areas that have an entry, in the first rows of the body. -/
def areaRocof (i : Item) (x : Config.KernelInput) : KernelOut :=
  let live (a : Nat) : Bool := (i.entries.zip (partValues x)).any fun (e, v) => e.role = a && v.isSome
  let rs := (List.range (f32Rat (i.scalar 0)).floor.toNat).map fun a => if live a then Config.kernelBody x a 0 else none
  let top := extreme false (rs.map fun v => v.map f32Abs)
  openResult x [top.map (·.1), top.map fun t => intF32 (t.2 : Nat), openOut x 2, flagOf (top.map (·.1)) fun v => f32Lt (i.scalar 1) v]
    (padTo (16 * i.entries.length) (oneColumn rs))

/-- VSI: the L-indices against the limit. -/
def voltageStability (i : Item) (x : Config.KernelInput) : KernelOut :=
  extremeResult x (extremeOut false i.first (openColumn x 0) fun v _ => f32Lt (i.scalar 0) v) (openBody x 1)

/-- FO_DETECT: the signals whose SNR is above the threshold. -/
def foDetect (i : Item) (x : Config.KernelInput) : KernelOut :=
  let n := ((openColumn x 1).filter fun v => v.any fun v => f32Lt (i.scalar 2) v).length
  openResult x [openOut x 0, openOut x 1, some (intF32 (n : Nat)), some (f32Flag (decide (0 < n)))] (openBody x 2)

/-- MODE_SHAPE: the entry of the largest amplitude of the body. -/
def modeShape (i : Item) (x : Config.KernelInput) : KernelOut :=
  openResult x [openOut x 0, (extreme false (openColumn x 0)).map fun t => intF32 (i.first + t.2 : Nat), openOut x 2,
    flagOf (openOut x 0) fun v => f32Lt (i.scalar 3) v] (openBody x 2)

/-- DATA_QUALITY: the code of each entry, 0 to 3, and the counts of the codes. -/
def dataQuality (x : Config.KernelInput) : KernelOut :=
  let codes := (openColumn x 0).map fun v => v.map fun v => v.toNat % 4
  let count (k : Nat) : F32 := intF32 ((codes.filter fun c => c == some k).length : Nat)
  openResult x [some (count 1), some (count 2), some (count 3), some (f32Flag (codes.any fun c => c.any fun c => c != 0))]
    (oneColumn (codes.map fun c => c.map fun c => intF32 (c : Nat)))

/-- LINE_PARAM: the relative deviations, a column behind the two of the body, against the limit. -/
def lineParam (i : Item) (x : Config.KernelInput) : KernelOut :=
  extremeResult x (extremeOut false i.first (openColumn x 2) fun v _ => f32Lt (i.scalar 1) v) (openBody x 2)

/-- THEV_EQ: the smallest ratio, the second column of the body, against the limit. -/
def thevenin (i : Item) (x : Config.KernelInput) : KernelOut :=
  extremeResult x (extremeOut true i.first (openColumn x 1) fun v _ => f32Lt v (i.scalar 1)) (openBody x 2)

/-- A part of another, in per cent. -/
def percentOf (a b : F32) : F32 := f32Mul 0x42C80000#32 (f32Div a b)

/-- SEQ_COMP: the positive, negative and zero sequence of each set of three entries, in the row of its first entry, and the
last two in per cent of the first (DESIGN CHOICE: no rule gives the columns and the rows). -/
def sequenceComponents (i : Item) (x : Config.KernelInput) : KernelOut :=
  let first (n : Nat) : Bool := (i.first + n) % 3 == 0 && ((x.values.drop (i.first + n)).take 3).all (·.isSome)
  let col (c : Nat) : List (Option F32) := (List.range x.count).map fun n => if first n then Config.kernelBody x n c else none
  let share (c : Nat) : List (Option F32) := ((col c).zip (col 0)).map fun (v, p) => match v, p with
    | some v, some p => some (percentOf v p)
    | _, _ => none
  let neg := extreme false (share 1)
  let zero := extreme false (share 2)
  let above (v : Option (F32 × Nat)) (n : Nat) : Bool := v.any fun v => f32Lt (i.scalar n) v.1
  openResult x [neg.map (·.1), neg.map fun t => intF32 (i.first + t.2 : Nat), zero.map (·.1),
      if neg.isNone && zero.isNone then none else some (f32Flag (above neg 0 || above zero 1))]
    ((List.range x.count).flatMap fun n => bodyRow (if (i.first + n) % 3 = 0 then (List.range 3).map fun c => ((col c).getD n none).getD f32Nan else []))

/-- LINE_FLOW: P and Q of each line in MW and Mvar, its loading against its limit in MVA, the sum over the lines of ROLE 1. -/
def lineFlow (i : Item) (x : Config.KernelInput) : KernelOut :=
  let lines := (i.entries.zip ((openColumn x 0).zip (openColumn x 1))).map fun (e, p, q) => (e, p, q)
  let loads := lines.map fun (e, p, q) => match p, q with
    | some p, some q => if f32Finite p && f32Finite q then
        some (percentOf (let w := f32Rat p * f32Rat p + f32Rat q * f32Rat q; if w = 0 then 0 else ratF32 (rootQ w)) e.weight) else none
    | _, _ => none
  let top := extreme false loads
  let sum := (lines.filterMap fun (e, p, _) => if e.role = 1 then p else none).foldl f32Add 0
  openResult x [top.map (·.1), top.map fun t => intF32 (i.first + t.2 : Nat), some sum, flagOf (top.map (·.1)) fun v => f32Lt 0x42C80000#32 v]
    (openBody x 2)

/-- SYNC_CHECK: Δθ of each pair, its slip and ΔV; a pair within the three limits is permissive. -/
def syncCheck (i : Item) (x : Config.KernelInput) : KernelOut :=
  let ds := (i.entries.zip (partValues x)).map fun (e, v) => pairAngle i x e v
  let rows := ds.zip ((openColumn x 1).zip (openColumn x 2))
  let ok := rows.map fun (d, slip, dv) => match d, slip, dv with
    | some d, some slip, some dv =>
      if f32Le (f32Abs slip) (i.scalar 0) && f32Le (f32Abs dv) (i.scalar 1) && f32Le (f32Abs d) (i.scalar 2) then some (f32Abs d) else none
    | _, _, _ => none
  extremeResult x (extremeOut true i.first ok fun _ _ => true)
    (rows.flatMap fun (d, slip, dv) => bodyRow [d.getD f32Nan, slip.getD f32Nan, dv.getD f32Nan])

/-- IMBALANCE: the flag that the imbalance is above the limit; the fourth output is not posted. -/
def imbalance (i : Item) (x : Config.KernelInput) : KernelOut :=
  openResult x [openOut x 0, openOut x 1, flagOf (openOut x 0) fun v => f32Lt (i.scalar 1) (f32Abs v)] (openBody x 1)

/-- ANG_SEP: the flag that the time to the limit is below the time limit. -/
def angleSeparation (i : Item) (x : Config.KernelInput) : KernelOut :=
  openResult x [openOut x 0, openOut x 1, openOut x 2, flagOf (openOut x 2) fun v => f32Lt v (i.scalar 1)] (openBody x 1)

/-- INERTIA_EST and EVENT_LOCATE: three open outputs, the flag of an event, one value per entry. -/
def eventEstimate (x : Config.KernelInput) : KernelOut :=
  openResult x [openOut x 0, openOut x 1, openOut x 2, flagOf (openOut x 3) fun v => f32Mag v != 0] (openBody x 1)

/-- COI_FREQ: the frequency weighted by inertia, the deviations from it, the flag; the ROCOF, whose smoothing no rule gives,
and the state stay open (R381, R382; log entry 14). -/
def coiFreq (i : Item) (x : Config.KernelInput) : KernelOut :=
  let vs : List (Option (F32 × F32)) := (i.entries.zip (partValues x)).map fun (e, v) =>
    if e.item = 0x40 && f32Finite e.weight then v.map fun v => (v.1, e.weight) else none
  let used := vs.filterMap fun v => v.filter fun v => f32Finite v.1
  let weight := (used.map fun v => f32Rat v.2).foldl (· + ·) (0 : Rat)
  if weight = 0 then openResult x [] (oneColumn (vs.map fun _ => none))
  else
    let coi := ratF32 ((used.map fun v => f32Rat v.1 * f32Rat v.2).foldl (· + ·) (0 : Rat) / weight)
    let devs := vs.map fun v => v.map fun v => f32Sub v.1 coi
    let top := ((extreme false (devs.map fun d => d.map f32Abs)).map (·.1)).getD 0
    openResult x [some coi, openOut x 1, some top, some (f32Flag (f32Lt (i.scalar 0) top))] (oneColumn devs)

/-- The result of an item, a function of what it reads (R373, R377, R381). -/
def kernelResult (i : Item) (x : Config.KernelInput) : KernelOut :=
  match i.kernel with
  | 1 => modeMeter 4 i x
  | 2 => modeMeter 4 i x
  | 3 => sourceLocator i x
  | 4 => stateEstimator i x
  | 5 => areaRocof i x
  | 6 => angleDiffs i x
  | 7 => voltageStability i x
  | 8 => foDetect i x
  | 9 => modeMeter 5 i x
  | 10 => modeShape i x
  | 11 => coiFreq i x
  | 13 => dataQuality x
  | 14 => lineParam i x
  | 15 => thevenin i x
  | 16 => sequenceComponents i x
  | 17 => lineFlow i x
  | 19 => syncCheck i x
  | 20 => imbalance i x
  | 21 => voltDev i x
  | 22 => phaseJumps i x
  | 23 => groupStats i x
  | 24 => angleSeparation i x
  | _ => eventEstimate x

end Sys2Proof.Machine
end

