-- ==== Sys2Proof/Machine/Kernel.lean ====
section
/-! DEFINITION. The analysis engines and the scheduler: items, dispatch, release, posting, the tick budget
(R37 to R43, R356 to R378, R383). -/

namespace Sys2Proof.Machine

/-! ### Areas of ticks -/

/-- The area of a tick, and changes of it. -/
def State.area (s : State) (z tick : Nat) : Option Area := (s.zone z).areas.find? fun a => a.tick = tick
def modArea (z tick : Nat) (f : Area → Area) (s : State) : State :=
  s.modZone z fun x => { x with areas := x.areas.map fun a => if a.tick = tick then f a else a }

/-- The tick is ANALYSIS_INCOMPLETE: the mark joins every constellation of it (R40, R243). -/
def markIncomplete (z tick : Nat) (s : State) : State :=
  modArea z tick (fun a => { a with incomplete := true, sealed_ := a.sealed_.map fun c => { c with incomplete := true } }) s

/-! ### Items (R360 to R363, R374) -/

/-- The number of areas that a zone's settings need (R223). -/
def kzOf (rate waitUs : Nat) (trigger : Bool) : Nat := if trigger then cdiv ((waitUs + 8000) * rate) 1000000 + 2 else 3

/-- Ticks of a zone with queued items at once (R363). -/
def qzOf (rate waitUs : Nat) (trigger : Bool) : Nat := if trigger then kzOf rate waitUs trigger else 2

/-- The entries of part `p` of `parts` (R361). -/
def partFirst (n parts p : Nat) : Nat := p * n / parts
def partCount (n parts p : Nat) : Nat := partFirst n parts (p + 1) - partFirst n parts p

/-- A flow runs: it is enabled, of the zone, and its table is one of its kernel (R360). -/
def flowTable (s : State) (z : Nat) (f : Flow) : Option ParamTable :=
  if f.enable && f.zone = z then (tabGet? f.table s.kernel.tables).filter fun t => t.kernel = f.kernel else none

/-- The items of a flow on a tick, in ascending part number (R361, R362). -/
def flowItems (z tick : Nat) (instant deadline : Stamp) (n : Nat) (f : Flow) (t : ParamTable) : List Item :=
  (List.range f.parts).map fun p =>
    { kernel := f.kernel, zone := z, flow := n, parts := f.parts, part := p, seq := 0, tick, instant,
      first := partFirst t.entries.length f.parts p, stateReset := p = 0 && f.stateReset, retry := false, deadline,
      after := f.after, fresh := f.stateReset, table := f.table, content := t,
      entries := (t.entries.drop (partFirst t.entries.length f.parts p)).take (partCount t.entries.length f.parts p) }

/-- The assembly of a revision 0 starts: the flows and tables in force are those its items use (R374, R376, R384). -/
def planItems (z tick : Nat) (instant deadline : Stamp) (s : State) : State :=
  let runs : List (Nat × Flow × ParamTable) := s.kernel.flows.filterMap fun x => (flowTable s z x.2).map fun t => (x.1, x.2, t)
  { s with kernel := { s.kernel with
    plan := runs.flatMap fun x => flowItems z tick instant deadline x.1 x.2.1 x.2.2
    flows := runs.foldl (fun (t : Tab Flow) x => tabSet x.1 { x.2.1 with stateReset := false } t) s.kernel.flows } }

/-- The assembly of a revision 0 completes: the items are queued in ascending flow and part (R361). -/
def queueItems (seq : Nat) (s : State) : State :=
  let new : List Item := s.kernel.plan.map fun i => { i with seq }
  let q := s.kernel.queue ++ new
  writeWords 7 (fun i _ => decide (s.kernel.queue.length ≤ i) && decide (i < q.length)) { s with kernel := { s.kernel with
    plan := [], queue := q, peakQueue := max s.kernel.peakQueue q.length, cQueued := incBy s.kernel.cQueued new.length } }

/-- A zone begins ticking: its flows start from empty (R374). -/
def kernelZoneStart (z : Nat) (s : State) : State :=
  { s with kernel := { s.kernel with flows := tabMap (fun _ (f : Flow) => if f.zone = z then { f with stateReset := true } else f) s.kernel.flows } }

/-! ### Dispatch (R364 to R367) -/

/-- Engine `e`, and changes of it. -/
def State.engine (s : State) (e : Nat) : Engine := vget {} s.kernel.engines e
def State.setEngine (s : State) (e : Nat) (x : Engine) : State :=
  { s with kernel := { s.kernel with engines := vset s.kernel.engines e x } }

/-- Engines that wait, lowest number first. -/
def waitingEngines (s : State) : List Nat := (List.range 12).filter fun e => (s.engine e).state = .waiting

/-- The order of dispatch: budget deadline, zone, tick, flow, part (R365). -/
def itemBefore (a b : Item) : Bool :=
  let d := stampDiff a.deadline b.deadline
  if d ≠ 0 then decide (d < 0)
  else if a.zone ≠ b.zone then decide (a.zone < b.zone)
  else if a.tick ≠ b.tick then decide (a.tick < b.tick)
  else if a.flow ≠ b.flow then decide (a.flow < b.flow)
  else decide (a.part < b.part)

/-- The first of a list in the order of dispatch. -/
def firstItem {α : Type} (key : α → Item) (xs : List α) : Option α :=
  xs.foldl (fun b x => match b with | some y => if itemBefore (key x) (key y) then some x else some y | none => some x) none

/-- A flow has posted its result for a tick (R369). -/
def postedFor (s : State) (z f tick : Nat) : Bool :=
  s.kernel.posts.any fun p => p.zone = z && p.flow = f && p.tick = tick && p.done

/-- An item of the same flow that comes before another: of an earlier tick, or of the same tick and an earlier part (R365,
R369). -/
def earlierItem (a b : Item) : Bool :=
  a.flow = b.flow && (let d := stampDiff a.instant b.instant; decide (d < 0) || (decide (d = 0) && decide (a.part < b.part)))

/-- Eligible but for a free reorder-buffer entry: no earlier item of its flow is queued, and AFTER_FLOW has posted (R365). -/
def dispatchable (s : State) (i : Item) : Bool :=
  !(s.kernel.queue.any fun x => earlierItem x i)
    && (match i.after with | some f => postedFor s i.zone f i.tick | none => true)

/-- DRAM addresses of an item: its parameter table, a copy of its flow's state area, the result slot of its tick or of the
same tick of another flow; the places that no rule fixes are free within their regions (R59, R362, R374, R378). -/
def Item.tableAddr (s : State) (i : Item) : Nat := s.region 0 + Config.tableOffset i.table % 268435456
def Item.stateAddr (s : State) (i : Item) (copy : Bool) : Nat := s.region 256 + Config.stateOffset i.flow copy % 268435456
def slotAddr (s : State) (flow seq : Nat) : Nat := s.region 512 + flow * 1048576 + seq % 4 * 262144

/-- The copy of its flow's state area that an item reads; it writes the other (R374). -/
def Item.copy (s : State) (i : Item) : Bool := tabGet false i.part (tabGet {} i.flow s.kernel.flows).copy

/-- The 64-byte descriptor of an item (R362). -/
def Item.descriptor (s : State) (i : Item) : List Byte :=
  be 1 i.kernel ++ be 1 i.zone ++ be 1 i.flow ++ be 1 ((i.parts - 1) * 16 + i.part) ++ be 4 i.seq ++ stampBytes i.instant
    ++ be 4 (Config.constOffset i.zone i.tick % 8388608) ++ be 2 i.first ++ be 2 i.entries.length
    ++ be 1 (bit i.stateReset 0 + bit i.retry 1) ++ be 3 0 ++ be 8 (i.tableAddr s) ++ be 8 (i.stateAddr s (i.copy s)) ++ be 8 (slotAddr s i.flow i.seq) ++ be 8 0

/-- An item goes to an engine, whose L1 is invalidated and whose local data is undefined (R362, R364, R367, R372, R373, R378). -/
def startItem (n e : Nat) (x : RobEntry) (s : State) : State :=
  let k := s.kernel
  let flows := if x.item.part = 0 && !x.item.retry
    then tabMod {} x.item.flow (fun (f : Flow) => { f with ring := tabErase (x.item.seq % 4) f.ring }) k.flows else k.flows
  let s1 := writeWords 7 (fun i _ => i == 65536 + n) { s with kernel := { k with
    flows, rob := tabSet n x k.rob, peakRob := max k.peakRob (tabSet n x k.rob).length
    cDispatched := inc k.cDispatched, cRetries := if x.item.retry then inc k.cRetries else k.cRetries } }
  { s1.setEngine e { s1.engine e with
      state := .running, entry := some (n, false), busySince := s.now, descriptor := x.item.descriptor s
      input := none, l1 := [], ldm := [], ldmDraw := s.drawn } with drawn := s.drawn + 1 }

/-- A retry, with the engine that may take it (R365). -/
def retryPick (s : State) : Option (Nat × RobEntry × Nat) :=
  let rs := s.kernel.rob.filterMap fun x =>
    if x.2.state = .aborted then ((waitingEngines s).find? fun e => x.2.notOn ≠ some e).map fun e => (x.1, x.2, e) else none
  firstItem (fun x => x.2.1.item) rs

/-- One dispatch decision of the scheduler (R364, R365, R367). -/
def dispatch (s : State) : State :=
  if !s.aligning then s
  else
    match retryPick s with
    | some (n, x, e) => startItem n e { x with state := .running, item := { x.item with retry := true } } s
    | none =>
      match (waitingEngines s).head?, firstItem id (s.kernel.queue.filter (dispatchable s)) with
      | some e, some i =>
        if 1024 ≤ s.kernel.rob.length then { s with kernel := { s.kernel with cStalls := inc s.kernel.cStalls } }
        else
          startItem s.kernel.robNext e
            { item := i, state := .running, outs := none, releasedAt := 0, discard := false, notOn := none }
            { s with kernel := { s.kernel with queue := s.kernel.queue.erase i, robNext := s.kernel.robNext + 1 } }
      | _, _ => s

/-! ### The memories of an engine (R356, R372, R373) -/

/-- The header of a result slot (R378). -/
def resultHeader (flow : Nat) (r : ResultSlot) : List Byte :=
  be 4 r.seq ++ stampBytes r.tick ++ be 1 flow ++ be 1 r.kernel ++ be 1 r.parts ++ be 1 r.posted.toNat
    ++ ((List.range 4).flatMap fun i => be 4 (if r.posted.getLsbD i then (r.outs.getD i 0).toNat else absentF32))
    ++ be 4 (r.body.length / 16) ++ be 8 0

/-- What an item may read of DRAM: its table, the copy of its part's state, the slot of AFTER_FLOW, each with its address
(R373). -/
def Item.sources (s : State) (i : Item) : List (Nat × List Byte) :=
  let f : Flow := tabGet {} i.flow s.kernel.flows
  [(i.tableAddr s, i.content.bytes), (i.stateAddr s (i.copy s), tabGet [] i.part f.state)]
    ++ (match i.after with
        | some a => match tabGet? (i.seq % 4) (tabGet {} a s.kernel.flows).ring with
          | some r => [(slotAddr s a i.seq, resultHeader a r ++ r.body)]
          | none => []
        | none => [])

/-- A byte of DRAM as the item reads it: of a word that has drained before its item is posted, else as posted or fixed. A
reader sees each word old or new, and whole (R372). -/
def engineByte (s : State) (i : Item) (a : Nat) : Byte :=
  match s.kernel.drained.find? fun w => w.addr = a / 4 * 4 with
  | some w => (be 4 w.word.toNat).getD (a % 4) 0
  | none => (((i.sources s).find? fun x => decide (x.1 ≤ a) && decide (a < x.1 + x.2.length)).bind fun x => x.2[a - x.1]?).getD (Config.dramByte a)

/-- The engine reads a line of DRAM: one that the L1 does not hold takes its place there, in that of line `evict` when the L1
is full (R356, R372). -/
def l1Load (s : State) (i : Item) (line evict : Nat) (l1 : List (Nat × List Byte)) : List (Nat × List Byte) :=
  let here := (i.sources s).any fun x => decide (x.1 / 64 ≤ line) && decide (line * 64 < x.1 + x.2.length)
  if !here || l1.any (fun x => x.1 = line) then l1
  else (line, (List.range 64).map fun k => engineByte s i (line * 64 + k)) :: (if l1.length < 512 then l1 else l1.eraseIdx evict)

/-- A write updates a line that the L1 holds (R372). -/
def l1Store (w : WordWrite) (l1 : List (Nat × List Byte)) : List (Nat × List Byte) :=
  l1.map fun x => if x.1 = w.addr / 64 then (x.1, x.2.take (w.addr % 64) ++ be 4 w.word.toNat ++ x.2.drop (w.addr % 64 + 4)) else x

/-- The words of an item's results: its state copy and its rows of the body (R374, R378). -/
def itemWrites (s : State) (n : Nat) (i : Item) (o : KernelOut) : List WordWrite :=
  let run (base : Nat) (b : List Byte) : List WordWrite :=
    (List.range (b.length / 4)).map fun k => { entry := n, addr := base + 4 * k, word := BitVec.ofNat 32 (fld b (4 * k) 4) }
  run (i.stateAddr s (!i.copy s) + o.state.length / max 1 i.entries.length * i.first) o.state ++ run (slotAddr s i.flow i.seq + 48 + 16 * i.first) o.body

/-- The oldest entry of a write buffer drains to the memory controller; words of a discarded item lead nowhere (R372). -/
def drainOne (e : Nat) (s : State) : State :=
  match (s.engine e).wbuf with
  | [] => s
  | x :: rest =>
    let s1 := x.2.foldl (fun s w => dramWritten w.addr 4 s) (s.setEngine e { s.engine e with wbuf := rest })
    { s1 with kernel := { s1.kernel with drained := (x.2.filter fun w => (tabGet? w.entry s.kernel.rob).isSome) ++ s1.kernel.drained } }

/-- A word joins the write buffer: it merges with writes to the same 64 bytes, or takes an entry (R372). -/
def bufferWord (w : WordWrite) : List (Nat × List WordWrite) → List (Nat × List WordWrite)
  | [] => [(w.addr / 64, [w])]
  | x :: t => if x.1 = w.addr / 64 then (x.1, w :: x.2.filter fun v => v.addr ≠ w.addr) :: t else x :: bufferWord w t

/-- One access of the item in an engine; a full write buffer drains its oldest entry first (R356, R372, R373). -/
def engineAccess (e : Nat) (i : Item) (words : List WordWrite) (s : State) : EngineAcc → State
  | .load line evict => s.setEngine e { s.engine e with l1 := l1Load s i line evict (s.engine e).l1 }
  | .keep addr b => s.setEngine e { s.engine e with ldm := tabSet addr b (s.engine e).ldm }
  | .store k => match words[k]? with
    | none => s
    | some w =>
      let b := (s.engine e).wbuf
      let s1 := if 8 ≤ b.length && !(b.any fun x => x.1 = w.addr / 64) then drainOne e s else s
      let x := s1.engine e
      s1.setEngine e { x with l1 := l1Store w x.l1, wbuf := bufferWord w x.wbuf }

/-- A byte of an engine's local data memory: written by the item, or undefined (R356, R373). -/
def Engine.localByte (x : Engine) (a : Nat) : Byte := tabGet (Config.ldmByte x.ldmDraw a) a x.ldm

/-! ### Release and posting (R368 to R371, R377, R378) -/

/-- Words of items that hold no entry any more are no longer apart from what DRAM holds. -/
def settleWords (s : State) : State :=
  { s with kernel := { s.kernel with drained := s.kernel.drained.filter fun w => (tabGet? w.entry s.kernel.rob).isSome } }

/-- An entry is freed; its results are discarded (R40, R367). -/
def discardEntry (n : Nat) (s : State) : State :=
  settleWords { s with kernel := { s.kernel with rob := tabErase n s.kernel.rob, cDiscarded := inc s.kernel.cDiscarded } }

/-- An engine ends its work: the time it ran is kept for the busy fraction (R383). -/
def engineIdle (e : Nat) (st : EngineState) (s : State) : State :=
  let x := s.engine e
  let s1 := s.setEngine e { x with state := st, entry := none, input := none }
  { s1 with kernel := { s1.kernel with
    busyLog := (x.busySince, s.now) :: s1.kernel.busyLog.filter fun b => decide (s.now < b.2 + 2000000000000) } }

/-- ITEM_ARRIVAL: 18 ECLK after the dispatch the item is in the engine; what it reads is fixed (R364, R373). -/
def itemArrival (e : Nat) (s : State) : State :=
  let x := s.engine e
  match x.state, x.entry with
  | .running, some (n, false) =>
    if x.busySince + 18000 ≤ s.now then
      s.setEngine e { x with entry := some (n, true), input := (tabGet? n s.kernel.rob).map fun r => kernelInput s r.item }
    else s
  | _, _ => s

/-- An engine issues an item's release, with the result of what the item has read, and asks for work. `accs`: what the item
did with the engine's memories, in its order; every word of its results is written by then, and the last of them wait in the
write buffer (R368, R372, R373). -/
def engineRelease (e : Nat) (accs : List EngineAcc) (s : State) : State :=
  let x := s.engine e
  match x.state, x.entry with
  | .running, some (n, true) =>
    let s1 := engineIdle e .waiting s
    match tabGet? n s.kernel.rob with
    | none => s1
    | some r =>
      if r.discard then discardEntry n s1
      else
        let out := x.input.map (kernelResult r.item)
        let words := (out.map (itemWrites s n r.item)).getD []
        let rest := ((List.range words.length).filter fun k => !accs.contains (.store k)).map EngineAcc.store
        let s2 := (accs ++ rest).foldl (engineAccess e r.item words) s1
        { s2 with kernel := { s2.kernel with rob := tabSet n { r with state := .released, outs := out, releasedAt := s.now } s2.kernel.rob } }
  | _, _ => s

/-- An engine's write buffer drains as far as the writes of an entry (R368). -/
def drainFor (n : Nat) (e : Nat) : Nat → State → State
  | 0, s => s
  | k + 1, s => if (s.engine e).wbuf.any fun x => x.2.any fun w => w.entry = n then drainFor n e k (drainOne e s) else s

/-- RELEASE_FENCE_DONE: the write buffer has drained as far as the item's writes (R368). -/
def fenceDone (n : Nat) (s : State) : State :=
  match tabGet? n s.kernel.rob with
  | some r =>
    if r.state = .released then
      let s1 := (List.range 12).foldl (fun s e => drainFor n e 8 s) s
      { s1 with kernel := { s1.kernel with rob := tabSet n { r with state := .fenced } s1.kernel.rob } }
    else s
  | none => s

/-- Rules by which the parts' outputs combine (R369, R381). -/
inductive Combine where
  | max | min | entryOf | sum | any
  deriving DecidableEq, Repr

/-- The part whose value is the greatest or the least, the first of equal ones. -/
def bestPart (least : Bool) (vs : List F32) : Option (F32 × Nat) :=
  vs.zipIdx.foldl (fun (b : Option (F32 × Nat)) x => match b with
    | some y => if (if least then f32Lt x.1 y.1 else f32Lt y.1 x.1) then some x else some y
    | none => some x) none

/-- The combination of output `o` by a rule; `prev` is the rule of the output before it. -/
def combineOne (rule prev : Combine) (o : Nat) (ps : List KernelOut) : F32 :=
  let col (o : Nat) : List F32 := ps.map fun p => p.out.getD o 0
  match rule with
  | .max => ((bestPart false (col o)).map (·.1)).getD 0
  | .min => ((bestPart true (col o)).map (·.1)).getD 0
  | .entryOf => (col o).getD (((bestPart (prev = .min) (col (o - 1))).map (·.2)).getD 0) 0
  | .sum => (col o).foldl f32Add 0
  | .any => f32Flag ((col o).any fun v => f32Mag v != 0)

/-- The rules of a kernel that allows several parts (R381). -/
def combineRules (kernel : Nat) : List Combine :=
  match kernel with
  | 6 => [.max, .entryOf, .sum, .any]
  | 13 => [.sum, .sum, .sum, .any]
  | 16 => [.max, .entryOf, .max, .any]
  | 21 => [.min, .entryOf, .sum, .any]
  | 22 => [.max, .entryOf, .sum, .any]
  | 23 => [.sum, .sum, .sum, .sum]
  | _ => []

/-- The outputs of a flow for a tick: an output is posted only if every part posted it (R369). -/
def combineParts (kernel : Nat) (ps : List KernelOut) : BitVec 4 × List F32 :=
  let mask := ps.foldl (fun m p => m &&& p.posted) (kernelPosts kernel)
  match ps with
  | [p] => (mask, (List.range 4).map fun o => p.out.getD o 0)
  | _ =>
    let rules := combineRules kernel
    let ok := (List.range 4).foldl (fun (m : BitVec 4) o =>
      if rules[o]? = some .entryOf ∧ !(mask.getLsbD (o - 1)) then m &&& ~~~(1#4 <<< o) else m) mask
    (ok, rules.zipIdx.map fun (r, o) => combineOne r (rules.getD (o - 1) .max) o ps)

/-- A posted value meets the mode of a KERNEL definition (R354, R377). -/
def meetsMode (mode : Nat) (threshold v : F32) : Bool :=
  if mode = 0 then f32Le threshold v else if mode = 1 then f32Le v threshold else f32Mag v != 0

/-- The posting of a flow's last part: the result slot, the alarm definitions on its outputs (R335, R369, R378). -/
def flowPost (i : Item) (ps : List KernelOut) (s : State) : State :=
  let failed := match tabGet? i.table s.kernel.tables with | some t => t.failed | none => false
  let r1 := combineParts i.kernel ps
  let m := r1.1
  let outs := r1.2
  let mask := if failed then 0#4 else m
  let slot : ResultSlot := { seq := i.seq, tick := i.instant, kernel := i.kernel, parts := i.parts, posted := mask, outs
                             body := ps.flatMap (·.body) }
  let s1 := { s with kernel := { s.kernel with
    posts := s.kernel.posts.map fun p =>
      if p.zone = i.zone ∧ p.flow = i.flow ∧ p.tick = i.tick then { p with done := true, posted := mask, outs } else p
    flows := tabMod {} i.flow (fun (f : Flow) => { f with ring := tabSet (i.seq % 4) slot f.ring }) s.kernel.flows
    cNotPosted := incBy s.kernel.cNotPosted (popcount 4 (kernelPosts i.kernel &&& ~~~mask)) } }
  let s2 := modArea i.zone i.tick (fun a => { a with lastPost := some s.now }) s1
  almDecideAll i.zone i.instant i.seq (fun d => match d.source with
    | .kernel f o mode th =>
      let v := outs.getD o 0
      if f = i.flow && mask.getLsbD o
      then some (if meetsMode mode th v then .yes else .no, be 2 f ++ be 1 o ++ be 1 0 ++ be 4 v.toNat) else none
    | _ => none) s2

/-- The first of a flow's items in the order of tick and then part, of those that hold an entry (R369). -/
def firstEntry (flow : Nat) (rob : Tab RobEntry) : Option (Nat × RobEntry) :=
  (rob.filter fun x => x.2.item.flow = flow).foldl (fun b x => match b with
    | some y => if earlierItem x.2.item y.2.item then some x else some y
    | none => some x) none

/-- An item that was aborted has posted in time: its faults are masked (R533, R544). -/
def maskFaults (n : Nat) (s : State) : State :=
  { s with integ := { s.integ with log := s.integ.log.map fun e => if e.retry = some n then { e with outcome := 0, retry := none } else e } }

/-- The first unposted item of a flow is posted when its fence is complete (R369). -/
def postItem (flow : Nat) (s : State) : State :=
  match firstEntry flow s.kernel.rob with
  | none => s
  | some (n, r) =>
    if r.state ≠ .fenced ∨ s.kernel.queue.any (fun x => earlierItem x r.item) then s
    else
      let i := r.item
      let o : KernelOut := r.outs.getD { posted := 0, out := [], body := [], state := [] }
      let fit : KernelOut := { o with body := padTo (16 * i.entries.length) o.body }
      let same (p : Posting) : Bool := p.zone = i.zone && p.flow = flow && p.tick = i.tick
      let old := s.kernel.posts.find? same
      let ps := (match old with | some p => p.parts | none => []) ++ [fit]
      let post : Posting := { zone := i.zone, flow, seq := i.seq, tick := i.tick, done := false, parts := ps, posted := 0, outs := [] }
      let s1 := settleWords { maskFaults n s with kernel := { s.kernel with
        rob := tabErase n s.kernel.rob
        posts := (s.kernel.posts.filter fun p => !same p) ++ [post]
        flows := tabMod {} flow (fun (f : Flow) => { f with state := tabSet i.part o.state f.state, copy := tabSet i.part (!tabGet false i.part f.copy) f.copy }) s.kernel.flows
        cPosted := inc s.kernel.cPosted
        cRetriesPosted := if i.retry then inc s.kernel.cRetriesPosted else s.kernel.cRetriesPosted } }
      if i.part + 1 = i.parts && ps.length = i.parts then flowPost i ps s1 else s1

/-! ### Removal and the tick budget (R37 to R43, R370, R371, R383) -/

/-- Items that `f` picks: queued ones and retries not dispatched are removed, running ones are to be discarded, the
others are discarded (R40, R371). -/
def dropItems (f : Item → Bool) (s : State) : State :=
  let k := s.kernel
  let mine := k.rob.filter fun x => f x.2.item
  let removed := (k.queue.filter f).length + (mine.filter fun x => x.2.state = .aborted).length
  let gone := (mine.filter fun x => x.2.state = .released || x.2.state = .fenced).length
  settleWords { s with kernel := { k with
    queue := k.queue.filter fun i => !f i
    rob := (k.rob.filter fun x => !(f x.2.item && x.2.state != .running)).map fun (x : Nat × RobEntry) =>
      (x.1, if f x.2.item then { x.2 with discard := true } else x.2)
    cRemoved := incBy k.cRemoved removed, cDiscarded := incBy k.cDiscarded gone } }

/-- Some item of the tick has not been posted. -/
def itemsLeft (z tick : Nat) (s : State) : Bool :=
  (s.kernel.queue.any fun i => i.zone = z && i.tick = tick)
    || s.kernel.rob.any fun x => x.2.item.zone = z && x.2.item.tick = tick && !x.2.discard

/-- A tick's use of its budget in 1/65,536 (R383). -/
def budgetUse (start last deadline : Ps) : Nat :=
  if deadline ≤ start then 65535 else min ((last - start) * 65536 / (deadline - start)) 65535

/-- The budget deadline of a tick (R40, R335, R383). -/
def budgetDeadline (z tick : Nat) (s : State) : State :=
  match s.area z tick with
  | none => s
  | some a =>
    if a.deadlineDone then s
    else
      let late := itemsLeft z tick s
      let seq := (a.sealed_.getLast?.map (·.seq)).getD 0
      let use : Option Nat := if late then some 65535 else match a.assembledAt, a.lastPost with
        | some t, some l => some (budgetUse t l s.now)
        | _, _ => none
      let s1 := dropItems (fun i => i.zone = z && i.tick = tick) s
      let s2 := modArea z tick (fun x => { x with deadlineDone := true }) (if late then markIncomplete z tick s1 else s1)
      let s3 := s2.modZone z fun x => { x with
        cOverruns := if late then inc x.cOverruns else x.cOverruns
        uses := match use with | some u => (u :: x.uses).take 1024 | none => x.uses }
      if a.assembledAt.isNone then s3
      else
        almDecideAll z a.instant seq (fun d => match d.source with
          | .kernel f o _ _ =>
            if s3.kernel.posts.any fun p => p.zone = z && p.flow = f && p.tick = tick && p.done && p.posted.getLsbD o then none
            else some (.undecided, be 2 f ++ be 1 o ++ be 1 0 ++ be 4 absentF32)
          | _ => none) s3

/-- The postings of a tick whose area is given up. -/
def dropPosts (z tick : Nat) (s : State) : State :=
  { s with kernel := { s.kernel with posts := s.kernel.posts.filter fun p => !(p.zone = z && p.tick = tick) } }

/-- The device leaves both ACTIVE and STANDBY (R371). -/
def kernelLeave (s : State) : State :=
  dropItems (fun _ => true) { s with kernel := { s.kernel with plan := [], posts := [] } }

end Sys2Proof.Machine
end

