-- ==== Sys2Proof/Machine/Align.lean ====
section
/-! DEFINITION. The aligner: ticks, staging, insertion, closes, assembly, revisions (R26 to R47, R206 to R244). -/

namespace Sys2Proof.Machine

/-! ### Ticks (R31 to R33, R222) -/

/-- 1 µs and 1 ms of a stamp. -/
def unitsPerUs : Nat := 65536000
def unitsPerMs : Nat := 65536000000

/-- The instant of a tick, by its number seconds × F + k (R31, R220). -/
def tickInstant (rate n : Nat) : Stamp := n * unitsPerSec / rate % stampMod

/-- The close instant of a tick (R32). -/
def closeInstant (x : Zone) (n : Nat) : Stamp := (tickInstant x.rate n + x.waitUs * unitsPerUs) % stampMod

/-- The time from a tick's instant to the start of its staging (R222). -/
def stageLead (x : Zone) : Int := if x.trigger then -(8 * unitsPerMs : Nat) else (x.waitUs * unitsPerUs : Nat) - (4 * unitsPerMs : Nat)

/-- The start of a tick's staging (R222). -/
def stageInstant (x : Zone) (n : Nat) : Stamp := stampAdd (tickInstant x.rate n) (stageLead x)

/-- Tick numbers of a rate: 2⁴⁸ seconds of them, then they start again (R220, R238). A zone that ticks across the end
counts on; every comparison is with its next tick. -/
def tickMod (rate : Nat) : Nat := 281474976710656 * rate

/-- The first tick whose staging starts after a stamp (R211). -/
def firstTickAfter (x : Zone) (now : Stamp) : Nat :=
  ((((now : Int) - stageLead x + 1) * x.rate + (unitsPerSec - 1 : Nat)) / (unitsPerSec : Nat) % (tickMod x.rate : Nat)).toNat

/-- A tick number of an instant as the zone counts it: the one nearest to its next tick; none before its count began (R238). -/
def tickNear (x : Zone) (n : Nat) : Option Nat :=
  let m : Int := (tickMod x.rate : Nat)
  let d := ((n : Int) - x.nextStage) % m
  let k := (x.nextStage : Int) + (if 2 * d < m then d else d - m)
  if k < 0 then none else some k.toNat

/-- The area of a tick, empty. -/
def newArea (x : Zone) (n : Nat) : Area :=
  { tick := n, instant := tickInstant x.rate n, closeAt := closeInstant x n, deadlineAt := closeInstant x (n + 1), releaseAt := closeInstant x (n + 2) }

/-- The area joins the zone's areas in order of tick. -/
def insertArea (a : Area) : List Area → List Area
  | [] => [a]
  | b :: t => if a.tick < b.tick then a :: b :: t else if a.tick = b.tick then a :: t else b :: insertArea a t

/-- The close has fired, or the complete-set trigger has (R218). -/
def Area.fired (a : Area) : Bool := a.closed || a.triggered

/-- The close fires, or the trigger starts the assembly, at an edge (R33, R35). -/
def Area.fire (triggered : Bool) (edge : Ps) (a : Area) : Area :=
  { a with closed := a.closed || !triggered, triggered := a.triggered || triggered, firedAt := some (a.firedAt.getD edge) }

/-- A frame whose insertion completes at `due` is too late for the tick: after the edge at which it fired (R34). -/
def Area.lateFor (due : Ps) (a : Area) : Bool := a.fired && (match a.firedAt with | some e => decide (e < due) | none => true)

/-! ### Members (R207, R213 to R215) -/

/-- The largest phasor, analog and digital counts of a slot class (R207). -/
def classLimits (cls : Nat) : Nat × Nat × Nat := if cls = 0 then (8, 4, 2) else if cls = 1 then (20, 8, 4) else (32, 16, 4)

/-- A member is EXCLUDED: its counts lie outside the class (R215). -/
def excludedNow (s : State) (x : Zone) (r : StreamRef) : Bool :=
  match s.memberCounts r with
  | none => false
  | some (p, a, d) =>
    let l := classLimits x.slotClass
    decide (l.1 < p) || decide (l.2.1 < a) || decide (l.2.2 < d)

/-- The order of slots (R214). -/
def refBefore (a b : StreamRef) : Bool :=
  if a.isLocal != b.isLocal then b.isLocal
  else if a.position ≠ b.position then decide (a.position < b.position)
  else decide (a.index < b.index)

/-- A member joins the list in slot order. -/
def insertMember (m : Member) : List Member → List Member
  | [] => [m]
  | n :: t => if refBefore m.ref n.ref then m :: n :: t else n :: insertMember m t

/-- A member is in the layout of a tick (R213). -/
def memberAt (m : Member) (tick : Nat) : Bool :=
  (match m.joinAt with | some j => decide (j ≤ tick) | none => false)
    && (match m.leaveAt with | some (some l) => decide (tick < l) | _ => true)

/-- The stream of a record (R212). -/
def recRef (f : FrameRecord) : StreamRef := { position := f.position, isLocal := f.isLocal, index := f.index }

/-- DATA_RATE of a member now; none without an accepted configuration or for a disabled local stream (R217, R278). -/
def memberRate (s : State) (r : StreamRef) : Option Nat :=
  if r.isLocal then (let l := s.localStream r.index; if l.enabled then some l.rate else none)
  else if r.position = s.position then (s.ctx r.index).cfg.map (·.dataRate)
  else Config.remoteRate r.position r.index s.pair.remoteEpoch

/-! ### Sizes (R207, R220 to R227, R235) -/

/-- Octets of a slot (R207). -/
def slotSize (cls : Nat) : Nat := if cls = 0 then 128 else if cls = 1 then 256 else 384

/-- What a zone takes: K_z, staged octets, store octets, staging accesses, index half-octets, octets of an area. -/
structure ZoneSize where
  kz      : Nat
  staged  : Nat
  store   : Nat
  staging : Nat
  index   : Nat
  area    : Nat

/-- The sizes of a zone of `n` members (R220, R223 to R227). -/
def zoneSize (x : Zone) (n : Nat) : ZoneSize :=
  let b := slotSize x.slotClass
  let area := 64 + n * b
  let r := cdiv (3204 * x.rate) 1000 + 1
  let k := kzOf x.rate x.waitUs x.trigger
  { kz := k, staged := k * area, store := r * area, staging := if x.trigger then 0 else 1 + n * b / 64, index := r * n, area }

/-- The members that a zone counts: those that are not leaving. -/
def memberCount (x : Zone) : Nat := (x.members.filter fun m => m.leaveAt.isNone).length

/-- Store areas of a zone's ring (R220). -/
def ringSize (x : Zone) : Nat := cdiv (3204 * x.rate) 1000 + 1

/-- The DRAM address of a zone's ring of store areas; the rings lie one after another in ascending number (log entry 20). -/
def storeBase (s : State) (z : Nat) : Nat :=
  ((s.align.zones.filter fun y => decide (y.1 < z) && y.2.state != .free).map fun y => (zoneSize y.2 (memberCount y.2)).store).sum

/-- The DRAM address of a tick's store area (R220). -/
def areaAddr (s : State) (z tick : Nat) : Nat :=
  let x := s.zone z
  storeBase s z + tick % ringSize x * (zoneSize x (memberCount x)).area

/-- The streams of a tick's slots in order (R213, R214). -/
def areaRefs (x : Zone) (tick : Nat) (area : Option Area) : List StreamRef :=
  match area.filter (·.staged) with
  | some a => a.slots.map (·.ref)
  | none => (x.members.filter fun m => memberAt m tick).map (·.ref)

/-- A record is written into its slot of the alignment store (R220, R531). -/
def slotWritten (z tick : Nat) (r : StreamRef) (s : State) : State :=
  let x := s.zone z
  match (areaRefs x tick (s.area z tick)).findIdx? (· == r) with
  | some i => dramWritten (areaAddr s z tick + 64 + i * slotSize x.slotClass) (slotSize x.slotClass) s
  | none => s

/-- The newest constellation of a zone that lies in constellation SRAM (log entry 20). -/
def heldArea (s : State) (z : Nat) : Option Area := ((s.zone z).areas.filter fun a => a.stagedHeld && !a.sealed_.isEmpty).getLast?

/-- The words of constellation SRAM in which a tick's constellation lies (log entry 20). -/
def constWords (s : State) (z tick item _addr : Nat) : Bool := item == z && (heldArea s z).any fun a => a.tick == tick

/-- The words of the aligner index that hold the slot states of a tick (R227; log entry 20). -/
def indexWords (s : State) (z tick item addr : Nat) : Bool :=
  let x := s.zone z
  let n := max 1 (memberCount x)
  item == z && inRange addr (tick % ringSize x * n / 8) ((tick % ringSize x * n + n - 1) / 8)

/-- A zone tick is due for a stream of rate `g` (R217). -/
def tickDue (rate tick : Nat) (g : Option Nat) : Bool :=
  match g with
  | none => true
  | some g => g = 0 || tick % rate * g % rate == 0

/-! ### The assembler (R44, R45, R228, R229, R239) -/

/-- The order of service (R44, R137). -/
def asmBefore (a b : AsmReq) : Bool :=
  if a.edge ≠ b.edge then decide (a.edge < b.edge)
  else if a.order ≠ b.order then decide (stampDiff a.order b.order < 0) else decide (a.zone < b.zone)

/-- A close or trigger joins the queue. -/
def insertReq (r : AsmReq) : List AsmReq → List AsmReq
  | [] => [r]
  | q :: t => if asmBefore r q then r :: q :: t else q :: insertReq r t

/-- The slot that HOLD copies: that of the member's most recent earlier due tick, PRESENT or LATE in its latest revision
(R229). -/
def heldSlot (x : Zone) (tick : Nat) (r : StreamRef) : Option Slot :=
  let prev := ((x.areas.filter fun a => decide (a.tick < tick) && a.staged).reverse.findSome? fun a =>
    match a.slots.find? fun y => y.ref = r with
    | some y => if y.due then some a else none
    | none => none)
  match prev with
  | none => none
  | some a => (a.sealed_.head?.bind fun c => c.slots.find? fun y => y.ref = r).filter fun y => y.state = .present || y.state = .late

/-- A slot as revision 0 seals it; ABSENT where the index cannot be read (R228, R526). -/
def sealSlot (s : State) (x : Zone) (a : Area) (y : Slot) : Slot :=
  let tick := a.tick
  let none_ (st : SlotState) : Slot := { y with state := st, record := none, triggerLast := false }
  if a.indexBad.contains y.ref then none_ .absent
  else if y.state = .present then y
  else if excludedNow s x y.ref then none_ .excluded
  else if y.due then none_ .absent
  else if x.hold then
    match heldSlot x tick y.ref with
    | some h => { h with state := .held, due := false, counts := y.counts }
    | none => none_ .notDue
  else none_ .notDue

/-- The constellation that an assembly starting now seals (R242, R243). -/
def sealNow (s : State) (z : Nat) (x : Zone) (a : Area) (rev seq : Nat) (slots : List Slot) : Sealed :=
  { zone := z, rev, seq, tick := a.tick, instant := a.instant, start := s.stamp, slotClass := x.slotClass, rate := x.rate
    waitUs := x.waitUs, tqCode := s.time.tqCode, servo := s.time.servo.code
    stepped := match s.time.steppedAt with
      | some t => stampGe s.stamp t && decide (stampDiff s.stamp t < 2 * (unitsPerSec : Int))
      | none => false
    triggered := a.triggered, lastRev := rev = x.revLimit, timeInvalid := !s.time.valid, memberChange := a.memberChange
    incomplete := a.incomplete, slots }

/-- FCLK of an assembly of `n` slots (R60, R228). -/
def assemblyCycles (n : Nat) : Nat := 64 + 4 * n

/-- SEQ of the tick that now starts assembly: the next one, or what the anchor of the pair gives it (R239, R506). -/
def seqOf (x : Zone) (a : Area) : Nat :=
  match x.anchor with
  | some (t, q) =>
    let ticks : Int := ((a.instant : Int) - t) * x.rate
    let n := (ticks + unitsPerSec / 2) / (unitsPerSec : Nat)
    ((q : Int) + n) % 4294967296 |>.toNat
  | none => x.nextSeq.toNat

/-- An assembly of revision 0 starts: it seals the staged area (R228). -/
def startAssembly (z tick : Nat) (s : State) : State :=
  let x := s.zone z
  match s.area z tick with
  | none => s
  | some a =>
    let seq := seqOf x a
    let c := sealNow s z x a 0 seq (a.slots.map (sealSlot s x a))
    let s1 := { s with align := { s.align with asm := some { c, done := s.now + assemblyCycles c.slots.length * 1250, orphan := false } } }
    let s2 := s1.setZone z { x with
      nextSeq := BitVec.ofNat 32 (seq + 1), anchor := none, run := if x.firstTick ≤ tick then some (a.instant, seq) else x.run }
    planItems z tick a.instant a.deadlineAt (cohHold z tick (egressAssemblyStart z s2))

/-- The assembler, if free, takes the next close or trigger: when the instant has brought all of its own (R44). -/
def asmTake (s : State) : State :=
  match s.align.asm, s.align.revArea, s.align.asmQueue with
  | some _, _, _ => s
  | none, .assembling _ _, _ => s
  | none, _, r :: rest => startAssembly r.zone r.tick { s with align := { s.align with asmQueue := rest } }
  | none, _, [] => s

/-- A close or trigger reaches the assembler, with its edge (R33, R35, R44). -/
def asmPush (edge : Ps) (order : Stamp) (z tick : Nat) (s : State) : State :=
  { s with align := { s.align with asmQueue := insertReq { edge, order, zone := z, tick } s.align.asmQueue } }

/-! ### Areas given up (R220, R223, R237) -/

/-- An area leaves the zone. -/
def dropArea (z tick : Nat) (s : State) : State :=
  dropPosts z tick (s.modZone z fun x => { x with areas := x.areas.filter fun a => a.tick ≠ tick })

/-- A constellation of the tick is still to be passed on: its revision is in assembly, or a session has to form its frame
of one (R211, R240, R393). -/
def areaWanted (s : State) (z tick : Nat) : Bool :=
  (s.egress.waits.any fun w => w.zone = z && w.tick = tick)
    || (match s.egress.forming with | some (r, _) => r.zone = z && r.tick = tick | none => false)
    || (match s.align.revArea with | .assembling c _ => c.zone = z && c.tick = tick | _ => false)

/-- Areas that are neither staged nor stored nor wanted leave the zone. -/
def sweepAreas (z : Nat) (s : State) : State :=
  ((s.zone z).areas.filter fun a => !a.stored && !a.stagedHeld && !areaWanted s z a.tick).foldl (fun s a => dropArea z a.tick s) s

/-- The areas that nothing wants any more leave every zone. -/
def sweepZones (s : State) : State := s.align.zones.foldl (fun s x => sweepAreas x.1 s) s

/-- The revision entry of a tick is given up; the area, if it holds that tick, is free (R235). -/
def dropRevision (z tick : Nat) (s : State) : State :=
  let area : RevArea := match s.align.revArea with
    | .restaging y t => if y = z ∧ t = tick then .idle else s.align.revArea
    | .ready y t _ => if y = z ∧ t = tick then .idle else s.align.revArea
    | a => a
  modArea z tick (fun a => { a with armed := false })
    { s with align := { s.align with revQueue := s.align.revQueue.filter fun e => !(e.zone = z && e.tick = tick), revArea := area } }

/-- The entry of a tick waits. -/
def revWaiting (s : State) (z tick : Nat) : Bool := s.align.revQueue.any fun e => e.zone = z && e.tick = tick

/-- A queued revision is abandoned (R237, R240). -/
def abandonRevision (z tick : Nat) (s : State) : State :=
  if revWaiting s z tick then
    let s1 := dropRevision z tick s
    { s1 with align := { s1.align with cRevAbandoned := inc s1.align.cRevAbandoned } }
  else s

/-- 3.2 s of a stamp (R220). -/
def storeSpan : Int := 3200 * (unitsPerMs : Int)

/-- The tick instant lies 3.2 s or more back (R220, R237). -/
def pastStore (s : State) (a : Area) : Bool := decide (storeSpan ≤ stampDiff s.stamp a.instant)

/-- STORE_AREA_EXPIRY's effect: the store area is free, with any revision not started (R220, R237). -/
def storeExpiry (z tick : Nat) (s : State) : State :=
  match s.area z tick with
  | some a => if pastStore s a then sweepAreas z (modArea z tick (fun a => { a with stored := false }) (abandonRevision z tick s)) else s
  | none => s

/-! ### Closes and deadlines (R33, R36, R38, R223) -/

/-- The budget deadlines of a zone that have come: the close instant of the next tick is reached (R38, R40). -/
def deadlinesDue (z : Nat) (s : State) : State :=
  ((s.zone z).areas.filter fun a => a.fired && !a.deadlineDone && stampGe s.gridStamp a.deadlineAt).foldl (fun s a => budgetDeadline z a.tick s) s

/-- The budget deadlines of every zone whose edge has come: a fence that completes on such an edge is late (R38, R39, R40). -/
def deadlinesCome (s : State) : State := s.align.zones.foldl (fun s x => deadlinesDue x.1 s) s

/-- Staged areas of a zone whose second next close instant is reached are free; one whose assembly is still to come
serves it first (R223, R240, R246). -/
def releasesDue (z : Nat) (s : State) : State :=
  let free (a : Area) : Area :=
    if a.fired && a.assembledAt.isSome && stampGe s.gridStamp a.releaseAt then { a with stagedHeld := false } else a
  sweepAreas z (s.modZone z fun x => { x with areas := x.areas.map free })

/-- The close of tick `n` fires: the deadlines and releases that have come with it, and the assembly unless the trigger
has started it (R33, R36, R38, R223). -/
def fireClose (order : Stamp) (z n : Nat) (s : State) : State :=
  let s1 := s.modZone z fun x => { x with nextClose := n + 1 }
  match s.area z n with
  | none => s1
  | some a =>
    let s2 := releasesDue z (deadlinesDue z (modArea z n (Area.fire false s.now) s1))
    if a.triggered then s2 else asmPush s.now order z n s2

/-- A tick of the zone is staged and its close instant is reached on this grid edge (R33). -/
def closeDue (s : State) (z : Nat) : Bool :=
  let x := s.zone z
  x.ticking && (match s.area z x.nextClose with | some a => a.staged && !a.closed && stampGe s.gridStamp a.closeAt | none => false)

/-! ### Staging (R213, R222 to R226, R498) -/

/-- A CONTROL frame to the device that binds a remote stream (R491, R498). -/
def sendControl (position index zone : Nat) (add : Bool) (effective : Stamp) (s : State) : State :=
  match s.linkTo position with
  | some k => sendB k 0x08 (be 2 index ++ be 1 zone ++ be 1 (bit add 0) ++ stampBytes effective) s
  | none => s

/-- A stream bound on another device of the federation (R497). -/
def StreamRef.remote (s : State) (r : StreamRef) : Bool := !r.isLocal && r.position != s.position

/-- A context of this device joins a zone, or leaves the zone it is in. -/
def joinZone (z : Nat) (s : State) (m : Member) : State :=
  if m.ref.isLocal || m.ref.remote s then s else s.modCtx m.ref.index fun c => { c with zone := some z }
def leaveZone (z : Nat) (effective : Stamp) (s : State) (m : Member) : State :=
  if m.ref.isLocal then s
  else if m.ref.remote s then sendControl m.ref.position m.ref.index z false effective s
  else if (s.ctx m.ref.index).zone = some z then s.modCtx m.ref.index fun c => { c with zone := none } else s

/-- The slot of a member in a tick's layout, with the record that the store holds (R214, R222, R226). -/
def stagedSlot (s : State) (x : Zone) (a : Area) (m : Member) : Slot :=
  let rec_ := a.records.find? fun f => recRef f = m.ref
  { ref := m.ref, state := if rec_.isSome then .present else .absent, due := tickDue x.rate a.tick (memberRate s m.ref)
    record := rec_, counts := s.memberCounts m.ref, triggerLast := false }

/-- Staging of a zone's next tick starts: membership changes take effect, the layout is fixed (R213, R222). A tick whose
staging start a step forward has passed, but not its close, is staged at the step (R137; log entry 2). -/
def stageTick (z : Nat) (s : State) : State :=
  let x := s.zone z
  let n := x.nextStage
  let instant := tickInstant x.rate n
  let gone := x.members.filter fun m => match m.leaveAt with | some (some l) => decide (l ≤ n) | _ => false
  let new (m : Member) : Bool := !m.effective && (match m.joinAt with | some j => decide (j ≤ n) | none => false)
  let s1 := (x.members.filter new).foldl (joinZone z) (gone.foldl (leaveZone z instant) s)
  let kept := (x.members.filter fun m => !gone.contains m).map fun m => { m with effective := m.effective || new m }
  let old := (s.area z n).filter (·.stored)
  let a := old.getD (newArea x n)
  let change := !gone.isEmpty || x.members.any new
  let a' : Area := { a with
    staged := true, copied := x.trigger, stagedHeld := true, memberChange := change
    slots := (kept.filter fun m => memberAt m n).map (stagedSlot s1 x a) }
  let s2 := s1.setZone z { x with
    members := kept, nextStage := n + 1, areas := insertArea a' x.areas
    changes := if change then instant :: x.changes.filter (fun t => decide (stampDiff instant t < 64 * (unitsPerSec : Int))) else x.changes }
  if x.trigger then s2 else { s2 with align := { s2.align with stagings := s2.align.stagings ++ [(z, n)] } }

/-- The staging that is served first: by close instant, then zone (R225). -/
def stagingFirst (s : State) : Option (Nat × Nat) :=
  let key (p : Nat × Nat) : Stamp := closeInstant (s.zone p.1) p.2
  s.align.stagings.foldl (fun (b : Option (Nat × Nat)) p => match b with
    | some q => let d := stampDiff (key p) (key q); if d < 0 ∨ (d = 0 ∧ p.1 < q.1) then some p else some q
    | none => some p) none

/-! ### Insertion (R216 to R219, R226, R230, R232, R233) -/

/-- The second and the number of the stream instant that a record's tag matches (R216). -/
def matchInstant (f : FrameRecord) : Option (Nat × Nat) :=
  let u := unitsPerSec
  let g := f.rate
  let r := stampSub f.tag * g
  let j := (2 * r + u) / (2 * u)
  let d := if r < j * u then j * u - r else r - j * u
  if g = 0 ∨ f.timeBase = 0 then none
  else if d * f.timeBase * 1000000 < (1000000 + f.timeBase) * u * g ∧ 4 * d < u then
    (if j = g then none else some (stampSec f.tag, j))
  else none

/-- The zone that a record's stream belongs to: the context's ZONE; for a local stream the zone in whose layout it is; for a
remote stream the zone that it is a member of, from the add on (R213, R218, R498). -/
def recordZone (s : State) (f : FrameRecord) : Option Nat :=
  let r := recRef f
  if r.isLocal || r.remote s then
    (s.align.zones.find? fun z => z.2.members.any fun m => m.ref = r && (m.effective || r.remote s)).map (·.1)
  else (s.ctx r.index).zone

/-- A counter of a zone counts. -/
def zoneCount (z : Nat) (f : Zone → Zone) (s : State) : State := s.modZone z f

/-- The highest revision number known for a tick: its own, or mirrored (R506). -/
def knownRev (s : State) (z : Nat) (a : Area) : Nat :=
  s.pair.revMirror.foldl (fun n x => if x.1 = z && (a.sealed_.head?.any fun c => c.seq = x.2.1) then max n x.2.2 else n) a.topRev

/-- A late frame (R232, R233). -/
def insertLate (z : Nat) (a : Area) (f : FrameRecord) (s : State) : State :=
  let x := s.zone z
  let top := knownRev s z a + (if a.armed then 1 else 0)
  if x.revLimit = 0 then zoneCount z (fun x => { x with cLateDrops := inc x.cLateDrops }) s
  else if x.revLimit ≤ top then zoneCount z (fun x => { x with cRevLimit := inc x.cRevLimit }) s
  else if !a.armed && decide (1024 ≤ s.align.revQueue.length) then { s with align := { s.align with cRevQueue := inc s.align.cRevQueue } }
  else
    let s1 := modArea z a.tick (fun a => { a with
      armed := true
      storeBad := a.storeBad.filter fun r => r ≠ recRef f
      slots := a.slots.map fun y => if y.ref = recRef f then { y with state := .late, record := some f } else y }) s
    let s2 := zoneCount z (fun x => { x with cLate := inc x.cLate }) (slotWritten z a.tick (recRef f) s1)
    if a.armed then s2
    else { s2 with align := { s2.align with
      revQueue := s2.align.revQueue ++ [{ zone := z, tick := a.tick, holdEnd := s.now + x.revHold * 1000000000, queued := none }] } }

/-- The complete-set trigger: every member for which the tick is due and that is not EXCLUDED is PRESENT, on an edge
before the close (R35, R230). -/
def triggerMet (s : State) (x : Zone) (a : Area) : Bool :=
  let want := a.slots.filter fun y => y.due && !excludedNow s x y.ref
  x.trigger && a.staged && !a.fired && !stampGe s.gridStamp a.closeAt && !want.isEmpty && want.all fun y => y.state = .present

/-- A frame takes its slot, at the edge at which its insertion completes (R218 check 12, R226, R35). -/
def insertPresent (due : Ps) (z tick : Nat) (f : FrameRecord) (s : State) : State :=
  let x := s.zone z
  match (s.area z tick).filter (·.stored) with
  | none => s.setZone z { x with areas := insertArea { newArea x tick with records := [f] } x.areas }
  | some a =>
    let put (last : Bool) (a : Area) : Area := { a with
      records := a.records ++ [f]
      storeBad := a.storeBad.filter fun r => r ≠ recRef f
      slots := a.slots.map fun y => if y.ref = recRef f then { y with state := .present, record := some f, triggerLast := last } else y }
    if triggerMet s x (put false a) then asmPush due 0 z tick (modArea z tick (fun a => (put true a).fire true due) s)
    else modArea z tick (put false) s

/-- The tick's layout holds the member, the tick is not before the member's effective tick nor before the zone's first
tick (R218 check 7). A tick that a step skipped has no layout (R137). -/
def tickHolds (x : Zone) (area : Option Area) (tick : Nat) (r : StreamRef) : Bool :=
  match x.members.find? fun m => m.ref = r && m.joinAt.isSome with
  | none => false
  | some m => memberAt m tick && decide (x.firstTick ≤ tick) && !(x.skips.any fun k => decide (k.1 ≤ tick) && decide (tick < k.2))
      && (match area with | some a => !a.staged || a.slots.any fun y => y.ref = r | none => true)

/-- Checks 7 to 12 for an insertion that completes at `due`; a frame whose slot state cannot be read is dropped
(R34, R218, R526). A tick of the past without a store area, as a backward step can name, has no layout (log entry 2). -/
def placeRecord (due : Ps) (z tick : Nat) (f : FrameRecord) (s : State) : State :=
  let x := s.zone z
  let r := recRef f
  let area := (s.area z tick).filter (·.stored)
  let age := stampDiff s.stamp (tickInstant x.rate tick)
  let dup : Bool := match area with
    | some a => if a.staged then a.slots.any fun y => y.ref = r && (y.state = .present || y.state = .late) else a.records.any fun g => recRef g = r
    | none => false
  if area.any fun a => a.indexBad.contains r then s
  else if !tickHolds x area tick r then zoneCount z (fun x => { x with cMember := inc x.cMember }) s
  else if age < -(4 * (unitsPerMs : Int)) then zoneCount z (fun x => { x with cFuture := inc x.cFuture }) s
  else if 2 * (unitsPerSec : Int) < age then zoneCount z (fun x => { x with cHorizon := inc x.cHorizon }) s
  else if dup then zoneCount z (fun x => { x with cDup := inc x.cDup }) s
  else match area with
    | some a => if a.lateFor due then insertLate z a f s else insertPresent due z tick f (slotWritten z tick r s)
    | none =>
      if tick < x.nextStage then zoneCount z (fun x => { x with cMember := inc x.cMember }) s
      else insertPresent due z tick f (slotWritten z tick r s)

/-- Check 1: the record's GEN is not the context's (R190, R218, R499). -/
def staleGen (s : State) (f : FrameRecord) : Bool :=
  let r := recRef f
  if r.isLocal then false
  else if r.remote s then
    s.align.zones.any fun z => z.2.members.any fun m => m.ref = r && (match m.remoteGen with | some g => g != f.gen | none => false)
  else (s.ctx r.index).gen.toNat != f.gen

/-- The first record of a remote member gives its GEN until a GEN frame does (R499). -/
def noteGen (f : FrameRecord) (s : State) : State :=
  let note (m : Member) : Member := if m.ref = recRef f && m.remoteGen.isNone then { m with remoteGen := some f.gen } else m
  if (recRef f).remote s then
    { s with align := { s.align with zones := tabMap (fun _ (x : Zone) => { x with members := x.members.map note }) s.align.zones } }
  else s

/-- A record completes insertion at `due` (R218). -/
def insertRecord (due : Ps) (f : FrameRecord) (s : State) : State :=
  let r := recRef f
  if staleGen s f then
    (if r.remote s then { s with pair := { s.pair with cStale := inc s.pair.cStale } }
     else s.modCtx r.index fun c => { c with cStaleGen := inc c.cStaleGen })
  else
    let s := noteGen f s
    match recordZone s f with
    | none => { s with align := { s.align with cUnzoned := inc s.align.cUnzoned } }
    | some z =>
      let x := s.zone z
      if !x.ticking then { s with align := { s.align with cStopped := inc s.align.cStopped } }
      else if excludedNow s x r then zoneCount z (fun x => { x with cOversize := inc x.cOversize }) s
      else
        match matchInstant f with
        | none => zoneCount z (fun x => { x with cOffGrid := inc x.cOffGrid }) s
        | some (sec, j) =>
          if j * x.rate % f.rate ≠ 0 then zoneCount z (fun x => { x with cSurplus := inc x.cSurplus }) s
          else match tickNear x (sec * x.rate + j * x.rate / f.rate) with
            | none => zoneCount z (fun x => { x with cMember := inc x.cMember }) s
            | some tick => placeRecord due z tick f s

/-- The oldest record on its way completes insertion, when its edge has come (R60, R218). -/
def insertNext (s : State) : State :=
  match s.ingress.toInsert with
  | (due, f) :: rest => if due ≤ s.now then insertRecord due f { s with ingress := { s.ingress with toInsert := rest } } else s
  | [] => s

/-! ### Assembly completes (R46, R210, R231, R361) -/

/-- The assembly of a revision 0 completes (R37, R46, R231, R247). -/
def assemblyDone (r : AsmRun) (s : State) : State :=
  let c := r.c
  let s0 := { s with align := { s.align with asm := none } }
  let s1 := s0.modZone c.zone fun x => { x with
    cConst := inc x.cConst, lastSeq := BitVec.ofNat 32 c.seq
    cTrig := if c.triggered then inc x.cTrig else x.cTrig
    cAbsent := incBy x.cAbsent (countState .absent c.slots) }
  if r.orphan then cohFree c s1
  else
    let s2 := modArea c.zone c.tick (fun a => { a with sealed_ := c :: a.sealed_, assembledAt := some s.now }) s1
    let s3 := queueItems c.seq (detectAssembled c s2)
    let past : Bool := match s3.area c.zone c.tick with | some a => a.deadlineDone | none => false
    let s4 := if past then budgetDeadline c.zone c.tick (modArea c.zone c.tick (fun a => { a with deadlineDone := false }) s3) else s3
    releasesDue c.zone (egressAssembled c s4)

/-! ### Revisions (R233 to R237) -/

/-- The slots of a revision: those of revision 0, with every late frame accepted so far; ABSENT where the store cannot be
read (R237, R527). -/
def revisionSlots (base : Sealed) (a : Area) : List Slot :=
  base.slots.map fun y => if a.storeBad.contains y.ref then { y with state := .absent, record := none, triggerLast := false } else match a.slots.find? fun w => w.ref = y.ref with
    | some w => if w.state = .late then { w with due := y.due } else y
    | none => y

/-- A revision assembly starts (R236, R237, R504). -/
def startRevision (z tick : Nat) (s : State) : State :=
  let x := s.zone z
  match s.area z tick with
  | none => dropRevision z tick s
  | some a =>
    match a.sealed_.getLast? with
    | none => s
    | some base =>
      let rev := knownRev s z a + 1
      if x.revLimit < rev then dropRevision z tick s
      else
        let c := sealNow s z x a rev base.seq (revisionSlots base a)
        let s1 := modArea z tick (fun a => { a with topRev := rev, armed := false }) s
        mirrorItem 3 (be 1 z ++ be 4 base.seq ++ be 1 rev) { s1 with align := { s1.align with
          revQueue := s1.align.revQueue.filter fun e => !(e.zone = z && e.tick = tick)
          revArea := .assembling c (s.now + assemblyCycles c.slots.length * 1250) } }

/-! ### Zones begin and stop ticking (R210, R211) -/

/-- SEQ of the zone's first tick: what the anchor of the pair gives it, else the next one, with the ticks that wait for the
assembler before it (R211, R239, R506). -/
def nextTickSeq (s : State) (z : Nat) : Nat :=
  let x := s.zone z
  if x.anchor.isSome then seqOf x (newArea x x.firstTick)
  else (x.nextSeq.toNat + (s.align.asmQueue.filter fun r => r.zone = z).length) % 4294967296

/-- The anchor of a zone: the tick whose assembly last started since the zone began ticking, and its SEQ; before that its
first tick and the SEQ that this will take (R504). -/
def anchorOf (s : State) (z : Nat) : Stamp × Nat :=
  let x := s.zone z
  x.run.getD (tickInstant x.rate x.firstTick, nextTickSeq s z)

/-- The anchor goes to the partner (R504). -/
def mirrorAnchor (z : Nat) (s : State) : State :=
  let r1 := anchorOf s z
  let t := r1.1
  let q := r1.2
  mirrorItem 4 (be 1 z ++ stampBytes t ++ be 4 q) s

/-- A zone begins to tick (R211, R213, R331, R340, R374). -/
def beginTicking (z : Nat) (s : State) : State :=
  let x := s.zone z
  let n := firstTickAfter x s.stamp
  let s1 := s.setZone z { x with
    ticking := true, firstTick := n, nextStage := n, nextClose := n, skips := [], run := none
    members := x.members.map fun m => { m with joinAt := some n, leaveAt := m.leaveAt.map fun _ => some n } }
  refreshSessions (kernelZoneStart z (almArm (fun d => d.zone == z) (oscReset (fun g => g.zone == z) s1)))

/-- A RUNNING zone begins to tick: its sessions may leave SUSPENDED, its anchor goes to the partner (R210, R211, R387, R504). -/
def zoneBegin (z : Nat) (s : State) : State := mirrorAnchor z (beginTicking z (resumeSessions z s))

/-- A zone stops ticking. `keep`: ticks that have fired keep their staged areas (R210, R211, R213). -/
def stopTicking (keep : Bool) (z : Nat) (s : State) : State :=
  let x := s.zone z
  if !x.ticking then s
  else
    let dropped := if keep then x.areas.filter fun a => !a.fired else x.areas
    let s1 := s.setZone z { x with
      ticking := false
      members := x.members.map fun m => { m with joinAt := if m.effective then m.joinAt else none, leaveAt := m.leaveAt.map fun _ => none }
      areas := if keep then (x.areas.filter fun a => a.fired).map fun a => { a with stored := false, armed := false } else [] }
    let gone (y t : Nat) : Bool := y = z && (!keep || dropped.any fun a => a.tick = t)
    let s2 := { s1 with align := { s1.align with
      asmQueue := s1.align.asmQueue.filter fun r => !gone r.zone r.tick
      stagings := s1.align.stagings.filter fun p => !gone p.1 p.2
      revQueue := s1.align.revQueue.filter fun e => e.zone ≠ z
      revArea := match s1.align.revArea with
        | .restaging y t => if y = z then .idle else .restaging y t
        | .ready y t go => if y = z then .idle else .ready y t go
        | a => a } }
    refreshSessions (almArm (fun d => d.zone == z) (sweepAreas z (dropped.foldl (fun s a => dropPosts z a.tick s) s2)))

/-- The zones in RUNNING. -/
def runningZones (s : State) : List Nat := (s.align.zones.filter fun z => z.2.state = .running).map (·.1)

/-- The device has entered ACTIVE or STANDBY from another mode: RUNNING zones tick again, every definition arms
(R210, R340). -/
def alignEnter (s : State) : State :=
  (runningZones s).foldl (fun s z => zoneBegin z s) (almArm (fun _ => true) s)

/-- The device has left ACTIVE and STANDBY: ticks, revisions, items and alarm states are gone (R210, R340, R341, R371). -/
def alignLeave (s : State) : State :=
  let s1 := (runningZones s).foldl (fun s z => stopTicking false z s) s
  let al : AlignSt := { s1.align with
    asm := s1.align.asm.map fun r => { r with orphan := true }
    zones := tabMap (fun _ (x : Zone) => { x with areas := [] }) s1.align.zones
    asmQueue := []
    stagings := []
    revQueue := []
    cohQueue := []
    coh := none
    bandQueue := []
    band := none }
  let s2 : State := { s1 with align := al, detect := { s1.detect with cohInputs := [] } }
  forcePins 0xFFFF#16 (almLose (kernelLeave s2))

/-! ### Steps of the time base (R137, R138, R240) -/

/-- The number of ticks from `n` on whose close instants a stamp has passed (R137). -/
def ticksPassed (x : Zone) (n : Nat) (now : Stamp) : Nat :=
  let d := stampDiff now (closeInstant x n)
  let k := d.toNat * x.rate / unitsPerSec
  let past (i : Nat) : Bool := decide (0 ≤ stampDiff now (closeInstant x (n + i)))
  if d < 0 then 0 else if past (k + 1) then k + 2 else if past k then k + 1 else k

/-- The ticks of a zone whose close a forward step has passed: those staged, and the first tick not stepped over. -/
def stepZone (z : Nat) (s : State) : List (Nat × Nat × Stamp) × State :=
  let x := s.zone z
  if !x.ticking then ([], s)
  else
    let fire := (x.areas.filter fun a => a.staged && !a.closed && stampGe s.stamp a.closeAt).map fun a => (z, a.tick, a.instant)
    let skipped := ticksPassed x x.nextStage s.stamp
    let next := x.nextStage + skipped
    (fire, if skipped = 0 then s else s.setZone z { x with
      nextStage := next, cSkipped := incBy x.cSkipped skipped, skips := (x.nextStage, next) :: x.skips
      areas := x.areas.filter fun a => a.staged || decide (next ≤ a.tick) })

/-- Stepped-over closes in the order in which the assembler serves them: tick instant, then zone (R137). -/
def sortSteps (xs : List (Nat × Nat × Stamp)) : List (Nat × Nat × Stamp) :=
  xs.foldl (fun acc x => ins x acc) []
where
  /-- a close into its place -/
  ins (x : Nat × Nat × Stamp) : List (Nat × Nat × Stamp) → List (Nat × Nat × Stamp)
    | [] => [x]
    | y :: t =>
      let d := stampDiff x.2.2 y.2.2
      if d < 0 ∨ (d = 0 ∧ x.1 < y.1) then x :: y :: t else y :: ins x t

/-- A step of the time base has taken effect: a forward step fires the closes of staged ticks that it passed, skips the
others, brings the deadlines and frees old store areas (R137, R240). A backward step fires nothing (R138). -/
def stepActs (forward : Bool) (s : State) : State :=
  if !(forward && s.aligning) then s
  else
    let zs := s.align.zones.map (·.1)
    let r := zs.foldl (fun (acc : List (Nat × Nat × Stamp) × State) z => (acc.1 ++ (stepZone z acc.2).1, (stepZone z acc.2).2)) ([], s)
    let s2 := (sortSteps r.1).foldl (fun s f => fireClose f.2.2 f.1 f.2.1 s) r.2
    let next (x : Zone) : Nat := match x.areas.find? fun a => a.staged && !a.closed with | some a => a.tick | none => x.nextStage
    let s3 := zs.foldl (fun s z => s.modZone z fun x => { x with nextClose := max x.nextClose (next x) }) s2
    let s4 := zs.foldl (fun s z => releasesDue z (deadlinesDue z s)) s3
    zs.foldl (fun s z => ((s.zone z).areas.filter fun a => pastStore s a).foldl (fun s a => storeExpiry z a.tick s) s) s4

/-! ### Revisions and the assembler at the end of an instant (R44, R45, R236) -/

/-- A revision assembly that is to start on this edge does, unless a close or trigger has taken the assembler (R45, R236). -/
def revStart (s : State) : State :=
  match s.align.revArea with
  | .ready z t true =>
    if s.align.asm.isNone && s.align.asmQueue.isEmpty then startRevision z t s
    else { s with align := { s.align with revArea := .ready z t false } }
  | _ => s

end Sys2Proof.Machine
end

