-- ==== Sys2Proof/Machine/DetectCmd.lean ====
section
/-! DEFINITION. The commands of the detection and alarm group (R318 to R320, R326 to R332, R334, R339, R344, R345,
R353 to R355). -/

namespace Sys2Proof.Machine

/-- Entries of `n` bytes from offset `o` on. -/
def entries (p : List Byte) (o n count : Nat) : List (Nat × List Byte) :=
  (List.range count).map fun i => (o + n * i, slice p (o + n * i) n)

/-- The fp32 field at an offset. -/
def fldF32 (p : List Byte) (o : Nat) : F32 := BitVec.ofNat 32 (fld p o 4)

/-- The fp32 value nearest π (R319). -/
def f32Pi : F32 := 0x40490FDB#32

/-! ### The coherency tables -/

/-- A stream reference in the fields SOURCE, POSITION, INDEX; POSITION does not count for a local stream (R318). -/
def refOf (p : List Byte) (o : Nat) : StreamRef :=
  if fld p o 1 = 1 then { position := 0, isLocal := true, index := fld p (o + 2) 2 }
  else { position := fld p (o + 1) 1, isLocal := false, index := fld p (o + 2) 2 }

/-- Its range checks (R318). -/
def refChecks (p : List Byte) (o : Nat) : List (Bool × Nat) :=
  [(inRange (fld p o 1) 0 1, o), (fld p o 1 == 1 || inRange (fld p (o + 1) 1) 0 3, o + 1),
   (inRange (fld p (o + 2) 2) 0 (if fld p o 1 = 1 then 3 else 16383), o + 2)]

def cmdCohSetVertices : Cmd :=
  { opcode := 0x0701, modes := anyMode, lenOk := fun p => p.length == 4 + 5 * fld p 2 2
    checks := fun _ p =>
      [(inRange (fld p 0 2) 0 16383, 0), (inRange (fld p 2 2) 1 1024 && decide (fld p 0 2 + fld p 2 2 ≤ 16384), 2)]
      ++ (entries p 4 5 (fld p 2 2)).flatMap fun e => refChecks p e.1 ++ [(inRange (fld p (e.1 + 4) 1) 0 31, e.1 + 4)]
    journaled := jAlways, key := fun p => some (0x0701, [fld p 0 2, fld p 2 2])
    run := fun s _ p => .ok [] (tableWritten 0 (fld p 0 2) (fld p 2 2) { s with detect := { s.detect with
      vertices := ((entries p 4 5 (fld p 2 2)).zipIdx).foldl (fun t (e, i) =>
        tabSet (fld p 0 2 + i) { ref := refOf p e.1, phasor := fld p (e.1 + 4) 1 } t) s.detect.vertices } }) }

/-- An edge entry (R353). -/
def edgeOf (e : List Byte) : Edge :=
  { a := fld e 0 2, b := fld e 2 2, angleOffset := fldF32 e 4, angleLimit := fldF32 e 8, freqLimit := fldF32 e 12, freqTest := fld e 16 1 = 1 }

/-- Both vertices of an edge lie in a zone's vertex range (R320). -/
def edgeInside (z : CohZone) (v : Nat) : Bool := decide (z.firstVertex ≤ v) && decide (v < z.firstVertex + z.vertexCount)

/-- The checks of one edge (R319). -/
def edgeChecks (o : Nat) (b : List Byte) : List (Bool × Nat) :=
  let e := edgeOf b
  [(inRange e.a 0 16383, o), (inRange e.b 0 16383 && e.a != e.b, o + 2), (f32Le (f32Abs e.angleOffset) f32Pi, o + 4),
   (f32Lt 0 e.angleLimit && f32Le e.angleLimit f32Pi, o + 8),
   (fld b 16 1 != 1 || (f32Le (ratF32 (1 / 1000)) e.freqLimit && f32Le e.freqLimit 0x41200000#32), o + 12), (inRange (fld b 16 1) 0 1, o + 16)]

/-- The checks of edge number `n` against the zones whose edge range holds it (R320). -/
def edgeZoneChecks (s : State) (n o : Nat) (e : Edge) : List (Bool × Nat) :=
  let zs := s.detect.coh.filter fun z => decide (z.2.firstEdge ≤ n) && decide (n < z.2.firstEdge + z.2.edgeCount)
  [(zs.all fun z => edgeInside z.2 e.a, o), (zs.all fun z => edgeInside z.2 e.b, o + 2)]

def cmdCohSetEdges : Cmd :=
  { opcode := 0x0702, modes := anyMode, lenOk := fun p => p.length == 6 + 17 * fld p 4 2
    checks := fun s p =>
      let es := (entries p 6 17 (fld p 4 2)).zipIdx
      [(inRange (fld p 0 4) 0 65535, 0), (inRange (fld p 4 2) 1 256 && decide (fld p 0 4 + fld p 4 2 ≤ 65536), 4)]
      ++ (es.flatMap fun (e, _) => edgeChecks e.1 e.2)
      ++ es.flatMap fun (e, i) => edgeZoneChecks s (fld p 0 4 + i) e.1 (edgeOf e.2)
    journaled := jAlways, key := fun p => some (0x0702, [fld p 0 4, fld p 4 2])
    run := fun s _ p => .ok [] (tableWritten 1 (fld p 0 4) (fld p 4 2) { s with detect := { s.detect with
      edges := ((entries p 6 17 (fld p 4 2)).zipIdx).foldl (fun t (e, i) => tabSet (fld p 0 4 + i) (edgeOf e.2) t) s.detect.edges } }) }

/-- Two runs share an entry. -/
def runsOverlap (a n b m : Nat) : Bool := decide (0 < n) && decide (0 < m) && decide (a < b + m) && decide (b < a + n)

def cmdCohSetZone : Cmd :=
  { opcode := 0x0703, modes := anyMode, lenOk := lenIs 19
    checks := fun s p =>
      let others := s.detect.coh.filter fun z => z.1 != fld p 0 1
      let v := fld p 2 2
      let nv := fld p 4 2
      let e := fld p 6 4
      let ne := fld p 10 4
      let inside (x : Nat) : Bool := decide (v ≤ x) && decide (x < v + nv)
      [(inRange (fld p 0 1) 0 63, 0), (inRange (fld p 1 1) 0 1, 1), (inRange v 0 16383, 2), (decide (v + nv ≤ 16384), 4),
       (inRange e 0 65535, 6), (decide (e + ne ≤ 65536), 10), (fld p 14 2 == 0xFFFF || inside (fld p 14 2), 14),
       (inRange (fld p 16 2) 1 16384, 16), (inRange (fld p 18 1) 0 3, 18),
       (others.all fun z => !runsOverlap v nv z.2.firstVertex z.2.vertexCount, 2),
       (others.all fun z => !runsOverlap e ne z.2.firstEdge z.2.edgeCount, 6),
       (s.detect.edges.all fun x => !(decide (e ≤ x.1) && decide (x.1 < e + ne)) || (inside x.2.a && inside x.2.b), 6)]
    journaled := jAlways, key := keyByte 0x0703
    run := fun s _ p =>
      let z := s.coh (fld p 0 1)
      let z' : CohZone := { z with
        enable := fld p 1 1 = 1, firstVertex := fld p 2 2, vertexCount := fld p 4 2, firstEdge := fld p 6 4, edgeCount := fld p 10 4
        reference := if fld p 14 2 = 0xFFFF then none else some (fld p 14 2), minIsland := fld p 16 2
        unknownOpen := (fld p 18 1).testBit 0, flaggedDark := (fld p 18 1).testBit 1 }
      .ok (be 4 (cohCycles z')) (s.setCoh (fld p 0 1) z') }

/-- The result that COH_GET_RESULT asks for (R326). -/
def cohResultOf (s : State) (p : List Byte) : Option CohResult :=
  if fld p 1 1 = 0 then (s.coh (fld p 0 1)).latest else (s.coh (fld p 0 1)).atRaise

def cmdCohGetResult : Cmd :=
  { opcode := 0x0704, modes := anyMode, lenOk := lenIs 6
    checks := fun s p =>
      [(inRange (fld p 0 1) 0 63, 0), (inRange (fld p 1 1) 0 1, 1), (inRange (fld p 4 2) 0 1024, 4), ((cohResultOf s p).isSome, 1),
       (match cohResultOf s p with | some r => decide (fld p 2 2 + fld p 4 2 ≤ r.labels.length) | none => true, 2)]
    journaled := jNever, key := noKey
    run := fun s _ p =>
      match cohResultOf s p with
      | none => .bad 1
      | some r => replyRead 3 (tableWords 7 (fld p 0 1) 1) (be 4 r.seq ++ stampBytes r.instant ++ be 2 r.lit ++ be 2 r.components ++ be 2 r.islands ++ be 2 r.islanded
          ++ be 2 r.mainLabel ++ ((r.labels.drop (fld p 2 2)).take (fld p 4 2)).flatMap fun l => be 2 l) s }

/-! ### The band-energy monitor -/

def cmdOscSetBands : Cmd :=
  { opcode := 0x0705, modes := anyMode, lenOk := lenIs 68
    checks := fun _ p =>
      [(inRange (fld p 0 1) 0 63, 0)]
      ++ ((entries p 1 9 6).flatMap fun e => [(inRange (fld p e.1 1) 0 1, e.1), (f32Lt (fldF32 p (e.1 + 1)) (fldF32 p (e.1 + 5)), e.1 + 1)])
      ++ [(inRange (fld p 55 2) 1 4096, 55), (inRange (fld p 57 2) 1 4096, 57), (inRange (fld p 59 4) 10 60000, 59),
          (inRange (fld p 63 4) 100 600000, 63), (inRange (fld p 67 1) 0 15, 67)]
    journaled := jAlways, key := keyByte 0x0705
    run := fun s _ p =>
      let z := fld p 0 1
      let bands : List Band := (entries p 1 9 6).map fun e =>
        { enable := fld p e.1 1 = 1, fLo := fldF32 p (e.1 + 1), fHi := fldF32 p (e.1 + 5) }
      let o : OscZone := { bands := some bands, wPk := some (fld p 55 2), wRms := some (fld p 57 2), attack := fld p 59 4, release := fld p 63 4, fillLimit := fld p 67 1 }
      let active := (List.range 6).foldl (fun n i => match bands[i]? with
        | some b => n + bit (bandActive (s.zone z).rate b) i
        | none => n) 0
      .ok (be 1 active) (oscReset (fun g => g.zone == z) { s with detect := { s.detect with osc := tabSet z o s.detect.osc } }) }

/-- The checks of one signal entry (R327). -/
def signalChecks (p : List Byte) (o : Nat) : List (Bool × Nat) :=
  let ty := fld p (o + 2) 1
  [(inRange (fld p o 1) 0 1, o), (inRange (fld p (o + 1) 1) 0 63, o + 1), (inRange ty 0 4, o + 2)] ++ refChecks p (o + 3)
    ++ [(ty == 2 || ty == 3 || inRange (fld p (o + 7) 1) 0 (if ty = 4 then 15 else 31), o + 7)]
    ++ (if ty = 1 then refChecks p (o + 8) ++ [(inRange (fld p (o + 12) 1) 0 31, o + 12)] else [])
    ++ [(inRange (fld p (o + 13) 1) 0 15, o + 13)]

/-- A signal entry as written: reset (R331). -/
def signalOf (p : List Byte) (o : Nat) : Signal :=
  Signal.zero { zone := fld p (o + 1) 1, type := fld p (o + 2) 1, ref := refOf p (o + 3), item := fld p (o + 7) 1, ref2 := refOf p (o + 8), item2 := fld p (o + 12) 1,
                group := fld p (o + 13) 1 }

def cmdOscSetSignals : Cmd :=
  { opcode := 0x0706, modes := anyMode, lenOk := fun p => p.length == 4 + 14 * fld p 2 2
    checks := fun _ p =>
      [(inRange (fld p 0 2) 0 4095, 0), (inRange (fld p 2 2) 1 256 && decide (fld p 0 2 + fld p 2 2 ≤ 4096), 2)]
      ++ (entries p 4 14 (fld p 2 2)).flatMap fun e => signalChecks p e.1
    journaled := jAlways, key := fun p => some (0x0706, [fld p 0 2, fld p 2 2])
    run := fun s _ p => .ok [] (tableWritten 2 (fld p 0 2) (fld p 2 2) { s with detect := { s.detect with
      signals := ((entries p 4 14 (fld p 2 2)).zipIdx).foldl (fun t (e, i) =>
        if fld p e.1 1 = 1 then tabSet (fld p 0 2 + i) (signalOf p e.1) t else tabErase (fld p 0 2 + i) t) s.detect.signals } }) }

def cmdOscSetThresholds : Cmd :=
  { opcode := 0x0707, modes := anyMode, lenOk := lenIs 73, checks := fun _ p => [(inRange (fld p 0 1) 0 15, 0)]
    journaled := jAlways, key := keyByte 0x0707
    run := fun s _ p => .ok [] (tableWritten 3 (fld p 0 1) 1 { s with detect := { s.detect with
      thresholds := tabSet (fld p 0 1) ((List.range 18).map fun i => fldF32 p (1 + 4 * i)) s.detect.thresholds } }) }

def cmdOscGetSignal : Cmd :=
  { opcode := 0x0708, modes := anyMode, lenOk := lenIs 2, checks := fun _ p => [(inRange (fld p 0 2) 0 4095, 0)]
    journaled := jNever, key := noKey
    run := fun s _ p =>
      match tabGet? (fld p 0 2) s.detect.signals with
      | none => .ok (List.replicate 80 0) s
      | some g =>
        let rs := (List.range 18).map fun i => bandResult (s.osc g.zone) (s.zone g.zone).rate g (i / 3) (i % 3)
        replyRead 3 (tableWords 2 (fld p 0 2) 1) (be 4 g.seq ++ (rs.flatMap fun r => be 4 (f64To32 r.1).toNat) ++ be 4 (rs.zipIdx.foldl (fun n (r, i) => n + bit r.2 i) 0)) s }

/-! ### Alarm definitions -/

/-- The source parameters' checks (R335, R354); `o` is their offset. -/
def sourceChecks (src : Nat) (p : List Byte) (o : Nat) : List (Bool × Nat) :=
  match src with
  | 2 => [(inRange (fld p o 1) 0 5, o), (inRange (fld p (o + 1) 1) 0 15, o + 1), (inRange (fld p (o + 2) 1) 0 2, o + 2),
          (inRange (fld p (o + 4) 2) 1 4096, o + 4), (f32Le 0x3F000000#32 (fldF32 p (o + 6)) && f32Le (fldF32 p (o + 6)) 0x3F800000#32, o + 6)]
  | 3 => [(inRange (fld p o 2) 0 255, o), (inRange (fld p (o + 2) 1) 0 3, o + 2), (inRange (fld p (o + 3) 1) 0 2, o + 3)]
  | 4 => [(inRange (fld p o 2) 0 16384, o)]
  | _ => []

/-- The source that parameters spell (R354). -/
def sourceOf (src : Nat) (p : List Byte) (o : Nat) : AlmSource :=
  match src with
  | 2 => .oscillation (fld p o 1) (fld p (o + 1) 1) (fld p (o + 2) 1) (fld p (o + 4) 2) (fldF32 p (o + 6))
  | 3 => .kernel (fld p o 2) (fld p (o + 2) 1) (fld p (o + 3) 1) (fldF32 p (o + 4))
  | 4 => .dataLoss (fld p o 2)
  | _ => .island

/-- ALARM_SET's effect (R334, R340, R344, R612). -/
def setAlarm (s : State) (p : List Byte) : State :=
  let n := fld p 0 2
  let old : Cnt × Cnt × Cnt := match s.ald n with
    | some d => (d.cRaises, d.cClears, d.cUndecided)
    | none => (tabGet? n s.detect.cAlarmOld).getD (0, 0, 0)
  let d : AlmDef := { source := sourceOf (fld p 3 1) p 14, zone := fld p 4 1, pickup := fld p 5 2, dropout := fld p 7 2
                      latch := fld p 9 1 = 1, pinMask := BitVec.ofNat 16 (fld p 10 2), destMask := BitVec.ofNat 8 (fld p 12 1)
                      severity := fld p 13 1, cRaises := old.1, cClears := old.2.1, cUndecided := old.2.2 }
  let t : DetectSt :=
    if fld p 2 1 = 1 then { s.detect with alarms := tabSet n d s.detect.alarms, cAlarmOld := tabErase n s.detect.cAlarmOld }
    else { s.detect with alarms := tabErase n s.detect.alarms, cAlarmOld := tabSet n old s.detect.cAlarmOld }
  updatePins { s with detect := t }

def cmdAlarmSet : Cmd :=
  { opcode := 0x0709, modes := anyMode, lenOk := lenIs 26
    checks := fun _ p =>
      [(inRange (fld p 0 2) 0 255, 0), (inRange (fld p 2 1) 0 1, 2), (inRange (fld p 3 1) 1 4, 3), (inRange (fld p 4 1) 0 63, 4),
       (inRange (fld p 5 2) 1 1000, 5), (inRange (fld p 7 2) 1 10000, 7), (inRange (fld p 9 1) 0 1, 9), (inRange (fld p 13 1) 0 3, 13)]
      ++ sourceChecks (fld p 3 1) p 14
    journaled := jAlways, key := keyWord 0x0709, run := fun s _ p => .ok [] (tableWritten 4 (fld p 0 2) 1 (setAlarm s p)) }

/-- A destination as ALARM_SET_DEST spells it (R345, R353). -/
def destOf (p : List Byte) : AlmDest :=
  let v6 := fld p 3 1 = 6
  { enable := fld p 1 1 = 1, port := fld p 2 1, ipv6 := v6, mac := fld p 4 6, ip := ipOf v6 (slice p 10 16), srcPort := fld p 26 2, dstPort := fld p 28 2
    vlan := fld p 30 2, priority := fld p 32 1, dscp := fld p 33 1, repeatMax := fld p 34 2 }

def cmdAlarmSetDest : Cmd :=
  { opcode := 0x070A, modes := anyMode, lenOk := lenIs 36
    checks := fun _ p =>
      [(inRange (fld p 0 1) 0 7, 0), (inRange (fld p 1 1) 0 1, 1), (inRange (fld p 2 1) 0 3, 2), (fld p 3 1 == 4 || fld p 3 1 == 6, 3),
       (ipFieldOk (fld p 3 1 == 6) (slice p 10 16), 10), (inRange (fld p 30 2) 0 4094, 30), (inRange (fld p 32 1) 0 7, 32),
       (inRange (fld p 33 1) 0 63, 33), (inRange (fld p 34 2) 8 60000, 34)]
    journaled := jAlways, key := keyByte 0x070A
    run := fun s _ p => .ok [] { s with detect := { s.detect with dests := vset s.detect.dests (fld p 0 1) (destOf p) } } }

def cmdAlarmGetStatus : Cmd :=
  { opcode := 0x070B, modes := anyMode, lenOk := lenIs 0, checks := noChecks, journaled := jNever, key := noKey
    run := fun s _ _ =>
      let st := (List.range 256).flatMap fun n => match s.ald n with
        | some d => be 1 (d.state.code + bit d.testEnd.isSome 7)
        | none => be 1 0
      replyRead 3 (tableWords 4 0 256) (st ++ be 2 (if s.aligning then s.detect.pins.toNat else 0xFFFF)) s }

def cmdAlarmAck : Cmd :=
  { opcode := 0x070C, modes := anyMode, lenOk := lenIs 2, checks := fun _ p => [(inRange (fld p 0 2) 0 255 || fld p 0 2 == 0xFFFF, 0)]
    journaled := jAlways, key := noKey
    run := fun s _ p =>
      let ns := if fld p 0 2 = 0xFFFF then s.detect.alarms.map (·.1) else [fld p 0 2]
      let r := ns.foldl (fun (x : Nat × State) n => (x.1 + (almAck n x.2).1, (almAck n x.2).2)) (0, s)
      .ok (be 2 r.1) r.2 }

def cmdAlarmTest : Cmd :=
  { opcode := 0x070D, modes := anyMode, lenOk := lenIs 4
    checks := fun s p => [(inRange (fld p 0 2) 0 255 && (s.ald (fld p 0 2)).any (fun d => d.state != .disabled), 0), (inRange (fld p 2 2) 0 60000, 2)]
    journaled := jAlways, key := noKey
    run := fun s _ p => .ok [] (if fld p 2 2 = 0 then testStop (fld p 0 2) s else testStart (fld p 0 2) (fld p 2 2) s) }

/-- The counters of R355. -/
def detectCounters (s : State) : List Cnt :=
  ((List.range 64).flatMap fun z => let x := s.coh z; [x.cEvals, x.cIsland, x.cOsc])
    ++ ((List.range 256).flatMap fun n => match s.ald n with
        | some d => [d.cRaises, d.cClears, d.cUndecided]
        | none => let c := (tabGet? n s.detect.cAlarmOld).getD (0, 0, 0); [c.1, c.2.1, c.2.2])
    ++ ((List.range 4).flatMap fun p => [vget 0 s.detect.cFrames p, vget 0 s.detect.cRepeats p, vget 0 s.detect.cTxDrop p, vget 0 s.detect.cRepeatDrop p])
    ++ [s.detect.cSignalResets]

/-- They return to 0. -/
def clearDetect (s : State) : State :=
  { s with detect := { s.detect with
    coh := tabMap (fun _ z => { z with cEvals := 0, cIsland := 0, cOsc := 0 }) s.detect.coh
    alarms := tabMap (fun _ d => { d with cRaises := 0, cClears := 0, cUndecided := 0 }) s.detect.alarms
    cAlarmOld := [], cFrames := Vector.replicate 4 0, cRepeats := Vector.replicate 4 0, cTxDrop := Vector.replicate 4 0
    cRepeatDrop := Vector.replicate 4 0, cSignalResets := 0 } }

def cmdDetectGetCounters : Cmd := countersCmd 0x070E (fun s => cntBytes (detectCounters s)) clearDetect

end Sys2Proof.Machine
end

