-- ==== Sys2Proof/Machine/KernelCmd.lean ====
section
/-! DEFINITION. The kernel catalogue's limits, parameter tables, costs and admission, and the commands of the kernel
group (R360, R363, R374 to R376, R379 to R385). -/

namespace Sys2Proof.Machine

/-! ### The catalogue (R381, R382) -/

/-- A scalar's range: its least and greatest value, none where the catalogue gives no bound, and whether it counts
something and is therefore a whole number. -/
structure ScalarSpec where
  lo    : Option Rat
  hi    : Option Rat
  whole : Bool

/-- A scalar with bounds; a whole one; one without bounds. -/
def scRange (lo hi : Rat) : ScalarSpec := { lo := some lo, hi := some hi, whole := false }
def scWhole (lo hi : Nat) : ScalarSpec := { lo := some (lo : Rat), hi := some (hi : Rat), whole := true }
def scAny : ScalarSpec := { lo := none, hi := none, whole := false }
def scFrom0 : ScalarSpec := { lo := some 0, hi := none, whole := false }
def scWhole0 : ScalarSpec := { lo := some 0, hi := none, whole := true }

/-- What the catalogue says of a kernel: greatest entry count, greatest PARTS, greatest nnz of its matrix block (none
without one), and its scalars. -/
structure KernSpec where
  maxN     : Nat
  maxParts : Nat
  maxNnz   : Option Nat
  scalars  : List ScalarSpec

/-- The catalogue, kernels 1 to 24 (R381, R382). A set of SEQ_COMP is three entries. -/
def catalogue : List KernSpec :=
  [{ maxN := 256, maxParts := 1, maxNnz := none, scalars := [scWhole 8 32, scRange (990 / 1000) (9999 / 10000), scAny, scAny, scAny] },
   { maxN := 32, maxParts := 1, maxNnz := none, scalars := [scWhole 1 600, scWhole 16 512, scWhole 4 64, scWhole 2 64, scAny] },
   { maxN := 512, maxParts := 1, maxNnz := none, scalars := [scFrom0, scRange (1 / 100) 1, scRange 1 60, scAny] },
   { maxN := 8192, maxParts := 1, maxNnz := some 131072, scalars := [scRange 1 20, scWhole0] },
   { maxN := 1024, maxParts := 1, maxNnz := none, scalars := [scWhole 1 16, scAny, scWhole 1 64] },
   { maxN := 2048, maxParts := 16, maxNnz := none, scalars := [scAny] },
   { maxN := 1024, maxParts := 1, maxNnz := some 65536, scalars := [scRange (1 / 10) 1] },
   { maxN := 128, maxParts := 1, maxNnz := none, scalars := [scWhole 1 600, scWhole 256 4096, scAny, scAny, scAny] },
   { maxN := 64, maxParts := 1, maxNnz := none, scalars := [scWhole 1 600, scWhole 64 4096, scWhole 4 40, scAny, scAny, scAny] },
   { maxN := 256, maxParts := 1, maxNnz := none, scalars := [scWhole 1 600, scWhole 64 2048, scFrom0, scAny] },
   { maxN := 1024, maxParts := 1, maxNnz := none, scalars := [scAny, scWhole 1 64] },
   { maxN := 1280, maxParts := 1, maxNnz := none, scalars := [scAny, scWhole 2 64, scAny] }] ++
  [{ maxN := 4096, maxParts := 16, maxNnz := none, scalars := [scWhole 2 1000, scAny, scAny] },
   { maxN := 256, maxParts := 1, maxNnz := none, scalars := [scWhole 1 1024, scAny] },
   { maxN := 256, maxParts := 1, maxNnz := none, scalars := [scRange (9 / 10) (9999 / 10000), scAny] },
   { maxN := 3072, maxParts := 16, maxNnz := none, scalars := [scAny, scAny] },
   { maxN := 2048, maxParts := 1, maxNnz := none, scalars := [] },
   { maxN := 512, maxParts := 1, maxNnz := none, scalars := [scAny, scRange 100 2000] },
   { maxN := 256, maxParts := 1, maxNnz := none, scalars := [scAny, scAny, scAny] },
   { maxN := 1024, maxParts := 1, maxNnz := none, scalars := [scAny, scAny] },
   { maxN := 4096, maxParts := 16, maxNnz := none, scalars := [scAny, scAny] },
   { maxN := 4096, maxParts := 16, maxNnz := none, scalars := [scAny] },
   { maxN := 4096, maxParts := 16, maxNnz := none, scalars := [scWhole 1 64] },
   { maxN := 2048, maxParts := 1, maxNnz := none, scalars := [scAny, scAny, scWhole 1 64] }]

/-- The catalogue's row of a kernel. -/
def kernSpec (k : Nat) : Option KernSpec := if k = 0 then none else catalogue[k - 1]?

/-- The whole part of a scalar of a table. -/
def scalNat (ss : List F32) (i : Nat) : Nat := (f32Rat (ss.getD i 0)).floor.toNat

/-- The greatest cost of an item of `n` entries, in ECLK: that of a compute tick or an event tick (R379, R381). -/
def itemCost (kernel n nnz : Nat) (ss : List F32) : Nat :=
  let c := scalNat ss
  match kernel with
  | 1 => 4000 + n * (80 + 6 * c 0 ^ 2)
  | 2 => 20000 + 40 * n * c 1 + 30 * c 2 ^ 3
  | 3 => 6000 + 220 * n
  | 4 => 5000 + 24 * nnz + 30 * n
  | 5 => 2000 + 12 * n + 200 * c 0
  | 6 => 1500 + 14 * n
  | 7 => 3000 + 20 * nnz + 40 * n
  | 8 => 5000 + n * c 1 * (3 * Nat.log2 (c 1) + 4)
  | 9 => 8000 + 2 * n * c 1 * (c 2 + 1) + 40 * c 2 ^ 3
  | 10 => 4000 + 18 * n * c 1
  | 11 => 1000 + 10 * n
  | 12 => 3000 + 12 * n
  | 13 => 1000 + 16 * n
  | 14 => 2000 + 160 * n
  | 15 => 2000 + 140 * n
  | 16 => 1000 + 45 * cdiv n 3
  | 17 => 1000 + 22 * n
  | 18 => 50000 + 400 * n
  | 19 => 1000 + 30 * n
  | 20 => 1500 + 10 * n
  | 21 => 1000 + 8 * n
  | 22 => 1000 + 14 * n
  | 23 => 1000 + 9 * n + 50 * c 0
  | 24 => 1500 + 12 * n
  | _ => 0

/-- The state area of a table of `n` entries, in bytes (R382). -/
def stateBytes (kernel n : Nat) (ss : List F32) : Nat :=
  let c := scalNat ss
  match kernel with
  | 1 => 16 + n * 8 * c 0 ^ 2
  | 2 => c 1 * n * 4
  | 3 => 64 + n * 64
  | 5 => 64 * c 0
  | 8 => c 1 * n * 4
  | 9 => c 1 * n * 4
  | 10 => c 1 * n * 8
  | 11 => 64
  | 12 => 64 * n
  | 13 => 16 * n
  | 14 => 32 * n
  | 15 => 64 * n
  | 18 => 32 * n
  | 20 => 64
  | 22 => 8 * n
  | 24 => 64
  | _ => 0

/-- The part costs of a table (R379). -/
def partCosts (t : ParamTable) (parts : Nat) : List Nat :=
  (List.range parts).map fun p => itemCost t.kernel (partCount t.entries.length parts p) t.nnz t.scalars
def tableState (t : ParamTable) : Nat := stateBytes t.kernel t.entries.length t.scalars

/-! ### Parameter tables (R375, R376) -/

/-- An entry as 12 bytes spell it. -/
def entryOf (b : List Byte) : ParamEntry :=
  { ref := refOf b 0, item := fld b 4 1, role := fld b 5 1, link := fld b 6 2, weight := fldF32 b 8 }

/-- Bytes cut into rows of `n`. -/
def rowsOf (n : Nat) : Nat → List Byte → List (List Byte)
  | 0, _ => []
  | k + 1, bs => bs.take n :: rowsOf n k (bs.drop n)

/-- A table as its bytes spell it; none when the lengths do not agree. -/
def parseTable (bs : List Byte) : Option ParamTable :=
  let n := fld bs 2 2
  let k := fld bs 4 2
  let m := fld bs 8 4
  if bs.length < 16 ∨ bs.length ≠ 16 + 4 * k + 12 * n + m ∨ 8192 < n ∨ !(allZero (slice bs 1 1) && allZero (slice bs 6 2) && allZero (slice bs 12 4))
  then none
  else
    let body := bs.drop 16
    let block := body.drop (4 * k + 12 * n)
    let rows := fld block 0 4
    let nnz := fld block 4 4
    if m ≠ 0 ∧ m ≠ 8 + 4 * (rows + 1) + 20 * nnz then none
    else some { kernel := fld bs 0 1, scalars := (rowsOf 4 k body).map fun b => BitVec.ofNat 32 (ofBe b)
                entries := (rowsOf 12 n (body.drop (4 * k))).map entryOf
                rows := if m = 0 then 0 else rows, nnz := if m = 0 then 0 else nnz, bytes := bs, failed := false }

/-- A scalar lies in its range; bounds are compared as the nearest fp32 values. -/
def scalarOk (x : ScalarSpec) (v : F32) : Bool :=
  !f32IsNan v
    && (match x.lo with | some l => f32Le (ratF32 l) v | none => true)
    && (match x.hi with | some h => f32Le v (ratF32 h) | none => true)
    && (!x.whole || (f32Finite v && (f32Rat v).den == 1))

/-- An entry reference is one that R375 allows. -/
def entryRefOk (e : ParamEntry) (source : Nat) : Bool :=
  inRange source 0 1 && (e.ref.isLocal || inRange e.ref.position 0 3) && inRange e.ref.index 0 (if e.ref.isLocal then 3 else 16383)
    && (decide (e.item ≤ 0x2F) || e.item == 0x40 || e.item == 0x41)

/-- Rising row starts. -/
def rising : List Nat → Bool
  | a :: b :: t => decide (a ≤ b) && rising (b :: t)
  | _ => true

/-- The matrix block is sound: its row starts rise from 0 to nnz and its columns are entries (R376). -/
def matrixOk (t : ParamTable) (block : List Byte) : Bool :=
  let starts := (rowsOf 4 (t.rows + 1) (block.drop 8)).map ofBe
  starts.head? == some 0 && starts.getLast? == some t.nnz && rising starts
    && (rowsOf 20 t.nnz (block.drop (8 + 4 * (t.rows + 1)))).all fun r => decide (fld r 0 4 < t.entries.length)

/-- The checks of a table's kernel (R376, R382). -/
def tableOk (t : ParamTable) : Bool :=
  match kernSpec t.kernel with
  | none => false
  | some x =>
    let n := t.entries.length
    let k := t.scalars.length
    let c := scalNat t.scalars
    let block := t.bytes.drop (16 + 4 * k + 12 * n)
    let groups : Option Nat := match t.kernel with
      | 5 => some (c 0) | 23 => some (c 0) | 12 => some 2 | 16 => some 3 | 24 => some 2 | _ => none
    (if t.kernel = 6 then decide (1 ≤ k) else if t.kernel = 18 then k == 2 + 2 * n else k == x.scalars.length)
      && decide (n ≤ x.maxN) && (t.kernel != 16 || n % 3 == 0)
      && ((x.scalars.zip t.scalars).all fun (r, v) => scalarOk r v)
      && (t.kernel != 2 || (decide (2 * c 2 < c 1) && decide (c 3 ≤ c 2)))
      && (t.kernel != 4 || decide (c 1 ≤ n)) && (t.kernel != 8 || 2 ^ Nat.log2 (c 1) == c 1)
      && (match x.maxNnz with
          | none => block.isEmpty
          | some m => !block.isEmpty && decide (t.nnz ≤ m) && decide (t.rows ≤ 8192) && matrixOk t block)
      && ((t.entries.zip (rowsOf 12 n (t.bytes.drop (16 + 4 * k)))).all fun (e, b) =>
        entryRefOk e (fld b 0 1)
          && (e.link == 0xFFFF || decide (e.link < if t.kernel = 6 ∧ e.role = 1 then k else n))
          && (match groups with | some g => decide (e.role < g) | none => true))

/-! ### Admission (R363, R374, R380) -/

/-- The sum of Q_z × PARTS over the enabled flows, with zone settings as `zone` gives them (R363). -/
def queueSum (zone : Nat → Zone) (flows : Tab Flow) : Nat :=
  flows.foldl (fun n x => if x.2.enable then n + qzOf (zone x.2.zone).rate (zone x.2.zone).waitUs (zone x.2.zone).trigger * x.2.parts else n) 0

/-- The chain costs that end in each enabled flow, in ascending flow number (R380). -/
def chainCosts (flows : Tab Flow) (tables : Tab ParamTable) : List (Nat × Nat) :=
  flows.foldl (fun acc x =>
    match x.2.enable, tabGet? x.2.table tables with
    | true, some t =>
      let before := match x.2.after with | some a => ((acc.find? fun y => y.1 = a).map (·.2)).getD 0 | none => 0
      acc ++ [(x.1, before + (partCosts t x.2.parts).foldl max 0 + 160)]
    | _, _ => acc) []

/-- State areas, load and chains stay within their bounds (R374, R380). -/
def engineFits (zone : Nat → Zone) (flows : Tab Flow) (tables : Tab ParamTable) : Bool :=
  let on : List (Nat × Flow × ParamTable) := flows.filterMap fun x =>
    if x.2.enable then (tabGet? x.2.table tables).map fun t => (x.1, x.2, t) else none
  let state := on.foldl (fun n x => n + tableState x.2.2) 0
  let load := on.foldl (fun n x => n + (partCosts x.2.2 x.2.1.parts).foldl (· + ·) 0 * (zone x.2.1.zone).rate) 0
  decide (2 * state ≤ 268435456) && decide (load ≤ 11000000000)
    && (chainCosts flows tables).all fun x => decide (x.2 * (zone (tabGet {} x.1 flows).zone).rate ≤ 1000000000)

/-! ### The commands (R384) -/

def cmdKernelGetCatalogue : Cmd :=
  { opcode := 0x0710, modes := anyMode, lenOk := lenIs 0, checks := noChecks, journaled := jNever, key := noKey
    run := fun s _ _ => .ok (be 4 s.catVer ++ be 1 24 ++ catalogue.zipIdx.flatMap fun (x, i) =>
      be 1 (i + 1) ++ be 1 x.maxParts ++ be 1 x.scalars.length ++ [Config.stateFormula (i + 1)]) s }

/-- A table's bytes with a chunk written into them; a gap before the chunk holds zeros. -/
def putChunk (old : List Byte) (o : Nat) (data : List Byte) : List Byte := padTo o old ++ data ++ old.drop (o + data.length)

/-- A whole table takes the place of an old one (R374 to R376, R380). -/
def putTable (n : Nat) (bytes : List Byte) (s : State) : CmdOut :=
  match parseTable bytes with
  | none => .bad 8
  | some t =>
    let users := s.kernel.flows.filter fun x => x.2.enable && x.2.table = n
    if !(tableOk t && users.all fun x => x.2.kernel == t.kernel) then .bad 8
    else
      let tables := tabSet n t s.kernel.tables
      if 268435456 < tables.foldl (fun m x => m + x.2.bytes.length) 0 ∨ !engineFits s.zone s.kernel.flows tables then .err stNoResource
      else
        let s1 := { s with kernel := { s.kernel with
          tables, chunks := tabErase n s.kernel.chunks
          flows := tabMap (fun _ (f : Flow) => if f.table = n then { f with stateReset := true } else f) s.kernel.flows } }
        let rec_ : Setting := { key := (0x0711, [n]), opcode := 0x0711, params := be 1 n ++ bytes }
        .ok (be 4 bytes.length) (dramWritten (s.region 0 + Config.tableOffset n % 268435456) bytes.length
          { s1 with host := { s1.host with settings := recordSetting rec_ s1.host.settings } })

/-- KERNEL_SET_PARAMS' effect (R375, R376). -/
def setParams (s : State) (p : List Byte) : CmdOut :=
  let n := fld p 0 1
  let all := putChunk (tabGet [] n s.kernel.chunks) (fld p 1 4) (p.drop 8)
  if fld p 7 1 = 1 then putTable n all s
  else .ok [] { s with kernel := { s.kernel with chunks := tabSet n all s.kernel.chunks } }

def cmdKernelSetParams : Cmd :=
  { opcode := 0x0711, modes := anyMode, lenOk := fun p => decide (8 ≤ p.length) && p.length == 8 + fld p 5 2
    checks := fun _ p => [(decide (fld p 1 4 + fld p 5 2 ≤ 4194304), 1), (inRange (fld p 5 2) 1 1024, 5), (inRange (fld p 7 1) 0 1, 7)]
    journaled := jAlways, key := noKey, run := fun s _ p => setParams s p }

/-- The settings that KERNEL_SET_FLOW spells (R384). -/
def flowOf (p : List Byte) : Flow :=
  { enable := fld p 1 1 = 1, zone := fld p 2 1, kernel := fld p 3 1, table := fld p 4 1, parts := fld p 5 1
    after := if fld p 6 1 = 0xFF then none else some (fld p 6 1) }

/-- Its checks (R360). -/
def flowChecks (s : State) (p : List Byte) : List (Bool × Nat) :=
  let f := flowOf p
  [(inRange (fld p 1 1) 0 1, 1), (inRange f.zone 0 63, 2), (inRange f.kernel 1 24, 3),
   ((match tabGet? f.table s.kernel.tables with | some t => t.kernel == f.kernel | none => false), 4),
   (inRange f.parts 1 (match kernSpec f.kernel with | some x => x.maxParts | none => 1), 5),
   (match f.after with
    | none => true
    | some a => decide (a < fld p 0 1) && (match tabGet? a s.kernel.flows with | some x => x.zone == f.zone | none => false), 6)]

/-- KERNEL_SET_FLOW's effect (R360, R363, R374, R380). -/
def setFlow (s : State) (p : List Byte) : CmdOut :=
  let n := fld p 0 1
  let f : Flow := { flowOf p with ring := (s.flow n).ring, state := (s.flow n).state, copy := (s.flow n).copy }
  let flows := tabSet n f s.kernel.flows
  if 4096 < queueSum s.zone flows ∨ !engineFits s.zone flows s.kernel.tables then .err stNoResource
  else
    let t := (tabGet? f.table s.kernel.tables).filter fun t => t.kernel = f.kernel
    .ok (be 4 (match t with | some t => (partCosts t f.parts).foldl max 0 | none => 0) ++ be 4 (match t with | some t => tableState t | none => 0))
      (tableWritten 5 n 1 { s with kernel := { s.kernel with flows } })

def cmdKernelSetFlow : Cmd :=
  { opcode := 0x0712, modes := anyMode, lenOk := lenIs 7, checks := flowChecks, journaled := jAlways, key := keyByte 0x0712
    run := fun s _ p => setFlow s p }

def cmdKernelGetFlow : Cmd :=
  { opcode := 0x0713, modes := anyMode, lenOk := lenIs 1, checks := noChecks, journaled := jNever, key := noKey
    run := fun s _ p =>
      let f := s.flow (fld p 0 1)
      let costs := match (tabGet? f.table s.kernel.tables).filter fun t => t.kernel = f.kernel with
        | some t => partCosts t f.parts
        | none => []
      replyRead 3 (tableWords 5 (fld p 0 1) 1) (be 1 (bit f.enable 0) ++ be 1 f.zone ++ be 1 f.kernel ++ be 1 f.table ++ be 1 f.parts ++ be 1 (f.after.getD 0xFF)
        ++ (List.range 16).flatMap fun i => be 4 (costs.getD i 0)) s }

/-- The result slot of a SEQ, when it is readable (R378). -/
def resultOf (s : State) (flow seq : Nat) : Option ResultSlot :=
  (tabGet? (seq % 4) (s.flow flow).ring).filter fun r => r.seq = seq

def cmdKernelReadResult : Cmd :=
  { opcode := 0x0714, modes := anyMode, lenOk := lenIs 11
    checks := fun s p =>
      [(inRange (fld p 9 2) 0 1024, 9), ((resultOf s (fld p 0 1) (fld p 1 4)).isSome, 1),
       (match resultOf s (fld p 0 1) (fld p 1 4) with | some r => decide (fld p 5 4 + fld p 9 2 ≤ r.body.length) | none => true, 5)]
    journaled := jNever, key := noKey
    run := fun s _ p => match resultOf s (fld p 0 1) (fld p 1 4) with
      | some r => .ok (resultHeader (fld p 0 1) r ++ slice r.body (fld p 5 4) (fld p 9 2)) s
      | none => .bad 1 }

/-- Engines not OFFLINE (R383). -/
def enginesInService (s : State) : Nat := (s.kernel.engines.toList.filter fun e => e.state != .offline).length

/-- The busy fraction over the last whole second of the twelve engines, in ppm (R383). -/
def busyPpm (s : State) : Nat :=
  let t1 := s.now / 1000000000000 * 1000000000000
  let t0 := t1 - 1000000000000
  let share (a b : Ps) : Ps := min b t1 - max a t0
  let done := s.kernel.busyLog.foldl (fun n x => n + share x.1 x.2) 0
  let live := s.kernel.engines.toList.foldl (fun n e => if e.state = .running then n + share e.busySince s.now else n) 0
  (done + live) * 1000000 / 12000000000000

def cmdKernelGetStatus : Cmd :=
  { opcode := 0x0715, modes := anyMode, lenOk := lenIs 0, checks := noChecks, journaled := jNever, key := noKey
    run := fun s _ _ =>
      let zones := (List.range 64).flatMap fun z =>
        let u := (s.zone z).uses
        be 2 (u.headD 0) ++ be 2 (u.foldl max 0) ++ be 2 (u.foldl (· + ·) 0 / max 1 u.length) ++ be 4 (s.zone z).cOverruns
      .ok (be 1 (enginesInService s) ++ be 4 (busyPpm s) ++ be 2 s.kernel.peakQueue ++ be 2 s.kernel.peakRob ++ zones)
        { s with kernel := { s.kernel with peakQueue := s.kernel.queue.length, peakRob := s.kernel.rob.length } } }

def cmdKernelGetCounters : Cmd :=
  countersCmd 0x0716
    (fun s => let k := s.kernel
      cntBytes [k.cQueued, k.cDispatched, k.cPosted, k.cRemoved, k.cDiscarded, k.cRetries, k.cRetriesPosted, k.cStalls, k.cNotPosted])
    (fun s => { s with kernel := { s.kernel with
      cQueued := 0, cDispatched := 0, cPosted := 0, cRemoved := 0, cDiscarded := 0, cRetries := 0, cRetriesPosted := 0, cStalls := 0
      cNotPosted := 0 } })

end Sys2Proof.Machine
end

