-- ==== Sys2Proof/Machine/AlignCmd.lean ====
section
/-! DEFINITION. The commands of the zone and alignment group (R206 to R213, R221 to R227, R235, R245 to R248, R497). -/

namespace Sys2Proof.Machine

/-! ### What fits (R221, R224, R225, R227, R235) -/

/-- Zone `z` with settings `x` and `n` members fits beside the other zones (R221, R224, R225, R227, R235). -/
def zoneFits (s : State) (z : Nat) (x : Zone) (n : Nat) : Bool :=
  let mine := zoneSize x n
  let others := (s.align.zones.filter fun y => y.1 != z && y.2.state != .free).map fun y => zoneSize y.2 (memberCount y.2)
  let sum (f : ZoneSize → Nat) : Nat := (mine :: others).foldl (fun a y => a + f y) 0
  decide (sum (·.store) ≤ s.sys.capacity * 536870912) && decide (sum (·.staged) ≤ 7340032) && decide (sum (·.staging) ≤ 49152)
    && decide (sum (·.index) ≤ 14680064) && (x.revLimit == 0 || decide (mine.area ≤ 1048576))

/-! ### ZONE_CONFIG, ZONE_DELETE -/

/-- The rates of R206. -/
def zoneRates : List Nat := [10, 12, 15, 20, 25, 30, 50, 60, 100, 120, 200, 240]

/-- A zone that is not FREE (R245). -/
def zoneThere (s : State) (p : List Byte) : List (Bool × Nat) :=
  [(inRange (fld p 0 1) 0 63, 0), ((s.zone (fld p 0 1)).state != .free, 0)]

/-- The zone with the settings that ZONE_CONFIG spells. -/
def zoneOf (p : List Byte) (x : Zone) : Zone :=
  { x with rate := fld p 1 2, waitUs := fld p 3 4, slotClass := fld p 7 1, revLimit := fld p 8 1, revHold := fld p 9 2
           trigger := (fld p 11 1).testBit 0, hold := (fld p 11 1).testBit 1 }

/-- The zone's counters at 0 (R247). -/
def clearZone (x : Zone) : Zone :=
  { x with cConst := 0, cTrig := 0, cRev := 0, cAbsent := 0, cLate := 0, cLateDrops := 0, cRevLimit := 0, cDup := 0, cHorizon := 0
           cFuture := 0, cOffGrid := 0, cSurplus := 0, cOversize := 0, cMember := 0, cOverruns := 0, cSkipped := 0 }

/-- ZONE_CONFIG's effect (R206, R209, R363, R388). -/
def zoneConfig (s : State) (p : List Byte) : CmdOut :=
  let z := fld p 0 1
  let x := s.zone z
  if x.state = .running then .err stBusy
  else
    let y := zoneOf p x
    let size := zoneSize y (memberCount x)
    let after (n : Nat) : Zone := if n = z then y else s.zone n
    if !zoneFits s z y (memberCount x) || decide (4096 < queueSum after s.kernel.flows) then .err stNoResource
    else
      let y' := if x.state = .free then clearZone y else y
      .ok (be 2 size.kz ++ be 4 size.staged ++ be 8 size.store)
        (suspendSessions z (s.setZone z { y' with state := .stopped }))

def cmdZoneConfig : Cmd :=
  { opcode := 0x0401, modes := anyMode, lenOk := lenIs 12
    checks := fun _ p =>
      [(inRange (fld p 0 1) 0 63, 0), (zoneRates.contains (fld p 1 2), 1), (inRange (fld p 3 4) 1000 2000000, 3), (inRange (fld p 7 1) 0 2, 7),
       (inRange (fld p 8 1) 0 15, 8), (inRange (fld p 9 2) 0 1000, 9), (inRange (fld p 11 1) 0 3, 11)]
    journaled := jAlways, key := keyByte 0x0401, run := fun s _ p => zoneConfig s p }

/-- Records of a zone's settings (R581). -/
def zoneSetting (z : Nat) (s : State) (k : Nat × List Nat) : Bool :=
  k == (0x0401, [z]) || k == (0x0403, [z]) || (s.host.settings.any fun x => x.key == k && x.opcode == 0x0405 && fld x.params 0 1 == z)

/-- ZONE_DELETE's effect (R246). -/
def zoneDelete (s : State) (p : List Byte) : CmdOut :=
  let z := fld p 0 1
  let x := s.zone z
  if x.state = .running ∨ x.areas.any (·.stagedHeld) then .err stBusy
  else
    let s1 := dropSettings (zoneSetting z s) (x.members.foldl (leaveZone z 0) s)
    .ok [] (s1.setZone z { x with
      state := .free, rate := 0, waitUs := 0, slotClass := 1, trigger := false, hold := false, revLimit := 3, revHold := 10
      members := [], areas := [] })

def cmdZoneDelete : Cmd :=
  { opcode := 0x0402, modes := anyMode, lenOk := lenIs 1, checks := zoneThere, journaled := jAlways, key := noKey
    run := fun s _ p => zoneDelete s p }

/-! ### ZONE_START, ZONE_STOP -/

/-- ZONE_START's effect (R209, R211, R387, R504). -/
def zoneStart (s : State) (p : List Byte) : CmdOut :=
  let z := fld p 0 1
  if (s.zone z).state = .running then .err stBusy
  else
    let s1 := s.modZone z fun x => { x with state := .running }
    if !s.aligning then .ok (List.replicate 16 0) (resumeSessions z s1)
    else
      let s2 := zoneBegin z s1
      let x := s2.zone z
      .ok (stampBytes (tickInstant x.rate x.firstTick) ++ be 4 (nextTickSeq s2 z)) s2

def cmdZoneStart : Cmd :=
  { opcode := 0x0403, modes := anyMode, lenOk := lenIs 1, checks := zoneThere, journaled := jAlways, key := keyByte 0x0403
    run := fun s _ p => zoneStart s p }

/-- ZONE_STOP's effect, at the grid edge after it: no further close fires; what the zone has assembled is still emitted
(R209, R211). -/
def zoneStop (s : State) (p : List Byte) : CmdOut :=
  let z := fld p 0 1
  let seq := (s.zone z).lastSeq.toNat
  if (s.zone z).state ≠ .running then .ok (be 4 seq) s
  else
    let s1 := (stopTicking true z s).modZone z fun x => { x with state := .stopped }
    .ok (be 4 seq) (dropSettings (fun k => k == (0x0403, [z])) s1)

/-! ### Members (R212, R213, R497) -/

/-- The stream that the parameters name. -/
def memberRefOf (s : State) (p : List Byte) : StreamRef :=
  if fld p 1 1 = 1 then { position := s.position, isLocal := true, index := fld p 3 2 }
  else { position := fld p 2 1, isLocal := false, index := fld p 3 2 }

/-- The stream belongs to a zone (R28, R212). -/
def belongs (s : State) (r : StreamRef) : Bool :=
  let listed (pending : Bool) : Bool := s.align.zones.any fun z => z.2.members.any fun m => m.ref = r && (!pending || m.leaveAt.isNone)
  if r.isLocal || r.remote s then listed false else (s.ctx r.index).zone.isSome || listed true

/-- The checks of both membership commands. -/
def memberChecks (s : State) (p : List Byte) : List (Bool × Nat) :=
  zoneThere s p ++
  [(inRange (fld p 1 1) 0 1, 1), (inRange (fld p 2 1) 0 3, 2), (fld p 1 1 == 0 || fld p 2 1 == s.position, 2),
   (inRange (fld p 3 2) 0 (if fld p 1 1 = 1 then 3 else 16383), 3)]

/-- The effective tick of a change, none while the zone does not tick, and its instant as the reply gives it (R213). -/
def effectiveTick (x : Zone) : Option Nat := if x.ticking then some x.nextStage else none
def effectiveBytes (x : Zone) : List Byte :=
  match effectiveTick x with
  | some n => stampBytes (tickInstant x.rate n)
  | none => List.replicate 12 0

/-- The settings record of a membership (R581). -/
def memberKey (p : List Byte) : Nat × List Nat := (0x0405, [fld p 1 1, fld p 2 1, fld p 3 2])

/-- ZONE_ADD_STREAM's effect (R212, R213, R497). -/
def zoneAdd (s : State) (p : List Byte) : CmdOut :=
  let z := fld p 0 1
  let x := s.zone z
  let r := memberRefOf s p
  let s1 := s.setZone z { x with members := insertMember { ref := r, joinAt := effectiveTick x, leaveAt := none, remoteGen := none } x.members }
  if r.remote s then
    match s.linkTo r.position with
    | none => .err stBusy
    | some k =>
      if (s.link k).state ≠ .joined then .err stBusy
      else if belongs s r then .bad 3
      else if !zoneFits s z x (memberCount x + 1) then .err stNoResource
      else
        let lseq := (s.link k).txSeq
        let s2 := sendControl r.position r.index z true (match effectiveTick x with | some n => tickInstant x.rate n | none => 0) s1
        .long (.remoteAdd k lseq z r.position r.index (effectiveBytes x)) s2
  else if belongs s r || (!r.isLocal && (s.ctx r.index).state = .free) then .bad 3
  else if !zoneFits s z x (memberCount x + 1) then .err stNoResource
  else .ok (effectiveBytes x) s1

def cmdZoneAddStream : Cmd :=
  { opcode := 0x0405, modes := anyMode, lenOk := lenIs 5, checks := memberChecks, journaled := jAlways, key := fun p => some (memberKey p)
    run := fun s _ p => zoneAdd s p }

/-- A member leaves its zone at the effective tick; one that has not taken effect yet never does (R213). -/
def removeMember (z : Nat) (r : StreamRef) (s : State) : State :=
  let x := s.zone z
  let eff := effectiveTick x
  let never (m : Member) : Bool := m.ref = r && m.leaveAt.isNone && !m.effective
  let leave (m : Member) : Member := if m.ref = r && m.leaveAt.isNone then { m with leaveAt := some eff } else m
  let s1 := s.setZone z { x with members := (x.members.filter fun m => !never m).map leave }
  if (x.members.any never) && r.remote s then sendControl r.position r.index z false 0 s1 else s1

/-- ZONE_REMOVE_STREAM's effect (R212, R213). A stream that is no member of the zone, or is leaving it already, is refused
with BAD_PARAM at its number; no rule gives the answer (DESIGN CHOICE, log entry 15). -/
def zoneRemove (s : State) (p : List Byte) : CmdOut :=
  let z := fld p 0 1
  let x := s.zone z
  let r := memberRefOf s p
  if !(x.members.any fun m => m.ref = r && m.leaveAt.isNone) then .bad 3
  else .ok (effectiveBytes x) (dropSettings (fun k => k == memberKey p) (removeMember z r s))

def cmdZoneRemoveStream : Cmd :=
  { opcode := 0x0406, modes := anyMode, lenOk := lenIs 5, checks := memberChecks, journaled := jAlways, key := noKey
    run := fun s _ p => zoneRemove s p }

/-! ### Reads -/

/-- The code of a zone state (R245). -/
def ZoneState.code : ZoneState → Nat
  | .free => 0 | .stopped => 1 | .running => 2

def cmdZoneGet : Cmd :=
  { opcode := 0x0407, modes := anyMode, lenOk := lenIs 1, checks := zoneThere, journaled := jNever, key := noKey
    run := fun s _ p =>
      let x := s.zone (fld p 0 1)
      let n := memberCount x
      let size := zoneSize x n
      .ok (be 1 x.state.code ++ be 2 x.rate ++ be 4 x.waitUs ++ be 1 x.slotClass ++ be 1 x.revLimit ++ be 2 x.revHold
        ++ be 1 (bit x.trigger 0 + bit x.hold 1) ++ be 2 n ++ be 2 size.kz ++ be 4 size.staged ++ be 8 size.store
        ++ be 4 (1 + n * slotSize x.slotClass / 64) ++ be 4 x.lastSeq.toNat) s }

/-- The zone counters in the order of R247. -/
def zoneCounters (x : Zone) : List Cnt :=
  [x.cConst, x.cTrig, x.cRev, x.cAbsent, x.cLate, x.cLateDrops, x.cRevLimit, x.cDup, x.cHorizon, x.cFuture, x.cOffGrid, x.cSurplus,
   x.cOversize, x.cMember, x.cOverruns, x.cSkipped]

def cmdZoneGetCounters : Cmd :=
  { opcode := 0x0408, modes := anyMode, lenOk := lenIs 2, checks := fun s p => zoneThere s p ++ [(inRange (fld p 1 1) 0 1, 1)]
    journaled := fun p _ => fld p 1 1 == 1, key := noKey
    run := fun s _ p =>
      let z := fld p 0 1
      .ok (cntBytes (zoneCounters (s.zone z))) (if fld p 1 1 = 1 then s.modZone z clearZone else s) }

/-- The constellation that CONST_READ names: a revision of a tick whose store area is held (R246). -/
def constOf (s : State) (p : List Byte) : Option Sealed :=
  ((s.zone (fld p 0 1)).areas.find? fun a => a.stored && a.instant = stampOfBytes (slice p 1 12)).bind fun a =>
    if fld p 13 1 = 0xFF then a.sealed_.head? else a.sealed_.find? fun c => c.rev = fld p 13 1

/-- The tick that CONST_READ names has a store area (R246). -/
def constTick (s : State) (p : List Byte) : Bool :=
  (s.zone (fld p 0 1)).areas.any fun a => a.stored && a.instant = stampOfBytes (slice p 1 12)

def cmdConstRead : Cmd :=
  { opcode := 0x0409, modes := anyMode, lenOk := lenIs 18
    checks := fun s p => zoneThere s p ++
      [(inRange (fld p 13 1) 0 15 || fld p 13 1 == 0xFF, 13), (inRange (fld p 16 2) 0 32, 16), (constTick s p, 1), ((constOf s p).isSome, 13)]
    journaled := jNever, key := noKey
    run := fun s _ p => match constOf s p with
      | some c => if ((s.area c.zone c.tick).any fun a => a.constBad || !a.storeBad.isEmpty) then .err stIntegrity else replyRead 1 (constWords s c.zone c.tick) (sealedHeader s.position c ++ (((c.slots.drop (fld p 14 2)).take (fld p 16 2)).flatMap (slotBytesBe c.slotClass))) s
      | none => .bad 1 }

def cmdAlignGetStatus : Cmd :=
  { opcode := 0x040A, modes := anyMode, lenOk := lenIs 0, checks := noChecks, journaled := jNever, key := noKey
    run := fun s _ _ =>
      let sizes := (s.align.zones.filter fun z => z.2.state != .free).map fun z => zoneSize z.2 (memberCount z.2)
      let sum (f : ZoneSize → Nat) : Nat := sizes.foldl (fun a y => a + f y) 0
      let a := s.align
      .ok (be 4 (sum (·.staged)) ++ be 4 (sum (·.staging)) ++ be 8 (sum (·.store)) ++ be 2 a.revQueue.length
        ++ cntBytes [a.cUnzoned, a.cStopped, a.cRevQueue, a.cRevAbandoned]) s }

end Sys2Proof.Machine
end

