-- ==== Sys2Proof/Machine/Time.lean ====
section
/-! DEFINITION. The time base: steps, sources, PTP, the servo, leap seconds, the reserve increment, event inputs and
PPS_OUT (R109 to R161). -/

namespace Sys2Proof.Machine

/-! ### Steps of the time base (R136 to R139, R158, R160) -/

/-- The time base is given the value `tb`, in 2⁻³² ns, on a grid edge: TIME_VALID, TIME_STEPS and TIME_STEPPED follow,
the closes and the launches that a step forward passes, and the windows that a step breaks (R113, R137 to R139, R146,
R153, R158). -/
def stepTo (tb : Nat) (s : State) : State :=
  let old := s.stamp
  let forward := stampGe (tb / 65536) old
  let s1 : State := { s with time := { s.time with
    tb, valid := true, steppedAt := some (tb / 65536), cSteps := inc s.time.cSteps, ppsOutSec := none
    kclkStart := if s.time.servo = .locked then some tb else none } }
  stepActs forward (if forward then launchPassed old s1 else launchMoved s1)

/-! ### The servo (R133 to R136, R140) -/

/-- Whether a source gives time of day (R122, R136). -/
def givesTimeOfDay : Source → Bool
  | .ptp | .irigIn => true
  | .ppsIn | .ref10In => false

/-- The record of a source, and a change of it. -/
def TimeSt.src (t : TimeSt) : Source → SourceSt
  | .ptp => t.ptp | .ppsIn => t.pps | .irigIn => t.irig | .ref10In => t.ref10
def TimeSt.setSrc (t : TimeSt) (c : Source) (x : SourceSt) : TimeSt :=
  match c with
  | .ptp => { t with ptp := x } | .ppsIn => { t with pps := x } | .irigIn => { t with irig := x } | .ref10In => { t with ref10 := x }

/-- The inaccuracy of a source: that of the IEEE_C37_238 TLV for PTP under IEEE C37.238 (R123, R129).  For an Announce
without the TLV the rule is silent; the model falls back to the configured value (DESIGN CHOICE, log entry 16). -/
def TimeSt.inaccuracy (t : TimeSt) (c : Source) : Nat :=
  match c, t.ptpProfile, t.tlvInacc with
  | .ptp, true, some n => n
  | _, _, _ => (t.src c).inaccNs

/-- The capture term of E (R140). -/
def captureTerm (c : Source) : Nat := if c = .ptp then 8 else 4

/-- The servo takes a state: UNLOCKED_S, LOCKED_SINCE_VALID, TWILIGHT_ENTRIES and the KCLK window follow (R121, R144,
R146, R161). -/
def TimeSt.toServo (t : TimeSt) (x : ServoState) : TimeSt :=
  { t with
    servo := x
    lockRun := if x = .acquire then 0 else t.lockRun
    unlockRun := 0
    lockedSinceValid := t.lockedSinceValid || x = .locked
    cTwilight := if x = .twilight ∧ t.servo ≠ .twilight then inc t.cTwilight else t.cTwilight
    kclkStart := if x = .locked then some t.tb else none }

/-- |x| of a rational. -/
def absQ (x : Rat) : Rat := if x < 0 then -x else x

/-- The loop of R133 with an offset in ns and an interval in s. -/
def TimeSt.loop (t : TimeSt) (theta tau : Rat) : TimeSt :=
  let i := clampQ (-200000) 200000 (t.integ + (t.ki : Rat) / 65536 * theta / tau)
  { t with integ := i, y := clampQ (-200000) 200000 (-((t.kp : Rat) / 65536 * theta / tau) - i) }

/-- The servo's state after an update with |θ| (R134). -/
def TimeSt.judge (t : TimeSt) (mag : Rat) : TimeSt :=
  if t.servo = .acquire then
    let n := if mag < t.lockThreshold then t.lockRun + 1 else 0
    if 8 ≤ n then { t with lockRun := 0 }.toServo .locked else { t with lockRun := n }
  else if t.servo = .locked then
    let n := if (t.unlockThreshold : Rat) < mag then t.unlockRun + 1 else 0
    if 3 ≤ n then t.toServo .acquire else { t with unlockRun := n }
  else t

/-- E after an update (R126, R140). -/
def TimeSt.errAfter (t : TimeSt) (c : Source) (mag : Rat) : Rat :=
  if c = .ref10In then t.err
  else
    let base : Rat := (t.inaccuracy c + captureTerm c : Nat)
    if t.servo = .locked then base + t.thetas.foldl (· + ·) 0 / t.thetas.length else base + mag

/-- The servo steps on an offset (R136). -/
def TimeSt.stepsOn (t : TimeSt) (c : Source) (mag : Rat) : Bool :=
  t.servo = .acquire && decide (0 < t.stepThreshold) && decide ((t.stepThreshold : Rat) ≤ mag) && givesTimeOfDay c

/-- An update with offset θ in 2⁻¹⁶ ns and interval τ in s of the selected source (R133 to R136, R140). -/
def servoUpdate (c : Source) (theta : Int) (tau : Rat) (s : State) : State :=
  let ns : Rat := (theta : Rat) / 65536
  let mag := absQ ns
  let t0 : TimeSt := { s.time with offset := theta, thetas := (mag :: s.time.thetas).take 8 }
  let step := t0.stepsOn c mag
  let t1 := (if step then t0 else t0.loop ns tau).judge mag
  let s1 := noteServo s { s with time := { t1 with err := t1.errAfter c mag } }
  if step then s1.at s1.nextGrid (.servoStep theta) else s1

/-- The servo's step: on the grid edge the time base takes its value less θ (R136, R137). -/
def servoStep (theta : Int) (s : State) : State := stepTo (((s.time.tb : Int) - theta * 65536) % (tbMod : Nat)).toNat s

/-- Holdover after the loss of every source (R134, R135). -/
def TimeSt.hold (t : TimeSt) : TimeSt :=
  if t.servo = .locked ∨ (t.servo = .acquire ∧ t.lockedSinceValid = true) then
    let u := t.toServo .twilight
    { u with y := -u.integ }
  else if t.servo = .acquire then
    let u := t.toServo .freerun
    { u with y := u.yFree }
  else t

/-- The servo starts from the values that the reserve domain kept (R144, R147). A start in TWILIGHT counts in
TWILIGHT_ENTRIES as any other entry; no rule says whether it does (R161; DESIGN CHOICE, log entry 16). -/
def TimeSt.restart (t : TimeSt) : TimeSt :=
  let u : TimeSt := { t with yFree := t.y, lockRun := 0, unlockRun := 0, kclkStart := none, source := none }
  if u.lockedSinceValid then
    let v := u.toServo .twilight
    { v with integ := -v.y }
  else { u with servo := .freerun, integ := 0 }

/-! ### Sources (R122, R123, R145) -/

/-- A code of the priority list as a source (R159). -/
def sourceFromCode : Nat → Option Source
  | 1 => some .ptp | 2 => some .ppsIn | 3 => some .irigIn | 4 => some .ref10In | _ => none

/-- A source is enabled and not lost; PTP with a port enabled for it, and not in DORMANT (R123, R128, R145). -/
def sourceReady (s : State) (c : Source) : Bool :=
  (s.time.src c).present && (c != .ptp || (s.online && s.time.ports.toList.any (·.ptpEnable)))

/-- The source to select: the selected one while it is ready, unless one before it in the list has been valid for 10
update intervals; otherwise the first that is ready (R123). -/
def chooseSource (s : State) : Option Source :=
  let list := s.time.priority.filterMap sourceFromCode
  let kept := match s.time.source with
    | some c => if list.contains c && sourceReady s c then some c else none
    | none => none
  match kept with
  | some c => some (((list.takeWhile (· != c)).find? fun d => sourceReady s d && decide ((s.time.src d).seasonedAt ≤ s.now)).getD c)
  | none => list.find? (sourceReady s)

/-- The selection follows the sources (R123, R134, R135). -/
def reselect (s : State) : State :=
  let new := chooseSource s
  if new = s.time.source then s
  else
    let t := s.time
    let ports := t.ports.map fun (p : TimePort) => { p with prevSync := none }
    let t1 : TimeSt := match new with
      | none => { t.hold with source := none }
      | some _ => { t.toServo .acquire with source := new, cSwitches := if t.source.isSome then inc t.cSwitches else t.cSwitches }
    noteServo s { s with time := { t1 with ports := ports } }

/-- A source gives a measurement: from the first one it is valid, and 10 update intervals on it is seasoned (R122, R123). -/
def noteMeasured (c : Source) (tau : Rat) (s : State) : State :=
  let x := s.time.src c
  let ready : Ps := s.now + (tau * 10000000000000).floor.toNat
  if x.present then { s with time := s.time.setSrc c { x with lastEvent := s.now } }
  else ({ s with time := s.time.setSrc c { x with present := true, seasonedAt := ready, lastEvent := s.now } }).at ready .reselect

/-- An accepted measurement of a source: the source is valid, and the servo takes the offset of the selected one (R122, R123). -/
def measure (c : Source) (theta : Int) (tau : Rat) (s : State) : State :=
  let s1 := reselect (noteMeasured c tau s)
  if s1.time.source = some c then servoUpdate c theta tau s1 else s1

/-- A source is lost (R122, R123). -/
def loseSource (c : Source) (s : State) : State :=
  let x := s.time.src c
  if !x.present then s
  else
    reselect { s with time := { s.time.setSrc c { x with present := false } with cLosses := inc s.time.cLosses } }

/-! ### UTC offset and leap seconds (R117 to R120, R610) -/

/-- The TAI second at which a leap second of the current UTC day takes effect (R119). -/
def leapInstant (s : State) (offset : Int) (deletion : Bool) : Nat :=
  let utc : Int := (stampSec s.stamp : Int) - offset
  ((utc / 86400 + 1) * 86400 + offset + leapSign deletion).toNat

/-- The UTC offset and the leap flags are set; a leap that stays pending keeps its day (R610). -/
def setUtc (offset : Int) (pending deletion : Bool) (s : State) : State :=
  let t := s.time
  let same := t.leapPending && pending && t.leapDir == deletion && t.utcOffset == offset
  { s with time := { t with
    utcOffset := offset, leapPending := pending, leapDir := deletion
    leapDue := if same then t.leapDue else leapInstant s offset deletion } }

/-- LEAP_SECOND (R119): at the end of the day the offset changes by one. -/
def leapSecond (s : State) : State :=
  let t := s.time
  if s.sys.phase ≠ .unpowered ∧ t.leapPending ∧ t.leapDue ≤ stampSec s.stamp then
    { s with time := { t with
      utcOffset := t.utcOffset + leapSign t.leapDir, leapPending := false, leapOccurred := true
      leapAt := t.leapDue, leapAtDir := t.leapDir } }
  else s

/-- LEAP_OCCURRED clears 86,400 s after the leap second (R119). -/
def leapExpire (s : State) : State :=
  if s.time.leapOccurred ∧ s.time.leapAt + 86400 ≤ stampSec s.stamp then { s with time := { s.time with leapOccurred := false } } else s

/-- The TAI seconds of UTC seconds, with the offset in effect for that instant; `after` tells the second that follows an
inserted second from the inserted one (R115, R120). -/
def TimeSt.taiOf (t : TimeSt) (utc : Int) (after : Bool) : Int :=
  let day (due : Nat) (dir : Bool) (before : Int) : Bool :=
    let midnight := (due : Int) - before - leapSign dir
    if dir then decide (midnight ≤ utc) else decide (midnight < utc) || (midnight == utc && after)
  let before := t.utcOffset - leapSign t.leapAtDir
  if t.leapPending && day t.leapDue t.leapDir t.utcOffset then utc + t.utcOffset + leapSign t.leapDir
  else if t.leapOccurred && !day t.leapAt t.leapAtDir before then utc + before
  else utc + t.utcOffset

/-- The TAI seconds of a received SOC (R115, R120). -/
def State.taiOfSoc (s : State) (soc : Nat) (after : Bool) : Nat :=
  let now := s.utcSec s.stamp
  (s.time.taiOf (now + signed 32 (((soc : Int) - now) % 4294967296).toNat) after % 281474976710656).toNat

/-! ### PTP (R127 to R132) -/

/-- A WAN port's time state, and a change of it. -/
def State.timePort (s : State) (p : Nat) : TimePort := vget {} s.time.ports p
def State.setTimePort (s : State) (p : Nat) (x : TimePort) : State := { s with time := { s.time with ports := vset s.time.ports p x } }

/-- PTP runs on a port (R128). -/
def ptpRuns (s : State) (p : Nat) : Bool := decide (p < 4) && s.online && (s.timePort p).ptpEnable && (vget {} s.ingress.ports p).linkUp

/-- The announce receipt timeout of a port has passed (R122). -/
def announceStale (now : Ps) (p : TimePort) : Bool :=
  match p.announce with
  | some a => decide (p.lastAnnounce + 3 * a.intervalMs * 1000000000 ≤ now)
  | none => true

/-- A sync interval of 2ⁿ s in ps. -/
def syncPs (n : Int) : Ps := if 0 ≤ n then 1000000000000 * 2 ^ n.toNat else 1000000000000 / 2 ^ (-n).toNat

/-- 3 announced Sync intervals have passed since the last Sync (R122). -/
def syncStale (now : Ps) (p : TimePort) : Bool := decide (p.lastSync + 3 * syncPs p.logIntv ≤ now)

/-- The best port: that with the lowest rank among the enabled ports that hear a master (R128). -/
def bestPort (s : State) : Option Nat :=
  let rank (p : Nat) : Option Nat := if announceStale s.now (s.timePort p) || !ptpRuns s p then none else (s.timePort p).announce.map (·.rank)
  (List.range 4).foldl (fun (b : Option Nat) p =>
    match rank p, b.bind rank with
    | some r, some q => if r < q then some p else b
    | some _, none => some p
    | none, _ => b) none

/-- The port that is SLAVE. -/
def slavePort (s : State) : Option Nat := (List.range 4).find? fun p => (s.timePort p).role = .slave

/-- The roles of the ports by the best master clock algorithm (R128). -/
def setRoles (s : State) : State :=
  let best := bestPort s
  let old := slavePort s
  let role (i : Nat) (p : TimePort) : PtpRole :=
    if !p.ptpEnable then .disabled else if best = some i then .slave
    else if announceStale s.now p then .listening else .passive
  let ports := Vector.ofFn fun (i : Fin 4) =>
    let p := vget {} s.time.ports i.val
    { p with role := role i.val p, waiting := none, prevSync := if best = old then p.prevSync else none }
  { s with time := { s.time with ports := ports } }

/-- PTP_ANNOUNCE (R118, R127 to R129, R610): in the device's domain the port keeps the best master it hears; the Announce of the selected master
sets the UTC offset and the leap flags while PTP is the selected source. -/
def ptpAnnounce (p : Nat) (m : PtpAnnounce) (s : State) : State :=
  if !ptpRuns s p || m.domain != s.time.ptpDomain then s
  else
    let x := s.timePort p
    let take := match x.announce with
      | some a => a.master = m.master || announceStale s.now x || decide (m.rank < a.rank)
      | none => true
    if !take then s
    else
      let changed := x.announce.map (·.master) != some m.master
      let s1 := s.setTimePort p { x with announce := some m, lastAnnounce := s.now, prevSync := if changed then none else x.prevSync
                                         lastSync := if changed then s.now else x.lastSync }
      let s2 := setRoles s1
      if slavePort s2 ≠ some p then s2
      else
        let s3 : State := { s2 with time := { s2.time with tlvInacc := m.tlv.map fun x => x.1 + x.2 } }
        if s3.time.source = some .ptp then setUtc m.utcOffset (m.leap61 || m.leap59) m.leap59 s3 else s3

/-- The path delay of the last exchange, 0 before one (R132). -/
def pathDelay (p : TimePort) : Int := p.delays.headD 0

/-- A Sync is discarded: the path delay exceeds 1.5 times the least of the last 16 exchanges (R132). -/
def syncDiscarded (p : TimePort) : Bool :=
  match p.delays with
  | [] => false
  | d :: t => decide (3 * t.foldl min d < 2 * d)

/-- The update interval of an accepted Sync, in s (R122). -/
def syncTau (p : TimePort) (stamp : Stamp) : Rat :=
  let tau : Rat := match p.prevSync with
    | some q => (stampDiff stamp q : Rat) / unitsPerSec
    | none => (syncPs p.logIntv : Rat) / 1000000000000
  clampQ (1 / 16) 2 tau

/-- A Sync with its origin time known gives an offset (R122, R131, R132). -/
def syncOffset (p : Nat) (stamp origin : Stamp) (corr : Int) (s : State) : State :=
  let x := s.timePort p
  if syncDiscarded x then { s with time := { s.time with cSyncDiscarded := inc s.time.cSyncDiscarded } }
  else
    let theta := stampDiff stamp origin - x.ingressLat - corr - x.asymmetry - pathDelay x
    let s1 := measure .ptp theta (syncTau x stamp) s
    if s1.time.source = some .ptp then s1.setTimePort p { s1.timePort p with prevSync := some stamp } else s1

/-- A message of the device's domain from the master that the port follows (R127, R128). -/
def fromMaster (s : State) (p domain master : Nat) : Bool :=
  domain == s.time.ptpDomain && ((s.timePort p).announce.any fun a => a.master == master)

/-- PTP_SYNC (R122, R127, R130, R132): a Sync of the selected master on the SLAVE port, stamped by the PCS. -/
def ptpSync (p : Nat) (m : PtpSync) (s : State) : State :=
  if !ptpRuns s p || (s.timePort p).role != .slave || !fromMaster s p m.domain m.master then s
  else
    let stamp := s.pcsStamp m.ago
    let x : TimePort := { s.timePort p with lastSync := s.now, logIntv := m.logIntv, waiting := if m.twoStep then some (m, stamp) else none }
    let s1 := s.setTimePort p x
    if m.twoStep then s1 else syncOffset p stamp m.origin m.corr s1

/-- PTP_FOLLOW_UP (R122): it completes the two-step Sync of its sequence number. -/
def ptpFollowUp (p : Nat) (m : PtpFollowUp) (s : State) : State :=
  let x := s.timePort p
  match x.waiting with
  | some (w, stamp) =>
    if ptpRuns s p && fromMaster s p m.domain m.master && w.seq == m.seq then
      syncOffset p stamp m.origin (w.corr + m.corr) (s.setTimePort p { x with waiting := none })
    else s
  | none => s

/-- The path delay of an exchange with the port corrections: the transmit stamp is later by the egress latency, the
receive stamp earlier by the ingress latency; the asymmetry cancels (R131, R132). -/
def exchangeDelay (x : TimePort) (t1 t2 t3 t4 : Stamp) : Int :=
  roundQ 5 (((stampDiff t4 t1 - x.ingressLat - x.egressLat - stampDiff t3 t2 : Int) : Rat) / 2)

/-- The clock identity of a port's messages: the EUI-64 of its MAC address (PRESUMED, IEEE 1588-2019; log entry 16). -/
def clockId (mac : Nat) : List Byte := be 3 (mac / 16777216) ++ [0xFF, 0xFE] ++ be 3 (mac % 16777216)

/-- The VLAN tag of the device's PTP messages, none for VLAN ID 0 (R159). -/
def TimeSt.ptpTag (t : TimeSt) : List Byte := if t.ptpVlan = 0 then [] else [0x81, 0x00] ++ be 2 (t.ptpPriority * 8192 + t.ptpVlan)

/-- The octets of a peer-delay message of a port up to its body: message type, correction 0, sequence number (R127, R128; the
layout is that of IEEE 1588-2019, PRESUMED, log entry 16). -/
def peerDelayHead (s : State) (p type seq : Nat) : List Byte :=
  let mac := (s.port p).mac
  [0x01, 0x80, 0xC2, 0x00, 0x00, 0x0E] ++ be 6 mac ++ s.time.ptpTag ++ [0x88, 0xF7] ++ be 1 type ++ [0x12] ++ be 2 54
    ++ be 1 s.time.ptpDomain ++ be 3 0 ++ be 8 0 ++ be 4 0 ++ clockId mac ++ be 2 (p + 1) ++ be 2 seq ++ [0x05, 0x7F]

/-- A peer-delay request of the device, and the one-step Pdelay_Resp to a request, whose correction is filled in as it leaves
(R127, R128, R131). -/
def peerDelayRequest (s : State) (p seq : Nat) : List Byte := peerDelayHead s p 0x02 seq ++ be 10 0 ++ be 10 0
def peerDelayAnswer (s : State) (p seq : Nat) (port : List Byte) : List Byte := peerDelayHead s p 0x03 seq ++ be 10 0 ++ padTo 10 port

/-- PTP_PEER_DELAY (R127, R128, R130 to R132): a request is answered; the device sends a request of its own; the answer to it
gives a path delay. -/
def ptpPeerDelay (p : Nat) (m : PtpPeerDelay) (s : State) : State :=
  if !ptpRuns s p then s
  else
    let x := s.timePort p
    match m with
    | .request domain seq port ago =>
      if domain != s.time.ptpDomain then s else ptpFrame p (.ptpAnswer (s.pcsStamp ago)) (peerDelayAnswer s p seq port) s
    | .start =>
      ptpFrame p (.ptpRequest x.pdelaySeq) (peerDelayRequest s p x.pdelaySeq) (s.setTimePort p { x with pdelaySeq := (x.pdelaySeq + 1) % 65536 })
    | .complete domain seq t2 t3 gotAgo =>
      match x.pdelaySent with
      | some (n, sent) =>
        if domain != s.time.ptpDomain || n != seq then s
        else s.setTimePort p { x with delays := (exchangeDelay x sent t2 t3 (s.pcsStamp gotAgo) :: x.delays).take 16, pdelaySent := none }
      | none => s

/-! ### PPS_IN, IRIG_IN, REF10_IN -/

/-- The distance of a stamp from the nearest whole second. -/
def fromWholeSecond (a : Stamp) : Int := if 2 * stampSub a < unitsPerSec then stampSub a else (stampSub a : Int) - unitsPerSec

/-- PPS_IN_EDGE (R122, R124, R152). -/
def ppsInEdge (s : State) : State :=
  if s.sys.phase ≠ .running then s
  else
    let raw := fromWholeSecond (s.captureAgo 0)
    if s.time.valid ∧ s.time.servo = .locked ∧ (unitsPerMs : Int) < raw.natAbs then
      { s with time := { s.time with cPpsRejected := inc s.time.cPpsRejected } }
    else measure .ppsIn (raw - s.time.ppsDelay * 65536) 1 s

/-- Days from 1970-01-01 to the first day of a year. -/
def yearStart (y : Int) : Int := 365 * (y - 1970) + (y - 1) / 4 - (y - 1) / 100 + (y - 1) / 400 - 477

/-- The UTC seconds that a frame encodes in a year (R125). -/
def irigUtc (offsetMin : Int) (year : Int) (day sec : Nat) : Int := (yearStart year + day - 1) * 86400 + sec - offsetMin * 60

/-- The UTC seconds of a frame in the year that lies nearest to the time base: of every year, or, for the two digits of
a B006 frame, of the years with those digits (R125). -/
def irigNearest (now offsetMin : Int) (day sec : Nat) (year : Option Nat) : Int :=
  let guess : Int := 1970 + now / 31556952
  let years : List Int := match year with
    | none => [guess - 1, guess, guess + 1]
    | some y => let base := guess - (guess - y) % 100; [base - 100, base, base + 100]
  let far (y : Int) : Nat := (irigUtc offsetMin y day sec - now).natAbs
  irigUtc offsetMin (years.foldl (fun b y => if far y < far b then y else b) (years.headD guess)) day sec

/-- IRIG_FRAME (R120, R122, R125): second 60 of a minute names the inserted second. -/
def irigFrame (f : Irig) (s : State) : State :=
  if s.sys.phase ≠ .running then s
  else match f with
    | .bad => { s with time := { s.time with cIrigErrors := inc s.time.cIrigErrors } }
    | .good ago day hour minute second year =>
      let t := s.time
      let sec := hour * 3600 + minute * 60 + second
      let utc := irigNearest (s.utcSec s.stamp) t.irigOffsetMin day sec (if t.irigFormat = 6 then year else none)
      let ref := (t.taiOf utc (second != 60) % 281474976710656).toNat * unitsPerSec
      measure .irigIn (stampDiff (s.captureAgo ago) ref) 1 s

/-- The phase of an edge against the 100 ns grid of the time base, folded to −50 ns to +50 ns, in 2⁻¹⁶ ns (R122). -/
def foldPhase (a : Stamp) : Int :=
  let r := a % 6553600
  if 2 * r < 6553600 then r else (r : Int) - 6553600

/-- The mean folded phase of edges that passed the pin so long ago (R122). -/
def ref10Phase (ages : List Ps) (s : State) : Int :=
  roundQ 11 (((ages.map fun a => foldPhase (s.captureAgo a)).foldl (· + ·) 0 : Int) / (ages.length : Rat))

/-- No edge came for 1 µs: from the start of the interval, between two edges, or up to its end (R122). -/
def ref10Gap (ages : List Ps) : Bool :=
  let r := ages.foldl (fun (a : Ps × Bool) e => (e, a.2 || decide (1000000 < a.1 - e))) (1000000000, false)
  r.2 || decide (1000000 < r.1)

/-- The frequency measured between the first and the last edge of an interval lies outside ±100 ppm of 10 MHz (R122). -/
def ref10Off (ages : List Ps) : Bool :=
  let n := ages.length - 1
  let span := ages.headD 0 - ages.getLastD 0
  let want := n * 100000
  let d := if span < want then want - span else span - want
  decide (want < 10000 * d)

/-- REF10_GATE (R122): the end of an interval gives an offset, or the loss of the source. -/
def ref10Gate (r : Ref10) (s : State) : State :=
  if s.sys.phase ≠ .running then s
  else match r with
    | .phase ages => if ref10Gap ages || ref10Off ages then loseSource .ref10In s else measure .ref10In (ref10Phase ages s) (1 / 1000) s
    | .frequencyOut => loseSource .ref10In s
    | .noEdge => loseSource .ref10In s

/-- The condition of a source's loss has come (R122); that of REF10_IN is seen outside the state. -/
def lossDue (s : State) (c : Source) : Bool :=
  match c with
  | .ptp => match slavePort s with
    | some p => announceStale s.now (s.timePort p) || syncStale s.now (s.timePort p)
    | none => true
  | .ref10In => true
  | _ => decide ((s.time.src c).lastEvent + 3000000000000 ≤ s.now)

/-- SOURCE_LOST (R122, R123). -/
def sourceLost (code : Nat) (s : State) : State :=
  match sourceFromCode code with
  | none => s
  | some c =>
    if s.sys.phase ≠ .running ∨ !lossDue s c then s
    else
      let s1 := loseSource c s
      if c = .ptp then
        match slavePort s1 with
        | some p => setRoles (s1.setTimePort p { s1.timePort p with announce := none, waiting := none, prevSync := none })
        | none => s1
      else s1

/-! ### The reserve increment (R146, R540) -/

/-- 16 s of the time base in 2⁻³² ns. -/
def kclkWindow : Nat := 16 * unitsPerSec * 65536

/-- RESERVE_INCREMENT_UPDATE: a window of 16 s in LOCKED gives the KCLK period (R146). -/
def reserveIncrement (edges : Nat) (s : State) : State :=
  let t := s.time
  match t.kclkStart with
  | none => s
  | some t0 =>
    let span := (t.tb + tbMod - t0) % tbMod
    if s.sys.phase ≠ .running ∨ t.servo ≠ .locked ∨ t.kclkFail ∨ edges = 0 ∨ span < kclkWindow then s
    else { s with time := { t with reserveInc := (roundQ 6 ((span : Rat) / edges)).toNat, kclkStart := some t.tb } }

/-! ### Event inputs (R148 to R151) -/

/-- The edges selected for an input, rising in bit 0 and falling in bit 1 (R148, R159). -/
def edgeSelected (edges : Word32) (input : Nat) (falling : Bool) : Bool := edges.getLsbD (2 * input + falling.toNat)

/-- The record of an edge sampled on this TCLK edge (R149). -/
def evtRecOf (input : Nat) (falling : Bool) (s : State) : EvtRec :=
  { stamp := s.stamp, falling, tqBad := s.time.syncError, input, status := s.time.servo.code + sourceCode s.time.source * 16
    seq := s.time.evtSeq }

/-- A record's 16 bytes (R149). -/
def evtBytes (r : EvtRec) : List Byte :=
  be 6 (stampSec r.stamp) ++ be 4 (bit r.falling 31 + bit r.tqBad 30 + stampSub r.stamp / 65536) ++ be 2 (r.stamp % 65536)
    ++ be 1 r.input ++ be 1 r.status ++ be 2 r.seq

/-- An edge forms a record, for the FIFO of 512 or a record queue (R149, R150). -/
def eventForm (input : Nat) (falling : Bool) (s : State) : State :=
  let t := s.time
  let r := evtRecOf input falling s
  let s1 : State := { s with time := { t with evtSeq := (t.evtSeq + 1) % 65536 } }
  if t.evtDest = 255 then
    if 512 ≤ t.evtFifo.length then { s1 with time := { s1.time with cEvtOverflow := inc t.cEvtOverflow } }
    else { s1 with time := { s1.time with evtFifo := t.evtFifo ++ [r] } }
  else
    let r1 := rqItem t.evtDest (evtBytes r) s1
    let stored := r1.1
    let s2 := r1.2
    if stored then s2 else { s2 with time := { s2.time with cEvtOverflow := inc s2.time.cEvtOverflow } }

/-- The edges sampled on the TCLK edge that passes form their records, in ascending input number (R150). -/
def eventsForm (s : State) : State :=
  let due := s.time.evtHeld.filter fun x => decide (x.1 ≤ s.now)
  due.foldl (fun s x => eventForm x.2.1 x.2.2 s) { s with time := { s.time with evtHeld := s.time.evtHeld.filter fun x => decide (s.now < x.1) } }

/-- An edge into its place: by TCLK edge, then by input (R150). -/
def insertHeld (x : Ps × Nat × Bool) : List (Ps × Nat × Bool) → List (Ps × Nat × Bool)
  | [] => [x]
  | y :: t => if x.1 < y.1 ∨ (x.1 = y.1 ∧ x.2.1 < y.2.1) then x :: y :: t else y :: insertHeld x t

/-- EVENT_CAPTURE: an enabled edge at the pin is sampled on the first TCLK edge at or after it, and forms its record as
that edge passes (R148, R150, R151). -/
def eventCapture (input : Nat) (falling : Bool) (s : State) : State :=
  let edge : Ps := cdiv s.now 4000 * 4000
  if s.sys.phase ≠ .running ∨ 16 ≤ input ∨ !edgeSelected s.time.evtEdges input falling then s
  else ({ s with time := { s.time with evtHeld := insertHeld (edge, input, falling) s.time.evtHeld } }).at edge .capture

/-! ### PPS_OUT (R153, R154) -/

/-- PPS_OUT rises on the first TCLK edge at or after the whole second plus offset, unless the time quality code is worse
than the gate code (R153, R154). Its width runs in physical time (DESIGN CHOICE, log entry 16). -/
def ppsOutPulse (s : State) : State :=
  let t := s.time
  let at_ := stampAdd s.stamp (-(t.ppsOutOffset * 65536))
  let sec := stampSec at_
  if !s.online || decide (tclkInc t.y / 65536 < stampSub at_) || t.ppsOutSec == some sec then s
  else
    let s1 : State := { s with time := { t with ppsOutSec := some sec } }
    if t.ppsOutGate < t.tqCode then s1
    else { s1 with time := { s1.time with ppsOutEnd := some (s.now + t.ppsOutWidth * 1000000) } }.emit (.pps true s.stamp)

/-- PPS_OUT falls after its width (R153). -/
def ppsOutFall (s : State) : State :=
  match s.time.ppsOutEnd with
  | some e => if e ≤ s.now then { s with time := { s.time with ppsOutEnd := none } }.emit (.pps false s.stamp) else s
  | none => s

end Sys2Proof.Machine
end

