-- ==== Sys2Proof/Machine/Stream.lean ====
section
/-! DEFINITION. Stream contexts: configurations, binding, generation, the federation's GEN frames (R173 to R197, R498,
R499, R609). -/

namespace Sys2Proof.Machine

/-! ### Contexts (R177, R181) -/

/-- The code of a context's state (R182). -/
def CtxState.code : CtxState → Nat
  | .free => 0 | .awaitCfg => 1 | .receiving => 2 | .silent => 3 | .rejected => 4

/-- The state of a code. -/
def ctxStateOf : Nat → CtxState
  | 1 => .awaitCfg | 2 => .receiving | 3 => .silent | 4 => .rejected | _ => .free

/-- The context bound to a key (R177). -/
def lookupKey (s : State) (k : StreamKey) : Option Nat :=
  (s.ingress.ctxs.find? fun x => x.2.state != .free && x.2.key == k).map (·.1)

/-- The quarantine runs 3 s from the rebind instant (R191). -/
def quarantineOpen (s : State) (c : Ctx) : Bool :=
  c.quarantine && decide (stampDiff s.stamp c.rebindAt < 3 * (unitsPerSec : Int))

/-- The eight counters of R203 in order. -/
def ctxCounters (c : Ctx) : List Cnt :=
  [c.cAccepted, c.cNoCfg, c.cSize, c.cQuarantine, c.cStaleGen, c.cBudget, c.cCfgAccepted, c.cResumes]

/-- `n` scales of 24 bits (R181). -/
def scaleBytes (n : Nat) (xs : List Nat) : List Byte := padTo (3 * n) (xs.flatMap fun x => be 3 x)

/-- The 256 bytes of a context; a FREE one shows its GEN and no zone, and 0 elsewhere (R181). -/
def ctxBytes (s : State) (c : Ctx) : List Byte :=
  let g : StreamCfg := c.cfg.getD {}
  if c.state == .free then List.replicate 24 0 ++ be 1 c.gen.toNat ++ be 1 0xFF ++ List.replicate 230 0
  else be 2 c.key.idcode ++ be 2 c.key.srcPort ++ be 2 c.dstPort
    ++ be 1 (bit c.key.ipv6 0 + bit c.key.tcp 1 + bit c.srcCtrl 2 + bit c.wantCfg3 3 + bit (quarantineOpen s c) 4)
    ++ be 1 c.state.code ++ be 16 c.key.srcIp ++ be 1 c.gen.toNat ++ be 1 (c.zone.getD 0xFF) ++ be 1 g.numPhasors
    ++ be 1 g.numAnalog ++ be 1 g.numDigital ++ be 1 (bit g.fnom50 0) ++ be 2 g.format ++ be 2 g.dataRate ++ be 3 g.timeBase
    ++ be 1 c.rejectReason ++ be 2 g.cfgCnt ++ stampBytes c.lastTag ++ stampBytes c.rebindAt ++ be 2 g.expectedSize
    ++ be 2 c.lastStat ++ be 4 g.phasorType.toNat ++ cntBytes (ctxCounters c) ++ scaleBytes 32 g.phasorScale
    ++ scaleBytes 16 g.analogScale ++ be 4 (stampSec c.lastArrival % 4294967296) ++ be 4 (stampSub c.lastArrival / 65536)

/-- A context's change goes to the partner, in the model's octets: the index, the 256 bytes, the options and the port
that they do not hold, and the configuration's content (R504; log entry 10). -/
def mirrorCtx (i : Nat) (s : State) : State :=
  let c := s.ctx i
  mirrorItem 1 (be 2 i ++ ctxBytes s c ++ be 1 (bit c.tcpCommand 0 + bit c.lastTimeBase.isSome 1) ++ be 1 c.egressPort
    ++ be 3 (c.lastTimeBase.getD 0) ++ ((c.cfg.map (·.content)).getD [])) s

/-! ### Command frames to a source (R187) -/

/-- The way to a context's source from its egress port: no rule gives the address of the next hop, so it is free (R187; log
entry 12). -/
def sourceRoute (s : State) (c : Ctx) (mac : Nat) : Route :=
  let p := s.port c.egressPort
  { v6 := c.key.ipv6, mac := mac % 281474976710656, src := if c.key.ipv6 then p.ipv6 else p.ipv4, dst := c.key.srcIp, srcMac := p.mac
    vlan := 0, prio := 0, dscp := Config.superDscp.toNat }

/-- The TCP port of the source that a context's connection leads to: DST_PORT of a TCP stream, the default 4712 for the
command connection of a UDP stream, whose DST_PORT is the stream port (R181, R194, R195; log entry 17). -/
def connPort (c : Ctx) : Nat := if c.key.tcp then c.dstPort else 4712

/-- A segment of a context's connection; what no rule gives of it, its own port and sequence number, is free (R187, R194; log
entry 12). -/
def sourceSegment (what : String) (c : Ctx) (flags : Byte) (data : List Byte) (s : State) : State :=
  let r := s.draw
  superSegment c.egressPort what (sourceRoute s c r.1) (r.1 / 281474976710656 % 65536) (connPort c) (BitVec.ofNat 32 (r.1 / 2 ^ 64)) flags data r.2

/-- A C37.118 command frame to a context's source: over its connection, or by UDP to the source's address and port. One that is
due while the connection is not up is not sent and not kept (R187, R195; DESIGN CHOICE, log entry 17). -/
def sendCommand (i cmd : Nat) (s : State) : State :=
  let c := s.ctx i
  let f := c37Frame syncCommand c.key.idcode (s.soc s.stamp) (s.time.fracsecHi s.stamp * 16777216 + fracOf s.stamp ownTimeBase) (be 2 cmd)
  if c.key.tcp || c.tcpCommand then (if c.tcpUp then sourceSegment "C37.118 command" c 0x18 f s else s)
  else
    let r := s.draw
    let w := sourceRoute s c r.1
    superDatagram c.egressPort "C37.118 command" w 17
      (udpDatagram w.v6 w.src w.dst (r.1 / 281474976710656 % 65536) c.key.srcPort f) r.2

/-- The request for a configuration of a context with SRC_CTRL; the STANDBY sends none (R187, R505). -/
def requestCfg (i : Nat) (s : State) : State :=
  let c := s.ctx i
  if !c.srcCtrl || s.sys.mode == .standby then s
  else (sendCommand i (if c.wantCfg3 then 6 else 5) s).modCtx i fun c => { c with lastRequestAt := some s.now }

/-- CFG_REQUEST_REPEAT: every 1 s in AWAIT_CFG (R187). -/
def cfgRepeat (i : Nat) (s : State) : State :=
  let c := s.ctx i
  let due := match c.lastRequestAt with | some t => decide (t + 1000000000000 ≤ s.now) | none => true
  if s.online && c.state = .awaitCfg && due then requestCfg i s else s

/-! ### Reading a configuration frame (R184, R185) -/

/-- A PMU block of a configuration frame. -/
structure PmuRead where
  format : Nat
  ph     : Nat
  an     : Nat
  dg     : Nat
  /-- bit n: phasor n is a current. -/
  types  : Nat
  phScale : List Nat
  anScale : List Nat
  /-- every angle adjustment and every analog offset is 0 (R184). -/
  plain  : Bool
  fnom50 : Bool

/-- The upper 24 bits of an fp32 value, rounded to nearest, ties to even (R181). -/
def scale24 (x : F32) : Nat :=
  let hi := x.toNat / 256
  let lo := x.toNat % 256
  if lo < 128 then hi else if 128 < lo then hi + 1 else hi + hi % 2

/-- The fp32 value of a scale (R181). -/
def scaleF32 (x : Nat) : F32 := BitVec.ofNat 32 (x * 256)

/-- `n` fields of `w` bytes. -/
def fields (w n : Nat) (b : List Byte) : List (List Byte) := (List.range n).map fun i => slice b (w * i) w

/-- A PMU block of CFG-2 and what follows it (IEEE C37.118.2; R185). -/
def readPmu2 (b : List Byte) : Option (PmuRead × List Byte) :=
  let ph := fld b 20 2
  let an := fld b 22 2
  let dg := fld b 24 2
  let o := 26 + 16 * (ph + an + 16 * dg)
  let size := o + 4 * (ph + an + dg) + 4
  if b.length < 26 || decide (b.length < size) then none
  else
    let pu := fields 4 ph (b.drop o)
    let au := fields 4 an (b.drop (o + 4 * ph))
    some ({ format := fld b 18 2, ph, an, dg, types := bitsOf (pu.map fun u => fld u 0 1 == 1)
            phScale := pu.map fun u => scale24 (ratF32 ((fld u 1 3 : Rat) / 100000))
            anScale := au.map fun u => scale24 (ratF32 ((signed 24 (fld u 1 3) : Rat) / 100000))
            plain := true, fnom50 := (fld b (size - 4) 2).testBit 0 }, b.drop size)

/-- What follows `n` names, each with its length in front. -/
def skipNames : Nat → List Byte → Option (List Byte)
  | 0, b => some b
  | n + 1, b =>
    match b with
    | [] => none
    | l :: t => if t.length < l.toNat then none else skipNames n (t.drop l.toNat)

/-- An fp32 field is 0. -/
def zeroF32 (b : List Byte) : Bool := fld b 0 4 % 2 ^ 31 == 0

/-- A PMU block of CFG-3 and what follows it (IEEE C37.118.2; R185). -/
def readPmu3 (b : List Byte) : Option (PmuRead × List Byte) :=
  match skipNames 1 b with
  | none => none
  | some h =>
    let ph := fld h 20 2
    let an := fld h 22 2
    let dg := fld h 24 2
    if h.length < 26 then none
    else match skipNames (ph + an + 16 * dg) (h.drop 26) with
      | none => none
      | some t =>
        let size := 12 * ph + 8 * an + 4 * dg + 25
        if t.length < size then none
        else
          let pu := fields 12 ph t
          let au := fields 8 an (t.drop (12 * ph))
          some ({ format := fld h 18 2, ph, an, dg, types := bitsOf (pu.map fun u => (fld u 2 1).testBit 3)
                  phScale := pu.map fun u => scale24 (BitVec.ofNat 32 (fld u 4 4))
                  anScale := au.map fun u => scale24 (BitVec.ofNat 32 (fld u 0 4))
                  plain := (pu.all fun u => zeroF32 (u.drop 8)) && au.all fun u => zeroF32 (u.drop 4)
                  fnom50 := (fld t (size - 4) 2).testBit 0 }, t.drop size)

/-- `n` PMU blocks and what follows them. -/
def readPmus (read : List Byte → Option (PmuRead × List Byte)) : Nat → List Byte → Option (List PmuRead × List Byte)
  | 0, b => some ([], b)
  | n + 1, b =>
    match read b with
    | none => none
    | some (x, rest) => match readPmus read n rest with
      | none => none
      | some (xs, r) => some (x :: xs, r)

/-- The frame type of a C37.118 frame, SYNC[6:4] of its second octet. -/
def frameType (f : List Byte) : Nat := fld f 1 1 / 16 % 8

/-- A CFG-2 or CFG-3 frame read: TIME_BASE, CONT_IDX, the PMU blocks, DATA_RATE; none where a length or a count is
not consistent with FRAMESIZE, or CHK fails (R184 condition 7). -/
def readConfig (f : List Byte) : Option (Nat × Nat × List PmuRead × Int) :=
  let three : Bool := frameType f = 5
  let o := if three then 16 else 14
  let ok := fld f 0 1 == 0xAA && decide (o + 10 ≤ f.length) && fld f 2 2 == f.length
    && (crcCcitt (f.take (f.length - 2))).toNat == fld f (f.length - 2) 2
  if !ok then none
  else match readPmus (if three then readPmu3 else readPmu2) (fld f (o + 4) 2) (f.drop (o + 6)) with
    | none => none
    | some (xs, rest) =>
      if rest.length = 4 then some (fld f (o + 1) 3, (if three then fld f 14 2 else 0), xs, sfld rest 0 2) else none

/-- EXPECTED_SIZE (R186). -/
def expectedSize (x : PmuRead) : Nat :=
  let w (n : Nat) : Nat := if x.format.testBit n then 2 else 1
  14 + 2 + 4 * w 1 * x.ph + 4 * w 3 + 2 * w 2 * x.an + 2 * x.dg + 2

/-- The frame apart from SOC, FRACSEC and CHK (R183). -/
def cfgContent (f : List Byte) : List Byte := f.take 6 ++ slice f 14 (f.length - 16)

/-- The declared load without context `i`: frames/s, phasor values/s, and frames/s of TCP streams (R188). -/
def declaredLoad (s : State) (i : Nat) : Nat × Nat × Nat :=
  let local_ := s.localLoad
  s.ingress.ctxs.foldl (fun (a : Nat × Nat × Nat) x =>
    match x.2.cfg with
    | some g =>
      if x.1 ≠ i ∧ (x.2.state = .receiving ∨ x.2.state = .silent) then
        (a.1 + g.dataRate, a.2.1 + g.dataRate * g.numPhasors, a.2.2 + (if x.2.key.tcp then g.dataRate else 0))
      else a
    | none => a) (local_.1, local_.2, 0)

/-- The ingress budget admits a stream (R188). -/
def budgetAdmits (s : State) (i rate ph : Nat) (tcp : Bool) : Bool :=
  let r1 := declaredLoad s i
  let f := r1.1
  let p := r1.2.1
  let t := r1.2.2
  decide (f + rate ≤ 2000000) && decide (p + rate * ph ≤ 40000000) && (!tcp || decide (t + rate ≤ 100000))

/-- The check of a configuration for context `i`: the reason of a refusal, or the configuration (R184). -/
def checkConfig (s : State) (i : Nat) (f : List Byte) : Nat ⊕ StreamCfg :=
  match readConfig f with
  | none => .inl 7
  | some (tb, cnt, xs, rate) =>
    match xs with
    | [x] =>
      if 32 < x.ph ∨ 16 < x.an ∨ 4 < x.dg then .inl 2
      else if rate < 1 ∨ 240 < rate then .inl 3
      else if tb = 0 then .inl 4
      else if !x.plain then .inl 5
      else if !budgetAdmits s i rate.toNat x.ph (s.ctx i).key.tcp then .inl 6
      else .inr { numPhasors := x.ph, numAnalog := x.an, numDigital := x.dg, fnom50 := x.fnom50, format := x.format, dataRate := rate.toNat,
                  timeBase := tb, cfgCnt := cnt, expectedSize := expectedSize x, phasorType := BitVec.ofNat 32 x.types,
                  phasorScale := x.phScale, analogScale := x.anScale, content := cfgContent f }
    | _ => .inl 1

/-- A configuration is offered to a context: accepted, refused, or equal to the one in force (R182 to R187). -/
def offerConfig (i : Nat) (f : List Byte) (s : State) : State :=
  let c := s.ctx i
  if (readConfig f).isSome && (c.cfg.map (·.content)) == some (cfgContent f) then s
  else
    let s1 := match checkConfig s i f with
      | .inl r => s.setCtx i { c with state := .rejected, rejectReason := r, cfg := none }
      | .inr g =>
        let fresh := c.state == .awaitCfg || c.state == .rejected
        let s1 := s.setCtx i { c with
          cfg := some g, rejectReason := 0, lastTimeBase := some g.timeBase, cCfgAccepted := inc c.cCfgAccepted
          state := if fresh then .receiving else c.state, lastDataAt := if fresh then s.now else c.lastDataAt }
        if c.srcCtrl && s.sys.mode != .standby then sendCommand i 2 s1 else s1
    refreshSessions (mirrorCtx i s1)

/-- CONFIG_CHECK_DONE: the oldest check of a context completes; one that a rebind or removal voided has no result (R183). -/
def checkDone (i : Nat) (s : State) : State :=
  match s.ingress.checks.find? fun k => k.index = i with
  | none => s
  | some k =>
    let s1 : State := { s with ingress := { s.ingress with checks := s.ingress.checks.erase k } }
    if k.voided || (s.ctx i).state == .free || s.sys.mode == .standby then s1 else offerConfig i k.frame s1

/-! ### Decoding a data frame (R174 to R176, R244) -/

/-- A decoded value: its internal form, or none for an absent channel. -/
def leF32 (v : Option F32) : List Byte := le 4 ((v.map (·.toNat)).getD absentF32)

/-- A phasor of a data frame (R174, R175). -/
def decodePhasor (format : Nat) (scale : Nat) (b : List Byte) : Option (F32 × F32) :=
  if format.testBit 1 then
    let x : F32 := BitVec.ofNat 32 (fld b 0 4)
    let y : F32 := BitVec.ofNat 32 (fld b 4 4)
    if f32IsNan x || f32IsNan y then none
    else if format.testBit 0 then some (x, f32Wrap y) else some (phasorMag x y, phasorAng x y)
  else if fld b 0 2 = 0x8000 ∨ fld b 2 2 = 0x8000 then none
  else if format.testBit 0 then some (f32Mul (intF32 (fld b 0 2)) (scaleF32 scale), f32Wrap (ratF32 ((sfld b 2 2 : Rat) / 10000)))
  else
    let x := f32Mul (intF32 (sfld b 0 2)) (scaleF32 scale)
    let y := f32Mul (intF32 (sfld b 2 2)) (scaleF32 scale)
    some (phasorMag x y, phasorAng x y)

/-- A floating-point value, NaN for absent. -/
def decodeF32 (b : List Byte) : Option F32 :=
  let x : F32 := BitVec.ofNat 32 (fld b 0 4)
  if f32IsNan x then none else some x

/-- An analog value (R174, R175). -/
def decodeAnalog (format scale : Nat) (b : List Byte) : Option F32 :=
  if format.testBit 2 then decodeF32 b
  else if fld b 0 2 = 0x8000 then none else some (f32Mul (intF32 (sfld b 0 2)) (scaleF32 scale))

/-- FREQ and DFREQ (R174, R175). -/
def decodeFreq (g : StreamCfg) (b : List Byte) : Option F32 × Option F32 :=
  if g.format.testBit 3 then (decodeF32 b, decodeF32 (b.drop 4))
  else
    let nominal : Rat := if g.fnom50 then 50 else 60
    (if fld b 0 2 = 0x8000 then none else some (ratF32 (nominal + (sfld b 0 2 : Rat) / 1000)),
     if fld b 2 2 = 0x8000 then none else some (ratF32 ((sfld b 2 2 : Rat) / 100)))

/-- ABSENT_MASK and the channel values of a data frame of a context's configuration (R174, R175, R244). -/
def decodeData (g : StreamCfg) (f : List Byte) : BitVec 64 × List Byte :=
  let w (n : Nat) : Nat := if g.format.testBit n then 2 else 1
  let o1 := 16 + 4 * w 1 * g.numPhasors
  let o2 := o1 + 4 * w 3
  let o3 := o2 + 2 * w 2 * g.numAnalog
  let ph := (fields (4 * w 1) g.numPhasors (f.drop 16)).zipIdx.map fun (b, i) => decodePhasor g.format (g.phasorScale.getD i 0) b
  let fr := decodeFreq g (f.drop o1)
  let an := (fields (2 * w 2) g.numAnalog (f.drop o2)).zipIdx.map fun (b, i) => decodeAnalog g.format (g.analogScale.getD i 0) b
  let dg := fields 2 g.numDigital (f.drop o3)
  let mask := bitsOf (ph.map (·.isNone)) + bitsOf (an.map (·.isNone)) * 2 ^ 32 + bit fr.1.isNone 52 + bit fr.2.isNone 53
  (BitVec.ofNat 64 mask,
   ph.flatMap (fun p => leF32 (p.map (·.1)) ++ leF32 (p.map (·.2))) ++ leF32 fr.1 ++ leF32 fr.2 ++ an.flatMap leF32
     ++ dg.flatMap fun d => le 2 (fld d 0 2))

/-- The time tag of a frame under a TIME_BASE; none for the whole second of SOC (R176, R191). -/
def frameTag (s : State) (f : List Byte) (timeBase : Option Nat) : Stamp :=
  let fracsec := fld f 10 4
  let sec := s.taiOfSoc (fld f 6 4) (fracsec.testBit 29)
  (sec * unitsPerSec + (match timeBase with | some tb => fracsec % 16777216 * unitsPerSec / tb | none => 0)) % stampMod

/-! ### Parse and bind (R60, R173, R179, R180, R609) -/

/-- The FCLK edge at or after an instant, and so many edges on. -/
def fclkAt (now : Ps) (n : Nat) : Ps := (cdiv now 1250 + n) * 1250

/-- The key that a frame shows (R173). -/
def dgramKey (d : StreamDgram) : StreamKey :=
  { tcp := d.tcp, ipv6 := d.ipv6, idcode := fld d.payload 4 2, srcIp := d.srcIp, srcPort := d.srcPort }

/-- A data frame joins the frames that wait for binding: of the lanes that reach one context on one edge, the lane
served j-th has its count 20 4j FCLK later (R179). -/
def pushBind (lane : Nat) (d : StreamDgram) (s : State) : State :=
  let base := fclkAt s.now 20
  let same (x : Nat × ParsedFrame) : Bool := x.2.base = base && dgramKey x.2.dgram == dgramKey d
  let before := (s.ingress.toBind.filter fun x => same x && decide (x.1 < lane)).length
  let later := s.ingress.toBind.map fun (x : Nat × ParsedFrame) =>
    if same x && decide (lane < x.1) then (x.1, { x.2 with due := x.2.due + 5000 }) else x
  { s with ingress := { s.ingress with toBind := later ++ [(lane, { dgram := d, base, due := base + 5000 * before })] } }

/-- A frame's place among those that wait for a ring: by the arrival of its last octet, behind a frame that has begun (R200). -/
def queueFrame (f : RingFrame) : List RingFrame → List RingFrame
  | [] => [f]
  | g :: t => if g.used.isEmpty && decide (f.rxAt < g.rxAt) then f :: g :: t else g :: queueFrame f t

/-- A frame goes to the receive ring of its class, or is dropped and counted there (R167, R169). -/
def toRing (f : RingFrame) (s : State) : State :=
  match (s.ingress.classMap.getD (f.cls - 2) none) with
  | none => classDrop f.cls s
  | some r =>
    let x := vget {} s.ingress.rings r
    if x.enabled && s.host.pcieUp then
      { s with ingress := { s.ingress with rings := vset s.ingress.rings r { x with queue := queueFrame f x.queue } } }
    else classDrop f.cls s

/-- The frames of a datagram go to the ring of a class. -/
def dgramToRing (cls : Nat) (d : StreamDgram) (s : State) : State :=
  d.frames.foldl (fun s o => toRing { cls, port := d.port, macsec := d.macsec, arrival := d.arrival, rxAt := o.1, octets := o.2, cut := false, used := [] } s) s

/-- A frame from no bound key (R167, R173). -/
def unknownKey (d : StreamDgram) (s : State) : State :=
  dgramToRing 2 d { s with ingress := { s.ingress with cUnknown := inc s.ingress.cUnknown } }

/-- RX_STREAM counts a frame of class STREAM on its port; a TCP-carried frame is not one (R167, R204). -/
def countStream (lane : Nat) (s : State) : State :=
  if lane < 4 then
    let p := s.port lane
    { s with ingress := { s.ingress with ports := vset s.ingress.ports lane { p with cStream := inc p.cStream } } }
  else s

/-- The checks of the parser (R173). The key of a frame that is no data frame is looked up here, at the parser's input; no rule
names an instant for it (R180; DESIGN CHOICE, log entry 17). -/
def parseFrame (lane : Nat) (d : StreamDgram) (s : State) : State :=
  let p := d.payload
  let g := s.ingress
  let version := fld p 1 1 % 16
  if p.length < 2 || fld p 0 1 != 0xAA || !(version == 1 || version == 2) then { s with ingress := { g with cSync := inc g.cSync } }
  else if p.length < 4 || fld p 2 2 != p.length then { s with ingress := { g with cSizeErr := inc g.cSizeErr } }
  else if (crcCcitt (p.take (p.length - 2))).toNat ≠ fld p (p.length - 2) 2 then { s with ingress := { g with cChk := inc g.cChk } }
  else if frameType p = 0 then pushBind lane d s
  else match lookupKey s (dgramKey d) with
    | none => unknownKey d s
    | some i =>
      if frameType p = 3 ∨ frameType p = 5 then
        let s1 := countStream lane s
        if s.sys.mode = .standby then s1
        else { s1 with ingress := { s1.ingress with checks := s1.ingress.checks ++ [{ index := i, frame := p, since := s.now, voided := false }] } }
      else dgramToRing 3 d s

/-- PARSER_INPUT: the oldest datagram of a lane that has reached the parser (R60, R173). -/
def parserInput (lane : Nat) (s : State) : State :=
  match s.ingress.toParser.find? fun x => x.1 = lane with
  | some (l, d) =>
    if s.online && decide (d.due ≤ s.now) then
      parseFrame lane d { s with ingress := { s.ingress with toParser := s.ingress.toParser.erase (l, d) } }
    else s
  | none => s

/-- A record takes its place among those on their way to insertion. -/
def pushInsert (due : Ps) (f : FrameRecord) (s : State) : State :=
  { s with ingress := { s.ingress with
    toInsert := (s.ingress.toInsert.takeWhile fun x => decide (x.1 ≤ due)) ++ (due, f) :: s.ingress.toInsert.dropWhile fun x => decide (x.1 ≤ due) } }

/-- An accepted record, whose count 20 is at `due`, goes to insertion, or, for a context of a zone on another device, over the
peer link from the end of parse and bind on (R60, R492, R498). -/
def forwardRecord (due : Ps) (c : Ctx) (f : FrameRecord) (s : State) : State :=
  match c.forward with
  | none => pushInsert (due + 45000) f s
  | some (home, zone) => s.at (due + 20000) (.forward home zone f)

/-- A record leaves for its home device (R491, R492, R498). -/
def sendRecord (home zone : Nat) (f : FrameRecord) (s : State) : State :=
  match s.linkTo home with
  | none => s
  | some k =>
    if (s.link k).state ≠ .joined then s
    else sendA k 0x03 (be 1 zone ++ be 3 0 ++ recordHeader f 0 false ++ turnValues f.counts f.values)
      (s.setLink k { s.link k with cRecTx := inc (s.link k).cRecTx })

/-- ARRIVAL_DELAY (R244). -/
def arrivalDelay (arrival tag : Stamp) : Int := max (-2147483647) (min 2147483647 (roundQ 7 ((stampDiff arrival tag : Rat) / 65536)))

/-- The record of an accepted data frame (R174 to R176, R190, R216, R244). -/
def recordOf (s : State) (i : Nat) (c : Ctx) (g : StreamCfg) (d : StreamDgram) (tag : Stamp) : FrameRecord :=
  let r1 := decodeData g d.payload
  let mask := r1.1
  let values := r1.2
  { position := s.position, isLocal := false, index := i, gen := c.gen.toNat, fracsecHi := fld d.payload 10 1, stat := fld d.payload 14 2
    viaPeer := false, tag, arrivalDelay := arrivalDelay d.arrival tag, absent := mask, values, rate := g.dataRate, timeBase := g.timeBase
    counts := (g.numPhasors, g.numAnalog, g.numDigital) }

/-- A data frame with STAT bit 10 set asks for the configuration, at most every 10 s (R187). -/
def statRequest (i : Nat) (d : StreamDgram) (s : State) : State :=
  let c := s.ctx i
  let due := match c.statRequestAt with | some t => decide (t + 10000000000000 ≤ s.now) | none => true
  if (fld d.payload 14 2).testBit 10 && c.srcCtrl && due then (requestCfg i s).modCtx i fun c => { c with statRequestAt := some s.now } else s

/-- The quarantine drops a frame whose tag is earlier than REBIND_AT (R191). -/
def quarantined (s : State) (c : Ctx) (d : StreamDgram) : Bool :=
  let tb := match c.cfg with | some g => some g.timeBase | none => c.lastTimeBase
  let tb := match tb with | some n => if fld d.payload 11 3 < n then some n else none | none => none
  quarantineOpen s c && decide (stampDiff (frameTag s d.payload tb) c.rebindAt < 0)

/-- Count 36: what binding writes into the context. The state follows an accepted frame only where no rebind and no refused
configuration came between (R60, R182, R191, R609). -/
def ctxUpdate (i gen : Nat) (u : CtxUpdate) (s : State) : State :=
  let c := s.ctx i
  if c.state = .free then s
  else match u with
    | .quarantine => s.setCtx i { c with cQuarantine := inc c.cQuarantine }
    | .noCfg => s.setCtx i { c with cNoCfg := inc c.cNoCfg }
    | .size => s.setCtx i { c with cSize := inc c.cSize }
    | .budget => s.setCtx i { c with cBudget := inc c.cBudget }
    | .accepted tag stat arrival bound =>
      let c1 := { c with cAccepted := inc c.cAccepted, lastTag := tag, lastStat := stat, lastArrival := arrival }
      if c.gen.toNat ≠ gen ∨ c.cfg.isNone then s.setCtx i c1
      else
        let resume := c.state == .silent
        let s1 := s.setCtx i { c1 with
          lastDataAt := max c.lastDataAt bound, state := .receiving, cResumes := if resume then inc c.cResumes else c.cResumes }
        if resume then mirrorCtx i s1 else s1

/-- The context is updated 16 FCLK after count 20 (R60). -/
def noteBound (i : Nat) (due : Ps) (u : CtxUpdate) (s : State) : State := s.at (due + 20000) (.context i (s.ctx i).gen.toNat u)

/-- The tests of R609 on a data frame of a bound context, and what an accepted one does. -/
def bindFrame (i : Nat) (due : Ps) (d : StreamDgram) (s : State) : State :=
  let c := s.ctx i
  if quarantined s c d then noteBound i due .quarantine s
  else
    let s := statRequest i d s
    match c.cfg with
    | none => noteBound i due .noCfg s
    | some g =>
      if d.payload.length ≠ g.expectedSize then noteBound i due .size s
      else if g.timeBase ≤ fld d.payload 11 3 then { s with ingress := { s.ingress with cTag := inc s.ingress.cTag } }
      else
        let need := g.numPhasors * 1000000000000
        if s.ingress.frameBucket < 1000000000000 ∨ s.ingress.phasorBucket < need then
          noteBound i due .budget { s with ingress := { s.ingress with cOver := inc s.ingress.cOver } }
        else
          let tag := frameTag s d.payload (some g.timeBase)
          let s1 : State := { s with ingress := { s.ingress with
            frameBucket := s.ingress.frameBucket - 1000000000000, phasorBucket := s.ingress.phasorBucket - need } }
          forwardRecord due c (recordOf s i c g d tag) (noteBound i due (.accepted tag (fld d.payload 14 2) d.arrival due) s1)

/-- STREAM_FRAME_BIND: the oldest data frame of a lane whose count has reached 20 (R173, R179, R180, R609). -/
def streamFrameBind (lane : Nat) (s : State) : State :=
  match s.ingress.toBind.find? fun x => x.1 = lane with
  | some (l, f) =>
    if !s.online || decide (s.now < f.due) then s
    else
      let s1 : State := { s with ingress := { s.ingress with toBind := s.ingress.toBind.erase (l, f) } }
      match lookupKey s1 (dgramKey f.dgram) with
      | some i => bindFrame i f.due f.dgram (countStream lane s1)
      | none => unknownKey f.dgram s1
  | none => s

/-- STREAM_SILENT: no data frame accepted for 3 periods of DATA_RATE (R182). -/
def goSilent (i : Nat) (s : State) : State :=
  let c := s.ctx i
  match c.cfg with
  | some g =>
    if c.state = .receiving ∧ c.lastDataAt + cdiv 3000000000000 g.dataRate ≤ s.now then mirrorCtx i (s.setCtx i { c with state := .silent }) else s
  | none => s

/-- QUARANTINE_END: 3 s after the rebind instant (R191). -/
def quarantineEnd (i : Nat) (s : State) : State :=
  let c := s.ctx i
  if c.quarantine && !quarantineOpen s c then mirrorCtx i (s.setCtx i { c with quarantine := false }) else s

/-! ### GEN frames (R499) -/

/-- A GEN frame of a forwarded context, to be repeated twice 1 µs apart (R499). -/
def sendGen (i : Nat) (home : Nat) (gen : BitVec 4) (s : State) : State :=
  match s.linkTo home with
  | none => s
  | some k =>
    let s1 := sendA k 0x04 (be 2 i ++ be 1 gen.toNat ++ be 1 0) s
    { s1 with pair := { s1.pair with genRepeats := s1.pair.genRepeats.filter (fun x => x.index != i) ++
        [{ index := i, home, gen := gen.toNat, sent := 1, nextAt := s.now + 1000000 }] } }

/-! ### TCP-carried frames (R194 to R196) -/

/-- A context with a connection that the supervisor terminates (R194, R195). -/
def hasConn (c : Ctx) : Bool := c.state != .free && (c.key.tcp || c.tcpCommand)

/-- TCP_RECONNECT: an attempt to open a lost connection, at the earliest 5 s after the last (R194). -/
def tcpReconnect (i : Nat) (connected : Bool) (s : State) : State :=
  let c := s.ctx i
  let due := match c.tcpTryAt with | some t => decide (t + 5000000000000 ≤ s.now) | none => true
  if s.online && hasConn c && !c.tcpUp && due then
    sourceSegment "TCP SYN" c 0x02 [] (s.setCtx i { c with tcpUp := connected, tcpTryAt := some s.now, tcpBuf := [], tcpArr := [], tcpScan := false })
  else s

/-- The supervisor's receive window for stream connections is open (R194; log entry 17). -/
def tcpWindowOpen (s : State) : Bool := decide (1000000000000 ≤ s.ingress.tcpBucket)

/-- A segment of a stream's connection: its octets, or the end of the connection. While the window is closed the octets
stay with the peer, which sends them again (R194, R196). -/
def streamSegment (i : Nat) (g : TcpSegment) (s : State) : State :=
  let c := s.ctx i
  if !hasConn c || !c.tcpUp then s
  else if g.close || g.reset then s.setCtx i { c with tcpUp := false, tcpBuf := [], tcpArr := [], tcpScan := false, tcpTryAt := some s.now }
  else if g.payload.isEmpty || !tcpWindowOpen s then s
  else s.setCtx i { c with tcpBuf := c.tcpBuf ++ g.payload, tcpArr := c.tcpArr ++ [(s.now, g.payload.length)] }

/-- The arrivals of what is left once `n` octets are gone. -/
def dropArrivals : Nat → List (Ps × Nat) → List (Ps × Nat)
  | _, [] => []
  | n, (t, k) :: rest => if n < k then (t, k - n) :: rest else dropArrivals (n - k) rest

/-- The octets of a connection not yet framed are now `rest`, the tail of what they were. -/
def Ctx.keepOctets (c : Ctx) (rest : List Byte) : Ctx :=
  { c with tcpBuf := rest, tcpArr := dropArrivals (c.tcpBuf.length - rest.length) c.tcpArr }

/-- A SYNC candidate: 0xAA, then a frame type 0 to 5 and a version 1 or 2 (R196). -/
def syncCandidate (a b : Byte) : Bool := a == 0xAA#8 && decide (b.toNat / 16 % 8 ≤ 5) && (b.toNat % 16 == 1 || b.toNat % 16 == 2)

/-- The octets from the first candidate on (R196). -/
def scanSync : List Byte → List Byte
  | a :: b :: t => if syncCandidate a b then a :: b :: t else scanSync (b :: t)
  | [a] => if a == 0xAA#8 then [a] else []
  | [] => []

/-- What the parser of a connection finds: a complete frame, or nothing yet; a candidate whose CHK fails is passed over (R196). -/
def takeFrame (scan : Bool) : Nat → List Byte → Option (List Byte) × List Byte
  | 0, b => (none, b)
  | n + 1, b =>
    let b := if scan then scanSync b else b
    let size := max 4 (fld b 2 2)
    if b.length < 4 || decide (b.length < size) then (none, b)
    else
      let f := b.take size
      if !scan || (crcCcitt (f.take (size - 2))).toNat == fld f (size - 2) 2 then (some f, b.drop size) else takeFrame scan n (b.drop 1)

/-- TCP_FRAME_DELIVER: a complete frame goes to lane 4, within the 100,000 frames/s of the termination (R194, R196). Its arrival
time is that of this delivery, and what a receive ring may hold of it is the C37.118 frame alone with the context's egress port
as PORT: no rule says either (R181, R199; DESIGN CHOICE, log entry 17). -/
def tcpDeliver (i : Nat) (s : State) : State :=
  let c := s.ctx i
  if !s.online || !hasConn c || !tcpWindowOpen s then s
  else
    let r1 := takeFrame c.tcpScan (c.tcpBuf.length + 1) c.tcpBuf
    let f := r1.1
    let rest := r1.2
    match f with
    | none => s.setCtx i (c.keepOctets rest)
    | some f =>
      let d : StreamDgram := { ipv6 := c.key.ipv6, tcp := c.key.tcp, srcIp := c.key.srcIp, srcPort := c.key.srcPort, dstPort := c.dstPort
                               arrival := s.stamp, macsec := false, port := c.egressPort, payload := f, frames := [(s.now, f)], rxAt := s.now, due := s.now }
      let s1 := s.setCtx i { c.keepOctets rest with tcpScan := false }
      { s1 with ingress := { s1.ingress with
        toParser := s1.ingress.toParser ++ [(4, d)], tcpBucket := s1.ingress.tcpBucket - 1000000000000 } }

/-- TCP_FRAME_TIMEOUT: a frame, or a candidate, not complete 50 ms after its first octet is discarded, and the parser
scans on (R196). -/
def tcpTimeout (i : Nat) (s : State) : State :=
  let c := s.ctx i
  let r := takeFrame c.tcpScan (c.tcpBuf.length + 1) c.tcpBuf
  let c1 := c.keepOctets r.2
  match c1.tcpArr with
  | [] => s
  | (t, _) :: _ =>
    if !hasConn c || decide (s.now < t + 50000000000) || r.1.isSome then s
    else
      let rest := if c.tcpScan then scanSync (c1.tcpBuf.drop 1) else []
      let s1 : State := { s with ingress := { s.ingress with cTcpTimeout := inc s.ingress.cTcpTimeout } }
      s1.setCtx i { c1.keepOctets rest with tcpScan := true }

end Sys2Proof.Machine
end

