-- ==== Sys2Proof/Machine/Receive.lean ====
section
/-! DEFINITION. Reception on the WAN ports and the management port, reassembly, the supervisor's answers, the host
receive rings (R162 to R172, R198 to R201, R204, R461, R462). -/

namespace Sys2Proof.Machine

/-! ### Headers (R171) -/

/-- An Ethernet frame's type and payload, past at most one IEEE 802.1Q tag (R171). -/
def ethPayload (b : List Byte) : Nat × List Byte :=
  if fld b 12 2 = 0x8100 then (fld b 16 2, b.drop 18) else (fld b 12 2, b.drop 14)

/-- An IP packet: addresses, protocol, fragment fields, payload. -/
structure IpPkt where
  v6    : Bool
  src   : Nat
  dst   : Nat
  proto : Nat
  ident : Nat
  /-- offset of the fragment in octets. -/
  off   : Nat
  /-- more fragments follow. -/
  more  : Bool
  body  : List Byte

/-- An IPv4 packet with a header of 20 to 60 octets (R171). -/
def readIp4 (p : List Byte) : Option IpPkt :=
  let ihl := fld p 0 1 % 16 * 4
  let total := fld p 2 2
  if fld p 0 1 / 16 != 4 || decide (ihl < 20) || decide (total < ihl) || decide (p.length < total) then none
  else some { v6 := false, src := fld p 12 4, dst := fld p 16 4, proto := fld p 9 1, ident := fld p 4 2, off := fld p 6 2 % 8192 * 8
              more := (fld p 6 2).testBit 13, body := slice p ihl (total - ihl) }

/-- An IPv6 packet with no extension header, or with one Fragment header (R171). -/
def readIp6 (p : List Byte) : Option IpPkt :=
  let len := fld p 4 2
  let b := slice p 40 len
  if fld p 0 1 / 16 != 6 || decide (p.length < 40 + len) then none
  else if fld p 6 1 = 44 then
    (if len < 8 then none
     else some { v6 := true, src := fld p 8 16, dst := fld p 24 16, proto := fld b 0 1, ident := fld b 4 4, off := fld b 2 2 / 8 * 8
                 more := (fld b 2 2).testBit 0, body := b.drop 8 })
  else some { v6 := true, src := fld p 8 16, dst := fld p 24 16, proto := fld p 6 1, ident := 0, off := 0, more := false, body := b }

/-- An IPv6 packet behind its Hop-by-Hop Options header, in which the multicast listener messages come (R167, RFC 3810). -/
def pastHopByHop (i : IpPkt) : IpPkt :=
  if i.v6 && i.proto == 0 then { i with proto := fld i.body 0 1, body := i.body.drop ((fld i.body 1 1 + 1) * 8) } else i

/-- The IP packet of an Ethernet payload. -/
def readIp (etype : Nat) (p : List Byte) : Option IpPkt :=
  if etype = 0x0800 then readIp4 p else if etype = 0x86DD then readIp6 p else none

/-- The port's own address (R171). -/
def ownAddress (p : PortSt) (i : IpPkt) : Bool := i.dst == (if i.v6 then p.ipv6 else p.ipv4)

/-- The port's own address, or a joined group (R171). -/
def forPort (p : PortSt) (i : IpPkt) : Bool := ownAddress p i || p.groups.contains (i.v6, i.dst)

/-! ### Steps 1 to 5 of R163 -/

/-- The addresses that the filter keeps (R163). -/
def macAccepted (p : PortSt) (dst : Nat) : Bool :=
  dst == p.mac || dst == 0xFFFFFFFFFFFF || dst == 0x011B19000000 || dst == 0x0180C200000E || dst == 0x0180C2000003
    || p.groups.any fun g => groupMac g.1 g.2 == dst

/-- The next packet number of a receive association. -/
def nextPn (m : MkaPort) (member an : Nat) : Option Nat :=
  ((m.rx.find? fun c => c.1 == member).bind fun c => c.2.find? fun a => a.1 == an).map (·.2)

/-- MACsec verification of a protected frame: its association is installed, its integrity check holds, and its packet
number lies at or above the next one less the replay window; the next packet number follows (R164, IEEE 802.1AE-2018). -/
def macsecVerify (replay : Nat) (m : MkaPort) (member an pn : Nat) (icvOk : Bool) : Option MkaPort :=
  match nextPn m member an with
  | none => none
  | some n =>
    if !icvOk || decide (pn + replay < n) then none
    else some { m with rx := m.rx.map fun c => if c.1 = member then (c.1, c.2.map fun a => if a.1 = an then (an, max n (pn + 1)) else a) else c }

/-- A frame has a valid length and passes the address filter: its header names the ring it fills (R163, R201). -/
def headerKept (p : PortSt) (f : LineFrame) : Bool :=
  decide (64 ≤ f.wireLength) && decide (f.wireLength ≤ 9216) && macAccepted p (fld f.octets 0 6)

/-- Steps 2 to 5: whether the frame goes on, the port with its counters and the port's associations.  EAPOL frames pass
MACsec unprotected (R163, R164, R204). -/
def macSteps (m : MkaPort) (p : PortSt) (f : LineFrame) : Bool × PortSt × MkaPort :=
  let p := { p with cFrames := inc p.cFrames }
  let p := if p.rsFec then { p with cFecCorr := incBy p.cFecCorr f.fecCorr, cFecUncorr := incBy p.cFecUncorr f.fecUncorr } else p
  if f.wireLength < 64 then (false, { p with cRunt := inc p.cRunt }, m)
  else if 9216 < f.wireLength then (false, { p with cOversize := inc p.cOversize }, m)
  else if !f.fcsOk || (p.rsFec && f.fecOverlap) then (false, { p with cFcsErr := inc p.cFcsErr }, m)
  else if !macAccepted p (fld f.octets 0 6) then (false, { p with cFiltered := inc p.cFiltered }, m)
  else if p.macsec = .off ∨ (ethPayload f.octets).1 = 0x888E then (true, p, m)
  else match f.macsec with
    | .tagged member an pn icvOk =>
      (match macsecVerify p.replay m member an pn icvOk with
       | some m' => (true, p, m')
       | none => (false, { p with cMacsecDrop := inc p.cMacsecDrop }, m))
    | .untagged =>
      if p.macsec = .strict then (false, { p with cMacsecDrop := inc p.cMacsecDrop }, m) else (true, { p with cMacsecUntagged := inc p.cMacsecUntagged }, m)

/-- The frame was verified by MACsec: it carried a SecTAG on a port that checks it (R199). -/
def verified (p : PortSt) (f : LineFrame) : Bool := p.macsec != .off && (match f.macsec with | .tagged _ _ _ _ => true | .untagged => false)

/-! ### Stream datagrams and reassembly (R166, R171, R172) -/

/-- The physical time at which a frame whose last FCS octet is at the pins now reaches the parser (R60, R166). -/
def parserAt (p : PortSt) (reassembled : Bool) (now : Ps) : Ps :=
  (cdiv now 2560 + (if p.macsec = .off then 52 else 84) + (if p.rsFec then 180 else 0) + (if reassembled then 24 else 0)) * 2560

/-- A whole UDP datagram to a stream port: its checksum, then the way to the parser (R171). -/
def udpStream (port : Nat) (v6 : Bool) (src dst : Nat) (u : List Byte) (arrival : Stamp) (macsec : Bool) (frames : List (Ps × List Byte))
    (due : Ps) (s : State) : State :=
  let len := fld u 4 2
  let sum := fold16 (onesSum (pseudoHeader v6 src dst 17 len ++ u.take len))
  let ok := decide (8 ≤ len) && decide (len ≤ u.length) && (if fld u 6 2 = 0 then !v6 else sum == 65535)
  if !ok then { s with ingress := { s.ingress with cUdpChk := inc s.ingress.cUdpChk } }
  else
    let d : StreamDgram := { ipv6 := v6, tcp := false, srcIp := src, srcPort := fld u 0 2, dstPort := fld u 2 2, arrival, macsec, port
                             payload := slice u 8 (len - 8), frames, rxAt := s.now, due }
    { s with ingress := { s.ingress with toParser := s.ingress.toParser ++ [(port, d)] } }

/-- A datagram's first octets name a stream UDP port (R167). -/
def streamPort (s : State) (u : List Byte) : Bool := decide (8 ≤ u.length) && s.ingress.streamPorts.contains (fld u 2 2)

/-- A new fragment overlaps a piece (R172). -/
def overlaps (off len : Nat) (p : Nat × List Byte × RingFrame) : Bool := decide (off < p.1 + p.2.1.length) && decide (p.1 < off + len)

/-- The octets of a datagram whose pieces leave no gap. -/
def joinPieces (total : Nat) (ps : List (Nat × List Byte × RingFrame)) : Option (List Byte) :=
  let b := ps.foldl (fun (a : List Byte) _ => match ps.find? fun p => p.1 = a.length with | some p => if p.2.1.isEmpty then a else a ++ p.2.1 | none => a) []
  if b.length = total then some b else none

/-- The entry of a fragment. -/
def sameDgram (i : IpPkt) (r : Reassembly) : Bool := r.ipv6 == i.v6 && r.srcIp == i.src && r.dstIp == i.dst && r.ident == i.ident

/-- The frames of fragments that are not of a stream port (R172). -/
def passFragments (r : Reassembly) (s : State) : State := r.pieces.foldl (fun s p => toRing p.2.2 s) s

/-- A fragment of a UDP datagram arrives (R172). A fragment past the end of its datagram, and a second last one, drop the
datagram and count in FRAG_DROP like an overlap: R205 does not name them (DESIGN CHOICE, log entry 17). -/
def fragmentIn (port : Nat) (i : IpPkt) (f : RingFrame) (s : State) : State :=
  let g := s.ingress
  let rest := g.reasm.filter fun r => !sameDgram i r
  let drop : State := { s with ingress := { g with reasm := rest, cFragDrop := inc g.cFragDrop } }
  let other := decide (i.off = 0) && !streamPort s i.body
  let old := g.reasm.find? (sameDgram i)
  if (match old with | some r => r.other | none => false) then toRing f s
  else if old.isNone && !other && decide (1024 ≤ (g.reasm.filter fun r => !r.other).length) then
    { s with ingress := { g with cFragDrop := inc g.cFragDrop } }
  else
    let r : Reassembly := old.getD { ipv6 := i.v6, srcIp := i.src, dstIp := i.dst, ident := i.ident, first := s.stamp, pieces := [], total := none, other := false }
    let end_ := i.off + i.body.length
    let total := if i.more then r.total else some end_
    let r' : Reassembly := { r with pieces := r.pieces ++ [(i.off, i.body, f)], total, other }
    let past := match total with
      | some n => decide (n < end_) || (r.total.isSome && !i.more) || r.pieces.any fun p => decide (n < p.1 + p.2.1.length)
      | none => false
    if other then passFragments r' { s with ingress := { g with reasm := rest ++ [{ r' with pieces := [] }] } }
    else if decide (4 < r'.pieces.length) || decide (16384 < end_) || past || r.pieces.any (overlaps i.off i.body.length) then drop
    else match total.bind fun n => joinPieces n r'.pieces with
      | some b => udpStream port i.v6 i.src i.dst b f.arrival f.macsec (r'.pieces.map fun p => (p.2.2.rxAt, p.2.2.octets))
          (parserAt (s.port port) true s.now) { s with ingress := { g with reasm := rest } }
      | none => { s with ingress := { g with reasm := rest ++ [r'] } }

/-- FRAGMENT_TIMEOUT: datagrams not complete 50 ms of the time base after their first fragment are dropped (R172). -/
def fragmentTimeout (s : State) : State :=
  let old (r : Reassembly) : Bool := decide (50 * (unitsPerMs : Int) ≤ stampDiff s.stamp r.first)
  let n := (s.ingress.reasm.filter fun r => old r && !r.other).length
  { s with ingress := { s.ingress with reasm := s.ingress.reasm.filter fun r => !old r, cFragTimeout := incBy s.ingress.cFragTimeout n } }

/-! ### Classification (R167, R168) -/

/-- An ICMP, ICMPv6, IGMP or MLD message that the supervisor answers (R167, R170). -/
def supervisorIp (p : PortSt) (i : IpPkt) : Bool :=
  let i := pastHopByHop i
  let type := fld i.body 0 1
  if i.proto = 1 then !i.v6 && type == 8 && ownAddress p i
  else if i.proto = 2 then !i.v6 && type == 0x11
  else if i.proto = 58 then
    i.v6 && ((type == 128 && ownAddress p i) || type == 130 || (type == 135 && fld i.body 8 16 == p.ipv6) || (type == 136 && ownAddress p i))
  else false

/-- A TCP segment of a connection that the supervisor terminates on a port: from the source and port of a stream's
connection, or to the listen port of a session (R167, R194, R398). -/
def supervisorTcp (s : State) (port : Nat) (i : IpPkt) : Bool :=
  i.proto == 6 && ownAddress (s.port port) i &&
    ((s.ingress.ctxs.any fun x => hasConn x.2 && x.2.egressPort == port && x.2.key.ipv6 == i.v6 && x.2.key.srcIp == i.src && connPort x.2 == fld i.body 0 2)
      || s.egress.sessions.any fun x => x.2.cfg.enable && x.2.cfg.port == port && x.2.cfg.transport == .tcp && x.2.cfg.listenPort == fld i.body 2 2)

/-- A frame of class SUPERVISOR is counted; ARP, ICMP, neighbour discovery and group queries wait for SUPERVISOR_FRAME,
while PTP, MKA and TCP come as rows of their own (R167, R204). -/
def toSupervisor (port : Nat) (queue : Bool) (octets : List Byte) (s : State) : State :=
  let p := s.port port
  { s with ingress := { s.ingress with
    ports := vset s.ingress.ports port { p with cSupervisor := inc p.cSupervisor }
    toSupervisor := if queue then s.ingress.toSupervisor ++ [(port, octets)] else s.ingress.toSupervisor } }

/-- What step 6 makes of a frame on a WAN port: for the supervisor, queued for it or coming as a row of its own; a fragment
of a UDP datagram; a datagram to a stream port; or WAN_OTHER. -/
inductive WanClass where
  | supervisor (queue : Bool)
  | fragment (i : IpPkt)
  | stream (i : IpPkt)
  | other

/-- The class of a frame on a WAN port by its headers (R167, R171). -/
def wanClass (port : Nat) (octets : List Byte) (s : State) : WanClass :=
  let p := s.port port
  let r1 := ethPayload octets
  let etype := r1.1
  let b := r1.2
  if etype = 0x88F7 ∨ etype = 0x888E then .supervisor false
  else if etype = 0x0806 then (if fld b 24 4 = p.ipv4 then .supervisor true else .other)
  else match readIp etype b with
    | none => .other
    | some i =>
      let fragment := i.more || decide (0 < i.off)
      if !fragment && supervisorIp p i then .supervisor true
      else if !fragment && supervisorTcp s port i then .supervisor false
      else if i.proto ≠ 17 ∨ !forPort p i then .other
      else if fragment then .fragment i
      else if streamPort s i.body then .stream i
      else .other

/-- Step 6 on a WAN port (R163, R167). -/
def classifyWan (port : Nat) (f : LineFrame) (arrival : Stamp) (s : State) : State :=
  let p := s.port port
  let macsec := verified p f
  let rf : RingFrame := { cls := 4, port, macsec, arrival, rxAt := s.now, octets := f.octets, cut := false, used := [] }
  match wanClass port f.octets s with
  | .supervisor queue => toSupervisor port queue f.octets s
  | .fragment i => fragmentIn port i rf s
  | .stream i => udpStream port i.v6 i.src i.dst i.body arrival macsec [(s.now, f.octets)] (parserAt p false s.now) s
  | .other => toRing rf s

/-- A frame whose FCS or MACsec check fails after its octets have begun to fill buffers of its ring: the ring ends it with
DISCARD; how much has been filled by then no rule says (R201; log entry 17). -/
def cutFrame (cls port : Nat) (f : LineFrame) (arrival : Stamp) (s : State) : State :=
  let n := min (Config.filledEarly f.octets.length) f.octets.length
  match s.ingress.classMap.getD (cls - 2) none with
  | none => s
  | some r =>
    let x := vget {} s.ingress.rings r
    if n = 0 || !x.enabled || !s.host.pcieUp then s
    else toRing { cls, port, macsec := false, arrival, rxAt := s.now, octets := f.octets.take n, cut := true, used := [] } s

/-- A whole frame takes steps 2 to 6 of R163. A fragment that is WAN_OTHER begins to fill buffers only behind its FCS and MACsec
check, unlike a frame whose own header names its ring: no rule says when the filling begins (R201; DESIGN CHOICE, log entry
17). -/
def wanFrame (port : Nat) (f : LineFrame) (arrival : Stamp) (s : State) : State :=
  let p0 := s.port port
  let r1 := macSteps (vget {} s.sec.mka port) p0 f
  let on := r1.1
  let s1 : State := { s with ingress := { s.ingress with ports := vset s.ingress.ports port r1.2.1 }
                             sec := { s.sec with mka := vset s.sec.mka port r1.2.2 } }
  if on then classifyWan port f arrival s1
  else match headerKept p0 f, wanClass port f.octets s1 with
    | true, .other => cutFrame 4 port f arrival s1
    | _, _ => s1

/-- What a port holds of a preempted frame with one mPacket more (R404). -/
def joinPacket (q : PartialFrame) (f : LineFrame) : PartialFrame :=
  { q with octets := q.octets ++ f.octets, wireLength := q.wireLength + f.wireLength, fecCorr := q.fecCorr + f.fecCorr
           fecUncorr := q.fecUncorr + f.fecUncorr, fecOverlap := q.fecOverlap || f.fecOverlap }

/-- WAN_FRAME_RX (R163, R404): the row stands for the last FCS octet at the pins; the arrival time is that of the frame's start
(R130, R131). With preemption active the mPackets of a preempted frame are put together first; an mPacket out of place is no
frame. A port with preemption enabled answers a verify mPacket (DEDUCED, log entry 19). -/
def wanFrameRx (port : Nat) (f : LineFrame) (s : State) : State :=
  if !s.online || decide (4 ≤ port) || !(s.port port).linkUp then s
  else
    let p := s.port port
    let arrival := stampAdd (s.pcsStamp (f.wireLength * octetPs p)) (-(s.timePort port).ingressLat)
    let put (q : Option PartialFrame) : State := { s with ingress := { s.ingress with ports := vset s.ingress.ports port { p with partial_ := q } } }
    match f.mpacket with
    | .whole => wanFrame port f arrival s
    | .verify => if (s.tx port).preempt then s.emit (.verify port true) else s
    | .first =>
      if !(s.tx port).active then s
      else put (some { octets := f.octets, wireLength := f.wireLength, fecCorr := f.fecCorr, fecUncorr := f.fecUncorr, fecOverlap := f.fecOverlap, arrival })
    | .later last =>
      match p.partial_ with
      | none => s
      | some q =>
        let r := joinPacket q f
        if !(s.tx port).active then s
        else if !last then put (some r)
        else wanFrame port { f with mpacket := .whole, octets := r.octets, wireLength := r.wireLength, fecCorr := r.fecCorr, fecUncorr := r.fecUncorr
                                    fecOverlap := r.fecOverlap } r.arrival (put none)

/-- The management port with its addresses in force (R482). -/
def mgmtPort (s : State) : PortSt :=
  { s.port 4 with mac := s.host.mgmtCfg.mac, ipv4 := s.host.mgmtCfg.ipv4, ipv6 := s.host.mgmtCfg.ipv6 }

/-- Whether a frame on the management port is for the supervisor, and queued for it (R167).  The table of R167 names PTP
messages without a port; R128 gives the management port no PTP, so one there is MGMT_OTHER (DESIGN CHOICE, log entry 17). -/
def mgmtSupervisor (p : PortSt) (octets : List Byte) : Option Bool :=
  let r1 := ethPayload octets
  let etype := r1.1
  let b := r1.2
  if etype = 0x888E then some false
  else if etype = 0x0806 then (if fld b 24 4 = p.ipv4 then some true else none)
  else match readIp etype b with
    | none => none
    | some i =>
      if supervisorIp p i then some true
      else if i.proto = 17 ∧ ownAddress p i ∧ fld i.body 2 2 = 4817 then some false
      else none

/-- Step 6 on the management port: SUPERVISOR or MGMT_OTHER (R167, R168). -/
def classifyMgmt (f : LineFrame) (arrival : Stamp) (s : State) : State :=
  match mgmtSupervisor (mgmtPort s) f.octets with
  | some queue => toSupervisor 4 queue f.octets s
  | none => toRing { cls := 5, port := 4, macsec := verified { macsec := .strict } f, arrival, rxAt := s.now, octets := f.octets, cut := false, used := [] } s

/-- MGMT_FRAME_RX (R163, R168, R204): a protected frame that fails MACsec verification is dropped. -/
def mgmtFrameRx (f : LineFrame) (s : State) : State :=
  if !s.online || !s.host.mgmtLink then s
  else
    let arrival := s.pcsStamp (f.wireLength * 8000)
    let p0 := mgmtPort s
    let m := vget {} s.sec.mka 4
    let r1 := macSteps m { p0 with rsFec := false, macsec := .off } f
    let on := r1.1
    let p := { r1.2.1 with macsec := p0.macsec }
    let keep (q : PortSt) (m : MkaPort) (s : State) : State :=
      { s with ingress := { s.ingress with ports := vset s.ingress.ports 4 q }, sec := { s.sec with mka := vset s.sec.mka 4 m } }
    let fail (q : PortSt) : State :=
      let s1 := keep q m s
      if headerKept p0 f && (mgmtSupervisor p0 f.octets).isNone then cutFrame 5 4 f arrival s1 else s1
    if !on then fail p
    else match f.macsec with
      | .untagged => classifyMgmt f arrival (keep p m s)
      | .tagged member an pn icvOk =>
        match macsecVerify 0 m member an pn icvOk with
        | some m' => classifyMgmt f arrival (keep p m' s)
        | none => fail { p with cMacsecDrop := inc p.cMacsecDrop }

/-! ### The supervisor's answers (R170) -/

/-- A message behind its type and code, with the checksum of ICMP, IGMP or, over the pseudo-header, of ICMPv6 (R170; PRESUMED,
the RFCs, log entry 12). -/
def checkedMessage (pseudo : List Byte) (type : Nat) (rest : List Byte) : List Byte :=
  let m (chk : Nat) : List Byte := be 1 type ++ be 1 0 ++ be 2 chk ++ rest
  m (ipChecksum (pseudo ++ m 0))

/-- The way back to the sender of a frame on a port: its tag, its addresses turned (R170). -/
def answerRoute (p : PortSt) (f : List Byte) (i : IpPkt) : Route :=
  let tagged := fld f 12 2 = 0x8100
  { v6 := i.v6, mac := fld f 6 6, src := if i.v6 then p.ipv6 else p.ipv4, dst := i.src, srcMac := p.mac
    vlan := if tagged then fld f 14 2 % 4096 else 0, prio := if tagged then fld f 14 2 / 8192 else 0, dscp := Config.superDscp.toNat }

/-- The management port with its addresses in force (R482), or a WAN port. -/
def addressedPort (s : State) (port : Nat) : PortSt := if port = 4 then mgmtPort s else s.port port

/-- The report of the joined groups of a port, of IPv4 or of IPv6: IGMPv3 to 224.0.0.22, MLDv2 to ff02::16 behind a Hop-by-Hop
header with the router alert (R170; PRESUMED, RFC 3376 and RFC 3810, log entry 12). -/
def groupReport (port : Nat) (v6 : Bool) (s : State) : State :=
  let p := addressedPort s port
  let gs := p.groups.filter fun g => g.1 == v6
  let dst := if v6 then 0xFF020000000000000000000000000016 else 0xE0000016
  let r : Route := { v6, mac := groupMac v6 dst, src := if v6 then p.ipv6 else p.ipv4, dst, srcMac := p.mac, vlan := 0, prio := 0, dscp := Config.superDscp.toNat }
  let records := be 2 0 ++ be 2 gs.length ++ gs.flatMap fun g => [2, 0, 0, 0] ++ (if v6 then be 16 g.2 else be 4 g.2)
  if v6 then
    let m (n : Nat) : List Byte := checkedMessage (pseudoHeader true r.src dst 58 n) 143 records
    superDatagram port "MLDv2 report" r 0 ([58, 0, 5, 2, 0, 0, 1, 0] ++ m (4 + records.length)) s
  else superDatagram port "IGMPv3 report" r 2 (checkedMessage [] 0x22 records) s

/-- The octets of an ARP reply to a request (R170; PRESUMED, RFC 826, log entry 12). -/
def arpReply (p : PortSt) (f : List Byte) (b : List Byte) : List Byte :=
  let r := answerRoute p f { v6 := false, src := 0, dst := 0, proto := 0, ident := 0, off := 0, more := false, body := [] }
  ethHeader r.mac r.srcMac r.vlan r.prio 0x0806 ++ be 2 1 ++ be 2 0x0800 ++ [6, 4] ++ be 2 2 ++ be 6 p.mac ++ slice b 24 4 ++ slice b 8 10

/-- The supervisor's answer to an IP message for it (R170). -/
def answerIp (port : Nat) (f : List Byte) (i : IpPkt) (s : State) : State :=
  let p := addressedPort s port
  let r := answerRoute p f i
  let type := fld i.body 0 1
  let six (n : Nat) : List Byte := pseudoHeader true r.src r.dst 58 n
  if i.proto = 1 then superDatagram port "ICMP echo reply" r 1 (checkedMessage [] 0 (i.body.drop 4)) s
  else if i.proto = 2 then groupReport port false s
  else if type = 128 then superDatagram port "ICMPv6 echo reply" r 58 (checkedMessage (six i.body.length) 129 (i.body.drop 4)) s
  else if type = 130 then groupReport port true s
  else if type = 135 then
    superDatagram port "neighbour advertisement" r 58 (checkedMessage (six 32) 136 (be 4 0x60000000 ++ be 16 p.ipv6 ++ [2, 1] ++ be 6 p.mac)) s
  else s

/-- The supervisor takes the oldest of its frames (R170). -/
def supervisorFrame (s : State) : State :=
  match s.ingress.toSupervisor with
  | [] => s
  | (port, f) :: rest =>
    let s1 : State := { s with ingress := { s.ingress with toSupervisor := rest } }
    let r1 := ethPayload f
    let b := r1.2
    if r1.1 = 0x0806 then (if fld b 6 2 = 1 then superFrames port "ARP reply" [arpReply (addressedPort s port) f b] s1 else s1)
    else match readIp r1.1 b with
      | none => s1
      | some i => answerIp port f (pastHopByHop i) s1

/-! ### Host receive rings (R199 to R201, R461, R462) -/

/-- A ring, and a change of it. -/
def State.rxRing (s : State) (r : Nat) : RxRing := vget {} s.ingress.rings r
def State.setRxRing (s : State) (r : Nat) (x : RxRing) : State := { s with ingress := { s.ingress with rings := vset s.ingress.rings r x } }

/-- The write-back of one descriptor: the other fields, then the word that holds OWN (R199, R200). -/
def descriptorWrites (x : RxRing) (f : RingFrame) (sop eop discard : Bool) (d : Nat × Nat) : List Output :=
  let a := x.base.toNat + 32 * d.1
  let at_ := if sop then le 6 (stampSec f.arrival) ++ le 4 (stampSub f.arrival / 65536) ++ le 2 (f.arrival % 65536) else List.replicate 12 0
  [.hostWrite (a + 12) (be 1 f.cls ++ be 1 f.port ++ be 2 0 ++ at_ ++ be 4 0),
   .hostWrite (a + 8) (le 2 d.2 ++ le 2 (bit sop 1 + bit eop 2 + bit discard 3 + bit f.macsec 4))]

/-- The write-back of the buffers of a frame, in ring order (R200, R201). -/
def writeBackFrame (x : RxRing) (f : RingFrame) (discard : Bool) : List Output :=
  (f.used.zipIdx.map fun (d, i) => descriptorWrites x f (i = 0) (i + 1 = f.used.length) discard d).flatten

/-- A frame that arrived earlier is still on its way through a parser or held as a fragment, and may yet come to ring `r`
(R200). -/
def earlierOnWay (s : State) (r : Nat) (f : RingFrame) : Bool :=
  let waits (d : StreamDgram) : Bool := d.frames.any fun o => decide (o.1 < f.rxAt)
  ((s.ingress.classMap.take 2).any (· == some r)
    && ((s.ingress.toParser.any fun d => d.1 < 4 && waits d.2) || s.ingress.toBind.any fun d => d.1 < 4 && waits d.2.dgram))
  || ((s.ingress.classMap.take 3).any (· == some r) && s.ingress.reasm.any fun d => d.pieces.any fun p => decide (p.2.2.rxAt < f.rxAt))

/-- RX_DESCRIPTOR_WRITEBACK: the ring takes its next buffer for the frame at the front; `desc` is the descriptor at HEAD.
A frame whose check failed is ended with DISCARD once the octets that had come are in; where it also finds no buffer, RX_NOBUF
counts beside its own error counter, since R201 has both "in both cases" and "in place of" (DESIGN CHOICE, log entry 17) (R200,
R201, R462). -/
def ringStep (r : Nat) (desc : List Byte) (s : State) : State :=
  let x := s.rxRing r
  match x.queue with
  | [] => s
  | f :: rest =>
    if !x.enabled || !(s.host.pcieUp && s.host.busMaster) || (f.used.isEmpty && earlierOnWay s r f) then s
    else
      let handed := x.head != x.tail
      let owned := (lfld desc 10 2).testBit 0
      let s := if handed then s.emit (.hostRead (x.base.toNat + 32 * x.head) 32) else s
      if !(handed && owned) then
        let s1 := (s.setRxRing r { x with queue := rest, cNoBuf := inc x.cNoBuf, ownErr := x.ownErr || handed }).emits (writeBackFrame x f true)
        if f.used.isEmpty then s1 else raiseCause (causeRxr r) s1
      else
        let left := f.octets.drop ((f.used.map (·.2)).foldl (· + ·) 0)
        let n := min (x.units * 256) left.length
        let f' := { f with used := f.used ++ [(x.head, n)] }
        let head := if x.size ≤ x.head + 1 then 0 else x.head + 1
        let s1 := s.hostPut (lfld desc 0 8) (left.take n)
        if n < left.length then s1.setRxRing r { x with queue := f' :: rest, head }
        else raiseCause (causeRxr r) ((s1.setRxRing r { x with
          queue := rest, head, delivered := if f.cut then x.delivered else inc x.delivered }).emits (writeBackFrame x f' f.cut))

end Sys2Proof.Machine
end

