-- ==== Sys2Proof/Machine/IngressCmd.lean ====
section
/-! DEFINITION. The commands of the stream group (R162, R167, R170, R177, R181 to R193, R198, R202 to R205, R462, R463). -/

namespace Sys2Proof.Machine

/-! ### STREAM_ADD, STREAM_REMOVE, STREAM_REBIND -/

/-- The modes that accept the commands that change contexts (R505). -/
def notStandby : Mode → Bool := fun m => m != .standby

/-- TCP streams bound (R194, R202). -/
def tcpStreams (s : State) : Nat := (s.ingress.ctxs.filter fun x => x.2.state != .free && x.2.key.tcp).length

/-- The key that STREAM_ADD gives (R202). -/
def addKey (p : List Byte) : StreamKey :=
  let v6 : Bool := fld p 3 1 = 6
  { tcp := fld p 2 1 = 1, ipv6 := v6, idcode := fld p 22 2, srcIp := ipOf v6 (slice p 4 16), srcPort := fld p 20 2 }

/-- The context that STREAM_ADD makes; DST_PORT of a TCP stream is 4712 where none is given (R177, R194, R203). -/
def addCtx (p : List Byte) (old : Ctx) : Ctx :=
  let opt := fld p 27 1
  { state := .awaitCfg, key := addKey p, dstPort := if fld p 2 1 = 1 ∧ fld p 24 2 = 0 then 4712 else fld p 24 2
    srcCtrl := opt.testBit 0, wantCfg3 := opt.testBit 1, tcpCommand := opt.testBit 2, egressPort := fld p 26 1, gen := old.gen }

/-- STREAM_ADD's effect at its grid edge (R177, R187, R194). -/
def streamAdd (p : List Byte) (s : State) : CmdOut :=
  let i := fld p 0 2
  if fld p 2 1 = 1 ∧ 512 ≤ tcpStreams s then .err stNoResource
  else
    let s1 := writeWords 0 (contextWords i 0) (s.setCtx i (addCtx p (s.ctx i)))
    .ok (be 1 (s.ctx i).gen.toNat) (mirrorCtx i (requestCfg i s1))

/-- A context of this device: it exists and is bound (R202). -/
def ctxThere (s : State) (p : List Byte) : List (Bool × Nat) :=
  [(inRange (fld p 0 2) 0 16383, 0), ((s.ctx (fld p 0 2)).state != .free, 0)]

/-- The checks of a context's configuration frames are void (R183). -/
def voidChecks (i : Nat) (s : State) : State :=
  { s with ingress := { s.ingress with checks := s.ingress.checks.map fun k => if k.index = i then { k with voided := true } else k } }

/-- The zones of this device that list a context leave it out (R193, R213). -/
def leaveZones (i : Nat) (s : State) : State :=
  let r : StreamRef := { position := s.position, isLocal := false, index := i }
  (s.align.zones.filter fun z => z.2.members.any fun m => m.ref = r && m.leaveAt.isNone).foldl (fun s z => removeMember z.1 r s) s

/-- The records of a context's settings (R580, R581). -/
def ctxSetting (position i : Nat) (k : Nat × List Nat) : Bool :=
  k == (0x0301, [i]) || k == (0x0303, [i]) || k == (0x0304, [i]) || k == (0x0405, [0, position, i])

/-- STREAM_REMOVE's effect (R190, R193, R499). -/
def streamRemove (i : Nat) (s : State) : State :=
  let c := s.ctx i
  let gen := c.gen + 1
  let s1 := leaveZones i (voidChecks i s)
  let s2 := match c.forward with | some (home, _) => sendGen i home gen s1 | none => s1
  let s3 := writeWords 0 (contextWords i 0) (s2.setCtx i { gen := gen })
  dropSettings (ctxSetting s.position i) (mirrorCtx i (refreshSessions s3))

/-- The key that STREAM_REBIND gives (R202). -/
def rebindKey (s : State) (p : List Byte) : StreamKey :=
  let k := (s.ctx (fld p 0 2)).key
  { k with srcIp := ipOf k.ipv6 (slice p 2 16), srcPort := fld p 18 2, idcode := fld p 20 2 }

/-- STREAM_REBIND's effect at the rebind instant (R183, R187, R190 to R192, R499). R191 clears the configuration and LAST_TAG and
does not speak of REJECT_REASON; the model clears it with the configuration (DESIGN CHOICE, log entry 17). -/
def streamRebind (at_ : Stamp) (i : Nat) (k : StreamKey) (s : State) : State :=
  let c := s.ctx i
  let gen := c.gen + 1
  let same : Bool := k.srcIp = c.key.srcIp ∧ k.srcPort = c.key.srcPort
  let s1 := voidChecks i s
  let s2 := s1.setCtx i { c with
    key := k, gen, state := .awaitCfg, cfg := none, rejectReason := 0, lastTag := 0, rebindAt := at_, quarantine := same
    tcpUp := false, tcpBuf := [], tcpArr := [], tcpScan := false, tcpTryAt := none, statRequestAt := none }
  let s3 := writeWords 0 (contextWords i (if k = c.key then 6 else 0)) (match c.forward with | some (home, _) => sendGen i home gen s2 | none => s2)
  dropSettings (fun x => x == (0x0304, [i])) (mirrorCtx i (requestCfg i (refreshSessions s3)))

/-- STREAM_REBIND: a TCP stream is refused while 512 are bound (R202). -/
def streamRebindOut (at_ : Stamp) (p : List Byte) (s : State) : CmdOut :=
  let i := fld p 0 2
  if (s.ctx i).key.tcp && decide (512 ≤ tcpStreams s) then .err stNoResource
  else
    let s1 := streamRebind at_ i (rebindKey s p) s
    let c := s1.ctx i
    .ok (be 1 c.gen.toNat ++ be 1 (bit c.quarantine 0) ++ stampBytes c.rebindAt) s1

/-! ### The other stream commands -/

/-- A frame given in STREAM_LOAD_CONFIG that is no configuration: 0xAA and a readable frame type other than CFG-2 and
CFG-3 (R184). -/
def notConfig (f : List Byte) : Bool := decide (2 ≤ f.length) && fld f 0 1 == 0xAA && frameType f != 3 && frameType f != 5

/-- The reason-7 frames of R184 that name no frame type are read as CFG-2, which refuses them. -/
def cmdStreamLoadConfig : Cmd :=
  { opcode := 0x0304, modes := notStandby, lenOk := fun p => decide (4 ≤ p.length) && p.length == 4 + fld p 2 2
    checks := fun s p => ctxThere s p ++ [(inRange (fld p 2 2) 0 16384, 2), (!notConfig (p.drop 4), 4)]
    journaled := jAlways, key := keyWord 0x0304
    run := fun s _ p =>
      let i := fld p 0 2
      let s1 := offerConfig i (p.drop 4) s
      .ok (be 1 (s1.ctx i).state.code ++ be 1 (s1.ctx i).rejectReason) s1 }

def cmdStreamGet : Cmd :=
  { opcode := 0x0305, modes := anyMode, lenOk := lenIs 2, checks := fun _ p => [(inRange (fld p 0 2) 0 16383, 0)], journaled := jNever, key := noKey
    run := fun s _ p => replyRead 0 (contextWords (fld p 0 2) 0) (ctxBytes s (s.ctx (fld p 0 2))) s }

/-- The counters of a context at 0 (R203). -/
def clearCtx (c : Ctx) : Ctx :=
  { c with cAccepted := 0, cNoCfg := 0, cSize := 0, cQuarantine := 0, cStaleGen := 0, cBudget := 0, cCfgAccepted := 0, cResumes := 0 }

def cmdStreamGetCounters : Cmd :=
  { opcode := 0x0306, modes := anyMode, lenOk := lenIs 3, checks := fun _ p => [(inRange (fld p 0 2) 0 16383, 0), (inRange (fld p 2 1) 0 1, 2)]
    journaled := fun p _ => fld p 2 1 == 1, key := noKey
    run := fun s _ p =>
      let i := fld p 0 2
      let free : Bool := (s.ctx i).state = .free
      match replyRead 0 (contextWords i 0) (cntBytes (ctxCounters (if free then {} else s.ctx i))) s with
      | .ok data t => .ok data (if fld p 2 1 = 1 && !free then t.modCtx i clearCtx else t)
      | out => out }

def cmdStreamSendCommand : Cmd :=
  { opcode := 0x0307, modes := notStandby, lenOk := lenIs 4, checks := ctxThere, journaled := jAlways, key := noKey
    run := fun s _ p => .ok [] (sendCommand (fld p 0 2) (fld p 2 2) s) }

/-! ### Ports, rings, counters -/

/-- The MACsec setting of a code (R202). -/
def macsecOf (n : Nat) : MacsecMode := if n = 1 then .strict else if n = 2 then .check else .off

/-- INGRESS_SET_PORT's effect. -/
def setPort (p : List Byte) (x : PortSt) : PortSt :=
  { x with mode10g := fld p 1 1 = 1, rsFec := fld p 2 1 = 1, macsec := macsecOf (fld p 3 1), replay := fld p 4 4, mac := fld p 8 6
           ipv4 := fld p 14 4, ipv6 := fld p 18 16 }

def cmdIngressSetPort : Cmd :=
  { opcode := 0x0308, modes := anyMode, lenOk := lenIs 34
    checks := fun _ p =>
      [(inRange (fld p 0 1) 0 3, 0), (inRange (fld p 1 1) 0 1, 1), (inRange (fld p 2 1) 0 (if fld p 1 1 = 1 then 0 else 1), 2), (inRange (fld p 3 1) 0 2, 3)]
    journaled := jAlways, key := keyByte 0x0308
    run := fun s _ p =>
      let k := fld p 0 1
      .ok [] { s with ingress := { s.ingress with ports := vset s.ingress.ports k (setPort p (s.port k)) } } }

/-- A ring's entry of INGRESS_SET_RINGS: a ring that goes on has a size, a tail and a link (R462). -/
def ringEntryOk (s : State) (p : List Byte) (r : Nat) : Bool :=
  let x := s.rxRing r
  fld p (2 * r) 1 == 0 || (fld p (2 * r) 1 == 1 && (x.enabled || (inRange x.size 16 4096 && decide (x.tail < x.size) && s.host.pcieUp)))

/-- A ring goes on, off, or stays (R462, R463). -/
def setRing (p : List Byte) (s : State) (r : Nat) : State :=
  let x := s.rxRing r
  let on : Bool := fld p (2 * r) 1 = 1
  let s1 := if on then s.setRxRing r { x with enabled := true, head := if x.enabled then x.head else 0 }
    else if x.enabled then
      match x.queue with
      | f :: _ =>
        let s1 := s.emits (writeBackFrame x f true)
        ringOff r (if f.used.isEmpty then s1 else raiseCause (causeRxr r) s1)
      | [] => ringOff r s
    else s
  s1.setRxRing r { s1.rxRing r with units := fld p (2 * r + 1) 1 }

def cmdIngressSetRings : Cmd :=
  { opcode := 0x0309, modes := anyMode, lenOk := lenIs 20
    checks := fun s p => ((List.range 8).flatMap fun r => [(ringEntryOk s p r, 2 * r), (inRange (fld p (2 * r + 1) 1) 1 64, 2 * r + 1)])
      ++ (List.range 4).map fun i => (inRange (fld p (16 + i) 1) 0 7 || fld p (16 + i) 1 == 0xFF, 16 + i)
    journaled := jAlways, key := keyOne 0x0309
    run := fun s _ p =>
      let s1 := (List.range 8).foldl (setRing p) s
      let ring (i : Nat) : Option Nat := if fld p (16 + i) 1 = 0xFF then none else some (fld p (16 + i) 1)
      .ok [] { s1 with ingress := { s1.ingress with classMap := (List.range 4).map ring } } }

/-- The 11 counters of a port (R204). -/
def portCounters (p : PortSt) : List Cnt :=
  [p.cFrames, p.cFcsErr, p.cRunt, p.cOversize, p.cFecCorr, p.cFecUncorr, p.cFiltered, p.cMacsecDrop, p.cMacsecUntagged, p.cStream, p.cSupervisor]

/-- The counters of R205 in order. -/
def ingressCounters (g : IngressSt) : List Cnt :=
  [g.cUdpChk, g.cSync, g.cSizeErr, g.cChk, g.cTag, g.cUnknown, g.cOver, g.cFragTimeout, g.cFragDrop, g.cTcpTimeout]
    ++ g.cClassDrop.toList ++ g.rings.toList.map (·.cNoBuf)

/-- The counters of R204 and R205 at 0. -/
def clearIngress (g : IngressSt) : IngressSt :=
  { g with
    ports := g.ports.map fun p => { p with cFrames := 0, cFcsErr := 0, cRunt := 0, cOversize := 0, cFecCorr := 0, cFecUncorr := 0, cFiltered := 0
                                           cMacsecDrop := 0, cMacsecUntagged := 0, cStream := 0, cSupervisor := 0 }
    rings := g.rings.map fun x => { x with cNoBuf := 0 }
    cUdpChk := 0, cSync := 0, cSizeErr := 0, cChk := 0, cTag := 0, cUnknown := 0, cOver := 0, cFragTimeout := 0, cFragDrop := 0, cTcpTimeout := 0
    cClassDrop := Vector.replicate 4 0 }

def cmdIngressGetCounters : Cmd :=
  { opcode := 0x030A, modes := anyMode, lenOk := lenIs 1, checks := fun _ p => [(inRange (fld p 0 1) 0 1, 0)], journaled := jClear, key := noKey
    run := fun s _ p =>
      .ok (cntBytes (s.ingress.ports.toList.flatMap portCounters ++ ingressCounters s.ingress))
        (if fld p 0 1 = 1 then { s with ingress := clearIngress s.ingress } else s) }

def cmdIngressSetStreamPorts : Cmd :=
  { opcode := 0x030B, modes := anyMode, lenOk := lenIs 9
    checks := fun _ p => (inRange (fld p 0 1) 1 4, 0) :: (List.range (min (fld p 0 1) 4)).map fun i => (fld p (1 + 2 * i) 2 != 0, 1 + 2 * i)
    journaled := jAlways, key := keyOne 0x030B
    run := fun s _ p =>
      .ok [] { s with ingress := { s.ingress with streamPorts := ((List.range (fld p 0 1)).map fun i => fld p (1 + 2 * i) 2).eraseDups } } }

/-- The settings record of a joined group (R581). -/
def groupKey (p : List Byte) : Nat × List Nat := (0x030C, [fld p 0 1, fld p 2 1, fld p 3 16])

def cmdIngressJoinGroup : Cmd :=
  { opcode := 0x030C, modes := anyMode, lenOk := lenIs 19
    checks := fun _ p =>
      [(inRange (fld p 0 1) 0 3, 0), (inRange (fld p 1 1) 0 1, 1), (fld p 2 1 == 4 || fld p 2 1 == 6, 2), (ipFieldOk (fld p 2 1 == 6) (slice p 3 16), 3)]
    journaled := jAlways, key := fun p => if fld p 1 1 = 1 then some (groupKey p) else none
    run := fun s _ p =>
      let k := fld p 0 1
      let x := s.port k
      let v6 : Bool := fld p 2 1 = 6
      let g := (v6, ipOf v6 (slice p 3 16))
      let put (gs : List (Bool × Nat)) : State :=
        let s1 : State := { s with ingress := { s.ingress with ports := vset s.ingress.ports k { x with groups := gs } } }
        if s.online then groupReport k v6 s1 else s1
      if fld p 1 1 = 0 then .ok [] (dropSettings (fun y => y == groupKey p) (put (x.groups.erase g)))
      else if x.groups.contains g then .ok [] s
      else if 64 ≤ x.groups.length then .err stNoResource
      else .ok [] (put (x.groups ++ [g])) }

end Sys2Proof.Machine
end

