-- ==== Sys2Proof/Machine/Front.lean ====
section
/-! DEFINITION. The waveform front end: filter chains, ranges, zero crossings, detectors, metering tap, local phasors
(R249 to R282). -/

namespace Sys2Proof.Machine

/-! ### Presets (R253, R258, R261) -/

/-- CIC order, ratio, FIR taps, tap length m, and the FIR delay of the minimum phase in quarter samples (R253, R258, R261). -/
structure Preset where
  n : Nat
  d : Nat
  l : Nat
  m : Nat
  minQuarters : Nat
  deriving DecidableEq, Repr

/-- The presets by code; 4 is RESERVE (R253). -/
def presetOf (code : Nat) : Preset :=
  match code with
  | 0 => { n := 3, d := 256, l := 31, m := 8, minQuarters := 17 }
  | 1 => { n := 4, d := 512, l := 47, m := 4, minQuarters := 26 }
  | 2 => { n := 5, d := 1024, l := 63, m := 2, minQuarters := 35 }
  | 3 => { n := 5, d := 2048, l := 63, m := 1, minQuarters := 35 }
  | _ => { n := 3, d := 512, l := 15, m := 1, minQuarters := 28 }

/-- The preset in use: RESERVE in RESERVE, else the one that is set (R253, R282). -/
def presetCode (s : State) : Nat := if s.sys.phase = .reserve then 4 else s.front.preset
def presetNow (s : State) : Preset := presetOf (presetCode s)

/-- The minimum-phase option in use; RESERVE is linear only (R253). -/
def firMinNow (s : State) : Bool := s.front.firMin && presetCode s != 4

/-- One MODCLK period in 2⁻¹⁶ ns: 16.384 MHz, or 4.096 MHz in RESERVE (R253). -/
def modclkUnits (s : State) : Nat := if s.sys.phase = .reserve then 16000000 else 4000000

/-- 256 MODCLK periods in ps. -/
def modclk256 (s : State) : Ps := if s.sys.phase = .reserve then 62500000 else 15625000

/-- The settle count of R261 in MODCLK. -/
def settleCount (p : Preset) : Nat := (p.n + p.l + 2) * p.d

/-- The group delay of R258 in half periods of MODCLK. -/
def groupHalves (p : Preset) (min : Bool) : Nat :=
  p.n * (p.d - 1) + (if min then p.minQuarters else 2 * (p.l - 1)) * p.d / 2 + 2 * p.d

/-- The group delay in 2⁻¹⁶ ns. -/
def groupUnits (s : State) : Nat := groupHalves (presetNow s) (firMinNow s) * (modclkUnits s / 2)

/-- The output rate in samples/s (R253). -/
def outRate (code : Nat) : Nat := match code with | 0 => 64000 | 1 => 32000 | 2 => 16000 | _ => 8000

/-- FNOM in Hz (R252). -/
def FrontSt.fnom (f : FrontSt) : Nat := if f.fnom50 then 50 else 60

/-- One nominal period in 2⁻¹⁶ ns. -/
def nominalUnits (s : State) : Nat := unitsPerSec / s.front.fnom

/-! ### Inputs and channels (R249) -/

/-- The inputs of a logical channel: HI, or the only one, and LO (R249). -/
def hiInput (c : Nat) : Nat := if c < 8 then c else 8 + 2 * (c - 8)
def loInput (c : Nat) : Option Nat := if c < 8 then none else some (9 + 2 * (c - 8))

/-- The logical channel of an input (R249). -/
def inputChan (i : Nat) : Nat := if i < 8 then i else 8 + (i - 8) / 2

/-- An input, a channel, a current channel's range, and changes of them. -/
def State.input (s : State) (i : Nat) : InputSt := vget {} s.front.inputs i
def State.setInput (s : State) (i : Nat) (x : InputSt) : State :=
  { s with front := { s.front with inputs := vset s.front.inputs i x } }
def State.chan (s : State) (c : Nat) : ChanSt := vget {} s.front.chans c
def State.setChan (s : State) (c : Nat) (x : ChanSt) : State :=
  { s with front := { s.front with chans := vset s.front.chans c x } }
def State.range (s : State) (c : Nat) : RangeSt := vget {} s.front.ranges c
def State.setRange (s : State) (c : Nat) (x : RangeSt) : State :=
  { s with front := { s.front with ranges := vset s.front.ranges c x } }

/-- The clock pin of an input runs (R75, R281): every pin while the device runs out of BOOT, the current pins in RESERVE. -/
def inputClock (s : State) (i : Nat) : Bool :=
  match s.sys.phase with
  | .running => s.sys.mode != .boot
  | .reserve => decide (8 ≤ i)
  | _ => false

/-- The chain runs: its clock does, and it is enabled (R260). -/
def ChainState.runs : ChainState → Bool
  | .settling | .valid | .lost | .resuming => true
  | .off | .stopped => false

/-- The code of a chain state (R260). -/
def ChainState.code : ChainState → Nat
  | .off => 0 | .stopped => 1 | .settling => 2 | .valid => 3 | .lost => 4 | .resuming => 5

/-! ### Restarts (R260 to R263, R269, R281, R282) -/

/-- The restart of one chain on an edge: every register cleared, the settle count begun (R262). -/
def restartInput (now : Ps) (x : InputSt) : InputSt :=
  { x with chain := .settling, restartDue := false, presetDue := false, restartAt := now, integ := [], combs := [], firHist := [], taps := [],
           vValid := false, resumeRun := 0, cRestarts := inc x.cRestarts }

/-- What a restart of input `i` does to its logical channel: HI is selected, the envelope restarts, and, for the input
that leads the tap, so does the tap group (R269, R273, R274). -/
def restartChan (i : Nat) (s : State) : State :=
  let c := inputChan i
  let x := s.chan c
  let leads := i = hiInput c ∨ (s.input (hiInput c)).enabled = false
  let s1 := s.setChan c { x with env := 0, tapGroup := if leads then [] else x.tapGroup }
  if c < 8 then s1
  else
    let r := s1.range (c - 8)
    s1.setRange (c - 8) { r with lo := r.mode = .forceLo, lowRun := 0 }

/-- A restart waits for the chain: by a preset change only while it is neither LOST nor RESUMING (R263). -/
def InputSt.restarts (x : InputSt) : Bool := x.restartDue || x.presetDue && (x.chain == .settling || x.chain == .valid)

/-- CHAIN_RESTART: the chains whose restart waits for its MODCLK edge restart together (R262, R263). -/
def chainRestart (s : State) : State :=
  (List.range 24).foldl (fun s i =>
    let x := s.input i
    if x.enabled && inputClock s i then
      (if x.restarts then restartChan i (s.setInput i (restartInput s.now x)) else s.setInput i { x with presetDue := false })
    else s) s

/-- The settle count of a chain has been reached (R261). -/
def settled (s : State) (x : InputSt) : Bool :=
  x.chain == .settling && !x.restarts && decide (x.restartAt + settleCount (presetNow s) / 256 * modclk256 s ≤ s.now)

/-- CHAIN_VALID: the chain is VALID; the first VALID sample begins a tap group (R261, R274). -/
def chainValid (i : Nat) (s : State) : State :=
  let x := s.input i
  if settled s x then
    let c := inputChan i
    let leads := i = hiInput c ∨ (s.input (hiInput c)).enabled = false
    let s1 := s.setInput i { x with chain := .valid }
    if leads then s1.setChan c { s1.chan c with tapGroup := [] } else s1
  else s

/-- Clock pins start: the enabled chains of the inputs that `p` names restart (R262, R281, R282). -/
def startChains (p : Nat → Bool) (s : State) : State :=
  let started := (List.range 24).foldl (fun s i =>
    let x := s.input i
    if p i && x.enabled then s.setInput i { x with chain := .settling, restartDue := true } else s) s
  { started with front := { started.front with chans := started.front.chans.map fun c => { c with lastCrossPs := s.now } } }

/-- Clock pins stop: their chains are STOPPED (R75, R260, R281). -/
def stopChains (p : Nat → Bool) (s : State) : State :=
  (List.range 24).foldl (fun s i =>
    let x := s.input i
    if p i && x.enabled then s.setInput i { x with chain := .stopped, restartDue := false, presetDue := false, vValid := false, resumeRun := 0 } else s) s

/-- The front end starts on leaving BOOT (R262, R281). -/
def frontStart (s : State) : State := startChains (fun _ => true) s

/-- The front end enters RESERVE: current chains restart, voltage chains stop (R281, R282). -/
def frontReserve (s : State) : State := startChains (fun i => decide (8 ≤ i)) (stopChains (fun i => decide (i < 8)) s)

/-- What every front-end channel loses when the device resets or the pins stop (R281). -/
def frontStop (s : State) : State := stopChains (fun _ => true) s

/-! ### Loss and resumption (R265, R266) -/

/-- MODULATOR_LOSS, in any running state (R260, R265). -/
def modulatorLoss (i : Nat) (s : State) : State :=
  let x := s.input i
  match x.chain with
  | .settling | .valid | .resuming => s.setInput i { x with chain := .lost, resumeRun := 0, cLoss := inc x.cLoss }
  | _ => s

/-- MODULATOR_RESUMING (R266). -/
def modulatorResuming (i : Nat) (s : State) : State :=
  let x := s.input i
  if x.chain = .lost then s.setInput i { x with chain := .resuming, resumeRun := 0 } else s

/-- RESUME_WINDOW_END: a window without a change returns the input to LOST; the fourth with one confirms (R266). -/
def resumeWindow (i : Nat) (changed : Bool) (s : State) : State :=
  let x := s.input i
  if x.chain ≠ .resuming ∨ 4 ≤ x.resumeRun then s
  else if !changed then s.setInput i { x with chain := .lost, resumeRun := 0 }
  else if x.resumeRun = 3 then s.setInput i { x with resumeRun := 4, restartDue := true, cResumes := inc x.cResumes }
  else s.setInput i { x with resumeRun := x.resumeRun + 1 }

/-! ### The filter chain (R254 to R259) -/

/-- One bit through the integrators, modulo 2⁵⁶: each adds the new value of the one before (R254). -/
def integrate (b : BitVec 56) : List (BitVec 56) → List (BitVec 56)
  | [] => []
  | r :: t => (r + b) :: integrate (r + b) t

/-- An output through the combs (R254). -/
def comb (y : BitVec 56) : List (BitVec 56) → BitVec 56 × List (BitVec 56)
  | [] => (y, [])
  | r :: t =>
    let r1 := comb (y - r) t
    let o := r1.1
    let t' := r1.2
    (o, y :: t')

/-- `n` registers, those not yet written at 0. -/
def regsOf (n : Nat) (xs : List (BitVec 56)) : List (BitVec 56) := (xs ++ List.replicate (n - xs.length) 0).take n

/-- x of R255 with 30 fractional bits, from a comb output. -/
def normalise (p : Preset) (y : BitVec 56) : Int := roundQ 8 ((y.toNat : Rat) * 2147483648 / (p.d ^ p.n : Nat) - 1073741824)

/-- The coefficient of one tap: the linear-phase option is symmetric (R256). -/
def firCoef (p : Preset) (code : Nat) (min_ : Bool) (i : Nat) : Int :=
  Config.firTap code min_ (if min_ then i else min i (p.l - 1 - i))

/-- The compensation FIR over the last L normalised outputs, newest first, in 48 bits (R256). -/
def firSum (p : Preset) (code : Nat) (min_ : Bool) (hist : List Int) : Int :=
  (BitVec.ofInt 48 ((hist.take p.l).zipIdx.foldl (fun a (x, i) => a + firCoef p code min_ i * x) 0)).toInt

/-- v of R257 before the interpolator: calibration of a FIR output. -/
def calibrate (s : State) (x : InputSt) (y : Int) : F32 :=
  f32Mul x.gain (f32Sub (ratF32 ((y : Rat) / (2 ^ Config.firShift (presetCode s) (firMinNow s) : Nat))) x.offset)

/-- The four-tap cubic Lagrange interpolator, taps newest first: a delay of 1 + d output samples (R257). -/
def lagrange (vs : List F32) (d : Rat) : F32 :=
  let ws : List Rat := [-(d * (d - 1) * (d - 2)) / 6, (d + 1) * (d - 1) * (d - 2) / 2, -((d + 1) * d * (d - 2)) / 2, (d + 1) * d * (d - 1) / 6]
  if vs.all f32Finite then ratF32 ((vs.zip ws).foldl (fun a (v, w) => a + f32Rat v * w) 0)
  else (vs.zip ws).foldl (fun a (v, w) => f32Add a (f32Mul v (ratF32 w))) 0

/-- The value of a sample: the calibrated taps, delayed by 1 + DELAY output samples (R257). -/
def calibrated (s : State) (x : InputSt) (taps : List Int) : F32 :=
  if x.delay = 0 then calibrate s x (taps.getD 1 0)
  else lagrange ((List.range 4).map fun i => calibrate s x (taps.getD i 0)) ((x.delay : Rat) / 65536)

/-- One output sample of a chain, from the bits of its D MODCLK periods (R254 to R257). -/
def runChain (s : State) (bits : List Bool) (x : InputSt) : InputSt :=
  let p := presetNow s
  let integ := bits.foldl (fun r b => integrate (if b then 1 else 0) r) (regsOf p.n x.integ)
  let r1 := comb (integ.getLastD 0) (regsOf p.n x.combs)
  let y := r1.1
  let combs := r1.2
  let xn := normalise p y
  let hist := xn :: x.firHist.take (p.l - 1)
  let taps := firSum p (presetCode s) (firMinNow s) hist :: x.taps.take 3
  { x with
    integ, combs, firHist := hist, taps, x := xn
    v := calibrated s x taps
    vValid := x.chain == .valid
    cOverload := if 1020054733 ≤ xn.natAbs then inc x.cOverload else x.cOverload }

/-- The instant at the pin of a sample that completes now (R95, R259). -/
def sampleStamp (s : State) (x : InputSt) : Stamp :=
  let u := modclkUnits s
  stampAdd s.stamp (-((groupUnits s + x.instant * (u / 4) : Nat) : Int) - x.delay * ((presetNow s).d * u / 65536 : Nat))

/-- The bits of an output sample fit an input: one for each MODCLK of the period, or none where no chain runs. -/
def bitsFit (s : State) (i : Nat) (bits : List Bool) : Bool :=
  bits.length == if (s.input i).chain.runs && inputClock s i then (presetNow s).d else 0

/-- One sample of an input's chain. -/
def stepInput (i : Nat) (bits : List Bool) (s : State) : State :=
  if bits.isEmpty then s
  else
    let s1 := chainValid i s
    s1.setInput i (runChain s1 bits (s1.input i))

/-! ### Ranges (R268, R269) -/

/-- |x| above 23/24 of full scale; |x| below 1/20 (R268). -/
def nearFull (x : Int) : Bool := decide (23 * 1073741824 < 24 * x.natAbs)
def nearZero (x : Int) : Bool := decide (20 * x.natAbs < 1073741824)

/-- The range of a current channel for this sample, in AUTO or forced; the run of samples below 1/20 (R268, R269). -/
def selectRange (s : State) (hi lo : InputSt) (r : RangeSt) : RangeSt :=
  let hiOk := hi.chain == .valid
  let loOk := lo.chain == .valid
  let run := if hiOk && loOk && nearZero hi.x then min (r.lowRun + 1) 65535 else 0
  let full := decide (outRate (presetCode s) ≤ r.lowRun * s.front.fnom)
  let r := { r with lowRun := run }
  match r.mode with
  | .forceHi => { r with lo := false }
  | .forceLo => { r with lo := true }
  | .auto =>
    if r.lo then (if nearFull lo.x || !loOk then { r with lo := false, cUp := inc r.cUp } else r)
    else if hiOk && loOk && full then (if nearFull lo.x then r else { r with lo := true, cDown := inc r.cDown })
    else if !hiOk && loOk && !nearFull lo.x then { r with lo := true, cForced := inc r.cForced }
    else r

/-! ### Zero crossings and detectors (R271 to R273) -/

/-- The frequency of a channel: the reciprocal of the time between the last two accepted crossings (R271, R272). -/
def chanFreq (x : ChanSt) : Option F32 :=
  match x.zcLost, x.crossings with
  | false, a :: b :: _ =>
    let d := stampDiff a b
    if 0 < d then some (ratF32 ((unitsPerSec : Rat) / d)) else none
  | _, _ => none

/-- The crossing between two samples, interpolated linearly (R271). -/
def crossingAt (p : F32 × Stamp) (v : F32) (t : Stamp) : Stamp :=
  let v0 := f32Rat p.1
  let v1 := f32Rat v
  if v1 = v0 then t else stampAdd p.2 (roundQ 9 ((stampDiff t p.2 : Rat) * (-v0) / (v1 - v0)))

/-- The zero-crossing detector takes a sample: the channel after it, and whether it accepts a crossing (R271, R272). -/
def zeroCross (s : State) (h : F32) (v : F32) (valid : Bool) (t : Stamp) (x : ChanSt) : ChanSt × Bool :=
  if !valid then ({ x with armed := false, prev := none }, false)
  else
    let y := { x with prev := some (v, t) }
    if f32Lt v (f32NegOf h) then ({ y with armed := true }, false)
    else match x.armed, x.prev, f32Le 0 v with
      | true, some p, true =>
        let at_ := crossingAt p v t
        let soon := match x.crossings with | c :: _ => decide (2 * stampDiff at_ c < (nominalUnits s : Int)) | [] => false
        if soon then ({ y with armed := false }, false)
        else
          let since := x.sinceLoss + 1
          ({ y with armed := false, crossings := at_ :: x.crossings.take 1, lastCrossPs := s.now
                    sinceLoss := if x.zcLost then since else 0, zcLost := x.zcLost && decide (since < 2) }, true)
      | _, _, _ => (y, false)

/-- The RMS window in cycles (R273). -/
def rmsCyclesOf (s : State) (x : ChanSt) : Nat := x.wRms.getD (if s.front.fnom50 then 10 else 12)

/-- A peak window opens here (R273). -/
def openPeak (t : Stamp) (x : ChanSt) : ChanSt := { x with pkFrom := some t, pkCycles := 0, pkOk := true, pkMax := 0 }

/-- An RMS window opens here (R273). -/
def openRms (t : Stamp) (x : ChanSt) : ChanSt := { x with rmsFrom := some t, rmsCycles := 0, rmsOk := true, rmsSamples := [] }

/-- The peak window ends here, and the next opens (R273). -/
def endPeak (t : Stamp) (x : ChanSt) : ChanSt := openPeak t { x with peak := if x.pkOk then some x.pkMax else none }

/-- The RMS window ends here, and the next opens (R273). -/
def endRms (t : Stamp) (x : ChanSt) : ChanSt :=
  openRms t { x with rms := if x.rmsOk && !x.rmsSamples.isEmpty then some (rmsF32 x.rmsSamples) else none }

/-- The end of the last whole window at or before `t`, for windows of `w` that run from `a`. -/
def lastEnd (a : Stamp) (w : Nat) (t : Stamp) : Option Stamp :=
  let d := stampDiff t a
  if 0 < w ∧ (w : Int) ≤ d then some (stampAdd a (d / w * w)) else none

/-- The cycle windows move on at a sample, which belongs to the window that it opens: at crossings, or in whole nominal
periods while ZC_LOST is set; the crossing that clears ZC_LOST opens windows anew (R273). -/
def moveWindows (s : State) (was : Bool) (crossed : Bool) (t : Stamp) (x : ChanSt) : ChanSt :=
  if was && !x.zcLost then openRms t (openPeak t x)
  else if was then
    let n := nominalUnits s
    let x1 := if x.pkFrom.isNone then openPeak t x
      else match lastEnd (x.pkFrom.getD t) (x.wPk * n) t with | some e => endPeak e x | none => x
    if x1.rmsFrom.isNone then openRms t x1
    else match lastEnd (x1.rmsFrom.getD t) (rmsCyclesOf s x * n) t with | some e => endRms e x1 | none => x1
  else if crossed then
    let x1 := if x.pkFrom.isNone then openPeak t x
      else if x.wPk ≤ x.pkCycles + 1 then endPeak t x else { x with pkCycles := x.pkCycles + 1 }
    if x1.rmsFrom.isNone then openRms t x1
    else if rmsCyclesOf s x ≤ x1.rmsCycles + 1 then endRms t x1 else { x1 with rmsCycles := x1.rmsCycles + 1 }
  else x

/-- A sample joins the windows and the envelope (R273). -/
def feedWindows (rate : Nat) (v : F32) (valid : Bool) (x : ChanSt) : ChanSt :=
  let a := f32Abs v
  { x with
    pkOk := x.pkOk && valid
    pkMax := if x.pkFrom.isSome && valid then f32Max x.pkMax a else x.pkMax
    rmsOk := x.rmsOk && valid
    rmsSamples := if x.rmsFrom.isSome && valid then v :: x.rmsSamples else x.rmsSamples
    env := if valid then envelopeF32 rate x.attack x.release a x.env else x.env }

/-- A sample joins its tap group; the m-th closes it, with the instant of the middle of the group (R274). -/
def feedTap (p : Preset) (unit : Nat) (v : F32) (valid : Bool) (t : Stamp) (x : ChanSt) : ChanSt :=
  let g := (v, valid) :: x.tapGroup
  if g.length < p.m then { x with tapGroup := g }
  else
    let mean := if p.m = 1 then v else meanF32 (g.map (·.1))
    { x with tapGroup := [], tap := some (mean, g.all (·.2), stampAdd t (-((p.m - 1) * p.d * unit / 2 : Nat))) }

/-- The runs of VALID samples after a sample (R276, R279). -/
def feedRuns (valid : Bool) (t : Stamp) (x : ChanSt) : List (Stamp × Stamp) :=
  if !valid then x.good
  else match x.ok, x.good with
    | true, (a, _) :: rest => (a, t) :: rest
    | _, runs => ((t, t) :: runs).take 4

/-- The users of a channel's sample take it: zero crossings, detectors, metering tap (R271 to R274). -/
def chanSample (s : State) (c : Nat) (gain v : F32) (valid : Bool) (t : Stamp) : State :=
  let x := s.chan c
  let r1 := zeroCross s (f32Mul (f32Abs gain) 0x3A800000#32) v valid t x
  let x1 := r1.1
  let crossed := r1.2
  let x2 := feedWindows (outRate (presetCode s)) v valid (moveWindows s x.zcLost crossed t x1)
  let x3 := feedTap (presetNow s) (modclkUnits s) v valid t x2
  s.setChan c { x3 with ok := valid, good := feedRuns valid t x, hist := ((t, v) :: x.hist).take (outRate (presetCode s) / 4) }

/-- FE_OUTPUT_SAMPLE: the chains of a channel complete a sample together (R252 to R274). Bits that do not fit the
chains that run are no sample. -/
def outputSample (c : Nat) (bitsHi bitsLo : List Bool) (s : State) : State :=
  let h := hiInput c
  let l := loInput c
  let fits := bitsFit s h bitsHi && (match l with | some i => bitsFit s i bitsLo | none => bitsLo.isEmpty)
  if 16 ≤ c ∨ !fits ∨ (bitsHi.isEmpty ∧ bitsLo.isEmpty) then s
  else
    let s1 := stepInput h bitsHi s
    match l with
    | none =>
      let x := s1.input h
      chanSample s1 c x.gain x.v x.vValid (sampleStamp s1 x)
    | some i =>
      let s2 := stepInput i bitsLo s1
      let hi := s2.input h
      let lo := s2.input i
      let r := selectRange s2 hi lo (s2.range (c - 8))
      let x := if r.lo then lo else hi
      chanSample (s2.setRange (c - 8) r) c x.gain x.v (x.chain == .valid && !(r.lo && nearFull lo.x)) (sampleStamp s2 x)

/-- The detectors of a channel run (R281). -/
def detectorsRun (s : State) (c : Nat) : Bool := inputClock s (hiInput c)

/-- ZC_LOSS: no crossing accepted for 3 nominal periods (R272). -/
def zcLoss (c : Nat) (s : State) : State :=
  let x := s.chan c
  if 16 ≤ c ∨ x.zcLost ∨ !detectorsRun s c ∨ (s.now - x.lastCrossPs) * s.front.fnom < 3000000000000 then s
  else s.setChan c { x with zcLost := true, sinceLoss := 0, cZcLoss := inc x.cZcLoss }

/-! ### Local phasors (R275 to R280) -/

/-- Half the window of R276 in cycles. -/
def halfCycles (fnom50 : Bool) (g : LocalCfg) : Nat :=
  if !g.classM then 1
  else if fnom50 then (if g.rate = 10 then 5 else 2)
  else if g.rate = 10 ∨ g.rate = 12 then 6 else if g.rate = 15 ∨ g.rate = 20 then 4 else 2

/-- Half the window in 2⁻¹⁶ ns. -/
def halfUnits (s : State) (g : LocalCfg) : Nat := halfCycles s.front.fnom50 g * unitsPerSec / s.front.fnom

/-- Every sample of a channel within `hw` of `t` was VALID (R276, R279). -/
def windowGood (s : State) (c : Nat) (t : Stamp) (hw : Nat) : Bool :=
  let ts : Int := (presetNow s).d * modclkUnits s
  (s.chan c).good.any fun r => decide (stampDiff r.1 (stampAdd t (-(hw : Int))) < ts) && decide (stampDiff (stampAdd t hw) r.2 < ts)

/-- The number of the latest reporting instant whose window and group delay have passed (R277, R280). -/
def latestTick (s : State) (g : LocalCfg) : Option Nat :=
  let back := halfUnits s g + groupUnits s
  if g.rate = 0 ∨ s.stamp < back then none else some ((s.stamp - back) * g.rate / unitsPerSec)

/-- An instant not yet recorded. -/
def unrecorded (l : LocalStream) (t : Stamp) : Bool := match l.lastRec with | some u => decide (0 < stampDiff t u) | none => true

/-- The latest due instant of settings that are in force from `start` to before `stop`, if it is not yet recorded (R278). -/
def segmentRecord (s : State) (l : LocalStream) (g : LocalCfg) (start stop : Option Stamp) : Option (LocalCfg × Stamp) :=
  match latestTick s g with
  | none => none
  | some k =>
    let t := tickInstant g.rate (match stop with | some u => min k (cdiv (u * g.rate) unitsPerSec - 1) | none => k)
    let inside := (start.all fun a => decide (0 ≤ stampDiff t a)) && (stop.all fun u => decide (stampDiff t u < 0))
    if g.enabled && inside && unrecorded l t then some (g, t) else none

/-- The settings and the instant of the next record: the earliest settings that still have one, those in force before each
change and then the present ones (R278, R279). -/
def firstRecord (s : State) (l : LocalStream) : Option Stamp → List (LocalCfg × Stamp) → Option (LocalCfg × Stamp)
  | start, [] => segmentRecord s l l.toLocalCfg start none
  | start, (g, u) :: rest => match segmentRecord s l g start (some u) with
    | some x => some x
    | none => firstRecord s l (some u) rest

/-- The settings and the instant of the next record of a local stream. -/
def nextRecord (s : State) (l : LocalStream) : Option (LocalCfg × Stamp) := firstRecord s l none l.before

/-- The envelope of a channel, none unless the chain that serves the channel is VALID and has given a sample (R268, R273). -/
def envelopeNow (s : State) (c : Nat) : Option F32 :=
  let i := if c < 8 ∨ !(s.range (c - 8)).lo then hiInput c else (loInput c).getD 0
  if (s.chan c).ok && (s.input i).chain == .valid then some (s.chan c).env else none

/-- An analog value of a local stream: the detector's result that stands now (R277, R279). -/
def analogValue (s : State) (src : Nat) : Option F32 :=
  let x := s.chan (src % 16)
  match src / 16 with
  | 0 => x.rms
  | 1 => x.peak
  | 2 => envelopeNow s (src % 16)
  | _ => chanFreq x

/-- The digital word of a local stream (R277). -/
def digitalWord (s : State) : Nat :=
  bitsOf (s.front.ranges.toList.map (·.lo)) + bitsOf ((s.front.chans.toList.drop 8).map (·.zcLost)) * 256

/-- The weight of a sample at a distance from the middle of a window: triangular in class P (R276). -/
def windowWeight (classM : Bool) (hw d : Nat) : Rat :=
  if classM then (Config.lowPass hw d : Rat) / (2 ^ 32 : Nat) else ((hw - d : Nat) : Rat) / hw

/-- The window of a channel that is centred on a reporting instant, oldest sample first (R276). -/
def windowOf (s : State) (g : LocalCfg) (c : Nat) (t : Stamp) : Config.Window :=
  let hw := halfUnits s g
  let near := (s.chan c).hist.filterMap fun (u, v) =>
    let d := stampDiff u t
    if d.natAbs ≤ hw then some (d, windowWeight g.classM hw d.natAbs * f32Rat v) else none
  { classM := g.classM, fnom50 := s.front.fnom50, rate := g.rate, preset := presetCode s, firMin := firMinNow s, samples := near.reverse }

/-- A pair of values where its window is good, else absent (R279). -/
def pairIf (good : Bool) (p : F32 × F32) : Option F32 × Option F32 := if good then (some p.1, some p.2) else (none, none)

/-- The record of a local stream for an instant (R244, R279). -/
def localRecord (n : Nat) (g : LocalCfg) (t : Stamp) (recent : Bool) (s : State) : FrameRecord :=
  let hw := halfUnits s g
  let goods := (maskChans g.mask).map fun c => windowGood s c t hw
  let reference := windowOf s g g.refChan t
  let ph := (maskChans g.mask).map fun c => pairIf (windowGood s c t hw) (Config.phasor (windowOf s g c t) reference)
  let fr := pairIf (windowGood s g.refChan t hw) (Config.frequency reference)
  let an := g.analogs.map (analogValue s)
  let mask := bitsOf (ph.map (·.1.isNone)) + bitsOf (an.map (·.isNone)) * 2 ^ 32 + bit fr.1.isNone 52 + bit fr.2.isNone 53
  let quality := if goods.all (fun b => b) then 0 else if goods.any (fun b => b) then 1 else 3
  { position := s.position, isLocal := true, index := n, gen := 0, fracsecHi := s.time.fracsecHi t
    stat := s.time.statBits + quality * 16384 + bit recent 10, viaPeer := false, tag := t, arrivalDelay := 0
    absent := BitVec.ofNat 64 mask
    values := ph.flatMap (fun p => leF32 p.1 ++ leF32 p.2) ++ leF32 fr.1 ++ leF32 fr.2 ++ an.flatMap leF32
      ++ (if g.digital then le 2 (digitalWord s) else [])
    rate := g.rate, timeBase := ownTimeBase, counts := (ph.length, an.length, if g.digital then 1 else 0) }

/-- The estimator runs (R281). -/
def estimatorRuns (s : State) : Bool :=
  s.sys.phase = .running && (s.sys.mode = .commission || s.sys.mode = .service || s.aligning)

/-- LOCAL_PHASOR_RECORD: the record of the latest reporting instant that is due goes to insertion (R279, R280). -/
def localPhasorRecord (n : Nat) (s : State) : State :=
  let l := s.localStream n
  if 4 ≤ n ∨ !estimatorRuns s then s
  else match nextRecord s l with
    | none => s
    | some (g, t) =>
      let recent := match l.changedAt with | some u => decide (s.now < u + 60000000000000) | none => false
      let f := localRecord n g t recent s
      let done := { l with lastRec := some t }
      let front := { s.front with locals_ := vset s.front.locals_ n done
                                  cLocalAbsent := if f.absent = 0 then s.front.cLocalAbsent else inc s.front.cLocalAbsent }
      pushInsert (fclkAt s.now 20) f { s with front }

end Sys2Proof.Machine
end

