-- ==== Sys2Proof/Machine/Energy.lean ====
section
/-! DEFINITION. The energy unit: power per sample, accumulators, directions, measured time, snapshots, reserve
accumulation, events, the energy mirror (R285 to R313). -/

namespace Sys2Proof.Machine

/-! ### Lines, phases, accumulators -/

/-- A line, and a change of it. -/
def State.line (s : State) (n : Nat) : LineSt := if n = 0 then s.energy.line0 else s.energy.line1
def State.setLine (s : State) (n : Nat) (x : LineSt) : State :=
  if n = 0 then { s with energy := { s.energy with line0 := x } } else { s with energy := { s.energy with line1 := x } }

/-- The line is OFF: every phase is unused (R287). -/
def LineSt.off (x : LineSt) : Bool := x.phases.toList.all fun p => p.chans.isNone

/-- The assignment of a line as it stands, one that waits for the tap sample included (R285, R287). -/
def LineSt.given (x : LineSt) : List (Option (Nat × Nat)) := x.assigned.getD (x.phases.toList.map (·.chans))

/-- A phase is used. -/
def PhaseSt.used (p : PhaseSt) : Bool := p.chans.isSome

/-- 10⁶ × 2⁴⁰, where a count returns to 0 (R296). -/
def countMod : Nat := 1000000 * 2 ^ 40

/-- A contribution in 2⁻³² µ-units joins an accumulator: the residue carries the fraction (R296). -/
def Accum.add (a : Accum) (u : Nat) : Accum :=
  let t := a.count * 2 ^ 32 + a.residue + u
  { a with count := t / 2 ^ 32 % countMod, residue := t % 2 ^ 32 }

/-- The whole content of an accumulator in 2⁻³² µ-units. -/
def Accum.total (a : Accum) : Nat := a.count * 2 ^ 32 + a.residue

/-- A reading: WRAP and VALUE (R297). -/
def reading (a : Accum) : List Byte := be 5 (a.count / 1000000 % 2 ^ 40)

/-- The seven accumulators of a set in order (R296). -/
def EnergySet.accums (e : EnergySet) : List Accum := [e.actImp, e.actExp, e.q1, e.q2, e.q3, e.q4, e.app]

/-- A set from seven accumulators. -/
def EnergySet.ofAccums (e : EnergySet) (xs : List Accum) : EnergySet :=
  { e with actImp := xs.getD 0 {}, actExp := xs.getD 1 {}, q1 := xs.getD 2 {}, q2 := xs.getD 3 {}, q3 := xs.getD 4 {}, q4 := xs.getD 5 {}, app := xs.getD 6 {} }

/-- A delta set joined to a set; the direction is the delta's (R313). -/
def EnergySet.join (e d : EnergySet) : EnergySet :=
  { e.ofAccums ((e.accums.zip d.accums).map fun (a, b) => a.add b.total) with export_ := d.export_ }

/-- The readings of one set; zeros for an unused phase (R315). -/
def setReadings (used : Bool) (e : EnergySet) : List Byte :=
  if used then e.accums.flatMap reading else List.replicate 35 0

/-- The 28 readings of a line (R315). -/
def lineReadings (x : LineSt) : List Byte :=
  ((List.range 3).flatMap fun k => setReadings (vget {} x.phases k).used (vget {} x.sets k)) ++ setReadings true (vget {} x.sets 3)

/-! ### Where the unit runs (R310) -/

/-- What the unit does with a tap sample. -/
inductive EnergyRun where
  | stopped | accumulate | follow | reserve
  deriving DecidableEq, Repr

/-- The row of R310. -/
def energyRun (s : State) : EnergyRun :=
  match s.sys.phase with
  | .reserve => .reserve
  | .running => match s.sys.mode with
    | .boot | .reserve => .stopped
    | .standby => .follow
    | .commission | .active | .service | .safe | .dormant => .accumulate
  | _ => .stopped

/-- A tap interval in 2⁻¹⁶ ns. -/
def tapUnits : Nat := 125000 * 65536

/-- Δt of R290 in seconds. -/
def deltaT (s : State) : Rat :=
  if s.sys.phase = .reserve then (125 : Rat) / 1000000 * ((s.time.reserveInc : Rat) / 4294967296) / (30517578125 / 1000000)
  else (125 : Rat) / 1000000 * (1 + s.time.y / 1000000000)

/-- The energy of a power over Δt in 2⁻³² µWh: 1 µWh is 3.6 mJ (R290, R296). -/
def energyOf (s : State) (p : F64) : Nat :=
  if f64IsNan p then Config.nanEnergy p
  else (roundQ 10 (f64Rat (f64Abs p) * deltaT s * 4294967296000 / 36 * 10)).toNat

/-! ### Events (R308, R309) -/

/-- Place of an event in the FIFO: in order of stamp, then line, then phase (R308). -/
def insertEvent (e : EnergyEvt) : List EnergyEvt → List EnergyEvt
  | [] => [e]
  | f :: t =>
    let d := stampDiff e.stamp f.stamp
    if d < 0 ∨ (d = 0 ∧ e.line * 4 + e.phase < f.line * 4 + f.phase) then e :: f :: t else f :: insertEvent e t

/-- An event is entered at its place, and the sequence numbers ascend along the FIFO; a full FIFO drops and counts (R308,
R309). -/
def enterEvent (e : EnergyEvt) (s : State) : State :=
  let q := s.energy.events
  if 64 ≤ q.length then { s with energy := { s.energy with evtLost := inc s.energy.evtLost } }
  else { s with energy := { s.energy with
           events := (insertEvent e q).zipIdx.map fun (x, i) => { x with seq := (s.energy.evtSeq + 65536 - q.length + i) % 65536 }
           evtSeq := (s.energy.evtSeq + 1) % 65536 } }

/-- The events of one tap sample are entered, the earliest first. -/
def enterEvents (es : List EnergyEvt) (s : State) : State :=
  (es.foldl (fun q e => insertEvent e q) []).foldl (fun s e => enterEvent e s) s

/-- An event of a phase, or of TOTAL as phase 3. -/
def energyEvent (stamp : Stamp) (type line phase : Nat) : EnergyEvt := { stamp, type, line, phase, acc := 0, seq := 0 }

/-- An accumulator is found CORRUPT: its bit, and the event of type 7 where events are formed; it keeps adding (R302, R308,
R310, R313). -/
def corruptAccum (line set acc : Nat) (s : State) : State :=
  let x := s.line line
  let e := vget {} x.sets set
  let e' := e.ofAccums (e.accums.zipIdx.map fun (a, i) => if i = acc then { a with corrupt := true } else a)
  let s1 := s.setLine line { x with sets := vset x.sets set e' }
  if energyRun s = .accumulate then enterEvent { stamp := s.energy.lastTap, type := 7, line, phase := set, acc, seq := 0 } s1 else s1

/-! ### One tap sample (R288 to R293) -/

/-- The stamp that a tap sample completed now would carry with the default instant and DELAY (R259, R274). -/
def tapStamp (s : State) : Stamp :=
  let p := presetNow s
  let u := modclkUnits s
  stampAdd s.stamp (-((groupUnits s + 2 * (u / 4) + (p.m - 1) * p.d * u / 2 : Nat) : Int))

/-- The tap sample of a channel, or an INVALID one where there is none. -/
def chanTap (s : State) (c : Nat) : F32 × Bool × Stamp := (s.chan c).tap.getD (0, false, tapStamp s)

/-- The stamp of the sample that the unit works on: that of the tap sample 32 before, or, in RESERVE, the newest (R290). -/
def PhaseSt.stampNow (p : PhaseSt) (reserve : Bool) : Stamp :=
  if reserve then p.stamps.headD 0
  else match p.stamps[32]? with
    | some t => t
    | none => stampAdd (p.stamps.headD 0) (-(32 * tapUnits : Nat))

/-- v̂ of R288: the 65-tap Hilbert FIR over the voltage history, newest first. A shift by −90° at every frequency makes its
coefficients antisymmetric, the middle one 0. -/
def hilbert (vs : List F64) : F64 :=
  (List.range 32).foldl (fun a i => f64Add a (f64Mul (Config.hilbertTap i) (f64Sub (vs.getD i 0) (vs.getD (64 - i) 0)))) 0

/-- The tap samples of its channels join the windows of a phase (R288, R291, R305). -/
def feedPhase (s : State) (reserve : Bool) (p : PhaseSt) : PhaseSt :=
  match p.chans with
  | none => p
  | some (vc, ic) =>
    let r1 := chanTap s vc
    let v := r1.1
    let vOk := r1.2.1
    let vt := r1.2.2
    let r2 := chanTap s (8 + ic)
    let i := r2.1
    let iOk := r2.2.1
    let it := r2.2.2
    let vh := f32To64 v :: p.vHist.take 64
    let ih := f32To64 i :: p.iHist.take 799
    let vd := vh.getD 32 0
    let id_ := ih.getD 32 0
    let ok := iOk && (reserve || vOk)
    { p with
      vHist := vh, iHist := ih
      pHist := f64Mul vd id_ :: p.pHist.take 799
      qHist := f64Mul (hilbert vh) id_ :: p.qHist.take 799
      validRun := if ok then min (p.validRun + 1) 864 else 0
      stamps := (if reserve then it else vt) :: p.stamps.take 32 }

/-- Measured: the last 864 tap samples of both channels were VALID (R291). -/
def PhaseSt.measured (p : PhaseSt) : Bool := p.used && decide (864 ≤ p.validRun)

/-- ±4 × 10⁹ (R289). -/
def clampF64 (x : F64) : F64 × Bool :=
  let lim := ratF64 4000000000
  if f64Lt lim x then (lim, true) else if f64Lt x (f64NegOf lim) then (f64NegOf lim, true) else (x, false)

/-- p̄, q̄ and s of a phase, clamped, and whether any was (R288, R289). -/
def phasePower (p : PhaseSt) : F64 × F64 × F64 × Bool :=
  let pm := meanF64 p.pHist
  let qm := meanF64 p.qHist
  let r1 := clampF64 pm
  let a := r1.1
  let ca := r1.2
  let r2 := clampF64 qm
  let b := r2.1
  let cb := r2.2
  let r3 := clampF64 (f64Sqrt (f64Add (f64Mul pm pm) (f64Mul qm qm)))
  let c := r3.1
  let cc := r3.2
  (a, b, c, ca || cb || cc)

/-- The rows of R292: import, export, or neither. -/
def powerRow (pStart : Nat) (p : F64) : Option Bool :=
  let lim := ratF64 (pStart : Rat)
  if f64Le lim p && f64Lt 0 p then some false
  else if f64Le p (f64NegOf lim) && f64Lt p 0 then some true
  else none

/-- The energy of a sample joins a set; the direction follows (R292, R293). -/
def accumulate (s : State) (pStart : Nat) (p q a : F64) (e : EnergySet) : EnergySet :=
  let row := powerRow pStart p
  let dir := row.getD e.export_
  let ep := energyOf s p
  let eq := energyOf s q
  let lag := f64Le 0 q
  { e with
    actImp := if row = some false then e.actImp.add ep else e.actImp
    actExp := if row = some true then e.actExp.add ep else e.actExp
    q1 := if !dir && lag then e.q1.add eq else e.q1
    q4 := if !dir && !lag then e.q4.add eq else e.q4
    q2 := if dir && lag then e.q2.add eq else e.q2
    q3 := if dir && !lag then e.q3.add eq else e.q3
    app := e.app.add (energyOf s a)
    export_ := dir }

/-- The stamp of a line's samples: that of its first used phase. -/
def lineStamp (s : State) (reserve : Bool) (x : LineSt) : Stamp :=
  match x.phases.toList.find? (·.used) with
  | some p => p.stampNow reserve
  | none => stampAdd (tapStamp s) (if reserve then 0 else -(32 * tapUnits : Nat))

/-- The stamp of the tap interval that the unit handles: LINE_0's, or that of a line that is not OFF. -/
def unitStamp (s : State) (reserve : Bool) : Stamp :=
  lineStamp s reserve (if s.energy.line0.off && !s.energy.line1.off then s.energy.line1 else s.energy.line0)

/-- The sets of a line after a sample: each measured phase, and TOTAL where the line is measured; whether a value of a
used phase is clamped; the events of direction (R289, R292 to R294). -/
def lineSample (s : State) (n : Nat) (x : LineSt) (sets : Vector EnergySet 4) : Vector EnergySet 4 × Bool × List EnergyEvt :=
  let ps := (List.range 3).map fun k => (k, vget {} x.phases k)
  let live := (ps.filter fun (_, p) => p.measured).map fun (k, p) => (k, p, phasePower p)
  let whole := !x.off && ps.all fun (_, p) => !p.used || p.measured
  let sum (f : F64 × F64 × F64 × Bool → F64) : F64 := live.foldl (fun a (_, _, w) => f64Add a (f w)) 0
  let step (acc : Vector EnergySet 4 × List EnergyEvt) (k : Nat) (t : Stamp) (p q a : F64) : Vector EnergySet 4 × List EnergyEvt :=
    let e := vget {} acc.1 k
    let e' := accumulate s x.pStart p q a e
    (vset acc.1 k e', if e.export_ = e'.export_ then acc.2 else acc.2 ++ [energyEvent t (if e'.export_ then 2 else 1) n k])
  let acc1 := live.foldl (fun acc (k, p, w) => step acc k (p.stampNow false) w.1 w.2.1 w.2.2.1) (sets, ([] : List EnergyEvt))
  let acc2 := if whole then step acc1 3 (lineStamp s false x) (sum (·.1)) (sum (·.2.1)) (sum (·.2.2.1)) else acc1
  let clamped := ps.any fun (_, p) => p.used && decide (800 ≤ p.pHist.length) && (phasePower p).2.2.2
  (acc2.1, clamped, acc2.2)

/-- The line is measured (R291). -/
def LineSt.measuredNow (x : LineSt) : Bool := !x.off && x.phases.toList.all fun p => !p.used || p.measured

/-- Events 5 and 6 of a line (R308). -/
def measureEvents (t : Stamp) (n : Nat) (x : LineSt) : List EnergyEvt :=
  if x.measuredNow = x.wasMeasured then [] else [energyEvent t (if x.measuredNow then 5 else 6) n 3]

/-- A line takes a tap sample where the unit accumulates (R288 to R294, R300). -/
def lineAccumulate (n : Nat) (s : State) : List EnergyEvt × State :=
  let x := s.line n
  if x.off then ([], s.setLine n { x with wasMeasured := false })
  else
    let t := lineStamp s false x
    let r1 := lineSample s n x x.sets
    let sets := r1.1
    let clamped := r1.2.1
    let evs := r1.2.2
    let m := x.measuredNow
    (measureEvents t n x ++ evs,
     s.setLine n { x with
      sets, wasMeasured := m, cClamped := if clamped then inc x.cClamped else x.cClamped
      measured := if m then x.measured + 1 else x.measured
      unmeasured := if m then x.unmeasured else x.unmeasured + 1 })

/-- The delta set of a line, and a change of it (R313). -/
def State.delta (s : State) (n : Nat) : Vector EnergySet 4 := if n = 0 then s.energy.delta0 else s.energy.delta1
def State.setDelta (s : State) (n : Nat) (d : Vector EnergySet 4) (m u : Nat) : State :=
  let ts := s.energy.deltaTimes
  if n = 0 then { s with energy := { s.energy with delta0 := d, deltaTimes := [ts.getD 0 0 + m, ts.getD 1 0 + u, ts.getD 2 0, ts.getD 3 0] } }
  else { s with energy := { s.energy with delta1 := d, deltaTimes := [ts.getD 0 0, ts.getD 1 0, ts.getD 2 0 + m, ts.getD 3 0 + u] } }

/-- A line takes a tap sample on the STANDBY: into the delta set, where its stamp lies after t_m (R313). -/
def lineFollow (n : Nat) (s : State) : State :=
  let x := s.line n
  let after := match s.energy.mirrorAt with | some t => decide (0 < stampDiff (lineStamp s false x) t) | none => true
  if x.off || !after then s.setLine n { x with wasMeasured := x.measuredNow }
  else
    let r1 := lineSample s n x (s.delta n)
    let sets := r1.1
    let clamped := r1.2.1
    let m := x.measuredNow
    (s.setLine n { x with wasMeasured := m, cClamped := if clamped then inc x.cClamped else x.cClamped }).setDelta n sets
      (if m then 1 else 0) (if m then 0 else 1)

/-- I_rms of a phase in RESERVE: of the last 800 tap samples, all VALID (R305). -/
def reserveRms (p : PhaseSt) : Option F64 :=
  if p.used && decide (800 ≤ p.validRun) then some (rmsF64 p.iHist) else none

/-- A phase in RESERVE: AH, and the runs at or above and below UF_LIMIT (R305, R306). -/
def reservePhase (s : State) (limit : F32) (p : PhaseSt) : PhaseSt :=
  match reserveRms p with
  | none => { p with ufHigh := none, ufLow := none }
  | some i =>
    let high := f64Le (f32To64 limit) i
    let here := (p.stampNow true, s.now)
    { p with ah := p.ah.add (energyOf s i)
             ufHigh := if high then some (p.ufHigh.getD here) else none
             ufLow := if high then none else some (p.ufLow.getD here) }

/-- A line takes a tap sample in RESERVE (R300, R305, R306). -/
def lineReserve (n : Nat) (s : State) : State :=
  let x := s.line n
  if x.off then s
  else s.setLine n { x with phases := x.phases.map (reservePhase s x.ufLimit), unmeasured := x.unmeasured + 1, reserveTime := x.reserveTime + 1, wasMeasured := false }

/-- The time in which the unit handled no tap interval is unmeasured (R301). -/
def addGap (t : Stamp) (s : State) : State :=
  let d := stampDiff t s.energy.lastTap
  if s.energy.unitRunning || decide (d ≤ 0) then s
  else
    let k : BitVec 64 := BitVec.ofNat 64 (cdiv d.toNat tapUnits)
    let add (n : Nat) (s : State) : State :=
      let x := s.line n
      if x.off then s else s.setLine n { x with unmeasured := x.unmeasured + k }
    add 1 (add 0 s)

/-! ### Snapshots (R303) -/

/-- The interval boundary at or before a stamp: its number, and its instant. -/
def boundaryOf (s : State) (t : Stamp) : Nat × Stamp :=
  let u := s.utcSec t
  let len := 60 * s.energy.interval
  ((u / len).toNat, ((stampSec t : Int) - u % len).toNat * unitsPerSec % stampMod)

/-- A snapshot is latched when a stamp has passed a boundary; the first stamp after a start, or after
STANDBY, only finds its interval (R303). -/
def snapshotAt (t : Stamp) (s : State) : State :=
  if s.energy.interval = 0 ∨ energyRun s ≠ .accumulate then s
  else
    let r1 := boundaryOf s t
    let k := r1.1
    let instant := r1.2
    let e := s.energy
    let e1 := { e with lastBoundary := some k }
    match e.lastBoundary with
    | none => { s with energy := e1 }
    | some j =>
      if j < k then
        let snap : Snapshot := { instant, seq := e.snapSeq, readings := lineReadings e.line0 ++ lineReadings e.line1,
                                 times := [e.line0.measured.toNat, e.line0.unmeasured.toNat, e.line1.measured.toNat, e.line1.unmeasured.toNat] }
        { s with energy := { e1 with snaps := (snap :: e.snaps).take 16, snapSeq := (e.snapSeq + 1) % 4294967296 } }
      else { s with energy := e1 }

/-! ### The tap boundary -/

/-- The windows of a phase restart; what lies in the reserve domain stays (R287, R291, R311). -/
def restartPhase (p : PhaseSt) : PhaseSt := { chans := p.chans, ah := p.ah, unmetered := p.unmetered }

/-- An accepted assignment takes effect: the phases that it changes restart their windows (R287). -/
def takeAssigned (x : LineSt) : LineSt :=
  match x.assigned with
  | none => x
  | some a =>
    let ph (k : Nat) : PhaseSt :=
      let q := vget {} x.phases k
      let c := (a[k]?).getD none
      if q.chans = c then q else { restartPhase q with chans := c }
    { x with assigned := none, phases := #v[ph 0, ph 1, ph 2] }

/-- The tap samples of the channels join the phases, and are used up (R274, R287, R288). -/
def feedLines (reserve : Bool) (s : State) : State :=
  let feed (x : LineSt) : LineSt := { takeAssigned x with phases := (takeAssigned x).phases.map (feedPhase s reserve) }
  { s with energy := { s.energy with line0 := feed s.energy.line0, line1 := feed s.energy.line1 }
           front := { s.front with chans := s.front.chans.map fun c => { c with tap := none } } }

/-- TAP_SAMPLE: one tap boundary (R288 to R306, R310, R313). -/
def tapSample (s : State) : State :=
  match energyRun s with
  | .stopped => s
  | .accumulate =>
    let s1 := feedLines false s
    let t := unitStamp s1 false
    let s2 := addGap t (snapshotAt t s1)
    let r1 := lineAccumulate 0 s2
    let e0 := r1.1
    let s3 := r1.2
    let r2 := lineAccumulate 1 s3
    let e1 := r2.1
    let s4 := r2.2
    let s5 := enterEvents (e0 ++ e1) s4
    { s5 with energy := { s5.energy with lastTap := t, unitRunning := true } }
  | .follow =>
    let s1 := feedLines false s
    let t := unitStamp s1 false
    let s2 := lineFollow 1 (lineFollow 0 (addGap t s1))
    { s2 with energy := { s2.energy with lastTap := t, unitRunning := true, lastBoundary := none } }
  | .reserve =>
    let s1 := feedLines true s
    let t := unitStamp s1 true
    let s2 := lineReserve 1 (lineReserve 0 (addGap t s1))
    { s2 with energy := { s2.energy with lastTap := t, unitRunning := true } }

/-- UNMETERED_FLOW_QUALIFIED: a run has lasted UF_QUAL: the flag and the event, or the end event (R306). -/
def flowQualified (n k : Nat) (s : State) : State :=
  let x := s.line n
  let p := vget {} x.phases k
  let put (p' : PhaseSt) : State := s.setLine n { x with phases := vset x.phases k p' }
  let long (r : Option (Stamp × Ps)) : Option Stamp := match r with
    | some (t, since) => if since + x.ufQual * 1000000000 ≤ s.now then some t else none
    | none => none
  if 2 ≤ n ∨ 3 ≤ k ∨ s.sys.phase ≠ .reserve then s
  else match p.ufOn, long p.ufHigh, long p.ufLow with
    | false, some t, _ => enterEvent (energyEvent t 3 n k) (put { p with ufOn := true, unmetered := true })
    | true, _, some t => enterEvent (energyEvent t 4 n k) (put { p with ufOn := false })
    | _, _, _ => s

/-! ### Starts and stops (R301, R305, R311) -/

/-- The unit handles no tap interval for a time (R301). -/
def energyStop (s : State) : State := { s with energy := { s.energy with unitRunning := false } }

/-- The windows begin anew in RESERVE (R305, R307). -/
def energyReserve (s : State) : State :=
  let f (x : LineSt) : LineSt := { x with phases := x.phases.map restartPhase }
  energyStop { s with energy := { s.energy with line0 := f s.energy.line0, line1 := f s.energy.line1 } }

/-- What a line keeps in the reserve domain over a reset; its settings are the defaults again (R285, R311). -/
def lineAfterReset (fresh old : LineSt) : LineSt :=
  { fresh with
    phases := (fresh.phases.zip old.phases).map fun (a, b) => { a with ah := b.ah, unmetered := b.unmetered }
    sets := old.sets, measured := old.measured, unmeasured := old.unmeasured, reserveTime := old.reserveTime, fresh := old.fresh }

/-- The unit after a reset; with the reserve domain lost, everything restarts (R302, R303, R311). -/
def energyAfterReset (lost : Bool) (e : EnergySt) : EnergySt :=
  let d : EnergySt := {}
  if lost then d
  else { d with line0 := lineAfterReset d.line0 e.line0, line1 := lineAfterReset d.line1 e.line1, lastTap := e.lastTap,
                events := e.events, evtSeq := e.evtSeq, clearCount := e.clearCount }

/-! ### The mirror (R312, R313) -/

/-- An accumulator in the mirror, in the model's octets (log entry 10). -/
def mirrorAccum (a : Accum) : List Byte := be 8 a.count ++ be 4 a.residue

/-- A line in the mirror: the 28 accumulators, the three AH, MEASURED, UNMEASURED, RESERVE_TIME, the directions and the
flags, 402 octets. -/
def mirrorLine (x : LineSt) : List Byte :=
  (x.sets.toList.flatMap fun e => e.accums.flatMap mirrorAccum) ++ (x.phases.toList.flatMap fun p => mirrorAccum p.ah)
    ++ be 8 x.measured.toNat ++ be 8 x.unmeasured.toNat ++ be 8 x.reserveTime.toNat
    ++ be 1 (bitsOf (x.sets.toList.map (·.export_)) + bit x.fresh 4 + bitsOf (x.phases.toList.map (·.unmetered)) * 32)
    ++ be 4 (bitsOf (x.sets.toList.flatMap fun e => e.accums.map (·.corrupt))) ++ be 1 0

/-- The energy mirror: t_m and both lines. -/
def mirrorBytes (s : State) : List Byte := stampBytes s.energy.lastTap ++ mirrorLine s.energy.line0 ++ mirrorLine s.energy.line1

/-- A line as a mirror gives it. -/
def lineOfMirror (b : List Byte) (x : LineSt) : LineSt :=
  let acc (i : Nat) : Accum := { count := fld b (12 * i) 8, residue := fld b (12 * i + 8) 4, corrupt := (fld b 397 4).testBit i }
  let set (k : Nat) : EnergySet := { EnergySet.ofAccums {} ((List.range 7).map fun i => acc (7 * k + i)) with export_ := (fld b 396 1).testBit k }
  let ph (k : Nat) (p : PhaseSt) : PhaseSt := { p with ah := { acc (28 + k) with corrupt := p.ah.corrupt }, unmetered := (fld b 396 1).testBit (5 + k) }
  { x with
    sets := #v[set 0, set 1, set 2, set 3]
    phases := #v[ph 0 (vget {} x.phases 0), ph 1 (vget {} x.phases 1), ph 2 (vget {} x.phases 2)]
    measured := BitVec.ofNat 64 (fld b 372 8), unmeasured := BitVec.ofNat 64 (fld b 380 8), reserveTime := BitVec.ofNat 64 (fld b 388 8)
    fresh := (fld b 396 1).testBit 4 }

/-- The energy mirror is sent (R312, R504). -/
def sendEnergyMirror (s : State) : State :=
  mirrorItem 2 (mirrorBytes s) { s with energy := { s.energy with mirrorSentAt := s.now } }

/-- The delta set is empty, with the directions that the sets have (R313). -/
def emptyDelta (s : State) : State :=
  let d (x : LineSt) : Vector EnergySet 4 := x.sets.map fun e => { export_ := e.export_ }
  { s with energy := { s.energy with delta0 := d s.energy.line0, delta1 := d s.energy.line1, deltaTimes := [0, 0, 0, 0] } }

/-- A mirror is applied whole: its values replace the device's, and the delta set is empty (R312, R313). -/
def applyMirror (b : List Byte) (s : State) : State :=
  emptyDelta { s with energy := { s.energy with
    line0 := lineOfMirror (slice b 12 402) s.energy.line0
    line1 := lineOfMirror (slice b 414 402) s.energy.line1
    mirrorIn := none, mirrorAt := some (stampOfBytes b) } }

/-- The device becomes STANDBY: a delta set begins (R313). -/
def energyFollow (s : State) : State :=
  emptyDelta { s with energy := { s.energy with mirrorIn := none, mirrorAt := none } }

/-- The device becomes ACTIVE: each accumulator goes on from the last applied mirror plus the delta (R313). -/
def energyAdopt (s : State) : State :=
  let ts := s.energy.deltaTimes
  let join (x : LineSt) (d : Vector EnergySet 4) (m u : Nat) : LineSt :=
    { x with sets := (x.sets.zip d).map fun (a, b) => a.join b
             measured := x.measured + BitVec.ofNat 64 m, unmeasured := x.unmeasured + BitVec.ofNat 64 u }
  emptyDelta { s with energy := { s.energy with
    line0 := join s.energy.line0 s.energy.delta0 (ts.getD 0 0) (ts.getD 1 0)
    line1 := join s.energy.line1 s.energy.delta1 (ts.getD 2 0) (ts.getD 3 0)
    mirrorIn := none, mirrorAt := none } }

end Sys2Proof.Machine
end

