-- ==== Sys2Proof/Machine/Mode.lean ====
section
/-! DEFINITION. Changes of mode and resets: heartbeats, entry into and departure from ACTIVE, STANDBY and DORMANT, and the
reset edge (R62, R63, R309, R502, R508 to R517, R570 to R577, R583). -/

namespace Sys2Proof.Machine

/-! ### The settings digest and the heartbeat (R502, R509) -/

/-- The key domain of a lifecycle state (R550). -/
def Lifecycle.domain : Lifecycle → Nat
  | .manufacture => 1 | .provisioned | .field => 2 | .return => 3 | .blank | .scrapped => 0

/-- A settings record in its stored form (R581); the CAK of SEC_SET_MKA wrapped under the domain that its last octet
names (R567, R580). -/
def settingBytes (x : Setting) : List Byte :=
  let p := if x.opcode = 0x0B04 then x.params.take 36 ++ padTo 40 (Config.keyWrap (fld x.params 69 1) (slice x.params 36 32)) ++ slice x.params 68 1
           else x.params
  be 2 x.opcode ++ be 4 p.length ++ p

/-- The settings digest (R502). -/
def State.digest (s : State) : Word32 := crc32c ((s.host.settings.filter fun x => digestGroup x.opcode).flatMap settingBytes)

/-- The sent marks of sessions 0 to 255; 0 and 0 for a session that has sent nothing (R509, R411). -/
def sentMarks (s : State) : List Byte :=
  (List.range 256).flatMap fun n => match (tabGet? n s.egress.sessions).bind (·.mark) with
    | some (q, r) => be 4 q.toNat ++ be 1 r
    | none => be 4 0 ++ be 1 0

/-- The payload of a heartbeat (R509). -/
def heartbeatPayload (s : State) (k : Nat) (yield : Bool) : List Byte :=
  be 4 (s.link k).hbSeq.toNat ++ be 1 s.sys.mode.code ++ be 1 s.pair.state.code
    ++ be 1 (bit yield 0 + bit s.pair.mirrored 1 + bit (s.time.servo = .locked) 2) ++ be 4 s.digest.toNat ++ be 1 s.time.tqCode
    ++ (if k = 3 then sentMarks s else [])

/-- A heartbeat is sent on a JOINED link (R509). -/
def sendHeartbeat (k : Nat) (yield : Bool) (s : State) : State :=
  let l := s.link k
  if l.state = .joined then
    (sendA k 0x02 (heartbeatPayload s k yield) s).setLink k { l with hbSeq := l.hbSeq + 1, hbSentAt := s.now }
  else s

/-- A heartbeat with YIELD on every JOINED link (R510, R545, R576). -/
def yieldAll (s : State) : State := (List.range 4).foldl (fun s k => sendHeartbeat k true s) s

/-! ### Alarms and frames that pass between the devices of a pair (R412, R507, R508, R513) -/

/-- The raw results of the ticks after a SEQ, oldest first (R508). -/
def rawsAfter (d : AlmDef) (seq : Nat) : List Raw := ((d.rawHist.filter fun x => seqBefore seq x.1).reverse).map (·.2)

/-- A definition starts from the mirrored state and count, and its own later raw results are applied (R508). -/
def adoptAlarm (d : AlmDef) : AlmDef :=
  match d.mirrored with
  | none => d
  | some (st, k, seq) =>
    (rawsAfter d seq).foldl (fun d raw => let (st', k') := almNext d raw; { d with state := st', count := k' }) { d with state := st, count := k }

/-- The mirrored shown state. -/
def mirrorShown (d : AlmDef) : Bool := match d.mirrored with | some (st, _, _) => st.isRaised | none => d.shown

/-- Every definition adopts its mirrored state (R508). -/
def adoptAlarms (s : State) : State :=
  { s with detect := { s.detect with alarms := tabMap (fun _ d => adoptAlarm d) s.detect.alarms } }

/-- The transition event whose content the repeats of a definition carry from a takeover on: its own, where that shows the state
now held; else one of the partner's, of which the mirror tells the STATE only, so that the rest of it is free; none in ARMING
(R350, R504, R513; log entry 4). -/
def repeatEvent (d : AlmDef) (s : State) : Option (AlmEvent × Ps) × State :=
  if d.state = .disabled then (none, s)
  else
    let own := d.event.filter fun e => e.1.raised = d.shown
    if own.isSome then (own, s)
    else if d.state = .arming then (none, s)
    else
      let r := s.draw
      let v := r.1
      (some ({ type := if d.shown then 1 else 2, test := false, raised := d.shown, stateNo := BitVec.ofNat 32 v
               decided := v / 2 ^ 32 % stampMod, tick := v / 2 ^ 128 % stampMod, seq := v / 2 ^ 224 % 2 ^ 32, tqCode := v / 2 ^ 256 % 16
               detail := be 16 (v / 2 ^ 260) }, s.now), r.2)

/-- The repeats of a definition start again, 1 ms on (R513). -/
def restartRepeats (n : Nat) (s : State) : State :=
  match s.ald n with
  | none => s
  | some d =>
    let r := repeatEvent d s
    r.2.setAld n { d with mirrored := none, rawHist := [], event := r.1
                          nextRepeat := if r.1.isSome then (destsOf d).map fun i => (i, 1, s.now + 1000000000) else [] }

/-- A transition frame for each definition whose shown state differs from the last mirrored one, in ascending number;
the repeats of every definition start again 1 ms on (R513 step 4). -/
def announceAlarms (s : State) : State :=
  let changed := s.detect.alarms.filter fun x => x.2.state != .disabled && x.2.shown != mirrorShown x.2
  let s1 := changed.foldl (fun s x =>
    let r1 := x.2.lastTick.getD (0, 0, [])
    let t := r1.1
    let q := r1.2.1
    let b := r1.2.2
    almEvent x.1 (if x.2.shown then 1 else 2) false t q b s) s
  (s1.detect.alarms.map (·.1)).foldl (fun s n => restartRepeats n s) s1

/-- The mirrored alarm states are no longer needed (R508, R517). -/
def dropMirrored (s : State) : State :=
  { s with detect := { s.detect with alarms := tabMap (fun _ (d : AlmDef) => { d with mirrored := none, rawHist := [] }) s.detect.alarms } }

/-- A constellation lies after a sent mark (R412). -/
def afterMark (m : BitVec 32 × Nat) (c : Sealed) : Bool :=
  let d : BitVec 32 := BitVec.ofNat 32 c.seq - m.1
  (d != 0 && !d.getLsbD 31) || (d == 0 && decide (m.2 < c.rev))

/-- A constellation in its place, oldest assembly first. -/
def insertSealed (c : Sealed) : List Sealed → List Sealed
  | [] => [c]
  | d :: t => if stampDiff c.start d.start < 0 then c :: d :: t else d :: insertSealed c t

/-- Every frame that lies after its UDP session's last received sent mark is to be formed, oldest first (R412). -/
def owedFrames (s : State) : State :=
  let held := (s.align.zones.flatMap fun z => z.2.areas.flatMap (·.sealed_)).foldl (fun q c => insertSealed c q) []
  let sessionsOf (c : Sealed) : List Nat := (s.egress.sessions.filter fun (n, x) =>
    x.state = .sending && x.cfg.zone = c.zone && x.cfg.transport != .tcp && (c.rev = 0 || x.cfg.revAll)
      && afterMark (((s.pair.marks.find? fun m => m.1 = n).map (·.2)).getD (0, 0)) c).map (·.1)
  let waits := (held.map fun c => ({ zone := c.zone, tick := c.tick, rev := c.rev, sessions := sessionsOf c } : EgressWait)).filter fun w => !w.sessions.isEmpty
  { s with egress := { s.egress with waits := s.egress.waits ++ waits } }

/-! ### Changes of mode (R62, R63, R570 to R575) -/

/-- The mode aligns: ACTIVE or STANDBY. -/
def Mode.aligns (m : Mode) : Bool := m == .active || m == .standby

/-- Frames on their way in are lost where the ports are off (R60, R62, R575). -/
def dropIngress (s : State) : State :=
  { s with ingress := { s.ingress with toParser := [], toBind := [], toInsert := [], checks := [], reasm := [], toSupervisor := [] } }

/-- A peer link goes DOWN (R494). -/
def linkDown (k : Nat) (s : State) : State :=
  let l := s.link k
  let t := s.setLink k { l with state := .down, reason := 0, unacked := [], ackDue := false, missed := 0, lastHb := none, txSeq := 0, rxSeq := 0,
                                cDowns := if l.state = .joined then inc l.cDowns else l.cDowns }
  notePartner s t

/-- The pair is UNPAIRED (R503). -/
def unpair (s : State) : State :=
  { s with pair := { s.pair with state := .unpaired, mirrored := false, partnerMirrored := false, holdFrom := none, handover := none,
                                 requested := false, declared := none, revMirror := [], fullDue := false, heldItems := [] } }

/-- The PCIe link goes down, where it was up: what R454 says, and the endpoint may issue no request. -/
def pcieOff (s : State) : State :=
  if s.host.pcieUp then
    let s1 := pcieDown s
    { s1 with host := { s1.host with pcieUp := false, busMaster := false } }
  else s

/-- The management link goes down, where it was up: an interface reset of MGMT (R467). -/
def mgmtDown (s : State) : State := if s.host.mgmtLink then ifReset 1 { s with host := { s.host with mgmtLink := false } } else s

/-- Entry into DORMANT: ports, peer links, PCIe endpoint and command interfaces are off (R75, R421, R454, R575). -/
def dormantEnter (s : State) : State :=
  let s2 := (List.range 4).foldl (fun s k => linkDown k s) (mgmtDown (pcieOff (dmaStop 6 s)))
  let s3 := dropIngress (stopWan s2)
  { s3 with ingress := { s3.ingress with
      ports := s3.ingress.ports.map fun p => { p with linkUp := false }
      ctxs := tabMap (fun _ (c : Ctx) => if hasConn c then { c with tcpUp := false, tcpBuf := [], tcpArr := [], tcpScan := false } else c) s3.ingress.ctxs }
            sec := { s3.sec with mka := s3.sec.mka.map fun m => { m with peers := [], installed := false, rx := [] } }
            time := { s3.time with ppsOutEnd := none } }

/-- The departure from the mode before `m`: from ACTIVE, YIELD, the WAN ports and TCP; from ACTIVE and STANDBY, alignment; where
`m` does not align, the pair (R210, R371, R399, R503, R510). -/
def modeLeave (m : Mode) (yield : Bool) (s : State) : State :=
  let s1 := if s.sys.mode = .active then closeAllTcp (stopWan (if yield then yieldAll s else s)) else s
  if m.aligns then s1 else unpair (if s.sys.mode.aligns then alignLeave s1 else s1)

/-- A STANDBY becomes ACTIVE: it adopts the energy and the alarms, its sessions send, its anchors go out (R313, R504, R508). -/
def standbyActive (s : State) : State :=
  let s1 := refreshSessions (adoptAlarms (energyAdopt s))
  (runningZones s1).foldl (fun s z => mirrorAnchor z s) s1

/-- The entry into `m` from `old`: alignment and energy, and what the clocks, the ports and the front end do (R210, R262, R313,
R340, R575). -/
def modeEnter (old m : Mode) (s : State) : State :=
  let s1 := if !old.aligns && m.aligns then alignEnter (if m = .standby then energyFollow s else s)
    else if old = .active && m = .standby then energyFollow s
    else if old = .standby && m = .active then standbyActive s
    else s
  if m = .dormant then reselect (dormantEnter s1) else if old = .dormant then reselect s1
  else if old = .boot then reselect (frontStart s1) else s1

/-- MIRRORED and the hold timer start anew. -/
def mirrorAfresh (s : State) : State := { s with pair := { s.pair with mirrored := false, fullDue := false, holdFrom := none } }

/-- The mode changes on this edge; what earlier chapters tie to the entry into and the departure from ACTIVE and STANDBY
takes hold (R210, R340, R371, R399, R503, R510, R572). -/
def changeMode (m : Mode) (yield : Bool) (s : State) : State :=
  if s.sys.mode = m then s
  else notePartner s (driveFaultN (updatePins (refreshSessions (mirrorAfresh (modeEnter s.sys.mode m (setMode m (modeLeave m yield s)))))))

/-- A request for ACTIVE: a device with pairing enabled listens for its partner first (R503, R571). -/
def requestActive (s : State) : State :=
  if !s.pair.pairEnable then changeMode .active false s
  else if s.pair.state = .listen then s
  else { s with pair := { s.pair with state := .listen, listenFrom := s.now } }

/-! ### The reset edge (R576, R577, R583) -/

/-- The time group after a reset while the time base survives: the reserve domain and the live fields of the snapshot block
are kept; the counters of R161 only over a POR (R121, R144, R161, R583). -/
def timeAfterReset (kind : ResetKind) (t : TimeSt) : TimeSt :=
  let d : TimeSt := {}
  let kept : TimeSt := { d with
    tb := t.tb, valid := t.valid, lockedSinceValid := t.lockedSinceValid, y := t.y, err := t.err, utcOffset := t.utcOffset
    leapPending := t.leapPending, leapDir := t.leapDir, leapOccurred := t.leapOccurred, leapDue := t.leapDue, leapAt := t.leapAt, leapAtDir := t.leapAtDir
    reserveInc := t.reserveInc, snapSecLo := t.snapSecLo, snapSecHi := t.snapSecHi, unlockedPs := t.unlockedPs, clockPass := t.clockPass }
  let counted : TimeSt := if kind = .por then { kept with
    cSteps := t.cSteps, cLosses := t.cLosses, cSwitches := t.cSwitches, cTwilight := t.cTwilight, cPpsRejected := t.cPpsRejected
    cIrigErrors := t.cIrigErrors, cSyncDiscarded := t.cSyncDiscarded, cEvtOverflow := t.cEvtOverflow, cLateSent := t.cLateSent
    cLateDropped := t.cLateDropped, cDroppedFar := t.cDroppedFar } else kept
  counted

/-- The counts of the reset history: one per kind, RESERVE_ENTRIES, SHORT_HANDOFFS (R585). -/
def countHistory (i : Nat) (h : List Cnt) : List Cnt := h.zipIdx.map fun (c, j) => if i = j then inc c else c

/-- WDOG resets of the last 600 s (R579, R585). -/
def recentWdog (s : State) : List Stamp :=
  s.sys.wdogTimes.filter fun t => decide (stampDiff s.stamp t ≤ 600 * (unitsPerSec : Int))

/-- The parts of chapter 17 that lie in the flash and the fuses (R583, R594). -/
def updAfterReset (u : UpdSt) : UpdSt :=
  { u with session := none, copy := false, dramImages := none, trialEnd := none, recovery := none }

/-- A burn of lifecycle fuses that a reset cuts short has blown some of its group's fuses, how many is free (R554). -/
def cutBurn (s : State) : State :=
  match s.host.executing with
  | some e => match e.op with
    | .lifecycle t =>
      let r1 := s.draw
      let v := r1.1
      let s1 := r1.2
      { s1 with sec := { s1.sec with fuses := vset s1.sec.fuses (t - 1) (max (vget 0 s1.sec.fuses (t - 1)) (v % 9)) } }
    | _ => s
  | none => s

/-- What lies in SRAM, DRAM and registers is gone; the reserve domain, the flash and the fuses stay (R583). The
device is held in reset. -/
def wipe (kind : ResetKind) (ph : Phase) (s₀ : State) : State :=
  let s := cutBurn s₀
  driveFaultN { s with
    later := []
    time := timeAfterReset kind s.time
    ingress := {}, align := {}, front := {}, detect := {}, kernel := {}, egress := {}, dma := {}
    energy := energyAfterReset false s.energy
    host := { ring := { epoch := s.host.ring.epoch }, mgmt := { epoch := s.host.mgmt.epoch }, svc := { epoch := s.host.svc.epoch }, nextJseq := s.host.nextJseq }
    pair := { conflictPrimary := if kind = .por ∨ kind = .pin then none else s.pair.conflictPrimary }
    integ := { lastFault := s.integ.lastFault, safeEntries := s.integ.safeEntries, autoLeaves := s.integ.autoLeaves
               sensors := s.integ.sensors, tj := s.integ.tj, tjMax := s.integ.tj, hotSince := s.integ.hotSince, scorchSince := s.integ.scorchSince
               injected := s.integ.injected.filter fun x => x.cls = 12 || x.cls = 14 }
    sec := { s.sec with kwk := [], drbg := [], nonce := none, mka := Vector.replicate 5 {}, mkaNext := none }
    upd := updAfterReset s.upd
    sys := { s.sys with phase := ph, mode := .boot, prevMode := s.sys.mode, modeChanges := 0, bootedSvc := false, defaulted := false,
                        loaded := false, stuck := false, upPs := 0, wakeTime := 0, wakeMask := 0, wakeActive := false } }

/-- A reset of a kind: YIELD where the kind sends it, then the wipe, with the reset counted in the history (R576, R577, R585). -/
def resetEdge (kind : ResetKind) (s : State) : State :=
  let s1 := if kind = .por then s else yieldAll s
  let s2 := wipe kind (.held kind) s1
  { s2 with sys := { s2.sys with
    lastReset := kind, history := countHistory kind.code s2.sys.history, lastResetAt := s.stamp
    wdogTimes := if kind = .wdog then s.stamp :: recentWdog s else s2.sys.wdogTimes } }

/-- A lockout: YIELD, LAST_FAULT, a FAULT reset. How long the monitor of a clock or of a rail goes on to report the fault is
free (R545, R547; log entry 4). -/
def lockout (cls unit : Nat) (detail : Word32) (s : State) : State :=
  let s1 := { s with integ := { s.integ with lastFault := { time := s.stamp, cls, unit, detail } } }
  let s2 := resetEdge .fault s1
  if cls = 8 ∨ cls = 9 then
    let r := s2.draw
    { r.2 with integ := { r.2.integ with monitorUntil := s.now + r.1 } }
  else s2

/-- A lockout and a watchdog expiry on the same edge resolve as the lockout: the WDOG reset of this instant is undone in what
outlasts it (R545, R573). -/
def lockoutOverWdog (cls unit : Nat) (detail : Word32) (s : State) : State :=
  lockout cls unit detail { s with sys := { s.sys with
    mode := s.sys.prevMode, history := s.sys.history.set ResetKind.wdog.code (s.sys.history.getD ResetKind.wdog.code 0 - 1)
    wdogTimes := s.sys.wdogTimes.drop 1 } }

/-- A device that runs, out of reset, takes lockouts (R545, R573). -/
def faultsCount (s : State) : Bool := s.sys.phase = .running

end Sys2Proof.Machine
end

