-- ==== Sys2Proof/Machine/Pair.lean ====
section
/-! DEFINITION. The peer links, the federation and the redundant pair (R489 to R519). -/

namespace Sys2Proof.Machine

/-! ### Class B reception and links (R493 to R496, R501) -/

/-- A peer frame whose CRC or LENGTH is wrong is dropped and counted, on a link that has block lock (R493). -/
def dropPeer (k : Nat) (s : State) : State :=
  let l := s.link k
  if l.state = .down then s else s.setLink k { l with cCrc := inc l.cCrc }

/-- A class B frame arrives: whether it is taken, which needs a sound frame, a link that carries it and the LSEQ expected next.
An ACK is due after a frame that is taken, and after one that was taken before (R493, R494). -/
def takeB (k : Nat) (q : PeerSeq) (hello : Bool) (s : State) : Bool × State :=
  let l := s.link k
  if !q.ok then (false, dropPeer k s)
  else if !(l.state = .joined || (hello && l.state != .down)) then (false, s)
  else if q.lseq = l.rxSeq then (true, s.setLink k { l with rxSeq := (l.rxSeq + 1) % 4294967296, ackDue := true })
  else if seqBefore q.lseq l.rxSeq then (false, s.setLink k { l with ackDue := true })
  else (false, s)

/-- A link is enabled (R495, R501). -/
def linkEnabled (s : State) (k : Nat) : Bool := if k < 3 then s.online && s.pair.fedEnable else s.peersUp && k == 3 && s.pair.pairEnable

/-- The payload of a HELLO (R491). -/
def helloPayload (s : State) : List Byte :=
  be 1 s.position ++ be 1 (bit s.sys.straps.pairRole 0) ++ be 8 s.sec.serial.toNat ++ be 4 s.fwVer ++ be 4 s.catVer
    ++ be 1 s.sys.mode.code ++ be 1 s.pair.state.code

/-- PEER_LINK_TRAINING: an enabled link that detects a signal exchanges HELLOs (R494). -/
def linkTraining (k : Nat) (s : State) : State :=
  if linkEnabled s k && (s.link k).state = .down then
    sendB k 0x01 (helloPayload s) (s.setLink k { s.link k with state := .training, txSeq := 0, rxSeq := 0, unacked := [], helloAt := s.now })
  else s

/-- The federation position at the far end of a federation link (R98, R496). -/
def farPosition (s : State) (k : Nat) : Nat := (s.position + k + 1) % 4

/-- The refusal reason of a HELLO, 0 where it joins (R496, R501). -/
def helloReason (s : State) (k : Nat) (m : HelloMsg) : Nat :=
  if k = 3 then (if m.position = s.position then 0 else 1)
  else if m.position = s.position then 2
  else if m.position ≠ farPosition s k then 1
  else if m.fwVer ≠ s.fwVer ∨ m.catVer ≠ s.catVer then 3
  else 0

/-- A GEN frame for every context forwarded over a link that has joined (R500). -/
def sendGens (k : Nat) (s : State) : State :=
  (s.ingress.ctxs.filterMap fun x => match x.2.forward with
    | some (home, _) => if s.linkTo home = some k then some (x.1, home, x.2.gen) else none
    | none => none).foldl (fun s x => sendGen x.1 x.2.1 x.2.2 s) s

/-- A HELLO on a link in TRAINING joins or refuses it (R494, R496, R501). -/
def helloRx (k : Nat) (m : HelloMsg) (s : State) : State :=
  let r := takeB k { lseq := m.lseq, ok := m.ok } true s
  let s1 := r.2
  if !r.1 then s1
  else
    let l := s1.link k
    let far := { l with farPos := m.position, farSerial := m.serial, farFw := m.fwVer, farCat := m.catVer }
    if l.state ≠ .training then s1.setLink k far
    else
      let r := helloReason s1 k m
      if r ≠ 0 then s1.setLink k { far with state := .refused, reason := r }
      else
        let s2 := s1.setLink k { far with state := .joined, reason := 0, missed := 0, lastHb := some s.now, hbSentAt := s.now }
        let conflict := m.pairRole == s.sys.straps.pairRole
        let s3 : State := if k = 3 then
            { s2 with pair := { s2.pair with
              versionDiffer := m.fwVer != s.fwVer, conflict
              conflictPrimary := if conflict then some (decide (s.sec.serial.toNat < m.serial)) else s2.pair.conflictPrimary
              partnerMode := m.mode, partnerState := m.pairState, hbMissed := false } }
          else sendGens k s2
        notePartner s s3

/-- A command that waits for another device ends with a status (R471). -/
def endWaiting (status : Nat) (data : List Byte) (s : State) : State :=
  match s.host.executing with
  | some e => finishCommand e.cmd true e.mute status 0 data s
  | none => s

/-- A member that was not admitted leaves the list. -/
def dropMember (z : Nat) (r : StreamRef) (s : State) : State :=
  s.modZone z fun x => { x with members := x.members.filter fun m => m.ref ≠ r }

/-- A remote add that waits on a lost link is answered BUSY, and the member is gone (R497). -/
def loseRemoteAdd (k : Nat) (s : State) : State :=
  match s.host.executing with
  | some e => match e.op with
    | .remoteAdd l _ z pos i _ =>
      if l = k then endWaiting stBusy [] (dropMember z { position := pos, isLocal := false, index := i } s)
      else s
    | _ => s
  | none => s

/-- A link leaves for DOWN (R494, R497, R500). -/
def loseLink (k : Nat) (s : State) : State := loseRemoteAdd k (linkDown k s)

/-! ### Acknowledgement (R493) -/

/-- A peer frame has brought news of a stream that another device binds (log entry 12). -/
def remoteNews (s : State) : State := { s with pair := { s.pair with remoteEpoch := s.pair.remoteEpoch + 1 } }

/-- An ACK, which a link carries in TRAINING and once JOINED: frames up to its LSEQ are acknowledged; a remote add that waited for
one of them completes, or is refused where the context there is FREE or taken, which no frame tells (R493, R494, R497; log
entry 12). -/
def ackRx (x : PeerIn) (lseq : Nat) (s : State) : State :=
  let k := x.link
  let l := s.link k
  if !x.ok then dropPeer k s
  else if l.state = .down ∨ l.state = .refused then s
  else
    let left := l.unacked.filter fun f => seqBefore lseq f.1
    let s1 := s.setLink k { l with unacked := left, progressAt := if left.length = l.unacked.length then l.progressAt else s.now }
    match s1.host.executing with
    | some e => match e.op with
      | .remoteAdd j q z pos i data =>
        if j = k ∧ seqBefore lseq q = false then
          let s2 := remoteNews s1
          if Config.remoteTaken pos i s2.pair.remoteEpoch then
            finishCommand e.cmd true e.mute stBadParam 3 [] (dropMember z { position := pos, isLocal := false, index := i } s2)
          else endWaiting stOk data (noteSetting (some (memberKey e.cmd.params)) 0x0405 e.cmd.params s2 s2)
        else s1
      | _ => s1
    | none => s1

/-- PEER_RESEND: 50 µs without progress, on a link that has not been REFUSED (R493, R494). -/
def peerResend (k : Nat) (s : State) : State :=
  let l := s.link k
  if l.unacked.isEmpty || l.state = .down || l.state = .refused || decide (s.now < l.progressAt + 50000000) then s
  else
    l.unacked.foldl (fun s f => sendBlocks k (peerFrame f.2.1 f.1 f.2.2) s)
      (s.setLink k { l with progressAt := s.now, cResends := incBy l.cResends l.unacked.length })

/-- HELLO_REPEAT: a REFUSED link carries a HELLO every 1 ms; no ACK comes there, so it is not kept (R494). -/
def helloRepeat (k : Nat) (s : State) : State :=
  let l := s.link k
  if l.state = .refused && s.peersUp && decide (l.helloAt + 1000000000 ≤ s.now) then
    sendBlocks k (peerFrame 0x01 l.txSeq (helloPayload s)) (s.setLink k { l with helloAt := s.now, txSeq := (l.txSeq + 1) % 4294967296 })
  else s

/-- ACK_SEND: the highest LSEQ received in order, on a link in TRAINING or JOINED (R493, R494). -/
def ackSend (k : Nat) (s : State) : State :=
  let l := s.link k
  if l.ackDue && (l.state = .training || l.state = .joined) then
    (s.setLink k { l with ackDue := false }).emit (.peer k (peerFrame 0x06 0 (be 4 ((l.rxSeq + 4294967295) % 4294967296))))
  else s

/-! ### The federation (R497 to R500) -/

/-- The counts by which the channel values of a RECORD lie: those that the binding device has for the stream where they
fill the payload; otherwise counts that do (log entry 12). -/
def countsFor (octets : Nat) (c : Nat × Nat × Nat) : Nat × Nat × Nat :=
  let p := min 32 ((octets - 8) / 8)
  let a := min 16 ((octets - 8 - 8 * p) / 4)
  if 8 * c.1 + 8 + 4 * c.2.1 + 2 * c.2.2 = octets then c else (p, a, (octets - 8 - 8 * p - 4 * a) / 2)

/-- The frame record of a RECORD frame, its values as the store keeps them, little-endian (R241, R244, R490, R491); its
configuration is not carried (log entry 12). -/
def recordOfBytes (epoch : Nat) (b : List Byte) : FrameRecord :=
  let position := fld b 0 2 / 16384
  let index := fld b 0 2 % 16384
  let counts := countsFor (b.length - 32) ((Config.remoteCounts position index epoch).getD (0, 0, 0))
  { position, index, isLocal := false, gen := fld b 2 1 / 16, fracsecHi := fld b 3 1, stat := fld b 4 2, viaPeer := true
    tag := stampOfBytes (slice b 8 12), arrivalDelay := sfld b 20 4, absent := BitVec.ofNat 64 (fld b 24 8)
    values := turnValues counts (b.drop 32)
    rate := (Config.remoteRate position index epoch).getD 0, timeBase := Config.remoteTimeBase position index epoch
    counts }

/-- A RECORD arrives at the home device's insertion, which takes 20 FCLK (R60, R492, R498). -/
def recordRx (k : Nat) (crcOk : Bool) (b : List Byte) (s : State) : State :=
  let l := s.link k
  if 3 ≤ k ∨ l.state ≠ .joined ∨ !s.peersUp then s
  else if !crcOk || !inRange b.length 32 368 then s.setLink k { l with cCrc := inc l.cCrc }
  else
    let s1 := remoteNews (s.setLink k { l with cRecRx := inc l.cRecRx })
    pushInsert (fclkAt s.now 20) (recordOfBytes s1.pair.remoteEpoch b) s1

/-- A GEN frame updates the home device's copy (R499). -/
def genRx (x : PeerIn) (index gen : Nat) (s : State) : State :=
  let k := x.link
  if !x.ok then dropPeer k s
  else if 3 ≤ k ∨ (s.link k).state ≠ .joined then s
  else
    let r : StreamRef := { position := farPosition s k, isLocal := false, index }
    remoteNews { s with align := { s.align with zones := tabMap (fun _ (z : Zone) =>
      { z with members := z.members.map fun (m : Member) => if m.ref = r then { m with remoteGen := some gen } else m }) s.align.zones } }

/-- GEN_REPEAT: the next copy of a GEN frame, three in all (R499). -/
def genRepeat (index : Nat) (s : State) : State :=
  match s.pair.genRepeats.find? fun x => x.index = index with
  | none => s
  | some x =>
    if s.now < x.nextAt then s
    else
      let next : GenRepeat := { x with sent := x.sent + 1, nextAt := x.nextAt + 1000000 }
      let rest := s.pair.genRepeats.filterMap fun y => if y.index = index then (if 3 ≤ next.sent then none else some next) else some y
      let s1 : State := { s with pair := { s.pair with genRepeats := rest } }
      match s.linkTo x.home with
      | some k => sendA k 0x04 (be 2 index ++ be 1 x.gen ++ be 1 0) s1
      | none => s1

/-- CONTROL: forwarding of a context begins or ends (R498). -/
def controlRx (k : Nat) (q : PeerSeq) (index zone : Nat) (add : Bool) (s : State) : State :=
  if 3 ≤ k then s
  else
    let r := takeB k q false s
    let s1 := r.2
    if !r.1 then s1
    else
      let c := s1.ctx index
      let home := farPosition s k
      if add then
        if c.state = .free ∨ belongs s1 { position := s1.position, isLocal := false, index } then s1 else s1.setCtx index { c with zone := some zone, forward := some (home, zone) }
      else if c.forward = some (home, zone) then s1.setCtx index { c with zone := none, forward := none }
      else s1

/-! ### Pair states (R501 to R503, R509 to R519) -/

/-- The device acts as primary (R501). -/
def State.primary (s : State) : Bool := s.pair.conflictPrimary.getD (!s.sys.straps.pairRole)

/-- The digests differ (R502). -/
def State.mismatch (s : State) : Bool := s.pair.partnerDigest != s.digest

/-- The conditions of the hold timer (R515). -/
def holdOk (s : State) : Bool :=
  s.pair.state = .standby && s.primary && s.pair.revert && s.pair.mirrored && s.time.servo = .locked && !s.mismatch && s.partnerOk

/-- The hold timer runs on, starts or stops (R515). -/
def noteHold (s : State) : State :=
  { s with pair := { s.pair with holdFrom := if holdOk s then some (s.pair.holdFrom.getD s.now) else none } }

/-- The pair state, changed. -/
def setPair (p : PairState) (s : State) : State := { s with pair := { s.pair with state := p } }

/-- A device of a federation that takes over sends TAKEOVER on its JOINED links: the federation links, and PEER_3 (R513, R514). -/
def sendTakeover (s : State) : State :=
  if s.pair.fedEnable then (List.range 4).foldl (fun s k => sendA k 0x05 (be 1 s.position ++ be 3 0) s) s else s

/-- A mirrored alarm state is taken (R507). -/
def mirrorAlarm (n st k seq : Nat) (s : State) : State :=
  match s.ald n with
  | some d => s.setAld n { d with mirrored := some (AlmState.ofCode st, k, seq) }
  | none => s

/-- The alarm states that the partner mirrored between H and B are known (R511, R517). -/
def noteHeldAlarms (s : State) : State :=
  s.pair.heldItems.foldl (fun s m => match m with | .alarm n st k seq => mirrorAlarm n st k seq s | _ => s) s

/-- TAKEOVERS counts a takeover, and the eclipse that it ends is noted (R513, R520, R521). -/
def countTakeover (s : State) : State :=
  { s with pair := { s.pair with
    cTakeovers := inc s.pair.cTakeovers, lastEclipse := min ((s.now - s.pair.eclipseFrom.getD s.now) / 4000) 0xFFFFFFFF } }

/-- The yielding device takes over between H and B: it owns every frame from then on (R511, R513, R518). -/
def resumeAlone (s : State) : State := announceAlarms (owedFrames (noteHeldAlarms (sendTakeover (countTakeover s))))

/-- A PAIR_SWITCHOVER that waits ends with a status (R519). -/
def endSwitchover (status : Nat) (data : List Byte) (s : State) : State :=
  match s.host.executing with
  | some e => if e.op = .switchover then endWaiting status data s else s
  | none => s

/-- A device declares the loss of its partner: the takeover of a STANDBY starts, a yielding device past H takes over at once
(R503, R511, R513, R518). -/
def declareLoss (s : State) : State :=
  match s.pair.state with
  | .standby | .takingBack =>
    endSwitchover stBusy [] { s with
      pair := { s.pair with declared := some (s.pair.declared.getD s.now), handover := none }
      energy := { s.energy with mirrorIn := none } }
  | .handingOver =>
    let s1 : State := { s with pair := { s.pair with state := .activeAlone, handover := none } }
    let s2 := if s.pastEdge s.now then resumeAlone s1 else s1
    { s2 with pair := { s2.pair with heldItems := [] } }
  | .activePaired => setPair .activeAlone s
  | _ => s

/-- One full mirror: every bound context, the energy mirror, every anchor, every alarm state, and its end (R504). -/
def fullMirror (s : State) : State :=
  let s1 := ((s.ingress.ctxs.filter fun x => x.2.state != .free).map (·.1)).foldl (fun s i => mirrorCtx i s) s
  let s2 := (runningZones s1).foldl (fun s z => mirrorAnchor z s) (sendEnergyMirror s1)
  let s3 := s2.detect.alarms.foldl (fun s x =>
    let seq := match x.2.lastTick with | some (_, q, _) => q | none => 0
    mirrorItem 5 (be 2 x.1 ++ be 1 x.2.state.code ++ be 2 x.2.count ++ be 4 seq) s) s2
  mirrorItem 7 [] { s3 with pair := { s3.pair with cFull := inc s3.pair.cFull } }

/-- The first 20 ns grid edge at or after now plus 10 ms: its stamp and its physical time (R516). -/
def handoverEdge (s : State) : Stamp × Ps :=
  let h := cdiv (s.now + 10000000000) 20000 * 20000
  ((s.time.tb + (h / 4000 - s.now / 4000) * tclkInc s.time.y) % tbMod / 65536, h)

/-- A GRANT is sent: the device is HANDING_OVER (R516). Its payload is a code and the edge (log entry 12). -/
def grant (s : State) : State :=
  let h := handoverEdge s
  sendB 3 0x09 (be 1 2 ++ stampBytes h.1) { s with pair := { s.pair with state := .handingOver, handover := some h } }

/-- DUAL_ACTIVE counts once each time that both devices come to be ACTIVE (R512). -/
def noteDual (s : State) : State :=
  if s.pair.dual then s else { s with pair := { s.pair with dual := true, cDual := inc s.pair.cDual } }

/-- What a heartbeat of the partner does to the pair state; one with YIELD tells an ACTIVE device that its partner leaves ACTIVE
(R503, R510 to R512). -/
def pairHeartbeat (before : PairSt) (m : HeartbeatMsg) (s : State) : State :=
  let active := m.mode == Mode.active.code
  let standby := m.mode == Mode.standby.code
  let pastHop := match s.pair.handover with | some (_, h) => decide (h + 1640960 < s.now) | none => true
  match s.pair.state with
  | .standby | .takingBack => if m.yield || !active then declareLoss s else s
  | .handingOver => if m.yield || (!active && pastHop) then declareLoss s else s
  | .listen => if active then changeMode .standby false (setPair .standby s) else s
  | .activeAlone | .activePaired =>
    if active && !m.yield && m.pairState ≠ PairState.handingOver.code then
      let s1 := noteDual s
      if s.primary then setPair .activeAlone s1 else grant s1
    else if standby then
      let s1 := if before.partnerMode = Mode.standby.code then s else fullMirror s
      if m.mirrored then setPair .activePaired s1 else s1
    else if active then s
    else setPair .activeAlone s
  | .unpaired => s

/-- A heartbeat arrives (R509); one that fails its CRC counts as missed (R493, R511). -/
def heartbeatRx (k : Nat) (crcOk : Bool) (m : HeartbeatMsg) (s : State) : State :=
  let l := s.link k
  if l.state ≠ .joined ∨ !s.peersUp then s
  else if !crcOk then s.setLink k { l with cCrc := inc l.cCrc }
  else
    let s1 := s.setLink k { l with lastHb := some s.now, missed := 0 }
    if k ≠ 3 then s1
    else
      let before := s.pair
      let s2 : State := { s1 with pair := { s1.pair with
        hbMissed := false, dual := s.pair.dual && m.mode == Mode.active.code, eclipseFrom := some s.now, partnerMode := m.mode, partnerState := m.pairState, partnerMirrored := m.mirrored
        partnerDigest := BitVec.ofNat 32 m.digest
        marks := m.marks.zipIdx.map fun (x, i) => (i, BitVec.ofNat 32 x.1, x.2) } }
      notePartner s (noteHold (pairHeartbeat before m s2))

/-- HEARTBEAT_MISSED: a heartbeat due on a JOINED link has not come; the third in a row takes the link DOWN (R494, R509, R515). -/
def heartbeatMissed (k : Nat) (s : State) : State :=
  let l := s.link k
  let due := match l.lastHb with | some t => decide (t + (l.missed + 1) * 100000000 ≤ s.now) | none => false
  if l.state ≠ .joined ∨ !due then s
  else
    let s1 := s.setLink k { l with missed := l.missed + 1, cMissed := inc l.cMissed }
    let s2 : State := if k = 3 then { s1 with pair := { s1.pair with hbMissed := true, holdFrom := none } } else s1
    notePartner s (if 3 ≤ l.missed + 1 then loseLink k s2 else s2)

/-- TAKEOVER_COMPLETE: the takeover edge E (R513). -/
def takeoverComplete (s : State) : State :=
  match s.pair.declared with
  | none => s
  | some _ =>
    if !(s.pair.state = .standby || s.pair.state = .takingBack) || !s.peersUp then s
    else
      let s1 := countTakeover (sendTakeover s)
      let s2 : State := { s1 with pair := { s1.pair with state := .activeAlone, declared := none, handover := none, requested := false } }
      announceAlarms (owedFrames (changeMode .active false s2))

/-- A TAKEOVER frame: a STANDBY declares loss; an ACTIVE device that receives it on PEER_3 becomes STANDBY (R511, R514). -/
def takeoverRx (x : PeerIn) (s : State) : State :=
  let k := x.link
  if !x.ok then dropPeer k s
  else if (s.link k).state ≠ .joined then s
  else if k < 3 then (match s.pair.state with | .standby | .takingBack | .handingOver => declareLoss s | _ => s)
  else if s.active && s.pair.state != .unpaired then
    changeMode .standby false { s with pair := { s.pair with state := .standby, handover := none, heldItems := [] } }
  else s

/-- HOLD_TIMER_EXPIRY: the primary asks for the handover (R515). -/
def holdExpiry (s : State) : State :=
  match s.pair.holdFrom with
  | some t =>
    if holdOk s && !s.pair.requested && decide (t + s.pair.holdTime * 1000000000000 ≤ s.now) then
      sendB 3 0x09 (be 1 1) { s with pair := { s.pair with requested := true } }
    else s
  | none => s

/-- The partner is in a handover, as between H and B (R516, R519). -/
def State.partnerHandsOver (s : State) : Bool := s.pair.partnerState == PairState.handingOver.code

/-- A REQUEST is answered by a GRANT or a REFUSE (R516). -/
def requestRx (q : PeerSeq) (s : State) : State :=
  let r := takeB 3 q false s
  let s1 := r.2
  let refuse (reason : Nat) : State :=
    sendB 3 0x09 (be 1 3 ++ be 1 reason) { s1 with pair := { s1.pair with cRefused := inc s1.pair.cRefused } }
  if !r.1 then s1
  else match s1.pair.state with
    | .activePaired => if s1.partnerHandsOver then refuse 1 else if s1.mismatch then refuse 2 else grant s1
    | .handingOver | .takingBack => refuse 1
    | _ => refuse 3

/-- A GRANT moves the STANDBY to TAKING_BACK (R503); a PAIR_SWITCHOVER that waited for it completes (R519). -/
def grantRx (q : PeerSeq) (edge : Stamp) (s : State) : State :=
  let r := takeB 3 q false s
  let s1 := r.2
  if !r.1 ∨ s1.pair.state ≠ .standby ∨ s1.pair.declared.isSome then s1
  else
    let at_ := s.now + unitsToPs (stampDiff edge s.stamp).toNat
    endSwitchover stOk (stampBytes edge) { s1 with pair := { s1.pair with state := .takingBack, handover := some (edge, at_) } }

/-- A REFUSE restarts the hold timer (R516). -/
def refuseRx (q : PeerSeq) (s : State) : State :=
  let r := takeB 3 q false s
  if !r.1 then r.2
  else endSwitchover stBusy [] (noteHold { r.2 with pair := { r.2.pair with requested := false, holdFrom := none } })

/-- HANDOVER_EDGE: at H the returning device becomes ACTIVE (R503, R517). -/
def handoverEdgeAct (s : State) : State :=
  match s.pair.state, s.pair.handover with
  | .takingBack, some (h, _) =>
    if stampGe s.stamp h && s.peersUp then
      let n : Nat := if s.pair.requested then inc s.pair.cTakebacks else s.pair.cTakebacks
      let s1 : State := { s with pair := { s.pair with state := .activePaired, requested := false, cTakebacks := n } }
      dropMirrored (changeMode .active false s1)
    else s
  | _, _ => s

/-- A queued frame that the yielding device owns: of a session or of an alarm. -/
def ownedFrame (f : TxFrame) : Bool :=
  match f.kind with
  | .session _ _ _ _ | .config _ _ | .segment _ _ _ _ | .alarm _ _ => true
  | _ => false

/-- No owned frame is queued, in transmission or to be formed (R517). -/
def txDrained (s : State) : Bool :=
  s.egress.waits.isEmpty && s.egress.requests.isEmpty && s.egress.forming.isNone && s.egress.ports.toList.all fun p =>
    !((p.expAlarm ++ p.expLaunch ++ p.expNow ++ p.preLaunch ++ p.preNow).any ownedFrame) && p.expRun.isNone && p.preRun.isNone

/-! ### Mirror items (R504 to R507) -/

/-- A context as the mirror gives it: key, STATE, configuration, GEN, REBIND_AT and QUARANTINE; the rest is the device's own (R504). -/
def ctxOfMirror (b : List Byte) (old : Ctx) : Ctx :=
  let cfg : StreamCfg := {
    numPhasors := fld b 26 1, numAnalog := fld b 27 1, numDigital := fld b 28 1, fnom50 := (fld b 29 1).testBit 0, format := fld b 30 2
    dataRate := fld b 32 2, timeBase := fld b 34 3, cfgCnt := fld b 38 2, expectedSize := fld b 64 2, phasorType := BitVec.ofNat 32 (fld b 68 4)
    phasorScale := (fields 3 (fld b 26 1) (b.drop 104)).map fun x => fld x 0 3
    analogScale := (fields 3 (fld b 27 1) (b.drop 200)).map fun x => fld x 0 3
    content := b.drop 261 }
  { old with
    state := ctxStateOf (fld b 7 1)
    key := { tcp := (fld b 6 1).testBit 1, ipv6 := (fld b 6 1).testBit 0, idcode := fld b 0 2, srcIp := fld b 8 16, srcPort := fld b 2 2 }
    dstPort := fld b 4 2, srcCtrl := (fld b 6 1).testBit 2, wantCfg3 := (fld b 6 1).testBit 3
    quarantine := (fld b 6 1).testBit 4, gen := BitVec.ofNat 4 (fld b 24 1), rejectReason := fld b 37 1
    rebindAt := stampOfBytes (slice b 52 12), tcpCommand := (fld b 256 1).testBit 0, egressPort := fld b 257 1
    lastTimeBase := if (fld b 256 1).testBit 1 then some (fld b 258 3) else none
    cfg := if fld b 64 2 = 0 then none else some cfg }

/-- MIRROR_ITEMS_APPLIED counts an item (R521). -/
def countItem (s : State) : State := { s with pair := { s.pair with cItems := inc s.pair.cItems } }

/-- A mirrored removal frees the context here as STREAM_REMOVE did there, with its memberships, its forwarding and its settings
(R193, R498, R502, R505). -/
def mirrorRemoval (i : Nat) (gen : BitVec 4) (s : State) : State :=
  if (s.ctx i).state = .free then s.setCtx i { s.ctx i with gen }
  else noteSetting none 0x0302 [] s (streamRemove i (s.setCtx i { s.ctx i with gen := gen - 1 }))

/-- A mirrored context that stays bound; a new GEN of a forwarded one goes to its home device (R499, R504, R505). -/
def mirrorContext (i : Nat) (c : Ctx) (s : State) : State :=
  let s0 := s.setCtx i c
  refreshSessions (match c.forward with
    | some (home, _) => if c.gen = (s.ctx i).gen then s0 else sendGen i home c.gen s0
    | none => s0)

/-- One mirror item is applied; the energy item waits for the next tap boundary, and MIRRORED with it (R504 to R507, R521). -/
def applyItem (m : MirrorItem) (s : State) : State :=
  match m with
  | .context i b =>
    let c := ctxOfMirror b (s.ctx i)
    countItem (if c.state = .free then mirrorRemoval i c.gen s else mirrorContext i c s)
  | .energy b => { s with energy := { s.energy with mirrorIn := some b } }
  | .revision z seq rev =>
    countItem { s with pair := { s.pair with revMirror := (z, seq, rev) :: s.pair.revMirror.filter fun x => x.1 ≠ z ∨ x.2.1 ≠ seq } }
  | .anchor z t seq =>
    countItem ({ s with pair := { s.pair with revMirror := s.pair.revMirror.filter fun x => x.1 ≠ z } }.modZone z fun x => { x with anchor := some (t, seq) })
  | .alarm n st k seq => countItem (updatePins (mirrorAlarm n st k seq s))
  | .journal e => countItem { s with pair := { s.pair with partnerJournal := (e :: s.pair.partnerJournal).take 256 } }
  | .fullDone =>
    if s.energy.mirrorIn.isSome then { s with pair := { s.pair with fullDue := true } }
    else noteHold { s with pair := { s.pair with mirrored := true } }

/-- The energy item is applied at the tap boundary; a full mirror that waited for it is then applied (R312, R504, R521). -/
def energyItem (s : State) : State :=
  match s.energy.mirrorIn with
  | none => s
  | some b =>
    if energyRun s = .follow then
      let s1 := countItem (applyMirror b s)
      if s1.pair.fullDue then noteHold { s1 with pair := { s1.pair with fullDue := false, mirrored := true } } else s1
    else s

/-- MIRROR: the STANDBY applies the item whole, but not after it has declared the loss of its partner; the yielding device keeps
it until B (R504, R513, R517). -/
def mirrorRx (q : PeerSeq) (m : MirrorItem) (s : State) : State :=
  let r := takeB 3 q false s
  let s1 := r.2
  if !r.1 then s1
  else if s1.pair.state = .handingOver then { s1 with pair := { s1.pair with heldItems := s1.pair.heldItems ++ [m] } }
  else if s1.sys.mode ≠ .standby ∨ s1.pair.declared.isSome then s1
  else applyItem m s1

/-- HANDOVER_BREAK: the yielding device becomes STANDBY, and applies the items that its partner has mirrored since H (R503,
R517). -/
def handoverBreak (s : State) : State :=
  match s.pair.state, s.pair.handover with
  | .handingOver, some (_, h) =>
    if decide (h ≤ s.now) && (txDrained s || decide (h + 3100000000000 ≤ s.now)) then
      s.pair.heldItems.foldl (fun s m => applyItem m s)
        (changeMode .standby true { s with pair := { s.pair with state := .standby, handover := none, heldItems := [] } })
    else s
  | _, _ => s

end Sys2Proof.Machine
end

