-- ==== Sys2Proof/Machine/TimeCmd.lean ====
section
/-! DEFINITION. The commands of the time group: what those that set values do at their grid edge, and those that read
(R159 to R161). -/

namespace Sys2Proof.Machine

def cmdTimeGetStatus : Cmd :=
  { opcode := 0x0201, modes := anyMode, lenOk := lenIs 0, checks := noChecks, journaled := jNever, key := noKey
    run := fun s _ _ =>
      .ok (be 4 s.tsStatus.toNat ++ stampBytes s.stamp ++ be 4 s.time.errNs ++ be 4 (readReg 0x40014 s).toNat
        ++ be 4 (readReg 0x40018 s).toNat ++ be 4 s.time.unlockedSec) s }

/-- Inaccuracy and growth of source code `i` + 1 in TIME_SET_SOURCES (R159). -/
def srcOf (p : List Byte) (i : Nat) (x : SourceSt) : SourceSt := { x with inaccNs := fld p (4 + 8 * i) 4, growth := fld p (8 + 8 * i) 4 }

/-- TIME_SET_SOURCES' effect (R123). -/
def timeSources (p : List Byte) (s : State) : State :=
  let t := s.time
  reselect { s with time := { t with
    priority := (List.range 4).map fun i => fld p i 1
    ptp := srcOf p 0 t.ptp, pps := srcOf p 1 t.pps, irig := srcOf p 2 t.irig, ref10 := srcOf p 3 t.ref10
    irigFormat := fld p 36 1, irigOffsetMin := sfld p 37 2 } }

/-- TIME_SET_SERVO's effect (R133, R134, R136, R140, R142, R147). -/
def timeServo (p : List Byte) (s : State) : State :=
  { s with time := { s.time with
    kp := fld p 0 4, ki := fld p 4 4, stepThreshold := fld p 8 4, lockThreshold := fld p 12 4, unlockThreshold := fld p 16 4
    dHold := fld p 20 4, dReserve := fld p 24 4, syncLimit := fld p 28 4 } }

/-- TIME_SET_PORT's effect (R128, R131, R157). -/
def timePortSet (p : List Byte) (s : State) : State :=
  let k := fld p 0 1
  let on : Bool := fld p 1 1 = 1
  let x := s.timePort k
  let y : TimePort := { x with ptpEnable := on, ingressLat := sfld p 2 4, egressLat := sfld p 6 4, asymmetry := sfld p 10 4, dropLate := fld p 14 1 = 1 }
  let y : TimePort := if on then y else { y with announce := none, waiting := none, prevSync := none, delays := [] }
  reselect (setRoles (s.setTimePort k y))

/-- TIME_SET_PTP's effect (R127). -/
def timePtp (p : List Byte) (s : State) : State :=
  { s with time := { s.time with ptpProfile := fld p 0 1 = 1, ptpDomain := fld p 1 1, ptpVlan := fld p 2 2, ptpPriority := fld p 4 1 } }

/-- TIME_SET's effect: the time base holds the value given from the grid edge on (R137, R160). -/
def timeSet (p : List Byte) (s : State) : State :=
  stepTo ((fld p 0 6 * unitsPerSec + fld p 6 4 * 65536) * 65536) { s with time := { s.time with err := fld p 10 4 } }

/-- TIME_SET_UTC's effect when it was accepted while PTP was not selected (R118, R160, R610). -/
def timeUtc (p : List Byte) (s : State) : State := setUtc (sfld p 0 2) ((fld p 2 1).testBit 0) ((fld p 2 1).testBit 1) s

/-- EVT_CONFIG's effect (R148, R150, R152). -/
def evtConfig (p : List Byte) (s : State) : CmdOut :=
  let dest := fld p 4 1
  if dest ≠ 255 && !queueFree .eventCapture dest s then .err stNoResource
  else
    let s1 := bindQueue .eventCapture (if dest = 255 then none else some dest) s
    .ok [] { s1 with time := { s1.time with evtEdges := BitVec.ofNat 32 (fld p 0 4), evtDest := dest, ppsDelay := sfld p 5 4 } }

/-- PPS_OUT_CONFIG's effect: an instant moved later in the same second still comes (R153, R154). -/
def ppsOutConfig (p : List Byte) (s : State) : State :=
  { s with time := { s.time with
    ppsOutOffset := sfld p 0 4, ppsOutWidth := fld p 4 4, ppsOutGate := fld p 8 1
    ppsOutSec := if s.time.ppsOutOffset = sfld p 0 4 then s.time.ppsOutSec else none } }

/-- EVT_READ takes records away and so is journaled when it returns any (R484). -/
def cmdEvtRead : Cmd :=
  { opcode := 0x0209, modes := anyMode, lenOk := lenIs 1, checks := fun _ p => [(inRange (fld p 0 1) 1 32, 0)]
    journaled := fun _ data => decide (1 < data.length), key := noKey
    run := fun s _ p =>
      let out := s.time.evtFifo.take (fld p 0 1)
      .ok (be 1 out.length ++ out.flatMap evtBytes) { s with time := { s.time with evtFifo := s.time.evtFifo.drop (fld p 0 1) } } }

/-- The counters of R161 in order. -/
def timeCounters (t : TimeSt) : List Cnt :=
  [t.cSteps, t.cLosses, t.cSwitches, t.cTwilight, t.cPpsRejected, t.cIrigErrors, t.cSyncDiscarded, t.cEvtOverflow]
    ++ t.cLateSent.toList ++ t.cLateDropped.toList ++ t.cDroppedFar.toList

def cmdTimeGetCounters : Cmd :=
  { opcode := 0x020B, modes := anyMode, lenOk := lenIs 0, checks := noChecks, journaled := jNever, key := noKey
    run := fun s _ _ => .ok (cntBytes (timeCounters s.time)) s }

end Sys2Proof.Machine
end

