-- ==== Sys2Proof/Machine/Grid.lean ====
section
/-! DEFINITION. What takes effect at an instant of its own: the commands whose values apply at the next grid edge, what an
instant settles when the time leaves it, and the passage of time through both (R33, R34, R44, R123, R136, R148, R159). -/

namespace Sys2Proof.Machine

/-! ### Commands that apply at the next 20 ns grid edge (R137, R159, R177, R191, R193, R211) -/

/-- What such a command does at its grid edge, whose stamp is `edge`, and its reply. -/
def gridOut (opcode : Nat) (edge : Stamp) (p : List Byte) (s : State) : CmdOut :=
  match opcode with
  | 0x0202 => .ok [] (timeSources p s)
  | 0x0203 => .ok [] (timeServo p s)
  | 0x0204 => .ok [] (timePortSet p s)
  | 0x0205 => .ok [] (timePtp p s)
  | 0x0206 => .ok [] (timeSet p s)
  | 0x0207 => .ok [] (timeUtc p s)
  | 0x0208 => evtConfig p s
  | 0x020A => .ok [] (ppsOutConfig p s)
  | 0x0301 => streamAdd p s
  | 0x0302 => .ok (be 1 ((s.ctx (fld p 0 2)).gen + 1).toNat) (streamRemove (fld p 0 2) s)
  | 0x0303 => streamRebindOut edge p s
  | 0x0404 => zoneStop s p
  | _ => .ok [] s

/-- Something whose instant has come takes effect. The settings record of a command was made when it was accepted. -/
def Later.act (a : Later) (s : State) : State :=
  match a with
  | .command op p =>
    match gridOut op s.stamp p s with
    | .ok _ t => { t with host := { t.host with settings := s.host.settings } }
    | _ => s
  | .servoStep theta => Sys2Proof.Machine.servoStep theta s
  | .reselect => Sys2Proof.Machine.reselect s
  | .context i gen u => ctxUpdate i gen u s
  | .capture => s
  | .forward home zone f => sendRecord home zone f s
  | .alarmReady p => Sys2Proof.Machine.alarmReady p s

/-- The state as it will be once the commands that wait for a grid edge have taken effect: a command accepted before that
edge is judged by it (log entry 1). -/
def State.flushed (s : State) : State :=
  (s.later.filter fun x => match x.2 with | .command _ _ => true | _ => false).foldl (fun s x => x.2.act s)
    { s with later := s.later.filter fun x => match x.2 with | .command _ _ => false | _ => true }

/-- The stamp of the next grid edge. -/
def State.nextGridStamp (s : State) : Stamp := s.tbMoved ((s.nextGrid / 4000 : Nat) - (s.now / 4000 : Nat)) / 65536

/-- A command is accepted and applies at the next grid edge: its reply and its settings record are made now. -/
def atGrid (opcode : Nat) (s : State) (p : List Byte) : CmdOut :=
  match gridOut opcode s.nextGridStamp p s.flushed with
  | .ok data t => .ok data { s.at s.nextGrid (.command opcode p) with host := { s.host with settings := t.host.settings } }
  | o => o

/-! ### What an instant settles, and the passage of time -/

/-- Records whose insertion is complete at this instant are inserted, oldest first (R34). -/
def insertDue : Nat → State → State
  | 0, s => s
  | n + 1, s => insertDue n (insertNext s)

/-- Before the time leaves an instant: insertions that complete on it, event records, and the shared units, which take
what the whole instant has brought in its order: formatter, assembler, revision area; and the hold timer, whose conditions
hold from here on or do not (R34, R44, R45, R150, R234, R393, R515). -/
def settle (s : State) : State := noteHold <| sweepZones <| revTake (revStart (asmTake (formatterTake (eventsForm (insertDue s.ingress.toInsert.length s)))))

/-- The first of what waits for its instant takes effect. -/
def actNext (s : State) : State :=
  match s.later with
  | x :: rest => x.2.act { s with later := rest }
  | [] => s

/-- The time leaves an instant, which settles, for `t`; at `t` itself nothing is left. -/
def leave (t : Ps) (s : State) : State := if t ≤ s.now then s else (settle s).pass (t - s.now)

/-- The time runs to `t`, through the instants at which something takes effect, at most `n` of them. -/
def runLater : Nat → Ps → State → State
  | 0, t, s => leave t s
  | n + 1, t, s =>
    match s.later with
    | [] => leave t s
    | x :: _ =>
      if x.1 ≤ s.now then runLater n t (actNext s)
      else if x.1 ≤ t then runLater n t (actNext (leave x.1 s))
      else leave t s

/-- The time passes on by `dt`. Every meaning begins with it (log entry 1). -/
def State.elapse (s : State) (dt : Ps) : State := if dt = 0 then s else runLater (2 * s.later.length + 8) (s.now + dt) s

end Sys2Proof.Machine
end

