-- ==== Sys2Proof/Machine/GridCmd.lean ====
section
/-! DEFINITION. The commands whose values apply at the next 20 ns grid edge (R159, R160, R177, R191, R193, R202, R211). -/

namespace Sys2Proof.Machine

/-- A command that applies at the next grid edge. -/
def gridCmd (opcode : Nat) (modes : Mode → Bool) (lenOk : List Byte → Bool) (checks : State → List Byte → List (Bool × Nat))
    (key : List Byte → Option (Nat × List Nat)) : Cmd :=
  { opcode, modes, lenOk, checks := fun s p => checks s.flushed p, journaled := jAlways, key, run := fun s _ p => atGrid opcode s p }

/-- TIME_SET_SOURCES (R123, R159). -/
def cmdTimeSetSources : Cmd := gridCmd 0x0202 anyMode (lenIs 39)
  (fun _ p => ((List.range 4).map fun i => (inRange (fld p i 1) 0 4, i)) ++ [(fld p 36 1 == 2 || fld p 36 1 == 6, 36)]) (keyOne 0x0202)

/-- TIME_SET_SERVO (R133, R159). -/
def cmdTimeSetServo : Cmd := gridCmd 0x0203 anyMode (lenIs 32)
  (fun _ p =>
    [(inRange (fld p 0 4) 0 262144, 0), (inRange (fld p 4 4) 0 262144, 4), (fld p 8 4 == 0 || inRange (fld p 8 4) 1000 1000000000, 8),
     (inRange (fld p 12 4) 10 1000000, 12), (inRange (fld p 16 4) 100 1000000000, 16), (inRange (fld p 20 4) 0 25600000, 20),
     (inRange (fld p 24 4) 0 25600000, 24), (inRange (fld p 28 4) 100 1000000000, 28)]) (keyOne 0x0203)

/-- TIME_SET_PORT (R131, R159). -/
def cmdTimeSetPort : Cmd := gridCmd 0x0204 anyMode (lenIs 15)
  (fun _ p => [(inRange (fld p 0 1) 0 3, 0), (inRange (fld p 1 1) 0 1, 1), (inRange (fld p 14 1) 0 1, 14)]) (keyByte 0x0204)

/-- TIME_SET_PTP (R127, R159). No rule states a range for the VLAN ID and the priority; the model refuses a VLAN ID above
4,094 and a priority above 7, which no IEEE 802.1Q tag holds (DESIGN CHOICE, log entry 16). -/
def cmdTimeSetPtp : Cmd := gridCmd 0x0205 anyMode (lenIs 5)
  (fun _ p => [(inRange (fld p 0 1) 0 1, 0), (inRange (fld p 2 2) 0 4094, 2), (inRange (fld p 4 1) 0 7, 4)]) (keyOne 0x0205)

/-- TIME_SET (R160). -/
def cmdTimeSet : Cmd := gridCmd 0x0206 anyMode (lenIs 14) (fun _ p => [(inRange (fld p 6 4) 0 999999999, 6)]) noKey

/-- TIME_SET_UTC: accepted with no effect while PTP is the selected source (R160). The rule names bits 0 and 1 of the flags;
the model refuses a byte with another bit set (DESIGN CHOICE, log entry 16). -/
def cmdTimeSetUtc : Cmd :=
  { gridCmd 0x0207 anyMode (lenIs 3) (fun _ p => [(inRange (fld p 2 1) 0 3, 2)]) noKey with
    run := fun s _ p => if s.time.source = some .ptp then .ok [] s else atGrid 0x0207 s p }

/-- EVT_CONFIG (R148, R150, R159). -/
def cmdEvtConfig : Cmd := gridCmd 0x0208 anyMode (lenIs 9) (fun _ p => [(fld p 4 1 == 0xFF || inRange (fld p 4 1) 0 31, 4)]) (keyOne 0x0208)

/-- PPS_OUT_CONFIG (R153, R159). -/
def cmdPpsOutConfig : Cmd := gridCmd 0x020A anyMode (lenIs 9)
  (fun _ p => [(inRangeI (sfld p 0 4) (-500000000) 500000000, 0), (inRange (fld p 4 4) 1 500000, 4), (inRange (fld p 8 1) 0 15, 8)]) (keyOne 0x020A)

/-- STREAM_ADD (R177, R202). -/
def cmdStreamAdd : Cmd := gridCmd 0x0301 notStandby (lenIs 28)
  (fun s p =>
    [(inRange (fld p 0 2) 0 16383, 0), ((s.ctx (fld p 0 2)).state == .free, 0), (inRange (fld p 2 1) 0 1, 2), (fld p 3 1 == 4 || fld p 3 1 == 6, 3),
     (ipFieldOk (fld p 3 1 == 6) (slice p 4 16), 4), ((lookupKey s (addKey p)).isNone, 4), (inRange (fld p 26 1) 0 3, 26), (inRange (fld p 27 1) 0 7, 27)])
  (keyWord 0x0301)

/-- STREAM_REMOVE (R193, R202). -/
def cmdStreamRemove : Cmd := gridCmd 0x0302 notStandby (lenIs 2) ctxThere noKey

/-- STREAM_REBIND (R191, R202). -/
def cmdStreamRebind : Cmd := gridCmd 0x0303 notStandby (lenIs 22)
  (fun s p => ctxThere s p ++
    [(ipFieldOk (s.ctx (fld p 0 2)).key.ipv6 (slice p 2 16), 2),
     ((match lookupKey s (rebindKey s p) with | some j => j == fld p 0 2 | none => true), 2)])
  (keyWord 0x0303)

/-- ZONE_STOP (R209, R211, R245). -/
def cmdZoneStop : Cmd := gridCmd 0x0404 anyMode (lenIs 1) zoneThere noKey

end Sys2Proof.Machine
end

