-- ==== Sys2Proof/Machine/Elapse.lean ====
section
/-! DEFINITION. The meaning of a command row: the time since the row before it passes, then the command executes. -/

namespace Sys2Proof.Machine

/-- The outcome that `exec` answers for a command row. -/
def command (d : Cmd) (dt : Ps) (q : Packet) (s : State) : Host.Outcome State Fault Refusal :=
  .next (runCommand d q (s.elapse dt))

end Sys2Proof.Machine
end

