-- ==== Sys2Proof/Machine/Integ.lean ====
section
/-! DEFINITION. Fault coverage: the check code, scrub and patrol, what an uncorrectable error does, lockstep, clock,
supply, temperature and pin monitors, SAFE (R522 to R547). -/

namespace Sys2Proof.Machine

/-! ### The integrity log and the engines (R533, R534, R548) -/

/-- The engine goes OFFLINE; when all 12 are, the device takes a lockout (R534). -/
def engineOffline (e : Nat) (s : State) : State :=
  let s1 := s.setEngine e { s.engine e with state := .offline }
  if s1.kernel.engines.all fun x => x.state = .offline then lockout 4 e 0 s1 else s1

/-- The item that an engine runs is aborted and kept for its retry; a discarded one is freed (R371, R533). -/
def abortItem (e : Nat) (s : State) : State :=
  match (s.engine e).state, (s.engine e).entry with
  | .running, some (n, _) =>
    let s1 := engineIdle e .waiting s
    match tabGet? n s1.kernel.rob with
    | none => s1
    | some r =>
      if r.discard then discardEntry n s1
      else { s1 with kernel := { s1.kernel with rob := tabSet n { r with state := .aborted, notOn := some e } s1.kernel.rob } }
  | _, _ => s

/-- An engine aborts: its self-test begins, or at the third abort within 3,600 s it goes OFFLINE (R533, R534). -/
def engineAbort (e : Nat) (s : State) : State :=
  let x := s.engine e
  if x.state = .offline ∨ x.state = .selftest then s
  else
    let s1 := abortItem e s
    let recent := s.now :: x.aborts.filter fun t => decide (s.now < t + 3600000000000000)
    let s2 := s1.setEngine e { s1.engine e with state := .selftest, aborts := recent, selftestEnd := s.now + 200000000 }
    let s3 : State := { s2 with integ := { s2.integ with cAborts := inc s2.integ.cAborts } }
    if 3 ≤ recent.length then engineOffline e s3 else s3

/-- The log entries that `p` picks are of a fault of the item that an engine runs: whether its retry posts in time decides
whether they are masked (R533). -/
def awaitRetry (p : LogEntry → Bool) (e : Nat) (s : State) : State :=
  match (s.engine e).entry with
  | some (n, _) => { s with integ := { s.integ with log := s.integ.log.map fun x => if p x then { x with retry := some n } else x } }
  | none => s

/-- A lockstep mismatch of an engine: detected, unless the retry of its item posts in time (R533). -/
def lockstepMismatch (e : Nat) (s : State) : State :=
  engineAbort e (awaitRetry (fun x => x.cls = 4 && x.unit = e && x.time = s.stamp) e (addLog 4 e 1 0 0 s))

/-- ENGINE_SELFTEST_DONE: 200 µs of self-test end (R534). -/
def selftestDone (e : Nat) (pass : Bool) (s : State) : State :=
  let x := s.engine e
  if x.state ≠ .selftest ∨ s.now < x.selftestEnd then s
  else if pass then s.setEngine e { x with state := .waiting }
  else engineOffline e { s with integ := { s.integ with cSelftest := inc s.integ.cSelftest } }

/-! ### What an uncorrectable error does (R526, R527)

The manual names the classes and not the places of their words.  The model's `item` and `addr` are those of log entry 20. -/

/-- A word of a slot cannot be read: a header word makes the slot ABSENT, a value word its channel absent (R241, R526). -/
def slotWordBad (w : Nat) (y : Slot) : Slot :=
  if w < 8 then { y with state := .absent, record := none, triggerLast := false }
  else
    let r1 := y.layout.getD (0, 0, 0)
    let np := r1.1
    let na := r1.2.1
    let v := w - 8
    let mask : Nat :=
      if v < 2 * np then 2 ^ (v / 2)
      else if v = 2 * np then 2 ^ 52
      else if v = 2 * np + 1 then 2 ^ 53
      else if v < 2 * np + 2 + na then 2 ^ (32 + (v - 2 * np - 2))
      else 3 * 2 ^ (48 + 2 * (v - 2 * np - 2 - na))
    { y with record := y.record.map fun f => { f with absent := f.absent ||| BitVec.ofNat 64 mask } }

/-- A word of a constellation cannot be read; a word of the header makes every slot ABSENT (R242, R526). -/
def sealedWordBad (addr : Nat) (c : Sealed) : Sealed :=
  let words := slotSize c.slotClass / 4
  if addr < 16 then { c with slots := c.slots.map (slotWordBad 0) }
  else { c with slots := c.slots.zipIdx.map fun (y, i) => if (addr - 16) / words = i then slotWordBad ((addr - 16) % words) y else y }

/-- Class CONST: the newest constellation of a zone that lies in constellation SRAM. -/
def constBad (z addr : Nat) (s : State) : State :=
  match heldArea s z with
  | none => s
  | some a => modArea z a.tick (fun a => { a with
      constBad := true
      sealed_ := match a.sealed_ with | c :: t => sealedWordBad addr c :: t | [] => [] }) s

/-- Class INDEX: the eight slot states of a word are sealed ABSENT (R227, R526). -/
def indexBad (z addr : Nat) (s : State) : State :=
  let x := s.zone z
  let n := max 1 (memberCount x)
  let hit (a : Area) : List StreamRef :=
    ((areaRefs x a.tick (some a)).zipIdx.filter fun (_, i) => (a.tick % ringSize x * n + i) / 8 = addr).map fun (r, _) => r
  s.modZone z fun x => { x with areas := x.areas.map fun (a : Area) => { a with indexBad := a.indexBad ++ hit a } }

/-- The evaluations that wait take their tables without an entry. -/
def changeInputs (f : CohInput → CohInput) (d : DetectSt) : DetectSt :=
  { d with cohInputs := d.cohInputs.map fun x => (x.1, x.2.1, f x.2.2) }

/-- Class TABLES under CONTINUE: the entry is disabled until it is written again (R526, R546). -/
def tableBad (kind n : Nat) (s : State) : State :=
  let d := s.detect
  match kind with
  | 0 =>
    let without (i : CohInput) : CohInput := { i with vertices := i.vertices.map fun v => if v.1 = n then (n, none) else v }
    { s with detect := changeInputs without { d with vertices := tabErase n d.vertices } }
  | 1 =>
    let without (i : CohInput) : CohInput := { i with edges := ((tabGet? n d.edges).map i.edges.erase).getD i.edges }
    { s with detect := changeInputs without { d with edges := tabErase n d.edges } }
  | 2 => { s with detect := { d with signals := tabErase n d.signals } }
  | 3 => { s with detect := { d with thresholds := tabErase n d.thresholds } }
  | 4 => updatePins { s with detect := { d with alarms := d.alarms.map fun (x : Nat × AlmDef) =>
      if x.1 = n then (n, { x.2 with state := .disabled, count := 0, testEnd := none, held := [], event := none, nextRepeat := [] }) else x } }
  | 5 => { s with kernel := { s.kernel with flows := tabMod {} n (fun (f : Flow) => { f with enable := false }) s.kernel.flows } }
  | 6 => stopChains (fun i => i = n) s
  | _ => oscReset (fun g => g.zone = n) s

/-- Class SCHED: an item leaves the scheduler, from its queue or, with the number of its entry from 65,536 on, from the
reorder buffer, and its tick is ANALYSIS_INCOMPLETE (R40, R526; log entry 20). -/
def schedBad (n : Nat) (s : State) : State :=
  match (if n < 65536 then s.kernel.queue[n]? else (tabGet? (n - 65536) s.kernel.rob).map (·.item)) with
  | none => s
  | some i => markIncomplete i.zone i.tick (dropItems (fun j => j == i) s)

/-- The frame that the formatter forms is dropped (R394, R526). -/
def formBad (s : State) : State :=
  match s.egress.forming with
  | none => s
  | some (r, _) => formEnd r (s.modSess r.session fun x => { x with cBufDrops := inc x.cBufDrops })

/-- Class TXBUF: a frame is dropped whole: one that waits, one in transmission, or the one that the formatter forms (R394,
R526; log entry 20). -/
def txBad (p n : Nat) (s : State) : State :=
  if p = 4 then formBad s
  else
    let x := s.tx p
    if n = 65536 then
      match x.expRun with
      | some r => countBufDrop r.frame.kind (s.setTx p { x with expRun := none })
      | none => s
    else if n = 65537 then
      match x.preRun with
      | some r => countBufDrop r.frame.kind (s.setTx p { x with preRun := none })
      | none => s
    else match x.queued[n]? with
      | none => s
      | some f =>
        countBufDrop f.kind (s.setTx p { x with
          expAlarm := x.expAlarm.erase f, expLaunch := x.expLaunch.erase f, expNow := x.expNow.erase f
          preLaunch := x.preLaunch.erase f, preNow := x.preNow.erase f })

/-- Class RQ: a stored line is discarded, or the line in the packing register, number 128, whose LINE_SEQ shows as a gap (R444,
R526; log entry 20). -/
def rqBad (q n : Nat) (s : State) : State :=
  let x := s.rq q
  if n < 128 then s.setRq q { x with lines := x.lines.eraseIdx n }
  else if x.pack.isSome then s.setRq q { x with pack := none, lineSeq := x.lineSeq + 1 } else s

/-- Class DMABUF: the list of a channel ends with code 4 (R428, R526). -/
def dmaBad (c : Nat) (s : State) : State :=
  s.setCh c { s.ch c with run := (s.ch c).run.map fun (r : DmaRun) => { r with ending := some (r.ending.getD 4) } }

/-- A log entry is of an uncorrectable word of an engine's memory. -/
def faultOf (cls e : Nat) (x : LogEntry) : Bool := x.cls == 2 && x.unit == cls && x.address / 4294967296 == e

/-- The outcome of an uncorrectable word of an SRAM class (R526). -/
def sramBad (cls item addr syndrome : Nat) (s : State) : State :=
  match cls with
  | 0 =>
    let c := s.ctx item
    if c.state = .free then s else if addr < 6 then streamRemove item s else streamRebind s.stamp item c.key s
  | 1 => constBad item addr s
  | 2 => indexBad item addr s
  | 3 => if s.integ.tableContinue then tableBad (item / 65536) (item % 65536) s else lockout 2 3 (BitVec.ofNat 32 addr) s
  | 4 =>
    let e := item % 12
    if (s.engine e).state = .offline then s else engineOffline e (abortItem e (awaitRetry (fun x => faultOf 4 e x && x.time = s.stamp) e s))
  | 5 => engineAbort (item % 12) (awaitRetry (fun x => faultOf 5 (item % 12) x && x.time = s.stamp) (item % 12) s)
  | 6 => s.setEngine (item % 12) { s.engine (item % 12) with l1 := (s.engine (item % 12)).l1.eraseIdx (addr / 16) }
  | 7 => schedBad item s
  | 8 => dmaBad (item % 14) s
  | 9 => rqBad (item % 32) addr s
  | 10 => txBad (item % 4) addr s
  | 11 => lockout 2 11 (BitVec.ofNat 32 addr) s
  | 14 => lockout 14 14 (BitVec.ofNat 32 syndrome) s
  | _ => s

/-! ### Scrub and patrol (R528 to R531) -/

/-- SRAM_SCRUB_READ: `stored` is what the word holds, injected errors not counted; `functionalWrite` that a functional
write reaches the word before the write-back (R528, R530). -/
def sramScrub (cls item addr : Nat) (stored : BitVec 39) (functionalWrite : Bool) (s : State) : State :=
  let w := stored ^^^ (injectedFlips cls item addr s).extractLsb' 0 39
  let syndrome := wordSyndrome w
  let k := eccRead (w.extractLsb' 0 32) (w.extractLsb' 32 7) false false
  let s1 := countError cls (logAddress cls item addr) syndrome k s
  match k with
  | .clean | .addressError => if functionalWrite then wordWritten cls item addr s1 else s1
  | .corrected _ =>
    let s2 := wordWritten cls item addr s1
    if functionalWrite then { s2 with integ := { s2.integ with cWbCancelled := inc s2.integ.cWbCancelled } } else s2
  | .uncorrectable => sramBad cls item addr syndrome (if functionalWrite then wordWritten cls item addr s1 else s1)

/-- The time base restarts (R113, R526). -/
def timeLost (s : State) : State :=
  let t : TimeSt := { s.time with tb := 0, valid := false, lockedSinceValid := false, y := 0, err := 0 }
  let u := t.restart
  let running := s.sys.phase = .running
  let s1 : State := { s with time := if running then u else t }
  if running then noteServo s (reselect (stepActs false s1)) else s1

/-- What a word of the reserve domain that cannot be read does; the item restarts as after a loss of the domain
(R302, R467, R486, R526). -/
def reserveItemLost (item : ReserveItem) (s : State) : State :=
  let d : TimeSt := {}
  match item with
  | .timeBase => timeLost s
  | .energyWord l k a => if l < 2 ∧ k < 4 then corruptAccum l k a s else s
  | .energyOther => { s with energy := { s.energy with
      line0 := restored s.energy.line0, line1 := restored s.energy.line1, events := [], evtSeq := 0, evtLost := 0, lastTap := 0 } }
  | .epochs =>
    let r1 := s.draw
    let a := r1.1
    let s1 := r1.2
    let r2 := s1.draw
    let b := r2.1
    let s2 := r2.2
    let r3 := s2.draw
    let c := r3.1
    let s3 := r3.2
    { s3 with host := { s3.host with
      ring := { s3.host.ring with epoch := BitVec.ofNat 16 a }, mgmt := { s3.host.mgmt with epoch := BitVec.ofNat 16 b }
      svc := { s3.host.svc with epoch := BitVec.ofNat 16 c } } }
  | .nextJseq =>
    { s with host := { s.host with nextJseq := match s.upd.flashJournal.head? with | some j => j.jseq + 4097 | none => 0 } }
  | .lastFault => { s with integ := { s.integ with lastFault := { time := 0, cls := 0, unit := 0, detail := 0 } } }
  | .safeEntries => { s with integ := { s.integ with safeEntries := 0 } }
  | .autoLeaves => { s with integ := { s.integ with autoLeaves := [] } }
  | .clearCount => { s with energy := { s.energy with clearCount := 0 } }
  | .resetHistory => { s with sys := { s.sys with history := List.replicate 7 0, wdogTimes := [], lastResetAt := 0 } }
  | .utc => { s with time := { s.time with
      utcOffset := 0, leapPending := false, leapDir := false, leapOccurred := false, leapDue := 0, leapAt := 0, leapAtDir := false } }
  | .reserveIncrement => { s with time := { s.time with reserveInc := d.reserveInc } }
where
  /-- a line whose accumulators stay and whose other words restart. -/
  restored (x : LineSt) : LineSt :=
    let d : LineSt := { phases := x.phases }
    { x with phases := x.phases.map (fun q => { q with ah := ({} : PhaseSt).ah, unmetered := false }),
             measured := d.measured, unmeasured := d.unmeasured, reserveTime := d.reserveTime }

/-- Index and word address of an item of the reserve domain, by which an injected error names it (log entry 20). -/
def reservePlace : ReserveItem → Nat × Nat
  | .timeBase => (0, 0)
  | .energyWord l k a => (1, l * 64 + k * 16 + a)
  | .energyOther => (2, 0)
  | .epochs => (3, 0)
  | .nextJseq => (4, 0)
  | .lastFault => (5, 0)
  | .safeEntries => (6, 0)
  | .autoLeaves => (7, 0)
  | .clearCount => (8, 0)
  | .resetHistory => (9, 0)
  | .utc => (10, 0)
  | .reserveIncrement => (11, 0)

/-- RESERVE_SCRUB: once per second, in TCLK or KCLK; `stored` is what the word holds, injected errors not counted. A word
that is corrected, or whose item restarts, is written (R526 class 12, R528, R548). -/
def reserveScrub (item : ReserveItem) (stored : BitVec 39) (s : State) : State :=
  let place := reservePlace item
  let w := stored ^^^ (injectedFlips 12 place.1 place.2 s).extractLsb' 0 39
  let syndrome := wordSyndrome w
  let k := eccRead (w.extractLsb' 0 32) (w.extractLsb' 32 7) false false
  let s1 := countError 12 (place.1 * 4294967296 + place.2) syndrome k s
  match k with
  | .corrected _ => wordWritten 12 place.1 place.2 s1
  | .uncorrectable => reserveItemLost item (wordWritten 12 place.1 place.2 s1)
  | .clean | .addressError => s1

/-- The item of a list of sizes, laid one after another from 0, in which an offset lies, with the offset in it. -/
def locate (off : Nat) : List (Nat × Nat) → Option (Nat × Nat)
  | [] => none
  | (n, size) :: t => if off < size then some (n, off) else locate (off - size) t

/-- The alignment store: the slot of the beat cannot be read (R220, R221, R527). -/
def storeBad (off : Nat) (s : State) : State :=
  let rings := (s.align.zones.filter fun z => z.2.state != .free).map fun z => (z.1, (zoneSize z.2 (memberCount z.2)).store)
  match locate off rings with
  | none => s
  | some (z, o) =>
    let x := s.zone z
    let area := (zoneSize x (memberCount x)).area
    match x.areas.find? fun a => a.stored && a.tick % ringSize x = o / area with
    | none => s
    | some a =>
      if o % area < 64 then s
      else
        match (areaRefs x a.tick (some a))[(o % area - 64) / slotSize x.slotClass]? with
        | none => s
        | some r =>
          let lost (a : Area) : Area := { a with
            storeBad := if a.staged then r :: a.storeBad else a.storeBad
            records := a.records.filter fun f => recRef f ≠ r
            slots := if a.copied || !a.staged then a.slots
              else a.slots.map fun y => if y.ref = r && y.state = .present then { y with state := .absent, record := none } else y }
          modArea z a.tick lost s

/-- An uncorrectable error or an address error in DRAM, by region (R59, R527). -/
def dramBad (addr : Nat) (s : State) : State :=
  let c := s.sys.capacity * 1073741824
  let mib := 1048576
  let off := addr - c / 2
  if addr < c / 2 then storeBad addr s
  else if off < 256 * mib then
    let here (t : Nat × ParamTable) : Bool := spansMeet off 4 (Config.tableOffset t.1 % 268435456) t.2.bytes.length
    { s with kernel := { s.kernel with tables := s.kernel.tables.map fun (t : Nat × ParamTable) => if here t then (t.1, { t.2 with failed := true }) else t } }
  else if off < 512 * mib then
    let size (f : Flow) : Nat := match tabGet? f.table s.kernel.tables with | some t => tableState t | none => 0
    let here (n : Nat) (f : Flow) : Bool :=
      [false, true].any fun b => spansMeet (off - 256 * mib) 4 (Config.stateOffset n b % 268435456) (size f)
    { s with kernel := { s.kernel with
      flows := tabMap (fun n (f : Flow) => if f.enable && here n f then { f with stateReset := true } else f) s.kernel.flows } }
  else if off < 768 * mib then
    let n := (off - 512 * mib) / mib
    let k := (off - 512 * mib) % mib / 262144
    match tabGet? k (s.flow n).ring with
    | none => s
    | some r =>
      { s with kernel := { s.kernel with
        flows := tabMod {} n (fun (f : Flow) => { f with ring := tabErase k f.ring }) s.kernel.flows
        posts := s.kernel.posts.map fun p => if p.flow = n ∧ p.seq = r.seq then { p with posted := 0 } else p } }
  else if off < 832 * mib then resetTcp ((off - 768 * mib) / 262144) s
  else if s.windowBase ≤ addr then { s with dma := { s.dma with winBad := (addr - s.windowBase) / 4 * 4 :: s.dma.winBad } }
  else s

/-- PATROL_READ of a beat at a channel-local address: `check` holds the seven check bits and, on top, the bit A (R523,
R529, R531). -/
def patrolRead (ch addr : Nat) (data : Word32) (check : BitVec 8) (s : State) : State :=
  let flips := injectedFlips 13 ch addr s
  let data := data ^^^ flips.extractLsb' 0 32
  let stored := check ^^^ flips.extractLsb' 32 8
  let a := addrParity addr
  let syndrome := (secdedCheck data a ^^^ stored.extractLsb' 0 7).toNat
  let k := eccRead data (stored.extractLsb' 0 7) (stored.getLsbD 7) a
  let accesses := s.sys.capacity * 8388608
  let s1 : State := { s with integ := { s.integ with patrol := vset s.integ.patrol ch ((addr / 64 + 1) % accesses) } }
  let s2 := countError 13 addr syndrome k s1
  match k with
  | .clean => s2
  | .corrected _ => queueWriteBack ch (addr / 64) s2
  | _ => dramBad (accessAddr ch (addr / 64) + addr % 64) s2

/-- DRAM_WRITEBACK: the oldest write-back of a channel is issued; the corrected word is written (R531). -/
def dramWriteback (ch : Nat) (s : State) : State :=
  match vget [] s.integ.writeBacks ch with
  | [] => s
  | w :: rest =>
    { s with integ := { s.integ with
      writeBacks := vset s.integ.writeBacks ch rest
      injected := s.integ.injected.filter fun x => !(x.cls = 13 && x.index = ch && x.addr / 64 = w && decide (popcount 40 x.flips ≤ 1)) } }

/-! ### Monitors (R537, R540 to R543) -/

/-- The row of a domain in the table of R48, the unit of class CLOCK. -/
def domainCode : ClockDomain → Nat
  | .refclk => 0 | .tclk => 1 | .eclk => 2 | .fclk => 3 | .mclk => 4 | .nclk => 5 | .pclk => 6 | .sclk => 7 | .modclk => 8
  | .aclk => 9 | .gclk => 10 | .vclk => 11 | .qclk => 12 | .kclk => 13

/-- A domain is faulty (R540). -/
def clockFault (d : ClockDomain) (s : State) : State :=
  let note (s : State) : State := { addLog 8 (domainCode d) 1 0 0 s with
    integ := { (addLog 8 (domainCode d) 1 0 0 s).integ with clockFaults := d :: s.integ.clockFaults.filter fun x => x ≠ d } }
  match d with
  | .pclk => pcieOff (note s)
  | .gclk => mgmtDown (note s)
  | .vclk => if s.sys.straps.svcEn then framingLoss (addLog 8 (domainCode d) 1 0 0 s) else s
  | .kclk => if s.time.servo = .locked then (let s1 := note s; { s1 with time := { s1.time with kclkFail := true } }) else s
  | _ => lockout 8 (domainCode d) 0 s

/-- The main rails are present and the clocks run, out of reset or held in it (R542). -/
def mainsOn (s : State) : Bool := match s.sys.phase with | .running | .held _ => true | _ => false

/-- TEMP_SAMPLE: TJ, TJ_MAX and TEMP_WARN; 1 ms at 110 °C or more is a lockout of a device that is out of reset (R457, R542). -/
def tempSample (sensors : List Int) (s : State) : State :=
  let tj := match sensors with | x :: t => t.foldl max x | [] => s.integ.tj
  let limit : Int := s.integ.warnLimit * 16
  let warn : Bool := if limit ≤ tj then true else if tj ≤ limit - 32 then false else s.integ.tempWarn
  let hot : Option Ps := if 1760 ≤ tj then some (s.integ.hotSince.getD s.now) else none
  let scorch : Option Ps := if 2000 ≤ tj then some (s.integ.scorchSince.getD s.now) else none
  let s1 : State := { s with integ := { s.integ with
    sensors, tj, tjMax := max s.integ.tjMax tj, tempWarn := warn, hotSince := hot, scorchSince := scorch } }
  let s2 := if warn = s.integ.tempWarn then s1 else raiseCause causeTemp s1
  let overdue : Bool := match hot with | some t => decide (t + 1000000000 ≤ s.now) | none => false
  if overdue && faultsCount s then lockout 10 0 (BitVec.ofInt 32 tj) s2 else s2

/-- ALM_READBACK: 1 µs after a pin was driven low (R543). -/
def almReadback (pin : Nat) (high : Bool) (s : State) : State :=
  if s.detect.pins.getLsbD pin then s
  else if high then
    addLog 13 pin 1 0 0 { s with integ := { s.integ with
      almFault := s.integ.almFault ||| (1#16 <<< pin), almHigh := s.integ.almHigh ||| (1#16 <<< pin), cAlm := inc s.integ.cAlm } }
  else { s with integ := { s.integ with almHigh := s.integ.almHigh &&& ~~~(1#16 <<< pin) } }

/-- TJ reached 125 °C 100 µs ago and has not fallen below it since: every clock but KCLK stops (R542). -/
def scorched (s : State) : Bool := match s.integ.scorchSince with | some t => decide (t + 100000000 ≤ s.now) | none => false

/-! ### Leaving SAFE (R547) -/

/-- Something keeps the device in SAFE (R547). -/
def safeBlocked (s : State) : Bool :=
  !s.integ.clockFaults.isEmpty || decide (s.now < s.integ.monitorUntil) || decide (1600 ≤ s.integ.tj) || s.kernel.engines.all fun x => x.state = .offline

/-- The automatic exits of the last 24 h (R547). -/
def recentLeaves (s : State) : List Stamp := s.integ.autoLeaves.filter fun t => decide (stampDiff s.stamp t ≤ 86400 * (unitsPerSec : Int))

/-- AUTO_LEAVE_SAFE: not from a SAFE without a command interface, nor from a stay that three automatic exits within 24 h came
before (R545, R547). -/
def autoLeave (s : State) : State :=
  if s.sys.phase = .running && s.sys.mode = .safe && decide (0 < s.integ.autoLeave)
      && decide (s.integ.safeSince + s.integ.autoLeave * 1000000000000 ≤ s.now) && !safeBlocked s && !s.integ.safeStay && !s.integ.noInterface then
    resetEdge .warm { s with integ := { s.integ with autoLeaves := s.stamp :: recentLeaves s } }
  else s

end Sys2Proof.Machine
end

