-- ==== Sys2Proof/Machine/Reads.lean ====
section
/-! DEFINITION. What the functional reads of the memories find: errors count and are logged, a corrected word is delivered, and
an uncorrectable one has the outcome of its class or region before the reader goes on (R524 to R527, R531, R544).

Each read comes before the operation of its row and names the words that the operation reads (log entry 20).  Where no error has
been injected it changes nothing. -/

namespace Sys2Proof.Machine

/-- The words of an SRAM class that `p` names are read. -/
def touch (cls : Nat) (p : Nat → Nat → Bool) (s : State) : State :=
  (badWords cls p s).foldl (fun u h => sramBad cls h.1 h.2 (flipsSyndrome (injectedFlips cls h.1 h.2 s)) u) (readWords cls p s)

/-- The same of words that the next entry overwrites: the entry read is gone, and so are the words of it that were bad. -/
def touchEntry (cls : Nat) (p : Nat → Nat → Bool) (s : State) : State :=
  writeWords cls (fun i a => (badWords cls p s).contains (i, a)) (touch cls p s)

/-- `n` bytes at a DRAM address are read. -/
def touchDram (addr n : Nat) (s : State) : State :=
  ((dramHits addr n s).filter fun h => wordBad 13 h.1 s h.2).foldl (fun u h => dramBad (dramAddr h.1 h.2) u) (dramRead addr n s)

/-- All words of an item, and one word of it. -/
def itemWords (n item _addr : Nat) : Bool := item == n
def itemWord (n a item addr : Nat) : Bool := item == n && addr == a

/-! ### Stream contexts (class 0) -/

/-- The context of the frame that STREAM_FRAME_BIND would bind now. -/
def boundContext (lane : Nat) (s : State) : Option Nat :=
  match s.ingress.toBind.find? fun x => x.1 = lane with
  | some (_, f) => if !s.online || decide (s.now < f.due) then none else lookupKey s (dgramKey f.dgram)
  | none => none

/-- STREAM_FRAME_BIND's read of the context: where it cannot be read, the frame is dropped and the context is rebound or freed
(R526). -/
def bindChecked (lane : Nat) (s : State) : State :=
  match boundContext lane s with
  | none => streamFrameBind lane s
  | some i =>
    let s1 := touch 0 (contextWords i 0) s
    if (badWords 0 (contextWords i 0) s).isEmpty then streamFrameBind lane s1
    else countStream lane { s1 with ingress := { s1.ingress with toBind := s1.ingress.toBind.eraseP fun x => x.1 = lane } }

/-! ### The aligner (classes 1 and 2, the alignment store) -/

/-- The zone and the tick at whose slot a record aims. -/
def insertTarget (s : State) (f : FrameRecord) : Option (Nat × Nat) :=
  (recordZone s f).bind fun z => (matchInstant f).bind fun m =>
    let x := s.zone z
    if m.2 * x.rate % f.rate ≠ 0 then none else (tickNear x (m.1 * x.rate + m.2 * x.rate / f.rate)).map fun t => (z, t)

/-- ALIGNER_INSERTION reads the slot states of the record's tick (R218, R227). -/
def insertionRead (s : State) : State :=
  match s.ingress.toInsert with
  | (due, f) :: _ =>
    if due ≤ s.now then
      match insertTarget s f with
      | some (z, t) => touch 2 (indexWords s z t) s
      | none => s
    else s
  | [] => s

/-- CLOSE reads the slot states of the tick (R227, R228). -/
def closeRead (z : Nat) (s : State) : State := if closeDue s z then touch 2 (indexWords s z (s.zone z).nextClose) s else s

/-- STAGING_START writes the slot states of the tick that it stages (R222, R227). -/
def stagingWrite (z : Nat) (s : State) : State := writeWords 2 (indexWords s z (s.zone z).nextStage) s

/-- A tick's store area is read (R222, R236, R527). -/
def storeRead (z tick : Nat) (s : State) : State :=
  let x := s.zone z
  touchDram (areaAddr s z tick) (zoneSize x (memberCount x)).area s

/-- STAGING_DONE has read the store area of the tick that it copies. -/
def stagingRead (z : Nat) (s : State) : State :=
  match stagingFirst s with
  | some (y, n) => if y = z then storeRead z n s else s
  | none => s

/-- RESTAGING_DONE has read the store area of the tick of the revision. -/
def restagingRead (s : State) : State :=
  match s.align.revArea with
  | .restaging z t => storeRead z t s
  | _ => s

/-- ASSEMBLY_DONE writes the constellation. -/
def assemblyWrite (s : State) : State :=
  match s.align.asm with
  | some r => if r.done ≤ s.now then writeWords 1 (itemWords r.c.zone) s else s
  | none => s

/-- A reader of constellation SRAM reads a tick's constellation. -/
def constRead (z tick : Nat) (s : State) : State := touch 1 (constWords s z tick) s

/-- A constellation as its reader finds it now. -/
def asRead (s : State) (c : Sealed) : Sealed := ((s.area c.zone c.tick).bind fun a => a.sealed_.find? fun d => d.rev = c.rev).getD c

/-! ### The detectors, the front end and the flows (class 3)

An entry that is not there, or that a fault has disabled, is not read. -/

/-- Entries of a kind of table. -/
def entryWords (kind : Nat) (there : Nat → Bool) (item _addr : Nat) : Bool := item / 65536 == kind && there (item % 65536)

/-- The coherency unit reads the vertices, edges and definitions that an evaluation uses. -/
def cohTables (s : State) (c : Sealed) (item addr : Nat) : Bool :=
  let i := s.cohInputOf c
  entryWords 0 (fun n => i.vertices.any fun v => v.1 = n && v.2.isSome) item addr
    || entryWords 1 (fun n => (tabGet? n s.detect.edges).any fun e => i.edges.contains e) item addr
    || entryWords 4 (fun n => (s.ald n).any fun d => d.zone = c.zone && d.source == .island && d.state != .disabled) item addr

/-- COHERENCY_DONE has read its tables and its constellation. -/
def cohRead (s : State) : State :=
  match s.align.coh with
  | some (c, due) => if due ≤ s.now then touch 3 (cohTables s c) (constRead c.zone c.tick s) else s
  | none => s

/-- The band-energy monitor reads the zone's signals, their threshold groups, the definitions on them and its own state. -/
def bandTables (s : State) (c : Sealed) (item addr : Nat) : Bool :=
  let mine (g : Signal) : Bool := g.zone == c.zone
  entryWords 2 (fun n => (tabGet? n s.detect.signals).any mine) item addr
    || entryWords 3 (fun n => (tabGet? n s.detect.thresholds).isSome && s.detect.signals.any fun g => mine g.2 && g.2.group = n) item addr
    || entryWords 4 (fun n => (s.ald n).any fun d =>
      d.zone = c.zone && (match d.source with | .oscillation .. => true | _ => false) && d.state != .disabled) item addr
    || entryWords 7 (fun n => n = c.zone) item addr

/-- BAND_MONITOR_DONE has read its tables and its constellation. -/
def bandRead (s : State) : State :=
  match s.align.band with
  | some (c, due) => if due ≤ s.now then touch 3 (bandTables s c) (constRead c.zone c.tick s) else s
  | none => s

/-- FE_OUTPUT_SAMPLE reads the calibration of the channel's inputs. -/
def sampleRead (c : Nat) (s : State) : State :=
  touch 3 (entryWords 6 fun n => n = hiInput c || loInput c = some n) s

/-! ### The engines (classes 4 to 7, tables, states and results in DRAM) -/

/-- The scheduler reads the queue. -/
def dispatchRead (s : State) : State := if s.aligning then touchEntry 7 (fun i _ => decide (i < s.kernel.queue.length)) s else s

/-- It reads the entries of the reorder buffer that `p` picks. -/
def robRead (p : Nat → RobEntry → Bool) (s : State) : State :=
  touchEntry 7 (fun i _ => decide (65536 ≤ i) && (tabGet? (i - 65536) s.kernel.rob).any (p (i - 65536))) s

/-- The item that comes to an engine now, 18 ECLK after its dispatch (R364). -/
def arrives (e : Nat) (s : State) : Option RobEntry :=
  match (s.engine e).state, (s.engine e).entry with
  | .running, some (n, false) => if (s.engine e).busySince + 18000 ≤ s.now then tabGet? n s.kernel.rob else none
  | _, _ => none

/-- ITEM_ARRIVAL: the engine's local data and L1 are the item's own; it reads its program, its constellation and what it may
read of DRAM (R372, R373). -/
def arrivalRead (e : Nat) (s : State) : State :=
  match arrives e s with
  | none => s
  | some r =>
    let s1 := touch 4 (itemWords e) (writeWords 6 (itemWords e) (writeWords 5 (itemWords e) s))
    if (arrives e s1).isNone then s1
    else (r.item.sources s1).foldl (fun s x => touchDram x.1 x.2.length s) (constRead r.item.zone r.item.tick s1)

/-- ENGINE_RELEASE: the item has read its program, the lines of the L1 and its local data (R372). -/
def releaseRead (e : Nat) (s : State) : State :=
  let works (s : State) : Bool := (s.engine e).state == .running && ((s.engine e).entry.any fun x => x.2)
  if !works s then s
  else
    let s1 := touch 4 (itemWords e) s
    if works s1 then touch 5 (itemWords e) (touchEntry 6 (itemWords e) s1) else s1

/-! ### DMA and record queues (classes 8 and 9) -/

/-- DMA_READ_COMPLETE: the write engine reads the chunks that hold their data. -/
def chunkRead (s : State) : State :=
  if s.dmaRuns then touch 8 (fun i a => ((chunksOf i s)[a / 128]?).any fun k => k.data.isSome) s else s

/-- RQ_LINE_DELIVER reads the oldest stored line. -/
def lineRead (q : Nat) (s : State) : State :=
  if (s.rq q).enable && s.dmaRuns && !(s.rq q).lines.isEmpty then touchEntry 9 (itemWord q 0) s else s

/-- A push reads the packing register. -/
def packRead (q : Nat) (s : State) : State := if (s.rq q).pack.isSome then touchEntry 9 (itemWord q 128) s else s

/-! ### Transmission (class 10, results and send buffers in DRAM) -/

/-- The MAC reads the frame that it is to begin. -/
def txStartRead (p : Nat) (express : Bool) (s : State) : State :=
  let x := s.tx p
  match (if express then expressHead s p x else preemptHead s p x) with
  | some (f, _) => match x.queued.findIdx? (· == f) with
    | some n => touchEntry 10 (itemWord p n) s
    | none => s
  | none => s

/-- The frame in transmission has been read. -/
def txDoneRead (p : Nat) (express : Bool) (s : State) : State :=
  let x := s.tx p
  match (if express then x.expRun else x.preRun) with
  | some r => if r.cut.isSome || decide (s.now < r.done) then s else touchEntry 10 (itemWord p (if express then 65536 else 65537)) s
  | none => s

/-- FORMATTER_DONE: the formatter has read the constellation and the results that the session carries, and its own memory. -/
def formRead (s : State) : State :=
  match s.egress.forming with
  | none => s
  | some (r, due) =>
    if due ≤ s.now then
      let s1 := constRead r.zone r.tick s
      let seq := ((s1.sealedOf r.zone r.tick r.rev).map (·.seq)).getD 0
      let s2 := (s1.sess r.session).cfg.flows.foldl (fun s f => touchDram (slotAddr s f seq) 48 s) s1
      touchEntry 10 (itemWords 4) s2
    else s

/-- The supervisor reads the octets of a session's connection that are sent or sent again (R399, R400). -/
def sendBufRead (n : Nat) (s : State) : State :=
  match (s.sess n).tcp with
  | some t => touchDram (sendBufAddr s n) (t.unacked.length + (s.sess n).sendBuf.length) s
  | none => s

end Sys2Proof.Machine
end

