-- ==== Sys2Proof/Machine/RowsAlign.lean ====
section
/-! DEFINITION. The meanings of the rows whose operations stand in `Align.lean`: each row carries the time passed since the row before. -/

namespace Sys2Proof.Machine

/-- CLOSE (R33). -/
def execClose (dt : Ps) (zone : Nat) (s : State) : Host.Outcome State Fault Refusal :=
  let s := closeRead zone (s.elapse dt)
  .next (if closeDue s zone then fireClose 0 zone (s.zone zone).nextClose s else s)

/-- BUDGET_DEADLINE (R40). -/
def execBudgetDeadline (dt : Ps) (zone : Nat) (s : State) : Host.Outcome State Fault Refusal := .next (deadlinesDue zone (s.elapse dt))

/-- STAGED_AREA_RELEASE (R223, R246). -/
def execStagedAreaRelease (dt : Ps) (zone : Nat) (s : State) : Host.Outcome State Fault Refusal := .next (releasesDue zone (s.elapse dt))

/-- STORE_AREA_EXPIRY (R220). -/
def execStoreAreaExpiry (dt : Ps) (zone tick : Nat) (s : State) : Host.Outcome State Fault Refusal := .next (storeExpiry zone tick (s.elapse dt))

/-- REVISION_ABANDON (R237). -/
def execRevisionAbandon (dt : Ps) (zone tick : Nat) (s : State) : Host.Outcome State Fault Refusal :=
  let s := s.elapse dt
  .next (match s.area zone tick with
         | some a => if pastStore s a then abandonRevision zone tick s else s
         | none => s)

/-- STAGING_START (R222). -/
def execStagingStart (dt : Ps) (zone : Nat) (s : State) : Host.Outcome State Fault Refusal :=
  let s := s.elapse dt
  let x := s.zone zone
  .next (if s.aligning && x.ticking && stampGe s.stamp (stageInstant x x.nextStage) then stageTick zone (stagingWrite zone s) else s)

/-- STAGING_DONE (R225): copies end in their order of service. -/
def execStagingDone (dt : Ps) (zone : Nat) (s : State) : Host.Outcome State Fault Refusal :=
  let s := stagingRead zone (s.elapse dt)
  .next (match stagingFirst s with
         | some (z, n) =>
           if z = zone then modArea z n (fun a => { a with copied := true }) { s with align := { s.align with stagings := s.align.stagings.erase (z, n) } }
           else s
         | none => s)

/-- ALIGNER_INSERTION: the oldest record on its way completes insertion (R218). -/
def execAlignerInsertion (dt : Ps) (s : State) : Host.Outcome State Fault Refusal := .next (insertNext (insertionRead (s.elapse dt)))

/-- ASSEMBLY_DONE (R228). -/
def execAssemblyDone (dt : Ps) (s : State) : Host.Outcome State Fault Refusal :=
  let s := assemblyWrite (s.elapse dt)
  .next (match s.align.asm with
         | some r => if r.done ≤ s.now then assemblyDone r s else s
         | none => s)

/-- REVISION_DUE: on a grid edge before which REV_HOLD has passed and so has the budget deadline (R233). -/
def execRevisionDue (dt : Ps) (zone tick : Nat) (s : State) : Host.Outcome State Fault Refusal :=
  let s := s.elapse dt
  let edge := s.now / 20000 * 20000
  let late : Bool := match s.area zone tick with | some a => a.deadlineDone | none => false
  .next (if late then
    { s with align := { s.align with revQueue := s.align.revQueue.map fun e =>
      if e.zone = zone && e.tick = tick && e.queued.isNone && decide (e.holdEnd ≤ edge) then { e with queued := some edge } else e } }
  else s)

/-- RESTAGING_DONE (R236). -/
def execRestagingDone (dt : Ps) (s : State) : Host.Outcome State Fault Refusal :=
  let s := restagingRead (s.elapse dt)
  .next (match s.align.revArea with
         | .restaging z t => { s with align := { s.align with revArea := .ready z t false } }
         | _ => s)

/-- REVISION_ASSEMBLY_START: re-staging is complete, the assembler is free, egress has released the revision before
(R45, R236). -/
def execRevisionAssemblyStart (dt : Ps) (s : State) : Host.Outcome State Fault Refusal :=
  let s := s.elapse dt
  .next (match s.align.revArea with
         | .ready z t _ =>
           if s.align.asm.isNone && s.align.asmQueue.isEmpty && !(s.egress.waits.any fun w => w.zone = z && w.tick = t && waitPending s w)
           then { s with align := { s.align with revArea := .ready z t true } } else s
         | _ => s)

/-- REVISION_ASSEMBLY_DONE (R237). -/
def execRevisionAssemblyDone (dt : Ps) (s : State) : Host.Outcome State Fault Refusal :=
  let s := s.elapse dt
  .next (match s.align.revArea with
         | .assembling c due =>
           if due ≤ s.now then
             let s1 := { s with align := { s.align with revArea := .held c.zone c.tick c.rev } }
             let s2 := zoneCount c.zone (fun x => { x with cRev := inc x.cRev }) s1
             if (s.area c.zone c.tick).isNone then releaseWaits s2
             else egressAssembled c (modArea c.zone c.tick (fun a => { a with sealed_ := c :: a.sealed_ }) s2)
           else s
         | _ => s)

end Sys2Proof.Machine
end

