-- ==== Sys2Proof/Machine/RowsAlignCmd.lean ====
section
/-! DEFINITION. The meanings of the rows whose operations stand in `AlignCmd.lean`: each row carries the time passed since the row before. -/

namespace Sys2Proof.Machine

/-- ZONE_CONFIG (R206). -/
def execZoneConfig (dt : Ps) (q : Packet) (s : State) : Host.Outcome State Fault Refusal := command cmdZoneConfig dt q s

/-- ZONE_DELETE (R246). -/
def execZoneDelete (dt : Ps) (q : Packet) (s : State) : Host.Outcome State Fault Refusal := command cmdZoneDelete dt q s

/-- ZONE_START (R211). -/
def execZoneStart (dt : Ps) (q : Packet) (s : State) : Host.Outcome State Fault Refusal := command cmdZoneStart dt q s

/-- ZONE_STOP (R211). -/
def execZoneStop (dt : Ps) (q : Packet) (s : State) : Host.Outcome State Fault Refusal := command cmdZoneStop dt q s

/-- ZONE_ADD_STREAM (R212). -/
def execZoneAddStream (dt : Ps) (q : Packet) (s : State) : Host.Outcome State Fault Refusal := command cmdZoneAddStream dt q s

/-- ZONE_REMOVE_STREAM (R212). -/
def execZoneRemoveStream (dt : Ps) (q : Packet) (s : State) : Host.Outcome State Fault Refusal := command cmdZoneRemoveStream dt q s

/-- ZONE_GET (R245). -/
def execZoneGet (dt : Ps) (q : Packet) (s : State) : Host.Outcome State Fault Refusal := command cmdZoneGet dt q s

/-- ZONE_GET_COUNTERS (R247). -/
def execZoneGetCounters (dt : Ps) (q : Packet) (s : State) : Host.Outcome State Fault Refusal := command cmdZoneGetCounters dt q s

/-- CONST_READ (R246). -/
def execConstRead (dt : Ps) (q : Packet) (s : State) : Host.Outcome State Fault Refusal := command cmdConstRead dt q s

/-- ALIGN_GET_STATUS (R245). -/
def execAlignGetStatus (dt : Ps) (q : Packet) (s : State) : Host.Outcome State Fault Refusal := command cmdAlignGetStatus dt q s

end Sys2Proof.Machine
end

