-- ==== Sys2Proof/Machine/Security.lean ====
section
/-! DEFINITION. Lifecycle, roots and MKA: the security commands 0x0B01 to 0x0B05 and the MKA events (R550 to R569). -/

namespace Sys2Proof.Machine

/-! ### Lifecycle (R553, R555) -/

/-- Fuse group of a target state, 0 for MANUFACTURE. -/
def fuseGroup (target : Nat) : Nat := target - 1

/-- The state of the highest group that is taken (R553). -/
def fuseState (f : Vector Nat 5) : Lifecycle :=
  (List.range 5).foldl (fun l i => if 3 ≤ vget 0 f i then Lifecycle.ofCode (i + 1) else l) .blank

/-- The fuses of the groups that are not taken (R553). -/
def fuseStray (f : Vector Nat 5) : Nat := f.toList.foldl (fun n x => if x < 3 then n + x else n) 0

/-- The owner root in force: the highest slot programmed (R559). -/
def ownerRoot (s : State) : Option (List Byte) := s.sec.owner.toList.reverse.findSome? id

/-- A key of R562: the leftmost 256 bits of the first output of the KDF in counter mode over the device-unique secret. -/
def derivedKey (s : State) (label : String) : List Byte :=
  (Config.hmacSha384 (otpBytes s.sec.otp.secret)
    (be 4 1 ++ ascii label ++ be 1 0 ++ be 1 s.sys.lifecycle.domain ++ be 8 s.sec.serial.toNat ++ be 4 256)).take 32

/-- The working keys are derived in the states that boot an image (R562). -/
def deriveKeys (s : State) : State :=
  match s.sys.lifecycle with
  | .blank | .scrapped => s
  | _ => { s with sec := { s.sec with kwk := derivedKey s "HNM KWK", drbg := derivedKey s "HNM DRBG" } }

/-- The owner root that the OTP holds is latched: it verifies images from this reset on (R559). -/
def latchRoot (s : State) : State := { s with sec := { s.sec with imageRoot := ownerRoot s } }

/-- The root that the lifecycle state selects (R550). -/
def selectedRoot (s : State) : Option (List Byte) :=
  match s.sys.lifecycle with
  | .manufacture | .return => some s.sec.vendorRoot
  | .provisioned | .field => ownerRoot s
  | .blank | .scrapped => none

/-- The moves of R555 made by command. -/
def moveListed (l : Lifecycle) (target : Nat) : Bool :=
  match l with
  | .manufacture => [2, 4, 5].contains target
  | .provisioned => [3, 4, 5].contains target
  | .field => [4, 5].contains target
  | .return => target == 5
  | _ => false

/-- The root that authorises a move (R555). -/
def moveRoot (s : State) (target : Nat) : Option (List Byte) :=
  if s.sys.lifecycle = .manufacture ∧ target = 2 then ownerRoot s else selectedRoot s

/-- The moves allowed, bit n for target n (R569): those listed whose authorising root is in force. -/
def movesMask (s : State) : Nat :=
  (List.range 6).foldl (fun m t => m + bit (moveListed s.sys.lifecycle t && (moveRoot s t).isSome) t) 0

def cmdSecGetLifecycle : Cmd :=
  { opcode := 0x0B01, modes := anyMode, lenOk := lenIs 0, checks := noChecks, journaled := jNever, key := noKey
    run := fun s _ _ =>
      let r1 := s.draw
      let v := r1.1
      let s1 := r1.2
      let nonce := be 16 v
      .ok (be 1 s.sys.lifecycle.code ++ nonce ++ s.sec.vendorRoot ++ be 1 (bitsOf (s.sec.owner.toList.map (·.isSome)))
        ++ ((ownerRoot s).getD (List.replicate 48 0)) ++ be 1 (fuseStray s.sec.fuses) ++ be 1 (movesMask s))
        { s1 with sec := { s1.sec with nonce := some nonce } } }

/-- COMMISSION and SERVICE (R556, R569). -/
def secModes : Mode → Bool := fun m => m == .commission || m == .service

/-- The nonce that a command carried is spent (R561). -/
def spendNonce (n : List Byte) (s : State) : State := if s.sec.nonce = some n then { s with sec := { s.sec with nonce := none } } else s

/-- The block signed for a lifecycle move (R560). -/
def lifecycleBlock (s : State) (target : Nat) (nonce : List Byte) : List Byte :=
  ascii "HNM-LCYC" ++ be 8 s.sec.serial.toNat ++ be 1 s.sys.lifecycle.code ++ be 1 target ++ be 6 0 ++ nonce

/-- SEC_SET_LIFECYCLE (R555, R556, R560, R561). -/
def cmdSecSetLifecycle : Cmd :=
  { opcode := 0x0B02, modes := secModes, lenOk := lenIs 210, checks := fun _ p => [(inRange (fld p 0 1) 0 5, 0)]
    journaled := jAlways, key := noKey
    run := fun s _ p =>
      let target := fld p 0 1
      let nonce := slice p 1 16
      let pub := slice p 17 97
      let spent := spendNonce nonce s
      if !moveListed s.sys.lifecycle target then .fail stDenied 0 spent
      else if s.upd.trialEnd.isSome then .fail stBusy 0 spent
      else if s.sec.nonce ≠ some nonce then .bad 1
      else if moveRoot s target ≠ some (Config.sha384 pub) then .fail stBadParam 17 spent
      else if !Config.ecdsaOk pub (lifecycleBlock s target nonce) (slice p 114 96) then .fail stBadParam 114 spent
      else .long (.lifecycle target) spent }

/-- The block signed for an owner-root write (R560). -/
def rootBlock (s : State) (slot : Nat) (nonce newKey : List Byte) : List Byte :=
  ascii "HNM-ROOT" ++ be 8 s.sec.serial.toNat ++ be 1 slot ++ be 7 0 ++ nonce ++ Config.sha384 newKey

/-- The next free owner root slot, 4 when all are programmed (R559). -/
def freeSlot (s : State) : Nat := (s.sec.owner.toList.takeWhile (·.isSome)).length

/-- SEC_SET_OWNER_ROOT (R559 to R561). -/
def cmdSecSetOwnerRoot : Cmd :=
  { opcode := 0x0B03, modes := secModes, lenOk := lenIs 307, checks := fun _ p => [(inRange (fld p 0 1) 0 3, 0)]
    journaled := jAlways, key := noKey
    run := fun s _ p =>
      let slot := fld p 0 1
      let nonce := slice p 1 16
      let newKey := slice p 17 97
      let signer := slice p 114 97
      let spent := spendNonce nonce s
      let first := s.sys.lifecycle = .manufacture
      if 4 ≤ freeSlot s then .fail stNoResource 0 spent
      else if first ∧ freeSlot s ≠ 0 then .fail stDenied 0 spent
      else if slot ≠ freeSlot s then .fail stBadParam 0 spent
      else if s.sec.nonce ≠ some nonce then .bad 1
      else if (if first then signer != newKey else ownerRoot s != some (Config.sha384 signer)) then .fail stBadParam 114 spent
      else if !Config.ecdsaOk signer (rootBlock s slot nonce newKey) (slice p 211 96) then .fail stBadParam 211 spent
      else .long (.ownerRoot slot (Config.sha384 newKey)) spent }

/-! ### MKA (R565 to R567) -/

/-- MKA on a port, and a change of it. -/
def State.mka (s : State) (p : Nat) : MkaPort := vget {} s.sec.mka p
def State.setMka (s : State) (p : Nat) (x : MkaPort) : State := { s with sec := { s.sec with mka := vset s.sec.mka p x } }

/-- The CAK in use, when the slot holds one that unwraps. -/
def MkaPort.cak (x : MkaPort) : Option CakSlot := (vget none x.slots x.inUse).filter fun c => !c.failed

/-- A new secure connectivity association starts: no peer is known, no SAK is installed; on the management port it is an
interface reset of MGMT (R467, R566). -/
def newAssociation (port : Nat) (s : State) : State :=
  let s1 := s.setMka port { s.mka port with peers := [], installed := false, rx := [], keyNumber := 0, an := 0, asked := false }
  if port = 4 then ifReset 1 s1 else s1.modTx port fun x => { x with sa := false }

/-- SEC_SET_MKA's effect: a slot is written or cleared, or the slot in use selected (R566). `domain` is the key domain
under which the CAK is held; a CAK of another domain than the present one does not unwrap (R562, R567). -/
def applyMka (p : List Byte) (domain : Nat) (s : State) : State :=
  let port := fld p 0 1
  let slot := fld p 1 1
  let x := { s.mka port with priority := fld p 68 1 }
  match fld p 2 1 with
  | 2 =>
    let s1 := s.setMka port { x with inUse := slot }
    if x.inUse = slot then s1 else newAssociation port s1
  | act =>
    let held : Option CakSlot := if act = 0 then none
      else some { ckn := slice p 4 (fld p 3 1), cak := slice p 36 32, domain, failed := domain != s.sys.lifecycle.domain }
    let s1 := s.setMka port { x with slots := vset x.slots slot held }
    if x.inUse = slot then newAssociation port s1 else s1

/-- The record of the setting: parameters with the domain, by slot or, for a selection, by port (R567, R580; log entry 6). -/
def mkaSetting (p : List Byte) (domain : Nat) : Setting :=
  { key := (0x0B04, [fld p 0 1, if fld p 2 1 = 2 then 2 else fld p 1 1]), opcode := 0x0B04, params := p ++ be 1 domain }

def cmdSecSetMka : Cmd :=
  { opcode := 0x0B04, modes := anyMode, lenOk := lenIs 69
    checks := fun _ p => [(inRange (fld p 0 1) 0 4, 0), (inRange (fld p 1 1) 0 1, 1), (inRange (fld p 2 1) 0 2, 2),
      (fld p 2 1 != 1 || inRange (fld p 3 1) 1 32, 3)]
    journaled := jAlways, key := noKey
    run := fun s ifc p =>
      let d := s.sys.lifecycle.domain
      let s1 : State := { s with host := { s.host with settings := recordSetting (mkaSetting p d) s.host.settings } }
      .ok [] (if fld p 0 1 = 4 ∧ ifc = 1 then { s1 with sec := { s1.sec with mkaNext := some p } } else applyMka p d s1) }

/-- A CAK slot in SEC_GET_MKA_STATUS (R569). -/
def slotStatus (x : MkaPort) (i : Nat) : List Byte :=
  match vget none x.slots i with
  | none => be 34 0
  | some c => be 1 (if c.failed then 3 else if x.inUse = i then 2 else 1) ++ be 1 c.ckn.length ++ padTo 32 c.ckn

/-- This device is key server: the lowest priority number; a tie is not told by the manual's rules, so free (R565). -/
def keyServer (x : MkaPort) (s : State) : Nat × State :=
  if x.cak.isNone then (0, s)
  else if x.peers.all fun q => decide (x.priority < q.2.1) then (1, s)
  else if x.peers.any fun q => decide (q.2.1 < x.priority) then (0, s)
  else (s.draw.1 % 2, s.draw.2)

def cmdSecGetMkaStatus : Cmd :=
  { opcode := 0x0B05, modes := anyMode, lenOk := lenIs 1, checks := fun _ p => [(inRange (fld p 0 1) 0 4, 0)]
    journaled := jNever, key := noKey
    run := fun s _ p =>
      let x := s.mka (fld p 0 1)
      let r1 := keyServer x s
      let server := r1.1
      let s1 := r1.2
      let r2 := if fld p 0 1 < 4 then ((s.tx (fld p 0 1)).pn, s1) else s1.draw
      let pn := r2.1
      let s2 := r2.2
      .ok (be 1 x.inUse ++ slotStatus x 0 ++ slotStatus x 1 ++ be 1 server ++ be 1 x.peers.length ++ be 4 x.keyNumber
        ++ be 1 x.an ++ be 4 pn ++ be 4 x.installs) s2 }

/-- MKPDU_RX: up to 4 live peers (R565). -/
def mkpduRx (port : Nat) (m : Mkpdu) (s : State) : State :=
  let x := s.mka port
  let others := x.peers.filter fun q => q.1 ≠ m.peer
  if !s.online || !m.icvOk || x.cak.isNone || decide (4 ≤ others.length) then s
  else s.setMka port { x with peers := others ++ [(m.peer, m.priority, s.now)] }

/-- An MKPDU leaves as an EAPOL frame, on a WAN port through its PRE_NOW queue and unprotected: the layout of its content is
the model's, the device's priority, whether it is key server and whether a new SAK is asked for (R402, R409, R410, R565; log
entry 6). -/
def mkpduSend (port : Nat) (content : List Byte) (s : State) : State :=
  let o (mac : Nat) : List Byte := [0x01, 0x80, 0xC2, 0x00, 0x00, 0x03] ++ be 6 mac ++ [0x88, 0x8E] ++ content
  if port = 4 then s.emit (.supervisor 4 "MKPDU" (o s.host.mgmtCfg.mac))
  else enqueue port false [{ kind := .eapol, octets := o (s.port port).mac, priority := 0, launch := none, late := false }] s

/-- MKA_HELLO: every 2 s (R565). -/
def mkaHello (port : Nat) (s : State) : State :=
  let x := s.mka port
  if !s.online || x.cak.isNone || decide (s.now < x.helloAt + 2000000000000) then s
  else
    let r := keyServer x s
    mkpduSend port (be 1 x.priority ++ be 1 r.1 ++ be 1 (bit x.asked 0)) (r.2.setMka port { x with helloAt := s.now })

/-- The receive channels with a new association: one for each live peer, its packet number starting again (R164, R565). -/
def newReceive (x : MkaPort) (an : Nat) : List (Nat × List (Nat × Nat)) :=
  (x.peers.take 4).map fun p =>
    (p.1, (an, 1) :: ((((x.rx.find? fun c => c.1 == p.1).map (·.2)).getD []).filter fun a => a.1 != an).take 1)

/-- SAK_INSTALL: a new association; its packet number starts again (R164, R410, R565). -/
def sakInstall (port keyNumber an : Nat) (s : State) : State :=
  let x := s.mka port
  if !s.online || x.cak.isNone then s
  else
    let s1 := s.setMka port { x with installed := true, rx := newReceive x an, keyNumber, an, installs := inc x.installs, asked := false }
    if port < 4 then s1.modTx port fun t => { t with sa := true, pn := 0, saAsked := false } else s1

end Sys2Proof.Machine
end

