-- ==== Sys2Proof/Machine/Update.lean ====
section
/-! DEFINITION. Field update: the Pritor header, the update commands 0x0C01 to 0x0C06, the copy, the trial and the images
of recovery boot (R592 to R607). -/

namespace Sys2Proof.Machine

/-! ### The Pritor header (R592, R593, R597) -/

/-- The largest PAYLOAD_LEN of a class (R593). -/
def largestPayload (cls : Nat) : Nat := if cls = 1 then 8388352 else if cls = 2 then 1048320 else 4194048

/-- CLASS and PAYLOAD_LEN of a header. -/
def hdrClass (h : List Byte) : Nat := fld h 5 1
def hdrLen (h : List Byte) : Nat := fld h 16 4

/-- A class is a code image. -/
def codeClass (cls : Nat) : Bool := cls == 1 || cls == 2

/-- The counter of a code class (R596). -/
def Otp.counter (u : Otp) (cls : Nat) : Nat := if cls = 1 then u.fwArb else u.catArb

/-- The early checks in their order: the status of the first that fails (R597). -/
def headerCheck (u : Otp) (h : List Byte) : Option Nat :=
  let cls := hdrClass h
  let arb := fld h 10 2
  if !(h.take 4 == ascii "PRTR" && fld h 4 1 == 1 && [1, 2, 16, 17, 18].contains cls) then some stImageClass
  else if codeClass cls && !(fld h 6 2 == 0x7216 && decide (fld h 8 1 ≤ 0xB0)) then some stImageTarget
  else if codeClass cls && !(decide (arb ≤ 128) && decide (u.counter cls ≤ arb)) then some stImageRollback
  else if codeClass cls && !(fld h 9 1 == 0 && allZero (slice h 121 39)) then some stImageClass
  else if largestPayload cls < hdrLen h then some stImageFit
  else none

/-- The root that an image's signer matches when its hash and its signature check (R592, R599). -/
def imageRoot (h payload : List Byte) : Option (List Byte) :=
  let pub := Config.decompress (slice h 72 49)
  if Config.sha384 payload = slice h 24 48 ∧ Config.ecdsaOk pub (h.take 160) (slice h 160 96) then some (Config.sha384 pub) else none

/-- The stored image of a header and a payload. -/
def imageOf (h payload : List Byte) : Image :=
  { version := fld h 12 4, arb := fld h 10 2, setFmt := fld h 20 2, setFmtMin := fld h 22 2, root := imageRoot h payload }

/-- The root that verifies images: the selected one, with the owner root that was in force at the last reset (R550, R559). -/
def imageRootNow (s : State) : Option (List Byte) :=
  match s.sys.lifecycle with
  | .provisioned | .field => s.sec.imageRoot
  | _ => selectedRoot s

/-- An image passes R599; `store` also allows the owner root in MANUFACTURE (R551, R559, R599). -/
def imageVerified (s : State) (store : Bool) (i : Image) : Bool :=
  i.root.isSome && (i.root == imageRootNow s || (store && s.sys.lifecycle == .manufacture && i.root == s.sec.imageRoot))

/-- An update event joins the last 8 (R605). -/
def updEvent (type bank : Nat) (s : State) : State :=
  { s with upd := { s.upd with events := ((s.stamp, type, bank) :: s.upd.events).take 8 } }

/-- The number of the bank that runs, and of the other: 0 A, 1 B (R597). -/
def runNumber (s : State) : Nat := bit s.upd.runB 0
def otherNumber (s : State) : Nat := 1 - runNumber s

/-- The running bank, changed. -/
def setRunBank (b : Bank) (s : State) : State :=
  if s.upd.runB then { s with upd := { s.upd with bankB := b } } else { s with upd := { s.upd with bankA := b } }

/-- The newest settings copy of a bank (R595). -/
def newestCopy (b : Bank) : Option SettingsCopy :=
  match vget none b.copies 0, vget none b.copies 1 with
  | some x, some y => if x.seq < y.seq then some y else some x
  | some x, none => some x
  | none, y => y

/-- A firmware reads a settings copy (R603). -/
def copyReadable (fw : Image) (c : SettingsCopy) : Bool := decide (fw.setFmtMin ≤ c.setFmt) && decide (c.setFmt ≤ fw.setFmt)

/-- The newest settings copy that the running firmware reads, with its number (R595, R603). -/
def validCopy (fw : Image) (b : Bank) : Option (Nat × SettingsCopy) :=
  let ok (i : Nat) : Option (Nat × SettingsCopy) := ((vget none b.copies i).filter (copyReadable fw)).map fun c => (i, c)
  match ok 0, ok 1 with
  | some x, some y => if x.2.seq < y.2.seq then some y else some x
  | some x, none => some x
  | none, y => y

/-! ### Commands (R597 to R600, R604, R607) -/

/-- Refused in SAFE (R607). -/
def updModes : Mode → Bool := fun m => m == .commission || m == .active || m == .standby || m == .service

/-- UPD_BEGIN's end: the session is open, and a code image's bank is WRITING (R597, R601). -/
def updBeginDone (ifc : Nat) (h : List Byte) (s : State) : State :=
  let cls := hdrClass h
  let s1 : State := { s with upd := { s.upd with session := some { ifc, header := h, cls, received := [], lastWrite := none } } }
  if codeClass cls then
    let b := s1.otherBank
    s1.setOtherBank { b with state := .writing, wrote := if b.state = .writing then b.wrote else [] }
  else s1

/-- UPD_BEGIN (R597): refused while a session or a copy runs and in a trial (R604; log entry 21). -/
def cmdUpdBegin : Cmd :=
  { opcode := 0x0C01, modes := updModes, lenOk := lenIs 256, checks := noChecks, journaled := jAlways, key := noKey
    run := fun s _ p =>
      if s.upd.trialEnd.isSome || s.upd.session.isSome || s.upd.copy then .err stBusy
      else match headerCheck s.sec.otp p with
        | some st => .err st
        | none => .long (.updBegin p) s }

/-- UPD_BEGIN's reply: the bank or the bundle slot, and the largest payload. -/
def updBeginReply (s : State) (h : List Byte) : List Byte :=
  let cls := hdrClass h
  be 1 (if codeClass cls then otherNumber s else cls) ++ be 4 (largestPayload cls)

/-- The code slot of a class is erased before its first write (R598). -/
def eraseSlot (cls : Nat) (b : Bank) : Bank := if cls = 1 then { b with fw := none } else { b with cat := none }

/-- UPD_WRITE's end (R598). -/
def updWriteDone (offset : Nat) (data : List Byte) (s : State) : State :=
  match s.upd.session with
  | none => s
  | some x =>
    let s1 : State := { s with upd := { s.upd with
      session := some { x with received := x.received ++ data, lastWrite := some (offset, data) }
      bundles := if codeClass x.cls then s.upd.bundles else vset s.upd.bundles (x.cls - 16) none } }
    if codeClass x.cls then s1.setOtherBank (eraseSlot x.cls s1.otherBank) else s1

/-- UPD_WRITE (R598). -/
def cmdUpdWrite : Cmd :=
  { opcode := 0x0C02, modes := updModes, lenOk := fun p => p.length == 6 + fld p 4 2
    checks := fun _ p => [(inRange (fld p 4 2) 1 16384, 4)]
    journaled := jAlways, key := noKey
    run := fun s _ p =>
      match s.upd.session with
      | none => .err stBusy
      | some x =>
        let offset := fld p 0 4
        let data := p.drop 6
        let total := be 4 x.received.length
        if x.lastWrite = some (offset, data) then .ok total s
        else if offset ≠ x.received.length then .bad 0
        else if hdrLen x.header < offset + data.length then .bad 4
        else .long (.updWrite offset data) s }

/-- UPD_END's end: the read-back, the checks of a code image, the store of a bundle (R599, R600). -/
def updEndDone (final auto : Bool) (window : Nat) (s : State) : Nat × State :=
  match s.upd.session with
  | none => (stBusy, s)
  | some x =>
    let s1 : State := { s with upd := { s.upd with session := none } }
    if !codeClass x.cls then (stOk, { s1 with upd := { s1.upd with bundles := vset s1.upd.bundles (x.cls - 16) (some (x.header, x.received)) } })
    else
      let i := imageOf x.header x.received
      let b := s1.otherBank
      if !imageVerified s true i then (stImageSignature, s1.setOtherBank (eraseSlot x.cls b))
      else
        let b1 : Bank := { b with
          fw := if x.cls = 1 then some i else b.fw, cat := if x.cls = 2 then some i else b.cat, wrote := x.cls :: b.wrote
          state := if final then .copying else .writing }
        let s2 := s1.setOtherBank b1
        (stOk, { s2 with upd := { s2.upd with copy := final, window := if final then (window, auto) else s2.upd.window } })

/-- Codes of the bank states (R601). -/
def BankState.code : BankState → Nat
  | .empty => 0 | .writing => 1 | .copying => 2 | .pending => 3 | .trial => 4 | .good => 5 | .failed => 6 | .stale => 7

/-- UPD_END (R599). -/
def cmdUpdEnd : Cmd :=
  { opcode := 0x0C03, modes := updModes, lenOk := lenIs 3
    checks := fun _ p => [(inRange (fld p 0 1) 0 3, 0), (fld p 1 2 == 0 || inRange (fld p 1 2) 10 3600, 1)]
    journaled := jAlways, key := noKey
    run := fun s _ p =>
      match s.upd.session with
      | none => .err stBusy
      | some x =>
        if x.received.length ≠ hdrLen x.header then .bad 0
        else .long (.updEnd (fld p 0 1 % 2 = 1) (fld p 0 1 / 2 % 2 = 1) (if fld p 1 2 = 0 then 120 else fld p 1 2)) s }

/-- A bank in UPD_GET_STATUS (R607). -/
def bankBytes (b : Bank) : List Byte :=
  let f (g : Image → Nat) : Nat := (b.fw.map g).getD 0
  let c (g : Image → Nat) : Nat := (b.cat.map g).getD 0
  be 1 b.state.code ++ be 4 (f (·.version)) ++ be 4 (c (·.version)) ++ be 2 (f (·.arb)) ++ be 2 (c (·.arb)) ++ be 2 (f (·.setFmt))

/-- Whole seconds left of the trial, rounded up. -/
def trialLeft (s : State) : Nat := match s.upd.trialEnd with | some t => cdiv (t - s.now) 1000000000000 | none => 0

/-- UPD_GET_STATUS (R607): events newest first; the copy's progress is a free figure (log entry 21). -/
def cmdUpdGetStatus : Cmd :=
  { opcode := 0x0C04, modes := updModes, lenOk := lenIs 0, checks := noChecks, journaled := jNever, key := noKey
    run := fun s _ _ =>
      let r1 := s.draw
      let v := r1.1
      let s1 := r1.2
      let u := s.upd
      let events := u.events.flatMap fun (t, ty, b) => stampBytes t ++ be 1 ty ++ be 1 b
      .ok (be 1 (runNumber s) ++ bankBytes u.bankA ++ bankBytes u.bankB ++ be 1 s.sec.otp.fwArb ++ be 1 s.sec.otp.catArb
        ++ be 1 ((u.session.map (·.cls)).getD 0) ++ be 4 ((u.session.map (·.received.length)).getD 0)
        ++ be 1 (if u.copy then v % 101 else 0) ++ be 4 (trialLeft s) ++ be 1 (bitsOf (u.bundles.toList.map (·.isSome)))
        ++ padTo 112 events) s1 }

/-- A bank's ARB lies below a counter (R601, R604). -/
def bankStale (u : Otp) (b : Bank) : Bool :=
  (match b.fw with | some i => decide (i.arb < u.fwArb) | none => false) || (match b.cat with | some i => decide (i.arb < u.catArb) | none => false)

/-- A trial is confirmed (R604). -/
def confirmTrial (s : State) : State :=
  let r1 := s.upd.running
  let fw := r1.1
  let cat := r1.2
  let o := s.sec.otp
  let s1 : State := { s with
    sec := { s.sec with otp := { o with
      arbFw := otpRaise ((fw.map (·.arb)).getD 0 - o.fwArb) o.arbFw, arbCat := otpRaise ((cat.map (·.arb)).getD 0 - o.catArb) o.arbCat } }
    upd := { s.upd with trialEnd := none } }
  let s2 := setRunBank { s1.upd.runBank with state := .good } s1
  let s3 := if bankStale s2.sec.otp s2.otherBank then s2.setOtherBank { s2.otherBank with state := .stale } else s2
  updEvent 3 (runNumber s3) s3

/-- UPD_CONFIRM (R604, R607). -/
def cmdUpdConfirm : Cmd :=
  { opcode := 0x0C05, modes := updModes, lenOk := lenIs 0, checks := noChecks, journaled := jAlways, key := noKey
    run := fun s _ _ => match s.upd.trialEnd with
      | some t => if s.now < t then .long .updConfirm s else .err stBusy
      | none => .err stBusy }

/-- UPD_ABORT (R607). -/
def cmdUpdAbort : Cmd :=
  { opcode := 0x0C06, modes := updModes, lenOk := lenIs 0, checks := noChecks, journaled := jAlways, key := noKey
    run := fun s _ _ => .long .updAbort s }

/-! ### The copy and the trial window (R600, R604) -/

/-- UPDATE_COPY_DONE: the code slots that no session wrote, the newest valid settings copy, PENDING (R600). -/
def updateCopyDone (s : State) : State :=
  if !s.upd.copy || s.otherBank.state ≠ .copying then s
  else
    let b := s.otherBank
    let r1 := s.upd.running
    let fw := r1.1
    let cat := r1.2
    let settings := match fw with | some f => (validCopy f s.upd.runBank).map (·.2) | none => none
    let s1 := s.setOtherBank { b with
      fw := if b.wrote.contains 1 then b.fw else fw, cat := if b.wrote.contains 2 then b.cat else cat
      copies := #v[settings, none], state := .pending, wrote := [] }
    updEvent 1 (otherNumber s) { s1 with upd := { s1.upd with copy := false } }

/-- The trial fails: the bank is FAILED, with a reason (R602, R605). -/
def failTrial (reason : Nat) (s : State) : State :=
  updEvent 4 (runNumber s + 16 * reason) (setRunBank { s.upd.runBank with state := .failed } s)

/-- TRIAL_WINDOW_END (R604): a confirmation whose execution has started counts. -/
def trialWindowEnd (s : State) : State :=
  match s.upd.trialEnd with
  | none => s
  | some t =>
    let confirming : Bool := match s.host.executing with | some e => e.op = .updConfirm | none => false
    if decide (s.now < t) || confirming then s
    else if s.upd.window.2 && s.sys.mode.aligns then confirmTrial s
    else resetEdge .warm (failTrial 1 { s with upd := { s.upd with trialEnd := none } })

/-! ### Recovery boot (R606) -/

/-- An IMAGE frame is refused: NAK with a reason; the image comes again from FIRST. -/
def imageNak (q reason : Nat) (r : Recovery) (s : State) : State :=
  svcNak q reason { s with upd := { s.upd with recovery := some { r with buf := [] } } }

/-- An IMAGE frame that is next in order: a fragment of the firmware image, then of the catalogue image (R606). -/
def imageFragment (q flags : Nat) (payload : List Byte) (r : Recovery) (s : State) : State :=
  let old := if flags % 2 = 1 then [] else r.buf
  let buf := old ++ payload
  let want := if r.fw.isSome then 2 else 1
  let early : Option Nat := if old.length < 256 ∧ 256 ≤ buf.length then
      (if hdrClass buf ≠ want then some stImageClass else headerCheck s.sec.otp (buf.take 256)) else none
  match early with
  | some st => imageNak q st r s
  | none =>
    let took (s : State) : State := svcAck q { s with host := { s.host with bastik := { s.host.bastik with lastRx := some (BitVec.ofNat 8 q) } } }
    if flags / 2 % 2 = 0 then took { s with upd := { s.upd with recovery := some { r with buf } } }
    else
      let h := buf.take 256
      let i := imageOf h (buf.drop 256)
      if !(decide (buf.length = 256 + hdrLen h) && imageVerified s false i) then imageNak q stImageSignature r s
      else match r.fw with
        | none => took { s with upd := { s.upd with recovery := some { buf := [], fw := some i } } }
        | some f =>
          updEvent 8 (runNumber s) (took { s with
            upd := { s.upd with recovery := none, dramImages := some (f, i) }, sys := { s.sys with bootedSvc := true, wdogAt := s.now } })

/-- BASTIK_IMAGE: outside a recovery boot an IMAGE frame is out of sequence (R589, R590, R606; log entry 21). -/
def bastikImage (f : List Byte) (s : State) : State :=
  if !s.svcRuns then s
  else if 4106 < f.length then framingLoss s
  else
    let q := fld f 1 1
    if !svcFrameOk f then svcNak q 1 s
    else match s.upd.recovery with
      | none => svcNak q 2 s
      | some r => match svcSeq s.host.bastik q with
        | .again => svcAck q s
        | .wrong => svcNak q 2 s
        | .next => imageFragment q (fld f 2 1) (slice f 6 (fld f 4 2)) r s

end Sys2Proof.Machine
end

