-- ==== Sys2Proof/Machine/Boot.lean ====
section
/-! DEFINITION. Supplies, resets and the start of BOOT: rails, RESET_N, leaving reset, the bank that boots, main-supply
loss, RESERVE, and the wake from DORMANT (R59, R71, R84 to R89, R537, R553, R557, R574 to R578, R584, R602). -/

namespace Sys2Proof.Machine

/-! ### Resets (R84, R537, R576) -/

/-- MAIN_RAILS_GOOD: a POR; from RESERVE the time base passes back to TCLK at the next KCLK edge, at most 4 ns of E (R89, R147). -/
def mainRailsGood (s : State) : State :=
  match s.sys.phase with
  | .unpowered => resetEdge .por s
  | .reserve => resetEdge .por { s with time := { s.time with err := s.time.err + 4, clockPass := kclkEdgeFrom s.now } }
  | _ => s

/-- RESET_N_ASSERT: low for 10 µs (R576). Without main rails, and in the thermal shutdown, only the pin's level counts (R89, R573). -/
def resetNAssert (s : State) : State :=
  let s1 : State := { s with sys := { s.sys with resetN := true } }
  match s.sys.phase with
  | .running | .held .warm | .held .wdog | .held .fault => resetEdge .pin s1
  | _ => s1

/-- The supervisor firmware runs, so that the watchdog does (R537, R552, R606). -/
def firmwareRuns (s : State) : Bool := s.sys.phase = .running && !s.sys.stuck && s.upd.recovery.isNone

/-! ### The bank that boots (R597, R599, R602) -/

/-- Bank 0 or 1, and a change of it. -/
def bankOf (u : UpdSt) (n : Nat) : Bank := if n = 0 then u.bankA else u.bankB
def setBank (n : Nat) (b : Bank) (s : State) : State :=
  if n = 0 then { s with upd := { s.upd with bankA := b } } else { s with upd := { s.upd with bankB := b } }

/-- A bank fails, with a reason (R602, R605). -/
def failBank (n reason : Nat) (s : State) : State :=
  updEvent 4 (n + 16 * reason) (setBank n { bankOf s.upd n with state := .failed } s)

/-- Both images of a bank pass the checks; with `store`, the owner root of MANUFACTURE counts too (R597, R599, R602). -/
def bankPasses (s : State) (store : Bool) (b : Bank) : Bool :=
  match b.fw, b.cat with
  | some f, some c => imageVerified s store f && imageVerified s store c && decide (s.sec.otp.fwArb ≤ f.arb) && decide (s.sec.otp.catArb ≤ c.arb)
  | _, _ => false

/-- A bank is tried: it boots, a PENDING one on trial; it is skipped; or it fails (R599, R602). -/
def tryBank (n : Nat) (s : State) : Bool × State :=
  let b := bankOf s.upd n
  if bankPasses s false b then
    let s1 : State := { s with upd := { s.upd with runB := n = 1 } }
    (true, if b.state = .pending then updEvent 2 n (setBank n { b with state := .trial } s1) else s1)
  else if bankPasses s true b then (false, s)
  else (false, failBank n 3 s)

/-- The banks that are tried in order: PENDING, then GOOD (R602). -/
def tryBanks : List Nat → State → Bool × State
  | [], s => (false, s)
  | n :: ns, s => if (tryBank n s).1 then tryBank n s else tryBanks ns (tryBank n s).2

/-- The banks in a state. -/
def banksIn (x : BankState) (u : UpdSt) : List Nat := [0, 1].filter fun n => (bankOf u n).state == x

/-- The boot ROM waits for the images of a recovery boot (R606). -/
def awaitImages (s : State) : State := { s with upd := { s.upd with recovery := some { buf := [], fw := none } } }

/-- The boot ROM picks a bank, waits for a recovery boot, or BOOT never ends (R602, R606). -/
def pickBank (s : State) : State :=
  if s.sys.straps.bootSrc && s.sys.straps.svcEn then awaitImages s
  else
    let s1 := (banksIn .trial s.upd).foldl (fun s n => failBank n 2 s) s
    let r := tryBanks (banksIn .pending s1.upd ++ banksIn .good s1.upd) s1
    if r.1 then r.2
    else if r.2.sys.straps.svcEn then awaitImages r.2
    else { r.2 with sys := { r.2.sys with stuck := true } }

/-! ### Leaving reset (R553, R554, R557, R578) -/

/-- The remaining fuses of a group that a burn took are blown (R553). -/
def fullFuses (f : Vector Nat 5) : Vector Nat 5 := f.map fun n => if 3 ≤ n then 8 else n

/-- Both settings areas of a bank are erased. -/
def eraseSettings (s : State) : State :=
  { s with upd := { s.upd with
    bankA := { s.upd.bankA with copies := Vector.replicate 2 none }, bankB := { s.upd.bankB with copies := Vector.replicate 2 none } } }

/-- The flash copy of the journal is erased. -/
def eraseJournal (s : State) : State := { s with upd := { s.upd with flashJournal := [] } }

/-- The lifecycle fuses as BOOT reads them; a move into RETURN or SCRAPPED has every effect of R556, and SCRAPPED destroys the
device-unique secret (R553, R554, R557). -/
def readFuses (s : State) : State :=
  let f := fullFuses s.sec.fuses
  let l := fuseState f
  let moved := l != s.sys.lifecycle && (l == .return || l == .scrapped)
  let s1 : State := { s with
    sec := { s.sec with fuses := f, otp := { s.sec.otp with secret := if l = .scrapped then List.replicate 8 otpOnes else s.sec.otp.secret } }
    sys := { s.sys with lifecycle := l, stuck := l == .blank || l == .scrapped, markerLost := s.sys.markerLost || moved } }
  if moved then eraseJournal (eraseSettings s1) else if l = .return then eraseSettings s1 else s1

/-- Every item of the reserve domain. -/
def reserveItems : List ReserveItem :=
  [.timeBase, .utc, .reserveIncrement, .energyOther, .epochs, .nextJseq, .lastFault, .safeEntries, .autoLeaves, .clearCount, .resetHistory]

/-- The reserve domain as BOOT reads it: restarted where its marker word is absent; otherwise the epochs advance (R113,
R302, R467, R486, R578). -/
def readReserve (s : State) : State :=
  if s.sys.markerLost then
    let s1 := reserveItems.foldl (fun s i => reserveItemLost i s) s
    { s1 with
      time := { clockPass := s1.time.clockPass }
      energy := energyAfterReset true s1.energy
      integ := { s1.integ with injected := s1.integ.injected.filter fun x => x.cls ≠ 12 }
      sys := { s1.sys with reserveLost := true, markerLost := false, history := countHistory s1.sys.lastReset.code s1.sys.history } }
  else
    let next (i : Iface) : Iface := { i with epoch := i.epoch + 1 }
    { s with
      host := { s.host with ring := next s.host.ring, mgmt := next s.host.mgmt, svc := next s.host.svc }
      sys := { s.sys with reserveLost := false } }

/-- The words of the OTP that BOOT reads under SECDED, each with its number and as it is stored; the counters are read with
their check bits ignored (R526, R548, R578, R596). -/
def otpStored (s : State) : List (OtpWord × Nat) :=
  (s.sec.otp.words.zipIdx.filter fun x => decide (x.2 < 70) || decide (325 < x.2)).map fun x =>
    (x.1 ^^^ (injectedFlips 14 0 x.2 s).extractLsb' 0 39, x.2)

/-- BOOT reads the OTP: its errors count; the roots in force are latched (R526, R559, R578). -/
def readOtp (s : State) : State :=
  latchRoot ((otpStored s).foldl (fun s x => countError 14 x.2 (wordSyndrome x.1) (otpRead x.1) s) s)

/-- The syndrome of a word of the OTP that BOOT cannot read: a lockout (R526, R544). -/
def otpBad (s : State) : Option Nat := ((otpStored s).find? fun x => (otpRead x.1).isBad).map fun x => wordSyndrome x.1

/-- A capacity of a channel that the device supports, in GiB (R59). -/
def gibOk (n : Nat) : Bool := n == 2 || n == 4 || n == 8

/-- LEAVE_RESET: straps on a cold reset, fuses, capacity, reserve domain, journal, time base, bank; the thermal shutdown prevails
over it (R71, R59, R144, R486, R573, R578). -/
def leaveReset (pins : StrapPins) (gib0 gib1 : Nat) (s : State) : State :=
  match s.sys.phase with
  | .held k =>
    if s.sys.resetN || scorched s || !(gibOk gib0 && gibOk gib1) then s
    else
      let cold : Bool := k = .por ∨ k = .pin
      let s1 := deriveKeys <| readReserve (readFuses { readOtp s with sys := { s.sys with
        straps := if cold then pins else s.sys.straps, capacity := 2 * min gib0 gib1 } })
      let s2 : State := { s1 with
        host := { s1.host with journal := s1.upd.flashJournal }
        time := s1.time.restart
        sys := { s1.sys with phase := .running, wdogAt := s1.now, upPs := 0 } }
      match otpBad s2 with
      | some y => lockout 14 14 (BitVec.ofNat 32 y) s2
      | none => if s2.sys.stuck then s2 else pickBank s2
  | _ => s

/-! ### Supply loss and RESERVE (R86 to R89, R147, R583, R584) -/

/-- The device goes unpowered: the reserve domain and the counters of the time group are lost (R87, R161). -/
def unpower (s : State) : State :=
  let s1 := wipe .por .unpowered s
  { s1 with time := {}, sys := { s1.sys with markerLost := true } }

/-- MAIN_SUPPLY_LOSS: what the energy unit and the current chains need passes to RESERVE (R87, R287, R305). -/
def mainSupplyLoss (vresOk : Bool) (s : State) : State :=
  match s.sys.phase with
  | .running | .held _ | .thermal =>
    if vresOk then
      let s1 := wipe .por .handoff s
      { s1 with
        front := s.front
        energy := (energyStop s).energy
        time := { s1.time with dReserve := s.time.dReserve } }
    else unpower s
  | _ => s

/-- RESERVE_HANDOFF_DONE: RESERVE, recorded in the history; the time base passes to KCLK at its next edge, at most 4 ns of E
(R88, R147, R584). -/
def handoffDone (short : Bool) (s : State) : State :=
  if s.sys.phase = .handoff then
    let h := countHistory 5 s.sys.history
    let s1 : State := { s with
      sys := { s.sys with phase := .reserve, mode := .reserve, history := if short then countHistory 6 h else h }
      time := { s.time with err := s.time.err + 4, clockPass := kclkEdgeFrom s.now } }
    energyReserve (frontReserve s1)
  else s

/-! ### The wake from DORMANT (R574) -/

/-- An enabled edge falls on an input of the wake mask. -/
def wakeInput (s : State) (input : Nat) : Bool :=
  decide (input < 16) && s.sys.wakeMask.getLsbD input && (edgeSelected s.time.evtEdges input false || edgeSelected s.time.evtEdges input true)

/-- DORMANT_WAKE: at the wake time, or on an edge of an input in the mask (R574). -/
def dormantWake (input : Option Nat) (s : State) : State :=
  let due := match input with
    | none => decide (0 < s.sys.wakeTime) && decide (s.sys.wakeTime ≤ stampSec s.stamp)
    | some i => wakeInput s i
  if s.sys.phase = .running && s.sys.mode = .dormant && due then
    let s1 : State := { s with sys := { s.sys with wakeTime := 0, wakeMask := 0 } }
    if s.sys.wakeActive then requestActive s1 else changeMode .commission false s1
  else s

end Sys2Proof.Machine
end

