-- ==== Sys2Proof/Machine/RowsBoot.lean ====
section
/-! DEFINITION. The meanings of the rows whose operations stand in `Boot.lean`: each row carries the time passed since the row before. -/

namespace Sys2Proof.Machine

/-- MAIN_RAILS_GOOD (R84). -/
def execMainRailsGood (dt : Ps) (s : State) : Host.Outcome State Fault Refusal := .next (mainRailsGood (s.elapse dt))

/-- RESET_N_ASSERT (R576). -/
def execResetNAssert (dt : Ps) (s : State) : Host.Outcome State Fault Refusal := .next (resetNAssert (s.elapse dt))

/-- RESET_N_RELEASE (R84). -/
def execResetNRelease (dt : Ps) (s : State) : Host.Outcome State Fault Refusal :=
  let s := s.elapse dt
  .next { s with sys := { s.sys with resetN := false } }

/-- WARM_RESET: the reply that announces it has left (R556, R576, R585). -/
def execWarmReset (dt : Ps) (s : State) : Host.Outcome State Fault Refusal :=
  let s := s.elapse dt
  .next (if s.sys.phase = .running && s.host.warmDue then resetEdge .warm s else s)

/-- WDOG_EXPIRY: 100 ms after the last service; only a POR or a PIN reset ends a SAFE without a command interface (R537, R545). -/
def execWdogExpiry (dt : Ps) (s : State) : Host.Outcome State Fault Refusal :=
  let s := s.elapse dt
  .next (if firmwareRuns s && !s.integ.noInterface && decide (s.sys.wdogAt + 100000000000 ≤ s.now) then resetEdge .wdog s else s)

/-- LEAVE_RESET (R578). -/
def execLeaveReset (dt : Ps) (pins : StrapPins) (gib0 gib1 : Nat) (s : State) : Host.Outcome State Fault Refusal :=
  .next (leaveReset pins gib0 gib1 (s.elapse dt))

/-- MAIN_SUPPLY_LOSS (R86). -/
def execMainSupplyLoss (dt : Ps) (vresOk : Bool) (s : State) : Host.Outcome State Fault Refusal := .next (mainSupplyLoss vresOk (s.elapse dt))

/-- RESERVE_HANDOFF_DONE (R87). -/
def execReserveHandoffDone (dt : Ps) (short : Bool) (s : State) : Host.Outcome State Fault Refusal := .next (handoffDone short (s.elapse dt))

/-- VRES_LOSS: without main rails the device goes unpowered (R87). -/
def execVresLoss (dt : Ps) (s : State) : Host.Outcome State Fault Refusal :=
  let s := s.elapse dt
  .next (if s.sys.phase = .handoff ∨ s.sys.phase = .reserve then unpower s else s)

/-- DORMANT_WAKE (R574). -/
def execDormantWake (dt : Ps) (input : Option Nat) (s : State) : Host.Outcome State Fault Refusal := .next (dormantWake input (s.elapse dt))

end Sys2Proof.Machine
end

