-- ==== Sys2Proof/Machine/EnergyCmd.lean ====
section
/-! DEFINITION. The energy commands 0x0601 to 0x060A (R314 to R316). -/

namespace Sys2Proof.Machine

/-- A line number. -/
def lineCheck (p : List Byte) : Bool × Nat := (inRange (fld p 0 1) 0 1, 0)

/-- The channels of phase `k` in ENERGY_SET_LINE; 0xFF in both marks it unused. -/
def phaseChans (p : List Byte) (k : Nat) : Option (Nat × Nat) :=
  if fld p (1 + 2 * k) 1 = 0xFF then none else some (fld p (1 + 2 * k) 1, fld p (2 + 2 * k) 1)

/-- The assignment checks of one phase: the ranges; a voltage channel once in a line; a current channel once in all
(R285, R286). -/
def phaseChecks (s : State) (p : List Byte) (k : Nat) : List (Bool × Nat) :=
  let v := fld p (1 + 2 * k) 1
  let i := fld p (2 + 2 * k) 1
  let earlier := (List.range k).filterMap (phaseChans p)
  let other := (s.line (1 - fld p 0 1)).given.filterMap id
  [(v == 0xFF || (decide (v ≤ 7) && earlier.all fun c => c.1 != v), 1 + 2 * k),
   (if v = 0xFF then i == 0xFF else decide (i ≤ 7) && (earlier ++ other).all (fun c => c.2 != i), 2 + 2 * k)]

def cmdEnergySetLine : Cmd :=
  { opcode := 0x0601, modes := anyMode, lenOk := lenIs 11
    checks := fun s p => lineCheck p :: ((List.range 3).flatMap (phaseChecks s p)) ++ [(decide (fld p 7 4 ≤ 100000000), 7)]
    journaled := jAlways, key := keyByte 0x0601
    run := fun s _ p =>
      .ok [] (s.setLine (fld p 0 1) { s.line (fld p 0 1) with
        assigned := some ((List.range 3).map (phaseChans p)), pStart := fld p 7 4 }) }

def cmdEnergySetInterval : Cmd :=
  { opcode := 0x0602, modes := anyMode, lenOk := lenIs 1
    checks := fun _ p => [([0, 1, 5, 10, 15, 30, 60].contains (fld p 0 1), 0)]
    journaled := jAlways, key := keyOne 0x0602
    run := fun s _ p => .ok [] { s with energy := { s.energy with interval := fld p 0 1, lastBoundary := none } } }

/-- UF_LIMIT from 0.1 A, as the nearest fp32 value, to 10,000 A (R306; log entry 13). -/
def ufLimitOk (x : F32) : Bool := f32Le 0x3DCCCCCD#32 x && f32Le x 0x461C4000#32

def cmdEnergySetReserve : Cmd :=
  { opcode := 0x0603, modes := anyMode, lenOk := lenIs 7
    checks := fun _ p => [lineCheck p, (ufLimitOk (BitVec.ofNat 32 (fld p 1 4)), 1), (inRange (fld p 5 2) 10 60000, 5)]
    journaled := jAlways, key := keyByte 0x0603
    run := fun s _ p => .ok [] (s.setLine (fld p 0 1) { s.line (fld p 0 1) with ufLimit := BitVec.ofNat 32 (fld p 1 4), ufQual := fld p 5 2 }) }

/-- The state of a line (R314). -/
def lineState (s : State) (x : LineSt) : Nat :=
  if x.off then 0
  else match energyRun s with
    | .reserve => 4
    | .follow => 3
    | _ => if x.wasMeasured then 2 else 1

def cmdEnergyRead : Cmd :=
  { opcode := 0x0604, modes := anyMode, lenOk := lenIs 1, checks := fun _ p => [lineCheck p], journaled := jNever, key := noKey
    run := fun s _ p =>
      let x := s.line (fld p 0 1)
      .ok (stampBytes s.energy.lastTap ++ be 1 (lineState s x) ++ lineReadings x ++ be 8 x.measured.toNat ++ be 8 x.unmeasured.toNat) s }

def cmdEnergyReadReserve : Cmd :=
  { opcode := 0x0605, modes := anyMode, lenOk := lenIs 2, checks := fun _ p => [lineCheck p, (inRange (fld p 1 1) 0 1, 1)]
    journaled := fun p _ => fld p 1 1 == 1, key := noKey
    run := fun s _ p =>
      let x := s.line (fld p 0 1)
      let ah (q : PhaseSt) : List Byte := if q.used then reading q.ah else List.replicate 5 0
      let cleared : LineSt := { x with phases := x.phases.map fun q => { q with unmetered := false } }
      .ok (x.phases.toList.flatMap ah ++ be 1 (bitsOf (x.phases.toList.map (·.unmetered))) ++ be 8 x.reserveTime.toNat)
        (if fld p 1 1 = 1 then s.setLine (fld p 0 1) cleared else s) }

def cmdEnergyReadSnapshot : Cmd :=
  { opcode := 0x0606, modes := anyMode, lenOk := lenIs 1
    checks := fun s p => [(inRange (fld p 0 1) 0 15 && decide (fld p 0 1 < s.energy.snaps.length), 0)]
    journaled := jNever, key := noKey
    run := fun s _ p => match s.energy.snaps[fld p 0 1]? with
      | some x => .ok (stampBytes x.instant ++ be 4 x.seq ++ x.readings ++ x.times.flatMap (be 8)) s
      | none => .bad 0 }

/-- The status of a line (R314). -/
def lineStatus (s : State) (x : LineSt) : List Byte :=
  be 1 (lineState s x) ++ be 1 (bitsOf (x.phases.toList.map (·.measured))) ++ be 1 (bitsOf (x.sets.toList.map (·.export_)))
    ++ be 1 (bit x.fresh 0) ++ be 4 (bitsOf (x.sets.toList.flatMap fun e => e.accums.map (·.corrupt))) ++ be 4 x.cClamped

def cmdEnergyGetStatus : Cmd :=
  { opcode := 0x0607, modes := anyMode, lenOk := lenIs 0, checks := noChecks, journaled := jNever, key := noKey
    run := fun s _ _ =>
      .ok (lineStatus s s.energy.line0 ++ lineStatus s s.energy.line1 ++ be 4 s.energy.clearCount.toNat ++ be 4 s.energy.evtLost) s }

/-- An event record (R309). -/
def energyEvtBytes (e : EnergyEvt) : List Byte :=
  stampBytes e.stamp ++ be 1 (e.type * 16 + e.line * 8 + e.phase) ++ be 1 (e.acc * 16) ++ be 2 e.seq

def cmdEnergyReadEvents : Cmd :=
  { opcode := 0x0608, modes := anyMode, lenOk := lenIs 1, checks := fun _ p => [(inRange (fld p 0 1) 1 16, 0)]
    journaled := fun _ d => decide (0 < fld d 0 1), key := noKey
    run := fun s _ p =>
      let es := s.energy.events.take (fld p 0 1)
      .ok (be 1 es.length ++ es.flatMap energyEvtBytes) { s with energy := { s.energy with events := s.energy.events.drop (fld p 0 1) } } }

/-- ENERGY_CLEAR of a line (R316). -/
def clearLine (x : LineSt) : LineSt :=
  { x with sets := Vector.replicate 4 {}, measured := 0, unmeasured := 0, reserveTime := 0, fresh := false
           phases := x.phases.map fun p => { p with ah := {}, unmetered := false } }

def cmdEnergyClear : Cmd :=
  { opcode := 0x060A, modes := fun m => m == .commission, lenOk := lenIs 1, checks := fun _ p => [lineCheck p], journaled := jAlways, key := noKey
    run := fun s _ p =>
      let s1 := s.setLine (fld p 0 1) (clearLine (s.line (fld p 0 1)))
      let n := s1.energy.clearCount + 1
      .ok (be 4 n.toNat) { s1 with energy := { s1.energy with clearCount := n } } }

end Sys2Proof.Machine
end

