-- ==== Sys2Proof/Machine/FrontCmd.lean ====
section
/-! DEFINITION. The front-end commands 0x0501 to 0x050A (R283, R284). -/

namespace Sys2Proof.Machine

/-- The reporting rates listed for a nominal frequency (R277). -/
def localRates (fnom50 : Bool) : List Nat := if fnom50 then [10, 25, 50, 100] else [10, 12, 15, 20, 30, 60, 120]

/-- Chains that a preset change restarts: enabled, and neither LOST nor RESUMING (R262, R263). -/
def presetRestart (x : InputSt) : InputSt :=
  match x.chain with
  | .settling | .valid => { x with presetDue := true }
  | _ => x

/-- FE_SET_PRESET takes effect: a change of FNOM alone restarts no chain (R262, R279). -/
def setPreset (preset : Nat) (min fnom50 : Bool) (s : State) : State :=
  let f := s.front
  let restarts := f.preset ≠ preset ∨ f.firMin ≠ min ∨ f.fnom50 = fnom50
  let s1 : State := { s with front := { f with
    preset, firMin := min, fnom50
    inputs := if restarts then f.inputs.map presetRestart else f.inputs
    locals_ := f.locals_.map fun l => { l with changedAt := some s.now }
    cPreset := if restarts then inc f.cPreset else f.cPreset } }
  refreshSessions s1

def cmdFeSetPreset : Cmd :=
  { opcode := 0x0501, modes := anyMode, lenOk := lenIs 3
    checks := fun s p => [(inRange (fld p 0 1) 0 3, 0), (inRange (fld p 1 1) 0 1, 1),
      (inRange (fld p 2 1) 0 1 && s.front.locals_.all fun l => !l.enabled || (localRates (fld p 2 1 == 1)).contains l.rate, 2)]
    journaled := jAlways, key := keyOne 0x0501
    run := fun s _ p =>
      let x := presetOf (fld p 0 1)
      .ok (be 4 (settleCount x) ++ be 4 (groupHalves x (fld p 1 1 == 1))) (setPreset (fld p 0 1) (fld p 1 1 == 1) (fld p 2 1 == 1) s) }

/-- A channel without an enabled input is absent: its detectors hold nothing (R251). -/
def absentChan (c : Nat) (s : State) : State :=
  let x := s.chan c
  let on := (s.input (hiInput c)).enabled || (match loInput c with | some i => (s.input i).enabled | none => false)
  if on then s
  else s.setChan c { x with ok := false, peak := none, rms := none, env := 0, pkOk := false, rmsOk := false, armed := false, prev := none
                            crossings := [], tapGroup := [], tap := none }

/-- One input's enable and instant change (R251, R260, R262). -/
def setSampling (i : Nat) (b : Nat) (s : State) : State :=
  let x := s.input i
  let on := b.testBit 7
  let y := { x with enabled := on, instant := b % 4 }
  let runs := inputClock s i
  absentChan (inputChan i) (s.setInput i (
    if !on then { y with chain := .off, restartDue := false, presetDue := false, vValid := false, resumeRun := 0 }
    else if !x.enabled then { y with chain := if runs then .settling else .stopped, restartDue := runs, vValid := false }
    else if x.instant ≠ b % 4 then { y with restartDue := runs }
    else y))

def cmdFeSetSampling : Cmd :=
  { opcode := 0x0502, modes := anyMode, lenOk := lenIs 24
    checks := fun _ p => (List.range 24).map fun i => (decide (fld p i 1 % 128 < 4), i)
    journaled := jAlways, key := keyOne 0x0502
    run := fun s _ p => .ok [] ((List.range 24).foldl (fun s i => setSampling i (fld p i 1) s) s) }

def cmdFeSetCal : Cmd :=
  { opcode := 0x0503, modes := anyMode, lenOk := lenIs 13
    checks := fun _ p => [(inRange (fld p 0 1) 0 23, 0), (inRangeI (sfld p 9 4) (-32768) 32768, 9)]
    journaled := jAlways, key := keyByte 0x0503
    run := fun s _ p => .ok [] (tableWritten 6 (fld p 0 1) 1 (s.setInput (fld p 0 1) { s.input (fld p 0 1) with
      offset := BitVec.ofNat 32 (fld p 1 4), gain := BitVec.ofNat 32 (fld p 5 4), delay := sfld p 9 4 })) }

def cmdFeSetRange : Cmd :=
  { opcode := 0x0504, modes := anyMode, lenOk := lenIs 2
    checks := fun _ p => [(inRange (fld p 0 1) 0 7, 0), (inRange (fld p 1 1) 0 2, 1)]
    journaled := jAlways, key := keyByte 0x0504
    run := fun s _ p =>
      let r := s.range (fld p 0 1)
      .ok [] (s.setRange (fld p 0 1) (match fld p 1 1 with
        | 0 => { r with mode := .auto }
        | 1 => { r with mode := .forceHi, lo := false }
        | _ => { r with mode := .forceLo, lo := true })) }

def cmdFeSetDetectors : Cmd :=
  { opcode := 0x0505, modes := anyMode, lenOk := lenIs 11
    checks := fun _ p => [(inRange (fld p 0 1) 0 15, 0), (inRange (fld p 1 1) 1 60, 1), (inRange (fld p 2 1) 1 60, 2),
      (inRange (fld p 3 4) 100 1000000, 3), (inRange (fld p 7 4) 1000 10000000, 7)]
    journaled := jAlways, key := keyByte 0x0505
    run := fun s _ p => .ok [] (s.setChan (fld p 0 1) { s.chan (fld p 0 1) with
      wPk := fld p 1 1, wRms := some (fld p 2 1), attack := fld p 3 4, release := fld p 7 4 }) }

/-- The settings that FE_SET_LOCAL_STREAM spells (R283). -/
def localOf (p : List Byte) : LocalCfg :=
  { enabled := fld p 1 1 == 1, classM := fld p 2 1 == 1, rate := fld p 3 2, mask := BitVec.ofNat 16 (fld p 5 2), refChan := fld p 7 1
    analogs := (List.range (fld p 8 1)).map fun i => fld p (9 + i) 1, digital := fld p 25 1 == 1, idcode := fld p 26 2 }

/-- The changes of a stream's settings with one now; those more than a second old have no instant left to record (R278). -/
def changesWith (s : State) (l : LocalStream) : List (LocalCfg × Stamp) :=
  l.before.filter (fun x => decide (stampDiff s.stamp x.2 < unitsPerSec)) ++ [(l.toLocalCfg, s.stamp)]

/-- The slot bytes of a local stream (R244). -/
def localSlot (g : LocalCfg) : Nat := 32 + 8 * popcount 16 g.mask + 8 + 4 * g.analogs.length + 2 * (if g.digital then 1 else 0)

def cmdFeSetLocalStream : Cmd :=
  { opcode := 0x0506, modes := anyMode, lenOk := lenIs 28
    checks := fun s p => [(inRange (fld p 0 1) 0 3, 0), (inRange (fld p 1 1) 0 1, 1), (inRange (fld p 2 1) 0 1, 2),
      ((localRates s.front.fnom50).contains (fld p 3 2), 3), (inRange (fld p 7 1) 0 15, 7), (inRange (fld p 8 1) 0 16, 8)]
      ++ ((List.range (min (fld p 8 1) 16)).map fun i => (decide (fld p (9 + i) 1 < 64), 9 + i)) ++ [(inRange (fld p 25 1) 0 1, 25)]
    journaled := jAlways, key := keyByte 0x0506
    run := fun s _ p =>
      let n := fld p 0 1
      let g := localOf p
      let l := s.localStream n
      let put (l' : LocalStream) : State := { s with front := { s.front with locals_ := vset s.front.locals_ n l' } }
      let without := put { l with toLocalCfg := { l.toLocalCfg with enabled := false } }
      if g.enabled && !budgetAdmits without 65536 g.rate (popcount 16 g.mask) false then .err stNoResource
      else .ok (be 2 (localSlot g))
        (refreshSessions (put { l with toLocalCfg := g, before := changesWith s l, changedAt := some s.now })) }

def cmdFeGetStatus : Cmd :=
  { opcode := 0x0507, modes := anyMode, lenOk := lenIs 0, checks := noChecks, journaled := jNever, key := noKey
    run := fun s _ _ =>
      let f := s.front
      .ok (be 1 f.preset ++ be 1 (bit f.firMin 0) ++ be 1 (bit f.fnom50 0) ++ f.inputs.toList.flatMap (fun x => be 1 x.chain.code)
        ++ be 1 (bitsOf (f.ranges.toList.map (·.lo))) ++ be 2 (bitsOf (f.chans.toList.map (·.zcLost)))
        ++ be 1 (bitsOf (f.locals_.toList.map (·.enabled)))) s }

/-- An optional value in a reply (R283). -/
def optF32 (v : Option F32) : List Byte := be 4 ((v.map (·.toNat)).getD absentF32)

def cmdFeGetDetectors : Cmd :=
  { opcode := 0x0508, modes := anyMode, lenOk := lenIs 1, checks := fun _ p => [(inRange (fld p 0 1) 0 15, 0)]
    journaled := jNever, key := noKey
    run := fun s _ p =>
      let x := s.chan (fld p 0 1)
      let env := envelopeNow s (fld p 0 1)
      let f := chanFreq x
      .ok (optF32 x.peak ++ optF32 x.rms ++ optF32 env ++ optF32 f ++ stampBytes (x.crossings.headD 0)
        ++ be 1 (bit x.peak.isSome 0 + bit x.rms.isSome 1 + bit env.isSome 2 + bit f.isSome 3)) s }

/-- The counters of R284 in order. -/
def frontCounters (s : State) : List Cnt :=
  (s.front.inputs.toList.flatMap fun x => [x.cLoss, x.cResumes, x.cRestarts, x.cOverload])
    ++ (s.front.ranges.toList.flatMap fun r => [r.cDown, r.cUp, r.cForced])
    ++ (s.front.chans.toList.map (·.cZcLoss)) ++ [s.front.cPreset, s.front.cLocalAbsent]

/-- They return to 0. -/
def clearFront (s : State) : State :=
  { s with front := { s.front with
    inputs := s.front.inputs.map fun x => { x with cLoss := 0, cResumes := 0, cRestarts := 0, cOverload := 0 }
    ranges := s.front.ranges.map fun r => { r with cDown := 0, cUp := 0, cForced := 0 }
    chans := s.front.chans.map fun x => { x with cZcLoss := 0 }
    cPreset := 0, cLocalAbsent := 0 } }

def cmdFeGetCounters : Cmd := countersCmd 0x0509 (fun s => cntBytes (frontCounters s)) clearFront

/-- The CFG-2 frame of a local stream (R283, R395). -/
def localConfig (s : State) (n : Nat) : List Byte :=
  let l := s.localStream n
  let ph := maskChans l.mask
  let b := memberPmu s ({ position := s.position, isLocal := true, index := n }, ph.length, l.analogs.length, if l.digital then 1 else 0)
  c37Frame syncCfg2 l.idcode (s.soc s.stamp) (s.time.fracsecHi s.stamp * 16777216 + fracOf s.stamp ownTimeBase)
    (be 4 ownTimeBase ++ be 2 1 ++ pmuCfg2 0 { b with idcode := l.idcode } ++ be 2 l.rate)

def cmdFeGetLocalConfig : Cmd :=
  { opcode := 0x050A, modes := anyMode, lenOk := lenIs 1, checks := fun _ p => [(inRange (fld p 0 1) 0 3, 0)]
    journaled := jNever, key := noKey, run := fun s _ p => .ok (localConfig s (fld p 0 1)) s }

end Sys2Proof.Machine
end

