-- ==== Sys2Proof/Machine/IntegCmd.lean ====
section
/-! DEFINITION. The integrity commands 0x0A01 to 0x0A07 (R546 to R549). -/

namespace Sys2Proof.Machine

/-- LAST_FAULT in a reply: TAI seconds, nanoseconds, class, unit, detail (R545). -/
def lastFaultBytes (f : LastFault) : List Byte := (stampBytes f.time).take 10 ++ be 1 f.cls ++ be 1 f.unit ++ be 4 f.detail.toNat

/-- The patrol position of a channel in 1/65,536 of its accesses (R529, R548). -/
def patrolFraction (s : State) (ch : Nat) : Nat := vget 0 s.integ.patrol ch * 65536 / (s.sys.capacity * 8388608)

/-- The scrub pass time of the slowest array, at most 64 ms (R528). -/
def scrubPass : Nat := min Config.scrubPassUs 64000

def cmdIntegGetStatus : Cmd :=
  { opcode := 0x0A01, modes := anyMode, lenOk := lenIs 0, checks := noChecks, journaled := jNever, key := noKey
    run := fun s _ _ =>
      .ok (be 2 (bitsOf (s.kernel.engines.toList.map fun x => x.state != .offline)) ++ be 2 s.integ.almFault.toNat
        ++ be 1 s.integFlags ++ lastFaultBytes s.integ.lastFault ++ be 4 s.integ.safeEntries.toNat ++ be 1 (recentLeaves s).length
        ++ be 4 scrubPass ++ be 2 (patrolFraction s 0) ++ be 2 (patrolFraction s 1)) s }

/-- An entry of the log in a reply (R548). -/
def logBytes (e : LogEntry) : List Byte :=
  stampBytes e.time ++ be 1 e.cls ++ be 1 e.unit ++ be 1 e.outcome ++ be 1 e.syndrome ++ be 8 e.address

def cmdIntegReadLog : Cmd :=
  { opcode := 0x0A02, modes := anyMode, lenOk := lenIs 1, checks := fun _ p => [(inRange (fld p 0 1) 1 64, 0)]
    journaled := jNever, key := noKey
    run := fun s _ p =>
      let es := s.integ.log.take (fld p 0 1)
      .ok (be 1 es.length ++ es.flatMap logBytes) { s with integ := { s.integ with log := s.integ.log.drop es.length } } }

def cmdIntegSetPolicy : Cmd :=
  { opcode := 0x0A03, modes := anyMode, lenOk := lenIs 4
    checks := fun _ p => [(inRange (fld p 0 1) 0 1, 0), (inRange (fld p 1 1) 70 104, 1), (fld p 2 2 == 0 || inRange (fld p 2 2) 10 3600, 2)]
    journaled := jAlways, key := keyOne 0x0A03
    run := fun s _ p =>
      .ok [] { s with integ := { s.integ with tableContinue := fld p 0 1 = 1, warnLimit := fld p 1 1, autoLeave := fld p 2 2 } } }

/-- COMMISSION and SERVICE (R548, R556). -/
def commissionService : Mode → Bool := fun m => m == .commission || m == .service

/-- The bits that an injected memory error flips: one, two neighbours, or the address bit with its column (R523, R548). -/
def injectFlips (kind bit : Nat) : BitVec 40 :=
  match kind with
  | 0 => 1#40 <<< bit
  | 1 => (1#40 <<< bit) ||| (1#40 <<< ((bit + 1) % 39))
  | _ => 0x8700000000#40

/-- The item and the word that an injection names, and whether its index and its word address are in range (R548; log entry
20): contexts of 128 word places and scheduler entries lie one after another, a kind of table by the index with its entries of 64
places one after another, every other item by the index. -/
def injectPlace (cls index addr : Nat) : Nat × Nat :=
  if cls = 0 then (addr / 128, addr % 128)
  else if cls = 3 then (index * 65536 + addr / 64, addr % 64)
  else if cls = 7 then (addr, 0)
  else if cls = 13 then (index, addr / 4 * 4) else (index, addr)
def injectIndexes (cls : Nat) : Nat :=
  if cls = 1 ∨ cls = 2 then 64 else if cls = 3 then 8 else if inRange cls 4 6 ∨ cls = 12 then 12 else if cls = 8 then 14
  else if cls = 9 then 32 else if cls = 10 then 5 else if cls = 13 then 2 else 1
def injectReach (s : State) (cls : Nat) : Nat :=
  if cls = 0 then 16384 * 128 else if cls = 3 then 65536 * 64 else if cls = 7 then 131072
  else if cls = 13 then s.sys.capacity * 536870912 else 4294967296

/-- An injected fault acts as a real one (R548): a memory error lies in its word until the word is written; the others
act at once. -/
def inject (cls index kind addr bit : Nat) (s : State) : State :=
  match kind with
  | 3 => lockstepMismatch index s
  | 4 => addLog 7 cls 0 0 addr { s with integ := { s.integ with cBus := inc s.integ.cBus } }
  | 5 => lockout 5 cls (BitVec.ofNat 32 addr) s
  | _ =>
    let w := injectPlace cls index addr
    { s with integ := { s.integ with injected := { cls, index := w.1, addr := w.2, flips := injectFlips kind bit } :: s.integ.injected } }

def cmdIntegInject : Cmd :=
  { opcode := 0x0A04, modes := commissionService, lenOk := lenIs 12
    checks := fun s p =>
      let cls := fld p 0 1
      let kind := fld p 2 1
      [(decide (3 ≤ kind) || (if kind = 2 then cls == 13 else decide (cls ≤ 14)), 0),
       (if kind = 3 then decide (fld p 1 1 < 12) else decide (3 < kind) || decide (fld p 1 1 < injectIndexes cls), 1),
       (inRange kind 0 5, 2), (decide (3 ≤ kind) || decide (fld p 3 8 < injectReach s cls), 3), (inRange (fld p 11 1) 0 38, 11)]
    journaled := jAlways, key := noKey
    run := fun s _ p => .ok [] (inject (fld p 0 1) (fld p 1 1) (fld p 2 1) (fld p 3 8) (fld p 11 1) s) }

/-- INTEG_LEAVE_SAFE: the WARM reset follows the reply (R547). -/
def cmdIntegLeaveSafe : Cmd :=
  { opcode := 0x0A05, modes := fun m => m == .safe, lenOk := lenIs 0, checks := noChecks, journaled := jAlways, key := noKey
    run := fun s _ _ => if safeBlocked s then .err stBusy else .ok [] { s with host := { s.host with warmDue := true } } }

/-- `n` free values of `k` octets each, and the state that has drawn them. -/
def drawFields (k : Nat) : Nat → State → List Byte × State
  | 0, s => ([], s)
  | n + 1, s =>
    let r1 := s.draw
    let v := r1.1
    let s1 := r1.2
    let r2 := drawFields k n s1
    let t := r2.1
    let s2 := r2.2
    (be k v ++ t, s2)

/-- The frequency error of VCLK: of a VCLK that has stopped, which nothing but a measurement shows, −1,000,000 ppm (R540). -/
def vclkError (s : State) : List Byte × State :=
  let r1 := s.draw
  let r2 := r1.2.draw
  (be 4 (if r1.1 % 2 = 1 then 4294967296 - 1000000 else r2.1), r2.2)

/-- DIAG_GET_MONITORS: rails and frequency errors are measured, so free (log entry 4); a driven pin reads low, unless its last
readback found it high (R540, R543, R548). -/
def cmdDiagGetMonitors : Cmd :=
  { opcode := 0x0A06, modes := anyMode, lenOk := lenIs 0, checks := noChecks, journaled := jNever, key := noKey
    run := fun s _ _ =>
      let rails := drawFields 2 7 s
      let ppm := drawFields 4 11 rails.2
      let vclk := vclkError ppm.2
      let last := drawFields 4 2 vclk.2
      let pins := last.2.draw
      let levels := (s.detect.pins &&& BitVec.ofNat 16 pins.1) ||| (s.integ.almHigh &&& ~~~s.detect.pins)
      .ok (rails.1 ++ ppm.1 ++ vclk.1 ++ last.1 ++ s.integ.sensors.flatMap (fun x => be 2 (x % 65536).toNat) ++ be 2 levels.toNat) pins.2 }

/-- The counters of R549 in order. -/
def integCounters (s : State) : List Cnt :=
  let g := s.integ
  (List.range 15).flatMap (fun c => [vget 0 g.cCe c, vget 0 g.cUe c])
    ++ [g.cAddr, g.cAborts, g.cSelftest, g.cBus, g.cWbCancelled, g.cWbFull, g.cAlm]

/-- The counters of R549 at 0. -/
def clearInteg (s : State) : State :=
  { s with integ := { s.integ with
    cCe := Vector.replicate 15 0, cUe := Vector.replicate 15 0, cAddr := 0, cAborts := 0, cSelftest := 0, cBus := 0
    cWbCancelled := 0, cWbFull := 0, cAlm := 0 } }

def cmdIntegGetCounters : Cmd := countersCmd 0x0A07 (fun s => cntBytes (integCounters s)) clearInteg

end Sys2Proof.Machine
end

