-- ==== Sys2Proof/Machine/PairCmd.lean ====
section
/-! DEFINITION. The pair and federation commands 0x0901 to 0x0907 (R495, R501, R515, R519 to R521). -/

namespace Sys2Proof.Machine

/-- Accepted in COMMISSION only (R495, R501). -/
def commissionOnly : Mode → Bool := fun m => m == .commission

/-- An enable byte at offset 0. -/
def enableCheck (p : List Byte) : Bool × Nat := (inRange (fld p 0 1) 0 1, 0)

def cmdPairSet : Cmd :=
  { opcode := 0x0901, modes := commissionOnly, lenOk := lenIs 1, checks := fun _ p => [enableCheck p]
    journaled := jAlways, key := keyOne 0x0901
    run := fun s _ p =>
      let on := fld p 0 1 = 1
      let s1 : State := { s with pair := { s.pair with pairEnable := on } }
      let s2 := if on then s1 else unpair (loseLink 3 s1)
      .ok (be 1 (bit (!s2.primary) 0) ++ be 1 s2.pair.state.code) s2 }

/-- Hold time remaining in s, rounded up; the whole hold time while the timer does not run (R515, R520; log entry 19). -/
def holdRemaining (s : State) : Nat :=
  match s.pair.holdFrom with
  | some t => s.pair.holdTime - (s.now - t) / 1000000000000
  | none => s.pair.holdTime

def cmdPairGetStatus : Cmd :=
  { opcode := 0x0902, modes := anyMode, lenOk := lenIs 1, checks := fun _ p => [(inRange (fld p 0 1) 0 128, 0)]
    journaled := jNever, key := noKey
    run := fun s _ p =>
      let l := s.link 3
      let tail := s.pair.partnerJournal.take (fld p 0 1)
      let since := match s.pair.eclipseFrom with | some t => min ((s.now - t) / 4000) 0xFFFFFFFF | none => 0xFFFFFFFF
      let flags := bit s.pair.mirrored 0 + bit s.mismatch 1 + bit s.pair.versionDiffer 2 + bit s.pair.conflict 3
      .ok (be 1 s.pair.state.code ++ be 1 s.pair.partnerMode ++ be 1 l.state.code ++ be 1 flags ++ be 4 s.digest.toNat
        ++ be 4 s.pair.partnerDigest.toNat ++ be 4 (holdRemaining s) ++ be 4 since ++ be 4 s.pair.lastEclipse
        ++ be 8 l.farSerial ++ be 4 l.farFw ++ be 1 tail.length ++ tail.flatten) s }

def cmdPairSetRevert : Cmd :=
  { opcode := 0x0903, modes := anyMode, lenOk := lenIs 3, checks := fun _ p => [enableCheck p, (inRange (fld p 1 2) 1 3600, 1)]
    journaled := jAlways, key := keyOne 0x0903
    run := fun s _ p => .ok [] (noteHold { s with pair := { s.pair with revert := fld p 0 1 = 1, holdTime := fld p 1 2 } }) }

/-- PAIR_SWITCHOVER: the ACTIVE device grants at once; the STANDBY asks, and its reply waits for the edge (R516, R519). -/
def cmdPairSwitchover : Cmd :=
  { opcode := 0x0904, modes := anyMode, lenOk := lenIs 0, checks := noChecks, journaled := jAlways, key := noKey
    run := fun s _ _ =>
      if s.pair.state = .unpaired then .err stWrongMode
      else if s.mismatch || s.pair.requested || s.pair.declared.isSome then .err stBusy
      else
        let s1 : State := { s with pair := { s.pair with cSwitchovers := inc s.pair.cSwitchovers } }
        match s.pair.state with
        | .activePaired => if s.pair.partnerMode ≠ Mode.standby.code ∨ s.partnerHandsOver then .err stBusy else .ok (stampBytes (handoverEdge s).1) (grant s1)
        | .standby => .long .switchover (sendB 3 0x09 (be 1 1) { s1 with pair := { s1.pair with requested := true } })
        | _ => .err stBusy }

def cmdFedSet : Cmd :=
  { opcode := 0x0905, modes := commissionOnly, lenOk := lenIs 1, checks := fun _ p => [enableCheck p]
    journaled := jAlways, key := keyOne 0x0905
    run := fun s _ p =>
      let on := fld p 0 1 = 1
      let s1 : State := { s with pair := { s.pair with fedEnable := on } }
      let s2 := notePartner s (if on then s1 else [0, 1, 2].foldl (fun s k => loseLink k s) s1)
      .ok (be 1 s2.position ++ be 1 s2.fedPresent) s2 }

def cmdFedGetStatus : Cmd :=
  { opcode := 0x0906, modes := anyMode, lenOk := lenIs 0, checks := noChecks, journaled := jNever, key := noKey
    run := fun s _ _ =>
      .ok (s.pair.links.toList.flatMap (fun l => be 1 l.state.code ++ be 1 l.reason ++ be 1 l.farPos ++ be 8 l.farSerial)
        ++ be 1 s.fedPresent ++ be 2 (s.ingress.ctxs.filter fun x => x.2.forward.isSome).length) s }

/-- The counters of R521 in order. -/
def pairCounters (s : State) : List Cnt :=
  s.pair.links.toList.flatMap (fun l => [l.cCrc, l.cResends, l.cDowns, l.cRecTx, l.cRecRx, l.cMissed])
    ++ [s.pair.cTakeovers, s.pair.cTakebacks, s.pair.cSwitchovers, s.pair.cRefused, s.pair.cDual, s.pair.cFull, s.pair.cItems, s.pair.cStale]

/-- The counters of R521 at 0. -/
def clearPair (s : State) : State :=
  { s with pair := { s.pair with
    links := s.pair.links.map fun (l : PeerLink) => { l with cCrc := 0, cResends := 0, cDowns := 0, cRecTx := 0, cRecRx := 0, cMissed := 0 }
    cTakeovers := 0, cTakebacks := 0, cSwitchovers := 0, cRefused := 0, cDual := 0, cFull := 0, cItems := 0, cStale := 0 } }

def cmdPairGetCounters : Cmd := countersCmd 0x0907 (fun s => cntBytes (pairCounters s)) clearPair

end Sys2Proof.Machine
end

