-- ==== Sys2Proof/Machine/HostCmd.lean ====
section
/-! DEFINITION. The system commands 0x0101 to 0x010A, the start and the end of every host command, and the management
settings that wait for a reply to leave (R470, R471, R481, R482, R485 to R488, R556, R571, R581, R582, R585). -/

namespace Sys2Proof.Machine

/-! ### Identity, journal and interface commands (R482, R487, R488) -/

def cmdGetIdentity : Cmd :=
  { opcode := 0x0101, modes := anyMode, lenOk := lenIs 0, checks := noChecks, journaled := jNever, key := noKey
    run := fun s _ _ =>
      .ok (be 2 s.host.pci.vendor ++ be 2 s.host.pci.device ++ be 1 s.host.pci.revision ++ be 4 s.fwVer ++ be 4 s.catVer ++ be 8 s.sec.serial.toNat ++ be 1 s.strapsWord
        ++ be 1 s.sys.mode.code ++ be 1 s.sys.lifecycle.code ++ be 1 s.sys.lastReset.code ++ be 4 s.globalStatus.toNat
        ++ be 2 s.host.ring.epoch.toNat ++ be 2 s.host.mgmt.epoch.toNat ++ be 2 s.host.svc.epoch.toNat ++ be 1 s.sys.capacity) s }

/-- The oldest and the newest JSEQ held; free numbers for an empty journal (R482; log entry 4). -/
def journalEnds (s : State) : Nat × Nat × State :=
  match s.host.journal.head?, s.host.journal.getLast? with
  | some n, some o => (o.jseq.toNat, n.jseq.toNat, s)
  | _, _ =>
    let r1 := s.draw
    let a := r1.1
    let s1 := r1.2
    let r2 := s1.draw
    let b := r2.1
    let s2 := r2.2
    (a, b, s2)

def cmdSysJournalRead : Cmd :=
  { opcode := 0x0105, modes := anyMode, lenOk := lenIs 6, checks := fun _ p => [(inRange (fld p 4 2) 1 128, 4)], journaled := jNever, key := noKey
    run := fun s _ p =>
      let out := (s.host.journal.reverse.filter fun e => decide (fld p 0 4 ≤ e.jseq.toNat)).take (fld p 4 2)
      let r1 := journalEnds s
      let o := r1.1
      let n := r1.2.1
      let s1 := r1.2.2
      .ok (be 4 o ++ be 4 n ++ be 2 out.length ++ out.flatMap jentryBytes) s1 }

def cmdSysJournalRoute : Cmd :=
  { opcode := 0x0106, modes := anyMode, lenOk := lenIs 1, checks := fun _ p => [(inRange (fld p 0 1) 0 31 || fld p 0 1 == 0xFF, 0)]
    journaled := jAlways, key := noKey
    run := fun s _ p =>
      let q : Option Nat := if fld p 0 1 = 0xFF then none else some (fld p 0 1)
      if (match q with | some n => !queueFree .journal n s || !queueFree .journal n s.flushed | none => false) then .err stNoResource
      else .ok [] (bindQueue .journal q { s with host := { s.host with route := q } }) }

def cmdSysIfReset : Cmd :=
  { opcode := 0x0107, modes := anyMode, lenOk := lenIs 1, checks := fun _ p => [(inRange (fld p 0 1) 0 2, 0)], journaled := jAlways, key := noKey
    run := fun s ifc p => if fld p 0 1 = ifc then .bad 0 else .ok [] (ifReset (fld p 0 1) s) }

/-- The management settings that SYS_SET_MGMT spells. -/
def mgmtOf (p : List Byte) : MgmtCfg :=
  { mac := fld p 0 6, ipv4 := fld p 6 4, prefix4 := fld p 10 1, ipv6 := fld p 11 16, prefix6 := fld p 27 1, vlan := fld p 28 2, phy := fld p 30 1 }

def cmdSysSetMgmt : Cmd :=
  { opcode := 0x0108, modes := anyMode, lenOk := lenIs 31
    checks := fun _ p => [(inRange (fld p 10 1) 0 32, 10), (inRange (fld p 27 1) 0 128, 27), (inRange (fld p 28 2) 0 4094, 28), (inRange (fld p 30 1) 0 31, 30)]
    journaled := jAlways, key := keyOne 0x0108
    run := fun s _ p => .ok [] { s with host := { s.host with mgmtNext := some (mgmtOf p) } } }

/-- The counters of an interface in the order of R488. -/
def ifaceCounters (f : Iface) : List Cnt :=
  [f.cPackets, f.cShort, f.cFlag, f.cEpoch, f.cTag, f.cQueue, f.cSent, f.cDiscarded, f.cResets]

/-- The counters of R488 in order. -/
def hostCounters (h : HostSt) : List Cnt :=
  ifaceCounters h.ring ++ ifaceCounters h.mgmt ++ ifaceCounters h.svc ++ [h.cOverwrites, h.cRouteDrops, h.cUnprotected]

/-- An interface's counters at 0. -/
def clearIface (f : Iface) : Iface := { epoch := f.epoch, tags := f.tags }

/-- The counters of R488 at 0. -/
def clearHost (s : State) : State :=
  { s with host := { s.host with
    ring := clearIface s.host.ring, mgmt := clearIface s.host.mgmt, svc := clearIface s.host.svc, cOverwrites := 0, cRouteDrops := 0, cUnprotected := 0 } }

def cmdSysGetCounters : Cmd := countersCmd 0x0109 (fun s => cntBytes (hostCounters s.host)) clearHost

def cmdSysEcho : Cmd :=
  { opcode := 0x010A, modes := anyMode, lenOk := fun p => decide (p.length ≤ 1024), checks := noChecks, journaled := jNever, key := noKey
    run := fun s _ p => .ok p s }

/-! ### Mode commands (R571 to R574, R581, R585) -/

/-- The stored form of the running settings (R581). -/
def storedForm (s : State) : List Byte := s.host.settings.flatMap settingBytes

/-- The reply of SYS_SET_MODE (R585). -/
def modeReply (s : State) : List Byte :=
  be 1 s.sys.mode.code ++ be 1 s.pair.state.code ++ cntBytes s.sys.history ++ be 1 (recentWdog s).length ++ stampBytes s.sys.lastResetAt
    ++ be 4 (storedForm s).length

/-- The mode of a target code, COMMISSION to DORMANT (R458). -/
def targetMode (n : Nat) : Mode :=
  match n with
  | 1 => .commission | 2 => .active | 3 => .standby | 4 => .service | _ => .dormant

/-- A commanded change to a mode that does not align ends LISTEN (R503, R570; log entry 22). -/
def commandMode (m : Mode) (s : State) : State :=
  changeMode m true (if s.pair.state = .listen then unpair s else s)

/-- The partner is ACTIVE (R571). -/
def partnerActive (s : State) : Bool := s.pair.pairEnable && s.partnerOk && s.pair.partnerMode == Mode.active.code

/-- SYS_SET_MODE's effect (R570, R571, R574). -/
def setModeCommand (s : State) (p : List Byte) : CmdOut :=
  let m := targetMode (fld p 0 1)
  if fld p 0 1 = 0xFF then .ok (modeReply s) s
  else if s.sys.mode = .safe then .err stWrongMode
  else if s.sys.mode = m then .ok (modeReply s) s
  else match m with
    | .active =>
      if s.sys.mode = .standby then .bad 0
      else let t := requestActive s; .ok (modeReply t) t
    | .standby =>
      if s.sys.mode = .active then .bad 0
      else if s.sys.mode ≠ .commission then .err stWrongMode
      else if partnerActive s then let t := changeMode .standby false (setPair .standby s); .ok (modeReply t) t
      else .err stBusy
    | .dormant =>
      let t := commandMode .dormant { s with sys := { s.sys with
        wakeTime := fld p 1 6, wakeMask := BitVec.ofNat 16 (fld p 7 2), wakeActive := fld p 9 1 = 2 } }
      .ok (modeReply t) t
    | m => let t := commandMode m s; .ok (modeReply t) t

def cmdSysSetMode : Cmd :=
  { opcode := 0x0102, modes := anyMode, lenOk := lenIs 10
    checks := fun _ p => [(inRange (fld p 0 1) 1 5 || fld p 0 1 == 0xFF, 0), (fld p 0 1 != 5 || inRange (fld p 9 1) 1 2, 9)]
    journaled := jAlways, key := noKey, run := fun s _ p => setModeCommand s p }

def cmdSysReset : Cmd :=
  { opcode := 0x0103, modes := anyMode, lenOk := lenIs 0, checks := noChecks, journaled := jAlways, key := noKey
    run := fun s _ _ => .ok [] { s with host := { s.host with warmDue := true } } }

/-- Octets of a settings copy (R594). -/
def settingsArea : Nat := 7340032

/-- SYS_COMMIT (R581). -/
def cmdSysCommit : Cmd :=
  { opcode := 0x0104, modes := fun m => m != .safe, lenOk := lenIs 1, checks := fun _ p => [(inRange (fld p 0 1) 0 1, 0)]
    journaled := jAlways, key := noKey
    run := fun s _ p =>
      if settingsArea < (storedForm s).length + Config.copyHeader.val then .err stNoResource
      else .long (.commit (fld p 0 1 = 1)) s }

/-! ### The commands of R481 -/

def cmdsSystem : List Cmd :=
  [cmdGetIdentity, cmdSysSetMode, cmdSysReset, cmdSysCommit, cmdSysJournalRead, cmdSysJournalRoute, cmdSysIfReset, cmdSysSetMgmt,
   cmdSysGetCounters, cmdSysEcho]
def cmdsTime : List Cmd :=
  [cmdTimeGetStatus, cmdTimeSetSources, cmdTimeSetServo, cmdTimeSetPort, cmdTimeSetPtp, cmdTimeSet, cmdTimeSetUtc, cmdEvtConfig,
   cmdEvtRead, cmdPpsOutConfig, cmdTimeGetCounters]
def cmdsStream : List Cmd :=
  [cmdStreamAdd, cmdStreamRemove, cmdStreamRebind, cmdStreamLoadConfig, cmdStreamGet, cmdStreamGetCounters, cmdStreamSendCommand,
   cmdIngressSetPort, cmdIngressSetRings, cmdIngressGetCounters, cmdIngressSetStreamPorts, cmdIngressJoinGroup]
def cmdsZone : List Cmd :=
  [cmdZoneConfig, cmdZoneDelete, cmdZoneStart, cmdZoneStop, cmdZoneAddStream, cmdZoneRemoveStream, cmdZoneGet,
   cmdZoneGetCounters, cmdConstRead, cmdAlignGetStatus]
def cmdsFront : List Cmd :=
  [cmdFeSetPreset, cmdFeSetSampling, cmdFeSetCal, cmdFeSetRange, cmdFeSetDetectors, cmdFeSetLocalStream, cmdFeGetStatus,
   cmdFeGetDetectors, cmdFeGetCounters, cmdFeGetLocalConfig]
def cmdsEnergy : List Cmd :=
  [cmdEnergySetLine, cmdEnergySetInterval, cmdEnergySetReserve, cmdEnergyRead, cmdEnergyReadReserve, cmdEnergyReadSnapshot,
   cmdEnergyGetStatus, cmdEnergyReadEvents, cmdEnergyClear]
def cmdsDetect : List Cmd :=
  [cmdCohSetVertices, cmdCohSetEdges, cmdCohSetZone, cmdCohGetResult, cmdOscSetBands, cmdOscSetSignals, cmdOscSetThresholds,
   cmdOscGetSignal, cmdAlarmSet, cmdAlarmSetDest, cmdAlarmGetStatus, cmdAlarmAck, cmdAlarmTest, cmdDetectGetCounters,
   cmdKernelGetCatalogue, cmdKernelSetParams, cmdKernelSetFlow, cmdKernelGetFlow, cmdKernelReadResult, cmdKernelGetStatus,
   cmdKernelGetCounters]
def cmdsEgress : List Cmd :=
  [cmdEgressSetSession, cmdEgressSetPort, cmdEgressGetSession, cmdEgressGetConfig, cmdEgressGetCounters, cmdEgressSendCfg]
def cmdsPair : List Cmd :=
  [cmdPairSet, cmdPairGetStatus, cmdPairSetRevert, cmdPairSwitchover, cmdFedSet, cmdFedGetStatus, cmdPairGetCounters]
def cmdsInteg : List Cmd :=
  [cmdIntegGetStatus, cmdIntegReadLog, cmdIntegSetPolicy, cmdIntegInject, cmdIntegLeaveSafe, cmdDiagGetMonitors,
   cmdIntegGetCounters]
def cmdsSec : List Cmd :=
  [cmdSecGetLifecycle, cmdSecSetLifecycle, cmdSecSetOwnerRoot, cmdSecSetMka, cmdSecGetMkaStatus]
def cmdsUpd : List Cmd :=
  [cmdUpdBegin, cmdUpdWrite, cmdUpdEnd, cmdUpdGetStatus, cmdUpdConfirm, cmdUpdAbort]

/-- Every assigned opcode (R481). -/
def allCmds : List Cmd :=
  cmdsSystem ++ cmdsTime ++ cmdsStream ++ cmdsZone ++ cmdsFront ++ cmdsEnergy ++ cmdsDetect ++ cmdsEgress ++ cmdsPair ++ cmdsInteg ++ cmdsSec ++ cmdsUpd

/-- The command of an opcode (R470 step 8, R481). -/
def commandOf (opcode : Nat) : Option Cmd := allCmds.find? fun d => d.opcode == opcode

/-! ### Execution in order of arrival (R470 steps 7 and 8, R471) -/

/-- The packet that has waited longest comes to execution. -/
def executePacket (c : QCmd) (s : State) : State :=
  if 20464 < c.length ∨ c.length ≠ c.params.length then sendReply c.origin (mkReply c stBadLength 0 []) s
  else match commandOf c.opcode with
    | none => sendReply c.origin (mkReply c stBadOpcode 0 []) s
    | some d => executeCommand d c s

/-- COMMAND_EXECUTE (R471). -/
def commandExecute (s : State) : State :=
  if !s.commandsRun || s.host.executing.isSome then s
  else match s.host.waiting with
    | [] => s
    | c :: rest => executePacket c { s with host := { s.host with waiting := rest } }

/-! ### The end of a long command (R471, R485) -/

/-- The running settings go to the copy of the running bank that does not hold the newest valid settings (R581, R595). -/
def commitSettings (run : Bool) (s : State) : State :=
  let b := s.upd.runBank
  let fmt := match s.upd.running.1 with | some f => f.setFmt | none => 0
  let newest := match s.upd.running.1 with | some f => validCopy f b | none => none
  let i := match newest with | some (0, _) => 1 | _ => 0
  let seqs := b.copies.toList.filterMap fun c => c.map (·.seq)
  setRunBank { b with copies := vset b.copies i (some { seq := seqs.foldl max 0 + 1, setFmt := fmt, runAtBoot := run, settings := s.host.settings }) } s

/-- SYS_COMMIT's end: in RETURN, the journal only (R557, R581, R582). -/
def commitEnd (run : Bool) (s : State) : List Byte × State :=
  let n := uncommitted s.host.journal
  if s.sys.lifecycle = .return then (be 4 0 ++ be 4 (crc32c []).toNat ++ be 2 n, commitJournal s)
  else
    let form := storedForm s
    let s1 := commitJournal (commitSettings run s)
    (be 4 form.length ++ be 4 (crc32c form).toNat ++ be 2 n, { s1 with host := { s1.host with dirty := false } })

/-- SEC_SET_LIFECYCLE's end: fuses, erasure, journal entry, commit, reply, and the WARM reset to come (R554, R556). -/
def lifecycleEnd (e : Exec) (target : Nat) (flashOk : Bool) (s : State) : State :=
  let s1 := if target = 0 then s else { s with sec := { s.sec with fuses := vset s.sec.fuses (fuseGroup target) 8 } }
  let s2 := if (target = 4 || target = 5) && flashOk then eraseJournal (eraseSettings s1) else s1
  let s3 := if journalMustCommit s2 && flashOk then commitJournal s2 else s2
  let status := if flashOk then stOk else stFlashErr
  let s4 := addJournal e.cmd status s3
  let s5 := if (target = 2 || target = 3) && flashOk then commitJournal s4 else s4
  let s6 := closeCommand e.cmd false e.mute status 0 (be 1 target) s5
  { s6 with host := { s6.host with warmDue := true } }

/-- What a long command of group 0x0Cxx does at its end, with its status and its reply (R597 to R600, R604, R607). -/
def updateEnd (op : LongOp) (ifc : Nat) (s : State) : Nat × List Byte × State :=
  match op with
  | .updBegin h => let s1 := updBeginDone ifc h s; (stOk, updBeginReply s1 h, s1)
  | .updWrite o d =>
    let s1 := updWriteDone o d s
    (stOk, be 4 (match s1.upd.session with | some x => x.received.length | none => 0), s1)
  | .updEnd final auto window => let r := updEndDone final auto window s; (r.1, be 1 r.2.otherBank.state.code, r.2)
  | .updConfirm => let s1 := confirmTrial s; (stOk, be 1 s1.sec.otp.fwArb ++ be 1 s1.sec.otp.catArb, s1)
  | .updAbort => (stOk, [], updAbortEffect s)
  | _ => (stOk, [], s)

/-- The end of a session whose UPD_END could not be written (R599). -/
def updateFlashFail (op : LongOp) (s : State) : State :=
  match op with
  | .updEnd _ _ _ => { s with upd := { s.upd with session := none } }
  | _ => s

/-- COMMAND_COMPLETE: the flash or fuse work is done; a failed program or erase gives FLASH_ERR (R471, R480, R581).
What waits for another device ends by that device's frames. -/
def commandComplete (flashOk : Bool) (s : State) : State :=
  match s.host.executing with
  | none => s
  | some e =>
    let finish := fun (st : Nat) (data : List Byte) (t : State) => finishCommand e.cmd true e.mute st 0 data t
    match e.op with
    | .commit run => if flashOk then (let r := commitEnd run s; finish stOk r.1 r.2) else finish stFlashErr [] s
    | .lifecycle t => lifecycleEnd e t flashOk s
    | .ownerRoot slot digest => finish stOk (be 1 slot) { s with sec := { s.sec with otp := { s.sec.otp with slots := vset s.sec.otp.slots slot (otpWords digest) } } }
    | .journalCommit st o data => closeCommand e.cmd true e.mute st o data (if flashOk then commitJournal s else s)
    | .remoteAdd _ _ _ _ _ _ | .switchover => s
    | op => if flashOk then (let r := updateEnd op e.cmd.ifc s; finish r.1 r.2.1 r.2.2) else finish stFlashErr [] (updateFlashFail op s)

/-- The management settings that waited for the reply of SYS_SET_MGMT take effect once it has left (R482). -/
def applyMgmt (s : State) : State :=
  match s.host.mgmtNext with
  | some c => if replyPending 0x0108 s then s else { s with host := { s.host with mgmtCfg := c, mgmtNext := none } }
  | none => s

/-- MGMT_SETTINGS_APPLY: what waited for its reply to leave takes effect (R482, R566). -/
def mgmtApply (s : State) : State :=
  let s1 := applyMgmt s
  match s1.sec.mkaNext with
  | some p => if replyPending 0x0B04 s1 then s1 else applyMka p s1.sys.lifecycle.domain { s1 with sec := { s1.sec with mkaNext := none } }
  | none => s1

end Sys2Proof.Machine
end

