-- ==== Sys2Proof/Machine/BootEnd.lean ====
section
/-! DEFINITION. The end of BOOT: the committed settings, the bundles, CMD_READY and the mode of R579 (R545, R578 to R582,
R593, R602 to R604). -/

namespace Sys2Proof.Machine

/-! ### The committed settings (R578 step 6, R580, R581, R603) -/

/-- A member of another device of the federation, as the committed settings give it: that device keeps forwarding, and no
CONTROL frame is sent (R498, R500; log entry 22). -/
def restoreRemote (p : List Byte) (s : State) : Option State :=
  let z := fld p 0 1
  let x := s.zone z
  let r := memberRefOf s p
  if x.state = .free || belongs s r then none
  else some (s.setZone z { x with members := insertMember { ref := r, joinAt := none, leaveAt := none, remoteGen := none } x.members })

/-- A command applied outside any interface: lifecycle, length and ranges as for a packet, no mode check; at once, without
waiting for a grid edge. -/
def applyPacket (opcode : Nat) (p : List Byte) (s : State) : Option State :=
  match commandOf opcode with
  | none => none
  | some d =>
    if lifecycleDenies s.sys.lifecycle opcode p || !d.lenOk p || (firstBad (d.checks s p)).isSome then none
    else match d.run s 1 p with
      | .ok _ t => some (noteSetting (d.key p) opcode p s t).flushed
      | _ => none

/-- A settings record takes effect (R580, R581). -/
def applyRecord (x : Setting) (s : State) : Option State :=
  if x.opcode = 0x0711 then (match putTable (fld x.params 0 1) (x.params.drop 1) s with | .ok _ t => some t | _ => none)
  else if x.opcode = 0x0B04 then some (applyMka (x.params.take 69) (fld x.params 69 1) s)
  else if x.opcode = 0x0405 && (memberRefOf s x.params).remote s then restoreRemote x.params s
  else applyPacket x.opcode x.params s

/-- One pass over records: those that take effect do; the others remain. -/
def applyPass : List Setting → State → List Setting × State
  | [], s => ([], s)
  | x :: xs, s => match applyRecord x s with
    | some t => applyPass xs t
    | none => (x :: (applyPass xs s).1, (applyPass xs s).2)

/-- Passes over records until none remains (log entry 22). -/
def applyPasses : Nat → List Setting → State → State
  | 0, _, s => s
  | n + 1, xs, s =>
    let r := applyPass xs s
    if r.1.isEmpty then r.2 else applyPasses n r.1 r.2

/-- Nothing leaves the device during BOOT: contexts ask for their configuration after it (R75, R580). -/
def quiet (before s : State) : State :=
  { s with
    outputs := before.outputs
    ingress := { s.ingress with ctxs := tabMap (fun _ (c : Ctx) => { c with lastRequestAt := none }) s.ingress.ctxs } }

/-- Settings in force on top of the defaults that `base` holds. -/
def applySettings (base : State) (xs : List Setting) : State :=
  let s := quiet base (mgmtApply (applyPasses (xs.length + 1) xs base))
  { s with host := { s.host with settings := xs } }

/-- SETTINGS_DEFAULTED; its event lies in the flash, which a recovery boot leaves alone (R603, R605, R606). -/
def startDefaulted (s : State) : State :=
  let s1 : State := { s with sys := { s.sys with defaulted := true } }
  if s.sys.bootedSvc then s1 else updEvent 5 (runNumber s) s1

/-- The newest settings copy that the running firmware reads; none in RETURN and in a recovery boot (R557, R603, R606). -/
def bootCopy (s : State) : Option SettingsCopy :=
  if s.sys.bootedSvc || s.sys.lifecycle == .return then none
  else match s.upd.running.1 with
    | some f => (validCopy f s.upd.runBank).map (·.2)
    | none => none

/-- The committed settings are loaded, or the device starts from defaults (R582, R603). -/
def loadSettings (s : State) : State :=
  match bootCopy s with
  | some c =>
    let t := applySettings s c.settings
    { t with
      host := { t.host with dirty := false }
      sys := { t.sys with loaded := true, runAtBoot := c.runAtBoot, defaulted := false } }
  | none =>
    let t := startDefaulted s
    { t with
      host := { t.host with dirty := true, settings := [] }
      sys := { t.sys with loaded := false, runAtBoot := false } }

/-! ### Bundles (R593, R602) -/

/-- A command that sets a setting (R580). -/
def settingOpcode (n : Nat) : Bool :=
  [0x0108, 0x0202, 0x0203, 0x0204, 0x0205, 0x0208, 0x020A, 0x0301, 0x0302, 0x0303, 0x0304, 0x0308, 0x0309, 0x030B, 0x030C, 0x0401, 0x0402,
   0x0403, 0x0404, 0x0405, 0x0406, 0x0501, 0x0502, 0x0503, 0x0504, 0x0505, 0x0506, 0x0601, 0x0602, 0x0603, 0x0701, 0x0702, 0x0703, 0x0705,
   0x0706, 0x0707, 0x0709, 0x070A, 0x0711, 0x0712, 0x0801, 0x0802, 0x0901, 0x0903, 0x0905, 0x0A03, 0x0B04].contains n

/-- The commands of a bundle class: 0 configuration, 1 topology, 2 calibration (R593). -/
def bundleHolds (cls n : Nat) : Bool :=
  if cls = 0 then settingOpcode n
  else if cls = 1 then settingOpcode n && n / 256 == 7
  else [0x0502, 0x0503, 0x0504, 0x0601].contains n

/-- The packets of a bundle, with TAG and EPOCH 0; none when the bytes are no sequence of packets (R464, R593). -/
def bundlePackets : Nat → List Byte → Option (List (Nat × List Byte))
  | _, [] => some []
  | 0, _ => none
  | n + 1, b =>
    let len := fld b 8 4
    if b.length < 16 + len || 20464 < len || !allZero (slice b 2 6) || !allZero (slice b 12 4) then none
    else (bundlePackets n (b.drop (16 + len))).map fun ps => (fld b 0 2, slice b 16 len) :: ps

/-- A bundle is valid (R597 steps 2 and 4, R599, R602). -/
def bundleValid (s : State) (h payload : List Byte) : Bool :=
  fld h 6 2 == 0x7216 && decide (fld h 8 1 ≤ 0xB0) && fld h 9 1 == 0 && allZero (slice h 121 39) && imageVerified s false (imageOf h payload)
    && (match s.upd.running.1 with | some f => decide (f.setFmtMin ≤ fld h 20 2) && decide (fld h 20 2 ≤ f.setFmt) | none => false)

/-- The packets of a bundle execute in order; none when one does not execute with OK. -/
def applyPackets (cls : Nat) : List (Nat × List Byte) → State → Option State
  | [], s => some s
  | (op, p) :: ps, s => if bundleHolds cls op then (applyPacket op p s).bind (applyPackets cls ps) else none

/-- A bundle applied: valid, every packet OK, and a result that a settings copy holds (R602). -/
def applyBundle (cls : Nat) (h payload : List Byte) (s : State) : Option State :=
  if bundleValid s h payload then
    match (bundlePackets (payload.length + 1) payload).bind fun ps => applyPackets cls ps s with
    | some t => if settingsArea < (storedForm t).length + Config.copyHeader.val then none else some (mgmtApply t)
    | none => none
  else none

/-- A bundle slot is handled and erased: its result is committed, or the settings that it covers start from their
defaults (R602, R605). `base` holds the defaults. -/
def bootBundle (base : State) (cls : Nat) (s : State) : State :=
  match vget none s.upd.bundles cls with
  | none => s
  | some (h, payload) =>
    let erased : State := { s with upd := { s.upd with bundles := vset s.upd.bundles cls none } }
    match applyBundle cls h payload erased with
    | some t =>
      let u := commitSettings t.sys.runAtBoot (quiet s t)
      updEvent 6 (runNumber u) { u with host := { u.host with dirty := false } }
    | none =>
      let kept := s.host.settings.filter fun x => !bundleHolds cls x.opcode
      let t := applySettings { base with upd := erased.upd, drawn := s.drawn, sys := s.sys } kept
      startDefaulted (updEvent 7 (runNumber t) { t with host := { t.host with dirty := true } })

/-- The bundles in their order; none in RETURN and in a recovery boot (R557, R602, R606). -/
def bootBundles (base s : State) : State :=
  if s.sys.bootedSvc || s.sys.lifecycle == .return then s else [0, 1, 2].foldl (fun s c => bootBundle base c s) s

/-! ### The mode after BOOT (R545, R579, R604) -/

/-- SAFE after a FAULT reset; without a command interface when the supervisors failed their self-test (R545). -/
def enterSafe (selfTestOk : Bool) (s : State) : State :=
  let s1 := changeMode .safe false { s with host := { s.host with cmdReady := selfTestOk } }
  { s1 with integ := { s1.integ with
    safeEntries := if s.integ.safeEntries = 0xFFFFFFFF#32 then 0xFFFFFFFF#32 else s.integ.safeEntries + 1, safeSince := s.now, safeStay := decide (3 ≤ (recentLeaves s).length)
    noInterface := !selfTestOk } }

/-- The mode of R579. -/
def modeAfterBoot (selfTestOk : Bool) (s : State) : State :=
  if s.sys.lastReset = .fault then enterSafe selfTestOk s
  else if s.sys.bootedSvc then changeMode .service false s
  else if s.sys.lifecycle = .return ∨ s.sys.loaded = false ∨ s.sys.defaulted ∨ s.sys.runAtBoot = false then changeMode .commission false s
  else if s.sys.lastReset = .wdog ∧ 3 ≤ (recentWdog s).length then changeMode .commission false s
  else requestActive s

/-- The trial window of a bank on trial begins (R604). -/
def startTrial (s : State) : State :=
  if s.upd.dramImages.isNone && s.upd.runBank.state == .trial then
    { s with upd := { s.upd with trialEnd := some (s.now + s.upd.window.1 * 1000000000000) } }
  else s

/-- The instruction memories of all engines hold the kernel catalogue that BOOT has checked (R357). -/
def loadCatalogue (s : State) : State :=
  { s with kernel := { s.kernel with engines := s.kernel.engines.map fun e => { e with imem := s.upd.running.2 } } }

/-- BOOT_END: the settings and bundles are in force, CMD_READY, the mode of R579 (R578). -/
def bootEnd (selfTestOk : Bool) (s : State) : State :=
  if !firmwareRuns s || s.sys.mode != .boot || s.host.cmdReady then s
  else
    let s1 := loadCatalogue (bootBundles s (loadSettings s))
    modeAfterBoot selfTestOk (startTrial { s1 with host := { s1.host with cmdReady := true } })

end Sys2Proof.Machine
end

