-- ==== Sys2Proof/Machine/RowsBootEnd.lean ====
section
/-! DEFINITION. The meanings of the rows whose operations stand in `BootEnd.lean`: each row carries the time passed since the row before. -/

namespace Sys2Proof.Machine

/-- BOOT_END (R579). -/
def execBootEnd (dt : Ps) (selfTestOk : Bool) (s : State) : Host.Outcome State Fault Refusal := .next (bootEnd selfTestOk (s.elapse dt))

end Sys2Proof.Machine
end

