-- ==== Sys2Proof/Machine/RowsDetect.lean ====
section
/-! DEFINITION. The meanings of the rows whose operations stand in `Detect.lean`: each row carries the time passed since the row before. -/

namespace Sys2Proof.Machine

/-- ALM_PIN_UPDATE (R343). -/
def execAlmPinUpdate (dt : Ps) (s : State) : Host.Outcome State Fault Refusal := .next (pinUpdate (s.elapse dt))

/-- ALARM_REPEAT (R350). -/
def execAlarmRepeat (dt : Ps) (ald : Nat) (s : State) : Host.Outcome State Fault Refusal := .next (almRepeat ald (s.elapse dt))

/-- ALARM_TEST_END (R344). -/
def execAlarmTestEnd (dt : Ps) (ald : Nat) (s : State) : Host.Outcome State Fault Refusal :=
  let s := s.elapse dt
  .next (match (s.ald ald).bind (·.testEnd) with
         | some t => if t ≤ s.now then testStop ald s else s
         | none => s)

/-- COHERENCY_DONE (R324). -/
def execCoherencyDone (dt : Ps) (s : State) : Host.Outcome State Fault Refusal :=
  let s := cohRead (s.elapse dt)
  .next (match s.align.coh with
         | some (c, due) => if due ≤ s.now then cohDone (asRead s c) s else s
         | none => s)

/-- BAND_MONITOR_DONE (R330). -/
def execBandMonitorDone (dt : Ps) (s : State) : Host.Outcome State Fault Refusal :=
  let s := bandRead (s.elapse dt)
  .next (match s.align.band with
         | some (c, due) => if due ≤ s.now then bandDone (asRead s c) s else s
         | none => s)

end Sys2Proof.Machine
end

