-- ==== Sys2Proof/Machine/RowsDetectCmd.lean ====
section
/-! DEFINITION. The meanings of the rows whose operations stand in `DetectCmd.lean`: each row carries the time passed since the row before. -/

namespace Sys2Proof.Machine

/-- COH_SET_VERTICES (R318). -/
def execCohSetVertices (dt : Ps) (q : Packet) (s : State) : Host.Outcome State Fault Refusal := command cmdCohSetVertices dt q s

/-- COH_SET_EDGES (R319). -/
def execCohSetEdges (dt : Ps) (q : Packet) (s : State) : Host.Outcome State Fault Refusal := command cmdCohSetEdges dt q s

/-- COH_SET_ZONE (R320). -/
def execCohSetZone (dt : Ps) (q : Packet) (s : State) : Host.Outcome State Fault Refusal := command cmdCohSetZone dt q s

/-- COH_GET_RESULT (R326). -/
def execCohGetResult (dt : Ps) (q : Packet) (s : State) : Host.Outcome State Fault Refusal := command cmdCohGetResult dt q s

/-- OSC_SET_BANDS (R329). -/
def execOscSetBands (dt : Ps) (q : Packet) (s : State) : Host.Outcome State Fault Refusal := command cmdOscSetBands dt q s

/-- OSC_SET_SIGNALS (R327). -/
def execOscSetSignals (dt : Ps) (q : Packet) (s : State) : Host.Outcome State Fault Refusal := command cmdOscSetSignals dt q s

/-- OSC_SET_THRESHOLDS (R332). -/
def execOscSetThresholds (dt : Ps) (q : Packet) (s : State) : Host.Outcome State Fault Refusal := command cmdOscSetThresholds dt q s

/-- OSC_GET_SIGNAL (R333). -/
def execOscGetSignal (dt : Ps) (q : Packet) (s : State) : Host.Outcome State Fault Refusal := command cmdOscGetSignal dt q s

/-- ALARM_SET (R340). -/
def execAlarmSet (dt : Ps) (q : Packet) (s : State) : Host.Outcome State Fault Refusal := command cmdAlarmSet dt q s

/-- ALARM_SET_DEST (R345). -/
def execAlarmSetDest (dt : Ps) (q : Packet) (s : State) : Host.Outcome State Fault Refusal := command cmdAlarmSetDest dt q s

/-- ALARM_GET_STATUS (R353). -/
def execAlarmGetStatus (dt : Ps) (q : Packet) (s : State) : Host.Outcome State Fault Refusal := command cmdAlarmGetStatus dt q s

/-- ALARM_ACK (R339). -/
def execAlarmAck (dt : Ps) (q : Packet) (s : State) : Host.Outcome State Fault Refusal := command cmdAlarmAck dt q s

/-- ALARM_TEST (R344). -/
def execAlarmTest (dt : Ps) (q : Packet) (s : State) : Host.Outcome State Fault Refusal := command cmdAlarmTest dt q s

/-- DETECT_GET_COUNTERS (R355). -/
def execDetectGetCounters (dt : Ps) (q : Packet) (s : State) : Host.Outcome State Fault Refusal := command cmdDetectGetCounters dt q s

end Sys2Proof.Machine
end

