-- ==== Sys2Proof/Machine/RowsDma.lean ====
section
/-! DEFINITION. The meanings of the rows whose operations stand in `Dma.lean`: each row carries the time passed since the row before. -/

namespace Sys2Proof.Machine

/-- DMA_START: a write of DMA_CTRL with START (R427). -/
def execDmaStart (dt : Ps) (ch : Nat) (value : Word32) (s : State) : Host.Outcome State Fault Refusal :=
  let s := s.elapse dt
  .next (if s.bar0Runs then s.setCh ch (chCtrl (value ||| 1#32) (s.ch ch)) else s)

/-- DMA_ABORT: a write of DMA_CTRL.ABORT with the other fields as they are (R429). -/
def execDmaAbort (dt : Ps) (ch : Nat) (s : State) : Host.Outcome State Fault Refusal :=
  let s := s.elapse dt
  .next (if s.bar0Runs then s.setCh ch (chAbort (s.ch ch)) else s)

/-- DMA_CLEAR: a write of DMA_CTRL.CLEAR with the other fields as they are (R427). -/
def execDmaClear (dt : Ps) (ch : Nat) (s : State) : Host.Outcome State Fault Refusal :=
  let s := s.elapse dt
  .next (if s.bar0Runs then s.setCh ch (chClear (s.ch ch)) else s)

/-- DMA_DESCRIPTOR_FETCH (R424). -/
def execDmaDescriptorFetch (dt : Ps) (ch : Nat) (desc : Option (List Byte)) (s : State) : Host.Outcome State Fault Refusal :=
  let s := s.elapse dt
  .next (if s.dmaRuns then dmaFetch ch desc s else s)

/-- DMA_READ_COMPLETE (R416). -/
def execDmaReadComplete (dt : Ps) (ch : Nat) (data : ReadDone) (s : State) : Host.Outcome State Fault Refusal :=
  let s := chunkRead (s.elapse dt)
  .next (if s.dmaRuns then dmaRead ch data s else s)

/-- DMA_LIST_COMPLETE (R425). -/
def execDmaListComplete (dt : Ps) (ch : Nat) (s : State) : Host.Outcome State Fault Refusal :=
  let s := s.elapse dt
  .next (if s.dmaRuns then dmaEnd ch s else s)

/-- RQ_ENABLE: a write of RQ_CTRL with ENABLE (R450). -/
def execRqEnable (dt : Ps) (q : Nat) (value : Word32) (s : State) : Host.Outcome State Fault Refusal :=
  let s := s.elapse dt
  .next (if s.bar0Runs then s.putRq q (rqCtrl (value ||| 1#32) s.now (s.rq q)) else s)

/-- RQ_DISABLE: a write of RQ_CTRL without ENABLE (R450). -/
def execRqDisable (dt : Ps) (q : Nat) (value : Word32) (s : State) : Host.Outcome State Fault Refusal :=
  let s := s.elapse dt
  .next (if s.bar0Runs then s.putRq q (rqCtrl (value &&& 0xFFFFFFFE#32) s.now (s.rq q)) else s)

/-- RQ_FLUSH (R448). -/
def execRqFlush (dt : Ps) (q : Nat) (s : State) : Host.Outcome State Fault Refusal :=
  let s := s.elapse dt
  .next (if s.bar0Runs then s.putRq q (rqFlushQueue s.now (s.rq q)) else s)

/-- RQ_WORD_WRITE: a producer's word with its marks (R441). -/
def execRqWordWrite (dt : Ps) (q : Nat) (word : Word32) (first last : Option Nat) (s : State) :
    Host.Outcome State Fault Refusal :=
  let r := rqWriteWord q word first last (packRead q (s.elapse dt))
  .next (r.2.emit (.rqAnswer q r.1.code))

/-- RQ_IDLE_TIMEOUT (R445). -/
def execRqIdleTimeout (dt : Ps) (q : Nat) (s : State) : Host.Outcome State Fault Refusal :=
  let s := packRead q (s.elapse dt)
  .next (if s.rqRuns && rqIdleDue s.now (s.rq q) then s.putRq q (rqPush true (s.rq q)) else s)

/-- RQ_LINE_DELIVER (R446). -/
def execRqLineDeliver (dt : Ps) (q : Nat) (s : State) : Host.Outcome State Fault Refusal :=
  .next (rqDeliver q (lineRead q (s.elapse dt)))

end Sys2Proof.Machine
end

