-- ==== Sys2Proof/Machine/RowsEgress.lean ====
section
/-! DEFINITION. The meanings of the rows whose operations stand in `Egress.lean`: each row carries the time passed since the row before. -/

namespace Sys2Proof.Machine

/-- COMBINED_FRAME_FORM (R392). -/
def execCombinedFrameForm (dt : Ps) (zone tick rev : Nat) (s : State) : Host.Outcome State Fault Refusal :=
  .next (formRequests zone tick rev (s.elapse dt))

/-- FORMATTER_DONE (R393). -/
def execFormatterDone (dt : Ps) (s : State) : Host.Outcome State Fault Refusal :=
  let s := formRead (s.elapse dt)
  .next (match s.egress.forming with
         | some (r, due) => if due ≤ s.now then formatDone r s else s
         | none => s)

/-- CFG_PERIOD_EXPIRY (R396). -/
def execCfgPeriodExpiry (dt : Ps) (session : Nat) (s : State) : Host.Outcome State Fault Refusal :=
  let s := s.elapse dt
  let x := s.sess session
  .next (if x.state = .sending && x.cfg.transport != .tcp && x.cfg.cfgPeriod != 0
            && decide (x.cfgSentAt + x.cfg.cfgPeriod * 1000000000000 ≤ s.now)
         then sendOwnConfig session s else s)

/-- TCP_CONNECT (R398). -/
def execTcpConnect (dt : Ps) (session srcIp srcPort mss : Nat) (s : State) : Host.Outcome State Fault Refusal :=
  .next (tcpConnect session srcIp srcPort mss (s.elapse dt))

/-- SESSION_COMMAND_FRAME (R398). -/
def execSessionCommandFrame (dt : Ps) (session cmd : Nat) (s : State) : Host.Outcome State Fault Refusal :=
  .next (sessionCommand session cmd (s.elapse dt))

/-- TCP_SEND (R400). -/
def execTcpSend (dt : Ps) (session length : Nat) (s : State) : Host.Outcome State Fault Refusal :=
  .next (tcpSend session length (sendBufRead session (s.elapse dt)))

/-- TCP_WINDOW_TIMEOUT: 10 s without room reset the connection (R399). -/
def execTcpWindowTimeout (dt : Ps) (session : Nat) (s : State) : Host.Outcome State Fault Refusal :=
  let s := s.elapse dt
  .next (match (s.sess session).tcp with
         | some t => match t.noRoom with
           | some t0 => if t0 + 10000000000000 ≤ s.now then resetTcp session s else s
           | none => s
         | none => s)

/-- TCP_RETRANSMIT: the unacknowledged octets are sent again (R399). -/
def execTcpRetransmit (dt : Ps) (session : Nat) (s : State) : Host.Outcome State Fault Refusal :=
  let s := sendBufRead session (s.elapse dt)
  .next (match (s.sess session).tcp with
         | some t => if t.unacked.isEmpty then s
                     else queueSegments session t.unacked (t.seq - BitVec.ofNat 32 t.unacked.length) t.cutTo s
         | none => s)

end Sys2Proof.Machine
end

