-- ==== Sys2Proof/Machine/RowsEgressCmd.lean ====
section
/-! DEFINITION. The meanings of the rows whose operations stand in `EgressCmd.lean`: each row carries the time passed since the row before. -/

namespace Sys2Proof.Machine

/-- EGRESS_SET_SESSION (R386). -/
def execEgressSetSession (dt : Ps) (q : Packet) (s : State) : Host.Outcome State Fault Refusal := command cmdEgressSetSession dt q s

/-- EGRESS_SET_PORT (R406). -/
def execEgressSetPort (dt : Ps) (q : Packet) (s : State) : Host.Outcome State Fault Refusal := command cmdEgressSetPort dt q s

/-- EGRESS_GET_SESSION (R414). -/
def execEgressGetSession (dt : Ps) (q : Packet) (s : State) : Host.Outcome State Fault Refusal := command cmdEgressGetSession dt q s

/-- EGRESS_GET_CONFIG (R397). -/
def execEgressGetConfig (dt : Ps) (q : Packet) (s : State) : Host.Outcome State Fault Refusal := command cmdEgressGetConfig dt q s

/-- EGRESS_GET_COUNTERS (R415). -/
def execEgressGetCounters (dt : Ps) (q : Packet) (s : State) : Host.Outcome State Fault Refusal := command cmdEgressGetCounters dt q s

/-- EGRESS_SEND_CFG (R396). -/
def execEgressSendCfg (dt : Ps) (q : Packet) (s : State) : Host.Outcome State Fault Refusal := command cmdEgressSendCfg dt q s

end Sys2Proof.Machine
end

