-- ==== Sys2Proof/Machine/RowsEnergy.lean ====
section
/-! DEFINITION. The meanings of the rows whose operations stand in `Energy.lean`: each row carries the time passed since the row before. -/

namespace Sys2Proof.Machine

/-- ENERGY_SNAPSHOT: the sample that the unit would take now lies past a boundary (R303). -/
def execEnergySnapshot (dt : Ps) (s : State) : Host.Outcome State Fault Refusal :=
  let s := s.elapse dt
  .next (snapshotAt (stampAdd (tapStamp s) (-(32 * tapUnits : Nat))) s)

/-- TAP_SAMPLE (R292). -/
def execTapSample (dt : Ps) (s : State) : Host.Outcome State Fault Refusal := .next (tapSample (s.elapse dt))

/-- UNMETERED_FLOW_QUALIFIED (R306). -/
def execUnmeteredFlowQualified (dt : Ps) (line phase : Nat) (s : State) : Host.Outcome State Fault Refusal :=
  .next (flowQualified line phase (s.elapse dt))

/-- ENERGY_MIRROR_SEND: every 10 ms (R312). -/
def execEnergyMirrorSend (dt : Ps) (s : State) : Host.Outcome State Fault Refusal :=
  let s := s.elapse dt
  .next (if s.active && decide (s.energy.mirrorSentAt + 10000000000 ≤ s.now) then sendEnergyMirror s else s)

/-- ENERGY_MIRROR_APPLY: the STANDBY applies the mirror that has fully arrived (R312). -/
def execEnergyMirrorApply (dt : Ps) (s : State) : Host.Outcome State Fault Refusal := .next (energyItem (s.elapse dt))

end Sys2Proof.Machine
end

