-- ==== Sys2Proof/Machine/RowsEnergyCmd.lean ====
section
/-! DEFINITION. The meanings of the rows whose operations stand in `EnergyCmd.lean`: each row carries the time passed since the row before. -/

namespace Sys2Proof.Machine

/-- ENERGY_SET_LINE (R285 to R287). -/
def execEnergySetLine (dt : Ps) (q : Packet) (s : State) : Host.Outcome State Fault Refusal := command cmdEnergySetLine dt q s

/-- ENERGY_SET_INTERVAL (R303). -/
def execEnergySetInterval (dt : Ps) (q : Packet) (s : State) : Host.Outcome State Fault Refusal := command cmdEnergySetInterval dt q s

/-- ENERGY_SET_RESERVE (R306). -/
def execEnergySetReserve (dt : Ps) (q : Packet) (s : State) : Host.Outcome State Fault Refusal := command cmdEnergySetReserve dt q s

/-- ENERGY_READ (R315). -/
def execEnergyRead (dt : Ps) (q : Packet) (s : State) : Host.Outcome State Fault Refusal := command cmdEnergyRead dt q s

/-- ENERGY_READ_RESERVE (R314). -/
def execEnergyReadReserve (dt : Ps) (q : Packet) (s : State) : Host.Outcome State Fault Refusal := command cmdEnergyReadReserve dt q s

/-- ENERGY_READ_SNAPSHOT (R314). -/
def execEnergyReadSnapshot (dt : Ps) (q : Packet) (s : State) : Host.Outcome State Fault Refusal := command cmdEnergyReadSnapshot dt q s

/-- ENERGY_GET_STATUS (R314). -/
def execEnergyGetStatus (dt : Ps) (q : Packet) (s : State) : Host.Outcome State Fault Refusal := command cmdEnergyGetStatus dt q s

/-- ENERGY_READ_EVENTS (R308, R309). -/
def execEnergyReadEvents (dt : Ps) (q : Packet) (s : State) : Host.Outcome State Fault Refusal := command cmdEnergyReadEvents dt q s

/-- ENERGY_CLEAR (R316). -/
def execEnergyClear (dt : Ps) (q : Packet) (s : State) : Host.Outcome State Fault Refusal := command cmdEnergyClear dt q s

end Sys2Proof.Machine
end

