-- ==== Sys2Proof/Machine/RowsFront.lean ====
section
/-! DEFINITION. The meanings of the rows whose operations stand in `Front.lean`: each row carries the time passed since the row before. -/

namespace Sys2Proof.Machine

/-- CHAIN_RESTART (R262). -/
def execChainRestart (dt : Ps) (s : State) : Host.Outcome State Fault Refusal := .next (chainRestart (s.elapse dt))

/-- CHAIN_VALID (R261). -/
def execChainValid (dt : Ps) (input : Nat) (s : State) : Host.Outcome State Fault Refusal := .next (chainValid input (s.elapse dt))

/-- MODULATOR_LOSS (R265). -/
def execModulatorLoss (dt : Ps) (input : Nat) (s : State) : Host.Outcome State Fault Refusal := .next (modulatorLoss input (s.elapse dt))

/-- MODULATOR_RESUMING (R266). -/
def execModulatorResuming (dt : Ps) (input : Nat) (s : State) : Host.Outcome State Fault Refusal :=
  .next (modulatorResuming input (s.elapse dt))

/-- RESUME_WINDOW_END (R266). -/
def execResumeWindowEnd (dt : Ps) (input : Nat) (changed : Bool) (s : State) : Host.Outcome State Fault Refusal :=
  .next (resumeWindow input changed (s.elapse dt))

/-- FE_OUTPUT_SAMPLE (R268). -/
def execFeOutputSample (dt : Ps) (channel : Nat) (bitsHi bitsLo : List Bool) (s : State) : Host.Outcome State Fault Refusal :=
  .next (outputSample channel bitsHi bitsLo (sampleRead channel (s.elapse dt)))

/-- ZC_LOSS (R272). -/
def execZcLoss (dt : Ps) (channel : Nat) (s : State) : Host.Outcome State Fault Refusal := .next (zcLoss channel (s.elapse dt))

/-- LOCAL_PHASOR_RECORD (R279). -/
def execLocalPhasorRecord (dt : Ps) (stream : Nat) (s : State) : Host.Outcome State Fault Refusal :=
  .next (localPhasorRecord stream (s.elapse dt))

end Sys2Proof.Machine
end

