-- ==== Sys2Proof/Machine/RowsFrontCmd.lean ====
section
/-! DEFINITION. The meanings of the rows whose operations stand in `FrontCmd.lean`: each row carries the time passed since the row before. -/

namespace Sys2Proof.Machine

/-- FE_SET_PRESET (R252, R262). -/
def execFeSetPreset (dt : Ps) (q : Packet) (s : State) : Host.Outcome State Fault Refusal := command cmdFeSetPreset dt q s

/-- FE_SET_SAMPLING (R251). -/
def execFeSetSampling (dt : Ps) (q : Packet) (s : State) : Host.Outcome State Fault Refusal := command cmdFeSetSampling dt q s

/-- FE_SET_CAL (R257). -/
def execFeSetCal (dt : Ps) (q : Packet) (s : State) : Host.Outcome State Fault Refusal := command cmdFeSetCal dt q s

/-- FE_SET_RANGE (R269). -/
def execFeSetRange (dt : Ps) (q : Packet) (s : State) : Host.Outcome State Fault Refusal := command cmdFeSetRange dt q s

/-- FE_SET_DETECTORS (R273). -/
def execFeSetDetectors (dt : Ps) (q : Packet) (s : State) : Host.Outcome State Fault Refusal := command cmdFeSetDetectors dt q s

/-- FE_SET_LOCAL_STREAM (R277, R278). -/
def execFeSetLocalStream (dt : Ps) (q : Packet) (s : State) : Host.Outcome State Fault Refusal := command cmdFeSetLocalStream dt q s

/-- FE_GET_STATUS (R283). -/
def execFeGetStatus (dt : Ps) (q : Packet) (s : State) : Host.Outcome State Fault Refusal := command cmdFeGetStatus dt q s

/-- FE_GET_DETECTORS (R283). -/
def execFeGetDetectors (dt : Ps) (q : Packet) (s : State) : Host.Outcome State Fault Refusal := command cmdFeGetDetectors dt q s

/-- FE_GET_COUNTERS (R284). -/
def execFeGetCounters (dt : Ps) (q : Packet) (s : State) : Host.Outcome State Fault Refusal := command cmdFeGetCounters dt q s

/-- FE_GET_LOCAL_CONFIG (R283). -/
def execFeGetLocalConfig (dt : Ps) (q : Packet) (s : State) : Host.Outcome State Fault Refusal := command cmdFeGetLocalConfig dt q s

end Sys2Proof.Machine
end

