-- ==== Sys2Proof/Machine/RowsHostCmd.lean ====
section
/-! DEFINITION. The meanings of the rows whose operations stand in `HostCmd.lean`: each row carries the time passed since the row before. -/

namespace Sys2Proof.Machine

/-- COMMAND_EXECUTE (R471). -/
def execCommandExecute (dt : Ps) (s : State) : Host.Outcome State Fault Refusal := .next (commandExecute (s.elapse dt))

/-- COMMAND_COMPLETE (R471). -/
def execCommandComplete (dt : Ps) (flashOk : Bool) (s : State) : Host.Outcome State Fault Refusal :=
  let s := s.elapse dt
  .next (if s.commandsRun then commandComplete flashOk s else s)

/-- MGMT_SETTINGS_APPLY (R482). -/
def execMgmtSettingsApply (dt : Ps) (s : State) : Host.Outcome State Fault Refusal :=
  let s := s.elapse dt
  .next (if s.commandsRun then mgmtApply s else s)

/-- GET_IDENTITY (R482). -/
def execGetIdentity (dt : Ps) (q : Packet) (s : State) : Host.Outcome State Fault Refusal := command cmdGetIdentity dt q s

/-- SYS_SET_MODE (R571). -/
def execSysSetMode (dt : Ps) (q : Packet) (s : State) : Host.Outcome State Fault Refusal := command cmdSysSetMode dt q s

/-- SYS_RESET (R585). -/
def execSysReset (dt : Ps) (q : Packet) (s : State) : Host.Outcome State Fault Refusal := command cmdSysReset dt q s

/-- SYS_COMMIT (R581). -/
def execSysCommit (dt : Ps) (q : Packet) (s : State) : Host.Outcome State Fault Refusal := command cmdSysCommit dt q s

/-- SYS_JOURNAL_READ (R482). -/
def execSysJournalRead (dt : Ps) (q : Packet) (s : State) : Host.Outcome State Fault Refusal := command cmdSysJournalRead dt q s

/-- SYS_JOURNAL_ROUTE (R487). -/
def execSysJournalRoute (dt : Ps) (q : Packet) (s : State) : Host.Outcome State Fault Refusal := command cmdSysJournalRoute dt q s

/-- SYS_IF_RESET (R482). -/
def execSysIfReset (dt : Ps) (q : Packet) (s : State) : Host.Outcome State Fault Refusal := command cmdSysIfReset dt q s

/-- SYS_SET_MGMT (R482). -/
def execSysSetMgmt (dt : Ps) (q : Packet) (s : State) : Host.Outcome State Fault Refusal := command cmdSysSetMgmt dt q s

/-- SYS_GET_COUNTERS (R488). -/
def execSysGetCounters (dt : Ps) (q : Packet) (s : State) : Host.Outcome State Fault Refusal := command cmdSysGetCounters dt q s

/-- SYS_ECHO (R482). -/
def execSysEcho (dt : Ps) (q : Packet) (s : State) : Host.Outcome State Fault Refusal := command cmdSysEcho dt q s

end Sys2Proof.Machine
end

