-- ==== Sys2Proof/Machine/RowsIface.lean ====
section
/-! DEFINITION. The meanings of the rows whose operations stand in `Iface.lean`: each row carries the time passed since the row before. -/

namespace Sys2Proof.Machine

/-- COMMAND_PACKET_ARRIVAL (R470). -/
def execCommandPacketArrival (dt : Ps) (ifc : Nat) (bytes : List Byte) (s : State) : Host.Outcome State Fault Refusal :=
  .next (arrive ifc .direct bytes (s.elapse dt))

/-- CMD_DOORBELL: a write of CMD_TAIL (R474). -/
def execCmdDoorbell (dt : Ps) (value : Word32) (s : State) : Host.Outcome State Fault Refusal :=
  let s := s.elapse dt
  .next (if s.bar0Runs then ringTail value s else s)

/-- CMD_ENABLE: a write of CMD_CTRL with ENABLE (R474). -/
def execCmdEnable (dt : Ps) (value : Word32) (s : State) : Host.Outcome State Fault Refusal :=
  let s := s.elapse dt
  .next (if s.bar0Runs then ringCtrl (value ||| 1#32) s else s)

/-- CMD_DISABLE: a write of CMD_CTRL without ENABLE (R467). -/
def execCmdDisable (dt : Ps) (value : Word32) (s : State) : Host.Outcome State Fault Refusal :=
  let s := s.elapse dt
  .next (if s.bar0Runs then ringCtrl (value &&& 0xFFFFFFFE#32) s else s)

/-- CMD_IF_RESET: a write of CMD_CTRL with IF_RESET (R473). -/
def execCmdIfReset (dt : Ps) (value : Word32) (s : State) : Host.Outcome State Fault Refusal :=
  let s := s.elapse dt
  .next (if s.bar0Runs then ringCtrl (value ||| 2#32) s else s)

/-- CMD_DESCRIPTOR_FETCH (R475). -/
def execCmdDescriptorFetch (dt : Ps) (desc : List Byte) (packet : Option (List Byte)) (s : State) :
    Host.Outcome State Fault Refusal :=
  .next (ringFetch desc packet (s.elapse dt))

/-- CMD_COMPLETION_WRITE (R476). -/
def execCmdCompletionWrite (dt : Ps) (s : State) : Host.Outcome State Fault Refusal :=
  .next (ringComplete (s.elapse dt))

/-- MGMT_COMMAND_DATAGRAM: `fragments` says how long after its first fragment each of its fragments came (R478). -/
def execMgmtCommandDatagram (dt : Ps) (verified : Bool) (fragments : List Ps) (srcIp srcPort : Nat) (bytes : List Byte) (s : State) :
    Host.Outcome State Fault Refusal :=
  .next (mgmtDatagram verified fragments srcIp srcPort bytes (s.elapse dt))

/-- MGMT_LINK_CHANGE: the link state read over MDIO; a link that goes down is an interface reset of MGMT (R467, R477). -/
def execMgmtLinkChange (dt : Ps) (up : Bool) (s : State) : Host.Outcome State Fault Refusal :=
  let s := s.elapse dt
  .next (if !s.online then s
         else
           let s' := { s with host := { s.host with mgmtLink := up }
                              integ := { s.integ with clockFaults := if up then s.integ.clockFaults.filter (fun d => d ≠ .gclk) else s.integ.clockFaults } }
           if s.host.mgmtLink && !up then ifReset 1 s' else s')

/-- BASTIK_DATA (R590). -/
def execBastikData (dt : Ps) (frame : List Byte) (s : State) : Host.Outcome State Fault Refusal :=
  .next (bastikDataFrame frame (s.elapse dt))

/-- BASTIK_POLL (R590). -/
def execBastikPoll (dt : Ps) (frame : List Byte) (s : State) : Host.Outcome State Fault Refusal :=
  .next (bastikPollFrame frame (s.elapse dt))

/-- BASTIK_RESYNC: loss of framing, then ACK (R589, R591). -/
def execBastikResync (dt : Ps) (frame : List Byte) (s : State) : Host.Outcome State Fault Refusal :=
  let s := s.elapse dt
  .next (if !s.svcRuns then s
         else if svcFrameOk frame then svcAck (fld frame 1 1) (framingLoss s) else svcNak (fld frame 1 1) 1 s)

/-- BASTIK_FRAMING_LOSS (R591). -/
def execBastikFramingLoss (dt : Ps) (s : State) : Host.Outcome State Fault Refusal :=
  let s := s.elapse dt
  .next (if s.svcRuns then framingLoss s else s)

/-- INT_SET (R459). -/
def execIntSet (dt : Ps) (idx : Nat) (value : Word32) (s : State) : Host.Outcome State Fault Refusal :=
  let s := s.elapse dt
  .next (if s.bar0Runs then intSetWrite idx value s else s)

/-- INT_CAUSE_CLEAR (R460). -/
def execIntCauseClear (dt : Ps) (idx : Nat) (value again : Word32) (s : State) : Host.Outcome State Fault Refusal :=
  let s := s.elapse dt
  .next (if s.bar0Runs then intCauseWrite idx value again s else s)

/-- INT_MASK_WRITE (R460). -/
def execIntMaskWrite (dt : Ps) (idx : Nat) (value : Word32) (s : State) : Host.Outcome State Fault Refusal :=
  let s := s.elapse dt
  .next (if s.bar0Runs then intMaskWrite idx value s else s)

/-- MSIX_MODERATION_EXPIRY (R460). -/
def execMsixModerationExpiry (dt : Ps) (vec : Nat) (s : State) : Host.Outcome State Fault Refusal :=
  .next (moderationEnd vec (s.elapse dt))

/-- MSIX_VECTOR_UNMASK (R460). -/
def execMsixVectorUnmask (dt : Ps) (vec : Nat) (s : State) : Host.Outcome State Fault Refusal :=
  let s := s.elapse dt
  .next (if s.bar0Runs then vecUnmask vec s else s)

/-- ENDPOINT_RESET (R453). -/
def execEndpointReset (dt : Ps) (s : State) : Host.Outcome State Fault Refusal :=
  let s := s.elapse dt
  .next (if s.sys.phase = .running then bar0Reset (pcieDown s) else s)

/-- PCIE_LINK_DOWN: the link goes down, or, with `busMaster`, Bus Master Enable is cleared (R454). -/
def execPcieLinkDown (dt : Ps) (busMaster : Bool) (s : State) : Host.Outcome State Fault Refusal :=
  let s := s.elapse dt
  .next (if s.host.pcieUp && (!busMaster || s.host.busMaster) then
           let s' := pcieDown s
           { s' with host := { s'.host with pcieUp := busMaster, busMaster := false } }
         else s)

/-- PCIE_LINK_UP: the link comes up, or its Device Control is written: Bus Master Enable and the sizes of requests; pending
messages of vectors that are not masked are sent once the device may (R417, R454, R460). -/
def execPcieLinkUp (dt : Ps) (set : PcieSettings) (s : State) : Host.Outcome State Fault Refusal :=
  let s := s.elapse dt
  .next (if s.sys.phase = .running && s.sys.mode != .dormant then
           let s1 := { s with host := { s.host with pcieUp := true, busMaster := set.busMaster || s.host.busMaster, payload := set.payload, readSize := set.readSize }
                              integ := { s.integ with clockFaults := s.integ.clockFaults.filter fun d => d ≠ .pclk } }
           if s1.host.busMaster then
             (List.range 32).foldl (fun s v => if (s.vec v).pending && !(s.vec v).masked then vecUnmask v s else s) s1
           else s1
         else s)

end Sys2Proof.Machine
end

