-- ==== Sys2Proof/Machine/RowsIngressCmd.lean ====
section
/-! DEFINITION. The meanings of the rows whose operations stand in `IngressCmd.lean`: each row carries the time passed since the row before. -/

namespace Sys2Proof.Machine

/-- STREAM_ADD (R177). -/
def execStreamAdd (dt : Ps) (q : Packet) (s : State) : Host.Outcome State Fault Refusal := command cmdStreamAdd dt q s

/-- STREAM_REMOVE (R193). -/
def execStreamRemove (dt : Ps) (q : Packet) (s : State) : Host.Outcome State Fault Refusal := command cmdStreamRemove dt q s

/-- STREAM_REBIND (R191). -/
def execStreamRebind (dt : Ps) (q : Packet) (s : State) : Host.Outcome State Fault Refusal := command cmdStreamRebind dt q s

/-- STREAM_LOAD_CONFIG (R184). -/
def execStreamLoadConfig (dt : Ps) (q : Packet) (s : State) : Host.Outcome State Fault Refusal := command cmdStreamLoadConfig dt q s

/-- STREAM_GET (R181). -/
def execStreamGet (dt : Ps) (q : Packet) (s : State) : Host.Outcome State Fault Refusal := command cmdStreamGet dt q s

/-- STREAM_GET_COUNTERS (R203). -/
def execStreamGetCounters (dt : Ps) (q : Packet) (s : State) : Host.Outcome State Fault Refusal := command cmdStreamGetCounters dt q s

/-- STREAM_SEND_COMMAND (R187). -/
def execStreamSendCommand (dt : Ps) (q : Packet) (s : State) : Host.Outcome State Fault Refusal := command cmdStreamSendCommand dt q s

/-- INGRESS_SET_PORT (R162). -/
def execIngressSetPort (dt : Ps) (q : Packet) (s : State) : Host.Outcome State Fault Refusal := command cmdIngressSetPort dt q s

/-- INGRESS_SET_RINGS (R198). -/
def execIngressSetRings (dt : Ps) (q : Packet) (s : State) : Host.Outcome State Fault Refusal := command cmdIngressSetRings dt q s

/-- INGRESS_GET_COUNTERS (R205). -/
def execIngressGetCounters (dt : Ps) (q : Packet) (s : State) : Host.Outcome State Fault Refusal := command cmdIngressGetCounters dt q s

/-- INGRESS_SET_STREAM_PORTS (R167). -/
def execIngressSetStreamPorts (dt : Ps) (q : Packet) (s : State) : Host.Outcome State Fault Refusal := command cmdIngressSetStreamPorts dt q s

/-- INGRESS_JOIN_GROUP (R170). -/
def execIngressJoinGroup (dt : Ps) (q : Packet) (s : State) : Host.Outcome State Fault Refusal := command cmdIngressJoinGroup dt q s

end Sys2Proof.Machine
end

