-- ==== Sys2Proof/Machine/RowsInteg.lean ====
section
/-! DEFINITION. The meanings of the rows whose operations stand in `Integ.lean`: each row carries the time passed since the row before. -/

namespace Sys2Proof.Machine

/-- ENGINE_LOCKSTEP_MISMATCH (R533). -/
def execEngineLockstepMismatch (dt : Ps) (ae : Nat) (s : State) : Host.Outcome State Fault Refusal :=
  let s := s.elapse dt
  .next (if faultsCount s && decide (ae < 12) then lockstepMismatch ae s else s)

/-- ENGINE_SELFTEST_DONE (R534). -/
def execEngineSelftestDone (dt : Ps) (ae : Nat) (pass : Bool) (s : State) : Host.Outcome State Fault Refusal :=
  let s := s.elapse dt
  .next (if faultsCount s && decide (ae < 12) then selftestDone ae pass s else s)

/-- SRAM_SCRUB_READ (R528). -/
def execSramScrubRead (dt : Ps) (cls item addr : Nat) (stored : BitVec 39) (functionalWrite : Bool) (s : State) :
    Host.Outcome State Fault Refusal :=
  let s := s.elapse dt
  .next (if faultsCount s && decide (cls < 15) && cls != 12 && cls != 13 then sramScrub cls item addr stored functionalWrite s else s)

/-- RESERVE_SCRUB: TCLK or KCLK runs (R528). -/
def execReserveScrub (dt : Ps) (item : ReserveItem) (stored : BitVec 39) (s : State) : Host.Outcome State Fault Refusal :=
  let s := s.elapse dt
  .next (if s.sys.phase = .unpowered then s else reserveScrub item stored s)

/-- PATROL_READ (R529). -/
def execPatrolRead (dt : Ps) (ch addr : Nat) (data : Word32) (check : BitVec 8) (s : State) : Host.Outcome State Fault Refusal :=
  let s := s.elapse dt
  .next (if faultsCount s && decide (ch < 2) && s.sys.mode != .dormant then patrolRead ch addr data check s else s)

/-- DRAM_WRITEBACK (R531). -/
def execDramWriteback (dt : Ps) (ch : Nat) (s : State) : Host.Outcome State Fault Refusal := .next (dramWriteback ch (s.elapse dt))

/-- LOCKOUT: it prevails over a watchdog expiry of the same edge (R545, R573). -/
def execLockout (dt : Ps) (cls unit : Nat) (detail : Word32) (s : State) : Host.Outcome State Fault Refusal :=
  let s := s.elapse dt
  .next (if faultsCount s then lockout cls unit detail s
         else if s.sys.phase = .held .wdog && s.sys.lastResetAt = s.stamp then lockoutOverWdog cls unit detail s else s)

/-- CLOCK_FAULT (R540). -/
def execClockFault (dt : Ps) (domain : ClockDomain) (s : State) : Host.Outcome State Fault Refusal :=
  let s := s.elapse dt
  .next (if faultsCount s then clockFault domain s else s)

/-- RESERVE_UNAVAILABLE (R541). -/
def execReserveUnavailable (dt : Ps) (s : State) : Host.Outcome State Fault Refusal :=
  let s := s.elapse dt
  .next (if faultsCount s then { s with integ := { s.integ with reserveUnavailable := true } } else s)

/-- TEMP_SAMPLE (R542): a device held in reset takes samples too; during the thermal shutdown only TJ follows. -/
def execTempSample (dt : Ps) (sensors : List Int) (s : State) : Host.Outcome State Fault Refusal :=
  let s := s.elapse dt
  .next (if sensors.length ≠ 8 then s
         else if mainsOn s then tempSample sensors s
         else if s.sys.phase = .thermal then
           { s with integ := { s.integ with sensors, tj := match sensors with | x :: t => t.foldl max x | [] => 0 } }
         else s)

/-- THERMAL_SHUTDOWN: every clock but KCLK stops once TJ has been 125 °C or more for 100 µs, in a reset too (R542, R573). -/
def execThermalShutdown (dt : Ps) (s : State) : Host.Outcome State Fault Refusal :=
  let s := s.elapse dt
  .next (if mainsOn s && scorched s then wipe .por .thermal s else s)

/-- THERMAL_SHUTDOWN_END: TJ is below 100 °C; a POR follows (R542, R576). -/
def execThermalShutdownEnd (dt : Ps) (s : State) : Host.Outcome State Fault Refusal :=
  let s := s.elapse dt
  .next (if s.sys.phase = .thermal && decide (s.integ.tj < 1600) then resetEdge .por s else s)

/-- ALM_READBACK (R543). -/
def execAlmReadback (dt : Ps) (pin : Nat) (high : Bool) (s : State) : Host.Outcome State Fault Refusal :=
  let s := s.elapse dt
  .next (if faultsCount s && decide (pin < 16) then almReadback pin high s else s)

/-- WATCHDOG_SERVICE (R537). -/
def execWatchdogService (dt : Ps) (s : State) : Host.Outcome State Fault Refusal :=
  let s := s.elapse dt
  .next (if s.sys.phase = .running then { s with sys := { s.sys with wdogAt := s.now } } else s)

/-- AUTO_LEAVE_SAFE (R547). -/
def execAutoLeaveSafe (dt : Ps) (s : State) : Host.Outcome State Fault Refusal := .next (autoLeave (s.elapse dt))

end Sys2Proof.Machine
end

