-- ==== Sys2Proof/Machine/RowsIntegCmd.lean ====
section
/-! DEFINITION. The meanings of the rows whose operations stand in `IntegCmd.lean`: each row carries the time passed since the row before. -/

namespace Sys2Proof.Machine

/-- INTEG_GET_STATUS (R548). -/
def execIntegGetStatus (dt : Ps) (q : Packet) (s : State) : Host.Outcome State Fault Refusal := command cmdIntegGetStatus dt q s

/-- INTEG_READ_LOG (R548). -/
def execIntegReadLog (dt : Ps) (q : Packet) (s : State) : Host.Outcome State Fault Refusal := command cmdIntegReadLog dt q s

/-- INTEG_SET_POLICY (R546). -/
def execIntegSetPolicy (dt : Ps) (q : Packet) (s : State) : Host.Outcome State Fault Refusal := command cmdIntegSetPolicy dt q s

/-- INTEG_INJECT (R548). -/
def execIntegInject (dt : Ps) (q : Packet) (s : State) : Host.Outcome State Fault Refusal := command cmdIntegInject dt q s

/-- INTEG_LEAVE_SAFE (R547). -/
def execIntegLeaveSafe (dt : Ps) (q : Packet) (s : State) : Host.Outcome State Fault Refusal := command cmdIntegLeaveSafe dt q s

/-- DIAG_GET_MONITORS (R548). -/
def execDiagGetMonitors (dt : Ps) (q : Packet) (s : State) : Host.Outcome State Fault Refusal := command cmdDiagGetMonitors dt q s

/-- INTEG_GET_COUNTERS (R549). -/
def execIntegGetCounters (dt : Ps) (q : Packet) (s : State) : Host.Outcome State Fault Refusal := command cmdIntegGetCounters dt q s

end Sys2Proof.Machine
end

