-- ==== Sys2Proof/Machine/RowsKernel.lean ====
section
/-! DEFINITION. The meanings of the rows whose operations stand in `Kernel.lean`: each row carries the time passed since the row before. -/

namespace Sys2Proof.Machine

/-- ITEM_DISPATCH (R365). -/
def execItemDispatch (dt : Ps) (s : State) : Host.Outcome State Fault Refusal := .next (dispatch (dispatchRead (deadlinesCome (s.elapse dt))))

/-- ITEM_ARRIVAL (R364). -/
def execItemArrival (dt : Ps) (ae : Nat) (s : State) : Host.Outcome State Fault Refusal := .next (itemArrival ae (arrivalRead ae (s.elapse dt)))

/-- ENGINE_RELEASE (R368). -/
def execEngineRelease (dt : Ps) (ae : Nat) (accs : List EngineAcc) (s : State) : Host.Outcome State Fault Refusal :=
  .next (engineRelease ae accs (releaseRead ae (s.elapse dt)))

/-- RELEASE_FENCE_DONE (R368): on the deadline edge it is late (R39). -/
def execReleaseFenceDone (dt : Ps) (entry : Nat) (s : State) : Host.Outcome State Fault Refusal :=
  .next (fenceDone entry (robRead (fun n _ => n = entry) (deadlinesCome (s.elapse dt))))

/-- ITEM_POSTED (R369). -/
def execItemPosted (dt : Ps) (flow : Nat) (s : State) : Host.Outcome State Fault Refusal :=
  .next (postItem flow (robRead (fun _ r => r.item.flow = flow) (deadlinesCome (s.elapse dt))))

end Sys2Proof.Machine
end

