-- ==== Sys2Proof/Machine/RowsKernelCmd.lean ====
section
/-! DEFINITION. The meanings of the rows whose operations stand in `KernelCmd.lean`: each row carries the time passed since the row before. -/

namespace Sys2Proof.Machine

/-- KERNEL_GET_CATALOGUE (R384). -/
def execKernelGetCatalogue (dt : Ps) (q : Packet) (s : State) : Host.Outcome State Fault Refusal := command cmdKernelGetCatalogue dt q s

/-- KERNEL_SET_PARAMS (R376). -/
def execKernelSetParams (dt : Ps) (q : Packet) (s : State) : Host.Outcome State Fault Refusal := command cmdKernelSetParams dt q s

/-- KERNEL_SET_FLOW (R360). -/
def execKernelSetFlow (dt : Ps) (q : Packet) (s : State) : Host.Outcome State Fault Refusal := command cmdKernelSetFlow dt q s

/-- KERNEL_GET_FLOW (R379). -/
def execKernelGetFlow (dt : Ps) (q : Packet) (s : State) : Host.Outcome State Fault Refusal := command cmdKernelGetFlow dt q s

/-- KERNEL_READ_RESULT (R378). -/
def execKernelReadResult (dt : Ps) (q : Packet) (s : State) : Host.Outcome State Fault Refusal := command cmdKernelReadResult dt q s

/-- KERNEL_GET_STATUS (R383). -/
def execKernelGetStatus (dt : Ps) (q : Packet) (s : State) : Host.Outcome State Fault Refusal := command cmdKernelGetStatus dt q s

/-- KERNEL_GET_COUNTERS (R385). -/
def execKernelGetCounters (dt : Ps) (q : Packet) (s : State) : Host.Outcome State Fault Refusal := command cmdKernelGetCounters dt q s

end Sys2Proof.Machine
end

