-- ==== Sys2Proof/Machine/RowsMac.lean ====
section
/-! DEFINITION. The meanings of the rows whose operations stand in `Mac.lean`: each row carries the time passed since the row before. -/

namespace Sys2Proof.Machine

/-- MAC_TX_START (R403). -/
def execMacTxStart (dt : Ps) (port : Nat) (express : Bool) (s : State) : Host.Outcome State Fault Refusal :=
  let s := txStartRead port express (s.elapse dt)
  .next (if express then expressStart port s else preemptStart port s)

/-- MAC_TX_DONE (R157). -/
def execMacTxDone (dt : Ps) (port : Nat) (express : Bool) (s : State) : Host.Outcome State Fault Refusal :=
  .next (macDone port express (txDoneRead port express (s.elapse dt)))

/-- LAUNCH_DECISION (R156). -/
def execLaunchDecision (dt : Ps) (port : Nat) (express : Bool) (s : State) : Host.Outcome State Fault Refusal :=
  .next (launchDecide port express (s.elapse dt))

/-- PAUSE_RX (R408). -/
def execPauseRx (dt : Ps) (port : Nat) (pfc : Option Nat) (quanta : List Nat) (s : State) : Host.Outcome State Fault Refusal :=
  .next (pauseRx port pfc quanta (s.elapse dt))

/-- PAUSE_END: a pause time that has run out holds nothing further (R408). -/
def execPauseEnd (dt : Ps) (port : Nat) (s : State) : Host.Outcome State Fault Refusal :=
  let s := s.elapse dt
  .next (s.modTx port fun x => { x with pauseTo := x.pauseTo.map fun t => if t ≤ s.now then 0 else t })

/-- WAN_LINK_CHANGE (R404). -/
def execWanLinkChange (dt : Ps) (port : Nat) (up : Bool) (s : State) : Host.Outcome State Fault Refusal :=
  let s := s.elapse dt
  .next (if s.online && decide (port < 4) then wanLink port up s else s)

/-- VERIFY_TIMEOUT: 10 ms without a response; after the third attempt verification fails (R404). -/
def execVerifyTimeout (dt : Ps) (port : Nat) (s : State) : Host.Outcome State Fault Refusal :=
  let s := s.elapse dt
  .next (match (s.tx port).verify with
         | some n => if s.now < (s.tx port).verifyAt + 10000000000 then s
                     else if n < 3 then verifyStart port (n + 1) s
                     else s.modTx port fun x => { x with verify := none, cVerifyFails := inc x.cVerifyFails }
         | none => s)

/-- VERIFY_RESPONSE: verification succeeds and preemption is active (R404). -/
def execVerifyResponse (dt : Ps) (port : Nat) (s : State) : Host.Outcome State Fault Refusal :=
  let s := s.elapse dt
  .next (if (s.tx port).verify.isSome then s.modTx port fun x => { x with verify := none, active := true } else s)

end Sys2Proof.Machine
end

