-- ==== Sys2Proof/Machine/RowsPair.lean ====
section
/-! DEFINITION. The meanings of the rows whose operations stand in `Pair.lean`: each row carries the time passed since the row before. -/

namespace Sys2Proof.Machine

/-- PEER_LINK_TRAINING (R494). -/
def execPeerLinkTraining (dt : Ps) (link : Nat) (s : State) : Host.Outcome State Fault Refusal := .next (linkTraining link (s.elapse dt))

/-- HELLO (R496). -/
def execHello (dt : Ps) (link : Nat) (msg : HelloMsg) (s : State) : Host.Outcome State Fault Refusal := .next (helloRx link msg (s.elapse dt))

/-- HELLO_REPEAT (R494). -/
def execHelloRepeat (dt : Ps) (link : Nat) (s : State) : Host.Outcome State Fault Refusal := .next (helloRepeat link (s.elapse dt))

/-- PEER_LINK_DOWN (R494). -/
def execPeerLinkDown (dt : Ps) (link : Nat) (s : State) : Host.Outcome State Fault Refusal :=
  let s := s.elapse dt
  .next (if (s.link link).state = .down then s else loseLink link s)

/-- ACK (R493). -/
def execAck (dt : Ps) (link : PeerIn) (lseq : Nat) (s : State) : Host.Outcome State Fault Refusal := .next (ackRx link lseq (s.elapse dt))

/-- ACK_SEND (R493). -/
def execAckSend (dt : Ps) (link : Nat) (s : State) : Host.Outcome State Fault Refusal := .next (ackSend link (s.elapse dt))

/-- PEER_RESEND (R493). -/
def execPeerResend (dt : Ps) (link : Nat) (s : State) : Host.Outcome State Fault Refusal := .next (peerResend link (s.elapse dt))

/-- RECORD (R498). -/
def execRecord (dt : Ps) (link : Nat) (crcOk : Bool) (zone : Nat) (record : List Byte) (s : State) : Host.Outcome State Fault Refusal :=
  .next (recordRx link crcOk record (s.elapse dt) |> fun t => if zone < 64 then t else s.elapse dt)

/-- GEN (R499). -/
def execGen (dt : Ps) (link : PeerIn) (index gen : Nat) (s : State) : Host.Outcome State Fault Refusal := .next (genRx link index gen (s.elapse dt))

/-- GEN_REPEAT (R499). -/
def execGenRepeat (dt : Ps) (index : Nat) (s : State) : Host.Outcome State Fault Refusal := .next (genRepeat index (s.elapse dt))

/-- CONTROL (R498). The effective tick is checked by the home device at insertion. -/
def execControl (dt : Ps) (link : Nat) (lseq : PeerSeq) (index zone : Nat) (add : Bool) (effective : Stamp) (s : State) : Host.Outcome State Fault Refusal :=
  let s := s.elapse dt
  .next (if effective < stampMod then controlRx link lseq index zone add s else s)

/-- HEARTBEAT (R509). -/
def execHeartbeat (dt : Ps) (link : Nat) (crcOk : Bool) (msg : HeartbeatMsg) (s : State) : Host.Outcome State Fault Refusal :=
  .next (heartbeatRx link crcOk msg (s.elapse dt))

/-- HEARTBEAT_SEND: every 25,000 TCLK (R509). -/
def execHeartbeatSend (dt : Ps) (link : Nat) (s : State) : Host.Outcome State Fault Refusal :=
  let s := s.elapse dt
  .next (if s.peersUp && decide ((s.link link).hbSentAt + 100000000 ≤ s.now) then sendHeartbeat link false s else s)

/-- HEARTBEAT_MISSED (R509). -/
def execHeartbeatMissed (dt : Ps) (link : Nat) (s : State) : Host.Outcome State Fault Refusal := .next (heartbeatMissed link (s.elapse dt))

/-- PARTNER_LOSS: 75,000 TCLK after the last accepted heartbeat (R503, R511). -/
def execPartnerLoss (dt : Ps) (s : State) : Host.Outcome State Fault Refusal :=
  let s := s.elapse dt
  let due := match s.pair.eclipseFrom with | some t => decide (t + 300000000 ≤ s.now) | none => false
  .next (if s.peersUp && due then declareLoss s else s)

/-- LISTEN_WINDOW_END: 1 ms for the primary, 2 ms for the secondary (R503). -/
def execListenWindowEnd (dt : Ps) (s : State) : Host.Outcome State Fault Refusal :=
  let s := s.elapse dt
  let window := if s.primary then 1000000000 else 2000000000
  .next (if s.pair.state = .listen && s.peersUp && decide (s.pair.listenFrom + window ≤ s.now)
         then changeMode .active false (setPair .activeAlone s) else s)

/-- TAKEOVER_COMPLETE (R513). -/
def execTakeoverComplete (dt : Ps) (s : State) : Host.Outcome State Fault Refusal := .next (takeoverComplete (s.elapse dt))

/-- TAKEOVER (R514). -/
def execTakeover (dt : Ps) (link : PeerIn) (position : Nat) (s : State) : Host.Outcome State Fault Refusal :=
  let s := s.elapse dt
  .next (if position < 4 then takeoverRx link s else s)

/-- HOLD_TIMER_EXPIRY (R515). -/
def execHoldTimerExpiry (dt : Ps) (s : State) : Host.Outcome State Fault Refusal := .next (holdExpiry (s.elapse dt))

/-- HANDOVER_REQUEST (R516). -/
def execHandoverRequest (dt : Ps) (lseq : PeerSeq) (s : State) : Host.Outcome State Fault Refusal := .next (requestRx lseq (s.elapse dt))

/-- HANDOVER_GRANT (R503). -/
def execHandoverGrant (dt : Ps) (lseq : PeerSeq) (edge : Stamp) (s : State) : Host.Outcome State Fault Refusal := .next (grantRx lseq edge (s.elapse dt))

/-- HANDOVER_REFUSE (R516). -/
def execHandoverRefuse (dt : Ps) (lseq : PeerSeq) (reason : Nat) (s : State) : Host.Outcome State Fault Refusal :=
  let s := s.elapse dt
  .next (if inRange reason 1 3 then refuseRx lseq s else s)

/-- HANDOVER_EDGE (R517). -/
def execHandoverEdge (dt : Ps) (s : State) : Host.Outcome State Fault Refusal := .next (handoverEdgeAct (s.elapse dt))

/-- HANDOVER_BREAK (R517). -/
def execHandoverBreak (dt : Ps) (s : State) : Host.Outcome State Fault Refusal := .next (handoverBreak (s.elapse dt))

/-- MIRROR (R504). -/
def execMirror (dt : Ps) (lseq : PeerSeq) (item : MirrorItem) (s : State) : Host.Outcome State Fault Refusal := .next (mirrorRx lseq item (s.elapse dt))

end Sys2Proof.Machine
end

