-- ==== Sys2Proof/Machine/RowsPairCmd.lean ====
section
/-! DEFINITION. The meanings of the rows whose operations stand in `PairCmd.lean`: each row carries the time passed since the row before. -/

namespace Sys2Proof.Machine

/-- PAIR_SET (R501). -/
def execPairSet (dt : Ps) (q : Packet) (s : State) : Host.Outcome State Fault Refusal := command cmdPairSet dt q s

/-- PAIR_GET_STATUS (R520). -/
def execPairGetStatus (dt : Ps) (q : Packet) (s : State) : Host.Outcome State Fault Refusal := command cmdPairGetStatus dt q s

/-- PAIR_SET_REVERT (R515). -/
def execPairSetRevert (dt : Ps) (q : Packet) (s : State) : Host.Outcome State Fault Refusal := command cmdPairSetRevert dt q s

/-- PAIR_SWITCHOVER (R519). -/
def execPairSwitchover (dt : Ps) (q : Packet) (s : State) : Host.Outcome State Fault Refusal := command cmdPairSwitchover dt q s

/-- FED_SET (R495). -/
def execFedSet (dt : Ps) (q : Packet) (s : State) : Host.Outcome State Fault Refusal := command cmdFedSet dt q s

/-- FED_GET_STATUS (R520). -/
def execFedGetStatus (dt : Ps) (q : Packet) (s : State) : Host.Outcome State Fault Refusal := command cmdFedGetStatus dt q s

/-- PAIR_GET_COUNTERS (R521). -/
def execPairGetCounters (dt : Ps) (q : Packet) (s : State) : Host.Outcome State Fault Refusal := command cmdPairGetCounters dt q s

end Sys2Proof.Machine
end

