-- ==== Sys2Proof/Machine/RowsReceive.lean ====
section
/-! DEFINITION. The meanings of the rows whose operations stand in `Receive.lean`: each row carries the time passed since the row before. -/

namespace Sys2Proof.Machine

/-- FRAGMENT_TIMEOUT (R172). -/
def execFragmentTimeout (dt : Ps) (s : State) : Host.Outcome State Fault Refusal := .next (fragmentTimeout (s.elapse dt))

/-- WAN_FRAME_RX (R163). -/
def execWanFrameRx (dt : Ps) (port : Nat) (frame : LineFrame) (s : State) : Host.Outcome State Fault Refusal :=
  .next (wanFrameRx port frame (s.elapse dt))

/-- MGMT_FRAME_RX (R168). -/
def execMgmtFrameRx (dt : Ps) (frame : LineFrame) (s : State) : Host.Outcome State Fault Refusal := .next (mgmtFrameRx frame (s.elapse dt))

/-- SUPERVISOR_FRAME (R170). -/
def execSupervisorFrame (dt : Ps) (s : State) : Host.Outcome State Fault Refusal :=
  let s := s.elapse dt
  .next (if s.online then supervisorFrame s else s)

/-- RX_DESCRIPTOR_WRITEBACK (R200). -/
def execRxDescriptorWriteback (dt : Ps) (ring : Nat) (desc : List Byte) (s : State) : Host.Outcome State Fault Refusal :=
  .next (ringStep ring desc (s.elapse dt))

end Sys2Proof.Machine
end

