-- ==== Sys2Proof/Machine/RowsRegs.lean ====
section
/-! DEFINITION. The meanings of the rows whose operations stand in `Regs.lean`: each row carries the time passed since the row before. -/

namespace Sys2Proof.Machine

/-- REGISTER_WRITE (R18, R455). -/
def execRegisterWrite (dt : Ps) (addr len : Nat) (value : Word32) (s : State) : Host.Outcome State Fault Refusal :=
  .next (bar0Write addr len value (s.elapse dt))

/-- READ_CLEAR_REGISTER (R20, R455). -/
def execReadClearRegister (dt : Ps) (addr len : Nat) (s : State) : Host.Outcome State Fault Refusal :=
  .next (bar0Read addr len (s.elapse dt))

/-- TS_NS_READ: a read of TS_NS (R121). -/
def execTsNsRead (dt : Ps) (s : State) : Host.Outcome State Fault Refusal :=
  .next (bar0Read 0x40000 4 (s.elapse dt))

end Sys2Proof.Machine
end

