-- ==== Sys2Proof/Machine/RowsSecurity.lean ====
section
/-! DEFINITION. The meanings of the rows whose operations stand in `Security.lean`: each row carries the time passed since the row before. -/

namespace Sys2Proof.Machine

/-- MKPDU_RX (R565). -/
def execMkpduRx (dt : Ps) (port : Nat) (pdu : Mkpdu) (s : State) : Host.Outcome State Fault Refusal :=
  let s := s.elapse dt
  .next (if port < 5 then mkpduRx port pdu s else s)

/-- MKA_HELLO (R565). -/
def execMkaHello (dt : Ps) (port : Nat) (s : State) : Host.Outcome State Fault Refusal :=
  let s := s.elapse dt
  .next (if port < 5 then mkaHello port s else s)

/-- MKA_LIFE_TIME_EXPIRY: a peer not heard for 6 s is removed (R565). -/
def execMkaLifeTimeExpiry (dt : Ps) (port peer : Nat) (s : State) : Host.Outcome State Fault Refusal :=
  let s := s.elapse dt
  let x := s.mka port
  .next (if port < 5 then
    s.setMka port { x with peers := x.peers.filter fun q => !(q.1 = peer && decide (q.2.2 + 6000000000000 ≤ s.now)) }
    else s)

/-- SAK_INSTALL (R410). -/
def execSakInstall (dt : Ps) (port keyNumber an : Nat) (s : State) : Host.Outcome State Fault Refusal :=
  let s := s.elapse dt
  .next (if port < 5 ∧ an < 4 then sakInstall port keyNumber an s else s)

/-- SEC_GET_LIFECYCLE (R561, R569). -/
def execSecGetLifecycle (dt : Ps) (q : Packet) (s : State) : Host.Outcome State Fault Refusal := command cmdSecGetLifecycle dt q s

/-- SEC_SET_LIFECYCLE (R556). -/
def execSecSetLifecycle (dt : Ps) (q : Packet) (s : State) : Host.Outcome State Fault Refusal := command cmdSecSetLifecycle dt q s

/-- SEC_SET_OWNER_ROOT (R559). -/
def execSecSetOwnerRoot (dt : Ps) (q : Packet) (s : State) : Host.Outcome State Fault Refusal := command cmdSecSetOwnerRoot dt q s

/-- SEC_SET_MKA (R566). -/
def execSecSetMka (dt : Ps) (q : Packet) (s : State) : Host.Outcome State Fault Refusal := command cmdSecSetMka dt q s

/-- SEC_GET_MKA_STATUS (R569). -/
def execSecGetMkaStatus (dt : Ps) (q : Packet) (s : State) : Host.Outcome State Fault Refusal := command cmdSecGetMkaStatus dt q s

end Sys2Proof.Machine
end

