-- ==== Sys2Proof/Machine/RowsStream.lean ====
section
/-! DEFINITION. The meanings of the rows whose operations stand in `Stream.lean`: each row carries the time passed since the row before. -/

namespace Sys2Proof.Machine

/-- CFG_REQUEST_REPEAT (R187). -/
def execCfgRequestRepeat (dt : Ps) (index : Nat) (s : State) : Host.Outcome State Fault Refusal := .next (cfgRepeat index (s.elapse dt))

/-- CONFIG_CHECK_DONE (R183). -/
def execConfigCheckDone (dt : Ps) (index : Nat) (s : State) : Host.Outcome State Fault Refusal := .next (checkDone index (s.elapse dt))

/-- PARSER_INPUT (R173). -/
def execParserInput (dt : Ps) (lane : Nat) (s : State) : Host.Outcome State Fault Refusal := .next (parserInput lane (s.elapse dt))

/-- STREAM_FRAME_BIND (R526, R609). -/
def execStreamFrameBind (dt : Ps) (lane : Nat) (s : State) : Host.Outcome State Fault Refusal := .next (bindChecked lane (s.elapse dt))

/-- STREAM_SILENT (R182). -/
def execStreamSilent (dt : Ps) (index : Nat) (s : State) : Host.Outcome State Fault Refusal := .next (goSilent index (s.elapse dt))

/-- QUARANTINE_END (R191). -/
def execQuarantineEnd (dt : Ps) (index : Nat) (s : State) : Host.Outcome State Fault Refusal := .next (quarantineEnd index (s.elapse dt))

/-- TCP_RECONNECT (R194). -/
def execTcpReconnect (dt : Ps) (index : Nat) (connected : Bool) (s : State) : Host.Outcome State Fault Refusal :=
  .next (tcpReconnect index connected (s.elapse dt))

/-- TCP_SEGMENT_RX: a segment of a stream's connection or of a session's (R194, R399). -/
def execTcpSegmentRx (dt : Ps) (conn : TcpConn) (seg : TcpSegment) (s : State) : Host.Outcome State Fault Refusal :=
  let s := s.elapse dt
  .next (match conn with
         | .stream i => if s.online then streamSegment i seg s else s
         | .session n => sessionSegment n seg s)

/-- TCP_FRAME_DELIVER (R194). -/
def execTcpFrameDeliver (dt : Ps) (index : Nat) (s : State) : Host.Outcome State Fault Refusal := .next (tcpDeliver index (s.elapse dt))

/-- TCP_FRAME_TIMEOUT (R196). -/
def execTcpFrameTimeout (dt : Ps) (index : Nat) (s : State) : Host.Outcome State Fault Refusal := .next (tcpTimeout index (s.elapse dt))

end Sys2Proof.Machine
end

