-- ==== Sys2Proof/Machine/RowsTime.lean ====
section
/-! DEFINITION. The meanings of the rows whose operations stand in `Time.lean`: each row carries the time passed since the row before. -/

namespace Sys2Proof.Machine

/-- LEAP_SECOND (R119). -/
def execLeapSecond (dt : Ps) (s : State) : Host.Outcome State Fault Refusal := .next (leapSecond (s.elapse dt))

/-- LEAP_OCCURRED_EXPIRY (R119). -/
def execLeapOccurredExpiry (dt : Ps) (s : State) : Host.Outcome State Fault Refusal := .next (leapExpire (s.elapse dt))

/-- PTP_ANNOUNCE (R118). -/
def execPtpAnnounce (dt : Ps) (port : Nat) (msg : PtpAnnounce) (s : State) : Host.Outcome State Fault Refusal :=
  .next (ptpAnnounce port msg (s.elapse dt))

/-- PTP_SYNC (R132). -/
def execPtpSync (dt : Ps) (port : Nat) (msg : PtpSync) (s : State) : Host.Outcome State Fault Refusal :=
  .next (ptpSync port msg (s.elapse dt))

/-- PTP_FOLLOW_UP (R122). -/
def execPtpFollowUp (dt : Ps) (port : Nat) (msg : PtpFollowUp) (s : State) : Host.Outcome State Fault Refusal :=
  .next (ptpFollowUp port msg (s.elapse dt))

/-- PTP_PEER_DELAY (R128). -/
def execPtpPeerDelay (dt : Ps) (port : Nat) (msg : PtpPeerDelay) (s : State) : Host.Outcome State Fault Refusal :=
  .next (ptpPeerDelay port msg (s.elapse dt))

/-- PPS_IN_EDGE (R124). -/
def execPpsInEdge (dt : Ps) (s : State) : Host.Outcome State Fault Refusal := .next (ppsInEdge (s.elapse dt))

/-- IRIG_FRAME (R125). -/
def execIrigFrame (dt : Ps) (frame : Irig) (s : State) : Host.Outcome State Fault Refusal := .next (irigFrame frame (s.elapse dt))

/-- REF10_GATE (R122). -/
def execRef10Gate (dt : Ps) (result : Ref10) (s : State) : Host.Outcome State Fault Refusal := .next (ref10Gate result (s.elapse dt))

/-- SOURCE_LOST (R122). -/
def execSourceLost (dt : Ps) (source : Nat) (s : State) : Host.Outcome State Fault Refusal := .next (sourceLost source (s.elapse dt))

/-- RESERVE_INCREMENT_UPDATE (R146). -/
def execReserveIncrementUpdate (dt : Ps) (kclkEdges : Nat) (s : State) : Host.Outcome State Fault Refusal :=
  .next (reserveIncrement kclkEdges (s.elapse dt))

/-- EVENT_CAPTURE (R148). -/
def execEventCapture (dt : Ps) (input : Nat) (falling : Bool) (s : State) : Host.Outcome State Fault Refusal :=
  .next (eventCapture input falling (s.elapse dt))

/-- PPS_OUT_PULSE (R153). -/
def execPpsOutPulse (dt : Ps) (s : State) : Host.Outcome State Fault Refusal := .next (ppsOutPulse (s.elapse dt))

/-- PPS_OUT_END (R153). -/
def execPpsOutEnd (dt : Ps) (s : State) : Host.Outcome State Fault Refusal := .next (ppsOutFall (s.elapse dt))

end Sys2Proof.Machine
end

