-- ==== Sys2Proof/Machine/RowsTimeCmd.lean ====
section
/-! DEFINITION. The meanings of the rows whose operations stand in `TimeCmd.lean`: each row carries the time passed since the row before. -/

namespace Sys2Proof.Machine

/-- TIME_GET_STATUS (R159). -/
def execTimeGetStatus (dt : Ps) (q : Packet) (s : State) : Host.Outcome State Fault Refusal := command cmdTimeGetStatus dt q s

/-- TIME_SET_SOURCES (R123). -/
def execTimeSetSources (dt : Ps) (q : Packet) (s : State) : Host.Outcome State Fault Refusal := command cmdTimeSetSources dt q s

/-- TIME_SET_SERVO (R133). -/
def execTimeSetServo (dt : Ps) (q : Packet) (s : State) : Host.Outcome State Fault Refusal := command cmdTimeSetServo dt q s

/-- TIME_SET_PORT (R131). -/
def execTimeSetPort (dt : Ps) (q : Packet) (s : State) : Host.Outcome State Fault Refusal := command cmdTimeSetPort dt q s

/-- TIME_SET_PTP (R127). -/
def execTimeSetPtp (dt : Ps) (q : Packet) (s : State) : Host.Outcome State Fault Refusal := command cmdTimeSetPtp dt q s

/-- TIME_SET (R160). -/
def execTimeSet (dt : Ps) (q : Packet) (s : State) : Host.Outcome State Fault Refusal := command cmdTimeSet dt q s

/-- TIME_SET_UTC (R610). -/
def execTimeSetUtc (dt : Ps) (q : Packet) (s : State) : Host.Outcome State Fault Refusal := command cmdTimeSetUtc dt q s

/-- EVT_CONFIG (R148). -/
def execEvtConfig (dt : Ps) (q : Packet) (s : State) : Host.Outcome State Fault Refusal := command cmdEvtConfig dt q s

/-- EVT_READ (R150). -/
def execEvtRead (dt : Ps) (q : Packet) (s : State) : Host.Outcome State Fault Refusal := command cmdEvtRead dt q s

/-- PPS_OUT_CONFIG (R153). -/
def execPpsOutConfig (dt : Ps) (q : Packet) (s : State) : Host.Outcome State Fault Refusal := command cmdPpsOutConfig dt q s

/-- TIME_GET_COUNTERS (R161). -/
def execTimeGetCounters (dt : Ps) (q : Packet) (s : State) : Host.Outcome State Fault Refusal := command cmdTimeGetCounters dt q s

end Sys2Proof.Machine
end

