-- ==== Sys2Proof/Machine/RowsUpdate.lean ====
section
/-! DEFINITION. The meanings of the rows whose operations stand in `Update.lean`: each row carries the time passed since the row before. -/

namespace Sys2Proof.Machine

/-- UPDATE_COPY_DONE (R600). -/
def execUpdateCopyDone (dt : Ps) (s : State) : Host.Outcome State Fault Refusal :=
  let s := s.elapse dt
  .next (if faultsCount s then updateCopyDone s else s)

/-- TRIAL_WINDOW_END (R604). -/
def execTrialWindowEnd (dt : Ps) (s : State) : Host.Outcome State Fault Refusal :=
  let s := s.elapse dt
  .next (if faultsCount s then trialWindowEnd s else s)

/-- BASTIK_IMAGE (R606). -/
def execBastikImage (dt : Ps) (frame : List Byte) (s : State) : Host.Outcome State Fault Refusal := .next (bastikImage frame (s.elapse dt))

/-- UPD_BEGIN (R597). -/
def execUpdBegin (dt : Ps) (q : Packet) (s : State) : Host.Outcome State Fault Refusal := command cmdUpdBegin dt q s

/-- UPD_WRITE (R598). -/
def execUpdWrite (dt : Ps) (q : Packet) (s : State) : Host.Outcome State Fault Refusal := command cmdUpdWrite dt q s

/-- UPD_END (R599). -/
def execUpdEnd (dt : Ps) (q : Packet) (s : State) : Host.Outcome State Fault Refusal := command cmdUpdEnd dt q s

/-- UPD_GET_STATUS (R607). -/
def execUpdGetStatus (dt : Ps) (q : Packet) (s : State) : Host.Outcome State Fault Refusal := command cmdUpdGetStatus dt q s

/-- UPD_CONFIRM (R604). -/
def execUpdConfirm (dt : Ps) (q : Packet) (s : State) : Host.Outcome State Fault Refusal := command cmdUpdConfirm dt q s

/-- UPD_ABORT (R607). -/
def execUpdAbort (dt : Ps) (q : Packet) (s : State) : Host.Outcome State Fault Refusal := command cmdUpdAbort dt q s

end Sys2Proof.Machine
end

