-- ==== Sys2Proof/Machine/Dispatch.lean ====
section
/-! DEFINITION. The meaning of every command: one arm per constructor of `Instr`, each one call. -/

namespace Sys2Proof.Machine

/-- The effect of a command on everything but the queue. -/
def exec (i : Instr) (s : State) : Host.Outcome State Fault Refusal :=
  match i with
  | .getIdentity dt q => Sys2Proof.Machine.execGetIdentity dt q s
  | .sysSetMode dt q => Sys2Proof.Machine.execSysSetMode dt q s
  | .sysReset dt q => Sys2Proof.Machine.execSysReset dt q s
  | .sysCommit dt q => Sys2Proof.Machine.execSysCommit dt q s
  | .sysJournalRead dt q => Sys2Proof.Machine.execSysJournalRead dt q s
  | .sysJournalRoute dt q => Sys2Proof.Machine.execSysJournalRoute dt q s
  | .sysIfReset dt q => Sys2Proof.Machine.execSysIfReset dt q s
  | .sysSetMgmt dt q => Sys2Proof.Machine.execSysSetMgmt dt q s
  | .sysGetCounters dt q => Sys2Proof.Machine.execSysGetCounters dt q s
  | .sysEcho dt q => Sys2Proof.Machine.execSysEcho dt q s
  | .mgmtSettingsApply dt => Sys2Proof.Machine.execMgmtSettingsApply dt s
  | .timeGetStatus dt q => Sys2Proof.Machine.execTimeGetStatus dt q s
  | .timeSetSources dt q => Sys2Proof.Machine.execTimeSetSources dt q s
  | .timeSetServo dt q => Sys2Proof.Machine.execTimeSetServo dt q s
  | .timeSetPort dt q => Sys2Proof.Machine.execTimeSetPort dt q s
  | .timeSetPtp dt q => Sys2Proof.Machine.execTimeSetPtp dt q s
  | .timeSet dt q => Sys2Proof.Machine.execTimeSet dt q s
  | .timeSetUtc dt q => Sys2Proof.Machine.execTimeSetUtc dt q s
  | .evtConfig dt q => Sys2Proof.Machine.execEvtConfig dt q s
  | .evtRead dt q => Sys2Proof.Machine.execEvtRead dt q s
  | .ppsOutConfig dt q => Sys2Proof.Machine.execPpsOutConfig dt q s
  | .timeGetCounters dt q => Sys2Proof.Machine.execTimeGetCounters dt q s
  | .streamAdd dt q => Sys2Proof.Machine.execStreamAdd dt q s
  | .streamRemove dt q => Sys2Proof.Machine.execStreamRemove dt q s
  | .streamRebind dt q => Sys2Proof.Machine.execStreamRebind dt q s
  | .streamLoadConfig dt q => Sys2Proof.Machine.execStreamLoadConfig dt q s
  | .streamGet dt q => Sys2Proof.Machine.execStreamGet dt q s
  | .streamGetCounters dt q => Sys2Proof.Machine.execStreamGetCounters dt q s
  | .streamSendCommand dt q => Sys2Proof.Machine.execStreamSendCommand dt q s
  | .ingressSetPort dt q => Sys2Proof.Machine.execIngressSetPort dt q s
  | .ingressSetRings dt q => Sys2Proof.Machine.execIngressSetRings dt q s
  | .ingressGetCounters dt q => Sys2Proof.Machine.execIngressGetCounters dt q s
  | .ingressSetStreamPorts dt q => Sys2Proof.Machine.execIngressSetStreamPorts dt q s
  | .ingressJoinGroup dt q => Sys2Proof.Machine.execIngressJoinGroup dt q s
  | .zoneConfig dt q => Sys2Proof.Machine.execZoneConfig dt q s
  | .zoneDelete dt q => Sys2Proof.Machine.execZoneDelete dt q s
  | .zoneStart dt q => Sys2Proof.Machine.execZoneStart dt q s
  | .zoneStop dt q => Sys2Proof.Machine.execZoneStop dt q s
  | .zoneAddStream dt q => Sys2Proof.Machine.execZoneAddStream dt q s
  | .zoneRemoveStream dt q => Sys2Proof.Machine.execZoneRemoveStream dt q s
  | .zoneGet dt q => Sys2Proof.Machine.execZoneGet dt q s
  | .zoneGetCounters dt q => Sys2Proof.Machine.execZoneGetCounters dt q s
  | .constRead dt q => Sys2Proof.Machine.execConstRead dt q s
  | .alignGetStatus dt q => Sys2Proof.Machine.execAlignGetStatus dt q s
  | .feSetPreset dt q => Sys2Proof.Machine.execFeSetPreset dt q s
  | .feSetSampling dt q => Sys2Proof.Machine.execFeSetSampling dt q s
  | .feSetCal dt q => Sys2Proof.Machine.execFeSetCal dt q s
  | .feSetRange dt q => Sys2Proof.Machine.execFeSetRange dt q s
  | .feSetDetectors dt q => Sys2Proof.Machine.execFeSetDetectors dt q s
  | .feSetLocalStream dt q => Sys2Proof.Machine.execFeSetLocalStream dt q s
  | .feGetStatus dt q => Sys2Proof.Machine.execFeGetStatus dt q s
  | .feGetDetectors dt q => Sys2Proof.Machine.execFeGetDetectors dt q s
  | .feGetCounters dt q => Sys2Proof.Machine.execFeGetCounters dt q s
  | .feGetLocalConfig dt q => Sys2Proof.Machine.execFeGetLocalConfig dt q s
  | .energySetLine dt q => Sys2Proof.Machine.execEnergySetLine dt q s
  | .energySetInterval dt q => Sys2Proof.Machine.execEnergySetInterval dt q s
  | .energySetReserve dt q => Sys2Proof.Machine.execEnergySetReserve dt q s
  | .energyRead dt q => Sys2Proof.Machine.execEnergyRead dt q s
  | .energyReadReserve dt q => Sys2Proof.Machine.execEnergyReadReserve dt q s
  | .energyReadSnapshot dt q => Sys2Proof.Machine.execEnergyReadSnapshot dt q s
  | .energyGetStatus dt q => Sys2Proof.Machine.execEnergyGetStatus dt q s
  | .energyReadEvents dt q => Sys2Proof.Machine.execEnergyReadEvents dt q s
  | .energyClear dt q => Sys2Proof.Machine.execEnergyClear dt q s
  | .cohSetVertices dt q => Sys2Proof.Machine.execCohSetVertices dt q s
  | .cohSetEdges dt q => Sys2Proof.Machine.execCohSetEdges dt q s
  | .cohSetZone dt q => Sys2Proof.Machine.execCohSetZone dt q s
  | .cohGetResult dt q => Sys2Proof.Machine.execCohGetResult dt q s
  | .oscSetBands dt q => Sys2Proof.Machine.execOscSetBands dt q s
  | .oscSetSignals dt q => Sys2Proof.Machine.execOscSetSignals dt q s
  | .oscSetThresholds dt q => Sys2Proof.Machine.execOscSetThresholds dt q s
  | .oscGetSignal dt q => Sys2Proof.Machine.execOscGetSignal dt q s
  | .alarmSet dt q => Sys2Proof.Machine.execAlarmSet dt q s
  | .alarmSetDest dt q => Sys2Proof.Machine.execAlarmSetDest dt q s
  | .alarmGetStatus dt q => Sys2Proof.Machine.execAlarmGetStatus dt q s
  | .alarmAck dt q => Sys2Proof.Machine.execAlarmAck dt q s
  | .alarmTest dt q => Sys2Proof.Machine.execAlarmTest dt q s
  | .detectGetCounters dt q => Sys2Proof.Machine.execDetectGetCounters dt q s
  | .kernelGetCatalogue dt q => Sys2Proof.Machine.execKernelGetCatalogue dt q s
  | .kernelSetParams dt q => Sys2Proof.Machine.execKernelSetParams dt q s
  | .kernelSetFlow dt q => Sys2Proof.Machine.execKernelSetFlow dt q s
  | .kernelGetFlow dt q => Sys2Proof.Machine.execKernelGetFlow dt q s
  | .kernelReadResult dt q => Sys2Proof.Machine.execKernelReadResult dt q s
  | .kernelGetStatus dt q => Sys2Proof.Machine.execKernelGetStatus dt q s
  | .kernelGetCounters dt q => Sys2Proof.Machine.execKernelGetCounters dt q s
  | .egressSetSession dt q => Sys2Proof.Machine.execEgressSetSession dt q s
  | .egressSetPort dt q => Sys2Proof.Machine.execEgressSetPort dt q s
  | .egressGetSession dt q => Sys2Proof.Machine.execEgressGetSession dt q s
  | .egressGetConfig dt q => Sys2Proof.Machine.execEgressGetConfig dt q s
  | .egressGetCounters dt q => Sys2Proof.Machine.execEgressGetCounters dt q s
  | .egressSendCfg dt q => Sys2Proof.Machine.execEgressSendCfg dt q s
  | .pairSet dt q => Sys2Proof.Machine.execPairSet dt q s
  | .pairGetStatus dt q => Sys2Proof.Machine.execPairGetStatus dt q s
  | .pairSetRevert dt q => Sys2Proof.Machine.execPairSetRevert dt q s
  | .pairSwitchover dt q => Sys2Proof.Machine.execPairSwitchover dt q s
  | .fedSet dt q => Sys2Proof.Machine.execFedSet dt q s
  | .fedGetStatus dt q => Sys2Proof.Machine.execFedGetStatus dt q s
  | .pairGetCounters dt q => Sys2Proof.Machine.execPairGetCounters dt q s
  | .integGetStatus dt q => Sys2Proof.Machine.execIntegGetStatus dt q s
  | .integReadLog dt q => Sys2Proof.Machine.execIntegReadLog dt q s
  | .integSetPolicy dt q => Sys2Proof.Machine.execIntegSetPolicy dt q s
  | .integInject dt q => Sys2Proof.Machine.execIntegInject dt q s
  | .integLeaveSafe dt q => Sys2Proof.Machine.execIntegLeaveSafe dt q s
  | .diagGetMonitors dt q => Sys2Proof.Machine.execDiagGetMonitors dt q s
  | .integGetCounters dt q => Sys2Proof.Machine.execIntegGetCounters dt q s
  | .secGetLifecycle dt q => Sys2Proof.Machine.execSecGetLifecycle dt q s
  | .secSetLifecycle dt q => Sys2Proof.Machine.execSecSetLifecycle dt q s
  | .secSetOwnerRoot dt q => Sys2Proof.Machine.execSecSetOwnerRoot dt q s
  | .secSetMka dt q => Sys2Proof.Machine.execSecSetMka dt q s
  | .secGetMkaStatus dt q => Sys2Proof.Machine.execSecGetMkaStatus dt q s
  | .updBegin dt q => Sys2Proof.Machine.execUpdBegin dt q s
  | .updWrite dt q => Sys2Proof.Machine.execUpdWrite dt q s
  | .updEnd dt q => Sys2Proof.Machine.execUpdEnd dt q s
  | .updGetStatus dt q => Sys2Proof.Machine.execUpdGetStatus dt q s
  | .updConfirm dt q => Sys2Proof.Machine.execUpdConfirm dt q s
  | .updAbort dt q => Sys2Proof.Machine.execUpdAbort dt q s
  | .commandPacketArrival dt ifc bytes => Sys2Proof.Machine.execCommandPacketArrival dt ifc bytes s
  | .commandExecute dt => Sys2Proof.Machine.execCommandExecute dt s
  | .cmdDoorbell dt value => Sys2Proof.Machine.execCmdDoorbell dt value s
  | .cmdEnable dt value => Sys2Proof.Machine.execCmdEnable dt value s
  | .cmdDisable dt value => Sys2Proof.Machine.execCmdDisable dt value s
  | .cmdIfReset dt value => Sys2Proof.Machine.execCmdIfReset dt value s
  | .cmdDescriptorFetch dt desc packet => Sys2Proof.Machine.execCmdDescriptorFetch dt desc packet s
  | .cmdCompletionWrite dt => Sys2Proof.Machine.execCmdCompletionWrite dt s
  | .mgmtCommandDatagram dt verified fragments srcIp srcPort bytes => Sys2Proof.Machine.execMgmtCommandDatagram dt verified fragments srcIp srcPort bytes s
  | .bastikData dt frame => Sys2Proof.Machine.execBastikData dt frame s
  | .bastikPoll dt frame => Sys2Proof.Machine.execBastikPoll dt frame s
  | .bastikResync dt frame => Sys2Proof.Machine.execBastikResync dt frame s
  | .bastikImage dt frame => Sys2Proof.Machine.execBastikImage dt frame s
  | .bastikFramingLoss dt => Sys2Proof.Machine.execBastikFramingLoss dt s
  | .registerWrite dt addr len value => Sys2Proof.Machine.execRegisterWrite dt addr len value s
  | .readClearRegister dt addr len => Sys2Proof.Machine.execReadClearRegister dt addr len s
  | .tsNsRead dt => Sys2Proof.Machine.execTsNsRead dt s
  | .intSet dt idx value => Sys2Proof.Machine.execIntSet dt idx value s
  | .intCauseClear dt idx value again => Sys2Proof.Machine.execIntCauseClear dt idx value again s
  | .intMaskWrite dt idx value => Sys2Proof.Machine.execIntMaskWrite dt idx value s
  | .msixModerationExpiry dt vec => Sys2Proof.Machine.execMsixModerationExpiry dt vec s
  | .dmaStart dt ch value => Sys2Proof.Machine.execDmaStart dt ch value s
  | .dmaAbort dt ch => Sys2Proof.Machine.execDmaAbort dt ch s
  | .dmaClear dt ch => Sys2Proof.Machine.execDmaClear dt ch s
  | .dmaDescriptorFetch dt ch desc => Sys2Proof.Machine.execDmaDescriptorFetch dt ch desc s
  | .dmaReadComplete dt ch data => Sys2Proof.Machine.execDmaReadComplete dt ch data s
  | .dmaListComplete dt ch => Sys2Proof.Machine.execDmaListComplete dt ch s
  | .rqEnable dt q value => Sys2Proof.Machine.execRqEnable dt q value s
  | .rqDisable dt q value => Sys2Proof.Machine.execRqDisable dt q value s
  | .rqFlush dt q => Sys2Proof.Machine.execRqFlush dt q s
  | .rqWordWrite dt q word first last => Sys2Proof.Machine.execRqWordWrite dt q word first last s
  | .rqIdleTimeout dt q => Sys2Proof.Machine.execRqIdleTimeout dt q s
  | .rqLineDeliver dt q => Sys2Proof.Machine.execRqLineDeliver dt q s
  | .endpointReset dt => Sys2Proof.Machine.execEndpointReset dt s
  | .pcieLinkDown dt busMaster => Sys2Proof.Machine.execPcieLinkDown dt busMaster s
  | .mainRailsGood dt => Sys2Proof.Machine.execMainRailsGood dt s
  | .resetNAssert dt => Sys2Proof.Machine.execResetNAssert dt s
  | .resetNRelease dt => Sys2Proof.Machine.execResetNRelease dt s
  | .leaveReset dt pins gib0 gib1 => Sys2Proof.Machine.execLeaveReset dt pins gib0 gib1 s
  | .bootEnd dt selfTestOk => Sys2Proof.Machine.execBootEnd dt selfTestOk s
  | .warmReset dt => Sys2Proof.Machine.execWarmReset dt s
  | .wdogExpiry dt => Sys2Proof.Machine.execWdogExpiry dt s
  | .mainSupplyLoss dt vresOk => Sys2Proof.Machine.execMainSupplyLoss dt vresOk s
  | .reserveHandoffDone dt short => Sys2Proof.Machine.execReserveHandoffDone dt short s
  | .reserveUnavailable dt => Sys2Proof.Machine.execReserveUnavailable dt s
  | .dormantWake dt input => Sys2Proof.Machine.execDormantWake dt input s
  | .lockout dt cls unit detail => Sys2Proof.Machine.execLockout dt cls unit detail s
  | .clockFault dt domain => Sys2Proof.Machine.execClockFault dt domain s
  | .tempSample dt sensors => Sys2Proof.Machine.execTempSample dt sensors s
  | .thermalShutdown dt => Sys2Proof.Machine.execThermalShutdown dt s
  | .thermalShutdownEnd dt => Sys2Proof.Machine.execThermalShutdownEnd dt s
  | .engineLockstepMismatch dt ae => Sys2Proof.Machine.execEngineLockstepMismatch dt ae s
  | .engineSelftestDone dt ae pass => Sys2Proof.Machine.execEngineSelftestDone dt ae pass s
  | .almReadback dt pin high => Sys2Proof.Machine.execAlmReadback dt pin high s
  | .sramScrubRead dt cls item addr stored functionalWrite => Sys2Proof.Machine.execSramScrubRead dt cls item addr stored functionalWrite s
  | .reserveScrub dt item stored => Sys2Proof.Machine.execReserveScrub dt item stored s
  | .patrolRead dt ch addr data check => Sys2Proof.Machine.execPatrolRead dt ch addr data check s
  | .dramWriteback dt ch => Sys2Proof.Machine.execDramWriteback dt ch s
  | .autoLeaveSafe dt => Sys2Proof.Machine.execAutoLeaveSafe dt s
  | .close dt zone => Sys2Proof.Machine.execClose dt zone s
  | .stagingStart dt zone => Sys2Proof.Machine.execStagingStart dt zone s
  | .stagingDone dt zone => Sys2Proof.Machine.execStagingDone dt zone s
  | .assemblyDone dt => Sys2Proof.Machine.execAssemblyDone dt s
  | .coherencyDone dt => Sys2Proof.Machine.execCoherencyDone dt s
  | .bandMonitorDone dt => Sys2Proof.Machine.execBandMonitorDone dt s
  | .almPinUpdate dt => Sys2Proof.Machine.execAlmPinUpdate dt s
  | .alarmRepeat dt ald => Sys2Proof.Machine.execAlarmRepeat dt ald s
  | .alarmTestEnd dt ald => Sys2Proof.Machine.execAlarmTestEnd dt ald s
  | .budgetDeadline dt zone => Sys2Proof.Machine.execBudgetDeadline dt zone s
  | .alignerInsertion dt => Sys2Proof.Machine.execAlignerInsertion dt s
  | .revisionDue dt zone tick => Sys2Proof.Machine.execRevisionDue dt zone tick s
  | .restagingDone dt => Sys2Proof.Machine.execRestagingDone dt s
  | .revisionAssemblyStart dt => Sys2Proof.Machine.execRevisionAssemblyStart dt s
  | .revisionAssemblyDone dt => Sys2Proof.Machine.execRevisionAssemblyDone dt s
  | .revisionAbandon dt zone tick => Sys2Proof.Machine.execRevisionAbandon dt zone tick s
  | .storeAreaExpiry dt zone tick => Sys2Proof.Machine.execStoreAreaExpiry dt zone tick s
  | .wanFrameRx dt port frame => Sys2Proof.Machine.execWanFrameRx dt port frame s
  | .mgmtFrameRx dt frame => Sys2Proof.Machine.execMgmtFrameRx dt frame s
  | .parserInput dt lane => Sys2Proof.Machine.execParserInput dt lane s
  | .streamFrameBind dt lane => Sys2Proof.Machine.execStreamFrameBind dt lane s
  | .fragmentTimeout dt => Sys2Proof.Machine.execFragmentTimeout dt s
  | .rxDescriptorWriteback dt ring desc => Sys2Proof.Machine.execRxDescriptorWriteback dt ring desc s
  | .configCheckDone dt index => Sys2Proof.Machine.execConfigCheckDone dt index s
  | .streamSilent dt index => Sys2Proof.Machine.execStreamSilent dt index s
  | .quarantineEnd dt index => Sys2Proof.Machine.execQuarantineEnd dt index s
  | .cfgRequestRepeat dt index => Sys2Proof.Machine.execCfgRequestRepeat dt index s
  | .tcpReconnect dt index connected => Sys2Proof.Machine.execTcpReconnect dt index connected s
  | .tcpFrameDeliver dt index => Sys2Proof.Machine.execTcpFrameDeliver dt index s
  | .tcpFrameTimeout dt index => Sys2Proof.Machine.execTcpFrameTimeout dt index s
  | .supervisorFrame dt => Sys2Proof.Machine.execSupervisorFrame dt s
  | .mkpduRx dt port pdu => Sys2Proof.Machine.execMkpduRx dt port pdu s
  | .mkaHello dt port => Sys2Proof.Machine.execMkaHello dt port s
  | .mkaLifeTimeExpiry dt port peer => Sys2Proof.Machine.execMkaLifeTimeExpiry dt port peer s
  | .sakInstall dt port keyNumber an => Sys2Proof.Machine.execSakInstall dt port keyNumber an s
  | .ptpSync dt port msg => Sys2Proof.Machine.execPtpSync dt port msg s
  | .ptpFollowUp dt port msg => Sys2Proof.Machine.execPtpFollowUp dt port msg s
  | .ptpAnnounce dt port msg => Sys2Proof.Machine.execPtpAnnounce dt port msg s
  | .ptpPeerDelay dt port msg => Sys2Proof.Machine.execPtpPeerDelay dt port msg s
  | .ppsInEdge dt => Sys2Proof.Machine.execPpsInEdge dt s
  | .irigFrame dt frame => Sys2Proof.Machine.execIrigFrame dt frame s
  | .ref10Gate dt result => Sys2Proof.Machine.execRef10Gate dt result s
  | .sourceLost dt source => Sys2Proof.Machine.execSourceLost dt source s
  | .leapSecond dt => Sys2Proof.Machine.execLeapSecond dt s
  | .leapOccurredExpiry dt => Sys2Proof.Machine.execLeapOccurredExpiry dt s
  | .reserveIncrementUpdate dt kclkEdges => Sys2Proof.Machine.execReserveIncrementUpdate dt kclkEdges s
  | .eventCapture dt input falling => Sys2Proof.Machine.execEventCapture dt input falling s
  | .ppsOutPulse dt => Sys2Proof.Machine.execPpsOutPulse dt s
  | .ppsOutEnd dt => Sys2Proof.Machine.execPpsOutEnd dt s
  | .launchDecision dt port express => Sys2Proof.Machine.execLaunchDecision dt port express s
  | .chainRestart dt => Sys2Proof.Machine.execChainRestart dt s
  | .chainValid dt input => Sys2Proof.Machine.execChainValid dt input s
  | .modulatorLoss dt input => Sys2Proof.Machine.execModulatorLoss dt input s
  | .modulatorResuming dt input => Sys2Proof.Machine.execModulatorResuming dt input s
  | .resumeWindowEnd dt input changed => Sys2Proof.Machine.execResumeWindowEnd dt input changed s
  | .feOutputSample dt channel bitsHi bitsLo => Sys2Proof.Machine.execFeOutputSample dt channel bitsHi bitsLo s
  | .zcLoss dt channel => Sys2Proof.Machine.execZcLoss dt channel s
  | .localPhasorRecord dt stream => Sys2Proof.Machine.execLocalPhasorRecord dt stream s
  | .tapSample dt => Sys2Proof.Machine.execTapSample dt s
  | .unmeteredFlowQualified dt line phase => Sys2Proof.Machine.execUnmeteredFlowQualified dt line phase s
  | .energySnapshot dt => Sys2Proof.Machine.execEnergySnapshot dt s
  | .energyMirrorSend dt => Sys2Proof.Machine.execEnergyMirrorSend dt s
  | .energyMirrorApply dt => Sys2Proof.Machine.execEnergyMirrorApply dt s
  | .itemDispatch dt => Sys2Proof.Machine.execItemDispatch dt s
  | .itemArrival dt ae => Sys2Proof.Machine.execItemArrival dt ae s
  | .engineRelease dt ae accs => Sys2Proof.Machine.execEngineRelease dt ae accs s
  | .releaseFenceDone dt entry => Sys2Proof.Machine.execReleaseFenceDone dt entry s
  | .itemPosted dt flow => Sys2Proof.Machine.execItemPosted dt flow s
  | .combinedFrameForm dt zone tick rev => Sys2Proof.Machine.execCombinedFrameForm dt zone tick rev s
  | .formatterDone dt => Sys2Proof.Machine.execFormatterDone dt s
  | .cfgPeriodExpiry dt session => Sys2Proof.Machine.execCfgPeriodExpiry dt session s
  | .macTxStart dt port express => Sys2Proof.Machine.execMacTxStart dt port express s
  | .macTxDone dt port express => Sys2Proof.Machine.execMacTxDone dt port express s
  | .tcpSend dt session length => Sys2Proof.Machine.execTcpSend dt session length s
  | .tcpConnect dt session srcIp srcPort mss => Sys2Proof.Machine.execTcpConnect dt session srcIp srcPort mss s
  | .sessionCommandFrame dt session cmd => Sys2Proof.Machine.execSessionCommandFrame dt session cmd s
  | .tcpWindowTimeout dt session => Sys2Proof.Machine.execTcpWindowTimeout dt session s
  | .tcpRetransmit dt session => Sys2Proof.Machine.execTcpRetransmit dt session s
  | .pauseRx dt port pfc quanta => Sys2Proof.Machine.execPauseRx dt port pfc quanta s
  | .pauseEnd dt port => Sys2Proof.Machine.execPauseEnd dt port s
  | .wanLinkChange dt port up => Sys2Proof.Machine.execWanLinkChange dt port up s
  | .verifyTimeout dt port => Sys2Proof.Machine.execVerifyTimeout dt port s
  | .mgmtLinkChange dt up => Sys2Proof.Machine.execMgmtLinkChange dt up s
  | .peerLinkTraining dt link => Sys2Proof.Machine.execPeerLinkTraining dt link s
  | .peerLinkDown dt link => Sys2Proof.Machine.execPeerLinkDown dt link s
  | .hello dt link msg => Sys2Proof.Machine.execHello dt link msg s
  | .helloRepeat dt link => Sys2Proof.Machine.execHelloRepeat dt link s
  | .heartbeat dt link crcOk msg => Sys2Proof.Machine.execHeartbeat dt link crcOk msg s
  | .heartbeatSend dt link => Sys2Proof.Machine.execHeartbeatSend dt link s
  | .record dt link crcOk zone record => Sys2Proof.Machine.execRecord dt link crcOk zone record s
  | .gen dt link index gen => Sys2Proof.Machine.execGen dt link index gen s
  | .genRepeat dt index => Sys2Proof.Machine.execGenRepeat dt index s
  | .takeover dt link position => Sys2Proof.Machine.execTakeover dt link position s
  | .ack dt link lseq => Sys2Proof.Machine.execAck dt link lseq s
  | .ackSend dt link => Sys2Proof.Machine.execAckSend dt link s
  | .peerResend dt link => Sys2Proof.Machine.execPeerResend dt link s
  | .mirror dt lseq item => Sys2Proof.Machine.execMirror dt lseq item s
  | .control dt link lseq index zone add effective => Sys2Proof.Machine.execControl dt link lseq index zone add effective s
  | .handoverRequest dt lseq => Sys2Proof.Machine.execHandoverRequest dt lseq s
  | .handoverGrant dt lseq edge => Sys2Proof.Machine.execHandoverGrant dt lseq edge s
  | .handoverRefuse dt lseq reason => Sys2Proof.Machine.execHandoverRefuse dt lseq reason s
  | .listenWindowEnd dt => Sys2Proof.Machine.execListenWindowEnd dt s
  | .partnerLoss dt => Sys2Proof.Machine.execPartnerLoss dt s
  | .takeoverComplete dt => Sys2Proof.Machine.execTakeoverComplete dt s
  | .holdTimerExpiry dt => Sys2Proof.Machine.execHoldTimerExpiry dt s
  | .handoverEdge dt => Sys2Proof.Machine.execHandoverEdge dt s
  | .handoverBreak dt => Sys2Proof.Machine.execHandoverBreak dt s
  | .updateCopyDone dt => Sys2Proof.Machine.execUpdateCopyDone dt s
  | .trialWindowEnd dt => Sys2Proof.Machine.execTrialWindowEnd dt s
  | .pcieLinkUp dt set => Sys2Proof.Machine.execPcieLinkUp dt set s
  | .commandComplete dt flashOk => Sys2Proof.Machine.execCommandComplete dt flashOk s
  | .stagedAreaRelease dt zone => Sys2Proof.Machine.execStagedAreaRelease dt zone s
  | .heartbeatMissed dt link => Sys2Proof.Machine.execHeartbeatMissed dt link s
  | .watchdogService dt => Sys2Proof.Machine.execWatchdogService dt s
  | .vresLoss dt => Sys2Proof.Machine.execVresLoss dt s
  | .tcpSegmentRx dt conn seg => Sys2Proof.Machine.execTcpSegmentRx dt conn seg s
  | .msixVectorUnmask dt vec => Sys2Proof.Machine.execMsixVectorUnmask dt vec s
  | .verifyResponse dt port => Sys2Proof.Machine.execVerifyResponse dt port s

end Sys2Proof.Machine
end

