-- ==== Sys2Proof/WellFormed.lean ====
section
/-! DEFINITION. Well-formed commands: every operand lies in the range of its field.  The meanings of Machine/ are total:
an operand out of range does what its rule says, or changes nothing but the clock (log entry 2). -/

namespace Sys2Proof

/-- A packet that the command layout admits: interface 0 to 2, 16-bit TAG and EPOCH, at most 20,464 parameter bytes (R464, R466). -/
def Packet.wf (q : Packet) : Bool :=
  decide (q.ifc < 3) && decide (q.tag < 65536) && decide (q.epoch < 65536) && decide (q.params.length ≤ 20464)

/-- A mirror item names a context, a zone or an alarm definition that exists (R504). -/
def MirrorItem.wf (m : MirrorItem) : Bool :=
  match m with
  | .context i _ => decide (i < 16384)
  | .energy _ => true
  | .revision z _ r => decide (z < 64) && decide (r < 16)
  | .anchor z t _ => decide (z < 64) && decide (t < stampMod)
  | .alarm a st _ _ => decide (a < 256) && decide (st < 7)
  | .journal e => e.length == 32
  | .fullDone => true

/-- A connection of a context or of a session that exists (R194, R398). -/
def TcpConn.wf (c : TcpConn) : Bool :=
  match c with
  | .stream i => decide (i < 16384)
  | .session n => decide (n < 256)

/-- A decoded IRIG-B frame has a day of year, an hour, a minute and a second, 60 for the inserted one (R120, R125). -/
def Irig.wf (f : Irig) : Bool :=
  match f with
  | .bad => true
  | .good _ day hour minute second _ =>
    decide (1 ≤ day) && decide (day ≤ 366) && decide (hour < 24) && decide (minute < 60) && decide (second ≤ 60)

/-- The edges of a REF10_IN interval, oldest first and none older than the interval (R122). -/
def Ref10.wf (r : Ref10) : Bool :=
  match r with
  | .phase ages => falling ages
  | .frequencyOut => true
  | .noEdge => true
where
  /-- ages of at most 1 ms that fall from edge to edge -/
  falling : List Ps → Bool
    | [] => true
    | [a] => decide (a ≤ 1000000000)
    | a :: b :: t => decide (a ≤ 1000000000) && decide (b < a) && falling (b :: t)

/-- The fields of a HELLO (R491). -/
def HelloMsg.wf (m : HelloMsg) : Bool := decide (m.position < 4) && decide (m.serial < 2 ^ 64)

/-- Every operand lies in the range of its field. -/
def Instr.wf (i : Instr) : Bool :=
  match i with
  | .getIdentity _ q => q.wf
  | .sysSetMode _ q => q.wf
  | .sysReset _ q => q.wf
  | .sysCommit _ q => q.wf
  | .sysJournalRead _ q => q.wf
  | .sysJournalRoute _ q => q.wf
  | .sysIfReset _ q => q.wf
  | .sysSetMgmt _ q => q.wf
  | .sysGetCounters _ q => q.wf
  | .sysEcho _ q => q.wf
  | .mgmtSettingsApply _ => true
  | .timeGetStatus _ q => q.wf
  | .timeSetSources _ q => q.wf
  | .timeSetServo _ q => q.wf
  | .timeSetPort _ q => q.wf
  | .timeSetPtp _ q => q.wf
  | .timeSet _ q => q.wf
  | .timeSetUtc _ q => q.wf
  | .evtConfig _ q => q.wf
  | .evtRead _ q => q.wf
  | .ppsOutConfig _ q => q.wf
  | .timeGetCounters _ q => q.wf
  | .streamAdd _ q => q.wf
  | .streamRemove _ q => q.wf
  | .streamRebind _ q => q.wf
  | .streamLoadConfig _ q => q.wf
  | .streamGet _ q => q.wf
  | .streamGetCounters _ q => q.wf
  | .streamSendCommand _ q => q.wf
  | .ingressSetPort _ q => q.wf
  | .ingressSetRings _ q => q.wf
  | .ingressGetCounters _ q => q.wf
  | .ingressSetStreamPorts _ q => q.wf
  | .ingressJoinGroup _ q => q.wf
  | .zoneConfig _ q => q.wf
  | .zoneDelete _ q => q.wf
  | .zoneStart _ q => q.wf
  | .zoneStop _ q => q.wf
  | .zoneAddStream _ q => q.wf
  | .zoneRemoveStream _ q => q.wf
  | .zoneGet _ q => q.wf
  | .zoneGetCounters _ q => q.wf
  | .constRead _ q => q.wf
  | .alignGetStatus _ q => q.wf
  | .feSetPreset _ q => q.wf
  | .feSetSampling _ q => q.wf
  | .feSetCal _ q => q.wf
  | .feSetRange _ q => q.wf
  | .feSetDetectors _ q => q.wf
  | .feSetLocalStream _ q => q.wf
  | .feGetStatus _ q => q.wf
  | .feGetDetectors _ q => q.wf
  | .feGetCounters _ q => q.wf
  | .feGetLocalConfig _ q => q.wf
  | .energySetLine _ q => q.wf
  | .energySetInterval _ q => q.wf
  | .energySetReserve _ q => q.wf
  | .energyRead _ q => q.wf
  | .energyReadReserve _ q => q.wf
  | .energyReadSnapshot _ q => q.wf
  | .energyGetStatus _ q => q.wf
  | .energyReadEvents _ q => q.wf
  | .energyClear _ q => q.wf
  | .cohSetVertices _ q => q.wf
  | .cohSetEdges _ q => q.wf
  | .cohSetZone _ q => q.wf
  | .cohGetResult _ q => q.wf
  | .oscSetBands _ q => q.wf
  | .oscSetSignals _ q => q.wf
  | .oscSetThresholds _ q => q.wf
  | .oscGetSignal _ q => q.wf
  | .alarmSet _ q => q.wf
  | .alarmSetDest _ q => q.wf
  | .alarmGetStatus _ q => q.wf
  | .alarmAck _ q => q.wf
  | .alarmTest _ q => q.wf
  | .detectGetCounters _ q => q.wf
  | .kernelGetCatalogue _ q => q.wf
  | .kernelSetParams _ q => q.wf
  | .kernelSetFlow _ q => q.wf
  | .kernelGetFlow _ q => q.wf
  | .kernelReadResult _ q => q.wf
  | .kernelGetStatus _ q => q.wf
  | .kernelGetCounters _ q => q.wf
  | .egressSetSession _ q => q.wf
  | .egressSetPort _ q => q.wf
  | .egressGetSession _ q => q.wf
  | .egressGetConfig _ q => q.wf
  | .egressGetCounters _ q => q.wf
  | .egressSendCfg _ q => q.wf
  | .pairSet _ q => q.wf
  | .pairGetStatus _ q => q.wf
  | .pairSetRevert _ q => q.wf
  | .pairSwitchover _ q => q.wf
  | .fedSet _ q => q.wf
  | .fedGetStatus _ q => q.wf
  | .pairGetCounters _ q => q.wf
  | .integGetStatus _ q => q.wf
  | .integReadLog _ q => q.wf
  | .integSetPolicy _ q => q.wf
  | .integInject _ q => q.wf
  | .integLeaveSafe _ q => q.wf
  | .diagGetMonitors _ q => q.wf
  | .integGetCounters _ q => q.wf
  | .secGetLifecycle _ q => q.wf
  | .secSetLifecycle _ q => q.wf
  | .secSetOwnerRoot _ q => q.wf
  | .secSetMka _ q => q.wf
  | .secGetMkaStatus _ q => q.wf
  | .updBegin _ q => q.wf
  | .updWrite _ q => q.wf
  | .updEnd _ q => q.wf
  | .updGetStatus _ q => q.wf
  | .updConfirm _ q => q.wf
  | .updAbort _ q => q.wf
  | .commandPacketArrival _ ifc bytes => decide (ifc < 3) && decide (bytes.length ≤ 20480)
  | .commandExecute _ => true
  | .cmdDoorbell _ _ => true
  | .cmdEnable _ _ => true
  | .cmdDisable _ _ => true
  | .cmdIfReset _ _ => true
  | .cmdDescriptorFetch _ _ _ => true
  | .cmdCompletionWrite _ => true
  | .mgmtCommandDatagram _ _ fragments _ _ _ => decide (1 ≤ fragments.length)
  | .bastikData _ _ => true
  | .bastikPoll _ _ => true
  | .bastikResync _ _ => true
  | .bastikImage _ _ => true
  | .bastikFramingLoss _ => true
  | .registerWrite _ addr len _ => decide (addr < 4194304) && decide (1 ≤ len) && decide (len ≤ 4096)
  | .readClearRegister _ addr len => decide (addr < 4194304) && decide (1 ≤ len) && decide (len ≤ 4096)
  | .tsNsRead _ => true
  | .intSet _ idx _ => decide (idx < 2)
  | .intCauseClear _ idx _ _ => decide (idx < 2)
  | .intMaskWrite _ idx _ => decide (idx < 2)
  | .msixModerationExpiry _ vec => decide (vec < 32)
  | .dmaStart _ ch _ => decide (ch < 14)
  | .dmaAbort _ ch => decide (ch < 14)
  | .dmaClear _ ch => decide (ch < 14)
  | .dmaDescriptorFetch _ ch _ => decide (ch < 14)
  | .dmaReadComplete _ ch _ => decide (ch < 14)
  | .dmaListComplete _ ch => decide (ch < 14)
  | .rqEnable _ q _ => decide (q < 32)
  | .rqDisable _ q _ => decide (q < 32)
  | .rqFlush _ q => decide (q < 32)
  | .rqWordWrite _ q _ _ _ => decide (q < 32)
  | .rqIdleTimeout _ q => decide (q < 32)
  | .rqLineDeliver _ q => decide (q < 32)
  | .endpointReset _ => true
  | .pcieLinkDown _ _ => true
  | .mainRailsGood _ => true
  | .resetNAssert _ => true
  | .resetNRelease _ => true
  | .leaveReset _ _ gib0 gib1 => (gib0 == 2 || gib0 == 4 || gib0 == 8) && (gib1 == 2 || gib1 == 4 || gib1 == 8)
  | .bootEnd _ _ => true
  | .warmReset _ => true
  | .wdogExpiry _ => true
  | .mainSupplyLoss _ _ => true
  | .reserveHandoffDone _ _ => true
  | .reserveUnavailable _ => true
  | .dormantWake _ input => (match input with | some i => decide (i < 16) | none => true)
  | .lockout _ cls _ _ => decide (cls < 15)
  | .clockFault _ _ => true
  | .tempSample _ sensors => (sensors.length == 8)
  | .thermalShutdown _ => true
  | .thermalShutdownEnd _ => true
  | .engineLockstepMismatch _ ae => decide (ae < 12)
  | .engineSelftestDone _ ae _ => decide (ae < 12)
  | .almReadback _ pin _ => decide (pin < 16)
  | .sramScrubRead _ cls _ _ _ _ => decide (cls < 15)
  | .reserveScrub _ _ _ => true
  | .patrolRead _ ch _ _ _ => decide (ch < 2)
  | .dramWriteback _ ch => decide (ch < 2)
  | .autoLeaveSafe _ => true
  | .close _ zone => decide (zone < 64)
  | .stagingStart _ zone => decide (zone < 64)
  | .stagingDone _ zone => decide (zone < 64)
  | .assemblyDone _ => true
  | .coherencyDone _ => true
  | .bandMonitorDone _ => true
  | .almPinUpdate _ => true
  | .alarmRepeat _ ald => decide (ald < 256)
  | .alarmTestEnd _ ald => decide (ald < 256)
  | .budgetDeadline _ zone => decide (zone < 64)
  | .alignerInsertion _ => true
  | .revisionDue _ zone _ => decide (zone < 64)
  | .restagingDone _ => true
  | .revisionAssemblyStart _ => true
  | .revisionAssemblyDone _ => true
  | .revisionAbandon _ zone _ => decide (zone < 64)
  | .storeAreaExpiry _ zone _ => decide (zone < 64)
  | .wanFrameRx _ port _ => decide (port < 4)
  | .mgmtFrameRx _ _ => true
  | .parserInput _ lane => decide (lane < 5)
  | .streamFrameBind _ lane => decide (lane < 5)
  | .fragmentTimeout _ => true
  | .rxDescriptorWriteback _ ring _ => decide (ring < 8)
  | .configCheckDone _ index => decide (index < 16384)
  | .streamSilent _ index => decide (index < 16384)
  | .quarantineEnd _ index => decide (index < 16384)
  | .cfgRequestRepeat _ index => decide (index < 16384)
  | .tcpReconnect _ index _ => decide (index < 16384)
  | .tcpFrameDeliver _ index => decide (index < 16384)
  | .tcpFrameTimeout _ index => decide (index < 16384)
  | .supervisorFrame _ => true
  | .mkpduRx _ port _ => decide (port < 5)
  | .mkaHello _ port => decide (port < 5)
  | .mkaLifeTimeExpiry _ port _ => decide (port < 5)
  | .sakInstall _ port _ an => decide (port < 5) && decide (an < 4)
  | .ptpSync _ port _ => decide (port < 4)
  | .ptpFollowUp _ port _ => decide (port < 4)
  | .ptpAnnounce _ port _ => decide (port < 4)
  | .ptpPeerDelay _ port _ => decide (port < 4)
  | .ppsInEdge _ => true
  | .irigFrame _ frame => frame.wf
  | .ref10Gate _ result => result.wf
  | .sourceLost _ source => decide (source < 5)
  | .leapSecond _ => true
  | .leapOccurredExpiry _ => true
  | .reserveIncrementUpdate _ _ => true
  | .eventCapture _ input _ => decide (input < 16)
  | .ppsOutPulse _ => true
  | .ppsOutEnd _ => true
  | .launchDecision _ port _ => decide (port < 4)
  | .chainRestart _ => true
  | .chainValid _ input => decide (input < 24)
  | .modulatorLoss _ input => decide (input < 24)
  | .modulatorResuming _ input => decide (input < 24)
  | .resumeWindowEnd _ input _ => decide (input < 24)
  | .feOutputSample _ channel _ _ => decide (channel < 16)
  | .zcLoss _ channel => decide (channel < 16)
  | .localPhasorRecord _ stream => decide (stream < 4)
  | .tapSample _ => true
  | .unmeteredFlowQualified _ line phase => decide (line < 2) && decide (phase < 3)
  | .energySnapshot _ => true
  | .energyMirrorSend _ => true
  | .energyMirrorApply _ => true
  | .itemDispatch _ => true
  | .itemArrival _ ae => decide (ae < 12)
  | .engineRelease _ ae accs => decide (ae < 12) && accs.all fun
      | .load _ evict => decide (evict < 512)
      | .store _ => true
      | .keep addr _ => decide (addr < 262144)
  | .releaseFenceDone _ _ => true
  | .itemPosted _ flow => decide (flow < 256)
  | .combinedFrameForm _ zone _ rev => decide (zone < 64) && decide (rev < 16)
  | .formatterDone _ => true
  | .cfgPeriodExpiry _ session => decide (session < 256)
  | .macTxStart _ port _ => decide (port < 4)
  | .macTxDone _ port _ => decide (port < 4)
  | .tcpSend _ session _ => decide (session < 256)
  | .tcpConnect _ session _ _ _ => decide (session < 256)
  | .sessionCommandFrame _ session _ => decide (session < 256)
  | .tcpWindowTimeout _ session => decide (session < 256)
  | .tcpRetransmit _ session => decide (session < 256)
  | .pauseRx _ port pfc _ => decide (port < 4) && (match pfc with | some n => decide (n < 256) | none => true)
  | .pauseEnd _ port => decide (port < 4)
  | .wanLinkChange _ port _ => decide (port < 4)
  | .verifyTimeout _ port => decide (port < 4)
  | .mgmtLinkChange _ _ => true
  | .peerLinkTraining _ link => decide (link < 4)
  | .peerLinkDown _ link => decide (link < 4)
  | .hello _ link msg => decide (link < 4) && msg.wf
  | .helloRepeat _ link => decide (link < 4)
  | .heartbeat _ link _ _ => decide (link < 4)
  | .heartbeatSend _ link => decide (link < 4)
  | .record _ link _ zone _ => decide (link < 4) && decide (zone < 64)
  | .gen _ link index g => decide (link.link < 4) && decide (index < 16384) && decide (g < 256)
  | .genRepeat _ index => decide (index < 16384)
  | .takeover _ link position => decide (link.link < 4) && decide (position < 4)
  | .ack _ link _ => decide (link.link < 4)
  | .ackSend _ link => decide (link < 4)
  | .peerResend _ link => decide (link < 4)
  | .mirror _ _ item => item.wf
  | .control _ link _ index zone _ effective => decide (link < 4) && decide (index < 16384) && decide (zone < 64) && decide (effective < stampMod)
  | .handoverRequest _ _ => true
  | .handoverGrant _ _ edge => decide (edge < stampMod)
  | .handoverRefuse _ _ reason => decide (reason < 256)
  | .listenWindowEnd _ => true
  | .partnerLoss _ => true
  | .takeoverComplete _ => true
  | .holdTimerExpiry _ => true
  | .handoverEdge _ => true
  | .handoverBreak _ => true
  | .updateCopyDone _ => true
  | .trialWindowEnd _ => true
  | .pcieLinkUp _ set => [128, 256, 512].contains set.payload && [128, 256, 512, 1024, 2048, 4096].contains set.readSize
  | .commandComplete _ _ => true
  | .stagedAreaRelease _ zone => decide (zone < 64)
  | .heartbeatMissed _ link => decide (link < 4)
  | .watchdogService _ => true
  | .vresLoss _ => true
  | .tcpSegmentRx _ conn _ => conn.wf
  | .msixVectorUnmask _ vec => decide (vec < 32)
  | .verifyResponse _ port => decide (port < 4)

end Sys2Proof
end

