-- ==== Sys2Proof/Safety.lean ====
section
/-! DEFINITION. What counts as a safe run, in the terms that the statements use: the canonical form of the host window,
the runs of the block, and what a run never does. -/

namespace Sys2Proof.Machine

/-- The host window of a state is in its canonical form (R422; INVENTORY.md, Memory and ordering). -/
def State.windowOk (s : State) : Bool := memWf s.dma.window

/-- `t` follows from `s` by steps that answer a next state. -/
inductive Reaches : State → State → Prop where
  | refl (s : State) : Reaches s s
  | step {s t u : State} : Reaches s t → Machine.step t = .next u → Reaches s u

/-- Whether a step answers a next state. -/
def State.goesOn (s : State) : Prop := ∃ t, step s = .next t

/-- A safe state: its window is canonical, its queue holds well-formed commands only, and the block goes on. -/
def State.safe (s : State) : Prop := s.windowOk = true ∧ (∀ c ∈ s.pending, c.wf = true) ∧ s.goesOn

/-! ### Terms of the statements about host commands (R464 to R472, R480, R484) -/

/-- The octets of a reply with status OK (R465). -/
def okBytes (q : Packet) (opcode : Nat) (data : List Byte) : List Byte :=
  be 2 opcode ++ be 2 q.tag ++ be 2 q.epoch ++ be 2 0x8000 ++ be 4 data.length ++ be 1 0x00 ++ be 1 0 ++ be 2 0xFFFF ++ data

/-- The octets of a reply with another status; `offset` is 0xFFFF for every status but BAD_PARAM (R465). -/
def refusedBytes (q : Packet) (opcode status offset : Nat) : List Byte :=
  be 2 opcode ++ be 2 q.tag ++ be 2 q.epoch ++ be 2 0x8000 ++ be 4 0 ++ be 1 status ++ be 1 0 ++ be 2 offset

/-- The packet of a row as it waits for execution. -/
def packetOf (opcode : Nat) (q : Packet) : QCmd :=
  { ifc := q.ifc, origin := .direct, opcode, tag := q.tag, epoch := q.epoch, length := q.params.length, params := q.params }

/-- A packet passes steps 4 to 9 of R470 and executes at once: its interface runs, epoch and tag and the limit of outstanding
commands admit it, no other command executes or waits, the lifecycle state admits it, and its journal entry replaces no entry
that is not COMMITTED (R471, R472, R485, R568). -/
def ready (u : State) (q : Packet) (opcode : Nat) : Bool :=
  u.ifaceRuns q.ifc && (arrivalStatus (packetOf opcode q) u).isNone && u.host.executing.isNone && u.host.waiting.isEmpty
    && !lifecycleDenies u.sys.lifecycle opcode q.params && !journalMustCommit u

/-- A packet has arrived: RX_PACKETS counts it and its tag is outstanding (R469, R488). -/
def arrived (q : Packet) (u : State) : State := (countPacket q.ifc u).modIface q.ifc fun f => { f with tags := q.tag :: f.tags }

/-- What the execution of a packet leaves alone beside the effect of its command. Its own traces are: the output, the
interface's counts and tags, the journal and its cause and message, the journal's route and the mirror of its entry, the
settings record with SETTINGS_DIRTY, the hold timer of the pair, and the injected errors of the words the route writes
(R459, R484, R487, R504, R515, R525, R581, R582). -/
def protocolFrame (v t : State) : Prop :=
  t.pending = v.pending ∧ t.now = v.now ∧ t.later = v.later ∧ t.drawn = v.drawn ∧ t.time = v.time ∧ t.ingress = v.ingress ∧ t.align = v.align ∧ t.front = v.front
  ∧ t.energy = v.energy ∧ t.detect = v.detect ∧ t.kernel = v.kernel ∧ t.egress = v.egress ∧ { t.integ with injected := v.integ.injected } = v.integ ∧ t.sec = v.sec ∧ t.upd = v.upd
  ∧ t.sys = v.sys
  ∧ { t.dma with queues := v.dma.queues } = v.dma ∧ (∀ n, (t.rq n).bound = (v.rq n).bound)
  ∧ { t.pair with links := v.pair.links, holdFrom := v.pair.holdFrom } = v.pair
  ∧ { t.host with
      ring := { t.host.ring with tags := v.host.ring.tags, cSent := v.host.ring.cSent }
      mgmt := { t.host.mgmt with tags := v.host.mgmt.tags, cSent := v.host.mgmt.cSent }
      svc := { t.host.svc with tags := v.host.svc.tags, cSent := v.host.svc.cSent }
      executing := v.host.executing, cause := v.host.cause, msix := v.host.msix
      journal := v.host.journal, nextJseq := v.host.nextJseq, settings := v.host.settings, dirty := v.host.dirty
      cOverwrites := v.host.cOverwrites, cRouteDrops := v.host.cRouteDrops } = v.host

/-- The command executes with OK: the reply leaves with `data`, the journal takes an entry where `j` says so (R484), no
command executes any longer, and beside its own traces the state is `v`. -/
def executed (o : Host.Outcome State Fault Refusal) (q : Packet) (opcode : Nat) (data : List Byte) (j : Bool) (v : State) : Prop :=
  ∃ t, o = .next t ∧ t.outputs.head? = some (.reply q.ifc (okBytes q opcode data)) ∧ t.host.executing = none
    ∧ t.host.nextJseq = v.host.nextJseq + (if j then 1 else 0) ∧ protocolFrame v t

/-- The command is refused with `status`: the reply says so, and beside the command's own traces the state is `u`. -/
def refusedWith (o : Host.Outcome State Fault Refusal) (q : Packet) (opcode status offset : Nat) (u : State) : Prop :=
  ∃ t, o = .next t ∧ t.outputs.head? = some (.reply q.ifc (refusedBytes q opcode status offset)) ∧ t.host.executing = none
    ∧ protocolFrame u t

/-- The command goes on executing as `op`, on state `v`, and gives no reply yet (R471). -/
def executing (o : Host.Outcome State Fault Refusal) (op : LongOp) (v : State) : Prop :=
  ∃ t e, o = .next t ∧ t.host.executing = some e ∧ e.op = op ∧ e.mute = false ∧ t = { v with host := { v.host with executing := some e } }

/-! ### Terms of the statements about DMA (R416, R419) -/

/-- The oldest transaction of a channel in flight waits for its read, and so do those behind it. -/
def oldestRead (w : State) (c : Nat) (r : DmaRun) (d : Desc) (k : Chunk) : Prop :=
  w.dmaRuns = true ∧ c < 14 ∧ (w.ch c).run = some r ∧ r.desc = some d ∧ (chunksOf c w).head? = some k ∧ ∀ x, x ∈ chunksOf c w → x.data = none

end Sys2Proof.Machine
end

