-- ==== Sys2Proof/Certificates/Slice0/Obligations.lean ====
section
/-! DEFINITION. The statements for the provers, one definition each; OBLIGATIONS.json lists them. A statement `(u : State), u = s.elapse dt` names the state
at the command's instant: the physical clock and what it drives have gone on by dt (log entry 1). -/

open Sys2Proof Sys2Proof.Machine

/-- A step runs the command at the front of the queue on the state with the rest of the queue; an empty queue idles (the model's choice, log
entry 1). -/
def Obligations.StepRunsTheCommand : Prop :=
  (∀ (c : Instr) (rest : List Instr) (s : State), s.pending = c :: rest → step s = exec c { s with pending := rest })
  ∧ (∀ (c : Instr) (s : State), step (s.pushFront c) = exec c s)
  ∧ (∀ (s : State), s.pending = [] → step s = .next s)

/-- What the registers read after a power-on reset (R452, R457, R458, R459): the identity, the masks, the map and the fields that reset to 0,
and LAST_RESET POR in mode BOOT; no command waits, no interface runs, the time base is not valid (R113), the window is canonical. FW_VER,
CAT_VER, the straps and the serial number are not part of it (log entries 8 and 9). -/
def Obligations.ResetHoldsTheStatedValues : Prop :=
  readReg 0x0000 State.reset = 0x72161FA7#32 ∧ readReg 0x0004 State.reset = 0xB0#32
  ∧ State.reset.sys.mode = .boot ∧ State.reset.sys.lastReset = .por ∧ State.reset.sys.modeChanges = 0 ∧ State.reset.host.cmdReady = false
  ∧ State.reset.time.valid = false ∧ State.reset.host.dirty = false
  ∧ readReg 0x0028 State.reset = 0#32 ∧ readReg 0x002C State.reset = 0#32
  ∧ readReg 0x1000 State.reset = 0#32 ∧ readReg 0x1004 State.reset = 0#32 ∧ readReg 0x1008 State.reset = 0xFFFFFFFF#32
  ∧ readReg 0x100C State.reset = 0x0FFFFFFF#32 ∧ readReg 0x1010 State.reset = 0#32
  ∧ (∀ m, m < 16 → m ≠ 8 → readReg (0x1020 + 4 * m) State.reset =
      BitVec.ofNat 32 (4 * m % 32 + (4 * m + 1) % 32 * 256 + (4 * m + 2) % 32 * 65536 + (4 * m + 3) % 32 * 16777216))
  ∧ (∀ i, i < 3 → State.reset.ifaceRuns i = false) ∧ State.reset.pending = [] ∧ State.reset.host.waiting = []
  ∧ State.reset.host.executing = none ∧ State.reset.host.pci.vendor = 0x1FA7 ∧ State.reset.host.pci.device = 0x7216
  ∧ State.reset.host.pci.revision = 0xB0 ∧ State.reset.host.pci.subVendor = 0x1FA7 ∧ State.reset.host.pci.subsystem = 0x0001
  ∧ State.reset.host.pci.classCode = 0x118000 ∧ State.reset.host.pci.bar0 = 0x400000 ∧ State.reset.host.pci.vectors = 32
  ∧ State.reset.windowOk = true ∧ State.reset.dma.window = []

/-- The reading system commands answer OK with the data of R482 and R488 and change nothing; SYS_GET_COUNTERS with parameter 1 clears the
counters it has read. The commands that read zones and constellations (R245 to R248). The reading commands of the front end (R283, R284). -/
def Obligations.ReadingCommandsAnswerTheirData : Prop :=
  (
  (∀ (dt : Ps) (q : Packet) (s u : State), u = arrived q (s.elapse dt) → ready (s.elapse dt) q 0x0101 = true → u.sys.phase = .running → q.params = [] →
    executed (exec (.getIdentity dt q) s) q 0x0101
      (be 2 u.host.pci.vendor ++ be 2 u.host.pci.device ++ be 1 u.host.pci.revision ++ be 4 u.fwVer ++ be 4 u.catVer ++ be 8 u.sec.serial.toNat ++ be 1 u.strapsWord
        ++ be 1 u.sys.mode.code ++ be 1 u.sys.lifecycle.code ++ be 1 u.sys.lastReset.code ++ be 4 u.globalStatus.toNat
        ++ be 2 u.host.ring.epoch.toNat ++ be 2 u.host.mgmt.epoch.toNat ++ be 2 u.host.svc.epoch.toNat ++ be 1 u.sys.capacity) false u)
  ∧ (∀ (dt : Ps) (q : Packet) (s u : State) (n o : JEntry), u = arrived q (s.elapse dt) → ready (s.elapse dt) q 0x0105 = true → q.params.length = 6 →
    1 ≤ fld q.params 4 2 → fld q.params 4 2 ≤ 128 → u.host.journal.head? = some n → u.host.journal.getLast? = some o →
    executed (exec (.sysJournalRead dt q) s) q 0x0105
      (let out := (u.host.journal.reverse.filter fun e => decide (fld q.params 0 4 ≤ e.jseq.toNat)).take (fld q.params 4 2)
       be 4 o.jseq.toNat ++ be 4 n.jseq.toNat ++ be 2 out.length ++ out.flatMap jentryBytes) false u)
  ∧ (∀ (dt : Ps) (q : Packet) (s u : State), u = arrived q (s.elapse dt) → ready (s.elapse dt) q 0x0109 = true → q.params = [0] →
    executed (exec (.sysGetCounters dt q) s) q 0x0109 (cntBytes (hostCounters u.host)) false u)
  ∧ (∀ (dt : Ps) (q : Packet) (s u : State), u = arrived q (s.elapse dt) → ready (s.elapse dt) q 0x0109 = true → q.params = [1] →
    executed (exec (.sysGetCounters dt q) s) q 0x0109 (cntBytes (hostCounters u.host)) true
      { u with host := { u.host with
        ring := { epoch := u.host.ring.epoch, tags := u.host.ring.tags }, mgmt := { epoch := u.host.mgmt.epoch, tags := u.host.mgmt.tags }
        svc := { epoch := u.host.svc.epoch, tags := u.host.svc.tags }, cOverwrites := 0, cRouteDrops := 0, cUnprotected := 0 } })
  ∧ (∀ (dt : Ps) (q : Packet) (s u : State), u = arrived q (s.elapse dt) → ready (s.elapse dt) q 0x010A = true → q.params.length ≤ 1024 →
    executed (exec (.sysEcho dt q) s) q 0x010A q.params false u)
  )
  ∧ (
  (∀ (dt : Ps) (q : Packet) (s u : State) (z n : Nat) (x : Zone), u = arrived q (s.elapse dt) → ready (s.elapse dt) q 0x0407 = true → q.params.length = 1 → fld q.params 0 1 = z →
    z ≤ 63 → x = u.zone z → x.state ≠ .free → n = memberCount x →
    executed (exec (.zoneGet dt q) s) q 0x0407 (be 1 x.state.code ++ be 2 x.rate ++ be 4 x.waitUs ++ be 1 x.slotClass ++ be 1 x.revLimit ++ be 2 x.revHold
      ++ be 1 (bit x.trigger 0 + bit x.hold 1) ++ be 2 n ++ be 2 (zoneSize x n).kz ++ be 4 (zoneSize x n).staged ++ be 8 (zoneSize x n).store
      ++ be 4 (1 + n * slotSize x.slotClass / 64) ++ be 4 x.lastSeq.toNat) false u)
  ∧ (∀ (dt : Ps) (q : Packet) (s u : State) (z : Nat), u = arrived q (s.elapse dt) → ready (s.elapse dt) q 0x0408 = true → q.params.length = 2 → fld q.params 0 1 = z →
    z ≤ 63 → (u.zone z).state ≠ .free → fld q.params 1 1 = 0 →
    executed (exec (.zoneGetCounters dt q) s) q 0x0408 (cntBytes (zoneCounters (u.zone z))) false u)
  ∧ (∀ (dt : Ps) (q : Packet) (s u : State) (z : Nat), u = arrived q (s.elapse dt) → ready (s.elapse dt) q 0x0408 = true → q.params.length = 2 → fld q.params 0 1 = z →
    z ≤ 63 → (u.zone z).state ≠ .free → fld q.params 1 1 = 1 →
    executed (exec (.zoneGetCounters dt q) s) q 0x0408 (cntBytes (zoneCounters (u.zone z))) true (u.modZone z clearZone))
  ∧ (∀ (x : Zone) (n : Cnt), n ∈ zoneCounters (clearZone x) → n = 0)
  ∧ (∀ (dt : Ps) (q : Packet) (s u : State) (z : Nat) (c : Sealed), u = arrived q (s.elapse dt) → ready (s.elapse dt) q 0x0409 = true → q.params.length = 18 → fld q.params 0 1 = z →
    z ≤ 63 → (u.zone z).state ≠ .free → (fld q.params 13 1 ≤ 15 ∨ fld q.params 13 1 = 0xFF) → fld q.params 16 2 ≤ 32 → constTick u q.params = true →
    constOf u q.params = some c → ((u.area c.zone c.tick).any fun a => a.constBad || !a.storeBad.isEmpty) = false →
    badWords 1 (constWords u c.zone c.tick) u = [] →
    executed (exec (.constRead dt q) s) q 0x0409
      (sealedHeader u.position c ++ ((c.slots.drop (fld q.params 14 2)).take (fld q.params 16 2)).flatMap (slotBytesBe c.slotClass)) false
        (readWords 1 (constWords u c.zone c.tick) u))
  ∧ (∀ (dt : Ps) (q : Packet) (s u : State) (z : Nat) (c : Sealed), u = arrived q (s.elapse dt) → ready (s.elapse dt) q 0x0409 = true → q.params.length = 18 → fld q.params 0 1 = z →
    z ≤ 63 → (u.zone z).state ≠ .free → (fld q.params 13 1 ≤ 15 ∨ fld q.params 13 1 = 0xFF) → fld q.params 16 2 ≤ 32 → constTick u q.params = true →
    constOf u q.params = some c → ((u.area c.zone c.tick).any fun a => a.constBad || !a.storeBad.isEmpty) = true →
    refusedWith (exec (.constRead dt q) s) q 0x0409 stIntegrity 0xFFFF u)
  ∧ (∀ (dt : Ps) (q : Packet) (s u : State) (f : (ZoneSize → Nat) → Nat), u = arrived q (s.elapse dt) → ready (s.elapse dt) q 0x040A = true → q.params = [] →
    f = (fun g => ((u.align.zones.filter fun z => z.2.state != .free).map fun z => zoneSize z.2 (memberCount z.2)).foldl (fun a y => a + g y) 0) →
    executed (exec (.alignGetStatus dt q) s) q 0x040A (be 4 (f (·.staged)) ++ be 4 (f (·.staging)) ++ be 8 (f (·.store)) ++ be 2 u.align.revQueue.length
      ++ cntBytes [u.align.cUnzoned, u.align.cStopped, u.align.cRevQueue, u.align.cRevAbandoned]) false u)
  )
  ∧ (
  (∀ (dt : Ps) (q : Packet) (s u : State), u = arrived q (s.elapse dt) → ready (s.elapse dt) q 0x0507 = true → q.params = [] →
    executed (exec (.feGetStatus dt q) s) q 0x0507 (be 1 u.front.preset ++ be 1 (bit u.front.firMin 0) ++ be 1 (bit u.front.fnom50 0)
      ++ u.front.inputs.toList.flatMap (fun x => be 1 x.chain.code) ++ be 1 (bitsOf (u.front.ranges.toList.map (·.lo)))
      ++ be 2 (bitsOf (u.front.chans.toList.map (·.zcLost))) ++ be 1 (bitsOf (u.front.locals_.toList.map (·.enabled)))) false u)
  ∧ (∀ (dt : Ps) (q : Packet) (s u : State) (x : ChanSt) (c i : Nat) (env : Option F32), u = arrived q (s.elapse dt) → ready (s.elapse dt) q 0x0508 = true → q.params.length = 1 →
    fld q.params 0 1 = c → c ≤ 15 → x = u.chan c → i = (if c < 8 ∨ (u.range (c - 8)).lo = false then hiInput c else (loInput c).getD 0) →
    env = (if x.ok = true ∧ (u.input i).chain = .valid then some x.env else none) →
    executed (exec (.feGetDetectors dt q) s) q 0x0508 (optF32 x.peak ++ optF32 x.rms ++ optF32 env ++ optF32 (chanFreq x)
      ++ stampBytes (x.crossings.headD 0) ++ be 1 (bit x.peak.isSome 0 + bit x.rms.isSome 1 + bit env.isSome 2 + bit (chanFreq x).isSome 3)) false u)
  ∧ (∀ (dt : Ps) (q : Packet) (s u : State), u = arrived q (s.elapse dt) → ready (s.elapse dt) q 0x0509 = true → q.params = [0] →
    executed (exec (.feGetCounters dt q) s) q 0x0509 (cntBytes (frontCounters u)) false u)
  ∧ (∀ (dt : Ps) (q : Packet) (s u : State), u = arrived q (s.elapse dt) → ready (s.elapse dt) q 0x0509 = true → q.params = [1] →
    executed (exec (.feGetCounters dt q) s) q 0x0509 (cntBytes (frontCounters u)) true (clearFront u))
  ∧ (∀ (u : State) (x : Cnt), x ∈ frontCounters (clearFront u) → x = 0)
  ∧ (∀ (dt : Ps) (q : Packet) (s u : State) (n : Nat), u = arrived q (s.elapse dt) → ready (s.elapse dt) q 0x050A = true → q.params.length = 1 → fld q.params 0 1 = n → n ≤ 3 →
    executed (exec (.feGetLocalConfig dt q) s) q 0x050A (localConfig u n) false u)
  )

/-- SYS_JOURNAL_ROUTE, SYS_IF_RESET and SYS_SET_MGMT do what R482 and R487 say, and MGMT_SETTINGS_APPLY puts the management settings into force
once the reply has left, and does nothing before. -/
def Obligations.SystemSettingsTakeEffect : Prop :=
  (∀ (dt : Ps) (q : Packet) (s u : State) (n : Nat), u = arrived q (s.elapse dt) → ready (s.elapse dt) q 0x0106 = true → q.params.length = 1 → fld q.params 0 1 = n →
    n ≤ 31 → (∀ b ∈ [(u.rq n).bound, (u.flushed.rq n).bound], b = none ∨ b = some .journal) →
    executed (exec (.sysJournalRoute dt q) s) q 0x0106 [] true (bindQueue .journal (some n) { u with host := { u.host with route := some n } }))
  ∧ (∀ (dt : Ps) (q : Packet) (s u : State), u = arrived q (s.elapse dt) → ready (s.elapse dt) q 0x0106 = true → q.params.length = 1 → fld q.params 0 1 = 0xFF →
    executed (exec (.sysJournalRoute dt q) s) q 0x0106 [] true (bindQueue .journal none { u with host := { u.host with route := none } }))
  ∧ (∀ (dt : Ps) (q : Packet) (s u : State) (i : Nat), u = arrived q (s.elapse dt) → ready (s.elapse dt) q 0x0107 = true → q.params.length = 1 → fld q.params 0 1 = i →
    i ≤ 2 → i ≠ q.ifc → executed (exec (.sysIfReset dt q) s) q 0x0107 [] true (ifReset i u))
  ∧ (∀ (dt : Ps) (q : Packet) (s u : State), u = arrived q (s.elapse dt) → ready (s.elapse dt) q 0x0107 = true → q.params.length = 1 → fld q.params 0 1 ≤ 2 →
    fld q.params 0 1 = q.ifc → refusedWith (exec (.sysIfReset dt q) s) q 0x0107 0x03 0 u)
  ∧ (∀ (dt : Ps) (q : Packet) (s u : State), u = arrived q (s.elapse dt) → ready (s.elapse dt) q 0x0108 = true → q.params.length = 31 → fld q.params 10 1 ≤ 32 →
    fld q.params 27 1 ≤ 128 → fld q.params 28 2 ≤ 4094 → fld q.params 30 1 ≤ 31 →
    executed (exec (.sysSetMgmt dt q) s) q 0x0108 [] true { u with host := { u.host with mgmtNext := some {
      mac := fld q.params 0 6, ipv4 := fld q.params 6 4, prefix4 := fld q.params 10 1, ipv6 := fld q.params 11 16, prefix6 := fld q.params 27 1
      vlan := fld q.params 28 2, phy := fld q.params 30 1 } } })
  ∧ (∀ (dt : Ps) (s u : State) (c : MgmtCfg), u = s.elapse dt → u.commandsRun = true → u.host.mgmtNext = some c → u.sec.mkaNext = none →
    exec (.mgmtSettingsApply dt) s = .next (if replyPending 0x0108 u then u else { u with host := { u.host with mgmtCfg := c, mgmtNext := none } }))

/-- The mode register: a change of mode to another mode writes MODE and PREV_MODE and counts in MODE_CHANGES, which holds at 65,535, and FAULT_N
is low in SAFE alone while the device runs; every other field of the system registers stays (R77, R457). SYS_SET_MODE and SYS_RESET (R571,
R574, R585): target 0xFF and, outside SAFE, the present mode change nothing; in SAFE every target is WRONG_MODE; ACTIVE places an unpaired
device in ACTIVE and one with pairing enabled in LISTEN, where it stays if it is there; STANDBY with an ACTIVE partner enters STANDBY,
without one it is BUSY, and on an ACTIVE device BAD_PARAM; COMMISSION and SERVICE are entered, and DORMANT with its wake settings, where the
reply is discarded if the move resets its own interface (R468); SYS_RESET asks for the WARM reset that follows its reply. SYS_COMMIT goes on
executing while the flash is programmed when the stored form fits the 7,340,032 octets of a copy with a header of 256, is refused with
NO_RESOURCE when the form alone exceeds them and with WRONG_MODE in SAFE, and at its end the settings are clean and the reply gives the
octets of the stored form, their CRC-32C and the journal entries committed (R581, R582). -/
def Obligations.ModeAndCommitCommandsTakeEffect : Prop :=
  (
  ∀ (m : Mode) (yield : Bool) (s : State), s.sys.mode ≠ m →
    (changeMode m yield s).sys = { s.sys with
      mode := m, prevMode := s.sys.mode, modeChanges := min (s.sys.modeChanges + 1) 65535
      faultLow := decide (s.sys.phase = .running) && decide (m = .safe) }
  )
  ∧ (
  (∀ (dt : Ps) (q : Packet) (s u : State), u = arrived q (s.elapse dt) → ready (s.elapse dt) q 0x0102 = true → q.params.length = 10 → fld q.params 0 1 = 0xFF →
    executed (exec (.sysSetMode dt q) s) q 0x0102 (modeReply u) true u)
  ∧ (∀ (dt : Ps) (q : Packet) (s u : State) (n : Nat), u = arrived q (s.elapse dt) → ready (s.elapse dt) q 0x0102 = true → q.params.length = 10 → fld q.params 0 1 = n →
    1 ≤ n → n ≤ 5 → (n = 5 → fld q.params 9 1 = 1 ∨ fld q.params 9 1 = 2) → u.sys.mode = targetMode n →
    executed (exec (.sysSetMode dt q) s) q 0x0102 (modeReply u) true u)
  ∧ (∀ (dt : Ps) (q : Packet) (s u : State) (n : Nat), u = arrived q (s.elapse dt) → ready (s.elapse dt) q 0x0102 = true → q.params.length = 10 → fld q.params 0 1 = n →
    1 ≤ n → n ≤ 5 → (n = 5 → fld q.params 9 1 = 1 ∨ fld q.params 9 1 = 2) → u.sys.mode = .safe →
    refusedWith (exec (.sysSetMode dt q) s) q 0x0102 0x04 0xFFFF u)
  ∧ (∀ (dt : Ps) (q : Packet) (s u : State), u = arrived q (s.elapse dt) → ready (s.elapse dt) q 0x0102 = true → q.params.length = 10 → fld q.params 0 1 = 2 →
    (u.sys.mode = .commission ∨ u.sys.mode = .service) → u.pair.pairEnable = false →
    executed (exec (.sysSetMode dt q) s) q 0x0102 (modeReply (changeMode .active false u)) true (changeMode .active false u))
  ∧ (∀ (dt : Ps) (q : Packet) (s u : State), u = arrived q (s.elapse dt) → ready (s.elapse dt) q 0x0102 = true → q.params.length = 10 → fld q.params 0 1 = 2 →
    (u.sys.mode = .commission ∨ u.sys.mode = .service) → u.pair.pairEnable = true → u.pair.state ≠ .listen →
    executed (exec (.sysSetMode dt q) s) q 0x0102 (modeReply { u with pair := { u.pair with state := .listen, listenFrom := u.now } }) true
      { u with pair := { u.pair with state := .listen, listenFrom := u.now } })
  ∧ (∀ (dt : Ps) (q : Packet) (s u : State), u = arrived q (s.elapse dt) → ready (s.elapse dt) q 0x0102 = true → q.params.length = 10 → fld q.params 0 1 = 2 →
    (u.sys.mode = .commission ∨ u.sys.mode = .service) → u.pair.pairEnable = true → u.pair.state = .listen →
    executed (exec (.sysSetMode dt q) s) q 0x0102 (modeReply u) true u)
  ∧ (∀ (dt : Ps) (q : Packet) (s u v : State), u = arrived q (s.elapse dt) → ready (s.elapse dt) q 0x0102 = true → q.params.length = 10 → fld q.params 0 1 = 3 →
    u.sys.mode = .commission → partnerActive u = true → v = changeMode .standby false (setPair .standby u) →
    executed (exec (.sysSetMode dt q) s) q 0x0102 (modeReply v) true v)
  ∧ (∀ (dt : Ps) (q : Packet) (s u : State), u = arrived q (s.elapse dt) → ready (s.elapse dt) q 0x0102 = true → q.params.length = 10 → fld q.params 0 1 = 3 →
    u.sys.mode = .commission → partnerActive u = false → refusedWith (exec (.sysSetMode dt q) s) q 0x0102 0x01 0xFFFF u)
  ∧ (∀ (dt : Ps) (q : Packet) (s u : State), u = arrived q (s.elapse dt) → ready (s.elapse dt) q 0x0102 = true → q.params.length = 10 → fld q.params 0 1 = 3 →
    u.sys.mode = .active → refusedWith (exec (.sysSetMode dt q) s) q 0x0102 0x03 0 u)
  ∧ (∀ (dt : Ps) (q : Packet) (s u v : State), u = arrived q (s.elapse dt) → ready (s.elapse dt) q 0x0102 = true → q.params.length = 10 → fld q.params 0 1 = 1 →
    (u.sys.mode = .active ∨ u.sys.mode = .standby ∨ u.sys.mode = .service) → u.pair.state ≠ .listen → v = changeMode .commission true u →
    executed (exec (.sysSetMode dt q) s) q 0x0102 (modeReply v) true v)
  ∧ (∀ (dt : Ps) (q : Packet) (s u v : State), u = arrived q (s.elapse dt) → ready (s.elapse dt) q 0x0102 = true → q.params.length = 10 → fld q.params 0 1 = 4 →
    (u.sys.mode = .commission ∨ u.sys.mode = .active ∨ u.sys.mode = .standby) → u.pair.state ≠ .listen → v = changeMode .service true u →
    executed (exec (.sysSetMode dt q) s) q 0x0102 (modeReply v) true v)
  ∧ (∀ (dt : Ps) (q : Packet) (s u v : State) (w : Nat), u = arrived q (s.elapse dt) → ready (s.elapse dt) q 0x0102 = true → q.params.length = 10 →
    fld q.params 0 1 = 5 → fld q.params 9 1 = w → 1 ≤ w → w ≤ 2 →
    (u.sys.mode = .commission ∨ u.sys.mode = .active ∨ u.sys.mode = .standby ∨ u.sys.mode = .service) → u.pair.state ≠ .listen →
    v = changeMode .dormant true { u with sys := { u.sys with
      wakeTime := fld q.params 1 6, wakeMask := BitVec.ofNat 16 (fld q.params 7 2), wakeActive := decide (w = 2) } } →
    if (v.iface q.ifc).epoch = (u.iface q.ifc).epoch then executed (exec (.sysSetMode dt q) s) q 0x0102 (modeReply v) true v
    else ∃ t, exec (.sysSetMode dt q) s = .next t ∧ t.sys.mode = .dormant ∧ t.host.executing = none
      ∧ (t.iface q.ifc).cDiscarded = inc (v.iface q.ifc).cDiscarded)
  ∧ (∀ (dt : Ps) (q : Packet) (s u : State), u = arrived q (s.elapse dt) → ready (s.elapse dt) q 0x0103 = true → q.params = [] →
    executed (exec (.sysReset dt q) s) q 0x0103 [] true { u with host := { u.host with warmDue := true } })
  )
  ∧ (
  (∀ (dt : Ps) (q : Packet) (s u : State), u = arrived q (s.elapse dt) → ready (s.elapse dt) q 0x0104 = true → q.params.length = 1 → fld q.params 0 1 ≤ 1 →
    u.sys.mode ≠ .safe → (storedForm u).length ≤ 7339776 →
    executing (exec (.sysCommit dt q) s) (.commit (fld q.params 0 1 = 1)) u)
  ∧ (∀ (dt : Ps) (q : Packet) (s u : State), u = arrived q (s.elapse dt) → ready (s.elapse dt) q 0x0104 = true → q.params.length = 1 → fld q.params 0 1 ≤ 1 →
    u.sys.mode ≠ .safe → 7340032 < (storedForm u).length → refusedWith (exec (.sysCommit dt q) s) q 0x0104 0x05 0xFFFF u)
  ∧ (∀ (dt : Ps) (q : Packet) (s u : State), u = arrived q (s.elapse dt) → ready (s.elapse dt) q 0x0104 = true → u.sys.mode = .safe →
    refusedWith (exec (.sysCommit dt q) s) q 0x0104 0x04 0xFFFF u)
  ∧ (∀ (dt : Ps) (s u : State) (q : Packet) (run : Bool), u = s.elapse dt → u.commandsRun = true → u.sys.lifecycle ≠ .return →
    u.host.executing = some { cmd := packetCmd cmdSysCommit q, op := .commit run, mute := false } →
    ∃ t, exec (.commandComplete dt true) s = .next t ∧ t.host.executing = none ∧ t.host.dirty = false ∧ t.host.settings = u.host.settings
      ∧ protocolFrame { commitJournal (commitSettings run u) with host := { (commitJournal (commitSettings run u)).host with dirty := false } } t
      ∧ t.outputs.head? = some (.reply q.ifc (okBytes q 0x0104 (be 4 (storedForm u).length ++ be 4 (crc32c (storedForm u)).toNat
          ++ be 2 (uncommitted u.host.journal)))))
  )

/-- The settings commands of the time group are accepted with OK and no data, and apply at the next 20 ns grid edge (R159, R160, R610): what
each then sets. TIME_SET_UTC has no effect while PTP is the selected source. -/
def Obligations.TimeSettingsTakeEffect : Prop :=
  (∀ (dt : Ps) (q : Packet) (s u : State), u = arrived q (s.elapse dt) → ready (s.elapse dt) q 0x0202 = true → q.params.length = 39 →
    fld q.params 0 1 ≤ 4 → fld q.params 1 1 ≤ 4 → fld q.params 2 1 ≤ 4 → fld q.params 3 1 ≤ 4 → (fld q.params 36 1 = 2 ∨ fld q.params 36 1 = 6) →
    executed (exec (.timeSetSources dt q) s) q 0x0202 [] true (u.at u.nextGrid (.command 0x0202 q.params)))
  ∧ (∀ (p : List Byte) (v : State), (Later.command 0x0202 p).act v = reselect { v with time := { v.time with
      priority := [fld p 0 1, fld p 1 1, fld p 2 1, fld p 3 1]
      ptp := { v.time.ptp with inaccNs := fld p 4 4, growth := fld p 8 4 }
      pps := { v.time.pps with inaccNs := fld p 12 4, growth := fld p 16 4 }
      irig := { v.time.irig with inaccNs := fld p 20 4, growth := fld p 24 4 }
      ref10 := { v.time.ref10 with inaccNs := fld p 28 4, growth := fld p 32 4 }
      irigFormat := fld p 36 1, irigOffsetMin := sfld p 37 2 } })
  ∧ (∀ (dt : Ps) (q : Packet) (s u : State), u = arrived q (s.elapse dt) → ready (s.elapse dt) q 0x0203 = true → q.params.length = 32 →
    fld q.params 0 4 ≤ 262144 → fld q.params 4 4 ≤ 262144 → (fld q.params 8 4 = 0 ∨ 1000 ≤ fld q.params 8 4 ∧ fld q.params 8 4 ≤ 1000000000) →
    10 ≤ fld q.params 12 4 → fld q.params 12 4 ≤ 1000000 → 100 ≤ fld q.params 16 4 → fld q.params 16 4 ≤ 1000000000 →
    fld q.params 20 4 ≤ 25600000 → fld q.params 24 4 ≤ 25600000 → 100 ≤ fld q.params 28 4 → fld q.params 28 4 ≤ 1000000000 →
    executed (exec (.timeSetServo dt q) s) q 0x0203 [] true (u.at u.nextGrid (.command 0x0203 q.params)))
  ∧ (∀ (p : List Byte) (v : State), (Later.command 0x0203 p).act v = { v with time := { v.time with
      kp := fld p 0 4, ki := fld p 4 4, stepThreshold := fld p 8 4, lockThreshold := fld p 12 4, unlockThreshold := fld p 16 4
      dHold := fld p 20 4, dReserve := fld p 24 4, syncLimit := fld p 28 4 } })
  ∧ (∀ (dt : Ps) (q : Packet) (s u : State), u = arrived q (s.elapse dt) → ready (s.elapse dt) q 0x0204 = true → q.params.length = 15 →
    fld q.params 0 1 ≤ 3 → fld q.params 1 1 ≤ 1 → fld q.params 14 1 ≤ 1 →
    executed (exec (.timeSetPort dt q) s) q 0x0204 [] true (u.at u.nextGrid (.command 0x0204 q.params)))
  ∧ (∀ (p : List Byte) (v : State) (k : Nat) (x : TimePort), k = fld p 0 1 → fld p 1 1 = 1 → x = v.timePort k →
    (Later.command 0x0204 p).act v = reselect (setRoles (v.setTimePort k { x with
      ptpEnable := true, ingressLat := sfld p 2 4, egressLat := sfld p 6 4, asymmetry := sfld p 10 4, dropLate := decide (fld p 14 1 = 1) })))
  ∧ (∀ (p : List Byte) (v : State) (k : Nat) (x : TimePort), k = fld p 0 1 → fld p 1 1 = 0 → x = v.timePort k →
    (Later.command 0x0204 p).act v = reselect (setRoles (v.setTimePort k { x with
      ptpEnable := false, ingressLat := sfld p 2 4, egressLat := sfld p 6 4, asymmetry := sfld p 10 4, dropLate := decide (fld p 14 1 = 1)
      announce := none, waiting := none, prevSync := none, delays := [] })))
  ∧ (∀ (dt : Ps) (q : Packet) (s u : State), u = arrived q (s.elapse dt) → ready (s.elapse dt) q 0x0205 = true → q.params.length = 5 →
    fld q.params 0 1 ≤ 1 → fld q.params 2 2 ≤ 4094 → fld q.params 4 1 ≤ 7 →
    executed (exec (.timeSetPtp dt q) s) q 0x0205 [] true (u.at u.nextGrid (.command 0x0205 q.params)))
  ∧ (∀ (p : List Byte) (v : State), (Later.command 0x0205 p).act v = { v with time := { v.time with
      ptpProfile := decide (fld p 0 1 = 1), ptpDomain := fld p 1 1, ptpVlan := fld p 2 2, ptpPriority := fld p 4 1 } })
  ∧ (∀ (dt : Ps) (q : Packet) (s u : State), u = arrived q (s.elapse dt) → ready (s.elapse dt) q 0x0207 = true → q.params.length = 3 → fld q.params 2 1 ≤ 3 →
    u.time.source = some .ptp → executed (exec (.timeSetUtc dt q) s) q 0x0207 [] true u)
  ∧ (∀ (dt : Ps) (q : Packet) (s u : State), u = arrived q (s.elapse dt) → ready (s.elapse dt) q 0x0207 = true → q.params.length = 3 → fld q.params 2 1 ≤ 3 →
    u.time.source ≠ some .ptp → executed (exec (.timeSetUtc dt q) s) q 0x0207 [] true (u.at u.nextGrid (.command 0x0207 q.params)))
  ∧ (∀ (p : List Byte) (v : State), (Later.command 0x0207 p).act v = { v with time := { v.time with
      utcOffset := sfld p 0 2, leapPending := (fld p 2 1).testBit 0, leapDir := (fld p 2 1).testBit 1
      leapDue := if v.time.leapPending && (fld p 2 1).testBit 0 && v.time.leapDir == (fld p 2 1).testBit 1 && v.time.utcOffset == sfld p 0 2
        then v.time.leapDue else leapInstant v (sfld p 0 2) ((fld p 2 1).testBit 1) } })
  ∧ (∀ (dt : Ps) (q : Packet) (s u : State) (n : Nat), u = arrived q (s.elapse dt) → ready (s.elapse dt) q 0x0208 = true → q.params.length = 9 → fld q.params 4 1 = n →
    (n = 255 ∨ n ≤ 31 ∧ ((u.flushed.rq n).bound = none ∨ (u.flushed.rq n).bound = some .eventCapture)) →
    executed (exec (.evtConfig dt q) s) q 0x0208 [] true (u.at u.nextGrid (.command 0x0208 q.params)))
  ∧ (∀ (p : List Byte) (v : State), fld p 4 1 = 255 → (Later.command 0x0208 p).act v = bindQueue .eventCapture none { v with time := { v.time with
      evtEdges := BitVec.ofNat 32 (fld p 0 4), evtDest := 255, ppsDelay := sfld p 5 4 } })
  ∧ (∀ (p : List Byte) (v : State) (n : Nat), fld p 4 1 = n → n ≤ 31 → ((v.rq n).bound = none ∨ (v.rq n).bound = some .eventCapture) →
    (Later.command 0x0208 p).act v = bindQueue .eventCapture (some n) { v with time := { v.time with
      evtEdges := BitVec.ofNat 32 (fld p 0 4), evtDest := n, ppsDelay := sfld p 5 4 } })
  ∧ (∀ (dt : Ps) (q : Packet) (s u : State), u = arrived q (s.elapse dt) → ready (s.elapse dt) q 0x020A = true → q.params.length = 9 →
    -500000000 ≤ sfld q.params 0 4 → sfld q.params 0 4 ≤ 500000000 → 1 ≤ fld q.params 4 4 → fld q.params 4 4 ≤ 500000 → fld q.params 8 1 ≤ 15 →
    executed (exec (.ppsOutConfig dt q) s) q 0x020A [] true (u.at u.nextGrid (.command 0x020A q.params)))
  ∧ (∀ (p : List Byte) (v : State), (Later.command 0x020A p).act v = { v with time := { v.time with
      ppsOutOffset := sfld p 0 4, ppsOutWidth := fld p 4 4, ppsOutGate := fld p 8 1
      ppsOutSec := if v.time.ppsOutOffset = sfld p 0 4 then v.time.ppsOutSec else none } })
  ∧ (∀ (s : State) (dt : Ps), 0 < dt → s.later = [] → s.elapse dt = (settle s).pass dt)
  ∧ (∀ (n : Nat) (t : Ps) (s : State) (a : Ps) (x : Later) (r : List (Ps × Later)), s.later = (a, x) :: r → a ≤ s.now →
    runLater (n + 1) t s = runLater n t (x.act { s with later := r }))

/-- The reading commands of the time group answer their data; EVT_READ takes the records it returns from the FIFO; TIME_SET is accepted and
makes the time base hold the value given at the next 20 ns edge, with TIME_VALID set and the E given (R113, R121, R150, R159, R160, R161). -/
def Obligations.TimeReadsAndTimeSet : Prop :=
  (∀ (dt : Ps) (q : Packet) (s u : State), u = arrived q (s.elapse dt) → ready (s.elapse dt) q 0x0201 = true → q.params = [] →
    executed (exec (.timeGetStatus dt q) s) q 0x0201 (be 4 u.tsStatus.toNat ++ stampBytes u.stamp ++ be 4 u.time.errNs
      ++ be 4 (readReg 0x40014 u).toNat ++ be 4 (readReg 0x40018 u).toNat ++ be 4 u.time.unlockedSec) false u)
  ∧ (∀ (dt : Ps) (q : Packet) (s u : State), u = arrived q (s.elapse dt) → ready (s.elapse dt) q 0x020B = true → q.params = [] →
    executed (exec (.timeGetCounters dt q) s) q 0x020B (cntBytes ([u.time.cSteps, u.time.cLosses, u.time.cSwitches, u.time.cTwilight,
      u.time.cPpsRejected, u.time.cIrigErrors, u.time.cSyncDiscarded, u.time.cEvtOverflow] ++ u.time.cLateSent.toList
      ++ u.time.cLateDropped.toList ++ u.time.cDroppedFar.toList)) false u)
  ∧ (∀ (dt : Ps) (q : Packet) (s u : State) (n : Nat), u = arrived q (s.elapse dt) → ready (s.elapse dt) q 0x0209 = true → q.params.length = 1 → fld q.params 0 1 = n →
    1 ≤ n → n ≤ 32 → u.time.evtFifo ≠ [] →
    executed (exec (.evtRead dt q) s) q 0x0209 (be 1 (min n u.time.evtFifo.length) ++ (u.time.evtFifo.take n).flatMap evtBytes) true
      { u with time := { u.time with evtFifo := u.time.evtFifo.drop n } })
  ∧ (∀ (dt : Ps) (q : Packet) (s u : State), u = arrived q (s.elapse dt) → ready (s.elapse dt) q 0x0209 = true → q.params.length = 1 → 1 ≤ fld q.params 0 1 →
    fld q.params 0 1 ≤ 32 → u.time.evtFifo = [] → executed (exec (.evtRead dt q) s) q 0x0209 [0] false u)
  ∧ (∀ (dt : Ps) (q : Packet) (s u : State), u = arrived q (s.elapse dt) → ready (s.elapse dt) q 0x0206 = true → q.params.length = 14 → fld q.params 6 4 ≤ 999999999 →
    executed (exec (.timeSet dt q) s) q 0x0206 [] true (u.at u.nextGrid (.command 0x0206 q.params)))
  ∧ (∀ (p : List Byte) (v w : State), v.aligning = false → fld p 6 4 ≤ 999999999 → w = (Later.command 0x0206 p).act v →
    w.time.tb = (fld p 0 6 * unitsPerSec + fld p 6 4 * 65536) * 65536 ∧ w.time.valid = true ∧ w.time.err = fld p 10 4
      ∧ w.time.cSteps = inc v.time.cSteps ∧ w.time.steppedAt = some (fld p 0 6 * unitsPerSec + fld p 6 4 * 65536))

/-- The servo (R133, R134, R136): an update in ACQUIRE or LOCKED that does not step sets I and y by the loop's equations; the eighth consecutive
update under LOCK_THRESHOLD locks, the third over UNLOCK_THRESHOLD unlocks; an offset of STEP_THRESHOLD or more from a source that gives the
time of day leaves the frequency and steps the time base by the offset on the next grid edge, in ACQUIRE. -/
def Obligations.ServoFollowsItsLoop : Prop :=
  (∀ (c : Source) (theta : Int) (tau : Rat) (u : State) (x : Rat), x = absQ ((theta : Rat) / 65536) → u.time.stepsOn c x = false →
    (servoUpdate c theta tau u).time.integ = clampQ (-200000) 200000 (u.time.integ + (u.time.ki : Rat) / 65536 * ((theta : Rat) / 65536) / tau)
    ∧ (servoUpdate c theta tau u).time.y = clampQ (-200000) 200000 (-((u.time.kp : Rat) / 65536 * ((theta : Rat) / 65536) / tau)
        - clampQ (-200000) 200000 (u.time.integ + (u.time.ki : Rat) / 65536 * ((theta : Rat) / 65536) / tau))
    ∧ (servoUpdate c theta tau u).time.tb = u.time.tb ∧ (servoUpdate c theta tau u).later = u.later
    ∧ (servoUpdate c theta tau u).time.offset = theta)
  ∧ (∀ (c : Source) (theta : Int) (tau : Rat) (u : State) (x : Rat), x = absQ ((theta : Rat) / 65536) → u.time.servo = .acquire →
    u.time.lockRun = 7 → x < u.time.lockThreshold → (servoUpdate c theta tau u).time.servo = .locked)
  ∧ (∀ (c : Source) (theta : Int) (tau : Rat) (u : State) (x : Rat), x = absQ ((theta : Rat) / 65536) → u.time.servo = .locked →
    u.time.unlockRun = 2 → (u.time.unlockThreshold : Rat) < x → (servoUpdate c theta tau u).time.servo = .acquire)
  ∧ (∀ (c : Source) (theta : Int) (tau : Rat) (u : State) (x : Rat), x = absQ ((theta : Rat) / 65536) → u.time.servo = .acquire →
    0 < u.time.stepThreshold → (u.time.stepThreshold : Rat) ≤ x → givesTimeOfDay c = true →
    (servoUpdate c theta tau u).time.y = u.time.y ∧ (servoUpdate c theta tau u).time.integ = u.time.integ
    ∧ (servoUpdate c theta tau u).time.tb = u.time.tb
    ∧ (servoUpdate c theta tau u).later = insertLater u.nextGrid (.servoStep theta) u.later)
  ∧ (∀ (theta : Int) (v w : State), v.aligning = false → w = (Later.servoStep theta).act v →
    w.time.tb = (((v.time.tb : Int) - theta * 65536) % (tbMod : Nat)).toNat ∧ w.time.valid = true ∧ w.time.cSteps = inc v.time.cSteps
    ∧ w.time.y = v.time.y)

/-- The time sources' events (R118, R122 to R125, R127 to R132, R610). -/
def Obligations.SourceEventsMeasure : Prop :=
  (∀ (dt : Ps) (p : Nat) (m : PtpAnnounce) (s u : State), u = s.elapse dt → (ptpRuns u p = false ∨ m.domain ≠ u.time.ptpDomain) →
    exec (.ptpAnnounce dt p m) s = .next u)
  ∧ (∀ (dt : Ps) (p : Nat) (m : PtpAnnounce) (s u : State), u = s.elapse dt → ptpRuns u p = true → m.domain = u.time.ptpDomain →
    (u.timePort p).announce = none →
    ∃ t, exec (.ptpAnnounce dt p m) s = .next t ∧ (t.timePort p).announce = some m ∧ (t.timePort p).lastAnnounce = u.now
      ∧ (slavePort t = some p → t.time.tlvInacc = m.tlv.map (fun x => x.1 + x.2) ∧ (u.time.source = some .ptp →
          t.time.utcOffset = m.utcOffset ∧ t.time.leapPending = (m.leap61 || m.leap59) ∧ t.time.leapDir = m.leap59)))
  ∧ (∀ (dt : Ps) (p : Nat) (m : PtpSync) (s u : State), u = s.elapse dt → ptpRuns u p = true → (u.timePort p).role = .slave →
    fromMaster u p m.domain m.master = true → m.twoStep = true →
    exec (.ptpSync dt p m) s
      = .next (u.setTimePort p { u.timePort p with lastSync := u.now, logIntv := m.logIntv, waiting := some (m, u.pcsStamp m.ago) }))
  ∧ (∀ (dt : Ps) (p : Nat) (m : PtpSync) (s u : State), u = s.elapse dt → ptpRuns u p = true → (u.timePort p).role = .slave →
    fromMaster u p m.domain m.master = false → exec (.ptpSync dt p m) s = .next u)
  ∧ (∀ (dt : Ps) (p : Nat) (m : PtpSync) (s u v : State), u = s.elapse dt → ptpRuns u p = true → (u.timePort p).role = .slave →
    fromMaster u p m.domain m.master = true → m.twoStep = false →
    v = u.setTimePort p { u.timePort p with lastSync := u.now, logIntv := m.logIntv, waiting := none } → syncDiscarded (v.timePort p) = true →
    exec (.ptpSync dt p m) s = .next { v with time := { v.time with cSyncDiscarded := inc v.time.cSyncDiscarded } })
  ∧ (∀ (dt : Ps) (p : Nat) (m : PtpSync) (s u v : State) (x : TimePort), u = s.elapse dt → ptpRuns u p = true → (u.timePort p).role = .slave →
    fromMaster u p m.domain m.master = true →
    m.twoStep = false → v = u.setTimePort p { u.timePort p with lastSync := u.now, logIntv := m.logIntv, waiting := none } → x = v.timePort p →
    syncDiscarded x = false → ∃ w, w = measure .ptp
        (stampDiff (u.pcsStamp m.ago) m.origin - x.ingressLat - m.corr - x.asymmetry - x.delays.headD 0) (syncTau x (u.pcsStamp m.ago)) v
      ∧ exec (.ptpSync dt p m) s = .next (if w.time.source = some .ptp then
          w.setTimePort p { w.timePort p with prevSync := some (u.pcsStamp m.ago) } else w))
  ∧ (∀ (dt : Ps) (p : Nat) (m : PtpFollowUp) (w : PtpSync) (a : Stamp) (s u : State), u = s.elapse dt → ptpRuns u p = true →
    fromMaster u p m.domain m.master = true → (u.timePort p).waiting = some (w, a) → w.seq = m.seq →
    exec (.ptpFollowUp dt p m) s = .next (syncOffset p a m.origin (w.corr + m.corr) (u.setTimePort p { u.timePort p with waiting := none })))
  ∧ (∀ (dt : Ps) (p seq : Nat) (port : List Byte) (ago : Ps) (s u : State), u = s.elapse dt → ptpRuns u p = true →
    exec (.ptpPeerDelay dt p (.request u.time.ptpDomain seq port ago)) s
      = .next (ptpFrame p (.ptpAnswer (u.pcsStamp ago)) (peerDelayAnswer u p seq port) u))
  ∧ (∀ (dt : Ps) (p n : Nat) (s u : State), u = s.elapse dt → ptpRuns u p = true → n = (u.timePort p).pdelaySeq →
    exec (.ptpPeerDelay dt p .start) s = .next (ptpFrame p (.ptpRequest n) (peerDelayRequest u p n)
      (u.setTimePort p { u.timePort p with pdelaySeq := (n + 1) % 65536 })))
  ∧ (∀ (dt : Ps) (p seq : Nat) (b : Ps) (t1 t2 t3 : Stamp) (s u : State), u = s.elapse dt → ptpRuns u p = true →
    (u.timePort p).pdelaySent = some (seq, t1) →
    exec (.ptpPeerDelay dt p (.complete u.time.ptpDomain seq t2 t3 b)) s = .next (u.setTimePort p { u.timePort p with
      delays := (exchangeDelay (u.timePort p) t1 t2 t3 (u.pcsStamp b) :: (u.timePort p).delays).take 16, pdelaySent := none }))
  ∧ (∀ (dt : Ps) (s u : State), u = s.elapse dt → u.sys.phase = .running → u.time.valid = true → u.time.servo = .locked →
    (unitsPerMs : Int) < (fromWholeSecond (u.captureAgo 0)).natAbs →
    exec (.ppsInEdge dt) s = .next { u with time := { u.time with cPpsRejected := inc u.time.cPpsRejected } })
  ∧ (∀ (dt : Ps) (s u : State), u = s.elapse dt → u.sys.phase = .running →
    (u.time.valid = false ∨ u.time.servo ≠ .locked ∨ ((fromWholeSecond (u.captureAgo 0)).natAbs : Int) ≤ unitsPerMs) →
    exec (.ppsInEdge dt) s = .next (measure .ppsIn (fromWholeSecond (u.captureAgo 0) - u.time.ppsDelay * 65536) 1 u))
  ∧ (∀ (dt : Ps) (s u : State), u = s.elapse dt → u.sys.phase = .running →
    exec (.irigFrame dt .bad) s = .next { u with time := { u.time with cIrigErrors := inc u.time.cIrigErrors } })
  ∧ (∀ (dt ago : Ps) (day hour minute second : Nat) (year : Option Nat) (s u : State) (utc : Int), u = s.elapse dt → u.sys.phase = .running →
    utc = irigNearest (u.utcSec u.stamp) u.time.irigOffsetMin day (hour * 3600 + minute * 60 + second) (if u.time.irigFormat = 6 then year else none) →
    exec (.irigFrame dt (.good ago day hour minute second year)) s = .next (measure .irigIn
      (stampDiff (u.captureAgo ago) ((u.time.taiOf utc (second != 60) % 281474976710656).toNat * unitsPerSec)) 1 u))
  ∧ (∀ (dt a : Ps) (ages : List Ps) (s u : State), u = s.elapse dt → u.sys.phase = .running → ref10Gap (a :: ages) = false →
    ref10Off (a :: ages) = false →
    exec (.ref10Gate dt (.phase (a :: ages))) s = .next (measure .ref10In
      (roundQ 11 ((((a :: ages).map fun x => foldPhase (u.captureAgo x)).foldl (· + ·) 0 : Int) / ((a :: ages).length : Rat))) (1 / 1000) u))
  ∧ (∀ (dt : Ps) (r : Ref10) (s u : State), u = s.elapse dt → u.sys.phase = .running → u.time.ref10.present = true →
    (r = .frequencyOut ∨ r = .noEdge ∨ ∃ ages, r = .phase ages ∧ (ref10Gap ages || ref10Off ages) = true) →
    ∃ t, exec (.ref10Gate dt r) s = .next t ∧ t.time.ref10.present = false ∧ t.time.cLosses = inc u.time.cLosses)
  ∧ (∀ (dt : Ps) (s u : State), u = s.elapse dt → u.sys.phase = .running → u.time.irig.present = true →
    u.time.irig.lastEvent + 3000000000000 ≤ u.now →
    ∃ t, exec (.sourceLost dt 3) s = .next t ∧ t.time.irig.present = false ∧ t.time.cLosses = inc u.time.cLosses
      ∧ t.time.source ≠ some .irigIn)

/-- Leap seconds, the reserve increment, event capture and PPS_OUT (R119, R146, R148 to R150, R153, R154): an enabled edge waits for the TCLK
edge that samples it, and there forms its record for the FIFO of 512. -/
def Obligations.TimeEventsTakeEffect : Prop :=
  (∀ (dt : Ps) (s u : State), u = s.elapse dt → u.sys.phase ≠ .unpowered → u.time.leapPending = true → u.time.leapDue ≤ stampSec u.stamp →
    exec (.leapSecond dt) s = .next { u with time := { u.time with
      utcOffset := u.time.utcOffset + (if u.time.leapDir then -1 else 1), leapPending := false, leapOccurred := true
      leapAt := u.time.leapDue, leapAtDir := u.time.leapDir } })
  ∧ (∀ (dt : Ps) (s u : State), u = s.elapse dt → u.time.leapPending = false ∨ stampSec u.stamp < u.time.leapDue → exec (.leapSecond dt) s = .next u)
  ∧ (∀ (dt : Ps) (s u : State), u = s.elapse dt → u.time.leapOccurred = true → u.time.leapAt + 86400 ≤ stampSec u.stamp →
    exec (.leapOccurredExpiry dt) s = .next { u with time := { u.time with leapOccurred := false } })
  ∧ (∀ (dt : Ps) (edges t0 : Nat) (s u : State), u = s.elapse dt → u.sys.phase = .running → u.time.servo = .locked → u.time.kclkFail = false →
    edges ≠ 0 → u.time.kclkStart = some t0 → kclkWindow ≤ (u.time.tb + tbMod - t0) % tbMod →
    exec (.reserveIncrementUpdate dt edges) s = .next { u with time := { u.time with
      reserveInc := (roundQ 6 (((u.time.tb + tbMod - t0) % tbMod : Nat) / edges)).toNat, kclkStart := some u.time.tb } })
  ∧ (∀ (dt : Ps) (i : Nat) (f : Bool) (s u : State) (e : Ps), u = s.elapse dt → u.sys.phase = .running → i < 16 →
    edgeSelected u.time.evtEdges i f = true → e = cdiv u.now 4000 * 4000 →
    exec (.eventCapture dt i f) s = .next { u with
      time := { u.time with evtHeld := insertHeld (e, i, f) u.time.evtHeld }, later := insertLater e .capture u.later })
  ∧ (∀ (i : Nat) (f : Bool) (u : State), u.time.evtDest = 255 → u.time.evtFifo.length < 512 →
    eventForm i f u = { u with time := { u.time with
      evtSeq := (u.time.evtSeq + 1) % 65536, evtFifo := u.time.evtFifo ++ [evtRecOf i f u] } })
  ∧ (∀ (i : Nat) (f : Bool) (u : State), u.time.evtDest = 255 → 512 ≤ u.time.evtFifo.length →
    eventForm i f u = { u with time := { u.time with evtSeq := (u.time.evtSeq + 1) % 65536, cEvtOverflow := inc u.time.cEvtOverflow } })
  ∧ (∀ (u v : State), (∀ x ∈ u.time.evtHeld, x.1 ≤ u.now) → v = { u with time := { u.time with evtHeld := [] } } →
    eventsForm u = u.time.evtHeld.foldl (fun s x => eventForm x.2.1 x.2.2 s) v)
  ∧ (∀ (dt : Ps) (i : Nat) (f : Bool) (s u : State), u = s.elapse dt → edgeSelected u.time.evtEdges i f = false →
    exec (.eventCapture dt i f) s = .next u)
  ∧ (∀ (dt : Ps) (s u : State) (a : Stamp), u = s.elapse dt → u.online = true → a = stampAdd u.stamp (-(u.time.ppsOutOffset * 65536)) →
    stampSub a ≤ tclkInc u.time.y / 65536 → u.time.ppsOutSec ≠ some (stampSec a) → u.time.tqCode ≤ u.time.ppsOutGate →
    exec (.ppsOutPulse dt) s = .next { u with
      time := { u.time with ppsOutSec := some (stampSec a), ppsOutEnd := some (u.now + u.time.ppsOutWidth * 1000000) }
      outputs := .pps true u.stamp :: u.outputs })
  ∧ (∀ (dt : Ps) (s u : State) (a : Stamp), u = s.elapse dt → u.online = true → a = stampAdd u.stamp (-(u.time.ppsOutOffset * 65536)) →
    stampSub a ≤ tclkInc u.time.y / 65536 → u.time.ppsOutSec ≠ some (stampSec a) → u.time.ppsOutGate < u.time.tqCode →
    exec (.ppsOutPulse dt) s = .next { u with time := { u.time with ppsOutSec := some (stampSec a) } })
  ∧ (∀ (dt : Ps) (s u : State) (e : Ps), u = s.elapse dt → u.time.ppsOutEnd = some e → e ≤ u.now →
    exec (.ppsOutEnd dt) s = .next { u with time := { u.time with ppsOutEnd := none }, outputs := .pps false u.stamp :: u.outputs })

/-- The commands that add, remove, rebind and configure streams (R177, R181, R184, R187, R190 to R193, R202, R203). STREAM_ADD, STREAM_REMOVE
and STREAM_REBIND are accepted in the light of what already waits for the next grid edge, and take effect at that edge. At its edge a
removal leaves the context FREE with the next GEN, and a rebind leaves it in AWAIT_CFG under the new key with the next GEN, no
configuration, and in quarantine exactly when address and port are the same (R190 to R193). -/
def Obligations.StreamCommandsTakeEffect : Prop :=
  (
  (∀ (dt : Ps) (q : Packet) (s u w : State) (i : Nat), u = arrived q (s.elapse dt) → ready (s.elapse dt) q 0x0301 = true → u.sys.mode ≠ .standby → q.params.length = 28 →
    w = u.flushed → fld q.params 0 2 = i → i ≤ 16383 → (w.ctx i).state = .free → fld q.params 2 1 ≤ 1 → (fld q.params 3 1 = 4 ∨ fld q.params 3 1 = 6) →
    ipFieldOk (fld q.params 3 1 == 6) (slice q.params 4 16) = true → lookupKey w (addKey q.params) = none → fld q.params 26 1 ≤ 3 →
    fld q.params 27 1 ≤ 7 → (fld q.params 2 1 = 0 ∨ tcpStreams w < 512) →
    executed (exec (.streamAdd dt q) s) q 0x0301 (be 1 (w.ctx i).gen.toNat) true (u.at u.nextGrid (.command 0x0301 q.params)))
  ∧ (∀ (p : List Byte) (v : State) (i : Nat), fld p 0 2 = i → (fld p 2 1 ≠ 1 ∨ tcpStreams v < 512) →
    (Later.command 0x0301 p).act v = mirrorCtx i (requestCfg i (writeWords 0 (contextWords i 0) (v.setCtx i {
      state := .awaitCfg
      key := {
        tcp := decide (fld p 2 1 = 1), ipv6 := decide (fld p 3 1 = 6), idcode := fld p 22 2
        srcIp := ipOf (fld p 3 1 = 6) (slice p 4 16), srcPort := fld p 20 2 }
      dstPort := if fld p 2 1 = 1 ∧ fld p 24 2 = 0 then 4712 else fld p 24 2
      srcCtrl := (fld p 27 1).testBit 0, wantCfg3 := (fld p 27 1).testBit 1, tcpCommand := (fld p 27 1).testBit 2
      egressPort := fld p 26 1, gen := (v.ctx i).gen }))))
  ∧ (∀ (dt : Ps) (q : Packet) (s u w : State) (i : Nat), u = arrived q (s.elapse dt) → ready (s.elapse dt) q 0x0302 = true → u.sys.mode ≠ .standby → q.params.length = 2 →
    w = u.flushed → fld q.params 0 2 = i → i ≤ 16383 → (w.ctx i).state ≠ .free →
    executed (exec (.streamRemove dt q) s) q 0x0302 (be 1 ((w.ctx i).gen + 1).toNat) true (u.at u.nextGrid (.command 0x0302 q.params)))
  ∧ (∀ (p : List Byte) (v t : State), t = streamRemove (fld p 0 2) v →
    (Later.command 0x0302 p).act v = { t with host := { t.host with settings := v.host.settings } })
  ∧ (∀ (dt : Ps) (q : Packet) (s u w v : State) (i : Nat) (k : StreamKey), u = arrived q (s.elapse dt) → ready (s.elapse dt) q 0x0303 = true → u.sys.mode ≠ .standby →
    q.params.length = 22 → w = u.flushed → fld q.params 0 2 = i → i ≤ 16383 → (w.ctx i).state ≠ .free →
    ipFieldOk (w.ctx i).key.ipv6 (slice q.params 2 16) = true →
    k = { (w.ctx i).key with srcIp := ipOf (w.ctx i).key.ipv6 (slice q.params 2 16), srcPort := fld q.params 18 2, idcode := fld q.params 20 2 } →
    (lookupKey w k = none ∨ lookupKey w k = some i) → ((w.ctx i).key.tcp = false ∨ tcpStreams w < 512) → v = streamRebind u.nextGridStamp i k w →
    executed (exec (.streamRebind dt q) s) q 0x0303
      (be 1 (v.ctx i).gen.toNat ++ be 1 (bit (v.ctx i).quarantine 0) ++ stampBytes (v.ctx i).rebindAt) true
      (u.at u.nextGrid (.command 0x0303 q.params)))
  ∧ (∀ (p : List Byte) (v t : State) (i : Nat), fld p 0 2 = i → ((v.ctx i).key.tcp = false ∨ tcpStreams v < 512) →
    t = streamRebind v.stamp i { (v.ctx i).key with
      srcIp := ipOf (v.ctx i).key.ipv6 (slice p 2 16), srcPort := fld p 18 2, idcode := fld p 20 2 } v →
    (Later.command 0x0303 p).act v = { t with host := { t.host with settings := v.host.settings } })
  ∧ (∀ (dt : Ps) (q : Packet) (s u v : State) (i : Nat), u = arrived q (s.elapse dt) → ready (s.elapse dt) q 0x0304 = true → u.sys.mode ≠ .standby →
    4 ≤ q.params.length → q.params.length = 4 + fld q.params 2 2 → fld q.params 0 2 = i → i ≤ 16383 → (u.ctx i).state ≠ .free →
    fld q.params 2 2 ≤ 16384 → notConfig (q.params.drop 4) = false → v = offerConfig i (q.params.drop 4) u →
    executed (exec (.streamLoadConfig dt q) s) q 0x0304 (be 1 (v.ctx i).state.code ++ be 1 (v.ctx i).rejectReason) true v)
  ∧ (∀ (dt : Ps) (q : Packet) (s u : State) (i : Nat), u = arrived q (s.elapse dt) → ready (s.elapse dt) q 0x0305 = true → q.params.length = 2 →
    fld q.params 0 2 = i → i ≤ 16383 → badWords 0 (contextWords i 0) u = [] →
    executed (exec (.streamGet dt q) s) q 0x0305 (ctxBytes u (u.ctx i)) false (readWords 0 (contextWords i 0) u))
  ∧ (∀ (dt : Ps) (q : Packet) (s u : State) (i : Nat), u = arrived q (s.elapse dt) → ready (s.elapse dt) q 0x0305 = true → q.params.length = 2 →
    fld q.params 0 2 = i → i ≤ 16383 → badWords 0 (contextWords i 0) u ≠ [] →
    refusedWith (exec (.streamGet dt q) s) q 0x0305 0x08 0xFFFF (readWords 0 (contextWords i 0) u))
  ∧ (∀ (dt : Ps) (q : Packet) (s u : State) (i : Nat), u = arrived q (s.elapse dt) → ready (s.elapse dt) q 0x0306 = true → q.params.length = 3 →
    fld q.params 0 2 = i → i ≤ 16383 → fld q.params 2 1 = 0 → badWords 0 (contextWords i 0) u = [] →
    executed (exec (.streamGetCounters dt q) s) q 0x0306 (if (u.ctx i).state = .free then List.replicate 32 0 else cntBytes (ctxCounters (u.ctx i)))
      false (readWords 0 (contextWords i 0) u))
  ∧ (∀ (dt : Ps) (q : Packet) (s u : State) (i : Nat), u = arrived q (s.elapse dt) → ready (s.elapse dt) q 0x0306 = true → q.params.length = 3 →
    fld q.params 0 2 = i → i ≤ 16383 → fld q.params 2 1 = 1 → (u.ctx i).state ≠ .free → badWords 0 (contextWords i 0) u = [] →
    executed (exec (.streamGetCounters dt q) s) q 0x0306 (cntBytes (ctxCounters (u.ctx i))) true
      ((readWords 0 (contextWords i 0) u).modCtx i fun c => { c with cAccepted := 0, cNoCfg := 0, cSize := 0, cQuarantine := 0, cStaleGen := 0, cBudget := 0, cCfgAccepted := 0, cResumes := 0 }))
  ∧ (∀ (dt : Ps) (q : Packet) (s u : State) (i : Nat), u = arrived q (s.elapse dt) → ready (s.elapse dt) q 0x0307 = true → u.sys.mode ≠ .standby → q.params.length = 4 →
    fld q.params 0 2 = i → i ≤ 16383 → (u.ctx i).state ≠ .free →
    executed (exec (.streamSendCommand dt q) s) q 0x0307 [] true (sendCommand i (fld q.params 2 2) u))
  ∧ (∀ (dt : Ps) (q : Packet) (s u : State), u = arrived q (s.elapse dt) → ready (s.elapse dt) q 0x0301 = true → u.sys.mode = .standby →
    refusedWith (exec (.streamAdd dt q) s) q 0x0301 0x04 0xFFFF u)
  )
  ∧ (
  (∀ (i : Nat) (u : State), i ≤ 16383 → (streamRemove i u).ctx i = { gen := (u.ctx i).gen + 1 })
  ∧ (∀ (a : Stamp) (i : Nat) (k : StreamKey) (u : State) (c : Ctx), i ≤ 16383 → c = (streamRebind a i k u).ctx i →
    c.key = k ∧ c.gen = (u.ctx i).gen + 1 ∧ c.state = .awaitCfg ∧ c.cfg = none ∧ c.rebindAt = a
    ∧ c.quarantine = decide (k.srcIp = (u.ctx i).key.srcIp ∧ k.srcPort = (u.ctx i).key.srcPort))
  )

/-- The commands of the WAN ports, the receive rings and the counters of ingress (R162, R167, R170, R198, R204, R205, R462, R463). -/
def Obligations.IngressCommandsTakeEffect : Prop :=
  (∀ (dt : Ps) (q : Packet) (s u : State) (k : Nat), u = arrived q (s.elapse dt) → ready (s.elapse dt) q 0x0308 = true → q.params.length = 34 → fld q.params 0 1 = k → k ≤ 3 →
    fld q.params 1 1 ≤ 1 → fld q.params 2 1 ≤ 1 → (fld q.params 1 1 = 0 ∨ fld q.params 2 1 = 0) → fld q.params 3 1 ≤ 2 →
    executed (exec (.ingressSetPort dt q) s) q 0x0308 [] true { u with ingress := { u.ingress with ports := vset u.ingress.ports k { u.port k with
      mode10g := decide (fld q.params 1 1 = 1), rsFec := decide (fld q.params 2 1 = 1), macsec := macsecOf (fld q.params 3 1)
      replay := fld q.params 4 4, mac := fld q.params 8 6, ipv4 := fld q.params 14 4, ipv6 := fld q.params 18 16 } } })
  ∧ (∀ (dt : Ps) (q : Packet) (s u : State), u = arrived q (s.elapse dt) → ready (s.elapse dt) q 0x0309 = true → q.params.length = 20 →
    (∀ r, r < 8 → ringEntryOk u q.params r = true ∧ 1 ≤ fld q.params (2 * r + 1) 1 ∧ fld q.params (2 * r + 1) 1 ≤ 64) →
    (∀ i, i < 4 → fld q.params (16 + i) 1 ≤ 7 ∨ fld q.params (16 + i) 1 = 0xFF) →
    ∃ v, v = (List.range 8).foldl (setRing q.params) u ∧ executed (exec (.ingressSetRings dt q) s) q 0x0309 [] true
      { v with ingress := { v.ingress with
        classMap := (List.range 4).map fun i => if fld q.params (16 + i) 1 = 0xFF then none else some (fld q.params (16 + i) 1) } })
  ∧ (∀ (r : Nat) (p : List Byte) (u : State), r < 8 → fld p (2 * r) 1 = 1 →
    setRing p u r = u.setRxRing r { u.rxRing r with
      enabled := true, units := fld p (2 * r + 1) 1, head := if (u.rxRing r).enabled then (u.rxRing r).head else 0 })
  ∧ (∀ (dt : Ps) (q : Packet) (s u : State), u = arrived q (s.elapse dt) → ready (s.elapse dt) q 0x030A = true → q.params = [0] →
    executed (exec (.ingressGetCounters dt q) s) q 0x030A (cntBytes (u.ingress.ports.toList.flatMap portCounters ++ ingressCounters u.ingress)) false u)
  ∧ (∀ (dt : Ps) (q : Packet) (s u : State), u = arrived q (s.elapse dt) → ready (s.elapse dt) q 0x030A = true → q.params = [1] →
    executed (exec (.ingressGetCounters dt q) s) q 0x030A (cntBytes (u.ingress.ports.toList.flatMap portCounters ++ ingressCounters u.ingress)) true
      { u with ingress := clearIngress u.ingress })
  ∧ (∀ (g : IngressSt) (x : Cnt), x ∈ (clearIngress g).ports.toList.flatMap portCounters ++ ingressCounters (clearIngress g) → x = 0)
  ∧ (∀ (dt : Ps) (q : Packet) (s u : State) (n : Nat), u = arrived q (s.elapse dt) → ready (s.elapse dt) q 0x030B = true → q.params.length = 9 → fld q.params 0 1 = n →
    1 ≤ n → n ≤ 4 → (∀ i, i < n → fld q.params (1 + 2 * i) 2 ≠ 0) →
    executed (exec (.ingressSetStreamPorts dt q) s) q 0x030B [] true
      { u with ingress := { u.ingress with streamPorts := ((List.range n).map fun i => fld q.params (1 + 2 * i) 2).eraseDups } })
  ∧ (∀ (dt : Ps) (q : Packet) (s u : State) (k : Nat) (g : Bool × Nat), u = arrived q (s.elapse dt) → ready (s.elapse dt) q 0x030C = true → u.online = true →
    q.params.length = 19 → fld q.params 0 1 = k → k ≤ 3 → fld q.params 1 1 = 1 → (fld q.params 2 1 = 4 ∨ fld q.params 2 1 = 6) →
    ipFieldOk (fld q.params 2 1 == 6) (slice q.params 3 16) = true → g = (decide (fld q.params 2 1 = 6), ipOf (fld q.params 2 1 = 6) (slice q.params 3 16)) →
    g ∉ (u.port k).groups → (u.port k).groups.length < 64 →
    executed (exec (.ingressJoinGroup dt q) s) q 0x030C [] true (groupReport k g.1
      { u with ingress := { u.ingress with ports := vset u.ingress.ports k { u.port k with groups := (u.port k).groups ++ [g] } } }))
  ∧ (∀ (dt : Ps) (q : Packet) (s u : State) (k : Nat) (g : Bool × Nat), u = arrived q (s.elapse dt) → ready (s.elapse dt) q 0x030C = true →
    q.params.length = 19 → fld q.params 0 1 = k → k ≤ 3 → fld q.params 1 1 = 1 → (fld q.params 2 1 = 4 ∨ fld q.params 2 1 = 6) →
    ipFieldOk (fld q.params 2 1 == 6) (slice q.params 3 16) = true → g = (decide (fld q.params 2 1 = 6), ipOf (fld q.params 2 1 = 6) (slice q.params 3 16)) →
    g ∉ (u.port k).groups → 64 ≤ (u.port k).groups.length → refusedWith (exec (.ingressJoinGroup dt q) s) q 0x030C 0x05 0xFFFF u)
  ∧ (∀ (dt : Ps) (q : Packet) (s u : State) (k : Nat) (g : Bool × Nat), u = arrived q (s.elapse dt) → ready (s.elapse dt) q 0x030C = true → u.online = true →
    q.params.length = 19 → fld q.params 0 1 = k → k ≤ 3 → fld q.params 1 1 = 0 → (fld q.params 2 1 = 4 ∨ fld q.params 2 1 = 6) →
    ipFieldOk (fld q.params 2 1 == 6) (slice q.params 3 16) = true → g = (decide (fld q.params 2 1 = 6), ipOf (fld q.params 2 1 = 6) (slice q.params 3 16)) →
    executed (exec (.ingressJoinGroup dt q) s) q 0x030C [] true (dropSettings (fun y => y == groupKey q.params) (groupReport k g.1
      { u with ingress := { u.ingress with ports := vset u.ingress.ports k { u.port k with groups := (u.port k).groups.erase g } } })))

/-- A frame on a WAN port meets steps 2 to 5 of R163 in their order, and the later ones only where it goes on; the management port counts alike;
fragments time out after 50 ms; the supervisor and the receive rings take frames in order (R163, R164, R169 to R172, R200, R201, R204,
R205). -/
def Obligations.ReceptionFollowsItsSteps : Prop :=
  (∀ (dt : Ps) (k : Nat) (f : LineFrame) (s u v : State) (p : PortSt) (m : MkaPort), u = s.elapse dt → u.online = true → k < 4 →
    (u.port k).linkUp = true → f.mpacket = .whole → macSteps (vget {} u.sec.mka k) (u.port k) f = (false, p, m) →
    v = { u with ingress := { u.ingress with ports := vset u.ingress.ports k p }, sec := { u.sec with mka := vset u.sec.mka k m } } →
    exec (.wanFrameRx dt k f) s = .next (match headerKept (u.port k) f, wanClass k f.octets v with
      | true, .other => cutFrame 4 k f (stampAdd (u.pcsStamp (f.wireLength * octetPs (u.port k))) (-(u.timePort k).ingressLat)) v
      | _, _ => v))
  ∧ (∀ (dt : Ps) (k : Nat) (f : LineFrame) (s u v : State) (p : PortSt) (m : MkaPort), u = s.elapse dt → u.online = true → k < 4 →
    (u.port k).linkUp = true → f.mpacket = .whole → macSteps (vget {} u.sec.mka k) (u.port k) f = (true, p, m) →
    v = { u with ingress := { u.ingress with ports := vset u.ingress.ports k p }, sec := { u.sec with mka := vset u.sec.mka k m } } →
    exec (.wanFrameRx dt k f) s
      = .next (classifyWan k f (stampAdd (u.pcsStamp (f.wireLength * octetPs (u.port k))) (-(u.timePort k).ingressLat)) v))
  ∧ (∀ (dt : Ps) (k : Nat) (f : LineFrame) (s u : State), u = s.elapse dt → (u.online = false ∨ 4 ≤ k ∨ (u.port k).linkUp = false) →
    exec (.wanFrameRx dt k f) s = .next u)
  ∧ (∀ (dt : Ps) (k : Nat) (f : LineFrame) (s u : State), u = s.elapse dt → u.online = true → k < 4 → (u.port k).linkUp = true → f.mpacket = .verify →
    exec (.wanFrameRx dt k f) s = .next (if (u.tx k).preempt then u.emit (.verify k true) else u))
  ∧ (∀ (dt : Ps) (k : Nat) (f : LineFrame) (s u : State) (a : Stamp), u = s.elapse dt → u.online = true → k < 4 → (u.port k).linkUp = true →
    (u.tx k).active = true → f.mpacket = .first →
    a = stampAdd (u.pcsStamp (f.wireLength * octetPs (u.port k))) (-(u.timePort k).ingressLat) →
    exec (.wanFrameRx dt k f) s = .next { u with ingress := { u.ingress with ports := vset u.ingress.ports k { u.port k with partial_ := some {
      octets := f.octets, wireLength := f.wireLength, fecCorr := f.fecCorr, fecUncorr := f.fecUncorr, fecOverlap := f.fecOverlap, arrival := a } } } })
  ∧ (∀ (dt : Ps) (k : Nat) (f : LineFrame) (q : PartialFrame) (s u : State), u = s.elapse dt → u.online = true → k < 4 → (u.port k).linkUp = true →
    (u.tx k).active = true → f.mpacket = .later false → (u.port k).partial_ = some q →
    exec (.wanFrameRx dt k f) s = .next { u with ingress := { u.ingress with ports := vset u.ingress.ports k { u.port k with partial_ := some (joinPacket q f) } } })
  ∧ (∀ (dt : Ps) (k : Nat) (f g : LineFrame) (q : PartialFrame) (s u : State), u = s.elapse dt → u.online = true → k < 4 → (u.port k).linkUp = true →
    (u.tx k).active = true → f.mpacket = .later true → (u.port k).partial_ = some q →
    g = { f with mpacket := .whole, octets := q.octets ++ f.octets, wireLength := q.wireLength + f.wireLength, fecCorr := q.fecCorr + f.fecCorr
                 fecUncorr := q.fecUncorr + f.fecUncorr, fecOverlap := q.fecOverlap || f.fecOverlap } →
    exec (.wanFrameRx dt k f) s = .next (wanFrame k g q.arrival
      { u with ingress := { u.ingress with ports := vset u.ingress.ports k { u.port k with partial_ := none } } }))
  ∧ (∀ (dt : Ps) (k : Nat) (f : LineFrame) (last : Bool) (s u : State), u = s.elapse dt →
    (f.mpacket = .first ∧ (u.tx k).active = false ∨ f.mpacket = .later last ∧ ((u.tx k).active = false ∨ (u.port k).partial_ = none)) →
    exec (.wanFrameRx dt k f) s = .next u)
  ∧ (∀ (m : MkaPort) (p : PortSt) (f : LineFrame), p.rsFec = false → f.wireLength < 64 →
    macSteps m p f = (false, { p with cFrames := inc p.cFrames, cRunt := inc p.cRunt }, m))
  ∧ (∀ (m : MkaPort) (p : PortSt) (f : LineFrame), p.rsFec = false → 9216 < f.wireLength →
    macSteps m p f = (false, { p with cFrames := inc p.cFrames, cOversize := inc p.cOversize }, m))
  ∧ (∀ (m : MkaPort) (p : PortSt) (f : LineFrame), p.rsFec = false → 64 ≤ f.wireLength → f.wireLength ≤ 9216 → f.fcsOk = false →
    macSteps m p f = (false, { p with cFrames := inc p.cFrames, cFcsErr := inc p.cFcsErr }, m))
  ∧ (∀ (m : MkaPort) (p : PortSt) (f : LineFrame), p.rsFec = false → 64 ≤ f.wireLength → f.wireLength ≤ 9216 → f.fcsOk = true →
    macAccepted p (fld f.octets 0 6) = false → macSteps m p f = (false, { p with cFrames := inc p.cFrames, cFiltered := inc p.cFiltered }, m))
  ∧ (∀ (m : MkaPort) (p : PortSt) (f : LineFrame), p.rsFec = false → 64 ≤ f.wireLength → f.wireLength ≤ 9216 → f.fcsOk = true →
    macAccepted p (fld f.octets 0 6) = true → p.macsec = .strict → (ethPayload f.octets).1 ≠ 0x888E → f.macsec = .untagged →
    macSteps m p f = (false, { p with cFrames := inc p.cFrames, cMacsecDrop := inc p.cMacsecDrop }, m))
  ∧ (∀ (m : MkaPort) (p : PortSt) (f : LineFrame), p.rsFec = false → 64 ≤ f.wireLength → f.wireLength ≤ 9216 → f.fcsOk = true →
    macAccepted p (fld f.octets 0 6) = true → p.macsec = .check → (ethPayload f.octets).1 ≠ 0x888E → f.macsec = .untagged →
    macSteps m p f = (true, { p with cFrames := inc p.cFrames, cMacsecUntagged := inc p.cMacsecUntagged }, m))
  ∧ (∀ (m : MkaPort) (p : PortSt) (f : LineFrame) (c an pn : Nat) (ok : Bool), p.rsFec = false → 64 ≤ f.wireLength → f.wireLength ≤ 9216 →
    f.fcsOk = true → macAccepted p (fld f.octets 0 6) = true → p.macsec ≠ .off → (ethPayload f.octets).1 ≠ 0x888E → f.macsec = .tagged c an pn ok →
    macSteps m p f = (match macsecVerify p.replay m c an pn ok with
      | some m' => (true, { p with cFrames := inc p.cFrames }, m')
      | none => (false, { p with cFrames := inc p.cFrames, cMacsecDrop := inc p.cMacsecDrop }, m)))
  ∧ (∀ (m : MkaPort) (r c an pn n : Nat), nextPn m c an = some n → n ≤ pn + r → ∃ m', macsecVerify r m c an pn true = some m' ∧
    nextPn m' c an = some (max n (pn + 1)))
  ∧ (∀ (m : MkaPort) (r c an pn : Nat) (ok : Bool), (ok = false ∨ nextPn m c an = none ∨ ∃ n, nextPn m c an = some n ∧ pn + r < n) →
    macsecVerify r m c an pn ok = none)
  ∧ (∀ (dt : Ps) (f : LineFrame) (s u : State) (p : PortSt) (m : MkaPort), u = s.elapse dt → u.online = true → u.host.mgmtLink = true →
    macSteps (vget {} u.sec.mka 4) { mgmtPort u with rsFec := false, macsec := .off } f = (true, p, m) → f.macsec = .untagged →
    exec (.mgmtFrameRx dt f) s = .next (classifyMgmt f (u.pcsStamp (f.wireLength * 8000)) { u with
      ingress := { u.ingress with ports := vset u.ingress.ports 4 { p with macsec := (mgmtPort u).macsec } }
      sec := { u.sec with mka := vset u.sec.mka 4 (vget {} u.sec.mka 4) } }))
  ∧ (∀ (dt : Ps) (s u : State) (old : Reassembly → Bool), u = s.elapse dt →
    old = (fun r => decide (50 * (unitsPerMs : Int) ≤ stampDiff u.stamp r.first)) →
    exec (.fragmentTimeout dt) s = .next { u with ingress := { u.ingress with
      reasm := u.ingress.reasm.filter fun r => !old r
      cFragTimeout := incBy u.ingress.cFragTimeout (u.ingress.reasm.filter fun r => old r && !r.other).length } })
  ∧ (∀ (dt : Ps) (s u : State) (k : Nat) (f : List Byte) (rest : List (Nat × List Byte)), u = s.elapse dt → u.online = true →
    u.ingress.toSupervisor = (k, f) :: rest → ∃ t, exec (.supervisorFrame dt) s = .next t ∧ t.ingress.toSupervisor = rest
      ∧ ((ethPayload f).1 = 0x0806 → fld (ethPayload f).2 6 2 = 1 → t = superFrames k "ARP reply"
          [arpReply (addressedPort u k) f (ethPayload f).2] { u with ingress := { u.ingress with toSupervisor := rest } }))
  ∧ (∀ (dt : Ps) (r : Nat) (desc : List Byte) (s u : State) (x : RxRing) (f : RingFrame) (rest : List RingFrame), u = s.elapse dt → r < 8 →
    x = u.rxRing r → x.queue = f :: rest → x.enabled = true → u.host.pcieUp = true → u.host.busMaster = true → x.head = x.tail → f.used = [] →
    earlierOnWay u r f = false →
    exec (.rxDescriptorWriteback dt r desc) s = .next (u.setRxRing r { x with queue := rest, cNoBuf := inc x.cNoBuf }))
  ∧ (∀ (dt : Ps) (r : Nat) (desc : List Byte) (s u : State) (x : RxRing) (f : RingFrame) (rest : List RingFrame) (n : Nat), u = s.elapse dt → r < 8 →
    x = u.rxRing r → x.queue = f :: rest → x.enabled = true → u.host.pcieUp = true → u.host.busMaster = true → x.head ≠ x.tail →
    (lfld desc 10 2).testBit 0 = true → f.used = [] → earlierOnWay u r f = false → n = x.units * 256 → n < f.octets.length →
    exec (.rxDescriptorWriteback dt r desc) s = .next (((u.emit (.hostRead (x.base.toNat + 32 * x.head) 32)).hostPut
        (lfld desc 0 8) (f.octets.take n)).setRxRing r
      { x with queue := { f with used := [(x.head, n)] } :: rest, head := if x.size ≤ x.head + 1 then 0 else x.head + 1 }))

/-- The events of a stream's context: the parser's tests in their order, binding, configuration, silence, quarantine and the connection (R173,
R179, R182, R183, R187, R189, R191, R194, R196, R609). -/
def Obligations.ContextEventsTakeEffect : Prop :=
  (∀ (dt : Ps) (lane : Nat) (d : StreamDgram) (s u : State), u = s.elapse dt → u.online = true →
    (u.ingress.toParser.find? fun x => x.1 = lane) = some (lane, d) → d.due ≤ u.now →
    exec (.parserInput dt lane) s = .next (parseFrame lane d { u with ingress := { u.ingress with toParser := u.ingress.toParser.erase (lane, d) } }))
  ∧ (∀ (lane : Nat) (d : StreamDgram) (u : State), d.payload.length < 2 → parseFrame lane d u = { u with ingress := { u.ingress with cSync := inc u.ingress.cSync } })
  ∧ (∀ (lane : Nat) (d : StreamDgram) (u : State), 2 ≤ d.payload.length → fld d.payload 0 1 = 0xAA → fld d.payload 1 1 % 16 = 1 →
    (d.payload.length < 4 ∨ fld d.payload 2 2 ≠ d.payload.length) → parseFrame lane d u = { u with ingress := { u.ingress with cSizeErr := inc u.ingress.cSizeErr } })
  ∧ (∀ (lane : Nat) (d : StreamDgram) (u : State), 4 ≤ d.payload.length → fld d.payload 0 1 = 0xAA → fld d.payload 1 1 % 16 = 2 →
    fld d.payload 2 2 = d.payload.length → (crcCcitt (d.payload.take (d.payload.length - 2))).toNat ≠ fld d.payload (d.payload.length - 2) 2 →
    parseFrame lane d u = { u with ingress := { u.ingress with cChk := inc u.ingress.cChk } })
  ∧ (∀ (dt : Ps) (lane i : Nat) (f : ParsedFrame) (s u v : State), u = s.elapse dt → u.online = true →
    (u.ingress.toBind.find? fun x => x.1 = lane) = some (lane, f) → f.due ≤ u.now →
    lookupKey u (dgramKey f.dgram) = some i → badWords 0 (contextWords i 0) u = [] →
    v = { touch 0 (contextWords i 0) u with ingress := { u.ingress with toBind := u.ingress.toBind.erase (lane, f) } } →
    exec (.streamFrameBind dt lane) s = .next (bindFrame i f.due f.dgram (countStream lane v)))
  ∧ (∀ (dt : Ps) (lane i : Nat) (f : ParsedFrame) (s u v : State), u = s.elapse dt → u.online = true →
    (u.ingress.toBind.find? fun x => x.1 = lane) = some (lane, f) → f.due ≤ u.now →
    lookupKey u (dgramKey f.dgram) = some i → badWords 0 (contextWords i 0) u ≠ [] → v = touch 0 (contextWords i 0) u →
    exec (.streamFrameBind dt lane) s
      = .next (countStream lane { v with ingress := { v.ingress with toBind := v.ingress.toBind.eraseP fun x => x.1 = lane } }))
  ∧ (∀ (i : Nat) (due : Ps) (d : StreamDgram) (u : State) (c : Ctx) (g : StreamCfg) (tag : Stamp), c = u.ctx i → quarantined u c d = false →
    (fld d.payload 14 2).testBit 10 = false → c.cfg = some g → d.payload.length = g.expectedSize → fld d.payload 11 3 < g.timeBase →
    1000000000000 ≤ u.ingress.frameBucket → g.numPhasors * 1000000000000 ≤ u.ingress.phasorBucket → c.state = .receiving → c.forward = none →
    tag = frameTag u d.payload (some g.timeBase) →
    bindFrame i due d u = pushInsert (due + 45000) (recordOf u i c g d tag) (State.at { u with ingress := { u.ingress with
      frameBucket := u.ingress.frameBucket - 1000000000000, phasorBucket := u.ingress.phasorBucket - g.numPhasors * 1000000000000 } }
      (due + 20000) (.context i c.gen.toNat (.accepted tag (fld d.payload 14 2) d.arrival due))))
  ∧ (∀ (i gen : Nat) (tag : Stamp) (stat : Nat) (arrival : Stamp) (bound : Ps) (u : State) (c : Ctx), c = u.ctx i → c.state = .receiving →
    c.gen.toNat = gen → c.cfg ≠ none →
    (Later.context i gen (.accepted tag stat arrival bound)).act u = u.setCtx i { c with
      cAccepted := inc c.cAccepted, lastTag := tag, lastStat := stat, lastArrival := arrival, lastDataAt := max c.lastDataAt bound })
  ∧ (∀ (dt : Ps) (i : Nat) (k : CfgCheck) (s u : State), u = s.elapse dt → (u.ingress.checks.find? fun k => k.index = i) = some k → k.voided = false →
    (u.ctx i).state ≠ .free → u.sys.mode ≠ .standby →
    exec (.configCheckDone dt i) s = .next (offerConfig i k.frame { u with ingress := { u.ingress with checks := u.ingress.checks.erase k } }))
  ∧ (∀ (i : Nat) (f : List Byte) (u : State) (r : Nat), checkConfig u i f = .inl r → ((readConfig f).isSome && (u.ctx i).cfg.map (·.content) == some (cfgContent f)) = false →
    offerConfig i f u = refreshSessions (mirrorCtx i (u.setCtx i { u.ctx i with state := .rejected, rejectReason := r, cfg := none })))
  ∧ (∀ (dt : Ps) (i : Nat) (s u : State) (g : StreamCfg), u = s.elapse dt → (u.ctx i).cfg = some g → (u.ctx i).state = .receiving →
    (u.ctx i).lastDataAt + cdiv 3000000000000 g.dataRate ≤ u.now →
    exec (.streamSilent dt i) s = .next (mirrorCtx i (u.setCtx i { u.ctx i with state := .silent })))
  ∧ (∀ (dt : Ps) (i : Nat) (s u : State), u = s.elapse dt → (u.ctx i).quarantine = true →
    3 * (unitsPerSec : Int) ≤ stampDiff u.stamp (u.ctx i).rebindAt →
    exec (.quarantineEnd dt i) s = .next (mirrorCtx i (u.setCtx i { u.ctx i with quarantine := false })))
  ∧ (∀ (dt : Ps) (i : Nat) (s u : State) (t : Ps), u = s.elapse dt → u.online = true → u.sys.mode ≠ .standby → (u.ctx i).state = .awaitCfg →
    (u.ctx i).srcCtrl = true → (u.ctx i).lastRequestAt = some t → t + 1000000000000 ≤ u.now →
    exec (.cfgRequestRepeat dt i) s = .next ((sendCommand i (if (u.ctx i).wantCfg3 then 6 else 5) u).modCtx i fun c => { c with lastRequestAt := some u.now }))
  ∧ (∀ (dt : Ps) (i : Nat) (ok : Bool) (s u : State), u = s.elapse dt → u.online = true → hasConn (u.ctx i) = true → (u.ctx i).tcpUp = false →
    (u.ctx i).tcpTryAt = none → exec (.tcpReconnect dt i ok) s = .next (sourceSegment "TCP SYN" (u.ctx i) 0x02 []
      (u.setCtx i { u.ctx i with tcpUp := ok, tcpTryAt := some u.now, tcpBuf := [], tcpArr := [], tcpScan := false })))
  ∧ (∀ (dt : Ps) (i : Nat) (g : TcpSegment) (s u : State), u = s.elapse dt → u.online = true → hasConn (u.ctx i) = true → (u.ctx i).tcpUp = true →
    g.close = false → g.reset = false → g.payload ≠ [] → 1000000000000 ≤ u.ingress.tcpBucket →
    exec (.tcpSegmentRx dt (.stream i) g) s = .next (u.setCtx i { u.ctx i with
      tcpBuf := (u.ctx i).tcpBuf ++ g.payload, tcpArr := (u.ctx i).tcpArr ++ [(u.now, g.payload.length)] }))
  ∧ (∀ (dt : Ps) (i : Nat) (f rest : List Byte) (s u v : State) (c : Ctx), u = s.elapse dt → c = u.ctx i → u.online = true → hasConn c = true →
    1000000000000 ≤ u.ingress.tcpBucket → takeFrame c.tcpScan (c.tcpBuf.length + 1) c.tcpBuf = (some f, rest) →
    v = u.setCtx i { c.keepOctets rest with tcpScan := false } →
    exec (.tcpFrameDeliver dt i) s = .next { v with ingress := { v.ingress with
      toParser := v.ingress.toParser ++ [(4, {
        ipv6 := c.key.ipv6, tcp := c.key.tcp, srcIp := c.key.srcIp, srcPort := c.key.srcPort, dstPort := c.dstPort, arrival := u.stamp
        macsec := false, port := c.egressPort, payload := f, frames := [(u.now, f)], rxAt := u.now, due := u.now })]
      tcpBucket := v.ingress.tcpBucket - 1000000000000 } })
  ∧ (∀ (dt : Ps) (i : Nat) (s u : State) (c : Ctx) (t : Ps) (n : Nat) (l : List (Ps × Nat)), u = s.elapse dt → c = u.ctx i → hasConn c = true →
    c.tcpScan = false → takeFrame false (c.tcpBuf.length + 1) c.tcpBuf = (none, c.tcpBuf) → c.tcpArr = (t, n + 1) :: l → t + 50000000000 ≤ u.now →
    exec (.tcpFrameTimeout dt i) s = .next (State.setCtx { u with ingress := { u.ingress with cTcpTimeout := inc u.ingress.cTcpTimeout } } i
      { c.keepOctets [] with tcpScan := true }))

/-- The commands that set, start, stop and delete zones and change their members (R206, R208, R209, R211 to R213, R245, R246, R497); ZONE_STOP
is accepted and stops the zone at the next grid edge. -/
def Obligations.ZoneCommandsTakeEffect : Prop :=
  (∀ (dt : Ps) (q : Packet) (s u : State) (z : Nat) (x y : Zone), u = arrived q (s.elapse dt) → ready (s.elapse dt) q 0x0401 = true → q.params.length = 12 → fld q.params 0 1 = z →
    z ≤ 63 → fld q.params 1 2 ∈ [10, 12, 15, 20, 25, 30, 50, 60, 100, 120, 200, 240] → 1000 ≤ fld q.params 3 4 → fld q.params 3 4 ≤ 2000000 →
    fld q.params 7 1 ≤ 2 → fld q.params 8 1 ≤ 15 → fld q.params 9 2 ≤ 1000 → fld q.params 11 1 ≤ 3 → x = u.zone z → x.state = .stopped →
    y = { x with rate := fld q.params 1 2, waitUs := fld q.params 3 4, slotClass := fld q.params 7 1, revLimit := fld q.params 8 1, revHold := fld q.params 9 2
                 trigger := (fld q.params 11 1).testBit 0, hold := (fld q.params 11 1).testBit 1 } →
    zoneFits u z y (memberCount x) = true → queueSum (fun n => if n = z then y else u.zone n) u.kernel.flows ≤ 4096 →
    executed (exec (.zoneConfig dt q) s) q 0x0401 (be 2 (zoneSize y (memberCount x)).kz ++ be 4 (zoneSize y (memberCount x)).staged
      ++ be 8 (zoneSize y (memberCount x)).store) true (suspendSessions z (u.setZone z y)))
  ∧ (∀ (dt : Ps) (q : Packet) (s u : State) (z : Nat) (x y : Zone), u = arrived q (s.elapse dt) → ready (s.elapse dt) q 0x0401 = true → q.params.length = 12 → fld q.params 0 1 = z →
    z ≤ 63 → fld q.params 1 2 ∈ [10, 12, 15, 20, 25, 30, 50, 60, 100, 120, 200, 240] → 1000 ≤ fld q.params 3 4 → fld q.params 3 4 ≤ 2000000 →
    fld q.params 7 1 ≤ 2 → fld q.params 8 1 ≤ 15 → fld q.params 9 2 ≤ 1000 → fld q.params 11 1 ≤ 3 → x = u.zone z → x.state = .free →
    y = { x with rate := fld q.params 1 2, waitUs := fld q.params 3 4, slotClass := fld q.params 7 1, revLimit := fld q.params 8 1, revHold := fld q.params 9 2
                 trigger := (fld q.params 11 1).testBit 0, hold := (fld q.params 11 1).testBit 1 } →
    zoneFits u z y (memberCount x) = true → queueSum (fun n => if n = z then y else u.zone n) u.kernel.flows ≤ 4096 →
    executed (exec (.zoneConfig dt q) s) q 0x0401 (be 2 (zoneSize y (memberCount x)).kz ++ be 4 (zoneSize y (memberCount x)).staged
      ++ be 8 (zoneSize y (memberCount x)).store) true (suspendSessions z (u.setZone z { clearZone y with state := .stopped })))
  ∧ (∀ (dt : Ps) (q : Packet) (s u : State) (z : Nat), u = arrived q (s.elapse dt) → ready (s.elapse dt) q 0x0401 = true → q.params.length = 12 → fld q.params 0 1 = z →
    z ≤ 63 → fld q.params 1 2 ∈ [10, 12, 15, 20, 25, 30, 50, 60, 100, 120, 200, 240] → 1000 ≤ fld q.params 3 4 → fld q.params 3 4 ≤ 2000000 →
    fld q.params 7 1 ≤ 2 → fld q.params 8 1 ≤ 15 → fld q.params 9 2 ≤ 1000 → fld q.params 11 1 ≤ 3 → (u.zone z).state = .running →
    refusedWith (exec (.zoneConfig dt q) s) q 0x0401 0x01 0xFFFF u)
  ∧ (∀ (dt : Ps) (q : Packet) (s u : State) (z : Nat) (x : Zone), u = arrived q (s.elapse dt) → ready (s.elapse dt) q 0x0402 = true → q.params.length = 1 → fld q.params 0 1 = z →
    z ≤ 63 → x = u.zone z → x.state = .stopped → (∀ a ∈ x.areas, a.stagedHeld = false) →
    executed (exec (.zoneDelete dt q) s) q 0x0402 [] true ((dropSettings (zoneSetting z u) (x.members.foldl (leaveZone z 0) u)).setZone z { x with
      state := .free, rate := 0, waitUs := 0, slotClass := 1, trigger := false, hold := false, revLimit := 3, revHold := 10, members := [], areas := [] }))
  ∧ (∀ (dt : Ps) (q : Packet) (s u : State) (z : Nat), u = arrived q (s.elapse dt) → ready (s.elapse dt) q 0x0402 = true → q.params.length = 1 → fld q.params 0 1 = z →
    z ≤ 63 → (u.zone z).state = .running → refusedWith (exec (.zoneDelete dt q) s) q 0x0402 0x01 0xFFFF u)
  ∧ (∀ (dt : Ps) (q : Packet) (s u : State) (z : Nat), u = arrived q (s.elapse dt) → ready (s.elapse dt) q 0x0403 = true → q.params.length = 1 → fld q.params 0 1 = z →
    z ≤ 63 → (u.zone z).state = .stopped → u.aligning = false →
    executed (exec (.zoneStart dt q) s) q 0x0403 (List.replicate 16 0) true (resumeSessions z (u.modZone z fun x => { x with state := .running })))
  ∧ (∀ (dt : Ps) (q : Packet) (s u v : State) (z : Nat), u = arrived q (s.elapse dt) → ready (s.elapse dt) q 0x0403 = true → q.params.length = 1 → fld q.params 0 1 = z →
    z ≤ 63 → (u.zone z).state = .stopped → u.aligning = true →
    v = zoneBegin z (u.modZone z fun x => { x with state := .running }) →
    executed (exec (.zoneStart dt q) s) q 0x0403 (stampBytes (tickInstant (v.zone z).rate (v.zone z).firstTick) ++ be 4 (nextTickSeq v z)) true v)
  ∧ (∀ (dt : Ps) (q : Packet) (s u w : State) (z : Nat), u = arrived q (s.elapse dt) → ready (s.elapse dt) q 0x0404 = true → q.params.length = 1 → fld q.params 0 1 = z →
    z ≤ 63 → w = u.flushed → (w.zone z).state ≠ .free →
    executed (exec (.zoneStop dt q) s) q 0x0404 (be 4 (w.zone z).lastSeq.toNat) true (u.at u.nextGrid (.command 0x0404 q.params)))
  ∧ (∀ (p : List Byte) (v : State) (z : Nat), fld p 0 1 = z → (v.zone z).state ≠ .running → (Later.command 0x0404 p).act v = v)
  ∧ (∀ (p : List Byte) (v t : State) (z : Nat), fld p 0 1 = z → (v.zone z).state = .running →
    t = (stopTicking true z v).modZone z (fun x => { x with state := .stopped }) →
    (Later.command 0x0404 p).act v = { t with host := { t.host with settings := v.host.settings } })
  ∧ (∀ (dt : Ps) (q : Packet) (s u : State) (z : Nat) (x : Zone) (r : StreamRef), u = arrived q (s.elapse dt) → ready (s.elapse dt) q 0x0405 = true → q.params.length = 5 →
    fld q.params 0 1 = z → z ≤ 63 → x = u.zone z → x.state ≠ .free → fld q.params 1 1 = 0 → fld q.params 2 1 = u.position → u.position ≤ 3 →
    fld q.params 3 2 ≤ 16383 → r = { position := u.position, isLocal := false, index := fld q.params 3 2 } → belongs u r = false →
    (u.ctx r.index).state ≠ .free → zoneFits u z x (memberCount x + 1) = true →
    executed (exec (.zoneAddStream dt q) s) q 0x0405 (if x.ticking then stampBytes (tickInstant x.rate x.nextStage) else List.replicate 12 0) true
      (u.setZone z { x with members := insertMember { ref := r, joinAt := if x.ticking then some x.nextStage else none, leaveAt := none, remoteGen := none } x.members }))
  ∧ (∀ (dt : Ps) (q : Packet) (s u : State) (z k : Nat) (x : Zone) (r : StreamRef), u = arrived q (s.elapse dt) → ready (s.elapse dt) q 0x0405 = true → q.params.length = 5 →
    fld q.params 0 1 = z → z ≤ 63 → x = u.zone z → x.state ≠ .free → x.ticking = false → fld q.params 1 1 = 0 → fld q.params 2 1 ≠ u.position →
    fld q.params 2 1 ≤ 3 → fld q.params 3 2 ≤ 16383 → r = { position := fld q.params 2 1, isLocal := false, index := fld q.params 3 2 } →
    u.linkTo r.position = some k → (u.link k).state = .joined → belongs u r = false → zoneFits u z x (memberCount x + 1) = true →
    executing (exec (.zoneAddStream dt q) s) (.remoteAdd k (u.link k).txSeq z r.position r.index (List.replicate 12 0))
      (sendControl r.position r.index z true 0
        (u.setZone z { x with members := insertMember { ref := r, joinAt := none, leaveAt := none, remoteGen := none } x.members })))
  ∧ (∀ (dt : Ps) (q : Packet) (s u : State) (z : Nat) (x : Zone) (r : StreamRef), u = arrived q (s.elapse dt) → ready (s.elapse dt) q 0x0405 = true → q.params.length = 5 →
    fld q.params 0 1 = z → z ≤ 63 → x = u.zone z → x.state ≠ .free → fld q.params 1 1 = 1 → fld q.params 2 1 = u.position → u.position ≤ 3 →
    fld q.params 3 2 ≤ 3 → r = { position := u.position, isLocal := true, index := fld q.params 3 2 } → belongs u r = true →
    refusedWith (exec (.zoneAddStream dt q) s) q 0x0405 0x03 3 u)
  ∧ (∀ (dt : Ps) (q : Packet) (s u : State) (z : Nat) (x : Zone) (r : StreamRef), u = arrived q (s.elapse dt) → ready (s.elapse dt) q 0x0406 = true → q.params.length = 5 →
    fld q.params 0 1 = z → z ≤ 63 → x = u.zone z → x.state ≠ .free → fld q.params 1 1 = 0 → fld q.params 2 1 ≤ 3 → fld q.params 3 2 ≤ 16383 →
    r = { position := fld q.params 2 1, isLocal := false, index := fld q.params 3 2 } → (∃ m ∈ x.members, m.ref = r ∧ m.leaveAt = none) →
    executed (exec (.zoneRemoveStream dt q) s) q 0x0406 (if x.ticking then stampBytes (tickInstant x.rate x.nextStage) else List.replicate 12 0) true
      (dropSettings (fun k => k == memberKey q.params) (removeMember z r u)))

/-- A record completes insertion by the checks of R218 in their order: GEN, zone, ticking, counts, grid, rate, membership, future, horizon,
duplicate; each one that fails counts in its own counter; a frame that completes after the edge at which its tick fired is a late frame, and
any other takes its slot. The checks read a context of this device and its local streams; a stream of another device keeps its GEN beside
its member (log entry 15). -/
def Obligations.InsertionChecksInOrder : Prop :=
  (∀ (dt : Ps) (s u : State) (due : Ps) (f : FrameRecord) (rest : List (Ps × FrameRecord)), u = insertionRead (s.elapse dt) → u.ingress.toInsert = (due, f) :: rest →
    due ≤ u.now → exec (.alignerInsertion dt) s = .next (insertRecord due f { u with ingress := { u.ingress with toInsert := rest } }))
  ∧ (∀ (dt : Ps) (s u : State), u = insertionRead (s.elapse dt) → u.ingress.toInsert = [] → exec (.alignerInsertion dt) s = .next u)
  ∧ (∀ (dt : Ps) (s u : State) (due : Ps) (f : FrameRecord) (rest : List (Ps × FrameRecord)), u = insertionRead (s.elapse dt) → u.ingress.toInsert = (due, f) :: rest →
    u.now < due → exec (.alignerInsertion dt) s = .next u)
  ∧ (∀ (e : Ps) (f : FrameRecord) (u : State), f.isLocal = false → f.position = u.position → (u.ctx f.index).gen.toNat ≠ f.gen →
    insertRecord e f u = u.modCtx f.index fun c => { c with cStaleGen := inc c.cStaleGen })
  ∧ (∀ (f : FrameRecord) (u : State), f.isLocal = false → f.position = u.position → (u.ctx f.index).gen.toNat = f.gen → staleGen u f = false)
  ∧ (∀ (f : FrameRecord) (u : State), f.isLocal = true → staleGen u f = false)
  ∧ (∀ (f : FrameRecord) (u : State), f.isLocal = false → f.position = u.position → recordZone u f = (u.ctx f.index).zone)
  ∧ (∀ (e : Ps) (f : FrameRecord) (u : State), staleGen u f = false → (recRef f).remote u = false → recordZone u f = none →
    insertRecord e f u = { u with align := { u.align with cUnzoned := inc u.align.cUnzoned } })
  ∧ (∀ (e : Ps) (f : FrameRecord) (u : State) (z : Nat), staleGen u f = false → (recRef f).remote u = false → recordZone u f = some z →
    (u.zone z).ticking = false → insertRecord e f u = { u with align := { u.align with cStopped := inc u.align.cStopped } })
  ∧ (∀ (e : Ps) (f : FrameRecord) (u : State) (z : Nat), staleGen u f = false → (recRef f).remote u = false → recordZone u f = some z →
    (u.zone z).ticking = true → excludedNow u (u.zone z) (recRef f) = true →
    insertRecord e f u = u.modZone z fun x => { x with cOversize := inc x.cOversize })
  ∧ (∀ (e : Ps) (f : FrameRecord) (u : State) (z : Nat), staleGen u f = false → (recRef f).remote u = false → recordZone u f = some z →
    (u.zone z).ticking = true → excludedNow u (u.zone z) (recRef f) = false → matchInstant f = none →
    insertRecord e f u = u.modZone z fun x => { x with cOffGrid := inc x.cOffGrid })
  ∧ (∀ (e : Ps) (f : FrameRecord) (u : State) (z sec j : Nat), staleGen u f = false → (recRef f).remote u = false → recordZone u f = some z →
    (u.zone z).ticking = true → excludedNow u (u.zone z) (recRef f) = false → matchInstant f = some (sec, j) →
    j * (u.zone z).rate % f.rate ≠ 0 → insertRecord e f u = u.modZone z fun x => { x with cSurplus := inc x.cSurplus })
  ∧ (∀ (e : Ps) (f : FrameRecord) (u : State) (z sec j n : Nat), staleGen u f = false → (recRef f).remote u = false → recordZone u f = some z →
    (u.zone z).ticking = true → excludedNow u (u.zone z) (recRef f) = false → matchInstant f = some (sec, j) →
    j * (u.zone z).rate % f.rate = 0 → tickNear (u.zone z) (sec * (u.zone z).rate + j * (u.zone z).rate / f.rate) = some n →
    insertRecord e f u = placeRecord e z n f u)
  ∧ (∀ (e : Ps) (z n : Nat) (f : FrameRecord) (u : State) (a : Option Area), a = (u.area z n).filter (·.stored) →
    (∀ b ∈ a, recRef f ∉ b.indexBad) → tickHolds (u.zone z) a n (recRef f) = false →
    placeRecord e z n f u = u.modZone z fun x => { x with cMember := inc x.cMember })
  ∧ (∀ (x : Zone) (a : Option Area) (n : Nat) (r : StreamRef) (m : Member), (x.members.find? fun m => m.ref = r && m.joinAt.isSome) = some m →
    (memberAt m n = false ∨ n < x.firstTick) → tickHolds x a n r = false)
  ∧ (∀ (x : Zone) (a : Area) (n : Nat) (r : StreamRef), a.staged = true → (∀ y ∈ a.slots, y.ref ≠ r) → tickHolds x (some a) n r = false)
  ∧ (∀ (e : Ps) (z n : Nat) (f : FrameRecord) (u : State) (a : Option Area), a = (u.area z n).filter (·.stored) →
    (∀ b ∈ a, recRef f ∉ b.indexBad) → tickHolds (u.zone z) a n (recRef f) = true →
    stampDiff u.stamp (tickInstant (u.zone z).rate n) < -(4 * (unitsPerMs : Int)) →
    placeRecord e z n f u = u.modZone z fun x => { x with cFuture := inc x.cFuture })
  ∧ (∀ (e : Ps) (z n : Nat) (f : FrameRecord) (u : State) (a : Option Area), a = (u.area z n).filter (·.stored) →
    (∀ b ∈ a, recRef f ∉ b.indexBad) → tickHolds (u.zone z) a n (recRef f) = true →
    2 * (unitsPerSec : Int) < stampDiff u.stamp (tickInstant (u.zone z).rate n) →
    placeRecord e z n f u = u.modZone z fun x => { x with cHorizon := inc x.cHorizon })
  ∧ (∀ (e : Ps) (z n : Nat) (f : FrameRecord) (u : State) (a : Area), u.area z n = some a → a.stored = true → a.staged = true →
    recRef f ∉ a.indexBad → tickHolds (u.zone z) (some a) n (recRef f) = true →
    -(4 * (unitsPerMs : Int)) ≤ stampDiff u.stamp (tickInstant (u.zone z).rate n) →
    stampDiff u.stamp (tickInstant (u.zone z).rate n) ≤ 2 * (unitsPerSec : Int) →
    (∃ y ∈ a.slots, y.ref = recRef f ∧ (y.state = .present ∨ y.state = .late)) →
    placeRecord e z n f u = u.modZone z fun x => { x with cDup := inc x.cDup })
  ∧ (∀ (e : Ps) (z n : Nat) (f : FrameRecord) (u : State) (a : Area), u.area z n = some a → a.stored = true → a.staged = true →
    recRef f ∉ a.indexBad → tickHolds (u.zone z) (some a) n (recRef f) = true →
    -(4 * (unitsPerMs : Int)) ≤ stampDiff u.stamp (tickInstant (u.zone z).rate n) →
    stampDiff u.stamp (tickInstant (u.zone z).rate n) ≤ 2 * (unitsPerSec : Int) →
    (∀ y ∈ a.slots, y.ref = recRef f → y.state ≠ .present ∧ y.state ≠ .late) →
    placeRecord e z n f u = (if a.fired && (match a.firedAt with | some k => decide (k < e) | none => true) then insertLate z a f u
      else insertPresent e z n f (slotWritten z n (recRef f) u)))
  ∧ (∀ (e : Ps) (z n : Nat) (f : FrameRecord) (u : State) (a : Area), u.area z n = some a → a.stored = true → (u.zone z).trigger = false → z < 64 →
    ∃ b, (insertPresent e z n f u).area z n = some b ∧ b.slots = a.slots.map fun y =>
      if y.ref = recRef f then { y with state := .present, record := some f, triggerLast := false } else y)
  ∧ (∀ (z : Nat) (a : Area) (f : FrameRecord) (u : State), (u.zone z).revLimit = 0 →
    insertLate z a f u = u.modZone z fun x => { x with cLateDrops := inc x.cLateDrops })
  ∧ (∀ (z : Nat) (a : Area) (f : FrameRecord) (u : State), 0 < (u.zone z).revLimit → a.armed = false → (u.zone z).revLimit ≤ knownRev u z a →
    insertLate z a f u = u.modZone z fun x => { x with cRevLimit := inc x.cRevLimit })
  ∧ (∀ (z : Nat) (a : Area) (f : FrameRecord) (u : State), a.armed = false → knownRev u z a < (u.zone z).revLimit → u.align.revQueue.length < 1024 →
    (insertLate z a f u).align.revQueue = u.align.revQueue ++ [{ zone := z, tick := a.tick, holdEnd := u.now + (u.zone z).revHold * 1000000000, queued := none }])

/-- Staging, closes, deadlines and assembly (R33, R36, R38, R40, R44, R220, R222, R223, R225, R228, R239). -/
def Obligations.TicksRunTheirCourse : Prop :=
  (∀ (dt : Ps) (z : Nat) (s u : State), u = s.elapse dt → u.aligning = true → (u.zone z).ticking = true →
    stampGe u.stamp (stageInstant (u.zone z) (u.zone z).nextStage) = true → exec (.stagingStart dt z) s = .next (stageTick z (stagingWrite z u)))
  ∧ (∀ (dt : Ps) (z : Nat) (s u : State), u = s.elapse dt → (u.zone z).ticking = false → exec (.stagingStart dt z) s = .next u)
  ∧ (∀ (z : Nat) (u : State), z ≤ 63 → ((stageTick z u).zone z).nextStage = (u.zone z).nextStage + 1)
  ∧ (∀ (dt : Ps) (z n : Nat) (s u : State), u = stagingRead z (s.elapse dt) → stagingFirst u = some (z, n) → exec (.stagingDone dt z) s
      = .next (modArea z n (fun a => { a with copied := true }) { u with align := { u.align with stagings := u.align.stagings.erase (z, n) } }))
  ∧ (∀ (dt : Ps) (z : Nat) (s u : State) (a : Area), u = closeRead z (s.elapse dt) → (u.zone z).ticking = true → u.area z (u.zone z).nextClose = some a →
    a.staged = true → a.closed = false → stampGe u.gridStamp a.closeAt = true →
    exec (.close dt z) s = .next (fireClose 0 z (u.zone z).nextClose u))
  ∧ (∀ (dt : Ps) (z : Nat) (s u : State) (a : Area), u = closeRead z (s.elapse dt) → u.area z (u.zone z).nextClose = some a → stampGe u.gridStamp a.closeAt = false →
    exec (.close dt z) s = .next u)
  ∧ (∀ (dt : Ps) (z : Nat) (s u : State), u = s.elapse dt → exec (.budgetDeadline dt z) s = .next (((u.zone z).areas.filter fun a =>
      a.fired && !a.deadlineDone && stampGe u.gridStamp a.deadlineAt).foldl (fun s a => budgetDeadline z a.tick s) u))
  ∧ (∀ (dt : Ps) (z : Nat) (s u : State), u = s.elapse dt → exec (.stagedAreaRelease dt z) s = .next (sweepAreas z (u.modZone z fun x => { x with
      areas := x.areas.map fun a => if a.fired && a.assembledAt.isSome && stampGe u.gridStamp a.releaseAt then { a with stagedHeld := false } else a })))
  ∧ (∀ (dt : Ps) (z n : Nat) (s u : State) (a : Area), u = s.elapse dt → u.area z n = some a → 3200 * (unitsPerMs : Int) ≤ stampDiff u.stamp a.instant →
    exec (.storeAreaExpiry dt z n) s = .next (sweepAreas z (modArea z n (fun a => { a with stored := false }) (abandonRevision z n u))))
  ∧ (∀ (z n : Nat) (order : Stamp) (u : State) (a : Area), u.area z n = some a → a.triggered = false →
    fireClose order z n u = asmPush u.now order z n (releasesDue z (deadlinesDue z (modArea z n (Area.fire false u.now)
      (u.modZone z fun x => { x with nextClose := n + 1 })))))
  ∧ (∀ (u : State) (r : AsmReq) (rest : List AsmReq), u.align.asm = none → (∀ c d, u.align.revArea ≠ .assembling c d) → u.align.asmQueue = r :: rest →
    asmTake u = startAssembly r.zone r.tick { u with align := { u.align with asmQueue := rest } })
  ∧ (∀ (u : State) (r : AsmRun), u.align.asm = some r → asmTake u = u)
  ∧ (∀ (z n : Nat) (u : State) (a : Area), u.area z n = some a → z ≤ 63 → u.align.asm = none →
    ∃ r, (startAssembly z n u).align.asm = some r ∧ r.done = u.now + (64 + 4 * a.slots.length) * 1250 ∧ r.orphan = false ∧ r.c.zone = z ∧ r.c.tick = n
      ∧ r.c.rev = 0 ∧ r.c.start = u.stamp ∧ r.c.seq = seqOf (u.zone z) a ∧ r.c.slots.length = a.slots.length)
  ∧ (∀ (dt : Ps) (s u : State) (r : AsmRun), u = assemblyWrite (s.elapse dt) → u.align.asm = some r → r.done ≤ u.now → exec (.assemblyDone dt) s = .next (assemblyDone r u))
  ∧ (∀ (r : AsmRun) (u : State), r.orphan = true → r.c.zone ≤ 63 →
    ((assemblyDone r u).zone r.c.zone).lastSeq = BitVec.ofNat 32 r.c.seq ∧ ((assemblyDone r u).zone r.c.zone).cConst = inc (u.zone r.c.zone).cConst
    ∧ (assemblyDone r u).align.asm = none)

/-- Revisions (R233 to R237, R240). -/
def Obligations.RevisionsRunTheirCourse : Prop :=
  (∀ (dt : Ps) (z n : Nat) (s u : State) (a : Area) (edge : Ps), u = s.elapse dt → u.area z n = some a → a.deadlineDone = true → edge = u.now / 20000 * 20000 →
    exec (.revisionDue dt z n) s = .next { u with align := { u.align with revQueue := u.align.revQueue.map fun (e : RevEntry) =>
      if e.zone = z ∧ e.tick = n ∧ e.queued = none ∧ e.holdEnd ≤ edge then { e with queued := some edge } else e } })
  ∧ (∀ (dt : Ps) (z n : Nat) (s u : State) (a : Area), u = s.elapse dt → u.area z n = some a → a.deadlineDone = false →
    exec (.revisionDue dt z n) s = .next u)
  ∧ (∀ (dt : Ps) (z n : Nat) (s u : State), u = restagingRead (s.elapse dt) → u.align.revArea = .restaging z n →
    exec (.restagingDone dt) s = .next { u with align := { u.align with revArea := .ready z n false } })
  ∧ (∀ (dt : Ps) (z n : Nat) (s u : State), u = s.elapse dt → u.align.revArea = .ready z n false → u.align.asm = none →
    u.align.asmQueue = [] → (∀ w ∈ u.egress.waits, w.zone = z → w.tick = n → waitPending u w = false) →
    exec (.revisionAssemblyStart dt) s = .next { u with align := { u.align with revArea := .ready z n true } })
  ∧ (∀ (z n : Nat) (u : State), u.align.revArea = .ready z n true → u.align.asm = none → u.align.asmQueue = [] → revStart u = startRevision z n u)
  ∧ (∀ (z n : Nat) (u : State), u.align.revArea = .ready z n true → (u.align.asm ≠ none ∨ u.align.asmQueue ≠ []) →
    revStart u = { u with align := { u.align with revArea := .ready z n false } })
  ∧ (∀ (z n : Nat) (u : State) (a : Area) (base : Sealed), u.area z n = some a → a.sealed_.getLast? = some base → z ≤ 63 →
    knownRev u z a + 1 ≤ (u.zone z).revLimit → ∃ c, (startRevision z n u).align.revArea = .assembling c (u.now + (64 + 4 * base.slots.length) * 1250)
      ∧ c.rev = knownRev u z a + 1 ∧ c.seq = base.seq ∧ c.tick = a.tick)
  ∧ (∀ (dt : Ps) (s u v : State) (c : Sealed) (due : Ps) (a : Area), u = s.elapse dt → u.align.revArea = .assembling c due → due ≤ u.now →
    u.area c.zone c.tick = some a → v = State.modZone { u with align := { u.align with revArea := .held c.zone c.tick c.rev } } c.zone (fun x => { x with cRev := inc x.cRev }) →
    exec (.revisionAssemblyDone dt) s = .next (egressAssembled c (modArea c.zone c.tick (fun a => { a with sealed_ := c :: a.sealed_ }) v)))
  ∧ (∀ (dt : Ps) (z n : Nat) (s u : State) (a : Area), u = s.elapse dt → u.area z n = some a → pastStore u a = true → revWaiting u z n = true →
    ∃ v, v = dropRevision z n u ∧ exec (.revisionAbandon dt z n) s
      = .next { v with align := { v.align with cRevAbandoned := inc v.align.cRevAbandoned } })

/-- The settings commands of the front end (R251, R252, R257, R262, R269, R273, R277, R278, R283). -/
def Obligations.FrontCommandsTakeEffect : Prop :=
  (∀ (dt : Ps) (q : Packet) (s u : State), u = arrived q (s.elapse dt) → ready (s.elapse dt) q 0x0501 = true → q.params.length = 3 → fld q.params 0 1 ≤ 3 →
    fld q.params 1 1 ≤ 1 → fld q.params 2 1 ≤ 1 → (∀ l ∈ u.front.locals_, l.enabled = true → l.rate ∈ localRates (fld q.params 2 1 == 1)) →
    executed (exec (.feSetPreset dt q) s) q 0x0501
      (be 4 (settleCount (presetOf (fld q.params 0 1))) ++ be 4 (groupHalves (presetOf (fld q.params 0 1)) (fld q.params 1 1 == 1))) true
      (setPreset (fld q.params 0 1) (fld q.params 1 1 == 1) (fld q.params 2 1 == 1) u))
  ∧ (∀ (p : Nat) (m f : Bool) (u : State), (u.front.preset ≠ p ∨ u.front.firMin ≠ m) →
    (setPreset p m f u).front = { u.front with preset := p, firMin := m, fnom50 := f, inputs := u.front.inputs.map presetRestart
                                               locals_ := u.front.locals_.map fun l => { l with changedAt := some u.now }, cPreset := inc u.front.cPreset })
  ∧ (∀ (u : State) (p : Nat) (m : Bool), u.front.preset = p → u.front.firMin = m →
    (setPreset p m (!u.front.fnom50) u).front = { u.front with
      fnom50 := !u.front.fnom50, locals_ := u.front.locals_.map fun l => { l with changedAt := some u.now } })
  ∧ (∀ (dt : Ps) (q : Packet) (s u : State), u = arrived q (s.elapse dt) → ready (s.elapse dt) q 0x0502 = true → q.params.length = 24 →
    (∀ i, i < 24 → fld q.params i 1 % 128 < 4) → executed (exec (.feSetSampling dt q) s) q 0x0502 [] true
      ((List.range 24).foldl (fun v i => setSampling i (fld q.params i 1) v) u))
  ∧ (∀ (i b : Nat) (u : State), i < 24 → b < 128 → (setSampling i b u).input i = { u.input i with
      enabled := false, instant := b % 4, chain := .off, restartDue := false, presetDue := false, vValid := false, resumeRun := 0 })
  ∧ (∀ (i b : Nat) (u : State), i < 24 → 128 ≤ b → b < 256 → (u.input i).enabled = false → (setSampling i b u).input i = { u.input i with
      enabled := true, instant := b % 4, chain := if inputClock u i then .settling else .stopped, restartDue := inputClock u i, vValid := false })
  ∧ (∀ (i b : Nat) (u : State), i < 24 → 128 ≤ b → b < 256 → (u.input i).enabled = true → (u.input i).instant ≠ b % 4 →
    (setSampling i b u).input i = { u.input i with instant := b % 4, restartDue := inputClock u i })
  ∧ (∀ (i b : Nat) (u : State), i < 24 → 128 ≤ b → b < 256 → (u.input i).enabled = true → (u.input i).instant = b % 4 →
    (setSampling i b u).input i = u.input i)
  ∧ (∀ (dt : Ps) (q : Packet) (s u : State) (i : Nat), u = arrived q (s.elapse dt) → ready (s.elapse dt) q 0x0503 = true → q.params.length = 13 → fld q.params 0 1 = i → i ≤ 23 →
    -32768 ≤ sfld q.params 9 4 → sfld q.params 9 4 ≤ 32768 → executed (exec (.feSetCal dt q) s) q 0x0503 [] true
      (writeWords 3 (fun item _ => decide (393216 + i ≤ item) && decide (item < 393216 + i + 1)) (u.setInput i { u.input i with
        offset := BitVec.ofNat 32 (fld q.params 1 4), gain := BitVec.ofNat 32 (fld q.params 5 4), delay := sfld q.params 9 4 })))
  ∧ (∀ (dt : Ps) (q : Packet) (s u : State) (c : Nat), u = arrived q (s.elapse dt) → ready (s.elapse dt) q 0x0504 = true → q.params.length = 2 → fld q.params 0 1 = c → c ≤ 7 →
    fld q.params 1 1 = 0 → executed (exec (.feSetRange dt q) s) q 0x0504 [] true (u.setRange c { u.range c with mode := .auto }))
  ∧ (∀ (dt : Ps) (q : Packet) (s u : State) (c : Nat), u = arrived q (s.elapse dt) → ready (s.elapse dt) q 0x0504 = true → q.params.length = 2 → fld q.params 0 1 = c → c ≤ 7 →
    fld q.params 1 1 = 1 → executed (exec (.feSetRange dt q) s) q 0x0504 [] true (u.setRange c { u.range c with mode := .forceHi, lo := false }))
  ∧ (∀ (dt : Ps) (q : Packet) (s u : State) (c : Nat), u = arrived q (s.elapse dt) → ready (s.elapse dt) q 0x0504 = true → q.params.length = 2 → fld q.params 0 1 = c → c ≤ 7 →
    fld q.params 1 1 = 2 → executed (exec (.feSetRange dt q) s) q 0x0504 [] true (u.setRange c { u.range c with mode := .forceLo, lo := true }))
  ∧ (∀ (dt : Ps) (q : Packet) (s u : State) (c : Nat), u = arrived q (s.elapse dt) → ready (s.elapse dt) q 0x0505 = true → q.params.length = 11 → fld q.params 0 1 = c → c ≤ 15 →
    1 ≤ fld q.params 1 1 → fld q.params 1 1 ≤ 60 → 1 ≤ fld q.params 2 1 → fld q.params 2 1 ≤ 60 → 100 ≤ fld q.params 3 4 → fld q.params 3 4 ≤ 1000000 →
    1000 ≤ fld q.params 7 4 → fld q.params 7 4 ≤ 10000000 → executed (exec (.feSetDetectors dt q) s) q 0x0505 [] true (u.setChan c { u.chan c with
      wPk := fld q.params 1 1, wRms := some (fld q.params 2 1), attack := fld q.params 3 4, release := fld q.params 7 4 }))
  ∧ (∀ (dt : Ps) (q : Packet) (s u : State) (n : Nat) (g : LocalCfg), u = arrived q (s.elapse dt) → ready (s.elapse dt) q 0x0506 = true → q.params.length = 28 →
    fld q.params 0 1 = n → n ≤ 3 → (fld q.params 1 1 = 0 ∨ (fld q.params 1 1 = 1 ∧ budgetAdmits { u with front := { u.front with locals_ := vset u.front.locals_ n { u.localStream n with
      toLocalCfg := { (u.localStream n).toLocalCfg with enabled := false } } } } 65536 g.rate (popcount 16 g.mask) false = true)) → fld q.params 2 1 ≤ 1 → fld q.params 3 2 ∈ localRates u.front.fnom50 → fld q.params 7 1 ≤ 15 →
    fld q.params 8 1 ≤ 16 → (∀ i, i < fld q.params 8 1 → fld q.params (9 + i) 1 < 64) → fld q.params 25 1 ≤ 1 → g = localOf q.params →
    executed (exec (.feSetLocalStream dt q) s) q 0x0506 (be 2 (localSlot g)) true (refreshSessions { u with front := { u.front with
      locals_ := vset u.front.locals_ n { u.localStream n with
        toLocalCfg := g, before := changesWith u (u.localStream n), changedAt := some u.now } } }))
  ∧ (∀ (dt : Ps) (q : Packet) (s u : State) (n : Nat) (g : LocalCfg), u = arrived q (s.elapse dt) → ready (s.elapse dt) q 0x0506 = true → q.params.length = 28 →
    fld q.params 0 1 = n → n ≤ 3 → fld q.params 1 1 = 1 → fld q.params 2 1 ≤ 1 → fld q.params 3 2 ∈ localRates u.front.fnom50 → fld q.params 7 1 ≤ 15 →
    fld q.params 8 1 ≤ 16 → (∀ i, i < fld q.params 8 1 → fld q.params (9 + i) 1 < 64) → fld q.params 25 1 ≤ 1 → g = localOf q.params →
    budgetAdmits { u with front := { u.front with locals_ := vset u.front.locals_ n { u.localStream n with
      toLocalCfg := { (u.localStream n).toLocalCfg with enabled := false } } } } 65536 g.rate (popcount 16 g.mask) false = false →
    refusedWith (exec (.feSetLocalStream dt q) s) q 0x0506 0x05 0xFFFF u)

/-- The events of the front end: chains restart, settle, are lost and resume; samples; lost crossings; local records (R260 to R262, R265, R266,
R268, R272, R279). -/
def Obligations.FrontEventsTakeEffect : Prop :=
  (∀ (dt : Ps) (s u : State) (i : Nat), u = s.elapse dt → i < 24 →
    ((u.input i).restartDue = true ∨ ((u.input i).presetDue = true ∧ ((u.input i).chain = .settling ∨ (u.input i).chain = .valid))) →
    (u.input i).enabled = true → inputClock u i = true →
    ∃ t, exec (.chainRestart dt) s = .next t ∧ (t.input i).chain = .settling ∧ (t.input i).restartDue = false ∧ (t.input i).presetDue = false ∧ (t.input i).restartAt = u.now
      ∧ (t.input i).integ = [] ∧ (t.input i).combs = [] ∧ (t.input i).firHist = [] ∧ (t.input i).cRestarts = inc (u.input i).cRestarts)
  ∧ (∀ (dt : Ps) (s u : State) (i : Nat), u = s.elapse dt → i < 24 → (u.input i).restartDue = false →
    ((u.input i).chain = .lost ∨ (u.input i).chain = .resuming) → (u.input i).enabled = true → inputClock u i = true →
    ∃ t, exec (.chainRestart dt) s = .next t ∧ t.input i = { u.input i with presetDue := false })
  ∧ (∀ (dt : Ps) (s u : State) (i : Nat), u = s.elapse dt → i < 24 → (u.input i).chain = .settling → (u.input i).restartDue = false → (u.input i).presetDue = false →
    (u.input i).restartAt + settleCount (presetNow u) / 256 * modclk256 u ≤ u.now → exec (.chainValid dt i) s
      = .next (if i = hiInput (inputChan i) ∨ (u.input (hiInput (inputChan i))).enabled = false
        then (u.setInput i { u.input i with chain := .valid }).setChan (inputChan i) { u.chan (inputChan i) with tapGroup := [] }
        else u.setInput i { u.input i with chain := .valid }))
  ∧ (∀ (dt : Ps) (s u : State) (i : Nat), u = s.elapse dt → (u.input i).chain ≠ .settling → exec (.chainValid dt i) s = .next u)
  ∧ (∀ (dt : Ps) (s u : State) (i : Nat), u = s.elapse dt → ((u.input i).chain = .settling ∨ (u.input i).chain = .valid ∨ (u.input i).chain = .resuming) →
    exec (.modulatorLoss dt i) s = .next (u.setInput i { u.input i with chain := .lost, resumeRun := 0, cLoss := inc (u.input i).cLoss }))
  ∧ (∀ (dt : Ps) (s u : State) (i : Nat), u = s.elapse dt → (u.input i).chain = .lost →
    exec (.modulatorResuming dt i) s = .next (u.setInput i { u.input i with chain := .resuming, resumeRun := 0 }))
  ∧ (∀ (dt : Ps) (s u : State) (i : Nat), u = s.elapse dt → (u.input i).chain = .resuming → (u.input i).resumeRun < 4 →
    exec (.resumeWindowEnd dt i false) s = .next (u.setInput i { u.input i with chain := .lost, resumeRun := 0 }))
  ∧ (∀ (dt : Ps) (s u : State) (i : Nat), u = s.elapse dt → (u.input i).chain = .resuming → (u.input i).resumeRun = 3 → exec (.resumeWindowEnd dt i true) s
    = .next (u.setInput i { u.input i with resumeRun := 4, restartDue := true, cResumes := inc (u.input i).cResumes }))
  ∧ (∀ (dt : Ps) (s u : State) (i : Nat), u = s.elapse dt → (u.input i).chain = .resuming → (u.input i).resumeRun < 3 →
    exec (.resumeWindowEnd dt i true) s = .next (u.setInput i { u.input i with resumeRun := (u.input i).resumeRun + 1 }))
  ∧ (∀ (dt : Ps) (s u v : State) (c : Nat) (bits : List Bool), u = sampleRead c (s.elapse dt) → c < 8 → bits ≠ [] → bitsFit u c bits = true →
    v = stepInput c bits u → exec (.feOutputSample dt c bits []) s
      = .next (chanSample v c (v.input c).gain (v.input c).v (v.input c).vValid (sampleStamp v (v.input c))))
  ∧ (∀ (dt : Ps) (s u v : State) (c h : Nat) (bh bl : List Bool) (r : RangeSt), u = sampleRead c (s.elapse dt) → 8 ≤ c → c < 16 → h = 8 + 2 * (c - 8) → bh ≠ [] → bl ≠ [] →
    bitsFit u h bh = true → bitsFit u (h + 1) bl = true → v = stepInput (h + 1) bl (stepInput h bh u) →
    r = selectRange v (v.input h) (v.input (h + 1)) (v.range (c - 8)) → r.lo = false → exec (.feOutputSample dt c bh bl) s
      = .next (chanSample (v.setRange (c - 8) r) c (v.input h).gain (v.input h).v (decide ((v.input h).chain = .valid)) (sampleStamp v (v.input h))))
  ∧ (∀ (dt : Ps) (s u v : State) (c h : Nat) (bh bl : List Bool) (r : RangeSt), u = sampleRead c (s.elapse dt) → 8 ≤ c → c < 16 → h = 8 + 2 * (c - 8) → bh ≠ [] → bl ≠ [] →
    bitsFit u h bh = true → bitsFit u (h + 1) bl = true → v = stepInput (h + 1) bl (stepInput h bh u) →
    r = selectRange v (v.input h) (v.input (h + 1)) (v.range (c - 8)) → r.lo = true → exec (.feOutputSample dt c bh bl) s
      = .next (chanSample (v.setRange (c - 8) r) c (v.input (h + 1)).gain (v.input (h + 1)).v
          (decide ((v.input (h + 1)).chain = .valid ∧ nearFull (v.input (h + 1)).x = false)) (sampleStamp v (v.input (h + 1)))))
  ∧ (∀ (dt : Ps) (s u : State) (c : Nat), u = s.elapse dt → c < 16 → (u.chan c).zcLost = false → detectorsRun u c = true →
    3000000000000 ≤ (u.now - (u.chan c).lastCrossPs) * u.front.fnom → exec (.zcLoss dt c) s
      = .next (u.setChan c { u.chan c with zcLost := true, sinceLoss := 0, cZcLoss := inc (u.chan c).cZcLoss }))
  ∧ (∀ (dt : Ps) (s u : State) (n : Nat) (g : LocalCfg) (a : Stamp), u = s.elapse dt → n < 4 → estimatorRuns u = true →
    nextRecord u (u.localStream n) = some (g, a) → ∃ t f, exec (.localPhasorRecord dt n) s = .next t ∧ (t.localStream n).lastRec = some a
      ∧ f.isLocal = true ∧ f.index = n ∧ f.tag = a ∧ f.rate = g.rate ∧ ∃ d, (d, f) ∈ t.ingress.toInsert)
  ∧ (∀ (dt : Ps) (s u : State) (n : Nat), u = s.elapse dt → estimatorRuns u = false → exec (.localPhasorRecord dt n) s = .next u)

/-- The commands of the energy unit (R285 to R287, R303, R306, R308, R314 to R316). -/
def Obligations.EnergyCommandsTakeEffect : Prop :=
  (∀ (dt : Ps) (q : Packet) (s u : State) (n : Nat), u = arrived q (s.elapse dt) → ready (s.elapse dt) q 0x0601 = true → q.params.length = 11 →
    fld q.params 0 1 = n → n ≤ 1 → (∀ k, k < 3 → ∀ x ∈ phaseChecks u q.params k, x.1 = true) → fld q.params 7 4 ≤ 100000000 →
    executed (exec (.energySetLine dt q) s) q 0x0601 [] true (u.setLine n { u.line n with
      assigned := some [phaseChans q.params 0, phaseChans q.params 1, phaseChans q.params 2], pStart := fld q.params 7 4 }))
  ∧ (∀ (x : LineSt) (a : Nat → Option (Nat × Nat)) (ph : Nat → PhaseSt), x.assigned = some [a 0, a 1, a 2] →
    ph = (fun k => if (vget {} x.phases k).chans = a k then vget {} x.phases k
      else { chans := a k, ah := (vget {} x.phases k).ah, unmetered := (vget {} x.phases k).unmetered }) →
    takeAssigned x = { x with assigned := none, phases := #v[ph 0, ph 1, ph 2] })
  ∧ (∀ (n : Nat) (b : Bool) (u : State), n ≤ 1 →
    (feedLines b u).line n = { takeAssigned (u.line n) with phases := (takeAssigned (u.line n)).phases.map (feedPhase u b) })
  ∧ (∀ (dt : Ps) (q : Packet) (s u : State), u = arrived q (s.elapse dt) → ready (s.elapse dt) q 0x0602 = true → q.params.length = 1 →
    fld q.params 0 1 ∈ [0, 1, 5, 10, 15, 30, 60] → executed (exec (.energySetInterval dt q) s) q 0x0602 [] true
      { u with energy := { u.energy with interval := fld q.params 0 1, lastBoundary := none } })
  ∧ (∀ (dt : Ps) (q : Packet) (s u : State) (n : Nat), u = arrived q (s.elapse dt) → ready (s.elapse dt) q 0x0603 = true → q.params.length = 7 → fld q.params 0 1 = n → n ≤ 1 →
    ufLimitOk (BitVec.ofNat 32 (fld q.params 1 4)) = true → 10 ≤ fld q.params 5 2 → fld q.params 5 2 ≤ 60000 →
    executed (exec (.energySetReserve dt q) s) q 0x0603 [] true
      (u.setLine n { u.line n with ufLimit := BitVec.ofNat 32 (fld q.params 1 4), ufQual := fld q.params 5 2 }))
  ∧ (∀ (dt : Ps) (q : Packet) (s u : State) (n : Nat), u = arrived q (s.elapse dt) → ready (s.elapse dt) q 0x0604 = true → q.params.length = 1 → fld q.params 0 1 = n → n ≤ 1 →
    executed (exec (.energyRead dt q) s) q 0x0604 (stampBytes u.energy.lastTap ++ be 1 (lineState u (u.line n)) ++ lineReadings (u.line n)
      ++ be 8 (u.line n).measured.toNat ++ be 8 (u.line n).unmeasured.toNat) false u)
  ∧ (∀ (dt : Ps) (q : Packet) (s u : State) (n : Nat), u = arrived q (s.elapse dt) → ready (s.elapse dt) q 0x0605 = true → q.params.length = 2 → fld q.params 0 1 = n → n ≤ 1 →
    fld q.params 1 1 = 1 → executed (exec (.energyReadReserve dt q) s) q 0x0605
      ((u.line n).phases.toList.flatMap (fun p => if p.used then reading p.ah else List.replicate 5 0)
        ++ be 1 (bitsOf ((u.line n).phases.toList.map (·.unmetered))) ++ be 8 (u.line n).reserveTime.toNat) true
      (u.setLine n { u.line n with phases := (u.line n).phases.map fun p => { p with unmetered := false } }))
  ∧ (∀ (dt : Ps) (q : Packet) (s u : State) (n : Nat), u = arrived q (s.elapse dt) → ready (s.elapse dt) q 0x0605 = true → q.params.length = 2 → fld q.params 0 1 = n → n ≤ 1 →
    fld q.params 1 1 = 0 → executed (exec (.energyReadReserve dt q) s) q 0x0605
      ((u.line n).phases.toList.flatMap (fun p => if p.used then reading p.ah else List.replicate 5 0)
        ++ be 1 (bitsOf ((u.line n).phases.toList.map (·.unmetered))) ++ be 8 (u.line n).reserveTime.toNat) false u)
  ∧ (∀ (dt : Ps) (q : Packet) (s u : State) (x : Snapshot), u = arrived q (s.elapse dt) → ready (s.elapse dt) q 0x0606 = true → q.params.length = 1 → fld q.params 0 1 ≤ 15 →
    u.energy.snaps[fld q.params 0 1]? = some x →
    executed (exec (.energyReadSnapshot dt q) s) q 0x0606 (stampBytes x.instant ++ be 4 x.seq ++ x.readings ++ x.times.flatMap (be 8)) false u)
  ∧ (∀ (dt : Ps) (q : Packet) (s u : State), u = arrived q (s.elapse dt) → ready (s.elapse dt) q 0x0607 = true → q.params = [] →
    executed (exec (.energyGetStatus dt q) s) q 0x0607 (lineStatus u u.energy.line0 ++ lineStatus u u.energy.line1 ++ be 4 u.energy.clearCount.toNat
      ++ be 4 u.energy.evtLost) false u)
  ∧ (∀ (dt : Ps) (q : Packet) (s u : State) (n : Nat), u = arrived q (s.elapse dt) → ready (s.elapse dt) q 0x0608 = true → q.params.length = 1 → fld q.params 0 1 = n → 1 ≤ n →
    n ≤ 16 → u.energy.events ≠ [] → executed (exec (.energyReadEvents dt q) s) q 0x0608
      (be 1 (min n u.energy.events.length) ++ (u.energy.events.take n).flatMap energyEvtBytes) true
      { u with energy := { u.energy with events := u.energy.events.drop n } })
  ∧ (∀ (dt : Ps) (q : Packet) (s u : State) (n : Nat), u = arrived q (s.elapse dt) → ready (s.elapse dt) q 0x060A = true → u.sys.mode = .commission → q.params.length = 1 →
    fld q.params 0 1 = n → n ≤ 1 → executed (exec (.energyClear dt q) s) q 0x060A (be 4 (u.energy.clearCount + 1).toNat) true
      (let v := u.setLine n { u.line n with sets := Vector.replicate 4 {}, measured := 0, unmeasured := 0, reserveTime := 0, fresh := false, phases := (u.line n).phases.map fun p => { p with ah := {}, unmetered := false } }
       { v with energy := { v.energy with clearCount := u.energy.clearCount + 1 } }))
  ∧ (∀ (dt : Ps) (q : Packet) (s u : State), u = arrived q (s.elapse dt) → ready (s.elapse dt) q 0x060A = true → u.sys.mode ≠ .commission →
    refusedWith (exec (.energyClear dt q) s) q 0x060A 0x04 0xFFFF u)

/-- The events of the energy unit (R288, R303, R306, R310, R312, R313). An accumulator keeps everything that is added to it, modulo 10⁶ × 2⁴⁰,
with the fraction in its residue (R296). -/
def Obligations.EnergyEventsTakeEffect : Prop :=
  (
  (∀ (dt : Ps) (s u : State), u = s.elapse dt → energyRun u = .stopped → exec (.tapSample dt) s = .next u)
  ∧ (∀ (dt : Ps) (s u v : State) (a : Stamp), u = s.elapse dt → energyRun u = .reserve → v = feedLines true u → a = unitStamp v true →
    ∃ w, w = lineReserve 1 (lineReserve 0 (addGap a v)) ∧ exec (.tapSample dt) s = .next { w with energy := { w.energy with lastTap := a, unitRunning := true } })
  ∧ (∀ (dt : Ps) (s u : State), u = s.elapse dt → energyRun u = .accumulate →
    ∃ t, exec (.tapSample dt) s = .next t ∧ t.energy.lastTap = unitStamp (feedLines false u) false ∧ t.energy.unitRunning = true)
  ∧ (∀ (n : Nat) (u : State), (u.line n).off = false → (lineAccumulate n u).2.line n = { u.line n with
      sets := (lineSample u n (u.line n) (u.line n).sets).1, wasMeasured := (u.line n).measuredNow
      cClamped := if (lineSample u n (u.line n) (u.line n).sets).2.1 then inc (u.line n).cClamped else (u.line n).cClamped
      measured := if (u.line n).measuredNow then (u.line n).measured + 1 else (u.line n).measured
      unmeasured := if (u.line n).measuredNow then (u.line n).unmeasured else (u.line n).unmeasured + 1 })
  ∧ (∀ (dt : Ps) (s u : State), u = s.elapse dt → exec (.energySnapshot dt) s = .next (snapshotAt (stampAdd (tapStamp u) (-(32 * tapUnits : Nat))) u))
  ∧ (∀ (a : Stamp) (u : State) (j : Nat), u.energy.interval ≠ 0 → energyRun u = .accumulate → u.energy.lastBoundary = some j → j < (boundaryOf u a).1 →
    (snapshotAt a u).energy.snapSeq = (u.energy.snapSeq + 1) % 4294967296 ∧ (snapshotAt a u).energy.lastBoundary = some (boundaryOf u a).1
    ∧ (snapshotAt a u).energy.snaps.head? = some {
        instant := (boundaryOf u a).2, seq := u.energy.snapSeq
        readings := lineReadings u.energy.line0 ++ lineReadings u.energy.line1
        times := [u.energy.line0.measured.toNat, u.energy.line0.unmeasured.toNat, u.energy.line1.measured.toNat, u.energy.line1.unmeasured.toNat] })
  ∧ (∀ (dt : Ps) (n k : Nat) (s u : State) (p : PhaseSt) (a : Stamp) (b : Ps), u = s.elapse dt → n < 2 → k < 3 → u.sys.phase = .reserve →
    p = vget {} (u.line n).phases k → p.ufOn = false → p.ufHigh = some (a, b) → b + (u.line n).ufQual * 1000000000 ≤ u.now →
    exec (.unmeteredFlowQualified dt n k) s = .next (enterEvent { stamp := a, type := 3, line := n, phase := k, acc := 0, seq := 0 }
      (u.setLine n { u.line n with phases := vset (u.line n).phases k { p with ufOn := true, unmetered := true } })))
  ∧ (∀ (dt : Ps) (n k : Nat) (s u : State) (p : PhaseSt) (a : Stamp) (b : Ps), u = s.elapse dt → n < 2 → k < 3 → u.sys.phase = .reserve →
    p = vget {} (u.line n).phases k → p.ufOn = true → p.ufLow = some (a, b) → b + (u.line n).ufQual * 1000000000 ≤ u.now →
    exec (.unmeteredFlowQualified dt n k) s = .next (enterEvent { stamp := a, type := 4, line := n, phase := k, acc := 0, seq := 0 }
      (u.setLine n { u.line n with phases := vset (u.line n).phases k { p with ufOn := false } })))
  ∧ (∀ (e : EnergyEvt) (u : State), u.energy.events.length < 64 → (enterEvent e u).energy.events.length = u.energy.events.length + 1
    ∧ (enterEvent e u).energy.evtSeq = (u.energy.evtSeq + 1) % 65536 ∧ (enterEvent e u).energy.evtLost = u.energy.evtLost)
  ∧ (∀ (e : EnergyEvt) (u : State), u.energy.events.length < 64 → u.energy.evtSeq < 65536 →
    (∀ (i : Nat) (x : EnergyEvt), u.energy.events[i]? = some x →
      x.seq = (u.energy.evtSeq + 65536 - u.energy.events.length + i) % 65536 ∧ stampDiff e.stamp x.stamp > 0) →
    (enterEvent e u).energy.events = u.energy.events ++ [{ e with seq := u.energy.evtSeq }])
  ∧ (∀ (e : EnergyEvt) (u : State), 64 ≤ u.energy.events.length → enterEvent e u = { u with energy := { u.energy with evtLost := inc u.energy.evtLost } })
  ∧ (∀ (dt : Ps) (s u : State), u = s.elapse dt → u.active = true → u.energy.mirrorSentAt + 10000000000 ≤ u.now →
    exec (.energyMirrorSend dt) s = .next (mirrorItem 2 (mirrorBytes u) { u with energy := { u.energy with mirrorSentAt := u.now } }))
  ∧ (∀ (dt : Ps) (s u : State) (b : List Byte), u = s.elapse dt → energyRun u = .follow → u.energy.mirrorIn = some b →
    u.pair.fullDue = false → exec (.energyMirrorApply dt) s = .next (countItem (applyMirror b u)))
  ∧ (∀ (dt : Ps) (s u : State), u = s.elapse dt → u.energy.mirrorIn = none → exec (.energyMirrorApply dt) s = .next u)
  )
  ∧ (
  (∀ (a : Accum) (x : Nat), (a.add x).residue < 2 ^ 32 ∧ (a.add x).count < 1000000 * 2 ^ 40 ∧ (a.add x).corrupt = a.corrupt)
  ∧ (∀ (a : Accum) (x : Nat), (a.add x).total % (1000000 * 2 ^ 40 * 2 ^ 32) = (a.total + x) % (1000000 * 2 ^ 40 * 2 ^ 32))
  ∧ (∀ (a : Accum) (x y : Nat), (a.add x).add y = a.add (x + y))
  )

/-- The commands of the coherency unit and the band-energy monitor write their tables (R318 to R320, R326, R327, R329, R331 to R333, R355). -/
def Obligations.DetectionCommandsTakeEffect : Prop :=
  (∀ (dt : Ps) (q : Packet) (s u : State) (v n : Nat), u = arrived q (s.elapse dt) → ready (s.elapse dt) q 0x0701 = true → fld q.params 0 2 = v → fld q.params 2 2 = n →
    q.params.length = 4 + 5 * n → v ≤ 16383 → 1 ≤ n → n ≤ 1024 → v + n ≤ 16384 →
    (∀ e ∈ entries q.params 4 5 n, (∀ x ∈ refChecks q.params e.1, x.1 = true) ∧ fld q.params (e.1 + 4) 1 ≤ 31) →
    executed (exec (.cohSetVertices dt q) s) q 0x0701 [] true (tableWritten 0 v n { u with detect := { u.detect with
      vertices := ((entries q.params 4 5 n).zipIdx).foldl (fun t (x : (Nat × List Byte) × Nat) =>
        tabSet (v + x.2) { ref := refOf q.params x.1.1, phasor := fld q.params (x.1.1 + 4) 1 } t) u.detect.vertices } }))
  ∧ (∀ (k v n : Nat) (u : State), badWords 3 (tableWords k v n) (tableWritten k v n u) = [])
  ∧ (∀ (dt : Ps) (q : Packet) (s u : State) (v n : Nat), u = arrived q (s.elapse dt) → ready (s.elapse dt) q 0x0702 = true → fld q.params 0 4 = v → fld q.params 4 2 = n →
    q.params.length = 6 + 17 * n → v ≤ 65535 → 1 ≤ n → n ≤ 256 → v + n ≤ 65536 →
    (∀ y ∈ (entries q.params 6 17 n).zipIdx, (∀ x ∈ edgeChecks y.1.1 y.1.2, x.1 = true)
      ∧ ∀ x ∈ edgeZoneChecks u (v + y.2) y.1.1 (edgeOf y.1.2), x.1 = true) →
    executed (exec (.cohSetEdges dt q) s) q 0x0702 [] true (tableWritten 1 v n { u with detect := { u.detect with
      edges := ((entries q.params 6 17 n).zipIdx).foldl (fun t (x : (Nat × List Byte) × Nat) => tabSet (v + x.2) (edgeOf x.1.2) t) u.detect.edges } }))
  ∧ (∀ (dt : Ps) (q : Packet) (s u : State) (z : Nat) (x : CohZone), u = arrived q (s.elapse dt) → ready (s.elapse dt) q 0x0703 = true → q.params.length = 19 →
    fld q.params 0 1 = z → (∀ c ∈ cmdCohSetZone.checks u q.params, c.1 = true) →
    x = { u.coh z with enable := decide (fld q.params 1 1 = 1), firstVertex := fld q.params 2 2, vertexCount := fld q.params 4 2, firstEdge := fld q.params 6 4, edgeCount := fld q.params 10 4, reference := if fld q.params 14 2 = 0xFFFF then none else some (fld q.params 14 2), minIsland := fld q.params 16 2, unknownOpen := (fld q.params 18 1).testBit 0, flaggedDark := (fld q.params 18 1).testBit 1 } →
    executed (exec (.cohSetZone dt q) s) q 0x0703 (be 4 (if x.enable then 32 + 3 * ((x.edgeCount + 15) / 16) else 0)) true (u.setCoh z x))
  ∧ (∀ (u : State) (q : Packet), fld q.params 0 1 ≤ 63 → fld q.params 1 1 ≤ 1 → fld q.params 2 2 + fld q.params 4 2 ≤ 16384 → fld q.params 2 2 ≤ 16383 →
    fld q.params 6 4 ≤ 65535 → fld q.params 6 4 + fld q.params 10 4 ≤ 65536 → fld q.params 14 2 = 0xFFFF → 1 ≤ fld q.params 16 2 →
    fld q.params 16 2 ≤ 16384 → fld q.params 18 1 ≤ 3 → u.detect.coh = [] → u.detect.edges = [] → ∀ c ∈ cmdCohSetZone.checks u q.params, c.1 = true)
  ∧ (∀ (dt : Ps) (q : Packet) (s u : State) (r : CohResult), u = arrived q (s.elapse dt) → ready (s.elapse dt) q 0x0704 = true → q.params.length = 6 → fld q.params 0 1 ≤ 63 →
    fld q.params 1 1 ≤ 1 → fld q.params 4 2 ≤ 1024 → (if fld q.params 1 1 = 0 then (u.coh (fld q.params 0 1)).latest else (u.coh (fld q.params 0 1)).atRaise) = some r →
    fld q.params 2 2 + fld q.params 4 2 ≤ r.labels.length → badWords 3 (tableWords 7 (fld q.params 0 1) 1) u = [] →
    executed (exec (.cohGetResult dt q) s) q 0x0704 (be 4 r.seq ++ stampBytes r.instant ++ be 2 r.lit ++ be 2 r.components ++ be 2 r.islands ++ be 2 r.islanded
      ++ be 2 r.mainLabel ++ ((r.labels.drop (fld q.params 2 2)).take (fld q.params 4 2)).flatMap fun l => be 2 l) false
        (readWords 3 (tableWords 7 (fld q.params 0 1) 1) u))
  ∧ (∀ (dt : Ps) (q : Packet) (s u : State) (r : CohResult), u = arrived q (s.elapse dt) → ready (s.elapse dt) q 0x0704 = true → q.params.length = 6 → fld q.params 0 1 ≤ 63 →
    fld q.params 1 1 ≤ 1 → fld q.params 4 2 ≤ 1024 → (if fld q.params 1 1 = 0 then (u.coh (fld q.params 0 1)).latest else (u.coh (fld q.params 0 1)).atRaise) = some r →
    fld q.params 2 2 + fld q.params 4 2 ≤ r.labels.length → badWords 3 (tableWords 7 (fld q.params 0 1) 1) u ≠ [] →
    refusedWith (exec (.cohGetResult dt q) s) q 0x0704 0x08 0xFFFF (readWords 3 (tableWords 7 (fld q.params 0 1) 1) u))
  ∧ (∀ (dt : Ps) (q : Packet) (s u : State) (z : Nat) (bands : List Band) (o : OscZone), u = arrived q (s.elapse dt) → ready (s.elapse dt) q 0x0705 = true → q.params.length = 68 →
    fld q.params 0 1 = z → z ≤ 63 → (∀ i, i < 6 → fld q.params (1 + 9 * i) 1 ≤ 1 ∧ f32Lt (fldF32 q.params (2 + 9 * i)) (fldF32 q.params (6 + 9 * i)) = true) →
    1 ≤ fld q.params 55 2 → fld q.params 55 2 ≤ 4096 → 1 ≤ fld q.params 57 2 → fld q.params 57 2 ≤ 4096 → 10 ≤ fld q.params 59 4 → fld q.params 59 4 ≤ 60000 →
    100 ≤ fld q.params 63 4 → fld q.params 63 4 ≤ 600000 → fld q.params 67 1 ≤ 15 →
    bands = (List.range 6).map (fun i => { enable := decide (fld q.params (1 + 9 * i) 1 = 1), fLo := fldF32 q.params (2 + 9 * i), fHi := fldF32 q.params (6 + 9 * i) }) →
    o = { bands := some bands, wPk := some (fld q.params 55 2), wRms := some (fld q.params 57 2), attack := fld q.params 59 4, release := fld q.params 63 4, fillLimit := fld q.params 67 1 } →
    executed (exec (.oscSetBands dt q) s) q 0x0705
      (be 1 ((List.range 6).foldl (fun n i => match bands[i]? with | some b => n + bit (bandActive (u.zone z).rate b) i | none => n) 0)) true
      (oscReset (fun g => g.zone == z) { u with detect := { u.detect with osc := tabSet z o u.detect.osc } }))
  ∧ (∀ (dt : Ps) (q : Packet) (s u : State) (v n : Nat), u = arrived q (s.elapse dt) → ready (s.elapse dt) q 0x0706 = true → fld q.params 0 2 = v → fld q.params 2 2 = n →
    q.params.length = 4 + 14 * n → v ≤ 4095 → 1 ≤ n → n ≤ 256 → v + n ≤ 4096 → (∀ e ∈ entries q.params 4 14 n, ∀ x ∈ signalChecks q.params e.1, x.1 = true) →
    executed (exec (.oscSetSignals dt q) s) q 0x0706 [] true (tableWritten 2 v n { u with detect := { u.detect with
      signals := ((entries q.params 4 14 n).zipIdx).foldl (fun t (x : (Nat × List Byte) × Nat) =>
        if fld q.params x.1.1 1 = 1 then tabSet (v + x.2) (signalOf q.params x.1.1) t else tabErase (v + x.2) t) u.detect.signals } }))
  ∧ (∀ (dt : Ps) (q : Packet) (s u : State), u = arrived q (s.elapse dt) → ready (s.elapse dt) q 0x0707 = true → q.params.length = 73 → fld q.params 0 1 ≤ 15 →
    executed (exec (.oscSetThresholds dt q) s) q 0x0707 [] true (tableWritten 3 (fld q.params 0 1) 1 { u with detect := { u.detect with
      thresholds := tabSet (fld q.params 0 1) ((List.range 18).map fun i => fldF32 q.params (1 + 4 * i)) u.detect.thresholds } }))
  ∧ (∀ (dt : Ps) (q : Packet) (s u : State) (g : Signal) (rs : List (F64 × Bool)), u = arrived q (s.elapse dt) → ready (s.elapse dt) q 0x0708 = true → q.params.length = 2 →
    fld q.params 0 2 ≤ 4095 → tabGet? (fld q.params 0 2) u.detect.signals = some g →
    rs = (List.range 18).map (fun i => bandResult (u.osc g.zone) (u.zone g.zone).rate g (i / 3) (i % 3)) →
    badWords 3 (tableWords 2 (fld q.params 0 2) 1) u = [] → executed (exec (.oscGetSignal dt q) s) q 0x0708 (be 4 g.seq ++ (rs.flatMap fun r => be 4 (f64To32 r.1).toNat)
      ++ be 4 (rs.zipIdx.foldl (fun n (x : (F64 × Bool) × Nat) => n + bit x.1.2 x.2) 0)) false (readWords 3 (tableWords 2 (fld q.params 0 2) 1) u))
  ∧ (∀ (dt : Ps) (q : Packet) (s u : State), u = arrived q (s.elapse dt) → ready (s.elapse dt) q 0x0708 = true → q.params.length = 2 →
    fld q.params 0 2 ≤ 4095 → tabGet? (fld q.params 0 2) u.detect.signals = none →
    executed (exec (.oscGetSignal dt q) s) q 0x0708 (List.replicate 80 0) false u)
  ∧ (∀ (dt : Ps) (q : Packet) (s u : State), u = arrived q (s.elapse dt) → ready (s.elapse dt) q 0x070E = true → q.params = [0] →
    executed (exec (.detectGetCounters dt q) s) q 0x070E (cntBytes (detectCounters u)) false u)
  ∧ (∀ (dt : Ps) (q : Packet) (s u : State), u = arrived q (s.elapse dt) → ready (s.elapse dt) q 0x070E = true → q.params = [1] →
    executed (exec (.detectGetCounters dt q) s) q 0x070E (cntBytes (detectCounters u)) true (clearDetect u))
  ∧ (∀ (u : State) (x : Cnt), x ∈ detectCounters (clearDetect u) → x = 0)

/-- The commands that write, acknowledge, test and read alarm definitions (R334, R339, R340, R344, R345, R353, R354). -/
def Obligations.AlarmCommandsTakeEffect : Prop :=
  (∀ (dt : Ps) (q : Packet) (s u : State), u = arrived q (s.elapse dt) → ready (s.elapse dt) q 0x0709 = true → q.params.length = 26 → fld q.params 0 2 ≤ 255 → fld q.params 2 1 ≤ 1 →
    1 ≤ fld q.params 3 1 → fld q.params 3 1 ≤ 4 → fld q.params 4 1 ≤ 63 → 1 ≤ fld q.params 5 2 → fld q.params 5 2 ≤ 1000 → 1 ≤ fld q.params 7 2 →
    fld q.params 7 2 ≤ 10000 → fld q.params 9 1 ≤ 1 → fld q.params 13 1 ≤ 3 → (∀ x ∈ sourceChecks (fld q.params 3 1) q.params 14, x.1 = true) →
    executed (exec (.alarmSet dt q) s) q 0x0709 [] true (tableWritten 4 (fld q.params 0 2) 1 (setAlarm u q.params)))
  ∧ (∀ (u : State) (p : List Byte) (d : AlmDef), fld p 2 1 = 1 → (setAlarm u p).ald (fld p 0 2) = some d →
    d.state = .arming ∧ d.count = 0 ∧ d.testEnd = none ∧ d.zone = fld p 4 1 ∧ d.pickup = fld p 5 2 ∧ d.dropout = fld p 7 2 ∧ d.latch = decide (fld p 9 1 = 1)
    ∧ d.pinMask = BitVec.ofNat 16 (fld p 10 2) ∧ d.destMask = BitVec.ofNat 8 (fld p 12 1) ∧ d.severity = fld p 13 1 ∧ d.source = sourceOf (fld p 3 1) p 14)
  ∧ (∀ (u : State) (p : List Byte), fld p 2 1 = 1 → ((setAlarm u p).ald (fld p 0 2)).isSome = true)
  ∧ (∀ (u : State) (p : List Byte), fld p 2 1 ≠ 1 → (setAlarm u p).ald (fld p 0 2) = none)
  ∧ (∀ (dt : Ps) (q : Packet) (s u : State), u = arrived q (s.elapse dt) → ready (s.elapse dt) q 0x070A = true → q.params.length = 36 → fld q.params 0 1 ≤ 7 → fld q.params 1 1 ≤ 1 →
    fld q.params 2 1 ≤ 3 → (fld q.params 3 1 = 4 ∨ fld q.params 3 1 = 6) → ipFieldOk (fld q.params 3 1 == 6) (slice q.params 10 16) = true →
    fld q.params 30 2 ≤ 4094 → fld q.params 32 1 ≤ 7 → fld q.params 33 1 ≤ 63 → 8 ≤ fld q.params 34 2 → fld q.params 34 2 ≤ 60000 →
    executed (exec (.alarmSetDest dt q) s) q 0x070A [] true { u with detect := { u.detect with dests := vset u.detect.dests (fld q.params 0 1) {
      enable := decide (fld q.params 1 1 = 1), port := fld q.params 2 1, ipv6 := decide (fld q.params 3 1 = 6), mac := fld q.params 4 6
      ip := ipOf (fld q.params 3 1 = 6) (slice q.params 10 16), srcPort := fld q.params 26 2, dstPort := fld q.params 28 2, vlan := fld q.params 30 2
      priority := fld q.params 32 1, dscp := fld q.params 33 1, repeatMax := fld q.params 34 2 } } })
  ∧ (∀ (dt : Ps) (q : Packet) (s u : State), u = arrived q (s.elapse dt) → ready (s.elapse dt) q 0x070B = true → q.params = [] →
    badWords 3 (tableWords 4 0 256) u = [] → executed (exec (.alarmGetStatus dt q) s) q 0x070B (((List.range 256).flatMap fun n => match u.ald n with
      | some d => be 1 (d.state.code + bit d.testEnd.isSome 7)
      | none => be 1 0) ++ be 2 (if u.aligning then u.detect.pins.toNat else 0xFFFF)) false (readWords 3 (tableWords 4 0 256) u))
  ∧ (∀ (dt : Ps) (q : Packet) (s u : State) (n : Nat), u = arrived q (s.elapse dt) → ready (s.elapse dt) q 0x070C = true → q.params.length = 2 → fld q.params 0 2 = n → n ≤ 255 →
    executed (exec (.alarmAck dt q) s) q 0x070C (be 2 (almAck n u).1) true (almAck n u).2)
  ∧ (∀ (dt : Ps) (q : Packet) (s u v : State) (k : Nat), u = arrived q (s.elapse dt) → ready (s.elapse dt) q 0x070C = true → q.params.length = 2 → fld q.params 0 2 = 0xFFFF →
    (k, v) = (u.detect.alarms.map (·.1)).foldl (fun (x : Nat × State) n => (x.1 + (almAck n x.2).1, (almAck n x.2).2)) (0, u) →
    executed (exec (.alarmAck dt q) s) q 0x070C (be 2 k) true v)
  ∧ (∀ (n : Nat) (u : State), (∀ d, u.ald n = some d → d.state ≠ .latched) → almAck n u = (0, u))
  ∧ (∀ (dt : Ps) (q : Packet) (s u : State) (n ms : Nat) (d : AlmDef), u = arrived q (s.elapse dt) → ready (s.elapse dt) q 0x070D = true → q.params.length = 4 → fld q.params 0 2 = n → n ≤ 255 →
    u.ald n = some d → d.state ≠ .disabled → fld q.params 2 2 = ms → 1 ≤ ms → ms ≤ 60000 → executed (exec (.alarmTest dt q) s) q 0x070D [] true (testStart n ms u))
  ∧ (∀ (dt : Ps) (q : Packet) (s u : State) (n : Nat) (d : AlmDef), u = arrived q (s.elapse dt) → ready (s.elapse dt) q 0x070D = true → q.params.length = 4 → fld q.params 0 2 = n → n ≤ 255 →
    u.ald n = some d → d.state ≠ .disabled → fld q.params 2 2 = 0 → executed (exec (.alarmTest dt q) s) q 0x070D [] true (testStop n u))
  ∧ (∀ (dt : Ps) (q : Packet) (s u : State), u = arrived q (s.elapse dt) → ready (s.elapse dt) q 0x070D = true → q.params.length = 4 →
    (∀ d, u.ald (fld q.params 0 2) = some d → d.state = .disabled) → refusedWith (exec (.alarmTest dt q) s) q 0x070D 0x03 0 u)

/-- The states of an alarm definition move on a raw result as R338 and R339 say: PICKUP counts up to its length and falls back on any other
result; RAISED leaves only on NO; DROPOUT counts NOs, holds on UNDECIDED and returns on YES; a definition that is cleared goes to LATCHED
with LATCH on and to IDLE otherwise; ALARM_ACK moves LATCHED to IDLE and nothing else. The count is the one that the table of R338 gives in
every row. -/
def Obligations.AlarmQualificationMoves : Prop :=
  (∀ (d : AlmDef), d.state = .arming → almNext d .no = (.idle, 0) ∧ almNext d .undecided = (.arming, 0))
  ∧ (∀ (d : AlmDef) (r : Raw), d.state = .idle → r ≠ .yes → almNext d r = (.idle, 0))
  ∧ (∀ (d : AlmDef), (d.state = .arming ∨ d.state = .idle) → d.pickup = 1 → almNext d .yes = (.raised, 1))
  ∧ (∀ (d : AlmDef), (d.state = .arming ∨ d.state = .idle) → d.pickup ≠ 1 → almNext d .yes = (.pickup, 1))
  ∧ (∀ (d : AlmDef) (r : Raw), d.state = .pickup → r ≠ .yes → almNext d r = (.idle, 0))
  ∧ (∀ (d : AlmDef), d.state = .pickup → d.count + 1 = d.pickup → almNext d .yes = (.raised, d.count + 1))
  ∧ (∀ (d : AlmDef), d.state = .pickup → d.count + 1 ≠ d.pickup → almNext d .yes = (.pickup, d.count + 1))
  ∧ (∀ (d : AlmDef) (r : Raw), d.state = .raised → r ≠ .no → almNext d r = (.raised, 0))
  ∧ (∀ (d : AlmDef), d.state = .raised → d.dropout ≠ 1 → almNext d .no = (.dropout, 1))
  ∧ (∀ (d : AlmDef), d.state = .raised → d.dropout = 1 → almNext d .no = (if d.latch then .latched else .idle, 1))
  ∧ (∀ (d : AlmDef), d.state = .dropout → d.count + 1 ≠ d.dropout → almNext d .no = (.dropout, d.count + 1))
  ∧ (∀ (n : Nat) (u : State) (d : AlmDef), u.ald n = some d → n ≤ 255 → d.state = .latched →
    ∃ e, (almAck n u).2.ald n = some e ∧ e.state = .idle ∧ (almAck n u).1 = 1)
  ∧ (∀ (n : Nat) (u : State) (d : AlmDef), u.ald n = some d → d.state ≠ .latched → almAck n u = (0, u))
  ∧ (∀ (d : AlmDef), d.state = .dropout → almNext d .undecided = (.dropout, d.count) ∧ almNext d .yes = (.raised, 0))
  ∧ (∀ (d : AlmDef), d.state = .dropout → d.count + 1 = d.dropout → almNext d .no = (if d.latch then .latched else .idle, d.count + 1))
  ∧ (∀ (d : AlmDef) (r : Raw), d.state = .latched → almNext d r = (if r = .yes then .raised else .latched, 0))
  ∧ (∀ (n : Nat) (raw : Raw) (tick : Stamp) (seq : Nat) (detail : List Byte) (u : State) (d : AlmDef), u.ald n = some d → n ≤ 255 → d.state ≠ .disabled →
    u.aligning = true → (u.zone d.zone).ticking = true → ∃ e, (almDecide n raw tick seq detail u).ald n = some e ∧ e.state = (almNext d raw).1 ∧ e.count = (almNext d raw).2
      ∧ e.lastTick = some (tick, seq, detail)
      ∧ e.stateNo = d.stateNo + (if (almMove d (almNext d raw).1).isSome then 1 else 0))

/-- The events of the detection units: COHERENCY_DONE, a raised alarm of a tick's deadline, BAND_SETTLE_EXPIRY, the end of a test, and
ALARM_REPEAT, which sends a definition's repeat where this device owns it (R324, R326, R330, R333, R343, R344, R350). -/
def Obligations.DetectionEventsTakeEffect : Prop :=
  (∀ (dt : Ps) (s u : State) (c : Sealed) (due : Ps), u = cohRead (s.elapse dt) → u.align.coh = some (c, due) → due ≤ u.now → exec (.coherencyDone dt) s = .next (cohDone (asRead u c) u))
  ∧ (∀ (dt : Ps) (s u : State) (c : Sealed) (due : Ps), u = cohRead (s.elapse dt) → u.align.coh = some (c, due) → u.now < due → exec (.coherencyDone dt) s = .next u)
  ∧ (∀ (c : Sealed) (u : State), (∀ x ∈ u.detect.alarms, x.2.zone ≠ c.zone) → u.align.cohQueue = [] → c.zone ≤ 63 →
    ((cohDone c u).coh c.zone).latest = some (cohEval (u.cohInputOf c) c) ∧ ((cohDone c u).coh c.zone).cEvals = inc (u.coh c.zone).cEvals
    ∧ (cohDone c u).align.coh = none)
  ∧ (∀ (dt : Ps) (s u : State) (c : Sealed) (due : Ps), u = bandRead (s.elapse dt) → u.align.band = some (c, due) → due ≤ u.now → exec (.bandMonitorDone dt) s = .next (bandDone (asRead u c) u))
  ∧ (∀ (c : Sealed) (u : State) (n : Nat) (g : Signal), (∀ x ∈ u.detect.alarms, x.2.zone ≠ c.zone) → tabGet? n u.detect.signals = some g → g.zone = c.zone →
    tabGet? n (bandDone c u).detect.signals = some (signalTick (u.osc c.zone) c.rate c g).1)
  ∧ (∀ (dt : Ps) (s u : State) (due : List (Ps × BitVec 16)) (x : Ps × BitVec 16), u = s.elapse dt → due = u.detect.pinQueue.filter (fun x => decide (x.1 ≤ u.now)) →
    due.getLast? = some x → exec (.almPinUpdate dt) s
      = .next { u with detect := { u.detect with pins := x.2, pinQueue := u.detect.pinQueue.drop due.length } })
  ∧ (∀ (dt : Ps) (s u : State) (n : Nat) (d : AlmDef) (e : AlmEvent) (b : Ps), u = s.elapse dt → u.ald n = some d → d.event = some (e, b) → alarmsOwned u b = false →
    exec (.alarmRepeat dt n) s = .next (u.setAld n { d with nextRepeat := d.nextRepeat.map fun (x : Nat × Nat × Ps) =>
      if x.2.2 ≤ u.now then (x.1, x.2.1 + 1, x.2.2 + min (2 ^ x.2.1) (vget {} u.detect.dests x.1).repeatMax * 1000000000) else x }))
  ∧ (∀ (dt : Ps) (s u v : State) (n : Nat) (d : AlmDef) (e : AlmEvent) (b : Ps), u = s.elapse dt → u.ald n = some d → d.event = some (e, b) → alarmsOwned u b = true →
    v = u.setAld n { d with nextRepeat := d.nextRepeat.map fun (x : Nat × Nat × Ps) =>
      if x.2.2 ≤ u.now then (x.1, x.2.1 + 1, x.2.2 + min (2 ^ x.2.1) (vget {} u.detect.dests x.1).repeatMax * 1000000000) else x } →
    exec (.alarmRepeat dt n) s = .next ((d.nextRepeat.filter fun (x : Nat × Nat × Ps) => decide (x.2.2 ≤ u.now)).foldl
      (fun t x => sendAlarm n x.1 true (alarmPayload t n d e 4 d.testEnd.isSome x.2.1) t) v))
  ∧ (∀ (dt : Ps) (s u : State) (n : Nat), u = s.elapse dt → ((u.ald n).bind fun d => d.event) = none → exec (.alarmRepeat dt n) s = .next u)
  ∧ (∀ (dt : Ps) (s u : State) (n : Nat) (d : AlmDef) (a : Ps), u = s.elapse dt → u.ald n = some d → d.testEnd = some a → a ≤ u.now →
    exec (.alarmTestEnd dt n) s = .next (testStop n u))
  ∧ (∀ (n : Nat) (u : State) (d : AlmDef), u.ald n = some d → d.testEnd.isSome = true → d.state.isRaised = true →
    testStop n u = updatePins (u.setAld n { d with testEnd := none }))

/-- The commands of the kernels: the catalogue, parameter tables by chunks, flows, results, status and counters (R360, R363, R374 to R380, R383
to R385). A chunk waits until the one whose LAST is 1, which makes the table. -/
def Obligations.KernelCommandsTakeEffect : Prop :=
  (∀ (dt : Ps) (q : Packet) (s u : State), u = arrived q (s.elapse dt) → ready (s.elapse dt) q 0x0710 = true → q.params = [] →
    executed (exec (.kernelGetCatalogue dt q) s) q 0x0710 (be 4 u.catVer ++ be 1 24 ++ catalogue.zipIdx.flatMap fun (x, i) =>
      be 1 (i + 1) ++ be 1 x.maxParts ++ be 1 x.scalars.length ++ [Config.stateFormula (i + 1)]) false u)
  ∧ (∀ (dt : Ps) (q : Packet) (s u : State) (n : Nat), u = arrived q (s.elapse dt) → ready (s.elapse dt) q 0x0711 = true → 8 ≤ q.params.length →
    q.params.length = 8 + fld q.params 5 2 → fld q.params 0 1 = n → fld q.params 1 4 + fld q.params 5 2 ≤ 4194304 → 1 ≤ fld q.params 5 2 →
    fld q.params 5 2 ≤ 1024 → fld q.params 7 1 = 0 →
    executed (exec (.kernelSetParams dt q) s) q 0x0711 [] true { u with kernel := { u.kernel with
      chunks := tabSet n (putChunk (tabGet [] n u.kernel.chunks) (fld q.params 1 4) (q.params.drop 8)) u.kernel.chunks } })
  ∧ (∀ (dt : Ps) (q : Packet) (s u v : State) (n : Nat) (bytes : List Byte) (t : ParamTable), u = arrived q (s.elapse dt) → ready (s.elapse dt) q 0x0711 = true →
    8 ≤ q.params.length → q.params.length = 8 + fld q.params 5 2 → fld q.params 0 1 = n → fld q.params 1 4 + fld q.params 5 2 ≤ 4194304 →
    1 ≤ fld q.params 5 2 → fld q.params 5 2 ≤ 1024 → fld q.params 7 1 = 1 →
    bytes = putChunk (tabGet [] n u.kernel.chunks) (fld q.params 1 4) (q.params.drop 8) → parseTable bytes = some t → tableOk t = true →
    (∀ x, x ∈ u.kernel.flows → x.2.enable = true → x.2.table = n → x.2.kernel = t.kernel) →
    (tabSet n t u.kernel.tables).foldl (fun m x => m + x.2.bytes.length) 0 ≤ 268435456 →
    engineFits u.zone u.kernel.flows (tabSet n t u.kernel.tables) = true →
    v = dramWritten (u.region 0 + Config.tableOffset n % 268435456) bytes.length { u with
      kernel := { u.kernel with
        tables := tabSet n t u.kernel.tables, chunks := tabErase n u.kernel.chunks,
        flows := tabMap (fun _ (f : Flow) => if f.table = n then { f with stateReset := true } else f) u.kernel.flows },
      host := { u.host with
        settings := recordSetting { key := (0x0711, [n]), opcode := 0x0711, params := be 1 n ++ bytes } u.host.settings } } →
    executed (exec (.kernelSetParams dt q) s) q 0x0711 (be 4 bytes.length) true v
    ∧ ∀ t, exec (.kernelSetParams dt q) s = .next t → t.host.settings = v.host.settings)
  ∧ (∀ (dt : Ps) (q : Packet) (s u : State) (bytes : List Byte), u = arrived q (s.elapse dt) → ready (s.elapse dt) q 0x0711 = true → 8 ≤ q.params.length →
    q.params.length = 8 + fld q.params 5 2 → fld q.params 1 4 + fld q.params 5 2 ≤ 4194304 → 1 ≤ fld q.params 5 2 → fld q.params 5 2 ≤ 1024 →
    fld q.params 7 1 = 1 → bytes = putChunk (tabGet [] (fld q.params 0 1) u.kernel.chunks) (fld q.params 1 4) (q.params.drop 8) →
    (parseTable bytes = none ∨ ∃ t, parseTable bytes = some t ∧ tableOk t = false) →
    refusedWith (exec (.kernelSetParams dt q) s) q 0x0711 0x03 8 u)
  ∧ (∀ (dt : Ps) (q : Packet) (s u : State) (n : Nat) (f : Flow) (t : ParamTable) (x : KernSpec), u = arrived q (s.elapse dt) → ready (s.elapse dt) q 0x0712 = true →
    q.params.length = 7 → fld q.params 0 1 = n → fld q.params 1 1 ≤ 1 → fld q.params 2 1 ≤ 63 → 1 ≤ fld q.params 3 1 → fld q.params 3 1 ≤ 24 →
    tabGet? (fld q.params 4 1) u.kernel.tables = some t → t.kernel = fld q.params 3 1 → kernSpec t.kernel = some x →
    1 ≤ fld q.params 5 1 → fld q.params 5 1 ≤ x.maxParts →
    (fld q.params 6 1 = 0xFF ∨ (fld q.params 6 1 < n ∧ ∃ a, tabGet? (fld q.params 6 1) u.kernel.flows = some a ∧ a.zone = fld q.params 2 1)) →
    f = { u.flow n with
      enable := decide (fld q.params 1 1 = 1), zone := fld q.params 2 1, kernel := t.kernel, table := fld q.params 4 1, parts := fld q.params 5 1
      after := if fld q.params 6 1 = 0xFF then none else some (fld q.params 6 1), stateReset := true } →
    queueSum u.zone (tabSet n f u.kernel.flows) ≤ 4096 → engineFits u.zone (tabSet n f u.kernel.flows) u.kernel.tables = true →
    executed (exec (.kernelSetFlow dt q) s) q 0x0712 (be 4 ((partCosts t (fld q.params 5 1)).foldl max 0) ++ be 4 (tableState t)) true
      (tableWritten 5 n 1 { u with kernel := { u.kernel with flows := tabSet n f u.kernel.flows } }))
  ∧ (∀ (dt : Ps) (q : Packet) (s u : State), u = arrived q (s.elapse dt) → ready (s.elapse dt) q 0x0712 = true →
    q.params.length = 7 → fld q.params 1 1 ≤ 1 → fld q.params 2 1 ≤ 63 → 1 ≤ fld q.params 3 1 → fld q.params 3 1 ≤ 24 →
    (∀ t, tabGet? (fld q.params 4 1) u.kernel.tables = some t → t.kernel ≠ fld q.params 3 1) →
    refusedWith (exec (.kernelSetFlow dt q) s) q 0x0712 0x03 4 u)
  ∧ (∀ (dt : Ps) (q : Packet) (s u : State), u = arrived q (s.elapse dt) → ready (s.elapse dt) q 0x0712 = true → q.params.length = 7 →
    (∀ x, x ∈ flowChecks u q.params → x.1 = true) →
    4096 < queueSum u.zone (tabSet (fld q.params 0 1)
      { flowOf q.params with ring := (u.flow (fld q.params 0 1)).ring, state := (u.flow (fld q.params 0 1)).state, copy := (u.flow (fld q.params 0 1)).copy } u.kernel.flows) →
    refusedWith (exec (.kernelSetFlow dt q) s) q 0x0712 0x05 0xFFFF u)
  ∧ (∀ (dt : Ps) (q : Packet) (s u : State) (f : Flow) (t : ParamTable), u = arrived q (s.elapse dt) → ready (s.elapse dt) q 0x0713 = true → q.params.length = 1 →
    f = u.flow (fld q.params 0 1) → tabGet? f.table u.kernel.tables = some t → t.kernel = f.kernel →
    badWords 3 (tableWords 5 (fld q.params 0 1) 1) u = [] → executed (exec (.kernelGetFlow dt q) s) q 0x0713 (be 1 (bit f.enable 0) ++ be 1 f.zone ++ be 1 f.kernel ++ be 1 f.table ++ be 1 f.parts
      ++ be 1 (f.after.getD 0xFF) ++ (List.range 16).flatMap fun i => be 4 ((partCosts t f.parts).getD i 0)) false
      (readWords 3 (tableWords 5 (fld q.params 0 1) 1) u))
  ∧ (∀ (dt : Ps) (q : Packet) (s u : State) (f : Flow), u = arrived q (s.elapse dt) → ready (s.elapse dt) q 0x0713 = true → q.params.length = 1 →
    f = u.flow (fld q.params 0 1) → (∀ t, tabGet? f.table u.kernel.tables = some t → t.kernel ≠ f.kernel) →
    badWords 3 (tableWords 5 (fld q.params 0 1) 1) u = [] → executed (exec (.kernelGetFlow dt q) s) q 0x0713 (be 1 (bit f.enable 0) ++ be 1 f.zone ++ be 1 f.kernel ++ be 1 f.table ++ be 1 f.parts
      ++ be 1 (f.after.getD 0xFF) ++ List.replicate 64 0) false (readWords 3 (tableWords 5 (fld q.params 0 1) 1) u))
  ∧ (∀ (dt : Ps) (q : Packet) (s u : State) (r : ResultSlot), u = arrived q (s.elapse dt) → ready (s.elapse dt) q 0x0714 = true → q.params.length = 11 →
    tabGet? (fld q.params 1 4 % 4) (u.flow (fld q.params 0 1)).ring = some r → r.seq = fld q.params 1 4 → fld q.params 9 2 ≤ 1024 →
    fld q.params 5 4 + fld q.params 9 2 ≤ r.body.length →
    executed (exec (.kernelReadResult dt q) s) q 0x0714
      (resultHeader (fld q.params 0 1) r ++ slice r.body (fld q.params 5 4) (fld q.params 9 2)) false u)
  ∧ (∀ (dt : Ps) (q : Packet) (s u : State), u = arrived q (s.elapse dt) → ready (s.elapse dt) q 0x0714 = true → q.params.length = 11 → fld q.params 9 2 ≤ 1024 →
    (∀ r, tabGet? (fld q.params 1 4 % 4) (u.flow (fld q.params 0 1)).ring = some r → r.seq ≠ fld q.params 1 4) →
    refusedWith (exec (.kernelReadResult dt q) s) q 0x0714 0x03 1 u)
  ∧ (∀ (dt : Ps) (q : Packet) (s u : State), u = arrived q (s.elapse dt) → ready (s.elapse dt) q 0x0715 = true → q.params = [] →
    executed (exec (.kernelGetStatus dt q) s) q 0x0715 (be 1 (enginesInService u) ++ be 4 (busyPpm u) ++ be 2 u.kernel.peakQueue
      ++ be 2 u.kernel.peakRob ++ (List.range 64).flatMap fun z =>
        be 2 ((u.zone z).uses.headD 0) ++ be 2 ((u.zone z).uses.foldl max 0)
          ++ be 2 ((u.zone z).uses.foldl (· + ·) 0 / max 1 (u.zone z).uses.length) ++ be 4 (u.zone z).cOverruns) false
      { u with kernel := { u.kernel with peakQueue := u.kernel.queue.length, peakRob := u.kernel.rob.length } })
  ∧ (∀ (dt : Ps) (q : Packet) (s u : State) (k : KernelSt), u = arrived q (s.elapse dt) → ready (s.elapse dt) q 0x0716 = true → k = u.kernel → q.params = [0] →
    executed (exec (.kernelGetCounters dt q) s) q 0x0716 (cntBytes [k.cQueued, k.cDispatched, k.cPosted, k.cRemoved, k.cDiscarded, k.cRetries,
      k.cRetriesPosted, k.cStalls, k.cNotPosted]) false u)
  ∧ (∀ (dt : Ps) (q : Packet) (s u : State) (k : KernelSt), u = arrived q (s.elapse dt) → ready (s.elapse dt) q 0x0716 = true → k = u.kernel → q.params = [1] →
    executed (exec (.kernelGetCounters dt q) s) q 0x0716 (cntBytes [k.cQueued, k.cDispatched, k.cPosted, k.cRemoved, k.cDiscarded, k.cRetries,
      k.cRetriesPosted, k.cStalls, k.cNotPosted]) true
      { u with kernel := { k with
        cQueued := 0, cDispatched := 0, cPosted := 0, cRemoved := 0, cDiscarded := 0, cRetries := 0, cRetriesPosted := 0, cStalls := 0
        cNotPosted := 0 } })

/-- ITEM_DISPATCH, ITEM_ARRIVAL, ENGINE_RELEASE, RELEASE_FENCE_DONE and ITEM_POSTED each answer a next state with their own effect: an item goes
to the lowest-numbered engine that waits, a retry before any queued item; a full reorder buffer counts a stall; the item arrives, its engine
reads what it may read; the engine writes its result and issues the release, the write buffer drains, and the item is posted in the order of
its flow (R364 to R369, R372, R374, R385). A dispatch, a fence and a posting come after the budget deadlines of their own edge. The tick
budget: items still left at its deadline are removed or discarded, the tick is INCOMPLETE and the overrun counts; a posted flow's result
slot holds what its parts posted, and an output is posted only where every part posted it (R40, R369, R371, R378, R383). -/
def Obligations.ItemsAndBudgetFollowTheirRules : Prop :=
  (
  (∀ (dt : Ps) (s u : State) (e n : Nat) (i : Item), u = dispatchRead (deadlinesCome (s.elapse dt)) → u.aligning = true → retryPick u = none →
    (waitingEngines u).head? = some e → firstItem id (u.kernel.queue.filter (dispatchable u)) = some i → u.kernel.rob.length < 1024 →
    n = u.kernel.robNext → i.retry = false →
    ∃ t, exec (.itemDispatch dt) s = .next t ∧ t.engine e = { u.engine e with
        state := .running, entry := some (n, false), busySince := u.now, descriptor := i.descriptor u, input := none, l1 := [], ldm := [], ldmDraw := u.drawn }
      ∧ t.drawn = u.drawn + 1 ∧ t.kernel.queue = u.kernel.queue.erase i ∧ t.kernel.robNext = n + 1
      ∧ t.kernel.rob = tabSet n { item := i, state := .running, outs := none, releasedAt := 0, discard := false, notOn := none } u.kernel.rob
      ∧ t.kernel.cDispatched = inc u.kernel.cDispatched ∧ t.kernel.cRetries = u.kernel.cRetries
      ∧ t.kernel.flows = (if i.part = 0 then tabMod {} i.flow (fun (f : Flow) => { f with ring := tabErase (i.seq % 4) f.ring }) u.kernel.flows
          else u.kernel.flows))
  ∧ (∀ (dt : Ps) (s u : State) (e n : Nat) (x : RobEntry), u = dispatchRead (deadlinesCome (s.elapse dt)) → u.aligning = true →
    retryPick u = some (n, x, e) →
    ∃ t, exec (.itemDispatch dt) s = .next t ∧ t.kernel.queue = u.kernel.queue ∧ t.kernel.cRetries = inc u.kernel.cRetries
      ∧ t.kernel.rob = tabSet n { x with state := .running, item := { x.item with retry := true } } u.kernel.rob
      ∧ t.kernel.cDispatched = inc u.kernel.cDispatched)
  ∧ (∀ (s : State) (e n : Nat) (x : RobEntry), retryPick s = some (n, x, e) →
    x.state = .aborted ∧ (n, x) ∈ s.kernel.rob ∧ x.notOn ≠ some e ∧ (s.engine e).state = .waiting ∧ e < 12
      ∧ (∀ e', e' < e → (s.engine e').state = .waiting → x.notOn = some e'))
  ∧ (∀ (dt : Ps) (s u : State), u = dispatchRead (deadlinesCome (s.elapse dt)) → u.aligning = true → retryPick u = none →
    (waitingEngines u).head?.isSome = true → (firstItem id (u.kernel.queue.filter (dispatchable u))).isSome = true → 1024 ≤ u.kernel.rob.length →
    exec (.itemDispatch dt) s = .next { u with kernel := { u.kernel with cStalls := inc u.kernel.cStalls } })
  ∧ (∀ (dt : Ps) (s u : State), u = dispatchRead (deadlinesCome (s.elapse dt)) → u.aligning = false → exec (.itemDispatch dt) s = .next u)
  ∧ (∀ (s : State) (i x : Item), dispatchable s i = true → x ∈ s.kernel.queue → x.flow = i.flow →
    0 ≤ stampDiff x.instant i.instant ∧ (stampDiff x.instant i.instant = 0 → i.part ≤ x.part))
  ∧ (∀ (dt : Ps) (s u : State) (e n : Nat), u = arrivalRead e (s.elapse dt) → (u.engine e).state = .running → (u.engine e).entry = some (n, false) →
    (u.engine e).busySince + 18000 ≤ u.now →
    exec (.itemArrival dt e) s = .next (u.setEngine e { u.engine e with
      entry := some (n, true), input := (tabGet? n u.kernel.rob).map (fun r => kernelInput u r.item) }))
  ∧ (∀ (dt : Ps) (s u : State) (e n : Nat), u = arrivalRead e (s.elapse dt) → (u.engine e).state = .running → (u.engine e).entry = some (n, false) →
    u.now < (u.engine e).busySince + 18000 → exec (.itemArrival dt e) s = .next u)
  ∧ (∀ (dt : Ps) (s u : State) (e n : Nat) (accs : List EngineAcc) (r : RobEntry), u = releaseRead e (s.elapse dt) → e < 12 →
    (u.engine e).state = .running → (u.engine e).entry = some (n, true) → tabGet? n u.kernel.rob = some r → r.discard = false →
    ∃ t, exec (.engineRelease dt e accs) s = .next t ∧ t.kernel.rob = tabSet n { r with
        state := .released, outs := (u.engine e).input.map (kernelResult r.item), releasedAt := u.now } u.kernel.rob
      ∧ (t.engine e).state = .waiting ∧ (t.engine e).entry = none ∧ (t.engine e).input = none
      ∧ ((u.engine e).wbuf.length ≤ 8 → (t.engine e).wbuf.length ≤ 8)
      ∧ t.kernel.queue = u.kernel.queue ∧ t.kernel.posts = u.kernel.posts ∧ t.kernel.flows = u.kernel.flows)
  ∧ (∀ (s : State) (i : Item) (line evict : Nat) (l1 : List (Nat × List Byte)), l1.length ≤ 512 → evict < 512 → (l1Load s i line evict l1).length ≤ 512)
  ∧ (∀ (dt : Ps) (s u : State) (e n : Nat) (accs : List EngineAcc) (r : RobEntry), u = releaseRead e (s.elapse dt) →
    (u.engine e).state = .running → (u.engine e).entry = some (n, true) → tabGet? n u.kernel.rob = some r → r.discard = true →
    ∃ t, exec (.engineRelease dt e accs) s = .next t ∧ t.kernel.rob = tabErase n u.kernel.rob
      ∧ t.kernel.cDiscarded = inc u.kernel.cDiscarded ∧ t.kernel.cPosted = u.kernel.cPosted ∧ t.kernel.posts = u.kernel.posts)
  ∧ (∀ (dt : Ps) (s u : State) (n : Nat) (r : RobEntry), u = robRead (fun m _ => m = n) (deadlinesCome (s.elapse dt)) →
    tabGet? n u.kernel.rob = some r → r.state = .released →
    ∃ t, exec (.releaseFenceDone dt n) s = .next t ∧ t.kernel.rob = tabSet n { r with state := .fenced } u.kernel.rob
      ∧ t.kernel.queue = u.kernel.queue ∧ t.kernel.posts = u.kernel.posts ∧ t.kernel.cPosted = u.kernel.cPosted
      ∧ ((∀ e, (u.engine e).wbuf.length ≤ 8) → ∀ e x w, x ∈ (t.engine e).wbuf → w ∈ x.2 → w.entry ≠ n))
  ∧ (∀ (dt : Ps) (s u : State) (n : Nat), u = robRead (fun m _ => m = n) (deadlinesCome (s.elapse dt)) →
    (∀ r, tabGet? n u.kernel.rob = some r → r.state ≠ .released) → exec (.releaseFenceDone dt n) s = .next u)
  ∧ (∀ (dt : Ps) (s u : State) (flow n : Nat) (r : RobEntry), u = robRead (fun _ r => r.item.flow = flow) (deadlinesCome (s.elapse dt)) →
    firstEntry flow u.kernel.rob = some (n, r) → r.state = .fenced → (∀ x ∈ u.kernel.queue, earlierItem x r.item = false) →
    r.item.part + 1 ≠ r.item.parts →
    ∃ t, exec (.itemPosted dt flow) s = .next t ∧ t.kernel.rob = tabErase n u.kernel.rob ∧ t.kernel.cPosted = inc u.kernel.cPosted
      ∧ t.kernel.cRetriesPosted = (if r.item.retry then inc u.kernel.cRetriesPosted else u.kernel.cRetriesPosted)
      ∧ t.kernel.cNotPosted = u.kernel.cNotPosted ∧ t.detect = u.detect
      ∧ (t.flow flow).copy = tabSet r.item.part (!tabGet false r.item.part (u.flow flow).copy) (u.flow flow).copy)
  ∧ (∀ (dt : Ps) (s u : State) (flow n : Nat) (r : RobEntry) (o : KernelOut), u = robRead (fun _ r => r.item.flow = flow) (deadlinesCome (s.elapse dt)) →
    firstEntry flow u.kernel.rob = some (n, r) → r.state = .fenced → (∀ x ∈ u.kernel.queue, earlierItem x r.item = false) →
    r.item.part = 0 → r.item.parts = 1 →
    (∀ p, p ∈ u.kernel.posts → (p.zone ≠ r.item.zone ∨ p.flow ≠ flow) ∨ p.tick ≠ r.item.tick) → r.outs = some o →
    (∀ t, tabGet? r.item.table u.kernel.tables = some t → t.failed = false) →
    ∃ t, exec (.itemPosted dt flow) s = .next t ∧ t.kernel.rob = tabErase n u.kernel.rob ∧ t.kernel.cPosted = inc u.kernel.cPosted
      ∧ tabGet? (r.item.seq % 4) (t.flow flow).ring = some {
          seq := r.item.seq, tick := r.item.instant, kernel := r.item.kernel, parts := 1, posted := o.posted &&& kernelPosts r.item.kernel
          outs := (List.range 4).map fun k => o.out.getD k 0, body := padTo (16 * r.item.entries.length) o.body })
  ∧ (∀ (dt : Ps) (s u : State) (flow n : Nat) (r : RobEntry), u = robRead (fun _ r => r.item.flow = flow) (deadlinesCome (s.elapse dt)) →
    firstEntry flow u.kernel.rob = some (n, r) → (r.state ≠ .fenced ∨ ∃ x ∈ u.kernel.queue, earlierItem x r.item = true) →
    exec (.itemPosted dt flow) s = .next u)
  )
  ∧ (
  (∀ (z tick : Nat) (s : State) (a : Area), z < 64 → s.area z tick = some a → a.deadlineDone = false → itemsLeft z tick s = true →
    ∃ t, budgetDeadline z tick s = t ∧ (t.zone z).cOverruns = inc (s.zone z).cOverruns
      ∧ (∀ i, i ∈ t.kernel.queue → i.zone ≠ z ∨ i.tick ≠ tick)
      ∧ (∀ n r, (n, r) ∈ t.kernel.rob → (r.item.zone ≠ z ∨ r.item.tick ≠ tick) ∨ (r.state = .running ∧ r.discard = true)))
  ∧ (∀ (kernel : Nat) (ps : List KernelOut) (o : Nat), o < 4 → (combineParts kernel ps).1.getLsbD o = true → ∀ p, p ∈ ps → p.posted.getLsbD o = true)
  ∧ (∀ (i : Item) (ps : List KernelOut) (s : State), (∀ t, tabGet? i.table s.kernel.tables = some t → t.failed = false) →
    tabGet? (i.seq % 4) ((flowPost i ps s).flow i.flow).ring = some {
      seq := i.seq, tick := i.instant, kernel := i.kernel, parts := i.parts, posted := (combineParts i.kernel ps).1
      outs := (combineParts i.kernel ps).2, body := ps.flatMap (·.body) })
  ∧ (∀ (i : Item) (ps : List KernelOut) (s : State) (t : ParamTable), tabGet? i.table s.kernel.tables = some t → t.failed = true →
    ∃ r, tabGet? (i.seq % 4) ((flowPost i ps s).flow i.flow).ring = some r ∧ r.posted = 0#4)
  )

/-- The egress commands: a session is enabled only when disabled and when its bounds fit, is disabled at any time, a port's settings, and what
the reading commands answer (R386 to R388, R396, R397, R404, R406, R414, R415). -/
def Obligations.EgressCommandsTakeEffect : Prop :=
  (∀ (dt : Ps) (q : Packet) (s u : State) (n : Nat) (c : SessCfg), u = arrived q (s.elapse dt) → ready (s.elapse dt) q 0x0801 = true → q.params.length = 77 →
    fld q.params 0 1 = n → fld q.params 1 1 = 1 → c = sessCfgOf q.params → (∀ x, x ∈ sessChecks u q.params → x.1 = true) →
    (u.sess n).cfg.enable = false → sessBound u c ≤ (if c.transport = .tcp then 65535 else 65507) →
    ((c.express = false ∧ (c.timed = false ∨ c.transport = .tcp)) ∨ sessBound u c + sessOverhead u c ≤ (u.tx c.port).mtu) →
    (c.cfgType = 3 ∨ configBound c.slotCount (u.zone c.zone).slotClass c.flows.length ≤ (if c.transport = .tcp then 65535 else 65507)) →
    executed (exec (.egressSetSession dt q) s) q 0x0801 (be 4 (frameBound c.slotCount (u.zone c.zone).slotClass c.flows.length)) true
      (u.setSess n { u.sess n with
        cfg := c, state := .idle, fresh := true, changedAt := some u.now, cfgCnt := (u.sess n).cfgCnt + 1, layout := none, content := none }))
  ∧ (∀ (dt : Ps) (q : Packet) (s u : State), u = arrived q (s.elapse dt) → ready (s.elapse dt) q 0x0801 = true → q.params.length = 77 → fld q.params 1 1 = 1 →
    (∀ x, x ∈ sessChecks u q.params → x.1 = true) → (u.sess (fld q.params 0 1)).cfg.enable = true →
    refusedWith (exec (.egressSetSession dt q) s) q 0x0801 0x01 0xFFFF u)
  ∧ (∀ (dt : Ps) (q : Packet) (s u : State) (c : SessCfg), u = arrived q (s.elapse dt) → ready (s.elapse dt) q 0x0801 = true → q.params.length = 77 → fld q.params 1 1 = 1 →
    (∀ x, x ∈ sessChecks u q.params → x.1 = true) → c = sessCfgOf q.params → (u.sess (fld q.params 0 1)).cfg.enable = false →
    (if c.transport = .tcp then 65535 else 65507) < sessBound u c → refusedWith (exec (.egressSetSession dt q) s) q 0x0801 0x05 0xFFFF u)
  ∧ (∀ (dt : Ps) (q : Packet) (s u v : State) (n : Nat), u = arrived q (s.elapse dt) → ready (s.elapse dt) q 0x0801 = true → q.params.length = 77 →
    fld q.params 0 1 = n → fld q.params 1 1 = 0 → v = leaveWaits n (dropTcp n false u) →
    executed (exec (.egressSetSession dt q) s) q 0x0801 (be 4 (sessBound u (u.sess n).cfg)) true (v.setSess n { v.sess n with
      cfg := { (v.sess n).cfg with enable := false }, state := .disabled, fresh := false, changedAt := some u.now, cfgCnt := (v.sess n).cfgCnt + 1 }))
  ∧ (∀ (dt : Ps) (q : Packet) (s u : State) (k : Nat) (x : TxPort), u = arrived q (s.elapse dt) → ready (s.elapse dt) q 0x0802 = true → q.params.length = 6 →
    fld q.params 0 1 = k → k ≤ 3 → 1280 ≤ fld q.params 1 2 → fld q.params 1 2 ≤ 9000 → fld q.params 3 1 = 0 → fld q.params 4 1 ≤ 1 →
    fld q.params 5 1 ≤ 1 → ((u.tx k).mtu ≤ fld q.params 1 2 ∨ mtuNeeded u k (fld q.params 1 2) = false) → x = u.tx k →
    executed (exec (.egressSetPort dt q) s) q 0x0802 (be 1 0) true (u.setTx k { x with
      mtu := fld q.params 1 2, preempt := false, pauseObey := decide (fld q.params 4 1 = 1), pfcObey := decide (fld q.params 5 1 = 1)
      active := false, verify := none }))
  ∧ (∀ (dt : Ps) (q : Packet) (s u : State) (k : Nat) (x : TxPort), u = arrived q (s.elapse dt) → ready (s.elapse dt) q 0x0802 = true → q.params.length = 6 →
    fld q.params 0 1 = k → k ≤ 3 → 1280 ≤ fld q.params 1 2 → fld q.params 1 2 ≤ 9000 → fld q.params 3 1 = 1 → fld q.params 4 1 ≤ 1 →
    fld q.params 5 1 ≤ 1 → ((u.tx k).mtu ≤ fld q.params 1 2 ∨ mtuNeeded u k (fld q.params 1 2) = false) → x = u.tx k → x.preempt = false →
    (u.port k).linkUp = true → executed (exec (.egressSetPort dt q) s) q 0x0802 (be 1 (bit x.active 0)) true ((u.setTx k { x with
      mtu := fld q.params 1 2, preempt := true, pauseObey := decide (fld q.params 4 1 = 1), pfcObey := decide (fld q.params 5 1 = 1)
      verify := some 1, verifyAt := u.now }).emit (.verify k false)))
  ∧ (∀ (dt : Ps) (q : Packet) (s u : State) (k : Nat) (x : TxPort), u = arrived q (s.elapse dt) → ready (s.elapse dt) q 0x0802 = true → q.params.length = 6 →
    fld q.params 0 1 = k → k ≤ 3 → 1280 ≤ fld q.params 1 2 → fld q.params 1 2 ≤ 9000 → fld q.params 3 1 = 1 → fld q.params 4 1 ≤ 1 →
    fld q.params 5 1 ≤ 1 → ((u.tx k).mtu ≤ fld q.params 1 2 ∨ mtuNeeded u k (fld q.params 1 2) = false) → x = u.tx k →
    (x.preempt = true ∨ (u.port k).linkUp = false) → executed (exec (.egressSetPort dt q) s) q 0x0802 (be 1 (bit x.active 0)) true (u.setTx k { x with
      mtu := fld q.params 1 2, preempt := true, pauseObey := decide (fld q.params 4 1 = 1), pfcObey := decide (fld q.params 5 1 = 1) }))
  ∧ (∀ (dt : Ps) (q : Packet) (s u : State) (k : Nat), u = arrived q (s.elapse dt) → ready (s.elapse dt) q 0x0802 = true → q.params.length = 6 → fld q.params 0 1 = k →
    k ≤ 3 → 1280 ≤ fld q.params 1 2 → fld q.params 1 2 ≤ 9000 → fld q.params 3 1 ≤ 1 → fld q.params 4 1 ≤ 1 → fld q.params 5 1 ≤ 1 →
    fld q.params 1 2 < (u.tx k).mtu → mtuNeeded u k (fld q.params 1 2) = true → refusedWith (exec (.egressSetPort dt q) s) q 0x0802 0x01 0xFFFF u)
  ∧ (∀ (dt : Ps) (q : Packet) (s u : State) (x : Session), u = arrived q (s.elapse dt) → ready (s.elapse dt) q 0x0803 = true → q.params.length = 1 →
    x = u.sess (fld q.params 0 1) → x.tcp = none →
    executed (exec (.egressGetSession dt q) s) q 0x0803 (sessCfgBytes x.cfg ++ be 1 x.state.code ++ be 4 (x.mark.getD (0, 0)).1.toNat
      ++ be 1 (x.mark.getD (0, 0)).2 ++ List.replicate 18 0) false u)
  ∧ (∀ (dt : Ps) (q : Packet) (s u : State) (x : Session) (t : SessTcp), u = arrived q (s.elapse dt) → ready (s.elapse dt) q 0x0803 = true → q.params.length = 1 →
    x = u.sess (fld q.params 0 1) → x.tcp = some t →
    executed (exec (.egressGetSession dt q) s) q 0x0803 (sessCfgBytes x.cfg ++ be 1 x.state.code ++ be 4 (x.mark.getD (0, 0)).1.toNat
      ++ be 1 (x.mark.getD (0, 0)).2 ++ (ipBytes x.cfg.ipv6 t.peerIp ++ be 2 t.peerPort)) false u)
  ∧ (∀ (dt : Ps) (q : Packet) (s u : State) (all : List Byte), u = arrived q (s.elapse dt) → ready (s.elapse dt) q 0x0804 = true → q.params.length = 7 →
    1 ≤ fld q.params 5 2 → fld q.params 5 2 ≤ 16384 → all = (sessConfigFrames u (u.sess (fld q.params 0 1)) ((u.sess (fld q.params 0 1)).cfg.cfgType == 3)).flatten →
    executed (exec (.egressGetConfig dt q) s) q 0x0804 (be 4 all.length ++ slice all (fld q.params 1 4) (fld q.params 5 2)) false u)
  ∧ (∀ (dt : Ps) (q : Packet) (s u : State), u = arrived q (s.elapse dt) → ready (s.elapse dt) q 0x0805 = true → q.params = [0] →
    executed (exec (.egressGetCounters dt q) s) q 0x0805
      (cntBytes (((List.range 256).flatMap fun n => sessCounters (u.sess n)) ++ u.egress.ports.toList.flatMap txCounters)) false u)
  ∧ (∀ (dt : Ps) (q : Packet) (s u : State), u = arrived q (s.elapse dt) → ready (s.elapse dt) q 0x0805 = true → q.params = [1] →
    executed (exec (.egressGetCounters dt q) s) q 0x0805
      (cntBytes (((List.range 256).flatMap fun n => sessCounters (u.sess n)) ++ u.egress.ports.toList.flatMap txCounters)) true (clearEgress u))
  ∧ (∀ (dt : Ps) (q : Packet) (s u : State) (n : Nat), u = arrived q (s.elapse dt) → ready (s.elapse dt) q 0x0806 = true → q.params.length = 1 → fld q.params 0 1 = n →
    (u.sess n).state = .sending → (u.sess n).cfg.transport ≠ .tcp →
    executed (exec (.egressSendCfg dt q) s) q 0x0806 [] true (sendOwnConfig n u))
  ∧ (∀ (dt : Ps) (q : Packet) (s u : State) (n : Nat), u = arrived q (s.elapse dt) → ready (s.elapse dt) q 0x0806 = true → q.params.length = 1 → fld q.params 0 1 = n →
    ((u.sess n).state ≠ .sending ∨ (u.sess n).cfg.transport = .tcp) → executed (exec (.egressSendCfg dt q) s) q 0x0806 [] true u)

/-- A session moves only between IDLE and SENDING as the condition of R387 stands. A session that can send no more leaves what it was to form;
one whose zone has only stopped ticking keeps it, so that what is assembled is still emitted. A session without a connection has none left
of it. Forming and sending: requests of the sessions that can form now, the formatter's completion, the configuration period, and TCP
delivery with its commands, its sends, its 10 s without room and its retransmission (R392, R393, R396, R398 to R400). -/
def Obligations.SessionsFollowTheirRules : Prop :=
  (
  (∀ (n : Nat) (s : State), (refreshSession n s).sess n = s.sess n
    ∨ ((s.sess n).state = .idle ∧ sendingOk s (s.sess n) = true ∧ (refreshSession n s).sess n = { s.sess n with state := .sending })
    ∨ ((s.sess n).state = .sending ∧ sendingOk s (s.sess n) = false ∧ (refreshSession n s).sess n = { s.sess n with state := .idle }))
  ∧ (∀ (n : Nat) (s : State), ((s.sess n).state = .sending ∨ (s.sess n).state = .idle) → canSend s (s.sess n) = false →
    ∀ w, w ∈ (refreshSession n s).egress.waits → n ∉ w.sessions)
  ∧ (∀ (n : Nat) (s : State), canSend s (s.sess n) = true → (refreshSession n s).egress.waits = s.egress.waits)
  ∧ (∀ (n : Nat) (reset : Bool) (s : State), ((dropTcp n reset s).sess n).tcp = none)
  ∧ (∀ (s : State) (x : Session), sendingOk s x = true ↔ x.cfg.enable = true ∧ x.fresh = false ∧ s.active = true
    ∧ (s.zone x.cfg.zone).ticking = true ∧ (x.cfg.transport = .tcp → ∃ t, x.tcp = some t ∧ t.on = true))
  )
  ∧ (
  (∀ (dt : Ps) (s u : State) (z tick rev : Nat) (w : EgressWait), u = s.elapse dt →
    u.egress.waits.find? (fun w => w.zone = z ∧ w.tick = tick ∧ w.rev = rev) = some w → u.egress.requests = [] → u.egress.forming = none →
    exec (.combinedFrameForm dt z tick rev) s = .next { u with egress := { u.egress with
      requests := (w.sessions.filter fun n => formReady u w n).foldl (fun l n =>
        insertForm { edge := u.now, session := n, zone := z, tick := tick, rev := rev } l) [] } })
  ∧ (∀ (dt : Ps) (s u : State) (z tick rev : Nat), u = s.elapse dt →
    u.egress.waits.find? (fun w => w.zone = z ∧ w.tick = tick ∧ w.rev = rev) = none → exec (.combinedFrameForm dt z tick rev) s = .next u)
  ∧ (∀ (s : State) (r : FormReq) (rest : List FormReq) (c : Sealed), s.egress.forming = none → s.egress.requests = r :: rest →
    s.sealedOf r.zone r.tick r.rev = some c → formatterTake s = { s with egress := { s.egress with
      requests := rest, forming := some (r, s.now + (48 + cdiv (combinedFrame s (s.sess r.session) c).length 32) * 1250) } })
  ∧ (∀ (dt : Ps) (s u : State) (r : FormReq) (due : Ps), u = formRead (s.elapse dt) → u.egress.forming = some (r, due) → due ≤ u.now →
    exec (.formatterDone dt) s = .next (formatDone r u))
  ∧ (∀ (dt : Ps) (s u : State), u = formRead (s.elapse dt) → (∀ r due, u.egress.forming = some (r, due) → u.now < due) →
    exec (.formatterDone dt) s = .next u)
  ∧ (∀ (dt : Ps) (s u : State) (n : Nat), u = s.elapse dt → (u.sess n).state = .sending → (u.sess n).cfg.transport ≠ .tcp →
    (u.sess n).cfg.cfgPeriod ≠ 0 → (u.sess n).cfgSentAt + (u.sess n).cfg.cfgPeriod * 1000000000000 ≤ u.now →
    exec (.cfgPeriodExpiry dt n) s = .next (sendConfig n ((u.sess n).cfg.cfgType == 3) u))
  ∧ (∀ (n : Nat) (cfg3 : Bool) (s : State), ((sendConfig n cfg3 s).sess n).cfgSentAt = s.now)
  ∧ (∀ (dt : Ps) (s u v : State) (n ip port mss i : Nat) (route : Route), u = s.elapse dt → u.active = true → (u.sess n).cfg.enable = true →
    (u.sess n).cfg.transport = .tcp → (u.sess n).tcp = none → permitted (u.sess n).cfg ip = true →
    route = sessRoute u (u.sess n).cfg ip (u.sess n).cfg.nextHop → (i, v) = u.draw →
    exec (.tcpConnect dt n ip port mss) s = .next (superSegment (u.sess n).cfg.port "TCP SYN ACK" route (u.sess n).cfg.listenPort port
      (BitVec.ofNat 32 i) 0x12 [] (v.setSess n { u.sess n with
        tcp := some { peerIp := ip, peerPort := port, mss := mss, on := false, seq := BitVec.ofNat 32 i + 1, unacked := [], window := 0
                      noRoom := some u.now, cutTo := 0 }
        sendBuf := [], bufEnds := [], cConnects := inc (u.sess n).cConnects })))
  ∧ (∀ (dt : Ps) (s u v : State) (n ip port mss i : Nat) (route : Route), u = s.elapse dt → u.active = true → (u.sess n).cfg.enable = true →
    (u.sess n).cfg.transport = .tcp → ((u.sess n).tcp.isSome = true ∨ permitted (u.sess n).cfg ip = false) →
    route = sessRoute u (u.sess n).cfg ip (u.sess n).cfg.nextHop → (i, v) = u.draw →
    exec (.tcpConnect dt n ip port mss) s = .next (superSegment (u.sess n).cfg.port "TCP RST" route (u.sess n).cfg.listenPort port
      (BitVec.ofNat 32 i) 0x14 [] v))
  ∧ (∀ (dt : Ps) (s u : State) (n cmd : Nat) (t : SessTcp) (big : Bool), u = s.elapse dt → (u.sess n).tcp = some t →
    big = decide (65535 < configBound (u.sess n).cfg.slotCount (u.zone (u.sess n).cfg.zone).slotClass (u.sess n).cfg.flows.length) →
    exec (.sessionCommandFrame dt n 1) s = .next (refreshSession n (u.setSess n { u.sess n with tcp := some { t with on := false } }))
    ∧ exec (.sessionCommandFrame dt n 2) s = .next (refreshSession n (u.setSess n { u.sess n with tcp := some { t with on := true } }))
    ∧ exec (.sessionCommandFrame dt n 3) s = .next (sessSend n (fun _ => .config n false) none (headerFrame u n (u.sess n)) u)
    ∧ exec (.sessionCommandFrame dt n 4) s = .next (sendConfig n big u) ∧ exec (.sessionCommandFrame dt n 5) s = .next (sendConfig n big u)
    ∧ exec (.sessionCommandFrame dt n 6) s = .next (sendConfig n true u)
    ∧ (cmd = 0 ∨ 6 < cmd → exec (.sessionCommandFrame dt n cmd) s = .next (u.setSess n { u.sess n with cIgnored := inc (u.sess n).cIgnored })))
  ∧ (∀ (dt : Ps) (s u : State) (n len : Nat) (t : SessTcp), u = sendBufRead n (s.elapse dt) → (u.sess n).tcp = some t → 1 ≤ len → len ≤ 262144 →
    len ≤ (u.sess n).sendBuf.length → t.unacked.length + len ≤ t.window →
    exec (.tcpSend dt n len) s = .next (queueSegments n ((u.sess n).sendBuf.take len) t.seq (t.cutTo + len) (u.setSess n { u.sess n with
      sendBuf := (u.sess n).sendBuf.drop len
      tcp := some (SessTcp.noteRoom { t with
        seq := t.seq + BitVec.ofNat 32 len, unacked := t.unacked ++ (u.sess n).sendBuf.take len, cutTo := t.cutTo + len } u.now) })))
  ∧ (∀ (t : SessTcp) (now : Ps), (t.unacked.length < t.window → (t.noteRoom now).noRoom = none)
    ∧ (t.window ≤ t.unacked.length → (t.noteRoom now).noRoom = some (t.noRoom.getD now)))
  ∧ (∀ (dt : Ps) (s u : State) (n len : Nat) (t : SessTcp), u = sendBufRead n (s.elapse dt) → (u.sess n).tcp = some t → t.window < t.unacked.length + len →
    exec (.tcpSend dt n len) s = .next u)
  ∧ (∀ (dt : Ps) (s u : State) (n : Nat) (t : SessTcp) (t0 : Ps), u = s.elapse dt → (u.sess n).tcp = some t → t.noRoom = some t0 →
    t0 + 10000000000000 ≤ u.now →
    exec (.tcpWindowTimeout dt n) s = .next (dropTcp n true (superSegment (u.sess n).cfg.port "TCP RST"
      (sessRoute u (u.sess n).cfg t.peerIp (u.sess n).cfg.nextHop) (u.sess n).cfg.listenPort t.peerPort t.seq 0x14 [] u)))
  ∧ (∀ (dt : Ps) (s u : State) (n : Nat) (t : SessTcp), u = sendBufRead n (s.elapse dt) → (u.sess n).tcp = some t → t.unacked ≠ [] →
    exec (.tcpRetransmit dt n) s = .next (queueSegments n t.unacked (t.seq - BitVec.ofNat 32 t.unacked.length) t.cutTo u))
  )

/-- The transmit ports: which frame a MAC starts, when a frame is complete, the launch decision with its late policy, pauses and their end, link
changes and the verification of preemption (R155 to R157, R349, R403 to R405, R408, R410). MKA on a port: peers heard, the hello every 2 s,
the loss of a peer after 6 s, and a SAK whose packet number starts again (R410, R565). A PDU that fails its ICV, and a port without a CAK,
change nothing. -/
def Obligations.TransmitPortsAndMkaTakeEffect : Prop :=
  (
  (∀ (dt : Ps) (s u t : State) (p : Nat) (f : TxFrame) (y : TxPort), u = txStartRead p true (s.elapse dt) → (u.tx p).expRun = none → u.wanRuns p = true →
    (u.tx p).freeAt ≤ u.now → expressHead u p (u.tx p) = some (f, y) → noSa u p f = false → (y.preRun = none ∨ ∃ r, y.preRun = some r ∧ r.cut.isSome = true) →
    t = takePn p f (u.setTx p y) →
    exec (.macTxStart dt p true) s = .next (t.modTx p fun z => { z with expRun := some {
      frame := f, done := u.now + framePs (u.port p) f, from_ := u.now + 8 * octetPs (u.port p), cut := none, wasCut := false
      protect := protectionOf t p f } }))
  ∧ (∀ (dt : Ps) (s u t : State) (p left : Nat) (f : TxFrame) (y : TxPort) (r : TxRun), u = txStartRead p true (s.elapse dt) → (u.tx p).expRun = none →
    u.wanRuns p = true → (u.tx p).freeAt ≤ u.now →
    expressHead u p (u.tx p) = some (f, y) → noSa u p f = false → y.preRun = some r → r.cut = none → (u.tx p).active = true →
    cutLeft u p f r = some left → t = takePn p f (u.setTx p { y with
        preRun := some { r with cut := some left, wasCut := true }, cPreempted := if r.wasCut then y.cPreempted else inc y.cPreempted }) →
    exec (.macTxStart dt p true) s = .next (t.modTx p fun z => { z with expRun := some {
          frame := f, done := u.now + framePs (u.port p) f, from_ := u.now + 8 * octetPs (u.port p), cut := none, wasCut := false
          protect := protectionOf t p f } }))
  ∧ (∀ (dt : Ps) (s u : State) (p : Nat) (f : TxFrame) (y : TxPort) (r : TxRun), u = txStartRead p true (s.elapse dt) → (u.tx p).expRun = none →
    u.wanRuns p = true → expressHead u p (u.tx p) = some (f, y) → noSa u p f = false → y.preRun = some r → r.cut = none →
    ((u.tx p).active = false ∨ cutLeft u p f r = none) → exec (.macTxStart dt p true) s = .next u)
  ∧ (∀ (dt : Ps) (s u : State) (p : Nat) (express : Bool), u = txStartRead p express (s.elapse dt) → u.now < (u.tx p).freeAt →
    exec (.macTxStart dt p express) s = .next u)
  ∧ (∀ (dt : Ps) (s u : State) (p : Nat) (f : TxFrame) (y : TxPort), u = txStartRead p true (s.elapse dt) → (u.tx p).expRun = none → u.wanRuns p = true →
    (u.tx p).freeAt ≤ u.now → expressHead u p (u.tx p) = some (f, y) → noSa u p f = true →
    exec (.macTxStart dt p true) s = .next ((u.setTx p y).emit (.completion p f.kind .droppedNoSa)))
  ∧ (∀ (s : State) (p n : Nat) (seq : BitVec 32) (rev : Nat) (last : Bool) (f : TxFrame) (r : TxRun), f.kind = .session n seq rev last → f.launch = none →
    (octetsLeft s (s.port p) r < 128 → cutLeft s p f r = none)
    ∧ (s.now ≤ r.done → 64 ≤ (s.now - r.from_) / octetPs (s.port p) → 128 ≤ octetsLeft s (s.port p) r →
      cutLeft s p f r = some (octetsLeft s (s.port p) r)))
  ∧ (∀ (dt : Ps) (s u : State) (p left : Nat) (r : TxRun), u = txStartRead p false (s.elapse dt) → (u.tx p).expRun = none → u.wanRuns p = true →
    (u.tx p).freeAt ≤ u.now → expressDue u p (u.tx p) = false → (u.tx p).preRun = some r → r.cut = some left →
    exec (.macTxStart dt p false) s = .next (u.setTx p { u.tx p with preRun := some { r with
      done := u.now + (8 + left + 4) * octetPs (u.port p), from_ := u.now + 8 * octetPs (u.port p), cut := none } }))
  ∧ (∀ (dt : Ps) (s u t : State) (p : Nat) (f : TxFrame) (y : TxPort), u = txStartRead p false (s.elapse dt) → (u.tx p).expRun = none → u.wanRuns p = true →
    (u.tx p).freeAt ≤ u.now → expressDue u p (u.tx p) = false → (u.tx p).preRun = none → preemptHead u p (u.tx p) = some (f, y) → noSa u p f = false →
    t = takePn p f (u.setTx p y) →
    exec (.macTxStart dt p false) s = .next (t.modTx p fun z => { z with preRun := some {
      frame := f, done := u.now + framePs (u.port p) f, from_ := u.now + 8 * octetPs (u.port p), cut := none, wasCut := false
      protect := protectionOf t p f } }))
  ∧ (∀ (s : State) (p : Nat) (x : TxPort) (f : TxFrame) (t : List TxFrame), x.expAlarm = f :: t → f.readyAt ≤ s.now →
    expressHead s p x = some (f, { x with expAlarm := t }))
  ∧ (∀ (s : State) (p : Nat) (x : TxPort) (f : TxFrame) (t : List TxFrame), (∀ a, x.expAlarm.head? = some a → s.now < a.readyAt) →
    x.expLaunch = f :: t → launchCome s p f = true → expressHead s p x = some (f, { x with expLaunch := t }))
  ∧ (∀ (s : State) (p : Nat) (x : TxPort) (f : TxFrame) (t : List TxFrame), (∀ a, x.expAlarm.head? = some a → s.now < a.readyAt) →
    (∀ a, x.expLaunch.head? = some a → launchCome s p a = false) → x.expNow = f :: t →
    revisionHeld x f = false → expressHead s p x = some (f, { x with expNow := t }))
  ∧ (∀ (dt : Ps) (s u : State) (p : Nat) (r : TxRun), u = txDoneRead p true (s.elapse dt) → (u.tx p).expRun = some r → r.cut = none → r.done ≤ u.now →
    exec (.macTxDone dt p true) s = .next (countSent p r.frame ((noteDeparture p r (u.setTx p { u.tx p with
      expRun := none, cFrames := inc (u.tx p).cFrames, cExpress := inc (u.tx p).cExpress, freeAt := u.now + 12 * octetPs (u.port p) })).emits
        [.wan p { r.frame with octets := wireOctets u p r }, .completion p r.frame.kind (if r.frame.late then .late else .sent)])))
  ∧ (∀ (dt : Ps) (s u : State) (p : Nat) (r : TxRun), u = txDoneRead p false (s.elapse dt) → (u.tx p).preRun = some r → r.cut = none → r.done ≤ u.now →
    exec (.macTxDone dt p false) s = .next (countSent p r.frame ((noteDeparture p r (u.setTx p (pauseStarts (u.port p) u.now { u.tx p with
      preRun := none, cFrames := inc (u.tx p).cFrames, freeAt := u.now + 12 * octetPs (u.port p) }))).emits
        [.wan p { r.frame with octets := wireOctets u p r }, .completion p r.frame.kind (if r.frame.late then .late else .sent)])))
  ∧ (∀ (s : State) (p : Nat) (r : TxRun), (∀ got, r.frame.kind ≠ .ptpAnswer got) → r.protect = none → wireOctets s p r = r.frame.octets)
  ∧ (∀ (s : State) (p : Nat) (r : TxRun) (k : Protection), (∀ got, r.frame.kind ≠ .ptpAnswer got) → r.protect = some k → 12 ≤ r.frame.octets.length →
    (wireOctets s p r).take 28 = r.frame.octets.take 12 ++ [0x88, 0xE5] ++ be 1 (0x2C + k.an) ++ [0] ++ be 4 k.pn ++ be 6 (s.port p).mac ++ be 2 1)
  ∧ (∀ (dt : Ps) (s u : State) (p : Nat) (f : TxFrame) (t : List TxFrame), u = s.elapse dt → (u.tx p).expLaunch = f :: t → f.judged = false →
    stampDiff (f.launch.getD 0) u.stamp ≤ 640 * 65536 → launchLate u p true f = true → (vget {} u.time.ports p).dropLate = false →
    exec (.launchDecision dt p true) s = .next (u.setTx p { u.tx p with expLaunch := { f with judged := true, late := true } :: t }))
  ∧ (∀ (dt : Ps) (s u : State) (p : Nat) (f : TxFrame) (t : List TxFrame), u = s.elapse dt → (u.tx p).expLaunch = f :: t → f.judged = false →
    stampDiff (f.launch.getD 0) u.stamp ≤ 640 * 65536 → launchLate u p true f = false →
    exec (.launchDecision dt p true) s = .next (u.setTx p { u.tx p with expLaunch := { f with judged := true } :: t }))
  ∧ (∀ (dt : Ps) (s u : State) (p n : Nat) (seq : BitVec 32) (rev : Nat) (last : Bool) (f : TxFrame) (t : List TxFrame), u = s.elapse dt → p < 4 →
    (u.tx p).preLaunch = f :: t → f.judged = false → f.kind = .session n seq rev last →
    stampDiff (f.launch.getD 0) u.stamp ≤ 512 * 65536 → launchLate u p false f = true → (vget {} u.time.ports p).dropLate = true →
    ∃ v, exec (.launchDecision dt p false) s = .next v ∧ (v.tx p).preLaunch = t ∧ (v.sess n).cLateDropped = inc (u.sess n).cLateDropped
      ∧ vget 0 v.time.cLateDropped p = inc (vget 0 u.time.cLateDropped p) ∧ v.outputs.head? = some (.completion p f.kind .droppedLate))
  ∧ (∀ (dt : Ps) (s u : State) (p : Nat) (quanta : List Nat), u = s.elapse dt → (u.tx p).pauseObey = false →
    exec (.pauseRx dt p none quanta) s = .next (u.setTx p { u.tx p with cPauseRx := inc (u.tx p).cPauseRx }))
  ∧ (∀ (dt : Ps) (s u : State) (p i quanta : Nat), u = s.elapse dt → p < 4 → i < 8 → (u.tx p).pauseObey = true → (u.tx p).preRun = none →
    ∃ v, exec (.pauseRx dt p none [quanta]) s = .next v ∧ vget 0 (v.tx p).pauseTo i = u.now + quanta * (64 * octetPs (u.port p))
      ∧ (v.tx p).cPauseRx = inc (u.tx p).cPauseRx)
  ∧ (∀ (dt : Ps) (s u : State) (p i mask : Nat) (quanta : List Nat), u = s.elapse dt → p < 4 → i < 8 → (u.tx p).pfcObey = true →
    (u.tx p).preRun = none → vget none (u.tx p).pauseNext i = none → ∃ v, exec (.pauseRx dt p (some mask) quanta) s = .next v ∧ (v.tx p).cPfcRx = inc (u.tx p).cPfcRx
      ∧ vget 0 (v.tx p).pauseTo i = (if mask.testBit i then u.now + quanta.getD i 0 * (64 * octetPs (u.port p)) else vget 0 (u.tx p).pauseTo i))
  ∧ (∀ (dt : Ps) (s u : State) (p i quanta : Nat), u = s.elapse dt → p < 4 → i < 8 → (u.tx p).pauseObey = true → (u.tx p).preRun.isSome = true →
    ∃ v, exec (.pauseRx dt p none [quanta]) s = .next v ∧ vget none (v.tx p).pauseNext i = some quanta ∧ (v.tx p).pauseTo = (u.tx p).pauseTo
      ∧ (v.tx p).cPauseRx = inc (u.tx p).cPauseRx)
  ∧ (∀ (p i q : Nat) (ps : PortSt) (now : Ps) (x : TxPort), i < 8 → vget none x.pauseNext i = some q →
    vget 0 (pauseStarts ps now x).pauseTo i = now + q * (64 * octetPs ps) ∧ vget none (pauseStarts ps now x).pauseNext i = none)
  ∧ (∀ (p : Nat) (what : String) (o : List Byte) (s : State), p < 4 → (s.tx p).preNow.length < 1024 → bufferUsed (s.tx p) + o.length ≤ 524288 →
    ((superFrames p what [o] s).tx p).preNow
      = (s.tx p).preNow ++ [{ kind := .supervisor what, octets := o, priority := 0, launch := none, late := false }])
  ∧ (∀ (p : Nat) (s : State), p < 4 → (s.tx p).active = false → (s.tx p).preRun.isSome = true →
    (((Later.alarmReady p).act s).tx p).cHeld = inc (s.tx p).cHeld)
  ∧ (∀ (dt : Ps) (s u : State) (p i : Nat), u = s.elapse dt → p < 4 → i < 8 → ∃ v, exec (.pauseEnd dt p) s = .next v
    ∧ vget 0 (v.tx p).pauseTo i = (if vget 0 (u.tx p).pauseTo i ≤ u.now then 0 else vget 0 (u.tx p).pauseTo i))
  ∧ (∀ (dt : Ps) (s u : State) (p : Nat), u = s.elapse dt → u.online = true → p < 4 → ∃ v, exec (.wanLinkChange dt p true) s = .next v
    ∧ (v.port p).linkUp = true ∧ v.tx p = { u.tx p with
      active := false, verify := if (u.tx p).preempt then some 1 else none, verifyAt := if (u.tx p).preempt then u.now else (u.tx p).verifyAt }
    ∧ ((u.tx p).preempt = true → v.outputs.head? = some (.verify p false)))
  ∧ (∀ (dt : Ps) (s u : State) (p : Nat), u = s.elapse dt → u.online = true → p < 4 → ∃ v, exec (.wanLinkChange dt p false) s = .next v
    ∧ (v.port p).linkUp = false ∧ v.tx p = pauseStarts (u.port p) u.now { u.tx p with
      active := false, verify := none, expRun := none, preRun := none, tsoOpen := false })
  ∧ (∀ (dt : Ps) (s u : State) (p n : Nat), u = s.elapse dt → (u.tx p).verify = some n → (u.tx p).verifyAt + 10000000000 ≤ u.now →
    exec (.verifyTimeout dt p) s = .next (if n < 3 then (u.setTx p { u.tx p with verify := some (n + 1), verifyAt := u.now }).emit (.verify p false)
      else u.setTx p { u.tx p with verify := none, cVerifyFails := inc (u.tx p).cVerifyFails }))
  ∧ (∀ (dt : Ps) (s u : State) (p n : Nat), u = s.elapse dt → (u.tx p).verify = some n →
    exec (.verifyResponse dt p) s = .next (u.setTx p { u.tx p with verify := none, active := true }))
  )
  ∧ (
  (∀ (dt : Ps) (s u : State) (k : Nat) (m : Mkpdu), u = s.elapse dt → k < 5 → u.online = true → m.icvOk = true → (u.mka k).cak.isSome = true →
    ((u.mka k).peers.filter fun y => y.1 ≠ m.peer).length < 4 →
    exec (.mkpduRx dt k m) s = .next (u.setMka k { u.mka k with
      peers := ((u.mka k).peers.filter fun y => y.1 ≠ m.peer) ++ [(m.peer, m.priority, u.now)] }))
  ∧ (∀ (dt : Ps) (s u : State) (k : Nat) (m : Mkpdu), u = s.elapse dt → (m.icvOk = false ∨ (u.mka k).cak = none) →
    exec (.mkpduRx dt k m) s = .next u)
  ∧ (∀ (dt : Ps) (s u : State) (k : Nat) (f : TxFrame), u = s.elapse dt → k < 4 → u.online = true → (u.mka k).cak.isSome = true →
    (u.mka k).helloAt + 2000000000000 ≤ u.now → (u.tx k).preNow.length < 1024 → bufferUsed (u.tx k) + bufferShare f ≤ 524288 →
    f = { kind := .eapol, priority := 0, launch := none, late := false
          octets := be 6 0x0180C2000003 ++ be 6 (u.port k).mac ++ be 2 0x888E ++ be 1 (u.mka k).priority ++ be 1 (keyServer (u.mka k) u).1 ++ be 1 (bit (u.mka k).asked 0) } →
    ∃ v, exec (.mkaHello dt k) s = .next v ∧ v.mka k = { u.mka k with helloAt := u.now } ∧ v.tx k = { u.tx k with preNow := (u.tx k).preNow ++ [f] })
  ∧ (∀ (dt : Ps) (s u : State), u = s.elapse dt → u.online = true → (u.mka 4).cak.isSome = true → (u.mka 4).helloAt + 2000000000000 ≤ u.now →
    (∀ y, y ∈ (u.mka 4).peers → (u.mka 4).priority < y.2.1) →
    exec (.mkaHello dt 4) s = .next ((u.setMka 4 { u.mka 4 with helloAt := u.now }).emit (.supervisor 4 "MKPDU"
      (be 6 0x0180C2000003 ++ be 6 u.host.mgmtCfg.mac ++ be 2 0x888E ++ be 1 (u.mka 4).priority ++ be 1 1 ++ be 1 (bit (u.mka 4).asked 0)))))
  ∧ (∀ (s : State) (k : Nat), (s.mka k).cak.isNone = true → mkaHello k s = s)
  ∧ (∀ (dt : Ps) (s u : State) (k : Nat), u = s.elapse dt → u.now < (u.mka k).helloAt + 2000000000000 → exec (.mkaHello dt k) s = .next u)
  ∧ (∀ (dt : Ps) (s u : State) (k peer pr : Nat) (t : Ps), u = s.elapse dt → k < 5 → (u.mka k).peers = [(peer, pr, t)] →
    exec (.mkaLifeTimeExpiry dt k peer) s = .next (u.setMka k { u.mka k with
      peers := if t + 6000000000000 ≤ u.now then [] else [(peer, pr, t)] }))
  ∧ (∀ (dt : Ps) (s u : State) (k kn an : Nat), u = s.elapse dt → k < 4 → an < 4 → u.online = true → (u.mka k).cak.isSome = true →
    ∃ v, exec (.sakInstall dt k kn an) s = .next v ∧ (v.mka k) = { u.mka k with
        installed := true, rx := newReceive (u.mka k) an, keyNumber := kn, an := an, installs := inc (u.mka k).installs, asked := false }
      ∧ v.tx k = { u.tx k with sa := true, pn := 0, saAsked := false })
  ∧ (∀ (dt : Ps) (s u : State) (kn an : Nat), u = s.elapse dt → an < 4 → u.online = true → (u.mka 4).cak.isSome = true →
    exec (.sakInstall dt 4 kn an) s = .next (u.setMka 4 { u.mka 4 with
      installed := true, rx := newReceive (u.mka 4) an, keyNumber := kn, an := an, installs := inc (u.mka 4).installs, asked := false }))
  ∧ (∀ (dt : Ps) (s u : State) (k kn an : Nat), u = s.elapse dt → (u.mka k).cak = none → exec (.sakInstall dt k kn an) s = .next u)
  )

/-- The pair and federation commands: PAIR_SET and FED_SET in COMMISSION only, reversion, switchover and what the status commands answer (R495,
R501, R515, R516, R519 to R521). -/
def Obligations.PairCommandsTakeEffect : Prop :=
  (∀ (dt : Ps) (q : Packet) (s u : State), u = arrived q (s.elapse dt) → ready (s.elapse dt) q 0x0901 = true → u.sys.mode = .commission → q.params = [1] →
    executed (exec (.pairSet dt q) s) q 0x0901 (be 1 (bit (!u.primary) 0) ++ be 1 u.pair.state.code) true
      { u with pair := { u.pair with pairEnable := true } })
  ∧ (∀ (dt : Ps) (q : Packet) (s u v : State), u = arrived q (s.elapse dt) → ready (s.elapse dt) q 0x0901 = true → u.sys.mode = .commission → q.params = [0] →
    v = unpair (loseLink 3 { u with pair := { u.pair with pairEnable := false } }) →
    executed (exec (.pairSet dt q) s) q 0x0901 (be 1 (bit (!v.primary) 0) ++ be 1 v.pair.state.code) true v
    ∧ v.pair.state = .unpaired ∧ v.pair.pairEnable = false ∧ (v.link 3).state = .down)
  ∧ (∀ (dt : Ps) (q : Packet) (s u : State), u = arrived q (s.elapse dt) → ready (s.elapse dt) q 0x0901 = true → u.sys.mode ≠ .commission →
    refusedWith (exec (.pairSet dt q) s) q 0x0901 0x04 0xFFFF u)
  ∧ (∀ (dt : Ps) (q : Packet) (s u : State), u = arrived q (s.elapse dt) → ready (s.elapse dt) q 0x0902 = true → q.params.length = 1 → fld q.params 0 1 ≤ 128 →
    executed (exec (.pairGetStatus dt q) s) q 0x0902 (be 1 u.pair.state.code ++ be 1 u.pair.partnerMode ++ be 1 (u.link 3).state.code
      ++ be 1 (bit u.pair.mirrored 0 + bit (u.pair.partnerDigest != u.digest) 1 + bit u.pair.versionDiffer 2 + bit u.pair.conflict 3)
      ++ be 4 u.digest.toNat ++ be 4 u.pair.partnerDigest.toNat ++ be 4 (holdRemaining u)
      ++ be 4 (match u.pair.eclipseFrom with | some t => min ((u.now - t) / 4000) 0xFFFFFFFF | none => 0xFFFFFFFF)
      ++ be 4 u.pair.lastEclipse ++ be 8 (u.link 3).farSerial ++ be 4 (u.link 3).farFw
      ++ be 1 (u.pair.partnerJournal.take (fld q.params 0 1)).length ++ (u.pair.partnerJournal.take (fld q.params 0 1)).flatten) false u)
  ∧ (∀ (dt : Ps) (q : Packet) (s u : State), u = arrived q (s.elapse dt) → ready (s.elapse dt) q 0x0903 = true → q.params.length = 3 → fld q.params 0 1 ≤ 1 →
    1 ≤ fld q.params 1 2 → fld q.params 1 2 ≤ 3600 →
    executed (exec (.pairSetRevert dt q) s) q 0x0903 [] true
      (noteHold { u with pair := { u.pair with revert := decide (fld q.params 0 1 = 1), holdTime := fld q.params 1 2 } }))
  ∧ (∀ (dt : Ps) (q : Packet) (s u : State), u = arrived q (s.elapse dt) → ready (s.elapse dt) q 0x0904 = true → q.params = [] → u.pair.state = .unpaired →
    refusedWith (exec (.pairSwitchover dt q) s) q 0x0904 0x04 0xFFFF u)
  ∧ (∀ (dt : Ps) (q : Packet) (s u : State), u = arrived q (s.elapse dt) → ready (s.elapse dt) q 0x0904 = true → q.params = [] → u.pair.state ≠ .unpaired →
    (u.mismatch = true ∨ u.pair.requested = true ∨ u.pair.declared.isSome = true ∨ (u.pair.state ≠ .activePaired ∧ u.pair.state ≠ .standby)
      ∨ (u.pair.state = .activePaired ∧ (u.pair.partnerMode ≠ Mode.standby.code ∨ u.pair.partnerState = PairState.handingOver.code))) →
    refusedWith (exec (.pairSwitchover dt q) s) q 0x0904 0x01 0xFFFF u)
  ∧ (∀ (dt : Ps) (q : Packet) (s u : State), u = arrived q (s.elapse dt) → ready (s.elapse dt) q 0x0904 = true → q.params = [] → u.pair.state = .activePaired →
    u.pair.partnerMode = Mode.standby.code → u.pair.partnerState ≠ PairState.handingOver.code →
    u.mismatch = false → u.pair.requested = false → u.pair.declared = none →
    executed (exec (.pairSwitchover dt q) s) q 0x0904 (stampBytes (handoverEdge u).1) true
      (grant { u with pair := { u.pair with cSwitchovers := inc u.pair.cSwitchovers } }))
  ∧ (∀ (dt : Ps) (q : Packet) (s u : State), u = arrived q (s.elapse dt) → ready (s.elapse dt) q 0x0904 = true → q.params = [] → u.pair.state = .standby →
    u.mismatch = false → u.pair.requested = false → u.pair.declared = none →
    executing (exec (.pairSwitchover dt q) s) .switchover
      (sendB 3 0x09 [1] { u with pair := { u.pair with cSwitchovers := inc u.pair.cSwitchovers, requested := true } }))
  ∧ (∀ (dt : Ps) (q : Packet) (s u v : State), u = arrived q (s.elapse dt) → ready (s.elapse dt) q 0x0905 = true → u.sys.mode = .commission → q.params = [1] →
    v = notePartner u { u with pair := { u.pair with fedEnable := true } } →
    executed (exec (.fedSet dt q) s) q 0x0905 (be 1 v.position ++ be 1 v.fedPresent) true v)
  ∧ (∀ (dt : Ps) (q : Packet) (s u v : State), u = arrived q (s.elapse dt) → ready (s.elapse dt) q 0x0905 = true → u.sys.mode = .commission → q.params = [0] →
    v = notePartner u ([0, 1, 2].foldl (fun s k => loseLink k s) { u with pair := { u.pair with fedEnable := false } }) →
    executed (exec (.fedSet dt q) s) q 0x0905 (be 1 v.position ++ be 1 0) true v ∧ v.pair.fedEnable = false ∧ ∀ k, k < 3 → (v.link k).state = .down)
  ∧ (∀ (dt : Ps) (q : Packet) (s u : State), u = arrived q (s.elapse dt) → ready (s.elapse dt) q 0x0906 = true → q.params = [] →
    executed (exec (.fedGetStatus dt q) s) q 0x0906
      (u.pair.links.toList.flatMap (fun l => be 1 l.state.code ++ be 1 l.reason ++ be 1 l.farPos ++ be 8 l.farSerial)
        ++ be 1 u.fedPresent ++ be 2 (u.ingress.ctxs.filter fun x => x.2.forward.isSome).length) false u)
  ∧ (∀ (dt : Ps) (q : Packet) (s u : State), u = arrived q (s.elapse dt) → ready (s.elapse dt) q 0x0907 = true → q.params = [0] →
    executed (exec (.pairGetCounters dt q) s) q 0x0907 (cntBytes (pairCounters u)) false u)
  ∧ (∀ (dt : Ps) (q : Packet) (s u : State), u = arrived q (s.elapse dt) → ready (s.elapse dt) q 0x0907 = true → q.params = [1] →
    executed (exec (.pairGetCounters dt q) s) q 0x0907 (cntBytes (pairCounters u)) true (clearPair u)
    ∧ ∀ c, c ∈ pairCounters (clearPair u) → c = 0)

/-- The frames of the peer links: training and HELLO, class B frames in order only, acknowledgement and resending, records, GEN and CONTROL
frames of the federation (R491 to R494, R496, R498 to R501). -/
def Obligations.PeerFramesTakeEffect : Prop :=
  (∀ (dt : Ps) (s u : State) (k : Nat), u = s.elapse dt →
    (k < 3 ∧ u.online = true ∧ u.pair.fedEnable = true ∨ k = 3 ∧ u.peersUp = true ∧ u.pair.pairEnable = true) →
    (u.link k).state = .down → exec (.peerLinkTraining dt k) s = .next (sendB k 0x01 (helloPayload u)
      (u.setLink k { u.link k with state := .training, txSeq := 0, rxSeq := 0, unacked := [], helloAt := u.now })))
  ∧ (∀ (dt : Ps) (s u : State) (k : Nat), u = s.elapse dt → k < 4 → (u.link k).state ≠ .down →
    ∃ t, exec (.peerLinkDown dt k) s = .next t ∧ (t.link k).state = .down ∧ (t.link k).unacked = [] ∧ (t.link k).lastHb = none
      ∧ (t.link k).cDowns = if (u.link k).state = .joined then inc (u.link k).cDowns else (u.link k).cDowns)
  ∧ (∀ (dt : Ps) (s u : State) (k : Nat) (m : HelloMsg), u = s.elapse dt → k < 3 → (u.link k).state = .training → m.ok = true → m.lseq = (u.link k).rxSeq →
    m.position = (u.position + k + 1) % 4 → m.position ≠ u.position → m.fwVer = u.fwVer → m.catVer = u.catVer →
    ∃ t, exec (.hello dt k m) s = .next t ∧ (t.link k).state = .joined ∧ (t.link k).reason = 0 ∧ (t.link k).rxSeq = (m.lseq + 1) % 4294967296
      ∧ (t.link k).farSerial = m.serial ∧ (t.link k).farPos = m.position)
  ∧ (∀ (dt : Ps) (s u : State) (k : Nat) (m : HelloMsg), u = s.elapse dt → k < 3 → (u.link k).state = .training → m.ok = true → m.lseq = (u.link k).rxSeq →
    ∃ t, exec (.hello dt k m) s = .next t ∧
      ((m.position = u.position ∧ (t.link k).state = .refused ∧ (t.link k).reason = 2)
      ∨ (m.position ≠ u.position ∧ m.position ≠ (u.position + k + 1) % 4 ∧ (t.link k).state = .refused ∧ (t.link k).reason = 1)
      ∨ (m.position = (u.position + k + 1) % 4 ∧ (m.fwVer ≠ u.fwVer ∨ m.catVer ≠ u.catVer) ∧ (t.link k).state = .refused ∧ (t.link k).reason = 3)
      ∨ (m.position = (u.position + k + 1) % 4 ∧ m.fwVer = u.fwVer ∧ m.catVer = u.catVer ∧ (t.link k).state = .joined)))
  ∧ (∀ (dt : Ps) (s u : State) (m : HelloMsg), u = s.elapse dt → (u.link 3).state = .training → m.ok = true → m.lseq = (u.link 3).rxSeq →
    m.position = u.position → ∃ t, exec (.hello dt 3 m) s = .next t ∧ (t.link 3).state = .joined
      ∧ t.pair.conflict = (m.pairRole == u.sys.straps.pairRole) ∧ t.pair.versionDiffer = (m.fwVer != u.fwVer)
      ∧ (m.pairRole = u.sys.straps.pairRole → t.primary = decide (u.sec.serial.toNat < m.serial)))
  ∧ (∀ (dt : Ps) (s u : State) (m : HelloMsg), u = s.elapse dt → (u.link 3).state = .training → m.ok = true → m.lseq = (u.link 3).rxSeq →
    m.position ≠ u.position → ∃ t, exec (.hello dt 3 m) s = .next t ∧ (t.link 3).state = .refused ∧ (t.link 3).reason = 1)
  ∧ (∀ (dt : Ps) (s u : State) (k : Nat) (m : HelloMsg), u = s.elapse dt → (u.link k).state ≠ .down → m.ok = true → m.lseq ≠ (u.link k).rxSeq →
    exec (.hello dt k m) s = .next (if seqBefore m.lseq (u.link k).rxSeq then u.setLink k { u.link k with ackDue := true } else u))
  ∧ (∀ (dt : Ps) (s u : State) (k : Nat) (m : HelloMsg), u = s.elapse dt → (u.link k).state ≠ .down → m.ok = false →
    exec (.hello dt k m) s = .next (u.setLink k { u.link k with cCrc := inc (u.link k).cCrc }))
  ∧ (∀ (dt : Ps) (s u : State) (k : Nat), u = s.elapse dt → (u.link k).state = .refused → u.peersUp = true → (u.link k).helloAt + 1000000000 ≤ u.now →
    exec (.helloRepeat dt k) s = .next (sendBlocks k (peerFrame 0x01 (u.link k).txSeq (helloPayload u)) (u.setLink k { u.link k with
      helloAt := u.now, txSeq := ((u.link k).txSeq + 1) % 4294967296 })))
  ∧ (∀ (dt : Ps) (s u : State) (k : Nat), u = s.elapse dt → u.now < (u.link k).helloAt + 1000000000 → exec (.helloRepeat dt k) s = .next u)
  ∧ (∀ (dt : Ps) (s u : State) (x : PeerIn) (k lseq : Nat), u = s.elapse dt → x.ok = true → x.link = k → k < 4 →
    ((u.link k).state = .training ∨ (u.link k).state = .joined) → u.host.executing = none →
    ∃ t, exec (.ack dt x lseq) s = .next t ∧ (t.link k).unacked = (u.link k).unacked.filter (fun f => seqBefore lseq f.1)
      ∧ (t.link k).state = (u.link k).state ∧ t = u.setLink k (t.link k))
  ∧ (∀ (dt : Ps) (s u : State) (x : PeerIn) (lseq : Nat), u = s.elapse dt → x.ok = true → ((u.link x.link).state = .down ∨ (u.link x.link).state = .refused) →
    exec (.ack dt x lseq) s = .next u)
  ∧ (∀ (dt : Ps) (s u v : State) (x : PeerIn) (n i p : Nat), u = s.elapse dt → x.ok = false → (u.link x.link).state ≠ .down → p < 4 →
    v = u.setLink x.link { u.link x.link with cCrc := inc (u.link x.link).cCrc } →
    exec (.ack dt x n) s = .next v ∧ exec (.gen dt x i n) s = .next v ∧ exec (.takeover dt x p) s = .next v)
  ∧ (∀ (dt : Ps) (s u : State) (k : Nat), u = s.elapse dt → (u.link k).ackDue = true →
    ((u.link k).state = .training ∨ (u.link k).state = .joined) →
    exec (.ackSend dt k) s = .next ((u.setLink k { u.link k with ackDue := false }).emit
      (.peer k (peerFrame 0x06 0 (be 4 (((u.link k).rxSeq + 4294967295) % 4294967296))))))
  ∧ (∀ (dt : Ps) (s u : State) (k : Nat), u = s.elapse dt → ((u.link k).state = .down ∨ (u.link k).state = .refused) →
    exec (.ackSend dt k) s = .next u ∧ exec (.peerResend dt k) s = .next u)
  ∧ (∀ (type lseq : Nat) (p : List Byte), peerFrame type lseq p = be 1 type ++ be 1 0 ++ be 2 p.length ++ be 4 lseq ++ p
    ++ be 4 (crc32c (be 1 type ++ be 1 0 ++ be 2 p.length ++ be 4 lseq ++ p)).toNat)
  ∧ (∀ (dt : Ps) (s u : State) (k : Nat), u = s.elapse dt → (u.link k).unacked ≠ [] →
    ((u.link k).state = .training ∨ (u.link k).state = .joined) → (u.link k).progressAt + 50000000 ≤ u.now →
    exec (.peerResend dt k) s = .next ((u.link k).unacked.foldl (fun t f => sendBlocks k (peerFrame f.2.1 f.1 f.2.2) t) (u.setLink k { u.link k with
      progressAt := u.now, cResends := incBy (u.link k).cResends (u.link k).unacked.length })))
  ∧ (∀ (dt : Ps) (s u : State) (k z : Nat) (b : List Byte), u = s.elapse dt → k < 3 → z < 64 → (u.link k).state = .joined → u.peersUp = true →
    32 ≤ b.length → b.length ≤ 368 → exec (.record dt k true z b) s = .next (pushInsert (fclkAt u.now 20) (recordOfBytes (u.pair.remoteEpoch + 1) b)
      (remoteNews (u.setLink k { u.link k with cRecRx := inc (u.link k).cRecRx }))))
  ∧ (∀ (dt : Ps) (s u : State) (k z : Nat) (ok : Bool) (b : List Byte), u = s.elapse dt → k < 3 → z < 64 → (u.link k).state = .joined → u.peersUp = true →
    (ok = false ∨ b.length < 32 ∨ 368 < b.length) → exec (.record dt k ok z b) s = .next (u.setLink k { u.link k with cCrc := inc (u.link k).cCrc }))
  ∧ (∀ (dt : Ps) (s u : State) (p : PeerIn) (k i gen z : Nat) (x : Zone) (m : Member), u = s.elapse dt → p.ok = true → p.link = k → k < 3 → (u.link k).state = .joined →
    tabGet? z u.align.zones = some x → m ∈ x.members → m.ref = { position := (u.position + k + 1) % 4, isLocal := false, index := i } →
    ∃ t y, exec (.gen dt p i gen) s = .next t ∧ tabGet? z t.align.zones = some y ∧ { m with remoteGen := some gen } ∈ y.members)
  ∧ (∀ (dt : Ps) (s u : State) (i k : Nat) (x : GenRepeat), u = s.elapse dt → u.pair.genRepeats = [x] → x.index = i → x.sent = 1 →
    x.nextAt ≤ u.now → u.linkTo x.home = some k → (u.link k).state = .joined →
    exec (.genRepeat dt i) s = .next (({ u with pair := { u.pair with
      genRepeats := [{ x with sent := 2, nextAt := x.nextAt + 1000000 }] } }).emit (.peer k (peerFrame 0x04 0 (be 2 i ++ be 1 x.gen ++ be 1 0)))))
  ∧ (∀ (dt : Ps) (s u : State) (q : PeerSeq) (k i z : Nat) (e : Stamp), u = s.elapse dt → k < 3 → e < stampMod →
    (u.link k).state = .joined → q.ok = true → q.lseq = (u.link k).rxSeq → i ≤ 16383 →
    (u.ctx i).state ≠ .free → belongs u { position := u.position, isLocal := false, index := i } = false →
    exec (.control dt k q i z true e) s = .next ((u.setLink k { u.link k with rxSeq := ((u.link k).rxSeq + 1) % 4294967296, ackDue := true }).setCtx i
      { u.ctx i with zone := some z, forward := some ((u.position + k + 1) % 4, z) }))
  ∧ (∀ (dt : Ps) (s u : State) (q : PeerSeq) (k i z : Nat) (e : Stamp), u = s.elapse dt → k < 3 → e < stampMod →
    (u.link k).state = .joined → q.ok = true → q.lseq = (u.link k).rxSeq →
    ((u.ctx i).state = .free ∨ belongs u { position := u.position, isLocal := false, index := i } = true) →
    exec (.control dt k q i z true e) s = .next (u.setLink k { u.link k with rxSeq := ((u.link k).rxSeq + 1) % 4294967296, ackDue := true }))
  ∧ (∀ (dt : Ps) (s u : State) (q : PeerSeq) (k i z : Nat) (e : Stamp), u = s.elapse dt → k < 3 → e < stampMod →
    (u.link k).state = .joined → q.ok = true → q.lseq = (u.link k).rxSeq → i ≤ 16383 →
    (u.ctx i).forward = some ((u.position + k + 1) % 4, z) →
    exec (.control dt k q i z false e) s = .next ((u.setLink k { u.link k with rxSeq := ((u.link k).rxSeq + 1) % 4294967296, ackDue := true }).setCtx i
      { u.ctx i with zone := none, forward := none }))

/-- The moves of the pair: heartbeats and their loss, LISTEN's end, takeover, hold timer, handover and its break, and the mirror (R503, R504,
R509 to R517). -/
def Obligations.PairEventsTakeEffect : Prop :=
  (∀ (dt : Ps) (s u : State) (k : Nat) (m : HeartbeatMsg), u = s.elapse dt → k < 3 → (u.link k).state = .joined → u.peersUp = true →
    exec (.heartbeat dt k true m) s = .next (u.setLink k { u.link k with lastHb := some u.now, missed := 0 }))
  ∧ (∀ (dt : Ps) (s u : State) (k : Nat) (m : HeartbeatMsg), u = s.elapse dt → (u.link k).state = .joined → u.peersUp = true →
    exec (.heartbeat dt k false m) s = .next (u.setLink k { u.link k with cCrc := inc (u.link k).cCrc }))
  ∧ (∀ (dt : Ps) (s u : State) (m : HeartbeatMsg), u = s.elapse dt → (u.link 3).state = .joined → u.peersUp = true → u.pair.state = .standby →
    (m.yield = true ∨ m.mode ≠ Mode.active.code) → u.host.executing = none →
    ∃ t, exec (.heartbeat dt 3 true m) s = .next t ∧ t.pair.state = .standby ∧ t.pair.declared = some (u.pair.declared.getD u.now)
      ∧ t.pair.partnerMode = m.mode ∧ t.pair.partnerDigest = BitVec.ofNat 32 m.digest)
  ∧ (∀ (dt : Ps) (s u : State) (m : HeartbeatMsg), u = s.elapse dt → (u.link 3).state = .joined → u.peersUp = true → u.pair.state = .activeAlone →
    m.mode = Mode.standby.code → m.mirrored = true → u.pair.partnerMode = Mode.standby.code →
    ∃ t, exec (.heartbeat dt 3 true m) s = .next t ∧ t.pair.state = .activePaired ∧ t.pair.partnerMirrored = true)
  ∧ (∀ (dt : Ps) (s u : State) (k : Nat), u = s.elapse dt → u.peersUp = true → (u.link k).hbSentAt + 100000000 ≤ u.now →
    exec (.heartbeatSend dt k) s = .next (sendHeartbeat k false u))
  ∧ (∀ (dt : Ps) (s u : State) (k : Nat), u = s.elapse dt → (u.peersUp = false ∨ u.now < (u.link k).hbSentAt + 100000000) →
    exec (.heartbeatSend dt k) s = .next u)
  ∧ (∀ (dt : Ps) (s u : State) (k : Nat) (h : Ps), u = s.elapse dt → k < 4 → (u.link k).state = .joined → (u.link k).lastHb = some h →
    h + ((u.link k).missed + 1) * 100000000 ≤ u.now → (u.link k).missed < 2 →
    ∃ t, exec (.heartbeatMissed dt k) s = .next t ∧ (t.link k).state = .joined ∧ (t.link k).missed = (u.link k).missed + 1
      ∧ (t.link k).cMissed = inc (u.link k).cMissed ∧ (k = 3 → t.partnerOk = false ∧ t.pair.holdFrom = none))
  ∧ (∀ (dt : Ps) (s u : State) (k : Nat) (h : Ps), u = s.elapse dt → k < 4 → (u.link k).state = .joined → (u.link k).lastHb = some h →
    h + ((u.link k).missed + 1) * 100000000 ≤ u.now → 2 ≤ (u.link k).missed →
    ∃ t, exec (.heartbeatMissed dt k) s = .next t ∧ (t.link k).state = .down)
  ∧ (∀ (dt : Ps) (s u : State), u = s.elapse dt → u.peersUp = true →
    u.pair.eclipseFrom.isSome = true → u.pair.eclipseFrom.getD 0 + 300000000 ≤ u.now → exec (.partnerLoss dt) s = .next (declareLoss u))
  ∧ (∀ (s : State), (s.pair.state = .standby ∨ s.pair.state = .takingBack) → s.host.executing = none →
    (declareLoss s).pair.state = s.pair.state ∧ (declareLoss s).pair.declared = some (s.pair.declared.getD s.now)
      ∧ (declareLoss s).pair.handover = none ∧ (declareLoss s).energy.mirrorIn = none)
  ∧ (∀ (dt : Ps) (s u : State), u = s.elapse dt → u.pair.state = .listen → u.peersUp = true →
    u.pair.listenFrom + (if u.primary then 1000000000 else 2000000000) ≤ u.now →
    ∃ t, exec (.listenWindowEnd dt) s = .next t ∧ t.sys.mode = .active)
  ∧ (∀ (dt : Ps) (s u : State) (d : Ps), u = s.elapse dt → u.pair.declared = some d → (u.pair.state = .standby ∨ u.pair.state = .takingBack) → u.peersUp = true →
    ∃ t, exec (.takeoverComplete dt) s = .next t ∧ t.sys.mode = .active)
  ∧ (∀ (dt : Ps) (s u : State), u = s.elapse dt → (u.pair.declared = none ∨ (u.pair.state ≠ .standby ∧ u.pair.state ≠ .takingBack) ∨ u.peersUp = false) →
    exec (.takeoverComplete dt) s = .next u)
  ∧ (∀ (dt : Ps) (s u : State) (x : PeerIn) (pos : Nat), u = s.elapse dt → pos < 4 → x.ok = true → x.link = 3 → (u.link 3).state = .joined → u.active = true → u.pair.state ≠ .unpaired →
    ∃ t, exec (.takeover dt x pos) s = .next t ∧ t.sys.mode = .standby)
  ∧ (∀ (dt : Ps) (s u : State) (x : PeerIn) (pos : Nat), u = s.elapse dt → pos < 4 → x.ok = true → x.link < 3 → (u.link x.link).state = .joined →
    (u.pair.state = .standby ∨ u.pair.state = .takingBack ∨ u.pair.state = .handingOver) → exec (.takeover dt x pos) s = .next (declareLoss u))
  ∧ (∀ (dt : Ps) (s u : State) (t0 : Ps), u = s.elapse dt → u.pair.holdFrom = some t0 → holdOk u = true → u.pair.requested = false →
    t0 + u.pair.holdTime * 1000000000000 ≤ u.now →
    exec (.holdTimerExpiry dt) s = .next (sendB 3 0x09 [1] { u with pair := { u.pair with requested := true } }))
  ∧ (∀ (dt : Ps) (s u v : State) (q : PeerSeq), u = s.elapse dt → takeB 3 q false u = (true, v) → v.pair.state = .activePaired →
    v.pair.partnerState ≠ PairState.handingOver.code → v.mismatch = false →
    exec (.handoverRequest dt q) s = .next (grant v))
  ∧ (∀ (dt : Ps) (s u v : State) (q : PeerSeq), u = s.elapse dt → takeB 3 q false u = (true, v) → v.pair.state = .activePaired →
    v.pair.partnerState ≠ PairState.handingOver.code → v.mismatch = true →
    exec (.handoverRequest dt q) s = .next (sendB 3 0x09 [3, 2] { v with pair := { v.pair with cRefused := inc v.pair.cRefused } }))
  ∧ (∀ (dt : Ps) (s u v : State) (q : PeerSeq), u = s.elapse dt → takeB 3 q false u = (true, v) →
    (v.pair.state = .handingOver ∨ v.pair.state = .takingBack ∨ (v.pair.state = .activePaired ∧ v.pair.partnerState = PairState.handingOver.code)) →
    exec (.handoverRequest dt q) s = .next (sendB 3 0x09 [3, 1] { v with pair := { v.pair with cRefused := inc v.pair.cRefused } }))
  ∧ (∀ (dt : Ps) (s u v : State) (q : PeerSeq), u = s.elapse dt → takeB 3 q false u = (true, v) →
    (v.pair.state = .unpaired ∨ v.pair.state = .listen ∨ v.pair.state = .activeAlone ∨ v.pair.state = .standby) →
    exec (.handoverRequest dt q) s = .next (sendB 3 0x09 [3, 3] { v with pair := { v.pair with cRefused := inc v.pair.cRefused } }))
  ∧ (∀ (s : State), (grant s).pair.state = .handingOver ∧ (grant s).pair.handover = some (handoverEdge s)
    ∧ s.now + 10000000000 ≤ (handoverEdge s).2 ∧ (handoverEdge s).2 < s.now + 10000020000 ∧ (handoverEdge s).2 % 20000 = 0)
  ∧ (∀ (dt : Ps) (s u v : State) (q : PeerSeq) (h : Stamp), u = s.elapse dt → takeB 3 q false u = (true, v) → v.pair.state = .standby →
    v.pair.declared = none → v.host.executing = none →
    exec (.handoverGrant dt q h) s = .next { v with pair := { v.pair with
      state := .takingBack, handover := some (h, u.now + unitsToPs (stampDiff h u.stamp).toNat) } })
  ∧ (∀ (dt : Ps) (s u v : State) (q : PeerSeq) (reason : Nat), u = s.elapse dt → takeB 3 q false u = (true, v) → 1 ≤ reason → reason ≤ 3 →
    v.host.executing = none →
    exec (.handoverRefuse dt q reason) s = .next (noteHold { v with pair := { v.pair with requested := false, holdFrom := none } }))
  ∧ (∀ (dt : Ps) (s u : State) (h : Stamp) (p : Ps), u = s.elapse dt → u.pair.state = .takingBack → u.pair.handover = some (h, p) →
    stampGe u.stamp h = true → u.peersUp = true → ∃ t, exec (.handoverEdge dt) s = .next t ∧ t.sys.mode = .active)
  ∧ (∀ (dt : Ps) (s u : State) (h : Stamp) (p : Ps), u = s.elapse dt → u.pair.state = .handingOver → u.pair.handover = some (h, p) → p ≤ u.now →
    (txDrained u = true ∨ p + 3100000000000 ≤ u.now) → ∃ t, exec (.handoverBreak dt) s = .next t ∧ t.sys.mode = .standby)
  ∧ (∀ (dt : Ps) (s u : State) (h : Stamp) (p : Ps), u = s.elapse dt → u.pair.handover = some (h, p) → (u.now < p ∨
    (txDrained u = false ∧ u.now < p + 3100000000000)) → exec (.handoverBreak dt) s = .next u)
  ∧ (∀ (dt : Ps) (s u v : State) (q : PeerSeq) (m : MirrorItem), u = s.elapse dt → takeB 3 q false u = (true, v) → v.pair.state ≠ .handingOver →
    v.sys.mode = .standby → v.pair.declared = none → exec (.mirror dt q m) s = .next (applyItem m v))
  ∧ (∀ (dt : Ps) (s u v : State) (q : PeerSeq) (m : MirrorItem), u = s.elapse dt → takeB 3 q false u = (true, v) → v.pair.state = .handingOver →
    exec (.mirror dt q m) s = .next { v with pair := { v.pair with heldItems := v.pair.heldItems ++ [m] } })
  ∧ (∀ (dt : Ps) (s u v : State) (q : PeerSeq) (m : MirrorItem), u = s.elapse dt → takeB 3 q false u = (true, v) → v.pair.state ≠ .handingOver →
    (v.sys.mode ≠ .standby ∨ v.pair.declared.isSome = true) → exec (.mirror dt q m) s = .next v)
  ∧ (∀ (dt : Ps) (s u v : State) (q : PeerSeq) (m : MirrorItem) (h : Stamp) (k : Nat), u = s.elapse dt → takeB 3 q false u = (false, v) → 1 ≤ k → k ≤ 3 →
    exec (.mirror dt q m) s = .next v ∧ exec (.handoverRequest dt q) s = .next v ∧ exec (.handoverGrant dt q h) s = .next v
    ∧ exec (.handoverRefuse dt q k) s = .next v)
  ∧ (∀ (s : State) (k : Nat) (q : PeerSeq), q.ok = true → takeB k q false s = (if (s.link k).state ≠ .joined then (false, s)
      else if q.lseq = (s.link k).rxSeq then (true, s.setLink k { s.link k with rxSeq := ((s.link k).rxSeq + 1) % 4294967296, ackDue := true })
      else if seqBefore q.lseq (s.link k).rxSeq then (false, s.setLink k { s.link k with ackDue := true }) else (false, s)))
  ∧ (∀ (s : State) (k : Nat) (q : PeerSeq), q.ok = false → (s.link k).state ≠ .down →
    takeB k q false s = (false, s.setLink k { s.link k with cCrc := inc (s.link k).cCrc }))

/-- The integrity commands: what the status, the log and the counters answer, the policy, an injected fault, and the exit from SAFE (R545 to
R549). The rails, the frequency errors and the pins that DIAG_GET_MONITORS measures are free values (log entry 4). -/
def Obligations.IntegrityCommandsTakeEffect : Prop :=
  (∀ (dt : Ps) (q : Packet) (s u : State), u = arrived q (s.elapse dt) → ready (s.elapse dt) q 0x0A01 = true → q.params = [] →
    executed (exec (.integGetStatus dt q) s) q 0x0A01 (be 2 (bitsOf (u.kernel.engines.toList.map fun x => x.state != .offline))
      ++ be 2 u.integ.almFault.toNat ++ be 1 u.integFlags ++ lastFaultBytes u.integ.lastFault ++ be 4 u.integ.safeEntries.toNat
      ++ be 1 (recentLeaves u).length ++ be 4 (min Config.scrubPassUs 64000) ++ be 2 (patrolFraction u 0) ++ be 2 (patrolFraction u 1)) false u)
  ∧ (∀ (dt : Ps) (q : Packet) (s u : State) (es : List LogEntry), u = arrived q (s.elapse dt) → ready (s.elapse dt) q 0x0A02 = true → q.params.length = 1 →
    1 ≤ fld q.params 0 1 → fld q.params 0 1 ≤ 64 → es = u.integ.log.take (fld q.params 0 1) →
    executed (exec (.integReadLog dt q) s) q 0x0A02 (be 1 es.length ++ es.flatMap logBytes) false
      { u with integ := { u.integ with log := u.integ.log.drop (fld q.params 0 1) } })
  ∧ (∀ (dt : Ps) (q : Packet) (s u : State), u = arrived q (s.elapse dt) → ready (s.elapse dt) q 0x0A03 = true → q.params.length = 4 → fld q.params 0 1 ≤ 1 →
    70 ≤ fld q.params 1 1 → fld q.params 1 1 ≤ 104 → (fld q.params 2 2 = 0 ∨ 10 ≤ fld q.params 2 2 ∧ fld q.params 2 2 ≤ 3600) →
    executed (exec (.integSetPolicy dt q) s) q 0x0A03 [] true { u with integ := { u.integ with
      tableContinue := decide (fld q.params 0 1 = 1), warnLimit := fld q.params 1 1, autoLeave := fld q.params 2 2 } })
  ∧ (∀ (dt : Ps) (q : Packet) (s u : State), u = arrived q (s.elapse dt) → ready (s.elapse dt) q 0x0A04 = true → (u.sys.mode = .commission ∨ u.sys.mode = .service) →
    q.params.length = 12 → fld q.params 0 1 ≤ 14 → fld q.params 2 1 ≤ 2 → (fld q.params 2 1 = 2 → fld q.params 0 1 = 13) → fld q.params 11 1 ≤ 38 →
    fld q.params 1 1 < injectIndexes (fld q.params 0 1) → fld q.params 3 8 < injectReach u (fld q.params 0 1) →
    executed (exec (.integInject dt q) s) q 0x0A04 [] true { u with integ := { u.integ with
      injected := { cls := fld q.params 0 1, index := (injectPlace (fld q.params 0 1) (fld q.params 1 1) (fld q.params 3 8)).1
                    addr := (injectPlace (fld q.params 0 1) (fld q.params 1 1) (fld q.params 3 8)).2
                    flips := injectFlips (fld q.params 2 1) (fld q.params 11 1) } :: u.integ.injected } })
  ∧ (∀ (dt : Ps) (q : Packet) (s u : State), u = arrived q (s.elapse dt) → ready (s.elapse dt) q 0x0A04 = true → (u.sys.mode = .commission ∨ u.sys.mode = .service) →
    q.params.length = 12 → fld q.params 0 1 ≤ 14 → fld q.params 2 1 ≤ 1 → injectIndexes (fld q.params 0 1) ≤ fld q.params 1 1 →
    refusedWith (exec (.integInject dt q) s) q 0x0A04 0x03 1 u)
  ∧ (∀ (dt : Ps) (q : Packet) (s u : State), u = arrived q (s.elapse dt) → ready (s.elapse dt) q 0x0A04 = true → (u.sys.mode = .commission ∨ u.sys.mode = .service) →
    q.params.length = 12 → fld q.params 0 1 ≤ 14 → fld q.params 2 1 ≤ 1 → fld q.params 1 1 < injectIndexes (fld q.params 0 1) →
    injectReach u (fld q.params 0 1) ≤ fld q.params 3 8 → refusedWith (exec (.integInject dt q) s) q 0x0A04 0x03 3 u)
  ∧ (∀ (dt : Ps) (q : Packet) (s u : State), u = arrived q (s.elapse dt) → ready (s.elapse dt) q 0x0A04 = true → (u.sys.mode = .commission ∨ u.sys.mode = .service) →
    q.params.length = 12 → fld q.params 2 1 = 3 → fld q.params 1 1 < 12 → fld q.params 11 1 ≤ 38 →
    (∃ f, f < 12 ∧ f ≠ fld q.params 1 1 ∧ (u.engine f).state ≠ .offline) →
    executed (exec (.integInject dt q) s) q 0x0A04 [] true (lockstepMismatch (fld q.params 1 1) u))
  ∧ (∀ (dt : Ps) (q : Packet) (s u : State), u = arrived q (s.elapse dt) → ready (s.elapse dt) q 0x0A04 = true → (u.sys.mode = .commission ∨ u.sys.mode = .service) →
    q.params.length = 12 → fld q.params 2 1 = 4 → fld q.params 11 1 ≤ 38 →
    executed (exec (.integInject dt q) s) q 0x0A04 [] true
      (addLog 7 (fld q.params 0 1) 0 0 (fld q.params 3 8) { u with integ := { u.integ with cBus := inc u.integ.cBus } }))
  ∧ (∀ (dt : Ps) (q : Packet) (s u : State), u = arrived q (s.elapse dt) → ready (s.elapse dt) q 0x0A04 = true → (u.sys.mode = .commission ∨ u.sys.mode = .service) →
    q.params.length = 12 → fld q.params 2 1 = 5 → fld q.params 11 1 ≤ 38 →
    exec (.integInject dt q) s = .next (lockout 5 (fld q.params 0 1) (BitVec.ofNat 32 (fld q.params 3 8)) u))
  ∧ (∀ (dt : Ps) (q : Packet) (s u : State), u = arrived q (s.elapse dt) → ready (s.elapse dt) q 0x0A04 = true → u.sys.mode ≠ .commission → u.sys.mode ≠ .service →
    refusedWith (exec (.integInject dt q) s) q 0x0A04 0x04 0xFFFF u)
  ∧ (∀ (dt : Ps) (q : Packet) (s u : State), u = arrived q (s.elapse dt) → ready (s.elapse dt) q 0x0A05 = true → u.sys.mode = .safe → q.params = [] →
    u.integ.clockFaults = [] → u.integ.monitorUntil ≤ u.now → u.integ.tj < 1600 → (∃ e, e < 12 ∧ (u.engine e).state ≠ .offline) →
    executed (exec (.integLeaveSafe dt q) s) q 0x0A05 [] true { u with host := { u.host with warmDue := true } })
  ∧ (∀ (dt : Ps) (q : Packet) (s u : State), u = arrived q (s.elapse dt) → ready (s.elapse dt) q 0x0A05 = true → u.sys.mode = .safe → q.params = [] →
    (u.integ.clockFaults ≠ [] ∨ u.now < u.integ.monitorUntil ∨ 1600 ≤ u.integ.tj ∨ ∀ e, e < 12 → (u.engine e).state = .offline) →
    refusedWith (exec (.integLeaveSafe dt q) s) q 0x0A05 0x01 0xFFFF u)
  ∧ (∀ (dt : Ps) (q : Packet) (s u : State), u = arrived q (s.elapse dt) → ready (s.elapse dt) q 0x0A05 = true → u.sys.mode ≠ .safe →
    refusedWith (exec (.integLeaveSafe dt q) s) q 0x0A05 0x04 0xFFFF u)
  ∧ (∀ (dt : Ps) (q : Packet) (s u : State), u = arrived q (s.elapse dt) → ready (s.elapse dt) q 0x0A06 = true → q.params = [] →
    ∃ (rails ppm : List Byte) (v : Nat), rails.length = 14 ∧ ppm.length = 56 ∧
      executed (exec (.diagGetMonitors dt q) s) q 0x0A06 (rails ++ ppm ++ u.integ.sensors.flatMap (fun x => be 2 (x % 65536).toNat)
        ++ be 2 ((u.detect.pins &&& BitVec.ofNat 16 v) ||| (u.integ.almHigh &&& ~~~u.detect.pins)).toNat) false { u with drawn := u.drawn + 23 })
  ∧ (∀ (dt : Ps) (q : Packet) (s u : State), u = arrived q (s.elapse dt) → ready (s.elapse dt) q 0x0A07 = true → q.params = [0] →
    executed (exec (.integGetCounters dt q) s) q 0x0A07 (cntBytes (integCounters u)) false u)
  ∧ (∀ (dt : Ps) (q : Packet) (s u : State), u = arrived q (s.elapse dt) → ready (s.elapse dt) q 0x0A07 = true → q.params = [1] →
    executed (exec (.integGetCounters dt q) s) q 0x0A07 (cntBytes (integCounters u)) true (clearInteg u)
    ∧ ∀ c, c ∈ integCounters (clearInteg u) → c = 0)

/-- The check code: a clean word reads clean, every error of one bit, of data, of check bits or of the stored address bit, is corrected, every
error of two data bits is uncorrectable, and a word read at an address of the other parity is an address error (R522 to R524). -/
def Obligations.CheckCodeCorrectsAndDetects : Prop :=
  (∀ (d : Word32) (a : Bool), eccRead d (secdedCheck d a) a a = .clean)
  ∧ (∀ (d : Word32) (a : Bool) (i : Nat), i < 32 → eccRead (d ^^^ (1#32 <<< i)) (secdedCheck d a) a a = .corrected d)
  ∧ (∀ (d : Word32) (a : Bool) (j : Nat), j < 7 → eccRead d (secdedCheck d a ^^^ (1#7 <<< j)) a a = .corrected d)
  ∧ (∀ (d : Word32) (a : Bool), eccRead d (secdedCheck d a) (!a) a = .corrected d)
  ∧ (∀ (d : Word32) (a : Bool) (i j : Nat), i < j → j < 32 →
    eccRead (d ^^^ (1#32 <<< i) ^^^ (1#32 <<< j)) (secdedCheck d a) a a = .uncorrectable)
  ∧ (∀ (d : Word32) (a : Bool) (i j : Nat), i < 32 → j < 7 →
    eccRead (d ^^^ (1#32 <<< i)) (secdedCheck d a ^^^ (1#7 <<< j)) a a = .uncorrectable)
  ∧ (∀ (d : Word32) (a : Bool), eccRead d (secdedCheck d a) a (!a) = .addressError)

/-- Memory errors and lockstep: a corrected word counts and is written back, an uncorrectable one counts and has its class's outcome, an engine
whose lockstep fails aborts its item, tests itself, and goes OFFLINE at the third abort within 3,600 s; a functional read leaves a word
without an error as it is, and a write leaves none in the word written (R524 to R534, R548). -/
def Obligations.MemoryAndEngineFaultsTakeEffect : Prop :=
  (∀ (dt : Ps) (s u : State) (e n : Nat) (b : Bool) (r : RobEntry), u = s.elapse dt → u.sys.phase = .running → e < 12 →
    (u.engine e).state = .running → (u.engine e).entry = some (n, b) → tabGet? n u.kernel.rob = some r → r.discard = false →
    (∀ t, t ∈ (u.engine e).aborts → t + 3600000000000000 ≤ u.now) →
    ∃ v, exec (.engineLockstepMismatch dt e) s = .next v ∧ (v.engine e).state = .selftest ∧ (v.engine e).entry = none
      ∧ (v.engine e).selftestEnd = u.now + 200000000 ∧ tabGet? n v.kernel.rob = some { r with state := .aborted, notOn := some e }
      ∧ v.integ.cAborts = inc u.integ.cAborts ∧ v.sys = u.sys)
  ∧ (∀ (dt : Ps) (s u : State) (e : Nat) (t1 t2 : Ps) (rest : List Ps), u = s.elapse dt → u.sys.phase = .running → e < 12 →
    (u.engine e).state = .waiting → (u.engine e).aborts = t1 :: t2 :: rest → u.now < t1 + 3600000000000000 → u.now < t2 + 3600000000000000 →
    (∃ f, f < 12 ∧ f ≠ e ∧ (u.engine f).state ≠ .offline) →
    ∃ v, exec (.engineLockstepMismatch dt e) s = .next v ∧ (v.engine e).state = .offline ∧ v.sys = u.sys)
  ∧ (∀ (dt : Ps) (s u : State) (e : Nat), u = s.elapse dt → u.sys.phase = .running → e < 12 → (u.engine e).state = .selftest →
    (u.engine e).selftestEnd ≤ u.now →
    exec (.engineSelftestDone dt e true) s = .next (u.setEngine e { u.engine e with state := .waiting }))
  ∧ (∀ (dt : Ps) (s u : State) (e : Nat), u = s.elapse dt → u.sys.phase = .running → e < 12 → (u.engine e).state = .selftest →
    (u.engine e).selftestEnd ≤ u.now → (∃ f, f < 12 ∧ f ≠ e ∧ (u.engine f).state ≠ .offline) →
    exec (.engineSelftestDone dt e false) s = .next ({ u with integ := { u.integ with cSelftest := inc u.integ.cSelftest } }.setEngine e
      { u.engine e with state := .offline }))
  ∧ (∀ (dt : Ps) (s u : State) (cls item addr : Nat) (stored : BitVec 39), u = s.elapse dt → u.sys.phase = .running → cls < 12 →
    u.integ.injected = [] → eccRead (stored.extractLsb' 0 32) (stored.extractLsb' 32 7) false false = .clean →
    exec (.sramScrubRead dt cls item addr stored false) s = .next u)
  ∧ (∀ (dt : Ps) (s u : State) (cls item addr : Nat) (stored : BitVec 39) (d : Word32) (written : Bool), u = s.elapse dt →
    u.sys.phase = .running → cls < 12 → u.integ.injected = [] →
    eccRead (stored.extractLsb' 0 32) (stored.extractLsb' 32 7) false false = .corrected d →
    ∃ v, exec (.sramScrubRead dt cls item addr stored written) s = .next v
      ∧ v = { u with integ := { u.integ with cCe := v.integ.cCe, log := v.integ.log, cWbCancelled := v.integ.cWbCancelled } }
      ∧ vget 0 v.integ.cCe cls = inc (vget 0 u.integ.cCe cls)
      ∧ v.integ.cWbCancelled = (if written then inc u.integ.cWbCancelled else u.integ.cWbCancelled)
      ∧ v.integ.log.getLast? = some { time := u.stamp, cls := 1, unit := cls, outcome := 0, syndrome := wordSyndrome stored, address := (if 4 ≤ cls ∧ cls ≤ 6 then item % 12 * 4294967296 + addr else addr) })
  ∧ (∀ (dt : Ps) (s u : State) (cls item addr : Nat) (stored : BitVec 39), u = s.elapse dt → u.sys.phase = .running → cls < 12 →
    u.integ.injected = [] → eccRead (stored.extractLsb' 0 32) (stored.extractLsb' 32 7) false false = .uncorrectable →
    exec (.sramScrubRead dt cls item addr stored false) s = .next (sramBad cls item addr (wordSyndrome stored)
      (addLog 2 cls (if cls = 6 then 0 else 1) (wordSyndrome stored) (if 4 ≤ cls ∧ cls ≤ 6 then item % 12 * 4294967296 + addr else addr) { u with integ := { u.integ with cUe := vset u.integ.cUe cls (inc (vget 0 u.integ.cUe cls)) } })))
  ∧ (∀ (s : State) (item addr y : Nat), addr < 6 → (s.ctx item).state ≠ .free → sramBad 0 item addr y s = streamRemove item s)
  ∧ (∀ (s : State) (item addr y : Nat), 6 ≤ addr → (s.ctx item).state ≠ .free → sramBad 0 item addr y s = streamRebind s.stamp item (s.ctx item).key s)
  ∧ (∀ (s : State) (item addr y : Nat), s.integ.tableContinue = false → sramBad 3 item addr y s = lockout 2 3 (BitVec.ofNat 32 addr) s)
  ∧ (∀ (s : State) (item addr y : Nat), sramBad 11 item addr y s = lockout 2 11 (BitVec.ofNat 32 addr) s)
  ∧ (∀ (dt : Ps) (s u : State) (item : ReserveItem) (stored : BitVec 39), u = s.elapse dt → u.sys.phase ≠ .unpowered →
    u.integ.injected = [] → eccRead (stored.extractLsb' 0 32) (stored.extractLsb' 32 7) false false = .uncorrectable →
    exec (.reserveScrub dt item stored) s = .next (reserveItemLost item
      (addLog 2 12 1 (wordSyndrome stored) ((reservePlace item).1 * 4294967296 + (reservePlace item).2) { u with integ := { u.integ with cUe := vset u.integ.cUe 12 (inc (vget 0 u.integ.cUe 12)) } })))
  ∧ (∀ (s : State), (reserveItemLost .safeEntries s).integ.safeEntries = 0 ∧ (reserveItemLost .clearCount s).energy.clearCount = 0
    ∧ (reserveItemLost .timeBase s).time.valid = false)
  ∧ (∀ (dt : Ps) (s u : State) (ch addr : Nat) (d : Word32) (chk : BitVec 8) (w : Word32), u = s.elapse dt → u.sys.phase = .running → ch < 2 →
    u.sys.mode ≠ .dormant → u.integ.injected = [] →
    eccRead d (chk.extractLsb' 0 7) (chk.getLsbD 7) (addrParity addr) = .corrected w → (vget [] u.integ.writeBacks ch).length < 16 →
    addr / 64 ∉ vget [] u.integ.writeBacks ch →
    ∃ v, exec (.patrolRead dt ch addr d chk) s = .next v
      ∧ vget [] v.integ.writeBacks ch = vget [] u.integ.writeBacks ch ++ [addr / 64]
      ∧ vget 0 v.integ.patrol ch = (addr / 64 + 1) % (u.sys.capacity * 8388608) ∧ vget 0 v.integ.cCe 13 = inc (vget 0 u.integ.cCe 13))
  ∧ (∀ (dt : Ps) (s u : State) (ch addr : Nat) (d : Word32) (chk : BitVec 8) (w : Word32), u = s.elapse dt → u.sys.phase = .running → ch < 2 →
    u.sys.mode ≠ .dormant → u.integ.injected = [] →
    eccRead d (chk.extractLsb' 0 7) (chk.getLsbD 7) (addrParity addr) = .corrected w → 16 ≤ (vget [] u.integ.writeBacks ch).length →
    addr / 64 ∉ vget [] u.integ.writeBacks ch →
    ∃ v, exec (.patrolRead dt ch addr d chk) s = .next v ∧ v.integ.writeBacks = u.integ.writeBacks ∧ v.integ.cWbFull = inc u.integ.cWbFull)
  ∧ (∀ (s : State) (ch addr : Nat), injectedFlips 13 ch addr s = 0 → readBeat ch addr s = s)
  ∧ (∀ (s : State) (addr n ch : Nat), ch < 2 → (∀ w, w ∈ vget [] (dramWritten addr n s).integ.writeBacks ch ↔
      w ∈ vget [] s.integ.writeBacks ch ∧ (addr + n ≤ accessAddr ch w ∨ accessAddr ch w + 64 ≤ addr))
    ∧ (∀ x, x ∈ (dramWritten addr n s).integ.injected → x ∈ s.integ.injected))
  ∧ (∀ (s : State) (cls item addr : Nat), injectedFlips cls item addr s = 0 → readWord cls item addr s = s)
  ∧ (∀ (s : State) (cls item addr : Nat), injectedFlips cls item addr (wordWritten cls item addr s) = 0)
  ∧ (∀ (dt : Ps) (s u : State) (ch w : Nat) (rest : List Nat), u = s.elapse dt → ch < 2 → vget [] u.integ.writeBacks ch = w :: rest →
    ∃ v, exec (.dramWriteback dt ch) s = .next v ∧ vget [] v.integ.writeBacks ch = rest
      ∧ v = { u with integ := { u.integ with writeBacks := v.integ.writeBacks, injected := v.integ.injected } })

/-- Lockouts and monitors: a lockout leaves the fault's record and a FAULT reset; clocks, reserve supply, temperature, alarm pins, the
watchdog's service and the exit from SAFE by time; a lockout on the edge of a watchdog reset prevails over it (R537, R540 to R547, R573). -/
def Obligations.LockoutsAndMonitorsTakeEffect : Prop :=
  (∀ (dt : Ps) (s u : State) (cls unit : Nat) (detail : Word32), u = s.elapse dt → u.sys.phase = .running →
    exec (.lockout dt cls unit detail) s = .next (lockout cls unit detail u))
  ∧ (∀ (dt : Ps) (s u : State) (cls unit : Nat) (detail : Word32), u = s.elapse dt → u.sys.phase ≠ .running →
    (u.sys.phase ≠ .held .wdog ∨ u.sys.lastResetAt ≠ u.stamp) → exec (.lockout dt cls unit detail) s = .next u)
  ∧ (∀ (dt : Ps) (s u : State) (cls unit : Nat) (detail : Word32), u = s.elapse dt → u.sys.phase = .held .wdog → u.sys.lastResetAt = u.stamp →
    u.host.executing = none → ∃ v, exec (.lockout dt cls unit detail) s = .next v ∧ v.sys.phase = .held .fault ∧ v.sys.lastReset = .fault
      ∧ v.sys.prevMode = u.sys.prevMode ∧ v.sys.wdogTimes = u.sys.wdogTimes.drop 1
      ∧ v.integ.lastFault = { time := u.stamp, cls, unit, detail })
  ∧ (∀ (s t : State) (cls unit : Nat) (detail : Word32), s.host.executing = none → t = lockout cls unit detail s →
    t.integ.lastFault = { time := s.stamp, cls, unit, detail } ∧ t.sys.phase = .held .fault ∧ t.sys.mode = .boot ∧ t.sys.prevMode = s.sys.mode
      ∧ t.sys.lastReset = .fault ∧ t.sys.history = countHistory ResetKind.fault.code s.sys.history ∧ t.align = {} ∧ t.ingress = {} ∧ t.kernel = {}
      ∧ t.egress = {} ∧ t.detect = {} ∧ t.front = {} ∧ t.time.tb = s.time.tb ∧ t.time.valid = s.time.valid ∧ t.upd.flashJournal = s.upd.flashJournal)
  ∧ (∀ (dt : Ps) (s u : State) (d : ClockDomain), u = s.elapse dt → u.sys.phase = .running →
    (d = .refclk ∨ d = .tclk ∨ d = .eclk ∨ d = .fclk ∨ d = .mclk ∨ d = .nclk ∨ d = .sclk ∨ d = .modclk ∨ d = .aclk ∨ d = .qclk) →
    exec (.clockFault dt d) s = .next (lockout 8 (domainCode d) 0 u))
  ∧ (∀ (dt : Ps) (s u : State), u = s.elapse dt → u.sys.phase = .running → u.time.servo = .locked →
    ∃ v, exec (.clockFault dt .kclk) s = .next v ∧ v.time = { u.time with kclkFail := true } ∧ .kclk ∈ v.integ.clockFaults ∧ v.sys = u.sys)
  ∧ (∀ (dt : Ps) (s u : State), u = s.elapse dt → u.sys.phase = .running → u.host.mgmtLink = true →
    ∃ v, exec (.clockFault dt .gclk) s = .next v ∧ v.host.mgmtLink = false ∧ .gclk ∈ v.integ.clockFaults ∧ v.sys = u.sys)
  ∧ (∀ (dt : Ps) (s u : State), u = s.elapse dt → u.sys.phase = .running → u.sys.straps.svcEn = false →
    exec (.clockFault dt .vclk) s = .next u)
  ∧ (∀ (dt : Ps) (s u : State), u = s.elapse dt → u.sys.phase = .running → u.host.pcieUp = true →
    ∃ v, exec (.clockFault dt .pclk) s = .next v ∧ v.host.pcieUp = false ∧ v.host.busMaster = false ∧ .pclk ∈ v.integ.clockFaults ∧ v.sys = u.sys)
  ∧ (∀ (dt : Ps) (s u : State), u = s.elapse dt → u.sys.phase = .running →
    exec (.reserveUnavailable dt) s = .next { u with integ := { u.integ with reserveUnavailable := true } })
  ∧ (∀ (dt : Ps) (s u : State) (x : Int) (l : List Int), u = s.elapse dt → mainsOn u = true → l.length = 7 → l.foldl max x < 1760 →
    ∃ v, exec (.tempSample dt (x :: l)) s = .next v ∧ v.integ.tj = l.foldl max x ∧ v.integ.tjMax = max u.integ.tjMax (l.foldl max x)
      ∧ v.integ.sensors = x :: l ∧ v.integ.hotSince = none ∧ v.sys = u.sys
      ∧ v.integ.tempWarn = (if (u.integ.warnLimit : Int) * 16 ≤ l.foldl max x then true
          else if l.foldl max x ≤ (u.integ.warnLimit : Int) * 16 - 32 then false else u.integ.tempWarn))
  ∧ (∀ (dt : Ps) (s u : State) (x : Int) (l : List Int) (t0 : Ps), u = s.elapse dt → u.sys.phase = .running → l.length = 7 →
    1760 ≤ l.foldl max x → u.integ.hotSince = some t0 → t0 + 1000000000 ≤ u.now →
    ∃ v, exec (.tempSample dt (x :: l)) s = .next v ∧ v.sys.phase = .held .fault ∧ v.integ.lastFault.cls = 10)
  ∧ (∀ (dt : Ps) (s u : State) (t0 : Ps), u = s.elapse dt → mainsOn u = true → u.integ.scorchSince = some t0 → t0 + 100000000 ≤ u.now →
    exec (.thermalShutdown dt) s = .next (wipe .por .thermal u))
  ∧ (∀ (dt : Ps) (s u : State), u = s.elapse dt → u.sys.phase = .thermal → u.integ.tj < 1600 →
    exec (.thermalShutdownEnd dt) s = .next (resetEdge .por u))
  ∧ (∀ (dt : Ps) (s u : State), u = s.elapse dt → (u.sys.phase ≠ .thermal ∨ 1600 ≤ u.integ.tj) → exec (.thermalShutdownEnd dt) s = .next u)
  ∧ (∀ (dt : Ps) (s u : State) (pin : Nat), u = s.elapse dt → u.sys.phase = .running → pin < 16 → u.detect.pins.getLsbD pin = false →
    ∃ v, exec (.almReadback dt pin true) s = .next v ∧ v.integ.almFault = u.integ.almFault ||| (1#16 <<< pin)
      ∧ v.integ.almHigh = u.integ.almHigh ||| (1#16 <<< pin)
      ∧ v.integ.cAlm = inc u.integ.cAlm ∧ v.detect = u.detect)
  ∧ (∀ (dt : Ps) (s u : State) (pin : Nat), u = s.elapse dt → u.sys.phase = .running → pin < 16 → u.detect.pins.getLsbD pin = false →
    exec (.almReadback dt pin false) s = .next { u with integ := { u.integ with almHigh := u.integ.almHigh &&& ~~~(1#16 <<< pin) } })
  ∧ (∀ (dt : Ps) (s u : State) (pin : Nat) (high : Bool), u = s.elapse dt → u.detect.pins.getLsbD pin = true →
    exec (.almReadback dt pin high) s = .next u)
  ∧ (∀ (dt : Ps) (s u : State), u = s.elapse dt → u.sys.phase = .running →
    exec (.watchdogService dt) s = .next { u with sys := { u.sys with wdogAt := u.now } })
  ∧ (∀ (dt : Ps) (s u : State), u = s.elapse dt → u.sys.phase = .running → u.sys.mode = .safe → 0 < u.integ.autoLeave →
    u.integ.safeSince + u.integ.autoLeave * 1000000000000 ≤ u.now → safeBlocked u = false → u.integ.safeStay = false → u.integ.noInterface = false →
    exec (.autoLeaveSafe dt) s = .next (resetEdge .warm { u with integ := { u.integ with autoLeaves := u.stamp :: recentLeaves u } }))
  ∧ (∀ (dt : Ps) (s u : State), u = s.elapse dt → (safeBlocked u = true ∨ u.integ.safeStay = true ∨ u.integ.noInterface = true) → exec (.autoLeaveSafe dt) s = .next u)
  ∧ (∀ (s : State) (ok : Bool), (enterSafe ok s).integ.safeStay = decide (3 ≤ (recentLeaves s).length) ∧ (enterSafe ok s).sys.mode = .safe
    ∧ (enterSafe ok s).integ.noInterface = !ok)

/-- The security commands: the nonce, spent by the next 0x0B02 or 0x0B03 that carries it; moves of the lifecycle and owner roots, which a
fitting signature starts, with the fuses and the root written at their end, the root verifying images from the next reset on; the CAK slots
of MKA and what MKA's status answers (R555, R556, R559 to R561, R566, R569). Nonces, the management port's packet number and the key server
of a tie are free values (log entry 4); signatures are opaque (log entry 6). -/
def Obligations.SecurityCommandsTakeEffect : Prop :=
  (∀ (dt : Ps) (q : Packet) (s u : State), u = arrived q (s.elapse dt) → ready (s.elapse dt) q 0x0B01 = true → q.params = [] →
    ∃ v : Nat, executed (exec (.secGetLifecycle dt q) s) q 0x0B01 (be 1 u.sys.lifecycle.code ++ be 16 v ++ u.sec.vendorRoot
      ++ be 1 (bitsOf (u.sec.owner.toList.map (·.isSome))) ++ (ownerRoot u).getD (List.replicate 48 0) ++ be 1 (fuseStray u.sec.fuses)
      ++ be 1 (movesMask u)) false { u with drawn := u.drawn + 1, sec := { u.sec with nonce := some (be 16 v) } })
  ∧ (∀ (dt : Ps) (q : Packet) (s u : State) (n : List Byte), u = arrived q (s.elapse dt) → ready (s.elapse dt) q 0x0B02 = true →
    (u.sys.mode = .commission ∨ u.sys.mode = .service) → q.params.length = 210 → fld q.params 0 1 ≤ 5 →
    moveListed u.sys.lifecycle (fld q.params 0 1) = true → u.upd.trialEnd = none → n = slice q.params 1 16 → u.sec.nonce = some n →
    moveRoot u (fld q.params 0 1) = some (Config.sha384 (slice q.params 17 97)) →
    Config.ecdsaOk (slice q.params 17 97) (lifecycleBlock u (fld q.params 0 1) n) (slice q.params 114 96) = true →
    executing (exec (.secSetLifecycle dt q) s) (.lifecycle (fld q.params 0 1)) { u with sec := { u.sec with nonce := none } })
  ∧ (∀ (dt : Ps) (q : Packet) (s u : State), u = arrived q (s.elapse dt) → ready (s.elapse dt) q 0x0B02 = true → (u.sys.mode = .commission ∨ u.sys.mode = .service) →
    q.params.length = 210 → fld q.params 0 1 ≤ 5 → moveListed u.sys.lifecycle (fld q.params 0 1) = false →
    refusedWith (exec (.secSetLifecycle dt q) s) q 0x0B02 0x07 0xFFFF (spendNonce (slice q.params 1 16) u))
  ∧ (∀ (dt : Ps) (q : Packet) (s u : State) (t : Ps), u = arrived q (s.elapse dt) → ready (s.elapse dt) q 0x0B02 = true →
    (u.sys.mode = .commission ∨ u.sys.mode = .service) → q.params.length = 210 → fld q.params 0 1 ≤ 5 →
    moveListed u.sys.lifecycle (fld q.params 0 1) = true → u.upd.trialEnd = some t →
    refusedWith (exec (.secSetLifecycle dt q) s) q 0x0B02 0x01 0xFFFF (spendNonce (slice q.params 1 16) u))
  ∧ (∀ (dt : Ps) (q : Packet) (s u : State) (n : List Byte), u = arrived q (s.elapse dt) → ready (s.elapse dt) q 0x0B02 = true →
    (u.sys.mode = .commission ∨ u.sys.mode = .service) → q.params.length = 210 → fld q.params 0 1 ≤ 5 →
    moveListed u.sys.lifecycle (fld q.params 0 1) = true → u.upd.trialEnd = none → n = slice q.params 1 16 → u.sec.nonce = some n →
    moveRoot u (fld q.params 0 1) ≠ some (Config.sha384 (slice q.params 17 97)) →
    refusedWith (exec (.secSetLifecycle dt q) s) q 0x0B02 0x03 17 { u with sec := { u.sec with nonce := none } })
  ∧ (∀ (dt : Ps) (q : Packet) (s u : State), u = arrived q (s.elapse dt) → ready (s.elapse dt) q 0x0B02 = true → (u.sys.mode = .commission ∨ u.sys.mode = .service) →
    q.params.length = 210 → fld q.params 0 1 ≤ 5 → moveListed u.sys.lifecycle (fld q.params 0 1) = true → u.upd.trialEnd = none →
    u.sec.nonce ≠ some (slice q.params 1 16) → refusedWith (exec (.secSetLifecycle dt q) s) q 0x0B02 0x03 1 u)
  ∧ (∀ (dt : Ps) (q : Packet) (s u : State) (n : List Byte), u = arrived q (s.elapse dt) → ready (s.elapse dt) q 0x0B02 = true →
    (u.sys.mode = .commission ∨ u.sys.mode = .service) → q.params.length = 210 → fld q.params 0 1 ≤ 5 →
    moveListed u.sys.lifecycle (fld q.params 0 1) = true → u.upd.trialEnd = none → n = slice q.params 1 16 → u.sec.nonce = some n →
    moveRoot u (fld q.params 0 1) = some (Config.sha384 (slice q.params 17 97)) →
    Config.ecdsaOk (slice q.params 17 97) (lifecycleBlock u (fld q.params 0 1) n) (slice q.params 114 96) = false →
    refusedWith (exec (.secSetLifecycle dt q) s) q 0x0B02 0x03 114 { u with sec := { u.sec with nonce := none } })
  ∧ (∀ (dt : Ps) (q : Packet) (s u : State) (n : List Byte), u = arrived q (s.elapse dt) → ready (s.elapse dt) q 0x0B03 = true →
    (u.sys.mode = .commission ∨ u.sys.mode = .service) → q.params.length = 307 → fld q.params 0 1 ≤ 3 → u.sys.lifecycle ≠ .manufacture →
    fld q.params 0 1 = freeSlot u → n = slice q.params 1 16 → u.sec.nonce = some n →
    ownerRoot u = some (Config.sha384 (slice q.params 114 97)) →
    Config.ecdsaOk (slice q.params 114 97) (rootBlock u (fld q.params 0 1) n (slice q.params 17 97)) (slice q.params 211 96) = true →
    executing (exec (.secSetOwnerRoot dt q) s) (.ownerRoot (fld q.params 0 1) (Config.sha384 (slice q.params 17 97)))
      { u with sec := { u.sec with nonce := none } })
  ∧ (∀ (dt : Ps) (q : Packet) (s u : State), u = arrived q (s.elapse dt) → ready (s.elapse dt) q 0x0B03 = true → (u.sys.mode = .commission ∨ u.sys.mode = .service) →
    q.params.length = 307 → fld q.params 0 1 ≤ 3 → freeSlot u = 4 →
    refusedWith (exec (.secSetOwnerRoot dt q) s) q 0x0B03 0x05 0xFFFF (spendNonce (slice q.params 1 16) u))
  ∧ (∀ (dt : Ps) (q : Packet) (s u : State) (n : List Byte), u = arrived q (s.elapse dt) → ready (s.elapse dt) q 0x0B03 = true →
    (u.sys.mode = .commission ∨ u.sys.mode = .service) → q.params.length = 307 → fld q.params 0 1 = 0 → u.sys.lifecycle = .manufacture →
    freeSlot u = 0 → n = slice q.params 1 16 → u.sec.nonce = some n → slice q.params 114 97 = slice q.params 17 97 →
    Config.ecdsaOk (slice q.params 17 97) (rootBlock u 0 n (slice q.params 17 97)) (slice q.params 211 96) = true →
    executing (exec (.secSetOwnerRoot dt q) s) (.ownerRoot 0 (Config.sha384 (slice q.params 17 97)))
      { u with sec := { u.sec with nonce := none } })
  ∧ (∀ (dt : Ps) (q : Packet) (s u : State), u = arrived q (s.elapse dt) → ready (s.elapse dt) q 0x0B03 = true → (u.sys.mode = .commission ∨ u.sys.mode = .service) →
    q.params.length = 307 → fld q.params 0 1 ≤ 3 → u.sys.lifecycle = .manufacture → 1 ≤ freeSlot u → freeSlot u ≤ 3 →
    refusedWith (exec (.secSetOwnerRoot dt q) s) q 0x0B03 0x07 0xFFFF (spendNonce (slice q.params 1 16) u))
  ∧ (∀ (dt : Ps) (q : Packet) (s u : State), u = arrived q (s.elapse dt) → ready (s.elapse dt) q 0x0B03 = true → (u.sys.mode = .commission ∨ u.sys.mode = .service) →
    q.params.length = 307 → fld q.params 0 1 ≤ 3 → u.sys.lifecycle ≠ .manufacture → freeSlot u ≤ 3 → fld q.params 0 1 ≠ freeSlot u →
    refusedWith (exec (.secSetOwnerRoot dt q) s) q 0x0B03 0x03 0 (spendNonce (slice q.params 1 16) u))
  ∧ (∀ (dt : Ps) (q : Packet) (s u v : State), u = arrived q (s.elapse dt) → ready (s.elapse dt) q 0x0B04 = true → q.params.length = 69 → fld q.params 0 1 ≤ 4 →
    fld q.params 1 1 ≤ 1 → fld q.params 2 1 ≤ 2 → (fld q.params 2 1 = 1 → 1 ≤ fld q.params 3 1 ∧ fld q.params 3 1 ≤ 32) →
    (fld q.params 0 1 = 4 → q.ifc ≠ 1) →
    v = { u with host := { u.host with
      settings := recordSetting (mkaSetting q.params u.sys.lifecycle.domain) u.host.settings } } →
    executed (exec (.secSetMka dt q) s) q 0x0B04 [] true (applyMka q.params u.sys.lifecycle.domain v))
  ∧ (∀ (dt : Ps) (q : Packet) (s u : State), u = arrived q (s.elapse dt) → ready (s.elapse dt) q 0x0B04 = true → q.params.length = 69 → fld q.params 0 1 = 4 →
    fld q.params 1 1 ≤ 1 → fld q.params 2 1 ≤ 2 → (fld q.params 2 1 = 1 → 1 ≤ fld q.params 3 1 ∧ fld q.params 3 1 ≤ 32) → q.ifc = 1 →
    executed (exec (.secSetMka dt q) s) q 0x0B04 [] true { u with sec := { u.sec with mkaNext := some q.params } })
  ∧ (∀ (p : List Byte) (s : State) (k i : Nat), fld p 0 1 = k → k < 4 → fld p 1 1 = i → i < 2 → fld p 2 1 = 1 → (s.mka k).inUse ≠ i →
    ((applyMka p s.sys.lifecycle.domain s).mka k) = { s.mka k with
      priority := fld p 68 1
      slots := vset (s.mka k).slots i (some {
        ckn := slice p 4 (fld p 3 1), cak := slice p 36 32, domain := s.sys.lifecycle.domain, failed := false }) })
  ∧ (∀ (p : List Byte) (s : State) (k i : Nat), fld p 0 1 = k → k < 4 → fld p 1 1 = i → fld p 2 1 = 2 → (s.mka k).inUse ≠ i →
    ((applyMka p s.sys.lifecycle.domain s).mka k) = { s.mka k with
      priority := fld p 68 1, inUse := i, peers := [], installed := false, rx := [], keyNumber := 0, an := 0, asked := false }
    ∧ ((applyMka p s.sys.lifecycle.domain s).tx k).sa = false)
  ∧ (∀ (dt : Ps) (q : Packet) (s u : State) (k : Nat) (x : MkaPort), u = arrived q (s.elapse dt) → ready (s.elapse dt) q 0x0B05 = true → q.params.length = 1 →
    fld q.params 0 1 = k → k < 4 → x = u.mka k → x.cak = none →
    executed (exec (.secGetMkaStatus dt q) s) q 0x0B05 (be 1 x.inUse ++ slotStatus x 0 ++ slotStatus x 1 ++ be 1 0 ++ be 1 x.peers.length
      ++ be 4 x.keyNumber ++ be 1 x.an ++ be 4 (u.tx k).pn ++ be 4 x.installs) false u)
  ∧ (∀ (dt : Ps) (q : Packet) (s u : State) (k : Nat) (x : MkaPort), u = arrived q (s.elapse dt) → ready (s.elapse dt) q 0x0B05 = true → q.params.length = 1 →
    fld q.params 0 1 = k → k < 4 → x = u.mka k → x.cak.isSome = true → (∀ y, y ∈ x.peers → x.priority < y.2.1) →
    executed (exec (.secGetMkaStatus dt q) s) q 0x0B05 (be 1 x.inUse ++ slotStatus x 0 ++ slotStatus x 1 ++ be 1 1 ++ be 1 x.peers.length
      ++ be 4 x.keyNumber ++ be 1 x.an ++ be 4 (u.tx k).pn ++ be 4 x.installs) false u)
  ∧ (∀ (dt : Ps) (q : Packet) (s u : State) (k : Nat) (x : MkaPort), u = arrived q (s.elapse dt) → ready (s.elapse dt) q 0x0B05 = true → q.params.length = 1 →
    fld q.params 0 1 = k → k ≤ 4 → x = u.mka k →
    ∃ server pn d : Nat, server ≤ 1 ∧ (x.cak = none → server = 0) ∧ ((∃ y, y ∈ x.peers ∧ y.2.1 < x.priority) → server = 0)
      ∧ (k < 4 → pn = (u.tx k).pn)
      ∧ executed (exec (.secGetMkaStatus dt q) s) q 0x0B05 (be 1 x.inUse ++ slotStatus x 0 ++ slotStatus x 1 ++ be 1 server
        ++ be 1 x.peers.length ++ be 4 x.keyNumber ++ be 1 x.an ++ be 4 pn ++ be 4 x.installs) false { u with drawn := d })
  ∧ (∀ (dt : Ps) (s u : State) (e : Exec) (t : Nat), u = s.elapse dt → u.commandsRun = true → u.host.executing = some e → e.op = .lifecycle t →
    1 ≤ t → t ≤ 5 → ∃ v, exec (.commandComplete dt true) s = .next v ∧ vget 0 v.sec.fuses (t - 1) = 8 ∧ v.host.warmDue = true
      ∧ v.host.executing = none)
  ∧ (∀ (dt : Ps) (s u : State) (e : Exec) (i : Nat) (d : List Byte), u = s.elapse dt → u.commandsRun = true → u.host.executing = some e →
    e.op = .ownerRoot i d → i < 4 → journalMustCommit u = false →
    d.length = 48 → (∃ b, b ∈ d ∧ b ≠ 0) →
    ∃ v, exec (.commandComplete dt true) s = .next v ∧ vget [] v.sec.otp.slots i = otpWords d ∧ vget none v.sec.owner i = some d
      ∧ v.sec.imageRoot = u.sec.imageRoot ∧ v.host.executing = none)
  ∧ (∀ (s : State), (latchRoot s).sec.imageRoot = ownerRoot s)
  ∧ (∀ (s : State), (s.sys.lifecycle = .provisioned ∨ s.sys.lifecycle = .field → imageRootNow s = s.sec.imageRoot)
    ∧ (s.sys.lifecycle = .manufacture ∨ s.sys.lifecycle = .return → imageRootNow s = some s.sec.vendorRoot))

/-- The update commands: in COMMISSION, ACTIVE, STANDBY and SERVICE; what a header must pass, writes in order and the write given again, the
start of the end of an image, status, confirmation within the trial and abort (R597 to R599, R604, R607). The progress of a copy is a free
figure (log entry 21). -/
def Obligations.UpdateCommandsTakeEffect : Prop :=
  (∀ (dt : Ps) (q : Packet) (s u : State), u = arrived q (s.elapse dt) → ready (s.elapse dt) q 0x0C01 = true → updModes u.sys.mode = true → q.params.length = 256 →
    u.upd.trialEnd = none → u.upd.session = none → u.upd.copy = false → headerCheck u.sec.otp q.params = none →
    executing (exec (.updBegin dt q) s) (.updBegin q.params) u)
  ∧ (∀ (dt : Ps) (q : Packet) (s u : State) (st : Nat), u = arrived q (s.elapse dt) → ready (s.elapse dt) q 0x0C01 = true → updModes u.sys.mode = true →
    q.params.length = 256 → u.upd.trialEnd = none → u.upd.session = none → u.upd.copy = false → headerCheck u.sec.otp q.params = some st →
    refusedWith (exec (.updBegin dt q) s) q 0x0C01 st 0xFFFF u)
  ∧ (∀ (dt : Ps) (q : Packet) (s u : State), u = arrived q (s.elapse dt) → ready (s.elapse dt) q 0x0C01 = true → u.sys.mode = .safe →
    refusedWith (exec (.updBegin dt q) s) q 0x0C01 0x04 0xFFFF u)
  ∧ (∀ (dt : Ps) (q : Packet) (s u : State), u = arrived q (s.elapse dt) → ready (s.elapse dt) q 0x0C01 = true → updModes u.sys.mode = true → q.params.length = 256 →
    (u.upd.trialEnd.isSome = true ∨ u.upd.session.isSome = true ∨ u.upd.copy = true) →
    refusedWith (exec (.updBegin dt q) s) q 0x0C01 0x01 0xFFFF u)
  ∧ (∀ (m : Mode), updModes m = true ↔ m = .commission ∨ m = .active ∨ m = .standby ∨ m = .service)
  ∧ (∀ (u : Otp) (h : List Byte), h.take 4 ≠ ascii "PRTR" → headerCheck u h = some 0x10)
  ∧ (∀ (u : Otp) (h : List Byte), h.take 4 = ascii "PRTR" → fld h 4 1 = 1 → hdrClass h = 1 → fld h 6 2 = 0x7216 → fld h 8 1 ≤ 0xB0 →
    fld h 10 2 < u.fwArb → headerCheck u h = some 0x12)
  ∧ (∀ (u : Otp) (h : List Byte), h.take 4 = ascii "PRTR" → fld h 4 1 = 1 → hdrClass h = 16 → 4194048 < hdrLen h → headerCheck u h = some 0x13)
  ∧ (∀ (dt : Ps) (q : Packet) (s u : State) (x : UpdSession) (o : Nat), u = arrived q (s.elapse dt) → ready (s.elapse dt) q 0x0C02 = true → updModes u.sys.mode = true →
    q.params.length = 6 + fld q.params 4 2 → 1 ≤ fld q.params 4 2 → fld q.params 4 2 ≤ 16384 → u.upd.session = some x → fld q.params 0 4 = o →
    x.lastWrite ≠ some (o, q.params.drop 6) → o = x.received.length → o + fld q.params 4 2 ≤ hdrLen x.header →
    executing (exec (.updWrite dt q) s) (.updWrite o (q.params.drop 6)) u)
  ∧ (∀ (dt : Ps) (q : Packet) (s u : State) (x : UpdSession), u = arrived q (s.elapse dt) → ready (s.elapse dt) q 0x0C02 = true → updModes u.sys.mode = true →
    q.params.length = 6 + fld q.params 4 2 → 1 ≤ fld q.params 4 2 → fld q.params 4 2 ≤ 16384 → u.upd.session = some x →
    x.lastWrite = some (fld q.params 0 4, q.params.drop 6) → executed (exec (.updWrite dt q) s) q 0x0C02 (be 4 x.received.length) true u)
  ∧ (∀ (dt : Ps) (q : Packet) (s u : State) (x : UpdSession), u = arrived q (s.elapse dt) → ready (s.elapse dt) q 0x0C02 = true → updModes u.sys.mode = true →
    q.params.length = 6 + fld q.params 4 2 → 1 ≤ fld q.params 4 2 → fld q.params 4 2 ≤ 16384 → u.upd.session = some x →
    x.lastWrite ≠ some (fld q.params 0 4, q.params.drop 6) → fld q.params 0 4 ≠ x.received.length →
    refusedWith (exec (.updWrite dt q) s) q 0x0C02 0x03 0 u)
  ∧ (∀ (dt : Ps) (q : Packet) (s u : State) (x : UpdSession), u = arrived q (s.elapse dt) → ready (s.elapse dt) q 0x0C02 = true → updModes u.sys.mode = true →
    q.params.length = 6 + fld q.params 4 2 → 1 ≤ fld q.params 4 2 → fld q.params 4 2 ≤ 16384 → u.upd.session = some x →
    x.lastWrite ≠ some (fld q.params 0 4, q.params.drop 6) → fld q.params 0 4 = x.received.length →
    hdrLen x.header < fld q.params 0 4 + fld q.params 4 2 → refusedWith (exec (.updWrite dt q) s) q 0x0C02 0x03 4 u)
  ∧ (∀ (dt : Ps) (q : Packet) (s u : State), u = arrived q (s.elapse dt) → ready (s.elapse dt) q 0x0C02 = true → updModes u.sys.mode = true →
    q.params.length = 6 + fld q.params 4 2 → 1 ≤ fld q.params 4 2 → fld q.params 4 2 ≤ 16384 → u.upd.session = none →
    refusedWith (exec (.updWrite dt q) s) q 0x0C02 0x01 0xFFFF u)
  ∧ (∀ (dt : Ps) (q : Packet) (s u : State) (x : UpdSession), u = arrived q (s.elapse dt) → ready (s.elapse dt) q 0x0C03 = true → updModes u.sys.mode = true →
    q.params.length = 3 → fld q.params 0 1 ≤ 3 → (fld q.params 1 2 = 0 ∨ 10 ≤ fld q.params 1 2 ∧ fld q.params 1 2 ≤ 3600) →
    u.upd.session = some x → x.received.length ≠ hdrLen x.header → refusedWith (exec (.updEnd dt q) s) q 0x0C03 0x03 0 u)
  ∧ (∀ (dt : Ps) (q : Packet) (s u : State) (x : UpdSession), u = arrived q (s.elapse dt) → ready (s.elapse dt) q 0x0C03 = true → updModes u.sys.mode = true →
    q.params.length = 3 → fld q.params 0 1 ≤ 3 → (fld q.params 1 2 = 0 ∨ 10 ≤ fld q.params 1 2 ∧ fld q.params 1 2 ≤ 3600) →
    u.upd.session = some x → x.received.length = hdrLen x.header →
    executing (exec (.updEnd dt q) s) (.updEnd (decide (fld q.params 0 1 % 2 = 1)) (decide (fld q.params 0 1 / 2 % 2 = 1))
      (if fld q.params 1 2 = 0 then 120 else fld q.params 1 2)) u)
  ∧ (∀ (dt : Ps) (q : Packet) (s u : State), u = arrived q (s.elapse dt) → ready (s.elapse dt) q 0x0C04 = true → updModes u.sys.mode = true → q.params = [] →
    ∃ progress : Nat, progress ≤ 100 ∧ (u.upd.copy = false → progress = 0) ∧
    executed (exec (.updGetStatus dt q) s) q 0x0C04 (be 1 (runNumber u) ++ bankBytes u.upd.bankA ++ bankBytes u.upd.bankB ++ be 1 u.sec.otp.fwArb
      ++ be 1 u.sec.otp.catArb ++ be 1 ((u.upd.session.map (·.cls)).getD 0) ++ be 4 ((u.upd.session.map (·.received.length)).getD 0) ++ be 1 progress
      ++ be 4 (trialLeft u) ++ be 1 (bitsOf (u.upd.bundles.toList.map (·.isSome)))
      ++ padTo 112 (u.upd.events.flatMap fun (t, ty, b) => stampBytes t ++ be 1 ty ++ be 1 b)) false { u with drawn := u.drawn + 1 })
  ∧ (∀ (dt : Ps) (q : Packet) (s u : State) (t : Ps), u = arrived q (s.elapse dt) → ready (s.elapse dt) q 0x0C05 = true → updModes u.sys.mode = true → q.params = [] →
    u.upd.trialEnd = some t → u.now < t → executing (exec (.updConfirm dt q) s) .updConfirm u)
  ∧ (∀ (dt : Ps) (q : Packet) (s u : State), u = arrived q (s.elapse dt) → ready (s.elapse dt) q 0x0C05 = true → updModes u.sys.mode = true → q.params = [] →
    (∀ t, u.upd.trialEnd = some t → t ≤ u.now) → refusedWith (exec (.updConfirm dt q) s) q 0x0C05 0x01 0xFFFF u)
  ∧ (∀ (dt : Ps) (q : Packet) (s u : State), u = arrived q (s.elapse dt) → ready (s.elapse dt) q 0x0C06 = true → updModes u.sys.mode = true → q.params = [] →
    executing (exec (.updAbort dt q) s) .updAbort u)

/-- What the flash work of an update leaves at its end, the copy, the trial window and the images of a recovery boot (R598 to R606). -/
def Obligations.UpdateEventsTakeEffect : Prop :=
  (∀ (ifc : Nat) (h : List Byte) (s : State), codeClass (hdrClass h) = true →
    (updBeginDone ifc h s).upd.session = some { ifc, header := h, cls := hdrClass h, received := [], lastWrite := none }
    ∧ (updBeginDone ifc h s).otherBank.state = .writing ∧ (updBeginDone ifc h s).upd.runBank = s.upd.runBank)
  ∧ (∀ (o : Nat) (d : List Byte) (s : State) (x : UpdSession), s.upd.session = some x → x.cls = 1 →
    (updWriteDone o d s).upd.session = some { x with received := x.received ++ d, lastWrite := some (o, d) }
    ∧ (updWriteDone o d s).otherBank.fw = none ∧ (updWriteDone o d s).otherBank.cat = s.otherBank.cat
    ∧ (updWriteDone o d s).upd.runBank = s.upd.runBank)
  ∧ (∀ (final auto : Bool) (w : Nat) (s : State) (x : UpdSession), s.upd.session = some x → codeClass x.cls = true →
    imageVerified s true (imageOf x.header x.received) = false →
    (updEndDone final auto w s).1 = 0x14 ∧ (updEndDone final auto w s).2.upd.session = none ∧ (updEndDone final auto w s).2.upd.copy = s.upd.copy
    ∧ (updEndDone final auto w s).2.upd.runBank = s.upd.runBank)
  ∧ (∀ (auto : Bool) (w : Nat) (s : State) (x : UpdSession), s.upd.session = some x → x.cls = 1 →
    imageVerified s true (imageOf x.header x.received) = true →
    (updEndDone true auto w s).1 = 0 ∧ (updEndDone true auto w s).2.otherBank.state = .copying ∧ (updEndDone true auto w s).2.upd.copy = true
    ∧ (updEndDone true auto w s).2.otherBank.fw = some (imageOf x.header x.received) ∧ (updEndDone true auto w s).2.upd.window = (w, auto))
  ∧ (∀ (final auto : Bool) (w : Nat) (s : State) (x : UpdSession), s.upd.session = some x → 16 ≤ x.cls → x.cls ≤ 18 →
    (updEndDone final auto w s).1 = 0 ∧ (updEndDone final auto w s).2.upd.session = none
    ∧ vget none (updEndDone final auto w s).2.upd.bundles (x.cls - 16) = some (x.header, x.received)
    ∧ (updEndDone final auto w s).2.upd.bankA = s.upd.bankA ∧ (updEndDone final auto w s).2.upd.bankB = s.upd.bankB)
  ∧ (∀ (dt : Ps) (s u : State) (f c : Image), u = s.elapse dt → u.sys.phase = .running → u.upd.copy = true → u.otherBank.state = .copying →
    u.upd.running = (some f, some c) →
    ∃ v, exec (.updateCopyDone dt) s = .next v ∧ v.upd.copy = false ∧ v.otherBank.state = .pending ∧ v.upd.runBank = u.upd.runBank
      ∧ v.otherBank.fw = (if 1 ∈ u.otherBank.wrote then u.otherBank.fw else some f)
      ∧ v.otherBank.cat = (if 2 ∈ u.otherBank.wrote then u.otherBank.cat else some c)
      ∧ v.upd.events.head? = some (u.stamp, 1, otherNumber u))
  ∧ (∀ (dt : Ps) (s u : State), u = s.elapse dt → u.upd.copy = false → exec (.updateCopyDone dt) s = .next u)
  ∧ (∀ (s : State) (fw cat : Image), s.upd.running = (some fw, some cat) → s.sec.otp.arbFw.length = 128 → s.sec.otp.arbCat.length = 128 →
    fw.arb ≤ 128 → cat.arb ≤ 128 →
    (confirmTrial s).sec.otp.fwArb = max s.sec.otp.fwArb fw.arb ∧ (confirmTrial s).sec.otp.catArb = max s.sec.otp.catArb cat.arb
    ∧ (confirmTrial s).upd.trialEnd = none ∧ (confirmTrial s).upd.runBank.state = .good)
  ∧ (∀ (dt : Ps) (s u : State) (t : Ps), u = s.elapse dt → u.sys.phase = .running → u.upd.trialEnd = some t → t ≤ u.now →
    u.host.executing = none → u.upd.window.2 = true → (u.sys.mode = .active ∨ u.sys.mode = .standby) →
    exec (.trialWindowEnd dt) s = .next (confirmTrial u))
  ∧ (∀ (dt : Ps) (s u : State) (t : Ps), u = s.elapse dt → u.sys.phase = .running → u.upd.trialEnd = some t → t ≤ u.now →
    u.host.executing = none → (u.upd.window.2 = false ∨ u.sys.mode.aligns = false) →
    ∃ v, exec (.trialWindowEnd dt) s = .next v ∧ v.sys.phase = .held .warm ∧ v.upd.runBank.state = .failed ∧ v.upd.trialEnd = none
      ∧ v.sec.otp = u.sec.otp)
  ∧ (∀ (dt : Ps) (s u : State) (t : Ps), u = s.elapse dt → u.upd.trialEnd = some t → u.now < t → exec (.trialWindowEnd dt) s = .next u)
  ∧ (∀ (dt : Ps) (s u : State) (f : List Byte), u = s.elapse dt → u.svcRuns = true → f.length ≤ 4106 → svcFrameOk f = true →
    u.upd.recovery = none → exec (.bastikImage dt f) s = .next (svcNak (fld f 1 1) 2 u))
  ∧ (∀ (dt : Ps) (s u : State) (f : List Byte) (r : Recovery), u = s.elapse dt → u.svcRuns = true → f.length ≤ 4106 → svcFrameOk f = true →
    u.upd.recovery = some r → svcSeq u.host.bastik (fld f 1 1) = .next → fld f 2 1 = 0 → 256 ≤ r.buf.length →
    exec (.bastikImage dt f) s = .next (svcAck (fld f 1 1) { u with
      upd := { u.upd with recovery := some { r with buf := r.buf ++ slice f 6 (fld f 4 2) } }
      host := { u.host with bastik := { u.host.bastik with lastRx := some (BitVec.ofNat 8 (fld f 1 1)) } } }))
  ∧ (∀ (q : Nat) (flags : Nat) (b : List Byte) (r : Recovery) (s : State) (f i : Image), r.fw = some f → flags / 2 % 2 = 1 → flags % 2 = 0 →
    256 ≤ r.buf.length → (r.buf ++ b).length = 256 + hdrLen ((r.buf ++ b).take 256) →
    i = imageOf ((r.buf ++ b).take 256) ((r.buf ++ b).drop 256) → imageVerified s false i = true →
    (imageFragment q flags b r s).upd.dramImages = some (f, i) ∧ (imageFragment q flags b r s).upd.recovery = none
    ∧ (imageFragment q flags b r s).sys.bootedSvc = true)

/-- A packet that arrives is dropped, refused or queued in the order of steps 1 to 6 of R470; a datagram of the management port arrives when
MACsec in Strict with a SAK protects it and its fragments, 16 at most, come within 50 ms, and is counted where it is not protected (R478). -/
def Obligations.ArrivalChecksInOrder : Prop :=
  (∀ (dt : Ps) (s u : State) (i : Nat) (b : List Byte), u = s.elapse dt → u.ifaceRuns i = true → b.length < 16 →
    exec (.commandPacketArrival dt i b) s =
      .next ((u.modIface i fun f => { f with cPackets := inc f.cPackets }).modIface i fun f => { f with cShort := inc f.cShort }))
  ∧ (∀ (dt : Ps) (s u : State) (i : Nat) (b : List Byte), u = s.elapse dt → u.ifaceRuns i = true → 16 ≤ b.length → 0x8000 ≤ fld b 6 2 →
    exec (.commandPacketArrival dt i b) s =
      .next ((u.modIface i fun f => { f with cPackets := inc f.cPackets }).modIface i fun f => { f with cFlag := inc f.cFlag }))
  ∧ (∀ (dt : Ps) (s u : State) (i : Nat) (b : List Byte), u = s.elapse dt → u.ifaceRuns i = true → 16 ≤ b.length → fld b 6 2 < 0x8000 →
    (fld b 6 2 ≠ 0 ∨ fld b 12 4 ≠ 0) →
    ∃ t, exec (.commandPacketArrival dt i b) s = .next t ∧ t.outputs.head? = some (.reply i (be 2 (fld b 0 2) ++ be 2 (fld b 2 2) ++ be 2 (fld b 4 2)
      ++ be 2 0x8000 ++ be 4 0 ++ be 1 0x03 ++ be 1 0 ++ be 2 0xFFFE)) ∧ t.host.waiting = u.host.waiting ∧ (t.iface i).tags = (u.iface i).tags)
  ∧ (∀ (dt : Ps) (s u : State) (i : Nat) (b : List Byte), u = s.elapse dt → u.ifaceRuns i = true → i < 3 → 16 ≤ b.length → fld b 6 2 = 0 →
    fld b 12 4 = 0 → fld b 4 2 ≠ (u.iface i).epoch.toNat →
    ∃ t, exec (.commandPacketArrival dt i b) s = .next t ∧ t.outputs.head? = some (.reply i (be 2 (fld b 0 2) ++ be 2 (fld b 2 2) ++ be 2 (fld b 4 2)
      ++ be 2 0x8000 ++ be 4 2 ++ be 1 0x09 ++ be 1 0 ++ be 2 0xFFFF ++ be 2 (u.iface i).epoch.toNat)) ∧ t.host.waiting = u.host.waiting
      ∧ (t.iface i).cEpoch = inc (u.iface i).cEpoch ∧ (t.iface i).tags = (u.iface i).tags)
  ∧ (∀ (dt : Ps) (s u : State) (i : Nat) (b : List Byte), u = s.elapse dt → u.ifaceRuns i = true → i < 3 → 16 ≤ b.length → fld b 6 2 = 0 →
    fld b 12 4 = 0 → fld b 4 2 = (u.iface i).epoch.toNat → fld b 2 2 ∈ (u.iface i).tags →
    ∃ t, exec (.commandPacketArrival dt i b) s = .next t ∧ t.outputs.head? = some (.reply i (be 2 (fld b 0 2) ++ be 2 (fld b 2 2) ++ be 2 (fld b 4 2)
      ++ be 2 0x8000 ++ be 4 0 ++ be 1 0x06 ++ be 1 0 ++ be 2 0xFFFF)) ∧ t.host.waiting = u.host.waiting
      ∧ (t.iface i).cTag = inc (u.iface i).cTag ∧ (t.iface i).tags = (u.iface i).tags)
  ∧ (∀ (dt : Ps) (s u : State) (i : Nat) (b : List Byte), u = s.elapse dt → u.ifaceRuns i = true → i < 3 → 16 ≤ b.length → fld b 6 2 = 0 →
    fld b 12 4 = 0 → fld b 4 2 = (u.iface i).epoch.toNat → fld b 2 2 ∉ (u.iface i).tags → u.tagLimit i ≤ (u.iface i).tags.length →
    ∃ t, exec (.commandPacketArrival dt i b) s = .next t ∧ t.outputs.head? = some (.reply i (be 2 (fld b 0 2) ++ be 2 (fld b 2 2) ++ be 2 (fld b 4 2)
      ++ be 2 0x8000 ++ be 4 0 ++ be 1 0x01 ++ be 1 0 ++ be 2 0xFFFF)) ∧ t.host.waiting = u.host.waiting
      ∧ (t.iface i).cQueue = inc (u.iface i).cQueue ∧ (t.iface i).tags = (u.iface i).tags)
  ∧ (∀ (dt : Ps) (s u : State) (i : Nat) (b : List Byte), u = s.elapse dt → u.ifaceRuns i = true → i < 3 → 16 ≤ b.length → fld b 6 2 = 0 →
    fld b 12 4 = 0 → fld b 4 2 = (u.iface i).epoch.toNat → fld b 2 2 ∉ (u.iface i).tags → (u.iface i).tags.length < u.tagLimit i →
    ∃ t, exec (.commandPacketArrival dt i b) s = .next t ∧ t.outputs = u.outputs ∧ (t.iface i).tags = fld b 2 2 :: (u.iface i).tags
      ∧ t.host.waiting = queuePacket {
        ifc := i, origin := .direct, opcode := fld b 0 2, tag := fld b 2 2, epoch := fld b 4 2, length := fld b 8 4, params := b.drop 16,
        edge := u.now / 1250 } u.host.waiting)
  ∧ (∀ (c : QCmd) (l : List QCmd), (∀ d, d ∈ l → d.edge = c.edge → d.ifc ≤ c.ifc) → queuePacket c l = l ++ [c])
  ∧ (∀ (c d : QCmd) (l k : List QCmd), (∀ e, e ∈ l → e.edge = c.edge → e.ifc ≤ c.ifc) → d.edge = c.edge → c.ifc < d.ifc →
    queuePacket c (l ++ d :: k) = l ++ c :: d :: k)
  ∧ (∀ (dt : Ps) (s u : State) (i : Nat) (b : List Byte), u = s.elapse dt → u.ifaceRuns i = false → exec (.commandPacketArrival dt i b) s = .next u)
  ∧ (∀ (dt : Ps) (l : List Ps) (s u : State) (ip port : Nat) (b : List Byte), u = s.elapse dt → u.commandsRun = true →
    (vget {} u.sec.mka 4).installed = true → l.length ≤ 16 →
    (∀ a, a ∈ l → a ≤ 50000000000) →
    exec (.mgmtCommandDatagram dt true l ip port b) s = .next (arrive 1 (.mgmt ip port) b u))
  ∧ (∀ (dt : Ps) (l : List Ps) (s u : State) (ip port : Nat) (b : List Byte), u = s.elapse dt → u.commandsRun = true →
    (vget {} u.sec.mka 4).installed = true → (16 < l.length ∨ ∃ a, a ∈ l ∧ 50000000000 < a) →
    exec (.mgmtCommandDatagram dt true l ip port b) s = .next u)
  ∧ (∀ (dt : Ps) (l : List Ps) (s u : State) (ip port : Nat) (ok : Bool) (b : List Byte), u = s.elapse dt → u.commandsRun = true →
    (ok = false ∨ (vget {} u.sec.mka 4).installed = false) →
    exec (.mgmtCommandDatagram dt ok l ip port b) s = .next { u with host := { u.host with cUnprotected := inc u.host.cUnprotected } })

/-- Commands execute one at a time, in the order of their arrival, whatever their interface; an unknown opcode and a false length are refused;
an interface reset advances the epoch, frees every tag and discards what waits (R466 to R468, R470 to R472). -/
def Obligations.CommandsExecuteInOrder : Prop :=
  (∀ (dt : Ps) (s u : State) (c : QCmd) (rest : List QCmd), u = s.elapse dt → u.commandsRun = true → u.host.executing = none →
    u.host.waiting = c :: rest → exec (.commandExecute dt) s = .next (executePacket c { u with host := { u.host with waiting := rest } }))
  ∧ (∀ (dt : Ps) (s u : State), u = s.elapse dt → (u.commandsRun = false ∨ u.host.executing.isSome = true ∨ u.host.waiting = []) →
    exec (.commandExecute dt) s = .next u)
  ∧ (∀ (c : QCmd) (s : State), (20464 < c.length ∨ c.length ≠ c.params.length) →
    executePacket c s = sendReply c.origin (mkReply c 0x0A 0 []) s)
  ∧ (∀ (c : QCmd) (s : State), c.length ≤ 20464 → c.length = c.params.length → (∀ d, d ∈ allCmds → d.opcode ≠ c.opcode) →
    executePacket c s = sendReply c.origin (mkReply c 0x02 0 []) s)
  ∧ (∀ (d : Cmd) (c : QCmd) (s : State), d ∈ allCmds → c.opcode = d.opcode → c.length ≤ 20464 → c.length = c.params.length →
    executePacket c s = executeCommand d c s)
  ∧ (allCmds.map (·.opcode)).Nodup
  ∧ (∀ (dt : Ps) (q : Packet) (c : QCmd) (s u w : State), u = s.elapse dt → u.ifaceRuns q.ifc = true → (u.host.executing.isSome = true ∨ u.host.waiting ≠ []) →
    q.epoch = (u.iface q.ifc).epoch.toNat → q.tag ∉ (u.iface q.ifc).tags → (u.iface q.ifc).tags.length < u.tagLimit q.ifc → w = arrived q u →
    c = { ifc := q.ifc, origin := .direct, opcode := 0x010A, tag := q.tag, epoch := q.epoch, length := q.params.length, params := q.params,
          edge := u.now / 1250 } →
    exec (.sysEcho dt q) s = .next { w with host := { w.host with waiting := queuePacket c u.host.waiting } })
  ∧ (∀ (dt : Ps) (q : Packet) (s u : State), u = s.elapse dt → u.ifaceRuns q.ifc = true → q.ifc < 3 → q.epoch = (u.iface q.ifc).epoch.toNat →
    q.tag ∈ (u.iface q.ifc).tags →
    ∃ t, exec (.sysEcho dt q) s = .next t ∧ t.outputs.head? = some (.reply q.ifc (refusedBytes q 0x010A 0x06 0xFFFF))
      ∧ t.host.waiting = u.host.waiting ∧ (t.iface q.ifc).tags = (u.iface q.ifc).tags ∧ (t.iface q.ifc).cTag = inc (u.iface q.ifc).cTag)
  ∧ (∀ (i : Nat) (s : State), i < 3 → ((ifReset i s).iface i).epoch = (s.iface i).epoch + 1 ∧ ((ifReset i s).iface i).tags = []
    ∧ (∀ c, c ∈ (ifReset i s).host.waiting → c.ifc ≠ i ∧ c ∈ s.host.waiting)
    ∧ (∀ e, (ifReset i s).host.executing = some e → e.cmd.ifc = i → e.mute = true)
    ∧ (∀ j, j < 3 → j ≠ i → ((ifReset i s).iface j) = s.iface j))

/-- The command ring: a CMD_TAIL more than the ring size ahead of CPL_HEAD sets DOORBELL_ERR, another is taken; a control write enables, with
LOG2_ENTRIES from 4 to 10 and every index at 0, disables with an interface reset, or resets the interface, and writes LOG2_ENTRIES unless
ENABLE is 1; a descriptor is fetched with its packet, an invalid one or an unreadable packet answered with FETCH_ERR; the oldest
submission's reply and entry are written, in the order of submission, while the completion ring has room (R467, R473 to R476). -/
def Obligations.CommandRingFollowsItsRules : Prop :=
  (∀ (dt : Ps) (s u : State) (v : Word32), u = s.elapse dt → u.bar0Runs = true → (v - u.host.cplHead).toNat ≤ 2 ^ u.host.log2.toNat →
    exec (.cmdDoorbell dt v) s = .next { u with host := { u.host with cmdTail := v } })
  ∧ (∀ (dt : Ps) (s u : State) (v : Word32), u = s.elapse dt → u.bar0Runs = true → 2 ^ u.host.log2.toNat < (v - u.host.cplHead).toNat →
    exec (.cmdDoorbell dt v) s = .next { u with host := { u.host with doorbellErr := true } })
  ∧ (∀ (dt : Ps) (s u : State) (v : Word32), u = s.elapse dt → u.bar0Runs = true → u.host.ringEnable = false → v.getLsbD 1 = false →
    4 ≤ (v.extractLsb' 8 4).toNat → (v.extractLsb' 8 4).toNat ≤ 10 →
    exec (.cmdEnable dt v) s = .next { u with host := { u.host with
      log2 := v.extractLsb' 8 4, ringEnable := true, cmdTail := 0, cmdHead := 0, cplHead := 0, cplTail := 0, slots := [] } })
  ∧ (∀ (dt : Ps) (s u : State) (v : Word32), u = s.elapse dt → u.bar0Runs = true → u.host.ringEnable = false → v.getLsbD 1 = false →
    ((v.extractLsb' 8 4).toNat < 4 ∨ 10 < (v.extractLsb' 8 4).toNat) →
    exec (.cmdEnable dt v) s = .next { u with host := { u.host with log2 := v.extractLsb' 8 4, cfgErr := true } })
  ∧ (∀ (dt : Ps) (s u : State) (v : Word32), u = s.elapse dt → u.bar0Runs = true → u.host.ringEnable = true → v.getLsbD 1 = false →
    exec (.cmdEnable dt v) s = .next u)
  ∧ (∀ (dt : Ps) (s u w : State) (v : Word32), u = s.elapse dt → u.bar0Runs = true → u.host.ringEnable = true → w = ifReset 0 u →
    exec (.cmdDisable dt v) s = .next { w with host := { w.host with ringEnable := false } })
  ∧ (∀ (dt : Ps) (s u : State) (v : Word32), u = s.elapse dt → u.bar0Runs = true → u.host.ringEnable = false → v.getLsbD 1 = false →
    exec (.cmdDisable dt v) s = .next { u with host := { u.host with log2 := v.extractLsb' 8 4 } })
  ∧ (∀ (dt : Ps) (s u w : State) (v : Word32), u = s.elapse dt → u.bar0Runs = true → u.host.ringEnable = true → w = ifReset 0 u →
    exec (.cmdIfReset dt v) s = .next { w with host := { w.host with ringEnable := false } })
  ∧ (∀ (dt : Ps) (s u : State) (v : Word32), u = s.elapse dt → u.bar0Runs = true → u.host.ringEnable = false →
    exec (.cmdIfReset dt v) s = .next (ifReset 0 { u with host := { u.host with log2 := v.extractLsb' 8 4 } }))
  ∧ (∀ (dt : Ps) (s u : State) (v : Word32), u = s.elapse dt → u.bar0Runs = false →
    exec (.cmdDoorbell dt v) s = .next u ∧ exec (.cmdEnable dt v) s = .next u ∧ exec (.cmdDisable dt v) s = .next u
    ∧ exec (.cmdIfReset dt v) s = .next u)
  ∧ (∀ (dt : Ps) (s u v : State) (d b : List Byte) (n : Nat), u = s.elapse dt → u.host.ringEnable = true → u.ifaceRuns 0 = true → u.dmaRuns = true →
    1 ≤ (u.host.cmdTail - u.host.cmdHead).toNat → (u.host.cmdTail - u.host.cmdHead).toNat ≤ 2 ^ u.host.log2.toNat →
    submitInvalid d = false → n = u.host.cmdHead.toNat →
    v = State.hostGet (State.emit { u with host := { u.host with
        cmdHead := u.host.cmdHead + 1, slots := u.host.slots ++ [(n, { cap := lfld d 12 4, addr := lfld d 16 8, reply := none })] } }
      (.hostRead (u.host.cmdBase.toNat + 32 * (n % 2 ^ u.host.log2.toNat)) 32)) (lfld d 0 8) (lfld d 8 4) →
    exec (.cmdDescriptorFetch dt d (some b)) s = .next (arrive 0 (.ring n) (b.take (lfld d 8 4)) v))
  ∧ (∀ (dt : Ps) (s u : State) (d : List Byte) (p : Option (List Byte)), u = s.elapse dt → u.host.ringEnable = true → u.ifaceRuns 0 = true →
    u.dmaRuns = true → 1 ≤ (u.host.cmdTail - u.host.cmdHead).toNat → (u.host.cmdTail - u.host.cmdHead).toNat ≤ 2 ^ u.host.log2.toNat →
    u.host.slots = [] → (submitInvalid d = true ∨ p = none) →
    ∃ t x r, exec (.cmdDescriptorFetch dt d p) s = .next t ∧ t.host.cmdHead = u.host.cmdHead + 1
      ∧ t.host.slots = [(u.host.cmdHead.toNat, x)] ∧ x.cap = lfld d 12 4 ∧ x.addr = lfld d 16 8 ∧ x.reply = some r ∧ r.status = 0x0B)
  ∧ (∀ (dt : Ps) (s u : State) (d : List Byte) (p : Option (List Byte)), u = s.elapse dt →
    (u.host.ringEnable = false ∨ u.ifaceRuns 0 = false ∨ u.dmaRuns = false ∨ u.host.cmdHead = u.host.cmdTail
      ∨ 2 ^ u.host.log2.toNat < (u.host.cmdTail - u.host.cmdHead).toNat) → exec (.cmdDescriptorFetch dt d p) s = .next u)
  ∧ (∀ (dt : Ps) (s u : State) (n cap addr : Nat) (r : Reply) (rest : List (Nat × RingSlot)) (body : List Byte), u = s.elapse dt → u.dmaRuns = true →
    body = (replyBytes r).take cap →
    u.host.slots = (n, { cap, addr, reply := some r }) :: rest → (BitVec.ofNat 32 n - u.host.cplHead).toNat < 2 ^ u.host.log2.toNat →
    ∃ t, exec (.cmdCompletionWrite dt) s = .next t ∧ t.host.slots = rest ∧ t.host.cplTail = u.host.cplTail + 1
      ∧ (∀ x, x ∈ requests u.host.payload body.length addr body.length → .hostWrite x.1 (slice body (x.1 - addr) x.2) ∈ t.outputs)
      ∧ .hostWrite (u.host.cplBase.toNat + 16 * (n % 2 ^ u.host.log2.toNat)) (completionEntry n u.host.log2.toNat r cap) ∈ t.outputs
      ∧ t.host.cause.getLsbD causeCmd = true)
  ∧ (∀ (dt : Ps) (s u : State) (n : Nat) (x : RingSlot) (rest : List (Nat × RingSlot)), u = s.elapse dt → u.host.slots = (n, x) :: rest →
    x.reply = none → exec (.cmdCompletionWrite dt) s = .next u)
  ∧ (∀ (dt : Ps) (s u : State), u = s.elapse dt →
    (u.host.slots = [] ∨ u.dmaRuns = false ∨ ∃ n x rest, u.host.slots = (n, x) :: rest
      ∧ 2 ^ u.host.log2.toNat ≤ (BitVec.ofNat 32 n - u.host.cplHead).toNat) → exec (.cmdCompletionWrite dt) s = .next u)

/-- The Bastik link: frames whose CRC or order fails are refused with NAK, DATA in order is acknowledged and joined to a packet, POLL takes the
next fragment of the oldest reply, and a loss of framing is an interface reset of SVC (R587 to R591). -/
def Obligations.BastikFollowsItsRules : Prop :=
  (∀ (dt : Ps) (s u : State) (f : List Byte), u = s.elapse dt → u.svcRuns = true → f.length ≤ 4106 → svcFrameOk f = false →
    exec (.bastikData dt f) s = .next (svcNak (fld f 1 1) 1 u) ∧ exec (.bastikPoll dt f) s = .next (svcNak (fld f 1 1) 1 u)
    ∧ exec (.bastikResync dt f) s = .next (svcNak (fld f 1 1) 1 u))
  ∧ (∀ (dt : Ps) (s u : State) (f : List Byte), u = s.elapse dt → u.svcRuns = true → f.length ≤ 4106 → svcFrameOk f = true →
    svcSeq u.host.bastik (fld f 1 1) = .again → exec (.bastikData dt f) s = .next (svcAck (fld f 1 1) u))
  ∧ (∀ (dt : Ps) (s u : State) (f : List Byte), u = s.elapse dt → u.svcRuns = true → f.length ≤ 4106 → svcFrameOk f = true →
    svcSeq u.host.bastik (fld f 1 1) = .wrong → exec (.bastikData dt f) s = .next (svcNak (fld f 1 1) 2 u))
  ∧ (∀ (dt : Ps) (s u : State) (f : List Byte), u = s.elapse dt → u.svcRuns = true → f.length ≤ 4106 → svcFrameOk f = true →
    svcSeq u.host.bastik (fld f 1 1) = .next → fld f 2 1 = 1 →
    exec (.bastikData dt f) s = .next (svcAck (fld f 1 1) { u with host := { u.host with bastik := { u.host.bastik with
      lastRx := some (BitVec.ofNat 8 (fld f 1 1)), rxBuf := some (slice f 6 (fld f 4 2)) } } }))
  ∧ (∀ (dt : Ps) (s u : State) (f old : List Byte), u = s.elapse dt → u.svcRuns = true → f.length ≤ 4106 → svcFrameOk f = true →
    svcSeq u.host.bastik (fld f 1 1) = .next → fld f 2 1 = 2 → u.host.bastik.rxBuf = some old →
    exec (.bastikData dt f) s = .next (arrive 2 .svc (old ++ slice f 6 (fld f 4 2)) (svcAck (fld f 1 1) { u with host := { u.host with
      bastik := { u.host.bastik with lastRx := some (BitVec.ofNat 8 (fld f 1 1)), rxBuf := none } } })))
  ∧ (∀ (b : Bastik) (q : Nat), b.lastRx = none → svcSeq b q = (if q = 0 then .next else .wrong))
  ∧ (∀ (b : Bastik) (l : BitVec 8), b.lastRx = some l → svcSeq b l.toNat = .again ∧ svcSeq b (l + 1).toNat = .next)
  ∧ (∀ (dt : Ps) (s u : State) (f : List Byte), u = s.elapse dt → u.svcRuns = true → f.length ≤ 4106 → svcFrameOk f = true →
    u.host.bastik.txLast = none → fld f 6 1 = u.host.bastik.txSeq.toNat → u.host.bastik.replies = [] →
    exec (.bastikPoll dt f) s = .next (u.emit (.svc (0xA5 :: svcFrame 0x84 (fld f 1 1) 0 0 []))))
  ∧ (∀ (dt : Ps) (s u : State) (f : List Byte) (r : Reply), u = s.elapse dt → u.svcRuns = true → f.length ≤ 4106 → svcFrameOk f = true →
    u.host.bastik.txLast = none → fld f 6 1 = u.host.bastik.txSeq.toNat → u.host.bastik.replies = [r] → u.host.bastik.txRest = none →
    (replyBytes r).length ≤ 4096 →
    ∃ t, exec (.bastikPoll dt f) s = .next t ∧ t.outputs.head? = some (.svc (0xA5 :: svcFrame 0x83 (fld f 6 1) 3 0 (replyBytes r)))
      ∧ t.host.bastik.replies = [] ∧ t.host.bastik.txSeq = u.host.bastik.txSeq + 1 ∧ t.host.svc.cSent = inc u.host.svc.cSent
      ∧ t.host.svc.tags = if r.taken then u.host.svc.tags.erase r.tag else u.host.svc.tags)
  ∧ (∀ (dt : Ps) (s u : State) (f o : List Byte) (l : BitVec 8), u = s.elapse dt → u.svcRuns = true → f.length ≤ 4106 → svcFrameOk f = true →
    u.host.bastik.txLast = some (l, o) → fld f 6 1 = l.toNat → exec (.bastikPoll dt f) s = .next (u.emit (.svc (0xA5 :: o))))
  ∧ (∀ (dt : Ps) (s u : State) (f : List Byte), u = s.elapse dt → u.svcRuns = true → svcFrameOk f = true →
    exec (.bastikResync dt f) s = .next (svcAck (fld f 1 1) (framingLoss u)))
  ∧ (∀ (dt : Ps) (s u : State), u = s.elapse dt → u.svcRuns = true → exec (.bastikFramingLoss dt) s = .next (framingLoss u))
  ∧ (∀ (dt : Ps) (s u : State) (f : List Byte), u = s.elapse dt → u.svcRuns = true → 4106 < f.length →
    exec (.bastikData dt f) s = .next (framingLoss u))
  ∧ (∀ (s : State), (framingLoss s).host.bastik.lastRx = none ∧ (framingLoss s).host.bastik.txSeq = 0 ∧ (framingLoss s).host.bastik.replies = []
    ∧ (framingLoss s).host.svc.epoch = s.host.svc.epoch + 1)

/-- What a read of a register returns and does: fixed values, fields of the state, counters that clear, and the snapshot that TS_NS takes; a
read of bytes of a register has the effect of the whole read, and one that leaves its DWORD is completed with Unsupported Request and has
none (R20, R121, R426, R450, R455 to R457). What a write of a register does: an aligned DWORD acts, any other write is ignored, the read-
only offsets named keep their values, base addresses take no write while their ring runs, and W1C fields clear (R20, R426, R451, R455, R457,
R459, R461, R473). -/
def Obligations.RegisterAccessesTakeEffect : Prop :=
  (
  (∀ (dt : Ps) (s u : State) (a n : Nat), u = s.elapse dt → u.bar0Runs = true → 1 ≤ n → n ≤ 4 → a % 4 + n ≤ 4 → a < 0x400000 →
    exec (.readClearRegister dt a n) s = .next ((readEffect (a / 4 * 4) u).emit
      (.register a (slice (le 4 (readReg (a / 4 * 4) u).toNat) (a % 4) n))))
  ∧ (∀ (dt : Ps) (s u : State) (a n : Nat), u = s.elapse dt → (u.bar0Runs = false ∨ n = 0 ∨ 0x400000 ≤ a) →
    exec (.readClearRegister dt a n) s = .next u)
  ∧ (∀ (dt : Ps) (s u : State) (a n : Nat), u = s.elapse dt → u.bar0Runs = true → 4 < a % 4 + n → a < 0x400000 →
    exec (.readClearRegister dt a n) s = .next (u.emit (.unsupported a)))
  ∧ readReg 0x0000 State.reset = 0x72161FA7#32 ∧ readReg 0x0004 State.reset = 0x000000B0#32
  ∧ (∀ (s : State), readReg 0x0000 s = BitVec.ofNat 32 (s.host.pci.vendor + 65536 * s.host.pci.device)
    ∧ readReg 0x0004 s = BitVec.ofNat 32 s.host.pci.revision ∧ readReg 0x001C s = s.modeWord
    ∧ readReg 0x0020 s = s.globalStatus ∧ readReg 0x002C s = s.host.scratch ∧ readReg 0x2014 s = s.host.cmdTail
    ∧ readReg 0x2018 s = s.host.cmdHead ∧ readReg 0x201C s = s.host.cplHead ∧ readReg 0x2020 s = s.host.cplTail
    ∧ readReg 0x40004 s = s.time.snapSecLo ∧ readReg 0x40008 s = s.time.snapSecHi ∧ readReg 0x4000C s = s.tsStatus)
  ∧ (∀ (dt : Ps) (s u : State), u = s.elapse dt → u.bar0Runs = true →
    ∃ t, exec (.tsNsRead dt) s = .next t ∧ t.outputs.head? = some (.register 0x40000 (le 4 (stampSub u.stamp / 65536 % 2 ^ 32)))
      ∧ t.time.snapSecLo = BitVec.ofNat 32 (stampSec u.stamp)
      ∧ t.time.snapSecHi = BitVec.ofNat 32 (stampSec u.stamp / 4294967296 % 65536 + u.stamp % 65536 * 65536)
      ∧ t.time.tb = u.time.tb)
  ∧ (∀ (s : State) (c : Nat), c < 14 → readEffect (0x20000 + 64 * c + 0x28) s = s.setCh c { s.ch c with listsOk := 0 }
    ∧ readEffect (0x20000 + 64 * c + 0x2C) s = s.setCh c { s.ch c with listsErr := 0 })
  ∧ (∀ (s : State) (n : Nat), n < 32 → readReg (0x30000 + 64 * n + 0x20) s = BitVec.ofNat 32 (s.rq n).cFull
    ∧ readEffect (0x30000 + 64 * n + 0x20) s = s.setRq n { s.rq n with cFull := 0 }
    ∧ readReg (0x30000 + 64 * n + 0x18) s = (s.rq n).tail ∧ readEffect (0x30000 + 64 * n + 0x24) s = s.setRq n { s.rq n with cFlushes := 0 })
  ∧ (∀ (s : State) (a : Nat), a < 0x10000 → a % 4 = 0 → readEffect a s = s)
  )
  ∧ (
  (∀ (dt : Ps) (s u : State) (a n : Nat) (v : Word32), u = s.elapse dt → u.bar0Runs = true → n = 4 → a % 4 = 0 → a < 0x400000 →
    exec (.registerWrite dt a n v) s = .next (writeReg a v u))
  ∧ (∀ (dt : Ps) (s u : State) (a n : Nat) (v : Word32), u = s.elapse dt →
    (u.bar0Runs = false ∨ 0x400000 ≤ a ∨ a % 4 + n ≤ 4 ∧ (n ≠ 4 ∨ a % 4 ≠ 0)) → exec (.registerWrite dt a n v) s = .next u)
  ∧ (∀ (dt : Ps) (s u : State) (a n : Nat) (v : Word32), u = s.elapse dt → u.bar0Runs = true → 4 < a % 4 + n → a < 0x400000 →
    exec (.registerWrite dt a n v) s = .next (u.emit (.unsupported a)))
  ∧ (∀ (s : State) (v : Word32), writeReg 0x002C v s = { s with host := { s.host with scratch := v } }
    ∧ writeReg 0x0000 v s = s ∧ writeReg 0x0010 v s = s ∧ writeReg 0x001C v s = s ∧ writeReg 0x0020 v s = s ∧ writeReg 0x2018 v s = s
    ∧ writeReg 0x2020 v s = s ∧ writeReg 0x40000 v s = s ∧ writeReg 0x201C v s = { s with host := { s.host with cplHead := v } }
    ∧ writeReg 0x2010 v s = ringCtrl v s ∧ writeReg 0x2014 v s = ringTail v s ∧ writeReg 0x1000 v s = intCauseWrite 0 v 0 s
    ∧ writeReg 0x1004 v s = intCauseWrite 1 v 0 s ∧ writeReg 0x1008 v s = intMaskWrite 0 v s ∧ writeReg 0x100C v s = intMaskWrite 1 v s
    ∧ writeReg 0x1010 v s = intSetWrite 0 v s ∧ writeReg 0x1014 v s = intSetWrite 1 v s)
  ∧ (∀ (s : State) (v : Word32), s.host.ringEnable = true → writeReg 0x2000 v s = s ∧ writeReg 0x2004 v s = s ∧ writeReg 0x2008 v s = s
    ∧ writeReg 0x200C v s = s)
  ∧ (∀ (s : State) (v : Word32), s.host.ringEnable = false →
    readReg 0x2000 (writeReg 0x2000 v s) = v &&& 0xFFFFF000#32 ∧ readReg 0x2004 (writeReg 0x2000 v s) = readReg 0x2004 s
    ∧ readReg 0x2004 (writeReg 0x2004 v s) = v ∧ readReg 0x2000 (writeReg 0x2004 v s) = readReg 0x2000 s)
  ∧ (∀ (s : State) (v : Word32), writeReg 0x2024 v s = { s with host := { s.host with
      cfgErr := s.host.cfgErr && !v.getLsbD 1, doorbellErr := s.host.doorbellErr && !v.getLsbD 2 } })
  ∧ (∀ (s : State) (c : Nat) (v : Word32), c < 14 → writeReg (0x20000 + 64 * c + 0x08) v s = s.setCh c { s.ch c with count := v.setWidth 13 }
    ∧ writeReg (0x20000 + 64 * c + 0x1C) v s = s.setCh c (s.ch c) ∧ writeReg (0x20000 + 64 * c + 0x14) v s = s.setCh c (chCtrl v (s.ch c)))
  ∧ (∀ (s : State) (n : Nat) (v : Word32), n < 32 → writeReg (0x30000 + 64 * n + 0x14) v s = s.setRq n { s.rq n with head := v }
    ∧ writeReg (0x30000 + 64 * n + 0x10) v s = s.setRq n (rqCtrl v s.now (s.rq n)))
  ∧ (∀ (s : State) (k : Nat) (v : Word32), k < 8 → (vget {} s.ingress.rings k).enabled = true → writeReg (0x10000 + 64 * k) v s = s
    ∧ writeReg (0x10000 + 64 * k + 0x08) v s = s)
  )

/-- Causes and vectors: a cause that goes from 0 to 1 unmasked is an event of its vector, a write of 1 clears, a cause the device sets on the
same edge stays set, an event of a masked vector pends until it is unmasked, and moderation holds a message until its gap has passed (R459,
R460). -/
def Obligations.InterruptsFollowTheirRules : Prop :=
  (∀ (s : State) (n : Nat), n < 60 → (raiseCause n s).host.cause = s.host.cause ||| (1#64 <<< n))
  ∧ (∀ (s : State) (n : Nat), (s.host.cause.getLsbD n = true ∨ s.host.mask.getLsbD n = true) →
    raiseCause n s = { s with host := { s.host with cause := s.host.cause ||| (1#64 <<< n) } })
  ∧ (∀ (s : State) (v : Nat), v < 32 → (s.vec v).masked = true → ((vecEvent v s).vec v).pending = true ∧ (vecEvent v s).outputs = s.outputs)
  ∧ (∀ (s : State) (v : Nat), v < 32 → (s.vec v).masked = false → s.host.pcieUp = true → s.host.busMaster = true → (s.vec v).lastMsg = none →
    (vecEvent v s).outputs = .msix v :: s.outputs ∧ ((vecEvent v s).vec v).lastMsg = some s.now)
  ∧ (∀ (s : State) (v : Nat) (t : Ps), v < 32 → (s.vec v).masked = false → s.host.pcieUp = true → s.host.busMaster = true →
    (s.vec v).lastMsg = some t → s.now < t + s.host.gapUs.toNat * 1000000 →
    ((vecEvent v s).vec v).held = true ∧ (vecEvent v s).outputs = s.outputs)
  ∧ (∀ (dt : Ps) (s u : State) (v again : Word32), u = s.elapse dt → u.bar0Runs = true →
    ∃ t, exec (.intCauseClear dt 0 v again) s = .next t
      ∧ ∀ n, n < 32 → t.host.cause.getLsbD n = ((u.host.cause.getLsbD n && !v.getLsbD n) || again.getLsbD n))
  ∧ (∀ (dt : Ps) (s u : State) (v again : Word32), u = s.elapse dt → u.bar0Runs = true →
    ∃ t, exec (.intCauseClear dt 1 v again) s = .next t ∧ (∀ n, n < 32 → t.host.cause.getLsbD n = u.host.cause.getLsbD n)
      ∧ ∀ n, n < 28 → t.host.cause.getLsbD (32 + n) = ((u.host.cause.getLsbD (32 + n) && !v.getLsbD n) || again.getLsbD n))
  ∧ (∀ (dt : Ps) (s u : State) (v : Word32), u = s.elapse dt → u.bar0Runs = true →
    ∃ t, exec (.intSet dt 0 v) s = .next t ∧ (∀ n, n < 32 → t.host.cause.getLsbD n = (u.host.cause.getLsbD n || v.getLsbD n))
      ∧ ∀ n, 32 ≤ n → t.host.cause.getLsbD n = u.host.cause.getLsbD n)
  ∧ (∀ (dt : Ps) (s u : State) (v : Word32), u = s.elapse dt → u.bar0Runs = true →
    ∃ t, exec (.intSet dt 1 v) s = .next t ∧ (∀ n, n < 32 → t.host.cause.getLsbD n = u.host.cause.getLsbD n)
      ∧ ∀ n, n < 28 → t.host.cause.getLsbD (32 + n) = (u.host.cause.getLsbD (32 + n) || v.getLsbD n))
  ∧ (∀ (dt : Ps) (s u : State) (v : Word32), u = s.elapse dt → u.bar0Runs = true →
    ∃ t, exec (.intMaskWrite dt 1 v) s = .next t ∧ (∀ n, n < 32 → t.host.mask.getLsbD n = u.host.mask.getLsbD n)
      ∧ (∀ n, n < 28 → t.host.mask.getLsbD (32 + n) = v.getLsbD n) ∧ t.host.cause = u.host.cause)
  ∧ (∀ (dt : Ps) (s u : State) (v : Word32), u = s.elapse dt → u.bar0Runs = true →
    ∃ t, exec (.intMaskWrite dt 0 v) s = .next t ∧ (∀ n, n < 32 → t.host.mask.getLsbD n = v.getLsbD n)
      ∧ (∀ n, 32 ≤ n → t.host.mask.getLsbD n = u.host.mask.getLsbD n) ∧ t.host.cause = u.host.cause)
  ∧ (∀ (dt : Ps) (s u : State) (v : Nat) (t0 : Ps), u = s.elapse dt → v < 32 → (u.vec v).held = true → (u.vec v).lastMsg = some t0 →
    t0 + u.host.gapUs.toNat * 1000000 ≤ u.now → (u.vec v).masked = false → u.host.pcieUp = true → u.host.busMaster = true →
    exec (.msixModerationExpiry dt v) s = .next ((u.setVec v { u.vec v with held := false, lastMsg := some u.now }).emit (.msix v)))
  ∧ (∀ (dt : Ps) (s u : State) (v : Nat) (t0 : Ps), u = s.elapse dt → v < 32 → (u.vec v).held = true → (u.vec v).lastMsg = some t0 →
    t0 + u.host.gapUs.toNat * 1000000 ≤ u.now → ((u.vec v).masked = true ∨ u.host.pcieUp = false ∨ u.host.busMaster = false) →
    exec (.msixModerationExpiry dt v) s = .next (u.setVec v { u.vec v with held := false, pending := true }))
  ∧ (∀ (dt : Ps) (s u : State) (v : Nat), u = s.elapse dt → (u.vec v).held = false → exec (.msixModerationExpiry dt v) s = .next u)
  ∧ (∀ (dt : Ps) (s u : State) (v : Nat), u = s.elapse dt → u.bar0Runs = true → v < 32 → (u.vec v).pending = true → u.host.pcieUp = true →
    u.host.busMaster = true → (u.vec v).lastMsg = none →
    ∃ t, exec (.msixVectorUnmask dt v) s = .next t ∧ (t.vec v).masked = false ∧ (t.vec v).pending = false ∧ t.outputs = .msix v :: u.outputs)
  ∧ (∀ (dt : Ps) (s u : State) (v : Nat), u = s.elapse dt → u.bar0Runs = true → (u.vec v).pending = false →
    exec (.msixVectorUnmask dt v) s = .next (u.setVec v { u.vec v with masked := false, pending := false }))

/-- The endpoint and the management link: a link that goes down ends every list with code 5 and resets interface RING, an endpoint reset also
returns the registers of BAR0 to their reset values, a link that comes up is noted, and a management link that goes down resets interface
MGMT (R428, R453, R454, R463, R467, R477). -/
def Obligations.EndpointEventsTakeEffect : Prop :=
  (∀ (dt : Ps) (s u v : State), u = s.elapse dt → u.host.pcieUp = true → v = pcieDown u →
    exec (.pcieLinkDown dt false) s = .next { v with host := { v.host with pcieUp := false, busMaster := false } })
  ∧ (∀ (dt : Ps) (s u v : State), u = s.elapse dt → u.host.pcieUp = true → u.host.busMaster = true → v = pcieDown u →
    exec (.pcieLinkDown dt true) s = .next { v with host := { v.host with pcieUp := true, busMaster := false } })
  ∧ (∀ (dt : Ps) (s u : State) (b : Bool), u = s.elapse dt → (u.host.pcieUp = false ∨ b = true ∧ u.host.busMaster = false) →
    exec (.pcieLinkDown dt b) s = .next u)
  ∧ (∀ (dt : Ps) (s u : State) (x : PcieSettings), u = s.elapse dt → (u.sys.phase ≠ .running ∨ u.sys.mode = .dormant) →
    exec (.pcieLinkUp dt x) s = .next u)
  ∧ (∀ (dt : Ps) (s u : State), u = s.elapse dt → u.sys.phase ≠ .running → exec (.endpointReset dt) s = .next u)
  ∧ (∀ (dt : Ps) (s u : State) (b : Bool), u = s.elapse dt → u.online = false → exec (.mgmtLinkChange dt b) s = .next u)
  ∧ (∀ (dt : Ps) (s u : State), u = s.elapse dt → u.online = true → u.host.mgmtLink = false → exec (.mgmtLinkChange dt false) s = .next u)
  ∧ (∀ (s : State) (c : Nat), c < 14 → ((s.ch c).run.isSome = true → ((pcieDown s).ch c).state = .error ∧ ((pcieDown s).ch c).error = 5
      ∧ ((pcieDown s).ch c).run = none ∧ ((pcieDown s).ch c).listsErr = inc (s.ch c).listsErr)
    ∧ ((s.ch c).run = none → ((pcieDown s).ch c) = s.ch c))
  ∧ (∀ (s : State) (n : Nat), n < 32 → ((pcieDown s).rq n).enable = false)
  ∧ (∀ (s : State) (k : Nat), k < 8 → (vget {} (pcieDown s).ingress.rings k).enabled = false ∧ (vget {} (pcieDown s).ingress.rings k).head = 0
    ∧ (vget {} (pcieDown s).ingress.rings k).tail = 0)
  ∧ (∀ (s : State), (pcieDown s).host.ring.epoch = s.host.ring.epoch + 1 ∧ (pcieDown s).dma.window = s.dma.window)
  ∧ (∀ (dt : Ps) (s u v : State), u = s.elapse dt → u.sys.phase = .running → v = pcieDown u →
    exec (.endpointReset dt) s = .next (bar0Reset v))
  ∧ (∀ (s : State), readReg 0x002C (bar0Reset s) = 0 ∧ readReg 0x1000 (bar0Reset s) = 0 ∧ readReg 0x1008 (bar0Reset s) = 0xFFFFFFFF#32
    ∧ readReg 0x100C (bar0Reset s) = 0x0FFFFFFF#32 ∧ readReg 0x2014 (bar0Reset s) = 0 ∧ (bar0Reset s).dma.window = s.dma.window
    ∧ (bar0Reset s).sys.mode = s.sys.mode ∧ (bar0Reset s).time.tb = s.time.tb)
  ∧ (∀ (dt : Ps) (s u : State) (x : PcieSettings), u = s.elapse dt → u.sys.phase = .running → u.sys.mode ≠ .dormant →
    (x.busMaster = false ∧ u.host.busMaster = false ∨ ∀ v, v < 32 → (u.vec v).masked = true ∨ (u.vec v).pending = false) →
    exec (.pcieLinkUp dt x) s = .next { u with
      host := { u.host with pcieUp := true, busMaster := x.busMaster || u.host.busMaster, payload := x.payload, readSize := x.readSize }
      integ := { u.integ with clockFaults := u.integ.clockFaults.filter fun d => d ≠ .pclk } })
  ∧ (∀ (dt : Ps) (s u : State), u = s.elapse dt → u.online = true → u.host.mgmtLink = true →
    exec (.mgmtLinkChange dt false) s = .next (ifReset 1 { u with host := { u.host with mgmtLink := false } }))
  ∧ (∀ (dt : Ps) (s u : State), u = s.elapse dt → u.online = true →
    exec (.mgmtLinkChange dt true) s = .next { u with
      host := { u.host with mgmtLink := true }, integ := { u.integ with clockFaults := u.integ.clockFaults.filter fun d => d ≠ .gclk } })

/-- The DMA channels: START latches the list of an IDLE channel or is refused, ABORT and CLEAR act, descriptors are read and checked, a
transaction moves at most 512 bytes to where the descriptor says, held in a chunk of the buffer from its read on, channels take turns within
the limits of chunks, an error of host or window ends the list, and a list ends with its completion record, the CRC appended where CRC_MODE
is 2 (R416, R417, R419, R420, R422 to R430, R433 to R435). -/
def Obligations.DmaFollowsItsRules : Prop :=
  (∀ (dt : Ps) (s u : State) (c : Nat) (v : Word32), u = s.elapse dt → u.bar0Runs = true → v.getLsbD 1 = false → v.getLsbD 2 = false →
    (u.ch c).state = .idle → 1 ≤ (u.ch c).count.toNat → (u.ch c).count.toNat ≤ 4096 → (v.extractLsb' 4 2).toNat ≤ 2 →
    exec (.dmaStart dt c v) s = .next (u.setCh c { u.ch c with
      noSnoop := v.getLsbD 3, crcMode := v.extractLsb' 4 2, intEn := v.getLsbD 6, state := .running, segment := 0, bytes := 0
      run := some {
        list := (u.ch c).list.toNat, count := (u.ch c).count.toNat, cmpl := (u.ch c).cmpl.toNat
        noSnoop := v.getLsbD 3, crcMode := (v.extractLsb' 4 2).toNat
        intEn := v.getLsbD 6, next := 0, desc := none, issued := 0, copied := 0, written := [], crc := 0xFFFFFFFF#32, last := none, ending := none } }))
  ∧ (∀ (dt : Ps) (s u : State) (c : Nat) (v : Word32), u = s.elapse dt → u.bar0Runs = true → v.getLsbD 1 = false → v.getLsbD 2 = false →
    ((u.ch c).state ≠ .idle ∨ (u.ch c).count.toNat = 0 ∨ 4096 < (u.ch c).count.toNat ∨ (v.extractLsb' 4 2).toNat = 3) →
    exec (.dmaStart dt c v) s = .next (u.setCh c { u.ch c with
      noSnoop := v.getLsbD 3, crcMode := v.extractLsb' 4 2, intEn := v.getLsbD 6, startRefused := true }))
  ∧ (∀ (dt : Ps) (s u : State) (c : Nat) (v : Word32), u = s.elapse dt → u.bar0Runs = true →
    exec (.dmaStart dt c v) s = .next (u.setCh c (chCtrl (v ||| 1#32) (u.ch c))))
  ∧ (∀ (dt : Ps) (s u : State) (c : Nat), u = s.elapse dt → u.bar0Runs = true → (u.ch c).run = none →
    exec (.dmaAbort dt c) s = .next (u.setCh c (u.ch c)))
  ∧ (∀ (dt : Ps) (s u : State) (c : Nat) (r : DmaRun), u = s.elapse dt → u.bar0Runs = true → (u.ch c).run = some r →
    exec (.dmaAbort dt c) s = .next (u.setCh c { u.ch c with run := some { r with ending := some (r.ending.getD 1) } }))
  ∧ (∀ (dt : Ps) (s u : State) (c : Nat), u = s.elapse dt → u.bar0Runs = true → ((u.ch c).state = .done ∨ (u.ch c).state = .error) →
    exec (.dmaClear dt c) s = .next (u.setCh c { u.ch c with state := .idle }))
  ∧ (∀ (dt : Ps) (s u : State) (c : Nat), u = s.elapse dt → u.bar0Runs = true → (u.ch c).state ≠ .done → (u.ch c).state ≠ .error →
    exec (.dmaClear dt c) s = .next (u.setCh c (u.ch c)))
  ∧ (∀ (dt : Ps) (s u : State) (c : Nat) (r : DmaRun) (b : List Byte), u = s.elapse dt → u.dmaRuns = true → (u.ch c).run = some r →
    r.ending = none → r.desc = none → r.next < r.count → descInvalid b (if r.crcMode = 2 ∧ r.next + 1 = r.count then 4 else 0) = false →
    exec (.dmaDescriptorFetch dt c (some b)) s = .next (issueReads 128 (State.setCh (u.emit (.hostRead (r.list + 32 * r.next) 32)) c { u.ch c with
      segment := BitVec.ofNat 13 r.next
      run := some { r with desc := some (parseDesc b), next := r.next + 1, issued := 0, copied := 0, written := [] } })))
  ∧ (∀ (dt : Ps) (s u : State) (c : Nat) (r : DmaRun) (b : List Byte), u = s.elapse dt → u.dmaRuns = true → (u.ch c).run = some r →
    r.ending = none → r.desc = none → r.next < r.count → descInvalid b (if r.crcMode = 2 ∧ r.next + 1 = r.count then 4 else 0) = true →
    exec (.dmaDescriptorFetch dt c (some b)) s =
      .next (issueReads 128 (State.setCh (u.emit (.hostRead (r.list + 32 * r.next) 32)) c { u.ch c with run := some { r with ending := some 2 } })))
  ∧ (∀ (dt : Ps) (s u : State) (c : Nat) (r : DmaRun), u = s.elapse dt → u.dmaRuns = true → (u.ch c).run = some r → r.ending = none →
    r.desc = none → r.next < r.count →
    exec (.dmaDescriptorFetch dt c none) s =
      .next (issueReads 128 (State.setCh (u.emit (.hostRead (r.list + 32 * r.next) 32)) c { u.ch c with run := some { r with ending := some 3 } })))
  ∧ (∀ (dt : Ps) (s u : State) (c : Nat) (b : Option (List Byte)), u = s.elapse dt →
    (u.dmaRuns = false ∨ (u.ch c).run = none ∨ ∃ r, (u.ch c).run = some r ∧ (r.ending.isSome = true ∨ r.desc.isSome = true ∨ r.count ≤ r.next)) →
    exec (.dmaDescriptorFetch dt c b) s = .next u)
  ∧ (∀ (s : State) (m : Nat), (∀ c, c < 14 → canIssue s c = false) → issueReads m s = s)
  ∧ (∀ (s : State) (m c i : Nat), i < 14 → c = (s.dma.turn + i) % 14 → canIssue s c = true → (∀ j, j < i → canIssue s ((s.dma.turn + j) % 14) = false) →
    issueReads (m + 1) s = issueReads m (issueRead c s))
  ∧ (∀ (s : State) (c n : Nat) (r : DmaRun) (d : Desc), c < 14 → (s.ch c).run = some r → r.desc = some d → n = pieceLen s.host.readSize d r.issued →
    (issueRead c s).dma.buffer = s.dma.buffer ++ [{ ch := c, at_ := pieceAt d r.issued n, len := n, data := none }]
    ∧ (issueRead c s).ch c = { s.ch c with run := some { r with issued := r.issued + n } } ∧ (issueRead c s).dma.turn = (c + 1) % 14
    ∧ (d.srcWin = true → (issueRead c s).outputs = s.outputs)
    ∧ (d.srcWin = false → (issueRead c s).outputs = .hostRead (d.src + pieceAt d r.issued n) n { noSnoop := r.noSnoop } :: s.outputs))
  ∧ (∀ (most : Nat) (d : Desc) (k : Nat), k < d.len → 1 ≤ most →
    1 ≤ pieceLen most d k ∧ pieceLen most d k ≤ 512 ∧ pieceLen most d k ≤ d.len - k
    ∧ (d.srcWin = false → pieceLen most d k ≤ most
      ∧ (d.src + pieceAt d k (pieceLen most d k)) / 4096 = (d.src + pieceAt d k (pieceLen most d k) + pieceLen most d k - 1) / 4096))
  ∧ (∀ (s : State) (m : Nat), s.dma.buffer.length ≤ 128 → (issueReads m s).dma.buffer.length ≤ 128)
  ∧ (∀ (s : State) (m c : Nat), (chunksOf c s).length ≤ 32 → (chunksOf c (issueReads m s)).length ≤ 32)
  ∧ (∀ (s : State) (m : Nat), { issueReads m s with dma := s.dma, outputs := s.outputs } = s ∧ (issueReads m s).dma.window = s.dma.window
    ∧ ∀ c, ((issueReads m s).ch c).state = (s.ch c).state)
  ∧ (∀ (dt : Ps) (s w : State) (c : Nat) (r : DmaRun) (d : Desc) (k : Chunk) (b : List Byte), w = chunkRead (s.elapse dt) → oldestRead w c r d k →
    d.srcWin = false → d.dstWin = true → b.length = k.len → mergeBad true (d.dst + k.at_) k.len w = false →
    ∃ v, exec (.dmaReadComplete dt c { data := .host b }) s = .next (issueReads 128 v)
      ∧ v.dma.window = memWrite w.dma.window (d.dst + k.at_) b ∧ (v.ch c).bytes = (w.ch c).bytes + BitVec.ofNat 64 k.len ∧ v.outputs = w.outputs
      ∧ (∀ x, x ∈ v.dma.buffer → x.ch = c → x.at_ ≠ k.at_)
      ∧ ∀ r', (v.ch c).run = some r' → (r.copied + k.len = d.len → r'.desc = none ∧ r'.last = some (d.dst + d.len, true))
        ∧ (r.copied + k.len ≠ d.len → r'.desc = some d ∧ r'.copied = r.copied + k.len))
  ∧ (∀ (dt : Ps) (s w : State) (c : Nat) (r : DmaRun) (d : Desc) (k : Chunk) (b : List Byte), w = chunkRead (s.elapse dt) → oldestRead w c r d k →
    d.srcWin = false → d.dstWin = true → b.length = k.len → mergeBad true (d.dst + k.at_) k.len w = true →
    ∃ v, exec (.dmaReadComplete dt c { data := .host b }) s = .next (issueReads 128 v) ∧ v.dma.window = w.dma.window
      ∧ (v.ch c).run = some { r with ending := some (r.ending.getD 4) })
  ∧ (∀ (dt : Ps) (s w : State) (c : Nat) (r : DmaRun) (d : Desc) (k : Chunk) (bs : List Byte), w = chunkRead (s.elapse dt) → oldestRead w c r d k →
    d.srcWin = true → d.dstWin = false → windowUnreadable (d.src + k.at_) k.len w = false → bs = memRead w.dma.window (d.src + k.at_) k.len →
    ∃ v, exec (.dmaReadComplete dt c { data := .window }) s = .next (issueReads 128 v) ∧ v.dma.window = w.dma.window
      ∧ v.outputs = ((requests w.host.payload k.len (d.dst + k.at_) k.len).map fun x =>
          .hostWrite x.1 (slice bs (x.1 - (d.dst + k.at_)) x.2) { noSnoop := r.noSnoop }).reverse ++ w.outputs)
  ∧ (∀ (dt : Ps) (s w : State) (c : Nat) (r : DmaRun) (d : Desc) (k : Chunk), w = chunkRead (s.elapse dt) → oldestRead w c r d k →
    d.srcWin = true → d.dstWin = true → windowUnreadable (d.src + k.at_) k.len w = false → mergeBad true (d.dst + k.at_) k.len w = false →
    ∃ v, exec (.dmaReadComplete dt c { data := .window }) s = .next (issueReads 128 v) ∧ v.outputs = w.outputs
      ∧ v.dma.window = memWrite w.dma.window (d.dst + k.at_) (memRead w.dma.window (d.src + k.at_) k.len))
  ∧ (∀ (dt : Ps) (s w : State) (c : Nat) (r : DmaRun) (d : Desc) (k : Chunk), w = chunkRead (s.elapse dt) → oldestRead w c r d k →
    d.srcWin = true → windowUnreadable (d.src + k.at_) k.len w = true →
    ∃ v, exec (.dmaReadComplete dt c { data := .window }) s = .next (issueReads 128 v) ∧ v.dma.window = w.dma.window
      ∧ (v.ch c).run = some { r with ending := some (r.ending.getD 4) } ∧ v.outputs = w.outputs)
  ∧ (∀ (dt : Ps) (s w : State) (c : Nat) (r : DmaRun) (d : Desc) (k : Chunk) (b : List Byte), w = chunkRead (s.elapse dt) → oldestRead w c r d k →
    d.srcWin = false → d.dstWin = false → b.length = k.len →
    ∃ v, exec (.dmaReadComplete dt c { data := .host b }) s = .next (issueReads 128 v) ∧ v.dma.window = w.dma.window
      ∧ v.outputs = ((requests w.host.payload k.len (d.dst + k.at_) k.len).map fun x =>
          .hostWrite x.1 (slice b (x.1 - (d.dst + k.at_)) x.2) { noSnoop := r.noSnoop }).reverse ++ w.outputs)
  ∧ (∀ (dt : Ps) (s w : State) (c : Nat) (r : DmaRun) (d : Desc) (k : Chunk), w = chunkRead (s.elapse dt) → oldestRead w c r d k → d.srcWin = false →
    ∃ v, exec (.dmaReadComplete dt c { data := .hostError }) s = .next (issueReads 128 v) ∧ v.dma.window = w.dma.window ∧ v.outputs = w.outputs
      ∧ (v.ch c).run = some { r with ending := some (r.ending.getD 3) })
  ∧ (∀ (dt : Ps) (s w : State) (c : Nat) (r : DmaRun) (d : Desc) (k : Chunk), w = chunkRead (s.elapse dt) → oldestRead w c r d k → d.srcWin = true →
    ∃ v, exec (.dmaReadComplete dt c { data := .dramError }) s = .next (issueReads 128 v) ∧ v.dma.window = w.dma.window ∧ v.outputs = w.outputs
      ∧ (v.ch c).run = some { r with ending := some (r.ending.getD 4) })
  ∧ (∀ (dt : Ps) (s w : State) (c : Nat) (x : ReadDone), w = chunkRead (s.elapse dt) →
    (w.dmaRuns = false ∨ (w.ch c).run = none ∨ ((chunksOf c w).filter fun k => k.data.isNone).length ≤ x.nth) →
    exec (.dmaReadComplete dt c x) s = .next w)
  ∧ (∀ (s : State), s.integ.injected = [] → chunkRead s = s)
  ∧ (∀ (dt : Ps) (s u : State) (c : Nat) (r : DmaRun), u = s.elapse dt → c < 14 → u.dmaRuns = true → (u.ch c).run = some r → chunksOf c u = [] →
    r.ending = none → r.desc = none → r.next = r.count → r.crcMode ≠ 2 →
    ∃ t, exec (.dmaListComplete dt c) s = .next t ∧ (t.ch c).state = .done ∧ (t.ch c).run = none ∧ (t.ch c).error = 0
      ∧ (t.ch c).crc = (if r.crcMode = 0 then 0#32 else r.crc ^^^ 0xFFFFFFFF#32) ∧ (t.ch c).listsOk = inc (u.ch c).listsOk
      ∧ .hostWrite r.cmpl (completionRecord 0 (u.ch c).segment.toNat (t.ch c).crc (u.ch c).bytes.toNat) ∈ t.outputs
      ∧ (r.intEn = true → t.host.cause.getLsbD (causeDma c) = true) ∧ t.dma.window = u.dma.window)
  ∧ (∀ (dt : Ps) (s u : State) (c e : Nat) (win : Bool) (r : DmaRun), u = s.elapse dt → c < 14 → u.dmaRuns = true → (u.ch c).run = some r → chunksOf c u = [] →
    r.ending = none → r.desc = none → r.next = r.count → r.crcMode = 2 → r.last = some (e, win) → mergeBad win e 4 u = false →
    ∃ t, exec (.dmaListComplete dt c) s = .next t ∧ (t.ch c).state = .done ∧ (t.ch c).run = none ∧ (t.ch c).error = 0
      ∧ (t.ch c).crc = r.crc ^^^ 0xFFFFFFFF#32 ∧ (t.ch c).listsOk = inc (u.ch c).listsOk
      ∧ .hostWrite r.cmpl (completionRecord 0 (u.ch c).segment.toNat (t.ch c).crc (u.ch c).bytes.toNat) ∈ t.outputs
      ∧ (win = true → t.dma.window = memWrite u.dma.window e (le 4 (t.ch c).crc.toNat))
      ∧ (win = false → t.dma.window = u.dma.window ∧ ∀ x, x ∈ requests u.host.payload 4 e 4 →
        .hostWrite x.1 (slice (le 4 (t.ch c).crc.toNat) (x.1 - e) x.2) { noSnoop := r.noSnoop } ∈ t.outputs))
  ∧ (∀ (dt : Ps) (s u : State) (c code : Nat) (r : DmaRun), u = s.elapse dt → c < 14 → u.dmaRuns = true → (u.ch c).run = some r → chunksOf c u = [] →
    (r.ending = some code ∧ 1 ≤ code ∧ code ≤ 4 ∨ code = 4 ∧ r.ending = none ∧ r.desc = none ∧ r.next = r.count ∧ r.crcMode = 2
      ∧ ∃ e, r.last = some (e, true) ∧ mergeBad true e 4 u = true) →
    ∃ t, exec (.dmaListComplete dt c) s = .next t ∧ (t.ch c).state = .error ∧ (t.ch c).run = none ∧ (t.ch c).error = BitVec.ofNat 8 code
      ∧ (t.ch c).crc = 0 ∧ (t.ch c).listsErr = inc (u.ch c).listsErr ∧ t.dma.window = u.dma.window
      ∧ (r.intEn = true → t.host.cause.getLsbD (causeDma c) = true)
      ∧ .hostWrite r.cmpl (completionRecord code (u.ch c).segment.toNat 0 (u.ch c).bytes.toNat) ∈ t.outputs)
  ∧ (∀ (dt : Ps) (s u : State) (c : Nat), u = s.elapse dt →
    (u.dmaRuns = false ∨ (u.ch c).run = none ∨ chunksOf c u ≠ []
      ∨ ∃ r, (u.ch c).run = some r ∧ r.ending = none ∧ (r.desc.isSome = true ∨ r.next < r.count)) →
    exec (.dmaListComplete dt c) s = .next u)
  ∧ (∀ (most addr n : Nat), 1 ≤ most → ((requests most n addr n).map (·.2)).sum = n
    ∧ ∀ x, x ∈ requests most n addr n → 1 ≤ x.2 ∧ x.2 ≤ most ∧ addr ≤ x.1 ∧ x.1 + x.2 ≤ addr + n ∧ x.1 / 4096 = (x.1 + x.2 - 1) / 4096)

/-- A transaction from HOST to the window changes the bytes that it writes and no other byte of the window, every byte it writes holds the byte
that arrived, and nothing else of the machine changes but the DMA block, the integrity log, the write-backs and the outputs (R416, R420,
R422, R430). -/
def Obligations.DmaWritesOnlyItsBytes : Prop :=
  ∀ (dt : Ps) (s w t : State) (c a : Nat) (r : DmaRun) (d : Desc) (k : Chunk) (b : List Byte), w = chunkRead (s.elapse dt) → w.windowOk = true →
    oldestRead w c r d k → d.srcWin = false → d.dstWin = true → b.length = k.len → mergeBad true (d.dst + k.at_) k.len w = false →
    exec (.dmaReadComplete dt c { data := .host b }) s = .next t →
    (a < d.dst + k.at_ ∨ d.dst + k.at_ + k.len ≤ a → memByte t.dma.window a = memByte w.dma.window a)
    ∧ (∀ i, i < k.len → memByte t.dma.window (d.dst + k.at_ + i) = b.getD i 0)
    ∧ { t with dma := w.dma, integ := w.integ, outputs := w.outputs } = w

/-- The record queues: a producer's word is answered OFF, FLUSHED, FULL or OK and stored in its place, lines are pushed when full, closed or
idle, delivered in order with their tags, and a flush drops what was not delivered (R438 to R451). -/
def Obligations.RecordQueuesFollowTheirRules : Prop :=
  (∀ (w : Word32) (f l : Option Nat) (now : Ps) (q : Rq), q.enable = false → rqWord w f l now q = (.off, { q with cOff := inc q.cOff }))
  ∧ (∀ (w : Word32) (n : Nat) (l : Option Nat) (now : Ps) (q : Rq), q.enable = true → q.flushPending = false →
    128 - q.lines.length < cdiv n 8 + 1 → rqWord w (some n) l now q = (.full, { q with cFull := inc q.cFull }))
  ∧ (∀ (w : Word32) (f l : Option Nat) (now : Ps) (q : Rq), q.enable = true → q.flushPending = true → q.flushedAt / 1250 = now / 1250 →
    rqWord w f l now q = (.flushed, { q with flushPending := false }))
  ∧ (∀ (w : Word32) (n : Nat) (l : Option Nat) (now : Ps) (q : Rq), q.enable = true → q.flushPending = false →
    cdiv n 8 + 1 ≤ 128 - q.lines.length → (rqWord w (some n) l now q).1 = .ok ∧ (rqWord w (some n) l now q).2 = { rqStore w (some n) l now q with
      reserved := if l.isSome then none else some (cdiv n 8 + 1), flushPending := false })
  ∧ (∀ (w : Word32) (now : Ps) (q : Rq) (p : RqPack), q.pack = some p → p.words.length < 7 →
    rqStore w none none now q = { q with pack := some { p with
      words := p.words ++ [w], valid := 4 * p.words.length + 4, lastAt := now } })
  ∧ (∀ (w : Word32) (now : Ps) (q : Rq) (p : RqPack), q.pack = some p → p.words.length = 7 →
    (rqStore w none none now q).pack = none ∧ (rqStore w none none now q).lines.length = q.lines.length + 1
    ∧ (rqStore w none none now q).lineSeq = q.lineSeq + 1)
  ∧ (∀ (idle : Bool) (q : Rq) (p : RqPack), q.pack = some p → rqPush idle q = { q with
      lines := q.lines ++ [{
        bytes := padTo 32 ((p.words.flatMap fun w => be 4 w.toNat).take p.valid), valid := p.valid, end_ := p.end_, afterFlush := q.armed
        idlePush := idle, start := p.start, firstWord := p.firstWord, seq := q.lineSeq }]
      pack := none, armed := false, lineSeq := q.lineSeq + 1, cIdle := if idle then inc q.cIdle else q.cIdle })
  ∧ (∀ (dt : Ps) (s v : State) (n : Nat) (w : Word32) (f l : Option Nat), v = packRead n (s.elapse dt) →
    exec (.rqWordWrite dt n w f l) s = .next ((rqWriteWord n w f l v).2.emit (.rqAnswer n (rqWriteWord n w f l v).1.code)))
  ∧ (∀ (s : State) (n : Nat), ((s.rq n).pack = none ∨ s.integ.injected = []) → packRead n s = s)
  ∧ (∀ (s : State) (n : Nat) (w : Word32) (f l : Option Nat), s.rqRuns = true → (rqWriteWord n w f l s).1 = (rqWord w f l s.now (s.rq n)).1)
  ∧ (∀ (s : State) (n : Nat) (w : Word32) (f l : Option Nat), s.rqRuns = true →
    ((rqWord w f l s.now (s.rq n)).1 ≠ .full ∨ f = none ∨ (s.rq n).intEn = false) →
    (rqWriteWord n w f l s).2 = s.putRq n (rqWord w f l s.now (s.rq n)).2)
  ∧ (∀ (s : State) (n : Nat) (w : Word32) (f l : Option Nat), s.rqRuns = true →
    (rqWord w f l s.now (s.rq n)).1 = .full → f.isSome = true → (s.rq n).intEn = true →
    (rqWriteWord n w f l s).2 = raiseCause n (s.putRq n (rqWord w f l s.now (s.rq n)).2))
  ∧ (∀ (s : State) (n : Nat) (w : Word32) (f l : Option Nat), s.rqRuns = false →
    rqWriteWord n w f l s = (.off, s.putRq n { s.rq n with cOff := inc (s.rq n).cOff }))
  ∧ (∀ (s : State) (n : Nat) (q : Rq), n < 32 → (s.putRq n q).rq n = q
    ∧ { s.putRq n q with dma := { (s.putRq n q).dma with queues := s.dma.queues }, integ := { (s.putRq n q).integ with injected := s.integ.injected } } = s
    ∧ ∀ m, m ≠ n → (s.putRq n q).rq m = s.rq m)
  ∧ (∀ (dt : Ps) (s u : State) (n : Nat) (v : Word32), u = s.elapse dt → u.bar0Runs = true →
    exec (.rqEnable dt n v) s = .next (u.setRq n (rqCtrl (v ||| 1#32) u.now (u.rq n)))
    ∧ exec (.rqDisable dt n v) s = .next (u.setRq n (rqCtrl (v &&& 0xFFFFFFFE#32) u.now (u.rq n))))
  ∧ (∀ (dt : Ps) (s u : State) (n : Nat) (v : Word32), u = s.elapse dt → u.bar0Runs = true → (u.rq n).enable = true → v.getLsbD 7 = false →
    exec (.rqEnable dt n v) s = .next (u.setRq n { u.rq n with intEn := v.getLsbD 8 }))
  ∧ (∀ (dt : Ps) (s u : State) (n : Nat) (v : Word32), u = s.elapse dt → u.bar0Runs = true → (u.rq n).enable = false → v.getLsbD 7 = false →
    exec (.rqDisable dt n v) s = .next (u.setRq n { u.rq n with
      intEn := v.getLsbD 8, aligned := v.getLsbD 1, log2 := v.extractLsb' 2 5, idleUs := v.extractLsb' 16 16 }))
  ∧ (∀ (dt : Ps) (s u : State) (n : Nat) (v : Word32), u = s.elapse dt → u.bar0Runs = true → (u.rq n).enable = false → v.getLsbD 7 = false →
    6 ≤ (v.extractLsb' 2 5).toNat → (v.extractLsb' 2 5).toNat ≤ 16 →
    exec (.rqEnable dt n v) s = .next (u.setRq n { u.rq n with
      intEn := v.getLsbD 8, aligned := v.getLsbD 1, log2 := v.extractLsb' 2 5, idleUs := v.extractLsb' 16 16, enable := true, head := 0, tail := 0
      lineSeq := 0 }))
  ∧ (∀ (dt : Ps) (s u : State) (n : Nat) (v : Word32), u = s.elapse dt → u.bar0Runs = true → (u.rq n).enable = false → v.getLsbD 7 = false →
    ((v.extractLsb' 2 5).toNat < 6 ∨ 16 < (v.extractLsb' 2 5).toNat) →
    exec (.rqEnable dt n v) s = .next (u.setRq n { u.rq n with
      intEn := v.getLsbD 8, aligned := v.getLsbD 1, log2 := v.extractLsb' 2 5, idleUs := v.extractLsb' 16 16, cfgErr := true }))
  ∧ (∀ (dt : Ps) (s u : State) (n : Nat) (v : Word32), u = s.elapse dt → u.bar0Runs = true → (u.rq n).enable = true →
    exec (.rqDisable dt n v) s = .next (u.setRq n { u.rq n with
      intEn := v.getLsbD 8, lines := [], pack := none, reserved := none, flushPending := true, armed := true, flushedAt := u.now
      cFlushes := inc (u.rq n).cFlushes, enable := false }))
  ∧ (∀ (dt : Ps) (s u : State) (n : Nat), u = s.elapse dt → u.bar0Runs = true →
    exec (.rqFlush dt n) s = .next (u.setRq n { u.rq n with
      lines := [], pack := none, reserved := none, flushPending := true, armed := true, flushedAt := u.now, cFlushes := inc (u.rq n).cFlushes }))
  ∧ (∀ (dt : Ps) (s v : State) (n : Nat) (p : RqPack), v = packRead n (s.elapse dt) → v.rqRuns = true → (v.rq n).pack = some p →
    (v.rq n).enable = true → (v.rq n).idleUs ≠ 0 → p.lastAt + (v.rq n).idleUs.toNat * 1000000 ≤ v.now →
    exec (.rqIdleTimeout dt n) s = .next (v.putRq n (rqPush true (v.rq n))))
  ∧ (∀ (dt : Ps) (s v : State) (n : Nat), v = packRead n (s.elapse dt) →
    (v.rqRuns = false ∨ (v.rq n).pack = none ∨ (v.rq n).idleUs = 0 ∨ ∃ p, (v.rq n).pack = some p ∧ v.now < p.lastAt + (v.rq n).idleUs.toNat * 1000000) →
    exec (.rqIdleTimeout dt n) s = .next v)
  ∧ (∀ (dt : Ps) (s v : State) (n k slot : Nat) (l : RqLine) (rest : List RqLine), v = lineRead n (s.elapse dt) → n < 32 → (v.rq n).lines = l :: rest →
    (v.rq n).enable = true → v.dmaRuns = true → k = (v.rq n).log2.toNat → ((v.rq n).tail - (v.rq n).head).toNat < 2 ^ k →
    slot = (v.rq n).tail.toNat % 2 ^ k →
    ∃ t, exec (.rqLineDeliver dt n) s = .next t ∧ (t.rq n).lines = rest ∧ (t.rq n).tail = (v.rq n).tail + 1
      ∧ (t.rq n).cLines = inc (v.rq n).cLines ∧ .hostWrite ((v.rq n).base.toNat + 32 * slot) l.bytes ∈ t.outputs
      ∧ .hostWrite ((v.rq n).tag.toNat + 4 * slot) (le 4 (rqTag l (v.rq n).tail.toNat k)) ∈ t.outputs
      ∧ ((v.rq n).intEn = true → (l.end_ = true ∨ l.idlePush = true) → t.host.cause.getLsbD n = true))
  ∧ (∀ (dt : Ps) (s v : State) (n : Nat), v = lineRead n (s.elapse dt) →
    (v.dmaRuns = false ∨ (v.rq n).enable = false ∨ (v.rq n).lines = [] ∨ 2 ^ (v.rq n).log2.toNat ≤ ((v.rq n).tail - (v.rq n).head).toNat) →
    exec (.rqLineDeliver dt n) s = .next v)
  ∧ (∀ (s : State) (n : Nat), s.integ.injected = [] → lineRead n s = s)

/-- The reset edges: where each kind takes place, and where its row changes nothing or only the level of the pin (R84, R89, R537, R556, R573,
R576). The main supply's loss and the reserve: the handoff, RESERVE with its count and its 4 ns, the loss of VRES, and the wake from DORMANT
(R86 to R89, R147, R574, R583, R584). -/
def Obligations.ResetsSupplyAndWakeTakeEffect : Prop :=
  (
  (∀ (dt : Ps) (s u : State), u = s.elapse dt → u.sys.phase = .unpowered → exec (.mainRailsGood dt) s = .next (resetEdge .por u))
  ∧ (∀ (dt : Ps) (s u : State), u = s.elapse dt → u.sys.phase = .reserve →
    exec (.mainRailsGood dt) s = .next (resetEdge .por { u with time := { u.time with err := u.time.err + 4, clockPass := kclkEdgeFrom u.now } }))
  ∧ (∀ (dt : Ps) (s u : State), u = s.elapse dt → u.sys.phase ≠ .unpowered → u.sys.phase ≠ .reserve → exec (.mainRailsGood dt) s = .next u)
  ∧ (∀ (dt : Ps) (s u : State), u = s.elapse dt →
    (u.sys.phase = .running ∨ u.sys.phase = .held .warm ∨ u.sys.phase = .held .wdog ∨ u.sys.phase = .held .fault) →
    exec (.resetNAssert dt) s = .next (resetEdge .pin { u with sys := { u.sys with resetN := true } }))
  ∧ (∀ (dt : Ps) (s u : State), u = s.elapse dt → (u.sys.phase = .unpowered ∨ u.sys.phase = .reserve ∨ u.sys.phase = .handoff ∨ u.sys.phase = .thermal
      ∨ u.sys.phase = .held .por ∨ u.sys.phase = .held .pin) →
    exec (.resetNAssert dt) s = .next { u with sys := { u.sys with resetN := true } })
  ∧ (∀ (dt : Ps) (s u : State), u = s.elapse dt → exec (.resetNRelease dt) s = .next { u with sys := { u.sys with resetN := false } })
  ∧ (∀ (dt : Ps) (s u : State), u = s.elapse dt → u.sys.phase = .running → u.host.warmDue = true →
    exec (.warmReset dt) s = .next (resetEdge .warm u))
  ∧ (∀ (dt : Ps) (s u : State), u = s.elapse dt → (u.host.warmDue = false ∨ u.sys.phase ≠ .running) → exec (.warmReset dt) s = .next u)
  ∧ (∀ (dt : Ps) (s u : State), u = s.elapse dt → u.sys.phase = .running → u.sys.stuck = false → u.upd.recovery = none →
    u.integ.noInterface = false → u.sys.wdogAt + 100000000000 ≤ u.now → exec (.wdogExpiry dt) s = .next (resetEdge .wdog u))
  ∧ (∀ (dt : Ps) (s u : State), u = s.elapse dt →
    (u.sys.phase ≠ .running ∨ u.sys.stuck = true ∨ u.upd.recovery.isSome = true ∨ u.integ.noInterface = true
      ∨ u.now < u.sys.wdogAt + 100000000000) → exec (.wdogExpiry dt) s = .next u)
  )
  ∧ (
  (∀ (dt : Ps) (s u : State), u = s.elapse dt → (u.sys.phase = .running ∨ u.sys.phase = .thermal ∨ ∃ k, u.sys.phase = .held k) →
    ∃ t, exec (.mainSupplyLoss dt true) s = .next t ∧ t.sys.phase = .handoff ∧ t.front = u.front ∧ t.energy = (energyStop u).energy
      ∧ t.time.tb = u.time.tb ∧ t.align = {} ∧ t.ingress = {} ∧ t.sys.markerLost = u.sys.markerLost)
  ∧ (∀ (dt : Ps) (s u : State), u = s.elapse dt → (u.sys.phase = .running ∨ u.sys.phase = .thermal ∨ ∃ k, u.sys.phase = .held k) →
    ∃ t, exec (.mainSupplyLoss dt false) s = .next t ∧ t.sys.phase = .unpowered ∧ t.sys.markerLost = true)
  ∧ (∀ (dt : Ps) (s u : State) (b : Bool), u = s.elapse dt → (u.sys.phase = .unpowered ∨ u.sys.phase = .reserve ∨ u.sys.phase = .handoff) →
    exec (.mainSupplyLoss dt b) s = .next u)
  ∧ (∀ (dt : Ps) (s u : State), u = s.elapse dt → u.sys.phase = .handoff →
    ∃ t, exec (.reserveHandoffDone dt false) s = .next t ∧ t.sys.phase = .reserve ∧ t.sys.mode = .reserve
      ∧ t.sys.history = countHistory 5 u.sys.history ∧ t.time.err = u.time.err + 4)
  ∧ (∀ (dt : Ps) (s u : State), u = s.elapse dt → u.sys.phase = .handoff →
    ∃ t, exec (.reserveHandoffDone dt true) s = .next t ∧ t.sys.phase = .reserve ∧ t.sys.history = countHistory 6 (countHistory 5 u.sys.history))
  ∧ (∀ (dt : Ps) (s u : State) (b : Bool), u = s.elapse dt → u.sys.phase ≠ .handoff → exec (.reserveHandoffDone dt b) s = .next u)
  ∧ (∀ (dt : Ps) (s u : State), u = s.elapse dt → (u.sys.phase = .handoff ∨ u.sys.phase = .reserve) →
    exec (.vresLoss dt) s = .next (unpower u) ∧ (unpower u).sys.phase = .unpowered ∧ (unpower u).sys.markerLost = true)
  ∧ (∀ (dt : Ps) (s u : State), u = s.elapse dt → u.sys.phase ≠ .handoff → u.sys.phase ≠ .reserve → exec (.vresLoss dt) s = .next u)
  ∧ (∀ (dt : Ps) (s u : State), u = s.elapse dt → u.sys.phase = .running → u.sys.mode = .dormant → u.sys.wakeActive = false →
    0 < u.sys.wakeTime → u.sys.wakeTime ≤ stampSec u.stamp →
    ∃ t, exec (.dormantWake dt none) s = .next t ∧ t.sys.mode = .commission ∧ t.sys.prevMode = .dormant ∧ t.sys.wakeTime = 0 ∧ t.sys.wakeMask = 0)
  ∧ (∀ (dt : Ps) (s u : State) (i : Nat), u = s.elapse dt → u.sys.phase = .running → u.sys.mode = .dormant → u.sys.wakeActive = true →
    u.pair.pairEnable = false → wakeInput u i = true → ∃ t, exec (.dormantWake dt (some i)) s = .next t ∧ t.sys.mode = .active)
  ∧ (∀ (dt : Ps) (s u : State) (i : Nat), u = s.elapse dt → (u.sys.mode ≠ .dormant ∨ wakeInput u i = false) →
    exec (.dormantWake dt (some i)) s = .next u)
  ∧ (∀ (dt : Ps) (s u : State), u = s.elapse dt → (u.sys.mode ≠ .dormant ∨ u.sys.wakeTime = 0 ∨ stampSec u.stamp < u.sys.wakeTime) →
    exec (.dormantWake dt none) s = .next u)
  )

/-- What a reset edge keeps and what it loses: the time base and its error, the energy readings, the epochs, the history and the rest of the
reserve domain, the flash and the fuses stay; the blocks of SRAM, DRAM and registers restart from their reset values (R144, R467, R486,
R576, R577, R583, R585). -/
def Obligations.ResetKeepsAndLoses : Prop :=
  ∀ (k : ResetKind) (s t : State), s.host.executing = none → t = resetEdge k s →
    t.sys.phase = .held k ∧ t.sys.mode = .boot ∧ t.sys.lastReset = k ∧ t.sys.lastResetAt = s.stamp
    ∧ t.sys.history = countHistory k.code s.sys.history ∧ t.sys.lifecycle = s.sys.lifecycle ∧ t.sys.modeChanges = 0 ∧ t.sys.prevMode = s.sys.mode
    ∧ t.time.tb = s.time.tb ∧ t.time.valid = s.time.valid ∧ t.time.y = s.time.y ∧ t.time.err = s.time.err ∧ t.time.utcOffset = s.time.utcOffset
    ∧ t.time.snapSecLo = s.time.snapSecLo ∧ t.time.snapSecHi = s.time.snapSecHi ∧ t.time.unlockedPs = s.time.unlockedPs ∧ t.time.source = none
    ∧ t.ingress = {} ∧ t.align = {} ∧ t.front = {} ∧ t.detect = {} ∧ t.kernel = {} ∧ t.egress = {} ∧ t.dma = {}
    ∧ t.energy = energyAfterReset false s.energy
    ∧ t.host = { ring := { epoch := s.host.ring.epoch }, mgmt := { epoch := s.host.mgmt.epoch }, svc := { epoch := s.host.svc.epoch }
                 nextJseq := s.host.nextJseq }
    ∧ t.integ.lastFault = s.integ.lastFault ∧ t.integ.safeEntries = s.integ.safeEntries ∧ t.integ.autoLeaves = s.integ.autoLeaves
    ∧ t.integ.log = [] ∧ t.integ.tj = s.integ.tj ∧ t.integ.tjMax = s.integ.tj ∧ t.sys.straps = s.sys.straps ∧ t.sys.capacity = s.sys.capacity
    ∧ t.integ.injected = s.integ.injected.filter (fun x => x.cls = 12 || x.cls = 14)
    ∧ t.sec.fuses = s.sec.fuses ∧ t.sec.otp = s.sec.otp ∧ t.sec.owner = s.sec.owner ∧ t.sec.serial = s.sec.serial ∧ t.sec.nonce = none
    ∧ t.sec.kwk = [] ∧ t.sec.drbg = [] ∧ t.upd.bankA = s.upd.bankA ∧ t.upd.bankB = s.upd.bankB
    ∧ t.upd.flashJournal = s.upd.flashJournal ∧ t.upd.bundles = s.upd.bundles ∧ t.upd.session = none

/-- Leaving reset: straps on a cold reset only, the reserve domain read and its epochs advanced, the OTP read with its roots latched, or a
lockout where a word of it cannot be read, the committed journal, the bank that boots (R59, R71, R467, R486, R526, R553, R557, R559, R578,
R602, R606). -/
def Obligations.LeavingResetTakesEffect : Prop :=
  (∀ (dt : Ps) (s u : State) (p : StrapPins) (a b : Nat) (k : ResetKind), u = s.elapse dt → u.sys.phase = .held k → u.sys.resetN = false →
    scorched u = false → otpBad (readFuses u) = none → (a = 2 ∨ a = 4 ∨ a = 8) → (b = 2 ∨ b = 4 ∨ b = 8) →
    ∃ t, exec (.leaveReset dt p a b) s = .next t ∧ t.sys.phase = .running ∧ t.sys.capacity = 2 * min a b
      ∧ t.sys.straps = (if k = .por ∨ k = .pin then p else u.sys.straps) ∧ t.sys.wdogAt = u.now
      ∧ t.sys.lifecycle = fuseState (fullFuses u.sec.fuses) ∧ t.sec.fuses = fullFuses u.sec.fuses
      ∧ t.sec.imageRoot = ownerRoot u)
  ∧ (∀ (dt : Ps) (s u : State) (p : StrapPins) (a b y : Nat) (k : ResetKind), u = s.elapse dt → u.sys.phase = .held k → u.sys.resetN = false →
    scorched u = false → otpBad (readFuses u) = some y → (a = 2 ∨ a = 4 ∨ a = 8) → (b = 2 ∨ b = 4 ∨ b = 8) →
    ∃ t, exec (.leaveReset dt p a b) s = .next t ∧ t.sys.phase = .held .fault ∧ t.sys.lastReset = .fault ∧ t.integ.lastFault.cls = 14
      ∧ t.integ.lastFault.detail = BitVec.ofNat 32 y)
  ∧ (∀ (s : State), (fuseState (fullFuses s.sec.fuses) = .scrapped → (readFuses s).sec.otp.secret = List.replicate 8 otpOnes)
    ∧ (fuseState (fullFuses s.sec.fuses) ≠ .scrapped → (readFuses s).sec.otp = s.sec.otp))
  ∧ (∀ (dt : Ps) (s u : State) (p : StrapPins) (a b : Nat) (k : ResetKind), u = s.elapse dt → u.sys.phase = .held k → u.sys.resetN = false →
    scorched u = false → otpBad (readFuses u) = none → (a = 2 ∨ a = 4 ∨ a = 8) → (b = 2 ∨ b = 4 ∨ b = 8) → u.sys.markerLost = false → u.sys.lifecycle = fuseState (fullFuses u.sec.fuses) →
    ∃ t, exec (.leaveReset dt p a b) s = .next t ∧ t.host.ring.epoch = u.host.ring.epoch + 1 ∧ t.host.mgmt.epoch = u.host.mgmt.epoch + 1
      ∧ t.host.svc.epoch = u.host.svc.epoch + 1 ∧ t.sys.reserveLost = false ∧ t.time.tb = u.time.tb ∧ t.time.valid = u.time.valid
      ∧ t.host.journal = u.upd.flashJournal ∧ t.host.nextJseq = u.host.nextJseq)
  ∧ (∀ (dt : Ps) (s u : State) (p : StrapPins) (a b : Nat) (k : ResetKind), u = s.elapse dt → u.sys.phase = .held k → u.sys.resetN = false →
    scorched u = false → otpBad (readFuses u) = none → (a = 2 ∨ a = 4 ∨ a = 8) → (b = 2 ∨ b = 4 ∨ b = 8) → u.sys.markerLost = true →
    ∃ t, exec (.leaveReset dt p a b) s = .next t ∧ t.sys.reserveLost = true ∧ t.sys.markerLost = false ∧ t.time.valid = false
      ∧ t.integ.safeEntries = 0)
  ∧ (∀ (dt : Ps) (s u : State) (p : StrapPins) (a b : Nat), u = s.elapse dt → (u.sys.resetN = true ∨ u.sys.phase = .running ∨ scorched u = true) →
    exec (.leaveReset dt p a b) s = .next u)
  ∧ (∀ (dt : Ps) (s u : State) (p : StrapPins) (a b : Nat), u = s.elapse dt → (gibOk a = false ∨ gibOk b = false) →
    exec (.leaveReset dt p a b) s = .next u)
  ∧ (∀ n, gibOk n = true ↔ n = 2 ∨ n = 4 ∨ n = 8)
  ∧ (∀ (s : State) (n : Nat), s.sys.straps.bootSrc = false → (bankOf s.upd n).state = .good → bankPasses s false (bankOf s.upd n) = true →
    (n = 0 ∨ n = 1) → (bankOf s.upd (1 - n)).state ≠ .trial → (bankOf s.upd (1 - n)).state ≠ .pending → (bankOf s.upd (1 - n)).state ≠ .good →
    pickBank s = { s with upd := { s.upd with runB := decide (n = 1) } })
  ∧ (∀ (s : State), s.sys.straps.bootSrc = true → s.sys.straps.svcEn = true →
    pickBank s = { s with upd := { s.upd with recovery := some { buf := [], fw := none } } })
  ∧ (∀ (s : State), s.sys.straps.svcEn = false → s.upd.bankA.state = .empty → s.upd.bankB.state = .empty →
    pickBank s = { s with sys := { s.sys with stuck := true } })
  ∧ (∀ (n : Nat) (s : State), (n = 0 ∨ n = 1) → (bankOf s.upd n).state = .pending → bankPasses s false (bankOf s.upd n) = true →
    (tryBank n s).1 = true ∧ (bankOf (tryBank n s).2.upd n).state = .trial ∧ (tryBank n s).2.upd.runB = decide (n = 1))

/-- The end of BOOT: the committed settings load or the device starts from defaults, the engines hold the catalogue, CMD_READY is set, and the
mode is that of R579: a device BLANK or SCRAPPED stays in BOOT; SAFE after a FAULT reset, without a command interface when the supervisors'
self-test failed; SERVICE after a recovery boot; COMMISSION without settings that run at BOOT or after the third watchdog reset; else ACTIVE
or LISTEN (R357, R545, R578, R579, R582, R603, R604). -/
def Obligations.BootEndsInItsMode : Prop :=
  (∀ (dt : Ps) (s u : State) (ok : Bool), u = s.elapse dt → firmwareRuns u = true → u.sys.mode = .boot → u.host.cmdReady = false →
    exec (.bootEnd dt ok) s = .next (bootEnd ok u))
  ∧ (∀ (dt : Ps) (s u : State) (ok : Bool), u = s.elapse dt → (firmwareRuns u = false ∨ u.sys.mode ≠ .boot ∨ u.host.cmdReady = true) →
    exec (.bootEnd dt ok) s = .next u)
  ∧ (∀ (s : State), (s.sys.stuck = true → firmwareRuns s = false)
    ∧ (readFuses s).sys.stuck = ((readFuses s).sys.lifecycle == .blank || (readFuses s).sys.lifecycle == .scrapped))
  ∧ (∀ (s : State) (ok : Bool), s.sys.mode = .boot → s.sys.lastReset = .fault → (modeAfterBoot ok s).sys.mode = .safe
    ∧ (modeAfterBoot ok s).integ.noInterface = !ok ∧ (modeAfterBoot ok s).integ.safeSince = s.now
    ∧ (s.integ.safeEntries ≠ 0xFFFFFFFF#32 → (modeAfterBoot ok s).integ.safeEntries = s.integ.safeEntries + 1))
  ∧ (∀ (s : State) (ok : Bool), s.sys.lastReset ≠ .fault → s.sys.bootedSvc = true → (modeAfterBoot ok s).sys.mode = .service)
  ∧ (∀ (s : State) (ok : Bool), s.sys.lastReset ≠ .fault → s.sys.bootedSvc = false →
    (s.sys.lifecycle = .return ∨ s.sys.loaded = false ∨ s.sys.defaulted = true ∨ s.sys.runAtBoot = false
      ∨ s.sys.lastReset = .wdog ∧ 3 ≤ (recentWdog s).length) → (modeAfterBoot ok s).sys.mode = .commission)
  ∧ (∀ (s : State) (ok : Bool), s.sys.lastReset ≠ .fault → s.sys.bootedSvc = false → s.sys.lifecycle ≠ .return → s.sys.loaded = true →
    s.sys.defaulted = false → s.sys.runAtBoot = true → (s.sys.lastReset = .wdog → (recentWdog s).length < 3) → s.pair.pairEnable = false →
    (modeAfterBoot ok s).sys.mode = .active)
  ∧ (∀ (s : State) (ok : Bool), s.sys.mode = .boot → s.sys.lastReset ≠ .fault → s.sys.bootedSvc = false → s.sys.lifecycle ≠ .return →
    s.sys.loaded = true → s.sys.defaulted = false → s.sys.runAtBoot = true → (s.sys.lastReset = .wdog → (recentWdog s).length < 3) →
    s.pair.pairEnable = true → s.pair.state ≠ .listen →
    modeAfterBoot ok s = { s with pair := { s.pair with state := .listen, listenFrom := s.now } })
  ∧ (∀ (s : State) (ok : Bool), (s.sys.lastReset ≠ .fault → (modeAfterBoot ok s).host.cmdReady = s.host.cmdReady)
    ∧ (s.sys.lastReset = .fault → (modeAfterBoot ok s).host.cmdReady = ok))
  ∧ (∀ (s : State) (ok : Bool), firmwareRuns s = true → s.sys.mode = .boot → s.host.cmdReady = false →
    ∃ v, bootEnd ok s = modeAfterBoot ok v ∧ v.host.cmdReady = true)
  ∧ (∀ (s : State) (k : Nat), k < 12 → (vget {} (loadCatalogue s).kernel.engines k).imem = s.upd.running.2)
  ∧ (∀ (s : State), bootCopy s = none → (loadSettings s).sys.defaulted = true ∧ (loadSettings s).sys.loaded = false
    ∧ (loadSettings s).host.dirty = true ∧ (loadSettings s).host.settings = [])
  ∧ (∀ (s : State) (c : SettingsCopy), bootCopy s = some c → (loadSettings s).sys.loaded = true ∧ (loadSettings s).sys.runAtBoot = c.runAtBoot
    ∧ (loadSettings s).host.settings = c.settings ∧ (loadSettings s).host.dirty = false ∧ (loadSettings s).outputs = s.outputs)
  ∧ (∀ (s : State), s.upd.dramImages = none → s.upd.runBank.state = .trial →
    startTrial s = { s with upd := { s.upd with trialEnd := some (s.now + s.upd.window.1 * 1000000000000) } })

/-- Every host command is checked from step 9 of R470 on in one order: lifecycle, mode, length, then the parameters in packet order; the first
check that fails gives the status and the command has no effect, and a packet for an interface that does not run is dropped. -/
def Obligations.RefusalChecksInOrder : Prop :=
  (∀ (d : Cmd) (dt : Ps) (q : Packet) (s u v : State), v = s.elapse dt → v.ifaceRuns q.ifc = true → arrivalStatus (packetOf d.opcode q) v = none →
    v.host.executing = none → v.host.waiting = [] → journalMustCommit v = false → lifecycleDenies v.sys.lifecycle d.opcode q.params = true →
    u = arrived q v → refusedWith (command d dt q s) q d.opcode 0x07 0xFFFF u)
  ∧ (∀ (d : Cmd) (dt : Ps) (q : Packet) (s u : State), u = arrived q (s.elapse dt) → ready (s.elapse dt) q d.opcode = true → d.modes u.sys.mode = false →
    refusedWith (command d dt q s) q d.opcode 0x04 0xFFFF u)
  ∧ (∀ (d : Cmd) (dt : Ps) (q : Packet) (s u : State), u = arrived q (s.elapse dt) → ready (s.elapse dt) q d.opcode = true → d.modes u.sys.mode = true →
    d.lenOk q.params = false → refusedWith (command d dt q s) q d.opcode 0x0A 0xFFFF u)
  ∧ (∀ (d : Cmd) (dt : Ps) (q : Packet) (s u : State) (pre post : List (Bool × Nat)) (o : Nat), u = arrived q (s.elapse dt) → ready (s.elapse dt) q d.opcode = true →
    d.modes u.sys.mode = true → d.lenOk q.params = true → d.checks u q.params = pre ++ (false, o) :: post → (∀ x, x ∈ pre → x.1 = true) →
    refusedWith (command d dt q s) q d.opcode 0x03 o u)
  ∧ (∀ (d : Cmd) (dt : Ps) (q : Packet) (s u : State), u = s.elapse dt → u.ifaceRuns q.ifc = false → command d dt q s = .next u)
  ∧ (∀ (d : Cmd), d ∈ allCmds → ∀ (l : Lifecycle) (p : List Byte), lifecycleDenies l d.opcode p = true →
    (l = .field ∧ d.opcode = 0x0A04) ∨ (l = .return ∧ d.opcode ∈ [0x0102, 0x0901, 0x0905, 0x0B03, 0x0B04]))

/-- The change journal and the settings record: an entry says which command it is of, with its status and the CRC of its parameters; the oldest
entry of a full journal goes; an entry that would replace one that is not COMMITTED waits for the journal's commit; the settings record
takes the newest command of each setting (R483 to R485, R580 to R582). -/
def Obligations.JournalAndSettingsFollowCommands : Prop :=
  (∀ (c : QCmd) (st : Nat) (s : State), (addJournal c st s).host.journal = ((({
      jseq := s.host.nextJseq, time := s.stamp, ifc := c.ifc, status := st, opcode := c.opcode, tag := c.tag, epoch := c.epoch
      crc := paramCrc c, committed := false, timeInvalid := !s.time.valid } : JEntry) :: s.host.journal).take 4096))
  ∧ (∀ (c : QCmd) (st : Nat) (s : State), uncommitted s.host.journal = 3583 → s.host.journal.length < 4096 →
    (addJournal c st s).host.cause.getLsbD 59 = true)
  ∧ (∀ (d : Cmd) (dt : Ps) (q : Packet) (s u v : State) (data : List Byte), u = arrived q (s.elapse dt) → ready (s.elapse dt) q d.opcode = true →
    cmdOutcome d q.ifc q.params u = .ok data v → v.sys.phase = .running → journalMustCommit v = false →
    ∃ t, command d dt q s = .next t ∧ t.host.settings = (match d.key q.params with
        | some k => (v.host.settings.filter fun y => !settingCovers k y.key) ++ [{ key := k, opcode := d.opcode, params := q.params }]
        | none => v.host.settings)
      ∧ t.host.dirty = (v.host.dirty || t.host.settings != u.host.settings)
      ∧ (d.journaled q.params data = true → ∃ e, t.host.journal = (e :: v.host.journal).take 4096 ∧ e.opcode = d.opcode ∧ e.tag = q.tag
        ∧ e.ifc = q.ifc ∧ e.status = 0 ∧ e.jseq = v.host.nextJseq)
      ∧ (d.journaled q.params data = false → t.host.journal = v.host.journal))
  ∧ (∀ (dt : Ps) (q : Packet) (s u : State), u = s.elapse dt → u.ifaceRuns q.ifc = true → arrivalStatus (packetOf 0x0103 q) u = none →
    u.host.executing = none → u.host.waiting = [] → journalMustCommit u = true → q.params = [] → ∃ t, exec (.sysReset dt q) s = .next t ∧ t.outputs = u.outputs ∧ t.host.journal = u.host.journal
      ∧ t.host.executing = some { cmd := packetCmd cmdSysReset q, op := .journalCommit 0 0 [], mute := false })
  ∧ (∀ (dt : Ps) (s u : State) (c : QCmd) (st : Nat) (mute : Bool), u = s.elapse dt → u.commandsRun = true →
    u.host.executing = some { cmd := c, op := .journalCommit st 0 [], mute } →
    ∃ t e, exec (.commandComplete dt true) s = .next t ∧ t.host.executing = none ∧ e.opcode = c.opcode ∧ e.status = st
      ∧ e.jseq = u.host.nextJseq ∧ e.committed = false
      ∧ t.host.journal = (e :: u.host.journal.map fun x => { x with committed := true }).take 4096 ∧ t.host.cOverwrites = u.host.cOverwrites)
  ∧ (∀ (dt : Ps) (s u : State) (c : QCmd) (st : Nat) (mute : Bool), u = s.elapse dt → u.commandsRun = true → journalMustCommit u = true →
    u.host.executing = some { cmd := c, op := .journalCommit st 0 [], mute } →
    ∃ t e, exec (.commandComplete dt false) s = .next t ∧ t.host.executing = none ∧ e.jseq = u.host.nextJseq
      ∧ t.host.journal = (e :: u.host.journal).take 4096 ∧ t.host.cOverwrites = inc u.host.cOverwrites)

/-- Whatever command stands in front, and in whatever state: a step keeps the host window in its canonical form. -/
def Obligations.EveryStepKeepsTheWindow : Prop :=
  ∀ (s t : State), s.windowOk = true → step s = .next t → t.windowOk = true

/-- Only a transfer of a DMA channel writes the host window: any other command leaves every byte of it, or has reset the device and so wiped it
(R422, R583). -/
def Obligations.OnlyDmaWritesTheWindow : Prop :=
  ∀ (c : Instr) (s t : State), (∀ dt ch data, c ≠ .dmaReadComplete dt ch data) → (∀ dt ch, c ≠ .dmaListComplete dt ch) → exec c s = .next t →
    (∀ a, memByte t.dma.window a = memByte s.dma.window a) ∨ t.dma.window = []

/-- Every command of the table answers a next state in every state; it leaves the queue alone and never turns the physical clock back, and no
command but the device's leaving reset changes LIFECYCLE (R556 to R558, R568 with R583; queue and clock are the model's, log entry 1). -/
def Obligations.EveryCommandKeepsQueueClockAndLifecycle : Prop :=
  (∀ (c : Instr) (s : State), ∃ t, exec c s = .next t ∧ t.pending = s.pending ∧ s.now ≤ t.now)
  ∧ (∀ (c : Instr) (s t : State), (∀ dt pins a b, c ≠ .leaveReset dt pins a b) → exec c s = .next t → t.sys.lifecycle = s.sys.lifecycle)
end

