-- ==== Sys2Proof/Laws/Command.lean ====
section
/-! SUPPORT. What the execution of a packet does, once for every host command: `executed_of_run`, `refusedWith_of_outcome` and
`executing_of_run` say it in the terms of Safety.lean. -/

namespace Sys2Proof.Machine

/-! ### The frame of each operation -/

theorem protocolFrame.refl (v : State) : protocolFrame v v := by simp [protocolFrame]

theorem protocolFrame.trans {a b c : State} (h : protocolFrame a b) (k : protocolFrame b c) : protocolFrame a c := by
  obtain ⟨h1, h2, hl, h3, h4, h5, h6, h7, h8, h9, h10, h11, h12, h13, h14, h15, h16, hq, h17, h18⟩ := h
  obtain ⟨k1, k2, kl, k3, k4, k5, k6, k7, k8, k9, k10, k11, k12, k13, k14, k15, k16, kq, k17, k18⟩ := k
  refine ⟨k1.trans h1, k2.trans h2, kl.trans hl, k3.trans h3, k4.trans h4, k5.trans h5, k6.trans h6, k7.trans h7, k8.trans h8, k9.trans h9,
    k10.trans h10, k11.trans h11, ?_, k13.trans h13, k14.trans h14, k15.trans h15, ?_, fun n => (kq n).trans (hq n), ?_, ?_⟩
  · rw [← h12, ← k12]
  · rw [← h16, ← k16]
  · rw [← h17, ← k17]
  · rw [← h18, ← k18]

/-- A word to a queue leaves the queue's producer as it is. -/
theorem rqPush_bound (b : Bool) (q : Rq) : (rqPush b q).bound = q.bound := by
  unfold rqPush
  split <;> rfl

theorem rqStore_bound (w : Word32) (f l : Option Nat) (now : Ps) (q : Rq) : (rqStore w f l now q).bound = q.bound := by
  unfold rqStore
  dsimp only
  repeat' split
  all_goals simp [rqPush_bound]

theorem rqWord_bound (w : Word32) (f l : Option Nat) (now : Ps) (q : Rq) : (rqWord w f l now q).2.bound = q.bound := by
  unfold rqWord
  dsimp only
  repeat' split
  all_goals first | rfl | simp [rqStore_bound]

theorem emit_frame (s : State) (o : Output) : protocolFrame s (s.emit o) := by simp [protocolFrame, State.emit, State.rq]

theorem vecEvent_frame (v : Nat) (s : State) : protocolFrame s (vecEvent v s) := by
  unfold vecEvent
  dsimp only
  repeat' split
  all_goals simp [protocolFrame, State.emit, State.rq]

theorem raiseCause_frame (n : Nat) (s : State) : protocolFrame s (raiseCause n s) := by
  unfold raiseCause
  dsimp only
  split
  · exact (show protocolFrame s _ by simp [protocolFrame, State.rq]).trans (vecEvent_frame _ _)
  · simp [protocolFrame, State.rq]

/-- A queue replaced by one with the same producer. -/
theorem setRq_frame (n : Nat) (q : Rq) (s : State) (h : q.bound = (s.rq n).bound) : protocolFrame s (s.setRq n q) := by
  have hb : ∀ m, ((s.setRq n q).rq m).bound = (s.rq m).bound := by
    intro m
    simp only [State.rq, State.setRq, vget, vset] at h ⊢
    by_cases hn : n < 32
    · by_cases hm : m < 32
      · simp only [hn, hm, dite_true] at h ⊢
        by_cases e : n = m
        · subst e; simpa using h
        · simp [Vector.getElem_set, e]
      · simp [hm]
    · simp [hn]
  simp [protocolFrame, hb]
  simp [State.setRq]

/-- A write of words of memory clears injected errors only. -/
theorem writeWords_frame (cls : Nat) (p : Nat → Nat → Bool) (s : State) : protocolFrame s (writeWords cls p s) := by
  simp [protocolFrame, writeWords, State.rq]

theorem rqWriteWord_frame (n : Nat) (w : Word32) (f l : Option Nat) (s : State) : protocolFrame s (rqWriteWord n w f l s).2 := by
  unfold rqWriteWord State.putRq
  extract_lets q r1 r q' s'
  have h : protocolFrame s s' := (setRq_frame n { q' with enable := q.enable } s (rqWord_bound w f l s.now { q with enable := q.enable && s.rqRuns })).trans
    (writeWords_frame _ _ _)
  dsimp only
  split
  · exact h.trans (raiseCause_frame _ _)
  · exact h

theorem rqItemWords_frame (n l i : Nat) (ws : List Word32) (s : State) : protocolFrame s (rqItemWords n l i ws s).2 := by
  induction ws generalizing i s with
  | nil => exact .refl s
  | cons w ws ih =>
    unfold rqItemWords
    generalize (if i = 0 then some l else none) = f
    generalize (if ws.isEmpty = true then some 4 else none) = la
    dsimp only
    split
    · exact rqWriteWord_frame n w f la s
    · split <;> exact (rqWriteWord_frame n w f la s).trans (ih _ _)

theorem routeEntry_frame (e : JEntry) (s : State) : protocolFrame s (routeEntry e s) := by
  unfold routeEntry
  split
  · exact .refl s
  · dsimp only
    have h := rqItemWords_frame ‹_› (wordsOf (jentryBytes e)).length 0 (wordsOf (jentryBytes e)) s
    split
    · exact h
    · exact h.trans (by simp [protocolFrame, rqItem, State.rq])

theorem sendB_frame (k type : Nat) (payload : List Byte) (s : State) : protocolFrame s (sendB k type payload s) := by
  unfold sendB
  dsimp only
  split
  · simp [protocolFrame, sendBlocks, State.emits, State.setLink, State.rq]
  · exact .refl s

theorem mirrorItem_frame (code : Nat) (content : List Byte) (s : State) : protocolFrame s (mirrorItem code content s) := by
  unfold mirrorItem
  split
  · rename_i h
    clear h
    generalize mirrorPayloads _ _ = ps
    induction ps generalizing s with
    | nil => exact .refl s
    | cons p ps ih => exact (sendB_frame 3 0x07 p s).trans (ih _)
  · exact .refl s

theorem modIface_frame (i : Nat) (g : Iface → Iface) (hg : ∀ f, { g f with tags := f.tags, cSent := f.cSent } = f) (s : State) :
    protocolFrame s (s.modIface i g) := by
  unfold State.modIface State.setIface
  repeat' split
  all_goals simp [protocolFrame, State.iface, State.rq, *]

/-- A setting recorded leaves every part but the settings record and the hold timer alone (R515, R581). -/
theorem noteSetting_frame (k : Option (Nat × List Nat)) (o : Nat) (p : List Byte) (before s : State) :
    protocolFrame s (noteSetting k o p before s) := by
  simp [protocolFrame, noteSetting, State.rq]

/-! ### The journal counter and the executing command -/

@[simp] theorem vecEvent_nextJseq (v : Nat) (s : State) : (vecEvent v s).host.nextJseq = s.host.nextJseq := by
  unfold vecEvent
  dsimp only
  repeat' split
  all_goals rfl

@[simp] theorem raiseCause_nextJseq (n : Nat) (s : State) : (raiseCause n s).host.nextJseq = s.host.nextJseq := by
  unfold raiseCause
  dsimp only
  split <;> simp

@[simp] theorem rqWriteWord_nextJseq (n : Nat) (w : Word32) (f l : Option Nat) (s : State) :
    (rqWriteWord n w f l s).2.host.nextJseq = s.host.nextJseq := by
  unfold rqWriteWord State.putRq writeWords
  dsimp only
  split <;> simp [State.setRq]

theorem rqItemWords_nextJseq (n l i : Nat) (ws : List Word32) (s : State) : (rqItemWords n l i ws s).2.host.nextJseq = s.host.nextJseq := by
  induction ws generalizing i s with
  | nil => rfl
  | cons w ws ih =>
    unfold rqItemWords
    generalize (if i = 0 then some l else none) = f
    generalize (if ws.isEmpty = true then some 4 else none) = la
    dsimp only
    split
    · simp
    · split <;> simp [ih]

theorem addJournal_nextJseq (c : QCmd) (status : Nat) (s : State) : (addJournal c status s).host.nextJseq = s.host.nextJseq + 1 := by
  have hr : ∀ e u, (routeEntry e u).host.nextJseq = u.host.nextJseq := by
    intro e u
    unfold routeEntry
    split
    · rfl
    · dsimp only
      split <;> simp [rqItem, rqItemWords_nextJseq]
  have hm : ∀ k b u, (mirrorItem k b u).host.nextJseq = u.host.nextJseq := by
    intro k b u
    unfold mirrorItem
    split
    · rename_i h
      clear h
      generalize mirrorPayloads k (chunks 4095 b.length b) = ps
      induction ps generalizing u with
      | nil => rfl
      | cons p ps ih =>
        refine (ih _).trans ?_
        unfold sendB
        dsimp only
        split <;> rfl
    · rfl
  simp only [addJournal, hm, hr]
  split <;> simp

/-- A journal entry leaves alone what `protocolFrame` names. -/
theorem addJournal_frame (c : QCmd) (status : Nat) (s : State) : protocolFrame s (addJournal c status s) := by
  unfold addJournal
  extract_lets e lost h s1 s2
  have h1 : protocolFrame s s1 := by simp [protocolFrame, s1, h, State.rq]
  have h2 : protocolFrame s s2 := by
    refine h1.trans ?_
    simp only [s2]
    split
    · exact raiseCause_frame _ _
    · exact .refl _
  exact (h2.trans (routeEntry_frame _ _)).trans (mirrorItem_frame _ _ _)

/-! ### The end of a command -/

/-- A direct packet's reply leaves at once. -/
theorem sendReply_direct (r : Reply) (s : State) :
    protocolFrame s (sendReply .direct r s) ∧ (sendReply .direct r s).outputs.head? = some (.reply r.ifc (replyBytes r))
      ∧ (sendReply .direct r s).host.executing = s.host.executing ∧ (sendReply .direct r s).host.nextJseq = s.host.nextJseq := by
  refine ⟨(modIface_frame _ _ (fun f => by rfl) _).trans (emit_frame _ _), rfl, ?_, ?_⟩
  all_goals
    simp only [sendReply, State.emit, State.modIface, State.setIface]
    repeat' split
    all_goals rfl

/-- A direct packet closes: the entry, the reply, and nothing else. -/
theorem closeCommand_direct (c : QCmd) (j : Bool) (status offset : Nat) (data : List Byte) (s : State) (hc : c.origin = .direct) :
    protocolFrame s (closeCommand c j false status offset data s)
      ∧ (closeCommand c j false status offset data s).outputs.head? = some (.reply c.ifc (replyBytes (mkReply c status offset data)))
      ∧ (closeCommand c j false status offset data s).host.executing = none
      ∧ (closeCommand c j false status offset data s).host.nextJseq = s.host.nextJseq + (if j then 1 else 0) := by
  unfold closeCommand
  extract_lets s1 h s2
  have h1 : protocolFrame s s1 := by
    simp only [s1]
    split
    · exact addJournal_frame _ _ _
    · exact .refl s
  have h2 : protocolFrame s s2 := h1.trans (by simp [protocolFrame, s2, h, State.rq])
  have hj : s2.host.nextJseq = s.host.nextJseq + (if j then 1 else 0) := by
    simp only [s2, h, s1]
    split <;> simp [addJournal_nextJseq]
  rw [hc]
  simp only [Bool.false_eq_true, if_false]
  obtain ⟨a, b, x, y⟩ := sendReply_direct (mkReply c status offset data) s2
  exact ⟨h2.trans a, b, x, y.trans hj⟩

/-- The octets of a reply with OK, and with another status. -/
theorem replyBytes_ok (d : Cmd) (q : Packet) (data : List Byte) :
    replyBytes (mkReply (packetCmd d q) stOk 0 data) = okBytes q d.opcode data := by
  simp [replyBytes, mkReply, packetCmd, okBytes, stOk, stBadParam]

theorem replyBytes_refused (d : Cmd) (q : Packet) (status offset : Nat) (hs : status ≠ stOk) (he : status ≠ stBadEpoch) :
    replyBytes (mkReply (packetCmd d q) status offset []) =
      refusedBytes q d.opcode status (if status = stBadParam then offset else 0xFFFF) := by
  simp [replyBytes, mkReply, packetCmd, refusedBytes]

/-! ### The whole execution -/

/-- What a packet that is ready meets. -/
theorem ready_parts {u : State} {q : Packet} {o : Nat} (h : ready u q o = true) :
    u.ifaceRuns q.ifc = true ∧ arrivalStatus (packetOf o q) u = none ∧ u.host.executing = none ∧ u.host.waiting = []
      ∧ lifecycleDenies u.sys.lifecycle o q.params = false ∧ journalMustCommit u = false := by
  simpa [ready, and_assoc] using h

/-- A packet that is ready meets a running device. -/
theorem ready_running {u : State} {q : Packet} {o : Nat} (h : ready u q o = true) : u.sys.phase = .running := by
  have := (ready_parts h).1
  simp only [Bool.and_eq_true, State.ifaceRuns, State.commandsRun, State.online, decide_eq_true_eq] at this
  exact this.1.1.1.1

/-- A packet's arrival writes its interface only. -/
theorem arrived_parts (q : Packet) (u : State) :
    (arrived q u).sys = u.sys ∧ (arrived q u).host.executing = u.host.executing ∧ (arrived q u).host.journal = u.host.journal := by
  simp only [arrived, countPacket, State.modIface, State.setIface]
  repeat' split
  all_goals exact ⟨rfl, rfl, rfl⟩

/-- Every check of a list passes. -/
@[simp] theorem firstBad_cons_eq_none (b : Bool) (o : Nat) (t : List (Bool × Nat)) :
    firstBad ((b, o) :: t) = none ↔ b = true ∧ firstBad t = none := by
  cases b <;> simp [firstBad]

@[simp] theorem firstBad_nil : firstBad [] = none := rfl

/-- The journal test looks at the journal only. -/
theorem journalMustCommit_of_journal {v u : State} (h : v.host.journal = u.host.journal) (hu : journalMustCommit u = false) :
    journalMustCommit v = false := by
  simpa only [journalMustCommit, h] using hu

theorem arrived_running {u : State} {q : Packet} {o : Nat} (h : ready u q o = true) : (arrived q u).sys.phase = .running := by
  rw [(arrived_parts q u).1]
  exact ready_running h

theorem arrived_journal {u : State} {q : Packet} {o : Nat} (h : ready u q o = true) : journalMustCommit (arrived q u) = false :=
  journalMustCommit_of_journal (arrived_parts q u).2.2 (ready_parts h).2.2.2.2.2

/-- A packet that is ready executes at once, on the state that its arrival leaves. -/
theorem runCommand_ready {u : State} {d : Cmd} {q : Packet} (h : ready u q d.opcode = true) :
    runCommand d q u = executeCommand d (packetCmd d q) (arrived q u) := by
  obtain ⟨h1, h2, h3, h4, _, _⟩ := ready_parts h
  have h2' : arrivalStatus (packetCmd d q) u = none := h2
  simp [runCommand, h1, h2', h3, h4]
  rfl

/-- What a packet that is ready meets from step 9 of R470 on. -/
theorem cmdOutcome_arrived {u : State} {d : Cmd} {q : Packet} (h : ready u q d.opcode = true) (hm : d.modes u.sys.mode = true)
    (hl : d.lenOk q.params = true) (hc : firstBad (d.checks (arrived q u) q.params) = none) :
    cmdOutcome d q.ifc q.params (arrived q u) = d.run (arrived q u) q.ifc q.params := by
  simp [cmdOutcome, (arrived_parts q u).1, (ready_parts h).2.2.2.2.1, hm, hl, hc]

/-- A command row whose packet passes every check and whose body answers OK. -/
theorem executed_of_run (d : Cmd) (dt : Ps) (q : Packet) (s u : State) (hu : u = arrived q (s.elapse dt))
    (hr : ready (s.elapse dt) q d.opcode = true) (hm : d.modes u.sys.mode = true) (hl : d.lenOk q.params = true)
    (hc : firstBad (d.checks u q.params) = none) (data : List Byte) (v : State) (hrun : d.run u q.ifc q.params = .ok data v) (j : Bool)
    (hjn : d.journaled q.params data = j) (hp : v.sys.phase = .running) (hj : journalMustCommit v = false)
    (he : (v.iface q.ifc).epoch = (u.iface q.ifc).epoch) : executed (command d dt q s) q d.opcode data j v := by
  subst hu hjn
  rw [(arrived_parts q _).1] at hm
  have ho := (cmdOutcome_arrived hr hm hl hc).trans hrun
  have hf := noteSetting_frame (d.key q.params) d.opcode q.params (arrived q (s.elapse dt)) v
  have hjn : journalMustCommit (noteSetting (d.key q.params) d.opcode q.params (arrived q (s.elapse dt)) v) = false := hj
  refine ⟨_, rfl, ?_⟩
  rw [runCommand_ready hr]
  obtain ⟨a, b, x, y⟩ := closeCommand_direct (packetCmd d q) (d.journaled q.params data) stOk 0 data
    (noteSetting (d.key q.params) d.opcode q.params (arrived q (s.elapse dt)) v) rfl
  rw [replyBytes_ok] at b
  simp only [executeCommand, packetCmd, ho, hp, bne_self_eq_false, finishCommand, hjn, Bool.and_false, Bool.false_eq_true, if_false, he]
  exact ⟨b, x, y, hf.trans a⟩

/-- A command row whose packet is refused at one of the steps 9 to 12 of R470, or whose body answers another status. -/
theorem refusedWith_of_outcome (d : Cmd) (dt : Ps) (q : Packet) (s u : State) (hu : u = arrived q (s.elapse dt))
    (hr : ready (s.elapse dt) q d.opcode = true) (status offset : Nat) (hs : status ≠ stOk) (he : status ≠ stBadEpoch)
    (ho : cmdOutcome d q.ifc q.params u = (if status = stBadParam then .bad offset else .err status)) :
    refusedWith (command d dt q s) q d.opcode status (if status = stBadParam then offset else 0xFFFF) u := by
  subst hu
  have hj := arrived_journal hr
  refine ⟨_, rfl, ?_⟩
  rw [runCommand_ready hr]
  by_cases hb : status = stBadParam
  · subst hb
    simp only [if_true] at ho
    simp only [executeCommand, packetCmd, ho, finishCommand, hj, Bool.and_false, Bool.false_eq_true, if_false]
    obtain ⟨a, b, x, _⟩ := closeCommand_direct (packetCmd d q) (d.journaled q.params []) stBadParam offset [] (arrived q (s.elapse dt)) rfl
    rw [replyBytes_refused d q _ _ hs he] at b
    exact ⟨b, x, a⟩
  · simp only [hb, if_false] at ho
    simp only [executeCommand, packetCmd, ho, finishCommand, hj, Bool.and_false, Bool.false_eq_true, if_false]
    obtain ⟨a, b, x, _⟩ := closeCommand_direct (packetCmd d q) (d.journaled q.params []) status 0 [] (arrived q (s.elapse dt)) rfl
    rw [replyBytes_refused d q _ _ hs he] at b
    simp only [hb, if_false] at b ⊢
    exact ⟨b, x, a⟩

/-- A command row whose body goes on executing. -/
theorem executing_of_run (d : Cmd) (dt : Ps) (q : Packet) (s u : State) (hu : u = arrived q (s.elapse dt))
    (hr : ready (s.elapse dt) q d.opcode = true) (hm : d.modes u.sys.mode = true) (hl : d.lenOk q.params = true)
    (hc : firstBad (d.checks u q.params) = none) (op : LongOp) (v : State) (hrun : d.run u q.ifc q.params = .long op v) :
    executing (command d dt q s) op v := by
  subst hu
  rw [(arrived_parts q _).1] at hm
  have ho := (cmdOutcome_arrived hr hm hl hc).trans hrun
  refine ⟨_, { cmd := packetCmd d q, op, mute := false }, rfl, ?_⟩
  rw [runCommand_ready hr]
  simp [executeCommand, packetCmd, ho]

/-- The settings record is one of the command's own traces: `executed` holds whatever it is in the state named. -/
theorem executed_settings {o : Host.Outcome State Fault Refusal} {q : Packet} {opcode : Nat} {data : List Byte} {j : Bool} {v : State}
    {l : List Setting} (h : executed o q opcode data j { v with host := { v.host with settings := l } }) : executed o q opcode data j v := by
  obtain ⟨t, h1, h2, h3, h4, h5⟩ := h
  exact ⟨t, h1, h2, h3, h4, (show protocolFrame v { v with host := { v.host with settings := l } } by simp [protocolFrame, State.rq]).trans h5⟩

/-- A command that applies at the next grid edge is accepted: its reply leaves, and it waits for that edge (R159, R202). -/
theorem executed_of_grid (d : Cmd) (dt : Ps) (q : Packet) (s u t : State) (data : List Byte) (j : Bool) (hu : u = arrived q (s.elapse dt))
    (hr : ready (s.elapse dt) q d.opcode = true) (hm : d.modes u.sys.mode = true) (hl : d.lenOk q.params = true)
    (hc : firstBad (d.checks u q.params) = none) (hd : d.run u q.ifc q.params = atGrid d.opcode u q.params)
    (hg : gridOut d.opcode u.nextGridStamp q.params u.flushed = .ok data t) (hjn : d.journaled q.params data = j) :
    executed (command d dt q s) q d.opcode data j (u.at u.nextGrid (.command d.opcode q.params)) := by
  refine executed_settings (l := t.host.settings) (executed_of_run d dt q s u hu hr hm hl hc data _ ?_ j hjn ?_ ?_ ?_)
  · rw [hd, atGrid, hg]
    rfl
  · subst hu
    exact arrived_running hr
  · subst hu
    exact arrived_journal hr
  · simp only [State.iface]
    rfl

end Sys2Proof.Machine
end

