-- ==== Sys2Proof/Laws/Keeps.lean ====
section
/-! SUPPORT. `Keeps s₀ t`: what no command but a DMA transfer or the departure from reset touches: the queue, the clock,
LIFECYCLE, and the host window, which a reset empties. `f_keeps` says that `f` does so; statements 58 to 60 rest on it. -/

namespace Sys2Proof.Machine

/-- `t` has the queue, the clock and LIFECYCLE of `s₀`, and its window or, after a reset, none. -/
structure Keeps (s₀ t : State) : Prop where
  pending : t.pending = s₀.pending
  now : t.now = s₀.now
  lifecycle : t.sys.lifecycle = s₀.sys.lifecycle
  window : t.dma.window = s₀.dma.window ∨ t.dma.window = []

theorem Keeps.refl (s : State) : Keeps s s := ⟨rfl, rfl, rfl, .inl rfl⟩

theorem Keeps.trans {s t u : State} (h : Keeps s t) (k : Keeps t u) : Keeps s u :=
  ⟨k.pending.trans h.pending, k.now.trans h.now, k.lifecycle.trans h.lifecycle,
    k.window.elim (fun w => h.window.elim (fun v => .inl (w.trans v)) fun v => .inr (w.trans v)) .inr⟩

/-- The window's canonical form survives (R422). -/
theorem Keeps.memWf {s t : State} (h : Keeps s t) (w : memWf s.dma.window = true) : memWf t.dma.window = true := by
  rcases h.window with e | e <;> rw [e]
  · exact w
  · rfl

/-- An update of other fields. -/
theorem keeps_mk {s₀ t : State} (h : Keeps s₀ t) {later drawn outputs time ingress align front energy detect kernel egress dma host pair integ sec upd sys}
    (hs : sys.lifecycle = t.sys.lifecycle) (hd : dma.window = t.dma.window) :
    Keeps s₀ ⟨t.pending, t.now, later, drawn, outputs, time, ingress, align, front, energy, detect, kernel, egress, dma, host, pair, integ, sec, upd, sys⟩ :=
  ⟨h.pending, h.now, hs.trans h.lifecycle, by rw [hd]; exact h.window⟩

theorem keeps_foldl {s₀ s : State} {α : Type} {g : State → α → State} {l : List α} (hg : ∀ s x, Keeps s₀ s → Keeps s₀ (g s x)) (h : Keeps s₀ s) :
    Keeps s₀ (l.foldl g s) := by
  induction l generalizing s with
  | nil => exact h
  | cons x l ih => exact ih (hg s x h)

theorem keeps_foldl_snd {s₀ : State} {α β : Type} {g : β × State → α → β × State} {l : List α} {a : β × State}
    (hg : ∀ a x, Keeps s₀ a.2 → Keeps s₀ (g a x).2) (h : Keeps s₀ a.2) : Keeps s₀ (l.foldl g a).2 := by
  induction l generalizing a with
  | nil => exact h
  | cons x l ih => exact ih (hg a x h)

/-- What a command's body answers keeps what `Keeps` says. -/
def CmdOut.Keeps (s₀ : State) : CmdOut → Prop
  | .ok _ t => Machine.Keeps s₀ t
  | .fail _ _ t => Machine.Keeps s₀ t
  | .long _ t => Machine.Keeps s₀ t
  | _ => True

theorem keeps_ok {s₀ t : State} {d : List Byte} (h : Keeps s₀ t) : CmdOut.Keeps s₀ (.ok d t) := h
theorem keeps_fail {s₀ t : State} {n k : Nat} (h : Keeps s₀ t) : CmdOut.Keeps s₀ (.fail n k t) := h
theorem keeps_long {s₀ t : State} {o : LongOp} (h : Keeps s₀ t) : CmdOut.Keeps s₀ (.long o t) := h
theorem keeps_bad {s₀ : State} {n : Nat} : CmdOut.Keeps s₀ (.bad n) := trivial
theorem keeps_err {s₀ : State} {n : Nat} : CmdOut.Keeps s₀ (.err n) := trivial

/-- The command does, in every state and from every interface. -/
def Cmd.Keeps (d : Cmd) : Prop := ∀ s₀ s ifc p, Machine.Keeps s₀ s → CmdOut.Keeps s₀ (d.run s ifc p)

/-! ### Ops.lean -/

theorem State.at_keeps {s₀ : State} (s : State) (at_ : Ps) (a : Later) (hk : Keeps s₀ s) :
    Keeps s₀ (State.at s at_ a) := by
  unfold State.at
  (try dsimp only)
  repeat' with_reducible first | assumption | split | refine keeps_mk ?_ rfl rfl | trivial

theorem State.draw_keeps {s₀ : State} (s : State) (hk : Keeps s₀ s) :
    Keeps s₀ (State.draw s).2 := by
  unfold State.draw
  (try dsimp only)
  repeat' with_reducible first | assumption | split | refine keeps_mk ?_ rfl rfl | trivial

theorem State.emit_keeps {s₀ : State} (s : State) (o : Output) (hk : Keeps s₀ s) :
    Keeps s₀ (State.emit s o) := by
  unfold State.emit
  (try dsimp only)
  repeat' with_reducible first | assumption | split | refine keeps_mk ?_ rfl rfl | trivial

theorem State.emits_keeps {s₀ : State} (s : State) (os : List Output) (hk : Keeps s₀ s) :
    Keeps s₀ (State.emits s os) := by
  unfold State.emits
  (try dsimp only)
  repeat' with_reducible first | assumption | split | refine keeps_mk ?_ rfl rfl | trivial

theorem State.hostPut_keeps {s₀ : State} (s : State) (addr : Nat) (bs : List Byte) (attrs : HostAttrs := {}) (hk : Keeps s₀ s) :
    Keeps s₀ (State.hostPut s addr bs attrs) := by
  unfold State.hostPut
  (try dsimp only)
  repeat' with_reducible first | assumption | apply State.emits_keeps | split | refine keeps_mk ?_ rfl rfl | trivial

theorem State.hostGet_keeps {s₀ : State} (s : State) (addr : Nat) (n : Nat) (attrs : HostAttrs := {}) (hk : Keeps s₀ s) :
    Keeps s₀ (State.hostGet s addr n attrs) := by
  unfold State.hostGet
  (try dsimp only)
  repeat' with_reducible first | assumption | apply State.emits_keeps | split | refine keeps_mk ?_ rfl rfl | trivial

theorem vecEvent_keeps {s₀ : State} (v : Nat) (s : State) (hk : Keeps s₀ s) :
    Keeps s₀ (vecEvent v s) := by
  unfold vecEvent
  (try dsimp only)
  repeat' with_reducible first | assumption | apply State.emit_keeps | split | refine keeps_mk ?_ rfl rfl | trivial

theorem raiseCause_keeps {s₀ : State} (n : Nat) (s : State) (hk : Keeps s₀ s) :
    Keeps s₀ (raiseCause n s) := by
  unfold raiseCause
  (try dsimp only)
  repeat' with_reducible first | assumption | apply vecEvent_keeps | split | refine keeps_mk ?_ rfl rfl | trivial

theorem setMode_keeps {s₀ : State} (m : Mode) (s : State) (hk : Keeps s₀ s) :
    Keeps s₀ (setMode m s) := by
  unfold setMode
  (try dsimp only)
  repeat' with_reducible first | assumption | apply raiseCause_keeps | split | refine keeps_mk ?_ rfl rfl | trivial

theorem driveFaultN_keeps {s₀ : State} (s : State) (hk : Keeps s₀ s) :
    Keeps s₀ (driveFaultN s) := by
  unfold driveFaultN
  (try dsimp only)
  repeat' with_reducible first | assumption | apply State.emit_keeps | split | refine keeps_mk ?_ rfl rfl | trivial

theorem State.setLink_keeps {s₀ : State} (s : State) (k : Nat) (l : PeerLink) (hk : Keeps s₀ s) :
    Keeps s₀ (State.setLink s k l) := by
  unfold State.setLink
  (try dsimp only)
  repeat' with_reducible first | assumption | split | refine keeps_mk ?_ rfl rfl | trivial

theorem sendA_keeps {s₀ : State} (k : Nat) (type : Nat) (payload : List Byte) (s : State) (hk : Keeps s₀ s) :
    Keeps s₀ (sendA k type payload s) := by
  unfold sendA
  (try dsimp only)
  repeat' with_reducible first | assumption | apply State.emit_keeps | split | refine keeps_mk ?_ rfl rfl | trivial

theorem sendBlocks_keeps {s₀ : State} (k : Nat) (frame : List Byte) (s : State) (hk : Keeps s₀ s) :
    Keeps s₀ (sendBlocks k frame s) := by
  unfold sendBlocks
  (try dsimp only)
  repeat' with_reducible first | assumption | apply State.emits_keeps | split | refine keeps_mk ?_ rfl rfl | trivial

theorem sendB_keeps {s₀ : State} (k : Nat) (type : Nat) (payload : List Byte) (s : State) (hk : Keeps s₀ s) :
    Keeps s₀ (sendB k type payload s) := by
  unfold sendB
  (try dsimp only)
  repeat' with_reducible first | assumption | apply sendBlocks_keeps | apply State.setLink_keeps | split | refine keeps_mk ?_ rfl rfl | trivial

theorem mirrorItem_keeps {s₀ : State} (code : Nat) (content : List Byte) (s : State) (hk : Keeps s₀ s) :
    Keeps s₀ (mirrorItem code content s) := by
  unfold mirrorItem
  (try dsimp only)
  repeat' with_reducible first
    | assumption | refine keeps_foldl (fun _ _ _ => ?_) ?_ | apply sendB_keeps | split | refine keeps_mk ?_ rfl rfl | trivial

theorem State.setRq_keeps {s₀ : State} (s : State) (n : Nat) (q : Rq) (hk : Keeps s₀ s) :
    Keeps s₀ (State.setRq s n q) := by
  unfold State.setRq
  (try dsimp only)
  repeat' with_reducible first | assumption | split | refine keeps_mk ?_ rfl rfl | trivial

theorem writeWords_keeps {s₀ : State} (cls : Nat) (p : Nat → Nat → Bool) (s : State) (hk : Keeps s₀ s) :
    Keeps s₀ (writeWords cls p s) := by
  unfold writeWords
  (try dsimp only)
  repeat' with_reducible first | assumption | split | refine keeps_mk ?_ rfl rfl | trivial

theorem State.putRq_keeps {s₀ : State} (s : State) (n : Nat) (q : Rq) (hk : Keeps s₀ s) :
    Keeps s₀ (State.putRq s n q) := by
  unfold State.putRq
  (try dsimp only)
  repeat' with_reducible first | assumption | apply writeWords_keeps | apply State.setRq_keeps | split | refine keeps_mk ?_ rfl rfl | trivial

theorem rqWriteWord_keeps {s₀ : State} (n : Nat) (w : Word32) (first : Option Nat) (last : Option Nat) (s : State) (hk : Keeps s₀ s) :
    Keeps s₀ (rqWriteWord n w first last s).2 := by
  unfold rqWriteWord
  (try dsimp only)
  repeat' with_reducible first | assumption | apply State.putRq_keeps | apply raiseCause_keeps | split | refine keeps_mk ?_ rfl rfl | trivial

theorem bindQueue_keeps {s₀ : State} (who : Producer) (n : Option Nat) (s : State) (hk : Keeps s₀ s) :
    Keeps s₀ (bindQueue who n s) := by
  unfold bindQueue
  (try dsimp only)
  repeat' with_reducible first | assumption | split | refine keeps_mk ?_ rfl rfl | trivial

theorem rqItemWords_keeps {s₀ : State} (n l i : Nat) (ws : List Word32) (s : State) (hk : Keeps s₀ s) :
    Keeps s₀ (rqItemWords n l i ws s).2 := by
  induction ws generalizing i s with
  | nil => exact hk
  | cons w ws ih =>
    rw [rqItemWords]
    generalize hr : rqWriteWord n w _ _ s = r
    have h : Keeps s₀ r.2 := hr ▸ rqWriteWord_keeps n w _ _ s hk
    split_ifs
    · exact h
    · exact ih _ _ h
    · exact ih _ _ h

theorem rqItem_keeps {s₀ : State} (n : Nat) (record : List Byte) (s : State) (hk : Keeps s₀ s) :
    Keeps s₀ (rqItem n record s).2 := by
  unfold rqItem
  (try dsimp only)
  repeat' with_reducible first | assumption | apply rqItemWords_keeps | split | refine keeps_mk ?_ rfl rfl | trivial

/-! ### Flags.lean -/

theorem notePartner_keeps {s₀ : State} (s : State) (t : State) (hk : Keeps s₀ t) :
    Keeps s₀ (notePartner s t) := by
  unfold notePartner
  (try dsimp only)
  repeat' with_reducible first | assumption | apply raiseCause_keeps | split | refine keeps_mk ?_ rfl rfl | trivial

theorem noteServo_keeps {s₀ : State} (s : State) (t : State) (hk : Keeps s₀ t) :
    Keeps s₀ (noteServo s t) := by
  unfold noteServo
  (try dsimp only)
  repeat' with_reducible first | assumption | apply raiseCause_keeps | split | refine keeps_mk ?_ rfl rfl | trivial

/-! ### Command.lean -/

theorem State.setIface_keeps {s₀ : State} (s : State) (i : Nat) (f : Iface) (hk : Keeps s₀ s) :
    Keeps s₀ (State.setIface s i f) := by
  unfold State.setIface
  (try dsimp only)
  repeat' with_reducible first | assumption | split | refine keeps_mk ?_ rfl rfl | trivial

theorem State.modIface_keeps {s₀ : State} (s : State) (i : Nat) (g : Iface → Iface) (hk : Keeps s₀ s) :
    Keeps s₀ (State.modIface s i g) := by
  unfold State.modIface
  (try dsimp only)
  repeat' with_reducible first | assumption | apply State.setIface_keeps | split | refine keeps_mk ?_ rfl rfl | trivial

theorem sendReply_keeps {s₀ : State} (o : Origin) (r : Reply) (s : State) (hk : Keeps s₀ s) :
    Keeps s₀ (sendReply o r s) := by
  unfold sendReply
  (try dsimp only)
  repeat' with_reducible first | assumption | apply State.modIface_keeps | apply State.emit_keeps | split | refine keeps_mk ?_ rfl rfl | trivial

theorem refuse_keeps {s₀ : State} (o : Origin) (c : QCmd) (status : Nat) (offset : Nat) (data : List Byte) (s : State) (hk : Keeps s₀ s) :
    Keeps s₀ (refuse o c status offset data s) := by
  unfold refuse
  (try dsimp only)
  repeat' with_reducible first | assumption | apply sendReply_keeps | split | refine keeps_mk ?_ rfl rfl | trivial

theorem turnAway_keeps {s₀ : State} (c : QCmd) (status : Nat) (s : State) (hk : Keeps s₀ s) :
    Keeps s₀ (turnAway c status s) := by
  unfold turnAway
  (try dsimp only)
  repeat' with_reducible first | assumption | apply refuse_keeps | apply State.setIface_keeps | split | refine keeps_mk ?_ rfl rfl | trivial

theorem countPacket_keeps {s₀ : State} (i : Nat) (s : State) (hk : Keeps s₀ s) :
    Keeps s₀ (countPacket i s) := by
  unfold countPacket
  (try dsimp only)
  repeat' with_reducible first | assumption | apply State.modIface_keeps | split | refine keeps_mk ?_ rfl rfl | trivial

theorem takeTag_keeps {s₀ : State} (c : QCmd) (s : State) (hk : Keeps s₀ s) :
    Keeps s₀ (takeTag c s) := by
  unfold takeTag
  (try dsimp only)
  repeat' with_reducible first | assumption | apply State.modIface_keeps | split | refine keeps_mk ?_ rfl rfl | trivial

theorem awaitTurn_keeps {s₀ : State} (c : QCmd) (s : State) (hk : Keeps s₀ s) :
    Keeps s₀ (awaitTurn c s) := by
  unfold awaitTurn
  (try dsimp only)
  repeat' with_reducible first | assumption | split | refine keeps_mk ?_ rfl rfl | trivial

theorem discardReply_keeps {s₀ : State} (i : Nat) (s : State) (hk : Keeps s₀ s) :
    Keeps s₀ (discardReply i s) := by
  unfold discardReply
  (try dsimp only)
  repeat' with_reducible first | assumption | apply State.modIface_keeps | split | refine keeps_mk ?_ rfl rfl | trivial

theorem commitJournal_keeps {s₀ : State} (s : State) (hk : Keeps s₀ s) :
    Keeps s₀ (commitJournal s) := by
  unfold commitJournal
  (try dsimp only)
  repeat' with_reducible first | assumption | split | refine keeps_mk ?_ rfl rfl | trivial

theorem routeEntry_keeps {s₀ : State} (e : JEntry) (s : State) (hk : Keeps s₀ s) :
    Keeps s₀ (routeEntry e s) := by
  unfold routeEntry
  (try dsimp only)
  repeat' with_reducible first | assumption | apply rqItem_keeps | split | refine keeps_mk ?_ rfl rfl | trivial

theorem addJournal_keeps {s₀ : State} (c : QCmd) (status : Nat) (s : State) (hk : Keeps s₀ s) :
    Keeps s₀ (addJournal c status s) := by
  unfold addJournal
  (try dsimp only)
  repeat' with_reducible first
    | assumption | apply raiseCause_keeps | apply mirrorItem_keeps | apply routeEntry_keeps | split | refine keeps_mk ?_ rfl rfl | trivial

theorem closeCommand_keeps {s₀ : State} (c : QCmd) (journal : Bool) (mute : Bool) (status : Nat) (offset : Nat) (data : List Byte) (s : State) (hk : Keeps s₀ s) :
    Keeps s₀ (closeCommand c journal mute status offset data s) := by
  unfold closeCommand
  (try dsimp only)
  repeat' with_reducible first
    | assumption | apply addJournal_keeps | apply discardReply_keeps | apply sendReply_keeps | split | refine keeps_mk ?_ rfl rfl | trivial

theorem finishCommand_keeps {s₀ : State} (c : QCmd) (journal : Bool) (mute : Bool) (status : Nat) (offset : Nat) (data : List Byte) (s : State) (hk : Keeps s₀ s) :
    Keeps s₀ (finishCommand c journal mute status offset data s) := by
  unfold finishCommand
  (try dsimp only)
  repeat' with_reducible first | assumption | apply closeCommand_keeps | split | refine keeps_mk ?_ rfl rfl | trivial

theorem noteSetting_keeps {s₀ : State} (k : Option (Nat × List Nat)) (opcode : Nat) (p : List Byte) (before : State) (s : State) (hk : Keeps s₀ s) :
    Keeps s₀ (noteSetting k opcode p before s) := by
  unfold noteSetting
  (try dsimp only)
  repeat' with_reducible first | assumption | split | refine keeps_mk ?_ rfl rfl | trivial

theorem dropSettings_keeps {s₀ : State} (f : Nat × List Nat → Bool) (s : State) (hk : Keeps s₀ s) :
    Keeps s₀ (dropSettings f s) := by
  unfold dropSettings
  (try dsimp only)
  repeat' with_reducible first | assumption | split | refine keeps_mk ?_ rfl rfl | trivial

theorem cmdOutcome_keeps {s₀ : State} (d : Cmd) (ifc : Nat) (p : List Byte) (s : State) (hd : d.Keeps) (hk : Keeps s₀ s) :
    CmdOut.Keeps s₀ (cmdOutcome d ifc p s) := by
  have h := hd s₀ s ifc p hk
  unfold cmdOutcome
  repeat' with_reducible first | exact h | exact keeps_bad | exact keeps_err | split

theorem executeCommand_keeps {s₀ : State} (d : Cmd) (c : QCmd) (s : State) (hd : d.Keeps) (hk : Keeps s₀ s) :
    Keeps s₀ (executeCommand d c s) := by
  have h := cmdOutcome_keeps d c.ifc c.params s hd hk
  unfold executeCommand
  split <;> rename_i e
  · rw [e] at h
    split
    · exact h
    · exact finishCommand_keeps _ _ _ _ _ _ _ (noteSetting_keeps _ _ _ _ _ h)
  · exact finishCommand_keeps _ _ _ _ _ _ _ hk
  · exact finishCommand_keeps _ _ _ _ _ _ _ hk
  · rw [e] at h
    exact finishCommand_keeps _ _ _ _ _ _ _ h
  · rw [e] at h
    have h' : Keeps s₀ _ := h
    exact keeps_mk h' rfl rfl

theorem admitted_keeps {s₀ : State} (d : Cmd) (q : Packet) (s : State) (hk : Keeps s₀ s) :
    Keeps s₀ (admitted d q s) := by
  unfold admitted
  (try dsimp only)
  repeat' with_reducible first | assumption | apply takeTag_keeps | apply countPacket_keeps | split | refine keeps_mk ?_ rfl rfl | trivial

theorem runCommand_keeps {s₀ : State} (d : Cmd) (q : Packet) (s : State) (hd : d.Keeps) (hk : Keeps s₀ s) :
    Keeps s₀ (runCommand d q s) := by
  unfold runCommand
  split
  · exact hk
  · dsimp only
    split
    · exact turnAway_keeps _ _ _ (countPacket_keeps _ _ hk)
    · split
      · exact awaitTurn_keeps _ _ (admitted_keeps _ _ _ hk)
      · exact executeCommand_keeps d _ _ hd (admitted_keeps _ _ _ hk)

/-! ### Ecc.lean -/

theorem addLog_keeps {s₀ : State} (cls : Nat) (unit : Nat) (outcome : Nat) (syndrome : Nat) (address : Nat) (s : State) (hk : Keeps s₀ s) :
    Keeps s₀ (addLog cls unit outcome syndrome address s) := by
  unfold addLog
  (try dsimp only)
  repeat' with_reducible first | assumption | split | refine keeps_mk ?_ rfl rfl | trivial

theorem countError_keeps {s₀ : State} (cls : Nat) (addr : Nat) (syndrome : Nat) (k : Ecc) (s : State) (hk : Keeps s₀ s) :
    Keeps s₀ (countError cls addr syndrome k s) := by
  unfold countError
  (try dsimp only)
  repeat' with_reducible first | assumption | apply addLog_keeps | split | refine keeps_mk ?_ rfl rfl | trivial

theorem wordWritten_keeps {s₀ : State} (cls : Nat) (item : Nat) (addr : Nat) (s : State) (hk : Keeps s₀ s) :
    Keeps s₀ (wordWritten cls item addr s) := by
  unfold wordWritten
  (try dsimp only)
  repeat' with_reducible first | assumption | split | refine keeps_mk ?_ rfl rfl | trivial

theorem readWord_keeps {s₀ : State} (cls : Nat) (item : Nat) (addr : Nat) (s : State) (hk : Keeps s₀ s) :
    Keeps s₀ (readWord cls item addr s) := by
  unfold readWord
  (try dsimp only)
  repeat' with_reducible first | assumption | apply countError_keeps | split | refine keeps_mk ?_ rfl rfl | trivial

theorem readWords_keeps {s₀ : State} (cls : Nat) (p : Nat → Nat → Bool) (s : State) (hk : Keeps s₀ s) :
    Keeps s₀ (readWords cls p s) := by
  unfold readWords
  (try dsimp only)
  repeat' with_reducible first
    | assumption | refine keeps_foldl (fun _ _ _ => ?_) ?_ | apply readWord_keeps | split | refine keeps_mk ?_ rfl rfl | trivial

theorem tableWritten_keeps {s₀ : State} (kind : Nat) (first : Nat) (n : Nat) (s : State) (hk : Keeps s₀ s) :
    Keeps s₀ (tableWritten kind first n s) := by
  unfold tableWritten
  (try dsimp only)
  repeat' with_reducible first | assumption | apply writeWords_keeps | split | refine keeps_mk ?_ rfl rfl | trivial

theorem replyRead_keeps {s₀ : State} (cls : Nat) (p : Nat → Nat → Bool) (data : List Byte) (s : State) (hk : Keeps s₀ s) :
    CmdOut.Keeps s₀ (replyRead cls p data s) := by
  unfold replyRead
  (try dsimp only)
  repeat' with_reducible first
    | assumption | apply readWords_keeps | refine keeps_ok ?_ | refine keeps_fail ?_ | refine keeps_long ?_ | split | refine keeps_mk ?_ rfl rfl
    | trivial

theorem queueWriteBack_keeps {s₀ : State} (ch : Nat) (access : Nat) (s : State) (hk : Keeps s₀ s) :
    Keeps s₀ (queueWriteBack ch access s) := by
  unfold queueWriteBack
  (try dsimp only)
  repeat' with_reducible first | assumption | split | refine keeps_mk ?_ rfl rfl | trivial

theorem readBeat_keeps {s₀ : State} (ch : Nat) (addr : Nat) (s : State) (hk : Keeps s₀ s) :
    Keeps s₀ (readBeat ch addr s) := by
  unfold readBeat
  (try dsimp only)
  repeat' with_reducible first | assumption | apply countError_keeps | apply queueWriteBack_keeps | split | refine keeps_mk ?_ rfl rfl | trivial

theorem dramRead_keeps {s₀ : State} (addr : Nat) (n : Nat) (s : State) (hk : Keeps s₀ s) :
    Keeps s₀ (dramRead addr n s) := by
  unfold dramRead
  (try dsimp only)
  repeat' with_reducible first
    | assumption | refine keeps_foldl (fun _ _ _ => ?_) ?_ | apply readBeat_keeps | split | refine keeps_mk ?_ rfl rfl | trivial

theorem dramWritten_keeps {s₀ : State} (addr : Nat) (n : Nat) (s : State) (hk : Keeps s₀ s) :
    Keeps s₀ (dramWritten addr n s) := by
  unfold dramWritten
  (try dsimp only)
  repeat' with_reducible first | assumption | split | refine keeps_mk ?_ rfl rfl | trivial

/-! ### Dma.lean -/

theorem State.setCh_keeps {s₀ : State} (s : State) (c : Nat) (x : DmaCh) (hk : Keeps s₀ s) :
    Keeps s₀ (State.setCh s c x) := by
  unfold State.setCh
  (try dsimp only)
  repeat' with_reducible first | assumption | split | refine keeps_mk ?_ rfl rfl | trivial

theorem mergeRead_keeps {s₀ : State} (win : Bool) (at_ : Nat) (n : Nat) (s : State) (hk : Keeps s₀ s) :
    Keeps s₀ (mergeRead win at_ n s) := by
  unfold mergeRead
  (try dsimp only)
  repeat' with_reducible first
    | assumption | refine keeps_foldl (fun _ _ _ => ?_) ?_ | apply dramRead_keeps | split | refine keeps_mk ?_ rfl rfl | trivial

theorem dropChunk_keeps {s₀ : State} (k : Chunk) (s : State) (hk : Keeps s₀ s) :
    Keeps s₀ (dropChunk k s) := by
  unfold dropChunk
  (try dsimp only)
  repeat' with_reducible first | assumption | split | refine keeps_mk ?_ rfl rfl | trivial

theorem issueRead_keeps {s₀ : State} (c : Nat) (s : State) (hk : Keeps s₀ s) :
    Keeps s₀ (issueRead c s) := by
  unfold issueRead
  (try dsimp only)
  repeat' with_reducible first | assumption | apply State.emit_keeps | apply State.setCh_keeps | split | refine keeps_mk ?_ rfl rfl | trivial

theorem issueReads_keeps {s₀ : State} (more : Nat) (s : State) (hk : Keeps s₀ s) : Keeps s₀ (issueReads more s) := by
  induction more generalizing s with
  | zero => exact hk
  | succ more ih =>
    unfold issueReads
    split
    · exact hk
    · exact ih _ (issueRead_keeps _ _ hk)

theorem failList_keeps {s₀ : State} (c : Nat) (code : Nat) (s : State) (hk : Keeps s₀ s) :
    Keeps s₀ (failList c code s) := by
  unfold failList
  (try dsimp only)
  repeat' with_reducible first | assumption | apply State.setCh_keeps | split | refine keeps_mk ?_ rfl rfl | trivial

theorem fillChunk_keeps {s₀ : State} (k : Chunk) (bs : List Byte) (s : State) (hk : Keeps s₀ s) :
    Keeps s₀ (fillChunk k bs s) := by
  unfold fillChunk
  (try dsimp only)
  repeat' with_reducible first | assumption | apply writeWords_keeps | split | refine keeps_mk ?_ rfl rfl | trivial

theorem dmaFetch_keeps {s₀ : State} (c : Nat) (desc : Option (List Byte)) (s : State) (hk : Keeps s₀ s) :
    Keeps s₀ (dmaFetch c desc s) := by
  unfold dmaFetch
  (try dsimp only)
  repeat' with_reducible first
    | assumption | apply issueReads_keeps | apply State.emit_keeps | apply State.setCh_keeps | split | refine keeps_mk ?_ rfl rfl | trivial

theorem dmaStop_keeps {s₀ : State} (code : Nat) (s : State) (hk : Keeps s₀ s) :
    Keeps s₀ (dmaStop code s) := by
  unfold dmaStop
  (try dsimp only)
  repeat' with_reducible first | assumption | split | refine keeps_mk ?_ rfl rfl | trivial

theorem rqDeliver_keeps {s₀ : State} (n : Nat) (s : State) (hk : Keeps s₀ s) :
    Keeps s₀ (rqDeliver n s) := by
  unfold rqDeliver
  (try dsimp only)
  repeat' with_reducible first
    | assumption | apply State.emits_keeps | apply State.setRq_keeps | apply raiseCause_keeps | split | refine keeps_mk ?_ rfl rfl | trivial

/-! ### Iface.lean -/

theorem State.setOtherBank_keeps {s₀ : State} (s : State) (b : Bank) (hk : Keeps s₀ s) :
    Keeps s₀ (State.setOtherBank s b) := by
  unfold State.setOtherBank
  (try dsimp only)
  repeat' with_reducible first | assumption | split | refine keeps_mk ?_ rfl rfl | trivial

theorem updAbortEffect_keeps {s₀ : State} (s : State) (hk : Keeps s₀ s) :
    Keeps s₀ (updAbortEffect s) := by
  unfold updAbortEffect
  (try dsimp only)
  repeat' with_reducible first | assumption | apply State.setOtherBank_keeps | split | refine keeps_mk ?_ rfl rfl | trivial

theorem ifReset_keeps {s₀ : State} (i : Nat) (s : State) (hk : Keeps s₀ s) :
    Keeps s₀ (ifReset i s) := by
  unfold ifReset
  (try dsimp only)
  repeat' with_reducible first | assumption | apply State.modIface_keeps | apply updAbortEffect_keeps | split | refine keeps_mk ?_ rfl rfl | trivial

theorem dropSlot_keeps {s₀ : State} (o : Origin) (s : State) (hk : Keeps s₀ s) :
    Keeps s₀ (dropSlot o s) := by
  unfold dropSlot
  (try dsimp only)
  repeat' with_reducible first | assumption | split | refine keeps_mk ?_ rfl rfl | trivial

theorem arrive_keeps {s₀ : State} (i : Nat) (o : Origin) (b : List Byte) (s : State) (hk : Keeps s₀ s) :
    Keeps s₀ (arrive i o b s) := by
  unfold arrive
  (try dsimp only)
  repeat' with_reducible first
    | assumption | apply countPacket_keeps | apply dropSlot_keeps | apply State.modIface_keeps | apply refuse_keeps | apply turnAway_keeps
    | apply awaitTurn_keeps | apply takeTag_keeps | split | refine keeps_mk ?_ rfl rfl | trivial

theorem ringTail_keeps {s₀ : State} (v : Word32) (s : State) (hk : Keeps s₀ s) :
    Keeps s₀ (ringTail v s) := by
  unfold ringTail
  (try dsimp only)
  repeat' with_reducible first | assumption | split | refine keeps_mk ?_ rfl rfl | trivial

theorem ringCtrl_keeps {s₀ : State} (v : Word32) (s : State) (hk : Keeps s₀ s) :
    Keeps s₀ (ringCtrl v s) := by
  unfold ringCtrl
  (try dsimp only)
  repeat' with_reducible first | assumption | apply ifReset_keeps | split | refine keeps_mk ?_ rfl rfl | trivial

theorem ringFetch_keeps {s₀ : State} (desc : List Byte) (packet : Option (List Byte)) (s : State) (hk : Keeps s₀ s) :
    Keeps s₀ (ringFetch desc packet s) := by
  unfold ringFetch
  (try dsimp only)
  repeat' with_reducible first
    | assumption | apply State.emit_keeps | apply State.hostGet_keeps | apply refuse_keeps | apply arrive_keeps | split | refine keeps_mk ?_ rfl rfl
    | trivial

theorem ringComplete_keeps {s₀ : State} (s : State) (hk : Keeps s₀ s) :
    Keeps s₀ (ringComplete s) := by
  unfold ringComplete
  (try dsimp only)
  repeat' with_reducible first
    | assumption | apply State.hostPut_keeps | apply State.emit_keeps | apply State.modIface_keeps | apply raiseCause_keeps | split
    | refine keeps_mk ?_ rfl rfl | trivial

theorem mgmtDatagram_keeps {s₀ : State} (verified : Bool) (fragments : List Ps) (srcIp : Nat) (srcPort : Nat) (b : List Byte) (s : State) (hk : Keeps s₀ s) :
    Keeps s₀ (mgmtDatagram verified fragments srcIp srcPort b s) := by
  unfold mgmtDatagram
  (try dsimp only)
  repeat' with_reducible first | assumption | apply arrive_keeps | split | refine keeps_mk ?_ rfl rfl | trivial

theorem svcSend_keeps {s₀ : State} (frame : List Byte) (s : State) (hk : Keeps s₀ s) :
    Keeps s₀ (svcSend frame s) := by
  unfold svcSend
  (try dsimp only)
  repeat' with_reducible first | assumption | apply State.emit_keeps | split | refine keeps_mk ?_ rfl rfl | trivial

theorem svcAck_keeps {s₀ : State} (fseq : Nat) (s : State) (hk : Keeps s₀ s) :
    Keeps s₀ (svcAck fseq s) := by
  unfold svcAck
  (try dsimp only)
  repeat' with_reducible first | assumption | apply svcSend_keeps | split | refine keeps_mk ?_ rfl rfl | trivial

theorem svcNak_keeps {s₀ : State} (fseq : Nat) (reason : Nat) (s : State) (hk : Keeps s₀ s) :
    Keeps s₀ (svcNak fseq reason s) := by
  unfold svcNak
  (try dsimp only)
  repeat' with_reducible first | assumption | apply svcSend_keeps | split | refine keeps_mk ?_ rfl rfl | trivial

theorem framingLoss_keeps {s₀ : State} (s : State) (hk : Keeps s₀ s) :
    Keeps s₀ (framingLoss s) := by
  unfold framingLoss
  (try dsimp only)
  repeat' with_reducible first | assumption | apply ifReset_keeps | split | refine keeps_mk ?_ rfl rfl | trivial

theorem bastikDataFrame_keeps {s₀ : State} (f : List Byte) (s : State) (hk : Keeps s₀ s) :
    Keeps s₀ (bastikDataFrame f s) := by
  unfold bastikDataFrame
  (try dsimp only)
  repeat' with_reducible first
    | assumption | apply framingLoss_keeps | apply svcNak_keeps | apply svcAck_keeps | apply arrive_keeps | split | refine keeps_mk ?_ rfl rfl
    | trivial

theorem bastikPollFrame.pollNext_keeps {s₀ : State} (next : Nat) (b : Bastik) (q : Nat) (s : State) (hk : Keeps s₀ s) :
    Keeps s₀ (bastikPollFrame.pollNext next b q s) := by
  unfold bastikPollFrame.pollNext
  (try dsimp only)
  repeat' with_reducible first | assumption | apply svcSend_keeps | apply State.modIface_keeps | split | refine keeps_mk ?_ rfl rfl | trivial

theorem bastikPollFrame_keeps {s₀ : State} (f : List Byte) (s : State) (hk : Keeps s₀ s) :
    Keeps s₀ (bastikPollFrame f s) := by
  unfold bastikPollFrame
  (try dsimp only)
  repeat' with_reducible first
    | assumption | apply framingLoss_keeps | apply svcNak_keeps | apply svcSend_keeps | apply bastikPollFrame.pollNext_keeps | split
    | refine keeps_mk ?_ rfl rfl | trivial

theorem raiseAll_keeps {s₀ : State} (new : BitVec 64) (s : State) (hk : Keeps s₀ s) :
    Keeps s₀ (raiseAll new s) := by
  unfold raiseAll
  (try dsimp only)
  repeat' with_reducible first
    | assumption | refine keeps_foldl (fun _ _ _ => ?_) ?_ | apply raiseCause_keeps | split | refine keeps_mk ?_ rfl rfl | trivial

theorem intSetWrite_keeps {s₀ : State} (idx : Nat) (v : Word32) (s : State) (hk : Keeps s₀ s) :
    Keeps s₀ (intSetWrite idx v s) := by
  unfold intSetWrite
  (try dsimp only)
  repeat' with_reducible first | assumption | apply raiseAll_keeps | split | refine keeps_mk ?_ rfl rfl | trivial

theorem intCauseWrite_keeps {s₀ : State} (idx : Nat) (v : Word32) (again : Word32) (s : State) (hk : Keeps s₀ s) :
    Keeps s₀ (intCauseWrite idx v again s) := by
  unfold intCauseWrite
  (try dsimp only)
  repeat' with_reducible first | assumption | apply raiseAll_keeps | split | refine keeps_mk ?_ rfl rfl | trivial

theorem intMaskWrite_keeps {s₀ : State} (idx : Nat) (v : Word32) (s : State) (hk : Keeps s₀ s) :
    Keeps s₀ (intMaskWrite idx v s) := by
  unfold intMaskWrite
  (try dsimp only)
  repeat' with_reducible first
    | assumption | refine keeps_foldl (fun _ _ _ => ?_) ?_ | apply vecEvent_keeps | split | refine keeps_mk ?_ rfl rfl | trivial

theorem State.setVec_keeps {s₀ : State} (s : State) (v : Nat) (m : MsixVec) (hk : Keeps s₀ s) :
    Keeps s₀ (State.setVec s v m) := by
  unfold State.setVec
  (try dsimp only)
  repeat' with_reducible first | assumption | split | refine keeps_mk ?_ rfl rfl | trivial

theorem moderationEnd_keeps {s₀ : State} (v : Nat) (s : State) (hk : Keeps s₀ s) :
    Keeps s₀ (moderationEnd v s) := by
  unfold moderationEnd
  (try dsimp only)
  repeat' with_reducible first | assumption | apply State.setVec_keeps | apply State.emit_keeps | split | refine keeps_mk ?_ rfl rfl | trivial

theorem vecUnmask_keeps {s₀ : State} (v : Nat) (s : State) (hk : Keeps s₀ s) :
    Keeps s₀ (vecUnmask v s) := by
  unfold vecUnmask
  (try dsimp only)
  repeat' with_reducible first | assumption | apply State.setVec_keeps | apply vecEvent_keeps | split | refine keeps_mk ?_ rfl rfl | trivial

theorem classDrop_keeps {s₀ : State} (cls : Nat) (s : State) (hk : Keeps s₀ s) :
    Keeps s₀ (classDrop cls s) := by
  unfold classDrop
  (try dsimp only)
  repeat' with_reducible first | assumption | split | refine keeps_mk ?_ rfl rfl | trivial

theorem ringOff_keeps {s₀ : State} (r : Nat) (s : State) (hk : Keeps s₀ s) :
    Keeps s₀ (ringOff r s) := by
  unfold ringOff
  (try dsimp only)
  repeat' with_reducible first
    | assumption | refine keeps_foldl (fun _ _ _ => ?_) ?_ | apply classDrop_keeps | split | refine keeps_mk ?_ rfl rfl | trivial

theorem ringsDown_keeps {s₀ : State} (s : State) (hk : Keeps s₀ s) :
    Keeps s₀ (ringsDown s) := by
  unfold ringsDown
  (try dsimp only)
  repeat' with_reducible first
    | assumption | refine keeps_foldl (fun _ _ _ => ?_) ?_ | apply ringOff_keeps | split | refine keeps_mk ?_ rfl rfl | trivial

theorem pcieDown_keeps {s₀ : State} (s : State) (hk : Keeps s₀ s) :
    Keeps s₀ (pcieDown s) := by
  unfold pcieDown
  (try dsimp only)
  repeat' with_reducible first
    | assumption | apply ifReset_keeps | apply ringsDown_keeps | apply dmaStop_keeps | split | refine keeps_mk ?_ rfl rfl | trivial

theorem bar0Reset_keeps {s₀ : State} (s : State) (hk : Keeps s₀ s) :
    Keeps s₀ (bar0Reset s) := by
  unfold bar0Reset
  (try dsimp only)
  repeat' with_reducible first | assumption | split | refine keeps_mk ?_ rfl rfl | trivial

/-! ### Regs.lean -/

theorem readRingAt_keeps {s₀ : State} (o : Nat) (s : State) (hk : Keeps s₀ s) :
    Keeps s₀ (readRingAt o s) := by
  unfold readRingAt
  (try dsimp only)
  repeat' with_reducible first | assumption | split | refine keeps_mk ?_ rfl rfl | trivial

theorem readChAt_keeps {s₀ : State} (o : Nat) (s : State) (hk : Keeps s₀ s) :
    Keeps s₀ (readChAt o s) := by
  unfold readChAt
  (try dsimp only)
  repeat' with_reducible first | assumption | apply State.setCh_keeps | split | refine keeps_mk ?_ rfl rfl | trivial

theorem readRqAt_keeps {s₀ : State} (o : Nat) (s : State) (hk : Keeps s₀ s) :
    Keeps s₀ (readRqAt o s) := by
  unfold readRqAt
  (try dsimp only)
  repeat' with_reducible first | assumption | apply State.setRq_keeps | split | refine keeps_mk ?_ rfl rfl | trivial

theorem readEffect_keeps {s₀ : State} (a : Nat) (s : State) (hk : Keeps s₀ s) :
    Keeps s₀ (readEffect a s) := by
  unfold readEffect
  (try dsimp only)
  repeat' with_reducible first
    | assumption | apply readRingAt_keeps | apply readChAt_keeps | apply readRqAt_keeps | split | refine keeps_mk ?_ rfl rfl | trivial

theorem writeVec_keeps {s₀ : State} (n : Nat) (k : Nat) (v : Word32) (s : State) (hk : Keeps s₀ s) :
    Keeps s₀ (writeVec n k v s) := by
  unfold writeVec
  (try dsimp only)
  repeat' with_reducible first | assumption | apply State.setVec_keeps | apply vecUnmask_keeps | split | refine keeps_mk ?_ rfl rfl | trivial

theorem writeMapAt_keeps {s₀ : State} (o : Nat) (v : Word32) (s : State) (hk : Keeps s₀ s) :
    Keeps s₀ (writeMapAt o v s) := by
  unfold writeMapAt
  (try dsimp only)
  repeat' with_reducible first | assumption | split | refine keeps_mk ?_ rfl rfl | trivial

theorem writeRingAt_keeps {s₀ : State} (o : Nat) (v : Word32) (s : State) (hk : Keeps s₀ s) :
    Keeps s₀ (writeRingAt o v s) := by
  unfold writeRingAt
  (try dsimp only)
  repeat' with_reducible first | assumption | split | refine keeps_mk ?_ rfl rfl | trivial

theorem writeChAt_keeps {s₀ : State} (o : Nat) (v : Word32) (s : State) (hk : Keeps s₀ s) :
    Keeps s₀ (writeChAt o v s) := by
  unfold writeChAt
  (try dsimp only)
  repeat' with_reducible first | assumption | apply State.setCh_keeps | split | refine keeps_mk ?_ rfl rfl | trivial

theorem writeRqAt_keeps {s₀ : State} (o : Nat) (v : Word32) (s : State) (hk : Keeps s₀ s) :
    Keeps s₀ (writeRqAt o v s) := by
  unfold writeRqAt
  (try dsimp only)
  repeat' with_reducible first | assumption | apply State.putRq_keeps | split | refine keeps_mk ?_ rfl rfl | trivial

theorem writeArray_keeps {s₀ : State} (a : Nat) (v : Word32) (s : State) (hk : Keeps s₀ s) :
    Keeps s₀ (writeArray a v s) := by
  unfold writeArray
  (try dsimp only)
  repeat' with_reducible first
    | assumption | apply writeMapAt_keeps | apply writeVec_keeps | apply writeRingAt_keeps | apply writeChAt_keeps | apply writeRqAt_keeps | split
    | refine keeps_mk ?_ rfl rfl | trivial

theorem writeReg_keeps {s₀ : State} (a : Nat) (v : Word32) (s : State) (hk : Keeps s₀ s) :
    Keeps s₀ (writeReg a v s) := by
  unfold writeReg
  (try dsimp only)
  repeat' with_reducible first
    | assumption | apply intCauseWrite_keeps | apply intMaskWrite_keeps | apply intSetWrite_keeps | apply ringCtrl_keeps | apply ringTail_keeps
    | apply writeArray_keeps | split | refine keeps_mk ?_ rfl rfl | trivial

theorem bar0Write_keeps {s₀ : State} (a : Nat) (len : Nat) (v : Word32) (s : State) (hk : Keeps s₀ s) :
    Keeps s₀ (bar0Write a len v s) := by
  unfold bar0Write
  (try dsimp only)
  repeat' with_reducible first | assumption | apply State.emit_keeps | apply writeReg_keeps | split | refine keeps_mk ?_ rfl rfl | trivial

theorem bar0Read_keeps {s₀ : State} (a : Nat) (len : Nat) (s : State) (hk : Keeps s₀ s) :
    Keeps s₀ (bar0Read a len s) := by
  unfold bar0Read
  (try dsimp only)
  repeat' with_reducible first | assumption | apply State.emit_keeps | apply readEffect_keeps | split | refine keeps_mk ?_ rfl rfl | trivial

end Sys2Proof.Machine
end

