-- ==== Sys2Proof/Laws/KeepsTick.lean ====
section
/-! SUPPORT. `f_keeps` for egress, detection, kernels, alignment and the time base, and their commands. -/

namespace Sys2Proof.Machine

/-! ### Egress.lean -/

theorem State.setSess_keeps {s₀ : State} (s : State) (n : Nat) (x : Session) (hk : Keeps s₀ s) :
    Keeps s₀ (State.setSess s n x) := by
  unfold State.setSess
  (try dsimp only)
  repeat' with_reducible first | assumption | split | refine keeps_mk ?_ rfl rfl | trivial

theorem State.modSess_keeps {s₀ : State} (s : State) (n : Nat) (f : Session → Session) (hk : Keeps s₀ s) :
    Keeps s₀ (State.modSess s n f) := by
  unfold State.modSess
  (try dsimp only)
  repeat' with_reducible first | assumption | apply State.setSess_keeps | split | refine keeps_mk ?_ rfl rfl | trivial

theorem State.setTx_keeps {s₀ : State} (s : State) (p : Nat) (x : TxPort) (hk : Keeps s₀ s) :
    Keeps s₀ (State.setTx s p x) := by
  unfold State.setTx
  (try dsimp only)
  repeat' with_reducible first | assumption | split | refine keeps_mk ?_ rfl rfl | trivial

theorem State.modTx_keeps {s₀ : State} (s : State) (p : Nat) (f : TxPort → TxPort) (hk : Keeps s₀ s) :
    Keeps s₀ (State.modTx s p f) := by
  unfold State.modTx
  (try dsimp only)
  repeat' with_reducible first | assumption | apply State.setTx_keeps | split | refine keeps_mk ?_ rfl rfl | trivial

theorem State.setZone_keeps {s₀ : State} (s : State) (z : Nat) (x : Zone) (hk : Keeps s₀ s) :
    Keeps s₀ (State.setZone s z x) := by
  unfold State.setZone
  (try dsimp only)
  repeat' with_reducible first | assumption | split | refine keeps_mk ?_ rfl rfl | trivial

theorem State.modZone_keeps {s₀ : State} (s : State) (z : Nat) (f : Zone → Zone) (hk : Keeps s₀ s) :
    Keeps s₀ (State.modZone s z f) := by
  unfold State.modZone
  (try dsimp only)
  repeat' with_reducible first | assumption | apply State.setZone_keeps | split | refine keeps_mk ?_ rfl rfl | trivial

theorem State.setCtx_keeps {s₀ : State} (s : State) (i : Nat) (x : Ctx) (hk : Keeps s₀ s) :
    Keeps s₀ (State.setCtx s i x) := by
  unfold State.setCtx
  (try dsimp only)
  repeat' with_reducible first | assumption | split | refine keeps_mk ?_ rfl rfl | trivial

theorem State.modCtx_keeps {s₀ : State} (s : State) (i : Nat) (f : Ctx → Ctx) (hk : Keeps s₀ s) :
    Keeps s₀ (State.modCtx s i f) := by
  unfold State.modCtx
  (try dsimp only)
  repeat' with_reducible first | assumption | apply State.setCtx_keeps | split | refine keeps_mk ?_ rfl rfl | trivial

theorem countBufDrop_keeps {s₀ : State} (k : TxKind) (s : State) (hk : Keeps s₀ s) :
    Keeps s₀ (countBufDrop k s) := by
  unfold countBufDrop
  (try dsimp only)
  repeat' with_reducible first | assumption | apply State.modSess_keeps | split | refine keeps_mk ?_ rfl rfl | trivial

theorem lateFrame_keeps {s₀ : State} (p : Nat) (f : TxFrame) (s : State) (hk : Keeps s₀ s) :
    Keeps s₀ (lateFrame p f s).2 := by
  unfold lateFrame
  (try dsimp only)
  repeat' with_reducible first | assumption | apply State.emit_keeps | apply State.modSess_keeps | split | refine keeps_mk ?_ rfl rfl | trivial

theorem lateFrames_keeps {s₀ : State} (p : Nat) (late : TxFrame → Bool) (fs : List TxFrame) (s : State) (hk : Keeps s₀ s) :
    Keeps s₀ (lateFrames p late fs s).2 := by
  induction fs generalizing s with
  | nil => exact hk
  | cons f fs ih =>
    rw [lateFrames]
    dsimp only
    apply ih
    split
    · exact lateFrame_keeps p f s hk
    · exact hk

theorem enqueue_keeps {s₀ : State} (p : Nat) (express : Bool) (fs : List TxFrame) (s : State) (hk : Keeps s₀ s) :
    Keeps s₀ (enqueue p express fs s) := by
  unfold enqueue
  (try dsimp only)
  repeat' with_reducible first
    | assumption | refine keeps_foldl (fun _ _ _ => ?_) ?_ | apply State.emits_keeps | apply countBufDrop_keeps | apply State.setTx_keeps
    | apply writeWords_keeps | apply State.at_keeps | apply lateFrames_keeps | apply State.modTx_keeps | split | refine keeps_mk ?_ rfl rfl | trivial

theorem launchPassed_keeps {s₀ : State} (old : Stamp) (s : State) (hk : Keeps s₀ s) :
    Keeps s₀ (launchPassed old s) := by
  unfold launchPassed
  (try dsimp only)
  repeat' with_reducible first
    | assumption | refine keeps_foldl (fun _ _ _ => ?_) ?_ | apply lateFrames_keeps | apply State.modTx_keeps | split | refine keeps_mk ?_ rfl rfl
    | trivial

theorem launchMoved_keeps {s₀ : State} (s : State) (hk : Keeps s₀ s) :
    Keeps s₀ (launchMoved s) := by
  unfold launchMoved
  (try dsimp only)
  repeat' with_reducible first | assumption | split | refine keeps_mk ?_ rfl rfl | trivial

theorem superFrames_keeps {s₀ : State} (p : Nat) (what : String) (fs : List (List Byte)) (s : State) (hk : Keeps s₀ s) :
    Keeps s₀ (superFrames p what fs s) := by
  unfold superFrames
  (try dsimp only)
  repeat' with_reducible first | assumption | apply State.emits_keeps | apply enqueue_keeps | split | refine keeps_mk ?_ rfl rfl | trivial

theorem superDatagram_keeps {s₀ : State} (p : Nat) (what : String) (r : Route) (proto : Nat) (body : List Byte) (s : State) (hk : Keeps s₀ s) :
    Keeps s₀ (superDatagram p what r proto body s) := by
  unfold superDatagram
  (try dsimp only)
  repeat' with_reducible first
    | assumption | apply State.draw_keeps | apply superFrames_keeps | apply State.modTx_keeps | split | refine keeps_mk ?_ rfl rfl | trivial

theorem ptpFrame_keeps {s₀ : State} (p : Nat) (kind : TxKind) (octets : List Byte) (s : State) (hk : Keeps s₀ s) :
    Keeps s₀ (ptpFrame p kind octets s) := by
  unfold ptpFrame
  (try dsimp only)
  repeat' with_reducible first | assumption | apply enqueue_keeps | split | refine keeps_mk ?_ rfl rfl | trivial

theorem tcpTemplate_keeps {s₀ : State} (s : State) (hk : Keeps s₀ s) :
    Keeps s₀ (tcpTemplate s).2 := by
  unfold tcpTemplate
  (try dsimp only)
  repeat' with_reducible first | assumption | apply State.draw_keeps | split | refine keeps_mk ?_ rfl rfl | trivial

theorem superSegment_keeps {s₀ : State} (p : Nat) (what : String) (r : Route) (sport : Nat) (dport : Nat) (seq : BitVec 32) (flags : Byte) (data : List Byte) (s : State) (hk : Keeps s₀ s) :
    Keeps s₀ (superSegment p what r sport dport seq flags data s) := by
  unfold superSegment
  (try dsimp only)
  repeat' with_reducible first | assumption | apply tcpTemplate_keeps | apply superDatagram_keeps | split | refine keeps_mk ?_ rfl rfl | trivial

theorem sessSend.put_keeps {s₀ : State} (mk : Bool → TxKind) (payload : List Byte) (launch : Option Stamp) (s : State) (c : SessCfg) (hk : Keeps s₀ s) :
    Keeps s₀ (sessSend.put mk payload launch s c) := by
  unfold sessSend.put
  (try dsimp only)
  repeat' with_reducible first | assumption | apply State.modTx_keeps | apply enqueue_keeps | split | refine keeps_mk ?_ rfl rfl | trivial

theorem sessSend_keeps {s₀ : State} (n : Nat) (mk : Bool → TxKind) (at_ : Option Stamp) (payload : List Byte) (s : State) (hk : Keeps s₀ s) :
    Keeps s₀ (sessSend n mk at_ payload s) := by
  unfold sessSend
  (try dsimp only)
  repeat' with_reducible first
    | assumption | apply State.setSess_keeps | apply dramWritten_keeps | apply State.emit_keeps | apply sessSend.put_keeps | split | refine keeps_mk ?_ rfl rfl | trivial

theorem sendConfig_keeps {s₀ : State} (n : Nat) (cfg3 : Bool) (s : State) (hk : Keeps s₀ s) :
    Keeps s₀ (sendConfig n cfg3 s) := by
  unfold sendConfig
  (try dsimp only)
  repeat' with_reducible first
    | assumption | refine keeps_foldl (fun _ _ _ => ?_) ?_ | apply sessSend_keeps | apply State.modSess_keeps | split | refine keeps_mk ?_ rfl rfl
    | trivial

theorem sendOwnConfig_keeps {s₀ : State} (n : Nat) (s : State) (hk : Keeps s₀ s) :
    Keeps s₀ (sendOwnConfig n s) := by
  unfold sendOwnConfig
  (try dsimp only)
  repeat' with_reducible first | assumption | apply sendConfig_keeps | split | refine keeps_mk ?_ rfl rfl | trivial

theorem releaseWaits_keeps {s₀ : State} (s : State) (hk : Keeps s₀ s) :
    Keeps s₀ (releaseWaits s) := by
  unfold releaseWaits
  (try dsimp only)
  repeat' with_reducible first | assumption | split | refine keeps_mk ?_ rfl rfl | trivial

theorem leaveWaits_keeps {s₀ : State} (n : Nat) (s : State) (hk : Keeps s₀ s) :
    Keeps s₀ (leaveWaits n s) := by
  unfold leaveWaits
  (try dsimp only)
  repeat' with_reducible first | assumption | apply releaseWaits_keeps | split | refine keeps_mk ?_ rfl rfl | trivial

theorem refreshSession_keeps {s₀ : State} (n : Nat) (s : State) (hk : Keeps s₀ s) :
    Keeps s₀ (refreshSession n s) := by
  unfold refreshSession
  (try dsimp only)
  repeat' with_reducible first | assumption | apply State.setSess_keeps | apply leaveWaits_keeps | split | refine keeps_mk ?_ rfl rfl | trivial

theorem refreshSessions_keeps {s₀ : State} (s : State) (hk : Keeps s₀ s) :
    Keeps s₀ (refreshSessions s) := by
  unfold refreshSessions
  (try dsimp only)
  repeat' with_reducible first
    | assumption | refine keeps_foldl (fun _ _ _ => ?_) ?_ | apply refreshSession_keeps | split | refine keeps_mk ?_ rfl rfl | trivial

theorem dropTcp_keeps {s₀ : State} (n : Nat) (reset : Bool) (s : State) (hk : Keeps s₀ s) :
    Keeps s₀ (dropTcp n reset s) := by
  unfold dropTcp
  (try dsimp only)
  repeat' with_reducible first | assumption | apply refreshSession_keeps | apply State.setSess_keeps | split | refine keeps_mk ?_ rfl rfl | trivial

theorem closeAllTcp_keeps {s₀ : State} (s : State) (hk : Keeps s₀ s) :
    Keeps s₀ (closeAllTcp s) := by
  unfold closeAllTcp
  (try dsimp only)
  repeat' with_reducible first
    | assumption | refine keeps_foldl (fun _ _ _ => ?_) ?_ | apply dropTcp_keeps | split | refine keeps_mk ?_ rfl rfl | trivial

theorem stopWan_keeps {s₀ : State} (s : State) (hk : Keeps s₀ s) :
    Keeps s₀ (stopWan s) := by
  unfold stopWan
  (try dsimp only)
  repeat' with_reducible first | assumption | split | refine keeps_mk ?_ rfl rfl | trivial

theorem formatterTake_keeps {s₀ : State} (s : State) (hk : Keeps s₀ s) :
    Keeps s₀ (formatterTake s) := by
  unfold formatterTake
  (try dsimp only)
  repeat' with_reducible first | assumption | split | refine keeps_mk ?_ rfl rfl | trivial

theorem revTake_keeps {s₀ : State} (s : State) (hk : Keeps s₀ s) :
    Keeps s₀ (revTake s) := by
  unfold revTake
  (try dsimp only)
  repeat' with_reducible first | assumption | refine keeps_foldl (fun _ _ _ => ?_) ?_ | split | refine keeps_mk ?_ rfl rfl | trivial

theorem egressAssembled_keeps {s₀ : State} (c : Sealed) (s : State) (hk : Keeps s₀ s) :
    Keeps s₀ (egressAssembled c s) := by
  unfold egressAssembled
  (try dsimp only)
  repeat' with_reducible first | assumption | apply releaseWaits_keeps | split | refine keeps_mk ?_ rfl rfl | trivial

theorem egressAssemblyStart_keeps {s₀ : State} (z : Nat) (s : State) (hk : Keeps s₀ s) :
    Keeps s₀ (egressAssemblyStart z s) := by
  unfold egressAssemblyStart
  (try dsimp only)
  repeat' with_reducible first | assumption | apply refreshSessions_keeps | split | refine keeps_mk ?_ rfl rfl | trivial

theorem formRequests_keeps {s₀ : State} (z : Nat) (tick : Nat) (rev : Nat) (s : State) (hk : Keeps s₀ s) :
    Keeps s₀ (formRequests z tick rev s) := by
  unfold formRequests
  (try dsimp only)
  repeat' with_reducible first | assumption | refine keeps_foldl (fun _ _ _ => ?_) ?_ | split | refine keeps_mk ?_ rfl rfl | trivial

theorem formEnd_keeps {s₀ : State} (r : FormReq) (s : State) (hk : Keeps s₀ s) :
    Keeps s₀ (formEnd r s) := by
  unfold formEnd
  (try dsimp only)
  repeat' with_reducible first | assumption | apply releaseWaits_keeps | split | refine keeps_mk ?_ rfl rfl | trivial

theorem formatDone_keeps {s₀ : State} (r : FormReq) (s : State) (hk : Keeps s₀ s) :
    Keeps s₀ (formatDone r s) := by
  unfold formatDone
  (try dsimp only)
  repeat' with_reducible first
    | assumption | apply State.setSess_keeps | apply sendOwnConfig_keeps | apply sessSend_keeps | apply formEnd_keeps | split
    | refine keeps_mk ?_ rfl rfl | trivial

theorem tcpConnect_keeps {s₀ : State} (n : Nat) (srcIp : Nat) (srcPort : Nat) (mss : Nat) (s : State) (hk : Keeps s₀ s) :
    Keeps s₀ (tcpConnect n srcIp srcPort mss s) := by
  unfold tcpConnect
  (try dsimp only)
  repeat' with_reducible first
    | assumption | apply State.draw_keeps | apply superSegment_keeps | apply State.setSess_keeps | split | refine keeps_mk ?_ rfl rfl | trivial

theorem resetTcp_keeps {s₀ : State} (n : Nat) (s : State) (hk : Keeps s₀ s) :
    Keeps s₀ (resetTcp n s) := by
  unfold resetTcp
  (try dsimp only)
  repeat' with_reducible first | assumption | apply dropTcp_keeps | apply superSegment_keeps | split | refine keeps_mk ?_ rfl rfl | trivial

theorem sessionCommand_keeps {s₀ : State} (n : Nat) (cmd : Nat) (s : State) (hk : Keeps s₀ s) :
    Keeps s₀ (sessionCommand n cmd s) := by
  unfold sessionCommand
  (try dsimp only)
  repeat' with_reducible first
    | assumption | apply refreshSession_keeps | apply State.setSess_keeps | apply sessSend_keeps | apply sendConfig_keeps | split
    | refine keeps_mk ?_ rfl rfl | trivial

theorem queueSegments_keeps {s₀ : State} (n : Nat) (data : List Byte) (seq : BitVec 32) (upTo : Nat) (s : State) (hk : Keeps s₀ s) :
    Keeps s₀ (queueSegments n data seq upTo s) := by
  unfold queueSegments
  (try dsimp only)
  repeat' with_reducible first
    | assumption | apply tcpTemplate_keeps | apply State.setTx_keeps | apply enqueue_keeps | split | refine keeps_mk ?_ rfl rfl | trivial

theorem tcpSend_keeps {s₀ : State} (n : Nat) (len : Nat) (s : State) (hk : Keeps s₀ s) :
    Keeps s₀ (tcpSend n len s) := by
  unfold tcpSend
  (try dsimp only)
  repeat' with_reducible first | assumption | apply queueSegments_keeps | apply State.setSess_keeps | split | refine keeps_mk ?_ rfl rfl | trivial

theorem sessionSegment_keeps {s₀ : State} (n : Nat) (g : TcpSegment) (s : State) (hk : Keeps s₀ s) :
    Keeps s₀ (sessionSegment n g s) := by
  unfold sessionSegment
  (try dsimp only)
  repeat' with_reducible first | assumption | apply dropTcp_keeps | apply State.setSess_keeps | split | refine keeps_mk ?_ rfl rfl | trivial

/-! ### Mac.lean -/

theorem dropNoSa_keeps {s₀ : State} (p : Nat) (f : TxFrame) (s : State) (hk : Keeps s₀ s) :
    Keeps s₀ (dropNoSa p f s) := by
  unfold dropNoSa
  (try dsimp only)
  repeat' with_reducible first | assumption | apply State.emit_keeps | split | refine keeps_mk ?_ rfl rfl | trivial

theorem takePn_keeps {s₀ : State} (p : Nat) (f : TxFrame) (s : State) (hk : Keeps s₀ s) :
    Keeps s₀ (takePn p f s) := by
  unfold takePn
  (try dsimp only)
  repeat' with_reducible first
    | assumption | refine keeps_foldl (fun _ _ _ => ?_) ?_ | apply dropNoSa_keeps | apply State.setTx_keeps | split | refine keeps_mk ?_ rfl rfl
    | trivial

theorem expressStart_keeps {s₀ : State} (p : Nat) (s : State) (hk : Keeps s₀ s) :
    Keeps s₀ (expressStart p s) := by
  unfold expressStart
  (try dsimp only)
  repeat' with_reducible first
    | assumption | apply dropNoSa_keeps | apply State.setTx_keeps | apply takePn_keeps | apply State.modTx_keeps | split | refine keeps_mk ?_ rfl rfl
    | trivial

theorem preemptStart_keeps {s₀ : State} (p : Nat) (s : State) (hk : Keeps s₀ s) :
    Keeps s₀ (preemptStart p s) := by
  unfold preemptStart
  (try dsimp only)
  repeat' with_reducible first
    | assumption | apply State.setTx_keeps | apply dropNoSa_keeps | apply takePn_keeps | apply State.modTx_keeps | split | refine keeps_mk ?_ rfl rfl
    | trivial

theorem countFrame_keeps {s₀ : State} (k : TxKind) (late : Bool) (s : State) (hk : Keeps s₀ s) :
    Keeps s₀ (countFrame k late s) := by
  unfold countFrame
  (try dsimp only)
  repeat' with_reducible first | assumption | apply State.modSess_keeps | split | refine keeps_mk ?_ rfl rfl | trivial

theorem countSent_keeps {s₀ : State} (p : Nat) (f : TxFrame) (s : State) (hk : Keeps s₀ s) :
    Keeps s₀ (countSent p f s) := by
  unfold countSent
  (try dsimp only)
  repeat' with_reducible first
    | assumption | refine keeps_foldl (fun _ _ _ => ?_) ?_ | apply countFrame_keeps | apply State.modSess_keeps | split | refine keeps_mk ?_ rfl rfl
    | trivial

theorem noteDeparture_keeps {s₀ : State} (p : Nat) (r : TxRun) (s : State) (hk : Keeps s₀ s) :
    Keeps s₀ (noteDeparture p r s) := by
  unfold noteDeparture
  (try dsimp only)
  repeat' with_reducible first | assumption | split | refine keeps_mk ?_ rfl rfl | trivial

theorem macDone_keeps {s₀ : State} (p : Nat) (express : Bool) (s : State) (hk : Keeps s₀ s) :
    Keeps s₀ (macDone p express s) := by
  unfold macDone
  (try dsimp only)
  repeat' with_reducible first
    | assumption | apply noteDeparture_keeps | apply State.setTx_keeps | apply countSent_keeps | apply State.emits_keeps | split
    | refine keeps_mk ?_ rfl rfl | trivial

theorem launchDecide_keeps {s₀ : State} (p : Nat) (express : Bool) (s : State) (hk : Keeps s₀ s) :
    Keeps s₀ (launchDecide p express s) := by
  unfold launchDecide
  (try dsimp only)
  repeat' with_reducible first | assumption | apply State.modTx_keeps | apply lateFrame_keeps | split | refine keeps_mk ?_ rfl rfl | trivial

theorem pauseRx_keeps {s₀ : State} (p : Nat) (pfc : Option Nat) (quanta : List Nat) (s : State) (hk : Keeps s₀ s) :
    Keeps s₀ (pauseRx p pfc quanta s) := by
  unfold pauseRx
  (try dsimp only)
  repeat' with_reducible first
    | assumption | refine keeps_foldl (fun _ _ _ => ?_) ?_ | apply State.setTx_keeps | split | refine keeps_mk ?_ rfl rfl | trivial

theorem alarmReady_keeps {s₀ : State} (p : Nat) (s : State) (hk : Keeps s₀ s) :
    Keeps s₀ (alarmReady p s) := by
  unfold alarmReady
  (try dsimp only)
  repeat' with_reducible first | assumption | apply State.modTx_keeps | split | refine keeps_mk ?_ rfl rfl | trivial

theorem verifyStart_keeps {s₀ : State} (p : Nat) (attempt : Nat) (s : State) (hk : Keeps s₀ s) :
    Keeps s₀ (verifyStart p attempt s) := by
  unfold verifyStart
  (try dsimp only)
  repeat' with_reducible first | assumption | apply State.modTx_keeps | apply State.emit_keeps | split | refine keeps_mk ?_ rfl rfl | trivial

theorem wanLink_keeps {s₀ : State} (p : Nat) (up : Bool) (s : State) (hk : Keeps s₀ s) :
    Keeps s₀ (wanLink p up s) := by
  unfold wanLink
  (try dsimp only)
  repeat' with_reducible first | assumption | apply State.modTx_keeps | apply verifyStart_keeps | split | refine keeps_mk ?_ rfl rfl | trivial

/-! ### EgressCmd.lean -/

theorem setSession_keeps {s₀ : State} (s : State) (p : List Byte) (hk : Keeps s₀ s) :
    CmdOut.Keeps s₀ (setSession s p) := by
  unfold setSession
  (try dsimp only)
  repeat' with_reducible first
    | assumption | exact keeps_bad | exact keeps_err | apply leaveWaits_keeps | apply dropTcp_keeps | apply State.setSess_keeps | refine keeps_ok ?_
    | refine keeps_fail ?_ | refine keeps_long ?_ | split | refine keeps_mk ?_ rfl rfl | trivial

theorem cmdEgressSetSession_keeps : cmdEgressSetSession.Keeps := by
  intro s₀ s ifc p hk
  unfold cmdEgressSetSession
  dsimp only
  repeat' with_reducible first
    | assumption | apply setSession_keeps | refine keeps_ok ?_ | refine keeps_fail ?_ | refine keeps_long ?_ | exact keeps_bad | exact keeps_err
    | split | refine keeps_mk ?_ rfl rfl | trivial

theorem suspendSessions_keeps {s₀ : State} (z : Nat) (s : State) (hk : Keeps s₀ s) :
    Keeps s₀ (suspendSessions z s) := by
  unfold suspendSessions
  (try dsimp only)
  repeat' with_reducible first
    | assumption | refine keeps_foldl (fun _ _ _ => ?_) ?_ | apply leaveWaits_keeps | apply State.setSess_keeps | split | refine keeps_mk ?_ rfl rfl
    | trivial

theorem resumeSessions_keeps {s₀ : State} (z : Nat) (s : State) (hk : Keeps s₀ s) :
    Keeps s₀ (resumeSessions z s) := by
  unfold resumeSessions
  (try dsimp only)
  repeat' with_reducible first | assumption | split | refine keeps_mk ?_ rfl rfl | trivial

theorem setTxPort_keeps {s₀ : State} (s : State) (p : List Byte) (hk : Keeps s₀ s) :
    CmdOut.Keeps s₀ (setTxPort s p) := by
  unfold setTxPort
  (try dsimp only)
  repeat' with_reducible first
    | assumption | exact keeps_bad | exact keeps_err | apply State.setTx_keeps | apply verifyStart_keeps | refine keeps_ok ?_ | refine keeps_fail ?_
    | refine keeps_long ?_ | split | refine keeps_mk ?_ rfl rfl | trivial

theorem cmdEgressSetPort_keeps : cmdEgressSetPort.Keeps := by
  intro s₀ s ifc p hk
  unfold cmdEgressSetPort
  dsimp only
  repeat' with_reducible first
    | assumption | apply setTxPort_keeps | refine keeps_ok ?_ | refine keeps_fail ?_ | refine keeps_long ?_ | exact keeps_bad | exact keeps_err
    | split | refine keeps_mk ?_ rfl rfl | trivial

theorem cmdEgressGetSession_keeps : cmdEgressGetSession.Keeps := by
  intro s₀ s ifc p hk
  unfold cmdEgressGetSession
  dsimp only
  repeat' with_reducible first
    | assumption | refine keeps_ok ?_ | refine keeps_fail ?_ | refine keeps_long ?_ | exact keeps_bad | exact keeps_err | split
    | refine keeps_mk ?_ rfl rfl | trivial

theorem cmdEgressGetConfig_keeps : cmdEgressGetConfig.Keeps := by
  intro s₀ s ifc p hk
  unfold cmdEgressGetConfig
  dsimp only
  repeat' with_reducible first
    | assumption | refine keeps_ok ?_ | refine keeps_fail ?_ | refine keeps_long ?_ | exact keeps_bad | exact keeps_err | split
    | refine keeps_mk ?_ rfl rfl | trivial

theorem clearEgress_keeps {s₀ : State} (s : State) (hk : Keeps s₀ s) :
    Keeps s₀ (clearEgress s) := by
  unfold clearEgress
  (try dsimp only)
  repeat' with_reducible first | assumption | split | refine keeps_mk ?_ rfl rfl | trivial

theorem countersCmd_keeps {opcode : Nat} {data : State → List Byte} {clear : State → State}
    (hc : ∀ s₀ s, Keeps s₀ s → Keeps s₀ (clear s)) : (countersCmd opcode data clear).Keeps := by
  intro s₀ s ifc p hk
  unfold countersCmd
  dsimp only
  refine keeps_ok ?_
  split
  · exact hc _ _ hk
  · exact hk

theorem cmdEgressGetCounters_keeps : cmdEgressGetCounters.Keeps := countersCmd_keeps fun _ s h => clearEgress_keeps s h

theorem cmdEgressSendCfg_keeps : cmdEgressSendCfg.Keeps := by
  intro s₀ s ifc p hk
  unfold cmdEgressSendCfg
  dsimp only
  repeat' with_reducible first
    | assumption | apply sendOwnConfig_keeps | refine keeps_ok ?_ | refine keeps_fail ?_ | refine keeps_long ?_ | exact keeps_bad | exact keeps_err
    | split | refine keeps_mk ?_ rfl rfl | trivial

/-! ### Detect.lean -/

theorem State.setAld_keeps {s₀ : State} (s : State) (n : Nat) (d : AlmDef) (hk : Keeps s₀ s) :
    Keeps s₀ (State.setAld s n d) := by
  unfold State.setAld
  (try dsimp only)
  repeat' with_reducible first | assumption | split | refine keeps_mk ?_ rfl rfl | trivial

theorem updatePins_keeps {s₀ : State} (s : State) (hk : Keeps s₀ s) :
    Keeps s₀ (updatePins s) := by
  unfold updatePins
  (try dsimp only)
  repeat' with_reducible first | assumption | split | refine keeps_mk ?_ rfl rfl | trivial

theorem forcePins_keeps {s₀ : State} (v : BitVec 16) (s : State) (hk : Keeps s₀ s) :
    Keeps s₀ (forcePins v s) := by
  unfold forcePins
  (try dsimp only)
  repeat' with_reducible first | assumption | split | refine keeps_mk ?_ rfl rfl | trivial

theorem pinUpdate_keeps {s₀ : State} (s : State) (hk : Keeps s₀ s) :
    Keeps s₀ (pinUpdate s) := by
  unfold pinUpdate
  (try dsimp only)
  repeat' with_reducible first | assumption | split | refine keeps_mk ?_ rfl rfl | trivial

theorem sendAlarm_keeps {s₀ : State} (ald : Nat) (dest : Nat) (rep : Bool) (payload : List Byte) (s : State) (hk : Keeps s₀ s) :
    Keeps s₀ (sendAlarm ald dest rep payload s) := by
  unfold sendAlarm
  (try dsimp only)
  repeat' with_reducible first | assumption | apply State.modTx_keeps | apply enqueue_keeps | split | refine keeps_mk ?_ rfl rfl | trivial

theorem almEvent_keeps {s₀ : State} (n : Nat) (type : Nat) (test : Bool) (tick : Stamp) (seq : Nat) (detail : List Byte) (s : State) (hk : Keeps s₀ s) :
    Keeps s₀ (almEvent n type test tick seq detail s) := by
  unfold almEvent
  (try dsimp only)
  repeat' with_reducible first
    | assumption | refine keeps_foldl (fun _ _ _ => ?_) ?_ | apply State.setAld_keeps | apply sendAlarm_keeps | split | refine keeps_mk ?_ rfl rfl
    | trivial

theorem almRepeat_keeps {s₀ : State} (n : Nat) (s : State) (hk : Keeps s₀ s) :
    Keeps s₀ (almRepeat n s) := by
  unfold almRepeat
  (try dsimp only)
  repeat' with_reducible first
    | assumption | refine keeps_foldl (fun _ _ _ => ?_) ?_ | apply State.setAld_keeps | apply sendAlarm_keeps | split | refine keeps_mk ?_ rfl rfl
    | trivial

theorem almDecide_keeps {s₀ : State} (n : Nat) (raw : Raw) (tick : Stamp) (seq : Nat) (detail : List Byte) (s : State) (hk : Keeps s₀ s) :
    Keeps s₀ (almDecide n raw tick seq detail s) := by
  unfold almDecide
  (try dsimp only)
  repeat' with_reducible first
    | assumption | apply State.setAld_keeps | apply almEvent_keeps | apply mirrorItem_keeps | apply updatePins_keeps | split
    | refine keeps_mk ?_ rfl rfl | trivial

theorem almTake_keeps {s₀ : State} (n : Nat) (raw : Raw) (tick : Stamp) (seq : Nat) (detail : List Byte) (s : State) (hk : Keeps s₀ s) :
    Keeps s₀ (almTake n raw tick seq detail s) := by
  unfold almTake
  (try dsimp only)
  repeat' with_reducible first | assumption | apply State.setAld_keeps | apply almDecide_keeps | split | refine keeps_mk ?_ rfl rfl | trivial

theorem almFollow_keeps {s₀ : State} (k n : Nat) (s : State) (hk : Keeps s₀ s) :
    Keeps s₀ (almFollow k n s) := by
  induction k generalizing s with
  | zero => exact hk
  | succ k ih =>
    rw [almFollow]
    split
    · exact hk
    · split
      · exact hk
      · split
        · exact hk
        · exact ih _ (almDecide_keeps _ _ _ _ _ _ (State.setAld_keeps _ _ _ hk))

theorem almRelease_keeps {s₀ : State} (zone : Nat) (s : State) (hk : Keeps s₀ s) :
    Keeps s₀ (almRelease zone s) := by
  unfold almRelease
  (try dsimp only)
  repeat' with_reducible first
    | assumption | refine keeps_foldl (fun _ _ _ => ?_) ?_ | apply almFollow_keeps | split | refine keeps_mk ?_ rfl rfl | trivial

theorem almDecideAll_keeps {s₀ : State} (zone : Nat) (tick : Stamp) (seq : Nat) (f : AlmDef → Option (Raw × List Byte)) (s : State) (hk : Keeps s₀ s) :
    Keeps s₀ (almDecideAll zone tick seq f s) := by
  unfold almDecideAll
  (try dsimp only)
  repeat' with_reducible first
    | assumption | refine keeps_foldl (fun _ _ _ => ?_) ?_ | apply almRelease_keeps | apply almTake_keeps | split | refine keeps_mk ?_ rfl rfl
    | trivial

theorem almArm_keeps {s₀ : State} (f : AlmDef → Bool) (s : State) (hk : Keeps s₀ s) :
    Keeps s₀ (almArm f s) := by
  unfold almArm
  (try dsimp only)
  repeat' with_reducible first | assumption | apply updatePins_keeps | split | refine keeps_mk ?_ rfl rfl | trivial

theorem almLose_keeps {s₀ : State} (s : State) (hk : Keeps s₀ s) :
    Keeps s₀ (almLose s) := by
  unfold almLose
  (try dsimp only)
  repeat' with_reducible first | assumption | split | refine keeps_mk ?_ rfl rfl | trivial

theorem testStop_keeps {s₀ : State} (n : Nat) (s : State) (hk : Keeps s₀ s) :
    Keeps s₀ (testStop n s) := by
  unfold testStop
  (try dsimp only)
  repeat' with_reducible first
    | assumption | apply State.setAld_keeps | apply updatePins_keeps | apply almEvent_keeps | split | refine keeps_mk ?_ rfl rfl | trivial

theorem testStart_keeps {s₀ : State} (n : Nat) (ms : Nat) (s : State) (hk : Keeps s₀ s) :
    Keeps s₀ (testStart n ms s) := by
  unfold testStart
  (try dsimp only)
  repeat' with_reducible first
    | assumption | apply State.setAld_keeps | apply updatePins_keeps | apply almEvent_keeps | split | refine keeps_mk ?_ rfl rfl | trivial

theorem almAck_keeps {s₀ : State} (n : Nat) (s : State) (hk : Keeps s₀ s) :
    Keeps s₀ (almAck n s).2 := by
  unfold almAck
  (try dsimp only)
  repeat' with_reducible first
    | assumption | apply State.setAld_keeps | apply almEvent_keeps | apply updatePins_keeps | split | refine keeps_mk ?_ rfl rfl | trivial

theorem State.setCoh_keeps {s₀ : State} (s : State) (z : Nat) (x : CohZone) (hk : Keeps s₀ s) :
    Keeps s₀ (State.setCoh s z x) := by
  unfold State.setCoh
  (try dsimp only)
  repeat' with_reducible first | assumption | split | refine keeps_mk ?_ rfl rfl | trivial

theorem cohHold_keeps {s₀ : State} (z : Nat) (tick : Nat) (s : State) (hk : Keeps s₀ s) :
    Keeps s₀ (cohHold z tick s) := by
  unfold cohHold
  (try dsimp only)
  repeat' with_reducible first | assumption | split | refine keeps_mk ?_ rfl rfl | trivial

theorem cohFree_keeps {s₀ : State} (c : Sealed) (s : State) (hk : Keeps s₀ s) :
    Keeps s₀ (cohFree c s) := by
  unfold cohFree
  (try dsimp only)
  repeat' with_reducible first | assumption | split | refine keeps_mk ?_ rfl rfl | trivial

theorem cohTake_keeps {s₀ : State} (s : State) (hk : Keeps s₀ s) :
    Keeps s₀ (cohTake s) := by
  unfold cohTake
  (try dsimp only)
  repeat' with_reducible first | assumption | split | refine keeps_mk ?_ rfl rfl | trivial

theorem cohDone_keeps {s₀ : State} (c : Sealed) (s : State) (hk : Keeps s₀ s) :
    Keeps s₀ (cohDone c s) := by
  unfold cohDone
  (try dsimp only)
  repeat' with_reducible first
    | assumption | apply State.setCoh_keeps | apply almDecideAll_keeps | apply cohTake_keeps | apply cohFree_keeps | apply almRelease_keeps | split
    | refine keeps_mk ?_ rfl rfl | trivial

theorem oscReset_keeps {s₀ : State} (f : Signal → Bool) (s : State) (hk : Keeps s₀ s) :
    Keeps s₀ (oscReset f s) := by
  unfold oscReset
  (try dsimp only)
  repeat' with_reducible first | assumption | split | refine keeps_mk ?_ rfl rfl | trivial

theorem oscDecide_keeps {s₀ : State} (z : Nat) (tick : Stamp) (seq : Nat) (s : State) (hk : Keeps s₀ s) :
    Keeps s₀ (oscDecide z tick seq s) := by
  unfold oscDecide
  (try dsimp only)
  repeat' with_reducible first | assumption | apply almDecideAll_keeps | split | refine keeps_mk ?_ rfl rfl | trivial

theorem bandTake_keeps {s₀ : State} (s : State) (hk : Keeps s₀ s) :
    Keeps s₀ (bandTake s) := by
  unfold bandTake
  (try dsimp only)
  repeat' with_reducible first | assumption | split | refine keeps_mk ?_ rfl rfl | trivial

theorem bandDone_keeps {s₀ : State} (c : Sealed) (s : State) (hk : Keeps s₀ s) :
    Keeps s₀ (bandDone c s) := by
  unfold bandDone
  (try dsimp only)
  repeat' with_reducible first
    | assumption | apply oscDecide_keeps | apply State.setCoh_keeps | apply bandTake_keeps | apply almRelease_keeps | split
    | refine keeps_mk ?_ rfl rfl | trivial

theorem detectAssembled_keeps {s₀ : State} (c : Sealed) (s : State) (hk : Keeps s₀ s) :
    Keeps s₀ (detectAssembled c s) := by
  unfold detectAssembled
  (try dsimp only)
  repeat' with_reducible first
    | assumption | apply almDecideAll_keeps | apply cohTake_keeps | apply cohFree_keeps | apply bandTake_keeps | split | refine keeps_mk ?_ rfl rfl
    | trivial

/-! ### Kernel.lean -/

theorem modArea_keeps {s₀ : State} (z : Nat) (tick : Nat) (f : Area → Area) (s : State) (hk : Keeps s₀ s) :
    Keeps s₀ (modArea z tick f s) := by
  unfold modArea
  (try dsimp only)
  repeat' with_reducible first | assumption | apply State.modZone_keeps | split | refine keeps_mk ?_ rfl rfl | trivial

theorem markIncomplete_keeps {s₀ : State} (z : Nat) (tick : Nat) (s : State) (hk : Keeps s₀ s) :
    Keeps s₀ (markIncomplete z tick s) := by
  unfold markIncomplete
  (try dsimp only)
  repeat' with_reducible first | assumption | apply modArea_keeps | split | refine keeps_mk ?_ rfl rfl | trivial

theorem planItems_keeps {s₀ : State} (z : Nat) (tick : Nat) (instant : Stamp) (deadline : Stamp) (s : State) (hk : Keeps s₀ s) :
    Keeps s₀ (planItems z tick instant deadline s) := by
  unfold planItems
  (try dsimp only)
  repeat' with_reducible first | assumption | refine keeps_foldl (fun _ _ _ => ?_) ?_ | split | refine keeps_mk ?_ rfl rfl | trivial

theorem queueItems_keeps {s₀ : State} (seq : Nat) (s : State) (hk : Keeps s₀ s) :
    Keeps s₀ (queueItems seq s) := by
  unfold queueItems
  (try dsimp only)
  repeat' with_reducible first | assumption | apply writeWords_keeps | split | refine keeps_mk ?_ rfl rfl | trivial

theorem kernelZoneStart_keeps {s₀ : State} (z : Nat) (s : State) (hk : Keeps s₀ s) :
    Keeps s₀ (kernelZoneStart z s) := by
  unfold kernelZoneStart
  (try dsimp only)
  repeat' with_reducible first | assumption | split | refine keeps_mk ?_ rfl rfl | trivial

theorem State.setEngine_keeps {s₀ : State} (s : State) (e : Nat) (x : Engine) (hk : Keeps s₀ s) :
    Keeps s₀ (State.setEngine s e x) := by
  unfold State.setEngine
  (try dsimp only)
  repeat' with_reducible first | assumption | split | refine keeps_mk ?_ rfl rfl | trivial

theorem startItem_keeps {s₀ : State} (n : Nat) (e : Nat) (x : RobEntry) (s : State) (hk : Keeps s₀ s) :
    Keeps s₀ (startItem n e x s) := by
  unfold startItem
  (try dsimp only)
  repeat' with_reducible first | assumption | apply writeWords_keeps | apply State.setEngine_keeps | split | refine keeps_mk ?_ rfl rfl | trivial

theorem dispatch_keeps {s₀ : State} (s : State) (hk : Keeps s₀ s) :
    Keeps s₀ (dispatch s) := by
  unfold dispatch
  (try dsimp only)
  repeat' with_reducible first | assumption | apply startItem_keeps | split | refine keeps_mk ?_ rfl rfl | trivial

theorem drainOne_keeps {s₀ : State} (e : Nat) (s : State) (hk : Keeps s₀ s) :
    Keeps s₀ (drainOne e s) := by
  unfold drainOne
  (try dsimp only)
  repeat' with_reducible first
    | assumption | refine keeps_foldl (fun _ _ _ => ?_) ?_ | apply dramWritten_keeps | apply State.setEngine_keeps | split
    | refine keeps_mk ?_ rfl rfl | trivial

theorem engineAccess_keeps {s₀ : State} (e : Nat) (i : Item) (words : List WordWrite) (s : State) (a : EngineAcc) (hk : Keeps s₀ s) :
    Keeps s₀ (engineAccess e i words s a) := by
  cases a with
  | load line evict => exact State.setEngine_keeps _ _ _ hk
  | keep addr b => exact State.setEngine_keeps _ _ _ hk
  | store k =>
    simp only [engineAccess]
    split
    · exact hk
    · split
      · exact State.setEngine_keeps _ _ _ (drainOne_keeps _ _ hk)
      · exact State.setEngine_keeps _ _ _ hk

theorem settleWords_keeps {s₀ : State} (s : State) (hk : Keeps s₀ s) :
    Keeps s₀ (settleWords s) := by
  unfold settleWords
  (try dsimp only)
  repeat' with_reducible first | assumption | split | refine keeps_mk ?_ rfl rfl | trivial

theorem discardEntry_keeps {s₀ : State} (n : Nat) (s : State) (hk : Keeps s₀ s) :
    Keeps s₀ (discardEntry n s) := by
  unfold discardEntry
  (try dsimp only)
  repeat' with_reducible first | assumption | apply settleWords_keeps | split | refine keeps_mk ?_ rfl rfl | trivial

theorem engineIdle_keeps {s₀ : State} (e : Nat) (st : EngineState) (s : State) (hk : Keeps s₀ s) :
    Keeps s₀ (engineIdle e st s) := by
  unfold engineIdle
  (try dsimp only)
  repeat' with_reducible first | assumption | apply State.setEngine_keeps | split | refine keeps_mk ?_ rfl rfl | trivial

theorem itemArrival_keeps {s₀ : State} (e : Nat) (s : State) (hk : Keeps s₀ s) :
    Keeps s₀ (itemArrival e s) := by
  unfold itemArrival
  (try dsimp only)
  repeat' with_reducible first | assumption | apply State.setEngine_keeps | split | refine keeps_mk ?_ rfl rfl | trivial

theorem engineRelease_keeps {s₀ : State} (e : Nat) (accs : List EngineAcc) (s : State) (hk : Keeps s₀ s) :
    Keeps s₀ (engineRelease e accs s) := by
  unfold engineRelease
  extract_lets x s1
  have k1 : Keeps s₀ s1 := engineIdle_keeps _ _ _ hk
  split
  · split
    · exact k1
    · split
      · exact discardEntry_keeps _ _ k1
      · exact keeps_mk (keeps_foldl (fun _ _ h => engineAccess_keeps _ _ _ _ _ h) k1) rfl rfl
  · exact hk

theorem drainFor_keeps {s₀ : State} (n e k : Nat) (s : State) (hk : Keeps s₀ s) : Keeps s₀ (drainFor n e k s) := by
  induction k generalizing s with
  | zero => exact hk
  | succ k ih =>
    unfold drainFor
    split
    · exact ih _ (drainOne_keeps _ _ hk)
    · exact hk

theorem fenceDone_keeps {s₀ : State} (n : Nat) (s : State) (hk : Keeps s₀ s) : Keeps s₀ (fenceDone n s) := by
  unfold fenceDone
  split
  · split
    · exact keeps_mk (keeps_foldl (fun _ _ h => drainFor_keeps _ _ _ _ h) hk) rfl rfl
    · exact hk
  · exact hk

theorem flowPost_keeps {s₀ : State} (i : Item) (ps : List KernelOut) (s : State) (hk : Keeps s₀ s) :
    Keeps s₀ (flowPost i ps s) := by
  unfold flowPost
  (try dsimp only)
  repeat' with_reducible first | assumption | apply modArea_keeps | apply almDecideAll_keeps | split | refine keeps_mk ?_ rfl rfl | trivial

theorem maskFaults_keeps {s₀ : State} (n : Nat) (s : State) (hk : Keeps s₀ s) :
    Keeps s₀ (maskFaults n s) := by
  unfold maskFaults
  (try dsimp only)
  repeat' with_reducible first | assumption | split | refine keeps_mk ?_ rfl rfl | trivial

theorem postItem_keeps {s₀ : State} (flow : Nat) (s : State) (hk : Keeps s₀ s) :
    Keeps s₀ (postItem flow s) := by
  unfold postItem
  (try dsimp only)
  repeat' with_reducible first
    | assumption | apply settleWords_keeps | apply maskFaults_keeps | apply flowPost_keeps | split | refine keeps_mk ?_ rfl rfl | trivial

theorem dropItems_keeps {s₀ : State} (f : Item → Bool) (s : State) (hk : Keeps s₀ s) :
    Keeps s₀ (dropItems f s) := by
  unfold dropItems
  (try dsimp only)
  repeat' with_reducible first | assumption | apply settleWords_keeps | split | refine keeps_mk ?_ rfl rfl | trivial

theorem budgetDeadline_keeps {s₀ : State} (z : Nat) (tick : Nat) (s : State) (hk : Keeps s₀ s) :
    Keeps s₀ (budgetDeadline z tick s) := by
  unfold budgetDeadline
  (try dsimp only)
  repeat' with_reducible first
    | assumption | apply dropItems_keeps | apply modArea_keeps | apply markIncomplete_keeps | apply State.modZone_keeps | apply almDecideAll_keeps
    | split | refine keeps_mk ?_ rfl rfl | trivial

theorem dropPosts_keeps {s₀ : State} (z : Nat) (tick : Nat) (s : State) (hk : Keeps s₀ s) :
    Keeps s₀ (dropPosts z tick s) := by
  unfold dropPosts
  (try dsimp only)
  repeat' with_reducible first | assumption | split | refine keeps_mk ?_ rfl rfl | trivial

theorem kernelLeave_keeps {s₀ : State} (s : State) (hk : Keeps s₀ s) :
    Keeps s₀ (kernelLeave s) := by
  unfold kernelLeave
  (try dsimp only)
  repeat' with_reducible first | assumption | apply dropItems_keeps | split | refine keeps_mk ?_ rfl rfl | trivial

/-! ### Align.lean -/

theorem slotWritten_keeps {s₀ : State} (z : Nat) (tick : Nat) (r : StreamRef) (s : State) (hk : Keeps s₀ s) :
    Keeps s₀ (slotWritten z tick r s) := by
  unfold slotWritten
  (try dsimp only)
  repeat' with_reducible first | assumption | apply dramWritten_keeps | split | refine keeps_mk ?_ rfl rfl | trivial

theorem startAssembly_keeps {s₀ : State} (z : Nat) (tick : Nat) (s : State) (hk : Keeps s₀ s) :
    Keeps s₀ (startAssembly z tick s) := by
  unfold startAssembly
  (try dsimp only)
  repeat' with_reducible first
    | assumption | apply State.setZone_keeps | apply planItems_keeps | apply cohHold_keeps | apply egressAssemblyStart_keeps | split
    | refine keeps_mk ?_ rfl rfl | trivial

theorem asmTake_keeps {s₀ : State} (s : State) (hk : Keeps s₀ s) :
    Keeps s₀ (asmTake s) := by
  unfold asmTake
  (try dsimp only)
  repeat' with_reducible first | assumption | apply startAssembly_keeps | split | refine keeps_mk ?_ rfl rfl | trivial

theorem asmPush_keeps {s₀ : State} (edge : Ps) (order : Stamp) (z : Nat) (tick : Nat) (s : State) (hk : Keeps s₀ s) :
    Keeps s₀ (asmPush edge order z tick s) := by
  unfold asmPush
  (try dsimp only)
  repeat' with_reducible first | assumption | split | refine keeps_mk ?_ rfl rfl | trivial

theorem dropArea_keeps {s₀ : State} (z : Nat) (tick : Nat) (s : State) (hk : Keeps s₀ s) :
    Keeps s₀ (dropArea z tick s) := by
  unfold dropArea
  (try dsimp only)
  repeat' with_reducible first | assumption | apply dropPosts_keeps | apply State.modZone_keeps | split | refine keeps_mk ?_ rfl rfl | trivial

theorem sweepAreas_keeps {s₀ : State} (z : Nat) (s : State) (hk : Keeps s₀ s) :
    Keeps s₀ (sweepAreas z s) := by
  unfold sweepAreas
  (try dsimp only)
  repeat' with_reducible first
    | assumption | refine keeps_foldl (fun _ _ _ => ?_) ?_ | apply dropArea_keeps | split | refine keeps_mk ?_ rfl rfl | trivial

theorem sweepZones_keeps {s₀ : State} (s : State) (hk : Keeps s₀ s) :
    Keeps s₀ (sweepZones s) := by
  unfold sweepZones
  (try dsimp only)
  repeat' with_reducible first
    | assumption | refine keeps_foldl (fun _ _ _ => ?_) ?_ | apply sweepAreas_keeps | split | refine keeps_mk ?_ rfl rfl | trivial

theorem dropRevision_keeps {s₀ : State} (z : Nat) (tick : Nat) (s : State) (hk : Keeps s₀ s) :
    Keeps s₀ (dropRevision z tick s) := by
  unfold dropRevision
  (try dsimp only)
  repeat' with_reducible first | assumption | apply modArea_keeps | split | refine keeps_mk ?_ rfl rfl | trivial

theorem abandonRevision_keeps {s₀ : State} (z : Nat) (tick : Nat) (s : State) (hk : Keeps s₀ s) :
    Keeps s₀ (abandonRevision z tick s) := by
  unfold abandonRevision
  (try dsimp only)
  repeat' with_reducible first | assumption | apply dropRevision_keeps | split | refine keeps_mk ?_ rfl rfl | trivial

theorem storeExpiry_keeps {s₀ : State} (z : Nat) (tick : Nat) (s : State) (hk : Keeps s₀ s) :
    Keeps s₀ (storeExpiry z tick s) := by
  unfold storeExpiry
  (try dsimp only)
  repeat' with_reducible first
    | assumption | apply sweepAreas_keeps | apply modArea_keeps | apply abandonRevision_keeps | split | refine keeps_mk ?_ rfl rfl | trivial

theorem deadlinesDue_keeps {s₀ : State} (z : Nat) (s : State) (hk : Keeps s₀ s) :
    Keeps s₀ (deadlinesDue z s) := by
  unfold deadlinesDue
  (try dsimp only)
  repeat' with_reducible first
    | assumption | refine keeps_foldl (fun _ _ _ => ?_) ?_ | apply budgetDeadline_keeps | split | refine keeps_mk ?_ rfl rfl | trivial

theorem deadlinesCome_keeps {s₀ : State} (s : State) (hk : Keeps s₀ s) :
    Keeps s₀ (deadlinesCome s) := by
  unfold deadlinesCome
  (try dsimp only)
  repeat' with_reducible first
    | assumption | refine keeps_foldl (fun _ _ _ => ?_) ?_ | apply deadlinesDue_keeps | split | refine keeps_mk ?_ rfl rfl | trivial

theorem releasesDue_keeps {s₀ : State} (z : Nat) (s : State) (hk : Keeps s₀ s) :
    Keeps s₀ (releasesDue z s) := by
  unfold releasesDue
  (try dsimp only)
  repeat' with_reducible first | assumption | apply sweepAreas_keeps | apply State.modZone_keeps | split | refine keeps_mk ?_ rfl rfl | trivial

theorem fireClose_keeps {s₀ : State} (order : Stamp) (z : Nat) (n : Nat) (s : State) (hk : Keeps s₀ s) :
    Keeps s₀ (fireClose order z n s) := by
  unfold fireClose
  (try dsimp only)
  repeat' with_reducible first
    | assumption | apply State.modZone_keeps | apply releasesDue_keeps | apply deadlinesDue_keeps | apply modArea_keeps | apply asmPush_keeps | split
    | refine keeps_mk ?_ rfl rfl | trivial

theorem sendControl_keeps {s₀ : State} (position : Nat) (index : Nat) (zone : Nat) (add : Bool) (effective : Stamp) (s : State) (hk : Keeps s₀ s) :
    Keeps s₀ (sendControl position index zone add effective s) := by
  unfold sendControl
  (try dsimp only)
  repeat' with_reducible first | assumption | apply sendB_keeps | split | refine keeps_mk ?_ rfl rfl | trivial

theorem joinZone_keeps {s₀ : State} (z : Nat) (s : State) (m : Member) (hk : Keeps s₀ s) :
    Keeps s₀ (joinZone z s m) := by
  unfold joinZone
  (try dsimp only)
  repeat' with_reducible first | assumption | apply State.modCtx_keeps | split | refine keeps_mk ?_ rfl rfl | trivial

theorem leaveZone_keeps {s₀ : State} (z : Nat) (effective : Stamp) (s : State) (m : Member) (hk : Keeps s₀ s) :
    Keeps s₀ (leaveZone z effective s m) := by
  unfold leaveZone
  (try dsimp only)
  repeat' with_reducible first | assumption | apply sendControl_keeps | apply State.modCtx_keeps | split | refine keeps_mk ?_ rfl rfl | trivial

theorem stageTick_keeps {s₀ : State} (z : Nat) (s : State) (hk : Keeps s₀ s) :
    Keeps s₀ (stageTick z s) := by
  unfold stageTick
  (try dsimp only)
  repeat' with_reducible first
    | assumption | refine keeps_foldl (fun _ _ _ => ?_) ?_ | apply joinZone_keeps | apply leaveZone_keeps | apply State.setZone_keeps | split
    | refine keeps_mk ?_ rfl rfl | trivial

theorem zoneCount_keeps {s₀ : State} (z : Nat) (f : Zone → Zone) (s : State) (hk : Keeps s₀ s) :
    Keeps s₀ (zoneCount z f s) := by
  unfold zoneCount
  (try dsimp only)
  repeat' with_reducible first | assumption | apply State.modZone_keeps | split | refine keeps_mk ?_ rfl rfl | trivial

theorem insertLate_keeps {s₀ : State} (z : Nat) (a : Area) (f : FrameRecord) (s : State) (hk : Keeps s₀ s) :
    Keeps s₀ (insertLate z a f s) := by
  unfold insertLate
  (try dsimp only)
  repeat' with_reducible first
    | assumption | apply zoneCount_keeps | apply modArea_keeps | apply slotWritten_keeps | split | refine keeps_mk ?_ rfl rfl | trivial

theorem insertPresent_keeps {s₀ : State} (due : Ps) (z : Nat) (tick : Nat) (f : FrameRecord) (s : State) (hk : Keeps s₀ s) :
    Keeps s₀ (insertPresent due z tick f s) := by
  unfold insertPresent
  (try dsimp only)
  repeat' with_reducible first
    | assumption | apply State.setZone_keeps | apply asmPush_keeps | apply modArea_keeps | split | refine keeps_mk ?_ rfl rfl | trivial

theorem placeRecord_keeps {s₀ : State} (due : Ps) (z : Nat) (tick : Nat) (f : FrameRecord) (s : State) (hk : Keeps s₀ s) :
    Keeps s₀ (placeRecord due z tick f s) := by
  unfold placeRecord
  (try dsimp only)
  repeat' with_reducible first
    | assumption | apply zoneCount_keeps | apply insertLate_keeps | apply insertPresent_keeps | apply slotWritten_keeps | split
    | refine keeps_mk ?_ rfl rfl | trivial

theorem noteGen_keeps {s₀ : State} (f : FrameRecord) (s : State) (hk : Keeps s₀ s) :
    Keeps s₀ (noteGen f s) := by
  unfold noteGen
  (try dsimp only)
  repeat' with_reducible first | assumption | split | refine keeps_mk ?_ rfl rfl | trivial

theorem insertRecord_keeps {s₀ : State} (due : Ps) (f : FrameRecord) (s : State) (hk : Keeps s₀ s) :
    Keeps s₀ (insertRecord due f s) := by
  unfold insertRecord
  (try dsimp only)
  repeat' with_reducible first
    | assumption | apply State.modCtx_keeps | apply noteGen_keeps | apply zoneCount_keeps | apply placeRecord_keeps | split
    | refine keeps_mk ?_ rfl rfl | trivial

theorem insertNext_keeps {s₀ : State} (s : State) (hk : Keeps s₀ s) :
    Keeps s₀ (insertNext s) := by
  unfold insertNext
  (try dsimp only)
  repeat' with_reducible first | assumption | apply insertRecord_keeps | split | refine keeps_mk ?_ rfl rfl | trivial

theorem assemblyDone_keeps {s₀ : State} (r : AsmRun) (s : State) (hk : Keeps s₀ s) :
    Keeps s₀ (assemblyDone r s) := by
  unfold assemblyDone
  (try dsimp only)
  repeat' with_reducible first
    | assumption | apply State.modZone_keeps | apply cohFree_keeps | apply modArea_keeps | apply queueItems_keeps | apply detectAssembled_keeps
    | apply budgetDeadline_keeps | apply releasesDue_keeps | apply egressAssembled_keeps | split | refine keeps_mk ?_ rfl rfl | trivial

theorem startRevision_keeps {s₀ : State} (z : Nat) (tick : Nat) (s : State) (hk : Keeps s₀ s) :
    Keeps s₀ (startRevision z tick s) := by
  unfold startRevision
  (try dsimp only)
  repeat' with_reducible first
    | assumption | apply dropRevision_keeps | apply modArea_keeps | apply mirrorItem_keeps | split | refine keeps_mk ?_ rfl rfl | trivial

theorem mirrorAnchor_keeps {s₀ : State} (z : Nat) (s : State) (hk : Keeps s₀ s) :
    Keeps s₀ (mirrorAnchor z s) := by
  unfold mirrorAnchor
  (try dsimp only)
  repeat' with_reducible first | assumption | apply mirrorItem_keeps | split | refine keeps_mk ?_ rfl rfl | trivial

theorem beginTicking_keeps {s₀ : State} (z : Nat) (s : State) (hk : Keeps s₀ s) :
    Keeps s₀ (beginTicking z s) := by
  unfold beginTicking
  (try dsimp only)
  repeat' with_reducible first
    | assumption | apply State.setZone_keeps | apply refreshSessions_keeps | apply kernelZoneStart_keeps | apply almArm_keeps | apply oscReset_keeps
    | split | refine keeps_mk ?_ rfl rfl | trivial

theorem zoneBegin_keeps {s₀ : State} (z : Nat) (s : State) (hk : Keeps s₀ s) :
    Keeps s₀ (zoneBegin z s) := by
  unfold zoneBegin
  (try dsimp only)
  repeat' with_reducible first
    | assumption | apply mirrorAnchor_keeps | apply beginTicking_keeps | apply resumeSessions_keeps | split | refine keeps_mk ?_ rfl rfl | trivial

theorem stopTicking_keeps {s₀ : State} (keep : Bool) (z : Nat) (s : State) (hk : Keeps s₀ s) :
    Keeps s₀ (stopTicking keep z s) := by
  unfold stopTicking
  (try dsimp only)
  repeat' with_reducible first
    | assumption | refine keeps_foldl (fun _ _ _ => ?_) ?_ | apply State.setZone_keeps | apply refreshSessions_keeps | apply almArm_keeps
    | apply sweepAreas_keeps | apply dropPosts_keeps | split | refine keeps_mk ?_ rfl rfl | trivial

theorem alignEnter_keeps {s₀ : State} (s : State) (hk : Keeps s₀ s) :
    Keeps s₀ (alignEnter s) := by
  unfold alignEnter
  (try dsimp only)
  repeat' with_reducible first
    | assumption | refine keeps_foldl (fun _ _ _ => ?_) ?_ | apply zoneBegin_keeps | apply almArm_keeps | split | refine keeps_mk ?_ rfl rfl | trivial

theorem alignLeave_keeps {s₀ : State} (s : State) (hk : Keeps s₀ s) :
    Keeps s₀ (alignLeave s) := by
  unfold alignLeave
  (try dsimp only)
  repeat' with_reducible first
    | assumption | refine keeps_foldl (fun _ _ _ => ?_) ?_ | apply stopTicking_keeps | apply forcePins_keeps | apply almLose_keeps
    | apply kernelLeave_keeps | split | refine keeps_mk ?_ rfl rfl | trivial

theorem stepZone_keeps {s₀ : State} (z : Nat) (s : State) (hk : Keeps s₀ s) :
    Keeps s₀ (stepZone z s).2 := by
  unfold stepZone
  (try dsimp only)
  repeat' with_reducible first | assumption | apply State.setZone_keeps | split | refine keeps_mk ?_ rfl rfl | trivial

theorem stepActs_keeps {s₀ : State} (forward : Bool) (s : State) (hk : Keeps s₀ s) :
    Keeps s₀ (stepActs forward s) := by
  unfold stepActs
  split
  · exact hk
  · refine keeps_foldl (fun _ _ h => keeps_foldl (fun _ _ h => storeExpiry_keeps _ _ _ h) h) ?_
    refine keeps_foldl (fun _ _ h => releasesDue_keeps _ _ (deadlinesDue_keeps _ _ h)) ?_
    refine keeps_foldl (fun _ _ h => State.modZone_keeps _ _ _ h) ?_
    refine keeps_foldl (fun _ _ h => fireClose_keeps _ _ _ _ h) ?_
    exact keeps_foldl_snd (fun a x h => stepZone_keeps x a.2 h) hk

theorem revStart_keeps {s₀ : State} (s : State) (hk : Keeps s₀ s) :
    Keeps s₀ (revStart s) := by
  unfold revStart
  (try dsimp only)
  repeat' with_reducible first | assumption | apply startRevision_keeps | split | refine keeps_mk ?_ rfl rfl | trivial

/-! ### Time.lean -/

theorem stepTo_keeps {s₀ : State} (tb : Nat) (s : State) (hk : Keeps s₀ s) :
    Keeps s₀ (stepTo tb s) := by
  unfold stepTo
  (try dsimp only)
  repeat' with_reducible first
    | assumption | apply stepActs_keeps | apply launchPassed_keeps | apply launchMoved_keeps | split | refine keeps_mk ?_ rfl rfl | trivial

theorem servoUpdate_keeps {s₀ : State} (c : Source) (theta : Int) (tau : Rat) (s : State) (hk : Keeps s₀ s) :
    Keeps s₀ (servoUpdate c theta tau s) := by
  unfold servoUpdate
  (try dsimp only)
  repeat' with_reducible first | assumption | apply noteServo_keeps | apply State.at_keeps | split | refine keeps_mk ?_ rfl rfl | trivial

theorem servoStep_keeps {s₀ : State} (theta : Int) (s : State) (hk : Keeps s₀ s) :
    Keeps s₀ (servoStep theta s) := by
  unfold servoStep
  (try dsimp only)
  repeat' with_reducible first | assumption | apply stepTo_keeps | split | refine keeps_mk ?_ rfl rfl | trivial

theorem reselect_keeps {s₀ : State} (s : State) (hk : Keeps s₀ s) :
    Keeps s₀ (reselect s) := by
  unfold reselect
  (try dsimp only)
  repeat' with_reducible first | assumption | apply noteServo_keeps | split | refine keeps_mk ?_ rfl rfl | trivial

theorem noteMeasured_keeps {s₀ : State} (c : Source) (tau : Rat) (s : State) (hk : Keeps s₀ s) :
    Keeps s₀ (noteMeasured c tau s) := by
  unfold noteMeasured
  (try dsimp only)
  repeat' with_reducible first | assumption | apply State.at_keeps | apply reselect_keeps | split | refine keeps_mk ?_ rfl rfl | trivial

theorem measure_keeps {s₀ : State} (c : Source) (theta : Int) (tau : Rat) (s : State) (hk : Keeps s₀ s) :
    Keeps s₀ (measure c theta tau s) := by
  unfold measure
  (try dsimp only)
  repeat' with_reducible first
    | assumption | apply reselect_keeps | apply noteMeasured_keeps | apply servoUpdate_keeps | split | refine keeps_mk ?_ rfl rfl | trivial

theorem loseSource_keeps {s₀ : State} (c : Source) (s : State) (hk : Keeps s₀ s) :
    Keeps s₀ (loseSource c s) := by
  unfold loseSource
  (try dsimp only)
  repeat' with_reducible first | assumption | apply reselect_keeps | split | refine keeps_mk ?_ rfl rfl | trivial

theorem setUtc_keeps {s₀ : State} (offset : Int) (pending : Bool) (deletion : Bool) (s : State) (hk : Keeps s₀ s) :
    Keeps s₀ (setUtc offset pending deletion s) := by
  unfold setUtc
  (try dsimp only)
  repeat' with_reducible first | assumption | split | refine keeps_mk ?_ rfl rfl | trivial

theorem leapSecond_keeps {s₀ : State} (s : State) (hk : Keeps s₀ s) :
    Keeps s₀ (leapSecond s) := by
  unfold leapSecond
  (try dsimp only)
  repeat' with_reducible first | assumption | split | refine keeps_mk ?_ rfl rfl | trivial

theorem leapExpire_keeps {s₀ : State} (s : State) (hk : Keeps s₀ s) :
    Keeps s₀ (leapExpire s) := by
  unfold leapExpire
  (try dsimp only)
  repeat' with_reducible first | assumption | split | refine keeps_mk ?_ rfl rfl | trivial

theorem State.setTimePort_keeps {s₀ : State} (s : State) (p : Nat) (x : TimePort) (hk : Keeps s₀ s) :
    Keeps s₀ (State.setTimePort s p x) := by
  unfold State.setTimePort
  (try dsimp only)
  repeat' with_reducible first | assumption | split | refine keeps_mk ?_ rfl rfl | trivial

theorem setRoles_keeps {s₀ : State} (s : State) (hk : Keeps s₀ s) :
    Keeps s₀ (setRoles s) := by
  unfold setRoles
  (try dsimp only)
  repeat' with_reducible first | assumption | split | refine keeps_mk ?_ rfl rfl | trivial

theorem ptpAnnounce_keeps {s₀ : State} (p : Nat) (m : PtpAnnounce) (s : State) (hk : Keeps s₀ s) :
    Keeps s₀ (ptpAnnounce p m s) := by
  unfold ptpAnnounce
  (try dsimp only)
  repeat' with_reducible first
    | assumption | apply State.setTimePort_keeps | apply setRoles_keeps | apply setUtc_keeps | split | refine keeps_mk ?_ rfl rfl | trivial

theorem syncOffset_keeps {s₀ : State} (p : Nat) (stamp : Stamp) (origin : Stamp) (corr : Int) (s : State) (hk : Keeps s₀ s) :
    Keeps s₀ (syncOffset p stamp origin corr s) := by
  unfold syncOffset
  (try dsimp only)
  repeat' with_reducible first | assumption | apply measure_keeps | apply State.setTimePort_keeps | split | refine keeps_mk ?_ rfl rfl | trivial

theorem ptpSync_keeps {s₀ : State} (p : Nat) (m : PtpSync) (s : State) (hk : Keeps s₀ s) :
    Keeps s₀ (ptpSync p m s) := by
  unfold ptpSync
  (try dsimp only)
  repeat' with_reducible first | assumption | apply State.setTimePort_keeps | apply syncOffset_keeps | split | refine keeps_mk ?_ rfl rfl | trivial

theorem ptpFollowUp_keeps {s₀ : State} (p : Nat) (m : PtpFollowUp) (s : State) (hk : Keeps s₀ s) :
    Keeps s₀ (ptpFollowUp p m s) := by
  unfold ptpFollowUp
  (try dsimp only)
  repeat' with_reducible first | assumption | apply syncOffset_keeps | apply State.setTimePort_keeps | split | refine keeps_mk ?_ rfl rfl | trivial

theorem ptpPeerDelay_keeps {s₀ : State} (p : Nat) (m : PtpPeerDelay) (s : State) (hk : Keeps s₀ s) :
    Keeps s₀ (ptpPeerDelay p m s) := by
  unfold ptpPeerDelay
  (try dsimp only)
  repeat' with_reducible first | assumption | apply ptpFrame_keeps | apply State.setTimePort_keeps | split | refine keeps_mk ?_ rfl rfl | trivial

theorem ppsInEdge_keeps {s₀ : State} (s : State) (hk : Keeps s₀ s) :
    Keeps s₀ (ppsInEdge s) := by
  unfold ppsInEdge
  (try dsimp only)
  repeat' with_reducible first | assumption | apply measure_keeps | split | refine keeps_mk ?_ rfl rfl | trivial

theorem irigFrame_keeps {s₀ : State} (f : Irig) (s : State) (hk : Keeps s₀ s) :
    Keeps s₀ (irigFrame f s) := by
  unfold irigFrame
  (try dsimp only)
  repeat' with_reducible first | assumption | apply measure_keeps | split | refine keeps_mk ?_ rfl rfl | trivial

theorem ref10Gate_keeps {s₀ : State} (r : Ref10) (s : State) (hk : Keeps s₀ s) :
    Keeps s₀ (ref10Gate r s) := by
  unfold ref10Gate
  (try dsimp only)
  repeat' with_reducible first | assumption | apply loseSource_keeps | apply measure_keeps | split | refine keeps_mk ?_ rfl rfl | trivial

theorem sourceLost_keeps {s₀ : State} (code : Nat) (s : State) (hk : Keeps s₀ s) :
    Keeps s₀ (sourceLost code s) := by
  unfold sourceLost
  (try dsimp only)
  repeat' with_reducible first
    | assumption | apply loseSource_keeps | apply setRoles_keeps | apply State.setTimePort_keeps | split | refine keeps_mk ?_ rfl rfl | trivial

theorem reserveIncrement_keeps {s₀ : State} (edges : Nat) (s : State) (hk : Keeps s₀ s) :
    Keeps s₀ (reserveIncrement edges s) := by
  unfold reserveIncrement
  (try dsimp only)
  repeat' with_reducible first | assumption | split | refine keeps_mk ?_ rfl rfl | trivial

theorem eventForm_keeps {s₀ : State} (input : Nat) (falling : Bool) (s : State) (hk : Keeps s₀ s) :
    Keeps s₀ (eventForm input falling s) := by
  unfold eventForm
  (try dsimp only)
  repeat' with_reducible first | assumption | apply rqItem_keeps | split | refine keeps_mk ?_ rfl rfl | trivial

theorem eventsForm_keeps {s₀ : State} (s : State) (hk : Keeps s₀ s) :
    Keeps s₀ (eventsForm s) := by
  unfold eventsForm
  (try dsimp only)
  repeat' with_reducible first
    | assumption | refine keeps_foldl (fun _ _ _ => ?_) ?_ | apply eventForm_keeps | split | refine keeps_mk ?_ rfl rfl | trivial

theorem eventCapture_keeps {s₀ : State} (input : Nat) (falling : Bool) (s : State) (hk : Keeps s₀ s) :
    Keeps s₀ (eventCapture input falling s) := by
  unfold eventCapture
  (try dsimp only)
  repeat' with_reducible first | assumption | apply State.at_keeps | split | refine keeps_mk ?_ rfl rfl | trivial

theorem ppsOutPulse_keeps {s₀ : State} (s : State) (hk : Keeps s₀ s) :
    Keeps s₀ (ppsOutPulse s) := by
  unfold ppsOutPulse
  (try dsimp only)
  repeat' with_reducible first | assumption | apply State.emit_keeps | split | refine keeps_mk ?_ rfl rfl | trivial

theorem ppsOutFall_keeps {s₀ : State} (s : State) (hk : Keeps s₀ s) :
    Keeps s₀ (ppsOutFall s) := by
  unfold ppsOutFall
  (try dsimp only)
  repeat' with_reducible first | assumption | apply State.emit_keeps | split | refine keeps_mk ?_ rfl rfl | trivial

/-! ### TimeCmd.lean -/

theorem cmdTimeGetStatus_keeps : cmdTimeGetStatus.Keeps := by
  intro s₀ s ifc p hk
  unfold cmdTimeGetStatus
  dsimp only
  repeat' with_reducible first
    | assumption | refine keeps_ok ?_ | refine keeps_fail ?_ | refine keeps_long ?_ | exact keeps_bad | exact keeps_err | split
    | refine keeps_mk ?_ rfl rfl | trivial

theorem timeSources_keeps {s₀ : State} (p : List Byte) (s : State) (hk : Keeps s₀ s) :
    Keeps s₀ (timeSources p s) := by
  unfold timeSources
  (try dsimp only)
  repeat' with_reducible first | assumption | apply reselect_keeps | split | refine keeps_mk ?_ rfl rfl | trivial

theorem timeServo_keeps {s₀ : State} (p : List Byte) (s : State) (hk : Keeps s₀ s) :
    Keeps s₀ (timeServo p s) := by
  unfold timeServo
  (try dsimp only)
  repeat' with_reducible first | assumption | split | refine keeps_mk ?_ rfl rfl | trivial

theorem timePortSet_keeps {s₀ : State} (p : List Byte) (s : State) (hk : Keeps s₀ s) :
    Keeps s₀ (timePortSet p s) := by
  unfold timePortSet
  (try dsimp only)
  repeat' with_reducible first
    | assumption | apply reselect_keeps | apply setRoles_keeps | apply State.setTimePort_keeps | split | refine keeps_mk ?_ rfl rfl | trivial

theorem timePtp_keeps {s₀ : State} (p : List Byte) (s : State) (hk : Keeps s₀ s) :
    Keeps s₀ (timePtp p s) := by
  unfold timePtp
  (try dsimp only)
  repeat' with_reducible first | assumption | split | refine keeps_mk ?_ rfl rfl | trivial

theorem timeSet_keeps {s₀ : State} (p : List Byte) (s : State) (hk : Keeps s₀ s) :
    Keeps s₀ (timeSet p s) := by
  unfold timeSet
  (try dsimp only)
  repeat' with_reducible first | assumption | apply stepTo_keeps | split | refine keeps_mk ?_ rfl rfl | trivial

theorem timeUtc_keeps {s₀ : State} (p : List Byte) (s : State) (hk : Keeps s₀ s) :
    Keeps s₀ (timeUtc p s) := by
  unfold timeUtc
  (try dsimp only)
  repeat' with_reducible first | assumption | apply setUtc_keeps | split | refine keeps_mk ?_ rfl rfl | trivial

theorem evtConfig_keeps {s₀ : State} (p : List Byte) (s : State) (hk : Keeps s₀ s) :
    CmdOut.Keeps s₀ (evtConfig p s) := by
  unfold evtConfig
  (try dsimp only)
  repeat' with_reducible first
    | assumption | exact keeps_bad | exact keeps_err | apply eventCapture_keeps | apply bindQueue_keeps | refine keeps_ok ?_ | refine keeps_fail ?_
    | refine keeps_long ?_ | split | refine keeps_mk ?_ rfl rfl | trivial

theorem ppsOutConfig_keeps {s₀ : State} (p : List Byte) (s : State) (hk : Keeps s₀ s) :
    Keeps s₀ (ppsOutConfig p s) := by
  unfold ppsOutConfig
  (try dsimp only)
  repeat' with_reducible first | assumption | split | refine keeps_mk ?_ rfl rfl | trivial

theorem cmdEvtRead_keeps : cmdEvtRead.Keeps := by
  intro s₀ s ifc p hk
  unfold cmdEvtRead
  dsimp only
  repeat' with_reducible first
    | assumption | refine keeps_ok ?_ | refine keeps_fail ?_ | refine keeps_long ?_ | exact keeps_bad | exact keeps_err | split
    | refine keeps_mk ?_ rfl rfl | trivial

theorem cmdTimeGetCounters_keeps : cmdTimeGetCounters.Keeps := by
  intro s₀ s ifc p hk
  unfold cmdTimeGetCounters
  dsimp only
  repeat' with_reducible first
    | assumption | refine keeps_ok ?_ | refine keeps_fail ?_ | refine keeps_long ?_ | exact keeps_bad | exact keeps_err | split
    | refine keeps_mk ?_ rfl rfl | trivial

/-! ### DetectCmd.lean -/

theorem cmdCohSetVertices_keeps : cmdCohSetVertices.Keeps := by
  intro s₀ s ifc p hk
  unfold cmdCohSetVertices
  dsimp only
  repeat' with_reducible first
    | assumption | refine keeps_foldl (fun _ _ _ => ?_) ?_ | apply tableWritten_keeps | refine keeps_ok ?_ | refine keeps_fail ?_
    | refine keeps_long ?_ | exact keeps_bad | exact keeps_err | split | refine keeps_mk ?_ rfl rfl | trivial

theorem cmdCohSetEdges_keeps : cmdCohSetEdges.Keeps := by
  intro s₀ s ifc p hk
  unfold cmdCohSetEdges
  dsimp only
  repeat' with_reducible first
    | assumption | refine keeps_foldl (fun _ _ _ => ?_) ?_ | apply tableWritten_keeps | refine keeps_ok ?_ | refine keeps_fail ?_
    | refine keeps_long ?_ | exact keeps_bad | exact keeps_err | split | refine keeps_mk ?_ rfl rfl | trivial

theorem cmdCohSetZone_keeps : cmdCohSetZone.Keeps := by
  intro s₀ s ifc p hk
  unfold cmdCohSetZone
  dsimp only
  repeat' with_reducible first
    | assumption | apply State.setCoh_keeps | refine keeps_ok ?_ | refine keeps_fail ?_ | refine keeps_long ?_ | exact keeps_bad | exact keeps_err
    | split | refine keeps_mk ?_ rfl rfl | trivial

theorem cmdCohGetResult_keeps : cmdCohGetResult.Keeps := by
  intro s₀ s ifc p hk
  unfold cmdCohGetResult
  dsimp only
  repeat' with_reducible first
    | assumption | apply replyRead_keeps | refine keeps_ok ?_ | refine keeps_fail ?_ | refine keeps_long ?_ | exact keeps_bad | exact keeps_err
    | split | refine keeps_mk ?_ rfl rfl | trivial

theorem cmdOscSetBands_keeps : cmdOscSetBands.Keeps := by
  intro s₀ s ifc p hk
  unfold cmdOscSetBands
  dsimp only
  repeat' with_reducible first
    | assumption | refine keeps_foldl (fun _ _ _ => ?_) ?_ | apply oscReset_keeps | refine keeps_ok ?_ | refine keeps_fail ?_ | refine keeps_long ?_
    | exact keeps_bad | exact keeps_err | split | refine keeps_mk ?_ rfl rfl | trivial

theorem cmdOscSetSignals_keeps : cmdOscSetSignals.Keeps := by
  intro s₀ s ifc p hk
  unfold cmdOscSetSignals
  dsimp only
  repeat' with_reducible first
    | assumption | refine keeps_foldl (fun _ _ _ => ?_) ?_ | apply tableWritten_keeps | refine keeps_ok ?_ | refine keeps_fail ?_
    | refine keeps_long ?_ | exact keeps_bad | exact keeps_err | split | refine keeps_mk ?_ rfl rfl | trivial

theorem cmdOscSetThresholds_keeps : cmdOscSetThresholds.Keeps := by
  intro s₀ s ifc p hk
  unfold cmdOscSetThresholds
  dsimp only
  repeat' with_reducible first
    | assumption | apply tableWritten_keeps | refine keeps_ok ?_ | refine keeps_fail ?_ | refine keeps_long ?_ | exact keeps_bad | exact keeps_err
    | split | refine keeps_mk ?_ rfl rfl | trivial

theorem cmdOscGetSignal_keeps : cmdOscGetSignal.Keeps := by
  intro s₀ s ifc p hk
  unfold cmdOscGetSignal
  dsimp only
  repeat' with_reducible first
    | assumption | refine keeps_foldl (fun _ _ _ => ?_) ?_ | apply replyRead_keeps | refine keeps_ok ?_ | refine keeps_fail ?_ | refine keeps_long ?_
    | exact keeps_bad | exact keeps_err | split | refine keeps_mk ?_ rfl rfl | trivial

theorem setAlarm_keeps {s₀ : State} (s : State) (p : List Byte) (hk : Keeps s₀ s) :
    Keeps s₀ (setAlarm s p) := by
  unfold setAlarm
  (try dsimp only)
  repeat' with_reducible first | assumption | apply updatePins_keeps | split | refine keeps_mk ?_ rfl rfl | trivial

theorem cmdAlarmSet_keeps : cmdAlarmSet.Keeps := by
  intro s₀ s ifc p hk
  unfold cmdAlarmSet
  dsimp only
  repeat' with_reducible first
    | assumption | apply tableWritten_keeps | apply setAlarm_keeps | refine keeps_ok ?_ | refine keeps_fail ?_ | refine keeps_long ?_
    | exact keeps_bad | exact keeps_err | split | refine keeps_mk ?_ rfl rfl | trivial

theorem cmdAlarmSetDest_keeps : cmdAlarmSetDest.Keeps := by
  intro s₀ s ifc p hk
  unfold cmdAlarmSetDest
  dsimp only
  repeat' with_reducible first
    | assumption | refine keeps_ok ?_ | refine keeps_fail ?_ | refine keeps_long ?_ | exact keeps_bad | exact keeps_err | split
    | refine keeps_mk ?_ rfl rfl | trivial

theorem cmdAlarmGetStatus_keeps : cmdAlarmGetStatus.Keeps := by
  intro s₀ s ifc p hk
  unfold cmdAlarmGetStatus
  dsimp only
  repeat' with_reducible first
    | assumption | apply replyRead_keeps | refine keeps_ok ?_ | refine keeps_fail ?_ | refine keeps_long ?_ | exact keeps_bad | exact keeps_err
    | split | refine keeps_mk ?_ rfl rfl | trivial

theorem cmdAlarmAck_keeps : cmdAlarmAck.Keeps := by
  intro s₀ s ifc p hk
  exact keeps_ok (keeps_foldl_snd (fun x n h => almAck_keeps n x.2 h) hk)

theorem cmdAlarmTest_keeps : cmdAlarmTest.Keeps := by
  intro s₀ s ifc p hk
  unfold cmdAlarmTest
  dsimp only
  repeat' with_reducible first
    | assumption | apply testStop_keeps | apply testStart_keeps | refine keeps_ok ?_ | refine keeps_fail ?_ | refine keeps_long ?_ | exact keeps_bad
    | exact keeps_err | split | refine keeps_mk ?_ rfl rfl | trivial

theorem clearDetect_keeps {s₀ : State} (s : State) (hk : Keeps s₀ s) :
    Keeps s₀ (clearDetect s) := by
  unfold clearDetect
  (try dsimp only)
  repeat' with_reducible first | assumption | split | refine keeps_mk ?_ rfl rfl | trivial

theorem cmdDetectGetCounters_keeps : cmdDetectGetCounters.Keeps := countersCmd_keeps fun _ s h => clearDetect_keeps s h

/-! ### KernelCmd.lean -/

theorem cmdKernelGetCatalogue_keeps : cmdKernelGetCatalogue.Keeps := by
  intro s₀ s ifc p hk
  unfold cmdKernelGetCatalogue
  dsimp only
  repeat' with_reducible first
    | assumption | refine keeps_ok ?_ | refine keeps_fail ?_ | refine keeps_long ?_ | exact keeps_bad | exact keeps_err | split
    | refine keeps_mk ?_ rfl rfl | trivial

theorem putTable_keeps {s₀ : State} (n : Nat) (bytes : List Byte) (s : State) (hk : Keeps s₀ s) :
    CmdOut.Keeps s₀ (putTable n bytes s) := by
  unfold putTable
  (try dsimp only)
  repeat' with_reducible first
    | assumption | refine keeps_foldl (fun _ _ _ => ?_) ?_ | exact keeps_bad | exact keeps_err | apply dramWritten_keeps | refine keeps_ok ?_
    | refine keeps_fail ?_ | refine keeps_long ?_ | split | refine keeps_mk ?_ rfl rfl | trivial

theorem setParams_keeps {s₀ : State} (s : State) (p : List Byte) (hk : Keeps s₀ s) :
    CmdOut.Keeps s₀ (setParams s p) := by
  unfold setParams
  (try dsimp only)
  repeat' with_reducible first
    | assumption | exact keeps_bad | exact keeps_err | apply putTable_keeps | refine keeps_ok ?_ | refine keeps_fail ?_ | refine keeps_long ?_ | split
    | refine keeps_mk ?_ rfl rfl | trivial

theorem cmdKernelSetParams_keeps : cmdKernelSetParams.Keeps := by
  intro s₀ s ifc p hk
  unfold cmdKernelSetParams
  dsimp only
  repeat' with_reducible first
    | assumption | apply setParams_keeps | refine keeps_ok ?_ | refine keeps_fail ?_ | refine keeps_long ?_ | exact keeps_bad | exact keeps_err
    | split | refine keeps_mk ?_ rfl rfl | trivial

theorem setFlow_keeps {s₀ : State} (s : State) (p : List Byte) (hk : Keeps s₀ s) :
    CmdOut.Keeps s₀ (setFlow s p) := by
  unfold setFlow
  (try dsimp only)
  repeat' with_reducible first
    | assumption | refine keeps_foldl (fun _ _ _ => ?_) ?_ | exact keeps_bad | exact keeps_err | apply tableWritten_keeps | refine keeps_ok ?_
    | refine keeps_fail ?_ | refine keeps_long ?_ | split | refine keeps_mk ?_ rfl rfl | trivial

theorem cmdKernelSetFlow_keeps : cmdKernelSetFlow.Keeps := by
  intro s₀ s ifc p hk
  unfold cmdKernelSetFlow
  dsimp only
  repeat' with_reducible first
    | assumption | apply setFlow_keeps | refine keeps_ok ?_ | refine keeps_fail ?_ | refine keeps_long ?_ | exact keeps_bad | exact keeps_err | split
    | refine keeps_mk ?_ rfl rfl | trivial

theorem cmdKernelGetFlow_keeps : cmdKernelGetFlow.Keeps := by
  intro s₀ s ifc p hk
  unfold cmdKernelGetFlow
  dsimp only
  repeat' with_reducible first
    | assumption | apply replyRead_keeps | refine keeps_ok ?_ | refine keeps_fail ?_ | refine keeps_long ?_ | exact keeps_bad | exact keeps_err
    | split | refine keeps_mk ?_ rfl rfl | trivial

theorem cmdKernelReadResult_keeps : cmdKernelReadResult.Keeps := by
  intro s₀ s ifc p hk
  unfold cmdKernelReadResult
  dsimp only
  repeat' with_reducible first
    | assumption | refine keeps_ok ?_ | refine keeps_fail ?_ | refine keeps_long ?_ | exact keeps_bad | exact keeps_err | split
    | refine keeps_mk ?_ rfl rfl | trivial

theorem cmdKernelGetStatus_keeps : cmdKernelGetStatus.Keeps := by
  intro s₀ s ifc p hk
  unfold cmdKernelGetStatus
  dsimp only
  repeat' with_reducible first
    | assumption | refine keeps_foldl (fun _ _ _ => ?_) ?_ | refine keeps_ok ?_ | refine keeps_fail ?_ | refine keeps_long ?_ | exact keeps_bad
    | exact keeps_err | split | refine keeps_mk ?_ rfl rfl | trivial

theorem cmdKernelGetCounters_keeps : cmdKernelGetCounters.Keeps := countersCmd_keeps fun _ s h => keeps_mk h rfl rfl

/-! ### AlignCmd.lean -/

theorem zoneConfig_keeps {s₀ : State} (s : State) (p : List Byte) (hk : Keeps s₀ s) :
    CmdOut.Keeps s₀ (zoneConfig s p) := by
  unfold zoneConfig
  (try dsimp only)
  repeat' with_reducible first
    | assumption | exact keeps_bad | exact keeps_err | apply suspendSessions_keeps | apply State.setZone_keeps | refine keeps_ok ?_
    | refine keeps_fail ?_ | refine keeps_long ?_ | split | refine keeps_mk ?_ rfl rfl | trivial

theorem cmdZoneConfig_keeps : cmdZoneConfig.Keeps := by
  intro s₀ s ifc p hk
  unfold cmdZoneConfig
  dsimp only
  repeat' with_reducible first
    | assumption | apply zoneConfig_keeps | refine keeps_ok ?_ | refine keeps_fail ?_ | refine keeps_long ?_ | exact keeps_bad | exact keeps_err
    | split | refine keeps_mk ?_ rfl rfl | trivial

theorem zoneDelete_keeps {s₀ : State} (s : State) (p : List Byte) (hk : Keeps s₀ s) :
    CmdOut.Keeps s₀ (zoneDelete s p) := by
  unfold zoneDelete
  (try dsimp only)
  repeat' with_reducible first
    | assumption | refine keeps_foldl (fun _ _ _ => ?_) ?_ | exact keeps_bad | exact keeps_err | apply dropSettings_keeps | apply leaveZone_keeps
    | apply State.setZone_keeps | refine keeps_ok ?_ | refine keeps_fail ?_ | refine keeps_long ?_ | split | refine keeps_mk ?_ rfl rfl | trivial

theorem cmdZoneDelete_keeps : cmdZoneDelete.Keeps := by
  intro s₀ s ifc p hk
  unfold cmdZoneDelete
  dsimp only
  repeat' with_reducible first
    | assumption | apply zoneDelete_keeps | refine keeps_ok ?_ | refine keeps_fail ?_ | refine keeps_long ?_ | exact keeps_bad | exact keeps_err
    | split | refine keeps_mk ?_ rfl rfl | trivial

theorem zoneStart_keeps {s₀ : State} (s : State) (p : List Byte) (hk : Keeps s₀ s) :
    CmdOut.Keeps s₀ (zoneStart s p) := by
  unfold zoneStart
  (try dsimp only)
  repeat' with_reducible first
    | assumption | exact keeps_bad | exact keeps_err | apply State.modZone_keeps | apply resumeSessions_keeps | apply zoneBegin_keeps
    | refine keeps_ok ?_ | refine keeps_fail ?_ | refine keeps_long ?_ | split | refine keeps_mk ?_ rfl rfl | trivial

theorem cmdZoneStart_keeps : cmdZoneStart.Keeps := by
  intro s₀ s ifc p hk
  unfold cmdZoneStart
  dsimp only
  repeat' with_reducible first
    | assumption | apply zoneStart_keeps | refine keeps_ok ?_ | refine keeps_fail ?_ | refine keeps_long ?_ | exact keeps_bad | exact keeps_err
    | split | refine keeps_mk ?_ rfl rfl | trivial

theorem zoneStop_keeps {s₀ : State} (s : State) (p : List Byte) (hk : Keeps s₀ s) :
    CmdOut.Keeps s₀ (zoneStop s p) := by
  unfold zoneStop
  (try dsimp only)
  repeat' with_reducible first
    | assumption | exact keeps_bad | exact keeps_err | apply stopTicking_keeps | apply State.modZone_keeps | apply dropSettings_keeps
    | refine keeps_ok ?_ | refine keeps_fail ?_ | refine keeps_long ?_ | split | refine keeps_mk ?_ rfl rfl | trivial

theorem zoneAdd_keeps {s₀ : State} (s : State) (p : List Byte) (hk : Keeps s₀ s) :
    CmdOut.Keeps s₀ (zoneAdd s p) := by
  unfold zoneAdd
  (try dsimp only)
  repeat' with_reducible first
    | assumption | exact keeps_bad | exact keeps_err | apply State.setZone_keeps | apply sendControl_keeps | refine keeps_ok ?_ | refine keeps_fail ?_
    | refine keeps_long ?_ | split | refine keeps_mk ?_ rfl rfl | trivial

theorem cmdZoneAddStream_keeps : cmdZoneAddStream.Keeps := by
  intro s₀ s ifc p hk
  unfold cmdZoneAddStream
  dsimp only
  repeat' with_reducible first
    | assumption | apply zoneAdd_keeps | refine keeps_ok ?_ | refine keeps_fail ?_ | refine keeps_long ?_ | exact keeps_bad | exact keeps_err | split
    | refine keeps_mk ?_ rfl rfl | trivial

theorem removeMember_keeps {s₀ : State} (z : Nat) (r : StreamRef) (s : State) (hk : Keeps s₀ s) :
    Keeps s₀ (removeMember z r s) := by
  unfold removeMember
  (try dsimp only)
  repeat' with_reducible first | assumption | apply State.setZone_keeps | apply sendControl_keeps | split | refine keeps_mk ?_ rfl rfl | trivial

theorem zoneRemove_keeps {s₀ : State} (s : State) (p : List Byte) (hk : Keeps s₀ s) :
    CmdOut.Keeps s₀ (zoneRemove s p) := by
  unfold zoneRemove
  (try dsimp only)
  repeat' with_reducible first
    | assumption | exact keeps_bad | exact keeps_err | apply dropSettings_keeps | apply removeMember_keeps | refine keeps_ok ?_ | refine keeps_fail ?_
    | refine keeps_long ?_ | split | refine keeps_mk ?_ rfl rfl | trivial

theorem cmdZoneRemoveStream_keeps : cmdZoneRemoveStream.Keeps := by
  intro s₀ s ifc p hk
  unfold cmdZoneRemoveStream
  dsimp only
  repeat' with_reducible first
    | assumption | apply zoneRemove_keeps | refine keeps_ok ?_ | refine keeps_fail ?_ | refine keeps_long ?_ | exact keeps_bad | exact keeps_err
    | split | refine keeps_mk ?_ rfl rfl | trivial

theorem cmdZoneGet_keeps : cmdZoneGet.Keeps := by
  intro s₀ s ifc p hk
  unfold cmdZoneGet
  dsimp only
  repeat' with_reducible first
    | assumption | refine keeps_ok ?_ | refine keeps_fail ?_ | refine keeps_long ?_ | exact keeps_bad | exact keeps_err | split
    | refine keeps_mk ?_ rfl rfl | trivial

theorem cmdZoneGetCounters_keeps : cmdZoneGetCounters.Keeps := by
  intro s₀ s ifc p hk
  unfold cmdZoneGetCounters
  dsimp only
  repeat' with_reducible first
    | assumption | apply State.modZone_keeps | refine keeps_ok ?_ | refine keeps_fail ?_ | refine keeps_long ?_ | exact keeps_bad | exact keeps_err
    | split | refine keeps_mk ?_ rfl rfl | trivial

theorem cmdConstRead_keeps : cmdConstRead.Keeps := by
  intro s₀ s ifc p hk
  unfold cmdConstRead
  dsimp only
  repeat' with_reducible first
    | assumption | apply replyRead_keeps | refine keeps_ok ?_ | refine keeps_fail ?_ | refine keeps_long ?_ | exact keeps_bad | exact keeps_err
    | split | refine keeps_mk ?_ rfl rfl | trivial

theorem cmdAlignGetStatus_keeps : cmdAlignGetStatus.Keeps := by
  intro s₀ s ifc p hk
  unfold cmdAlignGetStatus
  dsimp only
  repeat' with_reducible first
    | assumption | refine keeps_foldl (fun _ _ _ => ?_) ?_ | refine keeps_ok ?_ | refine keeps_fail ?_ | refine keeps_long ?_ | exact keeps_bad
    | exact keeps_err | split | refine keeps_mk ?_ rfl rfl | trivial

end Sys2Proof.Machine
end

