-- ==== Sys2Proof/Laws/KeepsStream.lean ====
section
/-! SUPPORT. `f_keeps` for streams, reception, the front end and the energy unit. -/

namespace Sys2Proof.Machine

/-! ### Stream.lean -/

theorem mirrorCtx_keeps {s₀ : State} (i : Nat) (s : State) (hk : Keeps s₀ s) :
    Keeps s₀ (mirrorCtx i s) := by
  unfold mirrorCtx
  (try dsimp only)
  repeat' with_reducible first | assumption | apply mirrorItem_keeps | split | refine keeps_mk ?_ rfl rfl | trivial

theorem sourceSegment_keeps {s₀ : State} (what : String) (c : Ctx) (flags : Byte) (data : List Byte) (s : State) (hk : Keeps s₀ s) :
    Keeps s₀ (sourceSegment what c flags data s) := by
  unfold sourceSegment
  (try dsimp only)
  repeat' with_reducible first | assumption | apply State.draw_keeps | apply superSegment_keeps | split | refine keeps_mk ?_ rfl rfl | trivial

theorem sendCommand_keeps {s₀ : State} (i : Nat) (cmd : Nat) (s : State) (hk : Keeps s₀ s) :
    Keeps s₀ (sendCommand i cmd s) := by
  unfold sendCommand
  (try dsimp only)
  repeat' with_reducible first
    | assumption | apply sourceSegment_keeps | apply State.draw_keeps | apply superDatagram_keeps | split | refine keeps_mk ?_ rfl rfl | trivial

theorem requestCfg_keeps {s₀ : State} (i : Nat) (s : State) (hk : Keeps s₀ s) :
    Keeps s₀ (requestCfg i s) := by
  unfold requestCfg
  (try dsimp only)
  repeat' with_reducible first | assumption | apply sendCommand_keeps | apply State.modCtx_keeps | split | refine keeps_mk ?_ rfl rfl | trivial

theorem cfgRepeat_keeps {s₀ : State} (i : Nat) (s : State) (hk : Keeps s₀ s) :
    Keeps s₀ (cfgRepeat i s) := by
  unfold cfgRepeat
  (try dsimp only)
  repeat' with_reducible first | assumption | apply requestCfg_keeps | split | refine keeps_mk ?_ rfl rfl | trivial

theorem offerConfig_keeps {s₀ : State} (i : Nat) (f : List Byte) (s : State) (hk : Keeps s₀ s) :
    Keeps s₀ (offerConfig i f s) := by
  unfold offerConfig
  (try dsimp only)
  repeat' with_reducible first
    | assumption | apply State.setCtx_keeps | apply sendCommand_keeps | apply refreshSessions_keeps | apply mirrorCtx_keeps | split
    | refine keeps_mk ?_ rfl rfl | trivial

theorem checkDone_keeps {s₀ : State} (i : Nat) (s : State) (hk : Keeps s₀ s) :
    Keeps s₀ (checkDone i s) := by
  unfold checkDone
  (try dsimp only)
  repeat' with_reducible first | assumption | apply offerConfig_keeps | split | refine keeps_mk ?_ rfl rfl | trivial

theorem pushBind_keeps {s₀ : State} (lane : Nat) (d : StreamDgram) (s : State) (hk : Keeps s₀ s) :
    Keeps s₀ (pushBind lane d s) := by
  unfold pushBind
  (try dsimp only)
  repeat' with_reducible first | assumption | split | refine keeps_mk ?_ rfl rfl | trivial

theorem toRing_keeps {s₀ : State} (f : RingFrame) (s : State) (hk : Keeps s₀ s) :
    Keeps s₀ (toRing f s) := by
  unfold toRing
  (try dsimp only)
  repeat' with_reducible first | assumption | apply classDrop_keeps | split | refine keeps_mk ?_ rfl rfl | trivial

theorem dgramToRing_keeps {s₀ : State} (cls : Nat) (d : StreamDgram) (s : State) (hk : Keeps s₀ s) :
    Keeps s₀ (dgramToRing cls d s) := by
  unfold dgramToRing
  (try dsimp only)
  repeat' with_reducible first
    | assumption | refine keeps_foldl (fun _ _ _ => ?_) ?_ | apply toRing_keeps | split | refine keeps_mk ?_ rfl rfl | trivial

theorem unknownKey_keeps {s₀ : State} (d : StreamDgram) (s : State) (hk : Keeps s₀ s) :
    Keeps s₀ (unknownKey d s) := by
  unfold unknownKey
  (try dsimp only)
  repeat' with_reducible first | assumption | apply dgramToRing_keeps | split | refine keeps_mk ?_ rfl rfl | trivial

theorem countStream_keeps {s₀ : State} (lane : Nat) (s : State) (hk : Keeps s₀ s) :
    Keeps s₀ (countStream lane s) := by
  unfold countStream
  (try dsimp only)
  repeat' with_reducible first | assumption | split | refine keeps_mk ?_ rfl rfl | trivial

theorem parseFrame_keeps {s₀ : State} (lane : Nat) (d : StreamDgram) (s : State) (hk : Keeps s₀ s) :
    Keeps s₀ (parseFrame lane d s) := by
  unfold parseFrame
  (try dsimp only)
  repeat' with_reducible first
    | assumption | apply pushBind_keeps | apply unknownKey_keeps | apply countStream_keeps | apply dgramToRing_keeps | split
    | refine keeps_mk ?_ rfl rfl | trivial

theorem parserInput_keeps {s₀ : State} (lane : Nat) (s : State) (hk : Keeps s₀ s) :
    Keeps s₀ (parserInput lane s) := by
  unfold parserInput
  (try dsimp only)
  repeat' with_reducible first | assumption | apply parseFrame_keeps | split | refine keeps_mk ?_ rfl rfl | trivial

theorem pushInsert_keeps {s₀ : State} (due : Ps) (f : FrameRecord) (s : State) (hk : Keeps s₀ s) :
    Keeps s₀ (pushInsert due f s) := by
  unfold pushInsert
  (try dsimp only)
  repeat' with_reducible first | assumption | split | refine keeps_mk ?_ rfl rfl | trivial

theorem forwardRecord_keeps {s₀ : State} (due : Ps) (c : Ctx) (f : FrameRecord) (s : State) (hk : Keeps s₀ s) :
    Keeps s₀ (forwardRecord due c f s) := by
  unfold forwardRecord
  (try dsimp only)
  repeat' with_reducible first | assumption | apply pushInsert_keeps | apply State.at_keeps | split | refine keeps_mk ?_ rfl rfl | trivial

theorem sendRecord_keeps {s₀ : State} (home : Nat) (zone : Nat) (f : FrameRecord) (s : State) (hk : Keeps s₀ s) :
    Keeps s₀ (sendRecord home zone f s) := by
  unfold sendRecord
  (try dsimp only)
  repeat' with_reducible first | assumption | apply sendA_keeps | apply State.setLink_keeps | split | refine keeps_mk ?_ rfl rfl | trivial

theorem statRequest_keeps {s₀ : State} (i : Nat) (d : StreamDgram) (s : State) (hk : Keeps s₀ s) :
    Keeps s₀ (statRequest i d s) := by
  unfold statRequest
  (try dsimp only)
  repeat' with_reducible first | assumption | apply requestCfg_keeps | apply State.modCtx_keeps | split | refine keeps_mk ?_ rfl rfl | trivial

theorem ctxUpdate_keeps {s₀ : State} (i : Nat) (gen : Nat) (u : CtxUpdate) (s : State) (hk : Keeps s₀ s) :
    Keeps s₀ (ctxUpdate i gen u s) := by
  unfold ctxUpdate
  (try dsimp only)
  repeat' with_reducible first | assumption | apply State.setCtx_keeps | apply mirrorCtx_keeps | split | refine keeps_mk ?_ rfl rfl | trivial

theorem noteBound_keeps {s₀ : State} (i : Nat) (due : Ps) (u : CtxUpdate) (s : State) (hk : Keeps s₀ s) :
    Keeps s₀ (noteBound i due u s) := by
  unfold noteBound
  (try dsimp only)
  repeat' with_reducible first | assumption | apply State.at_keeps | split | refine keeps_mk ?_ rfl rfl | trivial

theorem bindFrame_keeps {s₀ : State} (i : Nat) (due : Ps) (d : StreamDgram) (s : State) (hk : Keeps s₀ s) :
    Keeps s₀ (bindFrame i due d s) := by
  unfold bindFrame
  (try dsimp only)
  repeat' with_reducible first
    | assumption | apply noteBound_keeps | apply statRequest_keeps | apply forwardRecord_keeps | split | refine keeps_mk ?_ rfl rfl | trivial

theorem streamFrameBind_keeps {s₀ : State} (lane : Nat) (s : State) (hk : Keeps s₀ s) :
    Keeps s₀ (streamFrameBind lane s) := by
  unfold streamFrameBind
  (try dsimp only)
  repeat' with_reducible first
    | assumption | apply bindFrame_keeps | apply countStream_keeps | apply unknownKey_keeps | split | refine keeps_mk ?_ rfl rfl | trivial

theorem goSilent_keeps {s₀ : State} (i : Nat) (s : State) (hk : Keeps s₀ s) :
    Keeps s₀ (goSilent i s) := by
  unfold goSilent
  (try dsimp only)
  repeat' with_reducible first | assumption | apply mirrorCtx_keeps | apply State.setCtx_keeps | split | refine keeps_mk ?_ rfl rfl | trivial

theorem quarantineEnd_keeps {s₀ : State} (i : Nat) (s : State) (hk : Keeps s₀ s) :
    Keeps s₀ (quarantineEnd i s) := by
  unfold quarantineEnd
  (try dsimp only)
  repeat' with_reducible first | assumption | apply mirrorCtx_keeps | apply State.setCtx_keeps | split | refine keeps_mk ?_ rfl rfl | trivial

theorem sendGen_keeps {s₀ : State} (i : Nat) (home : Nat) (gen : BitVec 4) (s : State) (hk : Keeps s₀ s) :
    Keeps s₀ (sendGen i home gen s) := by
  unfold sendGen
  (try dsimp only)
  repeat' with_reducible first | assumption | apply sendA_keeps | split | refine keeps_mk ?_ rfl rfl | trivial

theorem tcpReconnect_keeps {s₀ : State} (i : Nat) (connected : Bool) (s : State) (hk : Keeps s₀ s) :
    Keeps s₀ (tcpReconnect i connected s) := by
  unfold tcpReconnect
  (try dsimp only)
  repeat' with_reducible first | assumption | apply sourceSegment_keeps | apply State.setCtx_keeps | split | refine keeps_mk ?_ rfl rfl | trivial

theorem streamSegment_keeps {s₀ : State} (i : Nat) (g : TcpSegment) (s : State) (hk : Keeps s₀ s) :
    Keeps s₀ (streamSegment i g s) := by
  unfold streamSegment
  (try dsimp only)
  repeat' with_reducible first | assumption | apply State.setCtx_keeps | split | refine keeps_mk ?_ rfl rfl | trivial

theorem tcpDeliver_keeps {s₀ : State} (i : Nat) (s : State) (hk : Keeps s₀ s) :
    Keeps s₀ (tcpDeliver i s) := by
  unfold tcpDeliver
  (try dsimp only)
  repeat' with_reducible first | assumption | apply State.setCtx_keeps | split | refine keeps_mk ?_ rfl rfl | trivial

theorem tcpTimeout_keeps {s₀ : State} (i : Nat) (s : State) (hk : Keeps s₀ s) :
    Keeps s₀ (tcpTimeout i s) := by
  unfold tcpTimeout
  (try dsimp only)
  repeat' with_reducible first | assumption | apply State.setCtx_keeps | split | refine keeps_mk ?_ rfl rfl | trivial

/-! ### Receive.lean -/

theorem udpStream_keeps {s₀ : State} (port : Nat) (v6 : Bool) (src : Nat) (dst : Nat) (u : List Byte) (arrival : Stamp) (macsec : Bool) (frames : List (Ps × List Byte)) (due : Ps) (s : State) (hk : Keeps s₀ s) :
    Keeps s₀ (udpStream port v6 src dst u arrival macsec frames due s) := by
  unfold udpStream
  (try dsimp only)
  repeat' with_reducible first | assumption | split | refine keeps_mk ?_ rfl rfl | trivial

theorem passFragments_keeps {s₀ : State} (r : Reassembly) (s : State) (hk : Keeps s₀ s) :
    Keeps s₀ (passFragments r s) := by
  unfold passFragments
  (try dsimp only)
  repeat' with_reducible first
    | assumption | refine keeps_foldl (fun _ _ _ => ?_) ?_ | apply toRing_keeps | split | refine keeps_mk ?_ rfl rfl | trivial

theorem fragmentIn_keeps {s₀ : State} (port : Nat) (i : IpPkt) (f : RingFrame) (s : State) (hk : Keeps s₀ s) :
    Keeps s₀ (fragmentIn port i f s) := by
  unfold fragmentIn
  (try dsimp only)
  repeat' with_reducible first
    | assumption | apply toRing_keeps | apply passFragments_keeps | apply udpStream_keeps | split | refine keeps_mk ?_ rfl rfl | trivial

theorem fragmentTimeout_keeps {s₀ : State} (s : State) (hk : Keeps s₀ s) :
    Keeps s₀ (fragmentTimeout s) := by
  unfold fragmentTimeout
  (try dsimp only)
  repeat' with_reducible first | assumption | split | refine keeps_mk ?_ rfl rfl | trivial

theorem toSupervisor_keeps {s₀ : State} (port : Nat) (queue : Bool) (octets : List Byte) (s : State) (hk : Keeps s₀ s) :
    Keeps s₀ (toSupervisor port queue octets s) := by
  unfold toSupervisor
  (try dsimp only)
  repeat' with_reducible first | assumption | split | refine keeps_mk ?_ rfl rfl | trivial

theorem classifyWan_keeps {s₀ : State} (port : Nat) (f : LineFrame) (arrival : Stamp) (s : State) (hk : Keeps s₀ s) :
    Keeps s₀ (classifyWan port f arrival s) := by
  unfold classifyWan
  (try dsimp only)
  repeat' with_reducible first
    | assumption | apply toSupervisor_keeps | apply fragmentIn_keeps | apply udpStream_keeps | apply toRing_keeps | split | refine keeps_mk ?_ rfl rfl
    | trivial

theorem cutFrame_keeps {s₀ : State} (cls : Nat) (port : Nat) (f : LineFrame) (arrival : Stamp) (s : State) (hk : Keeps s₀ s) :
    Keeps s₀ (cutFrame cls port f arrival s) := by
  unfold cutFrame
  (try dsimp only)
  repeat' with_reducible first | assumption | apply toRing_keeps | split | refine keeps_mk ?_ rfl rfl | trivial

theorem wanFrame_keeps {s₀ : State} (port : Nat) (f : LineFrame) (arrival : Stamp) (s : State) (hk : Keeps s₀ s) :
    Keeps s₀ (wanFrame port f arrival s) := by
  unfold wanFrame
  (try dsimp only)
  repeat' with_reducible first | assumption | apply classifyWan_keeps | apply cutFrame_keeps | split | refine keeps_mk ?_ rfl rfl | trivial

theorem wanFrameRx_keeps {s₀ : State} (port : Nat) (f : LineFrame) (s : State) (hk : Keeps s₀ s) :
    Keeps s₀ (wanFrameRx port f s) := by
  unfold wanFrameRx
  (try dsimp only)
  repeat' with_reducible first | assumption | apply wanFrame_keeps | apply State.emit_keeps | split | refine keeps_mk ?_ rfl rfl | trivial

theorem classifyMgmt_keeps {s₀ : State} (f : LineFrame) (arrival : Stamp) (s : State) (hk : Keeps s₀ s) :
    Keeps s₀ (classifyMgmt f arrival s) := by
  unfold classifyMgmt
  (try dsimp only)
  repeat' with_reducible first | assumption | apply toSupervisor_keeps | apply toRing_keeps | split | refine keeps_mk ?_ rfl rfl | trivial

theorem mgmtFrameRx_keeps {s₀ : State} (f : LineFrame) (s : State) (hk : Keeps s₀ s) :
    Keeps s₀ (mgmtFrameRx f s) := by
  unfold mgmtFrameRx
  (try dsimp only)
  repeat' with_reducible first | assumption | apply cutFrame_keeps | apply classifyMgmt_keeps | split | refine keeps_mk ?_ rfl rfl | trivial

theorem groupReport_keeps {s₀ : State} (port : Nat) (v6 : Bool) (s : State) (hk : Keeps s₀ s) :
    Keeps s₀ (groupReport port v6 s) := by
  unfold groupReport
  (try dsimp only)
  repeat' with_reducible first | assumption | apply superDatagram_keeps | split | refine keeps_mk ?_ rfl rfl | trivial

theorem answerIp_keeps {s₀ : State} (port : Nat) (f : List Byte) (i : IpPkt) (s : State) (hk : Keeps s₀ s) :
    Keeps s₀ (answerIp port f i s) := by
  unfold answerIp
  (try dsimp only)
  repeat' with_reducible first | assumption | apply superDatagram_keeps | apply groupReport_keeps | split | refine keeps_mk ?_ rfl rfl | trivial

theorem supervisorFrame_keeps {s₀ : State} (s : State) (hk : Keeps s₀ s) :
    Keeps s₀ (supervisorFrame s) := by
  unfold supervisorFrame
  (try dsimp only)
  repeat' with_reducible first
    | assumption | apply toSupervisor_keeps | apply superFrames_keeps | apply answerIp_keeps | split | refine keeps_mk ?_ rfl rfl | trivial

theorem State.setRxRing_keeps {s₀ : State} (s : State) (r : Nat) (x : RxRing) (hk : Keeps s₀ s) :
    Keeps s₀ (State.setRxRing s r x) := by
  unfold State.setRxRing
  (try dsimp only)
  repeat' with_reducible first | assumption | split | refine keeps_mk ?_ rfl rfl | trivial

theorem ringStep_keeps {s₀ : State} (r : Nat) (desc : List Byte) (s : State) (hk : Keeps s₀ s) :
    Keeps s₀ (ringStep r desc s) := by
  unfold ringStep
  (try dsimp only)
  repeat' with_reducible first
    | assumption | refine keeps_foldl (fun _ _ _ => ?_) ?_ | apply State.emit_keeps | apply State.setRxRing_keeps | apply State.emits_keeps
    | apply raiseCause_keeps | apply State.hostPut_keeps | split | refine keeps_mk ?_ rfl rfl | trivial

/-! ### IngressCmd.lean -/

theorem streamAdd_keeps {s₀ : State} (p : List Byte) (s : State) (hk : Keeps s₀ s) :
    CmdOut.Keeps s₀ (streamAdd p s) := by
  unfold streamAdd
  (try dsimp only)
  repeat' with_reducible first
    | assumption | exact keeps_bad | exact keeps_err | apply writeWords_keeps | apply State.setCtx_keeps | apply mirrorCtx_keeps
    | apply requestCfg_keeps | refine keeps_ok ?_ | refine keeps_fail ?_ | refine keeps_long ?_ | split | refine keeps_mk ?_ rfl rfl | trivial

theorem voidChecks_keeps {s₀ : State} (i : Nat) (s : State) (hk : Keeps s₀ s) :
    Keeps s₀ (voidChecks i s) := by
  unfold voidChecks
  (try dsimp only)
  repeat' with_reducible first | assumption | split | refine keeps_mk ?_ rfl rfl | trivial

theorem leaveZones_keeps {s₀ : State} (i : Nat) (s : State) (hk : Keeps s₀ s) :
    Keeps s₀ (leaveZones i s) := by
  unfold leaveZones
  (try dsimp only)
  repeat' with_reducible first
    | assumption | refine keeps_foldl (fun _ _ _ => ?_) ?_ | apply removeMember_keeps | split | refine keeps_mk ?_ rfl rfl | trivial

theorem streamRemove_keeps {s₀ : State} (i : Nat) (s : State) (hk : Keeps s₀ s) :
    Keeps s₀ (streamRemove i s) := by
  unfold streamRemove
  (try dsimp only)
  repeat' with_reducible first
    | assumption | apply leaveZones_keeps | apply voidChecks_keeps | apply sendGen_keeps | apply writeWords_keeps | apply State.setCtx_keeps
    | apply dropSettings_keeps | apply mirrorCtx_keeps | apply refreshSessions_keeps | split | refine keeps_mk ?_ rfl rfl | trivial

theorem streamRebind_keeps {s₀ : State} (at_ : Stamp) (i : Nat) (k : StreamKey) (s : State) (hk : Keeps s₀ s) :
    Keeps s₀ (streamRebind at_ i k s) := by
  unfold streamRebind
  (try dsimp only)
  repeat' with_reducible first
    | assumption | apply voidChecks_keeps | apply State.setCtx_keeps | apply writeWords_keeps | apply sendGen_keeps | apply dropSettings_keeps
    | apply mirrorCtx_keeps | apply requestCfg_keeps | apply refreshSessions_keeps | split | refine keeps_mk ?_ rfl rfl | trivial

theorem streamRebindOut_keeps {s₀ : State} (at_ : Stamp) (p : List Byte) (s : State) (hk : Keeps s₀ s) :
    CmdOut.Keeps s₀ (streamRebindOut at_ p s) := by
  unfold streamRebindOut
  (try dsimp only)
  repeat' with_reducible first
    | assumption | exact keeps_bad | exact keeps_err | apply streamRebind_keeps | refine keeps_ok ?_ | refine keeps_fail ?_ | refine keeps_long ?_
    | split | refine keeps_mk ?_ rfl rfl | trivial

theorem cmdStreamLoadConfig_keeps : cmdStreamLoadConfig.Keeps := by
  intro s₀ s ifc p hk
  unfold cmdStreamLoadConfig
  dsimp only
  repeat' with_reducible first
    | assumption | apply offerConfig_keeps | refine keeps_ok ?_ | refine keeps_fail ?_ | refine keeps_long ?_ | exact keeps_bad | exact keeps_err
    | split | refine keeps_mk ?_ rfl rfl | trivial

theorem cmdStreamGet_keeps : cmdStreamGet.Keeps := by
  intro s₀ s ifc p hk
  unfold cmdStreamGet
  dsimp only
  repeat' with_reducible first
    | assumption | apply replyRead_keeps | refine keeps_ok ?_ | refine keeps_fail ?_ | refine keeps_long ?_ | exact keeps_bad | exact keeps_err
    | split | refine keeps_mk ?_ rfl rfl | trivial

theorem cmdStreamGetCounters_keeps : cmdStreamGetCounters.Keeps := by
  intro s₀ s ifc p hk
  unfold cmdStreamGetCounters
  dsimp only
  generalize (cntBytes _ : List Byte) = data
  have h := replyRead_keeps 0 (contextWords (fld p 0 2) 0) data s hk
  split
  · rename_i e
    refine keeps_ok ?_
    rw [e] at h
    have k : Keeps s₀ _ := h
    split
    · exact State.modCtx_keeps _ _ _ k
    · exact k
  · exact h

theorem cmdStreamSendCommand_keeps : cmdStreamSendCommand.Keeps := by
  intro s₀ s ifc p hk
  unfold cmdStreamSendCommand
  dsimp only
  repeat' with_reducible first
    | assumption | apply sendCommand_keeps | refine keeps_ok ?_ | refine keeps_fail ?_ | refine keeps_long ?_ | exact keeps_bad | exact keeps_err
    | split | refine keeps_mk ?_ rfl rfl | trivial

theorem cmdIngressSetPort_keeps : cmdIngressSetPort.Keeps := by
  intro s₀ s ifc p hk
  unfold cmdIngressSetPort
  dsimp only
  repeat' with_reducible first
    | assumption | refine keeps_ok ?_ | refine keeps_fail ?_ | refine keeps_long ?_ | exact keeps_bad | exact keeps_err | split
    | refine keeps_mk ?_ rfl rfl | trivial

theorem setRing_keeps {s₀ : State} (p : List Byte) (s : State) (r : Nat) (hk : Keeps s₀ s) :
    Keeps s₀ (setRing p s r) := by
  unfold setRing
  (try dsimp only)
  repeat' with_reducible first
    | assumption | apply State.setRxRing_keeps | apply State.emits_keeps | apply ringOff_keeps | apply raiseCause_keeps | split
    | refine keeps_mk ?_ rfl rfl | trivial

theorem cmdIngressSetRings_keeps : cmdIngressSetRings.Keeps := by
  intro s₀ s ifc p hk
  unfold cmdIngressSetRings
  dsimp only
  repeat' with_reducible first
    | assumption | refine keeps_foldl (fun _ _ _ => ?_) ?_ | apply setRing_keeps | refine keeps_ok ?_ | refine keeps_fail ?_ | refine keeps_long ?_
    | exact keeps_bad | exact keeps_err | split | refine keeps_mk ?_ rfl rfl | trivial

theorem cmdIngressGetCounters_keeps : cmdIngressGetCounters.Keeps := by
  intro s₀ s ifc p hk
  unfold cmdIngressGetCounters
  dsimp only
  repeat' with_reducible first
    | assumption | refine keeps_ok ?_ | refine keeps_fail ?_ | refine keeps_long ?_ | exact keeps_bad | exact keeps_err | split
    | refine keeps_mk ?_ rfl rfl | trivial

theorem cmdIngressSetStreamPorts_keeps : cmdIngressSetStreamPorts.Keeps := by
  intro s₀ s ifc p hk
  unfold cmdIngressSetStreamPorts
  dsimp only
  repeat' with_reducible first
    | assumption | refine keeps_ok ?_ | refine keeps_fail ?_ | refine keeps_long ?_ | exact keeps_bad | exact keeps_err | split
    | refine keeps_mk ?_ rfl rfl | trivial

theorem cmdIngressJoinGroup_keeps : cmdIngressJoinGroup.Keeps := by
  intro s₀ s ifc p hk
  unfold cmdIngressJoinGroup
  dsimp only
  repeat' with_reducible first
    | assumption | apply groupReport_keeps | apply dropSettings_keeps | refine keeps_ok ?_ | refine keeps_fail ?_ | refine keeps_long ?_
    | exact keeps_bad | exact keeps_err | split | refine keeps_mk ?_ rfl rfl | trivial

/-! ### Front.lean -/

theorem State.setInput_keeps {s₀ : State} (s : State) (i : Nat) (x : InputSt) (hk : Keeps s₀ s) :
    Keeps s₀ (State.setInput s i x) := by
  unfold State.setInput
  (try dsimp only)
  repeat' with_reducible first | assumption | split | refine keeps_mk ?_ rfl rfl | trivial

theorem State.setChan_keeps {s₀ : State} (s : State) (c : Nat) (x : ChanSt) (hk : Keeps s₀ s) :
    Keeps s₀ (State.setChan s c x) := by
  unfold State.setChan
  (try dsimp only)
  repeat' with_reducible first | assumption | split | refine keeps_mk ?_ rfl rfl | trivial

theorem State.setRange_keeps {s₀ : State} (s : State) (c : Nat) (x : RangeSt) (hk : Keeps s₀ s) :
    Keeps s₀ (State.setRange s c x) := by
  unfold State.setRange
  (try dsimp only)
  repeat' with_reducible first | assumption | split | refine keeps_mk ?_ rfl rfl | trivial

theorem restartChan_keeps {s₀ : State} (i : Nat) (s : State) (hk : Keeps s₀ s) :
    Keeps s₀ (restartChan i s) := by
  unfold restartChan
  (try dsimp only)
  repeat' with_reducible first | assumption | apply State.setChan_keeps | apply State.setRange_keeps | split | refine keeps_mk ?_ rfl rfl | trivial

theorem chainRestart_keeps {s₀ : State} (s : State) (hk : Keeps s₀ s) :
    Keeps s₀ (chainRestart s) := by
  unfold chainRestart
  (try dsimp only)
  repeat' with_reducible first
    | assumption | refine keeps_foldl (fun _ _ _ => ?_) ?_ | apply restartChan_keeps | apply State.setInput_keeps | split | refine keeps_mk ?_ rfl rfl
    | trivial

theorem chainValid_keeps {s₀ : State} (i : Nat) (s : State) (hk : Keeps s₀ s) :
    Keeps s₀ (chainValid i s) := by
  unfold chainValid
  (try dsimp only)
  repeat' with_reducible first | assumption | apply State.setInput_keeps | apply State.setChan_keeps | split | refine keeps_mk ?_ rfl rfl | trivial

theorem startChains_keeps {s₀ : State} (p : Nat → Bool) (s : State) (hk : Keeps s₀ s) :
    Keeps s₀ (startChains p s) := by
  unfold startChains
  (try dsimp only)
  repeat' with_reducible first
    | assumption | refine keeps_foldl (fun _ _ _ => ?_) ?_ | apply State.setInput_keeps | split | refine keeps_mk ?_ rfl rfl | trivial

theorem stopChains_keeps {s₀ : State} (p : Nat → Bool) (s : State) (hk : Keeps s₀ s) :
    Keeps s₀ (stopChains p s) := by
  unfold stopChains
  (try dsimp only)
  repeat' with_reducible first
    | assumption | refine keeps_foldl (fun _ _ _ => ?_) ?_ | apply State.setInput_keeps | split | refine keeps_mk ?_ rfl rfl | trivial

theorem frontStart_keeps {s₀ : State} (s : State) (hk : Keeps s₀ s) :
    Keeps s₀ (frontStart s) := by
  unfold frontStart
  (try dsimp only)
  repeat' with_reducible first | assumption | apply startChains_keeps | split | refine keeps_mk ?_ rfl rfl | trivial

theorem frontReserve_keeps {s₀ : State} (s : State) (hk : Keeps s₀ s) :
    Keeps s₀ (frontReserve s) := by
  unfold frontReserve
  (try dsimp only)
  repeat' with_reducible first | assumption | apply startChains_keeps | apply stopChains_keeps | split | refine keeps_mk ?_ rfl rfl | trivial

theorem frontStop_keeps {s₀ : State} (s : State) (hk : Keeps s₀ s) :
    Keeps s₀ (frontStop s) := by
  unfold frontStop
  (try dsimp only)
  repeat' with_reducible first | assumption | apply stopChains_keeps | split | refine keeps_mk ?_ rfl rfl | trivial

theorem modulatorLoss_keeps {s₀ : State} (i : Nat) (s : State) (hk : Keeps s₀ s) :
    Keeps s₀ (modulatorLoss i s) := by
  unfold modulatorLoss
  (try dsimp only)
  repeat' with_reducible first | assumption | apply State.setInput_keeps | split | refine keeps_mk ?_ rfl rfl | trivial

theorem modulatorResuming_keeps {s₀ : State} (i : Nat) (s : State) (hk : Keeps s₀ s) :
    Keeps s₀ (modulatorResuming i s) := by
  unfold modulatorResuming
  (try dsimp only)
  repeat' with_reducible first | assumption | apply State.setInput_keeps | split | refine keeps_mk ?_ rfl rfl | trivial

theorem resumeWindow_keeps {s₀ : State} (i : Nat) (changed : Bool) (s : State) (hk : Keeps s₀ s) :
    Keeps s₀ (resumeWindow i changed s) := by
  unfold resumeWindow
  (try dsimp only)
  repeat' with_reducible first | assumption | apply State.setInput_keeps | split | refine keeps_mk ?_ rfl rfl | trivial

theorem stepInput_keeps {s₀ : State} (i : Nat) (bits : List Bool) (s : State) (hk : Keeps s₀ s) :
    Keeps s₀ (stepInput i bits s) := by
  unfold stepInput
  (try dsimp only)
  repeat' with_reducible first | assumption | apply chainValid_keeps | apply State.setInput_keeps | split | refine keeps_mk ?_ rfl rfl | trivial

theorem chanSample_keeps {s₀ : State} (s : State) (c : Nat) (gain : F32) (v : F32) (valid : Bool) (t : Stamp) (hk : Keeps s₀ s) :
    Keeps s₀ (chanSample s c gain v valid t) := by
  unfold chanSample
  (try dsimp only)
  repeat' with_reducible first | assumption | apply State.setChan_keeps | split | refine keeps_mk ?_ rfl rfl | trivial

theorem outputSample_keeps {s₀ : State} (c : Nat) (bitsHi : List Bool) (bitsLo : List Bool) (s : State) (hk : Keeps s₀ s) :
    Keeps s₀ (outputSample c bitsHi bitsLo s) := by
  unfold outputSample
  (try dsimp only)
  repeat' with_reducible first
    | assumption | apply stepInput_keeps | apply chanSample_keeps | apply State.setRange_keeps | split | refine keeps_mk ?_ rfl rfl | trivial

theorem zcLoss_keeps {s₀ : State} (c : Nat) (s : State) (hk : Keeps s₀ s) :
    Keeps s₀ (zcLoss c s) := by
  unfold zcLoss
  (try dsimp only)
  repeat' with_reducible first | assumption | apply State.setChan_keeps | split | refine keeps_mk ?_ rfl rfl | trivial

theorem localPhasorRecord_keeps {s₀ : State} (n : Nat) (s : State) (hk : Keeps s₀ s) :
    Keeps s₀ (localPhasorRecord n s) := by
  unfold localPhasorRecord
  (try dsimp only)
  repeat' with_reducible first | assumption | apply pushInsert_keeps | split | refine keeps_mk ?_ rfl rfl | trivial

/-! ### Energy.lean -/

theorem State.setLine_keeps {s₀ : State} (s : State) (n : Nat) (x : LineSt) (hk : Keeps s₀ s) :
    Keeps s₀ (State.setLine s n x) := by
  unfold State.setLine
  (try dsimp only)
  repeat' with_reducible first | assumption | split | refine keeps_mk ?_ rfl rfl | trivial

theorem enterEvent_keeps {s₀ : State} (e : EnergyEvt) (s : State) (hk : Keeps s₀ s) :
    Keeps s₀ (enterEvent e s) := by
  unfold enterEvent
  (try dsimp only)
  repeat' with_reducible first | assumption | split | refine keeps_mk ?_ rfl rfl | trivial

theorem enterEvents_keeps {s₀ : State} (es : List EnergyEvt) (s : State) (hk : Keeps s₀ s) :
    Keeps s₀ (enterEvents es s) := by
  unfold enterEvents
  (try dsimp only)
  repeat' with_reducible first
    | assumption | refine keeps_foldl (fun _ _ _ => ?_) ?_ | apply enterEvent_keeps | split | refine keeps_mk ?_ rfl rfl | trivial

theorem corruptAccum_keeps {s₀ : State} (line : Nat) (set : Nat) (acc : Nat) (s : State) (hk : Keeps s₀ s) :
    Keeps s₀ (corruptAccum line set acc s) := by
  unfold corruptAccum
  (try dsimp only)
  repeat' with_reducible first | assumption | apply State.setLine_keeps | apply enterEvent_keeps | split | refine keeps_mk ?_ rfl rfl | trivial

theorem lineAccumulate_keeps {s₀ : State} (n : Nat) (s : State) (hk : Keeps s₀ s) :
    Keeps s₀ (lineAccumulate n s).2 := by
  unfold lineAccumulate
  (try dsimp only)
  repeat' with_reducible first | assumption | apply State.setLine_keeps | split | refine keeps_mk ?_ rfl rfl | trivial

theorem State.setDelta_keeps {s₀ : State} (s : State) (n : Nat) (d : Vector EnergySet 4) (m : Nat) (u : Nat) (hk : Keeps s₀ s) :
    Keeps s₀ (State.setDelta s n d m u) := by
  unfold State.setDelta
  (try dsimp only)
  repeat' with_reducible first | assumption | split | refine keeps_mk ?_ rfl rfl | trivial

theorem lineFollow_keeps {s₀ : State} (n : Nat) (s : State) (hk : Keeps s₀ s) :
    Keeps s₀ (lineFollow n s) := by
  unfold lineFollow
  (try dsimp only)
  repeat' with_reducible first | assumption | apply State.setLine_keeps | apply State.setDelta_keeps | split | refine keeps_mk ?_ rfl rfl | trivial

theorem lineReserve_keeps {s₀ : State} (n : Nat) (s : State) (hk : Keeps s₀ s) :
    Keeps s₀ (lineReserve n s) := by
  unfold lineReserve
  (try dsimp only)
  repeat' with_reducible first | assumption | apply State.setLine_keeps | split | refine keeps_mk ?_ rfl rfl | trivial

theorem addGap_keeps {s₀ : State} (t : Stamp) (s : State) (hk : Keeps s₀ s) :
    Keeps s₀ (addGap t s) := by
  unfold addGap
  (try dsimp only)
  repeat' with_reducible first | assumption | apply State.setLine_keeps | split | refine keeps_mk ?_ rfl rfl | trivial

theorem snapshotAt_keeps {s₀ : State} (t : Stamp) (s : State) (hk : Keeps s₀ s) :
    Keeps s₀ (snapshotAt t s) := by
  unfold snapshotAt
  (try dsimp only)
  repeat' with_reducible first | assumption | split | refine keeps_mk ?_ rfl rfl | trivial

theorem feedLines_keeps {s₀ : State} (reserve : Bool) (s : State) (hk : Keeps s₀ s) :
    Keeps s₀ (feedLines reserve s) := by
  unfold feedLines
  (try dsimp only)
  repeat' with_reducible first | assumption | split | refine keeps_mk ?_ rfl rfl | trivial

theorem tapSample_keeps {s₀ : State} (s : State) (hk : Keeps s₀ s) :
    Keeps s₀ (tapSample s) := by
  unfold tapSample
  (try dsimp only)
  repeat' with_reducible first
    | assumption | apply feedLines_keeps | apply addGap_keeps | apply snapshotAt_keeps | apply lineAccumulate_keeps | apply enterEvents_keeps
    | apply lineFollow_keeps | apply lineReserve_keeps | split | refine keeps_mk ?_ rfl rfl | trivial

theorem flowQualified_keeps {s₀ : State} (n : Nat) (k : Nat) (s : State) (hk : Keeps s₀ s) :
    Keeps s₀ (flowQualified n k s) := by
  unfold flowQualified
  (try dsimp only)
  repeat' with_reducible first | assumption | apply State.setLine_keeps | apply enterEvent_keeps | split | refine keeps_mk ?_ rfl rfl | trivial

theorem energyStop_keeps {s₀ : State} (s : State) (hk : Keeps s₀ s) :
    Keeps s₀ (energyStop s) := by
  unfold energyStop
  (try dsimp only)
  repeat' with_reducible first | assumption | split | refine keeps_mk ?_ rfl rfl | trivial

theorem energyReserve_keeps {s₀ : State} (s : State) (hk : Keeps s₀ s) :
    Keeps s₀ (energyReserve s) := by
  unfold energyReserve
  (try dsimp only)
  repeat' with_reducible first | assumption | apply energyStop_keeps | split | refine keeps_mk ?_ rfl rfl | trivial

theorem sendEnergyMirror_keeps {s₀ : State} (s : State) (hk : Keeps s₀ s) :
    Keeps s₀ (sendEnergyMirror s) := by
  unfold sendEnergyMirror
  (try dsimp only)
  repeat' with_reducible first | assumption | apply mirrorItem_keeps | split | refine keeps_mk ?_ rfl rfl | trivial

theorem emptyDelta_keeps {s₀ : State} (s : State) (hk : Keeps s₀ s) :
    Keeps s₀ (emptyDelta s) := by
  unfold emptyDelta
  (try dsimp only)
  repeat' with_reducible first | assumption | split | refine keeps_mk ?_ rfl rfl | trivial

theorem applyMirror_keeps {s₀ : State} (b : List Byte) (s : State) (hk : Keeps s₀ s) :
    Keeps s₀ (applyMirror b s) := by
  unfold applyMirror
  (try dsimp only)
  repeat' with_reducible first | assumption | apply emptyDelta_keeps | split | refine keeps_mk ?_ rfl rfl | trivial

theorem energyFollow_keeps {s₀ : State} (s : State) (hk : Keeps s₀ s) :
    Keeps s₀ (energyFollow s) := by
  unfold energyFollow
  (try dsimp only)
  repeat' with_reducible first | assumption | apply emptyDelta_keeps | split | refine keeps_mk ?_ rfl rfl | trivial

theorem energyAdopt_keeps {s₀ : State} (s : State) (hk : Keeps s₀ s) :
    Keeps s₀ (energyAdopt s) := by
  unfold energyAdopt
  (try dsimp only)
  repeat' with_reducible first | assumption | apply emptyDelta_keeps | split | refine keeps_mk ?_ rfl rfl | trivial

end Sys2Proof.Machine
end

