-- ==== Sys2Proof/Laws/KeepsSystem.lean ====
section
/-! SUPPORT. `f_keeps` for modes, the pair, the grid edges, security, update, integrity and BOOT. -/

namespace Sys2Proof.Machine

/-! ### Mode.lean -/

theorem sendHeartbeat_keeps {s₀ : State} (k : Nat) (yield : Bool) (s : State) (hk : Keeps s₀ s) :
    Keeps s₀ (sendHeartbeat k yield s) := by
  unfold sendHeartbeat
  (try dsimp only)
  repeat' with_reducible first | assumption | apply sendA_keeps | apply State.setLink_keeps | split | refine keeps_mk ?_ rfl rfl | trivial

theorem yieldAll_keeps {s₀ : State} (s : State) (hk : Keeps s₀ s) :
    Keeps s₀ (yieldAll s) := by
  unfold yieldAll
  (try dsimp only)
  repeat' with_reducible first
    | assumption | refine keeps_foldl (fun _ _ _ => ?_) ?_ | apply sendHeartbeat_keeps | split | refine keeps_mk ?_ rfl rfl | trivial

theorem adoptAlarms_keeps {s₀ : State} (s : State) (hk : Keeps s₀ s) :
    Keeps s₀ (adoptAlarms s) := by
  unfold adoptAlarms
  (try dsimp only)
  repeat' with_reducible first | assumption | split | refine keeps_mk ?_ rfl rfl | trivial

theorem repeatEvent_keeps {s₀ : State} (d : AlmDef) (s : State) (hk : Keeps s₀ s) :
    Keeps s₀ (repeatEvent d s).2 := by
  unfold repeatEvent
  (try dsimp only)
  repeat' with_reducible first | assumption | apply State.draw_keeps | split | refine keeps_mk ?_ rfl rfl | trivial

theorem restartRepeats_keeps {s₀ : State} (n : Nat) (s : State) (hk : Keeps s₀ s) :
    Keeps s₀ (restartRepeats n s) := by
  unfold restartRepeats
  (try dsimp only)
  repeat' with_reducible first | assumption | apply repeatEvent_keeps | apply State.setAld_keeps | split | refine keeps_mk ?_ rfl rfl | trivial

theorem announceAlarms_keeps {s₀ : State} (s : State) (hk : Keeps s₀ s) :
    Keeps s₀ (announceAlarms s) := by
  unfold announceAlarms
  (try dsimp only)
  repeat' with_reducible first
    | assumption | refine keeps_foldl (fun _ _ _ => ?_) ?_ | apply almEvent_keeps | apply restartRepeats_keeps | split | refine keeps_mk ?_ rfl rfl
    | trivial

theorem dropMirrored_keeps {s₀ : State} (s : State) (hk : Keeps s₀ s) :
    Keeps s₀ (dropMirrored s) := by
  unfold dropMirrored
  (try dsimp only)
  repeat' with_reducible first | assumption | split | refine keeps_mk ?_ rfl rfl | trivial

theorem owedFrames_keeps {s₀ : State} (s : State) (hk : Keeps s₀ s) :
    Keeps s₀ (owedFrames s) := by
  unfold owedFrames
  (try dsimp only)
  repeat' with_reducible first | assumption | refine keeps_foldl (fun _ _ _ => ?_) ?_ | split | refine keeps_mk ?_ rfl rfl | trivial

theorem dropIngress_keeps {s₀ : State} (s : State) (hk : Keeps s₀ s) :
    Keeps s₀ (dropIngress s) := by
  unfold dropIngress
  (try dsimp only)
  repeat' with_reducible first | assumption | split | refine keeps_mk ?_ rfl rfl | trivial

theorem linkDown_keeps {s₀ : State} (k : Nat) (s : State) (hk : Keeps s₀ s) :
    Keeps s₀ (linkDown k s) := by
  unfold linkDown
  (try dsimp only)
  repeat' with_reducible first | assumption | apply State.setLink_keeps | apply notePartner_keeps | split | refine keeps_mk ?_ rfl rfl | trivial

theorem unpair_keeps {s₀ : State} (s : State) (hk : Keeps s₀ s) :
    Keeps s₀ (unpair s) := by
  unfold unpair
  (try dsimp only)
  repeat' with_reducible first | assumption | split | refine keeps_mk ?_ rfl rfl | trivial

theorem pcieOff_keeps {s₀ : State} (s : State) (hk : Keeps s₀ s) :
    Keeps s₀ (pcieOff s) := by
  unfold pcieOff
  (try dsimp only)
  repeat' with_reducible first | assumption | apply pcieDown_keeps | split | refine keeps_mk ?_ rfl rfl | trivial

theorem mgmtDown_keeps {s₀ : State} (s : State) (hk : Keeps s₀ s) :
    Keeps s₀ (mgmtDown s) := by
  unfold mgmtDown
  (try dsimp only)
  repeat' with_reducible first | assumption | apply ifReset_keeps | split | refine keeps_mk ?_ rfl rfl | trivial

theorem dormantEnter_keeps {s₀ : State} (s : State) (hk : Keeps s₀ s) :
    Keeps s₀ (dormantEnter s) := by
  unfold dormantEnter
  (try dsimp only)
  repeat' with_reducible first
    | assumption | refine keeps_foldl (fun _ _ _ => ?_) ?_ | apply linkDown_keeps | apply mgmtDown_keeps | apply pcieOff_keeps | apply dmaStop_keeps
    | apply dropIngress_keeps | apply stopWan_keeps | split | refine keeps_mk ?_ rfl rfl | trivial

theorem modeLeave_keeps {s₀ : State} (m : Mode) (yield : Bool) (s : State) (hk : Keeps s₀ s) :
    Keeps s₀ (modeLeave m yield s) := by
  unfold modeLeave
  (try dsimp only)
  repeat' with_reducible first
    | assumption | apply closeAllTcp_keeps | apply stopWan_keeps | apply yieldAll_keeps | apply unpair_keeps | apply alignLeave_keeps | split
    | refine keeps_mk ?_ rfl rfl | trivial

theorem standbyActive_keeps {s₀ : State} (s : State) (hk : Keeps s₀ s) :
    Keeps s₀ (standbyActive s) := by
  unfold standbyActive
  (try dsimp only)
  repeat' with_reducible first
    | assumption | refine keeps_foldl (fun _ _ _ => ?_) ?_ | apply refreshSessions_keeps | apply adoptAlarms_keeps | apply energyAdopt_keeps
    | apply mirrorAnchor_keeps | split | refine keeps_mk ?_ rfl rfl | trivial

theorem modeEnter_keeps {s₀ : State} (old : Mode) (m : Mode) (s : State) (hk : Keeps s₀ s) :
    Keeps s₀ (modeEnter old m s) := by
  unfold modeEnter
  (try dsimp only)
  repeat' with_reducible first
    | assumption | apply alignEnter_keeps | apply energyFollow_keeps | apply standbyActive_keeps | apply reselect_keeps | apply dormantEnter_keeps
    | apply frontStart_keeps | split | refine keeps_mk ?_ rfl rfl | trivial

theorem mirrorAfresh_keeps {s₀ : State} (s : State) (hk : Keeps s₀ s) :
    Keeps s₀ (mirrorAfresh s) := by
  unfold mirrorAfresh
  (try dsimp only)
  repeat' with_reducible first | assumption | split | refine keeps_mk ?_ rfl rfl | trivial

theorem changeMode_keeps {s₀ : State} (m : Mode) (yield : Bool) (s : State) (hk : Keeps s₀ s) :
    Keeps s₀ (changeMode m yield s) := by
  unfold changeMode
  split
  · exact hk
  · exact notePartner_keeps _ _ (driveFaultN_keeps _ (updatePins_keeps _ (refreshSessions_keeps _ (mirrorAfresh_keeps _
      (modeEnter_keeps _ _ _ (setMode_keeps _ _ (modeLeave_keeps _ _ _ hk)))))))

theorem requestActive_keeps {s₀ : State} (s : State) (hk : Keeps s₀ s) :
    Keeps s₀ (requestActive s) := by
  unfold requestActive
  (try dsimp only)
  repeat' with_reducible first | assumption | apply changeMode_keeps | split | refine keeps_mk ?_ rfl rfl | trivial

theorem cutBurn_keeps {s₀ : State} (s : State) (hk : Keeps s₀ s) :
    Keeps s₀ (cutBurn s) := by
  unfold cutBurn
  (try dsimp only)
  repeat' with_reducible first | assumption | apply State.draw_keeps | split | refine keeps_mk ?_ rfl rfl | trivial

theorem wipe_keeps {s₀ : State} (kind : ResetKind) (ph : Phase) (s : State) (hk : Keeps s₀ s) :
    Keeps s₀ (wipe kind ph s) := by
  have h := cutBurn_keeps s hk
  exact driveFaultN_keeps _ ⟨h.pending, h.now, h.lifecycle, .inr rfl⟩

theorem resetEdge_keeps {s₀ : State} (kind : ResetKind) (s : State) (hk : Keeps s₀ s) :
    Keeps s₀ (resetEdge kind s) := by
  unfold resetEdge
  (try dsimp only)
  repeat' with_reducible first | assumption | apply yieldAll_keeps | apply wipe_keeps | split | refine keeps_mk ?_ rfl rfl | trivial

theorem lockout_keeps {s₀ : State} (cls : Nat) (unit : Nat) (detail : Word32) (s : State) (hk : Keeps s₀ s) :
    Keeps s₀ (lockout cls unit detail s) := by
  unfold lockout
  (try dsimp only)
  repeat' with_reducible first | assumption | apply resetEdge_keeps | apply State.draw_keeps | split | refine keeps_mk ?_ rfl rfl | trivial

theorem lockoutOverWdog_keeps {s₀ : State} (cls : Nat) (unit : Nat) (detail : Word32) (s : State) (hk : Keeps s₀ s) :
    Keeps s₀ (lockoutOverWdog cls unit detail s) := by
  unfold lockoutOverWdog
  (try dsimp only)
  repeat' with_reducible first | assumption | apply lockout_keeps | split | refine keeps_mk ?_ rfl rfl | trivial

/-! ### Pair.lean -/

theorem dropPeer_keeps {s₀ : State} (k : Nat) (s : State) (hk : Keeps s₀ s) :
    Keeps s₀ (dropPeer k s) := by
  unfold dropPeer
  (try dsimp only)
  repeat' with_reducible first | assumption | apply State.setLink_keeps | split | refine keeps_mk ?_ rfl rfl | trivial

theorem takeB_keeps {s₀ : State} (k : Nat) (q : PeerSeq) (hello : Bool) (s : State) (hk : Keeps s₀ s) :
    Keeps s₀ (takeB k q hello s).2 := by
  unfold takeB
  (try dsimp only)
  repeat' with_reducible first | assumption | apply dropPeer_keeps | apply State.setLink_keeps | split | refine keeps_mk ?_ rfl rfl | trivial

theorem linkTraining_keeps {s₀ : State} (k : Nat) (s : State) (hk : Keeps s₀ s) :
    Keeps s₀ (linkTraining k s) := by
  unfold linkTraining
  (try dsimp only)
  repeat' with_reducible first | assumption | apply sendB_keeps | apply State.setLink_keeps | split | refine keeps_mk ?_ rfl rfl | trivial

theorem sendGens_keeps {s₀ : State} (k : Nat) (s : State) (hk : Keeps s₀ s) :
    Keeps s₀ (sendGens k s) := by
  unfold sendGens
  (try dsimp only)
  repeat' with_reducible first
    | assumption | refine keeps_foldl (fun _ _ _ => ?_) ?_ | apply sendGen_keeps | split | refine keeps_mk ?_ rfl rfl | trivial

theorem helloRx_keeps {s₀ : State} (k : Nat) (m : HelloMsg) (s : State) (hk : Keeps s₀ s) :
    Keeps s₀ (helloRx k m s) := by
  unfold helloRx
  (try dsimp only)
  repeat' with_reducible first
    | assumption | apply takeB_keeps | apply State.setLink_keeps | apply sendGens_keeps | apply notePartner_keeps | split | refine keeps_mk ?_ rfl rfl
    | trivial

theorem endWaiting_keeps {s₀ : State} (status : Nat) (data : List Byte) (s : State) (hk : Keeps s₀ s) :
    Keeps s₀ (endWaiting status data s) := by
  unfold endWaiting
  (try dsimp only)
  repeat' with_reducible first | assumption | apply finishCommand_keeps | split | refine keeps_mk ?_ rfl rfl | trivial

theorem dropMember_keeps {s₀ : State} (z : Nat) (r : StreamRef) (s : State) (hk : Keeps s₀ s) :
    Keeps s₀ (dropMember z r s) := by
  unfold dropMember
  (try dsimp only)
  repeat' with_reducible first | assumption | apply State.modZone_keeps | split | refine keeps_mk ?_ rfl rfl | trivial

theorem loseRemoteAdd_keeps {s₀ : State} (k : Nat) (s : State) (hk : Keeps s₀ s) :
    Keeps s₀ (loseRemoteAdd k s) := by
  unfold loseRemoteAdd
  (try dsimp only)
  repeat' with_reducible first | assumption | apply endWaiting_keeps | apply dropMember_keeps | split | refine keeps_mk ?_ rfl rfl | trivial

theorem loseLink_keeps {s₀ : State} (k : Nat) (s : State) (hk : Keeps s₀ s) :
    Keeps s₀ (loseLink k s) := by
  unfold loseLink
  (try dsimp only)
  repeat' with_reducible first | assumption | apply loseRemoteAdd_keeps | apply linkDown_keeps | split | refine keeps_mk ?_ rfl rfl | trivial

theorem remoteNews_keeps {s₀ : State} (s : State) (hk : Keeps s₀ s) :
    Keeps s₀ (remoteNews s) := by
  unfold remoteNews
  (try dsimp only)
  repeat' with_reducible first | assumption | split | refine keeps_mk ?_ rfl rfl | trivial

theorem ackRx_keeps {s₀ : State} (x : PeerIn) (lseq : Nat) (s : State) (hk : Keeps s₀ s) :
    Keeps s₀ (ackRx x lseq s) := by
  unfold ackRx
  (try dsimp only)
  repeat' with_reducible first
    | assumption | apply dropPeer_keeps | apply State.setLink_keeps | apply remoteNews_keeps | apply finishCommand_keeps | apply dropMember_keeps
    | apply endWaiting_keeps | apply noteSetting_keeps | split | refine keeps_mk ?_ rfl rfl | trivial

theorem peerResend_keeps {s₀ : State} (k : Nat) (s : State) (hk : Keeps s₀ s) :
    Keeps s₀ (peerResend k s) := by
  unfold peerResend
  (try dsimp only)
  repeat' with_reducible first
    | assumption | refine keeps_foldl (fun _ _ _ => ?_) ?_ | apply sendBlocks_keeps | apply State.setLink_keeps | split | refine keeps_mk ?_ rfl rfl
    | trivial

theorem helloRepeat_keeps {s₀ : State} (k : Nat) (s : State) (hk : Keeps s₀ s) :
    Keeps s₀ (helloRepeat k s) := by
  unfold helloRepeat
  (try dsimp only)
  repeat' with_reducible first | assumption | apply sendBlocks_keeps | apply State.setLink_keeps | split | refine keeps_mk ?_ rfl rfl | trivial

theorem ackSend_keeps {s₀ : State} (k : Nat) (s : State) (hk : Keeps s₀ s) :
    Keeps s₀ (ackSend k s) := by
  unfold ackSend
  (try dsimp only)
  repeat' with_reducible first | assumption | apply State.setLink_keeps | apply State.emit_keeps | split | refine keeps_mk ?_ rfl rfl | trivial

theorem recordRx_keeps {s₀ : State} (k : Nat) (crcOk : Bool) (b : List Byte) (s : State) (hk : Keeps s₀ s) :
    Keeps s₀ (recordRx k crcOk b s) := by
  unfold recordRx
  (try dsimp only)
  repeat' with_reducible first
    | assumption | apply State.setLink_keeps | apply remoteNews_keeps | apply pushInsert_keeps | split | refine keeps_mk ?_ rfl rfl | trivial

theorem genRx_keeps {s₀ : State} (x : PeerIn) (index : Nat) (gen : Nat) (s : State) (hk : Keeps s₀ s) :
    Keeps s₀ (genRx x index gen s) := by
  unfold genRx
  (try dsimp only)
  repeat' with_reducible first | assumption | apply dropPeer_keeps | apply remoteNews_keeps | split | refine keeps_mk ?_ rfl rfl | trivial

theorem genRepeat_keeps {s₀ : State} (index : Nat) (s : State) (hk : Keeps s₀ s) :
    Keeps s₀ (genRepeat index s) := by
  unfold genRepeat
  (try dsimp only)
  repeat' with_reducible first | assumption | apply sendA_keeps | split | refine keeps_mk ?_ rfl rfl | trivial

theorem controlRx_keeps {s₀ : State} (k : Nat) (q : PeerSeq) (index : Nat) (zone : Nat) (add : Bool) (s : State) (hk : Keeps s₀ s) :
    Keeps s₀ (controlRx k q index zone add s) := by
  unfold controlRx
  (try dsimp only)
  repeat' with_reducible first | assumption | apply takeB_keeps | apply State.setCtx_keeps | split | refine keeps_mk ?_ rfl rfl | trivial

theorem noteHold_keeps {s₀ : State} (s : State) (hk : Keeps s₀ s) :
    Keeps s₀ (noteHold s) := by
  unfold noteHold
  (try dsimp only)
  repeat' with_reducible first | assumption | split | refine keeps_mk ?_ rfl rfl | trivial

theorem setPair_keeps {s₀ : State} (p : PairState) (s : State) (hk : Keeps s₀ s) :
    Keeps s₀ (setPair p s) := by
  unfold setPair
  (try dsimp only)
  repeat' with_reducible first | assumption | split | refine keeps_mk ?_ rfl rfl | trivial

theorem sendTakeover_keeps {s₀ : State} (s : State) (hk : Keeps s₀ s) :
    Keeps s₀ (sendTakeover s) := by
  unfold sendTakeover
  (try dsimp only)
  repeat' with_reducible first
    | assumption | refine keeps_foldl (fun _ _ _ => ?_) ?_ | apply sendA_keeps | split | refine keeps_mk ?_ rfl rfl | trivial

theorem mirrorAlarm_keeps {s₀ : State} (n : Nat) (st : Nat) (k : Nat) (seq : Nat) (s : State) (hk : Keeps s₀ s) :
    Keeps s₀ (mirrorAlarm n st k seq s) := by
  unfold mirrorAlarm
  (try dsimp only)
  repeat' with_reducible first | assumption | apply State.setAld_keeps | split | refine keeps_mk ?_ rfl rfl | trivial

theorem noteHeldAlarms_keeps {s₀ : State} (s : State) (hk : Keeps s₀ s) :
    Keeps s₀ (noteHeldAlarms s) := by
  unfold noteHeldAlarms
  (try dsimp only)
  repeat' with_reducible first
    | assumption | refine keeps_foldl (fun _ _ _ => ?_) ?_ | apply mirrorAlarm_keeps | split | refine keeps_mk ?_ rfl rfl | trivial

theorem countTakeover_keeps {s₀ : State} (s : State) (hk : Keeps s₀ s) :
    Keeps s₀ (countTakeover s) := by
  unfold countTakeover
  (try dsimp only)
  repeat' with_reducible first | assumption | split | refine keeps_mk ?_ rfl rfl | trivial

theorem resumeAlone_keeps {s₀ : State} (s : State) (hk : Keeps s₀ s) :
    Keeps s₀ (resumeAlone s) := by
  unfold resumeAlone
  (try dsimp only)
  repeat' with_reducible first
    | assumption | apply announceAlarms_keeps | apply owedFrames_keeps | apply noteHeldAlarms_keeps | apply sendTakeover_keeps
    | apply countTakeover_keeps | split | refine keeps_mk ?_ rfl rfl | trivial

theorem endSwitchover_keeps {s₀ : State} (status : Nat) (data : List Byte) (s : State) (hk : Keeps s₀ s) :
    Keeps s₀ (endSwitchover status data s) := by
  unfold endSwitchover
  (try dsimp only)
  repeat' with_reducible first | assumption | apply endWaiting_keeps | split | refine keeps_mk ?_ rfl rfl | trivial

theorem declareLoss_keeps {s₀ : State} (s : State) (hk : Keeps s₀ s) :
    Keeps s₀ (declareLoss s) := by
  unfold declareLoss
  (try dsimp only)
  repeat' with_reducible first
    | assumption | apply endSwitchover_keeps | apply resumeAlone_keeps | apply setPair_keeps | split | refine keeps_mk ?_ rfl rfl | trivial

theorem fullMirror_keeps {s₀ : State} (s : State) (hk : Keeps s₀ s) :
    Keeps s₀ (fullMirror s) := by
  unfold fullMirror
  (try dsimp only)
  repeat' with_reducible first
    | assumption | refine keeps_foldl (fun _ _ _ => ?_) ?_ | apply mirrorCtx_keeps | apply mirrorAnchor_keeps | apply sendEnergyMirror_keeps
    | apply mirrorItem_keeps | split | refine keeps_mk ?_ rfl rfl | trivial

theorem grant_keeps {s₀ : State} (s : State) (hk : Keeps s₀ s) :
    Keeps s₀ (grant s) := by
  unfold grant
  (try dsimp only)
  repeat' with_reducible first | assumption | apply sendB_keeps | split | refine keeps_mk ?_ rfl rfl | trivial

theorem noteDual_keeps {s₀ : State} (s : State) (hk : Keeps s₀ s) :
    Keeps s₀ (noteDual s) := by
  unfold noteDual
  (try dsimp only)
  repeat' with_reducible first | assumption | split | refine keeps_mk ?_ rfl rfl | trivial

theorem pairHeartbeat_keeps {s₀ : State} (before : PairSt) (m : HeartbeatMsg) (s : State) (hk : Keeps s₀ s) :
    Keeps s₀ (pairHeartbeat before m s) := by
  unfold pairHeartbeat
  (try dsimp only)
  repeat' with_reducible first
    | assumption | apply declareLoss_keeps | apply changeMode_keeps | apply setPair_keeps | apply noteDual_keeps | apply grant_keeps
    | apply fullMirror_keeps | split | refine keeps_mk ?_ rfl rfl | trivial

theorem heartbeatRx_keeps {s₀ : State} (k : Nat) (crcOk : Bool) (m : HeartbeatMsg) (s : State) (hk : Keeps s₀ s) :
    Keeps s₀ (heartbeatRx k crcOk m s) := by
  unfold heartbeatRx
  (try dsimp only)
  repeat' with_reducible first
    | assumption | apply State.setLink_keeps | apply notePartner_keeps | apply noteHold_keeps | apply pairHeartbeat_keeps | split
    | refine keeps_mk ?_ rfl rfl | trivial

theorem heartbeatMissed_keeps {s₀ : State} (k : Nat) (s : State) (hk : Keeps s₀ s) :
    Keeps s₀ (heartbeatMissed k s) := by
  unfold heartbeatMissed
  (try dsimp only)
  repeat' with_reducible first
    | assumption | apply State.setLink_keeps | apply notePartner_keeps | apply loseLink_keeps | split | refine keeps_mk ?_ rfl rfl | trivial

theorem takeoverComplete_keeps {s₀ : State} (s : State) (hk : Keeps s₀ s) :
    Keeps s₀ (takeoverComplete s) := by
  unfold takeoverComplete
  (try dsimp only)
  repeat' with_reducible first
    | assumption | apply countTakeover_keeps | apply sendTakeover_keeps | apply announceAlarms_keeps | apply owedFrames_keeps | apply changeMode_keeps
    | split | refine keeps_mk ?_ rfl rfl | trivial

theorem takeoverRx_keeps {s₀ : State} (x : PeerIn) (s : State) (hk : Keeps s₀ s) :
    Keeps s₀ (takeoverRx x s) := by
  unfold takeoverRx
  (try dsimp only)
  repeat' with_reducible first
    | assumption | apply dropPeer_keeps | apply declareLoss_keeps | apply changeMode_keeps | split | refine keeps_mk ?_ rfl rfl | trivial

theorem holdExpiry_keeps {s₀ : State} (s : State) (hk : Keeps s₀ s) :
    Keeps s₀ (holdExpiry s) := by
  unfold holdExpiry
  (try dsimp only)
  repeat' with_reducible first | assumption | apply sendB_keeps | split | refine keeps_mk ?_ rfl rfl | trivial

theorem requestRx_keeps {s₀ : State} (q : PeerSeq) (s : State) (hk : Keeps s₀ s) :
    Keeps s₀ (requestRx q s) := by
  unfold requestRx
  (try dsimp only)
  repeat' with_reducible first
    | assumption | apply takeB_keeps | apply refuse_keeps | apply sendB_keeps | apply grant_keeps | split | refine keeps_mk ?_ rfl rfl | trivial

theorem grantRx_keeps {s₀ : State} (q : PeerSeq) (edge : Stamp) (s : State) (hk : Keeps s₀ s) :
    Keeps s₀ (grantRx q edge s) := by
  unfold grantRx
  (try dsimp only)
  repeat' with_reducible first | assumption | apply takeB_keeps | apply endSwitchover_keeps | split | refine keeps_mk ?_ rfl rfl | trivial

theorem refuseRx_keeps {s₀ : State} (q : PeerSeq) (s : State) (hk : Keeps s₀ s) :
    Keeps s₀ (refuseRx q s) := by
  unfold refuseRx
  (try dsimp only)
  repeat' with_reducible first
    | assumption | apply takeB_keeps | apply endSwitchover_keeps | apply noteHold_keeps | split | refine keeps_mk ?_ rfl rfl | trivial

theorem handoverEdgeAct_keeps {s₀ : State} (s : State) (hk : Keeps s₀ s) :
    Keeps s₀ (handoverEdgeAct s) := by
  unfold handoverEdgeAct
  (try dsimp only)
  repeat' with_reducible first | assumption | apply dropMirrored_keeps | apply changeMode_keeps | split | refine keeps_mk ?_ rfl rfl | trivial

theorem countItem_keeps {s₀ : State} (s : State) (hk : Keeps s₀ s) :
    Keeps s₀ (countItem s) := by
  unfold countItem
  (try dsimp only)
  repeat' with_reducible first | assumption | split | refine keeps_mk ?_ rfl rfl | trivial

theorem mirrorRemoval_keeps {s₀ : State} (i : Nat) (gen : BitVec 4) (s : State) (hk : Keeps s₀ s) :
    Keeps s₀ (mirrorRemoval i gen s) := by
  unfold mirrorRemoval
  (try dsimp only)
  repeat' with_reducible first
    | assumption | apply State.setCtx_keeps | apply noteSetting_keeps | apply streamRemove_keeps | split | refine keeps_mk ?_ rfl rfl | trivial

theorem mirrorContext_keeps {s₀ : State} (i : Nat) (c : Ctx) (s : State) (hk : Keeps s₀ s) :
    Keeps s₀ (mirrorContext i c s) := by
  unfold mirrorContext
  (try dsimp only)
  repeat' with_reducible first
    | assumption | apply State.setCtx_keeps | apply refreshSessions_keeps | apply sendGen_keeps | split | refine keeps_mk ?_ rfl rfl | trivial

theorem applyItem_keeps {s₀ : State} (m : MirrorItem) (s : State) (hk : Keeps s₀ s) :
    Keeps s₀ (applyItem m s) := by
  unfold applyItem
  (try dsimp only)
  repeat' with_reducible first
    | assumption | apply countItem_keeps | apply mirrorRemoval_keeps | apply mirrorContext_keeps | apply State.modZone_keeps | apply updatePins_keeps
    | apply mirrorAlarm_keeps | apply noteHold_keeps | split | refine keeps_mk ?_ rfl rfl | trivial

theorem energyItem_keeps {s₀ : State} (s : State) (hk : Keeps s₀ s) :
    Keeps s₀ (energyItem s) := by
  unfold energyItem
  (try dsimp only)
  repeat' with_reducible first
    | assumption | apply countItem_keeps | apply applyMirror_keeps | apply noteHold_keeps | split | refine keeps_mk ?_ rfl rfl | trivial

theorem mirrorRx_keeps {s₀ : State} (q : PeerSeq) (m : MirrorItem) (s : State) (hk : Keeps s₀ s) :
    Keeps s₀ (mirrorRx q m s) := by
  unfold mirrorRx
  (try dsimp only)
  repeat' with_reducible first | assumption | apply takeB_keeps | apply applyItem_keeps | split | refine keeps_mk ?_ rfl rfl | trivial

theorem handoverBreak_keeps {s₀ : State} (s : State) (hk : Keeps s₀ s) :
    Keeps s₀ (handoverBreak s) := by
  unfold handoverBreak
  (try dsimp only)
  repeat' with_reducible first
    | assumption | refine keeps_foldl (fun _ _ _ => ?_) ?_ | apply applyItem_keeps | apply changeMode_keeps | split | refine keeps_mk ?_ rfl rfl
    | trivial

/-! ### Grid.lean -/

theorem gridOut_keeps {s₀ : State} (opcode : Nat) (edge : Stamp) (p : List Byte) (s : State) (hk : Keeps s₀ s) :
    CmdOut.Keeps s₀ (gridOut opcode edge p s) := by
  unfold gridOut
  (try dsimp only)
  repeat' with_reducible first
    | assumption | exact keeps_bad | exact keeps_err | apply timeSources_keeps | apply timeServo_keeps | apply timePortSet_keeps | apply timePtp_keeps
    | apply timeSet_keeps | apply timeUtc_keeps | apply evtConfig_keeps | apply ppsOutConfig_keeps | apply streamAdd_keeps | apply streamRemove_keeps
    | apply streamRebindOut_keeps | apply zoneStop_keeps | refine keeps_ok ?_ | refine keeps_fail ?_ | refine keeps_long ?_ | split
    | refine keeps_mk ?_ rfl rfl | trivial

theorem Later.act_keeps {s₀ : State} (a : Later) (s : State) (hk : Keeps s₀ s) : Keeps s₀ (Later.act a s) := by
  cases a with
  | command op p =>
    have h := gridOut_keeps op s.stamp p s hk
    rw [Later.act]
    split
    · rename_i e
      rw [e] at h
      exact keeps_mk h rfl rfl
    · exact hk
  | servoStep theta => exact servoStep_keeps theta s hk
  | reselect => exact reselect_keeps s hk
  | context i gen u => exact ctxUpdate_keeps i gen u s hk
  | capture => exact hk
  | forward home zone f => exact sendRecord_keeps home zone f s hk
  | alarmReady p => exact alarmReady_keeps p s hk

theorem State.flushed_keeps {s₀ : State} (s : State) (hk : Keeps s₀ s) :
    Keeps s₀ (State.flushed s) := by
  unfold State.flushed
  (try dsimp only)
  repeat' with_reducible first
    | assumption | refine keeps_foldl (fun _ _ _ => ?_) ?_ | apply Later.act_keeps | split | refine keeps_mk ?_ rfl rfl | trivial

theorem atGrid_keeps {s₀ : State} (opcode : Nat) (s : State) (p : List Byte) (hk : Keeps s₀ s) :
    CmdOut.Keeps s₀ (atGrid opcode s p) := by
  unfold atGrid
  (try dsimp only)
  repeat' with_reducible first
    | assumption | exact keeps_bad | exact keeps_err | apply gridOut_keeps | apply State.flushed_keeps | apply State.at_keeps | refine keeps_ok ?_
    | refine keeps_fail ?_ | refine keeps_long ?_ | split | refine keeps_mk ?_ rfl rfl | trivial

theorem insertDue_keeps {s₀ : State} (n : Nat) (s : State) (hk : Keeps s₀ s) : Keeps s₀ (insertDue n s) := by
  induction n generalizing s with
  | zero => exact hk
  | succ n ih => exact ih _ (insertNext_keeps s hk)

theorem settle_keeps {s₀ : State} (s : State) (hk : Keeps s₀ s) :
    Keeps s₀ (settle s) := by
  unfold settle
  (try dsimp only)
  repeat' with_reducible first
    | assumption | apply noteHold_keeps | apply sweepZones_keeps | apply revTake_keeps | apply revStart_keeps | apply asmTake_keeps
    | apply formatterTake_keeps | apply eventsForm_keeps | apply insertDue_keeps | split | refine keeps_mk ?_ rfl rfl | trivial

theorem actNext_keeps {s₀ : State} (s : State) (hk : Keeps s₀ s) :
    Keeps s₀ (actNext s) := by
  unfold actNext
  (try dsimp only)
  repeat' with_reducible first | assumption | apply Later.act_keeps | split | refine keeps_mk ?_ rfl rfl | trivial

/-! ### GridCmd.lean -/

theorem gridCmd_keeps {opcode : Nat} {modes : Mode → Bool} {lenOk : List Byte → Bool} {checks : State → List Byte → List (Bool × Nat)}
    {key : List Byte → Option (Nat × List Nat)} : (gridCmd opcode modes lenOk checks key).Keeps :=
  fun _ s _ p hk => atGrid_keeps opcode s p hk

theorem cmdTimeSetSources_keeps : cmdTimeSetSources.Keeps := gridCmd_keeps

theorem cmdTimeSetServo_keeps : cmdTimeSetServo.Keeps := gridCmd_keeps

theorem cmdTimeSetPort_keeps : cmdTimeSetPort.Keeps := gridCmd_keeps

theorem cmdTimeSetPtp_keeps : cmdTimeSetPtp.Keeps := gridCmd_keeps

theorem cmdTimeSet_keeps : cmdTimeSet.Keeps := gridCmd_keeps

theorem cmdTimeSetUtc_keeps : cmdTimeSetUtc.Keeps := by
  intro s₀ s ifc p hk
  unfold cmdTimeSetUtc
  dsimp only
  repeat' with_reducible first
    | assumption | apply gridCmd_keeps | apply atGrid_keeps | refine keeps_ok ?_ | refine keeps_fail ?_ | refine keeps_long ?_ | exact keeps_bad
    | exact keeps_err | split | refine keeps_mk ?_ rfl rfl | trivial

theorem cmdEvtConfig_keeps : cmdEvtConfig.Keeps := gridCmd_keeps

theorem cmdPpsOutConfig_keeps : cmdPpsOutConfig.Keeps := gridCmd_keeps

theorem cmdStreamAdd_keeps : cmdStreamAdd.Keeps := gridCmd_keeps

theorem cmdStreamRemove_keeps : cmdStreamRemove.Keeps := gridCmd_keeps

theorem cmdStreamRebind_keeps : cmdStreamRebind.Keeps := gridCmd_keeps

theorem cmdZoneStop_keeps : cmdZoneStop.Keeps := gridCmd_keeps

/-! ### Security.lean -/

theorem deriveKeys_keeps {s₀ : State} (s : State) (hk : Keeps s₀ s) :
    Keeps s₀ (deriveKeys s) := by
  unfold deriveKeys
  (try dsimp only)
  repeat' with_reducible first | assumption | split | refine keeps_mk ?_ rfl rfl | trivial

theorem latchRoot_keeps {s₀ : State} (s : State) (hk : Keeps s₀ s) :
    Keeps s₀ (latchRoot s) := by
  unfold latchRoot
  (try dsimp only)
  repeat' with_reducible first | assumption | split | refine keeps_mk ?_ rfl rfl | trivial

theorem cmdSecGetLifecycle_keeps : cmdSecGetLifecycle.Keeps := by
  intro s₀ s ifc p hk
  unfold cmdSecGetLifecycle
  dsimp only
  repeat' with_reducible first
    | assumption | apply State.draw_keeps | refine keeps_ok ?_ | refine keeps_fail ?_ | refine keeps_long ?_ | exact keeps_bad | exact keeps_err
    | split | refine keeps_mk ?_ rfl rfl | trivial

theorem spendNonce_keeps {s₀ : State} (n : List Byte) (s : State) (hk : Keeps s₀ s) :
    Keeps s₀ (spendNonce n s) := by
  unfold spendNonce
  (try dsimp only)
  repeat' with_reducible first | assumption | split | refine keeps_mk ?_ rfl rfl | trivial

theorem cmdSecSetLifecycle_keeps : cmdSecSetLifecycle.Keeps := by
  intro s₀ s ifc p hk
  unfold cmdSecSetLifecycle
  dsimp only
  repeat' with_reducible first
    | assumption | apply spendNonce_keeps | refine keeps_ok ?_ | refine keeps_fail ?_ | refine keeps_long ?_ | exact keeps_bad | exact keeps_err
    | split | refine keeps_mk ?_ rfl rfl | trivial

theorem cmdSecSetOwnerRoot_keeps : cmdSecSetOwnerRoot.Keeps := by
  intro s₀ s ifc p hk
  unfold cmdSecSetOwnerRoot
  dsimp only
  repeat' with_reducible first
    | assumption | apply spendNonce_keeps | refine keeps_ok ?_ | refine keeps_fail ?_ | refine keeps_long ?_ | exact keeps_bad | exact keeps_err
    | split | refine keeps_mk ?_ rfl rfl | trivial

theorem State.setMka_keeps {s₀ : State} (s : State) (p : Nat) (x : MkaPort) (hk : Keeps s₀ s) :
    Keeps s₀ (State.setMka s p x) := by
  unfold State.setMka
  (try dsimp only)
  repeat' with_reducible first | assumption | split | refine keeps_mk ?_ rfl rfl | trivial

theorem newAssociation_keeps {s₀ : State} (port : Nat) (s : State) (hk : Keeps s₀ s) :
    Keeps s₀ (newAssociation port s) := by
  unfold newAssociation
  (try dsimp only)
  repeat' with_reducible first
    | assumption | apply State.setMka_keeps | apply ifReset_keeps | apply State.modTx_keeps | split | refine keeps_mk ?_ rfl rfl | trivial

theorem applyMka_keeps {s₀ : State} (p : List Byte) (domain : Nat) (s : State) (hk : Keeps s₀ s) :
    Keeps s₀ (applyMka p domain s) := by
  unfold applyMka
  (try dsimp only)
  repeat' with_reducible first | assumption | apply State.setMka_keeps | apply newAssociation_keeps | split | refine keeps_mk ?_ rfl rfl | trivial

theorem cmdSecSetMka_keeps : cmdSecSetMka.Keeps := by
  intro s₀ s ifc p hk
  unfold cmdSecSetMka
  dsimp only
  repeat' with_reducible first
    | assumption | apply applyMka_keeps | refine keeps_ok ?_ | refine keeps_fail ?_ | refine keeps_long ?_ | exact keeps_bad | exact keeps_err | split
    | refine keeps_mk ?_ rfl rfl | trivial

theorem keyServer_keeps {s₀ : State} (x : MkaPort) (s : State) (hk : Keeps s₀ s) :
    Keeps s₀ (keyServer x s).2 := by
  unfold keyServer
  (try dsimp only)
  repeat' with_reducible first | assumption | apply State.draw_keeps | split | refine keeps_mk ?_ rfl rfl | trivial

theorem cmdSecGetMkaStatus_keeps : cmdSecGetMkaStatus.Keeps := by
  intro s₀ s ifc p hk
  unfold cmdSecGetMkaStatus
  dsimp only
  repeat' with_reducible first
    | assumption | apply keyServer_keeps | apply State.draw_keeps | refine keeps_ok ?_ | refine keeps_fail ?_ | refine keeps_long ?_ | exact keeps_bad
    | exact keeps_err | split | refine keeps_mk ?_ rfl rfl | trivial

theorem mkpduRx_keeps {s₀ : State} (port : Nat) (m : Mkpdu) (s : State) (hk : Keeps s₀ s) :
    Keeps s₀ (mkpduRx port m s) := by
  unfold mkpduRx
  (try dsimp only)
  repeat' with_reducible first | assumption | apply State.setMka_keeps | split | refine keeps_mk ?_ rfl rfl | trivial

theorem mkpduSend_keeps {s₀ : State} (port : Nat) (content : List Byte) (s : State) (hk : Keeps s₀ s) :
    Keeps s₀ (mkpduSend port content s) := by
  unfold mkpduSend
  (try dsimp only)
  repeat' with_reducible first | assumption | apply State.emit_keeps | apply enqueue_keeps | split | refine keeps_mk ?_ rfl rfl | trivial

theorem mkaHello_keeps {s₀ : State} (port : Nat) (s : State) (hk : Keeps s₀ s) :
    Keeps s₀ (mkaHello port s) := by
  unfold mkaHello
  (try dsimp only)
  repeat' with_reducible first
    | assumption | apply keyServer_keeps | apply mkpduSend_keeps | apply State.setMka_keeps | split | refine keeps_mk ?_ rfl rfl | trivial

theorem sakInstall_keeps {s₀ : State} (port : Nat) (keyNumber : Nat) (an : Nat) (s : State) (hk : Keeps s₀ s) :
    Keeps s₀ (sakInstall port keyNumber an s) := by
  unfold sakInstall
  (try dsimp only)
  repeat' with_reducible first | assumption | apply State.setMka_keeps | apply State.modTx_keeps | split | refine keeps_mk ?_ rfl rfl | trivial

/-! ### Update.lean -/

theorem updEvent_keeps {s₀ : State} (type : Nat) (bank : Nat) (s : State) (hk : Keeps s₀ s) :
    Keeps s₀ (updEvent type bank s) := by
  unfold updEvent
  (try dsimp only)
  repeat' with_reducible first | assumption | split | refine keeps_mk ?_ rfl rfl | trivial

theorem setRunBank_keeps {s₀ : State} (b : Bank) (s : State) (hk : Keeps s₀ s) :
    Keeps s₀ (setRunBank b s) := by
  unfold setRunBank
  (try dsimp only)
  repeat' with_reducible first | assumption | split | refine keeps_mk ?_ rfl rfl | trivial

theorem updBeginDone_keeps {s₀ : State} (ifc : Nat) (h : List Byte) (s : State) (hk : Keeps s₀ s) :
    Keeps s₀ (updBeginDone ifc h s) := by
  unfold updBeginDone
  (try dsimp only)
  repeat' with_reducible first | assumption | apply State.setOtherBank_keeps | split | refine keeps_mk ?_ rfl rfl | trivial

theorem cmdUpdBegin_keeps : cmdUpdBegin.Keeps := by
  intro s₀ s ifc p hk
  unfold cmdUpdBegin
  dsimp only
  repeat' with_reducible first
    | assumption | refine keeps_ok ?_ | refine keeps_fail ?_ | refine keeps_long ?_ | exact keeps_bad | exact keeps_err | split
    | refine keeps_mk ?_ rfl rfl | trivial

theorem updWriteDone_keeps {s₀ : State} (offset : Nat) (data : List Byte) (s : State) (hk : Keeps s₀ s) :
    Keeps s₀ (updWriteDone offset data s) := by
  unfold updWriteDone
  (try dsimp only)
  repeat' with_reducible first | assumption | apply State.setOtherBank_keeps | split | refine keeps_mk ?_ rfl rfl | trivial

theorem cmdUpdWrite_keeps : cmdUpdWrite.Keeps := by
  intro s₀ s ifc p hk
  unfold cmdUpdWrite
  dsimp only
  repeat' with_reducible first
    | assumption | refine keeps_ok ?_ | refine keeps_fail ?_ | refine keeps_long ?_ | exact keeps_bad | exact keeps_err | split
    | refine keeps_mk ?_ rfl rfl | trivial

theorem updEndDone_keeps {s₀ : State} (final : Bool) (auto : Bool) (window : Nat) (s : State) (hk : Keeps s₀ s) :
    Keeps s₀ (updEndDone final auto window s).2 := by
  unfold updEndDone
  (try dsimp only)
  repeat' with_reducible first | assumption | apply State.setOtherBank_keeps | split | refine keeps_mk ?_ rfl rfl | trivial

theorem cmdUpdEnd_keeps : cmdUpdEnd.Keeps := by
  intro s₀ s ifc p hk
  unfold cmdUpdEnd
  dsimp only
  repeat' with_reducible first
    | assumption | refine keeps_ok ?_ | refine keeps_fail ?_ | refine keeps_long ?_ | exact keeps_bad | exact keeps_err | split
    | refine keeps_mk ?_ rfl rfl | trivial

theorem cmdUpdGetStatus_keeps : cmdUpdGetStatus.Keeps := by
  intro s₀ s ifc p hk
  unfold cmdUpdGetStatus
  dsimp only
  repeat' with_reducible first
    | assumption | apply State.draw_keeps | refine keeps_ok ?_ | refine keeps_fail ?_ | refine keeps_long ?_ | exact keeps_bad | exact keeps_err
    | split | refine keeps_mk ?_ rfl rfl | trivial

theorem confirmTrial_keeps {s₀ : State} (s : State) (hk : Keeps s₀ s) :
    Keeps s₀ (confirmTrial s) := by
  unfold confirmTrial
  (try dsimp only)
  repeat' with_reducible first
    | assumption | apply setRunBank_keeps | apply State.setOtherBank_keeps | apply updEvent_keeps | split | refine keeps_mk ?_ rfl rfl | trivial

theorem cmdUpdConfirm_keeps : cmdUpdConfirm.Keeps := by
  intro s₀ s ifc p hk
  unfold cmdUpdConfirm
  dsimp only
  repeat' with_reducible first
    | assumption | refine keeps_ok ?_ | refine keeps_fail ?_ | refine keeps_long ?_ | exact keeps_bad | exact keeps_err | split
    | refine keeps_mk ?_ rfl rfl | trivial

theorem cmdUpdAbort_keeps : cmdUpdAbort.Keeps := by
  intro s₀ s ifc p hk
  unfold cmdUpdAbort
  dsimp only
  repeat' with_reducible first
    | assumption | refine keeps_ok ?_ | refine keeps_fail ?_ | refine keeps_long ?_ | exact keeps_bad | exact keeps_err | split
    | refine keeps_mk ?_ rfl rfl | trivial

theorem updateCopyDone_keeps {s₀ : State} (s : State) (hk : Keeps s₀ s) :
    Keeps s₀ (updateCopyDone s) := by
  unfold updateCopyDone
  (try dsimp only)
  repeat' with_reducible first | assumption | apply State.setOtherBank_keeps | apply updEvent_keeps | split | refine keeps_mk ?_ rfl rfl | trivial

theorem failTrial_keeps {s₀ : State} (reason : Nat) (s : State) (hk : Keeps s₀ s) :
    Keeps s₀ (failTrial reason s) := by
  unfold failTrial
  (try dsimp only)
  repeat' with_reducible first | assumption | apply updEvent_keeps | apply setRunBank_keeps | split | refine keeps_mk ?_ rfl rfl | trivial

theorem trialWindowEnd_keeps {s₀ : State} (s : State) (hk : Keeps s₀ s) :
    Keeps s₀ (trialWindowEnd s) := by
  unfold trialWindowEnd
  (try dsimp only)
  repeat' with_reducible first
    | assumption | apply confirmTrial_keeps | apply resetEdge_keeps | apply failTrial_keeps | split | refine keeps_mk ?_ rfl rfl | trivial

theorem imageNak_keeps {s₀ : State} (q : Nat) (reason : Nat) (r : Recovery) (s : State) (hk : Keeps s₀ s) :
    Keeps s₀ (imageNak q reason r s) := by
  unfold imageNak
  (try dsimp only)
  repeat' with_reducible first | assumption | apply svcNak_keeps | split | refine keeps_mk ?_ rfl rfl | trivial

theorem imageFragment_keeps {s₀ : State} (q : Nat) (flags : Nat) (payload : List Byte) (r : Recovery) (s : State) (hk : Keeps s₀ s) :
    Keeps s₀ (imageFragment q flags payload r s) := by
  unfold imageFragment
  (try dsimp only)
  repeat' with_reducible first
    | assumption | apply imageNak_keeps | apply svcAck_keeps | apply updEvent_keeps | split | refine keeps_mk ?_ rfl rfl | trivial

theorem bastikImage_keeps {s₀ : State} (f : List Byte) (s : State) (hk : Keeps s₀ s) :
    Keeps s₀ (bastikImage f s) := by
  unfold bastikImage
  (try dsimp only)
  repeat' with_reducible first
    | assumption | apply framingLoss_keeps | apply svcNak_keeps | apply svcAck_keeps | apply imageFragment_keeps | split | refine keeps_mk ?_ rfl rfl
    | trivial

/-! ### Integ.lean -/

theorem engineOffline_keeps {s₀ : State} (e : Nat) (s : State) (hk : Keeps s₀ s) :
    Keeps s₀ (engineOffline e s) := by
  unfold engineOffline
  (try dsimp only)
  repeat' with_reducible first | assumption | apply State.setEngine_keeps | apply lockout_keeps | split | refine keeps_mk ?_ rfl rfl | trivial

theorem abortItem_keeps {s₀ : State} (e : Nat) (s : State) (hk : Keeps s₀ s) :
    Keeps s₀ (abortItem e s) := by
  unfold abortItem
  (try dsimp only)
  repeat' with_reducible first | assumption | apply engineIdle_keeps | apply discardEntry_keeps | split | refine keeps_mk ?_ rfl rfl | trivial

theorem engineAbort_keeps {s₀ : State} (e : Nat) (s : State) (hk : Keeps s₀ s) :
    Keeps s₀ (engineAbort e s) := by
  unfold engineAbort
  (try dsimp only)
  repeat' with_reducible first
    | assumption | apply abortItem_keeps | apply State.setEngine_keeps | apply engineOffline_keeps | split | refine keeps_mk ?_ rfl rfl | trivial

theorem awaitRetry_keeps {s₀ : State} (p : LogEntry → Bool) (e : Nat) (s : State) (hk : Keeps s₀ s) :
    Keeps s₀ (awaitRetry p e s) := by
  unfold awaitRetry
  (try dsimp only)
  repeat' with_reducible first | assumption | split | refine keeps_mk ?_ rfl rfl | trivial

theorem lockstepMismatch_keeps {s₀ : State} (e : Nat) (s : State) (hk : Keeps s₀ s) :
    Keeps s₀ (lockstepMismatch e s) := by
  unfold lockstepMismatch
  (try dsimp only)
  repeat' with_reducible first
    | assumption | apply engineAbort_keeps | apply awaitRetry_keeps | apply addLog_keeps | split | refine keeps_mk ?_ rfl rfl | trivial

theorem selftestDone_keeps {s₀ : State} (e : Nat) (pass : Bool) (s : State) (hk : Keeps s₀ s) :
    Keeps s₀ (selftestDone e pass s) := by
  unfold selftestDone
  (try dsimp only)
  repeat' with_reducible first | assumption | apply State.setEngine_keeps | apply engineOffline_keeps | split | refine keeps_mk ?_ rfl rfl | trivial

theorem constBad_keeps {s₀ : State} (z : Nat) (addr : Nat) (s : State) (hk : Keeps s₀ s) :
    Keeps s₀ (constBad z addr s) := by
  unfold constBad
  (try dsimp only)
  repeat' with_reducible first | assumption | apply modArea_keeps | split | refine keeps_mk ?_ rfl rfl | trivial

theorem indexBad_keeps {s₀ : State} (z : Nat) (addr : Nat) (s : State) (hk : Keeps s₀ s) :
    Keeps s₀ (indexBad z addr s) := by
  unfold indexBad
  (try dsimp only)
  repeat' with_reducible first | assumption | apply State.modZone_keeps | split | refine keeps_mk ?_ rfl rfl | trivial

theorem tableBad_keeps {s₀ : State} (kind : Nat) (n : Nat) (s : State) (hk : Keeps s₀ s) :
    Keeps s₀ (tableBad kind n s) := by
  unfold tableBad
  (try dsimp only)
  repeat' with_reducible first
    | assumption | apply updatePins_keeps | apply stopChains_keeps | apply oscReset_keeps | split | refine keeps_mk ?_ rfl rfl | trivial

theorem schedBad_keeps {s₀ : State} (n : Nat) (s : State) (hk : Keeps s₀ s) :
    Keeps s₀ (schedBad n s) := by
  unfold schedBad
  (try dsimp only)
  repeat' with_reducible first | assumption | apply markIncomplete_keeps | apply dropItems_keeps | split | refine keeps_mk ?_ rfl rfl | trivial

theorem formBad_keeps {s₀ : State} (s : State) (hk : Keeps s₀ s) :
    Keeps s₀ (formBad s) := by
  unfold formBad
  (try dsimp only)
  repeat' with_reducible first | assumption | apply formEnd_keeps | apply State.modSess_keeps | split | refine keeps_mk ?_ rfl rfl | trivial

theorem txBad_keeps {s₀ : State} (p : Nat) (n : Nat) (s : State) (hk : Keeps s₀ s) :
    Keeps s₀ (txBad p n s) := by
  unfold txBad
  (try dsimp only)
  repeat' with_reducible first
    | assumption | apply formBad_keeps | apply countBufDrop_keeps | apply State.setTx_keeps | split | refine keeps_mk ?_ rfl rfl | trivial

theorem rqBad_keeps {s₀ : State} (q : Nat) (n : Nat) (s : State) (hk : Keeps s₀ s) :
    Keeps s₀ (rqBad q n s) := by
  unfold rqBad
  (try dsimp only)
  repeat' with_reducible first | assumption | apply State.setRq_keeps | split | refine keeps_mk ?_ rfl rfl | trivial

theorem dmaBad_keeps {s₀ : State} (c : Nat) (s : State) (hk : Keeps s₀ s) :
    Keeps s₀ (dmaBad c s) := by
  unfold dmaBad
  (try dsimp only)
  repeat' with_reducible first | assumption | apply State.setCh_keeps | split | refine keeps_mk ?_ rfl rfl | trivial

theorem sramBad_keeps {s₀ : State} (cls : Nat) (item : Nat) (addr : Nat) (syndrome : Nat) (s : State) (hk : Keeps s₀ s) :
    Keeps s₀ (sramBad cls item addr syndrome s) := by
  unfold sramBad
  (try dsimp only)
  repeat' with_reducible first
    | assumption | apply streamRemove_keeps | apply streamRebind_keeps | apply constBad_keeps | apply indexBad_keeps | apply tableBad_keeps
    | apply lockout_keeps | apply engineOffline_keeps | apply abortItem_keeps | apply awaitRetry_keeps | apply engineAbort_keeps
    | apply State.setEngine_keeps | apply schedBad_keeps | apply dmaBad_keeps | apply rqBad_keeps | apply txBad_keeps | split
    | refine keeps_mk ?_ rfl rfl | trivial

theorem sramScrub_keeps {s₀ : State} (cls : Nat) (item : Nat) (addr : Nat) (stored : BitVec 39) (functionalWrite : Bool) (s : State) (hk : Keeps s₀ s) :
    Keeps s₀ (sramScrub cls item addr stored functionalWrite s) := by
  unfold sramScrub
  (try dsimp only)
  repeat' with_reducible first
    | assumption | apply countError_keeps | apply wordWritten_keeps | apply sramBad_keeps | split | refine keeps_mk ?_ rfl rfl | trivial

theorem timeLost_keeps {s₀ : State} (s : State) (hk : Keeps s₀ s) :
    Keeps s₀ (timeLost s) := by
  unfold timeLost
  (try dsimp only)
  repeat' with_reducible first
    | assumption | apply noteServo_keeps | apply reselect_keeps | apply stepActs_keeps | split | refine keeps_mk ?_ rfl rfl | trivial

theorem reserveItemLost_keeps {s₀ : State} (item : ReserveItem) (s : State) (hk : Keeps s₀ s) :
    Keeps s₀ (reserveItemLost item s) := by
  unfold reserveItemLost
  (try dsimp only)
  repeat' with_reducible first
    | assumption | apply timeLost_keeps | apply corruptAccum_keeps | apply State.draw_keeps | apply reserveIncrement_keeps | split
    | refine keeps_mk ?_ rfl rfl | trivial

theorem reserveScrub_keeps {s₀ : State} (item : ReserveItem) (stored : BitVec 39) (s : State) (hk : Keeps s₀ s) :
    Keeps s₀ (reserveScrub item stored s) := by
  unfold reserveScrub
  (try dsimp only)
  repeat' with_reducible first
    | assumption | apply countError_keeps | apply wordWritten_keeps | apply reserveItemLost_keeps | split | refine keeps_mk ?_ rfl rfl | trivial

theorem storeBad_keeps {s₀ : State} (off : Nat) (s : State) (hk : Keeps s₀ s) :
    Keeps s₀ (storeBad off s) := by
  unfold storeBad
  (try dsimp only)
  repeat' with_reducible first | assumption | apply modArea_keeps | split | refine keeps_mk ?_ rfl rfl | trivial

theorem dramBad_keeps {s₀ : State} (addr : Nat) (s : State) (hk : Keeps s₀ s) :
    Keeps s₀ (dramBad addr s) := by
  unfold dramBad
  (try dsimp only)
  repeat' with_reducible first | assumption | apply storeBad_keeps | apply resetTcp_keeps | split | refine keeps_mk ?_ rfl rfl | trivial

theorem patrolRead_keeps {s₀ : State} (ch : Nat) (addr : Nat) (data : Word32) (check : BitVec 8) (s : State) (hk : Keeps s₀ s) :
    Keeps s₀ (patrolRead ch addr data check s) := by
  unfold patrolRead
  (try dsimp only)
  repeat' with_reducible first
    | assumption | apply countError_keeps | apply queueWriteBack_keeps | apply dramBad_keeps | split | refine keeps_mk ?_ rfl rfl | trivial

theorem dramWriteback_keeps {s₀ : State} (ch : Nat) (s : State) (hk : Keeps s₀ s) :
    Keeps s₀ (dramWriteback ch s) := by
  unfold dramWriteback
  (try dsimp only)
  repeat' with_reducible first | assumption | split | refine keeps_mk ?_ rfl rfl | trivial

theorem clockFault_keeps {s₀ : State} (d : ClockDomain) (s : State) (hk : Keeps s₀ s) :
    Keeps s₀ (clockFault d s) := by
  unfold clockFault
  (try dsimp only)
  repeat' with_reducible first
    | assumption | apply addLog_keeps | apply pcieOff_keeps | apply mgmtDown_keeps | apply framingLoss_keeps | apply lockout_keeps | split
    | refine keeps_mk ?_ rfl rfl | trivial

theorem tempSample_keeps {s₀ : State} (sensors : List Int) (s : State) (hk : Keeps s₀ s) :
    Keeps s₀ (tempSample sensors s) := by
  unfold tempSample
  extract_lets tj limit warn hot scorch src s1 s2 overdue
  have h1 : Keeps s₀ s1 := keeps_mk hk rfl rfl
  clear_value s1
  have h2 : Keeps s₀ s2 := by
    dsimp only [s2]
    split
    · exact h1
    · exact raiseCause_keeps _ _ h1
  clear_value s2 overdue
  split
  · exact lockout_keeps _ _ _ _ h2
  · exact h2

theorem almReadback_keeps {s₀ : State} (pin : Nat) (high : Bool) (s : State) (hk : Keeps s₀ s) :
    Keeps s₀ (almReadback pin high s) := by
  unfold almReadback
  (try dsimp only)
  repeat' with_reducible first | assumption | apply addLog_keeps | split | refine keeps_mk ?_ rfl rfl | trivial

theorem autoLeave_keeps {s₀ : State} (s : State) (hk : Keeps s₀ s) :
    Keeps s₀ (autoLeave s) := by
  unfold autoLeave
  (try dsimp only)
  repeat' with_reducible first | assumption | apply resetEdge_keeps | split | refine keeps_mk ?_ rfl rfl | trivial

/-! ### Reads.lean -/

theorem touch_keeps {s₀ : State} (cls : Nat) (p : Nat → Nat → Bool) (s : State) (hk : Keeps s₀ s) :
    Keeps s₀ (touch cls p s) := by
  unfold touch
  (try dsimp only)
  repeat' with_reducible first
    | assumption | refine keeps_foldl (fun _ _ _ => ?_) ?_ | apply sramBad_keeps | apply readWords_keeps | split | refine keeps_mk ?_ rfl rfl
    | trivial

theorem touchEntry_keeps {s₀ : State} (cls : Nat) (p : Nat → Nat → Bool) (s : State) (hk : Keeps s₀ s) :
    Keeps s₀ (touchEntry cls p s) := by
  unfold touchEntry
  (try dsimp only)
  repeat' with_reducible first | assumption | apply writeWords_keeps | apply touch_keeps | split | refine keeps_mk ?_ rfl rfl | trivial

theorem touchDram_keeps {s₀ : State} (addr : Nat) (n : Nat) (s : State) (hk : Keeps s₀ s) :
    Keeps s₀ (touchDram addr n s) := by
  unfold touchDram
  (try dsimp only)
  repeat' with_reducible first
    | assumption | refine keeps_foldl (fun _ _ _ => ?_) ?_ | apply dramBad_keeps | apply dramRead_keeps | split | refine keeps_mk ?_ rfl rfl | trivial

theorem bindChecked_keeps {s₀ : State} (lane : Nat) (s : State) (hk : Keeps s₀ s) :
    Keeps s₀ (bindChecked lane s) := by
  unfold bindChecked
  (try dsimp only)
  repeat' with_reducible first
    | assumption | apply streamFrameBind_keeps | apply touch_keeps | apply countStream_keeps | split | refine keeps_mk ?_ rfl rfl | trivial

theorem insertionRead_keeps {s₀ : State} (s : State) (hk : Keeps s₀ s) :
    Keeps s₀ (insertionRead s) := by
  unfold insertionRead
  (try dsimp only)
  repeat' with_reducible first | assumption | apply touch_keeps | split | refine keeps_mk ?_ rfl rfl | trivial

theorem closeRead_keeps {s₀ : State} (z : Nat) (s : State) (hk : Keeps s₀ s) :
    Keeps s₀ (closeRead z s) := by
  unfold closeRead
  (try dsimp only)
  repeat' with_reducible first | assumption | apply touch_keeps | split | refine keeps_mk ?_ rfl rfl | trivial

theorem stagingWrite_keeps {s₀ : State} (z : Nat) (s : State) (hk : Keeps s₀ s) :
    Keeps s₀ (stagingWrite z s) := by
  unfold stagingWrite
  (try dsimp only)
  repeat' with_reducible first | assumption | apply writeWords_keeps | split | refine keeps_mk ?_ rfl rfl | trivial

theorem storeRead_keeps {s₀ : State} (z : Nat) (tick : Nat) (s : State) (hk : Keeps s₀ s) :
    Keeps s₀ (storeRead z tick s) := by
  unfold storeRead
  (try dsimp only)
  repeat' with_reducible first | assumption | apply touchDram_keeps | split | refine keeps_mk ?_ rfl rfl | trivial

theorem stagingRead_keeps {s₀ : State} (z : Nat) (s : State) (hk : Keeps s₀ s) :
    Keeps s₀ (stagingRead z s) := by
  unfold stagingRead
  (try dsimp only)
  repeat' with_reducible first | assumption | apply storeRead_keeps | split | refine keeps_mk ?_ rfl rfl | trivial

theorem restagingRead_keeps {s₀ : State} (s : State) (hk : Keeps s₀ s) :
    Keeps s₀ (restagingRead s) := by
  unfold restagingRead
  (try dsimp only)
  repeat' with_reducible first | assumption | apply storeRead_keeps | split | refine keeps_mk ?_ rfl rfl | trivial

theorem assemblyWrite_keeps {s₀ : State} (s : State) (hk : Keeps s₀ s) :
    Keeps s₀ (assemblyWrite s) := by
  unfold assemblyWrite
  (try dsimp only)
  repeat' with_reducible first | assumption | apply writeWords_keeps | split | refine keeps_mk ?_ rfl rfl | trivial

theorem constRead_keeps {s₀ : State} (z : Nat) (tick : Nat) (s : State) (hk : Keeps s₀ s) :
    Keeps s₀ (constRead z tick s) := by
  unfold constRead
  (try dsimp only)
  repeat' with_reducible first | assumption | apply touch_keeps | split | refine keeps_mk ?_ rfl rfl | trivial

theorem cohRead_keeps {s₀ : State} (s : State) (hk : Keeps s₀ s) :
    Keeps s₀ (cohRead s) := by
  unfold cohRead
  (try dsimp only)
  repeat' with_reducible first | assumption | apply touch_keeps | apply constRead_keeps | split | refine keeps_mk ?_ rfl rfl | trivial

theorem bandRead_keeps {s₀ : State} (s : State) (hk : Keeps s₀ s) :
    Keeps s₀ (bandRead s) := by
  unfold bandRead
  (try dsimp only)
  repeat' with_reducible first | assumption | apply touch_keeps | apply constRead_keeps | split | refine keeps_mk ?_ rfl rfl | trivial

theorem sampleRead_keeps {s₀ : State} (c : Nat) (s : State) (hk : Keeps s₀ s) :
    Keeps s₀ (sampleRead c s) := by
  unfold sampleRead
  (try dsimp only)
  repeat' with_reducible first | assumption | apply touch_keeps | split | refine keeps_mk ?_ rfl rfl | trivial

theorem dispatchRead_keeps {s₀ : State} (s : State) (hk : Keeps s₀ s) :
    Keeps s₀ (dispatchRead s) := by
  unfold dispatchRead
  (try dsimp only)
  repeat' with_reducible first | assumption | apply touchEntry_keeps | split | refine keeps_mk ?_ rfl rfl | trivial

theorem robRead_keeps {s₀ : State} (p : Nat → RobEntry → Bool) (s : State) (hk : Keeps s₀ s) :
    Keeps s₀ (robRead p s) := by
  unfold robRead
  (try dsimp only)
  repeat' with_reducible first | assumption | apply touchEntry_keeps | split | refine keeps_mk ?_ rfl rfl | trivial

theorem arrivalRead_keeps {s₀ : State} (e : Nat) (s : State) (hk : Keeps s₀ s) :
    Keeps s₀ (arrivalRead e s) := by
  unfold arrivalRead
  (try dsimp only)
  repeat' with_reducible first
    | assumption | refine keeps_foldl (fun _ _ _ => ?_) ?_ | apply touch_keeps | apply writeWords_keeps | apply touchDram_keeps
    | apply constRead_keeps | split | refine keeps_mk ?_ rfl rfl | trivial

theorem releaseRead_keeps {s₀ : State} (e : Nat) (s : State) (hk : Keeps s₀ s) :
    Keeps s₀ (releaseRead e s) := by
  unfold releaseRead
  (try dsimp only)
  repeat' with_reducible first | assumption | apply touch_keeps | apply touchEntry_keeps | split | refine keeps_mk ?_ rfl rfl | trivial

theorem chunkRead_keeps {s₀ : State} (s : State) (hk : Keeps s₀ s) :
    Keeps s₀ (chunkRead s) := by
  unfold chunkRead
  (try dsimp only)
  repeat' with_reducible first | assumption | apply touch_keeps | split | refine keeps_mk ?_ rfl rfl | trivial

theorem lineRead_keeps {s₀ : State} (q : Nat) (s : State) (hk : Keeps s₀ s) :
    Keeps s₀ (lineRead q s) := by
  unfold lineRead
  (try dsimp only)
  repeat' with_reducible first | assumption | apply touchEntry_keeps | split | refine keeps_mk ?_ rfl rfl | trivial

theorem packRead_keeps {s₀ : State} (q : Nat) (s : State) (hk : Keeps s₀ s) :
    Keeps s₀ (packRead q s) := by
  unfold packRead
  (try dsimp only)
  repeat' with_reducible first | assumption | apply touchEntry_keeps | split | refine keeps_mk ?_ rfl rfl | trivial

theorem txStartRead_keeps {s₀ : State} (p : Nat) (express : Bool) (s : State) (hk : Keeps s₀ s) :
    Keeps s₀ (txStartRead p express s) := by
  unfold txStartRead
  (try dsimp only)
  repeat' with_reducible first | assumption | apply touchEntry_keeps | split | refine keeps_mk ?_ rfl rfl | trivial

theorem txDoneRead_keeps {s₀ : State} (p : Nat) (express : Bool) (s : State) (hk : Keeps s₀ s) :
    Keeps s₀ (txDoneRead p express s) := by
  unfold txDoneRead
  (try dsimp only)
  repeat' with_reducible first | assumption | apply touchEntry_keeps | split | refine keeps_mk ?_ rfl rfl | trivial

theorem formRead_keeps {s₀ : State} (s : State) (hk : Keeps s₀ s) :
    Keeps s₀ (formRead s) := by
  unfold formRead
  (try dsimp only)
  repeat' with_reducible first
    | assumption | refine keeps_foldl (fun _ _ _ => ?_) ?_ | apply constRead_keeps | apply touchDram_keeps | apply touchEntry_keeps | split
    | refine keeps_mk ?_ rfl rfl | trivial

theorem sendBufRead_keeps {s₀ : State} (n : Nat) (s : State) (hk : Keeps s₀ s) :
    Keeps s₀ (sendBufRead n s) := by
  unfold sendBufRead
  (try dsimp only)
  repeat' with_reducible first | assumption | apply touchDram_keeps | split | refine keeps_mk ?_ rfl rfl | trivial

/-! ### Boot.lean -/

theorem mainRailsGood_keeps {s₀ : State} (s : State) (hk : Keeps s₀ s) :
    Keeps s₀ (mainRailsGood s) := by
  unfold mainRailsGood
  (try dsimp only)
  repeat' with_reducible first | assumption | apply resetEdge_keeps | split | refine keeps_mk ?_ rfl rfl | trivial

theorem resetNAssert_keeps {s₀ : State} (s : State) (hk : Keeps s₀ s) :
    Keeps s₀ (resetNAssert s) := by
  unfold resetNAssert
  (try dsimp only)
  repeat' with_reducible first | assumption | apply resetEdge_keeps | split | refine keeps_mk ?_ rfl rfl | trivial

theorem setBank_keeps {s₀ : State} (n : Nat) (b : Bank) (s : State) (hk : Keeps s₀ s) :
    Keeps s₀ (setBank n b s) := by
  unfold setBank
  (try dsimp only)
  repeat' with_reducible first | assumption | split | refine keeps_mk ?_ rfl rfl | trivial

theorem failBank_keeps {s₀ : State} (n : Nat) (reason : Nat) (s : State) (hk : Keeps s₀ s) :
    Keeps s₀ (failBank n reason s) := by
  unfold failBank
  (try dsimp only)
  repeat' with_reducible first | assumption | apply updEvent_keeps | apply setBank_keeps | split | refine keeps_mk ?_ rfl rfl | trivial

theorem tryBank_keeps {s₀ : State} (n : Nat) (s : State) (hk : Keeps s₀ s) :
    Keeps s₀ (tryBank n s).2 := by
  unfold tryBank
  (try dsimp only)
  repeat' with_reducible first
    | assumption | apply updEvent_keeps | apply setBank_keeps | apply failBank_keeps | split | refine keeps_mk ?_ rfl rfl | trivial

theorem tryBanks_keeps {s₀ : State} (ns : List Nat) (s : State) (hk : Keeps s₀ s) : Keeps s₀ (tryBanks ns s).2 := by
  induction ns generalizing s with
  | nil => exact hk
  | cons n ns ih =>
    rw [tryBanks]
    split
    · exact tryBank_keeps n s hk
    · exact ih _ (tryBank_keeps n s hk)

theorem awaitImages_keeps {s₀ : State} (s : State) (hk : Keeps s₀ s) :
    Keeps s₀ (awaitImages s) := by
  unfold awaitImages
  (try dsimp only)
  repeat' with_reducible first | assumption | split | refine keeps_mk ?_ rfl rfl | trivial

theorem pickBank_keeps {s₀ : State} (s : State) (hk : Keeps s₀ s) :
    Keeps s₀ (pickBank s) := by
  unfold pickBank
  (try dsimp only)
  repeat' with_reducible first
    | assumption | refine keeps_foldl (fun _ _ _ => ?_) ?_ | apply awaitImages_keeps | apply failBank_keeps | apply tryBanks_keeps | split
    | refine keeps_mk ?_ rfl rfl | trivial

theorem eraseSettings_keeps {s₀ : State} (s : State) (hk : Keeps s₀ s) :
    Keeps s₀ (eraseSettings s) := by
  unfold eraseSettings
  (try dsimp only)
  repeat' with_reducible first | assumption | split | refine keeps_mk ?_ rfl rfl | trivial

theorem eraseJournal_keeps {s₀ : State} (s : State) (hk : Keeps s₀ s) :
    Keeps s₀ (eraseJournal s) := by
  unfold eraseJournal
  (try dsimp only)
  repeat' with_reducible first | assumption | split | refine keeps_mk ?_ rfl rfl | trivial

theorem readReserve_keeps {s₀ : State} (s : State) (hk : Keeps s₀ s) :
    Keeps s₀ (readReserve s) := by
  unfold readReserve
  (try dsimp only)
  repeat' with_reducible first
    | assumption | refine keeps_foldl (fun _ _ _ => ?_) ?_ | apply reserveItemLost_keeps | split | refine keeps_mk ?_ rfl rfl | trivial

theorem readOtp_keeps {s₀ : State} (s : State) (hk : Keeps s₀ s) :
    Keeps s₀ (readOtp s) := by
  unfold readOtp
  (try dsimp only)
  repeat' with_reducible first
    | assumption | refine keeps_foldl (fun _ _ _ => ?_) ?_ | apply latchRoot_keeps | apply countError_keeps | split | refine keeps_mk ?_ rfl rfl
    | trivial

theorem unpower_keeps {s₀ : State} (s : State) (hk : Keeps s₀ s) :
    Keeps s₀ (unpower s) := by
  unfold unpower
  (try dsimp only)
  repeat' with_reducible first | assumption | apply wipe_keeps | split | refine keeps_mk ?_ rfl rfl | trivial

theorem mainSupplyLoss_keeps {s₀ : State} (vresOk : Bool) (s : State) (hk : Keeps s₀ s) :
    Keeps s₀ (mainSupplyLoss vresOk s) := by
  unfold mainSupplyLoss
  (try dsimp only)
  repeat' with_reducible first
    | assumption | apply wipe_keeps | apply energyStop_keeps | apply unpower_keeps | split | refine keeps_mk ?_ rfl rfl | trivial

theorem handoffDone_keeps {s₀ : State} (short : Bool) (s : State) (hk : Keeps s₀ s) :
    Keeps s₀ (handoffDone short s) := by
  unfold handoffDone
  (try dsimp only)
  repeat' with_reducible first | assumption | apply energyReserve_keeps | apply frontReserve_keeps | split | refine keeps_mk ?_ rfl rfl | trivial

theorem dormantWake_keeps {s₀ : State} (input : Option Nat) (s : State) (hk : Keeps s₀ s) :
    Keeps s₀ (dormantWake input s) := by
  unfold dormantWake
  (try dsimp only)
  repeat' with_reducible first | assumption | apply requestActive_keeps | apply changeMode_keeps | split | refine keeps_mk ?_ rfl rfl | trivial

end Sys2Proof.Machine
end

