-- ==== Sys2Proof/Laws/Memory.lean ====
section
/-! SUPPORT. The laws of the two sparse stores: the host window (`memWf`, `memSet`, `memWrite`, `memRead`) and the
keyed tables (`tabWf`, `tabSet`). -/

namespace Sys2Proof.Machine

@[simp] theorem memWf_nil : memWf [] = true := rfl

/-- The canonical form of a listed byte and the rest. -/
theorem memWf_cons (j : Nat) (b : Byte) (t : List Host.Cell) :
    memWf ((j, b) :: t) = true ↔ b ≠ 0 ∧ memWf t = true ∧ ∀ c ∈ t, j < c.1 := by
  induction t generalizing j b with
  | nil => simp [memWf]
  | cons c t ih =>
    obtain ⟨k, e⟩ := c
    have h := ih k e
    simp only [memWf, Bool.and_eq_true, decide_eq_true_eq, bne_iff_ne, List.mem_cons, forall_eq_or_imp]
    constructor
    · rintro ⟨⟨h1, h2⟩, h3⟩
      exact ⟨h1, h3, h2, fun c hc => Nat.lt_trans h2 ((h.1 h3).2.2 c hc)⟩
    · rintro ⟨h1, h3, h2, _⟩
      exact ⟨⟨h1, h2⟩, h3⟩

/-- What a byte write lists: its own cell or one listed before. -/
theorem mem_memSet (m : List Host.Cell) (a : Nat) (b : Byte) (c : Host.Cell) (h : c ∈ memSet m a b) : c = (a, b) ∨ c ∈ m := by
  induction m with
  | nil => unfold memSet at h; split at h <;> simp_all
  | cons x t ih =>
    obtain ⟨j, d⟩ := x
    unfold memSet at h
    repeat' split at h
    all_goals simp_all
    all_goals tauto

/-- A write of one byte keeps the canonical form. -/
theorem memSet_wf (m : List Host.Cell) (a : Nat) (b : Byte) (h : memWf m = true) : memWf (memSet m a b) = true := by
  induction m with
  | nil => unfold memSet; split <;> simp_all [memWf]
  | cons x t ih =>
    obtain ⟨j, d⟩ := x
    obtain ⟨h1, h2, h3⟩ := (memWf_cons j d t).1 h
    unfold memSet
    split
    · rename_i hlt
      split
      · exact h
      · refine (memWf_cons _ _ _).2 ⟨‹_›, h, ?_⟩
        intro c hc
        rcases List.mem_cons.1 hc with rfl | hc
        · exact hlt
        · exact Nat.lt_trans hlt (h3 c hc)
    · split
      · rename_i hn he
        subst he
        split
        · exact h2
        · exact (memWf_cons _ _ _).2 ⟨‹_›, h2, h3⟩
      · refine (memWf_cons _ _ _).2 ⟨h1, ih h2, ?_⟩
        intro c hc
        rcases mem_memSet t a b c hc with rfl | hc
        · simp only; omega
        · exact h3 c hc

/-- A write of any number of bytes keeps the canonical form. -/
theorem memWrite_wf (m : List Host.Cell) (a : Nat) (bs : List Byte) (h : memWf m = true) : memWf (memWrite m a bs) = true := by
  induction bs generalizing m a with
  | nil => exact h
  | cons b bs ih => exact ih _ _ (memSet_wf m a b h)

/-- An offset below every listed one reads 0. -/
theorem memByte_of_lt (m : List Host.Cell) (x : Nat) (h : ∀ c ∈ m, x < c.1) : memByte m x = 0 := by
  induction m with
  | nil => rfl
  | cons c t ih =>
    obtain ⟨j, d⟩ := c
    have hj : x < j := h (j, d) (by simp)
    simp only [memByte, show ¬ j = x by omega, if_false]
    exact ih fun c hc => h c (by simp [hc])

/-- Read after a write of one byte: the byte written there, every other byte as before. -/
theorem memByte_memSet (m : List Host.Cell) (a : Nat) (b : Byte) (x : Nat) (h : memWf m = true) :
    memByte (memSet m a b) x = if x = a then b else memByte m x := by
  induction m with
  | nil =>
    simp only [memSet]
    split <;> split <;> simp_all [memByte]
    intro hx; exact absurd hx.symm ‹_›
  | cons c t ih =>
    obtain ⟨j, d⟩ := c
    obtain ⟨h1, h2, h3⟩ := (memWf_cons j d t).1 h
    have hz : ∀ y, y ≤ j → memByte t y = 0 := fun y hy => memByte_of_lt t y fun c hc => Nat.lt_of_le_of_lt hy (h3 c hc)
    unfold memSet
    split
    · rename_i hlt
      by_cases hx : x = a
      · subst hx
        have := hz x (by omega)
        split <;> simp_all [memByte]
        omega
      · split <;> simp_all [memByte]
        intro hxa; exact absurd hxa.symm hx
    · split
      · rename_i hn he
        subst he
        by_cases hx : x = j
        · subst hx
          have := hz x (by omega)
          split <;> simp_all [memByte]
        · have : ¬ j = x := fun e => hx e.symm
          split <;> simp_all [memByte]
      · rename_i hn he
        simp only [memByte, ih h2]
        by_cases hj : j = x
        · subst hj; simp [he]
        · simp [hj]

/-- Read after a write of bytes from `a` on. -/
theorem memByte_memWrite (m : List Host.Cell) (a : Nat) (bs : List Byte) (x : Nat) (h : memWf m = true) :
    memByte (memWrite m a bs) x = if a ≤ x ∧ x < a + bs.length then bs[x - a]?.getD 0 else memByte m x := by
  induction bs generalizing m a with
  | nil =>
    have : ¬ (a ≤ x ∧ x < a + ([] : List Byte).length) := by simp
    rw [memWrite, if_neg this]
  | cons b bs ih =>
    rw [memWrite, ih _ _ (memSet_wf m a b h), memByte_memSet m a b x h]
    by_cases hx : x = a
    · subst hx; simp
    · by_cases h1 : a + 1 ≤ x ∧ x < a + 1 + bs.length
      · have h2 : a ≤ x ∧ x < a + (b :: bs).length := by simp; omega
        have h3 : x - a = (x - (a + 1)) + 1 := by omega
        rw [if_pos h1, if_pos h2, h3, List.getElem?_cons_succ]
      · have h2 : ¬ (a ≤ x ∧ x < a + (b :: bs).length) := by simp; omega
        simp only [h1, h2, hx, if_false]

/-- A table's canonical form: keys strictly rising. -/
theorem tabWf_cons {α : Type} (j : Nat) (v : α) (t : Tab α) : tabWf ((j, v) :: t) = true ↔ tabWf t = true ∧ ∀ c ∈ t, j < c.1 := by
  induction t generalizing j v with
  | nil => simp [tabWf]
  | cons c t ih =>
    obtain ⟨k, e⟩ := c
    have h := ih k e
    simp only [tabWf, Bool.and_eq_true, decide_eq_true_eq, List.mem_cons, forall_eq_or_imp]
    constructor
    · rintro ⟨h2, h3⟩
      exact ⟨h3, h2, fun c hc => Nat.lt_trans h2 ((h.1 h3).2 c hc)⟩
    · rintro ⟨h3, h2, _⟩
      exact ⟨h2, h3⟩

/-- What an entry's write lists. -/
theorem mem_tabSet {α : Type} (k : Nat) (v : α) (t : Tab α) (c : Nat × α) (h : c ∈ tabSet k v t) : c = (k, v) ∨ c ∈ t := by
  induction t with
  | nil => simp_all [tabSet]
  | cons x t ih =>
    obtain ⟨j, d⟩ := x
    unfold tabSet at h
    repeat' split at h
    all_goals simp_all
    all_goals tauto

/-- A write of an entry keeps the keys rising. -/
theorem tabSet_wf {α : Type} (k : Nat) (v : α) (t : Tab α) (h : tabWf t = true) : tabWf (tabSet k v t) = true := by
  induction t with
  | nil => rfl
  | cons x t ih =>
    obtain ⟨j, d⟩ := x
    obtain ⟨h2, h3⟩ := (tabWf_cons j d t).1 h
    unfold tabSet
    repeat' split
    · rename_i hlt
      refine (tabWf_cons _ _ _).2 ⟨h, fun c hc => ?_⟩
      rcases List.mem_cons.1 hc with rfl | hc
      · exact hlt
      · exact Nat.lt_trans hlt (h3 c hc)
    · rename_i he
      subst he
      exact (tabWf_cons _ _ _).2 ⟨h2, h3⟩
    · refine (tabWf_cons _ _ _).2 ⟨ih h2, fun c hc => ?_⟩
      rcases mem_tabSet k v t c hc with rfl | hc
      · simp only; omega
      · exact h3 c hc

/-- Read after a write of an entry. -/
theorem tabGet?_tabSet {α : Type} (k : Nat) (v : α) (t : Tab α) (x : Nat) :
    tabGet? x (tabSet k v t) = if x = k then some v else tabGet? x t := by
  induction t with
  | nil =>
    by_cases h : x = k
    · subst h; simp [tabSet, tabGet?]
    · simp [tabSet, tabGet?, h, Ne.symm h]
  | cons c t ih =>
    obtain ⟨j, d⟩ := c
    by_cases h : x = k
    · subst h
      unfold tabSet
      repeat' split
      all_goals simp_all [tabGet?]
    · have h' : ¬ k = x := fun e => h e.symm
      unfold tabSet
      repeat' split
      all_goals simp_all [tabGet?]

end Sys2Proof.Machine
end

