-- ==== Sys2Proof/Laws/KeepsCmd.lean ====
section
/-! SUPPORT. `f_keeps` for the last commands, the list of all commands and the end of BOOT. -/

namespace Sys2Proof.Machine

/-! ### FrontCmd.lean -/

theorem setPreset_keeps {s₀ : State} (preset : Nat) (min : Bool) (fnom50 : Bool) (s : State) (hk : Keeps s₀ s) :
    Keeps s₀ (setPreset preset min fnom50 s) := by
  unfold setPreset
  (try dsimp only)
  repeat' with_reducible first | assumption | apply refreshSessions_keeps | split | refine keeps_mk ?_ rfl rfl | trivial

theorem cmdFeSetPreset_keeps : cmdFeSetPreset.Keeps := by
  intro s₀ s ifc p hk
  unfold cmdFeSetPreset
  dsimp only
  repeat' with_reducible first
    | assumption | apply setPreset_keeps | refine keeps_ok ?_ | refine keeps_fail ?_ | refine keeps_long ?_ | exact keeps_bad | exact keeps_err
    | split | refine keeps_mk ?_ rfl rfl | trivial

theorem absentChan_keeps {s₀ : State} (c : Nat) (s : State) (hk : Keeps s₀ s) :
    Keeps s₀ (absentChan c s) := by
  unfold absentChan
  (try dsimp only)
  repeat' with_reducible first | assumption | apply State.setChan_keeps | split | refine keeps_mk ?_ rfl rfl | trivial

theorem setSampling_keeps {s₀ : State} (i : Nat) (b : Nat) (s : State) (hk : Keeps s₀ s) :
    Keeps s₀ (setSampling i b s) := by
  unfold setSampling
  (try dsimp only)
  repeat' with_reducible first | assumption | apply absentChan_keeps | apply State.setInput_keeps | split | refine keeps_mk ?_ rfl rfl | trivial

theorem cmdFeSetSampling_keeps : cmdFeSetSampling.Keeps := by
  intro s₀ s ifc p hk
  unfold cmdFeSetSampling
  dsimp only
  repeat' with_reducible first
    | assumption | refine keeps_foldl (fun _ _ _ => ?_) ?_ | apply setSampling_keeps | refine keeps_ok ?_ | refine keeps_fail ?_
    | refine keeps_long ?_ | exact keeps_bad | exact keeps_err | split | refine keeps_mk ?_ rfl rfl | trivial

theorem cmdFeSetCal_keeps : cmdFeSetCal.Keeps := by
  intro s₀ s ifc p hk
  unfold cmdFeSetCal
  dsimp only
  repeat' with_reducible first
    | assumption | apply tableWritten_keeps | apply State.setInput_keeps | refine keeps_ok ?_ | refine keeps_fail ?_ | refine keeps_long ?_
    | exact keeps_bad | exact keeps_err | split | refine keeps_mk ?_ rfl rfl | trivial

theorem cmdFeSetRange_keeps : cmdFeSetRange.Keeps := by
  intro s₀ s ifc p hk
  unfold cmdFeSetRange
  dsimp only
  repeat' with_reducible first
    | assumption | apply State.setRange_keeps | refine keeps_ok ?_ | refine keeps_fail ?_ | refine keeps_long ?_ | exact keeps_bad | exact keeps_err
    | split | refine keeps_mk ?_ rfl rfl | trivial

theorem cmdFeSetDetectors_keeps : cmdFeSetDetectors.Keeps := by
  intro s₀ s ifc p hk
  unfold cmdFeSetDetectors
  dsimp only
  repeat' with_reducible first
    | assumption | apply State.setChan_keeps | refine keeps_ok ?_ | refine keeps_fail ?_ | refine keeps_long ?_ | exact keeps_bad | exact keeps_err
    | split | refine keeps_mk ?_ rfl rfl | trivial

theorem cmdFeSetLocalStream_keeps : cmdFeSetLocalStream.Keeps := by
  intro s₀ s ifc p hk
  unfold cmdFeSetLocalStream
  dsimp only
  repeat' with_reducible first
    | assumption | apply refreshSessions_keeps | refine keeps_ok ?_ | refine keeps_fail ?_ | refine keeps_long ?_ | exact keeps_bad | exact keeps_err
    | split | refine keeps_mk ?_ rfl rfl | trivial

theorem cmdFeGetStatus_keeps : cmdFeGetStatus.Keeps := by
  intro s₀ s ifc p hk
  unfold cmdFeGetStatus
  dsimp only
  repeat' with_reducible first
    | assumption | refine keeps_ok ?_ | refine keeps_fail ?_ | refine keeps_long ?_ | exact keeps_bad | exact keeps_err | split
    | refine keeps_mk ?_ rfl rfl | trivial

theorem cmdFeGetDetectors_keeps : cmdFeGetDetectors.Keeps := by
  intro s₀ s ifc p hk
  unfold cmdFeGetDetectors
  dsimp only
  repeat' with_reducible first
    | assumption | refine keeps_ok ?_ | refine keeps_fail ?_ | refine keeps_long ?_ | exact keeps_bad | exact keeps_err | split
    | refine keeps_mk ?_ rfl rfl | trivial

theorem clearFront_keeps {s₀ : State} (s : State) (hk : Keeps s₀ s) :
    Keeps s₀ (clearFront s) := by
  unfold clearFront
  (try dsimp only)
  repeat' with_reducible first | assumption | split | refine keeps_mk ?_ rfl rfl | trivial

theorem cmdFeGetCounters_keeps : cmdFeGetCounters.Keeps := countersCmd_keeps fun _ s h => clearFront_keeps s h

theorem cmdFeGetLocalConfig_keeps : cmdFeGetLocalConfig.Keeps := by
  intro s₀ s ifc p hk
  unfold cmdFeGetLocalConfig
  dsimp only
  repeat' with_reducible first
    | assumption | refine keeps_ok ?_ | refine keeps_fail ?_ | refine keeps_long ?_ | exact keeps_bad | exact keeps_err | split
    | refine keeps_mk ?_ rfl rfl | trivial

/-! ### EnergyCmd.lean -/

theorem cmdEnergySetLine_keeps : cmdEnergySetLine.Keeps := by
  intro s₀ s ifc p hk
  unfold cmdEnergySetLine
  dsimp only
  repeat' with_reducible first
    | assumption | apply State.setLine_keeps | refine keeps_ok ?_ | refine keeps_fail ?_ | refine keeps_long ?_ | exact keeps_bad | exact keeps_err
    | split | refine keeps_mk ?_ rfl rfl | trivial

theorem cmdEnergySetInterval_keeps : cmdEnergySetInterval.Keeps := by
  intro s₀ s ifc p hk
  unfold cmdEnergySetInterval
  dsimp only
  repeat' with_reducible first
    | assumption | refine keeps_ok ?_ | refine keeps_fail ?_ | refine keeps_long ?_ | exact keeps_bad | exact keeps_err | split
    | refine keeps_mk ?_ rfl rfl | trivial

theorem cmdEnergySetReserve_keeps : cmdEnergySetReserve.Keeps := by
  intro s₀ s ifc p hk
  unfold cmdEnergySetReserve
  dsimp only
  repeat' with_reducible first
    | assumption | apply State.setLine_keeps | refine keeps_ok ?_ | refine keeps_fail ?_ | refine keeps_long ?_ | exact keeps_bad | exact keeps_err
    | split | refine keeps_mk ?_ rfl rfl | trivial

theorem cmdEnergyRead_keeps : cmdEnergyRead.Keeps := by
  intro s₀ s ifc p hk
  unfold cmdEnergyRead
  dsimp only
  repeat' with_reducible first
    | assumption | refine keeps_ok ?_ | refine keeps_fail ?_ | refine keeps_long ?_ | exact keeps_bad | exact keeps_err | split
    | refine keeps_mk ?_ rfl rfl | trivial

theorem cmdEnergyReadReserve_keeps : cmdEnergyReadReserve.Keeps := by
  intro s₀ s ifc p hk
  unfold cmdEnergyReadReserve
  dsimp only
  repeat' with_reducible first
    | assumption | apply State.setLine_keeps | refine keeps_ok ?_ | refine keeps_fail ?_ | refine keeps_long ?_ | exact keeps_bad | exact keeps_err
    | split | refine keeps_mk ?_ rfl rfl | trivial

theorem cmdEnergyReadSnapshot_keeps : cmdEnergyReadSnapshot.Keeps := by
  intro s₀ s ifc p hk
  unfold cmdEnergyReadSnapshot
  dsimp only
  repeat' with_reducible first
    | assumption | refine keeps_ok ?_ | refine keeps_fail ?_ | refine keeps_long ?_ | exact keeps_bad | exact keeps_err | split
    | refine keeps_mk ?_ rfl rfl | trivial

theorem cmdEnergyGetStatus_keeps : cmdEnergyGetStatus.Keeps := by
  intro s₀ s ifc p hk
  unfold cmdEnergyGetStatus
  dsimp only
  repeat' with_reducible first
    | assumption | refine keeps_ok ?_ | refine keeps_fail ?_ | refine keeps_long ?_ | exact keeps_bad | exact keeps_err | split
    | refine keeps_mk ?_ rfl rfl | trivial

theorem cmdEnergyReadEvents_keeps : cmdEnergyReadEvents.Keeps := by
  intro s₀ s ifc p hk
  unfold cmdEnergyReadEvents
  dsimp only
  repeat' with_reducible first
    | assumption | refine keeps_ok ?_ | refine keeps_fail ?_ | refine keeps_long ?_ | exact keeps_bad | exact keeps_err | split
    | refine keeps_mk ?_ rfl rfl | trivial

theorem cmdEnergyClear_keeps : cmdEnergyClear.Keeps := by
  intro s₀ s ifc p hk
  unfold cmdEnergyClear
  dsimp only
  repeat' with_reducible first
    | assumption | apply State.setLine_keeps | refine keeps_ok ?_ | refine keeps_fail ?_ | refine keeps_long ?_ | exact keeps_bad | exact keeps_err
    | split | refine keeps_mk ?_ rfl rfl | trivial

/-! ### PairCmd.lean -/

theorem cmdPairSet_keeps : cmdPairSet.Keeps := by
  intro s₀ s ifc p hk
  unfold cmdPairSet
  dsimp only
  repeat' with_reducible first
    | assumption | apply unpair_keeps | apply loseLink_keeps | refine keeps_ok ?_ | refine keeps_fail ?_ | refine keeps_long ?_ | exact keeps_bad
    | exact keeps_err | split | refine keeps_mk ?_ rfl rfl | trivial

theorem cmdPairGetStatus_keeps : cmdPairGetStatus.Keeps := by
  intro s₀ s ifc p hk
  unfold cmdPairGetStatus
  dsimp only
  repeat' with_reducible first
    | assumption | refine keeps_ok ?_ | refine keeps_fail ?_ | refine keeps_long ?_ | exact keeps_bad | exact keeps_err | split
    | refine keeps_mk ?_ rfl rfl | trivial

theorem cmdPairSetRevert_keeps : cmdPairSetRevert.Keeps := by
  intro s₀ s ifc p hk
  unfold cmdPairSetRevert
  dsimp only
  repeat' with_reducible first
    | assumption | apply noteHold_keeps | refine keeps_ok ?_ | refine keeps_fail ?_ | refine keeps_long ?_ | exact keeps_bad | exact keeps_err | split
    | refine keeps_mk ?_ rfl rfl | trivial

theorem cmdPairSwitchover_keeps : cmdPairSwitchover.Keeps := by
  intro s₀ s ifc p hk
  unfold cmdPairSwitchover
  dsimp only
  repeat' with_reducible first
    | assumption | apply grant_keeps | apply sendB_keeps | refine keeps_ok ?_ | refine keeps_fail ?_ | refine keeps_long ?_ | exact keeps_bad
    | exact keeps_err | split | refine keeps_mk ?_ rfl rfl | trivial

theorem cmdFedSet_keeps : cmdFedSet.Keeps := by
  intro s₀ s ifc p hk
  unfold cmdFedSet
  dsimp only
  repeat' with_reducible first
    | assumption | refine keeps_foldl (fun _ _ _ => ?_) ?_ | apply notePartner_keeps | apply loseLink_keeps | refine keeps_ok ?_
    | refine keeps_fail ?_ | refine keeps_long ?_ | exact keeps_bad | exact keeps_err | split | refine keeps_mk ?_ rfl rfl | trivial

theorem cmdFedGetStatus_keeps : cmdFedGetStatus.Keeps := by
  intro s₀ s ifc p hk
  unfold cmdFedGetStatus
  dsimp only
  repeat' with_reducible first
    | assumption | refine keeps_ok ?_ | refine keeps_fail ?_ | refine keeps_long ?_ | exact keeps_bad | exact keeps_err | split
    | refine keeps_mk ?_ rfl rfl | trivial

theorem clearPair_keeps {s₀ : State} (s : State) (hk : Keeps s₀ s) :
    Keeps s₀ (clearPair s) := by
  unfold clearPair
  (try dsimp only)
  repeat' with_reducible first | assumption | split | refine keeps_mk ?_ rfl rfl | trivial

theorem cmdPairGetCounters_keeps : cmdPairGetCounters.Keeps := countersCmd_keeps fun _ s h => clearPair_keeps s h

/-! ### IntegCmd.lean -/

theorem cmdIntegGetStatus_keeps : cmdIntegGetStatus.Keeps := by
  intro s₀ s ifc p hk
  unfold cmdIntegGetStatus
  dsimp only
  repeat' with_reducible first
    | assumption | refine keeps_ok ?_ | refine keeps_fail ?_ | refine keeps_long ?_ | exact keeps_bad | exact keeps_err | split
    | refine keeps_mk ?_ rfl rfl | trivial

theorem cmdIntegReadLog_keeps : cmdIntegReadLog.Keeps := by
  intro s₀ s ifc p hk
  unfold cmdIntegReadLog
  dsimp only
  repeat' with_reducible first
    | assumption | refine keeps_ok ?_ | refine keeps_fail ?_ | refine keeps_long ?_ | exact keeps_bad | exact keeps_err | split
    | refine keeps_mk ?_ rfl rfl | trivial

theorem cmdIntegSetPolicy_keeps : cmdIntegSetPolicy.Keeps := by
  intro s₀ s ifc p hk
  unfold cmdIntegSetPolicy
  dsimp only
  repeat' with_reducible first
    | assumption | apply autoLeave_keeps | refine keeps_ok ?_ | refine keeps_fail ?_ | refine keeps_long ?_ | exact keeps_bad | exact keeps_err
    | split | refine keeps_mk ?_ rfl rfl | trivial

theorem inject_keeps {s₀ : State} (cls : Nat) (index : Nat) (kind : Nat) (addr : Nat) (bit : Nat) (s : State) (hk : Keeps s₀ s) :
    Keeps s₀ (inject cls index kind addr bit s) := by
  unfold inject
  (try dsimp only)
  repeat' with_reducible first
    | assumption | apply lockstepMismatch_keeps | apply addLog_keeps | apply lockout_keeps | split | refine keeps_mk ?_ rfl rfl | trivial

theorem cmdIntegInject_keeps : cmdIntegInject.Keeps := by
  intro s₀ s ifc p hk
  unfold cmdIntegInject
  dsimp only
  repeat' with_reducible first
    | assumption | apply inject_keeps | refine keeps_ok ?_ | refine keeps_fail ?_ | refine keeps_long ?_ | exact keeps_bad | exact keeps_err | split
    | refine keeps_mk ?_ rfl rfl | trivial

theorem cmdIntegLeaveSafe_keeps : cmdIntegLeaveSafe.Keeps := by
  intro s₀ s ifc p hk
  unfold cmdIntegLeaveSafe
  dsimp only
  repeat' with_reducible first
    | assumption | refine keeps_ok ?_ | refine keeps_fail ?_ | refine keeps_long ?_ | exact keeps_bad | exact keeps_err | split
    | refine keeps_mk ?_ rfl rfl | trivial

theorem drawFields_keeps {s₀ : State} (k n : Nat) (s : State) (hk : Keeps s₀ s) : Keeps s₀ (drawFields k n s).2 := by
  induction n generalizing s with
  | zero => exact hk
  | succ n ih => exact ih _ (State.draw_keeps s hk)

theorem vclkError_keeps {s₀ : State} (s : State) (hk : Keeps s₀ s) :
    Keeps s₀ (vclkError s).2 := by
  unfold vclkError
  (try dsimp only)
  repeat' with_reducible first | assumption | apply State.draw_keeps | split | refine keeps_mk ?_ rfl rfl | trivial

theorem cmdDiagGetMonitors_keeps : cmdDiagGetMonitors.Keeps := by
  intro s₀ s ifc p hk
  unfold cmdDiagGetMonitors
  dsimp only
  repeat' with_reducible first
    | assumption | apply drawFields_keeps | apply vclkError_keeps | apply State.draw_keeps | refine keeps_ok ?_ | refine keeps_fail ?_
    | refine keeps_long ?_ | exact keeps_bad | exact keeps_err | split | refine keeps_mk ?_ rfl rfl | trivial

theorem clearInteg_keeps {s₀ : State} (s : State) (hk : Keeps s₀ s) :
    Keeps s₀ (clearInteg s) := by
  unfold clearInteg
  (try dsimp only)
  repeat' with_reducible first | assumption | split | refine keeps_mk ?_ rfl rfl | trivial

theorem cmdIntegGetCounters_keeps : cmdIntegGetCounters.Keeps := countersCmd_keeps fun _ s h => clearInteg_keeps s h

/-! ### HostCmd.lean -/

theorem cmdGetIdentity_keeps : cmdGetIdentity.Keeps := by
  intro s₀ s ifc p hk
  unfold cmdGetIdentity
  dsimp only
  repeat' with_reducible first
    | assumption | refine keeps_ok ?_ | refine keeps_fail ?_ | refine keeps_long ?_ | exact keeps_bad | exact keeps_err | split
    | refine keeps_mk ?_ rfl rfl | trivial

theorem journalEnds_keeps {s₀ : State} (s : State) (hk : Keeps s₀ s) :
    Keeps s₀ (journalEnds s).2.2 := by
  unfold journalEnds
  (try dsimp only)
  repeat' with_reducible first | assumption | apply State.draw_keeps | split | refine keeps_mk ?_ rfl rfl | trivial

theorem cmdSysJournalRead_keeps : cmdSysJournalRead.Keeps := by
  intro s₀ s ifc p hk
  unfold cmdSysJournalRead
  dsimp only
  repeat' with_reducible first
    | assumption | apply journalEnds_keeps | refine keeps_ok ?_ | refine keeps_fail ?_ | refine keeps_long ?_ | exact keeps_bad | exact keeps_err
    | split | refine keeps_mk ?_ rfl rfl | trivial

theorem cmdSysJournalRoute_keeps : cmdSysJournalRoute.Keeps := by
  intro s₀ s ifc p hk
  unfold cmdSysJournalRoute
  dsimp only
  repeat' with_reducible first
    | assumption | apply State.flushed_keeps | apply bindQueue_keeps | refine keeps_ok ?_ | refine keeps_fail ?_ | refine keeps_long ?_
    | exact keeps_bad | exact keeps_err | split | refine keeps_mk ?_ rfl rfl | trivial

theorem cmdSysIfReset_keeps : cmdSysIfReset.Keeps := by
  intro s₀ s ifc p hk
  unfold cmdSysIfReset
  dsimp only
  repeat' with_reducible first
    | assumption | apply ifReset_keeps | refine keeps_ok ?_ | refine keeps_fail ?_ | refine keeps_long ?_ | exact keeps_bad | exact keeps_err | split
    | refine keeps_mk ?_ rfl rfl | trivial

theorem cmdSysSetMgmt_keeps : cmdSysSetMgmt.Keeps := by
  intro s₀ s ifc p hk
  unfold cmdSysSetMgmt
  dsimp only
  repeat' with_reducible first
    | assumption | refine keeps_ok ?_ | refine keeps_fail ?_ | refine keeps_long ?_ | exact keeps_bad | exact keeps_err | split
    | refine keeps_mk ?_ rfl rfl | trivial

theorem clearHost_keeps {s₀ : State} (s : State) (hk : Keeps s₀ s) :
    Keeps s₀ (clearHost s) := by
  unfold clearHost
  (try dsimp only)
  repeat' with_reducible first | assumption | split | refine keeps_mk ?_ rfl rfl | trivial

theorem cmdSysGetCounters_keeps : cmdSysGetCounters.Keeps := countersCmd_keeps fun _ s h => clearHost_keeps s h

theorem cmdSysEcho_keeps : cmdSysEcho.Keeps := by
  intro s₀ s ifc p hk
  unfold cmdSysEcho
  dsimp only
  repeat' with_reducible first
    | assumption | refine keeps_ok ?_ | refine keeps_fail ?_ | refine keeps_long ?_ | exact keeps_bad | exact keeps_err | split
    | refine keeps_mk ?_ rfl rfl | trivial

theorem commandMode_keeps {s₀ : State} (m : Mode) (s : State) (hk : Keeps s₀ s) :
    Keeps s₀ (commandMode m s) := by
  unfold commandMode
  (try dsimp only)
  repeat' with_reducible first | assumption | apply changeMode_keeps | apply unpair_keeps | split | refine keeps_mk ?_ rfl rfl | trivial

theorem setModeCommand_keeps {s₀ : State} (s : State) (p : List Byte) (hk : Keeps s₀ s) :
    CmdOut.Keeps s₀ (setModeCommand s p) := by
  unfold setModeCommand
  (try dsimp only)
  repeat' with_reducible first
    | assumption | exact keeps_bad | exact keeps_err | apply requestActive_keeps | apply changeMode_keeps | apply setPair_keeps
    | apply commandMode_keeps | refine keeps_ok ?_ | refine keeps_fail ?_ | refine keeps_long ?_ | split | refine keeps_mk ?_ rfl rfl | trivial

theorem cmdSysSetMode_keeps : cmdSysSetMode.Keeps := by
  intro s₀ s ifc p hk
  unfold cmdSysSetMode
  dsimp only
  repeat' with_reducible first
    | assumption | apply setModeCommand_keeps | refine keeps_ok ?_ | refine keeps_fail ?_ | refine keeps_long ?_ | exact keeps_bad | exact keeps_err
    | split | refine keeps_mk ?_ rfl rfl | trivial

theorem cmdSysReset_keeps : cmdSysReset.Keeps := by
  intro s₀ s ifc p hk
  unfold cmdSysReset
  dsimp only
  repeat' with_reducible first
    | assumption | refine keeps_ok ?_ | refine keeps_fail ?_ | refine keeps_long ?_ | exact keeps_bad | exact keeps_err | split
    | refine keeps_mk ?_ rfl rfl | trivial

theorem cmdSysCommit_keeps : cmdSysCommit.Keeps := by
  intro s₀ s ifc p hk
  unfold cmdSysCommit
  dsimp only
  repeat' with_reducible first
    | assumption | refine keeps_ok ?_ | refine keeps_fail ?_ | refine keeps_long ?_ | exact keeps_bad | exact keeps_err | split
    | refine keeps_mk ?_ rfl rfl | trivial

theorem cmdsSystem_keeps : ∀ d ∈ cmdsSystem, d.Keeps := by
  simp [cmdsSystem, cmdGetIdentity_keeps, cmdSysSetMode_keeps, cmdSysReset_keeps, cmdSysCommit_keeps, cmdSysJournalRead_keeps, cmdSysJournalRoute_keeps, cmdSysIfReset_keeps, cmdSysSetMgmt_keeps, cmdSysGetCounters_keeps, cmdSysEcho_keeps]

theorem cmdsTime_keeps : ∀ d ∈ cmdsTime, d.Keeps := by
  simp [cmdsTime, cmdTimeGetStatus_keeps, cmdTimeSetSources_keeps, cmdTimeSetServo_keeps, cmdTimeSetPort_keeps, cmdTimeSetPtp_keeps, cmdTimeSet_keeps, cmdTimeSetUtc_keeps, cmdEvtConfig_keeps, cmdEvtRead_keeps, cmdPpsOutConfig_keeps, cmdTimeGetCounters_keeps]

theorem cmdsStream_keeps : ∀ d ∈ cmdsStream, d.Keeps := by
  simp [cmdsStream, cmdStreamAdd_keeps, cmdStreamRemove_keeps, cmdStreamRebind_keeps, cmdStreamLoadConfig_keeps, cmdStreamGet_keeps, cmdStreamGetCounters_keeps, cmdStreamSendCommand_keeps, cmdIngressSetPort_keeps, cmdIngressSetRings_keeps, cmdIngressGetCounters_keeps, cmdIngressSetStreamPorts_keeps, cmdIngressJoinGroup_keeps]

theorem cmdsZone_keeps : ∀ d ∈ cmdsZone, d.Keeps := by
  simp [cmdsZone, cmdZoneConfig_keeps, cmdZoneDelete_keeps, cmdZoneStart_keeps, cmdZoneStop_keeps, cmdZoneAddStream_keeps, cmdZoneRemoveStream_keeps, cmdZoneGet_keeps, cmdZoneGetCounters_keeps, cmdConstRead_keeps, cmdAlignGetStatus_keeps]

theorem cmdsFront_keeps : ∀ d ∈ cmdsFront, d.Keeps := by
  simp [cmdsFront, cmdFeSetPreset_keeps, cmdFeSetSampling_keeps, cmdFeSetCal_keeps, cmdFeSetRange_keeps, cmdFeSetDetectors_keeps, cmdFeSetLocalStream_keeps, cmdFeGetStatus_keeps, cmdFeGetDetectors_keeps, cmdFeGetCounters_keeps, cmdFeGetLocalConfig_keeps]

theorem cmdsEnergy_keeps : ∀ d ∈ cmdsEnergy, d.Keeps := by
  simp [cmdsEnergy, cmdEnergySetLine_keeps, cmdEnergySetInterval_keeps, cmdEnergySetReserve_keeps, cmdEnergyRead_keeps, cmdEnergyReadReserve_keeps, cmdEnergyReadSnapshot_keeps, cmdEnergyGetStatus_keeps, cmdEnergyReadEvents_keeps, cmdEnergyClear_keeps]

theorem cmdsDetect_keeps : ∀ d ∈ cmdsDetect, d.Keeps := by
  simp [cmdsDetect, cmdCohSetVertices_keeps, cmdCohSetEdges_keeps, cmdCohSetZone_keeps, cmdCohGetResult_keeps, cmdOscSetBands_keeps, cmdOscSetSignals_keeps, cmdOscSetThresholds_keeps, cmdOscGetSignal_keeps, cmdAlarmSet_keeps, cmdAlarmSetDest_keeps, cmdAlarmGetStatus_keeps, cmdAlarmAck_keeps, cmdAlarmTest_keeps, cmdDetectGetCounters_keeps, cmdKernelGetCatalogue_keeps, cmdKernelSetParams_keeps, cmdKernelSetFlow_keeps, cmdKernelGetFlow_keeps, cmdKernelReadResult_keeps, cmdKernelGetStatus_keeps, cmdKernelGetCounters_keeps]

theorem cmdsEgress_keeps : ∀ d ∈ cmdsEgress, d.Keeps := by
  simp [cmdsEgress, cmdEgressSetSession_keeps, cmdEgressSetPort_keeps, cmdEgressGetSession_keeps, cmdEgressGetConfig_keeps, cmdEgressGetCounters_keeps, cmdEgressSendCfg_keeps]

theorem cmdsPair_keeps : ∀ d ∈ cmdsPair, d.Keeps := by
  simp [cmdsPair, cmdPairSet_keeps, cmdPairGetStatus_keeps, cmdPairSetRevert_keeps, cmdPairSwitchover_keeps, cmdFedSet_keeps, cmdFedGetStatus_keeps, cmdPairGetCounters_keeps]

theorem cmdsInteg_keeps : ∀ d ∈ cmdsInteg, d.Keeps := by
  simp [cmdsInteg, cmdIntegGetStatus_keeps, cmdIntegReadLog_keeps, cmdIntegSetPolicy_keeps, cmdIntegInject_keeps, cmdIntegLeaveSafe_keeps, cmdDiagGetMonitors_keeps, cmdIntegGetCounters_keeps]

theorem cmdsSec_keeps : ∀ d ∈ cmdsSec, d.Keeps := by
  simp [cmdsSec, cmdSecGetLifecycle_keeps, cmdSecSetLifecycle_keeps, cmdSecSetOwnerRoot_keeps, cmdSecSetMka_keeps, cmdSecGetMkaStatus_keeps]

theorem cmdsUpd_keeps : ∀ d ∈ cmdsUpd, d.Keeps := by
  simp [cmdsUpd, cmdUpdBegin_keeps, cmdUpdWrite_keeps, cmdUpdEnd_keeps, cmdUpdGetStatus_keeps, cmdUpdConfirm_keeps, cmdUpdAbort_keeps]

theorem allCmds_keeps : ∀ d ∈ allCmds, d.Keeps := by
  unfold allCmds
  simp only [List.forall_mem_append]
  exact ⟨⟨⟨⟨⟨⟨⟨⟨⟨⟨⟨cmdsSystem_keeps, cmdsTime_keeps⟩, cmdsStream_keeps⟩, cmdsZone_keeps⟩, cmdsFront_keeps⟩, cmdsEnergy_keeps⟩, cmdsDetect_keeps⟩, cmdsEgress_keeps⟩, cmdsPair_keeps⟩, cmdsInteg_keeps⟩, cmdsSec_keeps⟩, cmdsUpd_keeps⟩

theorem commandOf_keeps {opcode : Nat} {d : Cmd} (h : commandOf opcode = some d) : d.Keeps :=
  allCmds_keeps d (List.mem_of_find?_eq_some h)

theorem executePacket_keeps {s₀ : State} (c : QCmd) (s : State) (hk : Keeps s₀ s) : Keeps s₀ (executePacket c s) := by
  unfold executePacket
  split
  · exact sendReply_keeps _ _ _ hk
  · split
    · exact sendReply_keeps _ _ _ hk
    · rename_i e
      exact executeCommand_keeps _ _ _ (commandOf_keeps e) hk

theorem commandExecute_keeps {s₀ : State} (s : State) (hk : Keeps s₀ s) :
    Keeps s₀ (commandExecute s) := by
  unfold commandExecute
  (try dsimp only)
  repeat' with_reducible first | assumption | apply executePacket_keeps | split | refine keeps_mk ?_ rfl rfl | trivial

theorem commitSettings_keeps {s₀ : State} (run : Bool) (s : State) (hk : Keeps s₀ s) :
    Keeps s₀ (commitSettings run s) := by
  unfold commitSettings
  (try dsimp only)
  repeat' with_reducible first
    | assumption | refine keeps_foldl (fun _ _ _ => ?_) ?_ | apply setRunBank_keeps | split | refine keeps_mk ?_ rfl rfl | trivial

theorem commitEnd_keeps {s₀ : State} (run : Bool) (s : State) (hk : Keeps s₀ s) :
    Keeps s₀ (commitEnd run s).2 := by
  unfold commitEnd
  (try dsimp only)
  repeat' with_reducible first | assumption | apply commitJournal_keeps | apply commitSettings_keeps | split | refine keeps_mk ?_ rfl rfl | trivial

theorem lifecycleEnd_keeps {s₀ : State} (e : Exec) (target : Nat) (flashOk : Bool) (s : State) (hk : Keeps s₀ s) :
    Keeps s₀ (lifecycleEnd e target flashOk s) := by
  unfold lifecycleEnd
  (try dsimp only)
  repeat' with_reducible first
    | assumption | apply eraseJournal_keeps | apply eraseSettings_keeps | apply commitJournal_keeps | apply addJournal_keeps
    | apply closeCommand_keeps | split | refine keeps_mk ?_ rfl rfl | trivial

theorem updateEnd_keeps {s₀ : State} (op : LongOp) (ifc : Nat) (s : State) (hk : Keeps s₀ s) :
    Keeps s₀ (updateEnd op ifc s).2.2 := by
  unfold updateEnd
  (try dsimp only)
  repeat' with_reducible first
    | assumption | apply updBeginDone_keeps | apply updWriteDone_keeps | apply updEndDone_keeps | apply confirmTrial_keeps
    | apply updAbortEffect_keeps | split | refine keeps_mk ?_ rfl rfl | trivial

theorem updateFlashFail_keeps {s₀ : State} (op : LongOp) (s : State) (hk : Keeps s₀ s) :
    Keeps s₀ (updateFlashFail op s) := by
  unfold updateFlashFail
  (try dsimp only)
  repeat' with_reducible first | assumption | split | refine keeps_mk ?_ rfl rfl | trivial

theorem commandComplete_keeps {s₀ : State} (flashOk : Bool) (s : State) (hk : Keeps s₀ s) :
    Keeps s₀ (commandComplete flashOk s) := by
  unfold commandComplete
  (try dsimp only)
  repeat' with_reducible first
    | assumption | apply finishCommand_keeps | apply commitEnd_keeps | apply lifecycleEnd_keeps | apply closeCommand_keeps | apply commitJournal_keeps
    | apply updateEnd_keeps | apply updateFlashFail_keeps | split | refine keeps_mk ?_ rfl rfl | trivial

theorem applyMgmt_keeps {s₀ : State} (s : State) (hk : Keeps s₀ s) :
    Keeps s₀ (applyMgmt s) := by
  unfold applyMgmt
  (try dsimp only)
  repeat' with_reducible first | assumption | split | refine keeps_mk ?_ rfl rfl | trivial

theorem mgmtApply_keeps {s₀ : State} (s : State) (hk : Keeps s₀ s) :
    Keeps s₀ (mgmtApply s) := by
  unfold mgmtApply
  (try dsimp only)
  repeat' with_reducible first | assumption | apply applyMgmt_keeps | apply applyMka_keeps | split | refine keeps_mk ?_ rfl rfl | trivial

/-! ### BootEnd.lean -/

theorem restoreRemote_keeps {s₀ t : State} (p : List Byte) (s : State) (hk : Keeps s₀ s) (ht : restoreRemote p s = some t) : Keeps s₀ t := by
  unfold restoreRemote at ht
  dsimp only at ht
  split at ht
  · cases ht
  · cases ht
    exact State.setZone_keeps _ _ _ hk

theorem applyPacket_keeps {s₀ t : State} (opcode : Nat) (p : List Byte) (s : State) (hk : Keeps s₀ s) (ht : applyPacket opcode p s = some t) :
    Keeps s₀ t := by
  unfold applyPacket at ht
  split at ht
  · cases ht
  · rename_i d hd
    split at ht
    · cases ht
    · have h := commandOf_keeps hd s₀ s 1 p hk
      split at ht
      · rename_i e
        rw [e] at h
        cases ht
        exact State.flushed_keeps _ (noteSetting_keeps _ _ _ _ _ h)
      · cases ht

theorem applyRecord_keeps {s₀ t : State} (x : Setting) (s : State) (hk : Keeps s₀ s) (ht : applyRecord x s = some t) : Keeps s₀ t := by
  unfold applyRecord at ht
  split at ht
  · have h := putTable_keeps (fld x.params 0 1) (x.params.drop 1) s hk
    split at ht
    · rename_i e
      rw [e] at h
      cases ht
      exact h
    · cases ht
  · split at ht
    · cases ht
      exact applyMka_keeps _ _ _ hk
    · split at ht
      · exact restoreRemote_keeps _ _ hk ht
      · exact applyPacket_keeps _ _ _ hk ht

theorem applyPass_keeps {s₀ : State} (xs : List Setting) (s : State) (hk : Keeps s₀ s) : Keeps s₀ (applyPass xs s).2 := by
  induction xs generalizing s with
  | nil => exact hk
  | cons x xs ih =>
    rw [applyPass]
    split
    · rename_i e
      exact ih _ (applyRecord_keeps x s hk e)
    · exact ih _ hk

theorem applyPasses_keeps {s₀ : State} (n : Nat) (xs : List Setting) (s : State) (hk : Keeps s₀ s) : Keeps s₀ (applyPasses n xs s) := by
  induction n generalizing xs s with
  | zero => exact hk
  | succ n ih =>
    rw [applyPasses]
    split
    · exact applyPass_keeps xs s hk
    · exact ih _ _ (applyPass_keeps xs s hk)

theorem quiet_keeps {s₀ : State} (before : State) (s : State) (hk : Keeps s₀ s) :
    Keeps s₀ (quiet before s) := by
  unfold quiet
  (try dsimp only)
  repeat' with_reducible first | assumption | split | refine keeps_mk ?_ rfl rfl | trivial

theorem applySettings_keeps {s₀ : State} (base : State) (xs : List Setting) (hk : Keeps s₀ base) :
    Keeps s₀ (applySettings base xs) := by
  unfold applySettings
  (try dsimp only)
  repeat' with_reducible first
    | assumption | apply quiet_keeps | apply mgmtApply_keeps | apply applyPasses_keeps | split | refine keeps_mk ?_ rfl rfl | trivial

theorem startDefaulted_keeps {s₀ : State} (s : State) (hk : Keeps s₀ s) :
    Keeps s₀ (startDefaulted s) := by
  unfold startDefaulted
  (try dsimp only)
  repeat' with_reducible first | assumption | apply updEvent_keeps | split | refine keeps_mk ?_ rfl rfl | trivial

theorem loadSettings_keeps {s₀ : State} (s : State) (hk : Keeps s₀ s) :
    Keeps s₀ (loadSettings s) := by
  unfold loadSettings
  (try dsimp only)
  repeat' with_reducible first | assumption | apply applySettings_keeps | apply startDefaulted_keeps | split | refine keeps_mk ?_ rfl rfl | trivial

theorem applyPackets_keeps {s₀ t : State} (cls : Nat) (ps : List (Nat × List Byte)) (s : State) (hk : Keeps s₀ s)
    (ht : applyPackets cls ps s = some t) : Keeps s₀ t := by
  induction ps generalizing s with
  | nil =>
    cases ht
    exact hk
  | cons q ps ih =>
    rw [applyPackets] at ht
    split at ht
    · obtain ⟨u, hu, ht⟩ := Option.bind_eq_some_iff.1 ht
      exact ih u (applyPacket_keeps _ _ _ hk hu) ht
    · cases ht

theorem applyBundle_keeps {s₀ t : State} (cls : Nat) (h payload : List Byte) (s : State) (hk : Keeps s₀ s)
    (ht : applyBundle cls h payload s = some t) : Keeps s₀ t := by
  unfold applyBundle at ht
  split at ht
  · split at ht
    · rename_i hu
      obtain ⟨ps, _, hu⟩ := Option.bind_eq_some_iff.1 hu
      split at ht
      · cases ht
      · cases ht
        exact mgmtApply_keeps _ (applyPackets_keeps _ _ _ hk hu)
    · cases ht
  · cases ht

theorem bootBundle_keeps {s₀ : State} (base : State) (cls : Nat) (s : State) (hb : Keeps s₀ base) (hk : Keeps s₀ s) :
    Keeps s₀ (bootBundle base cls s) := by
  unfold bootBundle
  split
  · exact hk
  · dsimp only
    split
    · rename_i e
      have h := applyBundle_keeps _ _ _ _ (keeps_mk hk rfl rfl) e
      exact updEvent_keeps _ _ _ (keeps_mk (commitSettings_keeps _ _ (quiet_keeps _ _ h)) rfl rfl)
    · refine startDefaulted_keeps _ (updEvent_keeps _ _ _ (keeps_mk (applySettings_keeps _ _ ?_) rfl rfl))
      exact ⟨hb.pending, hb.now, hk.lifecycle, hb.window⟩

theorem bootBundles_keeps {s₀ : State} (base s : State) (hb : Keeps s₀ base) (hk : Keeps s₀ s) : Keeps s₀ (bootBundles base s) := by
  unfold bootBundles
  split
  · exact hk
  · exact keeps_foldl (fun _ _ h => bootBundle_keeps _ _ _ hb h) hk

theorem enterSafe_keeps {s₀ : State} (selfTestOk : Bool) (s : State) (hk : Keeps s₀ s) :
    Keeps s₀ (enterSafe selfTestOk s) := by
  unfold enterSafe
  (try dsimp only)
  repeat' with_reducible first | assumption | apply changeMode_keeps | split | refine keeps_mk ?_ rfl rfl | trivial

theorem modeAfterBoot_keeps {s₀ : State} (selfTestOk : Bool) (s : State) (hk : Keeps s₀ s) :
    Keeps s₀ (modeAfterBoot selfTestOk s) := by
  unfold modeAfterBoot
  (try dsimp only)
  repeat' with_reducible first
    | assumption | apply enterSafe_keeps | apply changeMode_keeps | apply requestActive_keeps | split | refine keeps_mk ?_ rfl rfl | trivial

theorem startTrial_keeps {s₀ : State} (s : State) (hk : Keeps s₀ s) :
    Keeps s₀ (startTrial s) := by
  unfold startTrial
  (try dsimp only)
  repeat' with_reducible first | assumption | split | refine keeps_mk ?_ rfl rfl | trivial

theorem loadCatalogue_keeps {s₀ : State} (s : State) (hk : Keeps s₀ s) :
    Keeps s₀ (loadCatalogue s) := by
  unfold loadCatalogue
  (try dsimp only)
  repeat' with_reducible first | assumption | split | refine keeps_mk ?_ rfl rfl | trivial

theorem bootEnd_keeps {s₀ : State} (selfTestOk : Bool) (s : State) (hk : Keeps s₀ s) : Keeps s₀ (bootEnd selfTestOk s) := by
  unfold bootEnd
  split
  · exact hk
  · exact modeAfterBoot_keeps _ _ (startTrial_keeps _ (keeps_mk (loadCatalogue_keeps _ (bootBundles_keeps _ _ hk (loadSettings_keeps _ hk))) rfl rfl))

/-! ### The passage of time -/

/-- What stays while the clock moves: the queue, LIFECYCLE, and the window, which a reset empties. -/
def Stays (s₀ t : State) : Prop :=
  t.pending = s₀.pending ∧ t.sys.lifecycle = s₀.sys.lifecycle ∧ (t.dma.window = s₀.dma.window ∨ t.dma.window = [])

theorem Stays.keeps {s₀ s t : State} (h : Stays s₀ s) (k : Keeps s t) : Stays s₀ t :=
  ⟨k.pending.trans h.1, k.lifecycle.trans h.2.1, k.window.elim (fun e => e ▸ h.2.2) .inr⟩

theorem Stays.pass {s₀ s : State} (h : Stays s₀ s) (dt : Ps) : Stays s₀ (s.pass dt) := by
  unfold State.pass
  split <;> exact h

theorem State.pass_now (s : State) (dt : Ps) : (s.pass dt).now = s.now + dt := by
  unfold State.pass
  split <;> rfl

theorem leave_facts {s₀ : State} (t : Ps) (s : State) (h : Stays s₀ s) (ht : s.now ≤ t) : Stays s₀ (leave t s) ∧ (leave t s).now = t := by
  unfold leave
  split
  · exact ⟨h, Nat.le_antisymm ht ‹_›⟩
  · have e := settle_keeps s (.refl s)
    refine ⟨(h.keeps e).pass _, ?_⟩
    rw [State.pass_now, e.now]
    exact Nat.add_sub_of_le ht

theorem runLater_facts {s₀ : State} (n : Nat) (t : Ps) (s : State) (h : Stays s₀ s) (ht : s.now ≤ t) :
    Stays s₀ (runLater n t s) ∧ (runLater n t s).now = t := by
  induction n generalizing s with
  | zero => exact leave_facts t s h ht
  | succ n ih =>
    rw [runLater]
    split
    · exact leave_facts t s h ht
    · rename_i x rest hx
      split_ifs with h1 h2
      · have k := actNext_keeps s (.refl s)
        exact ih _ (h.keeps k) (k.now ▸ ht)
      · have e := leave_facts x.1 s h (Nat.le_of_not_le h1)
        have k := actNext_keeps (leave x.1 s) (.refl _)
        refine ih _ (e.1.keeps k) ?_
        rw [k.now, e.2]
        exact h2
      · exact leave_facts t s h ht

/-- The passage of time keeps the queue, LIFECYCLE and the window, and moves the clock by `dt` (log entry 1). -/
theorem State.elapse_facts (s : State) (dt : Ps) : Stays s (s.elapse dt) ∧ (s.elapse dt).now = s.now + dt := by
  unfold State.elapse
  split
  · rename_i h
    exact ⟨⟨rfl, rfl, .inl rfl⟩, by rw [h]; rfl⟩
  · exact runLater_facts _ _ _ ⟨rfl, rfl, .inl rfl⟩ (Nat.le_add_right _ _)

@[simp] theorem State.elapse_pending (s : State) (dt : Ps) : (s.elapse dt).pending = s.pending := (s.elapse_facts dt).1.1
@[simp] theorem State.elapse_lifecycle (s : State) (dt : Ps) : (s.elapse dt).sys.lifecycle = s.sys.lifecycle := (s.elapse_facts dt).1.2.1
@[simp] theorem State.elapse_now (s : State) (dt : Ps) : (s.elapse dt).now = s.now + dt := (s.elapse_facts dt).2
theorem State.elapse_window (s : State) (dt : Ps) : (s.elapse dt).dma.window = s.dma.window ∨ (s.elapse dt).dma.window = [] :=
  (s.elapse_facts dt).1.2.2

/-- The state in front of an empty passage of time is the state. -/
@[simp] theorem State.elapse_zero (s : State) : s.elapse 0 = s := rfl

/-! ### The transfers of DMA (R416, R422) -/

/-- What a transfer keeps: the queue, the clock, LIFECYCLE, and the canonical form of the window. -/
structure KeepsForm (s₀ t : State) : Prop where
  pending : t.pending = s₀.pending
  now : t.now = s₀.now
  lifecycle : t.sys.lifecycle = s₀.sys.lifecycle
  form : memWf s₀.dma.window = true → memWf t.dma.window = true

theorem Keeps.form {s t : State} (h : Keeps s t) : KeepsForm s t := ⟨h.pending, h.now, h.lifecycle, h.memWf⟩

theorem KeepsForm.keeps {s₀ s t : State} (h : KeepsForm s₀ s) (k : Keeps s t) : KeepsForm s₀ t :=
  ⟨k.pending.trans h.pending, k.now.trans h.now, k.lifecycle.trans h.lifecycle, fun w => k.memWf (h.form w)⟩

theorem KeepsForm.refl (s : State) : KeepsForm s s := (Keeps.refl s).form

theorem KeepsForm.trans {s t u : State} (h : KeepsForm s t) (k : KeepsForm t u) : KeepsForm s u :=
  ⟨k.pending.trans h.pending, k.now.trans h.now, k.lifecycle.trans h.lifecycle, fun w => k.form (h.form w)⟩

theorem writeSpace_form (attrs : HostAttrs) (win : Bool) (addr : Nat) (bs : List Byte) (s : State) :
    KeepsForm s (writeSpace attrs win addr bs s) := by
  unfold writeSpace
  split
  · exact ⟨rfl, rfl, rfl, fun h => memWrite_wf _ _ _ h⟩
  · exact (State.hostPut_keeps _ _ _ _ (.refl s)).form

theorem chTransfer_form (c at_ : Nat) (d : Desc) (r : DmaRun) (bs : List Byte) (s : State) : KeepsForm s (chTransfer c at_ d r bs s) :=
  (writeSpace_form _ _ _ _ s).keeps (State.setCh_keeps _ _ _ (.refl _))

theorem writeChunk_form (k : Chunk) (bs : List Byte) (s : State) : KeepsForm s (writeChunk k bs s) := by
  have h := dropChunk_keeps k s (.refl s)
  unfold writeChunk
  extract_lets s'
  split
  · exact h.form
  · split
    · exact h.form
    · have m := mergeRead_keeps ‹Desc›.dstWin (‹Desc›.dst + k.at_) bs.length s' h
      dsimp only
      split
      · exact (failList_keeps _ _ _ m).form
      · exact m.form.trans (chTransfer_form _ _ _ _ _ _)

theorem writeReady_form (c n : Nat) (s : State) : KeepsForm s (writeReady c n s) := by
  induction n generalizing s with
  | zero => exact .refl s
  | succ n ih =>
    unfold writeReady
    split
    · exact (writeChunk_form _ _ s).trans (ih _)
    · exact .refl s

theorem dmaServe_form (c : Nat) (s : State) : KeepsForm s (dmaServe c s) :=
  (writeReady_form c 32 s).keeps (issueReads_keeps _ _ (.refl _))

theorem dmaRead_form (c : Nat) (x : ReadDone) (s : State) : KeepsForm s (dmaRead c x s) := by
  unfold dmaRead
  split
  · exact .refl s
  · split
    · exact .refl s
    · dsimp only
      have read (d : Desc) (k : Chunk) : Keeps s (if d.srcWin then dramRead (s.windowBase + d.src + k.at_) k.len s else s) := by
        split
        · exact dramRead_keeps _ _ _ (.refl s)
        · exact .refl s
      split
      · exact .refl s
      · exact (failList_keeps _ _ _ (dropChunk_keeps _ _ (read _ _))).form.trans (dmaServe_form _ _)
      · exact (fillChunk_keeps _ _ _ (read _ _)).form.trans (dmaServe_form _ _)

theorem dmaEnd_form (c : Nat) (s : State) : KeepsForm s (dmaEnd c s) := by
  unfold dmaEnd
  extract_lets x
  split
  · exact .refl s
  · split
    · exact .refl s
    · extract_lets append code crc s1 s2 s3
      have h1 : KeepsForm s s1 := by
        simp only [s1]
        split
        · split
          · exact (mergeRead_keeps _ _ _ _ (.refl s)).form.trans (writeSpace_form _ _ _ _ _)
          · exact .refl s
        · exact .refl s
      have h3 : KeepsForm s s3 := h1.keeps (State.setCh_keeps _ _ _ (State.emit_keeps _ _ (.refl _)))
      split
      · exact h3.keeps (raiseCause_keeps _ _ (.refl _))
      · exact h3

/-! ### Leaving reset: LIFECYCLE as the fuses give it (R553) -/

/-- What leaving reset keeps: the queue, the clock and, or empty, the window. -/
theorem leaveReset_facts (pins : StrapPins) (gib0 gib1 : Nat) (s : State) :
    (leaveReset pins gib0 gib1 s).pending = s.pending ∧ (leaveReset pins gib0 gib1 s).now = s.now
      ∧ ((leaveReset pins gib0 gib1 s).dma.window = s.dma.window ∨ (leaveReset pins gib0 gib1 s).dma.window = []) := by
  have fuses (u : State) : (readFuses u).pending = u.pending ∧ (readFuses u).now = u.now ∧ (readFuses u).dma.window = u.dma.window := by
    unfold readFuses
    dsimp only
    repeat' split
    all_goals exact ⟨rfl, rfl, rfl⟩
  unfold leaveReset
  split
  · split
    · exact ⟨rfl, rfl, .inl rfl⟩
    · extract_lets cold _ _ s1 _ _ s2
      have o := readOtp_keeps s (.refl s)
      have f := fuses { readOtp s with sys := { s.sys with straps := if cold then pins else s.sys.straps, capacity := 2 * min gib0 gib1 } }
      have k : Keeps (readFuses _) s2 := keeps_mk (deriveKeys_keeps _ (readReserve_keeps _ (.refl _))) rfl rfl
      have fin (v : State) (kv : Keeps s2 v) : v.pending = s.pending ∧ v.now = s.now ∧ (v.dma.window = s.dma.window ∨ v.dma.window = []) :=
        ⟨((kv.pending.trans k.pending).trans f.1).trans o.pending, ((kv.now.trans k.now).trans f.2.1).trans o.now,
          (k.trans kv).window.elim (fun e => o.window.elim (fun w => .inl ((e.trans f.2.2).trans w)) fun w => .inr ((e.trans f.2.2).trans w)) .inr⟩
      split
      · exact fin _ (lockout_keeps _ _ _ _ (.refl _))
      · split
        · exact fin _ (.refl _)
        · exact fin _ (pickBank_keeps _ (.refl _))
  · exact ⟨rfl, rfl, .inl rfl⟩

end Sys2Proof.Machine
end

