-- ==== Sys2Proof/Laws/Mode.lean ====
section
/-! SUPPORT. What a change of mode does to `sys`: the operations it is made of leave it as it is, but for the write of MODE and FAULT_N
(R77, R457, R570). -/

namespace Sys2Proof.Machine

/-- A fold of operations that leave `sys` as it is leaves it as it is. -/
theorem foldl_sys_to {α : Type} {g : State → α → State} {l : List α} {s t : State} (hg : ∀ s x, s.sys = t.sys → (g s x).sys = t.sys)
    (h : s.sys = t.sys) : (l.foldl g s).sys = t.sys := by
  induction l generalizing s with
  | nil => exact h
  | cons x l ih => exact ih (hg s x h)

/-! ### Ops.lean -/

theorem State.setLink_sys (s : State) (k : Nat) (l : PeerLink) : (State.setLink s k l).sys = s.sys := by
  unfold State.setLink
  (try dsimp only)
  repeat' with_reducible first | assumption | rfl | split | dsimp only

theorem State.emit_sys (s : State) (o : Output) : (State.emit s o).sys = s.sys := by
  unfold State.emit
  (try dsimp only)
  repeat' with_reducible first | assumption | rfl | split | dsimp only

theorem sendBlocks_sys (k : Nat) (frame : List Byte) (s : State) : (sendBlocks k frame s).sys = s.sys := rfl

theorem sendA_sys (k : Nat) (type : Nat) (payload : List Byte) (s : State) : (sendA k type payload s).sys = s.sys := by
  unfold sendA
  (try dsimp only)
  repeat' with_reducible first | assumption | refine (State.emit_sys _ _).trans ?_ | rfl | split | dsimp only

theorem sendB_sys (k : Nat) (type : Nat) (payload : List Byte) (s : State) : (sendB k type payload s).sys = s.sys := by
  unfold sendB
  (try dsimp only)
  repeat' with_reducible first
    | assumption | refine (sendBlocks_sys _ _ _).trans ?_ | refine (State.setLink_sys _ _ _).trans ?_ | rfl | split | dsimp only

theorem mirrorItem_sys (code : Nat) (content : List Byte) (s : State) : (mirrorItem code content s).sys = s.sys := by
  unfold mirrorItem
  (try dsimp only)
  repeat' with_reducible first
    | assumption | refine foldl_sys_to (fun _ _ _ => ?_) ?_ | refine (sendB_sys _ _ _ _).trans ?_ | rfl | split | dsimp only

theorem vecEvent_sys (v : Nat) (s : State) : (vecEvent v s).sys = s.sys := by
  unfold vecEvent
  (try dsimp only)
  repeat' with_reducible first | assumption | refine (State.emit_sys _ _).trans ?_ | rfl | split | dsimp only

theorem raiseCause_sys (n : Nat) (s : State) : (raiseCause n s).sys = s.sys := by
  unfold raiseCause
  (try dsimp only)
  repeat' with_reducible first | assumption | refine (vecEvent_sys _ _).trans ?_ | rfl | split | dsimp only

/-! ### Flags.lean -/

theorem noteServo_sys (s : State) (t : State) : (noteServo s t).sys = t.sys := by
  unfold noteServo
  (try dsimp only)
  repeat' with_reducible first | assumption | refine (raiseCause_sys _ _).trans ?_ | rfl | split | dsimp only

theorem notePartner_sys (s : State) (t : State) : (notePartner s t).sys = t.sys := by
  unfold notePartner
  (try dsimp only)
  repeat' with_reducible first | assumption | refine (raiseCause_sys _ _).trans ?_ | rfl | split | dsimp only

/-! ### Command.lean -/

theorem State.setIface_sys (s : State) (i : Nat) (f : Iface) : (State.setIface s i f).sys = s.sys := by
  unfold State.setIface
  (try dsimp only)
  repeat' with_reducible first | assumption | rfl | split | dsimp only

theorem State.modIface_sys (s : State) (i : Nat) (g : Iface → Iface) : (State.modIface s i g).sys = s.sys := by
  unfold State.modIface
  (try dsimp only)
  repeat' with_reducible first | assumption | refine (State.setIface_sys _ _ _).trans ?_ | rfl | split | dsimp only

/-! ### Dma.lean -/

theorem dmaStop_sys (code : Nat) (s : State) : (dmaStop code s).sys = s.sys := by
  unfold dmaStop
  (try dsimp only)
  repeat' with_reducible first | assumption | rfl | split | dsimp only

/-! ### Iface.lean -/

theorem State.setOtherBank_sys (s : State) (b : Bank) : (State.setOtherBank s b).sys = s.sys := by
  unfold State.setOtherBank
  (try dsimp only)
  repeat' with_reducible first | assumption | rfl | split | dsimp only

theorem updAbortEffect_sys (s : State) : (updAbortEffect s).sys = s.sys := by
  unfold updAbortEffect
  (try dsimp only)
  repeat' with_reducible first | assumption | refine (State.setOtherBank_sys _ _).trans ?_ | rfl | split | dsimp only

theorem ifReset_sys (i : Nat) (s : State) : (ifReset i s).sys = s.sys := by
  unfold ifReset
  (try dsimp only)
  repeat' with_reducible first
    | assumption | refine (State.modIface_sys _ _ _).trans ?_ | refine (updAbortEffect_sys _).trans ?_ | rfl | split | dsimp only

theorem classDrop_sys (cls : Nat) (s : State) : (classDrop cls s).sys = s.sys := by
  unfold classDrop
  (try dsimp only)
  repeat' with_reducible first | assumption | rfl | split | dsimp only

theorem ringOff_sys (r : Nat) (s : State) : (ringOff r s).sys = s.sys := by
  unfold ringOff
  (try dsimp only)
  repeat' with_reducible first
    | assumption | refine foldl_sys_to (fun _ _ _ => ?_) ?_ | refine (classDrop_sys _ _).trans ?_ | rfl | split | dsimp only

theorem ringsDown_sys (s : State) : (ringsDown s).sys = s.sys := by
  unfold ringsDown
  (try dsimp only)
  repeat' with_reducible first | assumption | refine foldl_sys_to (fun _ _ _ => ?_) ?_ | refine (ringOff_sys _ _).trans ?_ | rfl | split | dsimp only

theorem pcieDown_sys (s : State) : (pcieDown s).sys = s.sys := by
  unfold pcieDown
  (try dsimp only)
  repeat' with_reducible first
    | assumption | refine (ifReset_sys _ _).trans ?_ | refine (ringsDown_sys _).trans ?_ | refine (dmaStop_sys _ _).trans ?_ | rfl | split
    | dsimp only

/-! ### Egress.lean -/

theorem State.setSess_sys (s : State) (n : Nat) (x : Session) : (State.setSess s n x).sys = s.sys := by
  unfold State.setSess
  (try dsimp only)
  repeat' with_reducible first | assumption | rfl | split | dsimp only

theorem releaseWaits_sys (s : State) : (releaseWaits s).sys = s.sys := by
  unfold releaseWaits
  (try dsimp only)
  repeat' with_reducible first | assumption | rfl | split | dsimp only

theorem leaveWaits_sys (n : Nat) (s : State) : (leaveWaits n s).sys = s.sys := by
  unfold leaveWaits
  (try dsimp only)
  repeat' with_reducible first | assumption | refine (releaseWaits_sys _).trans ?_ | rfl | split | dsimp only

theorem refreshSession_sys (n : Nat) (s : State) : (refreshSession n s).sys = s.sys := by
  unfold refreshSession
  (try dsimp only)
  repeat' with_reducible first
    | assumption | refine (State.setSess_sys _ _ _).trans ?_ | refine (leaveWaits_sys _ _).trans ?_ | rfl | split | dsimp only

theorem dropTcp_sys (n : Nat) (reset : Bool) (s : State) : (dropTcp n reset s).sys = s.sys := by
  unfold dropTcp
  (try dsimp only)
  repeat' with_reducible first
    | assumption | refine (refreshSession_sys _ _).trans ?_ | refine (State.setSess_sys _ _ _).trans ?_ | rfl | split | dsimp only

theorem closeAllTcp_sys (s : State) : (closeAllTcp s).sys = s.sys := by
  unfold closeAllTcp
  (try dsimp only)
  repeat' with_reducible first
    | assumption | refine foldl_sys_to (fun _ _ _ => ?_) ?_ | refine (dropTcp_sys _ _ _).trans ?_ | rfl | split | dsimp only

theorem stopWan_sys (s : State) : (stopWan s).sys = s.sys := by
  unfold stopWan
  (try dsimp only)
  repeat' with_reducible first | assumption | rfl | split | dsimp only

theorem State.setZone_sys (s : State) (z : Nat) (x : Zone) : (State.setZone s z x).sys = s.sys := by
  unfold State.setZone
  (try dsimp only)
  repeat' with_reducible first | assumption | rfl | split | dsimp only

theorem refreshSessions_sys (s : State) : (refreshSessions s).sys = s.sys := by
  unfold refreshSessions
  (try dsimp only)
  repeat' with_reducible first
    | assumption | refine foldl_sys_to (fun _ _ _ => ?_) ?_ | refine (refreshSession_sys _ _).trans ?_ | rfl | split | dsimp only

theorem State.modZone_sys (s : State) (z : Nat) (f : Zone → Zone) : (State.modZone s z f).sys = s.sys := by
  unfold State.modZone
  (try dsimp only)
  repeat' with_reducible first | assumption | refine (State.setZone_sys _ _ _).trans ?_ | rfl | split | dsimp only

/-! ### EgressCmd.lean -/

theorem resumeSessions_sys (z : Nat) (s : State) : (resumeSessions z s).sys = s.sys := by
  unfold resumeSessions
  (try dsimp only)
  repeat' with_reducible first | assumption | rfl | split | dsimp only

/-! ### Detect.lean -/

theorem updatePins_sys (s : State) : (updatePins s).sys = s.sys := by
  unfold updatePins
  (try dsimp only)
  repeat' with_reducible first | assumption | rfl | split | dsimp only

theorem almArm_sys (f : AlmDef → Bool) (s : State) : (almArm f s).sys = s.sys := by
  unfold almArm
  (try dsimp only)
  repeat' with_reducible first | assumption | refine (updatePins_sys _).trans ?_ | rfl | split | dsimp only

theorem forcePins_sys (v : BitVec 16) (s : State) : (forcePins v s).sys = s.sys := by
  unfold forcePins
  (try dsimp only)
  repeat' with_reducible first | assumption | rfl | split | dsimp only

theorem almLose_sys (s : State) : (almLose s).sys = s.sys := by
  unfold almLose
  (try dsimp only)
  repeat' with_reducible first | assumption | rfl | split | dsimp only

theorem oscReset_sys (f : Signal → Bool) (s : State) : (oscReset f s).sys = s.sys := by
  unfold oscReset
  (try dsimp only)
  repeat' with_reducible first | assumption | rfl | split | dsimp only

/-! ### Kernel.lean -/

theorem dropPosts_sys (z : Nat) (tick : Nat) (s : State) : (dropPosts z tick s).sys = s.sys := by
  unfold dropPosts
  (try dsimp only)
  repeat' with_reducible first | assumption | rfl | split | dsimp only

theorem settleWords_sys (s : State) : (settleWords s).sys = s.sys := rfl

theorem dropItems_sys (f : Item → Bool) (s : State) : (dropItems f s).sys = s.sys := by
  unfold dropItems
  (try dsimp only)
  repeat' with_reducible first | assumption | refine (settleWords_sys _).trans ?_ | rfl | split | dsimp only

theorem kernelLeave_sys (s : State) : (kernelLeave s).sys = s.sys := by
  unfold kernelLeave
  (try dsimp only)
  repeat' with_reducible first | assumption | refine (dropItems_sys _ _).trans ?_ | rfl | split | dsimp only

theorem kernelZoneStart_sys (z : Nat) (s : State) : (kernelZoneStart z s).sys = s.sys := by
  unfold kernelZoneStart
  (try dsimp only)
  repeat' with_reducible first | assumption | rfl | split | dsimp only

/-! ### Align.lean -/

theorem dropArea_sys (z : Nat) (tick : Nat) (s : State) : (dropArea z tick s).sys = s.sys := by
  unfold dropArea
  (try dsimp only)
  repeat' with_reducible first
    | assumption | refine (dropPosts_sys _ _ _).trans ?_ | refine (State.modZone_sys _ _ _).trans ?_ | rfl | split | dsimp only

theorem sweepAreas_sys (z : Nat) (s : State) : (sweepAreas z s).sys = s.sys := by
  unfold sweepAreas
  (try dsimp only)
  repeat' with_reducible first
    | assumption | refine foldl_sys_to (fun _ _ _ => ?_) ?_ | refine (dropArea_sys _ _ _).trans ?_ | rfl | split | dsimp only

theorem stopTicking_sys (keep : Bool) (z : Nat) (s : State) : (stopTicking keep z s).sys = s.sys := by
  unfold stopTicking
  (try dsimp only)
  repeat' with_reducible first
    | assumption | refine foldl_sys_to (fun _ _ _ => ?_) ?_ | refine (State.setZone_sys _ _ _).trans ?_ | refine (refreshSessions_sys _).trans ?_
    | refine (almArm_sys _ _).trans ?_ | refine (sweepAreas_sys _ _).trans ?_ | refine (dropPosts_sys _ _ _).trans ?_ | rfl | split | dsimp only

theorem alignLeave_sys (s : State) : (alignLeave s).sys = s.sys := by
  unfold alignLeave
  (try dsimp only)
  repeat' with_reducible first
    | assumption | refine foldl_sys_to (fun _ _ _ => ?_) ?_ | refine (stopTicking_sys _ _ _).trans ?_ | refine (forcePins_sys _ _).trans ?_
    | refine (almLose_sys _).trans ?_ | refine (kernelLeave_sys _).trans ?_ | rfl | split | dsimp only

theorem mirrorAnchor_sys (z : Nat) (s : State) : (mirrorAnchor z s).sys = s.sys := by
  unfold mirrorAnchor
  (try dsimp only)
  repeat' with_reducible first | assumption | refine (mirrorItem_sys _ _ _).trans ?_ | rfl | split | dsimp only

theorem beginTicking_sys (z : Nat) (s : State) : (beginTicking z s).sys = s.sys := by
  unfold beginTicking
  (try dsimp only)
  repeat' with_reducible first
    | assumption | refine (State.setZone_sys _ _ _).trans ?_ | refine (refreshSessions_sys _).trans ?_ | refine (kernelZoneStart_sys _ _).trans ?_
    | refine (almArm_sys _ _).trans ?_ | refine (oscReset_sys _ _).trans ?_ | rfl | split | dsimp only

theorem zoneBegin_sys (z : Nat) (s : State) : (zoneBegin z s).sys = s.sys := by
  unfold zoneBegin
  (try dsimp only)
  repeat' with_reducible first
    | assumption | refine (mirrorAnchor_sys _ _).trans ?_ | refine (beginTicking_sys _ _).trans ?_ | refine (resumeSessions_sys _ _).trans ?_ | rfl
    | split | dsimp only

theorem alignEnter_sys (s : State) : (alignEnter s).sys = s.sys := by
  unfold alignEnter
  (try dsimp only)
  repeat' with_reducible first
    | assumption | refine foldl_sys_to (fun _ _ _ => ?_) ?_ | refine (zoneBegin_sys _ _).trans ?_ | refine (almArm_sys _ _).trans ?_ | rfl | split
    | dsimp only

/-! ### Time.lean -/

theorem reselect_sys (s : State) : (reselect s).sys = s.sys := by
  unfold reselect
  (try dsimp only)
  repeat' with_reducible first | assumption | refine (noteServo_sys _ _).trans ?_ | rfl | split | dsimp only

/-! ### Front.lean -/

theorem State.setInput_sys (s : State) (i : Nat) (x : InputSt) : (State.setInput s i x).sys = s.sys := by
  unfold State.setInput
  (try dsimp only)
  repeat' with_reducible first | assumption | rfl | split | dsimp only

theorem startChains_sys (p : Nat → Bool) (s : State) : (startChains p s).sys = s.sys := by
  unfold startChains
  (try dsimp only)
  repeat' with_reducible first
    | assumption | refine foldl_sys_to (fun _ _ _ => ?_) ?_ | refine (State.setInput_sys _ _ _).trans ?_ | rfl | split | dsimp only

theorem frontStart_sys (s : State) : (frontStart s).sys = s.sys := by
  unfold frontStart
  (try dsimp only)
  repeat' with_reducible first | assumption | refine (startChains_sys _ _).trans ?_ | rfl | split | dsimp only

/-! ### Energy.lean -/

theorem emptyDelta_sys (s : State) : (emptyDelta s).sys = s.sys := by
  unfold emptyDelta
  (try dsimp only)
  repeat' with_reducible first | assumption | rfl | split | dsimp only

theorem energyFollow_sys (s : State) : (energyFollow s).sys = s.sys := by
  unfold energyFollow
  (try dsimp only)
  repeat' with_reducible first | assumption | refine (emptyDelta_sys _).trans ?_ | rfl | split | dsimp only

theorem energyAdopt_sys (s : State) : (energyAdopt s).sys = s.sys := by
  unfold energyAdopt
  (try dsimp only)
  repeat' with_reducible first | assumption | refine (emptyDelta_sys _).trans ?_ | rfl | split | dsimp only

/-! ### Mode.lean -/

theorem sendHeartbeat_sys (k : Nat) (yield : Bool) (s : State) : (sendHeartbeat k yield s).sys = s.sys := by
  unfold sendHeartbeat
  (try dsimp only)
  repeat' with_reducible first
    | assumption | refine (State.setLink_sys _ _ _).trans ?_ | refine (sendA_sys _ _ _ _).trans ?_ | rfl | split | dsimp only

theorem yieldAll_sys (s : State) : (yieldAll s).sys = s.sys := by
  unfold yieldAll
  (try dsimp only)
  repeat' with_reducible first
    | assumption | refine foldl_sys_to (fun _ _ _ => ?_) ?_ | refine (sendHeartbeat_sys _ _ _).trans ?_ | rfl | split | dsimp only

theorem unpair_sys (s : State) : (unpair s).sys = s.sys := by
  unfold unpair
  (try dsimp only)
  repeat' with_reducible first | assumption | rfl | split | dsimp only

theorem modeLeave_sys (m : Mode) (yield : Bool) (s : State) : (modeLeave m yield s).sys = s.sys := by
  unfold modeLeave
  (try dsimp only)
  repeat' with_reducible first
    | assumption | refine (closeAllTcp_sys _).trans ?_ | refine (stopWan_sys _).trans ?_ | refine (yieldAll_sys _).trans ?_
    | refine (unpair_sys _).trans ?_ | refine (alignLeave_sys _).trans ?_ | rfl | split | dsimp only

theorem adoptAlarms_sys (s : State) : (adoptAlarms s).sys = s.sys := by
  unfold adoptAlarms
  (try dsimp only)
  repeat' with_reducible first | assumption | rfl | split | dsimp only

theorem standbyActive_sys (s : State) : (standbyActive s).sys = s.sys := by
  unfold standbyActive
  (try dsimp only)
  repeat' with_reducible first
    | assumption | refine foldl_sys_to (fun _ _ _ => ?_) ?_ | refine (refreshSessions_sys _).trans ?_ | refine (adoptAlarms_sys _).trans ?_
    | refine (energyAdopt_sys _).trans ?_ | refine (mirrorAnchor_sys _ _).trans ?_ | rfl | split | dsimp only

theorem linkDown_sys (k : Nat) (s : State) : (linkDown k s).sys = s.sys := by
  unfold linkDown
  (try dsimp only)
  repeat' with_reducible first
    | assumption | refine (State.setLink_sys _ _ _).trans ?_ | refine (notePartner_sys _ _).trans ?_ | rfl | split | dsimp only

theorem dropIngress_sys (s : State) : (dropIngress s).sys = s.sys := by
  unfold dropIngress
  (try dsimp only)
  repeat' with_reducible first | assumption | rfl | split | dsimp only

theorem pcieOff_sys (s : State) : (pcieOff s).sys = s.sys := by
  unfold pcieOff
  (try dsimp only)
  repeat' with_reducible first | assumption | refine (pcieDown_sys _).trans ?_ | rfl | split | dsimp only

theorem mgmtDown_sys (s : State) : (mgmtDown s).sys = s.sys := by
  unfold mgmtDown
  (try dsimp only)
  repeat' with_reducible first | assumption | refine (ifReset_sys _ _).trans ?_ | rfl | split | dsimp only

theorem dormantEnter_sys (s : State) : (dormantEnter s).sys = s.sys := by
  unfold dormantEnter
  (try dsimp only)
  repeat' with_reducible first
    | assumption | refine foldl_sys_to (fun _ _ _ => ?_) ?_ | refine (mgmtDown_sys _).trans ?_ | refine (pcieOff_sys _).trans ?_
    | refine (dmaStop_sys _ _).trans ?_ | refine (linkDown_sys _ _).trans ?_
    | refine (dropIngress_sys _).trans ?_ | refine (stopWan_sys _).trans ?_ | rfl | split | dsimp only

theorem modeEnter_sys (old : Mode) (m : Mode) (s : State) : (modeEnter old m s).sys = s.sys := by
  unfold modeEnter
  (try dsimp only)
  repeat' with_reducible first
    | assumption | refine (alignEnter_sys _).trans ?_ | refine (energyFollow_sys _).trans ?_ | refine (standbyActive_sys _).trans ?_
    | refine (reselect_sys _).trans ?_ | refine (dormantEnter_sys _).trans ?_ | refine (frontStart_sys _).trans ?_ | rfl | split | dsimp only

theorem mirrorAfresh_sys (s : State) : (mirrorAfresh s).sys = s.sys := by
  unfold mirrorAfresh
  (try dsimp only)
  repeat' with_reducible first | assumption | rfl | split | dsimp only

/-- What the write of MODE does to the mode registers (R457). -/
theorem setMode_sys (m : Mode) (s : State) : (setMode m s).sys = if s.sys.mode = m then s.sys
    else { s.sys with mode := m, prevMode := s.sys.mode, modeChanges := min (s.sys.modeChanges + 1) 65535 } := by
  unfold setMode
  split
  · rfl
  · rw [raiseCause_sys]

/-- FAULT_N follows the mode, and nothing else of `sys` does (R77). -/
theorem driveFaultN_sys (s : State) : (driveFaultN s).sys = { s.sys with faultLow := s.sys.phase = .running && s.sys.mode = .safe } := by
  unfold driveFaultN
  dsimp only
  split
  · rename_i h
    rw [h]
  · rfl

/-- A change of mode ends in the mode (R570, R572). -/
theorem changeMode_mode (m : Mode) (yield : Bool) (s : State) : (changeMode m yield s).sys.mode = m := by
  unfold changeMode
  split
  · assumption
  · rename_i h
    rw [notePartner_sys, driveFaultN_sys]
    dsimp only
    rw [updatePins_sys, refreshSessions_sys, mirrorAfresh_sys, modeEnter_sys, setMode_sys, modeLeave_sys, if_neg h]

end Sys2Proof.Machine
end

