-- ==== Sys2Proof/Laws/State.lean ====
section
/-! SUPPORT. The state updates: which field each one leaves as it is, and what its reader answers afterwards. -/

namespace Sys2Proof.Machine

/-! ### Vectors and tables -/

@[simp] theorem vget_vset_self {α : Type} {n : Nat} (d : α) (v : Vector α n) (i : Nat) (x : α) (h : i < n) : vget d (vset v i x) i = x := by
  simp [vget, vset, h]

@[simp] theorem vget_vset_ne {α : Type} {n : Nat} (d : α) (v : Vector α n) (i j : Nat) (x : α) (h : i ≠ j) :
    vget d (vset v i x) j = vget d v j := by
  unfold vget vset
  by_cases hi : i < n <;> by_cases hj : j < n <;> simp [hi, hj, h]

@[simp] theorem tabGet_tabSet_self {α : Type} (d : α) (k : Nat) (v : α) (t : Tab α) : tabGet d k (tabSet k v t) = v := by
  simp [tabGet, tabGet?_tabSet]

@[simp] theorem tabGet_tabSet_ne {α : Type} (d : α) (k j : Nat) (v : α) (t : Tab α) (h : k ≠ j) : tabGet d j (tabSet k v t) = tabGet d j t := by
  simp [tabGet, tabGet?_tabSet, Ne.symm h]


/-! ### State.setCh -/

@[simp] theorem State.setCh_pending (s : State) (i : Nat) (x : DmaCh) : (s.setCh i x).pending = s.pending := rfl
@[simp] theorem State.setCh_now (s : State) (i : Nat) (x : DmaCh) : (s.setCh i x).now = s.now := rfl
@[simp] theorem State.setCh_later (s : State) (i : Nat) (x : DmaCh) : (s.setCh i x).later = s.later := rfl
@[simp] theorem State.setCh_drawn (s : State) (i : Nat) (x : DmaCh) : (s.setCh i x).drawn = s.drawn := rfl
@[simp] theorem State.setCh_outputs (s : State) (i : Nat) (x : DmaCh) : (s.setCh i x).outputs = s.outputs := rfl
@[simp] theorem State.setCh_time (s : State) (i : Nat) (x : DmaCh) : (s.setCh i x).time = s.time := rfl
@[simp] theorem State.setCh_ingress (s : State) (i : Nat) (x : DmaCh) : (s.setCh i x).ingress = s.ingress := rfl
@[simp] theorem State.setCh_align (s : State) (i : Nat) (x : DmaCh) : (s.setCh i x).align = s.align := rfl
@[simp] theorem State.setCh_front (s : State) (i : Nat) (x : DmaCh) : (s.setCh i x).front = s.front := rfl
@[simp] theorem State.setCh_energy (s : State) (i : Nat) (x : DmaCh) : (s.setCh i x).energy = s.energy := rfl
@[simp] theorem State.setCh_detect (s : State) (i : Nat) (x : DmaCh) : (s.setCh i x).detect = s.detect := rfl
@[simp] theorem State.setCh_kernel (s : State) (i : Nat) (x : DmaCh) : (s.setCh i x).kernel = s.kernel := rfl
@[simp] theorem State.setCh_egress (s : State) (i : Nat) (x : DmaCh) : (s.setCh i x).egress = s.egress := rfl
@[simp] theorem State.setCh_host (s : State) (i : Nat) (x : DmaCh) : (s.setCh i x).host = s.host := rfl
@[simp] theorem State.setCh_pair (s : State) (i : Nat) (x : DmaCh) : (s.setCh i x).pair = s.pair := rfl
@[simp] theorem State.setCh_integ (s : State) (i : Nat) (x : DmaCh) : (s.setCh i x).integ = s.integ := rfl
@[simp] theorem State.setCh_sec (s : State) (i : Nat) (x : DmaCh) : (s.setCh i x).sec = s.sec := rfl
@[simp] theorem State.setCh_upd (s : State) (i : Nat) (x : DmaCh) : (s.setCh i x).upd = s.upd := rfl
@[simp] theorem State.setCh_sys (s : State) (i : Nat) (x : DmaCh) : (s.setCh i x).sys = s.sys := rfl
@[simp] theorem State.setCh_dma_buffer (s : State) (i : Nat) (x : DmaCh) : (s.setCh i x).dma.buffer = s.dma.buffer := rfl
@[simp] theorem State.setCh_dma_turn (s : State) (i : Nat) (x : DmaCh) : (s.setCh i x).dma.turn = s.dma.turn := rfl
@[simp] theorem State.setCh_dma_queues (s : State) (i : Nat) (x : DmaCh) : (s.setCh i x).dma.queues = s.dma.queues := rfl
@[simp] theorem State.setCh_dma_window (s : State) (i : Nat) (x : DmaCh) : (s.setCh i x).dma.window = s.dma.window := rfl
@[simp] theorem State.setCh_dma_winBad (s : State) (i : Nat) (x : DmaCh) : (s.setCh i x).dma.winBad = s.dma.winBad := rfl
@[simp] theorem State.setCh_dma_chans (s : State) (i : Nat) (x : DmaCh) : (s.setCh i x).dma.chans = vset s.dma.chans i x := rfl
@[simp] theorem State.setCh_ch_self (s : State) (i : Nat) (x : DmaCh) (h : i < 14) : (s.setCh i x).ch i = x := vget_vset_self _ _ _ _ h
@[simp] theorem State.setCh_ch_ne (s : State) (i : Nat) (x : DmaCh) (j : Nat) (h : i ≠ j) : (s.setCh i x).ch j = s.ch j := vget_vset_ne _ _ _ _ _ h

/-! ### State.setSess -/

@[simp] theorem State.setSess_pending (s : State) (i : Nat) (x : Session) : (s.setSess i x).pending = s.pending := rfl
@[simp] theorem State.setSess_now (s : State) (i : Nat) (x : Session) : (s.setSess i x).now = s.now := rfl
@[simp] theorem State.setSess_later (s : State) (i : Nat) (x : Session) : (s.setSess i x).later = s.later := rfl
@[simp] theorem State.setSess_drawn (s : State) (i : Nat) (x : Session) : (s.setSess i x).drawn = s.drawn := rfl
@[simp] theorem State.setSess_outputs (s : State) (i : Nat) (x : Session) : (s.setSess i x).outputs = s.outputs := rfl
@[simp] theorem State.setSess_time (s : State) (i : Nat) (x : Session) : (s.setSess i x).time = s.time := rfl
@[simp] theorem State.setSess_ingress (s : State) (i : Nat) (x : Session) : (s.setSess i x).ingress = s.ingress := rfl
@[simp] theorem State.setSess_align (s : State) (i : Nat) (x : Session) : (s.setSess i x).align = s.align := rfl
@[simp] theorem State.setSess_front (s : State) (i : Nat) (x : Session) : (s.setSess i x).front = s.front := rfl
@[simp] theorem State.setSess_energy (s : State) (i : Nat) (x : Session) : (s.setSess i x).energy = s.energy := rfl
@[simp] theorem State.setSess_detect (s : State) (i : Nat) (x : Session) : (s.setSess i x).detect = s.detect := rfl
@[simp] theorem State.setSess_kernel (s : State) (i : Nat) (x : Session) : (s.setSess i x).kernel = s.kernel := rfl
@[simp] theorem State.setSess_dma (s : State) (i : Nat) (x : Session) : (s.setSess i x).dma = s.dma := rfl
@[simp] theorem State.setSess_host (s : State) (i : Nat) (x : Session) : (s.setSess i x).host = s.host := rfl
@[simp] theorem State.setSess_pair (s : State) (i : Nat) (x : Session) : (s.setSess i x).pair = s.pair := rfl
@[simp] theorem State.setSess_integ (s : State) (i : Nat) (x : Session) : (s.setSess i x).integ = s.integ := rfl
@[simp] theorem State.setSess_sec (s : State) (i : Nat) (x : Session) : (s.setSess i x).sec = s.sec := rfl
@[simp] theorem State.setSess_upd (s : State) (i : Nat) (x : Session) : (s.setSess i x).upd = s.upd := rfl
@[simp] theorem State.setSess_egress_ports (s : State) (i : Nat) (x : Session) : (s.setSess i x).egress.ports = s.egress.ports := rfl
@[simp] theorem State.setSess_egress_requests (s : State) (i : Nat) (x : Session) : (s.setSess i x).egress.requests = s.egress.requests := rfl
@[simp] theorem State.setSess_egress_forming (s : State) (i : Nat) (x : Session) : (s.setSess i x).egress.forming = s.egress.forming := rfl
@[simp] theorem State.setSess_egress_waits (s : State) (i : Nat) (x : Session) : (s.setSess i x).egress.waits = s.egress.waits := rfl
@[simp] theorem State.setSess_egress_sessions (s : State) (i : Nat) (x : Session) : (s.setSess i x).egress.sessions = tabSet i x s.egress.sessions := rfl
@[simp] theorem State.setSess_sess_self (s : State) (i : Nat) (x : Session) : (s.setSess i x).sess i = x := tabGet_tabSet_self _ _ _ _
@[simp] theorem State.setSess_sess_ne (s : State) (i : Nat) (x : Session) (j : Nat) (h : i ≠ j) : (s.setSess i x).sess j = s.sess j := tabGet_tabSet_ne _ _ _ _ _ h

/-! ### State.setTx -/

@[simp] theorem State.setTx_pending (s : State) (i : Nat) (x : TxPort) : (s.setTx i x).pending = s.pending := rfl
@[simp] theorem State.setTx_now (s : State) (i : Nat) (x : TxPort) : (s.setTx i x).now = s.now := rfl
@[simp] theorem State.setTx_later (s : State) (i : Nat) (x : TxPort) : (s.setTx i x).later = s.later := rfl
@[simp] theorem State.setTx_drawn (s : State) (i : Nat) (x : TxPort) : (s.setTx i x).drawn = s.drawn := rfl
@[simp] theorem State.setTx_outputs (s : State) (i : Nat) (x : TxPort) : (s.setTx i x).outputs = s.outputs := rfl
@[simp] theorem State.setTx_time (s : State) (i : Nat) (x : TxPort) : (s.setTx i x).time = s.time := rfl
@[simp] theorem State.setTx_ingress (s : State) (i : Nat) (x : TxPort) : (s.setTx i x).ingress = s.ingress := rfl
@[simp] theorem State.setTx_align (s : State) (i : Nat) (x : TxPort) : (s.setTx i x).align = s.align := rfl
@[simp] theorem State.setTx_front (s : State) (i : Nat) (x : TxPort) : (s.setTx i x).front = s.front := rfl
@[simp] theorem State.setTx_energy (s : State) (i : Nat) (x : TxPort) : (s.setTx i x).energy = s.energy := rfl
@[simp] theorem State.setTx_detect (s : State) (i : Nat) (x : TxPort) : (s.setTx i x).detect = s.detect := rfl
@[simp] theorem State.setTx_kernel (s : State) (i : Nat) (x : TxPort) : (s.setTx i x).kernel = s.kernel := rfl
@[simp] theorem State.setTx_dma (s : State) (i : Nat) (x : TxPort) : (s.setTx i x).dma = s.dma := rfl
@[simp] theorem State.setTx_host (s : State) (i : Nat) (x : TxPort) : (s.setTx i x).host = s.host := rfl
@[simp] theorem State.setTx_pair (s : State) (i : Nat) (x : TxPort) : (s.setTx i x).pair = s.pair := rfl
@[simp] theorem State.setTx_integ (s : State) (i : Nat) (x : TxPort) : (s.setTx i x).integ = s.integ := rfl
@[simp] theorem State.setTx_sec (s : State) (i : Nat) (x : TxPort) : (s.setTx i x).sec = s.sec := rfl
@[simp] theorem State.setTx_upd (s : State) (i : Nat) (x : TxPort) : (s.setTx i x).upd = s.upd := rfl
@[simp] theorem State.setTx_sys (s : State) (i : Nat) (x : TxPort) : (s.setTx i x).sys = s.sys := rfl
@[simp] theorem State.setTx_egress_sessions (s : State) (i : Nat) (x : TxPort) : (s.setTx i x).egress.sessions = s.egress.sessions := rfl
@[simp] theorem State.setTx_egress_requests (s : State) (i : Nat) (x : TxPort) : (s.setTx i x).egress.requests = s.egress.requests := rfl
@[simp] theorem State.setTx_egress_forming (s : State) (i : Nat) (x : TxPort) : (s.setTx i x).egress.forming = s.egress.forming := rfl
@[simp] theorem State.setTx_egress_waits (s : State) (i : Nat) (x : TxPort) : (s.setTx i x).egress.waits = s.egress.waits := rfl
@[simp] theorem State.setTx_egress_ports (s : State) (i : Nat) (x : TxPort) : (s.setTx i x).egress.ports = vset s.egress.ports i x := rfl
@[simp] theorem State.setTx_tx_self (s : State) (i : Nat) (x : TxPort) (h : i < 4) : (s.setTx i x).tx i = x := vget_vset_self _ _ _ _ h
@[simp] theorem State.setTx_tx_ne (s : State) (i : Nat) (x : TxPort) (j : Nat) (h : i ≠ j) : (s.setTx i x).tx j = s.tx j := vget_vset_ne _ _ _ _ _ h

/-! ### State.setZone -/

@[simp] theorem State.setZone_pending (s : State) (i : Nat) (x : Zone) : (s.setZone i x).pending = s.pending := rfl
@[simp] theorem State.setZone_now (s : State) (i : Nat) (x : Zone) : (s.setZone i x).now = s.now := rfl
@[simp] theorem State.setZone_later (s : State) (i : Nat) (x : Zone) : (s.setZone i x).later = s.later := rfl
@[simp] theorem State.setZone_drawn (s : State) (i : Nat) (x : Zone) : (s.setZone i x).drawn = s.drawn := rfl
@[simp] theorem State.setZone_outputs (s : State) (i : Nat) (x : Zone) : (s.setZone i x).outputs = s.outputs := rfl
@[simp] theorem State.setZone_time (s : State) (i : Nat) (x : Zone) : (s.setZone i x).time = s.time := rfl
@[simp] theorem State.setZone_ingress (s : State) (i : Nat) (x : Zone) : (s.setZone i x).ingress = s.ingress := rfl
@[simp] theorem State.setZone_front (s : State) (i : Nat) (x : Zone) : (s.setZone i x).front = s.front := rfl
@[simp] theorem State.setZone_energy (s : State) (i : Nat) (x : Zone) : (s.setZone i x).energy = s.energy := rfl
@[simp] theorem State.setZone_detect (s : State) (i : Nat) (x : Zone) : (s.setZone i x).detect = s.detect := rfl
@[simp] theorem State.setZone_kernel (s : State) (i : Nat) (x : Zone) : (s.setZone i x).kernel = s.kernel := rfl
@[simp] theorem State.setZone_egress (s : State) (i : Nat) (x : Zone) : (s.setZone i x).egress = s.egress := rfl
@[simp] theorem State.setZone_dma (s : State) (i : Nat) (x : Zone) : (s.setZone i x).dma = s.dma := rfl
@[simp] theorem State.setZone_host (s : State) (i : Nat) (x : Zone) : (s.setZone i x).host = s.host := rfl
@[simp] theorem State.setZone_pair (s : State) (i : Nat) (x : Zone) : (s.setZone i x).pair = s.pair := rfl
@[simp] theorem State.setZone_integ (s : State) (i : Nat) (x : Zone) : (s.setZone i x).integ = s.integ := rfl
@[simp] theorem State.setZone_sec (s : State) (i : Nat) (x : Zone) : (s.setZone i x).sec = s.sec := rfl
@[simp] theorem State.setZone_upd (s : State) (i : Nat) (x : Zone) : (s.setZone i x).upd = s.upd := rfl
@[simp] theorem State.setZone_align_asmQueue (s : State) (i : Nat) (x : Zone) : (s.setZone i x).align.asmQueue = s.align.asmQueue := rfl
@[simp] theorem State.setZone_align_asm (s : State) (i : Nat) (x : Zone) : (s.setZone i x).align.asm = s.align.asm := rfl
@[simp] theorem State.setZone_align_cohQueue (s : State) (i : Nat) (x : Zone) : (s.setZone i x).align.cohQueue = s.align.cohQueue := rfl
@[simp] theorem State.setZone_align_coh (s : State) (i : Nat) (x : Zone) : (s.setZone i x).align.coh = s.align.coh := rfl
@[simp] theorem State.setZone_align_bandQueue (s : State) (i : Nat) (x : Zone) : (s.setZone i x).align.bandQueue = s.align.bandQueue := rfl
@[simp] theorem State.setZone_align_band (s : State) (i : Nat) (x : Zone) : (s.setZone i x).align.band = s.align.band := rfl
@[simp] theorem State.setZone_align_stagings (s : State) (i : Nat) (x : Zone) : (s.setZone i x).align.stagings = s.align.stagings := rfl
@[simp] theorem State.setZone_align_revQueue (s : State) (i : Nat) (x : Zone) : (s.setZone i x).align.revQueue = s.align.revQueue := rfl
@[simp] theorem State.setZone_align_revArea (s : State) (i : Nat) (x : Zone) : (s.setZone i x).align.revArea = s.align.revArea := rfl
@[simp] theorem State.setZone_align_cUnzoned (s : State) (i : Nat) (x : Zone) : (s.setZone i x).align.cUnzoned = s.align.cUnzoned := rfl
@[simp] theorem State.setZone_align_cStopped (s : State) (i : Nat) (x : Zone) : (s.setZone i x).align.cStopped = s.align.cStopped := rfl
@[simp] theorem State.setZone_align_cRevQueue (s : State) (i : Nat) (x : Zone) : (s.setZone i x).align.cRevQueue = s.align.cRevQueue := rfl
@[simp] theorem State.setZone_align_cRevAbandoned (s : State) (i : Nat) (x : Zone) : (s.setZone i x).align.cRevAbandoned = s.align.cRevAbandoned := rfl
@[simp] theorem State.setZone_align_zones (s : State) (i : Nat) (x : Zone) : (s.setZone i x).align.zones = tabSet i x s.align.zones := rfl
@[simp] theorem State.setZone_zone_self (s : State) (i : Nat) (x : Zone) : (s.setZone i x).zone i = x := tabGet_tabSet_self _ _ _ _
@[simp] theorem State.setZone_zone_ne (s : State) (i : Nat) (x : Zone) (j : Nat) (h : i ≠ j) : (s.setZone i x).zone j = s.zone j := tabGet_tabSet_ne _ _ _ _ _ h

/-! ### State.setCtx -/

@[simp] theorem State.setCtx_pending (s : State) (i : Nat) (x : Ctx) : (s.setCtx i x).pending = s.pending := rfl
@[simp] theorem State.setCtx_now (s : State) (i : Nat) (x : Ctx) : (s.setCtx i x).now = s.now := rfl
@[simp] theorem State.setCtx_later (s : State) (i : Nat) (x : Ctx) : (s.setCtx i x).later = s.later := rfl
@[simp] theorem State.setCtx_drawn (s : State) (i : Nat) (x : Ctx) : (s.setCtx i x).drawn = s.drawn := rfl
@[simp] theorem State.setCtx_outputs (s : State) (i : Nat) (x : Ctx) : (s.setCtx i x).outputs = s.outputs := rfl
@[simp] theorem State.setCtx_time (s : State) (i : Nat) (x : Ctx) : (s.setCtx i x).time = s.time := rfl
@[simp] theorem State.setCtx_align (s : State) (i : Nat) (x : Ctx) : (s.setCtx i x).align = s.align := rfl
@[simp] theorem State.setCtx_front (s : State) (i : Nat) (x : Ctx) : (s.setCtx i x).front = s.front := rfl
@[simp] theorem State.setCtx_energy (s : State) (i : Nat) (x : Ctx) : (s.setCtx i x).energy = s.energy := rfl
@[simp] theorem State.setCtx_detect (s : State) (i : Nat) (x : Ctx) : (s.setCtx i x).detect = s.detect := rfl
@[simp] theorem State.setCtx_kernel (s : State) (i : Nat) (x : Ctx) : (s.setCtx i x).kernel = s.kernel := rfl
@[simp] theorem State.setCtx_egress (s : State) (i : Nat) (x : Ctx) : (s.setCtx i x).egress = s.egress := rfl
@[simp] theorem State.setCtx_dma (s : State) (i : Nat) (x : Ctx) : (s.setCtx i x).dma = s.dma := rfl
@[simp] theorem State.setCtx_host (s : State) (i : Nat) (x : Ctx) : (s.setCtx i x).host = s.host := rfl
@[simp] theorem State.setCtx_pair (s : State) (i : Nat) (x : Ctx) : (s.setCtx i x).pair = s.pair := rfl
@[simp] theorem State.setCtx_integ (s : State) (i : Nat) (x : Ctx) : (s.setCtx i x).integ = s.integ := rfl
@[simp] theorem State.setCtx_sec (s : State) (i : Nat) (x : Ctx) : (s.setCtx i x).sec = s.sec := rfl
@[simp] theorem State.setCtx_upd (s : State) (i : Nat) (x : Ctx) : (s.setCtx i x).upd = s.upd := rfl
@[simp] theorem State.setCtx_sys (s : State) (i : Nat) (x : Ctx) : (s.setCtx i x).sys = s.sys := rfl
@[simp] theorem State.setCtx_ingress_ports (s : State) (i : Nat) (x : Ctx) : (s.setCtx i x).ingress.ports = s.ingress.ports := rfl
@[simp] theorem State.setCtx_ingress_streamPorts (s : State) (i : Nat) (x : Ctx) : (s.setCtx i x).ingress.streamPorts = s.ingress.streamPorts := rfl
@[simp] theorem State.setCtx_ingress_classMap (s : State) (i : Nat) (x : Ctx) : (s.setCtx i x).ingress.classMap = s.ingress.classMap := rfl
@[simp] theorem State.setCtx_ingress_rings (s : State) (i : Nat) (x : Ctx) : (s.setCtx i x).ingress.rings = s.ingress.rings := rfl
@[simp] theorem State.setCtx_ingress_toParser (s : State) (i : Nat) (x : Ctx) : (s.setCtx i x).ingress.toParser = s.ingress.toParser := rfl
@[simp] theorem State.setCtx_ingress_toBind (s : State) (i : Nat) (x : Ctx) : (s.setCtx i x).ingress.toBind = s.ingress.toBind := rfl
@[simp] theorem State.setCtx_ingress_toInsert (s : State) (i : Nat) (x : Ctx) : (s.setCtx i x).ingress.toInsert = s.ingress.toInsert := rfl
@[simp] theorem State.setCtx_ingress_checks (s : State) (i : Nat) (x : Ctx) : (s.setCtx i x).ingress.checks = s.ingress.checks := rfl
@[simp] theorem State.setCtx_ingress_reasm (s : State) (i : Nat) (x : Ctx) : (s.setCtx i x).ingress.reasm = s.ingress.reasm := rfl
@[simp] theorem State.setCtx_ingress_toSupervisor (s : State) (i : Nat) (x : Ctx) : (s.setCtx i x).ingress.toSupervisor = s.ingress.toSupervisor := rfl
@[simp] theorem State.setCtx_ingress_tcpBucket (s : State) (i : Nat) (x : Ctx) : (s.setCtx i x).ingress.tcpBucket = s.ingress.tcpBucket := rfl
@[simp] theorem State.setCtx_ingress_frameBucket (s : State) (i : Nat) (x : Ctx) : (s.setCtx i x).ingress.frameBucket = s.ingress.frameBucket := rfl
@[simp] theorem State.setCtx_ingress_phasorBucket (s : State) (i : Nat) (x : Ctx) : (s.setCtx i x).ingress.phasorBucket = s.ingress.phasorBucket := rfl
@[simp] theorem State.setCtx_ingress_cUdpChk (s : State) (i : Nat) (x : Ctx) : (s.setCtx i x).ingress.cUdpChk = s.ingress.cUdpChk := rfl
@[simp] theorem State.setCtx_ingress_cSync (s : State) (i : Nat) (x : Ctx) : (s.setCtx i x).ingress.cSync = s.ingress.cSync := rfl
@[simp] theorem State.setCtx_ingress_cSizeErr (s : State) (i : Nat) (x : Ctx) : (s.setCtx i x).ingress.cSizeErr = s.ingress.cSizeErr := rfl
@[simp] theorem State.setCtx_ingress_cChk (s : State) (i : Nat) (x : Ctx) : (s.setCtx i x).ingress.cChk = s.ingress.cChk := rfl
@[simp] theorem State.setCtx_ingress_cTag (s : State) (i : Nat) (x : Ctx) : (s.setCtx i x).ingress.cTag = s.ingress.cTag := rfl
@[simp] theorem State.setCtx_ingress_cUnknown (s : State) (i : Nat) (x : Ctx) : (s.setCtx i x).ingress.cUnknown = s.ingress.cUnknown := rfl
@[simp] theorem State.setCtx_ingress_cOver (s : State) (i : Nat) (x : Ctx) : (s.setCtx i x).ingress.cOver = s.ingress.cOver := rfl
@[simp] theorem State.setCtx_ingress_cFragTimeout (s : State) (i : Nat) (x : Ctx) : (s.setCtx i x).ingress.cFragTimeout = s.ingress.cFragTimeout := rfl
@[simp] theorem State.setCtx_ingress_cFragDrop (s : State) (i : Nat) (x : Ctx) : (s.setCtx i x).ingress.cFragDrop = s.ingress.cFragDrop := rfl
@[simp] theorem State.setCtx_ingress_cTcpTimeout (s : State) (i : Nat) (x : Ctx) : (s.setCtx i x).ingress.cTcpTimeout = s.ingress.cTcpTimeout := rfl
@[simp] theorem State.setCtx_ingress_cClassDrop (s : State) (i : Nat) (x : Ctx) : (s.setCtx i x).ingress.cClassDrop = s.ingress.cClassDrop := rfl
@[simp] theorem State.setCtx_ingress_ctxs (s : State) (i : Nat) (x : Ctx) : (s.setCtx i x).ingress.ctxs = tabSet i x s.ingress.ctxs := rfl
@[simp] theorem State.setCtx_ctx_self (s : State) (i : Nat) (x : Ctx) : (s.setCtx i x).ctx i = x := tabGet_tabSet_self _ _ _ _
@[simp] theorem State.setCtx_ctx_ne (s : State) (i : Nat) (x : Ctx) (j : Nat) (h : i ≠ j) : (s.setCtx i x).ctx j = s.ctx j := tabGet_tabSet_ne _ _ _ _ _ h

/-! ### State.setInput -/

@[simp] theorem State.setInput_pending (s : State) (i : Nat) (x : InputSt) : (s.setInput i x).pending = s.pending := rfl
@[simp] theorem State.setInput_now (s : State) (i : Nat) (x : InputSt) : (s.setInput i x).now = s.now := rfl
@[simp] theorem State.setInput_later (s : State) (i : Nat) (x : InputSt) : (s.setInput i x).later = s.later := rfl
@[simp] theorem State.setInput_drawn (s : State) (i : Nat) (x : InputSt) : (s.setInput i x).drawn = s.drawn := rfl
@[simp] theorem State.setInput_outputs (s : State) (i : Nat) (x : InputSt) : (s.setInput i x).outputs = s.outputs := rfl
@[simp] theorem State.setInput_time (s : State) (i : Nat) (x : InputSt) : (s.setInput i x).time = s.time := rfl
@[simp] theorem State.setInput_ingress (s : State) (i : Nat) (x : InputSt) : (s.setInput i x).ingress = s.ingress := rfl
@[simp] theorem State.setInput_align (s : State) (i : Nat) (x : InputSt) : (s.setInput i x).align = s.align := rfl
@[simp] theorem State.setInput_energy (s : State) (i : Nat) (x : InputSt) : (s.setInput i x).energy = s.energy := rfl
@[simp] theorem State.setInput_detect (s : State) (i : Nat) (x : InputSt) : (s.setInput i x).detect = s.detect := rfl
@[simp] theorem State.setInput_kernel (s : State) (i : Nat) (x : InputSt) : (s.setInput i x).kernel = s.kernel := rfl
@[simp] theorem State.setInput_egress (s : State) (i : Nat) (x : InputSt) : (s.setInput i x).egress = s.egress := rfl
@[simp] theorem State.setInput_dma (s : State) (i : Nat) (x : InputSt) : (s.setInput i x).dma = s.dma := rfl
@[simp] theorem State.setInput_host (s : State) (i : Nat) (x : InputSt) : (s.setInput i x).host = s.host := rfl
@[simp] theorem State.setInput_pair (s : State) (i : Nat) (x : InputSt) : (s.setInput i x).pair = s.pair := rfl
@[simp] theorem State.setInput_integ (s : State) (i : Nat) (x : InputSt) : (s.setInput i x).integ = s.integ := rfl
@[simp] theorem State.setInput_sec (s : State) (i : Nat) (x : InputSt) : (s.setInput i x).sec = s.sec := rfl
@[simp] theorem State.setInput_upd (s : State) (i : Nat) (x : InputSt) : (s.setInput i x).upd = s.upd := rfl
@[simp] theorem State.setInput_front_preset (s : State) (i : Nat) (x : InputSt) : (s.setInput i x).front.preset = s.front.preset := rfl
@[simp] theorem State.setInput_front_firMin (s : State) (i : Nat) (x : InputSt) : (s.setInput i x).front.firMin = s.front.firMin := rfl
@[simp] theorem State.setInput_front_fnom50 (s : State) (i : Nat) (x : InputSt) : (s.setInput i x).front.fnom50 = s.front.fnom50 := rfl
@[simp] theorem State.setInput_front_ranges (s : State) (i : Nat) (x : InputSt) : (s.setInput i x).front.ranges = s.front.ranges := rfl
@[simp] theorem State.setInput_front_chans (s : State) (i : Nat) (x : InputSt) : (s.setInput i x).front.chans = s.front.chans := rfl
@[simp] theorem State.setInput_front_locals_ (s : State) (i : Nat) (x : InputSt) : (s.setInput i x).front.locals_ = s.front.locals_ := rfl
@[simp] theorem State.setInput_front_cPreset (s : State) (i : Nat) (x : InputSt) : (s.setInput i x).front.cPreset = s.front.cPreset := rfl
@[simp] theorem State.setInput_front_cLocalAbsent (s : State) (i : Nat) (x : InputSt) : (s.setInput i x).front.cLocalAbsent = s.front.cLocalAbsent := rfl
@[simp] theorem State.setInput_front_inputs (s : State) (i : Nat) (x : InputSt) : (s.setInput i x).front.inputs = vset s.front.inputs i x := rfl
@[simp] theorem State.setInput_input_self (s : State) (i : Nat) (x : InputSt) (h : i < 24) : (s.setInput i x).input i = x := vget_vset_self _ _ _ _ h
@[simp] theorem State.setInput_input_ne (s : State) (i : Nat) (x : InputSt) (j : Nat) (h : i ≠ j) : (s.setInput i x).input j = s.input j := vget_vset_ne _ _ _ _ _ h

/-! ### State.setChan -/

@[simp] theorem State.setChan_pending (s : State) (i : Nat) (x : ChanSt) : (s.setChan i x).pending = s.pending := rfl
@[simp] theorem State.setChan_now (s : State) (i : Nat) (x : ChanSt) : (s.setChan i x).now = s.now := rfl
@[simp] theorem State.setChan_later (s : State) (i : Nat) (x : ChanSt) : (s.setChan i x).later = s.later := rfl
@[simp] theorem State.setChan_drawn (s : State) (i : Nat) (x : ChanSt) : (s.setChan i x).drawn = s.drawn := rfl
@[simp] theorem State.setChan_outputs (s : State) (i : Nat) (x : ChanSt) : (s.setChan i x).outputs = s.outputs := rfl
@[simp] theorem State.setChan_time (s : State) (i : Nat) (x : ChanSt) : (s.setChan i x).time = s.time := rfl
@[simp] theorem State.setChan_ingress (s : State) (i : Nat) (x : ChanSt) : (s.setChan i x).ingress = s.ingress := rfl
@[simp] theorem State.setChan_align (s : State) (i : Nat) (x : ChanSt) : (s.setChan i x).align = s.align := rfl
@[simp] theorem State.setChan_energy (s : State) (i : Nat) (x : ChanSt) : (s.setChan i x).energy = s.energy := rfl
@[simp] theorem State.setChan_detect (s : State) (i : Nat) (x : ChanSt) : (s.setChan i x).detect = s.detect := rfl
@[simp] theorem State.setChan_kernel (s : State) (i : Nat) (x : ChanSt) : (s.setChan i x).kernel = s.kernel := rfl
@[simp] theorem State.setChan_egress (s : State) (i : Nat) (x : ChanSt) : (s.setChan i x).egress = s.egress := rfl
@[simp] theorem State.setChan_dma (s : State) (i : Nat) (x : ChanSt) : (s.setChan i x).dma = s.dma := rfl
@[simp] theorem State.setChan_host (s : State) (i : Nat) (x : ChanSt) : (s.setChan i x).host = s.host := rfl
@[simp] theorem State.setChan_pair (s : State) (i : Nat) (x : ChanSt) : (s.setChan i x).pair = s.pair := rfl
@[simp] theorem State.setChan_integ (s : State) (i : Nat) (x : ChanSt) : (s.setChan i x).integ = s.integ := rfl
@[simp] theorem State.setChan_sec (s : State) (i : Nat) (x : ChanSt) : (s.setChan i x).sec = s.sec := rfl
@[simp] theorem State.setChan_upd (s : State) (i : Nat) (x : ChanSt) : (s.setChan i x).upd = s.upd := rfl
@[simp] theorem State.setChan_sys (s : State) (i : Nat) (x : ChanSt) : (s.setChan i x).sys = s.sys := rfl
@[simp] theorem State.setChan_front_preset (s : State) (i : Nat) (x : ChanSt) : (s.setChan i x).front.preset = s.front.preset := rfl
@[simp] theorem State.setChan_front_firMin (s : State) (i : Nat) (x : ChanSt) : (s.setChan i x).front.firMin = s.front.firMin := rfl
@[simp] theorem State.setChan_front_fnom50 (s : State) (i : Nat) (x : ChanSt) : (s.setChan i x).front.fnom50 = s.front.fnom50 := rfl
@[simp] theorem State.setChan_front_inputs (s : State) (i : Nat) (x : ChanSt) : (s.setChan i x).front.inputs = s.front.inputs := rfl
@[simp] theorem State.setChan_front_ranges (s : State) (i : Nat) (x : ChanSt) : (s.setChan i x).front.ranges = s.front.ranges := rfl
@[simp] theorem State.setChan_front_locals_ (s : State) (i : Nat) (x : ChanSt) : (s.setChan i x).front.locals_ = s.front.locals_ := rfl
@[simp] theorem State.setChan_front_cPreset (s : State) (i : Nat) (x : ChanSt) : (s.setChan i x).front.cPreset = s.front.cPreset := rfl
@[simp] theorem State.setChan_front_cLocalAbsent (s : State) (i : Nat) (x : ChanSt) : (s.setChan i x).front.cLocalAbsent = s.front.cLocalAbsent := rfl
@[simp] theorem State.setChan_front_chans (s : State) (i : Nat) (x : ChanSt) : (s.setChan i x).front.chans = vset s.front.chans i x := rfl
@[simp] theorem State.setChan_chan_self (s : State) (i : Nat) (x : ChanSt) (h : i < 16) : (s.setChan i x).chan i = x := vget_vset_self _ _ _ _ h
@[simp] theorem State.setChan_chan_ne (s : State) (i : Nat) (x : ChanSt) (j : Nat) (h : i ≠ j) : (s.setChan i x).chan j = s.chan j := vget_vset_ne _ _ _ _ _ h

/-! ### State.setRange -/

@[simp] theorem State.setRange_pending (s : State) (i : Nat) (x : RangeSt) : (s.setRange i x).pending = s.pending := rfl
@[simp] theorem State.setRange_now (s : State) (i : Nat) (x : RangeSt) : (s.setRange i x).now = s.now := rfl
@[simp] theorem State.setRange_later (s : State) (i : Nat) (x : RangeSt) : (s.setRange i x).later = s.later := rfl
@[simp] theorem State.setRange_drawn (s : State) (i : Nat) (x : RangeSt) : (s.setRange i x).drawn = s.drawn := rfl
@[simp] theorem State.setRange_outputs (s : State) (i : Nat) (x : RangeSt) : (s.setRange i x).outputs = s.outputs := rfl
@[simp] theorem State.setRange_time (s : State) (i : Nat) (x : RangeSt) : (s.setRange i x).time = s.time := rfl
@[simp] theorem State.setRange_ingress (s : State) (i : Nat) (x : RangeSt) : (s.setRange i x).ingress = s.ingress := rfl
@[simp] theorem State.setRange_align (s : State) (i : Nat) (x : RangeSt) : (s.setRange i x).align = s.align := rfl
@[simp] theorem State.setRange_energy (s : State) (i : Nat) (x : RangeSt) : (s.setRange i x).energy = s.energy := rfl
@[simp] theorem State.setRange_detect (s : State) (i : Nat) (x : RangeSt) : (s.setRange i x).detect = s.detect := rfl
@[simp] theorem State.setRange_kernel (s : State) (i : Nat) (x : RangeSt) : (s.setRange i x).kernel = s.kernel := rfl
@[simp] theorem State.setRange_egress (s : State) (i : Nat) (x : RangeSt) : (s.setRange i x).egress = s.egress := rfl
@[simp] theorem State.setRange_dma (s : State) (i : Nat) (x : RangeSt) : (s.setRange i x).dma = s.dma := rfl
@[simp] theorem State.setRange_host (s : State) (i : Nat) (x : RangeSt) : (s.setRange i x).host = s.host := rfl
@[simp] theorem State.setRange_pair (s : State) (i : Nat) (x : RangeSt) : (s.setRange i x).pair = s.pair := rfl
@[simp] theorem State.setRange_integ (s : State) (i : Nat) (x : RangeSt) : (s.setRange i x).integ = s.integ := rfl
@[simp] theorem State.setRange_sec (s : State) (i : Nat) (x : RangeSt) : (s.setRange i x).sec = s.sec := rfl
@[simp] theorem State.setRange_upd (s : State) (i : Nat) (x : RangeSt) : (s.setRange i x).upd = s.upd := rfl
@[simp] theorem State.setRange_sys (s : State) (i : Nat) (x : RangeSt) : (s.setRange i x).sys = s.sys := rfl
@[simp] theorem State.setRange_front_preset (s : State) (i : Nat) (x : RangeSt) : (s.setRange i x).front.preset = s.front.preset := rfl
@[simp] theorem State.setRange_front_firMin (s : State) (i : Nat) (x : RangeSt) : (s.setRange i x).front.firMin = s.front.firMin := rfl
@[simp] theorem State.setRange_front_fnom50 (s : State) (i : Nat) (x : RangeSt) : (s.setRange i x).front.fnom50 = s.front.fnom50 := rfl
@[simp] theorem State.setRange_front_inputs (s : State) (i : Nat) (x : RangeSt) : (s.setRange i x).front.inputs = s.front.inputs := rfl
@[simp] theorem State.setRange_front_chans (s : State) (i : Nat) (x : RangeSt) : (s.setRange i x).front.chans = s.front.chans := rfl
@[simp] theorem State.setRange_front_locals_ (s : State) (i : Nat) (x : RangeSt) : (s.setRange i x).front.locals_ = s.front.locals_ := rfl
@[simp] theorem State.setRange_front_cPreset (s : State) (i : Nat) (x : RangeSt) : (s.setRange i x).front.cPreset = s.front.cPreset := rfl
@[simp] theorem State.setRange_front_cLocalAbsent (s : State) (i : Nat) (x : RangeSt) : (s.setRange i x).front.cLocalAbsent = s.front.cLocalAbsent := rfl
@[simp] theorem State.setRange_front_ranges (s : State) (i : Nat) (x : RangeSt) : (s.setRange i x).front.ranges = vset s.front.ranges i x := rfl
@[simp] theorem State.setRange_range_self (s : State) (i : Nat) (x : RangeSt) (h : i < 8) : (s.setRange i x).range i = x := vget_vset_self _ _ _ _ h
@[simp] theorem State.setRange_range_ne (s : State) (i : Nat) (x : RangeSt) (j : Nat) (h : i ≠ j) : (s.setRange i x).range j = s.range j := vget_vset_ne _ _ _ _ _ h

/-! ### State.setVec -/

@[simp] theorem State.setVec_pending (s : State) (i : Nat) (x : MsixVec) : (s.setVec i x).pending = s.pending := rfl
@[simp] theorem State.setVec_now (s : State) (i : Nat) (x : MsixVec) : (s.setVec i x).now = s.now := rfl
@[simp] theorem State.setVec_later (s : State) (i : Nat) (x : MsixVec) : (s.setVec i x).later = s.later := rfl
@[simp] theorem State.setVec_drawn (s : State) (i : Nat) (x : MsixVec) : (s.setVec i x).drawn = s.drawn := rfl
@[simp] theorem State.setVec_outputs (s : State) (i : Nat) (x : MsixVec) : (s.setVec i x).outputs = s.outputs := rfl
@[simp] theorem State.setVec_time (s : State) (i : Nat) (x : MsixVec) : (s.setVec i x).time = s.time := rfl
@[simp] theorem State.setVec_ingress (s : State) (i : Nat) (x : MsixVec) : (s.setVec i x).ingress = s.ingress := rfl
@[simp] theorem State.setVec_align (s : State) (i : Nat) (x : MsixVec) : (s.setVec i x).align = s.align := rfl
@[simp] theorem State.setVec_front (s : State) (i : Nat) (x : MsixVec) : (s.setVec i x).front = s.front := rfl
@[simp] theorem State.setVec_energy (s : State) (i : Nat) (x : MsixVec) : (s.setVec i x).energy = s.energy := rfl
@[simp] theorem State.setVec_detect (s : State) (i : Nat) (x : MsixVec) : (s.setVec i x).detect = s.detect := rfl
@[simp] theorem State.setVec_kernel (s : State) (i : Nat) (x : MsixVec) : (s.setVec i x).kernel = s.kernel := rfl
@[simp] theorem State.setVec_egress (s : State) (i : Nat) (x : MsixVec) : (s.setVec i x).egress = s.egress := rfl
@[simp] theorem State.setVec_dma (s : State) (i : Nat) (x : MsixVec) : (s.setVec i x).dma = s.dma := rfl
@[simp] theorem State.setVec_pair (s : State) (i : Nat) (x : MsixVec) : (s.setVec i x).pair = s.pair := rfl
@[simp] theorem State.setVec_integ (s : State) (i : Nat) (x : MsixVec) : (s.setVec i x).integ = s.integ := rfl
@[simp] theorem State.setVec_sec (s : State) (i : Nat) (x : MsixVec) : (s.setVec i x).sec = s.sec := rfl
@[simp] theorem State.setVec_upd (s : State) (i : Nat) (x : MsixVec) : (s.setVec i x).upd = s.upd := rfl
@[simp] theorem State.setVec_sys (s : State) (i : Nat) (x : MsixVec) : (s.setVec i x).sys = s.sys := rfl
@[simp] theorem State.setVec_host_ring (s : State) (i : Nat) (x : MsixVec) : (s.setVec i x).host.ring = s.host.ring := rfl
@[simp] theorem State.setVec_host_mgmt (s : State) (i : Nat) (x : MsixVec) : (s.setVec i x).host.mgmt = s.host.mgmt := rfl
@[simp] theorem State.setVec_host_svc (s : State) (i : Nat) (x : MsixVec) : (s.setVec i x).host.svc = s.host.svc := rfl
@[simp] theorem State.setVec_host_waiting (s : State) (i : Nat) (x : MsixVec) : (s.setVec i x).host.waiting = s.host.waiting := rfl
@[simp] theorem State.setVec_host_executing (s : State) (i : Nat) (x : MsixVec) : (s.setVec i x).host.executing = s.host.executing := rfl
@[simp] theorem State.setVec_host_pcieUp (s : State) (i : Nat) (x : MsixVec) : (s.setVec i x).host.pcieUp = s.host.pcieUp := rfl
@[simp] theorem State.setVec_host_busMaster (s : State) (i : Nat) (x : MsixVec) : (s.setVec i x).host.busMaster = s.host.busMaster := rfl
@[simp] theorem State.setVec_host_payload (s : State) (i : Nat) (x : MsixVec) : (s.setVec i x).host.payload = s.host.payload := rfl
@[simp] theorem State.setVec_host_readSize (s : State) (i : Nat) (x : MsixVec) : (s.setVec i x).host.readSize = s.host.readSize := rfl
@[simp] theorem State.setVec_host_pci (s : State) (i : Nat) (x : MsixVec) : (s.setVec i x).host.pci = s.host.pci := rfl
@[simp] theorem State.setVec_host_cmdBase (s : State) (i : Nat) (x : MsixVec) : (s.setVec i x).host.cmdBase = s.host.cmdBase := rfl
@[simp] theorem State.setVec_host_cplBase (s : State) (i : Nat) (x : MsixVec) : (s.setVec i x).host.cplBase = s.host.cplBase := rfl
@[simp] theorem State.setVec_host_ringEnable (s : State) (i : Nat) (x : MsixVec) : (s.setVec i x).host.ringEnable = s.host.ringEnable := rfl
@[simp] theorem State.setVec_host_log2 (s : State) (i : Nat) (x : MsixVec) : (s.setVec i x).host.log2 = s.host.log2 := rfl
@[simp] theorem State.setVec_host_cmdTail (s : State) (i : Nat) (x : MsixVec) : (s.setVec i x).host.cmdTail = s.host.cmdTail := rfl
@[simp] theorem State.setVec_host_cmdHead (s : State) (i : Nat) (x : MsixVec) : (s.setVec i x).host.cmdHead = s.host.cmdHead := rfl
@[simp] theorem State.setVec_host_cplHead (s : State) (i : Nat) (x : MsixVec) : (s.setVec i x).host.cplHead = s.host.cplHead := rfl
@[simp] theorem State.setVec_host_cplTail (s : State) (i : Nat) (x : MsixVec) : (s.setVec i x).host.cplTail = s.host.cplTail := rfl
@[simp] theorem State.setVec_host_cfgErr (s : State) (i : Nat) (x : MsixVec) : (s.setVec i x).host.cfgErr = s.host.cfgErr := rfl
@[simp] theorem State.setVec_host_doorbellErr (s : State) (i : Nat) (x : MsixVec) : (s.setVec i x).host.doorbellErr = s.host.doorbellErr := rfl
@[simp] theorem State.setVec_host_slots (s : State) (i : Nat) (x : MsixVec) : (s.setVec i x).host.slots = s.host.slots := rfl
@[simp] theorem State.setVec_host_scratch (s : State) (i : Nat) (x : MsixVec) : (s.setVec i x).host.scratch = s.host.scratch := rfl
@[simp] theorem State.setVec_host_cause (s : State) (i : Nat) (x : MsixVec) : (s.setVec i x).host.cause = s.host.cause := rfl
@[simp] theorem State.setVec_host_mask (s : State) (i : Nat) (x : MsixVec) : (s.setVec i x).host.mask = s.host.mask := rfl
@[simp] theorem State.setVec_host_map (s : State) (i : Nat) (x : MsixVec) : (s.setVec i x).host.map = s.host.map := rfl
@[simp] theorem State.setVec_host_gapUs (s : State) (i : Nat) (x : MsixVec) : (s.setVec i x).host.gapUs = s.host.gapUs := rfl
@[simp] theorem State.setVec_host_cmdReady (s : State) (i : Nat) (x : MsixVec) : (s.setVec i x).host.cmdReady = s.host.cmdReady := rfl
@[simp] theorem State.setVec_host_mgmtCfg (s : State) (i : Nat) (x : MsixVec) : (s.setVec i x).host.mgmtCfg = s.host.mgmtCfg := rfl
@[simp] theorem State.setVec_host_mgmtNext (s : State) (i : Nat) (x : MsixVec) : (s.setVec i x).host.mgmtNext = s.host.mgmtNext := rfl
@[simp] theorem State.setVec_host_mgmtLink (s : State) (i : Nat) (x : MsixVec) : (s.setVec i x).host.mgmtLink = s.host.mgmtLink := rfl
@[simp] theorem State.setVec_host_bastik (s : State) (i : Nat) (x : MsixVec) : (s.setVec i x).host.bastik = s.host.bastik := rfl
@[simp] theorem State.setVec_host_journal (s : State) (i : Nat) (x : MsixVec) : (s.setVec i x).host.journal = s.host.journal := rfl
@[simp] theorem State.setVec_host_nextJseq (s : State) (i : Nat) (x : MsixVec) : (s.setVec i x).host.nextJseq = s.host.nextJseq := rfl
@[simp] theorem State.setVec_host_route (s : State) (i : Nat) (x : MsixVec) : (s.setVec i x).host.route = s.host.route := rfl
@[simp] theorem State.setVec_host_settings (s : State) (i : Nat) (x : MsixVec) : (s.setVec i x).host.settings = s.host.settings := rfl
@[simp] theorem State.setVec_host_dirty (s : State) (i : Nat) (x : MsixVec) : (s.setVec i x).host.dirty = s.host.dirty := rfl
@[simp] theorem State.setVec_host_warmDue (s : State) (i : Nat) (x : MsixVec) : (s.setVec i x).host.warmDue = s.host.warmDue := rfl
@[simp] theorem State.setVec_host_cOverwrites (s : State) (i : Nat) (x : MsixVec) : (s.setVec i x).host.cOverwrites = s.host.cOverwrites := rfl
@[simp] theorem State.setVec_host_cRouteDrops (s : State) (i : Nat) (x : MsixVec) : (s.setVec i x).host.cRouteDrops = s.host.cRouteDrops := rfl
@[simp] theorem State.setVec_host_cUnprotected (s : State) (i : Nat) (x : MsixVec) : (s.setVec i x).host.cUnprotected = s.host.cUnprotected := rfl
@[simp] theorem State.setVec_host_msix (s : State) (i : Nat) (x : MsixVec) : (s.setVec i x).host.msix = vset s.host.msix i x := rfl
@[simp] theorem State.setVec_vec_self (s : State) (i : Nat) (x : MsixVec) (h : i < 32) : (s.setVec i x).vec i = x := vget_vset_self _ _ _ _ h
@[simp] theorem State.setVec_vec_ne (s : State) (i : Nat) (x : MsixVec) (j : Nat) (h : i ≠ j) : (s.setVec i x).vec j = s.vec j := vget_vset_ne _ _ _ _ _ h

/-! ### State.setEngine -/

@[simp] theorem State.setEngine_pending (s : State) (i : Nat) (x : Engine) : (s.setEngine i x).pending = s.pending := rfl
@[simp] theorem State.setEngine_now (s : State) (i : Nat) (x : Engine) : (s.setEngine i x).now = s.now := rfl
@[simp] theorem State.setEngine_later (s : State) (i : Nat) (x : Engine) : (s.setEngine i x).later = s.later := rfl
@[simp] theorem State.setEngine_drawn (s : State) (i : Nat) (x : Engine) : (s.setEngine i x).drawn = s.drawn := rfl
@[simp] theorem State.setEngine_outputs (s : State) (i : Nat) (x : Engine) : (s.setEngine i x).outputs = s.outputs := rfl
@[simp] theorem State.setEngine_time (s : State) (i : Nat) (x : Engine) : (s.setEngine i x).time = s.time := rfl
@[simp] theorem State.setEngine_ingress (s : State) (i : Nat) (x : Engine) : (s.setEngine i x).ingress = s.ingress := rfl
@[simp] theorem State.setEngine_align (s : State) (i : Nat) (x : Engine) : (s.setEngine i x).align = s.align := rfl
@[simp] theorem State.setEngine_front (s : State) (i : Nat) (x : Engine) : (s.setEngine i x).front = s.front := rfl
@[simp] theorem State.setEngine_energy (s : State) (i : Nat) (x : Engine) : (s.setEngine i x).energy = s.energy := rfl
@[simp] theorem State.setEngine_detect (s : State) (i : Nat) (x : Engine) : (s.setEngine i x).detect = s.detect := rfl
@[simp] theorem State.setEngine_egress (s : State) (i : Nat) (x : Engine) : (s.setEngine i x).egress = s.egress := rfl
@[simp] theorem State.setEngine_dma (s : State) (i : Nat) (x : Engine) : (s.setEngine i x).dma = s.dma := rfl
@[simp] theorem State.setEngine_host (s : State) (i : Nat) (x : Engine) : (s.setEngine i x).host = s.host := rfl
@[simp] theorem State.setEngine_pair (s : State) (i : Nat) (x : Engine) : (s.setEngine i x).pair = s.pair := rfl
@[simp] theorem State.setEngine_integ (s : State) (i : Nat) (x : Engine) : (s.setEngine i x).integ = s.integ := rfl
@[simp] theorem State.setEngine_sec (s : State) (i : Nat) (x : Engine) : (s.setEngine i x).sec = s.sec := rfl
@[simp] theorem State.setEngine_upd (s : State) (i : Nat) (x : Engine) : (s.setEngine i x).upd = s.upd := rfl
@[simp] theorem State.setEngine_sys (s : State) (i : Nat) (x : Engine) : (s.setEngine i x).sys = s.sys := rfl
@[simp] theorem State.setEngine_kernel_flows (s : State) (i : Nat) (x : Engine) : (s.setEngine i x).kernel.flows = s.kernel.flows := rfl
@[simp] theorem State.setEngine_kernel_tables (s : State) (i : Nat) (x : Engine) : (s.setEngine i x).kernel.tables = s.kernel.tables := rfl
@[simp] theorem State.setEngine_kernel_chunks (s : State) (i : Nat) (x : Engine) : (s.setEngine i x).kernel.chunks = s.kernel.chunks := rfl
@[simp] theorem State.setEngine_kernel_plan (s : State) (i : Nat) (x : Engine) : (s.setEngine i x).kernel.plan = s.kernel.plan := rfl
@[simp] theorem State.setEngine_kernel_queue (s : State) (i : Nat) (x : Engine) : (s.setEngine i x).kernel.queue = s.kernel.queue := rfl
@[simp] theorem State.setEngine_kernel_rob (s : State) (i : Nat) (x : Engine) : (s.setEngine i x).kernel.rob = s.kernel.rob := rfl
@[simp] theorem State.setEngine_kernel_robNext (s : State) (i : Nat) (x : Engine) : (s.setEngine i x).kernel.robNext = s.kernel.robNext := rfl
@[simp] theorem State.setEngine_kernel_posts (s : State) (i : Nat) (x : Engine) : (s.setEngine i x).kernel.posts = s.kernel.posts := rfl
@[simp] theorem State.setEngine_kernel_drained (s : State) (i : Nat) (x : Engine) : (s.setEngine i x).kernel.drained = s.kernel.drained := rfl
@[simp] theorem State.setEngine_kernel_busyLog (s : State) (i : Nat) (x : Engine) : (s.setEngine i x).kernel.busyLog = s.kernel.busyLog := rfl
@[simp] theorem State.setEngine_kernel_peakQueue (s : State) (i : Nat) (x : Engine) : (s.setEngine i x).kernel.peakQueue = s.kernel.peakQueue := rfl
@[simp] theorem State.setEngine_kernel_peakRob (s : State) (i : Nat) (x : Engine) : (s.setEngine i x).kernel.peakRob = s.kernel.peakRob := rfl
@[simp] theorem State.setEngine_kernel_cQueued (s : State) (i : Nat) (x : Engine) : (s.setEngine i x).kernel.cQueued = s.kernel.cQueued := rfl
@[simp] theorem State.setEngine_kernel_cDispatched (s : State) (i : Nat) (x : Engine) : (s.setEngine i x).kernel.cDispatched = s.kernel.cDispatched := rfl
@[simp] theorem State.setEngine_kernel_cPosted (s : State) (i : Nat) (x : Engine) : (s.setEngine i x).kernel.cPosted = s.kernel.cPosted := rfl
@[simp] theorem State.setEngine_kernel_cRemoved (s : State) (i : Nat) (x : Engine) : (s.setEngine i x).kernel.cRemoved = s.kernel.cRemoved := rfl
@[simp] theorem State.setEngine_kernel_cDiscarded (s : State) (i : Nat) (x : Engine) : (s.setEngine i x).kernel.cDiscarded = s.kernel.cDiscarded := rfl
@[simp] theorem State.setEngine_kernel_cRetries (s : State) (i : Nat) (x : Engine) : (s.setEngine i x).kernel.cRetries = s.kernel.cRetries := rfl
@[simp] theorem State.setEngine_kernel_cRetriesPosted (s : State) (i : Nat) (x : Engine) : (s.setEngine i x).kernel.cRetriesPosted = s.kernel.cRetriesPosted := rfl
@[simp] theorem State.setEngine_kernel_cStalls (s : State) (i : Nat) (x : Engine) : (s.setEngine i x).kernel.cStalls = s.kernel.cStalls := rfl
@[simp] theorem State.setEngine_kernel_cNotPosted (s : State) (i : Nat) (x : Engine) : (s.setEngine i x).kernel.cNotPosted = s.kernel.cNotPosted := rfl
@[simp] theorem State.setEngine_kernel_engines (s : State) (i : Nat) (x : Engine) : (s.setEngine i x).kernel.engines = vset s.kernel.engines i x := rfl
@[simp] theorem State.setEngine_engine_self (s : State) (i : Nat) (x : Engine) (h : i < 12) : (s.setEngine i x).engine i = x := vget_vset_self _ _ _ _ h
@[simp] theorem State.setEngine_engine_ne (s : State) (i : Nat) (x : Engine) (j : Nat) (h : i ≠ j) : (s.setEngine i x).engine j = s.engine j := vget_vset_ne _ _ _ _ _ h

/-! ### State.setLink -/

@[simp] theorem State.setLink_pending (s : State) (i : Nat) (x : PeerLink) : (s.setLink i x).pending = s.pending := rfl
@[simp] theorem State.setLink_now (s : State) (i : Nat) (x : PeerLink) : (s.setLink i x).now = s.now := rfl
@[simp] theorem State.setLink_later (s : State) (i : Nat) (x : PeerLink) : (s.setLink i x).later = s.later := rfl
@[simp] theorem State.setLink_drawn (s : State) (i : Nat) (x : PeerLink) : (s.setLink i x).drawn = s.drawn := rfl
@[simp] theorem State.setLink_outputs (s : State) (i : Nat) (x : PeerLink) : (s.setLink i x).outputs = s.outputs := rfl
@[simp] theorem State.setLink_time (s : State) (i : Nat) (x : PeerLink) : (s.setLink i x).time = s.time := rfl
@[simp] theorem State.setLink_ingress (s : State) (i : Nat) (x : PeerLink) : (s.setLink i x).ingress = s.ingress := rfl
@[simp] theorem State.setLink_align (s : State) (i : Nat) (x : PeerLink) : (s.setLink i x).align = s.align := rfl
@[simp] theorem State.setLink_front (s : State) (i : Nat) (x : PeerLink) : (s.setLink i x).front = s.front := rfl
@[simp] theorem State.setLink_energy (s : State) (i : Nat) (x : PeerLink) : (s.setLink i x).energy = s.energy := rfl
@[simp] theorem State.setLink_detect (s : State) (i : Nat) (x : PeerLink) : (s.setLink i x).detect = s.detect := rfl
@[simp] theorem State.setLink_kernel (s : State) (i : Nat) (x : PeerLink) : (s.setLink i x).kernel = s.kernel := rfl
@[simp] theorem State.setLink_egress (s : State) (i : Nat) (x : PeerLink) : (s.setLink i x).egress = s.egress := rfl
@[simp] theorem State.setLink_dma (s : State) (i : Nat) (x : PeerLink) : (s.setLink i x).dma = s.dma := rfl
@[simp] theorem State.setLink_host (s : State) (i : Nat) (x : PeerLink) : (s.setLink i x).host = s.host := rfl
@[simp] theorem State.setLink_integ (s : State) (i : Nat) (x : PeerLink) : (s.setLink i x).integ = s.integ := rfl
@[simp] theorem State.setLink_sec (s : State) (i : Nat) (x : PeerLink) : (s.setLink i x).sec = s.sec := rfl
@[simp] theorem State.setLink_upd (s : State) (i : Nat) (x : PeerLink) : (s.setLink i x).upd = s.upd := rfl
@[simp] theorem State.setLink_pair_fedEnable (s : State) (i : Nat) (x : PeerLink) : (s.setLink i x).pair.fedEnable = s.pair.fedEnable := rfl
@[simp] theorem State.setLink_pair_pairEnable (s : State) (i : Nat) (x : PeerLink) : (s.setLink i x).pair.pairEnable = s.pair.pairEnable := rfl
@[simp] theorem State.setLink_pair_state (s : State) (i : Nat) (x : PeerLink) : (s.setLink i x).pair.state = s.pair.state := rfl
@[simp] theorem State.setLink_pair_listenFrom (s : State) (i : Nat) (x : PeerLink) : (s.setLink i x).pair.listenFrom = s.pair.listenFrom := rfl
@[simp] theorem State.setLink_pair_mirrored (s : State) (i : Nat) (x : PeerLink) : (s.setLink i x).pair.mirrored = s.pair.mirrored := rfl
@[simp] theorem State.setLink_pair_fullDue (s : State) (i : Nat) (x : PeerLink) : (s.setLink i x).pair.fullDue = s.pair.fullDue := rfl
@[simp] theorem State.setLink_pair_dual (s : State) (i : Nat) (x : PeerLink) : (s.setLink i x).pair.dual = s.pair.dual := rfl
@[simp] theorem State.setLink_pair_heldItems (s : State) (i : Nat) (x : PeerLink) : (s.setLink i x).pair.heldItems = s.pair.heldItems := rfl
@[simp] theorem State.setLink_pair_partnerMirrored (s : State) (i : Nat) (x : PeerLink) : (s.setLink i x).pair.partnerMirrored = s.pair.partnerMirrored := rfl
@[simp] theorem State.setLink_pair_partnerMode (s : State) (i : Nat) (x : PeerLink) : (s.setLink i x).pair.partnerMode = s.pair.partnerMode := rfl
@[simp] theorem State.setLink_pair_partnerState (s : State) (i : Nat) (x : PeerLink) : (s.setLink i x).pair.partnerState = s.pair.partnerState := rfl
@[simp] theorem State.setLink_pair_partnerDigest (s : State) (i : Nat) (x : PeerLink) : (s.setLink i x).pair.partnerDigest = s.pair.partnerDigest := rfl
@[simp] theorem State.setLink_pair_marks (s : State) (i : Nat) (x : PeerLink) : (s.setLink i x).pair.marks = s.pair.marks := rfl
@[simp] theorem State.setLink_pair_versionDiffer (s : State) (i : Nat) (x : PeerLink) : (s.setLink i x).pair.versionDiffer = s.pair.versionDiffer := rfl
@[simp] theorem State.setLink_pair_conflict (s : State) (i : Nat) (x : PeerLink) : (s.setLink i x).pair.conflict = s.pair.conflict := rfl
@[simp] theorem State.setLink_pair_conflictPrimary (s : State) (i : Nat) (x : PeerLink) : (s.setLink i x).pair.conflictPrimary = s.pair.conflictPrimary := rfl
@[simp] theorem State.setLink_pair_revert (s : State) (i : Nat) (x : PeerLink) : (s.setLink i x).pair.revert = s.pair.revert := rfl
@[simp] theorem State.setLink_pair_holdTime (s : State) (i : Nat) (x : PeerLink) : (s.setLink i x).pair.holdTime = s.pair.holdTime := rfl
@[simp] theorem State.setLink_pair_holdFrom (s : State) (i : Nat) (x : PeerLink) : (s.setLink i x).pair.holdFrom = s.pair.holdFrom := rfl
@[simp] theorem State.setLink_pair_hbMissed (s : State) (i : Nat) (x : PeerLink) : (s.setLink i x).pair.hbMissed = s.pair.hbMissed := rfl
@[simp] theorem State.setLink_pair_handover (s : State) (i : Nat) (x : PeerLink) : (s.setLink i x).pair.handover = s.pair.handover := rfl
@[simp] theorem State.setLink_pair_requested (s : State) (i : Nat) (x : PeerLink) : (s.setLink i x).pair.requested = s.pair.requested := rfl
@[simp] theorem State.setLink_pair_declared (s : State) (i : Nat) (x : PeerLink) : (s.setLink i x).pair.declared = s.pair.declared := rfl
@[simp] theorem State.setLink_pair_eclipseFrom (s : State) (i : Nat) (x : PeerLink) : (s.setLink i x).pair.eclipseFrom = s.pair.eclipseFrom := rfl
@[simp] theorem State.setLink_pair_lastEclipse (s : State) (i : Nat) (x : PeerLink) : (s.setLink i x).pair.lastEclipse = s.pair.lastEclipse := rfl
@[simp] theorem State.setLink_pair_partnerJournal (s : State) (i : Nat) (x : PeerLink) : (s.setLink i x).pair.partnerJournal = s.pair.partnerJournal := rfl
@[simp] theorem State.setLink_pair_genRepeats (s : State) (i : Nat) (x : PeerLink) : (s.setLink i x).pair.genRepeats = s.pair.genRepeats := rfl
@[simp] theorem State.setLink_pair_remoteEpoch (s : State) (i : Nat) (x : PeerLink) : (s.setLink i x).pair.remoteEpoch = s.pair.remoteEpoch := rfl
@[simp] theorem State.setLink_pair_revMirror (s : State) (i : Nat) (x : PeerLink) : (s.setLink i x).pair.revMirror = s.pair.revMirror := rfl
@[simp] theorem State.setLink_pair_cTakeovers (s : State) (i : Nat) (x : PeerLink) : (s.setLink i x).pair.cTakeovers = s.pair.cTakeovers := rfl
@[simp] theorem State.setLink_pair_cTakebacks (s : State) (i : Nat) (x : PeerLink) : (s.setLink i x).pair.cTakebacks = s.pair.cTakebacks := rfl
@[simp] theorem State.setLink_pair_cSwitchovers (s : State) (i : Nat) (x : PeerLink) : (s.setLink i x).pair.cSwitchovers = s.pair.cSwitchovers := rfl
@[simp] theorem State.setLink_pair_cRefused (s : State) (i : Nat) (x : PeerLink) : (s.setLink i x).pair.cRefused = s.pair.cRefused := rfl
@[simp] theorem State.setLink_pair_cDual (s : State) (i : Nat) (x : PeerLink) : (s.setLink i x).pair.cDual = s.pair.cDual := rfl
@[simp] theorem State.setLink_pair_cFull (s : State) (i : Nat) (x : PeerLink) : (s.setLink i x).pair.cFull = s.pair.cFull := rfl
@[simp] theorem State.setLink_pair_cItems (s : State) (i : Nat) (x : PeerLink) : (s.setLink i x).pair.cItems = s.pair.cItems := rfl
@[simp] theorem State.setLink_pair_cStale (s : State) (i : Nat) (x : PeerLink) : (s.setLink i x).pair.cStale = s.pair.cStale := rfl
@[simp] theorem State.setLink_pair_links (s : State) (i : Nat) (x : PeerLink) : (s.setLink i x).pair.links = vset s.pair.links i x := rfl
@[simp] theorem State.setLink_link_self (s : State) (i : Nat) (x : PeerLink) (h : i < 4) : (s.setLink i x).link i = x := vget_vset_self _ _ _ _ h
@[simp] theorem State.setLink_link_ne (s : State) (i : Nat) (x : PeerLink) (j : Nat) (h : i ≠ j) : (s.setLink i x).link j = s.link j := vget_vset_ne _ _ _ _ _ h

/-! ### State.setRq -/

@[simp] theorem State.setRq_pending (s : State) (i : Nat) (x : Rq) : (s.setRq i x).pending = s.pending := rfl
@[simp] theorem State.setRq_now (s : State) (i : Nat) (x : Rq) : (s.setRq i x).now = s.now := rfl
@[simp] theorem State.setRq_later (s : State) (i : Nat) (x : Rq) : (s.setRq i x).later = s.later := rfl
@[simp] theorem State.setRq_drawn (s : State) (i : Nat) (x : Rq) : (s.setRq i x).drawn = s.drawn := rfl
@[simp] theorem State.setRq_outputs (s : State) (i : Nat) (x : Rq) : (s.setRq i x).outputs = s.outputs := rfl
@[simp] theorem State.setRq_time (s : State) (i : Nat) (x : Rq) : (s.setRq i x).time = s.time := rfl
@[simp] theorem State.setRq_ingress (s : State) (i : Nat) (x : Rq) : (s.setRq i x).ingress = s.ingress := rfl
@[simp] theorem State.setRq_align (s : State) (i : Nat) (x : Rq) : (s.setRq i x).align = s.align := rfl
@[simp] theorem State.setRq_front (s : State) (i : Nat) (x : Rq) : (s.setRq i x).front = s.front := rfl
@[simp] theorem State.setRq_energy (s : State) (i : Nat) (x : Rq) : (s.setRq i x).energy = s.energy := rfl
@[simp] theorem State.setRq_detect (s : State) (i : Nat) (x : Rq) : (s.setRq i x).detect = s.detect := rfl
@[simp] theorem State.setRq_kernel (s : State) (i : Nat) (x : Rq) : (s.setRq i x).kernel = s.kernel := rfl
@[simp] theorem State.setRq_egress (s : State) (i : Nat) (x : Rq) : (s.setRq i x).egress = s.egress := rfl
@[simp] theorem State.setRq_host (s : State) (i : Nat) (x : Rq) : (s.setRq i x).host = s.host := rfl
@[simp] theorem State.setRq_pair (s : State) (i : Nat) (x : Rq) : (s.setRq i x).pair = s.pair := rfl
@[simp] theorem State.setRq_integ (s : State) (i : Nat) (x : Rq) : (s.setRq i x).integ = s.integ := rfl
@[simp] theorem State.setRq_sec (s : State) (i : Nat) (x : Rq) : (s.setRq i x).sec = s.sec := rfl
@[simp] theorem State.setRq_upd (s : State) (i : Nat) (x : Rq) : (s.setRq i x).upd = s.upd := rfl
@[simp] theorem State.setRq_sys (s : State) (i : Nat) (x : Rq) : (s.setRq i x).sys = s.sys := rfl
@[simp] theorem State.setRq_dma_chans (s : State) (i : Nat) (x : Rq) : (s.setRq i x).dma.chans = s.dma.chans := rfl
@[simp] theorem State.setRq_dma_buffer (s : State) (i : Nat) (x : Rq) : (s.setRq i x).dma.buffer = s.dma.buffer := rfl
@[simp] theorem State.setRq_dma_turn (s : State) (i : Nat) (x : Rq) : (s.setRq i x).dma.turn = s.dma.turn := rfl
@[simp] theorem State.setRq_dma_window (s : State) (i : Nat) (x : Rq) : (s.setRq i x).dma.window = s.dma.window := rfl
@[simp] theorem State.setRq_dma_winBad (s : State) (i : Nat) (x : Rq) : (s.setRq i x).dma.winBad = s.dma.winBad := rfl
@[simp] theorem State.setRq_dma_queues (s : State) (i : Nat) (x : Rq) : (s.setRq i x).dma.queues = vset s.dma.queues i x := rfl
@[simp] theorem State.setRq_rq_self (s : State) (i : Nat) (x : Rq) (h : i < 32) : (s.setRq i x).rq i = x := vget_vset_self _ _ _ _ h
@[simp] theorem State.setRq_rq_ne (s : State) (i : Nat) (x : Rq) (j : Nat) (h : i ≠ j) : (s.setRq i x).rq j = s.rq j := vget_vset_ne _ _ _ _ _ h

/-! ### State.setMka -/

@[simp] theorem State.setMka_pending (s : State) (i : Nat) (x : MkaPort) : (s.setMka i x).pending = s.pending := rfl
@[simp] theorem State.setMka_now (s : State) (i : Nat) (x : MkaPort) : (s.setMka i x).now = s.now := rfl
@[simp] theorem State.setMka_later (s : State) (i : Nat) (x : MkaPort) : (s.setMka i x).later = s.later := rfl
@[simp] theorem State.setMka_drawn (s : State) (i : Nat) (x : MkaPort) : (s.setMka i x).drawn = s.drawn := rfl
@[simp] theorem State.setMka_outputs (s : State) (i : Nat) (x : MkaPort) : (s.setMka i x).outputs = s.outputs := rfl
@[simp] theorem State.setMka_time (s : State) (i : Nat) (x : MkaPort) : (s.setMka i x).time = s.time := rfl
@[simp] theorem State.setMka_ingress (s : State) (i : Nat) (x : MkaPort) : (s.setMka i x).ingress = s.ingress := rfl
@[simp] theorem State.setMka_align (s : State) (i : Nat) (x : MkaPort) : (s.setMka i x).align = s.align := rfl
@[simp] theorem State.setMka_front (s : State) (i : Nat) (x : MkaPort) : (s.setMka i x).front = s.front := rfl
@[simp] theorem State.setMka_energy (s : State) (i : Nat) (x : MkaPort) : (s.setMka i x).energy = s.energy := rfl
@[simp] theorem State.setMka_detect (s : State) (i : Nat) (x : MkaPort) : (s.setMka i x).detect = s.detect := rfl
@[simp] theorem State.setMka_kernel (s : State) (i : Nat) (x : MkaPort) : (s.setMka i x).kernel = s.kernel := rfl
@[simp] theorem State.setMka_egress (s : State) (i : Nat) (x : MkaPort) : (s.setMka i x).egress = s.egress := rfl
@[simp] theorem State.setMka_dma (s : State) (i : Nat) (x : MkaPort) : (s.setMka i x).dma = s.dma := rfl
@[simp] theorem State.setMka_host (s : State) (i : Nat) (x : MkaPort) : (s.setMka i x).host = s.host := rfl
@[simp] theorem State.setMka_pair (s : State) (i : Nat) (x : MkaPort) : (s.setMka i x).pair = s.pair := rfl
@[simp] theorem State.setMka_integ (s : State) (i : Nat) (x : MkaPort) : (s.setMka i x).integ = s.integ := rfl
@[simp] theorem State.setMka_upd (s : State) (i : Nat) (x : MkaPort) : (s.setMka i x).upd = s.upd := rfl
@[simp] theorem State.setMka_sys (s : State) (i : Nat) (x : MkaPort) : (s.setMka i x).sys = s.sys := rfl
@[simp] theorem State.setMka_sec_otp (s : State) (i : Nat) (x : MkaPort) : (s.setMka i x).sec.otp = s.sec.otp := rfl
@[simp] theorem State.setMka_sec_imageRoot (s : State) (i : Nat) (x : MkaPort) : (s.setMka i x).sec.imageRoot = s.sec.imageRoot := rfl
@[simp] theorem State.setMka_sec_kwk (s : State) (i : Nat) (x : MkaPort) : (s.setMka i x).sec.kwk = s.sec.kwk := rfl
@[simp] theorem State.setMka_sec_drbg (s : State) (i : Nat) (x : MkaPort) : (s.setMka i x).sec.drbg = s.sec.drbg := rfl
@[simp] theorem State.setMka_sec_fuses (s : State) (i : Nat) (x : MkaPort) : (s.setMka i x).sec.fuses = s.sec.fuses := rfl
@[simp] theorem State.setMka_sec_nonce (s : State) (i : Nat) (x : MkaPort) : (s.setMka i x).sec.nonce = s.sec.nonce := rfl
@[simp] theorem State.setMka_sec_mkaNext (s : State) (i : Nat) (x : MkaPort) : (s.setMka i x).sec.mkaNext = s.sec.mkaNext := rfl
@[simp] theorem State.setMka_sec_mka (s : State) (i : Nat) (x : MkaPort) : (s.setMka i x).sec.mka = vset s.sec.mka i x := rfl
@[simp] theorem State.setMka_mka_self (s : State) (i : Nat) (x : MkaPort) (h : i < 5) : (s.setMka i x).mka i = x := vget_vset_self _ _ _ _ h
@[simp] theorem State.setMka_mka_ne (s : State) (i : Nat) (x : MkaPort) (j : Nat) (h : i ≠ j) : (s.setMka i x).mka j = s.mka j := vget_vset_ne _ _ _ _ _ h

/-! ### State.setCoh -/

@[simp] theorem State.setCoh_pending (s : State) (i : Nat) (x : CohZone) : (s.setCoh i x).pending = s.pending := rfl
@[simp] theorem State.setCoh_now (s : State) (i : Nat) (x : CohZone) : (s.setCoh i x).now = s.now := rfl
@[simp] theorem State.setCoh_later (s : State) (i : Nat) (x : CohZone) : (s.setCoh i x).later = s.later := rfl
@[simp] theorem State.setCoh_drawn (s : State) (i : Nat) (x : CohZone) : (s.setCoh i x).drawn = s.drawn := rfl
@[simp] theorem State.setCoh_outputs (s : State) (i : Nat) (x : CohZone) : (s.setCoh i x).outputs = s.outputs := rfl
@[simp] theorem State.setCoh_time (s : State) (i : Nat) (x : CohZone) : (s.setCoh i x).time = s.time := rfl
@[simp] theorem State.setCoh_ingress (s : State) (i : Nat) (x : CohZone) : (s.setCoh i x).ingress = s.ingress := rfl
@[simp] theorem State.setCoh_align (s : State) (i : Nat) (x : CohZone) : (s.setCoh i x).align = s.align := rfl
@[simp] theorem State.setCoh_front (s : State) (i : Nat) (x : CohZone) : (s.setCoh i x).front = s.front := rfl
@[simp] theorem State.setCoh_energy (s : State) (i : Nat) (x : CohZone) : (s.setCoh i x).energy = s.energy := rfl
@[simp] theorem State.setCoh_kernel (s : State) (i : Nat) (x : CohZone) : (s.setCoh i x).kernel = s.kernel := rfl
@[simp] theorem State.setCoh_egress (s : State) (i : Nat) (x : CohZone) : (s.setCoh i x).egress = s.egress := rfl
@[simp] theorem State.setCoh_dma (s : State) (i : Nat) (x : CohZone) : (s.setCoh i x).dma = s.dma := rfl
@[simp] theorem State.setCoh_host (s : State) (i : Nat) (x : CohZone) : (s.setCoh i x).host = s.host := rfl
@[simp] theorem State.setCoh_pair (s : State) (i : Nat) (x : CohZone) : (s.setCoh i x).pair = s.pair := rfl
@[simp] theorem State.setCoh_integ (s : State) (i : Nat) (x : CohZone) : (s.setCoh i x).integ = s.integ := rfl
@[simp] theorem State.setCoh_sec (s : State) (i : Nat) (x : CohZone) : (s.setCoh i x).sec = s.sec := rfl
@[simp] theorem State.setCoh_upd (s : State) (i : Nat) (x : CohZone) : (s.setCoh i x).upd = s.upd := rfl
@[simp] theorem State.setCoh_sys (s : State) (i : Nat) (x : CohZone) : (s.setCoh i x).sys = s.sys := rfl
@[simp] theorem State.setCoh_detect_vertices (s : State) (i : Nat) (x : CohZone) : (s.setCoh i x).detect.vertices = s.detect.vertices := rfl
@[simp] theorem State.setCoh_detect_edges (s : State) (i : Nat) (x : CohZone) : (s.setCoh i x).detect.edges = s.detect.edges := rfl
@[simp] theorem State.setCoh_detect_cohInputs (s : State) (i : Nat) (x : CohZone) : (s.setCoh i x).detect.cohInputs = s.detect.cohInputs := rfl
@[simp] theorem State.setCoh_detect_osc (s : State) (i : Nat) (x : CohZone) : (s.setCoh i x).detect.osc = s.detect.osc := rfl
@[simp] theorem State.setCoh_detect_signals (s : State) (i : Nat) (x : CohZone) : (s.setCoh i x).detect.signals = s.detect.signals := rfl
@[simp] theorem State.setCoh_detect_thresholds (s : State) (i : Nat) (x : CohZone) : (s.setCoh i x).detect.thresholds = s.detect.thresholds := rfl
@[simp] theorem State.setCoh_detect_alarms (s : State) (i : Nat) (x : CohZone) : (s.setCoh i x).detect.alarms = s.detect.alarms := rfl
@[simp] theorem State.setCoh_detect_dests (s : State) (i : Nat) (x : CohZone) : (s.setCoh i x).detect.dests = s.detect.dests := rfl
@[simp] theorem State.setCoh_detect_pinQueue (s : State) (i : Nat) (x : CohZone) : (s.setCoh i x).detect.pinQueue = s.detect.pinQueue := rfl
@[simp] theorem State.setCoh_detect_pins (s : State) (i : Nat) (x : CohZone) : (s.setCoh i x).detect.pins = s.detect.pins := rfl
@[simp] theorem State.setCoh_detect_cFrames (s : State) (i : Nat) (x : CohZone) : (s.setCoh i x).detect.cFrames = s.detect.cFrames := rfl
@[simp] theorem State.setCoh_detect_cRepeats (s : State) (i : Nat) (x : CohZone) : (s.setCoh i x).detect.cRepeats = s.detect.cRepeats := rfl
@[simp] theorem State.setCoh_detect_cTxDrop (s : State) (i : Nat) (x : CohZone) : (s.setCoh i x).detect.cTxDrop = s.detect.cTxDrop := rfl
@[simp] theorem State.setCoh_detect_cRepeatDrop (s : State) (i : Nat) (x : CohZone) : (s.setCoh i x).detect.cRepeatDrop = s.detect.cRepeatDrop := rfl
@[simp] theorem State.setCoh_detect_cAlarmOld (s : State) (i : Nat) (x : CohZone) : (s.setCoh i x).detect.cAlarmOld = s.detect.cAlarmOld := rfl
@[simp] theorem State.setCoh_detect_cSignalResets (s : State) (i : Nat) (x : CohZone) : (s.setCoh i x).detect.cSignalResets = s.detect.cSignalResets := rfl
@[simp] theorem State.setCoh_detect_coh (s : State) (i : Nat) (x : CohZone) : (s.setCoh i x).detect.coh = tabSet i x s.detect.coh := rfl
@[simp] theorem State.setCoh_coh_self (s : State) (i : Nat) (x : CohZone) : (s.setCoh i x).coh i = x := tabGet_tabSet_self _ _ _ _
@[simp] theorem State.setCoh_coh_ne (s : State) (i : Nat) (x : CohZone) (j : Nat) (h : i ≠ j) : (s.setCoh i x).coh j = s.coh j := tabGet_tabSet_ne _ _ _ _ _ h

/-! ### State.setAld -/

@[simp] theorem State.setAld_pending (s : State) (i : Nat) (x : AlmDef) : (s.setAld i x).pending = s.pending := rfl
@[simp] theorem State.setAld_now (s : State) (i : Nat) (x : AlmDef) : (s.setAld i x).now = s.now := rfl
@[simp] theorem State.setAld_later (s : State) (i : Nat) (x : AlmDef) : (s.setAld i x).later = s.later := rfl
@[simp] theorem State.setAld_drawn (s : State) (i : Nat) (x : AlmDef) : (s.setAld i x).drawn = s.drawn := rfl
@[simp] theorem State.setAld_outputs (s : State) (i : Nat) (x : AlmDef) : (s.setAld i x).outputs = s.outputs := rfl
@[simp] theorem State.setAld_time (s : State) (i : Nat) (x : AlmDef) : (s.setAld i x).time = s.time := rfl
@[simp] theorem State.setAld_ingress (s : State) (i : Nat) (x : AlmDef) : (s.setAld i x).ingress = s.ingress := rfl
@[simp] theorem State.setAld_align (s : State) (i : Nat) (x : AlmDef) : (s.setAld i x).align = s.align := rfl
@[simp] theorem State.setAld_front (s : State) (i : Nat) (x : AlmDef) : (s.setAld i x).front = s.front := rfl
@[simp] theorem State.setAld_energy (s : State) (i : Nat) (x : AlmDef) : (s.setAld i x).energy = s.energy := rfl
@[simp] theorem State.setAld_kernel (s : State) (i : Nat) (x : AlmDef) : (s.setAld i x).kernel = s.kernel := rfl
@[simp] theorem State.setAld_egress (s : State) (i : Nat) (x : AlmDef) : (s.setAld i x).egress = s.egress := rfl
@[simp] theorem State.setAld_dma (s : State) (i : Nat) (x : AlmDef) : (s.setAld i x).dma = s.dma := rfl
@[simp] theorem State.setAld_host (s : State) (i : Nat) (x : AlmDef) : (s.setAld i x).host = s.host := rfl
@[simp] theorem State.setAld_pair (s : State) (i : Nat) (x : AlmDef) : (s.setAld i x).pair = s.pair := rfl
@[simp] theorem State.setAld_integ (s : State) (i : Nat) (x : AlmDef) : (s.setAld i x).integ = s.integ := rfl
@[simp] theorem State.setAld_sec (s : State) (i : Nat) (x : AlmDef) : (s.setAld i x).sec = s.sec := rfl
@[simp] theorem State.setAld_upd (s : State) (i : Nat) (x : AlmDef) : (s.setAld i x).upd = s.upd := rfl
@[simp] theorem State.setAld_sys (s : State) (i : Nat) (x : AlmDef) : (s.setAld i x).sys = s.sys := rfl
@[simp] theorem State.setAld_detect_vertices (s : State) (i : Nat) (x : AlmDef) : (s.setAld i x).detect.vertices = s.detect.vertices := rfl
@[simp] theorem State.setAld_detect_edges (s : State) (i : Nat) (x : AlmDef) : (s.setAld i x).detect.edges = s.detect.edges := rfl
@[simp] theorem State.setAld_detect_coh (s : State) (i : Nat) (x : AlmDef) : (s.setAld i x).detect.coh = s.detect.coh := rfl
@[simp] theorem State.setAld_detect_cohInputs (s : State) (i : Nat) (x : AlmDef) : (s.setAld i x).detect.cohInputs = s.detect.cohInputs := rfl
@[simp] theorem State.setAld_detect_osc (s : State) (i : Nat) (x : AlmDef) : (s.setAld i x).detect.osc = s.detect.osc := rfl
@[simp] theorem State.setAld_detect_signals (s : State) (i : Nat) (x : AlmDef) : (s.setAld i x).detect.signals = s.detect.signals := rfl
@[simp] theorem State.setAld_detect_thresholds (s : State) (i : Nat) (x : AlmDef) : (s.setAld i x).detect.thresholds = s.detect.thresholds := rfl
@[simp] theorem State.setAld_detect_dests (s : State) (i : Nat) (x : AlmDef) : (s.setAld i x).detect.dests = s.detect.dests := rfl
@[simp] theorem State.setAld_detect_pinQueue (s : State) (i : Nat) (x : AlmDef) : (s.setAld i x).detect.pinQueue = s.detect.pinQueue := rfl
@[simp] theorem State.setAld_detect_pins (s : State) (i : Nat) (x : AlmDef) : (s.setAld i x).detect.pins = s.detect.pins := rfl
@[simp] theorem State.setAld_detect_cFrames (s : State) (i : Nat) (x : AlmDef) : (s.setAld i x).detect.cFrames = s.detect.cFrames := rfl
@[simp] theorem State.setAld_detect_cRepeats (s : State) (i : Nat) (x : AlmDef) : (s.setAld i x).detect.cRepeats = s.detect.cRepeats := rfl
@[simp] theorem State.setAld_detect_cTxDrop (s : State) (i : Nat) (x : AlmDef) : (s.setAld i x).detect.cTxDrop = s.detect.cTxDrop := rfl
@[simp] theorem State.setAld_detect_cRepeatDrop (s : State) (i : Nat) (x : AlmDef) : (s.setAld i x).detect.cRepeatDrop = s.detect.cRepeatDrop := rfl
@[simp] theorem State.setAld_detect_cAlarmOld (s : State) (i : Nat) (x : AlmDef) : (s.setAld i x).detect.cAlarmOld = s.detect.cAlarmOld := rfl
@[simp] theorem State.setAld_detect_cSignalResets (s : State) (i : Nat) (x : AlmDef) : (s.setAld i x).detect.cSignalResets = s.detect.cSignalResets := rfl
@[simp] theorem State.setAld_detect_alarms (s : State) (i : Nat) (x : AlmDef) : (s.setAld i x).detect.alarms = tabSet i x s.detect.alarms := rfl
@[simp] theorem State.setAld_ald_self (s : State) (i : Nat) (x : AlmDef) : (s.setAld i x).ald i = some x := by simp [State.setAld, State.ald, tabGet?_tabSet]
@[simp] theorem State.setAld_ald_ne (s : State) (i : Nat) (x : AlmDef) (j : Nat) (h : i ≠ j) : (s.setAld i x).ald j = s.ald j := by
  simp [State.setAld, State.ald, tabGet?_tabSet, Ne.symm h]

/-! ### State.setRxRing -/

@[simp] theorem State.setRxRing_pending (s : State) (i : Nat) (x : RxRing) : (s.setRxRing i x).pending = s.pending := rfl
@[simp] theorem State.setRxRing_now (s : State) (i : Nat) (x : RxRing) : (s.setRxRing i x).now = s.now := rfl
@[simp] theorem State.setRxRing_later (s : State) (i : Nat) (x : RxRing) : (s.setRxRing i x).later = s.later := rfl
@[simp] theorem State.setRxRing_drawn (s : State) (i : Nat) (x : RxRing) : (s.setRxRing i x).drawn = s.drawn := rfl
@[simp] theorem State.setRxRing_outputs (s : State) (i : Nat) (x : RxRing) : (s.setRxRing i x).outputs = s.outputs := rfl
@[simp] theorem State.setRxRing_time (s : State) (i : Nat) (x : RxRing) : (s.setRxRing i x).time = s.time := rfl
@[simp] theorem State.setRxRing_align (s : State) (i : Nat) (x : RxRing) : (s.setRxRing i x).align = s.align := rfl
@[simp] theorem State.setRxRing_front (s : State) (i : Nat) (x : RxRing) : (s.setRxRing i x).front = s.front := rfl
@[simp] theorem State.setRxRing_energy (s : State) (i : Nat) (x : RxRing) : (s.setRxRing i x).energy = s.energy := rfl
@[simp] theorem State.setRxRing_detect (s : State) (i : Nat) (x : RxRing) : (s.setRxRing i x).detect = s.detect := rfl
@[simp] theorem State.setRxRing_kernel (s : State) (i : Nat) (x : RxRing) : (s.setRxRing i x).kernel = s.kernel := rfl
@[simp] theorem State.setRxRing_egress (s : State) (i : Nat) (x : RxRing) : (s.setRxRing i x).egress = s.egress := rfl
@[simp] theorem State.setRxRing_dma (s : State) (i : Nat) (x : RxRing) : (s.setRxRing i x).dma = s.dma := rfl
@[simp] theorem State.setRxRing_host (s : State) (i : Nat) (x : RxRing) : (s.setRxRing i x).host = s.host := rfl
@[simp] theorem State.setRxRing_pair (s : State) (i : Nat) (x : RxRing) : (s.setRxRing i x).pair = s.pair := rfl
@[simp] theorem State.setRxRing_integ (s : State) (i : Nat) (x : RxRing) : (s.setRxRing i x).integ = s.integ := rfl
@[simp] theorem State.setRxRing_sec (s : State) (i : Nat) (x : RxRing) : (s.setRxRing i x).sec = s.sec := rfl
@[simp] theorem State.setRxRing_upd (s : State) (i : Nat) (x : RxRing) : (s.setRxRing i x).upd = s.upd := rfl
@[simp] theorem State.setRxRing_sys (s : State) (i : Nat) (x : RxRing) : (s.setRxRing i x).sys = s.sys := rfl
@[simp] theorem State.setRxRing_ingress_ports (s : State) (i : Nat) (x : RxRing) : (s.setRxRing i x).ingress.ports = s.ingress.ports := rfl
@[simp] theorem State.setRxRing_ingress_streamPorts (s : State) (i : Nat) (x : RxRing) : (s.setRxRing i x).ingress.streamPorts = s.ingress.streamPorts := rfl
@[simp] theorem State.setRxRing_ingress_classMap (s : State) (i : Nat) (x : RxRing) : (s.setRxRing i x).ingress.classMap = s.ingress.classMap := rfl
@[simp] theorem State.setRxRing_ingress_ctxs (s : State) (i : Nat) (x : RxRing) : (s.setRxRing i x).ingress.ctxs = s.ingress.ctxs := rfl
@[simp] theorem State.setRxRing_ingress_toParser (s : State) (i : Nat) (x : RxRing) : (s.setRxRing i x).ingress.toParser = s.ingress.toParser := rfl
@[simp] theorem State.setRxRing_ingress_toBind (s : State) (i : Nat) (x : RxRing) : (s.setRxRing i x).ingress.toBind = s.ingress.toBind := rfl
@[simp] theorem State.setRxRing_ingress_toInsert (s : State) (i : Nat) (x : RxRing) : (s.setRxRing i x).ingress.toInsert = s.ingress.toInsert := rfl
@[simp] theorem State.setRxRing_ingress_checks (s : State) (i : Nat) (x : RxRing) : (s.setRxRing i x).ingress.checks = s.ingress.checks := rfl
@[simp] theorem State.setRxRing_ingress_reasm (s : State) (i : Nat) (x : RxRing) : (s.setRxRing i x).ingress.reasm = s.ingress.reasm := rfl
@[simp] theorem State.setRxRing_ingress_toSupervisor (s : State) (i : Nat) (x : RxRing) : (s.setRxRing i x).ingress.toSupervisor = s.ingress.toSupervisor := rfl
@[simp] theorem State.setRxRing_ingress_tcpBucket (s : State) (i : Nat) (x : RxRing) : (s.setRxRing i x).ingress.tcpBucket = s.ingress.tcpBucket := rfl
@[simp] theorem State.setRxRing_ingress_frameBucket (s : State) (i : Nat) (x : RxRing) : (s.setRxRing i x).ingress.frameBucket = s.ingress.frameBucket := rfl
@[simp] theorem State.setRxRing_ingress_phasorBucket (s : State) (i : Nat) (x : RxRing) : (s.setRxRing i x).ingress.phasorBucket = s.ingress.phasorBucket := rfl
@[simp] theorem State.setRxRing_ingress_cUdpChk (s : State) (i : Nat) (x : RxRing) : (s.setRxRing i x).ingress.cUdpChk = s.ingress.cUdpChk := rfl
@[simp] theorem State.setRxRing_ingress_cSync (s : State) (i : Nat) (x : RxRing) : (s.setRxRing i x).ingress.cSync = s.ingress.cSync := rfl
@[simp] theorem State.setRxRing_ingress_cSizeErr (s : State) (i : Nat) (x : RxRing) : (s.setRxRing i x).ingress.cSizeErr = s.ingress.cSizeErr := rfl
@[simp] theorem State.setRxRing_ingress_cChk (s : State) (i : Nat) (x : RxRing) : (s.setRxRing i x).ingress.cChk = s.ingress.cChk := rfl
@[simp] theorem State.setRxRing_ingress_cTag (s : State) (i : Nat) (x : RxRing) : (s.setRxRing i x).ingress.cTag = s.ingress.cTag := rfl
@[simp] theorem State.setRxRing_ingress_cUnknown (s : State) (i : Nat) (x : RxRing) : (s.setRxRing i x).ingress.cUnknown = s.ingress.cUnknown := rfl
@[simp] theorem State.setRxRing_ingress_cOver (s : State) (i : Nat) (x : RxRing) : (s.setRxRing i x).ingress.cOver = s.ingress.cOver := rfl
@[simp] theorem State.setRxRing_ingress_cFragTimeout (s : State) (i : Nat) (x : RxRing) : (s.setRxRing i x).ingress.cFragTimeout = s.ingress.cFragTimeout := rfl
@[simp] theorem State.setRxRing_ingress_cFragDrop (s : State) (i : Nat) (x : RxRing) : (s.setRxRing i x).ingress.cFragDrop = s.ingress.cFragDrop := rfl
@[simp] theorem State.setRxRing_ingress_cTcpTimeout (s : State) (i : Nat) (x : RxRing) : (s.setRxRing i x).ingress.cTcpTimeout = s.ingress.cTcpTimeout := rfl
@[simp] theorem State.setRxRing_ingress_cClassDrop (s : State) (i : Nat) (x : RxRing) : (s.setRxRing i x).ingress.cClassDrop = s.ingress.cClassDrop := rfl
@[simp] theorem State.setRxRing_ingress_rings (s : State) (i : Nat) (x : RxRing) : (s.setRxRing i x).ingress.rings = vset s.ingress.rings i x := rfl

/-! ### State.setTimePort -/

@[simp] theorem State.setTimePort_pending (s : State) (i : Nat) (x : TimePort) : (s.setTimePort i x).pending = s.pending := rfl
@[simp] theorem State.setTimePort_now (s : State) (i : Nat) (x : TimePort) : (s.setTimePort i x).now = s.now := rfl
@[simp] theorem State.setTimePort_later (s : State) (i : Nat) (x : TimePort) : (s.setTimePort i x).later = s.later := rfl
@[simp] theorem State.setTimePort_drawn (s : State) (i : Nat) (x : TimePort) : (s.setTimePort i x).drawn = s.drawn := rfl
@[simp] theorem State.setTimePort_outputs (s : State) (i : Nat) (x : TimePort) : (s.setTimePort i x).outputs = s.outputs := rfl
@[simp] theorem State.setTimePort_ingress (s : State) (i : Nat) (x : TimePort) : (s.setTimePort i x).ingress = s.ingress := rfl
@[simp] theorem State.setTimePort_align (s : State) (i : Nat) (x : TimePort) : (s.setTimePort i x).align = s.align := rfl
@[simp] theorem State.setTimePort_front (s : State) (i : Nat) (x : TimePort) : (s.setTimePort i x).front = s.front := rfl
@[simp] theorem State.setTimePort_energy (s : State) (i : Nat) (x : TimePort) : (s.setTimePort i x).energy = s.energy := rfl
@[simp] theorem State.setTimePort_detect (s : State) (i : Nat) (x : TimePort) : (s.setTimePort i x).detect = s.detect := rfl
@[simp] theorem State.setTimePort_kernel (s : State) (i : Nat) (x : TimePort) : (s.setTimePort i x).kernel = s.kernel := rfl
@[simp] theorem State.setTimePort_egress (s : State) (i : Nat) (x : TimePort) : (s.setTimePort i x).egress = s.egress := rfl
@[simp] theorem State.setTimePort_dma (s : State) (i : Nat) (x : TimePort) : (s.setTimePort i x).dma = s.dma := rfl
@[simp] theorem State.setTimePort_host (s : State) (i : Nat) (x : TimePort) : (s.setTimePort i x).host = s.host := rfl
@[simp] theorem State.setTimePort_pair (s : State) (i : Nat) (x : TimePort) : (s.setTimePort i x).pair = s.pair := rfl
@[simp] theorem State.setTimePort_integ (s : State) (i : Nat) (x : TimePort) : (s.setTimePort i x).integ = s.integ := rfl
@[simp] theorem State.setTimePort_sec (s : State) (i : Nat) (x : TimePort) : (s.setTimePort i x).sec = s.sec := rfl
@[simp] theorem State.setTimePort_upd (s : State) (i : Nat) (x : TimePort) : (s.setTimePort i x).upd = s.upd := rfl
@[simp] theorem State.setTimePort_sys (s : State) (i : Nat) (x : TimePort) : (s.setTimePort i x).sys = s.sys := rfl
@[simp] theorem State.setTimePort_time_tb (s : State) (i : Nat) (x : TimePort) : (s.setTimePort i x).time.tb = s.time.tb := rfl
@[simp] theorem State.setTimePort_time_past (s : State) (i : Nat) (x : TimePort) : (s.setTimePort i x).time.past = s.time.past := rfl
@[simp] theorem State.setTimePort_time_valid (s : State) (i : Nat) (x : TimePort) : (s.setTimePort i x).time.valid = s.time.valid := rfl
@[simp] theorem State.setTimePort_time_lockedSinceValid (s : State) (i : Nat) (x : TimePort) : (s.setTimePort i x).time.lockedSinceValid = s.time.lockedSinceValid := rfl
@[simp] theorem State.setTimePort_time_y (s : State) (i : Nat) (x : TimePort) : (s.setTimePort i x).time.y = s.time.y := rfl
@[simp] theorem State.setTimePort_time_yFree (s : State) (i : Nat) (x : TimePort) : (s.setTimePort i x).time.yFree = s.time.yFree := rfl
@[simp] theorem State.setTimePort_time_integ (s : State) (i : Nat) (x : TimePort) : (s.setTimePort i x).time.integ = s.time.integ := rfl
@[simp] theorem State.setTimePort_time_servo (s : State) (i : Nat) (x : TimePort) : (s.setTimePort i x).time.servo = s.time.servo := rfl
@[simp] theorem State.setTimePort_time_source (s : State) (i : Nat) (x : TimePort) : (s.setTimePort i x).time.source = s.time.source := rfl
@[simp] theorem State.setTimePort_time_priority (s : State) (i : Nat) (x : TimePort) : (s.setTimePort i x).time.priority = s.time.priority := rfl
@[simp] theorem State.setTimePort_time_ptp (s : State) (i : Nat) (x : TimePort) : (s.setTimePort i x).time.ptp = s.time.ptp := rfl
@[simp] theorem State.setTimePort_time_pps (s : State) (i : Nat) (x : TimePort) : (s.setTimePort i x).time.pps = s.time.pps := rfl
@[simp] theorem State.setTimePort_time_irig (s : State) (i : Nat) (x : TimePort) : (s.setTimePort i x).time.irig = s.time.irig := rfl
@[simp] theorem State.setTimePort_time_ref10 (s : State) (i : Nat) (x : TimePort) : (s.setTimePort i x).time.ref10 = s.time.ref10 := rfl
@[simp] theorem State.setTimePort_time_irigFormat (s : State) (i : Nat) (x : TimePort) : (s.setTimePort i x).time.irigFormat = s.time.irigFormat := rfl
@[simp] theorem State.setTimePort_time_irigOffsetMin (s : State) (i : Nat) (x : TimePort) : (s.setTimePort i x).time.irigOffsetMin = s.time.irigOffsetMin := rfl
@[simp] theorem State.setTimePort_time_kp (s : State) (i : Nat) (x : TimePort) : (s.setTimePort i x).time.kp = s.time.kp := rfl
@[simp] theorem State.setTimePort_time_ki (s : State) (i : Nat) (x : TimePort) : (s.setTimePort i x).time.ki = s.time.ki := rfl
@[simp] theorem State.setTimePort_time_stepThreshold (s : State) (i : Nat) (x : TimePort) : (s.setTimePort i x).time.stepThreshold = s.time.stepThreshold := rfl
@[simp] theorem State.setTimePort_time_lockThreshold (s : State) (i : Nat) (x : TimePort) : (s.setTimePort i x).time.lockThreshold = s.time.lockThreshold := rfl
@[simp] theorem State.setTimePort_time_unlockThreshold (s : State) (i : Nat) (x : TimePort) : (s.setTimePort i x).time.unlockThreshold = s.time.unlockThreshold := rfl
@[simp] theorem State.setTimePort_time_dHold (s : State) (i : Nat) (x : TimePort) : (s.setTimePort i x).time.dHold = s.time.dHold := rfl
@[simp] theorem State.setTimePort_time_dReserve (s : State) (i : Nat) (x : TimePort) : (s.setTimePort i x).time.dReserve = s.time.dReserve := rfl
@[simp] theorem State.setTimePort_time_syncLimit (s : State) (i : Nat) (x : TimePort) : (s.setTimePort i x).time.syncLimit = s.time.syncLimit := rfl
@[simp] theorem State.setTimePort_time_err (s : State) (i : Nat) (x : TimePort) : (s.setTimePort i x).time.err = s.time.err := rfl
@[simp] theorem State.setTimePort_time_tlvInacc (s : State) (i : Nat) (x : TimePort) : (s.setTimePort i x).time.tlvInacc = s.time.tlvInacc := rfl
@[simp] theorem State.setTimePort_time_thetas (s : State) (i : Nat) (x : TimePort) : (s.setTimePort i x).time.thetas = s.time.thetas := rfl
@[simp] theorem State.setTimePort_time_lockRun (s : State) (i : Nat) (x : TimePort) : (s.setTimePort i x).time.lockRun = s.time.lockRun := rfl
@[simp] theorem State.setTimePort_time_unlockRun (s : State) (i : Nat) (x : TimePort) : (s.setTimePort i x).time.unlockRun = s.time.unlockRun := rfl
@[simp] theorem State.setTimePort_time_offset (s : State) (i : Nat) (x : TimePort) : (s.setTimePort i x).time.offset = s.time.offset := rfl
@[simp] theorem State.setTimePort_time_unlockedPs (s : State) (i : Nat) (x : TimePort) : (s.setTimePort i x).time.unlockedPs = s.time.unlockedPs := rfl
@[simp] theorem State.setTimePort_time_utcOffset (s : State) (i : Nat) (x : TimePort) : (s.setTimePort i x).time.utcOffset = s.time.utcOffset := rfl
@[simp] theorem State.setTimePort_time_leapPending (s : State) (i : Nat) (x : TimePort) : (s.setTimePort i x).time.leapPending = s.time.leapPending := rfl
@[simp] theorem State.setTimePort_time_leapDir (s : State) (i : Nat) (x : TimePort) : (s.setTimePort i x).time.leapDir = s.time.leapDir := rfl
@[simp] theorem State.setTimePort_time_leapOccurred (s : State) (i : Nat) (x : TimePort) : (s.setTimePort i x).time.leapOccurred = s.time.leapOccurred := rfl
@[simp] theorem State.setTimePort_time_leapDue (s : State) (i : Nat) (x : TimePort) : (s.setTimePort i x).time.leapDue = s.time.leapDue := rfl
@[simp] theorem State.setTimePort_time_leapAt (s : State) (i : Nat) (x : TimePort) : (s.setTimePort i x).time.leapAt = s.time.leapAt := rfl
@[simp] theorem State.setTimePort_time_leapAtDir (s : State) (i : Nat) (x : TimePort) : (s.setTimePort i x).time.leapAtDir = s.time.leapAtDir := rfl
@[simp] theorem State.setTimePort_time_snapSecLo (s : State) (i : Nat) (x : TimePort) : (s.setTimePort i x).time.snapSecLo = s.time.snapSecLo := rfl
@[simp] theorem State.setTimePort_time_snapSecHi (s : State) (i : Nat) (x : TimePort) : (s.setTimePort i x).time.snapSecHi = s.time.snapSecHi := rfl
@[simp] theorem State.setTimePort_time_reserveInc (s : State) (i : Nat) (x : TimePort) : (s.setTimePort i x).time.reserveInc = s.time.reserveInc := rfl
@[simp] theorem State.setTimePort_time_kclkStart (s : State) (i : Nat) (x : TimePort) : (s.setTimePort i x).time.kclkStart = s.time.kclkStart := rfl
@[simp] theorem State.setTimePort_time_kclkFail (s : State) (i : Nat) (x : TimePort) : (s.setTimePort i x).time.kclkFail = s.time.kclkFail := rfl
@[simp] theorem State.setTimePort_time_ptpProfile (s : State) (i : Nat) (x : TimePort) : (s.setTimePort i x).time.ptpProfile = s.time.ptpProfile := rfl
@[simp] theorem State.setTimePort_time_ptpDomain (s : State) (i : Nat) (x : TimePort) : (s.setTimePort i x).time.ptpDomain = s.time.ptpDomain := rfl
@[simp] theorem State.setTimePort_time_ptpVlan (s : State) (i : Nat) (x : TimePort) : (s.setTimePort i x).time.ptpVlan = s.time.ptpVlan := rfl
@[simp] theorem State.setTimePort_time_ptpPriority (s : State) (i : Nat) (x : TimePort) : (s.setTimePort i x).time.ptpPriority = s.time.ptpPriority := rfl
@[simp] theorem State.setTimePort_time_evtEdges (s : State) (i : Nat) (x : TimePort) : (s.setTimePort i x).time.evtEdges = s.time.evtEdges := rfl
@[simp] theorem State.setTimePort_time_evtDest (s : State) (i : Nat) (x : TimePort) : (s.setTimePort i x).time.evtDest = s.time.evtDest := rfl
@[simp] theorem State.setTimePort_time_ppsDelay (s : State) (i : Nat) (x : TimePort) : (s.setTimePort i x).time.ppsDelay = s.time.ppsDelay := rfl
@[simp] theorem State.setTimePort_time_evtFifo (s : State) (i : Nat) (x : TimePort) : (s.setTimePort i x).time.evtFifo = s.time.evtFifo := rfl
@[simp] theorem State.setTimePort_time_evtHeld (s : State) (i : Nat) (x : TimePort) : (s.setTimePort i x).time.evtHeld = s.time.evtHeld := rfl
@[simp] theorem State.setTimePort_time_evtSeq (s : State) (i : Nat) (x : TimePort) : (s.setTimePort i x).time.evtSeq = s.time.evtSeq := rfl
@[simp] theorem State.setTimePort_time_ppsOutOffset (s : State) (i : Nat) (x : TimePort) : (s.setTimePort i x).time.ppsOutOffset = s.time.ppsOutOffset := rfl
@[simp] theorem State.setTimePort_time_ppsOutWidth (s : State) (i : Nat) (x : TimePort) : (s.setTimePort i x).time.ppsOutWidth = s.time.ppsOutWidth := rfl
@[simp] theorem State.setTimePort_time_ppsOutGate (s : State) (i : Nat) (x : TimePort) : (s.setTimePort i x).time.ppsOutGate = s.time.ppsOutGate := rfl
@[simp] theorem State.setTimePort_time_ppsOutEnd (s : State) (i : Nat) (x : TimePort) : (s.setTimePort i x).time.ppsOutEnd = s.time.ppsOutEnd := rfl
@[simp] theorem State.setTimePort_time_ppsOutSec (s : State) (i : Nat) (x : TimePort) : (s.setTimePort i x).time.ppsOutSec = s.time.ppsOutSec := rfl
@[simp] theorem State.setTimePort_time_clockPass (s : State) (i : Nat) (x : TimePort) : (s.setTimePort i x).time.clockPass = s.time.clockPass := rfl
@[simp] theorem State.setTimePort_time_steppedAt (s : State) (i : Nat) (x : TimePort) : (s.setTimePort i x).time.steppedAt = s.time.steppedAt := rfl
@[simp] theorem State.setTimePort_time_cSteps (s : State) (i : Nat) (x : TimePort) : (s.setTimePort i x).time.cSteps = s.time.cSteps := rfl
@[simp] theorem State.setTimePort_time_cLosses (s : State) (i : Nat) (x : TimePort) : (s.setTimePort i x).time.cLosses = s.time.cLosses := rfl
@[simp] theorem State.setTimePort_time_cSwitches (s : State) (i : Nat) (x : TimePort) : (s.setTimePort i x).time.cSwitches = s.time.cSwitches := rfl
@[simp] theorem State.setTimePort_time_cTwilight (s : State) (i : Nat) (x : TimePort) : (s.setTimePort i x).time.cTwilight = s.time.cTwilight := rfl
@[simp] theorem State.setTimePort_time_cPpsRejected (s : State) (i : Nat) (x : TimePort) : (s.setTimePort i x).time.cPpsRejected = s.time.cPpsRejected := rfl
@[simp] theorem State.setTimePort_time_cIrigErrors (s : State) (i : Nat) (x : TimePort) : (s.setTimePort i x).time.cIrigErrors = s.time.cIrigErrors := rfl
@[simp] theorem State.setTimePort_time_cSyncDiscarded (s : State) (i : Nat) (x : TimePort) : (s.setTimePort i x).time.cSyncDiscarded = s.time.cSyncDiscarded := rfl
@[simp] theorem State.setTimePort_time_cEvtOverflow (s : State) (i : Nat) (x : TimePort) : (s.setTimePort i x).time.cEvtOverflow = s.time.cEvtOverflow := rfl
@[simp] theorem State.setTimePort_time_cLateSent (s : State) (i : Nat) (x : TimePort) : (s.setTimePort i x).time.cLateSent = s.time.cLateSent := rfl
@[simp] theorem State.setTimePort_time_cLateDropped (s : State) (i : Nat) (x : TimePort) : (s.setTimePort i x).time.cLateDropped = s.time.cLateDropped := rfl
@[simp] theorem State.setTimePort_time_cDroppedFar (s : State) (i : Nat) (x : TimePort) : (s.setTimePort i x).time.cDroppedFar = s.time.cDroppedFar := rfl
@[simp] theorem State.setTimePort_time_ports (s : State) (i : Nat) (x : TimePort) : (s.setTimePort i x).time.ports = vset s.time.ports i x := rfl

/-! ### State.setIface -/

@[simp] theorem State.setIface_pending (s : State) (i : Nat) (x : Iface) : (s.setIface i x).pending = s.pending := by
  unfold State.setIface; (repeat' split) <;> rfl
@[simp] theorem State.setIface_now (s : State) (i : Nat) (x : Iface) : (s.setIface i x).now = s.now := by
  unfold State.setIface; (repeat' split) <;> rfl
@[simp] theorem State.setIface_later (s : State) (i : Nat) (x : Iface) : (s.setIface i x).later = s.later := by
  unfold State.setIface; (repeat' split) <;> rfl
@[simp] theorem State.setIface_drawn (s : State) (i : Nat) (x : Iface) : (s.setIface i x).drawn = s.drawn := by
  unfold State.setIface; (repeat' split) <;> rfl
@[simp] theorem State.setIface_outputs (s : State) (i : Nat) (x : Iface) : (s.setIface i x).outputs = s.outputs := by
  unfold State.setIface; (repeat' split) <;> rfl
@[simp] theorem State.setIface_time (s : State) (i : Nat) (x : Iface) : (s.setIface i x).time = s.time := by
  unfold State.setIface; (repeat' split) <;> rfl
@[simp] theorem State.setIface_ingress (s : State) (i : Nat) (x : Iface) : (s.setIface i x).ingress = s.ingress := by
  unfold State.setIface; (repeat' split) <;> rfl
@[simp] theorem State.setIface_align (s : State) (i : Nat) (x : Iface) : (s.setIface i x).align = s.align := by
  unfold State.setIface; (repeat' split) <;> rfl
@[simp] theorem State.setIface_front (s : State) (i : Nat) (x : Iface) : (s.setIface i x).front = s.front := by
  unfold State.setIface; (repeat' split) <;> rfl
@[simp] theorem State.setIface_energy (s : State) (i : Nat) (x : Iface) : (s.setIface i x).energy = s.energy := by
  unfold State.setIface; (repeat' split) <;> rfl
@[simp] theorem State.setIface_detect (s : State) (i : Nat) (x : Iface) : (s.setIface i x).detect = s.detect := by
  unfold State.setIface; (repeat' split) <;> rfl
@[simp] theorem State.setIface_kernel (s : State) (i : Nat) (x : Iface) : (s.setIface i x).kernel = s.kernel := by
  unfold State.setIface; (repeat' split) <;> rfl
@[simp] theorem State.setIface_egress (s : State) (i : Nat) (x : Iface) : (s.setIface i x).egress = s.egress := by
  unfold State.setIface; (repeat' split) <;> rfl
@[simp] theorem State.setIface_dma (s : State) (i : Nat) (x : Iface) : (s.setIface i x).dma = s.dma := by
  unfold State.setIface; (repeat' split) <;> rfl
@[simp] theorem State.setIface_pair (s : State) (i : Nat) (x : Iface) : (s.setIface i x).pair = s.pair := by
  unfold State.setIface; (repeat' split) <;> rfl
@[simp] theorem State.setIface_integ (s : State) (i : Nat) (x : Iface) : (s.setIface i x).integ = s.integ := by
  unfold State.setIface; (repeat' split) <;> rfl
@[simp] theorem State.setIface_sec (s : State) (i : Nat) (x : Iface) : (s.setIface i x).sec = s.sec := by
  unfold State.setIface; (repeat' split) <;> rfl
@[simp] theorem State.setIface_upd (s : State) (i : Nat) (x : Iface) : (s.setIface i x).upd = s.upd := by
  unfold State.setIface; (repeat' split) <;> rfl
@[simp] theorem State.setIface_host_waiting (s : State) (i : Nat) (x : Iface) : (s.setIface i x).host.waiting = s.host.waiting := by
  unfold State.setIface; (repeat' split) <;> rfl
@[simp] theorem State.setIface_host_executing (s : State) (i : Nat) (x : Iface) : (s.setIface i x).host.executing = s.host.executing := by
  unfold State.setIface; (repeat' split) <;> rfl
@[simp] theorem State.setIface_host_pcieUp (s : State) (i : Nat) (x : Iface) : (s.setIface i x).host.pcieUp = s.host.pcieUp := by
  unfold State.setIface; (repeat' split) <;> rfl
@[simp] theorem State.setIface_host_busMaster (s : State) (i : Nat) (x : Iface) : (s.setIface i x).host.busMaster = s.host.busMaster := by
  unfold State.setIface; (repeat' split) <;> rfl
@[simp] theorem State.setIface_host_payload (s : State) (i : Nat) (x : Iface) : (s.setIface i x).host.payload = s.host.payload := by
  unfold State.setIface; (repeat' split) <;> rfl
@[simp] theorem State.setIface_host_readSize (s : State) (i : Nat) (x : Iface) : (s.setIface i x).host.readSize = s.host.readSize := by
  unfold State.setIface; (repeat' split) <;> rfl
@[simp] theorem State.setIface_host_pci (s : State) (i : Nat) (x : Iface) : (s.setIface i x).host.pci = s.host.pci := by
  unfold State.setIface; (repeat' split) <;> rfl
@[simp] theorem State.setIface_host_cmdBase (s : State) (i : Nat) (x : Iface) : (s.setIface i x).host.cmdBase = s.host.cmdBase := by
  unfold State.setIface; (repeat' split) <;> rfl
@[simp] theorem State.setIface_host_cplBase (s : State) (i : Nat) (x : Iface) : (s.setIface i x).host.cplBase = s.host.cplBase := by
  unfold State.setIface; (repeat' split) <;> rfl
@[simp] theorem State.setIface_host_ringEnable (s : State) (i : Nat) (x : Iface) : (s.setIface i x).host.ringEnable = s.host.ringEnable := by
  unfold State.setIface; (repeat' split) <;> rfl
@[simp] theorem State.setIface_host_log2 (s : State) (i : Nat) (x : Iface) : (s.setIface i x).host.log2 = s.host.log2 := by
  unfold State.setIface; (repeat' split) <;> rfl
@[simp] theorem State.setIface_host_cmdTail (s : State) (i : Nat) (x : Iface) : (s.setIface i x).host.cmdTail = s.host.cmdTail := by
  unfold State.setIface; (repeat' split) <;> rfl
@[simp] theorem State.setIface_host_cmdHead (s : State) (i : Nat) (x : Iface) : (s.setIface i x).host.cmdHead = s.host.cmdHead := by
  unfold State.setIface; (repeat' split) <;> rfl
@[simp] theorem State.setIface_host_cplHead (s : State) (i : Nat) (x : Iface) : (s.setIface i x).host.cplHead = s.host.cplHead := by
  unfold State.setIface; (repeat' split) <;> rfl
@[simp] theorem State.setIface_host_cplTail (s : State) (i : Nat) (x : Iface) : (s.setIface i x).host.cplTail = s.host.cplTail := by
  unfold State.setIface; (repeat' split) <;> rfl
@[simp] theorem State.setIface_host_cfgErr (s : State) (i : Nat) (x : Iface) : (s.setIface i x).host.cfgErr = s.host.cfgErr := by
  unfold State.setIface; (repeat' split) <;> rfl
@[simp] theorem State.setIface_host_doorbellErr (s : State) (i : Nat) (x : Iface) : (s.setIface i x).host.doorbellErr = s.host.doorbellErr := by
  unfold State.setIface; (repeat' split) <;> rfl
@[simp] theorem State.setIface_host_slots (s : State) (i : Nat) (x : Iface) : (s.setIface i x).host.slots = s.host.slots := by
  unfold State.setIface; (repeat' split) <;> rfl
@[simp] theorem State.setIface_host_scratch (s : State) (i : Nat) (x : Iface) : (s.setIface i x).host.scratch = s.host.scratch := by
  unfold State.setIface; (repeat' split) <;> rfl
@[simp] theorem State.setIface_host_cause (s : State) (i : Nat) (x : Iface) : (s.setIface i x).host.cause = s.host.cause := by
  unfold State.setIface; (repeat' split) <;> rfl
@[simp] theorem State.setIface_host_mask (s : State) (i : Nat) (x : Iface) : (s.setIface i x).host.mask = s.host.mask := by
  unfold State.setIface; (repeat' split) <;> rfl
@[simp] theorem State.setIface_host_map (s : State) (i : Nat) (x : Iface) : (s.setIface i x).host.map = s.host.map := by
  unfold State.setIface; (repeat' split) <;> rfl
@[simp] theorem State.setIface_host_gapUs (s : State) (i : Nat) (x : Iface) : (s.setIface i x).host.gapUs = s.host.gapUs := by
  unfold State.setIface; (repeat' split) <;> rfl
@[simp] theorem State.setIface_host_msix (s : State) (i : Nat) (x : Iface) : (s.setIface i x).host.msix = s.host.msix := by
  unfold State.setIface; (repeat' split) <;> rfl
@[simp] theorem State.setIface_host_cmdReady (s : State) (i : Nat) (x : Iface) : (s.setIface i x).host.cmdReady = s.host.cmdReady := by
  unfold State.setIface; (repeat' split) <;> rfl
@[simp] theorem State.setIface_host_mgmtCfg (s : State) (i : Nat) (x : Iface) : (s.setIface i x).host.mgmtCfg = s.host.mgmtCfg := by
  unfold State.setIface; (repeat' split) <;> rfl
@[simp] theorem State.setIface_host_mgmtNext (s : State) (i : Nat) (x : Iface) : (s.setIface i x).host.mgmtNext = s.host.mgmtNext := by
  unfold State.setIface; (repeat' split) <;> rfl
@[simp] theorem State.setIface_host_mgmtLink (s : State) (i : Nat) (x : Iface) : (s.setIface i x).host.mgmtLink = s.host.mgmtLink := by
  unfold State.setIface; (repeat' split) <;> rfl
@[simp] theorem State.setIface_host_bastik (s : State) (i : Nat) (x : Iface) : (s.setIface i x).host.bastik = s.host.bastik := by
  unfold State.setIface; (repeat' split) <;> rfl
@[simp] theorem State.setIface_host_journal (s : State) (i : Nat) (x : Iface) : (s.setIface i x).host.journal = s.host.journal := by
  unfold State.setIface; (repeat' split) <;> rfl
@[simp] theorem State.setIface_host_nextJseq (s : State) (i : Nat) (x : Iface) : (s.setIface i x).host.nextJseq = s.host.nextJseq := by
  unfold State.setIface; (repeat' split) <;> rfl
@[simp] theorem State.setIface_host_route (s : State) (i : Nat) (x : Iface) : (s.setIface i x).host.route = s.host.route := by
  unfold State.setIface; (repeat' split) <;> rfl
@[simp] theorem State.setIface_host_settings (s : State) (i : Nat) (x : Iface) : (s.setIface i x).host.settings = s.host.settings := by
  unfold State.setIface; (repeat' split) <;> rfl
@[simp] theorem State.setIface_host_dirty (s : State) (i : Nat) (x : Iface) : (s.setIface i x).host.dirty = s.host.dirty := by
  unfold State.setIface; (repeat' split) <;> rfl
@[simp] theorem State.setIface_host_warmDue (s : State) (i : Nat) (x : Iface) : (s.setIface i x).host.warmDue = s.host.warmDue := by
  unfold State.setIface; (repeat' split) <;> rfl
@[simp] theorem State.setIface_host_cOverwrites (s : State) (i : Nat) (x : Iface) : (s.setIface i x).host.cOverwrites = s.host.cOverwrites := by
  unfold State.setIface; (repeat' split) <;> rfl
@[simp] theorem State.setIface_host_cRouteDrops (s : State) (i : Nat) (x : Iface) : (s.setIface i x).host.cRouteDrops = s.host.cRouteDrops := by
  unfold State.setIface; (repeat' split) <;> rfl
@[simp] theorem State.setIface_host_cUnprotected (s : State) (i : Nat) (x : Iface) : (s.setIface i x).host.cUnprotected = s.host.cUnprotected := by
  unfold State.setIface; (repeat' split) <;> rfl

/-! ### State.setLine -/

@[simp] theorem State.setLine_pending (s : State) (i : Nat) (x : LineSt) : (s.setLine i x).pending = s.pending := by
  unfold State.setLine; (repeat' split) <;> rfl
@[simp] theorem State.setLine_now (s : State) (i : Nat) (x : LineSt) : (s.setLine i x).now = s.now := by
  unfold State.setLine; (repeat' split) <;> rfl
@[simp] theorem State.setLine_later (s : State) (i : Nat) (x : LineSt) : (s.setLine i x).later = s.later := by
  unfold State.setLine; (repeat' split) <;> rfl
@[simp] theorem State.setLine_drawn (s : State) (i : Nat) (x : LineSt) : (s.setLine i x).drawn = s.drawn := by
  unfold State.setLine; (repeat' split) <;> rfl
@[simp] theorem State.setLine_outputs (s : State) (i : Nat) (x : LineSt) : (s.setLine i x).outputs = s.outputs := by
  unfold State.setLine; (repeat' split) <;> rfl
@[simp] theorem State.setLine_time (s : State) (i : Nat) (x : LineSt) : (s.setLine i x).time = s.time := by
  unfold State.setLine; (repeat' split) <;> rfl
@[simp] theorem State.setLine_ingress (s : State) (i : Nat) (x : LineSt) : (s.setLine i x).ingress = s.ingress := by
  unfold State.setLine; (repeat' split) <;> rfl
@[simp] theorem State.setLine_align (s : State) (i : Nat) (x : LineSt) : (s.setLine i x).align = s.align := by
  unfold State.setLine; (repeat' split) <;> rfl
@[simp] theorem State.setLine_front (s : State) (i : Nat) (x : LineSt) : (s.setLine i x).front = s.front := by
  unfold State.setLine; (repeat' split) <;> rfl
@[simp] theorem State.setLine_detect (s : State) (i : Nat) (x : LineSt) : (s.setLine i x).detect = s.detect := by
  unfold State.setLine; (repeat' split) <;> rfl
@[simp] theorem State.setLine_kernel (s : State) (i : Nat) (x : LineSt) : (s.setLine i x).kernel = s.kernel := by
  unfold State.setLine; (repeat' split) <;> rfl
@[simp] theorem State.setLine_egress (s : State) (i : Nat) (x : LineSt) : (s.setLine i x).egress = s.egress := by
  unfold State.setLine; (repeat' split) <;> rfl
@[simp] theorem State.setLine_dma (s : State) (i : Nat) (x : LineSt) : (s.setLine i x).dma = s.dma := by
  unfold State.setLine; (repeat' split) <;> rfl
@[simp] theorem State.setLine_host (s : State) (i : Nat) (x : LineSt) : (s.setLine i x).host = s.host := by
  unfold State.setLine; (repeat' split) <;> rfl
@[simp] theorem State.setLine_pair (s : State) (i : Nat) (x : LineSt) : (s.setLine i x).pair = s.pair := by
  unfold State.setLine; (repeat' split) <;> rfl
@[simp] theorem State.setLine_integ (s : State) (i : Nat) (x : LineSt) : (s.setLine i x).integ = s.integ := by
  unfold State.setLine; (repeat' split) <;> rfl
@[simp] theorem State.setLine_sec (s : State) (i : Nat) (x : LineSt) : (s.setLine i x).sec = s.sec := by
  unfold State.setLine; (repeat' split) <;> rfl
@[simp] theorem State.setLine_upd (s : State) (i : Nat) (x : LineSt) : (s.setLine i x).upd = s.upd := by
  unfold State.setLine; (repeat' split) <;> rfl
@[simp] theorem State.setLine_sys (s : State) (i : Nat) (x : LineSt) : (s.setLine i x).sys = s.sys := by
  unfold State.setLine; (repeat' split) <;> rfl
@[simp] theorem State.setLine_energy_interval (s : State) (i : Nat) (x : LineSt) : (s.setLine i x).energy.interval = s.energy.interval := by
  unfold State.setLine; (repeat' split) <;> rfl
@[simp] theorem State.setLine_energy_snaps (s : State) (i : Nat) (x : LineSt) : (s.setLine i x).energy.snaps = s.energy.snaps := by
  unfold State.setLine; (repeat' split) <;> rfl
@[simp] theorem State.setLine_energy_snapSeq (s : State) (i : Nat) (x : LineSt) : (s.setLine i x).energy.snapSeq = s.energy.snapSeq := by
  unfold State.setLine; (repeat' split) <;> rfl
@[simp] theorem State.setLine_energy_lastBoundary (s : State) (i : Nat) (x : LineSt) : (s.setLine i x).energy.lastBoundary = s.energy.lastBoundary := by
  unfold State.setLine; (repeat' split) <;> rfl
@[simp] theorem State.setLine_energy_lastTap (s : State) (i : Nat) (x : LineSt) : (s.setLine i x).energy.lastTap = s.energy.lastTap := by
  unfold State.setLine; (repeat' split) <;> rfl
@[simp] theorem State.setLine_energy_unitRunning (s : State) (i : Nat) (x : LineSt) : (s.setLine i x).energy.unitRunning = s.energy.unitRunning := by
  unfold State.setLine; (repeat' split) <;> rfl
@[simp] theorem State.setLine_energy_events (s : State) (i : Nat) (x : LineSt) : (s.setLine i x).energy.events = s.energy.events := by
  unfold State.setLine; (repeat' split) <;> rfl
@[simp] theorem State.setLine_energy_evtSeq (s : State) (i : Nat) (x : LineSt) : (s.setLine i x).energy.evtSeq = s.energy.evtSeq := by
  unfold State.setLine; (repeat' split) <;> rfl
@[simp] theorem State.setLine_energy_evtLost (s : State) (i : Nat) (x : LineSt) : (s.setLine i x).energy.evtLost = s.energy.evtLost := by
  unfold State.setLine; (repeat' split) <;> rfl
@[simp] theorem State.setLine_energy_clearCount (s : State) (i : Nat) (x : LineSt) : (s.setLine i x).energy.clearCount = s.energy.clearCount := by
  unfold State.setLine; (repeat' split) <;> rfl
@[simp] theorem State.setLine_energy_mirrorIn (s : State) (i : Nat) (x : LineSt) : (s.setLine i x).energy.mirrorIn = s.energy.mirrorIn := by
  unfold State.setLine; (repeat' split) <;> rfl
@[simp] theorem State.setLine_energy_mirrorAt (s : State) (i : Nat) (x : LineSt) : (s.setLine i x).energy.mirrorAt = s.energy.mirrorAt := by
  unfold State.setLine; (repeat' split) <;> rfl
@[simp] theorem State.setLine_energy_delta0 (s : State) (i : Nat) (x : LineSt) : (s.setLine i x).energy.delta0 = s.energy.delta0 := by
  unfold State.setLine; (repeat' split) <;> rfl
@[simp] theorem State.setLine_energy_delta1 (s : State) (i : Nat) (x : LineSt) : (s.setLine i x).energy.delta1 = s.energy.delta1 := by
  unfold State.setLine; (repeat' split) <;> rfl
@[simp] theorem State.setLine_energy_deltaTimes (s : State) (i : Nat) (x : LineSt) : (s.setLine i x).energy.deltaTimes = s.energy.deltaTimes := by
  unfold State.setLine; (repeat' split) <;> rfl
@[simp] theorem State.setLine_energy_mirrorSentAt (s : State) (i : Nat) (x : LineSt) : (s.setLine i x).energy.mirrorSentAt = s.energy.mirrorSentAt := by
  unfold State.setLine; (repeat' split) <;> rfl

/-! ### State.setOtherBank -/

@[simp] theorem State.setOtherBank_pending (s : State) (x : Bank) : (s.setOtherBank x).pending = s.pending := by
  unfold State.setOtherBank; (repeat' split) <;> rfl
@[simp] theorem State.setOtherBank_now (s : State) (x : Bank) : (s.setOtherBank x).now = s.now := by
  unfold State.setOtherBank; (repeat' split) <;> rfl
@[simp] theorem State.setOtherBank_later (s : State) (x : Bank) : (s.setOtherBank x).later = s.later := by
  unfold State.setOtherBank; (repeat' split) <;> rfl
@[simp] theorem State.setOtherBank_drawn (s : State) (x : Bank) : (s.setOtherBank x).drawn = s.drawn := by
  unfold State.setOtherBank; (repeat' split) <;> rfl
@[simp] theorem State.setOtherBank_outputs (s : State) (x : Bank) : (s.setOtherBank x).outputs = s.outputs := by
  unfold State.setOtherBank; (repeat' split) <;> rfl
@[simp] theorem State.setOtherBank_time (s : State) (x : Bank) : (s.setOtherBank x).time = s.time := by
  unfold State.setOtherBank; (repeat' split) <;> rfl
@[simp] theorem State.setOtherBank_ingress (s : State) (x : Bank) : (s.setOtherBank x).ingress = s.ingress := by
  unfold State.setOtherBank; (repeat' split) <;> rfl
@[simp] theorem State.setOtherBank_align (s : State) (x : Bank) : (s.setOtherBank x).align = s.align := by
  unfold State.setOtherBank; (repeat' split) <;> rfl
@[simp] theorem State.setOtherBank_front (s : State) (x : Bank) : (s.setOtherBank x).front = s.front := by
  unfold State.setOtherBank; (repeat' split) <;> rfl
@[simp] theorem State.setOtherBank_energy (s : State) (x : Bank) : (s.setOtherBank x).energy = s.energy := by
  unfold State.setOtherBank; (repeat' split) <;> rfl
@[simp] theorem State.setOtherBank_detect (s : State) (x : Bank) : (s.setOtherBank x).detect = s.detect := by
  unfold State.setOtherBank; (repeat' split) <;> rfl
@[simp] theorem State.setOtherBank_kernel (s : State) (x : Bank) : (s.setOtherBank x).kernel = s.kernel := by
  unfold State.setOtherBank; (repeat' split) <;> rfl
@[simp] theorem State.setOtherBank_egress (s : State) (x : Bank) : (s.setOtherBank x).egress = s.egress := by
  unfold State.setOtherBank; (repeat' split) <;> rfl
@[simp] theorem State.setOtherBank_dma (s : State) (x : Bank) : (s.setOtherBank x).dma = s.dma := by
  unfold State.setOtherBank; (repeat' split) <;> rfl
@[simp] theorem State.setOtherBank_host (s : State) (x : Bank) : (s.setOtherBank x).host = s.host := by
  unfold State.setOtherBank; (repeat' split) <;> rfl
@[simp] theorem State.setOtherBank_pair (s : State) (x : Bank) : (s.setOtherBank x).pair = s.pair := by
  unfold State.setOtherBank; (repeat' split) <;> rfl
@[simp] theorem State.setOtherBank_integ (s : State) (x : Bank) : (s.setOtherBank x).integ = s.integ := by
  unfold State.setOtherBank; (repeat' split) <;> rfl
@[simp] theorem State.setOtherBank_sec (s : State) (x : Bank) : (s.setOtherBank x).sec = s.sec := by
  unfold State.setOtherBank; (repeat' split) <;> rfl
@[simp] theorem State.setOtherBank_upd_runB (s : State) (x : Bank) : (s.setOtherBank x).upd.runB = s.upd.runB := by
  unfold State.setOtherBank; (repeat' split) <;> rfl
@[simp] theorem State.setOtherBank_upd_dramImages (s : State) (x : Bank) : (s.setOtherBank x).upd.dramImages = s.upd.dramImages := by
  unfold State.setOtherBank; (repeat' split) <;> rfl
@[simp] theorem State.setOtherBank_upd_session (s : State) (x : Bank) : (s.setOtherBank x).upd.session = s.upd.session := by
  unfold State.setOtherBank; (repeat' split) <;> rfl
@[simp] theorem State.setOtherBank_upd_copy (s : State) (x : Bank) : (s.setOtherBank x).upd.copy = s.upd.copy := by
  unfold State.setOtherBank; (repeat' split) <;> rfl
@[simp] theorem State.setOtherBank_upd_window (s : State) (x : Bank) : (s.setOtherBank x).upd.window = s.upd.window := by
  unfold State.setOtherBank; (repeat' split) <;> rfl
@[simp] theorem State.setOtherBank_upd_trialEnd (s : State) (x : Bank) : (s.setOtherBank x).upd.trialEnd = s.upd.trialEnd := by
  unfold State.setOtherBank; (repeat' split) <;> rfl
@[simp] theorem State.setOtherBank_upd_bundles (s : State) (x : Bank) : (s.setOtherBank x).upd.bundles = s.upd.bundles := by
  unfold State.setOtherBank; (repeat' split) <;> rfl
@[simp] theorem State.setOtherBank_upd_events (s : State) (x : Bank) : (s.setOtherBank x).upd.events = s.upd.events := by
  unfold State.setOtherBank; (repeat' split) <;> rfl
@[simp] theorem State.setOtherBank_upd_flashJournal (s : State) (x : Bank) : (s.setOtherBank x).upd.flashJournal = s.upd.flashJournal := by
  unfold State.setOtherBank; (repeat' split) <;> rfl
@[simp] theorem State.setOtherBank_upd_recovery (s : State) (x : Bank) : (s.setOtherBank x).upd.recovery = s.upd.recovery := by
  unfold State.setOtherBank; (repeat' split) <;> rfl
@[simp] theorem State.setIface_iface_self (s : State) (i : Nat) (x : Iface) (h : i < 3) : (s.setIface i x).iface i = x := by
  have : i = 0 ∨ i = 1 ∨ i = 2 := by omega
  rcases this with rfl | rfl | rfl <;> rfl
@[simp] theorem State.setOtherBank_otherBank (s : State) (x : Bank) : (s.setOtherBank x).otherBank = x := by
  unfold State.otherBank State.setOtherBank; split <;> simp_all

/-! ### The shared updates -/

@[simp] theorem State.draw_pending (s : State) : (State.draw s).2.pending = s.pending := rfl
@[simp] theorem State.draw_now (s : State) : (State.draw s).2.now = s.now := rfl
@[simp] theorem State.draw_later (s : State) : (State.draw s).2.later = s.later := rfl
@[simp] theorem State.draw_outputs (s : State) : (State.draw s).2.outputs = s.outputs := rfl
@[simp] theorem State.draw_time (s : State) : (State.draw s).2.time = s.time := rfl
@[simp] theorem State.draw_ingress (s : State) : (State.draw s).2.ingress = s.ingress := rfl
@[simp] theorem State.draw_align (s : State) : (State.draw s).2.align = s.align := rfl
@[simp] theorem State.draw_front (s : State) : (State.draw s).2.front = s.front := rfl
@[simp] theorem State.draw_energy (s : State) : (State.draw s).2.energy = s.energy := rfl
@[simp] theorem State.draw_detect (s : State) : (State.draw s).2.detect = s.detect := rfl
@[simp] theorem State.draw_kernel (s : State) : (State.draw s).2.kernel = s.kernel := rfl
@[simp] theorem State.draw_egress (s : State) : (State.draw s).2.egress = s.egress := rfl
@[simp] theorem State.draw_dma (s : State) : (State.draw s).2.dma = s.dma := rfl
@[simp] theorem State.draw_host (s : State) : (State.draw s).2.host = s.host := rfl
@[simp] theorem State.draw_pair (s : State) : (State.draw s).2.pair = s.pair := rfl
@[simp] theorem State.draw_integ (s : State) : (State.draw s).2.integ = s.integ := rfl
@[simp] theorem State.draw_sec (s : State) : (State.draw s).2.sec = s.sec := rfl
@[simp] theorem State.draw_upd (s : State) : (State.draw s).2.upd = s.upd := rfl
@[simp] theorem State.draw_sys (s : State) : (State.draw s).2.sys = s.sys := rfl
@[simp] theorem State.emit_pending (s : State) (o : Output) : (s.emit o).pending = s.pending := rfl
@[simp] theorem State.emit_now (s : State) (o : Output) : (s.emit o).now = s.now := rfl
@[simp] theorem State.emit_later (s : State) (o : Output) : (s.emit o).later = s.later := rfl
@[simp] theorem State.emit_drawn (s : State) (o : Output) : (s.emit o).drawn = s.drawn := rfl
@[simp] theorem State.emit_time (s : State) (o : Output) : (s.emit o).time = s.time := rfl
@[simp] theorem State.emit_ingress (s : State) (o : Output) : (s.emit o).ingress = s.ingress := rfl
@[simp] theorem State.emit_align (s : State) (o : Output) : (s.emit o).align = s.align := rfl
@[simp] theorem State.emit_front (s : State) (o : Output) : (s.emit o).front = s.front := rfl
@[simp] theorem State.emit_energy (s : State) (o : Output) : (s.emit o).energy = s.energy := rfl
@[simp] theorem State.emit_detect (s : State) (o : Output) : (s.emit o).detect = s.detect := rfl
@[simp] theorem State.emit_kernel (s : State) (o : Output) : (s.emit o).kernel = s.kernel := rfl
@[simp] theorem State.emit_egress (s : State) (o : Output) : (s.emit o).egress = s.egress := rfl
@[simp] theorem State.emit_dma (s : State) (o : Output) : (s.emit o).dma = s.dma := rfl
@[simp] theorem State.emit_host (s : State) (o : Output) : (s.emit o).host = s.host := rfl
@[simp] theorem State.emit_pair (s : State) (o : Output) : (s.emit o).pair = s.pair := rfl
@[simp] theorem State.emit_integ (s : State) (o : Output) : (s.emit o).integ = s.integ := rfl
@[simp] theorem State.emit_sec (s : State) (o : Output) : (s.emit o).sec = s.sec := rfl
@[simp] theorem State.emit_upd (s : State) (o : Output) : (s.emit o).upd = s.upd := rfl
@[simp] theorem State.emits_pending (s : State) (o : List Output) : (s.emits o).pending = s.pending := rfl
@[simp] theorem State.emits_now (s : State) (o : List Output) : (s.emits o).now = s.now := rfl
@[simp] theorem State.emits_later (s : State) (o : List Output) : (s.emits o).later = s.later := rfl
@[simp] theorem State.emits_drawn (s : State) (o : List Output) : (s.emits o).drawn = s.drawn := rfl
@[simp] theorem State.emits_time (s : State) (o : List Output) : (s.emits o).time = s.time := rfl
@[simp] theorem State.emits_ingress (s : State) (o : List Output) : (s.emits o).ingress = s.ingress := rfl
@[simp] theorem State.emits_align (s : State) (o : List Output) : (s.emits o).align = s.align := rfl
@[simp] theorem State.emits_front (s : State) (o : List Output) : (s.emits o).front = s.front := rfl
@[simp] theorem State.emits_energy (s : State) (o : List Output) : (s.emits o).energy = s.energy := rfl
@[simp] theorem State.emits_detect (s : State) (o : List Output) : (s.emits o).detect = s.detect := rfl
@[simp] theorem State.emits_kernel (s : State) (o : List Output) : (s.emits o).kernel = s.kernel := rfl
@[simp] theorem State.emits_egress (s : State) (o : List Output) : (s.emits o).egress = s.egress := rfl
@[simp] theorem State.emits_dma (s : State) (o : List Output) : (s.emits o).dma = s.dma := rfl
@[simp] theorem State.emits_host (s : State) (o : List Output) : (s.emits o).host = s.host := rfl
@[simp] theorem State.emits_pair (s : State) (o : List Output) : (s.emits o).pair = s.pair := rfl
@[simp] theorem State.emits_integ (s : State) (o : List Output) : (s.emits o).integ = s.integ := rfl
@[simp] theorem State.emits_sec (s : State) (o : List Output) : (s.emits o).sec = s.sec := rfl
@[simp] theorem State.emits_upd (s : State) (o : List Output) : (s.emits o).upd = s.upd := rfl
@[simp] theorem State.emits_sys (s : State) (o : List Output) : (s.emits o).sys = s.sys := rfl
@[simp] theorem State.emit_outputs (s : State) (o : Output) : (s.emit o).outputs = o :: s.outputs := rfl
@[simp] theorem State.draw_drawn (s : State) : (State.draw s).2.drawn = s.drawn + 1 := rfl

end Sys2Proof.Machine
end

