-- ==== Sys2Proof/Tests/Slice0.lean ====
section
/-! SUPPORT. Tests: ill-formed commands are refused; and for each statement with hypotheses one theorem whose clauses show, for
each clause of the statement in its order, operands and states that meet the clause's hypotheses together. A hypothesis that an
opaque constant of Config decides (a signature that verifies) is left out of its clause. -/



namespace Sys2Proof.Tests

open Sys2Proof.Machine
set_option maxRecDepth 100000
set_option Elab.async false

/-! ### Packets, states and records -/

/-- A packet on RING with the parameters given. -/
def pk (p : List Byte) : Packet := { ifc := 0, tag := 1, epoch := 0, params := p }
/-- `n` zero octets with the fields `(offset, length, value)` set. -/
def pz (n : Nat) (fs : List (Nat × Nat × Nat)) : List Byte :=
  fs.foldl (fun p f => p.take f.1 ++ be f.2.1 f.2.2 ++ p.drop (f.1 + f.2.1)) (List.replicate n 0)
/-- A running device in mode `m` whose interfaces and endpoint run. -/
def wM (m : Mode) : State :=
  { State.reset with
    now := 10 ^ 15
    time := { State.reset.time with tb := (200000 * unitsPerSec + unitsPerSec / 4) * 65536 }
    sys := { State.reset.sys with mode := m, straps := { State.reset.sys.straps with svcEn := true } }
    host := { State.reset.host with cmdReady := true, pcieUp := true, busMaster := true, mgmtLink := true } }
def wC : State := wM .commission
def wRec : FrameRecord := { position := 0, isLocal := false, index := 0, gen := 0, fracsecHi := 0, stat := 0, viaPeer := false, tag := 0, arrivalDelay := 0, absent := 0, values := [], rate := 50, timeBase := 1000000, counts := (0, 0, 0) }
def wAlm : AlmDef := { source := .island, zone := 0, pickup := 0, dropout := 0, latch := false, pinMask := 0, destMask := 0, severity := 0 }
def wArea : Area := { tick := 0, instant := 0, closeAt := 0, deadlineAt := 0, releaseAt := 0 }
def wRun : DmaRun := { list := 0, count := 1, cmpl := 0, noSnoop := false, crcMode := 0, intEn := false, next := 0, desc := none, copied := 0, issued := 0, written := [], crc := 0, last := none, ending := none }
def wLine : LineFrame := { octets := List.replicate 64 0, wireLength := 64, fcsOk := true, fecCorr := 0, fecUncorr := 0, fecOverlap := false, macsec := .untagged }
def wSeal : Sealed := { zone := 0, rev := 0, seq := 0, tick := 0, instant := 0, start := 0, slotClass := 0, rate := 50, waitUs := 1000, tqCode := 0, servo := 0, stepped := false, triggered := false, lastRev := false, timeInvalid := false, memberChange := false, incomplete := false, slots := [] }
def wItem : Item := { kernel := 0, zone := 0, flow := 0, parts := 1, part := 0, seq := 0, tick := 0, instant := 0, first := 0, stateReset := false, retry := false, deadline := 0, after := none, fresh := false, table := 0, content := { kernel := 0, scalars := [], entries := [], rows := 0, nnz := 0, bytes := [], failed := false }, entries := [] }
def wRob : RobEntry := { item := wItem, state := .running, outs := none, releasedAt := 0, discard := false, notOn := none }
def wTx : TxFrame := { kind := .supervisor "ICMP", octets := List.replicate 64 0, priority := 0, launch := none, late := false }
def wUs : UpdSession := { ifc := 0, header := List.replicate 256 0, cls := 1, received := [], lastWrite := none }
def wQ : QCmd := { ifc := 0, origin := .direct, opcode := 0x0101, tag := 0, epoch := 0, length := 0, params := [] }
def wTcp : SessTcp := { peerIp := 0, peerPort := 0, mss := 536, on := false, seq := 0, unacked := [], window := 0, noRoom := none, cutTo := 0 }
def wImg : Image := { version := 0, arb := 0, setFmt := 0, setFmtMin := 0, root := none }
def wDg : StreamDgram := { ipv6 := false, tcp := false, srcIp := 0, srcPort := 0, dstPort := 0, arrival := 0, macsec := false, port := 0, payload := [], frames := [], rxAt := 0, due := 0 }
def wSync : PtpSync := { domain := 0, master := 0, ago := 0, origin := 0, corr := 0, twoStep := false, seq := 0, logIntv := 0 }
def wFup : PtpFollowUp := { domain := 0, master := 0, origin := 0, corr := 0, seq := 0 }
def wAnn : PtpAnnounce := { domain := 0, master := 0, rank := 0, intervalMs := 1000, utcOffset := 37, leap61 := false, leap59 := false, tlv := none }
def wTab : ParamTable := { kernel := 0, scalars := [], entries := [], rows := 0, nnz := 0, bytes := [], failed := false }
def wHello : HelloMsg := { lseq := 0, position := 0, pairRole := false, serial := 0, fwVer := 0, catVer := 0, mode := 0, pairState := 0 }
def wBeat : HeartbeatMsg := { hbSeq := 0, mode := 0, pairState := 0, yield := false, mirrored := false, servoLocked := false, digest := 0, tqCode := 0, marks := [] }
def wDesc : Desc := { src := 0, dst := 0, len := 64, srcWin := false, dstWin := false }
def wPack : RqPack := { words := [], valid := 0, end_ := false, start := false, firstWord := 0, lastAt := 0 }
def wRl : RqLine := { bytes := [], valid := 0, end_ := false, afterFlush := false, idlePush := false, start := false, firstWord := 0, seq := 0 }
def wStraps : StrapPins := { pairRole := false, fedId1 := false, fedId0 := false, bootSrc := false, svcEn := true }
def wJ : JEntry := { jseq := 0, time := 0, ifc := 0, status := 0, opcode := 0x0102, tag := 0, epoch := 0, crc := 0, committed := false, timeInvalid := false }
def wRf : RingFrame := { cls := 0, port := 0, macsec := false, arrival := 0, rxAt := 0, octets := List.replicate 64 0, cut := false, used := [] }
def wAsm : AsmRun := { c := wSeal, done := 0, orphan := false }
def wEe : EnergyEvt := { stamp := 0, type := 0, line := 0, phase := 0, acc := 0, seq := 0 }
def wSig : Signal := { zone := 0, type := 0, ref := {}, item := 0, ref2 := {}, item2 := 0, group := 0 }
def wKs : KernSpec := { maxN := 0, maxParts := 1, maxNnz := none, scalars := [] }
def wKo : KernelOut := { posted := 0, out := [], body := [], state := [] }
def wForm : FormReq := { edge := 0, session := 0, zone := 0, tick := 0, rev := 0 }
def wMk : Mkpdu := { peer := 0, priority := 0, icvOk := true }
def wRpl : Reply := { ifc := 0, opcode := 0x0101, tag := 0, epoch := 0, status := 0, offset := 0, data := [], taken := false }
def wEx : Exec := { cmd := wQ, op := .updAbort, mute := false }
def wRecov : Recovery := { buf := [], fw := none }
def wPf : ParsedFrame := { dgram := wDg, base := 0, due := 0 }
def wCk : CfgCheck := { index := 0, frame := [], since := 0, voided := false }
def wSegm : TcpSegment := { payload := [0], acked := 0, window := 0, close := false, reset := false }
def wSnap : Snapshot := { instant := 0, seq := 0, readings := [], times := [] }
def wCr : CohResult := { seq := 0, instant := 0, lit := 0, components := 0, islands := 0, islanded := 0, mainLabel := 0, labels := [] }
def wBand : Band := { enable := true, fLo := 0, fHi := 0 }
def wAe : AlmEvent := { type := 0, test := false, raised := true, stateNo := 0, decided := 0, tick := 0, seq := 0, tqCode := 0, detail := [] }
def wRs : ResultSlot := { seq := 0, tick := 0, kernel := 0, parts := 1, posted := 0, outs := [], body := [] }
def wEw : EgressWait := { zone := 0, tick := 0, rev := 0, sessions := [] }
def wGr : GenRepeat := { index := 0, home := 0, gen := 0, sent := 0, nextAt := 0 }
def wLog : LogEntry := { time := 0, cls := 0, unit := 0, outcome := 0, syndrome := 0, address := 0 }
def wMem : Member := { ref := {}, joinAt := some 0, leaveAt := none, remoteGen := none }
def wRsl : RingSlot := { cap := 4096, addr := 0, reply := none }
def wSc : SettingsCopy := { seq := 0, setFmt := 0, runAtBoot := false, settings := [] }
def wEvt : EvtRec := { stamp := 0, falling := false, tqBad := false, input := 0, status := 0, seq := 0 }
def wTr : TxRun := { frame := wTx, done := 0, from_ := 0, cut := none, wasCut := false }
def wSlot : Slot := { ref := {}, state := .absent, due := true, record := none, counts := (0, 0, 0), triggerLast := false }
def wEl : Edge := { a := 0, b := 1, angleOffset := 0, angleLimit := 0, freqLimit := 0, freqTest := false }
/-- Settings whose stored form is longer than a settings copy. -/
def wBig (n : Nat) : List Setting := [{ key := (0, []), opcode := 0, params := List.replicate n 0 }]
/-- The stored form of `wBig n` has `n + 6` octets. -/
theorem wBig_stored (n : Nat) (t : State) (h : t.host.settings = wBig n) : (storedForm t).length = n + 6 := by
  simp [storedForm, h, wBig, settingBytes, be]
/-- A scrapped device takes no image. -/
theorem wScrapped (s : State) (h : s.sys.lifecycle = .scrapped) (i : Image) : imageVerified s true i = false := by
  cases hr : i.root <;> simp [imageVerified, imageRootNow, selectedRoot, h, hr]
/-- No table is held: the condition on a held table holds. -/
theorem wNoTab (n : Nat) (ts : Tab ParamTable) (h : ts = []) : ∀ t, tabGet? n ts = some t → t.failed = false := by
  subst h; intro t h; cases h
/-- The state an operation answers, or the one before. -/
def wNext (c : Instr) (s : State) : State := match exec c s with | .next t => t | _ => s
def wAq : AsmReq := { edge := 0, order := 0, zone := 0, tick := 0 }
/-- The rising edges of a 10 MHz reference over `n` periods: how long ago each was, oldest first. -/
def wEdges : Nat → List Nat
  | 0 => [0]
  | n + 1 => (n + 1) * 100000 :: wEdges n
/-- Edges 100 ns apart leave no gap. -/
theorem wEdges_fold (n : Nat) : ∀ p : Nat, p ≤ n * 100000 + 1000000 →
    (wEdges n).foldl (fun (a : Nat × Bool) e => (e, a.2 || decide (1000000 < a.1 - e))) (p, false) = (0, false) := by
  induction n with
  | zero => intro p h; simp [wEdges]; omega
  | succ n ih =>
    intro p h
    have : ¬ 1000000 < p - (n + 1) * 100000 := by omega
    simp only [wEdges, List.foldl_cons, this, decide_false, Bool.or_false]
    exact ih _ (by omega)
theorem wEdges_gap (n : Nat) (h : 9990 ≤ n) : ref10Gap (wEdges n) = false := by
  have f := wEdges_fold n 1000000000 (by omega)
  unfold ref10Gap
  exact f ▸ rfl
theorem wEdges_length (n : Nat) : (wEdges n).length = n + 1 := by induction n <;> simp [wEdges, *]
theorem wEdges_last (n : Nat) : (wEdges n).getLastD 0 = 0 := by
  induction n with
  | zero => rfl
  | succ n ih => cases n <;> simp_all [wEdges]
theorem wEdges_on (n : Nat) : ref10Off (wEdges n) = false := by
  have h : (wEdges n).headD 0 = n * 100000 := by cases n <;> rfl
  simp only [ref10Off, wEdges_length, wEdges_last, h]
  simp
/-- A segment of 64 bytes of channel 0, from and to the window or host memory. -/
def wDmaD (a b : Bool) : Desc := { wDesc with srcWin := a, dstWin := b }
def wDmaR (a b : Bool) : DmaRun := { wRun with desc := some (wDmaD a b), issued := 64 }
def wChunk : Chunk := { ch := 0, at_ := 0, len := 64, data := none }
/-- The one transaction of that segment is in flight. -/
def wDmaS (a b : Bool) : State :=
  { (wC.setCh 0 { wC.ch 0 with run := some (wDmaR a b) }) with dma := { (wC.setCh 0 { wC.ch 0 with run := some (wDmaR a b) }).dma with buffer := [wChunk] } }
theorem wOldest (a b : Bool) : oldestRead (chunkRead ((wDmaS a b).elapse 0)) 0 (wDmaR a b) (wDmaD a b) wChunk := by
  cases a <;> cases b <;> unfold oldestRead <;> decide +kernel
/-- It goes to byte 2 of the window, whose first word cannot be read. -/
def wDmaOdd : State :=
  let s := (wDmaS false true).setCh 0 { (wDmaS false true).ch 0 with
    run := some { wDmaR false true with desc := some { wDmaD false true with dst := 2 } } }
  { s with dma := { s.dma with winBad := [0] } }

/-! ### Ill-formed commands -/

/-- Ill-formed commands, one operand out of its range in each (1). -/
theorem test_illFormed1_refused : ([
    .commandPacketArrival 0 3 [],
    .commandPacketArrival 0 0 (List.replicate 20481 0),
    .registerWrite 0 4194304 0 0,
    .registerWrite 0 0 4097 0,
    .registerWrite 0 0 0 0,
    .readClearRegister 0 4194304 0,
    .readClearRegister 0 0 4097,
    .readClearRegister 0 0 0,
    .intSet 0 2 0,
    .intCauseClear 0 2 0 0,
    .intMaskWrite 0 2 0,
    .msixModerationExpiry 0 32,
    .dmaStart 0 14 0,
    .dmaAbort 0 14,
    .dmaClear 0 14,
    .dmaDescriptorFetch 0 14 none,
    .dmaReadComplete 0 14 ({ data := .window }),
    .dmaListComplete 0 14,
    .rqEnable 0 32 0,
    .rqDisable 0 32 0,
    .rqFlush 0 32,
    .rqWordWrite 0 32 0 none none,
    .rqIdleTimeout 0 32,
    .rqLineDeliver 0 32,
    .leaveReset 0 wStraps 3 2,
    .leaveReset 0 wStraps 8 1,
    .dormantWake 0 (some 16),
    .lockout 0 15 0 0,
    .tempSample 0 [0],
    .engineLockstepMismatch 0 12,
    .engineSelftestDone 0 12 false,
    .almReadback 0 16 false,
    .sramScrubRead 0 15 0 0 0 false,
    .patrolRead 0 2 0 0 0,
    .dramWriteback 0 2,
    .close 0 64,
    .stagingStart 0 64,
    .stagingDone 0 64,
    .alarmRepeat 0 256,
    .alarmTestEnd 0 256] : List Instr).all (fun i => !i.wf) = true := by
  decide +kernel

/-- Ill-formed commands, one operand out of its range in each (2). -/
theorem test_illFormed2_refused : ([
    .budgetDeadline 0 64,
    .revisionDue 0 64 0,
    .revisionAbandon 0 64 0,
    .storeAreaExpiry 0 64 0,
    .wanFrameRx 0 4 wLine,
    .parserInput 0 5,
    .streamFrameBind 0 5,
    .rxDescriptorWriteback 0 8 [],
    .configCheckDone 0 16384,
    .streamSilent 0 16384,
    .quarantineEnd 0 16384,
    .cfgRequestRepeat 0 16384,
    .tcpReconnect 0 16384 false,
    .tcpFrameDeliver 0 16384,
    .tcpFrameTimeout 0 16384,
    .mkpduRx 0 5 wMk,
    .mkaHello 0 5,
    .mkaLifeTimeExpiry 0 5 0,
    .sakInstall 0 5 0 0,
    .sakInstall 0 0 0 4,
    .ptpSync 0 4 wSync,
    .ptpFollowUp 0 4 wFup,
    .ptpAnnounce 0 4 wAnn,
    .ptpPeerDelay 0 4 (.complete 0 0 0 0 0),
    .irigFrame 0 (.good 0 0 0 0 0 none),
    .irigFrame 0 (.good 0 367 0 0 0 none),
    .irigFrame 0 (.good 0 1 24 0 0 none),
    .irigFrame 0 (.good 0 1 0 60 0 none),
    .irigFrame 0 (.good 0 1 0 0 61 none),
    .ref10Gate 0 (.phase [1000000001]),
    .ref10Gate 0 (.phase [1, 1]),
    .sourceLost 0 5,
    .eventCapture 0 16 false,
    .launchDecision 0 4 false,
    .chainValid 0 24,
    .modulatorLoss 0 24,
    .modulatorResuming 0 24,
    .resumeWindowEnd 0 24 false,
    .feOutputSample 0 16 [] [],
    .zcLoss 0 16] : List Instr).all (fun i => !i.wf) = true := by
  decide +kernel

/-- Ill-formed commands, one operand out of its range in each (3). -/
theorem test_illFormed3_refused : ([
    .localPhasorRecord 0 4,
    .unmeteredFlowQualified 0 2 0,
    .unmeteredFlowQualified 0 0 3,
    .itemArrival 0 12,
    .engineRelease 0 12 [],
    .engineRelease 0 0 ([.load 0 512]),
    .engineRelease 0 0 ([.keep 262144 0]),
    .itemPosted 0 256,
    .combinedFrameForm 0 64 0 0,
    .combinedFrameForm 0 0 0 16,
    .cfgPeriodExpiry 0 256,
    .macTxStart 0 4 false,
    .macTxDone 0 4 false,
    .tcpSend 0 256 0,
    .tcpConnect 0 256 0 0 0,
    .sessionCommandFrame 0 256 0,
    .tcpWindowTimeout 0 256,
    .tcpRetransmit 0 256,
    .pauseRx 0 4 none [],
    .pauseRx 0 0 (some 256) [],
    .pauseEnd 0 4,
    .wanLinkChange 0 4 false,
    .verifyTimeout 0 4,
    .peerLinkTraining 0 4,
    .peerLinkDown 0 4,
    .hello 0 4 wHello,
    .hello 0 0 ({ wHello with position := 4 }),
    .hello 0 0 ({ wHello with serial := 2 ^ 64 }),
    .helloRepeat 0 4,
    .heartbeat 0 4 false wBeat,
    .heartbeatSend 0 4,
    .record 0 4 false 0 [],
    .record 0 0 false 64 [],
    .gen 0 ({ link := 0 }) 16384 0,
    .gen 0 ({ link := 0 }) 0 256,
    .gen 0 ({ link := 4 }) 0 0,
    .genRepeat 0 16384,
    .takeover 0 ({ link := 0 }) 4,
    .takeover 0 ({ link := 4 }) 0,
    .ack 0 ({ link := 4 }) 0] : List Instr).all (fun i => !i.wf) = true := by
  decide +kernel

/-- Ill-formed commands, one operand out of its range in each (4). -/
theorem test_illFormed4_refused : ([
    .ackSend 0 4,
    .peerResend 0 4,
    .mirror 0 ({ lseq := 0 }) (.context 16384 []),
    .mirror 0 ({ lseq := 0 }) (.revision 64 0 0),
    .mirror 0 ({ lseq := 0 }) (.revision 0 0 16),
    .mirror 0 ({ lseq := 0 }) (.anchor 64 0 0),
    .mirror 0 ({ lseq := 0 }) (.anchor 0 stampMod 0),
    .mirror 0 ({ lseq := 0 }) (.alarm 256 0 0 0),
    .mirror 0 ({ lseq := 0 }) (.alarm 0 7 0 0),
    .mirror 0 ({ lseq := 0 }) (.journal []),
    .control 0 4 ({ lseq := 0 }) 0 0 false 0,
    .control 0 0 ({ lseq := 0 }) 16384 0 false 0,
    .control 0 0 ({ lseq := 0 }) 0 64 false 0,
    .control 0 0 ({ lseq := 0 }) 0 0 false stampMod,
    .handoverGrant 0 ({ lseq := 0 }) stampMod,
    .handoverRefuse 0 ({ lseq := 0 }) 256,
    .pcieLinkUp 0 ({ busMaster := true, payload := 64 }),
    .pcieLinkUp 0 ({ busMaster := true, readSize := 0 }),
    .stagedAreaRelease 0 64,
    .heartbeatMissed 0 4,
    .tcpSegmentRx 0 (.stream 16384) wSegm,
    .tcpSegmentRx 0 (.session 256) wSegm,
    .msixVectorUnmask 0 32,
    .verifyResponse 0 4] : List Instr).all (fun i => !i.wf) = true := by
  decide +kernel

/-- Packets with one field out of its range (R464, R466). -/
def badPackets : List Packet :=
  [{ ifc := 3, tag := 0, epoch := 0, params := [] }, { ifc := 0, tag := 65536, epoch := 0, params := [] },
   { ifc := 0, tag := 0, epoch := 65536, params := [] }, { ifc := 0, tag := 0, epoch := 0, params := List.replicate 20465 0 }]

/-- Every host command on a packet. -/
def hostCommands (x : Packet) : List Instr :=
  [
   .getIdentity 0 x, .sysSetMode 0 x, .sysReset 0 x, .sysCommit 0 x, .sysJournalRead 0 x, .sysJournalRoute 0 x,
   .sysIfReset 0 x, .sysSetMgmt 0 x, .sysGetCounters 0 x, .sysEcho 0 x, .timeGetStatus 0 x, .timeSetSources 0 x,
   .timeSetServo 0 x, .timeSetPort 0 x, .timeSetPtp 0 x, .timeSet 0 x, .timeSetUtc 0 x, .evtConfig 0 x,
   .evtRead 0 x, .ppsOutConfig 0 x, .timeGetCounters 0 x, .streamAdd 0 x, .streamRemove 0 x, .streamRebind 0 x,
   .streamLoadConfig 0 x, .streamGet 0 x, .streamGetCounters 0 x, .streamSendCommand 0 x, .ingressSetPort 0 x, .ingressSetRings 0 x,
   .ingressGetCounters 0 x, .ingressSetStreamPorts 0 x, .ingressJoinGroup 0 x, .zoneConfig 0 x, .zoneDelete 0 x, .zoneStart 0 x,
   .zoneStop 0 x, .zoneAddStream 0 x, .zoneRemoveStream 0 x, .zoneGet 0 x, .zoneGetCounters 0 x, .constRead 0 x,
   .alignGetStatus 0 x, .feSetPreset 0 x, .feSetSampling 0 x, .feSetCal 0 x, .feSetRange 0 x, .feSetDetectors 0 x,
   .feSetLocalStream 0 x, .feGetStatus 0 x, .feGetDetectors 0 x, .feGetCounters 0 x, .feGetLocalConfig 0 x, .energySetLine 0 x,
   .energySetInterval 0 x, .energySetReserve 0 x, .energyRead 0 x, .energyReadReserve 0 x, .energyReadSnapshot 0 x, .energyGetStatus 0 x] ++ [
   .energyReadEvents 0 x, .energyClear 0 x, .cohSetVertices 0 x, .cohSetEdges 0 x, .cohSetZone 0 x, .cohGetResult 0 x,
   .oscSetBands 0 x, .oscSetSignals 0 x, .oscSetThresholds 0 x, .oscGetSignal 0 x, .alarmSet 0 x, .alarmSetDest 0 x,
   .alarmGetStatus 0 x, .alarmAck 0 x, .alarmTest 0 x, .detectGetCounters 0 x, .kernelGetCatalogue 0 x, .kernelSetParams 0 x,
   .kernelSetFlow 0 x, .kernelGetFlow 0 x, .kernelReadResult 0 x, .kernelGetStatus 0 x, .kernelGetCounters 0 x, .egressSetSession 0 x,
   .egressSetPort 0 x, .egressGetSession 0 x, .egressGetConfig 0 x, .egressGetCounters 0 x, .egressSendCfg 0 x, .pairSet 0 x,
   .pairGetStatus 0 x, .pairSetRevert 0 x, .pairSwitchover 0 x, .fedSet 0 x, .fedGetStatus 0 x, .pairGetCounters 0 x,
   .integGetStatus 0 x, .integReadLog 0 x, .integSetPolicy 0 x, .integInject 0 x, .integLeaveSafe 0 x, .diagGetMonitors 0 x,
   .integGetCounters 0 x, .secGetLifecycle 0 x, .secSetLifecycle 0 x, .secSetOwnerRoot 0 x, .secSetMka 0 x, .secGetMkaStatus 0 x,
   .updBegin 0 x, .updWrite 0 x, .updEnd 0 x, .updGetStatus 0 x, .updConfirm 0 x, .updAbort 0 x]

theorem test_badPackets_refused : badPackets.all (fun x => (hostCommands x).all fun i => !i.wf) = true := by
  decide +kernel

theorem test_goodPacket_accepted : (hostCommands { ifc := 2, tag := 65535, epoch := 65535, params := [] }).all Instr.wf = true := by
  decide +kernel


/-! ### The hypotheses of the statements -/

/-- Operands and states that meet the hypotheses of `Obligations.StepRunsTheCommand`. -/
theorem test_StepRunsTheCommand_hypotheses :
  (∃ (c : Instr) (rest : List Instr) (s : State), s.pending = c :: rest) ∧
  (∃ (s : State), s.pending = []) :=
  ⟨⟨(Instr.pcieLinkUp 0 { busMaster := true }), ([]), (wC |> fun s => { s with pending := [(Instr.pcieLinkUp 0 { busMaster := true })] }),
    by decide +kernel⟩,
  ⟨(wC |> fun s => { s with pending := [] }),
    by decide +kernel⟩⟩

/-- Operands and states that meet the hypotheses of `Obligations.ReadingCommandsAnswerTheirData`. -/
theorem test_ReadingCommandsAnswerTheirData_hypotheses :
  (∃ (dt : Ps) (q : Packet) (s : State) (u : State), u = arrived q (s.elapse dt) ∧ ready (s.elapse dt) q 0x0101 = true ∧ u.sys.phase =
    .running ∧ q.params = []) ∧
  (∃ (dt : Ps) (q : Packet) (s : State) (u : State) (n : JEntry) (o : JEntry), u = arrived q (s.elapse dt) ∧ ready (s.elapse dt) q 0x0105 =
    true ∧ q.params.length = 6 ∧ 1 ≤ fld q.params 4 2 ∧ fld q.params 4 2 ≤ 128 ∧ u.host.journal.head? = some n ∧ u.host.journal.getLast? =
    some o) ∧
  (∃ (dt : Ps) (q : Packet) (s : State) (u : State), u = arrived q (s.elapse dt) ∧ ready (s.elapse dt) q 0x0109 = true ∧ q.params = [0]) ∧
  (∃ (dt : Ps) (q : Packet) (s : State) (u : State), u = arrived q (s.elapse dt) ∧ ready (s.elapse dt) q 0x0109 = true ∧ q.params = [1]) ∧
  (∃ (dt : Ps) (q : Packet) (s : State) (u : State), u = arrived q (s.elapse dt) ∧ ready (s.elapse dt) q 0x010A = true ∧ q.params.length ≤
    1024) ∧
  (∃ (dt : Ps) (q : Packet) (s : State) (u : State) (z : Nat) (n : Nat) (x : Zone), u = arrived q (s.elapse dt) ∧ x = u.zone z ∧ n =
    memberCount x ∧ ready (s.elapse dt) q 0x0407 = true ∧ q.params.length = 1 ∧ fld q.params 0 1 = z ∧ z ≤ 63 ∧ x.state ≠ .free) ∧
  (∃ (dt : Ps) (q : Packet) (s : State) (u : State) (z : Nat), u = arrived q (s.elapse dt) ∧ ready (s.elapse dt) q 0x0408 = true ∧
    q.params.length = 2 ∧ fld q.params 0 1 = z ∧ z ≤ 63 ∧ (u.zone z).state ≠ .free ∧ fld q.params 1 1 = 0) ∧
  (∃ (dt : Ps) (q : Packet) (s : State) (u : State) (z : Nat), u = arrived q (s.elapse dt) ∧ ready (s.elapse dt) q 0x0408 = true ∧
    q.params.length = 2 ∧ fld q.params 0 1 = z ∧ z ≤ 63 ∧ (u.zone z).state ≠ .free ∧ fld q.params 1 1 = 1) ∧
  (∃ (x : Zone) (n : Cnt), n ∈ zoneCounters (clearZone x)) ∧
  (∃ (dt : Ps) (q : Packet) (s : State) (u : State) (z : Nat) (c : Sealed), u = arrived q (s.elapse dt) ∧ ready (s.elapse dt) q 0x0409 =
    true ∧ q.params.length = 18 ∧ fld q.params 0 1 = z ∧ z ≤ 63 ∧ (u.zone z).state ≠ .free ∧ (fld q.params 13 1 ≤ 15 ∨ fld q.params 13 1 =
    0xFF) ∧ fld q.params 16 2 ≤ 32 ∧ constTick u q.params = true ∧ constOf u q.params = some c ∧ ((u.area c.zone c.tick).any fun a =>
    a.constBad || !a.storeBad.isEmpty) = false ∧ badWords 1 (constWords u c.zone c.tick) u = []) ∧
  (∃ (dt : Ps) (q : Packet) (s : State) (u : State) (z : Nat) (c : Sealed), u = arrived q (s.elapse dt) ∧ ready (s.elapse dt) q 0x0409 =
    true ∧ q.params.length = 18 ∧ fld q.params 0 1 = z ∧ z ≤ 63 ∧ (u.zone z).state ≠ .free ∧ (fld q.params 13 1 ≤ 15 ∨ fld q.params 13 1 =
    0xFF) ∧ fld q.params 16 2 ≤ 32 ∧ constTick u q.params = true ∧ constOf u q.params = some c ∧ ((u.area c.zone c.tick).any fun a =>
    a.constBad || !a.storeBad.isEmpty) = true) ∧
  (∃ (dt : Ps) (q : Packet) (s : State) (u : State) (f : (ZoneSize → Nat) → Nat), u = arrived q (s.elapse dt) ∧ f = (fun g =>
    ((u.align.zones.filter fun z => z.2.state != .free).map fun z => zoneSize z.2 (memberCount z.2)).foldl (fun a y => a + g y) 0) ∧ ready
    (s.elapse dt) q 0x040A = true ∧ q.params = []) ∧
  (∃ (dt : Ps) (q : Packet) (s : State) (u : State), u = arrived q (s.elapse dt) ∧ ready (s.elapse dt) q 0x0507 = true ∧ q.params = []) ∧
  (∃ (dt : Ps) (q : Packet) (s : State) (u : State) (x : ChanSt) (c : Nat) (i : Nat) (env : Option F32), u = arrived q (s.elapse dt) ∧ x =
    u.chan c ∧ (i = (if c < 8 ∨ (u.range (c - 8)).lo = false then hiInput c else (loInput c).getD 0)) ∧ env = (if x.ok = true ∧ (u.input
    i).chain = .valid then some x.env else none) ∧ ready (s.elapse dt) q 0x0508 = true ∧ q.params.length = 1 ∧ fld q.params 0 1 = c ∧ c ≤
    15) ∧
  (∃ (dt : Ps) (q : Packet) (s : State) (u : State), u = arrived q (s.elapse dt) ∧ ready (s.elapse dt) q 0x0509 = true ∧ q.params = [0]) ∧
  (∃ (dt : Ps) (q : Packet) (s : State) (u : State), u = arrived q (s.elapse dt) ∧ ready (s.elapse dt) q 0x0509 = true ∧ q.params = [1]) ∧
  (∃ (u : State) (x : Cnt), x ∈ frontCounters (clearFront u)) ∧
  (∃ (dt : Ps) (q : Packet) (s : State) (u : State) (n : Nat), u = arrived q (s.elapse dt) ∧ ready (s.elapse dt) q 0x050A = true ∧
    q.params.length = 1 ∧ fld q.params 0 1 = n ∧ n ≤ 3) :=
  ⟨⟨0, (pk ([])), (wC |> fun s => { s with sys := { s.sys with phase := .running } }), _,
    rfl, by decide +kernel⟩,
  ⟨0, (pk (pz 6 [(4,2,128)])), (wC |> fun s => { s with host := { s.host with journal := [(wJ)] } }), _, wJ, wJ,
    rfl, by decide +kernel⟩,
  ⟨0, (pk ([0])), wC, _,
    rfl, by decide +kernel⟩,
  ⟨0, (pk ([1])), wC, _,
    rfl, by decide +kernel⟩,
  ⟨0, (pk (pz 1024 [])), wC, _,
    rfl, by decide +kernel⟩,
  ⟨0, (pk (pz 1 [(0,1,63)])), (wC |> fun s => (s).setZone 63 ((({} : Zone))) |> fun s => (s).setZone 63 ({ (s.zone 63) with state := .running })), _, 63, _, _,
    rfl, rfl, rfl, by decide +kernel⟩,
  ⟨0, (pk (pz 2 [(0,1,63)])), (wC |> fun s => (s).setZone 63 ({ (s.zone 63) with state := .running })), _, 63,
    rfl, by decide +kernel⟩,
  ⟨0, (pk (pz 2 [(0,1,63), (1,1,1)])), (wC |> fun s => (s).setZone 63 ({ (s.zone 63) with state := .running })), _, 63,
    rfl, by decide +kernel⟩,
  ⟨(({} : Zone)), 0,
    by decide +kernel⟩,
  ⟨0, (pk (pz 18 [(0,1,63), (13,1,15), (16,2,32)])), (wC |> fun s => (s).setZone 63 ({ (s.zone 63) with state := .running }) |> fun s => (s).setZone 63 ({ (s.zone 63) with areas := [{ wArea with sealed_ := [{ wSeal with rev := 15, zone := 63 }] }] })), _, 63, ({ wSeal with rev := 15, zone := 63 }),
    rfl, by decide +kernel⟩,
  ⟨0, (pk (pz 18 [(0,1,63),(13,1,15),(16,2,32)])), (wC |> fun s => (s).setZone 63 ({ (s.zone 63) with state := .running }) |> fun s => (s).setZone 63 ({ (s.zone 63) with areas := [{ wArea with stored := true, constBad := true, sealed_ := [{ wSeal with rev := 15, zone := 63 }] }] })), _, 63, ({ wSeal with rev := 15, zone := 63 }),
    rfl, by decide +kernel⟩,
  ⟨0, (pk ([])), wC, _, _,
    rfl, rfl, by decide +kernel⟩,
  ⟨0, (pk ([])), wC, _,
    rfl, by decide +kernel⟩,
  ⟨0, (pk (pz 1 [(0,1,15)])), (wC |> fun s => (s).setChan 15 ((({} : ChanSt)))), _, _, 15, _, _,
    rfl, rfl, rfl, rfl, by decide +kernel⟩,
  ⟨0, (pk ([0])), wC, _,
    rfl, by decide +kernel⟩,
  ⟨0, (pk ([1])), wC, _,
    rfl, by decide +kernel⟩,
  ⟨wC, 0,
    by decide +kernel⟩,
  ⟨0, (pk (pz 1 [(0,1,3)])), wC, _, 3,
    rfl, by decide +kernel⟩⟩

/-- Operands and states that meet the hypotheses of `Obligations.SystemSettingsTakeEffect`. -/
theorem test_SystemSettingsTakeEffect_hypotheses :
  (∃ (dt : Ps) (q : Packet) (s : State) (u : State) (n : Nat), u = arrived q (s.elapse dt) ∧ ready (s.elapse dt) q 0x0106 = true ∧
    q.params.length = 1 ∧ fld q.params 0 1 = n ∧ n ≤ 31 ∧ (∀ b ∈ [(u.rq n).bound, (u.flushed.rq n).bound], b = none ∨ b = some .journal)) ∧
  (∃ (dt : Ps) (q : Packet) (s : State) (u : State), u = arrived q (s.elapse dt) ∧ ready (s.elapse dt) q 0x0106 = true ∧ q.params.length = 1
    ∧ fld q.params 0 1 = 0xFF) ∧
  (∃ (dt : Ps) (q : Packet) (s : State) (u : State) (i : Nat), u = arrived q (s.elapse dt) ∧ ready (s.elapse dt) q 0x0107 = true ∧
    q.params.length = 1 ∧ fld q.params 0 1 = i ∧ i ≤ 2 ∧ i ≠ q.ifc) ∧
  (∃ (dt : Ps) (q : Packet) (s : State) (u : State), u = arrived q (s.elapse dt) ∧ ready (s.elapse dt) q 0x0107 = true ∧ q.params.length = 1
    ∧ fld q.params 0 1 ≤ 2 ∧ fld q.params 0 1 = q.ifc) ∧
  (∃ (dt : Ps) (q : Packet) (s : State) (u : State), u = arrived q (s.elapse dt) ∧ ready (s.elapse dt) q 0x0108 = true ∧ q.params.length =
    31 ∧ fld q.params 10 1 ≤ 32 ∧ fld q.params 27 1 ≤ 128 ∧ fld q.params 28 2 ≤ 4094 ∧ fld q.params 30 1 ≤ 31) ∧
  (∃ (dt : Ps) (s : State) (u : State) (c : MgmtCfg), u = s.elapse dt ∧ u.commandsRun = true ∧ u.host.mgmtNext = some c ∧ u.sec.mkaNext =
    none) :=
  ⟨⟨0, (pk (pz 1 [(0,1,31)])), wC, _, 31,
    rfl, by decide +kernel⟩,
  ⟨0, (pk (pz 1 [(0,1,255)])), wC, _,
    rfl, by decide +kernel⟩,
  ⟨0, (pk (pz 1 [(0,1,2)])), wC, _, 2,
    rfl, by decide +kernel⟩,
  ⟨0, (pk ([0])), wC, _,
    rfl, by decide +kernel⟩,
  ⟨0, (pk (pz 31 [(10,1,32), (27,1,128), (28,2,4094), (30,1,31)])), wC, _,
    rfl, by decide +kernel⟩,
  ⟨0, (wC |> fun s => { s with host := { s.host with mgmtNext := some (({} : MgmtCfg)) } } |> fun s => { s with sec := { s.sec with mkaNext := none } }), _, (({} : MgmtCfg)),
    rfl, by decide +kernel⟩⟩

/-- Operands and states that meet the hypotheses of `Obligations.ModeAndCommitCommandsTakeEffect`. -/
theorem test_ModeAndCommitCommandsTakeEffect_hypotheses :
  (∃ (m : Mode) (yield : Bool) (s : State), s.sys.mode ≠ m) ∧
  (∃ (dt : Ps) (q : Packet) (s : State) (u : State), u = arrived q (s.elapse dt) ∧ ready (s.elapse dt) q 0x0102 = true ∧ q.params.length =
    10 ∧ fld q.params 0 1 = 0xFF) ∧
  (∃ (dt : Ps) (q : Packet) (s : State) (u : State) (n : Nat), u = arrived q (s.elapse dt) ∧ ready (s.elapse dt) q 0x0102 = true ∧
    q.params.length = 10 ∧ fld q.params 0 1 = n ∧ 1 ≤ n ∧ n ≤ 5 ∧ (n = 5 → fld q.params 9 1 = 1 ∨ fld q.params 9 1 = 2) ∧ u.sys.mode =
    targetMode n) ∧
  (∃ (dt : Ps) (q : Packet) (s : State) (u : State) (n : Nat), u = arrived q (s.elapse dt) ∧ ready (s.elapse dt) q 0x0102 = true ∧
    q.params.length = 10 ∧ fld q.params 0 1 = n ∧ 1 ≤ n ∧ n ≤ 5 ∧ (n = 5 → fld q.params 9 1 = 1 ∨ fld q.params 9 1 = 2) ∧ u.sys.mode =
    .safe) ∧
  (∃ (dt : Ps) (q : Packet) (s : State) (u : State), u = arrived q (s.elapse dt) ∧ ready (s.elapse dt) q 0x0102 = true ∧ q.params.length =
    10 ∧ fld q.params 0 1 = 2 ∧ (u.sys.mode = .commission ∨ u.sys.mode = .service) ∧ u.pair.pairEnable = false) ∧
  (∃ (dt : Ps) (q : Packet) (s : State) (u : State), u = arrived q (s.elapse dt) ∧ ready (s.elapse dt) q 0x0102 = true ∧ q.params.length =
    10 ∧ fld q.params 0 1 = 2 ∧ (u.sys.mode = .commission ∨ u.sys.mode = .service) ∧ u.pair.pairEnable = true ∧ u.pair.state ≠ .listen) ∧
  (∃ (dt : Ps) (q : Packet) (s : State) (u : State), u = arrived q (s.elapse dt) ∧ ready (s.elapse dt) q 0x0102 = true ∧ q.params.length =
    10 ∧ fld q.params 0 1 = 2 ∧ (u.sys.mode = .commission ∨ u.sys.mode = .service) ∧ u.pair.pairEnable = true ∧ u.pair.state = .listen) ∧
  (∃ (dt : Ps) (q : Packet) (s : State) (u : State) (v : State), u = arrived q (s.elapse dt) ∧ v = changeMode .standby false (setPair
    .standby u) ∧ ready (s.elapse dt) q 0x0102 = true ∧ q.params.length = 10 ∧ fld q.params 0 1 = 3 ∧ u.sys.mode = .commission ∧
    partnerActive u = true) ∧
  (∃ (dt : Ps) (q : Packet) (s : State) (u : State), u = arrived q (s.elapse dt) ∧ ready (s.elapse dt) q 0x0102 = true ∧ q.params.length =
    10 ∧ fld q.params 0 1 = 3 ∧ u.sys.mode = .commission ∧ partnerActive u = false) ∧
  (∃ (dt : Ps) (q : Packet) (s : State) (u : State), u = arrived q (s.elapse dt) ∧ ready (s.elapse dt) q 0x0102 = true ∧ q.params.length =
    10 ∧ fld q.params 0 1 = 3 ∧ u.sys.mode = .active) ∧
  (∃ (dt : Ps) (q : Packet) (s : State) (u : State) (v : State), u = arrived q (s.elapse dt) ∧ v = changeMode .commission true u ∧ ready
    (s.elapse dt) q 0x0102 = true ∧ q.params.length = 10 ∧ fld q.params 0 1 = 1 ∧ (u.sys.mode = .active ∨ u.sys.mode = .standby ∨
    u.sys.mode = .service) ∧ u.pair.state ≠ .listen) ∧
  (∃ (dt : Ps) (q : Packet) (s : State) (u : State) (v : State), u = arrived q (s.elapse dt) ∧ v = changeMode .service true u ∧ ready
    (s.elapse dt) q 0x0102 = true ∧ q.params.length = 10 ∧ fld q.params 0 1 = 4 ∧ (u.sys.mode = .commission ∨ u.sys.mode = .active ∨
    u.sys.mode = .standby) ∧ u.pair.state ≠ .listen) ∧
  (∃ (dt : Ps) (q : Packet) (s : State) (u : State) (v : State) (w : Nat), u = arrived q (s.elapse dt) ∧ v = changeMode .dormant true { u with sys := { u.sys with wakeTime := fld q.params 1 6, wakeMask := BitVec.ofNat 16 (fld q.params 7 2), wakeActive := decide (w = 2) } }
    ∧ ready (s.elapse dt) q 0x0102 = true ∧ q.params.length = 10 ∧ fld q.params 0 1 = 5 ∧ fld q.params 9 1 = w ∧ 1 ≤ w ∧ w ≤ 2 ∧
    (u.sys.mode = .commission ∨ u.sys.mode = .active ∨ u.sys.mode = .standby ∨ u.sys.mode = .service) ∧ u.pair.state ≠ .listen) ∧
  (∃ (dt : Ps) (q : Packet) (s : State) (u : State), u = arrived q (s.elapse dt) ∧ ready (s.elapse dt) q 0x0103 = true ∧ q.params = []) ∧
  (∃ (dt : Ps) (q : Packet) (s : State) (u : State), u = arrived q (s.elapse dt) ∧ ready (s.elapse dt) q 0x0104 = true ∧ q.params.length = 1
    ∧ fld q.params 0 1 ≤ 1 ∧ u.sys.mode ≠ .safe ∧ (storedForm u).length ≤ 7339776) ∧
  (∃ (dt : Ps) (q : Packet) (s : State) (u : State), u = arrived q (s.elapse dt) ∧ 7340032 < (storedForm u).length ∧ ready (s.elapse dt) q
    0x0104 = true ∧ q.params.length = 1 ∧ fld q.params 0 1 ≤ 1 ∧ u.sys.mode ≠ .safe) ∧
  (∃ (dt : Ps) (q : Packet) (s : State) (u : State), u = arrived q (s.elapse dt) ∧ ready (s.elapse dt) q 0x0104 = true ∧ u.sys.mode = .safe) ∧
  (∃ (dt : Ps) (s : State) (u : State) (q : Packet) (run : Bool), u = s.elapse dt ∧ u.commandsRun = true ∧ u.sys.lifecycle ≠ .return ∧
    u.host.executing = some { cmd := packetCmd cmdSysCommit q, op := .commit run, mute := false }) :=
  ⟨⟨.active, true, wC,
    by decide +kernel⟩,
  ⟨0, (pk (pz 10 [(0,1,255)])), wC, _,
    rfl, by decide +kernel⟩,
  ⟨0, (pk (pz 10 [(0,1,1)])), (wC |> fun s => { s with sys := { s.sys with mode := .commission } }), _, 1,
    rfl, by decide +kernel⟩,
  ⟨0, (pk (pz 10 [(0,1,1)])), (wC |> fun s => { s with sys := { s.sys with mode := .safe } }), _, 1,
    rfl, by decide +kernel⟩,
  ⟨0, (pk (pz 10 [(0,1,2)])), (wC |> fun s => { s with sys := { s.sys with mode := .commission } } |> fun s => { s with pair := { s.pair with pairEnable := false } }), _,
    rfl, by decide +kernel⟩,
  ⟨0, (pk (pz 10 [(0,1,2)])), (wC |> fun s => { s with sys := { s.sys with mode := .commission } } |> fun s => { s with pair := { s.pair with pairEnable := true } }), _,
    rfl, by decide +kernel⟩,
  ⟨0, (pk (pz 10 [(0,1,2)])), (wC |> fun s => { s with sys := { s.sys with mode := .commission } } |> fun s => { s with pair := { s.pair with pairEnable := true } } |> fun s => { s with pair := { s.pair with state := .listen } }), _,
    rfl, by decide +kernel⟩,
  ⟨0, (pk (pz 10 [(0,1,3)])), (wC |> fun s => { s with sys := { s.sys with mode := .commission } } |> fun s => { s with pair := { s.pair with pairEnable := true } } |> fun s => (s).setLink 3 ({ (s.link 3) with state := .joined }) |> fun s => { s with pair := { s.pair with partnerMode := 2 } }), _, _,
    rfl, rfl, by decide +kernel⟩,
  ⟨0, (pk (pz 10 [(0,1,3)])), (wC |> fun s => { s with sys := { s.sys with mode := .commission } }), _,
    rfl, by decide +kernel⟩,
  ⟨0, (pk (pz 10 [(0,1,3)])), (wC |> fun s => { s with sys := { s.sys with mode := .active } }), _,
    rfl, by decide +kernel⟩,
  ⟨0, (pk (pz 10 [(0,1,1)])), (wC |> fun s => { s with sys := { s.sys with mode := .active } }), _, _,
    rfl, rfl, by decide +kernel⟩,
  ⟨0, (pk (pz 10 [(0,1,4)])), (wC |> fun s => { s with sys := { s.sys with mode := .commission } }), _, _,
    rfl, rfl, by decide +kernel⟩,
  ⟨0, (pk (pz 10 [(0,1,5), (9,1,2)])), (wC |> fun s => { s with sys := { s.sys with mode := .commission } }), _, _, 2,
    rfl, rfl, by decide +kernel⟩,
  ⟨0, (pk ([])), wC, _,
    rfl, by decide +kernel⟩,
  ⟨0, (pk ([1])), wC, _,
    rfl, by decide +kernel⟩,
  ⟨0, (pk (pz 1 [])), (wC |> fun s => { s with host := { s.host with settings := wBig 7340032 } } |> fun s => { s with sys := { s.sys with mode := .service } }), _,
    rfl, by rw [wBig_stored 7340032 _ rfl]; decide +kernel, by decide +kernel⟩,
  ⟨0, (pk ([])), (wC |> fun s => { s with sys := { s.sys with mode := .safe } }), _,
    rfl, by decide +kernel⟩,
  ⟨0, (wC |> fun s => { s with host := { s.host with executing := some { cmd := packetCmd cmdSysCommit (pk [1]), op := .commit true, mute := false } } }), _, (pk [1]), true,
    rfl, by decide +kernel⟩⟩

/-- Operands and states that meet the hypotheses of `Obligations.TimeSettingsTakeEffect`. -/
theorem test_TimeSettingsTakeEffect_hypotheses :
  (∃ (dt : Ps) (q : Packet) (s : State) (u : State), u = arrived q (s.elapse dt) ∧ ready (s.elapse dt) q 0x0202 = true ∧ q.params.length =
    39 ∧ fld q.params 0 1 ≤ 4 ∧ fld q.params 1 1 ≤ 4 ∧ fld q.params 2 1 ≤ 4 ∧ fld q.params 3 1 ≤ 4 ∧ (fld q.params 36 1 = 2 ∨ fld q.params
    36 1 = 6)) ∧
  (∃ (dt : Ps) (q : Packet) (s : State) (u : State), u = arrived q (s.elapse dt) ∧ ready (s.elapse dt) q 0x0203 = true ∧ q.params.length =
    32 ∧ fld q.params 0 4 ≤ 262144 ∧ fld q.params 4 4 ≤ 262144 ∧ (fld q.params 8 4 = 0 ∨ 1000 ≤ fld q.params 8 4 ∧ fld q.params 8 4 ≤
    1000000000) ∧ 10 ≤ fld q.params 12 4 ∧ fld q.params 12 4 ≤ 1000000 ∧ 100 ≤ fld q.params 16 4 ∧ fld q.params 16 4 ≤ 1000000000 ∧ fld
    q.params 20 4 ≤ 25600000 ∧ fld q.params 24 4 ≤ 25600000 ∧ 100 ≤ fld q.params 28 4 ∧ fld q.params 28 4 ≤ 1000000000) ∧
  (∃ (dt : Ps) (q : Packet) (s : State) (u : State), u = arrived q (s.elapse dt) ∧ ready (s.elapse dt) q 0x0204 = true ∧ q.params.length =
    15 ∧ fld q.params 0 1 ≤ 3 ∧ fld q.params 1 1 ≤ 1 ∧ fld q.params 14 1 ≤ 1) ∧
  (∃ (p : List Byte) (v : State) (k : Nat) (x : TimePort), k = fld p 0 1 ∧ x = v.timePort k ∧ fld p 1 1 = 1) ∧
  (∃ (p : List Byte) (v : State) (k : Nat) (x : TimePort), k = fld p 0 1 ∧ x = v.timePort k ∧ fld p 1 1 = 0) ∧
  (∃ (dt : Ps) (q : Packet) (s : State) (u : State), u = arrived q (s.elapse dt) ∧ ready (s.elapse dt) q 0x0205 = true ∧ q.params.length = 5
    ∧ fld q.params 0 1 ≤ 1 ∧ fld q.params 2 2 ≤ 4094 ∧ fld q.params 4 1 ≤ 7) ∧
  (∃ (dt : Ps) (q : Packet) (s : State) (u : State), u = arrived q (s.elapse dt) ∧ ready (s.elapse dt) q 0x0207 = true ∧ q.params.length = 3
    ∧ fld q.params 2 1 ≤ 3 ∧ u.time.source = some .ptp) ∧
  (∃ (dt : Ps) (q : Packet) (s : State) (u : State), u = arrived q (s.elapse dt) ∧ ready (s.elapse dt) q 0x0207 = true ∧ q.params.length = 3
    ∧ fld q.params 2 1 ≤ 3 ∧ u.time.source ≠ some .ptp) ∧
  (∃ (dt : Ps) (q : Packet) (s : State) (u : State) (n : Nat), u = arrived q (s.elapse dt) ∧ ready (s.elapse dt) q 0x0208 = true ∧
    q.params.length = 9 ∧ fld q.params 4 1 = n ∧ (n = 255 ∨ n ≤ 31 ∧ ((u.flushed.rq n).bound = none ∨ (u.flushed.rq n).bound = some
    .eventCapture))) ∧
  (∃ (p : List Byte) (v : State), fld p 4 1 = 255) ∧
  (∃ (p : List Byte) (v : State) (n : Nat), fld p 4 1 = n ∧ n ≤ 31 ∧ ((v.rq n).bound = none ∨ (v.rq n).bound = some .eventCapture)) ∧
  (∃ (dt : Ps) (q : Packet) (s : State) (u : State), u = arrived q (s.elapse dt) ∧ ready (s.elapse dt) q 0x020A = true ∧ q.params.length = 9
    ∧ -500000000 ≤ sfld q.params 0 4 ∧ sfld q.params 0 4 ≤ 500000000 ∧ 1 ≤ fld q.params 4 4 ∧ fld q.params 4 4 ≤ 500000 ∧ fld q.params 8 1
    ≤ 15) ∧
  (∃ (s : State) (dt : Ps), 0 < dt ∧ s.later = []) ∧
  (∃ (n : Nat) (t : Ps) (s : State) (a : Ps) (x : Later) (r : List (Ps × Later)), s.later = (a, x) :: r ∧ a ≤ s.now) :=
  ⟨⟨0, (pk (pz 39 [(0,1,4), (1,1,4), (2,1,4), (3,1,4), (36,1,2)])), wC, _,
    rfl, by decide +kernel⟩,
  ⟨0, (pk (pz 32 [(0,4,262144), (4,4,262144), (12,4,1000000), (16,4,1000000000), (20,4,25600000), (24,4,25600000), (28,4,1000000000)])), wC, _,
    rfl, by decide +kernel⟩,
  ⟨0, (pk (pz 15 [(0,1,3), (1,1,1), (14,1,1)])), wC, _,
    rfl, by decide +kernel⟩,
  ⟨(pz 2 [(1,1,1)]), wC, _, _,
    rfl, rfl, by decide +kernel⟩,
  ⟨(pz 2 []), wC, _, _,
    rfl, rfl, by decide +kernel⟩,
  ⟨0, (pk (pz 5 [(0,1,1), (2,2,4094), (4,1,7)])), wC, _,
    rfl, by decide +kernel⟩,
  ⟨0, (pk (pz 3 [(2,1,3)])), (wC |> fun s => { s with time := { s.time with source := some .ptp } }), _,
    rfl, by decide +kernel⟩,
  ⟨0, (pk (pz 3 [(2,1,3)])), wC, _,
    rfl, by decide +kernel⟩,
  ⟨0, (pk (pz 9 [])), wC, _, 0,
    rfl, by decide +kernel⟩,
  ⟨(pz 5 [(4,1,255)]), wC,
    by decide +kernel⟩,
  ⟨(pz 5 [(4,1,31)]), (wC |> fun s => (s).setRq 31 ({ (s.rq 31) with bound := none })), 31,
    by decide +kernel⟩,
  ⟨0, (pk (pz 9 [(0,4,500000000), (4,4,500000), (8,1,15)])), wC, _,
    rfl, by decide +kernel⟩,
  ⟨(wC |> fun s => { s with later := [] }), 1,
    by decide +kernel⟩,
  ⟨0, 0, (wC |> fun s => { s with later := [(0, .reselect)] }), 0, .reselect, ([]),
    by decide +kernel⟩⟩

/-- Operands and states that meet the hypotheses of `Obligations.TimeReadsAndTimeSet`. -/
theorem test_TimeReadsAndTimeSet_hypotheses :
  (∃ (dt : Ps) (q : Packet) (s : State) (u : State), u = arrived q (s.elapse dt) ∧ ready (s.elapse dt) q 0x0201 = true ∧ q.params = []) ∧
  (∃ (dt : Ps) (q : Packet) (s : State) (u : State), u = arrived q (s.elapse dt) ∧ ready (s.elapse dt) q 0x020B = true ∧ q.params = []) ∧
  (∃ (dt : Ps) (q : Packet) (s : State) (u : State) (n : Nat), u = arrived q (s.elapse dt) ∧ ready (s.elapse dt) q 0x0209 = true ∧
    q.params.length = 1 ∧ fld q.params 0 1 = n ∧ 1 ≤ n ∧ n ≤ 32 ∧ u.time.evtFifo ≠ []) ∧
  (∃ (dt : Ps) (q : Packet) (s : State) (u : State), u = arrived q (s.elapse dt) ∧ ready (s.elapse dt) q 0x0209 = true ∧ q.params.length = 1
    ∧ 1 ≤ fld q.params 0 1 ∧ fld q.params 0 1 ≤ 32 ∧ u.time.evtFifo = []) ∧
  (∃ (dt : Ps) (q : Packet) (s : State) (u : State), u = arrived q (s.elapse dt) ∧ ready (s.elapse dt) q 0x0206 = true ∧ q.params.length =
    14 ∧ fld q.params 6 4 ≤ 999999999) ∧
  (∃ (p : List Byte) (v : State) (w : State), w = (Later.command 0x0206 p).act v ∧ v.aligning = false ∧ fld p 6 4 ≤ 999999999) :=
  ⟨⟨0, (pk ([])), wC, _,
    rfl, by decide +kernel⟩,
  ⟨0, (pk ([])), wC, _,
    rfl, by decide +kernel⟩,
  ⟨0, (pk (pz 1 [(0,1,32)])), (wC |> fun s => { s with time := { s.time with evtFifo := [wEvt] } }), _, 32,
    rfl, by decide +kernel⟩,
  ⟨0, (pk (pz 1 [(0,1,32)])), (wC |> fun s => { s with time := { s.time with evtFifo := [] } }), _,
    rfl, by decide +kernel⟩,
  ⟨0, (pk (pz 14 [(6,4,999999999)])), wC, _,
    rfl, by decide +kernel⟩,
  ⟨(pz 10 [(6,4,999999999)]), wC, _,
    rfl, by decide +kernel⟩⟩

/-- Operands and states that meet the hypotheses of `Obligations.ServoFollowsItsLoop`. -/
theorem test_ServoFollowsItsLoop_hypotheses :
  (∃ (c : Source) (theta : Int) (tau : Rat) (u : State) (x : Rat), x = absQ ((theta : Rat) / 65536) ∧ u.time.stepsOn c x = false) ∧
  (∃ (c : Source) (theta : Int) (tau : Rat) (u : State) (x : Rat), x = absQ ((theta : Rat) / 65536) ∧ u.time.servo = .acquire ∧
    u.time.lockRun = 7 ∧ x < u.time.lockThreshold) ∧
  (∃ (c : Source) (theta : Int) (tau : Rat) (u : State) (x : Rat), x = absQ ((theta : Rat) / 65536) ∧ u.time.servo = .locked ∧
    u.time.unlockRun = 2 ∧ (u.time.unlockThreshold : Rat) < x) ∧
  (∃ (c : Source) (theta : Int) (tau : Rat) (u : State) (x : Rat), x = absQ ((theta : Rat) / 65536) ∧ u.time.servo = .acquire ∧ 0 <
    u.time.stepThreshold ∧ (u.time.stepThreshold : Rat) ≤ x ∧ givesTimeOfDay c = true) ∧
  (∃ (theta : Int) (v : State) (w : State), w = (Later.servoStep theta).act v ∧ v.aligning = false) :=
  ⟨⟨.ptp, 0, 0, wC, _,
    rfl, by decide +kernel⟩,
  ⟨.ptp, 0, 0, (wC |> fun s => { s with time := { s.time with servo := .acquire } } |> fun s => { s with time := { s.time with lockRun := 7 } }), _,
    rfl, by decide +kernel⟩,
  ⟨.ptp, (2 ^ 60), 0, (wC |> fun s => { s with time := { s.time with servo := .locked } } |> fun s => { s with time := { s.time with unlockRun := 2 } }), _,
    rfl, by decide +kernel⟩,
  ⟨.ptp, (2 ^ 60), 0, (wC |> fun s => { s with time := { s.time with servo := .acquire } } |> fun s => { s with time := { s.time with stepThreshold := 1 } }), _,
    rfl, by decide +kernel⟩,
  ⟨0, wC, _,
    rfl, by decide +kernel⟩⟩

/-- Operands and states that meet the hypotheses of `Obligations.SourceEventsMeasure`. -/
theorem test_SourceEventsMeasure_hypotheses :
  (∃ (dt : Ps) (p : Nat) (m : PtpAnnounce) (s : State) (u : State), u = s.elapse dt ∧ (ptpRuns u p = false ∨ m.domain ≠ u.time.ptpDomain)) ∧
  (∃ (dt : Ps) (p : Nat) (m : PtpAnnounce) (s : State) (u : State), u = s.elapse dt ∧ ptpRuns u p = true ∧ m.domain = u.time.ptpDomain ∧
    (u.timePort p).announce = none) ∧
  (∃ (dt : Ps) (p : Nat) (m : PtpSync) (s : State) (u : State), u = s.elapse dt ∧ ptpRuns u p = true ∧ (u.timePort p).role = .slave ∧
    fromMaster u p m.domain m.master = true ∧ m.twoStep = true) ∧
  (∃ (dt : Ps) (p : Nat) (m : PtpSync) (s : State) (u : State), u = s.elapse dt ∧ ptpRuns u p = true ∧ (u.timePort p).role = .slave ∧
    fromMaster u p m.domain m.master = false) ∧
  (∃ (dt : Ps) (p : Nat) (m : PtpSync) (s : State) (u : State) (v : State), u = s.elapse dt ∧ v = u.setTimePort p { u.timePort p with lastSync := u.now, logIntv := m.logIntv, waiting := none }
    ∧ ptpRuns u p = true ∧ (u.timePort p).role = .slave ∧ fromMaster u p m.domain m.master = true ∧ m.twoStep = false ∧ syncDiscarded
    (v.timePort p) = true) ∧
  (∃ (dt : Ps) (p : Nat) (m : PtpSync) (s : State) (u : State) (v : State) (x : TimePort), u = s.elapse dt ∧ v = u.setTimePort p { u.timePort p with lastSync := u.now, logIntv := m.logIntv, waiting := none }
    ∧ x = v.timePort p ∧ ptpRuns u p = true ∧ (u.timePort p).role = .slave ∧ fromMaster u p m.domain m.master = true ∧ m.twoStep = false ∧
    syncDiscarded x = false) ∧
  (∃ (dt : Ps) (p : Nat) (m : PtpFollowUp) (w : PtpSync) (a : Stamp) (s : State) (u : State), u = s.elapse dt ∧ ptpRuns u p = true ∧
    fromMaster u p m.domain m.master = true ∧ (u.timePort p).waiting = some (w, a) ∧ w.seq = m.seq) ∧
  (∃ (dt : Ps) (p : Nat) (seq : Nat) (port : List Byte) (ago : Ps) (s : State) (u : State), u = s.elapse dt ∧ ptpRuns u p = true) ∧
  (∃ (dt : Ps) (p : Nat) (n : Nat) (s : State) (u : State), u = s.elapse dt ∧ ptpRuns u p = true ∧ n = (u.timePort p).pdelaySeq) ∧
  (∃ (dt : Ps) (p : Nat) (seq : Nat) (b : Ps) (t1 : Stamp) (t2 : Stamp) (t3 : Stamp) (s : State) (u : State), u = s.elapse dt ∧ ptpRuns u p
    = true ∧ (u.timePort p).pdelaySent = some (seq, t1)) ∧
  (∃ (dt : Ps) (s : State) (u : State), u = s.elapse dt ∧ u.sys.phase = .running ∧ u.time.valid = true ∧ u.time.servo = .locked ∧
    (unitsPerMs : Int) < (fromWholeSecond (u.captureAgo 0)).natAbs) ∧
  (∃ (dt : Ps) (s : State) (u : State), u = s.elapse dt ∧ u.sys.phase = .running ∧ (u.time.valid = false ∨ u.time.servo ≠ .locked ∨
    ((fromWholeSecond (u.captureAgo 0)).natAbs : Int) ≤ unitsPerMs)) ∧
  (∃ (dt : Ps) (s : State) (u : State), u = s.elapse dt ∧ u.sys.phase = .running) ∧
  (∃ (dt : Ps) (ago : Ps) (day : Nat) (hour : Nat) (minute : Nat) (second : Nat) (year : Option Nat) (s : State) (u : State) (utc : Int), u
    = s.elapse dt ∧ utc = irigNearest (u.utcSec u.stamp) u.time.irigOffsetMin day (hour * 3600 + minute * 60 + second) (if
    u.time.irigFormat = 6 then year else none) ∧ u.sys.phase = .running) ∧
  (∃ (dt : Ps) (a : Ps) (ages : List Ps) (s : State) (u : State), u = s.elapse dt ∧ ref10Gap (a :: ages) = false ∧ ref10Off (a :: ages) =
    false ∧ u.sys.phase = .running) ∧
  (∃ (dt : Ps) (r : Ref10) (s : State) (u : State), u = s.elapse dt ∧ (r = .frequencyOut ∨ r = .noEdge ∨ ∃ ages, r = .phase ages ∧ (ref10Gap
    ages || ref10Off ages) = true) ∧ u.sys.phase = .running ∧ u.time.ref10.present = true) ∧
  (∃ (dt : Ps) (s : State) (u : State), u = s.elapse dt ∧ u.sys.phase = .running ∧ u.time.irig.present = true ∧ u.time.irig.lastEvent +
    3000000000000 ≤ u.now) :=
  ⟨⟨0, 0, wAnn, wC, _,
    rfl, by decide +kernel⟩,
  ⟨0, 0, wAnn, (wC |> fun s => { s with ingress := { s.ingress with ports := vset s.ingress.ports 0 ({ (s.port 0) with linkUp := true }) } } |> fun s => (s).setTimePort 0 ({ (s.timePort 0) with ptpEnable := true }) |> fun s => { s with time := { s.time with ptpDomain := ((wAnn)).domain } } |> fun s => (s).setTimePort 0 ({ (s.timePort 0) with announce := none })), _,
    rfl, by decide +kernel⟩,
  ⟨0, 0, ({ wSync with twoStep := true }), (wC |> fun s => { s with ingress := { s.ingress with ports := vset s.ingress.ports 0 ({ (s.port 0) with linkUp := true }) } } |> fun s => (s).setTimePort 0 ({ (s.timePort 0) with ptpEnable := true }) |> fun s => (s).setTimePort 0 ({ (s.timePort 0) with role := .slave }) |> fun s => (s).setTimePort 0 ({ (s.timePort 0) with announce := some wAnn })), _,
    rfl, by decide +kernel⟩,
  ⟨0, 0, wSync, (wC |> fun s => { s with ingress := { s.ingress with ports := vset s.ingress.ports 0 ({ (s.port 0) with linkUp := true }) } } |> fun s => (s).setTimePort 0 ({ (s.timePort 0) with ptpEnable := true }) |> fun s => (s).setTimePort 0 ({ (s.timePort 0) with role := .slave })), _,
    rfl, by decide +kernel⟩,
  ⟨0, 0, ({ wSync with twoStep := false }), (wC |> fun s => { s with ingress := { s.ingress with ports := vset s.ingress.ports 0 ({ (s.port 0) with linkUp := true }) } } |> fun s => (s).setTimePort 0 ({ (s.timePort 0) with ptpEnable := true }) |> fun s => (s).setTimePort 0 ({ (s.timePort 0) with role := .slave }) |> fun s => (s).setTimePort 0 ({ (s.timePort 0) with announce := some wAnn }) |> fun s => (s).setTimePort 0 ({ (s.timePort 0) with delays := [10, 1, 1] })), _, _,
    rfl, rfl, by decide +kernel⟩,
  ⟨0, 0, ({ wSync with twoStep := false }), (wC |> fun s => { s with ingress := { s.ingress with ports := vset s.ingress.ports 0 ({ (s.port 0) with linkUp := true }) } } |> fun s => (s).setTimePort 0 ({ (s.timePort 0) with ptpEnable := true }) |> fun s => (s).setTimePort 0 ({ (s.timePort 0) with role := .slave }) |> fun s => (s).setTimePort 0 ({ (s.timePort 0) with announce := some wAnn })), _, _, _,
    rfl, rfl, rfl, by decide +kernel⟩,
  ⟨0, 0, wFup, ({ wSync with seq := ((wFup)).seq }), 0, (wC |> fun s => { s with ingress := { s.ingress with ports := vset s.ingress.ports 0 ({ (s.port 0) with linkUp := true }) } } |> fun s => (s).setTimePort 0 ({ (s.timePort 0) with ptpEnable := true }) |> fun s => (s).setTimePort 0 ({ (s.timePort 0) with announce := some wAnn }) |> fun s => (s).setTimePort 0 ({ (s.timePort 0) with waiting := some (({ wSync with seq := ((wFup)).seq }), (0)) })), _,
    rfl, by decide +kernel⟩,
  ⟨0, 0, 0, ([]), 0, (wC |> fun s => { s with ingress := { s.ingress with ports := vset s.ingress.ports 0 ({ (s.port 0) with linkUp := true }) } } |> fun s => (s).setTimePort 0 ({ (s.timePort 0) with ptpEnable := true })), _,
    rfl, by decide +kernel⟩,
  ⟨0, 3, 0, (wC |> fun s => { s with ingress := { s.ingress with ports := vset s.ingress.ports 3 ({ (s.port 3) with linkUp := true }) } } |> fun s => (s).setTimePort 3 ({ (s.timePort 3) with ptpEnable := true })), _,
    rfl, by decide +kernel⟩,
  ⟨0, 0, 0, 0, 0, 0, 0, (wC |> fun s => { s with ingress := { s.ingress with ports := vset s.ingress.ports 0 ({ (s.port 0) with linkUp := true }) } } |> fun s => (s).setTimePort 0 ({ (s.timePort 0) with ptpEnable := true }) |> fun s => (s).setTimePort 0 ({ (s.timePort 0) with pdelaySent := some ((0), (0)) })), _,
    rfl, by decide +kernel⟩,
  ⟨0, (wC |> fun s => { s with sys := { s.sys with phase := .running } } |> fun s => { s with time := { s.time with valid := true } } |> fun s => { s with time := { s.time with servo := .locked } }), _,
    rfl, by decide +kernel⟩,
  ⟨0, (wC |> fun s => { s with sys := { s.sys with phase := .running } } |> fun s => { s with time := { s.time with valid := false } }), _,
    rfl, by decide +kernel⟩,
  ⟨0, (wC |> fun s => { s with sys := { s.sys with phase := .running } }), _,
    rfl, by decide +kernel⟩,
  ⟨0, 0, 0, 0, 0, 0, none, (wC |> fun s => { s with sys := { s.sys with phase := .running } }), _, _,
    rfl, rfl, by decide +kernel⟩,
  ⟨0, (10000 * 100000), (wEdges 9999), (wC |> fun s => { s with sys := { s.sys with phase := .running } }), _,
    rfl, wEdges_gap 10000 (by decide), wEdges_on 10000, by decide +kernel⟩,
  ⟨0, .noEdge, (wC |> fun s => { s with sys := { s.sys with phase := .running } } |> fun s => { s with time := { s.time with ref10 := { s.time.ref10 with present := true } } }), _,
    rfl, Or.inr (Or.inl rfl), by decide +kernel⟩,
  ⟨0, (wC |> fun s => { s with sys := { s.sys with phase := .running } } |> fun s => { s with time := { s.time with irig := { s.time.irig with present := true } } }), _,
    rfl, by decide +kernel⟩⟩

/-- Operands and states that meet the hypotheses of `Obligations.TimeEventsTakeEffect`. -/
theorem test_TimeEventsTakeEffect_hypotheses :
  (∃ (dt : Ps) (s : State) (u : State), u = s.elapse dt ∧ u.sys.phase ≠ .unpowered ∧ u.time.leapPending = true ∧ u.time.leapDue ≤ stampSec
    u.stamp) ∧
  (∃ (dt : Ps) (s : State) (u : State), u = s.elapse dt ∧ (u.time.leapPending = false ∨ stampSec u.stamp < u.time.leapDue)) ∧
  (∃ (dt : Ps) (s : State) (u : State), u = s.elapse dt ∧ u.time.leapOccurred = true ∧ u.time.leapAt + 86400 ≤ stampSec u.stamp) ∧
  (∃ (dt : Ps) (edges : Nat) (t0 : Nat) (s : State) (u : State), u = s.elapse dt ∧ u.sys.phase = .running ∧ u.time.servo = .locked ∧
    u.time.kclkFail = false ∧ edges ≠ 0 ∧ u.time.kclkStart = some t0 ∧ kclkWindow ≤ (u.time.tb + tbMod - t0) % tbMod) ∧
  (∃ (dt : Ps) (i : Nat) (f : Bool) (s : State) (u : State) (e : Ps), u = s.elapse dt ∧ e = cdiv u.now 4000 * 4000 ∧ u.sys.phase = .running
    ∧ i < 16 ∧ edgeSelected u.time.evtEdges i f = true) ∧
  (∃ (i : Nat) (f : Bool) (u : State), u.time.evtDest = 255 ∧ u.time.evtFifo.length < 512) ∧
  (∃ (i : Nat) (f : Bool) (u : State), u.time.evtDest = 255 ∧ 512 ≤ u.time.evtFifo.length) ∧
  (∃ (u : State) (v : State), v = { u with time := { u.time with evtHeld := [] } } ∧ (∀ x ∈ u.time.evtHeld, x.1 ≤ u.now)) ∧
  (∃ (dt : Ps) (i : Nat) (f : Bool) (s : State) (u : State), u = s.elapse dt ∧ edgeSelected u.time.evtEdges i f = false) ∧
  (∃ (dt : Ps) (s : State) (u : State) (a : Stamp), u = s.elapse dt ∧ a = stampAdd u.stamp (-(u.time.ppsOutOffset * 65536)) ∧ u.online =
    true ∧ stampSub a ≤ tclkInc u.time.y / 65536 ∧ u.time.ppsOutSec ≠ some (stampSec a) ∧ u.time.tqCode ≤ u.time.ppsOutGate) ∧
  (∃ (dt : Ps) (s : State) (u : State) (a : Stamp), u = s.elapse dt ∧ a = stampAdd u.stamp (-(u.time.ppsOutOffset * 65536)) ∧ u.online =
    true ∧ stampSub a ≤ tclkInc u.time.y / 65536 ∧ u.time.ppsOutSec ≠ some (stampSec a) ∧ u.time.ppsOutGate < u.time.tqCode) ∧
  (∃ (dt : Ps) (s : State) (u : State) (e : Ps), u = s.elapse dt ∧ u.time.ppsOutEnd = some e ∧ e ≤ u.now) :=
  ⟨⟨0, (wC |> fun s => { s with time := { s.time with leapPending := true } }), _,
    rfl, by decide +kernel⟩,
  ⟨0, wC, _,
    rfl, by decide +kernel⟩,
  ⟨0, (wC |> fun s => { s with time := { s.time with leapOccurred := true } }), _,
    rfl, by decide +kernel⟩,
  ⟨0, 1, 0, (wC |> fun s => { s with sys := { s.sys with phase := .running } } |> fun s => { s with time := { s.time with servo := .locked } } |> fun s => { s with time := { s.time with kclkFail := false } } |> fun s => { s with time := { s.time with kclkStart := some (0) } } |> fun s => { s with time := { s.time with tb := 20 * unitsPerSec * 65536 } }), _,
    rfl, by decide +kernel⟩,
  ⟨0, 15, true, (wC |> fun s => { s with sys := { s.sys with phase := .running } } |> fun s => { s with time := { s.time with evtEdges := 0xFFFFFFFF } }), _, _,
    rfl, rfl, by decide +kernel⟩,
  ⟨0, true, (wC |> fun s => { s with time := { s.time with evtDest := 255 } } |> fun s => { s with time := { s.time with evtEdges := 0xFFFFFFFF } }),
    by decide +kernel⟩,
  ⟨0, true, (wC |> fun s => { s with time := { s.time with evtDest := 255 } } |> fun s => { s with time := { s.time with evtFifo := List.replicate 512 wEvt } }),
    by decide +kernel⟩,
  ⟨wC, _,
    rfl, by decide +kernel⟩,
  ⟨0, 0, true, wC, _,
    rfl, by decide +kernel⟩,
  ⟨0, (wC |> fun s => { s with time := { s.time with tb := 200000 * unitsPerSec * 65536 } } |> fun s => { s with time := { s.time with y := 0 } }), _, _,
    rfl, rfl, by decide +kernel⟩,
  ⟨0, (wC |> fun s => { s with time := { s.time with tb := 200000 * unitsPerSec * 65536 } } |> fun s => { s with time := { s.time with ppsOutGate := 0 } } |> fun s => { s with time := { s.time with y := 0 } } |> fun s => { s with time := { s.time with valid := true } } |> fun s => { s with time := { s.time with source := none } }), _, _,
    rfl, rfl, by decide +kernel⟩,
  ⟨0, (wC |> fun s => { s with time := { s.time with ppsOutEnd := some (0) } }), _, 0,
    rfl, by decide +kernel⟩⟩

/-- Operands and states that meet the hypotheses of `Obligations.StreamCommandsTakeEffect`. -/
theorem test_StreamCommandsTakeEffect_hypotheses :
  (∃ (dt : Ps) (q : Packet) (s : State) (u : State) (w : State) (i : Nat), u = arrived q (s.elapse dt) ∧ w = u.flushed ∧ ready (s.elapse dt)
    q 0x0301 = true ∧ u.sys.mode ≠ .standby ∧ q.params.length = 28 ∧ fld q.params 0 2 = i ∧ i ≤ 16383 ∧ (w.ctx i).state = .free ∧ fld
    q.params 2 1 ≤ 1 ∧ (fld q.params 3 1 = 4 ∨ fld q.params 3 1 = 6) ∧ ipFieldOk (fld q.params 3 1 == 6) (slice q.params 4 16) = true ∧
    lookupKey w (addKey q.params) = none ∧ fld q.params 26 1 ≤ 3 ∧ fld q.params 27 1 ≤ 7 ∧ (fld q.params 2 1 = 0 ∨ tcpStreams w < 512)) ∧
  (∃ (p : List Byte) (v : State) (i : Nat), fld p 0 2 = i ∧ (fld p 2 1 ≠ 1 ∨ tcpStreams v < 512)) ∧
  (∃ (dt : Ps) (q : Packet) (s : State) (u : State) (w : State) (i : Nat), u = arrived q (s.elapse dt) ∧ w = u.flushed ∧ ready (s.elapse dt)
    q 0x0302 = true ∧ u.sys.mode ≠ .standby ∧ q.params.length = 2 ∧ fld q.params 0 2 = i ∧ i ≤ 16383 ∧ (w.ctx i).state ≠ .free) ∧
  (∃ (p : List Byte) (v : State) (t : State), t = streamRemove (fld p 0 2) v) ∧
  (∃ (dt : Ps) (q : Packet) (s : State) (u : State) (w : State) (v : State) (i : Nat) (k : StreamKey), u = arrived q (s.elapse dt) ∧ w =
    u.flushed ∧ k = { (w.ctx i).key with srcIp := ipOf (w.ctx i).key.ipv6 (slice q.params 2 16), srcPort := fld q.params 18 2, idcode := fld q.params 20 2 }
    ∧ v = streamRebind u.nextGridStamp i k w ∧ ready (s.elapse dt) q 0x0303 = true ∧ u.sys.mode ≠ .standby ∧ q.params.length = 22 ∧ fld
    q.params 0 2 = i ∧ i ≤ 16383 ∧ (w.ctx i).state ≠ .free ∧ ipFieldOk (w.ctx i).key.ipv6 (slice q.params 2 16) = true ∧ (lookupKey w k =
    none ∨ lookupKey w k = some i) ∧ ((w.ctx i).key.tcp = false ∨ tcpStreams w < 512)) ∧
  (∃ (p : List Byte) (v : State) (t : State) (i : Nat), t = streamRebind v.stamp i { (v.ctx i).key with srcIp := ipOf (v.ctx i).key.ipv6 (slice p 2 16), srcPort := fld p 18 2, idcode := fld p 20 2 }
    v ∧ fld p 0 2 = i ∧ ((v.ctx i).key.tcp = false ∨ tcpStreams v < 512)) ∧
  (∃ (dt : Ps) (q : Packet) (s : State) (u : State) (v : State) (i : Nat), u = arrived q (s.elapse dt) ∧ v = offerConfig i (q.params.drop 4)
    u ∧ ready (s.elapse dt) q 0x0304 = true ∧ u.sys.mode ≠ .standby ∧ 4 ≤ q.params.length ∧ q.params.length = 4 + fld q.params 2 2 ∧ fld
    q.params 0 2 = i ∧ i ≤ 16383 ∧ (u.ctx i).state ≠ .free ∧ fld q.params 2 2 ≤ 16384 ∧ notConfig (q.params.drop 4) = false) ∧
  (∃ (dt : Ps) (q : Packet) (s : State) (u : State) (i : Nat), u = arrived q (s.elapse dt) ∧ ready (s.elapse dt) q 0x0305 = true ∧
    q.params.length = 2 ∧ fld q.params 0 2 = i ∧ i ≤ 16383 ∧ badWords 0 (contextWords i 0) u = []) ∧
  (∃ (dt : Ps) (q : Packet) (s : State) (u : State) (i : Nat), u = arrived q (s.elapse dt) ∧ ready (s.elapse dt) q 0x0305 = true ∧
    q.params.length = 2 ∧ fld q.params 0 2 = i ∧ i ≤ 16383 ∧ badWords 0 (contextWords i 0) u ≠ []) ∧
  (∃ (dt : Ps) (q : Packet) (s : State) (u : State) (i : Nat), u = arrived q (s.elapse dt) ∧ ready (s.elapse dt) q 0x0306 = true ∧
    q.params.length = 3 ∧ fld q.params 0 2 = i ∧ i ≤ 16383 ∧ fld q.params 2 1 = 0 ∧ badWords 0 (contextWords i 0) u = []) ∧
  (∃ (dt : Ps) (q : Packet) (s : State) (u : State) (i : Nat), u = arrived q (s.elapse dt) ∧ ready (s.elapse dt) q 0x0306 = true ∧
    q.params.length = 3 ∧ fld q.params 0 2 = i ∧ i ≤ 16383 ∧ fld q.params 2 1 = 1 ∧ (u.ctx i).state ≠ .free ∧ badWords 0 (contextWords i
    0) u = []) ∧
  (∃ (dt : Ps) (q : Packet) (s : State) (u : State) (i : Nat), u = arrived q (s.elapse dt) ∧ ready (s.elapse dt) q 0x0307 = true ∧
    u.sys.mode ≠ .standby ∧ q.params.length = 4 ∧ fld q.params 0 2 = i ∧ i ≤ 16383 ∧ (u.ctx i).state ≠ .free) ∧
  (∃ (dt : Ps) (q : Packet) (s : State) (u : State), u = arrived q (s.elapse dt) ∧ ready (s.elapse dt) q 0x0301 = true ∧ u.sys.mode =
    .standby) ∧
  (∃ (i : Nat) (u : State), i ≤ 16383) ∧
  (∃ (a : Stamp) (i : Nat) (k : StreamKey) (u : State) (c : Ctx), c = (streamRebind a i k u).ctx i ∧ i ≤ 16383) :=
  ⟨⟨0, (pk (pz 28 [(0,2,16383), (3,1,4), (26,1,3), (27,1,7)])), (wC |> fun s => (s).setCtx 16383 ({ (s.ctx 16383) with state := .free })), _, _, 16383,
    rfl, rfl, by decide +kernel⟩,
  ⟨(pz 2 []), wC, 0,
    by decide +kernel⟩,
  ⟨0, (pk (pz 2 [(0,2,16383)])), (wC |> fun s => (s).setCtx 16383 ({ (s.ctx 16383) with state := .receiving })), _, _, 16383,
    rfl, rfl, by decide +kernel⟩,
  ⟨([]), wC, _,
    rfl⟩,
  ⟨0, (pk (pz 22 [(0,2,16383)])), (wC |> fun s => (s).setCtx 16383 ({ (s.ctx 16383) with state := .receiving }) |> fun s => (s).setCtx 16383 ({ (s.ctx 16383) with key := { (s.ctx 16383).key with tcp := false } })), _, _, _, 16383, _,
    rfl, rfl, rfl, rfl, by decide +kernel⟩,
  ⟨(pz 2 []), (wC |> fun s => (s).setCtx 0 ({ (s.ctx 0) with key := { (s.ctx 0).key with tcp := false } })), _, 0,
    rfl, by decide +kernel⟩,
  ⟨0, (pk (pz 22 [(0,2,16383),(2,2,18),(4,2,0xAA31)])), (wC |> fun s => (s).setCtx 16383 ({ (s.ctx 16383) with state := .receiving })), _, _, 16383,
    rfl, rfl, by decide +kernel⟩,
  ⟨0, (pk (pz 2 [(0,2,16383)])), wC, _, 16383,
    rfl, by decide +kernel⟩,
  ⟨0, (pk (pz 2 [(0,2,16383)])), (wC |> fun s => { s with integ := { s.integ with injected := [{ cls := 0, index := 16383, addr := 0, flips := 3 }] } }), _, 16383,
    rfl, by decide +kernel⟩,
  ⟨0, (pk (pz 3 [(0,2,16383)])), wC, _, 16383,
    rfl, by decide +kernel⟩,
  ⟨0, (pk (pz 3 [(0,2,16383), (2,1,1)])), (wC |> fun s => (s).setCtx 16383 ({ (s.ctx 16383) with state := .receiving })), _, 16383,
    rfl, by decide +kernel⟩,
  ⟨0, (pk (pz 4 [(0,2,16383)])), (wC |> fun s => (s).setCtx 16383 ({ (s.ctx 16383) with state := .receiving })), _, 16383,
    rfl, by decide +kernel⟩,
  ⟨0, (pk ([])), (wC |> fun s => { s with sys := { s.sys with mode := .standby } }), _,
    rfl, by decide +kernel⟩,
  ⟨16383, wC,
    by decide +kernel⟩,
  ⟨0, 16383, (({} : StreamKey)), wC, _,
    rfl, by decide +kernel⟩⟩

/-- Operands and states that meet the hypotheses of `Obligations.IngressCommandsTakeEffect`. -/
theorem test_IngressCommandsTakeEffect_hypotheses :
  (∃ (dt : Ps) (q : Packet) (s : State) (u : State) (k : Nat), u = arrived q (s.elapse dt) ∧ ready (s.elapse dt) q 0x0308 = true ∧
    q.params.length = 34 ∧ fld q.params 0 1 = k ∧ k ≤ 3 ∧ fld q.params 1 1 ≤ 1 ∧ fld q.params 2 1 ≤ 1 ∧ (fld q.params 1 1 = 0 ∨ fld
    q.params 2 1 = 0) ∧ fld q.params 3 1 ≤ 2) ∧
  (∃ (dt : Ps) (q : Packet) (s : State) (u : State), u = arrived q (s.elapse dt) ∧ ready (s.elapse dt) q 0x0309 = true ∧ q.params.length =
    20 ∧ (∀ r, r < 8 → ringEntryOk u q.params r = true ∧ 1 ≤ fld q.params (2 * r + 1) 1 ∧ fld q.params (2 * r + 1) 1 ≤ 64) ∧ (∀ i, i < 4 →
    fld q.params (16 + i) 1 ≤ 7 ∨ fld q.params (16 + i) 1 = 0xFF)) ∧
  (∃ (r : Nat) (p : List Byte) (u : State), r < 8 ∧ fld p (2 * r) 1 = 1) ∧
  (∃ (dt : Ps) (q : Packet) (s : State) (u : State), u = arrived q (s.elapse dt) ∧ ready (s.elapse dt) q 0x030A = true ∧ q.params = [0]) ∧
  (∃ (dt : Ps) (q : Packet) (s : State) (u : State), u = arrived q (s.elapse dt) ∧ ready (s.elapse dt) q 0x030A = true ∧ q.params = [1]) ∧
  (∃ (g : IngressSt) (x : Cnt), x ∈ (clearIngress g).ports.toList.flatMap portCounters ++ ingressCounters (clearIngress g)) ∧
  (∃ (dt : Ps) (q : Packet) (s : State) (u : State) (n : Nat), u = arrived q (s.elapse dt) ∧ ready (s.elapse dt) q 0x030B = true ∧
    q.params.length = 9 ∧ fld q.params 0 1 = n ∧ 1 ≤ n ∧ n ≤ 4 ∧ (∀ i, i < n → fld q.params (1 + 2 * i) 2 ≠ 0)) ∧
  (∃ (dt : Ps) (q : Packet) (s : State) (u : State) (k : Nat) (g : Bool × Nat), u = arrived q (s.elapse dt) ∧ g = (decide (fld q.params 2 1
    = 6), ipOf (fld q.params 2 1 = 6) (slice q.params 3 16)) ∧ ready (s.elapse dt) q 0x030C = true ∧ u.online = true ∧ q.params.length =
    19 ∧ fld q.params 0 1 = k ∧ k ≤ 3 ∧ fld q.params 1 1 = 1 ∧ (fld q.params 2 1 = 4 ∨ fld q.params 2 1 = 6) ∧ ipFieldOk (fld q.params 2 1
    == 6) (slice q.params 3 16) = true ∧ g ∉ (u.port k).groups ∧ (u.port k).groups.length < 64) ∧
  (∃ (dt : Ps) (q : Packet) (s : State) (u : State) (k : Nat) (g : Bool × Nat), u = arrived q (s.elapse dt) ∧ g = (decide (fld q.params 2 1
    = 6), ipOf (fld q.params 2 1 = 6) (slice q.params 3 16)) ∧ ready (s.elapse dt) q 0x030C = true ∧ q.params.length = 19 ∧ fld q.params 0
    1 = k ∧ k ≤ 3 ∧ fld q.params 1 1 = 1 ∧ (fld q.params 2 1 = 4 ∨ fld q.params 2 1 = 6) ∧ ipFieldOk (fld q.params 2 1 == 6) (slice
    q.params 3 16) = true ∧ g ∉ (u.port k).groups ∧ 64 ≤ (u.port k).groups.length) ∧
  (∃ (dt : Ps) (q : Packet) (s : State) (u : State) (k : Nat) (g : Bool × Nat), u = arrived q (s.elapse dt) ∧ g = (decide (fld q.params 2 1
    = 6), ipOf (fld q.params 2 1 = 6) (slice q.params 3 16)) ∧ ready (s.elapse dt) q 0x030C = true ∧ u.online = true ∧ q.params.length =
    19 ∧ fld q.params 0 1 = k ∧ k ≤ 3 ∧ fld q.params 1 1 = 0 ∧ (fld q.params 2 1 = 4 ∨ fld q.params 2 1 = 6) ∧ ipFieldOk (fld q.params 2 1
    == 6) (slice q.params 3 16) = true) :=
  ⟨⟨0, (pk (pz 34 [(0,1,3), (2,1,1), (3,1,2)])), wC, _, 3,
    rfl, by decide +kernel⟩,
  ⟨0, (pk ([0, 1, 0, 1, 0, 1, 0, 1, 0, 1, 0, 1, 0, 1, 0, 64, 7, 7, 7, 0xFF])), wC, _,
    rfl, by decide +kernel⟩,
  ⟨7, (List.replicate 16 1), wC,
    by decide +kernel⟩,
  ⟨0, (pk ([0])), wC, _,
    rfl, by decide +kernel⟩,
  ⟨0, (pk ([1])), wC, _,
    rfl, by decide +kernel⟩,
  ⟨(({} : IngressSt)), 0,
    by decide +kernel⟩,
  ⟨0, (pk ([4, 0, 1, 0, 2, 0, 3, 255, 255])), wC, _, 4,
    rfl, by decide +kernel⟩,
  ⟨0, (pk (pz 19 [(0,1,3), (1,1,1), (2,1,4)])), wC, _, 3, _,
    rfl, rfl, by decide +kernel⟩,
  ⟨0, (pk (pz 19 [(0,1,3), (1,1,1), (2,1,4)])), (wC |> fun s => { s with ingress := { s.ingress with ports := vset s.ingress.ports 3 ({ (s.port 3) with groups := List.replicate 64 (false, 0) }) } } |> fun s => { s with ingress := { s.ingress with ports := vset s.ingress.ports 3 ({ (s.port 3) with groups := List.replicate 64 (true, 1) }) } }), _, 3, _,
    rfl, rfl, by decide +kernel⟩,
  ⟨0, (pk (pz 19 [(0,1,3), (2,1,4)])), wC, _, 3, _,
    rfl, rfl, by decide +kernel⟩⟩

/-- Operands and states that meet the hypotheses of `Obligations.ReceptionFollowsItsSteps`. -/
theorem test_ReceptionFollowsItsSteps_hypotheses :
  (∃ (dt : Ps) (k : Nat) (f : LineFrame) (s : State) (u : State) (v : State) (p : PortSt) (m : MkaPort), u = s.elapse dt ∧ f.mpacket =
    .whole ∧ macSteps (vget {} u.sec.mka k) (u.port k) f = (false, p, m) ∧ v = { u with ingress := { u.ingress with ports := vset u.ingress.ports k p }, sec := { u.sec with mka := vset u.sec.mka k m } }
    ∧ u.online = true ∧ k < 4 ∧ (u.port k).linkUp = true) ∧
  (∃ (dt : Ps) (k : Nat) (f : LineFrame) (s : State) (u : State) (v : State) (p : PortSt) (m : MkaPort), u = s.elapse dt ∧ f.mpacket =
    .whole ∧ macSteps (vget {} u.sec.mka k) (u.port k) f = (true, p, m) ∧ v = { u with ingress := { u.ingress with ports := vset u.ingress.ports k p }, sec := { u.sec with mka := vset u.sec.mka k m } }
    ∧ u.online = true ∧ k < 4 ∧ (u.port k).linkUp = true) ∧
  (∃ (dt : Ps) (k : Nat) (f : LineFrame) (s : State) (u : State), u = s.elapse dt ∧ (u.online = false ∨ 4 ≤ k ∨ (u.port k).linkUp = false)) ∧
  (∃ (dt : Ps) (k : Nat) (f : LineFrame) (s : State) (u : State), u = s.elapse dt ∧ u.online = true ∧ k < 4 ∧ (u.port k).linkUp = true ∧
    f.mpacket = .verify) ∧
  (∃ (dt : Ps) (k : Nat) (f : LineFrame) (s : State) (u : State) (a : Stamp), u = s.elapse dt ∧ a = stampAdd (u.pcsStamp (f.wireLength *
    octetPs (u.port k))) (-(u.timePort k).ingressLat) ∧ u.online = true ∧ k < 4 ∧ (u.port k).linkUp = true ∧ (u.tx k).active = true ∧
    f.mpacket = .first) ∧
  (∃ (dt : Ps) (k : Nat) (f : LineFrame) (q : PartialFrame) (s : State) (u : State), u = s.elapse dt ∧ u.online = true ∧ k < 4 ∧ (u.port
    k).linkUp = true ∧ (u.tx k).active = true ∧ f.mpacket = .later false ∧ (u.port k).partial_ = some q) ∧
  (∃ (dt : Ps) (k : Nat) (f : LineFrame) (g : LineFrame) (q : PartialFrame) (s : State) (u : State), u = s.elapse dt ∧ g = { f with mpacket := .whole, octets := q.octets ++ f.octets, wireLength := q.wireLength + f.wireLength, fecCorr := q.fecCorr + f.fecCorr, fecUncorr := q.fecUncorr + f.fecUncorr, fecOverlap := q.fecOverlap || f.fecOverlap }
    ∧ u.online = true ∧ k < 4 ∧ (u.port k).linkUp = true ∧ (u.tx k).active = true ∧ f.mpacket = .later true ∧ (u.port k).partial_ = some
    q) ∧
  (∃ (dt : Ps) (k : Nat) (f : LineFrame) (last : Bool) (s : State) (u : State), u = s.elapse dt ∧ (f.mpacket = .first ∧ (u.tx k).active =
    false ∨ f.mpacket = .later last ∧ ((u.tx k).active = false ∨ (u.port k).partial_ = none))) ∧
  (∃ (m : MkaPort) (p : PortSt) (f : LineFrame), p.rsFec = false ∧ f.wireLength < 64) ∧
  (∃ (m : MkaPort) (p : PortSt) (f : LineFrame), p.rsFec = false ∧ 9216 < f.wireLength) ∧
  (∃ (m : MkaPort) (p : PortSt) (f : LineFrame), p.rsFec = false ∧ 64 ≤ f.wireLength ∧ f.wireLength ≤ 9216 ∧ f.fcsOk = false) ∧
  (∃ (m : MkaPort) (p : PortSt) (f : LineFrame), p.rsFec = false ∧ 64 ≤ f.wireLength ∧ f.wireLength ≤ 9216 ∧ f.fcsOk = true ∧ macAccepted p
    (fld f.octets 0 6) = false) ∧
  (∃ (m : MkaPort) (p : PortSt) (f : LineFrame), p.rsFec = false ∧ 64 ≤ f.wireLength ∧ f.wireLength ≤ 9216 ∧ f.fcsOk = true ∧ macAccepted p
    (fld f.octets 0 6) = true ∧ p.macsec = .strict ∧ (ethPayload f.octets).1 ≠ 0x888E ∧ f.macsec = .untagged) ∧
  (∃ (m : MkaPort) (p : PortSt) (f : LineFrame), p.rsFec = false ∧ 64 ≤ f.wireLength ∧ f.wireLength ≤ 9216 ∧ f.fcsOk = true ∧ macAccepted p
    (fld f.octets 0 6) = true ∧ p.macsec = .check ∧ (ethPayload f.octets).1 ≠ 0x888E ∧ f.macsec = .untagged) ∧
  (∃ (m : MkaPort) (p : PortSt) (f : LineFrame) (c : Nat) (an : Nat) (pn : Nat) (ok : Bool), p.rsFec = false ∧ 64 ≤ f.wireLength ∧
    f.wireLength ≤ 9216 ∧ f.fcsOk = true ∧ macAccepted p (fld f.octets 0 6) = true ∧ p.macsec ≠ .off ∧ (ethPayload f.octets).1 ≠ 0x888E ∧
    f.macsec = .tagged c an pn ok) ∧
  (∃ (m : MkaPort) (r : Nat) (c : Nat) (an : Nat) (pn : Nat) (n : Nat), nextPn m c an = some n ∧ n ≤ pn + r) ∧
  (∃ (m : MkaPort) (r : Nat) (c : Nat) (an : Nat) (pn : Nat) (ok : Bool), (ok = false ∨ nextPn m c an = none ∨ ∃ n, nextPn m c an = some n ∧
    pn + r < n)) ∧
  (∃ (dt : Ps) (f : LineFrame) (s : State) (u : State) (p : PortSt) (m : MkaPort), u = s.elapse dt ∧ macSteps (vget {} u.sec.mka 4) { mgmtPort u with rsFec := false, macsec := .off }
    f = (true, p, m) ∧ u.online = true ∧ u.host.mgmtLink = true ∧ f.macsec = .untagged) ∧
  (∃ (dt : Ps) (s : State) (u : State) (old : Reassembly → Bool), u = s.elapse dt ∧ old = (fun r => decide (50 * (unitsPerMs : Int) ≤
    stampDiff u.stamp r.first))) ∧
  (∃ (dt : Ps) (s : State) (u : State) (k : Nat) (f : List Byte) (rest : List (Nat × List Byte)), u = s.elapse dt ∧ u.online = true ∧
    u.ingress.toSupervisor = (k, f) :: rest) ∧
  (∃ (dt : Ps) (r : Nat) (desc : List Byte) (s : State) (u : State) (x : RxRing) (f : RingFrame) (rest : List RingFrame), u = s.elapse dt ∧
    x = u.rxRing r ∧ r < 8 ∧ x.queue = f :: rest ∧ x.enabled = true ∧ u.host.pcieUp = true ∧ u.host.busMaster = true ∧ x.head = x.tail ∧
    f.used = [] ∧ earlierOnWay u r f = false) ∧
  (∃ (dt : Ps) (r : Nat) (desc : List Byte) (s : State) (u : State) (x : RxRing) (f : RingFrame) (rest : List RingFrame) (n : Nat), u =
    s.elapse dt ∧ x = u.rxRing r ∧ n = x.units * 256 ∧ r < 8 ∧ x.queue = f :: rest ∧ x.enabled = true ∧ u.host.pcieUp = true ∧
    u.host.busMaster = true ∧ x.head ≠ x.tail ∧ (lfld desc 10 2).testBit 0 = true ∧ f.used = [] ∧ earlierOnWay u r f = false ∧ n <
    f.octets.length) :=
  ⟨⟨0, 3, ({ wLine with fcsOk := false }), (wC |> fun s => { s with ingress := { s.ingress with ports := vset s.ingress.ports 3 ({ (s.port 3) with linkUp := true }) } }), _, _, _, _,
    rfl, rfl, rfl, rfl, by decide +kernel⟩,
  ⟨0, 3, ({ wLine with mpacket := .whole }), (wC |> fun s => { s with ingress := { s.ingress with ports := vset s.ingress.ports 3 ({ (s.port 3) with linkUp := true }) } }), _, _, _, _,
    rfl, rfl, rfl, rfl, by decide +kernel⟩,
  ⟨0, 0, wLine, wC, _,
    rfl, by decide +kernel⟩,
  ⟨0, 3, ({ wLine with mpacket := .verify }), (wC |> fun s => { s with ingress := { s.ingress with ports := vset s.ingress.ports 3 ({ (s.port 3) with linkUp := true }) } }), _,
    rfl, by decide +kernel⟩,
  ⟨0, 3, ({ wLine with mpacket := .first }), (wC |> fun s => { s with ingress := { s.ingress with ports := vset s.ingress.ports 3 ({ (s.port 3) with linkUp := true }) } } |> fun s => (s).setTx 3 ({ (s.tx 3) with active := true })), _, _,
    rfl, rfl, by decide +kernel⟩,
  ⟨0, 3, ({ wLine with mpacket := .later false }), ({ octets := [], wireLength := 0, fecCorr := 0, fecUncorr := 0, fecOverlap := false, arrival := 0 }), (wC |> fun s => { s with ingress := { s.ingress with ports := vset s.ingress.ports 3 ({ (s.port 3) with linkUp := true }) } } |> fun s => (s).setTx 3 ({ (s.tx 3) with active := true }) |> fun s => { s with ingress := { s.ingress with ports := vset s.ingress.ports 3 ({ (s.port 3) with partial_ := some ({ octets := [], wireLength := 0, fecCorr := 0, fecUncorr := 0, fecOverlap := false, arrival := 0 }) }) } } |> fun s => { s with ingress := { s.ingress with ports := vset s.ingress.ports 3 ({ (s.port 3) with partial_ := some { octets := [], wireLength := 0, fecCorr := 0, fecUncorr := 0, fecOverlap := false, arrival := 0 } }) } }), _,
    rfl, by decide +kernel⟩,
  ⟨0, 3, ({ wLine with mpacket := .later true }), _, ({ octets := [], wireLength := 0, fecCorr := 0, fecUncorr := 0, fecOverlap := false, arrival := 0 }), (wC |> fun s => { s with ingress := { s.ingress with ports := vset s.ingress.ports 3 ({ (s.port 3) with linkUp := true }) } } |> fun s => (s).setTx 3 ({ (s.tx 3) with active := true }) |> fun s => { s with ingress := { s.ingress with ports := vset s.ingress.ports 3 ({ (s.port 3) with partial_ := some ({ octets := [], wireLength := 0, fecCorr := 0, fecUncorr := 0, fecOverlap := false, arrival := 0 }) }) } } |> fun s => { s with ingress := { s.ingress with ports := vset s.ingress.ports 3 ({ (s.port 3) with partial_ := some { octets := [], wireLength := 0, fecCorr := 0, fecUncorr := 0, fecOverlap := false, arrival := 0 } }) } }), _,
    rfl, rfl, by decide +kernel⟩,
  ⟨0, 3, ({ wLine with mpacket := .first }), true, wC, _,
    rfl, by decide +kernel⟩,
  ⟨(({} : MkaPort)), ({ ({} : PortSt) with rsFec := false }), ({ wLine with wireLength := 63 }),
    by decide +kernel⟩,
  ⟨(({} : MkaPort)), ({ ({} : PortSt) with rsFec := false }), ({ wLine with wireLength := 9217 }),
    by decide +kernel⟩,
  ⟨(({} : MkaPort)), ({ ({} : PortSt) with rsFec := false }), ({ { wLine with wireLength := 64 } with fcsOk := false }),
    by decide +kernel⟩,
  ⟨(({} : MkaPort)), ({ ({} : PortSt) with rsFec := false }), ({ wLine with octets := List.replicate 64 1 }),
    by decide +kernel⟩,
  ⟨(({} : MkaPort)), ({ { ({} : PortSt) with rsFec := false } with macsec := .strict }), ({ { { wLine with wireLength := 64 } with fcsOk := true } with macsec := .untagged }),
    by decide +kernel⟩,
  ⟨(({} : MkaPort)), ({ { ({} : PortSt) with rsFec := false } with macsec := .check }), ({ { { wLine with wireLength := 64 } with fcsOk := true } with macsec := .untagged }),
    by decide +kernel⟩,
  ⟨(({} : MkaPort)), ({ { ({} : PortSt) with rsFec := false } with macsec := .strict }), ({ { { wLine with wireLength := 64 } with fcsOk := true } with macsec := (.tagged 0 0 0 (true)) }), 0, 0, 0, true,
    by decide +kernel⟩,
  ⟨({ rx := [(0, [(0, 1)])] }), 0, 0, 0, 1, 1,
    by decide +kernel⟩,
  ⟨(({} : MkaPort)), 0, 0, 0, 0, true,
    by decide +kernel⟩,
  ⟨0, ({ wLine with macsec := .untagged }), (wC |> fun s => { s with host := { s.host with mgmtLink := true } }), _, _, (({} : MkaPort)),
    rfl, rfl, by decide +kernel⟩,
  ⟨0, wC, _, _,
    rfl, rfl⟩,
  ⟨0, (wC |> fun s => { s with ingress := { s.ingress with toSupervisor := [((0), ([]))] } }), _, 0, ([]), ([]),
    rfl, by decide +kernel⟩,
  ⟨0, 7, ([]), (wC |> fun s => (s).setRxRing 7 ((({} : RxRing))) |> fun s => (s).setRxRing 7 ({ (s.rxRing 7) with queue := [({ wRf with used := [] })] }) |> fun s => (s).setRxRing 7 ({ (s.rxRing 7) with enabled := true }) |> fun s => { s with host := { s.host with pcieUp := true } } |> fun s => { s with host := { s.host with busMaster := true } } |> fun s => (s).setRxRing 7 ({ (s.rxRing 7) with head := ((({} : RxRing))).tail })), _, _, ({ wRf with used := [] }), ([]),
    rfl, rfl, by decide +kernel⟩,
  ⟨0, 7, (List.replicate 64 1), (wC |> fun s => (s).setRxRing 7 ((({} : RxRing))) |> fun s => (s).setRxRing 7 ({ (s.rxRing 7) with queue := [({ wRf with used := [] })] }) |> fun s => (s).setRxRing 7 ({ (s.rxRing 7) with enabled := true }) |> fun s => { s with host := { s.host with pcieUp := true } } |> fun s => { s with host := { s.host with busMaster := true } } |> fun s => (s).setRxRing 7 ({ (s.rxRing 7) with head := 1 }) |> fun s => (s).setRxRing 7 ({ (s.rxRing 7) with units := 0 })), _, _, ({ wRf with used := [] }), ([]), _,
    rfl, rfl, rfl, by decide +kernel⟩⟩

/-- Operands and states that meet the hypotheses of `Obligations.ContextEventsTakeEffect`. -/
theorem test_ContextEventsTakeEffect_hypotheses :
  (∃ (dt : Ps) (lane : Nat) (d : StreamDgram) (s : State) (u : State), u = s.elapse dt ∧ u.online = true ∧ (u.ingress.toParser.find? fun x
    => x.1 = lane) = some (lane, d) ∧ d.due ≤ u.now) ∧
  (∃ (lane : Nat) (d : StreamDgram) (u : State), d.payload.length < 2) ∧
  (∃ (lane : Nat) (d : StreamDgram) (u : State), 2 ≤ d.payload.length ∧ fld d.payload 0 1 = 0xAA ∧ fld d.payload 1 1 % 16 = 1 ∧
    (d.payload.length < 4 ∨ fld d.payload 2 2 ≠ d.payload.length)) ∧
  (∃ (lane : Nat) (d : StreamDgram) (u : State), 4 ≤ d.payload.length ∧ fld d.payload 0 1 = 0xAA ∧ fld d.payload 1 1 % 16 = 2 ∧ fld
    d.payload 2 2 = d.payload.length ∧ (crcCcitt (d.payload.take (d.payload.length - 2))).toNat ≠ fld d.payload (d.payload.length - 2) 2) ∧
  (∃ (dt : Ps) (lane : Nat) (i : Nat) (f : ParsedFrame) (s : State) (u : State) (v : State), u = s.elapse dt ∧ v = { touch 0 (contextWords i 0) u with ingress := { u.ingress with toBind := u.ingress.toBind.erase (lane, f) } }
    ∧ u.online = true ∧ (u.ingress.toBind.find? fun x => x.1 = lane) = some (lane, f) ∧ f.due ≤ u.now ∧ lookupKey u (dgramKey f.dgram) =
    some i ∧ badWords 0 (contextWords i 0) u = []) ∧
  (∃ (dt : Ps) (lane : Nat) (i : Nat) (f : ParsedFrame) (s : State) (u : State) (v : State), u = s.elapse dt ∧ v = touch 0 (contextWords i
    0) u ∧ u.online = true ∧ (u.ingress.toBind.find? fun x => x.1 = lane) = some (lane, f) ∧ f.due ≤ u.now ∧ lookupKey u (dgramKey
    f.dgram) = some i ∧ badWords 0 (contextWords i 0) u ≠ []) ∧
  (∃ (i : Nat) (due : Ps) (d : StreamDgram) (u : State) (c : Ctx) (g : StreamCfg) (tag : Stamp), c = u.ctx i ∧ tag = frameTag u d.payload
    (some g.timeBase) ∧ quarantined u c d = false ∧ (fld d.payload 14 2).testBit 10 = false ∧ c.cfg = some g ∧ d.payload.length =
    g.expectedSize ∧ fld d.payload 11 3 < g.timeBase ∧ 1000000000000 ≤ u.ingress.frameBucket ∧ g.numPhasors * 1000000000000 ≤
    u.ingress.phasorBucket ∧ c.state = .receiving ∧ c.forward = none) ∧
  (∃ (i : Nat) (gen : Nat) (tag : Stamp) (stat : Nat) (arrival : Stamp) (bound : Ps) (u : State) (c : Ctx), c = u.ctx i ∧ c.state =
    .receiving ∧ c.gen.toNat = gen ∧ c.cfg ≠ none) ∧
  (∃ (dt : Ps) (i : Nat) (k : CfgCheck) (s : State) (u : State), u = s.elapse dt ∧ (u.ingress.checks.find? fun k => k.index = i) = some k ∧
    k.voided = false ∧ (u.ctx i).state ≠ .free ∧ u.sys.mode ≠ .standby) ∧
  (∃ (i : Nat) (f : List Byte) (u : State) (r : Nat), checkConfig u i f = .inl r ∧ ((readConfig f).isSome && (u.ctx i).cfg.map (·.content)
    == some (cfgContent f)) = false) ∧
  (∃ (dt : Ps) (i : Nat) (s : State) (u : State) (g : StreamCfg), u = s.elapse dt ∧ (u.ctx i).cfg = some g ∧ (u.ctx i).state = .receiving ∧
    (u.ctx i).lastDataAt + cdiv 3000000000000 g.dataRate ≤ u.now) ∧
  (∃ (dt : Ps) (i : Nat) (s : State) (u : State), u = s.elapse dt ∧ (u.ctx i).quarantine = true ∧ 3 * (unitsPerSec : Int) ≤ stampDiff
    u.stamp (u.ctx i).rebindAt) ∧
  (∃ (dt : Ps) (i : Nat) (s : State) (u : State) (t : Ps), u = s.elapse dt ∧ u.online = true ∧ u.sys.mode ≠ .standby ∧ (u.ctx i).state =
    .awaitCfg ∧ (u.ctx i).srcCtrl = true ∧ (u.ctx i).lastRequestAt = some t ∧ t + 1000000000000 ≤ u.now) ∧
  (∃ (dt : Ps) (i : Nat) (ok : Bool) (s : State) (u : State), u = s.elapse dt ∧ u.online = true ∧ hasConn (u.ctx i) = true ∧ (u.ctx i).tcpUp
    = false ∧ (u.ctx i).tcpTryAt = none) ∧
  (∃ (dt : Ps) (i : Nat) (g : TcpSegment) (s : State) (u : State), u = s.elapse dt ∧ u.online = true ∧ hasConn (u.ctx i) = true ∧ (u.ctx
    i).tcpUp = true ∧ g.close = false ∧ g.reset = false ∧ g.payload ≠ [] ∧ 1000000000000 ≤ u.ingress.tcpBucket) ∧
  (∃ (dt : Ps) (i : Nat) (f : List Byte) (rest : List Byte) (s : State) (u : State) (v : State) (c : Ctx), u = s.elapse dt ∧ c = u.ctx i ∧
    takeFrame c.tcpScan (c.tcpBuf.length + 1) c.tcpBuf = (some f, rest) ∧ v = u.setCtx i { c.keepOctets rest with tcpScan := false } ∧
    u.online = true ∧ hasConn c = true ∧ 1000000000000 ≤ u.ingress.tcpBucket) ∧
  (∃ (dt : Ps) (i : Nat) (s : State) (u : State) (c : Ctx) (t : Ps) (n : Nat) (l : List (Ps × Nat)), u = s.elapse dt ∧ c = u.ctx i ∧ hasConn
    c = true ∧ c.tcpScan = false ∧ takeFrame false (c.tcpBuf.length + 1) c.tcpBuf = (none, c.tcpBuf) ∧ c.tcpArr = (t, n + 1) :: l ∧ t +
    50000000000 ≤ u.now) :=
  ⟨⟨0, 0, wDg, (wC |> fun s => { s with ingress := { s.ingress with toParser := [((0), (wDg))] } }), _,
    rfl, by decide +kernel⟩,
  ⟨0, wDg, wC,
    by decide +kernel⟩,
  ⟨0, ({ wDg with payload := pz 16 [(0,2,0xAA01),(2,2,17)] }), wC,
    by decide +kernel⟩,
  ⟨0, ({ wDg with payload := pz 16 [(0,2,0xAA02),(2,2,16)] }), wC,
    by decide +kernel⟩,
  ⟨0, 0, 0, wPf, (wC |> fun s => { s with ingress := { s.ingress with toBind := [((0), (wPf))] } } |> fun s => (s).setCtx 0 ({ (s.ctx 0) with state := .receiving })), _, _,
    rfl, rfl, by decide +kernel⟩,
  ⟨0, 5, 0, wPf, (wC |> fun s => { s with ingress := { s.ingress with toBind := [((5), (wPf))] } } |> fun s => { s with ingress := { s.ingress with toBind := [(5, wPf)] } } |> fun s => (s).setCtx 0 ({ (s.ctx 0) with state := .receiving }) |> fun s => (s).setCtx 0 ({ (s.ctx 0) with key := dgramKey wDg }) |> fun s => { s with integ := { s.integ with injected := [{ cls := 0, index := 0, addr := 0, flips := 3 }] } }), _, _,
    rfl, rfl, by decide +kernel⟩,
  ⟨0, 0, ({ wDg with payload := pz 20 [(0,2,0xAA02),(2,2,20)] }), (wC |> fun s => (s).setCtx 0 ((({} : Ctx))) |> fun s => (s).setCtx 0 ({ (s.ctx 0) with cfg := some ({ timeBase := 1000000, expectedSize := 20 }) }) |> fun s => { s with ingress := { s.ingress with frameBucket := 1000000000000 } } |> fun s => (s).setCtx 0 ({ (s.ctx 0) with state := .receiving }) |> fun s => (s).setCtx 0 ({ (s.ctx 0) with forward := none })), _, ({ timeBase := 1000000, expectedSize := 20 }), _,
    rfl, rfl, by decide +kernel⟩,
  ⟨0, 0, 0, 0, 0, 0, (wC |> fun s => (s).setCtx 0 (({ ({} : Ctx) with cfg := some {} })) |> fun s => (s).setCtx 0 ({ (s.ctx 0) with state := .receiving })), _,
    rfl, by decide +kernel⟩,
  ⟨0, 0, ({ wCk with voided := false }), (wC |> fun s => { s with ingress := { s.ingress with checks := [({ wCk with voided := false })] } } |> fun s => (s).setCtx 0 ({ (s.ctx 0) with state := .receiving })), _,
    rfl, by decide +kernel⟩,
  ⟨0, ([]), wC, 7,
    by decide +kernel⟩,
  ⟨0, 0, (wC |> fun s => (s).setCtx 0 ({ (s.ctx 0) with cfg := some (({} : StreamCfg)) }) |> fun s => (s).setCtx 0 ({ (s.ctx 0) with state := .receiving })), _, (({} : StreamCfg)),
    rfl, by decide +kernel⟩,
  ⟨0, 0, (wC |> fun s => (s).setCtx 0 ({ (s.ctx 0) with quarantine := true })), _,
    rfl, by decide +kernel⟩,
  ⟨0, 0, (wC |> fun s => (s).setCtx 0 ({ (s.ctx 0) with state := .awaitCfg }) |> fun s => (s).setCtx 0 ({ (s.ctx 0) with srcCtrl := true }) |> fun s => (s).setCtx 0 ({ (s.ctx 0) with lastRequestAt := some (0) })), _, 0,
    rfl, by decide +kernel⟩,
  ⟨0, 0, true, (wC |> fun s => (s).setCtx 0 ({ (s.ctx 0) with tcpUp := false }) |> fun s => (s).setCtx 0 ({ (s.ctx 0) with tcpTryAt := none }) |> fun s => (s).setCtx 0 ({ (s.ctx 0) with state := .receiving }) |> fun s => (s).setCtx 0 ({ (s.ctx 0) with key := { (s.ctx 0).key with tcp := true } })), _,
    rfl, by decide +kernel⟩,
  ⟨0, 0, ({ { wSegm with close := false } with reset := false }), (wC |> fun s => (s).setCtx 0 ({ (s.ctx 0) with tcpUp := true }) |> fun s => { s with ingress := { s.ingress with tcpBucket := 1000000000000 } } |> fun s => (s).setCtx 0 ({ (s.ctx 0) with state := .receiving }) |> fun s => (s).setCtx 0 ({ (s.ctx 0) with key := { (s.ctx 0).key with tcp := true } })), _,
    rfl, by decide +kernel⟩,
  ⟨0, 0, _, _, (wC |> fun s => (s).setCtx 0 ((({} : Ctx))) |> fun s => { s with ingress := { s.ingress with tcpBucket := 1000000000000 } } |> fun s => (s).setCtx 0 ({ (s.ctx 0) with state := .receiving }) |> fun s => (s).setCtx 0 ({ (s.ctx 0) with key := { (s.ctx 0).key with tcp := true } }) |> fun s => (s).setCtx 0 ({ (s.ctx 0) with tcpBuf := pz 16 [(0,2,0xAA01),(2,2,16)] })), _, _, _,
    rfl, rfl, rfl, rfl, by decide +kernel⟩,
  ⟨0, 0, (wC |> fun s => (s).setCtx 0 ({ (s.ctx 0) with state := .receiving }) |> fun s => (s).setCtx 0 ({ (s.ctx 0) with key := { (s.ctx 0).key with tcp := true } }) |> fun s => (s).setCtx 0 ({ (s.ctx 0) with tcpArr := [(0, 1)] })), _, _, 0, 0, ([]),
    rfl, rfl, by decide +kernel⟩⟩

/-- Operands and states that meet the hypotheses of `Obligations.ZoneCommandsTakeEffect`. -/
theorem test_ZoneCommandsTakeEffect_hypotheses :
  (∃ (dt : Ps) (q : Packet) (s : State) (u : State) (z : Nat) (x : Zone) (y : Zone), u = arrived q (s.elapse dt) ∧ x = u.zone z ∧ y = { x with rate := fld q.params 1 2, waitUs := fld q.params 3 4, slotClass := fld q.params 7 1, revLimit := fld q.params 8 1, revHold := fld q.params 9 2, trigger := (fld q.params 11 1).testBit 0, hold := (fld q.params 11 1).testBit 1 }
    ∧ ready (s.elapse dt) q 0x0401 = true ∧ q.params.length = 12 ∧ fld q.params 0 1 = z ∧ z ≤ 63 ∧ fld q.params 1 2 ∈ [10, 12, 15, 20, 25,
    30, 50, 60, 100, 120, 200, 240] ∧ 1000 ≤ fld q.params 3 4 ∧ fld q.params 3 4 ≤ 2000000 ∧ fld q.params 7 1 ≤ 2 ∧ fld q.params 8 1 ≤ 15
    ∧ fld q.params 9 2 ≤ 1000 ∧ fld q.params 11 1 ≤ 3 ∧ x.state = .stopped ∧ zoneFits u z y (memberCount x) = true ∧ queueSum (fun n => if
    n = z then y else u.zone n) u.kernel.flows ≤ 4096) ∧
  (∃ (dt : Ps) (q : Packet) (s : State) (u : State) (z : Nat) (x : Zone) (y : Zone), u = arrived q (s.elapse dt) ∧ x = u.zone z ∧ y = { x with rate := fld q.params 1 2, waitUs := fld q.params 3 4, slotClass := fld q.params 7 1, revLimit := fld q.params 8 1, revHold := fld q.params 9 2, trigger := (fld q.params 11 1).testBit 0, hold := (fld q.params 11 1).testBit 1 }
    ∧ ready (s.elapse dt) q 0x0401 = true ∧ q.params.length = 12 ∧ fld q.params 0 1 = z ∧ z ≤ 63 ∧ fld q.params 1 2 ∈ [10, 12, 15, 20, 25,
    30, 50, 60, 100, 120, 200, 240] ∧ 1000 ≤ fld q.params 3 4 ∧ fld q.params 3 4 ≤ 2000000 ∧ fld q.params 7 1 ≤ 2 ∧ fld q.params 8 1 ≤ 15
    ∧ fld q.params 9 2 ≤ 1000 ∧ fld q.params 11 1 ≤ 3 ∧ x.state = .free ∧ zoneFits u z y (memberCount x) = true ∧ queueSum (fun n => if n
    = z then y else u.zone n) u.kernel.flows ≤ 4096) ∧
  (∃ (dt : Ps) (q : Packet) (s : State) (u : State) (z : Nat), u = arrived q (s.elapse dt) ∧ ready (s.elapse dt) q 0x0401 = true ∧
    q.params.length = 12 ∧ fld q.params 0 1 = z ∧ z ≤ 63 ∧ fld q.params 1 2 ∈ [10, 12, 15, 20, 25, 30, 50, 60, 100, 120, 200, 240] ∧ 1000
    ≤ fld q.params 3 4 ∧ fld q.params 3 4 ≤ 2000000 ∧ fld q.params 7 1 ≤ 2 ∧ fld q.params 8 1 ≤ 15 ∧ fld q.params 9 2 ≤ 1000 ∧ fld
    q.params 11 1 ≤ 3 ∧ (u.zone z).state = .running) ∧
  (∃ (dt : Ps) (q : Packet) (s : State) (u : State) (z : Nat) (x : Zone), u = arrived q (s.elapse dt) ∧ x = u.zone z ∧ ready (s.elapse dt) q
    0x0402 = true ∧ q.params.length = 1 ∧ fld q.params 0 1 = z ∧ z ≤ 63 ∧ x.state = .stopped ∧ (∀ a ∈ x.areas, a.stagedHeld = false)) ∧
  (∃ (dt : Ps) (q : Packet) (s : State) (u : State) (z : Nat), u = arrived q (s.elapse dt) ∧ ready (s.elapse dt) q 0x0402 = true ∧
    q.params.length = 1 ∧ fld q.params 0 1 = z ∧ z ≤ 63 ∧ (u.zone z).state = .running) ∧
  (∃ (dt : Ps) (q : Packet) (s : State) (u : State) (z : Nat), u = arrived q (s.elapse dt) ∧ ready (s.elapse dt) q 0x0403 = true ∧
    q.params.length = 1 ∧ fld q.params 0 1 = z ∧ z ≤ 63 ∧ (u.zone z).state = .stopped ∧ u.aligning = false) ∧
  (∃ (dt : Ps) (q : Packet) (s : State) (u : State) (v : State) (z : Nat), u = arrived q (s.elapse dt) ∧ v = zoneBegin z (u.modZone z fun x
    => { x with state := .running }) ∧ ready (s.elapse dt) q 0x0403 = true ∧ q.params.length = 1 ∧ fld q.params 0 1 = z ∧ z ≤ 63 ∧ (u.zone
    z).state = .stopped ∧ u.aligning = true) ∧
  (∃ (dt : Ps) (q : Packet) (s : State) (u : State) (w : State) (z : Nat), u = arrived q (s.elapse dt) ∧ w = u.flushed ∧ ready (s.elapse dt)
    q 0x0404 = true ∧ q.params.length = 1 ∧ fld q.params 0 1 = z ∧ z ≤ 63 ∧ (w.zone z).state ≠ .free) ∧
  (∃ (p : List Byte) (v : State) (z : Nat), fld p 0 1 = z ∧ (v.zone z).state ≠ .running) ∧
  (∃ (p : List Byte) (v : State) (t : State) (z : Nat), t = (stopTicking true z v).modZone z (fun x => { x with state := .stopped }) ∧ fld p
    0 1 = z ∧ (v.zone z).state = .running) ∧
  (∃ (dt : Ps) (q : Packet) (s : State) (u : State) (z : Nat) (x : Zone) (r : StreamRef), u = arrived q (s.elapse dt) ∧ x = u.zone z ∧ r = { position := u.position, isLocal := false, index := fld q.params 3 2 }
    ∧ ready (s.elapse dt) q 0x0405 = true ∧ q.params.length = 5 ∧ fld q.params 0 1 = z ∧ z ≤ 63 ∧ x.state ≠ .free ∧ fld q.params 1 1 = 0 ∧
    fld q.params 2 1 = u.position ∧ u.position ≤ 3 ∧ fld q.params 3 2 ≤ 16383 ∧ belongs u r = false ∧ (u.ctx r.index).state ≠ .free ∧
    zoneFits u z x (memberCount x + 1) = true) ∧
  (∃ (dt : Ps) (q : Packet) (s : State) (u : State) (z : Nat) (k : Nat) (x : Zone) (r : StreamRef), u = arrived q (s.elapse dt) ∧ x = u.zone
    z ∧ r = { position := fld q.params 2 1, isLocal := false, index := fld q.params 3 2 } ∧ ready (s.elapse dt) q 0x0405 = true ∧
    q.params.length = 5 ∧ fld q.params 0 1 = z ∧ z ≤ 63 ∧ x.state ≠ .free ∧ x.ticking = false ∧ fld q.params 1 1 = 0 ∧ fld q.params 2 1 ≠
    u.position ∧ fld q.params 2 1 ≤ 3 ∧ fld q.params 3 2 ≤ 16383 ∧ u.linkTo r.position = some k ∧ (u.link k).state = .joined ∧ belongs u r
    = false ∧ zoneFits u z x (memberCount x + 1) = true) ∧
  (∃ (dt : Ps) (q : Packet) (s : State) (u : State) (z : Nat) (x : Zone) (r : StreamRef), u = arrived q (s.elapse dt) ∧ x = u.zone z ∧ r = { position := u.position, isLocal := true, index := fld q.params 3 2 }
    ∧ ready (s.elapse dt) q 0x0405 = true ∧ q.params.length = 5 ∧ fld q.params 0 1 = z ∧ z ≤ 63 ∧ x.state ≠ .free ∧ fld q.params 1 1 = 1 ∧
    fld q.params 2 1 = u.position ∧ u.position ≤ 3 ∧ fld q.params 3 2 ≤ 3 ∧ belongs u r = true) ∧
  (∃ (dt : Ps) (q : Packet) (s : State) (u : State) (z : Nat) (x : Zone) (r : StreamRef), u = arrived q (s.elapse dt) ∧ x = u.zone z ∧ r = { position := fld q.params 2 1, isLocal := false, index := fld q.params 3 2 }
    ∧ ready (s.elapse dt) q 0x0406 = true ∧ q.params.length = 5 ∧ fld q.params 0 1 = z ∧ z ≤ 63 ∧ x.state ≠ .free ∧ fld q.params 1 1 = 0 ∧
    fld q.params 2 1 ≤ 3 ∧ fld q.params 3 2 ≤ 16383 ∧ (∃ m ∈ x.members, m.ref = r ∧ m.leaveAt = none)) :=
  ⟨⟨0, (pk (pz 12 [(0,1,63), (1,2,240), (3,4,2000000), (7,1,2), (8,1,15), (9,2,1000), (11,1,3)])), (wC |> fun s => (s).setZone 63 ((({} : Zone))) |> fun s => (s).setZone 63 ({ (s.zone 63) with state := .stopped })), _, 63, _, _,
    rfl, rfl, rfl, by decide +kernel⟩,
  ⟨0, (pk (pz 12 [(0,1,63), (1,2,240), (3,4,2000000), (7,1,2), (8,1,15), (9,2,1000), (11,1,3)])), (wC |> fun s => (s).setZone 63 ((({} : Zone))) |> fun s => (s).setZone 63 ({ (s.zone 63) with state := .free })), _, 63, _, _,
    rfl, rfl, rfl, by decide +kernel⟩,
  ⟨0, (pk (pz 12 [(0,1,63), (1,2,240), (3,4,2000000), (7,1,2), (8,1,15), (9,2,1000), (11,1,3)])), (wC |> fun s => (s).setZone 63 ({ (s.zone 63) with state := .running })), _, 63,
    rfl, by decide +kernel⟩,
  ⟨0, (pk (pz 1 [(0,1,63)])), (wC |> fun s => (s).setZone 63 ((({} : Zone))) |> fun s => (s).setZone 63 ({ (s.zone 63) with state := .stopped })), _, 63, _,
    rfl, rfl, by decide +kernel⟩,
  ⟨0, (pk (pz 1 [(0,1,63)])), (wC |> fun s => (s).setZone 63 ({ (s.zone 63) with state := .running })), _, 63,
    rfl, by decide +kernel⟩,
  ⟨0, (pk (pz 1 [(0,1,63)])), (wC |> fun s => (s).setZone 63 ({ (s.zone 63) with state := .stopped })), _, 63,
    rfl, by decide +kernel⟩,
  ⟨0, (pk (pz 1 [(0,1,63)])), (wC |> fun s => (s).setZone 63 ({ (s.zone 63) with state := .stopped }) |> fun s => { s with sys := { s.sys with mode := .active } }), _, _, 63,
    rfl, rfl, by decide +kernel⟩,
  ⟨0, (pk (pz 1 [(0,1,63)])), (wC |> fun s => (s).setZone 63 ({ (s.zone 63) with state := .running })), _, _, 63,
    rfl, rfl, by decide +kernel⟩,
  ⟨(pz 1 []), wC, 0,
    by decide +kernel⟩,
  ⟨(pz 1 []), (wC |> fun s => (s).setZone 0 ({ (s.zone 0) with state := .running })), _, 0,
    rfl, by decide +kernel⟩,
  ⟨0, (pk (pz 5 [(0,1,63), (3,2,16383)])), (wC |> fun s => (s).setZone 63 ((({} : Zone))) |> fun s => (s).setZone 63 ({ (s.zone 63) with state := .running }) |> fun s => (s).setCtx 16383 ({ (s.ctx 16383) with state := .receiving })), _, 63, _, _,
    rfl, rfl, rfl, by decide +kernel⟩,
  ⟨0, (pk (pz 5 [(0,1,63), (2,1,3), (3,2,16383)])), (wC |> fun s => (s).setZone 63 ((({} : Zone))) |> fun s => (s).setZone 63 ({ (s.zone 63) with state := .running }) |> fun s => (s).setZone 63 ({ (s.zone 63) with ticking := false }) |> fun s => (s).setLink 2 ({ (s.link 2) with state := .joined })), _, 63, 2, _, _,
    rfl, rfl, rfl, by decide +kernel⟩,
  ⟨0, (pk (pz 5 [(0,1,63), (1,1,1), (3,2,3)])), (wC |> fun s => (s).setZone 63 ((({} : Zone))) |> fun s => (s).setZone 63 ({ (s.zone 63) with state := .running }) |> fun s => (s).setZone 63 ({ (s.zone 63) with members := [{ wMem with ref := { isLocal := true, index := 3 } }] })), _, 63, _, _,
    rfl, rfl, rfl, by decide +kernel⟩,
  ⟨0, (pk (pz 5 [(0,1,63), (2,1,3), (3,2,16383)])), (wC |> fun s => (s).setZone 63 ((({} : Zone))) |> fun s => (s).setZone 63 ({ (s.zone 63) with state := .running }) |> fun s => (s).setZone 63 ({ (s.zone 63) with members := [{ wMem with ref := { position := 3, index := 16383 } }] })), _, 63, _, _,
    rfl, rfl, rfl, by decide +kernel⟩⟩

/-- Operands and states that meet the hypotheses of `Obligations.InsertionChecksInOrder`. -/
theorem test_InsertionChecksInOrder_hypotheses :
  (∃ (dt : Ps) (s : State) (u : State) (due : Ps) (f : FrameRecord) (rest : List (Ps × FrameRecord)), u = insertionRead (s.elapse dt) ∧
    u.ingress.toInsert = (due, f) :: rest ∧ due ≤ u.now) ∧
  (∃ (dt : Ps) (s : State) (u : State), u = insertionRead (s.elapse dt) ∧ u.ingress.toInsert = []) ∧
  (∃ (dt : Ps) (s : State) (u : State) (due : Ps) (f : FrameRecord) (rest : List (Ps × FrameRecord)), u = insertionRead (s.elapse dt) ∧
    u.ingress.toInsert = (due, f) :: rest ∧ u.now < due) ∧
  (∃ (e : Ps) (f : FrameRecord) (u : State), f.isLocal = false ∧ f.position = u.position ∧ (u.ctx f.index).gen.toNat ≠ f.gen) ∧
  (∃ (f : FrameRecord) (u : State), f.isLocal = false ∧ f.position = u.position ∧ (u.ctx f.index).gen.toNat = f.gen) ∧
  (∃ (f : FrameRecord) (u : State), f.isLocal = true) ∧
  (∃ (f : FrameRecord) (u : State), f.isLocal = false ∧ f.position = u.position) ∧
  (∃ (e : Ps) (f : FrameRecord) (u : State), staleGen u f = false ∧ (recRef f).remote u = false ∧ recordZone u f = none) ∧
  (∃ (e : Ps) (f : FrameRecord) (u : State) (z : Nat), staleGen u f = false ∧ (recRef f).remote u = false ∧ recordZone u f = some z ∧
    (u.zone z).ticking = false) ∧
  (∃ (e : Ps) (f : FrameRecord) (u : State) (z : Nat), staleGen u f = false ∧ (recRef f).remote u = false ∧ recordZone u f = some z ∧
    (u.zone z).ticking = true ∧ excludedNow u (u.zone z) (recRef f) = true) ∧
  (∃ (e : Ps) (f : FrameRecord) (u : State) (z : Nat), staleGen u f = false ∧ (recRef f).remote u = false ∧ recordZone u f = some z ∧
    (u.zone z).ticking = true ∧ excludedNow u (u.zone z) (recRef f) = false ∧ matchInstant f = none) ∧
  (∃ (e : Ps) (f : FrameRecord) (u : State) (z : Nat) (sec : Nat) (j : Nat), staleGen u f = false ∧ (recRef f).remote u = false ∧ recordZone
    u f = some z ∧ (u.zone z).ticking = true ∧ excludedNow u (u.zone z) (recRef f) = false ∧ matchInstant f = some (sec, j) ∧ j * (u.zone
    z).rate % f.rate ≠ 0) ∧
  (∃ (e : Ps) (f : FrameRecord) (u : State) (z : Nat) (sec : Nat) (j : Nat) (n : Nat), staleGen u f = false ∧ (recRef f).remote u = false ∧
    recordZone u f = some z ∧ (u.zone z).ticking = true ∧ excludedNow u (u.zone z) (recRef f) = false ∧ matchInstant f = some (sec, j) ∧ j
    * (u.zone z).rate % f.rate = 0 ∧ tickNear (u.zone z) (sec * (u.zone z).rate + j * (u.zone z).rate / f.rate) = some n) ∧
  (∃ (e : Ps) (z : Nat) (n : Nat) (f : FrameRecord) (u : State) (a : Option Area), a = (u.area z n).filter (·.stored) ∧ (∀ b ∈ a, recRef f ∉
    b.indexBad) ∧ tickHolds (u.zone z) a n (recRef f) = false) ∧
  (∃ (x : Zone) (a : Option Area) (n : Nat) (r : StreamRef) (m : Member), (x.members.find? fun m => m.ref = r && m.joinAt.isSome) = some m ∧
    (memberAt m n = false ∨ n < x.firstTick)) ∧
  (∃ (x : Zone) (a : Area) (n : Nat) (r : StreamRef), a.staged = true ∧ (∀ y ∈ a.slots, y.ref ≠ r)) ∧
  (∃ (e : Ps) (z : Nat) (n : Nat) (f : FrameRecord) (u : State) (a : Option Area), (∀ b ∈ a, recRef f ∉ b.indexBad) ∧ a = (u.area z
    n).filter (·.stored) ∧ tickHolds (u.zone z) a n (recRef f) = true ∧ stampDiff u.stamp (tickInstant (u.zone z).rate n) < -(4 *
    (unitsPerMs : Int))) ∧
  (∃ (e : Ps) (z : Nat) (n : Nat) (f : FrameRecord) (u : State) (a : Option Area), (∀ b ∈ a, recRef f ∉ b.indexBad) ∧ a = (u.area z
    n).filter (·.stored) ∧ tickHolds (u.zone z) a n (recRef f) = true ∧ 2 * (unitsPerSec : Int) < stampDiff u.stamp (tickInstant (u.zone
    z).rate n)) ∧
  (∃ (e : Ps) (z : Nat) (n : Nat) (f : FrameRecord) (u : State) (a : Area), u.area z n = some a ∧ a.stored = true ∧ a.staged = true ∧ recRef
    f ∉ a.indexBad ∧ tickHolds (u.zone z) (some a) n (recRef f) = true ∧ -(4 * (unitsPerMs : Int)) ≤ stampDiff u.stamp (tickInstant
    (u.zone z).rate n) ∧ stampDiff u.stamp (tickInstant (u.zone z).rate n) ≤ 2 * (unitsPerSec : Int) ∧ (∃ y ∈ a.slots, y.ref = recRef f ∧
    (y.state = .present ∨ y.state = .late))) ∧
  (∃ (e : Ps) (z : Nat) (n : Nat) (f : FrameRecord) (u : State) (a : Area), u.area z n = some a ∧ a.stored = true ∧ a.staged = true ∧ recRef
    f ∉ a.indexBad ∧ tickHolds (u.zone z) (some a) n (recRef f) = true ∧ -(4 * (unitsPerMs : Int)) ≤ stampDiff u.stamp (tickInstant
    (u.zone z).rate n) ∧ stampDiff u.stamp (tickInstant (u.zone z).rate n) ≤ 2 * (unitsPerSec : Int) ∧ (∀ y ∈ a.slots, y.ref = recRef f →
    y.state ≠ .present ∧ y.state ≠ .late)) ∧
  (∃ (e : Ps) (z : Nat) (n : Nat) (f : FrameRecord) (u : State) (a : Area), u.area z n = some a ∧ a.stored = true ∧ (u.zone z).trigger =
    false ∧ z < 64) ∧
  (∃ (z : Nat) (a : Area) (f : FrameRecord) (u : State), (u.zone z).revLimit = 0) ∧
  (∃ (z : Nat) (a : Area) (f : FrameRecord) (u : State), 0 < (u.zone z).revLimit ∧ a.armed = false ∧ (u.zone z).revLimit ≤ knownRev u z a) ∧
  (∃ (z : Nat) (a : Area) (f : FrameRecord) (u : State), a.armed = false ∧ knownRev u z a < (u.zone z).revLimit ∧ u.align.revQueue.length <
    1024) :=
  ⟨⟨0, (wC |> fun s => { s with ingress := { s.ingress with toInsert := [((0), (wRec))] } }), _, 0, wRec, ([]),
    rfl, by decide +kernel⟩,
  ⟨0, (wC |> fun s => { s with ingress := { s.ingress with toInsert := [] } }), _,
    rfl, by decide +kernel⟩,
  ⟨0, (wC |> fun s => { s with ingress := { s.ingress with toInsert := [((10 ^ 16), (wRec))] } }), _, (10 ^ 16), wRec, ([]),
    rfl, by decide +kernel⟩,
  ⟨0, ({ { wRec with isLocal := false } with gen := 1 }), wC,
    by decide +kernel⟩,
  ⟨({ wRec with isLocal := false }), wC,
    by decide +kernel⟩,
  ⟨({ wRec with isLocal := true }), wC,
    by decide +kernel⟩,
  ⟨({ wRec with isLocal := false }), wC,
    by decide +kernel⟩,
  ⟨0, wRec, wC,
    by decide +kernel⟩,
  ⟨0, wRec, (wC |> fun s => (s).setZone 0 ({ (s.zone 0) with ticking := false }) |> fun s => (s).setCtx 0 ({ (s.ctx 0) with zone := some 0 })), 0,
    by decide +kernel⟩,
  ⟨0, wRec, (wC |> fun s => (s).setZone 0 ({ (s.zone 0) with ticking := true }) |> fun s => (s).setCtx 0 ({ (s.ctx 0) with zone := some 0 }) |> fun s => (s).setCtx 0 ({ (s.ctx 0) with cfg := some { numPhasors := 33 } }) |> fun s => (s).setCtx 0 ({ (s.ctx 0) with state := .receiving })), 0,
    by decide +kernel⟩,
  ⟨0, ({ wRec with tag := unitsPerSec / 100 }), (wC |> fun s => (s).setZone 0 ({ (s.zone 0) with ticking := true }) |> fun s => (s).setCtx 0 ({ (s.ctx 0) with zone := some 0 })), 0,
    by decide +kernel⟩,
  ⟨0, ({ wRec with tag := unitsPerSec / 50 }), (wC |> fun s => (s).setZone 0 ({ (s.zone 0) with ticking := true }) |> fun s => (s).setCtx 0 ({ (s.ctx 0) with zone := some 0 }) |> fun s => (s).setZone 0 ({ (s.zone 0) with rate := 30 })), 0, 0, 1,
    by decide +kernel⟩,
  ⟨0, wRec, (wC |> fun s => (s).setZone 0 ({ (s.zone 0) with ticking := true }) |> fun s => (s).setCtx 0 ({ (s.ctx 0) with zone := some 0 })), 0, 0, 0, 0,
    by decide +kernel⟩,
  ⟨0, 0, 0, wRec, wC, _,
    rfl, by decide +kernel⟩,
  ⟨({ members := [wMem], firstTick := 1 }), none, 0, (({} : StreamRef)), wMem,
    by decide +kernel⟩,
  ⟨(({} : Zone)), ({ wArea with staged := true }), 0, (({} : StreamRef)),
    by decide +kernel⟩,
  ⟨0, 0, 10000050, wRec, (wC |> fun s => (s).setZone 0 ({ (s.zone 0) with members := [wMem] }) |> fun s => (s).setZone 0 ({ (s.zone 0) with rate := 50 })), none,
    by simp, by decide +kernel⟩,
  ⟨0, 0, 0, wRec, (wC |> fun s => (s).setZone 0 ({ (s.zone 0) with members := [wMem] }) |> fun s => (s).setZone 0 ({ (s.zone 0) with rate := 50 })), none,
    by simp, by decide +kernel⟩,
  ⟨0, 0, 10000000, wRec, (wC |> fun s => (s).setZone 0 ({ (s.zone 0) with areas := [({ wArea with tick := 10000000, stored := true, staged := true, slots := [{ wSlot with state := .present }] })] }) |> fun s => (s).setZone 0 ({ (s.zone 0) with members := [wMem] }) |> fun s => (s).setZone 0 ({ (s.zone 0) with rate := 50 })), ({ wArea with tick := 10000000, stored := true, staged := true, slots := [{ wSlot with state := .present }] }),
    by decide +kernel⟩,
  ⟨0, 0, 10000000, wRec, (wC |> fun s => (s).setZone 0 ({ (s.zone 0) with areas := [({ wArea with tick := 10000000, stored := true, staged := true, slots := [wSlot] })] }) |> fun s => (s).setZone 0 ({ (s.zone 0) with members := [wMem] }) |> fun s => (s).setZone 0 ({ (s.zone 0) with rate := 50 })), ({ wArea with tick := 10000000, stored := true, staged := true, slots := [wSlot] }),
    by decide +kernel⟩,
  ⟨0, 63, 0, wRec, (wC |> fun s => (s).setZone 63 ({ (s.zone 63) with areas := [({ { wArea with tick := 0 } with stored := true })] }) |> fun s => (s).setZone 63 ({ (s.zone 63) with trigger := false })), ({ { wArea with tick := 0 } with stored := true }),
    by decide +kernel⟩,
  ⟨0, wArea, wRec, (wC |> fun s => (s).setZone 0 ({ (s.zone 0) with revLimit := 0 })),
    by decide +kernel⟩,
  ⟨0, ({ { wArea with armed := false } with topRev := 1 }), wRec, (wC |> fun s => (s).setZone 0 ({ (s.zone 0) with revLimit := 1 })),
    by decide +kernel⟩,
  ⟨0, ({ wArea with armed := false }), wRec, wC,
    by decide +kernel⟩⟩

/-- Operands and states that meet the hypotheses of `Obligations.TicksRunTheirCourse`. -/
theorem test_TicksRunTheirCourse_hypotheses :
  (∃ (dt : Ps) (z : Nat) (s : State) (u : State), u = s.elapse dt ∧ u.aligning = true ∧ (u.zone z).ticking = true ∧ stampGe u.stamp
    (stageInstant (u.zone z) (u.zone z).nextStage) = true) ∧
  (∃ (dt : Ps) (z : Nat) (s : State) (u : State), u = s.elapse dt ∧ (u.zone z).ticking = false) ∧
  (∃ (z : Nat) (u : State), z ≤ 63) ∧
  (∃ (dt : Ps) (z : Nat) (n : Nat) (s : State) (u : State), u = stagingRead z (s.elapse dt) ∧ stagingFirst u = some (z, n)) ∧
  (∃ (dt : Ps) (z : Nat) (s : State) (u : State) (a : Area), u = closeRead z (s.elapse dt) ∧ (u.zone z).ticking = true ∧ u.area z (u.zone
    z).nextClose = some a ∧ a.staged = true ∧ a.closed = false ∧ stampGe u.gridStamp a.closeAt = true) ∧
  (∃ (dt : Ps) (z : Nat) (s : State) (u : State) (a : Area), u = closeRead z (s.elapse dt) ∧ u.area z (u.zone z).nextClose = some a ∧
    stampGe u.gridStamp a.closeAt = false) ∧
  (∃ (dt : Ps) (z : Nat) (s : State) (u : State), u = s.elapse dt) ∧
  (∃ (dt : Ps) (z : Nat) (s : State) (u : State), u = s.elapse dt) ∧
  (∃ (dt : Ps) (z : Nat) (n : Nat) (s : State) (u : State) (a : Area), u = s.elapse dt ∧ u.area z n = some a ∧ 3200 * (unitsPerMs : Int) ≤
    stampDiff u.stamp a.instant) ∧
  (∃ (z : Nat) (n : Nat) (order : Stamp) (u : State) (a : Area), u.area z n = some a ∧ a.triggered = false) ∧
  (∃ (u : State) (r : AsmReq) (rest : List AsmReq), (∀ c d, u.align.revArea ≠ .assembling c d) ∧ u.align.asm = none ∧ u.align.asmQueue = r
    :: rest) ∧
  (∃ (u : State) (r : AsmRun), u.align.asm = some r) ∧
  (∃ (z : Nat) (n : Nat) (u : State) (a : Area), u.area z n = some a ∧ z ≤ 63 ∧ u.align.asm = none) ∧
  (∃ (dt : Ps) (s : State) (u : State) (r : AsmRun), u = assemblyWrite (s.elapse dt) ∧ u.align.asm = some r ∧ r.done ≤ u.now) ∧
  (∃ (r : AsmRun) (u : State), r.orphan = true ∧ r.c.zone ≤ 63) :=
  ⟨⟨0, 0, (wC |> fun s => { s with sys := { s.sys with mode := .active } } |> fun s => (s).setZone 0 ({ (s.zone 0) with ticking := true })), _,
    rfl, by decide +kernel⟩,
  ⟨0, 0, (wC |> fun s => (s).setZone 0 ({ (s.zone 0) with ticking := false })), _,
    rfl, by decide +kernel⟩,
  ⟨63, wC,
    by decide +kernel⟩,
  ⟨0, 0, 0, (wC |> fun s => { s with align := { s.align with stagings := [(0, 0)] } }), _,
    rfl, by decide +kernel⟩,
  ⟨0, 0, (wC |> fun s => (s).setZone 0 ({ (s.zone 0) with ticking := true }) |> fun s => (s).setZone 0 ({ (s.zone 0) with areas := [({ { wArea with staged := true } with closed := false })] })), _, ({ { wArea with staged := true } with closed := false }),
    rfl, by decide +kernel⟩,
  ⟨0, 0, (wC |> fun s => (s).setZone 0 ({ (s.zone 0) with areas := [({ wArea with closeAt := 300000 * unitsPerSec })] })), _, ({ wArea with closeAt := 300000 * unitsPerSec }),
    rfl, by decide +kernel⟩,
  ⟨0, 0, wC, _,
    rfl⟩,
  ⟨0, 0, wC, _,
    rfl⟩,
  ⟨0, 0, 0, (wC |> fun s => (s).setZone 0 ({ (s.zone 0) with areas := [({ wArea with tick := 0 })] })), _, ({ wArea with tick := 0 }),
    rfl, by decide +kernel⟩,
  ⟨0, 0, 0, (wC |> fun s => (s).setZone 0 ({ (s.zone 0) with areas := [({ { wArea with tick := 0 } with triggered := false })] })), ({ { wArea with tick := 0 } with triggered := false }),
    by decide +kernel⟩,
  ⟨(wC |> fun s => { s with align := { s.align with asmQueue := [wAq] } }), wAq, ([]),
    (by intro c d h; have h2 : RevArea.idle = .assembling c d := h; cases h2), by decide +kernel⟩,
  ⟨(wC |> fun s => { s with align := { s.align with asm := some (wAsm) } }), wAsm,
    by decide +kernel⟩,
  ⟨63, 0, (wC |> fun s => (s).setZone 63 ({ (s.zone 63) with areas := [({ wArea with tick := 0 })] }) |> fun s => { s with align := { s.align with asm := none } }), ({ wArea with tick := 0 }),
    by decide +kernel⟩,
  ⟨0, (wC |> fun s => { s with align := { s.align with asm := some (wAsm) } }), _, wAsm,
    rfl, by decide +kernel⟩,
  ⟨({ wAsm with orphan := true }), wC,
    by decide +kernel⟩⟩

/-- Operands and states that meet the hypotheses of `Obligations.RevisionsRunTheirCourse`. -/
theorem test_RevisionsRunTheirCourse_hypotheses :
  (∃ (dt : Ps) (z : Nat) (n : Nat) (s : State) (u : State) (a : Area) (edge : Ps), u = s.elapse dt ∧ edge = u.now / 20000 * 20000 ∧ u.area z
    n = some a ∧ a.deadlineDone = true) ∧
  (∃ (dt : Ps) (z : Nat) (n : Nat) (s : State) (u : State) (a : Area), u = s.elapse dt ∧ u.area z n = some a ∧ a.deadlineDone = false) ∧
  (∃ (dt : Ps) (z : Nat) (n : Nat) (s : State) (u : State), u = restagingRead (s.elapse dt) ∧ u.align.revArea = .restaging z n) ∧
  (∃ (dt : Ps) (z : Nat) (n : Nat) (s : State) (u : State), u = s.elapse dt ∧ u.align.revArea = .ready z n false ∧ u.align.asm = none ∧
    u.align.asmQueue = [] ∧ (∀ w ∈ u.egress.waits, w.zone = z → w.tick = n → waitPending u w = false)) ∧
  (∃ (z : Nat) (n : Nat) (u : State), u.align.revArea = .ready z n true ∧ u.align.asm = none ∧ u.align.asmQueue = []) ∧
  (∃ (z : Nat) (n : Nat) (u : State), u.align.revArea = .ready z n true ∧ (u.align.asm ≠ none ∨ u.align.asmQueue ≠ [])) ∧
  (∃ (z : Nat) (n : Nat) (u : State) (a : Area) (base : Sealed), u.area z n = some a ∧ a.sealed_.getLast? = some base ∧ z ≤ 63 ∧ knownRev u
    z a + 1 ≤ (u.zone z).revLimit) ∧
  (∃ (dt : Ps) (s : State) (u : State) (v : State) (c : Sealed) (due : Ps) (a : Area), u = s.elapse dt ∧ v = State.modZone { u with align := { u.align with revArea := .held c.zone c.tick c.rev } }
    c.zone (fun x => { x with cRev := inc x.cRev }) ∧ u.align.revArea = .assembling c due ∧ due ≤ u.now ∧ u.area c.zone c.tick = some a) ∧
  (∃ (dt : Ps) (z : Nat) (n : Nat) (s : State) (u : State) (a : Area), u = s.elapse dt ∧ u.area z n = some a ∧ pastStore u a = true ∧
    revWaiting u z n = true) :=
  ⟨⟨0, 0, 0, (wC |> fun s => (s).setZone 0 ({ (s.zone 0) with areas := [({ { wArea with tick := 0 } with deadlineDone := true })] })), _, ({ { wArea with tick := 0 } with deadlineDone := true }), _,
    rfl, rfl, by decide +kernel⟩,
  ⟨0, 0, 0, (wC |> fun s => (s).setZone 0 ({ (s.zone 0) with areas := [({ { wArea with tick := 0 } with deadlineDone := false })] })), _, ({ { wArea with tick := 0 } with deadlineDone := false }),
    rfl, by decide +kernel⟩,
  ⟨0, 0, 0, (wC |> fun s => { s with align := { s.align with revArea := (.restaging 0 0) } }), _,
    rfl, by decide +kernel⟩,
  ⟨0, 0, 0, (wC |> fun s => { s with align := { s.align with revArea := (.ready 0 0 false) } } |> fun s => { s with align := { s.align with asm := none } } |> fun s => { s with align := { s.align with asmQueue := [] } }), _,
    rfl, by decide +kernel⟩,
  ⟨0, 0, (wC |> fun s => { s with align := { s.align with revArea := (.ready 0 0 true) } } |> fun s => { s with align := { s.align with asm := none } } |> fun s => { s with align := { s.align with asmQueue := [] } }),
    by decide +kernel⟩,
  ⟨0, 0, (wC |> fun s => { s with align := { s.align with revArea := (.ready 0 0 true) } } |> fun s => { s with align := { s.align with asm := some wAsm } }),
    by decide +kernel⟩,
  ⟨63, 0, (wC |> fun s => (s).setZone 63 ({ (s.zone 63) with areas := [({ { wArea with tick := 0 } with sealed_ := [wSeal] })] }) |> fun s => (s).setZone 63 ({ (s.zone 63) with revLimit := 1 })), ({ { wArea with tick := 0 } with sealed_ := [wSeal] }), wSeal,
    by decide +kernel⟩,
  ⟨0, (wC |> fun s => { s with align := { s.align with revArea := (.assembling wSeal 0) } } |> fun s => { s with align := { s.align with revArea := .assembling wSeal 0 } } |> fun s => (s).setZone 0 ({ (s.zone 0) with areas := [wArea] })), _, _, wSeal, 0, wArea,
    rfl, rfl, by decide +kernel⟩,
  ⟨0, 0, 0, (wC |> fun s => (s).setZone 0 ({ (s.zone 0) with areas := [({ wArea with tick := 0 })] }) |> fun s => { s with align := { s.align with revQueue := [{ zone := 0, tick := 0, holdEnd := 0, queued := none }] } }), _, ({ wArea with tick := 0 }),
    rfl, by decide +kernel⟩⟩

/-- Operands and states that meet the hypotheses of `Obligations.FrontCommandsTakeEffect`. -/
theorem test_FrontCommandsTakeEffect_hypotheses :
  (∃ (dt : Ps) (q : Packet) (s : State) (u : State), u = arrived q (s.elapse dt) ∧ ready (s.elapse dt) q 0x0501 = true ∧ q.params.length = 3
    ∧ fld q.params 0 1 ≤ 3 ∧ fld q.params 1 1 ≤ 1 ∧ fld q.params 2 1 ≤ 1 ∧ (∀ l ∈ u.front.locals_, l.enabled = true → l.rate ∈ localRates
    (fld q.params 2 1 == 1))) ∧
  (∃ (p : Nat) (m : Bool) (f : Bool) (u : State), (u.front.preset ≠ p ∨ u.front.firMin ≠ m)) ∧
  (∃ (u : State) (p : Nat) (m : Bool), u.front.preset = p ∧ u.front.firMin = m) ∧
  (∃ (dt : Ps) (q : Packet) (s : State) (u : State), u = arrived q (s.elapse dt) ∧ ready (s.elapse dt) q 0x0502 = true ∧ q.params.length =
    24 ∧ (∀ i, i < 24 → fld q.params i 1 % 128 < 4)) ∧
  (∃ (i : Nat) (b : Nat) (u : State), i < 24 ∧ b < 128) ∧
  (∃ (i : Nat) (b : Nat) (u : State), i < 24 ∧ 128 ≤ b ∧ b < 256 ∧ (u.input i).enabled = false) ∧
  (∃ (i : Nat) (b : Nat) (u : State), i < 24 ∧ 128 ≤ b ∧ b < 256 ∧ (u.input i).enabled = true ∧ (u.input i).instant ≠ b % 4) ∧
  (∃ (i : Nat) (b : Nat) (u : State), i < 24 ∧ 128 ≤ b ∧ b < 256 ∧ (u.input i).enabled = true ∧ (u.input i).instant = b % 4) ∧
  (∃ (dt : Ps) (q : Packet) (s : State) (u : State) (i : Nat), u = arrived q (s.elapse dt) ∧ ready (s.elapse dt) q 0x0503 = true ∧
    q.params.length = 13 ∧ fld q.params 0 1 = i ∧ i ≤ 23 ∧ -32768 ≤ sfld q.params 9 4 ∧ sfld q.params 9 4 ≤ 32768) ∧
  (∃ (dt : Ps) (q : Packet) (s : State) (u : State) (c : Nat), u = arrived q (s.elapse dt) ∧ ready (s.elapse dt) q 0x0504 = true ∧
    q.params.length = 2 ∧ fld q.params 0 1 = c ∧ c ≤ 7 ∧ fld q.params 1 1 = 0) ∧
  (∃ (dt : Ps) (q : Packet) (s : State) (u : State) (c : Nat), u = arrived q (s.elapse dt) ∧ ready (s.elapse dt) q 0x0504 = true ∧
    q.params.length = 2 ∧ fld q.params 0 1 = c ∧ c ≤ 7 ∧ fld q.params 1 1 = 1) ∧
  (∃ (dt : Ps) (q : Packet) (s : State) (u : State) (c : Nat), u = arrived q (s.elapse dt) ∧ ready (s.elapse dt) q 0x0504 = true ∧
    q.params.length = 2 ∧ fld q.params 0 1 = c ∧ c ≤ 7 ∧ fld q.params 1 1 = 2) ∧
  (∃ (dt : Ps) (q : Packet) (s : State) (u : State) (c : Nat), u = arrived q (s.elapse dt) ∧ ready (s.elapse dt) q 0x0505 = true ∧
    q.params.length = 11 ∧ fld q.params 0 1 = c ∧ c ≤ 15 ∧ 1 ≤ fld q.params 1 1 ∧ fld q.params 1 1 ≤ 60 ∧ 1 ≤ fld q.params 2 1 ∧ fld
    q.params 2 1 ≤ 60 ∧ 100 ≤ fld q.params 3 4 ∧ fld q.params 3 4 ≤ 1000000 ∧ 1000 ≤ fld q.params 7 4 ∧ fld q.params 7 4 ≤ 10000000) ∧
  (∃ (dt : Ps) (q : Packet) (s : State) (u : State) (n : Nat) (g : LocalCfg), u = arrived q (s.elapse dt) ∧ (fld q.params 1 1 = 0 ∨ (fld
    q.params 1 1 = 1 ∧ budgetAdmits { u with front := { u.front with locals_ := vset u.front.locals_ n { u.localStream n with toLocalCfg := { (u.localStream n).toLocalCfg with enabled := false } } } }
    65536 g.rate (popcount 16 g.mask) false = true)) ∧ g = localOf q.params ∧ ready (s.elapse dt) q 0x0506 = true ∧ q.params.length = 28 ∧
    fld q.params 0 1 = n ∧ n ≤ 3 ∧ fld q.params 2 1 ≤ 1 ∧ fld q.params 3 2 ∈ localRates u.front.fnom50 ∧ fld q.params 7 1 ≤ 15 ∧ fld
    q.params 8 1 ≤ 16 ∧ (∀ i, i < fld q.params 8 1 → fld q.params (9 + i) 1 < 64) ∧ fld q.params 25 1 ≤ 1) ∧
  (∃ (dt : Ps) (q : Packet) (s : State) (u : State) (n : Nat) (g : LocalCfg), u = arrived q (s.elapse dt) ∧ g = localOf q.params ∧ ready
    (s.elapse dt) q 0x0506 = true ∧ q.params.length = 28 ∧ fld q.params 0 1 = n ∧ n ≤ 3 ∧ fld q.params 1 1 = 1 ∧ fld q.params 2 1 ≤ 1 ∧
    fld q.params 3 2 ∈ localRates u.front.fnom50 ∧ fld q.params 7 1 ≤ 15 ∧ fld q.params 8 1 ≤ 16 ∧ (∀ i, i < fld q.params 8 1 → fld
    q.params (9 + i) 1 < 64) ∧ fld q.params 25 1 ≤ 1 ∧ budgetAdmits { u with front := { u.front with locals_ := vset u.front.locals_ n { u.localStream n with toLocalCfg := { (u.localStream n).toLocalCfg with enabled := false } } } }
    65536 g.rate (popcount 16 g.mask) false = false) :=
  ⟨⟨0, (pk (pz 3 [(0,1,3), (1,1,1), (2,1,1)])), wC, _,
    rfl, by decide +kernel⟩,
  ⟨0, true, true, wC,
    by decide +kernel⟩,
  ⟨(wC |> fun s => { s with front := { s.front with preset := 0 } } |> fun s => { s with front := { s.front with firMin := (true) } }), 0, true,
    by decide +kernel⟩,
  ⟨0, (pk (pz 24 [])), wC, _,
    rfl, by decide +kernel⟩,
  ⟨23, 127, wC,
    by decide +kernel⟩,
  ⟨23, 255, (wC |> fun s => (s).setInput 23 ({ (s.input 23) with enabled := false })),
    by decide +kernel⟩,
  ⟨23, 255, (wC |> fun s => (s).setInput 23 ({ (s.input 23) with enabled := true })),
    by decide +kernel⟩,
  ⟨23, 128, (wC |> fun s => (s).setInput 23 ({ (s.input 23) with instant := 0 })),
    by decide +kernel⟩,
  ⟨0, (pk (pz 13 [(0,1,23), (9,4,32768)])), wC, _, 23,
    rfl, by decide +kernel⟩,
  ⟨0, (pk (pz 2 [(0,1,7)])), wC, _, 7,
    rfl, by decide +kernel⟩,
  ⟨0, (pk (pz 2 [(0,1,7), (1,1,1)])), wC, _, 7,
    rfl, by decide +kernel⟩,
  ⟨0, (pk (pz 2 [(0,1,7), (1,1,2)])), wC, _, 7,
    rfl, by decide +kernel⟩,
  ⟨0, (pk (pz 11 [(0,1,15), (1,1,60), (2,1,60), (3,4,1000000), (7,4,10000000)])), wC, _, 15,
    rfl, by decide +kernel⟩,
  ⟨0, (pk (pz 28 [(0,1,3),(2,1,1),(3,2,10),(7,1,15),(8,1,16),(25,1,1)])), wC, _, 3, (localOf (pz 28 [(0,1,3),(2,1,1),(3,2,10),(7,1,15),(8,1,16),(25,1,1)])),
    rfl, Or.inl (by decide +kernel), rfl, by decide +kernel⟩,
  ⟨0, (pk (pz 28 [(0,1,3),(1,1,1),(2,1,1),(3,2,10),(7,1,15),(8,1,16),(25,1,1)])), (wC |> fun s => (s).setCtx 0 ({ (s.ctx 0) with state := .receiving }) |> fun s => (s).setCtx 0 ({ (s.ctx 0) with cfg := some { dataRate := 2000000 } })), _, 3, _,
    rfl, rfl, by decide +kernel⟩⟩

/-- Operands and states that meet the hypotheses of `Obligations.FrontEventsTakeEffect`. -/
theorem test_FrontEventsTakeEffect_hypotheses :
  (∃ (dt : Ps) (s : State) (u : State) (i : Nat), u = s.elapse dt ∧ i < 24 ∧ ((u.input i).restartDue = true ∨ ((u.input i).presetDue = true
    ∧ ((u.input i).chain = .settling ∨ (u.input i).chain = .valid))) ∧ (u.input i).enabled = true ∧ inputClock u i = true) ∧
  (∃ (dt : Ps) (s : State) (u : State) (i : Nat), u = s.elapse dt ∧ i < 24 ∧ (u.input i).restartDue = false ∧ ((u.input i).chain = .lost ∨
    (u.input i).chain = .resuming) ∧ (u.input i).enabled = true ∧ inputClock u i = true) ∧
  (∃ (dt : Ps) (s : State) (u : State) (i : Nat), u = s.elapse dt ∧ i < 24 ∧ (u.input i).chain = .settling ∧ (u.input i).restartDue = false
    ∧ (u.input i).presetDue = false ∧ (u.input i).restartAt + settleCount (presetNow u) / 256 * modclk256 u ≤ u.now) ∧
  (∃ (dt : Ps) (s : State) (u : State) (i : Nat), u = s.elapse dt ∧ (u.input i).chain ≠ .settling) ∧
  (∃ (dt : Ps) (s : State) (u : State) (i : Nat), u = s.elapse dt ∧ ((u.input i).chain = .settling ∨ (u.input i).chain = .valid ∨ (u.input
    i).chain = .resuming)) ∧
  (∃ (dt : Ps) (s : State) (u : State) (i : Nat), u = s.elapse dt ∧ (u.input i).chain = .lost) ∧
  (∃ (dt : Ps) (s : State) (u : State) (i : Nat), u = s.elapse dt ∧ (u.input i).chain = .resuming ∧ (u.input i).resumeRun < 4) ∧
  (∃ (dt : Ps) (s : State) (u : State) (i : Nat), u = s.elapse dt ∧ (u.input i).chain = .resuming ∧ (u.input i).resumeRun = 3) ∧
  (∃ (dt : Ps) (s : State) (u : State) (i : Nat), u = s.elapse dt ∧ (u.input i).chain = .resuming ∧ (u.input i).resumeRun < 3) ∧
  (∃ (dt : Ps) (s : State) (u : State) (v : State) (c : Nat) (bits : List Bool), u = sampleRead c (s.elapse dt) ∧ v = stepInput c bits u ∧ c
    < 8 ∧ bits ≠ [] ∧ bitsFit u c bits = true) ∧
  (∃ (dt : Ps) (s : State) (u : State) (v : State) (c : Nat) (h : Nat) (bh : List Bool) (bl : List Bool) (r : RangeSt), u = sampleRead c
    (s.elapse dt) ∧ h = 8 + 2 * (c - 8) ∧ v = stepInput (h + 1) bl (stepInput h bh u) ∧ r = selectRange v (v.input h) (v.input (h + 1))
    (v.range (c - 8)) ∧ 8 ≤ c ∧ c < 16 ∧ bh ≠ [] ∧ bl ≠ [] ∧ bitsFit u h bh = true ∧ bitsFit u (h + 1) bl = true ∧ r.lo = false) ∧
  (∃ (dt : Ps) (s : State) (u : State) (v : State) (c : Nat) (h : Nat) (bh : List Bool) (bl : List Bool) (r : RangeSt), u = sampleRead c
    (s.elapse dt) ∧ v = stepInput (h + 1) bl (stepInput h bh u) ∧ r = selectRange v (v.input h) (v.input (h + 1)) (v.range (c - 8)) ∧ 8 ≤
    c ∧ c < 16 ∧ h = 8 + 2 * (c - 8) ∧ bh ≠ [] ∧ bl ≠ [] ∧ bitsFit u h bh = true ∧ bitsFit u (h + 1) bl = true ∧ r.lo = true) ∧
  (∃ (dt : Ps) (s : State) (u : State) (c : Nat), u = s.elapse dt ∧ c < 16 ∧ (u.chan c).zcLost = false ∧ detectorsRun u c = true ∧
    3000000000000 ≤ (u.now - (u.chan c).lastCrossPs) * u.front.fnom) ∧
  (∃ (dt : Ps) (s : State) (u : State) (n : Nat) (g : LocalCfg) (a : Stamp), u = s.elapse dt ∧ nextRecord u (u.localStream n) = some (g, a)
    ∧ n < 4 ∧ estimatorRuns u = true) ∧
  (∃ (dt : Ps) (s : State) (u : State) (n : Nat), u = s.elapse dt ∧ estimatorRuns u = false) :=
  ⟨⟨0, (wC |> fun s => (s).setInput 23 ({ (s.input 23) with restartDue := true }) |> fun s => (s).setInput 23 ({ (s.input 23) with enabled := true })), _, 23,
    rfl, by decide +kernel⟩,
  ⟨0, (wC |> fun s => (s).setInput 23 ({ (s.input 23) with restartDue := false }) |> fun s => (s).setInput 23 ({ (s.input 23) with chain := .lost }) |> fun s => (s).setInput 23 ({ (s.input 23) with enabled := true })), _, 23,
    rfl, by decide +kernel⟩,
  ⟨0, (wC |> fun s => (s).setInput 23 ({ (s.input 23) with chain := .settling }) |> fun s => (s).setInput 23 ({ (s.input 23) with restartDue := false }) |> fun s => (s).setInput 23 ({ (s.input 23) with presetDue := false })), _, 23,
    rfl, by decide +kernel⟩,
  ⟨0, wC, _, 0,
    rfl, by decide +kernel⟩,
  ⟨0, (wC |> fun s => (s).setInput 0 ({ (s.input 0) with chain := .settling })), _, 0,
    rfl, by decide +kernel⟩,
  ⟨0, (wC |> fun s => (s).setInput 0 ({ (s.input 0) with chain := .lost })), _, 0,
    rfl, by decide +kernel⟩,
  ⟨0, (wC |> fun s => (s).setInput 0 ({ (s.input 0) with chain := .resuming })), _, 0,
    rfl, by decide +kernel⟩,
  ⟨0, (wC |> fun s => (s).setInput 0 ({ (s.input 0) with chain := .resuming }) |> fun s => (s).setInput 0 ({ (s.input 0) with resumeRun := 3 })), _, 0,
    rfl, by decide +kernel⟩,
  ⟨0, (wC |> fun s => (s).setInput 0 ({ (s.input 0) with chain := .resuming })), _, 0,
    rfl, by decide +kernel⟩,
  ⟨0, (wC |> fun s => (s).setInput 0 ({ (s.input 0) with chain := .valid })), _, _, 0, (List.replicate (presetNow wC).d true),
    rfl, rfl, by decide +kernel⟩,
  ⟨0, (wC |> fun s => (s).setInput 22 ({ (s.input 22) with chain := .valid }) |> fun s => (s).setInput 23 ({ (s.input 23) with chain := .valid })), _, _, 15, _, (List.replicate (presetNow wC).d true), (List.replicate (presetNow wC).d true), _,
    rfl, rfl, rfl, rfl, by decide +kernel⟩,
  ⟨0, (wC |> fun s => (s).setInput 22 ({ (s.input 22) with chain := .valid }) |> fun s => (s).setInput 23 ({ (s.input 23) with chain := .valid }) |> fun s => (s).setRange 7 ({ (s.range 7) with mode := .forceLo })), _, _, 15, 22, (List.replicate (presetNow wC).d true), (List.replicate (presetNow wC).d true), _,
    rfl, rfl, rfl, by decide +kernel⟩,
  ⟨0, (wC |> fun s => (s).setChan 15 ({ (s.chan 15) with zcLost := false })), _, 15,
    rfl, by decide +kernel⟩,
  ⟨0, (wC |> fun s => { s with front := { s.front with locals_ := vset s.front.locals_ 3 ({ (s.localStream 3) with enabled := true }) } } |> fun s => { s with front := { s.front with locals_ := vset s.front.locals_ 3 ({ (s.localStream 3) with rate := 10 }) } }), _, 3, _, _,
    rfl, rfl, by decide +kernel⟩,
  ⟨0, (wC |> fun s => { s with sys := { s.sys with mode := .dormant } }), _, 0,
    rfl, by decide +kernel⟩⟩

/-- Operands and states that meet the hypotheses of `Obligations.EnergyCommandsTakeEffect`. -/
theorem test_EnergyCommandsTakeEffect_hypotheses :
  (∃ (dt : Ps) (q : Packet) (s : State) (u : State) (n : Nat), u = arrived q (s.elapse dt) ∧ ready (s.elapse dt) q 0x0601 = true ∧
    q.params.length = 11 ∧ fld q.params 0 1 = n ∧ n ≤ 1 ∧ (∀ k, k < 3 → ∀ x ∈ phaseChecks u q.params k, x.1 = true) ∧ fld q.params 7 4 ≤
    100000000) ∧
  (∃ (x : LineSt) (a : Nat → Option (Nat × Nat)) (ph : Nat → PhaseSt), ph = (fun k => if (vget {} x.phases k).chans = a k then vget {}
    x.phases k else { chans := a k, ah := (vget {} x.phases k).ah, unmetered := (vget {} x.phases k).unmetered }) ∧ x.assigned = some [a
    0, a 1, a 2]) ∧
  (∃ (n : Nat) (b : Bool) (u : State), n ≤ 1) ∧
  (∃ (dt : Ps) (q : Packet) (s : State) (u : State), u = arrived q (s.elapse dt) ∧ ready (s.elapse dt) q 0x0602 = true ∧ q.params.length = 1
    ∧ fld q.params 0 1 ∈ [0, 1, 5, 10, 15, 30, 60]) ∧
  (∃ (dt : Ps) (q : Packet) (s : State) (u : State) (n : Nat), u = arrived q (s.elapse dt) ∧ ready (s.elapse dt) q 0x0603 = true ∧
    q.params.length = 7 ∧ fld q.params 0 1 = n ∧ n ≤ 1 ∧ ufLimitOk (BitVec.ofNat 32 (fld q.params 1 4)) = true ∧ 10 ≤ fld q.params 5 2 ∧
    fld q.params 5 2 ≤ 60000) ∧
  (∃ (dt : Ps) (q : Packet) (s : State) (u : State) (n : Nat), u = arrived q (s.elapse dt) ∧ ready (s.elapse dt) q 0x0604 = true ∧
    q.params.length = 1 ∧ fld q.params 0 1 = n ∧ n ≤ 1) ∧
  (∃ (dt : Ps) (q : Packet) (s : State) (u : State) (n : Nat), u = arrived q (s.elapse dt) ∧ ready (s.elapse dt) q 0x0605 = true ∧
    q.params.length = 2 ∧ fld q.params 0 1 = n ∧ n ≤ 1 ∧ fld q.params 1 1 = 1) ∧
  (∃ (dt : Ps) (q : Packet) (s : State) (u : State) (n : Nat), u = arrived q (s.elapse dt) ∧ ready (s.elapse dt) q 0x0605 = true ∧
    q.params.length = 2 ∧ fld q.params 0 1 = n ∧ n ≤ 1 ∧ fld q.params 1 1 = 0) ∧
  (∃ (dt : Ps) (q : Packet) (s : State) (u : State) (x : Snapshot), u = arrived q (s.elapse dt) ∧ ready (s.elapse dt) q 0x0606 = true ∧
    q.params.length = 1 ∧ fld q.params 0 1 ≤ 15 ∧ u.energy.snaps[fld q.params 0 1]? = some x) ∧
  (∃ (dt : Ps) (q : Packet) (s : State) (u : State), u = arrived q (s.elapse dt) ∧ ready (s.elapse dt) q 0x0607 = true ∧ q.params = []) ∧
  (∃ (dt : Ps) (q : Packet) (s : State) (u : State) (n : Nat), u = arrived q (s.elapse dt) ∧ ready (s.elapse dt) q 0x0608 = true ∧
    q.params.length = 1 ∧ fld q.params 0 1 = n ∧ 1 ≤ n ∧ n ≤ 16 ∧ u.energy.events ≠ []) ∧
  (∃ (dt : Ps) (q : Packet) (s : State) (u : State) (n : Nat), u = arrived q (s.elapse dt) ∧ ready (s.elapse dt) q 0x060A = true ∧
    u.sys.mode = .commission ∧ q.params.length = 1 ∧ fld q.params 0 1 = n ∧ n ≤ 1) ∧
  (∃ (dt : Ps) (q : Packet) (s : State) (u : State), u = arrived q (s.elapse dt) ∧ ready (s.elapse dt) q 0x060A = true ∧ u.sys.mode ≠
    .commission) :=
  ⟨⟨0, (pk ([1, 7, 7, 255, 255, 255, 255, 5, 0xF5, 0xE1, 0])), wC, _, 1,
    rfl, by decide +kernel⟩,
  ⟨({ assigned := some [none, none, none], phases := #v[ { }, { }, { }] }), (fun _ => none), _,
    rfl, by decide +kernel⟩,
  ⟨1, true, wC,
    by decide +kernel⟩,
  ⟨0, (pk (pz 1 [(0,1,60)])), wC, _,
    rfl, by decide +kernel⟩,
  ⟨0, (pk (pz 7 [(0,1,1),(1,4,0x461C4000),(5,2,60000)])), wC, _, 1,
    rfl, by decide +kernel⟩,
  ⟨0, (pk (pz 1 [(0,1,1)])), wC, _, 1,
    rfl, by decide +kernel⟩,
  ⟨0, (pk (pz 2 [(0,1,1), (1,1,1)])), wC, _, 1,
    rfl, by decide +kernel⟩,
  ⟨0, (pk (pz 2 [(0,1,1)])), wC, _, 1,
    rfl, by decide +kernel⟩,
  ⟨0, (pk (pz 1 [(0,1,15)])), (wC |> fun s => { s with energy := { s.energy with snaps := List.replicate 16 wSnap } }), _, wSnap,
    rfl, by decide +kernel⟩,
  ⟨0, (pk ([])), wC, _,
    rfl, by decide +kernel⟩,
  ⟨0, (pk (pz 1 [(0,1,16)])), (wC |> fun s => { s with energy := { s.energy with events := [wEe] } }), _, 16,
    rfl, by decide +kernel⟩,
  ⟨0, (pk (pz 1 [(0,1,1)])), (wC |> fun s => { s with sys := { s.sys with mode := .commission } }), _, 1,
    rfl, by decide +kernel⟩,
  ⟨0, (pk ([])), (wC |> fun s => { s with sys := { s.sys with mode := .service } }), _,
    rfl, by decide +kernel⟩⟩

/-- Operands and states that meet the hypotheses of `Obligations.EnergyEventsTakeEffect`. -/
theorem test_EnergyEventsTakeEffect_hypotheses :
  (∃ (dt : Ps) (s : State) (u : State), u = s.elapse dt ∧ energyRun u = .stopped) ∧
  (∃ (dt : Ps) (s : State) (u : State) (v : State) (a : Stamp), u = s.elapse dt ∧ v = feedLines true u ∧ a = unitStamp v true ∧ energyRun u
    = .reserve) ∧
  (∃ (dt : Ps) (s : State) (u : State), u = s.elapse dt ∧ energyRun u = .accumulate) ∧
  (∃ (n : Nat) (u : State), (u.line n).off = false) ∧
  (∃ (dt : Ps) (s : State) (u : State), u = s.elapse dt) ∧
  (∃ (a : Stamp) (u : State) (j : Nat), u.energy.interval ≠ 0 ∧ energyRun u = .accumulate ∧ u.energy.lastBoundary = some j ∧ j < (boundaryOf
    u a).1) ∧
  (∃ (dt : Ps) (n : Nat) (k : Nat) (s : State) (u : State) (p : PhaseSt) (a : Stamp) (b : Ps), u = s.elapse dt ∧ p = vget {} (u.line
    n).phases k ∧ n < 2 ∧ k < 3 ∧ u.sys.phase = .reserve ∧ p.ufOn = false ∧ p.ufHigh = some (a, b) ∧ b + (u.line n).ufQual * 1000000000 ≤
    u.now) ∧
  (∃ (dt : Ps) (n : Nat) (k : Nat) (s : State) (u : State) (p : PhaseSt) (a : Stamp) (b : Ps), u = s.elapse dt ∧ p = vget {} (u.line
    n).phases k ∧ n < 2 ∧ k < 3 ∧ u.sys.phase = .reserve ∧ p.ufOn = true ∧ p.ufLow = some (a, b) ∧ b + (u.line n).ufQual * 1000000000 ≤
    u.now) ∧
  (∃ (e : EnergyEvt) (u : State), u.energy.events.length < 64) ∧
  (∃ (e : EnergyEvt) (u : State), (∀ (i : Nat) (x : EnergyEvt), u.energy.events[i]? = some x → x.seq = (u.energy.evtSeq + 65536 -
    u.energy.events.length + i) % 65536 ∧ stampDiff e.stamp x.stamp > 0) ∧ u.energy.events.length < 64 ∧ u.energy.evtSeq < 65536) ∧
  (∃ (e : EnergyEvt) (u : State), 64 ≤ u.energy.events.length) ∧
  (∃ (dt : Ps) (s : State) (u : State), u = s.elapse dt ∧ u.active = true ∧ u.energy.mirrorSentAt + 10000000000 ≤ u.now) ∧
  (∃ (dt : Ps) (s : State) (u : State) (b : List Byte), u = s.elapse dt ∧ energyRun u = .follow ∧ u.energy.mirrorIn = some b ∧
    u.pair.fullDue = false) ∧
  (∃ (dt : Ps) (s : State) (u : State), u = s.elapse dt ∧ u.energy.mirrorIn = none) :=
  ⟨⟨0, (wC |> fun s => { s with sys := { s.sys with mode := .boot } }), _,
    rfl, by decide +kernel⟩,
  ⟨0, (wC |> fun s => { s with sys := { s.sys with phase := .reserve } }), _, _, _,
    rfl, rfl, rfl, by decide +kernel⟩,
  ⟨0, wC, _,
    rfl, by decide +kernel⟩,
  ⟨0, (wC |> fun s => (s).setLine 0 ({ (s.line 0) with phases := Vector.replicate 3 { chans := some (0, 0) } })),
    by decide +kernel⟩,
  ⟨0, wC, _,
    rfl⟩,
  ⟨(200000 * unitsPerSec), (wC |> fun s => { s with energy := { s.energy with interval := 1 } } |> fun s => { s with energy := { s.energy with lastBoundary := some (0) } }), 0,
    by decide +kernel⟩,
  ⟨0, 1, 2, (wC |> fun s => { s with sys := { s.sys with phase := .reserve } } |> fun s => (s).setLine 1 ({ (s.line 1) with phases := Vector.replicate 3 { ufHigh := some (0, 0) } })), _, _, 0, 0,
    rfl, rfl, by decide +kernel⟩,
  ⟨0, 1, 2, (wC |> fun s => { s with sys := { s.sys with phase := .reserve } } |> fun s => (s).setLine 1 ({ (s.line 1) with phases := Vector.replicate 3 { ufOn := true, ufLow := some (0, 0) } })), _, _, 0, 0,
    rfl, rfl, by decide +kernel⟩,
  ⟨wEe, wC,
    by decide +kernel⟩,
  ⟨wEe, wC,
    (fun i x h => nomatch (show (none : Option EnergyEvt) = some x from h)), by decide +kernel⟩,
  ⟨wEe, (wC |> fun s => { s with energy := { s.energy with events := List.replicate 64 wEe } }),
    by decide +kernel⟩,
  ⟨0, (wC |> fun s => { s with sys := { s.sys with mode := .active } }), _,
    rfl, by decide +kernel⟩,
  ⟨0, (wC |> fun s => { s with energy := { s.energy with mirrorIn := some ([]) } } |> fun s => { s with pair := { s.pair with fullDue := false } } |> fun s => { s with sys := { s.sys with mode := .standby } }), _, ([]),
    rfl, by decide +kernel⟩,
  ⟨0, (wC |> fun s => { s with energy := { s.energy with mirrorIn := none } }), _,
    rfl, by decide +kernel⟩⟩

/-- Operands and states that meet the hypotheses of `Obligations.DetectionCommandsTakeEffect`. -/
theorem test_DetectionCommandsTakeEffect_hypotheses :
  (∃ (dt : Ps) (q : Packet) (s : State) (u : State) (v : Nat) (n : Nat), u = arrived q (s.elapse dt) ∧ ready (s.elapse dt) q 0x0701 = true ∧
    fld q.params 0 2 = v ∧ fld q.params 2 2 = n ∧ q.params.length = 4 + 5 * n ∧ v ≤ 16383 ∧ 1 ≤ n ∧ n ≤ 1024 ∧ v + n ≤ 16384 ∧ (∀ e ∈
    entries q.params 4 5 n, (∀ x ∈ refChecks q.params e.1, x.1 = true) ∧ fld q.params (e.1 + 4) 1 ≤ 31)) ∧
  (∃ (dt : Ps) (q : Packet) (s : State) (u : State) (v : Nat) (n : Nat), u = arrived q (s.elapse dt) ∧ ready (s.elapse dt) q 0x0702 = true ∧
    fld q.params 0 4 = v ∧ fld q.params 4 2 = n ∧ q.params.length = 6 + 17 * n ∧ v ≤ 65535 ∧ 1 ≤ n ∧ n ≤ 256 ∧ v + n ≤ 65536 ∧ (∀ y ∈
    (entries q.params 6 17 n).zipIdx, (∀ x ∈ edgeChecks y.1.1 y.1.2, x.1 = true) ∧ ∀ x ∈ edgeZoneChecks u (v + y.2) y.1.1 (edgeOf y.1.2),
    x.1 = true)) ∧
  (∃ (dt : Ps) (q : Packet) (s : State) (u : State) (z : Nat) (x : CohZone), u = arrived q (s.elapse dt) ∧ x = { u.coh z with enable := decide (fld q.params 1 1 = 1), firstVertex := fld q.params 2 2, vertexCount := fld q.params 4 2, firstEdge := fld q.params 6 4, edgeCount := fld q.params 10 4, reference := if fld q.params 14 2 = 0xFFFF then none else some (fld q.params 14 2), minIsland := fld q.params 16 2, unknownOpen := (fld q.params 18 1).testBit 0, flaggedDark := (fld q.params 18 1).testBit 1 }
    ∧ ready (s.elapse dt) q 0x0703 = true ∧ q.params.length = 19 ∧ fld q.params 0 1 = z ∧ (∀ c ∈ cmdCohSetZone.checks u q.params, c.1 =
    true)) ∧
  (∃ (u : State) (q : Packet), fld q.params 0 1 ≤ 63 ∧ fld q.params 1 1 ≤ 1 ∧ fld q.params 2 2 + fld q.params 4 2 ≤ 16384 ∧ fld q.params 2 2
    ≤ 16383 ∧ fld q.params 6 4 ≤ 65535 ∧ fld q.params 6 4 + fld q.params 10 4 ≤ 65536 ∧ fld q.params 14 2 = 0xFFFF ∧ 1 ≤ fld q.params 16 2
    ∧ fld q.params 16 2 ≤ 16384 ∧ fld q.params 18 1 ≤ 3 ∧ u.detect.coh = [] ∧ u.detect.edges = []) ∧
  (∃ (dt : Ps) (q : Packet) (s : State) (u : State) (r : CohResult), u = arrived q (s.elapse dt) ∧ ready (s.elapse dt) q 0x0704 = true ∧
    q.params.length = 6 ∧ fld q.params 0 1 ≤ 63 ∧ fld q.params 1 1 ≤ 1 ∧ fld q.params 4 2 ≤ 1024 ∧ (if fld q.params 1 1 = 0 then (u.coh
    (fld q.params 0 1)).latest else (u.coh (fld q.params 0 1)).atRaise) = some r ∧ fld q.params 2 2 + fld q.params 4 2 ≤ r.labels.length ∧
    badWords 3 (tableWords 7 (fld q.params 0 1) 1) u = []) ∧
  (∃ (dt : Ps) (q : Packet) (s : State) (u : State) (r : CohResult), u = arrived q (s.elapse dt) ∧ ready (s.elapse dt) q 0x0704 = true ∧
    q.params.length = 6 ∧ fld q.params 0 1 ≤ 63 ∧ fld q.params 1 1 ≤ 1 ∧ fld q.params 4 2 ≤ 1024 ∧ (if fld q.params 1 1 = 0 then (u.coh
    (fld q.params 0 1)).latest else (u.coh (fld q.params 0 1)).atRaise) = some r ∧ fld q.params 2 2 + fld q.params 4 2 ≤ r.labels.length ∧
    badWords 3 (tableWords 7 (fld q.params 0 1) 1) u ≠ []) ∧
  (∃ (dt : Ps) (q : Packet) (s : State) (u : State) (z : Nat) (bands : List Band) (o : OscZone), u = arrived q (s.elapse dt) ∧ bands =
    (List.range 6).map (fun i => { enable := decide (fld q.params (1 + 9 * i) 1 = 1), fLo := fldF32 q.params (2 + 9 * i), fHi := fldF32 q.params (6 + 9 * i) })
    ∧ o = { bands := some bands, wPk := some (fld q.params 55 2), wRms := some (fld q.params 57 2), attack := fld q.params 59 4, release := fld q.params 63 4, fillLimit := fld q.params 67 1 }
    ∧ ready (s.elapse dt) q 0x0705 = true ∧ q.params.length = 68 ∧ fld q.params 0 1 = z ∧ z ≤ 63 ∧ (∀ i, i < 6 → fld q.params (1 + 9 * i)
    1 ≤ 1 ∧ f32Lt (fldF32 q.params (2 + 9 * i)) (fldF32 q.params (6 + 9 * i)) = true) ∧ 1 ≤ fld q.params 55 2 ∧ fld q.params 55 2 ≤ 4096 ∧
    1 ≤ fld q.params 57 2 ∧ fld q.params 57 2 ≤ 4096 ∧ 10 ≤ fld q.params 59 4 ∧ fld q.params 59 4 ≤ 60000 ∧ 100 ≤ fld q.params 63 4 ∧ fld
    q.params 63 4 ≤ 600000 ∧ fld q.params 67 1 ≤ 15) ∧
  (∃ (dt : Ps) (q : Packet) (s : State) (u : State) (v : Nat) (n : Nat), u = arrived q (s.elapse dt) ∧ ready (s.elapse dt) q 0x0706 = true ∧
    fld q.params 0 2 = v ∧ fld q.params 2 2 = n ∧ q.params.length = 4 + 14 * n ∧ v ≤ 4095 ∧ 1 ≤ n ∧ n ≤ 256 ∧ v + n ≤ 4096 ∧ (∀ e ∈
    entries q.params 4 14 n, ∀ x ∈ signalChecks q.params e.1, x.1 = true)) ∧
  (∃ (dt : Ps) (q : Packet) (s : State) (u : State), u = arrived q (s.elapse dt) ∧ ready (s.elapse dt) q 0x0707 = true ∧ q.params.length =
    73 ∧ fld q.params 0 1 ≤ 15) ∧
  (∃ (dt : Ps) (q : Packet) (s : State) (u : State) (g : Signal) (rs : List (F64 × Bool)), u = arrived q (s.elapse dt) ∧ rs = (List.range
    18).map (fun i => bandResult (u.osc g.zone) (u.zone g.zone).rate g (i / 3) (i % 3)) ∧ ready (s.elapse dt) q 0x0708 = true ∧
    q.params.length = 2 ∧ fld q.params 0 2 ≤ 4095 ∧ tabGet? (fld q.params 0 2) u.detect.signals = some g ∧ badWords 3 (tableWords 2 (fld
    q.params 0 2) 1) u = []) ∧
  (∃ (dt : Ps) (q : Packet) (s : State) (u : State), u = arrived q (s.elapse dt) ∧ ready (s.elapse dt) q 0x0708 = true ∧ q.params.length = 2
    ∧ fld q.params 0 2 ≤ 4095 ∧ tabGet? (fld q.params 0 2) u.detect.signals = none) ∧
  (∃ (dt : Ps) (q : Packet) (s : State) (u : State), u = arrived q (s.elapse dt) ∧ ready (s.elapse dt) q 0x070E = true ∧ q.params = [0]) ∧
  (∃ (dt : Ps) (q : Packet) (s : State) (u : State), u = arrived q (s.elapse dt) ∧ ready (s.elapse dt) q 0x070E = true ∧ q.params = [1]) ∧
  (∃ (u : State) (x : Cnt), x ∈ detectCounters (clearDetect u)) :=
  ⟨⟨0, (pk (pz 9 [(0,2,16383),(2,2,1)])), wC, _, 16383, 1,
    rfl, by decide +kernel⟩,
  ⟨0, (pk (pz 23 [(4,2,1),(8,2,1),(14,4,1065353216)])), wC, _, 0, 1,
    rfl, by decide +kernel⟩,
  ⟨0, (pk (pz 19 [(14,2,0xFFFF),(16,2,1)])), wC, _, 0, _,
    rfl, rfl, by decide +kernel⟩,
  ⟨(wC |> fun s => { s with detect := { s.detect with coh := [] } } |> fun s => { s with detect := { s.detect with edges := [] } }), (pk (pz 19 [(0,1,63), (1,1,1), (2,2,16383), (6,4,65535), (14,2,65535), (16,2,16384), (18,1,3)])),
    by decide +kernel⟩,
  ⟨0, (pk (pz 6 [(0,1,63)])), (wC |> fun s => (s).setCoh 63 ({ (s.coh 63) with latest := some wCr })), _, wCr,
    rfl, by decide +kernel⟩,
  ⟨0, (pk (pz 6 [(0,1,63)])), (wC |> fun s => (s).setCoh 63 ({ (s.coh 63) with latest := some wCr }) |> fun s => { s with integ := { s.integ with injected := [{ cls := 3, index := 458815, addr := 0, flips := 3 }] } }), _, wCr,
    rfl, by decide +kernel⟩,
  ⟨0, (pk (pz 68 [(6,4,1065353216), (15,4,1065353216), (24,4,1065353216), (33,4,1065353216), (42,4,1065353216), (51,4,1065353216), (55,2,1),(57,2,1),(59,4,10),(63,4,100)])), wC, _, 0, _, _,
    rfl, rfl, rfl, by decide +kernel⟩,
  ⟨0, (pk (pz 18 [(0,2,4095),(2,2,1)])), wC, _, 4095, 1,
    rfl, by decide +kernel⟩,
  ⟨0, (pk (pz 73 [(0,1,15)])), wC, _,
    rfl, by decide +kernel⟩,
  ⟨0, (pk (pz 2 [(0,2,4095)])), (wC |> fun s => { s with detect := { s.detect with signals := [(4095, (wSig))] } }), _, wSig, _,
    rfl, rfl, by decide +kernel⟩,
  ⟨0, (pk (pz 2 [(0,2,4095)])), wC, _,
    rfl, by decide +kernel⟩,
  ⟨0, (pk ([0])), wC, _,
    rfl, by decide +kernel⟩,
  ⟨0, (pk ([1])), wC, _,
    rfl, by decide +kernel⟩,
  ⟨wC, 0,
    by decide +kernel⟩⟩

/-- Operands and states that meet the hypotheses of `Obligations.AlarmCommandsTakeEffect`. -/
theorem test_AlarmCommandsTakeEffect_hypotheses :
  (∃ (dt : Ps) (q : Packet) (s : State) (u : State), u = arrived q (s.elapse dt) ∧ ready (s.elapse dt) q 0x0709 = true ∧ q.params.length =
    26 ∧ fld q.params 0 2 ≤ 255 ∧ fld q.params 2 1 ≤ 1 ∧ 1 ≤ fld q.params 3 1 ∧ fld q.params 3 1 ≤ 4 ∧ fld q.params 4 1 ≤ 63 ∧ 1 ≤ fld
    q.params 5 2 ∧ fld q.params 5 2 ≤ 1000 ∧ 1 ≤ fld q.params 7 2 ∧ fld q.params 7 2 ≤ 10000 ∧ fld q.params 9 1 ≤ 1 ∧ fld q.params 13 1 ≤
    3 ∧ (∀ x ∈ sourceChecks (fld q.params 3 1) q.params 14, x.1 = true)) ∧
  (∃ (u : State) (p : List Byte) (d : AlmDef), fld p 2 1 = 1 ∧ (setAlarm u p).ald (fld p 0 2) = some d) ∧
  (∃ (u : State) (p : List Byte), fld p 2 1 = 1) ∧
  (∃ (u : State) (p : List Byte), fld p 2 1 ≠ 1) ∧
  (∃ (dt : Ps) (q : Packet) (s : State) (u : State), u = arrived q (s.elapse dt) ∧ ready (s.elapse dt) q 0x070A = true ∧ q.params.length =
    36 ∧ fld q.params 0 1 ≤ 7 ∧ fld q.params 1 1 ≤ 1 ∧ fld q.params 2 1 ≤ 3 ∧ (fld q.params 3 1 = 4 ∨ fld q.params 3 1 = 6) ∧ ipFieldOk
    (fld q.params 3 1 == 6) (slice q.params 10 16) = true ∧ fld q.params 30 2 ≤ 4094 ∧ fld q.params 32 1 ≤ 7 ∧ fld q.params 33 1 ≤ 63 ∧ 8
    ≤ fld q.params 34 2 ∧ fld q.params 34 2 ≤ 60000) ∧
  (∃ (dt : Ps) (q : Packet) (s : State) (u : State), u = arrived q (s.elapse dt) ∧ ready (s.elapse dt) q 0x070B = true ∧ q.params = [] ∧
    badWords 3 (tableWords 4 0 256) u = []) ∧
  (∃ (dt : Ps) (q : Packet) (s : State) (u : State) (n : Nat), u = arrived q (s.elapse dt) ∧ ready (s.elapse dt) q 0x070C = true ∧
    q.params.length = 2 ∧ fld q.params 0 2 = n ∧ n ≤ 255) ∧
  (∃ (dt : Ps) (q : Packet) (s : State) (u : State) (v : State) (k : Nat), u = arrived q (s.elapse dt) ∧ (k, v) = (u.detect.alarms.map
    (·.1)).foldl (fun (x : Nat × State) n => (x.1 + (almAck n x.2).1, (almAck n x.2).2)) (0, u) ∧ ready (s.elapse dt) q 0x070C = true ∧
    q.params.length = 2 ∧ fld q.params 0 2 = 0xFFFF) ∧
  (∃ (n : Nat) (u : State), (∀ d, u.ald n = some d → d.state ≠ .latched)) ∧
  (∃ (dt : Ps) (q : Packet) (s : State) (u : State) (n : Nat) (ms : Nat) (d : AlmDef), u = arrived q (s.elapse dt) ∧ ready (s.elapse dt) q
    0x070D = true ∧ q.params.length = 4 ∧ fld q.params 0 2 = n ∧ n ≤ 255 ∧ u.ald n = some d ∧ d.state ≠ .disabled ∧ fld q.params 2 2 = ms
    ∧ 1 ≤ ms ∧ ms ≤ 60000) ∧
  (∃ (dt : Ps) (q : Packet) (s : State) (u : State) (n : Nat) (d : AlmDef), u = arrived q (s.elapse dt) ∧ ready (s.elapse dt) q 0x070D =
    true ∧ q.params.length = 4 ∧ fld q.params 0 2 = n ∧ n ≤ 255 ∧ u.ald n = some d ∧ d.state ≠ .disabled ∧ fld q.params 2 2 = 0) ∧
  (∃ (dt : Ps) (q : Packet) (s : State) (u : State), u = arrived q (s.elapse dt) ∧ ready (s.elapse dt) q 0x070D = true ∧ q.params.length = 4
    ∧ (∀ d, u.ald (fld q.params 0 2) = some d → d.state = .disabled)) :=
  ⟨⟨0, (pk (pz 26 [(0,2,255), (2,1,1), (3,1,4), (4,1,63), (5,2,1000), (7,2,10000), (9,1,1), (13,1,3)])), wC, _,
    rfl, by decide +kernel⟩,
  ⟨wC, (pz 3 [(2,1,1)]), wAlm,
    by decide +kernel⟩,
  ⟨wC, (pz 3 [(2,1,1)]),
    by decide +kernel⟩,
  ⟨wC, ([]),
    by decide +kernel⟩,
  ⟨0, (pk (pz 36 [(0,1,7), (1,1,1), (2,1,3), (3,1,4), (30,2,4094), (32,1,7), (33,1,63), (34,2,60000)])), wC, _,
    rfl, by decide +kernel⟩,
  ⟨0, (pk ([])), wC, _,
    rfl, by decide +kernel⟩,
  ⟨0, (pk (pz 2 [(0,2,255)])), wC, _, 255,
    rfl, by decide +kernel⟩,
  ⟨0, (pk (pz 2 [(0,2,65535)])), wC, _, _, 0,
    rfl, rfl, by decide +kernel⟩,
  ⟨0, wC,
    by decide +kernel⟩,
  ⟨0, (pk (pz 4 [(0,2,255),(2,2,60000)])), (wC |> fun s => { s with detect := { s.detect with alarms := [(255, (wAlm))] } } |> fun s => { s with detect := { s.detect with alarms := [(255, wAlm)] } }), _, 255, 60000, wAlm,
    rfl, by decide +kernel⟩,
  ⟨0, (pk (pz 4 [(0,2,255)])), (wC |> fun s => { s with detect := { s.detect with alarms := [(255, (wAlm))] } } |> fun s => { s with detect := { s.detect with alarms := [(255, wAlm)] } }), _, 255, wAlm,
    rfl, by decide +kernel⟩,
  ⟨0, (pk (pz 4 [])), wC, _,
    rfl, by decide +kernel⟩⟩

/-- Operands and states that meet the hypotheses of `Obligations.AlarmQualificationMoves`. -/
theorem test_AlarmQualificationMoves_hypotheses :
  (∃ (d : AlmDef), d.state = .arming) ∧
  (∃ (d : AlmDef) (r : Raw), d.state = .idle ∧ r ≠ .yes) ∧
  (∃ (d : AlmDef), (d.state = .arming ∨ d.state = .idle) ∧ d.pickup = 1) ∧
  (∃ (d : AlmDef), (d.state = .arming ∨ d.state = .idle) ∧ d.pickup ≠ 1) ∧
  (∃ (d : AlmDef) (r : Raw), d.state = .pickup ∧ r ≠ .yes) ∧
  (∃ (d : AlmDef), d.state = .pickup ∧ d.count + 1 = d.pickup) ∧
  (∃ (d : AlmDef), d.state = .pickup ∧ d.count + 1 ≠ d.pickup) ∧
  (∃ (d : AlmDef) (r : Raw), d.state = .raised ∧ r ≠ .no) ∧
  (∃ (d : AlmDef), d.state = .raised ∧ d.dropout ≠ 1) ∧
  (∃ (d : AlmDef), d.state = .raised ∧ d.dropout = 1) ∧
  (∃ (d : AlmDef), d.state = .dropout ∧ d.count + 1 ≠ d.dropout) ∧
  (∃ (n : Nat) (u : State) (d : AlmDef), u.ald n = some d ∧ n ≤ 255 ∧ d.state = .latched) ∧
  (∃ (n : Nat) (u : State) (d : AlmDef), u.ald n = some d ∧ d.state ≠ .latched) ∧
  (∃ (d : AlmDef), d.state = .dropout) ∧
  (∃ (d : AlmDef), d.state = .dropout ∧ d.count + 1 = d.dropout) ∧
  (∃ (d : AlmDef) (r : Raw), d.state = .latched) ∧
  (∃ (n : Nat) (raw : Raw) (tick : Stamp) (seq : Nat) (detail : List Byte) (u : State) (d : AlmDef), u.ald n = some d ∧ n ≤ 255 ∧ d.state ≠
    .disabled ∧ u.aligning = true ∧ (u.zone d.zone).ticking = true) :=
  ⟨⟨({ wAlm with state := .arming }),
    by decide +kernel⟩,
  ⟨({ wAlm with state := .idle }), .no,
    by decide +kernel⟩,
  ⟨({ { wAlm with state := .arming } with pickup := 1 }),
    by decide +kernel⟩,
  ⟨({ wAlm with state := .arming }),
    by decide +kernel⟩,
  ⟨({ wAlm with state := .pickup }), .no,
    by decide +kernel⟩,
  ⟨({ { wAlm with state := .pickup } with pickup := 1 }),
    by decide +kernel⟩,
  ⟨({ wAlm with state := .pickup }),
    by decide +kernel⟩,
  ⟨({ wAlm with state := .raised }), .yes,
    by decide +kernel⟩,
  ⟨({ wAlm with state := .raised }),
    by decide +kernel⟩,
  ⟨({ { wAlm with state := .raised } with dropout := 1 }),
    by decide +kernel⟩,
  ⟨({ wAlm with state := .dropout }),
    by decide +kernel⟩,
  ⟨255, (wC |> fun s => { s with detect := { s.detect with alarms := [(255, ({ wAlm with state := .latched }))] } }), ({ wAlm with state := .latched }),
    by decide +kernel⟩,
  ⟨0, (wC |> fun s => { s with detect := { s.detect with alarms := [(0, (wAlm))] } }), wAlm,
    by decide +kernel⟩,
  ⟨({ wAlm with state := .dropout }),
    by decide +kernel⟩,
  ⟨({ { wAlm with state := .dropout } with dropout := 1 }),
    by decide +kernel⟩,
  ⟨({ wAlm with state := .latched }), .yes,
    by decide +kernel⟩,
  ⟨255, .yes, 0, 0, ([]), (wC |> fun s => { s with detect := { s.detect with alarms := [(255, (wAlm))] } } |> fun s => { s with sys := { s.sys with mode := .active } } |> fun s => (s).setZone 0 ({ (s.zone 0) with ticking := true })), wAlm,
    by decide +kernel⟩⟩

/-- Operands and states that meet the hypotheses of `Obligations.DetectionEventsTakeEffect`. -/
theorem test_DetectionEventsTakeEffect_hypotheses :
  (∃ (dt : Ps) (s : State) (u : State) (c : Sealed) (due : Ps), u = cohRead (s.elapse dt) ∧ u.align.coh = some (c, due) ∧ due ≤ u.now) ∧
  (∃ (dt : Ps) (s : State) (u : State) (c : Sealed) (due : Ps), u = cohRead (s.elapse dt) ∧ u.align.coh = some (c, due) ∧ u.now < due) ∧
  (∃ (c : Sealed) (u : State), (∀ x ∈ u.detect.alarms, x.2.zone ≠ c.zone) ∧ u.align.cohQueue = [] ∧ c.zone ≤ 63) ∧
  (∃ (dt : Ps) (s : State) (u : State) (c : Sealed) (due : Ps), u = bandRead (s.elapse dt) ∧ u.align.band = some (c, due) ∧ due ≤ u.now) ∧
  (∃ (c : Sealed) (u : State) (n : Nat) (g : Signal), (∀ x ∈ u.detect.alarms, x.2.zone ≠ c.zone) ∧ tabGet? n u.detect.signals = some g ∧
    g.zone = c.zone) ∧
  (∃ (dt : Ps) (s : State) (u : State) (due : List (Ps × BitVec 16)) (x : Ps × BitVec 16), u = s.elapse dt ∧ due = u.detect.pinQueue.filter
    (fun x => decide (x.1 ≤ u.now)) ∧ due.getLast? = some x) ∧
  (∃ (dt : Ps) (s : State) (u : State) (n : Nat) (d : AlmDef) (e : AlmEvent) (b : Ps), u = s.elapse dt ∧ u.ald n = some d ∧ d.event = some
    (e, b) ∧ alarmsOwned u b = false) ∧
  (∃ (dt : Ps) (s : State) (u : State) (v : State) (n : Nat) (d : AlmDef) (e : AlmEvent) (b : Ps), u = s.elapse dt ∧ v = u.setAld n { d with nextRepeat := d.nextRepeat.map fun (x : Nat × Nat × Ps) => if x.2.2 ≤ u.now then (x.1, x.2.1 + 1, x.2.2 + min (2 ^ x.2.1) (vget {} u.detect.dests x.1).repeatMax * 1000000000) else x }
    ∧ u.ald n = some d ∧ d.event = some (e, b) ∧ alarmsOwned u b = true) ∧
  (∃ (dt : Ps) (s : State) (u : State) (n : Nat), u = s.elapse dt ∧ ((u.ald n).bind fun d => d.event) = none) ∧
  (∃ (dt : Ps) (s : State) (u : State) (n : Nat) (d : AlmDef) (a : Ps), u = s.elapse dt ∧ u.ald n = some d ∧ d.testEnd = some a ∧ a ≤ u.now) ∧
  (∃ (n : Nat) (u : State) (d : AlmDef), u.ald n = some d ∧ d.testEnd.isSome = true ∧ d.state.isRaised = true) :=
  ⟨⟨0, (wC |> fun s => { s with align := { s.align with coh := some ((wSeal), (0)) } }), _, wSeal, 0,
    rfl, by decide +kernel⟩,
  ⟨0, (wC |> fun s => { s with align := { s.align with coh := some ((wSeal), (10 ^ 16)) } }), _, wSeal, (10 ^ 16),
    rfl, by decide +kernel⟩,
  ⟨wSeal, (wC |> fun s => { s with align := { s.align with cohQueue := [] } }),
    by decide +kernel⟩,
  ⟨0, (wC |> fun s => { s with align := { s.align with band := some ((wSeal), (0)) } }), _, wSeal, 0,
    rfl, by decide +kernel⟩,
  ⟨wSeal, (wC |> fun s => { s with detect := { s.detect with signals := [(0, ({ wSig with zone := ((wSeal)).zone }))] } }), 0, ({ wSig with zone := ((wSeal)).zone }),
    by decide +kernel⟩,
  ⟨0, (wC |> fun s => { s with detect := { s.detect with pinQueue := [(0, 1)] } }), _, _, ((0, 1)),
    rfl, rfl, by decide +kernel⟩,
  ⟨0, (wC |> fun s => { s with detect := { s.detect with alarms := [(0, ({ wAlm with event := some ((wAe), (0)) }))] } }), _, 0, ({ wAlm with event := some ((wAe), (0)) }), wAe, 0,
    rfl, by decide +kernel⟩,
  ⟨0, (wC |> fun s => { s with detect := { s.detect with alarms := [(0, ({ wAlm with event := some (wAe, 0) }))] } } |> fun s => { s with sys := { s.sys with mode := .active } } |> fun s => { s with detect := { s.detect with alarms := [(0, { wAlm with event := some (wAe, 0) })] } }), _, _, 0, ({ wAlm with event := some (wAe, 0) }), wAe, 0,
    rfl, rfl, by decide +kernel⟩,
  ⟨0, wC, _, 0,
    rfl, by decide +kernel⟩,
  ⟨0, (wC |> fun s => { s with detect := { s.detect with alarms := [(0, ({ wAlm with testEnd := some (0) }))] } }), _, 0, ({ wAlm with testEnd := some (0) }), 0,
    rfl, by decide +kernel⟩,
  ⟨0, (wC |> fun s => { s with detect := { s.detect with alarms := [(0, ({ { wAlm with testEnd := some 0 } with state := .raised }))] } }), ({ { wAlm with testEnd := some 0 } with state := .raised }),
    by decide +kernel⟩⟩

/-- Operands and states that meet the hypotheses of `Obligations.KernelCommandsTakeEffect`. -/
theorem test_KernelCommandsTakeEffect_hypotheses :
  (∃ (dt : Ps) (q : Packet) (s : State) (u : State), u = arrived q (s.elapse dt) ∧ ready (s.elapse dt) q 0x0710 = true ∧ q.params = []) ∧
  (∃ (dt : Ps) (q : Packet) (s : State) (u : State) (n : Nat), u = arrived q (s.elapse dt) ∧ ready (s.elapse dt) q 0x0711 = true ∧ 8 ≤
    q.params.length ∧ q.params.length = 8 + fld q.params 5 2 ∧ fld q.params 0 1 = n ∧ fld q.params 1 4 + fld q.params 5 2 ≤ 4194304 ∧ 1 ≤
    fld q.params 5 2 ∧ fld q.params 5 2 ≤ 1024 ∧ fld q.params 7 1 = 0) ∧
  (∃ (dt : Ps) (q : Packet) (s : State) (u : State) (v : State) (n : Nat) (bytes : List Byte) (t : ParamTable), u = arrived q (s.elapse dt)
    ∧ v = dramWritten (u.region 0 + Config.tableOffset n % 268435456) bytes.length { u with kernel := { u.kernel with tables := tabSet n t u.kernel.tables, chunks := tabErase n u.kernel.chunks, flows := tabMap (fun _ (f : Flow) => if f.table = n then { f with stateReset := true } else f) u.kernel.flows }, host := { u.host with settings := recordSetting { key := (0x0711, [n]), opcode := 0x0711, params := be 1 n ++ bytes } u.host.settings } }
    ∧ ready (s.elapse dt) q 0x0711 = true ∧ 8 ≤ q.params.length ∧ q.params.length = 8 + fld q.params 5 2 ∧ fld q.params 0 1 = n ∧ fld
    q.params 1 4 + fld q.params 5 2 ≤ 4194304 ∧ 1 ≤ fld q.params 5 2 ∧ fld q.params 5 2 ≤ 1024 ∧ fld q.params 7 1 = 1 ∧ bytes = putChunk
    (tabGet [] n u.kernel.chunks) (fld q.params 1 4) (q.params.drop 8) ∧ parseTable bytes = some t ∧ tableOk t = true ∧ (∀ x, x ∈
    u.kernel.flows → x.2.enable = true → x.2.table = n → x.2.kernel = t.kernel) ∧ (tabSet n t u.kernel.tables).foldl (fun m x => m +
    x.2.bytes.length) 0 ≤ 268435456 ∧ engineFits u.zone u.kernel.flows (tabSet n t u.kernel.tables) = true) ∧
  (∃ (dt : Ps) (q : Packet) (s : State) (u : State) (bytes : List Byte), u = arrived q (s.elapse dt) ∧ bytes = putChunk (tabGet [] (fld
    q.params 0 1) u.kernel.chunks) (fld q.params 1 4) (q.params.drop 8) ∧ ready (s.elapse dt) q 0x0711 = true ∧ 8 ≤ q.params.length ∧
    q.params.length = 8 + fld q.params 5 2 ∧ fld q.params 1 4 + fld q.params 5 2 ≤ 4194304 ∧ 1 ≤ fld q.params 5 2 ∧ fld q.params 5 2 ≤
    1024 ∧ fld q.params 7 1 = 1 ∧ (parseTable bytes = none ∨ ∃ t, parseTable bytes = some t ∧ tableOk t = false)) ∧
  (∃ (dt : Ps) (q : Packet) (s : State) (u : State) (n : Nat) (f : Flow) (t : ParamTable) (x : KernSpec), u = arrived q (s.elapse dt) ∧
    kernSpec t.kernel = some x ∧ f = { u.flow n with enable := decide (fld q.params 1 1 = 1), zone := fld q.params 2 1, kernel := t.kernel, table := fld q.params 4 1, parts := fld q.params 5 1, after := if fld q.params 6 1 = 0xFF then none else some (fld q.params 6 1), stateReset := true }
    ∧ ready (s.elapse dt) q 0x0712 = true ∧ q.params.length = 7 ∧ fld q.params 0 1 = n ∧ fld q.params 1 1 ≤ 1 ∧ fld q.params 2 1 ≤ 63 ∧ 1
    ≤ fld q.params 3 1 ∧ fld q.params 3 1 ≤ 24 ∧ tabGet? (fld q.params 4 1) u.kernel.tables = some t ∧ t.kernel = fld q.params 3 1 ∧ 1 ≤
    fld q.params 5 1 ∧ fld q.params 5 1 ≤ x.maxParts ∧ (fld q.params 6 1 = 0xFF ∨ (fld q.params 6 1 < n ∧ ∃ a, tabGet? (fld q.params 6 1)
    u.kernel.flows = some a ∧ a.zone = fld q.params 2 1)) ∧ queueSum u.zone (tabSet n f u.kernel.flows) ≤ 4096 ∧ engineFits u.zone (tabSet
    n f u.kernel.flows) u.kernel.tables = true) ∧
  (∃ (dt : Ps) (q : Packet) (s : State) (u : State), u = arrived q (s.elapse dt) ∧ ready (s.elapse dt) q 0x0712 = true ∧ q.params.length = 7
    ∧ fld q.params 1 1 ≤ 1 ∧ fld q.params 2 1 ≤ 63 ∧ 1 ≤ fld q.params 3 1 ∧ fld q.params 3 1 ≤ 24 ∧ (∀ t, tabGet? (fld q.params 4 1)
    u.kernel.tables = some t → t.kernel ≠ fld q.params 3 1)) ∧
  (∃ (dt : Ps) (q : Packet) (s : State) (u : State), u = arrived q (s.elapse dt) ∧ ready (s.elapse dt) q 0x0712 = true ∧ q.params.length = 7
    ∧ (∀ x, x ∈ flowChecks u q.params → x.1 = true) ∧ 4096 < queueSum u.zone (tabSet (fld q.params 0 1) { flowOf q.params with ring := (u.flow (fld q.params 0 1)).ring, state := (u.flow (fld q.params 0 1)).state, copy := (u.flow (fld q.params 0 1)).copy }
    u.kernel.flows)) ∧
  (∃ (dt : Ps) (q : Packet) (s : State) (u : State) (f : Flow) (t : ParamTable), u = arrived q (s.elapse dt) ∧ f = u.flow (fld q.params 0 1)
    ∧ ready (s.elapse dt) q 0x0713 = true ∧ q.params.length = 1 ∧ tabGet? f.table u.kernel.tables = some t ∧ t.kernel = f.kernel ∧
    badWords 3 (tableWords 5 (fld q.params 0 1) 1) u = []) ∧
  (∃ (dt : Ps) (q : Packet) (s : State) (u : State) (f : Flow), u = arrived q (s.elapse dt) ∧ f = u.flow (fld q.params 0 1) ∧ ready
    (s.elapse dt) q 0x0713 = true ∧ q.params.length = 1 ∧ (∀ t, tabGet? f.table u.kernel.tables = some t → t.kernel ≠ f.kernel) ∧ badWords
    3 (tableWords 5 (fld q.params 0 1) 1) u = []) ∧
  (∃ (dt : Ps) (q : Packet) (s : State) (u : State) (r : ResultSlot), u = arrived q (s.elapse dt) ∧ ready (s.elapse dt) q 0x0714 = true ∧
    q.params.length = 11 ∧ tabGet? (fld q.params 1 4 % 4) (u.flow (fld q.params 0 1)).ring = some r ∧ r.seq = fld q.params 1 4 ∧ fld
    q.params 9 2 ≤ 1024 ∧ fld q.params 5 4 + fld q.params 9 2 ≤ r.body.length) ∧
  (∃ (dt : Ps) (q : Packet) (s : State) (u : State), u = arrived q (s.elapse dt) ∧ ready (s.elapse dt) q 0x0714 = true ∧ q.params.length =
    11 ∧ fld q.params 9 2 ≤ 1024 ∧ (∀ r, tabGet? (fld q.params 1 4 % 4) (u.flow (fld q.params 0 1)).ring = some r → r.seq ≠ fld q.params 1
    4)) ∧
  (∃ (dt : Ps) (q : Packet) (s : State) (u : State), u = arrived q (s.elapse dt) ∧ ready (s.elapse dt) q 0x0715 = true ∧ q.params = []) ∧
  (∃ (dt : Ps) (q : Packet) (s : State) (u : State) (k : KernelSt), u = arrived q (s.elapse dt) ∧ k = u.kernel ∧ ready (s.elapse dt) q
    0x0716 = true ∧ q.params = [0]) ∧
  (∃ (dt : Ps) (q : Packet) (s : State) (u : State) (k : KernelSt), u = arrived q (s.elapse dt) ∧ k = u.kernel ∧ ready (s.elapse dt) q
    0x0716 = true ∧ q.params = [1]) :=
  ⟨⟨0, (pk ([])), wC, _,
    rfl, by decide +kernel⟩,
  ⟨0, (pk (pz 9 [(5,2,1)])), wC, _, 0,
    rfl, by decide +kernel⟩,
  ⟨0, (pk (pz 24 [(5,2,16),(7,1,1),(8,1,17)])), wC, _, _, 0, (pz 16 [(0,1,17)]), ((parseTable (pz 16 [(0,1,17)])).getD wTab),
    rfl, rfl, by decide +kernel⟩,
  ⟨0, (pk (pz 9 [(5,2,1),(7,1,1)])), wC, _, _,
    rfl, rfl, by decide +kernel⟩,
  ⟨0, (pk (pz 7 [(1,1,1),(3,1,17),(5,1,1),(6,1,255)])), (wC |> fun s => { s with kernel := { s.kernel with tables := [(0, { wTab with kernel := 17 })] } }), _, 0, _, ({ wTab with kernel := 17 }), _,
    rfl, rfl, rfl, by decide +kernel⟩,
  ⟨0, (pk (pz 7 [(1,1,1), (2,1,63), (3,1,24)])), wC, _,
    rfl, by decide +kernel⟩,
  ⟨0, (pk (pz 7 [(1,1,1),(3,1,17),(5,1,1),(6,1,255)])), (wC |> fun s => { s with kernel := { s.kernel with tables := [(0, { wTab with kernel := 17 })] } } |> fun s => { s with kernel := { s.kernel with flows := (List.range 22).map fun i => (i + 1, { enable := true, parts := 100 }) } }), _,
    rfl, by decide +kernel⟩,
  ⟨0, (pk (pz 1 [])), (wC |> fun s => { s with kernel := { s.kernel with tables := [(0, wTab)] } }), _, _, wTab,
    rfl, rfl, by decide +kernel⟩,
  ⟨0, (pk (pz 1 [])), (wC |> fun s => { s with kernel := { s.kernel with flows := tabSet 0 ((({} : Flow))) s.kernel.flows } }), _, _,
    rfl, rfl, by decide +kernel⟩,
  ⟨0, (pk (pz 11 [])), (wC |> fun s => { s with kernel := { s.kernel with flows := [(0, { ring := [(0, wRs)] })] } }), _, wRs,
    rfl, by decide +kernel⟩,
  ⟨0, (pk (pz 11 [(9,2,1024)])), wC, _,
    rfl, by decide +kernel⟩,
  ⟨0, (pk ([])), wC, _,
    rfl, by decide +kernel⟩,
  ⟨0, (pk ([0])), (wC |> fun s => { s with kernel := (({} : KernelSt)) }), _, _,
    rfl, rfl, by decide +kernel⟩,
  ⟨0, (pk ([1])), (wC |> fun s => { s with kernel := (({} : KernelSt)) }), _, _,
    rfl, rfl, by decide +kernel⟩⟩

/-- Operands and states that meet the hypotheses of `Obligations.ItemsAndBudgetFollowTheirRules`. -/
theorem test_ItemsAndBudgetFollowTheirRules_hypotheses :
  (∃ (dt : Ps) (s : State) (u : State) (e : Nat) (n : Nat) (i : Item), u = dispatchRead (deadlinesCome (s.elapse dt)) ∧ n = u.kernel.robNext
    ∧ u.aligning = true ∧ retryPick u = none ∧ (waitingEngines u).head? = some e ∧ firstItem id (u.kernel.queue.filter (dispatchable u)) =
    some i ∧ u.kernel.rob.length < 1024 ∧ i.retry = false) ∧
  (∃ (dt : Ps) (s : State) (u : State) (e : Nat) (n : Nat) (x : RobEntry), u = dispatchRead (deadlinesCome (s.elapse dt)) ∧ u.aligning =
    true ∧ retryPick u = some (n, x, e)) ∧
  (∃ (s : State) (e : Nat) (n : Nat) (x : RobEntry), retryPick s = some (n, x, e)) ∧
  (∃ (dt : Ps) (s : State) (u : State), u = dispatchRead (deadlinesCome (s.elapse dt)) ∧ u.aligning = true ∧ retryPick u = none ∧
    (waitingEngines u).head?.isSome = true ∧ (firstItem id (u.kernel.queue.filter (dispatchable u))).isSome = true ∧ 1024 ≤
    u.kernel.rob.length) ∧
  (∃ (dt : Ps) (s : State) (u : State), u = dispatchRead (deadlinesCome (s.elapse dt)) ∧ u.aligning = false) ∧
  (∃ (s : State) (i : Item) (x : Item), dispatchable s i = true ∧ x ∈ s.kernel.queue ∧ x.flow = i.flow) ∧
  (∃ (dt : Ps) (s : State) (u : State) (e : Nat) (n : Nat), u = arrivalRead e (s.elapse dt) ∧ (u.engine e).state = .running ∧ (u.engine
    e).entry = some (n, false) ∧ (u.engine e).busySince + 18000 ≤ u.now) ∧
  (∃ (dt : Ps) (s : State) (u : State) (e : Nat) (n : Nat), u = arrivalRead e (s.elapse dt) ∧ (u.engine e).state = .running ∧ (u.engine
    e).entry = some (n, false) ∧ u.now < (u.engine e).busySince + 18000) ∧
  (∃ (dt : Ps) (s : State) (u : State) (e : Nat) (n : Nat) (accs : List EngineAcc) (r : RobEntry), u = releaseRead e (s.elapse dt) ∧ e < 12
    ∧ (u.engine e).state = .running ∧ (u.engine e).entry = some (n, true) ∧ tabGet? n u.kernel.rob = some r ∧ r.discard = false) ∧
  (∃ (s : State) (i : Item) (line : Nat) (evict : Nat) (l1 : List (Nat × List Byte)), l1.length ≤ 512 ∧ evict < 512) ∧
  (∃ (dt : Ps) (s : State) (u : State) (e : Nat) (n : Nat) (accs : List EngineAcc) (r : RobEntry), u = releaseRead e (s.elapse dt) ∧
    (u.engine e).state = .running ∧ (u.engine e).entry = some (n, true) ∧ tabGet? n u.kernel.rob = some r ∧ r.discard = true) ∧
  (∃ (dt : Ps) (s : State) (u : State) (n : Nat) (r : RobEntry), u = robRead (fun m _ => m = n) (deadlinesCome (s.elapse dt)) ∧ tabGet? n
    u.kernel.rob = some r ∧ r.state = .released) ∧
  (∃ (dt : Ps) (s : State) (u : State) (n : Nat), u = robRead (fun m _ => m = n) (deadlinesCome (s.elapse dt)) ∧ (∀ r, tabGet? n
    u.kernel.rob = some r → r.state ≠ .released)) ∧
  (∃ (dt : Ps) (s : State) (u : State) (flow : Nat) (n : Nat) (r : RobEntry), u = robRead (fun _ r => r.item.flow = flow) (deadlinesCome
    (s.elapse dt)) ∧ firstEntry flow u.kernel.rob = some (n, r) ∧ r.state = .fenced ∧ (∀ x ∈ u.kernel.queue, earlierItem x r.item = false)
    ∧ r.item.part + 1 ≠ r.item.parts) ∧
  (∃ (dt : Ps) (s : State) (u : State) (flow : Nat) (n : Nat) (r : RobEntry) (o : KernelOut), u = robRead (fun _ r => r.item.flow = flow)
    (deadlinesCome (s.elapse dt)) ∧ (∀ t, tabGet? r.item.table u.kernel.tables = some t → t.failed = false) ∧ firstEntry flow u.kernel.rob
    = some (n, r) ∧ r.state = .fenced ∧ (∀ x ∈ u.kernel.queue, earlierItem x r.item = false) ∧ r.item.part = 0 ∧ r.item.parts = 1 ∧ (∀ p,
    p ∈ u.kernel.posts → (p.zone ≠ r.item.zone ∨ p.flow ≠ flow) ∨ p.tick ≠ r.item.tick) ∧ r.outs = some o) ∧
  (∃ (dt : Ps) (s : State) (u : State) (flow : Nat) (n : Nat) (r : RobEntry), u = robRead (fun _ r => r.item.flow = flow) (deadlinesCome
    (s.elapse dt)) ∧ firstEntry flow u.kernel.rob = some (n, r) ∧ (r.state ≠ .fenced ∨ ∃ x ∈ u.kernel.queue, earlierItem x r.item = true)) ∧
  (∃ (z : Nat) (tick : Nat) (s : State) (a : Area), z < 64 ∧ s.area z tick = some a ∧ a.deadlineDone = false ∧ itemsLeft z tick s = true) ∧
  (∃ (kernel : Nat) (ps : List KernelOut) (o : Nat), o < 4 ∧ (combineParts kernel ps).1.getLsbD o = true) ∧
  (∃ (i : Item) (ps : List KernelOut) (s : State), (∀ t, tabGet? i.table s.kernel.tables = some t → t.failed = false)) ∧
  (∃ (i : Item) (ps : List KernelOut) (s : State) (t : ParamTable), tabGet? i.table s.kernel.tables = some t ∧ t.failed = true) :=
  ⟨⟨0, (wC |> fun s => { s with sys := { s.sys with mode := .active } } |> fun s => { s with kernel := { s.kernel with queue := [{ wItem with part := 1 }] } }), _, 0, _, ({ wItem with part := 1 }),
    rfl, rfl, by decide +kernel⟩,
  ⟨0, (wC |> fun s => { s with sys := { s.sys with mode := .active } } |> fun s => { s with kernel := { s.kernel with rob := [(0, { wRob with state := .aborted })] } }), _, 0, 0, ({ wRob with state := .aborted }),
    rfl, by decide +kernel⟩,
  ⟨(wC |> fun s => { s with kernel := { s.kernel with rob := [(0, { wRob with state := .aborted })] } }), 0, 0, ({ wRob with state := .aborted }),
    by decide +kernel⟩,
  ⟨0, (wC |> fun s => { s with sys := { s.sys with mode := .active } } |> fun s => { s with kernel := { s.kernel with queue := [wItem] } } |> fun s => { s with kernel := { s.kernel with rob := List.replicate 1024 (0, wRob) } }), _,
    rfl, by decide +kernel⟩,
  ⟨0, wC, _,
    rfl, by decide +kernel⟩,
  ⟨({ wC with kernel := { wC.kernel with queue := [wItem] } }), wItem, wItem,
    by decide +kernel⟩,
  ⟨0, (wC |> fun s => (s).setEngine 0 ({ (s.engine 0) with state := .running }) |> fun s => (s).setEngine 0 ({ (s.engine 0) with entry := some ((0),  false) })), _, 0, 0,
    rfl, by decide +kernel⟩,
  ⟨0, (wC |> fun s => (s).setEngine 0 ({ (s.engine 0) with state := .running }) |> fun s => (s).setEngine 0 ({ (s.engine 0) with entry := some ((0),  false) }) |> fun s => (s).setEngine 0 ({ (s.engine 0) with busySince := 10 ^ 16 })), _, 0, 0,
    rfl, by decide +kernel⟩,
  ⟨0, (wC |> fun s => (s).setEngine 11 ({ (s.engine 11) with state := .running }) |> fun s => (s).setEngine 11 ({ (s.engine 11) with entry := some ((0),  true) }) |> fun s => { s with kernel := { s.kernel with rob := [(0, ({ wRob with discard := false }))] } }), _, 11, 0, ([]), ({ wRob with discard := false }),
    rfl, by decide +kernel⟩,
  ⟨wC, wItem, 0, 511, ([]),
    by decide +kernel⟩,
  ⟨0, (wC |> fun s => (s).setEngine 0 ({ (s.engine 0) with state := .running }) |> fun s => (s).setEngine 0 ({ (s.engine 0) with entry := some ((0),  true) }) |> fun s => { s with kernel := { s.kernel with rob := [(0, ({ wRob with discard := true }))] } }), _, 0, 0, ([]), ({ wRob with discard := true }),
    rfl, by decide +kernel⟩,
  ⟨0, (wC |> fun s => { s with kernel := { s.kernel with rob := [(0, ({ wRob with state := .released }))] } }), _, 0, ({ wRob with state := .released }),
    rfl, by decide +kernel⟩,
  ⟨0, wC, _, 0,
    rfl, by decide +kernel⟩,
  ⟨0, (wC |> fun s => { s with kernel := { s.kernel with rob := [(0, { wRob with state := .fenced, item := { wItem with parts := 2 } })] } }), _, 0, 0, ({ wRob with state := .fenced, item := { wItem with parts := 2 } }),
    rfl, by decide +kernel⟩,
  ⟨0, (wC |> fun s => { s with sys := { s.sys with mode := .active } } |> fun s => { s with kernel := { s.kernel with rob := [(0, { wRob with state := .fenced, outs := some wKo })] } }), _, 0, 0, ({ wRob with state := .fenced, outs := some wKo }), wKo,
    rfl, wNoTab _ _ (by decide +kernel), by decide +kernel⟩,
  ⟨0, (wC |> fun s => { s with kernel := { s.kernel with rob := [(0, wRob)] } }), _, 0, 0, wRob,
    rfl, by decide +kernel⟩,
  ⟨63, 0, (wC |> fun s => (s).setZone 63 ({ (s.zone 63) with areas := [({ wArea with tick := 0 })] }) |> fun s => { s with kernel := { s.kernel with queue := [{ wItem with zone := 63 }] } } |> fun s => (s).setZone 63 ({ (s.zone 63) with areas := [wArea] })), ({ wArea with tick := 0 }),
    by decide +kernel⟩,
  ⟨0, ([]), 3,
    by decide +kernel⟩,
  ⟨wItem, ([]), wC,
    by decide +kernel⟩,
  ⟨wItem, ([]), (wC |> fun s => { s with kernel := { s.kernel with tables := [(0, { wTab with failed := true })] } }), ({ wTab with failed := true }),
    by decide +kernel⟩⟩

/-- Operands and states that meet the hypotheses of `Obligations.EgressCommandsTakeEffect`. -/
theorem test_EgressCommandsTakeEffect_hypotheses :
  (∃ (dt : Ps) (q : Packet) (s : State) (u : State) (n : Nat) (c : SessCfg), u = arrived q (s.elapse dt) ∧ c = sessCfgOf q.params ∧ ready
    (s.elapse dt) q 0x0801 = true ∧ q.params.length = 77 ∧ fld q.params 0 1 = n ∧ fld q.params 1 1 = 1 ∧ (∀ x, x ∈ sessChecks u q.params →
    x.1 = true) ∧ (u.sess n).cfg.enable = false ∧ sessBound u c ≤ (if c.transport = .tcp then 65535 else 65507) ∧ ((c.express = false ∧
    (c.timed = false ∨ c.transport = .tcp)) ∨ sessBound u c + sessOverhead u c ≤ (u.tx c.port).mtu) ∧ (c.cfgType = 3 ∨ configBound
    c.slotCount (u.zone c.zone).slotClass c.flows.length ≤ (if c.transport = .tcp then 65535 else 65507))) ∧
  (∃ (dt : Ps) (q : Packet) (s : State) (u : State), u = arrived q (s.elapse dt) ∧ ready (s.elapse dt) q 0x0801 = true ∧ q.params.length =
    77 ∧ fld q.params 1 1 = 1 ∧ (∀ x, x ∈ sessChecks u q.params → x.1 = true) ∧ (u.sess (fld q.params 0 1)).cfg.enable = true) ∧
  (∃ (dt : Ps) (q : Packet) (s : State) (u : State) (c : SessCfg), u = arrived q (s.elapse dt) ∧ c = sessCfgOf q.params ∧ ready (s.elapse
    dt) q 0x0801 = true ∧ q.params.length = 77 ∧ fld q.params 1 1 = 1 ∧ (∀ x, x ∈ sessChecks u q.params → x.1 = true) ∧ (u.sess (fld
    q.params 0 1)).cfg.enable = false ∧ (if c.transport = .tcp then 65535 else 65507) < sessBound u c) ∧
  (∃ (dt : Ps) (q : Packet) (s : State) (u : State) (v : State) (n : Nat), u = arrived q (s.elapse dt) ∧ v = leaveWaits n (dropTcp n false
    u) ∧ ready (s.elapse dt) q 0x0801 = true ∧ q.params.length = 77 ∧ fld q.params 0 1 = n ∧ fld q.params 1 1 = 0) ∧
  (∃ (dt : Ps) (q : Packet) (s : State) (u : State) (k : Nat) (x : TxPort), u = arrived q (s.elapse dt) ∧ x = u.tx k ∧ ready (s.elapse dt) q
    0x0802 = true ∧ q.params.length = 6 ∧ fld q.params 0 1 = k ∧ k ≤ 3 ∧ 1280 ≤ fld q.params 1 2 ∧ fld q.params 1 2 ≤ 9000 ∧ fld q.params
    3 1 = 0 ∧ fld q.params 4 1 ≤ 1 ∧ fld q.params 5 1 ≤ 1 ∧ ((u.tx k).mtu ≤ fld q.params 1 2 ∨ mtuNeeded u k (fld q.params 1 2) = false)) ∧
  (∃ (dt : Ps) (q : Packet) (s : State) (u : State) (k : Nat) (x : TxPort), u = arrived q (s.elapse dt) ∧ x = u.tx k ∧ ready (s.elapse dt) q
    0x0802 = true ∧ q.params.length = 6 ∧ fld q.params 0 1 = k ∧ k ≤ 3 ∧ 1280 ≤ fld q.params 1 2 ∧ fld q.params 1 2 ≤ 9000 ∧ fld q.params
    3 1 = 1 ∧ fld q.params 4 1 ≤ 1 ∧ fld q.params 5 1 ≤ 1 ∧ ((u.tx k).mtu ≤ fld q.params 1 2 ∨ mtuNeeded u k (fld q.params 1 2) = false) ∧
    x.preempt = false ∧ (u.port k).linkUp = true) ∧
  (∃ (dt : Ps) (q : Packet) (s : State) (u : State) (k : Nat) (x : TxPort), u = arrived q (s.elapse dt) ∧ x = u.tx k ∧ ready (s.elapse dt) q
    0x0802 = true ∧ q.params.length = 6 ∧ fld q.params 0 1 = k ∧ k ≤ 3 ∧ 1280 ≤ fld q.params 1 2 ∧ fld q.params 1 2 ≤ 9000 ∧ fld q.params
    3 1 = 1 ∧ fld q.params 4 1 ≤ 1 ∧ fld q.params 5 1 ≤ 1 ∧ ((u.tx k).mtu ≤ fld q.params 1 2 ∨ mtuNeeded u k (fld q.params 1 2) = false) ∧
    (x.preempt = true ∨ (u.port k).linkUp = false)) ∧
  (∃ (dt : Ps) (q : Packet) (s : State) (u : State) (k : Nat), u = arrived q (s.elapse dt) ∧ ready (s.elapse dt) q 0x0802 = true ∧
    q.params.length = 6 ∧ fld q.params 0 1 = k ∧ k ≤ 3 ∧ 1280 ≤ fld q.params 1 2 ∧ fld q.params 1 2 ≤ 9000 ∧ fld q.params 3 1 ≤ 1 ∧ fld
    q.params 4 1 ≤ 1 ∧ fld q.params 5 1 ≤ 1 ∧ fld q.params 1 2 < (u.tx k).mtu ∧ mtuNeeded u k (fld q.params 1 2) = true) ∧
  (∃ (dt : Ps) (q : Packet) (s : State) (u : State) (x : Session), u = arrived q (s.elapse dt) ∧ x = u.sess (fld q.params 0 1) ∧ ready
    (s.elapse dt) q 0x0803 = true ∧ q.params.length = 1 ∧ x.tcp = none) ∧
  (∃ (dt : Ps) (q : Packet) (s : State) (u : State) (x : Session) (t : SessTcp), u = arrived q (s.elapse dt) ∧ x = u.sess (fld q.params 0 1)
    ∧ ready (s.elapse dt) q 0x0803 = true ∧ q.params.length = 1 ∧ x.tcp = some t) ∧
  (∃ (dt : Ps) (q : Packet) (s : State) (u : State) (all : List Byte), u = arrived q (s.elapse dt) ∧ all = (sessConfigFrames u (u.sess (fld
    q.params 0 1)) ((u.sess (fld q.params 0 1)).cfg.cfgType == 3)).flatten ∧ ready (s.elapse dt) q 0x0804 = true ∧ q.params.length = 7 ∧ 1
    ≤ fld q.params 5 2 ∧ fld q.params 5 2 ≤ 16384) ∧
  (∃ (dt : Ps) (q : Packet) (s : State) (u : State), u = arrived q (s.elapse dt) ∧ ready (s.elapse dt) q 0x0805 = true ∧ q.params = [0]) ∧
  (∃ (dt : Ps) (q : Packet) (s : State) (u : State), u = arrived q (s.elapse dt) ∧ ready (s.elapse dt) q 0x0805 = true ∧ q.params = [1]) ∧
  (∃ (dt : Ps) (q : Packet) (s : State) (u : State) (n : Nat), u = arrived q (s.elapse dt) ∧ ready (s.elapse dt) q 0x0806 = true ∧
    q.params.length = 1 ∧ fld q.params 0 1 = n ∧ (u.sess n).state = .sending ∧ (u.sess n).cfg.transport ≠ .tcp) ∧
  (∃ (dt : Ps) (q : Packet) (s : State) (u : State) (n : Nat), u = arrived q (s.elapse dt) ∧ ready (s.elapse dt) q 0x0806 = true ∧
    q.params.length = 1 ∧ fld q.params 0 1 = n ∧ ((u.sess n).state ≠ .sending ∨ (u.sess n).cfg.transport = .tcp)) :=
  ⟨⟨0, (pk (pz 77 [(1,1,1),(5,2,1),(9,1,4),(32,2,1),(34,2,1),(36,2,1),(59,2,1),(61,2,1),(68,1,2),(72,4,1000)])), (wC |> fun s => (s).setSess 0 ({ (s.sess 0) with cfg := { (s.sess 0).cfg with enable := false } })), _, 0, _,
    rfl, rfl, by decide +kernel⟩,
  ⟨0, (pk (pz 77 [(1,1,1),(5,2,1),(9,1,4),(32,2,1),(34,2,1),(36,2,1),(59,2,1),(61,2,1),(68,1,2),(72,4,1000)])), (wC |> fun s => (s).setSess 0 ({ (s.sess 0) with cfg := { (s.sess 0).cfg with enable := true } }) |> fun s => (s).setSess 0 ({ (s.sess 0) with cfg := { enable := true } })), _,
    rfl, by decide +kernel⟩,
  ⟨0, (pk (pz 77 [(1,1,1),(5,2,16384),(9,1,4),(32,2,1),(34,2,1),(36,2,1),(59,2,1),(61,2,1),(68,1,2),(72,4,1000)])), (wC |> fun s => (s).setSess 0 ({ (s.sess 0) with cfg := { (s.sess 0).cfg with enable := false } })), _, _,
    rfl, rfl, by decide +kernel⟩,
  ⟨0, (pk (pz 77 [])), wC, _, _, 0,
    rfl, rfl, by decide +kernel⟩,
  ⟨0, (pk (pz 6 [(0,1,3), (1,2,9000), (4,1,1), (5,1,1)])), (wC |> fun s => (s).setTx 3 ((({} : TxPort)))), _, 3, _,
    rfl, rfl, by decide +kernel⟩,
  ⟨0, (pk (pz 6 [(0,1,3), (1,2,9000), (3,1,1), (4,1,1), (5,1,1)])), (wC |> fun s => (s).setTx 3 ((({} : TxPort))) |> fun s => (s).setTx 3 ({ (s.tx 3) with preempt := false }) |> fun s => { s with ingress := { s.ingress with ports := vset s.ingress.ports 3 ({ (s.port 3) with linkUp := true }) } }), _, 3, _,
    rfl, rfl, by decide +kernel⟩,
  ⟨0, (pk (pz 6 [(0,1,3), (1,2,9000), (3,1,1), (4,1,1), (5,1,1)])), (wC |> fun s => (s).setTx 3 ((({} : TxPort))) |> fun s => (s).setTx 3 ({ (s.tx 3) with preempt := true })), _, 3, _,
    rfl, rfl, by decide +kernel⟩,
  ⟨0, (pk (pz 6 [(0,1,3),(1,2,1280)])), (wC |> fun s => { s with egress := { s.egress with sessions := [(0, { cfg := { enable := true, port := 3, express := true, slotCount := 16384 } })] } }), _, 3,
    rfl, by decide +kernel⟩,
  ⟨0, (pk (pz 1 [])), (wC |> fun s => (s).setSess 0 ((({} : Session))) |> fun s => (s).setSess 0 ({ (s.sess 0) with tcp := none })), _, _,
    rfl, rfl, by decide +kernel⟩,
  ⟨0, (pk (pz 1 [])), (wC |> fun s => (s).setSess 0 ((({} : Session))) |> fun s => (s).setSess 0 ({ (s.sess 0) with tcp := some (wTcp) })), _, _, wTcp,
    rfl, rfl, by decide +kernel⟩,
  ⟨0, (pk (pz 7 [(5,2,16384)])), wC, _, _,
    rfl, rfl, by decide +kernel⟩,
  ⟨0, (pk ([0])), wC, _,
    rfl, by decide +kernel⟩,
  ⟨0, (pk ([1])), wC, _,
    rfl, by decide +kernel⟩,
  ⟨0, (pk (pz 1 [])), (wC |> fun s => (s).setSess 0 ({ (s.sess 0) with state := .sending })), _, 0,
    rfl, by decide +kernel⟩,
  ⟨0, (pk (pz 1 [])), wC, _, 0,
    rfl, by decide +kernel⟩⟩

/-- Operands and states that meet the hypotheses of `Obligations.SessionsFollowTheirRules`. -/
theorem test_SessionsFollowTheirRules_hypotheses :
  (∃ (n : Nat) (s : State), ((s.sess n).state = .sending ∨ (s.sess n).state = .idle) ∧ canSend s (s.sess n) = false) ∧
  (∃ (n : Nat) (s : State), canSend s (s.sess n) = true) ∧
  (∃ (dt : Ps) (s : State) (u : State) (z : Nat) (tick : Nat) (rev : Nat) (w : EgressWait), u = s.elapse dt ∧ u.egress.waits.find? (fun w =>
    w.zone = z ∧ w.tick = tick ∧ w.rev = rev) = some w ∧ u.egress.requests = [] ∧ u.egress.forming = none) ∧
  (∃ (dt : Ps) (s : State) (u : State) (z : Nat) (tick : Nat) (rev : Nat), u = s.elapse dt ∧ u.egress.waits.find? (fun w => w.zone = z ∧
    w.tick = tick ∧ w.rev = rev) = none) ∧
  (∃ (s : State) (r : FormReq) (rest : List FormReq) (c : Sealed), s.egress.forming = none ∧ s.egress.requests = r :: rest ∧ s.sealedOf
    r.zone r.tick r.rev = some c) ∧
  (∃ (dt : Ps) (s : State) (u : State) (r : FormReq) (due : Ps), u = formRead (s.elapse dt) ∧ u.egress.forming = some (r, due) ∧ due ≤
    u.now) ∧
  (∃ (dt : Ps) (s : State) (u : State), u = formRead (s.elapse dt) ∧ (∀ r due, u.egress.forming = some (r, due) → u.now < due)) ∧
  (∃ (dt : Ps) (s : State) (u : State) (n : Nat), u = s.elapse dt ∧ (u.sess n).state = .sending ∧ (u.sess n).cfg.transport ≠ .tcp ∧ (u.sess
    n).cfg.cfgPeriod ≠ 0 ∧ (u.sess n).cfgSentAt + (u.sess n).cfg.cfgPeriod * 1000000000000 ≤ u.now) ∧
  (∃ (dt : Ps) (s : State) (u : State) (v : State) (n : Nat) (ip : Nat) (port : Nat) (mss : Nat) (i : Nat) (route : Route), u = s.elapse dt
    ∧ route = sessRoute u (u.sess n).cfg ip (u.sess n).cfg.nextHop ∧ (i, v) = u.draw ∧ u.active = true ∧ (u.sess n).cfg.enable = true ∧
    (u.sess n).cfg.transport = .tcp ∧ (u.sess n).tcp = none ∧ permitted (u.sess n).cfg ip = true) ∧
  (∃ (dt : Ps) (s : State) (u : State) (v : State) (n : Nat) (ip : Nat) (port : Nat) (mss : Nat) (i : Nat) (route : Route), u = s.elapse dt
    ∧ ((u.sess n).tcp.isSome = true ∨ permitted (u.sess n).cfg ip = false) ∧ route = sessRoute u (u.sess n).cfg ip (u.sess n).cfg.nextHop
    ∧ (i, v) = u.draw ∧ u.active = true ∧ (u.sess n).cfg.enable = true ∧ (u.sess n).cfg.transport = .tcp) ∧
  (∃ (dt : Ps) (s : State) (u : State) (n : Nat) (cmd : Nat) (t : SessTcp) (big : Bool), u = s.elapse dt ∧ big = decide (65535 < configBound
    (u.sess n).cfg.slotCount (u.zone (u.sess n).cfg.zone).slotClass (u.sess n).cfg.flows.length) ∧ (u.sess n).tcp = some t) ∧
  (∃ (dt : Ps) (s : State) (u : State) (n : Nat) (len : Nat) (t : SessTcp), u = sendBufRead n (s.elapse dt) ∧ (u.sess n).tcp = some t ∧ 1 ≤
    len ∧ len ≤ 262144 ∧ len ≤ (u.sess n).sendBuf.length ∧ t.unacked.length + len ≤ t.window) ∧
  (∃ (dt : Ps) (s : State) (u : State) (n : Nat) (len : Nat) (t : SessTcp), u = sendBufRead n (s.elapse dt) ∧ (u.sess n).tcp = some t ∧
    t.window < t.unacked.length + len) ∧
  (∃ (dt : Ps) (s : State) (u : State) (n : Nat) (t : SessTcp) (t0 : Ps), u = s.elapse dt ∧ (u.sess n).tcp = some t ∧ t.noRoom = some t0 ∧
    t0 + 10000000000000 ≤ u.now) ∧
  (∃ (dt : Ps) (s : State) (u : State) (n : Nat) (t : SessTcp), u = sendBufRead n (s.elapse dt) ∧ (u.sess n).tcp = some t ∧ t.unacked ≠ []) :=
  ⟨⟨0, (wC |> fun s => (s).setSess 0 ({ (s.sess 0) with state := .sending })),
    by decide +kernel⟩,
  ⟨0, (wC |> fun s => { s with sys := { s.sys with mode := .active } } |> fun s => (s).setSess 0 ({ (s.sess 0) with cfg := { enable := true } })),
    by decide +kernel⟩,
  ⟨0, (wC |> fun s => { s with egress := { s.egress with requests := [] } } |> fun s => { s with egress := { s.egress with forming := none } } |> fun s => { s with egress := { s.egress with waits := [wEw] } }), _, 0, 0, 0, wEw,
    rfl, by decide +kernel⟩,
  ⟨0, wC, _, 0, 0, 0,
    rfl, by decide +kernel⟩,
  ⟨(wC |> fun s => { s with egress := { s.egress with forming := none } } |> fun s => { s with egress := { s.egress with requests := [(wForm)] } } |> fun s => { s with egress := { s.egress with requests := [wForm] } } |> fun s => (s).setZone 0 ({ (s.zone 0) with areas := [{ wArea with sealed_ := [wSeal] }] })), wForm, ([]), wSeal,
    by decide +kernel⟩,
  ⟨0, (wC |> fun s => { s with egress := { s.egress with forming := some ((wForm), (0)) } }), _, wForm, 0,
    rfl, by decide +kernel⟩,
  ⟨0, wC, _,
    rfl, fun r due h => nomatch (show (none : Option (FormReq × Ps)) = some (r, due) from h)⟩,
  ⟨0, (wC |> fun s => (s).setSess 0 ({ (s.sess 0) with state := .sending }) |> fun s => (s).setSess 0 ({ (s.sess 0) with cfg := { (s.sess 0).cfg with cfgPeriod := 1 } })), _, 0,
    rfl, by decide +kernel⟩,
  ⟨0, (wC |> fun s => { s with sys := { s.sys with mode := .active } } |> fun s => (s).setSess 1 ({ (s.sess 1) with cfg := { (s.sess 1).cfg with enable := true } }) |> fun s => (s).setSess 1 ({ (s.sess 1) with cfg := { (s.sess 1).cfg with transport := .tcp } }) |> fun s => (s).setSess 1 ({ (s.sess 1) with tcp := none }) |> fun s => (s).setSess 1 ({ (s.sess 1) with cfg := { (s.sess 1).cfg with permitLen := some 0 } })), _, _, 1, 0, 0, 0, _, _,
    rfl, rfl, rfl, by decide +kernel⟩,
  ⟨0, (wC |> fun s => { s with sys := { s.sys with mode := .active } } |> fun s => (s).setSess 1 ({ (s.sess 1) with cfg := { (s.sess 1).cfg with enable := true } }) |> fun s => (s).setSess 1 ({ (s.sess 1) with cfg := { (s.sess 1).cfg with transport := .tcp } })), _, _, 1, 0, 0, 0, _, _,
    rfl, Or.inr (by decide +kernel), rfl, rfl, by decide +kernel⟩,
  ⟨0, (wC |> fun s => (s).setSess 0 ({ (s.sess 0) with tcp := some (wTcp) })), _, 0, 0, wTcp, _,
    rfl, rfl, by decide +kernel⟩,
  ⟨0, (wC |> fun s => (s).setSess 0 ({ (s.sess 0) with tcp := some ({ wTcp with window := 1 }) }) |> fun s => (s).setSess 0 ({ (s.sess 0) with tcp := some { wTcp with window := 1 } }) |> fun s => (s).setSess 0 ({ (s.sess 0) with sendBuf := [0] })), _, 0, 1, ({ wTcp with window := 1 }),
    rfl, by decide +kernel⟩,
  ⟨0, (wC |> fun s => (s).setSess 0 ({ (s.sess 0) with tcp := some (wTcp) }) |> fun s => (s).setSess 0 ({ (s.sess 0) with tcp := some wTcp })), _, 0, 1, wTcp,
    rfl, by decide +kernel⟩,
  ⟨0, (wC |> fun s => (s).setSess 0 ({ (s.sess 0) with tcp := some ({ wTcp with noRoom := some (0) }) })), _, 0, ({ wTcp with noRoom := some (0) }), 0,
    rfl, by decide +kernel⟩,
  ⟨0, (wC |> fun s => (s).setSess 0 ({ (s.sess 0) with tcp := some ({ wTcp with unacked := [0] }) }) |> fun s => (s).setSess 0 ({ (s.sess 0) with tcp := some { wTcp with unacked := [0] } })), _, 0, ({ wTcp with unacked := [0] }),
    rfl, by decide +kernel⟩⟩

/-- Operands and states that meet the hypotheses of `Obligations.TransmitPortsAndMkaTakeEffect`. -/
theorem test_TransmitPortsAndMkaTakeEffect_hypotheses :
  (∃ (dt : Ps) (s : State) (u : State) (t : State) (p : Nat) (f : TxFrame) (y : TxPort), u = txStartRead p true (s.elapse dt) ∧ expressHead
    u p (u.tx p) = some (f, y) ∧ t = takePn p f (u.setTx p y) ∧ (u.tx p).expRun = none ∧ u.wanRuns p = true ∧ (u.tx p).freeAt ≤ u.now ∧
    noSa u p f = false ∧ (y.preRun = none ∨ ∃ r, y.preRun = some r ∧ r.cut.isSome = true)) ∧
  (∃ (dt : Ps) (s : State) (u : State) (t : State) (p : Nat) (left : Nat) (f : TxFrame) (y : TxPort) (r : TxRun), u = txStartRead p true
    (s.elapse dt) ∧ expressHead u p (u.tx p) = some (f, y) ∧ cutLeft u p f r = some left ∧ t = takePn p f (u.setTx p { y with preRun := some { r with cut := some left, wasCut := true }, cPreempted := if r.wasCut then y.cPreempted else inc y.cPreempted })
    ∧ (u.tx p).expRun = none ∧ u.wanRuns p = true ∧ (u.tx p).freeAt ≤ u.now ∧ noSa u p f = false ∧ y.preRun = some r ∧ r.cut = none ∧
    (u.tx p).active = true) ∧
  (∃ (dt : Ps) (s : State) (u : State) (p : Nat) (f : TxFrame) (y : TxPort) (r : TxRun), u = txStartRead p true (s.elapse dt) ∧ expressHead
    u p (u.tx p) = some (f, y) ∧ (u.tx p).expRun = none ∧ u.wanRuns p = true ∧ noSa u p f = false ∧ y.preRun = some r ∧ r.cut = none ∧
    ((u.tx p).active = false ∨ cutLeft u p f r = none)) ∧
  (∃ (dt : Ps) (s : State) (u : State) (p : Nat) (express : Bool), u = txStartRead p express (s.elapse dt) ∧ u.now < (u.tx p).freeAt) ∧
  (∃ (dt : Ps) (s : State) (u : State) (p : Nat) (f : TxFrame) (y : TxPort), u = txStartRead p true (s.elapse dt) ∧ expressHead u p (u.tx p)
    = some (f, y) ∧ (u.tx p).expRun = none ∧ u.wanRuns p = true ∧ (u.tx p).freeAt ≤ u.now ∧ noSa u p f = true) ∧
  (∃ (s : State) (p : Nat) (n : Nat) (seq : BitVec 32) (rev : Nat) (last : Bool) (f : TxFrame) (r : TxRun), f.kind = .session n seq rev last
    ∧ f.launch = none) ∧
  (∃ (dt : Ps) (s : State) (u : State) (p : Nat) (left : Nat) (r : TxRun), u = txStartRead p false (s.elapse dt) ∧ (u.tx p).expRun = none ∧
    u.wanRuns p = true ∧ (u.tx p).freeAt ≤ u.now ∧ expressDue u p (u.tx p) = false ∧ (u.tx p).preRun = some r ∧ r.cut = some left) ∧
  (∃ (dt : Ps) (s : State) (u : State) (t : State) (p : Nat) (f : TxFrame) (y : TxPort), u = txStartRead p false (s.elapse dt) ∧ preemptHead
    u p (u.tx p) = some (f, y) ∧ t = takePn p f (u.setTx p y) ∧ (u.tx p).expRun = none ∧ u.wanRuns p = true ∧ (u.tx p).freeAt ≤ u.now ∧
    expressDue u p (u.tx p) = false ∧ (u.tx p).preRun = none ∧ noSa u p f = false) ∧
  (∃ (s : State) (p : Nat) (x : TxPort) (f : TxFrame) (t : List TxFrame), x.expAlarm = f :: t ∧ f.readyAt ≤ s.now) ∧
  (∃ (s : State) (p : Nat) (x : TxPort) (f : TxFrame) (t : List TxFrame), (∀ a, x.expAlarm.head? = some a → s.now < a.readyAt) ∧ x.expLaunch
    = f :: t ∧ launchCome s p f = true) ∧
  (∃ (s : State) (p : Nat) (x : TxPort) (f : TxFrame) (t : List TxFrame), (∀ a, x.expAlarm.head? = some a → s.now < a.readyAt) ∧ (∀ a,
    x.expLaunch.head? = some a → launchCome s p a = false) ∧ x.expNow = f :: t ∧ revisionHeld x f = false) ∧
  (∃ (dt : Ps) (s : State) (u : State) (p : Nat) (r : TxRun), u = txDoneRead p true (s.elapse dt) ∧ (u.tx p).expRun = some r ∧ r.cut = none
    ∧ r.done ≤ u.now) ∧
  (∃ (dt : Ps) (s : State) (u : State) (p : Nat) (r : TxRun), u = txDoneRead p false (s.elapse dt) ∧ (u.tx p).preRun = some r ∧ r.cut = none
    ∧ r.done ≤ u.now) ∧
  (∃ (s : State) (p : Nat) (r : TxRun), (∀ got, r.frame.kind ≠ .ptpAnswer got) ∧ r.protect = none) ∧
  (∃ (s : State) (p : Nat) (r : TxRun) (k : Protection), (∀ got, r.frame.kind ≠ .ptpAnswer got) ∧ r.protect = some k ∧ 12 ≤
    r.frame.octets.length) ∧
  (∃ (dt : Ps) (s : State) (u : State) (p : Nat) (f : TxFrame) (t : List TxFrame), u = s.elapse dt ∧ (u.tx p).expLaunch = f :: t ∧ f.judged
    = false ∧ stampDiff (f.launch.getD 0) u.stamp ≤ 640 * 65536 ∧ launchLate u p true f = true ∧ (vget {} u.time.ports p).dropLate =
    false) ∧
  (∃ (dt : Ps) (s : State) (u : State) (p : Nat) (f : TxFrame) (t : List TxFrame), u = s.elapse dt ∧ (u.tx p).expLaunch = f :: t ∧ f.judged
    = false ∧ stampDiff (f.launch.getD 0) u.stamp ≤ 640 * 65536 ∧ launchLate u p true f = false) ∧
  (∃ (dt : Ps) (s : State) (u : State) (p : Nat) (n : Nat) (seq : BitVec 32) (rev : Nat) (last : Bool) (f : TxFrame) (t : List TxFrame), u =
    s.elapse dt ∧ p < 4 ∧ (u.tx p).preLaunch = f :: t ∧ f.judged = false ∧ f.kind = .session n seq rev last ∧ stampDiff (f.launch.getD 0)
    u.stamp ≤ 512 * 65536 ∧ launchLate u p false f = true ∧ (vget {} u.time.ports p).dropLate = true) ∧
  (∃ (dt : Ps) (s : State) (u : State) (p : Nat) (quanta : List Nat), u = s.elapse dt ∧ (u.tx p).pauseObey = false) ∧
  (∃ (dt : Ps) (s : State) (u : State) (p : Nat) (i : Nat) (quanta : Nat), u = s.elapse dt ∧ p < 4 ∧ i < 8 ∧ (u.tx p).pauseObey = true ∧
    (u.tx p).preRun = none) ∧
  (∃ (dt : Ps) (s : State) (u : State) (p : Nat) (i : Nat) (mask : Nat) (quanta : List Nat), u = s.elapse dt ∧ p < 4 ∧ i < 8 ∧ (u.tx
    p).pfcObey = true ∧ (u.tx p).preRun = none ∧ vget none (u.tx p).pauseNext i = none) ∧
  (∃ (dt : Ps) (s : State) (u : State) (p : Nat) (i : Nat) (quanta : Nat), u = s.elapse dt ∧ p < 4 ∧ i < 8 ∧ (u.tx p).pauseObey = true ∧
    (u.tx p).preRun.isSome = true) ∧
  (∃ (p : Nat) (i : Nat) (q : Nat) (ps : PortSt) (now : Ps) (x : TxPort), i < 8 ∧ vget none x.pauseNext i = some q) ∧
  (∃ (p : Nat) (what : String) (o : List Byte) (s : State), p < 4 ∧ (s.tx p).preNow.length < 1024 ∧ bufferUsed (s.tx p) + o.length ≤ 524288) ∧
  (∃ (p : Nat) (s : State), p < 4 ∧ (s.tx p).active = false ∧ (s.tx p).preRun.isSome = true) ∧
  (∃ (dt : Ps) (s : State) (u : State) (p : Nat) (i : Nat), u = s.elapse dt ∧ p < 4 ∧ i < 8) ∧
  (∃ (dt : Ps) (s : State) (u : State) (p : Nat), u = s.elapse dt ∧ u.online = true ∧ p < 4) ∧
  (∃ (dt : Ps) (s : State) (u : State) (p : Nat), u = s.elapse dt ∧ u.online = true ∧ p < 4) ∧
  (∃ (dt : Ps) (s : State) (u : State) (p : Nat) (n : Nat), u = s.elapse dt ∧ (u.tx p).verify = some n ∧ (u.tx p).verifyAt + 10000000000 ≤
    u.now) ∧
  (∃ (dt : Ps) (s : State) (u : State) (p : Nat) (n : Nat), u = s.elapse dt ∧ (u.tx p).verify = some n) ∧
  (∃ (dt : Ps) (s : State) (u : State) (k : Nat) (m : Mkpdu), u = s.elapse dt ∧ k < 5 ∧ u.online = true ∧ m.icvOk = true ∧ (u.mka
    k).cak.isSome = true ∧ ((u.mka k).peers.filter fun y => y.1 ≠ m.peer).length < 4) ∧
  (∃ (dt : Ps) (s : State) (u : State) (k : Nat) (m : Mkpdu), u = s.elapse dt ∧ (m.icvOk = false ∨ (u.mka k).cak = none)) ∧
  (∃ (dt : Ps) (s : State) (u : State) (k : Nat) (f : TxFrame), u = s.elapse dt ∧ f = { kind := .eapol, priority := 0, launch := none, late := false, octets := be 6 0x0180C2000003 ++ be 6 (u.port k).mac ++ be 2 0x888E ++ be 1 (u.mka k).priority ++ be 1 (keyServer (u.mka k) u).1 ++ be 1 (bit (u.mka k).asked 0) }
    ∧ k < 4 ∧ u.online = true ∧ (u.mka k).cak.isSome = true ∧ (u.mka k).helloAt + 2000000000000 ≤ u.now ∧ (u.tx k).preNow.length < 1024 ∧
    bufferUsed (u.tx k) + bufferShare f ≤ 524288) ∧
  (∃ (dt : Ps) (s : State) (u : State), u = s.elapse dt ∧ u.online = true ∧ (u.mka 4).cak.isSome = true ∧ (u.mka 4).helloAt + 2000000000000
    ≤ u.now ∧ (∀ y, y ∈ (u.mka 4).peers → (u.mka 4).priority < y.2.1)) ∧
  (∃ (s : State) (k : Nat), (s.mka k).cak.isNone = true) ∧
  (∃ (dt : Ps) (s : State) (u : State) (k : Nat), u = s.elapse dt ∧ u.now < (u.mka k).helloAt + 2000000000000) ∧
  (∃ (dt : Ps) (s : State) (u : State) (k : Nat) (peer : Nat) (pr : Nat) (t : Ps), u = s.elapse dt ∧ k < 5 ∧ (u.mka k).peers = [(peer, pr,
    t)]) ∧
  (∃ (dt : Ps) (s : State) (u : State) (k : Nat) (kn : Nat) (an : Nat), u = s.elapse dt ∧ k < 4 ∧ an < 4 ∧ u.online = true ∧ (u.mka
    k).cak.isSome = true) ∧
  (∃ (dt : Ps) (s : State) (u : State) (kn : Nat) (an : Nat), u = s.elapse dt ∧ an < 4 ∧ u.online = true ∧ (u.mka 4).cak.isSome = true) ∧
  (∃ (dt : Ps) (s : State) (u : State) (k : Nat) (kn : Nat) (an : Nat), u = s.elapse dt ∧ (u.mka k).cak = none) :=
  ⟨⟨0, (wC |> fun s => (s).setTx 0 ({ (s.tx 0) with expRun := none }) |> fun s => { s with ingress := { s.ingress with ports := vset s.ingress.ports 0 ({ (s.port 0) with linkUp := true }) } } |> fun s => (s).setTx 0 ({ (s.tx 0) with expNow := [wTx] })), _, _, 0, wTx, _,
    rfl, rfl, rfl, by decide +kernel⟩,
  ⟨0, (wC |> fun s => (s).setTx 0 ({ (s.tx 0) with expRun := none }) |> fun s => { s with ingress := { s.ingress with ports := vset s.ingress.ports 0 ({ (s.port 0) with linkUp := true }) } } |> fun s => (s).setTx 0 ({ (s.tx 0) with active := true }) |> fun s => (s).setTx 0 ({ (s.tx 0) with expNow := [wTx] }) |> fun s => (s).setTx 0 ({ (s.tx 0) with preRun := some { wTr with done := 10 ^ 15 + 160000, from_ := 10 ^ 15 - 80000 } })), _, _, 0, _, wTx, _, ({ wTr with done := 10 ^ 15 + 160000, from_ := 10 ^ 15 - 80000 }),
    rfl, rfl, rfl, rfl, by decide +kernel⟩,
  ⟨0, (wC |> fun s => (s).setTx 0 ({ (s.tx 0) with expRun := none }) |> fun s => { s with ingress := { s.ingress with ports := vset s.ingress.ports 0 ({ (s.port 0) with linkUp := true }) } } |> fun s => (s).setTx 0 ({ (s.tx 0) with active := false }) |> fun s => (s).setTx 0 ({ (s.tx 0) with expNow := [wTx] }) |> fun s => (s).setTx 0 ({ (s.tx 0) with preRun := some wTr })), _, 0, wTx, _, wTr,
    rfl, rfl, by decide +kernel⟩,
  ⟨0, (wC |> fun s => (s).setTx 0 ({ (s.tx 0) with freeAt := 10 ^ 16 })), _, 0, true,
    rfl, by decide +kernel⟩,
  ⟨0, (wC |> fun s => (s).setTx 0 ({ (s.tx 0) with expRun := none }) |> fun s => { s with ingress := { s.ingress with ports := vset s.ingress.ports 0 ({ (s.port 0) with linkUp := true }) } } |> fun s => (s).setTx 0 ({ (s.tx 0) with expNow := [wTx] }) |> fun s => { s with ingress := { s.ingress with ports := vset s.ingress.ports 0 ({ (s.port 0) with macsec := .strict }) } }), _, 0, wTx, _,
    rfl, rfl, by decide +kernel⟩,
  ⟨wC, 0, 0, 0, 0, true, ({ { wTx with kind := (.session 0 (0) 0 (true)) } with launch := none }), wTr,
    by decide +kernel⟩,
  ⟨0, (wC |> fun s => (s).setTx 0 ({ (s.tx 0) with expRun := none }) |> fun s => { s with ingress := { s.ingress with ports := vset s.ingress.ports 0 ({ (s.port 0) with linkUp := true }) } } |> fun s => (s).setTx 0 ({ (s.tx 0) with preRun := some ({ wTr with cut := some (0) }) })), _, 0, 0, ({ wTr with cut := some (0) }),
    rfl, by decide +kernel⟩,
  ⟨0, (wC |> fun s => (s).setTx 0 ({ (s.tx 0) with expRun := none }) |> fun s => { s with ingress := { s.ingress with ports := vset s.ingress.ports 0 ({ (s.port 0) with linkUp := true }) } } |> fun s => (s).setTx 0 ({ (s.tx 0) with preRun := none }) |> fun s => (s).setTx 0 ({ (s.tx 0) with preNow := [wTx] })), _, _, 0, wTx, _,
    rfl, rfl, rfl, by decide +kernel⟩,
  ⟨wC, 0, ({ ({} : TxPort) with expAlarm := [(wTx)] }), wTx, ([]),
    by decide +kernel⟩,
  ⟨wC, 0, ({ ({} : TxPort) with expLaunch := [(wTx)] }), wTx, ([]),
    by decide +kernel⟩,
  ⟨wC, 0, ({ ({} : TxPort) with expNow := [(wTx)] }), wTx, ([]),
    by decide +kernel⟩,
  ⟨0, (wC |> fun s => (s).setTx 0 ({ (s.tx 0) with expRun := some ({ wTr with cut := none }) })), _, 0, ({ wTr with cut := none }),
    rfl, by decide +kernel⟩,
  ⟨0, (wC |> fun s => (s).setTx 0 ({ (s.tx 0) with preRun := some ({ wTr with cut := none }) })), _, 0, ({ wTr with cut := none }),
    rfl, by decide +kernel⟩,
  ⟨wC, 0, ({ wTr with protect := none }),
    (by intro _ h; cases h), by decide +kernel⟩,
  ⟨wC, 0, ({ wTr with protect := some { an := 0, key := 0, pn := 1 } }), ({ an := 0, key := 0, pn := 1 }),
    (by intro _ h; cases h), by decide +kernel⟩,
  ⟨0, (wC |> fun s => (s).setTx 0 ({ (s.tx 0) with expLaunch := [({ wTx with judged := false })] })), _, 0, ({ wTx with judged := false }), ([]),
    rfl, by decide +kernel⟩,
  ⟨0, (wC |> fun s => (s).setTx 0 ({ (s.tx 0) with expLaunch := [({ wTx with launch := some (200000 * unitsPerSec + unitsPerSec / 4 + 639 * 65536) })] }) |> fun s => (s).setTx 0 ({ (s.tx 0) with expLaunch := [{ wTx with launch := some (200000 * unitsPerSec + unitsPerSec / 4 + 639 * 65536) }] })), _, 0, ({ wTx with launch := some (200000 * unitsPerSec + unitsPerSec / 4 + 639 * 65536) }), ([]),
    rfl, by decide +kernel⟩,
  ⟨0, (wC |> fun s => (s).setTx 3 ({ (s.tx 3) with preLaunch := [({ { wTx with judged := false } with kind := (.session 0 (0) 0 (true)) })] }) |> fun s => (s).setTimePort 3 ({ (s.timePort 3) with dropLate := true })), _, 3, 0, 0, 0, true, ({ { wTx with judged := false } with kind := (.session 0 (0) 0 (true)) }), ([]),
    rfl, by decide +kernel⟩,
  ⟨0, (wC |> fun s => (s).setTx 0 ({ (s.tx 0) with pauseObey := false })), _, 0, ([]),
    rfl, by decide +kernel⟩,
  ⟨0, (wC |> fun s => (s).setTx 3 ({ (s.tx 3) with pauseObey := true }) |> fun s => (s).setTx 3 ({ (s.tx 3) with preRun := none })), _, 3, 7, 0,
    rfl, by decide +kernel⟩,
  ⟨0, (wC |> fun s => (s).setTx 3 ({ (s.tx 3) with pfcObey := true }) |> fun s => (s).setTx 3 ({ (s.tx 3) with preRun := none })), _, 3, 7, 0, ([]),
    rfl, by decide +kernel⟩,
  ⟨0, (wC |> fun s => (s).setTx 3 ({ (s.tx 3) with pauseObey := true }) |> fun s => (s).setTx 3 ({ (s.tx 3) with preRun := some wTr })), _, 3, 7, 65535,
    rfl, by decide +kernel⟩,
  ⟨0, 7, 5, (({} : PortSt)), 0, ({ pauseNext := Vector.replicate 8 (some 5) }),
    by decide +kernel⟩,
  ⟨3, ("ICMP"), ([]), wC,
    by decide +kernel⟩,
  ⟨3, (wC |> fun s => (s).setTx 3 ({ (s.tx 3) with active := false }) |> fun s => (s).setTx 3 ({ (s.tx 3) with preRun := some wTr })),
    by decide +kernel⟩,
  ⟨0, wC, _, 3, 7,
    rfl, by decide +kernel⟩,
  ⟨0, wC, _, 3,
    rfl, by decide +kernel⟩,
  ⟨0, wC, _, 3,
    rfl, by decide +kernel⟩,
  ⟨0, (wC |> fun s => (s).setTx 0 ({ (s.tx 0) with verify := some (0) })), _, 0, 0,
    rfl, by decide +kernel⟩,
  ⟨0, (wC |> fun s => (s).setTx 0 ({ (s.tx 0) with verify := some (0) })), _, 0, 0,
    rfl, by decide +kernel⟩,
  ⟨0, (wC |> fun s => (s).setMka 4 ({ (s.mka 4) with slots := Vector.replicate 2 (some { ckn := [1], cak := [], domain := 0, failed := false }) })), _, 4, ({ wMk with icvOk := true }),
    rfl, by decide +kernel⟩,
  ⟨0, wC, _, 0, ({ wMk with icvOk := false }),
    rfl, by decide +kernel⟩,
  ⟨0, (wC |> fun s => (s).setMka 3 ({ (s.mka 3) with slots := Vector.replicate 2 (some { ckn := [1], cak := [], domain := 0, failed := false }) })), _, 3, _,
    rfl, rfl, by decide +kernel⟩,
  ⟨0, (wC |> fun s => (s).setMka 4 ({ (s.mka 4) with slots := Vector.replicate 2 (some { ckn := [1], cak := [], domain := 0, failed := false }) })), _,
    rfl, by decide +kernel⟩,
  ⟨wC, 0,
    by decide +kernel⟩,
  ⟨0, (wC |> fun s => (s).setMka 0 ({ (s.mka 0) with helloAt := 10 ^ 16 })), _, 0,
    rfl, by decide +kernel⟩,
  ⟨0, (wC |> fun s => (s).setMka 4 ({ (s.mka 4) with peers := [(1, 0, 0)] })), _, 4, 1, 0, 0,
    rfl, by decide +kernel⟩,
  ⟨0, (wC |> fun s => (s).setMka 3 ({ (s.mka 3) with slots := Vector.replicate 2 (some { ckn := [1], cak := [], domain := 0, failed := false }) })), _, 3, 0, 3,
    rfl, by decide +kernel⟩,
  ⟨0, (wC |> fun s => (s).setMka 4 ({ (s.mka 4) with slots := Vector.replicate 2 (some { ckn := [1], cak := [], domain := 0, failed := false }) })), _, 0, 3,
    rfl, by decide +kernel⟩,
  ⟨0, (wC |> fun s => { s with now := 10 ^ 15 }), _, 0, 0, 0,
    rfl, by decide +kernel⟩⟩

/-- Operands and states that meet the hypotheses of `Obligations.PairCommandsTakeEffect`. -/
theorem test_PairCommandsTakeEffect_hypotheses :
  (∃ (dt : Ps) (q : Packet) (s : State) (u : State), u = arrived q (s.elapse dt) ∧ ready (s.elapse dt) q 0x0901 = true ∧ u.sys.mode =
    .commission ∧ q.params = [1]) ∧
  (∃ (dt : Ps) (q : Packet) (s : State) (u : State) (v : State), u = arrived q (s.elapse dt) ∧ v = unpair (loseLink 3 { u with pair := { u.pair with pairEnable := false } })
    ∧ ready (s.elapse dt) q 0x0901 = true ∧ u.sys.mode = .commission ∧ q.params = [0]) ∧
  (∃ (dt : Ps) (q : Packet) (s : State) (u : State), u = arrived q (s.elapse dt) ∧ ready (s.elapse dt) q 0x0901 = true ∧ u.sys.mode ≠
    .commission) ∧
  (∃ (dt : Ps) (q : Packet) (s : State) (u : State), u = arrived q (s.elapse dt) ∧ ready (s.elapse dt) q 0x0902 = true ∧ q.params.length = 1
    ∧ fld q.params 0 1 ≤ 128) ∧
  (∃ (dt : Ps) (q : Packet) (s : State) (u : State), u = arrived q (s.elapse dt) ∧ ready (s.elapse dt) q 0x0903 = true ∧ q.params.length = 3
    ∧ fld q.params 0 1 ≤ 1 ∧ 1 ≤ fld q.params 1 2 ∧ fld q.params 1 2 ≤ 3600) ∧
  (∃ (dt : Ps) (q : Packet) (s : State) (u : State), u = arrived q (s.elapse dt) ∧ ready (s.elapse dt) q 0x0904 = true ∧ q.params = [] ∧
    u.pair.state = .unpaired) ∧
  (∃ (dt : Ps) (q : Packet) (s : State) (u : State), u = arrived q (s.elapse dt) ∧ ready (s.elapse dt) q 0x0904 = true ∧ q.params = [] ∧
    u.pair.state ≠ .unpaired ∧ (u.mismatch = true ∨ u.pair.requested = true ∨ u.pair.declared.isSome = true ∨ (u.pair.state ≠
    .activePaired ∧ u.pair.state ≠ .standby) ∨ (u.pair.state = .activePaired ∧ (u.pair.partnerMode ≠ Mode.standby.code ∨
    u.pair.partnerState = PairState.handingOver.code)))) ∧
  (∃ (dt : Ps) (q : Packet) (s : State) (u : State), u = arrived q (s.elapse dt) ∧ ready (s.elapse dt) q 0x0904 = true ∧ q.params = [] ∧
    u.pair.state = .activePaired ∧ u.pair.partnerMode = Mode.standby.code ∧ u.pair.partnerState ≠ PairState.handingOver.code ∧ u.mismatch
    = false ∧ u.pair.requested = false ∧ u.pair.declared = none) ∧
  (∃ (dt : Ps) (q : Packet) (s : State) (u : State), u = arrived q (s.elapse dt) ∧ ready (s.elapse dt) q 0x0904 = true ∧ q.params = [] ∧
    u.pair.state = .standby ∧ u.mismatch = false ∧ u.pair.requested = false ∧ u.pair.declared = none) ∧
  (∃ (dt : Ps) (q : Packet) (s : State) (u : State) (v : State), u = arrived q (s.elapse dt) ∧ v = notePartner u { u with pair := { u.pair with fedEnable := true } }
    ∧ ready (s.elapse dt) q 0x0905 = true ∧ u.sys.mode = .commission ∧ q.params = [1]) ∧
  (∃ (dt : Ps) (q : Packet) (s : State) (u : State) (v : State), u = arrived q (s.elapse dt) ∧ v = notePartner u ([0, 1, 2].foldl (fun s k
    => loseLink k s) { u with pair := { u.pair with fedEnable := false } }) ∧ ready (s.elapse dt) q 0x0905 = true ∧ u.sys.mode =
    .commission ∧ q.params = [0]) ∧
  (∃ (dt : Ps) (q : Packet) (s : State) (u : State), u = arrived q (s.elapse dt) ∧ ready (s.elapse dt) q 0x0906 = true ∧ q.params = []) ∧
  (∃ (dt : Ps) (q : Packet) (s : State) (u : State), u = arrived q (s.elapse dt) ∧ ready (s.elapse dt) q 0x0907 = true ∧ q.params = [0]) ∧
  (∃ (dt : Ps) (q : Packet) (s : State) (u : State), u = arrived q (s.elapse dt) ∧ ready (s.elapse dt) q 0x0907 = true ∧ q.params = [1]) :=
  ⟨⟨0, (pk ([1])), (wC |> fun s => { s with sys := { s.sys with mode := .commission } }), _,
    rfl, by decide +kernel⟩,
  ⟨0, (pk ([0])), (wC |> fun s => { s with sys := { s.sys with mode := .commission } }), _, _,
    rfl, rfl, by decide +kernel⟩,
  ⟨0, (pk ([])), (wC |> fun s => { s with sys := { s.sys with mode := .service } }), _,
    rfl, by decide +kernel⟩,
  ⟨0, (pk (pz 1 [(0,1,128)])), wC, _,
    rfl, by decide +kernel⟩,
  ⟨0, (pk (pz 3 [(0,1,1), (1,2,3600)])), wC, _,
    rfl, by decide +kernel⟩,
  ⟨0, (pk ([])), (wC |> fun s => { s with pair := { s.pair with state := .unpaired } }), _,
    rfl, by decide +kernel⟩,
  ⟨0, (pk ([])), (wC |> fun s => { s with pair := { s.pair with state := .standby } } |> fun s => { s with pair := { s.pair with requested := true } }), _,
    rfl, by decide +kernel⟩,
  ⟨0, (pk ([])), (wC |> fun s => { s with pair := { s.pair with state := .activePaired } } |> fun s => { s with pair := { s.pair with requested := false } } |> fun s => { s with pair := { s.pair with declared := none } } |> fun s => { s with pair := { s.pair with partnerMode := Mode.standby.code } }), _,
    rfl, by decide +kernel⟩,
  ⟨0, (pk ([])), (wC |> fun s => { s with pair := { s.pair with state := .standby } } |> fun s => { s with pair := { s.pair with requested := false } } |> fun s => { s with pair := { s.pair with declared := none } }), _,
    rfl, by decide +kernel⟩,
  ⟨0, (pk ([1])), (wC |> fun s => { s with sys := { s.sys with mode := .commission } }), _, _,
    rfl, rfl, by decide +kernel⟩,
  ⟨0, (pk ([0])), (wC |> fun s => { s with sys := { s.sys with mode := .commission } }), _, _,
    rfl, rfl, by decide +kernel⟩,
  ⟨0, (pk ([])), wC, _,
    rfl, by decide +kernel⟩,
  ⟨0, (pk ([0])), wC, _,
    rfl, by decide +kernel⟩,
  ⟨0, (pk ([1])), wC, _,
    rfl, by decide +kernel⟩⟩

/-- Operands and states that meet the hypotheses of `Obligations.PeerFramesTakeEffect`. -/
theorem test_PeerFramesTakeEffect_hypotheses :
  (∃ (dt : Ps) (s : State) (u : State) (k : Nat), u = s.elapse dt ∧ (k < 3 ∧ u.online = true ∧ u.pair.fedEnable = true ∨ k = 3 ∧ u.peersUp =
    true ∧ u.pair.pairEnable = true) ∧ (u.link k).state = .down) ∧
  (∃ (dt : Ps) (s : State) (u : State) (k : Nat), u = s.elapse dt ∧ k < 4 ∧ (u.link k).state ≠ .down) ∧
  (∃ (dt : Ps) (s : State) (u : State) (k : Nat) (m : HelloMsg), u = s.elapse dt ∧ k < 3 ∧ (u.link k).state = .training ∧ m.ok = true ∧
    m.lseq = (u.link k).rxSeq ∧ m.position = (u.position + k + 1) % 4 ∧ m.position ≠ u.position ∧ m.fwVer = u.fwVer ∧ m.catVer = u.catVer) ∧
  (∃ (dt : Ps) (s : State) (u : State) (k : Nat) (m : HelloMsg), u = s.elapse dt ∧ k < 3 ∧ (u.link k).state = .training ∧ m.ok = true ∧
    m.lseq = (u.link k).rxSeq) ∧
  (∃ (dt : Ps) (s : State) (u : State) (m : HelloMsg), u = s.elapse dt ∧ (u.link 3).state = .training ∧ m.ok = true ∧ m.lseq = (u.link
    3).rxSeq ∧ m.position = u.position) ∧
  (∃ (dt : Ps) (s : State) (u : State) (m : HelloMsg), u = s.elapse dt ∧ (u.link 3).state = .training ∧ m.ok = true ∧ m.lseq = (u.link
    3).rxSeq ∧ m.position ≠ u.position) ∧
  (∃ (dt : Ps) (s : State) (u : State) (k : Nat) (m : HelloMsg), u = s.elapse dt ∧ (u.link k).state ≠ .down ∧ m.ok = true ∧ m.lseq ≠ (u.link
    k).rxSeq) ∧
  (∃ (dt : Ps) (s : State) (u : State) (k : Nat) (m : HelloMsg), u = s.elapse dt ∧ (u.link k).state ≠ .down ∧ m.ok = false) ∧
  (∃ (dt : Ps) (s : State) (u : State) (k : Nat), u = s.elapse dt ∧ (u.link k).state = .refused ∧ u.peersUp = true ∧ (u.link k).helloAt +
    1000000000 ≤ u.now) ∧
  (∃ (dt : Ps) (s : State) (u : State) (k : Nat), u = s.elapse dt ∧ u.now < (u.link k).helloAt + 1000000000) ∧
  (∃ (dt : Ps) (s : State) (u : State) (x : PeerIn) (k : Nat) (lseq : Nat), u = s.elapse dt ∧ x.ok = true ∧ x.link = k ∧ k < 4 ∧ ((u.link
    k).state = .training ∨ (u.link k).state = .joined) ∧ u.host.executing = none) ∧
  (∃ (dt : Ps) (s : State) (u : State) (x : PeerIn) (lseq : Nat), u = s.elapse dt ∧ x.ok = true ∧ ((u.link x.link).state = .down ∨ (u.link
    x.link).state = .refused)) ∧
  (∃ (dt : Ps) (s : State) (u : State) (v : State) (x : PeerIn) (n : Nat) (i : Nat) (p : Nat), u = s.elapse dt ∧ v = u.setLink x.link { u.link x.link with cCrc := inc (u.link x.link).cCrc }
    ∧ x.ok = false ∧ (u.link x.link).state ≠ .down ∧ p < 4) ∧
  (∃ (dt : Ps) (s : State) (u : State) (k : Nat), u = s.elapse dt ∧ (u.link k).ackDue = true ∧ ((u.link k).state = .training ∨ (u.link
    k).state = .joined)) ∧
  (∃ (dt : Ps) (s : State) (u : State) (k : Nat), u = s.elapse dt ∧ ((u.link k).state = .down ∨ (u.link k).state = .refused)) ∧
  (∃ (dt : Ps) (s : State) (u : State) (k : Nat), u = s.elapse dt ∧ (u.link k).unacked ≠ [] ∧ ((u.link k).state = .training ∨ (u.link
    k).state = .joined) ∧ (u.link k).progressAt + 50000000 ≤ u.now) ∧
  (∃ (dt : Ps) (s : State) (u : State) (k : Nat) (z : Nat) (b : List Byte), u = s.elapse dt ∧ k < 3 ∧ z < 64 ∧ (u.link k).state = .joined ∧
    u.peersUp = true ∧ 32 ≤ b.length ∧ b.length ≤ 368) ∧
  (∃ (dt : Ps) (s : State) (u : State) (k : Nat) (z : Nat) (ok : Bool) (b : List Byte), u = s.elapse dt ∧ k < 3 ∧ z < 64 ∧ (u.link k).state
    = .joined ∧ u.peersUp = true ∧ (ok = false ∨ b.length < 32 ∨ 368 < b.length)) ∧
  (∃ (dt : Ps) (s : State) (u : State) (p : PeerIn) (k : Nat) (i : Nat) (gen : Nat) (z : Nat) (x : Zone) (m : Member), u = s.elapse dt ∧
    p.ok = true ∧ p.link = k ∧ k < 3 ∧ (u.link k).state = .joined ∧ tabGet? z u.align.zones = some x ∧ m ∈ x.members ∧ m.ref = { position := (u.position + k + 1) % 4, isLocal := false, index := i }) ∧
  (∃ (dt : Ps) (s : State) (u : State) (i : Nat) (k : Nat) (x : GenRepeat), u = s.elapse dt ∧ u.pair.genRepeats = [x] ∧ x.index = i ∧ x.sent
    = 1 ∧ x.nextAt ≤ u.now ∧ u.linkTo x.home = some k ∧ (u.link k).state = .joined) ∧
  (∃ (dt : Ps) (s : State) (u : State) (q : PeerSeq) (k : Nat) (i : Nat) (z : Nat) (e : Stamp), u = s.elapse dt ∧ k < 3 ∧ e < stampMod ∧
    (u.link k).state = .joined ∧ q.ok = true ∧ q.lseq = (u.link k).rxSeq ∧ i ≤ 16383 ∧ (u.ctx i).state ≠ .free ∧ belongs u { position := u.position, isLocal := false, index := i }
    = false) ∧
  (∃ (dt : Ps) (s : State) (u : State) (q : PeerSeq) (k : Nat) (i : Nat) (z : Nat) (e : Stamp), u = s.elapse dt ∧ k < 3 ∧ e < stampMod ∧
    (u.link k).state = .joined ∧ q.ok = true ∧ q.lseq = (u.link k).rxSeq ∧ ((u.ctx i).state = .free ∨ belongs u { position := u.position, isLocal := false, index := i }
    = true)) ∧
  (∃ (dt : Ps) (s : State) (u : State) (q : PeerSeq) (k : Nat) (i : Nat) (z : Nat) (e : Stamp), u = s.elapse dt ∧ k < 3 ∧ e < stampMod ∧
    (u.link k).state = .joined ∧ q.ok = true ∧ q.lseq = (u.link k).rxSeq ∧ i ≤ 16383 ∧ (u.ctx i).forward = some ((u.position + k + 1) % 4,
    z)) :=
  ⟨⟨0, (wC |> fun s => (s).setLink 0 ({ (s.link 0) with state := .down }) |> fun s => { s with pair := { s.pair with fedEnable := true } }), _, 0,
    rfl, by decide +kernel⟩,
  ⟨0, (wC |> fun s => (s).setLink 3 ({ (s.link 3) with state := .joined })), _, 3,
    rfl, by decide +kernel⟩,
  ⟨0, (wC |> fun s => (s).setLink 2 ({ (s.link 2) with state := .training }) |> fun s => (s).setLink 2 ({ (s.link 2) with rxSeq := ({ wHello with position := 3 }).lseq })), _, 2, ({ wHello with position := 3 }),
    rfl, by decide +kernel⟩,
  ⟨0, (wC |> fun s => (s).setLink 2 ({ (s.link 2) with state := .training }) |> fun s => (s).setLink 2 ({ (s.link 2) with rxSeq := (({ wHello with ok := true })).lseq })), _, 2, ({ wHello with ok := true }),
    rfl, by decide +kernel⟩,
  ⟨0, (wC |> fun s => (s).setLink 3 ({ (s.link 3) with state := .training }) |> fun s => (s).setLink 3 ({ (s.link 3) with rxSeq := (({ wHello with ok := true })).lseq })), _, ({ wHello with ok := true }),
    rfl, by decide +kernel⟩,
  ⟨0, (wC |> fun s => (s).setLink 3 ({ (s.link 3) with state := .training }) |> fun s => (s).setLink 3 ({ (s.link 3) with rxSeq := (({ { wHello with ok := true } with position := 1 })).lseq })), _, ({ { wHello with ok := true } with position := 1 }),
    rfl, by decide +kernel⟩,
  ⟨0, (wC |> fun s => (s).setLink 3 ({ (s.link 3) with state := .joined })), _, 3, ({ wHello with lseq := 1 }),
    rfl, by decide +kernel⟩,
  ⟨0, (wC |> fun s => (s).setLink 0 ({ (s.link 0) with state := .joined })), _, 0, ({ wHello with ok := false }),
    rfl, by decide +kernel⟩,
  ⟨0, (wC |> fun s => (s).setLink 0 ({ (s.link 0) with state := .refused })), _, 0,
    rfl, by decide +kernel⟩,
  ⟨0, (wC |> fun s => (s).setLink 0 ({ (s.link 0) with helloAt := 10 ^ 16 })), _, 0,
    rfl, by decide +kernel⟩,
  ⟨0, (wC |> fun s => (s).setLink 3 ({ (s.link 3) with state := .training }) |> fun s => { s with host := { s.host with executing := none } }), _, ({ { ({ link := 0 } : PeerIn) with ok := true } with link := 3 }), 3, 0,
    rfl, by decide +kernel⟩,
  ⟨0, wC, _, ({ ({ link := 0 } : PeerIn) with ok := true }), 0,
    rfl, by decide +kernel⟩,
  ⟨0, (wC |> fun s => (s).setLink 2 ({ (s.link 2) with state := .joined })), _, _, ({ link := 2, ok := false }), 0, 0, 3,
    rfl, rfl, by decide +kernel⟩,
  ⟨0, (wC |> fun s => (s).setLink 0 ({ (s.link 0) with ackDue := true }) |> fun s => (s).setLink 0 ({ (s.link 0) with state := .training })), _, 0,
    rfl, by decide +kernel⟩,
  ⟨0, (wC |> fun s => (s).setLink 0 ({ (s.link 0) with state := .down })), _, 0,
    rfl, by decide +kernel⟩,
  ⟨0, (wC |> fun s => (s).setLink 0 ({ (s.link 0) with state := .training }) |> fun s => (s).setLink 0 ({ (s.link 0) with unacked := [(0, 0, [])] }) |> fun s => (s).setLink 0 ({ (s.link 0) with state := .joined })), _, 0,
    rfl, by decide +kernel⟩,
  ⟨0, (wC |> fun s => (s).setLink 2 ({ (s.link 2) with state := .joined })), _, 2, 63, (List.replicate 32 0),
    rfl, by decide +kernel⟩,
  ⟨0, (wC |> fun s => (s).setLink 2 ({ (s.link 2) with state := .joined })), _, 2, 63, true, ([]),
    rfl, by decide +kernel⟩,
  ⟨0, (wC |> fun s => (s).setLink 0 ({ (s.link 0) with state := .joined }) |> fun s => { s with align := { s.align with zones := [(0, { wC.zone 0 with members := [{ wMem with ref := { position := 1, index := 5 } }] })] } }), _, ({ { ({ link := 0 } : PeerIn) with ok := true } with link := 0 }), 0, 5, 0, 0, ({ wC.zone 0 with members := [{ wMem with ref := { position := 1, index := 5 } }] }), ({ wMem with ref := { position := 1, index := 5 } }),
    rfl, by decide +kernel⟩,
  ⟨0, (wC |> fun s => { s with pair := { s.pair with genRepeats := [({ wGr with home := 1, sent := 1 })] } } |> fun s => (s).setLink 0 ({ (s.link 0) with state := .joined }) |> fun s => { s with pair := { s.pair with genRepeats := [{ wGr with home := 1, sent := 1 }] } }), _, 0, 0, ({ wGr with home := 1, sent := 1 }),
    rfl, by decide +kernel⟩,
  ⟨0, (wC |> fun s => (s).setLink 2 ({ (s.link 2) with state := .joined }) |> fun s => (s).setLink 2 ({ (s.link 2) with rxSeq := (({ ({ lseq := 0 } : PeerSeq) with ok := true })).lseq }) |> fun s => (s).setCtx 16383 ({ (s.ctx 16383) with state := .receiving })), _, ({ ({ lseq := 0 } : PeerSeq) with ok := true }), 2, 16383, 0, 0,
    rfl, by decide +kernel⟩,
  ⟨0, (wC |> fun s => (s).setLink 2 ({ (s.link 2) with state := .joined }) |> fun s => (s).setLink 2 ({ (s.link 2) with rxSeq := (({ ({ lseq := 0 } : PeerSeq) with ok := true })).lseq }) |> fun s => (s).setCtx 0 ({ (s.ctx 0) with state := .free })), _, ({ ({ lseq := 0 } : PeerSeq) with ok := true }), 2, 0, 0, 0,
    rfl, by decide +kernel⟩,
  ⟨0, (wC |> fun s => (s).setLink 0 ({ (s.link 0) with state := .joined }) |> fun s => (s).setCtx 16383 ({ (s.ctx 16383) with forward := some (1, 63) })), _, ({ ({ lseq := 0 } : PeerSeq) with ok := true }), 0, 16383, 63, 0,
    rfl, by decide +kernel⟩⟩

/-- Operands and states that meet the hypotheses of `Obligations.PairEventsTakeEffect`. -/
theorem test_PairEventsTakeEffect_hypotheses :
  (∃ (dt : Ps) (s : State) (u : State) (k : Nat) (m : HeartbeatMsg), u = s.elapse dt ∧ k < 3 ∧ (u.link k).state = .joined ∧ u.peersUp =
    true) ∧
  (∃ (dt : Ps) (s : State) (u : State) (k : Nat) (m : HeartbeatMsg), u = s.elapse dt ∧ (u.link k).state = .joined ∧ u.peersUp = true) ∧
  (∃ (dt : Ps) (s : State) (u : State) (m : HeartbeatMsg), u = s.elapse dt ∧ (u.link 3).state = .joined ∧ u.peersUp = true ∧ u.pair.state =
    .standby ∧ (m.yield = true ∨ m.mode ≠ Mode.active.code) ∧ u.host.executing = none) ∧
  (∃ (dt : Ps) (s : State) (u : State) (m : HeartbeatMsg), u = s.elapse dt ∧ (u.link 3).state = .joined ∧ u.peersUp = true ∧ u.pair.state =
    .activeAlone ∧ m.mode = Mode.standby.code ∧ m.mirrored = true ∧ u.pair.partnerMode = Mode.standby.code) ∧
  (∃ (dt : Ps) (s : State) (u : State) (k : Nat), u = s.elapse dt ∧ u.peersUp = true ∧ (u.link k).hbSentAt + 100000000 ≤ u.now) ∧
  (∃ (dt : Ps) (s : State) (u : State) (k : Nat), u = s.elapse dt ∧ (u.peersUp = false ∨ u.now < (u.link k).hbSentAt + 100000000)) ∧
  (∃ (dt : Ps) (s : State) (u : State) (k : Nat) (h : Ps), u = s.elapse dt ∧ k < 4 ∧ (u.link k).state = .joined ∧ (u.link k).lastHb = some h
    ∧ h + ((u.link k).missed + 1) * 100000000 ≤ u.now ∧ (u.link k).missed < 2) ∧
  (∃ (dt : Ps) (s : State) (u : State) (k : Nat) (h : Ps), u = s.elapse dt ∧ k < 4 ∧ (u.link k).state = .joined ∧ (u.link k).lastHb = some h
    ∧ h + ((u.link k).missed + 1) * 100000000 ≤ u.now ∧ 2 ≤ (u.link k).missed) ∧
  (∃ (dt : Ps) (s : State) (u : State), u = s.elapse dt ∧ u.peersUp = true ∧ u.pair.eclipseFrom.isSome = true ∧ u.pair.eclipseFrom.getD 0 +
    300000000 ≤ u.now) ∧
  (∃ (s : State), (s.pair.state = .standby ∨ s.pair.state = .takingBack) ∧ s.host.executing = none) ∧
  (∃ (dt : Ps) (s : State) (u : State), u = s.elapse dt ∧ u.pair.state = .listen ∧ u.peersUp = true ∧ u.pair.listenFrom + (if u.primary then
    1000000000 else 2000000000) ≤ u.now) ∧
  (∃ (dt : Ps) (s : State) (u : State) (d : Ps), u = s.elapse dt ∧ u.pair.declared = some d ∧ (u.pair.state = .standby ∨ u.pair.state =
    .takingBack) ∧ u.peersUp = true) ∧
  (∃ (dt : Ps) (s : State) (u : State), u = s.elapse dt ∧ (u.pair.declared = none ∨ (u.pair.state ≠ .standby ∧ u.pair.state ≠ .takingBack) ∨
    u.peersUp = false)) ∧
  (∃ (dt : Ps) (s : State) (u : State) (x : PeerIn) (pos : Nat), u = s.elapse dt ∧ pos < 4 ∧ x.ok = true ∧ x.link = 3 ∧ (u.link 3).state =
    .joined ∧ u.active = true ∧ u.pair.state ≠ .unpaired) ∧
  (∃ (dt : Ps) (s : State) (u : State) (x : PeerIn) (pos : Nat), u = s.elapse dt ∧ pos < 4 ∧ x.ok = true ∧ x.link < 3 ∧ (u.link
    x.link).state = .joined ∧ (u.pair.state = .standby ∨ u.pair.state = .takingBack ∨ u.pair.state = .handingOver)) ∧
  (∃ (dt : Ps) (s : State) (u : State) (t0 : Ps), u = s.elapse dt ∧ u.pair.holdFrom = some t0 ∧ holdOk u = true ∧ u.pair.requested = false ∧
    t0 + u.pair.holdTime * 1000000000000 ≤ u.now) ∧
  (∃ (dt : Ps) (s : State) (u : State) (v : State) (q : PeerSeq), u = s.elapse dt ∧ takeB 3 q false u = (true, v) ∧ v.pair.state =
    .activePaired ∧ v.pair.partnerState ≠ PairState.handingOver.code ∧ v.mismatch = false) ∧
  (∃ (dt : Ps) (s : State) (u : State) (v : State) (q : PeerSeq), u = s.elapse dt ∧ takeB 3 q false u = (true, v) ∧ v.pair.state =
    .activePaired ∧ v.pair.partnerState ≠ PairState.handingOver.code ∧ v.mismatch = true) ∧
  (∃ (dt : Ps) (s : State) (u : State) (v : State) (q : PeerSeq), u = s.elapse dt ∧ takeB 3 q false u = (true, v) ∧ (v.pair.state =
    .handingOver ∨ v.pair.state = .takingBack ∨ (v.pair.state = .activePaired ∧ v.pair.partnerState = PairState.handingOver.code))) ∧
  (∃ (dt : Ps) (s : State) (u : State) (v : State) (q : PeerSeq), u = s.elapse dt ∧ takeB 3 q false u = (true, v) ∧ (v.pair.state =
    .unpaired ∨ v.pair.state = .listen ∨ v.pair.state = .activeAlone ∨ v.pair.state = .standby)) ∧
  (∃ (dt : Ps) (s : State) (u : State) (v : State) (q : PeerSeq) (h : Stamp), u = s.elapse dt ∧ takeB 3 q false u = (true, v) ∧ v.pair.state
    = .standby ∧ v.pair.declared = none ∧ v.host.executing = none) ∧
  (∃ (dt : Ps) (s : State) (u : State) (v : State) (q : PeerSeq) (reason : Nat), u = s.elapse dt ∧ takeB 3 q false u = (true, v) ∧ 1 ≤
    reason ∧ reason ≤ 3 ∧ v.host.executing = none) ∧
  (∃ (dt : Ps) (s : State) (u : State) (h : Stamp) (p : Ps), u = s.elapse dt ∧ u.pair.state = .takingBack ∧ u.pair.handover = some (h, p) ∧
    stampGe u.stamp h = true ∧ u.peersUp = true) ∧
  (∃ (dt : Ps) (s : State) (u : State) (h : Stamp) (p : Ps), u = s.elapse dt ∧ u.pair.state = .handingOver ∧ u.pair.handover = some (h, p) ∧
    p ≤ u.now ∧ (txDrained u = true ∨ p + 3100000000000 ≤ u.now)) ∧
  (∃ (dt : Ps) (s : State) (u : State) (h : Stamp) (p : Ps), u = s.elapse dt ∧ u.pair.handover = some (h, p) ∧ (u.now < p ∨ (txDrained u =
    false ∧ u.now < p + 3100000000000))) ∧
  (∃ (dt : Ps) (s : State) (u : State) (v : State) (q : PeerSeq) (m : MirrorItem), u = s.elapse dt ∧ takeB 3 q false u = (true, v) ∧
    v.pair.state ≠ .handingOver ∧ v.sys.mode = .standby ∧ v.pair.declared = none) ∧
  (∃ (dt : Ps) (s : State) (u : State) (v : State) (q : PeerSeq) (m : MirrorItem), u = s.elapse dt ∧ takeB 3 q false u = (true, v) ∧
    v.pair.state = .handingOver) ∧
  (∃ (dt : Ps) (s : State) (u : State) (v : State) (q : PeerSeq) (m : MirrorItem), u = s.elapse dt ∧ takeB 3 q false u = (true, v) ∧
    v.pair.state ≠ .handingOver ∧ (v.sys.mode ≠ .standby ∨ v.pair.declared.isSome = true)) ∧
  (∃ (dt : Ps) (s : State) (u : State) (v : State) (q : PeerSeq) (m : MirrorItem) (h : Stamp) (k : Nat), u = s.elapse dt ∧ takeB 3 q false u
    = (false, v) ∧ 1 ≤ k ∧ k ≤ 3) ∧
  (∃ (s : State) (k : Nat) (q : PeerSeq), q.ok = true) ∧
  (∃ (s : State) (k : Nat) (q : PeerSeq), q.ok = false ∧ (s.link k).state ≠ .down) :=
  ⟨⟨0, (wC |> fun s => (s).setLink 2 ({ (s.link 2) with state := .joined })), _, 2, wBeat,
    rfl, by decide +kernel⟩,
  ⟨0, (wC |> fun s => (s).setLink 0 ({ (s.link 0) with state := .joined })), _, 0, wBeat,
    rfl, by decide +kernel⟩,
  ⟨0, (wC |> fun s => (s).setLink 3 ({ (s.link 3) with state := .joined }) |> fun s => { s with pair := { s.pair with state := .standby } } |> fun s => { s with host := { s.host with executing := none } }), _, ({ wBeat with yield := true }),
    rfl, by decide +kernel⟩,
  ⟨0, (wC |> fun s => (s).setLink 3 ({ (s.link 3) with state := .joined }) |> fun s => { s with pair := { s.pair with state := .activeAlone } } |> fun s => { s with pair := { s.pair with partnerMode := 3 } }), _, ({ wBeat with mode := 3, mirrored := true }),
    rfl, by decide +kernel⟩,
  ⟨0, wC, _, 0,
    rfl, by decide +kernel⟩,
  ⟨0, (wC |> fun s => (s).setLink 0 ({ (s.link 0) with hbSentAt := 10 ^ 15 })), _, 0,
    rfl, by decide +kernel⟩,
  ⟨0, (wC |> fun s => (s).setLink 3 ({ (s.link 3) with state := .joined }) |> fun s => (s).setLink 3 ({ (s.link 3) with lastHb := some (0) })), _, 3, 0,
    rfl, by decide +kernel⟩,
  ⟨0, (wC |> fun s => (s).setLink 3 ({ (s.link 3) with state := .joined }) |> fun s => (s).setLink 3 ({ (s.link 3) with lastHb := some (0) }) |> fun s => (s).setLink 3 ({ (s.link 3) with missed := 2 })), _, 3, 0,
    rfl, by decide +kernel⟩,
  ⟨0, (wC |> fun s => { s with pair := { s.pair with eclipseFrom := some 0 } }), _,
    rfl, by decide +kernel⟩,
  ⟨(wC |> fun s => { s with pair := { s.pair with state := .standby } } |> fun s => { s with host := { s.host with executing := none } }),
    by decide +kernel⟩,
  ⟨0, (wC |> fun s => { s with pair := { s.pair with state := .listen } }), _,
    rfl, by decide +kernel⟩,
  ⟨0, (wC |> fun s => { s with pair := { s.pair with declared := some (0) } } |> fun s => { s with pair := { s.pair with state := .standby } }), _, 0,
    rfl, by decide +kernel⟩,
  ⟨0, (wC |> fun s => { s with pair := { s.pair with declared := none } }), _,
    rfl, by decide +kernel⟩,
  ⟨0, (wC |> fun s => (s).setLink 3 ({ (s.link 3) with state := .joined }) |> fun s => { s with sys := { s.sys with mode := .active } } |> fun s => { s with pair := { s.pair with state := .standby } }), _, ({ { ({ link := 0 } : PeerIn) with ok := true } with link := 3 }), 3,
    rfl, by decide +kernel⟩,
  ⟨0, (wC |> fun s => { s with pair := { s.pair with state := .standby } } |> fun s => (s).setLink 2 ({ (s.link 2) with state := .joined }) |> fun s => { s with pair := { s.pair with state := .handingOver } }), _, ({ link := 2 }), 3,
    rfl, by decide +kernel⟩,
  ⟨0, (wC |> fun s => { s with pair := { s.pair with holdFrom := some (0) } } |> fun s => { s with pair := { s.pair with requested := false } } |> fun s => (s).setLink 3 ({ (s.link 3) with state := .joined }) |> fun s => { s with pair := { s.pair with holdFrom := some 0 } } |> fun s => { s with pair := { s.pair with state := .standby } } |> fun s => { s with pair := { s.pair with revert := true } } |> fun s => { s with pair := { s.pair with mirrored := true } } |> fun s => { s with time := { s.time with servo := .locked } } |> fun s => { s with pair := { s.pair with partnerDigest := s.digest } }), _, 0,
    rfl, by decide +kernel⟩,
  ⟨0, (wC |> fun s => (s).setLink 3 ({ (s.link 3) with state := .joined }) |> fun s => { s with pair := { s.pair with state := .activePaired } } |> fun s => { s with pair := { s.pair with partnerDigest := s.digest } }), _, _, (({ lseq := 0 } : PeerSeq)),
    rfl, rfl, by decide +kernel⟩,
  ⟨0, (wC |> fun s => (s).setLink 3 ({ (s.link 3) with state := .joined }) |> fun s => { s with pair := { s.pair with state := .activePaired } } |> fun s => { s with pair := { s.pair with partnerDigest := 1 } }), _, _, (({ lseq := 0 } : PeerSeq)),
    rfl, rfl, by decide +kernel⟩,
  ⟨0, (wC |> fun s => (s).setLink 3 ({ (s.link 3) with state := .joined }) |> fun s => { s with pair := { s.pair with state := .handingOver } }), _, _, (({ lseq := 0 } : PeerSeq)),
    rfl, rfl, by decide +kernel⟩,
  ⟨0, (wC |> fun s => (s).setLink 3 ({ (s.link 3) with state := .joined })), _, _, (({ lseq := 0 } : PeerSeq)),
    rfl, rfl, by decide +kernel⟩,
  ⟨0, (wC |> fun s => (s).setLink 3 ({ (s.link 3) with state := .joined }) |> fun s => { s with pair := { s.pair with state := .standby } }), _, _, (({ lseq := 0 } : PeerSeq)), 0,
    rfl, rfl, by decide +kernel⟩,
  ⟨0, (wC |> fun s => (s).setLink 3 ({ (s.link 3) with state := .joined })), _, _, (({ lseq := 0 } : PeerSeq)), 1,
    rfl, rfl, by decide +kernel⟩,
  ⟨0, (wC |> fun s => { s with pair := { s.pair with state := .takingBack } } |> fun s => { s with pair := { s.pair with handover := some ((0), (0)) } }), _, 0, 0,
    rfl, by decide +kernel⟩,
  ⟨0, (wC |> fun s => { s with pair := { s.pair with state := .handingOver } } |> fun s => { s with pair := { s.pair with handover := some ((0), (0)) } }), _, 0, 0,
    rfl, by decide +kernel⟩,
  ⟨0, (wC |> fun s => { s with pair := { s.pair with handover := some ((0), (10 ^ 16)) } } |> fun s => { s with pair := { s.pair with handover := some (0, 10 ^ 16) } }), _, 0, (10 ^ 16),
    rfl, by decide +kernel⟩,
  ⟨0, (wC |> fun s => (s).setLink 3 ({ (s.link 3) with state := .joined }) |> fun s => { s with sys := { s.sys with mode := .standby } }), _, _, ({ lseq := 0 }), .fullDone,
    rfl, rfl, by decide +kernel⟩,
  ⟨0, (wC |> fun s => (s).setLink 3 ({ (s.link 3) with state := .joined }) |> fun s => { s with sys := { s.sys with mode := .standby } } |> fun s => { s with pair := { s.pair with state := .handingOver } }), _, _, ({ lseq := 0 }), .fullDone,
    rfl, rfl, by decide +kernel⟩,
  ⟨0, (wC |> fun s => (s).setLink 3 ({ (s.link 3) with state := .joined })), _, _, (({ lseq := 0 } : PeerSeq)), .fullDone,
    rfl, rfl, by decide +kernel⟩,
  ⟨0, wC, _, _, (({ lseq := 0 } : PeerSeq)), .fullDone, 0, 3,
    rfl, rfl, by decide +kernel⟩,
  ⟨wC, 0, ({ ({ lseq := 0 } : PeerSeq) with ok := true }),
    by decide +kernel⟩,
  ⟨(wC |> fun s => (s).setLink 0 ({ (s.link 0) with state := .joined })), 0, ({ ({ lseq := 0 } : PeerSeq) with ok := false }),
    by decide +kernel⟩⟩

/-- Operands and states that meet the hypotheses of `Obligations.IntegrityCommandsTakeEffect`. -/
theorem test_IntegrityCommandsTakeEffect_hypotheses :
  (∃ (dt : Ps) (q : Packet) (s : State) (u : State), u = arrived q (s.elapse dt) ∧ ready (s.elapse dt) q 0x0A01 = true ∧ q.params = []) ∧
  (∃ (dt : Ps) (q : Packet) (s : State) (u : State) (es : List LogEntry), u = arrived q (s.elapse dt) ∧ es = u.integ.log.take (fld q.params
    0 1) ∧ ready (s.elapse dt) q 0x0A02 = true ∧ q.params.length = 1 ∧ 1 ≤ fld q.params 0 1 ∧ fld q.params 0 1 ≤ 64) ∧
  (∃ (dt : Ps) (q : Packet) (s : State) (u : State), u = arrived q (s.elapse dt) ∧ ready (s.elapse dt) q 0x0A03 = true ∧ q.params.length = 4
    ∧ fld q.params 0 1 ≤ 1 ∧ 70 ≤ fld q.params 1 1 ∧ fld q.params 1 1 ≤ 104 ∧ (fld q.params 2 2 = 0 ∨ 10 ≤ fld q.params 2 2 ∧ fld q.params
    2 2 ≤ 3600)) ∧
  (∃ (dt : Ps) (q : Packet) (s : State) (u : State), u = arrived q (s.elapse dt) ∧ ready (s.elapse dt) q 0x0A04 = true ∧ (u.sys.mode =
    .commission ∨ u.sys.mode = .service) ∧ q.params.length = 12 ∧ fld q.params 0 1 ≤ 14 ∧ fld q.params 2 1 ≤ 2 ∧ (fld q.params 2 1 = 2 →
    fld q.params 0 1 = 13) ∧ fld q.params 11 1 ≤ 38 ∧ fld q.params 1 1 < injectIndexes (fld q.params 0 1) ∧ fld q.params 3 8 < injectReach
    u (fld q.params 0 1)) ∧
  (∃ (dt : Ps) (q : Packet) (s : State) (u : State), u = arrived q (s.elapse dt) ∧ ready (s.elapse dt) q 0x0A04 = true ∧ (u.sys.mode =
    .commission ∨ u.sys.mode = .service) ∧ q.params.length = 12 ∧ fld q.params 0 1 ≤ 14 ∧ fld q.params 2 1 ≤ 1 ∧ injectIndexes (fld
    q.params 0 1) ≤ fld q.params 1 1) ∧
  (∃ (dt : Ps) (q : Packet) (s : State) (u : State), u = arrived q (s.elapse dt) ∧ ready (s.elapse dt) q 0x0A04 = true ∧ (u.sys.mode =
    .commission ∨ u.sys.mode = .service) ∧ q.params.length = 12 ∧ fld q.params 0 1 ≤ 14 ∧ fld q.params 2 1 ≤ 1 ∧ fld q.params 1 1 <
    injectIndexes (fld q.params 0 1) ∧ injectReach u (fld q.params 0 1) ≤ fld q.params 3 8) ∧
  (∃ (dt : Ps) (q : Packet) (s : State) (u : State), u = arrived q (s.elapse dt) ∧ ready (s.elapse dt) q 0x0A04 = true ∧ (u.sys.mode =
    .commission ∨ u.sys.mode = .service) ∧ q.params.length = 12 ∧ fld q.params 2 1 = 3 ∧ fld q.params 1 1 < 12 ∧ fld q.params 11 1 ≤ 38 ∧
    (∃ f, f < 12 ∧ f ≠ fld q.params 1 1 ∧ (u.engine f).state ≠ .offline)) ∧
  (∃ (dt : Ps) (q : Packet) (s : State) (u : State), u = arrived q (s.elapse dt) ∧ ready (s.elapse dt) q 0x0A04 = true ∧ (u.sys.mode =
    .commission ∨ u.sys.mode = .service) ∧ q.params.length = 12 ∧ fld q.params 2 1 = 4 ∧ fld q.params 11 1 ≤ 38) ∧
  (∃ (dt : Ps) (q : Packet) (s : State) (u : State), u = arrived q (s.elapse dt) ∧ ready (s.elapse dt) q 0x0A04 = true ∧ (u.sys.mode =
    .commission ∨ u.sys.mode = .service) ∧ q.params.length = 12 ∧ fld q.params 2 1 = 5 ∧ fld q.params 11 1 ≤ 38) ∧
  (∃ (dt : Ps) (q : Packet) (s : State) (u : State), u = arrived q (s.elapse dt) ∧ ready (s.elapse dt) q 0x0A04 = true ∧ u.sys.mode ≠
    .commission ∧ u.sys.mode ≠ .service) ∧
  (∃ (dt : Ps) (q : Packet) (s : State) (u : State), u = arrived q (s.elapse dt) ∧ ready (s.elapse dt) q 0x0A05 = true ∧ u.sys.mode = .safe
    ∧ q.params = [] ∧ u.integ.clockFaults = [] ∧ u.integ.monitorUntil ≤ u.now ∧ u.integ.tj < 1600 ∧ (∃ e, e < 12 ∧ (u.engine e).state ≠
    .offline)) ∧
  (∃ (dt : Ps) (q : Packet) (s : State) (u : State), u = arrived q (s.elapse dt) ∧ ready (s.elapse dt) q 0x0A05 = true ∧ u.sys.mode = .safe
    ∧ q.params = [] ∧ (u.integ.clockFaults ≠ [] ∨ u.now < u.integ.monitorUntil ∨ 1600 ≤ u.integ.tj ∨ ∀ e, e < 12 → (u.engine e).state =
    .offline)) ∧
  (∃ (dt : Ps) (q : Packet) (s : State) (u : State), u = arrived q (s.elapse dt) ∧ ready (s.elapse dt) q 0x0A05 = true ∧ u.sys.mode ≠ .safe) ∧
  (∃ (dt : Ps) (q : Packet) (s : State) (u : State), u = arrived q (s.elapse dt) ∧ ready (s.elapse dt) q 0x0A06 = true ∧ q.params = []) ∧
  (∃ (dt : Ps) (q : Packet) (s : State) (u : State), u = arrived q (s.elapse dt) ∧ ready (s.elapse dt) q 0x0A07 = true ∧ q.params = [0]) ∧
  (∃ (dt : Ps) (q : Packet) (s : State) (u : State), u = arrived q (s.elapse dt) ∧ ready (s.elapse dt) q 0x0A07 = true ∧ q.params = [1]) :=
  ⟨⟨0, (pk ([])), wC, _,
    rfl, by decide +kernel⟩,
  ⟨0, (pk (pz 1 [(0,1,64)])), wC, _, _,
    rfl, rfl, by decide +kernel⟩,
  ⟨0, (pk (pz 4 [(0,1,1), (1,1,104)])), wC, _,
    rfl, by decide +kernel⟩,
  ⟨0, (pk (pz 12 [(0,1,13),(2,1,2),(11,1,38)])), (wC |> fun s => { s with sys := { s.sys with mode := .commission } }), _,
    rfl, by decide +kernel⟩,
  ⟨0, (pk (pz 12 [(0,1,8),(1,1,14)])), (wC |> fun s => { s with sys := { s.sys with mode := .commission } }), _,
    rfl, by decide +kernel⟩,
  ⟨0, (pk (pz 12 [(0,1,7),(3,8,131072)])), (wC |> fun s => { s with sys := { s.sys with mode := .commission } }), _,
    rfl, by decide +kernel⟩,
  ⟨0, (pk (pz 12 [(2,1,3), (11,1,38)])), (wC |> fun s => { s with sys := { s.sys with mode := .commission } }), _,
    rfl, by decide +kernel⟩,
  ⟨0, (pk (pz 12 [(2,1,4), (11,1,38)])), (wC |> fun s => { s with sys := { s.sys with mode := .commission } }), _,
    rfl, by decide +kernel⟩,
  ⟨0, (pk (pz 12 [(2,1,5), (11,1,38)])), (wC |> fun s => { s with sys := { s.sys with mode := .commission } }), _,
    rfl, by decide +kernel⟩,
  ⟨0, (pk ([])), (wC |> fun s => { s with sys := { s.sys with mode := .service } } |> fun s => { s with sys := { s.sys with mode := .active } }), _,
    rfl, by decide +kernel⟩,
  ⟨0, (pk ([])), (wC |> fun s => { s with sys := { s.sys with mode := .safe } } |> fun s => { s with integ := { s.integ with clockFaults := [] } }), _,
    rfl, by decide +kernel⟩,
  ⟨0, (pk ([])), (wC |> fun s => { s with sys := { s.sys with mode := .safe } } |> fun s => { s with integ := { s.integ with tj := 1600 } }), _,
    rfl, by decide +kernel⟩,
  ⟨0, (pk ([])), wC, _,
    rfl, by decide +kernel⟩,
  ⟨0, (pk ([])), wC, _,
    rfl, by decide +kernel⟩,
  ⟨0, (pk ([0])), wC, _,
    rfl, by decide +kernel⟩,
  ⟨0, (pk ([1])), wC, _,
    rfl, by decide +kernel⟩⟩

/-- Operands and states that meet the hypotheses of `Obligations.CheckCodeCorrectsAndDetects`. -/
theorem test_CheckCodeCorrectsAndDetects_hypotheses :
  (∃ (d : Word32) (a : Bool) (i : Nat), i < 32) ∧
  (∃ (d : Word32) (a : Bool) (j : Nat), j < 7) ∧
  (∃ (d : Word32) (a : Bool) (i : Nat) (j : Nat), i < j ∧ j < 32) ∧
  (∃ (d : Word32) (a : Bool) (i : Nat) (j : Nat), i < 32 ∧ j < 7) :=
  ⟨⟨0, true, 31,
    by decide +kernel⟩,
  ⟨0, true, 6,
    by decide +kernel⟩,
  ⟨0, true, 0, 31,
    by decide +kernel⟩,
  ⟨0, true, 31, 6,
    by decide +kernel⟩⟩

/-- Operands and states that meet the hypotheses of `Obligations.MemoryAndEngineFaultsTakeEffect`. -/
theorem test_MemoryAndEngineFaultsTakeEffect_hypotheses :
  (∃ (dt : Ps) (s : State) (u : State) (e : Nat) (n : Nat) (b : Bool) (r : RobEntry), u = s.elapse dt ∧ u.sys.phase = .running ∧ e < 12 ∧
    (u.engine e).state = .running ∧ (u.engine e).entry = some (n, b) ∧ tabGet? n u.kernel.rob = some r ∧ r.discard = false ∧ (∀ t, t ∈
    (u.engine e).aborts → t + 3600000000000000 ≤ u.now)) ∧
  (∃ (dt : Ps) (s : State) (u : State) (e : Nat) (t1 : Ps) (t2 : Ps) (rest : List Ps), u = s.elapse dt ∧ u.sys.phase = .running ∧ e < 12 ∧
    (u.engine e).state = .waiting ∧ (u.engine e).aborts = t1 :: t2 :: rest ∧ u.now < t1 + 3600000000000000 ∧ u.now < t2 + 3600000000000000
    ∧ (∃ f, f < 12 ∧ f ≠ e ∧ (u.engine f).state ≠ .offline)) ∧
  (∃ (dt : Ps) (s : State) (u : State) (e : Nat), u = s.elapse dt ∧ u.sys.phase = .running ∧ e < 12 ∧ (u.engine e).state = .selftest ∧
    (u.engine e).selftestEnd ≤ u.now) ∧
  (∃ (dt : Ps) (s : State) (u : State) (e : Nat), u = s.elapse dt ∧ u.sys.phase = .running ∧ e < 12 ∧ (u.engine e).state = .selftest ∧
    (u.engine e).selftestEnd ≤ u.now ∧ (∃ f, f < 12 ∧ f ≠ e ∧ (u.engine f).state ≠ .offline)) ∧
  (∃ (dt : Ps) (s : State) (u : State) (cls : Nat) (item : Nat) (addr : Nat) (stored : BitVec 39), u = s.elapse dt ∧ u.sys.phase = .running
    ∧ cls < 12 ∧ u.integ.injected = [] ∧ eccRead (stored.extractLsb' 0 32) (stored.extractLsb' 32 7) false false = .clean) ∧
  (∃ (dt : Ps) (s : State) (u : State) (cls : Nat) (item : Nat) (addr : Nat) (stored : BitVec 39) (d : Word32) (written : Bool), u =
    s.elapse dt ∧ eccRead (stored.extractLsb' 0 32) (stored.extractLsb' 32 7) false false = .corrected d ∧ u.sys.phase = .running ∧ cls <
    12 ∧ u.integ.injected = []) ∧
  (∃ (dt : Ps) (s : State) (u : State) (cls : Nat) (item : Nat) (addr : Nat) (stored : BitVec 39), u = s.elapse dt ∧ u.sys.phase = .running
    ∧ cls < 12 ∧ u.integ.injected = [] ∧ eccRead (stored.extractLsb' 0 32) (stored.extractLsb' 32 7) false false = .uncorrectable) ∧
  (∃ (s : State) (item : Nat) (addr : Nat) (y : Nat), addr < 6 ∧ (s.ctx item).state ≠ .free) ∧
  (∃ (s : State) (item : Nat) (addr : Nat) (y : Nat), 6 ≤ addr ∧ (s.ctx item).state ≠ .free) ∧
  (∃ (s : State) (item : Nat) (addr : Nat) (y : Nat), s.integ.tableContinue = false) ∧
  (∃ (dt : Ps) (s : State) (u : State) (item : ReserveItem) (stored : BitVec 39), u = s.elapse dt ∧ u.sys.phase ≠ .unpowered ∧
    u.integ.injected = [] ∧ eccRead (stored.extractLsb' 0 32) (stored.extractLsb' 32 7) false false = .uncorrectable) ∧
  (∃ (dt : Ps) (s : State) (u : State) (ch : Nat) (addr : Nat) (d : Word32) (chk : BitVec 8) (w : Word32), u = s.elapse dt ∧ u.sys.phase =
    .running ∧ ch < 2 ∧ u.sys.mode ≠ .dormant ∧ u.integ.injected = [] ∧ eccRead d (chk.extractLsb' 0 7) (chk.getLsbD 7) (addrParity addr)
    = .corrected w ∧ (vget [] u.integ.writeBacks ch).length < 16 ∧ addr / 64 ∉ vget [] u.integ.writeBacks ch) ∧
  (∃ (dt : Ps) (s : State) (u : State) (ch : Nat) (addr : Nat) (d : Word32) (chk : BitVec 8) (w : Word32), u = s.elapse dt ∧ u.sys.phase =
    .running ∧ ch < 2 ∧ u.sys.mode ≠ .dormant ∧ u.integ.injected = [] ∧ eccRead d (chk.extractLsb' 0 7) (chk.getLsbD 7) (addrParity addr)
    = .corrected w ∧ 16 ≤ (vget [] u.integ.writeBacks ch).length ∧ addr / 64 ∉ vget [] u.integ.writeBacks ch) ∧
  (∃ (s : State) (ch : Nat) (addr : Nat), injectedFlips 13 ch addr s = 0) ∧
  (∃ (s : State) (addr : Nat) (n : Nat) (ch : Nat), ch < 2) ∧
  (∃ (s : State) (cls : Nat) (item : Nat) (addr : Nat), injectedFlips cls item addr s = 0) ∧
  (∃ (dt : Ps) (s : State) (u : State) (ch : Nat) (w : Nat) (rest : List Nat), u = s.elapse dt ∧ ch < 2 ∧ vget [] u.integ.writeBacks ch = w
    :: rest) :=
  ⟨⟨0, (wC |> fun s => { s with sys := { s.sys with phase := .running } } |> fun s => (s).setEngine 11 ({ (s.engine 11) with state := .running }) |> fun s => (s).setEngine 11 ({ (s.engine 11) with entry := some ((0), (true)) }) |> fun s => { s with kernel := { s.kernel with rob := [(0, ({ wRob with discard := false }))] } }), _, 11, 0, true, ({ wRob with discard := false }),
    rfl, by decide +kernel⟩,
  ⟨0, (wC |> fun s => (s).setEngine 11 ({ (s.engine 11) with state := .waiting }) |> fun s => (s).setEngine 11 ({ (s.engine 11) with aborts := [10 ^ 15, 10 ^ 15] })), _, 11, (10 ^ 15), (10 ^ 15), ([]),
    rfl, by decide +kernel⟩,
  ⟨0, (wC |> fun s => { s with sys := { s.sys with phase := .running } } |> fun s => (s).setEngine 11 ({ (s.engine 11) with state := .selftest })), _, 11,
    rfl, by decide +kernel⟩,
  ⟨0, (wC |> fun s => { s with sys := { s.sys with phase := .running } } |> fun s => (s).setEngine 11 ({ (s.engine 11) with state := .selftest })), _, 11,
    rfl, by decide +kernel⟩,
  ⟨0, (wC |> fun s => { s with sys := { s.sys with phase := .running } } |> fun s => { s with integ := { s.integ with injected := [] } }), _, 11, 0, 0, 0,
    rfl, by decide +kernel⟩,
  ⟨0, (wC |> fun s => { s with sys := { s.sys with phase := .running } } |> fun s => { s with integ := { s.integ with injected := [] } }), _, 0, 0, 0, ((secdedCheck 0 false ++ 1#32)), _, true,
    rfl, rfl, by decide +kernel⟩,
  ⟨0, (wC |> fun s => { s with sys := { s.sys with phase := .running } } |> fun s => { s with integ := { s.integ with injected := [] } }), _, 0, 0, 0, ((secdedCheck 0 false ++ 3#32)),
    rfl, by decide +kernel⟩,
  ⟨(wC |> fun s => (s).setCtx 0 ({ (s.ctx 0) with state := .receiving })), 0, 5, 0,
    by decide +kernel⟩,
  ⟨(wC |> fun s => (s).setCtx 0 ({ (s.ctx 0) with state := .receiving })), 0, 6, 0,
    by decide +kernel⟩,
  ⟨(wC |> fun s => { s with integ := { s.integ with tableContinue := false } }), 0, 0, 0,
    by decide +kernel⟩,
  ⟨0, (wC |> fun s => { s with integ := { s.integ with injected := [] } }), _, .timeBase, ((secdedCheck 0 false ++ 3#32)),
    rfl, by decide +kernel⟩,
  ⟨0, (wC |> fun s => { s with sys := { s.sys with phase := .running } } |> fun s => { s with integ := { s.integ with injected := [] } }), _, 0, 0, (1#32), ((0#1 ++ secdedCheck 0 false)), (0#32),
    rfl, by decide +kernel⟩,
  ⟨0, (wC |> fun s => { s with sys := { s.sys with phase := .running } } |> fun s => { s with integ := { s.integ with injected := [] } } |> fun s => { s with integ := { s.integ with writeBacks := Vector.replicate 2 (List.replicate 16 1) } }), _, 0, 0, (1#32), ((0#1 ++ secdedCheck 0 false)), (0#32),
    rfl, by decide +kernel⟩,
  ⟨wC, 0, 0,
    by decide +kernel⟩,
  ⟨wC, 0, 0, 1,
    by decide +kernel⟩,
  ⟨wC, 0, 0, 0,
    by decide +kernel⟩,
  ⟨0, (wC |> fun s => { s with integ := { s.integ with writeBacks := Vector.replicate 2 [0] } }), _, 0, 0, ([]),
    rfl, by decide +kernel⟩⟩

/-- Operands and states that meet the hypotheses of `Obligations.LockoutsAndMonitorsTakeEffect`. -/
theorem test_LockoutsAndMonitorsTakeEffect_hypotheses :
  (∃ (dt : Ps) (s : State) (u : State) (cls : Nat) (unit : Nat) (detail : Word32), u = s.elapse dt ∧ u.sys.phase = .running) ∧
  (∃ (dt : Ps) (s : State) (u : State) (cls : Nat) (unit : Nat) (detail : Word32), u = s.elapse dt ∧ u.sys.phase ≠ .running ∧ (u.sys.phase ≠
    .held .wdog ∨ u.sys.lastResetAt ≠ u.stamp)) ∧
  (∃ (dt : Ps) (s : State) (u : State) (cls : Nat) (unit : Nat) (detail : Word32), u = s.elapse dt ∧ u.sys.phase = .held .wdog ∧
    u.sys.lastResetAt = u.stamp ∧ u.host.executing = none) ∧
  (∃ (s : State) (t : State) (cls : Nat) (unit : Nat) (detail : Word32), t = lockout cls unit detail s ∧ s.host.executing = none) ∧
  (∃ (dt : Ps) (s : State) (u : State) (d : ClockDomain), u = s.elapse dt ∧ u.sys.phase = .running ∧ (d = .refclk ∨ d = .tclk ∨ d = .eclk ∨
    d = .fclk ∨ d = .mclk ∨ d = .nclk ∨ d = .sclk ∨ d = .modclk ∨ d = .aclk ∨ d = .qclk)) ∧
  (∃ (dt : Ps) (s : State) (u : State), u = s.elapse dt ∧ u.sys.phase = .running ∧ u.time.servo = .locked) ∧
  (∃ (dt : Ps) (s : State) (u : State), u = s.elapse dt ∧ u.sys.phase = .running ∧ u.host.mgmtLink = true) ∧
  (∃ (dt : Ps) (s : State) (u : State), u = s.elapse dt ∧ u.sys.phase = .running ∧ u.sys.straps.svcEn = false) ∧
  (∃ (dt : Ps) (s : State) (u : State), u = s.elapse dt ∧ u.sys.phase = .running ∧ u.host.pcieUp = true) ∧
  (∃ (dt : Ps) (s : State) (u : State), u = s.elapse dt ∧ u.sys.phase = .running) ∧
  (∃ (dt : Ps) (s : State) (u : State) (x : Int) (l : List Int), u = s.elapse dt ∧ mainsOn u = true ∧ l.length = 7 ∧ l.foldl max x < 1760) ∧
  (∃ (dt : Ps) (s : State) (u : State) (x : Int) (l : List Int) (t0 : Ps), u = s.elapse dt ∧ u.sys.phase = .running ∧ l.length = 7 ∧ 1760 ≤
    l.foldl max x ∧ u.integ.hotSince = some t0 ∧ t0 + 1000000000 ≤ u.now) ∧
  (∃ (dt : Ps) (s : State) (u : State) (t0 : Ps), u = s.elapse dt ∧ mainsOn u = true ∧ u.integ.scorchSince = some t0 ∧ t0 + 100000000 ≤
    u.now) ∧
  (∃ (dt : Ps) (s : State) (u : State), u = s.elapse dt ∧ u.sys.phase = .thermal ∧ u.integ.tj < 1600) ∧
  (∃ (dt : Ps) (s : State) (u : State), u = s.elapse dt ∧ (u.sys.phase ≠ .thermal ∨ 1600 ≤ u.integ.tj)) ∧
  (∃ (dt : Ps) (s : State) (u : State) (pin : Nat), u = s.elapse dt ∧ u.sys.phase = .running ∧ pin < 16 ∧ u.detect.pins.getLsbD pin = false) ∧
  (∃ (dt : Ps) (s : State) (u : State) (pin : Nat), u = s.elapse dt ∧ u.sys.phase = .running ∧ pin < 16 ∧ u.detect.pins.getLsbD pin = false) ∧
  (∃ (dt : Ps) (s : State) (u : State) (pin : Nat) (high : Bool), u = s.elapse dt ∧ u.detect.pins.getLsbD pin = true) ∧
  (∃ (dt : Ps) (s : State) (u : State), u = s.elapse dt ∧ u.sys.phase = .running) ∧
  (∃ (dt : Ps) (s : State) (u : State), u = s.elapse dt ∧ u.sys.phase = .running ∧ u.sys.mode = .safe ∧ 0 < u.integ.autoLeave ∧
    u.integ.safeSince + u.integ.autoLeave * 1000000000000 ≤ u.now ∧ safeBlocked u = false ∧ u.integ.safeStay = false ∧ u.integ.noInterface
    = false) ∧
  (∃ (dt : Ps) (s : State) (u : State), u = s.elapse dt ∧ (safeBlocked u = true ∨ u.integ.safeStay = true ∨ u.integ.noInterface = true)) :=
  ⟨⟨0, (wC |> fun s => { s with sys := { s.sys with phase := .running } }), _, 0, 0, 0,
    rfl, by decide +kernel⟩,
  ⟨0, (wC |> fun s => { s with sys := { s.sys with phase := .thermal } }), _, 0, 0, 0,
    rfl, by decide +kernel⟩,
  ⟨0, (wC |> fun s => { s with sys := { s.sys with phase := .held .wdog } } |> fun s => { s with host := { s.host with executing := none } } |> fun s => { s with sys := { s.sys with lastResetAt := (wC.elapse 0).stamp } }), _, 0, 0, 0,
    rfl, by decide +kernel⟩,
  ⟨(wC |> fun s => { s with host := { s.host with executing := none } }), _, 0, 0, 0,
    rfl, by decide +kernel⟩,
  ⟨0, (wC |> fun s => { s with sys := { s.sys with phase := .running } }), _, .tclk,
    rfl, by decide +kernel⟩,
  ⟨0, (wC |> fun s => { s with sys := { s.sys with phase := .running } } |> fun s => { s with time := { s.time with servo := .locked } }), _,
    rfl, by decide +kernel⟩,
  ⟨0, (wC |> fun s => { s with sys := { s.sys with phase := .running } } |> fun s => { s with host := { s.host with mgmtLink := true } }), _,
    rfl, by decide +kernel⟩,
  ⟨0, (wC |> fun s => { s with sys := { s.sys with phase := .running } } |> fun s => { s with sys := { s.sys with straps := { s.sys.straps with svcEn := false } } }), _,
    rfl, by decide +kernel⟩,
  ⟨0, (wC |> fun s => { s with sys := { s.sys with phase := .running } } |> fun s => { s with host := { s.host with pcieUp := true } }), _,
    rfl, by decide +kernel⟩,
  ⟨0, (wC |> fun s => { s with sys := { s.sys with phase := .running } }), _,
    rfl, by decide +kernel⟩,
  ⟨0, wC, _, 0, (List.replicate 7 0),
    rfl, by decide +kernel⟩,
  ⟨0, (wC |> fun s => { s with sys := { s.sys with phase := .running } } |> fun s => { s with integ := { s.integ with hotSince := some (0) } } |> fun s => { s with integ := { s.integ with hotSince := some 0 } }), _, 0, (List.replicate 7 1760), 0,
    rfl, by decide +kernel⟩,
  ⟨0, (wC |> fun s => { s with integ := { s.integ with scorchSince := some (0) } }), _, 0,
    rfl, by decide +kernel⟩,
  ⟨0, (wC |> fun s => { s with sys := { s.sys with phase := .thermal } }), _,
    rfl, by decide +kernel⟩,
  ⟨0, wC, _,
    rfl, by decide +kernel⟩,
  ⟨0, (wC |> fun s => { s with sys := { s.sys with phase := .running } } |> fun s => { s with detect := { s.detect with pins := 0 } }), _, 15,
    rfl, by decide +kernel⟩,
  ⟨0, (wC |> fun s => { s with sys := { s.sys with phase := .running } } |> fun s => { s with detect := { s.detect with pins := 0 } }), _, 15,
    rfl, by decide +kernel⟩,
  ⟨0, wC, _, 0, true,
    rfl, by decide +kernel⟩,
  ⟨0, (wC |> fun s => { s with sys := { s.sys with phase := .running } }), _,
    rfl, by decide +kernel⟩,
  ⟨0, (wC |> fun s => { s with sys := { s.sys with phase := .running } } |> fun s => { s with sys := { s.sys with mode := .safe } } |> fun s => { s with integ := { s.integ with autoLeave := 1 } } |> fun s => { s with integ := { s.integ with safeStay := false } } |> fun s => { s with integ := { s.integ with noInterface := false } }), _,
    rfl, by decide +kernel⟩,
  ⟨0, (wC |> fun s => { s with integ := { s.integ with tj := 1600 } }), _,
    rfl, by decide +kernel⟩⟩

/-- Operands and states that meet the hypotheses of `Obligations.SecurityCommandsTakeEffect`. -/
theorem test_SecurityCommandsTakeEffect_hypotheses :
  (∃ (dt : Ps) (q : Packet) (s : State) (u : State), u = arrived q (s.elapse dt) ∧ ready (s.elapse dt) q 0x0B01 = true ∧ q.params = []) ∧
  (∃ (dt : Ps) (q : Packet) (s : State) (u : State) (n : List Byte), u = arrived q (s.elapse dt) ∧ ready (s.elapse dt) q 0x0B02 = true ∧
    (u.sys.mode = .commission ∨ u.sys.mode = .service) ∧ q.params.length = 210 ∧ fld q.params 0 1 ≤ 5 ∧ moveListed u.sys.lifecycle (fld
    q.params 0 1) = true ∧ u.upd.trialEnd = none ∧ n = slice q.params 1 16 ∧ u.sec.nonce = some n) ∧
  (∃ (dt : Ps) (q : Packet) (s : State) (u : State), u = arrived q (s.elapse dt) ∧ ready (s.elapse dt) q 0x0B02 = true ∧ (u.sys.mode =
    .commission ∨ u.sys.mode = .service) ∧ q.params.length = 210 ∧ fld q.params 0 1 ≤ 5 ∧ moveListed u.sys.lifecycle (fld q.params 0 1) =
    false) ∧
  (∃ (dt : Ps) (q : Packet) (s : State) (u : State) (t : Ps), u = arrived q (s.elapse dt) ∧ ready (s.elapse dt) q 0x0B02 = true ∧
    (u.sys.mode = .commission ∨ u.sys.mode = .service) ∧ q.params.length = 210 ∧ fld q.params 0 1 ≤ 5 ∧ moveListed u.sys.lifecycle (fld
    q.params 0 1) = true ∧ u.upd.trialEnd = some t) ∧
  (∃ (dt : Ps) (q : Packet) (s : State) (u : State) (n : List Byte), u = arrived q (s.elapse dt) ∧ ready (s.elapse dt) q 0x0B02 = true ∧
    (u.sys.mode = .commission ∨ u.sys.mode = .service) ∧ q.params.length = 210 ∧ fld q.params 0 1 ≤ 5 ∧ moveListed u.sys.lifecycle (fld
    q.params 0 1) = true ∧ u.upd.trialEnd = none ∧ n = slice q.params 1 16 ∧ u.sec.nonce = some n ∧ moveRoot u (fld q.params 0 1) ≠ some
    (Config.sha384 (slice q.params 17 97))) ∧
  (∃ (dt : Ps) (q : Packet) (s : State) (u : State), u = arrived q (s.elapse dt) ∧ ready (s.elapse dt) q 0x0B02 = true ∧ (u.sys.mode =
    .commission ∨ u.sys.mode = .service) ∧ q.params.length = 210 ∧ fld q.params 0 1 ≤ 5 ∧ moveListed u.sys.lifecycle (fld q.params 0 1) =
    true ∧ u.upd.trialEnd = none ∧ u.sec.nonce ≠ some (slice q.params 1 16)) ∧
  (∃ (dt : Ps) (q : Packet) (s : State) (u : State) (n : List Byte), u = arrived q (s.elapse dt) ∧ ready (s.elapse dt) q 0x0B02 = true ∧
    (u.sys.mode = .commission ∨ u.sys.mode = .service) ∧ q.params.length = 210 ∧ fld q.params 0 1 ≤ 5 ∧ moveListed u.sys.lifecycle (fld
    q.params 0 1) = true ∧ u.upd.trialEnd = none ∧ n = slice q.params 1 16 ∧ u.sec.nonce = some n) ∧
  (∃ (dt : Ps) (q : Packet) (s : State) (u : State) (n : List Byte), u = arrived q (s.elapse dt) ∧ ready (s.elapse dt) q 0x0B03 = true ∧
    (u.sys.mode = .commission ∨ u.sys.mode = .service) ∧ q.params.length = 307 ∧ fld q.params 0 1 ≤ 3 ∧ u.sys.lifecycle ≠ .manufacture ∧
    fld q.params 0 1 = freeSlot u ∧ n = slice q.params 1 16 ∧ u.sec.nonce = some n) ∧
  (∃ (dt : Ps) (q : Packet) (s : State) (u : State), u = arrived q (s.elapse dt) ∧ ready (s.elapse dt) q 0x0B03 = true ∧ (u.sys.mode =
    .commission ∨ u.sys.mode = .service) ∧ q.params.length = 307 ∧ fld q.params 0 1 ≤ 3 ∧ freeSlot u = 4) ∧
  (∃ (dt : Ps) (q : Packet) (s : State) (u : State) (n : List Byte), u = arrived q (s.elapse dt) ∧ ready (s.elapse dt) q 0x0B03 = true ∧
    (u.sys.mode = .commission ∨ u.sys.mode = .service) ∧ q.params.length = 307 ∧ fld q.params 0 1 = 0 ∧ u.sys.lifecycle = .manufacture ∧
    freeSlot u = 0 ∧ n = slice q.params 1 16 ∧ u.sec.nonce = some n ∧ slice q.params 114 97 = slice q.params 17 97) ∧
  (∃ (dt : Ps) (q : Packet) (s : State) (u : State), u = arrived q (s.elapse dt) ∧ ready (s.elapse dt) q 0x0B03 = true ∧ (u.sys.mode =
    .commission ∨ u.sys.mode = .service) ∧ q.params.length = 307 ∧ fld q.params 0 1 ≤ 3 ∧ u.sys.lifecycle = .manufacture ∧ 1 ≤ freeSlot u
    ∧ freeSlot u ≤ 3) ∧
  (∃ (dt : Ps) (q : Packet) (s : State) (u : State), u = arrived q (s.elapse dt) ∧ ready (s.elapse dt) q 0x0B03 = true ∧ (u.sys.mode =
    .commission ∨ u.sys.mode = .service) ∧ q.params.length = 307 ∧ fld q.params 0 1 ≤ 3 ∧ u.sys.lifecycle ≠ .manufacture ∧ freeSlot u ≤ 3
    ∧ fld q.params 0 1 ≠ freeSlot u) ∧
  (∃ (dt : Ps) (q : Packet) (s : State) (u : State) (v : State), u = arrived q (s.elapse dt) ∧ v = { u with host := { u.host with settings := recordSetting (mkaSetting q.params u.sys.lifecycle.domain) u.host.settings } }
    ∧ ready (s.elapse dt) q 0x0B04 = true ∧ q.params.length = 69 ∧ fld q.params 0 1 ≤ 4 ∧ fld q.params 1 1 ≤ 1 ∧ fld q.params 2 1 ≤ 2 ∧
    (fld q.params 2 1 = 1 → 1 ≤ fld q.params 3 1 ∧ fld q.params 3 1 ≤ 32) ∧ (fld q.params 0 1 = 4 → q.ifc ≠ 1)) ∧
  (∃ (dt : Ps) (q : Packet) (s : State) (u : State), u = arrived q (s.elapse dt) ∧ ready (s.elapse dt) q 0x0B04 = true ∧ q.params.length =
    69 ∧ fld q.params 0 1 = 4 ∧ fld q.params 1 1 ≤ 1 ∧ fld q.params 2 1 ≤ 2 ∧ (fld q.params 2 1 = 1 → 1 ≤ fld q.params 3 1 ∧ fld q.params
    3 1 ≤ 32) ∧ q.ifc = 1) ∧
  (∃ (p : List Byte) (s : State) (k : Nat) (i : Nat), fld p 0 1 = k ∧ k < 4 ∧ fld p 1 1 = i ∧ i < 2 ∧ fld p 2 1 = 1 ∧ (s.mka k).inUse ≠ i) ∧
  (∃ (p : List Byte) (s : State) (k : Nat) (i : Nat), fld p 0 1 = k ∧ k < 4 ∧ fld p 1 1 = i ∧ fld p 2 1 = 2 ∧ (s.mka k).inUse ≠ i) ∧
  (∃ (dt : Ps) (q : Packet) (s : State) (u : State) (k : Nat) (x : MkaPort), u = arrived q (s.elapse dt) ∧ x = u.mka k ∧ ready (s.elapse dt)
    q 0x0B05 = true ∧ q.params.length = 1 ∧ fld q.params 0 1 = k ∧ k < 4 ∧ x.cak = none) ∧
  (∃ (dt : Ps) (q : Packet) (s : State) (u : State) (k : Nat) (x : MkaPort), u = arrived q (s.elapse dt) ∧ x = u.mka k ∧ ready (s.elapse dt)
    q 0x0B05 = true ∧ q.params.length = 1 ∧ fld q.params 0 1 = k ∧ k < 4 ∧ x.cak.isSome = true ∧ (∀ y, y ∈ x.peers → x.priority < y.2.1)) ∧
  (∃ (dt : Ps) (q : Packet) (s : State) (u : State) (k : Nat) (x : MkaPort), u = arrived q (s.elapse dt) ∧ x = u.mka k ∧ ready (s.elapse dt)
    q 0x0B05 = true ∧ q.params.length = 1 ∧ fld q.params 0 1 = k ∧ k ≤ 4) ∧
  (∃ (dt : Ps) (s : State) (u : State) (e : Exec) (t : Nat), u = s.elapse dt ∧ u.commandsRun = true ∧ u.host.executing = some e ∧ e.op =
    .lifecycle t ∧ 1 ≤ t ∧ t ≤ 5) ∧
  (∃ (dt : Ps) (s : State) (u : State) (e : Exec) (i : Nat) (d : List Byte), u = s.elapse dt ∧ (∃ b, b ∈ d ∧ b ≠ 0) ∧ u.commandsRun = true ∧
    u.host.executing = some e ∧ e.op = .ownerRoot i d ∧ i < 4 ∧ journalMustCommit u = false ∧ d.length = 48) :=
  ⟨⟨0, (pk ([])), wC, _,
    rfl, by decide +kernel⟩,
  ⟨0, (pk (pz 210 [(0,1,5)])), (wC |> fun s => { s with sys := { s.sys with mode := .commission } } |> fun s => { s with upd := { s.upd with trialEnd := none } } |> fun s => { s with sec := { s.sec with nonce := some (List.replicate 16 0) } } |> fun s => { s with sys := { s.sys with lifecycle := .field } } |> fun s => { s with sec := { s.sec with otp := { s.sec.otp with slots := #v[List.replicate 12 otpOnes, List.replicate 12 0, List.replicate 12 0, List.replicate 12 0] } } }), _, (List.replicate 16 0),
    rfl, by decide +kernel⟩,
  ⟨0, (pk (pz 210 [])), (wC |> fun s => { s with sys := { s.sys with mode := .commission } }), _,
    rfl, by decide +kernel⟩,
  ⟨0, (pk (pz 210 [(0,1,5)])), (wC |> fun s => { s with sys := { s.sys with mode := .commission } } |> fun s => { s with upd := { s.upd with trialEnd := some (0) } }), _, 0,
    rfl, by decide +kernel⟩,
  ⟨0, (pk (pz 210 [(0,1,5)])), (wC |> fun s => { s with sys := { s.sys with mode := .commission } } |> fun s => { s with upd := { s.upd with trialEnd := none } } |> fun s => { s with sec := { s.sec with nonce := some (List.replicate 16 0) } } |> fun s => { s with sys := { s.sys with lifecycle := .field } }), _, (List.replicate 16 0),
    rfl, by decide +kernel⟩,
  ⟨0, (pk (pz 210 [(0,1,5)])), (wC |> fun s => { s with sys := { s.sys with mode := .commission } } |> fun s => { s with upd := { s.upd with trialEnd := none } }), _,
    rfl, by decide +kernel⟩,
  ⟨0, (pk (pz 210 [(0,1,5)])), (wC |> fun s => { s with sys := { s.sys with mode := .commission } } |> fun s => { s with upd := { s.upd with trialEnd := none } } |> fun s => { s with sec := { s.sec with nonce := some (List.replicate 16 0) } } |> fun s => { s with sys := { s.sys with lifecycle := .field } } |> fun s => { s with sec := { s.sec with otp := { s.sec.otp with slots := #v[List.replicate 12 otpOnes, List.replicate 12 0, List.replicate 12 0, List.replicate 12 0] } } }), _, (List.replicate 16 0),
    rfl, by decide +kernel⟩,
  ⟨0, (pk (pz 307 [(0,1,1)])), (wC |> fun s => { s with sys := { s.sys with mode := .commission } } |> fun s => { s with sec := { s.sec with nonce := some (List.replicate 16 0) } } |> fun s => { s with sys := { s.sys with lifecycle := .field } } |> fun s => { s with sec := { s.sec with otp := { s.sec.otp with slots := #v[List.replicate 12 otpOnes, List.replicate 12 0, List.replicate 12 0, List.replicate 12 0] } } }), _, (List.replicate 16 0),
    rfl, by decide +kernel⟩,
  ⟨0, (pk (pz 307 [(0,1,3)])), (wC |> fun s => { s with sys := { s.sys with mode := .commission } } |> fun s => { s with sec := { s.sec with otp := { s.sec.otp with slots := Vector.replicate 4 (List.replicate 12 otpOnes) } } }), _,
    rfl, by decide +kernel⟩,
  ⟨0, (pk (pz 307 [])), (wC |> fun s => { s with sys := { s.sys with mode := .commission } } |> fun s => { s with sys := { s.sys with lifecycle := .manufacture } } |> fun s => { s with sec := { s.sec with nonce := some (List.replicate 16 0) } }), _, (List.replicate 16 0),
    rfl, by decide +kernel⟩,
  ⟨0, (pk (pz 307 [(0,1,3)])), (wC |> fun s => { s with sys := { s.sys with mode := .commission } } |> fun s => { s with sys := { s.sys with lifecycle := .manufacture } } |> fun s => { s with sec := { s.sec with otp := { s.sec.otp with slots := #v[List.replicate 12 otpOnes, List.replicate 12 0, List.replicate 12 0, List.replicate 12 0] } } }), _,
    rfl, by decide +kernel⟩,
  ⟨0, (pk (pz 307 [(0,1,3)])), (wC |> fun s => { s with sys := { s.sys with mode := .commission } } |> fun s => { s with sys := { s.sys with lifecycle := .field } }), _,
    rfl, by decide +kernel⟩,
  ⟨0, (pk (pz 69 [(0,1,4), (1,1,1), (2,1,2)])), wC, _, _,
    rfl, rfl, by decide +kernel⟩,
  ⟨0, ({ pk (pz 69 [(0,1,4)]) with ifc := 1 }), wC, _,
    rfl, by decide +kernel⟩,
  ⟨(pz 3 [(0,1,3), (1,1,1), (2,1,1)]), wC, 3, 1,
    by decide +kernel⟩,
  ⟨(pz 69 [(1,1,1),(2,1,2)]), wC, 0, 1,
    by decide +kernel⟩,
  ⟨0, (pk (pz 1 [(0,1,3)])), (wC |> fun s => (s).setMka 3 ((({} : MkaPort)))), _, 3, _,
    rfl, rfl, by decide +kernel⟩,
  ⟨0, (pk (pz 1 [])), (wC |> fun s => (s).setMka 0 ((({} : MkaPort))) |> fun s => (s).setMka 0 ({ (s.mka 0) with slots := Vector.replicate 2 (some { ckn := [1], cak := [], domain := 0, failed := false }) })), _, 0, _,
    rfl, rfl, by decide +kernel⟩,
  ⟨0, (pk (pz 1 [(0,1,4)])), (wC |> fun s => (s).setMka 4 ((({} : MkaPort)))), _, 4, _,
    rfl, rfl, by decide +kernel⟩,
  ⟨0, (wC |> fun s => { s with host := { s.host with executing := some ({ wEx with op := (.lifecycle 5) }) } }), _, ({ wEx with op := (.lifecycle 5) }), 5,
    rfl, by decide +kernel⟩,
  ⟨0, (wC |> fun s => { s with host := { s.host with executing := some ({ wEx with op := .ownerRoot 3 (List.replicate 48 1) }) } } |> fun s => { s with host := { s.host with executing := some { wEx with op := .ownerRoot 3 (List.replicate 48 1) } } }), _, ({ wEx with op := .ownerRoot 3 (List.replicate 48 1) }), 3, (List.replicate 48 1),
    rfl, ⟨1, by decide +kernel, by decide +kernel⟩, by decide +kernel⟩⟩

/-- Operands and states that meet the hypotheses of `Obligations.UpdateCommandsTakeEffect`. -/
theorem test_UpdateCommandsTakeEffect_hypotheses :
  (∃ (dt : Ps) (q : Packet) (s : State) (u : State), u = arrived q (s.elapse dt) ∧ ready (s.elapse dt) q 0x0C01 = true ∧ updModes u.sys.mode
    = true ∧ q.params.length = 256 ∧ u.upd.trialEnd = none ∧ u.upd.session = none ∧ u.upd.copy = false ∧ headerCheck u.sec.otp q.params =
    none) ∧
  (∃ (dt : Ps) (q : Packet) (s : State) (u : State) (st : Nat), u = arrived q (s.elapse dt) ∧ ready (s.elapse dt) q 0x0C01 = true ∧ updModes
    u.sys.mode = true ∧ q.params.length = 256 ∧ u.upd.trialEnd = none ∧ u.upd.session = none ∧ u.upd.copy = false ∧ headerCheck u.sec.otp
    q.params = some st) ∧
  (∃ (dt : Ps) (q : Packet) (s : State) (u : State), u = arrived q (s.elapse dt) ∧ ready (s.elapse dt) q 0x0C01 = true ∧ u.sys.mode = .safe) ∧
  (∃ (dt : Ps) (q : Packet) (s : State) (u : State), u = arrived q (s.elapse dt) ∧ ready (s.elapse dt) q 0x0C01 = true ∧ updModes u.sys.mode
    = true ∧ q.params.length = 256 ∧ (u.upd.trialEnd.isSome = true ∨ u.upd.session.isSome = true ∨ u.upd.copy = true)) ∧
  (∃ (u : Otp) (h : List Byte), h.take 4 ≠ ascii "PRTR") ∧
  (∃ (u : Otp) (h : List Byte), h.take 4 = ascii "PRTR" ∧ fld h 4 1 = 1 ∧ hdrClass h = 1 ∧ fld h 6 2 = 0x7216 ∧ fld h 8 1 ≤ 0xB0 ∧ fld h 10
    2 < u.fwArb) ∧
  (∃ (u : Otp) (h : List Byte), h.take 4 = ascii "PRTR" ∧ fld h 4 1 = 1 ∧ hdrClass h = 16 ∧ 4194048 < hdrLen h) ∧
  (∃ (dt : Ps) (q : Packet) (s : State) (u : State) (x : UpdSession) (o : Nat), u = arrived q (s.elapse dt) ∧ ready (s.elapse dt) q 0x0C02 =
    true ∧ updModes u.sys.mode = true ∧ q.params.length = 6 + fld q.params 4 2 ∧ 1 ≤ fld q.params 4 2 ∧ fld q.params 4 2 ≤ 16384 ∧
    u.upd.session = some x ∧ fld q.params 0 4 = o ∧ x.lastWrite ≠ some (o, q.params.drop 6) ∧ o = x.received.length ∧ o + fld q.params 4 2
    ≤ hdrLen x.header) ∧
  (∃ (dt : Ps) (q : Packet) (s : State) (u : State) (x : UpdSession), u = arrived q (s.elapse dt) ∧ ready (s.elapse dt) q 0x0C02 = true ∧
    updModes u.sys.mode = true ∧ q.params.length = 6 + fld q.params 4 2 ∧ 1 ≤ fld q.params 4 2 ∧ fld q.params 4 2 ≤ 16384 ∧ u.upd.session
    = some x ∧ x.lastWrite = some (fld q.params 0 4, q.params.drop 6)) ∧
  (∃ (dt : Ps) (q : Packet) (s : State) (u : State) (x : UpdSession), u = arrived q (s.elapse dt) ∧ ready (s.elapse dt) q 0x0C02 = true ∧
    updModes u.sys.mode = true ∧ q.params.length = 6 + fld q.params 4 2 ∧ 1 ≤ fld q.params 4 2 ∧ fld q.params 4 2 ≤ 16384 ∧ u.upd.session
    = some x ∧ x.lastWrite ≠ some (fld q.params 0 4, q.params.drop 6) ∧ fld q.params 0 4 ≠ x.received.length) ∧
  (∃ (dt : Ps) (q : Packet) (s : State) (u : State) (x : UpdSession), u = arrived q (s.elapse dt) ∧ ready (s.elapse dt) q 0x0C02 = true ∧
    updModes u.sys.mode = true ∧ q.params.length = 6 + fld q.params 4 2 ∧ 1 ≤ fld q.params 4 2 ∧ fld q.params 4 2 ≤ 16384 ∧ u.upd.session
    = some x ∧ x.lastWrite ≠ some (fld q.params 0 4, q.params.drop 6) ∧ fld q.params 0 4 = x.received.length ∧ hdrLen x.header < fld
    q.params 0 4 + fld q.params 4 2) ∧
  (∃ (dt : Ps) (q : Packet) (s : State) (u : State), u = arrived q (s.elapse dt) ∧ ready (s.elapse dt) q 0x0C02 = true ∧ updModes u.sys.mode
    = true ∧ q.params.length = 6 + fld q.params 4 2 ∧ 1 ≤ fld q.params 4 2 ∧ fld q.params 4 2 ≤ 16384 ∧ u.upd.session = none) ∧
  (∃ (dt : Ps) (q : Packet) (s : State) (u : State) (x : UpdSession), u = arrived q (s.elapse dt) ∧ ready (s.elapse dt) q 0x0C03 = true ∧
    updModes u.sys.mode = true ∧ q.params.length = 3 ∧ fld q.params 0 1 ≤ 3 ∧ (fld q.params 1 2 = 0 ∨ 10 ≤ fld q.params 1 2 ∧ fld q.params
    1 2 ≤ 3600) ∧ u.upd.session = some x ∧ x.received.length ≠ hdrLen x.header) ∧
  (∃ (dt : Ps) (q : Packet) (s : State) (u : State) (x : UpdSession), u = arrived q (s.elapse dt) ∧ ready (s.elapse dt) q 0x0C03 = true ∧
    updModes u.sys.mode = true ∧ q.params.length = 3 ∧ fld q.params 0 1 ≤ 3 ∧ (fld q.params 1 2 = 0 ∨ 10 ≤ fld q.params 1 2 ∧ fld q.params
    1 2 ≤ 3600) ∧ u.upd.session = some x ∧ x.received.length = hdrLen x.header) ∧
  (∃ (dt : Ps) (q : Packet) (s : State) (u : State), u = arrived q (s.elapse dt) ∧ ready (s.elapse dt) q 0x0C04 = true ∧ updModes u.sys.mode
    = true ∧ q.params = []) ∧
  (∃ (dt : Ps) (q : Packet) (s : State) (u : State) (t : Ps), u = arrived q (s.elapse dt) ∧ ready (s.elapse dt) q 0x0C05 = true ∧ updModes
    u.sys.mode = true ∧ q.params = [] ∧ u.upd.trialEnd = some t ∧ u.now < t) ∧
  (∃ (dt : Ps) (q : Packet) (s : State) (u : State), u = arrived q (s.elapse dt) ∧ ready (s.elapse dt) q 0x0C05 = true ∧ updModes u.sys.mode
    = true ∧ q.params = [] ∧ (∀ t, u.upd.trialEnd = some t → t ≤ u.now)) ∧
  (∃ (dt : Ps) (q : Packet) (s : State) (u : State), u = arrived q (s.elapse dt) ∧ ready (s.elapse dt) q 0x0C06 = true ∧ updModes u.sys.mode
    = true ∧ q.params = []) :=
  ⟨⟨0, (pk (pz 256 [(0,4,0x50525452),(4,1,1),(5,1,16)])), (wC |> fun s => { s with upd := { s.upd with trialEnd := none } } |> fun s => { s with upd := { s.upd with session := none } } |> fun s => { s with upd := { s.upd with copy := false } }), _,
    rfl, by decide +kernel⟩,
  ⟨0, (pk (pz 256 [])), (wC |> fun s => { s with upd := { s.upd with trialEnd := none } } |> fun s => { s with upd := { s.upd with session := none } } |> fun s => { s with upd := { s.upd with copy := false } }), _, 0x10,
    rfl, by decide +kernel⟩,
  ⟨0, (pk ([])), (wC |> fun s => { s with sys := { s.sys with mode := .safe } }), _,
    rfl, by decide +kernel⟩,
  ⟨0, (pk (pz 256 [])), (wC |> fun s => { s with upd := { s.upd with copy := true } }), _,
    rfl, by decide +kernel⟩,
  ⟨(({} : Otp)), ([]),
    by decide +kernel⟩,
  ⟨({ arbFw := otpOnes :: List.replicate 127 0 }), (pz 256 [(0,4,0x50525452),(4,1,1),(5,1,1),(6,2,0x7216)]),
    by decide +kernel⟩,
  ⟨({}), (pz 256 [(0,4,0x50525452),(4,1,1),(5,1,16),(16,4,4194049)]),
    by decide +kernel⟩,
  ⟨0, (pk (pz 7 [(4,2,1)])), (wC |> fun s => { s with upd := { s.upd with session := some ({ wUs with header := pz 256 [(16,4,100)] }) } } |> fun s => { s with upd := { s.upd with session := some { wUs with header := pz 256 [(16,4,100)] } } }), _, ({ wUs with header := pz 256 [(16,4,100)] }), 0,
    rfl, by decide +kernel⟩,
  ⟨0, (pk (pz 7 [(4,2,1)])), (wC |> fun s => { s with upd := { s.upd with session := some ({ wUs with lastWrite := some (0, [0]) }) } } |> fun s => { s with upd := { s.upd with session := some { wUs with lastWrite := some (0, [0]) } } }), _, ({ wUs with lastWrite := some (0, [0]) }),
    rfl, by decide +kernel⟩,
  ⟨0, (pk (pz 7 [(0,4,1),(4,2,1)])), (wC |> fun s => { s with upd := { s.upd with session := some (wUs) } } |> fun s => { s with upd := { s.upd with session := some wUs } }), _, wUs,
    rfl, by decide +kernel⟩,
  ⟨0, (pk (pz 7 [(4,2,1)])), (wC |> fun s => { s with upd := { s.upd with session := some ({ wUs with header := List.replicate 256 0 }) } } |> fun s => { s with upd := { s.upd with session := some { wUs with header := List.replicate 256 0 } } }), _, ({ wUs with header := List.replicate 256 0 }),
    rfl, by decide +kernel⟩,
  ⟨0, (pk (pz 7 [(4,2,1)])), (wC |> fun s => { s with upd := { s.upd with session := none } }), _,
    rfl, by decide +kernel⟩,
  ⟨0, (pk (pz 3 [])), (wC |> fun s => { s with upd := { s.upd with session := some ({ wUs with received := List.replicate 65 0 }) } } |> fun s => { s with upd := { s.upd with session := some { wUs with received := List.replicate 65 0 } } }), _, ({ wUs with received := List.replicate 65 0 }),
    rfl, by decide +kernel⟩,
  ⟨0, (pk (pz 3 [(0,1,3)])), (wC |> fun s => { s with upd := { s.upd with session := some (wUs) } }), _, wUs,
    rfl, by decide +kernel⟩,
  ⟨0, (pk ([])), wC, _,
    rfl, by decide +kernel⟩,
  ⟨0, (pk ([])), (wC |> fun s => { s with upd := { s.upd with trialEnd := some (10 ^ 16) } }), _, (10 ^ 16),
    rfl, by decide +kernel⟩,
  ⟨0, (pk ([])), wC, _,
    rfl, by decide +kernel⟩,
  ⟨0, (pk ([])), wC, _,
    rfl, by decide +kernel⟩⟩

/-- Operands and states that meet the hypotheses of `Obligations.UpdateEventsTakeEffect`. -/
theorem test_UpdateEventsTakeEffect_hypotheses :
  (∃ (ifc : Nat) (h : List Byte) (s : State), codeClass (hdrClass h) = true) ∧
  (∃ (o : Nat) (d : List Byte) (s : State) (x : UpdSession), s.upd.session = some x ∧ x.cls = 1) ∧
  (∃ (final : Bool) (auto : Bool) (w : Nat) (s : State) (x : UpdSession), imageVerified s true (imageOf x.header x.received) = false ∧
    s.upd.session = some x ∧ codeClass x.cls = true) ∧
  (∃ (auto : Bool) (w : Nat) (s : State) (x : UpdSession), s.upd.session = some x ∧ x.cls = 1) ∧
  (∃ (final : Bool) (auto : Bool) (w : Nat) (s : State) (x : UpdSession), s.upd.session = some x ∧ 16 ≤ x.cls ∧ x.cls ≤ 18) ∧
  (∃ (dt : Ps) (s : State) (u : State) (f : Image) (c : Image), u = s.elapse dt ∧ u.sys.phase = .running ∧ u.upd.copy = true ∧
    u.otherBank.state = .copying ∧ u.upd.running = (some f, some c)) ∧
  (∃ (dt : Ps) (s : State) (u : State), u = s.elapse dt ∧ u.upd.copy = false) ∧
  (∃ (s : State) (fw : Image) (cat : Image), s.upd.running = (some fw, some cat) ∧ s.sec.otp.arbFw.length = 128 ∧ s.sec.otp.arbCat.length =
    128 ∧ fw.arb ≤ 128 ∧ cat.arb ≤ 128) ∧
  (∃ (dt : Ps) (s : State) (u : State) (t : Ps), u = s.elapse dt ∧ u.sys.phase = .running ∧ u.upd.trialEnd = some t ∧ t ≤ u.now ∧
    u.host.executing = none ∧ u.upd.window.2 = true ∧ (u.sys.mode = .active ∨ u.sys.mode = .standby)) ∧
  (∃ (dt : Ps) (s : State) (u : State) (t : Ps), u = s.elapse dt ∧ u.sys.phase = .running ∧ u.upd.trialEnd = some t ∧ t ≤ u.now ∧
    u.host.executing = none ∧ (u.upd.window.2 = false ∨ u.sys.mode.aligns = false)) ∧
  (∃ (dt : Ps) (s : State) (u : State) (t : Ps), u = s.elapse dt ∧ u.upd.trialEnd = some t ∧ u.now < t) ∧
  (∃ (dt : Ps) (s : State) (u : State) (f : List Byte), u = s.elapse dt ∧ u.svcRuns = true ∧ f.length ≤ 4106 ∧ svcFrameOk f = true ∧
    u.upd.recovery = none) ∧
  (∃ (dt : Ps) (s : State) (u : State) (f : List Byte) (r : Recovery), u = s.elapse dt ∧ u.svcRuns = true ∧ f.length ≤ 4106 ∧ svcFrameOk f =
    true ∧ u.upd.recovery = some r ∧ svcSeq u.host.bastik (fld f 1 1) = .next ∧ fld f 2 1 = 0 ∧ 256 ≤ r.buf.length) ∧
  (∃ (q : Nat) (flags : Nat) (b : List Byte) (r : Recovery) (s : State) (f : Image) (i : Image), i = imageOf ((r.buf ++ b).take 256) ((r.buf
    ++ b).drop 256) ∧ r.fw = some f ∧ flags / 2 % 2 = 1 ∧ flags % 2 = 0 ∧ 256 ≤ r.buf.length ∧ (r.buf ++ b).length = 256 + hdrLen ((r.buf
    ++ b).take 256)) :=
  ⟨⟨0, (pz 256 [(5,1,1)]), wC,
    by decide +kernel⟩,
  ⟨0, ([]), (wC |> fun s => { s with upd := { s.upd with session := some ({ wUs with cls := 1 }) } }), ({ wUs with cls := 1 }),
    by decide +kernel⟩,
  ⟨true, true, 0, (wC |> fun s => { s with upd := { s.upd with session := some wUs } } |> fun s => { s with sys := { s.sys with lifecycle := .scrapped } }), wUs,
    wScrapped _ rfl _, by decide +kernel⟩,
  ⟨true, 0, (wC |> fun s => { s with upd := { s.upd with session := some ({ wUs with cls := 1 }) } }), ({ wUs with cls := 1 }),
    by decide +kernel⟩,
  ⟨true, true, 0, (wC |> fun s => { s with upd := { s.upd with session := some ({ wUs with cls := 16 }) } }), ({ wUs with cls := 16 }),
    by decide +kernel⟩,
  ⟨0, (wC |> fun s => { s with upd := { s.upd with copy := true } } |> fun s => { s with upd := { s.upd with bankB := { wC.upd.bankB with state := .copying } } } |> fun s => { s with upd := { s.upd with bankA := { wC.upd.bankA with fw := some wImg, cat := some wImg } } }), _, wImg, wImg,
    rfl, by decide +kernel⟩,
  ⟨0, (wC |> fun s => { s with upd := { s.upd with copy := false } }), _,
    rfl, by decide +kernel⟩,
  ⟨(wC |> fun s => { s with upd := { s.upd with bankA := { wC.upd.bankA with fw := some wImg, cat := some wImg } } }), wImg, wImg,
    by decide +kernel⟩,
  ⟨0, (wC |> fun s => { s with sys := { s.sys with phase := .running } } |> fun s => { s with upd := { s.upd with trialEnd := some (0) } } |> fun s => { s with host := { s.host with executing := none } } |> fun s => { s with sys := { s.sys with mode := .active } } |> fun s => { s with upd := { s.upd with window := (120, true) } } |> fun s => { s with upd := { s.upd with trialEnd := some 0 } }), _, 0,
    rfl, by decide +kernel⟩,
  ⟨0, (wC |> fun s => { s with sys := { s.sys with phase := .running } } |> fun s => { s with upd := { s.upd with trialEnd := some (0) } } |> fun s => { s with host := { s.host with executing := none } }), _, 0,
    rfl, by decide +kernel⟩,
  ⟨0, (wC |> fun s => { s with upd := { s.upd with trialEnd := some (10 ^ 16) } }), _, (10 ^ 16),
    rfl, by decide +kernel⟩,
  ⟨0, (wC |> fun s => { s with upd := { s.upd with recovery := none } }), _, (svcFrame 2 0 0 0 []),
    rfl, by decide +kernel⟩,
  ⟨0, (wC |> fun s => { s with upd := { s.upd with recovery := some ({ wRecov with buf := List.replicate 256 0 }) } } |> fun s => { s with upd := { s.upd with recovery := some { wRecov with buf := List.replicate 256 0 } } }), _, (svcFrame 2 0 0 0 []), ({ wRecov with buf := List.replicate 256 0 }),
    rfl, by decide +kernel⟩,
  ⟨0, 2, ([]), ({ wRecov with buf := List.replicate 256 0, fw := some wImg }), wC, wImg, _,
    rfl, by decide +kernel⟩⟩

/-- Operands and states that meet the hypotheses of `Obligations.ArrivalChecksInOrder`. -/
theorem test_ArrivalChecksInOrder_hypotheses :
  (∃ (dt : Ps) (s : State) (u : State) (i : Nat) (b : List Byte), u = s.elapse dt ∧ u.ifaceRuns i = true ∧ b.length < 16) ∧
  (∃ (dt : Ps) (s : State) (u : State) (i : Nat) (b : List Byte), u = s.elapse dt ∧ u.ifaceRuns i = true ∧ 16 ≤ b.length ∧ 0x8000 ≤ fld b 6
    2) ∧
  (∃ (dt : Ps) (s : State) (u : State) (i : Nat) (b : List Byte), u = s.elapse dt ∧ u.ifaceRuns i = true ∧ 16 ≤ b.length ∧ fld b 6 2 <
    0x8000 ∧ (fld b 6 2 ≠ 0 ∨ fld b 12 4 ≠ 0)) ∧
  (∃ (dt : Ps) (s : State) (u : State) (i : Nat) (b : List Byte), u = s.elapse dt ∧ u.ifaceRuns i = true ∧ i < 3 ∧ 16 ≤ b.length ∧ fld b 6 2
    = 0 ∧ fld b 12 4 = 0 ∧ fld b 4 2 ≠ (u.iface i).epoch.toNat) ∧
  (∃ (dt : Ps) (s : State) (u : State) (i : Nat) (b : List Byte), u = s.elapse dt ∧ u.ifaceRuns i = true ∧ i < 3 ∧ 16 ≤ b.length ∧ fld b 6 2
    = 0 ∧ fld b 12 4 = 0 ∧ fld b 4 2 = (u.iface i).epoch.toNat ∧ fld b 2 2 ∈ (u.iface i).tags) ∧
  (∃ (dt : Ps) (s : State) (u : State) (i : Nat) (b : List Byte), u = s.elapse dt ∧ u.ifaceRuns i = true ∧ i < 3 ∧ 16 ≤ b.length ∧ fld b 6 2
    = 0 ∧ fld b 12 4 = 0 ∧ fld b 4 2 = (u.iface i).epoch.toNat ∧ fld b 2 2 ∉ (u.iface i).tags ∧ u.tagLimit i ≤ (u.iface i).tags.length) ∧
  (∃ (dt : Ps) (s : State) (u : State) (i : Nat) (b : List Byte), u = s.elapse dt ∧ u.ifaceRuns i = true ∧ i < 3 ∧ 16 ≤ b.length ∧ fld b 6 2
    = 0 ∧ fld b 12 4 = 0 ∧ fld b 4 2 = (u.iface i).epoch.toNat ∧ fld b 2 2 ∉ (u.iface i).tags ∧ (u.iface i).tags.length < u.tagLimit i) ∧
  (∃ (c : QCmd) (l : List QCmd), (∀ d, d ∈ l → d.edge = c.edge → d.ifc ≤ c.ifc)) ∧
  (∃ (c : QCmd) (d : QCmd) (l : List QCmd) (k : List QCmd), (∀ e, e ∈ l → e.edge = c.edge → e.ifc ≤ c.ifc) ∧ d.edge = c.edge ∧ c.ifc <
    d.ifc) ∧
  (∃ (dt : Ps) (s : State) (u : State) (i : Nat) (b : List Byte), u = s.elapse dt ∧ u.ifaceRuns i = false) ∧
  (∃ (dt : Ps) (l : List Ps) (s : State) (u : State) (ip : Nat) (port : Nat) (b : List Byte), u = s.elapse dt ∧ u.commandsRun = true ∧ (vget
    {} u.sec.mka 4).installed = true ∧ l.length ≤ 16 ∧ (∀ a, a ∈ l → a ≤ 50000000000)) ∧
  (∃ (dt : Ps) (l : List Ps) (s : State) (u : State) (ip : Nat) (port : Nat) (b : List Byte), u = s.elapse dt ∧ u.commandsRun = true ∧ (vget
    {} u.sec.mka 4).installed = true ∧ (16 < l.length ∨ ∃ a, a ∈ l ∧ 50000000000 < a)) ∧
  (∃ (dt : Ps) (l : List Ps) (s : State) (u : State) (ip : Nat) (port : Nat) (ok : Bool) (b : List Byte), u = s.elapse dt ∧ u.commandsRun =
    true ∧ (ok = false ∨ (vget {} u.sec.mka 4).installed = false)) :=
  ⟨⟨0, wC, _, 0, ([]),
    rfl, by decide +kernel⟩,
  ⟨0, wC, _, 0, (pz 16 [(6,2,0x8000)]),
    rfl, by decide +kernel⟩,
  ⟨0, wC, _, 0, (pz 16 [(6,2,1)]),
    rfl, by decide +kernel⟩,
  ⟨0, wC, _, 2, (pz 16 [(4,2,1)]),
    rfl, by decide +kernel⟩,
  ⟨0, (wC |> fun s => (s).setIface 0 ({ (s.iface 0) with tags := [0] })), _, 0, (pz 16 []),
    rfl, by decide +kernel⟩,
  ⟨0, (wC |> fun s => (s).setIface 0 ({ (s.iface 0) with tags := List.replicate 300 1 })), _, 0, (pz 16 []),
    rfl, by decide +kernel⟩,
  ⟨0, wC, _, 2, (pz 16 []),
    rfl, by decide +kernel⟩,
  ⟨wQ, ([]),
    by decide +kernel⟩,
  ⟨wQ, ({ wQ with ifc := 1 }), ([]), ([]),
    by decide +kernel⟩,
  ⟨0, (wC |> fun s => { s with host := { s.host with cmdReady := false } }), _, 0, ([]),
    rfl, by decide +kernel⟩,
  ⟨0, ([]), (wC |> fun s => { s with ingress := { s.ingress with ports := Vector.replicate 5 { macsec := .strict } } } |> fun s => { s with sec := { s.sec with mka := Vector.replicate 5 { installed := true } } }), _, 0, 0, ([]),
    rfl, by decide +kernel⟩,
  ⟨0, (List.replicate 17 0), (wC |> fun s => { s with ingress := { s.ingress with ports := Vector.replicate 5 { macsec := .strict } } } |> fun s => { s with sec := { s.sec with mka := Vector.replicate 5 { installed := true } } }), _, 0, 0, ([]),
    rfl, by decide +kernel⟩,
  ⟨0, ([]), wC, _, 0, 0, true, ([]),
    rfl, by decide +kernel⟩⟩

/-- Operands and states that meet the hypotheses of `Obligations.CommandsExecuteInOrder`. -/
theorem test_CommandsExecuteInOrder_hypotheses :
  (∃ (dt : Ps) (s : State) (u : State) (c : QCmd) (rest : List QCmd), u = s.elapse dt ∧ u.commandsRun = true ∧ u.host.executing = none ∧
    u.host.waiting = c :: rest) ∧
  (∃ (dt : Ps) (s : State) (u : State), u = s.elapse dt ∧ (u.commandsRun = false ∨ u.host.executing.isSome = true ∨ u.host.waiting = [])) ∧
  (∃ (c : QCmd) (s : State), (20464 < c.length ∨ c.length ≠ c.params.length)) ∧
  (∃ (c : QCmd) (s : State), c.length ≤ 20464 ∧ c.length = c.params.length ∧ (∀ d, d ∈ allCmds → d.opcode ≠ c.opcode)) ∧
  (∃ (d : Cmd) (c : QCmd) (s : State), d ∈ allCmds ∧ c.opcode = d.opcode ∧ c.length ≤ 20464 ∧ c.length = c.params.length) ∧
  (∃ (dt : Ps) (q : Packet) (c : QCmd) (s : State) (u : State) (w : State), u = s.elapse dt ∧ w = arrived q u ∧ c = { ifc := q.ifc, origin := .direct, opcode := 0x010A, tag := q.tag, epoch := q.epoch, length := q.params.length, params := q.params, edge := u.now / 1250 }
    ∧ u.ifaceRuns q.ifc = true ∧ (u.host.executing.isSome = true ∨ u.host.waiting ≠ []) ∧ q.epoch = (u.iface q.ifc).epoch.toNat ∧ q.tag ∉
    (u.iface q.ifc).tags ∧ (u.iface q.ifc).tags.length < u.tagLimit q.ifc) ∧
  (∃ (dt : Ps) (q : Packet) (s : State) (u : State), u = s.elapse dt ∧ u.ifaceRuns q.ifc = true ∧ q.ifc < 3 ∧ q.epoch = (u.iface
    q.ifc).epoch.toNat ∧ q.tag ∈ (u.iface q.ifc).tags) ∧
  (∃ (i : Nat) (s : State), i < 3) :=
  ⟨⟨0, (wC |> fun s => { s with host := { s.host with executing := none } } |> fun s => { s with host := { s.host with waiting := [(wQ)] } }), _, wQ, ([]),
    rfl, by decide +kernel⟩,
  ⟨0, wC, _,
    rfl, by decide +kernel⟩,
  ⟨({ wQ with length := 1 }), wC,
    by decide +kernel⟩,
  ⟨({ wQ with opcode := 0xFFFF }), wC,
    by decide +kernel⟩,
  ⟨cmdSysEcho, ({ wQ with opcode := 0x010A }), wC,
    List.mem_of_getElem? (show allCmds[9]? = some cmdSysEcho from rfl), by decide +kernel⟩,
  ⟨0, (pk ([])), _, (wC |> fun s => { s with host := { s.host with executing := some wEx } }), _, _,
    rfl, rfl, rfl, by decide +kernel⟩,
  ⟨0, (pk ([])), (wC |> fun s => (s).setIface 0 ({ (s.iface 0) with tags := [1] })), _,
    rfl, by decide +kernel⟩,
  ⟨2, wC,
    by decide +kernel⟩⟩

/-- Operands and states that meet the hypotheses of `Obligations.CommandRingFollowsItsRules`. -/
theorem test_CommandRingFollowsItsRules_hypotheses :
  (∃ (dt : Ps) (s : State) (u : State) (v : Word32), u = s.elapse dt ∧ u.bar0Runs = true ∧ (v - u.host.cplHead).toNat ≤ 2 ^
    u.host.log2.toNat) ∧
  (∃ (dt : Ps) (s : State) (u : State) (v : Word32), u = s.elapse dt ∧ u.bar0Runs = true ∧ 2 ^ u.host.log2.toNat < (v -
    u.host.cplHead).toNat) ∧
  (∃ (dt : Ps) (s : State) (u : State) (v : Word32), u = s.elapse dt ∧ u.bar0Runs = true ∧ u.host.ringEnable = false ∧ v.getLsbD 1 = false ∧
    4 ≤ (v.extractLsb' 8 4).toNat ∧ (v.extractLsb' 8 4).toNat ≤ 10) ∧
  (∃ (dt : Ps) (s : State) (u : State) (v : Word32), u = s.elapse dt ∧ u.bar0Runs = true ∧ u.host.ringEnable = false ∧ v.getLsbD 1 = false ∧
    ((v.extractLsb' 8 4).toNat < 4 ∨ 10 < (v.extractLsb' 8 4).toNat)) ∧
  (∃ (dt : Ps) (s : State) (u : State) (v : Word32), u = s.elapse dt ∧ u.bar0Runs = true ∧ u.host.ringEnable = true ∧ v.getLsbD 1 = false) ∧
  (∃ (dt : Ps) (s : State) (u : State) (w : State) (v : Word32), u = s.elapse dt ∧ w = ifReset 0 u ∧ u.bar0Runs = true ∧ u.host.ringEnable =
    true) ∧
  (∃ (dt : Ps) (s : State) (u : State) (v : Word32), u = s.elapse dt ∧ u.bar0Runs = true ∧ u.host.ringEnable = false ∧ v.getLsbD 1 = false) ∧
  (∃ (dt : Ps) (s : State) (u : State) (w : State) (v : Word32), u = s.elapse dt ∧ w = ifReset 0 u ∧ u.bar0Runs = true ∧ u.host.ringEnable =
    true) ∧
  (∃ (dt : Ps) (s : State) (u : State) (v : Word32), u = s.elapse dt ∧ u.bar0Runs = true ∧ u.host.ringEnable = false) ∧
  (∃ (dt : Ps) (s : State) (u : State) (v : Word32), u = s.elapse dt ∧ u.bar0Runs = false) ∧
  (∃ (dt : Ps) (s : State) (u : State) (v : State) (d : List Byte) (b : List Byte) (n : Nat), u = s.elapse dt ∧ n = u.host.cmdHead.toNat ∧ v
    = State.hostGet (State.emit { u with host := { u.host with cmdHead := u.host.cmdHead + 1, slots := u.host.slots ++ [(n, { cap := lfld d 12 4, addr := lfld d 16 8, reply := none })] } }
    (.hostRead (u.host.cmdBase.toNat + 32 * (n % 2 ^ u.host.log2.toNat)) 32)) (lfld d 0 8) (lfld d 8 4) ∧ u.host.ringEnable = true ∧
    u.ifaceRuns 0 = true ∧ u.dmaRuns = true ∧ 1 ≤ (u.host.cmdTail - u.host.cmdHead).toNat ∧ (u.host.cmdTail - u.host.cmdHead).toNat ≤ 2 ^
    u.host.log2.toNat ∧ submitInvalid d = false) ∧
  (∃ (dt : Ps) (s : State) (u : State) (d : List Byte) (p : Option (List Byte)), u = s.elapse dt ∧ u.host.ringEnable = true ∧ u.ifaceRuns 0
    = true ∧ u.dmaRuns = true ∧ 1 ≤ (u.host.cmdTail - u.host.cmdHead).toNat ∧ (u.host.cmdTail - u.host.cmdHead).toNat ≤ 2 ^
    u.host.log2.toNat ∧ u.host.slots = [] ∧ (submitInvalid d = true ∨ p = none)) ∧
  (∃ (dt : Ps) (s : State) (u : State) (d : List Byte) (p : Option (List Byte)), u = s.elapse dt ∧ (u.host.ringEnable = false ∨ u.ifaceRuns
    0 = false ∨ u.dmaRuns = false ∨ u.host.cmdHead = u.host.cmdTail ∨ 2 ^ u.host.log2.toNat < (u.host.cmdTail - u.host.cmdHead).toNat)) ∧
  (∃ (dt : Ps) (s : State) (u : State) (n : Nat) (cap : Nat) (addr : Nat) (r : Reply) (rest : List (Nat × RingSlot)) (body : List Byte), u =
    s.elapse dt ∧ body = (replyBytes r).take cap ∧ u.dmaRuns = true ∧ u.host.slots = (n, { cap, addr, reply := some r }) :: rest ∧
    (BitVec.ofNat 32 n - u.host.cplHead).toNat < 2 ^ u.host.log2.toNat) ∧
  (∃ (dt : Ps) (s : State) (u : State) (n : Nat) (x : RingSlot) (rest : List (Nat × RingSlot)), u = s.elapse dt ∧ u.host.slots = (n, x) ::
    rest ∧ x.reply = none) ∧
  (∃ (dt : Ps) (s : State) (u : State), u = s.elapse dt ∧ (u.host.slots = [] ∨ u.dmaRuns = false ∨ ∃ n x rest, u.host.slots = (n, x) :: rest
    ∧ 2 ^ u.host.log2.toNat ≤ (BitVec.ofNat 32 n - u.host.cplHead).toNat)) :=
  ⟨⟨0, wC, _, 0,
    rfl, by decide +kernel⟩,
  ⟨0, wC, _, 17,
    rfl, by decide +kernel⟩,
  ⟨0, (wC |> fun s => { s with host := { s.host with ringEnable := false } }), _, 0x400,
    rfl, by decide +kernel⟩,
  ⟨0, (wC |> fun s => { s with host := { s.host with ringEnable := false } }), _, 0,
    rfl, by decide +kernel⟩,
  ⟨0, (wC |> fun s => { s with host := { s.host with ringEnable := true } }), _, 0,
    rfl, by decide +kernel⟩,
  ⟨0, (wC |> fun s => { s with host := { s.host with ringEnable := true } }), _, _, 0,
    rfl, rfl, by decide +kernel⟩,
  ⟨0, (wC |> fun s => { s with host := { s.host with ringEnable := false } }), _, 0,
    rfl, by decide +kernel⟩,
  ⟨0, (wC |> fun s => { s with host := { s.host with ringEnable := true } }), _, _, 0,
    rfl, rfl, by decide +kernel⟩,
  ⟨0, (wC |> fun s => { s with host := { s.host with ringEnable := false } }), _, 0,
    rfl, by decide +kernel⟩,
  ⟨0, (wC |> fun s => { s with host := { s.host with pcieUp := false } }), _, 0,
    rfl, by decide +kernel⟩,
  ⟨0, (wC |> fun s => { s with host := { s.host with ringEnable := true } } |> fun s => { s with host := { s.host with cmdTail := 1 } }), _, _, (pz 32 [(8,1,16),(12,1,16)]), ([]), _,
    rfl, rfl, rfl, by decide +kernel⟩,
  ⟨0, (wC |> fun s => { s with host := { s.host with ringEnable := true } } |> fun s => { s with host := { s.host with slots := [] } } |> fun s => { s with host := { s.host with cmdTail := 1 } }), _, (pz 32 [(8,1,16),(12,1,16)]), none,
    rfl, by decide +kernel⟩,
  ⟨0, (wC |> fun s => { s with host := { s.host with ringEnable := false } }), _, ([]), none,
    rfl, by decide +kernel⟩,
  ⟨0, (wC |> fun s => { s with host := { s.host with slots := [(0, { cap := 64, addr := 0, reply := some wRpl })] } }), _, 0, 64, 0, wRpl, ([]), _,
    rfl, rfl, by decide +kernel⟩,
  ⟨0, (wC |> fun s => { s with host := { s.host with slots := [((0), ({ wRsl with reply := none }))] } }), _, 0, ({ wRsl with reply := none }), ([]),
    rfl, by decide +kernel⟩,
  ⟨0, (wC |> fun s => { s with host := { s.host with slots := [] } }), _,
    rfl, Or.inl (by decide +kernel)⟩⟩

/-- Operands and states that meet the hypotheses of `Obligations.BastikFollowsItsRules`. -/
theorem test_BastikFollowsItsRules_hypotheses :
  (∃ (dt : Ps) (s : State) (u : State) (f : List Byte), u = s.elapse dt ∧ u.svcRuns = true ∧ f.length ≤ 4106 ∧ svcFrameOk f = false) ∧
  (∃ (dt : Ps) (s : State) (u : State) (f : List Byte), u = s.elapse dt ∧ u.svcRuns = true ∧ f.length ≤ 4106 ∧ svcFrameOk f = true ∧ svcSeq
    u.host.bastik (fld f 1 1) = .again) ∧
  (∃ (dt : Ps) (s : State) (u : State) (f : List Byte), u = s.elapse dt ∧ u.svcRuns = true ∧ f.length ≤ 4106 ∧ svcFrameOk f = true ∧ svcSeq
    u.host.bastik (fld f 1 1) = .wrong) ∧
  (∃ (dt : Ps) (s : State) (u : State) (f : List Byte), u = s.elapse dt ∧ u.svcRuns = true ∧ f.length ≤ 4106 ∧ svcFrameOk f = true ∧ svcSeq
    u.host.bastik (fld f 1 1) = .next ∧ fld f 2 1 = 1) ∧
  (∃ (dt : Ps) (s : State) (u : State) (f : List Byte) (old : List Byte), u = s.elapse dt ∧ u.svcRuns = true ∧ f.length ≤ 4106 ∧ svcFrameOk
    f = true ∧ svcSeq u.host.bastik (fld f 1 1) = .next ∧ fld f 2 1 = 2 ∧ u.host.bastik.rxBuf = some old) ∧
  (∃ (b : Bastik) (q : Nat), b.lastRx = none) ∧
  (∃ (b : Bastik) (l : BitVec 8), b.lastRx = some l) ∧
  (∃ (dt : Ps) (s : State) (u : State) (f : List Byte), u = s.elapse dt ∧ u.svcRuns = true ∧ f.length ≤ 4106 ∧ svcFrameOk f = true ∧
    u.host.bastik.txLast = none ∧ fld f 6 1 = u.host.bastik.txSeq.toNat ∧ u.host.bastik.replies = []) ∧
  (∃ (dt : Ps) (s : State) (u : State) (f : List Byte) (r : Reply), u = s.elapse dt ∧ u.svcRuns = true ∧ f.length ≤ 4106 ∧ svcFrameOk f =
    true ∧ u.host.bastik.txLast = none ∧ fld f 6 1 = u.host.bastik.txSeq.toNat ∧ u.host.bastik.replies = [r] ∧ u.host.bastik.txRest = none
    ∧ (replyBytes r).length ≤ 4096) ∧
  (∃ (dt : Ps) (s : State) (u : State) (f : List Byte) (o : List Byte) (l : BitVec 8), u = s.elapse dt ∧ u.svcRuns = true ∧ f.length ≤ 4106
    ∧ svcFrameOk f = true ∧ u.host.bastik.txLast = some (l, o) ∧ fld f 6 1 = l.toNat) ∧
  (∃ (dt : Ps) (s : State) (u : State) (f : List Byte), u = s.elapse dt ∧ u.svcRuns = true ∧ svcFrameOk f = true) ∧
  (∃ (dt : Ps) (s : State) (u : State), u = s.elapse dt ∧ u.svcRuns = true) ∧
  (∃ (dt : Ps) (s : State) (u : State) (f : List Byte), u = s.elapse dt ∧ u.svcRuns = true ∧ 4106 < f.length) :=
  ⟨⟨0, wC, _, ([]),
    rfl, by decide +kernel⟩,
  ⟨0, (wC |> fun s => { s with host := { s.host with bastik := { s.host.bastik with lastRx := some 0 } } }), _, (svcFrame 0 0 0 0 []),
    rfl, by decide +kernel⟩,
  ⟨0, wC, _, (svcFrame 0 5 0 0 []),
    rfl, by decide +kernel⟩,
  ⟨0, wC, _, (svcFrame 0 0 1 0 []),
    rfl, by decide +kernel⟩,
  ⟨0, (wC |> fun s => { s with host := { s.host with bastik := { s.host.bastik with rxBuf := some ([]) } } } |> fun s => { s with host := { s.host with bastik := { s.host.bastik with rxBuf := some [] } } }), _, (svcFrame 0 0 2 0 []), ([]),
    rfl, by decide +kernel⟩,
  ⟨({ ({} : Bastik) with lastRx := none }), 0,
    by decide +kernel⟩,
  ⟨({ ({} : Bastik) with lastRx := some (0) }), 0,
    by decide +kernel⟩,
  ⟨0, (wC |> fun s => { s with host := { s.host with bastik := { s.host.bastik with txLast := none } } } |> fun s => { s with host := { s.host with bastik := { s.host.bastik with replies := [] } } }), _, (svcFrame 0 0 0 0 [0]),
    rfl, by decide +kernel⟩,
  ⟨0, (wC |> fun s => { s with host := { s.host with bastik := { s.host.bastik with txLast := none } } } |> fun s => { s with host := { s.host with bastik := { s.host.bastik with replies := [(wRpl)] } } } |> fun s => { s with host := { s.host with bastik := { s.host.bastik with txRest := none } } } |> fun s => { s with host := { s.host with bastik := { s.host.bastik with replies := [wRpl] } } }), _, (svcFrame 0 0 0 0 [0]), wRpl,
    rfl, by decide +kernel⟩,
  ⟨0, (wC |> fun s => { s with host := { s.host with bastik := { s.host.bastik with txLast := some ((0), ([])) } } } |> fun s => { s with host := { s.host with bastik := { s.host.bastik with txLast := some (0, []) } } }), _, (svcFrame 0 0 0 0 [0]), ([]), 0,
    rfl, by decide +kernel⟩,
  ⟨0, wC, _, (svcFrame 0 0 0 0 []),
    rfl, by decide +kernel⟩,
  ⟨0, wC, _,
    rfl, by decide +kernel⟩,
  ⟨0, wC, _, (List.replicate 4107 0),
    rfl, by decide +kernel⟩⟩

/-- Operands and states that meet the hypotheses of `Obligations.RegisterAccessesTakeEffect`. -/
theorem test_RegisterAccessesTakeEffect_hypotheses :
  (∃ (dt : Ps) (s : State) (u : State) (a : Nat) (n : Nat), u = s.elapse dt ∧ u.bar0Runs = true ∧ 1 ≤ n ∧ n ≤ 4 ∧ a % 4 + n ≤ 4 ∧ a <
    0x400000) ∧
  (∃ (dt : Ps) (s : State) (u : State) (a : Nat) (n : Nat), u = s.elapse dt ∧ (u.bar0Runs = false ∨ n = 0 ∨ 0x400000 ≤ a)) ∧
  (∃ (dt : Ps) (s : State) (u : State) (a : Nat) (n : Nat), u = s.elapse dt ∧ u.bar0Runs = true ∧ 4 < a % 4 + n ∧ a < 0x400000) ∧
  (∃ (dt : Ps) (s : State) (u : State), u = s.elapse dt ∧ u.bar0Runs = true) ∧
  (∃ (s : State) (c : Nat), c < 14) ∧
  (∃ (s : State) (n : Nat), n < 32) ∧
  (∃ (s : State) (a : Nat), a < 0x10000 ∧ a % 4 = 0) ∧
  (∃ (dt : Ps) (s : State) (u : State) (a : Nat) (n : Nat) (v : Word32), u = s.elapse dt ∧ u.bar0Runs = true ∧ n = 4 ∧ a % 4 = 0 ∧ a <
    0x400000) ∧
  (∃ (dt : Ps) (s : State) (u : State) (a : Nat) (n : Nat) (v : Word32), u = s.elapse dt ∧ (u.bar0Runs = false ∨ 0x400000 ≤ a ∨ a % 4 + n ≤
    4 ∧ (n ≠ 4 ∨ a % 4 ≠ 0))) ∧
  (∃ (dt : Ps) (s : State) (u : State) (a : Nat) (n : Nat) (v : Word32), u = s.elapse dt ∧ u.bar0Runs = true ∧ 4 < a % 4 + n ∧ a < 0x400000) ∧
  (∃ (s : State) (v : Word32), s.host.ringEnable = true) ∧
  (∃ (s : State) (v : Word32), s.host.ringEnable = false) ∧
  (∃ (s : State) (c : Nat) (v : Word32), c < 14) ∧
  (∃ (s : State) (n : Nat) (v : Word32), n < 32) ∧
  (∃ (s : State) (k : Nat) (v : Word32), k < 8 ∧ (vget {} s.ingress.rings k).enabled = true) :=
  ⟨⟨0, wC, _, 3, 1,
    rfl, by decide +kernel⟩,
  ⟨0, wC, _, 0, 0,
    rfl, by decide +kernel⟩,
  ⟨0, wC, _, 3, 2,
    rfl, by decide +kernel⟩,
  ⟨0, wC, _,
    rfl, by decide +kernel⟩,
  ⟨wC, 13,
    by decide +kernel⟩,
  ⟨wC, 31,
    by decide +kernel⟩,
  ⟨wC, 0xFFFC,
    by decide +kernel⟩,
  ⟨0, wC, _, 0x3FFFFC, 4, 0,
    rfl, by decide +kernel⟩,
  ⟨0, wC, _, 0, 0, 0,
    rfl, by decide +kernel⟩,
  ⟨0, wC, _, 3, 2, 0,
    rfl, by decide +kernel⟩,
  ⟨(wC |> fun s => { s with host := { s.host with ringEnable := true } }), 0,
    by decide +kernel⟩,
  ⟨(wC |> fun s => { s with host := { s.host with ringEnable := false } }), 0,
    by decide +kernel⟩,
  ⟨wC, 13, 0,
    by decide +kernel⟩,
  ⟨wC, 31, 0,
    by decide +kernel⟩,
  ⟨(wC |> fun s => (s).setRxRing 7 ({ (s.rxRing 7) with enabled := true })), 7, 0,
    by decide +kernel⟩⟩

/-- Operands and states that meet the hypotheses of `Obligations.InterruptsFollowTheirRules`. -/
theorem test_InterruptsFollowTheirRules_hypotheses :
  (∃ (s : State) (n : Nat), n < 60) ∧
  (∃ (s : State) (n : Nat), (s.host.cause.getLsbD n = true ∨ s.host.mask.getLsbD n = true)) ∧
  (∃ (s : State) (v : Nat), v < 32 ∧ (s.vec v).masked = true) ∧
  (∃ (s : State) (v : Nat), v < 32 ∧ (s.vec v).masked = false ∧ s.host.pcieUp = true ∧ s.host.busMaster = true ∧ (s.vec v).lastMsg = none) ∧
  (∃ (s : State) (v : Nat) (t : Ps), v < 32 ∧ (s.vec v).masked = false ∧ s.host.pcieUp = true ∧ s.host.busMaster = true ∧ (s.vec v).lastMsg
    = some t ∧ s.now < t + s.host.gapUs.toNat * 1000000) ∧
  (∃ (dt : Ps) (s : State) (u : State) (v : Word32) (again : Word32), u = s.elapse dt ∧ u.bar0Runs = true) ∧
  (∃ (dt : Ps) (s : State) (u : State) (v : Word32) (again : Word32), u = s.elapse dt ∧ u.bar0Runs = true) ∧
  (∃ (dt : Ps) (s : State) (u : State) (v : Word32), u = s.elapse dt ∧ u.bar0Runs = true) ∧
  (∃ (dt : Ps) (s : State) (u : State) (v : Word32), u = s.elapse dt ∧ u.bar0Runs = true) ∧
  (∃ (dt : Ps) (s : State) (u : State) (v : Word32), u = s.elapse dt ∧ u.bar0Runs = true) ∧
  (∃ (dt : Ps) (s : State) (u : State) (v : Word32), u = s.elapse dt ∧ u.bar0Runs = true) ∧
  (∃ (dt : Ps) (s : State) (u : State) (v : Nat) (t0 : Ps), u = s.elapse dt ∧ v < 32 ∧ (u.vec v).held = true ∧ (u.vec v).lastMsg = some t0 ∧
    t0 + u.host.gapUs.toNat * 1000000 ≤ u.now ∧ (u.vec v).masked = false ∧ u.host.pcieUp = true ∧ u.host.busMaster = true) ∧
  (∃ (dt : Ps) (s : State) (u : State) (v : Nat) (t0 : Ps), u = s.elapse dt ∧ v < 32 ∧ (u.vec v).held = true ∧ (u.vec v).lastMsg = some t0 ∧
    t0 + u.host.gapUs.toNat * 1000000 ≤ u.now ∧ ((u.vec v).masked = true ∨ u.host.pcieUp = false ∨ u.host.busMaster = false)) ∧
  (∃ (dt : Ps) (s : State) (u : State) (v : Nat), u = s.elapse dt ∧ (u.vec v).held = false) ∧
  (∃ (dt : Ps) (s : State) (u : State) (v : Nat), u = s.elapse dt ∧ u.bar0Runs = true ∧ v < 32 ∧ (u.vec v).pending = true ∧ u.host.pcieUp =
    true ∧ u.host.busMaster = true ∧ (u.vec v).lastMsg = none) ∧
  (∃ (dt : Ps) (s : State) (u : State) (v : Nat), u = s.elapse dt ∧ u.bar0Runs = true ∧ (u.vec v).pending = false) :=
  ⟨⟨wC, 59,
    by decide +kernel⟩,
  ⟨wC, 0,
    by decide +kernel⟩,
  ⟨(wC |> fun s => (s).setVec 31 ({ (s.vec 31) with masked := true })), 31,
    by decide +kernel⟩,
  ⟨(wC |> fun s => (s).setVec 31 ({ (s.vec 31) with masked := false }) |> fun s => { s with host := { s.host with pcieUp := true } } |> fun s => { s with host := { s.host with busMaster := true } } |> fun s => (s).setVec 31 ({ (s.vec 31) with lastMsg := none })), 31,
    by decide +kernel⟩,
  ⟨(wC |> fun s => (s).setVec 31 ({ (s.vec 31) with masked := false }) |> fun s => { s with host := { s.host with pcieUp := true } } |> fun s => { s with host := { s.host with busMaster := true } } |> fun s => (s).setVec 31 ({ (s.vec 31) with lastMsg := some (10 ^ 15) }) |> fun s => { s with host := { s.host with gapUs := 1 } } |> fun s => (s).setVec 0 ({ (s.vec 0) with lastMsg := some (10 ^ 15) })), 31, (10 ^ 15),
    by decide +kernel⟩,
  ⟨0, wC, _, 0, 0,
    rfl, by decide +kernel⟩,
  ⟨0, wC, _, 0, 0,
    rfl, by decide +kernel⟩,
  ⟨0, wC, _, 0,
    rfl, by decide +kernel⟩,
  ⟨0, wC, _, 0,
    rfl, by decide +kernel⟩,
  ⟨0, wC, _, 0,
    rfl, by decide +kernel⟩,
  ⟨0, wC, _, 0,
    rfl, by decide +kernel⟩,
  ⟨0, (wC |> fun s => (s).setVec 31 ({ (s.vec 31) with held := true }) |> fun s => (s).setVec 31 ({ (s.vec 31) with lastMsg := some (0) }) |> fun s => (s).setVec 31 ({ (s.vec 31) with masked := false }) |> fun s => { s with host := { s.host with pcieUp := true } } |> fun s => { s with host := { s.host with busMaster := true } }), _, 31, 0,
    rfl, by decide +kernel⟩,
  ⟨0, (wC |> fun s => (s).setVec 31 ({ (s.vec 31) with held := true }) |> fun s => (s).setVec 31 ({ (s.vec 31) with lastMsg := some (0) }) |> fun s => (s).setVec 31 ({ (s.vec 31) with masked := true })), _, 31, 0,
    rfl, by decide +kernel⟩,
  ⟨0, (wC |> fun s => (s).setVec 0 ({ (s.vec 0) with held := false })), _, 0,
    rfl, by decide +kernel⟩,
  ⟨0, (wC |> fun s => (s).setVec 31 ({ (s.vec 31) with pending := true }) |> fun s => { s with host := { s.host with pcieUp := true } } |> fun s => { s with host := { s.host with busMaster := true } } |> fun s => (s).setVec 31 ({ (s.vec 31) with lastMsg := none })), _, 31,
    rfl, by decide +kernel⟩,
  ⟨0, (wC |> fun s => (s).setVec 0 ({ (s.vec 0) with pending := false })), _, 0,
    rfl, by decide +kernel⟩⟩

/-- Operands and states that meet the hypotheses of `Obligations.EndpointEventsTakeEffect`. -/
theorem test_EndpointEventsTakeEffect_hypotheses :
  (∃ (dt : Ps) (s : State) (u : State) (v : State), u = s.elapse dt ∧ v = pcieDown u ∧ u.host.pcieUp = true) ∧
  (∃ (dt : Ps) (s : State) (u : State) (v : State), u = s.elapse dt ∧ v = pcieDown u ∧ u.host.pcieUp = true ∧ u.host.busMaster = true) ∧
  (∃ (dt : Ps) (s : State) (u : State) (b : Bool), u = s.elapse dt ∧ (u.host.pcieUp = false ∨ b = true ∧ u.host.busMaster = false)) ∧
  (∃ (dt : Ps) (s : State) (u : State) (x : PcieSettings), u = s.elapse dt ∧ (u.sys.phase ≠ .running ∨ u.sys.mode = .dormant)) ∧
  (∃ (dt : Ps) (s : State) (u : State), u = s.elapse dt ∧ u.sys.phase ≠ .running) ∧
  (∃ (dt : Ps) (s : State) (u : State) (b : Bool), u = s.elapse dt ∧ u.online = false) ∧
  (∃ (dt : Ps) (s : State) (u : State), u = s.elapse dt ∧ u.online = true ∧ u.host.mgmtLink = false) ∧
  (∃ (s : State) (c : Nat), c < 14) ∧
  (∃ (s : State) (n : Nat), n < 32) ∧
  (∃ (s : State) (k : Nat), k < 8) ∧
  (∃ (dt : Ps) (s : State) (u : State) (v : State), u = s.elapse dt ∧ v = pcieDown u ∧ u.sys.phase = .running) ∧
  (∃ (dt : Ps) (s : State) (u : State) (x : PcieSettings), u = s.elapse dt ∧ u.sys.phase = .running ∧ u.sys.mode ≠ .dormant ∧ (x.busMaster =
    false ∧ u.host.busMaster = false ∨ ∀ v, v < 32 → (u.vec v).masked = true ∨ (u.vec v).pending = false)) ∧
  (∃ (dt : Ps) (s : State) (u : State), u = s.elapse dt ∧ u.online = true ∧ u.host.mgmtLink = true) ∧
  (∃ (dt : Ps) (s : State) (u : State), u = s.elapse dt ∧ u.online = true) :=
  ⟨⟨0, (wC |> fun s => { s with host := { s.host with pcieUp := true } }), _, _,
    rfl, rfl, by decide +kernel⟩,
  ⟨0, (wC |> fun s => { s with host := { s.host with pcieUp := true } } |> fun s => { s with host := { s.host with busMaster := true } }), _, _,
    rfl, rfl, by decide +kernel⟩,
  ⟨0, (wC |> fun s => { s with host := { s.host with pcieUp := false } }), _, true,
    rfl, by decide +kernel⟩,
  ⟨0, (wC |> fun s => { s with sys := { s.sys with mode := .dormant } }), _, (({ busMaster := true } : PcieSettings)),
    rfl, by decide +kernel⟩,
  ⟨0, (wC |> fun s => { s with sys := { s.sys with phase := .thermal } }), _,
    rfl, by decide +kernel⟩,
  ⟨0, (wC |> fun s => { s with sys := { s.sys with mode := .dormant } }), _, true,
    rfl, by decide +kernel⟩,
  ⟨0, (wC |> fun s => { s with host := { s.host with mgmtLink := false } }), _,
    rfl, by decide +kernel⟩,
  ⟨wC, 13,
    by decide +kernel⟩,
  ⟨wC, 31,
    by decide +kernel⟩,
  ⟨wC, 7,
    by decide +kernel⟩,
  ⟨0, (wC |> fun s => { s with sys := { s.sys with phase := .running } }), _, _,
    rfl, rfl, by decide +kernel⟩,
  ⟨0, (wC |> fun s => { s with sys := { s.sys with phase := .running } }), _, ({ ({ busMaster := true } : PcieSettings) with busMaster := false }),
    rfl, by decide +kernel⟩,
  ⟨0, (wC |> fun s => { s with host := { s.host with mgmtLink := true } }), _,
    rfl, by decide +kernel⟩,
  ⟨0, wC, _,
    rfl, by decide +kernel⟩⟩

/-- Operands and states that meet the hypotheses of `Obligations.DmaFollowsItsRules`. -/
theorem test_DmaFollowsItsRules_hypotheses :
  (∃ (dt : Ps) (s : State) (u : State) (c : Nat) (v : Word32), u = s.elapse dt ∧ u.bar0Runs = true ∧ v.getLsbD 1 = false ∧ v.getLsbD 2 =
    false ∧ (u.ch c).state = .idle ∧ 1 ≤ (u.ch c).count.toNat ∧ (u.ch c).count.toNat ≤ 4096 ∧ (v.extractLsb' 4 2).toNat ≤ 2) ∧
  (∃ (dt : Ps) (s : State) (u : State) (c : Nat) (v : Word32), u = s.elapse dt ∧ u.bar0Runs = true ∧ v.getLsbD 1 = false ∧ v.getLsbD 2 =
    false ∧ ((u.ch c).state ≠ .idle ∨ (u.ch c).count.toNat = 0 ∨ 4096 < (u.ch c).count.toNat ∨ (v.extractLsb' 4 2).toNat = 3)) ∧
  (∃ (dt : Ps) (s : State) (u : State) (c : Nat) (v : Word32), u = s.elapse dt ∧ u.bar0Runs = true) ∧
  (∃ (dt : Ps) (s : State) (u : State) (c : Nat), u = s.elapse dt ∧ u.bar0Runs = true ∧ (u.ch c).run = none) ∧
  (∃ (dt : Ps) (s : State) (u : State) (c : Nat) (r : DmaRun), u = s.elapse dt ∧ u.bar0Runs = true ∧ (u.ch c).run = some r) ∧
  (∃ (dt : Ps) (s : State) (u : State) (c : Nat), u = s.elapse dt ∧ u.bar0Runs = true ∧ ((u.ch c).state = .done ∨ (u.ch c).state = .error)) ∧
  (∃ (dt : Ps) (s : State) (u : State) (c : Nat), u = s.elapse dt ∧ u.bar0Runs = true ∧ (u.ch c).state ≠ .done ∧ (u.ch c).state ≠ .error) ∧
  (∃ (dt : Ps) (s : State) (u : State) (c : Nat) (r : DmaRun) (b : List Byte), u = s.elapse dt ∧ u.dmaRuns = true ∧ (u.ch c).run = some r ∧
    r.ending = none ∧ r.desc = none ∧ r.next < r.count ∧ descInvalid b (if r.crcMode = 2 ∧ r.next + 1 = r.count then 4 else 0) = false) ∧
  (∃ (dt : Ps) (s : State) (u : State) (c : Nat) (r : DmaRun) (b : List Byte), u = s.elapse dt ∧ u.dmaRuns = true ∧ (u.ch c).run = some r ∧
    r.ending = none ∧ r.desc = none ∧ r.next < r.count ∧ descInvalid b (if r.crcMode = 2 ∧ r.next + 1 = r.count then 4 else 0) = true) ∧
  (∃ (dt : Ps) (s : State) (u : State) (c : Nat) (r : DmaRun), u = s.elapse dt ∧ u.dmaRuns = true ∧ (u.ch c).run = some r ∧ r.ending = none
    ∧ r.desc = none ∧ r.next < r.count) ∧
  (∃ (dt : Ps) (s : State) (u : State) (c : Nat) (b : Option (List Byte)), u = s.elapse dt ∧ (u.dmaRuns = false ∨ (u.ch c).run = none ∨ ∃ r,
    (u.ch c).run = some r ∧ (r.ending.isSome = true ∨ r.desc.isSome = true ∨ r.count ≤ r.next))) ∧
  (∃ (s : State) (m : Nat), (∀ c, c < 14 → canIssue s c = false)) ∧
  (∃ (s : State) (m : Nat) (c : Nat) (i : Nat), i < 14 ∧ c = (s.dma.turn + i) % 14 ∧ canIssue s c = true ∧ (∀ j, j < i → canIssue s
    ((s.dma.turn + j) % 14) = false)) ∧
  (∃ (s : State) (c : Nat) (n : Nat) (r : DmaRun) (d : Desc), n = pieceLen s.host.readSize d r.issued ∧ c < 14 ∧ (s.ch c).run = some r ∧
    r.desc = some d) ∧
  (∃ (most : Nat) (d : Desc) (k : Nat), k < d.len ∧ 1 ≤ most) ∧
  (∃ (s : State) (m : Nat), s.dma.buffer.length ≤ 128) ∧
  (∃ (s : State) (m : Nat) (c : Nat), (chunksOf c s).length ≤ 32) ∧
  (∃ (dt : Ps) (s : State) (w : State) (c : Nat) (r : DmaRun) (d : Desc) (k : Chunk) (b : List Byte), w = chunkRead (s.elapse dt) ∧
    oldestRead w c r d k ∧ d.srcWin = false ∧ d.dstWin = true ∧ b.length = k.len ∧ mergeBad true (d.dst + k.at_) k.len w = false) ∧
  (∃ (dt : Ps) (s : State) (w : State) (c : Nat) (r : DmaRun) (d : Desc) (k : Chunk) (b : List Byte), w = chunkRead (s.elapse dt) ∧
    oldestRead w c r d k ∧ d.srcWin = false ∧ d.dstWin = true ∧ b.length = k.len ∧ mergeBad true (d.dst + k.at_) k.len w = true) ∧
  (∃ (dt : Ps) (s : State) (w : State) (c : Nat) (r : DmaRun) (d : Desc) (k : Chunk) (bs : List Byte), w = chunkRead (s.elapse dt) ∧
    oldestRead w c r d k ∧ bs = memRead w.dma.window (d.src + k.at_) k.len ∧ d.srcWin = true ∧ d.dstWin = false ∧ windowUnreadable (d.src
    + k.at_) k.len w = false) ∧
  (∃ (dt : Ps) (s : State) (w : State) (c : Nat) (r : DmaRun) (d : Desc) (k : Chunk), w = chunkRead (s.elapse dt) ∧ oldestRead w c r d k ∧
    d.srcWin = true ∧ d.dstWin = true ∧ windowUnreadable (d.src + k.at_) k.len w = false ∧ mergeBad true (d.dst + k.at_) k.len w = false) ∧
  (∃ (dt : Ps) (s : State) (w : State) (c : Nat) (r : DmaRun) (d : Desc) (k : Chunk), w = chunkRead (s.elapse dt) ∧ oldestRead w c r d k ∧
    d.srcWin = true ∧ windowUnreadable (d.src + k.at_) k.len w = true) ∧
  (∃ (dt : Ps) (s : State) (w : State) (c : Nat) (r : DmaRun) (d : Desc) (k : Chunk) (b : List Byte), w = chunkRead (s.elapse dt) ∧
    oldestRead w c r d k ∧ d.srcWin = false ∧ d.dstWin = false ∧ b.length = k.len) ∧
  (∃ (dt : Ps) (s : State) (w : State) (c : Nat) (r : DmaRun) (d : Desc) (k : Chunk), w = chunkRead (s.elapse dt) ∧ oldestRead w c r d k ∧
    d.srcWin = false) ∧
  (∃ (dt : Ps) (s : State) (w : State) (c : Nat) (r : DmaRun) (d : Desc) (k : Chunk), w = chunkRead (s.elapse dt) ∧ oldestRead w c r d k ∧
    d.srcWin = true) ∧
  (∃ (dt : Ps) (s : State) (w : State) (c : Nat) (x : ReadDone), w = chunkRead (s.elapse dt) ∧ (w.dmaRuns = false ∨ (w.ch c).run = none ∨
    ((chunksOf c w).filter fun k => k.data.isNone).length ≤ x.nth)) ∧
  (∃ (s : State), s.integ.injected = []) ∧
  (∃ (dt : Ps) (s : State) (u : State) (c : Nat) (r : DmaRun), u = s.elapse dt ∧ c < 14 ∧ u.dmaRuns = true ∧ (u.ch c).run = some r ∧
    chunksOf c u = [] ∧ r.ending = none ∧ r.desc = none ∧ r.next = r.count ∧ r.crcMode ≠ 2) ∧
  (∃ (dt : Ps) (s : State) (u : State) (c : Nat) (e : Nat) (win : Bool) (r : DmaRun), u = s.elapse dt ∧ c < 14 ∧ u.dmaRuns = true ∧ (u.ch
    c).run = some r ∧ chunksOf c u = [] ∧ r.ending = none ∧ r.desc = none ∧ r.next = r.count ∧ r.crcMode = 2 ∧ r.last = some (e, win) ∧
    mergeBad win e 4 u = false) ∧
  (∃ (dt : Ps) (s : State) (u : State) (c : Nat) (code : Nat) (r : DmaRun), u = s.elapse dt ∧ (r.ending = some code ∧ 1 ≤ code ∧ code ≤ 4 ∨
    code = 4 ∧ r.ending = none ∧ r.desc = none ∧ r.next = r.count ∧ r.crcMode = 2 ∧ ∃ e, r.last = some (e, true) ∧ mergeBad true e 4 u =
    true) ∧ c < 14 ∧ u.dmaRuns = true ∧ (u.ch c).run = some r ∧ chunksOf c u = []) ∧
  (∃ (dt : Ps) (s : State) (u : State) (c : Nat), u = s.elapse dt ∧ (u.dmaRuns = false ∨ (u.ch c).run = none ∨ chunksOf c u ≠ [] ∨ ∃ r,
    (u.ch c).run = some r ∧ r.ending = none ∧ (r.desc.isSome = true ∨ r.next < r.count))) ∧
  (∃ (most : Nat) (addr : Nat) (n : Nat), 1 ≤ most) :=
  ⟨⟨0, (wC |> fun s => (s).setCh 0 ({ (s.ch 0) with state := .idle }) |> fun s => (s).setCh 0 ({ (s.ch 0) with count := 4096 })), _, 0, 0,
    rfl, by decide +kernel⟩,
  ⟨0, wC, _, 0, 0,
    rfl, by decide +kernel⟩,
  ⟨0, wC, _, 0, 0,
    rfl, by decide +kernel⟩,
  ⟨0, (wC |> fun s => (s).setCh 0 ({ (s.ch 0) with run := none })), _, 0,
    rfl, by decide +kernel⟩,
  ⟨0, (wC |> fun s => (s).setCh 0 ({ (s.ch 0) with run := some (wRun) })), _, 0, wRun,
    rfl, by decide +kernel⟩,
  ⟨0, (wC |> fun s => (s).setCh 0 ({ (s.ch 0) with state := .done })), _, 0,
    rfl, by decide +kernel⟩,
  ⟨0, wC, _, 0,
    rfl, by decide +kernel⟩,
  ⟨0, (wC |> fun s => (s).setCh 0 ({ (s.ch 0) with run := some ({ { wRun with ending := none } with desc := none }) })), _, 0, ({ { wRun with ending := none } with desc := none }), (pz 32 [(16,1,64)]),
    rfl, by decide +kernel⟩,
  ⟨0, (wC |> fun s => (s).setCh 0 ({ (s.ch 0) with run := some ({ { wRun with ending := none } with desc := none }) })), _, 0, ({ { wRun with ending := none } with desc := none }), ([]),
    rfl, by decide +kernel⟩,
  ⟨0, (wC |> fun s => (s).setCh 0 ({ (s.ch 0) with run := some ({ { wRun with ending := none } with desc := none }) }) |> fun s => { s with dma := { s.dma with winBad := [0] } }), _, 0, ({ { wRun with ending := none } with desc := none }),
    rfl, by decide +kernel⟩,
  ⟨0, wC, _, 0, none,
    rfl, by decide +kernel⟩,
  ⟨wC, 0,
    by decide +kernel⟩,
  ⟨({ wDmaS true true with dma := { (wDmaS true true).dma with buffer := [] } } |> fun s => s.setCh 0 { s.ch 0 with run := some { wDmaR true true with issued := 0 } }), 127, 0, 0,
    by decide +kernel⟩,
  ⟨(wC |> fun s => (s).setCh 13 ({ (s.ch 13) with run := some ({ wRun with desc := some (wDesc) }) })), 13, _, ({ wRun with desc := some (wDesc) }), wDesc,
    rfl, by decide +kernel⟩,
  ⟨1, ({ wDesc with len := 0 + 1 }), 0,
    by decide +kernel⟩,
  ⟨wC, 0,
    by decide +kernel⟩,
  ⟨wC, 0, 0,
    by decide +kernel⟩,
  ⟨0, (wDmaS false true), _, 0, (wDmaR false true), (wDmaD false true), wChunk, (List.replicate 64 0),
    rfl, wOldest false true, by decide +kernel⟩,
  ⟨0, wDmaOdd, _, 0, ({ wDmaR false true with desc := some { wDmaD false true with dst := 2 } }), ({ wDmaD false true with dst := 2 }), wChunk, (List.replicate 64 0),
    rfl, by unfold oldestRead; decide +kernel, by decide +kernel⟩,
  ⟨0, (wDmaS true false), _, 0, (wDmaR true false), (wDmaD true false), wChunk, _,
    rfl, wOldest true false, rfl, by decide +kernel⟩,
  ⟨0, (wDmaS true true), _, 0, (wDmaR true true), (wDmaD true true), wChunk,
    rfl, wOldest true true, by decide +kernel⟩,
  ⟨0, ({ wDmaS true true with dma := { (wDmaS true true).dma with winBad := [0] } }), _, 0, (wDmaR true true), (wDmaD true true), wChunk,
    rfl, by unfold oldestRead; decide +kernel, by decide +kernel⟩,
  ⟨0, (wDmaS false false), _, 0, (wDmaR false false), (wDmaD false false), wChunk, (List.replicate 64 0),
    rfl, wOldest false false, by decide +kernel⟩,
  ⟨0, (wDmaS false true), _, 0, (wDmaR false true), (wDmaD false true), wChunk,
    rfl, wOldest false true, by decide +kernel⟩,
  ⟨0, (wDmaS true true), _, 0, (wDmaR true true), (wDmaD true true), wChunk,
    rfl, wOldest true true, by decide +kernel⟩,
  ⟨0, wC, _, 0, (({ data := .host [] } : ReadDone)),
    rfl, by decide +kernel⟩,
  ⟨(wC |> fun s => { s with integ := { s.integ with injected := [] } }),
    by decide +kernel⟩,
  ⟨0, (wC |> fun s => (s).setCh 13 ({ (s.ch 13) with run := some { wRun with count := 1, next := 1, crcMode := 0, last := some (63, false) } })), _, 13, ({ wRun with count := 1, next := 1, crcMode := 0, last := some (63, false) }),
    rfl, by decide +kernel⟩,
  ⟨0, (wC |> fun s => (s).setCh 13 ({ (s.ch 13) with run := some { wRun with count := 1, next := 1, crcMode := 2, last := some (63, false) } })), _, 13, 63, false, ({ wRun with count := 1, next := 1, crcMode := 2, last := some (63, false) }),
    rfl, by decide +kernel⟩,
  ⟨0, (wC |> fun s => (s).setCh 13 ({ (s.ch 13) with run := some ({ wRun with ending := some 4 }) }) |> fun s => (s).setCh 13 ({ (s.ch 13) with run := some { wRun with ending := some 4 } })), _, 13, 4, ({ wRun with ending := some 4 }),
    rfl, Or.inl ⟨by decide +kernel, by decide +kernel, by decide +kernel⟩, by decide +kernel⟩,
  ⟨0, wC, _, 0,
    rfl, by decide +kernel⟩,
  ⟨1, 0, 0,
    by decide +kernel⟩⟩

/-- Operands and states that meet the hypotheses of `Obligations.DmaWritesOnlyItsBytes`. -/
theorem test_DmaWritesOnlyItsBytes_hypotheses :
  ∃ (dt : Ps) (s : State) (w : State) (t : State) (c : Nat) (a : Nat) (r : DmaRun) (d : Desc) (k : Chunk) (b : List Byte), w = chunkRead
    (s.elapse dt) ∧ oldestRead w c r d k ∧ exec (.dmaReadComplete dt c { data := .host b }) s = .next t ∧ w.windowOk = true ∧ d.srcWin =
    false ∧ d.dstWin = true ∧ b.length = k.len ∧ mergeBad true (d.dst + k.at_) k.len w = false :=
  ⟨0, (wDmaS false true), _, (wNext (.dmaReadComplete 0 0 { data := .host (List.replicate 64 0) }) (wDmaS false true)), 0, 64, (wDmaR false true), (wDmaD false true), wChunk, (List.replicate 64 0),
    rfl, wOldest false true, rfl, by decide +kernel⟩

/-- Operands and states that meet the hypotheses of `Obligations.RecordQueuesFollowTheirRules`. -/
theorem test_RecordQueuesFollowTheirRules_hypotheses :
  (∃ (w : Word32) (f : Option Nat) (l : Option Nat) (now : Ps) (q : Rq), q.enable = false) ∧
  (∃ (w : Word32) (n : Nat) (l : Option Nat) (now : Ps) (q : Rq), q.enable = true ∧ q.flushPending = false ∧ 128 - q.lines.length < cdiv n 8
    + 1) ∧
  (∃ (w : Word32) (f : Option Nat) (l : Option Nat) (now : Ps) (q : Rq), q.enable = true ∧ q.flushPending = true ∧ q.flushedAt / 1250 = now
    / 1250) ∧
  (∃ (w : Word32) (n : Nat) (l : Option Nat) (now : Ps) (q : Rq), q.enable = true ∧ q.flushPending = false ∧ cdiv n 8 + 1 ≤ 128 -
    q.lines.length) ∧
  (∃ (w : Word32) (now : Ps) (q : Rq) (p : RqPack), q.pack = some p ∧ p.words.length < 7) ∧
  (∃ (w : Word32) (now : Ps) (q : Rq) (p : RqPack), q.pack = some p ∧ p.words.length = 7) ∧
  (∃ (idle : Bool) (q : Rq) (p : RqPack), q.pack = some p) ∧
  (∃ (dt : Ps) (s : State) (v : State) (n : Nat) (w : Word32) (f : Option Nat) (l : Option Nat), v = packRead n (s.elapse dt)) ∧
  (∃ (s : State) (n : Nat), ((s.rq n).pack = none ∨ s.integ.injected = [])) ∧
  (∃ (s : State) (n : Nat) (w : Word32) (f : Option Nat) (l : Option Nat), s.rqRuns = true) ∧
  (∃ (s : State) (n : Nat) (w : Word32) (f : Option Nat) (l : Option Nat), s.rqRuns = true ∧ ((rqWord w f l s.now (s.rq n)).1 ≠ .full ∨ f =
    none ∨ (s.rq n).intEn = false)) ∧
  (∃ (s : State) (n : Nat) (w : Word32) (f : Option Nat) (l : Option Nat), s.rqRuns = true ∧ (rqWord w f l s.now (s.rq n)).1 = .full ∧
    f.isSome = true ∧ (s.rq n).intEn = true) ∧
  (∃ (s : State) (n : Nat) (w : Word32) (f : Option Nat) (l : Option Nat), s.rqRuns = false) ∧
  (∃ (s : State) (n : Nat) (q : Rq), n < 32) ∧
  (∃ (dt : Ps) (s : State) (u : State) (n : Nat) (v : Word32), u = s.elapse dt ∧ u.bar0Runs = true) ∧
  (∃ (dt : Ps) (s : State) (u : State) (n : Nat) (v : Word32), u = s.elapse dt ∧ u.bar0Runs = true ∧ (u.rq n).enable = true ∧ v.getLsbD 7 =
    false) ∧
  (∃ (dt : Ps) (s : State) (u : State) (n : Nat) (v : Word32), u = s.elapse dt ∧ u.bar0Runs = true ∧ (u.rq n).enable = false ∧ v.getLsbD 7 =
    false) ∧
  (∃ (dt : Ps) (s : State) (u : State) (n : Nat) (v : Word32), u = s.elapse dt ∧ u.bar0Runs = true ∧ (u.rq n).enable = false ∧ v.getLsbD 7 =
    false ∧ 6 ≤ (v.extractLsb' 2 5).toNat ∧ (v.extractLsb' 2 5).toNat ≤ 16) ∧
  (∃ (dt : Ps) (s : State) (u : State) (n : Nat) (v : Word32), u = s.elapse dt ∧ u.bar0Runs = true ∧ (u.rq n).enable = false ∧ v.getLsbD 7 =
    false ∧ ((v.extractLsb' 2 5).toNat < 6 ∨ 16 < (v.extractLsb' 2 5).toNat)) ∧
  (∃ (dt : Ps) (s : State) (u : State) (n : Nat) (v : Word32), u = s.elapse dt ∧ u.bar0Runs = true ∧ (u.rq n).enable = true) ∧
  (∃ (dt : Ps) (s : State) (u : State) (n : Nat), u = s.elapse dt ∧ u.bar0Runs = true) ∧
  (∃ (dt : Ps) (s : State) (v : State) (n : Nat) (p : RqPack), v = packRead n (s.elapse dt) ∧ v.rqRuns = true ∧ (v.rq n).pack = some p ∧
    (v.rq n).enable = true ∧ (v.rq n).idleUs ≠ 0 ∧ p.lastAt + (v.rq n).idleUs.toNat * 1000000 ≤ v.now) ∧
  (∃ (dt : Ps) (s : State) (v : State) (n : Nat), v = packRead n (s.elapse dt) ∧ (v.rqRuns = false ∨ (v.rq n).pack = none ∨ (v.rq n).idleUs
    = 0 ∨ ∃ p, (v.rq n).pack = some p ∧ v.now < p.lastAt + (v.rq n).idleUs.toNat * 1000000)) ∧
  (∃ (dt : Ps) (s : State) (v : State) (n : Nat) (k : Nat) (slot : Nat) (l : RqLine) (rest : List RqLine), v = lineRead n (s.elapse dt) ∧ k
    = (v.rq n).log2.toNat ∧ slot = (v.rq n).tail.toNat % 2 ^ k ∧ n < 32 ∧ (v.rq n).lines = l :: rest ∧ (v.rq n).enable = true ∧ v.dmaRuns
    = true ∧ ((v.rq n).tail - (v.rq n).head).toNat < 2 ^ k) ∧
  (∃ (dt : Ps) (s : State) (v : State) (n : Nat), v = lineRead n (s.elapse dt) ∧ (v.dmaRuns = false ∨ (v.rq n).enable = false ∨ (v.rq
    n).lines = [] ∨ 2 ^ (v.rq n).log2.toNat ≤ ((v.rq n).tail - (v.rq n).head).toNat)) ∧
  (∃ (s : State) (n : Nat), s.integ.injected = []) :=
  ⟨⟨0, none, none, 0, ({ ({} : Rq) with enable := false }),
    by decide +kernel⟩,
  ⟨0, 1, none, 0, ({ enable := true, lines := List.replicate 128 wRl }),
    by decide +kernel⟩,
  ⟨0, none, none, 0, ({ { ({} : Rq) with enable := true } with flushPending := true }),
    by decide +kernel⟩,
  ⟨0, 0, none, 0, ({ { ({} : Rq) with enable := true } with flushPending := false }),
    by decide +kernel⟩,
  ⟨0, 0, ({ ({} : Rq) with pack := some (wPack) }), wPack,
    by decide +kernel⟩,
  ⟨0, 0, ({ ({} : Rq) with pack := some ({ wPack with words := List.replicate 7 0 }) }), ({ wPack with words := List.replicate 7 0 }),
    by decide +kernel⟩,
  ⟨true, ({ ({} : Rq) with pack := some (wPack) }), wPack,
    by decide +kernel⟩,
  ⟨0, wC, _, 0, 0, none, none,
    rfl⟩,
  ⟨(wC |> fun s => (s).setRq 0 ({ (s.rq 0) with pack := none })), 0,
    by decide +kernel⟩,
  ⟨wC, 0, 0, none, none,
    by decide +kernel⟩,
  ⟨wC, 0, 0, none, none,
    by decide +kernel⟩,
  ⟨(wC |> fun s => (s).setRq 0 ({ (s.rq 0) with intEn := true }) |> fun s => (s).setRq 0 ({ (s.rq 0) with enable := true }) |> fun s => (s).setRq 0 ({ (s.rq 0) with lines := List.replicate 128 wRl })), 0, 0, (some 0), none,
    by decide +kernel⟩,
  ⟨(wM .boot), 0, 0, none, none,
    by decide +kernel⟩,
  ⟨wC, 31, (({} : Rq)),
    by decide +kernel⟩,
  ⟨0, wC, _, 0, 0,
    rfl, by decide +kernel⟩,
  ⟨0, (wC |> fun s => (s).setRq 0 ({ (s.rq 0) with enable := true })), _, 0, 0,
    rfl, by decide +kernel⟩,
  ⟨0, (wC |> fun s => (s).setRq 0 ({ (s.rq 0) with enable := false })), _, 0, 0,
    rfl, by decide +kernel⟩,
  ⟨0, (wC |> fun s => (s).setRq 0 ({ (s.rq 0) with enable := false })), _, 0, 64,
    rfl, by decide +kernel⟩,
  ⟨0, (wC |> fun s => (s).setRq 0 ({ (s.rq 0) with enable := false })), _, 0, 0,
    rfl, by decide +kernel⟩,
  ⟨0, (wC |> fun s => (s).setRq 0 ({ (s.rq 0) with enable := true })), _, 0, 0,
    rfl, by decide +kernel⟩,
  ⟨0, wC, _, 0,
    rfl, by decide +kernel⟩,
  ⟨0, (wC |> fun s => (s).setRq 0 ({ (s.rq 0) with pack := some (wPack) }) |> fun s => (s).setRq 0 ({ (s.rq 0) with enable := true }) |> fun s => (s).setRq 0 ({ (s.rq 0) with idleUs := 1 })), _, 0, wPack,
    rfl, by decide +kernel⟩,
  ⟨0, wC, _, 0,
    rfl, by decide +kernel⟩,
  ⟨0, (wC |> fun s => (s).setRq 31 ({ (s.rq 31) with lines := [(wRl)] }) |> fun s => (s).setRq 31 ({ (s.rq 31) with enable := true })), _, 31, _, _, wRl, ([]),
    rfl, rfl, rfl, by decide +kernel⟩,
  ⟨0, wC, _, 0,
    rfl, by decide +kernel⟩,
  ⟨(wC |> fun s => { s with integ := { s.integ with injected := [] } }), 0,
    by decide +kernel⟩⟩

/-- Operands and states that meet the hypotheses of `Obligations.ResetsSupplyAndWakeTakeEffect`. -/
theorem test_ResetsSupplyAndWakeTakeEffect_hypotheses :
  (∃ (dt : Ps) (s : State) (u : State), u = s.elapse dt ∧ u.sys.phase = .unpowered) ∧
  (∃ (dt : Ps) (s : State) (u : State), u = s.elapse dt ∧ u.sys.phase = .reserve) ∧
  (∃ (dt : Ps) (s : State) (u : State), u = s.elapse dt ∧ u.sys.phase ≠ .unpowered ∧ u.sys.phase ≠ .reserve) ∧
  (∃ (dt : Ps) (s : State) (u : State), u = s.elapse dt ∧ (u.sys.phase = .running ∨ u.sys.phase = .held .warm ∨ u.sys.phase = .held .wdog ∨
    u.sys.phase = .held .fault)) ∧
  (∃ (dt : Ps) (s : State) (u : State), u = s.elapse dt ∧ (u.sys.phase = .unpowered ∨ u.sys.phase = .reserve ∨ u.sys.phase = .handoff ∨
    u.sys.phase = .thermal ∨ u.sys.phase = .held .por ∨ u.sys.phase = .held .pin)) ∧
  (∃ (dt : Ps) (s : State) (u : State), u = s.elapse dt) ∧
  (∃ (dt : Ps) (s : State) (u : State), u = s.elapse dt ∧ u.sys.phase = .running ∧ u.host.warmDue = true) ∧
  (∃ (dt : Ps) (s : State) (u : State), u = s.elapse dt ∧ (u.host.warmDue = false ∨ u.sys.phase ≠ .running)) ∧
  (∃ (dt : Ps) (s : State) (u : State), u = s.elapse dt ∧ u.sys.phase = .running ∧ u.sys.stuck = false ∧ u.upd.recovery = none ∧
    u.integ.noInterface = false ∧ u.sys.wdogAt + 100000000000 ≤ u.now) ∧
  (∃ (dt : Ps) (s : State) (u : State), u = s.elapse dt ∧ (u.sys.phase ≠ .running ∨ u.sys.stuck = true ∨ u.upd.recovery.isSome = true ∨
    u.integ.noInterface = true ∨ u.now < u.sys.wdogAt + 100000000000)) ∧
  (∃ (dt : Ps) (s : State) (u : State), u = s.elapse dt ∧ (u.sys.phase = .running ∨ u.sys.phase = .thermal ∨ ∃ k, u.sys.phase = .held k)) ∧
  (∃ (dt : Ps) (s : State) (u : State), u = s.elapse dt ∧ (u.sys.phase = .running ∨ u.sys.phase = .thermal ∨ ∃ k, u.sys.phase = .held k)) ∧
  (∃ (dt : Ps) (s : State) (u : State) (b : Bool), u = s.elapse dt ∧ (u.sys.phase = .unpowered ∨ u.sys.phase = .reserve ∨ u.sys.phase =
    .handoff)) ∧
  (∃ (dt : Ps) (s : State) (u : State), u = s.elapse dt ∧ u.sys.phase = .handoff) ∧
  (∃ (dt : Ps) (s : State) (u : State), u = s.elapse dt ∧ u.sys.phase = .handoff) ∧
  (∃ (dt : Ps) (s : State) (u : State) (b : Bool), u = s.elapse dt ∧ u.sys.phase ≠ .handoff) ∧
  (∃ (dt : Ps) (s : State) (u : State), u = s.elapse dt ∧ (u.sys.phase = .handoff ∨ u.sys.phase = .reserve)) ∧
  (∃ (dt : Ps) (s : State) (u : State), u = s.elapse dt ∧ u.sys.phase ≠ .handoff ∧ u.sys.phase ≠ .reserve) ∧
  (∃ (dt : Ps) (s : State) (u : State), u = s.elapse dt ∧ u.sys.phase = .running ∧ u.sys.mode = .dormant ∧ u.sys.wakeActive = false ∧ 0 <
    u.sys.wakeTime ∧ u.sys.wakeTime ≤ stampSec u.stamp) ∧
  (∃ (dt : Ps) (s : State) (u : State) (i : Nat), u = s.elapse dt ∧ u.sys.phase = .running ∧ u.sys.mode = .dormant ∧ u.sys.wakeActive = true
    ∧ u.pair.pairEnable = false ∧ wakeInput u i = true) ∧
  (∃ (dt : Ps) (s : State) (u : State) (i : Nat), u = s.elapse dt ∧ (u.sys.mode ≠ .dormant ∨ wakeInput u i = false)) ∧
  (∃ (dt : Ps) (s : State) (u : State), u = s.elapse dt ∧ (u.sys.mode ≠ .dormant ∨ u.sys.wakeTime = 0 ∨ stampSec u.stamp < u.sys.wakeTime)) :=
  ⟨⟨0, (wC |> fun s => { s with sys := { s.sys with phase := .unpowered } }), _,
    rfl, by decide +kernel⟩,
  ⟨0, (wC |> fun s => { s with sys := { s.sys with phase := .reserve } }), _,
    rfl, by decide +kernel⟩,
  ⟨0, wC, _,
    rfl, by decide +kernel⟩,
  ⟨0, (wC |> fun s => { s with sys := { s.sys with phase := .running } }), _,
    rfl, by decide +kernel⟩,
  ⟨0, (wC |> fun s => { s with sys := { s.sys with phase := .unpowered } }), _,
    rfl, by decide +kernel⟩,
  ⟨0, wC, _,
    rfl⟩,
  ⟨0, (wC |> fun s => { s with sys := { s.sys with phase := .running } } |> fun s => { s with host := { s.host with warmDue := true } }), _,
    rfl, by decide +kernel⟩,
  ⟨0, (wC |> fun s => { s with host := { s.host with warmDue := false } }), _,
    rfl, by decide +kernel⟩,
  ⟨0, (wC |> fun s => { s with sys := { s.sys with phase := .running } } |> fun s => { s with sys := { s.sys with stuck := false } } |> fun s => { s with upd := { s.upd with recovery := none } } |> fun s => { s with integ := { s.integ with noInterface := false } }), _,
    rfl, by decide +kernel⟩,
  ⟨0, (wC |> fun s => { s with sys := { s.sys with stuck := true } }), _,
    rfl, by decide +kernel⟩,
  ⟨0, (wC |> fun s => { s with sys := { s.sys with phase := .running } }), _,
    rfl, Or.inl (by decide +kernel)⟩,
  ⟨0, (wC |> fun s => { s with sys := { s.sys with phase := .running } }), _,
    rfl, Or.inl (by decide +kernel)⟩,
  ⟨0, (wC |> fun s => { s with sys := { s.sys with phase := .unpowered } }), _, true,
    rfl, by decide +kernel⟩,
  ⟨0, (wC |> fun s => { s with sys := { s.sys with phase := .handoff } }), _,
    rfl, by decide +kernel⟩,
  ⟨0, (wC |> fun s => { s with sys := { s.sys with phase := .handoff } }), _,
    rfl, by decide +kernel⟩,
  ⟨0, wC, _, true,
    rfl, by decide +kernel⟩,
  ⟨0, (wC |> fun s => { s with sys := { s.sys with phase := .handoff } }), _,
    rfl, by decide +kernel⟩,
  ⟨0, wC, _,
    rfl, by decide +kernel⟩,
  ⟨0, (wC |> fun s => { s with sys := { s.sys with phase := .running } } |> fun s => { s with sys := { s.sys with mode := .dormant } } |> fun s => { s with sys := { s.sys with wakeActive := false } } |> fun s => { s with sys := { s.sys with wakeTime := 1 } }), _,
    rfl, by decide +kernel⟩,
  ⟨0, (wC |> fun s => { s with sys := { s.sys with phase := .running } } |> fun s => { s with sys := { s.sys with mode := .dormant } } |> fun s => { s with sys := { s.sys with wakeActive := true } } |> fun s => { s with pair := { s.pair with pairEnable := false } } |> fun s => { s with sys := { s.sys with wakeMask := 1 } } |> fun s => { s with time := { s.time with evtEdges := 0xFFFFFFFF } }), _, 0,
    rfl, by decide +kernel⟩,
  ⟨0, wC, _, 0,
    rfl, by decide +kernel⟩,
  ⟨0, wC, _,
    rfl, by decide +kernel⟩⟩

/-- Operands and states that meet the hypotheses of `Obligations.ResetKeepsAndLoses`. -/
theorem test_ResetKeepsAndLoses_hypotheses :
  ∃ (k : ResetKind) (s : State) (t : State), t = resetEdge k s ∧ s.host.executing = none :=
  ⟨.pin, (wC |> fun s => { s with host := { s.host with executing := none } }), _,
    rfl, by decide +kernel⟩

/-- Operands and states that meet the hypotheses of `Obligations.LeavingResetTakesEffect`. -/
theorem test_LeavingResetTakesEffect_hypotheses :
  (∃ (dt : Ps) (s : State) (u : State) (p : StrapPins) (a : Nat) (b : Nat) (k : ResetKind), u = s.elapse dt ∧ u.sys.phase = .held k ∧
    u.sys.resetN = false ∧ scorched u = false ∧ otpBad (readFuses u) = none ∧ (a = 2 ∨ a = 4 ∨ a = 8) ∧ (b = 2 ∨ b = 4 ∨ b = 8)) ∧
  (∃ (dt : Ps) (s : State) (u : State) (p : StrapPins) (a : Nat) (b : Nat) (y : Nat) (k : ResetKind), u = s.elapse dt ∧ (a = 2 ∨ a = 4 ∨ a =
    8) ∧ (b = 2 ∨ b = 4 ∨ b = 8) ∧ u.sys.phase = .held k ∧ u.sys.resetN = false ∧ scorched u = false ∧ otpBad (readFuses u) = some y) ∧
  (∃ (dt : Ps) (s : State) (u : State) (p : StrapPins) (a : Nat) (b : Nat) (k : ResetKind), u = s.elapse dt ∧ u.sys.phase = .held k ∧
    u.sys.resetN = false ∧ scorched u = false ∧ otpBad (readFuses u) = none ∧ (a = 2 ∨ a = 4 ∨ a = 8) ∧ (b = 2 ∨ b = 4 ∨ b = 8) ∧
    u.sys.markerLost = false ∧ u.sys.lifecycle = fuseState (fullFuses u.sec.fuses)) ∧
  (∃ (dt : Ps) (s : State) (u : State) (p : StrapPins) (a : Nat) (b : Nat) (k : ResetKind), u = s.elapse dt ∧ u.sys.phase = .held k ∧
    u.sys.resetN = false ∧ scorched u = false ∧ otpBad (readFuses u) = none ∧ (a = 2 ∨ a = 4 ∨ a = 8) ∧ (b = 2 ∨ b = 4 ∨ b = 8) ∧
    u.sys.markerLost = true) ∧
  (∃ (dt : Ps) (s : State) (u : State) (p : StrapPins) (a : Nat) (b : Nat), u = s.elapse dt ∧ (u.sys.resetN = true ∨ u.sys.phase = .running
    ∨ scorched u = true)) ∧
  (∃ (dt : Ps) (s : State) (u : State) (p : StrapPins) (a : Nat) (b : Nat), u = s.elapse dt ∧ (gibOk a = false ∨ gibOk b = false)) ∧
  (∃ (s : State) (n : Nat), s.sys.straps.bootSrc = false ∧ (bankOf s.upd n).state = .good ∧ bankPasses s false (bankOf s.upd n) = true ∧ (n
    = 0 ∨ n = 1) ∧ (bankOf s.upd (1 - n)).state ≠ .trial ∧ (bankOf s.upd (1 - n)).state ≠ .pending ∧ (bankOf s.upd (1 - n)).state ≠ .good) ∧
  (∃ (s : State), s.sys.straps.bootSrc = true ∧ s.sys.straps.svcEn = true) ∧
  (∃ (s : State), s.sys.straps.svcEn = false ∧ s.upd.bankA.state = .empty ∧ s.upd.bankB.state = .empty) ∧
  (∃ (n : Nat) (s : State), (n = 0 ∨ n = 1) ∧ (bankOf s.upd n).state = .pending ∧ bankPasses s false (bankOf s.upd n) = true) :=
  ⟨⟨0, (wC |> fun s => { s with sys := { s.sys with phase := (.held (.pin)) } } |> fun s => { s with sys := { s.sys with resetN := false } }), _, wStraps, 8, 8, .pin,
    rfl, by decide +kernel⟩,
  ⟨0, (wC |> fun s => { s with sys := { s.sys with phase := (.held .pin) } } |> fun s => { s with sys := { s.sys with resetN := false } } |> fun s => { s with sys := { s.sys with phase := .held .pin } } |> fun s => { s with sec := { s.sec with otp := { s.sec.otp with serialWords := [3, 0] } } }), _, wStraps, 2, 8, 24, .pin,
    rfl, Or.inl rfl, Or.inr (Or.inr rfl), by decide +kernel⟩,
  ⟨0, (wC |> fun s => { s with sys := { s.sys with phase := .held .pin } } |> fun s => { s with sys := { s.sys with markerLost := false } }), _, wStraps, 8, 8, .pin,
    rfl, by decide +kernel⟩,
  ⟨0, (wC |> fun s => { s with sys := { s.sys with phase := (.held (.pin)) } } |> fun s => { s with sys := { s.sys with resetN := false } } |> fun s => { s with sys := { s.sys with markerLost := true } }), _, wStraps, 8, 8, .pin,
    rfl, by decide +kernel⟩,
  ⟨0, (wC |> fun s => { s with sys := { s.sys with resetN := true } }), _, wStraps, 0, 0,
    rfl, by decide +kernel⟩,
  ⟨0, wC, _, wStraps, 0, 0,
    rfl, by decide +kernel⟩,
  ⟨(wC |> fun s => { s with sys := { s.sys with straps := { s.sys.straps with bootSrc := false } } }), 0,
    by decide +kernel⟩,
  ⟨(wC |> fun s => { s with sys := { s.sys with straps := { s.sys.straps with bootSrc := true } } } |> fun s => { s with sys := { s.sys with straps := { s.sys.straps with svcEn := true } } }),
    by decide +kernel⟩,
  ⟨(wC |> fun s => { s with sys := { s.sys with straps := { s.sys.straps with svcEn := false } } } |> fun s => { s with upd := { s.upd with bankA := { s.upd.bankA with state := .empty } } } |> fun s => { s with upd := { s.upd with bankB := { s.upd.bankB with state := .empty } } }),
    by decide +kernel⟩,
  ⟨0, (wC |> fun s => { s with upd := { s.upd with bankA := { wC.upd.bankA with state := .pending, fw := some { wImg with root := some (List.replicate 48 0) }, cat := some { wImg with root := some (List.replicate 48 0) } } } }),
    by decide +kernel⟩⟩

/-- Operands and states that meet the hypotheses of `Obligations.BootEndsInItsMode`. -/
theorem test_BootEndsInItsMode_hypotheses :
  (∃ (dt : Ps) (s : State) (u : State) (ok : Bool), u = s.elapse dt ∧ firmwareRuns u = true ∧ u.sys.mode = .boot ∧ u.host.cmdReady = false) ∧
  (∃ (dt : Ps) (s : State) (u : State) (ok : Bool), u = s.elapse dt ∧ (firmwareRuns u = false ∨ u.sys.mode ≠ .boot ∨ u.host.cmdReady =
    true)) ∧
  (∃ (s : State) (ok : Bool), s.sys.mode = .boot ∧ s.sys.lastReset = .fault) ∧
  (∃ (s : State) (ok : Bool), s.sys.lastReset ≠ .fault ∧ s.sys.bootedSvc = true) ∧
  (∃ (s : State) (ok : Bool), s.sys.lastReset ≠ .fault ∧ s.sys.bootedSvc = false ∧ (s.sys.lifecycle = .return ∨ s.sys.loaded = false ∨
    s.sys.defaulted = true ∨ s.sys.runAtBoot = false ∨ s.sys.lastReset = .wdog ∧ 3 ≤ (recentWdog s).length)) ∧
  (∃ (s : State) (ok : Bool), s.sys.lastReset ≠ .fault ∧ s.sys.bootedSvc = false ∧ s.sys.lifecycle ≠ .return ∧ s.sys.loaded = true ∧
    s.sys.defaulted = false ∧ s.sys.runAtBoot = true ∧ (s.sys.lastReset = .wdog → (recentWdog s).length < 3) ∧ s.pair.pairEnable = false) ∧
  (∃ (s : State) (ok : Bool), s.sys.mode = .boot ∧ s.sys.lastReset ≠ .fault ∧ s.sys.bootedSvc = false ∧ s.sys.lifecycle ≠ .return ∧
    s.sys.loaded = true ∧ s.sys.defaulted = false ∧ s.sys.runAtBoot = true ∧ (s.sys.lastReset = .wdog → (recentWdog s).length < 3) ∧
    s.pair.pairEnable = true ∧ s.pair.state ≠ .listen) ∧
  (∃ (s : State) (ok : Bool), firmwareRuns s = true ∧ s.sys.mode = .boot ∧ s.host.cmdReady = false) ∧
  (∃ (s : State) (k : Nat), k < 12) ∧
  (∃ (s : State), bootCopy s = none) ∧
  (∃ (s : State) (c : SettingsCopy), bootCopy s = some c) ∧
  (∃ (s : State), s.upd.dramImages = none ∧ s.upd.runBank.state = .trial) :=
  ⟨⟨0, (wC |> fun s => { s with sys := { s.sys with mode := .boot } } |> fun s => { s with host := { s.host with cmdReady := false } }), _, true,
    rfl, by decide +kernel⟩,
  ⟨0, wC, _, true,
    rfl, by decide +kernel⟩,
  ⟨(wC |> fun s => { s with sys := { s.sys with mode := .boot } } |> fun s => { s with sys := { s.sys with lastReset := .fault } }), true,
    by decide +kernel⟩,
  ⟨(wC |> fun s => { s with sys := { s.sys with bootedSvc := true } }), true,
    by decide +kernel⟩,
  ⟨(wC |> fun s => { s with sys := { s.sys with bootedSvc := false } } |> fun s => { s with sys := { s.sys with lifecycle := .return } }), true,
    by decide +kernel⟩,
  ⟨(wC |> fun s => { s with sys := { s.sys with bootedSvc := false } } |> fun s => { s with sys := { s.sys with loaded := true } } |> fun s => { s with sys := { s.sys with defaulted := false } } |> fun s => { s with sys := { s.sys with runAtBoot := true } } |> fun s => { s with pair := { s.pair with pairEnable := false } }), true,
    by decide +kernel⟩,
  ⟨(wC |> fun s => { s with sys := { s.sys with mode := .boot } } |> fun s => { s with sys := { s.sys with bootedSvc := false } } |> fun s => { s with sys := { s.sys with loaded := true } } |> fun s => { s with sys := { s.sys with defaulted := false } } |> fun s => { s with sys := { s.sys with runAtBoot := true } } |> fun s => { s with pair := { s.pair with pairEnable := true } }), true,
    by decide +kernel⟩,
  ⟨(wC |> fun s => { s with sys := { s.sys with mode := .boot } } |> fun s => { s with host := { s.host with cmdReady := false } }), true,
    by decide +kernel⟩,
  ⟨wC, 11,
    by decide +kernel⟩,
  ⟨wC,
    by decide +kernel⟩,
  ⟨(wC |> fun s => { s with upd := { s.upd with bankA := { wC.upd.bankA with copies := #v[some wSc, none] } } }), wSc,
    by decide +kernel⟩,
  ⟨(wC |> fun s => { s with upd := { s.upd with dramImages := none } } |> fun s => { s with upd := { s.upd with bankA := { wC.upd.bankA with state := .trial } } }),
    by decide +kernel⟩⟩

/-- Operands and states that meet the hypotheses of `Obligations.RefusalChecksInOrder`. -/
theorem test_RefusalChecksInOrder_hypotheses :
  (∃ (d : Cmd) (dt : Ps) (q : Packet) (s : State) (u : State) (v : State), v = s.elapse dt ∧ u = arrived q v ∧ v.ifaceRuns q.ifc = true ∧
    arrivalStatus (packetOf d.opcode q) v = none ∧ v.host.executing = none ∧ v.host.waiting = [] ∧ journalMustCommit v = false ∧
    lifecycleDenies v.sys.lifecycle d.opcode q.params = true) ∧
  (∃ (d : Cmd) (dt : Ps) (q : Packet) (s : State) (u : State), u = arrived q (s.elapse dt) ∧ ready (s.elapse dt) q d.opcode = true ∧ d.modes
    u.sys.mode = false) ∧
  (∃ (d : Cmd) (dt : Ps) (q : Packet) (s : State) (u : State), u = arrived q (s.elapse dt) ∧ ready (s.elapse dt) q d.opcode = true ∧ d.modes
    u.sys.mode = true ∧ d.lenOk q.params = false) ∧
  (∃ (d : Cmd) (dt : Ps) (q : Packet) (s : State) (u : State) (pre : List (Bool × Nat)) (post : List (Bool × Nat)) (o : Nat), u = arrived q
    (s.elapse dt) ∧ d.checks u q.params = pre ++ (false, o) :: post ∧ ready (s.elapse dt) q d.opcode = true ∧ d.modes u.sys.mode = true ∧
    d.lenOk q.params = true ∧ (∀ x, x ∈ pre → x.1 = true)) ∧
  (∃ (d : Cmd) (dt : Ps) (q : Packet) (s : State) (u : State), u = s.elapse dt ∧ u.ifaceRuns q.ifc = false) ∧
  (∃ (d : Cmd), d ∈ allCmds) :=
  ⟨⟨cmdPairSet, 0, (pk ([])), (wC |> fun s => { s with sys := { s.sys with lifecycle := .return } }), _, _,
    rfl, rfl, by decide +kernel⟩,
  ⟨cmdIntegInject, 0, (pk ([])), (wM .active), _,
    rfl, by decide +kernel⟩,
  ⟨cmdSysSetMode, 0, (pk ([])), wC, _,
    rfl, by decide +kernel⟩,
  ⟨cmdSysSetMode, 0, (pk (pz 10 [])), wC, _, ([]), ([(true, 9)]), 0,
    rfl, rfl, by decide +kernel⟩,
  ⟨cmdSysEcho, 0, (pk ([])), (wC |> fun s => { s with host := { s.host with cmdReady := false } }), _,
    rfl, by decide +kernel⟩,
  ⟨cmdSysEcho,
    List.mem_of_getElem? (show allCmds[9]? = some cmdSysEcho from rfl)⟩⟩

/-- Operands and states that meet the hypotheses of `Obligations.JournalAndSettingsFollowCommands`. -/
theorem test_JournalAndSettingsFollowCommands_hypotheses :
  (∃ (c : QCmd) (st : Nat) (s : State), uncommitted s.host.journal = 3583 ∧ s.host.journal.length < 4096) ∧
  (∃ (d : Cmd) (dt : Ps) (q : Packet) (s : State) (u : State) (v : State) (data : List Byte), u = arrived q (s.elapse dt) ∧ cmdOutcome d
    q.ifc q.params u = .ok data v ∧ ready (s.elapse dt) q d.opcode = true ∧ v.sys.phase = .running ∧ journalMustCommit v = false) ∧
  (∃ (dt : Ps) (q : Packet) (s : State) (u : State), u = s.elapse dt ∧ u.ifaceRuns q.ifc = true ∧ arrivalStatus (packetOf 0x0103 q) u = none
    ∧ u.host.executing = none ∧ u.host.waiting = [] ∧ journalMustCommit u = true ∧ q.params = []) ∧
  (∃ (dt : Ps) (s : State) (u : State) (c : QCmd) (st : Nat) (mute : Bool), u = s.elapse dt ∧ u.commandsRun = true ∧ u.host.executing = some
    { cmd := c, op := .journalCommit st 0 [], mute }) ∧
  (∃ (dt : Ps) (s : State) (u : State) (c : QCmd) (st : Nat) (mute : Bool), u = s.elapse dt ∧ u.commandsRun = true ∧ journalMustCommit u =
    true ∧ u.host.executing = some { cmd := c, op := .journalCommit st 0 [], mute }) :=
  ⟨⟨wQ, 0, (wC |> fun s => { s with host := { s.host with journal := List.replicate 3583 wJ } }),
    by decide +kernel⟩,
  ⟨cmdSysEcho, 0, (pk ([])), wC, _, ((match cmdOutcome cmdSysEcho 0 [] (arrived (pk []) (wC.elapse 0)) with | .ok _ v => v | _ => wC)), ([]),
    rfl, rfl, by decide +kernel⟩,
  ⟨0, (pk ([])), (wC |> fun s => { s with host := { s.host with executing := none } } |> fun s => { s with host := { s.host with waiting := [] } } |> fun s => { s with host := { s.host with journal := List.replicate 4096 wJ } }), _,
    rfl, by decide +kernel⟩,
  ⟨0, (wC |> fun s => { s with host := { s.host with executing := some { cmd := wQ, op := .journalCommit 0 0 [], mute := false } } }), _, wQ, 0, false,
    rfl, by decide +kernel⟩,
  ⟨0, (wC |> fun s => { s with host := { s.host with executing := some { cmd := wQ, op := .journalCommit 0 0 [], mute := false } } } |> fun s => { s with host := { s.host with journal := List.replicate 4096 wJ } }), _, wQ, 0, false,
    rfl, by decide +kernel⟩⟩

/-- Operands and states that meet the hypotheses of `Obligations.EveryStepKeepsTheWindow`. -/
theorem test_EveryStepKeepsTheWindow_hypotheses :
  ∃ (s : State) (t : State), step s = .next t ∧ s.windowOk = true :=
  ⟨wC, _,
    rfl, by decide +kernel⟩

/-- Operands and states that meet the hypotheses of `Obligations.OnlyDmaWritesTheWindow`. -/
theorem test_OnlyDmaWritesTheWindow_hypotheses :
  ∃ (c : Instr) (s : State) (t : State), (∀ dt ch data, c ≠ .dmaReadComplete dt ch data) ∧ (∀ dt ch, c ≠ .dmaListComplete dt ch) ∧ exec c s
    = .next t :=
  ⟨(Instr.cmdCompletionWrite 0), wC, (wNext (.cmdCompletionWrite 0) wC),
    by intro _ _ _ h; exact Instr.noConfusion h, by intro _ _ h; exact Instr.noConfusion h, rfl⟩

/-- Operands and states that meet the hypotheses of `Obligations.EveryCommandKeepsQueueClockAndLifecycle`. -/
theorem test_EveryCommandKeepsQueueClockAndLifecycle_hypotheses :
  ∃ (c : Instr) (s : State) (t : State), (∀ dt pins a b, c ≠ .leaveReset dt pins a b) ∧ exec c s = .next t :=
  ⟨(Instr.cmdCompletionWrite 0), wC, (wNext (.cmdCompletionWrite 0) wC),
    by intro _ _ _ _ h; exact Instr.noConfusion h, rfl⟩

end Sys2Proof.Tests
end

section
/-! SUPPORT. Register accesses of BAR0: what a request of each shape does, which block of registers an offset reaches, and
the statement on reads and writes of the registers (R20, R121, R426, R450, R451, R455 to R461, R473). -/

namespace Sys2Proof.Machine

/-! ### Requests -/

theorem exec_readClearRegister_eq (dt : Ps) (a n : Nat) (s : State) :
    exec (.readClearRegister dt a n) s = .next (bar0Read a n (s.elapse dt)) := rfl

theorem exec_tsNsRead_eq (dt : Ps) (s : State) : exec (.tsNsRead dt) s = .next (bar0Read 0x40000 4 (s.elapse dt)) := rfl

theorem exec_registerWrite_eq (dt : Ps) (a n : Nat) (v : Word32) (s : State) :
    exec (.registerWrite dt a n v) s = .next (bar0Write a n v (s.elapse dt)) := rfl

/-- A read within one DWORD of BAR0 returns its bytes and has the effect of the whole read (R455). -/
theorem bar0Read_within {a n : Nat} {s : State} (hr : s.bar0Runs = true) (h1 : 1 ≤ n) (hd : a % 4 + n ≤ 4) (ha : a < 0x400000) :
    bar0Read a n s = (readEffect (a / 4 * 4) s).emit (.register a (slice (le 4 (readReg (a / 4 * 4) s).toNat) (a % 4) n)) := by
  have h4 : n ≤ 4 := by omega
  simp [bar0Read, longRequest, inRange, hr, h1, h4, hd, ha]

theorem bar0Read_long {a n : Nat} {s : State} (hr : s.bar0Runs = true) (hd : 4 < a % 4 + n) (ha : a < 0x400000) :
    bar0Read a n s = s.emit (.unsupported a) := by
  simp [bar0Read, longRequest, hr, hd, ha]

theorem bar0Read_ignored {a n : Nat} {s : State} (h : s.bar0Runs = false ∨ n = 0 ∨ 0x400000 ≤ a) : bar0Read a n s = s := by
  obtain hr | rfl | ha := h
  · simp [bar0Read, hr]
  · have hd : ¬ 4 < a % 4 := by omega
    simp [bar0Read, longRequest, inRange, hd]
  · have ha' : ¬ a < 0x400000 := by omega
    simp [bar0Read, ha']

theorem bar0Write_dword {a : Nat} {v : Word32} {s : State} (hr : s.bar0Runs = true) (hd : a % 4 = 0) (ha : a < 0x400000) :
    bar0Write a 4 v s = writeReg a v s := by
  simp [bar0Write, longRequest, hr, hd, ha]

theorem bar0Write_long {a n : Nat} {v : Word32} {s : State} (hr : s.bar0Runs = true) (hd : 4 < a % 4 + n) (ha : a < 0x400000) :
    bar0Write a n v s = s.emit (.unsupported a) := by
  simp [bar0Write, longRequest, hr, hd, ha]

theorem bar0Write_ignored {a n : Nat} {v : Word32} {s : State}
    (h : s.bar0Runs = false ∨ 0x400000 ≤ a ∨ a % 4 + n ≤ 4 ∧ (n ≠ 4 ∨ a % 4 ≠ 0)) : bar0Write a n v s = s := by
  obtain hr | ha | ⟨hd, hp⟩ := h
  · simp [bar0Write, hr]
  · have ha' : ¬ a < 0x400000 := by omega
    simp [bar0Write, ha']
  · have hd' : ¬ 4 < a % 4 + n := by omega
    rw [bar0Write, if_neg (by simp [longRequest, hd'])]
    refine if_neg fun hw => ?_
    simp only [Bool.and_eq_true, beq_iff_eq] at hw
    omega

/-! ### The blocks of registers

Each lemma says which register of which block an offset of BAR0 reaches. -/

theorem inRange_iff {v lo hi : Nat} : inRange v lo hi = true ↔ lo ≤ v ∧ v ≤ hi := by simp [inRange]

theorem block_index (base i : Nat) {o : Nat} (ho : o < 64) : (base + 64 * i + o - base) / 64 = i := by omega

theorem block_offset (base i : Nat) {o : Nat} (ho : o < 64) : (base + 64 * i + o - base) % 64 = o := by omega

theorem readReg_rq (s : State) {n o : Nat} (hn : n < 32) (ho : o < 64) : readReg (0x30000 + 64 * n + o) s = readRq (s.rq n) o := by
  generalize ha : 0x30000 + 64 * n + o = a
  have hq : (a - 0x30000) / 64 = n := by omega
  have hm : (a - 0x30000) % 64 = o := by omega
  unfold readReg
  split
  any_goals omega
  rw [if_neg, if_neg, if_neg, if_neg, if_pos, hq, hm]
  all_goals rw [inRange_iff]; omega

theorem readEffect_ch (s : State) {c o : Nat} (hc : c < 14) (ho : o < 64) :
    readEffect (0x20000 + 64 * c + o) s = s.setCh c (clearCh (s.ch c) o) := by
  have ht : ¬ 0x20000 + 64 * c + o = 0x40000 := by omega
  rw [readEffect, if_neg ht, if_neg, if_pos, readChAt, block_index _ _ ho, block_offset _ _ ho]
  all_goals simp only [Bool.and_eq_true, inRange_iff]; omega

theorem readEffect_rq (s : State) {n o : Nat} (hn : n < 32) (ho : o < 64) :
    readEffect (0x30000 + 64 * n + o) s = s.setRq n (clearRq (s.rq n) o) := by
  have ht : ¬ 0x30000 + 64 * n + o = 0x40000 := by omega
  rw [readEffect, if_neg ht, if_neg, if_neg, if_pos, readRqAt, block_index _ _ ho, block_offset _ _ ho]
  all_goals simp only [Bool.and_eq_true, inRange_iff]; omega

/-- Below the rings no field clears when it is read. -/
theorem readEffect_below_rings (s : State) {a : Nat} (ha : a < 0x10000) : readEffect a s = s := by
  have ht : ¬ a = 0x40000 := by omega
  rw [readEffect, if_neg ht, if_neg, if_neg, if_neg]
  all_goals simp only [Bool.and_eq_true, inRange_iff]; omega

/-- From the rings on, every register lies in an array (R455). -/
theorem writeReg_eq_writeArray (v : Word32) (s : State) {a : Nat} (ha : 0x10000 ≤ a) : writeReg a v s = writeArray a v s := by
  unfold writeReg
  split
  any_goals omega
  rfl

theorem writeReg_ring (v : Word32) (s : State) {k o : Nat} (hk : k < 8) (ho : o < 64) :
    writeReg (0x10000 + 64 * k + o) v s = { s with ingress := { s.ingress with
      rings := vset s.ingress.rings k (writeRing o v (vget {} s.ingress.rings k)) } } := by
  rw [writeReg_eq_writeArray v s (by omega), writeArray, if_neg, if_neg, if_pos, writeRingAt, block_index _ _ ho, block_offset _ _ ho]
  all_goals rw [inRange_iff]; omega

theorem writeReg_ch (v : Word32) (s : State) {c o : Nat} (hc : c < 14) (ho : o < 64) :
    writeReg (0x20000 + 64 * c + o) v s = s.setCh c (writeCh o v (s.ch c)) := by
  rw [writeReg_eq_writeArray v s (by omega), writeArray, if_neg, if_neg, if_neg, if_pos, writeChAt, block_index _ _ ho, block_offset _ _ ho]
  all_goals rw [inRange_iff]; omega

theorem writeReg_rq (v : Word32) (s : State) {n o : Nat} (hn : n < 32) (ho : o < 64) :
    writeReg (0x30000 + 64 * n + o) v s = s.putRq n (writeRq o v s.now (s.rq n)) := by
  rw [writeReg_eq_writeArray v s (by omega), writeArray, if_neg, if_neg, if_neg, if_neg, if_pos, writeRqAt, block_index _ _ ho, block_offset _ _ ho]
  all_goals rw [inRange_iff]; omega

/-! ### Queues: a register write stores no word -/

/-- What a register write makes of the words a queue stores: it keeps them, or flushes all of them (R450). -/
def KeptOrFlushed (q q' : Rq) : Prop := (q'.lines = q.lines ∧ q'.pack = q.pack) ∨ (q'.lines = [] ∧ q'.pack = none)

theorem rqDisableQueue_keptOrFlushed (now : Ps) (q : Rq) : KeptOrFlushed q (rqDisableQueue now q) := by
  unfold rqDisableQueue
  split
  · exact .inr ⟨rfl, rfl⟩
  · exact .inl ⟨rfl, rfl⟩

theorem rqCtrl_keptOrFlushed (v : Word32) (now : Ps) (q : Rq) : KeptOrFlushed q (rqCtrl v now q) := by
  unfold rqCtrl
  split
  · split
    · exact rqDisableQueue_keptOrFlushed now { q with intEn := v.getLsbD 8 }
    · split
      · exact .inr ⟨rfl, rfl⟩
      · exact .inl ⟨rfl, rfl⟩
  · extract_lets q1 q2 q3
    have h3 : KeptOrFlushed q q3 := by
      unfold q3
      split
      · exact .inr ⟨rfl, rfl⟩
      · exact .inl ⟨rfl, rfl⟩
    split
    · exact h3
    · split <;> exact h3

theorem writeWords_of_forall_false (cls : Nat) (p : Nat → Nat → Bool) (s : State) (h : ∀ i a, p i a = false) : writeWords cls p s = s := by
  have hkeep : (s.integ.injected.filter fun x => !(x.cls = cls && p x.index x.addr)) = s.integ.injected :=
    List.filter_eq_self.2 fun x _ => by simp [h]
  rw [writeWords, hkeep]

/-- A queue whose words are kept or flushed takes no word, so no injected error is written over. -/
theorem putRq_eq_setRq (s : State) (n : Nat) (q : Rq) (h : KeptOrFlushed (s.rq n) q) : s.putRq n q = s.setRq n q := by
  unfold State.putRq
  refine writeWords_of_forall_false _ _ _ fun i a => ?_
  obtain ⟨hl, hp⟩ | ⟨hl, hp⟩ := h
  · have hlt : (decide ((s.rq n).lines.length ≤ a) && decide (a < (s.rq n).lines.length)) = false := by simp
    rw [hl, hp, hlt]
    cases (s.rq n).pack <;> simp
  · simp [hl, hp]

/-! ### Rings that run -/

@[simp] theorem vset_vget {α : Type} {n : Nat} (d : α) (v : Vector α n) (i : Nat) : vset v i (vget d v i) = v := by
  unfold vset vget
  split <;> simp

/-! ### The two words of a 64-bit register -/

@[simp] theorem loWord_append (h l : Word32) : loWord (h ++ l) = l := BitVec.extractLsb'_append_eq_right

@[simp] theorem hiWord_append (h l : Word32) : hiWord (h ++ l) = h := BitVec.extractLsb'_append_eq_left

/-- A base address keeps its low twelve bits at 0 (R473). -/
theorem shift_clears_page (v : Word32) : (v >>> 12) <<< 12 = v &&& 0xFFFFF000#32 := by
  have hmask : (0xFFFFF000#32) = BitVec.allOnes 32 <<< 12 := by decide
  rw [hmask]
  ext i hi
  simp only [BitVec.getElem_and, BitVec.getElem_shiftLeft, BitVec.getElem_ushiftRight, BitVec.getElem_allOnes]
  by_cases h : i < 12
  · simp [h]
  · have hback : 12 + (i - 12) = i := by omega
    simp [h, hback, BitVec.getLsbD_eq_getElem hi]

/-! ### Bytes -/

theorem le_length (n v : Nat) : (le n v).length = n := by
  induction n generalizing v with
  | zero => rfl
  | succ n ih => simp [le, ih]

theorem slice_le_self (n v : Nat) : slice (le n v) 0 n = le n v := by
  simp [slice, List.take_of_length_le, le_length]

/-! ### The time snapshot -/

/-- A read of TS_NS returns the nanoseconds of the time base (R121). -/
theorem bar0Read_tsNs {s : State} (hr : s.bar0Runs = true) :
    bar0Read 0x40000 4 s = (readEffect 0x40000 s).emit (.register 0x40000 (le 4 (stampSub s.stamp / 65536 % 2 ^ 32))) := by
  have hword : readReg 0x40000 s = w32 (stampSub s.stamp / 65536) := rfl
  rw [bar0Read_within hr (by decide) (by decide) (by decide), hword, w32, BitVec.toNat_ofNat, slice_le_self]

/-! ### The command ring's base addresses -/

theorem cmdBase_words_after_low_write (v : Word32) (s : State) (h : s.host.ringEnable = false) :
    readReg 0x2000 (writeReg 0x2000 v s) = v &&& 0xFFFFF000#32 ∧ readReg 0x2004 (writeReg 0x2000 v s) = readReg 0x2004 s := by
  simp [writeReg, readReg, h, setWord, shift_clears_page]

theorem cmdBase_words_after_high_write (v : Word32) (s : State) (h : s.host.ringEnable = false) :
    readReg 0x2004 (writeReg 0x2004 v s) = v ∧ readReg 0x2000 (writeReg 0x2004 v s) = readReg 0x2000 s := by
  simp [writeReg, readReg, h, setWord]

/-- While the ring runs, its base addresses take no write (R473). -/
theorem writeReg_ringBase_of_enabled (v : Word32) (s : State) (h : s.host.ringEnable = true) :
    writeReg 0x2000 v s = s ∧ writeReg 0x2004 v s = s ∧ writeReg 0x2008 v s = s ∧ writeReg 0x200C v s = s :=
  ⟨if_pos h, if_pos h, if_pos h, if_pos h⟩

theorem writeRing_base_of_enabled (v : Word32) (x : RxRing) (h : x.enabled = true) : writeRing 0x00 v x = x := if_pos h

theorem writeRing_size_of_enabled (v : Word32) (x : RxRing) (h : x.enabled = true) : writeRing 0x08 v x = x := if_pos h

theorem writeReg_ring_of_eq (v : Word32) (s : State) {k o : Nat} (hk : k < 8) (ho : o < 64)
    (h : writeRing o v (vget {} s.ingress.rings k) = vget {} s.ingress.rings k) : writeReg (0x10000 + 64 * k + o) v s = s := by
  rw [writeReg_ring v s hk ho, h, vset_vget]

theorem writeReg_rqHead (v : Word32) (s : State) {n : Nat} (hn : n < 32) :
    writeReg (0x30000 + 64 * n + 0x14) v s = s.setRq n { s.rq n with head := v } := by
  rw [writeReg_rq v s hn (by decide)]
  exact putRq_eq_setRq s n _ (.inl ⟨rfl, rfl⟩)

/-- Even a write of RQ_CTRL that flushes the queue changes nothing outside it (R448, R450). -/
theorem writeReg_rqCtrl (v : Word32) (s : State) {n : Nat} (hn : n < 32) :
    writeReg (0x30000 + 64 * n + 0x10) v s = s.setRq n (rqCtrl v s.now (s.rq n)) := by
  rw [writeReg_rq v s hn (by decide)]
  exact putRq_eq_setRq s n _ (rqCtrl_keptOrFlushed v s.now (s.rq n))

/-! ### The statement -/

/-- Settles O46: the request lemmas reduce a row to `readReg`, `readEffect` and `writeReg`, and the block lemmas say which
register each offset reaches. -/
theorem registerAccessesTakeEffect : Obligations.RegisterAccessesTakeEffect := by
  unfold Obligations.RegisterAccessesTakeEffect
  refine ⟨⟨?within, ?readIgnored, ?readLong, rfl, rfl, ?fields, ?tsNs, ?chCounters, ?rqCounters, ?noEffect⟩,
    ⟨?dword, ?writeIgnored, ?writeLong, ?words, ?baseRuns, ?baseStopped, ?cmdStatus, ?chWrites, ?rqWrites, ?ringRuns⟩⟩
  case within =>
    rintro dt s u a n rfl hr h1 - hd ha
    rw [exec_readClearRegister_eq, bar0Read_within hr h1 hd ha]
  case readIgnored =>
    rintro dt s u a n rfl h
    rw [exec_readClearRegister_eq, bar0Read_ignored h]
  case readLong =>
    rintro dt s u a n rfl hr hd ha
    rw [exec_readClearRegister_eq, bar0Read_long hr hd ha]
  case fields =>
    intro s
    refine ⟨?_, rfl, rfl, rfl, rfl, rfl, rfl, rfl, rfl, rfl, rfl, rfl⟩
    rw [Nat.mul_comm 65536]
    rfl
  case tsNs =>
    rintro dt s u rfl hr
    rw [exec_tsNsRead_eq, bar0Read_tsNs hr]
    exact ⟨_, rfl, rfl, rfl, rfl, rfl⟩
  case chCounters =>
    intro s c hc
    exact ⟨readEffect_ch s hc (by decide), readEffect_ch s hc (by decide)⟩
  case rqCounters =>
    intro s n hn
    exact ⟨readReg_rq s hn (by decide), readEffect_rq s hn (by decide), readReg_rq s hn (by decide), readEffect_rq s hn (by decide)⟩
  case noEffect => exact fun s a ha _ => readEffect_below_rings s ha
  case dword =>
    rintro dt s u a n v rfl hr rfl hd ha
    rw [exec_registerWrite_eq, bar0Write_dword hr hd ha]
  case writeIgnored =>
    rintro dt s u a n v rfl h
    rw [exec_registerWrite_eq, bar0Write_ignored h]
  case writeLong =>
    rintro dt s u a n v rfl hr hd ha
    rw [exec_registerWrite_eq, bar0Write_long hr hd ha]
  case words =>
    intro s v
    exact ⟨rfl, rfl, rfl, rfl, rfl, rfl, rfl, rfl, rfl, rfl, rfl, rfl, rfl, rfl, rfl, rfl, rfl⟩
  case baseRuns => exact fun s v h => writeReg_ringBase_of_enabled v s h
  case baseStopped =>
    intro s v h
    obtain ⟨hlo, hlo'⟩ := cmdBase_words_after_low_write v s h
    obtain ⟨hhi, hhi'⟩ := cmdBase_words_after_high_write v s h
    exact ⟨hlo, hlo', hhi, hhi'⟩
  case cmdStatus => exact fun s v => rfl
  case chWrites =>
    intro s c v hc
    exact ⟨writeReg_ch v s hc (by decide), writeReg_ch v s hc (by decide), writeReg_ch v s hc (by decide)⟩
  case rqWrites => exact fun s n v hn => ⟨writeReg_rqHead v s hn, writeReg_rqCtrl v s hn⟩
  case ringRuns =>
    intro s k v hk h
    exact ⟨writeReg_ring_of_eq v s hk (by decide) (writeRing_base_of_enabled v _ h),
      writeReg_ring_of_eq v s hk (by decide) (writeRing_size_of_enabled v _ h)⟩

end Sys2Proof.Machine
end

section
/-! SUPPORT. A tick from its staging to the end of its assembly: what its operations leave alone and what they write, and the statement
on staging, closes, deadlines and assembly (R33, R36, R38, R40, R44, R220, R222, R223, R225, R228, R239). -/

namespace Sys2Proof.Machine

/-- A fold of operations each of which keeps what `p` reads keeps it. -/
theorem foldl_keeps_read {α β : Type} (p : State → β) {g : State → α → State} (hg : ∀ s x, p (g s x) = p s) (l : List α) (s : State) :
    p (l.foldl g s) = p s := by
  induction l generalizing s with
  | nil => rfl
  | cons x l ih => exact (ih (g s x)).trans (hg s x)

/-! ### Zones -/

@[simp] theorem State.modZone_zone_self (s : State) (z : Nat) (f : Zone → Zone) : (s.modZone z f).zone z = f (s.zone z) :=
  State.setZone_zone_self s z _

@[simp] theorem State.modZone_asm (s : State) (z : Nat) (f : Zone → Zone) : (s.modZone z f).align.asm = s.align.asm := rfl

theorem area_tick {s : State} {z n : Nat} {a : Area} (ha : s.area z n = some a) : a.tick = n := by
  simpa using List.find?_some ha

@[simp] theorem cohFree_align (c : Sealed) (s : State) : (cohFree c s).align = s.align := rfl

@[simp] theorem cohFree_zone (c : Sealed) (s : State) (z : Nat) : (cohFree c s).zone z = s.zone z := rfl

@[simp] theorem cohHold_align (z tick : Nat) (s : State) : (cohHold z tick s).align = s.align := rfl

@[simp] theorem planItems_align (z tick : Nat) (i d : Stamp) (s : State) : (planItems z tick i d s).align = s.align := rfl

/-! ### Sessions leave the assembler alone -/

@[simp] theorem leaveWaits_asm (n : Nat) (s : State) : (leaveWaits n s).align.asm = s.align.asm := rfl

@[simp] theorem refreshSession_asm (n : Nat) (s : State) : (refreshSession n s).align.asm = s.align.asm := by
  unfold refreshSession
  dsimp only
  split
  · split
    · rfl
    · split <;> rfl
  · split
    · rfl
    · split <;> rfl
  · rfl

@[simp] theorem refreshSessions_asm (s : State) : (refreshSessions s).align.asm = s.align.asm :=
  foldl_keeps_read (fun s => s.align.asm) (fun s n => refreshSession_asm n s) _ s

@[simp] theorem egressAssemblyStart_asm (z : Nat) (s : State) : (egressAssemblyStart z s).align.asm = s.align.asm :=
  refreshSessions_asm _

/-! ### Staging -/

/-- Staging starts of one tick of the zone, and the next tick is to be staged then (R222). -/
theorem stageTick_nextStage (z : Nat) (s : State) : ((stageTick z s).zone z).nextStage = (s.zone z).nextStage + 1 := by
  unfold stageTick
  extract_lets x
  split
  · rw [State.setZone_zone_self]
  · exact congrArg Zone.nextStage (State.setZone_zone_self _ z _)

/-! ### Assembly -/

/-- An assembly of revision 0 takes the assembler until its 64 + 4 N FCLK have passed (R44, R228). -/
theorem startAssembly_asm {z n : Nat} {s : State} {a : Area} (ha : s.area z n = some a) :
    (startAssembly z n s).align.asm = some {
      c := sealNow s z (s.zone z) a 0 (seqOf (s.zone z) a) (a.slots.map (sealSlot s (s.zone z) a))
      done := s.now + assemblyCycles a.slots.length * 1250, orphan := false } := by
  simp [startAssembly, ha, sealNow]

/-- What a zone that the device has left ACTIVE and STANDBY with keeps of an assembly that it had started (R210, R239). -/
theorem assemblyDone_orphan {r : AsmRun} (s : State) (ho : r.orphan = true) : assemblyDone r s
    = cohFree r.c (State.modZone { s with align := { s.align with asm := none } } r.c.zone fun x => { x with
        cConst := inc x.cConst, lastSeq := BitVec.ofNat 32 r.c.seq
        cTrig := if r.c.triggered then inc x.cTrig else x.cTrig
        cAbsent := incBy x.cAbsent (countState .absent r.c.slots) }) := by
  simp only [assemblyDone, ho, if_true]

theorem asmTake_of_next {s : State} {r : AsmReq} {rest : List AsmReq} (hasm : s.align.asm = none)
    (hrev : ∀ c d, s.align.revArea ≠ .assembling c d) (hq : s.align.asmQueue = r :: rest) :
    asmTake s = startAssembly r.zone r.tick { s with align := { s.align with asmQueue := rest } } := by
  unfold asmTake
  split
  case h_1 h => exact absurd (hasm.symm.trans h) nofun
  case h_2 h => exact absurd h (hrev _ _)
  case h_3 h _ =>
    obtain ⟨rfl, rfl⟩ := List.cons.inj (hq.symm.trans h)
    rfl
  case h_4 h _ => exact absurd (hq.symm.trans h) nofun

/-! ### The statement -/

/-- Settles O17: each row is its operation on the state that its passage of time and its reads leave, taken at the branch of its
hypotheses. -/
theorem ticksRunTheirCourse : Obligations.TicksRunTheirCourse := by
  unfold Obligations.TicksRunTheirCourse
  refine ⟨?stagingDue, ?stagingStopped, fun z u _ => stageTick_nextStage z u, ?stagingDone, ?close, ?closeEarly, ?budget, ?release,
    ?expiry, ?fire, fun u r rest => asmTake_of_next, ?asmBusy, ?assembly, ?assemblyDone, ?orphan⟩
  case stagingDue =>
    rintro dt z s u rfl ha ht hg
    change execStagingStart dt z s = _
    simp [execStagingStart, ha, ht, hg]
  case stagingStopped =>
    rintro dt z s u rfl ht
    change execStagingStart dt z s = _
    simp [execStagingStart, ht]
  case stagingDone =>
    rintro dt z n s u rfl hfirst
    change execStagingDone dt z s = _
    simp [execStagingDone, hfirst]
  case close =>
    rintro dt z s u a rfl ht ha hstaged hclosed hg
    change execClose dt z s = _
    simp [execClose, closeDue, ht, ha, hstaged, hclosed, hg]
  case closeEarly =>
    rintro dt z s u a rfl ha hg
    change execClose dt z s = _
    simp [execClose, closeDue, ha, hg]
  case budget =>
    rintro dt z s u rfl
    rfl
  case release =>
    rintro dt z s u rfl
    rfl
  case expiry =>
    rintro dt z n s u a rfl ha hp
    have hpast : pastStore (s.elapse dt) a = true := decide_eq_true hp
    change execStoreAreaExpiry dt z n s = _
    simp [execStoreAreaExpiry, storeExpiry, ha, hpast]
  case fire =>
    intro z n order u a ha ht
    simp [fireClose, ha, ht]
  case asmBusy =>
    intro u r h
    simp [asmTake, h]
  case assembly =>
    intro z n u a ha _ _
    exact ⟨_, startAssembly_asm ha, rfl, rfl, rfl, area_tick ha, rfl, rfl, rfl, List.length_map ..⟩
  case assemblyDone =>
    rintro dt s u r rfl hasm hdone
    change execAssemblyDone dt s = _
    simp [execAssemblyDone, hasm, hdone]
  case orphan =>
    intro r u ho _
    rw [assemblyDone_orphan u ho, cohFree_zone, State.modZone_zone_self]
    exact ⟨rfl, rfl, rfl⟩

end Sys2Proof.Machine
end

section
/-! SUPPORT. Leaving reset: what BOOT reads and what each read leaves alone, the bank that boots, and the statement on leaving reset (R59,
R71, R467, R486, R526, R553, R557, R559, R578, R602, R606). -/

namespace Sys2Proof.Machine

/-! ### The bank that boots: only the update state and the mark of a BOOT that never ends change -/

theorem failBank_eq (n reason : Nat) (s : State) : ∃ u, failBank n reason s = { s with upd := u } := by
  unfold failBank setBank
  split <;> exact ⟨_, rfl⟩

theorem failBanks_eq (reason : Nat) (ns : List Nat) (s : State) :
    ∃ u, ns.foldl (fun s n => failBank n reason s) s = { s with upd := u } := by
  induction ns generalizing s with
  | nil => exact ⟨_, rfl⟩
  | cons n ns ih =>
    obtain ⟨u, hu⟩ := failBank_eq n reason s
    obtain ⟨v, hv⟩ := ih (failBank n reason s)
    exact ⟨v, by rw [List.foldl_cons, hv, hu]⟩

theorem tryBank_eq (n : Nat) (s : State) : ∃ u, (tryBank n s).2 = { s with upd := u } := by
  unfold tryBank
  dsimp only
  split
  · split
    · unfold setBank
      split <;> exact ⟨_, rfl⟩
    · exact ⟨_, rfl⟩
  · split
    · exact ⟨_, rfl⟩
    · exact failBank_eq n 3 s

theorem tryBanks_eq (ns : List Nat) (s : State) : ∃ u, (tryBanks ns s).2 = { s with upd := u } := by
  induction ns generalizing s with
  | nil => exact ⟨_, rfl⟩
  | cons n ns ih =>
    obtain ⟨u, hu⟩ := tryBank_eq n s
    rw [tryBanks]
    split
    · exact ⟨u, hu⟩
    · obtain ⟨v, hv⟩ := ih (tryBank n s).2
      exact ⟨v, by rw [hv, hu]⟩

theorem pickBank_eq (s : State) : ∃ u b, pickBank s = { s with upd := u, sys := { s.sys with stuck := b } } := by
  obtain ⟨u, hu⟩ := failBanks_eq 2 (banksIn .trial s.upd) s
  obtain ⟨v, hv⟩ := tryBanks_eq (banksIn .pending u ++ banksIn .good u) { s with upd := u }
  unfold pickBank
  rw [hu]
  dsimp only
  rw [hv]
  split
  · exact ⟨_, s.sys.stuck, rfl⟩
  · split
    · exact ⟨v, s.sys.stuck, rfl⟩
    · split
      · exact ⟨_, s.sys.stuck, rfl⟩
      · exact ⟨v, true, rfl⟩

/-- A bank that alone is GOOD, beside one of no use, boots when its images pass the checks (R602). -/
theorem pickBank_good {s : State} {n : Nat} (hsrc : s.sys.straps.bootSrc = false) (hgood : (bankOf s.upd n).state = .good)
    (hpass : bankPasses s false (bankOf s.upd n) = true) (hn : n = 0 ∨ n = 1) (htrial : (bankOf s.upd (1 - n)).state ≠ .trial)
    (hpend : (bankOf s.upd (1 - n)).state ≠ .pending) (hother : (bankOf s.upd (1 - n)).state ≠ .good) :
    pickBank s = { s with upd := { s.upd with runB := decide (n = 1) } } := by
  have hT : banksIn .trial s.upd = [] := by
    obtain rfl | rfl := hn <;> simp_all [banksIn]
  have hP : banksIn .pending s.upd = [] := by
    obtain rfl | rfl := hn <;> simp_all [banksIn]
  have hG : banksIn .good s.upd = [n] := by
    obtain rfl | rfl := hn <;> simp_all [banksIn]
  have htry : tryBank n s = (true, { s with upd := { s.upd with runB := decide (n = 1) } }) := by
    simp [tryBank, hpass, hgood]
  simp [pickBank, hsrc, hT, hP, hG, tryBanks, htry]

/-- Without a bank that can boot and without the service port, BOOT never ends (R602, R606). -/
theorem pickBank_empty {s : State} (hsvc : s.sys.straps.svcEn = false) (hA : s.upd.bankA.state = .empty) (hB : s.upd.bankB.state = .empty) :
    pickBank s = { s with sys := { s.sys with stuck := true } } := by
  have hnone (x : BankState) (hx : BankState.empty ≠ x) : banksIn x s.upd = [] := by
    simp [banksIn, bankOf, hA, hB, hx]
  simp [pickBank, hsvc, hnone, tryBanks]

/-- A PENDING bank whose images pass the checks boots on trial (R599, R602). -/
theorem tryBank_pending {s : State} {n : Nat} (hn : n = 0 ∨ n = 1) (hpend : (bankOf s.upd n).state = .pending)
    (hpass : bankPasses s false (bankOf s.upd n) = true) :
    (tryBank n s).1 = true ∧ (bankOf (tryBank n s).2.upd n).state = .trial ∧ (tryBank n s).2.upd.runB = decide (n = 1) := by
  simp only [tryBank, hpass, hpend, if_true]
  obtain rfl | rfl := hn <;> exact ⟨trivial, rfl, rfl⟩

/-! ### The OTP -/

theorem countError_eq (cls addr y : Nat) (k : Ecc) (s : State) :
    ∃ g, countError cls addr y k s = { s with integ := g } ∧ g.injected = s.integ.injected := by
  unfold countError
  dsimp only
  split <;> exact ⟨_, rfl, rfl⟩

theorem countErrors_eq (ws : List (OtpWord × Nat)) (s : State) :
    ∃ g, ws.foldl (fun s x => countError 14 x.2 (wordSyndrome x.1) (otpRead x.1) s) s = { s with integ := g }
      ∧ g.injected = s.integ.injected := by
  induction ws generalizing s with
  | nil => exact ⟨_, rfl, rfl⟩
  | cons x ws ih =>
    obtain ⟨g, hg, hgi⟩ := countError_eq 14 x.2 (wordSyndrome x.1) (otpRead x.1) s
    obtain ⟨h, hh, hhi⟩ := ih { s with integ := g }
    exact ⟨h, by rw [List.foldl_cons, hg, hh], hhi.trans hgi⟩

/-- BOOT's read of the OTP counts its errors and latches the root in force (R526, R559). -/
theorem readOtp_eq (s : State) : ∃ g, readOtp s = { s with integ := g, sec := { s.sec with imageRoot := ownerRoot s } }
    ∧ g.injected = s.integ.injected := by
  obtain ⟨g, hg, hgi⟩ := countErrors_eq (otpStored s) s
  exact ⟨g, by rw [readOtp, hg]; rfl, hgi⟩

/-! ### The fuses -/

/-- BOOT's read of the fuses writes the fuses and the secret, `sys` and what flash holds (R553, R557). -/
theorem readFuses_eq (s : State) : ∃ u, readFuses s = { s with sec := (readFuses s).sec, sys := (readFuses s).sys, upd := u } := by
  unfold readFuses
  dsimp only
  split
  · exact ⟨_, rfl⟩
  · split <;> exact ⟨_, rfl⟩

theorem readFuses_now (s : State) : (readFuses s).now = s.now := by
  obtain ⟨u, hu⟩ := readFuses_eq s
  rw [hu]

theorem readFuses_integ (s : State) : (readFuses s).integ = s.integ := by
  obtain ⟨u, hu⟩ := readFuses_eq s
  rw [hu]

theorem readFuses_sec (s : State) : (readFuses s).sec = { s.sec with
    fuses := fullFuses s.sec.fuses
    otp := { s.sec.otp with
      secret := if fuseState (fullFuses s.sec.fuses) = .scrapped then List.replicate 8 otpOnes else s.sec.otp.secret } } := by
  unfold readFuses
  dsimp only
  split
  · rfl
  · split <;> rfl

theorem readFuses_sys {s : State} {l : Lifecycle} (h : fuseState (fullFuses s.sec.fuses) = l) : (readFuses s).sys = { s.sys with
    lifecycle := l, stuck := l == .blank || l == .scrapped
    markerLost := s.sys.markerLost || (l != s.sys.lifecycle && (l == .return || l == .scrapped)) } := by
  subst h
  unfold readFuses
  dsimp only
  split
  · rfl
  · split <;> rfl

/-- Fuses that give the lifecycle of before leave the journal (R553, R556). -/
theorem readFuses_flashJournal {s : State} (h : s.sys.lifecycle = fuseState (fullFuses s.sec.fuses)) :
    (readFuses s).upd.flashJournal = s.upd.flashJournal := by
  unfold readFuses
  simp only [← h, bne_self_eq_false, Bool.false_and, Bool.false_eq_true, if_false]
  split <;> rfl

theorem injectedFlips_congr {cls item : Nat} {s t : State} (h : t.integ.injected = s.integ.injected) (a : Nat) :
    injectedFlips cls item a t = injectedFlips cls item a s := by
  simp only [injectedFlips, h]

/-- The errors injected into the OTP, after a filter that leaves its class alone. -/
theorem injectedFlips_otp_filter {s t : State} (h : t.integ.injected = s.integ.injected.filter fun x => x.cls ≠ 12) (a : Nat) :
    injectedFlips 14 0 a t = injectedFlips 14 0 a s := by
  unfold injectedFlips
  rw [h, List.foldl_filter]
  congr 1
  funext v x
  by_cases hx : x.cls = 12
  · simp [hx]
  · simp [hx]

theorem otpBad_congr {s t : State} (h : t.sec.otp = s.sec.otp) (hf : ∀ a, injectedFlips 14 0 a t = injectedFlips 14 0 a s) :
    otpBad t = otpBad s := by
  simp only [otpBad, otpStored, h, hf]

/-! ### The reserve domain -/

/-- With the marker there, the epochs advance and the rest stays (R467). -/
theorem readReserve_kept {s : State} (h : s.sys.markerLost = false) : readReserve s = { s with
    host := { s.host with
      ring := { s.host.ring with epoch := s.host.ring.epoch + 1 }, mgmt := { s.host.mgmt with epoch := s.host.mgmt.epoch + 1 }
      svc := { s.host.svc with epoch := s.host.svc.epoch + 1 } }
    sys := { s.sys with reserveLost := false } } := by
  simp [readReserve, h]

/-- Without the marker, what the reserve domain held restarts; the errors injected into it go with it (R113, R302, R578). -/
theorem readReserve_lost {s : State} (h : s.sys.markerLost = true) (hp : s.sys.phase ≠ .running) :
    ∃ (d : Nat) (t : TimeSt) (e : EnergySt) (g : HostSt) (i : IntegSt) (hist : List Cnt), readReserve s = { s with
      drawn := d, time := t, energy := e, host := g, integ := i
      sys := { s.sys with reserveLost := true, markerLost := false, history := hist, wdogTimes := [], lastResetAt := 0 } }
    ∧ t.valid = false ∧ i.safeEntries = 0 ∧ i.injected = s.integ.injected.filter fun x => x.cls ≠ 12 := by
  unfold readReserve
  rw [if_pos h]
  simp only [reserveItems, List.foldl_cons, List.foldl_nil, reserveItemLost, timeLost, hp, if_false]
  exact ⟨_, _, _, _, _, _, rfl, rfl, rfl, rfl⟩

/-- What a read of the reserve domain leaves alone, whatever the domain held (R467, R578). -/
theorem readReserve_eq {s : State} (hp : s.sys.phase ≠ .running) :
    ∃ (d : Nat) (t : TimeSt) (e : EnergySt) (g : HostSt) (i : IntegSt) (hist : List Cnt) (w : List Stamp) (l : Stamp), readReserve s = { s with
      drawn := d, time := t, energy := e, host := g, integ := i
      sys := { s.sys with reserveLost := s.sys.markerLost, markerLost := false, history := hist, wdogTimes := w, lastResetAt := l } }
    ∧ ∀ a, injectedFlips 14 0 a (readReserve s) = injectedFlips 14 0 a s := by
  cases h : s.sys.markerLost with
  | false =>
    rw [readReserve_kept h]
    exact ⟨_, _, _, _, _, _, _, _, by rw [← h], fun _ => rfl⟩
  | true =>
    obtain ⟨d, t, e, g, i, hist, hr, -, -, hi⟩ := readReserve_lost h hp
    rw [hr]
    exact ⟨_, _, _, _, _, _, _, _, rfl, injectedFlips_otp_filter hi⟩

/-! ### What BOOT has read -/

theorem deriveKeys_eq (s : State) : ∃ k d, deriveKeys s = { s with sec := { s.sec with kwk := k, drbg := d } } := by
  unfold deriveKeys
  split <;> exact ⟨_, _, rfl⟩

theorem TimeSt.restart_tb_valid (t : TimeSt) : t.restart.tb = t.tb ∧ t.restart.valid = t.valid := by
  unfold TimeSt.restart
  dsimp only
  split <;> exact ⟨rfl, rfl⟩

/-- The device with its OTP read, its straps sampled and its capacity found (R59, R71, R578). -/
def bootInput (k : ResetKind) (pins : StrapPins) (gib0 gib1 : Nat) (s : State) : State :=
  { readOtp s with sys := { s.sys with
    straps := if decide (k = .por ∨ k = .pin) = true then pins else s.sys.straps, capacity := 2 * min gib0 gib1 } }

/-- The device runs, with its journal of flash and its time base started (R144, R486, R578). -/
def bootRun (s : State) : State :=
  { s with
    host := { s.host with journal := s.upd.flashJournal }
    time := s.time.restart
    sys := { s.sys with phase := .running, wdogAt := s.now, upPs := 0 } }

/-- The device as it runs again, before a bank is picked (R578). -/
def bootRead (k : ResetKind) (pins : StrapPins) (gib0 gib1 : Nat) (s : State) : State :=
  bootRun (deriveKeys (readReserve (readFuses (bootInput k pins gib0 gib1 s))))

theorem bootInput_eq (k : ResetKind) (pins : StrapPins) (gib0 gib1 : Nat) (s : State) : ∃ g, bootInput k pins gib0 gib1 s = { s with
      integ := g, sec := { s.sec with imageRoot := ownerRoot s }
      sys := { s.sys with
        straps := if decide (k = .por ∨ k = .pin) = true then pins else s.sys.straps, capacity := 2 * min gib0 gib1 } }
    ∧ g.injected = s.integ.injected := by
  obtain ⟨g, hg, hgi⟩ := readOtp_eq s
  exact ⟨g, by rw [bootInput, hg], hgi⟩

/-- What the device has of its straps, fuses, OTP and clock when BOOT has read, whatever the reserve domain held. -/
structure BootFacts (k : ResetKind) (pins : StrapPins) (gib0 gib1 : Nat) (s t : State) : Prop where
  phase : t.sys.phase = .running
  capacity : t.sys.capacity = 2 * min gib0 gib1
  straps : t.sys.straps = if k = .por ∨ k = .pin then pins else s.sys.straps
  wdogAt : t.sys.wdogAt = s.now
  lifecycle : t.sys.lifecycle = fuseState (fullFuses s.sec.fuses)
  fuses : t.sec.fuses = fullFuses s.sec.fuses
  imageRoot : t.sec.imageRoot = ownerRoot s
  otpBad : otpBad t = otpBad (readFuses s)

theorem bootRead_facts {k : ResetKind} {s : State} (pins : StrapPins) (gib0 gib1 : Nat) (hk : s.sys.phase = .held k) :
    BootFacts k pins gib0 gib1 s (bootRead k pins gib0 gib1 s) := by
  obtain ⟨g, hw, hgi⟩ := bootInput_eq k pins gib0 gib1 s
  have hsec := readFuses_sec (bootInput k pins gib0 gib1 s)
  have hsys := readFuses_sys (s := bootInput k pins gib0 gib1 s) rfl
  have hnow := readFuses_now (bootInput k pins gib0 gib1 s)
  have hinj := readFuses_integ (bootInput k pins gib0 gib1 s)
  have hp : (readFuses (bootInput k pins gib0 gib1 s)).sys.phase ≠ .running := by rw [hsys, hw]; simp [hk]
  obtain ⟨_, _, _, _, _, _, _, _, hr, hflips⟩ := readReserve_eq hp
  obtain ⟨_, _, hd⟩ := deriveKeys_eq (readReserve (readFuses (bootInput k pins gib0 gib1 s)))
  rw [hr] at hflips
  rw [bootRead, hd, hr]
  rw [hw] at hsec hsys hnow hinj hflips ⊢
  exact {
    phase := rfl
    capacity := congrArg SysSt.capacity hsys
    straps := (congrArg SysSt.straps hsys).trans (by simp)
    wdogAt := hnow
    lifecycle := congrArg SysSt.lifecycle hsys
    fuses := congrArg SecSt.fuses hsec
    imageRoot := congrArg SecSt.imageRoot hsec
    otpBad := otpBad_congr ((congrArg SecSt.otp hsec).trans (congrArg SecSt.otp (readFuses_sec s)).symm) fun a =>
      (hflips a).trans (injectedFlips_congr (by rw [hinj, readFuses_integ s, hgi]) a) }

/-- With the marker there and the lifecycle of before, the epochs advance, and the journal is the one committed to flash (R467, R486). -/
theorem bootRead_kept {k : ResetKind} {s : State} (pins : StrapPins) (gib0 gib1 : Nat) (hm : s.sys.markerLost = false)
    (hl : s.sys.lifecycle = fuseState (fullFuses s.sec.fuses)) :
    (bootRead k pins gib0 gib1 s).host = { s.host with
      ring := { s.host.ring with epoch := s.host.ring.epoch + 1 }, mgmt := { s.host.mgmt with epoch := s.host.mgmt.epoch + 1 }
      svc := { s.host.svc with epoch := s.host.svc.epoch + 1 }, journal := s.upd.flashJournal }
    ∧ (bootRead k pins gib0 gib1 s).sys.reserveLost = false ∧ (bootRead k pins gib0 gib1 s).time = s.time.restart := by
  obtain ⟨g, hw, -⟩ := bootInput_eq k pins gib0 gib1 s
  have hmark : (readFuses (bootInput k pins gib0 gib1 s)).sys.markerLost = false := by
    rw [readFuses_sys rfl, hw]
    simp [hm, hl]
  obtain ⟨_, _, hd⟩ := deriveKeys_eq (readReserve (readFuses (bootInput k pins gib0 gib1 s)))
  have hjournal := readFuses_flashJournal (s := bootInput k pins gib0 gib1 s) (by rw [hw]; exact hl)
  obtain ⟨u, hu⟩ := readFuses_eq (bootInput k pins gib0 gib1 s)
  rw [bootRead, hd, readReserve_kept hmark]
  rw [hw] at hu hjournal ⊢
  rw [hu] at hjournal ⊢
  exact ⟨by rw [← hjournal]; rfl, rfl, rfl⟩

/-- Without the marker, time is not valid and the count of SAFE entries begins again (R113, R578). -/
theorem bootRead_lost {k : ResetKind} {s : State} (pins : StrapPins) (gib0 gib1 : Nat) (hk : s.sys.phase = .held k)
    (hm : s.sys.markerLost = true) : (bootRead k pins gib0 gib1 s).sys.reserveLost = true ∧ (bootRead k pins gib0 gib1 s).sys.markerLost = false
    ∧ (bootRead k pins gib0 gib1 s).time.valid = false ∧ (bootRead k pins gib0 gib1 s).integ.safeEntries = 0 := by
  obtain ⟨g, hw, -⟩ := bootInput_eq k pins gib0 gib1 s
  have hmark : (readFuses (bootInput k pins gib0 gib1 s)).sys.markerLost = true := by
    rw [readFuses_sys rfl, hw]
    simp [hm]
  have hp : (readFuses (bootInput k pins gib0 gib1 s)).sys.phase ≠ .running := by
    rw [readFuses_sys rfl, hw]
    simp [hk]
  obtain ⟨_, t, _, _, _, _, hr, ht, hi, -⟩ := readReserve_lost hmark hp
  obtain ⟨_, _, hd⟩ := deriveKeys_eq (readReserve (readFuses (bootInput k pins gib0 gib1 s)))
  rw [bootRead, hd, hr]
  exact ⟨rfl, rfl, t.restart_tb_valid.2.trans ht, hi⟩

/-! ### The lockout -/

theorem driveFaultN_integ (s : State) : (driveFaultN s).integ = s.integ := by
  unfold driveFaultN
  dsimp only
  split <;> rfl

theorem sendHeartbeat_integ (k : Nat) (yield : Bool) (s : State) : (sendHeartbeat k yield s).integ = s.integ := by
  unfold sendHeartbeat sendA
  dsimp only
  split <;> rfl

theorem cutBurn_integ (s : State) : (cutBurn s).integ = s.integ := by
  unfold cutBurn
  split
  · split <;> rfl
  · rfl

/-- A reset edge holds the device in reset, with its last fault known (R545, R576). -/
theorem resetEdge_held (k : ResetKind) (s : State) : (resetEdge k s).sys.phase = .held k ∧ (resetEdge k s).sys.lastReset = k
    ∧ (resetEdge k s).integ.lastFault = s.integ.lastFault := by
  have hyield : (if k = .por then s else yieldAll s).integ = s.integ := by
    split
    · rfl
    · exact foldl_keeps_read State.integ (fun s n => sendHeartbeat_integ n true s) _ s
  refine ⟨?_, rfl, ?_⟩
  · exact congrArg SysSt.phase (driveFaultN_sys _)
  · refine (congrArg IntegSt.lastFault (driveFaultN_integ _)).trans ?_
    change (cutBurn (if k = .por then s else yieldAll s)).integ.lastFault = _
    rw [cutBurn_integ, hyield]

/-- The lockout of an OTP that cannot be read (R526, R544). -/
theorem lockout_otp (detail : Word32) (s : State) : (lockout 14 14 detail s).sys.phase = .held .fault
    ∧ (lockout 14 14 detail s).sys.lastReset = .fault ∧ (lockout 14 14 detail s).integ.lastFault.cls = 14
    ∧ (lockout 14 14 detail s).integ.lastFault.detail = detail := by
  have h : lockout 14 14 detail s
      = resetEdge .fault { s with integ := { s.integ with lastFault := { time := s.stamp, cls := 14, unit := 14, detail } } } := by
    simp [lockout]
  obtain ⟨hp, hl, hf⟩ := resetEdge_held .fault { s with integ := { s.integ with lastFault := { time := s.stamp, cls := 14, unit := 14, detail } } }
  rw [h]
  exact ⟨hp, hl, congrArg LastFault.cls hf, congrArg LastFault.detail hf⟩

/-! ### The end of the reset -/

section
variable {k : ResetKind} {s : State} {pins : StrapPins} {gib0 gib1 : Nat} (hk : s.sys.phase = .held k) (hn : s.sys.resetN = false)
  (hs : scorched s = false) (h0 : gibOk gib0 = true) (h1 : gibOk gib1 = true)
include hk hn hs h0 h1

/-- With an OTP that it can read, the device runs with what it has read; only the update state and a mark that BOOT never ends are still
to come (R578, R602). -/
theorem leaveReset_readable (h : otpBad (readFuses s) = none) : ∃ u b, leaveReset pins gib0 gib1 s = { bootRead k pins gib0 gib1 s with
    upd := u, sys := { (bootRead k pins gib0 gib1 s).sys with stuck := b } } := by
  have hotp := (bootRead_facts pins gib0 gib1 hk).otpBad.trans h
  have hrun : leaveReset pins gib0 gib1 s
      = if (bootRead k pins gib0 gib1 s).sys.stuck then bootRead k pins gib0 gib1 s else pickBank (bootRead k pins gib0 gib1 s) := by
    unfold leaveReset
    rw [hk]
    refine (if_neg (by simp [hn, hs, h0, h1])).trans ?_
    extract_lets _ _ _ _ _ _ t
    rw [show t = bootRead k pins gib0 gib1 s from rfl, hotp]
  rw [hrun]
  split
  · exact ⟨_, _, rfl⟩
  · exact pickBank_eq _

/-- A word of the OTP that BOOT cannot read is a lockout (R526). -/
theorem leaveReset_unreadable {y : Nat} (h : otpBad (readFuses s) = some y) :
    leaveReset pins gib0 gib1 s = lockout 14 14 (BitVec.ofNat 32 y) (bootRead k pins gib0 gib1 s) := by
  have hotp := (bootRead_facts pins gib0 gib1 hk).otpBad.trans h
  unfold leaveReset
  rw [hk]
  refine (if_neg (by simp [hn, hs, h0, h1])).trans ?_
  extract_lets _ _ _ _ _ _ t
  rw [show t = bootRead k pins gib0 gib1 s from rfl, hotp]

end

/-- A device that is not held in reset, or is kept there, stays as it is (R573, R576). -/
theorem leaveReset_stays {s : State} (pins : StrapPins) (gib0 gib1 : Nat)
    (h : s.sys.resetN = true ∨ s.sys.phase = .running ∨ scorched s = true ∨ gibOk gib0 = false ∨ gibOk gib1 = false) :
    leaveReset pins gib0 gib1 s = s := by
  unfold leaveReset
  split
  case h_1 k hk =>
    refine if_pos ?_
    simp only [hk, reduceCtorEq, false_or] at h
    obtain h | h | h | h := h <;> simp [h]
  case h_2 => rfl

theorem gibOk_iff (n : Nat) : gibOk n = true ↔ n = 2 ∨ n = 4 ∨ n = 8 := by
  simp [gibOk, or_assoc]

theorem readFuses_otp (s : State) :
    (fuseState (fullFuses s.sec.fuses) = .scrapped → (readFuses s).sec.otp.secret = List.replicate 8 otpOnes)
    ∧ (fuseState (fullFuses s.sec.fuses) ≠ .scrapped → (readFuses s).sec.otp = s.sec.otp) := by
  rw [readFuses_sec]
  exact ⟨fun h => if_pos h, fun h => by rw [if_neg h]⟩

theorem exec_leaveReset {dt : Ps} {pins : StrapPins} {gib0 gib1 : Nat} {s t : State} (h : leaveReset pins gib0 gib1 (s.elapse dt) = t) :
    exec (.leaveReset dt pins gib0 gib1) s = .next t := h ▸ rfl

/-- Settles O54: what BOOT reads gives the straps, the fuses and the reserve domain; `pickBank` changes the update state alone, and the
lockout is a reset edge. -/
theorem leavingResetTakesEffect : Obligations.LeavingResetTakesEffect := by
  unfold Obligations.LeavingResetTakesEffect
  refine ⟨?boots, ?lockout, readFuses_otp, ?kept, ?lost, ?stays, ?wrongCapacity, gibOk_iff, fun s n => pickBank_good, ?recovery,
    fun s => pickBank_empty, fun n s => tryBank_pending⟩
  case boots =>
    rintro dt s u p a b k rfl hk hn hs hotp ha hb
    have facts := bootRead_facts p a b hk
    obtain ⟨v, c, h⟩ := leaveReset_readable (pins := p) hk hn hs ((gibOk_iff a).2 ha) ((gibOk_iff b).2 hb) hotp
    exact ⟨_, exec_leaveReset h, facts.phase, facts.capacity, facts.straps, facts.wdogAt, facts.lifecycle, facts.fuses, facts.imageRoot⟩
  case lockout =>
    rintro dt s u p a b y k rfl hk hn hs hotp ha hb
    have h := leaveReset_unreadable (pins := p) hk hn hs ((gibOk_iff a).2 ha) ((gibOk_iff b).2 hb) hotp
    exact ⟨_, exec_leaveReset h, lockout_otp _ _⟩
  case kept =>
    rintro dt s u p a b k rfl hk hn hs hotp ha hb hm hl
    obtain ⟨hhost, hlost, htime⟩ := bootRead_kept (k := k) p a b hm hl
    obtain ⟨htb, hvalid⟩ := (s.elapse dt).time.restart_tb_valid
    obtain ⟨v, c, h⟩ := leaveReset_readable (pins := p) hk hn hs ((gibOk_iff a).2 ha) ((gibOk_iff b).2 hb) hotp
    refine ⟨_, exec_leaveReset h, ?_⟩
    dsimp only
    rw [hhost, hlost, htime]
    exact ⟨rfl, rfl, rfl, rfl, htb, hvalid, rfl, rfl⟩
  case lost =>
    rintro dt s u p a b k rfl hk hn hs hotp ha hb hm
    obtain ⟨v, c, h⟩ := leaveReset_readable (pins := p) hk hn hs ((gibOk_iff a).2 ha) ((gibOk_iff b).2 hb) hotp
    exact ⟨_, exec_leaveReset h, bootRead_lost p a b hk hm⟩
  case stays =>
    rintro dt s u p a b rfl h
    refine exec_leaveReset (leaveReset_stays p a b ?_)
    tauto
  case wrongCapacity =>
    rintro dt s u p a b rfl h
    refine exec_leaveReset (leaveReset_stays p a b ?_)
    tauto
  case recovery =>
    intro s hsrc hsvc
    simp [pickBank, hsrc, hsvc, awaitImages]

end Sys2Proof.Machine
end

section
/-! SUPPORT. Alarm decisions: they leave the aligner and the engines as they are. -/

namespace Sys2Proof.Machine

/-- What the aligner and the engines hold. -/
def State.work (s : State) : AlignSt × KernelSt := (s.align, s.kernel)

theorem work_eq_iff {s t : State} : t.work = s.work ↔ t.align = s.align ∧ t.kernel = s.kernel := Prod.mk.injEq .. ▸ Iff.rfl

/-! ### Frames in the transmit queues -/

@[simp] theorem countBufDrop_work (k : TxKind) (s : State) : (countBufDrop k s).work = s.work := by
  unfold countBufDrop
  split <;> rfl

@[simp] theorem lateFrame_work (p : Nat) (f : TxFrame) (s : State) : (lateFrame p f s).2.work = s.work := by
  unfold lateFrame
  split
  · dsimp only
    split <;> rfl
  · rfl

@[simp] theorem lateFrames_work (p : Nat) (late : TxFrame → Bool) (fs : List TxFrame) (s : State) : (lateFrames p late fs s).2.work = s.work := by
  induction fs generalizing s with
  | nil => rfl
  | cons f fs ih =>
    refine (ih _).trans ?_
    split
    · exact lateFrame_work p f s
    · rfl

@[simp] theorem enqueue_work (p : Nat) (express : Bool) (fs : List TxFrame) (s : State) : (enqueue p express fs s).work = s.work := by
  unfold enqueue
  split
  · rfl
  · dsimp only
    split
    all_goals
      split
      · exact countBufDrop_work _ _
      split
      · exact countBufDrop_work _ _
    · refine foldl_keeps_read State.work (fun _ _ => ?_) _ _
      rfl
    · exact lateFrames_work _ _ _ _
    · rfl
    · exact lateFrames_work _ _ _ _
    · rfl

/-! ### Decisions -/

@[simp] theorem sendAlarm_work (n dest : Nat) (rep : Bool) (payload : List Byte) (s : State) : (sendAlarm n dest rep payload s).work = s.work := by
  unfold sendAlarm
  extract_lets
  split
  · rfl
  · split
    · exact enqueue_work _ _ _ _
    · split <;> exact enqueue_work _ _ _ _

@[simp] theorem almEvent_work (n type : Nat) (test : Bool) (tick : Stamp) (seq : Nat) (detail : List Byte) (s : State) :
    (almEvent n type test tick seq detail s).work = s.work := by
  unfold almEvent
  split
  · rfl
  · dsimp only
    split
    · exact foldl_keeps_read State.work (fun _ _ => sendAlarm_work _ _ _ _ _) _ _
    · rfl

@[simp] theorem updatePins_work (s : State) : (updatePins s).work = s.work := by
  unfold updatePins
  extract_lets
  split <;> rfl

@[simp] theorem mirrorItem_work (code : Nat) (content : List Byte) (s : State) : (mirrorItem code content s).work = s.work := by
  obtain ⟨-, -, -, -, -, -, halign, -, -, -, hkernel, -⟩ := mirrorItem_frame code content s
  exact work_eq_iff.2 ⟨halign, hkernel⟩

@[simp] theorem almDecide_work (n : Nat) (raw : Raw) (tick : Stamp) (seq : Nat) (detail : List Byte) (s : State) :
    (almDecide n raw tick seq detail s).work = s.work := by
  unfold almDecide
  split
  · rfl
  · dsimp only
    split
    · rfl
    · rw [updatePins_work]
      split
      · split
        · exact almEvent_work _ _ _ _ _ _ _
        · rfl
      · rw [mirrorItem_work]
        split
        · exact almEvent_work _ _ _ _ _ _ _
        · rfl

@[simp] theorem almTake_work (n : Nat) (raw : Raw) (tick : Stamp) (seq : Nat) (detail : List Byte) (s : State) :
    (almTake n raw tick seq detail s).work = s.work := by
  unfold almTake
  split
  · rfl
  · split
    · rfl
    · exact almDecide_work _ _ _ _ _ _

@[simp] theorem almFollow_work (k n : Nat) (s : State) : (almFollow k n s).work = s.work := by
  induction k generalizing s with
  | zero => rfl
  | succ k ih =>
    rw [almFollow]
    split
    · rfl
    · split
      · rfl
      · split
        · rfl
        · exact (ih _).trans (almDecide_work _ _ _ _ _ _)

@[simp] theorem almRelease_work (zone : Nat) (s : State) : (almRelease zone s).work = s.work := by
  refine foldl_keeps_read State.work (fun s x => ?_) _ s
  split
  · exact almFollow_work _ _ s
  · rfl

/-- A decision on every definition of a zone leaves what the aligner and the engines hold. -/
@[simp] theorem almDecideAll_work (zone : Nat) (tick : Stamp) (seq : Nat) (f : AlmDef → Option (Raw × List Byte)) (s : State) :
    (almDecideAll zone tick seq f s).work = s.work := by
  refine (almRelease_work zone _).trans (foldl_keeps_read State.work (fun s x => ?_) _ s)
  split
  · split
    · exact almTake_work _ _ _ _ _ s
    · rfl
  · rfl

theorem almDecideAll_kernel (zone : Nat) (tick : Stamp) (seq : Nat) (f : AlmDef → Option (Raw × List Byte)) (s : State) :
    (almDecideAll zone tick seq f s).kernel = s.kernel := congrArg Prod.snd (almDecideAll_work zone tick seq f s)

theorem almDecideAll_zone (zone : Nat) (tick : Stamp) (seq : Nat) (f : AlmDef → Option (Raw × List Byte)) (s : State) (z : Nat) :
    (almDecideAll zone tick seq f s).zone z = s.zone z :=
  congrArg (fun w : AlignSt × KernelSt => tabGet ({} : Zone) z w.1.zones) (almDecideAll_work zone tick seq f s)

end Sys2Proof.Machine
end

section
/-! SUPPORT. Items on their way: dispatch, arrival, the memories of an engine, release and fence (R364 to R368, R372, R374). -/

namespace Sys2Proof.Machine

/-! ### Tables -/

@[simp] theorem tabGet_tabMod_self {α : Type} (d : α) (k : Nat) (f : α → α) (t : Tab α) : tabGet d k (tabMod d k f t) = f (tabGet d k t) :=
  tabGet_tabSet_self d k _ t

/-! ### The picks of the scheduler -/

/-- The first of a list in the order of dispatch is one of the list. -/
theorem firstItem_mem {α : Type} {key : α → Item} {xs : List α} {x : α} (h : firstItem key xs = some x) : x ∈ xs := by
  refine List.foldlRecOn (motive := fun b : Option α => ∀ y, b = some y → y ∈ xs) xs _ (by simp) (fun b hb a ha y hy => ?_) x h
  split at hy
  · split at hy
    · exact Option.some.inj hy ▸ ha
    · exact hb y hy
  · exact Option.some.inj hy ▸ ha

/-- The first entry of a flow is one of its entries in the reorder buffer. -/
theorem firstEntry_mem {flow : Nat} {rob : Tab RobEntry} {x : Nat × RobEntry} (h : firstEntry flow rob = some x) :
    x ∈ rob ∧ x.2.item.flow = flow := by
  have hx : x ∈ rob.filter fun x => x.2.item.flow = flow := by
    refine List.foldlRecOn (motive := fun b : Option (Nat × RobEntry) => ∀ y, b = some y → y ∈ rob.filter fun x => x.2.item.flow = flow)
      _ _ (by simp) (fun b hb a ha y hy => ?_) x h
    split at hy
    · split at hy
      · exact Option.some.inj hy ▸ ha
      · exact hb y hy
    · exact Option.some.inj hy ▸ ha
  simpa using hx

theorem mem_waitingEngines {s : State} {e : Nat} : e ∈ waitingEngines s ↔ e < 12 ∧ (s.engine e).state = .waiting := by
  simp [waitingEngines]

/-- A retry goes to the lowest-numbered engine that waits, other than the one that aborted it (R365). -/
theorem retryPick_some {s : State} {e n : Nat} {x : RobEntry} (h : retryPick s = some (n, x, e)) :
    x.state = .aborted ∧ (n, x) ∈ s.kernel.rob ∧ x.notOn ≠ some e ∧ (s.engine e).state = .waiting ∧ e < 12
      ∧ ∀ e', e' < e → (s.engine e').state = .waiting → x.notOn = some e' := by
  obtain ⟨⟨m, y⟩, hmem, hy⟩ := List.mem_filterMap.1 (firstItem_mem h)
  dsimp only at hy
  split at hy
  case isFalse => exact absurd hy nofun
  case isTrue habort =>
    obtain ⟨e0, hfind, heq⟩ := Option.map_eq_some_iff.1 hy
    obtain ⟨rfl, rfl, rfl⟩ : m = n ∧ y = x ∧ e0 = e := by simpa using heq
    obtain ⟨hwait, hnot⟩ : e0 ∈ waitingEngines s ∧ y.notOn ≠ some e0 := ⟨List.mem_of_find?_eq_some hfind, by simpa using List.find?_some hfind⟩
    obtain ⟨h12, hstate⟩ := mem_waitingEngines.1 hwait
    refine ⟨habort, hmem, hnot, hstate, h12, fun e' hlt hw => ?_⟩
    obtain ⟨-, before, after, hsplit, hbefore⟩ := List.find?_eq_some_iff_append.1 hfind
    have hsorted : (before ++ e0 :: after).Pairwise (· < ·) := hsplit ▸ List.pairwise_lt_range.filter _
    have hin : e' ∈ before ++ e0 :: after := hsplit ▸ mem_waitingEngines.2 ⟨by omega, hw⟩
    obtain ⟨-, htail, -⟩ := List.pairwise_append.1 hsorted
    obtain hb | ha := List.mem_append.1 hin
    · simpa using hbefore e' hb
    · obtain rfl | ha := List.mem_cons.1 ha
      · omega
      · have := List.rel_of_pairwise_cons htail ha
        omega

/-- No earlier item of its flow is queued before an item that may go to an engine (R365). -/
theorem dispatchable_first {s : State} {i x : Item} (h : dispatchable s i = true) (hx : x ∈ s.kernel.queue) (hf : x.flow = i.flow) :
    0 ≤ stampDiff x.instant i.instant ∧ (stampDiff x.instant i.instant = 0 → i.part ≤ x.part) := by
  have hnot : earlierItem x i = false := by
    simp only [dispatchable, Bool.and_eq_true, Bool.not_eq_true', List.any_eq_false] at h
    simpa using h.1 x hx
  simp only [earlierItem, hf, decide_true, Bool.true_and, Bool.or_eq_false_iff, Bool.and_eq_false_iff, decide_eq_false_iff_not] at hnot
  omega

/-! ### Dispatch -/

section
variable {s : State} (ha : s.aligning = true)
include ha

theorem dispatch_retry {n e : Nat} {x : RobEntry} (h : retryPick s = some (n, x, e)) :
    dispatch s = startItem n e { x with state := .running, item := { x.item with retry := true } } s := by
  simp [dispatch, ha, h]

variable (hr : retryPick s = none) {e : Nat} {i : Item} (he : (waitingEngines s).head? = some e)
  (hi : firstItem id (s.kernel.queue.filter (dispatchable s)) = some i)
include hr he hi

theorem dispatch_queued (hroom : s.kernel.rob.length < 1024) : dispatch s = startItem s.kernel.robNext e
    { item := i, state := .running, outs := none, releasedAt := 0, discard := false, notOn := none }
    { s with kernel := { s.kernel with queue := s.kernel.queue.erase i, robNext := s.kernel.robNext + 1 } } := by
  have hroom' : ¬ 1024 ≤ s.kernel.rob.length := by omega
  simp [dispatch, ha, hr, he, hi, hroom']

/-- A full reorder buffer stalls the dispatch (R367). -/
theorem dispatch_stalled (hfull : 1024 ≤ s.kernel.rob.length) :
    dispatch s = { s with kernel := { s.kernel with cStalls := inc s.kernel.cStalls } } := by
  simp [dispatch, ha, hr, he, hi, hfull]

end

/-- What the engine that takes an item holds of it (R362, R364, R373). -/
theorem startItem_engine (n : Nat) {e : Nat} (x : RobEntry) (s : State) (he : e < 12) : (startItem n e x s).engine e = { s.engine e with
    state := .running, entry := some (n, false), busySince := s.now, descriptor := x.item.descriptor s
    input := none, l1 := [], ldm := [], ldmDraw := s.drawn } :=
  vget_vset_self _ _ _ _ he

/-! ### Arrival -/

theorem itemArrival_due {e n : Nat} {s : State} (hs : (s.engine e).state = .running) (hn : (s.engine e).entry = some (n, false))
    (hd : (s.engine e).busySince + 18000 ≤ s.now) : itemArrival e s = s.setEngine e { s.engine e with
      entry := some (n, true), input := (tabGet? n s.kernel.rob).map fun r => kernelInput s r.item } := by
  simp [itemArrival, hs, hn, hd]

theorem itemArrival_early {e n : Nat} {s : State} (hs : (s.engine e).state = .running) (hn : (s.engine e).entry = some (n, false))
    (hd : s.now < (s.engine e).busySince + 18000) : itemArrival e s = s := by
  have hd' : ¬ (s.engine e).busySince + 18000 ≤ s.now := Nat.not_le.2 hd
  simp [itemArrival, hs, hn, hd']

/-! ### The memories of an engine -/

/-- A line comes into an L1 of at most 512 lines in place of another (R356). -/
theorem l1Load_length (s : State) (i : Item) (line : Nat) {evict : Nat} {l1 : List (Nat × List Byte)} (hl : l1.length ≤ 512) (he : evict < 512) :
    (l1Load s i line evict l1).length ≤ 512 := by
  unfold l1Load
  extract_lets here
  split
  · exact hl
  · split
    case isTrue hroom =>
      rw [List.length_cons]
      omega
    case isFalse hfull =>
      have hlt : evict < l1.length := by omega
      rw [List.length_cons, List.length_eraseIdx_of_lt hlt]
      omega

/-- A word takes at most one more entry of the write buffer, and none when it merges (R372). -/
theorem bufferWord_length (w : WordWrite) (b : List (Nat × List WordWrite)) :
    (bufferWord w b).length ≤ b.length + 1 ∧ (b.any (fun x => x.1 = w.addr / 64) = true → (bufferWord w b).length = b.length) := by
  induction b with
  | nil => simp [bufferWord]
  | cons x t ih =>
    obtain ⟨hle, heq⟩ := ih
    rw [bufferWord]
    split
    case isTrue => simp
    case isFalse hx =>
      refine ⟨by simpa using hle, fun hany => ?_⟩
      simpa [hx] using heq (by simpa [hx] using hany)

/-- What the work of engine `e` leaves alone: of the kernel all but the engines and the words drained, the other engines, and of its own
engine the item that it holds; its write buffer holds at most 8 entries if it did (R356, R372). -/
structure EngineWork (e : Nat) (s t : State) : Prop where
  kernel : { t.kernel with engines := s.kernel.engines, drained := s.kernel.drained } = s.kernel
  others : ∀ f, f ≠ e → t.engine f = s.engine f
  state : (t.engine e).state = (s.engine e).state
  entry : (t.engine e).entry = (s.engine e).entry
  input : (t.engine e).input = (s.engine e).input
  wbuf : (s.engine e).wbuf.length ≤ 8 → (t.engine e).wbuf.length ≤ 8

theorem EngineWork.refl (e : Nat) (s : State) : EngineWork e s s := ⟨rfl, fun _ _ => rfl, rfl, rfl, rfl, id⟩

theorem EngineWork.trans {e : Nat} {s t u : State} (h : EngineWork e s t) (k : EngineWork e t u) : EngineWork e s u where
  kernel := (congrArg (fun x : KernelSt => { x with engines := s.kernel.engines, drained := s.kernel.drained }) k.kernel).trans h.kernel
  others f hf := (k.others f hf).trans (h.others f hf)
  state := k.state.trans h.state
  entry := k.entry.trans h.entry
  input := k.input.trans h.input
  wbuf := k.wbuf ∘ h.wbuf

theorem EngineWork.foldl {e : Nat} {α : Type} {g : State → α → State} (hg : ∀ s x, EngineWork e s (g s x)) (l : List α) (s : State) :
    EngineWork e s (l.foldl g s) := by
  induction l generalizing s with
  | nil => exact .refl e s
  | cons x l ih => exact (hg s x).trans (ih _)

/-- Its engine is written, with the item that it holds left to it. -/
theorem EngineWork.setEngine {e : Nat} {s t : State} (h : EngineWork e s t) (he : e < 12) {x : Engine} (hs : x.state = (t.engine e).state)
    (hn : x.entry = (t.engine e).entry) (hi : x.input = (t.engine e).input) (hw : (s.engine e).wbuf.length ≤ 8 → x.wbuf.length ≤ 8) :
    EngineWork e s (t.setEngine e x) := by
  have hself := State.setEngine_engine_self t e x he
  exact {
    kernel := h.kernel
    others := fun f hf => (State.setEngine_engine_ne t e x f hf.symm).trans (h.others f hf)
    state := by rw [hself, hs, h.state]
    entry := by rw [hself, hn, h.entry]
    input := by rw [hself, hi, h.input]
    wbuf := by rwa [hself] }

@[simp] theorem dramWritten_kernel (addr n : Nat) (s : State) : (dramWritten addr n s).kernel = s.kernel := rfl

/-- The oldest entry of the write buffer drains: the engine is without it, and of the rest of the kernel only the words drained change. -/
theorem drainOne_kernel (e : Nat) (s : State) : ∃ d, (drainOne e s).kernel = { s.kernel with
    engines := vset s.kernel.engines e { s.engine e with wbuf := (s.engine e).wbuf.tail }, drained := d } := by
  unfold drainOne
  split
  case h_1 h =>
    have heq : { s.engine e with wbuf := (s.engine e).wbuf.tail } = s.engine e := by rw [h, List.tail_nil, ← h]
    refine ⟨s.kernel.drained, ?_⟩
    rw [heq, State.engine, vset_vget]
  case h_2 x rest h =>
    have hwords := foldl_keeps_read State.kernel (fun s w => dramWritten_kernel w.addr 4 s) x.2
      (s.setEngine e { s.engine e with wbuf := rest })
    dsimp only
    rw [hwords, h]
    exact ⟨_, rfl⟩

theorem drainOne_engine {e : Nat} (he : e < 12) (s : State) :
    (drainOne e s).engine e = { s.engine e with wbuf := (s.engine e).wbuf.tail } := by
  obtain ⟨d, hd⟩ := drainOne_kernel e s
  rw [State.engine, hd]
  exact vget_vset_self _ _ _ _ he

theorem drainOne_work {e : Nat} (he : e < 12) (s : State) : EngineWork e s (drainOne e s) := by
  obtain ⟨d, hd⟩ := drainOne_kernel e s
  have hengine := drainOne_engine he s
  refine ⟨by rw [hd], fun f hf => ?_, by rw [hengine], by rw [hengine], by rw [hengine], fun h => ?_⟩
  · rw [State.engine, hd]
    exact vget_vset_ne _ _ _ _ _ hf.symm
  · rw [hengine, List.length_tail]
    omega

/-- Each access of an item is work of its engine alone (R356, R372, R373). -/
theorem engineAccess_work {e : Nat} (he : e < 12) (i : Item) (words : List WordWrite) (s : State) (acc : EngineAcc) :
    EngineWork e s (engineAccess e i words s acc) := by
  have hstay := EngineWork.refl e s
  cases acc with
  | load line evict => exact hstay.setEngine he rfl rfl rfl id
  | keep addr b => exact hstay.setEngine he rfl rfl rfl id
  | store k =>
    rw [engineAccess]
    split
    · exact hstay
    · rename_i w hw
      dsimp only
      split
      case isTrue hfull =>
        refine (drainOne_work he s).setEngine he rfl rfl rfl fun hlen => ?_
        obtain ⟨hone, -⟩ := bufferWord_length w (s.engine e).wbuf.tail
        obtain ⟨h8, -⟩ := (Bool.and_eq_true_iff ..).1 hfull
        rw [List.length_tail] at hone
        rw [drainOne_engine he]
        dsimp only
        have := of_decide_eq_true h8
        omega
      case isFalse hroom =>
        refine hstay.setEngine he rfl rfl rfl fun hlen => ?_
        obtain ⟨hone, hmerge⟩ := bufferWord_length w (s.engine e).wbuf
        simp only [Bool.and_eq_true, decide_eq_true_eq, Bool.not_eq_true', not_and, Bool.not_eq_false] at hroom
        dsimp only
        by_cases h8 : 8 ≤ (s.engine e).wbuf.length
        · rw [hmerge (hroom h8)]
          exact hlen
        · omega

/-! ### Release -/

theorem engineIdle_engine {e : Nat} (he : e < 12) (st : EngineState) (s : State) :
    (engineIdle e st s).engine e = { s.engine e with state := st, entry := none, input := none } :=
  vget_vset_self _ _ _ _ he

section
variable {e n : Nat} {s : State} {r : RobEntry} (accs : List EngineAcc) (hs : (s.engine e).state = .running)
  (hn : (s.engine e).entry = some (n, true)) (hr : tabGet? n s.kernel.rob = some r)
include hs hn hr

/-- An item that counts is released with the result of what it has read, behind what its engine does for it (R368, R372). -/
theorem engineRelease_kept (he : e < 12) (hd : r.discard = false) : ∃ t, EngineWork e (engineIdle e .waiting s) t
    ∧ engineRelease e accs s = { t with kernel := { t.kernel with rob := tabSet n { r with
        state := .released, outs := (s.engine e).input.map (kernelResult r.item), releasedAt := s.now } t.kernel.rob } } := by
  simp only [engineRelease, hs, hn, hr, hd, Bool.false_eq_true, if_false]
  refine ⟨_, ?_, rfl⟩
  exact EngineWork.foldl (engineAccess_work he r.item _) _ _

theorem engineRelease_discarded (hd : r.discard = true) : engineRelease e accs s = discardEntry n (engineIdle e .waiting s) := by
  simp [engineRelease, hs, hn, hr, hd]

end

/-! ### The fence -/

/-- No word of an entry waits in the write buffer of an engine. -/
def Drained (n e : Nat) (s : State) : Prop := ∀ x w, x ∈ (s.engine e).wbuf → w ∈ x.2 → w.entry ≠ n

theorem drained_of_wbuf_nil {n e : Nat} {s : State} (h : (s.engine e).wbuf = []) : Drained n e s := by
  intro x w hx
  simp [h] at hx

theorem engine_of_le {e : Nat} (s : State) (he : 12 ≤ e) : s.engine e = {} := by
  simp [State.engine, vget, he]

theorem drainFor_work (n : Nat) {e : Nat} (he : e < 12) (k : Nat) (s : State) : EngineWork e s (drainFor n e k s) := by
  induction k generalizing s with
  | zero => exact .refl e s
  | succ k ih =>
    rw [drainFor]
    split
    · exact (drainOne_work he s).trans (ih _)
    · exact .refl e s

/-- As many drains as the write buffer has entries leave no word of the entry in it (R368). -/
theorem drainFor_drained (n : Nat) {e : Nat} (he : e < 12) {k : Nat} {s : State} (hk : (s.engine e).wbuf.length ≤ k) :
    Drained n e (drainFor n e k s) := by
  induction k generalizing s with
  | zero => exact drained_of_wbuf_nil (List.eq_nil_of_length_eq_zero (Nat.le_zero.1 hk))
  | succ k ih =>
    rw [drainFor]
    split
    case isTrue =>
      refine ih ?_
      rw [drainOne_engine he, List.length_tail]
      omega
    case isFalse hany =>
      intro x w hx hw heq
      exact hany (List.any_eq_true.2 ⟨x, hx, List.any_eq_true.2 ⟨w, hw, decide_eq_true heq⟩⟩)

/-- The drains of several engines change of the kernel the engines and the words drained alone. -/
theorem drainAll_kernel (n : Nat) (es : List Nat) (hes : ∀ e ∈ es, e < 12) (s : State) :
    { (es.foldl (fun s e => drainFor n e 8 s) s).kernel with engines := s.kernel.engines, drained := s.kernel.drained } = s.kernel := by
  induction es generalizing s with
  | nil => rfl
  | cons e es ih =>
    have hrest := ih (fun f hf => hes f (List.mem_cons_of_mem e hf)) (drainFor n e 8 s)
    exact (congrArg (fun x : KernelSt => { x with engines := s.kernel.engines, drained := s.kernel.drained }) hrest).trans
      (drainFor_work n (hes e List.mem_cons_self) 8 s).kernel

theorem drainAll_drained (n : Nat) (es : List Nat) (hes : ∀ e ∈ es, e < 12) {s : State} (hlen : ∀ e, (s.engine e).wbuf.length ≤ 8) {e : Nat}
    (he : e ∈ es ∨ Drained n e s) : Drained n e (es.foldl (fun s e => drainFor n e 8 s) s) := by
  induction es generalizing s with
  | nil => exact he.resolve_left List.not_mem_nil
  | cons f es ih =>
    have hf := hes f List.mem_cons_self
    have hwork := drainFor_work n hf 8 s
    refine ih (fun g hg => hes g (List.mem_cons_of_mem f hg)) (fun g => ?_) ?_
    · by_cases hg : g = f
      · exact hg ▸ hwork.wbuf (hlen f)
      · rw [hwork.others g hg]
        exact hlen g
    · by_cases hef : e = f
      · exact .inr (hef ▸ drainFor_drained n hf (hlen f))
      · refine he.imp (fun h => (List.mem_cons.1 h).resolve_left hef) fun h => ?_
        rw [Drained, hwork.others e hef]
        exact h

/-- A released item is fenced when the write buffers have drained as far as its writes (R368). -/
theorem fenceDone_released {n : Nat} {s : State} {r : RobEntry} (hr : tabGet? n s.kernel.rob = some r) (hs : r.state = .released) :
    (fenceDone n s).kernel.rob = tabSet n { r with state := .fenced } s.kernel.rob ∧ (fenceDone n s).kernel.queue = s.kernel.queue
    ∧ (fenceDone n s).kernel.posts = s.kernel.posts ∧ (fenceDone n s).kernel.cPosted = s.kernel.cPosted
    ∧ ((∀ e, (s.engine e).wbuf.length ≤ 8) → ∀ e, Drained n e (fenceDone n s)) := by
  have hes : ∀ e ∈ List.range 12, e < 12 := fun e he => List.mem_range.1 he
  obtain ⟨t, ht⟩ : ∃ t, t = (List.range 12).foldl (fun s e => drainFor n e 8 s) s := ⟨_, rfl⟩
  have hframe := drainAll_kernel n (List.range 12) hes s
  have hdone : fenceDone n s = { t with kernel := { t.kernel with rob := tabSet n { r with state := .fenced } t.kernel.rob } } := by
    simp [fenceDone, hr, hs, ht]
  have hdrained (hlen : ∀ e, (s.engine e).wbuf.length ≤ 8) (e : Nat) : Drained n e t := by
    refine ht ▸ drainAll_drained n (List.range 12) hes hlen ?_
    by_cases he : e < 12
    · exact .inl (List.mem_range.2 he)
    · exact .inr (drained_of_wbuf_nil (by rw [engine_of_le s (Nat.not_lt.1 he)]))
  rw [← ht] at hframe
  rw [hdone]
  have hrob : t.kernel.rob = s.kernel.rob := (congrArg KernelSt.rob hframe :)
  have hqueue : t.kernel.queue = s.kernel.queue := (congrArg KernelSt.queue hframe :)
  have hposts : t.kernel.posts = s.kernel.posts := (congrArg KernelSt.posts hframe :)
  have hcount : t.kernel.cPosted = s.kernel.cPosted := (congrArg KernelSt.cPosted hframe :)
  exact ⟨congrArg (tabSet n { r with state := .fenced }) hrob, hqueue, hposts, hcount, hdrained⟩

theorem fenceDone_stays {n : Nat} {s : State} (h : ∀ r, tabGet? n s.kernel.rob = some r → r.state ≠ .released) : fenceDone n s = s := by
  unfold fenceDone
  split
  · rename_i r hr
    exact if_neg (h r hr)
  · rfl

end Sys2Proof.Machine
end

section
/-! SUPPORT. Postings, result slots and the budget deadline of a tick (R40, R369, R371, R378, R383). -/

namespace Sys2Proof.Machine

/-! ### The posting of an entry -/

/-- What an entry posts: the result of its item, its body in the length that its entries take (R369). -/
def RobEntry.part (r : RobEntry) : KernelOut :=
  let o := r.outs.getD { posted := 0, out := [], body := [], state := [] }
  { o with body := padTo (16 * r.item.entries.length) o.body }

/-- The posting is the one of the entry's flow and tick. -/
def RobEntry.postsTo (r : RobEntry) (flow : Nat) (p : Posting) : Bool := p.zone = r.item.zone && p.flow = flow && p.tick = r.item.tick

/-- The parts of the flow posted with the entry. -/
def postedParts (flow : Nat) (r : RobEntry) (s : State) : List KernelOut :=
  (match s.kernel.posts.find? (r.postsTo flow) with | some p => p.parts | none => []) ++ [r.part]

/-- The flow with what the entry leaves in its state area, in the copy that its posting selects (R374). -/
def RobEntry.onFlow (r : RobEntry) (f : Flow) : Flow :=
  { f with state := tabSet r.item.part r.part.state f.state, copy := tabSet r.item.part (!tabGet false r.item.part f.copy) f.copy }

/-- The entry has left the reorder buffer into the posting of its flow. -/
def entryPosted (flow n : Nat) (r : RobEntry) (s : State) : State :=
  settleWords { maskFaults n s with kernel := { s.kernel with
    rob := tabErase n s.kernel.rob
    posts := (s.kernel.posts.filter fun p => !r.postsTo flow p) ++
      [{ zone := r.item.zone, flow, seq := r.item.seq, tick := r.item.tick, done := false, parts := postedParts flow r s, posted := 0, outs := [] }]
    flows := tabMod {} flow r.onFlow s.kernel.flows
    cPosted := inc s.kernel.cPosted
    cRetriesPosted := if r.item.retry then inc s.kernel.cRetriesPosted else s.kernel.cRetriesPosted } }

section
variable {flow n : Nat} {s : State} {r : RobEntry} (hfirst : firstEntry flow s.kernel.rob = some (n, r))
include hfirst

theorem postItem_fenced (hf : r.state = .fenced) (hq : ∀ x ∈ s.kernel.queue, earlierItem x r.item = false) :
    postItem flow s = if r.item.part + 1 = r.item.parts ∧ (postedParts flow r s).length = r.item.parts
      then flowPost r.item (postedParts flow r s) (entryPosted flow n r s) else entryPosted flow n r s := by
  have hany : s.kernel.queue.any (fun x => earlierItem x r.item) = false := by simpa using hq
  simp only [postItem, hfirst, hf, hany, ne_eq, not_true_eq_false, Bool.false_eq_true, or_self, if_false, Bool.and_eq_true, decide_eq_true_eq]
  rfl

/-- No entry is posted before its fence or before an earlier item of its flow (R369). -/
theorem postItem_stays (h : r.state ≠ .fenced ∨ ∃ x ∈ s.kernel.queue, earlierItem x r.item = true) : postItem flow s = s := by
  simp only [postItem, hfirst, List.any_eq_true]
  exact if_pos h

end

theorem entryPosted_copy (flow n : Nat) (r : RobEntry) (s : State) : ((entryPosted flow n r s).flow flow).copy =
    tabSet r.item.part (!tabGet false r.item.part (s.flow flow).copy) (s.flow flow).copy :=
  congrArg Flow.copy (tabGet_tabMod_self ({} : Flow) flow r.onFlow s.kernel.flows)

/-- The first part of a tick stands alone. -/
theorem postedParts_first {flow : Nat} {r : RobEntry} {s : State}
    (h : ∀ p, p ∈ s.kernel.posts → (p.zone ≠ r.item.zone ∨ p.flow ≠ flow) ∨ p.tick ≠ r.item.tick) : postedParts flow r s = [r.part] := by
  have hnone : s.kernel.posts.find? (r.postsTo flow) = none := by
    refine List.find?_eq_none.2 fun p hp => ?_
    simp only [RobEntry.postsTo, Bool.and_eq_true, decide_eq_true_eq]
    rintro ⟨⟨hz, hf⟩, ht⟩
    exact (h p hp).elim (fun h => h.elim (· hz) (· hf)) (· ht)
  simp [postedParts, hnone]

/-! ### The posting of a flow -/

/-- The table of the item has failed (R527). -/
def Item.tableFailed (i : Item) (s : State) : Bool := match tabGet? i.table s.kernel.tables with | some t => t.failed | none => false

theorem Item.tableFailed_eq_false {i : Item} {s : State} (h : ∀ t, tabGet? i.table s.kernel.tables = some t → t.failed = false) :
    i.tableFailed s = false := by
  unfold Item.tableFailed
  split
  · exact h _ ‹_›
  · rfl

/-- The result slot that a posted flow fills (R378). -/
def Item.slot (i : Item) (ps : List KernelOut) (s : State) : ResultSlot :=
  { seq := i.seq, tick := i.instant, kernel := i.kernel, parts := i.parts
    posted := if i.tableFailed s then 0#4 else (combineParts i.kernel ps).1, outs := (combineParts i.kernel ps).2, body := ps.flatMap (·.body) }

/-- Posting a flow leaves the reorder buffer and its counters, and fills the ring of its flow. -/
theorem flowPost_kernel (i : Item) (ps : List KernelOut) (s : State) : (flowPost i ps s).kernel.rob = s.kernel.rob
    ∧ (flowPost i ps s).kernel.cPosted = s.kernel.cPosted
    ∧ (flowPost i ps s).kernel.flows = tabMod {} i.flow (fun (f : Flow) => { f with ring := tabSet (i.seq % 4) (i.slot ps s) f.ring }) s.kernel.flows := by
  rw [flowPost, almDecideAll_kernel]
  exact ⟨rfl, rfl, rfl⟩

theorem flowPost_slot (i : Item) (ps : List KernelOut) (s : State) :
    tabGet? (i.seq % 4) ((flowPost i ps s).flow i.flow).ring = some (i.slot ps s) := by
  obtain ⟨-, -, hflows⟩ := flowPost_kernel i ps s
  rw [State.flow, hflows, tabGet_tabMod_self]
  simp [tabGet?_tabSet]

/-! ### The outputs of several parts -/

theorem foldl_and_getLsbD {α : Type} (f : α → BitVec 4) {o : Nat} (l : List α) (b : BitVec 4) (h : (l.foldl (fun m x => m &&& f x) b).getLsbD o = true) :
    b.getLsbD o = true ∧ ∀ x ∈ l, (f x).getLsbD o = true := by
  induction l generalizing b with
  | nil => exact ⟨h, by simp⟩
  | cons x l ih =>
    obtain ⟨hb, hl⟩ := ih _ h
    rw [BitVec.getLsbD_and, Bool.and_eq_true] at hb
    exact ⟨hb.1, List.forall_mem_cons.2 ⟨hb.2, hl⟩⟩

/-- An output is posted only where every part posted it (R371). -/
theorem combineParts_posted {kernel o : Nat} {ps : List KernelOut} (h : (combineParts kernel ps).1.getLsbD o = true) :
    ∀ p ∈ ps, p.posted.getLsbD o = true := by
  suffices hmask : (ps.foldl (fun m p => m &&& p.posted) (kernelPosts kernel)).getLsbD o = true from
    (foldl_and_getLsbD KernelOut.posted ps _ hmask).2
  unfold combineParts at h
  split at h
  · exact h
  · refine List.foldlRecOn (motive := fun m : BitVec 4 => m.getLsbD o = true → _) _ _ id (fun m ih q _ hq => ih ?_) h
    split at hq
    · rw [BitVec.getLsbD_and, Bool.and_eq_true] at hq
      exact hq.1
    · exact hq

theorem combineParts_single (kernel : Nat) (p : KernelOut) :
    combineParts kernel [p] = (p.posted &&& kernelPosts kernel, (List.range 4).map fun o => p.out.getD o 0) :=
  Prod.ext (BitVec.and_comm _ _) rfl

/-! ### The budget deadline -/

theorem dropItems_queue {f : Item → Bool} {s : State} {i : Item} (h : i ∈ (dropItems f s).kernel.queue) : f i = false := by
  have h' : i ∈ s.kernel.queue.filter fun i => !f i := h
  simpa using (List.mem_filter.1 h').2

/-- Only what runs of a dropped tick stays in the reorder buffer, to be discarded (R40, R369). -/
theorem dropItems_rob {f : Item → Bool} {s : State} {n : Nat} {r : RobEntry} (h : (n, r) ∈ (dropItems f s).kernel.rob) :
    f r.item = false ∨ r.state = .running ∧ r.discard = true := by
  obtain ⟨⟨m, x⟩, hx, heq⟩ := List.mem_map.1 h
  obtain ⟨-, rfl⟩ := Prod.mk.inj heq
  have hkept := (List.mem_filter.1 hx).2
  cases hf : f x.item with
  | false => simp [hf]
  | true => simpa [hf] using hkept

theorem budgetDeadline_kernel {z tick : Nat} {s : State} {a : Area} (ha : s.area z tick = some a) (hd : a.deadlineDone = false) :
    (budgetDeadline z tick s).kernel = (dropItems (fun i => i.zone = z && i.tick = tick) s).kernel := by
  rw [budgetDeadline, ha]
  simp only [hd, Bool.false_eq_true, if_false]
  split
  · split <;> rfl
  · rw [almDecideAll_kernel]
    split <;> rfl

@[simp] theorem modArea_cOverruns (z tick : Nat) (f : Area → Area) (s : State) : ((modArea z tick f s).zone z).cOverruns = (s.zone z).cOverruns := by
  rw [modArea, State.modZone_zone_self]

@[simp] theorem markIncomplete_cOverruns (z tick : Nat) (s : State) : ((markIncomplete z tick s).zone z).cOverruns = (s.zone z).cOverruns :=
  modArea_cOverruns ..

/-- A late tick counts one overrun of its zone (R40, R383). -/
theorem budgetDeadline_overrun {z tick : Nat} {s : State} {a : Area} (ha : s.area z tick = some a) (hd : a.deadlineDone = false)
    (hl : itemsLeft z tick s = true) : ((budgetDeadline z tick s).zone z).cOverruns = inc (s.zone z).cOverruns := by
  rw [budgetDeadline, ha]
  simp only [hd, hl, Bool.false_eq_true, if_false, if_true]
  split
  · simp only [State.modZone_zone_self, modArea_cOverruns, markIncomplete_cOverruns]
    rfl
  · simp only [almDecideAll_zone, State.modZone_zone_self, modArea_cOverruns, markIncomplete_cOverruns]
    rfl

/-! ### The commands -/

theorem startItem_flows (n e : Nat) (x : RobEntry) (s : State) : (startItem n e x s).kernel.flows =
    if x.item.part = 0 && !x.item.retry then tabMod {} x.item.flow (fun (f : Flow) => { f with ring := tabErase (x.item.seq % 4) f.ring }) s.kernel.flows
    else s.kernel.flows := rfl

section
variable {s u : State} {dt : Ps}

theorem exec_itemDispatch (h : u = dispatchRead (deadlinesCome (s.elapse dt))) : exec (.itemDispatch dt) s = .next (dispatch u) := h ▸ rfl

theorem exec_itemArrival {e : Nat} (h : u = arrivalRead e (s.elapse dt)) : exec (.itemArrival dt e) s = .next (itemArrival e u) := h ▸ rfl

theorem exec_engineRelease {e : Nat} {accs : List EngineAcc} (h : u = releaseRead e (s.elapse dt)) :
    exec (.engineRelease dt e accs) s = .next (engineRelease e accs u) := h ▸ rfl

theorem exec_releaseFenceDone {n : Nat} (h : u = robRead (fun m _ => m = n) (deadlinesCome (s.elapse dt))) :
    exec (.releaseFenceDone dt n) s = .next (fenceDone n u) := h ▸ rfl

theorem exec_itemPosted {flow : Nat} (h : u = robRead (fun _ r => r.item.flow = flow) (deadlinesCome (s.elapse dt))) :
    exec (.itemPosted dt flow) s = .next (postItem flow u) := h ▸ rfl

end

theorem dispatch_unaligned {s : State} (h : s.aligning = false) : dispatch s = s := by
  simp [dispatch, h]

/-! ### The obligation -/

/-- Settles O28: each command is the equation of its operation (`dispatch_queued`, `engineRelease_kept`, `fenceDone_released`,
`postItem_fenced`, …); the work of an engine and the drains touch engines and drained words alone (`EngineWork`). -/
theorem itemsAndBudgetFollowTheirRules : Obligations.ItemsAndBudgetFollowTheirRules := by
  unfold Obligations.ItemsAndBudgetFollowTheirRules
  refine ⟨⟨?queued, ?retry, fun s e n x => retryPick_some, ?stalled, ?unaligned, fun s i x => dispatchable_first, ?arrives, ?early, ?kept,
    fun s i line evict l1 => l1Load_length s i line, ?discarded, ?fenced, ?unfenced, ?part, ?flow, ?waits⟩,
    ⟨?deadline, fun kernel ps o _ h => combineParts_posted h, ?slot, ?failed⟩⟩
  case queued =>
    rintro dt s u e n i hu ha hr he hi hroom rfl hretry
    obtain ⟨h12, -⟩ := mem_waitingEngines.1 (List.mem_of_mem_head? he)
    refine ⟨_, exec_itemDispatch hu, ?_⟩
    rw [dispatch_queued ha hr he hi hroom]
    refine ⟨startItem_engine _ _ _ h12, rfl, rfl, rfl, rfl, rfl, ?_, ?_⟩
    · exact if_neg (by simp [hretry])
    · simp [startItem_flows, hretry]
  case retry =>
    intro dt s u e n x hu ha hr
    exact ⟨_, exec_itemDispatch hu, by rw [dispatch_retry ha hr]; exact ⟨rfl, rfl, rfl, rfl⟩⟩
  case stalled =>
    intro dt s u hu ha hr he hi hfull
    obtain ⟨e, he⟩ := Option.isSome_iff_exists.1 he
    obtain ⟨i, hi⟩ := Option.isSome_iff_exists.1 hi
    rw [exec_itemDispatch hu, dispatch_stalled ha hr he hi hfull]
  case unaligned =>
    intro dt s u hu ha
    rw [exec_itemDispatch hu, dispatch_unaligned ha]
  case arrives =>
    intro dt s u e n hu hs hn hd
    rw [exec_itemArrival hu, itemArrival_due hs hn hd]
  case early =>
    intro dt s u e n hu hs hn hd
    rw [exec_itemArrival hu, itemArrival_early hs hn hd]
  case kept =>
    intro dt s u e n accs r hu he hs hn hr hd
    obtain ⟨t, hwork, ht⟩ := engineRelease_kept accs hs hn hr he hd
    have hidle := engineIdle_engine he .waiting u
    have hrob : t.kernel.rob = u.kernel.rob := (congrArg KernelSt.rob hwork.kernel :)
    have hqueue : t.kernel.queue = u.kernel.queue := (congrArg KernelSt.queue hwork.kernel :)
    have hposts : t.kernel.posts = u.kernel.posts := (congrArg KernelSt.posts hwork.kernel :)
    have hflows : t.kernel.flows = u.kernel.flows := (congrArg KernelSt.flows hwork.kernel :)
    refine ⟨_, exec_engineRelease hu, ?_⟩
    rw [ht]
    refine ⟨congrArg (tabSet n _) hrob, ?_, ?_, ?_, ?_, hqueue, hposts, hflows⟩
    · exact hwork.state.trans (congrArg Engine.state hidle)
    · exact hwork.entry.trans (congrArg Engine.entry hidle)
    · exact hwork.input.trans (congrArg Engine.input hidle)
    · exact fun h => hwork.wbuf (by rwa [hidle])
  case discarded =>
    intro dt s u e n accs r hu hs hn hr hd
    refine ⟨_, exec_engineRelease hu, ?_⟩
    rw [engineRelease_discarded accs hs hn hr hd]
    exact ⟨rfl, rfl, rfl, rfl⟩
  case fenced =>
    intro dt s u n r hu hr hs
    exact ⟨_, exec_releaseFenceDone hu, fenceDone_released hr hs⟩
  case unfenced =>
    intro dt s u n hu h
    rw [exec_releaseFenceDone hu, fenceDone_stays h]
  case part =>
    intro dt s u flow n r hu hfirst hf hq hlast
    refine ⟨_, exec_itemPosted hu, ?_⟩
    rw [postItem_fenced hfirst hf hq, if_neg fun h => hlast h.1]
    exact ⟨rfl, rfl, rfl, rfl, rfl, entryPosted_copy flow n r u⟩
  case flow =>
    rintro dt s u flow n r o hu hfirst hf hq hpart hparts hposts ho htab
    obtain ⟨-, rfl⟩ := firstEntry_mem hfirst
    have hps := postedParts_first hposts
    obtain ⟨hrob, hcount, -⟩ := flowPost_kernel r.item [r.part] (entryPosted r.item.flow n r u)
    have hslot := flowPost_slot r.item [r.part] (entryPosted r.item.flow n r u)
    refine ⟨_, exec_itemPosted hu, ?_⟩
    rw [postItem_fenced hfirst hf hq, hps, if_pos ⟨by rw [hpart, hparts], by rw [hparts]; rfl⟩]
    refine ⟨hrob, hcount, hslot.trans ?_⟩
    have hfailed : r.item.tableFailed (entryPosted r.item.flow n r u) = false := Item.tableFailed_eq_false htab
    simp [Item.slot, hfailed, combineParts_single, RobEntry.part, ho, hparts]
  case waits =>
    intro dt s u flow n r hu hfirst h
    rw [exec_itemPosted hu, postItem_stays hfirst h]
  case deadline =>
    intro z tick s a _ ha hd hl
    have hkernel := budgetDeadline_kernel ha hd
    refine ⟨_, rfl, budgetDeadline_overrun ha hd hl, fun i hi => ?_, fun n r hr => ?_⟩
    · have hdropped := dropItems_queue (hkernel ▸ hi)
      simpa [← not_and_or] using hdropped
    · have hdropped := dropItems_rob (hkernel ▸ hr)
      simpa [← not_and_or] using hdropped
  case slot =>
    intro i ps s h
    rw [flowPost_slot, Item.slot, Item.tableFailed_eq_false h]
    rfl
  case failed =>
    intro i ps s t ht hf
    refine ⟨_, flowPost_slot i ps s, ?_⟩
    simp [Item.slot, Item.tableFailed, ht, hf]

end Sys2Proof.Machine
end

section
/-! SUPPORT. What a change of mode leaves of the host part: everything but the interrupt causes and their messages, unless it enters DORMANT,
which still leaves the journal (R454, R459, R467, R486, R575). -/

namespace Sys2Proof.Machine

/-! ### Operations that leave the host part alone -/

@[simp] theorem sendA_host (k type : Nat) (payload : List Byte) (s : State) : (sendA k type payload s).host = s.host := by
  unfold sendA
  split <;> rfl

@[simp] theorem sendB_host (k type : Nat) (payload : List Byte) (s : State) : (sendB k type payload s).host = s.host := by
  unfold sendB
  extract_lets
  split <;> rfl

@[simp] theorem mirrorItem_host (code : Nat) (content : List Byte) (s : State) : (mirrorItem code content s).host = s.host := by
  unfold mirrorItem
  split
  · exact foldl_keeps_read State.host (fun s p => sendB_host 3 0x07 p s) _ s
  · rfl

@[simp] theorem sendHeartbeat_host (k : Nat) (yield : Bool) (s : State) : (sendHeartbeat k yield s).host = s.host := by
  unfold sendHeartbeat
  extract_lets
  split
  · exact sendA_host ..
  · rfl

@[simp] theorem yieldAll_host (s : State) : (yieldAll s).host = s.host :=
  foldl_keeps_read State.host (fun s k => sendHeartbeat_host k true s) _ s

@[simp] theorem leaveWaits_host (n : Nat) (s : State) : (leaveWaits n s).host = s.host := rfl

@[simp] theorem refreshSession_host (n : Nat) (s : State) : (refreshSession n s).host = s.host := by
  unfold refreshSession
  extract_lets
  split
  · split
    · rfl
    · split <;> rfl
  · split
    · rfl
    · split <;> rfl
  · rfl

@[simp] theorem refreshSessions_host (s : State) : (refreshSessions s).host = s.host :=
  foldl_keeps_read State.host (fun s n => refreshSession_host n s) _ s

@[simp] theorem dropTcp_host (n : Nat) (reset : Bool) (s : State) : (dropTcp n reset s).host = s.host := by
  unfold dropTcp
  extract_lets
  split
  · rfl
  · exact refreshSession_host _ _

@[simp] theorem closeAllTcp_host (s : State) : (closeAllTcp s).host = s.host :=
  foldl_keeps_read State.host (fun s n => dropTcp_host n false s) _ s

@[simp] theorem stopWan_host (s : State) : (stopWan s).host = s.host := rfl

@[simp] theorem unpair_host (s : State) : (unpair s).host = s.host := rfl

@[simp] theorem updatePins_host (s : State) : (updatePins s).host = s.host := by
  unfold updatePins
  extract_lets
  split <;> rfl

@[simp] theorem almArm_host (f : AlmDef → Bool) (s : State) : (almArm f s).host = s.host := updatePins_host _

@[simp] theorem sweepAreas_host (z : Nat) (s : State) : (sweepAreas z s).host = s.host :=
  foldl_keeps_read State.host (g := fun s (a : Area) => dropArea z a.tick s) (fun _ _ => rfl) _ s

@[simp] theorem stopTicking_host (keep : Bool) (z : Nat) (s : State) : (stopTicking keep z s).host = s.host := by
  unfold stopTicking
  extract_lets
  split
  · rfl
  · rw [refreshSessions_host, almArm_host, sweepAreas_host]
    exact foldl_keeps_read State.host (g := fun s (a : Area) => dropPosts z a.tick s) (fun _ _ => rfl) _ _

@[simp] theorem alignLeave_host (s : State) : (alignLeave s).host = s.host :=
  foldl_keeps_read State.host (fun s z => stopTicking_host false z s) _ s

@[simp] theorem beginTicking_host (z : Nat) (s : State) : (beginTicking z s).host = s.host :=
  (refreshSessions_host _).trans (almArm_host _ _)

@[simp] theorem mirrorAnchor_host (z : Nat) (s : State) : (mirrorAnchor z s).host = s.host := mirrorItem_host ..

@[simp] theorem zoneBegin_host (z : Nat) (s : State) : (zoneBegin z s).host = s.host :=
  (mirrorAnchor_host _ _).trans (beginTicking_host _ _)

@[simp] theorem alignEnter_host (s : State) : (alignEnter s).host = s.host :=
  (foldl_keeps_read State.host (fun s z => zoneBegin_host z s) _ _).trans (almArm_host _ s)

@[simp] theorem energyFollow_host (s : State) : (energyFollow s).host = s.host := rfl

@[simp] theorem standbyActive_host (s : State) : (standbyActive s).host = s.host :=
  (foldl_keeps_read State.host (fun s z => mirrorAnchor_host z s) _ _).trans (refreshSessions_host _)

@[simp] theorem startChains_host (p : Nat → Bool) (s : State) : (startChains p s).host = s.host := by
  unfold startChains
  extract_lets started
  refine foldl_keeps_read State.host (fun s i => ?_) (List.range 24) s
  dsimp only
  split <;> rfl

@[simp] theorem frontStart_host (s : State) : (frontStart s).host = s.host := startChains_host _ s

@[simp] theorem mirrorAfresh_host (s : State) : (mirrorAfresh s).host = s.host := rfl

@[simp] theorem driveFaultN_host (s : State) : (driveFaultN s).host = s.host := by
  unfold driveFaultN
  extract_lets
  split <;> rfl

@[simp] theorem modeLeave_host (m : Mode) (yield : Bool) (s : State) : (modeLeave m yield s).host = s.host := by
  simp only [modeLeave]
  split_ifs <;> simp

/-! ### Causes and their messages -/

/-- The host part without what a cause of an interrupt writes (R459, R460). -/
def State.hostBase (s : State) : HostSt := { s.host with cause := 0, msix := Vector.replicate 32 {} }

theorem hostBase_of_host {s t : State} (h : t.host = s.host) : t.hostBase = s.hostBase := by rw [State.hostBase, h]; rfl

theorem iface_of_hostBase {s t : State} (h : t.hostBase = s.hostBase) (i : Nat) : t.iface i = s.iface i :=
  (congrArg (fun x : HostSt => if i = 0 then x.ring else if i = 1 then x.mgmt else x.svc) h :)

theorem journal_of_hostBase {s t : State} (h : t.hostBase = s.hostBase) : t.host.journal = s.host.journal :=
  (congrArg HostSt.journal h :)

@[simp] theorem vecEvent_hostBase (v : Nat) (s : State) : (vecEvent v s).hostBase = s.hostBase := by
  unfold vecEvent
  extract_lets
  split
  · rfl
  · split
    · split <;> rfl
    · rfl

@[simp] theorem raiseCause_hostBase (n : Nat) (s : State) : (raiseCause n s).hostBase = s.hostBase := by
  unfold raiseCause
  extract_lets
  split
  · exact vecEvent_hostBase _ _
  · rfl

@[simp] theorem setMode_hostBase (m : Mode) (s : State) : (setMode m s).hostBase = s.hostBase := by
  unfold setMode
  split
  · rfl
  · exact raiseCause_hostBase _ _

@[simp] theorem notePartner_hostBase (s t : State) : (notePartner s t).hostBase = t.hostBase := by
  unfold notePartner
  split
  · rfl
  · exact raiseCause_hostBase _ _

@[simp] theorem noteServo_hostBase (s t : State) : (noteServo s t).hostBase = t.hostBase := by
  unfold noteServo
  split
  · rfl
  · exact raiseCause_hostBase _ _

@[simp] theorem reselect_hostBase (s : State) : (reselect s).hostBase = s.hostBase := by
  unfold reselect
  extract_lets
  split
  · rfl
  · exact noteServo_hostBase _ _

/-! ### The change of mode -/

/-- The entry into a mode: what ends and starts on the way leaves the host part; then the clocks, the ports and the front end follow. -/
theorem modeEnter_eq (old m : Mode) (s : State) : ∃ s1 : State, s1.host = s.host ∧ modeEnter old m s =
    if m = .dormant then reselect (dormantEnter s1) else if old = .dormant then reselect s1
    else if old = .boot then reselect (frontStart s1) else s1 := by
  refine ⟨_, ?_, rfl⟩
  split_ifs <;> simp

theorem modeEnter_hostBase {old m : Mode} (hm : m ≠ .dormant) (s : State) : (modeEnter old m s).hostBase = s.hostBase := by
  obtain ⟨s1, h1, he⟩ := modeEnter_eq old m s
  rw [he, if_neg hm]
  split_ifs
  · exact (reselect_hostBase _).trans (hostBase_of_host h1)
  · exact (reselect_hostBase _).trans (hostBase_of_host ((frontStart_host _).trans h1))
  · exact hostBase_of_host h1

theorem changeMode_hostBase_of_enter {m : Mode} {yield : Bool} {s : State} (hm : s.sys.mode ≠ m) :
    (changeMode m yield s).hostBase = (modeEnter s.sys.mode m (setMode m (modeLeave m yield s))).hostBase := by
  rw [changeMode, if_neg hm, notePartner_hostBase]
  exact hostBase_of_host (by simp)

theorem changeMode_hostBase {m : Mode} (hm : m ≠ .dormant) (yield : Bool) (s : State) : (changeMode m yield s).hostBase = s.hostBase := by
  by_cases h : s.sys.mode = m
  · rw [changeMode, if_pos h]
  · rw [changeMode_hostBase_of_enter h, modeEnter_hostBase hm, setMode_hostBase]
    exact hostBase_of_host (modeLeave_host ..)

/-! ### The entry into DORMANT: its interface resets leave the journal -/

@[simp] theorem updAbortEffect_host (s : State) : (updAbortEffect s).host = s.host := by
  unfold updAbortEffect
  extract_lets bundle _ b s1
  have h1 : s1.host = s.host := by
    clear_value bundle
    unfold s1
    cases bundle with
    | some i => rfl
    | none => dsimp only; split <;> simp
  exact h1

@[simp] theorem ifReset_journal (i : Nat) (s : State) : (ifReset i s).host.journal = s.host.journal := by
  unfold ifReset
  extract_lets _ s1 _ s2
  have h : s2.host.journal = s.host.journal := State.setIface_host_journal s i _
  split
  · split
    · exact (congrArg HostSt.journal (updAbortEffect_host s2)).trans h
    · exact h
  · exact h

@[simp] theorem ringOff_host (r : Nat) (s : State) : (ringOff r s).host = s.host := by
  unfold ringOff
  extract_lets x s1
  exact foldl_keeps_read State.host (g := fun s f => classDrop f.cls s) (fun _ _ => rfl) x.queue s

@[simp] theorem ringsDown_host (s : State) : (ringsDown s).host = s.host := by
  refine foldl_keeps_read State.host (fun s r => ?_) (List.range 8) s
  exact ringOff_host r s

theorem pcieDown_journal (s : State) : (pcieDown s).host.journal = s.host.journal := by
  rw [pcieDown, ifReset_journal, ringsDown_host]
  rfl

theorem pcieOff_journal (s : State) : (pcieOff s).host.journal = s.host.journal := by
  unfold pcieOff
  split
  · dsimp only
    exact pcieDown_journal s
  · rfl

theorem mgmtDown_journal (s : State) : (mgmtDown s).host.journal = s.host.journal := by
  unfold mgmtDown
  split
  · rw [ifReset_journal]
  · rfl

theorem linkDown_journal (k : Nat) (s : State) : (linkDown k s).host.journal = s.host.journal :=
  journal_of_hostBase ((notePartner_hostBase _ _).trans (hostBase_of_host rfl))

theorem linksDown_journal (ks : List Nat) (s : State) : (ks.foldl (fun s k => linkDown k s) s).host.journal = s.host.journal :=
  foldl_keeps_read (fun s => s.host.journal) (fun s k => linkDown_journal k s) ks s

theorem dormantEnter_journal (s : State) : (dormantEnter s).host.journal = s.host.journal := by
  unfold dormantEnter
  extract_lets s2 s3
  have h2 : s2.host.journal = s.host.journal := by
    unfold s2
    rw [linksDown_journal, mgmtDown_journal, pcieOff_journal]
    rfl
  clear_value s2
  exact h2

theorem modeEnter_dormant_journal (old : Mode) (s : State) : (modeEnter old .dormant s).host.journal = s.host.journal := by
  obtain ⟨s1, h1, he⟩ := modeEnter_eq old .dormant s
  calc (modeEnter old .dormant s).host.journal
    _ = (reselect (dormantEnter s1)).host.journal := by rw [he, if_pos rfl]
    _ = (dormantEnter s1).host.journal := journal_of_hostBase (reselect_hostBase _)
    _ = s1.host.journal := dormantEnter_journal s1
    _ = s.host.journal := congrArg HostSt.journal h1

/-- A change of mode leaves the journal (R486, R575). -/
theorem changeMode_journal (m : Mode) (yield : Bool) (s : State) : (changeMode m yield s).host.journal = s.host.journal := by
  by_cases hd : m = .dormant
  · by_cases h : s.sys.mode = m
    · rw [changeMode, if_pos h]
    · subst hd
      exact (journal_of_hostBase (changeMode_hostBase_of_enter h)).trans ((modeEnter_dormant_journal _ _).trans
        ((journal_of_hostBase (setMode_hostBase ..)).trans (congrArg HostSt.journal (modeLeave_host ..))))
  · exact journal_of_hostBase (changeMode_hostBase hd yield s)

/-- What a change to another mode does to `sys` (R77, R457). -/
theorem changeMode_sys {m : Mode} (yield : Bool) {s : State} (h : s.sys.mode ≠ m) : (changeMode m yield s).sys = { s.sys with
    mode := m, prevMode := s.sys.mode, modeChanges := min (s.sys.modeChanges + 1) 65535
    faultLow := decide (s.sys.phase = .running) && decide (m = .safe) } := by
  rw [changeMode, if_neg h, notePartner_sys, driveFaultN_sys, updatePins_sys, refreshSessions_sys, mirrorAfresh_sys, modeEnter_sys, setMode_sys,
    modeLeave_sys, if_neg h]

theorem changeMode_phase (m : Mode) (yield : Bool) (s : State) : (changeMode m yield s).sys.phase = s.sys.phase := by
  by_cases h : s.sys.mode = m
  · rw [changeMode, if_pos h]
  · rw [changeMode_sys yield h]

end Sys2Proof.Machine
end

section
/-! SUPPORT. SYS_SET_MODE, SYS_RESET and SYS_COMMIT: the effect of each target, the end of a command whose reply is discarded, and the settings
record that the end of a command leaves (R468, R484, R571, R574, R581, R582, R585). -/

namespace Sys2Proof.Machine

/-! ### A command that resets its own interface -/

@[simp] theorem State.modIface_iface_self (s : State) (i : Nat) (g : Iface → Iface) : (s.modIface i g).iface i = g (s.iface i) := by
  unfold State.modIface State.setIface State.iface
  split
  · rfl
  · split <;> rfl

theorem protocolFrame.sys {v t : State} (h : protocolFrame v t) : t.sys = v.sys := by
  obtain ⟨-, -, -, -, -, -, -, -, -, -, -, -, -, -, -, hsys, -⟩ := h
  exact hsys

/-- What `protocolFrame` says of the counts of an interface. -/
theorem protocolFrame.cDiscarded {v t : State} (h : protocolFrame v t) (i : Nat) : (t.iface i).cDiscarded = (v.iface i).cDiscarded := by
  obtain ⟨-, -, -, -, -, -, -, -, -, -, -, -, -, -, -, -, -, -, -, hhost⟩ := h
  have hring : t.host.ring.cDiscarded = v.host.ring.cDiscarded := (congrArg (fun x : HostSt => x.ring.cDiscarded) hhost :)
  have hmgmt : t.host.mgmt.cDiscarded = v.host.mgmt.cDiscarded := (congrArg (fun x : HostSt => x.mgmt.cDiscarded) hhost :)
  have hsvc : t.host.svc.cDiscarded = v.host.svc.cDiscarded := (congrArg (fun x : HostSt => x.svc.cDiscarded) hhost :)
  unfold State.iface
  split
  · exact hring
  · split
    · exact hmgmt
    · exact hsvc

/-- A command that closes with its reply discarded: the entry, the count, and nothing else. -/
theorem closeCommand_mute (c : QCmd) (j : Bool) (status offset : Nat) (data : List Byte) (s : State) :
    (closeCommand c j true status offset data s).host.executing = none ∧ (closeCommand c j true status offset data s).sys = s.sys
      ∧ ((closeCommand c j true status offset data s).iface c.ifc).cDiscarded = inc (s.iface c.ifc).cDiscarded := by
  unfold closeCommand
  extract_lets s1 _ s2
  have h1 : protocolFrame s s1 := by
    unfold s1
    split
    · exact addJournal_frame ..
    · exact .refl s
  simp only [if_true, discardReply]
  refine ⟨?_, ?_, ?_⟩
  · exact State.setIface_host_executing ..
  · exact (State.modIface_sys ..).trans h1.sys
  · rw [State.modIface_iface_self]
    exact congrArg inc (h1.cDiscarded c.ifc)

/-- A command row whose body answers OK with its own interface reset: the reply is discarded (R468). -/
theorem discarded_of_run (d : Cmd) (dt : Ps) (q : Packet) {s u : State} (hu : u = arrived q (s.elapse dt))
    (hr : ready (s.elapse dt) q d.opcode = true) (hm : d.modes u.sys.mode = true) (hl : d.lenOk q.params = true)
    (hc : firstBad (d.checks u q.params) = none) {data : List Byte} {v : State} (hrun : d.run u q.ifc q.params = .ok data v)
    (hp : v.sys.phase = .running) (hj : journalMustCommit v = false) (he : (v.iface q.ifc).epoch ≠ (u.iface q.ifc).epoch) :
    ∃ t, command d dt q s = .next t ∧ t.sys = v.sys ∧ t.host.executing = none
      ∧ (t.iface q.ifc).cDiscarded = inc (v.iface q.ifc).cDiscarded := by
  subst hu
  rw [(arrived_parts q _).1] at hm
  have ho := (cmdOutcome_arrived hr hm hl hc).trans hrun
  have hf := noteSetting_frame (d.key q.params) d.opcode q.params (arrived q (s.elapse dt)) v
  have hjn : journalMustCommit (noteSetting (d.key q.params) d.opcode q.params (arrived q (s.elapse dt)) v) = false := hj
  obtain ⟨hx, hs, hd⟩ := closeCommand_mute (packetCmd d q) (d.journaled q.params data) stOk 0 data
    (noteSetting (d.key q.params) d.opcode q.params (arrived q (s.elapse dt)) v)
  refine ⟨_, rfl, ?_⟩
  rw [runCommand_ready hr]
  simp only [executeCommand, packetCmd, ho, hp, bne_self_eq_false, finishCommand, hjn, Bool.and_false, Bool.false_eq_true, if_false,
    bne_iff_ne.2 he]
  exact ⟨hs.trans hf.sys, hx, hd.trans (congrArg inc (hf.cDiscarded _))⟩

/-! ### SYS_SET_MODE -/

/-- The parameters that SYS_SET_MODE takes (R585). -/
theorem setMode_checks {u : State} {p : List Byte} {n : Nat} (hn : fld p 0 1 = n) (h : n = 0xFF ∨ 1 ≤ n ∧ n ≤ 5)
    (h9 : n = 5 → fld p 9 1 = 1 ∨ fld p 9 1 = 2) : firstBad (cmdSysSetMode.checks u p) = none := by
  have h0 : (inRange (fld p 0 1) 1 5 || fld p 0 1 == 0xFF) = true := by
    simpa [inRange_iff, hn, or_comm] using h
  have hwake : (fld p 0 1 != 5 || inRange (fld p 9 1) 1 2) = true := by
    simp only [hn, Bool.or_eq_true, bne_iff_ne, inRange_iff]
    omega
  simp [cmdSysSetMode, h0, hwake]

theorem setModeCommand_read {u : State} {p : List Byte} (h : fld p 0 1 = 0xFF) : setModeCommand u p = .ok (modeReply u) u := by
  simp [setModeCommand, h]

theorem setModeCommand_safe {u : State} {p : List Byte} {n : Nat} (hn : fld p 0 1 = n) (h5 : n ≤ 5) (hm : u.sys.mode = .safe) :
    setModeCommand u p = .err stWrongMode := by
  have hff : fld p 0 1 ≠ 0xFF := by omega
  simp [setModeCommand, hff, hm]

theorem targetMode_ne_safe (n : Nat) : targetMode n ≠ .safe := by
  unfold targetMode
  split <;> nofun

theorem setModeCommand_same {u : State} {p : List Byte} {n : Nat} (hn : fld p 0 1 = n) (h5 : n ≤ 5) (hm : u.sys.mode = targetMode n) :
    setModeCommand u p = .ok (modeReply u) u := by
  have hff : fld p 0 1 ≠ 0xFF := by omega
  have hs : u.sys.mode ≠ .safe := hm ▸ targetMode_ne_safe n
  subst hn
  rw [setModeCommand, if_neg hff, if_neg hs, if_pos hm]

theorem setModeCommand_active {u : State} {p : List Byte} (hn : fld p 0 1 = 2) (hm : u.sys.mode = .commission ∨ u.sys.mode = .service) :
    setModeCommand u p = .ok (modeReply (requestActive u)) (requestActive u) := by
  obtain hm | hm := hm <;> simp [setModeCommand, hn, targetMode, hm]

theorem setModeCommand_standby {u : State} {p : List Byte} (hn : fld p 0 1 = 3) (hm : u.sys.mode = .commission) :
    setModeCommand u p = if partnerActive u then
      .ok (modeReply (changeMode .standby false (setPair .standby u))) (changeMode .standby false (setPair .standby u)) else .err stBusy := by
  simp [setModeCommand, hn, targetMode, hm]

theorem setModeCommand_standby_active {u : State} {p : List Byte} (hn : fld p 0 1 = 3) (hm : u.sys.mode = .active) :
    setModeCommand u p = .bad 0 := by
  simp [setModeCommand, hn, targetMode, hm]

theorem commandMode_of_not_listen {m : Mode} {s : State} (h : s.pair.state ≠ .listen) : commandMode m s = changeMode m true s := by
  rw [commandMode, if_neg h]

theorem setModeCommand_commission {u : State} {p : List Byte} (hn : fld p 0 1 = 1)
    (hm : u.sys.mode = .active ∨ u.sys.mode = .standby ∨ u.sys.mode = .service) (hp : u.pair.state ≠ .listen) :
    setModeCommand u p = .ok (modeReply (changeMode .commission true u)) (changeMode .commission true u) := by
  obtain hm | hm | hm := hm <;> simp [setModeCommand, hn, targetMode, hm, commandMode_of_not_listen hp]

theorem setModeCommand_service {u : State} {p : List Byte} (hn : fld p 0 1 = 4)
    (hm : u.sys.mode = .commission ∨ u.sys.mode = .active ∨ u.sys.mode = .standby) (hp : u.pair.state ≠ .listen) :
    setModeCommand u p = .ok (modeReply (changeMode .service true u)) (changeMode .service true u) := by
  obtain hm | hm | hm := hm <;> simp [setModeCommand, hn, targetMode, hm, commandMode_of_not_listen hp]

/-- The wake settings that SYS_SET_MODE gives a device on its way to DORMANT (R574). -/
def withWake (p : List Byte) (s : State) : State :=
  { s with sys := { s.sys with wakeTime := fld p 1 6, wakeMask := BitVec.ofNat 16 (fld p 7 2), wakeActive := decide (fld p 9 1 = 2) } }

theorem setModeCommand_dormant {u : State} {p : List Byte} (hn : fld p 0 1 = 5)
    (hm : u.sys.mode = .commission ∨ u.sys.mode = .active ∨ u.sys.mode = .standby ∨ u.sys.mode = .service) (hp : u.pair.state ≠ .listen) :
    setModeCommand u p = .ok (modeReply (changeMode .dormant true (withWake p u))) (changeMode .dormant true (withWake p u)) := by
  have hff : fld p 0 1 ≠ 0xFF := by omega
  have hother : u.sys.mode ≠ .safe ∧ u.sys.mode ≠ targetMode (fld p 0 1) := by
    rw [hn]
    obtain hm | hm | hm | hm := hm <;> simp [hm, targetMode]
  have hlisten : (withWake p u).pair.state ≠ .listen := hp
  rw [setModeCommand, if_neg hff, if_neg hother.1, if_neg hother.2, hn, ← commandMode_of_not_listen hlisten]
  rfl

section
variable {dt : Ps} {q : Packet} {s u : State} (hu : u = arrived q (s.elapse dt)) (hr : ready (s.elapse dt) q 0x0102 = true)
  (hl : q.params.length = 10) (hc : firstBad (cmdSysSetMode.checks u q.params) = none)
include hu hr hl hc

theorem sysSetMode_executed {data : List Byte} {v : State} (hrun : setModeCommand u q.params = .ok data v)
    (hp : v.sys.phase = u.sys.phase) (hj : v.host.journal = u.host.journal) (he : (v.iface q.ifc).epoch = (u.iface q.ifc).epoch) :
    executed (exec (.sysSetMode dt q) s) q 0x0102 data true v := by
  refine executed_of_run cmdSysSetMode dt q s u hu hr rfl (beq_iff_eq.2 hl) hc data v hrun true rfl ?_ ?_ he
  · subst hu
    exact hp.trans (arrived_running hr)
  · subst hu
    exact journalMustCommit_of_journal hj (arrived_journal hr)

/-- A move to a mode in which the interfaces run on. -/
theorem sysSetMode_changed {m : Mode} {yield : Bool} {w : State} (hm : m ≠ .dormant) (hh : w.host = u.host) (hs : w.sys = u.sys)
    (hrun : setModeCommand u q.params = .ok (modeReply (changeMode m yield w)) (changeMode m yield w)) :
    executed (exec (.sysSetMode dt q) s) q 0x0102 (modeReply (changeMode m yield w)) true (changeMode m yield w) := by
  have hb := (changeMode_hostBase hm yield w).trans (hostBase_of_host hh)
  refine sysSetMode_executed hu hr hl hc hrun ?_ (journal_of_hostBase hb) (congrArg Iface.epoch (iface_of_hostBase hb _))
  rw [changeMode_phase, hs]

theorem sysSetMode_discarded {data : List Byte} {v : State} (hrun : setModeCommand u q.params = .ok data v)
    (hp : v.sys.phase = u.sys.phase) (hj : v.host.journal = u.host.journal) (he : (v.iface q.ifc).epoch ≠ (u.iface q.ifc).epoch) :
    ∃ t, exec (.sysSetMode dt q) s = .next t ∧ t.sys = v.sys ∧ t.host.executing = none
      ∧ (t.iface q.ifc).cDiscarded = inc (v.iface q.ifc).cDiscarded := by
  refine discarded_of_run cmdSysSetMode dt q hu hr rfl (beq_iff_eq.2 hl) hc hrun ?_ ?_ he
  · subst hu
    exact hp.trans (arrived_running hr)
  · subst hu
    exact journalMustCommit_of_journal hj (arrived_journal hr)

theorem sysSetMode_refused {status offset : Nat} (hs : status ≠ stOk) (he : status ≠ stBadEpoch)
    (hrun : setModeCommand u q.params = if status = stBadParam then .bad offset else .err status) :
    refusedWith (exec (.sysSetMode dt q) s) q 0x0102 status (if status = stBadParam then offset else 0xFFFF) u := by
  refine refusedWith_of_outcome cmdSysSetMode dt q s u hu hr status offset hs he ?_
  subst hu
  exact (cmdOutcome_arrived hr rfl (beq_iff_eq.2 hl) hc).trans hrun

end

/-! ### The settings record at the end of a command -/

/-- The running settings with SETTINGS_DIRTY. -/
def State.settingsRecord (s : State) : List Setting × Bool := (s.host.settings, s.host.dirty)

theorem settingsRecord_of_hostBase {s t : State} (h : t.hostBase = s.hostBase) : t.settingsRecord = s.settingsRecord :=
  (congrArg (fun x : HostSt => (x.settings, x.dirty)) h :)

theorem rqWriteWord_hostBase (n : Nat) (w : Word32) (f l : Option Nat) (s : State) : (rqWriteWord n w f l s).2.hostBase = s.hostBase := by
  unfold rqWriteWord
  dsimp only
  split
  · exact raiseCause_hostBase _ _
  · rfl

theorem rqItemWords_hostBase (n l i : Nat) (ws : List Word32) (s : State) : (rqItemWords n l i ws s).2.hostBase = s.hostBase := by
  induction ws generalizing i s with
  | nil => rfl
  | cons w ws ih =>
    unfold rqItemWords
    generalize (if i = 0 then some l else none) = f
    generalize (if ws.isEmpty = true then some 4 else none) = la
    dsimp only
    split
    · exact rqWriteWord_hostBase n w f la s
    · split <;> exact (ih _ _).trans (rqWriteWord_hostBase n w f la s)

theorem routeEntry_settingsRecord (e : JEntry) (s : State) : (routeEntry e s).settingsRecord = s.settingsRecord := by
  unfold routeEntry
  split
  case h_1 => rfl
  case h_2 n _ =>
    have h : (rqItem n (jentryBytes e) s).2.settingsRecord = s.settingsRecord := settingsRecord_of_hostBase (rqItemWords_hostBase ..)
    generalize rqItem n (jentryBytes e) s = r at h ⊢
    dsimp only
    split <;> exact h

theorem addJournal_settingsRecord (c : QCmd) (status : Nat) (s : State) : (addJournal c status s).settingsRecord = s.settingsRecord := by
  unfold addJournal
  extract_lets e lost _ s1 s2
  have h1 : s1.settingsRecord = s.settingsRecord := rfl
  have h2 : s2.settingsRecord = s.settingsRecord := by
    unfold s2
    split
    · exact (settingsRecord_of_hostBase (raiseCause_hostBase causeJournal s1)).trans h1
    · rfl
  exact (settingsRecord_of_hostBase (hostBase_of_host (mirrorItem_host ..))).trans ((routeEntry_settingsRecord e s2).trans h2)

theorem closeCommand_direct_settingsRecord {c : QCmd} (j : Bool) (status offset : Nat) (data : List Byte) (s : State) (hc : c.origin = .direct) :
    (closeCommand c j false status offset data s).settingsRecord = s.settingsRecord := by
  unfold closeCommand
  extract_lets s1 _ s2
  have h2 : s2.settingsRecord = s.settingsRecord := by
    change s1.settingsRecord = _
    unfold s1
    split
    · exact addJournal_settingsRecord ..
    · rfl
  rw [hc, ← h2]
  simp [sendReply, State.settingsRecord, State.modIface]

/-! ### SYS_COMMIT -/

/-- No entry of a committed journal waits (R485). -/
theorem commitJournal_committed (s : State) : journalMustCommit (commitJournal s) = false := by
  simp only [journalMustCommit, commitJournal, List.getLast?_map, Bool.and_eq_false_iff]
  right
  cases s.host.journal.getLast? <;> rfl

@[simp] theorem commitSettings_host (run : Bool) (s : State) : (commitSettings run s).host = s.host := by
  unfold commitSettings setRunBank
  dsimp only
  split <;> rfl

/-- What SYS_COMMIT leaves outside RETURN (R581, R582). -/
def committed (run : Bool) (s : State) : State :=
  { commitJournal (commitSettings run s) with host := { (commitJournal (commitSettings run s)).host with dirty := false } }

theorem committed_settingsRecord (run : Bool) (s : State) : (committed run s).settingsRecord = (s.host.settings, false) := by
  simp [committed, State.settingsRecord, commitJournal]

/-- What the reply of SYS_COMMIT gives outside RETURN (R581, R582). -/
def commitReply (s : State) : List Byte :=
  be 4 (storedForm s).length ++ be 4 (crc32c (storedForm s)).toNat ++ be 2 (uncommitted s.host.journal)

theorem commandComplete_commit {u : State} {c : QCmd} {run : Bool} (hl : u.sys.lifecycle ≠ .return)
    (he : u.host.executing = some { cmd := c, op := .commit run, mute := false }) :
    commandComplete true u = closeCommand c true false stOk 0 (commitReply u) (committed run u) := by
  have hj : journalMustCommit (committed run u) = false := commitJournal_committed (commitSettings run u)
  simp only [committed] at hj
  simp [commandComplete, he, commitEnd, hl, finishCommand, hj, committed, commitReply]

/-- A mode that does not take a command refuses it before its length is looked at (R470). -/
theorem cmdOutcome_wrongMode {d : Cmd} {dt : Ps} {q : Packet} {s u : State} (hu : u = arrived q (s.elapse dt))
    (hr : ready (s.elapse dt) q d.opcode = true) (hm : d.modes u.sys.mode = false) :
    cmdOutcome d q.ifc q.params u = .err stWrongMode := by
  obtain ⟨-, -, -, -, hlife, -⟩ := ready_parts hr
  have hsys : u.sys = (s.elapse dt).sys := by rw [hu, (arrived_parts q _).1]
  rw [← hsys] at hlife
  simp only [cmdOutcome, hlife, hm, Bool.false_eq_true, if_false, Bool.not_false, if_true]

section
variable {dt : Ps} {q : Packet} {s u : State} (hu : u = arrived q (s.elapse dt)) (hr : ready (s.elapse dt) q 0x0104 = true)
  (hl : q.params.length = 1) (hp : fld q.params 0 1 ≤ 1) (hm : u.sys.mode ≠ .safe)
include hu hr hl hp hm

theorem sysCommit_executing (hfits : (storedForm u).length ≤ 7339776) :
    executing (exec (.sysCommit dt q) s) (.commit (fld q.params 0 1 = 1)) u := by
  have hroom : ¬ settingsArea < (storedForm u).length + Config.copyHeader.val := by
    have := Config.copyHeader.isLt
    simp only [settingsArea]
    omega
  refine executing_of_run cmdSysCommit dt q s u hu hr (bne_iff_ne.2 hm) (beq_iff_eq.2 hl) ?_ _ _ (if_neg hroom)
  simp [cmdSysCommit, inRange_iff, hp]

theorem sysCommit_noRoom (hbig : 7340032 < (storedForm u).length) :
    refusedWith (exec (.sysCommit dt q) s) q 0x0104 0x05 0xFFFF u := by
  have hroom : settingsArea < (storedForm u).length + Config.copyHeader.val := by
    simp only [settingsArea]
    omega
  refine refusedWith_of_outcome cmdSysCommit dt q s u hu hr stNoResource 0 nofun nofun ?_
  subst hu
  rw [(arrived_parts q _).1] at hm
  refine (cmdOutcome_arrived hr (bne_iff_ne.2 hm) (beq_iff_eq.2 hl) ?_).trans (if_pos hroom)
  simp [cmdSysCommit, inRange_iff, hp]

end

/-! ### The statement -/

/-- Settles O5: `changeMode_sys` is the mode register; each target is its equation of `setModeCommand`, run through `sysSetMode_executed`
with what `changeMode` leaves of the host part; the end of SYS_COMMIT is `commandComplete_commit`. -/
theorem modeAndCommitCommandsTakeEffect : Obligations.ModeAndCommitCommandsTakeEffect := by
  unfold Obligations.ModeAndCommitCommandsTakeEffect
  refine ⟨fun m yield s => changeMode_sys yield, ⟨?read, ?same, ?safe, ?active, ?listen, ?listening, ?standby, ?noPartner, ?fromActive,
    ?commission, ?service, ?dormant, ?reset⟩, ?commit, ?noRoom, ?commitSafe, ?commitEnd⟩
  case read =>
    intro dt q s u hu hr hl hn
    exact sysSetMode_executed hu hr hl (setMode_checks hn (.inl rfl) (by omega)) (setModeCommand_read hn) rfl rfl rfl
  case same =>
    intro dt q s u n hu hr hl hn h1 h5 h9 hm
    exact sysSetMode_executed hu hr hl (setMode_checks hn (.inr ⟨h1, h5⟩) h9) (setModeCommand_same hn h5 hm) rfl rfl rfl
  case safe =>
    intro dt q s u n hu hr hl hn h1 h5 h9 hm
    exact sysSetMode_refused (offset := 0) hu hr hl (setMode_checks hn (.inr ⟨h1, h5⟩) h9) nofun nofun (setModeCommand_safe hn h5 hm)
  case active =>
    intro dt q s u hu hr hl hn hm hpair
    have hrun := setModeCommand_active hn hm
    have hreq : requestActive u = changeMode .active false u := by simp [requestActive, hpair]
    rw [hreq] at hrun
    exact sysSetMode_changed hu hr hl (setMode_checks hn (by omega) (by omega)) nofun rfl rfl hrun
  case listen =>
    intro dt q s u hu hr hl hn hm hpair hlisten
    have hrun := setModeCommand_active hn hm
    have hreq : requestActive u = { u with pair := { u.pair with state := .listen, listenFrom := u.now } } := by
      simp [requestActive, hpair, hlisten]
    rw [hreq] at hrun
    exact sysSetMode_executed hu hr hl (setMode_checks hn (by omega) (by omega)) hrun rfl rfl rfl
  case listening =>
    intro dt q s u hu hr hl hn hm hpair hlisten
    have hrun := setModeCommand_active hn hm
    have hreq : requestActive u = u := by simp [requestActive, hpair, hlisten]
    rw [hreq] at hrun
    exact sysSetMode_executed hu hr hl (setMode_checks hn (by omega) (by omega)) hrun rfl rfl rfl
  case standby =>
    rintro dt q s u v hu hr hl hn hm hpartner rfl
    exact sysSetMode_changed hu hr hl (setMode_checks hn (by omega) (by omega)) (w := setPair .standby u) nofun rfl rfl
      ((setModeCommand_standby hn hm).trans (if_pos hpartner))
  case noPartner =>
    intro dt q s u hu hr hl hn hm hpartner
    exact sysSetMode_refused (offset := 0) hu hr hl (setMode_checks hn (by omega) (by omega)) nofun nofun
      ((setModeCommand_standby hn hm).trans (if_neg (by simp [hpartner])))
  case fromActive =>
    intro dt q s u hu hr hl hn hm
    exact sysSetMode_refused (offset := 0) hu hr hl (setMode_checks hn (by omega) (by omega)) nofun nofun
      (setModeCommand_standby_active hn hm)
  case commission =>
    rintro dt q s u v hu hr hl hn hm hlisten rfl
    exact sysSetMode_changed hu hr hl (setMode_checks hn (by omega) (by omega)) nofun rfl rfl (setModeCommand_commission hn hm hlisten)
  case service =>
    rintro dt q s u v hu hr hl hn hm hlisten rfl
    exact sysSetMode_changed hu hr hl (setMode_checks hn (by omega) (by omega)) nofun rfl rfl (setModeCommand_service hn hm hlisten)
  case dormant =>
    rintro dt q s u v w hu hr hl hn rfl h1 h2 hm hlisten hv
    have hrun := setModeCommand_dormant hn hm hlisten
    have hc := setMode_checks (u := u) hn (by omega) (by omega)
    obtain rfl : v = changeMode .dormant true (withWake q.params u) := hv
    have hphase := changeMode_phase .dormant true (withWake q.params u)
    have hjournal := changeMode_journal .dormant true (withWake q.params u)
    split
    case isTrue he => exact sysSetMode_executed hu hr hl hc hrun hphase hjournal he
    case isFalse he =>
      obtain ⟨t, ht, hsys, hx, hd⟩ := sysSetMode_discarded hu hr hl hc hrun hphase hjournal he
      exact ⟨t, ht, by rw [hsys, changeMode_mode], hx, hd⟩
  case reset =>
    intro dt q s u hu hr hp
    refine executed_of_run cmdSysReset dt q s u hu hr rfl (by simp [cmdSysReset, lenIs, hp]) rfl [] _ rfl true rfl ?_ ?_ rfl
    · subst hu
      exact arrived_running hr
    · subst hu
      exact arrived_journal hr
  case commit => exact fun dt q s u hu hr hl hp hm => sysCommit_executing hu hr hl hp hm
  case noRoom => exact fun dt q s u hu hr hl hp hm => sysCommit_noRoom hu hr hl hp hm
  case commitSafe =>
    intro dt q s u hu hr hm
    exact refusedWith_of_outcome cmdSysCommit dt q s u hu hr stWrongMode 0 nofun nofun
      (cmdOutcome_wrongMode hu hr (by rw [hm]; rfl))
  case commitEnd =>
    rintro dt s u q run hu hruns hlife he
    have hexec : exec (.commandComplete dt true) s = .next (commandComplete true u) := by
      subst hu
      change execCommandComplete dt true s = _
      simp [execCommandComplete, hruns]
    obtain ⟨hframe, hout, hx, -⟩ := closeCommand_direct (packetCmd cmdSysCommit q) true stOk 0 (commitReply u) (committed run u) rfl
    have hrec := closeCommand_direct_settingsRecord (c := packetCmd cmdSysCommit q) true stOk 0 (commitReply u) (committed run u) rfl
    obtain ⟨hsettings, hdirty⟩ := Prod.mk.inj (hrec.trans (committed_settingsRecord run u))
    rw [replyBytes_ok] at hout
    refine ⟨_, hexec, ?_⟩
    rw [commandComplete_commit hlife he]
    exact ⟨hx, hdirty, hsettings, hframe, hout⟩

end Sys2Proof.Machine
end

section
/-! SUPPORT. Reset edges, the main supply, the reserve and the wake from DORMANT (R84, R86 to R89, R147, R537, R556, R573, R574, R576, R583,
R584). -/

namespace Sys2Proof.Machine

/-! ### What a reset wipes -/

/-- The system registers and the time, which a cut burn leaves alone, as do the front end and the energy unit on their way into RESERVE. -/
def State.sysTime (s : State) : SysSt × TimeSt := (s.sys, s.time)

theorem driveFaultN_parts (s : State) : (driveFaultN s).time = s.time ∧ (driveFaultN s).align = s.align ∧ (driveFaultN s).ingress = s.ingress := by
  unfold driveFaultN
  dsimp only
  split <;> exact ⟨rfl, rfl, rfl⟩

theorem cutBurn_sysTime (s : State) : (cutBurn s).sysTime = s.sysTime := by
  unfold cutBurn
  split
  · split <;> rfl
  · rfl

theorem timeAfterReset_tb (k : ResetKind) (t : TimeSt) : (timeAfterReset k t).tb = t.tb := by
  simp only [timeAfterReset]
  split <;> rfl

/-- A wipe keeps the time base and the marker of the reserve domain; the ingress and the aligner restart (R577, R583). -/
theorem wipe_facts (k : ResetKind) (ph : Phase) (s : State) : (wipe k ph s).sys.phase = ph ∧ (wipe k ph s).sys.markerLost = s.sys.markerLost
    ∧ (wipe k ph s).time.tb = s.time.tb ∧ (wipe k ph s).align = {} ∧ (wipe k ph s).ingress = {} := by
  obtain ⟨hsys, htime⟩ := Prod.mk.inj (cutBurn_sysTime s)
  obtain ⟨w, hw, hphase, hmarker, htb, halign, hingress⟩ : ∃ w, wipe k ph s = driveFaultN w ∧ w.sys.phase = ph
      ∧ w.sys.markerLost = (cutBurn s).sys.markerLost ∧ w.time = timeAfterReset k (cutBurn s).time ∧ w.align = {} ∧ w.ingress = {} :=
    ⟨_, rfl, rfl, rfl, rfl, rfl, rfl⟩
  obtain ⟨ht, ha, hi⟩ := driveFaultN_parts w
  rw [hw, driveFaultN_sys, ht, ha, hi]
  exact ⟨hphase, by rw [hmarker, hsys], by rw [htb, timeAfterReset_tb, htime], halign, hingress⟩

/-! ### The reset edges -/

theorem exec_mainRailsGood {dt : Ps} {s u : State} (hu : u = s.elapse dt) : exec (.mainRailsGood dt) s = .next (mainRailsGood u) := hu ▸ rfl

theorem exec_resetNAssert {dt : Ps} {s u : State} (hu : u = s.elapse dt) : exec (.resetNAssert dt) s = .next (resetNAssert u) := hu ▸ rfl

theorem exec_warmReset {dt : Ps} {s u : State} (hu : u = s.elapse dt) :
    exec (.warmReset dt) s = .next (if u.sys.phase = .running && u.host.warmDue then resetEdge .warm u else u) := hu ▸ rfl

theorem exec_wdogExpiry {dt : Ps} {s u : State} (hu : u = s.elapse dt) : exec (.wdogExpiry dt) s
    = .next (if firmwareRuns u && !u.integ.noInterface && decide (u.sys.wdogAt + 100000000000 ≤ u.now) then resetEdge .wdog u else u) :=
  hu ▸ rfl

theorem mainRailsGood_stays {s : State} (h1 : s.sys.phase ≠ .unpowered) (h2 : s.sys.phase ≠ .reserve) : mainRailsGood s = s := by
  unfold mainRailsGood
  split
  · exact absurd ‹_› h1
  · exact absurd ‹_› h2
  · rfl

/-- The watchdog expires on a device whose firmware runs and has not been serviced for 100 ms (R537). -/
theorem wdog_expires_iff (s : State) :
    (firmwareRuns s && !s.integ.noInterface && decide (s.sys.wdogAt + 100000000000 ≤ s.now)) = true ↔
      s.sys.phase = .running ∧ s.sys.stuck = false ∧ s.upd.recovery = none ∧ s.integ.noInterface = false
        ∧ s.sys.wdogAt + 100000000000 ≤ s.now := by
  simp [firmwareRuns, and_assoc]

/-! ### The main supply and the reserve -/

theorem exec_mainSupplyLoss {dt : Ps} {ok : Bool} {s u : State} (hu : u = s.elapse dt) :
    exec (.mainSupplyLoss dt ok) s = .next (mainSupplyLoss ok u) := hu ▸ rfl

theorem exec_reserveHandoffDone {dt : Ps} {short : Bool} {s u : State} (hu : u = s.elapse dt) :
    exec (.reserveHandoffDone dt short) s = .next (handoffDone short u) := hu ▸ rfl

theorem exec_vresLoss {dt : Ps} {s u : State} (hu : u = s.elapse dt) :
    exec (.vresLoss dt) s = .next (if u.sys.phase = .handoff ∨ u.sys.phase = .reserve then unpower u else u) := hu ▸ rfl

theorem unpower_facts (s : State) : (unpower s).sys.phase = .unpowered ∧ (unpower s).sys.markerLost = true := by
  obtain ⟨hphase, -⟩ := wipe_facts .por .unpowered s
  exact ⟨hphase, rfl⟩

/-- What passes to RESERVE when the main supply goes while VRES holds (R87, R287, R305). -/
def handedOff (s : State) : State :=
  { wipe .por .handoff s with
    front := s.front, energy := (energyStop s).energy, time := { (wipe .por .handoff s).time with dReserve := s.time.dReserve } }

theorem mainSupplyLoss_powered {s : State} (ok : Bool) (h : s.sys.phase = .running ∨ s.sys.phase = .thermal ∨ ∃ k, s.sys.phase = .held k) :
    mainSupplyLoss ok s = if ok then handedOff s else unpower s := by
  unfold mainSupplyLoss
  obtain h | h | ⟨k, h⟩ := h <;> rw [h] <;> rfl

theorem mainSupplyLoss_stays {s : State} (ok : Bool) (h : s.sys.phase = .unpowered ∨ s.sys.phase = .reserve ∨ s.sys.phase = .handoff) :
    mainSupplyLoss ok s = s := by
  unfold mainSupplyLoss
  obtain h | h | h := h <;> rw [h]

theorem stopChains_sysTime (p : Nat → Bool) (s : State) : (stopChains p s).sysTime = s.sysTime := by
  refine foldl_keeps_read State.sysTime (fun s i => ?_) (List.range 24) s
  dsimp only
  split <;> rfl

theorem startChains_sysTime (p : Nat → Bool) (s : State) : (startChains p s).sysTime = s.sysTime := by
  unfold startChains
  extract_lets started
  refine foldl_keeps_read State.sysTime (fun s i => ?_) (List.range 24) s
  dsimp only
  split <;> rfl

theorem frontReserve_sysTime (s : State) : (frontReserve s).sysTime = s.sysTime :=
  (startChains_sysTime _ _).trans (stopChains_sysTime _ s)

theorem energyReserve_sysTime (s : State) : (energyReserve s).sysTime = s.sysTime := rfl

/-- RESERVE with its counts in the history, and the 4 ns of E that the pass to KCLK takes at most (R88, R147, R584). -/
theorem handoffDone_facts (short : Bool) {s : State} (h : s.sys.phase = .handoff) :
    (handoffDone short s).sys = { s.sys with
      phase := .reserve, mode := .reserve
      history := if short then countHistory 6 (countHistory 5 s.sys.history) else countHistory 5 s.sys.history }
    ∧ (handoffDone short s).time.err = s.time.err + 4 := by
  rw [handoffDone, if_pos h]
  extract_lets x _ _ s1
  obtain ⟨hsys, htime⟩ := Prod.mk.inj ((energyReserve_sysTime _).trans (frontReserve_sysTime s1))
  exact ⟨hsys, congrArg TimeSt.err htime⟩

/-! ### The wake from DORMANT -/

theorem exec_dormantWake {dt : Ps} {i : Option Nat} {s u : State} (hu : u = s.elapse dt) :
    exec (.dormantWake dt i) s = .next (dormantWake i u) := hu ▸ rfl

/-- The wake of an input or of the wake time is there (R574). -/
def wakeDue (i : Option Nat) (s : State) : Bool :=
  match i with
  | none => decide (0 < s.sys.wakeTime) && decide (s.sys.wakeTime ≤ stampSec s.stamp)
  | some i => wakeInput s i

/-- The state with its wake settings used up. -/
def wakeCleared (s : State) : State := { s with sys := { s.sys with wakeTime := 0, wakeMask := 0 } }

theorem dormantWake_eq (i : Option Nat) (s : State) : dormantWake i s =
    if s.sys.phase = .running && s.sys.mode = .dormant && wakeDue i s then
      if s.sys.wakeActive then requestActive (wakeCleared s) else changeMode .commission false (wakeCleared s)
    else s := by
  cases i <;> rfl

theorem dormantWake_stays {i : Option Nat} {s : State} (h : s.sys.mode ≠ .dormant ∨ wakeDue i s = false) : dormantWake i s = s := by
  rw [dormantWake_eq, if_neg]
  obtain h | h := h <;> simp [h]

/-! ### The statement -/

/-- Settles O52: each row is its operation at the branch of its phase; `wipe_facts` says what the loss of the supply keeps, `changeMode_sys`
where the wake leads. -/
theorem resetsSupplyAndWakeTakeEffect : Obligations.ResetsSupplyAndWakeTakeEffect := by
  unfold Obligations.ResetsSupplyAndWakeTakeEffect
  refine ⟨⟨?railsUnpowered, ?railsReserve, ?railsElse, ?pin, ?pinLevel, ?pinRelease, ?warm, ?noWarm, ?wdog, ?noWdog⟩,
    ⟨?handoff, ?unpowered, ?noLoss, ?reserve, ?reserveShort, ?noReserve, ?vres, ?noVres, ?wakeTime, ?wakeInput, ?noWakeInput, ?noWakeTime⟩⟩
  case railsUnpowered =>
    intro dt s u hu hp
    rw [exec_mainRailsGood hu, mainRailsGood, hp]
  case railsReserve =>
    intro dt s u hu hp
    rw [exec_mainRailsGood hu, mainRailsGood, hp]
  case railsElse =>
    intro dt s u hu h1 h2
    rw [exec_mainRailsGood hu, mainRailsGood_stays h1 h2]
  case pin =>
    intro dt s u hu h
    rw [exec_resetNAssert hu, resetNAssert]
    obtain h | h | h | h := h <;> rw [h]
  case pinLevel =>
    intro dt s u hu h
    rw [exec_resetNAssert hu, resetNAssert]
    obtain h | h | h | h | h | h := h <;> rw [h]
  case pinRelease =>
    rintro dt s u rfl
    rfl
  case warm =>
    intro dt s u hu hp hw
    rw [exec_warmReset hu, if_pos (by simp [hp, hw])]
  case noWarm =>
    intro dt s u hu h
    rw [exec_warmReset hu, if_neg]
    obtain h | h := h <;> simp [h]
  case wdog =>
    intro dt s u hu hp hs hr hn ht
    rw [exec_wdogExpiry hu, if_pos ((wdog_expires_iff u).2 ⟨hp, hs, hr, hn, ht⟩)]
  case noWdog =>
    intro dt s u hu h
    rw [exec_wdogExpiry hu, if_neg]
    rw [wdog_expires_iff]
    rintro ⟨hp, hs, hr, hn, ht⟩
    obtain h | h | h | h | h := h
    · exact h hp
    · simp [hs] at h
    · simp [hr] at h
    · simp [hn] at h
    · exact absurd ht (Nat.not_le.2 h)
  case handoff =>
    intro dt s u hu h
    obtain ⟨hphase, hmarker, htb, halign, hingress⟩ := wipe_facts .por .handoff u
    refine ⟨handedOff u, ?_, hphase, rfl, rfl, htb, halign, hingress, hmarker⟩
    rw [exec_mainSupplyLoss hu, mainSupplyLoss_powered true h, if_pos rfl]
  case unpowered =>
    intro dt s u hu h
    refine ⟨unpower u, ?_, unpower_facts u⟩
    rw [exec_mainSupplyLoss hu, mainSupplyLoss_powered false h, if_neg nofun]
  case noLoss =>
    intro dt s u b hu h
    rw [exec_mainSupplyLoss hu, mainSupplyLoss_stays b h]
  case reserve =>
    intro dt s u hu hp
    obtain ⟨hsys, herr⟩ := handoffDone_facts false hp
    refine ⟨_, exec_reserveHandoffDone hu, ?_⟩
    rw [hsys]
    exact ⟨rfl, rfl, rfl, herr⟩
  case reserveShort =>
    intro dt s u hu hp
    obtain ⟨hsys, -⟩ := handoffDone_facts true hp
    refine ⟨_, exec_reserveHandoffDone hu, ?_⟩
    rw [hsys]
    exact ⟨rfl, rfl⟩
  case noReserve =>
    intro dt s u b hu hp
    rw [exec_reserveHandoffDone hu, handoffDone, if_neg hp]
  case vres =>
    intro dt s u hu h
    rw [exec_vresLoss hu, if_pos h]
    exact ⟨rfl, unpower_facts u⟩
  case noVres =>
    intro dt s u hu h1 h2
    rw [exec_vresLoss hu, if_neg (not_or.2 ⟨h1, h2⟩)]
  case wakeTime =>
    intro dt s u hu hp hm ha h0 ht
    have hdue : wakeDue none u = true := by simp [wakeDue, h0, ht]
    have hmode : (wakeCleared u).sys.mode ≠ .commission := by simp [wakeCleared, hm]
    refine ⟨_, exec_dormantWake hu, ?_⟩
    rw [dormantWake_eq, if_pos (by simp [hp, hm, hdue]), if_neg (by simp [ha]), changeMode_sys false hmode]
    exact ⟨rfl, hm, rfl, rfl⟩
  case wakeInput =>
    intro dt s u i hu hp hm ha hpair hi
    have hdue : wakeDue (some i) u = true := hi
    have hreq : requestActive (wakeCleared u) = changeMode .active false (wakeCleared u) := by simp [requestActive, wakeCleared, hpair]
    refine ⟨_, exec_dormantWake hu, ?_⟩
    rw [dormantWake_eq, if_pos (by simp [hp, hm, hdue]), if_pos ha, hreq, changeMode_mode]
  case noWakeInput =>
    intro dt s u i hu h
    rw [exec_dormantWake hu, dormantWake_stays h]
  case noWakeTime =>
    intro dt s u hu h
    rw [exec_dormantWake hu, dormantWake_stays]
    refine h.imp_right fun h => ?_
    simp only [wakeDue, Bool.and_eq_false_iff, decide_eq_false_iff_not]
    omega

end Sys2Proof.Machine
end

section
/-! SUPPORT. The settings commands of the time group: how a command that applies at the next grid edge is accepted and what it does there,
and the passage of time up to what waits for its instant (R159, R160, R610). -/

namespace Sys2Proof.Machine

/-! ### At the grid edge -/

/-- A command whose instant has come does what `gridOut` says, when that leaves the settings record alone. -/
theorem Later.act_command {op : Nat} {p data : List Byte} {v t : State} (h : gridOut op v.stamp p v = .ok data t)
    (hs : t.host.settings = v.host.settings) : (Later.command op p).act v = t := by
  simp only [Later.act, h, ← hs]

@[simp] theorem reselect_settings (s : State) : (reselect s).host.settings = s.host.settings :=
  congrArg Prod.fst (settingsRecord_of_hostBase (reselect_hostBase s))

theorem queueFree_iff (who : Producer) (n : Nat) (s : State) : queueFree who n s = true ↔ (s.rq n).bound = none ∨ (s.rq n).bound = some who := by
  unfold queueFree
  split <;> simp_all

/-- EVT_CONFIG's parameters at its grid edge (R148, R150, R152). -/
def eventSettings (p : List Byte) (s : State) : State :=
  { s with time := { s.time with evtEdges := BitVec.ofNat 32 (fld p 0 4), evtDest := fld p 4 1, ppsDelay := sfld p 5 4 } }

theorem evtConfig_fifo {p : List Byte} (s : State) (h : fld p 4 1 = 255) :
    evtConfig p s = .ok [] (bindQueue .eventCapture none (eventSettings p s)) := by
  simp [evtConfig, eventSettings, bindQueue, h]

theorem evtConfig_queue {p : List Byte} {s : State} {n : Nat} (hn : fld p 4 1 = n) (h31 : n ≤ 31)
    (hb : (s.rq n).bound = none ∨ (s.rq n).bound = some .eventCapture) :
    evtConfig p s = .ok [] (bindQueue .eventCapture (some n) (eventSettings p s)) := by
  have h255 : n ≠ 255 := by omega
  simp [evtConfig, eventSettings, bindQueue, hn, h255, (queueFree_iff _ _ _).2 hb]

/-! ### Acceptance -/

section
variable {dt : Ps} {q : Packet} {s u : State} (hu : u = arrived q (s.elapse dt))
include hu

/-- A command of `gridCmd` that every mode admits and whose effect at the edge answers OK without data is accepted. -/
theorem gridCmd_executed {op n : Nat} {checks : State → List Byte → List (Bool × Nat)} {key : List Byte → Option (Nat × List Nat)} {t : State}
    (hr : ready (s.elapse dt) q op = true) (hl : q.params.length = n) (hc : firstBad (checks u.flushed q.params) = none)
    (hg : gridOut op u.nextGridStamp q.params u.flushed = .ok [] t) :
    executed (command (gridCmd op anyMode (lenIs n) checks key) dt q s) q op [] true (u.at u.nextGrid (.command op q.params)) :=
  executed_of_grid (gridCmd op anyMode (lenIs n) checks key) dt q s u t [] true hu hr rfl (beq_iff_eq.2 hl) hc rfl hg rfl

theorem timeSetUtc_ignored (hr : ready (s.elapse dt) q 0x0207 = true) (hl : q.params.length = 3) (hf : fld q.params 2 1 ≤ 3)
    (hp : u.time.source = some .ptp) : executed (exec (.timeSetUtc dt q) s) q 0x0207 [] true u := by
  refine executed_of_run cmdTimeSetUtc dt q s u hu hr rfl (beq_iff_eq.2 hl) ?_ [] u (if_pos hp) true rfl ?_ ?_ rfl
  · simp [cmdTimeSetUtc, gridCmd, inRange, hf]
  · subst hu
    exact arrived_running hr
  · subst hu
    exact arrived_journal hr

theorem timeSetUtc_executed (hr : ready (s.elapse dt) q 0x0207 = true) (hl : q.params.length = 3) (hf : fld q.params 2 1 ≤ 3)
    (hp : u.time.source ≠ some .ptp) :
    executed (exec (.timeSetUtc dt q) s) q 0x0207 [] true (u.at u.nextGrid (.command 0x0207 q.params)) := by
  refine executed_of_grid cmdTimeSetUtc dt q s u _ [] true hu hr rfl (beq_iff_eq.2 hl) ?_ (if_neg hp) rfl rfl
  simp [cmdTimeSetUtc, gridCmd, inRange, hf]

theorem evtConfig_executed {n : Nat} (hr : ready (s.elapse dt) q 0x0208 = true) (hl : q.params.length = 9) (hn : fld q.params 4 1 = n)
    (hd : n = 255 ∨ n ≤ 31 ∧ ((u.flushed.rq n).bound = none ∨ (u.flushed.rq n).bound = some .eventCapture)) :
    executed (exec (.evtConfig dt q) s) q 0x0208 [] true (u.at u.nextGrid (.command 0x0208 q.params)) := by
  obtain rfl | ⟨h31, hb⟩ := hd
  · exact gridCmd_executed hu hr hl (by simp [hn]) (evtConfig_fifo _ hn)
  · exact gridCmd_executed hu hr hl (by simp [hn, inRange, h31]) (evtConfig_queue hn h31 hb)

end

/-! ### The passage of time -/

theorem elapse_of_nothing_later {s : State} {dt : Ps} (hdt : 0 < dt) (hl : s.later = []) : s.elapse dt = (settle s).pass dt := by
  have hrun : ∀ n, runLater n (s.now + dt) s = leave (s.now + dt) s := by
    intro n
    cases n with
    | zero => rfl
    | succ n => simp only [runLater, hl]
  rw [State.elapse, if_neg (Nat.ne_of_gt hdt), hrun, leave, if_neg (Nat.not_le.2 (Nat.lt_add_of_pos_right hdt)), Nat.add_sub_cancel_left]

theorem runLater_due {n : Nat} {t a : Ps} {s : State} {x : Later} {r : List (Ps × Later)} (hl : s.later = (a, x) :: r) (ha : a ≤ s.now) :
    runLater (n + 1) t s = runLater n t (x.act { s with later := r }) := by
  simp only [runLater, actNext, hl, ha, if_true]

/-! ### The statement -/

/-- Settles O6: every command is accepted by `gridCmd_executed` where its parameters are in range, and `Later.act_command` reads off
`gridOut` what it does at its edge. -/
theorem timeSettingsTakeEffect : Obligations.TimeSettingsTakeEffect := by
  unfold Obligations.TimeSettingsTakeEffect
  refine ⟨?sources, fun p v => Later.act_command rfl (reselect_settings _), ?servo, fun p v => Later.act_command rfl rfl, ?port, ?portOn,
    ?portOff, ?ptp, fun p v => Later.act_command rfl rfl, ?utcIgnored, ?utc, ?utcAct, ?evt, ?evtFifo, ?evtQueue, ?pps,
    fun p v => Later.act_command rfl rfl, fun s dt => elapse_of_nothing_later, fun n t s a x r => runLater_due⟩
  case sources =>
    intro dt q s u hu hr hl h0 h1 h2 h3 hf
    exact gridCmd_executed hu hr hl (by simp [List.range_succ, inRange, h0, h1, h2, h3, hf]) rfl
  case servo =>
    intro dt q s u hu hr hl h1 h2 h3 h4 h5 h6 h7 h8 h9 h10 h11
    exact gridCmd_executed hu hr hl (by simp [inRange, h1, h2, h3, h4, h5, h6, h7, h8, h9, h10, h11]) rfl
  case port =>
    intro dt q s u hu hr hl h0 h1 h14
    exact gridCmd_executed hu hr hl (by simp [inRange, h0, h1, h14]) rfl
  case portOn =>
    rintro p v k x rfl h1 rfl
    refine Later.act_command (data := []) ?_ (reselect_settings _)
    simp [gridOut, timePortSet, h1]
  case portOff =>
    rintro p v k x rfl h1 rfl
    refine Later.act_command (data := []) ?_ (reselect_settings _)
    simp [gridOut, timePortSet, h1]
  case ptp =>
    intro dt q s u hu hr hl h0 h2 h4
    exact gridCmd_executed hu hr hl (by simp [inRange, h0, h2, h4]) rfl
  case utcIgnored => exact fun dt q s u hu => timeSetUtc_ignored hu
  case utc => exact fun dt q s u hu => timeSetUtc_executed hu
  case utcAct => exact fun p v => Later.act_command rfl rfl
  case evt => exact fun dt q s u n hu => evtConfig_executed hu
  case evtFifo =>
    intro p v h
    have he : (Later.command 0x0208 p).act v = _ := Later.act_command (evtConfig_fifo v h) rfl
    rw [he, eventSettings, h]
  case evtQueue =>
    rintro p v n rfl h31 hb
    exact Later.act_command (evtConfig_queue rfl h31 hb) rfl
  case pps =>
    intro dt q s u hu hr hl h0 h0' h4 h4' h8
    exact gridCmd_executed hu hr hl (by simp [inRange, inRangeI, h0, h0', h4, h4', h8]) rfl

end Sys2Proof.Machine
end

section
/-! SUPPORT. What a step of the time base does to a device that does not align, and the statement on the reading commands of the time group,
EVT_READ and TIME_SET (R113, R121, R137, R150, R158 to R161). -/

namespace Sys2Proof.Machine

/-! ### Frames that a step makes late -/

/-- `t` is `s` but for frames in the transmit queues, their completions, and the count of frames dropped late (R157, R158). -/
def LaunchJudged (s t : State) : Prop :=
  ∃ c o e, t = { s with time := { s.time with cLateDropped := c }, outputs := o, egress := e }

theorem LaunchJudged.refl (s : State) : LaunchJudged s s := ⟨_, _, _, rfl⟩

theorem LaunchJudged.trans {s t u : State} (h : LaunchJudged s t) (k : LaunchJudged t u) : LaunchJudged s u := by
  obtain ⟨_, _, _, rfl⟩ := h
  obtain ⟨_, _, _, rfl⟩ := k
  exact ⟨_, _, _, rfl⟩

theorem LaunchJudged.foldl {α : Type} {g : State → α → State} (hg : ∀ s x, LaunchJudged s (g s x)) (l : List α) (s : State) :
    LaunchJudged s (l.foldl g s) := by
  induction l generalizing s with
  | nil => exact .refl s
  | cons x l ih => exact (hg s x).trans (ih _)

theorem lateFrame_judged (p : Nat) (f : TxFrame) (s : State) : LaunchJudged s (lateFrame p f s).2 := by
  unfold lateFrame
  split
  · dsimp only
    split <;> exact ⟨_, _, _, rfl⟩
  · exact .refl s

theorem lateFrames_judged (p : Nat) (late : TxFrame → Bool) (fs : List TxFrame) (s : State) : LaunchJudged s (lateFrames p late fs s).2 := by
  induction fs generalizing s with
  | nil => exact .refl s
  | cons f fs ih =>
    unfold lateFrames
    dsimp only
    split
    · exact (lateFrame_judged p f s).trans (ih _)
    · exact ih s

theorem launchPassed_judged (old : Stamp) (s : State) : LaunchJudged s (launchPassed old s) :=
  LaunchJudged.foldl (fun _ _ => ((lateFrames_judged ..).trans (lateFrames_judged ..)).trans ⟨_, _, _, rfl⟩) _ s

theorem launchMoved_judged (s : State) : LaunchJudged s (launchMoved s) := ⟨_, _, _, rfl⟩

/-! ### A step of the time base -/

theorem stepActs_unaligned (forward : Bool) {s : State} (h : s.aligning = false) : stepActs forward s = s := by
  simp [stepActs, h]

/-- What a step to `tb` sets in the time group (R113, R137, R146, R153). -/
def TimeSt.stepped (t : TimeSt) (tb : Nat) : TimeSt :=
  { t with
    tb, valid := true, steppedAt := some (tb / 65536), cSteps := inc t.cSteps, ppsOutSec := none
    kclkStart := if t.servo = .locked then some tb else none }

/-- Where no zone aligns, a step sets the time group and judges the launches, and that is all. -/
theorem stepTo_unaligned (tb : Nat) {s : State} (h : s.aligning = false) : LaunchJudged { s with time := s.time.stepped tb } (stepTo tb s) := by
  obtain ⟨forward, t, hstep, hj⟩ : ∃ forward t, stepTo tb s = stepActs forward t ∧ LaunchJudged { s with time := s.time.stepped tb } t := by
    refine ⟨_, _, rfl, ?_⟩
    split
    · exact launchPassed_judged _ _
    · exact launchMoved_judged _
  have ht : t.aligning = false := by
    obtain ⟨_, _, _, rfl⟩ := hj
    exact h
  rw [hstep, stepActs_unaligned forward ht]
  exact hj

theorem stepTo_unaligned_time (tb : Nat) {s : State} (h : s.aligning = false) :
    ∃ c, (stepTo tb s).time = { s.time.stepped tb with cLateDropped := c } := by
  obtain ⟨c, o, e, ht⟩ := stepTo_unaligned tb h
  exact ⟨c, by rw [ht]⟩

theorem Later.act_command_time {op : Nat} {p data : List Byte} {v t : State} (h : gridOut op v.stamp p v = .ok data t) :
    ((Later.command op p).act v).time = t.time := by
  simp only [Later.act, h]

/-! ### The commands -/

/-- The data of EVT_READ: how many records it returns, and the records (R150). -/
def evtReply (n : Nat) (fifo : List EvtRec) : List Byte := be 1 (min n fifo.length) ++ (fifo.take n).flatMap evtBytes

section
variable {dt : Ps} {q : Packet} {s u : State} (hu : u = arrived q (s.elapse dt))
include hu

/-- A command of the time group that answers at once and leaves the host and the system registers alone. -/
theorem timeRead_executed {d : Cmd} {data : List Byte} {j : Bool} {v : State} (hr : ready (s.elapse dt) q d.opcode = true)
    (hm : d.modes u.sys.mode = true) (hl : d.lenOk q.params = true) (hc : firstBad (d.checks u q.params) = none)
    (hrun : d.run u q.ifc q.params = .ok data v) (hjn : d.journaled q.params data = j) (hs : v.sys = u.sys) (hh : v.host = u.host) :
    executed (command d dt q s) q d.opcode data j v := by
  refine executed_of_run d dt q s u hu hr hm hl hc data v hrun j hjn ?_ ?_ ?_
  · rw [hs, hu]
    exact arrived_running hr
  · subst hu
    exact journalMustCommit_of_journal (congrArg HostSt.journal hh) (arrived_journal hr)
  · simp only [State.iface, hh]

theorem evtRead_executed {n : Nat} {j : Bool} {v : State} (hr : ready (s.elapse dt) q 0x0209 = true) (hl : q.params.length = 1)
    (hn : fld q.params 0 1 = n) (h1 : 1 ≤ n) (h32 : n ≤ 32) (hv : { u with time := { u.time with evtFifo := u.time.evtFifo.drop n } } = v)
    (hj : cmdEvtRead.journaled q.params (evtReply n u.time.evtFifo) = j) :
    executed (exec (.evtRead dt q) s) q 0x0209 (evtReply n u.time.evtFifo) j v := by
  subst hv
  refine timeRead_executed (d := cmdEvtRead) hu hr rfl (beq_iff_eq.2 hl) ?_ ?_ hj rfl rfl
  · simp [cmdEvtRead, hn, inRange, h1, h32]
  · simp [cmdEvtRead, evtReply, hn, List.length_take]

end

/-- EVT_READ is journaled when it returns a record (R484). -/
theorem evtRead_journaled {n : Nat} (h1 : 1 ≤ n) {fifo : List EvtRec} (h : fifo ≠ []) (p : List Byte) :
    cmdEvtRead.journaled p (evtReply n fifo) = true := by
  obtain ⟨x, t, rfl⟩ := List.exists_cons_of_ne_nil h
  obtain ⟨m, rfl⟩ := Nat.exists_eq_add_of_le' h1
  simp [cmdEvtRead, evtReply, evtBytes, be]

theorem evtFifo_drop_of_nil {s : State} (h : s.time.evtFifo = []) (n : Nat) :
    { s with time := { s.time with evtFifo := s.time.evtFifo.drop n } } = s := by
  rw [h, List.drop_nil, ← h]

/-! ### The statement -/

/-- Settles O7: each reading command is one use of `timeRead_executed`, and `stepTo_unaligned` says what TIME_SET leaves at its edge. -/
theorem timeReadsAndTimeSet : Obligations.TimeReadsAndTimeSet := by
  unfold Obligations.TimeReadsAndTimeSet
  refine ⟨?status, ?counters, ?evt, ?evtEmpty, ?set, ?setAct⟩
  case status =>
    intro dt q s u hu hr hl
    exact timeRead_executed (d := cmdTimeGetStatus) hu hr rfl (by rw [hl]; rfl) rfl rfl rfl rfl rfl
  case counters =>
    intro dt q s u hu hr hl
    exact timeRead_executed (d := cmdTimeGetCounters) hu hr rfl (by rw [hl]; rfl) rfl rfl rfl rfl rfl
  case evt =>
    intro dt q s u n hu hr hl hn h1 h32 hf
    exact evtRead_executed hu hr hl hn h1 h32 rfl (evtRead_journaled h1 hf _)
  case evtEmpty =>
    intro dt q s u hu hr hl h1 h32 hf
    have hreply : evtReply (fld q.params 0 1) u.time.evtFifo = [0] := by simp [evtReply, hf, be]
    rw [← hreply]
    exact evtRead_executed hu hr hl rfl h1 h32 (evtFifo_drop_of_nil hf _) (by rw [hreply]; rfl)
  case set =>
    intro dt q s u hu hr hl h6
    exact gridCmd_executed hu hr hl (by simp [inRange, h6]) rfl
  case setAct =>
    rintro p v w hv - rfl
    obtain ⟨c, hc⟩ := stepTo_unaligned_time ((fld p 0 6 * unitsPerSec + fld p 6 4 * 65536) * 65536)
      (s := { v with time := { v.time with err := fld p 10 4 } }) hv
    have hg : gridOut 0x0206 v.stamp p v = .ok [] (timeSet p v) := rfl
    rw [Later.act_command_time hg, timeSet, hc]
    exact ⟨rfl, rfl, rfl, rfl, congrArg some (Nat.mul_div_cancel _ (by decide))⟩

end Sys2Proof.Machine
end

section
/-! SUPPORT. The servo: what an update makes of the time group, and the statement on its loop, its locks and its steps (R133, R134, R136). -/

namespace Sys2Proof.Machine

/-! ### What a change of the servo's state leaves alone -/

theorem noteServo_frame (s t : State) : (noteServo s t).time = t.time ∧ (noteServo s t).later = t.later ∧ (noteServo s t).now = t.now := by
  unfold noteServo
  split
  · exact ⟨rfl, rfl, rfl⟩
  · obtain ⟨-, hnow, hlater, -, htime, -⟩ := raiseCause_frame causeTime
      { t with pair := { t.pair with holdFrom := if t.time.servo = .locked then t.pair.holdFrom else none } }
    exact ⟨htime, hlater, hnow⟩

@[simp] theorem noteServo_time (s t : State) : (noteServo s t).time = t.time := (noteServo_frame s t).1
@[simp] theorem noteServo_later (s t : State) : (noteServo s t).later = t.later := (noteServo_frame s t).2.1
@[simp] theorem noteServo_now (s t : State) : (noteServo s t).now = t.now := (noteServo_frame s t).2.2

/-- What the servo's state does not touch (R134). -/
def TimeSt.loopPart (t : TimeSt) : Rat × Rat × Nat × Int := (t.integ, t.y, t.tb, t.offset)

theorem TimeSt.judge_loopPart (t : TimeSt) (mag : Rat) : (t.judge mag).loopPart = t.loopPart := by
  unfold TimeSt.judge
  split
  · extract_lets n
    split <;> rfl
  · split
    · extract_lets n
      split <;> rfl
    · rfl

/-- The eighth consecutive update under LOCK_THRESHOLD locks (R134). -/
theorem TimeSt.judge_locks {t : TimeSt} {mag : Rat} (hs : t.servo = .acquire) (hr : t.lockRun = 7) (hm : mag < t.lockThreshold) :
    (t.judge mag).servo = .locked := by
  simp [TimeSt.judge, TimeSt.toServo, hs, hr, hm]

/-- The third consecutive update over UNLOCK_THRESHOLD unlocks (R134). -/
theorem TimeSt.judge_unlocks {t : TimeSt} {mag : Rat} (hs : t.servo = .locked) (hr : t.unlockRun = 2) (hm : (t.unlockThreshold : Rat) < mag) :
    (t.judge mag).servo = .acquire := by
  simp [TimeSt.judge, TimeSt.toServo, hs, hr, hm]

/-! ### An update -/

/-- The time group with a measured offset noted (R121, R140). -/
def TimeSt.noteOffset (t : TimeSt) (theta : Int) : TimeSt :=
  { t with offset := theta, thetas := (absQ ((theta : Rat) / 65536) :: t.thetas).take 8 }

/-- The time group as the servo judges an update: after the loop, or with its frequency as it was where the update steps (R133, R136). -/
def TimeSt.looped (t : TimeSt) (c : Source) (theta : Int) (tau : Rat) : TimeSt :=
  if t.stepsOn c (absQ ((theta : Rat) / 65536)) then t.noteOffset theta else (t.noteOffset theta).loop ((theta : Rat) / 65536) tau

/-- The time group after an update, E among it (R133, R134, R140). -/
def TimeSt.updated (t : TimeSt) (c : Source) (theta : Int) (tau : Rat) : TimeSt :=
  let j := (t.looped c theta tau).judge (absQ ((theta : Rat) / 65536))
  { j with err := j.errAfter c (absQ ((theta : Rat) / 65536)) }

theorem servoUpdate_eq (c : Source) (theta : Int) (tau : Rat) (s : State) : servoUpdate c theta tau s =
    let v := noteServo s { s with time := s.time.updated c theta tau }
    if s.time.stepsOn c (absQ ((theta : Rat) / 65536)) then v.at v.nextGrid (.servoStep theta) else v := rfl

theorem servoUpdate_time (c : Source) (theta : Int) (tau : Rat) (s : State) :
    (servoUpdate c theta tau s).time = s.time.updated c theta tau := by
  rw [servoUpdate_eq]
  extract_lets v
  have h : v.time = s.time.updated c theta tau := noteServo_time _ _
  split <;> exact h

theorem servoUpdate_loopPart (c : Source) (theta : Int) (tau : Rat) (s : State) :
    (servoUpdate c theta tau s).time.loopPart = (s.time.looped c theta tau).loopPart := by
  rw [servoUpdate_time]
  exact TimeSt.judge_loopPart _ _

theorem servoUpdate_servo (c : Source) (theta : Int) (tau : Rat) (s : State) :
    (servoUpdate c theta tau s).time.servo = ((s.time.looped c theta tau).judge (absQ ((theta : Rat) / 65536))).servo := by
  rw [servoUpdate_time]
  rfl

/-- An update that steps has its step wait for the next grid edge; another one puts nothing off (R136). -/
theorem servoUpdate_later (c : Source) (theta : Int) (tau : Rat) (s : State) : (servoUpdate c theta tau s).later =
    if s.time.stepsOn c (absQ ((theta : Rat) / 65536)) then insertLater s.nextGrid (.servoStep theta) s.later else s.later := by
  rw [servoUpdate_eq]
  extract_lets v
  have hlater : v.later = s.later := noteServo_later _ _
  have hnow : v.now = s.now := noteServo_now _ _
  split
  · rw [State.at, hlater, State.nextGrid, hnow]
    rfl
  · exact hlater

/-- What decides the servo's state is the same before and after the loop. -/
theorem TimeSt.looped_judged (t : TimeSt) (c : Source) (theta : Int) (tau : Rat) : (t.looped c theta tau).servo = t.servo
    ∧ (t.looped c theta tau).lockRun = t.lockRun ∧ (t.looped c theta tau).unlockRun = t.unlockRun
    ∧ (t.looped c theta tau).lockThreshold = t.lockThreshold ∧ (t.looped c theta tau).unlockThreshold = t.unlockThreshold := by
  unfold TimeSt.looped
  split <;> exact ⟨rfl, rfl, rfl, rfl, rfl⟩

/-! ### The statement -/

/-- Settles O8: `servoUpdate_loopPart`, `servoUpdate_servo` and `servoUpdate_later` say what an update does to the loop, the servo's state and
what waits, and `stepTo_unaligned_time` what the step does on its edge. -/
theorem servoFollowsItsLoop : Obligations.ServoFollowsItsLoop := by
  unfold Obligations.ServoFollowsItsLoop
  refine ⟨?loop, ?locks, ?unlocks, ?steps, ?stepAct⟩
  case loop =>
    rintro c theta tau u x rfl hs
    have hlater := servoUpdate_later c theta tau u
    rw [hs] at hlater
    have hpart := servoUpdate_loopPart c theta tau u
    rw [TimeSt.looped, hs] at hpart
    obtain ⟨hi, hy, htb, hoff⟩ : _ ∧ _ ∧ _ ∧ _ := by simpa [TimeSt.loopPart] using hpart
    exact ⟨hi, hy, htb, hlater, hoff⟩
  case locks =>
    rintro c theta tau u x rfl hs hr hm
    obtain ⟨h1, h2, -, h4, -⟩ := u.time.looped_judged c theta tau
    rw [servoUpdate_servo]
    exact TimeSt.judge_locks (h1.trans hs) (h2.trans hr) (by rw [h4]; exact hm)
  case unlocks =>
    rintro c theta tau u x rfl hs hr hm
    obtain ⟨h1, -, h3, -, h5⟩ := u.time.looped_judged c theta tau
    rw [servoUpdate_servo]
    exact TimeSt.judge_unlocks (h1.trans hs) (h3.trans hr) (by rw [h5]; exact hm)
  case steps =>
    rintro c theta tau u x rfl hs h0 hm hc
    have hstep : u.time.stepsOn c (absQ ((theta : Rat) / 65536)) = true := by simp [TimeSt.stepsOn, hs, h0, hm, hc]
    have hlater := servoUpdate_later c theta tau u
    rw [hstep] at hlater
    have hpart := servoUpdate_loopPart c theta tau u
    rw [TimeSt.looped, hstep] at hpart
    obtain ⟨hi, hy, htb, -⟩ : _ ∧ _ ∧ _ ∧ _ := by simpa [TimeSt.loopPart] using hpart
    exact ⟨hy, hi, htb, hlater⟩
  case stepAct =>
    rintro theta v w hv rfl
    obtain ⟨c, hc⟩ := stepTo_unaligned_time (((v.time.tb : Int) - theta * 65536) % (tbMod : Nat)).toNat hv
    rw [Later.act, servoStep, hc]
    exact ⟨rfl, rfl, rfl, rfl⟩

end Sys2Proof.Machine
end

section
/-! SUPPORT. The events of the time sources: what a change of the selection leaves alone, the messages of PTP, PPS_IN, IRIG_IN and REF10_IN
(R118, R122 to R125, R127 to R132, R610). -/

namespace Sys2Proof.Machine

/-! ### The rows -/

section
variable {dt : Ps} {s u : State} (hu : u = s.elapse dt)
include hu

theorem exec_ptpAnnounce {p : Nat} {m : PtpAnnounce} : exec (.ptpAnnounce dt p m) s = .next (ptpAnnounce p m u) := hu ▸ rfl
theorem exec_ptpSync {p : Nat} {m : PtpSync} : exec (.ptpSync dt p m) s = .next (ptpSync p m u) := hu ▸ rfl
theorem exec_ptpFollowUp {p : Nat} {m : PtpFollowUp} : exec (.ptpFollowUp dt p m) s = .next (ptpFollowUp p m u) := hu ▸ rfl
theorem exec_ptpPeerDelay {p : Nat} {m : PtpPeerDelay} : exec (.ptpPeerDelay dt p m) s = .next (ptpPeerDelay p m u) := hu ▸ rfl
theorem exec_ppsInEdge : exec (.ppsInEdge dt) s = .next (ppsInEdge u) := hu ▸ rfl
theorem exec_irigFrame {f : Irig} : exec (.irigFrame dt f) s = .next (irigFrame f u) := hu ▸ rfl
theorem exec_ref10Gate {r : Ref10} : exec (.ref10Gate dt r) s = .next (ref10Gate r u) := hu ▸ rfl
theorem exec_sourceLost {code : Nat} : exec (.sourceLost dt code) s = .next (sourceLost code u) := hu ▸ rfl

end

/-! ### The selection -/

/-- The records of the sources and the count of their losses. -/
def TimeSt.sources (t : TimeSt) : SourceSt × SourceSt × SourceSt × SourceSt × Cnt := (t.ptp, t.pps, t.irig, t.ref10, t.cLosses)

theorem TimeSt.hold_sources (t : TimeSt) : t.hold.sources = t.sources := by
  unfold TimeSt.hold
  split
  · rfl
  · split <;> rfl

/-- The time group once the selection has become `new` (R123, R134, R135). -/
def TimeSt.selected (t : TimeSt) (new : Option Source) : TimeSt :=
  match new with
  | none => { t.hold with source := none }
  | some _ => { t.toServo .acquire with source := new, cSwitches := if t.source.isSome then inc t.cSwitches else t.cSwitches }

theorem reselect_same {s : State} (h : chooseSource s = s.time.source) : reselect s = s := if_pos h

theorem reselect_time {s : State} (h : chooseSource s ≠ s.time.source) :
    ∃ ports, (reselect s).time = { s.time.selected (chooseSource s) with ports } := by
  refine ⟨s.time.ports.map fun (p : TimePort) => { p with prevSync := none }, ?_⟩
  have hr : reselect s = noteServo s { s with time := { s.time.selected (chooseSource s) with
      ports := s.time.ports.map fun (p : TimePort) => { p with prevSync := none } } } := if_neg h
  rw [hr, noteServo_time]

theorem reselect_sources (s : State) : (reselect s).time.sources = s.time.sources := by
  by_cases h : chooseSource s = s.time.source
  · rw [reselect_same h]
  · obtain ⟨ports, ht⟩ := reselect_time h
    rw [ht]
    change (s.time.selected (chooseSource s)).sources = s.time.sources
    unfold TimeSt.selected
    split
    · exact TimeSt.hold_sources s.time
    · rfl

theorem reselect_source (s : State) : (reselect s).time.source = chooseSource s := by
  by_cases h : chooseSource s = s.time.source
  · rw [reselect_same h, h]
  · obtain ⟨ports, ht⟩ := reselect_time h
    rw [ht]
    change (s.time.selected (chooseSource s)).source = chooseSource s
    unfold TimeSt.selected
    split
    next hn => exact hn.symm
    next => rfl

theorem reselect_src (s : State) (c : Source) : (reselect s).time.src c = s.time.src c := by
  obtain ⟨h1, h2, h3, h4, -⟩ : _ ∧ _ ∧ _ ∧ _ ∧ _ := by simpa [TimeSt.sources] using reselect_sources s
  cases c
  · exact h1
  · exact h2
  · exact h3
  · exact h4

theorem reselect_cLosses (s : State) : (reselect s).time.cLosses = s.time.cLosses :=
  congrArg (fun x => x.2.2.2.2) (reselect_sources s)

/-- The source that is selected is ready (R123). -/
theorem chooseSource_ready {s : State} {c : Source} (h : chooseSource s = some c) : sourceReady s c = true := by
  unfold chooseSource at h
  extract_lets list kept at h
  have hkept : ∀ d, kept = some d → sourceReady s d = true := by
    intro d hd
    unfold kept at hd
    split at hd
    · split at hd
      next hr =>
        obtain rfl := Option.some.inj hd
        exact (Bool.and_eq_true_iff.1 hr).2
      next => cases hd
    · cases hd
  clear_value kept
  cases kept with
  | none => exact List.find?_some h
  | some d =>
    obtain rfl := Option.some.inj h
    cases hf : (list.takeWhile (· != d)).find? fun e => sourceReady s e && decide ((s.time.src e).seasonedAt ≤ s.now) with
    | none => exact hkept d rfl
    | some e =>
      have he := List.find?_some hf
      exact (Bool.and_eq_true_iff.1 he).1

/-- A source that is not valid is not selected (R122, R123). -/
theorem reselect_source_ne {s : State} {c : Source} (h : (s.time.src c).present = false) : (reselect s).time.source ≠ some c := by
  intro hs
  have hr := chooseSource_ready ((reselect_source s).symm.trans hs)
  simp [sourceReady, h] at hr

theorem TimeSt.setSrc_src (t : TimeSt) (c : Source) (x : SourceSt) : (t.setSrc c x).src c = x := by cases c <;> rfl

/-- The loss of a source: it is no longer valid, it is counted, and it is not selected (R122, R123). -/
theorem loseSource_facts {c : Source} {s : State} (h : (s.time.src c).present = true) : ((loseSource c s).time.src c).present = false
    ∧ (loseSource c s).time.cLosses = inc s.time.cLosses ∧ (loseSource c s).time.source ≠ some c := by
  obtain ⟨v, hv, hsrc, hc⟩ : ∃ v, loseSource c s = reselect v ∧ (v.time.src c).present = false ∧ v.time.cLosses = inc s.time.cLosses := by
    refine ⟨{ s with time := { s.time.setSrc c { s.time.src c with present := false } with cLosses := inc s.time.cLosses } }, ?_, ?_, rfl⟩
    · simp [loseSource, h]
    · exact congrArg SourceSt.present (TimeSt.setSrc_src s.time c { s.time.src c with present := false })
  rw [hv]
  exact ⟨by rw [reselect_src, hsrc], by rw [reselect_cLosses, hc], reselect_source_ne hsrc⟩

/-! ### PTP -/

@[simp] theorem State.setTimePort_timePort_self (s : State) {i : Nat} (x : TimePort) (h : i < 4) : (s.setTimePort i x).timePort i = x :=
  vget_vset_self _ _ _ _ h

/-- The best master clock algorithm leaves what a port has heard (R128). -/
theorem setRoles_heard (s : State) {p : Nat} (hp : p < 4) : ((setRoles s).timePort p).announce = (s.timePort p).announce
    ∧ ((setRoles s).timePort p).lastAnnounce = (s.timePort p).lastAnnounce := by
  simp [State.timePort, setRoles, vget, hp]

/-- What the Announce of the master on the SLAVE port sets (R118, R129, R610). -/
def followAnnounce (p : Nat) (m : PtpAnnounce) (s : State) : State :=
  if slavePort s ≠ some p then s
  else
    let s1 : State := { s with time := { s.time with tlvInacc := m.tlv.map fun x => x.1 + x.2 } }
    if s1.time.source = some .ptp then setUtc m.utcOffset (m.leap61 || m.leap59) m.leap59 s1 else s1

theorem followAnnounce_ports (p : Nat) (m : PtpAnnounce) (s : State) : (followAnnounce p m s).time.ports = s.time.ports := by
  unfold followAnnounce
  split
  · rfl
  · dsimp only
    split <;> rfl

theorem followAnnounce_slave {p : Nat} (m : PtpAnnounce) {s : State} (h : slavePort s = some p) :
    (followAnnounce p m s).time.tlvInacc = m.tlv.map (fun x => x.1 + x.2) ∧ (s.time.source = some .ptp →
      (followAnnounce p m s).time.utcOffset = m.utcOffset ∧ (followAnnounce p m s).time.leapPending = (m.leap61 || m.leap59)
        ∧ (followAnnounce p m s).time.leapDir = m.leap59) := by
  rw [followAnnounce, if_neg (not_not.2 h)]
  dsimp only
  split
  · exact ⟨rfl, fun _ => ⟨rfl, rfl, rfl⟩⟩
  next hs => exact ⟨rfl, fun h => absurd h hs⟩

theorem timePort_congr {s t : State} (h : t.time.ports = s.time.ports) (p : Nat) : t.timePort p = s.timePort p := by
  rw [State.timePort, h, State.timePort]

theorem slavePort_congr {s t : State} (h : t.time.ports = s.time.ports) : slavePort t = slavePort s := by
  unfold slavePort State.timePort
  rw [h]

theorem ptpRuns_lt {s : State} {p : Nat} (h : ptpRuns s p = true) : p < 4 := by
  simp only [ptpRuns, Bool.and_eq_true, decide_eq_true_eq] at h
  exact h.1.1.1

/-- A port that has heard no master takes the first Announce of the device's domain (R127, R128). -/
theorem ptpAnnounce_first {p : Nat} {m : PtpAnnounce} {s : State} (hr : ptpRuns s p = true) (hd : m.domain = s.time.ptpDomain)
    (ha : (s.timePort p).announce = none) : ∃ x : TimePort, x.announce = some m ∧ x.lastAnnounce = s.now ∧
      ptpAnnounce p m s = followAnnounce p m (setRoles (s.setTimePort p x)) := by
  refine ⟨{ s.timePort p with announce := some m, lastAnnounce := s.now, prevSync := none, lastSync := s.now }, rfl, rfl, ?_⟩
  have hnew : (Option.map (fun a : PtpAnnounce => a.master) none != some m.master) = true := rfl
  simp only [ptpAnnounce, hr, hd, ha, hnew, bne_self_eq_false, Bool.not_true, Bool.or_false, Bool.false_eq_true, if_false, if_true, followAnnounce]

theorem ptpAnnounce_accepted {p : Nat} {m : PtpAnnounce} {s : State} (hr : ptpRuns s p = true) (hd : m.domain = s.time.ptpDomain)
    (ha : (s.timePort p).announce = none) : ((ptpAnnounce p m s).timePort p).announce = some m
      ∧ ((ptpAnnounce p m s).timePort p).lastAnnounce = s.now
      ∧ (slavePort (ptpAnnounce p m s) = some p → (ptpAnnounce p m s).time.tlvInacc = m.tlv.map (fun x => x.1 + x.2)
        ∧ (s.time.source = some .ptp → (ptpAnnounce p m s).time.utcOffset = m.utcOffset
          ∧ (ptpAnnounce p m s).time.leapPending = (m.leap61 || m.leap59) ∧ (ptpAnnounce p m s).time.leapDir = m.leap59)) := by
  obtain ⟨x, hx, hx', he⟩ := ptpAnnounce_first hr hd ha
  have hports := followAnnounce_ports p m (setRoles (s.setTimePort p x))
  obtain ⟨hann, hlast⟩ := setRoles_heard (s.setTimePort p x) (ptpRuns_lt hr)
  rw [State.setTimePort_timePort_self _ _ (ptpRuns_lt hr)] at hann hlast
  rw [he, timePort_congr hports, slavePort_congr hports, hann, hlast]
  exact ⟨hx, hx', fun hslave => followAnnounce_slave m hslave⟩

theorem ptpSync_followed {p : Nat} {m : PtpSync} {s : State} (hr : ptpRuns s p = true) (hs : (s.timePort p).role = .slave)
    (hm : fromMaster s p m.domain m.master = true) : ptpSync p m s =
      if m.twoStep then s.setTimePort p { s.timePort p with
        lastSync := s.now, logIntv := m.logIntv, waiting := some (m, s.pcsStamp m.ago) }
      else syncOffset p (s.pcsStamp m.ago) m.origin m.corr (s.setTimePort p { s.timePort p with
        lastSync := s.now, logIntv := m.logIntv, waiting := none }) := by
  simp only [ptpSync, hr, hs, hm]
  cases m.twoStep <;> rfl

theorem syncOffset_discarded {p : Nat} {s : State} (stamp origin : Stamp) (corr : Int) (h : syncDiscarded (s.timePort p) = true) :
    syncOffset p stamp origin corr s = { s with time := { s.time with cSyncDiscarded := inc s.time.cSyncDiscarded } } := if_pos h

theorem syncOffset_measured {p : Nat} {s : State} (stamp origin : Stamp) (corr : Int) (h : syncDiscarded (s.timePort p) = false) :
    ∃ w, w = measure .ptp (stampDiff stamp origin - (s.timePort p).ingressLat - corr - (s.timePort p).asymmetry - (s.timePort p).delays.headD 0)
        (syncTau (s.timePort p) stamp) s
      ∧ syncOffset p stamp origin corr s =
        if w.time.source = some .ptp then w.setTimePort p { w.timePort p with prevSync := some stamp } else w :=
  ⟨_, rfl, if_neg (Bool.eq_false_iff.1 h)⟩

/-! ### The statement -/

/-- Settles O9: each row is its operation at the branch of its hypotheses; `ptpAnnounce_accepted` follows an Announce through the roles of the
ports, and `loseSource_facts` a loss through the selection. -/
theorem sourceEventsMeasure : Obligations.SourceEventsMeasure := by
  unfold Obligations.SourceEventsMeasure
  refine ⟨?announceIgnored, ?announce, ?twoStep, ?otherMaster, ?discarded, ?oneStep, ?followUp, ?request, ?start, ?complete, ?ppsRejected, ?pps,
    ?irigBad, ?irig, ?ref10, ?ref10Lost, ?irigLost⟩
  case announceIgnored =>
    rintro dt p m s u hu h
    rw [exec_ptpAnnounce hu, ptpAnnounce, if_pos]
    obtain h | h := h <;> simp [h]
  case announce =>
    intro dt p m s u hu hr hd ha
    exact ⟨_, exec_ptpAnnounce hu, ptpAnnounce_accepted hr hd ha⟩
  case twoStep =>
    intro dt p m s u hu hr hs hm h2
    rw [exec_ptpSync hu, ptpSync_followed hr hs hm, if_pos h2]
  case otherMaster =>
    intro dt p m s u hu hr hs hm
    rw [exec_ptpSync hu, ptpSync, if_pos (by simp [hm])]
  case discarded =>
    rintro dt p m s u v hu hr hs hm h2 rfl hd
    rw [exec_ptpSync hu, ptpSync_followed hr hs hm, if_neg (Bool.eq_false_iff.1 h2), syncOffset_discarded _ _ _ hd]
  case oneStep =>
    rintro dt p m s u v x hu hr hs hm h2 rfl rfl hd
    obtain ⟨w, hw, he⟩ := syncOffset_measured (u.pcsStamp m.ago) m.origin m.corr hd
    refine ⟨w, hw, ?_⟩
    rw [exec_ptpSync hu, ptpSync_followed hr hs hm, if_neg (Bool.eq_false_iff.1 h2), he]
  case followUp =>
    intro dt p m w a s u hu hr hm hw hseq
    rw [exec_ptpFollowUp hu]
    simp [ptpFollowUp, hw, hr, hm, hseq]
  case request =>
    intro dt p seq port ago s u hu hr
    rw [exec_ptpPeerDelay hu]
    simp [ptpPeerDelay, hr]
  case start =>
    rintro dt p n s u hu hr rfl
    rw [exec_ptpPeerDelay hu]
    simp [ptpPeerDelay, hr]
  case complete =>
    intro dt p seq b t1 t2 t3 s u hu hr hsent
    rw [exec_ptpPeerDelay hu]
    simp [ptpPeerDelay, hr, hsent]
  case ppsRejected =>
    intro dt s u hu hp hv hl hfar
    rw [exec_ppsInEdge hu, ppsInEdge, if_neg (not_not.2 hp)]
    exact congrArg _ (if_pos ⟨hv, hl, hfar⟩)
  case pps =>
    intro dt s u hu hp h
    rw [exec_ppsInEdge hu, ppsInEdge, if_neg (not_not.2 hp)]
    refine congrArg _ (if_neg ?_)
    rintro ⟨hv, hl, hfar⟩
    obtain h | h | h := h
    · simp [hv] at h
    · exact h hl
    · omega
  case irigBad =>
    intro dt s u hu hp
    rw [exec_irigFrame hu, irigFrame, if_neg (not_not.2 hp)]
  case irig =>
    rintro dt ago day hour minute second year s u utc hu hp rfl
    rw [exec_irigFrame hu, irigFrame, if_neg (not_not.2 hp)]
  case ref10 =>
    intro dt a ages s u hu hp hg ho
    rw [exec_ref10Gate hu, ref10Gate, if_neg (not_not.2 hp)]
    simp only [hg, ho]
    rfl
  case ref10Lost =>
    intro dt r s u hu hp hpr hr
    have hlost : ref10Gate r u = loseSource .ref10In u := by
      obtain rfl | rfl | ⟨ages, rfl, hbad⟩ := hr
      · exact if_neg (not_not.2 hp)
      · exact if_neg (not_not.2 hp)
      · exact (if_neg (not_not.2 hp)).trans (if_pos hbad)
    obtain ⟨hpresent, hc, -⟩ := loseSource_facts (c := .ref10In) hpr
    exact ⟨_, (exec_ref10Gate hu).trans (congrArg _ hlost), hpresent, hc⟩
  case irigLost =>
    intro dt s u hu hp hpr hdue
    have hlost : sourceLost 3 u = loseSource .irigIn u := by
      have hd : lossDue u .irigIn = true := decide_eq_true hdue
      simp [sourceLost, sourceFromCode, hp, hd]
    obtain ⟨hpresent, hc, hne⟩ := loseSource_facts (c := .irigIn) hpr
    exact ⟨_, (exec_sourceLost hu).trans (congrArg _ hlost), hpresent, hc, hne⟩

end Sys2Proof.Machine
end

section
/-! SUPPORT. Leap seconds, the reserve increment, event capture and PPS_OUT: each operation at the branches of its conditions (R119, R146,
R148 to R150, R153, R154). -/

namespace Sys2Proof.Machine

/-! ### The rows -/

section
variable {dt : Ps} {s u : State} (hu : u = s.elapse dt)
include hu

theorem exec_leapSecond : exec (.leapSecond dt) s = .next (leapSecond u) := hu ▸ rfl
theorem exec_leapOccurredExpiry : exec (.leapOccurredExpiry dt) s = .next (leapExpire u) := hu ▸ rfl
theorem exec_reserveIncrementUpdate {edges : Nat} : exec (.reserveIncrementUpdate dt edges) s = .next (reserveIncrement edges u) := hu ▸ rfl
theorem exec_eventCapture {i : Nat} {f : Bool} : exec (.eventCapture dt i f) s = .next (eventCapture i f u) := hu ▸ rfl
theorem exec_ppsOutPulse : exec (.ppsOutPulse dt) s = .next (ppsOutPulse u) := hu ▸ rfl
theorem exec_ppsOutEnd : exec (.ppsOutEnd dt) s = .next (ppsOutFall u) := hu ▸ rfl

end

/-! ### Leap seconds and the reserve increment -/

theorem leapSecond_due {s : State} (hp : s.sys.phase ≠ .unpowered) (hl : s.time.leapPending = true) (hd : s.time.leapDue ≤ stampSec s.stamp) :
    leapSecond s = { s with time := { s.time with
      utcOffset := s.time.utcOffset + (if s.time.leapDir then -1 else 1), leapPending := false, leapOccurred := true
      leapAt := s.time.leapDue, leapAtDir := s.time.leapDir } } := if_pos ⟨hp, hl, hd⟩

theorem leapSecond_early {s : State} (h : s.time.leapPending = false ∨ stampSec s.stamp < s.time.leapDue) : leapSecond s = s := by
  refine if_neg ?_
  rintro ⟨-, hl, hd⟩
  obtain h | h := h
  · simp [h] at hl
  · omega

theorem leapExpire_due {s : State} (ho : s.time.leapOccurred = true) (hd : s.time.leapAt + 86400 ≤ stampSec s.stamp) :
    leapExpire s = { s with time := { s.time with leapOccurred := false } } := if_pos ⟨ho, hd⟩

theorem reserveIncrement_window {s : State} {edges t0 : Nat} (hp : s.sys.phase = .running) (hl : s.time.servo = .locked)
    (hk : s.time.kclkFail = false) (he : edges ≠ 0) (h0 : s.time.kclkStart = some t0) (hw : kclkWindow ≤ (s.time.tb + tbMod - t0) % tbMod) :
    reserveIncrement edges s = { s with time := { s.time with
      reserveInc := (roundQ 6 (((s.time.tb + tbMod - t0) % tbMod : Nat) / edges)).toNat, kclkStart := some s.time.tb } } := by
  unfold reserveIncrement
  simp only [h0]
  refine if_neg ?_
  rintro (h | h | h | h | h)
  · exact h hp
  · exact h hl
  · simp [hk] at h
  · exact he h
  · omega

/-! ### Event capture -/

theorem eventCapture_selected {s : State} {i : Nat} {f : Bool} (hp : s.sys.phase = .running) (hi : i < 16)
    (he : edgeSelected s.time.evtEdges i f = true) : eventCapture i f s = { s with
      time := { s.time with evtHeld := insertHeld (cdiv s.now 4000 * 4000, i, f) s.time.evtHeld }
      later := insertLater (cdiv s.now 4000 * 4000) .capture s.later } := by
  refine if_neg ?_
  rintro (h | h | h)
  · exact h hp
  · omega
  · simp [he] at h

theorem eventCapture_unselected {s : State} {i : Nat} {f : Bool} (he : edgeSelected s.time.evtEdges i f = false) : eventCapture i f s = s :=
  if_pos (.inr (.inr (by simp [he])))

theorem eventForm_fifo (i : Nat) (f : Bool) {s : State} (hd : s.time.evtDest = 255) (hn : s.time.evtFifo.length < 512) :
    eventForm i f s = { s with time := { s.time with
      evtSeq := (s.time.evtSeq + 1) % 65536, evtFifo := s.time.evtFifo ++ [evtRecOf i f s] } } := by
  have hroom : ¬ 512 ≤ s.time.evtFifo.length := by omega
  rw [eventForm, if_pos hd, if_neg hroom]

theorem eventForm_fifoFull (i : Nat) (f : Bool) {s : State} (hd : s.time.evtDest = 255) (hn : 512 ≤ s.time.evtFifo.length) :
    eventForm i f s = { s with time := { s.time with evtSeq := (s.time.evtSeq + 1) % 65536, cEvtOverflow := inc s.time.cEvtOverflow } } := by
  rw [eventForm, if_pos hd, if_pos hn]

/-- Where the TCLK edge of every edge held has come, all of them form their records, in their order (R150). -/
theorem eventsForm_all {s : State} (h : ∀ x ∈ s.time.evtHeld, x.1 ≤ s.now) :
    eventsForm s = s.time.evtHeld.foldl (fun s x => eventForm x.2.1 x.2.2 s) { s with time := { s.time with evtHeld := [] } } := by
  have hdue : (s.time.evtHeld.filter fun x => decide (x.1 ≤ s.now)) = s.time.evtHeld :=
    List.filter_eq_self.2 fun x hx => decide_eq_true (h x hx)
  have hrest : (s.time.evtHeld.filter fun x => decide (s.now < x.1)) = [] :=
    List.filter_eq_nil_iff.2 fun x hx => by simpa using h x hx
  rw [eventsForm, hdue, hrest]

/-! ### PPS_OUT -/

section
variable {s : State} {a : Stamp} (ho : s.online = true) (ha : a = stampAdd s.stamp (-(s.time.ppsOutOffset * 65536)))
  (hs : stampSub a ≤ tclkInc s.time.y / 65536) (hn : s.time.ppsOutSec ≠ some (stampSec a))
include ho ha hs hn

/-- On the first TCLK edge at or after its instant PPS_OUT comes, unless the gate holds it (R153, R154). -/
theorem ppsOutPulse_instant : ppsOutPulse s =
    let s1 : State := { s with time := { s.time with ppsOutSec := some (stampSec a) } }
    if s.time.ppsOutGate < s.time.tqCode then s1
    else { s1 with
      time := { s1.time with ppsOutEnd := some (s.now + s.time.ppsOutWidth * 1000000) }, outputs := .pps true s.stamp :: s.outputs } := by
  subst ha
  have hlate : ¬ tclkInc s.time.y / 65536 < stampSub (stampAdd s.stamp (-(s.time.ppsOutOffset * 65536))) := by omega
  refine if_neg ?_
  simp [ho, hlate, hn]

end

theorem ppsOutFall_due {s : State} {e : Ps} (he : s.time.ppsOutEnd = some e) (hd : e ≤ s.now) :
    ppsOutFall s = { s with time := { s.time with ppsOutEnd := none }, outputs := .pps false s.stamp :: s.outputs } := by
  unfold ppsOutFall
  simp only [he]
  exact if_pos hd

/-! ### The statement -/

/-- Settles O10: each row is its operation, whose equation at the branch of its hypotheses is a lemma above. -/
theorem timeEventsTakeEffect : Obligations.TimeEventsTakeEffect := by
  unfold Obligations.TimeEventsTakeEffect
  refine ⟨?leap, ?noLeap, ?leapExpiry, ?increment, ?capture, fun i f u => eventForm_fifo i f, fun i f u => eventForm_fifoFull i f, ?forms,
    ?notCaptured, ?pulse, ?pulseGated, ?fall⟩
  case leap =>
    intro dt s u hu hp hl hd
    rw [exec_leapSecond hu, leapSecond_due hp hl hd]
  case noLeap =>
    intro dt s u hu h
    rw [exec_leapSecond hu, leapSecond_early h]
  case leapExpiry =>
    intro dt s u hu ho hd
    rw [exec_leapOccurredExpiry hu, leapExpire_due ho hd]
  case increment =>
    intro dt edges t0 s u hu hp hl hk he h0 hw
    rw [exec_reserveIncrementUpdate hu, reserveIncrement_window hp hl hk he h0 hw]
  case capture =>
    rintro dt i f s u e hu hp hi he rfl
    rw [exec_eventCapture hu, eventCapture_selected hp hi he]
  case forms =>
    rintro u v h rfl
    exact eventsForm_all h
  case notCaptured =>
    intro dt i f s u hu he
    rw [exec_eventCapture hu, eventCapture_unselected he]
  case pulse =>
    intro dt s u a hu ho ha hs hn hg
    rw [exec_ppsOutPulse hu, ppsOutPulse_instant ho ha hs hn]
    exact congrArg _ (if_neg (Nat.not_lt.2 hg))
  case pulseGated =>
    intro dt s u a hu ho ha hs hn hg
    rw [exec_ppsOutPulse hu, ppsOutPulse_instant ho ha hs hn]
    exact congrArg _ (if_pos hg)
  case fall =>
    intro dt s u e hu he hd
    rw [exec_ppsOutEnd hu, ppsOutFall_due he hd]

end Sys2Proof.Machine
end

section
/-! SUPPORT. The reset edge: what of each part of the state it keeps (R144, R467, R486, R576, R577, R583, R585). -/

namespace Sys2Proof.Machine

/-! ### YIELD -/

/-- A heartbeat with YIELD changes the peer links and what has left the device (R510). -/
theorem sendHeartbeat_eq (n : Nat) (yield : Bool) (s : State) : ∃ o p, sendHeartbeat n yield s = { s with outputs := o, pair := p } := by
  unfold sendHeartbeat
  dsimp only
  split
  next hj =>
    rw [sendA, if_pos hj]
    exact ⟨_, _, rfl⟩
  next => exact ⟨_, _, rfl⟩

theorem yieldAll_eq (s : State) : ∃ o p, yieldAll s = { s with outputs := o, pair := p } := by
  unfold yieldAll
  generalize List.range 4 = ns
  induction ns generalizing s with
  | nil => exact ⟨_, _, rfl⟩
  | cons n ns ih =>
    obtain ⟨o, p, hn⟩ := sendHeartbeat_eq n true s
    obtain ⟨o', p', hns⟩ := ih (sendHeartbeat n true s)
    refine ⟨o', p', ?_⟩
    rw [List.foldl_cons, hns, hn]

/-! ### The wipe -/

/-- What a wipe leaves of a device whose lifecycle fuses no command burns (R577, R583). -/
structure Wiped (k : ResetKind) (ph : Phase) (s t : State) : Prop where
  time : t.time = timeAfterReset k s.time
  volatile : t.ingress = {} ∧ t.align = {} ∧ t.front = {} ∧ t.detect = {} ∧ t.kernel = {} ∧ t.egress = {} ∧ t.dma = {}
  energy : t.energy = energyAfterReset false s.energy
  host : t.host = { ring := { epoch := s.host.ring.epoch }, mgmt := { epoch := s.host.mgmt.epoch }, svc := { epoch := s.host.svc.epoch }
                    nextJseq := s.host.nextJseq }
  integ : t.integ = {
    lastFault := s.integ.lastFault, safeEntries := s.integ.safeEntries, autoLeaves := s.integ.autoLeaves, sensors := s.integ.sensors
    tj := s.integ.tj, tjMax := s.integ.tj, hotSince := s.integ.hotSince, scorchSince := s.integ.scorchSince
    injected := s.integ.injected.filter fun x => x.cls = 12 || x.cls = 14 }
  sec : t.sec = { s.sec with kwk := [], drbg := [], nonce := none, mka := Vector.replicate 5 {}, mkaNext := none }
  upd : t.upd = updAfterReset s.upd
  sys : ∃ low, t.sys = { s.sys with
    phase := ph, mode := .boot, prevMode := s.sys.mode, modeChanges := 0, bootedSvc := false, defaulted := false, loaded := false
    stuck := false, upPs := 0, wakeTime := 0, wakeMask := 0, wakeActive := false, faultLow := low }

theorem driveFaultN_eq (s : State) : ∃ o low, driveFaultN s = { s with outputs := o, sys := { s.sys with faultLow := low } } := by
  unfold driveFaultN
  dsimp only
  split <;> exact ⟨_, _, rfl⟩

theorem Wiped.driveFaultN {k : ResetKind} {ph : Phase} {s t : State} (h : Wiped k ph s t) : Wiped k ph s (driveFaultN t) := by
  obtain ⟨o, low, ht⟩ := driveFaultN_eq t
  obtain ⟨low', hsys⟩ := h.sys
  rw [ht]
  exact ⟨h.time, h.volatile, h.energy, h.host, h.integ, h.sec, h.upd, low, by rw [hsys]⟩

theorem cutBurn_idle {s : State} (h : s.host.executing = none) : cutBurn s = s := by
  simp only [cutBurn, h]

theorem wipe_wiped (k : ResetKind) (ph : Phase) {s : State} (h : s.host.executing = none) : Wiped k ph s (wipe k ph s) := by
  unfold wipe
  rw [cutBurn_idle h]
  exact Wiped.driveFaultN ⟨rfl, ⟨rfl, rfl, rfl, rfl, rfl, rfl, rfl⟩, rfl, rfl, rfl, rfl, rfl, _, rfl⟩

/-- The reserve domain and the snapshot block keep the time base, its error and the UTC offset; no source is selected (R121, R144). -/
theorem timeAfterReset_facts (k : ResetKind) (t : TimeSt) : (timeAfterReset k t).tb = t.tb ∧ (timeAfterReset k t).valid = t.valid
    ∧ (timeAfterReset k t).y = t.y ∧ (timeAfterReset k t).err = t.err ∧ (timeAfterReset k t).utcOffset = t.utcOffset
    ∧ (timeAfterReset k t).snapSecLo = t.snapSecLo ∧ (timeAfterReset k t).snapSecHi = t.snapSecHi
    ∧ (timeAfterReset k t).unlockedPs = t.unlockedPs ∧ (timeAfterReset k t).source = none := by
  unfold timeAfterReset
  dsimp only
  split <;> exact ⟨rfl, rfl, rfl, rfl, rfl, rfl, rfl, rfl, rfl⟩

/-! ### The edge -/

/-- A reset edge wipes the device, with the reset noted in the history (R576, R585). -/
theorem resetEdge_wiped (k : ResetKind) {s : State} (h : s.host.executing = none) : ∃ w times, Wiped k (.held k) s w ∧
    resetEdge k s = { w with sys := { w.sys with
      lastReset := k, history := countHistory k.code w.sys.history, lastResetAt := s.stamp, wdogTimes := times } } := by
  obtain ⟨o, p, hy⟩ : ∃ o p, (if k = .por then s else yieldAll s) = { s with outputs := o, pair := p } := by
    split
    · exact ⟨_, _, rfl⟩
    · exact yieldAll_eq s
  have hw : Wiped k (.held k) s (wipe k (.held k) { s with outputs := o, pair := p }) := by
    obtain ⟨ht, hv, he, hh, hi, hs, hu, hsys⟩ := wipe_wiped k (.held k) (s := { s with outputs := o, pair := p }) h
    exact ⟨ht, hv, he, hh, hi, hs, hu, hsys⟩
  unfold resetEdge
  rw [hy]
  exact ⟨_, _, hw, rfl⟩

/-! ### The statement -/

/-- Settles O53: the edge leaves what `Wiped` says of each part of the state, and writes the history besides. -/
theorem resetKeepsAndLoses : Obligations.ResetKeepsAndLoses := by
  rintro k s t hx rfl
  obtain ⟨w, times, ⟨htime, ⟨hing, hal, hfr, hde, hke, heg, hdma⟩, hen, hho, hin, hse, hup, low, hsys⟩, hedge⟩ := resetEdge_wiped k hx
  obtain ⟨htb, hvalid, hy, herr, hutc, hlo, hhi, hunl, hsrc⟩ := timeAfterReset_facts k s.time
  rw [hedge]
  simp only [hsys, htime, hing, hal, hfr, hde, hke, heg, hdma, hen, hho, hin, hse, hup, htb, hvalid, hy, herr, hutc, hlo, hhi, hunl, hsrc,
    updAfterReset, SecSt.owner, SecSt.serial, and_self]

end Sys2Proof.Machine
end

section
/-! SUPPORT. The MACs of the transmit ports: which frame each begins, the cut of a preemptable frame, and the end of a frame (R349, R392,
R403, R405, R408 to R410). -/

namespace Sys2Proof.Machine

/-! ### The rows -/

theorem exec_macTxStart_express {dt : Ps} {s u : State} {p : Nat} (hu : u = txStartRead p true (s.elapse dt)) :
    exec (.macTxStart dt p true) s = .next (expressStart p u) := hu ▸ rfl

theorem exec_macTxStart_preempt {dt : Ps} {s u : State} {p : Nat} (hu : u = txStartRead p false (s.elapse dt)) :
    exec (.macTxStart dt p false) s = .next (preemptStart p u) := hu ▸ rfl

theorem exec_macTxDone {dt : Ps} {s u : State} {p : Nat} {express : Bool} (hu : u = txDoneRead p express (s.elapse dt)) :
    exec (.macTxDone dt p express) s = .next (macDone p express u) := hu ▸ rfl

/-! ### The express MAC begins a frame -/

/-- The express MAC of a port begins `f`, which leaves the port as `y` (R403, R409, R410). -/
def expressBegin (s : State) (p : Nat) (f : TxFrame) (y : TxPort) : State :=
  (takePn p f (s.setTx p y)).modTx p fun z => { z with
    expRun := some { runOf s p f with protect := protectionOf (takePn p f (s.setTx p y)) p f } }

section
variable {s : State} {p : Nat} {f : TxFrame} {y : TxPort}

theorem expressStart_gap (h : s.now < (s.tx p).freeAt) : expressStart p s = s := by
  have hgap : gapPassed s (s.tx p) = false := decide_eq_false (Nat.not_le.2 h)
  simp [expressStart, hgap]

section
variable (hrun : (s.tx p).expRun = none) (hwan : s.wanRuns p = true) (hhead : expressHead s p (s.tx p) = some (f, y))
include hrun hwan hhead

theorem expressStart_noSa (hfree : (s.tx p).freeAt ≤ s.now) (hsa : noSa s p f = true) :
    expressStart p s = dropNoSa p f (s.setTx p y) := by
  simp [expressStart, gapPassed, hrun, hwan, hfree, hhead, hsa]

variable (hsa : noSa s p f = false)
include hsa

/-- With no preemptable frame in flight but one that is cut already, the frame begins at once. -/
theorem expressStart_alone (hfree : (s.tx p).freeAt ≤ s.now) (hpre : y.preRun = none ∨ ∃ r, y.preRun = some r ∧ r.cut.isSome = true) :
    expressStart p s = expressBegin s p f y := by
  obtain hpre | ⟨r, hpre, hcut⟩ := hpre
  · simp [expressStart, gapPassed, hrun, hwan, hfree, hhead, hsa, hpre, expressBegin]
  · simp [expressStart, gapPassed, hrun, hwan, hfree, hhead, hsa, hpre, hcut, expressBegin]

/-- A preemptable frame in flight that can be cut is cut (R405). -/
theorem expressStart_cuts (hfree : (s.tx p).freeAt ≤ s.now) {r : TxRun} (hpre : y.preRun = some r) (hcut : r.cut = none)
    (hact : (s.tx p).active = true) {left : Nat} (hleft : cutLeft s p f r = some left) :
    expressStart p s = expressBegin s p f { y with
      preRun := some { r with cut := some left, wasCut := true }, cPreempted := if r.wasCut then y.cPreempted else inc y.cPreempted } := by
  simp [expressStart, gapPassed, hrun, hwan, hfree, hhead, hsa, hpre, hcut, hact, hleft, expressBegin]

/-- Behind a preemptable frame in flight that cannot be cut, the frame waits (R405). -/
theorem expressStart_waits {r : TxRun} (hpre : y.preRun = some r) (hcut : r.cut = none)
    (hno : (s.tx p).active = false ∨ cutLeft s p f r = none) : expressStart p s = s := by
  by_cases hfree : (s.tx p).freeAt ≤ s.now
  · obtain hno | hno := hno <;> simp [expressStart, gapPassed, hrun, hwan, hfree, hhead, hsa, hpre, hcut, hno]
  · exact expressStart_gap (Nat.not_le.1 hfree)

end

/-! ### The preemptable MAC begins a frame -/

/-- The preemptable MAC of a port begins `f`, which leaves the port as `y` (R403, R409, R410). -/
def preemptBegin (s : State) (p : Nat) (f : TxFrame) (y : TxPort) : State :=
  (takePn p f (s.setTx p y)).modTx p fun z => { z with
    preRun := some { runOf s p f with protect := protectionOf (takePn p f (s.setTx p y)) p f } }

theorem preemptStart_gap (h : s.now < (s.tx p).freeAt) : preemptStart p s = s := by
  have hgap : gapPassed s (s.tx p) = false := decide_eq_false (Nat.not_le.2 h)
  simp [preemptStart, hgap]

section
variable (hrun : (s.tx p).expRun = none) (hwan : s.wanRuns p = true) (hfree : (s.tx p).freeAt ≤ s.now)
  (hdue : expressDue s p (s.tx p) = false)
include hrun hwan hfree hdue

/-- A cut frame goes on (R405). -/
theorem preemptStart_resumes {r : TxRun} {left : Nat} (hpre : (s.tx p).preRun = some r) (hcut : r.cut = some left) :
    preemptStart p s = s.setTx p { s.tx p with preRun := some { r with
      done := s.now + resumePs (s.port p) left, from_ := s.now + 8 * octetPs (s.port p), cut := none } } := by
  simp [preemptStart, gapPassed, hrun, hwan, hfree, hdue, hpre, hcut]

theorem preemptStart_begins (hpre : (s.tx p).preRun = none) (hhead : preemptHead s p (s.tx p) = some (f, y)) (hsa : noSa s p f = false) :
    preemptStart p s = preemptBegin s p f y := by
  simp [preemptStart, gapPassed, hrun, hwan, hfree, hdue, hpre, hhead, hsa, preemptBegin]

end
end

/-! ### Where a frame can be cut -/

section
variable {s : State} {p n : Nat} {seq : BitVec 32} {rev : Nat} {last : Bool} {f : TxFrame} (r : TxRun)
  (hk : f.kind = .session n seq rev last) (hl : f.launch = none)
include hk hl

/-- A frame of a session without launch time cuts from the present octet on (R405). -/
theorem cutLeft_session : cutLeft s p f r =
    if s.now ≤ r.done ∧ 64 ≤ (s.now - r.from_) / octetPs (s.port p) ∧ 128 ≤ octetsLeft s (s.port p) r then some (octetsLeft s (s.port p) r)
    else none := by
  simp only [cutLeft, hk, hl, Nat.add_sub_cancel_left]
  split
  next h => rw [max_eq_left h.2.1, Nat.add_sub_cancel_left]
  next => rfl

end

/-! ### The heads of the express queues -/

section
variable {s : State} {p : Nat} {x : TxPort} {f : TxFrame} {t : List TxFrame}

theorem expressHead_alarm (h : x.expAlarm = f :: t) (hr : f.readyAt ≤ s.now) : expressHead s p x = some (f, { x with expAlarm := t }) := by
  simp [expressHead, h, hr]

section
variable (ha : ∀ a, x.expAlarm.head? = some a → s.now < a.readyAt)
include ha

theorem expressHead_launch (h : x.expLaunch = f :: t) (hc : launchCome s p f = true) :
    expressHead s p x = some (f, { x with expLaunch := t }) := by
  cases hq : x.expAlarm with
  | nil => simp [expressHead, hq, h, hc]
  | cons a r =>
    have hwait : ¬ a.readyAt ≤ s.now := Nat.not_le.2 (ha a (by rw [hq]; rfl))
    simp [expressHead, hq, hwait, h, hc]

theorem expressHead_now (hl : ∀ a, x.expLaunch.head? = some a → launchCome s p a = false) (h : x.expNow = f :: t)
    (hrev : revisionHeld x f = false) : expressHead s p x = some (f, { x with expNow := t }) := by
  have hlaunch : ∀ {a r}, x.expLaunch = a :: r → launchCome s p a = false := fun hq => hl _ (by rw [hq]; rfl)
  cases hq : x.expAlarm with
  | nil => cases hq' : x.expLaunch with
    | nil => simp [expressHead, hq, hq', h, hrev]
    | cons b r' => simp [expressHead, hq, hq', hlaunch hq', h, hrev]
  | cons a r =>
    have hwait : ¬ a.readyAt ≤ s.now := Nat.not_le.2 (ha a (by rw [hq]; rfl))
    cases hq' : x.expLaunch with
    | nil => simp [expressHead, hq, hwait, hq', h, hrev]
    | cons b r' => simp [expressHead, hq, hwait, hq', hlaunch hq', h, hrev]

end
end

/-! ### The end of a frame -/

/-- What follows when the last octet of a frame has left, on a port that is then `x` (R157, R405). -/
def departs (s : State) (p : Nat) (r : TxRun) (x : TxPort) : State :=
  countSent p r.frame ((noteDeparture p r (s.setTx p x)).emits
    [.wan p { r.frame with octets := wireOctets s p r }, .completion p r.frame.kind (if r.frame.late then .late else .sent)])

section
variable {s : State} {p : Nat} {r : TxRun} (hcut : r.cut = none) (hdone : r.done ≤ s.now)
include hcut hdone

theorem macDone_express (hrun : (s.tx p).expRun = some r) : macDone p true s = departs s p r { s.tx p with
    expRun := none, cFrames := inc (s.tx p).cFrames, cExpress := inc (s.tx p).cExpress, freeAt := s.now + 12 * octetPs (s.port p) } := by
  have hnow : ¬ s.now < r.done := Nat.not_lt.2 hdone
  simp [macDone, hrun, hcut, hnow, departs]

theorem macDone_preempt (hrun : (s.tx p).preRun = some r) : macDone p false s = departs s p r (pauseStarts (s.port p) s.now { s.tx p with
    preRun := none, cFrames := inc (s.tx p).cFrames, freeAt := s.now + 12 * octetPs (s.port p) }) := by
  have hnow : ¬ s.now < r.done := Nat.not_lt.2 hdone
  simp [macDone, hrun, hcut, hnow, departs]

end

/-! ### What leaves the pins -/

theorem be_length (n v : Nat) : (be n v).length = n := by
  induction n generalizing v with
  | zero => rfl
  | succ n ih => simp [be, ih]

section
variable {s : State} {p : Nat} {r : TxRun} (hk : ∀ got, r.frame.kind ≠ .ptpAnswer got)
include hk

theorem departed_of_not_answer : departed s p r = r.frame.octets := by
  unfold departed
  split
  next got h => exact absurd h (hk got)
  next => rfl

theorem wireOctets_unprotected (hp : r.protect = none) : wireOctets s p r = r.frame.octets := by
  simp only [wireOctets, hp]
  exact departed_of_not_answer hk

/-- A protected frame leaves with its SecTAG behind its addresses (R409). -/
theorem wireOctets_secTag {k : Protection} (hp : r.protect = some k) (h12 : 12 ≤ r.frame.octets.length) : (wireOctets s p r).take 28 =
    r.frame.octets.take 12 ++ [0x88, 0xE5] ++ be 1 (0x2C + k.an) ++ [0] ++ be 4 k.pn ++ be 6 (s.port p).mac ++ be 2 1 := by
  simp only [wireOctets, hp, departed_of_not_answer hk]
  refine List.take_left' ?_
  simp [be_length, h12]

end

end Sys2Proof.Machine
end

section
/-! SUPPORT. Launch decisions, pauses, link changes and the verification of preemption (R155 to R157, R402, R404, R405, R408). -/

namespace Sys2Proof.Machine

/-! ### The rows -/

section
variable {dt : Ps} {s u : State} {p : Nat} (hu : u = s.elapse dt)
include hu

theorem exec_launchDecision {express : Bool} : exec (.launchDecision dt p express) s = .next (launchDecide p express u) := hu ▸ rfl
theorem exec_pauseRx {pfc : Option Nat} {quanta : List Nat} : exec (.pauseRx dt p pfc quanta) s = .next (pauseRx p pfc quanta u) := hu ▸ rfl
theorem exec_pauseEnd : exec (.pauseEnd dt p) s
    = .next (u.modTx p fun x => { x with pauseTo := x.pauseTo.map fun t => if t ≤ u.now then 0 else t }) := hu ▸ rfl

theorem exec_wanLinkChange {up : Bool} (ho : u.online = true) (hp : p < 4) : exec (.wanLinkChange dt p up) s = .next (wanLink p up u) := by
  subst hu
  exact congrArg _ (if_pos (by simp [ho, hp]))

theorem exec_verifyTimeout {n : Nat} (hv : (u.tx p).verify = some n) (hd : (u.tx p).verifyAt + 10000000000 ≤ u.now) :
    exec (.verifyTimeout dt p) s = .next (if n < 3 then verifyStart p (n + 1) u
      else u.setTx p { u.tx p with verify := none, cVerifyFails := inc (u.tx p).cVerifyFails }) := by
  subst hu
  change execVerifyTimeout dt p s = _
  simp only [execVerifyTimeout, hv, if_neg (Nat.not_lt.2 hd), State.modTx]

theorem exec_verifyResponse {n : Nat} (hv : (u.tx p).verify = some n) :
    exec (.verifyResponse dt p) s = .next (u.setTx p { u.tx p with verify := none, active := true }) := by
  subst hu
  exact congrArg _ (if_pos (by rw [hv]; rfl))

end

@[simp] theorem State.modTx_tx_self (s : State) {p : Nat} (g : TxPort → TxPort) (hp : p < 4) : (s.modTx p g).tx p = g (s.tx p) :=
  State.setTx_tx_self s p _ hp

/-! ### Launch decisions -/

section
variable {s : State} {p : Nat} {f : TxFrame} {t : List TxFrame}

theorem lateFrame_flagged (hd : (vget {} s.time.ports p).dropLate = false) :
    lateFrame p f s = (some { f with judged := true, late := true }, s) := by
  simp [lateFrame, hd]

/-- A late frame of a session under DROP is counted on its port and its session, with its completion (R157). -/
theorem lateFrame_dropped {n : Nat} {seq : BitVec 32} {rev : Nat} {last : Bool} (hd : (vget {} s.time.ports p).dropLate = true)
    (hk : f.kind = .session n seq rev last) : lateFrame p f s = (none,
      (State.emit { s with time := { s.time with cLateDropped := vset s.time.cLateDropped p (inc (vget 0 s.time.cLateDropped p)) } }
        (.completion p f.kind .droppedLate)).modSess n fun y => { y with cLateDropped := inc y.cLateDropped }) := by
  simp [lateFrame, hd, hk]

section
variable (hq : (s.tx p).expLaunch = f :: t) (hj : f.judged = false) (hd : stampDiff (f.launch.getD 0) s.stamp ≤ 640 * 65536)
include hq hj hd

theorem launchDecide_express_late (hl : launchLate s p true f = true) (hp : (vget {} s.time.ports p).dropLate = false) :
    launchDecide p true s = s.setTx p { s.tx p with expLaunch := { f with judged := true, late := true } :: t } := by
  have hlead : ¬ decisionLead true < stampDiff (f.launch.getD 0) s.stamp := by simpa [decisionLead] using hd
  simp [launchDecide, hq, hj, hlead, hl, lateFrame_flagged hp, State.modTx]

theorem launchDecide_express_inTime (hl : launchLate s p true f = false) :
    launchDecide p true s = s.setTx p { s.tx p with expLaunch := { f with judged := true } :: t } := by
  have hlead : ¬ decisionLead true < stampDiff (f.launch.getD 0) s.stamp := by simpa [decisionLead] using hd
  simp [launchDecide, hq, hj, hlead, hl, State.modTx]

end

theorem launchDecide_preempt_late (hq : (s.tx p).preLaunch = f :: t) (hj : f.judged = false)
    (hd : stampDiff (f.launch.getD 0) s.stamp ≤ 512 * 65536) (hl : launchLate s p false f = true) :
    launchDecide p false s = (lateFrame p f s).2.modTx p fun x => { x with preLaunch := (lateFrame p f s).1.toList ++ t } := by
  have hlead : ¬ decisionLead false < stampDiff (f.launch.getD 0) s.stamp := by simpa [decisionLead] using hd
  simp [launchDecide, hq, hj, hlead, hl]

/-- A late frame of the preemptable MAC under DROP leaves its queue (R157). -/
theorem launchDecide_preempt_dropped {n : Nat} {seq : BitVec 32} {rev : Nat} {last : Bool} (hp : p < 4) (hq : (s.tx p).preLaunch = f :: t)
    (hj : f.judged = false) (hk : f.kind = .session n seq rev last) (hd : stampDiff (f.launch.getD 0) s.stamp ≤ 512 * 65536)
    (hl : launchLate s p false f = true) (hdrop : (vget {} s.time.ports p).dropLate = true) :
    ((launchDecide p false s).tx p).preLaunch = t ∧ ((launchDecide p false s).sess n).cLateDropped = inc (s.sess n).cLateDropped
      ∧ vget 0 (launchDecide p false s).time.cLateDropped p = inc (vget 0 s.time.cLateDropped p)
      ∧ (launchDecide p false s).outputs.head? = some (.completion p f.kind .droppedLate) := by
  rw [launchDecide_preempt_late hq hj hd hl, lateFrame_dropped hdrop hk, State.modTx_tx_self _ _ hp]
  refine ⟨rfl, ?_, vget_vset_self _ _ _ _ hp, rfl⟩
  exact congrArg Session.cLateDropped (State.setSess_sess_self _ n _)

end

/-! ### Pauses -/

section
variable (ps : PortSt) (now : Ps) (x : TxPort) {i : Nat} (hi : i < 8)

theorem pauseStarts_counts : (pauseStarts ps now x).cPauseRx = x.cPauseRx ∧ (pauseStarts ps now x).cPfcRx = x.cPfcRx := by
  unfold pauseStarts
  split <;> exact ⟨rfl, rfl⟩

theorem vget_pauseNext_of_all (h : (x.pauseNext.toList.all (·.isNone)) = true) (i : Nat) : vget none x.pauseNext i = none := by
  unfold vget
  split
  next hi =>
    have hm := List.all_eq_true.1 h x.pauseNext[i] (by simp)
    exact Option.isNone_iff_eq_none.1 hm
  next => rfl

include hi

/-- The pause that waits for a priority begins; another priority's pause stays as it is (R408). -/
theorem pauseStarts_pauseTo : vget 0 (pauseStarts ps now x).pauseTo i =
    ((vget none x.pauseNext i).map fun q => now + q * (64 * octetPs ps)).getD (vget 0 x.pauseTo i) := by
  unfold pauseStarts
  split
  next h => rw [vget_pauseNext_of_all x h]; rfl
  next =>
    simp only [vget, hi, dif_pos, Vector.getElem_ofFn]
    cases x.pauseNext[i] <;> rfl

theorem pauseStarts_pauseNext : vget none (pauseStarts ps now x).pauseNext i = none := by
  unfold pauseStarts
  split
  next h => exact vget_pauseNext_of_all x h i
  next => simp [vget, hi]

end

/-- A PAUSE frame that is obeyed asks for a pause of every priority (R407, R408). -/
def pauseAsked (x : TxPort) (quanta : Nat) : TxPort :=
  { x with cPauseRx := inc x.cPauseRx, pauseNext := Vector.ofFn fun (_ : Fin 8) => some quanta }

/-- A PFC frame that is obeyed asks for a pause of the priorities that it names (R407, R408). -/
def pfcAsked (x : TxPort) (mask : Nat) (quanta : List Nat) : TxPort :=
  { x with cPfcRx := inc x.cPfcRx, pauseNext := Vector.ofFn fun (i : Fin 8) => if mask.testBit i.val then some (quanta.getD i.val 0) else x.pauseNext[i] }

section
variable {s : State} {p : Nat}

theorem pauseRx_ignored {quanta : List Nat} (h : (s.tx p).pauseObey = false) :
    pauseRx p none quanta s = s.setTx p { s.tx p with cPauseRx := inc (s.tx p).cPauseRx } := by
  simp [pauseRx, h]

theorem pauseRx_pause {quanta : Nat} (h : (s.tx p).pauseObey = true) : pauseRx p none [quanta] s =
    s.setTx p (if (s.tx p).preRun.isSome then pauseAsked (s.tx p) quanta else pauseStarts (s.port p) s.now (pauseAsked (s.tx p) quanta)) := by
  simp [pauseRx, h, pauseAsked]

theorem pauseRx_pfc {mask : Nat} {quanta : List Nat} (h : (s.tx p).pfcObey = true) : pauseRx p (some mask) quanta s =
    s.setTx p (if (s.tx p).preRun.isSome then pfcAsked (s.tx p) mask quanta else pauseStarts (s.port p) s.now (pfcAsked (s.tx p) mask quanta)) := by
  simp [pauseRx, h, pfcAsked]

end

/-! ### The supervisor's frames -/

/-- A frame for which PRE_NOW and the transmit buffer have room joins the queue, over the words that it takes of the buffer (R402). -/
theorem enqueue_preNow {p : Nat} {f : TxFrame} {s : State} (hk : ∀ n, f.kind ≠ .alarm n false) (hl : f.launch = none)
    (hn : (s.tx p).preNow.length < 1024) (hb : bufferUsed (s.tx p) + bufferShare f ≤ 524288) : enqueue p false [f] s =
      (writeWords 10 (fun i a => i == p && decide ((s.tx p).queued.length ≤ a) && decide (a < (s.tx p).queued.length + 1)) s).setTx p
        { s.tx p with preNow := (s.tx p).preNow ++ [f] } := by
  have hdepth : ¬ 1024 < (s.tx p).preNow.length + 1 := by omega
  have hroom : ¬ 524288 < bufferUsed (s.tx p) + bufferShare f := by omega
  cases hf : f.kind with
  | alarm n rep => cases rep with
    | false => exact absurd hf (hk n)
    | true => simp only [enqueue, hf, hl, List.length_singleton, List.foldl_cons, List.foldl_nil, Nat.zero_add, if_neg hdepth, if_neg hroom]
  | _ => simp only [enqueue, hf, hl, List.length_singleton, List.foldl_cons, List.foldl_nil, Nat.zero_add, if_neg hdepth, if_neg hroom]

theorem superFrames_preNow {p : Nat} (what : String) {o : List Byte} {s : State} (hp : p < 4) (hn : (s.tx p).preNow.length < 1024)
    (hb : bufferUsed (s.tx p) + o.length ≤ 524288) : ((superFrames p what [o] s).tx p).preNow
      = (s.tx p).preNow ++ [{ kind := .supervisor what, octets := o, priority := 0, launch := none, late := false }] := by
  have hne : p ≠ 4 := by omega
  have henq : superFrames p what [o] s =
      enqueue p false [{ kind := .supervisor what, octets := o, priority := 0, launch := none, late := false }] s := if_neg hne
  have hjoin := enqueue_preNow (f := { kind := .supervisor what, octets := o, priority := 0, launch := none, late := false })
    (fun _ h => nomatch h) rfl hn hb
  rw [henq, hjoin, State.setTx_tx_self _ _ _ hp]

/-! ### Links -/

/-- A port with its link up or down (R404). -/
def linkSet (p : Nat) (up : Bool) (s : State) : State :=
  { s with ingress := { s.ingress with ports := vset s.ingress.ports p { s.port p with linkUp := up, partial_ := none } } }

section
variable {s : State} {p : Nat}

theorem linkSet_linkUp (up : Bool) (hp : p < 4) : ((linkSet p up s).port p).linkUp = up :=
  congrArg PortSt.linkUp (vget_vset_self _ s.ingress.ports p _ (by omega))

theorem wanLink_up_quiet (h : (s.tx p).preempt = false) :
    wanLink p true s = (linkSet p true s).modTx p fun x => { x with active := false, verify := none } := by
  simp [wanLink, h, linkSet]

theorem wanLink_up_verifies (h : (s.tx p).preempt = true) :
    wanLink p true s = verifyStart p 1 ((linkSet p true s).modTx p fun x => { x with active := false, verify := none }) := by
  simp [wanLink, h, linkSet]

theorem wanLink_down : wanLink p false s = (linkSet p false s).modTx p fun x => pauseStarts (s.port p) s.now { x with
    active := false, verify := none, expRun := none, preRun := none, tsoOpen := false } := rfl

theorem verifyStart_tx (n : Nat) (hp : p < 4) : (verifyStart p n s).tx p = { s.tx p with verify := some n, verifyAt := s.now } :=
  State.modTx_tx_self s (fun x => { x with verify := some n, verifyAt := s.now }) hp

/-- A link that comes up ends preemption, and starts its verification where it is enabled (R404). -/
theorem wanLink_up_facts (hp : p < 4) : ((wanLink p true s).port p).linkUp = true ∧ (wanLink p true s).tx p = { s.tx p with
      active := false, verify := if (s.tx p).preempt then some 1 else none, verifyAt := if (s.tx p).preempt then s.now else (s.tx p).verifyAt }
    ∧ ((s.tx p).preempt = true → (wanLink p true s).outputs.head? = some (.verify p false)) := by
  have hlink := linkSet_linkUp (s := s) true hp
  have htx : ((linkSet p true s).modTx p fun x => { x with active := false, verify := none }).tx p
      = { s.tx p with active := false, verify := none } := State.modTx_tx_self _ _ hp
  cases h : (s.tx p).preempt with
  | false =>
    rw [wanLink_up_quiet h, htx]
    exact ⟨hlink, rfl, nofun⟩
  | true =>
    rw [wanLink_up_verifies h, verifyStart_tx 1 hp, htx]
    exact ⟨hlink, rfl, fun _ => rfl⟩

theorem alarmReady_held (hp : p < 4) (ha : (s.tx p).active = false) (hr : (s.tx p).preRun.isSome = true) :
    (((Later.alarmReady p).act s).tx p).cHeld = inc (s.tx p).cHeld := by
  rw [Later.act, alarmReady, State.modTx_tx_self _ _ hp]
  simp [ha, hr]

end

end Sys2Proof.Machine
end

section
/-! SUPPORT. MKA on a port (R410, R565), and the statement on the transmit ports and MKA. -/

namespace Sys2Proof.Machine

/-! ### The rows -/

section
variable {dt : Ps} {s u : State} {k : Nat} (hu : u = s.elapse dt)
include hu

theorem exec_mkpduRx {m : Mkpdu} : exec (.mkpduRx dt k m) s = .next (if k < 5 then mkpduRx k m u else u) := hu ▸ rfl
theorem exec_mkaHello : exec (.mkaHello dt k) s = .next (if k < 5 then mkaHello k u else u) := hu ▸ rfl
theorem exec_mkaLifeTimeExpiry {peer : Nat} (hk : k < 5) : exec (.mkaLifeTimeExpiry dt k peer) s = .next (u.setMka k { u.mka k with
    peers := (u.mka k).peers.filter fun q => !(q.1 = peer && decide (q.2.2 + 6000000000000 ≤ u.now)) }) := by
  subst hu
  exact congrArg _ (if_pos hk)
theorem exec_sakInstall {kn an : Nat} :
    exec (.sakInstall dt k kn an) s = .next (if k < 5 ∧ an < 4 then sakInstall k kn an u else u) := by
  subst hu
  rfl

end

section
variable {s : State} {k : Nat}

/-! ### Peers -/

theorem mkpduRx_heard {m : Mkpdu} (ho : s.online = true) (hi : m.icvOk = true) (hc : (s.mka k).cak.isSome = true)
    (hn : ((s.mka k).peers.filter fun y => y.1 ≠ m.peer).length < 4) : mkpduRx k m s = s.setMka k { s.mka k with
      peers := ((s.mka k).peers.filter fun y => y.1 ≠ m.peer) ++ [(m.peer, m.priority, s.now)] } := by
  have hroom : ¬ 4 ≤ ((s.mka k).peers.filter fun y => decide (y.1 ≠ m.peer)).length := Nat.not_le.2 hn
  have hcak : (s.mka k).cak.isNone = false := by simpa using hc
  refine if_neg ?_
  rw [ho, hi, hcak, decide_eq_false hroom]
  decide

theorem mkpduRx_ignored {m : Mkpdu} (h : m.icvOk = false ∨ (s.mka k).cak = none) : mkpduRx k m s = s := by
  refine if_pos ?_
  obtain h | h := h <;> simp [h]

/-! ### The hello -/

theorem mkaHello_early (h : s.now < (s.mka k).helloAt + 2000000000000) : mkaHello k s = s := if_pos (by simp [h])

theorem mkaHello_noCak (h : (s.mka k).cak.isNone = true) : mkaHello k s = s := if_pos (by simp [h])

/-- Whether this device is key server is at most drawn (R565). -/
theorem keyServer_state (x : MkaPort) (s : State) : ∃ d, (keyServer x s).2 = { s with drawn := d } := by
  unfold keyServer
  split
  · exact ⟨_, rfl⟩
  · split
    · exact ⟨_, rfl⟩
    · split <;> exact ⟨_, rfl⟩

theorem keyServer_lowest {x : MkaPort} (hc : x.cak.isSome = true) (h : ∀ y, y ∈ x.peers → x.priority < y.2.1) (s : State) :
    keyServer x s = (1, s) := by
  have hcak : ¬ x.cak.isNone = true := by simpa [Option.isSome_iff_ne_none] using hc
  rw [keyServer, if_neg hcak, if_pos (List.all_eq_true.2 fun y hy => decide_eq_true (h y hy))]

theorem mkaHello_due (ho : s.online = true) (hc : (s.mka k).cak.isSome = true) (ht : (s.mka k).helloAt + 2000000000000 ≤ s.now) :
    mkaHello k s = mkpduSend k (be 1 (s.mka k).priority ++ be 1 (keyServer (s.mka k) s).1 ++ be 1 (bit (s.mka k).asked 0))
      ((keyServer (s.mka k) s).2.setMka k { s.mka k with helloAt := s.now }) := by
  have hcak : (s.mka k).cak.isNone = false := by simpa using hc
  refine if_neg ?_
  rw [ho, hcak, decide_eq_false (Nat.not_lt.2 ht)]
  decide

/-- The octets of an MKPDU of a port with this MAC address (R565). -/
def mkpduOctets (mac : Nat) (content : List Byte) : List Byte := be 6 0x0180C2000003 ++ be 6 mac ++ be 2 0x888E ++ content

theorem mkpduSend_mgmt (content : List Byte) (s : State) :
    mkpduSend 4 content s = s.emit (.supervisor 4 "MKPDU" (mkpduOctets s.host.mgmtCfg.mac content)) := rfl

theorem mkpduSend_wan (hk : k < 4) (content : List Byte) (s : State) : mkpduSend k content s =
    enqueue k false [{ kind := .eapol, octets := mkpduOctets (s.port k).mac content, priority := 0, launch := none, late := false }] s :=
  if_neg (by omega)

theorem mkaHello_wan {f : TxFrame} (hk : k < 4) (ho : s.online = true) (hc : (s.mka k).cak.isSome = true)
    (ht : (s.mka k).helloAt + 2000000000000 ≤ s.now) (hn : (s.tx k).preNow.length < 1024) (hb : bufferUsed (s.tx k) + bufferShare f ≤ 524288)
    (hf : f = { kind := .eapol, priority := 0, launch := none, late := false
                octets := mkpduOctets (s.port k).mac
                  (be 1 (s.mka k).priority ++ be 1 (keyServer (s.mka k) s).1 ++ be 1 (bit (s.mka k).asked 0)) }) :
    (mkaHello k s).mka k = { s.mka k with helloAt := s.now } ∧ (mkaHello k s).tx k = { s.tx k with preNow := (s.tx k).preNow ++ [f] } := by
  obtain ⟨d, hd⟩ := keyServer_state (s.mka k) s
  obtain ⟨w, hw, hport, htx, hmka⟩ : ∃ w, w = (keyServer (s.mka k) s).2.setMka k { s.mka k with helloAt := s.now } ∧ w.port k = s.port k
      ∧ w.tx k = s.tx k ∧ w.mka k = { s.mka k with helloAt := s.now } := by
    rw [hd]
    exact ⟨_, rfl, rfl, rfl, vget_vset_self _ _ _ _ (by omega)⟩
  rw [← htx] at hn hb
  have hjoin := enqueue_preNow (p := k) (f := f) (s := w) (by rw [hf]; exact fun _ h => nomatch h) (by rw [hf]) hn hb
  rw [mkaHello_due ho hc ht, mkpduSend_wan hk, ← hw, hport, ← hf, hjoin]
  exact ⟨hmka, by rw [State.setTx_tx_self _ _ _ hk, htx]⟩

/-! ### A new association -/

theorem sakInstall_noCak {kn an : Nat} (h : (s.mka k).cak = none) : sakInstall k kn an s = s := by
  refine if_pos ?_
  rw [h, Option.isNone_none, Bool.or_true]

section
variable {kn an : Nat} (ho : s.online = true) (hc : (s.mka k).cak.isSome = true)
include ho hc

theorem sakInstall_online : sakInstall k kn an s =
    let s1 := s.setMka k { s.mka k with
      installed := true, rx := newReceive (s.mka k) an, keyNumber := kn, an := an, installs := inc (s.mka k).installs, asked := false }
    if k < 4 then s1.modTx k fun t => { t with sa := true, pn := 0, saAsked := false } else s1 := by
  have hcak : (s.mka k).cak.isNone = false := by simpa using hc
  refine if_neg ?_
  rw [ho, hcak]
  decide

theorem sakInstall_wan (hk : k < 4) :
    (sakInstall k kn an s).mka k = { s.mka k with
      installed := true, rx := newReceive (s.mka k) an, keyNumber := kn, an := an, installs := inc (s.mka k).installs, asked := false }
    ∧ (sakInstall k kn an s).tx k = { s.tx k with sa := true, pn := 0, saAsked := false } := by
  rw [sakInstall_online ho hc]
  simp only [if_pos hk]
  rw [State.modTx_tx_self _ _ hk]
  exact ⟨vget_vset_self _ _ _ _ (by omega), rfl⟩

end

end

/-! ### The statement -/

/-- Settles O31: each row is its operation, whose equation at the branch of its hypotheses is a lemma of the three parts above. -/
theorem transmitPortsAndMkaTakeEffect : Obligations.TransmitPortsAndMkaTakeEffect := by
  unfold Obligations.TransmitPortsAndMkaTakeEffect
  refine ⟨⟨?alone, ?cuts, ?waits, ?gap, ?noSa, ?cutLeft, ?resumes, ?begins, fun s p x f t => expressHead_alarm,
      fun s p x f t => expressHead_launch, fun s p x f t => expressHead_now, ?doneExpress, ?donePreempt, fun s p r => wireOctets_unprotected,
      fun s p r k hk hp h12 => wireOctets_secTag hk hp h12, ?late, ?inTime, ?dropped, ?pauseIgnored, ?pause, ?pfc, ?pauseWaits, ?pauseStarts,
      fun p what o s => superFrames_preNow what, fun p s => alarmReady_held, ?pauseEnd, ?linkUp, ?linkDown, ?verifyTimeout,
      fun dt s u p n hu => exec_verifyResponse hu⟩,
    ⟨?heard, ?unheard, ?hello, ?helloMgmt, fun s k => mkaHello_noCak, ?helloEarly, ?lifeTime, ?sak, ?sakMgmt, ?sakNoCak⟩⟩
  case alone =>
    rintro dt s u t p f y hu hrun hwan hfree hhead hsa hpre rfl
    rw [exec_macTxStart_express hu, expressStart_alone hrun hwan hhead hsa hfree hpre]
    rfl
  case cuts =>
    rintro dt s u t p left f y r hu hrun hwan hfree hhead hsa hpre hcut hact hleft rfl
    rw [exec_macTxStart_express hu, expressStart_cuts hrun hwan hhead hsa hfree hpre hcut hact hleft]
    rfl
  case waits =>
    intro dt s u p f y r hu hrun hwan hhead hsa hpre hcut hno
    rw [exec_macTxStart_express hu, expressStart_waits hrun hwan hhead hsa hpre hcut hno]
  case gap =>
    intro dt s u p express hu h
    cases express with
    | true => rw [exec_macTxStart_express hu, expressStart_gap h]
    | false => rw [exec_macTxStart_preempt hu, preemptStart_gap h]
  case noSa =>
    intro dt s u p f y hu hrun hwan hfree hhead hsa
    rw [exec_macTxStart_express hu, expressStart_noSa hrun hwan hhead hfree hsa]
    rfl
  case cutLeft =>
    intro s p n seq rev last f r hk hl
    rw [cutLeft_session r hk hl]
    refine ⟨fun h => if_neg ?_, fun h1 h2 h3 => if_pos ⟨h1, h2, h3⟩⟩
    rintro ⟨-, -, h3⟩
    exact absurd h (Nat.not_lt.2 h3)
  case resumes =>
    intro dt s u p left r hu hrun hwan hfree hdue hpre hcut
    rw [exec_macTxStart_preempt hu, preemptStart_resumes hrun hwan hfree hdue hpre hcut]
    rfl
  case begins =>
    rintro dt s u t p f y hu hrun hwan hfree hdue hpre hhead hsa rfl
    rw [exec_macTxStart_preempt hu, preemptStart_begins hrun hwan hfree hdue hpre hhead hsa]
    rfl
  case doneExpress =>
    intro dt s u p r hu hrun hcut hdone
    rw [exec_macTxDone hu, macDone_express hcut hdone hrun]
    rfl
  case donePreempt =>
    intro dt s u p r hu hrun hcut hdone
    rw [exec_macTxDone hu, macDone_preempt hcut hdone hrun]
    rfl
  case late =>
    intro dt s u p f t hu hq hj hd hl hp
    rw [exec_launchDecision hu, launchDecide_express_late hq hj hd hl hp]
  case inTime =>
    intro dt s u p f t hu hq hj hd hl
    rw [exec_launchDecision hu, launchDecide_express_inTime hq hj hd hl]
  case dropped =>
    intro dt s u p n seq rev last f t hu hp hq hj hk hd hl hdrop
    exact ⟨_, exec_launchDecision hu, launchDecide_preempt_dropped hp hq hj hk hd hl hdrop⟩
  case pauseIgnored =>
    intro dt s u p quanta hu h
    rw [exec_pauseRx hu, pauseRx_ignored h]
  case pause =>
    intro dt s u p i quanta hu hp hi ho hpre
    refine ⟨_, exec_pauseRx hu, ?_⟩
    have hrun : ¬ (u.tx p).preRun.isSome = true := by simp [hpre]
    rw [pauseRx_pause ho, if_neg hrun, State.setTx_tx_self _ _ _ hp, pauseStarts_pauseTo _ _ _ hi, (pauseStarts_counts _ _ _).1]
    simp [pauseAsked, vget, hi]
  case pfc =>
    intro dt s u p i mask quanta hu hp hi ho hpre hnext
    refine ⟨_, exec_pauseRx hu, ?_⟩
    have hrun : ¬ (u.tx p).preRun.isSome = true := by simp [hpre]
    have hasked : vget none (pfcAsked (u.tx p) mask quanta).pauseNext i = if mask.testBit i then some (quanta.getD i 0) else none := by
      rw [← hnext]
      simp [pfcAsked, vget, hi]
    rw [pauseRx_pfc ho, if_neg hrun, State.setTx_tx_self _ _ _ hp, pauseStarts_pauseTo _ _ _ hi, (pauseStarts_counts _ _ _).2, hasked]
    refine ⟨rfl, ?_⟩
    cases mask.testBit i <;> rfl
  case pauseWaits =>
    intro dt s u p i quanta hu hp hi ho hpre
    refine ⟨_, exec_pauseRx hu, ?_⟩
    rw [pauseRx_pause ho, if_pos hpre, State.setTx_tx_self _ _ _ hp]
    simp [pauseAsked, vget, hi]
  case pauseStarts =>
    intro p i q ps now x hi hq
    refine ⟨?_, pauseStarts_pauseNext ps now x hi⟩
    rw [pauseStarts_pauseTo ps now x hi, hq]
    rfl
  case pauseEnd =>
    intro dt s u p i hu hp hi
    refine ⟨_, exec_pauseEnd hu, ?_⟩
    rw [State.modTx_tx_self _ _ hp]
    simp [vget, hi]
  case linkUp =>
    intro dt s u p hu ho hp
    exact ⟨_, exec_wanLinkChange hu ho hp, wanLink_up_facts hp⟩
  case linkDown =>
    intro dt s u p hu ho hp
    refine ⟨_, exec_wanLinkChange hu ho hp, ?_⟩
    rw [wanLink_down]
    exact ⟨linkSet_linkUp false hp, State.modTx_tx_self _ _ hp⟩
  case verifyTimeout =>
    intro dt s u p n hu hv hd
    rw [exec_verifyTimeout hu hv hd]
    rfl
  case heard =>
    intro dt s u k m hu hk ho hi hc hn
    rw [exec_mkpduRx hu, if_pos hk, mkpduRx_heard ho hi hc hn]
  case unheard =>
    intro dt s u k m hu h
    rw [exec_mkpduRx hu, mkpduRx_ignored h, ite_self]
  case hello =>
    intro dt s u k f hu hk ho hc ht hn hb hf
    have hk5 : k < 5 := by omega
    obtain ⟨hmka, htx⟩ := mkaHello_wan hk ho hc ht hn hb (hf.trans (by simp only [mkpduOctets, List.append_assoc]))
    exact ⟨_, (exec_mkaHello hu).trans (congrArg _ (if_pos hk5)), hmka, htx⟩
  case helloMgmt =>
    intro dt s u hu ho hc ht hpr
    rw [exec_mkaHello hu, if_pos (by decide), mkaHello_due ho hc ht, keyServer_lowest hc hpr, mkpduSend_mgmt]
    simp only [mkpduOctets, List.append_assoc]
    rfl
  case helloEarly =>
    intro dt s u k hu h
    rw [exec_mkaHello hu, mkaHello_early h, ite_self]
  case lifeTime =>
    intro dt s u k peer pr t hu hk hpeers
    rw [exec_mkaLifeTimeExpiry hu hk, hpeers]
    by_cases ht : t + 6000000000000 ≤ u.now <;> simp [ht]
  case sak =>
    intro dt s u k kn an hu hk ha ho hc
    have hok : k < 5 ∧ an < 4 := ⟨by omega, ha⟩
    exact ⟨_, (exec_sakInstall hu).trans (congrArg _ (if_pos hok)), sakInstall_wan ho hc hk⟩
  case sakMgmt =>
    intro dt s u kn an hu ha ho hc
    rw [exec_sakInstall hu, if_pos ⟨by decide, ha⟩, sakInstall_online ho hc]
    rfl
  case sakNoCak =>
    intro dt s u k kn an hu h
    rw [exec_sakInstall hu, sakInstall_noCak h, ite_self]

end Sys2Proof.Machine
end

section
/-! SUPPORT. What sending a frame leaves alone: the host part, stream ingress and the system registers; and what the functional reads of
SRAM words leave alone beside the integrity state (R170, R187, R393, R402, R499, R504, R525). -/

namespace Sys2Proof.Machine

/-- The host part, stream ingress and the system registers: what sending a frame leaves alone. -/
def State.unsent (s : State) : HostSt × IngressSt × SysSt := (s.host, s.ingress, s.sys)

theorem host_of_unsent {s t : State} (h : t.unsent = s.unsent) : t.host = s.host := congrArg Prod.fst h

theorem ingress_of_unsent {s t : State} (h : t.unsent = s.unsent) : t.ingress = s.ingress := congrArg (fun x => x.2.1) h

theorem sys_of_unsent {s t : State} (h : t.unsent = s.unsent) : t.sys = s.sys := congrArg (fun x => x.2.2) h

theorem ctx_of_unsent {s t : State} (h : t.unsent = s.unsent) (i : Nat) : t.ctx i = s.ctx i :=
  congrArg (fun g : IngressSt => tabGet ({} : Ctx) i g.ctxs) (ingress_of_unsent h)

/-! ### Peer frames and sessions -/

@[simp] theorem sendA_unsent (k type : Nat) (payload : List Byte) (s : State) : (sendA k type payload s).unsent = s.unsent := by
  unfold sendA
  split <;> rfl

@[simp] theorem sendB_unsent (k type : Nat) (payload : List Byte) (s : State) : (sendB k type payload s).unsent = s.unsent := by
  unfold sendB
  extract_lets
  split <;> rfl

@[simp] theorem mirrorItem_unsent (code : Nat) (content : List Byte) (s : State) : (mirrorItem code content s).unsent = s.unsent := by
  unfold mirrorItem
  split
  · exact foldl_keeps_read State.unsent (fun s p => sendB_unsent 3 0x07 p s) _ s
  · rfl

@[simp] theorem mirrorCtx_unsent (i : Nat) (s : State) : (mirrorCtx i s).unsent = s.unsent := mirrorItem_unsent ..

@[simp] theorem sendGen_unsent (i home : Nat) (gen : BitVec 4) (s : State) : (sendGen i home gen s).unsent = s.unsent := by
  unfold sendGen
  split
  · rfl
  · exact sendA_unsent ..

@[simp] theorem refreshSession_unsent (n : Nat) (s : State) : (refreshSession n s).unsent = s.unsent := by
  unfold refreshSession
  extract_lets
  split
  · split
    · rfl
    · split <;> rfl
  · split
    · rfl
    · split <;> rfl
  · rfl

@[simp] theorem refreshSessions_unsent (s : State) : (refreshSessions s).unsent = s.unsent :=
  foldl_keeps_read State.unsent (fun s n => refreshSession_unsent n s) _ s

/-! ### Frames in the transmit queues -/

@[simp] theorem countBufDrop_unsent (k : TxKind) (s : State) : (countBufDrop k s).unsent = s.unsent := by
  unfold countBufDrop
  split <;> rfl

@[simp] theorem lateFrame_unsent (p : Nat) (f : TxFrame) (s : State) : (lateFrame p f s).2.unsent = s.unsent := by
  unfold lateFrame
  split
  · dsimp only
    split <;> rfl
  · rfl

@[simp] theorem lateFrames_unsent (p : Nat) (late : TxFrame → Bool) (fs : List TxFrame) (s : State) :
    (lateFrames p late fs s).2.unsent = s.unsent := by
  induction fs generalizing s with
  | nil => rfl
  | cons f fs ih =>
    refine (ih _).trans ?_
    split
    · exact lateFrame_unsent p f s
    · rfl

@[simp] theorem enqueue_unsent (p : Nat) (express : Bool) (fs : List TxFrame) (s : State) : (enqueue p express fs s).unsent = s.unsent := by
  unfold enqueue
  split
  · rfl
  · dsimp only
    split
    all_goals
      split
      · exact countBufDrop_unsent _ _
      split
      · exact countBufDrop_unsent _ _
    · refine foldl_keeps_read State.unsent (fun _ _ => ?_) _ _
      rfl
    · exact lateFrames_unsent _ _ _ _
    · rfl
    · exact lateFrames_unsent _ _ _ _
    · rfl

/-! ### Frames of the supervisor -/

@[simp] theorem superFrames_unsent (p : Nat) (what : String) (fs : List (List Byte)) (s : State) :
    (superFrames p what fs s).unsent = s.unsent := by
  unfold superFrames
  split
  · rfl
  · exact enqueue_unsent ..

@[simp] theorem superDatagram_unsent (p : Nat) (what : String) (r : Route) (proto : Nat) (body : List Byte) (s : State) :
    (superDatagram p what r proto body s).unsent = s.unsent := by
  unfold superDatagram
  split
  · exact superFrames_unsent ..
  · exact superFrames_unsent ..

@[simp] theorem superSegment_unsent (p : Nat) (what : String) (r : Route) (sport dport : Nat) (seq : BitVec 32) (flags : Byte)
    (data : List Byte) (s : State) : (superSegment p what r sport dport seq flags data s).unsent = s.unsent :=
  superDatagram_unsent ..

@[simp] theorem sourceSegment_unsent (what : String) (c : Ctx) (flags : Byte) (data : List Byte) (s : State) :
    (sourceSegment what c flags data s).unsent = s.unsent :=
  superSegment_unsent ..

@[simp] theorem sendCommand_unsent (i cmd : Nat) (s : State) : (sendCommand i cmd s).unsent = s.unsent := by
  unfold sendCommand
  extract_lets
  split
  · split
    · exact sourceSegment_unsent ..
    · rfl
  · exact superDatagram_unsent ..

@[simp] theorem groupReport_unsent (port : Nat) (v6 : Bool) (s : State) : (groupReport port v6 s).unsent = s.unsent := by
  unfold groupReport
  extract_lets
  split <;> exact superDatagram_unsent ..

@[simp] theorem answerIp_unsent (port : Nat) (f : List Byte) (i : IpPkt) (s : State) : (answerIp port f i s).unsent = s.unsent := by
  unfold answerIp
  extract_lets
  split_ifs
  · exact superDatagram_unsent ..
  · exact groupReport_unsent ..
  · exact superDatagram_unsent ..
  · exact groupReport_unsent ..
  · exact superDatagram_unsent ..
  · rfl

/-! ### Functional reads and writes of SRAM words -/

/-- A functional read counts and logs what it finds, and no more (R525, R526). -/
theorem readWords_eq (cls : Nat) (p : Nat → Nat → Bool) (s : State) : ∃ g, readWords cls p s = { s with integ := g } := by
  unfold readWords
  generalize injectedWords cls p s = ws
  induction ws generalizing s with
  | nil => exact ⟨_, rfl⟩
  | cons h ws ih =>
    obtain ⟨g, hg, -⟩ := countError_eq cls (logAddress cls h.1 h.2) (flipsSyndrome (injectedFlips cls h.1 h.2 s))
      (flipsRead (injectedFlips cls h.1 h.2 s)) s
    obtain ⟨k, hk⟩ := ih { s with integ := g }
    exact ⟨k, by rw [List.foldl_cons, readWord, hg, hk]⟩

@[simp] theorem readWords_unsent (cls : Nat) (p : Nat → Nat → Bool) (s : State) : (readWords cls p s).unsent = s.unsent := by
  obtain ⟨g, hg⟩ := readWords_eq cls p s
  rw [hg]
  rfl

@[simp] theorem writeWords_unsent (cls : Nat) (p : Nat → Nat → Bool) (s : State) : (writeWords cls p s).unsent = s.unsent := rfl

theorem touch_of_readable {cls : Nat} {p : Nat → Nat → Bool} {s : State} (h : badWords cls p s = []) : touch cls p s = readWords cls p s := by
  rw [touch, h, List.foldl_nil]

end Sys2Proof.Machine
end

section
/-! SUPPORT. The commands of the streams: how those that apply at the next grid edge are accepted, what a removal and a rebind leave of their
context, and the statement on the commands of the streams (R177, R181, R184, R187, R190 to R193, R202, R203). -/

namespace Sys2Proof.Machine

/-! ### Acceptance and refusal -/

section
variable {dt : Ps} {q : Packet} {s u : State} (hu : u = arrived q (s.elapse dt))
include hu

/-- A command of `gridCmd` whose effect at the edge answers OK is accepted in the modes that it names. -/
theorem gridCmd_accepted {op n : Nat} {modes : Mode → Bool} {checks : State → List Byte → List (Bool × Nat)}
    {key : List Byte → Option (Nat × List Nat)} {data : List Byte} {t : State} (hr : ready (s.elapse dt) q op = true)
    (hm : modes u.sys.mode = true) (hl : q.params.length = n) (hc : firstBad (checks u.flushed q.params) = none)
    (hg : gridOut op u.nextGridStamp q.params u.flushed = .ok data t) :
    executed (command (gridCmd op modes (lenIs n) checks key) dt q s) q op data true (u.at u.nextGrid (.command op q.params)) :=
  executed_of_grid (gridCmd op modes (lenIs n) checks key) dt q s u t data true hu hr hm (beq_iff_eq.2 hl) hc rfl hg rfl

/-- A command that answers at once with what `State.unsent` names of the host part and the system registers as it was. -/
theorem command_executed {d : Cmd} {data : List Byte} {j : Bool} {v : State} (hr : ready (s.elapse dt) q d.opcode = true)
    (hm : d.modes u.sys.mode = true) (hl : d.lenOk q.params = true) (hc : firstBad (d.checks u q.params) = none)
    (hrun : d.run u q.ifc q.params = .ok data v) (hjn : d.journaled q.params data = j) (hv : v.unsent = u.unsent) :
    executed (command d dt q s) q d.opcode data j v :=
  timeRead_executed hu hr hm hl hc hrun hjn (sys_of_unsent hv) (host_of_unsent hv)

/-- A command that no journal entry follows and whose body answers a status with an effect is refused, and has that effect (R484, R526). -/
theorem refusedWith_of_fail {d : Cmd} {status : Nat} {v : State} (hr : ready (s.elapse dt) q d.opcode = true)
    (hm : d.modes u.sys.mode = true) (hl : d.lenOk q.params = true) (hc : firstBad (d.checks u q.params) = none)
    (hrun : d.run u q.ifc q.params = .fail status 0 v) (hs : status ≠ stOk) (he : status ≠ stBadEpoch) (hb : status ≠ stBadParam)
    (hjn : d.journaled q.params [] = false) : refusedWith (command d dt q s) q d.opcode status 0xFFFF v := by
  subst hu
  rw [(arrived_parts q _).1] at hm
  have ho := (cmdOutcome_arrived hr hm hl hc).trans hrun
  obtain ⟨a, b, x, _⟩ := closeCommand_direct (packetCmd d q) false status 0 [] v rfl
  rw [replyBytes_refused d q _ _ hs he, if_neg hb] at b
  refine ⟨_, rfl, ?_⟩
  rw [runCommand_ready hr]
  simp only [executeCommand, packetCmd, ho, finishCommand, hjn, Bool.false_and, Bool.false_eq_true, if_false]
  exact ⟨b, x, a⟩

end

/-! ### Contexts -/

@[simp] theorem requestCfg_host (i : Nat) (s : State) : (requestCfg i s).host = s.host := by
  unfold requestCfg
  extract_lets
  split
  · rfl
  · exact (State.setCtx_host ..).trans (host_of_unsent (sendCommand_unsent ..))

/-- A request for a configuration leaves its instant in the context, and nothing else of it (R187). -/
theorem requestCfg_ctx (i : Nat) (s : State) : ∃ t, (requestCfg i s).ctx i = { s.ctx i with lastRequestAt := t } := by
  unfold requestCfg
  extract_lets
  split
  · exact ⟨(s.ctx i).lastRequestAt, rfl⟩
  · refine ⟨some s.now, ?_⟩
    rw [State.modCtx, State.setCtx_ctx_self, ctx_of_unsent (sendCommand_unsent ..)]

/-- A removal leaves the context FREE with the next GEN (R190, R193). -/
theorem streamRemove_ctx (i : Nat) (s : State) : (streamRemove i s).ctx i = { gen := (s.ctx i).gen + 1 } := by
  unfold streamRemove
  extract_lets c gen s1 s2 s3
  have h3 : s3.ctx i = { gen := gen } := (ctx_of_unsent (writeWords_unsent ..) i).trans (State.setCtx_ctx_self s2 i _)
  calc (mirrorCtx i (refreshSessions s3)).ctx i
    _ = s3.ctx i := ctx_of_unsent ((mirrorCtx_unsent ..).trans (refreshSessions_unsent s3)) i
    _ = { gen := gen } := h3

/-- The context that a rebind leaves, but for the instant of a request for its configuration (R190 to R192). -/
def Ctx.rebound (c : Ctx) (at_ : Stamp) (k : StreamKey) : Ctx :=
  { c with
    key := k, gen := c.gen + 1, state := .awaitCfg, cfg := none, rejectReason := 0, lastTag := 0, rebindAt := at_
    quarantine := decide (k.srcIp = c.key.srcIp ∧ k.srcPort = c.key.srcPort)
    tcpUp := false, tcpBuf := [], tcpArr := [], tcpScan := false, tcpTryAt := none, statRequestAt := none }

theorem streamRebind_ctx (a : Stamp) (i : Nat) (k : StreamKey) (s : State) :
    ∃ t, (streamRebind a i k s).ctx i = { (s.ctx i).rebound a k with lastRequestAt := t } := by
  unfold streamRebind
  extract_lets c gen same s1 s2 s3
  have h2 : s2.ctx i = c.rebound a k := State.setCtx_ctx_self s1 i _
  have h3 : s3.unsent = s2.unsent := by
    unfold s3
    rw [writeWords_unsent]
    split
    · exact sendGen_unsent ..
    · rfl
  obtain ⟨t, ht⟩ := requestCfg_ctx i (refreshSessions s3)
  refine ⟨t, ?_⟩
  calc (mirrorCtx i (requestCfg i (refreshSessions s3))).ctx i
    _ = (requestCfg i (refreshSessions s3)).ctx i := ctx_of_unsent (mirrorCtx_unsent ..) i
    _ = { (refreshSessions s3).ctx i with lastRequestAt := t } := ht
    _ = { c.rebound a k with lastRequestAt := t } := by rw [ctx_of_unsent ((refreshSessions_unsent s3).trans h3), h2]

/-! ### Configurations -/

theorem offerConfig_frame (i : Nat) (f : List Byte) (s : State) : (offerConfig i f s).host = s.host ∧ (offerConfig i f s).sys = s.sys := by
  unfold offerConfig
  extract_lets c _ s1
  have h1 : s1.host = s.host ∧ s1.sys = s.sys := by
    unfold s1
    split
    · exact ⟨rfl, rfl⟩
    · dsimp only
      split
      · exact ⟨(host_of_unsent (sendCommand_unsent ..)).trans (State.setCtx_host ..),
          (sys_of_unsent (sendCommand_unsent ..)).trans (State.setCtx_sys ..)⟩
      · exact ⟨rfl, rfl⟩
  have h2 : (refreshSessions (mirrorCtx i s1)).unsent = s1.unsent := (refreshSessions_unsent _).trans (mirrorCtx_unsent i s1)
  split
  · exact ⟨rfl, rfl⟩
  · exact ⟨(host_of_unsent h2).trans h1.1, (sys_of_unsent h2).trans h1.2⟩

/-! ### The commands -/

theorem streamAdd_ok {p : List Byte} {s : State} {i : Nat} (hi : fld p 0 2 = i) (h : fld p 2 1 ≠ 1 ∨ tcpStreams s < 512) :
    streamAdd p s = .ok (be 1 (s.ctx i).gen.toNat)
      (mirrorCtx i (requestCfg i (writeWords 0 (contextWords i 0) (s.setCtx i (addCtx p (s.ctx i)))))) := by
  subst hi
  refine if_neg ?_
  rintro ⟨htcp, hfull⟩
  exact h.elim (absurd htcp) (absurd hfull ∘ Nat.not_le.2)

theorem streamRebindOut_ok {at_ : Stamp} {p : List Byte} {s v : State} {i : Nat} (hi : fld p 0 2 = i)
    (h : (s.ctx i).key.tcp = false ∨ tcpStreams s < 512) (hv : v = streamRebind at_ i (rebindKey s p) s) :
    streamRebindOut at_ p s = .ok (be 1 (v.ctx i).gen.toNat ++ be 1 (bit (v.ctx i).quarantine 0) ++ stampBytes (v.ctx i).rebindAt) v := by
  subst hi hv
  refine if_neg ?_
  rw [Bool.and_eq_true, decide_eq_true_iff]
  rintro ⟨htcp, hfull⟩
  exact h.elim (fun hf => Bool.noConfusion (hf.symm.trans htcp)) (absurd hfull ∘ Nat.not_le.2)

/-- The checks of a context that exists and is bound pass (R202). -/
theorem ctxThere_ok {p : List Byte} {s : State} {i : Nat} (hi : fld p 0 2 = i) (hr : i ≤ 16383) (hf : (s.ctx i).state ≠ .free) :
    firstBad (ctxThere s p) = none := by
  subst hi
  simp [ctxThere, inRange, hr, hf]

/-- A reading of a context's words that finds them all readable answers its data. -/
theorem replyRead_ok {cls : Nat} {p : Nat → Nat → Bool} {s : State} (data : List Byte) (h : badWords cls p s = []) :
    replyRead cls p data s = .ok data (readWords cls p s) := if_pos (List.isEmpty_iff.2 h)

theorem replyRead_fail {cls : Nat} {p : Nat → Nat → Bool} {s : State} (data : List Byte) (h : badWords cls p s ≠ []) :
    replyRead cls p data s = .fail stIntegrity 0 (readWords cls p s) := if_neg (mt List.isEmpty_iff.1 h)

theorem cntBytes_fresh : cntBytes (ctxCounters {}) = List.replicate 32 0 := rfl

theorem streamGetCounters_kept {p : List Byte} {s : State} (ifc : Nat) (h2 : fld p 2 1 = 0)
    (hb : badWords 0 (contextWords (fld p 0 2) 0) s = []) : cmdStreamGetCounters.run s ifc p
      = .ok (if (s.ctx (fld p 0 2)).state = .free then List.replicate 32 0 else cntBytes (ctxCounters (s.ctx (fld p 0 2))))
          (readWords 0 (contextWords (fld p 0 2) 0) s) := by
  simp only [cmdStreamGetCounters, replyRead_ok _ hb, h2]
  by_cases hfree : (s.ctx (fld p 0 2)).state = .free
  · rw [if_pos hfree, ← cntBytes_fresh]
    simp [hfree]
  · simp [hfree]

theorem streamGetCounters_cleared {p : List Byte} {s : State} (ifc : Nat) (h2 : fld p 2 1 = 1)
    (hf : (s.ctx (fld p 0 2)).state ≠ .free) (hb : badWords 0 (contextWords (fld p 0 2) 0) s = []) :
    cmdStreamGetCounters.run s ifc p = .ok (cntBytes (ctxCounters (s.ctx (fld p 0 2))))
      ((readWords 0 (contextWords (fld p 0 2) 0) s).modCtx (fld p 0 2) clearCtx) := by
  simp [cmdStreamGetCounters, replyRead_ok _ hb, h2, hf]

/-! ### The statement -/

/-- Settles O11: the commands that apply at the next grid edge are accepted by `gridCmd_accepted`, and `Later.act_command` reads off what
they do there; the others are uses of `command_executed`; `streamRemove_ctx` and `streamRebind_ctx` say what the edge leaves of the context. -/
theorem streamCommandsTakeEffect : Obligations.StreamCommandsTakeEffect := by
  unfold Obligations.StreamCommandsTakeEffect
  refine ⟨⟨?add, ?addAct, ?remove, fun p v t ht => ht ▸ rfl, ?rebind, ?rebindAct, ?load, ?get, ?getBad, ?counters, ?clear, ?send, ?standby⟩,
    fun i u _ => streamRemove_ctx i u, ?rebound⟩
  case add =>
    rintro dt q s u w i hu hr hm hl rfl hi hr0 hfree h2 h3 hip hkey h26 h27 htcp
    refine gridCmd_accepted hu hr (by simp [notStandby, hm]) hl ?_ (streamAdd_ok hi ?_)
    · subst hi
      simp [inRange, hr0, hfree, h2, h3, hip, hkey, h26, h27]
    · omega
  case addAct =>
    intro p v i hi htcp
    subst hi
    exact Later.act_command (streamAdd_ok rfl htcp) (by rw [host_of_unsent (mirrorCtx_unsent ..), requestCfg_host]; rfl)
  case remove =>
    rintro dt q s u w i hu hr hm hl rfl hi hr0 hf
    subst hi
    exact gridCmd_accepted hu hr (by simp [notStandby, hm]) hl (ctxThere_ok rfl hr0 hf) rfl
  case rebind =>
    rintro dt q s u w v i k hu hr hm hl rfl hi hr0 hf hip hk hkey htcp hv
    subst hi
    have hk : k = rebindKey u.flushed q.params := hk
    subst hk
    refine gridCmd_accepted hu hr (by simp [notStandby, hm]) hl ?_ (streamRebindOut_ok rfl htcp hv)
    obtain hkey | hkey := hkey <;> simp [ctxThere, inRange, hr0, hf, hip, hkey]
  case rebindAct =>
    rintro p v t i hi htcp rfl
    subst hi
    simp only [Later.act, gridOut, streamRebindOut_ok rfl htcp rfl]
    rfl
  case load =>
    rintro dt q s u v i hu hr hm hl4 hl hi hr0 hf hsize hn rfl
    subst hi
    obtain ⟨hh, hs⟩ := offerConfig_frame (fld q.params 0 2) (q.params.drop 4) u
    refine timeRead_executed (d := cmdStreamLoadConfig) hu hr (by simp [cmdStreamLoadConfig, notStandby, hm]) ?_ ?_ rfl rfl hs hh
    · simp [cmdStreamLoadConfig, hl4, ← hl]
    · simp [cmdStreamLoadConfig, ctxThere, inRange, hr0, hf, hsize, hn]
  case get =>
    intro dt q s u i hu hr hl hi hr0 hb
    subst hi
    exact command_executed (d := cmdStreamGet) hu hr rfl (beq_iff_eq.2 hl) (by simp [cmdStreamGet, inRange, hr0]) (replyRead_ok _ hb) rfl
      (readWords_unsent ..)
  case getBad =>
    intro dt q s u i hu hr hl hi hr0 hb
    subst hi
    exact refusedWith_of_fail (d := cmdStreamGet) hu hr rfl (beq_iff_eq.2 hl) (by simp [cmdStreamGet, inRange, hr0]) (replyRead_fail _ hb)
      nofun nofun nofun rfl
  case counters =>
    intro dt q s u i hu hr hl hi hr0 h2 hb
    subst hi
    exact command_executed (d := cmdStreamGetCounters) hu hr rfl (beq_iff_eq.2 hl) (by simp [cmdStreamGetCounters, inRange, hr0, h2])
      (streamGetCounters_kept _ h2 hb) (by simp [cmdStreamGetCounters, h2]) (readWords_unsent ..)
  case clear =>
    intro dt q s u i hu hr hl hi hr0 h2 hf hb
    subst hi
    have hread := readWords_unsent 0 (contextWords (fld q.params 0 2) 0) u
    exact timeRead_executed (d := cmdStreamGetCounters) hu hr rfl (beq_iff_eq.2 hl) (by simp [cmdStreamGetCounters, inRange, hr0, h2])
      (streamGetCounters_cleared _ h2 hf hb) (by simp [cmdStreamGetCounters, h2]) ((State.setCtx_sys ..).trans (sys_of_unsent hread))
      ((State.setCtx_host ..).trans (host_of_unsent hread))
  case send =>
    intro dt q s u i hu hr hm hl hi hr0 hf
    subst hi
    exact command_executed (d := cmdStreamSendCommand) hu hr (by simp [cmdStreamSendCommand, notStandby, hm]) (beq_iff_eq.2 hl)
      (ctxThere_ok rfl hr0 hf) rfl rfl (sendCommand_unsent ..)
  case standby =>
    intro dt q s u hu hr hm
    exact refusedWith_of_outcome cmdStreamAdd dt q s u hu hr stWrongMode 0 nofun nofun (cmdOutcome_wrongMode hu hr (by rw [hm]; rfl))
  case rebound =>
    rintro a i k u c - rfl
    obtain ⟨t, ht⟩ := streamRebind_ctx a i k u
    rw [ht]
    exact ⟨rfl, rfl, rfl, rfl, rfl, rfl⟩

end Sys2Proof.Machine
end

section
/-! SUPPORT. The commands of the WAN ports, the receive rings and the counters of ingress, and the statement on them (R162, R167, R170, R198,
R204, R205, R462, R463). -/

namespace Sys2Proof.Machine

theorem firstBad_eq_none_iff {l : List (Bool × Nat)} : firstBad l = none ↔ ∀ x ∈ l, x.1 = true := by
  induction l with
  | nil => simp
  | cons x l ih =>
    obtain ⟨b, o⟩ := x
    rw [firstBad_cons_eq_none, ih, List.forall_mem_cons]

section
variable {dt : Ps} {q : Packet} {s u : State} (hu : u = arrived q (s.elapse dt))
include hu

/-- A command that answers at once with the journal, the interfaces and the system registers as they were. -/
theorem command_executed_of_parts {d : Cmd} {data : List Byte} {j : Bool} {v : State} (hr : ready (s.elapse dt) q d.opcode = true)
    (hm : d.modes u.sys.mode = true) (hl : d.lenOk q.params = true) (hc : firstBad (d.checks u q.params) = none)
    (hrun : d.run u q.ifc q.params = .ok data v) (hjn : d.journaled q.params data = j) (hs : v.sys = u.sys)
    (hj : v.host.journal = u.host.journal) (hi : ∀ i, v.iface i = u.iface i) : executed (command d dt q s) q d.opcode data j v := by
  refine executed_of_run d dt q s u hu hr hm hl hc data v hrun j hjn ?_ ?_ (congrArg Iface.epoch (hi _))
  · rw [hs, hu]
    exact arrived_running hr
  · subst hu
    exact journalMustCommit_of_journal hj (arrived_journal hr)

end

/-! ### Receive rings -/

/-- A ring switched on or off leaves the system registers, and of the host part all but the interrupt causes and their messages (R462, R463). -/
theorem setRing_frame (p : List Byte) (s : State) (r : Nat) : ((setRing p s r).hostBase, (setRing p s r).sys) = (s.hostBase, s.sys) := by
  have hoff (t : State) : ((ringOff r t).hostBase, (ringOff r t).sys) = (t.hostBase, t.sys) :=
    Prod.ext (hostBase_of_host (ringOff_host r t)) (ringOff_sys r t)
  have hcause (n : Nat) (t : State) : ((raiseCause n t).hostBase, (raiseCause n t).sys) = (t.hostBase, t.sys) :=
    Prod.ext (raiseCause_hostBase n t) (raiseCause_sys n t)
  unfold setRing
  extract_lets x on s1
  have h1 : (s1.hostBase, s1.sys) = (s.hostBase, s.sys) := by
    unfold s1
    split
    · rfl
    · split
      · split
        · dsimp only
          rw [hoff]
          split
          · rfl
          · exact hcause _ _
        · exact hoff s
      · rfl
  exact h1

theorem setRings_frame (p : List Byte) (rs : List Nat) (s : State) :
    ((rs.foldl (setRing p) s).hostBase, (rs.foldl (setRing p) s).sys) = (s.hostBase, s.sys) :=
  foldl_keeps_read (fun s => (s.hostBase, s.sys)) (setRing_frame p) rs s

@[simp] theorem State.setRxRing_rxRing_self (s : State) {r : Nat} (x : RxRing) (h : r < 8) : (s.setRxRing r x).rxRing r = x :=
  vget_vset_self _ _ _ _ h

theorem vset_vset {α : Type} {n : Nat} (v : Vector α n) (i : Nat) (x y : α) : vset (vset v i x) i y = vset v i y := by
  unfold vset
  split <;> simp

@[simp] theorem State.setRxRing_setRxRing (s : State) (r : Nat) (x y : RxRing) : (s.setRxRing r x).setRxRing r y = s.setRxRing r y := by
  simp only [State.setRxRing, vset_vset]

/-- A ring that is to run runs with its new BUF_UNITS, from buffer 0 unless it ran before (R462). -/
theorem setRing_on {r : Nat} {p : List Byte} (s : State) (hr : r < 8) (hon : fld p (2 * r) 1 = 1) : setRing p s r = s.setRxRing r { s.rxRing r with
    enabled := true, units := fld p (2 * r + 1) 1, head := if (s.rxRing r).enabled then (s.rxRing r).head else 0 } := by
  simp [setRing, hon, hr]

/-- The range checks of INGRESS_SET_RINGS pass (R202, R462). -/
theorem setRings_checks {p : List Byte} {u : State}
    (hring : ∀ r, r < 8 → ringEntryOk u p r = true ∧ 1 ≤ fld p (2 * r + 1) 1 ∧ fld p (2 * r + 1) 1 ≤ 64)
    (hclass : ∀ i, i < 4 → fld p (16 + i) 1 ≤ 7 ∨ fld p (16 + i) 1 = 0xFF) : firstBad (cmdIngressSetRings.checks u p) = none := by
  rw [firstBad_eq_none_iff]
  intro x hx
  obtain hx | hx := List.mem_append.1 hx
  · obtain ⟨r, hr, hx⟩ := List.mem_flatMap.1 hx
    obtain ⟨hok, hlo, hhi⟩ := hring r (List.mem_range.1 hr)
    obtain rfl | rfl : x = _ ∨ x = _ := by simpa using hx
    · exact hok
    · simp [inRange, hlo, hhi]
  · obtain ⟨i, hi, rfl⟩ := List.mem_map.1 hx
    simpa [inRange] using hclass i (List.mem_range.1 hi)

/-! ### Ports, stream ports and counters -/

theorem setPort_checks {p : List Byte} {u : State} (h0 : fld p 0 1 ≤ 3) (h1 : fld p 1 1 ≤ 1) (h2 : fld p 2 1 ≤ 1)
    (h12 : fld p 1 1 = 0 ∨ fld p 2 1 = 0) (h3 : fld p 3 1 ≤ 2) : firstBad (cmdIngressSetPort.checks u p) = none := by
  have hfec : fld p 2 1 ≤ if fld p 1 1 = 1 then 0 else 1 := by
    split <;> omega
  simp [cmdIngressSetPort, inRange, h0, h1, h3, hfec]

theorem setStreamPorts_checks {p : List Byte} {u : State} {n : Nat} (hn : fld p 0 1 = n) (h1 : 1 ≤ n) (h4 : n ≤ 4)
    (hp : ∀ i, i < n → fld p (1 + 2 * i) 2 ≠ 0) : firstBad (cmdIngressSetStreamPorts.checks u p) = none := by
  subst hn
  rw [firstBad_eq_none_iff]
  intro x hx
  obtain rfl | hx := List.mem_cons.1 hx
  · simp [inRange, h1, h4]
  · obtain ⟨i, hi, rfl⟩ := List.mem_map.1 hx
    exact bne_iff_ne.2 (hp i (lt_of_lt_of_le (List.mem_range.1 hi) (min_le_left _ _)))

/-- Once cleared, every counter of R204 and R205 is 0. -/
theorem clearIngress_counters (g : IngressSt) (x : Cnt)
    (hx : x ∈ (clearIngress g).ports.toList.flatMap portCounters ++ ingressCounters (clearIngress g)) : x = 0 := by
  obtain hx | hx := List.mem_append.1 hx
  · obtain ⟨p, hp, hx⟩ := List.mem_flatMap.1 hx
    simp only [clearIngress, Vector.toList_map, List.mem_map] at hp
    obtain ⟨p, -, rfl⟩ := hp
    simpa [portCounters] using hx
  · simp [ingressCounters, clearIngress, Vector.toList_map, Vector.toList_replicate] at hx
    tauto

/-! ### Groups -/

/-- A port with its joined groups, and the report of them (R170). -/
def groupsSet (k : Nat) (v6 : Bool) (gs : List (Bool × Nat)) (s : State) : State :=
  groupReport k v6 { s with ingress := { s.ingress with ports := vset s.ingress.ports k { s.port k with groups := gs } } }

theorem joinGroup_checks {p : List Byte} {u : State} (h0 : fld p 0 1 ≤ 3) (h1 : fld p 1 1 ≤ 1) (h2 : fld p 2 1 = 4 ∨ fld p 2 1 = 6)
    (hip : ipFieldOk (fld p 2 1 == 6) (slice p 3 16) = true) : firstBad (cmdIngressJoinGroup.checks u p) = none := by
  simp [cmdIngressJoinGroup, inRange, h0, h1, h2, hip]

theorem joinGroup_run_join {p : List Byte} {u : State} {k ifc : Nat} {g : Bool × Nat} (ho : u.online = true) (h0 : fld p 0 1 = k)
    (h1 : fld p 1 1 = 1) (hg : g = (decide (fld p 2 1 = 6), ipOf (fld p 2 1 = 6) (slice p 3 16))) (hnew : g ∉ (u.port k).groups)
    (hroom : (u.port k).groups.length < 64) :
    cmdIngressJoinGroup.run u ifc p = .ok [] (groupsSet k g.1 ((u.port k).groups ++ [g]) u) := by
  subst h0 hg
  simp [cmdIngressJoinGroup, groupsSet, ho, h1, hnew, hroom]

theorem joinGroup_run_full {p : List Byte} {u : State} {k ifc : Nat} {g : Bool × Nat} (h0 : fld p 0 1 = k)
    (h1 : fld p 1 1 = 1) (hg : g = (decide (fld p 2 1 = 6), ipOf (fld p 2 1 = 6) (slice p 3 16))) (hnew : g ∉ (u.port k).groups)
    (hfull : 64 ≤ (u.port k).groups.length) : cmdIngressJoinGroup.run u ifc p = .err stNoResource := by
  subst h0 hg
  simp [cmdIngressJoinGroup, h1, hnew, hfull]

theorem joinGroup_run_leave {p : List Byte} {u : State} {k ifc : Nat} {g : Bool × Nat} (ho : u.online = true) (h0 : fld p 0 1 = k)
    (h1 : fld p 1 1 = 0) (hg : g = (decide (fld p 2 1 = 6), ipOf (fld p 2 1 = 6) (slice p 3 16))) :
    cmdIngressJoinGroup.run u ifc p
      = .ok [] (dropSettings (fun y => y == groupKey p) (groupsSet k g.1 ((u.port k).groups.erase g) u)) := by
  subst h0 hg
  simp [cmdIngressJoinGroup, groupsSet, ho, h1]

theorem groupsSet_host (k : Nat) (v6 : Bool) (gs : List (Bool × Nat)) (s : State) : (groupsSet k v6 gs s).host = s.host :=
  (host_of_unsent (groupReport_unsent ..)).trans rfl

theorem groupsSet_sys (k : Nat) (v6 : Bool) (gs : List (Bool × Nat)) (s : State) : (groupsSet k v6 gs s).sys = s.sys :=
  (sys_of_unsent (groupReport_unsent ..)).trans rfl

@[simp] theorem dropSettings_journal (f : Nat × List Nat → Bool) (s : State) : (dropSettings f s).host.journal = s.host.journal := rfl

@[simp] theorem dropSettings_iface (f : Nat × List Nat → Bool) (s : State) (i : Nat) : (dropSettings f s).iface i = s.iface i := rfl

/-! ### The statement -/

/-- Settles O12: each command is a use of `command_executed_of_parts` or `timeRead_executed` on the equation of its body. -/
theorem ingressCommandsTakeEffect : Obligations.IngressCommandsTakeEffect := by
  unfold Obligations.IngressCommandsTakeEffect
  refine ⟨?port, ?rings, fun r p u => setRing_on u, ?counters, ?clear, clearIngress_counters, ?streamPorts, ?join, ?full, ?leave⟩
  case port =>
    rintro dt q s u k hu hr hl rfl h0 h1 h2 h12 h3
    exact timeRead_executed (d := cmdIngressSetPort) hu hr rfl (beq_iff_eq.2 hl) (setPort_checks h0 h1 h2 h12 h3) rfl rfl rfl rfl
  case rings =>
    intro dt q s u hu hr hl hring hclass
    obtain ⟨hb, hs⟩ := Prod.mk.inj (setRings_frame q.params (List.range 8) u)
    exact ⟨_, rfl, command_executed_of_parts (d := cmdIngressSetRings) hu hr rfl (beq_iff_eq.2 hl) (setRings_checks hring hclass) rfl rfl hs
      (journal_of_hostBase hb) (iface_of_hostBase hb)⟩
  case counters =>
    intro dt q s u hu hr hp
    refine timeRead_executed (d := cmdIngressGetCounters) hu hr rfl ?_ ?_ ?_ ?_ rfl rfl
    all_goals rw [hp]; rfl
  case clear =>
    intro dt q s u hu hr hp
    refine timeRead_executed (d := cmdIngressGetCounters) (v := { u with ingress := clearIngress u.ingress }) hu hr rfl ?_ ?_ ?_ ?_ rfl rfl
    all_goals rw [hp]; rfl
  case streamPorts =>
    rintro dt q s u n hu hr hl rfl h1 h4 hp
    exact timeRead_executed (d := cmdIngressSetStreamPorts) hu hr rfl (beq_iff_eq.2 hl) (setStreamPorts_checks rfl h1 h4 hp) rfl rfl rfl rfl
  case join =>
    intro dt q s u k g hu hr ho hl h0 hk h1 h2 hip hg hnew hroom
    exact timeRead_executed (d := cmdIngressJoinGroup) hu hr rfl (beq_iff_eq.2 hl) (joinGroup_checks (h0 ▸ hk) h1.le h2 hip)
      (joinGroup_run_join ho h0 h1 hg hnew hroom) rfl (groupsSet_sys ..) (groupsSet_host ..)
  case full =>
    intro dt q s u k g hu hr hl h0 hk h1 h2 hip hg hnew hfull
    refine refusedWith_of_outcome cmdIngressJoinGroup dt q s u hu hr stNoResource 0 nofun nofun ?_
    have hrun := joinGroup_run_full (ifc := q.ifc) h0 h1 hg hnew hfull
    subst hu
    exact (cmdOutcome_arrived hr rfl (beq_iff_eq.2 hl) (joinGroup_checks (h0 ▸ hk) h1.le h2 hip)).trans hrun
  case leave =>
    intro dt q s u k g hu hr ho hl h0 hk h1 h2 hip hg
    have hh := groupsSet_host k g.1 ((u.port k).groups.erase g) u
    exact command_executed_of_parts (d := cmdIngressJoinGroup) hu hr rfl (beq_iff_eq.2 hl)
      (joinGroup_checks (h0 ▸ hk) (h1.le.trans (Nat.zero_le _)) h2 hip) (joinGroup_run_leave ho h0 h1 hg) rfl (groupsSet_sys ..)
      ((dropSettings_journal ..).trans (congrArg HostSt.journal hh))
      fun i => (dropSettings_iface ..).trans (iface_of_hostBase (hostBase_of_host hh) i)

end Sys2Proof.Machine
end

section
/-! SUPPORT. Reception: the steps of R163 on a frame, MACsec's packet numbers, what a WAN port does with each mPacket, the management port, the
supervisor's frames and the receive rings, and the statement on them (R163, R164, R169 to R172, R200, R201, R204, R205). -/

namespace Sys2Proof.Machine

/-! ### The rows -/

section
variable {dt : Ps} {s u : State} (hu : u = s.elapse dt)
include hu

theorem exec_wanFrameRx {k : Nat} {f : LineFrame} : exec (.wanFrameRx dt k f) s = .next (wanFrameRx k f u) := hu ▸ rfl
theorem exec_mgmtFrameRx {f : LineFrame} : exec (.mgmtFrameRx dt f) s = .next (mgmtFrameRx f u) := hu ▸ rfl
theorem exec_rxDescriptorWriteback {r : Nat} {desc : List Byte} :
    exec (.rxDescriptorWriteback dt r desc) s = .next (ringStep r desc u) := hu ▸ rfl
theorem exec_supervisorFrame (ho : u.online = true) : exec (.supervisorFrame dt) s = .next (supervisorFrame u) := by
  subst hu
  exact congrArg _ (if_pos ho)

end

/-! ### Steps 2 to 5 -/

/-- The address filter looks at the port's address and its joined groups only. -/
theorem macAccepted_of_address {p q : PortSt} {dst : Nat} {b : Bool} (h : macAccepted p dst = b) (hm : q.mac = p.mac)
    (hg : q.groups = p.groups) : macAccepted q dst = b := by
  simpa only [macAccepted, hm, hg] using h

section
variable {m : MkaPort} {p : PortSt} {f : LineFrame} (hfec : p.rsFec = false)
include hfec

theorem macSteps_runt (h : f.wireLength < 64) :
    macSteps m p f = (false, { p with cFrames := inc p.cFrames, cRunt := inc p.cRunt }, m) := by
  simp [macSteps, hfec, h]

theorem macSteps_oversize (h : 9216 < f.wireLength) :
    macSteps m p f = (false, { p with cFrames := inc p.cFrames, cOversize := inc p.cOversize }, m) := by
  have h64 : ¬ f.wireLength < 64 := by omega
  simp [macSteps, hfec, h, h64]

variable (hlo : 64 ≤ f.wireLength) (hhi : f.wireLength ≤ 9216)
include hlo hhi

theorem macSteps_badFcs (h : f.fcsOk = false) :
    macSteps m p f = (false, { p with cFrames := inc p.cFrames, cFcsErr := inc p.cFcsErr }, m) := by
  simp [macSteps, hfec, Nat.not_lt.2 hlo, Nat.not_lt.2 hhi, h]

variable (hfcs : f.fcsOk = true)
include hfcs

theorem macSteps_filtered (h : macAccepted p (fld f.octets 0 6) = false) :
    macSteps m p f = (false, { p with cFrames := inc p.cFrames, cFiltered := inc p.cFiltered }, m) := by
  have hacc (q : PortSt) := macAccepted_of_address (q := q) h
  simp [macSteps, hfec, Nat.not_lt.2 hlo, Nat.not_lt.2 hhi, hfcs, hacc]

variable (hmac : macAccepted p (fld f.octets 0 6) = true) (htype : (ethPayload f.octets).1 ≠ 0x888E)
include hmac htype

theorem macSteps_untagged_strict (hs : p.macsec = .strict) (hu : f.macsec = .untagged) :
    macSteps m p f = (false, { p with cFrames := inc p.cFrames, cMacsecDrop := inc p.cMacsecDrop }, m) := by
  have hacc (q : PortSt) := macAccepted_of_address (q := q) hmac
  simp [macSteps, hfec, Nat.not_lt.2 hlo, Nat.not_lt.2 hhi, hfcs, hacc, htype, hs, hu]

theorem macSteps_untagged_check (hs : p.macsec = .check) (hu : f.macsec = .untagged) :
    macSteps m p f = (true, { p with cFrames := inc p.cFrames, cMacsecUntagged := inc p.cMacsecUntagged }, m) := by
  have hacc (q : PortSt) := macAccepted_of_address (q := q) hmac
  simp [macSteps, hfec, Nat.not_lt.2 hlo, Nat.not_lt.2 hhi, hfcs, hacc, htype, hs, hu]

/-- A protected frame goes on exactly where its verification succeeds, and moves the packet numbers then (R164). -/
theorem macSteps_tagged {c an pn : Nat} {ok : Bool} (hs : p.macsec ≠ .off) (ht : f.macsec = .tagged c an pn ok) :
    (∀ m', macsecVerify p.replay m c an pn ok = some m' → macSteps m p f = (true, { p with cFrames := inc p.cFrames }, m'))
      ∧ (macsecVerify p.replay m c an pn ok = none →
        macSteps m p f = (false, { p with cFrames := inc p.cFrames, cMacsecDrop := inc p.cMacsecDrop }, m)) := by
  have hacc (q : PortSt) := macAccepted_of_address (q := q) hmac
  constructor
  · intro m' hv
    simp [macSteps, hfec, Nat.not_lt.2 hlo, Nat.not_lt.2 hhi, hfcs, hacc, htype, hs, ht, hv]
  · intro hv
    simp [macSteps, hfec, Nat.not_lt.2 hlo, Nat.not_lt.2 hhi, hfcs, hacc, htype, hs, ht, hv]

end

/-! ### MACsec's packet numbers -/

/-- A change of the entries of a list that keeps their keys shows in the entry found at a key. -/
theorem find?_map_key {α : Type} {g : Nat × α → Nat × α} (hg : ∀ x, (g x).1 = x.1) (k : Nat) (l : List (Nat × α)) :
    (l.map g).find? (fun x => x.1 == k) = (l.find? fun x => x.1 == k).map g := by
  simp only [List.find?_map, Function.comp_def, hg]

/-- The associations of a member once packet number `pn` has come on one whose next number was `n`. -/
def MkaPort.received (m : MkaPort) (member an pn n : Nat) : MkaPort :=
  { m with rx := m.rx.map fun c => if c.1 = member then (c.1, c.2.map fun a => if a.1 = an then (an, max n (pn + 1)) else a) else c }

theorem nextPn_received {m : MkaPort} {c an n : Nat} (pn : Nat) (h : nextPn m c an = some n) :
    nextPn (m.received c an pn n) c an = some (max n (pn + 1)) := by
  unfold nextPn at h
  obtain ⟨a, ha, -⟩ := Option.map_eq_some_iff.1 h
  obtain ⟨x, hx, hxa⟩ := Option.bind_eq_some_iff.1 ha
  have hxc : x.1 = c := by simpa using List.find?_some hx
  have haa : a.1 = an := by simpa using List.find?_some hxa
  have hmember (y : Nat × List (Nat × Nat)) :
      (if y.1 = c then (y.1, y.2.map fun a => if a.1 = an then (an, max n (pn + 1)) else a) else y).1 = y.1 := by
    split <;> rfl
  have hnumber (b : Nat × Nat) : (if b.1 = an then (an, max n (pn + 1)) else b).1 = b.1 := by
    split <;> simp_all
  simp only [nextPn, MkaPort.received, find?_map_key hmember, hx, Option.map_some, Option.bind_some, if_pos hxc, find?_map_key hnumber, hxa,
    if_pos haa]

theorem macsecVerify_ok {m : MkaPort} {r c an pn n : Nat} (h : nextPn m c an = some n) (hn : n ≤ pn + r) :
    macsecVerify r m c an pn true = some (m.received c an pn n) := by
  simp [macsecVerify, h, Nat.not_lt.2 hn, MkaPort.received]

theorem macsecVerify_none {m : MkaPort} {r c an pn : Nat} {ok : Bool}
    (h : ok = false ∨ nextPn m c an = none ∨ ∃ n, nextPn m c an = some n ∧ pn + r < n) : macsecVerify r m c an pn ok = none := by
  obtain rfl | h | ⟨n, hn, hlt⟩ := h
  · cases h : nextPn m c an <;> simp [macsecVerify, h]
  · simp [macsecVerify, h]
  · simp [macsecVerify, hn, hlt]

/-! ### The mPackets of a WAN port (R404) -/

theorem wanFrameRx_ignored {k : Nat} {f : LineFrame} {s : State} (h : s.online = false ∨ 4 ≤ k ∨ (s.port k).linkUp = false) :
    wanFrameRx k f s = s := by
  refine if_pos ?_
  obtain h | h | h := h <;> simp [h]

section
variable {k : Nat} {f : LineFrame} {s : State} (ho : s.online = true) (hk : k < 4) (hl : (s.port k).linkUp = true)
include ho hk hl

theorem wanFrameRx_whole (hf : f.mpacket = .whole) : wanFrameRx k f s
    = wanFrame k f (stampAdd (s.pcsStamp (f.wireLength * octetPs (s.port k))) (-(s.timePort k).ingressLat)) s := by
  simp [wanFrameRx, ho, hk, hl, hf]

theorem wanFrameRx_verify (hf : f.mpacket = .verify) :
    wanFrameRx k f s = if (s.tx k).preempt then s.emit (.verify k true) else s := by
  simp [wanFrameRx, ho, hk, hl, hf]

variable (ha : (s.tx k).active = true)
include ha

theorem wanFrameRx_first (hf : f.mpacket = .first) : wanFrameRx k f s
    = { s with ingress := { s.ingress with ports := vset s.ingress.ports k { s.port k with partial_ := some {
        octets := f.octets, wireLength := f.wireLength, fecCorr := f.fecCorr, fecUncorr := f.fecUncorr, fecOverlap := f.fecOverlap
        arrival := stampAdd (s.pcsStamp (f.wireLength * octetPs (s.port k))) (-(s.timePort k).ingressLat) } } } } := by
  simp [wanFrameRx, ho, hk, hl, hf, ha]

variable {q : PartialFrame} (hq : (s.port k).partial_ = some q)
include hq

theorem wanFrameRx_joined (hf : f.mpacket = .later false) : wanFrameRx k f s
    = { s with ingress := { s.ingress with ports := vset s.ingress.ports k { s.port k with partial_ := some (joinPacket q f) } } } := by
  simp [wanFrameRx, ho, hk, hl, hf, ha, hq]

theorem wanFrameRx_last (hf : f.mpacket = .later true) : wanFrameRx k f s
    = wanFrame k { f with mpacket := .whole, octets := q.octets ++ f.octets, wireLength := q.wireLength + f.wireLength
                          fecCorr := q.fecCorr + f.fecCorr, fecUncorr := q.fecUncorr + f.fecUncorr, fecOverlap := q.fecOverlap || f.fecOverlap }
        q.arrival { s with ingress := { s.ingress with ports := vset s.ingress.ports k { s.port k with partial_ := none } } } := by
  simp [wanFrameRx, ho, hk, hl, hf, ha, hq, joinPacket]

end

/-- An mPacket out of place is no frame (R404). -/
theorem wanFrameRx_outOfPlace {k : Nat} {f : LineFrame} {last : Bool} {s : State}
    (h : f.mpacket = .first ∧ (s.tx k).active = false ∨ f.mpacket = .later last ∧ ((s.tx k).active = false ∨ (s.port k).partial_ = none)) :
    wanFrameRx k f s = s := by
  unfold wanFrameRx
  split
  · rfl
  · obtain ⟨hf, ha⟩ | ⟨hf, ha⟩ := h
    · simp [hf, ha]
    · simp only [hf]
      split
      · rfl
      · next hq => simp [ha.resolve_right (by simp [hq])]

/-! ### The supervisor's frames -/

theorem supervisorFrame_toSupervisor {k : Nat} {f : List Byte} {rest : List (Nat × List Byte)} {s : State}
    (h : s.ingress.toSupervisor = (k, f) :: rest) : (supervisorFrame s).ingress.toSupervisor = rest := by
  have hs (t : State) (ht : t.unsent = State.unsent { s with ingress := { s.ingress with toSupervisor := rest } }) :
      t.ingress.toSupervisor = rest := congrArg IngressSt.toSupervisor (ingress_of_unsent ht)
  refine hs _ ?_
  simp only [supervisorFrame, h]
  split
  · split
    · exact superFrames_unsent ..
    · rfl
  · split
    · rfl
    · exact answerIp_unsent ..

theorem supervisorFrame_arp {k : Nat} {f : List Byte} {rest : List (Nat × List Byte)} {s : State}
    (h : s.ingress.toSupervisor = (k, f) :: rest) (ht : (ethPayload f).1 = 0x0806) (hq : fld (ethPayload f).2 6 2 = 1) :
    supervisorFrame s = superFrames k "ARP reply" [arpReply (addressedPort s k) f (ethPayload f).2]
      { s with ingress := { s.ingress with toSupervisor := rest } } := by
  simp [supervisorFrame, h, ht, hq]

/-! ### The receive rings -/

section
variable {r : Nat} {desc : List Byte} {s : State} {x : RxRing} {f : RingFrame} {rest : List RingFrame} (hx : x = s.rxRing r)
  (hq : x.queue = f :: rest) (he : x.enabled = true) (hp : s.host.pcieUp = true) (hb : s.host.busMaster = true) (hu : f.used = [])
  (hw : earlierOnWay s r f = false)
include hx hq he hp hb hu hw

/-- A frame that finds no buffer handed over is dropped and counted (R200, R205). -/
theorem ringStep_noBuffer (hh : x.head = x.tail) :
    ringStep r desc s = s.setRxRing r { x with queue := rest, cNoBuf := inc x.cNoBuf } := by
  subst hx
  simp [ringStep, hq, he, hp, hb, hu, hw, hh, writeBackFrame, State.emits]
  rfl

/-- A frame longer than a buffer fills the buffer at HEAD and goes on with the next one (R200). -/
theorem ringStep_filled {n : Nat} (hh : x.head ≠ x.tail) (hown : (lfld desc 10 2).testBit 0 = true) (hn : n = x.units * 256)
    (hlong : n < f.octets.length) : ringStep r desc s
      = ((s.emit (.hostRead (x.base.toNat + 32 * x.head) 32)).hostPut (lfld desc 0 8) (f.octets.take n)).setRxRing r
          { x with queue := { f with used := [(x.head, n)] } :: rest, head := if x.size ≤ x.head + 1 then 0 else x.head + 1 } := by
  subst hx hn
  have hmin : min ((s.rxRing r).units * 256) f.octets.length = (s.rxRing r).units * 256 := min_eq_left hlong.le
  simp [ringStep, hq, he, hp, hb, hu, hw, hh, hown, hmin, hlong]

end

/-! ### The statement -/

/-- Settles O13: each row is its operation, whose equation at the branch of its hypotheses is a lemma above. -/
theorem receptionFollowsItsSteps : Obligations.ReceptionFollowsItsSteps := by
  unfold Obligations.ReceptionFollowsItsSteps
  refine ⟨?stopped, ?goesOn, ?ignored, ?verify, ?first, ?joined, ?last, ?outOfPlace, fun m p f => macSteps_runt, fun m p f => macSteps_oversize,
    fun m p f => macSteps_badFcs, fun m p f => macSteps_filtered, ?strict, ?check, ?tagged, ?verified, fun m r c an pn ok => macsecVerify_none,
    ?mgmt, ?fragments, ?supervisor, ?noBuffer, ?filled⟩
  case stopped =>
    rintro dt k f s u v p m hu ho hk hl hf hsteps rfl
    rw [exec_wanFrameRx hu, wanFrameRx_whole ho hk hl hf, wanFrame, hsteps]
    rfl
  case goesOn =>
    rintro dt k f s u v p m hu ho hk hl hf hsteps rfl
    rw [exec_wanFrameRx hu, wanFrameRx_whole ho hk hl hf, wanFrame, hsteps]
    rfl
  case ignored =>
    intro dt k f s u hu h
    rw [exec_wanFrameRx hu, wanFrameRx_ignored h]
  case verify =>
    intro dt k f s u hu ho hk hl hf
    rw [exec_wanFrameRx hu, wanFrameRx_verify ho hk hl hf]
  case first =>
    rintro dt k f s u a hu ho hk hl ha hf rfl
    rw [exec_wanFrameRx hu, wanFrameRx_first ho hk hl ha hf]
  case joined =>
    intro dt k f q s u hu ho hk hl ha hf hq
    rw [exec_wanFrameRx hu, wanFrameRx_joined ho hk hl ha hq hf]
  case last =>
    rintro dt k f g q s u hu ho hk hl ha hf hq rfl
    rw [exec_wanFrameRx hu, wanFrameRx_last ho hk hl ha hq hf]
  case outOfPlace =>
    intro dt k f last s u hu h
    rw [exec_wanFrameRx hu, wanFrameRx_outOfPlace h]
  case strict => exact fun m p f hfec hlo hhi hfcs hmac hs ht => macSteps_untagged_strict hfec hlo hhi hfcs hmac ht hs
  case check => exact fun m p f hfec hlo hhi hfcs hmac hs ht => macSteps_untagged_check hfec hlo hhi hfcs hmac ht hs
  case tagged =>
    intro m p f c an pn ok hfec hlo hhi hfcs hmac hs ht hm
    obtain ⟨hsome, hnone⟩ := macSteps_tagged (m := m) hfec hlo hhi hfcs hmac ht hs hm
    split
    · exact hsome _ ‹_›
    · exact hnone ‹_›
  case verified => exact fun m r c an pn n h hn => ⟨_, macsecVerify_ok h hn, nextPn_received pn h⟩
  case mgmt =>
    intro dt f s u p m hu ho hl hsteps hm
    rw [exec_mgmtFrameRx hu]
    simp [mgmtFrameRx, ho, hl, hsteps, hm]
  case fragments =>
    rintro dt s u old rfl rfl
    rfl
  case supervisor =>
    intro dt s u k f rest hu ho h
    exact ⟨_, exec_supervisorFrame hu ho, supervisorFrame_toSupervisor h, supervisorFrame_arp h⟩
  case noBuffer =>
    intro dt r desc s u x f rest hu _ hx hq he hp hb hh hf hw
    rw [exec_rxDescriptorWriteback hu, ringStep_noBuffer hx hq he hp hb hf hw hh]
  case filled =>
    intro dt r desc s u x f rest n hu _ hx hq he hp hb hh hown hf hw hn hlong
    rw [exec_rxDescriptorWriteback hu, ringStep_filled hx hq he hp hb hf hw hh hown hn hlong]

end Sys2Proof.Machine
end

section
/-! SUPPORT. The events of a stream's context: the parser's tests, binding, the context's update, configurations, silence, quarantine and the
connection, and the statement on them (R173, R179, R182, R183, R187, R189, R191, R194, R196, R609). -/

namespace Sys2Proof.Machine

/-! ### The rows -/

section
variable {dt : Ps} {s u : State} (hu : u = s.elapse dt)
include hu

theorem exec_parserInput {lane : Nat} : exec (.parserInput dt lane) s = .next (parserInput lane u) := hu ▸ rfl
theorem exec_streamFrameBind {lane : Nat} : exec (.streamFrameBind dt lane) s = .next (bindChecked lane u) := hu ▸ rfl
theorem exec_configCheckDone {i : Nat} : exec (.configCheckDone dt i) s = .next (checkDone i u) := hu ▸ rfl
theorem exec_streamSilent {i : Nat} : exec (.streamSilent dt i) s = .next (goSilent i u) := hu ▸ rfl
theorem exec_quarantineEnd {i : Nat} : exec (.quarantineEnd dt i) s = .next (quarantineEnd i u) := hu ▸ rfl
theorem exec_cfgRequestRepeat {i : Nat} : exec (.cfgRequestRepeat dt i) s = .next (cfgRepeat i u) := hu ▸ rfl
theorem exec_tcpReconnect {i : Nat} {ok : Bool} : exec (.tcpReconnect dt i ok) s = .next (tcpReconnect i ok u) := hu ▸ rfl
theorem exec_tcpFrameDeliver {i : Nat} : exec (.tcpFrameDeliver dt i) s = .next (tcpDeliver i u) := hu ▸ rfl
theorem exec_tcpFrameTimeout {i : Nat} : exec (.tcpFrameTimeout dt i) s = .next (tcpTimeout i u) := hu ▸ rfl
theorem exec_tcpSegmentRx_stream {i : Nat} {g : TcpSegment} (ho : u.online = true) :
    exec (.tcpSegmentRx dt (.stream i) g) s = .next (streamSegment i g u) := by
  subst hu
  exact congrArg _ (if_pos ho)

end

/-! ### The parser (R173) -/

theorem parserInput_due {lane : Nat} {d : StreamDgram} {s : State} (ho : s.online = true)
    (hf : (s.ingress.toParser.find? fun x => x.1 = lane) = some (lane, d)) (hd : d.due ≤ s.now) : parserInput lane s
      = parseFrame lane d { s with ingress := { s.ingress with toParser := s.ingress.toParser.erase (lane, d) } } := by
  simp [parserInput, hf, ho, hd]

section
variable {lane : Nat} {d : StreamDgram} {s : State}

theorem parseFrame_short (h : d.payload.length < 2) :
    parseFrame lane d s = { s with ingress := { s.ingress with cSync := inc s.ingress.cSync } } := by
  simp [parseFrame, h]

variable (hsync : fld d.payload 0 1 = 0xAA)
include hsync

theorem parseFrame_size (h2 : 2 ≤ d.payload.length) (hv : fld d.payload 1 1 % 16 = 1)
    (h : d.payload.length < 4 ∨ fld d.payload 2 2 ≠ d.payload.length) :
    parseFrame lane d s = { s with ingress := { s.ingress with cSizeErr := inc s.ingress.cSizeErr } } := by
  simp [parseFrame, Nat.not_lt.2 h2, hsync, hv, h]

theorem parseFrame_chk (h4 : 4 ≤ d.payload.length) (hv : fld d.payload 1 1 % 16 = 2) (hs : fld d.payload 2 2 = d.payload.length)
    (h : (crcCcitt (d.payload.take (d.payload.length - 2))).toNat ≠ fld d.payload (d.payload.length - 2) 2) :
    parseFrame lane d s = { s with ingress := { s.ingress with cChk := inc s.ingress.cChk } } := by
  have h2 : ¬ d.payload.length < 2 := by omega
  simp [parseFrame, h2, Nat.not_lt.2 h4, hsync, hv, hs, h]

end

/-! ### Binding (R179, R189, R609) -/

section
variable {lane i : Nat} {f : ParsedFrame} {s : State} (ho : s.online = true)
  (hf : (s.ingress.toBind.find? fun x => x.1 = lane) = some (lane, f)) (hd : f.due ≤ s.now) (hk : lookupKey s (dgramKey f.dgram) = some i)
include ho hf hd hk

theorem boundContext_due : boundContext lane s = some i := by
  simp [boundContext, hf, ho, Nat.not_lt.2 hd, hk]

theorem streamFrameBind_due : streamFrameBind lane s = bindFrame i f.due f.dgram
    (countStream lane { s with ingress := { s.ingress with toBind := s.ingress.toBind.erase (lane, f) } }) := by
  have hk' : lookupKey { s with ingress := { s.ingress with toBind := s.ingress.toBind.erase (lane, f) } } (dgramKey f.dgram) = some i := hk
  simp [streamFrameBind, hf, ho, Nat.not_lt.2 hd, hk']

theorem bindChecked_readable (hb : badWords 0 (contextWords i 0) s = []) : bindChecked lane s = bindFrame i f.due f.dgram (countStream lane
    { touch 0 (contextWords i 0) s with ingress := { s.ingress with toBind := s.ingress.toBind.erase (lane, f) } }) := by
  obtain ⟨g, hg⟩ := readWords_eq 0 (contextWords i 0) s
  have ht : touch 0 (contextWords i 0) s = { s with integ := g } := (touch_of_readable hb).trans hg
  simp only [bindChecked, boundContext_due ho hf hd hk, hb, List.isEmpty_nil, if_true, ht]
  exact streamFrameBind_due (s := { s with integ := g }) ho hf hd hk

theorem bindChecked_unreadable (hb : badWords 0 (contextWords i 0) s ≠ []) : bindChecked lane s
    = countStream lane { touch 0 (contextWords i 0) s with ingress := { (touch 0 (contextWords i 0) s).ingress with
        toBind := (touch 0 (contextWords i 0) s).ingress.toBind.eraseP fun x => x.1 = lane } } := by
  simp [bindChecked, boundContext_due ho hf hd hk, hb]

end

/-- The note of a context's update does not look at the ingress budget. -/
theorem noteBound_charged (i : Nat) (due : Ps) (w : CtxUpdate) (s : State) (fb pb : Nat) :
    noteBound i due w { s with ingress := { s.ingress with frameBucket := fb, phasorBucket := pb } }
      = State.at { s with ingress := { s.ingress with frameBucket := fb, phasorBucket := pb } } (due + 20000)
          (.context i (s.ctx i).gen.toNat w) := by
  have hc : State.ctx { s with ingress := { s.ingress with frameBucket := fb, phasorBucket := pb } } i = s.ctx i := rfl
  rw [noteBound, hc]

/-- An accepted frame takes its share of the buckets, updates its context 16 FCLK later and goes to insertion (R60, R189, R609). -/
theorem bindFrame_accepted {i : Nat} {due : Ps} {d : StreamDgram} {s : State} {g : StreamCfg} (hq : quarantined s (s.ctx i) d = false)
    (hstat : (fld d.payload 14 2).testBit 10 = false) (hg : (s.ctx i).cfg = some g) (hsize : d.payload.length = g.expectedSize)
    (htb : fld d.payload 11 3 < g.timeBase) (hfb : 1000000000000 ≤ s.ingress.frameBucket)
    (hpb : g.numPhasors * 1000000000000 ≤ s.ingress.phasorBucket) (hfw : (s.ctx i).forward = none) :
    bindFrame i due d s = pushInsert (due + 45000) (recordOf s i (s.ctx i) g d (frameTag s d.payload (some g.timeBase)))
      (State.at { s with ingress := { s.ingress with
          frameBucket := s.ingress.frameBucket - 1000000000000, phasorBucket := s.ingress.phasorBucket - g.numPhasors * 1000000000000 } }
        (due + 20000) (.context i (s.ctx i).gen.toNat
          (.accepted (frameTag s d.payload (some g.timeBase)) (fld d.payload 14 2) d.arrival due))) := by
  have hreq : statRequest i d s = s := by simp [statRequest, hstat]
  have hbudget : ¬ (s.ingress.frameBucket < 1000000000000 ∨ s.ingress.phasorBucket < g.numPhasors * 1000000000000) := by omega
  simp only [bindFrame, hq, hreq, hg, hsize, ne_eq, not_true, Bool.false_eq_true, if_false, if_neg (Nat.not_le.2 htb), if_neg hbudget,
    forwardRecord, hfw, noteBound_charged]

/-- An accepted frame of a context that receives, with neither a rebind nor a refused configuration since (R60, R182). -/
theorem ctxUpdate_accepted {i : Nat} {tag arrival : Stamp} {stat : Nat} {bound : Ps} {s : State} (hs : (s.ctx i).state = .receiving)
    (hc : (s.ctx i).cfg ≠ none) : ctxUpdate i (s.ctx i).gen.toNat (.accepted tag stat arrival bound) s = s.setCtx i { s.ctx i with
      cAccepted := inc (s.ctx i).cAccepted, lastTag := tag, lastStat := stat, lastArrival := arrival
      lastDataAt := max (s.ctx i).lastDataAt bound } := by
  simp [ctxUpdate, hs, hc]

/-! ### Configurations (R183, R184, R187) -/

theorem checkDone_offers {i : Nat} {k : CfgCheck} {s : State} (hk : (s.ingress.checks.find? fun k => k.index = i) = some k)
    (hv : k.voided = false) (hf : (s.ctx i).state ≠ .free) (hm : s.sys.mode ≠ .standby) : checkDone i s
      = offerConfig i k.frame { s with ingress := { s.ingress with checks := s.ingress.checks.erase k } } := by
  simp [checkDone, hk, hv, hf, hm]

theorem offerConfig_refused {i r : Nat} {f : List Byte} {s : State} (hc : checkConfig s i f = .inl r)
    (hnew : ((readConfig f).isSome && (s.ctx i).cfg.map (·.content) == some (cfgContent f)) = false) : offerConfig i f s
      = refreshSessions (mirrorCtx i (s.setCtx i { s.ctx i with state := .rejected, rejectReason := r, cfg := none })) := by
  simp only [offerConfig, hnew, hc, Bool.false_eq_true, if_false]

theorem cfgRepeat_due {i : Nat} {t : Ps} {s : State} (ho : s.online = true) (hm : s.sys.mode ≠ .standby) (hs : (s.ctx i).state = .awaitCfg)
    (hc : (s.ctx i).srcCtrl = true) (hl : (s.ctx i).lastRequestAt = some t) (hd : t + 1000000000000 ≤ s.now) : cfgRepeat i s
      = (sendCommand i (if (s.ctx i).wantCfg3 then 6 else 5) s).modCtx i fun c => { c with lastRequestAt := some s.now } := by
  simp [cfgRepeat, requestCfg, ho, hm, hs, hc, hl, hd]

/-! ### Silence and quarantine (R182, R191) -/

theorem goSilent_due {i : Nat} {g : StreamCfg} {s : State} (hg : (s.ctx i).cfg = some g) (hs : (s.ctx i).state = .receiving)
    (hd : (s.ctx i).lastDataAt + cdiv 3000000000000 g.dataRate ≤ s.now) :
    goSilent i s = mirrorCtx i (s.setCtx i { s.ctx i with state := .silent }) := by
  simp [goSilent, hg, hs, hd]

theorem quarantineEnd_due {i : Nat} {s : State} (hq : (s.ctx i).quarantine = true)
    (hd : 3 * (unitsPerSec : Int) ≤ stampDiff s.stamp (s.ctx i).rebindAt) :
    quarantineEnd i s = mirrorCtx i (s.setCtx i { s.ctx i with quarantine := false }) := by
  simp [quarantineEnd, quarantineOpen, hq, Int.not_lt.2 hd]

/-! ### The connection (R194, R196) -/

/-- Octets of which none has been framed keep their arrivals. -/
theorem keepOctets_all {c : Ctx} {t : Ps} {n : Nat} {l : List (Ps × Nat)} (h : c.tcpArr = (t, n + 1) :: l) : c.keepOctets c.tcpBuf = c := by
  have harr : dropArrivals (c.tcpBuf.length - c.tcpBuf.length) c.tcpArr = c.tcpArr := by
    rw [Nat.sub_self, h, dropArrivals, if_pos n.succ_pos, Nat.sub_zero]
  rw [Ctx.keepOctets, harr]

section
variable {i : Nat} {s : State} (hc : hasConn (s.ctx i) = true)
include hc

theorem tcpReconnect_first {ok : Bool} (ho : s.online = true) (hup : (s.ctx i).tcpUp = false) (ht : (s.ctx i).tcpTryAt = none) :
    tcpReconnect i ok s = sourceSegment "TCP SYN" (s.ctx i) 0x02 [] (s.setCtx i { s.ctx i with
      tcpUp := ok, tcpTryAt := some s.now, tcpBuf := [], tcpArr := [], tcpScan := false }) := by
  simp [tcpReconnect, ho, hc, hup, ht]

theorem streamSegment_octets {g : TcpSegment} (hup : (s.ctx i).tcpUp = true) (hclose : g.close = false) (hreset : g.reset = false)
    (hp : g.payload ≠ []) (hb : 1000000000000 ≤ s.ingress.tcpBucket) : streamSegment i g s = s.setCtx i { s.ctx i with
      tcpBuf := (s.ctx i).tcpBuf ++ g.payload, tcpArr := (s.ctx i).tcpArr ++ [(s.now, g.payload.length)] } := by
  simp [streamSegment, tcpWindowOpen, hc, hup, hclose, hreset, hp, hb]

theorem tcpDeliver_frame {f rest : List Byte} (ho : s.online = true) (hb : 1000000000000 ≤ s.ingress.tcpBucket)
    (ht : takeFrame (s.ctx i).tcpScan ((s.ctx i).tcpBuf.length + 1) (s.ctx i).tcpBuf = (some f, rest)) : tcpDeliver i s
      = { s.setCtx i { (s.ctx i).keepOctets rest with tcpScan := false } with
          ingress := { (s.setCtx i { (s.ctx i).keepOctets rest with tcpScan := false }).ingress with
            toParser := s.ingress.toParser ++ [(4, {
              ipv6 := (s.ctx i).key.ipv6, tcp := (s.ctx i).key.tcp, srcIp := (s.ctx i).key.srcIp, srcPort := (s.ctx i).key.srcPort
              dstPort := (s.ctx i).dstPort, arrival := s.stamp, macsec := false, port := (s.ctx i).egressPort, payload := f
              frames := [(s.now, f)], rxAt := s.now, due := s.now })]
            tcpBucket := s.ingress.tcpBucket - 1000000000000 } } := by
  simp only [tcpDeliver, tcpWindowOpen, ho, hc, hb, ht]
  rfl

/-- A frame that is not complete 50 ms after its first octet is discarded, and the parser scans on (R196). -/
theorem tcpTimeout_frame {t : Ps} {n : Nat} {l : List (Ps × Nat)} (hscan : (s.ctx i).tcpScan = false)
    (ht : takeFrame false ((s.ctx i).tcpBuf.length + 1) (s.ctx i).tcpBuf = (none, (s.ctx i).tcpBuf)) (ha : (s.ctx i).tcpArr = (t, n + 1) :: l)
    (hd : t + 50000000000 ≤ s.now) : tcpTimeout i s
      = State.setCtx { s with ingress := { s.ingress with cTcpTimeout := inc s.ingress.cTcpTimeout } } i
          { (s.ctx i).keepOctets [] with tcpScan := true } := by
  simp [tcpTimeout, hscan, ht, keepOctets_all ha, ha, hc, Nat.not_lt.2 hd]

end

/-! ### The statement -/

/-- Settles O14: each row is its operation, whose equation at the branch of its hypotheses is a lemma above. -/
theorem contextEventsTakeEffect : Obligations.ContextEventsTakeEffect := by
  unfold Obligations.ContextEventsTakeEffect
  refine ⟨?parser, fun lane d u => parseFrame_short, fun lane d u h2 hs => parseFrame_size hs h2, fun lane d u h4 hs hv => parseFrame_chk hs h4 hv,
    ?bind, ?unreadable, ?accepted, ?update, ?check, fun i f u r => offerConfig_refused, ?silent, ?quarantine, ?request, ?reconnect, ?segment,
    ?deliver, ?timeout⟩
  case parser =>
    intro dt lane d s u hu ho hf hd
    rw [exec_parserInput hu, parserInput_due ho hf hd]
  case bind =>
    rintro dt lane i f s u v hu ho hf hd hk hb rfl
    rw [exec_streamFrameBind hu, bindChecked_readable ho hf hd hk hb]
  case unreadable =>
    rintro dt lane i f s u v hu ho hf hd hk hb rfl
    rw [exec_streamFrameBind hu, bindChecked_unreadable ho hf hd hk hb]
  case accepted =>
    rintro i due d u c g tag rfl hq hstat hg hsize htb hfb hpb - hfw rfl
    exact bindFrame_accepted hq hstat hg hsize htb hfb hpb hfw
  case update =>
    rintro i gen tag stat arrival bound u c rfl hs rfl hc
    exact ctxUpdate_accepted hs hc
  case check =>
    intro dt i k s u hu hk hv hf hm
    rw [exec_configCheckDone hu, checkDone_offers hk hv hf hm]
  case silent =>
    intro dt i s u g hu hg hs hd
    rw [exec_streamSilent hu, goSilent_due hg hs hd]
  case quarantine =>
    intro dt i s u hu hq hd
    rw [exec_quarantineEnd hu, quarantineEnd_due hq hd]
  case request =>
    intro dt i s u t hu ho hm hs hc hl hd
    rw [exec_cfgRequestRepeat hu, cfgRepeat_due ho hm hs hc hl hd]
  case reconnect =>
    intro dt i ok s u hu ho hc hup ht
    rw [exec_tcpReconnect hu, tcpReconnect_first hc ho hup ht]
  case segment =>
    intro dt i g s u hu ho hc hup hclose hreset hp hb
    rw [exec_tcpSegmentRx_stream hu ho, streamSegment_octets hc hup hclose hreset hp hb]
  case deliver =>
    rintro dt i f rest s u v c hu rfl ho hc hb ht rfl
    rw [exec_tcpFrameDeliver hu, tcpDeliver_frame hc ho hb ht]
    rfl
  case timeout =>
    rintro dt i s u c t n l hu rfl hc hscan ht ha hd
    rw [exec_tcpFrameTimeout hu, tcpTimeout_frame hc hscan ht ha hd]

end Sys2Proof.Machine
end

section
/-! SUPPORT. The commands of the zones: which checks pass, what each body answers, what it leaves alone, and the statement on the commands
that set, start, stop and delete zones and change their members (R206, R208, R209, R211 to R213, R245, R246, R497). -/

namespace Sys2Proof.Machine

/-! ### Execution -/

section
variable {dt : Ps} {q : Packet} {s u : State} (hu : u = arrived q (s.elapse dt))
include hu

/-- A command whose body answers a status without an effect is refused. -/
theorem command_refused {d : Cmd} {status offset : Nat} (hr : ready (s.elapse dt) q d.opcode = true)
    (hm : d.modes u.sys.mode = true) (hl : d.lenOk q.params = true) (hc : firstBad (d.checks u q.params) = none)
    (hs : status ≠ stOk) (he : status ≠ stBadEpoch)
    (hrun : d.run u q.ifc q.params = if status = stBadParam then .bad offset else .err status) :
    refusedWith (command d dt q s) q d.opcode status (if status = stBadParam then offset else 0xFFFF) u := by
  refine refusedWith_of_outcome d dt q s u hu hr status offset hs he ?_
  subst hu
  rw [(arrived_parts q _).1] at hm
  exact (cmdOutcome_arrived hr hm hl hc).trans hrun

/-- A command that takes records of settings away, and leaves the rest of the host part and the system registers as they were. -/
theorem command_executed_dropping {d : Cmd} {f : Nat × List Nat → Bool} {data : List Byte} {j : Bool} {v w : State}
    (hr : ready (s.elapse dt) q d.opcode = true) (hm : d.modes u.sys.mode = true) (hl : d.lenOk q.params = true)
    (hc : firstBad (d.checks u q.params) = none) (hrun : d.run u q.ifc q.params = .ok data v) (hjn : d.journaled q.params data = j)
    (hv : v.host = (dropSettings f w).host) (hh : w.host = u.host) (hs : v.sys = u.sys) : executed (command d dt q s) q d.opcode data j v := by
  refine command_executed_of_parts hu hr hm hl hc hrun hjn hs ?_ fun i => ?_
  · rw [hv, dropSettings_journal, hh]
  · calc v.iface i
      _ = (dropSettings f w).iface i := iface_of_hostBase (hostBase_of_host hv) i
      _ = w.iface i := dropSettings_iface f w i
      _ = u.iface i := iface_of_hostBase (hostBase_of_host hh) i

end

/-! ### What the zones' operations leave alone -/

@[simp] theorem suspendSessions_unsent (z : Nat) (s : State) : (suspendSessions z s).unsent = s.unsent := by
  refine foldl_keeps_read State.unsent (fun s n => ?_) _ s
  dsimp only
  split <;> rfl

@[simp] theorem sendControl_unsent (p i z : Nat) (add : Bool) (t : Stamp) (s : State) : (sendControl p i z add t s).unsent = s.unsent := by
  unfold sendControl
  split
  · exact sendB_unsent ..
  · rfl

@[simp] theorem removeMember_unsent (z : Nat) (r : StreamRef) (s : State) : (removeMember z r s).unsent = s.unsent := by
  unfold removeMember
  dsimp only
  split
  · exact sendControl_unsent ..
  · rfl

theorem leaveZone_frame (z : Nat) (t : Stamp) (s : State) (m : Member) :
    ((leaveZone z t s m).host, (leaveZone z t s m).sys) = (s.host, s.sys) := by
  have hsend := sendControl_unsent m.ref.position m.ref.index z false t s
  unfold leaveZone
  split_ifs
  · rfl
  · exact Prod.ext (host_of_unsent hsend) (sys_of_unsent hsend)
  · rfl
  · rfl

theorem leaveZones_frame (z : Nat) (t : Stamp) (ms : List Member) (s : State) :
    ((ms.foldl (leaveZone z t) s).host, (ms.foldl (leaveZone z t) s).sys) = (s.host, s.sys) :=
  foldl_keeps_read (fun s => (s.host, s.sys)) (leaveZone_frame z t) ms s

/-! ### Checks -/

/-- The checks of a zone that is not FREE pass (R245). -/
theorem zoneThere_ok {p : List Byte} {s : State} {z : Nat} (hz : fld p 0 1 = z) (h63 : z ≤ 63) (hf : (s.zone z).state ≠ .free) :
    firstBad (zoneThere s p) = none := by
  subst hz
  simp [zoneThere, inRange, h63, hf]

theorem memberChecks_ok {p : List Byte} {s : State} {z : Nat} (hz : fld p 0 1 = z) (h63 : z ≤ 63) (hf : (s.zone z).state ≠ .free)
    (h1 : fld p 1 1 ≤ 1) (h2 : fld p 2 1 ≤ 3) (h12 : fld p 1 1 = 0 ∨ fld p 2 1 = s.position)
    (h3 : fld p 3 2 ≤ if fld p 1 1 = 1 then 3 else 16383) : firstBad (memberChecks s p) = none := by
  subst hz
  simp [memberChecks, zoneThere, inRange, h63, hf, h1, h2, h12, h3]

/-! ### ZONE_CONFIG -/

/-- The parameters of ZONE_CONFIG lie in their ranges (R206). -/
def ZoneRanges (p : List Byte) : Prop :=
  fld p 0 1 ≤ 63 ∧ fld p 1 2 ∈ zoneRates ∧ 1000 ≤ fld p 3 4 ∧ fld p 3 4 ≤ 2000000 ∧ fld p 7 1 ≤ 2 ∧ fld p 8 1 ≤ 15 ∧ fld p 9 2 ≤ 1000
    ∧ fld p 11 1 ≤ 3

theorem zoneConfig_checks {p : List Byte} (s : State) (h : ZoneRanges p) : firstBad (cmdZoneConfig.checks s p) = none := by
  obtain ⟨h0, h1, h3, h3', h7, h8, h9, h11⟩ := h
  simp [cmdZoneConfig, inRange, h0, h1, h3, h3', h7, h8, h9, h11]

theorem zoneConfig_busy {p : List Byte} {s : State} (h : (s.zone (fld p 0 1)).state = .running) : zoneConfig s p = .err stBusy := if_pos h

/-- What a zone that is set becomes: its counters start again if it was FREE (R208, R247). -/
def zoneSet (x y : Zone) : Zone := { (if x.state = .free then clearZone y else y) with state := .stopped }

theorem zoneSet_stopped {x y : Zone} (hx : x.state = .stopped) (hy : y.state = x.state) : zoneSet x y = y := by
  rw [zoneSet, if_neg (by simp [hx]), ← hx, ← hy]

theorem zoneSet_free {x : Zone} (y : Zone) (hx : x.state = .free) : zoneSet x y = { clearZone y with state := .stopped } := by
  rw [zoneSet, if_pos hx]

theorem zoneConfig_ok {p : List Byte} {s : State} {x y : Zone} (hx : x = s.zone (fld p 0 1)) (hy : y = zoneOf p x) (hs : x.state ≠ .running)
    (hfit : zoneFits s (fld p 0 1) y (memberCount x) = true)
    (hqueue : queueSum (fun n => if n = fld p 0 1 then y else s.zone n) s.kernel.flows ≤ 4096) :
    zoneConfig s p = .ok (be 2 (zoneSize y (memberCount x)).kz ++ be 4 (zoneSize y (memberCount x)).staged
      ++ be 8 (zoneSize y (memberCount x)).store) (suspendSessions (fld p 0 1) (s.setZone (fld p 0 1) (zoneSet x y))) := by
  subst hx hy
  simp [zoneConfig, hs, hfit, Nat.not_lt.2 hqueue, zoneSet]

section
variable {dt : Ps} {q : Packet} {s u : State} (hu : u = arrived q (s.elapse dt)) (hr : ready (s.elapse dt) q 0x0401 = true)
  (hl : q.params.length = 12) (hp : ZoneRanges q.params)
include hu hr hl hp

theorem zoneConfig_executed {x y : Zone} (hx : x = u.zone (fld q.params 0 1)) (hy : y = zoneOf q.params x) (hs : x.state ≠ .running)
    (hfit : zoneFits u (fld q.params 0 1) y (memberCount x) = true)
    (hqueue : queueSum (fun n => if n = fld q.params 0 1 then y else u.zone n) u.kernel.flows ≤ 4096) :
    executed (exec (.zoneConfig dt q) s) q 0x0401 (be 2 (zoneSize y (memberCount x)).kz ++ be 4 (zoneSize y (memberCount x)).staged
      ++ be 8 (zoneSize y (memberCount x)).store) true (suspendSessions (fld q.params 0 1) (u.setZone (fld q.params 0 1) (zoneSet x y))) :=
  command_executed (d := cmdZoneConfig) hu hr rfl (beq_iff_eq.2 hl) (zoneConfig_checks u hp) (zoneConfig_ok hx hy hs hfit hqueue) rfl
    (suspendSessions_unsent ..)

theorem zoneConfig_refused (hs : (u.zone (fld q.params 0 1)).state = .running) :
    refusedWith (exec (.zoneConfig dt q) s) q 0x0401 0x01 0xFFFF u :=
  command_refused (d := cmdZoneConfig) (status := stBusy) (offset := 0) hu hr rfl (beq_iff_eq.2 hl) (zoneConfig_checks u hp) nofun nofun
    (zoneConfig_busy hs)

end

/-! ### ZONE_DELETE, ZONE_START, ZONE_STOP -/

theorem zoneDelete_busy {p : List Byte} {s : State} (h : (s.zone (fld p 0 1)).state = .running) : zoneDelete s p = .err stBusy :=
  if_pos (.inl h)

/-- A zone without its settings and its members; SEQ and the counters stay (R246; log entry 15). -/
def Zone.deleted (x : Zone) : Zone :=
  { x with state := .free, rate := 0, waitUs := 0, slotClass := 1, trigger := false, hold := false, revLimit := 3, revHold := 10
           members := [], areas := [] }

theorem zoneDelete_ok {p : List Byte} {s : State} {z : Nat} (hz : fld p 0 1 = z) (hs : (s.zone z).state = .stopped)
    (ha : ∀ a ∈ (s.zone z).areas, a.stagedHeld = false) : zoneDelete s p = .ok []
      ((dropSettings (zoneSetting z s) ((s.zone z).members.foldl (leaveZone z 0) s)).setZone z (s.zone z).deleted) := by
  subst hz
  have hno : ¬ ((s.zone (fld p 0 1)).state = .running ∨ ((s.zone (fld p 0 1)).areas.any (·.stagedHeld)) = true) := by
    simpa [hs] using ha
  exact if_neg hno

section
variable {p : List Byte} {s : State} {z : Nat} (hz : fld p 0 1 = z) (hs : (s.zone z).state = .stopped)
include hz hs

theorem zoneStart_idle (ha : s.aligning = false) : zoneStart s p
    = .ok (List.replicate 16 0) (resumeSessions z (s.modZone z fun x => { x with state := .running })) := by
  subst hz
  simp [zoneStart, hs, ha]

theorem zoneStart_begins {v : State} (ha : s.aligning = true) (hv : v = zoneBegin z (s.modZone z fun x => { x with state := .running })) :
    zoneStart s p = .ok (stampBytes (tickInstant (v.zone z).rate (v.zone z).firstTick) ++ be 4 (nextTickSeq v z)) v := by
  subst hz hv
  simp [zoneStart, hs, ha]

end

section
variable {p : List Byte} {s : State} {z : Nat} (hz : fld p 0 1 = z)
include hz

theorem zoneStop_idle (hs : (s.zone z).state ≠ .running) : zoneStop s p = .ok (be 4 (s.zone z).lastSeq.toNat) s := by
  subst hz
  exact if_pos hs

theorem zoneStop_running (hs : (s.zone z).state = .running) : zoneStop s p = .ok (be 4 (s.zone z).lastSeq.toNat)
    (dropSettings (fun k => k == (0x0403, [z])) ((stopTicking true z s).modZone z fun x => { x with state := .stopped })) := by
  subst hz
  exact if_neg (not_not.2 hs)

/-- Whatever the zone's state at the edge, ZONE_STOP answers LAST_SEQ (R209, R211). -/
theorem zoneStop_answers : ∃ t, zoneStop s p = .ok (be 4 (s.zone z).lastSeq.toNat) t := by
  by_cases hs : (s.zone z).state = .running
  · exact ⟨_, zoneStop_running hz hs⟩
  · exact ⟨_, zoneStop_idle hz hs⟩

end

/-! ### Members -/

theorem effectiveBytes_eq (x : Zone) :
    effectiveBytes x = if x.ticking then stampBytes (tickInstant x.rate x.nextStage) else List.replicate 12 0 := by
  unfold effectiveBytes effectiveTick
  split <;> simp_all

/-- A zone with one more member, from tick `n` on; none stands for the first tick when the zone next begins to tick (R213). -/
def Zone.joined (x : Zone) (r : StreamRef) (n : Option Nat) : Zone :=
  { x with members := insertMember { ref := r, joinAt := n, leaveAt := none, remoteGen := none } x.members }

section
variable {p : List Byte} {s : State} {z : Nat} {r : StreamRef} (hm : memberRefOf s p = r)
include hm

/-- A stream that belongs to a zone joins no other (R28, R212). -/
theorem zoneAdd_taken (hr : r.remote s = false) (hb : belongs s r = true) : zoneAdd s p = .bad 3 := by
  subst hm
  simp [zoneAdd, hr, hb]

variable (hz : fld p 0 1 = z)
include hz

theorem zoneAdd_here (hr : r.remote s = false) (hb : belongs s r = false) (hf : r.isLocal = true ∨ (s.ctx r.index).state ≠ .free)
    (hfit : zoneFits s z (s.zone z) (memberCount (s.zone z) + 1) = true) :
    zoneAdd s p = .ok (effectiveBytes (s.zone z)) (s.setZone z ((s.zone z).joined r (effectiveTick (s.zone z)))) := by
  subst hz hm
  have hbad : ¬ ((belongs s (memberRefOf s p) || (!(memberRefOf s p).isLocal && (s.ctx (memberRefOf s p).index).state = .free)) = true) := by
    obtain hf | hf := hf <;> simp [hb, hf]
  simp only [zoneAdd, hr, hbad, hfit, Bool.false_eq_true, Bool.not_true, if_false]
  rfl

/-- A stream of another device joins by a CONTROL frame on its link, whose acknowledgement ends the command (R497). -/
theorem zoneAdd_remote {k : Nat} (hr : r.remote s = true) (hk : s.linkTo r.position = some k) (hj : (s.link k).state = .joined)
    (hb : belongs s r = false) (hfit : zoneFits s z (s.zone z) (memberCount (s.zone z) + 1) = true) (ht : (s.zone z).ticking = false) :
    zoneAdd s p = .long (.remoteAdd k (s.link k).txSeq z r.position r.index (List.replicate 12 0))
      (sendControl r.position r.index z true 0 (s.setZone z ((s.zone z).joined r none))) := by
  subst hz hm
  simp [zoneAdd, hr, hk, hj, hb, hfit, effectiveBytes, effectiveTick, ht, Zone.joined]

theorem zoneRemove_ok (h : ∃ m ∈ (s.zone z).members, m.ref = r ∧ m.leaveAt = none) :
    zoneRemove s p = .ok (effectiveBytes (s.zone z)) (dropSettings (fun k => k == memberKey p) (removeMember z r s)) := by
  subst hz hm
  have hin : ((s.zone (fld p 0 1)).members.any fun m => m.ref = memberRefOf s p && m.leaveAt.isNone) = true := by simpa using h
  simp [zoneRemove, hin]

end

theorem memberRefOf_context {p : List Byte} (s : State) (h : fld p 1 1 = 0) :
    memberRefOf s p = { position := fld p 2 1, isLocal := false, index := fld p 3 2 } := by
  simp [memberRefOf, h]

theorem memberRefOf_local {p : List Byte} (s : State) (h : fld p 1 1 = 1) :
    memberRefOf s p = { position := s.position, isLocal := true, index := fld p 3 2 } := if_pos h

/-! ### The statement -/

/-- Settles O15: ZONE_STOP is accepted by `gridCmd_accepted` and `zoneStop_idle` and `zoneStop_running` say what it does at its edge; the
others are uses of the lemmas on the execution of a command, each on the equation of its body. -/
theorem zoneCommandsTakeEffect : Obligations.ZoneCommandsTakeEffect := by
  unfold Obligations.ZoneCommandsTakeEffect
  refine ⟨?set, ?setFree, ?setRunning, ?delete, ?deleteRunning, ?start, ?startAligning, ?stop, ?stopIdle, ?stopRunning, ?add, ?addRemote,
    ?addTaken, ?remove⟩
  case set =>
    rintro dt q s u z x y hu hr hl rfl h0 h1 h3 h3' h7 h8 h9 h11 hx hs hy hfit hqueue
    have hy : y = zoneOf q.params x := hy
    have h := zoneConfig_executed hu hr hl ⟨h0, h1, h3, h3', h7, h8, h9, h11⟩ hx hy (by simp [hs]) hfit hqueue
    rwa [zoneSet_stopped hs (by rw [hy]; rfl)] at h
  case setFree =>
    rintro dt q s u z x y hu hr hl rfl h0 h1 h3 h3' h7 h8 h9 h11 hx hs hy hfit hqueue
    have h := zoneConfig_executed hu hr hl ⟨h0, h1, h3, h3', h7, h8, h9, h11⟩ hx hy (by simp [hs]) hfit hqueue
    rwa [zoneSet_free y hs] at h
  case setRunning =>
    rintro dt q s u z hu hr hl rfl h0 h1 h3 h3' h7 h8 h9 h11 hs
    exact zoneConfig_refused hu hr hl ⟨h0, h1, h3, h3', h7, h8, h9, h11⟩ hs
  case delete =>
    rintro dt q s u z x hu hr hl hz h63 rfl hs ha
    obtain ⟨hh, hsys⟩ := Prod.mk.inj (leaveZones_frame z 0 (u.zone z).members u)
    exact command_executed_dropping (d := cmdZoneDelete) hu hr rfl (beq_iff_eq.2 hl) (zoneThere_ok hz h63 (by simp [hs]))
      (zoneDelete_ok hz hs ha) rfl rfl hh hsys
  case deleteRunning =>
    rintro dt q s u z hu hr hl rfl h63 hs
    exact command_refused (d := cmdZoneDelete) (status := stBusy) (offset := 0) hu hr rfl (beq_iff_eq.2 hl)
      (zoneThere_ok rfl h63 (by simp [hs])) nofun nofun (zoneDelete_busy hs)
  case start =>
    intro dt q s u z hu hr hl hz h63 hs ha
    exact command_executed (d := cmdZoneStart) hu hr rfl (beq_iff_eq.2 hl) (zoneThere_ok hz h63 (by simp [hs])) (zoneStart_idle hz hs ha)
      rfl rfl
  case startAligning =>
    intro dt q s u v z hu hr hl hz h63 hs ha hv
    exact timeRead_executed (d := cmdZoneStart) hu hr rfl (beq_iff_eq.2 hl) (zoneThere_ok hz h63 (by simp [hs]))
      (zoneStart_begins hz hs ha hv) rfl (hv ▸ zoneBegin_sys ..) (hv ▸ zoneBegin_host ..)
  case stop =>
    rintro dt q s u w z hu hr hl hz h63 rfl hs
    obtain ⟨t, ht⟩ := zoneStop_answers (s := u.flushed) hz
    exact gridCmd_accepted hu hr rfl hl (zoneThere_ok hz h63 hs) ht
  case stopIdle =>
    intro p v z hz hs
    exact Later.act_command (zoneStop_idle hz hs) rfl
  case stopRunning =>
    rintro p v t z hz hs rfl
    simp only [Later.act, gridOut, zoneStop_running hz hs]
    rfl
  case add =>
    rintro dt q s u z x r hu hr hl hz h63 rfl hf h1 h2 hpos h3 rfl hb hc hfit
    have hm := memberRefOf_context u h1
    rw [h2] at hm
    rw [← effectiveBytes_eq]
    exact command_executed (d := cmdZoneAddStream) hu hr rfl (beq_iff_eq.2 hl)
      (memberChecks_ok hz h63 hf (by omega) (h2.trans_le hpos) (.inl h1) (by simpa [h1] using h3))
      (zoneAdd_here hm hz (by simp [StreamRef.remote]) hb (.inr hc) hfit) rfl rfl
  case addRemote =>
    rintro dt q s u z k x r hu hr hl hz h63 rfl hf ht h1 h2 hpos h3 rfl hk hj hb hfit
    exact executing_of_run cmdZoneAddStream dt q s u hu hr rfl (beq_iff_eq.2 hl)
      (memberChecks_ok hz h63 hf (by omega) hpos (.inl h1) (by simpa [h1] using h3)) _ _
      (zoneAdd_remote (memberRefOf_context u h1) hz (by simpa [StreamRef.remote] using h2) hk hj hb hfit ht)
  case addTaken =>
    rintro dt q s u z x r hu hr hl hz h63 rfl hf h1 h2 hpos h3 rfl hb
    exact command_refused (d := cmdZoneAddStream) (status := stBadParam) (offset := 3) hu hr rfl (beq_iff_eq.2 hl)
      (memberChecks_ok hz h63 hf (by omega) (h2.trans_le hpos) (.inr h2) (by simpa [h1] using h3)) nofun nofun
      (zoneAdd_taken (memberRefOf_local u h1) (by simp [StreamRef.remote]) hb)
  case remove =>
    rintro dt q s u z x r hu hr hl hz h63 rfl hf h1 h2 h3 rfl hmem
    have hkept := removeMember_unsent z { position := fld q.params 2 1, isLocal := false, index := fld q.params 3 2 } u
    have hsys := sys_of_unsent hkept
    rw [← effectiveBytes_eq]
    exact command_executed_dropping (d := cmdZoneRemoveStream) hu hr rfl (beq_iff_eq.2 hl)
      (memberChecks_ok hz h63 hf (by omega) h2 (.inl h1) (by simpa [h1] using h3)) (zoneRemove_ok (memberRefOf_context u h1) hz hmem)
      rfl rfl (host_of_unsent hkept) hsys

end Sys2Proof.Machine
end

section
/-! SUPPORT. Insertion of a record: the checks of R218 one by one, what a late frame and a frame in time do, and the statement on them
(R218, R226, R232, R233). -/

namespace Sys2Proof.Machine

/-! ### Records of this device -/

@[simp] theorem recRef_isLocal (f : FrameRecord) : (recRef f).isLocal = f.isLocal := rfl
@[simp] theorem recRef_position (f : FrameRecord) : (recRef f).position = f.position := rfl
@[simp] theorem recRef_index (f : FrameRecord) : (recRef f).index = f.index := rfl

theorem remote_of_here {f : FrameRecord} {s : State} (hp : f.position = s.position) : (recRef f).remote s = false := by
  simp [StreamRef.remote, hp]

/-- A stream of this device has no GEN beside its member (R499). -/
theorem noteGen_here {f : FrameRecord} {s : State} (h : (recRef f).remote s = false) : noteGen f s = s := by
  simp [noteGen, h]

/-- The GEN of a record of a context of this device is judged by the context's (R190, R218). -/
theorem staleGen_context {f : FrameRecord} {s : State} (hl : f.isLocal = false) (hp : f.position = s.position) :
    staleGen s f = ((s.ctx f.index).gen.toNat != f.gen) := by
  simp [staleGen, remote_of_here hp, hl]

theorem recordZone_context {f : FrameRecord} {s : State} (hl : f.isLocal = false) (hp : f.position = s.position) :
    recordZone s f = (s.ctx f.index).zone := by
  simp [recordZone, remote_of_here hp, hl]

theorem insertRecord_stale {e : Ps} {f : FrameRecord} {s : State} (hl : f.isLocal = false) (hp : f.position = s.position)
    (hg : (s.ctx f.index).gen.toNat ≠ f.gen) :
    insertRecord e f s = s.modCtx f.index fun c => { c with cStaleGen := inc c.cStaleGen } := by
  have hstale : staleGen s f = true := (staleGen_context hl hp).trans (bne_iff_ne.2 hg)
  simp [insertRecord, hstale, remote_of_here hp]

/-! ### Checks 1 to 6 -/

section
variable {e : Ps} {f : FrameRecord} {s : State} {z sec j n : Nat} (hg : staleGen s f = false) (hr : (recRef f).remote s = false)
include hg hr

theorem insertRecord_unzoned (hz : recordZone s f = none) :
    insertRecord e f s = { s with align := { s.align with cUnzoned := inc s.align.cUnzoned } } := by
  simp [insertRecord, hg, noteGen_here hr, hz]

variable (hz : recordZone s f = some z)
include hz

theorem insertRecord_stopped (ht : (s.zone z).ticking = false) :
    insertRecord e f s = { s with align := { s.align with cStopped := inc s.align.cStopped } } := by
  simp [insertRecord, hg, noteGen_here hr, hz, ht]

variable (ht : (s.zone z).ticking = true)
include ht

theorem insertRecord_oversize (hx : excludedNow s (s.zone z) (recRef f) = true) :
    insertRecord e f s = s.modZone z fun x => { x with cOversize := inc x.cOversize } := by
  simp [insertRecord, hg, noteGen_here hr, hz, ht, hx, zoneCount]

variable (hx : excludedNow s (s.zone z) (recRef f) = false)
include hx

theorem insertRecord_offGrid (hm : matchInstant f = none) :
    insertRecord e f s = s.modZone z fun x => { x with cOffGrid := inc x.cOffGrid } := by
  simp [insertRecord, hg, noteGen_here hr, hz, ht, hx, hm, zoneCount]

variable (hm : matchInstant f = some (sec, j))
include hm

theorem insertRecord_surplus (hj : j * (s.zone z).rate % f.rate ≠ 0) :
    insertRecord e f s = s.modZone z fun x => { x with cSurplus := inc x.cSurplus } := by
  simp [insertRecord, hg, noteGen_here hr, hz, ht, hx, hm, hj, zoneCount]

theorem insertRecord_placed (hj : j * (s.zone z).rate % f.rate = 0)
    (hn : tickNear (s.zone z) (sec * (s.zone z).rate + j * (s.zone z).rate / f.rate) = some n) :
    insertRecord e f s = placeRecord e z n f s := by
  simp [insertRecord, hg, noteGen_here hr, hz, ht, hx, hm, hj, hn]

end

/-! ### Check 7: the layout of a tick -/

theorem tickHolds_outside {x : Zone} {a : Option Area} {n : Nat} {r : StreamRef} {m : Member}
    (hm : (x.members.find? fun m => m.ref = r && m.joinAt.isSome) = some m) (hn : memberAt m n = false ∨ n < x.firstTick) :
    tickHolds x a n r = false := by
  simp only [tickHolds, hm]
  obtain hn | hn := hn
  · simp [hn]
  · simp [Nat.not_le.2 hn]

theorem tickHolds_noSlot {x : Zone} {a : Area} {n : Nat} {r : StreamRef} (hs : a.staged = true) (hno : ∀ y ∈ a.slots, y.ref ≠ r) :
    tickHolds x (some a) n r = false := by
  have hany : (a.slots.any fun y => y.ref = r) = false := by simpa using hno
  unfold tickHolds
  split
  · rfl
  · simp [hs, hany]

/-! ### Checks 7 to 12 -/

section
variable {e : Ps} {z n : Nat} {f : FrameRecord} {s : State} {a : Option Area}

theorem indexReadable {r : StreamRef} (h : ∀ b ∈ a, r ∉ b.indexBad) : (a.any fun b => b.indexBad.contains r) = false := by
  cases a with
  | none => rfl
  | some b => simpa using h b rfl

variable (ha : a = (s.area z n).filter (·.stored)) (hi : ∀ b ∈ a, recRef f ∉ b.indexBad)
include ha hi

theorem placeRecord_noMember (hh : tickHolds (s.zone z) a n (recRef f) = false) :
    placeRecord e z n f s = s.modZone z fun x => { x with cMember := inc x.cMember } := by
  simp only [placeRecord, ← ha, indexReadable hi, hh]
  rfl

variable (hh : tickHolds (s.zone z) a n (recRef f) = true)
include hh

theorem placeRecord_future (hage : stampDiff s.stamp (tickInstant (s.zone z).rate n) < -(4 * (unitsPerMs : Int))) :
    placeRecord e z n f s = s.modZone z fun x => { x with cFuture := inc x.cFuture } := by
  simp only [placeRecord, ← ha, indexReadable hi, hh, hage, if_true]
  rfl

theorem placeRecord_horizon (hage : 2 * (unitsPerSec : Int) < stampDiff s.stamp (tickInstant (s.zone z).rate n)) :
    placeRecord e z n f s = s.modZone z fun x => { x with cHorizon := inc x.cHorizon } := by
  have hpast : ¬ stampDiff s.stamp (tickInstant (s.zone z).rate n) < -(4 * (unitsPerMs : Int)) := by omega
  simp only [placeRecord, ← ha, indexReadable hi, hh, hpast, hage, if_true, if_false]
  rfl

end

section
variable {e : Ps} {z n : Nat} {f : FrameRecord} {s : State} {a : Area} (ha : s.area z n = some a) (hst : a.stored = true)
include ha hst

theorem storedArea : some a = (s.area z n).filter (·.stored) := by
  rw [ha, Option.filter_some, if_pos hst]

variable (hsg : a.staged = true) (hi : recRef f ∉ a.indexBad) (hh : tickHolds (s.zone z) (some a) n (recRef f) = true)
  (h4 : -(4 * (unitsPerMs : Int)) ≤ stampDiff s.stamp (tickInstant (s.zone z).rate n))
  (h2 : stampDiff s.stamp (tickInstant (s.zone z).rate n) ≤ 2 * (unitsPerSec : Int))
include hsg hi hh h4 h2

theorem placeRecord_duplicate (hd : ∃ y ∈ a.slots, y.ref = recRef f ∧ (y.state = .present ∨ y.state = .late)) :
    placeRecord e z n f s = s.modZone z fun x => { x with cDup := inc x.cDup } := by
  have hdup : (a.slots.any fun y => y.ref = recRef f && (y.state = .present || y.state = .late)) = true := by simpa using hd
  simp [placeRecord, ← storedArea ha hst, hi, hh, Int.not_lt.2 h4, Int.not_lt.2 h2, hsg, hdup, zoneCount]

/-- The slot is still to be taken: the frame is late when its insertion completes after the tick fired, and takes its slot else (R34, R218). -/
theorem placeRecord_first (hd : ∀ y ∈ a.slots, y.ref = recRef f → y.state ≠ .present ∧ y.state ≠ .late) :
    placeRecord e z n f s = if a.lateFor e then insertLate z a f s else insertPresent e z n f (slotWritten z n (recRef f) s) := by
  have hdup : (a.slots.any fun y => y.ref = recRef f && (y.state = .present || y.state = .late)) = false := by simpa using hd
  simp [placeRecord, ← storedArea ha hst, hi, hh, Int.not_lt.2 h4, Int.not_lt.2 h2, hsg, hdup]

end

/-! ### The frame takes its slot -/

/-- A change of a tick's area that leaves its number is what the area then reads. -/
theorem modArea_area {z n : Nat} {f : Area → Area} {s : State} (hf : ∀ a, (f a).tick = a.tick) :
    (modArea z n f s).area z n = (s.area z n).map f := by
  have hp : ((fun a : Area => decide (a.tick = n)) ∘ fun a => if a.tick = n then f a else a) = fun a => decide (a.tick = n) := by
    funext a
    dsimp only [Function.comp]
    split
    · rw [hf]
    · rfl
  simp only [State.area, modArea, State.modZone_zone_self, List.find?_map, hp]
  cases h : (s.zone z).areas.find? fun a => decide (a.tick = n) with
  | none => rfl
  | some a => simp [area_tick (s := s) h]

/-- In a zone without the trigger the slot is PRESENT with the record (R218, R226). -/
theorem insertPresent_slots {e : Ps} {z n : Nat} {f : FrameRecord} {s : State} {a : Area} (ha : s.area z n = some a) (hst : a.stored = true)
    (htr : (s.zone z).trigger = false) : ∃ b, (insertPresent e z n f s).area z n = some b ∧ b.slots = a.slots.map fun y =>
      if y.ref = recRef f then { y with state := .present, record := some f, triggerLast := false } else y := by
  simp only [insertPresent, ← storedArea ha hst, triggerMet, htr, Bool.false_and, Bool.false_eq_true, if_false]
  rw [modArea_area (by intro; rfl), ha]
  exact ⟨_, rfl, rfl⟩

/-! ### Late frames -/

section
variable {z : Nat} {a : Area} {f : FrameRecord} {s : State}

theorem insertLate_noRevisions (hl : (s.zone z).revLimit = 0) :
    insertLate z a f s = s.modZone z fun x => { x with cLateDrops := inc x.cLateDrops } := if_pos hl

theorem insertLate_limit (h0 : 0 < (s.zone z).revLimit) (ha : a.armed = false) (hl : (s.zone z).revLimit ≤ knownRev s z a) :
    insertLate z a f s = s.modZone z fun x => { x with cRevLimit := inc x.cRevLimit } := by
  simp [insertLate, h0.ne', ha, hl, zoneCount]

@[simp] theorem slotWritten_align (z n : Nat) (r : StreamRef) (s : State) : (slotWritten z n r s).align = s.align := by
  unfold slotWritten
  dsimp only
  split <;> rfl

/-- The first late frame of a tick arms its revision (R233). -/
theorem insertLate_arms (ha : a.armed = false) (hl : knownRev s z a < (s.zone z).revLimit) (hq : s.align.revQueue.length < 1024) :
    (insertLate z a f s).align.revQueue
      = s.align.revQueue ++ [{ zone := z, tick := a.tick, holdEnd := s.now + (s.zone z).revHold * 1000000000, queued := none }] := by
  have hcount (g : Zone → Zone) (t : State) : (zoneCount z g t).align.revQueue = t.align.revQueue := rfl
  have harea (g : Area → Area) : (modArea z a.tick g s).align.revQueue = s.align.revQueue := rfl
  simp [insertLate, Nat.ne_of_gt (Nat.zero_lt_of_lt hl), ha, Nat.not_le.2 hl, Nat.not_le.2 hq, hcount, harea]

end

/-! ### The row -/

theorem exec_alignerInsertion {dt : Ps} {s u : State} (hu : u = insertionRead (s.elapse dt)) :
    exec (.alignerInsertion dt) s = .next (insertNext u) := hu ▸ rfl

/-! ### The statement -/

/-- Settles O16: the row inserts the oldest record that is due; each check is one lemma on `insertRecord` or `placeRecord`. -/
theorem insertionChecksInOrder : Obligations.InsertionChecksInOrder := by
  unfold Obligations.InsertionChecksInOrder
  refine ⟨?due, ?empty, ?early, fun e f u => insertRecord_stale, ?gen, ?genLocal, fun f u => recordZone_context,
    fun e f u => insertRecord_unzoned, fun e f u z => insertRecord_stopped, fun e f u z => insertRecord_oversize,
    fun e f u z => insertRecord_offGrid, fun e f u z sec j => insertRecord_surplus, fun e f u z sec j n => insertRecord_placed,
    fun e z n f u a => placeRecord_noMember, fun x a n r m => tickHolds_outside, fun x a n r => tickHolds_noSlot,
    fun e z n f u a => placeRecord_future, fun e z n f u a => placeRecord_horizon, fun e z n f u a => placeRecord_duplicate,
    fun e z n f u a => placeRecord_first,
    fun e z n f u a ha hst htr _ => insertPresent_slots ha hst htr, fun z a f u => insertLate_noRevisions,
    fun z a f u => insertLate_limit, fun z a f u => insertLate_arms⟩
  case due =>
    intro dt s u due f rest hu hq hd
    rw [exec_alignerInsertion hu]
    simp [insertNext, hq, hd]
  case empty =>
    intro dt s u hu hq
    rw [exec_alignerInsertion hu]
    simp [insertNext, hq]
  case early =>
    intro dt s u due f rest hu hq hd
    rw [exec_alignerInsertion hu]
    simp [insertNext, hq, Nat.not_le.2 hd]
  case gen =>
    intro f u hl hp hg
    rw [staleGen_context hl hp, hg, bne_self_eq_false]
  case genLocal =>
    intro f u hl
    simp [staleGen, hl]

end Sys2Proof.Machine
end

section
/-! SUPPORT. A revision from its hold to its end, and the statement on revisions (R233 to R237, R240). -/

namespace Sys2Proof.Machine

@[simp] theorem mirrorItem_align (code : Nat) (content : List Byte) (s : State) : (mirrorItem code content s).align = s.align :=
  (work_eq_iff.1 (mirrorItem_work code content s)).1

/-! ### The assembly of a revision -/

theorem revStart_free {z n : Nat} {s : State} (hr : s.align.revArea = .ready z n true) (ha : s.align.asm = none) (hq : s.align.asmQueue = []) :
    revStart s = startRevision z n s := by
  simp [revStart, hr, ha, hq]

/-- A close or trigger of the same edge takes the assembler before the revision (R45, R236). -/
theorem revStart_taken {z n : Nat} {s : State} (hr : s.align.revArea = .ready z n true) (ht : s.align.asm ≠ none ∨ s.align.asmQueue ≠ []) :
    revStart s = { s with align := { s.align with revArea := .ready z n false } } := by
  have hbusy : (s.align.asm.isNone && s.align.asmQueue.isEmpty) = false := by
    rw [Bool.and_eq_false_iff]
    exact ht.imp (by simp [Option.isSome_iff_ne_none]) (by simp)
  simp [revStart, hr, hbusy]

/-- A revision is sealed from revision 0 and the late frames with the next number, and takes the assembler for 64 + 4 N FCLK (R228, R237). -/
theorem startRevision_revArea {z n : Nat} {s : State} {a : Area} {base : Sealed} (ha : s.area z n = some a) (hb : a.sealed_.getLast? = some base)
    (hl : knownRev s z a + 1 ≤ (s.zone z).revLimit) : (startRevision z n s).align.revArea
      = .assembling (sealNow s z (s.zone z) a (knownRev s z a + 1) base.seq (revisionSlots base a))
          (s.now + assemblyCycles base.slots.length * 1250) := by
  have hlen : (revisionSlots base a).length = base.slots.length := List.length_map ..
  simp [startRevision, ha, hb, Nat.not_lt.2 hl, sealNow, hlen]

/-! ### A revision that is given up -/

theorem abandonRevision_waiting {z n : Nat} {s : State} (h : revWaiting s z n = true) : abandonRevision z n s
    = { dropRevision z n s with align := { (dropRevision z n s).align with cRevAbandoned := inc (dropRevision z n s).align.cRevAbandoned } } :=
  if_pos h

/-! ### The statement -/

/-- Settles O18: each row is its operation on the state that its passage of time and its reads leave, taken at the branch of its
hypotheses; `startRevision_revArea` says what a revision assembly seals and how long it takes. -/
theorem revisionsRunTheirCourse : Obligations.RevisionsRunTheirCourse := by
  unfold Obligations.RevisionsRunTheirCourse
  refine ⟨?queued, ?held, ?restaged, ?start, fun z n u => revStart_free, fun z n u => revStart_taken, ?assembly, ?assembled, ?abandoned⟩
  case queued =>
    rintro dt z n s u a edge rfl ha hd rfl
    change execRevisionDue dt z n s = _
    simp [execRevisionDue, ha, hd, and_assoc]
  case held =>
    rintro dt z n s u a rfl ha hd
    change execRevisionDue dt z n s = _
    simp [execRevisionDue, ha, hd]
  case restaged =>
    rintro dt z n s u rfl hr
    change execRestagingDone dt s = _
    simp [execRestagingDone, hr]
  case start =>
    rintro dt z n s u rfl hr ha hq hw
    have hformed : ((s.elapse dt).egress.waits.any fun w => w.zone = z && w.tick = n && waitPending (s.elapse dt) w) = false := by
      simpa using hw
    change execRevisionAssemblyStart dt s = _
    simp [execRevisionAssemblyStart, hr, ha, hq, hformed]
  case assembly =>
    intro z n u a base ha hb _ hl
    exact ⟨_, startRevision_revArea ha hb hl, rfl, rfl, rfl⟩
  case assembled =>
    rintro dt s u v c due a rfl hr hd ha rfl
    change execRevisionAssemblyDone dt s = _
    simp only [execRevisionAssemblyDone, hr, if_pos hd, ha, Option.isNone_some, Bool.false_eq_true, if_false]
    rfl
  case abandoned =>
    rintro dt z n s u a rfl ha hp hw
    refine ⟨_, rfl, ?_⟩
    change execRevisionAbandon dt z n s = _
    simp [execRevisionAbandon, ha, hp, abandonRevision_waiting hw]

end Sys2Proof.Machine
end

section
/-! SUPPORT. The settings commands of the front end: which checks pass, what each writes, and the statement on them (R251, R252, R257, R262,
R269, R273, R277, R278, R283). -/

namespace Sys2Proof.Machine

/-! ### Sessions leave the front end alone -/

@[simp] theorem leaveWaits_front (n : Nat) (s : State) : (leaveWaits n s).front = s.front := rfl

@[simp] theorem refreshSession_front (n : Nat) (s : State) : (refreshSession n s).front = s.front := by
  unfold refreshSession
  extract_lets
  split
  · split
    · rfl
    · split <;> rfl
  · split
    · rfl
    · split <;> rfl
  · rfl

@[simp] theorem refreshSessions_front (s : State) : (refreshSessions s).front = s.front :=
  foldl_keeps_read State.front (fun s n => refreshSession_front n s) _ s

/-! ### FE_SET_PRESET -/

theorem setPreset_unsent (preset : Nat) (min fnom50 : Bool) (s : State) : (setPreset preset min fnom50 s).unsent = s.unsent :=
  (refreshSessions_unsent _).trans rfl

/-- A change of the preset or of the FIR option restarts the chains that settle or are VALID, and counts (R262, R263, R284). -/
theorem setPreset_restarts {preset : Nat} {min : Bool} (fnom50 : Bool) {s : State} (h : s.front.preset ≠ preset ∨ s.front.firMin ≠ min) :
    (setPreset preset min fnom50 s).front = { s.front with
      preset, firMin := min, fnom50, inputs := s.front.inputs.map presetRestart
      locals_ := s.front.locals_.map fun l => { l with changedAt := some s.now }, cPreset := inc s.front.cPreset } := by
  have hr : s.front.preset ≠ preset ∨ s.front.firMin ≠ min ∨ s.front.fnom50 = fnom50 := h.imp_right .inl
  rw [setPreset, refreshSessions_front]
  simp only [hr, if_true]

theorem setPreset_fnom {preset : Nat} {min : Bool} {s : State} (hp : s.front.preset = preset) (hm : s.front.firMin = min) :
    (setPreset preset min (!s.front.fnom50) s).front = { s.front with
      fnom50 := !s.front.fnom50, locals_ := s.front.locals_.map fun l => { l with changedAt := some s.now } } := by
  subst hp hm
  rw [setPreset, refreshSessions_front]
  simp

theorem setPreset_checks {p : List Byte} {s : State} (h0 : fld p 0 1 ≤ 3) (h1 : fld p 1 1 ≤ 1) (h2 : fld p 2 1 ≤ 1)
    (hl : ∀ l ∈ s.front.locals_, l.enabled = true → l.rate ∈ localRates (fld p 2 1 == 1)) : firstBad (cmdFeSetPreset.checks s p) = none := by
  have hrates : (s.front.locals_.all fun l => !l.enabled || (localRates (fld p 2 1 == 1)).contains l.rate) = true := by
    simp only [Vector.all_eq_true_iff_forall_mem, Bool.or_eq_true, Bool.not_eq_true', List.contains_iff_mem]
    intro l hmem
    by_cases he : l.enabled = true
    · exact .inr (hl l hmem he)
    · exact .inl (Bool.eq_false_of_not_eq_true he)
  simp only [cmdFeSetPreset, hrates]
  simp [inRange, h0, h1, h2]

/-! ### FE_SET_SAMPLING -/

/-- What a channel loses without an input is its own (R251). -/
theorem absentChan_eq (c : Nat) (s : State) : ∃ x, absentChan c s = s.setChan c x := by
  unfold absentChan
  extract_lets x on
  split
  · exact ⟨x, by simp [x, State.setChan, State.chan]⟩
  · exact ⟨_, rfl⟩

@[simp] theorem absentChan_input (c : Nat) (s : State) (i : Nat) : (absentChan c s).input i = s.input i := by
  obtain ⟨x, hx⟩ := absentChan_eq c s
  rw [hx]
  rfl

@[simp] theorem absentChan_unsent (c : Nat) (s : State) : (absentChan c s).unsent = s.unsent := by
  obtain ⟨x, hx⟩ := absentChan_eq c s
  rw [hx]
  rfl

theorem setSampling_unsent (i b : Nat) (s : State) : (setSampling i b s).unsent = s.unsent := (absentChan_unsent ..).trans rfl

/-- FE_SET_SAMPLING's enable bit (R283). -/
theorem enableBit_clear {b : Nat} (h : b < 128) : b.testBit 7 = false := Nat.testBit_lt_two_pow h

theorem enableBit_set {b : Nat} (hlo : 128 ≤ b) (hhi : b < 256) : b.testBit 7 = true := by
  have hb : b / 128 % 2 = 1 := by omega
  simp [Nat.testBit_eq_decide_div_mod_eq, hb]

theorem setSampling_off {i b : Nat} {s : State} (hi : i < 24) (hb : b < 128) : (setSampling i b s).input i = { s.input i with
    enabled := false, instant := b % 4, chain := .off, restartDue := false, presetDue := false, vValid := false, resumeRun := 0 } := by
  simp [setSampling, enableBit_clear hb, hi]

section
variable {i b : Nat} {s : State} (hi : i < 24) (hlo : 128 ≤ b) (hhi : b < 256)
include hi hlo hhi

theorem setSampling_on (he : (s.input i).enabled = false) : (setSampling i b s).input i = { s.input i with
    enabled := true, instant := b % 4, chain := if inputClock s i then .settling else .stopped, restartDue := inputClock s i, vValid := false } := by
  simp [setSampling, enableBit_set hlo hhi, hi, he]

variable (he : (s.input i).enabled = true)
include he

theorem setSampling_moved (hm : (s.input i).instant ≠ b % 4) :
    (setSampling i b s).input i = { s.input i with instant := b % 4, restartDue := inputClock s i } := by
  simp [setSampling, enableBit_set hlo hhi, hi, he, hm]

theorem setSampling_same (hm : (s.input i).instant = b % 4) : (setSampling i b s).input i = s.input i := by
  have hsame : { s.input i with enabled := true, instant := b % 4 } = s.input i := by rw [← hm, ← he]
  simp [setSampling, enableBit_set hlo hhi, hi, he, hm, hsame]

end

theorem setSampling_checks {p : List Byte} (s : State) (h : ∀ i, i < 24 → fld p i 1 % 128 < 4) :
    firstBad (cmdFeSetSampling.checks s p) = none := by
  rw [firstBad_eq_none_iff]
  intro x hx
  obtain ⟨i, hi, rfl⟩ := List.mem_map.1 hx
  exact decide_eq_true (h i (List.mem_range.1 hi))

/-! ### FE_SET_RANGE -/

theorem setRange_checks {p : List Byte} (s : State) {c m : Nat} (hc : fld p 0 1 = c) (h7 : c ≤ 7) (hm : fld p 1 1 = m) (h2 : m ≤ 2) :
    firstBad (cmdFeSetRange.checks s p) = none := by
  subst hc hm
  simp [cmdFeSetRange, inRange, h7, h2]

section
variable {dt : Ps} {q : Packet} {s u : State} {c : Nat} (hu : u = arrived q (s.elapse dt)) (hr : ready (s.elapse dt) q 0x0504 = true)
  (hl : q.params.length = 2) (hc : fld q.params 0 1 = c) (h7 : c ≤ 7)
include hu hr hl hc h7

/-- FE_SET_RANGE writes the range that its body gives for the mode. -/
theorem setRange_executed {m : Nat} {r : RangeSt} (hm : fld q.params 1 1 = m) (h2 : m ≤ 2)
    (hrun : cmdFeSetRange.run u q.ifc q.params = .ok [] (u.setRange c r)) :
    executed (exec (.feSetRange dt q) s) q 0x0504 [] true (u.setRange c r) :=
  command_executed (d := cmdFeSetRange) hu hr rfl (beq_iff_eq.2 hl) (setRange_checks u hc h7 hm h2) hrun rfl rfl

theorem setRange_auto (hm : fld q.params 1 1 = 0) :
    executed (exec (.feSetRange dt q) s) q 0x0504 [] true (u.setRange c { u.range c with mode := .auto }) :=
  setRange_executed hu hr hl hc h7 hm (by omega) (by subst hc; simp [cmdFeSetRange, hm])

theorem setRange_forceHi (hm : fld q.params 1 1 = 1) :
    executed (exec (.feSetRange dt q) s) q 0x0504 [] true (u.setRange c { u.range c with mode := .forceHi, lo := false }) :=
  setRange_executed hu hr hl hc h7 hm (by omega) (by subst hc; simp [cmdFeSetRange, hm])

theorem setRange_forceLo (hm : fld q.params 1 1 = 2) :
    executed (exec (.feSetRange dt q) s) q 0x0504 [] true (u.setRange c { u.range c with mode := .forceLo, lo := true }) :=
  setRange_executed hu hr hl hc h7 hm (by omega) (by subst hc; simp [cmdFeSetRange, hm])

end

/-! ### FE_SET_CAL and FE_SET_DETECTORS -/

theorem setCal_checks {p : List Byte} (s : State) (h0 : fld p 0 1 ≤ 23) (hlo : -32768 ≤ sfld p 9 4) (hhi : sfld p 9 4 ≤ 32768) :
    firstBad (cmdFeSetCal.checks s p) = none := by
  simp [cmdFeSetCal, inRange, inRangeI, h0, hlo, hhi]

/-- The parameters of FE_SET_DETECTORS lie in their ranges (R273, R283). -/
def DetectorRanges (p : List Byte) : Prop :=
  fld p 0 1 ≤ 15 ∧ 1 ≤ fld p 1 1 ∧ fld p 1 1 ≤ 60 ∧ 1 ≤ fld p 2 1 ∧ fld p 2 1 ≤ 60 ∧ 100 ≤ fld p 3 4 ∧ fld p 3 4 ≤ 1000000
    ∧ 1000 ≤ fld p 7 4 ∧ fld p 7 4 ≤ 10000000

theorem setDetectors_checks {p : List Byte} (s : State) (h : DetectorRanges p) : firstBad (cmdFeSetDetectors.checks s p) = none := by
  obtain ⟨h0, hpk, hpk', hrms, hrms', hatt, hatt', hrel, hrel'⟩ := h
  simp [cmdFeSetDetectors, inRange, h0, hpk, hpk', hrms, hrms', hatt, hatt', hrel, hrel']

/-! ### FE_SET_LOCAL_STREAM -/

/-- A local stream replaced. -/
def State.setLocal (s : State) (n : Nat) (l : LocalStream) : State :=
  { s with front := { s.front with locals_ := vset s.front.locals_ n l } }

/-- The device without a local stream, whose share of the ingress budget is tried anew (R188, R278). -/
def withoutLocal (s : State) (n : Nat) : State :=
  s.setLocal n { s.localStream n with toLocalCfg := { (s.localStream n).toLocalCfg with enabled := false } }

/-- The budget has room for a local stream with settings `g` (R188, R278). -/
def localFits (s : State) (n : Nat) (g : LocalCfg) : Bool := budgetAdmits (withoutLocal s n) 65536 g.rate (popcount 16 g.mask) false

/-- The parameters of FE_SET_LOCAL_STREAM lie in their ranges (R277, R283). -/
def LocalRanges (s : State) (p : List Byte) : Prop :=
  fld p 0 1 ≤ 3 ∧ fld p 1 1 ≤ 1 ∧ fld p 2 1 ≤ 1 ∧ fld p 3 2 ∈ localRates s.front.fnom50 ∧ fld p 7 1 ≤ 15 ∧ fld p 8 1 ≤ 16
    ∧ (∀ i, i < fld p 8 1 → fld p (9 + i) 1 < 64) ∧ fld p 25 1 ≤ 1

theorem setLocal_checks {p : List Byte} {s : State} (h : LocalRanges s p) : firstBad (cmdFeSetLocalStream.checks s p) = none := by
  obtain ⟨h0, h1, h2, hrate, h7, h8, hsrc, h25⟩ := h
  rw [firstBad_eq_none_iff]
  intro x hx
  simp only [cmdFeSetLocalStream, List.mem_append, List.mem_map, List.mem_range, List.mem_singleton, List.append_assoc] at hx
  obtain hx | ⟨i, hi, rfl⟩ | rfl := hx
  · have hfixed : firstBad [(inRange (fld p 0 1) 0 3, 0), (inRange (fld p 1 1) 0 1, 1), (inRange (fld p 2 1) 0 1, 2),
        ((localRates s.front.fnom50).contains (fld p 3 2), 3), (inRange (fld p 7 1) 0 15, 7), (inRange (fld p 8 1) 0 16, 8)] = none := by
      simp [inRange, h0, h1, h2, hrate, h7, h8]
    exact firstBad_eq_none_iff.1 hfixed x hx
  · exact decide_eq_true (hsrc i (by omega))
  · simp [inRange, h25]

section
variable {p : List Byte} {s : State} {n : Nat} {g : LocalCfg} (hn : fld p 0 1 = n) (hg : g = localOf p) (ifc : Nat)
include hn hg

theorem setLocal_run (hfit : g.enabled = true → localFits s n g = true) : cmdFeSetLocalStream.run s ifc p = .ok (be 2 (localSlot g))
    (refreshSessions (s.setLocal n { s.localStream n with
      toLocalCfg := g, before := changesWith s (s.localStream n), changedAt := some s.now })) := by
  subst hn hg
  have hroom : ((localOf p).enabled && !localFits s (fld p 0 1) (localOf p)) = false := by
    simpa [imp_iff_not_or] using hfit
  change (if ((localOf p).enabled && !localFits s (fld p 0 1) (localOf p)) = true then _ else _) = _
  rw [hroom]
  rfl

theorem setLocal_run_full (he : g.enabled = true) (hfull : localFits s n g = false) :
    cmdFeSetLocalStream.run s ifc p = .err stNoResource := by
  subst hn hg
  change (if ((localOf p).enabled && !localFits s (fld p 0 1) (localOf p)) = true then _ else _) = _
  rw [he, hfull]
  rfl

end

theorem localOf_enabled {p : List Byte} : (localOf p).enabled = true ↔ fld p 1 1 = 1 := beq_iff_eq

/-! ### The statement -/

/-- Settles O19: each command is a use of `command_executed` or `command_refused` on the equation of its body; `setPreset_restarts` and
`setSampling_on` with their companions say what the two commands on the chains write. -/
theorem frontCommandsTakeEffect : Obligations.FrontCommandsTakeEffect := by
  unfold Obligations.FrontCommandsTakeEffect
  refine ⟨?preset, fun p m f u => setPreset_restarts f, fun u p m => setPreset_fnom, ?sampling, fun i b u => setSampling_off,
    fun i b u => setSampling_on, fun i b u => setSampling_moved, fun i b u => setSampling_same, ?calibration,
    fun dt q s u c => setRange_auto, fun dt q s u c => setRange_forceHi, fun dt q s u c => setRange_forceLo, ?detectors, ?stream, ?full⟩
  case preset =>
    intro dt q s u hu hr hl h0 h1 h2 hrates
    exact command_executed (d := cmdFeSetPreset) hu hr rfl (beq_iff_eq.2 hl) (setPreset_checks h0 h1 h2 hrates) rfl rfl
      (setPreset_unsent ..)
  case sampling =>
    intro dt q s u hu hr hl h
    exact command_executed (d := cmdFeSetSampling) hu hr rfl (beq_iff_eq.2 hl) (setSampling_checks u h) rfl rfl
      (foldl_keeps_read State.unsent (fun v i => setSampling_unsent i (fld q.params i 1) v) _ u)
  case calibration =>
    rintro dt q s u i hu hr hl rfl h0 hlo hhi
    exact command_executed (d := cmdFeSetCal) hu hr rfl (beq_iff_eq.2 hl) (setCal_checks u h0 hlo hhi) rfl rfl rfl
  case detectors =>
    rintro dt q s u c hu hr hl rfl h0 hpk hpk' hrms hrms' hatt hatt' hrel hrel'
    exact command_executed (d := cmdFeSetDetectors) hu hr rfl (beq_iff_eq.2 hl)
      (setDetectors_checks u ⟨h0, hpk, hpk', hrms, hrms', hatt, hatt', hrel, hrel'⟩) rfl rfl rfl
  case stream =>
    rintro dt q s u n g hu hr hl rfl h0 hfit h2 hrate h7 h8 hsrc h25 rfl
    have h1 : fld q.params 1 1 ≤ 1 := by omega
    have hroom : (localOf q.params).enabled = true → localFits u (fld q.params 0 1) (localOf q.params) = true := by
      intro he
      rw [localOf_enabled] at he
      obtain hoff | ⟨-, hfits⟩ := hfit
      · omega
      · exact hfits
    exact command_executed (d := cmdFeSetLocalStream) hu hr rfl (beq_iff_eq.2 hl) (setLocal_checks ⟨h0, h1, h2, hrate, h7, h8, hsrc, h25⟩)
      (setLocal_run rfl rfl q.ifc hroom) rfl ((refreshSessions_unsent _).trans rfl)
  case full =>
    rintro dt q s u n g hu hr hl rfl h0 h1 h2 hrate h7 h8 hsrc h25 rfl hfull
    exact command_refused (d := cmdFeSetLocalStream) (status := stNoResource) (offset := 0) hu hr rfl (beq_iff_eq.2 hl)
      (setLocal_checks ⟨h0, h1.le, h2, hrate, h7, h8, hsrc, h25⟩) nofun nofun (setLocal_run_full rfl rfl q.ifc (localOf_enabled.2 h1) hfull)

end Sys2Proof.Machine
end

section
/-! SUPPORT. The events of the front end: restarts on the MODCLK edge, settling, loss and resumption of a chain, the samples of a channel, its
lost crossings, the records of a local stream, and the statement on them (R260 to R262, R265, R266, R268, R272, R279). -/

namespace Sys2Proof.Machine

/-! ### The rows -/

section
variable {dt : Ps} {s u : State} (hu : u = s.elapse dt)
include hu

theorem exec_chainRestart : exec (.chainRestart dt) s = .next (chainRestart u) := hu ▸ rfl
theorem exec_chainValid {i : Nat} : exec (.chainValid dt i) s = .next (chainValid i u) := hu ▸ rfl
theorem exec_modulatorLoss {i : Nat} : exec (.modulatorLoss dt i) s = .next (modulatorLoss i u) := hu ▸ rfl
theorem exec_modulatorResuming {i : Nat} : exec (.modulatorResuming dt i) s = .next (modulatorResuming i u) := hu ▸ rfl
theorem exec_resumeWindowEnd {i : Nat} {b : Bool} : exec (.resumeWindowEnd dt i b) s = .next (resumeWindow i b u) := hu ▸ rfl
theorem exec_zcLoss {c : Nat} : exec (.zcLoss dt c) s = .next (zcLoss c u) := hu ▸ rfl
theorem exec_localPhasorRecord {n : Nat} : exec (.localPhasorRecord dt n) s = .next (localPhasorRecord n u) := hu ▸ rfl

end

theorem exec_feOutputSample {dt : Ps} {c : Nat} {bh bl : List Bool} {s u : State} (hu : u = sampleRead c (s.elapse dt)) :
    exec (.feOutputSample dt c bh bl) s = .next (outputSample c bh bl u) := hu ▸ rfl

/-! ### Restarts (R262, R263) -/

/-- Whether an input's clock runs is a matter of the system registers (R75, R281). -/
theorem inputClock_of_sys {s t : State} (h : t.sys = s.sys) (i : Nat) : inputClock t i = inputClock s i := by
  simp only [inputClock, h]

/-- What a MODCLK edge makes of an input: the restart that waits for it, unless the chain is LOST or RESUMING (R262, R263). -/
def edgeInput (s : State) (i : Nat) : InputSt :=
  if (s.input i).enabled && inputClock s i then
    (if (s.input i).restarts then restartInput s.now (s.input i) else { s.input i with presetDue := false })
  else s.input i

/-- What a MODCLK edge does for one input: the step of `chainRestart`. -/
def chainEdge (s : State) (i : Nat) : State :=
  if (s.input i).enabled && inputClock s i then
    (if (s.input i).restarts then restartChan i (s.setInput i (restartInput s.now (s.input i)))
     else s.setInput i { s.input i with presetDue := false })
  else s

theorem chainRestart_eq (s : State) : chainRestart s = (List.range 24).foldl chainEdge s := rfl

/-- A restart reaches the logical channel of the input and its range, and no other input (R269, R273, R274). -/
theorem restartChan_eq (i : Nat) (s : State) :
    ∃ cs rs, restartChan i s = { s with front := { s.front with chans := cs, ranges := rs } } := by
  unfold restartChan
  dsimp only
  split
  · exact ⟨_, s.front.ranges, rfl⟩
  · exact ⟨_, _, rfl⟩

theorem chainEdge_eq (s : State) (i : Nat) : ∃ cs rs, chainEdge s i
    = { s with front := { s.front with inputs := vset s.front.inputs i (edgeInput s i), chans := cs, ranges := rs } } := by
  unfold chainEdge edgeInput
  split
  · split
    · exact restartChan_eq i _
    · exact ⟨s.front.chans, s.front.ranges, rfl⟩
  · exact ⟨s.front.chans, s.front.ranges, by rw [State.input, vset_vget]⟩

theorem chainEdge_input_self (s : State) {i : Nat} (h : i < 24) : (chainEdge s i).input i = edgeInput s i := by
  obtain ⟨cs, rs, he⟩ := chainEdge_eq s i
  rw [he]
  exact vget_vset_self _ _ _ _ h

theorem chainEdge_input_ne (s : State) {i j : Nat} (h : i ≠ j) : (chainEdge s i).input j = s.input j := by
  obtain ⟨cs, rs, he⟩ := chainEdge_eq s i
  rw [he]
  exact vget_vset_ne _ _ _ _ _ h

theorem chainEdge_frame (s : State) (i : Nat) : ((chainEdge s i).now, (chainEdge s i).sys) = (s.now, s.sys) := by
  obtain ⟨cs, rs, he⟩ := chainEdge_eq s i
  rw [he]

theorem edgeInput_congr {s t : State} {i : Nat} (hf : (t.now, t.sys) = (s.now, s.sys)) (hi : t.input i = s.input i) :
    edgeInput t i = edgeInput s i := by
  obtain ⟨hnow, hsys⟩ := Prod.mk.inj hf
  simp only [edgeInput, hi, hnow, inputClock_of_sys hsys]

/-- The inputs meet the edge one by one, each on the state of its own that the edge found. -/
theorem foldl_chainEdge_input (s : State) {i : Nat} (hi : i < 24) (n : Nat) :
    ((List.range n).foldl chainEdge s).input i = if i < n then edgeInput s i else s.input i := by
  induction n with
  | zero => rfl
  | succ n ih =>
    have hframe := foldl_keeps_read (fun s => (s.now, s.sys)) chainEdge_frame (List.range n) s
    rw [List.range_succ, List.foldl_append, List.foldl_cons, List.foldl_nil]
    obtain hlt | rfl | hgt := Nat.lt_trichotomy i n
    · rw [chainEdge_input_ne _ hlt.ne', ih, if_pos hlt, if_pos (by omega)]
    · rw [if_neg (lt_irrefl i)] at ih
      rw [chainEdge_input_self _ hi, if_pos i.lt_succ_self]
      exact edgeInput_congr hframe ih
    · rw [chainEdge_input_ne _ hgt.ne, ih, if_neg (by omega), if_neg (by omega)]

theorem chainRestart_input (s : State) {i : Nat} (hi : i < 24) : (chainRestart s).input i = edgeInput s i := by
  rw [chainRestart_eq, foldl_chainEdge_input s hi, if_pos hi]

section
variable {s : State} {i : Nat} (hi : i < 24) (he : (s.input i).enabled = true) (hc : inputClock s i = true)
include hi he hc

theorem chainRestart_restarts (hr : (s.input i).restarts = true) : (chainRestart s).input i = restartInput s.now (s.input i) := by
  simp [chainRestart_input s hi, edgeInput, he, hc, hr]

theorem chainRestart_waives (hr : (s.input i).restarts = false) : (chainRestart s).input i = { s.input i with presetDue := false } := by
  simp [chainRestart_input s hi, edgeInput, he, hc, hr]

end

theorem restarts_of_due {x : InputSt} (h : x.restartDue = true ∨ (x.presetDue = true ∧ (x.chain = .settling ∨ x.chain = .valid))) :
    x.restarts = true := by
  simpa [InputSt.restarts] using h

/-- A preset change restarts no chain that is LOST or RESUMING (R263). -/
theorem restarts_of_lost {x : InputSt} (hd : x.restartDue = false) (hc : x.chain = .lost ∨ x.chain = .resuming) : x.restarts = false := by
  obtain hc | hc := hc <;> simp [InputSt.restarts, hd, hc]

/-! ### Settling (R261) -/

theorem chainValid_settled {i : Nat} {s : State} (hc : (s.input i).chain = .settling) (hr : (s.input i).restartDue = false)
    (hp : (s.input i).presetDue = false) (hd : (s.input i).restartAt + settleCount (presetNow s) / 256 * modclk256 s ≤ s.now) :
    chainValid i s = if i = hiInput (inputChan i) ∨ (s.input (hiInput (inputChan i))).enabled = false
      then (s.setInput i { s.input i with chain := .valid }).setChan (inputChan i) { s.chan (inputChan i) with tapGroup := [] }
      else s.setInput i { s.input i with chain := .valid } := by
  have hs : settled s (s.input i) = true := by simp [settled, InputSt.restarts, hc, hr, hp, hd]
  simp only [chainValid, hs, if_true]
  rfl

theorem chainValid_elsewhere {i : Nat} {s : State} (hc : (s.input i).chain ≠ .settling) : chainValid i s = s := by
  have hs : settled s (s.input i) = false := by simp [settled, hc]
  simp [chainValid, hs]

/-! ### Loss and resumption (R265, R266) -/

theorem modulatorLoss_runs {i : Nat} {s : State}
    (hc : (s.input i).chain = .settling ∨ (s.input i).chain = .valid ∨ (s.input i).chain = .resuming) :
    modulatorLoss i s = s.setInput i { s.input i with chain := .lost, resumeRun := 0, cLoss := inc (s.input i).cLoss } := by
  obtain hc | hc | hc := hc <;> simp only [modulatorLoss, hc]

theorem modulatorResuming_lost {i : Nat} {s : State} (hc : (s.input i).chain = .lost) :
    modulatorResuming i s = s.setInput i { s.input i with chain := .resuming, resumeRun := 0 } := if_pos hc

section
variable {i : Nat} {s : State} (hc : (s.input i).chain = .resuming)
include hc

theorem resumeWindow_still (hr : (s.input i).resumeRun < 4) :
    resumeWindow i false s = s.setInput i { s.input i with chain := .lost, resumeRun := 0 } := by
  simp [resumeWindow, hc, Nat.not_le.2 hr]

theorem resumeWindow_confirms (hr : (s.input i).resumeRun = 3) : resumeWindow i true s
    = s.setInput i { s.input i with resumeRun := 4, restartDue := true, cResumes := inc (s.input i).cResumes } := by
  simp [resumeWindow, hc, hr]

theorem resumeWindow_counts (hr : (s.input i).resumeRun < 3) :
    resumeWindow i true s = s.setInput i { s.input i with resumeRun := (s.input i).resumeRun + 1 } := by
  have h4 : ¬ 4 ≤ (s.input i).resumeRun := by omega
  simp [resumeWindow, hc, h4, hr.ne]

end

/-! ### Samples (R249, R254 to R259, R268) -/

/-- The sample of a voltage channel is that of its one input. -/
theorem outputSample_voltage {c : Nat} {bits : List Bool} {s v : State} (hc : c < 8) (hb : bits ≠ []) (hf : bitsFit s c bits = true)
    (hv : v = stepInput c bits s) : outputSample c bits [] s
      = chanSample v c (v.input c).gain (v.input c).v (v.input c).vValid (sampleStamp v (v.input c)) := by
  subst hv
  have h16 : ¬ 16 ≤ c := by omega
  simp [outputSample, hiInput, loInput, hc, h16, hb, hf]

/-- The sample of a current channel is that of the input of its range; in LO it is VALID below 23/24 of full scale only. -/
theorem outputSample_current {c h : Nat} {bh bl : List Bool} {s v : State} {r : RangeSt} {x : InputSt} (h8 : 8 ≤ c) (h16 : c < 16)
    (hh : h = 8 + 2 * (c - 8)) (hb : bh ≠ []) (hfh : bitsFit s h bh = true) (hfl : bitsFit s (h + 1) bl = true)
    (hv : v = stepInput (h + 1) bl (stepInput h bh s)) (hr : r = selectRange v (v.input h) (v.input (h + 1)) (v.range (c - 8)))
    (hx : x = if r.lo then v.input (h + 1) else v.input h) : outputSample c bh bl s
      = chanSample (v.setRange (c - 8) r) c x.gain x.v (x.chain == .valid && !(r.lo && nearFull (v.input (h + 1)).x)) (sampleStamp v x) := by
  have hhi : hiInput c = h := by rw [hiInput, if_neg (by omega), hh]
  have hlo : loInput c = some (h + 1) := by rw [loInput, if_neg (by omega), hh, Nat.add_right_comm]
  subst hv hr hx
  simp [outputSample, hhi, hlo, Nat.not_le.2 h16, hb, hfh, hfl]

/-! ### Lost crossings (R272) -/

theorem zcLoss_due {c : Nat} {s : State} (h16 : c < 16) (hz : (s.chan c).zcLost = false) (hd : detectorsRun s c = true)
    (ht : 3000000000000 ≤ (s.now - (s.chan c).lastCrossPs) * s.front.fnom) :
    zcLoss c s = s.setChan c { s.chan c with zcLost := true, sinceLoss := 0, cZcLoss := inc (s.chan c).cZcLoss } := by
  simp [zcLoss, Nat.not_le.2 h16, hz, hd, Nat.not_lt.2 ht]

/-! ### Local records (R278 to R280) -/

theorem mem_pushInsert (due : Ps) (f : FrameRecord) (s : State) : (due, f) ∈ (pushInsert due f s).ingress.toInsert := by
  simp [pushInsert]

/-- The record of the settings and the instant that are next goes to insertion, and the stream notes the instant (R279, R280). -/
theorem localPhasorRecord_due {n : Nat} {s : State} {g : LocalCfg} {a : Stamp} (hn : n < 4) (he : estimatorRuns s = true)
    (hx : nextRecord s (s.localStream n) = some (g, a)) : ∃ recent front,
      localPhasorRecord n s = pushInsert (fclkAt s.now 20) (localRecord n g a recent s) { s with front }
        ∧ front.locals_ = vset s.front.locals_ n { s.localStream n with lastRec := some a } := by
  have hruns : ¬ (4 ≤ n ∨ (!estimatorRuns s) = true) := by simp [he, hn]
  simp only [localPhasorRecord, if_neg hruns, hx]
  exact ⟨_, _, rfl, rfl⟩

theorem localPhasorRecord_stopped (n : Nat) {s : State} (he : estimatorRuns s = false) : localPhasorRecord n s = s := by
  simp [localPhasorRecord, he]

/-! ### The statement -/

/-- Settles O20: each row is its operation on the state that its passage of time and its reads leave; `chainRestart_input` says what the
common edge makes of one input, and `outputSample_current` which input gives the sample of a current channel. -/
theorem frontEventsTakeEffect : Obligations.FrontEventsTakeEffect := by
  unfold Obligations.FrontEventsTakeEffect
  refine ⟨?restart, ?waived, ?settled, ?unsettled, ?loss, ?resuming, ?still, ?confirmed, ?counted, ?voltage, ?currentHi, ?currentLo,
    ?crossings, ?record, ?noRecord⟩
  case restart =>
    intro dt s u i hu hi hr he hc
    refine ⟨_, exec_chainRestart hu, ?_⟩
    rw [chainRestart_restarts hi he hc (restarts_of_due hr)]
    exact ⟨rfl, rfl, rfl, rfl, rfl, rfl, rfl, rfl⟩
  case waived =>
    intro dt s u i hu hi hd hl he hc
    exact ⟨_, exec_chainRestart hu, chainRestart_waives hi he hc (restarts_of_lost hd hl)⟩
  case settled =>
    intro dt s u i hu _ hc hr hp hd
    rw [exec_chainValid hu, chainValid_settled hc hr hp hd]
  case unsettled =>
    intro dt s u i hu hc
    rw [exec_chainValid hu, chainValid_elsewhere hc]
  case loss =>
    intro dt s u i hu hc
    rw [exec_modulatorLoss hu, modulatorLoss_runs hc]
  case resuming =>
    intro dt s u i hu hc
    rw [exec_modulatorResuming hu, modulatorResuming_lost hc]
  case still =>
    intro dt s u i hu hc hr
    rw [exec_resumeWindowEnd hu, resumeWindow_still hc hr]
  case confirmed =>
    intro dt s u i hu hc hr
    rw [exec_resumeWindowEnd hu, resumeWindow_confirms hc hr]
  case counted =>
    intro dt s u i hu hc hr
    rw [exec_resumeWindowEnd hu, resumeWindow_counts hc hr]
  case voltage =>
    intro dt s u v c bits hu hc hb hf hv
    rw [exec_feOutputSample hu, outputSample_voltage hc hb hf hv]
  case currentHi =>
    intro dt s u v c h bh bl r hu h8 h16 hh hb _ hfh hfl hv hr hlo
    rw [exec_feOutputSample hu, outputSample_current (x := v.input h) h8 h16 hh hb hfh hfl hv hr (by simp [hlo]), hlo]
    simp [beq_eq_decide]
  case currentLo =>
    intro dt s u v c h bh bl r hu h8 h16 hh hb _ hfh hfl hv hr hlo
    rw [exec_feOutputSample hu, outputSample_current (x := v.input (h + 1)) h8 h16 hh hb hfh hfl hv hr (by simp [hlo]), hlo]
    simp [beq_eq_decide]
  case crossings =>
    intro dt s u c hu h16 hz hd ht
    rw [exec_zcLoss hu, zcLoss_due h16 hz hd ht]
  case record =>
    intro dt s u n g a hu hn he hx
    obtain ⟨recent, front, hrec, hlocals⟩ := localPhasorRecord_due hn he hx
    refine ⟨_, localRecord n g a recent u, exec_localPhasorRecord hu, ?_, rfl, rfl, rfl, rfl, fclkAt u.now 20, ?_⟩
    · rw [hrec]
      change (vget {} front.locals_ n).lastRec = some a
      rw [hlocals, vget_vset_self _ _ _ _ hn]
    · rw [hrec]
      exact mem_pushInsert ..
  case noRecord =>
    intro dt s u n hu he
    rw [exec_localPhasorRecord hu, localPhasorRecord_stopped n he]

end Sys2Proof.Machine
end

section
/-! SUPPORT. The commands of the energy unit: the metered lines as parts of the state, what a change of assignment leaves of a phase, which
checks pass, and the statement on the commands (R285 to R287, R303, R306, R308, R314 to R316). -/

namespace Sys2Proof.Machine

/-! ### Lines -/

@[simp] theorem State.setLine_line_self (s : State) (n : Nat) (x : LineSt) : (s.setLine n x).line n = x := by
  unfold State.line State.setLine
  split <;> rfl

@[simp] theorem State.setLine_unsent (s : State) (n : Nat) (x : LineSt) : (s.setLine n x).unsent = s.unsent := by
  simp only [State.unsent, State.setLine_host, State.setLine_ingress, State.setLine_sys]

/-- A waiting assignment keeps the phases whose channels it names again; of a changed phase only AH and UNMETERED_FLOW stay (R287, R311). -/
theorem takeAssigned_waiting {x : LineSt} {a : Nat → Option (Nat × Nat)} {ph : Nat → PhaseSt} (h : x.assigned = some [a 0, a 1, a 2])
    (hph : ph = fun k => if (vget {} x.phases k).chans = a k then vget {} x.phases k
      else { chans := a k, ah := (vget {} x.phases k).ah, unmetered := (vget {} x.phases k).unmetered }) :
    takeAssigned x = { x with assigned := none, phases := #v[ph 0, ph 1, ph 2] } := by
  subst hph
  simp only [takeAssigned, h]
  rfl

theorem feedLines_line (b : Bool) (s : State) (n : Nat) :
    (feedLines b s).line n = { takeAssigned (s.line n) with phases := (takeAssigned (s.line n)).phases.map (feedPhase s b) } := by
  unfold State.line
  split <;> rfl

/-! ### Checks -/

theorem lineCheck_ok {p : List Byte} (h : fld p 0 1 ≤ 1) : lineCheck p = (true, 0) := by
  simp [lineCheck, inRange, h]

theorem firstBad_lineCheck {p : List Byte} (h : fld p 0 1 ≤ 1) : firstBad [lineCheck p] = none := by
  rw [lineCheck_ok h]
  rfl

theorem energySetLine_checks {p : List Byte} {s : State} (h0 : fld p 0 1 ≤ 1) (hph : ∀ k, k < 3 → ∀ x ∈ phaseChecks s p k, x.1 = true)
    (hstart : fld p 7 4 ≤ 100000000) : firstBad (cmdEnergySetLine.checks s p) = none := by
  rw [firstBad_eq_none_iff]
  intro x hx
  simp only [cmdEnergySetLine, List.cons_append, List.mem_cons, List.mem_append, List.mem_flatMap, List.mem_range, List.not_mem_nil,
    or_false] at hx
  obtain rfl | ⟨k, hk, hx⟩ | rfl := hx
  · rw [lineCheck_ok h0]
  · exact hph k hk x hx
  · exact decide_eq_true hstart

theorem energySetInterval_checks {p : List Byte} (s : State) (h : fld p 0 1 ∈ [0, 1, 5, 10, 15, 30, 60]) :
    firstBad (cmdEnergySetInterval.checks s p) = none :=
  (firstBad_cons_eq_none ..).2 ⟨List.contains_iff_mem.2 h, rfl⟩

theorem energySetReserve_checks {p : List Byte} (s : State) (h0 : fld p 0 1 ≤ 1) (hlimit : ufLimitOk (BitVec.ofNat 32 (fld p 1 4)) = true)
    (hlo : 10 ≤ fld p 5 2) (hhi : fld p 5 2 ≤ 60000) : firstBad (cmdEnergySetReserve.checks s p) = none := by
  simp [cmdEnergySetReserve, lineCheck_ok h0, hlimit, inRange, hlo, hhi]

theorem energyReadReserve_checks {p : List Byte} (s : State) (h0 : fld p 0 1 ≤ 1) (h1 : fld p 1 1 ≤ 1) :
    firstBad (cmdEnergyReadReserve.checks s p) = none := by
  simp [cmdEnergyReadReserve, lineCheck_ok h0, inRange, h1]

theorem energyReadSnapshot_checks {p : List Byte} {s : State} {x : Snapshot} (h15 : fld p 0 1 ≤ 15) (hx : s.energy.snaps[fld p 0 1]? = some x) :
    firstBad (cmdEnergyReadSnapshot.checks s p) = none := by
  have hlen : fld p 0 1 < s.energy.snaps.length := (List.getElem?_eq_some_iff.1 hx).1
  simp [cmdEnergyReadSnapshot, inRange, h15, hlen]

/-! ### ENERGY_READ_EVENTS -/

theorem fld_one_be (v : Nat) (l : List Byte) : fld (be 1 v ++ l) 0 1 = v % 256 := by
  simp [fld, slice, ofBe, be]

/-- The data of ENERGY_READ_EVENTS: how many events it returns, and the events (R308). -/
def energyEvtReply (n : Nat) (fifo : List EnergyEvt) : List Byte := be 1 (min n fifo.length) ++ (fifo.take n).flatMap energyEvtBytes

/-- ENERGY_READ_EVENTS is journaled when it returns an event (R484). -/
theorem energyReadEvents_journaled {n : Nat} (h1 : 1 ≤ n) (h16 : n ≤ 16) {fifo : List EnergyEvt} (h : fifo ≠ []) (p : List Byte) :
    cmdEnergyReadEvents.journaled p (energyEvtReply n fifo) = true := by
  have hlen : 0 < fifo.length := List.length_pos_iff.2 h
  simp only [cmdEnergyReadEvents, energyEvtReply, fld_one_be, decide_eq_true_eq]
  omega

/-! ### The statement -/

/-- Settles O21: each command is a use of `command_executed` on the equation of its body, and ENERGY_CLEAR outside COMMISSION is refused by
`cmdOutcome_wrongMode`; `takeAssigned_waiting` and `feedLines_line` say how an assignment takes effect. -/
theorem energyCommandsTakeEffect : Obligations.EnergyCommandsTakeEffect := by
  unfold Obligations.EnergyCommandsTakeEffect
  refine ⟨?line, fun x a ph => takeAssigned_waiting, fun n b u _ => feedLines_line b u n, ?interval, ?reserve, ?read, ?readReserveClear,
    ?readReserve, ?snapshot, ?status, ?events, ?clear, ?wrongMode⟩
  case line =>
    rintro dt q s u n hu hr hl rfl h1 hph hstart
    exact command_executed (d := cmdEnergySetLine) hu hr rfl (beq_iff_eq.2 hl) (energySetLine_checks h1 hph hstart) rfl rfl
      (State.setLine_unsent ..)
  case interval =>
    intro dt q s u hu hr hl h
    exact command_executed (d := cmdEnergySetInterval) hu hr rfl (beq_iff_eq.2 hl) (energySetInterval_checks u h) rfl rfl rfl
  case reserve =>
    rintro dt q s u n hu hr hl rfl h1 hlimit hlo hhi
    exact command_executed (d := cmdEnergySetReserve) hu hr rfl (beq_iff_eq.2 hl) (energySetReserve_checks u h1 hlimit hlo hhi) rfl rfl
      (State.setLine_unsent ..)
  case read =>
    rintro dt q s u n hu hr hl rfl h1
    exact command_executed (d := cmdEnergyRead) hu hr rfl (beq_iff_eq.2 hl) (firstBad_lineCheck h1) rfl rfl rfl
  case readReserveClear =>
    rintro dt q s u n hu hr hl rfl h1 hclear
    refine command_executed (d := cmdEnergyReadReserve) hu hr rfl (beq_iff_eq.2 hl) (energyReadReserve_checks u h1 hclear.le) ?_
      (beq_iff_eq.2 hclear) (State.setLine_unsent ..)
    simp only [cmdEnergyReadReserve, if_pos hclear]
  case readReserve =>
    rintro dt q s u n hu hr hl rfl h1 hkeep
    have hne : ¬ fld q.params 1 1 = 1 := by omega
    refine command_executed (d := cmdEnergyReadReserve) hu hr rfl (beq_iff_eq.2 hl) (energyReadReserve_checks u h1 (by omega)) ?_
      (beq_eq_false_iff_ne.2 hne) rfl
    simp only [cmdEnergyReadReserve, if_neg hne]
  case snapshot =>
    intro dt q s u x hu hr hl h15 hx
    refine command_executed (d := cmdEnergyReadSnapshot) hu hr rfl (beq_iff_eq.2 hl) (energyReadSnapshot_checks h15 hx) ?_ rfl rfl
    simp only [cmdEnergyReadSnapshot, hx]
  case status =>
    intro dt q s u hu hr hl
    exact command_executed (d := cmdEnergyGetStatus) hu hr rfl (by rw [hl]; rfl) rfl rfl rfl rfl
  case events =>
    rintro dt q s u n hu hr hl rfl h1 h16 hne
    refine command_executed (d := cmdEnergyReadEvents) hu hr rfl (beq_iff_eq.2 hl) ?_ ?_ (energyReadEvents_journaled h1 h16 hne _) rfl
    · simp [cmdEnergyReadEvents, inRange, h1, h16]
    · simp [cmdEnergyReadEvents]
  case clear =>
    rintro dt q s u n hu hr hm hl rfl h1
    refine command_executed (d := cmdEnergyClear) hu hr (by rw [hm]; rfl) (beq_iff_eq.2 hl) (firstBad_lineCheck h1) ?_ rfl
      (State.setLine_unsent ..)
    simp only [cmdEnergyClear, clearLine, State.setLine_energy_clearCount]
  case wrongMode =>
    intro dt q s u hu hr hm
    exact refusedWith_of_outcome cmdEnergyClear dt q s u hu hr stWrongMode 0 nofun nofun
      (cmdOutcome_wrongMode hu hr (beq_eq_false_iff_ne.2 hm))

end Sys2Proof.Machine
end

section
/-! SUPPORT. The events of the energy unit: the tap sample in each row of R310, snapshots, the runs of unmetered flow, the event FIFO and the
mirror; the arithmetic of an accumulator; and the statement on them (R288, R296, R303, R306, R310, R312, R313). -/

namespace Sys2Proof.Machine

/-! ### Accumulators (R296) -/

@[simp] theorem Accum.add_corrupt (a : Accum) (u : Nat) : (a.add u).corrupt = a.corrupt := by
  -- on a variable, the kernel would compare the counts of both sides as well
  cases a
  rfl

/-- What an addition leaves: the sum, less whole turns of the count (R296). -/
theorem Accum.add_total (a : Accum) (u : Nat) : (a.add u).total = (a.total + u) % (2 ^ 32 * countMod) := by
  simp only [Accum.add, Accum.total, Nat.mod_mul]
  ring

theorem div_mod_eq_of_modEq {m k x y : Nat} (h : x ≡ y [MOD m * k]) : x / m % k = y / m % k := by
  rw [← Nat.mod_mul_right_div_self, ← Nat.mod_mul_right_div_self, show x % (m * k) = y % (m * k) from h]

/-- An addition looks at the sum modulo a whole turn of the count, and keeps CORRUPT. -/
theorem Accum.add_eq_of_total_modEq {a b : Accum} {u v : Nat} (hc : a.corrupt = b.corrupt)
    (h : (a.total + u) ≡ (b.total + v) [MOD 2 ^ 32 * countMod]) : a.add u = b.add v := by
  have hcount := div_mod_eq_of_modEq h
  have hres : (a.total + u) % 2 ^ 32 = (b.total + v) % 2 ^ 32 := h.of_mul_right countMod
  simp only [Accum.total] at hcount hres
  simp only [Accum.add, hcount, hres, hc]

theorem Accum.add_add (a : Accum) (u v : Nat) : (a.add u).add v = a.add (u + v) := by
  refine Accum.add_eq_of_total_modEq (Accum.add_corrupt a u) ?_
  rw [Accum.add_total, ← Nat.add_assoc]
  exact (Nat.mod_modEq _ _).add_right v

theorem Accum.add_bounds (a : Accum) (u : Nat) :
    (a.add u).residue < 2 ^ 32 ∧ (a.add u).count < 1000000 * 2 ^ 40 ∧ (a.add u).corrupt = a.corrupt :=
  ⟨Nat.mod_lt _ (by norm_num), Nat.mod_lt _ (by norm_num [countMod]), a.add_corrupt u⟩

theorem Accum.add_total_mod (a : Accum) (u : Nat) :
    (a.add u).total % (1000000 * 2 ^ 40 * 2 ^ 32) = (a.total + u) % (1000000 * 2 ^ 40 * 2 ^ 32) := by
  rw [Accum.add_total, Nat.mul_comm (2 ^ 32), countMod, Nat.mod_mod]

/-! ### The event FIFO (R308, R309) -/

theorem insertEvent_length (e : EnergyEvt) (q : List EnergyEvt) : (insertEvent e q).length = q.length + 1 := by
  induction q with
  | nil => rfl
  | cons f t ih =>
    unfold insertEvent
    dsimp only
    split
    · rfl
    · simp only [List.length_cons, ih]

/-- An event later than every event of the FIFO takes the last place. -/
theorem insertEvent_latest {e : EnergyEvt} {q : List EnergyEvt} (h : ∀ x ∈ q, 0 < stampDiff e.stamp x.stamp) :
    insertEvent e q = q ++ [e] := by
  induction q with
  | nil => rfl
  | cons f t ih =>
    obtain ⟨hf, ht⟩ := List.forall_mem_cons.1 h
    unfold insertEvent
    dsimp only
    rw [if_neg (by omega), ih ht, List.cons_append]

/-- Events whose sequence numbers already ascend so are numbered as they were. -/
theorem map_seq_zipIdx {f : Nat → Nat} {q : List EnergyEvt} (h : ∀ i x, q[i]? = some x → x.seq = f i) :
    q.zipIdx.map (fun (x, i) => { x with seq := f i }) = q := by
  refine List.ext_getElem (by simp) fun i hi hq => ?_
  simp only [List.getElem_map, List.getElem_zipIdx, Nat.zero_add, ← h i _ (List.getElem?_eq_getElem hq)]

section
variable (e : EnergyEvt) {s : State}

theorem enterEvent_full (h : 64 ≤ s.energy.events.length) :
    enterEvent e s = { s with energy := { s.energy with evtLost := inc s.energy.evtLost } } := if_pos h

variable (h : s.energy.events.length < 64)
include h

theorem enterEvent_room : enterEvent e s = { s with energy := { s.energy with
    events := (insertEvent e s.energy.events).zipIdx.map fun (x, i) =>
      { x with seq := (s.energy.evtSeq + 65536 - s.energy.events.length + i) % 65536 }
    evtSeq := (s.energy.evtSeq + 1) % 65536 } } := if_neg h.not_ge

theorem enterEvent_counts : (enterEvent e s).energy.events.length = s.energy.events.length + 1
    ∧ (enterEvent e s).energy.evtSeq = (s.energy.evtSeq + 1) % 65536 ∧ (enterEvent e s).energy.evtLost = s.energy.evtLost := by
  rw [enterEvent_room e h]
  exact ⟨by rw [List.length_map, List.length_zipIdx, insertEvent_length], rfl, rfl⟩

/-- A latest event is entered behind the others, whose numbers stay, with the next number (R308, R309). -/
theorem enterEvent_latest (hseq : s.energy.evtSeq < 65536) (hq : ∀ (i : Nat) (x : EnergyEvt), s.energy.events[i]? = some x →
      x.seq = (s.energy.evtSeq + 65536 - s.energy.events.length + i) % 65536 ∧ stampDiff e.stamp x.stamp > 0) :
    (enterEvent e s).energy.events = s.energy.events ++ [{ e with seq := s.energy.evtSeq }] := by
  have hlast : ∀ x ∈ s.energy.events, 0 < stampDiff e.stamp x.stamp := fun x hx => by
    obtain ⟨i, hi⟩ := List.mem_iff_getElem?.1 hx
    exact (hq i x hi).2
  have hnext : (s.energy.evtSeq + 65536 - s.energy.events.length + s.energy.events.length) % 65536 = s.energy.evtSeq := by omega
  rw [enterEvent_room e h]
  simp only [insertEvent_latest hlast, List.zipIdx_append, List.map_append, Nat.zero_add, List.zipIdx_singleton, List.map_singleton, hnext]
  rw [map_seq_zipIdx (f := fun i => (s.energy.evtSeq + 65536 - s.energy.events.length + i) % 65536) fun i x hx => (hq i x hx).1]

end

/-! ### The rows -/

section
variable {dt : Ps} {s u : State} (hu : u = s.elapse dt)
include hu

theorem exec_tapSample : exec (.tapSample dt) s = .next (tapSample u) := hu ▸ rfl
theorem exec_energySnapshot : exec (.energySnapshot dt) s = .next (snapshotAt (stampAdd (tapStamp u) (-(32 * tapUnits : Nat))) u) := hu ▸ rfl
theorem exec_unmeteredFlowQualified {n k : Nat} : exec (.unmeteredFlowQualified dt n k) s = .next (flowQualified n k u) := hu ▸ rfl
theorem exec_energyMirrorApply : exec (.energyMirrorApply dt) s = .next (energyItem u) := hu ▸ rfl

/-- An ACTIVE device whose last mirror left 10 ms ago or more sends one (R312). -/
theorem exec_energyMirrorSend_due (ha : u.active = true) (hd : u.energy.mirrorSentAt + 10000000000 ≤ u.now) :
    exec (.energyMirrorSend dt) s = .next (sendEnergyMirror u) := by
  subst hu
  change Host.Outcome.next (if _ then _ else _) = _
  rw [if_pos (by rw [ha, decide_eq_true hd]; rfl)]

end

/-! ### The tap sample (R310) -/

section
variable {s : State}

theorem tapSample_stopped (h : energyRun s = .stopped) : tapSample s = s := by
  simp only [tapSample, h]

theorem tapSample_reserve {v w : State} {a : Stamp} (h : energyRun s = .reserve) (hv : v = feedLines true s) (ha : a = unitStamp v true)
    (hw : w = lineReserve 1 (lineReserve 0 (addGap a v))) :
    tapSample s = { w with energy := { w.energy with lastTap := a, unitRunning := true } } := by
  subst hw ha hv
  simp only [tapSample, h]

/-- The unit that accumulates notes the stamp of the tap interval that it has handled (R301). -/
theorem tapSample_accumulate (h : energyRun s = .accumulate) :
    ∃ w : State, tapSample s = { w with energy := { w.energy with lastTap := unitStamp (feedLines false s) false, unitRunning := true } } := by
  simp only [tapSample, h]
  exact ⟨_, rfl⟩

theorem lineAccumulate_line {n : Nat} (h : (s.line n).off = false) : (lineAccumulate n s).2.line n = { s.line n with
    sets := (lineSample s n (s.line n) (s.line n).sets).1, wasMeasured := (s.line n).measuredNow
    cClamped := if (lineSample s n (s.line n) (s.line n).sets).2.1 then inc (s.line n).cClamped else (s.line n).cClamped
    measured := if (s.line n).measuredNow then (s.line n).measured + 1 else (s.line n).measured
    unmeasured := if (s.line n).measuredNow then (s.line n).unmeasured else (s.line n).unmeasured + 1 } := by
  simp only [lineAccumulate, h, Bool.false_eq_true, if_false, State.setLine_line_self]

/-! ### Snapshots (R303) -/

/-- A stamp past the next boundary latches a snapshot, the newest of at most 16. -/
theorem snapshotAt_passed {a : Stamp} {j : Nat} (hi : s.energy.interval ≠ 0) (hrun : energyRun s = .accumulate)
    (hj : s.energy.lastBoundary = some j) (hk : j < (boundaryOf s a).1) : snapshotAt a s = { s with energy := { s.energy with
      lastBoundary := some (boundaryOf s a).1, snapSeq := (s.energy.snapSeq + 1) % 4294967296
      snaps := ({ instant := (boundaryOf s a).2, seq := s.energy.snapSeq
                  readings := lineReadings s.energy.line0 ++ lineReadings s.energy.line1
                  times := [s.energy.line0.measured.toNat, s.energy.line0.unmeasured.toNat,
                            s.energy.line1.measured.toNat, s.energy.line1.unmeasured.toNat] } :: s.energy.snaps).take 16 } } := by
  have hgo : ¬ (s.energy.interval = 0 ∨ energyRun s ≠ .accumulate) := by simp [hi, hrun]
  simp only [snapshotAt, if_neg hgo, hj, if_pos hk]

/-! ### Unmetered flow (R306) -/

section
variable {n k : Nat} {p : PhaseSt} {a : Stamp} {b : Ps} (hn : n < 2) (hk : k < 3) (hph : s.sys.phase = .reserve)
  (hp : p = vget {} (s.line n).phases k) (hd : b + (s.line n).ufQual * 1000000000 ≤ s.now)
include hn hk hph hp hd

theorem flowQualified_begins (hoff : p.ufOn = false) (hhigh : p.ufHigh = some (a, b)) :
    flowQualified n k s = enterEvent { stamp := a, type := 3, line := n, phase := k, acc := 0, seq := 0 }
      (s.setLine n { s.line n with phases := vset (s.line n).phases k { p with ufOn := true, unmetered := true } }) := by
  subst hp
  simp only [flowQualified, hn.not_ge, hk.not_ge, hph, ne_eq, not_true_eq_false, or_self, if_false, hoff, hhigh, if_pos hd]
  rfl

theorem flowQualified_ends (hon : p.ufOn = true) (hlow : p.ufLow = some (a, b)) :
    flowQualified n k s = enterEvent { stamp := a, type := 4, line := n, phase := k, acc := 0, seq := 0 }
      (s.setLine n { s.line n with phases := vset (s.line n).phases k { p with ufOn := false } }) := by
  subst hp
  simp only [flowQualified, hn.not_ge, hk.not_ge, hph, ne_eq, not_true_eq_false, or_self, if_false, hon, hlow, if_pos hd]
  rfl

end

/-! ### The mirror (R312) -/

theorem energyItem_none (h : s.energy.mirrorIn = none) : energyItem s = s := by
  simp only [energyItem, h]

theorem energyItem_applied {b : List Byte} (hrun : energyRun s = .follow) (hb : s.energy.mirrorIn = some b)
    (hfull : s.pair.fullDue = false) : energyItem s = countItem (applyMirror b s) := by
  have hstill : (countItem (applyMirror b s)).pair.fullDue = false := hfull
  simp only [energyItem, hb, hrun, if_true, hstill, Bool.false_eq_true, if_false]

end

/-! ### The statement -/

/-- Settles O22: each row is its operation on the state that the passage of time leaves, taken at the branch of its hypotheses; an accumulator
is its total modulo a whole turn (`Accum.add_total`). -/
theorem energyEventsTakeEffect : Obligations.EnergyEventsTakeEffect := by
  unfold Obligations.EnergyEventsTakeEffect
  refine ⟨⟨?stopped, ?reserve, ?accumulate, fun n u => lineAccumulate_line, fun dt s u => exec_energySnapshot, ?snapshot, ?flowBegins, ?flowEnds,
    fun e u => enterEvent_counts e, fun e u => enterEvent_latest e, fun e u => enterEvent_full e, fun dt s u => exec_energyMirrorSend_due,
    ?apply, ?nothing⟩, Accum.add_bounds, Accum.add_total_mod, Accum.add_add⟩
  case stopped =>
    intro dt s u hu h
    rw [exec_tapSample hu, tapSample_stopped h]
  case reserve =>
    intro dt s u v a hu h hv ha
    exact ⟨_, rfl, by rw [exec_tapSample hu, tapSample_reserve h hv ha rfl]⟩
  case accumulate =>
    intro dt s u hu h
    obtain ⟨w, hw⟩ := tapSample_accumulate h
    exact ⟨_, exec_tapSample hu, by rw [hw], by rw [hw]⟩
  case snapshot =>
    intro a u j hi hrun hj hk
    rw [snapshotAt_passed hi hrun hj hk]
    exact ⟨rfl, rfl, rfl⟩
  case flowBegins =>
    intro dt n k s u p a b hu hn hk hph hp hoff hhigh hd
    rw [exec_unmeteredFlowQualified hu, flowQualified_begins hn hk hph hp hd hoff hhigh]
  case flowEnds =>
    intro dt n k s u p a b hu hn hk hph hp hon hlow hd
    rw [exec_unmeteredFlowQualified hu, flowQualified_ends hn hk hph hp hd hon hlow]
  case apply =>
    intro dt s u b hu hrun hb hfull
    rw [exec_energyMirrorApply hu, energyItem_applied hrun hb hfull]
  case nothing =>
    intro dt s u hu h
    rw [exec_energyMirrorApply hu, energyItem_none h]

end Sys2Proof.Machine
end

section
/-! SUPPORT. The alarm definitions: what frames, pins and the mirror leave of them, the rows of R338, and the statements on their
qualification and on the commands that write them (R334, R338, R339, R348). -/

namespace Sys2Proof.Machine

/-! ### What leaves the definitions alone -/

theorem ald_of_alarms {s t : State} (h : t.detect.alarms = s.detect.alarms) (n : Nat) : t.ald n = s.ald n := by rw [State.ald, h]; rfl

/-- Alarm frames that are queued, or dropped for lack of room, leave the detection units as they are. -/
theorem enqueue_alarm_detect {n : Nat} {rep : Bool} {fs : List TxFrame} (h : ∀ f ∈ fs, f.kind = .alarm n rep ∧ f.launch = none)
    (p : Nat) (express : Bool) (s : State) : (enqueue p express fs s).detect = s.detect := by
  cases fs with
  | nil => rfl
  | cons f fs =>
    obtain ⟨hkind, hlaunch⟩ := h f (List.mem_cons_self ..)
    unfold enqueue
    cases rep with
    | false =>
      simp only [hkind, hlaunch]
      split
      · rfl
      split
      · rfl
      · refine foldl_keeps_read State.detect (fun _ _ => ?_) _ _
        rfl
    | true =>
      cases express
      all_goals
        simp only [hkind, hlaunch]
        split
        · rfl
        split <;> rfl

@[simp] theorem sendAlarm_alarms (n dest : Nat) (rep : Bool) (payload : List Byte) (s : State) :
    (sendAlarm n dest rep payload s).detect.alarms = s.detect.alarms := by
  unfold sendAlarm
  extract_lets t p x r r1 fs i4 i6 s1 ready s2 y
  have h2 : s2.detect.alarms = s.detect.alarms := by
    refine congrArg DetectSt.alarms (enqueue_alarm_detect (n := n) (rep := rep) (fun f hf => ?_) t.port (!rep) s1)
    obtain ⟨o, -, rfl⟩ := List.mem_map.1 hf
    exact ⟨rfl, rfl⟩
  split_ifs
  · rfl
  all_goals exact h2

@[simp] theorem updatePins_alarms (s : State) : (updatePins s).detect.alarms = s.detect.alarms := by
  unfold updatePins
  extract_lets
  split <;> rfl

@[simp] theorem updatePins_ald (s : State) (n : Nat) : (updatePins s).ald n = s.ald n := ald_of_alarms (updatePins_alarms s) n

@[simp] theorem mirrorItem_ald (code : Nat) (content : List Byte) (s : State) (n : Nat) : (mirrorItem code content s).ald n = s.ald n := by
  obtain ⟨-, -, -, -, -, -, -, -, -, hdetect, -⟩ := mirrorItem_frame code content s
  exact ald_of_alarms (congrArg DetectSt.alarms hdetect) n

/-- A transition event counts in STATE_NO and is kept with its repeats; the rest of the definition stays (R348, R350). -/
theorem almEvent_ald {n : Nat} {d : AlmDef} {s : State} (h : s.ald n = some d) (type : Nat) (test : Bool) (tick : Stamp) (seq : Nat)
    (detail : List Byte) : (almEvent n type test tick seq detail s).ald n = some { d with
      stateNo := d.stateNo + 1
      event := some ({ type, test, raised := d.shown, stateNo := d.stateNo + 1, decided := s.stamp, tick, seq, tqCode := s.time.tqCode,
                       detail }, s.now)
      nextRepeat := (destsOf d).map fun i => (i, 1, s.now + 1000000000) } := by
  simp only [almEvent, h]
  refine Eq.trans ?_ (State.setAld_ald_self s n _)
  split
  · exact foldl_keeps_read (·.ald n) (fun t _ => ald_of_alarms (sendAlarm_alarms ..) n) _ _
  · rfl

@[simp] theorem almCount_stateNo (d : AlmDef) (st : AlmState) : (almCount d st).stateNo = d.stateNo := by
  unfold almCount
  split_ifs <;> rfl

/-! ### The rows of R338 -/

section
variable {d : AlmDef}

theorem almNext_first (h : d.state = .arming ∨ d.state = .idle) : almNext d .yes = (if d.pickup = 1 then .raised else .pickup, 1) := by
  obtain h | h := h <;> simp only [almNext, h]

theorem almNext_arming (h : d.state = .arming) : almNext d .no = (.idle, 0) ∧ almNext d .undecided = (.arming, 0) := by
  simp only [almNext, h, and_self]

theorem almNext_idle {r : Raw} (h : d.state = .idle) (hr : r ≠ .yes) : almNext d r = (.idle, 0) := by
  cases r <;> simp_all [almNext]

theorem almNext_pickup_yes (h : d.state = .pickup) :
    almNext d .yes = (if d.count + 1 = d.pickup then .raised else .pickup, d.count + 1) := by
  simp only [almNext, h]

theorem almNext_pickup {r : Raw} (h : d.state = .pickup) (hr : r ≠ .yes) : almNext d r = (.idle, 0) := by
  cases r <;> simp_all [almNext]

theorem almNext_raised_no (h : d.state = .raised) :
    almNext d .no = (if d.dropout = 1 then (if d.latch then .latched else .idle) else .dropout, 1) := by
  simp only [almNext, h]

theorem almNext_raised {r : Raw} (h : d.state = .raised) (hr : r ≠ .no) : almNext d r = (.raised, 0) := by
  cases r <;> simp_all [almNext]

theorem almNext_dropout_no (h : d.state = .dropout) :
    almNext d .no = (if d.count + 1 = d.dropout then (if d.latch then .latched else .idle) else .dropout, d.count + 1) := by
  simp only [almNext, h]

theorem almNext_dropout (h : d.state = .dropout) : almNext d .undecided = (.dropout, d.count) ∧ almNext d .yes = (.raised, 0) := by
  simp only [almNext, h, and_self]

theorem almNext_latched (h : d.state = .latched) (r : Raw) : almNext d r = (if r = .yes then .raised else .latched, 0) := by
  cases r <;> simp [almNext, h]

end

/-! ### Acknowledgement and decisions -/

section
variable {n : Nat} {s : State} {d : AlmDef} (hd : s.ald n = some d)
include hd

theorem almAck_latched (h : d.state = .latched) : ∃ e, (almAck n s).2.ald n = some e ∧ e.state = .idle ∧ (almAck n s).1 = 1 := by
  simp only [almAck, hd, h, ne_eq, not_true_eq_false, if_false, updatePins_ald]
  split
  · exact ⟨_, almEvent_ald (State.setAld_ald_self ..) .., rfl, trivial⟩
  · exact ⟨_, State.setAld_ald_self .., rfl, trivial⟩

theorem almAck_unlatched (h : d.state ≠ .latched) : almAck n s = (0, s) := by
  simp only [almAck, hd, if_pos h]

/-- A decision moves the definition by the row of R338 and notes its tick; a move that is a transition event counts in STATE_NO (R348). -/
theorem almDecide_ald {raw : Raw} {tick : Stamp} {seq : Nat} {detail : List Byte} (hs : d.state ≠ .disabled) (ha : s.aligning = true)
    (ht : (s.zone d.zone).ticking = true) : ∃ e, (almDecide n raw tick seq detail s).ald n = some e ∧ e.state = (almNext d raw).1
      ∧ e.count = (almNext d raw).2 ∧ e.lastTick = some (tick, seq, detail)
      ∧ e.stateNo = d.stateNo + (if (almMove d (almNext d raw).1).isSome then 1 else 0) := by
  have hmirror (c : Prop) [Decidable c] (b : List Byte) (t : State) : (if c then t else mirrorItem 5 b t).ald n = t.ald n := by
    split
    · rfl
    · exact mirrorItem_ald ..
  simp only [almDecide, hd, hs, ha, ht, Bool.and_self, Bool.not_true, Bool.false_eq_true, or_self, if_false, updatePins_ald, hmirror]
  cases hm : almMove d (almNext d raw).1 with
  | none => exact ⟨_, State.setAld_ald_self .., rfl, rfl, rfl, by simp⟩
  | some type => exact ⟨_, almEvent_ald (State.setAld_ald_self ..) .., rfl, rfl, rfl, by simp⟩

end

/-! ### ALARM_SET -/

/-- ALARM_SET with ENABLE 0 takes one entry of the definition out of the table (R334). -/
theorem setAlarm_off_ald {p : List Byte} (h : fld p 2 1 ≠ 1) (s : State) (n : Nat) :
    (setAlarm s p).ald n = tabGet? n (tabErase (fld p 0 2) s.detect.alarms) := by
  simp only [setAlarm, if_neg h, updatePins_ald]
  rfl

/-- A definition on DATA_LOSS as ALARM_SET writes it. -/
def lossAlarm : AlmDef :=
  { source := .dataLoss 1, zone := 0, pickup := 1, dropout := 1, latch := false, pinMask := 0, destMask := 0, severity := 0 }

/-- The device out of reset, but for a table of definitions that lists ALD_0 twice. -/
def aldListedTwice : State := { State.reset with detect := { alarms := [(0, lossAlarm), (0, lossAlarm)] } }

/-! ### The statements -/

/-- Settles O25: the rows of R338 are the equations of `almNext`, and `almDecide_ald` and `almAck_latched` say what they leave in the table. -/
theorem alarmQualificationMoves : Obligations.AlarmQualificationMoves := by
  unfold Obligations.AlarmQualificationMoves
  refine ⟨fun d => almNext_arming, fun d r => almNext_idle, ?firstRaises, ?firstPicksUp, fun d r => almNext_pickup, ?pickupRaises,
    ?pickupCounts, fun d r => almNext_raised, ?raisedDrops, ?raisedClears, ?dropoutCounts, fun n u d hd _ => almAck_latched hd,
    fun n u d => almAck_unlatched, fun d => almNext_dropout, ?dropoutClears, fun d r h => almNext_latched h r,
    fun n raw tick seq detail u d hd _ => almDecide_ald hd⟩
  case firstRaises =>
    intro d h h1
    rw [almNext_first h, if_pos h1]
  case firstPicksUp =>
    intro d h h1
    rw [almNext_first h, if_neg h1]
  case pickupRaises =>
    intro d h hc
    rw [almNext_pickup_yes h, if_pos hc]
  case pickupCounts =>
    intro d h hc
    rw [almNext_pickup_yes h, if_neg hc]
  case raisedDrops =>
    intro d h h1
    rw [almNext_raised_no h, if_neg h1]
  case raisedClears =>
    intro d h h1
    rw [almNext_raised_no h, if_pos h1]
  case dropoutCounts =>
    intro d h hc
    rw [almNext_dropout_no h, if_neg hc]
  case dropoutClears =>
    intro d h hc
    rw [almNext_dropout_no h, if_pos hc]

/-- Refutes O24: its clause on ENABLE 0 asks of every table, canonical or not, that the definition is gone. Where a table lists ALD_0 twice,
`tabErase` takes away the first entry alone, and the second still answers. -/
theorem not_alarmCommandsTakeEffect : ¬ Obligations.AlarmCommandsTakeEffect := by
  unfold Obligations.AlarmCommandsTakeEffect
  rintro ⟨-, -, -, hoff, -⟩
  have hstays : (setAlarm aldListedTwice []).ald 0 = some lossAlarm := setAlarm_off_ald (by decide) aldListedTwice 0
  exact Option.some_ne_none _ (hstays.symm.trans (hoff aldListedTwice [] (by decide)))

end Sys2Proof.Machine
end

section
/-! SUPPORT. The coherency unit, the band-energy monitor, the pins and the repeats of alarms: what each of their events leaves, and the
statement on them (R324, R326, R330, R343, R344, R350). -/

namespace Sys2Proof.Machine

/-! ### Zones without alarm definitions -/

/-- Entries changed one by one are found under their numbers. -/
theorem tabGet?_tabMap {α β : Type} (f : Nat → α → β) (k : Nat) (t : Tab α) : tabGet? k (tabMap f t) = (tabGet? k t).map (f k) := by
  induction t with
  | nil => rfl
  | cons x t ih =>
    obtain ⟨j, v⟩ := x
    by_cases h : j = k
    · simp [tabMap, tabGet?, h]
    · simpa [tabMap, tabGet?, h] using ih

section
variable {z : Nat} {s : State} (h : ∀ x ∈ s.detect.alarms, x.2.zone ≠ z)
include h

theorem foldl_definitions_of_zone (g : State → Nat × AlmDef → State) :
    s.detect.alarms.foldl (fun t x => if x.2.zone = z then g t x else t) s = s :=
  (List.foldl_ext _ (fun t _ => t) s fun _ x hx => if_neg (h x hx)).trans (List.foldl_fixed _)

theorem almRelease_of_no_definition : almRelease z s = s := foldl_definitions_of_zone h _

theorem almDecideAll_of_no_definition (tick : Stamp) (seq : Nat) (f : AlmDef → Option (Raw × List Byte)) : almDecideAll z tick seq f s = s :=
  (congrArg (almRelease z) (foldl_definitions_of_zone h _)).trans (almRelease_of_no_definition h)

theorem islandsRaised_of_no_definition : islandsRaised s z = [] := by
  rw [islandsRaised, List.map_eq_nil_iff, List.filter_eq_nil_iff]
  intro x hx
  simp [h x hx]

end

/-! ### The coherency unit and the band-energy monitor -/

/-- The zone's result with its counters after an evaluation (R326, R355). -/
def cohResultTaken (c : Sealed) (s : State) : CohZone :=
  { s.coh c.zone with
    latest := some (cohEval (s.cohInputOf c) c), cEvals := inc (s.coh c.zone).cEvals
    cIsland := if 1 ≤ (cohEval (s.cohInputOf c) c).islands then inc (s.coh c.zone).cIsland else (s.coh c.zone).cIsland }

theorem cohTake_idle {s : State} (h : s.align.cohQueue = []) : cohTake s = s := by
  unfold cohTake
  split
  · next hq => cases h.symm.trans hq
  · rfl

/-- Without alarm definitions an evaluation leaves its result and its counters, and the unit goes on (R326). -/
theorem cohDone_of_no_definition {c : Sealed} {s : State} (h : ∀ x ∈ s.detect.alarms, x.2.zone ≠ c.zone) : ∃ t : State,
    t.coh c.zone = cohResultTaken c s ∧ t.align = { s.align with coh := none } ∧ cohDone c s = cohTake t := by
  refine ⟨cohFree c { s.setCoh c.zone (cohResultTaken c s) with align := { s.align with coh := none } }, State.setCoh_coh_self .., rfl, ?_⟩
  unfold cohDone
  extract_lets r x s1 before s2 y s3
  have h2 : s2 = s1 := almDecideAll_of_no_definition (s := s1) h ..
  have h3 : s3 = s1 := by
    unfold s3
    rw [h2, islandsRaised_of_no_definition (s := s1) h]
    rfl
  change cohTake (cohFree c (almRelease c.zone { s3 with align := { s3.align with coh := none } })) = _
  rw [h3, almRelease_of_no_definition]
  · rfl
  · exact h

@[simp] theorem bandTake_signals (s : State) : (bandTake s).detect.signals = s.detect.signals := by
  unfold bandTake
  split <;> rfl

/-- Without alarm definitions an update of the monitor leaves each signal of the zone with its tick (R330). -/
theorem bandDone_signals {c : Sealed} {s : State} (h : ∀ x ∈ s.detect.alarms, x.2.zone ≠ c.zone) : (bandDone c s).detect.signals
    = tabMap (fun _ g => if g.zone = c.zone then (signalTick (s.osc c.zone) c.rate c g).1 else g) s.detect.signals := by
  unfold bandDone
  extract_lets o upd before s1 z s2
  have h2 : s2 = s1.setCoh c.zone { z with cOsc := inc z.cOsc } := almDecideAll_of_no_definition (s := s1.setCoh c.zone _) h ..
  rw [h2, almRelease_of_no_definition, bandTake_signals]
  · change (s.detect.signals.map _).map _ = _
    rw [List.map_map]
    refine List.map_congr_left fun x _ => Prod.ext rfl ?_
    exact apply_ite Prod.fst ..
  · exact h

/-! ### Pins, repeats and tests -/

theorem pinUpdate_due {s : State} {due : List (Ps × BitVec 16)} {x : Ps × BitVec 16}
    (hdue : due = s.detect.pinQueue.filter fun x => decide (x.1 ≤ s.now)) (hx : due.getLast? = some x) :
    pinUpdate s = { s with detect := { s.detect with pins := x.2, pinQueue := s.detect.pinQueue.drop due.length } } := by
  subst hdue
  simp only [pinUpdate, hx]

/-- A definition whose repeats due by now have gone out: each destination's next one follows by the schedule of R350. -/
def repeatsAdvanced (s : State) (d : AlmDef) : AlmDef :=
  { d with nextRepeat := d.nextRepeat.map fun x => if x.2.2 ≤ s.now then (x.1, x.2.1 + 1, x.2.2 + repeatGap s x.1 x.2.1) else x }

section
variable {n : Nat} {s : State} {d : AlmDef} {e : AlmEvent} {at_ : Ps}

theorem almRepeat_without_event (h : ((s.ald n).bind fun d => d.event) = none) : almRepeat n s = s := by
  unfold almRepeat
  split
  · rfl
  · next d hd =>
    rw [hd, Option.bind_some] at h
    rw [h]

variable (hd : s.ald n = some d)
include hd

/-- The repeats that are due leave by the device that owns the event; the schedule runs on either way (R348, R350). -/
theorem almRepeat_event (he : d.event = some (e, at_)) : almRepeat n s =
    if alarmsOwned s at_ then (d.nextRepeat.filter fun x => decide (x.2.2 ≤ s.now)).foldl
      (fun t x => sendAlarm n x.1 true (alarmPayload t n d e 4 d.testEnd.isSome x.2.1) t) (s.setAld n (repeatsAdvanced s d))
    else s.setAld n (repeatsAdvanced s d) := by
  simp only [almRepeat, hd, he, repeatsAdvanced]
  rfl

theorem testStop_raised (ht : d.testEnd.isSome = true) (hr : d.state.isRaised = true) :
    testStop n s = updatePins (s.setAld n { d with testEnd := none }) := by
  have hrun : d.testEnd.isNone = false := by rw [← Option.not_isSome, ht]; rfl
  simp only [testStop, hd, hrun, hr, Bool.false_eq_true, if_false, if_true]

end

/-! ### The rows -/

section
variable {dt : Ps} {s u : State} {c : Sealed} {due : Ps}

theorem exec_coherencyDone (hu : u = cohRead (s.elapse dt)) (hc : u.align.coh = some (c, due)) :
    exec (.coherencyDone dt) s = .next (if due ≤ u.now then cohDone (asRead u c) u else u) := by
  subst hu
  change execCoherencyDone dt s = _
  simp only [execCoherencyDone, hc]

theorem exec_bandMonitorDone (hu : u = bandRead (s.elapse dt)) (hc : u.align.band = some (c, due)) :
    exec (.bandMonitorDone dt) s = .next (if due ≤ u.now then bandDone (asRead u c) u else u) := by
  subst hu
  change execBandMonitorDone dt s = _
  simp only [execBandMonitorDone, hc]

variable (hu : u = s.elapse dt)
include hu

theorem exec_almPinUpdate : exec (.almPinUpdate dt) s = .next (pinUpdate u) := hu ▸ rfl
theorem exec_alarmRepeat {n : Nat} : exec (.alarmRepeat dt n) s = .next (almRepeat n u) := hu ▸ rfl

theorem exec_alarmTestEnd_due {n : Nat} {d : AlmDef} {a : Ps} (hd : u.ald n = some d) (ha : d.testEnd = some a) (hdue : a ≤ u.now) :
    exec (.alarmTestEnd dt n) s = .next (testStop n u) := by
  subst hu
  change execAlarmTestEnd dt n s = _
  simp only [execAlarmTestEnd, hd, Option.bind_some, ha, if_pos hdue]

end

/-! ### The statement -/

/-- Settles O26: each row is its operation on the state that its reads leave; where no definition watches the zone, the decisions of the
units change nothing (`almDecideAll_of_no_definition`). -/
theorem detectionEventsTakeEffect : Obligations.DetectionEventsTakeEffect := by
  unfold Obligations.DetectionEventsTakeEffect
  refine ⟨?coherency, ?coherencyEarly, ?result, ?band, ?signal, ?pins, ?repeatElsewhere, ?repeatHere, ?noEvent,
    fun dt s u n d a hu => exec_alarmTestEnd_due hu, fun n u d => testStop_raised⟩
  case coherency =>
    intro dt s u c due hu hc hdue
    rw [exec_coherencyDone hu hc, if_pos hdue]
  case coherencyEarly =>
    intro dt s u c due hu hc hearly
    rw [exec_coherencyDone hu hc, if_neg hearly.not_ge]
  case result =>
    intro c u hno hqueue _
    obtain ⟨t, hcoh, halign, hdone⟩ := cohDone_of_no_definition hno
    have hidle : cohTake t = t := cohTake_idle (by rw [halign]; exact hqueue)
    rw [hdone, hidle, hcoh, halign]
    exact ⟨rfl, rfl, rfl⟩
  case band =>
    intro dt s u c due hu hc hdue
    rw [exec_bandMonitorDone hu hc, if_pos hdue]
  case signal =>
    intro c u n g hno hg hz
    rw [bandDone_signals hno, tabGet?_tabMap, hg, Option.map_some, if_pos hz]
  case pins =>
    intro dt s u due x hu hdue hx
    rw [exec_almPinUpdate hu, pinUpdate_due hdue hx]
  case repeatElsewhere =>
    intro dt s u n d e b hu hd he hown
    rw [exec_alarmRepeat hu, almRepeat_event hd he, hown]
    rfl
  case repeatHere =>
    rintro dt s u v n d e b hu hd he hown rfl
    rw [exec_alarmRepeat hu, almRepeat_event hd he, hown]
    rfl
  case noEvent =>
    intro dt s u n hu h
    rw [exec_alarmRepeat hu, almRepeat_without_event h]

end Sys2Proof.Machine
end

section
/-! SUPPORT. The commands of the coherency unit and the band-energy monitor: which checks pass, what the counters are once cleared, and the
statement on them (R318 to R320, R326, R327, R329, R331 to R333, R355). -/

namespace Sys2Proof.Machine

/-! ### Checks -/

theorem firstBad_append_eq_none (l r : List (Bool × Nat)) : firstBad (l ++ r) = none ↔ firstBad l = none ∧ firstBad r = none := by
  simp only [firstBad_eq_none_iff, List.forall_mem_append]

theorem firstBad_flatMap_eq_none {α : Type} (f : α → List (Bool × Nat)) (l : List α) :
    firstBad (l.flatMap f) = none ↔ ∀ a ∈ l, firstBad (f a) = none := by
  simp only [firstBad_eq_none_iff, List.mem_flatMap]
  exact ⟨fun h a ha x hx => h x ⟨a, ha, hx⟩, fun h x ⟨a, ha, hx⟩ => h a ha x hx⟩

theorem cohSetVertices_checks {p : List Byte} (s : State) (hv : fld p 0 2 ≤ 16383) (h1 : 1 ≤ fld p 2 2) (h1024 : fld p 2 2 ≤ 1024)
    (hend : fld p 0 2 + fld p 2 2 ≤ 16384)
    (he : ∀ e ∈ entries p 4 5 (fld p 2 2), (∀ x ∈ refChecks p e.1, x.1 = true) ∧ fld p (e.1 + 4) 1 ≤ 31) :
    firstBad (cmdCohSetVertices.checks s p) = none := by
  refine (firstBad_append_eq_none ..).2 ⟨by simp [inRange, hv, h1, h1024, hend], (firstBad_flatMap_eq_none ..).2 fun e hmem => ?_⟩
  obtain ⟨href, hphasor⟩ := he e hmem
  exact (firstBad_append_eq_none ..).2 ⟨firstBad_eq_none_iff.2 href, by simp [inRange, hphasor]⟩

theorem cohSetEdges_checks {p : List Byte} {s : State} (hv : fld p 0 4 ≤ 65535) (h1 : 1 ≤ fld p 4 2) (h256 : fld p 4 2 ≤ 256)
    (hend : fld p 0 4 + fld p 4 2 ≤ 65536)
    (he : ∀ y ∈ (entries p 6 17 (fld p 4 2)).zipIdx, (∀ x ∈ edgeChecks y.1.1 y.1.2, x.1 = true)
      ∧ ∀ x ∈ edgeZoneChecks s (fld p 0 4 + y.2) y.1.1 (edgeOf y.1.2), x.1 = true) :
    firstBad (cmdCohSetEdges.checks s p) = none := by
  refine (firstBad_append_eq_none ..).2 ⟨(firstBad_append_eq_none ..).2 ⟨by simp [inRange, hv, h1, h256, hend], ?_⟩, ?_⟩
  · exact (firstBad_flatMap_eq_none ..).2 fun y hy => firstBad_eq_none_iff.2 (he y hy).1
  · exact (firstBad_flatMap_eq_none ..).2 fun y hy => firstBad_eq_none_iff.2 (he y hy).2

/-- With no other zone set and no edge in the table, the ranges of R320 are all that COH_SET_ZONE checks. -/
theorem cohSetZone_checks_alone {p : List Byte} {s : State} (h0 : fld p 0 1 ≤ 63) (h1 : fld p 1 1 ≤ 1)
    (hvend : fld p 2 2 + fld p 4 2 ≤ 16384) (hv : fld p 2 2 ≤ 16383) (he : fld p 6 4 ≤ 65535) (heend : fld p 6 4 + fld p 10 4 ≤ 65536)
    (href : fld p 14 2 = 0xFFFF) (hmin : 1 ≤ fld p 16 2) (hmax : fld p 16 2 ≤ 16384) (h18 : fld p 18 1 ≤ 3)
    (hcoh : s.detect.coh = []) (hedges : s.detect.edges = []) : firstBad (cmdCohSetZone.checks s p) = none := by
  simp [cmdCohSetZone, inRange, h0, h1, hvend, hv, he, heend, href, hmin, hmax, h18, hcoh, hedges]

theorem cohGetResult_checks {p : List Byte} {s : State} {r : CohResult} (h0 : fld p 0 1 ≤ 63) (h1 : fld p 1 1 ≤ 1) (h4 : fld p 4 2 ≤ 1024)
    (hr : cohResultOf s p = some r) (hend : fld p 2 2 + fld p 4 2 ≤ r.labels.length) : firstBad (cmdCohGetResult.checks s p) = none := by
  simp [cmdCohGetResult, inRange, h0, h1, h4, hr, hend]

theorem oscSetBands_checks {p : List Byte} (s : State) (h0 : fld p 0 1 ≤ 63)
    (hband : ∀ i, i < 6 → fld p (1 + 9 * i) 1 ≤ 1 ∧ f32Lt (fldF32 p (2 + 9 * i)) (fldF32 p (6 + 9 * i)) = true)
    (hpk : 1 ≤ fld p 55 2) (hpk' : fld p 55 2 ≤ 4096) (hrms : 1 ≤ fld p 57 2) (hrms' : fld p 57 2 ≤ 4096) (hatt : 10 ≤ fld p 59 4)
    (hatt' : fld p 59 4 ≤ 60000) (hrel : 100 ≤ fld p 63 4) (hrel' : fld p 63 4 ≤ 600000) (hfill : fld p 67 1 ≤ 15) :
    firstBad (cmdOscSetBands.checks s p) = none := by
  refine (firstBad_append_eq_none ..).2 ⟨(firstBad_append_eq_none ..).2 ⟨by simp [inRange, h0], ?_⟩, ?_⟩
  · refine (firstBad_flatMap_eq_none ..).2 fun e hmem => ?_
    obtain ⟨i, hi, rfl⟩ := List.mem_map.1 hmem
    obtain ⟨henable, hedges⟩ := hband i (List.mem_range.1 hi)
    rw [show 2 + 9 * i = 1 + 9 * i + 1 by omega, show 6 + 9 * i = 1 + 9 * i + 5 by omega] at hedges
    simp [inRange, henable, hedges]
  · simp [inRange, hpk, hpk', hrms, hrms', hatt, hatt', hrel, hrel', hfill]

theorem oscSetSignals_checks {p : List Byte} (s : State) (hv : fld p 0 2 ≤ 4095) (h1 : 1 ≤ fld p 2 2) (h256 : fld p 2 2 ≤ 256)
    (hend : fld p 0 2 + fld p 2 2 ≤ 4096) (he : ∀ e ∈ entries p 4 14 (fld p 2 2), ∀ x ∈ signalChecks p e.1, x.1 = true) :
    firstBad (cmdOscSetSignals.checks s p) = none :=
  (firstBad_append_eq_none ..).2
    ⟨by simp [inRange, hv, h1, h256, hend], (firstBad_flatMap_eq_none ..).2 fun e hmem => firstBad_eq_none_iff.2 (he e hmem)⟩

theorem oscGetSignal_checks {p : List Byte} (s : State) (h0 : fld p 0 2 ≤ 4095) : firstBad (cmdOscGetSignal.checks s p) = none := by
  simp [cmdOscGetSignal, inRange, h0]

theorem oscSetThresholds_checks {p : List Byte} (s : State) (h0 : fld p 0 1 ≤ 15) : firstBad (cmdOscSetThresholds.checks s p) = none := by
  simp [cmdOscSetThresholds, inRange, h0]

/-! ### Bodies -/

/-- A functional write leaves no bad word among those that it writes (R525). -/
theorem badWords_writeWords_self (cls : Nat) (p : Nat → Nat → Bool) (s : State) : badWords cls p (writeWords cls p s) = [] := by
  have hnone : (writeWords cls p s).integ.injected.filter (fun x => decide (x.cls = cls) && p x.index x.addr) = [] := by
    rw [List.filter_eq_nil_iff]
    intro x hx
    simpa only [Bool.not_eq_true, Bool.not_eq_true'] using (List.mem_filter.1 hx).2
  simp only [badWords, injectedWords, hnone]
  rfl

theorem cohGetResult_run {p : List Byte} {s : State} {r : CohResult} (ifc : Nat) (hr : cohResultOf s p = some r) :
    cmdCohGetResult.run s ifc p = replyRead 3 (tableWords 7 (fld p 0 1) 1) (be 4 r.seq ++ stampBytes r.instant ++ be 2 r.lit
      ++ be 2 r.components ++ be 2 r.islands ++ be 2 r.islanded ++ be 2 r.mainLabel
      ++ ((r.labels.drop (fld p 2 2)).take (fld p 4 2)).flatMap fun l => be 2 l) s := by
  simp only [cmdCohGetResult, hr]

/-! ### Counters (R355) -/

/-- A definition and a zone with their counters at 0. -/
def AlmDef.cleared (d : AlmDef) : AlmDef := { d with cRaises := 0, cClears := 0, cUndecided := 0 }
def CohZone.cleared (x : CohZone) : CohZone := { x with cEvals := 0, cIsland := 0, cOsc := 0 }

theorem clearDetect_ald (s : State) (n : Nat) : (clearDetect s).ald n = (s.ald n).map AlmDef.cleared :=
  tabGet?_tabMap (fun _ => AlmDef.cleared) n s.detect.alarms

theorem clearDetect_coh (s : State) (z : Nat) : (clearDetect s).coh z = (s.coh z).cleared := by
  have h : (clearDetect s).coh z = ((tabGet? z s.detect.coh).map CohZone.cleared).getD {} :=
    congrArg (fun x => x.getD ({} : CohZone)) (tabGet?_tabMap (fun _ => CohZone.cleared) z s.detect.coh)
  rw [h, State.coh, tabGet]
  cases tabGet? z s.detect.coh <;> rfl

theorem vget_replicate_default {α : Type} (n : Nat) (d : α) (i : Nat) : vget d (Vector.replicate n d) i = d := by
  simp [vget]

/-- Once cleared, every counter of R355 is 0. -/
theorem detectCounters_clearDetect (s : State) (x : Cnt) (hx : x ∈ detectCounters (clearDetect s)) : x = 0 := by
  obtain hx | hx := List.mem_append.1 hx
  · obtain hx | hx := List.mem_append.1 hx
    · obtain hx | hx := List.mem_append.1 hx
      · obtain ⟨z, -, hx⟩ := List.mem_flatMap.1 hx
        rw [clearDetect_coh] at hx
        simpa [CohZone.cleared] using hx
      · obtain ⟨n, -, hx⟩ := List.mem_flatMap.1 hx
        rw [clearDetect_ald] at hx
        cases hd : s.ald n <;> simpa [hd, AlmDef.cleared, clearDetect, tabGet?] using hx
    · obtain ⟨k, -, hx⟩ := List.mem_flatMap.1 hx
      simpa [clearDetect, vget_replicate_default] using hx
  · exact List.mem_singleton.1 hx

/-! ### The statement -/

/-- Settles O23: each command is a use of `command_executed` on the equation of its body; the reading commands answer by `replyRead`, and
`badWords_writeWords_self` says that a write leaves its words readable. -/
theorem detectionCommandsTakeEffect : Obligations.DetectionCommandsTakeEffect := by
  unfold Obligations.DetectionCommandsTakeEffect
  refine ⟨?vertices, fun k v n u => badWords_writeWords_self .., ?edges, ?zone, ?zoneAlone, ?result, ?resultUnreadable, ?bands, ?signals,
    ?thresholds, ?signal, ?signalUnused, ?counters, ?clear, detectCounters_clearDetect⟩
  case vertices =>
    rintro dt q s u v n hu hr rfl rfl hl hv h1 h1024 hend he
    exact command_executed (d := cmdCohSetVertices) hu hr rfl (beq_iff_eq.2 hl) (cohSetVertices_checks u hv h1 h1024 hend he) rfl rfl rfl
  case edges =>
    rintro dt q s u v n hu hr rfl rfl hl hv h1 h256 hend he
    exact command_executed (d := cmdCohSetEdges) hu hr rfl (beq_iff_eq.2 hl) (cohSetEdges_checks hv h1 h256 hend he) rfl rfl rfl
  case zone =>
    rintro dt q s u z x hu hr hl rfl hc rfl
    exact command_executed (d := cmdCohSetZone) hu hr rfl (beq_iff_eq.2 hl) (firstBad_eq_none_iff.2 hc) rfl rfl rfl
  case zoneAlone =>
    intro u q h0 h1 hvend hv he heend href hmin hmax h18 hcoh hedges
    exact firstBad_eq_none_iff.1 (cohSetZone_checks_alone h0 h1 hvend hv he heend href hmin hmax h18 hcoh hedges)
  case result =>
    intro dt q s u r hu hr hl h0 h1 h4 hres hend hb
    exact command_executed (d := cmdCohGetResult) hu hr rfl (beq_iff_eq.2 hl) (cohGetResult_checks h0 h1 h4 hres hend)
      ((cohGetResult_run _ hres).trans (replyRead_ok _ hb)) rfl (readWords_unsent ..)
  case resultUnreadable =>
    intro dt q s u r hu hr hl h0 h1 h4 hres hend hb
    exact refusedWith_of_fail (d := cmdCohGetResult) hu hr rfl (beq_iff_eq.2 hl) (cohGetResult_checks h0 h1 h4 hres hend)
      ((cohGetResult_run _ hres).trans (replyRead_fail _ hb)) nofun nofun nofun rfl
  case bands =>
    rintro dt q s u z bands o hu hr hl rfl h0 hband hpk hpk' hrms hrms' hatt hatt' hrel hrel' hfill rfl rfl
    exact command_executed (d := cmdOscSetBands) hu hr rfl (beq_iff_eq.2 hl)
      (oscSetBands_checks u h0 hband hpk hpk' hrms hrms' hatt hatt' hrel hrel' hfill) rfl rfl rfl
  case signals =>
    rintro dt q s u v n hu hr rfl rfl hl hv h1 h256 hend he
    exact command_executed (d := cmdOscSetSignals) hu hr rfl (beq_iff_eq.2 hl) (oscSetSignals_checks u hv h1 h256 hend he) rfl rfl rfl
  case thresholds =>
    intro dt q s u hu hr hl h0
    exact command_executed (d := cmdOscSetThresholds) hu hr rfl (beq_iff_eq.2 hl) (oscSetThresholds_checks u h0) rfl rfl rfl
  case signal =>
    rintro dt q s u g rs hu hr hl h0 hg rfl hb
    refine command_executed (d := cmdOscGetSignal) hu hr rfl (beq_iff_eq.2 hl) (oscGetSignal_checks u h0) ?_ rfl (readWords_unsent ..)
    simp only [cmdOscGetSignal, hg]
    exact replyRead_ok _ hb
  case signalUnused =>
    intro dt q s u hu hr hl h0 hg
    refine command_executed (d := cmdOscGetSignal) hu hr rfl (beq_iff_eq.2 hl) (oscGetSignal_checks u h0) ?_ rfl rfl
    simp only [cmdOscGetSignal, hg]
  case counters =>
    intro dt q s u hu hr hp
    refine command_executed (d := cmdDetectGetCounters) hu hr rfl ?_ ?_ ?_ ?_ rfl
    all_goals rw [hp]; rfl
  case clear =>
    intro dt q s u hu hr hp
    refine command_executed (d := cmdDetectGetCounters) (v := clearDetect u) hu hr rfl ?_ ?_ ?_ ?_ rfl
    all_goals rw [hp]; rfl

end Sys2Proof.Machine
end

section
/-! SUPPORT. The commands of the kernel group: refusal by a check, the settings record of a command without a key, what each body answers,
and the statement on them (R360, R363, R374 to R380, R383 to R385). -/

namespace Sys2Proof.Machine

/-! ### Execution -/

section
variable {dt : Ps} {q : Packet} {s u : State} (hu : u = arrived q (s.elapse dt)) {d : Cmd} (hr : ready (s.elapse dt) q d.opcode = true)
  (hm : d.modes u.sys.mode = true) (hl : d.lenOk q.params = true)
include hu hr hm hl

/-- A command is refused with BAD_PARAM at the offset of the first of its checks that fails (R470). -/
theorem refusedWith_of_check {offset : Nat} (hc : firstBad (d.checks u q.params) = some offset) :
    refusedWith (command d dt q s) q d.opcode stBadParam offset u := by
  refine refusedWith_of_outcome d dt q s u hu hr stBadParam offset nofun nofun ?_
  subst hu
  rw [(arrived_parts q _).1] at hm
  obtain ⟨-, -, -, -, hlife, -⟩ := ready_parts hr
  simp only [cmdOutcome, (arrived_parts q _).1, hlife, hm, hl, hc, Bool.not_true, Bool.false_eq_true, if_false, if_true]

/-- A command that sets no setting of its own leaves the settings record as its body leaves it (R581). -/
theorem command_settings {data : List Byte} {v t : State} (hc : firstBad (d.checks u q.params) = none)
    (hrun : d.run u q.ifc q.params = .ok data v) (hk : d.key q.params = none) (hs : v.sys = u.sys)
    (hj : v.host.journal = u.host.journal) (hi : ∀ i, v.iface i = u.iface i) (ht : command d dt q s = .next t) :
    t.host.settings = v.host.settings := by
  subst hu
  have hp : v.sys.phase = .running := hs ▸ arrived_running hr
  have hn : journalMustCommit (noteSetting none d.opcode q.params (arrived q (s.elapse dt)) v) = false :=
    journalMustCommit_of_journal hj (arrived_journal hr)
  rw [(arrived_parts q _).1] at hm
  have ho := (cmdOutcome_arrived hr hm hl hc).trans hrun
  have hrec := closeCommand_direct_settingsRecord (c := packetCmd d q) (d.journaled q.params data) stOk 0 data
    (noteSetting none d.opcode q.params (arrived q (s.elapse dt)) v) rfl
  obtain rfl : runCommand d q (s.elapse dt) = t := Host.Outcome.next.inj ht
  rw [runCommand_ready hr]
  simp only [executeCommand, packetCmd, ho, hp, hk, hi, bne_self_eq_false, finishCommand, hn, Bool.and_false, Bool.false_eq_true, if_false]
  exact congrArg Prod.fst hrec

end

/-! ### Parameter tables (R375, R376) -/

/-- What a whole table that takes the place of an old one leaves (R374, R375, R581). -/
def tablePut (n : Nat) (bytes : List Byte) (t : ParamTable) (s : State) : State :=
  dramWritten (s.region 0 + Config.tableOffset n % 268435456) bytes.length { s with
    kernel := { s.kernel with
      tables := tabSet n t s.kernel.tables, chunks := tabErase n s.kernel.chunks
      flows := tabMap (fun _ (f : Flow) => if f.table = n then { f with stateReset := true } else f) s.kernel.flows }
    host := { s.host with
      settings := recordSetting { key := (0x0711, [n]), opcode := 0x0711, params := be 1 n ++ bytes } s.host.settings } }

theorem setParams_chunk {s : State} {p : List Byte} (hlast : fld p 7 1 = 0) : setParams s p = .ok [] { s with kernel := { s.kernel with
    chunks := tabSet (fld p 0 1) (putChunk (tabGet [] (fld p 0 1) s.kernel.chunks) (fld p 1 4) (p.drop 8)) s.kernel.chunks } } := by
  simp [setParams, hlast]

theorem setParams_last {s : State} {p : List Byte} (hlast : fld p 7 1 = 1) :
    setParams s p = putTable (fld p 0 1) (putChunk (tabGet [] (fld p 0 1) s.kernel.chunks) (fld p 1 4) (p.drop 8)) s := if_pos hlast

section
variable {n : Nat} {bytes : List Byte} {s : State}

theorem putTable_unsound (h : parseTable bytes = none ∨ ∃ t, parseTable bytes = some t ∧ tableOk t = false) :
    putTable n bytes s = .bad 8 := by
  obtain hnone | ⟨t, ht, hbad⟩ := h
  · simp only [putTable, hnone]
  · simp [putTable, ht, hbad]

/-- A sound table whose users run its kernel and that fits takes the old one's place. -/
theorem putTable_ok {t : ParamTable} (ht : parseTable bytes = some t) (hok : tableOk t = true)
    (husers : ∀ x ∈ s.kernel.flows, x.2.enable = true → x.2.table = n → x.2.kernel = t.kernel)
    (hroom : (tabSet n t s.kernel.tables).foldl (fun m x => m + x.2.bytes.length) 0 ≤ 268435456)
    (hfit : engineFits s.zone s.kernel.flows (tabSet n t s.kernel.tables) = true) :
    putTable n bytes s = .ok (be 4 bytes.length) (tablePut n bytes t s) := by
  have hkernel : ((s.kernel.flows.filter fun x => x.2.enable && x.2.table = n).all fun x => x.2.kernel == t.kernel) = true := by
    refine List.all_eq_true.2 fun x hx => ?_
    obtain ⟨hmem, huse⟩ := List.mem_filter.1 hx
    obtain ⟨hon, htable⟩ := Bool.and_eq_true_iff.1 huse
    exact beq_iff_eq.2 (husers x hmem hon (of_decide_eq_true htable))
  simp only [putTable, ht, hok, hkernel, hfit, Bool.and_self, Bool.not_true, Bool.false_eq_true, or_false, if_false,
    if_neg (Nat.not_lt.2 hroom)]
  rfl

end

/-- The checks of a chunk that lies in a table's space pass (R375). -/
theorem kernelSetParams_checks {p : List Byte} (s : State) (hend : fld p 1 4 + fld p 5 2 ≤ 4194304) (h1 : 1 ≤ fld p 5 2)
    (h1024 : fld p 5 2 ≤ 1024) (hlast : fld p 7 1 ≤ 1) : firstBad (cmdKernelSetParams.checks s p) = none := by
  simp [cmdKernelSetParams, inRange, hend, h1, h1024, hlast]

theorem kernelSetParams_lenOk {p : List Byte} (h8 : 8 ≤ p.length) (hl : p.length = 8 + fld p 5 2) : cmdKernelSetParams.lenOk p = true :=
  Bool.and_eq_true_iff.2 ⟨decide_eq_true h8, beq_iff_eq.2 hl⟩

/-! ### Flows (R360, R363, R374, R380) -/

/-- The flow that KERNEL_SET_FLOW writes: the settings that it spells, with the results and the state of the flow before. -/
def flowSet (p : List Byte) (s : State) : Flow :=
  { flowOf p with ring := (s.flow (fld p 0 1)).ring, state := (s.flow (fld p 0 1)).state, copy := (s.flow (fld p 0 1)).copy }

/-- The table of a flow whose kernel is the flow's, as the commands look it up. -/
theorem tabGet?_filter_kernel {n k : Nat} {ts : Tab ParamTable} {t : ParamTable} (ht : tabGet? n ts = some t) (hk : t.kernel = k) :
    ((tabGet? n ts).filter fun t => t.kernel = k) = some t := by
  simp [ht, hk]

theorem tabGet?_filter_kernel_none {n k : Nat} {ts : Tab ParamTable} (h : ∀ t, tabGet? n ts = some t → t.kernel ≠ k) :
    ((tabGet? n ts).filter fun t => t.kernel = k) = none := by
  simpa [Option.filter_eq_none_iff] using h

section
variable {s : State} {p : List Byte}

theorem setFlow_ok {t : ParamTable} (ht : tabGet? (fld p 4 1) s.kernel.tables = some t) (hk : t.kernel = fld p 3 1)
    (hsum : queueSum s.zone (tabSet (fld p 0 1) (flowSet p s) s.kernel.flows) ≤ 4096)
    (hfit : engineFits s.zone (tabSet (fld p 0 1) (flowSet p s) s.kernel.flows) s.kernel.tables = true) :
    setFlow s p = .ok (be 4 ((partCosts t (fld p 5 1)).foldl max 0) ++ be 4 (tableState t)) (tableWritten 5 (fld p 0 1) 1
      { s with kernel := { s.kernel with flows := tabSet (fld p 0 1) (flowSet p s) s.kernel.flows } }) := by
  have hroom : ¬(4096 < queueSum s.zone (tabSet (fld p 0 1) (flowSet p s) s.kernel.flows)
      ∨ !engineFits s.zone (tabSet (fld p 0 1) (flowSet p s) s.kernel.flows) s.kernel.tables) := by
    simp [hsum, hfit]
  unfold setFlow
  extract_lets n _ f flows t?
  rw [show t? = some t from tabGet?_filter_kernel ht hk]
  refine (if_neg hroom).trans ?_
  rfl

/-- A flow whose items could overfill the queue is refused (R363). -/
theorem setFlow_noRoom (h : 4096 < queueSum s.zone (tabSet (fld p 0 1) (flowSet p s) s.kernel.flows)) :
    setFlow s p = .err stNoResource := if_pos (.inl h)

theorem flowChecks_ok {t : ParamTable} {x : KernSpec} (h1 : fld p 1 1 ≤ 1) (h2 : fld p 2 1 ≤ 63) (h3 : 1 ≤ fld p 3 1) (h24 : fld p 3 1 ≤ 24)
    (ht : tabGet? (fld p 4 1) s.kernel.tables = some t) (hk : t.kernel = fld p 3 1) (hx : kernSpec t.kernel = some x)
    (h5 : 1 ≤ fld p 5 1) (hparts : fld p 5 1 ≤ x.maxParts)
    (hafter : fld p 6 1 = 0xFF ∨ (fld p 6 1 < fld p 0 1 ∧ ∃ a, tabGet? (fld p 6 1) s.kernel.flows = some a ∧ a.zone = fld p 2 1)) :
    firstBad (flowChecks s p) = none := by
  rw [hk] at hx
  by_cases hnone : fld p 6 1 = 0xFF
  · simp [flowChecks, flowOf, inRange, h1, h2, h3, h24, ht, hk, hx, h5, hparts, hnone]
  · obtain ⟨hlt, a, ha, hz⟩ := hafter.resolve_left hnone
    simp [flowChecks, flowOf, inRange, h1, h2, h3, h24, ht, hk, hx, h5, hparts, hnone, hlt, ha, hz]

/-- A flow whose table is not one of its kernel fails the check of TABLE (R360). -/
theorem flowChecks_table (h1 : fld p 1 1 ≤ 1) (h2 : fld p 2 1 ≤ 63) (h3 : 1 ≤ fld p 3 1) (h24 : fld p 3 1 ≤ 24)
    (h : ∀ t, tabGet? (fld p 4 1) s.kernel.tables = some t → t.kernel ≠ fld p 3 1) : firstBad (flowChecks s p) = some 4 := by
  cases ht : tabGet? (fld p 4 1) s.kernel.tables with
  | none => simp [flowChecks, flowOf, inRange, h1, h2, h3, h24, ht, firstBad]
  | some t => simp [flowChecks, flowOf, inRange, h1, h2, h3, h24, ht, beq_eq_false_iff_ne.2 (h t ht), firstBad]

end

/-- The data of KERNEL_GET_FLOW: the settings of a flow, and the costs of its parts (R384). -/
def flowReply (f : Flow) (costs : List Nat) : List Byte :=
  be 1 (bit f.enable 0) ++ be 1 f.zone ++ be 1 f.kernel ++ be 1 f.table ++ be 1 f.parts ++ be 1 (f.after.getD 0xFF)
    ++ (List.range 16).flatMap fun i => be 4 (costs.getD i 0)

/-- The part costs that KERNEL_GET_FLOW answers: none without a table of the flow's kernel. -/
def flowCosts (f : Flow) (ts : Tab ParamTable) : List Nat :=
  match (tabGet? f.table ts).filter fun t => t.kernel = f.kernel with
  | some t => partCosts t f.parts
  | none => []

theorem flowCosts_of_table {f : Flow} {ts : Tab ParamTable} {t : ParamTable} (ht : tabGet? f.table ts = some t) (hk : t.kernel = f.kernel) :
    flowCosts f ts = partCosts t f.parts := by
  rw [flowCosts, tabGet?_filter_kernel ht hk]

theorem flowCosts_of_no_table {f : Flow} {ts : Tab ParamTable} (h : ∀ t, tabGet? f.table ts = some t → t.kernel ≠ f.kernel) :
    flowCosts f ts = [] := by
  rw [flowCosts, tabGet?_filter_kernel_none h]

theorem kernelGetFlow_run {p : List Byte} {s : State} {f : Flow} (ifc : Nat) (hf : f = s.flow (fld p 0 1))
    (hb : badWords 3 (tableWords 5 (fld p 0 1) 1) s = []) : cmdKernelGetFlow.run s ifc p
      = .ok (flowReply f (flowCosts f s.kernel.tables)) (readWords 3 (tableWords 5 (fld p 0 1) 1) s) := by
  subst hf
  exact replyRead_ok _ hb

/-! ### Results (R378) -/

section
variable {s : State} {p : List Byte}

theorem resultOf_readable {flow seq : Nat} {r : ResultSlot} (hr : tabGet? (seq % 4) (s.flow flow).ring = some r) (hseq : r.seq = seq) :
    resultOf s flow seq = some r := by
  simp [resultOf, hr, hseq]

theorem resultOf_gone {flow seq : Nat} (h : ∀ r, tabGet? (seq % 4) (s.flow flow).ring = some r → r.seq ≠ seq) :
    resultOf s flow seq = none := by
  simpa [resultOf, Option.filter_eq_none_iff] using h

theorem kernelReadResult_checks {r : ResultSlot} (hr : resultOf s (fld p 0 1) (fld p 1 4) = some r) (h9 : fld p 9 2 ≤ 1024)
    (hend : fld p 5 4 + fld p 9 2 ≤ r.body.length) : firstBad (cmdKernelReadResult.checks s p) = none := by
  simp [cmdKernelReadResult, inRange, hr, h9, hend]

theorem kernelReadResult_checks_gone (hr : resultOf s (fld p 0 1) (fld p 1 4) = none) (h9 : fld p 9 2 ≤ 1024) :
    firstBad (cmdKernelReadResult.checks s p) = some 1 := by
  simp [cmdKernelReadResult, inRange, hr, h9, firstBad]

theorem kernelReadResult_run {r : ResultSlot} (ifc : Nat) (hr : resultOf s (fld p 0 1) (fld p 1 4) = some r) :
    cmdKernelReadResult.run s ifc p = .ok (resultHeader (fld p 0 1) r ++ slice r.body (fld p 5 4) (fld p 9 2)) s := by
  simp only [cmdKernelReadResult, hr]

end

/-! ### The statement -/

/-- Settles O27: each command is a use of `command_executed`, `command_refused` or `refusedWith_of_check` on the equation of its body;
`putTable_ok` says what the last chunk makes, and `command_settings` that its settings record is the one that stays. -/
theorem kernelCommandsTakeEffect : Obligations.KernelCommandsTakeEffect := by
  unfold Obligations.KernelCommandsTakeEffect
  refine ⟨?catalogue, ?chunk, ?table, ?tableUnsound, ?flow, ?flowTable, ?flowNoRoom, ?getFlow, ?getFlowNoTable, ?result, ?resultGone,
    ?status, ?counters, ?clear⟩
  case catalogue =>
    intro dt q s u hu hr hp
    refine command_executed (d := cmdKernelGetCatalogue) hu hr rfl ?_ rfl rfl rfl rfl
    rw [hp]
    rfl
  case chunk =>
    rintro dt q s u n hu hr h8 hl rfl hend h1 h1024 hlast
    exact command_executed (d := cmdKernelSetParams) hu hr rfl (kernelSetParams_lenOk h8 hl)
      (kernelSetParams_checks u hend h1 h1024 (by omega)) (setParams_chunk hlast) rfl rfl
  case table =>
    rintro dt q s u v n bytes t hu hr h8 hl rfl hend h1 h1024 hlast rfl ht hok husers hroom hfit rfl
    have hlen := kernelSetParams_lenOk h8 hl
    have hc := kernelSetParams_checks u hend h1 h1024 hlast.le
    have hrun := (setParams_last hlast).trans (putTable_ok ht hok husers hroom hfit)
    exact ⟨command_executed_of_parts (d := cmdKernelSetParams) hu hr rfl hlen hc hrun rfl rfl rfl fun _ => rfl,
      fun _ => command_settings (d := cmdKernelSetParams) hu hr rfl hlen hc hrun rfl rfl rfl fun _ => rfl⟩
  case tableUnsound =>
    rintro dt q s u bytes hu hr h8 hl hend h1 h1024 hlast rfl hbad
    exact command_refused (d := cmdKernelSetParams) (status := stBadParam) (offset := 8) hu hr rfl (kernelSetParams_lenOk h8 hl)
      (kernelSetParams_checks u hend h1 h1024 hlast.le) nofun nofun ((setParams_last hlast).trans (putTable_unsound hbad))
  case flow =>
    rintro dt q s u n f t x hu hr hl rfl h1 h2 h3 h24 ht hk hx h5 hparts hafter hf hsum hfit
    obtain rfl : f = flowSet q.params u := by rw [hf, hk]; rfl
    exact command_executed (d := cmdKernelSetFlow) hu hr rfl (beq_iff_eq.2 hl)
      (flowChecks_ok h1 h2 h3 h24 ht hk hx h5 hparts hafter) (setFlow_ok ht hk hsum hfit) rfl rfl
  case flowTable =>
    intro dt q s u hu hr hl h1 h2 h3 h24 hno
    exact refusedWith_of_check (d := cmdKernelSetFlow) hu hr rfl (beq_iff_eq.2 hl) (flowChecks_table h1 h2 h3 h24 hno)
  case flowNoRoom =>
    intro dt q s u hu hr hl hc hfull
    exact command_refused (d := cmdKernelSetFlow) (status := stNoResource) (offset := 0) hu hr rfl (beq_iff_eq.2 hl)
      (firstBad_eq_none_iff.2 hc) nofun nofun (setFlow_noRoom hfull)
  case getFlow =>
    intro dt q s u f t hu hr hl hf ht hk hb
    have hrun := kernelGetFlow_run q.ifc hf hb
    rw [flowCosts_of_table ht hk] at hrun
    exact command_executed (d := cmdKernelGetFlow) hu hr rfl (beq_iff_eq.2 hl) rfl hrun rfl (readWords_unsent ..)
  case getFlowNoTable =>
    intro dt q s u f hu hr hl hf hno hb
    have hrun := kernelGetFlow_run q.ifc hf hb
    rw [flowCosts_of_no_table hno] at hrun
    exact command_executed (d := cmdKernelGetFlow) hu hr rfl (beq_iff_eq.2 hl) rfl hrun rfl (readWords_unsent ..)
  case result =>
    intro dt q s u r hu hr hl hslot hseq h9 hend
    have hres := resultOf_readable hslot hseq
    exact command_executed (d := cmdKernelReadResult) hu hr rfl (beq_iff_eq.2 hl) (kernelReadResult_checks hres h9 hend)
      (kernelReadResult_run _ hres) rfl rfl
  case resultGone =>
    intro dt q s u hu hr hl h9 hno
    exact refusedWith_of_check (d := cmdKernelReadResult) hu hr rfl (beq_iff_eq.2 hl) (kernelReadResult_checks_gone (resultOf_gone hno) h9)
  case status =>
    intro dt q s u hu hr hp
    refine command_executed (d := cmdKernelGetStatus) hu hr rfl ?_ rfl rfl rfl rfl
    rw [hp]
    rfl
  case counters =>
    rintro dt q s u _ hu hr rfl hp
    refine command_executed (d := cmdKernelGetCounters) hu hr rfl ?_ ?_ ?_ ?_ rfl
    all_goals rw [hp]; rfl
  case clear =>
    rintro dt q s u _ hu hr rfl hp
    refine command_executed (d := cmdKernelGetCounters) hu hr rfl ?_ ?_ ?_ ?_ rfl
    all_goals rw [hp]; rfl

end Sys2Proof.Machine
end

section
/-! SUPPORT. The egress commands: what the operations of the sessions leave alone, which checks pass, what each body answers, and the
statement on them (R386 to R388, R396, R397, R404, R406, R414, R415). -/

namespace Sys2Proof.Machine

/-! ### What the operations of the sessions leave alone -/

@[simp] theorem dropTcp_unsent (n : Nat) (reset : Bool) (s : State) : (dropTcp n reset s).unsent = s.unsent := by
  unfold dropTcp
  extract_lets
  split
  · rfl
  · exact refreshSession_unsent _ _

@[simp] theorem sessSend_put_unsent (mk : Bool → TxKind) (payload : List Byte) (launch : Option Stamp) (s : State) (c : SessCfg) :
    (sessSend.put mk payload launch s c).unsent = s.unsent := enqueue_unsent ..

@[simp] theorem sessSend_unsent (n : Nat) (mk : Bool → TxKind) (at_ : Option Stamp) (payload : List Byte) (s : State) :
    (sessSend n mk at_ payload s).unsent = s.unsent := by
  unfold sessSend
  extract_lets
  split
  · split
    · rfl
    · split <;> rfl
  · split
    · split
      · rfl
      · exact sessSend_put_unsent ..
    · exact sessSend_put_unsent ..

@[simp] theorem sendConfig_unsent (n : Nat) (cfg3 : Bool) (s : State) : (sendConfig n cfg3 s).unsent = s.unsent :=
  foldl_keeps_read State.unsent (fun s _ => sessSend_unsent n _ none _ s) _ s

/-! ### EGRESS_SET_SESSION (R386 to R388) -/

section
variable {s : State} {c : SessCfg}

/-- The three tests of R388 pass. -/
theorem sessFits_of_bounds (hbound : sessBound s c ≤ if c.transport = .tcp then 65535 else 65507)
    (hmtu : (c.express = false ∧ (c.timed = false ∨ c.transport = .tcp)) ∨ sessBound s c + sessOverhead s c ≤ (s.tx c.port).mtu)
    (hcfg : c.cfgType = 3 ∨ configBound c.slotCount (s.zone c.zone).slotClass c.flows.length ≤ if c.transport = .tcp then 65535 else 65507) :
    sessFits s c = true := by
  have hfits : sessFitsMtu s c (s.tx c.port).mtu = true := by
    simpa [sessFitsMtu] using hmtu
  simpa [sessFits, hbound, hfits] using hcfg

theorem sessFits_over_bound (h : (if c.transport = .tcp then 65535 else 65507) < sessBound s c) : sessFits s c = false := by
  simp [sessFits, h.not_ge]

end

section
variable {s : State} {p : List Byte}

theorem setSession_disables {v : State} (hoff : fld p 1 1 = 0) (hv : v = leaveWaits (fld p 0 1) (dropTcp (fld p 0 1) false s)) :
    setSession s p = .ok (be 4 (sessBound s (s.sess (fld p 0 1)).cfg)) (v.setSess (fld p 0 1) { v.sess (fld p 0 1) with
      cfg := { (v.sess (fld p 0 1)).cfg with enable := false }, state := .disabled, fresh := false, changedAt := some s.now
      cfgCnt := (v.sess (fld p 0 1)).cfgCnt + 1 }) := by
  subst hv
  exact if_pos hoff

variable (hon : fld p 1 1 = 1)
include hon

theorem setSession_busy (he : (s.sess (fld p 0 1)).cfg.enable = true) : setSession s p = .err stBusy := by
  simp [setSession, hon, he]

variable (he : (s.sess (fld p 0 1)).cfg.enable = false)
include he

theorem setSession_enables (hfits : sessFits s (sessCfgOf p) = true) : setSession s p = .ok (be 4 (sessBound s (sessCfgOf p)))
    (s.setSess (fld p 0 1) { s.sess (fld p 0 1) with
      cfg := sessCfgOf p, state := .idle, fresh := true, changedAt := some s.now, cfgCnt := (s.sess (fld p 0 1)).cfgCnt + 1
      layout := none, content := none }) := by
  simp [setSession, hon, he, hfits]

theorem setSession_noRoom (hfits : sessFits s (sessCfgOf p) = false) : setSession s p = .err stNoResource := by
  simp [setSession, hon, he, hfits]

end

/-- A write with ENABLE off is checked no further (R414). -/
theorem sessChecks_off {p : List Byte} (s : State) (hoff : fld p 1 1 = 0) : sessChecks s p = [] := if_pos hoff

/-! ### EGRESS_SET_PORT (R404, R406, R407) -/

theorem State.setTx_setTx (s : State) (p : Nat) (x y : TxPort) : (s.setTx p x).setTx p y = s.setTx p y := by
  simp only [State.setTx, vset_vset]

theorem verifyStart_setTx (s : State) {p : Nat} (n : Nat) (x : TxPort) (hp : p < 4) : verifyStart p n (s.setTx p x)
    = (s.setTx p { x with verify := some n, verifyAt := s.now }).emit (.verify p false) := by
  rw [verifyStart, State.modTx, State.setTx_tx_self _ _ _ hp, State.setTx_setTx]
  rfl

/-- The parameters of EGRESS_SET_PORT lie in their ranges. -/
def TxPortRanges (p : List Byte) : Prop :=
  fld p 0 1 ≤ 3 ∧ 1280 ≤ fld p 1 2 ∧ fld p 1 2 ≤ 9000 ∧ fld p 3 1 ≤ 1 ∧ fld p 4 1 ≤ 1 ∧ fld p 5 1 ≤ 1

theorem setTxPort_checks {p : List Byte} (s : State) (h : TxPortRanges p) : firstBad (cmdEgressSetPort.checks s p) = none := by
  obtain ⟨h0, h1280, h9000, h3, h4, h5⟩ := h
  simp [cmdEgressSetPort, inRange, h0, h1280, h9000, h3, h4, h5]

section
variable {s : State} {p : List Byte} {k : Nat} {x : TxPort} (hk : fld p 0 1 = k)
include hk

theorem setTxPort_busy (hless : fld p 1 2 < (s.tx k).mtu) (hneed : mtuNeeded s k (fld p 1 2) = true) : setTxPort s p = .err stBusy := by
  subst hk
  exact if_pos ⟨hless, hneed⟩

variable (hmtu : (s.tx k).mtu ≤ fld p 1 2 ∨ mtuNeeded s k (fld p 1 2) = false) (hx : x = s.tx k)
include hmtu hx

/-- An MTU that no session forbids is written with the port's other settings; preemption that is switched off ends, and preemption that is
switched on with the link up is verified. -/
theorem setTxPort_ok {y : TxPort} (hy : y = { x with
      mtu := fld p 1 2, preempt := decide (fld p 3 1 = 1), pauseObey := decide (fld p 4 1 = 1), pfcObey := decide (fld p 5 1 = 1)
      active := x.active && decide (fld p 3 1 = 1), verify := if fld p 3 1 = 1 then x.verify else none }) :
    setTxPort s p = .ok (be 1 (bit y.active 0))
      (if fld p 3 1 = 1 ∧ x.preempt = false ∧ (s.port k).linkUp = true then verifyStart k 1 (s.setTx k y) else s.setTx k y) := by
  subst hk hx hy
  have hadmits : ¬(fld p 1 2 < (s.tx (fld p 0 1)).mtu ∧ mtuNeeded s (fld p 0 1) (fld p 1 2) = true) := by
    rintro ⟨hless, hneed⟩
    obtain hle | hfree := hmtu
    · omega
    · exact Bool.false_ne_true (hfree.symm.trans hneed)
  rw [setTxPort, if_neg hadmits]
  by_cases hon : fld p 3 1 = 1 <;> simp [hon]

theorem setTxPort_off (hoff : fld p 3 1 = 0) : setTxPort s p = .ok (be 1 0) (s.setTx k { x with
    mtu := fld p 1 2, preempt := false, pauseObey := decide (fld p 4 1 = 1), pfcObey := decide (fld p 5 1 = 1)
    active := false, verify := none }) := by
  simp [setTxPort_ok hk hmtu hx rfl, hoff, bit]

variable (hon : fld p 3 1 = 1)
include hon

theorem setTxPort_quiet (hquiet : x.preempt = true ∨ (s.port k).linkUp = false) : setTxPort s p = .ok (be 1 (bit x.active 0)) (s.setTx k { x with
    mtu := fld p 1 2, preempt := true, pauseObey := decide (fld p 4 1 = 1), pfcObey := decide (fld p 5 1 = 1) }) := by
  have hno : ¬(x.preempt = false ∧ (s.port k).linkUp = true) := by
    obtain h | h := hquiet <;> simp [h]
  simp [setTxPort_ok hk hmtu hx rfl, hon, hno]

theorem setTxPort_verifies (hk4 : k < 4) (hpre : x.preempt = false) (hlink : (s.port k).linkUp = true) :
    setTxPort s p = .ok (be 1 (bit x.active 0)) ((s.setTx k { x with
      mtu := fld p 1 2, preempt := true, pauseObey := decide (fld p 4 1 = 1), pfcObey := decide (fld p 5 1 = 1)
      verify := some 1, verifyAt := s.now }).emit (.verify k false)) := by
  simp [setTxPort_ok hk hmtu hx rfl, hon, hpre, hlink, verifyStart_setTx s 1 _ hk4]

end

section
variable {dt : Ps} {q : Packet} {s u : State} (hu : u = arrived q (s.elapse dt)) (hr : ready (s.elapse dt) q 0x0802 = true)
  (hl : q.params.length = 6) (hrange : TxPortRanges q.params)
include hu hr hl hrange

theorem egressSetPort_executed {data : List Byte} {v : State} (hrun : setTxPort u q.params = .ok data v) (hv : v.unsent = u.unsent) :
    executed (exec (.egressSetPort dt q) s) q 0x0802 data true v :=
  command_executed (d := cmdEgressSetPort) hu hr rfl (beq_iff_eq.2 hl) (setTxPort_checks u hrange) hrun rfl hv

theorem egressSetPort_refused (hrun : setTxPort u q.params = .err stBusy) :
    refusedWith (exec (.egressSetPort dt q) s) q 0x0802 stBusy 0xFFFF u :=
  command_refused (d := cmdEgressSetPort) (status := stBusy) (offset := 0) hu hr rfl (beq_iff_eq.2 hl) (setTxPort_checks u hrange) nofun nofun
    hrun

end

/-! ### The reading commands and EGRESS_SEND_CFG (R396, R397, R414, R415) -/

/-- The data of EGRESS_GET_SESSION, with the peer of the session's connection or 18 octets of 0 (R414). -/
def sessionReply (x : Session) (peer : List Byte) : List Byte :=
  sessCfgBytes x.cfg ++ be 1 x.state.code ++ be 4 (x.mark.getD (0, 0)).1.toNat ++ be 1 (x.mark.getD (0, 0)).2 ++ peer

section
variable {s : State} {p : List Byte} {x : Session} (ifc : Nat) (hx : x = s.sess (fld p 0 1))
include hx

theorem egressGetSession_run_unconnected (ht : x.tcp = none) :
    cmdEgressGetSession.run s ifc p = .ok (sessionReply x (List.replicate 18 0)) s := by
  subst hx
  simp only [cmdEgressGetSession, ht]
  rfl

theorem egressGetSession_run_connected {t : SessTcp} (ht : x.tcp = some t) :
    cmdEgressGetSession.run s ifc p = .ok (sessionReply x (ipBytes x.cfg.ipv6 t.peerIp ++ be 2 t.peerPort)) s := by
  subst hx
  simp only [cmdEgressGetSession, ht]
  rfl

theorem egressSendCfg_run_sending (hstate : x.state = .sending) (hudp : x.cfg.transport ≠ .tcp) :
    cmdEgressSendCfg.run s ifc p = .ok [] (sendOwnConfig (fld p 0 1) s) := by
  subst hx
  simp [cmdEgressSendCfg, hstate, hudp]

theorem egressSendCfg_run_idle (h : x.state ≠ .sending ∨ x.cfg.transport = .tcp) : cmdEgressSendCfg.run s ifc p = .ok [] s := by
  subst hx
  obtain h | h := h <;> simp [cmdEgressSendCfg, h]

end

/-! ### The statement -/

/-- Settles O29: each command is a use of `command_executed` or `command_refused` on the equation of its body; `sessFits_of_bounds` and
`sessFits_over_bound` are the tests of R388, and `setTxPort_ok` says what a port's settings become. -/
theorem egressCommandsTakeEffect : Obligations.EgressCommandsTakeEffect := by
  unfold Obligations.EgressCommandsTakeEffect
  refine ⟨?enable, ?enabled, ?tooLarge, ?disable, ?portOff, ?portVerifies, ?portQuiet, ?portBusy, ?unconnected, ?connected, ?config,
    ?counters, ?clear, ?sendCfg, ?sendNothing⟩
  case enable =>
    rintro dt q s u n c hu hr hl rfl hon rfl hchecks he hbound hmtu hcfg
    exact command_executed (d := cmdEgressSetSession) hu hr rfl (beq_iff_eq.2 hl) (firstBad_eq_none_iff.2 hchecks)
      (setSession_enables hon he (sessFits_of_bounds hbound hmtu hcfg)) rfl rfl
  case enabled =>
    intro dt q s u hu hr hl hon hchecks he
    exact command_refused (d := cmdEgressSetSession) (status := stBusy) (offset := 0) hu hr rfl (beq_iff_eq.2 hl)
      (firstBad_eq_none_iff.2 hchecks) nofun nofun (setSession_busy hon he)
  case tooLarge =>
    rintro dt q s u c hu hr hl hon hchecks rfl he hlarge
    exact command_refused (d := cmdEgressSetSession) (status := stNoResource) (offset := 0) hu hr rfl (beq_iff_eq.2 hl)
      (firstBad_eq_none_iff.2 hchecks) nofun nofun (setSession_noRoom hon he (sessFits_over_bound hlarge))
  case disable =>
    rintro dt q s u v n hu hr hl rfl hoff hv
    refine command_executed (d := cmdEgressSetSession) hu hr rfl (beq_iff_eq.2 hl) (firstBad_eq_none_iff.2 ?_)
      (setSession_disables hoff hv) rfl ?_
    · simp [cmdEgressSetSession, sessChecks_off u hoff]
    · subst hv
      exact dropTcp_unsent ..
  case portOff =>
    intro dt q s u k x hu hr hl hk hk3 hlo hhi hoff h4 h5 hmtu hx
    exact egressSetPort_executed hu hr hl ⟨by omega, hlo, hhi, by omega, h4, h5⟩ (setTxPort_off hk hmtu hx hoff) rfl
  case portVerifies =>
    intro dt q s u k x hu hr hl hk hk3 hlo hhi hon h4 h5 hmtu hx hpre hlink
    exact egressSetPort_executed hu hr hl ⟨by omega, hlo, hhi, hon.le, h4, h5⟩
      (setTxPort_verifies hk hmtu hx hon (by omega) hpre hlink) rfl
  case portQuiet =>
    intro dt q s u k x hu hr hl hk hk3 hlo hhi hon h4 h5 hmtu hx hquiet
    exact egressSetPort_executed hu hr hl ⟨by omega, hlo, hhi, hon.le, h4, h5⟩ (setTxPort_quiet hk hmtu hx hon hquiet) rfl
  case portBusy =>
    intro dt q s u k hu hr hl hk hk3 hlo hhi h3 h4 h5 hless hneed
    exact egressSetPort_refused hu hr hl ⟨by omega, hlo, hhi, h3, h4, h5⟩ (setTxPort_busy hk hless hneed)
  case unconnected =>
    intro dt q s u x hu hr hl hx ht
    exact command_executed (d := cmdEgressGetSession) hu hr rfl (beq_iff_eq.2 hl) rfl (egressGetSession_run_unconnected q.ifc hx ht) rfl rfl
  case connected =>
    intro dt q s u x t hu hr hl hx ht
    exact command_executed (d := cmdEgressGetSession) hu hr rfl (beq_iff_eq.2 hl) rfl (egressGetSession_run_connected q.ifc hx ht) rfl rfl
  case config =>
    rintro dt q s u all hu hr hl hlo hhi rfl
    refine command_executed (d := cmdEgressGetConfig) hu hr rfl (beq_iff_eq.2 hl) ?_ rfl rfl rfl
    simp [cmdEgressGetConfig, inRange, hlo, hhi]
  case counters =>
    intro dt q s u hu hr hp
    refine command_executed (d := cmdEgressGetCounters) hu hr rfl ?_ ?_ ?_ ?_ rfl
    all_goals rw [hp]; rfl
  case clear =>
    intro dt q s u hu hr hp
    refine command_executed (d := cmdEgressGetCounters) hu hr rfl ?_ ?_ ?_ ?_ rfl
    all_goals rw [hp]; rfl
  case sendCfg =>
    rintro dt q s u n hu hr hl rfl hstate hudp
    exact command_executed (d := cmdEgressSendCfg) hu hr rfl (beq_iff_eq.2 hl) rfl (egressSendCfg_run_sending q.ifc rfl hstate hudp) rfl
      (sendConfig_unsent ..)
  case sendNothing =>
    rintro dt q s u n hu hr hl rfl h
    exact command_executed (d := cmdEgressSendCfg) hu hr rfl (beq_iff_eq.2 hl) rfl (egressSendCfg_run_idle q.ifc rfl h) rfl rfl

end Sys2Proof.Machine
end

section
/-! SUPPORT. The sessions: their states, the formatter, the configuration period and TCP delivery, and the statement on them (R387, R392, R393,
R396, R398 to R400). -/

namespace Sys2Proof.Machine

/-! ### States (R387) -/

@[simp] theorem leaveWaits_sess (n : Nat) (s : State) (m : Nat) : (leaveWaits n s).sess m = s.sess m := rfl

/-- A session that leaves what it was to form is in no wait any longer (R393). -/
theorem not_mem_leaveWaits (n : Nat) (s : State) : ∀ w ∈ (leaveWaits n s).egress.waits, n ∉ w.sessions := by
  intro w hw
  obtain ⟨hmem, -⟩ := List.mem_filter.1 hw
  obtain ⟨v, -, rfl⟩ := List.mem_map.1 hmem
  simp

section
variable {n : Nat} {s : State}

/-- A session that is looked at again takes the state that R387 gives it, and no other change. -/
theorem refreshSession_sess (n : Nat) (s : State) : (refreshSession n s).sess n = s.sess n
    ∨ ((s.sess n).state = .idle ∧ sendingOk s (s.sess n) = true ∧ (refreshSession n s).sess n = { s.sess n with state := .sending })
    ∨ ((s.sess n).state = .sending ∧ sendingOk s (s.sess n) = false ∧ (refreshSession n s).sess n = { s.sess n with state := .idle }) := by
  unfold refreshSession
  extract_lets x
  split
  next hidle =>
    split
    next hok => exact .inr (.inl ⟨hidle, hok, State.setSess_sess_self ..⟩)
    next => split <;> exact .inl rfl
  next hsending =>
    split
    next => exact .inl rfl
    next hno =>
      refine .inr (.inr ⟨hsending, Bool.eq_false_of_not_eq_true hno, ?_⟩)
      split <;> exact State.setSess_sess_self ..
  next => exact .inl rfl

/-- A session that can send no more leaves what it was to form (R393). -/
theorem refreshSession_leaves (hstate : (s.sess n).state = .sending ∨ (s.sess n).state = .idle) (hno : canSend s (s.sess n) = false) :
    ∀ w ∈ (refreshSession n s).egress.waits, n ∉ w.sessions := by
  have hnot : sendingOk s (s.sess n) = false := by simp [sendingOk, hno]
  obtain h | h := hstate
  all_goals
    simp only [refreshSession, h, hnot, hno, Bool.false_eq_true, if_false]
    exact not_mem_leaveWaits n _

/-- A session that can send keeps what it was to form, also where the ticks of its zone have ended (R211, R246). -/
theorem refreshSession_waits (h : canSend s (s.sess n) = true) : (refreshSession n s).egress.waits = s.egress.waits := by
  unfold refreshSession
  extract_lets x
  have hx : canSend s x = true := h
  simp only [hx, if_true]
  split
  · split <;> rfl
  · split <;> rfl
  · rfl

theorem refreshSession_tcp (n : Nat) (s : State) : ((refreshSession n s).sess n).tcp = (s.sess n).tcp := by
  obtain h | ⟨-, -, h⟩ | ⟨-, -, h⟩ := refreshSession_sess n s <;> rw [h]

theorem dropTcp_tcp (n : Nat) (reset : Bool) (s : State) : ((dropTcp n reset s).sess n).tcp = none := by
  unfold dropTcp
  extract_lets x
  split
  next hnone => exact hnone
  next => rw [refreshSession_tcp, State.setSess_sess_self]

/-- A TCP session can send over a connection with transmission turned on, and no other (R387, R398). -/
theorem canSend_iff (s : State) (x : Session) : canSend s x = true ↔ x.cfg.enable = true ∧ x.fresh = false ∧ s.active = true
    ∧ (x.cfg.transport = .tcp → ∃ t, x.tcp = some t ∧ t.on = true) := by
  unfold canSend
  cases x.tcp <;> simp [imp_iff_not_or, and_assoc]

theorem sendingOk_iff (s : State) (x : Session) : sendingOk s x = true ↔ x.cfg.enable = true ∧ x.fresh = false ∧ s.active = true
    ∧ (s.zone x.cfg.zone).ticking = true ∧ (x.cfg.transport = .tcp → ∃ t, x.tcp = some t ∧ t.on = true) := by
  rw [sendingOk, Bool.and_eq_true, canSend_iff]
  tauto

end

/-! ### The formatter (R392, R393) -/

section
variable {s : State}

/-- Where nothing is requested or being formed, every session of the wait that can form now puts in its request. -/
theorem formRequests_idle {z tick rev : Nat} {w : EgressWait}
    (hw : s.egress.waits.find? (fun w => w.zone = z ∧ w.tick = tick ∧ w.rev = rev) = some w) (hr : s.egress.requests = [])
    (hf : s.egress.forming = none) : formRequests z tick rev s = { s with egress := { s.egress with
      requests := (w.sessions.filter fun n => formReady s w n).foldl (fun l n =>
        insertForm { edge := s.now, session := n, zone := z, tick := tick, rev := rev } l) [] } } := by
  simp only [formRequests, hw, hr, hf, List.any_nil, Bool.or_self, Bool.not_false, Bool.and_true]

theorem formRequests_unassembled {z tick rev : Nat}
    (hw : s.egress.waits.find? (fun w => w.zone = z ∧ w.tick = tick ∧ w.rev = rev) = none) : formRequests z tick rev s = s := by
  simp only [formRequests, hw]

theorem formatterTake_next {r : FormReq} {rest : List FormReq} {c : Sealed} (hf : s.egress.forming = none)
    (hr : s.egress.requests = r :: rest) (hc : s.sealedOf r.zone r.tick r.rev = some c) :
    formatterTake s = { s with egress := { s.egress with
      requests := rest
      forming := some (r, s.now + (48 + cdiv (combinedFrame s (s.sess r.session) c).length 32) * 1250) } } := by
  simp only [formatterTake, hf, hr, hc, formatCycles]

end

/-! ### The configuration frame (R396) -/

theorem sendConfig_cfgSentAt (n : Nat) (cfg3 : Bool) (s : State) : ((sendConfig n cfg3 s).sess n).cfgSentAt = s.now :=
  congrArg Session.cfgSentAt (State.setSess_sess_self ..)

/-! ### TCP delivery (R398 to R400) -/

section
variable {n : Nat} {s : State}

/-- The answer of the supervisor to a segment from a peer's address and port: a segment of its own with a free sequence number (R398). -/
def answerTcp (n : Nat) (what : String) (ip port : Nat) (seq : BitVec 32) (flags : Byte) (s v : State) : State :=
  superSegment (s.sess n).cfg.port what (sessRoute s (s.sess n).cfg ip (s.sess n).cfg.nextHop) (s.sess n).cfg.listenPort port seq flags [] v

section
variable (ha : s.active = true) (he : (s.sess n).cfg.enable = true) (ht : (s.sess n).cfg.transport = .tcp) {ip port mss : Nat}
include ha he ht

theorem tcpConnect_accepts (hfree : (s.sess n).tcp = none) (hp : permitted (s.sess n).cfg ip = true) :
    tcpConnect n ip port mss s = answerTcp n "TCP SYN ACK" ip port (BitVec.ofNat 32 s.draw.1) 0x12 s (s.draw.2.setSess n { s.sess n with
      tcp := some { peerIp := ip, peerPort := port, mss := mss, on := false, seq := BitVec.ofNat 32 s.draw.1 + 1, unacked := [], window := 0
                    noRoom := some s.now, cutTo := 0 }
      sendBuf := [], bufEnds := [], cConnects := inc (s.sess n).cConnects }) := by
  simp [tcpConnect, answerTcp, ha, he, ht, hfree, hp]

theorem tcpConnect_resets (h : (s.sess n).tcp.isSome = true ∨ permitted (s.sess n).cfg ip = false) :
    tcpConnect n ip port mss s = answerTcp n "TCP RST" ip port (BitVec.ofNat 32 s.draw.1) 0x14 s s.draw.2 := by
  have hno : ((s.sess n).tcp.isSome || !permitted (s.sess n).cfg ip) = true := by simpa using h
  simp [tcpConnect, answerTcp, ha, he, ht, hno]

end

section
variable {t : SessTcp} (ht : (s.sess n).tcp = some t)
include ht

/-- A command frame of no meaning is counted (R398). -/
theorem sessionCommand_ignored {cmd : Nat} (h : cmd = 0 ∨ 6 < cmd) :
    sessionCommand n cmd s = s.setSess n { s.sess n with cIgnored := inc (s.sess n).cIgnored } := by
  obtain rfl | ⟨k, rfl⟩ : cmd = 0 ∨ ∃ k, cmd = k + 7 := h.imp_right fun hlt => ⟨cmd - 7, by omega⟩
  · simp only [sessionCommand, ht]
  · simp only [sessionCommand, ht]

theorem tcpSend_segments {len : Nat} (h1 : 1 ≤ len) (hmax : len ≤ 262144) (hbuf : len ≤ (s.sess n).sendBuf.length)
    (hroom : t.unacked.length + len ≤ t.window) :
    tcpSend n len s = queueSegments n ((s.sess n).sendBuf.take len) t.seq (t.cutTo + len) (s.setSess n { s.sess n with
      sendBuf := (s.sess n).sendBuf.drop len
      tcp := some (SessTcp.noteRoom { t with
        seq := t.seq + BitVec.ofNat 32 len, unacked := t.unacked ++ (s.sess n).sendBuf.take len, cutTo := t.cutTo + len } s.now) }) := by
  simp [tcpSend, ht, inRange, h1, hmax, hbuf.not_gt, hroom.not_gt]

theorem tcpSend_closed {len : Nat} (hroom : t.window < t.unacked.length + len) : tcpSend n len s = s := by
  simp [tcpSend, ht, hroom]

theorem resetTcp_connected : resetTcp n s = dropTcp n true (answerTcp n "TCP RST" t.peerIp t.peerPort t.seq 0x14 s s) := by
  simp only [resetTcp, ht]
  rfl

end

end

/-- The time without room ends where the window gives room, and goes on where it gives none (R399). -/
theorem noteRoom_noRoom (t : SessTcp) (now : Ps) : (t.unacked.length < t.window → (t.noteRoom now).noRoom = none)
    ∧ (t.window ≤ t.unacked.length → (t.noteRoom now).noRoom = some (t.noRoom.getD now)) :=
  ⟨fun h => if_pos h, fun h => if_neg h.not_gt⟩

/-! ### The rows -/

section
variable {dt : Ps} {s u : State} {n : Nat}

theorem exec_formatterDone (hu : u = formRead (s.elapse dt)) {r : FormReq} {due : Ps} (hf : u.egress.forming = some (r, due)) :
    exec (.formatterDone dt) s = .next (if due ≤ u.now then formatDone r u else u) := by
  subst hu
  change execFormatterDone dt s = _
  simp only [execFormatterDone, hf]

theorem exec_formatterDone_idle (hu : u = formRead (s.elapse dt)) (hf : u.egress.forming = none) :
    exec (.formatterDone dt) s = .next u := by
  subst hu
  change execFormatterDone dt s = _
  simp only [execFormatterDone, hf]

theorem exec_tcpSend (hu : u = sendBufRead n (s.elapse dt)) {len : Nat} : exec (.tcpSend dt n len) s = .next (tcpSend n len u) := hu ▸ rfl

theorem exec_tcpRetransmit (hu : u = sendBufRead n (s.elapse dt)) {t : SessTcp} (ht : (u.sess n).tcp = some t) (hun : t.unacked ≠ []) :
    exec (.tcpRetransmit dt n) s = .next (queueSegments n t.unacked (t.seq - BitVec.ofNat 32 t.unacked.length) t.cutTo u) := by
  subst hu
  change execTcpRetransmit dt n s = _
  simp only [execTcpRetransmit, ht, List.isEmpty_iff, if_neg hun]

variable (hu : u = s.elapse dt)
include hu

theorem exec_combinedFrameForm {z tick rev : Nat} : exec (.combinedFrameForm dt z tick rev) s = .next (formRequests z tick rev u) := hu ▸ rfl
theorem exec_tcpConnect {ip port mss : Nat} : exec (.tcpConnect dt n ip port mss) s = .next (tcpConnect n ip port mss u) := hu ▸ rfl
theorem exec_sessionCommandFrame {cmd : Nat} : exec (.sessionCommandFrame dt n cmd) s = .next (sessionCommand n cmd u) := hu ▸ rfl

theorem exec_cfgPeriodExpiry_due (hstate : (u.sess n).state = .sending) (hudp : (u.sess n).cfg.transport ≠ .tcp)
    (hon : (u.sess n).cfg.cfgPeriod ≠ 0) (hdue : (u.sess n).cfgSentAt + (u.sess n).cfg.cfgPeriod * 1000000000000 ≤ u.now) :
    exec (.cfgPeriodExpiry dt n) s = .next (sendOwnConfig n u) := by
  subst hu
  refine congrArg _ (if_pos ?_)
  simp only [hstate, bne_iff_ne.2 hudp, bne_iff_ne.2 hon, decide_eq_true hdue, decide_true, Bool.and_self]

theorem exec_tcpWindowTimeout_due {t : SessTcp} {t0 : Ps} (ht : (u.sess n).tcp = some t) (h0 : t.noRoom = some t0)
    (hdue : t0 + 10000000000000 ≤ u.now) : exec (.tcpWindowTimeout dt n) s = .next (resetTcp n u) := by
  subst hu
  change execTcpWindowTimeout dt n s = _
  simp only [execTcpWindowTimeout, ht, h0, if_pos hdue]

end

/-! ### The statement -/

/-- Settles O30: `refreshSession_sess` and its companions say what becomes of a session and of what it was to form; each row is its operation,
whose equation at the branch of its hypotheses is a lemma above. -/
theorem sessionsFollowTheirRules : Obligations.SessionsFollowTheirRules := by
  unfold Obligations.SessionsFollowTheirRules
  refine ⟨⟨refreshSession_sess, fun n u => refreshSession_leaves, fun n u => refreshSession_waits, dropTcp_tcp, sendingOk_iff⟩,
    ?form, ?unassembled, fun u r rest c => formatterTake_next, ?formed, ?forming,
    fun dt s u n hu => exec_cfgPeriodExpiry_due hu, sendConfig_cfgSentAt, ?accept, ?reset,
    ?command, ?send, noteRoom_noRoom, ?noRoom, ?timeout,
    fun dt s u n t hu ht hun => exec_tcpRetransmit hu ht hun⟩
  case form =>
    intro dt s u z tick rev w hu hw hr hf
    rw [exec_combinedFrameForm hu, formRequests_idle hw hr hf]
  case unassembled =>
    intro dt s u z tick rev hu hw
    rw [exec_combinedFrameForm hu, formRequests_unassembled hw]
  case formed =>
    intro dt s u r due hu hf hdue
    rw [exec_formatterDone hu hf, if_pos hdue]
  case forming =>
    intro dt s u hu hearly
    cases hf : u.egress.forming with
    | none => exact exec_formatterDone_idle hu hf
    | some x =>
      obtain ⟨r, due⟩ := x
      rw [exec_formatterDone hu hf, if_neg (hearly r due hf).not_ge]
  case accept =>
    rintro dt s u v n ip port mss i route hu ha he ht hfree hp rfl hd
    obtain ⟨rfl, rfl⟩ := Prod.mk.inj hd
    rw [exec_tcpConnect hu, tcpConnect_accepts ha he ht hfree hp]
    rfl
  case reset =>
    rintro dt s u v n ip port mss i route hu ha he ht h rfl hd
    obtain ⟨rfl, rfl⟩ := Prod.mk.inj hd
    rw [exec_tcpConnect hu, tcpConnect_resets ha he ht h]
    rfl
  case command =>
    rintro dt s u n cmd t big hu ht rfl
    simp only [exec_sessionCommandFrame hu]
    refine ⟨?_, ?_, ?_, ?_, ?_, ?_, fun h => congrArg _ (sessionCommand_ignored ht h)⟩
    all_goals simp only [sessionCommand, ht]
  case send =>
    intro dt s u n len t hu ht h1 hmax hbuf hroom
    rw [exec_tcpSend hu, tcpSend_segments ht h1 hmax hbuf hroom]
  case noRoom =>
    intro dt s u n len t hu ht hroom
    rw [exec_tcpSend hu, tcpSend_closed ht hroom]
  case timeout =>
    intro dt s u n t t0 hu ht h0 hdue
    rw [exec_tcpWindowTimeout_due hu ht h0 hdue, resetTcp_connected ht]
    rfl

end Sys2Proof.Machine
end

section
/-! SUPPORT. What every row of the table keeps: the queue, the clock as its passage of time leaves it, LIFECYCLE and the canonical form of the
window; and the statements on every step and every command (R422, R556 to R558, R568, R583). -/

namespace Sys2Proof.Machine

/-! ### The shapes of a row -/

/-- The row answers a next state that keeps, behind its passage of time, what a transfer keeps. -/
def GoesOn (s : State) (o : Host.Outcome State Fault Refusal) : Prop := ∃ dt t, o = .next t ∧ KeepsForm (s.elapse dt) t

theorem keeps_ite {s₀ t u : State} {c : Prop} [Decidable c] (ht : Keeps s₀ t) (hu : Keeps s₀ u) : Keeps s₀ (if c then t else u) := by
  split
  · exact ht
  · exact hu

theorem event_row {s t : State} {dt : Ps} (h : Keeps (s.elapse dt) t) : GoesOn s (.next t) := ⟨dt, t, rfl, h.form⟩

theorem command_row {d : Cmd} {dt : Ps} {q : Packet} {s : State} (h : d.Keeps) : GoesOn s (command d dt q s) :=
  event_row (runCommand_keeps d q _ h (.refl _))

/-! ### The rows that write the window -/

theorem dmaReadComplete_goesOn (dt : Ps) (c : Nat) (x : ReadDone) (s : State) : GoesOn s (execDmaReadComplete dt c x s) := by
  have hk : KeepsForm (s.elapse dt) (chunkRead (s.elapse dt)) := (chunkRead_keeps _ (.refl _)).form
  refine ⟨dt, _, rfl, ?_⟩
  split
  · exact hk.trans (dmaRead_form c x _)
  · exact hk

theorem dmaListComplete_goesOn (dt : Ps) (c : Nat) (s : State) : GoesOn s (execDmaListComplete dt c s) := by
  refine ⟨dt, _, rfl, ?_⟩
  split
  · exact dmaEnd_form c _
  · exact .refl _

/-! ### The rows that look for what is due -/

theorem stagingDone_goesOn (dt : Ps) (z : Nat) (s : State) : GoesOn s (execStagingDone dt z s) := by
  have hk : Keeps (s.elapse dt) (stagingRead z (s.elapse dt)) := stagingRead_keeps _ _ (.refl _)
  refine event_row (dt := dt) ?_
  split
  · exact keeps_ite (modArea_keeps _ _ _ _ (keeps_mk hk rfl rfl)) hk
  · exact hk

theorem assemblyDone_goesOn (dt : Ps) (s : State) : GoesOn s (execAssemblyDone dt s) := by
  have hk : Keeps (s.elapse dt) (assemblyWrite (s.elapse dt)) := assemblyWrite_keeps _ (.refl _)
  refine event_row (dt := dt) ?_
  split
  · exact keeps_ite (assemblyDone_keeps _ _ hk) hk
  · exact hk

theorem coherencyDone_goesOn (dt : Ps) (s : State) : GoesOn s (execCoherencyDone dt s) := by
  have hk : Keeps (s.elapse dt) (cohRead (s.elapse dt)) := cohRead_keeps _ (.refl _)
  refine event_row (dt := dt) ?_
  split
  · exact keeps_ite (cohDone_keeps _ _ hk) hk
  · exact hk

theorem bandMonitorDone_goesOn (dt : Ps) (s : State) : GoesOn s (execBandMonitorDone dt s) := by
  have hk : Keeps (s.elapse dt) (bandRead (s.elapse dt)) := bandRead_keeps _ (.refl _)
  refine event_row (dt := dt) ?_
  split
  · exact keeps_ite (bandDone_keeps _ _ hk) hk
  · exact hk

theorem alarmTestEnd_goesOn (dt : Ps) (a : Nat) (s : State) : GoesOn s (execAlarmTestEnd dt a s) := by
  refine event_row (dt := dt) ?_
  split
  · exact keeps_ite (testStop_keeps _ _ (.refl _)) (.refl _)
  · exact .refl _

theorem revisionDue_goesOn (dt : Ps) (z tick : Nat) (s : State) : GoesOn s (execRevisionDue dt z tick s) :=
  event_row (dt := dt) (keeps_ite (keeps_mk (.refl _) rfl rfl) (.refl _))

theorem restagingDone_goesOn (dt : Ps) (s : State) : GoesOn s (execRestagingDone dt s) := by
  have hk : Keeps (s.elapse dt) (restagingRead (s.elapse dt)) := restagingRead_keeps _ (.refl _)
  refine event_row (dt := dt) ?_
  split
  · exact keeps_mk hk rfl rfl
  · exact hk

theorem revisionAssemblyStart_goesOn (dt : Ps) (s : State) : GoesOn s (execRevisionAssemblyStart dt s) := by
  refine event_row (dt := dt) ?_
  split
  · exact keeps_ite (keeps_mk (.refl _) rfl rfl) (.refl _)
  · exact .refl _

theorem revisionAssemblyDone_goesOn (dt : Ps) (s : State) : GoesOn s (execRevisionAssemblyDone dt s) := by
  refine event_row (dt := dt) ?_
  split
  · have hz : ∀ z f w, Keeps (s.elapse dt) w → Keeps (s.elapse dt) (zoneCount z f w) := fun _ _ _ => zoneCount_keeps _ _ _
    refine keeps_ite ?_ (.refl _)
    exact keeps_ite (releaseWaits_keeps _ (hz _ _ _ (keeps_mk (.refl _) rfl rfl)))
      (egressAssembled_keeps _ _ (modArea_keeps _ _ _ _ (hz _ _ _ (keeps_mk (.refl _) rfl rfl))))
  · exact .refl _

theorem revisionAbandon_goesOn (dt : Ps) (z tick : Nat) (s : State) : GoesOn s (execRevisionAbandon dt z tick s) := by
  refine event_row (dt := dt) ?_
  split
  · exact keeps_ite (abandonRevision_keeps _ _ _ (.refl _)) (.refl _)
  · exact .refl _

theorem formatterDone_goesOn (dt : Ps) (s : State) : GoesOn s (execFormatterDone dt s) := by
  have hk : Keeps (s.elapse dt) (formRead (s.elapse dt)) := formRead_keeps _ (.refl _)
  refine event_row (dt := dt) ?_
  split
  · exact keeps_ite (formatDone_keeps _ _ hk) hk
  · exact hk

theorem tcpWindowTimeout_goesOn (dt : Ps) (n : Nat) (s : State) : GoesOn s (execTcpWindowTimeout dt n s) := by
  refine event_row (dt := dt) ?_
  split
  · split
    · exact keeps_ite (resetTcp_keeps _ _ (.refl _)) (.refl _)
    · exact .refl _
  · exact .refl _

theorem tcpRetransmit_goesOn (dt : Ps) (n : Nat) (s : State) : GoesOn s (execTcpRetransmit dt n s) := by
  have hk : Keeps (s.elapse dt) (sendBufRead n (s.elapse dt)) := sendBufRead_keeps _ _ (.refl _)
  refine event_row (dt := dt) ?_
  split
  · exact keeps_ite hk (queueSegments_keeps _ _ _ _ _ hk)
  · exact hk

theorem verifyTimeout_goesOn (dt : Ps) (p : Nat) (s : State) : GoesOn s (execVerifyTimeout dt p s) := by
  refine event_row (dt := dt) ?_
  split
  · exact keeps_ite (.refl _) (keeps_ite (verifyStart_keeps _ _ _ (.refl _)) (State.modTx_keeps _ _ _ (.refl _)))
  · exact .refl _

theorem tcpSegmentRx_goesOn (dt : Ps) (conn : TcpConn) (seg : TcpSegment) (s : State) : GoesOn s (execTcpSegmentRx dt conn seg s) := by
  refine event_row (dt := dt) ?_
  cases conn with
  | stream i => exact keeps_ite (streamSegment_keeps _ _ _ (.refl _)) (.refl _)
  | session n => exact sessionSegment_keeps _ _ _ (.refl _)

theorem pcieLinkUp_goesOn (dt : Ps) (x : PcieSettings) (s : State) : GoesOn s (execPcieLinkUp dt x s) := by
  refine event_row (dt := dt) (keeps_ite (keeps_ite (keeps_foldl (fun _ _ h => ?_) ?_) ?_) (.refl _))
  · exact keeps_ite (vecUnmask_keeps _ _ h) h
  all_goals exact keeps_mk (.refl _) rfl rfl

/-! ### Every row -/

/-- Every command but leaving reset, which reads LIFECYCLE from the fuses, keeps what a transfer keeps. -/
theorem exec_goesOn (c : Instr) (s : State) (h : ∀ dt pins a b, c ≠ .leaveReset dt pins a b) : GoesOn s (exec c s) := by
  cases c with
  | getIdentity => exact command_row cmdGetIdentity_keeps
  | sysSetMode => exact command_row cmdSysSetMode_keeps
  | sysReset => exact command_row cmdSysReset_keeps
  | sysCommit => exact command_row cmdSysCommit_keeps
  | sysJournalRead => exact command_row cmdSysJournalRead_keeps
  | sysJournalRoute => exact command_row cmdSysJournalRoute_keeps
  | sysIfReset => exact command_row cmdSysIfReset_keeps
  | sysSetMgmt => exact command_row cmdSysSetMgmt_keeps
  | sysGetCounters => exact command_row cmdSysGetCounters_keeps
  | sysEcho => exact command_row cmdSysEcho_keeps
  | mgmtSettingsApply => exact event_row (keeps_ite (mgmtApply_keeps (hk := .refl _) ..) (.refl _))
  | timeGetStatus => exact command_row cmdTimeGetStatus_keeps
  | timeSetSources => exact command_row cmdTimeSetSources_keeps
  | timeSetServo => exact command_row cmdTimeSetServo_keeps
  | timeSetPort => exact command_row cmdTimeSetPort_keeps
  | timeSetPtp => exact command_row cmdTimeSetPtp_keeps
  | timeSet => exact command_row cmdTimeSet_keeps
  | timeSetUtc => exact command_row cmdTimeSetUtc_keeps
  | evtConfig => exact command_row cmdEvtConfig_keeps
  | evtRead => exact command_row cmdEvtRead_keeps
  | ppsOutConfig => exact command_row cmdPpsOutConfig_keeps
  | timeGetCounters => exact command_row cmdTimeGetCounters_keeps
  | streamAdd => exact command_row cmdStreamAdd_keeps
  | streamRemove => exact command_row cmdStreamRemove_keeps
  | streamRebind => exact command_row cmdStreamRebind_keeps
  | streamLoadConfig => exact command_row cmdStreamLoadConfig_keeps
  | streamGet => exact command_row cmdStreamGet_keeps
  | streamGetCounters => exact command_row cmdStreamGetCounters_keeps
  | streamSendCommand => exact command_row cmdStreamSendCommand_keeps
  | ingressSetPort => exact command_row cmdIngressSetPort_keeps
  | ingressSetRings => exact command_row cmdIngressSetRings_keeps
  | ingressGetCounters => exact command_row cmdIngressGetCounters_keeps
  | ingressSetStreamPorts => exact command_row cmdIngressSetStreamPorts_keeps
  | ingressJoinGroup => exact command_row cmdIngressJoinGroup_keeps
  | zoneConfig => exact command_row cmdZoneConfig_keeps
  | zoneDelete => exact command_row cmdZoneDelete_keeps
  | zoneStart => exact command_row cmdZoneStart_keeps
  | zoneStop => exact command_row cmdZoneStop_keeps
  | zoneAddStream => exact command_row cmdZoneAddStream_keeps
  | zoneRemoveStream => exact command_row cmdZoneRemoveStream_keeps
  | zoneGet => exact command_row cmdZoneGet_keeps
  | zoneGetCounters => exact command_row cmdZoneGetCounters_keeps
  | constRead => exact command_row cmdConstRead_keeps
  | alignGetStatus => exact command_row cmdAlignGetStatus_keeps
  | feSetPreset => exact command_row cmdFeSetPreset_keeps
  | feSetSampling => exact command_row cmdFeSetSampling_keeps
  | feSetCal => exact command_row cmdFeSetCal_keeps
  | feSetRange => exact command_row cmdFeSetRange_keeps
  | feSetDetectors => exact command_row cmdFeSetDetectors_keeps
  | feSetLocalStream => exact command_row cmdFeSetLocalStream_keeps
  | feGetStatus => exact command_row cmdFeGetStatus_keeps
  | feGetDetectors => exact command_row cmdFeGetDetectors_keeps
  | feGetCounters => exact command_row cmdFeGetCounters_keeps
  | feGetLocalConfig => exact command_row cmdFeGetLocalConfig_keeps
  | energySetLine => exact command_row cmdEnergySetLine_keeps
  | energySetInterval => exact command_row cmdEnergySetInterval_keeps
  | energySetReserve => exact command_row cmdEnergySetReserve_keeps
  | energyRead => exact command_row cmdEnergyRead_keeps
  | energyReadReserve => exact command_row cmdEnergyReadReserve_keeps
  | energyReadSnapshot => exact command_row cmdEnergyReadSnapshot_keeps
  | energyGetStatus => exact command_row cmdEnergyGetStatus_keeps
  | energyReadEvents => exact command_row cmdEnergyReadEvents_keeps
  | energyClear => exact command_row cmdEnergyClear_keeps
  | cohSetVertices => exact command_row cmdCohSetVertices_keeps
  | cohSetEdges => exact command_row cmdCohSetEdges_keeps
  | cohSetZone => exact command_row cmdCohSetZone_keeps
  | cohGetResult => exact command_row cmdCohGetResult_keeps
  | oscSetBands => exact command_row cmdOscSetBands_keeps
  | oscSetSignals => exact command_row cmdOscSetSignals_keeps
  | oscSetThresholds => exact command_row cmdOscSetThresholds_keeps
  | oscGetSignal => exact command_row cmdOscGetSignal_keeps
  | alarmSet => exact command_row cmdAlarmSet_keeps
  | alarmSetDest => exact command_row cmdAlarmSetDest_keeps
  | alarmGetStatus => exact command_row cmdAlarmGetStatus_keeps
  | alarmAck => exact command_row cmdAlarmAck_keeps
  | alarmTest => exact command_row cmdAlarmTest_keeps
  | detectGetCounters => exact command_row cmdDetectGetCounters_keeps
  | kernelGetCatalogue => exact command_row cmdKernelGetCatalogue_keeps
  | kernelSetParams => exact command_row cmdKernelSetParams_keeps
  | kernelSetFlow => exact command_row cmdKernelSetFlow_keeps
  | kernelGetFlow => exact command_row cmdKernelGetFlow_keeps
  | kernelReadResult => exact command_row cmdKernelReadResult_keeps
  | kernelGetStatus => exact command_row cmdKernelGetStatus_keeps
  | kernelGetCounters => exact command_row cmdKernelGetCounters_keeps
  | egressSetSession => exact command_row cmdEgressSetSession_keeps
  | egressSetPort => exact command_row cmdEgressSetPort_keeps
  | egressGetSession => exact command_row cmdEgressGetSession_keeps
  | egressGetConfig => exact command_row cmdEgressGetConfig_keeps
  | egressGetCounters => exact command_row cmdEgressGetCounters_keeps
  | egressSendCfg => exact command_row cmdEgressSendCfg_keeps
  | pairSet => exact command_row cmdPairSet_keeps
  | pairGetStatus => exact command_row cmdPairGetStatus_keeps
  | pairSetRevert => exact command_row cmdPairSetRevert_keeps
  | pairSwitchover => exact command_row cmdPairSwitchover_keeps
  | fedSet => exact command_row cmdFedSet_keeps
  | fedGetStatus => exact command_row cmdFedGetStatus_keeps
  | pairGetCounters => exact command_row cmdPairGetCounters_keeps
  | integGetStatus => exact command_row cmdIntegGetStatus_keeps
  | integReadLog => exact command_row cmdIntegReadLog_keeps
  | integSetPolicy => exact command_row cmdIntegSetPolicy_keeps
  | integInject => exact command_row cmdIntegInject_keeps
  | integLeaveSafe => exact command_row cmdIntegLeaveSafe_keeps
  | diagGetMonitors => exact command_row cmdDiagGetMonitors_keeps
  | integGetCounters => exact command_row cmdIntegGetCounters_keeps
  | secGetLifecycle => exact command_row cmdSecGetLifecycle_keeps
  | secSetLifecycle => exact command_row cmdSecSetLifecycle_keeps
  | secSetOwnerRoot => exact command_row cmdSecSetOwnerRoot_keeps
  | secSetMka => exact command_row cmdSecSetMka_keeps
  | secGetMkaStatus => exact command_row cmdSecGetMkaStatus_keeps
  | updBegin => exact command_row cmdUpdBegin_keeps
  | updWrite => exact command_row cmdUpdWrite_keeps
  | updEnd => exact command_row cmdUpdEnd_keeps
  | updGetStatus => exact command_row cmdUpdGetStatus_keeps
  | updConfirm => exact command_row cmdUpdConfirm_keeps
  | updAbort => exact command_row cmdUpdAbort_keeps
  | commandPacketArrival => exact event_row (arrive_keeps (hk := .refl _) ..)
  | commandExecute => exact event_row (commandExecute_keeps (hk := .refl _) ..)
  | cmdDoorbell => exact event_row (keeps_ite (ringTail_keeps (hk := .refl _) ..) (.refl _))
  | cmdEnable => exact event_row (keeps_ite (ringCtrl_keeps (hk := .refl _) ..) (.refl _))
  | cmdDisable => exact event_row (keeps_ite (ringCtrl_keeps (hk := .refl _) ..) (.refl _))
  | cmdIfReset => exact event_row (keeps_ite (ringCtrl_keeps (hk := .refl _) ..) (.refl _))
  | cmdDescriptorFetch => exact event_row (ringFetch_keeps (hk := .refl _) ..)
  | cmdCompletionWrite => exact event_row (ringComplete_keeps (hk := .refl _) ..)
  | mgmtCommandDatagram => exact event_row (mgmtDatagram_keeps (hk := .refl _) ..)
  | bastikData => exact event_row (bastikDataFrame_keeps (hk := .refl _) ..)
  | bastikPoll => exact event_row (bastikPollFrame_keeps (hk := .refl _) ..)
  | bastikResync => exact event_row (keeps_ite (.refl _) (keeps_ite (svcAck_keeps (hk := framingLoss_keeps (hk := .refl _) ..) ..) (svcNak_keeps (hk := .refl _) ..)))
  | bastikImage => exact event_row (bastikImage_keeps (hk := .refl _) ..)
  | bastikFramingLoss => exact event_row (keeps_ite (framingLoss_keeps (hk := .refl _) ..) (.refl _))
  | registerWrite => exact event_row (bar0Write_keeps (hk := .refl _) ..)
  | readClearRegister => exact event_row (bar0Read_keeps (hk := .refl _) ..)
  | tsNsRead => exact event_row (bar0Read_keeps (hk := .refl _) ..)
  | intSet => exact event_row (keeps_ite (intSetWrite_keeps (hk := .refl _) ..) (.refl _))
  | intCauseClear => exact event_row (keeps_ite (intCauseWrite_keeps (hk := .refl _) ..) (.refl _))
  | intMaskWrite => exact event_row (keeps_ite (intMaskWrite_keeps (hk := .refl _) ..) (.refl _))
  | msixModerationExpiry => exact event_row (moderationEnd_keeps (hk := .refl _) ..)
  | dmaStart => exact event_row (keeps_ite (State.setCh_keeps (hk := .refl _) ..) (.refl _))
  | dmaAbort => exact event_row (keeps_ite (State.setCh_keeps (hk := .refl _) ..) (.refl _))
  | dmaClear => exact event_row (keeps_ite (State.setCh_keeps (hk := .refl _) ..) (.refl _))
  | dmaDescriptorFetch => exact event_row (keeps_ite (dmaFetch_keeps (hk := .refl _) ..) (.refl _))
  | dmaReadComplete => exact dmaReadComplete_goesOn ..
  | dmaListComplete => exact dmaListComplete_goesOn ..
  | rqEnable => exact event_row (keeps_ite (State.putRq_keeps (hk := .refl _) ..) (.refl _))
  | rqDisable => exact event_row (keeps_ite (State.putRq_keeps (hk := .refl _) ..) (.refl _))
  | rqFlush => exact event_row (keeps_ite (State.putRq_keeps (hk := .refl _) ..) (.refl _))
  | rqWordWrite => exact event_row (State.emit_keeps (hk := rqWriteWord_keeps (hk := packRead_keeps (hk := .refl _) ..) ..) ..)
  | rqIdleTimeout => exact event_row (keeps_ite (State.putRq_keeps (hk := (packRead_keeps (hk := .refl _) ..)) ..) (packRead_keeps (hk := .refl _) ..))
  | rqLineDeliver => exact event_row (rqDeliver_keeps (hk := lineRead_keeps (hk := .refl _) ..) ..)
  | endpointReset => exact event_row (keeps_ite (bar0Reset_keeps (hk := pcieDown_keeps (hk := .refl _) ..) ..) (.refl _))
  | pcieLinkDown => exact event_row (keeps_ite (keeps_mk (pcieDown_keeps (hk := .refl _) ..) rfl rfl) (.refl _))
  | mainRailsGood => exact event_row (mainRailsGood_keeps (hk := .refl _) ..)
  | resetNAssert => exact event_row (resetNAssert_keeps (hk := .refl _) ..)
  | resetNRelease => exact event_row (keeps_mk (.refl _) rfl rfl)
  | leaveReset dt pins a b => exact absurd rfl (h dt pins a b)
  | bootEnd => exact event_row (bootEnd_keeps (hk := .refl _) ..)
  | warmReset => exact event_row (keeps_ite (resetEdge_keeps (hk := .refl _) ..) (.refl _))
  | wdogExpiry => exact event_row (keeps_ite (resetEdge_keeps (hk := .refl _) ..) (.refl _))
  | mainSupplyLoss => exact event_row (mainSupplyLoss_keeps (hk := .refl _) ..)
  | reserveHandoffDone => exact event_row (handoffDone_keeps (hk := .refl _) ..)
  | reserveUnavailable => exact event_row (keeps_ite (keeps_mk (.refl _) rfl rfl) (.refl _))
  | dormantWake => exact event_row (dormantWake_keeps (hk := .refl _) ..)
  | lockout => exact event_row (keeps_ite (lockout_keeps (hk := .refl _) ..) (keeps_ite (lockoutOverWdog_keeps (hk := .refl _) ..) (.refl _)))
  | clockFault => exact event_row (keeps_ite (clockFault_keeps (hk := .refl _) ..) (.refl _))
  | tempSample => exact event_row (keeps_ite (.refl _) (keeps_ite (tempSample_keeps (hk := .refl _) ..) (keeps_ite (keeps_mk (.refl _) rfl rfl) (.refl _))))
  | thermalShutdown => exact event_row (keeps_ite (wipe_keeps (hk := .refl _) ..) (.refl _))
  | thermalShutdownEnd => exact event_row (keeps_ite (resetEdge_keeps (hk := .refl _) ..) (.refl _))
  | engineLockstepMismatch => exact event_row (keeps_ite (lockstepMismatch_keeps (hk := .refl _) ..) (.refl _))
  | engineSelftestDone => exact event_row (keeps_ite (selftestDone_keeps (hk := .refl _) ..) (.refl _))
  | almReadback => exact event_row (keeps_ite (almReadback_keeps (hk := .refl _) ..) (.refl _))
  | sramScrubRead => exact event_row (keeps_ite (sramScrub_keeps (hk := .refl _) ..) (.refl _))
  | reserveScrub => exact event_row (keeps_ite (.refl _) (reserveScrub_keeps (hk := .refl _) ..))
  | patrolRead => exact event_row (keeps_ite (patrolRead_keeps (hk := .refl _) ..) (.refl _))
  | dramWriteback => exact event_row (dramWriteback_keeps (hk := .refl _) ..)
  | autoLeaveSafe => exact event_row (autoLeave_keeps (hk := .refl _) ..)
  | close => exact event_row (keeps_ite (fireClose_keeps (hk := closeRead_keeps (hk := .refl _) ..) ..) (closeRead_keeps (hk := .refl _) ..))
  | stagingStart => exact event_row (keeps_ite (stageTick_keeps (hk := stagingWrite_keeps (hk := .refl _) ..) ..) (.refl _))
  | stagingDone => exact stagingDone_goesOn ..
  | assemblyDone => exact assemblyDone_goesOn ..
  | coherencyDone => exact coherencyDone_goesOn ..
  | bandMonitorDone => exact bandMonitorDone_goesOn ..
  | almPinUpdate => exact event_row (pinUpdate_keeps (hk := .refl _) ..)
  | alarmRepeat => exact event_row (almRepeat_keeps (hk := .refl _) ..)
  | alarmTestEnd => exact alarmTestEnd_goesOn ..
  | budgetDeadline => exact event_row (deadlinesDue_keeps (hk := .refl _) ..)
  | alignerInsertion => exact event_row (insertNext_keeps (hk := insertionRead_keeps (hk := .refl _) ..) ..)
  | revisionDue => exact revisionDue_goesOn ..
  | restagingDone => exact restagingDone_goesOn ..
  | revisionAssemblyStart => exact revisionAssemblyStart_goesOn ..
  | revisionAssemblyDone => exact revisionAssemblyDone_goesOn ..
  | revisionAbandon => exact revisionAbandon_goesOn ..
  | storeAreaExpiry => exact event_row (storeExpiry_keeps (hk := .refl _) ..)
  | wanFrameRx => exact event_row (wanFrameRx_keeps (hk := .refl _) ..)
  | mgmtFrameRx => exact event_row (mgmtFrameRx_keeps (hk := .refl _) ..)
  | parserInput => exact event_row (parserInput_keeps (hk := .refl _) ..)
  | streamFrameBind => exact event_row (bindChecked_keeps (hk := .refl _) ..)
  | fragmentTimeout => exact event_row (fragmentTimeout_keeps (hk := .refl _) ..)
  | rxDescriptorWriteback => exact event_row (ringStep_keeps (hk := .refl _) ..)
  | configCheckDone => exact event_row (checkDone_keeps (hk := .refl _) ..)
  | streamSilent => exact event_row (goSilent_keeps (hk := .refl _) ..)
  | quarantineEnd => exact event_row (quarantineEnd_keeps (hk := .refl _) ..)
  | cfgRequestRepeat => exact event_row (cfgRepeat_keeps (hk := .refl _) ..)
  | tcpReconnect => exact event_row (tcpReconnect_keeps (hk := .refl _) ..)
  | tcpFrameDeliver => exact event_row (tcpDeliver_keeps (hk := .refl _) ..)
  | tcpFrameTimeout => exact event_row (tcpTimeout_keeps (hk := .refl _) ..)
  | supervisorFrame => exact event_row (keeps_ite (supervisorFrame_keeps (hk := .refl _) ..) (.refl _))
  | mkpduRx => exact event_row (keeps_ite (mkpduRx_keeps (hk := .refl _) ..) (.refl _))
  | mkaHello => exact event_row (keeps_ite (mkaHello_keeps (hk := .refl _) ..) (.refl _))
  | mkaLifeTimeExpiry => exact event_row (keeps_ite (State.setMka_keeps (hk := .refl _) ..) (.refl _))
  | sakInstall => exact event_row (keeps_ite (sakInstall_keeps (hk := .refl _) ..) (.refl _))
  | ptpSync => exact event_row (ptpSync_keeps (hk := .refl _) ..)
  | ptpFollowUp => exact event_row (ptpFollowUp_keeps (hk := .refl _) ..)
  | ptpAnnounce => exact event_row (ptpAnnounce_keeps (hk := .refl _) ..)
  | ptpPeerDelay => exact event_row (ptpPeerDelay_keeps (hk := .refl _) ..)
  | ppsInEdge => exact event_row (ppsInEdge_keeps (hk := .refl _) ..)
  | irigFrame => exact event_row (irigFrame_keeps (hk := .refl _) ..)
  | ref10Gate => exact event_row (ref10Gate_keeps (hk := .refl _) ..)
  | sourceLost => exact event_row (sourceLost_keeps (hk := .refl _) ..)
  | leapSecond => exact event_row (leapSecond_keeps (hk := .refl _) ..)
  | leapOccurredExpiry => exact event_row (leapExpire_keeps (hk := .refl _) ..)
  | reserveIncrementUpdate => exact event_row (reserveIncrement_keeps (hk := .refl _) ..)
  | eventCapture => exact event_row (eventCapture_keeps (hk := .refl _) ..)
  | ppsOutPulse => exact event_row (ppsOutPulse_keeps (hk := .refl _) ..)
  | ppsOutEnd => exact event_row (ppsOutFall_keeps (hk := .refl _) ..)
  | launchDecision => exact event_row (launchDecide_keeps (hk := .refl _) ..)
  | chainRestart => exact event_row (chainRestart_keeps (hk := .refl _) ..)
  | chainValid => exact event_row (chainValid_keeps (hk := .refl _) ..)
  | modulatorLoss => exact event_row (modulatorLoss_keeps (hk := .refl _) ..)
  | modulatorResuming => exact event_row (modulatorResuming_keeps (hk := .refl _) ..)
  | resumeWindowEnd => exact event_row (resumeWindow_keeps (hk := .refl _) ..)
  | feOutputSample => exact event_row (outputSample_keeps (hk := sampleRead_keeps (hk := .refl _) ..) ..)
  | zcLoss => exact event_row (zcLoss_keeps (hk := .refl _) ..)
  | localPhasorRecord => exact event_row (localPhasorRecord_keeps (hk := .refl _) ..)
  | tapSample => exact event_row (tapSample_keeps (hk := .refl _) ..)
  | unmeteredFlowQualified => exact event_row (flowQualified_keeps (hk := .refl _) ..)
  | energySnapshot => exact event_row (snapshotAt_keeps (hk := .refl _) ..)
  | energyMirrorSend => exact event_row (keeps_ite (sendEnergyMirror_keeps (hk := .refl _) ..) (.refl _))
  | energyMirrorApply => exact event_row (energyItem_keeps (hk := .refl _) ..)
  | itemDispatch => exact event_row (dispatch_keeps (hk := dispatchRead_keeps (hk := deadlinesCome_keeps (hk := .refl _) ..) ..) ..)
  | itemArrival => exact event_row (itemArrival_keeps (hk := arrivalRead_keeps (hk := .refl _) ..) ..)
  | engineRelease => exact event_row (engineRelease_keeps (hk := releaseRead_keeps (hk := .refl _) ..) ..)
  | releaseFenceDone => exact event_row (fenceDone_keeps (hk := robRead_keeps (hk := deadlinesCome_keeps (hk := .refl _) ..) ..) ..)
  | itemPosted => exact event_row (postItem_keeps (hk := robRead_keeps (hk := deadlinesCome_keeps (hk := .refl _) ..) ..) ..)
  | combinedFrameForm => exact event_row (formRequests_keeps (hk := .refl _) ..)
  | formatterDone => exact formatterDone_goesOn ..
  | cfgPeriodExpiry => exact event_row (keeps_ite (sendOwnConfig_keeps (hk := .refl _) ..) (.refl _))
  | macTxStart => exact event_row (keeps_ite (expressStart_keeps (hk := txStartRead_keeps (hk := .refl _) ..) ..) (preemptStart_keeps (hk := txStartRead_keeps (hk := .refl _) ..) ..))
  | macTxDone => exact event_row (macDone_keeps (hk := txDoneRead_keeps (hk := .refl _) ..) ..)
  | tcpSend => exact event_row (tcpSend_keeps (hk := sendBufRead_keeps (hk := .refl _) ..) ..)
  | tcpConnect => exact event_row (tcpConnect_keeps (hk := .refl _) ..)
  | sessionCommandFrame => exact event_row (sessionCommand_keeps (hk := .refl _) ..)
  | tcpWindowTimeout => exact tcpWindowTimeout_goesOn ..
  | tcpRetransmit => exact tcpRetransmit_goesOn ..
  | pauseRx => exact event_row (pauseRx_keeps (hk := .refl _) ..)
  | pauseEnd => exact event_row (State.modTx_keeps (hk := .refl _) ..)
  | wanLinkChange => exact event_row (keeps_ite (wanLink_keeps (hk := .refl _) ..) (.refl _))
  | verifyTimeout => exact verifyTimeout_goesOn ..
  | mgmtLinkChange => exact event_row (keeps_ite (.refl _) (keeps_ite (ifReset_keeps (hk := keeps_mk (.refl _) rfl rfl) ..) (keeps_mk (.refl _) rfl rfl)))
  | peerLinkTraining => exact event_row (linkTraining_keeps (hk := .refl _) ..)
  | peerLinkDown => exact event_row (keeps_ite (.refl _) (loseLink_keeps (hk := .refl _) ..))
  | hello => exact event_row (helloRx_keeps (hk := .refl _) ..)
  | helloRepeat => exact event_row (helloRepeat_keeps (hk := .refl _) ..)
  | heartbeat => exact event_row (heartbeatRx_keeps (hk := .refl _) ..)
  | heartbeatSend => exact event_row (keeps_ite (sendHeartbeat_keeps (hk := .refl _) ..) (.refl _))
  | record => exact event_row (keeps_ite (recordRx_keeps (hk := .refl _) ..) (.refl _))
  | gen => exact event_row (genRx_keeps (hk := .refl _) ..)
  | genRepeat => exact event_row (genRepeat_keeps (hk := .refl _) ..)
  | takeover => exact event_row (keeps_ite (takeoverRx_keeps (hk := .refl _) ..) (.refl _))
  | ack => exact event_row (ackRx_keeps (hk := .refl _) ..)
  | ackSend => exact event_row (ackSend_keeps (hk := .refl _) ..)
  | peerResend => exact event_row (peerResend_keeps (hk := .refl _) ..)
  | mirror => exact event_row (mirrorRx_keeps (hk := .refl _) ..)
  | control => exact event_row (keeps_ite (controlRx_keeps (hk := .refl _) ..) (.refl _))
  | handoverRequest => exact event_row (requestRx_keeps (hk := .refl _) ..)
  | handoverGrant => exact event_row (grantRx_keeps (hk := .refl _) ..)
  | handoverRefuse => exact event_row (keeps_ite (refuseRx_keeps (hk := .refl _) ..) (.refl _))
  | listenWindowEnd => exact event_row (keeps_ite (changeMode_keeps (hk := setPair_keeps (hk := .refl _) ..) ..) (.refl _))
  | partnerLoss => exact event_row (keeps_ite (declareLoss_keeps (hk := .refl _) ..) (.refl _))
  | takeoverComplete => exact event_row (takeoverComplete_keeps (hk := .refl _) ..)
  | holdTimerExpiry => exact event_row (holdExpiry_keeps (hk := .refl _) ..)
  | handoverEdge => exact event_row (handoverEdgeAct_keeps (hk := .refl _) ..)
  | handoverBreak => exact event_row (handoverBreak_keeps (hk := .refl _) ..)
  | updateCopyDone => exact event_row (keeps_ite (updateCopyDone_keeps (hk := .refl _) ..) (.refl _))
  | trialWindowEnd => exact event_row (keeps_ite (trialWindowEnd_keeps (hk := .refl _) ..) (.refl _))
  | pcieLinkUp => exact pcieLinkUp_goesOn ..
  | commandComplete => exact event_row (keeps_ite (commandComplete_keeps (hk := .refl _) ..) (.refl _))
  | stagedAreaRelease => exact event_row (releasesDue_keeps (hk := .refl _) ..)
  | heartbeatMissed => exact event_row (heartbeatMissed_keeps (hk := .refl _) ..)
  | watchdogService => exact event_row (keeps_ite (keeps_mk (.refl _) rfl rfl) (.refl _))
  | vresLoss => exact event_row (keeps_ite (unpower_keeps (hk := .refl _) ..) (.refl _))
  | tcpSegmentRx => exact tcpSegmentRx_goesOn ..
  | msixVectorUnmask => exact event_row (keeps_ite (vecUnmask_keeps (hk := .refl _) ..) (.refl _))
  | verifyResponse => exact event_row (keeps_ite (State.modTx_keeps (hk := .refl _) ..) (.refl _))
/-- Leaving reset, too, keeps the queue, the clock and the form of the window. -/
theorem exec_next (c : Instr) (s : State) :
    ∃ t, exec c s = .next t ∧ t.pending = s.pending ∧ s.now ≤ t.now ∧ (memWf s.dma.window = true → memWf t.dma.window = true) := by
  have ewf (dt : Ps) (w : memWf s.dma.window = true) : memWf (s.elapse dt).dma.window = true := by
    obtain e | e := s.elapse_window dt <;> simp [e, w]
  by_cases hc : ∃ dt pins a b, c = .leaveReset dt pins a b
  · obtain ⟨dt, pins, a, b, rfl⟩ := hc
    obtain ⟨hp, hn, hw⟩ := leaveReset_facts pins a b (s.elapse dt)
    refine ⟨_, rfl, by simp [hp], by simp [hn], fun w => ?_⟩
    obtain e | e := hw
    · rw [e]
      exact ewf dt w
    · rw [e]
      rfl
  · obtain ⟨dt, t, ht, k⟩ := exec_goesOn c s fun dt pins a b e => hc ⟨dt, pins, a, b, e⟩
    exact ⟨t, ht, by simp [k.pending], by simp [k.now], fun w => k.form (ewf dt w)⟩

/-! ### The statements -/

/-- Settles O58: an idle step changes nothing, and `exec_next` has the command in front on the state with the rest of the queue. -/
theorem everyStepKeepsTheWindow : Obligations.EveryStepKeepsTheWindow := by
  unfold Obligations.EveryStepKeepsTheWindow
  intro s t hs ht
  unfold step at ht
  split at ht
  · rename_i c rest _
    obtain ⟨t', ht', -, -, hw⟩ := exec_next c { s with pending := rest }
    obtain rfl : t' = t := Host.Outcome.next.inj (ht'.symm.trans ht)
    exact hw hs
  · obtain rfl : s = t := Host.Outcome.next.inj ht
    exact hs

/-- Settles O60: `exec_next` for every command, and `exec_goesOn` for LIFECYCLE. -/
theorem everyCommandKeepsQueueClockAndLifecycle : Obligations.EveryCommandKeepsQueueClockAndLifecycle := by
  unfold Obligations.EveryCommandKeepsQueueClockAndLifecycle
  refine ⟨fun c s => ?_, fun c s t hc ht => ?_⟩
  · obtain ⟨t, ht, hp, hn, -⟩ := exec_next c s
    exact ⟨t, ht, hp, hn⟩
  · obtain ⟨dt, t', ht', k⟩ := exec_goesOn c s hc
    obtain rfl : t' = t := Host.Outcome.next.inj (ht'.symm.trans ht)
    rw [k.lifecycle, State.elapse_lifecycle]

end Sys2Proof.Machine
end

section
/-! SUPPORT. Interrupt causes, masks, vectors and moderation, and the statement on them (R459, R460). -/

namespace Sys2Proof.Machine

/-! ### An event of a vector -/

theorem vecEvent_eq (v : Nat) (s : State) : ∃ o m, vecEvent v s = { s with outputs := o, host := { s.host with msix := m } } := by
  unfold vecEvent
  extract_lets
  split
  · exact ⟨_, _, rfl⟩
  · split
    · split <;> exact ⟨_, _, rfl⟩
    · exact ⟨_, _, rfl⟩

@[simp] theorem vecEvent_cause (v : Nat) (s : State) : (vecEvent v s).host.cause = s.host.cause := by
  obtain ⟨o, m, h⟩ := vecEvent_eq v s
  rw [h]

@[simp] theorem vecEvent_mask (v : Nat) (s : State) : (vecEvent v s).host.mask = s.host.mask := by
  obtain ⟨o, m, h⟩ := vecEvent_eq v s
  rw [h]

theorem vecEvent_masked {s : State} {v : Nat} (hm : (s.vec v).masked = true) : vecEvent v s = s.setVec v { s.vec v with pending := true } :=
  if_pos (Bool.or_eq_true .. ▸ .inl hm)

section

variable {s : State} {v : Nat} (hm : (s.vec v).masked = false) (hp : s.host.pcieUp = true) (hb : s.host.busMaster = true)
include hm hp hb

theorem vecEvent_unmasked : vecEvent v s = match (s.vec v).lastMsg with
    | some t => if s.now < t + s.host.gapUs.toNat * 1000000 then s.setVec v { s.vec v with held := true }
      else (s.setVec v { s.vec v with lastMsg := some s.now }).emit (.msix v)
    | none => (s.setVec v { s.vec v with lastMsg := some s.now }).emit (.msix v) :=
  if_neg (show ¬((s.vec v).masked || !(s.host.pcieUp && s.host.busMaster)) = true by simp [hm, hp, hb])

/-- The message goes out at once where none has gone before. -/
theorem vecEvent_first (hl : (s.vec v).lastMsg = none) : vecEvent v s = (s.setVec v { s.vec v with lastMsg := some s.now }).emit (.msix v) := by
  rw [vecEvent_unmasked hm hp hb, hl]

/-- Within the gap of moderation it is held (R460). -/
theorem vecEvent_withinGap {t : Ps} (hl : (s.vec v).lastMsg = some t) (hg : s.now < t + s.host.gapUs.toNat * 1000000) :
    vecEvent v s = s.setVec v { s.vec v with held := true } := by
  simp only [vecEvent_unmasked hm hp hb, hl, if_pos hg]

end

/-! ### Causes -/

@[simp] theorem raiseCause_cause (n : Nat) (s : State) : (raiseCause n s).host.cause = s.host.cause ||| (1#64 <<< n) := by
  unfold raiseCause
  extract_lets was s'
  split
  · exact vecEvent_cause _ _
  · rfl

theorem raiseCause_quiet {s : State} {n : Nat} (h : s.host.cause.getLsbD n = true ∨ s.host.mask.getLsbD n = true) :
    raiseCause n s = { s with host := { s.host with cause := s.host.cause ||| (1#64 <<< n) } } := by
  refine if_neg fun hc => ?_
  simp only [Bool.and_eq_true, Bool.not_eq_true'] at hc
  obtain h | h := h <;> simp [h] at hc

theorem getLsbD_oneBit {m n : Nat} (hn : n < 64) : (1#64 <<< m).getLsbD n = decide (m = n) := by
  by_cases h : n < m
  · simp [h]
    omega
  · by_cases e : m = n
    · subst e
      simp [hn]
    · have hne : n - m ≠ 0 := by omega
      simp [h, e, hne]

theorem getLsbD_cleared (m f : BitVec 64) {n : Nat} (hn : n < 64) : (m &&& ~~~f).getLsbD n = (m.getLsbD n && !f.getLsbD n) := by
  rw [BitVec.getLsbD_and, BitVec.getLsbD_not, decide_eq_true hn, Bool.true_and]

theorem raiseCauses_cause (new : BitVec 64) (l : List Nat) (s : State) {n : Nat} (hn : n < 64) :
    (l.foldl (fun s n => if new.getLsbD n then raiseCause n s else s) s).host.cause.getLsbD n =
      (s.host.cause.getLsbD n || (decide (n ∈ l) && new.getLsbD n)) := by
  induction l generalizing s with
  | nil => simp
  | cons m l ih =>
    rw [List.foldl_cons, ih]
    by_cases hb : new.getLsbD m = true
    · rw [if_pos hb, raiseCause_cause, BitVec.getLsbD_or, getLsbD_oneBit hn]
      by_cases e : m = n
      · subst e
        simp [hb]
      · simp [e, Ne.symm e]
    · rw [if_neg hb]
      by_cases e : m = n
      · subst e
        simp [hb]
      · simp [Ne.symm e]

theorem raiseAll_cause (new : BitVec 64) (s : State) {n : Nat} (hn : n < 60) :
    (raiseAll new s).host.cause.getLsbD n = (s.host.cause.getLsbD n || new.getLsbD n) := by
  rw [raiseAll, raiseCauses_cause _ _ _ (by omega)]
  simp [hn]

/-- The causes from 60 on have no bit to raise. -/
theorem raiseAll_cause_above (new : BitVec 64) (s : State) {n : Nat} (hn : 60 ≤ n) :
    (raiseAll new s).host.cause.getLsbD n = s.host.cause.getLsbD n := by
  by_cases h : n < 64
  · rw [raiseAll, raiseCauses_cause _ _ _ h]
    simp [hn]
  · rw [BitVec.getLsbD_of_ge _ _ (by omega), BitVec.getLsbD_of_ge _ _ (by omega)]

/-! ### The two words of a register of 60 causes -/

theorem causeBits_low (v : Word32) (n : Nat) : (causeBits 0 v).getLsbD n = v.getLsbD n := by
  by_cases h : n < 64
  · simp [causeBits, h]
  · simp [causeBits, h, BitVec.getLsbD_of_ge _ _ (show 32 ≤ n by omega)]

theorem causeBits_high_below (v : Word32) {n : Nat} (hn : n < 32) : (causeBits 1 v).getLsbD n = false := by
  simp [causeBits, hn]

theorem causeBits_high (v : Word32) {n : Nat} (hn : n < 28) : (causeBits 1 v).getLsbD (32 + n) = v.getLsbD n := by
  have hmask : 0x0FFFFFFF#32 = (BitVec.allOnes 28).setWidth 32 := by decide
  have hword : causeBits 1 v = (v &&& 0x0FFFFFFF#32).setWidth 64 <<< 32 := rfl
  rw [hword, hmask, BitVec.getLsbD_shiftLeft, Nat.add_sub_cancel_left, BitVec.getLsbD_setWidth, BitVec.getLsbD_and, BitVec.getLsbD_setWidth,
    BitVec.getLsbD_allOnes, decide_eq_true hn, decide_eq_true (show 32 + n < 64 by omega), decide_eq_true (show n < 64 by omega),
    decide_eq_true (show n < 32 by omega), decide_eq_false (show ¬ 32 + n < 32 by omega)]
  simp

/-- The field of the mask that a word of it replaces. -/
theorem maskField_eq : (0xFFFFFFFF#64 = causeBits 0 (BitVec.allOnes 32)) ∧ (0x0FFFFFFF00000000#64 = causeBits 1 (BitVec.allOnes 32)) := by decide

theorem intMaskWrite_host (idx : Nat) (v : Word32) (s : State) : (intMaskWrite idx v s).host.cause = s.host.cause
    ∧ (intMaskWrite idx v s).host.mask =
      s.host.mask &&& ~~~(if idx = 0 then 0xFFFFFFFF#64 else if idx = 1 then 0x0FFFFFFF00000000#64 else 0) ||| causeBits idx v := by
  unfold intMaskWrite
  extract_lets field mask freed
  have h := foldl_keeps_read (fun s : State => (s.host.cause, s.host.mask))
    (g := fun s n => if freed.getLsbD n then vecEvent (vget 0 s.host.map n).toNat s else s)
    (fun s n => by split <;> simp only [vecEvent_cause, vecEvent_mask]) (List.range 60) { s with host := { s.host with mask } }
  exact ⟨congrArg Prod.fst h, congrArg Prod.snd h⟩

/-! ### Moderation -/

/-- What the gap's end leaves where no message waits. -/
theorem moderationEnd_idle {s : State} {v : Nat} (hh : (s.vec v).held = false) : moderationEnd v s = s := by
  rw [moderationEnd, if_pos (by simp [hh])]

section

variable {s : State} {v : Nat} {t : Ps} (hh : (s.vec v).held = true) (hl : (s.vec v).lastMsg = some t)
  (hd : t + s.host.gapUs.toNat * 1000000 ≤ s.now)
include hh hl hd

theorem moderationEnd_sends (hm : (s.vec v).masked = false) (hp : s.host.pcieUp = true) (hb : s.host.busMaster = true) :
    moderationEnd v s = (s.setVec v { s.vec v with held := false, lastMsg := some s.now }).emit (.msix v) := by
  simp [moderationEnd, hh, hl, hd, hm, hp, hb]

theorem moderationEnd_pends (h : (s.vec v).masked = true ∨ s.host.pcieUp = false ∨ s.host.busMaster = false) :
    moderationEnd v s = s.setVec v { s.vec v with held := false, pending := true } := by
  have hc : ((s.vec v).masked || !(s.host.pcieUp && s.host.busMaster)) = true := by
    obtain h | h | h := h <;> simp [h]
  simp only [moderationEnd, hh, hl, hd, hc, decide_true, Bool.not_true, Bool.or_false, Bool.false_eq_true, if_false, if_true]

end

/-! ### The rows -/

section

variable {dt : Ps} {s u : State} (hu : u = s.elapse dt)
include hu

theorem exec_intCauseClear {i : Nat} {v again : Word32} (hr : u.bar0Runs = true) :
    exec (.intCauseClear dt i v again) s = .next (intCauseWrite i v again u) := by
  subst hu
  exact congrArg _ (if_pos hr)

theorem exec_intSet {i : Nat} {v : Word32} (hr : u.bar0Runs = true) : exec (.intSet dt i v) s = .next (intSetWrite i v u) := by
  subst hu
  exact congrArg _ (if_pos hr)

theorem exec_intMaskWrite {i : Nat} {v : Word32} (hr : u.bar0Runs = true) : exec (.intMaskWrite dt i v) s = .next (intMaskWrite i v u) := by
  subst hu
  exact congrArg _ (if_pos hr)

theorem exec_msixModerationExpiry {v : Nat} : exec (.msixModerationExpiry dt v) s = .next (moderationEnd v u) := hu ▸ rfl

theorem exec_msixVectorUnmask {v : Nat} (hr : u.bar0Runs = true) : exec (.msixVectorUnmask dt v) s = .next (vecUnmask v u) := by
  subst hu
  exact congrArg _ (if_pos hr)

end

/-! ### The statement -/

/-- Settles O47: `vecEvent_masked`, `vecEvent_first` and `vecEvent_withinGap` say what an event does to its vector; the bits of the causes
and of the mask are read by `raiseAll_cause`, `intMaskWrite_host` and `causeBits_high`. -/
theorem interruptsFollowTheirRules : Obligations.InterruptsFollowTheirRules := by
  unfold Obligations.InterruptsFollowTheirRules
  refine ⟨fun s n _ => raiseCause_cause n s, fun s n h => raiseCause_quiet h, ?pends, ?sends, ?held, ?clear0, ?clear1, ?set0, ?set1, ?mask1, ?mask0,
    ?gapSends, ?gapPends, ?gapIdle, ?unmaskSends, ?unmaskQuiet⟩
  case pends =>
    intro s v hv hm
    rw [vecEvent_masked hm, State.setVec_vec_self _ _ _ hv]
    exact ⟨rfl, rfl⟩
  case sends =>
    intro s v hv hm hp hb hl
    rw [vecEvent_first hm hp hb hl]
    exact ⟨rfl, congrArg MsixVec.lastMsg (State.setVec_vec_self s _ _ hv)⟩
  case held =>
    intro s v t hv hm hp hb hl hg
    rw [vecEvent_withinGap hm hp hb hl hg, State.setVec_vec_self _ _ _ hv]
    exact ⟨rfl, rfl⟩
  case clear0 =>
    intro dt s u v again hu hr
    refine ⟨_, exec_intCauseClear hu hr, fun n hn => ?_⟩
    rw [intCauseWrite, raiseAll_cause _ _ (by omega), getLsbD_cleared _ _ (by omega), causeBits_low, causeBits_low]
  case clear1 =>
    intro dt s u v again hu hr
    refine ⟨_, exec_intCauseClear hu hr, fun n hn => ?_, fun n hn => ?_⟩
    · rw [intCauseWrite, raiseAll_cause _ _ (by omega), getLsbD_cleared _ _ (by omega), causeBits_high_below _ hn, causeBits_high_below _ hn]
      simp
    · rw [intCauseWrite, raiseAll_cause _ _ (by omega), getLsbD_cleared _ _ (by omega), causeBits_high _ hn, causeBits_high _ hn]
  case set0 =>
    intro dt s u v hu hr
    refine ⟨_, exec_intSet hu hr, fun n hn => ?_, fun n hn => ?_⟩
    · rw [intSetWrite, raiseAll_cause _ _ (by omega), causeBits_low]
    · by_cases h : n < 60
      · rw [intSetWrite, raiseAll_cause _ _ h, causeBits_low, BitVec.getLsbD_of_ge v n hn, Bool.or_false]
      · rw [intSetWrite, raiseAll_cause_above _ _ (by omega)]
  case set1 =>
    intro dt s u v hu hr
    refine ⟨_, exec_intSet hu hr, fun n hn => ?_, fun n hn => ?_⟩
    · rw [intSetWrite, raiseAll_cause _ _ (by omega), causeBits_high_below _ hn, Bool.or_false]
    · rw [intSetWrite, raiseAll_cause _ _ (by omega), causeBits_high _ hn]
  case mask1 =>
    intro dt s u v hu hr
    obtain ⟨hc, hm⟩ := intMaskWrite_host 1 v u
    refine ⟨_, exec_intMaskWrite hu hr, fun n hn => ?_, fun n hn => ?_, hc⟩
    · rw [hm, BitVec.getLsbD_or, getLsbD_cleared _ _ (by omega), if_neg one_ne_zero, if_pos rfl, maskField_eq.2, causeBits_high_below _ hn,
        causeBits_high_below _ hn]
      simp
    · rw [hm, BitVec.getLsbD_or, getLsbD_cleared _ _ (by omega), if_neg one_ne_zero, if_pos rfl, maskField_eq.2, causeBits_high _ hn,
        causeBits_high _ hn, BitVec.getLsbD_allOnes, decide_eq_true (show n < 32 by omega)]
      simp
  case mask0 =>
    intro dt s u v hu hr
    obtain ⟨hc, hm⟩ := intMaskWrite_host 0 v u
    refine ⟨_, exec_intMaskWrite hu hr, fun n hn => ?_, fun n hn => ?_, hc⟩
    · rw [hm, BitVec.getLsbD_or, getLsbD_cleared _ _ (by omega), if_pos rfl, maskField_eq.1, causeBits_low, causeBits_low,
        BitVec.getLsbD_allOnes, decide_eq_true hn]
      simp
    · by_cases h : n < 64
      · rw [hm, BitVec.getLsbD_or, getLsbD_cleared _ _ h, if_pos rfl, maskField_eq.1, causeBits_low, causeBits_low,
          BitVec.getLsbD_of_ge _ n hn, BitVec.getLsbD_of_ge v n hn]
        simp
      · rw [BitVec.getLsbD_of_ge _ _ (by omega), BitVec.getLsbD_of_ge _ _ (by omega)]
  case gapSends =>
    intro dt s u v t hu _ hh hl hd hm hp hb
    rw [exec_msixModerationExpiry hu, moderationEnd_sends hh hl hd hm hp hb]
  case gapPends =>
    intro dt s u v t hu _ hh hl hd h
    rw [exec_msixModerationExpiry hu, moderationEnd_pends hh hl hd h]
  case gapIdle =>
    intro dt s u v hu hh
    rw [exec_msixModerationExpiry hu, moderationEnd_idle hh]
  case unmaskSends =>
    intro dt s u v hu hr hv hpend hp hb hl
    refine ⟨_, exec_msixVectorUnmask hu hr, ?_⟩
    generalize hw : u.setVec v { u.vec v with masked := false, pending := false } = w
    have hvec : w.vec v = { u.vec v with masked := false, pending := false } := hw ▸ State.setVec_vec_self u v _ hv
    have hun : vecUnmask v u = vecEvent v w := (if_pos hpend).trans (congrArg _ hw)
    have hsend : vecEvent v w = _ :=
      vecEvent_first (by rw [hvec]) (hw ▸ hp) (hw ▸ hb) ((congrArg MsixVec.lastMsg hvec).trans hl)
    have hsent := State.setVec_vec_self w v { w.vec v with lastMsg := some w.now } hv
    rw [hun, hsend]
    refine ⟨?_, ?_, congrArg (Output.msix v :: ·) (congrArg State.outputs hw).symm⟩
    · exact (congrArg MsixVec.masked hsent).trans (congrArg MsixVec.masked hvec)
    · exact (congrArg MsixVec.pending hsent).trans (congrArg MsixVec.pending hvec)
  case unmaskQuiet =>
    intro dt s u v hu hr hpend
    rw [exec_msixVectorUnmask hu hr, vecUnmask, if_neg (by simp [hpend])]

end Sys2Proof.Machine
end

section
/-! SUPPORT. The command interfaces: what an interface reset writes, the arrival of a packet, and its execution in turn; the statements on
arrival and on execution (R466 to R468, R470 to R472, R478). -/

namespace Sys2Proof.Machine

/-! ### An interface reset (R467, R468) -/

theorem updAbortEffect_eq (s : State) : ∃ u, updAbortEffect s = { s with upd := u } := by
  unfold updAbortEffect
  extract_lets bundle _ b s1
  have h1 : ∃ u, s1 = { s with upd := u } := by
    unfold s1
    cases bundle with
    | some i => exact ⟨_, rfl⟩
    | none =>
      dsimp only [State.setOtherBank]
      split
      · split <;> exact ⟨_, rfl⟩
      · exact ⟨s.upd, rfl⟩
  obtain ⟨u, h⟩ := h1
  exact ⟨_, by rw [h]⟩

/-- An interface reset without what it does to an update session. -/
def freeIface (i : Nat) (s : State) : State :=
  let s1 := s.modIface i fun f =>
    { f with epoch := f.epoch + 1, tags := [], cResets := inc f.cResets, cDiscarded := incBy f.cDiscarded (repliesHeld i s) }
  { s1 with host := { s1.host with
    waiting := s1.host.waiting.filter fun c => c.ifc != i
    executing := s1.host.executing.map fun (e : Exec) => if e.cmd.ifc = i then { e with mute := true } else e
    slots := if i = 0 then [] else s1.host.slots
    bastik := if i = 2 then bastikClear s1.host.bastik else s1.host.bastik } }

theorem ifReset_eq (i : Nat) (s : State) : ∃ u, ifReset i s = { freeIface i s with upd := u } := by
  unfold ifReset
  extract_lets held s1 _ s2
  have h2 : s2 = freeIface i s := rfl
  rw [h2]
  split
  · split
    · exact updAbortEffect_eq _
    · exact ⟨_, rfl⟩
  · exact ⟨_, rfl⟩

theorem State.setIface_iface_ne (s : State) {i j : Nat} (f : Iface) (hi : i < 3) (hj : j < 3) (h : j ≠ i) : (s.setIface i f).iface j = s.iface j := by
  unfold State.setIface State.iface
  split_ifs
  any_goals omega
  all_goals rfl

theorem ifReset_host (i : Nat) (s : State) : (ifReset i s).host = (freeIface i s).host := by
  obtain ⟨u, h⟩ := ifReset_eq i s
  rw [h]

theorem ifReset_iface (i j : Nat) (s : State) : (ifReset i s).iface j = (freeIface i s).iface j :=
  (congrArg (fun x : HostSt => if j = 0 then x.ring else if j = 1 then x.mgmt else x.svc) (ifReset_host i s) :)

theorem ifReset_iface_self (i : Nat) (s : State) : ((ifReset i s).iface i).epoch = (s.iface i).epoch + 1 ∧ ((ifReset i s).iface i).tags = [] := by
  have h : (freeIface i s).iface i = { s.iface i with
      epoch := (s.iface i).epoch + 1, tags := [], cResets := inc (s.iface i).cResets
      cDiscarded := incBy (s.iface i).cDiscarded (repliesHeld i s) } := State.modIface_iface_self s i _
  rw [ifReset_iface, h]
  exact ⟨rfl, rfl⟩

theorem ifReset_iface_ne {i j : Nat} (s : State) (hi : i < 3) (hj : j < 3) (h : j ≠ i) : (ifReset i s).iface j = s.iface j := by
  rw [ifReset_iface]
  exact State.setIface_iface_ne s _ hi hj h

theorem ifReset_waiting (i : Nat) (s : State) : (ifReset i s).host.waiting = s.host.waiting.filter fun c => c.ifc != i := by
  rw [ifReset_host]
  exact congrArg (List.filter fun c : QCmd => c.ifc != i) (State.setIface_host_waiting s i _)

theorem ifReset_executing (i : Nat) (s : State) : (ifReset i s).host.executing =
    s.host.executing.map fun (e : Exec) => if e.cmd.ifc = i then { e with mute := true } else e := by
  rw [ifReset_host]
  exact congrArg (Option.map fun (e : Exec) => if e.cmd.ifc = i then { e with mute := true } else e) (State.setIface_host_executing s i _)

theorem ifReset_bastik (s : State) : (ifReset 2 s).host.bastik = bastikClear s.host.bastik := by
  rw [ifReset_host]
  simp only [freeIface, State.modIface, if_true, State.setIface_host_bastik]

/-- The command that executes on the interface has its reply discarded. -/
theorem ifReset_mutes {i : Nat} {s : State} {e : Exec} (h : (ifReset i s).host.executing = some e) (he : e.cmd.ifc = i) : e.mute = true := by
  rw [ifReset_executing] at h
  obtain ⟨x, -, rfl⟩ := Option.map_eq_some_iff.1 h
  by_cases hx : x.cmd.ifc = i
  · rw [if_pos hx]
  · rw [if_neg hx] at he
    exact absurd he hx

/-! ### Arrival (R470) -/

/-- The packet that octets spell. -/
def spelledPacket (i : Nat) (o : Origin) (b : List Byte) (s : State) : QCmd :=
  { ifc := i, origin := o, opcode := fld b 0 2, tag := fld b 2 2, epoch := fld b 4 2, length := fld b 8 4, params := b.drop 16, edge := s.now / 1250 }

section

variable {s : State} {i : Nat} {o : Origin} {b : List Byte} (hr : s.ifaceRuns i = true)
include hr

theorem arrive_short (hb : b.length < 16) :
    arrive i o b s = dropSlot o ((countPacket i s).modIface i fun f => { f with cShort := inc f.cShort }) := by
  rw [arrive, if_neg (by simp [hr]), if_pos hb]

variable (hb : 16 ≤ b.length)
include hb

theorem arrive_flagged (hf : 0x8000 ≤ fld b 6 2) :
    arrive i o b s = dropSlot o ((countPacket i s).modIface i fun f => { f with cFlag := inc f.cFlag }) := by
  rw [arrive, if_neg (by simp [hr]), if_neg (by omega), if_pos hf]

theorem arrive_malformed (hf : fld b 6 2 < 0x8000) (h : fld b 6 2 ≠ 0 ∨ fld b 12 4 ≠ 0) :
    arrive i o b s = refuse o (spelledPacket i o b (countPacket i s)) stBadParam 0xFFFE [] (countPacket i s) := by
  rw [arrive, if_neg (by simp [hr]), if_neg (by omega), if_neg (by omega), if_pos h]
  rfl

variable (h6 : fld b 6 2 = 0) (h12 : fld b 12 4 = 0)
include h6 h12

theorem arrive_refused {st : Nat} (hst : arrivalStatus (spelledPacket i o b (countPacket i s)) (countPacket i s) = some st) :
    arrive i o b s = turnAway (spelledPacket i o b (countPacket i s)) st (countPacket i s) := by
  rw [arrive, if_neg (by simp [hr]), if_neg (by omega), if_neg (by omega), if_neg (by simp [h6, h12])]
  unfold spelledPacket at hst
  simp only [hst]
  rfl

theorem arrive_queued (hst : arrivalStatus (spelledPacket i o b (countPacket i s)) (countPacket i s) = none) :
    arrive i o b s =
      awaitTurn (spelledPacket i o b (countPacket i s)) (takeTag (spelledPacket i o b (countPacket i s)) (countPacket i s)) := by
  rw [arrive, if_neg (by simp [hr]), if_neg (by omega), if_neg (by omega), if_neg (by simp [h6, h12])]
  unfold spelledPacket at hst
  simp only [hst]
  rfl

end

theorem countPacket_iface_self (i : Nat) (s : State) : (countPacket i s).iface i = { s.iface i with cPackets := inc (s.iface i).cPackets } :=
  State.modIface_iface_self s i _

theorem countPacket_epoch_self (i : Nat) (s : State) : ((countPacket i s).iface i).epoch = (s.iface i).epoch := by rw [countPacket_iface_self]

theorem countPacket_tags_self (i : Nat) (s : State) : ((countPacket i s).iface i).tags = (s.iface i).tags := by rw [countPacket_iface_self]

theorem countPacket_cEpoch_self (i : Nat) (s : State) : ((countPacket i s).iface i).cEpoch = (s.iface i).cEpoch := by rw [countPacket_iface_self]

theorem countPacket_cTag_self (i : Nat) (s : State) : ((countPacket i s).iface i).cTag = (s.iface i).cTag := by rw [countPacket_iface_self]

theorem countPacket_cQueue_self (i : Nat) (s : State) : ((countPacket i s).iface i).cQueue = (s.iface i).cQueue := by rw [countPacket_iface_self]

@[simp] theorem countPacket_waiting (i : Nat) (s : State) : (countPacket i s).host.waiting = s.host.waiting := State.setIface_host_waiting s i _

@[simp] theorem countPacket_executing (i : Nat) (s : State) : (countPacket i s).host.executing = s.host.executing :=
  State.setIface_host_executing s i _

@[simp] theorem countPacket_outputs (i : Nat) (s : State) : (countPacket i s).outputs = s.outputs := State.setIface_outputs s i _

@[simp] theorem countPacket_now (i : Nat) (s : State) : (countPacket i s).now = s.now := State.setIface_now s i _

theorem tagLimit_countPacket (i j : Nat) (s : State) : (countPacket i s).tagLimit j = s.tagLimit j := by
  rw [State.tagLimit, State.tagLimit, countPacket, State.modIface, State.setIface_host_log2]

/-- A packet's own count of arrival does not bear on steps 4 to 6. -/
theorem arrivalStatus_counted (c : QCmd) (s : State) : arrivalStatus c (countPacket c.ifc s) = arrivalStatus c s := by
  simp only [arrivalStatus, countPacket_iface_self, tagLimit_countPacket]

theorem arrivalStatus_epoch {c : QCmd} {s : State} (h : c.epoch ≠ (s.iface c.ifc).epoch.toNat) : arrivalStatus c s = some stBadEpoch := if_pos h

section

variable {c : QCmd} {s : State} (h : c.epoch = (s.iface c.ifc).epoch.toNat)
include h

theorem arrivalStatus_tag (ht : c.tag ∈ (s.iface c.ifc).tags) : arrivalStatus c s = some stTagBusy := by
  rw [arrivalStatus, if_neg (by simp [h]), if_pos (by simpa using ht)]

theorem arrivalStatus_full (ht : c.tag ∉ (s.iface c.ifc).tags) (hl : s.tagLimit c.ifc ≤ (s.iface c.ifc).tags.length) :
    arrivalStatus c s = some stBusy := by
  rw [arrivalStatus, if_neg (by simp [h]), if_neg (by simpa using ht), if_pos hl]

theorem arrivalStatus_admits (ht : c.tag ∉ (s.iface c.ifc).tags) (hl : (s.iface c.ifc).tags.length < s.tagLimit c.ifc) :
    arrivalStatus c s = none := by
  rw [arrivalStatus, if_neg (by simp [h]), if_neg (by simpa using ht), if_neg (by omega)]

end

/-- A refusal on arrival is answered at once, and takes no tag. -/
theorem refuse_direct (c : QCmd) (st offset : Nat) (data : List Byte) (s : State) :
    (refuse .direct c st offset data s).outputs = .reply c.ifc (replyBytes (mkReply c st offset data)) :: s.outputs
      ∧ (refuse .direct c st offset data s).host.waiting = s.host.waiting
      ∧ (refuse .direct c st offset data s).iface c.ifc = { s.iface c.ifc with cSent := inc (s.iface c.ifc).cSent } :=
  ⟨congrArg (_ :: ·) (State.setIface_outputs s c.ifc _), State.setIface_host_waiting s c.ifc _, State.modIface_iface_self s c.ifc _⟩

/-- A packet refused at steps 4 to 6 is answered, waits for nothing and leaves the tags; each step has its count (R470, R488). -/
theorem turnAway_direct {c : QCmd} (st : Nat) (s : State) (hc : c.origin = .direct) :
    (turnAway c st s).outputs.head? = some (.reply c.ifc (replyBytes (mkReply c st 0 (be 2 (s.iface c.ifc).epoch.toNat))))
      ∧ (turnAway c st s).host.waiting = s.host.waiting ∧ ((turnAway c st s).iface c.ifc).tags = (s.iface c.ifc).tags
      ∧ (st = stBadEpoch → ((turnAway c st s).iface c.ifc).cEpoch = inc (s.iface c.ifc).cEpoch)
      ∧ (st = stTagBusy → ((turnAway c st s).iface c.ifc).cTag = inc (s.iface c.ifc).cTag)
      ∧ (st = stBusy → ((turnAway c st s).iface c.ifc).cQueue = inc (s.iface c.ifc).cQueue) := by
  unfold turnAway
  extract_lets f g
  rw [hc]
  obtain ⟨ho, hw, hf⟩ := refuse_direct c st 0 (be 2 f.epoch.toNat) (s.setIface c.ifc g)
  have hg : (s.setIface c.ifc g).iface c.ifc = g := State.modIface_iface_self s c.ifc fun _ => g
  rw [hg] at hf
  refine ⟨by rw [ho]; rfl, hw.trans (State.setIface_host_waiting s c.ifc g), ?_, ?_, ?_, ?_⟩
  · rw [hf]
    unfold g
    dsimp only
    split
    · rfl
    · split <;> rfl
  all_goals
    rintro rfl
    rw [hf]
    rfl

/-! ### The order of those that wait (R471) -/

theorem queuePacket_last {c : QCmd} {l : List QCmd} (h : ∀ d, d ∈ l → d.edge = c.edge → d.ifc ≤ c.ifc) : queuePacket c l = l ++ [c] := by
  induction l with
  | nil => rfl
  | cons d l ih =>
    have hd : ¬(d.edge = c.edge ∧ c.ifc < d.ifc) := fun ⟨he, hi⟩ => (h d List.mem_cons_self he).not_gt hi
    rw [queuePacket, if_neg hd, ih fun e he => h e (List.mem_cons_of_mem d he)]
    rfl

theorem queuePacket_before {c d : QCmd} {l : List QCmd} (k : List QCmd) (h : ∀ e, e ∈ l → e.edge = c.edge → e.ifc ≤ c.ifc)
    (hd : d.edge = c.edge) (hi : c.ifc < d.ifc) : queuePacket c (l ++ d :: k) = l ++ c :: d :: k := by
  induction l with
  | nil => exact if_pos ⟨hd, hi⟩
  | cons e l ih =>
    have he : ¬(e.edge = c.edge ∧ c.ifc < e.ifc) := fun ⟨hx, hy⟩ => (h e List.mem_cons_self hx).not_gt hy
    rw [List.cons_append, queuePacket, if_neg he, ih fun x hx => h x (List.mem_cons_of_mem e hx)]
    rfl

/-! ### Execution (R470, R471) -/

/-- Every opcode belongs to one command. -/
theorem allCmds_opcodes_nodup : (allCmds.map (·.opcode)).Nodup := by decide +kernel

theorem commandOf_opcode {d : Cmd} (hd : d ∈ allCmds) : commandOf d.opcode = some d := by
  cases hf : commandOf d.opcode with
  | none => exact absurd (List.find?_eq_none.1 hf d hd) (by simp)
  | some e =>
    have he := List.find?_some hf
    exact congrArg some (List.inj_on_of_nodup_map allCmds_opcodes_nodup (List.mem_of_find?_eq_some hf) hd (by simpa using he))

theorem executePacket_badLength {c : QCmd} (h : 20464 < c.length ∨ c.length ≠ c.params.length) (s : State) :
    executePacket c s = sendReply c.origin (mkReply c stBadLength 0 []) s := if_pos h

theorem executePacket_unknown {c : QCmd} (h1 : c.length ≤ 20464) (h2 : c.length = c.params.length) (h : ∀ d, d ∈ allCmds → d.opcode ≠ c.opcode)
    (s : State) : executePacket c s = sendReply c.origin (mkReply c stBadOpcode 0 []) s := by
  have hf : commandOf c.opcode = none := List.find?_eq_none.2 fun d hd => by simpa using h d hd
  rw [executePacket, if_neg (by omega), hf]

theorem executePacket_known {c : QCmd} {d : Cmd} (hd : d ∈ allCmds) (ho : c.opcode = d.opcode) (h1 : c.length ≤ 20464)
    (h2 : c.length = c.params.length) (s : State) : executePacket c s = executeCommand d c s := by
  rw [executePacket, if_neg (by omega), ho, commandOf_opcode hd]

theorem commandExecute_next {s : State} {c : QCmd} {rest : List QCmd} (hr : s.commandsRun = true) (he : s.host.executing = none)
    (hw : s.host.waiting = c :: rest) : commandExecute s = executePacket c { s with host := { s.host with waiting := rest } } := by
  rw [commandExecute, if_neg (by simp [hr, he]), hw]

theorem commandExecute_idle {s : State} (h : s.commandsRun = false ∨ s.host.executing.isSome = true ∨ s.host.waiting = []) :
    commandExecute s = s := by
  rw [commandExecute]
  split
  · rfl
  · rename_i hc
    obtain h | h | h := h
    · simp [h] at hc
    · simp [h] at hc
    · rw [h]

/-! ### The rows -/

section

variable {dt : Ps} {s u : State} (hu : u = s.elapse dt)
include hu

theorem exec_commandPacketArrival {i : Nat} {b : List Byte} : exec (.commandPacketArrival dt i b) s = .next (arrive i .direct b u) := hu ▸ rfl

theorem exec_commandExecute : exec (.commandExecute dt) s = .next (commandExecute u) := hu ▸ rfl

theorem exec_mgmtCommandDatagram {ok : Bool} {l : List Ps} {ip port : Nat} {b : List Byte} :
    exec (.mgmtCommandDatagram dt ok l ip port b) s = .next (mgmtDatagram ok l ip port b u) := hu ▸ rfl

end

/-- A command row whose packet is turned away at steps 4 to 6. -/
theorem runCommand_refused {d : Cmd} {q : Packet} {s : State} {st : Nat} (hr : s.ifaceRuns q.ifc = true)
    (hst : arrivalStatus (packetCmd d q) s = some st) : runCommand d q s = turnAway (packetCmd d q) st (countPacket q.ifc s) := by
  rw [runCommand, if_neg (by simp [hr])]
  simp only [hst]

/-- A command row whose packet waits its turn. -/
theorem runCommand_waits {d : Cmd} {q : Packet} {s : State} (hr : s.ifaceRuns q.ifc = true) (hst : arrivalStatus (packetCmd d q) s = none)
    (hbusy : s.host.executing.isSome = true ∨ s.host.waiting ≠ []) :
    runCommand d q s = awaitTurn { packetCmd d q with edge := s.now / 1250 } (admitted d q s) := by
  rw [runCommand, if_neg (by simp [hr])]
  simp only [hst]
  exact if_pos (by simpa using hbusy)

/-! ### The statements -/

/-- Settles O42: `arrive_short` to `arrive_queued` are steps 1 to 6, and `arrivalStatus_epoch` to `arrivalStatus_admits` tell steps 4 to 6
apart. -/
theorem arrivalChecksInOrder : Obligations.ArrivalChecksInOrder := by
  unfold Obligations.ArrivalChecksInOrder
  refine ⟨?short, ?flag, ?malformed, ?epoch, ?tag, ?full, ?queued, fun c l h => queuePacket_last h, fun c d l k h hd hi => queuePacket_before k h hd hi,
    ?off, ?datagram, ?fragments, ?unprotected⟩
  case short =>
    intro dt s u i b hu hr hb
    rw [exec_commandPacketArrival hu, arrive_short hr hb]
    rfl
  case flag =>
    intro dt s u i b hu hr hb hf
    rw [exec_commandPacketArrival hu, arrive_flagged hr hb hf]
    rfl
  case malformed =>
    intro dt s u i b hu hr hb hf h
    refine ⟨_, exec_commandPacketArrival hu, ?_⟩
    rw [arrive_malformed hr hb hf h]
    obtain ⟨ho, hw, hi⟩ := refuse_direct (spelledPacket i .direct b (countPacket i u)) stBadParam 0xFFFE [] (countPacket i u)
    refine ⟨by rw [ho]; rfl, by rw [hw, countPacket_waiting], ?_⟩
    exact (congrArg Iface.tags hi).trans (countPacket_tags_self i u)
  case epoch =>
    intro dt s u i b hu hr hi hb h6 h12 he
    refine ⟨_, exec_commandPacketArrival hu, ?_⟩
    have hst : arrivalStatus (spelledPacket i .direct b (countPacket i u)) (countPacket i u) = some stBadEpoch :=
      (arrivalStatus_counted _ u).trans (arrivalStatus_epoch he)
    rw [arrive_refused hr hb h6 h12 hst]
    obtain ⟨ho, hw, ht, hc, -, -⟩ :=
      turnAway_direct (c := spelledPacket i .direct b (countPacket i u)) stBadEpoch (countPacket i u) rfl
    refine ⟨ho.trans ?_, by rw [hw, countPacket_waiting], (hc rfl).trans ?_, ht.trans ?_⟩
    · rw [show ((countPacket i u).iface (spelledPacket i .direct b (countPacket i u)).ifc).epoch = (u.iface i).epoch from
        countPacket_epoch_self i u]
      simp [replyBytes, mkReply, spelledPacket, stBadEpoch, stBadParam, be_length]
    · exact congrArg inc (countPacket_cEpoch_self i u)
    · exact countPacket_tags_self i u
  case tag =>
    intro dt s u i b hu hr hi hb h6 h12 he htag
    refine ⟨_, exec_commandPacketArrival hu, ?_⟩
    have hst : arrivalStatus (spelledPacket i .direct b (countPacket i u)) (countPacket i u) = some stTagBusy :=
      (arrivalStatus_counted _ u).trans (arrivalStatus_tag he htag)
    rw [arrive_refused hr hb h6 h12 hst]
    obtain ⟨ho, hw, ht, -, hc, -⟩ :=
      turnAway_direct (c := spelledPacket i .direct b (countPacket i u)) stTagBusy (countPacket i u) rfl
    refine ⟨ho.trans ?_, by rw [hw, countPacket_waiting], (hc rfl).trans ?_, ht.trans ?_⟩
    · simp [replyBytes, mkReply, spelledPacket, stTagBusy, stBadParam, stOk, stBadEpoch]
    · exact congrArg inc (countPacket_cTag_self i u)
    · exact countPacket_tags_self i u
  case full =>
    intro dt s u i b hu hr hi hb h6 h12 he htag hlim
    refine ⟨_, exec_commandPacketArrival hu, ?_⟩
    have hst : arrivalStatus (spelledPacket i .direct b (countPacket i u)) (countPacket i u) = some stBusy :=
      (arrivalStatus_counted _ u).trans (arrivalStatus_full he htag hlim)
    rw [arrive_refused hr hb h6 h12 hst]
    obtain ⟨ho, hw, ht, -, -, hc⟩ :=
      turnAway_direct (c := spelledPacket i .direct b (countPacket i u)) stBusy (countPacket i u) rfl
    refine ⟨ho.trans ?_, by rw [hw, countPacket_waiting], (hc rfl).trans ?_, ht.trans ?_⟩
    · simp [replyBytes, mkReply, spelledPacket, stBusy, stBadParam, stOk, stBadEpoch]
    · exact congrArg inc (countPacket_cQueue_self i u)
    · exact countPacket_tags_self i u
  case queued =>
    intro dt s u i b hu hr hi hb h6 h12 he htag hlim
    refine ⟨_, exec_commandPacketArrival hu, ?_⟩
    have hst : arrivalStatus (spelledPacket i .direct b (countPacket i u)) (countPacket i u) = none :=
      (arrivalStatus_counted _ u).trans (arrivalStatus_admits he htag hlim)
    rw [arrive_queued hr hb h6 h12 hst]
    generalize hc : spelledPacket i .direct b (countPacket i u) = c
    have hci : c.ifc = i := hc ▸ rfl
    refine ⟨(State.setIface_outputs _ _ _).trans (countPacket_outputs i u), ?_, ?_⟩
    · have hself : (takeTag c (countPacket i u)).iface c.ifc = _ := State.modIface_iface_self (countPacket i u) c.ifc _
      rw [hci, countPacket_iface_self] at hself
      exact (congrArg Iface.tags hself).trans (hc ▸ rfl)
    · have hw : (takeTag c (countPacket i u)).host.waiting = u.host.waiting :=
        (State.setIface_host_waiting _ _ _).trans (countPacket_waiting i u)
      have hspell : c = spelledPacket i .direct b u := by rw [← hc, spelledPacket, countPacket_now]; rfl
      exact (congrArg (queuePacket c) hw).trans (congrArg (queuePacket · u.host.waiting) hspell)
  case off =>
    intro dt s u i b hu hr
    rw [exec_commandPacketArrival hu, arrive, if_pos (by simp [hr])]
  case datagram =>
    intro dt l s u ip port b hu hr hi hl hf
    rw [exec_mgmtCommandDatagram hu, mgmtDatagram, if_neg (by simp [hr]), if_neg (by simp [hi]), if_neg]
    simpa using ⟨hl, hf⟩
  case fragments =>
    intro dt l s u ip port b hu hr hi h
    rw [exec_mgmtCommandDatagram hu, mgmtDatagram, if_neg (by simp [hr]), if_neg (by simp [hi]), if_pos (by simpa using h)]
  case unprotected =>
    intro dt l s u ip port ok b hu hr h
    rw [exec_mgmtCommandDatagram hu, mgmtDatagram, if_neg (by simp [hr]), if_pos]
    obtain h | h := h <;> simp [h]

/-- Settles O43: `executePacket_badLength` to `executePacket_known` say how a packet executes, `runCommand_waits` and `runCommand_refused` what
a row's packet meets before, and `ifReset_iface_self` to `ifReset_mutes` what a reset of an interface leaves. -/
theorem commandsExecuteInOrder : Obligations.CommandsExecuteInOrder := by
  unfold Obligations.CommandsExecuteInOrder
  refine ⟨?next, ?idle, fun c s h => executePacket_badLength h s, fun c s h1 h2 h => executePacket_unknown h1 h2 h s,
    fun d c s hd ho h1 h2 => executePacket_known hd ho h1 h2 s, allCmds_opcodes_nodup, ?waits, ?tag, ?reset⟩
  case next =>
    intro dt s u c rest hu hr he hw
    rw [exec_commandExecute hu, commandExecute_next hr he hw]
  case idle =>
    intro dt s u hu h
    rw [exec_commandExecute hu, commandExecute_idle h]
  case waits =>
    rintro dt q c s u w rfl hr hbusy he ht hl rfl rfl
    have hst : arrivalStatus (packetCmd cmdSysEcho q) (s.elapse dt) = none := arrivalStatus_admits he ht hl
    have hrun := runCommand_waits hr hst hbusy
    have hw : (admitted cmdSysEcho q (s.elapse dt)).host.waiting = (s.elapse dt).host.waiting :=
      (State.setIface_host_waiting _ _ _).trans (countPacket_waiting q.ifc _)
    refine congrArg Host.Outcome.next (hrun.trans ?_)
    rw [awaitTurn, hw]
    rfl
  case tag =>
    rintro dt q s u rfl hr hi he ht
    have hst : arrivalStatus (packetCmd cmdSysEcho q) (s.elapse dt) = some stTagBusy := arrivalStatus_tag he ht
    refine ⟨_, congrArg Host.Outcome.next (runCommand_refused hr hst), ?_⟩
    obtain ⟨ho, hw, hk, -, hc, -⟩ := turnAway_direct (c := packetCmd cmdSysEcho q) stTagBusy (countPacket q.ifc (s.elapse dt)) rfl
    refine ⟨ho.trans ?_, hw.trans (countPacket_waiting _ _), hk.trans ?_, (hc rfl).trans ?_⟩
    · simp [replyBytes, mkReply, packetCmd, refusedBytes, cmdSysEcho, stTagBusy, stBadParam, stOk, stBadEpoch]
    · exact countPacket_tags_self q.ifc _
    · exact congrArg inc (countPacket_cTag_self q.ifc _)
  case reset =>
    intro i s hi
    refine ⟨(ifReset_iface_self i s).1, (ifReset_iface_self i s).2, fun c hc => ?_, fun e he hei => ifReset_mutes he hei,
      fun j hj hne => ifReset_iface_ne s hi hj hne⟩
    rw [ifReset_waiting, List.mem_filter] at hc
    exact ⟨by simpa using hc.2, hc.1⟩

end Sys2Proof.Machine
end

section
/-! SUPPORT. The command ring, the Bastik link and the endpoint: what each operation writes at the branches of its conditions, and the
statements on them; SYS_IF_RESET for a packet whose interface is none of the three (R428, R453, R454, R463, R467, R473 to R477, R482, R587 to
R591). -/

namespace Sys2Proof.Machine

/-! ### SYS_IF_RESET from an interface out of range -/

/-- A device in COMMISSION that takes commands. -/
def commissionedDevice : State :=
  { State.reset with sys := { State.reset.sys with mode := .commission }, host := { State.reset.host with cmdReady := true } }

/-- A packet of interface code 3, which the model keeps with SVC's, that resets SVC. -/
def resetSvcFromThree : Packet := { ifc := 3, tag := 1, epoch := 0, params := [2] }

/-- The state that a row answers with. -/
def nextOr (s : State) : Host.Outcome State Fault Refusal → State
  | .next t => t
  | _ => s

/-- The epoch of the packet's own interface has advanced, so its reply is discarded and nothing leaves. -/
theorem resetSvcFromThree_silent :
    (nextOr State.reset (exec (.sysIfReset 0 resetSvcFromThree) commissionedDevice)).outputs = [] := by decide +kernel

/-- Refutes O4: its clause on SYS_IF_RESET asks for a reply wherever the interface reset is not the packet's by number. A packet of
interface code 3 is kept with SVC's, and one that resets SVC has its reply discarded: `resetSvcFromThree_silent`. -/
theorem not_systemSettingsTakeEffect : ¬ Obligations.SystemSettingsTakeEffect := by
  unfold Obligations.SystemSettingsTakeEffect
  rintro ⟨-, -, hreset, -⟩
  obtain ⟨t, ht, hout, -⟩ := hreset 0 resetSvcFromThree commissionedDevice _ 2 rfl (by decide +kernel) rfl (by decide) (by decide) (by decide)
  have hsilent := resetSvcFromThree_silent
  rw [ht] at hsilent
  simp only [nextOr] at hsilent
  rw [hsilent] at hout
  exact Option.some_ne_none _ hout.symm

/-! ### The command ring (R473 to R476) -/

section

variable {dt : Ps} {s u : State} {v : Word32} (hu : u = s.elapse dt)
include hu

theorem exec_cmdDoorbell (hr : u.bar0Runs = true) : exec (.cmdDoorbell dt v) s = .next (ringTail v u) := by
  subst hu
  exact congrArg _ (if_pos hr)

theorem exec_cmdEnable (hr : u.bar0Runs = true) : exec (.cmdEnable dt v) s = .next (ringCtrl (v ||| 1#32) u) := by
  subst hu
  exact congrArg _ (if_pos hr)

theorem exec_cmdDisable (hr : u.bar0Runs = true) : exec (.cmdDisable dt v) s = .next (ringCtrl (v &&& 0xFFFFFFFE#32) u) := by
  subst hu
  exact congrArg _ (if_pos hr)

theorem exec_cmdIfReset (hr : u.bar0Runs = true) : exec (.cmdIfReset dt v) s = .next (ringCtrl (v ||| 2#32) u) := by
  subst hu
  exact congrArg _ (if_pos hr)

theorem exec_cmdDescriptorFetch {d : List Byte} {p : Option (List Byte)} : exec (.cmdDescriptorFetch dt d p) s = .next (ringFetch d p u) := hu ▸ rfl

theorem exec_cmdCompletionWrite : exec (.cmdCompletionWrite dt) s = .next (ringComplete u) := hu ▸ rfl

end

/-- The bits that a control write of each row sets or clears (R473). -/
theorem ctrlWords (v : Word32) : ((v ||| 1#32).getLsbD 0 = true ∧ (v ||| 1#32).getLsbD 1 = v.getLsbD 1 ∧ (v ||| 1#32).extractLsb' 8 4 = v.extractLsb' 8 4)
    ∧ ((v &&& 0xFFFFFFFE#32).getLsbD 0 = false ∧ (v &&& 0xFFFFFFFE#32).getLsbD 1 = v.getLsbD 1
      ∧ (v &&& 0xFFFFFFFE#32).extractLsb' 8 4 = v.extractLsb' 8 4)
    ∧ (v ||| 2#32).getLsbD 1 = true ∧ (v ||| 2#32).extractLsb' 8 4 = v.extractLsb' 8 4 := by
  have h1 : (1#32).extractLsb' 8 4 = 0#4 := by decide
  have h2 : (2#32).extractLsb' 8 4 = 0#4 := by decide
  have hE : (0xFFFFFFFE#32).extractLsb' 8 4 = BitVec.allOnes 4 := by decide
  refine ⟨⟨?_, ?_, ?_⟩, ⟨?_, ?_, ?_⟩, ?_, ?_⟩
  · rw [BitVec.getLsbD_or]; simp
  · rw [BitVec.getLsbD_or]; simp
  · rw [BitVec.extractLsb'_or, h1, BitVec.or_zero]
  · rw [BitVec.getLsbD_and]; simp
  · rw [BitVec.getLsbD_and]; simp
  · rw [BitVec.extractLsb'_and, hE, BitVec.and_allOnes]
  · rw [BitVec.getLsbD_or]; simp
  · rw [BitVec.extractLsb'_or, h2, BitVec.or_zero]

theorem ringTail_within {v : Word32} {s : State} (h : (v - s.host.cplHead).toNat ≤ 2 ^ s.host.log2.toNat) :
    ringTail v s = { s with host := { s.host with cmdTail := v } } := if_neg (Nat.not_lt.2 h)

theorem ringTail_beyond {v : Word32} {s : State} (h : 2 ^ s.host.log2.toNat < (v - s.host.cplHead).toNat) :
    ringTail v s = { s with host := { s.host with doorbellErr := true } } := if_pos h

theorem ringCtrl_stays {v : Word32} {s : State} (he : s.host.ringEnable = true) (h0 : v.getLsbD 0 = true) (h1 : v.getLsbD 1 = false) :
    ringCtrl v s = s := by
  rw [ringCtrl, if_pos he, if_pos (by simp only [h0, h1]; rfl)]

theorem ringCtrl_off {v : Word32} {s : State} (he : s.host.ringEnable = true) (h : v.getLsbD 0 = false ∨ v.getLsbD 1 = true) :
    ringCtrl v s = { ifReset 0 s with host := { (ifReset 0 s).host with ringEnable := false } } := by
  rw [ringCtrl, if_pos he, if_neg]
  obtain h | h := h <;> simp only [h, Bool.false_and, Bool.not_true, Bool.and_false] <;> exact Bool.false_ne_true

section

variable {v : Word32} {s : State} (he : s.host.ringEnable = false)
include he

theorem ringCtrl_resets (h1 : v.getLsbD 1 = true) : ringCtrl v s = ifReset 0 { s with host := { s.host with log2 := v.extractLsb' 8 4 } } := by
  rw [ringCtrl, if_neg (by simp [he]), if_pos h1]

variable (h1 : v.getLsbD 1 = false)
include h1

theorem ringCtrl_sizes (h0 : v.getLsbD 0 = false) : ringCtrl v s = { s with host := { s.host with log2 := v.extractLsb' 8 4 } } := by
  rw [ringCtrl, if_neg (by simp [he]), if_neg (by simp only [h1]; exact Bool.false_ne_true), if_pos (by simp only [h0]; rfl)]

theorem ringCtrl_enables (h0 : v.getLsbD 0 = true) (hk : inRange (v.extractLsb' 8 4).toNat 4 10 = true) :
    ringCtrl v s = { s with host := { s.host with
      log2 := v.extractLsb' 8 4, ringEnable := true, cmdTail := 0, cmdHead := 0, cplHead := 0, cplTail := 0, slots := [] } } := by
  rw [ringCtrl, if_neg (by simp [he]), if_neg (by simp only [h1]; exact Bool.false_ne_true), if_neg (by simp only [h0]; exact Bool.false_ne_true),
    if_pos hk]

theorem ringCtrl_misfit (h0 : v.getLsbD 0 = true) (hk : inRange (v.extractLsb' 8 4).toNat 4 10 = false) :
    ringCtrl v s = { s with host := { s.host with log2 := v.extractLsb' 8 4, cfgErr := true } } := by
  rw [ringCtrl, if_neg (by simp [he]), if_neg (by simp only [h1]; exact Bool.false_ne_true), if_neg (by simp only [h0]; exact Bool.false_ne_true),
    if_neg (by rw [hk]; exact Bool.false_ne_true)]

end

/-- The ring fetches only while it runs and a descriptor waits. -/
theorem ringFetch_idle {d : List Byte} {p : Option (List Byte)} {s : State}
    (h : s.host.ringEnable = false ∨ s.ifaceRuns 0 = false ∨ s.dmaRuns = false ∨ s.host.cmdHead = s.host.cmdTail
      ∨ 2 ^ s.host.log2.toNat < (s.host.cmdTail - s.host.cmdHead).toNat) : ringFetch d p s = s := by
  rw [ringFetch, if_pos]
  obtain h | h | h | h | h := h
  · simp [h]
  · simp [h]
  · simp [h]
  · simp [h, inRange]
  · simp only [Bool.or_eq_true, Bool.not_eq_true', inRange, Bool.and_eq_false_iff, decide_eq_false_iff_not]
    exact .inr (.inr h.not_ge)

section

variable {s : State} {d : List Byte} (he : s.host.ringEnable = true) (hr : s.ifaceRuns 0 = true) (hd : s.dmaRuns = true)
  (h1 : 1 ≤ (s.host.cmdTail - s.host.cmdHead).toNat) (h2 : (s.host.cmdTail - s.host.cmdHead).toNat ≤ 2 ^ s.host.log2.toNat)
include he hr hd h1 h2

theorem ringFetch_runs : (!(s.host.ringEnable && s.ifaceRuns 0 && s.dmaRuns) || !inRange (s.host.cmdTail - s.host.cmdHead).toNat 1 (2 ^ s.host.log2.toNat)) = false := by
  have hin := inRange_iff.2 ⟨h1, h2⟩
  rw [he, hr, hd, hin]
  rfl

theorem ringFetch_packet (b : List Byte) (hi : submitInvalid d = false) : ringFetch d (some b) s =
    arrive 0 (.ring s.host.cmdHead.toNat) (b.take (lfld d 8 4)) (State.hostGet (State.emit { s with host := { s.host with
        cmdHead := s.host.cmdHead + 1, slots := s.host.slots ++ [(s.host.cmdHead.toNat, { cap := lfld d 12 4, addr := lfld d 16 8, reply := none })] } }
      (.hostRead (s.host.cmdBase.toNat + 32 * (s.host.cmdHead.toNat % 2 ^ s.host.log2.toNat)) 32)) (lfld d 0 8) (lfld d 8 4)) := by
  rw [ringFetch, if_neg (by rw [ringFetch_runs he hr hd h1 h2]; exact Bool.false_ne_true)]
  simp only [hi]
  rfl

/-- A descriptor that breaks the table, or whose packet is not read, is answered in its buffer (R475, R476). -/
theorem ringFetch_error {p : Option (List Byte)} (hs : s.host.slots = []) (hi : submitInvalid d = true ∨ p = none) :
    (ringFetch d p s).host.cmdHead = s.host.cmdHead + 1 ∧ ∃ r, r.status = stFetchErr ∧ (ringFetch d p s).host.slots =
      [(s.host.cmdHead.toNat, { cap := lfld d 12 4, addr := lfld d 16 8, reply := some r })] := by
  rw [ringFetch, if_neg (by rw [ringFetch_runs he hr hd h1 h2]; exact Bool.false_ne_true)]
  extract_lets n bad slot s1 s2 _ s3 c
  have h2 : s2.host = s.host := by
    unfold s2
    split <;> rfl
  have h3 : s3.host.slots = [(n, slot)] := by
    unfold s3
    rw [h2, hs]
    rfl
  have hans : (refuse (.ring n) c stFetchErr 0 [] s3).host.cmdHead = s.host.cmdHead + 1
      ∧ ∃ r, r.status = stFetchErr ∧ (refuse (.ring n) c stFetchErr 0 [] s3).host.slots =
        [(n, { cap := lfld d 12 4, addr := lfld d 16 8, reply := some r })] := by
    refine ⟨congrArg (fun h : HostSt => h.cmdHead + 1) h2, { mkReply c stFetchErr 0 [] with taken := false }, rfl, ?_⟩
    refine (congrArg (List.map _) h3).trans ?_
    rw [List.map_cons, if_pos rfl]
    rfl
  cases p with
  | none => exact hans
  | some b =>
    have hb : bad = true := hi.elim id (fun h => absurd h (Option.some_ne_none b))
    dsimp only
    rw [if_pos hb]
    exact hans

end

/-- The oldest submission is completed while the ring's room lasts. -/
theorem ringComplete_idle {s : State} (h : s.host.slots = [] ∨ s.dmaRuns = false ∨ ∃ n x rest, s.host.slots = (n, x) :: rest
    ∧ (x.reply = none ∨ 2 ^ s.host.log2.toNat ≤ (BitVec.ofNat 32 n - s.host.cplHead).toNat)) : ringComplete s = s := by
  unfold ringComplete
  split
  · rename_i n cap addr r rest hs
    refine if_pos ?_
    obtain h | h | ⟨m, x, rest', h, hx⟩ := h
    · simp [h] at hs
    · simp [h]
    · rw [hs] at h
      obtain ⟨⟨rfl, rfl⟩, -⟩ : (n = m ∧ _ = x) ∧ rest = rest' := by simpa using h
      obtain hx | hx := hx
      · exact absurd hx (Option.some_ne_none r)
      · rw [Bool.or_eq_true]
        exact .inr (decide_eq_true hx)
  · rfl

theorem mem_hostPut_outputs {s : State} {addr : Nat} {bs : List Byte} {attrs : HostAttrs} {x : Nat × Nat}
    (hx : x ∈ requests s.host.payload bs.length addr bs.length) :
    Output.hostWrite x.1 (slice bs (x.1 - addr) x.2) attrs ∈ (s.hostPut addr bs attrs).outputs :=
  List.mem_append_left _ (List.mem_reverse.2 (List.mem_map_of_mem hx))

theorem vecEvent_outputs_mem {v : Nat} {s : State} {o : Output} (h : o ∈ s.outputs) : o ∈ (vecEvent v s).outputs := by
  unfold vecEvent
  extract_lets
  split
  · exact h
  · split
    · split
      · exact h
      · exact List.mem_cons_of_mem _ h
    · exact List.mem_cons_of_mem _ h

theorem raiseCause_outputs_mem {n : Nat} {s : State} {o : Output} (h : o ∈ s.outputs) : o ∈ (raiseCause n s).outputs := by
  unfold raiseCause
  extract_lets
  split
  · exact vecEvent_outputs_mem h
  · exact h

theorem raiseCause_set (n : Nat) (hn : n < 64) (s : State) : (raiseCause n s).host.cause.getLsbD n = true := by
  rw [raiseCause_cause, BitVec.getLsbD_or, getLsbD_oneBit hn]
  simp

/-- A reply is written with its entry, and the submission leaves the ring. -/
theorem ringComplete_writes {s : State} {n cap addr : Nat} {r : Reply} {rest : List (Nat × RingSlot)} (hd : s.dmaRuns = true)
    (hs : s.host.slots = (n, { cap, addr, reply := some r }) :: rest)
    (hroom : (BitVec.ofNat 32 n - s.host.cplHead).toNat < 2 ^ s.host.log2.toNat) :
    ∃ w : State, ringComplete s = raiseCause causeCmd w ∧ w.host.slots = rest ∧ w.host.cplTail = s.host.cplTail + 1
      ∧ w.outputs = .hostWrite (s.host.cplBase.toNat + 16 * (n % 2 ^ s.host.log2.toNat)) (completionEntry n s.host.log2.toNat r cap)
        :: (s.hostPut addr ((replyBytes r).take cap)).outputs := by
  unfold ringComplete
  rw [hs]
  dsimp only
  rw [if_neg (by simpa [hd] using hroom)]
  exact ⟨_, rfl, rfl, rfl, rfl⟩

/-- Settles O44: `ringTail_within` and `ringTail_beyond`, `ringCtrl_stays` to `ringCtrl_misfit`, `ringFetch_packet` to `ringFetch_idle`
and `ringComplete_writes` are the branches of the ring's operations. -/
theorem commandRingFollowsItsRules : Obligations.CommandRingFollowsItsRules := by
  unfold Obligations.CommandRingFollowsItsRules
  refine ⟨?tail, ?beyond, ?enables, ?misfit, ?stays, ?disables, ?sizes, ?resetsOn, ?resetsOff, ?off, ?fetch, ?error, ?idle, ?completes, ?unanswered,
    ?noRoom⟩
  case tail =>
    intro dt s u v hu hr h
    rw [exec_cmdDoorbell hu hr, ringTail_within h]
  case beyond =>
    intro dt s u v hu hr h
    rw [exec_cmdDoorbell hu hr, ringTail_beyond h]
  case enables =>
    intro dt s u v hu hr he h1 hlo hhi
    obtain ⟨⟨e0, e1, ek⟩, -, -⟩ := ctrlWords v
    rw [exec_cmdEnable hu hr, ringCtrl_enables he (e1.trans h1) e0 (by rw [ek, inRange_iff]; exact ⟨hlo, hhi⟩), ek]
  case misfit =>
    intro dt s u v hu hr he h1 h
    obtain ⟨⟨e0, e1, ek⟩, -, -⟩ := ctrlWords v
    have hk : inRange (v.extractLsb' 8 4).toNat 4 10 = false := Bool.eq_false_iff.2 fun hc => by
      rw [inRange_iff] at hc
      omega
    rw [exec_cmdEnable hu hr, ringCtrl_misfit he (e1.trans h1) e0 (by rw [ek, hk]), ek]
  case stays =>
    intro dt s u v hu hr he h1
    obtain ⟨⟨e0, e1, -⟩, -, -⟩ := ctrlWords v
    rw [exec_cmdEnable hu hr, ringCtrl_stays he e0 (e1.trans h1)]
  case disables =>
    rintro dt s u w v hu hr he rfl
    obtain ⟨-, ⟨e0, -, -⟩, -⟩ := ctrlWords v
    rw [exec_cmdDisable hu hr, ringCtrl_off he (.inl e0)]
  case sizes =>
    intro dt s u v hu hr he h1
    obtain ⟨-, ⟨e0, e1, ek⟩, -⟩ := ctrlWords v
    rw [exec_cmdDisable hu hr, ringCtrl_sizes he (e1.trans h1) e0, ek]
  case resetsOn =>
    rintro dt s u w v hu hr he rfl
    obtain ⟨-, -, e1, -⟩ := ctrlWords v
    rw [exec_cmdIfReset hu hr, ringCtrl_off he (.inr e1)]
  case resetsOff =>
    intro dt s u v hu hr he
    obtain ⟨-, -, e1, ek⟩ := ctrlWords v
    rw [exec_cmdIfReset hu hr, ringCtrl_resets he e1, ek]
  case off =>
    rintro dt s u v rfl hr
    have hno : ¬ (s.elapse dt).bar0Runs = true := by simp [hr]
    exact ⟨congrArg _ (if_neg hno), congrArg _ (if_neg hno), congrArg _ (if_neg hno), congrArg _ (if_neg hno)⟩
  case fetch =>
    rintro dt s u v d b n hu he hr hd h1 h2 hi rfl rfl
    rw [exec_cmdDescriptorFetch hu, ringFetch_packet he hr hd h1 h2 b hi]
  case error =>
    intro dt s u d p hu he hr hd h1 h2 hs hi
    obtain ⟨hh, r, hst, hslots⟩ := ringFetch_error he hr hd h1 h2 hs hi
    exact ⟨_, _, r, exec_cmdDescriptorFetch hu, hh, hslots, rfl, rfl, rfl, hst⟩
  case idle =>
    intro dt s u d p hu h
    rw [exec_cmdDescriptorFetch hu, ringFetch_idle h]
  case completes =>
    rintro dt s u n cap addr r rest body hu hd rfl hs hroom
    obtain ⟨w, hw, hrest, htail, hout⟩ := ringComplete_writes hd hs hroom
    refine ⟨_, exec_cmdCompletionWrite hu, ?_⟩
    rw [hw]
    have hbase := raiseCause_hostBase causeCmd w
    refine ⟨(congrArg HostSt.slots hbase).trans hrest, (congrArg HostSt.cplTail hbase).trans htail, fun x hx => ?_, ?_, raiseCause_set _ (by decide) w⟩
    · refine raiseCause_outputs_mem ?_
      rw [hout]
      exact List.mem_cons_of_mem _ (mem_hostPut_outputs hx)
    · refine raiseCause_outputs_mem ?_
      rw [hout]
      exact List.mem_cons_self
  case unanswered =>
    intro dt s u n x rest hu hs hx
    rw [exec_cmdCompletionWrite hu, ringComplete_idle (.inr (.inr ⟨n, x, rest, hs, .inl hx⟩))]
  case noRoom =>
    intro dt s u hu h
    rw [exec_cmdCompletionWrite hu, ringComplete_idle]
    obtain h | h | ⟨n, x, rest, hs, hx⟩ := h
    · exact .inl h
    · exact .inr (.inl h)
    · exact .inr (.inr ⟨n, x, rest, hs, .inr hx⟩)

end Sys2Proof.Machine
end

section
/-! SUPPORT. The Bastik link and the endpoint: what their frames and events write at the branches of their conditions, and the statements on
them (R428, R453, R454, R463, R467, R477, R587 to R591). -/

namespace Sys2Proof.Machine

/-! ### The Bastik link (R587 to R591) -/

section

variable {dt : Ps} {s u : State} {f : List Byte} (hu : u = s.elapse dt)
include hu

theorem exec_bastikData : exec (.bastikData dt f) s = .next (bastikDataFrame f u) := hu ▸ rfl

theorem exec_bastikPoll : exec (.bastikPoll dt f) s = .next (bastikPollFrame f u) := hu ▸ rfl

theorem exec_bastikResync (hr : u.svcRuns = true) :
    exec (.bastikResync dt f) s = .next (if svcFrameOk f then svcAck (fld f 1 1) (framingLoss u) else svcNak (fld f 1 1) 1 u) := by
  subst hu
  exact congrArg _ (if_neg (by rw [hr]; exact Bool.false_ne_true))

theorem exec_bastikFramingLoss (hr : u.svcRuns = true) : exec (.bastikFramingLoss dt) s = .next (framingLoss u) := by
  subst hu
  exact congrArg _ (if_pos hr)

end

section

variable {s : State} {f : List Byte} (hr : s.svcRuns = true)
include hr

theorem svcRuns_not : ¬ (!s.svcRuns) = true := by
  rw [hr]
  exact Bool.false_ne_true

theorem bastikDataFrame_long (hl : 4106 < f.length) : bastikDataFrame f s = framingLoss s := by
  rw [bastikDataFrame, if_neg (svcRuns_not hr), if_pos hl]

variable (hl : f.length ≤ 4106)
include hl

theorem bastikDataFrame_bad (hok : svcFrameOk f = false) : bastikDataFrame f s = svcNak (fld f 1 1) 1 s := by
  rw [bastikDataFrame, if_neg (svcRuns_not hr), if_neg (Nat.not_lt.2 hl)]
  exact if_pos (by rw [hok]; rfl)

theorem bastikPollFrame_bad (hok : svcFrameOk f = false) : bastikPollFrame f s = svcNak (fld f 1 1) 1 s := by
  rw [bastikPollFrame, if_neg (svcRuns_not hr), if_neg (Nat.not_lt.2 hl)]
  exact if_pos (by rw [hok]; rfl)

variable (hok : svcFrameOk f = true)
include hok

theorem bastikDataFrame_again (h : svcSeq s.host.bastik (fld f 1 1) = .again) : bastikDataFrame f s = svcAck (fld f 1 1) s := by
  rw [bastikDataFrame, if_neg (svcRuns_not hr), if_neg (Nat.not_lt.2 hl)]
  dsimp only
  rw [hok, h]
  rfl

theorem bastikDataFrame_wrong (h : svcSeq s.host.bastik (fld f 1 1) = .wrong) : bastikDataFrame f s = svcNak (fld f 1 1) 2 s := by
  rw [bastikDataFrame, if_neg (svcRuns_not hr), if_neg (Nat.not_lt.2 hl)]
  dsimp only
  rw [hok, h]
  rfl

/-- The octets gathered with a DATA frame in order. -/
def gathered (f : List Byte) (b : Bastik) : List Byte := (if fld f 2 1 % 2 = 1 then [] else b.rxBuf.getD []) ++ slice f 6 (fld f 4 2)

theorem bastikDataFrame_piece (h : svcSeq s.host.bastik (fld f 1 1) = .next) (hlast : fld f 2 1 / 2 % 2 ≠ 1) :
    bastikDataFrame f s = svcAck (fld f 1 1) { s with host := { s.host with bastik := { s.host.bastik with
      lastRx := some (BitVec.ofNat 8 (fld f 1 1)), rxBuf := some (gathered f s.host.bastik) } } } := by
  rw [bastikDataFrame, if_neg (svcRuns_not hr), if_neg (Nat.not_lt.2 hl)]
  dsimp only
  rw [hok, h]
  dsimp only
  rw [if_neg hlast, if_neg hlast]
  rfl

theorem bastikDataFrame_last (h : svcSeq s.host.bastik (fld f 1 1) = .next) (hlast : fld f 2 1 / 2 % 2 = 1) :
    bastikDataFrame f s = arrive 2 .svc (gathered f s.host.bastik) (svcAck (fld f 1 1) { s with host := { s.host with bastik := { s.host.bastik with
      lastRx := some (BitVec.ofNat 8 (fld f 1 1)), rxBuf := none } } }) := by
  rw [bastikDataFrame, if_neg (svcRuns_not hr), if_neg (Nat.not_lt.2 hl)]
  dsimp only
  rw [hok, h]
  dsimp only
  rw [if_pos hlast, if_pos hlast]
  rfl

/-- No fragment has gone out, and the one asked for is the next. -/
theorem bastikPollFrame_first (hlast : s.host.bastik.txLast = none) (hn : fld f 6 1 = s.host.bastik.txSeq.toNat) :
    bastikPollFrame f s = bastikPollFrame.pollNext (fld f 6 1) s.host.bastik (fld f 1 1) s := by
  rw [bastikPollFrame, if_neg (svcRuns_not hr), if_neg (Nat.not_lt.2 hl)]
  dsimp only
  rw [hok, hlast]
  exact if_pos hn

/-- The fragment that went out last goes out again. -/
theorem bastikPollFrame_repeat {l : BitVec 8} {o : List Byte} (hlast : s.host.bastik.txLast = some (l, o)) (hn : fld f 6 1 = l.toNat) :
    bastikPollFrame f s = svcSend o s := by
  rw [bastikPollFrame, if_neg (svcRuns_not hr), if_neg (Nat.not_lt.2 hl)]
  dsimp only
  rw [hok, hlast]
  exact if_pos hn.symm

end

theorem pollNext_empty {next q : Nat} {s : State} (h : s.host.bastik.replies = []) :
    bastikPollFrame.pollNext next s.host.bastik q s = svcSend (svcFrame 0x84 q 0 0 []) s := by
  unfold bastikPollFrame.pollNext
  rw [svcCurrent, h]
  exact ite_self _

/-- A reply of one fragment leaves with it. -/
theorem pollNext_whole {next q : Nat} {r : Reply} {s : State} (hn : next = s.host.bastik.txSeq.toNat) (hr : s.host.bastik.replies = [r])
    (hx : s.host.bastik.txRest = none) (hlen : (replyBytes r).length ≤ 4096) :
    bastikPollFrame.pollNext next s.host.bastik q s = (svcSend (svcFrame 0x83 next 3 0 (replyBytes r)) { s with host := { s.host with bastik :=
      { s.host.bastik with txSeq := s.host.bastik.txSeq + 1, txLast := some (s.host.bastik.txSeq, svcFrame 0x83 next 3 0 (replyBytes r)),
                           txRest := none, replies := [] } } }).modIface 2 fun x =>
        { x with cSent := inc x.cSent, tags := if r.taken then x.tags.erase r.tag else x.tags } := by
  have hcur : svcCurrent s.host.bastik = some (r, replyBytes r, true, []) := by rw [svcCurrent, hr, hx]
  unfold bastikPollFrame.pollNext
  dsimp only
  rw [if_neg (not_not_intro hn), hcur]
  dsimp only
  rw [List.drop_eq_nil_of_le hlen, List.take_of_length_le hlen]
  rfl

theorem svcFrameOk_length {f : List Byte} (h : svcFrameOk f = true) : f.length ≤ 4106 := by
  simp only [svcFrameOk, Bool.and_eq_true, decide_eq_true_eq] at h
  obtain ⟨⟨⟨-, hlen⟩, hpay⟩, -⟩ := h
  omega

theorem svcSeq_start {b : Bastik} (q : Nat) (h : b.lastRx = none) : svcSeq b q = if q = 0 then .next else .wrong := by rw [svcSeq, h]

theorem svcSeq_after {b : Bastik} {l : BitVec 8} (h : b.lastRx = some l) : svcSeq b l.toNat = .again ∧ svcSeq b (l + 1).toNat = .next := by
  have hne : l.toNat ≠ (l + 1).toNat := by bv_omega
  refine ⟨?_, ?_⟩
  · rw [svcSeq, h]
    exact if_pos rfl
  · rw [svcSeq, h]
    exact (if_neg hne).trans (if_pos rfl)

theorem framingLoss_bastik (s : State) : (framingLoss s).host.bastik = bastikClear s.host.bastik := by
  rw [framingLoss, ifReset_host]
  rfl

theorem framingLoss_epoch (s : State) : (framingLoss s).host.svc.epoch = s.host.svc.epoch + 1 := (ifReset_iface_self 2 s).1

/-- Settles O45: the lemmas `bastikDataFrame_bad` to `pollNext_whole` are the branches of a frame's treatment. -/
theorem bastikFollowsItsRules : Obligations.BastikFollowsItsRules := by
  unfold Obligations.BastikFollowsItsRules
  refine ⟨?bad, ?again, ?wrong, ?first, ?last, fun b q h => svcSeq_start q h, fun b l h => svcSeq_after h, ?empty, ?reply, ?repeated, ?resync,
    fun dt s u hu hr => exec_bastikFramingLoss hu hr, ?long, ?loss⟩
  case bad =>
    intro dt s u f hu hr hl hok
    rw [exec_bastikData hu, exec_bastikPoll hu, exec_bastikResync hu hr, bastikDataFrame_bad hr hl hok, bastikPollFrame_bad hr hl hok, hok]
    exact ⟨rfl, rfl, rfl⟩
  case again =>
    intro dt s u f hu hr hl hok h
    rw [exec_bastikData hu, bastikDataFrame_again hr hl hok h]
  case wrong =>
    intro dt s u f hu hr hl hok h
    rw [exec_bastikData hu, bastikDataFrame_wrong hr hl hok h]
  case first =>
    intro dt s u f hu hr hl hok h hf
    rw [exec_bastikData hu, bastikDataFrame_piece hr hl hok h (by rw [hf]; decide), gathered, hf]
    rfl
  case last =>
    intro dt s u f old hu hr hl hok h hf hold
    rw [exec_bastikData hu, bastikDataFrame_last hr hl hok h (by rw [hf]), gathered, hf, hold]
    rfl
  case empty =>
    intro dt s u f hu hr hl hok hlast hn hrep
    rw [exec_bastikPoll hu, bastikPollFrame_first hr hl hok hlast hn, pollNext_empty hrep]
    rfl
  case reply =>
    intro dt s u f r hu hr hl hok hlast hn hrep hrest hlen
    refine ⟨_, exec_bastikPoll hu, ?_⟩
    rw [bastikPollFrame_first hr hl hok hlast hn, pollNext_whole hn hrep hrest hlen]
    exact ⟨rfl, rfl, rfl, rfl, rfl⟩
  case repeated =>
    intro dt s u f o l hu hr hl hok hlast hn
    rw [exec_bastikPoll hu, bastikPollFrame_repeat hr hl hok hlast hn]
    rfl
  case resync =>
    intro dt s u f hu hr hok
    rw [exec_bastikResync hu hr, if_pos hok]
  case long =>
    intro dt s u f hu hr hl
    rw [exec_bastikData hu, bastikDataFrame_long hr hl]
  case loss =>
    intro s
    rw [framingLoss_bastik]
    exact ⟨rfl, rfl, rfl, framingLoss_epoch s⟩

/-! ### The endpoint (R428, R453, R454, R463) -/

theorem ringOff_rings (r : Nat) (s : State) : (ringOff r s).ingress.rings =
    vset s.ingress.rings r { vget {} s.ingress.rings r with enabled := false, queue := [] } := by
  unfold ringOff
  extract_lets x s1
  have h1 : s1.ingress.rings = s.ingress.rings := foldl_keeps_read (fun s : State => s.ingress.rings) (g := fun s f => classDrop f.cls s) (fun _ _ => rfl) x.queue s
  change vset s1.ingress.rings r _ = _
  rw [h1]

theorem ringOff_dma (r : Nat) (s : State) : (ringOff r s).dma = s.dma := by
  unfold ringOff
  extract_lets x s1
  exact foldl_keeps_read State.dma (g := fun s f => classDrop f.cls s) (fun _ _ => rfl) x.queue s

/-- A ring as a link that goes down leaves it. -/
def RingDown (x : RxRing) : Prop := x.enabled = false ∧ x.head = 0 ∧ x.tail = 0

/-- One step of `ringsDown`: ring `r` goes down, the others stay. -/
def ringDown (r : Nat) (s : State) : State :=
  let s1 := ringOff r s
  { s1 with ingress := { s1.ingress with rings := vset s1.ingress.rings r { vget {} s1.ingress.rings r with head := 0, tail := 0 } } }

theorem ringsDown_eq (s : State) : ringsDown s = (List.range 8).foldl (fun s r => ringDown r s) s := rfl

theorem ringDown_ring (r : Nat) {k : Nat} (hk : k < 8) {s : State} (h : RingDown (vget {} s.ingress.rings k) ∨ k = r) :
    RingDown (vget {} (ringDown r s).ingress.rings k) := by
  change RingDown (vget {} (vset (ringOff r s).ingress.rings r { vget {} (ringOff r s).ingress.rings r with head := 0, tail := 0 }) k)
  rw [ringOff_rings]
  by_cases hkr : k = r
  · subst hkr
    rw [vget_vset_self _ _ _ _ hk, vget_vset_self _ _ _ _ hk]
    exact ⟨rfl, rfl, rfl⟩
  · rw [vget_vset_ne _ _ _ _ _ (Ne.symm hkr), vget_vset_ne _ _ _ _ _ (Ne.symm hkr)]
    exact h.resolve_right hkr

theorem foldl_ringDown_ring {k : Nat} (hk : k < 8) (l : List Nat) (s : State) (h : RingDown (vget {} s.ingress.rings k) ∨ k ∈ l) :
    RingDown (vget {} (l.foldl (fun s r => ringDown r s) s).ingress.rings k) := by
  induction l generalizing s with
  | nil => exact h.resolve_right List.not_mem_nil
  | cons r l ih =>
    refine ih _ ?_
    by_cases hkl : k ∈ l
    · exact .inr hkl
    · exact .inl (ringDown_ring r hk (h.imp id fun hm => (List.mem_cons.1 hm).resolve_right hkl))

theorem ringsDown_ring {k : Nat} (hk : k < 8) (s : State) : RingDown (vget {} (ringsDown s).ingress.rings k) := by
  rw [ringsDown_eq]
  exact foldl_ringDown_ring hk _ s (.inr (List.mem_range.2 hk))

theorem ringsDown_dma (s : State) : (ringsDown s).dma = s.dma := by
  rw [ringsDown_eq]
  exact foldl_keeps_read State.dma (g := fun s r => ringDown r s) (fun s r => ringOff_dma r s) _ s

theorem ifReset_dma (i : Nat) (s : State) : (ifReset i s).dma = s.dma := by
  obtain ⟨u, h⟩ := ifReset_eq i s
  rw [h]
  exact State.setIface_dma s i _

theorem ifReset_ingress (i : Nat) (s : State) : (ifReset i s).ingress = s.ingress := by
  obtain ⟨u, h⟩ := ifReset_eq i s
  rw [h]
  exact State.setIface_ingress s i _

theorem pcieDown_dma (s : State) : (pcieDown s).dma = (dmaStop 5 s).dma := by
  rw [pcieDown, ifReset_dma, ringsDown_dma]

theorem vget_map {α β : Type} {n : Nat} (d : α) (e : β) (f : α → β) (v : Vector α n) {i : Nat} (hi : i < n) :
    vget e (v.map f) i = f (vget d v i) := by
  rw [vget, dif_pos hi, vget, dif_pos hi, Vector.getElem_map]

theorem pcieDown_ch (s : State) {c : Nat} (hc : c < 14) : (pcieDown s).ch c = chKill 5 (s.ch c) := by
  rw [State.ch, pcieDown_dma]
  exact vget_map {} {} (chKill 5) s.dma.chans hc

theorem pcieDown_rq (s : State) {n : Nat} (hn : n < 32) : (pcieDown s).rq n = rqDisableQueue s.now (s.rq n) := by
  rw [State.rq, pcieDown_dma]
  exact vget_map {} {} (rqDisableQueue s.now) s.dma.queues hn

theorem chKill_running {code : Nat} {x : DmaCh} (h : x.run.isSome = true) : chKill code x =
    { x with state := .error, error := BitVec.ofNat 8 code, crc := 0, listsErr := inc x.listsErr, run := none } := if_pos h

theorem chKill_idle {code : Nat} {x : DmaCh} (h : x.run = none) : chKill code x = x := if_neg (by rw [h]; exact Bool.false_ne_true)

theorem rqDisableQueue_off (now : Ps) (q : Rq) : (rqDisableQueue now q).enable = false := by
  cases h : q.enable with
  | true => rw [rqDisableQueue, if_pos h]
  | false => rw [rqDisableQueue, if_neg (by simp [h]), h]

/-- The interface reset of a link that goes down finds the host's part as the link found it. -/
theorem pcieDown_epoch (s : State) : (pcieDown s).host.ring.epoch = s.host.ring.epoch + 1 := by
  have h := (ifReset_iface_self 0 (ringsDown (dmaStop 5 s))).1
  have hh : (ringsDown (dmaStop 5 s)).host = s.host := ringsDown_host (dmaStop 5 s)
  rw [State.iface, State.iface, if_pos rfl, if_pos rfl, hh] at h
  rw [pcieDown]
  exact h

/-- A vector out of range reads as one that does not pend. -/
theorem vec_quiet {s : State} (h : ∀ v, v < 32 → (s.vec v).masked = true ∨ (s.vec v).pending = false) (v : Nat) :
    ((s.vec v).pending && !(s.vec v).masked) = false := by
  by_cases hv : v < 32
  · obtain h | h := h v hv
    · rw [h, Bool.not_true, Bool.and_false]
    · rw [h, Bool.false_and]
  · rw [State.vec, vget, dif_neg hv]
    rfl

/-- A link that comes up unmasks no vector where none is pending unmasked. -/
theorem foldl_vecUnmask_quiet {s : State} (h : ∀ v, v < 32 → (s.vec v).masked = true ∨ (s.vec v).pending = false) (l : List Nat) :
    l.foldl (fun s v => if (s.vec v).pending && !(s.vec v).masked then vecUnmask v s else s) s = s :=
  List.foldl_fixed' (fun v => if_neg (by rw [vec_quiet h v]; exact Bool.false_ne_true)) l

/-- What a PCIe link that comes up writes before its vectors are looked at. -/
def linkNoted (x : PcieSettings) (s : State) : State :=
  { s with
    host := { s.host with pcieUp := true, busMaster := x.busMaster || s.host.busMaster, payload := x.payload, readSize := x.readSize }
    integ := { s.integ with clockFaults := s.integ.clockFaults.filter fun d => d ≠ .pclk } }

/-- A PCIe link that comes up (R417, R454, R460). -/
def linkedUp (x : PcieSettings) (s : State) : State :=
  if (linkNoted x s).host.busMaster then
    (List.range 32).foldl (fun s v => if (s.vec v).pending && !(s.vec v).masked then vecUnmask v s else s) (linkNoted x s)
  else linkNoted x s

/-- What a change of the management link writes. -/
def mgmtLinkNoted (up : Bool) (s : State) : State :=
  { s with host := { s.host with mgmtLink := up }
           integ := { s.integ with clockFaults := if up then s.integ.clockFaults.filter (fun d => d ≠ .gclk) else s.integ.clockFaults } }

theorem linkedUp_quiet {x : PcieSettings} {s : State}
    (h : x.busMaster = false ∧ s.host.busMaster = false ∨ ∀ v, v < 32 → (s.vec v).masked = true ∨ (s.vec v).pending = false) :
    linkedUp x s = linkNoted x s := by
  unfold linkedUp
  split
  · rename_i hm
    obtain ⟨hx, hb⟩ | hq := h
    · have hno : (linkNoted x s).host.busMaster = (x.busMaster || s.host.busMaster) := rfl
      rw [hno, hx, hb] at hm
      exact absurd hm Bool.false_ne_true
    · exact foldl_vecUnmask_quiet (s := linkNoted x s) hq _
  · rfl

theorem mgmtLinkNoted_same {s : State} (h : s.host.mgmtLink = false) : mgmtLinkNoted false s = s :=
  congrArg (fun b => { s with host := { s.host with mgmtLink := b } }) h.symm

section

variable {dt : Ps} {s u : State} (hu : u = s.elapse dt)
include hu

theorem exec_pcieLinkDown (b : Bool) : exec (.pcieLinkDown dt b) s = .next (if u.host.pcieUp && (!b || u.host.busMaster) then
    { pcieDown u with host := { (pcieDown u).host with pcieUp := b, busMaster := false } } else u) := hu ▸ rfl

theorem exec_pcieLinkUp (x : PcieSettings) : exec (.pcieLinkUp dt x) s = .next (if u.sys.phase = .running && u.sys.mode != .dormant then
    linkedUp x u else u) := hu ▸ rfl

theorem exec_endpointReset : exec (.endpointReset dt) s = .next (if u.sys.phase = .running then bar0Reset (pcieDown u) else u) := hu ▸ rfl

theorem exec_mgmtLinkChange (b : Bool) : exec (.mgmtLinkChange dt b) s = .next (if !u.online then u
    else if u.host.mgmtLink && !b then ifReset 1 (mgmtLinkNoted b u) else mgmtLinkNoted b u) := hu ▸ rfl

end

/-- Settles O48: the endpoint's rows are `exec_pcieLinkDown` to `exec_mgmtLinkChange`, and `pcieDown_ch`, `pcieDown_rq`,
`ringsDown_ring` and `pcieDown_epoch` say what a link that goes down leaves. -/
theorem endpointEventsTakeEffect : Obligations.EndpointEventsTakeEffect := by
  unfold Obligations.EndpointEventsTakeEffect
  refine ⟨?down, ?master, ?noDown, ?noUp, ?noReset, ?offline, ?mgmtStays, ?channels, ?queues, ?rings, fun s => ⟨pcieDown_epoch s, ?window⟩, ?endpoint,
    fun s => ?registers, ?up, ?mgmtDown, ?mgmtUp⟩
  case down =>
    intro dt s u v hu hup hv
    rw [exec_pcieLinkDown hu, if_pos (by rw [hup]; rfl), hv]
  case master =>
    intro dt s u v hu hup hb hv
    rw [exec_pcieLinkDown hu, if_pos (by rw [hup, hb]; rfl), hv]
  case noDown =>
    intro dt s u b hu h
    have hno : (u.host.pcieUp && (!b || u.host.busMaster)) = false := by
      obtain h | ⟨rfl, h⟩ := h
      · rw [h, Bool.false_and]
      · rw [h]
        exact Bool.and_false _
    rw [exec_pcieLinkDown hu, if_neg (by rw [hno]; exact Bool.false_ne_true)]
  case noUp =>
    intro dt s u x hu h
    have hno : (u.sys.phase = .running && u.sys.mode != .dormant) = false := by
      obtain h | h := h
      · rw [decide_eq_false h, Bool.false_and]
      · rw [h]
        exact Bool.and_false _
    rw [exec_pcieLinkUp hu, if_neg (by rw [hno]; exact Bool.false_ne_true)]
  case noReset =>
    intro dt s u hu h
    rw [exec_endpointReset hu, if_neg h]
  case offline =>
    intro dt s u b hu h
    rw [exec_mgmtLinkChange hu, if_pos (by rw [h]; rfl)]
  case mgmtStays =>
    intro dt s u hu ho hm
    rw [exec_mgmtLinkChange hu, if_neg (by rw [ho]; exact Bool.false_ne_true), if_neg (by rw [hm]; exact Bool.false_ne_true),
      mgmtLinkNoted_same hm]
  case channels =>
    intro s c hc
    rw [pcieDown_ch s hc]
    refine ⟨fun h => ?_, fun h => chKill_idle h⟩
    rw [chKill_running h]
    exact ⟨rfl, rfl, rfl, rfl⟩
  case queues =>
    intro s n hn
    rw [pcieDown_rq s hn]
    exact rqDisableQueue_off s.now (s.rq n)
  case rings =>
    intro s k hk
    rw [pcieDown, ifReset_ingress]
    exact ringsDown_ring hk _
  case window =>
    rw [pcieDown_dma]
    rfl
  case endpoint =>
    intro dt s u v hu h hv
    rw [exec_endpointReset hu, if_pos h, hv]
  case registers =>
    have hlo : loWord 0x0FFFFFFFFFFFFFFF#64 = 0xFFFFFFFF#32 := by decide
    have hhi : hiWord 0x0FFFFFFFFFFFFFFF#64 = 0x0FFFFFFF#32 := by decide
    exact ⟨rfl, rfl, hlo, hhi, rfl, rfl, rfl, rfl⟩
  case up =>
    intro dt s u x hu hp hm hq
    rw [exec_pcieLinkUp hu, if_pos (by rw [decide_eq_true hp, Bool.true_and, bne_iff_ne]; exact hm), linkedUp_quiet hq]
    rfl
  case mgmtDown =>
    intro dt s u hu ho hm
    rw [exec_mgmtLinkChange hu, if_neg (by rw [ho]; exact Bool.false_ne_true), if_pos (by rw [hm]; rfl)]
    rfl
  case mgmtUp =>
    intro dt s u hu ho
    rw [exec_mgmtLinkChange hu, if_neg (by rw [ho]; exact Bool.false_ne_true), if_neg (by rw [Bool.not_true, Bool.and_false]; exact Bool.false_ne_true)]
    rfl

end Sys2Proof.Machine
end

section
/-! SUPPORT. The step and the reset state: the front of the queue runs, and what the registers read after a power-on reset (R452, R457 to R459). -/

namespace Sys2Proof.Machine

/-- Settles O1. -/
theorem stepRunsTheCommand : Obligations.StepRunsTheCommand := by
  unfold Obligations.StepRunsTheCommand
  refine ⟨fun c rest s h => ?_, fun _ _ => rfl, fun s h => ?_⟩
  · rw [step, h]
  · rw [step, h]

/-- The vectors of four causes: cause n has vector n mod 32 (R459). Offset 0x1040 belongs to another register. -/
theorem reset_interruptMap {m : Nat} (hm : m < 16) (h8 : m ≠ 8) : readReg (0x1020 + 4 * m) State.reset =
    BitVec.ofNat 32 (4 * m % 32 + (4 * m + 1) % 32 * 256 + (4 * m + 2) % 32 * 65536 + (4 * m + 3) % 32 * 16777216) := by
  rcases Nat.lt_or_gt_of_ne h8 with h | h
  · interval_cases m <;> rfl
  · interval_cases m <;> rfl

/-- Settles O2: the reset state is closed, so each register's value is its evaluation. -/
theorem resetHoldsTheStatedValues : Obligations.ResetHoldsTheStatedValues := by
  unfold Obligations.ResetHoldsTheStatedValues
  exact ⟨rfl, rfl, rfl, rfl, rfl, rfl, rfl, rfl, rfl, rfl, rfl, rfl, rfl, rfl, rfl, fun m hm h8 => reset_interruptMap hm h8, fun _ _ => rfl,
    rfl, rfl, rfl, rfl, rfl, rfl, rfl, rfl, rfl, rfl, rfl, rfl, rfl⟩

end Sys2Proof.Machine
end

section
/-! SUPPORT. The DMA channels: the registers' writes, the descriptor fetch, the turns of the read engine, what the end of a read and of a list
writes, and the statements on them (R416, R417, R419, R420, R422 to R430, R433 to R435). -/

namespace Sys2Proof.Machine

/-! ### A write of DMA_CTRL and the descriptor fetch (R424, R426, R427, R429) -/

section

variable {dt : Ps} {s u : State} {c : Nat} (hu : u = s.elapse dt)
include hu

theorem exec_dmaDescriptorFetch (b : Option (List Byte)) :
    exec (.dmaDescriptorFetch dt c b) s = .next (if u.dmaRuns then dmaFetch c b u else u) := hu ▸ rfl

theorem exec_dmaListComplete : exec (.dmaListComplete dt c) s = .next (if u.dmaRuns then dmaEnd c u else u) := hu ▸ rfl

theorem exec_dmaStart_row (v : Word32) : exec (.dmaStart dt c v) s = .next (if u.bar0Runs then u.setCh c (chCtrl (v ||| 1#32) (u.ch c)) else u) :=
  hu ▸ rfl

theorem exec_dmaAbort_row : exec (.dmaAbort dt c) s = .next (if u.bar0Runs then u.setCh c (chAbort (u.ch c)) else u) := hu ▸ rfl

theorem exec_dmaClear_row : exec (.dmaClear dt c) s = .next (if u.bar0Runs then u.setCh c (chClear (u.ch c)) else u) := hu ▸ rfl

variable (hr : u.bar0Runs = true)
include hr

theorem exec_dmaStart (v : Word32) : exec (.dmaStart dt c v) s = .next (u.setCh c (chCtrl (v ||| 1#32) (u.ch c))) := by
  rw [exec_dmaStart_row hu, if_pos hr]

theorem exec_dmaAbort : exec (.dmaAbort dt c) s = .next (u.setCh c (chAbort (u.ch c))) := by
  rw [exec_dmaAbort_row hu, if_pos hr]

theorem exec_dmaClear : exec (.dmaClear dt c) s = .next (u.setCh c (chClear (u.ch c))) := by
  rw [exec_dmaClear_row hu, if_pos hr]

end

/-- The fields of a write with START set (R426). -/
theorem startWord (v : Word32) : (v ||| 1#32).getLsbD 0 = true ∧ (v ||| 1#32).getLsbD 1 = v.getLsbD 1 ∧ (v ||| 1#32).getLsbD 2 = v.getLsbD 2
    ∧ (v ||| 1#32).getLsbD 3 = v.getLsbD 3 ∧ (v ||| 1#32).extractLsb' 4 2 = v.extractLsb' 4 2 ∧ (v ||| 1#32).getLsbD 6 = v.getLsbD 6 := by
  have h1 : (1#32).extractLsb' 4 2 = 0#2 := by decide
  refine ⟨?_, ?_, ?_, ?_, by rw [BitVec.extractLsb'_or, h1, BitVec.or_zero], ?_⟩
  all_goals
    rw [BitVec.getLsbD_or]
    simp

/-- A channel with the fields that a write of DMA_CTRL latches (R426). -/
def chLatched (v : Word32) (x : DmaCh) : DmaCh := { x with noSnoop := v.getLsbD 3, crcMode := v.extractLsb' 4 2, intEn := v.getLsbD 6 }

theorem chCtrl_start {v : Word32} {x : DmaCh} (h1 : v.getLsbD 1 = false) (h2 : v.getLsbD 2 = false) :
    chCtrl (v ||| 1#32) x = chStart (chLatched v x) := by
  obtain ⟨e0, e1, e2, e3, e4, e6⟩ := startWord v
  rw [chCtrl, if_pos e0, if_neg (by rw [e2, h2]; exact Bool.false_ne_true), if_neg (fun h => absurd (e1.symm.trans h.1) (by rw [h1]; exact Bool.false_ne_true)),
    e3, e4, e6]
  rfl

theorem startOk_iff (x : DmaCh) : startOk x = true ↔ x.state = .idle ∧ (1 ≤ x.count.toNat ∧ x.count.toNat ≤ 4096) ∧ x.crcMode.toNat ≤ 2 := by
  rw [startOk, Bool.and_eq_true, Bool.and_eq_true, decide_eq_true_eq, decide_eq_true_eq, inRange_iff, and_assoc]

theorem chAbort_idle {x : DmaCh} (h : x.run = none) : chAbort x = x := by rw [chAbort, h]

theorem chAbort_running {x : DmaCh} {r : DmaRun} (h : x.run = some r) :
    chAbort x = { x with run := some { r with ending := some (r.ending.getD 1) } } := by rw [chAbort, h]

section

variable {s : State} {c : Nat} {r : DmaRun} (hrun : (s.ch c).run = some r)
include hrun

/-- A list that ends, copies or has no descriptor left takes none. -/
theorem dmaFetch_idle {b : Option (List Byte)} (h : r.ending.isSome = true ∨ r.desc.isSome = true ∨ r.count ≤ r.next) : dmaFetch c b s = s := by
  rw [dmaFetch, hrun]
  refine if_pos ?_
  rw [Bool.or_eq_true, Bool.or_eq_true, decide_eq_true_eq, or_assoc]
  exact h

variable (he : r.ending = none) (hd : r.desc = none) (hn : r.next < r.count)
include he hd hn

omit hrun in
theorem takesDescriptor : ¬ (r.ending.isSome || r.desc.isSome || decide (r.count ≤ r.next)) = true := by
  rw [he, hd, decide_eq_false (Nat.not_le.2 hn)]
  exact Bool.false_ne_true

theorem dmaFetch_takes (b : Option (List Byte)) :
    dmaFetch c b s = issueReads 128 ((s.emit (.hostRead (r.list + 32 * r.next) 32)).setCh c (chFetch b (s.ch c))) := by
  rw [dmaFetch, hrun]
  exact if_neg (takesDescriptor he hd hn)

theorem chFetch_unread : chFetch none (s.ch c) = { s.ch c with run := some { r with ending := some 3 } } := by
  rw [chFetch, hrun]
  exact if_neg (takesDescriptor he hd hn)

theorem chFetch_invalid {b : List Byte} (hb : descInvalid b (if r.crcMode = 2 ∧ r.next + 1 = r.count then 4 else 0) = true) :
    chFetch (some b) (s.ch c) = { s.ch c with run := some { r with ending := some 2 } } := by
  rw [chFetch, hrun]
  exact (if_neg (takesDescriptor he hd hn)).trans (if_pos hb)

theorem chFetch_valid {b : List Byte} (hb : descInvalid b (if r.crcMode = 2 ∧ r.next + 1 = r.count then 4 else 0) = false) :
    chFetch (some b) (s.ch c) = { s.ch c with
      segment := BitVec.ofNat 13 r.next
      run := some { r with desc := some (parseDesc b), next := r.next + 1, issued := 0, copied := 0, written := [] } } := by
  rw [chFetch, hrun]
  exact (if_neg (takesDescriptor he hd hn)).trans (if_neg (by rw [hb]; exact Bool.false_ne_true))

end

/-! ### The read engine's turns (R417, R419) -/

theorem canIssue_iff (s : State) (c : Nat) : canIssue s c = true ↔ ∃ r d, (s.ch c).run = some r ∧ r.desc = some d ∧ r.ending = none
    ∧ r.issued < d.len ∧ (chunksOf c s).length < 32 ∧ s.dma.buffer.length < 128 := by
  rw [canIssue]
  cases hr : (s.ch c).run with
  | none => simp
  | some r => cases hd : r.desc <;> simp [hd, and_assoc]

theorem nextChannel_none {s : State} (h : ∀ c, c < 14 → canIssue s c = false) : nextChannel s = none := by
  refine List.find?_eq_none.2 fun c hc => ?_
  obtain ⟨i, -, rfl⟩ := List.mem_map.1 hc
  rw [h _ (Nat.mod_lt _ (by decide))]
  exact Bool.false_ne_true

theorem nextChannel_first {s : State} {i : Nat} (hi : i < 14) (h : canIssue s ((s.dma.turn + i) % 14) = true)
    (hb : ∀ j, j < i → canIssue s ((s.dma.turn + j) % 14) = false) : nextChannel s = some ((s.dma.turn + i) % 14) := by
  rw [nextChannel, List.find?_map, Option.map_eq_some_iff]
  refine ⟨i, List.find?_range_eq_some.2 ⟨h, List.mem_range.2 hi, fun j hj => ?_⟩, rfl⟩
  rw [Function.comp, hb j hj]
  rfl

theorem nextChannel_some {s : State} {c : Nat} (h : nextChannel s = some c) : c < 14 ∧ canIssue s c = true := by
  refine ⟨?_, List.find?_some h⟩
  obtain ⟨i, -, rfl⟩ := List.mem_map.1 (List.mem_of_find?_eq_some h)
  exact Nat.mod_lt _ (by decide)

theorem issueReads_none {s : State} (m : Nat) (h : nextChannel s = none) : issueReads m s = s := by
  cases m with
  | zero => rfl
  | succ m => rw [issueReads, h]

theorem issueReads_some {s : State} {c : Nat} (m : Nat) (h : nextChannel s = some c) : issueReads (m + 1) s = issueReads m (issueRead c s) := by
  rw [issueReads, h]

/-- What holds before and through each transaction that the read engine may issue holds after them. -/
theorem issueReads_induct (P : State → Prop) (hP : ∀ s c, c < 14 → canIssue s c = true → P s → P (issueRead c s)) (m : Nat) (s : State) (h : P s) :
    P (issueReads m s) := by
  induction m generalizing s with
  | zero => exact h
  | succ m ih =>
    cases hc : nextChannel s with
    | none => rwa [issueReads_none _ hc]
    | some c =>
      rw [issueReads_some m hc]
      exact ih _ (hP s c (nextChannel_some hc).1 (nextChannel_some hc).2 h)

/-- The state that the issue of a transaction leaves. -/
theorem issueRead_eq {s : State} {c : Nat} {r : DmaRun} {d : Desc} (hr : (s.ch c).run = some r) (hd : r.desc = some d) :
    issueRead c s = { s with
      outputs := if d.srcWin then s.outputs
        else .hostRead (d.src + pieceAt d r.issued (pieceLen s.host.readSize d r.issued)) (pieceLen s.host.readSize d r.issued) r.attrs :: s.outputs
      dma := { s.dma with
        chans := vset s.dma.chans c { s.ch c with run := some { r with issued := r.issued + pieceLen s.host.readSize d r.issued } }
        buffer := s.dma.buffer ++ [{ ch := c, at_ := pieceAt d r.issued (pieceLen s.host.readSize d r.issued)
                                     len := pieceLen s.host.readSize d r.issued, data := none }]
        turn := (c + 1) % 14 } } := by
  rw [issueRead, hr]
  dsimp only
  rw [hd]
  dsimp only
  cases d.srcWin <;> rfl

theorem pieceLen_bounds (most : Nat) (d : Desc) (k : Nat) (hk : k < d.len) (hm : 1 ≤ most) :
    1 ≤ pieceLen most d k ∧ pieceLen most d k ≤ 512 ∧ pieceLen most d k ≤ d.len - k := by
  unfold pieceLen
  dsimp only
  split_ifs <;> omega

/-- A read of host memory stays within the read size and within a page of 4 KiB (R417). -/
theorem pieceLen_host (most : Nat) (d : Desc) (k : Nat) (hk : k < d.len) (hm : 1 ≤ most) (hs : d.srcWin = false) :
    pieceLen most d k ≤ most
      ∧ (d.src + pieceAt d k (pieceLen most d k)) / 4096 = (d.src + pieceAt d k (pieceLen most d k) + pieceLen most d k - 1) / 4096 := by
  unfold pieceLen pieceAt
  simp only [hs, Bool.false_eq_true, if_false]
  split_ifs <;> omega

/-- The read engine changes nothing but the DMA block and the outputs. -/
theorem issueReads_frame (m : Nat) (s : State) : { issueReads m s with dma := s.dma, outputs := s.outputs } = s := by
  refine issueReads_induct (fun t => { t with dma := s.dma, outputs := s.outputs } = s) (fun t c _ hc h => ?_) m s rfl
  obtain ⟨r, d, hr, hd, -⟩ := (canIssue_iff t c).1 hc
  rw [issueRead_eq hr hd]
  exact h

theorem issueReads_window (m : Nat) (s : State) : (issueReads m s).dma.window = s.dma.window := by
  refine issueReads_induct (fun t => t.dma.window = s.dma.window) (fun t c _ hc h => ?_) m s rfl
  obtain ⟨r, d, hr, hd, -⟩ := (canIssue_iff t c).1 hc
  rw [issueRead_eq hr hd]
  exact h

theorem issueRead_ch {s : State} {c : Nat} {r : DmaRun} {d : Desc} (hc : c < 14) (hr : (s.ch c).run = some r) (hd : r.desc = some d) :
    (issueRead c s).ch c = { s.ch c with run := some { r with issued := r.issued + pieceLen s.host.readSize d r.issued } } := by
  rw [issueRead_eq hr hd]
  exact vget_vset_self _ _ _ _ hc

theorem issueReads_chState (m : Nat) (s : State) (c : Nat) : ((issueReads m s).ch c).state = (s.ch c).state := by
  refine issueReads_induct (fun t => (t.ch c).state = (s.ch c).state) (fun t i hi hc h => ?_) m s rfl
  obtain ⟨r, d, hr, hd, -⟩ := (canIssue_iff t i).1 hc
  by_cases hic : i = c
  · subst hic
    rw [issueRead_ch hi hr hd]
    exact h
  · rw [issueRead_eq hr hd]
    exact (congrArg DmaCh.state (vget_vset_ne _ _ _ _ _ hic)).trans h

theorem issueReads_buffer (m : Nat) (s : State) (h : s.dma.buffer.length ≤ 128) : (issueReads m s).dma.buffer.length ≤ 128 := by
  refine issueReads_induct (fun t => t.dma.buffer.length ≤ 128) (fun t c _ hc _ => ?_) m s h
  obtain ⟨r, d, hr, hd, -, -, -, hlt⟩ := (canIssue_iff t c).1 hc
  rw [issueRead_eq hr hd]
  change (t.dma.buffer ++ [_]).length ≤ 128
  rw [List.length_append, List.length_singleton]
  exact hlt

theorem issueReads_chunks (m : Nat) (s : State) (c : Nat) (h : (chunksOf c s).length ≤ 32) : (chunksOf c (issueReads m s)).length ≤ 32 := by
  refine issueReads_induct (fun t => (chunksOf c t).length ≤ 32) (fun t i _ hi ht => ?_) m s h
  obtain ⟨r, d, hr, hd, -, -, hlt, -⟩ := (canIssue_iff t i).1 hi
  rw [issueRead_eq hr hd]
  change ((t.dma.buffer ++ [_]).filter _).length ≤ 32
  rw [List.filter_append, List.length_append]
  by_cases hic : i = c
  · subst hic
    exact Nat.add_le_add (Nat.le_of_lt_succ hlt) (List.length_filter_le _ _)
  · rw [List.filter_cons_of_neg (by simpa using hic)]
    exact ht

/-! ### What the check code's reads leave alone (R416, R420, R524) -/

/-- The injected errors of DRAM. -/
def dramErrors (s : State) : List Injected := s.integ.injected.filter fun x => x.cls = 13

theorem injectedFlips_eq (item addr : Nat) (s : State) : injectedFlips 13 item addr s =
    (dramErrors s).foldl (fun v x => if x.index = item ∧ x.addr = addr then v ^^^ x.flips else v) 0 := by
  rw [dramErrors, List.foldl_filter, injectedFlips]
  congr 1
  funext v x
  by_cases h : x.cls = 13
  · simp [h]
  · simp [h]

theorem dramHits_eq (addr n : Nat) (s : State) : dramHits addr n s = (((dramErrors s).filter fun x =>
    spansMeet addr n (dramAddr x.index (x.addr / 4 * 4)) 4).map fun x => (x.index, x.addr)).eraseDups := by
  rw [dramHits, dramErrors, List.filter_filter]
  congr 3
  funext x
  exact Bool.and_comm _ _

theorem dramUnreadable_congr {s t : State} (h : dramErrors t = dramErrors s) (addr n : Nat) : dramUnreadable addr n t = dramUnreadable addr n s := by
  rw [dramUnreadable, dramUnreadable, dramHits_eq, dramHits_eq, h]
  congr 1
  funext x
  rw [wordBad, wordBad, injectedFlips_eq, injectedFlips_eq, h]

/-- A state that differs from `s` in its integrity block and its DMA buffer, with the same errors in DRAM. -/
def SameDram (s t : State) : Prop := ∃ g b, t = { s with integ := g, dma := { s.dma with buffer := b } } ∧ dramErrors t = dramErrors s

theorem SameDram.refl (s : State) : SameDram s s := ⟨s.integ, s.dma.buffer, rfl, rfl⟩

theorem SameDram.trans {s t u : State} (h : SameDram s t) (h' : SameDram t u) : SameDram s u := by
  obtain ⟨g, b, rfl, e⟩ := h
  obtain ⟨g', b', rfl, e'⟩ := h'
  exact ⟨g', b', rfl, e'.trans e⟩

theorem SameDram.windowUnreadable {s t : State} (h : SameDram s t) (at_ n : Nat) : windowUnreadable at_ n t = windowUnreadable at_ n s := by
  obtain ⟨g, b, rfl, e⟩ := h
  rw [Machine.windowUnreadable, Machine.windowUnreadable, dramUnreadable_congr e]
  rfl

theorem SameDram.mergeBad {s t : State} (h : SameDram s t) (win : Bool) (at_ n : Nat) : mergeBad win at_ n t = mergeBad win at_ n s := by
  rw [Machine.mergeBad, Machine.mergeBad]
  congr 2
  funext w
  exact h.windowUnreadable w 4

theorem SameDram.memory {s t : State} (h : SameDram s t) : t.dma.window = s.dma.window ∧ t.dma.chans = s.dma.chans ∧ t.dma.winBad = s.dma.winBad
    ∧ t.outputs = s.outputs ∧ t.host = s.host := by
  obtain ⟨g, b, rfl, -⟩ := h
  exact ⟨rfl, rfl, rfl, rfl, rfl⟩

theorem SameDram.ch {s t : State} (h : SameDram s t) (c : Nat) : t.ch c = s.ch c :=
  congrArg (fun v : Vector DmaCh 14 => vget ({} : DmaCh) v c) h.memory.2.1

/-- A state that differs from `s` in its integrity block but not in the injected errors. -/
def SameErrors (s t : State) : Prop := ∃ g, t = { s with integ := g } ∧ g.injected = s.integ.injected

theorem SameErrors.refl (s : State) : SameErrors s s := ⟨s.integ, rfl, rfl⟩

theorem SameErrors.trans {s t u : State} (h : SameErrors s t) (h' : SameErrors t u) : SameErrors s u := by
  obtain ⟨g, rfl, e⟩ := h
  obtain ⟨g', rfl, e'⟩ := h'
  exact ⟨g', rfl, e'.trans e⟩

theorem SameErrors.sameDram {s t : State} (h : SameErrors s t) : SameDram s t := by
  obtain ⟨g, rfl, e⟩ := h
  exact ⟨g, s.dma.buffer, rfl, congrArg (List.filter _) e⟩

theorem countError_sameErrors (cls addr syn : Nat) (k : Ecc) (s : State) : SameErrors s (countError cls addr syn k s) := by
  cases k <;> exact ⟨_, rfl, rfl⟩

theorem queueWriteBack_sameErrors (ch access : Nat) (s : State) : SameErrors s (queueWriteBack ch access s) := by
  unfold queueWriteBack
  extract_lets q
  split_ifs
  · exact SameErrors.refl s
  · exact ⟨_, rfl, rfl⟩
  · exact ⟨_, rfl, rfl⟩

theorem readBeat_sameErrors (ch addr : Nat) (s : State) : SameErrors s (readBeat ch addr s) := by
  unfold readBeat
  extract_lets v s1
  have h1 : SameErrors s s1 := countError_sameErrors ..
  split
  · exact h1.trans (queueWriteBack_sameErrors ..)
  · exact h1

theorem dramRead_sameErrors (addr n : Nat) (s : State) : SameErrors s (dramRead addr n s) := by
  unfold dramRead
  generalize dramHits addr n s = l
  induction l generalizing s with
  | nil => exact SameErrors.refl s
  | cons h l ih => exact (readBeat_sameErrors h.1 h.2 s).trans (ih _)

theorem mergeRead_sameErrors (win : Bool) (at_ n : Nat) (s : State) : SameErrors s (mergeRead win at_ n s) := by
  unfold mergeRead
  split
  · generalize mergeWords at_ n = l
    have hfold : ∀ t, SameErrors s t → SameErrors s (l.foldl (fun s w => dramRead (s.windowBase + w) 4 s) t) := by
      induction l with
      | nil => exact fun t ht => ht
      | cons w l ih => exact fun t ht => ih _ (ht.trans (dramRead_sameErrors ..))
    exact hfold s (SameErrors.refl s)
  · exact SameErrors.refl s

/-! ### The end of a read (R416, R420, R428) -/

/-- The chunks but those of a transaction's place. -/
def chunksBut (k : Chunk) (l : List Chunk) : List Chunk := l.filter fun x => !(x.ch = k.ch && x.at_ = k.at_)

/-- A chunk takes the data of a read. -/
def chunkFilled (k : Chunk) (bs : List Byte) (x : Chunk) : Chunk := if x.ch = k.ch ∧ x.at_ = k.at_ then { x with data := some bs } else x

theorem chunkFilled_place (k : Chunk) (bs : List Byte) (x : Chunk) : (chunkFilled k bs x).ch = x.ch ∧ (chunkFilled k bs x).at_ = x.at_ := by
  unfold chunkFilled
  split_ifs <;> exact ⟨rfl, rfl⟩

theorem chunksBut_map_filled (k : Chunk) (bs : List Byte) (l : List Chunk) : chunksBut k (l.map (chunkFilled k bs)) = chunksBut k l := by
  induction l with
  | nil => rfl
  | cons x l ih =>
    obtain ⟨hch, hat⟩ := chunkFilled_place k bs x
    unfold chunksBut at ih ⊢
    rw [List.map_cons, List.filter_cons, List.filter_cons, ih, hch, hat]
    by_cases hx : x.ch = k.ch ∧ x.at_ = k.at_
    · simp [hx]
    · rw [chunkFilled, if_neg hx]

theorem fillChunk_sameDram (k : Chunk) (bs : List Byte) (s : State) : SameDram s (fillChunk k bs s) := by
  refine ⟨_, _, rfl, ?_⟩
  change (s.integ.injected.filter _).filter _ = s.integ.injected.filter _
  rw [List.filter_filter]
  refine List.filter_congr fun x _ => ?_
  by_cases h : x.cls = 13
  · simp [h]
  · simp [h]

theorem fillChunk_buffer (k : Chunk) (bs : List Byte) (s : State) : (fillChunk k bs s).dma.buffer = s.dma.buffer.map (chunkFilled k bs) := rfl

theorem dropChunk_sameDram (k : Chunk) (s : State) : SameDram s (dropChunk k s) := ⟨s.integ, _, rfl, rfl⟩

theorem chunksOf_map_filled (c : Nat) (k : Chunk) (bs : List Byte) (s : State) :
    chunksOf c (fillChunk k bs s) = (chunksOf c s).map (chunkFilled k bs) := by
  rw [chunksOf, fillChunk_buffer, List.filter_map, chunksOf]
  congr 2
  funext x
  exact congrArg (fun n => decide (n = c)) (chunkFilled_place k bs x).1

/-- The write engine stops at a chunk that waits for its read. -/
theorem writeReady_none {c : Nat} {s : State} (m : Nat) (h : ∀ x, x ∈ chunksOf c s → x.data = none) : writeReady c m s = s := by
  cases m with
  | zero => rfl
  | succ m =>
    rw [writeReady]
    split
    · rename_i ch at_ len bs t hk
      exact absurd (h _ (by rw [hk]; exact List.mem_cons_self)) (Option.some_ne_none bs)
    · rfl

section

variable {w : State} {c : Nat} {r : DmaRun} {d : Desc} {k : Chunk} (h : oldestRead w c r d k)
include h

theorem oldestRead.chunk_ch : k.ch = c := by
  obtain ⟨-, -, -, -, hk, -⟩ := h
  exact of_decide_eq_true (List.mem_filter.1 (List.mem_of_mem_head? (Option.mem_def.2 hk))).2

theorem oldestRead.first : ((chunksOf c w).filter fun k => k.data.isNone)[0]? = some k := by
  obtain ⟨-, -, -, -, hk, hnone⟩ := h
  rw [List.filter_eq_self.2 fun x hx => by rw [hnone x hx]; rfl, ← List.head?_eq_getElem?, hk]

/-- With the transaction's chunk given up, the channel's other chunks wait for their reads. -/
theorem oldestRead.others {t : State} (ht : t.dma.buffer = chunksBut k w.dma.buffer) : ∀ x, x ∈ chunksOf c t → x.data = none := by
  obtain ⟨-, -, -, -, -, hnone⟩ := h
  intro x hx
  rw [chunksOf, ht] at hx
  obtain ⟨hx, hc⟩ := List.mem_filter.1 hx
  exact hnone x (List.mem_filter.2 ⟨(List.mem_filter.1 hx).1, hc⟩)

omit h in
theorem sourceRead_sameErrors (d : Desc) (k : Chunk) (w : State) :
    SameErrors w (if d.srcWin then dramRead (w.windowBase + d.src + k.at_) k.len w else w) := by
  split
  · exact dramRead_sameErrors ..
  · exact SameErrors.refl w

theorem oldestRead.source : ((w.ch c).run.bind fun r => r.desc) = some d := by
  obtain ⟨-, -, hr, hd, -⟩ := h
  rw [hr]
  exact hd

/-- The source's words are read; the rest is as before but the integrity block. -/
theorem dmaRead_error_eq {data : ReadData} {code : Nat} (ha : readAnswer d k data w = some (.error code)) :
    ∃ s1, SameErrors w s1 ∧ dmaRead c { data } w = dmaServe c (failList c code (dropChunk k s1)) := by
  refine ⟨_, sourceRead_sameErrors d k w, ?_⟩
  rw [dmaRead]
  dsimp only
  rw [h.first]
  dsimp only
  rw [h.source]
  dsimp only
  rw [ha]

theorem dmaRead_ok_eq {data : ReadData} {bs : List Byte} (ha : readAnswer d k data w = some (.ok bs)) :
    ∃ s1, SameErrors w s1 ∧ dmaRead c { data } w = dmaServe c (fillChunk k bs s1) := by
  refine ⟨_, sourceRead_sameErrors d k w, ?_⟩
  rw [dmaRead]
  dsimp only
  rw [h.first]
  dsimp only
  rw [h.source]
  dsimp only
  rw [ha]

/-- A read that fails ends its list once the transactions in flight have ended. -/
theorem dmaRead_error {data : ReadData} {code : Nat} (ha : readAnswer d k data w = some (.error code)) :
    ∃ t, SameDram w t ∧ t.dma.buffer = chunksBut k w.dma.buffer ∧ dmaRead c { data } w = issueReads 128 (failList c code t) := by
  obtain ⟨s1, h1, he⟩ := dmaRead_error_eq h ha
  obtain ⟨g, rfl, -⟩ := id h1
  refine ⟨dropChunk k { w with integ := g }, h1.sameDram.trans (dropChunk_sameDram ..), rfl, ?_⟩
  rw [he, dmaServe, writeReady_none]
  exact h.others rfl

omit h in
theorem writeReady_first {s : State} {bs : List Byte} (m : Nat) (hk : (chunksOf c s).head? = some k) (hb : k.data = some bs) :
    writeReady c (m + 1) s = writeReady c m (writeChunk k bs s) := by
  obtain ⟨ch, at_, len, data⟩ := k
  obtain ⟨rest, hrest⟩ : ∃ rest, chunksOf c s = ⟨ch, at_, len, data⟩ :: rest := by
    cases hl : chunksOf c s with
    | nil => rw [hl] at hk; exact absurd hk.symm (Option.some_ne_none _)
    | cons x rest => rw [hl] at hk; exact ⟨rest, by rw [Option.some.inj hk]⟩
  obtain rfl : data = some bs := hb
  rw [writeReady, hrest]

omit h in
theorem writeChunk_eq {s : State} {bs : List Byte} (hr : (s.ch k.ch).run = some r) (hd : r.desc = some d) : writeChunk k bs s =
    if mergeBad d.dstWin (d.dst + k.at_) bs.length (dropChunk k s) then
      failList k.ch 4 (mergeRead d.dstWin (d.dst + k.at_) bs.length (dropChunk k s))
    else chTransfer k.ch k.at_ d r bs (mergeRead d.dstWin (d.dst + k.at_) bs.length (dropChunk k s)) := by
  have hr' : ((dropChunk k s).ch k.ch).run = some r := hr
  rw [writeChunk]
  dsimp only
  rw [hr']
  dsimp only
  rw [hd]

omit h in
theorem chTransfer_buffer (at_ : Nat) (bs : List Byte) (s : State) : (chTransfer c at_ d r bs s).dma.buffer = s.dma.buffer := by
  unfold chTransfer writeSpace
  dsimp only
  cases d.dstWin <;> rfl

/-- The data of the oldest read are written at once, or a merge read ends the list. -/
theorem dmaRead_ok {data : ReadData} {bs : List Byte} (ha : readAnswer d k data w = some (.ok bs)) :
    ∃ t, SameDram w t ∧ t.dma.buffer = chunksBut k w.dma.buffer ∧ dmaRead c { data } w =
      issueReads 128 (if mergeBad d.dstWin (d.dst + k.at_) bs.length w then failList c 4 t else chTransfer c k.at_ d r bs t) := by
  obtain ⟨s1, h1, he⟩ := dmaRead_ok_eq h ha
  have hch := h.chunk_ch
  obtain ⟨hruns, hc, hr, hd, hk, hnone⟩ := id h
  obtain ⟨hKch, hKat⟩ := chunkFilled_place k bs k
  generalize hK : chunkFilled k bs k = K at hKch hKat
  generalize hF : fillChunk k bs s1 = F
  have hfill : SameDram w F := hF ▸ h1.sameDram.trans (fillChunk_sameDram ..)
  have hdrop : SameDram w (dropChunk K F) := hfill.trans (dropChunk_sameDram ..)
  have hbuf : (dropChunk K F).dma.buffer = chunksBut k w.dma.buffer := by
    obtain ⟨g, rfl, -⟩ := h1
    rw [dropChunk, ← hF, hKch, hKat]
    exact chunksBut_map_filled k bs w.dma.buffer
  have hm := mergeRead_sameErrors d.dstWin (d.dst + k.at_) bs.length (dropChunk K F)
  generalize hT : mergeRead d.dstWin (d.dst + k.at_) bs.length (dropChunk K F) = T at hm
  have hTbuf : T.dma.buffer = chunksBut k w.dma.buffer := by
    obtain ⟨g, rfl, -⟩ := hm
    exact hbuf
  refine ⟨T, hdrop.trans hm.sameDram, hTbuf, ?_⟩
  have hhead : (chunksOf c F).head? = some K := by
    obtain ⟨g, rfl, -⟩ := h1
    rw [← hF, chunksOf_map_filled, List.head?_map, ← hK]
    exact congrArg (Option.map _) hk
  have hdata : K.data = some bs := by
    rw [← hK, chunkFilled, if_pos ⟨rfl, rfl⟩]
  have hFr : (F.ch K.ch).run = some r := by
    rw [hfill.ch, hKch, hch]
    exact hr
  have hw := writeChunk_eq (k := K) (bs := bs) hFr hd
  rw [hKat, hT, hdrop.mergeBad, hKch, hch] at hw
  rw [he, hF, dmaServe, writeReady_first 31 hhead hdata, hw, writeReady_none]
  refine h.others ?_
  split
  · exact hTbuf
  · exact (chTransfer_buffer ..).trans hTbuf

end

section

variable {s : State} {c at_ : Nat} {d : Desc} {r : DmaRun} {bs : List Byte}

theorem chTransfer_window (hd : d.dstWin = true) : (chTransfer c at_ d r bs s).dma.window = memWrite s.dma.window (d.dst + at_) bs
    ∧ (chTransfer c at_ d r bs s).outputs = s.outputs := by
  rw [chTransfer, writeSpace, if_pos hd]
  exact ⟨rfl, rfl⟩

theorem chTransfer_host (hd : d.dstWin = false) : (chTransfer c at_ d r bs s).dma.window = s.dma.window
    ∧ (chTransfer c at_ d r bs s).outputs = ((requests s.host.payload bs.length (d.dst + at_) bs.length).map fun x =>
      .hostWrite x.1 (slice bs (x.1 - (d.dst + at_)) x.2) r.attrs).reverse ++ s.outputs := by
  rw [chTransfer, writeSpace, if_neg (by rw [hd]; exact Bool.false_ne_true)]
  exact ⟨rfl, rfl⟩

/-- The run of a list after a transaction of it is written (R430, R433). -/
def ranOn (d : Desc) (r : DmaRun) (bs : List Byte) : DmaRun :=
  let written := if descending d then bs ++ r.written else r.written ++ bs
  if r.copied + bs.length = d.len then
    { r with desc := none, issued := 0, copied := 0, written := [], crc := crc32cRun r.crc written, last := some (d.dst + d.len, d.dstWin) }
  else { r with copied := r.copied + bs.length, written }

theorem chTransfer_ch (hc : c < 14) :
    (chTransfer c at_ d r bs s).ch c = { s.ch c with bytes := (s.ch c).bytes + BitVec.ofNat 64 bs.length, run := some (ranOn d r bs) } := by
  have hset : chTransfer c at_ d r bs s = (writeSpace r.attrs d.dstWin (d.dst + at_) bs s).setCh c
    { s.ch c with bytes := (s.ch c).bytes + BitVec.ofNat 64 bs.length, run := some (ranOn d r bs) } := rfl
  rw [hset, State.setCh_ch_self _ _ _ hc]

theorem failList_ch {code : Nat} (hc : c < 14) (hr : (s.ch c).run = some r) :
    ((failList c code s).ch c).run = some { r with ending := some (r.ending.getD code) } := by
  rw [failList, State.setCh_ch_self _ _ _ hc, hr]
  rfl

theorem failList_memory (c code : Nat) (s : State) : (failList c code s).dma.window = s.dma.window ∧ (failList c code s).outputs = s.outputs := ⟨rfl, rfl⟩

end

theorem readAnswer_host {d : Desc} {k : Chunk} {b : List Byte} {w : State} (hs : d.srcWin = false) (hb : b.length = k.len) :
    readAnswer d k (.host b) w = some (.ok b) := by
  rw [readAnswer, hs, hb]
  exact if_neg (by simp)

theorem readAnswer_window {d : Desc} {k : Chunk} {w : State} (hs : d.srcWin = true) (hu : windowUnreadable (d.src + k.at_) k.len w = false) :
    readAnswer d k .window w = some (.ok (memRead w.dma.window (d.src + k.at_) k.len)) := by
  rw [readAnswer, hs, hu]
  rfl

theorem readAnswer_unreadable {d : Desc} {k : Chunk} {w : State} (hs : d.srcWin = true) (hu : windowUnreadable (d.src + k.at_) k.len w = true) :
    readAnswer d k .window w = some (.error 4) := by
  rw [readAnswer, hs, hu]
  rfl

theorem readAnswer_hostError {d : Desc} {k : Chunk} {w : State} (hs : d.srcWin = false) : readAnswer d k .hostError w = some (.error 3) := by
  rw [readAnswer, hs]
  rfl

theorem readAnswer_dramError {d : Desc} {k : Chunk} {w : State} (hs : d.srcWin = true) : readAnswer d k .dramError w = some (.error 4) := by
  rw [readAnswer, hs]
  rfl

theorem memRead_length (m : List Host.Cell) (a n : Nat) : (memRead m a n).length = n := by
  rw [memRead, List.length_map, List.length_range]

/-- The row of a read's end, where DMA runs. -/
theorem exec_dmaReadComplete {dt : Ps} {s w : State} {c : Nat} (x : ReadDone) (hw : w = chunkRead (s.elapse dt)) :
    exec (.dmaReadComplete dt c x) s = .next (if w.dmaRuns then dmaRead c x w else w) := hw ▸ rfl

section

variable {dt : Ps} {s w : State} {c : Nat} {r : DmaRun} {d : Desc} {k : Chunk} (hw : w = chunkRead (s.elapse dt)) (h : oldestRead w c r d k)
include hw h

/-- Where the data reach the window, the bytes written are those that arrived. -/
theorem readComplete_toWindow {data : ReadData} {bs : List Byte} (ha : readAnswer d k data w = some (.ok bs)) (hlen : bs.length = k.len)
    (hwin : d.dstWin = true) (hm : mergeBad true (d.dst + k.at_) k.len w = false) :
    ∃ t, SameDram w t ∧ t.dma.buffer = chunksBut k w.dma.buffer
      ∧ exec (.dmaReadComplete dt c { data }) s = .next (issueReads 128 (chTransfer c k.at_ d r bs t)) := by
  obtain ⟨t, ht, hbuf, he⟩ := dmaRead_ok h ha
  rw [hlen, hwin, if_neg (by rw [hm]; exact Bool.false_ne_true)] at he
  exact ⟨t, ht, hbuf, by rw [exec_dmaReadComplete _ hw, if_pos h.1, he]⟩

/-- A merge read that fails ends the list. -/
theorem readComplete_mergeBad {data : ReadData} {bs : List Byte} (ha : readAnswer d k data w = some (.ok bs)) (hlen : bs.length = k.len)
    (hwin : d.dstWin = true) (hm : mergeBad true (d.dst + k.at_) k.len w = true) :
    ∃ t, SameDram w t ∧ exec (.dmaReadComplete dt c { data }) s = .next (issueReads 128 (failList c 4 t)) := by
  obtain ⟨t, ht, -, he⟩ := dmaRead_ok h ha
  rw [hlen, hwin, if_pos hm] at he
  exact ⟨t, ht, by rw [exec_dmaReadComplete _ hw, if_pos h.1, he]⟩

/-- Where the data go to host memory, they leave in requests. -/
theorem readComplete_toHost {data : ReadData} {bs : List Byte} (ha : readAnswer d k data w = some (.ok bs)) (hlen : bs.length = k.len)
    (hwin : d.dstWin = false) :
    ∃ v, exec (.dmaReadComplete dt c { data }) s = .next (issueReads 128 v) ∧ v.dma.window = w.dma.window
      ∧ v.outputs = ((requests w.host.payload k.len (d.dst + k.at_) k.len).map fun x =>
          .hostWrite x.1 (slice bs (x.1 - (d.dst + k.at_)) x.2) { noSnoop := r.noSnoop }).reverse ++ w.outputs := by
  obtain ⟨t, ht, -, he⟩ := dmaRead_ok h ha
  obtain ⟨hwindow, -, -, hout, hhost⟩ := ht.memory
  obtain ⟨hv, ho⟩ := chTransfer_host (s := t) (c := c) (at_ := k.at_) (r := r) (bs := bs) hwin
  have hmerge : ¬ mergeBad d.dstWin (d.dst + k.at_) bs.length w = true := by
    rw [hwin]
    exact Bool.false_ne_true
  rw [if_neg hmerge] at he
  refine ⟨chTransfer c k.at_ d r bs t, by rw [exec_dmaReadComplete _ hw, if_pos h.1, he], hv.trans hwindow, ?_⟩
  rw [ho, hout, hhost, hlen]
  rfl

/-- A read that fails ends the list and writes nothing. -/
theorem readComplete_error {data : ReadData} {code : Nat} (ha : readAnswer d k data w = some (.error code)) :
    ∃ v, exec (.dmaReadComplete dt c { data }) s = .next (issueReads 128 v) ∧ v.dma.window = w.dma.window ∧ v.outputs = w.outputs
      ∧ (v.ch c).run = some { r with ending := some (r.ending.getD code) } := by
  obtain ⟨t, ht, -, he⟩ := dmaRead_error h ha
  obtain ⟨hwindow, -, -, hout, -⟩ := ht.memory
  obtain ⟨hruns, hc, hr, -⟩ := id h
  exact ⟨failList c code t, by rw [exec_dmaReadComplete _ hw, if_pos hruns, he], hwindow, hout, failList_ch hc (by rw [ht.ch, hr])⟩

end

/-! ### The end of a list (R425, R427, R434) -/

section

variable {s : State} {c : Nat} {r : DmaRun} (hr : (s.ch c).run = some r)
include hr

/-- A list with a transaction in flight, or with a segment or a descriptor left, does not end. -/
theorem dmaEnd_waits (h : chunksOf c s ≠ [] ∨ r.ending = none ∧ (r.desc.isSome = true ∨ r.next < r.count)) : dmaEnd c s = s := by
  rw [dmaEnd, hr]
  refine if_pos ?_
  rw [Bool.or_eq_true]
  refine h.imp (fun h => ?_) fun ⟨he, hd⟩ => ?_
  · simpa [List.isEmpty_iff] using h
  · rw [he]
    simpa using hd

end

theorem dmaEnd_idle {s : State} {c : Nat} (h : (s.ch c).run = none) : dmaEnd c s = s := by rw [dmaEnd, h]

/-- The channel of a list that has ended with a code (R425, R427). -/
def chEnded (code : Nat) (crc : Word32) (x : DmaCh) : DmaCh :=
  { x with
    state := if code = 0 then .done else .error
    error := BitVec.ofNat 8 code
    crc
    listsOk := if code = 0 then inc x.listsOk else x.listsOk
    listsErr := if code = 0 then x.listsErr else inc x.listsErr
    run := none }

/-- The completion record leaves, and the channel's list has ended. -/
def recordSent (c code : Nat) (crc : Word32) (r : DmaRun) (x : DmaCh) (s : State) : State :=
  (s.emit (.hostWrite r.cmpl (completionRecord code x.segment.toNat crc x.bytes.toNat))).setCh c (chEnded code crc x)

/-- The list's interrupt. -/
def listCause (c : Nat) (r : DmaRun) (s : State) : State := if r.intEn then raiseCause (causeDma c) s else s

/-- The merge reads for the appended CRC fail. -/
def appendBad (r : DmaRun) (s : State) : Bool := r.last.any fun e => r.ending.isNone && r.crcMode = 2 && mergeBad e.2 e.1 4 s

/-- The code that a list ends with (R428). -/
def endCode (r : DmaRun) (s : State) : Nat := if appendBad r s then 4 else r.ending.getD 0

/-- The CRC that a list ends with (R433). -/
def endCrc (r : DmaRun) (code : Nat) : Word32 := if code = 0 ∧ r.crcMode ≠ 0 then r.crc ^^^ 0xFFFFFFFF#32 else 0#32

/-- The CRC is appended to the last segment (R434). -/
def crcAppended (r : DmaRun) (code : Nat) (crc : Word32) (s : State) : State :=
  r.last.elim s fun e => if code = 0 ∧ r.crcMode = 2 then writeSpace r.attrs e.2 e.1 (le 4 crc.toNat) (mergeRead e.2 e.1 4 s) else s

theorem dmaEnd_eq {s : State} {c : Nat} {r : DmaRun} (hr : (s.ch c).run = some r) (hb : chunksOf c s = [])
    (hf : r.ending = none → r.desc = none ∧ r.next = r.count) : dmaEnd c s =
    listCause c r (recordSent c (endCode r s) (endCrc r (endCode r s)) r (s.ch c) (crcAppended r (endCode r s) (endCrc r (endCode r s)) s)) := by
  have hno : ¬ (!(chunksOf c s).isEmpty || (r.ending.isNone && (r.desc.isSome || decide (r.next < r.count)))) = true := by
    rw [hb]
    cases he : r.ending with
    | some code => simp
    | none =>
      obtain ⟨hd, hn⟩ := hf he
      simp [hd, hn]
  rw [dmaEnd, hr]
  refine (if_neg hno).trans ?_
  extract_lets append code crc s1 s2 s3
  have h1 : s1 = crcAppended r code crc s := by
    unfold s1 crcAppended
    cases r.last <;> rfl
  change listCause c r (recordSent c code crc r (s.ch c) s1) = _
  rw [h1]
  rfl

theorem vecEvent_dma (v : Nat) (s : State) : (vecEvent v s).dma = s.dma := by
  unfold vecEvent
  extract_lets m put gap
  split
  · rfl
  · split
    · split <;> rfl
    · rfl

theorem raiseCause_dma (n : Nat) (s : State) : (raiseCause n s).dma = s.dma := by
  unfold raiseCause
  extract_lets was
  split
  · exact vecEvent_dma _ _
  · rfl

theorem listCause_dma (c : Nat) (r : DmaRun) (s : State) : (listCause c r s).dma = s.dma := by
  unfold listCause
  split
  · exact raiseCause_dma _ s
  · rfl

theorem listCause_outputs {c : Nat} {r : DmaRun} {s : State} {o : Output} (h : o ∈ s.outputs) : o ∈ (listCause c r s).outputs := by
  unfold listCause
  split
  · exact raiseCause_outputs_mem h
  · exact h

section

variable {c code : Nat} {crc : Word32} {r : DmaRun} {x : DmaCh} {s t : State} (ht : t = listCause c r (recordSent c code crc r x s))
include ht

theorem listEnd_ch (hc : c < 14) : t.ch c = chEnded code crc x := by
  rw [ht, State.ch, listCause_dma]
  exact State.setCh_ch_self _ _ _ hc

theorem listEnd_window : t.dma.window = s.dma.window := by
  rw [ht, listCause_dma]
  rfl

theorem listEnd_record : .hostWrite r.cmpl (completionRecord code x.segment.toNat crc x.bytes.toNat) ∈ t.outputs := by
  rw [ht]
  exact listCause_outputs List.mem_cons_self

theorem listEnd_outputs {o : Output} (h : o ∈ s.outputs) : o ∈ t.outputs := by
  rw [ht]
  exact listCause_outputs (List.mem_cons_of_mem _ h)

theorem listEnd_cause (hc : c < 14) (hi : r.intEn = true) : t.host.cause.getLsbD (causeDma c) = true := by
  rw [ht, listCause, if_pos hi]
  exact raiseCause_set _ (by unfold causeDma; omega) _

end

theorem endCode_ended {r : DmaRun} {code : Nat} (s : State) (h : r.ending = some code) : endCode r s = code := by
  have hb : appendBad r s = false := by
    rw [appendBad, h]
    cases r.last <;> rfl
  rw [endCode, hb, h]
  rfl

theorem endCode_plain {r : DmaRun} (s : State) (h : r.ending = none) (hm : r.crcMode ≠ 2) : endCode r s = 0 := by
  have hb : appendBad r s = false := by
    rw [appendBad, decide_eq_false hm]
    cases r.last with
    | none => rfl
    | some e => simp
  rw [endCode, hb, h]
  rfl

theorem endCode_append {r : DmaRun} {s : State} {e : Nat} {win : Bool} (h : r.ending = none) (hm : r.crcMode = 2) (hl : r.last = some (e, win)) :
    endCode r s = if mergeBad win e 4 s then 4 else 0 := by
  have hb : appendBad r s = mergeBad win e 4 s := by
    rw [appendBad, hl, h, decide_eq_true hm]
    rfl
  rw [endCode, hb, h]
  rfl

theorem crcAppended_not {r : DmaRun} {code : Nat} {crc : Word32} {s : State} (h : ¬ (code = 0 ∧ r.crcMode = 2)) : crcAppended r code crc s = s := by
  rw [crcAppended]
  cases r.last with
  | none => rfl
  | some e => exact if_neg h

theorem crcAppended_append {r : DmaRun} {crc : Word32} {s : State} {e : Nat} {win : Bool} (hm : r.crcMode = 2) (hl : r.last = some (e, win)) :
    crcAppended r 0 crc s = writeSpace r.attrs win e (le 4 crc.toNat) (mergeRead win e 4 s) := by
  rw [crcAppended, hl]
  exact if_pos ⟨rfl, hm⟩

theorem requestLen_bounds (most addr n : Nat) (hm : 1 ≤ most) (hn : n ≠ 0) : 1 ≤ requestLen most addr n ∧ requestLen most addr n ≤ n
    ∧ requestLen most addr n ≤ most ∧ addr / 4096 = (addr + requestLen most addr n - 1) / 4096 := by
  unfold requestLen
  omega

/-- The requests cover their bytes, each within the limit and within a page (R417). -/
theorem requests_cover (most : Nat) (hm : 1 ≤ most) (f addr n : Nat) (hf : n ≤ f) : ((requests most f addr n).map (·.2)).sum = n
    ∧ ∀ x, x ∈ requests most f addr n → 1 ≤ x.2 ∧ x.2 ≤ most ∧ addr ≤ x.1 ∧ x.1 + x.2 ≤ addr + n ∧ x.1 / 4096 = (x.1 + x.2 - 1) / 4096 := by
  induction f generalizing addr n with
  | zero => exact ⟨(Nat.le_zero.1 hf).symm, fun x hx => absurd hx List.not_mem_nil⟩
  | succ f ih =>
    rw [requests]
    by_cases hn : n = 0
    · rw [if_pos hn]
      exact ⟨hn.symm, fun x hx => absurd hx List.not_mem_nil⟩
    · rw [if_neg hn]
      obtain ⟨h1, hle, hmost, hpage⟩ := requestLen_bounds most addr n hm hn
      obtain ⟨hsum, hall⟩ := ih (addr + requestLen most addr n) (n - requestLen most addr n) (by omega)
      refine ⟨?_, fun x hx => ?_⟩
      · rw [List.map_cons, List.sum_cons, hsum]
        exact Nat.add_sub_cancel' hle
      · obtain rfl | hx := List.mem_cons.1 hx
        · exact ⟨h1, hmost, Nat.le_refl _, Nat.add_le_add_left hle _, hpage⟩
        · obtain ⟨a1, a2, a3, a4, a5⟩ := hall x hx
          exact ⟨a1, a2, by omega, by omega, a5⟩

theorem touch_none {cls : Nat} {p : Nat → Nat → Bool} {s : State} (h : s.integ.injected = []) : touch cls p s = s := by
  have hw : injectedWords cls p s = [] := by
    rw [injectedWords, h]
    rfl
  rw [touch, badWords, readWords, hw]
  rfl

/-- Settles O49. The registers: `chCtrl_start`, `chAbort_running` and `dmaFetch_takes`. The read engine: `nextChannel_first` and `issueRead_eq`,
with `issueReads_induct` for what its transactions keep. A read's end: `readComplete_toWindow` to `readComplete_error`. A list's end: `dmaEnd_eq`. -/
theorem dmaFollowsItsRules : Obligations.DmaFollowsItsRules := by
  unfold Obligations.DmaFollowsItsRules
  refine ⟨?start, ?refused, fun dt s u c v hu hr => exec_dmaStart hu hr v, ?abortIdle, ?abort, ?clear, ?clearIdle, ?fetch, ?invalid, ?unread, ?fetchIdle,
    fun s m h => issueReads_none m (nextChannel_none h), ?turn, ?issued, ?piece, fun s m h => issueReads_buffer m s h,
    fun s m c h => issueReads_chunks m s c h, fun s m => ⟨issueReads_frame m s, issueReads_window m s, issueReads_chState m s⟩, ?written, ?mergeBad, ?toHost,
    ?winToWin, ?unreadable, ?hostToHost, ?hostError, ?dramError, ?noRead, ?clean, ?done, ?append, ?failed, ?waits,
    fun most addr n hm => requests_cover most hm n addr n (Nat.le_refl n)⟩
  case start =>
    intro dt s u c v hu hr h1 h2 hi hlo hhi hm
    have hok : startOk (chLatched v (u.ch c)) = true := (startOk_iff _).2 ⟨hi, ⟨hlo, hhi⟩, hm⟩
    rw [exec_dmaStart hu hr, chCtrl_start h1 h2, chStart, if_pos hok]
    rfl
  case refused =>
    intro dt s u c v hu hr h1 h2 h
    have hno : ¬ startOk (chLatched v (u.ch c)) = true := by
      rw [startOk_iff]
      rintro ⟨hi, ⟨hlo, hhi⟩, hm⟩
      change (v.extractLsb' 4 2).toNat ≤ 2 at hm
      change 1 ≤ (u.ch c).count.toNat at hlo
      change (u.ch c).count.toNat ≤ 4096 at hhi
      obtain h | h := h
      · exact h hi
      · omega
    rw [exec_dmaStart hu hr, chCtrl_start h1 h2, chStart, if_neg hno]
    rfl
  case abortIdle =>
    intro dt s u c hu hr h
    rw [exec_dmaAbort hu hr, chAbort_idle h]
  case abort =>
    intro dt s u c r hu hr h
    rw [exec_dmaAbort hu hr, chAbort_running h]
  case clear =>
    intro dt s u c hu hr h
    rw [exec_dmaClear hu hr, chClear, if_pos h]
  case clearIdle =>
    intro dt s u c hu hr hd he
    rw [exec_dmaClear hu hr, chClear, if_neg (not_or.2 ⟨hd, he⟩)]
  case fetch =>
    intro dt s u c r b hu hd hr he hdesc hn hb
    rw [exec_dmaDescriptorFetch hu, if_pos hd, dmaFetch_takes hr he hdesc hn, chFetch_valid hr he hdesc hn hb]
  case invalid =>
    intro dt s u c r b hu hd hr he hdesc hn hb
    rw [exec_dmaDescriptorFetch hu, if_pos hd, dmaFetch_takes hr he hdesc hn, chFetch_invalid hr he hdesc hn hb]
  case unread =>
    intro dt s u c r hu hd hr he hdesc hn
    rw [exec_dmaDescriptorFetch hu, if_pos hd, dmaFetch_takes hr he hdesc hn, chFetch_unread hr he hdesc hn]
  case fetchIdle =>
    intro dt s u c b hu h
    rw [exec_dmaDescriptorFetch hu]
    obtain h | h | ⟨r, hr, h⟩ := h
    · rw [if_neg (by rw [h]; exact Bool.false_ne_true)]
    · rw [dmaFetch, h]
      exact congrArg _ (ite_self u)
    · rw [dmaFetch_idle hr h, ite_self]
  case turn =>
    rintro s m c i hi rfl hc hb
    exact issueReads_some m (nextChannel_first hi hc hb)
  case issued =>
    rintro s c n r d hc hr hd rfl
    refine ⟨?_, issueRead_ch hc hr hd, ?_, fun hs => ?_, fun hs => ?_⟩
    all_goals rw [issueRead_eq hr hd]
    · exact if_pos hs
    · exact if_neg (by rw [hs]; exact Bool.false_ne_true)
  case piece =>
    intro most d k hk hm
    obtain ⟨h1, h2, h3⟩ := pieceLen_bounds most d k hk hm
    exact ⟨h1, h2, h3, fun hs => pieceLen_host most d k hk hm hs⟩
  case written =>
    intro dt s w c r d k b hw h hs hwin hb hm
    obtain ⟨t, ht, hbuf, he⟩ := readComplete_toWindow hw h (readAnswer_host hs hb) hb hwin hm
    obtain ⟨hwindow, -, -, hout, -⟩ := ht.memory
    obtain ⟨hv, ho⟩ := chTransfer_window (s := t) (c := c) (at_ := k.at_) (r := r) (bs := b) hwin
    obtain ⟨-, hc, -, hd, -⟩ := id h
    have hch := chTransfer_ch (s := t) (at_ := k.at_) (d := d) (r := r) (bs := b) hc
    refine ⟨chTransfer c k.at_ d r b t, he, by rw [hv, hwindow], by rw [hch, ht.ch, hb], by rw [ho, hout], fun x hx hxc hat => ?_, fun r' hr' => ?_⟩
    · rw [chTransfer_buffer, hbuf] at hx
      have hne := (List.mem_filter.1 hx).2
      rw [hxc, hat, h.chunk_ch] at hne
      simp at hne
    · rw [hch] at hr'
      obtain rfl : ranOn d r b = r' := Option.some.inj hr'
      refine ⟨fun hlen => ?_, fun hlen => ?_⟩
      · rw [ranOn, hb, if_pos hlen, hwin]
        exact ⟨rfl, rfl⟩
      · rw [ranOn, hb, if_neg hlen]
        exact ⟨hd, rfl⟩
  case mergeBad =>
    intro dt s w c r d k b hw h hs hwin hb hm
    obtain ⟨t, ht, he⟩ := readComplete_mergeBad hw h (readAnswer_host hs hb) hb hwin hm
    obtain ⟨-, hc, hr, -⟩ := id h
    exact ⟨_, he, ht.memory.1, failList_ch hc (by rw [ht.ch, hr])⟩
  case toHost =>
    rintro dt s w c r d k bs hw h hs hwin hu rfl
    exact readComplete_toHost hw h (readAnswer_window hs hu) (memRead_length ..) hwin
  case winToWin =>
    intro dt s w c r d k hw h hs hwin hu hm
    obtain ⟨t, ht, -, he⟩ := readComplete_toWindow hw h (readAnswer_window hs hu) (memRead_length ..) hwin hm
    obtain ⟨hwindow, -, -, hout, -⟩ := ht.memory
    obtain ⟨hv, ho⟩ := chTransfer_window (s := t) (c := c) (at_ := k.at_) (r := r) (bs := memRead w.dma.window (d.src + k.at_) k.len) hwin
    exact ⟨_, he, ho.trans hout, by rw [hv, hwindow]⟩
  case unreadable =>
    intro dt s w c r d k hw h hs hu
    obtain ⟨v, he, hv, ho, hr⟩ := readComplete_error hw h (readAnswer_unreadable hs hu)
    exact ⟨v, he, hv, hr, ho⟩
  case hostToHost =>
    intro dt s w c r d k b hw h hs hwin hb
    exact readComplete_toHost hw h (readAnswer_host hs hb) hb hwin
  case hostError =>
    intro dt s w c r d k hw h hs
    exact readComplete_error hw h (readAnswer_hostError hs)
  case dramError =>
    intro dt s w c r d k hw h hs
    exact readComplete_error hw h (readAnswer_dramError hs)
  case noRead =>
    intro dt s w c x hw h
    rw [exec_dmaReadComplete x hw]
    obtain h | h | h := h
    · rw [if_neg (by rw [h]; exact Bool.false_ne_true)]
    · have hidle : dmaRead c x w = w := by
        rw [dmaRead, h]
        split <;> rfl
      rw [hidle, ite_self]
    · rw [dmaRead, List.getElem?_eq_none h]
      exact congrArg _ (ite_self w)
  case clean =>
    intro s h
    rw [chunkRead]
    split
    · exact touch_none h
    · rfl
  case done =>
    intro dt s u c r hu hc hd hr hb he hdesc hn hm
    have hend := dmaEnd_eq hr hb fun _ => ⟨hdesc, hn⟩
    rw [endCode_plain u he hm, crcAppended_not (fun h => hm h.2)] at hend
    have hch := listEnd_ch hend hc
    refine ⟨dmaEnd c u, by rw [exec_dmaListComplete hu, if_pos hd], ?_⟩
    rw [hch]
    refine ⟨rfl, rfl, rfl, ?_, rfl, listEnd_record hend, listEnd_cause hend hc, listEnd_window hend⟩
    by_cases h0 : r.crcMode = 0
    · rw [if_pos h0]
      exact if_neg fun h => h.2 h0
    · rw [if_neg h0]
      exact if_pos ⟨rfl, h0⟩
  case append =>
    intro dt s u c e win r hu hc hd hr hb he hdesc hn hm hl hbad
    have hend := dmaEnd_eq hr hb fun _ => ⟨hdesc, hn⟩
    have hcrc : endCrc r 0 = r.crc ^^^ 0xFFFFFFFF#32 := if_pos ⟨rfl, by rw [hm]; decide⟩
    rw [endCode_append he hm hl, if_neg (by rw [hbad]; exact Bool.false_ne_true), hcrc, crcAppended_append hm hl] at hend
    have hch := listEnd_ch hend hc
    refine ⟨dmaEnd c u, by rw [exec_dmaListComplete hu, if_pos hd], ?_⟩
    rw [hch]
    refine ⟨rfl, rfl, rfl, rfl, rfl, listEnd_record hend, fun hw => ?_, fun hw => ⟨?_, fun x hx => listEnd_outputs hend ?_⟩⟩
    · rw [listEnd_window hend, hw]
      exact congrArg (memWrite · e _) (mergeRead_sameErrors true e 4 u).sameDram.memory.1
    · rw [listEnd_window hend, hw]
      rfl
    · rw [hw]
      exact mem_hostPut_outputs (by rw [le_length]; exact hx)
  case failed =>
    intro dt s u c code r hu hc hd hr hb h
    have hcode : code ≠ 0 ∧ endCode r u = code ∧ (r.ending = none → r.desc = none ∧ r.next = r.count) := by
      obtain ⟨he, h1, -⟩ | ⟨rfl, he, hdesc, hn, hm, e, hl, hbad⟩ := h
      · exact ⟨Nat.ne_of_gt h1, endCode_ended u he, fun h0 => absurd (he.symm.trans h0) (Option.some_ne_none code)⟩
      · exact ⟨by decide, by rw [endCode_append he hm hl, if_pos hbad], fun _ => ⟨hdesc, hn⟩⟩
    obtain ⟨hne, hcode, hf⟩ := hcode
    have hend := dmaEnd_eq hr hb hf
    have hcrc : endCrc r code = 0#32 := if_neg fun h => hne h.1
    rw [hcode, crcAppended_not (fun h => hne h.1), hcrc] at hend
    have hch := listEnd_ch hend hc
    refine ⟨dmaEnd c u, by rw [exec_dmaListComplete hu, if_pos hd], ?_⟩
    rw [hch]
    exact ⟨if_neg hne, rfl, rfl, rfl, if_neg hne, listEnd_window hend, listEnd_cause hend hc, listEnd_record hend⟩
  case waits =>
    intro dt s u c hu h
    rw [exec_dmaListComplete hu]
    obtain h | h | h | ⟨r, hr, h⟩ := h
    · rw [if_neg (by rw [h]; exact Bool.false_ne_true)]
    · rw [dmaEnd_idle h, ite_self]
    · cases hr : (u.ch c).run with
      | none => rw [dmaEnd_idle hr, ite_self]
      | some r => rw [dmaEnd_waits hr (.inl h), ite_self]
    · rw [dmaEnd_waits hr (.inr h), ite_self]

end Sys2Proof.Machine
end

section
/-! SUPPORT. What a DMA transaction to the window writes (R416, R420, R422, R430). -/

namespace Sys2Proof.Machine

/-- A transaction to the window changes the DMA block and the integrity block. -/
theorem chTransfer_frame {c at_ : Nat} {d : Desc} {r : DmaRun} {bs : List Byte} {s : State} (hwin : d.dstWin = true) :
    { chTransfer c at_ d r bs s with dma := s.dma, integ := s.integ } = s := by
  rw [chTransfer, writeSpace, if_pos hwin]
  rfl

theorem SameDram.frame {s t : State} (h : SameDram s t) : { t with dma := s.dma, integ := s.integ } = s := by
  obtain ⟨g, b, rfl, -⟩ := h
  rfl

/-- Settles O50: the window afterwards is the one before with the bytes that arrived (`readComplete_toWindow`, `chTransfer_window`). -/
theorem dmaWritesOnlyItsBytes : Obligations.DmaWritesOnlyItsBytes := by
  unfold Obligations.DmaWritesOnlyItsBytes
  intro dt s w t c a r d k b hw hok h hs hwin hb hm ht
  obtain ⟨v, hv, -, he⟩ := readComplete_toWindow hw h (readAnswer_host hs hb) hb hwin hm
  obtain rfl : issueReads 128 (chTransfer c k.at_ d r b v) = t := Host.Outcome.next.inj (he.symm.trans ht)
  have hwindow : (issueReads 128 (chTransfer c k.at_ d r b v)).dma.window = memWrite w.dma.window (d.dst + k.at_) b := by
    rw [issueReads_window, (chTransfer_window hwin).1, hv.memory.1]
  refine ⟨fun ha => ?_, fun i hi => ?_, ?_⟩
  · rw [hwindow, memByte_memWrite _ _ _ _ hok, if_neg (by omega)]
  · rw [hwindow, memByte_memWrite _ _ _ _ hok, if_pos (by omega), Nat.add_sub_cancel_left]
    exact (List.getD_eq_getElem?_getD ..).symm
  · have h1 := issueReads_frame 128 (chTransfer c k.at_ d r b v)
    have h2 := chTransfer_frame (c := c) (at_ := k.at_) (r := r) (bs := b) (s := v) hwin
    have h3 := hv.frame
    calc { issueReads 128 (chTransfer c k.at_ d r b v) with dma := w.dma, integ := w.integ, outputs := w.outputs }
        = { chTransfer c k.at_ d r b v with dma := w.dma, integ := w.integ, outputs := w.outputs } :=
          congrArg (fun x : State => { x with dma := w.dma, integ := w.integ, outputs := w.outputs }) h1
      _ = { v with dma := w.dma, integ := w.integ, outputs := w.outputs } :=
          congrArg (fun x : State => { x with dma := w.dma, integ := w.integ, outputs := w.outputs }) h2
      _ = w := congrArg (fun x : State => { x with outputs := w.outputs }) h3

end Sys2Proof.Machine
end

section
/-! SUPPORT. The record queues: the answer to a word, the packing register, the pushes, the register writes, the delivery of a line, and the
statement on them (R438 to R451). -/

namespace Sys2Proof.Machine

/-! ### A word and its answer (R441 to R445, R448) -/

section

variable {w : Word32} {f l : Option Nat} {n : Nat} {now : Ps} {q : Rq}

theorem rqWord_off (h : q.enable = false) : rqWord w f l now q = (.off, { q with cOff := inc q.cOff }) := if_pos (by rw [h]; rfl)

theorem rqWord_flushed (he : q.enable = true) (hp : q.flushPending = true) (ht : q.flushedAt / 1250 = now / 1250) :
    rqWord w f l now q = (.flushed, { q with flushPending := false }) :=
  (if_neg (by rw [he]; exact Bool.false_ne_true)).trans (if_pos (by rw [hp, decide_eq_true ht]; rfl))

section

variable (he : q.enable = true) (hp : q.flushPending = false)
include he hp

theorem rqWord_full (hroom : 128 - q.lines.length < cdiv n 8 + 1) : rqWord w (some n) l now q = (.full, { q with cFull := inc q.cFull }) := by
  rw [rqWord, if_neg (by rw [he]; exact Bool.false_ne_true), if_neg (by rw [hp]; exact Bool.false_ne_true)]
  exact if_pos (by rw [decide_eq_false (Nat.not_le.2 hroom)]; rfl)

theorem rqWord_ok (hroom : cdiv n 8 + 1 ≤ 128 - q.lines.length) : rqWord w (some n) l now q = (.ok, { rqStore w (some n) l now q with
    reserved := if l.isSome then none else some (cdiv n 8 + 1), flushPending := false }) := by
  rw [rqWord, if_neg (by rw [he]; exact Bool.false_ne_true), if_neg (by rw [hp]; exact Bool.false_ne_true)]
  refine (if_neg (by rw [decide_eq_true hroom]; exact Bool.false_ne_true)).trans ?_
  rw [hp]
  rfl

end

theorem rqPush_some {idle : Bool} {p : RqPack} (h : q.pack = some p) : rqPush idle q = { q with
    lines := q.lines ++ [{
      bytes := padTo 32 ((p.words.flatMap fun w => be 4 w.toNat).take p.valid), valid := p.valid, end_ := p.end_, afterFlush := q.armed
      idlePush := idle, start := p.start, firstWord := p.firstWord, seq := q.lineSeq }]
    pack := none, armed := false, lineSeq := q.lineSeq + 1, cIdle := if idle then inc q.cIdle else q.cIdle } := by
  rw [rqPush, h]

/-- The packing register with one more word that opens and closes no item. -/
def packMore (w : Word32) (now : Ps) (p : RqPack) : RqPack :=
  { p with words := p.words ++ [w], valid := 4 * p.words.length + 4, lastAt := now }

theorem rqStore_more {p : RqPack} (h : q.pack = some p) : rqStore w none none now q =
    if p.words.length + 1 = 8 then rqPush false { q with pack := some (packMore w now p) } else { q with pack := some (packMore w now p) } := by
  rw [rqStore]
  simp only [Option.isSome_none, Bool.and_false, Bool.false_and, Bool.or_false, Bool.false_eq_true, if_false, h, Option.getD_some, decide_eq_true_eq]
  rfl

theorem rqPush_enable (b : Bool) (q : Rq) : (rqPush b q).enable = q.enable := by
  unfold rqPush
  split <;> rfl

theorem rqStore_enable (w : Word32) (f l : Option Nat) (now : Ps) (q : Rq) : (rqStore w f l now q).enable = q.enable := by
  unfold rqStore
  extract_lets q1 p m keep p2 q2
  have h1 : q1.enable = q.enable := by
    unfold q1
    split
    · exact rqPush_enable false q
    · rfl
  split
  · exact (rqPush_enable false q2).trans h1
  · exact h1

/-- A word does not change whether its queue is enabled. -/
theorem rqWord_enable (w : Word32) (f l : Option Nat) (now : Ps) (q : Rq) : (rqWord w f l now q).2.enable = q.enable := by
  unfold rqWord
  split
  · rfl
  · split
    · rfl
    · extract_lets free fits q' q''
      split
      · split <;> rfl
      · exact rqStore_enable w f l now q

end

section

variable {n : Nat} {w : Word32} {f l : Option Nat} {s : State}

theorem rqWriteWord_runs (hr : s.rqRuns = true) : rqWriteWord n w f l s = ((rqWord w f l s.now (s.rq n)).1,
    if (rqWord w f l s.now (s.rq n)).1 = .full && f.isSome && (s.rq n).intEn then raiseCause n (s.putRq n (rqWord w f l s.now (s.rq n)).2)
    else s.putRq n (rqWord w f l s.now (s.rq n)).2) := by
  have hq : { s.rq n with enable := (s.rq n).enable && s.rqRuns } = s.rq n := by rw [hr, Bool.and_true]
  have he : { (rqWord w f l s.now (s.rq n)).2 with enable := (s.rq n).enable } = (rqWord w f l s.now (s.rq n)).2 := by
    rw [← rqWord_enable w f l s.now (s.rq n)]
  rw [rqWriteWord, hq, he]

theorem rqWriteWord_off (hr : s.rqRuns = false) : rqWriteWord n w f l s = (.off, s.putRq n { s.rq n with cOff := inc (s.rq n).cOff }) := by
  have hq : ({ s.rq n with enable := (s.rq n).enable && s.rqRuns } : Rq).enable = false := by
    rw [hr]
    exact Bool.and_false _
  rw [rqWriteWord, rqWord_off hq]
  rfl

theorem putRq_rq {q : Rq} (hn : n < 32) : (s.putRq n q).rq n = q := vget_vset_self _ _ _ _ hn

theorem putRq_rq_ne {q : Rq} {m : Nat} (h : m ≠ n) : (s.putRq n q).rq m = s.rq m := vget_vset_ne _ _ _ _ _ (Ne.symm h)

end

/-! ### What a push and a delivery read (R439, R525) -/

theorem touchEntry_none {cls : Nat} {p : Nat → Nat → Bool} {s : State} (h : s.integ.injected = []) : touchEntry cls p s = s := by
  have hb : badWords cls p s = [] := by
    rw [badWords, injectedWords, h]
    rfl
  rw [touchEntry, touch_none h, hb]
  exact writeWords_of_forall_false _ _ _ fun _ _ => rfl

theorem packRead_same {s : State} {n : Nat} (h : (s.rq n).pack = none ∨ s.integ.injected = []) : packRead n s = s := by
  rw [packRead]
  split
  · rename_i hp
    obtain h | h := h
    · rw [h] at hp
      exact absurd hp Bool.false_ne_true
    · exact touchEntry_none h
  · rfl

theorem lineRead_same {s : State} (n : Nat) (h : s.integ.injected = []) : lineRead n s = s := by
  rw [lineRead]
  split
  · exact touchEntry_none h
  · rfl

/-! ### A write of RQ_CTRL (R450, R451) -/

/-- The fields of a write with ENABLE set, and of one with ENABLE clear (R451). -/
theorem rqCtrlWords (v : Word32) :
    ((v ||| 1#32).getLsbD 0 = true ∧ (v ||| 1#32).getLsbD 1 = v.getLsbD 1 ∧ (v ||| 1#32).getLsbD 7 = v.getLsbD 7
      ∧ (v ||| 1#32).getLsbD 8 = v.getLsbD 8 ∧ (v ||| 1#32).extractLsb' 2 5 = v.extractLsb' 2 5 ∧ (v ||| 1#32).extractLsb' 16 16 = v.extractLsb' 16 16)
    ∧ (v &&& 0xFFFFFFFE#32).getLsbD 0 = false ∧ (v &&& 0xFFFFFFFE#32).getLsbD 1 = v.getLsbD 1 ∧ (v &&& 0xFFFFFFFE#32).getLsbD 7 = v.getLsbD 7
      ∧ (v &&& 0xFFFFFFFE#32).getLsbD 8 = v.getLsbD 8 ∧ (v &&& 0xFFFFFFFE#32).extractLsb' 2 5 = v.extractLsb' 2 5
      ∧ (v &&& 0xFFFFFFFE#32).extractLsb' 16 16 = v.extractLsb' 16 16 := by
  have h2 : (1#32).extractLsb' 2 5 = 0#5 := by decide
  have h16 : (1#32).extractLsb' 16 16 = 0#16 := by decide
  have e2 : (0xFFFFFFFE#32).extractLsb' 2 5 = BitVec.allOnes 5 := by decide
  have e16 : (0xFFFFFFFE#32).extractLsb' 16 16 = BitVec.allOnes 16 := by decide
  refine ⟨⟨?_, ?_, ?_, ?_, ?_, ?_⟩, ?_, ?_, ?_, ?_, ?_, ?_⟩
  case refine_5 => rw [BitVec.extractLsb'_or, h2, BitVec.or_zero]
  case refine_6 => rw [BitVec.extractLsb'_or, h16, BitVec.or_zero]
  case refine_11 => rw [BitVec.extractLsb'_and, e2, BitVec.and_allOnes]
  case refine_12 => rw [BitVec.extractLsb'_and, e16, BitVec.and_allOnes]
  all_goals simp only [BitVec.getLsbD_or, BitVec.getLsbD_and]
  all_goals simp

/-- A queue with the configuration that a write of RQ_CTRL brings to a queue that is not enabled. -/
def rqConfigured (v : Word32) (q : Rq) : Rq :=
  { q with intEn := v.getLsbD 8, aligned := v.getLsbD 1, log2 := v.extractLsb' 2 5, idleUs := v.extractLsb' 16 16 }

section

variable {v : Word32} {now : Ps} {q : Rq}

theorem rqCtrl_enabled_stays (he : q.enable = true) (h0 : v.getLsbD 0 = true) (h7 : v.getLsbD 7 = false) :
    rqCtrl v now q = { q with intEn := v.getLsbD 8 } := by
  rw [rqCtrl, if_pos he, if_neg (by rw [h0]; exact Bool.false_ne_true), if_neg (by rw [h7]; exact Bool.false_ne_true)]

theorem rqCtrl_disables (he : q.enable = true) (h0 : v.getLsbD 0 = false) :
    rqCtrl v now q = { rqFlushQueue now { q with intEn := v.getLsbD 8 } with enable := false } := by
  rw [rqCtrl, if_pos he, if_pos (by rw [h0]; rfl), rqDisableQueue]
  exact if_pos he

variable (he : q.enable = false) (h7 : v.getLsbD 7 = false)
include he h7

theorem rqCtrl_configures (h0 : v.getLsbD 0 = false) : rqCtrl v now q = rqConfigured v q := by
  rw [rqCtrl, if_neg (by rw [he]; exact Bool.false_ne_true)]
  simp only [h7, h0]
  rfl

theorem rqCtrl_enables (h0 : v.getLsbD 0 = true) (hk : inRange (v.extractLsb' 2 5).toNat 6 16 = true) :
    rqCtrl v now q = { rqConfigured v q with enable := true, head := 0, tail := 0, lineSeq := 0 } := by
  rw [rqCtrl, if_neg (by rw [he]; exact Bool.false_ne_true)]
  simp only [h7, h0]
  exact if_pos hk

theorem rqCtrl_misfit (h0 : v.getLsbD 0 = true) (hk : inRange (v.extractLsb' 2 5).toNat 6 16 = false) :
    rqCtrl v now q = { rqConfigured v q with cfgErr := true } := by
  rw [rqCtrl, if_neg (by rw [he]; exact Bool.false_ne_true)]
  simp only [h7, h0]
  exact if_neg (Bool.eq_false_iff.1 hk)

end

section

variable {dt : Ps} {s u : State} {n : Nat} {v : Word32} (hu : u = s.elapse dt)
include hu

theorem exec_rqEnable_row : exec (.rqEnable dt n v) s = .next (if u.bar0Runs then u.putRq n (rqCtrl (v ||| 1#32) u.now (u.rq n)) else u) := hu ▸ rfl

theorem exec_rqDisable_row : exec (.rqDisable dt n v) s =
    .next (if u.bar0Runs then u.putRq n (rqCtrl (v &&& 0xFFFFFFFE#32) u.now (u.rq n)) else u) := hu ▸ rfl

theorem exec_rqFlush_row : exec (.rqFlush dt n) s = .next (if u.bar0Runs then u.putRq n (rqFlushQueue u.now (u.rq n)) else u) := hu ▸ rfl

variable (hr : u.bar0Runs = true)
include hr

theorem exec_rqEnable : exec (.rqEnable dt n v) s = .next (u.setRq n (rqCtrl (v ||| 1#32) u.now (u.rq n))) := by
  rw [exec_rqEnable_row hu, if_pos hr, putRq_eq_setRq _ _ _ (rqCtrl_keptOrFlushed ..)]

theorem exec_rqDisable : exec (.rqDisable dt n v) s = .next (u.setRq n (rqCtrl (v &&& 0xFFFFFFFE#32) u.now (u.rq n))) := by
  rw [exec_rqDisable_row hu, if_pos hr, putRq_eq_setRq _ _ _ (rqCtrl_keptOrFlushed ..)]

theorem exec_rqFlush : exec (.rqFlush dt n) s = .next (u.setRq n (rqFlushQueue u.now (u.rq n))) := by
  rw [exec_rqFlush_row hu, if_pos hr, putRq_eq_setRq _ _ _ (.inr ⟨rfl, rfl⟩)]

end

/-! ### The idle timeout and the delivery of a line (R445 to R447) -/

section

variable {dt : Ps} {s v : State} {n : Nat}

theorem exec_rqWordWrite {w : Word32} {f l : Option Nat} (hv : v = packRead n (s.elapse dt)) :
    exec (.rqWordWrite dt n w f l) s = .next ((rqWriteWord n w f l v).2.emit (.rqAnswer n (rqWriteWord n w f l v).1.code)) := hv ▸ rfl

theorem exec_rqIdleTimeout (hv : v = packRead n (s.elapse dt)) :
    exec (.rqIdleTimeout dt n) s = .next (if v.rqRuns && rqIdleDue v.now (v.rq n) then v.putRq n (rqPush true (v.rq n)) else v) := hv ▸ rfl

theorem exec_rqLineDeliver (hv : v = lineRead n (s.elapse dt)) : exec (.rqLineDeliver dt n) s = .next (rqDeliver n v) := hv ▸ rfl

end

theorem rqIdleDue_none {now : Ps} {q : Rq} (h : q.pack = none) : rqIdleDue now q = false := by rw [rqIdleDue, h]

theorem rqIdleDue_some {now : Ps} {q : Rq} {p : RqPack} (h : q.pack = some p) :
    rqIdleDue now q = (q.enable && q.idleUs != 0 && decide (p.lastAt + q.idleUs.toNat * 1000000 ≤ now)) := by rw [rqIdleDue, h]

/-- A line is due only where lines are stored, the queue and DMA run, and the ring has room. -/
theorem rqDeliver_idle {s : State} {n : Nat} (h : s.dmaRuns = false ∨ (s.rq n).enable = false ∨ (s.rq n).lines = []
    ∨ 2 ^ (s.rq n).log2.toNat ≤ ((s.rq n).tail - (s.rq n).head).toNat) : rqDeliver n s = s := by
  rw [rqDeliver]
  dsimp only
  split
  · rfl
  · rename_i l rest hl
    refine if_pos ?_
    rw [Bool.or_eq_true, Bool.not_eq_true', Bool.and_eq_false_iff, decide_eq_true_eq]
    obtain h | h | h | h := h
    · exact .inl (.inr h)
    · exact .inl (.inl h)
    · rw [h] at hl
      exact absurd hl (List.cons_ne_nil _ _).symm
    · exact .inr h

/-- The state with the oldest line of queue `n` written to the host's ring. -/
def lineSent (n : Nat) (l : RqLine) (rest : List RqLine) (s : State) : State :=
  let q := s.rq n
  let slot := q.tail.toNat % 2 ^ q.log2.toNat
  (s.emits [.hostWrite (q.base.toNat + 32 * slot) l.bytes, .hostWrite (q.tag.toNat + 4 * slot) (le 4 (rqTag l q.tail.toNat q.log2.toNat))]).setRq n
    { q with lines := rest, tail := q.tail + 1, cLines := inc q.cLines }

theorem rqDeliver_sends {s : State} {n : Nat} {l : RqLine} {rest : List RqLine} (hl : (s.rq n).lines = l :: rest) (he : (s.rq n).enable = true)
    (hd : s.dmaRuns = true) (hroom : ((s.rq n).tail - (s.rq n).head).toNat < 2 ^ (s.rq n).log2.toNat) :
    rqDeliver n s = if (s.rq n).intEn && (l.end_ || l.idlePush) then raiseCause n (lineSent n l rest s) else lineSent n l rest s := by
  have hno : ¬ (!((s.rq n).enable && s.dmaRuns) || decide (2 ^ (s.rq n).log2.toNat ≤ ((s.rq n).tail - (s.rq n).head).toNat)) = true := by
    rw [he, hd, decide_eq_false (Nat.not_le.2 hroom)]
    exact Bool.false_ne_true
  rw [rqDeliver]
  dsimp only
  rw [hl]
  exact if_neg hno

theorem lineSent_outputs (n : Nat) (l : RqLine) (rest : List RqLine) (s : State) : (lineSent n l rest s).outputs =
    .hostWrite ((s.rq n).tag.toNat + 4 * ((s.rq n).tail.toNat % 2 ^ (s.rq n).log2.toNat)) (le 4 (rqTag l (s.rq n).tail.toNat (s.rq n).log2.toNat))
      :: .hostWrite ((s.rq n).base.toNat + 32 * ((s.rq n).tail.toNat % 2 ^ (s.rq n).log2.toNat)) l.bytes :: s.outputs := rfl

theorem lineSent_rq {n : Nat} (hn : n < 32) (l : RqLine) (rest : List RqLine) (s : State) : (lineSent n l rest s).rq n =
    { s.rq n with lines := rest, tail := (s.rq n).tail + 1, cLines := inc (s.rq n).cLines } := State.setRq_rq_self _ _ _ hn

/-- Settles O51: `rqWord_off` to `rqWord_ok` and `rqStore_more` for a word, `rqCtrl_enabled_stays` to `rqCtrl_misfit` for the register,
`rqDeliver_sends` for a line. -/
theorem recordQueuesFollowTheirRules : Obligations.RecordQueuesFollowTheirRules := by
  unfold Obligations.RecordQueuesFollowTheirRules
  refine ⟨fun w f l now q h => rqWord_off h, fun w n l now q he hp h => rqWord_full he hp h, fun w f l now q he hp ht => rqWord_flushed he hp ht,
    ?ok, ?packs, ?fills, fun idle q p h => rqPush_some h, fun dt s v n w f l hv => exec_rqWordWrite hv, fun s n h => packRead_same h, ?answer, ?stores,
    ?raises, fun s n w f l hr => rqWriteWord_off hr, ?frame, fun dt s u n v hu hr => ⟨exec_rqEnable hu hr, exec_rqDisable hu hr⟩, ?enabled, ?configures,
    ?enables, ?misfit, ?disables, fun dt s u n hu hr => exec_rqFlush hu hr, ?idle, ?noIdle, ?deliver, ?noDeliver, fun s n h => lineRead_same n h⟩
  case ok =>
    intro w n l now q he hp h
    rw [rqWord_ok he hp h]
    exact ⟨rfl, rfl⟩
  case packs =>
    intro w now q p hp hlen
    rw [rqStore_more hp, if_neg (by omega)]
    rfl
  case fills =>
    intro w now q p hp hlen
    rw [rqStore_more hp, if_pos (by omega), rqPush_some rfl]
    exact ⟨rfl, List.length_append, rfl⟩
  case answer =>
    intro s n w f l hr
    rw [rqWriteWord_runs hr]
  case stores =>
    intro s n w f l hr h
    rw [rqWriteWord_runs hr]
    refine if_neg fun hc => ?_
    rw [Bool.and_eq_true, Bool.and_eq_true, decide_eq_true_eq] at hc
    obtain ⟨⟨hfull, hf⟩, hi⟩ := hc
    obtain h | h | h := h
    · exact h hfull
    · rw [h] at hf
      exact absurd hf Bool.false_ne_true
    · rw [h] at hi
      exact absurd hi Bool.false_ne_true
  case raises =>
    intro s n w f l hr hfull hf hi
    rw [rqWriteWord_runs hr]
    exact if_pos (by rw [hfull, hf, hi]; rfl)
  case frame => exact fun s n q hn => ⟨putRq_rq hn, rfl, fun m h => putRq_rq_ne h⟩
  case enabled =>
    intro dt s u n v hu hr he h7
    obtain ⟨⟨e0, -, e7, e8, -, -⟩, -⟩ := rqCtrlWords v
    rw [exec_rqEnable hu hr, rqCtrl_enabled_stays he e0 (e7.trans h7), e8]
  case configures =>
    intro dt s u n v hu hr he h7
    obtain ⟨-, e0, e1, e7, e8, ek, ei⟩ := rqCtrlWords v
    rw [exec_rqDisable hu hr, rqCtrl_configures he (e7.trans h7) e0, rqConfigured, e1, e8, ek, ei]
  case enables =>
    intro dt s u n v hu hr he h7 hlo hhi
    obtain ⟨⟨e0, e1, e7, e8, ek, ei⟩, -⟩ := rqCtrlWords v
    rw [exec_rqEnable hu hr, rqCtrl_enables he (e7.trans h7) e0 (by rw [ek, inRange_iff]; exact ⟨hlo, hhi⟩), rqConfigured, e1, e8, ek, ei]
  case misfit =>
    intro dt s u n v hu hr he h7 h
    obtain ⟨⟨e0, e1, e7, e8, ek, ei⟩, -⟩ := rqCtrlWords v
    have hk : inRange (v.extractLsb' 2 5).toNat 6 16 = false := Bool.eq_false_iff.2 fun hc => by
      rw [inRange_iff] at hc
      omega
    rw [exec_rqEnable hu hr, rqCtrl_misfit he (e7.trans h7) e0 (by rw [ek, hk]), rqConfigured, e1, e8, ek, ei]
  case disables =>
    intro dt s u n v hu hr he
    obtain ⟨-, e0, -, -, e8, -⟩ := rqCtrlWords v
    rw [exec_rqDisable hu hr, rqCtrl_disables he e0, e8]
    rfl
  case idle =>
    intro dt s v n p hv hr hp he hi ht
    have hdue : rqIdleDue v.now (v.rq n) = true := by
      rw [rqIdleDue_some hp, he, decide_eq_true ht, bne_iff_ne.2 hi]
      rfl
    rw [exec_rqIdleTimeout hv, if_pos (by rw [hr, hdue]; rfl)]
  case noIdle =>
    intro dt s v n hv h
    have hno : (v.rqRuns && rqIdleDue v.now (v.rq n)) = false := by
      obtain h | h | h | ⟨p, hp, ht⟩ := h
      · rw [h, Bool.false_and]
      · rw [rqIdleDue_none h, Bool.and_false]
      · cases hp : (v.rq n).pack with
        | none => rw [rqIdleDue_none hp, Bool.and_false]
        | some p => rw [rqIdleDue_some hp, h, bne_self_eq_false, Bool.and_false, Bool.false_and, Bool.and_false]
      · rw [rqIdleDue_some hp, decide_eq_false (Nat.not_le.2 ht), Bool.and_false, Bool.and_false]
    rw [exec_rqIdleTimeout hv, if_neg (by rw [hno]; exact Bool.false_ne_true)]
  case deliver =>
    rintro dt s v n k slot l rest hv hn hl he hd rfl hroom rfl
    have hsend := rqDeliver_sends hl he hd hroom
    have hrq : (rqDeliver n v).rq n = (lineSent n l rest v).rq n := by
      rw [hsend]
      split
      · exact congrArg (fun d : DmaSt => vget ({} : Rq) d.queues n) (raiseCause_dma n _)
      · rfl
    have hout : ∀ o, o ∈ (lineSent n l rest v).outputs → o ∈ (rqDeliver n v).outputs := by
      intro o ho
      rw [hsend]
      split
      · exact raiseCause_outputs_mem ho
      · exact ho
    rw [lineSent_outputs] at hout
    refine ⟨_, exec_rqLineDeliver hv, ?_⟩
    rw [hrq, lineSent_rq hn]
    refine ⟨rfl, rfl, rfl, hout _ (List.mem_cons_of_mem _ List.mem_cons_self), hout _ List.mem_cons_self, fun hi hl => ?_⟩
    rw [hsend, if_pos (by rw [hi, Bool.true_and, Bool.or_eq_true]; exact hl)]
    exact raiseCause_set n (by omega) _
  case noDeliver =>
    intro dt s v n hv h
    rw [exec_rqLineDeliver hv, rqDeliver_idle h]

end Sys2Proof.Machine
end

section
/-! SUPPORT. The reading commands of the system, the zones and the front end: their checks, their data, and the statement on them (R245 to R248,
R283, R284, R482, R488). -/

namespace Sys2Proof.Machine

theorem journalEnds_some {s : State} {n o : JEntry} (hn : s.host.journal.head? = some n) (ho : s.host.journal.getLast? = some o) :
    journalEnds s = (o.jseq.toNat, n.jseq.toNat, s) := by rw [journalEnds, hn, ho]

theorem constRead_checks {p : List Byte} {s : State} {z : Nat} (hz : fld p 0 1 = z) (h63 : z ≤ 63) (hf : (s.zone z).state ≠ .free)
    (hrev : fld p 13 1 ≤ 15 ∨ fld p 13 1 = 0xFF) (hn : fld p 16 2 ≤ 32) (ht : constTick s p = true) {c : Sealed} (hc : constOf s p = some c) :
    firstBad (cmdConstRead.checks s p) = none := by
  have hr : (inRange (fld p 13 1) 0 15 || fld p 13 1 == 0xFF) = true := by
    rw [Bool.or_eq_true, inRange_iff, beq_iff_eq]
    exact hrev.imp_left fun h => ⟨Nat.zero_le _, h⟩
  refine (firstBad_append_eq_none _ _).2 ⟨zoneThere_ok hz h63 hf, ?_⟩
  rw [hr, inRange_iff.2 ⟨Nat.zero_le _, hn⟩, ht, hc]
  rfl

theorem zoneGetCounters_checks {p : List Byte} {s : State} {z : Nat} (hz : fld p 0 1 = z) (h63 : z ≤ 63) (hf : (s.zone z).state ≠ .free)
    (h1 : fld p 1 1 ≤ 1) : firstBad (cmdZoneGetCounters.checks s p) = none := by
  refine (firstBad_append_eq_none _ _).2 ⟨zoneThere_ok hz h63 hf, ?_⟩
  rw [inRange_iff.2 ⟨Nat.zero_le _, h1⟩]
  rfl

theorem firstBad_upTo {v hi o : Nat} (h : v ≤ hi) : firstBad [(inRange v 0 hi, o)] = none := by
  rw [inRange_iff.2 ⟨Nat.zero_le _, h⟩]
  rfl

theorem zoneCounters_clearZone (x : Zone) (n : Cnt) (h : n ∈ zoneCounters (clearZone x)) : n = 0 := by
  simpa [zoneCounters, clearZone] using h

/-- A counter that stands in every element of a vector's block reads 0 where the elements are cleared. -/
theorem counters_of_map {α : Type} {n : Nat} (v : Vector α n) (clear : α → α) (counters : α → List Cnt)
    (h : ∀ a, ∀ c ∈ counters (clear a), c = 0) : ∀ c ∈ (v.map clear).toList.flatMap counters, c = 0 := by
  intro c hc
  obtain ⟨x, hx, hc⟩ := List.mem_flatMap.1 hc
  rw [Vector.toList_map] at hx
  obtain ⟨a, -, rfl⟩ := List.mem_map.1 hx
  exact h a c hc

theorem frontCounters_clearFront (u : State) (x : Cnt) (hx : x ∈ frontCounters (clearFront u)) : x = 0 := by
  obtain hx | hx := List.mem_append.1 hx
  · obtain hx | hx := List.mem_append.1 hx
    · obtain hx | hx := List.mem_append.1 hx
      · exact counters_of_map u.front.inputs _ _ (fun a c hc => by simpa using hc) x hx
      · exact counters_of_map u.front.ranges _ _ (fun a c hc => by simpa using hc) x hx
    · refine counters_of_map u.front.chans (fun a => { a with cZcLoss := 0 }) (fun a => [a.cZcLoss]) (fun a c hc => by simpa using hc) x ?_
      rw [← List.map_eq_flatMap]
      exact hx
  · simpa [clearFront] using hx

theorem envelopeNow_eq {s : State} {c i : Nat} (hi : i = (if c < 8 ∨ (s.range (c - 8)).lo = false then hiInput c else (loInput c).getD 0)) :
    envelopeNow s c = if (s.chan c).ok = true ∧ (s.input i).chain = .valid then some (s.chan c).env else none := by
  subst hi
  simp only [envelopeNow, Bool.and_eq_true, beq_iff_eq, Bool.not_eq_true']

/-- Settles O3: each command is a use of `command_executed` on the equation of its body; SYS_GET_COUNTERS with parameter 1 keeps the epochs, so
its reply still leaves. -/
theorem readingCommandsAnswerTheirData : Obligations.ReadingCommandsAnswerTheirData := by
  unfold Obligations.ReadingCommandsAnswerTheirData
  refine ⟨⟨?identity, ?journal, ?counters, ?clear, ?echo⟩, ⟨?zone, ?zoneCounters, ?zoneClear, zoneCounters_clearZone, ?const, ?constBad, ?status⟩,
    ?front, ?detectors, ?frontCounters, ?frontClear, frontCounters_clearFront, ?localConfig⟩
  case identity =>
    intro dt q s u hu hr _ hp
    exact command_executed (d := cmdGetIdentity) hu hr rfl (by rw [hp]; rfl) rfl rfl rfl rfl
  case journal =>
    intro dt q s u n o hu hr hl h1 h128 hn ho
    refine command_executed (d := cmdSysJournalRead) (v := u) hu hr rfl (beq_iff_eq.2 hl) ?_ ?_ rfl rfl
    · exact firstBad_eq_none_iff.2 fun x hx => by rw [List.mem_singleton.1 hx, inRange_iff.2 ⟨h1, h128⟩]
    · simp only [cmdSysJournalRead, journalEnds_some hn ho]
  case counters =>
    intro dt q s u hu hr hp
    refine command_executed (d := cmdSysGetCounters) hu hr rfl ?_ ?_ ?_ ?_ rfl
    all_goals rw [hp]; rfl
  case clear =>
    intro dt q s u hu hr hp
    refine executed_of_run cmdSysGetCounters dt q s u hu hr rfl (by rw [hp]; rfl) (by rw [hp]; rfl) _ (clearHost u) (by rw [hp]; rfl) true
      (by rw [hp]; rfl) (hu ▸ arrived_running hr) (hu ▸ arrived_journal hr) ?_
    unfold State.iface
    split_ifs <;> rfl
  case echo =>
    intro dt q s u hu hr hl
    exact command_executed (d := cmdSysEcho) hu hr rfl (decide_eq_true hl) rfl rfl rfl rfl
  case zone =>
    rintro dt q s u z n x hu hr hl rfl h63 rfl hf rfl
    exact command_executed (d := cmdZoneGet) hu hr rfl (beq_iff_eq.2 hl) (zoneThere_ok rfl h63 hf) rfl rfl rfl
  case zoneCounters =>
    rintro dt q s u z hu hr hl rfl h63 hf h0
    refine command_executed (d := cmdZoneGetCounters) (v := u) hu hr rfl (beq_iff_eq.2 hl) (zoneGetCounters_checks rfl h63 hf (by omega)) ?_ ?_ rfl
    · simp only [cmdZoneGetCounters, h0]
      rfl
    · simp only [cmdZoneGetCounters, h0]
      rfl
  case zoneClear =>
    rintro dt q s u z hu hr hl rfl h63 hf h1
    refine command_executed (d := cmdZoneGetCounters) hu hr rfl (beq_iff_eq.2 hl) (zoneGetCounters_checks rfl h63 hf (by omega))
      (v := u.modZone (fld q.params 0 1) clearZone) ?_ ?_ rfl
    · simp only [cmdZoneGetCounters, h1]
      rfl
    · simp only [cmdZoneGetCounters, h1]
      rfl
  case const =>
    rintro dt q s u z c hu hr hl rfl h63 hf hrev hn ht hc hgood hb
    refine command_executed (d := cmdConstRead) hu hr rfl (beq_iff_eq.2 hl) (constRead_checks rfl h63 hf hrev hn ht hc) ?_ rfl (readWords_unsent ..)
    simp only [cmdConstRead, hc, hgood]
    exact replyRead_ok _ hb
  case constBad =>
    rintro dt q s u z c hu hr hl rfl h63 hf hrev hn ht hc hbad
    refine command_refused (d := cmdConstRead) (offset := 0) hu hr rfl (beq_iff_eq.2 hl) (constRead_checks rfl h63 hf hrev hn ht hc) nofun nofun ?_
    simp only [cmdConstRead, hc, hbad]
    rfl
  case status =>
    rintro dt q s u f hu hr hp rfl
    exact command_executed (d := cmdAlignGetStatus) hu hr rfl (by rw [hp]; rfl) rfl rfl rfl rfl
  case front =>
    intro dt q s u hu hr hp
    exact command_executed (d := cmdFeGetStatus) hu hr rfl (by rw [hp]; rfl) rfl rfl rfl rfl
  case detectors =>
    rintro dt q s u x c i env hu hr hl rfl h15 rfl hi rfl
    refine command_executed (d := cmdFeGetDetectors) hu hr rfl (beq_iff_eq.2 hl) (firstBad_upTo h15) ?_ rfl rfl
    simp only [cmdFeGetDetectors, envelopeNow_eq hi]
  case frontCounters =>
    intro dt q s u hu hr hp
    refine command_executed (d := cmdFeGetCounters) hu hr rfl ?_ ?_ ?_ ?_ rfl
    all_goals rw [hp]; rfl
  case frontClear =>
    intro dt q s u hu hr hp
    refine command_executed (d := cmdFeGetCounters) (v := clearFront u) hu hr rfl ?_ ?_ ?_ ?_ rfl
    all_goals rw [hp]; rfl
  case localConfig =>
    rintro dt q s u n hu hr hl rfl h3
    exact command_executed (d := cmdFeGetLocalConfig) hu hr rfl (beq_iff_eq.2 hl) (firstBad_upTo h3) rfl rfl rfl

end Sys2Proof.Machine
end

section
/-! SUPPORT. The checks of a command from step 9 of R470 on, what a journal entry and the end of a command write, and the statements on them
(R470, R480, R483 to R485, R568, R580 to R582). -/

namespace Sys2Proof.Machine

/-! ### A packet that comes to execution at once -/

/-- A packet that passes steps 4 to 6 of R470 executes at once where no other command executes or waits. -/
theorem runCommand_executes {d : Cmd} {q : Packet} {v : State} (hr : v.ifaceRuns q.ifc = true)
    (hst : arrivalStatus (packetOf d.opcode q) v = none) (he : v.host.executing = none) (hw : v.host.waiting = []) :
    runCommand d q v = executeCommand d (packetCmd d q) (arrived q v) := by
  have hst' : arrivalStatus (packetCmd d q) v = none := hst
  rw [runCommand, if_neg (by rw [hr]; exact Bool.false_ne_true)]
  dsimp only
  rw [hst', if_neg (by rw [he, hw]; exact Bool.false_ne_true)]
  rfl

/-- A packet whose command answers a status without an effect is refused with it. -/
theorem refusedWith_of_err {d : Cmd} {dt : Ps} {q : Packet} {s v : State} {status : Nat} (hv : v = s.elapse dt) (hr : v.ifaceRuns q.ifc = true)
    (hst : arrivalStatus (packetOf d.opcode q) v = none) (he : v.host.executing = none) (hw : v.host.waiting = [])
    (hj : journalMustCommit v = false) (ho : cmdOutcome d q.ifc q.params (arrived q v) = .err status) (hs : status ≠ stOk) (hb : status ≠ stBadEpoch)
    (hp : status ≠ stBadParam) : refusedWith (command d dt q s) q d.opcode status 0xFFFF (arrived q v) := by
  subst hv
  have hj' : journalMustCommit (arrived q (s.elapse dt)) = false := journalMustCommit_of_journal (arrived_parts q _).2.2 hj
  obtain ⟨a, b, x, -⟩ := closeCommand_direct (packetCmd d q) (d.journaled q.params []) status 0 [] (arrived q (s.elapse dt)) rfl
  rw [replyBytes_refused d q _ _ hs hb, if_neg hp] at b
  refine ⟨_, rfl, ?_⟩
  rw [runCommand_executes hr hst he hw]
  simp only [executeCommand, packetCmd, ho, finishCommand, hj', Bool.and_false, Bool.false_eq_true, if_false]
  exact ⟨b, x, a⟩

theorem ifaceRuns_running {v : State} {i : Nat} (h : v.ifaceRuns i = true) : v.sys.phase = .running := by
  simp only [Bool.and_eq_true, State.ifaceRuns, State.commandsRun, State.online, decide_eq_true_eq] at h
  obtain ⟨⟨⟨⟨hp, -⟩, -⟩, -⟩, -⟩ := h
  exact hp

theorem cmdOutcome_denied {d : Cmd} {i : Nat} {p : List Byte} {s : State} (h : lifecycleDenies s.sys.lifecycle d.opcode p = true) :
    cmdOutcome d i p s = .err stDenied := if_pos h

section

variable {d : Cmd} {i : Nat} {p : List Byte} {s : State} (hl : lifecycleDenies s.sys.lifecycle d.opcode p = false)
include hl

theorem cmdOutcome_badMode (hm : d.modes s.sys.mode = false) : cmdOutcome d i p s = .err stWrongMode := by
  rw [cmdOutcome, if_neg (by rw [hl]; exact Bool.false_ne_true), if_pos (by rw [hm]; rfl)]

theorem cmdOutcome_badLength (hm : d.modes s.sys.mode = true) (hn : d.lenOk p = false) : cmdOutcome d i p s = .err stBadLength := by
  rw [cmdOutcome, if_neg (by rw [hl]; exact Bool.false_ne_true), if_neg (by rw [hm]; exact Bool.false_ne_true), if_pos (by rw [hn]; rfl)]

end

/-- The offset is the one of the first check that fails. -/
theorem firstBad_first {pre post : List (Bool × Nat)} {o : Nat} (h : ∀ x, x ∈ pre → x.1 = true) : firstBad (pre ++ (false, o) :: post) = some o := by
  induction pre with
  | nil => rfl
  | cons x pre ih =>
    obtain ⟨b, n⟩ := x
    obtain rfl : b = true := h (b, n) List.mem_cons_self
    exact ih fun y hy => h y (List.mem_cons_of_mem _ hy)

/-- A packet that is ready meets a lifecycle state that admits it. -/
theorem arrived_admits {d : Cmd} {q : Packet} {u : State} (h : ready u q d.opcode = true) :
    lifecycleDenies (arrived q u).sys.lifecycle d.opcode q.params = false := by
  obtain ⟨-, -, -, -, hl, -⟩ := ready_parts h
  rw [(arrived_parts q u).1, hl]

theorem lifecycleDenies_opcodes {l : Lifecycle} {op : Nat} {p : List Byte} (h : lifecycleDenies l op p = true) :
    (l = .field ∧ op = 0x0A04) ∨ (l = .return ∧ op ∈ [0x0102, 0x0901, 0x0905, 0x0B03, 0x0B04]) := by
  unfold lifecycleDenies at h
  split at h
  · exact .inl ⟨rfl, beq_iff_eq.1 h⟩
  · simp only [Bool.or_eq_true, Bool.and_eq_true, beq_iff_eq] at h
    refine .inr ⟨rfl, ?_⟩
    simp only [List.mem_cons, List.not_mem_nil, or_false]
    omega
  · exact absurd h Bool.false_ne_true

/-- Settles O56: `refusedWith_of_err` is the refusal by lifecycle, `refusedWith_of_outcome` the one by mode and by length, and
`refusedWith_of_check` the one by the first parameter that fails. -/
theorem refusalChecksInOrder : Obligations.RefusalChecksInOrder := by
  unfold Obligations.RefusalChecksInOrder
  refine ⟨?lifecycle, ?mode, ?length, ?parameter, ?dropped, fun d _ l p h => lifecycleDenies_opcodes h⟩
  case lifecycle =>
    rintro d dt q s u v hv hr hst he hw hj hl rfl
    refine refusedWith_of_err hv hr hst he hw hj (cmdOutcome_denied ?_) nofun nofun nofun
    rwa [(arrived_parts q v).1]
  case mode =>
    rintro d dt q s u rfl hr hm
    exact refusedWith_of_outcome d dt q s _ rfl hr stWrongMode 0 nofun nofun (cmdOutcome_badMode (arrived_admits hr) hm)
  case length =>
    rintro d dt q s u rfl hr hm hn
    exact refusedWith_of_outcome d dt q s _ rfl hr stBadLength 0 nofun nofun (cmdOutcome_badLength (arrived_admits hr) hm hn)
  case parameter =>
    intro d dt q s u pre post o hu hr hm hn hc hpre
    exact refusedWith_of_check hu hr hm hn (by rw [hc, firstBad_first hpre])
  case dropped =>
    rintro d dt q s u rfl hr
    exact congrArg Host.Outcome.next (if_pos (by rw [hr]; rfl))

/-! ### A journal entry (R483 to R485) -/

/-- The host part without what a journal entry writes beside the journal: causes, messages and the count of entries not routed. -/
def State.ledger (s : State) : HostSt := { s.host with cause := 0, msix := Vector.replicate 32 {}, cRouteDrops := 0 }

theorem ledger_of_hostBase {s t : State} (h : t.hostBase = s.hostBase) : t.ledger = s.ledger :=
  (congrArg (fun x : HostSt => { x with cRouteDrops := 0 }) h :)

theorem routeEntry_ledger (e : JEntry) (s : State) : (routeEntry e s).ledger = s.ledger := by
  unfold routeEntry
  split
  case h_1 => rfl
  case h_2 n _ =>
    have h : (rqItem n (jentryBytes e) s).2.ledger = s.ledger := ledger_of_hostBase (rqItemWords_hostBase ..)
    generalize rqItem n (jentryBytes e) s = r at h ⊢
    dsimp only
    split <;> exact h

/-- The entry of a command with its status (R483). -/
def journalEntry (c : QCmd) (status : Nat) (s : State) : JEntry :=
  { jseq := s.host.nextJseq, time := s.stamp, ifc := c.ifc, status, opcode := c.opcode, tag := c.tag, epoch := c.epoch
    crc := paramCrc c, committed := false, timeInvalid := !s.time.valid }

/-- What a journal entry makes of the ledger: the entry in front, 4,096 at most, the next JSEQ, and the count of entries lost. -/
theorem addJournal_ledger (c : QCmd) (status : Nat) (s : State) : (addJournal c status s).ledger = { s.ledger with
    journal := (journalEntry c status s :: s.host.journal).take 4096
    nextJseq := s.host.nextJseq + 1
    cOverwrites := if journalMustCommit s then inc s.host.cOverwrites else s.host.cOverwrites } := by
  unfold addJournal
  extract_lets e lost _ s1 s2
  have h2 : s2.ledger = s1.ledger := by
    unfold s2
    split
    · exact ledger_of_hostBase (raiseCause_hostBase ..)
    · rfl
  have h3 : (mirrorItem 6 (jentryBytes e) (routeEntry e s2)).ledger = (routeEntry e s2).ledger :=
    ledger_of_hostBase (hostBase_of_host (mirrorItem_host ..))
  rw [h3, routeEntry_ledger, h2]
  rfl

/-! ### Causes stay set while a word is written (R460) -/

theorem raiseCause_keepsBit {n m : Nat} {s : State} (h : s.host.cause.getLsbD m = true) : (raiseCause n s).host.cause.getLsbD m = true := by
  rw [raiseCause_cause, BitVec.getLsbD_or, h]
  rfl

theorem rqWriteWord_keepsBit {n m : Nat} (w : Word32) (f l : Option Nat) {s : State} (h : s.host.cause.getLsbD m = true) :
    (rqWriteWord n w f l s).2.host.cause.getLsbD m = true := by
  unfold rqWriteWord
  dsimp only
  split
  · exact raiseCause_keepsBit h
  · exact h

theorem rqItemWords_keepsBit {n l m : Nat} (i : Nat) (ws : List Word32) {s : State} (h : s.host.cause.getLsbD m = true) :
    (rqItemWords n l i ws s).2.host.cause.getLsbD m = true := by
  induction ws generalizing i s with
  | nil => exact h
  | cons w ws ih =>
    unfold rqItemWords
    generalize (if i = 0 then some l else none) = f
    generalize (if ws.isEmpty = true then some 4 else none) = la
    dsimp only
    split
    · exact rqWriteWord_keepsBit w f la h
    · split <;> exact ih _ (rqWriteWord_keepsBit w f la h)

theorem routeEntry_keepsBit {m : Nat} (e : JEntry) {s : State} (h : s.host.cause.getLsbD m = true) :
    (routeEntry e s).host.cause.getLsbD m = true := by
  unfold routeEntry
  split
  case h_1 => exact h
  case h_2 n _ =>
    have hr : (rqItem n (jentryBytes e) s).2.host.cause.getLsbD m = true := rqItemWords_keepsBit 0 _ h
    generalize rqItem n (jentryBytes e) s = r at hr ⊢
    dsimp only
    split <;> exact hr

/-- The entry that makes 3,584 uncommitted ones raises JOURNAL (R485). -/
theorem addJournal_cause {c : QCmd} {status : Nat} {s : State} (hu : uncommitted s.host.journal = 3583) (hl : s.host.journal.length < 4096) :
    (addJournal c status s).host.cause.getLsbD 59 = true := by
  unfold addJournal
  extract_lets e lost _ s1 s2
  have hcount : uncommitted s1.host.journal = 3584 := by
    have hj : s1.host.journal = e :: s.host.journal := List.take_of_length_le hl
    rw [hj, uncommitted, List.filter_cons_of_pos rfl, List.length_cons]
    exact congrArg (· + 1) hu
  have h2 : s2.host.cause.getLsbD 59 = true := by
    unfold s2
    rw [if_pos hcount]
    exact raiseCause_set causeJournal (by decide) s1
  rw [mirrorItem_host]
  exact routeEntry_keepsBit e h2

/-! ### The end of a command (R484, R485) -/

/-- What of the host part a reply that leaves or is discarded keeps. -/
def State.record (s : State) : List JEntry × Cnt × Option Exec × List Setting × Bool :=
  (s.host.journal, s.host.cOverwrites, s.host.executing, s.host.settings, s.host.dirty)

theorem State.modIface_record (s : State) (i : Nat) (g : Iface → Iface) : (s.modIface i g).record = s.record := by
  unfold State.modIface State.setIface
  split
  · rfl
  · split <;> rfl

theorem sendReply_record (o : Origin) (r : Reply) (s : State) : (sendReply o r s).record = s.record := by
  cases o with
  | direct => exact State.modIface_record ..
  | ring n => rfl
  | mgmt ip port => exact State.modIface_record ..
  | svc => rfl

/-- A command that closes: no command executes any longer, and its entry stands in the journal. -/
theorem closeCommand_record (c : QCmd) (j mute : Bool) (status offset : Nat) (data : List Byte) (s : State) :
    (closeCommand c j mute status offset data s).record = (if j then (journalEntry c status s :: s.host.journal).take 4096 else s.host.journal,
      if j && journalMustCommit s then inc s.host.cOverwrites else s.host.cOverwrites, none, s.host.settings, s.host.dirty) := by
  unfold closeCommand
  extract_lets s1 _ s2
  have hclosed : (if mute then discardReply c.ifc s2 else sendReply c.origin (mkReply c status offset data) s2).record = s2.record := by
    split
    · exact State.modIface_record ..
    · exact sendReply_record ..
  rw [hclosed]
  change (s1.host.journal, s1.host.cOverwrites, none, s1.host.settings, s1.host.dirty) = _
  cases j with
  | false => rfl
  | true =>
    have h := addJournal_ledger c status s
    exact congrArg (fun x : HostSt => (x.journal, x.cOverwrites, (none : Option Exec), x.settings, x.dirty)) h

theorem finishCommand_closes {c : QCmd} {j mute : Bool} {status offset : Nat} {data : List Byte} {s : State} (h : journalMustCommit s = false) :
    finishCommand c j mute status offset data s = closeCommand c j mute status offset data s :=
  if_neg (by rw [h, Bool.and_false]; exact Bool.false_ne_true)

/-- A command whose entry would replace one that is not COMMITTED waits for the journal's commit. -/
theorem finishCommand_waits {c : QCmd} {mute : Bool} {status offset : Nat} {data : List Byte} {s : State} (h : journalMustCommit s = true) :
    finishCommand c true mute status offset data s = { s with host := { s.host with executing := some { cmd := c, op := .journalCommit status offset data, mute } } } :=
  if_pos (by rw [h]; rfl)

theorem noteSetting_settings (d : Cmd) (p : List Byte) (before s : State) : (noteSetting (d.key p) d.opcode p before s).host.settings =
    match d.key p with
    | some k => (s.host.settings.filter fun y => !settingCovers k y.key) ++ [{ key := k, opcode := d.opcode, params := p }]
    | none => s.host.settings := by
  unfold noteSetting
  cases d.key p <;> rfl

/-- A command that answers OK closes on the state with its effect and its settings record. -/
theorem executeCommand_closes {d : Cmd} {c : QCmd} {s v : State} {data : List Byte} (ho : cmdOutcome d c.ifc c.params s = .ok data v)
    (hp : v.sys.phase = .running) (hj : journalMustCommit v = false) : ∃ mute, executeCommand d c s =
      closeCommand c (d.journaled c.params data) mute stOk 0 data (noteSetting (d.key c.params) d.opcode c.params s v) := by
  refine ⟨(v.iface c.ifc).epoch != (s.iface c.ifc).epoch, ?_⟩
  rw [executeCommand, ho]
  dsimp only
  rw [if_neg (by rw [hp]; exact Bool.false_ne_true)]
  exact finishCommand_closes hj

/-- The state in which a command that is done waits for the journal's commit. -/
def awaitingCommit (c : QCmd) (data : List Byte) (s : State) : State :=
  { s with host := { s.host with executing := some { cmd := c, op := .journalCommit stOk 0 data, mute := false } } }

/-- A command whose entry would replace one that is not COMMITTED goes on executing until the journal's commit. -/
theorem executeCommand_waits {d : Cmd} {c : QCmd} {s v : State} {data : List Byte} (ho : cmdOutcome d c.ifc c.params s = .ok data v)
    (hp : v.sys.phase = .running) (hd : d.journaled c.params data = true) (hj : journalMustCommit v = true)
    (he : (v.iface c.ifc).epoch = (s.iface c.ifc).epoch) : executeCommand d c s =
      awaitingCommit c data (noteSetting (d.key c.params) d.opcode c.params s v) := by
  rw [executeCommand, ho]
  dsimp only
  rw [if_neg (by rw [hp]; exact Bool.false_ne_true), hd, he, bne_self_eq_false]
  exact finishCommand_waits hj

/-- A WARM reset is asked for. -/
def warmAsked (s : State) : State := { s with host := { s.host with warmDue := true } }

/-- SYS_RESET is admitted in every lifecycle state and mode. -/
theorem sysReset_outcome {p : List Byte} (s : State) (i : Nat) (hp : p = []) : cmdOutcome cmdSysReset i p s = .ok [] (warmAsked s) := by
  subst hp
  have hl : lifecycleDenies s.sys.lifecycle cmdSysReset.opcode [] = false := by cases s.sys.lifecycle <;> rfl
  exact if_neg (by rw [hl]; exact Bool.false_ne_true)

theorem warmAsked_iface (s : State) (i : Nat) : (warmAsked s).iface i = s.iface i := by
  unfold State.iface
  rfl

theorem warmAsked_kept (s : State) : (warmAsked s).outputs = s.outputs ∧ (warmAsked s).host.journal = s.host.journal := ⟨rfl, rfl⟩

theorem awaitingCommit_kept (c : QCmd) (data : List Byte) (k : Option (Nat × List Nat)) (op : Nat) (p : List Byte) (before s : State) :
    (awaitingCommit c data (noteSetting k op p before s)).outputs = s.outputs
      ∧ (awaitingCommit c data (noteSetting k op p before s)).host.journal = s.host.journal := ⟨rfl, rfl⟩

theorem arrived_outputs (q : Packet) (u : State) : (arrived q u).outputs = u.outputs := by
  unfold arrived countPacket State.modIface
  simp only [State.setIface_outputs]

/-- The completion of a command that waited for the journal's commit. -/
theorem exec_commandComplete_journal {dt : Ps} {s u : State} {c : QCmd} {st : Nat} {mute ok : Bool} (hu : u = s.elapse dt) (hr : u.commandsRun = true)
    (he : u.host.executing = some { cmd := c, op := .journalCommit st 0 [], mute }) :
    exec (.commandComplete dt ok) s = .next (closeCommand c true mute st 0 [] (if ok then commitJournal u else u)) := by
  subst hu
  refine congrArg Host.Outcome.next ((if_pos hr).trans ?_)
  rw [commandComplete, he]

/-- Settles O57: `addJournal_ledger` and `addJournal_cause` for the entry, `executeCommand_closes` with `closeCommand_record` for a command that
answers OK, `finishCommand_waits` and `exec_commandComplete_journal` for one that waits for the journal's commit. -/
theorem journalAndSettingsFollowCommands : Obligations.JournalAndSettingsFollowCommands := by
  unfold Obligations.JournalAndSettingsFollowCommands
  refine ⟨fun c st s => ?entry, fun c st s hu hl => addJournal_cause hu hl, ?executes, ?waits, ?committed, ?failed⟩
  case entry => exact congrArg HostSt.journal (addJournal_ledger c st s)
  case executes =>
    rintro d dt q s u v data rfl hr ho hp hj
    obtain ⟨mute, hx⟩ := executeCommand_closes (c := packetCmd d q) ho hp hj
    have hrec := closeCommand_record (packetCmd d q) (d.journaled q.params data) mute stOk 0 data
      (noteSetting (d.key q.params) d.opcode q.params (arrived q (s.elapse dt)) v)
    have hset := noteSetting_settings d q.params (arrived q (s.elapse dt)) v
    have ht : command d dt q s = .next (closeCommand (packetCmd d q) (d.journaled q.params data) mute stOk 0 data
        (noteSetting (d.key q.params) d.opcode q.params (arrived q (s.elapse dt)) v)) := by
      rw [command, runCommand_ready hr, hx]
      rfl
    generalize closeCommand (packetCmd d q) (d.journaled q.params data) mute stOk 0 data
      (noteSetting (d.key q.params) d.opcode q.params (arrived q (s.elapse dt)) v) = t at hrec ht
    simp only [State.record, Prod.mk.injEq] at hrec
    obtain ⟨hjournal, -, -, hsettings, hdirty⟩ := hrec
    refine ⟨t, ht, hsettings.trans hset, ?_, fun hjn => ?_, fun hjn => ?_⟩
    · rw [hdirty, hsettings]
      rfl
    · rw [if_pos hjn] at hjournal
      exact ⟨_, hjournal, rfl, rfl, rfl, rfl, rfl⟩
    · rw [if_neg (by rw [hjn]; exact Bool.false_ne_true)] at hjournal
      exact hjournal
  case waits =>
    intro dt q s u hu hr hst he hw hj hp
    have ho := sysReset_outcome (arrived q u) q.ifc hp
    have hj' : journalMustCommit (arrived q u) = true := by
      rw [journalMustCommit, (arrived_parts q _).2.2]
      exact hj
    have hrun : (warmAsked (arrived q u)).sys.phase = .running :=
      (congrArg SysSt.phase (arrived_parts q u).1).trans (ifaceRuns_running hr)
    have hx := executeCommand_waits (c := packetCmd cmdSysReset q) ho hrun rfl hj' (congrArg Iface.epoch (warmAsked_iface _ _))
    have ht : command cmdSysReset dt q s = .next (awaitingCommit (packetCmd cmdSysReset q) []
        (noteSetting none 0x0103 q.params (arrived q u) (warmAsked (arrived q u)))) := by
      rw [command, ← hu, runCommand_executes hr hst he hw, hx]
      rfl
    obtain ⟨hout, hjournal⟩ := awaitingCommit_kept (packetCmd cmdSysReset q) [] none 0x0103 q.params (arrived q u) (warmAsked (arrived q u))
    obtain ⟨hout', hjournal'⟩ := warmAsked_kept (arrived q u)
    exact ⟨_, ht, (hout.trans hout').trans (arrived_outputs q u), (hjournal.trans hjournal').trans (arrived_parts q u).2.2, rfl⟩
  case committed =>
    intro dt s u c st mute hu hr he
    have hrec := closeCommand_record c true mute st 0 [] (commitJournal u)
    have ht := exec_commandComplete_journal (ok := true) hu hr he
    rw [if_pos rfl] at ht
    generalize closeCommand c true mute st 0 [] (commitJournal u) = t at hrec ht
    rw [commitJournal_committed] at hrec
    simp only [State.record, Prod.mk.injEq] at hrec
    obtain ⟨hjournal, hcount, hexec, -, -⟩ := hrec
    exact ⟨t, _, ht, hexec, rfl, rfl, rfl, rfl, hjournal, hcount⟩
  case failed =>
    intro dt s u c st mute hu hr hj he
    have hrec := closeCommand_record c true mute st 0 [] u
    have ht := exec_commandComplete_journal (ok := false) hu hr he
    rw [if_neg Bool.false_ne_true] at ht
    generalize closeCommand c true mute st 0 [] u = t at hrec ht
    rw [hj] at hrec
    simp only [State.record, Prod.mk.injEq] at hrec
    obtain ⟨hjournal, hcount, hexec, -, -⟩ := hrec
    exact ⟨t, _, ht, hexec, rfl, hjournal, hcount⟩

end Sys2Proof.Machine
end

section
/-! SUPPORT. The pair and federation commands: what a link that goes down writes, the commands' checks and effects, and the statement on them
(R495, R501, R515, R516, R519 to R521). -/

namespace Sys2Proof.Machine

/-! ### An interrupt writes the host part and the outputs only (R459, R460) -/

theorem vecEvent_only (v : Nat) (s : State) : ∃ h o, vecEvent v s = { s with host := h, outputs := o } := by
  unfold vecEvent
  extract_lets m put gap
  split
  · exact ⟨_, _, rfl⟩
  · split
    · split <;> exact ⟨_, _, rfl⟩
    · exact ⟨_, _, rfl⟩

theorem raiseCause_only (n : Nat) (s : State) : ∃ h o, raiseCause n s = { s with host := h, outputs := o } := by
  unfold raiseCause
  extract_lets was
  split
  · obtain ⟨h, o, he⟩ := vecEvent_only (vget 0 s.host.map n).toNat { s with host := { s.host with cause := s.host.cause ||| 1#64 <<< n } }
    exact ⟨h, o, he⟩
  · exact ⟨_, _, rfl⟩

theorem notePartner_only (s t : State) : ∃ h o, notePartner s t = { t with host := h, outputs := o } := by
  unfold notePartner
  split
  · exact ⟨_, _, rfl⟩
  · exact raiseCause_only ..

theorem notePartner_pair (s t : State) : (notePartner s t).pair = t.pair := by
  obtain ⟨h, o, he⟩ := notePartner_only s t
  rw [he]

/-! ### A link that goes down (R494, R497) -/

/-- What a link that goes down keeps of itself. -/
def linkDowned (l : PeerLink) : PeerLink :=
  { l with state := .down, reason := 0, unacked := [], ackDue := false, missed := 0, lastHb := none, txSeq := 0, rxSeq := 0,
           cDowns := if l.state = .joined then inc l.cDowns else l.cDowns }

theorem linkDown_eq (k : Nat) (s : State) : linkDown k s = notePartner s (s.setLink k (linkDowned (s.link k))) := rfl

theorem linkDown_pair (k : Nat) (s : State) : (linkDown k s).pair = { s.pair with links := vset s.pair.links k (linkDowned (s.link k)) } := by
  rw [linkDown_eq, notePartner_pair]
  rfl

theorem linkDown_link_self {k : Nat} (hk : k < 4) (s : State) : (linkDown k s).link k = linkDowned (s.link k) := by
  rw [State.link, linkDown_pair]
  exact vget_vset_self _ _ _ _ hk

theorem linkDown_link_ne {k j : Nat} (h : k ≠ j) (s : State) : (linkDown k s).link j = s.link j := by
  rw [State.link, linkDown_pair]
  exact vget_vset_ne _ _ _ _ _ h

theorem linkDown_hostBase (k : Nat) (s : State) : (linkDown k s).hostBase = s.hostBase :=
  (notePartner_hostBase _ _).trans (hostBase_of_host rfl)

theorem linkDown_executing (k : Nat) (s : State) : (linkDown k s).host.executing = s.host.executing :=
  (congrArg HostSt.executing (linkDown_hostBase k s) :)

/-- No command waits for the link, so the link goes down and nothing else. -/
theorem loseLink_idle {k : Nat} {s : State} (h : s.host.executing = none) : loseLink k s = linkDown k s := by
  rw [loseLink, loseRemoteAdd, linkDown_executing, h]

/-- The federation's links go down. -/
def fedLinksDown (s : State) : State := linkDown 2 (linkDown 1 (linkDown 0 s))

theorem foldl_loseLink_idle {s : State} (h : s.host.executing = none) : [0, 1, 2].foldl (fun s k => loseLink k s) s = fedLinksDown s := by
  simp only [List.foldl_cons, List.foldl_nil]
  rw [loseLink_idle h, loseLink_idle ((linkDown_executing 0 s).trans h),
    loseLink_idle ((linkDown_executing 1 _).trans ((linkDown_executing 0 s).trans h)), fedLinksDown]

theorem fedLinksDown_link (s : State) (k : Nat) (hk : k < 3) : ((fedLinksDown s).link k).state = .down := by
  unfold fedLinksDown
  interval_cases k
  · rw [linkDown_link_ne (by decide), linkDown_link_ne (by decide), linkDown_link_self (by decide)]
    rfl
  · rw [linkDown_link_ne (by decide), linkDown_link_self (by decide)]
    rfl
  · rw [linkDown_link_self (by decide)]
    rfl

theorem fedLinksDown_pair (s : State) : ∃ l, (fedLinksDown s).pair = { s.pair with links := l } := by
  unfold fedLinksDown
  rw [linkDown_pair, linkDown_pair, linkDown_pair]
  exact ⟨_, rfl⟩

theorem fedLinksDown_sys (s : State) : (fedLinksDown s).sys = s.sys := by
  rw [fedLinksDown, linkDown_sys, linkDown_sys, linkDown_sys]

theorem fedLinksDown_hostBase (s : State) : (fedLinksDown s).hostBase = s.hostBase := by
  rw [fedLinksDown, linkDown_hostBase, linkDown_hostBase, linkDown_hostBase]

theorem fedPresent_disabled {s : State} (h : s.pair.fedEnable = false) : s.fedPresent = 0 := if_pos (by rw [h]; rfl)

/-! ### The commands -/

theorem arrived_executing {q : Packet} {v : State} {op : Nat} (h : ready v q op = true) : (arrived q v).host.executing = none := by
  obtain ⟨-, -, he, -⟩ := ready_parts h
  rw [(arrived_parts q v).2.1, he]

section

variable {dt : Ps} {q : Packet} {s u : State} (hu : u = arrived q (s.elapse dt))
include hu

/-- A command whose effect on the host part is causes and messages only. -/
theorem command_executed_raising {d : Cmd} {data : List Byte} {j : Bool} {v : State} (hr : ready (s.elapse dt) q d.opcode = true)
    (hm : d.modes u.sys.mode = true) (hl : d.lenOk q.params = true) (hc : firstBad (d.checks u q.params) = none)
    (hrun : d.run u q.ifc q.params = .ok data v) (hjn : d.journaled q.params data = j) (hs : v.sys = u.sys) (hh : v.hostBase = u.hostBase) :
    executed (command d dt q s) q d.opcode data j v :=
  command_executed_of_parts hu hr hm hl hc hrun hjn hs (journal_of_hostBase hh) (iface_of_hostBase hh)

end

theorem commissionOnly_iff (m : Mode) : commissionOnly m = true ↔ m = .commission := beq_iff_eq

theorem pairSwitchover_unpaired {s : State} (i : Nat) (p : List Byte) (h : s.pair.state = .unpaired) :
    cmdPairSwitchover.run s i p = .err stWrongMode := if_pos h

section

variable {s : State} (i : Nat) (p : List Byte)

/-- A switchover is asked for or granted only where the digests agree and none is under way (R519). -/
theorem pairSwitchover_busy (hs : s.pair.state ≠ .unpaired) (h : s.mismatch = true ∨ s.pair.requested = true ∨ s.pair.declared.isSome = true
      ∨ (s.pair.state ≠ .activePaired ∧ s.pair.state ≠ .standby)
      ∨ (s.pair.state = .activePaired ∧ (s.pair.partnerMode ≠ Mode.standby.code ∨ s.pair.partnerState = PairState.handingOver.code))) :
    cmdPairSwitchover.run s i p = .err stBusy := by
  refine (if_neg hs).trans ?_
  by_cases hb : (s.mismatch || s.pair.requested || s.pair.declared.isSome) = true
  · exact if_pos hb
  · refine (if_neg hb).trans ?_
    rw [Bool.or_eq_true, Bool.or_eq_true, not_or, not_or] at hb
    obtain ⟨⟨hmis, hreq⟩, hdec⟩ := hb
    obtain h | h | h | ⟨ha, hst⟩ | ⟨ha, h⟩ := h
    · exact absurd h hmis
    · exact absurd h hreq
    · exact absurd h hdec
    · generalize s.pair.state = x at ha hst
      cases x with
      | activePaired => exact absurd rfl ha
      | standby => exact absurd rfl hst
      | _ => rfl
    · rw [ha]
      exact if_pos (h.imp_right fun h => beq_iff_eq.2 h)

variable (hm : s.mismatch = false) (hreq : s.pair.requested = false) (hd : s.pair.declared = none)
include hm hreq hd

theorem pairSwitchover_free : ¬ (s.mismatch || s.pair.requested || s.pair.declared.isSome) = true := by
  rw [hm, hreq, hd]
  exact Bool.false_ne_true

theorem pairSwitchover_grants (hs : s.pair.state = .activePaired) (hp : s.pair.partnerMode = Mode.standby.code)
    (hh : s.pair.partnerState ≠ PairState.handingOver.code) : cmdPairSwitchover.run s i p =
      .ok (stampBytes (handoverEdge s).1) (grant { s with pair := { s.pair with cSwitchovers := inc s.pair.cSwitchovers } }) := by
  refine (if_neg (by rw [hs]; exact nofun)).trans ((if_neg (pairSwitchover_free hm hreq hd)).trans ?_)
  dsimp only
  rw [hs]
  exact if_neg (not_or.2 ⟨not_not_intro hp, fun h => hh (beq_iff_eq.1 h)⟩)

theorem pairSwitchover_asks (hs : s.pair.state = .standby) : cmdPairSwitchover.run s i p =
    .long .switchover (sendB 3 0x09 [1] { s with pair := { s.pair with cSwitchovers := inc s.pair.cSwitchovers, requested := true } }) := by
  refine (if_neg (by rw [hs]; exact nofun)).trans ((if_neg (pairSwitchover_free hm hreq hd)).trans ?_)
  dsimp only
  rw [hs]
  rfl

end

theorem pairCounters_clearPair (u : State) (c : Cnt) (hc : c ∈ pairCounters (clearPair u)) : c = 0 := by
  obtain hc | hc := List.mem_append.1 hc
  · exact counters_of_map u.pair.links _ _ (fun a c hc => by simpa using hc) c hc
  · simpa [clearPair] using hc

/-- Settles O32: each command is a use of `command_executed`, `command_refused` or `executing_of_run` on the equation of its body; PAIR_SET and
FED_SET take links down, which `linkDown_pair` and `fedLinksDown_link` describe. -/
theorem pairCommandsTakeEffect : Obligations.PairCommandsTakeEffect := by
  unfold Obligations.PairCommandsTakeEffect
  refine ⟨?pairOn, ?pairOff, ?pairMode, ?status, ?revert, ?unpaired, ?busy, ?grants, ?asks, ?fedOn, ?fedOff, ?fedStatus, ?counters, ?clear⟩
  case pairOn =>
    intro dt q s u hu hr hm hp
    refine command_executed (d := cmdPairSet) hu hr ((commissionOnly_iff _).2 hm) (by rw [hp]; rfl) (by rw [hp]; rfl) ?_ rfl rfl
    rw [hp]
    rfl
  case pairOff =>
    intro dt q s u v hu hr hm hp hv
    have hidle : u.host.executing = none := hu ▸ arrived_executing hr
    have hlose := loseLink_idle (k := 3) (s := { u with pair := { u.pair with pairEnable := false } }) hidle
    rw [hlose] at hv
    have hlink : (v.link 3).state = .down := by
      rw [hv]
      exact congrArg PeerLink.state (linkDown_link_self (k := 3) (by decide) { u with pair := { u.pair with pairEnable := false } })
    have hen : v.pair.pairEnable = false := by
      rw [hv]
      exact congrArg PairSt.pairEnable (linkDown_pair 3 { u with pair := { u.pair with pairEnable := false } })
    refine ⟨command_executed_raising (d := cmdPairSet) hu hr ((commissionOnly_iff _).2 hm) (by rw [hp]; rfl) (by rw [hp]; rfl) ?_ rfl ?_ ?_,
      by rw [hv]; rfl, hen, hlink⟩
    · rw [hp, hv, ← hlose]
      rfl
    · rw [hv]
      exact linkDown_sys 3 _
    · rw [hv]
      exact linkDown_hostBase 3 _
  case pairMode =>
    intro dt q s u hu hr hm
    subst hu
    exact refusedWith_of_outcome cmdPairSet dt q s _ rfl hr stWrongMode 0 nofun nofun
      (cmdOutcome_badMode (arrived_admits (d := cmdPairSet) hr) (Bool.eq_false_iff.2 fun h => hm ((commissionOnly_iff _).1 h)))
  case status =>
    intro dt q s u hu hr hl h128
    exact command_executed (d := cmdPairGetStatus) hu hr rfl (beq_iff_eq.2 hl) (firstBad_upTo h128) rfl rfl rfl
  case revert =>
    intro dt q s u hu hr hl h1 hlo hhi
    refine command_executed (d := cmdPairSetRevert) hu hr rfl (beq_iff_eq.2 hl) ?_ rfl rfl rfl
    have h0 : enableCheck q.params = (true, 0) := by rw [enableCheck, inRange_iff.2 ⟨Nat.zero_le _, h1⟩]
    refine firstBad_eq_none_iff.2 fun x hx => ?_
    obtain rfl | hx := List.mem_cons.1 hx
    · rw [h0]
    · rw [List.mem_singleton.1 hx, inRange_iff.2 ⟨hlo, hhi⟩]
  case unpaired =>
    intro dt q s u hu hr hp hs
    exact command_refused (d := cmdPairSwitchover) (offset := 0) hu hr rfl (by rw [hp]; rfl) rfl nofun nofun (pairSwitchover_unpaired _ _ hs)
  case busy =>
    intro dt q s u hu hr hp hs h
    exact command_refused (d := cmdPairSwitchover) (offset := 0) hu hr rfl (by rw [hp]; rfl) rfl nofun nofun (pairSwitchover_busy _ _ hs h)
  case grants =>
    intro dt q s u hu hr hp hs hpm hps hmis hreq hdec
    refine command_executed (d := cmdPairSwitchover) hu hr rfl (by rw [hp]; rfl) rfl (pairSwitchover_grants _ _ hmis hreq hdec hs hpm hps) rfl ?_
    exact sendB_unsent ..
  case asks =>
    intro dt q s u hu hr hp hs hmis hreq hdec
    exact executing_of_run cmdPairSwitchover dt q s u hu hr rfl (by rw [hp]; rfl) rfl _ _ (pairSwitchover_asks _ _ hmis hreq hdec hs)
  case fedOn =>
    intro dt q s u v hu hr hm hp hv
    refine command_executed_raising (d := cmdFedSet) hu hr ((commissionOnly_iff _).2 hm) (by rw [hp]; rfl) (by rw [hp]; rfl) ?_ rfl ?_ ?_
    · rw [hp, hv]
      rfl
    · rw [hv, notePartner_sys]
    · rw [hv, notePartner_hostBase]
      rfl
  case fedOff =>
    intro dt q s u v hu hr hm hp hv
    have hidle : u.host.executing = none := hu ▸ arrived_executing hr
    have hlose := foldl_loseLink_idle (s := { u with pair := { u.pair with fedEnable := false } }) hidle
    have hpair : v.pair = (fedLinksDown { u with pair := { u.pair with fedEnable := false } }).pair := by
      rw [hv, notePartner_pair, hlose]
    have hfed : v.pair.fedEnable = false := by
      obtain ⟨l, hl⟩ := fedLinksDown_pair { u with pair := { u.pair with fedEnable := false } }
      rw [hpair, hl]
    have hsys : v.sys = u.sys := by
      rw [hv, notePartner_sys, hlose, fedLinksDown_sys]
    have hhost : v.hostBase = u.hostBase := by
      rw [hv, notePartner_hostBase, hlose, fedLinksDown_hostBase]
      rfl
    refine ⟨command_executed_raising (d := cmdFedSet) hu hr ((commissionOnly_iff _).2 hm) (by rw [hp]; rfl) (by rw [hp]; rfl) ?_ rfl hsys hhost, hfed,
      fun k hk => ?_⟩
    · rw [← fedPresent_disabled hfed, hp, hv]
      rfl
    · exact (congrArg (fun x : PairSt => (vget ({} : PeerLink) x.links k).state) hpair).trans (fedLinksDown_link _ k hk)
  case fedStatus =>
    intro dt q s u hu hr hp
    exact command_executed (d := cmdFedGetStatus) hu hr rfl (by rw [hp]; rfl) rfl rfl rfl rfl
  case counters =>
    intro dt q s u hu hr hp
    refine command_executed (d := cmdPairGetCounters) hu hr rfl ?_ ?_ ?_ ?_ rfl
    all_goals rw [hp]; rfl
  case clear =>
    intro dt q s u hu hr hp
    refine ⟨command_executed (d := cmdPairGetCounters) (v := clearPair u) hu hr rfl ?_ ?_ ?_ ?_ rfl, pairCounters_clearPair u⟩
    all_goals rw [hp]; rfl

end Sys2Proof.Machine
end

section
/-! SUPPORT. The frames of the peer links: their rows, what each frame writes at the branches of its conditions, and the statement on them (R491
to R494, R496, R498 to R501). -/

namespace Sys2Proof.Machine

/-! ### The rows -/

section

variable {dt : Ps} {s u : State} (hu : u = s.elapse dt)
include hu

theorem exec_peerLinkTraining (k : Nat) : exec (.peerLinkTraining dt k) s = .next (linkTraining k u) := hu ▸ rfl

theorem exec_peerLinkDown (k : Nat) : exec (.peerLinkDown dt k) s = .next (if (u.link k).state = .down then u else loseLink k u) := hu ▸ rfl

theorem exec_hello (k : Nat) (m : HelloMsg) : exec (.hello dt k m) s = .next (helloRx k m u) := hu ▸ rfl

theorem exec_helloRepeat (k : Nat) : exec (.helloRepeat dt k) s = .next (helloRepeat k u) := hu ▸ rfl

theorem exec_ack (x : PeerIn) (n : Nat) : exec (.ack dt x n) s = .next (ackRx x n u) := hu ▸ rfl

theorem exec_gen (x : PeerIn) (i n : Nat) : exec (.gen dt x i n) s = .next (genRx x i n u) := hu ▸ rfl

theorem exec_takeover (x : PeerIn) {p : Nat} (hp : p < 4) : exec (.takeover dt x p) s = .next (takeoverRx x u) := by
  subst hu
  exact congrArg Host.Outcome.next (if_pos hp)

theorem exec_ackSend (k : Nat) : exec (.ackSend dt k) s = .next (ackSend k u) := hu ▸ rfl

theorem exec_peerResend (k : Nat) : exec (.peerResend dt k) s = .next (peerResend k u) := hu ▸ rfl

theorem exec_record (k : Nat) (ok : Bool) {z : Nat} (hz : z < 64) (b : List Byte) : exec (.record dt k ok z b) s = .next (recordRx k ok b u) := by
  subst hu
  exact congrArg Host.Outcome.next (if_pos hz)

theorem exec_genRepeat (i : Nat) : exec (.genRepeat dt i) s = .next (genRepeat i u) := hu ▸ rfl

theorem exec_control (k : Nat) (q : PeerSeq) (i z : Nat) (add : Bool) {e : Stamp} (he : e < stampMod) :
    exec (.control dt k q i z add e) s = .next (controlRx k q i z add u) := by
  subst hu
  exact congrArg Host.Outcome.next (if_pos he)

end

/-! ### Links (R494) -/

theorem linkEnabled_of {s : State} {k : Nat}
    (h : k < 3 ∧ s.online = true ∧ s.pair.fedEnable = true ∨ k = 3 ∧ s.peersUp = true ∧ s.pair.pairEnable = true) : linkEnabled s k = true := by
  rw [linkEnabled]
  obtain ⟨hk, ho, hf⟩ | ⟨rfl, hp, he⟩ := h
  · rw [if_pos hk, ho, hf]
    rfl
  · rw [if_neg (by decide), hp, he]
    rfl

theorem dropPeer_up {k : Nat} {s : State} (h : (s.link k).state ≠ .down) :
    dropPeer k s = s.setLink k { s.link k with cCrc := inc (s.link k).cCrc } := if_neg h

theorem link_setLink {s : State} {k : Nat} {l : PeerLink} (hk : k < 4) : (s.setLink k l).link k = l := State.setLink_link_self s k l hk

/-- A journal entry is mirrored on PEER_3 alone, and only once it has joined. -/
theorem mirrorItem_link {code : Nat} {content : List Byte} {s : State} {k : Nat} (h : k ≠ 3 ∨ (s.link 3).state ≠ .joined) :
    (mirrorItem code content s).link k = s.link k := by
  unfold mirrorItem
  split
  · rename_i hm
    have hk : k ≠ 3 := by
      rw [Bool.and_eq_true, decide_eq_true_eq] at hm
      exact h.resolve_right (not_not_intro hm.2)
    refine foldl_keeps_read (fun s : State => s.link k) (g := fun s p => sendB 3 0x07 p s) (fun s p => ?_) _ s
    unfold sendB
    dsimp only
    split
    · exact State.setLink_link_ne s 3 _ k (Ne.symm hk)
    · rfl
  · rfl

theorem raiseCause_pair (n : Nat) (s : State) : (raiseCause n s).pair = s.pair := by
  obtain ⟨h, o, he⟩ := raiseCause_only n s
  rw [he]

theorem rqWriteWord_pair (n : Nat) (w : Word32) (f l : Option Nat) (s : State) : (rqWriteWord n w f l s).2.pair = s.pair := by
  unfold rqWriteWord
  dsimp only
  split
  · exact raiseCause_pair _ _
  · rfl

theorem rqItemWords_pair (n l i : Nat) (ws : List Word32) (s : State) : (rqItemWords n l i ws s).2.pair = s.pair := by
  induction ws generalizing i s with
  | nil => rfl
  | cons w ws ih =>
    unfold rqItemWords
    generalize (if i = 0 then some l else none) = f
    generalize (if ws.isEmpty = true then some 4 else none) = la
    dsimp only
    split
    · exact rqWriteWord_pair n w f la s
    · split <;> exact (ih _ _).trans (rqWriteWord_pair n w f la s)

theorem routeEntry_pair (e : JEntry) (s : State) : (routeEntry e s).pair = s.pair := by
  unfold routeEntry
  split
  case h_1 => rfl
  case h_2 n _ =>
    have h : (rqItem n (jentryBytes e) s).2.pair = s.pair := rqItemWords_pair ..
    generalize rqItem n (jentryBytes e) s = r at h ⊢
    dsimp only
    split <;> exact h

theorem link_of_pair {s t : State} (h : t.pair = s.pair) (k : Nat) : t.link k = s.link k := congrArg (fun x : PairSt => vget ({} : PeerLink) x.links k) h

theorem addJournal_link {c : QCmd} {st : Nat} {s : State} {k : Nat} (h : k ≠ 3 ∨ (s.link 3).state ≠ .joined) :
    (addJournal c st s).link k = s.link k := by
  unfold addJournal
  extract_lets e lost _ s1 s2
  have h2 : (routeEntry e s2).pair = s.pair := by
    refine (routeEntry_pair e s2).trans ?_
    unfold s2
    split
    · exact raiseCause_pair ..
    · rfl
  exact (mirrorItem_link (h.imp_right fun h => by rwa [link_of_pair h2])).trans (link_of_pair h2 k)

theorem State.modIface_pair (s : State) (i : Nat) (g : Iface → Iface) : (s.modIface i g).pair = s.pair := State.setIface_pair s i _

theorem sendReply_pair (o : Origin) (r : Reply) (s : State) : (sendReply o r s).pair = s.pair := by
  cases o with
  | direct => exact State.modIface_pair ..
  | ring n => rfl
  | mgmt ip port => exact State.modIface_pair ..
  | svc => rfl

theorem endWaiting_link {st : Nat} {data : List Byte} {s : State} {k : Nat} (h : k ≠ 3 ∨ (s.link 3).state ≠ .joined) :
    (endWaiting st data s).link k = s.link k := by
  unfold endWaiting
  split
  · unfold finishCommand
    split
    · rfl
    · unfold closeCommand
      extract_lets s1 _ s2
      have h2 : s2.link k = s.link k := addJournal_link h
      split
      · exact (link_of_pair (State.modIface_pair ..) k).trans h2
      · exact (link_of_pair (sendReply_pair ..) k).trans h2
  · rfl

/-- A link that goes down is down, whatever command waited for it. -/
theorem loseLink_link {k : Nat} (hk : k < 4) (s : State) : (loseLink k s).link k = linkDowned (s.link k) := by
  rw [loseLink, loseRemoteAdd]
  have hself := linkDown_link_self hk s
  split
  · split
    · split
      · refine (endWaiting_link ?_).trans hself
        by_cases h3 : k = 3
        · subst h3
          refine .inr ?_
          change ((linkDown 3 s).link 3).state ≠ .joined
          rw [hself]
          exact nofun
        · exact .inl h3
      · exact hself
    · exact hself
  · exact hself

theorem sendA_pair (k type : Nat) (payload : List Byte) (s : State) : (sendA k type payload s).pair = s.pair := by
  unfold sendA
  split <;> rfl

theorem sendGen_link (i home : Nat) (gen : BitVec 4) (s : State) (k : Nat) : (sendGen i home gen s).link k = s.link k := by
  unfold sendGen
  split
  · rfl
  · exact link_of_pair (sendA_pair ..) k

theorem sendGens_link (j : Nat) (s : State) (k : Nat) : (sendGens j s).link k = s.link k :=
  foldl_keeps_read (fun s : State => s.link k) (g := fun s (x : Nat × Nat × BitVec 4) => sendGen x.1 x.2.1 x.2.2 s)
    (fun s x => sendGen_link x.1 x.2.1 x.2.2 s k) _ s

/-! ### HELLO (R494, R496, R501) -/

section

variable {s : State} {k : Nat} {m : HelloMsg}

theorem helloRx_unsound (hl : (s.link k).state ≠ .down) (hm : m.ok = false) :
    helloRx k m s = s.setLink k { s.link k with cCrc := inc (s.link k).cCrc } := by
  rw [helloRx, takeB]
  simp only [hm]
  exact dropPeer_up hl

theorem takeB_ok {q : PeerSeq} {hello : Bool} (hq : q.ok = true) (hl : (s.link k).state = .joined ∨ hello = true ∧ (s.link k).state ≠ .down)
    (hs : q.lseq = (s.link k).rxSeq) : takeB k q hello s =
      (true, s.setLink k { s.link k with rxSeq := ((s.link k).rxSeq + 1) % 4294967296, ackDue := true }) := by
  have hc : ((s.link k).state = .joined || (hello && (s.link k).state != .down)) = true := by
    rw [Bool.or_eq_true, decide_eq_true_eq, Bool.and_eq_true, bne_iff_ne]
    exact hl
  rw [takeB]
  dsimp only
  rw [hq, hc]
  exact if_pos hs

theorem takeB_unexpected {q : PeerSeq} (hq : q.ok = true) (hl : (s.link k).state ≠ .down) (hs : q.lseq ≠ (s.link k).rxSeq) :
    takeB k q true s = (false, if seqBefore q.lseq (s.link k).rxSeq then s.setLink k { s.link k with ackDue := true } else s) := by
  have hc : ((s.link k).state = .joined || (true && (s.link k).state != .down)) = true := by
    rw [Bool.or_eq_true, Bool.and_eq_true, bne_iff_ne]
    exact .inr ⟨rfl, hl⟩
  rw [takeB]
  dsimp only
  rw [hq, hc]
  refine (if_neg hs).trans ?_
  split <;> rfl

/-- The link with what a HELLO says of the far end. -/
def helloFar (m : HelloMsg) (l : PeerLink) : PeerLink :=
  { l with rxSeq := (l.rxSeq + 1) % 4294967296, ackDue := true, farPos := m.position, farSerial := m.serial, farFw := m.fwVer, farCat := m.catVer }

/-- What a HELLO writes of the pair. -/
def helloPaired (m : HelloMsg) (s : State) : State :=
  let conflict := m.pairRole == s.sys.straps.pairRole
  { s with pair := { s.pair with
    versionDiffer := m.fwVer != s.fwVer, conflict
    conflictPrimary := if conflict then some (decide (s.sec.serial.toNat < m.serial)) else s.pair.conflictPrimary
    partnerMode := m.mode, partnerState := m.pairState, hbMissed := false } }

variable (hk : k < 4) (hl : (s.link k).state = .training) (hm : m.ok = true) (hs : m.lseq = (s.link k).rxSeq)
include hk hl hm hs

omit hk in
theorem helloTaken : takeB k { lseq := m.lseq, ok := m.ok } true s =
    (true, s.setLink k { s.link k with rxSeq := ((s.link k).rxSeq + 1) % 4294967296, ackDue := true }) :=
  takeB_ok hm (.inr ⟨rfl, by rw [hl]; exact nofun⟩) hs

/-- The link state that a HELLO in TRAINING leads to, where it is refused and where it joins. -/
theorem helloRx_taken : helloRx k m s =
    let s1 := s.setLink k { s.link k with rxSeq := ((s.link k).rxSeq + 1) % 4294967296, ackDue := true }
    if helloReason s k m ≠ 0 then s1.setLink k { helloFar m (s.link k) with state := .refused, reason := helloReason s k m }
    else notePartner s (
      let s2 := s1.setLink k { helloFar m (s.link k) with state := .joined, reason := 0, missed := 0, lastHb := some s.now, hbSentAt := s.now }
      if k = 3 then helloPaired m s2 else sendGens k s2) := by
  rw [helloRx]
  dsimp only
  rw [helloTaken hl hm hs]
  dsimp only
  rw [link_setLink hk]
  exact if_neg (not_not_intro hl)

theorem helloRx_refused (hr : helloReason s k m ≠ 0) :
    ((helloRx k m s).link k).state = .refused ∧ ((helloRx k m s).link k).reason = helloReason s k m := by
  rw [helloRx_taken hk hl hm hs]
  dsimp only
  rw [if_pos hr, link_setLink hk]
  exact ⟨rfl, rfl⟩

theorem helloRx_joined (hr : helloReason s k m = 0) : (helloRx k m s).link k =
    { helloFar m (s.link k) with state := .joined, reason := 0, missed := 0, lastHb := some s.now, hbSentAt := s.now } := by
  rw [helloRx_taken hk hl hm hs]
  dsimp only
  rw [if_neg (not_not_intro hr), link_of_pair (notePartner_pair _ _)]
  split
  · exact link_setLink hk
  · rw [sendGens_link, link_setLink hk]

end

/-- A HELLO that joins PEER_3 says of the partner what the frame carries. -/
theorem helloRx_paired {s : State} {m : HelloMsg} (hl : (s.link 3).state = .training) (hm : m.ok = true) (hs : m.lseq = (s.link 3).rxSeq)
    (hr : helloReason s 3 m = 0) : ∃ t, (helloRx 3 m s).pair = (helloPaired m t).pair ∧ t.sys = s.sys ∧ t.sec = s.sec ∧ t.upd = s.upd
      ∧ (helloRx 3 m s).sys = s.sys := by
  rw [helloRx_taken (by decide) hl hm hs]
  dsimp only
  rw [if_neg (not_not_intro hr), notePartner_pair, notePartner_sys, if_pos rfl]
  exact ⟨_, rfl, rfl, rfl, rfl, rfl⟩

theorem helloReason_own {s : State} {k : Nat} {m : HelloMsg} (hk : k < 3) (h : m.position = s.position) : helloReason s k m = 2 := by
  rw [helloReason, if_neg (by omega), if_pos h]

theorem helloReason_place {s : State} {k : Nat} {m : HelloMsg} (hk : k < 3) (h : m.position ≠ s.position) (hf : m.position ≠ farPosition s k) :
    helloReason s k m = 1 := by
  rw [helloReason, if_neg (by omega), if_neg h, if_pos hf]

theorem helloReason_version {s : State} {k : Nat} {m : HelloMsg} (hk : k < 3) (h : m.position ≠ s.position) (hf : m.position = farPosition s k)
    (hv : m.fwVer ≠ s.fwVer ∨ m.catVer ≠ s.catVer) : helloReason s k m = 3 := by
  rw [helloReason, if_neg (by omega), if_neg h, if_neg (not_not_intro hf), if_pos hv]

theorem helloReason_none {s : State} {k : Nat} {m : HelloMsg} (hk : k < 3) (h : m.position ≠ s.position) (hf : m.position = farPosition s k)
    (hw : m.fwVer = s.fwVer) (hc : m.catVer = s.catVer) : helloReason s k m = 0 := by
  rw [helloReason, if_neg (by omega), if_neg h, if_neg (not_not_intro hf), if_neg (not_or.2 ⟨not_not_intro hw, not_not_intro hc⟩)]

theorem position_lt (s : State) : s.position < 4 := by
  unfold State.position
  cases s.sys.straps.fedId1 <;> cases s.sys.straps.fedId0 <;> decide

/-- A federation link leads to another position than the device's own. -/
theorem farPosition_ne {s : State} {k : Nat} (hk : k < 3) : farPosition s k ≠ s.position := by
  have := position_lt s
  unfold farPosition
  omega

theorem helloRx_unexpected {s : State} {k : Nat} {m : HelloMsg} (hl : (s.link k).state ≠ .down) (hm : m.ok = true) (hs : m.lseq ≠ (s.link k).rxSeq) :
    helloRx k m s = if seqBefore m.lseq (s.link k).rxSeq then s.setLink k { s.link k with ackDue := true } else s := by
  rw [helloRx]
  dsimp only
  rw [takeB_unexpected (q := { lseq := m.lseq, ok := m.ok }) hm hl hs]
  rfl

/-! ### Acknowledgement and resending (R493, R494) -/

section

variable {s : State} {k : Nat}

theorem linkTraining_begins (he : linkEnabled s k = true) (hl : (s.link k).state = .down) : linkTraining k s =
    sendB k 0x01 (helloPayload s) (s.setLink k { s.link k with state := .training, txSeq := 0, rxSeq := 0, unacked := [], helloAt := s.now }) :=
  if_pos (by rw [he, decide_eq_true hl]; rfl)

theorem helloRepeat_sends (hl : (s.link k).state = .refused) (hp : s.peersUp = true) (ht : (s.link k).helloAt + 1000000000 ≤ s.now) :
    helloRepeat k s = sendBlocks k (peerFrame 0x01 (s.link k).txSeq (helloPayload s))
      (s.setLink k { s.link k with helloAt := s.now, txSeq := ((s.link k).txSeq + 1) % 4294967296 }) :=
  if_pos (by rw [decide_eq_true hl, hp, decide_eq_true ht]; rfl)

theorem helloRepeat_early (ht : s.now < (s.link k).helloAt + 1000000000) : helloRepeat k s = s :=
  if_neg (by rw [decide_eq_false (Nat.not_le.2 ht), Bool.and_false]; exact Bool.false_ne_true)

theorem ackRx_idle {x : PeerIn} {n : Nat} (hx : x.ok = true) (hl : (s.link x.link).state = .down ∨ (s.link x.link).state = .refused) :
    ackRx x n s = s := by
  rw [ackRx, hx]
  exact if_pos hl

theorem ackRx_unsound {x : PeerIn} {n : Nat} (hx : x.ok = false) : ackRx x n s = dropPeer x.link s := by
  rw [ackRx, hx]
  rfl

/-- A link whose frames up to an LSEQ are acknowledged. -/
def linkAcked (n : Nat) (now : Ps) (l : PeerLink) : PeerLink :=
  let left := l.unacked.filter fun f => seqBefore n f.1
  { l with unacked := left, progressAt := if left.length = l.unacked.length then l.progressAt else now }

/-- With no command executing an ACK takes the frames it acknowledges from the link. -/
theorem ackRx_acknowledges {x : PeerIn} {n : Nat} (hx : x.ok = true) (hl : (s.link x.link).state = .training ∨ (s.link x.link).state = .joined)
    (he : s.host.executing = none) : ackRx x n s = s.setLink x.link (linkAcked n s.now (s.link x.link)) := by
  have hno : ¬ ((s.link x.link).state = .down ∨ (s.link x.link).state = .refused) := by
    obtain hl | hl := hl
    · rw [hl]
      exact not_or.2 ⟨nofun, nofun⟩
    · rw [hl]
      exact not_or.2 ⟨nofun, nofun⟩
  rw [ackRx, hx]
  have he' : (s.setLink x.link (linkAcked n s.now (s.link x.link))).host.executing = none := he
  refine (if_neg hno).trans ?_
  change (match (s.setLink x.link (linkAcked n s.now (s.link x.link))).host.executing with | some e => _ | none => _) = _
  rw [he']
  rfl

theorem genRx_unsound {x : PeerIn} {i n : Nat} (hx : x.ok = false) : genRx x i n s = dropPeer x.link s := by
  rw [genRx, hx]
  rfl

theorem takeoverRx_unsound {x : PeerIn} (hx : x.ok = false) : takeoverRx x s = dropPeer x.link s := by
  rw [takeoverRx, hx]
  rfl

theorem ackSend_sends (hd : (s.link k).ackDue = true) (hl : (s.link k).state = .training ∨ (s.link k).state = .joined) : ackSend k s =
    (s.setLink k { s.link k with ackDue := false }).emit (.peer k (peerFrame 0x06 0 (be 4 (((s.link k).rxSeq + 4294967295) % 4294967296)))) :=
  if_pos (by rw [hd, Bool.true_and, Bool.or_eq_true, decide_eq_true_eq, decide_eq_true_eq]; exact hl)

theorem ackSend_idle (hl : (s.link k).state = .down ∨ (s.link k).state = .refused) : ackSend k s = s := by
  refine if_neg ?_
  obtain hl | hl := hl
  · rw [hl]
    simp
  · rw [hl]
    simp

theorem peerResend_idle (hl : (s.link k).state = .down ∨ (s.link k).state = .refused) : peerResend k s = s := by
  refine if_pos ?_
  obtain hl | hl := hl
  · rw [hl]
    simp
  · rw [hl]
    simp

theorem peerResend_sends (hu : (s.link k).unacked ≠ []) (hl : (s.link k).state = .training ∨ (s.link k).state = .joined)
    (ht : (s.link k).progressAt + 50000000 ≤ s.now) : peerResend k s =
      (s.link k).unacked.foldl (fun t f => sendBlocks k (peerFrame f.2.1 f.1 f.2.2) t) (s.setLink k { s.link k with
        progressAt := s.now, cResends := incBy (s.link k).cResends (s.link k).unacked.length }) := by
  refine if_neg ?_
  have hne : (s.link k).unacked.isEmpty = false := Bool.eq_false_iff.2 fun h => hu (List.isEmpty_iff.1 h)
  rw [hne, decide_eq_false (Nat.not_lt.2 ht)]
  obtain hl | hl := hl
  · rw [hl]
    simp
  · rw [hl]
    simp

end

/-! ### The federation (R497 to R500) -/

/-- A zone with the GEN that a peer frame gives of a member. -/
def zoneGenNoted (r : StreamRef) (n : Nat) (z : Zone) : Zone :=
  { z with members := z.members.map fun (m : Member) => if m.ref = r then { m with remoteGen := some n } else m }

section

variable {s : State} {k : Nat} (hk : k < 3)
include hk

theorem recordRx_counts {ok : Bool} {b : List Byte} (hl : (s.link k).state = .joined) (hp : s.peersUp = true)
    (h : ok = false ∨ b.length < 32 ∨ 368 < b.length) : recordRx k ok b s = s.setLink k { s.link k with cCrc := inc (s.link k).cCrc } := by
  have hno : ¬ (3 ≤ k ∨ (s.link k).state ≠ .joined ∨ (!s.peersUp) = true) := by
    rw [hl, hp]
    simp [hk]
  refine (if_neg hno).trans (if_pos ?_)
  rw [Bool.or_eq_true]
  refine h.imp (fun h => by rw [h]; rfl) fun h => ?_
  rw [Bool.not_eq_true', Bool.eq_false_iff, Ne, inRange_iff]
  omega

theorem recordRx_inserts {b : List Byte} (hl : (s.link k).state = .joined) (hp : s.peersUp = true) (h1 : 32 ≤ b.length) (h2 : b.length ≤ 368) :
    recordRx k true b s = pushInsert (fclkAt s.now 20) (recordOfBytes (s.pair.remoteEpoch + 1) b)
      (remoteNews (s.setLink k { s.link k with cRecRx := inc (s.link k).cRecRx })) := by
  have hno : ¬ (3 ≤ k ∨ (s.link k).state ≠ .joined ∨ (!s.peersUp) = true) := by
    rw [hl, hp]
    simp [hk]
  exact (if_neg hno).trans (if_neg (by rw [inRange_iff.2 ⟨h1, h2⟩]; exact Bool.false_ne_true))

omit hk in
theorem zoneGenNoted_mem {r : StreamRef} {n : Nat} {z : Zone} {m : Member} (hm : m ∈ z.members) (hr : m.ref = r) :
    { m with remoteGen := some n } ∈ (zoneGenNoted r n z).members := List.mem_map.2 ⟨m, hm, if_pos hr⟩

theorem genRx_updates {x : PeerIn} {i n : Nat} (hx : x.ok = true) (hxk : x.link = k) (hl : (s.link k).state = .joined) : genRx x i n s =
    remoteNews { s with align := { s.align with
      zones := tabMap (fun _ => zoneGenNoted { position := farPosition s k, isLocal := false, index := i } n) s.align.zones } } := by
  subst hxk
  rw [genRx, hx]
  exact if_neg (not_or.2 ⟨Nat.not_le.2 hk, not_not_intro hl⟩)

variable {q : PeerSeq} {i z : Nat} {add : Bool} (hl : (s.link k).state = .joined) (hq : q.ok = true) (hs : q.lseq = (s.link k).rxSeq)
include hl hq hs

/-- The state with a class B frame of a joined link taken. -/
theorem controlRx_taken : controlRx k q i z add s =
    let s1 := s.setLink k { s.link k with rxSeq := ((s.link k).rxSeq + 1) % 4294967296, ackDue := true }
    if add then
      if (s.ctx i).state = .free ∨ belongs s { position := s.position, isLocal := false, index := i } then s1
      else s1.setCtx i { s.ctx i with zone := some z, forward := some (farPosition s k, z) }
    else if (s.ctx i).forward = some (farPosition s k, z) then s1.setCtx i { s.ctx i with zone := none, forward := none }
    else s1 := by
  rw [controlRx, if_neg (Nat.not_le.2 hk), takeB_ok hq (.inl hl) hs]
  rfl

end

/-- The next copy of a GEN frame leaves (R499). -/
theorem genRepeat_sends {s : State} {i k : Nat} {x : GenRepeat} (hg : s.pair.genRepeats = [x]) (hi : x.index = i) (h1 : x.sent = 1)
    (ht : x.nextAt ≤ s.now) (hh : s.linkTo x.home = some k) (hl : (s.link k).state = .joined) :
    genRepeat i s = ({ s with pair := { s.pair with genRepeats := [{ x with sent := 2, nextAt := x.nextAt + 1000000 }] } }).emit
      (.peer k (peerFrame 0x04 0 (be 2 i ++ be 1 x.gen ++ be 1 0))) := by
  have hfind : s.pair.genRepeats.find? (fun x => x.index = i) = some x := by
    rw [hg]
    exact List.find?_cons_of_pos (decide_eq_true hi)
  have hrest : s.pair.genRepeats.filterMap (fun y => if y.index = i then
      (if 3 ≤ x.sent + 1 then none else some { x with sent := x.sent + 1, nextAt := x.nextAt + 1000000 }) else some y)
      = [{ x with sent := 2, nextAt := x.nextAt + 1000000 }] := by
    rw [hg, List.filterMap_cons, if_pos hi, h1]
    rfl
  rw [genRepeat, hfind]
  dsimp only
  rw [if_neg (Nat.not_lt.2 ht), hrest, hh]
  exact if_pos hl

/-- Settles O33: the lemmas above, each the branch of a frame's treatment that its clause names. -/
theorem peerFramesTakeEffect : Obligations.PeerFramesTakeEffect := by
  unfold Obligations.PeerFramesTakeEffect
  refine ⟨?training, ?down, ?joins, ?reasons, ?pairs, ?misplaced, ?unexpected, ?unsound, ?repeats, ?noRepeat, ?ack, ?noAck, ?drops, ?ackSend, ?noSend,
    fun _ _ _ => rfl, ?resends, ?record, ?noRecord, ?gen, ?genRepeat, ?forwards, ?noForward, ?ends⟩
  case training =>
    intro dt s u k hu he hl
    rw [exec_peerLinkTraining hu, linkTraining_begins (linkEnabled_of he) hl]
  case down =>
    intro dt s u k hu hk hl
    refine ⟨_, exec_peerLinkDown hu k, ?_⟩
    rw [if_neg hl, loseLink_link hk]
    exact ⟨rfl, rfl, rfl, rfl⟩
  case joins =>
    intro dt s u k m hu hk hl hm hs hf hp hw hc
    refine ⟨_, exec_hello hu k m, ?_⟩
    rw [helloRx_joined (by omega) hl hm hs (helloReason_none hk hp hf hw hc), hs]
    exact ⟨rfl, rfl, rfl, rfl, rfl⟩
  case reasons =>
    intro dt s u k m hu hk hl hm hs
    refine ⟨_, exec_hello hu k m, ?_⟩
    have hk4 : k < 4 := by omega
    by_cases hp : m.position = u.position
    · obtain ⟨h1, h2⟩ := helloRx_refused hk4 hl hm hs (by rw [helloReason_own hk hp]; decide)
      exact .inl ⟨hp, h1, h2.trans (helloReason_own hk hp)⟩
    · by_cases hf : m.position = farPosition u k
      · by_cases hv : m.fwVer ≠ u.fwVer ∨ m.catVer ≠ u.catVer
        · obtain ⟨h1, h2⟩ := helloRx_refused hk4 hl hm hs (by rw [helloReason_version hk hp hf hv]; decide)
          exact .inr (.inr (.inl ⟨hf, hv, h1, h2.trans (helloReason_version hk hp hf hv)⟩))
        · rw [not_or, not_not, not_not] at hv
          obtain ⟨hw, hc⟩ := hv
          refine .inr (.inr (.inr ⟨hf, hw, hc, ?_⟩))
          rw [helloRx_joined hk4 hl hm hs (helloReason_none hk hp hf hw hc)]
      · obtain ⟨h1, h2⟩ := helloRx_refused hk4 hl hm hs (by rw [helloReason_place hk hp hf]; decide)
        exact .inr (.inl ⟨hp, hf, h1, h2.trans (helloReason_place hk hp hf)⟩)
  case pairs =>
    intro dt s u m hu hl hm hs hp
    have hr : helloReason u 3 m = 0 := if_pos hp
    obtain ⟨t, hpair, hsys, hsec, hupd, -⟩ := helloRx_paired hl hm hs hr
    refine ⟨_, exec_hello hu 3 m, ?_, ?_, ?_, fun hrole => ?_⟩
    · rw [helloRx_joined (by decide) hl hm hs hr]
    · rw [hpair, ← hsys]
      rfl
    · rw [hpair, State.fwVer, ← hupd]
      rfl
    · rw [State.primary, hpair]
      have hc : (m.pairRole == t.sys.straps.pairRole) = true := by rw [hsys, hrole, beq_self_eq_true]
      simp only [helloPaired, hc, if_true, Option.getD_some, hsec]
  case misplaced =>
    intro dt s u m hu hl hm hs hp
    have hr : helloReason u 3 m = 1 := if_neg hp
    obtain ⟨h1, h2⟩ := helloRx_refused (by decide) hl hm hs (by rw [hr]; decide)
    exact ⟨_, exec_hello hu 3 m, h1, h2.trans hr⟩
  case unexpected =>
    intro dt s u k m hu hl hm hs
    rw [exec_hello hu, helloRx_unexpected hl hm hs]
  case unsound =>
    intro dt s u k m hu hl hm
    rw [exec_hello hu, helloRx_unsound hl hm]
  case repeats =>
    intro dt s u k hu hl hp ht
    rw [exec_helloRepeat hu, helloRepeat_sends hl hp ht]
  case noRepeat =>
    intro dt s u k hu ht
    rw [exec_helloRepeat hu, helloRepeat_early ht]
  case ack =>
    rintro dt s u x k n hu hx rfl hk hl he
    refine ⟨_, exec_ack hu x n, ?_⟩
    rw [ackRx_acknowledges hx hl he, link_setLink hk]
    exact ⟨rfl, rfl, rfl⟩
  case noAck =>
    intro dt s u x n hu hx hl
    rw [exec_ack hu, ackRx_idle hx hl]
  case drops =>
    intro dt s u v x n i p hu hx hl hp hv
    rw [exec_ack hu, exec_gen hu, exec_takeover hu x hp, ackRx_unsound hx, genRx_unsound hx, takeoverRx_unsound hx, dropPeer_up hl, hv]
    exact ⟨rfl, rfl, rfl⟩
  case ackSend =>
    intro dt s u k hu hd hl
    rw [exec_ackSend hu, ackSend_sends hd hl]
  case noSend =>
    intro dt s u k hu hl
    rw [exec_ackSend hu, exec_peerResend hu, ackSend_idle hl, peerResend_idle hl]
    exact ⟨rfl, rfl⟩
  case resends =>
    intro dt s u k hu hne hl ht
    rw [exec_peerResend hu, peerResend_sends hne hl ht]
  case record =>
    intro dt s u k z b hu hk hz hl hp h1 h2
    rw [exec_record hu k true hz, recordRx_inserts hk hl hp h1 h2]
  case noRecord =>
    intro dt s u k z ok b hu hk hz hl hp h
    rw [exec_record hu k ok hz, recordRx_counts hk hl hp h]
  case gen =>
    intro dt s u p k i gen z x m hu hp hpk hk hl hz hm href
    refine ⟨_, zoneGenNoted { position := farPosition u k, isLocal := false, index := i } gen x, exec_gen hu p i gen, ?_, zoneGenNoted_mem hm href⟩
    rw [genRx_updates hk hp hpk hl]
    refine (tabGet?_tabMap (fun _ => zoneGenNoted { position := farPosition u k, isLocal := false, index := i } gen) z u.align.zones).trans ?_
    rw [hz]
    rfl
  case genRepeat =>
    intro dt s u i k x hu hg hi h1 ht hh hl
    rw [exec_genRepeat hu, genRepeat_sends hg hi h1 ht hh hl]
  case forwards =>
    intro dt s u q k i z e hu hk he hl hq hs hi hc hb
    rw [exec_control hu k q i z true he, controlRx_taken hk hl hq hs]
    exact congrArg Host.Outcome.next (if_neg (not_or.2 ⟨hc, by rw [hb]; exact Bool.false_ne_true⟩))
  case noForward =>
    intro dt s u q k i z e hu hk he hl hq hs h
    rw [exec_control hu k q i z true he, controlRx_taken hk hl hq hs]
    exact congrArg Host.Outcome.next (if_pos h)
  case ends =>
    intro dt s u q k i z e hu hk he hl hq hs hi hf
    rw [exec_control hu k q i z false he, controlRx_taken hk hl hq hs]
    exact congrArg Host.Outcome.next (if_pos hf)

end Sys2Proof.Machine
end

section
/-! SUPPORT. The moves of the pair: what they leave of `sys`, the rows, what each operation does at the branches of its conditions, and the
statement on them (R503, R504, R509 to R517). -/

namespace Sys2Proof.Machine

/-! ### What the moves leave of `sys` -/

theorem sendControl_sys (position i z : Nat) (add : Bool) (e : Stamp) (s : State) : (sendControl position i z add e s).sys = s.sys := by
  rw [sendControl]
  split
  · exact sendB_sys ..
  · rfl

theorem sendGen_sys (i home : Nat) (gen : BitVec 4) (s : State) : (sendGen i home gen s).sys = s.sys := by
  unfold sendGen
  split
  · rfl
  · exact sendA_sys ..

theorem removeMember_sys (z : Nat) (r : StreamRef) (s : State) : (removeMember z r s).sys = s.sys := by
  rw [removeMember]
  split
  · exact (sendControl_sys ..).trans (State.setZone_sys ..)
  · exact State.setZone_sys ..

theorem leaveZones_sys (i : Nat) (s : State) : (leaveZones i s).sys = s.sys :=
  foldl_sys_to (fun t x h => (removeMember_sys x.1 _ t).trans h) rfl

theorem streamRemove_sys (i : Nat) (s : State) : (streamRemove i s).sys = s.sys := by
  have hz : (leaveZones i (voidChecks i s)).sys = s.sys := leaveZones_sys i (voidChecks i s)
  rw [streamRemove]
  refine (mirrorItem_sys ..).trans ((refreshSessions_sys _).trans ?_)
  change State.sys (match (s.ctx i).forward with
    | some (home, _) => sendGen i home ((s.ctx i).gen + 1) (leaveZones i (voidChecks i s)) | none => leaveZones i (voidChecks i s)) = s.sys
  split
  · exact (sendGen_sys ..).trans hz
  · exact hz

theorem mirrorRemoval_sys (i : Nat) (gen : BitVec 4) (s : State) : (mirrorRemoval i gen s).sys = s.sys := by
  rw [mirrorRemoval]
  split
  · rfl
  · exact streamRemove_sys i (s.setCtx i { s.ctx i with gen := gen - 1 })

theorem mirrorContext_sys (i : Nat) (c : Ctx) (s : State) : (mirrorContext i c s).sys = s.sys := by
  rw [mirrorContext]
  refine (refreshSessions_sys _).trans ?_
  split
  · split
    · rfl
    · exact sendGen_sys ..
  · rfl

theorem mirrorAlarm_sys (n st k seq : Nat) (s : State) : (mirrorAlarm n st k seq s).sys = s.sys := by
  rw [mirrorAlarm]
  split <;> rfl

theorem applyItem_sys (m : MirrorItem) (s : State) : (applyItem m s).sys = s.sys := by
  cases m with
  | context i b =>
    refine Eq.trans (b := (if (ctxOfMirror b (s.ctx i)).state = .free then mirrorRemoval i (ctxOfMirror b (s.ctx i)).gen s
      else mirrorContext i (ctxOfMirror b (s.ctx i)) s).sys) rfl ?_
    split
    · exact mirrorRemoval_sys ..
    · exact mirrorContext_sys ..
  | energy b => rfl
  | revision z seq rev => rfl
  | anchor z t seq => exact State.modZone_sys _ z fun x => { x with anchor := some (t, seq) }
  | alarm n st k seq => exact (updatePins_sys (mirrorAlarm n st k seq s)).trans (mirrorAlarm_sys ..)
  | journal e => rfl
  | fullDone =>
    rw [applyItem]
    split <;> rfl

theorem applyItems_sys (l : List MirrorItem) (s : State) : (l.foldl (fun s m => applyItem m s) s).sys = s.sys :=
  foldl_sys_to (fun t x h => (applyItem_sys x t).trans h) rfl

theorem sendAlarm_sys (n i : Nat) (rep : Bool) (b : List Byte) (s : State) : (sendAlarm n i rep b s).sys = s.sys := by
  unfold sendAlarm
  extract_lets
  split
  · rfl
  · split
    · exact sys_of_unsent (enqueue_unsent ..)
    · split <;> exact sys_of_unsent (enqueue_unsent ..)

theorem almEvent_sys (n type : Nat) (test : Bool) (tick : Stamp) (seq : Nat) (b : List Byte) (s : State) :
    (almEvent n type test tick seq b s).sys = s.sys := by
  rw [almEvent]
  split
  · rfl
  · extract_lets
    split
    · exact foldl_sys_to (fun t x h => (sendAlarm_sys ..).trans h) rfl
    · rfl

theorem repeatEvent_sys (d : AlmDef) (s : State) : (repeatEvent d s).2.sys = s.sys := by
  rw [repeatEvent]
  extract_lets
  split
  · rfl
  · split
    · rfl
    · split <;> rfl

theorem restartRepeats_sys (n : Nat) (s : State) : (restartRepeats n s).sys = s.sys := by
  rw [restartRepeats]
  split
  · rfl
  · exact repeatEvent_sys ..

theorem announceAlarms_sys (s : State) : (announceAlarms s).sys = s.sys := by
  rw [announceAlarms]
  exact foldl_sys_to (fun t n h => (restartRepeats_sys n t).trans h) (foldl_sys_to (fun t x h => (almEvent_sys ..).trans h) rfl)

theorem sendTakeover_sys (s : State) : (sendTakeover s).sys = s.sys := by
  rw [sendTakeover]
  split
  · exact foldl_sys_to (fun t x h => (sendA_sys ..).trans h) rfl
  · rfl

/-! ### The rows -/

/-- No heartbeat has been accepted for 75,000 TCLK. -/
def eclipseDue (s : State) : Bool := match s.pair.eclipseFrom with | some t => decide (t + 300000000 ≤ s.now) | none => false

theorem eclipseDue_of {s : State} (hf : s.pair.eclipseFrom.isSome = true) (ht : s.pair.eclipseFrom.getD 0 + 300000000 ≤ s.now) :
    eclipseDue s = true := by
  obtain ⟨e, he⟩ := Option.isSome_iff_exists.1 hf
  rw [he, Option.getD_some] at ht
  rw [eclipseDue, he]
  exact decide_eq_true ht

section

variable {dt : Ps} {s u : State} (hu : u = s.elapse dt)
include hu

theorem exec_heartbeat (k : Nat) (ok : Bool) (m : HeartbeatMsg) : exec (.heartbeat dt k ok m) s = .next (heartbeatRx k ok m u) := hu ▸ rfl

theorem exec_heartbeatSend (k : Nat) : exec (.heartbeatSend dt k) s =
    .next (if u.peersUp && decide ((u.link k).hbSentAt + 100000000 ≤ u.now) then sendHeartbeat k false u else u) := hu ▸ rfl

theorem exec_heartbeatMissed (k : Nat) : exec (.heartbeatMissed dt k) s = .next (heartbeatMissed k u) := hu ▸ rfl

theorem exec_partnerLoss : exec (.partnerLoss dt) s = .next (if u.peersUp && eclipseDue u then declareLoss u else u) := hu ▸ rfl

theorem exec_listenWindowEnd : exec (.listenWindowEnd dt) s = .next (if u.pair.state = .listen && u.peersUp &&
    decide (u.pair.listenFrom + (if u.primary then 1000000000 else 2000000000) ≤ u.now) then changeMode .active false (setPair .activeAlone u)
    else u) := hu ▸ rfl

theorem exec_partnerLoss_due (hp : u.peersUp = true) (hf : u.pair.eclipseFrom.isSome = true) (ht : u.pair.eclipseFrom.getD 0 + 300000000 ≤ u.now) :
    exec (.partnerLoss dt) s = .next (declareLoss u) := by
  rw [exec_partnerLoss hu, hp, eclipseDue_of hf ht]
  rfl

theorem exec_listenWindowEnd_due (hs : u.pair.state = .listen) (hp : u.peersUp = true)
    (ht : u.pair.listenFrom + (if u.primary then 1000000000 else 2000000000) ≤ u.now) :
    exec (.listenWindowEnd dt) s = .next (changeMode .active false (setPair .activeAlone u)) := by
  rw [exec_listenWindowEnd hu, if_pos (by rw [hs, hp, decide_eq_true ht]; rfl)]

theorem exec_takeoverComplete : exec (.takeoverComplete dt) s = .next (takeoverComplete u) := hu ▸ rfl

theorem exec_holdTimerExpiry : exec (.holdTimerExpiry dt) s = .next (holdExpiry u) := hu ▸ rfl

theorem exec_handoverRequest (q : PeerSeq) : exec (.handoverRequest dt q) s = .next (requestRx q u) := hu ▸ rfl

theorem exec_handoverGrant (q : PeerSeq) (h : Stamp) : exec (.handoverGrant dt q h) s = .next (grantRx q h u) := hu ▸ rfl

theorem exec_handoverRefuse (q : PeerSeq) {n : Nat} (h1 : 1 ≤ n) (h3 : n ≤ 3) : exec (.handoverRefuse dt q n) s = .next (refuseRx q u) := by
  subst hu
  have hn : inRange n 1 3 = true := by
    rw [inRange, Bool.and_eq_true]
    exact ⟨decide_eq_true h1, decide_eq_true h3⟩
  exact congrArg Host.Outcome.next (if_pos hn)

theorem exec_handoverEdge : exec (.handoverEdge dt) s = .next (handoverEdgeAct u) := hu ▸ rfl

theorem exec_handoverBreak : exec (.handoverBreak dt) s = .next (handoverBreak u) := hu ▸ rfl

theorem exec_mirror (q : PeerSeq) (m : MirrorItem) : exec (.mirror dt q m) s = .next (mirrorRx q m u) := hu ▸ rfl

end

/-! ### Heartbeats and the loss of the partner (R503, R509, R511) -/

section

variable {s : State} {k : Nat} {m : HeartbeatMsg}

/-- What a heartbeat of the partner writes before the pair state moves. -/
def heartbeatNoted (m : HeartbeatMsg) (s : State) : State :=
  let s1 := s.setLink 3 { s.link 3 with lastHb := some s.now, missed := 0 }
  { s1 with pair := { s1.pair with
    hbMissed := false, dual := s.pair.dual && m.mode == Mode.active.code, eclipseFrom := some s.now, partnerMode := m.mode, partnerState := m.pairState, partnerMirrored := m.mirrored
    partnerDigest := BitVec.ofNat 32 m.digest
    marks := m.marks.zipIdx.map fun (x, i) => (i, BitVec.ofNat 32 x.1, x.2) } }

theorem heartbeatRx_unsound (hl : (s.link k).state = .joined) (hp : s.peersUp = true) :
    heartbeatRx k false m s = s.setLink k { s.link k with cCrc := inc (s.link k).cCrc } :=
  (if_neg (by simp [hl, hp])).trans (if_pos rfl)

theorem heartbeatRx_federation (hk : k < 3) (hl : (s.link k).state = .joined) (hp : s.peersUp = true) :
    heartbeatRx k true m s = s.setLink k { s.link k with lastHb := some s.now, missed := 0 } :=
  (if_neg (by simp [hl, hp])).trans ((if_neg (by decide)).trans (if_pos (by omega)))

theorem heartbeatRx_partner (hl : (s.link 3).state = .joined) (hp : s.peersUp = true) :
    heartbeatRx 3 true m s = notePartner s (noteHold (pairHeartbeat s.pair m (heartbeatNoted m s))) :=
  (if_neg (by simp [hl, hp])).trans ((if_neg (by decide)).trans (if_neg (not_not_intro rfl)))

theorem heartbeatRx_pair (hl : (s.link 3).state = .joined) (hp : s.peersUp = true) {t : State}
    (ht : pairHeartbeat s.pair m (heartbeatNoted m s) = t) : ∃ f, (heartbeatRx 3 true m s).pair = { t.pair with holdFrom := f } := by
  rw [heartbeatRx_partner hl hp, ht, notePartner_pair]
  exact ⟨_, rfl⟩

theorem endSwitchover_free (h : s.host.executing = none) (status : Nat) (b : List Byte) : endSwitchover status b s = s := by
  rw [endSwitchover, h]

/-- What a STANDBY or a device that takes back writes when it declares the loss of its partner. -/
def lossDeclared (s : State) : State :=
  { s with pair := { s.pair with declared := some (s.pair.declared.getD s.now), handover := none }, energy := { s.energy with mirrorIn := none } }

theorem declareLoss_standby (hs : s.pair.state = .standby ∨ s.pair.state = .takingBack) (he : s.host.executing = none) :
    declareLoss s = lossDeclared s := by
  have h : declareLoss s = endSwitchover stBusy [] (lossDeclared s) := by
    rw [declareLoss]
    split
    · rfl
    · rfl
    · next heq => simp [heq] at hs
    · next heq => simp [heq] at hs
    · next h1 h2 _ _ => exact absurd hs (not_or.2 ⟨h1, h2⟩)
  exact h.trans (endSwitchover_free (s := lossDeclared s) he _ _)

theorem pairHeartbeat_loss {before : PairSt} (hs : s.pair.state = .standby) (hm : m.yield = true ∨ m.mode ≠ Mode.active.code) :
    pairHeartbeat before m s = declareLoss s := by
  rw [pairHeartbeat, hs]
  refine if_pos ?_
  rw [Bool.or_eq_true, Bool.not_eq_true', beq_eq_false_iff_ne]
  exact hm

theorem pairHeartbeat_paired {before : PairSt} (hs : s.pair.state = .activeAlone) (hm : m.mode = Mode.standby.code) (hr : m.mirrored = true)
    (hb : before.partnerMode = Mode.standby.code) : pairHeartbeat before m s = setPair .activePaired s := by
  rw [pairHeartbeat, hs]
  have ha : (m.mode == Mode.active.code) = false := by
    rw [hm]
    rfl
  have hn : (m.mode == Mode.standby.code) = true := beq_iff_eq.2 hm
  dsimp only
  rw [ha, Bool.false_and, Bool.false_and]
  exact (if_neg Bool.false_ne_true).trans ((if_pos hn).trans ((if_pos hr).trans (congrArg _ (if_pos hb))))

theorem heartbeatNoted_state : (heartbeatNoted m s).pair.state = s.pair.state := rfl

theorem heartbeatNoted_executing : (heartbeatNoted m s).host.executing = s.host.executing := rfl

theorem lossDeclared_heartbeat {f : Option Ps} {t : State} (h : t.pair = { (lossDeclared (heartbeatNoted m s)).pair with holdFrom := f }) :
    t.pair.state = s.pair.state ∧ t.pair.declared = some (s.pair.declared.getD s.now) ∧ t.pair.partnerMode = m.mode
      ∧ t.pair.partnerDigest = BitVec.ofNat 32 m.digest := by
  rw [h]
  exact ⟨rfl, rfl, rfl, rfl⟩

/-- A heartbeat of a partner that leaves ACTIVE, at a STANDBY. -/
theorem heartbeatRx_loss (hl : (s.link 3).state = .joined) (hp : s.peersUp = true) (hs : s.pair.state = .standby)
    (hm : m.yield = true ∨ m.mode ≠ Mode.active.code) (he : s.host.executing = none) : (heartbeatRx 3 true m s).pair.state = .standby
      ∧ (heartbeatRx 3 true m s).pair.declared = some (s.pair.declared.getD s.now) ∧ (heartbeatRx 3 true m s).pair.partnerMode = m.mode
      ∧ (heartbeatRx 3 true m s).pair.partnerDigest = BitVec.ofNat 32 m.digest := by
  have hs' : (heartbeatNoted m s).pair.state = .standby := heartbeatNoted_state.trans hs
  obtain ⟨f, hf⟩ := heartbeatRx_pair hl hp ((pairHeartbeat_loss hs' hm).trans (declareLoss_standby (.inl hs') (heartbeatNoted_executing.trans he)))
  obtain ⟨h1, h2⟩ := lossDeclared_heartbeat hf
  exact ⟨h1.trans hs, h2⟩

theorem setPair_heartbeat {p : PairState} {f : Option Ps} {t : State} (h : t.pair = { (setPair p (heartbeatNoted m s)).pair with holdFrom := f }) :
    t.pair.state = p ∧ t.pair.partnerMirrored = m.mirrored := by
  rw [h]
  exact ⟨rfl, rfl⟩

/-- A heartbeat of a STANDBY partner that is mirrored, at an ACTIVE device. -/
theorem heartbeatRx_paired (hl : (s.link 3).state = .joined) (hp : s.peersUp = true) (hs : s.pair.state = .activeAlone)
    (hm : m.mode = Mode.standby.code) (hr : m.mirrored = true) (hb : s.pair.partnerMode = Mode.standby.code) :
    (heartbeatRx 3 true m s).pair.state = .activePaired ∧ (heartbeatRx 3 true m s).pair.partnerMirrored = true := by
  obtain ⟨f, hf⟩ := heartbeatRx_pair hl hp (pairHeartbeat_paired (heartbeatNoted_state.trans hs) hm hr hb)
  obtain ⟨h1, h2⟩ := setPair_heartbeat hf
  exact ⟨h1, h2.trans hr⟩

/-- What a heartbeat that has not come writes to its link. -/
def missedOnce (l : PeerLink) : PeerLink := { l with missed := l.missed + 1, cMissed := inc l.cMissed }

/-- The link and the pair behind a heartbeat that has not come. -/
def heartbeatLost (k : Nat) (s : State) : State :=
  let s1 := s.setLink k (missedOnce (s.link k))
  if k = 3 then { s1 with pair := { s1.pair with hbMissed := true, holdFrom := none } } else s1

theorem heartbeatMissed_due {h : Ps} (hl : (s.link k).state = .joined) (hh : (s.link k).lastHb = some h)
    (hd : h + ((s.link k).missed + 1) * 100000000 ≤ s.now) : heartbeatMissed k s =
      notePartner s (if 3 ≤ (s.link k).missed + 1 then loseLink k (heartbeatLost k s) else heartbeatLost k s) := by
  refine if_neg ?_
  rw [hh]
  refine not_or.2 ⟨not_not_intro hl, ?_⟩
  dsimp only
  rw [decide_eq_true hd]
  exact Bool.false_ne_true

theorem heartbeatLost_link (hk : k < 4) : (heartbeatLost k s).link k = missedOnce (s.link k) := by
  rw [heartbeatLost]
  dsimp only
  split
  · exact link_setLink hk
  · exact link_setLink hk

theorem heartbeatLost_partner (s : State) :
    (heartbeatLost 3 s).pair.hbMissed = true ∧ (heartbeatLost 3 s).pair.holdFrom = none := ⟨rfl, rfl⟩

theorem heartbeatMissed_stays (hk : k < 4) {h : Ps} (hl : (s.link k).state = .joined) (hh : (s.link k).lastHb = some h)
    (hd : h + ((s.link k).missed + 1) * 100000000 ≤ s.now) (hm : (s.link k).missed < 2) :
    (heartbeatMissed k s).pair = (heartbeatLost k s).pair ∧ (heartbeatMissed k s).link k = missedOnce (s.link k) := by
  have hp : (heartbeatMissed k s).pair = (heartbeatLost k s).pair := by
    rw [heartbeatMissed_due hl hh hd, if_neg (by omega), notePartner_pair]
  exact ⟨hp, (link_of_pair hp k).trans (heartbeatLost_link hk)⟩

theorem heartbeatMissed_down (hk : k < 4) {h : Ps} (hl : (s.link k).state = .joined) (hh : (s.link k).lastHb = some h)
    (hd : h + ((s.link k).missed + 1) * 100000000 ≤ s.now) (hm : 2 ≤ (s.link k).missed) : ((heartbeatMissed k s).link k).state = .down := by
  rw [heartbeatMissed_due hl hh hd, if_pos (by omega), link_of_pair (notePartner_pair ..), loseLink_link hk]
  rfl

/-! ### Takeover (R503, R513, R514) -/

theorem takeoverComplete_mode {d : Ps} (hd : s.pair.declared = some d) (hs : s.pair.state = .standby ∨ s.pair.state = .takingBack)
    (hp : s.peersUp = true) : (takeoverComplete s).sys.mode = .active := by
  rw [takeoverComplete, hd]
  dsimp only
  rw [if_neg (by obtain hs | hs := hs <;> simp [hs, hp]), announceAlarms_sys]
  exact changeMode_mode ..

theorem takeoverComplete_idle (h : s.pair.declared = none ∨ (s.pair.state ≠ .standby ∧ s.pair.state ≠ .takingBack) ∨ s.peersUp = false) :
    takeoverComplete s = s := by
  rw [takeoverComplete]
  split
  · rfl
  next d hd =>
    refine if_pos ?_
    obtain h | ⟨h1, h2⟩ | h := h
    · rw [h] at hd
      exact nomatch hd
    · simp [h1, h2]
    · simp [h]

theorem takeoverRx_partner {x : PeerIn} (hx : x.ok = true) (hk : x.link = 3) (hl : (s.link 3).state = .joined) (ha : s.active = true)
    (hs : s.pair.state ≠ .unpaired) : (takeoverRx x s).sys.mode = .standby := by
  rw [takeoverRx, hk]
  dsimp only
  rw [if_neg (by simp [hx]), if_neg (not_not_intro hl), if_neg (by decide), if_pos (by simp [ha, hs])]
  exact changeMode_mode ..

theorem takeoverRx_federation {x : PeerIn} (hx : x.ok = true) (hk : x.link < 3) (hl : (s.link x.link).state = .joined)
    (hs : s.pair.state = .standby ∨ s.pair.state = .takingBack ∨ s.pair.state = .handingOver) : takeoverRx x s = declareLoss s := by
  rw [takeoverRx]
  dsimp only
  rw [if_neg (by simp [hx]), if_neg (not_not_intro hl), if_pos hk]
  obtain hs | hs | hs := hs <;> rw [hs]

/-! ### Handover (R515 to R517) -/

theorem holdExpiry_asks {t0 : Ps} (hf : s.pair.holdFrom = some t0) (hh : holdOk s = true) (hr : s.pair.requested = false)
    (ht : t0 + s.pair.holdTime * 1000000000000 ≤ s.now) :
    holdExpiry s = sendB 3 0x09 [1] { s with pair := { s.pair with requested := true } } := by
  rw [holdExpiry, hf]
  exact if_pos (by simp [hh, hr, ht])

/-- A REQUEST is refused with a reason. -/
def refused (reason : Nat) (s : State) : State :=
  sendB 3 0x09 (be 1 3 ++ be 1 reason) { s with pair := { s.pair with cRefused := inc s.pair.cRefused } }

variable {v : State} {q : PeerSeq}

theorem requestRx_taken (ht : takeB 3 q false s = (true, v)) : requestRx q s = match v.pair.state with
    | .activePaired => if v.partnerHandsOver then refused 1 v else if v.mismatch then refused 2 v else grant v
    | .handingOver | .takingBack => refused 1 v
    | _ => refused 3 v := by
  rw [requestRx, ht]
  exact if_neg Bool.false_ne_true

theorem partnerHandsOver_iff : v.partnerHandsOver = true ↔ v.pair.partnerState = PairState.handingOver.code := beq_iff_eq

theorem requestRx_paired (ht : takeB 3 q false s = (true, v)) (hs : v.pair.state = .activePaired)
    (hp : v.pair.partnerState ≠ PairState.handingOver.code) : requestRx q s = if v.mismatch then refused 2 v else grant v := by
  rw [requestRx_taken ht, hs]
  exact if_neg (mt partnerHandsOver_iff.1 hp)

theorem requestRx_busy (ht : takeB 3 q false s = (true, v)) (hs : v.pair.state = .handingOver ∨ v.pair.state = .takingBack ∨
    (v.pair.state = .activePaired ∧ v.pair.partnerState = PairState.handingOver.code)) : requestRx q s = refused 1 v := by
  rw [requestRx_taken ht]
  obtain hs | hs | ⟨hs, hp⟩ := hs
  · rw [hs]
  · rw [hs]
  · rw [hs]
    exact if_pos (partnerHandsOver_iff.2 hp)

theorem requestRx_otherwise (ht : takeB 3 q false s = (true, v))
    (hs : v.pair.state = .unpaired ∨ v.pair.state = .listen ∨ v.pair.state = .activeAlone ∨ v.pair.state = .standby) :
    requestRx q s = refused 3 v := by
  rw [requestRx_taken ht]
  obtain hs | hs | hs | hs := hs <;> rw [hs]

theorem cdiv_on_grid (n : Nat) : n ≤ cdiv n 20000 * 20000 ∧ cdiv n 20000 * 20000 < n + 20000 := by
  rw [cdiv]
  omega

theorem handoverEdge_on_grid (s : State) : s.now + 10000000000 ≤ (handoverEdge s).2 ∧ (handoverEdge s).2 < s.now + 10000020000 ∧
    (handoverEdge s).2 % 20000 = 0 :=
  have ⟨hle, hlt⟩ := cdiv_on_grid (s.now + 10000000000)
  ⟨hle, hlt.trans_eq (Nat.add_assoc _ _ _), Nat.mul_mod_left _ _⟩

theorem sendB_pair (k type : Nat) (b : List Byte) (s : State) : ∃ l, (sendB k type b s).pair = { s.pair with links := l } := by
  unfold sendB
  dsimp only
  split <;> exact ⟨_, rfl⟩

theorem grant_pair (s : State) : (grant s).pair.state = .handingOver ∧ (grant s).pair.handover = some (handoverEdge s) := by
  obtain ⟨l, hl⟩ := sendB_pair 3 0x09 (be 1 2 ++ stampBytes (handoverEdge s).1)
    { s with pair := { s.pair with state := .handingOver, handover := some (handoverEdge s) } }
  exact ⟨congrArg PairSt.state hl, congrArg PairSt.handover hl⟩

theorem grantRx_takes {h : Stamp} (ht : takeB 3 q false s = (true, v)) (hs : v.pair.state = .standby) (hd : v.pair.declared = none)
    (he : v.host.executing = none) : grantRx q h s = { v with pair := { v.pair with
      state := .takingBack, handover := some (h, s.now + unitsToPs (stampDiff h s.stamp).toNat) } } := by
  rw [grantRx, ht]
  dsimp only
  rw [if_neg (by simp [hs, hd])]
  exact endSwitchover_free (s := { v with pair := { v.pair with
      state := .takingBack, handover := some (h, s.now + unitsToPs (stampDiff h s.stamp).toNat) } }) he _ _

theorem refuseRx_restarts (ht : takeB 3 q false s = (true, v)) (he : v.host.executing = none) :
    refuseRx q s = noteHold { v with pair := { v.pair with requested := false, holdFrom := none } } := by
  rw [refuseRx, ht]
  exact (if_neg Bool.false_ne_true).trans (endSwitchover_free
    (s := noteHold { v with pair := { v.pair with requested := false, holdFrom := none } }) he _ _)

theorem handoverEdgeAct_mode {h : Stamp} {p : Ps} (hs : s.pair.state = .takingBack) (hh : s.pair.handover = some (h, p))
    (hg : stampGe s.stamp h = true) (hp : s.peersUp = true) : (handoverEdgeAct s).sys.mode = .active := by
  rw [handoverEdgeAct, hs, hh]
  dsimp only
  rw [if_pos (by simp [hg, hp])]
  exact changeMode_mode ..

theorem handoverBreak_mode {h : Stamp} {p : Ps} (hs : s.pair.state = .handingOver) (hh : s.pair.handover = some (h, p)) (hp : p ≤ s.now)
    (hd : txDrained s = true ∨ p + 3100000000000 ≤ s.now) : (handoverBreak s).sys.mode = .standby := by
  rw [handoverBreak, hs, hh]
  dsimp only
  rw [if_pos (by obtain hd | hd := hd <;> simp [hp, hd]), applyItems_sys]
  exact changeMode_mode ..

theorem handoverBreak_early {h : Stamp} {p : Ps} (hh : s.pair.handover = some (h, p))
    (hd : s.now < p ∨ (txDrained s = false ∧ s.now < p + 3100000000000)) : handoverBreak s = s := by
  rw [handoverBreak, hh]
  split
  next heq =>
    obtain rfl := (Prod.mk.inj (Option.some.inj heq)).2
    refine if_neg ?_
    obtain hd | ⟨ht, hd⟩ := hd
    · simp [hd]
    · simp [ht, hd]
  · rfl

/-! ### The mirror (R504) -/

theorem mirrorRx_applies {m : MirrorItem} (ht : takeB 3 q false s = (true, v)) (hs : v.pair.state ≠ .handingOver) (hm : v.sys.mode = .standby)
    (hd : v.pair.declared = none) : mirrorRx q m s = applyItem m v := by
  rw [mirrorRx, ht]
  exact (if_neg Bool.false_ne_true).trans ((if_neg hs).trans (if_neg (by simp [hm, hd])))

theorem mirrorRx_holds {m : MirrorItem} (ht : takeB 3 q false s = (true, v)) (hs : v.pair.state = .handingOver) :
    mirrorRx q m s = { v with pair := { v.pair with heldItems := v.pair.heldItems ++ [m] } } := by
  rw [mirrorRx, ht]
  exact (if_neg Bool.false_ne_true).trans (if_pos hs)

theorem mirrorRx_drops {m : MirrorItem} (ht : takeB 3 q false s = (true, v)) (hs : v.pair.state ≠ .handingOver)
    (hm : v.sys.mode ≠ .standby ∨ v.pair.declared.isSome = true) : mirrorRx q m s = v := by
  rw [mirrorRx, ht]
  exact (if_neg Bool.false_ne_true).trans ((if_neg hs).trans (if_pos hm))

theorem takeB_sound (hq : q.ok = true) : takeB k q false s = (if (s.link k).state ≠ .joined then (false, s)
      else if q.lseq = (s.link k).rxSeq then (true, s.setLink k { s.link k with rxSeq := ((s.link k).rxSeq + 1) % 4294967296, ackDue := true })
      else if seqBefore q.lseq (s.link k).rxSeq then (false, s.setLink k { s.link k with ackDue := true }) else (false, s)) := by
  rw [takeB, hq]
  by_cases hl : (s.link k).state = .joined
  · simp [hl]
  · simp [hl]

theorem takeB_unsound (hq : q.ok = false) (hl : (s.link k).state ≠ .down) :
    takeB k q false s = (false, s.setLink k { s.link k with cCrc := inc (s.link k).cCrc }) := by
  rw [takeB, hq]
  exact (if_pos rfl).trans (congrArg (Prod.mk false) (dropPeer_up hl))

theorem refused_by_order {h : Stamp} {m : MirrorItem} (ht : takeB 3 q false s = (false, v)) :
    mirrorRx q m s = v ∧ requestRx q s = v ∧ grantRx q h s = v ∧ refuseRx q s = v := by
  rw [mirrorRx, requestRx, grantRx, refuseRx, ht]
  exact ⟨if_pos rfl, if_pos rfl, if_pos (.inl rfl), if_pos rfl⟩

end

/-! ### The statement -/

/-- Settles O34: each row behind its passage of time, by the branch that its clause's conditions choose; `applyItems_sys` and
`announceAlarms_sys` carry the mode past the mirror items and the alarm frames. -/
theorem pairEventsTakeEffect : Obligations.PairEventsTakeEffect := by
  refine ⟨fun dt s u k m hu hk hl hp => ?_, fun dt s u k m hu hl hp => ?_, fun dt s u m hu hl hp hs hm he => ?_,
    fun dt s u m hu hl hp hs hm hr hb => ?_, fun dt s u k hu hp ht => ?_, fun dt s u k hu hi => ?_,
    fun dt s u k h hu hk hl hh hd hm => ?_, fun dt s u k h hu hk hl hh hd hm => ?_, fun dt s u hu hp hf ht => ?_, fun s hs he => ?_,
    fun dt s u hu hs hp ht => ?_, fun dt s u d hu hd hs hp => ?_, fun dt s u hu hi => ?_, fun dt s u x pos hu hpos hx hk hl ha hs => ?_,
    fun dt s u x pos hu hpos hx hk hl hs => ?_, fun dt s u t0 hu hf hh hr ht => ?_, fun dt s u v q hu ht hs hp hm => ?_,
    fun dt s u v q hu ht hs hp hm => ?_, fun dt s u v q hu ht hs => ?_, fun dt s u v q hu ht hs => ?_, fun s => ?_,
    fun dt s u v q h hu ht hs hd he => ?_, fun dt s u v q n hu ht h1 h3 he => ?_, fun dt s u h p hu hs hh hg hp => ?_,
    fun dt s u h p hu hs hh hp hd => ?_, fun dt s u h p hu hh hd => ?_, fun dt s u v q m hu ht hs hm hd => ?_,
    fun dt s u v q m hu ht hs => ?_, fun dt s u v q m hu ht hs hm => ?_, fun dt s u v q m h k hu ht h1 h3 => ?_, fun s k q hq => ?_,
    fun s k q hq hl => ?_⟩
  · exact (exec_heartbeat hu k true m).trans (congrArg _ (heartbeatRx_federation hk hl hp))
  · exact (exec_heartbeat hu k false m).trans (congrArg _ (heartbeatRx_unsound hl hp))
  · exact ⟨_, exec_heartbeat hu 3 true m, heartbeatRx_loss hl hp hs hm he⟩
  · exact ⟨_, exec_heartbeat hu 3 true m, heartbeatRx_paired hl hp hs hm hr hb⟩
  · rw [exec_heartbeatSend hu, if_pos (by simp [hp, ht])]
  · rw [exec_heartbeatSend hu, if_neg]
    obtain hi | hi := hi
    · simp [hi]
    · simp [Nat.not_le.2 hi]
  · obtain ⟨hp, ht⟩ := heartbeatMissed_stays hk hl hh hd hm
    refine ⟨_, exec_heartbeatMissed hu k, (congrArg PeerLink.state ht).trans hl, congrArg PeerLink.missed ht, congrArg PeerLink.cMissed ht, ?_⟩
    rintro rfl
    obtain ⟨hb, hf⟩ := heartbeatLost_partner _
    refine ⟨?_, (congrArg PairSt.holdFrom hp).trans hf⟩
    rw [State.partnerOk, hp, hb]
    exact Bool.and_false _
  · exact ⟨_, exec_heartbeatMissed hu k, heartbeatMissed_down hk hl hh hd hm⟩
  · exact exec_partnerLoss_due hu hp hf ht
  · rw [declareLoss_standby hs he]
    exact ⟨rfl, rfl, rfl, rfl⟩
  · exact ⟨_, exec_listenWindowEnd_due hu hs hp ht, changeMode_mode ..⟩
  · exact ⟨_, exec_takeoverComplete hu, takeoverComplete_mode hd hs hp⟩
  · exact (exec_takeoverComplete hu).trans (congrArg _ (takeoverComplete_idle hi))
  · exact ⟨_, exec_takeover hu x hpos, takeoverRx_partner hx hk hl ha hs⟩
  · exact (exec_takeover hu x hpos).trans (congrArg _ (takeoverRx_federation hx hk hl hs))
  · exact (exec_holdTimerExpiry hu).trans (congrArg _ (holdExpiry_asks hf hh hr ht))
  · exact (exec_handoverRequest hu q).trans (congrArg _ ((requestRx_paired ht hs hp).trans (if_neg (Bool.eq_false_iff.1 hm))))
  · exact (exec_handoverRequest hu q).trans (congrArg _ ((requestRx_paired ht hs hp).trans (if_pos hm)))
  · exact (exec_handoverRequest hu q).trans (congrArg _ (requestRx_busy ht hs))
  · exact (exec_handoverRequest hu q).trans (congrArg _ (requestRx_otherwise ht hs))
  · obtain ⟨hs, hh⟩ := grant_pair s
    exact ⟨hs, hh, handoverEdge_on_grid s⟩
  · exact (exec_handoverGrant hu q h).trans (congrArg _ (grantRx_takes ht hs hd he))
  · exact (exec_handoverRefuse hu q h1 h3).trans (congrArg _ (refuseRx_restarts ht he))
  · exact ⟨_, exec_handoverEdge hu, handoverEdgeAct_mode hs hh hg hp⟩
  · exact ⟨_, exec_handoverBreak hu, handoverBreak_mode hs hh hp hd⟩
  · exact (exec_handoverBreak hu).trans (congrArg _ (handoverBreak_early hh hd))
  · exact (exec_mirror hu q m).trans (congrArg _ (mirrorRx_applies ht hs hm hd))
  · exact (exec_mirror hu q m).trans (congrArg _ (mirrorRx_holds ht hs))
  · exact (exec_mirror hu q m).trans (congrArg _ (mirrorRx_drops ht hs hm))
  · obtain ⟨hm, hr, hg, hf⟩ := refused_by_order (h := h) (m := m) ht
    exact ⟨(exec_mirror hu q m).trans (congrArg _ hm), (exec_handoverRequest hu q).trans (congrArg _ hr),
      (exec_handoverGrant hu q h).trans (congrArg _ hg), (exec_handoverRefuse hu q h1 h3).trans (congrArg _ hf)⟩
  · exact takeB_sound hq
  · exact takeB_unsound hq hl

end Sys2Proof.Machine
end

section
/-! SUPPORT. The engines under lockstep, a command that resets the device, what DIAG_GET_MONITORS draws, and the statement on the integrity
commands (R533, R534, R545 to R549). -/

namespace Sys2Proof.Machine

/-! ### Engines (R533, R534) -/

/-- While one engine is not OFFLINE, not all are. -/
theorem engines_not_all_offline {s : State} {f : Nat} (hf : f < 12) (h : (s.engine f).state ≠ .offline) :
    (s.kernel.engines.all fun x => x.state = .offline) = false := by
  refine Bool.eq_false_iff.2 fun ha => h ?_
  have := Vector.all_eq_true.1 ha f hf
  rw [State.engine, vget, dif_pos hf]
  exact of_decide_eq_true this

theorem engines_all_offline {s : State} (h : ∀ e, e < 12 → (s.engine e).state = .offline) :
    (s.kernel.engines.all fun x => x.state = .offline) = true := by
  refine Vector.all_eq_true.2 fun e he => ?_
  have := h e he
  rw [State.engine, vget, dif_pos he] at this
  exact decide_eq_true this

/-- An engine goes OFFLINE and another is not: no lockout. -/
theorem engineOffline_other {s : State} {e f : Nat} (hf : f < 12) (hfe : f ≠ e) (h : (s.engine f).state ≠ .offline) :
    engineOffline e s = s.setEngine e { s.engine e with state := .offline } := by
  refine if_neg (Bool.eq_false_iff.1 (engines_not_all_offline (f := f) hf ?_))
  rw [State.setEngine_engine_ne _ _ _ _ (Ne.symm hfe)]
  exact h

theorem abortItem_unsent (e : Nat) (s : State) : (abortItem e s).unsent = s.unsent := by
  unfold abortItem
  split
  · dsimp only
    split
    · rfl
    · split <;> rfl
  · rfl

theorem abortItem_engine_ne {e f : Nat} (h : f ≠ e) (s : State) : (abortItem e s).engine f = s.engine f := by
  have hi : (engineIdle e .waiting s).engine f = s.engine f := State.setEngine_engine_ne s e _ f (Ne.symm h)
  unfold abortItem
  split
  · dsimp only
    split
    · exact hi
    · split
      · exact hi
      · exact hi
  · rfl

/-- An engine at work or waiting aborts: its item is kept for its retry and its self-test begins. -/
def abortBegun (e : Nat) (s : State) : State :=
  let s1 := abortItem e s
  let s2 := s1.setEngine e { s1.engine e with
    state := .selftest, aborts := s.now :: (s.engine e).aborts.filter fun t => decide (s.now < t + 3600000000000000), selftestEnd := s.now + 200000000 }
  { s2 with integ := { s2.integ with cAborts := inc s2.integ.cAborts } }

theorem abortBegun_unsent (e : Nat) (s : State) : (abortBegun e s).unsent = s.unsent := abortItem_unsent e s

theorem abortBegun_engine_ne {e f : Nat} (h : f ≠ e) (s : State) : (abortBegun e s).engine f = s.engine f :=
  (State.setEngine_engine_ne (abortItem e s) e _ f (Ne.symm h)).trans (abortItem_engine_ne h s)

theorem engineAbort_begins {e : Nat} {s : State} (ho : (s.engine e).state ≠ .offline) (ht : (s.engine e).state ≠ .selftest) :
    engineAbort e s = if 3 ≤ (s.now :: (s.engine e).aborts.filter fun t => decide (s.now < t + 3600000000000000)).length then
      engineOffline e (abortBegun e s) else abortBegun e s :=
  if_neg (not_or.2 ⟨ho, ht⟩)

theorem engineAbort_unsent {s : State} {e f : Nat} (hf : f < 12) (hfe : f ≠ e) (h : (s.engine f).state ≠ .offline) :
    (engineAbort e s).unsent = s.unsent := by
  by_cases hs : (s.engine e).state = .offline ∨ (s.engine e).state = .selftest
  · rw [engineAbort]
    exact congrArg State.unsent (if_pos hs)
  · obtain ⟨ho, ht⟩ := not_or.1 hs
    rw [engineAbort_begins ho ht]
    split
    · rw [engineOffline_other hf hfe (by rwa [abortBegun_engine_ne hfe])]
      exact abortBegun_unsent e s
    · exact abortBegun_unsent e s

/-- What a lockstep mismatch leaves for the abort: its entry in the log. -/
def mismatchLogged (e : Nat) (s : State) : State :=
  awaitRetry (fun x => x.cls = 4 && x.unit = e && x.time = s.stamp) e (addLog 4 e 1 0 0 s)

theorem awaitRetry_integ (p : LogEntry → Bool) (e : Nat) (s : State) :
    ∃ l, awaitRetry p e s = { s with integ := { s.integ with log := l } } := by
  rw [awaitRetry]
  split <;> exact ⟨_, rfl⟩

theorem addLog_integ (cls unit outcome syndrome address : Nat) (s : State) :
    ∃ l, addLog cls unit outcome syndrome address s = { s with integ := { s.integ with log := l } } := ⟨_, rfl⟩

theorem addLog_unsent (cls unit outcome syndrome address : Nat) (s : State) : (addLog cls unit outcome syndrome address s).unsent = s.unsent := by
  obtain ⟨l, hl⟩ := addLog_integ cls unit outcome syndrome address s
  rw [hl]
  rfl

theorem mismatchLogged_integ (e : Nat) (s : State) : ∃ l, mismatchLogged e s = { s with integ := { s.integ with log := l } } := by
  obtain ⟨k, hk⟩ := addLog_integ 4 e 1 0 0 s
  rw [mismatchLogged, hk]
  exact awaitRetry_integ _ e { s with integ := { s.integ with log := k } }

theorem lockstepMismatch_eq (e : Nat) (s : State) : lockstepMismatch e s = engineAbort e (mismatchLogged e s) := rfl

theorem lockstepMismatch_unsent {s : State} {e f : Nat} (hf : f < 12) (hfe : f ≠ e) (h : (s.engine f).state ≠ .offline) :
    (lockstepMismatch e s).unsent = s.unsent := by
  obtain ⟨l, hl⟩ := mismatchLogged_integ e s
  have hu : (mismatchLogged e s).unsent = s.unsent := by rw [hl]; rfl
  have hn : (mismatchLogged e s).engine f = s.engine f := by rw [hl]; rfl
  have h' : ((mismatchLogged e s).engine f).state ≠ .offline := hn.symm ▸ h
  exact (congrArg State.unsent (lockstepMismatch_eq e s)).trans ((engineAbort_unsent (s := mismatchLogged e s) hf hfe h').trans hu)

/-! ### A lockout that a command causes (R545, R548) -/

/-- The FAULT reset of a lockout, with the record of its fault. -/
def faultReset (cls unit : Nat) (detail : Word32) (s : State) : State :=
  resetEdge .fault { s with integ := { s.integ with lastFault := { time := s.stamp, cls, unit, detail } } }

/-- The free time for which a stopped clock is watched (R540, R547). -/
def watchClock (from_ : Ps) (s : State) : State :=
  let r := s.draw
  { r.2 with integ := { r.2.integ with monitorUntil := from_ + r.1 } }

theorem lockout_other {cls : Nat} (h8 : cls ≠ 8) (h9 : cls ≠ 9) (unit : Nat) (detail : Word32) (s : State) :
    lockout cls unit detail s = faultReset cls unit detail s := if_neg (not_or.2 ⟨h8, h9⟩)

theorem lockout_clock {cls : Nat} (h : cls = 8 ∨ cls = 9) (unit : Nat) (detail : Word32) (s : State) :
    lockout cls unit detail s = watchClock s.now (faultReset cls unit detail s) := by
  rw [lockout, watchClock, faultReset]
  exact if_pos h

theorem faultReset_phase (cls unit : Nat) (detail : Word32) (s : State) : (faultReset cls unit detail s).sys.phase = .held .fault :=
  (resetEdge_held .fault _).1

theorem watchClock_sys (t : Ps) (s : State) : (watchClock t s).sys = s.sys := rfl

theorem lockout_phase (cls unit : Nat) (detail : Word32) (s : State) : (lockout cls unit detail s).sys.phase = .held .fault := by
  by_cases h : cls = 8 ∨ cls = 9
  · rw [lockout_clock h, watchClock_sys, faultReset_phase]
  · obtain ⟨h8, h9⟩ := not_or.1 h
    rw [lockout_other h8 h9, faultReset_phase]

/-- A command whose body takes the device out of running gives no reply, and the state is what its body leaves. -/
theorem command_resets {dt : Ps} {q : Packet} {s u : State} (hu : u = arrived q (s.elapse dt)) {d : Cmd} {data : List Byte} {v : State}
    (hr : ready (s.elapse dt) q d.opcode = true) (hm : d.modes u.sys.mode = true) (hl : d.lenOk q.params = true)
    (hc : firstBad (d.checks u q.params) = none) (hrun : d.run u q.ifc q.params = .ok data v) (hp : v.sys.phase ≠ .running) :
    command d dt q s = .next v := by
  subst hu
  rw [(arrived_parts q _).1] at hm
  have ho := (cmdOutcome_arrived hr hm hl hc).trans hrun
  refine congrArg Host.Outcome.next ?_
  rw [runCommand_ready hr, executeCommand, packetCmd]
  dsimp only
  rw [ho]
  exact if_pos (bne_iff_ne.2 hp)

/-! ### The measurements (R540, R543, R548) -/

theorem drawFields_length (k n : Nat) (s : State) : (drawFields k n s).1.length = n * k := by
  induction n generalizing s with
  | zero => exact (Nat.zero_mul k).symm
  | succ n ih =>
    rw [drawFields]
    dsimp only
    rw [List.length_append, be_length, ih, Nat.succ_mul, Nat.add_comm]

theorem drawFields_state (k n : Nat) (s : State) : (drawFields k n s).2 = { s with drawn := s.drawn + n } := by
  induction n generalizing s with
  | zero => rfl
  | succ n ih =>
    rw [drawFields]
    dsimp only
    rw [ih]
    exact congrArg (fun d => ({ s with drawn := d } : State)) (Nat.add_right_comm s.drawn 1 n)

/-- What DIAG_GET_MONITORS measures before the levels of the pins: the rails, the frequency errors, and the state behind them. -/
def measured (s : State) : List Byte × List Byte × State :=
  let rails := drawFields 2 7 s
  let ppm := drawFields 4 11 rails.2
  let vclk := vclkError ppm.2
  let last := drawFields 4 2 vclk.2
  (rails.1, ppm.1 ++ vclk.1 ++ last.1, last.2)

theorem measured_length (s : State) : (measured s).1.length = 14 ∧ (measured s).2.1.length = 56 := by
  refine ⟨drawFields_length 2 7 s, ?_⟩
  rw [measured]
  dsimp only
  rw [List.length_append, List.length_append, drawFields_length, drawFields_length, vclkError]
  dsimp only
  rw [be_length]

theorem measured_state (s : State) : (measured s).2.2 = { s with drawn := s.drawn + 22 } := by
  rw [measured]
  dsimp only
  rw [drawFields_state, vclkError]
  dsimp only
  rw [drawFields_state, drawFields_state]
  rfl

theorem diagGetMonitors_run (s : State) (i : Nat) (p : List Byte) : cmdDiagGetMonitors.run s i p =
    .ok ((measured s).1 ++ (measured s).2.1 ++ s.integ.sensors.flatMap (fun x => be 2 (x % 65536).toNat)
      ++ be 2 ((s.detect.pins &&& BitVec.ofNat 16 (Config.freeNat (s.drawn + 22))) ||| (s.integ.almHigh &&& ~~~s.detect.pins)).toNat)
      { s with drawn := s.drawn + 23 } := by
  have h : cmdDiagGetMonitors.run s i p = .ok ((measured s).1 ++ (drawFields 4 11 (drawFields 2 7 s).2).1 ++ (vclkError (drawFields 4 11 (drawFields 2 7 s).2).2).1
      ++ (drawFields 4 2 (vclkError (drawFields 4 11 (drawFields 2 7 s).2).2).2).1 ++ s.integ.sensors.flatMap (fun x => be 2 (x % 65536).toNat)
      ++ be 2 ((s.detect.pins &&& BitVec.ofNat 16 (measured s).2.2.draw.1) ||| (s.integ.almHigh &&& ~~~s.detect.pins)).toNat) (measured s).2.2.draw.2 := rfl
  rw [h, measured_state]
  exact congrArg (fun b => CmdOut.ok (b ++ s.integ.sensors.flatMap (fun x => be 2 (x % 65536).toNat)
      ++ be 2 ((s.detect.pins &&& BitVec.ofNat 16 (Config.freeNat (s.drawn + 22))) ||| (s.integ.almHigh &&& ~~~s.detect.pins)).toNat)
      { s with drawn := s.drawn + 23 }) (by rw [measured]; dsimp only; rw [List.append_assoc, List.append_assoc, List.append_assoc])

/-! ### Checks (R547, R548) -/

theorem integCounters_clearInteg (u : State) (c : Cnt) (hc : c ∈ integCounters (clearInteg u)) : c = 0 := by
  obtain hc | hc := List.mem_append.1 hc
  · obtain ⟨k, -, hk⟩ := List.mem_flatMap.1 hc
    obtain rfl | hk := List.mem_cons.1 hk
    · exact vget_replicate_default 15 0 k
    · rw [List.mem_singleton.1 hk]
      exact vget_replicate_default 15 0 k
  · simpa [clearInteg] using hc

theorem safeBlocked_iff (s : State) : safeBlocked s = true ↔
    s.integ.clockFaults ≠ [] ∨ s.now < s.integ.monitorUntil ∨ 1600 ≤ s.integ.tj ∨ (s.kernel.engines.all fun x => x.state = .offline) = true := by
  rw [safeBlocked, Bool.or_eq_true, Bool.or_eq_true, Bool.or_eq_true, decide_eq_true_eq, decide_eq_true_eq, Bool.not_eq_true',
    List.isEmpty_eq_false_iff, or_assoc, or_assoc]

theorem commissionService_iff (m : Mode) : commissionService m = true ↔ m = .commission ∨ m = .service := by
  rw [commissionService, Bool.or_eq_true, beq_iff_eq, beq_iff_eq]

/-- The checks of INTEG_INJECT on a memory error, as a list. -/
theorem integInject_checks_memory {s : State} {p : List Byte} (hk : fld p 2 1 ≤ 2) : cmdIntegInject.checks s p =
    [(if fld p 2 1 = 2 then fld p 0 1 == 13 else decide (fld p 0 1 ≤ 14), 0), (decide (fld p 1 1 < injectIndexes (fld p 0 1)), 1), (true, 2),
      (decide (fld p 3 8 < injectReach s (fld p 0 1)), 3), (inRange (fld p 11 1) 0 38, 11)] := by
  have h3 : decide (3 ≤ fld p 2 1) = false := decide_eq_false (by omega)
  have h3' : decide (3 < fld p 2 1) = false := decide_eq_false (by omega)
  have hr : inRange (fld p 2 1) 0 5 = true := inRange_iff.2 ⟨Nat.zero_le _, by omega⟩
  have hne : fld p 2 1 ≠ 3 := by omega
  change [(decide (3 ≤ fld p 2 1) || (if fld p 2 1 = 2 then fld p 0 1 == 13 else decide (fld p 0 1 ≤ 14)), 0),
    (if fld p 2 1 = 3 then decide (fld p 1 1 < 12) else decide (3 < fld p 2 1) || decide (fld p 1 1 < injectIndexes (fld p 0 1)), 1),
    (inRange (fld p 2 1) 0 5, 2), (decide (3 ≤ fld p 2 1) || decide (fld p 3 8 < injectReach s (fld p 0 1)), 3), (inRange (fld p 11 1) 0 38, 11)] = _
  rw [h3, h3', hr, if_neg hne, Bool.false_or, Bool.false_or, Bool.false_or]

theorem inject_memory {kind : Nat} (hk : kind ≤ 2) (cls index addr bit : Nat) (s : State) : inject cls index kind addr bit s =
    { s with integ := { s.integ with injected := { cls, index := (injectPlace cls index addr).1, addr := (injectPlace cls index addr).2
                                                   flips := injectFlips kind bit } :: s.integ.injected } } := by
  rw [inject] <;> omega

/-- The checks of INTEG_INJECT on a fault that acts at once. -/
theorem integInject_checks_fault {s : State} {p : List Byte} (hk : 3 ≤ fld p 2 1) (h5 : fld p 2 1 ≤ 5) (hi : fld p 2 1 = 3 → fld p 1 1 < 12)
    (hb : fld p 11 1 ≤ 38) : firstBad (cmdIntegInject.checks s p) = none := by
  refine firstBad_eq_none_iff.2 fun x hx => ?_
  have h3 : decide (3 ≤ fld p 2 1) = true := decide_eq_true hk
  obtain rfl | hx := List.mem_cons.1 hx
  · exact Bool.or_eq_true_iff.2 (.inl h3)
  obtain rfl | hx := List.mem_cons.1 hx
  · dsimp only
    split
    next h => exact decide_eq_true (hi h)
    next h => exact Bool.or_eq_true_iff.2 (.inl (decide_eq_true (by omega)))
  obtain rfl | hx := List.mem_cons.1 hx
  · exact inRange_iff.2 ⟨Nat.zero_le _, h5⟩
  obtain rfl | hx := List.mem_cons.1 hx
  · exact Bool.or_eq_true_iff.2 (.inl h3)
  · rw [List.mem_singleton.1 hx]
    exact inRange_iff.2 ⟨Nat.zero_le _, hb⟩

/-! ### The statement -/

/-- Settles O35: each command is a use of `command_executed`, `command_refused` or `command_resets` on the equation of its body; an injected
mismatch leaves the host part alone because another engine is not OFFLINE. -/
theorem integrityCommandsTakeEffect : Obligations.IntegrityCommandsTakeEffect := by
  unfold Obligations.IntegrityCommandsTakeEffect
  refine ⟨?status, ?log, ?policy, ?memory, ?index, ?reach, ?lockstep, ?bus, ?supervisor, ?injectMode, ?leave, ?blocked, ?leaveMode, ?monitors,
    ?counters, ?clear⟩
  case status =>
    intro dt q s u hu hr hp
    exact command_executed (d := cmdIntegGetStatus) hu hr rfl (by rw [hp]; rfl) rfl rfl rfl rfl
  case log =>
    intro dt q s u es hu hr hl h1 h64 hes
    refine command_executed (d := cmdIntegReadLog) hu hr rfl (beq_iff_eq.2 hl) (firstBad_eq_none_iff.2 fun x hx => ?_) ?_ rfl rfl
    · rw [List.mem_singleton.1 hx]
      exact inRange_iff.2 ⟨h1, h64⟩
    · have hd : u.integ.log.drop es.length = u.integ.log.drop (fld q.params 0 1) := by
        rw [hes, List.length_take, List.drop_eq_drop_iff]
        omega
      rw [← hd, hes]
      rfl
  case policy =>
    intro dt q s u hu hr hl h1 hlo hhi hleave
    refine command_executed (d := cmdIntegSetPolicy) hu hr rfl (beq_iff_eq.2 hl) (firstBad_eq_none_iff.2 fun x hx => ?_) rfl rfl rfl
    obtain rfl | hx := List.mem_cons.1 hx
    · exact inRange_iff.2 ⟨Nat.zero_le _, h1⟩
    obtain rfl | hx := List.mem_cons.1 hx
    · exact inRange_iff.2 ⟨hlo, hhi⟩
    · rw [List.mem_singleton.1 hx]
      exact Bool.or_eq_true_iff.2 (hleave.imp beq_iff_eq.2 inRange_iff.2)
  case memory =>
    intro dt q s u hu hr hm hl h14 h2 h13 h38 hi ha
    refine command_executed (d := cmdIntegInject) hu hr ((commissionService_iff _).2 hm) (beq_iff_eq.2 hl) ?_ ?_ rfl rfl
    · rw [integInject_checks_memory h2, decide_eq_true hi, decide_eq_true ha, inRange_iff.2 ⟨Nat.zero_le _, h38⟩]
      split
      next h => rw [h13 h]; rfl
      next => rw [decide_eq_true h14]; rfl
    · exact congrArg (CmdOut.ok []) (inject_memory h2 _ _ _ _ _)
  case index =>
    intro dt q s u hu hr hm hl h14 h1 hi
    refine refusedWith_of_check (d := cmdIntegInject) hu hr ((commissionService_iff _).2 hm) (beq_iff_eq.2 hl) ?_
    rw [integInject_checks_memory (by omega), if_neg (by omega), decide_eq_true h14, decide_eq_false (by omega)]
    rfl
  case reach =>
    intro dt q s u hu hr hm hl h14 h1 hi ha
    refine refusedWith_of_check (d := cmdIntegInject) hu hr ((commissionService_iff _).2 hm) (beq_iff_eq.2 hl) ?_
    rw [integInject_checks_memory (by omega), if_neg (by omega), decide_eq_true h14, decide_eq_true hi, decide_eq_false (Nat.not_lt.2 ha)]
    rfl
  case lockstep =>
    intro dt q s u hu hr hm hl hk hi hb ⟨f, hf, hne, ho⟩
    have hkeep : (lockstepMismatch (fld q.params 1 1) u).unsent = u.unsent := lockstepMismatch_unsent hf hne ho
    have hrun : cmdIntegInject.run u q.ifc q.params = .ok [] (lockstepMismatch (fld q.params 1 1) u) := by
      change CmdOut.ok [] (inject _ _ (fld q.params 2 1) _ _ u) = _
      rw [hk, inject]
    exact command_executed hu hr ((commissionService_iff _).2 hm) (beq_iff_eq.2 hl) (integInject_checks_fault (by omega) (by omega) (fun _ => hi) hb)
      hrun rfl hkeep
  case bus =>
    intro dt q s u hu hr hm hl hk hb
    refine command_executed (d := cmdIntegInject) hu hr ((commissionService_iff _).2 hm) (beq_iff_eq.2 hl)
      (integInject_checks_fault (by omega) (by omega) (fun h => by omega) hb) ?_ rfl
      (addLog_unsent 7 _ 0 0 _ { u with integ := { u.integ with cBus := inc u.integ.cBus } })
    change CmdOut.ok [] (inject _ _ (fld q.params 2 1) _ _ u) = _
    rw [hk, inject]
  case supervisor =>
    intro dt q s u hu hr hm hl hk hb
    refine command_resets (d := cmdIntegInject) (data := []) hu hr ((commissionService_iff _).2 hm) (beq_iff_eq.2 hl)
      (integInject_checks_fault (by omega) (by omega) (fun h => by omega) hb) ?_ (by rw [lockout_phase]; nofun)
    change CmdOut.ok [] (inject _ _ (fld q.params 2 1) _ _ u) = _
    rw [hk, inject]
  case injectMode =>
    intro dt q s u hu hr hc hs
    subst hu
    exact refusedWith_of_outcome cmdIntegInject dt q s _ rfl hr stWrongMode 0 nofun nofun (cmdOutcome_badMode (arrived_admits (d := cmdIntegInject) hr)
      (Bool.eq_false_iff.2 fun h => ((commissionService_iff _).1 h).elim hc hs))
  case leave =>
    intro dt q s u hu hr hm hp hc ht hj ⟨e, he, ho⟩
    have hn : ¬ safeBlocked u = true := by
      rw [safeBlocked_iff, engines_not_all_offline he ho]
      simp [hc, ht, hj]
    refine command_executed_of_parts (d := cmdIntegLeaveSafe) hu hr (beq_iff_eq.2 hm) (by rw [hp]; rfl) rfl (if_neg hn) rfl rfl rfl (fun _ => rfl)
  case blocked =>
    intro dt q s u hu hr hm hp hb
    exact command_refused (d := cmdIntegLeaveSafe) (offset := 0) hu hr (beq_iff_eq.2 hm) (by rw [hp]; rfl) rfl nofun nofun
      (if_pos ((safeBlocked_iff u).2 (hb.imp_right (.imp_right (.imp_right engines_all_offline)))))
  case leaveMode =>
    intro dt q s u hu hr hm
    subst hu
    exact refusedWith_of_outcome cmdIntegLeaveSafe dt q s _ rfl hr stWrongMode 0 nofun nofun
      (cmdOutcome_badMode (arrived_admits (d := cmdIntegLeaveSafe) hr) (beq_false_of_ne hm))
  case monitors =>
    intro dt q s u hu hr hp
    obtain ⟨h14, h56⟩ := measured_length u
    exact ⟨_, _, _, h14, h56, command_executed (d := cmdDiagGetMonitors) hu hr rfl (by rw [hp]; rfl) rfl (diagGetMonitors_run u _ _) rfl rfl⟩
  case counters =>
    intro dt q s u hu hr hp
    refine command_executed (d := cmdIntegGetCounters) hu hr rfl (by rw [hp]; rfl) (by rw [hp]; rfl) ?_ (by rw [hp]; rfl) rfl
    rw [hp]
    rfl
  case clear =>
    intro dt q s u hu hr hp
    refine ⟨command_executed (d := cmdIntegGetCounters) hu hr rfl (by rw [hp]; rfl) (by rw [hp]; rfl) ?_ (by rw [hp]; rfl) rfl,
      integCounters_clearInteg u⟩
    rw [hp]
    rfl

end Sys2Proof.Machine
end

section
/-! SUPPORT. The check code is linear: what a read finds rests on the syndrome of the error alone, and the syndromes of the errors of one and of
two bits are finitely many (R522 to R524). -/

namespace Sys2Proof.Machine

/-- The XOR of the columns of the data bits that an error flips. -/
def errorColumns (e : Word32) : BitVec 7 := secdedXor e 0 secdedColumns

theorem secdedXor_xor (d e : Word32) (i : Nat) (cs : List (BitVec 7)) : secdedXor (d ^^^ e) i cs = secdedXor d i cs ^^^ secdedXor e i cs := by
  induction cs generalizing i with
  | nil => exact (by decide : (0 : BitVec 7) = 0 ^^^ 0)
  | cons c cs ih =>
    rw [secdedXor, secdedXor, secdedXor, ih, BitVec.getLsbD_xor]
    cases d.getLsbD i <;> cases e.getLsbD i <;>
      simp only [Bool.xor_false, Bool.xor_true, Bool.not_false, Bool.not_true, if_true, if_false, Bool.false_eq_true] <;> ac_nf
    rw [← BitVec.xor_assoc c c, BitVec.xor_self, BitVec.zero_xor]

theorem secdedCheck_xor (d e : Word32) (a : Bool) : secdedCheck (d ^^^ e) a = secdedCheck d a ^^^ errorColumns e := by
  rw [secdedCheck, secdedXor_xor, secdedCheck, errorColumns]
  ac_rfl

theorem secdedCheck_not (d : Word32) (a : Bool) : secdedCheck d (!a) = secdedCheck d a ^^^ 0x07#7 := by
  cases a
  · exact congrArg (· ^^^ 0x07#7) (BitVec.xor_zero).symm
  · rw [secdedCheck, secdedCheck]
    exact ((BitVec.xor_assoc _ _ _).trans (congrArg (secdedXor d 0 secdedColumns ^^^ ·) (by decide : 0x07#7 ^^^ 0x07#7 = 0#7))).symm

/-- What a read at its own address finds by the syndrome, whose bits the data bits `d` are corrected by. -/
def eccFinds (d : Word32) (y : BitVec 7) : Ecc :=
  if y = 0 then .clean
  else match secdedBit y 0 secdedColumns with
    | some i => .corrected (d ^^^ (1#32 <<< i))
    | none => if y = 1 ∨ y = 2 ∨ y = 4 ∨ y = 8 ∨ y = 16 ∨ y = 32 ∨ y = 64 then .corrected d else .uncorrectable

/-- The word `d` with the error `e` in its data bits and `f` in its check bits, read at its own address. -/
theorem eccRead_error (d e : Word32) (f : BitVec 7) (a : Bool) :
    eccRead (d ^^^ e) (secdedCheck d a ^^^ f) a a = eccFinds (d ^^^ e) (errorColumns e ^^^ f) := by
  have hy : secdedCheck (d ^^^ e) a ^^^ (secdedCheck d a ^^^ f) = errorColumns e ^^^ f := by
    rw [secdedCheck_xor, BitVec.xor_comm (secdedCheck d a) (errorColumns e), BitVec.xor_assoc, ← BitVec.xor_assoc (secdedCheck d a),
      BitVec.xor_self, BitVec.zero_xor]
  rw [eccRead, hy, eccFinds]
  exact ite_congr rfl (fun _ => if_pos rfl) fun _ => if_pos rfl

theorem eccRead_dataError (d e : Word32) (a : Bool) : eccRead (d ^^^ e) (secdedCheck d a) a a = eccFinds (d ^^^ e) (errorColumns e) := by
  have h := eccRead_error d e 0#7 a
  rwa [BitVec.xor_zero, BitVec.xor_zero] at h

theorem eccRead_checkError (d : Word32) (f : BitVec 7) (a : Bool) : eccRead d (secdedCheck d a ^^^ f) a a = eccFinds d f := by
  have h := eccRead_error d 0#32 f a
  rwa [BitVec.xor_zero, show errorColumns 0#32 = 0#7 from by decide +kernel, BitVec.zero_xor] at h

/-! ### The syndromes of one and of two bits -/

theorem column_found : ∀ i < 32, errorColumns (1#32 <<< i) ≠ 0 ∧ secdedBit (errorColumns (1#32 <<< i)) 0 secdedColumns = some i := by decide +kernel

/-- A syndrome that no error of one bit has. -/
def manyBits (y : BitVec 7) : Bool :=
  y != 0 && (secdedBit y 0 secdedColumns).isNone && !(y == 1 || y == 2 || y == 4 || y == 8 || y == 16 || y == 32 || y == 64)

theorem check_manyless : ∀ j < 7, (1#7 <<< j) ≠ 0 ∧ secdedBit (1#7 <<< j) 0 secdedColumns = none ∧
    ((1#7 <<< j) = 1 ∨ (1#7 <<< j) = 2 ∨ (1#7 <<< j) = 4 ∨ (1#7 <<< j) = 8 ∨ (1#7 <<< j) = 16 ∨ (1#7 <<< j) = 32 ∨ (1#7 <<< j) = 64) := by
  decide +kernel

theorem two_columns_many : ∀ i < 32, ∀ j < 32, i < j → manyBits (errorColumns (1#32 <<< i) ^^^ errorColumns (1#32 <<< j)) = true := by decide +kernel

theorem column_and_check_many : ∀ i < 32, ∀ j < 7, manyBits (errorColumns (1#32 <<< i) ^^^ (1#7 <<< j)) = true := by decide +kernel

theorem eccFinds_many {y : BitVec 7} (h : manyBits y = true) (d : Word32) : eccFinds d y = .uncorrectable := by
  simp only [manyBits, Bool.and_eq_true, bne_iff_ne, Option.isNone_iff_eq_none, Bool.not_eq_true', Bool.or_eq_false_iff, beq_eq_false_iff_ne] at h
  obtain ⟨⟨h0, hn⟩, hb⟩ := h
  rw [eccFinds, if_neg h0, hn]
  exact if_neg (by tauto)

theorem eccFinds_column {i : Nat} (hi : i < 32) (d : Word32) : eccFinds (d ^^^ (1#32 <<< i)) (errorColumns (1#32 <<< i)) = .corrected d := by
  obtain ⟨h0, hb⟩ := column_found i hi
  rw [eccFinds, if_neg h0, hb]
  exact congrArg Ecc.corrected (by rw [BitVec.xor_assoc, BitVec.xor_self, BitVec.xor_zero])

theorem eccFinds_check {j : Nat} (hj : j < 7) (d : Word32) : eccFinds d (1#7 <<< j) = .corrected d := by
  obtain ⟨h0, hn, hb⟩ := check_manyless j hj
  rw [eccFinds, if_neg h0, hn]
  exact if_pos hb

/-- Settles O36: by `eccRead_error` a read finds what the syndrome says, and the three tables of syndromes are evaluated. -/
theorem checkCodeCorrectsAndDetects : Obligations.CheckCodeCorrectsAndDetects := by
  refine ⟨fun d a => ?_, fun d a i hi => ?_, fun d a j hj => ?_, fun d a => ?_, fun d a i j hi hj => ?_, fun d a i j hi hj => ?_, fun d a => ?_⟩
  · have h := eccRead_checkError d 0#7 a
    rwa [BitVec.xor_zero] at h
  · exact (eccRead_dataError d _ a).trans (eccFinds_column hi d)
  · exact (eccRead_checkError d _ a).trans (eccFinds_check hj d)
  · rw [eccRead, BitVec.xor_self]
    exact (if_pos rfl).trans (if_neg (Bool.not_ne_self a))
  · have h := eccRead_dataError d ((1#32 <<< i) ^^^ (1#32 <<< j)) a
    rw [← BitVec.xor_assoc] at h
    refine h.trans (eccFinds_many ?_ _)
    rw [errorColumns, secdedXor_xor]
    exact two_columns_many i (hi.trans hj) j hj hi
  · exact (eccRead_error d _ _ a).trans (eccFinds_many (column_and_check_many i hi j hj) _)
  · have hy : secdedCheck d (!a) ^^^ secdedCheck d a = 0x07#7 := by
      rw [secdedCheck_not, BitVec.xor_comm, ← BitVec.xor_assoc, BitVec.xor_self, BitVec.zero_xor]
    rw [eccRead, hy]
    exact (if_neg (by decide)).trans ((if_neg (Bool.self_ne_not a)).trans (if_pos rfl))

end Sys2Proof.Machine
end

section
/-! SUPPORT. What a memory error and a lockstep mismatch leave: the scrubber, the patrol, the reserve domain and the engines, without injected
errors, and the statement on them (R524 to R534, R548). -/

namespace Sys2Proof.Machine

/-! ### The rows -/

section

variable {dt : Ps} {s u : State} (hu : u = s.elapse dt)
include hu

theorem exec_engineLockstepMismatch (hp : u.sys.phase = .running) {e : Nat} (he : e < 12) :
    exec (.engineLockstepMismatch dt e) s = .next (lockstepMismatch e u) := by
  subst hu
  exact congrArg Host.Outcome.next (if_pos (Bool.and_eq_true_iff.2 ⟨decide_eq_true hp, decide_eq_true he⟩))

theorem exec_engineSelftestDone (hp : u.sys.phase = .running) {e : Nat} (he : e < 12) (pass : Bool) :
    exec (.engineSelftestDone dt e pass) s = .next (selftestDone e pass u) := by
  subst hu
  exact congrArg Host.Outcome.next (if_pos (Bool.and_eq_true_iff.2 ⟨decide_eq_true hp, decide_eq_true he⟩))

theorem exec_sramScrubRead (hp : u.sys.phase = .running) {cls : Nat} (hc : cls < 12) (item addr : Nat) (stored : BitVec 39) (written : Bool) :
    exec (.sramScrubRead dt cls item addr stored written) s = .next (sramScrub cls item addr stored written u) := by
  subst hu
  refine congrArg Host.Outcome.next (if_pos ?_)
  simp only [Bool.and_eq_true, decide_eq_true_eq, bne_iff_ne]
  exact ⟨⟨⟨decide_eq_true hp, by omega⟩, by omega⟩, by omega⟩

theorem exec_reserveScrub (hp : u.sys.phase ≠ .unpowered) (item : ReserveItem) (stored : BitVec 39) :
    exec (.reserveScrub dt item stored) s = .next (reserveScrub item stored u) := by
  subst hu
  exact congrArg Host.Outcome.next (if_neg hp)

theorem exec_patrolRead (hp : u.sys.phase = .running) {ch : Nat} (hc : ch < 2) (hm : u.sys.mode ≠ .dormant) (addr : Nat) (d : Word32)
    (chk : BitVec 8) : exec (.patrolRead dt ch addr d chk) s = .next (patrolRead ch addr d chk u) := by
  subst hu
  refine congrArg Host.Outcome.next (if_pos ?_)
  simp only [Bool.and_eq_true, decide_eq_true_eq, bne_iff_ne]
  exact ⟨⟨decide_eq_true hp, hc⟩, hm⟩

theorem exec_dramWriteback (ch : Nat) : exec (.dramWriteback dt ch) s = .next (dramWriteback ch u) := hu ▸ rfl

end

/-! ### Engines (R533, R534) -/

section

variable {s : State} {e n : Nat}

theorem lockstepMismatch_engine (s : State) (e : Nat) : ∃ l, lockstepMismatch e s = engineAbort e { s with integ := { s.integ with log := l } } := by
  obtain ⟨l, hl⟩ := mismatchLogged_integ e s
  exact ⟨l, (lockstepMismatch_eq e s).trans (congrArg (engineAbort e) hl)⟩

/-- An engine that runs an item that counts keeps it for its retry. -/
theorem abortItem_running {b : Bool} {r : RobEntry} (hs : (s.engine e).state = .running) (hn : (s.engine e).entry = some (n, b))
    (hr : tabGet? n s.kernel.rob = some r) (hd : r.discard = false) : abortItem e s =
      { engineIdle e .waiting s with kernel := { (engineIdle e .waiting s).kernel with
        rob := tabSet n { r with state := .aborted, notOn := some e } (engineIdle e .waiting s).kernel.rob } } := by
  have hr' : tabGet? n (engineIdle e .waiting s).kernel.rob = some r := hr
  rw [abortItem, hs, hn]
  dsimp only
  rw [hr']
  exact if_neg (Bool.eq_false_iff.1 hd)

theorem abortItem_waiting (hs : (s.engine e).state = .waiting) : abortItem e s = s := by
  rw [abortItem, hs]

theorem abortBegun_engine (he : e < 12) (s : State) : ((abortBegun e s).engine e).state = .selftest
    ∧ ((abortBegun e s).engine e).entry = ((abortItem e s).engine e).entry ∧ ((abortBegun e s).engine e).selftestEnd = s.now + 200000000 := by
  have h : (abortBegun e s).engine e = { (abortItem e s).engine e with
      state := .selftest, aborts := s.now :: (s.engine e).aborts.filter fun t => decide (s.now < t + 3600000000000000)
      selftestEnd := s.now + 200000000 } := State.setEngine_engine_self _ _ _ he
  rw [h]
  exact ⟨rfl, rfl, rfl⟩

theorem abortItem_cAborts (e : Nat) (s : State) : (abortItem e s).integ.cAborts = s.integ.cAborts := by
  unfold abortItem
  split
  · dsimp only
    split
    · rfl
    · split <;> rfl
  · rfl

theorem abortBegun_cAborts (e : Nat) (s : State) : (abortBegun e s).integ.cAborts = inc s.integ.cAborts := congrArg inc (abortItem_cAborts e s)

theorem abortBegun_rob (e : Nat) (s : State) : (abortBegun e s).kernel.rob = (abortItem e s).kernel.rob := rfl

theorem engineAbort_first (ho : (s.engine e).state ≠ .offline) (ht : (s.engine e).state ≠ .selftest)
    (ha : ∀ t, t ∈ (s.engine e).aborts → t + 3600000000000000 ≤ s.now) : engineAbort e s = abortBegun e s := by
  have hnil : (s.engine e).aborts.filter (fun t => decide (s.now < t + 3600000000000000)) = [] :=
    List.filter_eq_nil_iff.2 fun t ht h => Nat.not_le.2 (of_decide_eq_true h) (ha t ht)
  rw [engineAbort_begins ho ht, hnil]
  exact if_neg (Nat.not_le.2 (by rw [List.length_singleton]; decide))

theorem engineAbort_third {f : Nat} (hf : f < 12) (hfe : f ≠ e) (h : (s.engine f).state ≠ .offline) (ho : (s.engine e).state ≠ .offline)
    (ht : (s.engine e).state ≠ .selftest) {t1 t2 : Ps} {rest : List Ps} (ha : (s.engine e).aborts = t1 :: t2 :: rest)
    (h1 : s.now < t1 + 3600000000000000) (h2 : s.now < t2 + 3600000000000000) :
    engineAbort e s = (abortBegun e s).setEngine e { (abortBegun e s).engine e with state := .offline } := by
  have hl : 3 ≤ (s.now :: (t1 :: t2 :: rest).filter fun t => decide (s.now < t + 3600000000000000)).length := by
    simp only [List.filter_cons, decide_eq_true h1, decide_eq_true h2, if_true, List.length_cons]
    omega
  rw [engineAbort_begins ho ht, ha, if_pos hl, engineOffline_other hf hfe]
  rw [abortBegun_engine_ne hfe]
  exact h

theorem selftestDone_passes (hs : (s.engine e).state = .selftest) (ht : (s.engine e).selftestEnd ≤ s.now) :
    selftestDone e true s = s.setEngine e { s.engine e with state := .waiting } :=
  (if_neg (not_or.2 ⟨not_not_intro hs, Nat.not_lt.2 ht⟩)).trans (if_pos rfl)

theorem selftestDone_fails (hs : (s.engine e).state = .selftest) (ht : (s.engine e).selftestEnd ≤ s.now) :
    selftestDone e false s = engineOffline e { s with integ := { s.integ with cSelftest := inc s.integ.cSelftest } } :=
  (if_neg (not_or.2 ⟨not_not_intro hs, Nat.not_lt.2 ht⟩)).trans (if_neg Bool.false_ne_true)

end

/-! ### Words without injected errors (R524, R525) -/

section

variable {s : State}

theorem injectedFlips_none (h : s.integ.injected = []) (cls item addr : Nat) : injectedFlips cls item addr s = 0#40 := by
  rw [injectedFlips, h]
  rfl

theorem wordWritten_none (h : s.integ.injected = []) (cls item addr : Nat) : wordWritten cls item addr s = s :=
  congrArg (fun l => ({ s with integ := { s.integ with injected := l } } : State)) (a₂ := s.integ.injected) (by rw [h]; rfl)

/-- A write leaves no error in its word. -/
theorem injectedFlips_wordWritten (cls item addr : Nat) (s : State) : injectedFlips cls item addr (wordWritten cls item addr s) = 0 := by
  rw [injectedFlips, wordWritten]
  refine List.foldlRecOn (motive := fun v : BitVec 40 => v = 0) _ _ rfl fun v hv x hx => ?_
  rw [if_neg, hv]
  rintro ⟨hc, hi, ha⟩
  have h := (List.mem_filter.1 hx).2
  simp [hc, hi, ha] at h

theorem flipsRead_none : flipsRead 0 = .clean := by decide +kernel

theorem readWord_sound {cls item addr : Nat} (h : injectedFlips cls item addr s = 0) : readWord cls item addr s = s := by
  rw [readWord, h, flipsRead_none]
  rfl

theorem readBeat_sound {ch addr : Nat} (h : injectedFlips 13 ch addr s = 0) : readBeat ch addr s = s := by
  rw [readBeat, h, flipsRead_none]
  rfl

theorem addLog_last (cls unit outcome syndrome address : Nat) (s : State) : (addLog cls unit outcome syndrome address s).integ.log.getLast? =
    some { time := s.stamp, cls, unit, outcome, syndrome, address } := by
  simp only [addLog]
  rw [List.getLast?_drop, if_neg, List.getLast?_concat]
  rw [List.length_append]
  exact fun h => by simp only [List.length_singleton] at h; omega

/-- A corrected word counts and its entry joins the log. -/
theorem countError_corrected (cls addr y : Nat) (d : Word32) (s : State) : ∃ l, countError cls addr y (.corrected d) s =
      { s with integ := { s.integ with cCe := vset s.integ.cCe cls (inc (vget 0 s.integ.cCe cls)), log := l } }
    ∧ l.getLast? = some { time := s.stamp, cls := 1, unit := cls, outcome := 0, syndrome := y, address := addr } := by
  have hl := addLog_last 1 cls 0 y addr { s with integ := { s.integ with cCe := vset s.integ.cCe cls (inc (vget 0 s.integ.cCe cls)) } }
  obtain ⟨l, h⟩ := addLog_integ 1 cls 0 y addr { s with integ := { s.integ with cCe := vset s.integ.cCe cls (inc (vget 0 s.integ.cCe cls)) } }
  rw [h] at hl
  rw [countError, h]
  exact ⟨l, rfl, hl⟩

theorem countError_uncorrectable (cls addr y : Nat) (s : State) : countError cls addr y .uncorrectable s =
    addLog 2 cls (if cls = 6 then 0 else 1) y addr { s with integ := { s.integ with cUe := vset s.integ.cUe cls (inc (vget 0 s.integ.cUe cls)) } } := rfl

theorem countError_injected {cls addr y : Nat} {k : Ecc} (h : s.integ.injected = []) : (countError cls addr y k s).integ.injected = [] := by
  obtain ⟨g, hg, hi⟩ := countError_eq cls addr y k s
  rw [hg]
  exact hi.trans h

end

/-! ### Scrub and patrol (R528 to R531) -/

section

variable {s : State}

theorem xor_no_flips (stored : BitVec 39) : stored ^^^ (0#40).extractLsb' 0 39 = stored := by
  rw [show (0#40).extractLsb' 0 39 = 0#39 from by decide, BitVec.xor_zero]

/-- A scrubbed word that reads clean. -/
theorem sramScrub_clean {cls item addr : Nat} {stored : BitVec 39} (hi : s.integ.injected = [])
    (hk : eccRead (stored.extractLsb' 0 32) (stored.extractLsb' 32 7) false false = .clean) : sramScrub cls item addr stored false s = s := by
  rw [sramScrub, injectedFlips_none hi, xor_no_flips]
  dsimp only
  rw [hk]
  rfl

/-- A scrubbed word that is corrected. -/
theorem sramScrub_corrected {cls item addr : Nat} {stored : BitVec 39} {d : Word32} (written : Bool) (hi : s.integ.injected = [])
    (hk : eccRead (stored.extractLsb' 0 32) (stored.extractLsb' 32 7) false false = .corrected d) :
    ∃ l, sramScrub cls item addr stored written s = { s with integ := { s.integ with
        cCe := vset s.integ.cCe cls (inc (vget 0 s.integ.cCe cls)), log := l
        cWbCancelled := if written then inc s.integ.cWbCancelled else s.integ.cWbCancelled } }
      ∧ l.getLast? = some { time := s.stamp, cls := 1, unit := cls, outcome := 0, syndrome := wordSyndrome stored, address := logAddress cls item addr } := by
  obtain ⟨l, hl, hlast⟩ := countError_corrected cls (logAddress cls item addr) (wordSyndrome stored) d s
  refine ⟨l, ?_, hlast⟩
  rw [sramScrub, injectedFlips_none hi, xor_no_flips]
  dsimp only
  rw [hk, hl]
  dsimp only
  rw [wordWritten_none (s := { s with integ := { s.integ with cCe := vset s.integ.cCe cls (inc (vget 0 s.integ.cCe cls)), log := l } }) hi]
  cases written <;> rfl

/-- A scrubbed word that is uncorrectable has the outcome of its class. -/
theorem sramScrub_uncorrectable {cls item addr : Nat} {stored : BitVec 39} (hi : s.integ.injected = [])
    (hk : eccRead (stored.extractLsb' 0 32) (stored.extractLsb' 32 7) false false = .uncorrectable) : sramScrub cls item addr stored false s =
      sramBad cls item addr (wordSyndrome stored) (countError cls (logAddress cls item addr) (wordSyndrome stored) .uncorrectable s) := by
  rw [sramScrub, injectedFlips_none hi, xor_no_flips]
  dsimp only
  rw [hk]
  rfl

theorem logAddress_eq (cls item addr : Nat) :
    logAddress cls item addr = if 4 ≤ cls ∧ cls ≤ 6 then item % 12 * 4294967296 + addr else addr :=
  ite_congr (propext inRange_iff) (fun _ => rfl) fun _ => rfl

/-- A word of the reserve domain that is uncorrectable restarts its item. -/
theorem reserveScrub_uncorrectable {item : ReserveItem} {stored : BitVec 39} (hi : s.integ.injected = [])
    (hk : eccRead (stored.extractLsb' 0 32) (stored.extractLsb' 32 7) false false = .uncorrectable) : reserveScrub item stored s =
      reserveItemLost item (countError 12 ((reservePlace item).1 * 4294967296 + (reservePlace item).2) (wordSyndrome stored) .uncorrectable s) := by
  rw [reserveScrub, injectedFlips_none hi, xor_no_flips, hk]
  exact congrArg (reserveItemLost item) (wordWritten_none (countError_injected hi) _ _ _)

theorem TimeSt.hold_valid (t : TimeSt) : t.hold.valid = t.valid := by
  unfold TimeSt.hold
  split
  · rfl
  · split <;> rfl

theorem reselect_valid (s : State) : (reselect s).time.valid = s.time.valid := by
  by_cases h : chooseSource s = s.time.source
  · rw [reselect_same h]
  · obtain ⟨ports, ht⟩ := reselect_time h
    rw [ht]
    change (s.time.selected (chooseSource s)).valid = s.time.valid
    unfold TimeSt.selected
    split
    · exact TimeSt.hold_valid s.time
    · rfl

theorem TimeSt.restart_valid (t : TimeSt) : t.restart.valid = t.valid := by
  unfold TimeSt.restart
  dsimp only
  split <;> rfl

theorem timeLost_valid (s : State) : (timeLost s).time.valid = false := by
  rw [timeLost]
  dsimp only
  split
  · rw [noteServo_time, reselect_valid]
    exact TimeSt.restart_valid _
  · rfl

theorem flipped_none (d : Word32) (chk : BitVec 8) : d ^^^ (0#40).extractLsb' 0 32 = d ∧ chk ^^^ (0#40).extractLsb' 32 8 = chk := by
  rw [show (0#40).extractLsb' 0 32 = 0#32 from by decide, show (0#40).extractLsb' 32 8 = 0#8 from by decide, BitVec.xor_zero, BitVec.xor_zero]
  exact ⟨rfl, rfl⟩

/-- What a patrol read that corrects leaves before the write-back is queued. -/
theorem patrolRead_corrected {ch addr : Nat} {d w : Word32} {chk : BitVec 8} (hi : s.integ.injected = [])
    (hk : eccRead d (chk.extractLsb' 0 7) (chk.getLsbD 7) (addrParity addr) = .corrected w) : ∃ l, patrolRead ch addr d chk s =
      queueWriteBack ch (addr / 64) { s with integ := { s.integ with
        patrol := vset s.integ.patrol ch ((addr / 64 + 1) % (s.sys.capacity * 8388608)), cCe := vset s.integ.cCe 13 (inc (vget 0 s.integ.cCe 13)), log := l } } := by
  obtain ⟨hd, hc⟩ := flipped_none d chk
  obtain ⟨l, hl, -⟩ := countError_corrected 13 addr (secdedCheck d (addrParity addr) ^^^ chk.extractLsb' 0 7).toNat w
    { s with integ := { s.integ with patrol := vset s.integ.patrol ch ((addr / 64 + 1) % (s.sys.capacity * 8388608)) } }
  refine ⟨l, ?_⟩
  rw [patrolRead, injectedFlips_none hi, hd, hc]
  dsimp only
  rw [hk, hl]

theorem queueWriteBack_room {ch a : Nat} (hn : a ∉ vget [] s.integ.writeBacks ch) (hl : (vget [] s.integ.writeBacks ch).length < 16) :
    queueWriteBack ch a s = { s with integ := { s.integ with writeBacks := vset s.integ.writeBacks ch (vget [] s.integ.writeBacks ch ++ [a]) } } :=
  (if_neg (mt List.contains_iff_mem.1 hn)).trans (if_pos hl)

theorem queueWriteBack_full {ch a : Nat} (hn : a ∉ vget [] s.integ.writeBacks ch) (hl : 16 ≤ (vget [] s.integ.writeBacks ch).length) :
    queueWriteBack ch a s = { s with integ := { s.integ with cWbFull := inc s.integ.cWbFull } } :=
  (if_neg (mt List.contains_iff_mem.1 hn)).trans (if_neg (Nat.not_lt.2 hl))

/-- A write cancels the write-backs of the accesses that it meets. -/
theorem dramWritten_writeBacks {ch : Nat} (hc : ch < 2) (addr n : Nat) (s : State) : vget [] (dramWritten addr n s).integ.writeBacks ch =
    (vget [] s.integ.writeBacks ch).filter fun w => !spansMeet addr n (accessAddr ch w) 64 := by
  change vget [] (s.integ.writeBacks.zipIdx.map fun x => x.1.filter fun w => !spansMeet addr n (accessAddr x.2 w) 64) ch = _
  rw [vget, dif_pos hc, vget, dif_pos hc, Vector.getElem_map, Vector.getElem_zipIdx, Nat.zero_add]

theorem spansMeet_false {addr n a m : Nat} : (!spansMeet addr n a m) = true ↔ addr + n ≤ a ∨ a + m ≤ addr := by
  rw [spansMeet, Bool.not_eq_true', Bool.and_eq_false_iff, decide_eq_false_iff_not, decide_eq_false_iff_not, Nat.not_lt, Nat.not_lt]

theorem dramWriteback_issues {ch w : Nat} {rest : List Nat} (h : vget [] s.integ.writeBacks ch = w :: rest) :
    ∃ i, dramWriteback ch s = { s with integ := { s.integ with writeBacks := vset s.integ.writeBacks ch rest, injected := i } } := by
  rw [dramWriteback, h]
  exact ⟨_, rfl⟩

end

/-! ### The statement -/

/-- The lockstep mismatch of an engine that runs an item that counts. -/
theorem lockstepMismatch_running {s : State} {e n : Nat} {b : Bool} {r : RobEntry} (he : e < 12) (hs : (s.engine e).state = .running)
    (hn : (s.engine e).entry = some (n, b)) (hr : tabGet? n s.kernel.rob = some r) (hd : r.discard = false)
    (ha : ∀ t, t ∈ (s.engine e).aborts → t + 3600000000000000 ≤ s.now) : ((lockstepMismatch e s).engine e).state = .selftest
      ∧ ((lockstepMismatch e s).engine e).entry = none ∧ ((lockstepMismatch e s).engine e).selftestEnd = s.now + 200000000
      ∧ tabGet? n (lockstepMismatch e s).kernel.rob = some { r with state := .aborted, notOn := some e }
      ∧ (lockstepMismatch e s).integ.cAborts = inc s.integ.cAborts ∧ (lockstepMismatch e s).sys = s.sys := by
  obtain ⟨l, hl⟩ := lockstepMismatch_engine s e
  have hb := engineAbort_first (s := { s with integ := { s.integ with log := l } }) (e := e) (fun h => nomatch hs.symm.trans h)
    (fun h => nomatch hs.symm.trans h) ha
  have hi := abortItem_running (s := { s with integ := { s.integ with log := l } }) hs hn hr hd
  obtain ⟨h1, h2, h3⟩ := abortBegun_engine he { s with integ := { s.integ with log := l } }
  rw [hl, hb]
  refine ⟨h1, h2.trans ?_, h3, ?_, abortBegun_cAborts e _, sys_of_unsent (abortBegun_unsent e _)⟩
  · rw [hi]
    exact congrArg Engine.entry (engineIdle_engine he .waiting _)
  · rw [abortBegun_rob, hi]
    exact (tabGet?_tabSet ..).trans (if_pos rfl)

/-- The third abort of an engine within 3,600 s. -/
theorem lockstepMismatch_third {s : State} {e f : Nat} (he : e < 12) (hf : f < 12) (hfe : f ≠ e) (h : (s.engine f).state ≠ .offline)
    (hs : (s.engine e).state = .waiting) {t1 t2 : Ps} {rest : List Ps} (ha : (s.engine e).aborts = t1 :: t2 :: rest)
    (h1 : s.now < t1 + 3600000000000000) (h2 : s.now < t2 + 3600000000000000) :
    ((lockstepMismatch e s).engine e).state = .offline ∧ (lockstepMismatch e s).sys = s.sys := by
  obtain ⟨l, hl⟩ := lockstepMismatch_engine s e
  have hb := engineAbort_third (s := { s with integ := { s.integ with log := l } }) hf hfe h (fun h => nomatch hs.symm.trans h)
    (fun h => nomatch hs.symm.trans h) ha h1 h2
  refine ⟨?_, sys_of_unsent (lockstepMismatch_unsent hf hfe h)⟩
  rw [hl, hb, State.setEngine_engine_self _ _ _ he]

/-- Settles O37: the scrubber, the patrol and the engines by the branch that their word or their engine chooses. -/
theorem memoryAndEngineFaultsTakeEffect : Obligations.MemoryAndEngineFaultsTakeEffect := by
  refine ⟨fun dt s u e n b r hu hp he hs hn hr hd ha => ?_, fun dt s u e t1 t2 rest hu hp he hs ha h1 h2 ho => ?_, fun dt s u e hu hp he hs ht => ?_,
    fun dt s u e hu hp he hs ht ho => ?_, fun dt s u cls item addr stored hu hp hc hi hk => ?_,
    fun dt s u cls item addr stored d written hu hp hc hi hk => ?_, fun dt s u cls item addr stored hu hp hc hi hk => ?_,
    fun s item addr y ha hs => ?_, fun s item addr y ha hs => ?_, fun s item addr y ht => ?_, fun s item addr y => ?_,
    fun dt s u item stored hu hp hi hk => ?_, fun s => ?_, fun dt s u ch addr d chk w hu hp hc hm hi hk hl hn => ?_,
    fun dt s u ch addr d chk w hu hp hc hm hi hk hl hn => ?_, fun s ch addr h => ?_, fun s addr n ch hc => ?_, fun s cls item addr h => ?_,
    fun s cls item addr => ?_, fun dt s u ch w rest hu hc hw => ?_⟩
  · exact ⟨_, exec_engineLockstepMismatch hu hp he, lockstepMismatch_running he hs hn hr hd ha⟩
  · obtain ⟨f, hf, hfe, hfo⟩ := ho
    exact ⟨_, exec_engineLockstepMismatch hu hp he, lockstepMismatch_third he hf hfe hfo hs ha h1 h2⟩
  · exact (exec_engineSelftestDone hu hp he true).trans (congrArg _ (selftestDone_passes hs ht))
  · obtain ⟨f, hf, hfe, hfo⟩ := ho
    exact (exec_engineSelftestDone hu hp he false).trans (congrArg _ ((selftestDone_fails hs ht).trans
      (engineOffline_other (s := { u with integ := { u.integ with cSelftest := inc u.integ.cSelftest } }) hf hfe hfo)))
  · exact (exec_sramScrubRead hu hp hc item addr stored false).trans (congrArg _ (sramScrub_clean hi hk))
  · obtain ⟨l, hv, hlast⟩ := sramScrub_corrected (item := item) (addr := addr) written hi hk (cls := cls)
    refine ⟨_, (exec_sramScrubRead hu hp hc item addr stored written).trans (congrArg _ hv), rfl, ?_, rfl, ?_⟩
    · exact vget_vset_self _ _ _ _ (by omega)
    · rw [← logAddress_eq]
      exact hlast
  · refine (exec_sramScrubRead hu hp hc item addr stored false).trans (congrArg _ ((sramScrub_uncorrectable hi hk).trans ?_))
    rw [countError_uncorrectable, logAddress_eq]
  · exact (if_neg hs).trans (if_pos ha)
  · exact (if_neg hs).trans (if_neg (Nat.not_lt.2 ha))
  · exact if_neg (Bool.eq_false_iff.1 ht)
  · rfl
  · exact (exec_reserveScrub hu hp item stored).trans (congrArg _ (reserveScrub_uncorrectable hi hk))
  · exact ⟨rfl, rfl, timeLost_valid s⟩
  · obtain ⟨l, hv⟩ := patrolRead_corrected hi hk (ch := ch)
    refine ⟨_, (exec_patrolRead hu hp hc hm addr d chk).trans (congrArg _ (hv.trans (queueWriteBack_room hn hl))), vget_vset_self _ _ _ _ hc,
      vget_vset_self _ _ _ _ hc, vget_vset_self _ _ _ _ (by decide)⟩
  · obtain ⟨l, hv⟩ := patrolRead_corrected hi hk (ch := ch)
    exact ⟨_, (exec_patrolRead hu hp hc hm addr d chk).trans (congrArg _ (hv.trans (queueWriteBack_full hn hl))), rfl, rfl⟩
  · exact readBeat_sound h
  · refine ⟨fun w => ?_, fun x hx => (List.mem_filter.1 hx).1⟩
    rw [dramWritten_writeBacks hc, List.mem_filter, spansMeet_false]
  · exact readWord_sound h
  · exact injectedFlips_wordWritten cls item addr s
  · obtain ⟨i, hv⟩ := dramWriteback_issues hw
    exact ⟨_, (exec_dramWriteback hu ch).trans (congrArg _ hv), vget_vset_self _ _ _ _ hc, rfl⟩

end Sys2Proof.Machine
end

section
/-! SUPPORT. Lockouts and monitors: what the FAULT reset of a lockout leaves, what each monitor writes, and the statement on them (R537, R540 to
R547, R573). -/

namespace Sys2Proof.Machine

/-! ### The rows -/

section

variable {dt : Ps} {s u : State} (hu : u = s.elapse dt)
include hu

theorem exec_lockout (cls unit : Nat) (detail : Word32) : exec (.lockout dt cls unit detail) s =
    .next (if faultsCount u then lockout cls unit detail u
      else if u.sys.phase = .held .wdog && u.sys.lastResetAt = u.stamp then lockoutOverWdog cls unit detail u else u) := hu ▸ rfl

theorem exec_clockFault (hp : u.sys.phase = .running) (d : ClockDomain) : exec (.clockFault dt d) s = .next (clockFault d u) := by
  subst hu
  exact congrArg Host.Outcome.next (if_pos (decide_eq_true hp))

theorem exec_reserveUnavailable (hp : u.sys.phase = .running) :
    exec (.reserveUnavailable dt) s = .next { u with integ := { u.integ with reserveUnavailable := true } } := by
  subst hu
  exact congrArg Host.Outcome.next (if_pos (decide_eq_true hp))

theorem exec_tempSample (hm : mainsOn u = true) {l : List Int} (hl : l.length = 8) : exec (.tempSample dt l) s = .next (tempSample l u) := by
  subst hu
  exact congrArg Host.Outcome.next ((if_neg (not_not_intro hl)).trans (if_pos hm))

theorem exec_thermalShutdown : exec (.thermalShutdown dt) s = .next (if mainsOn u && scorched u then wipe .por .thermal u else u) := hu ▸ rfl

theorem exec_thermalShutdownEnd : exec (.thermalShutdownEnd dt) s =
    .next (if u.sys.phase = .thermal && decide (u.integ.tj < 1600) then resetEdge .por u else u) := hu ▸ rfl

theorem exec_almReadback (pin : Nat) (high : Bool) : exec (.almReadback dt pin high) s =
    .next (if faultsCount u && decide (pin < 16) then almReadback pin high u else u) := hu ▸ rfl

theorem exec_watchdogService (hp : u.sys.phase = .running) :
    exec (.watchdogService dt) s = .next { u with sys := { u.sys with wdogAt := u.now } } := by
  subst hu
  exact congrArg Host.Outcome.next (if_pos hp)

theorem exec_autoLeaveSafe : exec (.autoLeaveSafe dt) s = .next (autoLeave u) := hu ▸ rfl

end

theorem faultsCount_iff (s : State) : faultsCount s = true ↔ s.sys.phase = .running := decide_eq_true_iff

/-! ### Lockouts (R545, R573) -/

section

variable {s : State} {cls unit : Nat} {detail : Word32}

/-- The record of a lockout's fault. -/
def faultRecorded (cls unit : Nat) (detail : Word32) (s : State) : State :=
  { s with integ := { s.integ with lastFault := { time := s.stamp, cls, unit, detail } } }

theorem faultReset_eq (cls unit : Nat) (detail : Word32) (s : State) :
    faultReset cls unit detail s = resetEdge .fault (faultRecorded cls unit detail s) := rfl

theorem faultRecorded_executing : (faultRecorded cls unit detail s).host.executing = s.host.executing := rfl

theorem cutBurn_wdogTimes (s : State) : (cutBurn s).sys.wdogTimes = s.sys.wdogTimes := by
  unfold cutBurn
  split
  · split <;> rfl
  · rfl

theorem wipe_wdogTimes (k : ResetKind) (ph : Phase) (s : State) : (wipe k ph s).sys.wdogTimes = s.sys.wdogTimes := by
  rw [wipe]
  dsimp only
  rw [driveFaultN_sys]
  exact cutBurn_wdogTimes s

theorem resetEdge_wdogTimes {k : ResetKind} (hk : k ≠ .wdog) (s : State) : (resetEdge k s).sys.wdogTimes = s.sys.wdogTimes := by
  unfold resetEdge
  extract_lets s1 s2
  have h1 : s1.sys = s.sys := by
    change (if k = .por then s else yieldAll s).sys = s.sys
    split
    · rfl
    · exact yieldAll_sys s
  refine (if_neg hk).trans ?_
  exact (wipe_wdogTimes k (.held k) s1).trans (congrArg SysSt.wdogTimes h1)

/-- A state with another count of free values, and another end of the watch of a monitor. -/
def watched (n : Nat) (m : Ps) (x : State) : State := { x with drawn := n, integ := { x.integ with monitorUntil := m } }

theorem watchClock_only (t : Ps) (x : State) : ∃ n m, watchClock t x = watched n m x := ⟨_, _, rfl⟩

theorem watched_self (x : State) : ∃ n m, x = watched n m x := ⟨_, _, rfl⟩

theorem watched_sys (n : Nat) (m : Ps) (x : State) : (watched n m x).sys = x.sys := rfl

theorem watched_lastFault (n : Nat) (m : Ps) (x : State) : (watched n m x).integ.lastFault = x.integ.lastFault := rfl

/-- What a lockout writes over the FAULT reset is the watch of a clock or of a rail alone. -/
theorem lockout_watch (cls unit : Nat) (detail : Word32) (s : State) : ∃ n m, lockout cls unit detail s = watched n m (faultReset cls unit detail s) := by
  by_cases h : cls = 8 ∨ cls = 9
  · rw [lockout_clock h]
    exact watchClock_only _ _
  · obtain ⟨h8, h9⟩ := not_or.1 h
    rw [lockout_other h8 h9]
    exact watched_self _

theorem lockout_sys (cls unit : Nat) (detail : Word32) (s : State) : (lockout cls unit detail s).sys = (faultReset cls unit detail s).sys := by
  obtain ⟨n, m, h⟩ := lockout_watch cls unit detail s
  rw [h, watched_sys]

theorem lockout_lastFault (cls unit : Nat) (detail : Word32) (s : State) :
    (lockout cls unit detail s).integ.lastFault = { time := s.stamp, cls, unit, detail } := by
  obtain ⟨n, m, h⟩ := lockout_watch cls unit detail s
  rw [h, watched_lastFault, faultReset_eq, (resetEdge_held .fault (faultRecorded cls unit detail s)).2.2]
  rfl

theorem lockout_lastReset (cls unit : Nat) (detail : Word32) (s : State) : (lockout cls unit detail s).sys.lastReset = .fault := by
  rw [lockout_sys, faultReset_eq]
  exact (resetEdge_held .fault (faultRecorded cls unit detail s)).2.1

theorem lockout_wdogTimes (cls unit : Nat) (detail : Word32) (s : State) : (lockout cls unit detail s).sys.wdogTimes = s.sys.wdogTimes := by
  rw [lockout_sys, faultReset_eq, resetEdge_wdogTimes (k := .fault) (by decide)]
  rfl

/-- A reset edge wipes each part of the state as its history entry is written. -/
theorem lockout_wiped (cls unit : Nat) (detail : Word32) (he : s.host.executing = none) : ∃ w times n m,
    Wiped .fault (.held .fault) (faultRecorded cls unit detail s) w ∧ lockout cls unit detail s = watched n m { w with
      sys := { w.sys with lastReset := .fault, history := countHistory ResetKind.fault.code w.sys.history, lastResetAt := s.stamp, wdogTimes := times } } := by
  obtain ⟨w, times, hw, hr⟩ := resetEdge_wiped .fault (faultRecorded_executing.trans he)
  obtain ⟨n, m, h⟩ := lockout_watch cls unit detail s
  rw [faultReset_eq, hr] at h
  exact ⟨w, times, n, m, hw, h⟩

theorem lockout_prevMode (cls unit : Nat) (detail : Word32) (he : s.host.executing = none) :
    (lockout cls unit detail s).sys.prevMode = s.sys.mode := by
  obtain ⟨w, times, n, m, ⟨-, -, -, -, -, -, -, low, hsys⟩, h⟩ := lockout_wiped cls unit detail he
  rw [h, watched_sys]
  dsimp only
  rw [hsys]
  rfl

theorem lockoutOverWdog_eq (cls unit : Nat) (detail : Word32) (s : State) : ∃ h, lockoutOverWdog cls unit detail s =
    lockout cls unit detail { s with sys := { s.sys with mode := s.sys.prevMode, history := h, wdogTimes := s.sys.wdogTimes.drop 1 } } := ⟨_, rfl⟩

end

/-! ### Clocks (R540) -/

section

variable {s : State}

/-- The note of a clock fault that is no lockout. -/
def faultNoted (d : ClockDomain) (s : State) : State :=
  { addLog 8 (domainCode d) 1 0 0 s with
    integ := { (addLog 8 (domainCode d) 1 0 0 s).integ with clockFaults := d :: s.integ.clockFaults.filter fun x => x ≠ d } }

theorem faultNoted_integ (d : ClockDomain) (s : State) : ∃ l, faultNoted d s =
    { s with integ := { s.integ with log := l, clockFaults := d :: s.integ.clockFaults.filter fun x => x ≠ d } } := by
  obtain ⟨l, hl⟩ := addLog_integ 8 (domainCode d) 1 0 0 s
  rw [faultNoted, hl]
  exact ⟨l, rfl⟩

theorem faultNoted_sys (d : ClockDomain) (s : State) : (faultNoted d s).sys = s.sys := by
  obtain ⟨l, hl⟩ := faultNoted_integ d s
  rw [hl]

theorem faultNoted_host (d : ClockDomain) (s : State) : (faultNoted d s).host = s.host := by
  obtain ⟨l, hl⟩ := faultNoted_integ d s
  rw [hl]

theorem faultNoted_mem (d : ClockDomain) (s : State) : d ∈ (faultNoted d s).integ.clockFaults := by
  obtain ⟨l, hl⟩ := faultNoted_integ d s
  rw [hl]
  exact List.mem_cons_self

theorem clockFault_lockout {d : ClockDomain} (h : d = .refclk ∨ d = .tclk ∨ d = .eclk ∨ d = .fclk ∨ d = .mclk ∨ d = .nclk ∨ d = .sclk
    ∨ d = .modclk ∨ d = .aclk ∨ d = .qclk) : clockFault d s = lockout 8 (domainCode d) 0 s := by
  obtain rfl | rfl | rfl | rfl | rfl | rfl | rfl | rfl | rfl | rfl := h <;> rw [clockFault] <;> exact nofun

/-- KCLK has failed. -/
def kclkFailed (x : State) : State := { x with time := { x.time with kclkFail := true } }

theorem kclkFailed_parts (x : State) : (kclkFailed x).time = { x.time with kclkFail := true } ∧ (kclkFailed x).integ = x.integ
    ∧ (kclkFailed x).sys = x.sys := ⟨rfl, rfl, rfl⟩

theorem clockFault_kclk (h : s.time.servo = .locked) : clockFault .kclk s = kclkFailed (faultNoted .kclk s) := if_pos h

theorem faultNoted_time (d : ClockDomain) (s : State) : (faultNoted d s).time = s.time := by
  obtain ⟨l, hl⟩ := faultNoted_integ d s
  rw [hl]

theorem clockFault_gclk (s : State) : clockFault .gclk s = mgmtDown (faultNoted .gclk s) := rfl

theorem clockFault_pclk (s : State) : clockFault .pclk s = pcieOff (faultNoted .pclk s) := rfl

theorem ifReset_integ (i : Nat) (s : State) : (ifReset i s).integ = s.integ := by
  obtain ⟨u, h⟩ := ifReset_eq i s
  rw [h]
  exact State.setIface_integ s i _

theorem ringOff_integ (r : Nat) (s : State) : (ringOff r s).integ = s.integ := by
  unfold ringOff
  extract_lets x s1
  exact foldl_keeps_read State.integ (g := fun s f => classDrop f.cls s) (fun _ _ => rfl) x.queue s

theorem ringsDown_integ (s : State) : (ringsDown s).integ = s.integ := by
  rw [ringsDown_eq]
  exact foldl_keeps_read State.integ (g := fun s r => ringDown r s) (fun s r => ringOff_integ r s) _ s

theorem pcieDown_integ (s : State) : (pcieDown s).integ = s.integ := by
  rw [pcieDown, ifReset_integ, ringsDown_integ]
  rfl

/-- The endpoint behind a link that is off. -/
def unlinked (x : State) : State := { x with host := { x.host with pcieUp := false, busMaster := false } }

theorem unlinked_integ (x : State) : (unlinked x).integ = x.integ := rfl

theorem pcieOff_up (h : s.host.pcieUp = true) : pcieOff s = unlinked (pcieDown s) := if_pos h

theorem pcieOff_down (h : s.host.pcieUp = true) : (pcieOff s).host.pcieUp = false ∧ (pcieOff s).host.busMaster = false
    ∧ (pcieOff s).integ = s.integ := by
  rw [pcieOff_up h, unlinked_integ, pcieDown_integ]
  exact ⟨rfl, rfl, rfl⟩

theorem ifReset_mgmtLink (i : Nat) (s : State) : (ifReset i s).host.mgmtLink = s.host.mgmtLink := by
  rw [ifReset_host]
  exact State.setIface_host_mgmtLink s i _

theorem mgmtDown_up (h : s.host.mgmtLink = true) : mgmtDown s = ifReset 1 { s with host := { s.host with mgmtLink := false } } := if_pos h

theorem mgmtDown_down (h : s.host.mgmtLink = true) : (mgmtDown s).host.mgmtLink = false ∧ (mgmtDown s).integ = s.integ := by
  rw [mgmtDown_up h, ifReset_mgmtLink, ifReset_integ]
  exact ⟨rfl, rfl⟩

/-! ### Temperature and alarm pins (R542, R543) -/

/-- TEMP_WARN behind a sample. -/
def warnAfter (s : State) (tj : Int) : Bool :=
  if (s.integ.warnLimit : Int) * 16 ≤ tj then true else if tj ≤ (s.integ.warnLimit : Int) * 16 - 32 then false else s.integ.tempWarn

/-- What a sample writes before a lockout. -/
def sampled (sensors : List Int) (tj : Int) (s : State) : State :=
  let s1 : State := { s with integ := { s.integ with
    sensors, tj, tjMax := max s.integ.tjMax tj, tempWarn := warnAfter s tj
    hotSince := if 1760 ≤ tj then some (s.integ.hotSince.getD s.now) else none
    scorchSince := if 2000 ≤ tj then some (s.integ.scorchSince.getD s.now) else none } }
  if warnAfter s tj = s.integ.tempWarn then s1 else raiseCause causeTemp s1

theorem raiseCause_integ (n : Nat) (s : State) : (raiseCause n s).integ = s.integ := by
  obtain ⟨h, o, hs⟩ := raiseCause_only n s
  rw [hs]

theorem sampled_integ (l : List Int) (tj : Int) (s : State) : (sampled l tj s).integ = { s.integ with
    sensors := l, tj, tjMax := max s.integ.tjMax tj, tempWarn := warnAfter s tj
    hotSince := if 1760 ≤ tj then some (s.integ.hotSince.getD s.now) else none
    scorchSince := if 2000 ≤ tj then some (s.integ.scorchSince.getD s.now) else none } := by
  unfold sampled
  extract_lets g s1
  split
  · rfl
  · exact raiseCause_integ causeTemp s1

theorem sampled_sys (l : List Int) (tj : Int) (s : State) : (sampled l tj s).sys = s.sys := by
  unfold sampled
  extract_lets g s1
  split
  · rfl
  · exact raiseCause_sys causeTemp s1

/-- TJ has been 110 °C or more for 1 ms. -/
def hotOverdue (hot : Option Ps) (now : Ps) : Bool := match hot with | some t => decide (t + 1000000000 ≤ now) | none => false

theorem tempSample_cool {x : Int} {l : List Int} (h : l.foldl max x < 1760) : tempSample (x :: l) s = sampled (x :: l) (l.foldl max x) s := by
  unfold tempSample
  extract_lets tj limit warn hot scorch g s1 s2 overdue
  have hh : hot = none := if_neg (Int.not_le.2 h)
  have ho : ¬ (overdue && faultsCount s) = true := by
    change ¬ (hotOverdue hot s.now && faultsCount s) = true
    rw [hh]
    exact Bool.false_ne_true
  exact (if_neg ho).trans rfl

theorem tempSample_hot {x : Int} {l : List Int} {t0 : Ps} (h : 1760 ≤ l.foldl max x) (hs : s.integ.hotSince = some t0)
    (ht : t0 + 1000000000 ≤ s.now) (hp : s.sys.phase = .running) :
    tempSample (x :: l) s = lockout 10 0 (BitVec.ofInt 32 (l.foldl max x)) (sampled (x :: l) (l.foldl max x) s) := by
  unfold tempSample
  extract_lets tj limit warn hot scorch g s1 s2 overdue
  have hh : hot = some t0 := (if_pos h).trans (by rw [hs]; rfl)
  have ho : (overdue && faultsCount s) = true := by
    change (hotOverdue hot s.now && faultsCount s) = true
    rw [hh]
    exact Bool.and_eq_true_iff.2 ⟨decide_eq_true ht, (faultsCount_iff s).2 hp⟩
  exact (if_pos ho).trans rfl

theorem mainsOn_running (h : s.sys.phase = .running) : mainsOn s = true := by
  rw [mainsOn, h]

theorem scorched_due {t0 : Ps} (hs : s.integ.scorchSince = some t0) (ht : t0 + 100000000 ≤ s.now) : scorched s = true := by
  rw [scorched, hs]
  exact decide_eq_true ht

theorem almReadback_driven {pin : Nat} (high : Bool) (h : s.detect.pins.getLsbD pin = true) : almReadback pin high s = s := if_pos h

theorem almReadback_low {pin : Nat} (h : s.detect.pins.getLsbD pin = false) :
    almReadback pin false s = { s with integ := { s.integ with almHigh := s.integ.almHigh &&& ~~~(1#16 <<< pin) } } :=
  (if_neg (Bool.eq_false_iff.1 h)).trans (if_neg Bool.false_ne_true)

theorem almReadback_high {pin : Nat} (h : s.detect.pins.getLsbD pin = false) : ∃ l, almReadback pin true s = { s with integ := { s.integ with
    log := l, almFault := s.integ.almFault ||| (1#16 <<< pin), almHigh := s.integ.almHigh ||| (1#16 <<< pin), cAlm := inc s.integ.cAlm } } := by
  obtain ⟨l, hl⟩ := addLog_integ 13 pin 1 0 0 { s with integ := { s.integ with
      almFault := s.integ.almFault ||| (1#16 <<< pin), almHigh := s.integ.almHigh ||| (1#16 <<< pin), cAlm := inc s.integ.cAlm } }
  exact ⟨l, ((if_neg (Bool.eq_false_iff.1 h)).trans (if_pos rfl)).trans hl⟩

/-! ### SAFE (R545, R547) -/

theorem autoLeave_leaves (hp : s.sys.phase = .running) (hm : s.sys.mode = .safe) (ha : 0 < s.integ.autoLeave)
    (ht : s.integ.safeSince + s.integ.autoLeave * 1000000000000 ≤ s.now) (hb : safeBlocked s = false) (hs : s.integ.safeStay = false)
    (hi : s.integ.noInterface = false) :
    autoLeave s = resetEdge .warm { s with integ := { s.integ with autoLeaves := s.stamp :: recentLeaves s } } := by
  refine if_pos ?_
  rw [hp, hm, decide_eq_true ha, decide_eq_true ht, hb, hs, hi]
  rfl

theorem autoLeave_stays (h : safeBlocked s = true ∨ s.integ.safeStay = true ∨ s.integ.noInterface = true) : autoLeave s = s := by
  refine if_neg ?_
  obtain h | h | h := h <;> simp [h]

end

/-! ### The statement -/

/-- Settles O38: each row behind its passage of time; what a lockout leaves is `lockout_wiped`. -/
theorem lockoutsAndMonitorsTakeEffect : Obligations.LockoutsAndMonitorsTakeEffect := by
  refine ⟨fun dt s u cls unit detail hu hp => ?_, fun dt s u cls unit detail hu hp hn => ?_, fun dt s u cls unit detail hu hp ht he => ?_,
    fun s t cls unit detail he ht => ?_, fun dt s u d hu hp hd => ?_, fun dt s u hu hp hs => ?_, fun dt s u hu hp hl => ?_, fun dt s u hu hp hv => ?_,
    fun dt s u hu hp hl => ?_, fun dt s u hu hp => ?_, fun dt s u x l hu hm hl hj => ?_, fun dt s u x l t0 hu hp hl hj hs ht => ?_,
    fun dt s u t0 hu hm hs ht => ?_, fun dt s u hu hp ht => ?_, fun dt s u hu hi => ?_, fun dt s u pin hu hp hpin hb => ?_,
    fun dt s u pin hu hp hpin hb => ?_, fun dt s u pin high hu hb => ?_, fun dt s u hu hp => ?_, fun dt s u hu hp hm ha ht hb hs hi => ?_,
    fun dt s u hu h => ?_, fun s ok => ?_⟩
  · rw [exec_lockout hu, if_pos ((faultsCount_iff u).2 hp)]
  · rw [exec_lockout hu, if_neg (mt (faultsCount_iff u).1 hp), if_neg]
    rw [Bool.and_eq_true, decide_eq_true_eq, decide_eq_true_eq, not_and_or]
    exact hn
  · obtain ⟨h, hv⟩ := lockoutOverWdog_eq cls unit detail u
    refine ⟨_, (exec_lockout hu cls unit detail).trans (congrArg _ ((if_neg ?_).trans ((if_pos ?_).trans hv))), lockout_phase .., lockout_lastReset ..,
      lockout_prevMode (s := { u with sys := { u.sys with mode := u.sys.prevMode, history := h, wdogTimes := u.sys.wdogTimes.drop 1 } }) cls unit detail he,
      lockout_wdogTimes .., lockout_lastFault ..⟩
    · exact mt (faultsCount_iff u).1 (by rw [hp]; nofun)
    · rw [hp, ht]
      simp
  · subst ht
    refine ⟨lockout_lastFault .., lockout_phase .., ?_⟩
    obtain ⟨w, times, n, m, ⟨htime, ⟨hing, hal, hfr, hde, hke, heg, -⟩, -, -, -, -, hup, low, hsys⟩, h⟩ := lockout_wiped cls unit detail he
    obtain ⟨htb, hvalid, -⟩ := timeAfterReset_facts .fault s.time
    rw [h]
    simp only [watched, faultRecorded, hsys, htime, hing, hal, hfr, hde, hke, heg, hup, htb, hvalid, updAfterReset, and_self]
  · exact (exec_clockFault hu hp d).trans (congrArg _ (clockFault_lockout hd))
  · obtain ⟨h1, h2, h3⟩ := kclkFailed_parts (faultNoted .kclk u)
    refine ⟨_, (exec_clockFault hu hp .kclk).trans (congrArg _ (clockFault_kclk hs)), ?_, ?_, ?_⟩
    · rw [h1, faultNoted_time]
    · rw [h2]
      exact faultNoted_mem .kclk u
    · rw [h3, faultNoted_sys]
  · obtain ⟨h1, h2⟩ := mgmtDown_down (s := faultNoted .gclk u) ((congrArg HostSt.mgmtLink (faultNoted_host .gclk u)).trans hl)
    exact ⟨_, (exec_clockFault hu hp .gclk).trans (congrArg _ (clockFault_gclk u)), h1, h2 ▸ faultNoted_mem .gclk u,
      (mgmtDown_sys _).trans (faultNoted_sys .gclk u)⟩
  · exact (exec_clockFault hu hp .vclk).trans (congrArg _ (if_neg (Bool.eq_false_iff.1 hv)))
  · obtain ⟨h1, h2, h3⟩ := pcieOff_down (s := faultNoted .pclk u) ((congrArg HostSt.pcieUp (faultNoted_host .pclk u)).trans hl)
    exact ⟨_, (exec_clockFault hu hp .pclk).trans (congrArg _ (clockFault_pclk u)), h1, h2, h3 ▸ faultNoted_mem .pclk u,
      (pcieOff_sys _).trans (faultNoted_sys .pclk u)⟩
  · exact exec_reserveUnavailable hu hp
  · have hg := sampled_integ (x :: l) (l.foldl max x) u
    refine ⟨_, (exec_tempSample hu hm (by rw [List.length_cons, hl])).trans (congrArg _ (tempSample_cool hj)), ?_, ?_, ?_, ?_, sampled_sys .., ?_⟩
    · rw [hg]
    · rw [hg]
    · rw [hg]
    · rw [hg]
      exact if_neg (Int.not_le.2 hj)
    · rw [hg]
      rfl
  · refine ⟨_, (exec_tempSample hu (mainsOn_running hp) (by rw [List.length_cons, hl])).trans (congrArg _ (tempSample_hot hj hs ht hp)), lockout_phase .., ?_⟩
    rw [lockout_lastFault]
  · rw [exec_thermalShutdown hu, hm, scorched_due hs ht]
    rfl
  · rw [exec_thermalShutdownEnd hu, hp, decide_eq_true ht]
    rfl
  · rw [exec_thermalShutdownEnd hu, if_neg]
    obtain hi | hi := hi
    · simp [hi]
    · simp [Int.not_lt.2 hi]
  · obtain ⟨l, hv⟩ := almReadback_high hb
    refine ⟨_, (exec_almReadback hu pin true).trans (congrArg _ ((if_pos ?_).trans hv)), rfl, rfl, rfl, rfl⟩
    rw [(faultsCount_iff u).2 hp, decide_eq_true hpin]
    rfl
  · rw [exec_almReadback hu, (faultsCount_iff u).2 hp, decide_eq_true hpin, almReadback_low hb]
    rfl
  · rw [exec_almReadback hu, almReadback_driven high hb, ite_self]
  · exact exec_watchdogService hu hp
  · exact (exec_autoLeaveSafe hu).trans (congrArg _ (autoLeave_leaves hp hm ha ht hb hs hi))
  · exact (exec_autoLeaveSafe hu).trans (congrArg _ (autoLeave_stays h))
  · exact ⟨rfl, changeMode_mode .., rfl⟩

end Sys2Proof.Machine
end

section
/-! SUPPORT. The security commands: a command that is refused with an effect, the bodies of the commands at the branches of their conditions,
the words of the OTP, and the statement on them (R555, R556, R559 to R561, R566, R569). -/

namespace Sys2Proof.Machine

/-! ### Execution -/

section

variable {dt : Ps} {q : Packet} {s u : State} (hu : u = arrived q (s.elapse dt))
include hu

/-- A command whose body answers a status with an effect that leaves the journal alone is refused, and has that effect. -/
theorem refusedWith_of_effect {d : Cmd} {status offset : Nat} {v : State} (hr : ready (s.elapse dt) q d.opcode = true)
    (hm : d.modes u.sys.mode = true) (hl : d.lenOk q.params = true) (hc : firstBad (d.checks u q.params) = none)
    (hrun : d.run u q.ifc q.params = .fail status offset v) (hs : status ≠ stOk) (he : status ≠ stBadEpoch) (hj : v.host.journal = u.host.journal) :
    refusedWith (command d dt q s) q d.opcode status (if status = stBadParam then offset else 0xFFFF) v := by
  have hmust : journalMustCommit v = false := journalMustCommit_of_journal hj (hu ▸ arrived_journal hr)
  subst hu
  rw [(arrived_parts q _).1] at hm
  have ho := (cmdOutcome_arrived hr hm hl hc).trans hrun
  obtain ⟨a, b, x, -⟩ := closeCommand_direct (packetCmd d q) (d.journaled q.params []) status offset [] v rfl
  rw [replyBytes_refused d q _ _ hs he] at b
  refine ⟨_, rfl, ?_⟩
  rw [runCommand_ready hr]
  simp only [executeCommand, packetCmd, ho, finishCommand, hmust, Bool.and_false, Bool.false_eq_true, if_false]
  exact ⟨b, x, a⟩

end

/-! ### The nonce (R561) -/

theorem spendNonce_spent {n : List Byte} {s : State} (h : s.sec.nonce = some n) : spendNonce n s = { s with sec := { s.sec with nonce := none } } := if_pos h

theorem spendNonce_host (n : List Byte) (s : State) : (spendNonce n s).host = s.host := by
  rw [spendNonce]
  split <;> rfl

theorem secModes_iff (m : Mode) : secModes m = true ↔ m = .commission ∨ m = .service := by
  rw [secModes, Bool.or_eq_true, beq_iff_eq, beq_iff_eq]

/-! ### SEC_SET_LIFECYCLE (R555, R556) -/

section

variable {s : State} {i : Nat} {p : List Byte}

theorem setLifecycle_unlisted (h : moveListed s.sys.lifecycle (fld p 0 1) = false) :
    cmdSecSetLifecycle.run s i p = .fail stDenied 0 (spendNonce (slice p 1 16) s) := if_pos (by rw [h]; rfl)

section

variable (hl : moveListed s.sys.lifecycle (fld p 0 1) = true)
include hl

theorem setLifecycle_trial {t : Ps} (ht : s.upd.trialEnd = some t) :
    cmdSecSetLifecycle.run s i p = .fail stBusy 0 (spendNonce (slice p 1 16) s) :=
  (if_neg (by rw [hl]; exact Bool.false_ne_true)).trans (if_pos (by rw [ht]; rfl))

theorem setLifecycle_settled (ht : s.upd.trialEnd = none) : cmdSecSetLifecycle.run s i p =
    if s.sec.nonce ≠ some (slice p 1 16) then .bad 1
    else if moveRoot s (fld p 0 1) ≠ some (Config.sha384 (slice p 17 97)) then .fail stBadParam 17 (spendNonce (slice p 1 16) s)
    else if !Config.ecdsaOk (slice p 17 97) (lifecycleBlock s (fld p 0 1) (slice p 1 16)) (slice p 114 96) then
      .fail stBadParam 114 (spendNonce (slice p 1 16) s)
    else .long (.lifecycle (fld p 0 1)) (spendNonce (slice p 1 16) s) :=
  (if_neg (by rw [hl]; exact Bool.false_ne_true)).trans (if_neg (by rw [ht]; exact Bool.false_ne_true))

end

/-! ### SEC_SET_OWNER_ROOT (R559) -/

theorem setOwnerRoot_full (h : freeSlot s = 4) : cmdSecSetOwnerRoot.run s i p = .fail stNoResource 0 (spendNonce (slice p 1 16) s) :=
  if_pos (by rw [h])

theorem setOwnerRoot_denied (h3 : freeSlot s ≤ 3) (hm : s.sys.lifecycle = .manufacture) (h1 : 1 ≤ freeSlot s) :
    cmdSecSetOwnerRoot.run s i p = .fail stDenied 0 (spendNonce (slice p 1 16) s) :=
  (if_neg (by omega)).trans (if_pos ⟨hm, by omega⟩)

theorem setOwnerRoot_otherSlot (h3 : freeSlot s ≤ 3) (hm : s.sys.lifecycle ≠ .manufacture) (hs : fld p 0 1 ≠ freeSlot s) :
    cmdSecSetOwnerRoot.run s i p = .fail stBadParam 0 (spendNonce (slice p 1 16) s) :=
  (if_neg (by omega)).trans ((if_neg fun h => hm h.1).trans (if_pos hs))

/-- A root that its signer authorises. -/
theorem setOwnerRoot_signed (h3 : freeSlot s ≤ 3) (hf : s.sys.lifecycle = .manufacture → freeSlot s = 0) (hs : fld p 0 1 = freeSlot s)
    (hn : s.sec.nonce = some (slice p 1 16))
    (hk : if s.sys.lifecycle = .manufacture then slice p 114 97 = slice p 17 97 else ownerRoot s = some (Config.sha384 (slice p 114 97)))
    (hv : Config.ecdsaOk (slice p 114 97) (rootBlock s (fld p 0 1) (slice p 1 16) (slice p 17 97)) (slice p 211 96) = true) :
    cmdSecSetOwnerRoot.run s i p = .long (.ownerRoot (fld p 0 1) (Config.sha384 (slice p 17 97))) { s with sec := { s.sec with nonce := none } } := by
  rw [← spendNonce_spent hn]
  refine (if_neg (by omega)).trans ((if_neg fun h => h.2 (hf h.1)).trans ((if_neg (not_not_intro hs)).trans ((if_neg (not_not_intro hn)).trans
    ((if_neg ?_).trans (if_neg (by rw [hv]; exact Bool.false_ne_true))))))
  split at hk
  next hm =>
    rw [if_pos hm, hk, bne_self_eq_false]
    exact Bool.false_ne_true
  next hm =>
    rw [if_neg hm, hk, bne_self_eq_false]
    exact Bool.false_ne_true

end

/-! ### MKA (R565 to R567, R569) -/

section

variable {s : State}

/-- MKA on a port as a new association starts it. -/
def associationStarted (x : MkaPort) : MkaPort := { x with peers := [], installed := false, rx := [], keyNumber := 0, an := 0, asked := false }

theorem newAssociation_wan {k : Nat} (hk : k ≠ 4) (s : State) :
    newAssociation k s = (s.setMka k (associationStarted (s.mka k))).modTx k fun x => { x with sa := false } := if_neg hk

theorem newAssociation_mgmt (s : State) : newAssociation 4 s = ifReset 1 (s.setMka 4 (associationStarted (s.mka 4))) := rfl

theorem newAssociation_sys (k : Nat) (s : State) : (newAssociation k s).sys = s.sys := by
  by_cases hk : k = 4
  · rw [hk, newAssociation_mgmt, ifReset_sys]
    rfl
  · rw [newAssociation_wan hk]
    rfl

theorem newAssociation_journal (k : Nat) (s : State) : (newAssociation k s).host.journal = s.host.journal := by
  by_cases hk : k = 4
  · rw [hk, newAssociation_mgmt, ifReset_journal]
    rfl
  · rw [newAssociation_wan hk]
    rfl

theorem ifReset_mgmt_iface {j : Nat} (hj : j ≠ 1) (s : State) : (ifReset 1 s).iface j = s.iface j := by
  rw [ifReset_iface]
  unfold State.iface
  by_cases h0 : j = 0
  · rw [if_pos h0, if_pos h0]
    rfl
  · rw [if_neg h0, if_neg h0, if_neg hj, if_neg hj]
    rfl

theorem newAssociation_iface {k j : Nat} (h : k = 4 → j ≠ 1) (s : State) : (newAssociation k s).iface j = s.iface j := by
  by_cases hk : k = 4
  · rw [hk, newAssociation_mgmt, ifReset_mgmt_iface (h hk)]
    rfl
  · rw [newAssociation_wan hk]
    rfl

/-- SEC_SET_MKA writes MKA on its port, and starts a new association or none. -/
theorem applyMka_shape (p : List Byte) (d : Nat) (s : State) : ∃ x, applyMka p d s = s.setMka (fld p 0 1) x ∨
    applyMka p d s = newAssociation (fld p 0 1) (s.setMka (fld p 0 1) x) := by
  unfold applyMka
  dsimp only
  split
  · split
    · exact ⟨_, .inl rfl⟩
    · exact ⟨_, .inr rfl⟩
  · split
    · exact ⟨_, .inr rfl⟩
    · exact ⟨_, .inl rfl⟩

theorem applyMka_parts {p : List Byte} {j : Nat} (d : Nat) (s : State) (h : fld p 0 1 = 4 → j ≠ 1) : (applyMka p d s).sys = s.sys
    ∧ (applyMka p d s).host.journal = s.host.journal ∧ (applyMka p d s).iface j = s.iface j := by
  obtain ⟨x, hx | hx⟩ := applyMka_shape p d s
  · rw [hx]
    exact ⟨rfl, rfl, rfl⟩
  · rw [hx, newAssociation_sys, newAssociation_journal, newAssociation_iface h]
    exact ⟨rfl, rfl, rfl⟩

/-- A CAK goes into a slot that is not in use. -/
theorem applyMka_write {p : List Byte} {k i : Nat} (hk : fld p 0 1 = k) (hi : fld p 1 1 = i) (ha : fld p 2 1 = 1) (hu : (s.mka k).inUse ≠ i) :
    applyMka p s.sys.lifecycle.domain s = s.setMka k { s.mka k with
      priority := fld p 68 1
      slots := vset (s.mka k).slots i (some { ckn := slice p 4 (fld p 3 1), cak := slice p 36 32, domain := s.sys.lifecycle.domain, failed := false }) } := by
  rw [applyMka, hk, hi, ha, bne_self_eq_false]
  exact if_neg hu

/-- A slot that is not in use is selected. -/
theorem applyMka_select {p : List Byte} {k i : Nat} (hk : fld p 0 1 = k) (hi : fld p 1 1 = i) (ha : fld p 2 1 = 2) (hu : (s.mka k).inUse ≠ i) (d : Nat) :
    applyMka p d s = newAssociation k (s.setMka k { s.mka k with priority := fld p 68 1, inUse := i }) := by
  rw [applyMka, hk, hi, ha]
  exact if_neg hu

theorem newAssociation_written {k : Nat} (hk : k < 4) (x : MkaPort) (s : State) :
    (newAssociation k (s.setMka k x)).mka k = associationStarted x ∧ ((newAssociation k (s.setMka k x)).tx k).sa = false := by
  rw [newAssociation_wan (by omega), State.setMka_mka_self _ _ _ (by omega)]
  refine ⟨State.setMka_mka_self _ _ _ (by omega), ?_⟩
  rw [State.modTx_tx_self _ _ hk]

/-! ### SEC_GET_MKA_STATUS (R565, R569) -/

theorem keyServer_none {x : MkaPort} (h : x.cak = none) (s : State) : keyServer x s = (0, s) := if_pos (by rw [h]; rfl)

theorem keyServer_facts (x : MkaPort) (s : State) : (∃ d, (keyServer x s).2 = { s with drawn := d }) ∧ (keyServer x s).1 ≤ 1
    ∧ (x.cak = none → (keyServer x s).1 = 0) ∧ ((∃ y, y ∈ x.peers ∧ y.2.1 < x.priority) → (keyServer x s).1 = 0) := by
  rw [keyServer]
  split
  · exact ⟨⟨s.drawn, rfl⟩, Nat.zero_le 1, fun _ => rfl, fun _ => rfl⟩
  next hc =>
    split
    next ha =>
      refine ⟨⟨s.drawn, rfl⟩, Nat.le_refl 1, fun h => absurd (by rw [h]; rfl) hc, fun ⟨y, hy, hlt⟩ => ?_⟩
      exact absurd (of_decide_eq_true (List.all_eq_true.1 ha y hy)) (Nat.lt_asymm hlt)
    · split
      · exact ⟨⟨s.drawn, rfl⟩, Nat.zero_le 1, fun _ => rfl, fun _ => rfl⟩
      next hn =>
        refine ⟨⟨s.drawn + 1, rfl⟩, Nat.le_of_lt_succ (Nat.mod_lt _ (by decide)), fun h => absurd (by rw [h]; rfl) hc, fun ⟨y, hy, hlt⟩ => ?_⟩
        exact absurd (List.any_eq_true.2 ⟨y, hy, decide_eq_true hlt⟩) hn

/-- What SEC_GET_MKA_STATUS answers, with the key server and the packet number. -/
def mkaStatus (x : MkaPort) (server pn : Nat) : List Byte :=
  be 1 x.inUse ++ slotStatus x 0 ++ slotStatus x 1 ++ be 1 server ++ be 1 x.peers.length ++ be 4 x.keyNumber ++ be 1 x.an ++ be 4 pn ++ be 4 x.installs

theorem getMkaStatus_wan {i k : Nat} {p : List Byte} (hk : fld p 0 1 = k) (h4 : k < 4) : cmdSecGetMkaStatus.run s i p =
    .ok (mkaStatus (s.mka k) (keyServer (s.mka k) s).1 (s.tx k).pn) (keyServer (s.mka k) s).2 := by
  subst hk
  have h : (if fld p 0 1 < 4 then ((s.tx (fld p 0 1)).pn, (keyServer (s.mka (fld p 0 1)) s).2) else (keyServer (s.mka (fld p 0 1)) s).2.draw) =
    ((s.tx (fld p 0 1)).pn, (keyServer (s.mka (fld p 0 1)) s).2) := if_pos h4
  exact congrArg (fun r : Nat × State => CmdOut.ok (mkaStatus (s.mka (fld p 0 1)) (keyServer (s.mka (fld p 0 1)) s).1 r.1) r.2) h

theorem getMkaStatus_mgmt {i : Nat} {p : List Byte} (hk : fld p 0 1 = 4) : cmdSecGetMkaStatus.run s i p =
    .ok (mkaStatus (s.mka 4) (keyServer (s.mka 4) s).1 (keyServer (s.mka 4) s).2.draw.1) (keyServer (s.mka 4) s).2.draw.2 := by
  change CmdOut.ok (mkaStatus (s.mka (fld p 0 1)) (keyServer (s.mka (fld p 0 1)) s).1
      (if fld p 0 1 < 4 then ((s.tx (fld p 0 1)).pn, (keyServer (s.mka (fld p 0 1)) s).2) else (keyServer (s.mka (fld p 0 1)) s).2.draw).1)
    (if fld p 0 1 < 4 then ((s.tx (fld p 0 1)).pn, (keyServer (s.mka (fld p 0 1)) s).2) else (keyServer (s.mka (fld p 0 1)) s).2.draw).2 = _
  rw [hk]
  rfl

end

/-! ### The words of the OTP (R524, R558) -/

theorem otpData_otpWord (d : Word32) : otpData (otpWord d) = d := by
  have h0 : (otpWord d).extractLsb' 0 32 = d := BitVec.extractLsb'_append_eq_right
  have h1 : (otpWord d).extractLsb' 32 7 = secdedCheck d false := BitVec.extractLsb'_append_eq_left
  have hc : otpRead (otpWord d) = .clean := by
    have h := eccRead_checkError d 0#7 false
    rw [BitVec.xor_zero] at h
    rw [otpRead, h0, h1, h]
    rfl
  rw [otpData, hc]
  exact h0

theorem be_word (a b c d : Byte) : be 4 (BitVec.ofNat 32 (ofBe [a, b, c, d])).toNat = [a, b, c, d] := by
  have hn : (BitVec.ofNat 32 (ofBe [a, b, c, d])).toNat = ((a.toNat * 256 + b.toNat) * 256 + c.toNat) * 256 + d.toNat := by
    have ha := a.isLt
    have hb := b.isLt
    have hc := c.isLt
    have hd := d.isLt
    rw [BitVec.toNat_ofNat, ofBe]
    simp only [List.foldl_cons, List.foldl_nil]
    omega
  rw [hn]
  have ha := a.isLt
  have hb := b.isLt
  have hc := c.isLt
  have hd := d.isLt
  simp only [be, List.cons.injEq, and_true]
  refine ⟨?_, ?_, ?_, ?_⟩ <;> refine BitVec.eq_of_toNat_eq ?_ <;> rw [BitVec.toNat_ofNat] <;> omega

/-- Octets in words come back. -/
theorem otpBytes_otpWords : ∀ {n : Nat} {b : List Byte}, b.length = 4 * n → otpBytes (otpWords b) = b
  | 0, b, h => by
    rw [List.eq_nil_of_length_eq_zero h]
    rfl
  | n + 1, a :: b :: c :: d :: t, h => by
    have ht : t.length = 4 * n := by
      simp only [List.length_cons] at h
      omega
    have ih := otpBytes_otpWords ht
    rw [otpBytes, otpWords] at ih ⊢
    rw [wordsOf, List.map_cons, List.flatMap_cons, ih, otpData_otpWord, be_word]
    rfl
  | n + 1, [], h => by simp at h
  | n + 1, [_], h => by simp at h; omega
  | n + 1, [_, _], h => by simp at h; omega
  | n + 1, [_, _, _], h => by simp at h; omega

theorem otpWords_notZero {n : Nat} {b : List Byte} (hl : b.length = 4 * n) (hb : ∃ x, x ∈ b ∧ x ≠ 0) :
    ((otpWords b).all fun w => otpData w == 0) = false := by
  refine Bool.eq_false_iff.2 fun h => ?_
  obtain ⟨x, hx, h0⟩ := hb
  rw [← otpBytes_otpWords hl, otpBytes, List.mem_flatMap] at hx
  obtain ⟨w, hw, hx⟩ := hx
  rw [beq_iff_eq.1 (List.all_eq_true.1 h w hw)] at hx
  refine h0 (List.eq_of_mem_replicate (n := 4) ?_)
  exact hx

/-- A slot programmed with the digest of a key holds that digest. -/
theorem owner_programmed {o : Otp} {x : SecSt} {i : Nat} {d : List Byte} (hi : i < 4) (hd : d.length = 48) (hb : ∃ b, b ∈ d ∧ b ≠ 0) :
    vget none ({ x with otp := { o with slots := vset o.slots i (otpWords d) } } : SecSt).owner i = some d := by
  refine (vget_map [] none _ _ hi).trans ?_
  rw [vget_vset_self _ _ _ _ hi, otpWords_notZero (n := 12) hd hb, otpBytes_otpWords (n := 12) hd]
  rfl

/-! ### The end of the security commands (R471, R556, R559) -/

theorem State.modIface_sec (s : State) (i : Nat) (g : Iface → Iface) : (s.modIface i g).sec = s.sec := by
  unfold State.modIface State.setIface
  split
  · rfl
  · split <;> rfl

theorem sendReply_sec (o : Origin) (r : Reply) (s : State) : (sendReply o r s).sec = s.sec := by
  cases o with
  | direct => exact State.modIface_sec ..
  | ring n => rfl
  | mgmt ip port => exact State.modIface_sec ..
  | svc => rfl

theorem addJournal_sec (c : QCmd) (status : Nat) (s : State) : (addJournal c status s).sec = s.sec := by
  obtain ⟨-, -, -, -, -, -, -, -, -, -, -, -, -, hsec, -⟩ := addJournal_frame c status s
  exact hsec

theorem closeCommand_sec (c : QCmd) (j mute : Bool) (status offset : Nat) (data : List Byte) (s : State) :
    (closeCommand c j mute status offset data s).sec = s.sec := by
  unfold closeCommand
  extract_lets s1 _ s2
  have h1 : s1.sec = s.sec := by
    unfold s1
    split
    · exact addJournal_sec ..
    · rfl
  have h2 : (if mute then discardReply c.ifc s2 else sendReply c.origin (mkReply c status offset data) s2).sec = s1.sec := by
    split
    · exact State.modIface_sec ..
    · exact sendReply_sec ..
  exact h2.trans h1

theorem closeCommand_executing (c : QCmd) (j mute : Bool) (status offset : Nat) (data : List Byte) (s : State) :
    (closeCommand c j mute status offset data s).host.executing = none :=
  congrArg (fun r => r.2.2.1) (closeCommand_record c j mute status offset data s)

/-- A move of the lifecycle that burns fuses. -/
theorem lifecycleEnd_burned {e : Exec} {t : Nat} (ht : t ≠ 0) (ok : Bool) (s : State) :
    (lifecycleEnd e t ok s).sec.fuses = vset s.sec.fuses (fuseGroup t) 8 ∧ (lifecycleEnd e t ok s).host.executing = none
    ∧ (lifecycleEnd e t ok s).host.warmDue = true := by
  unfold lifecycleEnd
  extract_lets x s1 s2 s3 status s4 s5 s6
  have h1 : s1.sec.fuses = vset s.sec.fuses (fuseGroup t) 8 := congrArg (fun x : State => x.sec.fuses) (if_neg ht)
  clear_value s1
  have h2 : s2.sec = s1.sec := by
    unfold s2
    split <;> rfl
  clear_value s2
  have h3 : s3.sec = s2.sec := by
    unfold s3
    split <;> rfl
  clear_value s3
  have h4 : s4.sec = s3.sec := addJournal_sec ..
  clear_value s4
  have h5 : s5.sec = s4.sec := by
    unfold s5
    split <;> rfl
  clear_value s5
  have h6 : s6.sec = s5.sec := closeCommand_sec ..
  have hsec : s6.sec.fuses = vset s.sec.fuses (fuseGroup t) 8 := by rw [h6, h5, h4, h3, h2, h1]
  have hx : s6.host.executing = none := closeCommand_executing ..
  clear_value s6
  exact ⟨hsec, hx, rfl⟩

/-- The state in which a root command ends: its slot is programmed. -/
def rootProgrammed (i : Nat) (d : List Byte) (s : State) : State :=
  { s with sec := { s.sec with otp := { s.sec.otp with slots := vset s.sec.otp.slots i (otpWords d) } } }

theorem exec_commandComplete_lifecycle {dt : Ps} {s u : State} {e : Exec} {t : Nat} {ok : Bool} (hu : u = s.elapse dt) (hr : u.commandsRun = true)
    (he : u.host.executing = some e) (ho : e.op = .lifecycle t) : exec (.commandComplete dt ok) s = .next (lifecycleEnd e t ok u) := by
  subst hu
  refine congrArg Host.Outcome.next ((if_pos hr).trans ?_)
  rw [commandComplete, he]
  dsimp only
  rw [ho]

theorem exec_commandComplete_ownerRoot {dt : Ps} {s u : State} {e : Exec} {i : Nat} {d : List Byte} {ok : Bool} (hu : u = s.elapse dt)
    (hr : u.commandsRun = true) (he : u.host.executing = some e) (ho : e.op = .ownerRoot i d) :
    exec (.commandComplete dt ok) s = .next (finishCommand e.cmd true e.mute stOk 0 (be 1 i) (rootProgrammed i d u)) := by
  subst hu
  refine congrArg Host.Outcome.next ((if_pos hr).trans ?_)
  rw [commandComplete, he]
  dsimp only
  rw [ho]
  rfl

/-! ### The statement -/

theorem setMka_checks {s : State} {p : List Byte} (h0 : fld p 0 1 ≤ 4) (h1 : fld p 1 1 ≤ 1) (h2 : fld p 2 1 ≤ 2)
    (h3 : fld p 2 1 = 1 → 1 ≤ fld p 3 1 ∧ fld p 3 1 ≤ 32) : firstBad (cmdSecSetMka.checks s p) = none := by
  refine firstBad_eq_none_iff.2 fun x hx => ?_
  obtain rfl | rfl | rfl | rfl := by simpa only [cmdSecSetMka, List.mem_cons, List.not_mem_nil, or_false] using hx
  · exact inRange_iff.2 ⟨Nat.zero_le _, h0⟩
  · exact inRange_iff.2 ⟨Nat.zero_le _, h1⟩
  · exact inRange_iff.2 ⟨Nat.zero_le _, h2⟩
  · rw [Bool.or_eq_true, inRange_iff, bne_iff_ne]
    exact Decidable.not_or_of_imp h3

/-- The settings record of the host part, replaced. -/
def State.withSettings (s : State) (l : List Setting) : State := { s with host := { s.host with settings := l } }

theorem setMka_run {s : State} {i : Nat} {p : List Byte} (h : ¬ (fld p 0 1 = 4 ∧ i = 1)) : cmdSecSetMka.run s i p =
    .ok [] (applyMka p s.sys.lifecycle.domain (s.withSettings (recordSetting (mkaSetting p s.sys.lifecycle.domain) s.host.settings))) :=
  congrArg (CmdOut.ok []) (if_neg h)

theorem setMka_waits {s : State} {i : Nat} {p : List Byte} (h : fld p 0 1 = 4 ∧ i = 1) : cmdSecSetMka.run s i p =
    .ok [] (({ s with sec := { s.sec with mkaNext := some p } } : State).withSettings (recordSetting (mkaSetting p s.sys.lifecycle.domain) s.host.settings)) :=
  congrArg (CmdOut.ok []) (if_pos h)

/-- Settles O39: the commands by the equations of their bodies at each branch, the end of a move by `lifecycleEnd_burned`, and the end of a root
command by `owner_programmed`, for which the words of the OTP return the octets that they hold. -/
theorem securityCommandsTakeEffect : Obligations.SecurityCommandsTakeEffect := by
  unfold Obligations.SecurityCommandsTakeEffect
  refine ⟨?getLifecycle, ?moves, ?unlisted, ?trial, ?otherRoot, ?otherNonce, ?badSignature, ?root, ?full, ?firstRoot, ?denied, ?otherSlot,
    ?setMka, ?setMkaWaits, ?written, ?selected, ?statusNoCak, ?statusServer, ?status, ?moved, ?programmed, fun s => rfl, ?imageRoot⟩
  case getLifecycle =>
    intro dt q s u hu hr hp
    exact ⟨_, command_executed_of_parts (d := cmdSecGetLifecycle) hu hr rfl (by rw [hp]; rfl) rfl rfl rfl rfl rfl fun _ => rfl⟩
  case moves =>
    intro dt q s u n hu hr hm hl h5 hmv ht hn hnonce hroot hsig
    subst hn
    refine executing_of_run cmdSecSetLifecycle dt q s u hu hr ((secModes_iff _).2 hm) (beq_iff_eq.2 hl) (firstBad_upTo h5) _ _ ?_
    rw [setLifecycle_settled hmv ht, if_neg (not_not_intro hnonce), if_neg (not_not_intro hroot), hsig, spendNonce_spent hnonce]
    rfl
  case unlisted =>
    intro dt q s u hu hr hm hl h5 hmv
    exact refusedWith_of_effect hu hr ((secModes_iff _).2 hm) (beq_iff_eq.2 hl) (firstBad_upTo h5) (setLifecycle_unlisted hmv) nofun nofun
      (congrArg HostSt.journal (spendNonce_host _ _))
  case trial =>
    intro dt q s u t hu hr hm hl h5 hmv ht
    exact refusedWith_of_effect hu hr ((secModes_iff _).2 hm) (beq_iff_eq.2 hl) (firstBad_upTo h5) (setLifecycle_trial hmv ht) nofun nofun
      (congrArg HostSt.journal (spendNonce_host _ _))
  case otherRoot =>
    intro dt q s u n hu hr hm hl h5 hmv ht hn hnonce hroot
    subst hn
    refine refusedWith_of_effect (d := cmdSecSetLifecycle) (status := stBadParam) (offset := 17) hu hr ((secModes_iff _).2 hm) (beq_iff_eq.2 hl)
      (firstBad_upTo h5) ?_ nofun nofun rfl
    rw [setLifecycle_settled hmv ht, if_neg (not_not_intro hnonce), if_pos hroot, spendNonce_spent hnonce]
  case otherNonce =>
    intro dt q s u hu hr hm hl h5 hmv ht hnonce
    refine command_refused (d := cmdSecSetLifecycle) (status := stBadParam) (offset := 1) hu hr ((secModes_iff _).2 hm) (beq_iff_eq.2 hl)
      (firstBad_upTo h5) nofun nofun ?_
    rw [setLifecycle_settled hmv ht, if_pos hnonce]
    rfl
  case badSignature =>
    intro dt q s u n hu hr hm hl h5 hmv ht hn hnonce hroot hsig
    subst hn
    refine refusedWith_of_effect (d := cmdSecSetLifecycle) (status := stBadParam) (offset := 114) hu hr ((secModes_iff _).2 hm) (beq_iff_eq.2 hl)
      (firstBad_upTo h5) ?_ nofun nofun rfl
    rw [setLifecycle_settled hmv ht, if_neg (not_not_intro hnonce), if_neg (not_not_intro hroot), hsig, spendNonce_spent hnonce]
    rfl
  case root =>
    intro dt q s u n hu hr hm hl h3 hlc hs hn hnonce hroot hsig
    subst hn
    refine executing_of_run cmdSecSetOwnerRoot dt q s u hu hr ((secModes_iff _).2 hm) (beq_iff_eq.2 hl) (firstBad_upTo h3) _ _ ?_
    exact setOwnerRoot_signed (hs ▸ h3) (fun h => absurd h hlc) hs hnonce (by rw [if_neg hlc]; exact hroot) hsig
  case full =>
    intro dt q s u hu hr hm hl h3 hfull
    exact refusedWith_of_effect hu hr ((secModes_iff _).2 hm) (beq_iff_eq.2 hl) (firstBad_upTo h3) (setOwnerRoot_full hfull) nofun nofun
      (congrArg HostSt.journal (spendNonce_host _ _))
  case firstRoot =>
    intro dt q s u n hu hr hm hl h0 hlc hs hn hnonce hkey hsig
    subst hn
    refine executing_of_run cmdSecSetOwnerRoot dt q s u hu hr ((secModes_iff _).2 hm) (beq_iff_eq.2 hl) (firstBad_upTo (by omega)) _ _ ?_
    have h := setOwnerRoot_signed (i := q.ifc) (p := q.params) (s := u) (by omega) (fun _ => hs) (by omega) hnonce (by rw [if_pos hlc]; exact hkey)
      (by rw [h0, hkey]; exact hsig)
    rw [h0] at h
    exact h
  case denied =>
    intro dt q s u hu hr hm hl h3 hlc h1 hf
    exact refusedWith_of_effect hu hr ((secModes_iff _).2 hm) (beq_iff_eq.2 hl) (firstBad_upTo h3) (setOwnerRoot_denied hf hlc h1) nofun nofun
      (congrArg HostSt.journal (spendNonce_host _ _))
  case otherSlot =>
    intro dt q s u hu hr hm hl h3 hlc hf hs
    exact refusedWith_of_effect (d := cmdSecSetOwnerRoot) (status := stBadParam) (offset := 0) hu hr ((secModes_iff _).2 hm) (beq_iff_eq.2 hl)
      (firstBad_upTo h3) (setOwnerRoot_otherSlot hf hlc hs) nofun nofun (congrArg HostSt.journal (spendNonce_host _ _))
  case setMka =>
    intro dt q s u v hu hr hl h0 h1 h2 h3 hifc hv
    obtain ⟨hsys, hj, hi⟩ := applyMka_parts (j := q.ifc) u.sys.lifecycle.domain v hifc
    refine executed_of_run cmdSecSetMka dt q s u hu hr rfl (beq_iff_eq.2 hl) (setMka_checks h0 h1 h2 h3) _ _ ?_ true rfl ?_ ?_ ?_
    · rw [hv]
      exact setMka_run fun h => hifc h.1 h.2
    · rw [hsys, hv, hu]
      exact arrived_running hr
    · refine journalMustCommit_of_journal (hj.trans (by rw [hv])) (hu ▸ arrived_journal hr)
    · rw [hi, hv]
      rfl
  case setMkaWaits =>
    intro dt q s u hu hr hl h0 h1 h2 h3 hifc
    exact executed_settings (command_executed_of_parts hu hr rfl (beq_iff_eq.2 hl) (setMka_checks (by omega) h1 h2 h3)
      (setMka_waits ⟨h0, hifc⟩) rfl rfl rfl fun _ => rfl)
  case written =>
    intro p s k i hk h4 hi _ ha hu
    rw [applyMka_write hk hi ha hu]
    exact State.setMka_mka_self _ _ _ (by omega)
  case selected =>
    intro p s k i hk h4 hi ha hu
    rw [applyMka_select hk hi ha hu]
    exact newAssociation_written h4 _ _
  case statusNoCak =>
    intro dt q s u k x hu hr hl hk h4 hx hc
    subst hx
    refine command_executed (d := cmdSecGetMkaStatus) hu hr rfl (beq_iff_eq.2 hl) (firstBad_upTo (by omega)) ?_ rfl rfl
    rw [getMkaStatus_wan hk h4, keyServer_none hc]
    rfl
  case statusServer =>
    intro dt q s u k x hu hr hl hk h4 hx hc hp
    subst hx
    refine command_executed (d := cmdSecGetMkaStatus) hu hr rfl (beq_iff_eq.2 hl) (firstBad_upTo (by omega)) ?_ rfl rfl
    rw [getMkaStatus_wan hk h4, keyServer_lowest hc hp]
    rfl
  case status =>
    intro dt q s u k x hu hr hl hk h4 hx
    obtain ⟨⟨d, hd⟩, h1, hnone, hlow⟩ := keyServer_facts x u
    have hc := firstBad_upTo (v := fld q.params 0 1) (hi := 4) (o := 0) (by omega)
    by_cases hwan : k < 4
    · refine ⟨_, _, d, h1, hnone, hlow, fun _ => rfl, command_executed_of_parts (d := cmdSecGetMkaStatus) hu hr rfl (beq_iff_eq.2 hl) hc ?_ rfl rfl rfl fun _ => rfl⟩
      rw [getMkaStatus_wan hk hwan, ← hx, hd]
      rfl
    · have h44 : k = 4 := by omega
      subst h44
      refine ⟨_, (keyServer x u).2.draw.1, d + 1, h1, hnone, hlow, fun h => absurd h hwan,
        command_executed_of_parts (d := cmdSecGetMkaStatus) hu hr rfl (beq_iff_eq.2 hl) hc ?_ rfl rfl rfl fun _ => rfl⟩
      rw [getMkaStatus_mgmt hk, ← hx, hd]
      rfl
  case moved =>
    intro dt s u e t hu hr he ho h1 h5
    obtain ⟨hf, hx, hw⟩ := lifecycleEnd_burned (e := e) (t := t) (by omega) true u
    refine ⟨_, exec_commandComplete_lifecycle hu hr he ho, ?_, hw, hx⟩
    rw [hf]
    exact vget_vset_self _ _ _ _ (by rw [fuseGroup]; omega)
  case programmed =>
    intro dt s u e i d hu hr he ho hi hj hd hb
    have hj' : journalMustCommit (rootProgrammed i d u) = false := hj
    refine ⟨_, exec_commandComplete_ownerRoot hu hr he ho, ?_⟩
    rw [finishCommand_closes hj', closeCommand_sec]
    exact ⟨vget_vset_self _ _ _ _ hi, owner_programmed hi hd hb, rfl, closeCommand_executing ..⟩
  case imageRoot =>
    intro s
    constructor
    · rintro (h | h) <;> rw [imageRootNow, h]
    · rintro (h | h) <;> rw [imageRootNow, h] <;> simp only [selectedRoot, h]

end Sys2Proof.Machine
end

section
/-! SUPPORT. The end of BOOT: the mode of R579 at each row of its table, CMD_READY, the settings, and the statement on them (R357, R545, R578, R579,
R582, R603, R604). -/

namespace Sys2Proof.Machine

section

variable {s : State} (ok : Bool)

theorem bootEnd_running (hf : firmwareRuns s = true) (hm : s.sys.mode = .boot) (hc : s.host.cmdReady = false) :
    ∃ v, bootEnd ok s = modeAfterBoot ok v ∧ v.host.cmdReady = true := by
  refine ⟨startTrial { loadCatalogue (bootBundles s (loadSettings s)) with
    host := { (loadCatalogue (bootBundles s (loadSettings s))).host with cmdReady := true } }, ?_, ?_⟩
  · exact if_neg (by rw [hf, hm, hc]; exact Bool.false_ne_true)
  · unfold startTrial
    split <;> rfl

theorem bootEnd_idle (h : firmwareRuns s = false ∨ s.sys.mode ≠ .boot ∨ s.host.cmdReady = true) : bootEnd ok s = s := by
  refine if_pos ?_
  rw [Bool.or_eq_true, Bool.or_eq_true, Bool.not_eq_true', bne_iff_ne, or_assoc]
  exact h

/-! ### The mode (R545, R579) -/

theorem modeAfterBoot_fault (h : s.sys.lastReset = .fault) : modeAfterBoot ok s = enterSafe ok s := if_pos h

section

variable (hl : s.sys.lastReset ≠ .fault)
include hl

theorem modeAfterBoot_recovery (h : s.sys.bootedSvc = true) : modeAfterBoot ok s = changeMode .service false s := (if_neg hl).trans (if_pos h)

variable (hs : s.sys.bootedSvc = false)
include hs

theorem modeAfterBoot_commission (h : s.sys.lifecycle = .return ∨ s.sys.loaded = false ∨ s.sys.defaulted = true ∨ s.sys.runAtBoot = false
    ∨ s.sys.lastReset = .wdog ∧ 3 ≤ (recentWdog s).length) : modeAfterBoot ok s = changeMode .commission false s := by
  rw [modeAfterBoot, if_neg hl, if_neg (by rw [hs]; exact Bool.false_ne_true)]
  by_cases hset : s.sys.lifecycle = .return ∨ s.sys.loaded = false ∨ s.sys.defaulted = true ∨ s.sys.runAtBoot = false
  · rw [if_pos hset]
  · rw [if_neg hset, if_pos]
    rw [← or_assoc, ← or_assoc, ← or_assoc] at h
    exact h.resolve_left fun hx => hset (by rwa [← or_assoc, ← or_assoc])

theorem modeAfterBoot_runs (hr : s.sys.lifecycle ≠ .return) (hload : s.sys.loaded = true) (hd : s.sys.defaulted = false)
    (hb : s.sys.runAtBoot = true) (hw : s.sys.lastReset = .wdog → (recentWdog s).length < 3) : modeAfterBoot ok s = requestActive s := by
  rw [modeAfterBoot, if_neg hl, if_neg (by rw [hs]; exact Bool.false_ne_true), if_neg, if_neg]
  · exact fun h => absurd (hw h.1) (Nat.not_lt.2 h.2)
  · rw [hload, hd, hb]
    simpa using hr

end

theorem enterSafe_facts (s : State) : (enterSafe ok s).sys.mode = .safe ∧ (enterSafe ok s).integ.noInterface = !ok
    ∧ (enterSafe ok s).integ.safeSince = s.now ∧ (enterSafe ok s).host.cmdReady = ok
    ∧ (enterSafe ok s).integ.safeEntries = if s.integ.safeEntries = 0xFFFFFFFF#32 then 0xFFFFFFFF#32 else s.integ.safeEntries + 1 := by
  have hm := changeMode_mode .safe false { s with host := { s.host with cmdReady := ok } }
  have hh := (congrArg HostSt.cmdReady (changeMode_hostBase (m := .safe) nofun false { s with host := { s.host with cmdReady := ok } }) :)
  unfold enterSafe
  generalize changeMode .safe false { s with host := { s.host with cmdReady := ok } } = t at hm hh ⊢
  exact ⟨hm, rfl, rfl, hh, rfl⟩

theorem changeMode_cmdReady {m : Mode} (hm : m ≠ .dormant) (s : State) : (changeMode m false s).host.cmdReady = s.host.cmdReady :=
  (congrArg HostSt.cmdReady (changeMode_hostBase hm false s) :)

theorem requestActive_cmdReady (s : State) : (requestActive s).host.cmdReady = s.host.cmdReady := by
  unfold requestActive
  split
  · exact changeMode_cmdReady (by decide) s
  · split <;> rfl

theorem modeAfterBoot_cmdReady (h : s.sys.lastReset ≠ .fault) : (modeAfterBoot ok s).host.cmdReady = s.host.cmdReady := by
  rw [modeAfterBoot, if_neg h]
  split
  · exact changeMode_cmdReady (by decide) s
  · split
    · exact changeMode_cmdReady (by decide) s
    · split
      · exact changeMode_cmdReady (by decide) s
      · exact requestActive_cmdReady s

end

/-! ### The settings (R582, R603) -/

theorem startDefaulted_defaulted (s : State) : (startDefaulted s).sys.defaulted = true := by
  unfold startDefaulted
  split <;> rfl

/-- Settles O55: `modeAfterBoot` at each row of R579's table by its equations, of which `changeMode_mode` and `changeMode_hostBase` give the mode
and CMD_READY. -/
theorem bootEndsInItsMode : Obligations.BootEndsInItsMode := by
  unfold Obligations.BootEndsInItsMode
  refine ⟨?ends, ?idle, ?stuck, ?safe, ?service, ?commission, ?active, ?listen, ?ready, fun s ok hf hm hc => bootEnd_running ok hf hm hc, ?catalogue,
    ?defaults, ?loaded, ?trial⟩
  case ends =>
    intro dt s u ok hu _ _ _
    exact hu ▸ rfl
  case idle =>
    intro dt s u ok hu h
    subst hu
    exact congrArg Host.Outcome.next (bootEnd_idle ok h)
  case stuck =>
    refine fun s => ⟨fun h => ?_, ?_⟩
    · rw [firmwareRuns, h, Bool.not_true, Bool.and_false, Bool.false_and]
    · unfold readFuses
      extract_lets f l moved
      split
      · rfl
      · split <;> rfl
  case safe =>
    intro s ok _ hl
    obtain ⟨hm, hn, hs, -, he⟩ := enterSafe_facts ok s
    rw [modeAfterBoot_fault ok hl]
    exact ⟨hm, hn, hs, fun h => he.trans (if_neg h)⟩
  case service =>
    intro s ok hl hs
    rw [modeAfterBoot_recovery ok hl hs, changeMode_mode]
  case commission =>
    intro s ok hl hs h
    rw [modeAfterBoot_commission ok hl hs h, changeMode_mode]
  case active =>
    intro s ok hl hs hr hload hd hb hw hp
    rw [modeAfterBoot_runs ok hl hs hr hload hd hb hw, requestActive, if_pos (by rw [hp]; rfl), changeMode_mode]
  case listen =>
    intro s ok _ hl hs hr hload hd hb hw hp hst
    rw [modeAfterBoot_runs ok hl hs hr hload hd hb hw, requestActive, if_neg (by rw [hp]; exact Bool.false_ne_true), if_neg hst]
  case ready =>
    intro s ok
    refine ⟨fun h => modeAfterBoot_cmdReady ok h, fun h => ?_⟩
    obtain ⟨-, -, -, hc, -⟩ := enterSafe_facts ok s
    rw [modeAfterBoot_fault ok h, hc]
  case catalogue =>
    intro s k hk
    exact congrArg Engine.imem (vget_map ({} : Engine) {} _ _ hk)
  case defaults =>
    intro s h
    have hd := startDefaulted_defaulted s
    rw [loadSettings, h]
    exact ⟨hd, rfl, rfl, rfl⟩
  case loaded =>
    intro s c h
    rw [loadSettings, h]
    exact ⟨rfl, rfl, rfl, rfl, rfl⟩
  case trial =>
    intro s hd ht
    exact if_pos (by rw [hd, ht]; rfl)

end Sys2Proof.Machine
end

section
/-! SUPPORT. The update commands: the early checks of a header, the commands' bodies at the branches of their conditions, and the statement on them
(R597 to R599, R604, R607). -/

namespace Sys2Proof.Machine

theorem updModes_iff (m : Mode) : updModes m = true ↔ m = .commission ∨ m = .active ∨ m = .standby ∨ m = .service := by
  simp only [updModes, Bool.or_eq_true, beq_iff_eq, or_assoc]

/-! ### The header (R597) -/

/-- The statuses of the early checks. -/
theorem headerCheck_status {u : Otp} {h : List Byte} {st : Nat} (hs : headerCheck u h = some st) : 0x10 ≤ st ∧ st ≤ 0x13 := by
  revert hs
  unfold headerCheck
  extract_lets cls arb
  split_ifs
  · exact fun h => Option.some.inj h ▸ by decide
  · exact fun h => Option.some.inj h ▸ by decide
  · exact fun h => Option.some.inj h ▸ by decide
  · exact fun h => Option.some.inj h ▸ by decide
  · exact fun h => Option.some.inj h ▸ by decide
  · exact nofun

section

variable {u : Otp} {h : List Byte}

theorem headerCheck_magic (hm : h.take 4 ≠ ascii "PRTR") : headerCheck u h = some stImageClass :=
  if_pos (by rw [beq_false_of_ne hm]; rfl)

variable (hm : h.take 4 = ascii "PRTR") (hf : fld h 4 1 = 1)
include hm hf

theorem headerCheck_rollback (hc : hdrClass h = 1) (ht : fld h 6 2 = 0x7216) (hmin : fld h 8 1 ≤ 0xB0) (ha : fld h 10 2 < u.fwArb) :
    headerCheck u h = some stImageRollback := by
  rw [headerCheck, hm, hf, hc, ht, decide_eq_true hmin, Otp.counter, if_pos rfl, decide_eq_false (Nat.not_le.2 ha), Bool.and_false]
  rfl

theorem headerCheck_fit (hc : hdrClass h = 16) (hl : 4194048 < hdrLen h) : headerCheck u h = some stImageFit := by
  rw [headerCheck, hm, hf, hc]
  exact if_pos hl

end

/-! ### The commands' bodies (R597 to R599, R604) -/

section

variable {s : State} {i : Nat} {p : List Byte}

theorem updBegin_busy (h : s.upd.trialEnd.isSome = true ∨ s.upd.session.isSome = true ∨ s.upd.copy = true) :
    cmdUpdBegin.run s i p = .err stBusy := by
  refine if_pos ?_
  rw [Bool.or_eq_true, Bool.or_eq_true, or_assoc]
  exact h

theorem updBegin_checks (ht : s.upd.trialEnd = none) (hs : s.upd.session = none) (hc : s.upd.copy = false) :
    cmdUpdBegin.run s i p = match headerCheck s.sec.otp p with | some st => .err st | none => .long (.updBegin p) s :=
  if_neg (by rw [ht, hs, hc]; exact Bool.false_ne_true)

theorem updWrite_session {x : UpdSession} (hs : s.upd.session = some x) : cmdUpdWrite.run s i p =
    if x.lastWrite = some (fld p 0 4, p.drop 6) then .ok (be 4 x.received.length) s
    else if fld p 0 4 ≠ x.received.length then .bad 0
    else if hdrLen x.header < fld p 0 4 + (p.drop 6).length then .bad 4
    else .long (.updWrite (fld p 0 4) (p.drop 6)) s := by
  change (match s.upd.session with | none => CmdOut.err stBusy | some x => _) = _
  rw [hs]

theorem updWrite_idle (hs : s.upd.session = none) : cmdUpdWrite.run s i p = .err stBusy := by
  change (match s.upd.session with | none => CmdOut.err stBusy | some x => _) = _
  rw [hs]

theorem updEnd_session {x : UpdSession} (hs : s.upd.session = some x) : cmdUpdEnd.run s i p =
    if x.received.length ≠ hdrLen x.header then .bad 0
    else .long (.updEnd (fld p 0 1 % 2 = 1) (fld p 0 1 / 2 % 2 = 1) (if fld p 1 2 = 0 then 120 else fld p 1 2)) s := by
  change (match s.upd.session with | none => CmdOut.err stBusy | some x => _) = _
  rw [hs]

theorem updEnd_checks (h0 : fld p 0 1 ≤ 3) (hw : fld p 1 2 = 0 ∨ 10 ≤ fld p 1 2 ∧ fld p 1 2 ≤ 3600) : firstBad (cmdUpdEnd.checks s p) = none := by
  refine firstBad_eq_none_iff.2 fun x hx => ?_
  obtain rfl | rfl := by simpa only [cmdUpdEnd, List.mem_cons, List.not_mem_nil, or_false] using hx
  · exact inRange_iff.2 ⟨Nat.zero_le _, h0⟩
  · rw [Bool.or_eq_true, beq_iff_eq, inRange_iff]
    exact hw

theorem updConfirm_running {t : Ps} (ht : s.upd.trialEnd = some t) (h : s.now < t) : cmdUpdConfirm.run s i p = .long .updConfirm s := by
  change (match s.upd.trialEnd with | some t => _ | none => CmdOut.err stBusy) = _
  rw [ht]
  exact if_pos h

theorem updConfirm_over (h : ∀ t, s.upd.trialEnd = some t → t ≤ s.now) : cmdUpdConfirm.run s i p = .err stBusy := by
  change (match s.upd.trialEnd with | some t => _ | none => CmdOut.err stBusy) = _
  cases ht : s.upd.trialEnd with
  | none => rfl
  | some t => exact if_neg (Nat.not_lt.2 (h t ht))

end

/-- The copy's progress, of the free figure that gives it. -/
def copyProgress (u : UpdSt) (v : Nat) : Nat := if u.copy then v % 101 else 0

theorem copyProgress_facts (u : UpdSt) (v : Nat) : copyProgress u v ≤ 100 ∧ (u.copy = false → copyProgress u v = 0) := by
  unfold copyProgress
  split
  next h => exact ⟨Nat.le_of_lt_succ (Nat.mod_lt _ (by decide)), fun hc => absurd (h.symm.trans hc) nofun⟩
  next h => exact ⟨Nat.zero_le _, fun _ => rfl⟩

section

variable {q : Packet} (hl : q.params.length = 6 + fld q.params 4 2)
include hl

theorem updWrite_lenOk : cmdUpdWrite.lenOk q.params = true := beq_iff_eq.2 hl

theorem updWrite_length : (q.params.drop 6).length = fld q.params 4 2 := by
  rw [List.length_drop]
  omega

end

theorem updWrite_checks {s : State} {p : List Byte} (h1 : 1 ≤ fld p 4 2) (h2 : fld p 4 2 ≤ 16384) : firstBad (cmdUpdWrite.checks s p) = none := by
  refine firstBad_eq_none_iff.2 fun x hx => ?_
  obtain rfl := List.mem_singleton.1 hx
  exact inRange_iff.2 ⟨h1, h2⟩

/-- Settles O40: each command by the equations of its body at its branches; the early checks of a header by their equations. -/
theorem updateCommandsTakeEffect : Obligations.UpdateCommandsTakeEffect := by
  unfold Obligations.UpdateCommandsTakeEffect
  refine ⟨?begin, ?header, ?safe, ?busy, updModes_iff, fun u h hm => headerCheck_magic hm, fun u h hm hf hc ht hmin ha => headerCheck_rollback hm hf hc ht hmin ha,
    fun u h hm hf hc hl => headerCheck_fit hm hf hc hl, ?write, ?again, ?order, ?beyond, ?noSession, ?incomplete, ?complete, ?status, ?confirm,
    ?late, ?abort⟩
  case begin =>
    intro dt q s u hu hr hm hl ht hs hc hh
    refine executing_of_run cmdUpdBegin dt q s u hu hr hm (beq_iff_eq.2 hl) rfl _ _ ?_
    rw [updBegin_checks ht hs hc, hh]
  case header =>
    intro dt q s u st hu hr hm hl ht hs hc hh
    obtain ⟨h10, -⟩ := headerCheck_status hh
    have hb : st ≠ stBadParam := fun h => by rw [h] at h10; exact absurd h10 (by decide)
    have h := command_refused (d := cmdUpdBegin) (status := st) (offset := 0) hu hr hm (beq_iff_eq.2 hl) rfl (fun h => by rw [h] at h10; exact absurd h10 (by decide))
      (fun h => by rw [h] at h10; exact absurd h10 (by decide)) (by rw [updBegin_checks ht hs hc, hh, if_neg hb])
    rw [if_neg hb] at h
    exact h
  case safe =>
    intro dt q s u hu hr hm
    subst hu
    exact refusedWith_of_outcome cmdUpdBegin dt q s _ rfl hr stWrongMode 0 nofun nofun
      (cmdOutcome_badMode (arrived_admits (d := cmdUpdBegin) hr) (by rw [hm]; rfl))
  case busy =>
    intro dt q s u hu hr hm hl h
    exact command_refused (d := cmdUpdBegin) (status := stBusy) (offset := 0) hu hr hm (beq_iff_eq.2 hl) rfl nofun nofun (updBegin_busy h)
  case write =>
    intro dt q s u x o hu hr hm hl h1 h2 hs ho hlast hlen hfit
    subst ho
    refine executing_of_run cmdUpdWrite dt q s u hu hr hm (updWrite_lenOk hl) (updWrite_checks h1 h2) _ _ ?_
    rw [updWrite_session hs, if_neg hlast, if_neg (not_not_intro hlen), updWrite_length hl, if_neg (Nat.not_lt.2 hfit)]
  case again =>
    intro dt q s u x hu hr hm hl h1 h2 hs hlast
    refine command_executed (d := cmdUpdWrite) hu hr hm (updWrite_lenOk hl) (updWrite_checks h1 h2) ?_ rfl rfl
    rw [updWrite_session hs, if_pos hlast]
  case order =>
    intro dt q s u x hu hr hm hl h1 h2 hs hlast hlen
    refine command_refused (d := cmdUpdWrite) (status := stBadParam) (offset := 0) hu hr hm (updWrite_lenOk hl) (updWrite_checks h1 h2) nofun nofun ?_
    rw [updWrite_session hs, if_neg hlast, if_pos hlen]
    rfl
  case beyond =>
    intro dt q s u x hu hr hm hl h1 h2 hs hlast hlen hfit
    refine command_refused (d := cmdUpdWrite) (status := stBadParam) (offset := 4) hu hr hm (updWrite_lenOk hl) (updWrite_checks h1 h2) nofun nofun ?_
    rw [updWrite_session hs, if_neg hlast, if_neg (not_not_intro hlen), updWrite_length hl, if_pos hfit]
    rfl
  case noSession =>
    intro dt q s u hu hr hm hl h1 h2 hs
    exact command_refused (d := cmdUpdWrite) (status := stBusy) (offset := 0) hu hr hm (updWrite_lenOk hl) (updWrite_checks h1 h2) nofun nofun
      (updWrite_idle hs)
  case incomplete =>
    intro dt q s u x hu hr hm hl h0 hw hs hlen
    refine command_refused (d := cmdUpdEnd) (status := stBadParam) (offset := 0) hu hr hm (beq_iff_eq.2 hl) (updEnd_checks h0 hw) nofun nofun ?_
    rw [updEnd_session hs, if_pos hlen]
    rfl
  case complete =>
    intro dt q s u x hu hr hm hl h0 hw hs hlen
    refine executing_of_run cmdUpdEnd dt q s u hu hr hm (beq_iff_eq.2 hl) (updEnd_checks h0 hw) _ _ ?_
    rw [updEnd_session hs, if_neg (not_not_intro hlen)]
  case status =>
    intro dt q s u hu hr hm hp
    obtain ⟨h100, hnone⟩ := copyProgress_facts u.upd u.draw.1
    exact ⟨_, h100, hnone, command_executed_of_parts (d := cmdUpdGetStatus) hu hr hm (by rw [hp]; rfl) rfl rfl rfl rfl rfl fun _ => rfl⟩
  case confirm =>
    intro dt q s u t hu hr hm hp ht hlt
    exact executing_of_run cmdUpdConfirm dt q s u hu hr hm (by rw [hp]; rfl) rfl _ _ (updConfirm_running ht hlt)
  case late =>
    intro dt q s u hu hr hm hp h
    exact command_refused (d := cmdUpdConfirm) (status := stBusy) (offset := 0) hu hr hm (by rw [hp]; rfl) rfl nofun nofun (updConfirm_over h)
  case abort =>
    intro dt q s u hu hr hm hp
    exact executing_of_run cmdUpdAbort dt q s u hu hr hm (by rw [hp]; rfl) rfl _ _ rfl

end Sys2Proof.Machine
end

section
/-! SUPPORT. The banks under a change of the one that runs and of the other, the counters of the OTP, what the flash work of an update leaves, the
trial window, the images of a recovery boot, and the statement on them (R596, R598 to R606). -/

namespace Sys2Proof.Machine

/-! ### The banks (R597, R601) -/

section

variable (s : State) (b : Bank)

theorem setOtherBank_runBank : (s.setOtherBank b).upd.runBank = s.upd.runBank := by
  unfold State.setOtherBank
  split
  next h => exact (if_pos h).trans (if_pos h).symm
  next h => exact (if_neg h).trans (if_neg h).symm

theorem setRunBank_runBank : (setRunBank b s).upd.runBank = b := by
  unfold setRunBank
  split
  next h => exact if_pos h
  next h => exact if_neg h

theorem setRunBank_trialEnd : (setRunBank b s).upd.trialEnd = s.upd.trialEnd := by
  unfold setRunBank
  split <;> rfl

theorem setRunBank_sec : (setRunBank b s).sec = s.sec := by
  unfold setRunBank
  split <;> rfl

theorem setRunBank_host : (setRunBank b s).host = s.host := by
  unfold setRunBank
  split <;> rfl

end

/-! ### The counters (R596, R604) -/

/-- A counter goes up by the words programmed, as far as it has words. -/
theorem otpCount_otpRaise (n : Nat) (ws : List OtpWord) : otpCount (otpRaise n ws) = min (otpCount ws + n) ws.length := by
  have hle : ∀ ws : List OtpWord, otpCount ws ≤ ws.length := fun ws => List.length_filter_le _ ws
  induction ws generalizing n with
  | nil => cases n <;> exact (Nat.min_zero _).symm
  | cons w ws ih =>
    cases n with
    | zero => exact (Nat.min_eq_left (hle _)).symm
    | succ n =>
      have hones : otpCount (otpOnes :: otpRaise n ws) = otpCount (otpRaise n ws) + 1 := congrArg List.length (List.filter_cons_of_pos (by decide))
      rw [otpRaise]
      by_cases hw : otpProgrammed w = true
      · have hcount : ∀ l, otpCount (w :: l) = otpCount l + 1 := fun l => congrArg List.length (List.filter_cons_of_pos hw)
        rw [if_pos hw, hcount, hcount, ih, List.length_cons]
        omega
      · have hcount : otpCount (w :: ws) = otpCount ws := congrArg List.length (List.filter_cons_of_neg hw)
        rw [if_neg hw, hones, hcount, ih, List.length_cons]
        omega

/-- A counter raised to an ARB that its words can hold. -/
theorem otpCount_raised {ws : List OtpWord} {a : Nat} (hl : ws.length = 128) (ha : a ≤ 128) :
    otpCount (otpRaise (a - otpCount ws) ws) = max (otpCount ws) a := by
  have hle : otpCount ws ≤ ws.length := List.length_filter_le _ ws
  rw [otpCount_otpRaise]
  omega

theorem confirmTrial_sec (s : State) : (confirmTrial s).sec.otp.arbFw = otpRaise ((s.upd.running.1.map (·.arb)).getD 0 - s.sec.otp.fwArb) s.sec.otp.arbFw
    ∧ (confirmTrial s).sec.otp.arbCat = otpRaise ((s.upd.running.2.map (·.arb)).getD 0 - s.sec.otp.catArb) s.sec.otp.arbCat := by
  unfold confirmTrial
  extract_lets r1 fw cat o x y s1 b s2 c s3
  have h2 : s2.sec = s1.sec := setRunBank_sec ..
  have h3 : s3.sec = s2.sec := by
    unfold s3
    split
    · exact State.setOtherBank_sec ..
    · rfl
  rw [show (updEvent 3 (runNumber s3) s3).sec = s1.sec from h3.trans h2]
  exact ⟨rfl, rfl⟩

theorem confirmTrial_upd (s : State) : (confirmTrial s).upd.trialEnd = none ∧ (confirmTrial s).upd.runBank.state = .good := by
  unfold confirmTrial
  extract_lets r1 fw cat o x y s1 b s2 c s3
  have ht : s2.upd.trialEnd = none := setRunBank_trialEnd ..
  have hb : s2.upd.runBank.state = .good := congrArg Bank.state (setRunBank_runBank ..)
  have h3 : s3.upd.trialEnd = s2.upd.trialEnd ∧ s3.upd.runBank = s2.upd.runBank := by
    unfold s3
    split
    · exact ⟨State.setOtherBank_upd_trialEnd .., setOtherBank_runBank ..⟩
    · exact ⟨rfl, rfl⟩
  exact ⟨h3.1.trans ht, (congrArg Bank.state h3.2).trans hb⟩

/-! ### The end of a session's commands (R597 to R600) -/

section

variable {s : State} {x : UpdSession}

/-- The session of an update, replaced. -/
def State.withSession (s : State) (x : Option UpdSession) : State := { s with upd := { s.upd with session := x } }

theorem updBeginDone_code {h : List Byte} (hc : codeClass (hdrClass h) = true) (ifc : Nat) (s : State) : updBeginDone ifc h s =
    (s.withSession (some { ifc, header := h, cls := hdrClass h, received := [], lastWrite := none })).setOtherBank
      { s.otherBank with state := .writing, wrote := if s.otherBank.state = .writing then s.otherBank.wrote else [] } := if_pos hc

variable (hs : s.upd.session = some x)
include hs

theorem updWriteDone_code (hc : codeClass x.cls = true) (o : Nat) (d : List Byte) : updWriteDone o d s =
    (s.withSession (some { x with received := x.received ++ d, lastWrite := some (o, d) })).setOtherBank (eraseSlot x.cls s.otherBank) := by
  rw [updWriteDone, hs]
  dsimp only
  rw [hc]
  rfl

theorem updEndDone_bundle (hc : codeClass x.cls = false) (final auto : Bool) (w : Nat) : updEndDone final auto w s = (stOk, { s.withSession none with
    upd := { (s.withSession none).upd with bundles := vset s.upd.bundles (x.cls - 16) (some (x.header, x.received)) } }) := by
  rw [updEndDone, hs]
  dsimp only
  rw [hc]
  rfl

theorem updEndDone_refused (hc : codeClass x.cls = true) (hv : imageVerified s true (imageOf x.header x.received) = false) (final auto : Bool) (w : Nat) :
    updEndDone final auto w s = (stImageSignature, (s.withSession none).setOtherBank (eraseSlot x.cls s.otherBank)) := by
  have hv' : imageVerified (s.withSession none) true (imageOf x.header x.received) = false := hv
  rw [updEndDone, hs]
  dsimp only
  rw [hc]
  refine (if_neg Bool.false_ne_true).trans (if_pos ?_)
  rw [Bool.not_eq_true']
  exact hv'

/-- The other bank with a code image stored in its slot. -/
def imageStored (cls : Nat) (i : Image) (final : Bool) (b : Bank) : Bank := { b with
  fw := if cls = 1 then some i else b.fw, cat := if cls = 2 then some i else b.cat, wrote := cls :: b.wrote
  state := if final then .copying else .writing }

/-- An update whose copy begins, or not. -/
def State.withCopy (s : State) (final : Bool) (window : Nat × Bool) : State := { s with upd := { s.upd with copy := final, window := window } }

theorem updEndDone_stored (hc : codeClass x.cls = true) (hv : imageVerified s true (imageOf x.header x.received) = true) (auto : Bool) (w : Nat) :
    updEndDone true auto w s = (stOk, ((s.withSession none).setOtherBank (imageStored x.cls (imageOf x.header x.received) true s.otherBank)).withCopy true (w, auto)) := by
  have hv' : imageVerified (s.withSession none) true (imageOf x.header x.received) = true := hv
  rw [updEndDone, hs]
  dsimp only
  rw [hc]
  refine (if_neg Bool.false_ne_true).trans (if_neg ?_)
  rw [Bool.not_eq_true', Bool.not_eq_false]
  exact hv'

end

theorem codeClass_firmware {x : UpdSession} (h : x.cls = 1) : codeClass x.cls = true := by
  rw [h]
  rfl

theorem codeClass_bundle {x : UpdSession} (h : 16 ≤ x.cls) : codeClass x.cls = false := by
  rw [codeClass, beq_false_of_ne (by omega), beq_false_of_ne (by omega)]
  rfl

/-! ### The copy and the trial (R600, R604) -/

/-- The other bank at the end of a copy: what no session wrote comes from the images that run. -/
def bankCopied (s : State) : Bank := { s.otherBank with
  fw := if s.otherBank.wrote.contains 1 then s.otherBank.fw else s.upd.running.1
  cat := if s.otherBank.wrote.contains 2 then s.otherBank.cat else s.upd.running.2
  copies := #v[match s.upd.running.1 with | some f => (validCopy f s.upd.runBank).map (·.2) | none => none, none], state := .pending, wrote := [] }

/-- The end of a copy, noted. -/
def copyNoted (bank : Nat) (s : State) : State := updEvent 1 bank { s with upd := { s.upd with copy := false } }

theorem updateCopyDone_copied {s : State} (hc : s.upd.copy = true) (hb : s.otherBank.state = .copying) :
    updateCopyDone s = copyNoted (otherNumber s) (s.setOtherBank (bankCopied s)) := by
  refine (if_neg ?_).trans rfl
  rw [hc, hb]
  simp

theorem updateCopyDone_idle {s : State} (hc : s.upd.copy = false) : updateCopyDone s = s := if_pos (by rw [hc]; rfl)

theorem copyNoted_facts (bank : Nat) (s : State) : (copyNoted bank s).upd.copy = false ∧ (copyNoted bank s).otherBank = s.otherBank
    ∧ (copyNoted bank s).upd.runBank = s.upd.runBank ∧ (copyNoted bank s).upd.events.head? = some (s.stamp, 1, bank) := ⟨rfl, rfl, rfl, rfl⟩

section

variable {s : State} {t : Ps} (ht : s.upd.trialEnd = some t)
include ht

theorem trialWindowEnd_before (h : s.now < t) : trialWindowEnd s = s := by
  rw [trialWindowEnd, ht]
  exact if_pos (by rw [decide_eq_true h]; rfl)

variable (hd : t ≤ s.now) (he : s.host.executing = none)
include hd he

theorem trialWindowEnd_over : trialWindowEnd s = if s.upd.window.2 && s.sys.mode.aligns then confirmTrial s
    else resetEdge .warm (failTrial 1 { s with upd := { s.upd with trialEnd := none } }) := by
  rw [trialWindowEnd, ht, he]
  exact if_neg (by rw [decide_eq_false (Nat.not_lt.2 hd)]; exact Bool.false_ne_true)

end

theorem failTrial_facts (reason : Nat) (s : State) : (failTrial reason s).upd.runBank.state = .failed ∧ (failTrial reason s).sec = s.sec
    ∧ (failTrial reason s).host = s.host := by
  refine ⟨?_, setRunBank_sec _ _, setRunBank_host _ _⟩
  exact congrArg Bank.state (setRunBank_runBank s { s.upd.runBank with state := .failed })

/-- A reset keeps the banks and the OTP, and ends a trial (R583, R594). -/
theorem resetEdge_update (k : ResetKind) {s : State} (he : s.host.executing = none) : (resetEdge k s).upd.runBank = s.upd.runBank
    ∧ (resetEdge k s).upd.trialEnd = none ∧ (resetEdge k s).sec.otp = s.sec.otp := by
  obtain ⟨w, times, hw, hr⟩ := resetEdge_wiped k he
  have hu : (resetEdge k s).upd = updAfterReset s.upd := by rw [hr]; exact hw.upd
  have hs : (resetEdge k s).sec.otp = s.sec.otp := by
    rw [hr]
    change w.sec.otp = _
    rw [hw.sec]
  rw [hu, hs]
  exact ⟨rfl, rfl, rfl⟩

/-! ### The images of a recovery boot (R606) -/

section

variable {s : State} {f : List Byte} (hr : s.svcRuns = true) (hl : f.length ≤ 4106) (ho : svcFrameOk f = true)
include hr hl ho

theorem bastikImage_none (hn : s.upd.recovery = none) : bastikImage f s = svcNak (fld f 1 1) 2 s := by
  rw [bastikImage, hr, ho, hn]
  exact (if_neg Bool.false_ne_true).trans (if_neg (Nat.not_lt.2 hl))

theorem bastikImage_next {r : Recovery} (hn : s.upd.recovery = some r) (hq : svcSeq s.host.bastik (fld f 1 1) = .next) :
    bastikImage f s = imageFragment (fld f 1 1) (fld f 2 1) (slice f 6 (fld f 4 2)) r s := by
  rw [bastikImage, hr, ho, hn]
  dsimp only
  rw [hq]
  exact (if_neg Bool.false_ne_true).trans (if_neg (Nat.not_lt.2 hl))

end

/-- An IMAGE frame that is taken: acknowledged, and its number kept. -/
def imageTook (q : Nat) (s : State) : State :=
  svcAck q { s with host := { s.host with bastik := { s.host.bastik with lastRx := some (BitVec.ofNat 8 q) } } }

section

variable {flags : Nat} {r : Recovery} (hf : flags % 2 = 0) (hb : 256 ≤ r.buf.length)
include hf hb

theorem imageFragment_middle (hz : flags / 2 % 2 = 0) (q : Nat) (b : List Byte) (s : State) : imageFragment q flags b r s =
    imageTook q { s with upd := { s.upd with recovery := some { r with buf := r.buf ++ b } } } := by
  have hearly : ¬ (r.buf.length < 256 ∧ 256 ≤ (r.buf ++ b).length) := fun h => absurd h.1 (Nat.not_lt.2 hb)
  unfold imageFragment
  rw [hf, if_neg (by decide : ¬ (0 = 1))]
  dsimp only
  rw [if_neg hearly, if_pos hz]
  rfl

/-- The last fragment of the second image: both images run from DRAM. -/
theorem imageFragment_boots {f i : Image} {b : List Byte} {s : State} (hfw : r.fw = some f) (hz : flags / 2 % 2 = 1)
    (hlen : (r.buf ++ b).length = 256 + hdrLen ((r.buf ++ b).take 256)) (hi : i = imageOf ((r.buf ++ b).take 256) ((r.buf ++ b).drop 256))
    (hv : imageVerified s false i = true) (q : Nat) : imageFragment q flags b r s = updEvent 8 (runNumber s) (imageTook q { s with
      upd := { s.upd with recovery := none, dramImages := some (f, i) }, sys := { s.sys with bootedSvc := true, wdogAt := s.now } }) := by
  have hearly : ¬ (r.buf.length < 256 ∧ 256 ≤ (r.buf ++ b).length) := fun h => absurd h.1 (Nat.not_lt.2 hb)
  unfold imageFragment
  rw [hf, if_neg (by decide : ¬ (0 = 1))]
  dsimp only
  rw [if_neg hearly, if_neg (by omega : ¬ flags / 2 % 2 = 0), ← hi, hv, decide_eq_true hlen, hfw]
  rfl

end

/-- Settles O41: the ends of the commands by their equations over `State.setOtherBank`; a confirmation by `otpCount_raised`; a trial that fails by
`resetEdge_update`. -/
theorem updateEventsTakeEffect : Obligations.UpdateEventsTakeEffect := by
  unfold Obligations.UpdateEventsTakeEffect
  refine ⟨?begin, ?write, ?refused, ?stored, ?bundle, ?copied, ?noCopy, ?confirmed, ?confirms, ?fails, ?before, ?noRecovery, ?fragment, ?boots⟩
  case begin =>
    intro ifc h s hc
    rw [updBeginDone_code hc, State.setOtherBank_upd_session, State.setOtherBank_otherBank, setOtherBank_runBank]
    exact ⟨rfl, rfl, rfl⟩
  case write =>
    intro o d s x hs h1
    rw [updWriteDone_code hs (codeClass_firmware h1), State.setOtherBank_upd_session, State.setOtherBank_otherBank, setOtherBank_runBank, h1]
    exact ⟨rfl, rfl, rfl, rfl⟩
  case refused =>
    intro final auto w s x hs hc hv
    rw [updEndDone_refused hs hc hv, State.setOtherBank_upd_session, State.setOtherBank_upd_copy, setOtherBank_runBank]
    exact ⟨rfl, rfl, rfl, rfl⟩
  case stored =>
    intro auto w s x hs h1 hv
    have hb := State.setOtherBank_otherBank (s.withSession none) (imageStored x.cls (imageOf x.header x.received) true s.otherBank)
    rw [updEndDone_stored hs (codeClass_firmware h1) hv]
    refine ⟨rfl, congrArg Bank.state hb, rfl, (congrArg Bank.fw hb).trans (if_pos h1), rfl⟩
  case bundle =>
    intro final auto w s x hs h16 h18
    rw [updEndDone_bundle hs (codeClass_bundle h16)]
    exact ⟨rfl, rfl, vget_vset_self _ _ _ _ (by omega), rfl, rfl⟩
  case copied =>
    intro dt s u f c hu hp hc hb hrun
    obtain ⟨h1, h2, h3, h4⟩ := copyNoted_facts (otherNumber u) (u.setOtherBank (bankCopied u))
    rw [State.setOtherBank_otherBank] at h2
    refine ⟨copyNoted (otherNumber u) (u.setOtherBank (bankCopied u)), ?_, h1, ?_, ?_, ?_, ?_, ?_⟩
    · subst hu
      exact congrArg Host.Outcome.next ((if_pos ((faultsCount_iff _).2 hp)).trans (updateCopyDone_copied hc hb))
    · rw [h2, bankCopied]
    · rw [h3, setOtherBank_runBank]
    · rw [h2, bankCopied, hrun]
      simp only [List.contains_iff_mem]
    · rw [h2, bankCopied, hrun]
      simp only [List.contains_iff_mem]
    · rw [h4]
      unfold State.setOtherBank
      split <;> rfl
  case noCopy =>
    intro dt s u hu hc
    subst hu
    refine congrArg Host.Outcome.next ?_
    rw [updateCopyDone_idle hc, ite_self]
  case confirmed =>
    intro s fw cat hrun hfw hcat ha hc
    obtain ⟨h1, h2⟩ := confirmTrial_sec s
    obtain ⟨h3, h4⟩ := confirmTrial_upd s
    rw [hrun] at h1 h2
    refine ⟨?_, ?_, h3, h4⟩
    · rw [Otp.fwArb, h1]
      exact otpCount_raised hfw ha
    · rw [Otp.catArb, h2]
      exact otpCount_raised hcat hc
  case confirms =>
    intro dt s u t hu hp ht hd he hw hm
    have hal : (u.upd.window.2 && u.sys.mode.aligns) = true := by
      rw [hw]
      obtain h | h := hm <;> rw [h] <;> rfl
    subst hu
    refine congrArg Host.Outcome.next ((if_pos ((faultsCount_iff _).2 hp)).trans ?_)
    rw [trialWindowEnd_over ht hd he, if_pos hal]
  case fails =>
    intro dt s u t hu hp ht hd he hw
    have hal : (u.upd.window.2 && u.sys.mode.aligns) = false := by
      obtain h | h := hw <;> rw [h]
      · exact Bool.false_and _
      · exact Bool.and_false _
    obtain ⟨hfail, hsec, hhost⟩ := failTrial_facts 1 { u with upd := { u.upd with trialEnd := none } }
    obtain ⟨hb, hte, hotp⟩ := resetEdge_update .warm (s := failTrial 1 { u with upd := { u.upd with trialEnd := none } }) (by rw [hhost]; exact he)
    refine ⟨_, ?_, (resetEdge_held _ _).1, (congrArg Bank.state hb).trans hfail, hte, hotp.trans (congrArg SecSt.otp hsec)⟩
    subst hu
    refine congrArg Host.Outcome.next ((if_pos ((faultsCount_iff _).2 hp)).trans ?_)
    rw [trialWindowEnd_over ht hd he, if_neg (by rw [hal]; exact Bool.false_ne_true)]
  case before =>
    intro dt s u t hu ht hlt
    subst hu
    refine congrArg Host.Outcome.next ?_
    rw [trialWindowEnd_before ht hlt, ite_self]
  case noRecovery =>
    intro dt s u f hu hr hl ho hn
    subst hu
    exact congrArg Host.Outcome.next (bastikImage_none hr hl ho hn)
  case fragment =>
    intro dt s u f r hu hr hl ho hn hq hz hb
    subst hu
    refine congrArg Host.Outcome.next ((bastikImage_next hr hl ho hn hq).trans ?_)
    rw [hz]
    exact imageFragment_middle rfl hb rfl _ _ _
  case boots =>
    intro q flags b r s f i hfw hz hf hb hlen hi hv
    rw [imageFragment_boots hf hb hfw hz hlen hi hv]
    exact ⟨rfl, rfl, rfl⟩

end Sys2Proof.Machine
end
